-- ==== Sys2Proof/Word.lean ====
section
/-! DEFINITION. The word types of the hub (R6: 32-bit words, bytes, little-endian structures) and their plainest arithmetic. -/

namespace Sys2Proof

/-- A byte of a structure, of host memory or of flash. -/
abbrev Byte := BitVec 8
/-- A 32-bit word: registers, descriptor words, packet words (R6). -/
abbrev W32 := BitVec 32
/-- A 64-bit value held in two words (R7). -/
abbrev W64 := BitVec 64

/-- A count that stops at its maximum and does not wrap (R56, R90, R110, ...). -/
def W32.satAdd (w : W32) (n : Nat) : W32 :=
  BitVec.ofNat 32 (min (w.toNat + n) 0xFFFFFFFF)

/-- Bits [31:0] of a value. -/
def W32.lo (v : Nat) : W32 := BitVec.ofNat 32 v
/-- Bits [63:32] of a value. -/
def W32.hi (v : Nat) : W32 := BitVec.ofNat 32 (v / 4294967296)

end Sys2Proof
end

