-- ==== Sys2Proof/Syntax.lean ====
section
/-! DEFINITION. The commands the block takes (one constructor per row of spec/opcode_table.json) and the operands they bring. -/

namespace Sys2Proof

/-- A strobe group (R35). -/
inductive Group where
  | a | b
deriving DecidableEq, Repr

/-- A Utina port (chapter 10); register index p is 0, 1, 2. -/
inductive Port where
  | head | tail | twin
deriving DecidableEq, Repr

/-- The path of a register access: PCI Express or the side-band port (R475, R477). -/
inductive Path where
  | host | sideband
deriving DecidableEq, Repr

/-- The cause of a WARM reset, DETAIL of the WARM_RESET record (Table 19-3). -/
inductive ResetSource where
  | pin | host | sideband | hibExit
deriving DecidableEq, Repr

/-- A source of an event at a group's strobe input (R43). -/
inductive EventSource where
  | gpioA (rising : Bool) | gpioB (rising : Bool) | peer
deriving DecidableEq, Repr

/-- Why a received frame was rejected (R258). -/
inductive RejectCause where
  | crc | ahead | tag | duplicate
deriving DecidableEq, Repr

/-- A 66-bit block (R251): its sync header, 0b01 for data and 0b10 for control, which is sent first, and its 64 bits. -/
structure Block where
  hdr  : BitVec 2
  data : BitVec 64
deriving DecidableEq, Repr

/-- A frame as its blocks arrive on the two data lanes of the receiver (R252), before skew, swap and polarity are put right: per lane the last 58 scrambled bits before them (bit 0 the latest) and the blocks, scrambled; the lane that arrives later shows as many blocks of what stood before the frame as the skew. onLane1: the frame's first block left on the sender's lane 1. counter: the transmission counter it is opened with (R272), which the link does not carry. -/
structure RxFrame where
  before0 : BitVec 58
  before1 : BitVec 58
  onLane1 : Bool
  lane0   : List Block
  lane1   : List Block
  counter : Nat
deriving DecidableEq, Repr

/-- What DESKEW sees of the TRAIN blocks of one lane (R252): their type byte and the lane number they carry, as they arrive. -/
structure LaneReport where
  typ     : Byte
  number  : Byte
deriving DecidableEq, Repr

/-- Two consecutive ALIGN pairs as they arrive (R252): the block positions of the first and the second on each lane, and the lane number each lane's ALIGN blocks carry, as it arrives. -/
structure AlignPairs where
  first0  : Nat
  second0 : Nat
  first1  : Nat
  second1 : Nat
  number0 : Byte
  number1 : Byte
deriving DecidableEq, Repr

/-- A soak frame as it arrives in a rate trial (R266): its CRC is right, and the invalid headers met with it. -/
structure SoakFrame where
  crcGood        : Bool
  invalidHeaders : Nat
deriving DecidableEq, Repr

/-- The bits a port receives on each lane in BLOCK_LOCK (R265). -/
structure LockBits where
  port  : Port
  lane0 : List Bool
  lane1 : List Bool
deriving DecidableEq, Repr

/-- The headers of 64 consecutive blocks of one lane of a port (R269). -/
structure HeaderWindow where
  port    : Port
  headers : List (BitVec 2)
deriving DecidableEq, Repr

/-- What the chirp detector samples on the receive clock lane of a port, one sample a Cricket clock (R276). -/
structure ClockSamples where
  port    : Port
  samples : List Bool
deriving DecidableEq, Repr

/-- An edge on a wake pin (R411): GPIO_B or GPIO_A, rising or falling. -/
structure WakeEdge where
  pinB   : Bool
  rising : Bool
deriving DecidableEq, Repr

/-- Unit-fatal causes, Table 19-4. -/
inductive FatalCause where
  | corePll | cnvPll | ctrlEcc | schedWdg | supply | injected
deriving DecidableEq, Repr

/-- What the analogue die shows at a strobe edge: the pin voltages in µV (an input not listed is at 0 V), what the hold capacitors hold in µV (R27; hold of slot k of core n is number 16 n + k), the sense voltages from EXC_PS to EXC_NS in µV (signed), the output currents in µA, the outputs whose current limiter is engaged, and the pump rail magnitude in µV. -/
structure EdgeSample where
  pinUv   : List (Nat × Int)
  holdUv  : List (Nat × Int)
  senseUv : List (Nat × Int)
  outUa   : List (Nat × Nat)
  limited : List Nat
  railUv  : Nat
deriving DecidableEq, Repr

/-- What a flash device's SFDP table shows (R427): whether it is valid, names 4-byte addressing, page program, and erase of 4 KiB and 64 KiB; the device's bytes and those of a page; the widest I/O (0 single, 1 dual, 2 quad), and the highest clock in MHz. -/
structure SfdpReport where
  valid    : Bool
  addr4    : Bool
  programs : Bool
  erases   : Bool
  bytes    : Nat
  page     : Nat
  io       : Nat
  clkMhz   : Nat
deriving DecidableEq, Repr

/-- What the block finds in the start-up step that ends: inputs that moved in the open-wire check (R87), the flash devices (R427), how many µs the step took (BOOT_TIME_US, R452), whether the device of each slot read without an error (R447), and whether the vault's image passed its check (R379). -/
structure StepReport where
  moved     : List Nat
  deviceA   : SfdpReport
  deviceB   : SfdpReport
  elapsedUs : Nat
  imageAOk  : Bool
  imageBOk  : Bool
  vaultOk   : Bool
deriving DecidableEq, Repr

/-- SYNC payload (Table 9-1); times in 1/65,536 ns; retry: sent again by link retry (R227). -/
structure SyncMsg where
  seqId  : BitVec 16
  epoch  : BitVec 16
  state  : Fin 4
  synt   : Bool
  hops   : BitVec 12
  t1     : Nat
  rootId : BitVec 16
  retry  : Bool
deriving DecidableEq, Repr

/-- DELAY_REQ payload (Table 9-1). -/
structure DelayReq where
  seqId : BitVec 16
  epoch : BitVec 16
  retry : Bool
deriving DecidableEq, Repr

/-- DELAY_RESP payload (Table 9-1); t4 in 1/65,536 ns. -/
structure DelayResp where
  seqId : BitVec 16
  epoch : BitVec 16
  t4    : Nat
  retry : Bool
deriving DecidableEq, Repr

/-- Line trigger frame payload (Table 7-6); tq is T_TRIG with its fraction, in 1/65,536 ns. -/
structure LineTrig where
  cls      : Fin 16
  hopsLeft : BitVec 16
  origin   : BitVec 16
  epoch    : BitVec 16
  seq      : W32
  tq       : Nat
deriving DecidableEq, Repr

/-- IDENT payload (Table 10-4). -/
structure IdentFrame where
  port     : Port
  maxRate  : Nat
  secure   : Bool
  nodeId   : BitVec 16
  unitB    : Bool
  nextRx   : BitVec 12
  identity : BitVec 128
deriving DecidableEq, Repr

/-- DIGEST payload (Table 13-3): words 4 to 67 in cores. -/
structure DigestFrame where
  group    : Group
  frame    : Nat
  strobeNs : W32
  cores    : List W32
deriving DecidableEq, Repr

/-- HEALTH payload (Table 13-4). -/
structure HealthFrame where
  role         : BitVec 4
  reasons      : BitVec 16
  epoch        : BitVec 16
  linkDiscard  : Bool
  swapPending  : Bool
  excStuckSelf : Bool
  relinquish   : Bool
  firmware     : W32
  trigSeq      : W32
  cfgHash      : BitVec 256
  lastA        : W64
  lastB        : W64
  failCores    : W64
deriving DecidableEq, Repr

/-- STREAM_SYNC entry (Table 13-6). -/
structure SyncEntry where
  kind   : Fin 4
  cause  : Byte
  detail : Byte
  index  : Fin 64
  seq    : W32
  first  : Nat
  frames : Nat
deriving DecidableEq, Repr

/-- MAINS frame (R350): T_a in 1/65,536 ns and the apply frames of groups A and B. -/
structure MainsFrame where
  ta : Nat
  fA : Nat
  fB : Nat
deriving DecidableEq, Repr

/-- A write to the nudge window (R285): its offset and how many bytes it writes. -/
structure NudgeWrite where
  offset : Nat
  bytes  : Nat
deriving DecidableEq, Repr

/-- What the host sets in the configuration space (R283, Table 11-1, R307): Bus Master Enable, MSI-X Enable and Function Mask, maximum payload and maximum read request size in bytes. -/
structure PcieControl where
  busMaster  : Bool
  msixEnable : Bool
  msixMask   : Bool
  maxPayload : Nat
  maxRead    : Nat
deriving DecidableEq, Repr

/-- A request to the register window (R472): address of the first DW, its data words (for a read: how many), byte enables of the first and the last DW. -/
structure RegRequest where
  addr  : Nat
  data  : List W32
  first : BitVec 4
  last  : BitVec 4
deriving DecidableEq, Repr

/-- A side-band frame as received (Table 17-1): its bit count, the fields of words 0 and 1, COUNTER, DATA and TAG; early: it started before the response to the previous frame was ready (R424). -/
structure SbFrame where
  bits    : Nat
  cmd     : Byte
  nwords  : Byte
  param   : BitVec 16
  addr    : W32
  counter : W64
  data    : List W32
  tag     : List Byte
  early   : Bool
deriving DecidableEq, Repr


/-- The commands of the hub, one per row of spec/opcode_table.json. -/
inductive Instr where
  /-- POR (R10). A power-on or the power-on reset pin resets the whole part, including the Cricket domain, and starts the full start-up sequence. -/
  | por
  /-- WARM (R10). A host or side-band command, or the warm reset pin, resets everything except the Cricket domain and the vault, and start-up resumes from step 2. -/
  | warm (src : ResetSource)
  /-- VAULT_RESET (R379). An authorised vault command or the vault watchdog restarts the vault through image check, sealed-set load and a VAULT_RESET audit entry. -/
  | vaultReset (imageOk : Bool)
  /-- STARTUP_STEP_END (R445). A start-up step that took time ends and the next step of Table 18-2 begins, ending at READY. -/
  | startupStepEnd (rep : StepReport)
  /-- SUPPLY_TIMEOUT (R443). A supply group is not in regulation 50 ms after its enable rises; both enables are driven low and a retry is scheduled. -/
  | supplyTimeout
  /-- SUPPLY_RETRY (R443). One second after a supply timeout or a step 3 or 4 overrun, start-up begins again from step 2. -/
  | supplyRetry
  /-- STEP_OVERRUN (R446). A start-up step runs past its limit; STEP_OVERRUN is set and the step-specific fallback is taken. -/
  | stepOverrun
  /-- ROLE_RESOLUTION (R451). At its resolution time an UNRESOLVED twin samples twin-alive-in and becomes ACTIVE or STANDBY_UNFIT. -/
  | roleResolution (edgeSeen : Bool)
  /-- STROBE_EDGE (R37). A schedule-mode grid instant falls due; every hold of the group closes, the excitation sense holds are taken and faults judged at the edge are decided. -/
  | strobeEdge (g : Group) (e : EdgeSample)
  /-- STROBE_EVENT (R45). An event from a GPIO or the peer group reaches a group's strobe input and is accepted, skipped or coalesced. -/
  | strobeEvent (g : Group) (sources : List EventSource)
  /-- EVENT_STROBE_EDGE (R44). The event-to-strobe delay after an accepted event expires and the group's strobe edge falls. -/
  | eventStrobeEdge (g : Group) (e : EdgeSample)
  /-- STARVED (R48). An event-mode group goes 10 ms without an accepted event; STARVED is set and one NOTICE raised. -/
  | starved (g : Group)
  /-- CONVERSION_DONE (R32). A core's 400 ns conversion window ends, yielding a trimmed code, or a timeout result. -/
  | conversionDone (n : Fin 64) (slot : Fin 12) (noise : Nat) (completed : Bool)
  /-- FRAME_READY (R33). A group's frame reaches its ready time; results enter the Hive and the filter chains, and the frame completes. -/
  | frameReady (g : Group)
  /-- MAINS_CROSSING_TIMEOUT (R131). No crossing arrives within two nominal periods; the measurement is invalid and the crossing chain restarts. -/
  | mainsCrossingTimeout
  /-- MAINS_ACCEPT (R132). The management engine takes a completed measurement and updates the accepted period and tracking state. -/
  | mainsAccept
  /-- MAINS_STATE_TIMER (R132). HOLDOVER or ACQUIRING has lasted 10 s without a break and one DEGRADED error is raised. -/
  | mainsStateTimer
  /-- MAINS_WEIGHT_APPLY (R135). A new accepted period takes effect at the group's frame boundary with new N and F on every tracking stage. -/
  | mainsWeightApply (g : Group)
  /-- TRIGGER_OUT_END (R177). The trigger-out pulse reaches TOUT_WIDTH after the last firing and the pin returns low. -/
  | triggerOutEnd
  /-- TRIGGER_IN_EDGE (R175). An edge on a settled trigger-in pin delivers a trigger with its converter-clock time stamp. -/
  | triggerInEdge (v : Fin 2) (rising : Bool)
  /-- CAPTURE_WINDOW_END (R178). The ready time of a capture window's last grid frame passes and the unit returns to ARMED or IDLE. -/
  | captureWindowEnd (u : Fin 16)
  /-- CAPTURE_COPY_DONE (R188). A capture copy job finishes, writes its record to host memory and posts the completion. -/
  | captureCopyDone (u : Fin 17)
  /-- PACKET_MAX_AGE (R147). MAX_AGE ms pass since an open packet's first frame and the packet closes. -/
  | packetMaxAge (x : Fin 64)
  /-- GAP_RECORD_WRITE (R154). Free space reaches the largest packet after an overflow and one gap record is written in place of the lost frames. -/
  | gapRecordWrite (x : Fin 64)
  /-- PACKET_COMPRESSED (R202). A lane finishes compressing a stream payload, which replaces the original or falls back to it. -/
  | packetCompressed (lane : Fin 4) (eccError : Bool)
  /-- CMP_BYPASS (R204). No lane has taken a closed packet 100 µs after its close and the packet is sent uncompressed. -/
  | cmpBypass (x : Fin 64)
  /-- PACKET_SIGNED (R388). Svetron completes a packet's signature and the packet becomes eligible for DMA in SEQ order. -/
  | packetSigned (x : Fin 64)
  /-- PACKET_DMA_DONE (R151). A packet has been written into a posted stream buffer, which retires with its completion when full or flushed. -/
  | packetDmaDone (x : Fin 64)
  /-- STATS_INTERVAL_END (R159). A reporting interval on the Firefly grid ends and its statistics become a completed interval. -/
  | statsIntervalEnd
  /-- PROTECTION_OPEN (R62). An input pin leaves ±2.2 V and its protection switch opens within 1 µs. -/
  | protectionOpen (i : Fin 512) (positive : Bool)
  /-- PROTECTION_CLOSE (R62). An input pin has been inside ±2.0 V for 10 µs and its protection switch closes. -/
  | protectionClose (i : Fin 512)
  /-- PULSE_START (R67). An excitation pulse falls due and the output enters INRUSH, or the pulse is suppressed. -/
  | pulseStart (m : Fin 32) (midUv : Int)
  /-- POLARITY_CHECK (R81). At 500 ns into a pulse the sense sign is compared with the commanded polarity and the output closes its loop or goes to REVERSED. -/
  | polarityCheck (m : Fin 32) (senseUv : Int)
  /-- INRUSH_END (R80). 20 µs after pulse start the output leaves INRUSH for PULSE and its limit drops to 40 mA. -/
  | inrushEnd (m : Fin 32)
  /-- PULSE_END (R80). A pulse reaches its end and the output returns to IDLE, or to SHORT for a short pulse limited through its final 1 µs. -/
  | pulseEnd (m : Fin 32) (limited : Bool)
  /-- SHORT_DETECT (R84). An output's limiter has been engaged for 10 µs outside inrush and the output goes to SHORT with a DEGRADED error. -/
  | shortDetect (m : Fin 32)
  /-- RETRY_ELAPSED (R80). RETRY × 100 ms pass after a short or reversal and the output returns to IDLE for a retry pulse. -/
  | retryElapsed (m : Fin 32)
  /-- OPEN_SENSE_TEST_END (R84). The 1,500 ns open-sense test after a diagnostic frame's pulse ends and its result updates OPEN_SENSE. -/
  | openSenseTestEnd (m : Fin 32) (ran : Bool) (shiftPUv shiftNUv : Nat)
  /-- PUMP_READY (R76). The charge pump becomes ready and outputs waiting in WAIT_PUMP go to IDLE. -/
  | pumpReady
  /-- PUMP_SAG_TIMEOUT (R77). A pump sag lasts 100 µs without a break and every running pulse ends. -/
  | pumpSagTimeout
  /-- SEIZE_ASSERT (R82). The seize input is asserted; force pins go to Z within 1 µs and the twin role becomes SEIZED. -/
  | seizeAssert
  /-- SEIZE_RELEASE (R82). The seize input is released; outputs go to DISABLED and a twin becomes STANDBY_UNFIT. -/
  | seizeRelease
  /-- SHORT_SEEN_REARM (R80). A write of 1 to SHORT_SEEN clears it and, with RETRY 0, re-arms a SHORT output to IDLE. -/
  | shortSeenRearm (m : Fin 32)
  /-- REVERSED_SEEN_REARM (R80). A write of 1 to REVERSED_SEEN clears it and, with RETRY 0, re-arms a REVERSED output to IDLE. -/
  | reversedSeenRearm (m : Fin 32)
  /-- OW_TEST_START (R88). A write of START to OW_TEST starts the open-wire check while both groups are STOPPED, or sets REFUSED. -/
  | owTestStart
  /-- OW_TEST_END (R88). A requested open-wire check ends, updates AIN_OPEN_BOOT and sets DONE. -/
  | owTestEnd (moved : List Nat)
  /-- NUDGE (R285). A write to NUDGE requests one doorbell fetch. -/
  | nudge (writes : List NudgeWrite)
  /-- DB_POLL (R288). The DB_POLL_US interval expires and the hub makes a doorbell fetch. -/
  | dbPoll
  /-- DOORBELL_FETCH (R288). The read of the doorbell page completes, updating tails and heads, stopping rings with invalid tails and posting waiting completions. -/
  | doorbellFetch (readOk : Bool)
  /-- DESCRIPTOR_FETCH (R301). A descriptor read completes; the descriptor is checked, counted in flight and dispatched to its opcode. -/
  | descriptorFetch (r : Fin 64) (readOk : Bool)
  /-- CQ_MODERATION_TIMER (R300). MOD_TIME_US passes since the first pending counting completion and the interrupt is sent. -/
  | cqModerationTimer (q : Fin 64)
  /-- ENGINE_HOLD_TIMEOUT (R302). An engine descriptor has been held longer than MGMT_HOLD_MS and retires with ENGINE_TIMEOUT. -/
  | engineHoldTimeout (id : Nat)
  /-- SQ_ENABLE (R290). A write of ENABLE 1 to SQ_CTRL enables a submission ring and zeroes its fetch count, or sets SETUP_ERROR_SEEN. -/
  | sqEnable (r : Fin 64) (v : W32)
  /-- SQ_DISABLE (R292). A write of ENABLE 0 to SQ_CTRL stops fetching and retires or completes the ring's fetched descriptors. -/
  | sqDisable (r : Fin 64)
  /-- CQ_ENABLE (R290). A write of ENABLE 1 to CQ_CTRL enables a completion ring and zeroes its post count. -/
  | cqEnable (q : Fin 64) (v : W32)
  /-- CQ_DISABLE (R291). A write of ENABLE 0 to CQ_CTRL disables a completion ring unless an enabled submission ring names it. -/
  | cqDisable (q : Fin 64)
  /-- PCIE_CONVENTIONAL_RESET (R307). A PERST#, hot reset, link disable or link loss resets the HOSTIF registers, drops descriptors in flight and rolls back transactions. -/
  | pcieConventionalReset
  /-- NOP (R295). The NOP opcode retires with no effect. -/
  | nop (id : Nat)
  /-- FENCE (R304). The FENCE opcode retires after every earlier descriptor on its ring has retired. -/
  | fence (id : Nat)
  /-- CFG_BEGIN (R308). CFG_BEGIN opens a configuration transaction with a shadow copy and returns its ID. -/
  | cfgBegin (id : Nat)
  /-- CFG_WRITE (R312). CFG_WRITE takes a buffer of field records into the shadow whole, or refuses it as INVALID or LOCKED. -/
  | cfgWrite (id : Nat)
  /-- CFG_COMMIT (R315). CFG_COMMIT validates the shadow and either refuses it with a status or stages it and arms a flip. -/
  | cfgCommit (id : Nat) (bankOk : Bool)
  /-- CFG_ROLLBACK (R314). CFG_ROLLBACK discards the shadow and closes the transaction. -/
  | cfgRollback (id : Nat)
  /-- CFG_TXN_TIMEOUT (R309). An open transaction goes 60 s without a naming descriptor and is rolled back with a NOTICE. -/
  | cfgTxnTimeout
  /-- HELD_COMMIT_VALIDATE (R319). A CFG_COMMIT that waited for a HELD group to restart is validated. -/
  | heldCommitValidate (id : Nat) (bankOk : Bool)
  /-- CFG_FLIP (R317). An armed flip reaches a group's or the commit's frame boundary and the new bank takes effect, or APPLY_FAILED makes the configuration BAD. -/
  | cfgFlip (confirmed : Bool)
  /-- HELD_RESTART (R321). The 500 µs load of a commit with gap ends and the HELD group restarts under R40. -/
  | heldRestart (g : Group)
  /-- LIVE_BANK_ECC (R325). An uncorrectable error in the live bank makes the configuration BAD with cause LIVE_ECC. -/
  | liveBankEcc
  /-- CFG_STORE_DONE (R329). The flash write of a persisted configuration ends, clearing STORE_PENDING or raising an error on failure. -/
  | cfgStoreDone (ok : Bool)
  /-- STREAM_BUF (R151). STREAM_BUF posts a host buffer to a stream, to be filled with whole packets, or retires it at once. -/
  | streamBuf (id : Nat)
  /-- CAPTURE_ARM (R178). CAPTURE_ARM gives a capture unit a buffer and moves it from IDLE to ARMED. -/
  | captureArm (id : Nat)
  /-- CAPTURE_READ (R189). CAPTURE_READ copies a stated window of channels from the Hive into a capture record without a trigger. -/
  | captureRead (id : Nat)
  /-- STATS_READ (R161). STATS_READ writes one statistics record per channel for the requested interval. -/
  | statsRead (id : Nat)
  /-- COMPRESS (R206). COMPRESS deflates a host source buffer into the destination on a lane, with optional delta and chaining. -/
  | compress (id : Nat)
  /-- DECOMPRESS (R209). DECOMPRESS inflates a raw stream or a stream packet, checking length, CRC or signature. -/
  | decompress (id : Nat)
  /-- TIME_PULSE (R241). TIME_PULSE programs, replaces or stops a pulse generator. -/
  | timePulse (id : Nat)
  /-- TIME_PULSE_RISE (R240). A pulse generator's rising edge falls due and is placed on its pin. -/
  | timePulseRise (k : Fin 4)
  /-- TIME_PULSE_FALL (R241). A pulse's falling edge follows after WIDTH_NS and a once or first periodic pulse retires its descriptor. -/
  | timePulseFall (k : Fin 4)
  /-- FW_STAGE (R433). FW_STAGE writes a chunk of a firmware package into the idle slot and verifies it on the last chunk. -/
  | fwStage (id : Nat)
  /-- FW_ACTIVATE (R434). FW_ACTIVATE pauses the engine and starts it from the staged slot as a TRIAL. -/
  | fwActivate (id : Nat)
  /-- FW_CONFIRM (R435). FW_CONFIRM makes the TRIAL slot CONFIRMED and migrates the stored configuration. -/
  | fwConfirm (id : Nat)
  /-- FW_AUTO_CONFIRM (R435). A TRIAL image has run FW.CONFIRM_S without restart and is confirmed automatically. -/
  | fwAutoConfirm
  /-- FW_CONFIRM_LIMIT (R436). FW.CONFIRM_LIMIT_S elapses without confirmation and the TRIAL falls back to the PREVIOUS slot. -/
  | fwConfirmLimit
  /-- SIGN_REQ (R385). SIGN_REQ signs a host-given digest with the DATA key in context 5. -/
  | signReq (id : Nat)
  /-- ATTEST (R393). ATTEST writes a signed attestation report followed by the device certificate. -/
  | attest (id : Nat)
  /-- VAULT_CMD_STATUS (R380). VAULT_CMD STATUS returns the vault state, counters, seal hash, challenge and newest chain value. -/
  | vaultCmdStatus (id : Nat)
  /-- VAULT_CMD_READ_RECORDS (R377). VAULT_CMD READ_RECORDS returns unacknowledged weight records from the oldest. -/
  | vaultCmdReadRecords (id : Nat)
  /-- VAULT_CMD_ACK (R377). VAULT_CMD ACK releases every weight record up to a VSEQ. -/
  | vaultCmdAck (id : Nat)
  /-- VAULT_CMD_READ_AUDIT (R380). VAULT_CMD READ_AUDIT returns audit entries from a given EVENT_COUNT. -/
  | vaultCmdReadAudit (id : Nat)
  /-- VAULT_CMD_AUTH (R370). VAULT_CMD AUTH authorises the open transaction when the metrology signature verifies. -/
  | vaultCmdAuth (id : Nat)
  /-- VAULT_CMD_RESET (R380). VAULT_CMD RESET causes a VAULT reset when the seal is open or the transaction is authorised. -/
  | vaultCmdReset (id : Nat)
  /-- TWIN_CMD_STATUS (R360). TWIN_CMD STATUS returns the last HEALTH of each unit. -/
  | twinCmdStatus (id : Nat)
  /-- TWIN_CMD_SWAP (R357). TWIN_CMD SWAP requests an agreed exchange of roles at a frame F. -/
  | twinCmdSwap (id : Nat)
  /-- TWIN_CMD_TAKEOVER (R355). TWIN_CMD TAKEOVER makes a standby take over as active. -/
  | twinCmdTakeover (id : Nat)
  /-- TWIN_CMD_RELEASE_SEIZE (R355). TWIN_CMD RELEASE_SEIZE releases the active's twin-seize-out. -/
  | twinCmdReleaseSeize (id : Nat)
  /-- TWIN_CMD_RESUME (R356). TWIN_CMD RESUME tells a new active with an uncertain watermark where each stream resumes. -/
  | twinCmdResume (id : Nat)
  /-- TWIN_CMD_RESYNC (R359). TWIN_CMD RESYNC starts a standby's resynchronisation with the active. -/
  | twinCmdResync (id : Nat)
  /-- INJECT_CANCEL (R468). INJECT_CMD action 0 cancels every pending injection on its target. -/
  | injectCancel (id : Nat)
  /-- INJECT_DROP (R280). The link injector drops frames so the receiver sees a sequence gap. -/
  | injectDrop (id : Nat)
  /-- INJECT_CORRUPT (R280). The link injector corrupts a payload bit so the receiver sees a CRC failure. -/
  | injectCorrupt (id : Nat)
  /-- INJECT_REORDER (R280). The link injector swaps the next two frames on the wire. -/
  | injectReorder (id : Nat)
  /-- INJECT_TAG (R280). The link injector makes frames fail their authentication tag. -/
  | injectTag (id : Nat)
  /-- INJECT_HEADER (R280). The link injector sends invalid sync headers on a lane. -/
  | injectHeader (id : Nat)
  /-- INJECT_SQUELCH (R280). The link injector silences a lane or the clock lane for a duration. -/
  | injectSquelch (id : Nat)
  /-- INJECT_EXC_SHORT (R468). The injector makes an excitation output's detector see a short. -/
  | injectExcShort (id : Nat)
  /-- INJECT_EXC_OPEN (R468). The injector makes an excitation output's detector see an open. -/
  | injectExcOpen (id : Nat)
  /-- INJECT_EXC_REVERSED (R468). The injector makes an excitation output's polarity check see a reversal. -/
  | injectExcReversed (id : Nat)
  /-- INJECT_EXC_SENSE_OPEN (R468). The injector makes the open-sense test fail on an output. -/
  | injectExcSenseOpen (id : Nat)
  /-- INJECT_AIN_OPEN (R468). The injector makes an input's comparator see an open input. -/
  | injectAinOpen (id : Nat)
  /-- INJECT_AIN_OVERVOLT (R468). The injector makes an input's comparator see an overvoltage. -/
  | injectAinOvervolt (id : Nat)
  /-- INJECT_CNV_REF (R468). The injector adds codes to a core's slot-8 reading. -/
  | injectCnvRef (id : Nat)
  /-- INJECT_CNV_SUPPLY (R468). The injector adds codes to a core's slot-9 reading. -/
  | injectCnvSupply (id : Nat)
  /-- INJECT_CNV_TEMP (R468). The injector adds codes to a core's slot-10 reading. -/
  | injectCnvTemp (id : Nat)
  /-- INJECT_CNV_XCHK (R468). The injector adds codes to a core's slot-11 reading. -/
  | injectCnvXchk (id : Nat)
  /-- INJECT_CNV_TIMEOUT (R468). The injector makes a core's conversion time out. -/
  | injectCnvTimeout (id : Nat)
  /-- INJECT_MEM_CORRECTABLE (R468). The injector places a correctable error at the next write of a memory region. -/
  | injectMemCorrectable (id : Nat)
  /-- INJECT_MEM_UNCORRECTABLE (R468). The injector places an uncorrectable error at the next write of a memory region. -/
  | injectMemUncorrectable (id : Nat)
  /-- INJECT_HOST_DMA_ERROR (R468). The injector fails the next descriptor read of a ring. -/
  | injectHostDmaError (id : Nat)
  /-- INJECT_HOST_POSTING_HELD (R468). The injector holds completion posting for a time. -/
  | injectHostPostingHeld (id : Nat)
  /-- INJECT_ENGINE_WATCHDOG (R468). The injector makes the engine watchdog expire. -/
  | injectEngineWatchdog (id : Nat)
  /-- INJECT_FIREFLY_THETA (R468). The injector adds picoseconds to θ of sync exchanges. -/
  | injectFireflyTheta (id : Nat)
  /-- INJECT_FIREFLY_INVALID (R468). The injector makes sync exchanges invalid. -/
  | injectFireflyInvalid (id : Nat)
  /-- INJECT_TWIN_SUM (R468). The injector adds a value to a core's digest SUM. -/
  | injectTwinSum (id : Nat)
  /-- INJECT_TWIN_ALIVE_STOP (R468). The injector stops twin-alive-out for a time. -/
  | injectTwinAliveStop (id : Nat)
  /-- INJECT_TWIN_HEALTH_WITHHELD (R468). The injector withholds HEALTH frames for a time. -/
  | injectTwinHealthWithheld (id : Nat)
  /-- INJECT_PUMP_SAG (R468). The injector makes the pump monitors see a sag. -/
  | injectPumpSag (id : Nat)
  /-- INJECT_FATAL (R468). The injector raises UNIT_FATAL with cause 6. -/
  | injectFatal (id : Nat)
  /-- SYNC_INTERVAL (R226). The sync interval expires and the hub sends SYNC on its non-parent ports and on TWIN. -/
  | syncInterval
  /-- SYNC (R226). A SYNC frame is received; the child stamps T2 and sends DELAY_REQ, or a root or neighbour records a conflict. -/
  | sync (p : Port) (m : SyncMsg)
  /-- DELAY_REQ (R226). A DELAY_REQ is received; the parent stamps T4 and sends DELAY_RESP. -/
  | delayReq (p : Port) (m : DelayReq)
  /-- DELAY_RESP (R228). A DELAY_RESP completes an exchange; θ and delay are computed and the servo slews or steps. -/
  | delayResp (p : Port) (m : DelayResp)
  /-- EXCHANGE_TIMEOUT (R227). No DELAY_RESP arrives within 200 µs of T3 and the exchange is counted as invalid. -/
  | exchangeTimeout (p : Port)
  /-- PARENT_TIMEOUT (R222). The parent gives no valid exchange for 16 intervals; the hub switches to ALT_PARENT or enters HOLDOVER. -/
  | parentTimeout
  /-- NO_PARENT (R231). A MEMBER in ACQUIRING has had no SYNC on its parent port for 1 s and raises a NOTICE. -/
  | noParent
  /-- PPS_EDGE (R225). A time-pulse-in edge on a PPS root is stamped and drives the servo, a pending GO or a step. -/
  | ppsEdge
  /-- PPS_TIMEOUT (R233). No PPS edge arrives for 1.5 s and the root enters HOLDOVER. -/
  | ppsTimeout
  /-- FF_SET_GO (R225). A write of GO to FF_SET_CTRL sets the root's count and epoch, or is refused. -/
  | ffSetGo (path : Path)
  /-- FF_NOW_READ (R216). A read of FF_NOW_LO or a 64-bit read of FF_NOW latches the other halves of the same instant. -/
  | ffNowRead (wide : Bool)
  /-- TXTS_POP (R246). A write to TXTS_POP removes the oldest transmit time stamp of a port. -/
  | txtsPop (p : Port)
  /-- FRAME_TX_END (R257). A frame's transmission ends and the next frame is chosen by class order, adding a time stamp where requested. -/
  | frameTxEnd (p : Port)
  /-- FRAME_REJECTED (R258). A received frame fails CRC, sequence or tag and is discarded with a NAK, or is a duplicate answered with the last ACK. -/
  | frameRejected (p : Port) (f : RxFrame)
  /-- ACK (R258). An ACK block advances the acknowledged LSEQ and frees replay buffer entries. -/
  | ack (p : Port) (lseq : BitVec 12)
  /-- NAK (R259). A NAK makes the sender replay every unacknowledged frame from the named LSEQ. -/
  | nak (p : Port) (lseq : BitVec 12)
  /-- REPLAY_TIMEOUT (R259). No ACK has advanced for the round trip plus 20 µs and the sender replays from the oldest unacknowledged frame. -/
  | replayTimeout (p : Port)
  /-- IDENT (R267). An IDENT frame is received and checked for port, strap and security mismatch and partner identity. -/
  | ident (p : Port) (f : IdentFrame) (rttNs : Option Nat)
  /-- RATE_PROPOSE (R266). A RATE PROPOSE frame asks the partner to try the next rate. -/
  | ratePropose (p : Port) (rate : Nat)
  /-- RATE_ACCEPT (R266). A RATE ACCEPT frame starts a rate trial on both sides. -/
  | rateAccept (p : Port) (rate : Nat)
  /-- RATE_PASS (R266). A RATE PASS frame reports a clean soak at the trial rate. -/
  | ratePass (p : Port)
  /-- RATE_FAIL (R266). A RATE FAIL frame ends the search and returns both sides to the previous rate. -/
  | rateFail (p : Port)
  /-- TEST (R266). A TEST soak frame is received and checked for errors during a rate trial. -/
  | test (p : Port) (f : SoakFrame)
  /-- SOAK_END (R266). The 10 ms soak of a rate trial ends and the side sends PASS or FAIL. -/
  | soakEnd (p : Port)
  /-- KEY_INIT (R270). A KEY_INIT frame starts the ECDH key exchange at the responder. -/
  | keyInit (p : Port) (payload : List Byte)
  /-- KEY_RESP (R270). A KEY_RESP frame is verified by the initiator, which answers KEY_CONFIRM and derives keys. -/
  | keyResp (p : Port) (payload : List Byte)
  /-- KEY_CONFIRM (R270). A KEY_CONFIRM frame is verified by the responder and the keys are derived, or the partner is rejected. -/
  | keyConfirm (p : Port) (payload : List Byte)
  /-- KEY_RENEWAL (R274). A transmission counter reaches 2^40 or 24 h pass and the port renews its keys in service. -/
  | keyRenewal (p : Port)
  /-- LINE_TRIGGER (R193). A line trigger frame is received, checked for duplicate, forwarded and delivered to capture units. -/
  | lineTrigger (p : Port) (f : LineTrig)
  /-- MGMT (R255). A MGMT frame is received and handed to the management engine. -/
  | mgmt (p : Port)
  /-- DETECT_DONE (R263). The receive clock has been active for 100 µs and the port moves from DETECT to CLOCK_LOCK. -/
  | detectDone (p : Port)
  /-- CLOCK_LOCK_DONE (R263). The receive PLL locks to the partner's clock and the port moves to EQ_TUNE. -/
  | clockLockDone (p : Port)
  /-- EQ_TUNE_DONE (R264). Peaking has been chosen on both lanes and the port moves to BLOCK_LOCK. -/
  | eqTuneDone (p : Port) (eyes0 eyes1 : List Nat)
  /-- BLOCK_LOCK_DONE (R265). Both lanes reach block lock and the port moves to DESKEW. -/
  | blockLockDone (bits : LockBits)
  /-- DESKEW_DONE (R263). Two consecutive ALIGN pairs agree and the port moves to IDENTIFY. -/
  | deskewDone (p : Port) (lane0 lane1 : LaneReport) (aligns : AlignPairs)
  /-- LINK_STATE_TIMEOUT (R263). A port state runs past its timeout and the port takes that state's timeout path. -/
  | linkStateTimeout (p : Port)
  /-- TRAINING_RESEND (R263). 10 µs pass without an answer and a training frame is sent again. -/
  | trainingResend (p : Port)
  /-- FAULT_RETRY (R268). One second after a retrying FAULT cause the port restarts bring-up from DETECT. -/
  | faultRetry (p : Port)
  /-- LOS (R269). A data or clock lane falls below 50 mV and the port leaves service. -/
  | los (p : Port)
  /-- CLOCK_UNLOCK (R269). The receive PLL loses lock to the partner's clock and the port leaves service. -/
  | clockUnlock (p : Port)
  /-- BLOCK_UNLOCK (R269). 32 invalid headers in 64 blocks of a lane take the port out of service. -/
  | blockUnlock (w : HeaderWindow)
  /-- DESKEW_LOST (R269). Two consecutive ALIGN pairs are misplaced between lanes and the port leaves service. -/
  | deskewLost (p : Port)
  /-- HI_BER (R269). A 125 µs window ends with 16 or more invalid headers, setting HI_BER, and 8 such windows take the port out of service. -/
  | hiBer (p : Port) (invalidHeaders : Nat)
  /-- LOAD_RETRAIN (R266). Under LOWEST_SUFFICIENT, transmit load above 50 % for 1 s makes the port retrain upward. -/
  | loadRetrain (p : Port)
  /-- RETRAIN (R263). A write of RETRAIN to LINK_CTRL starts a full bring-up of the port from DETECT. -/
  | retrain (p : Port)
  /-- CHIRP_RECOGNISED (R276). The Cricket detector recognises a chirp on a receive clock lane, sets CHIRP_SEEN and raises the port's wake source. -/
  | chirpRecognised (c : ClockSamples)
  /-- CHIRP_SEND (R277). A port that needs its partner has seen no receive clock for 1 ms and sends one chirp before DETECT. -/
  | chirpSend (p : Port)
  /-- TWIN_ALIVE_TOGGLE (R334). Every 2,500 ns an ACTIVE unit toggles its twin-alive-out pin. -/
  | twinAliveToggle
  /-- TWIN_ALIVE_EDGE (R354). An edge on twin-alive-in shows the partner active. -/
  | twinAliveEdge
  /-- ACTIVE_LOST (R354). Twin-alive-in shows no edge for 10,000 ns while the partner reported ACTIVE and the standby treats the active as lost. -/
  | activeLost
  /-- DIGEST (R344). A DIGEST frame from the standby is paired with the active's frame and compared core by core. -/
  | digest (f : DigestFrame)
  /-- DIGEST_MISSING (R345). A digest is not received 1 ms after its frame's ready time and is counted missing. -/
  | digestMissing (g : Group) (frame : Nat)
  /-- HEALTH_SEND (R346). Every 1 ms, or on a change of role, reason or flag, a unit sends a HEALTH frame. -/
  | healthSend
  /-- HEALTH (R346). A HEALTH frame is received and updates partner state, reasons, TRIG_SEQ and relinquish handling. -/
  | health (f : HealthFrame)
  /-- DUAL_ACTIVE (R337). Unit B as ACTIVE sees its partner report ACTIVE for 1 ms and becomes STANDBY_UNFIT. -/
  | dualActive
  /-- STREAM_SYNC (R352). A STREAM_SYNC frame reports cuts and retirements, which the standby follows. -/
  | streamSync (entries : List SyncEntry)
  /-- ACK_WAIT_TIMEOUT (R353). No link ACK covers a STREAM_SYNC within ACK_WAIT_US and the active posts the completion without it. -/
  | ackWaitTimeout
  /-- MAINS_FRAME (R350). A MAINS frame gives the standby a new T_a to apply before F_apply. -/
  | mainsFrame (f : MainsFrame)
  /-- CFG_DATA (R349). A CFG_DATA frame carries shadow records from the active to the standby. -/
  | cfgData (records : List W32) (last : Bool)
  /-- CFG_CTRL_READY (R349). A CFG_CTRL READY frame tells the active the standby has staged the shadow. -/
  | cfgCtrlReady (crc : W32)
  /-- CFG_CTRL_ARM (R349). A CFG_CTRL ARM frame tells the standby to flip at the boundary ending frame F. -/
  | cfgCtrlArm (frame : Nat)
  /-- CFG_READY_TIMEOUT (R349). READY is not received within 50 ms and the active flips alone. -/
  | cfgReadyTimeout
  /-- SWAP_EXECUTE (R357). A swap reaches frame F and the units exchange roles, packets and excitation. -/
  | swapExecute
  /-- VAULT_SYNC (R378). A VAULT_SYNC frame lets the standby vault discard held weighing results. -/
  | vaultSync (vseq : W32) (tExit : Nat)
  /-- SEAL_SWITCH_CHANGE (R368). GPIO[31] changes level, opening or closing the seal and writing a SEAL_OPEN or SEAL_CLOSE audit entry. -/
  | sealSwitchChange (high : Bool)
  /-- WEIGHT_RECORD_ISSUE (R376). The vault issues a signed weight record no later than 10 ms after T_EXIT. -/
  | weightRecordIssue
  /-- ALIBI_STORE_WRITE (R376). An issued weight record or audit entry is written to the alibi store. -/
  | alibiStoreWrite
  /-- VAULT_WATCHDOG (R465). The vault watchdog expires after 1 s and causes a VAULT reset. -/
  | vaultWatchdog
  /-- CLAIM (R391). A CLAIM request installs an owner on an UNOWNED part. -/
  | claim (path : Path)
  /-- TRANSFER (R391). A TRANSFER request signed by the current owner installs a new owner. -/
  | transfer (path : Path)
  /-- RELEASE (R391). A RELEASE request signed by the owner returns the part to UNOWNED. -/
  | release (path : Path)
  /-- SET_SB_KEY (R392). A SET_SB_KEY request unwraps a new side-band key and starts a new session. -/
  | setSbKey (path : Path)
  /-- SET_METROLOGY_KEY (R391). A SET_METROLOGY_KEY request installs a metrology key when the seal is open. -/
  | setMetrologyKey (path : Path)
  /-- ENDORSE (R391). An ENDORSE request stores an owner endorsement that verifies in context 8. -/
  | endorse (path : Path)
  /-- SET_POLICY (R391). A SET_POLICY request sets the POLICY word. -/
  | setPolicy (path : Path)
  /-- UNLOCK_INJECT (R398). An UNLOCK_INJECT request unlocks the fault injector. -/
  | unlockInject (path : Path)
  /-- LOCK_INJECT (R398). A LOCK_INJECT request locks the fault injector. -/
  | lockInject (path : Path)
  /-- UNLOCK_DEBUG (R399). An UNLOCK_DEBUG request opens the debug port and withholds the DATA and VAULT keys until POR. -/
  | unlockDebug (path : Path)
  /-- BACKOFF_END (R391). The 60 s Svetron request backoff after 8 signature failures ends. -/
  | backoffEnd
  /-- HIBERNATE (R408). A write of HIBERNATE to PWR_CTRL is refused or starts Hibernate entry. -/
  | hibernate (path : Path)
  /-- WAKE (R414). An authenticated side-band write of WAKE to PWR_CTRL wakes the hub from HIBERNATE. -/
  | wake
  /-- WAKE_TIMER (R414). PWR_WAKE_TIMER counts down to 0 and fires a wake source. -/
  | wakeTimer
  /-- WAKE_GPIO (R414). The chosen edge on a settled wake GPIO fires a wake source. -/
  | wakeGpio (e : WakeEdge)
  /-- PERST_DEASSERT (R414). PERST# is deasserted, firing the PERST wake source and allowing link training. -/
  | perstDeassert
  /-- HIB_SUPPLY_TIMEOUT (R411). The rails are not in regulation 50 ms after exit begins and the hub stays in HIBERNATE. -/
  | hibSupplyTimeout
  /-- BURST_END (R405). In DOZE no work is pending and the hub stops or gates the fast clocks until the next need. -/
  | burstEnd
  /-- PLL_RESTART (R405). In DOZE the fast PLLs restart 40 µs before a scheduled need. -/
  | pllRestart
  /-- SB_NOP (R425). A side-band NOP frame collects the previous response and does nothing. -/
  | sbNop (f : SbFrame)
  /-- SB_READ (R425). A side-band READ frame reads register words from ADDR upward. -/
  | sbRead (f : SbFrame)
  /-- SB_WRITE (R425). A side-band WRITE frame writes register words from ADDR upward. -/
  | sbWrite (f : SbFrame)
  /-- SB_DESC (R426). A side-band DESC frame submits a descriptor with an inline buffer. -/
  | sbDesc (f : SbFrame)
  /-- SB_SVREQ (R425). A side-band SVREQ frame fills the Svetron request buffer and with GO submits the request. -/
  | sbSvreq (f : SbFrame)
  /-- FLASH_PROGRAM (R429). The engine's write into the flash window becomes a page program, or is refused and counted. -/
  | flashProgram (offset : Nat) (data : List Byte)
  /-- FLASH_PROGRAM_DONE (R429). Busy polling ends or times out and the page is read back and checked. -/
  | flashProgramDone (second : Bool) (ok : Bool)
  /-- ENGINE_WATCHDOG (R465). The engine has not served its watchdog for 250 ms and hardware restarts it. -/
  | engineWatchdog
  /-- ENGINE_RETURN (R16). The management engine serves descriptors again and held descriptors proceed. -/
  | engineReturn
  /-- UNIT_FATAL (R464). A unit-fatal cause is detected; the hub seizes excitation, stops groups, ends streams and fails descriptors. -/
  | unitFatal (cause : FatalCause)
  /-- ERR_MSI_TIMER (R462). MOD_US passes since the last error message and one message covers the qualifying records written meanwhile. -/
  | errMsiTimer
  /-- ERRLOG_POP (R461). A write to ERRLOG_POP removes the oldest record when the value equals its ESEQ. -/
  | errlogPop (v : W32)
  /-- TRACE_POP (R441). A write of 1 to TRACE_POP removes the oldest trace entry. -/
  | tracePop (v : W32)
  /-- STREAM_FLUSH (R149). A write to STREAM_FLUSH_LO or STREAM_FLUSH_HI closes a stream's open packet at the end of the current or next frame. -/
  | streamFlush (high : Bool) (w : W32)
  /-- MANTIS_FORCE (R176). A write to MANTIS_FORCE fires a trigger unit on the next frame of its group. -/
  | mantisForce (w : W32)
  /-- HUB_CTRL (R477). A write to HUB_CTRL with the key and bit 0 requests a WARM reset. -/
  | hubCtrl (v : W32) (path : Path)
  /-- PIN_OUT_SET (R479). A write to PIN_OUT_SET sets PIN_OUT bits. -/
  | pinOutSet (v : W32)
  /-- PIN_OUT_CLR (R479). A write to PIN_OUT_CLR clears PIN_OUT bits. -/
  | pinOutClr (v : W32)
  /-- REGISTER_WRITE (R472). A write to a register with no behaviour of its own is applied, ignored, or discarded and counted under the access rules. -/
  | registerWrite (req : RegRequest)
  /-- UNALIGNED_READ (R474). A multi-DW read with partial byte enables returns 0xFF bytes and is counted. -/
  | unalignedRead (req : RegRequest)
  /-- PIN_SETTLE (R487). A GPIO or TWIN_SEL gives 8 consecutive samples on one side of the band and becomes settled. -/
  | pinSettle (k : Fin 33) (high : Bool)
  /-- FUNCTION_SWITCH_PARK (R491). At the first Cricket edge after a flip that changes a pin's fields, the old function is released and the pin is parked. -/
  | functionSwitchPark (k : Fin 32)
  /-- FUNCTION_SWITCH_CONNECT (R491). One Cricket period after parking, the new function and pull take the pin. -/
  | functionSwitchConnect (k : Fin 32)
  /-- HIB_ENTRY_DONE (R409). The Hibernate entry sequence of Table 16-2 finishes its last step; the enables go low and the hub enters HIBERNATE, or leaves at once on a latched wake. -/
  | hibEntryDone
  /-- REFCLK_LOSS (R478). REFCLK is missing for 1 µs or more and CLK_STATUS.REFCLK_LOSS_SEEN is set. -/
  | refclkLoss
  /-- PLL_UNLOCK (R478). The core or converter PLL loses lock and CORE_UNLOCK_SEEN or CNV_UNLOCK_SEEN is set, short of the unit-fatal duration. -/
  | pllUnlock (converter : Bool)
  /-- FLASH_ERASE_DONE (R430). Busy polling of a sector erase ends, and reads of that device and queued writes proceed. -/
  | flashEraseDone (second : Bool) (offset : Nat) (large : Bool)
  /-- SB_MALFORMED_FRAME (R422). A side-band frame with a bit count that is not a multiple of 32 or an unknown CMD is rejected with LENGTH or FORMAT and counted. -/
  | sbMalformedFrame (f : SbFrame)
  /-- RESERVED_TYPE_FRAME (R255). A link frame with a good CRC and a reserved type, or a twin frame arriving on HEAD or TAIL, is acknowledged, discarded and counted in LINK_RX_UNKNOWN. -/
  | reservedTypeFrame (p : Port)
  /-- COMPRESSION_JOB_DONE (R207). A lane finishes a COMPRESS or DECOMPRESS host job, posts its completion or error status and becomes free. -/
  | compressionJobDone (lane : Fin 4)
  /-- INJECTION_DURATION_END (R468). The duration of a time-bounded injection runs out (squelch, held posting, stopped twin-alive, withheld HEALTH, pump sag) and the real condition returns. -/
  | injectionDurationEnd (target : Nat)
  /-- PCIE_LINK_UP (R450). PCI Express link training completes, the port comes up and PCIE_DOWN clears. -/
  | pcieLinkUp
  /-- BUS_MASTER_ENABLE (R307). A host configuration write changes Bus Master Enable, which stops or resumes every request the hub issues. -/
  | busMasterEnable (c : PcieControl)
deriving DecidableEq, Repr

end Sys2Proof
end

