-- ==== Sys2Proof/Config.lean ====
section
/-! DEFINITION. What the manual leaves to the part or to a named standard, as constants without a body: nothing in Lean can evaluate them, so a statement holds whatever they are (assumptions 1 and 9). -/

namespace Sys2Proof.Config

/-- The 22 bit decisions of a conversion (R91, R96), which the core's comparator takes over what a hold holds: core, the conversion's own disturbance, held value and reference in µV. The manual gives the code of the decisions and not the circuit. -/
opaque decisions : Nat → Nat → Int → Int → BitVec 22
/-- SHA-384 (FIPS 180-4), named by R330, R384 and R385. -/
opaque sha384 : List Byte → List Byte
/-- HMAC-SHA-256, named by R396: key, message. -/
opaque hmacSha256 : List Byte → List Byte → List Byte
/-- Public key (97 B, SEC 1) of an ECDSA P-384 private key (R383). -/
opaque p384Public : List Byte → List Byte
/-- Deterministic ECDSA P-384 signature r || s, 96 B (R385): private key, message. -/
opaque ecdsaSign : List Byte → List Byte → List Byte
/-- ECDSA P-384 verification (R270, R370, R391): public key, message, r || s. -/
opaque ecdsaVerify : List Byte → List Byte → List Byte → Bool
/-- ECDH P-384 shared secret (R270, R392): private key, public key. -/
opaque ecdh : List Byte → List Byte → List Byte
/-- HKDF-SHA-384 (RFC 5869; R271, R383, R392): keying material, salt, info, length. -/
opaque hkdfSha384 : List Byte → List Byte → List Byte → Nat → List Byte
/-- AES-256-GCM opening (R272, R392): key, IV, additional data, ciphertext and tag; none when the tag fails. -/
opaque aesGcmOpen : List Byte → List Byte → List Byte → List Byte → Option (List Byte)
/-- AES-256-GCM sealing (R272): key, IV, additional data, plaintext; the ciphertext and the tag of 16 B. -/
opaque aesGcmSeal : List Byte → List Byte → List Byte → List Byte → List Byte × List Byte
/-- The payload behind the type byte of a frame whose layout the manual does not give (MAINS, CFG_DATA, CFG_CTRL, VAULT_SYNC, MGMT, TEST): type code, the values it carries. -/
opaque layout : Nat → List W32 → List Byte
/-- A lane's scrambler register as the lanes of a port start (R251: its first value is not stated), by the model's own counter and lane; bit 0 the latest bit. -/
opaque scrambler : Nat → Nat → BitVec 58
/-- The bits that arrive on a lane in TEST (R279): port, lane, when the state was entered, index of the bit. -/
opaque testBit : Nat → Nat → Nat → Nat → Bool
/-- The Wiaro firmware public key (R401), whose digest is in OTP. -/
opaque firmwareKey : List Byte
/-- The ISSUER public key of Table 15-3. -/
opaque issuerKey : List Byte
/-- The distances of the candidates the match search of a level meets at a position, in the order in which it compares them (R197 gives their number, R199 leaves the bytes open): level, the bytes before the position, newest first, and the next 258 from it on. -/
opaque candidates : Nat → List Byte → List Byte → List Nat
/-- The engine's own Huffman construction (R198), for the symbols of a block: literal/length and distance code lengths, and the header bits behind BTYPE that spell them. -/
opaque dynForm : List (Nat × Nat) → List Nat × List Nat × List Bool
/-- A random byte drawn by Svetron (R390, R396, R270), by draw number and position. -/
opaque randomByte : Nat → Nat → Byte
/-- A free word: a value the manual leaves undefined, by the model's own counter. -/
opaque freeWord : Nat → W32

end Sys2Proof.Config
end

