-- ==== Sys2Proof/Machine/State.lean ====
section
/-! DEFINITION. The state of the hub as plain data: the register window, the configuration banks, every block's queues, counters, modes and pins, and the queue of waiting commands. -/

namespace Sys2Proof.Machine

open Sys2Proof

/-- A sparse store: (index, value) pairs in rising index order, no entry equal to what an unlisted index reads as (Store.lean). -/
abbrev Cells (α : Type) := List (Nat × α)

/-- A Firefly time in units of 1/65,536 ns (R214). -/
abbrev Tq := Nat

/-- The four marks of a result (R100) in the nibble order of R144: bit 0 clip, 1 plausibility fault, 2 excitation-disturbed, 3 ratiometric. -/
abbrev Marks := BitVec 4

/-! ### Time -/

/-- The timebase, the core and converter clocks' common position, the slew in progress (R230) and the Cricket count (R439). -/
structure TimeSt where
  running    : Bool
  count      : Nat
  up         : Nat
  slew       : Int
  slewLen    : Nat
  slewAt     : Nat
  cricket    : W32
  cricketSub : Nat
  age        : Nat
deriving DecidableEq, Repr

/-! ### The part and its pads -/

/-- Converter terms of one core (R96). -/
structure CoreTrim where
  weights : List Nat
  wMid    : Nat
  ofs     : Int
  gain    : Nat
deriving DecidableEq, Repr

/-- Amplifier terms of one pair, gain step and mode (R96). -/
structure AmpTrim where
  ofs0  : Int
  tcOfs : Int
  ga0   : Int
  tcGa  : Int
deriving DecidableEq, Repr

/-- One-time-programmable memory: vault fuse, serial, trim with the verdict of its CRC-32C, device secrets and certificate. Core trim is keyed by core, amplifier trim by pair, gain step and mode (pair × 16 + gain step × 2 + mode). -/
structure OtpSt where
  vaultFuse   : Bool
  serial      : W64
  trimCrc     : W32
  trimGood    : Bool
  coreTrim    : Cells CoreTrim
  ampTrim     : Cells AmpTrim
  secret      : List Byte
  certificate : List Byte
  firmwareDigest : List Byte
deriving DecidableEq, Repr

/-- Pads of the hub: per GPIO (32: TWIN_SEL) settled level, PERST#, rails, clocks, PCI Express link; pins parked, pins whose switch waits for the next Cricket edge, the function in effect on each, and the Cricket count at which the next step of its switch falls due (R491). -/
structure PadSt where
  settled    : BitVec 33
  level      : BitVec 33
  perst      : Bool
  pcieUp     : Bool
  enDig      : Bool
  enAna      : Bool
  wakeOut    : Bool
  parked     : BitVec 32
  due        : BitVec 32
  func       : Cells Nat
  edgeAt     : Cells W32
deriving DecidableEq, Repr

/-- State of the management engine as the rules see it (R16, R434, R465). -/
inductive Engine where
  | absent | up
deriving DecidableEq, Repr

/-- Start-up (chapter 18) and the management engine: the step in progress (0: in reset), a WARM latched during step 1, the cause of the last WARM, whether the vault is still to start (after POR and HIBERNATE), whether this start is the exit from HIBERNATE, whether it waits 1 s to begin again, steps that ran past their limit, BOOT_TIME_US, the TWIN_SEL strap, the engine with the up times of its restarts, the recovery loader, and the up times of READY and of the start of the step in progress. -/
structure BootSt where
  stage       : Nat
  warmLatched : Option ResetSource
  warmCause   : Option ResetSource
  vaultDue    : Bool
  fromHib     : Bool
  retryDue    : Bool
  overruns    : List Nat
  timeUs      : Nat
  strapB      : Bool
  engine      : Engine
  restarts    : List Nat
  recovery    : Bool
  readyAt     : Nat
  stageUp     : Nat
deriving DecidableEq, Repr

/-! ### Sampling -/

/-- STRB_STATUS.STATE (Table 2-7). -/
inductive GroupMode where
  | stopped | waitingStart | running | held
deriving DecidableEq, Repr

/-- A frame between its strobe edge and its ready time; dueUp is the ready time in ns since the timebase started. -/
structure FrameSt where
  k      : Nat
  edge   : Tq
  diag   : Bool
  nMax   : Nat
  epoch  : BitVec 16
  dueUp  : Nat
  undelivered : Bool
deriving DecidableEq, Repr

/-- A strobe group (chapter 02). hole: it strobed before it last stopped; heldUp: when it last stopped or a hold began; spans: stretches of the grid that forward steps passed; deferred: losses that begin behind the frame still converting (cause, detail, first lost frame and its time); applied: the moment at which the last start or restart was applied (R40); lastEvUp: when it last accepted an event, or started (R48); peerUp: a strobe edge of the other group that has reached its strobe input and has not been taken (R43); resetDue, closeDue: chains and conditions start anew, and open packets close, once the frame still converting has completed (R507, R236); oldGrids: grids it strobed on before, each with the time from which it no longer held, oldest first; none: event mode (R181); byEvents: it last started in event mode; heldHole: a hold in event mode lies before its next frame, which counts as a hole (R321). -/
structure GroupSt where
  mode      : GroupMode
  nextK     : Nat
  strobed   : Bool
  lastK     : Nat
  lastEdge  : Tq
  doneK     : Nat
  frame     : Option FrameSt
  pendEdge  : Option Nat
  starved   : Bool
  lastSlots : Nat
  diagLast  : Bool
  evNext    : Nat
  hole      : Bool
  heldUp    : Nat
  spans     : List (Tq × Tq)
  deferred  : List (Nat × Nat × Nat × Tq)
  applied   : Tq
  lastEvUp  : Nat
  peerUp    : Option Nat
  resetDue  : Bool
  closeDue  : Bool
  oldGrids  : List (Tq × Option (Tq × Tq))
  byEvents  : Bool
  heldHole  : Bool
deriving DecidableEq, Repr

/-- A result of a slot in the frame in hand (R99, R100): value in codes after demodulation, marks, code before demodulation, whether a plausibility mark came from R64 or R86, and whether the conversion timed out. -/
structure ResultSt where
  value   : Int
  marks   : Marks
  code    : Int
  wiring  : Bool
  timeout : Bool
deriving DecidableEq, Repr

/-- Run counters of one self-check (R102). -/
structure CheckSt where
  standing : Bool
  fails    : Nat
  passes   : Nat
deriving DecidableEq, Repr

/-- A converter core (chapter 04): checks, last own temperature in 1/16 °C, codes and timeouts of the frame in hand; pos: position of the next conversion in its order (R32). -/
structure CoreSt where
  ref      : CheckSt
  supply   : CheckSt
  tHigh    : CheckSt
  tCrit    : CheckSt
  tSensor  : CheckSt
  t16      : Option Int
  t16Next  : Option Int
  fallback : Bool
  xFails   : Nat
  xPasses  : Nat
  marksPlaus : Bool
  marksRef : Bool
  slot11   : Option ResultSt
  pos      : Nat
deriving DecidableEq, Repr

/-- An input (chapter 03): protection switch, its sign, open and reversal runs, conditions now; overIn: the overvoltage fault has been entered (R86). -/
structure InputSt where
  switchOpen : Bool
  positive   : Bool
  openRun    : Nat
  openNow    : Bool
  overNow    : Bool
  revRun     : Nat
  revNow     : Bool
  revMark    : Bool
  overIn     : Bool
deriving DecidableEq, Repr

/-- States of an excitation output, Table 3-2. -/
inductive ExcMode where
  | disabled | standbyZ | seized | waitPump | idle | inrush | pulse | short | reversed
deriving DecidableEq, Repr

/-- An excitation output (chapter 03). retrying: a fault of it has not been followed by a good pulse; isRetry: RETRY has elapsed and the next pulse is the retry (R80, R84); cutAt, endUp: when an event cuts its pulse (R68) and when the pulse ends by its WIDTH (R67), startUp, faultUp: when it began and when SHORT or REVERSED was entered (R80), in ns since the timebase started. -/
structure ExcSt where
  mode       : ExcMode
  negative   : Bool
  pulseFrame : Nat
  cutAt      : Option Nat
  limited    : Bool
  suppressed : Bool
  openNow    : Bool
  openRun    : Nat
  passRun    : Nat
  senseOpen  : Bool
  senseFail  : Nat
  sensePass  : Nat
  retrying   : Bool
  stuckRun   : Nat
  disturbed  : Bool
  senseUv    : Int
  reEnable   : Bool
  isRetry    : Bool
  endUp      : Nat
  startUp    : Nat
  faultUp    : Nat
deriving DecidableEq, Repr

/-- The charge pump (R76, R77) with its rail as last measured, and the on-request open-wire check with its start (R88). -/
structure PumpSt where
  running : Bool
  ready   : Bool
  railUv  : Option Nat
  owRunning : Bool
  owDone    : Bool
  owRefused : Bool
  owUp      : Nat
deriving DecidableEq, Repr

/-! ### Filters and mains -/

/-- A filter stage's last inputs, newest first, how many came since it last primed, and how many since its last emission (R114, R121, R122). -/
structure StageSt where
  hist  : List (Int × Marks)
  since : Nat
  block : Nat
deriving DecidableEq, Repr

/-- MAINS_STATUS.STATE (Table 5-2). -/
inductive MainsMode where
  | off | acquiring | locked | holdover
deriving DecidableEq, Repr

/-- Mains tracking (R130 to R135): the detector (armed, last result with strobe time and marks, crossings counted, time of the first, a marked result seen), completed measurements the engine has not taken (none: invalid), the run of agreeing ones and the last one of it, whether the 10 s limit was reported, T_a, the frames before which it applies (noFrame for a group that does not run), the groups it still has to reach, those of them at which a frame boundary has come since it was written (R135), the T_a each group runs with (0: none), the groups that run with MAINS.ENABLE 1 (each takes it with its own load, R126), the time of the last crossing or restart (R131), and when the state was entered (R132). -/
structure MainsSt where
  mode      : MainsMode
  armed     : Bool
  lastX     : Option (Int × Tq × Marks)
  crossings : Nat
  tFirst    : Tq
  marked    : Bool
  done      : List (Option Tq)
  run       : Nat
  prev      : Option Tq
  warned    : Bool
  ta        : Tq
  applyF    : Option (Nat × Nat)
  pendA     : Bool
  pendB     : Bool
  boundA    : Bool
  boundB    : Bool
  takenA    : Tq
  takenB    : Tq
  onA       : Bool
  onB       : Bool
  crossT    : Tq
  modeUp    : Nat
deriving DecidableEq, Repr

/-! ### Streams and statistics -/

/-- One frame of a stream packet: group frame number, strobe time in whole ns, samples with marks in channel order. -/
structure PktFrame where
  k       : Nat
  t       : Nat
  epoch   : BitVec 16
  samples : List (Int × Marks)
deriving DecidableEq, Repr

/-- Payload of a gap record (Table 6-4), and the number of the frame that ends it. -/
structure GapInfo where
  tStart : Nat
  tEnd   : Nat
  lost   : Nat
  first  : Nat
  cause  : Byte
  detail : Byte
  endK   : Nat
deriving DecidableEq, Repr

/-- A stream packet or gap record (chapter 06) with its way through compression (08) and signing (15). spilled: it lies in spill, not in the FIFO; settled: its form as sent is decided; damaged: its payload met an uncorrectable error. -/
structure Packet where
  stream   : Nat
  seq      : W32
  epoch    : BitVec 16
  channels : Nat
  marksOn  : Bool
  timesOn  : Bool
  level    : Nat
  delta    : Bool
  sign     : Bool
  frames   : List PktFrame
  gap      : Option GapInfo
  closedAt : Nat
  lane     : Option Nat
  settled  : Bool
  packed   : Option (List Byte)
  signature : Option (List Byte)
  damaged  : Bool
  spilled  : Bool
deriving DecidableEq, Repr

/-- A posted stream buffer (R151): the descriptor, where it stands and what it holds; done: it has retired and its completion is not posted yet (R303). -/
structure StreamBuf where
  id    : Nat
  addr  : Nat
  len   : Nat
  used  : Nat
  first : W32
  count : Nat
  held  : List Packet
  done  : Bool
deriving DecidableEq, Repr

/-- A loss a stream has begun and not yet recorded (R154, R157): T_START in ns, the first instant that can be lost, the first frame number that can be lost, and the number and time a following loss of another cause set as its end; counted: FIRST_LOST_FRAME and the outputs lost before event-mode frame numbers began again at 0 (R47). -/
structure LossSt where
  cause  : Byte
  detail : Byte
  tStart : Nat
  from_  : Tq
  first  : Nat
  until_ : Option (Nat × Tq)
  epoch  : Option (BitVec 16)
  counted : Option (Nat × Nat)
deriving DecidableEq, Repr

/-- Where a stream's sequence of frames stands: a frame number with its time in ns, whether that frame is still to come (a gap record already named it as its end), and its epoch. -/
structure TailSt where
  k    : Nat
  t    : Nat
  open_ : Bool
  epoch : BitVec 16
deriving DecidableEq, Repr

/-- A stream (chapter 06). queue: closed packets placed and not yet written, oldest first; closing: closed packets whose form as sent is not decided; tail: the last frame assembled; placed: the last frame of the last packet placed; resume: after an overflow, room has been reached and the record waits for the next frame; floor: number of the first output after the stream was enabled; skipTo: the frame assembly goes on with; marker: on a standby, SEQ of the first packet it holds in full; retired: SEQ of the last retirement; handover: SEQ of the last packet a former active still delivers after a swap (R357); held: on a standby, the frames behind openPkt that a commit separated from it, each run under its own settings (R158); split: such a commit has come and no frame since; form: on a new active, the settings under which frames held uncut are assembled, none: the live ones; awaitCut: on a new active after a swap, the last frame held that the old active has still to report in a cut (R357). -/
structure StreamSt where
  seqNext  : W32
  openPkt  : Option Packet
  openedUp : Nat
  closing  : List Packet
  queue    : List Packet
  bufs     : List StreamBuf
  overflow : Bool
  resume   : Bool
  losses   : List LossSt
  tail     : Option TailSt
  placed   : Option TailSt
  floor    : Nat
  skipTo   : Option Nat
  flush    : Bool
  flushCut : Bool
  flushSeq : Option W32
  marker   : Option W32
  retired  : Option W32
  handover : Option W32
  held     : List Packet
  split    : Bool
  form     : Option Packet
  ending   : Bool
  awaitCut : Option Nat
deriving DecidableEq, Repr

/-- One frame of history in the Hive (R164). lost: the cause with which a capture loses it (Table 7-3), 0 when it does not. -/
structure HiveFrame where
  group   : Group
  k       : Nat
  edge    : Tq
  epoch   : BitVec 16
  results : List (Nat × Int × Marks)
  lost    : Byte
deriving DecidableEq, Repr

/-- Statistics of one channel over one interval (R160) of a length in ns; tEnd: when it ends, or closed as SHORT. -/
structure StatAcc where
  index    : Nat
  tStart   : Nat
  len      : Nat
  tEnd     : Nat
  tap      : Nat
  epoch    : BitVec 16
  n        : Nat
  min      : Int
  max      : Int
  sum      : Int
  sq       : Nat
  below    : Bool
  peaks    : Nat
  clips    : Nat
  marked   : Nat
  holed    : Bool
  short    : Bool
deriving DecidableEq, Repr

/-- A channel's current interval and its 8 most recent completed ones, newest first (R161). -/
structure StatCh where
  cur  : Option StatAcc
  done : List StatAcc
deriving DecidableEq, Repr

/-! ### Mantis -/

/-- A condition (R167): its bit, its arming, and its last two outputs with their times, newest first. -/
structure CondSt where
  val   : Bool
  armed : Bool
  last  : List (Int × Tq)
  rose  : Bool
deriving DecidableEq, Repr

/-- A trigger unit (R171, R172, R176). -/
structure TrigSt where
  step    : Nat
  tEntry  : Option Tq
  count   : Nat
  matched : Bool
  forced  : Bool
deriving DecidableEq, Repr

/-- CAP_STATUS.STATE (Table 7-2). -/
inductive CapMode where
  | idle | armed | window
deriving DecidableEq, Repr

/-- A capture unit (R178 to R180): held descriptors, next CAPTURE_SEQ, end of the window in hand, start of the dead interval in progress in ns, length of the last one and the triggers missed in it; winGroup: group of the window in hand; hitUp: when the last trigger reached it, with what that cycle has done: accepted one, coalesced several (R179). -/
structure CapSt where
  mode     : CapMode
  descs    : List Nat
  seqNext  : W32
  winEnd   : Tq
  deadFrom : Option Nat
  dead     : Nat
  missed   : Nat
  winGroup : Nat
  hitUp    : Option Nat
  hitTook  : Bool
  hitMany  : Bool
deriving DecidableEq, Repr

/-- A capture copy job (R178, R184, R185); unit 16 is CAPTURE_READ. channels is a bitmap; sources has the bits of R174; late: frames before it are lost as LATE; frames: those copied; gone: those overwritten before the copy; grids, spans: once an adoption has come, the grids of its epoch and what steps passed on them (R236); tooLong: a frame beyond the 65,535 it can hold has left the history. -/
structure CapJob where
  unit     : Nat
  id       : Nat
  seq      : W32
  group    : Nat
  channels : Nat
  tTrig    : Tq
  lo       : Tq
  hi       : Tq
  epoch    : BitVec 16
  sources  : Nat
  origin   : BitVec 16
  interp   : Bool
  coalesced : Bool
  missed   : Nat
  dead     : Nat
  late     : Tq
  frames   : List HiveFrame
  gone     : List (Nat × Tq)
  grids    : Option (List (Option Tq × Option (Tq × Tq)))
  spans    : List (Tq × Tq)
  tooLong  : Bool
deriving DecidableEq, Repr

/-- Mantis (chapter 07) beyond its per-unit state: line triggers and the trigger-out pulse. -/
structure MantisSt where
  trigSeq     : W32
  partnerSeq  : Option W32
  seen        : List (BitVec 16 × W32 × Nat)
  lastSent    : Cells Nat
  toutHigh    : Bool
  toutUntil   : Nat
  jobs        : List CapJob
deriving DecidableEq, Repr

/-! ### Compression -/

/-- What a lane is working on (R197): a packet of a stream (the packet names the lane), or a segment of a host job, numbered from 0. -/
inductive LaneWork where
  | free
  | packet (stream : Nat)
  | job (id seg : Nat)
deriving DecidableEq, Repr

/-- What a COMPRESS or DECOMPRESS job with CHAIN has left to the next one of its ring (R206): the job, its history, newest byte first, the lane of the chain, or that it failed. -/
structure ChainSt where
  id      : Nat
  ring    : Nat
  inflate : Bool
  failed  : Bool
  history : List Byte
  lane    : Nat
deriving DecidableEq, Repr

/-- A host job that has been accepted and has not ended (R197, R205): segments handed to lanes, segments of a COMPRESS source read so far, the chain it continues, the lane of its chain, the front of a DECOMPRESS source read so far, and the bytes of output written so far. -/
structure JobSt where
  id    : Nat
  taken : Nat
  data  : List (Nat × List Byte)
  chain : Option ChainSt
  lane  : Option Nat
  src   : List Byte
  out   : Nat
deriving DecidableEq, Repr

/-- The compression engine: lanes, host jobs in the order of their acceptance, and what chains left. -/
structure CompSt where
  lanes  : List LaneWork
  jobs   : List JobSt
  chains : List ChainSt
deriving DecidableEq, Repr

/-! ### Firefly -/

/-- FF_STATUS.STATE (Table 9-3). -/
inductive FfMode where
  | free | acquiring | locked | holdover
deriving DecidableEq, Repr

/-- A sync exchange in progress on a port (R226). -/
structure ExchSt where
  seqId : BitVec 16
  epoch : BitVec 16
  reqEpoch : BitVec 16
  t1    : Tq
  t2    : Tq
  t3    : Option Tq
  retry : Bool
deriving DecidableEq, Repr

/-- Firefly's view of one port. -/
structure FfPortSt where
  exch      : List ExchSt
  txSeq     : BitVec 16
  goodRun   : Nat
  delay     : Int
  adoptRun  : Nat
  parentMode : Nat
  conflict  : Bool
  diffSeen  : List (BitVec 16)
  altBad    : Bool
  lastUp    : Option Nat
  syncUp    : Option Nat
deriving DecidableEq, Repr

/-- The servo and its state (R230 to R236). -/
structure FfSt where
  mode       : FfMode
  epoch      : BitVec 16
  altInUse   : Bool
  parentHold : Bool
  integral   : Int
  lockRun    : Nat
  unlockRun  : Nat
  stepRun    : Nat
  ppsRun     : Nat
  firstHere  : Bool
  sinceSwitch : Nat
  holdFrom   : Nat
  goPending  : Option (Nat × BitVec 16)
  source     : Option (BitVec 16 × BitVec 12)
  nowHi      : Option W32
  nowFrac    : Option W32
  modeUp     : Nat
  useUp      : Nat
  ppsUp      : Nat
deriving DecidableEq, Repr

/-- A transmit time stamp (R243 to R246). -/
structure TxStamp where
  tsId  : BitVec 16
  stamp : Tq
  retry : Bool
  gap   : Bool
deriving DecidableEq, Repr

/-- A transmit time-stamp queue. -/
structure TxtsSt where
  queue   : List TxStamp
  gapNext : Bool
deriving DecidableEq, Repr

/-- A pulse programme (Table 9-5); times in 1/65,536 ns. -/
structure PulseProg where
  id     : Nat
  gpio   : Nat
  start  : Tq
  width  : Nat
  period : Tq
  count  : Nat
deriving DecidableEq, Repr

/-- A pulse in progress whose programme has been replaced or stopped: its pin, its edges and the descriptor that retires at its fall (R241). -/
structure PulseTail where
  pin    : Nat
  fallAt : Tq
  riseAt : Tq
  fallId : Option Nat
deriving DecidableEq, Repr

/-- A pulse generator (R239 to R242): the programme that runs, those that wait to replace it in the order they came, next edge, whether the output is high and on which pin, the descriptor that retires at the falling edge, whether the programme's own descriptor has been handed to an edge, and earlier pulses still in progress beside it. -/
structure PulseSt where
  prog     : Option PulseProg
  next     : List PulseProg
  edge     : Nat
  high     : Bool
  fallAt   : Tq
  riseAt   : Tq
  fallId   : Option Nat
  retired  : Bool
  pin      : Nat
  tails    : List PulseTail
deriving DecidableEq, Repr

/-! ### Links -/

/-- Port states, Table 10-5. -/
inductive PortMode where
  | disabled | sleep | detect | clockLock | eqTune | blockLock | deskew | identify | rateTrial | secure | active | fault | test
deriving DecidableEq, Repr

/-- Transmit classes (Table 10-3, R257). -/
inductive TxClass where
  | training | key | firefly | trigger | twin | management
deriving DecidableEq, Repr

/-- A frame's content as the hub sends it. -/
inductive TxBody where
  | sync (m : SyncMsg)
  | delayReq (m : DelayReq)
  | delayResp (m : DelayResp)
  | lineTrigger (f : LineTrig) (stamped : Bool)
  | ident (f : IdentFrame)
  | rate (op : Nat) (code : Nat)
  | soak
  | keyFrame (kind : Nat) (payload : List Byte)
  | digest (f : DigestFrame)
  | health (f : HealthFrame)
  | streamSync (entries : List SyncEntry)
  | mains (f : MainsFrame)
  | cfgData (records : List W32) (last : Bool)
  | cfgReady (crc : W32)
  | cfgArm (frame : Nat)
  | vaultSync (vseq : W32) (tExit : Nat)
  | mgmt
deriving DecidableEq, Repr

/-- Session keys of a port (R271): transmit and receive key with salt, transmission counter, frames received under them (R274), key phase. -/
structure LinkKeys where
  txKey   : List Byte
  rxKey   : List Byte
  txSalt  : List Byte
  rxSalt  : List Byte
  counter : Nat
  received : Nat
  phase   : Bool
deriving DecidableEq, Repr

/-- A frame in a class queue, in transmission or in the replay buffer. injected: the injector has acted on it (R280); cipher: the keys it is sealed under, from its start on (R272). -/
structure TxFrame where
  cls    : TxClass
  body   : TxBody
  lseq   : BitVec 12
  tsReq  : Bool
  tsId   : BitVec 16
  retry  : Bool
  tries  : Nat
  queued : Nat
  stamp  : Tq
  injected : Bool
  cipher : Option LinkKeys
deriving DecidableEq, Repr

/-- A link injection pending (Table 10-7). -/
structure LinkInj where
  action : Nat
  count  : Nat
  filter : Nat
  param  : Nat
deriving DecidableEq, Repr

/-- Blocks as they leave on the two lanes (R251, R252): the scrambler register of each lane before them, the scrambled blocks, and the lanes that are silent meanwhile (R280). -/
structure WireSt where
  before0 : BitVec 58
  before1 : BitVec 58
  onLane1 : Bool
  blocks  : List Block
  dark0   : Bool
  dark1   : Bool
deriving DecidableEq, Repr

/-- A Utina port (chapter 10). policy, sleeps: SPEED_POLICY and IDLE_SLEEP of this bring-up (R281); trained: the last rate trained (R279); clockLock: the receive clock is locked (R250); fastIn: it came into service by a fast retrain (R269); keysAt: when its keys were derived, newKeys: keys that apply behind the KEY_CONFIRM on its way (R274); ctl, ctlSent: the ACK or NAK block last sent, and how many (R258); laneUp, txPos: when the lanes began to carry blocks at this rate, and the block position up to which they have (R252); scram0, scram1: the scrambler registers there (R251); ctlWait: control blocks on their way inside the frame in transmission, with their positions (R253); bad0, bad1: blocks of a lane still to leave with an invalid header (R280); seed0, seed1: the pattern registers with which TEST began (R279); skew: blocks by which lane 0 arrives behind lane 1 (R252); wire, kept: what left last, and a frame the injector holds back to swap it (R280); sent: frames of the last second with their blocks (R282); testUp, test31: when the state was entered, and whether the pattern of TEST is PRBS31 (R263, R279); trialUp, soakUp: when the rate trial and its soak began (R263, R266); ackUp: when an ACK last advanced or the oldest frame that waits for one was sent (R259); trainUp: when lastTrain was last sent (R263). trialStep: inside RATE_TRIAL 0 between trials, 1 proposed, 2 to 5 CLOCK_LOCK to DESKEW at the other rate, 6 soak, 7 results; back: it returns to the previous rate; ackSent, lastAcked: LSEQ last acknowledged to and by the partner; lastTrain: the training frame that waits for its answer. -/
structure LinkSt where
  mode      : PortMode
  fast      : Bool
  rate      : Nat
  prevRate  : Nat
  bestRate  : Nat
  trial     : Option Nat
  trialStep : Nat
  back      : Bool
  ownClean  : Bool
  sentPass  : Option Bool
  gotPass   : Option Bool
  peak0     : Nat
  peak1     : Nat
  swapped   : Bool
  inv0      : Bool
  inv1      : Bool
  faultCause : Nat
  rtt       : Nat
  partner   : Option IdentFrame
  known     : Option (BitVec 128)
  txNext    : BitVec 12
  rxNext    : BitVec 12
  lastAcked : BitVec 12
  ackSent   : BitVec 12
  nakFor    : Option (BitVec 12)
  queues    : List TxFrame
  current   : Option TxFrame
  replay    : List TxFrame
  resend    : List (BitVec 12)
  keys      : Option LinkKeys
  oldKeys   : Option LinkKeys
  ephemeral : Option (List Byte)
  transcript : List Byte
  authRun   : Nat
  authTimes : List Nat
  hiBer     : Bool
  hiBerRun  : Nat
  chirpUp   : Option Nat
  loadUp    : Option Nat
  lastTrain : Option TxBody
  discarded : Bool
  inject    : List LinkInj
  policy    : Nat
  sleeps    : Bool
  trained   : Option Nat
  clockLock : Bool
  fastIn    : Bool
  keysAt    : Nat
  newKeys   : Option LinkKeys
  ctl       : BitVec 64
  ctlSent   : Nat
  laneUp    : Nat
  txPos     : Nat
  scram0    : BitVec 58
  scram1    : BitVec 58
  ctlWait   : List (Nat × Block)
  bad0      : Nat
  bad1      : Nat
  seed0     : BitVec 31
  seed1     : BitVec 31
  skew      : Int
  wire      : WireSt
  kept      : Option (List Block)
  sent      : List (Nat × Nat)
  testUp    : Nat
  test31    : Bool
  trialUp   : Nat
  soakUp    : Nat
  ackUp     : Nat
  trainUp   : Nat
deriving DecidableEq, Repr

/-! ### Host interface -/

/-- A descriptor in flight (R301). ring 64 is the side-band port; inline is its buffer; bad: the status with which the first check refused it, while it waits for its fence. -/
structure Desc where
  id     : Nat
  ring   : Nat
  cq     : Nat
  words  : List W32
  inline : List Byte
  since  : Nat
  taken  : Bool
  bad    : Nat
  fetchedAt : Tq
deriving DecidableEq, Repr

/-- A completion waiting to be posted (Table 11-12). -/
structure Completion where
  id      : Nat
  ring    : Nat
  tag     : BitVec 16
  status  : BitVec 16
  irq     : Bool
  resS    : BitVec 16
  res     : List W32
  tRetire : Nat
deriving DecidableEq, Repr

/-- A submission ring (R287 to R292). -/
structure SqSt where
  enabled : Bool
  stopped : Bool
  drained : Bool
  fetched : Nat
  tail    : Nat
deriving DecidableEq, Repr

/-- A completion ring (R298 to R300). -/
structure CqSt where
  enabled : Bool
  posted  : Nat
  head    : Nat
  pending : Nat
  firstUp : Nat
deriving DecidableEq, Repr

/-- The host interface (chapter 11) and host memory as the hub reaches it. control: what the host has set in the configuration space; gen, width: rate and width the link trained to (Table 11-1; 0 while it has not); aer: the AER uncorrectable error status (R294); pollUp: when the last doorbell poll fell due (R288). -/
structure HostSt where
  mem       : List Host.Cell
  bad       : List (Nat × Nat)
  control   : PcieControl
  gen       : Nat
  width     : Nat
  aer       : W32
  pollUp    : Nat
  fetching  : Bool
  again     : Bool
  nextId    : Nat
  inflight  : List Desc
  waiting   : List (Nat × Completion)
  turn      : Nat
deriving DecidableEq, Repr

/-! ### Configuration -/

/-- The open transaction (chapter 12). -/
structure TxnSt where
  id      : W32
  shadow  : Cells Nat
  written : List Nat
  profile : Option Nat
  persist : Bool
  authorised : Bool
  inBad   : Bool
  vaultOwned : Bool
  touchedUp : Nat
deriving DecidableEq, Repr

/-- A commit that has passed validation (R317): its descriptor, the staged bank, the keys its transaction wrote, the profile it selects, PERSIST, whether its transaction began while the configuration was BAD. sealing: it waits for the alibi store (R371); armed; per group: still to take the bank, its boundary reached, to hold; the commit's own boundary still to come, and the group that sets it; the transaction, for a validation that runs again (R318); frames stopped (RES3), last frame under the old configuration (RES0-RES1), the frame that ends with the flip (R349), an ARM that came late, and whether the groups' mains weights follow the commit and the acceptance of mains periods has still to start again (R126, R134); sentUp: when it went to the standby (R349); counted: its change of the sealed set is counted and entered (R371). -/
structure FlipSt where
  id       : Option Nat
  staged   : Cells Nat
  written  : List Nat
  profile  : Option Nat
  persist  : Bool
  inBad    : Bool
  sealing  : Bool
  armed    : Bool
  waitA    : Bool
  waitB    : Bool
  atA      : Bool
  atB      : Bool
  holdA    : Bool
  holdB    : Bool
  shared   : Bool
  lead     : Option Nat
  txn      : Option TxnSt
  frames   : Nat
  lastK    : Option Nat
  atFrame  : Option Nat
  late     : Bool
  mains    : Bool
  again    : Bool
  sentUp   : Nat
  counted  : Bool
deriving DecidableEq, Repr

/-- A stored-configuration copy (R437): format, sequence, profile, records' bytes, CFG_HASH, the verdict of its CRC-32C. -/
structure StoredCfg where
  format  : Nat
  seq     : W32
  profile : Nat
  records : List W32
  hash    : List Byte
  good    : Bool
deriving DecidableEq, Repr

/-- The configuration (chapter 12): live bank, open transaction, next ID, armed or sealing commit, profile, BAD, the stored copy being written (R329), what waits for READY (R349), CFG_DATA received; dataOut, dataUp: frames of CFG_DATA still to be queued, and when the first was (R257, R349); armAt: READY has come in event mode, and F is the first frame that strobes from here on, of the commit (true) or of a resync (R349, R359). -/
structure CfgSt where
  live     : Cells Nat
  txn      : Option TxnSt
  nextId   : W32
  flip     : Option FlipSt
  profile  : Nat
  committed : Bool
  badCause : Nat
  bad      : Bool
  storePending : Option StoredCfg
  waitReady : Option FlipSt
  twinData : List W32
  dataOut  : List (List W32)
  dataUp   : Nat
  armAt    : Option (Bool × Tq)
deriving DecidableEq, Repr

/-! ### Twin -/

/-- Roles, Table 13-1. -/
inductive Role where
  | unresolved | solo | active | standby | standbyUnfit | seized
deriving DecidableEq, Repr

/-- A retirement that waits for its acknowledgement (R353): its descriptor, the entry that reports it, and when it was reported. -/
structure AckWait where
  id    : Nat
  entry : SyncEntry
  up    : Nat
deriving DecidableEq, Repr

/-- Twin operation (chapter 13). lost: the unit is ACTIVE after a takeover; own: digests of the unit's own frames with the time of their readiness; healthUp, dualUp: the last periodic HEALTH, and since when the partner has reported ACTIVE beside this unit; swapEdgeA, swapEdgeB: the last strobe edges of the groups under the old active (R357); sumInj: when the standby last sent a digest with an injected sum (R468). -/
structure TwinSt where
  role       : Role
  reasons    : BitVec 16
  partner    : Option HealthFrame
  mine       : Option HealthFrame
  epochRun   : Nat
  hashRun    : Nat
  timeRun    : Nat
  timeGood   : Nat
  aliveOut   : Bool
  aliveAt    : Option Nat
  seizeOut   : Bool
  resumeWait : Bool
  lost       : Bool
  twinDownUp : Option Nat
  failCores  : W64
  runs       : Cells (Nat × Nat)
  own        : List (DigestFrame × Nat)
  theirs     : List DigestFrame
  missingRun : Nat
  pairRun    : Nat
  syncQueue  : List SyncEntry
  awaiting   : List AckWait
  swapId     : Option Nat
  swapFrame  : Option Nat
  swapAt     : Tq
  swapEdgeA  : Tq
  swapEdgeB  : Tq
  pulseFrom  : Tq
  swapAsked  : Bool
  lateFlip   : Bool
  stuck      : Bool
  resync     : Nat
  digestPlaus : W64
  capSeqs    : Cells W32
  healthUp   : Nat
  dualUp     : Option Nat
  sumInj     : Option Nat
deriving DecidableEq, Repr

/-! ### Vault -/

/-- VAULT_STATUS.STATE (Table 14-8). -/
inductive VaultMode where
  | off | starting | running | fault
deriving DecidableEq, Repr

/-- An open occupancy interval of a platform (R374): T_ENTRY, time of its last occupied output, nets with whether an output counts as marked, newest first, and what stood during it. -/
structure Interval where
  tEntry   : Nat
  tLast    : Nat
  nets     : List (Int × Bool)
  sealOpen : Bool
  unlocked : Bool
  inhibited : Bool
deriving DecidableEq, Repr

/-- A weighing result, issued or held (R376, R378). -/
structure WeighSt where
  platform : Nat
  tEntry   : Nat
  tExit    : Nat
  epoch    : BitVec 16
  status   : BitVec 16
  mass     : Int
  wd       : Int
  k        : Nat
  markedN  : Nat
  event    : W32
deriving DecidableEq, Repr

/-- The Scarab vault (chapter 14). -/
structure VaultSt where
  mode      : VaultMode
  imageVersion : W32
  imageCrc  : W32
  imageDigest : List Byte
  sealed    : Cells Nat
  sealedGood : Bool
  intervals : Cells (Option Interval)
  ready     : List WeighSt
  heldRes   : List WeighSt
  toStore   : List (List W32)
  records   : List (W32 × List W32)
  seqNext   : W32
  acked     : Option W32
  audit     : List (List W32)
  challenge : Nat
  lastSync  : Option Nat
  tTake     : Option Nat
deriving DecidableEq, Repr

/-! ### Svetron -/

/-- Svetron (chapter 15): non-volatile owner material and counters, challenge and session draws, unlocks, and the requests that wait, oldest first; goWaits: address and length of one still to be read (R390). -/
structure SvSt where
  owned      : Bool
  ownerKey   : List Byte
  metrology  : Option (List Byte)
  endorsement : Option (List Byte)
  policy     : W32
  ownerGen   : W32
  svn        : W32
  eventCount : W32
  sbKey      : List Byte
  session    : Nat
  draws      : Nat
  challenge  : Nat
  sbCounter  : W64
  badSigs    : Nat
  backoff    : Option Nat
  injectOpen : Bool
  debugOpen  : Bool
  withheld   : Bool
  requests   : List (Path × List Byte)
  goWaits    : Option (Nat × Nat)
deriving DecidableEq, Repr

/-! ### Power, side-band, flash, trace, log, injector -/

/-- Power states, Table 16-1. -/
inductive PowerMode where
  | run | doze | hibEntry | hibernate | hibExit
deriving DecidableEq, Repr

/-- Power (chapter 16): state, the state an entry left, LAST_RESULT, when the entry began, wake sources latched behind the commit point, the Cricket count at which the wake timer fires, DOZE refusers that hold the hub in RUN, since when the fast PLLs are stopped and for which spans they were (in ns since POR), sources of the last exit, groups an entry stopped, the Cricket count at the last wake, the last Hibernate request with its path (R408, R414), whether the entry is past its commit point, the refusers that arose before it (R410, R413), and whether the core and the converter clock are gated (R405, R406). -/
structure PwrSt where
  mode      : PowerMode
  leftMode  : PowerMode
  lastResult : Nat
  entryUp   : Nat
  latched   : W32
  wakeTimer : Option W32
  onset     : BitVec 6
  pllFrom   : Option Nat
  pllSpans  : List (Nat × Nat)
  lastWake  : W32
  stopped   : List Group
  wakeAt    : W32
  reqUp     : Option (Nat × Path)
  committed : Bool
  arose     : BitVec 6
  gated     : Bool
  gatedCnv  : Bool
deriving DecidableEq, Repr

/-- The side-band port (chapter 17). endUp: when the last frame that was taken ended (R424). -/
structure SbSt where
  result   : Byte
  cmd      : Byte
  param    : BitVec 16
  response : List W32
  reqBuf   : Cells W32
  descBusy : Bool
  endUp    : Option Nat
deriving DecidableEq, Repr

/-- Slot states, Table 17-7. -/
inductive SlotMode where
  | empty | staging | staged | trial | confirmed | previous | rejected
deriving DecidableEq, Repr

/-- A page program in progress (begun) or waiting (R429, R430). -/
structure FlashWrite where
  second  : Bool
  offset  : Nat
  data    : List Byte
  begun   : Bool
deriving DecidableEq, Repr

/-- The flash port, the image slots and the stored configuration: bytes and programmed ranges of both devices, devices present, I/O in use, slots, FW_STAGED_BYTES, page programs waiting, stored copies of device A and of device B (R428), CFG_FORMAT of the running image, the vault image before a trial (version, CRC-32C, digest), when the engine's pause began, and when the trial began; clk, pageA, pageB: highest clock in MHz of the devices present and their page sizes; quadA, quadB: quad enable as the hub has set it (R427); stageBad: a program or erase of the chunk being staged has failed (R433); selfTest: the running image's start-up self-test has passed (R435). An erased byte reads 0xFF. -/
structure FlashSt where
  memA     : List Host.Cell
  memB     : List Host.Cell
  written  : List (Bool × Nat × Nat)
  presentA : Bool
  presentB : Bool
  io       : Nat
  slotA    : SlotMode
  slotB    : SlotMode
  runningB : Bool
  staged   : Nat
  writes   : List FlashWrite
  stored   : List StoredCfg
  storedB  : List StoredCfg
  format   : Nat
  oldVault : Option (W32 × W32 × List Byte)
  pauseUp  : Option Nat
  trialUp  : Nat
  clk      : Nat
  pageA    : Nat
  pageB    : Nat
  quadA    : Bool
  quadB    : Bool
  stageBad : Bool
  selfTest : Bool
deriving DecidableEq, Repr

/-- A trace entry (Table 17-9). -/
structure TraceEntry where
  kind   : Byte
  source : Byte
  epoch  : BitVec 16
  time   : W64
  data   : W32
deriving DecidableEq, Repr

/-- Trace storage (R438). -/
structure TraceSt where
  entries : List TraceEntry
  full    : Bool
deriving DecidableEq, Repr

/-- An error record (Table 19-2). -/
structure ErrRec where
  eseq      : W32
  cls       : Nat
  injected  : Bool
  nested    : Bool
  coalesced : Bool
  lostBefore : Bool
  engine    : Bool
  reg       : Nat
  bit       : Nat
  inst      : Nat
  tFirst    : Nat
  epoch     : BitVec 16
  count     : Nat
  parent    : W32
  detail    : W32
deriving DecidableEq, Repr

/-- A source in handling (R458, R459): its opening record, the record it belongs to now, class, nested records written. -/
structure Handling where
  reg     : Nat
  inst    : Nat
  bit     : Nat
  eseq    : W32
  cls     : Nat
  nested  : Nat
  eighth  : W32
deriving DecidableEq, Repr

/-- An error as a rule raises it. recovers: the raising rule names a recovery that ends later, so the source enters handling (R458). -/
structure ErrIn where
  cls      : Nat
  reg      : Nat
  bit      : Nat
  inst     : Nat
  detail   : Nat
  engine   : Bool
  injected : Bool
  early    : Bool
  recovers : Bool
deriving DecidableEq, Repr

/-- The error log (chapter 19). gather: while the errors of one core clock cycle are being raised, those raised so far; none between commands (R457). -/
structure LogSt where
  records  : List ErrRec
  handling : List Handling
  lostNext : Bool
  fatal    : Bool
  msiUp    : Option Nat
  msiDue   : Bool
  gather   : Option (List ErrIn)
deriving DecidableEq, Repr

/-- A pending injection (Table 19-6): target, action, index, how many are left, and the value it adds, or for one that lasts a time when that runs out, in ns since the timebase started. -/
structure Injection where
  target : Nat
  action : Nat
  index  : Nat
  left   : Nat
  value  : Int
deriving DecidableEq, Repr

/-! ### Reasons to stop -/

/-- Machine faults. The manual gives the hub no stop (every fault it describes is a state), so no meaning of this model raises one. -/
inductive Fault where
  /-- Raised by nobody: kept so that the type has a value. Safe. -/
  | none
deriving DecidableEq, Repr

/-- Refusals. -/
inductive Refusal where
  /-- Raised by exec for a command whose meaning is not written yet. Safe: no claim about it can be proved. -/
  | notModelled (mnemonic : String)
deriving DecidableEq, Repr

/-! ### The state -/

/-- The whole hub. regs holds every register of the register window that stores a word of its own, by address; registers that show another field are computed by the read function. -/
structure State where
  tm      : TimeSt
  otp     : OtpSt
  pads    : PadSt
  boot    : BootSt
  regs    : Cells W32
  grp     : Cells GroupSt
  edge    : Cells EdgeSample
  core    : Cells CoreSt
  pair    : Cells CheckSt
  res     : Cells (Option ResultSt)
  ain     : Cells InputSt
  exc     : Cells ExcSt
  pump    : PumpSt
  flt     : Cells StageSt
  mains   : MainsSt
  strm    : Cells StreamSt
  hive    : List HiveFrame
  hiveLost : Cells (List (Nat × Tq))
  stats   : Cells StatCh
  cond    : Cells CondSt
  trig    : Cells TrigSt
  cap     : Cells CapSt
  mantis  : MantisSt
  comp    : CompSt
  ff      : FfSt
  ffPort  : Cells FfPortSt
  txts    : Cells TxtsSt
  pulse   : Cells PulseSt
  link    : Cells LinkSt
  host    : HostSt
  sq      : Cells SqSt
  cq      : Cells CqSt
  cfg     : CfgSt
  twin    : TwinSt
  vault   : VaultSt
  sv      : SvSt
  pwr     : PwrSt
  sb      : SbSt
  flash   : FlashSt
  trace   : TraceSt
  log     : LogSt
  inj     : List Injection
  injectedNow : Bool
  freeCtr : Nat
  pending : List Instr
deriving DecidableEq, Repr

/-! ### Values at reset -/

/-- What a register that stores a word reads after POR: 0 but for MGMT_HOLD_MS (Table 11-3), ERRLOG_CTRL (Table 19-7) and the mask bit of an MSI-X vector (assumption 10). -/
def resetWord (addr : Nat) : W32 :=
  if addr = 0x400C then 0x2710
  else if addr = 0x7C004 then 1
  else if 0x6000 ≤ addr ∧ addr < 0x6400 ∧ addr % 16 = 12 then 1
  else 0

def TimeSt.init : TimeSt := ⟨false, 0, 0, 0, 0, 0, 0, 0, 0⟩
/-- Neutral converter terms (R108). -/
def CoreTrim.neutral : CoreTrim := ⟨(List.range 22).map (fun i => 64 * 2 ^ i), 134217728, 0, 4194304⟩
/-- Neutral amplifier terms (R108). -/
def AmpTrim.neutral : AmpTrim := ⟨0, 0, 4194304, 0⟩
def OtpSt.init : OtpSt := ⟨false, 0, 0, true, [], [], List.replicate 32 0, [], List.replicate 48 0⟩
def PadSt.init : PadSt := ⟨0, 0, true, false, false, false, false, 0, 0, [], []⟩
def BootSt.init : BootSt := ⟨0, none, none, false, false, false, [], 0, false, .absent, [], false, 0, 0⟩
def GroupSt.init : GroupSt :=
  ⟨.stopped, 0, false, 0, 0, 0, none, none, false, 0, false, 0, false, 0, [], [], 0, 0, none, false, false, [], false, false⟩
def EdgeSample.none : EdgeSample := ⟨[], [], [], [], [], 0⟩
def CheckSt.init : CheckSt := ⟨false, 0, 0⟩
def CoreSt.init : CoreSt :=
  ⟨.init, .init, .init, .init, .init, none, none, false, 0, 0, false, false, none, 0⟩
def InputSt.init : InputSt := ⟨false, false, 0, false, false, 0, false, false, false⟩
def ExcSt.init : ExcSt :=
  ⟨.disabled, false, 0, none, false, false, false, 0, 0, false, 0, 0, false, 0, true, 0, false, false, 0, 0, 0⟩
def PumpSt.init : PumpSt := ⟨false, false, none, false, false, false, 0⟩
def StageSt.init : StageSt := ⟨[], 0, 0⟩
def MainsSt.init : MainsSt := ⟨.off, false, none, 0, 0, false, [], 0, none, false, 0, none, false, false, false, false, 0, 0, false, false, 0, 0⟩
def StreamSt.init : StreamSt :=
  { seqNext := 0, openPkt := none, openedUp := 0, closing := [], queue := [], bufs := [], overflow := false, resume := false,
    losses := [], tail := none, placed := none, floor := 0, skipTo := none, flush := false, flushCut := false,
    flushSeq := none, marker := none, retired := none, handover := none, held := [], split := false, form := none, ending := false, awaitCut := none }
def StatCh.init : StatCh := ⟨none, []⟩
def CondSt.init : CondSt := ⟨false, false, [], false⟩
def TrigSt.init : TrigSt := ⟨0, none, 0, false, false⟩
def CapSt.init : CapSt := ⟨.idle, [], 0, 0, none, 0, 0, 0, none, false, false⟩
def MantisSt.init : MantisSt := ⟨0, none, [], [], false, 0, []⟩
def CompSt.init : CompSt := ⟨[.free, .free, .free, .free], [], []⟩
def FfPortSt.init : FfPortSt := ⟨[], 0, 0, 0, 0, 0, false, [], false, none, none⟩
def FfSt.init : FfSt := ⟨.free, 0xFFFF, false, false, 0, 0, 0, 0, 0, true, 16, 0, none, none, none, none, 0, 0, 0⟩
def TxtsSt.init : TxtsSt := ⟨[], false⟩
def PulseSt.init : PulseSt := ⟨none, [], 0, false, 0, 0, none, false, 0, []⟩
def LinkSt.init : LinkSt :=
  { mode := .disabled, fast := false, rate := 0, prevRate := 0, bestRate := 0, trial := none, trialStep := 0, back := false, ownClean := true,
    sentPass := none, gotPass := none, peak0 := 0, peak1 := 0, swapped := false, inv0 := false, inv1 := false,
    faultCause := 0, rtt := 0, partner := none, known := none, txNext := 0, rxNext := 0, lastAcked := 0xFFF,
    ackSent := 0xFFF, nakFor := none, queues := [], current := none, replay := [], resend := [], keys := none,
    oldKeys := none, ephemeral := none, transcript := [], authRun := 0, authTimes := [], hiBer := false,
    hiBerRun := 0, chirpUp := none, loadUp := none, lastTrain := none, discarded := false, inject := [],
    policy := 0, sleeps := false, trained := none, clockLock := false, fastIn := false, keysAt := 0, newKeys := none,
    ctl := 0, ctlSent := 0, laneUp := 0, txPos := 0, scram0 := 0, scram1 := 0, ctlWait := [], bad0 := 0, bad1 := 0, seed0 := 1, seed1 := 1, skew := 0,
    wire := ⟨0, 0, false, [], false, false⟩, kept := none, sent := [], testUp := 0, test31 := false,
    trialUp := 0, soakUp := 0, ackUp := 0, trainUp := 0 }
def SqSt.init : SqSt := ⟨false, false, false, 0, 0⟩
def CqSt.init : CqSt := ⟨false, 0, 0, 0, 0⟩
/-- The configuration space after a reset of the port (R307; assumption 62). -/
def controlInit : PcieControl := ⟨false, false, false, 128, 512⟩
def HostSt.init : HostSt := ⟨[], [], controlInit, 0, 0, 0, 0, false, false, 0, [], [], 0⟩
def CfgSt.init : CfgSt :=
  { live := [], txn := none, nextId := 1, flip := none, profile := 1, committed := false, badCause := 0, bad := false,
    storePending := none, waitReady := none, twinData := [], dataOut := [], dataUp := 0, armAt := none }
def TwinSt.init : TwinSt :=
  { role := .unresolved, reasons := 0x40, partner := none, mine := none, epochRun := 0, hashRun := 0,
    timeRun := 0, timeGood := 0, aliveOut := false, aliveAt := none, seizeOut := false, resumeWait := false,
    lost := false, twinDownUp := none, failCores := 0, runs := [], own := [], theirs := [], missingRun := 0, pairRun := 0,
    syncQueue := [], awaiting := [], swapId := none, swapFrame := none, swapAt := 0, swapEdgeA := 0, swapEdgeB := 0, pulseFrom := 0, swapAsked := false,
    lateFlip := false, stuck := false, resync := 0, digestPlaus := 0, capSeqs := [], healthUp := 0, dualUp := none, sumInj := none }
def VaultSt.init : VaultSt :=
  { mode := .starting, imageVersion := 0, imageCrc := 0, imageDigest := [], sealed := [], sealedGood := true, intervals := [], ready := [],
    heldRes := [], toStore := [], records := [], seqNext := 0, acked := none, audit := [], challenge := 0,
    lastSync := none, tTake := none }
def SvSt.init : SvSt :=
  { owned := false, ownerKey := [], metrology := none, endorsement := none, policy := 0, ownerGen := 0, svn := 0,
    eventCount := 0, sbKey := [], session := 0, draws := 1, challenge := 0, sbCounter := 0, badSigs := 0, backoff := none,
    injectOpen := false, debugOpen := false, withheld := false, requests := [], goWaits := none }
def PwrSt.init : PwrSt := ⟨.run, .run, 0, 0, 0, none, 0, none, [], 0, [], 0, none, false, 0, false, false⟩
def SbSt.init : SbSt := ⟨0, 0, 0, [], [], false, none⟩
def FlashSt.init : FlashSt :=
  { memA := [], memB := [], written := [], presentA := false, presentB := false, io := 0, slotA := .confirmed,
    slotB := .empty, runningB := false, staged := 0, writes := [], stored := [], storedB := [], format := 0, oldVault := none,
    pauseUp := none, trialUp := 0, clk := 0, pageA := 256, pageB := 256, quadA := false, quadB := false, stageBad := false, selfTest := false }
def TraceSt.init : TraceSt := ⟨[], false⟩
def LogSt.init : LogSt := ⟨[], [], false, false, none, false, none⟩

/-- The hub in reset, before its first command: every register at the value the manual gives for POR, nothing running (assumptions 1, 5 to 8). -/
def State.reset : State :=
  { tm := .init, otp := .init, pads := .init, boot := .init, regs := [], grp := [], edge := [], core := [], pair := [],
    res := [], ain := [], exc := [], pump := .init, flt := [], mains := .init, strm := [], hive := [], hiveLost := [],
    stats := [], cond := [], trig := [], cap := [], mantis := .init, comp := .init, ff := .init, ffPort := [],
    txts := [], pulse := [], link := [], host := .init, sq := [], cq := [], cfg := .init, twin := .init,
    vault := .init, sv := .init, pwr := .init, sb := .init, flash := .init, trace := .init, log := .init, inj := [],
    injectedNow := false, freeCtr := 0, pending := [] }

end Sys2Proof.Machine
end

