-- ==== Sys2Proof/Machine/Bits.lean ====
section
/-! DEFINITION. Exact arithmetic of the manual's pseudocode (chapter 00, R96, R115), byte order (R6, R7) and CRC-32C (R211). -/

namespace Sys2Proof.Machine

open Sys2Proof

/-- Exact rational rounding to the nearest integer, a tie to the even one (R96, R115). -/
def roundHalfEven (num : Int) (den : Nat) : Int :=
  let q := num / (den : Int)
  let r := num % (den : Int)
  if 2 * r < den then q
  else if 2 * r > den then q + 1
  else if q % 2 = 0 then q else q + 1

/-- Rounding to the nearest multiple, a tie upward (R37, R240): the count of units. -/
def roundHalfUp (num : Nat) (den : Nat) : Nat := (2 * num + den) / (2 * den)

/-- Saturation between two limits. -/
def clampInt (lo hi v : Int) : Int := min (max v lo) hi

/-- Arithmetic right shift. -/
def asr (v : Int) (n : Nat) : Int := v / (2 ^ n : Nat)

/-- The signed value of an n-bit two's complement pattern. -/
def signedOf (bits : Nat) (v : Nat) : Int :=
  if v % 2 ^ bits < 2 ^ (bits - 1) then (v % 2 ^ bits : Nat) else (v % 2 ^ bits : Nat) - (2 ^ bits : Nat)

/-- The 32-bit pattern of a signed value that saturates at the 32-bit limits (R228, R234, R248). -/
def satWord (v : Int) : W32 := BitVec.ofInt 32 (clampInt (-2147483648) 2147483647 v)

/-- Bits [hi:lo] of a word as a number. -/
def field (w : W32) (hi lo : Nat) : Nat := w.toNat / 2 ^ lo % 2 ^ (hi + 1 - lo)

/-- A single bit as a word at its place. -/
def bitAt (n : Nat) (b : Bool) : W32 := if b then BitVec.ofNat 32 (2 ^ n) else 0

/-- A number at a bit position of a word. -/
def at_ (n v : Nat) : W32 := BitVec.ofNat 32 (v * 2 ^ n)

/-- The bytes of a number, least significant first (R6). -/
def leBytes : Nat → Nat → List Byte
  | 0, _ => []
  | n + 1, v => BitVec.ofNat 8 v :: leBytes n (v / 256)

/-- The number that bytes spell, least significant first (R6). -/
def ofLeBytes : List Byte → Nat
  | [] => 0
  | b :: bs => b.toNat + 256 * ofLeBytes bs

/-- Words as bytes (R6). -/
def wordBytes (ws : List W32) : List Byte := ws.flatMap (fun w => leBytes 4 w.toNat)

/-- Bytes as words; a last partial word is padded with 0. -/
def bytesToWords (fuel : Nat) (bs : List Byte) : List W32 :=
  match fuel, bs with
  | 0, _ => []
  | _, [] => []
  | f + 1, b :: rest => BitVec.ofNat 32 (ofLeBytes ((b :: rest).take 4)) :: bytesToWords f ((b :: rest).drop 4)

/-- Words of a byte list. -/
def wordsOf (bs : List Byte) : List W32 := bytesToWords (bs.length / 4 + 1) bs

/-- A 64-bit value as two words, low first (R7). -/
def two (v : Nat) : List W32 := [W32.lo v, W32.hi v]

/-- Words of a list, 0 past its end. -/
def wordAt (ws : List W32) (n : Nat) : W32 := ws.getD n 0

/-- A 64-bit value at words n and n + 1. -/
def word2 (ws : List W32) (n : Nat) : Nat := (wordAt ws n).toNat + 4294967296 * (wordAt ws (n + 1)).toNat

/-- The number that words spell, low word first. -/
def ofWords : List W32 → Nat
  | [] => 0
  | w :: ws => w.toNat + 4294967296 * ofWords ws

/-- The n words of a number, low word first. -/
def toWords : Nat → Nat → List W32
  | 0, _ => []
  | n + 1, v => BitVec.ofNat 32 v :: toWords n (v / 4294967296)

/-- One bit step of the reflected CRC-32C register (R211). -/
def crcStep (c : W32) : W32 := if c.getLsbD 0 then (c >>> 1) ^^^ 0x82F63B78 else c >>> 1

/-- One byte into the CRC-32C register (R211). -/
def crcByte (c : W32) (b : Byte) : W32 :=
  (List.range 8).foldl (fun a _ => crcStep a) (c ^^^ BitVec.setWidth 32 b)

/-- CRC-32C of R211. -/
def crc32c (bs : List Byte) : W32 := bs.foldl crcByte 0xFFFFFFFF ^^^ 0xFFFFFFFF

/-- CRC-32C over words in the byte order of R6. -/
def crcWords (ws : List W32) : W32 := crc32c (wordBytes ws)

/-- Floor of the square root by bisection on bits (R160). -/
def isqrt : Nat → Nat → Nat → Nat
  | 0, r, _ => r
  | b + 1, r, v => if (r + 2 ^ b) * (r + 2 ^ b) ≤ v then isqrt b (r + 2 ^ b) v else isqrt b r v

/-- The ASCII bytes of a string. -/
def ascii (s : String) : List Byte := s.toList.map (fun c => BitVec.ofNat 8 c.toNat)

/-- A number with the listed bits set. -/
def maskOf (bits : List Nat) : Nat := bits.foldl (fun a b => a ||| 2 ^ b) 0

/-- The set bits of a number below a bound, in rising order. -/
def bitsOf (bound : Nat) (v : Nat) : List Nat := (List.range bound).filter (fun i => v.testBit i)

end Sys2Proof.Machine
end

