-- ==== Sys2Proof/Machine/Store.lean ====
section
/-! DEFINITION. Sparse stores in one canonical form: indices strictly rising, no entry equal to what an unlisted index reads as. Every indexed piece of state and host memory and flash are kept this way. -/

namespace Sys2Proof.Machine

open Sys2Proof

/-- What the store holds at an index; d gives what an unlisted index reads as. -/
def Cells.get {α : Type} (d : Nat → α) : Cells α → Nat → α
  | [], a => d a
  | (k, v) :: rest, a => if k = a then v else Cells.get d rest a

/-- Put an entry in front unless it says what an unlisted index reads as anyway. -/
def Cells.put {α : Type} [DecidableEq α] (d : Nat → α) (a : Nat) (v : α) (rest : Cells α) : Cells α :=
  if v = d a then rest else (a, v) :: rest

/-- Write one index. -/
def Cells.set {α : Type} [DecidableEq α] (d : Nat → α) : Cells α → Nat → α → Cells α
  | [], a, v => Cells.put d a v []
  | (k, w) :: rest, a, v =>
    if a < k then Cells.put d a v ((k, w) :: rest)
    else if a = k then Cells.put d a v rest
    else (k, w) :: Cells.set d rest a v

/-- Change one index. -/
def Cells.upd {α : Type} [DecidableEq α] (d : Nat → α) (m : Cells α) (a : Nat) (f : α → α) : Cells α :=
  Cells.set d m a (f (Cells.get d m a))

/-- Change many indices, in order. -/
def Cells.updAll {α : Type} [DecidableEq α] (d : Nat → α) (m : Cells α) (is : List Nat) (f : Nat → α → α) : Cells α :=
  is.foldl (fun m a => Cells.upd d m a (f a)) m

/-- The canonical form from a lower bound on: indices strictly rising, no entry that reads as an unlisted one. -/
def Cells.wfFrom {α : Type} [DecidableEq α] (d : Nat → α) : Nat → Cells α → Bool
  | _, [] => true
  | lo, (k, v) :: rest => decide (lo ≤ k) && !decide (v = d k) && Cells.wfFrom d (k + 1) rest

/-- The canonical form. -/
def Cells.wf {α : Type} [DecidableEq α] (d : Nat → α) (m : Cells α) : Bool := Cells.wfFrom d 0 m

/-- What a byte of host memory that nothing has written reads as (assumption 5). -/
def memByte (_ : Nat) : Byte := 0

/-- What an erased byte of flash reads as (NOR flash, assumption 11). -/
def flashByte (_ : Nat) : Byte := 0xFF

/-- One byte of host memory. -/
def Memory.read (m : List Host.Cell) (a : Nat) : Byte := Cells.get memByte m a

/-- One byte written to host memory; addresses are 64 bits wide. -/
def Memory.write (m : List Host.Cell) (a : Nat) (b : Byte) : List Host.Cell := Cells.set memByte m (a % 18446744073709551616) b

/-- n bytes from an address. -/
def Memory.readN (m : List Host.Cell) (a : Nat) (n : Nat) : List Byte :=
  (List.range n).map (fun i => Memory.read m ((a + i) % 18446744073709551616))

/-- Bytes written from an address upward. -/
def Memory.writeN (m : List Host.Cell) (a : Nat) : List Byte → List Host.Cell
  | [] => m
  | b :: bs => Memory.writeN (Memory.write m a b) (a + 1) bs

/-- The canonical form of host memory. -/
def Memory.wf (m : List Host.Cell) : Bool := Cells.wf memByte m

end Sys2Proof.Machine
end

