-- ==== Sys2Proof/Machine/Catalogue.lean ====
section
/-! DEFINITION. The configuration catalogue: one row per row of the manual's field tables (R311), its range as R311 encodes it, its default (R21 for profile fields), and reading a bank. -/

namespace Sys2Proof.Machine

open Sys2Proof

/-- How a value is encoded and which values the field's own Range holds (R311). -/
inductive Range where
  /-- A span of numbers with a step, in two's complement. -/
  | span (lo hi : Int) (step : Nat)
  /-- A list of separate values, by position. -/
  | members (n : Nat)
  /-- NONE (0xFFFF_FFFF) or a number below n. -/
  | orNone (n : Nat)
  /-- A set of numbered or named members, with a limit on their number. -/
  | set (members limit : Nat)
  /-- Any pattern of the words. -/
  | any
  /-- A span of two-word numbers. -/
  | wide (lo hi : Nat)
  /-- A 64-bit count of ns with a fraction word. -/
  | fracTime (lo hi : Nat)
  /-- The grid period: ns with a fraction word (R42). -/
  | period
deriving DecidableEq, Repr

/-- The Default column. -/
inductive Dflt where
  | const (v : Nat)
  | prof (precision balanced throughput thrift : Nat)
  | groupA
  | firstStage
deriving DecidableEq, Repr

/-- One row of a field table. -/
structure FieldRow where
  code    : Nat
  indices : Nat
  subLo   : Nat
  subN    : Nat
  words   : Nat
  range   : Range
  dflt    : Dflt
deriving DecidableEq, Repr


/-- CNV[n].GROUP, Table 2-4. -/
def Fld.cnvGroup : Nat := 0x901
/-- STRB[g].ENABLE, Table 2-5. -/
def Fld.strbEnable : Nat := 0x941
/-- STRB[g].SOURCE, Table 2-5. -/
def Fld.strbSource : Nat := 0x942
/-- STRB[g].START_TIME, Table 2-5. -/
def Fld.strbStartTime : Nat := 0x943
/-- STRB[g].PERIOD, Table 2-5. -/
def Fld.strbPeriod : Nat := 0x944
/-- STRB[g].EVENT_SRC, Table 2-5. -/
def Fld.strbEventSrc : Nat := 0x945
/-- STRB[g].EVENT_GPIO_A, Table 2-5. -/
def Fld.strbEventGpioA : Nat := 0x946
/-- STRB[g].EVENT_GPIO_B, Table 2-5. -/
def Fld.strbEventGpioB : Nat := 0x947
/-- STRB[g].EVENT_EDGE, Table 2-5. -/
def Fld.strbEventEdge : Nat := 0x948
/-- STRB[g].DELAY, Table 2-5. -/
def Fld.strbDelay : Nat := 0x949
/-- STRB[g].DIAG_CADENCE, Table 2-5. -/
def Fld.strbDiagCadence : Nat := 0x94A
/-- AIN_PAIR[j].MODE, Table 3-6. -/
def Fld.ainPairMode : Nat := 0xD81
/-- AIN_PAIR[j].GAIN, Table 3-6. -/
def Fld.ainPairGain : Nat := 0xD82
/-- AIN_PAIR[j].AAF, Table 3-6. -/
def Fld.ainPairAaf : Nat := 0xD83
/-- AIN[i].BIND, Table 3-6. -/
def Fld.ainBind : Nat := 0xD84
/-- AIN[i].BIND_MODE, Table 3-6. -/
def Fld.ainBindMode : Nat := 0xD85
/-- AIN[i].EXPECT_SIGN, Table 3-6. -/
def Fld.ainExpectSign : Nat := 0xD86
/-- AIN[i].REV_THRESHOLD, Table 3-6. -/
def Fld.ainRevThreshold : Nat := 0xD87
/-- AIN[i].REV_PERSIST, Table 3-6. -/
def Fld.ainRevPersist : Nat := 0xD88
/-- AIN[i].OW_PERSIST, Table 3-6. -/
def Fld.ainOwPersist : Nat := 0xD89
/-- EXC[m].ENABLE, Table 3-6. -/
def Fld.excEnable : Nat := 0xD8A
/-- EXC[m].GROUP, Table 3-6. -/
def Fld.excGroup : Nat := 0xD8B
/-- EXC[m].VEXC, Table 3-6. -/
def Fld.excVexc : Nat := 0xD8C
/-- EXC[m].LEAD, Table 3-6. -/
def Fld.excLead : Nat := 0xD8D
/-- EXC[m].WIDTH, Table 3-6. -/
def Fld.excWidth : Nat := 0xD8E
/-- EXC[m].CHOP, Table 3-6. -/
def Fld.excChop : Nat := 0xD8F
/-- EXC[m].OPEN_I, Table 3-6. -/
def Fld.excOpenI : Nat := 0xD90
/-- EXC[m].OPEN_PERSIST, Table 3-6. -/
def Fld.excOpenPersist : Nat := 0xD91
/-- EXC[m].SENSE_TOL, Table 3-6. -/
def Fld.excSenseTol : Nat := 0xD92
/-- EXC[m].RETRY, Table 3-6. -/
def Fld.excRetry : Nat := 0xD93
/-- CNV[n].SCAN_MASK, Table 4-3. -/
def Fld.cnvScanMask : Nat := 0x10C1
/-- CNV[n].XCHK_TOL, Table 4-3. -/
def Fld.cnvXchkTol : Nat := 0x10C2
/-- CNV[n].XCHK_PERSIST, Table 4-3. -/
def Fld.cnvXchkPersist : Nat := 0x10C3
/-- CNV[n].T_HIGH, Table 4-3. -/
def Fld.cnvTHigh : Nat := 0x10C4
/-- FLT[i].STAGES, Table 5-4. -/
def Fld.fltStages : Nat := 0x1501
/-- FLT[i].MODE, Table 5-4. -/
def Fld.fltMode : Nat := 0x1502
/-- FLT[i].LEN[s], Table 5-4. -/
def Fld.fltLen : Nat := 0x1503
/-- FLT[i].DEC[s], Table 5-4. -/
def Fld.fltDec : Nat := 0x1504
/-- FLT[i].MAINS[s], Table 5-4. -/
def Fld.fltMains : Nat := 0x1505
/-- FLT[i].DGAIN, Table 5-4. -/
def Fld.fltDgain : Nat := 0x1506
/-- MAINS.ENABLE, Table 5-4. -/
def Fld.mainsEnable : Nat := 0x1507
/-- MAINS.NOMINAL, Table 5-4. -/
def Fld.mainsNominal : Nat := 0x1508
/-- MAINS.REF_INPUT, Table 5-4. -/
def Fld.mainsRefInput : Nat := 0x1509
/-- MAINS.HYST, Table 5-4. -/
def Fld.mainsHyst : Nat := 0x150A
/-- MAINS.AVG_CYCLES, Table 5-4. -/
def Fld.mainsAvgCycles : Nat := 0x150B
/-- MAINS.CYCLES, Table 5-4. -/
def Fld.mainsCycles : Nat := 0x150C
/-- STREAM[x].ENABLE, Table 6-7. -/
def Fld.streamEnable : Nat := 0x19C1
/-- STREAM[x].CHANNELS, Table 6-7. -/
def Fld.streamChannels : Nat := 0x19C2
/-- STREAM[x].TAP, Table 6-7. -/
def Fld.streamTap : Nat := 0x19C3
/-- STREAM[x].FRAMES_PER_PACKET, Table 6-7. -/
def Fld.streamFramesPerPacket : Nat := 0x19C4
/-- STREAM[x].MAX_AGE, Table 6-7. -/
def Fld.streamMaxAge : Nat := 0x19C5
/-- STREAM[x].MARKS, Table 6-7. -/
def Fld.streamMarks : Nat := 0x19C6
/-- STREAM[x].CMP_LEVEL, Table 6-7. -/
def Fld.streamCmpLevel : Nat := 0x19C7
/-- STREAM[x].SIGN, Table 6-7. -/
def Fld.streamSign : Nat := 0x19C8
/-- STREAM[x].SPILL, Table 6-7. -/
def Fld.streamSpill : Nat := 0x19C9
/-- STREAM[x].FIFO_KIB, Table 6-7. -/
def Fld.streamFifoKib : Nat := 0x19CA
/-- SPILL.MAX_MIB, Table 6-7. -/
def Fld.spillMaxMib : Nat := 0x19CB
/-- STATS.INTERVAL_MS, Table 6-7. -/
def Fld.statsIntervalMs : Nat := 0x19CC
/-- STATS[i].TAP, Table 6-7. -/
def Fld.statsTap : Nat := 0x19CD
/-- STATS[i].PEAK_LEVEL, Table 6-7. -/
def Fld.statsPeakLevel : Nat := 0x19CE
/-- STATS[i].PEAK_HYST, Table 6-7. -/
def Fld.statsPeakHyst : Nat := 0x19CF
/-- STATS[i].EXCLUDE_MARKED, Table 6-7. -/
def Fld.statsExcludeMarked : Nat := 0x19D0
/-- COND[c].ENABLE, Table 7-7. -/
def Fld.condEnable : Nat := 0x1DC1
/-- COND[c].CHANNEL, Table 7-7. -/
def Fld.condChannel : Nat := 0x1DC2
/-- COND[c].TAP, Table 7-7. -/
def Fld.condTap : Nat := 0x1DC3
/-- COND[c].TYPE, Table 7-7. -/
def Fld.condType : Nat := 0x1DC4
/-- COND[c].LEVEL, Table 7-7. -/
def Fld.condLevel : Nat := 0x1DC5
/-- COND[c].LEVEL_HI, Table 7-7. -/
def Fld.condLevelHi : Nat := 0x1DC6
/-- COND[c].HYST, Table 7-7. -/
def Fld.condHyst : Nat := 0x1DC7
/-- COND[c].MARKS, Table 7-7. -/
def Fld.condMarks : Nat := 0x1DC8
/-- COND[c].IGNORE_MARKED, Table 7-7. -/
def Fld.condIgnoreMarked : Nat := 0x1DC9
/-- TRIG[u].ENABLE, Table 7-7. -/
def Fld.trigEnable : Nat := 0x1DCA
/-- TRIG[u].GROUP, Table 7-7. -/
def Fld.trigGroup : Nat := 0x1DCB
/-- TRIG[u].KIND, Table 7-7. -/
def Fld.trigKind : Nat := 0x1DCC
/-- TRIG[u].MASK, VALUE, Table 7-7. -/
def Fld.trigPattern : Nat := 0x1DCD
/-- TRIG[u].STEPS, Table 7-7. -/
def Fld.trigSteps : Nat := 0x1DCE
/-- TRIG[u].STEP[s].MASK, VALUE, Table 7-7. -/
def Fld.trigStepPattern : Nat := 0x1DCF
/-- TRIG[u].STEP[s].COUNT, Table 7-7. -/
def Fld.trigStepCount : Nat := 0x1DD0
/-- TRIG[u].STEP[s].CONSEC, Table 7-7. -/
def Fld.trigStepConsec : Nat := 0x1DD1
/-- TRIG[u].STEP[s].MIN_NS, Table 7-7. -/
def Fld.trigStepMinNs : Nat := 0x1DD2
/-- TRIG[u].STEP[s].WITHIN_NS, Table 7-7. -/
def Fld.trigStepWithinNs : Nat := 0x1DD3
/-- TRIG[u].RESET_MASK, RESET_VALUE, Table 7-7. -/
def Fld.trigResetPattern : Nat := 0x1DD4
/-- TRIG[u].TIMING_COND, Table 7-7. -/
def Fld.trigTimingCond : Nat := 0x1DD5
/-- TRIG[u].LINE_CLASS, Table 7-7. -/
def Fld.trigLineClass : Nat := 0x1DD6
/-- TRIG[u].TOUT, Table 7-7. -/
def Fld.trigTout : Nat := 0x1DD7
/-- CAP[u].ENABLE, Table 7-7. -/
def Fld.capEnable : Nat := 0x1DD8
/-- CAP[u].GROUP, Table 7-7. -/
def Fld.capGroup : Nat := 0x1DD9
/-- CAP[u].SOURCES, Table 7-7. -/
def Fld.capSources : Nat := 0x1DDA
/-- CAP[u].CHANNELS, Table 7-7. -/
def Fld.capChannels : Nat := 0x1DDB
/-- CAP[u].PRE_NS, Table 7-7. -/
def Fld.capPreNs : Nat := 0x1DDC
/-- CAP[u].POST_NS, Table 7-7. -/
def Fld.capPostNs : Nat := 0x1DDD
/-- LTRIG[c].HOLDOFF_US, Table 7-7. -/
def Fld.ltrigHoldoffUs : Nat := 0x1DDE
/-- LTRIG[c].REACH, Table 7-7. -/
def Fld.ltrigReach : Nat := 0x1DDF
/-- MANTIS.NODE_ID, Table 7-7. -/
def Fld.mantisNodeId : Nat := 0x1DE0
/-- TIN[v].GPIO, Table 7-7. -/
def Fld.tinGpio : Nat := 0x1DE1
/-- TIN[v].EDGE, Table 7-7. -/
def Fld.tinEdge : Nat := 0x1DE2
/-- TOUT_WIDTH, Table 7-7. -/
def Fld.toutWidth : Nat := 0x1DE3
/-- STREAM[x].CMP_PRE, Table 8-4. -/
def Fld.streamCmpPre : Nat := 0x2101
/-- FIREFLY.ROLE, Table 9-6. -/
def Fld.fireflyRole : Nat := 0x2581
/-- FIREFLY.PARENT, Table 9-6. -/
def Fld.fireflyParent : Nat := 0x2582
/-- FIREFLY.ALT_PARENT, Table 9-6. -/
def Fld.fireflyAltParent : Nat := 0x2583
/-- FIREFLY.ROOT_SOURCE, Table 9-6. -/
def Fld.fireflyRootSource : Nat := 0x2584
/-- FIREFLY.PPS_GPIO, Table 9-6. -/
def Fld.fireflyPpsGpio : Nat := 0x2585
/-- FIREFLY.PPS_EDGE, Table 9-6. -/
def Fld.fireflyPpsEdge : Nat := 0x2586
/-- FIREFLY.SYNC_LOG, Table 9-6. -/
def Fld.fireflySyncLog : Nat := 0x2587
/-- FIREFLY.STEP_NS, Table 9-6. -/
def Fld.fireflyStepNs : Nat := 0x2588
/-- FIREFLY.STEP_PERSIST, Table 9-6. -/
def Fld.fireflyStepPersist : Nat := 0x2589
/-- FIREFLY.SLEW_MAX_PPB, Table 9-6. -/
def Fld.fireflySlewMaxPpb : Nat := 0x258A
/-- FIREFLY.KP_SHIFT, Table 9-6. -/
def Fld.fireflyKpShift : Nat := 0x258B
/-- FIREFLY.KI_SHIFT, Table 9-6. -/
def Fld.fireflyKiShift : Nat := 0x258C
/-- FIREFLY.ASYM_PS[p], Table 9-6. -/
def Fld.fireflyAsymPs : Nat := 0x258D
/-- FIREFLY.TXTS_LTRIG, Table 9-6. -/
def Fld.fireflyTxtsLtrig : Nat := 0x258E
/-- LINK[p].ENABLE, Table 10-8. -/
def Fld.linkEnable : Nat := 0x2A01
/-- LINK[p].MAX_RATE, Table 10-8. -/
def Fld.linkMaxRate : Nat := 0x2A02
/-- LINK[p].SPEED_POLICY, Table 10-8. -/
def Fld.linkSpeedPolicy : Nat := 0x2A03
/-- LINK[p].EQ_MODE, Table 10-8. -/
def Fld.linkEqMode : Nat := 0x2A04
/-- LINK[p].EQ_PEAK[l], Table 10-8. -/
def Fld.linkEqPeak : Nat := 0x2A05
/-- LINK[p].SECURITY, Table 10-8. -/
def Fld.linkSecurity : Nat := 0x2A06
/-- LINK[p].IDLE_SLEEP, Table 10-8. -/
def Fld.linkIdleSleep : Nat := 0x2A07
/-- LINK[p].TEST, Table 10-8. -/
def Fld.linkTest : Nat := 0x2A08
/-- CFG.PROFILE, Table 12-3. -/
def Fld.cfgProfile : Nat := 0x30C1
/-- CFG.PERSIST, Table 12-3. -/
def Fld.cfgPersist : Nat := 0x30C2
/-- TWIN.ENABLE, Table 13-8. -/
def Fld.twinEnable : Nat := 0x3601
/-- TWIN.SEIZE_OUT_GPIO, Table 13-8. -/
def Fld.twinSeizeOutGpio : Nat := 0x3602
/-- TWIN.ALIVE_OUT_GPIO, Table 13-8. -/
def Fld.twinAliveOutGpio : Nat := 0x3603
/-- TWIN.ALIVE_IN_GPIO, Table 13-8. -/
def Fld.twinAliveInGpio : Nat := 0x3604
/-- TWIN.DIGEST_TOL, Table 13-8. -/
def Fld.twinDigestTol : Nat := 0x3605
/-- TWIN.DIGEST_PERSIST, Table 13-8. -/
def Fld.twinDigestPersist : Nat := 0x3606
/-- TWIN.TIME_TOL, Table 13-8. -/
def Fld.twinTimeTol : Nat := 0x3607
/-- TWIN.TIME_PERSIST, Table 13-8. -/
def Fld.twinTimePersist : Nat := 0x3608
/-- TWIN.ACK_WAIT_US, Table 13-8. -/
def Fld.twinAckWaitUs : Nat := 0x3609
/-- TWIN.STUCK_WATCH, Table 13-8. -/
def Fld.twinStuckWatch : Nat := 0x360A
/-- VAULT.PERIOD_NS, Table 14-3. -/
def Fld.vaultPeriodNs : Nat := 0x38C1
/-- VAULT.PLATFORM[p].ENABLE, Table 14-3. -/
def Fld.vaultPlatformEnable : Nat := 0x38C2
/-- VAULT.PLATFORM[p].CELLS, Table 14-3. -/
def Fld.vaultPlatformCells : Nat := 0x38C3
/-- VAULT.PLATFORM[p].TAP, Table 14-3. -/
def Fld.vaultPlatformTap : Nat := 0x38C4
/-- VAULT.PLATFORM[p].ZERO, Table 14-3. -/
def Fld.vaultPlatformZero : Nat := 0x38C5
/-- VAULT.PLATFORM[p].SPAN_MG, Table 14-3. -/
def Fld.vaultPlatformSpanMg : Nat := 0x38C6
/-- VAULT.PLATFORM[p].D_MG, Table 14-3. -/
def Fld.vaultPlatformDMg : Nat := 0x38C7
/-- VAULT.PLATFORM[p].MAX_MG, Table 14-3. -/
def Fld.vaultPlatformMaxMg : Nat := 0x38C8
/-- VAULT.PLATFORM[p].OCC_LEVEL, Table 14-3. -/
def Fld.vaultPlatformOccLevel : Nat := 0x38C9
/-- VAULT.PLATFORM[p].OCC_HYST, Table 14-3. -/
def Fld.vaultPlatformOccHyst : Nat := 0x38CA
/-- VAULT.PLATFORM[p].SETTLE, Table 14-3. -/
def Fld.vaultPlatformSettle : Nat := 0x38CB
/-- VAULT.PLATFORM[p].MIN_OUTPUTS, Table 14-3. -/
def Fld.vaultPlatformMinOutputs : Nat := 0x38CC
/-- PWR.FAST_CLOCKS, Table 16-7. -/
def Fld.pwrFastClocks : Nat := 0x41C1
/-- FLASH.IO, Table 17-10. -/
def Fld.flashIo : Nat := 0x4681
/-- FLASH.CLK_MHZ, Table 17-10. -/
def Fld.flashClkMhz : Nat := 0x4682
/-- FW.AUTO_CONFIRM, Table 17-10. -/
def Fld.fwAutoConfirm : Nat := 0x4683
/-- FW.CONFIRM_S, Table 17-10. -/
def Fld.fwConfirmS : Nat := 0x4684
/-- FW.CONFIRM_LIMIT_S, Table 17-10. -/
def Fld.fwConfirmLimitS : Nat := 0x4685
/-- TRACE.MODE, Table 17-10. -/
def Fld.traceMode : Nat := 0x4686
/-- TRACE.SOURCES, Table 17-10. -/
def Fld.traceSources : Nat := 0x4687
/-- PIN[k].FUNC, Table 21-4. -/
def Fld.pinFunc : Nat := 0x5501
/-- PIN[k].PULL, Table 21-4. -/
def Fld.pinPull : Nat := 0x5502
/-- PIN[k].DRIVE, Table 21-4. -/
def Fld.pinDrive : Nat := 0x5503
/-- PIN[k].OPEN_DRAIN, Table 21-4. -/
def Fld.pinOpenDrain : Nat := 0x5504

/-- Table 2-4. -/
def rows2x4 : List FieldRow := [
  ⟨0x901, 64, 0, 1, 1, .members 2, .const 0⟩]
/-- Table 2-5. -/
def rows2x5 : List FieldRow := [
  ⟨0x941, 2, 0, 1, 1, .members 2, .groupA⟩,
  ⟨0x942, 2, 0, 1, 1, .members 2, .const 0⟩,
  ⟨0x943, 2, 0, 1, 3, .fracTime 0 18446744073709551615, .const 0⟩,
  ⟨0x944, 2, 0, 1, 2, .period, .prof 100000 50000 5000 1000000⟩,
  ⟨0x945, 2, 0, 1, 1, .set 3 3, .const 0⟩,
  ⟨0x946, 2, 0, 1, 1, .span 0 31 1, .const 0⟩,
  ⟨0x947, 2, 0, 1, 1, .span 0 31 1, .const 0⟩,
  ⟨0x948, 2, 0, 1, 1, .members 2, .const 0⟩,
  ⟨0x949, 2, 0, 1, 1, .span 0 65535 1, .const 0⟩,
  ⟨0x94A, 2, 0, 1, 1, .span 0 10 1, .prof 0 4 6 0⟩]
/-- Table 3-6. -/
def rows3x6 : List FieldRow := [
  ⟨0xD81, 256, 0, 1, 1, .members 2, .const 0⟩,
  ⟨0xD82, 256, 0, 1, 1, .members 8, .const 0⟩,
  ⟨0xD83, 256, 0, 1, 1, .members 4, .const 1⟩,
  ⟨0xD84, 512, 0, 1, 1, .orNone 32, .const 4294967295⟩,
  ⟨0xD85, 512, 0, 1, 1, .members 2, .const 1⟩,
  ⟨0xD86, 512, 0, 1, 1, .members 3, .const 0⟩,
  ⟨0xD87, 512, 0, 1, 1, .span 0 2147483647 1, .const 21474836⟩,
  ⟨0xD88, 512, 0, 1, 1, .span 1 65535 1, .const 1000⟩,
  ⟨0xD89, 512, 0, 1, 1, .span 1 65535 1, .const 64⟩,
  ⟨0xD8A, 32, 0, 1, 1, .members 2, .const 0⟩,
  ⟨0xD8B, 32, 0, 1, 1, .members 2, .const 0⟩,
  ⟨0xD8C, 32, 0, 1, 1, .span 1000 5000 5, .const 2500⟩,
  ⟨0xD8D, 32, 0, 1, 1, .span 1000 999900 5, .const 2000⟩,
  ⟨0xD8E, 32, 0, 1, 1, .span 2000 1000000 5, .const 3000⟩,
  ⟨0xD8F, 32, 0, 1, 1, .members 2, .prof 1 1 0 1⟩,
  ⟨0xD90, 32, 0, 1, 1, .span 100 10000 100, .const 500⟩,
  ⟨0xD91, 32, 0, 1, 1, .span 1 255 1, .const 4⟩,
  ⟨0xD92, 32, 0, 1, 1, .span 1 25 1, .const 2⟩,
  ⟨0xD93, 32, 0, 1, 1, .span 0 255 1, .const 10⟩]
/-- Table 4-3. -/
def rows4x3 : List FieldRow := [
  ⟨0x10C1, 64, 0, 1, 1, .set 12 12, .const 3925⟩,
  ⟨0x10C2, 64, 0, 1, 1, .span 1 4095 1, .const 32⟩,
  ⟨0x10C3, 64, 0, 1, 1, .span 1 255 1, .const 3⟩,
  ⟨0x10C4, 64, 0, 1, 1, .span 85 130 1, .const 120⟩]
/-- Table 5-4. -/
def rows5x4 : List FieldRow := [
  ⟨0x1501, 512, 0, 1, 1, .span 0 4 1, .prof 4 2 1 2⟩,
  ⟨0x1502, 512, 0, 1, 1, .members 2, .const 0⟩,
  ⟨0x1503, 512, 1, 4, 1, .span 1 65536 1, .const 16⟩,
  ⟨0x1504, 512, 1, 4, 1, .span 1 65536 1, .const 1⟩,
  ⟨0x1505, 512, 1, 4, 1, .members 2, .firstStage⟩,
  ⟨0x1506, 512, 0, 1, 1, .span 0 8 1, .const 0⟩,
  ⟨0x1507, 1, 0, 1, 1, .members 2, .prof 1 0 0 0⟩,
  ⟨0x1508, 1, 0, 1, 1, .members 2, .const 0⟩,
  ⟨0x1509, 1, 0, 1, 1, .span 0 511 1, .const 0⟩,
  ⟨0x150A, 1, 0, 1, 1, .span 0 2147483647 1, .const 107374182⟩,
  ⟨0x150B, 1, 0, 1, 1, .members 7, .const 2⟩,
  ⟨0x150C, 1, 0, 1, 1, .span 1 16 1, .const 1⟩]
/-- Table 6-7. -/
def rows6x7 : List FieldRow := [
  ⟨0x19C1, 64, 0, 1, 1, .members 2, .const 0⟩,
  ⟨0x19C2, 64, 0, 1, 16, .set 512 512, .const 0⟩,
  ⟨0x19C3, 64, 0, 1, 1, .span 0 4 1, .const 0⟩,
  ⟨0x19C4, 64, 0, 1, 1, .span 1 65535 1, .const 16⟩,
  ⟨0x19C5, 64, 0, 1, 1, .span 0 1000 1, .const 0⟩,
  ⟨0x19C6, 64, 0, 1, 1, .members 2, .const 0⟩,
  ⟨0x19C7, 64, 0, 1, 1, .span 0 9 1, .prof 6 6 3 6⟩,
  ⟨0x19C8, 64, 0, 1, 1, .members 2, .const 0⟩,
  ⟨0x19C9, 64, 0, 1, 1, .members 2, .const 1⟩,
  ⟨0x19CA, 64, 0, 1, 1, .span 0 4096 4, .const 64⟩,
  ⟨0x19CB, 1, 0, 1, 1, .span 0 20 1, .const 16⟩,
  ⟨0x19CC, 1, 0, 1, 1, .span 1 60000 1, .prof 1000 1000 100 10000⟩,
  ⟨0x19CD, 512, 0, 1, 1, .span 0 4 1, .const 0⟩,
  ⟨0x19CE, 512, 0, 1, 1, .span 0 2147483647 1, .const 1932735283⟩,
  ⟨0x19CF, 512, 0, 1, 1, .span 0 2147483647 1, .const 107374182⟩,
  ⟨0x19D0, 512, 0, 1, 1, .members 2, .const 0⟩]
/-- Table 7-7. -/
def rows7x7 : List FieldRow := [
  ⟨0x1DC1, 64, 0, 1, 1, .members 2, .const 0⟩,
  ⟨0x1DC2, 64, 0, 1, 1, .span 0 511 1, .const 0⟩,
  ⟨0x1DC3, 64, 0, 1, 1, .span 0 4 1, .const 0⟩,
  ⟨0x1DC4, 64, 0, 1, 1, .span 0 6 1, .const 0⟩,
  ⟨0x1DC5, 64, 0, 1, 1, .any, .const 1073741824⟩,
  ⟨0x1DC6, 64, 0, 1, 1, .any, .const 1610612736⟩,
  ⟨0x1DC7, 64, 0, 1, 1, .span 0 2147483647 1, .const 16777216⟩,
  ⟨0x1DC8, 64, 0, 1, 1, .set 4 4, .const 1⟩,
  ⟨0x1DC9, 64, 0, 1, 1, .members 2, .const 1⟩,
  ⟨0x1DCA, 16, 0, 1, 1, .members 2, .const 0⟩,
  ⟨0x1DCB, 16, 0, 1, 1, .members 2, .const 0⟩,
  ⟨0x1DCC, 16, 0, 1, 1, .members 2, .const 0⟩,
  ⟨0x1DCD, 16, 0, 1, 4, .any, .const 0⟩,
  ⟨0x1DCE, 16, 0, 1, 1, .span 1 8 1, .const 1⟩,
  ⟨0x1DCF, 16, 0, 8, 4, .any, .const 0⟩,
  ⟨0x1DD0, 16, 0, 8, 1, .span 1 65535 1, .const 1⟩,
  ⟨0x1DD1, 16, 0, 8, 1, .members 2, .const 0⟩,
  ⟨0x1DD2, 16, 0, 8, 1, .span 0 2147483647 1, .const 0⟩,
  ⟨0x1DD3, 16, 0, 8, 1, .span 0 2147483647 1, .const 0⟩,
  ⟨0x1DD4, 16, 0, 1, 4, .any, .const 0⟩,
  ⟨0x1DD5, 16, 0, 1, 1, .orNone 64, .const 4294967295⟩,
  ⟨0x1DD6, 16, 0, 1, 1, .orNone 16, .const 4294967295⟩,
  ⟨0x1DD7, 16, 0, 1, 1, .members 2, .const 0⟩,
  ⟨0x1DD8, 16, 0, 1, 1, .members 2, .const 0⟩,
  ⟨0x1DD9, 16, 0, 1, 1, .members 2, .const 0⟩,
  ⟨0x1DDA, 16, 0, 1, 2, .set 35 35, .const 0⟩,
  ⟨0x1DDB, 16, 0, 1, 16, .set 512 512, .const 0⟩,
  ⟨0x1DDC, 16, 0, 1, 1, .span 0 1000000000 1, .const 1000000⟩,
  ⟨0x1DDD, 16, 0, 1, 1, .span 0 1000000000 1, .const 1000000⟩,
  ⟨0x1DDE, 16, 0, 1, 1, .span 0 1000000 1, .const 1000⟩,
  ⟨0x1DDF, 16, 0, 1, 1, .span 1 4095 1, .const 4095⟩,
  ⟨0x1DE0, 1, 0, 1, 1, .span 0 65534 1, .const 0⟩,
  ⟨0x1DE1, 2, 0, 1, 1, .span 0 31 1, .const 0⟩,
  ⟨0x1DE2, 2, 0, 1, 1, .members 2, .const 0⟩,
  ⟨0x1DE3, 1, 0, 1, 1, .span 1 1000 1, .const 10⟩]
/-- Table 8-4. -/
def rows8x4 : List FieldRow := [
  ⟨0x2101, 64, 0, 1, 1, .members 2, .const 1⟩]
/-- Table 9-6. -/
def rows9x6 : List FieldRow := [
  ⟨0x2581, 1, 0, 1, 1, .members 2, .const 1⟩,
  ⟨0x2582, 1, 0, 1, 1, .members 3, .const 0⟩,
  ⟨0x2583, 1, 0, 1, 1, .members 4, .const 0⟩,
  ⟨0x2584, 1, 0, 1, 1, .members 2, .const 0⟩,
  ⟨0x2585, 1, 0, 1, 1, .span 0 31 1, .const 0⟩,
  ⟨0x2586, 1, 0, 1, 1, .members 2, .const 0⟩,
  ⟨0x2587, 1, 0, 1, 1, .span (-3) 10 1, .const 0⟩,
  ⟨0x2588, 1, 0, 1, 1, .span 1000 1000000000 1, .const 10000⟩,
  ⟨0x2589, 1, 0, 1, 1, .span 1 64 1, .const 4⟩,
  ⟨0x258A, 1, 0, 1, 1, .span 1000 200000 1, .const 100000⟩,
  ⟨0x258B, 1, 0, 1, 1, .span 0 8 1, .const 1⟩,
  ⟨0x258C, 1, 0, 1, 1, .span 2 16 1, .const 6⟩,
  ⟨0x258D, 3, 0, 1, 1, .span (-1000000) 1000000 1, .const 0⟩,
  ⟨0x258E, 1, 0, 1, 1, .members 2, .const 0⟩]
/-- Table 10-8. -/
def rows10x8 : List FieldRow := [
  ⟨0x2A01, 3, 0, 1, 1, .members 2, .const 1⟩,
  ⟨0x2A02, 3, 0, 1, 1, .span 0 4 1, .const 4⟩,
  ⟨0x2A03, 3, 0, 1, 1, .members 2, .prof 0 0 0 1⟩,
  ⟨0x2A04, 3, 0, 1, 1, .members 2, .const 0⟩,
  ⟨0x2A05, 3, 0, 2, 1, .span 0 15 1, .const 6⟩,
  ⟨0x2A06, 3, 0, 1, 1, .members 2, .const 0⟩,
  ⟨0x2A07, 3, 0, 1, 1, .members 2, .const 0⟩,
  ⟨0x2A08, 3, 0, 1, 1, .members 3, .const 0⟩]
/-- Table 12-3. -/
def rows12x3 : List FieldRow := [
  ⟨0x30C1, 1, 0, 1, 1, .members 4, .const 1⟩,
  ⟨0x30C2, 1, 0, 1, 1, .members 2, .const 0⟩]
/-- Table 13-8. -/
def rows13x8 : List FieldRow := [
  ⟨0x3601, 1, 0, 1, 1, .members 2, .const 0⟩,
  ⟨0x3602, 1, 0, 1, 1, .span 0 31 1, .const 0⟩,
  ⟨0x3603, 1, 0, 1, 1, .span 0 31 1, .const 0⟩,
  ⟨0x3604, 1, 0, 1, 1, .span 0 31 1, .const 0⟩,
  ⟨0x3605, 1, 0, 1, 1, .span 1 4194303 1, .const 1024⟩,
  ⟨0x3606, 1, 0, 1, 1, .span 1 65535 1, .const 64⟩,
  ⟨0x3607, 1, 0, 1, 1, .span 1 10000 1, .const 100⟩,
  ⟨0x3608, 1, 0, 1, 1, .span 1 64 1, .const 3⟩,
  ⟨0x3609, 1, 0, 1, 1, .span 2000 100000 1, .const 2000⟩,
  ⟨0x360A, 1, 0, 1, 1, .members 2, .const 1⟩]
/-- Table 14-3. -/
def rows14x3 : List FieldRow := [
  ⟨0x38C1, 1, 0, 1, 1, .span 5000 10000000 1, .const 50000⟩,
  ⟨0x38C2, 4, 0, 1, 1, .members 2, .const 0⟩,
  ⟨0x38C3, 4, 0, 1, 1, .set 32 8, .const 0⟩,
  ⟨0x38C4, 4, 0, 1, 1, .span 1 4 1, .const 1⟩,
  ⟨0x38C5, 4, 0, 1, 2, .any, .const 0⟩,
  ⟨0x38C6, 4, 0, 1, 2, .wide 1 1099511627776, .const 1000000⟩,
  ⟨0x38C7, 4, 0, 1, 1, .span 1 1000000 1, .const 1000⟩,
  ⟨0x38C8, 4, 0, 1, 2, .wide 1 1099511627776, .const 100000000⟩,
  ⟨0x38C9, 4, 0, 1, 1, .any, .const 8388608⟩,
  ⟨0x38CA, 4, 0, 1, 1, .span 0 2147483647 1, .const 1048576⟩,
  ⟨0x38CB, 4, 0, 1, 1, .span 0 1000 1, .const 20⟩,
  ⟨0x38CC, 4, 0, 1, 1, .span 1 65535 1, .const 50⟩]
/-- Table 16-7. -/
def rows16x7 : List FieldRow := [
  ⟨0x41C1, 1, 0, 1, 1, .members 2, .prof 0 0 0 1⟩]
/-- Table 17-10. -/
def rows17x10 : List FieldRow := [
  ⟨0x4681, 1, 0, 1, 1, .members 3, .const 2⟩,
  ⟨0x4682, 1, 0, 1, 1, .span 10 100 1, .const 100⟩,
  ⟨0x4683, 1, 0, 1, 1, .members 2, .const 1⟩,
  ⟨0x4684, 1, 0, 1, 1, .span 10 3600 1, .const 60⟩,
  ⟨0x4685, 1, 0, 1, 1, .span 60 86400 1, .const 600⟩,
  ⟨0x4686, 1, 0, 1, 1, .members 2, .const 0⟩,
  ⟨0x4687, 1, 0, 1, 1, .set 5 5, .const 31⟩]
/-- Table 21-4. -/
def rows21x4 : List FieldRow := [
  ⟨0x5501, 32, 0, 1, 1, .span 0 12 1, .const 0⟩,
  ⟨0x5502, 32, 0, 1, 1, .members 4, .const 0⟩,
  ⟨0x5503, 32, 0, 1, 1, .members 4, .const 0⟩,
  ⟨0x5504, 32, 0, 1, 1, .members 2, .const 0⟩]

/-- Every configuration field, in canonical order (R316). -/
def catalogue : List FieldRow :=
  rows2x4 ++ rows2x5 ++ rows3x6 ++ rows4x3 ++ rows5x4 ++ rows6x7 ++ rows7x7 ++ rows8x4 ++ rows9x6 ++ rows10x8 ++ rows12x3 ++ rows13x8 ++ rows14x3 ++ rows16x7 ++ rows17x10 ++ rows21x4

/-- The row of a field code. -/
def fieldRow (code : Nat) : Option FieldRow := catalogue.find? (fun r => r.code == code)

/-- A field instance as one number, in canonical order: FIELD, then INDEX, then SUBINDEX (R316). -/
def keyOf (code index sub : Nat) : Nat := code * 4294967296 + index * 65536 + sub

/-- FIELD of a key. -/
def keyCode (k : Nat) : Nat := k / 4294967296
/-- INDEX of a key. -/
def keyIndex (k : Nat) : Nat := k / 65536 % 65536
/-- SUBINDEX of a key. -/
def keySub (k : Nat) : Nat := k % 65536

/-- The default of a row under a profile (0 PRECISION, 1 BALANCED, 2 THROUGHPUT, 3 THRIFT). On the vault part the owned chains do not track mains (R365). -/
def dfltOf (fuse : Bool) (profile : Nat) (r : FieldRow) (index sub : Nat) : Nat :=
  match r.dflt with
  | .const v => v
  | .prof a b c d => if profile = 0 then a else if profile = 1 then b else if profile = 2 then c else d
  | .groupA => if index = 0 then 1 else 0
  | .firstStage => if sub = 1 ∧ ¬ (fuse = true ∧ 480 ≤ index) then 1 else 0

/-- What an unlisted key of a bank reads as: the Balanced default (R22, R331). -/
def keyDflt (fuse : Bool) (k : Nat) : Nat :=
  match fieldRow (keyCode k) with
  | some r => dfltOf fuse 1 r (keyIndex k) (keySub k)
  | none => 0

/-- The fields a profile governs (R21). -/
def profiled (r : FieldRow) : Bool :=
  match r.dflt with
  | .prof _ _ _ _ => true
  | _ => false

/-- The value as its Range's number: signed for a span. -/
def rangeValue (v : Nat) : Int := signedOf 32 v

/-- The number of set bits below a bound. -/
def popCount (bound v : Nat) : Nat := (bitsOf bound v).length

/-- Whether a value lies in a field's own Range (R311, R312). -/
def inRange (r : FieldRow) (v : Nat) : Bool :=
  match r.range with
  | .span lo hi step => decide (lo ≤ rangeValue v ∧ rangeValue v ≤ hi ∧ (rangeValue v - lo) % (step : Int) = 0)
  | .members n => decide (v < n)
  | .orNone n => decide (v < n ∨ v = 4294967295)
  | .set m lim => decide (popCount m v ≤ lim)
  | .any => true
  | .wide lo hi => decide (lo ≤ v ∧ v ≤ hi)
  | .fracTime lo hi => decide (lo ≤ v % 18446744073709551616 ∧ v % 18446744073709551616 ≤ hi)
  | .period => decide (5000 ≤ v % 4294967296 ∧ v % 4294967296 * 65536 + v / 4294967296 % 65536 ≤ 655360000000)

/-- The value the hub keeps: bits of a set that name no member and reserved bits of a fraction word are ignored (R8, R311). -/
def normValue (r : FieldRow) (v : Nat) : Nat :=
  match r.range with
  | .set m _ => v % 2 ^ m
  | .fracTime _ _ => v % 2 ^ 80
  | .period => v % 2 ^ 48
  | _ => v

/-- The index and subindex lie in the ranges of the field's chapter (R310). -/
def indexOk (r : FieldRow) (index sub : Nat) : Bool :=
  decide (index < r.indices ∧ r.subLo ≤ sub ∧ sub < r.subLo + r.subN) || decide (r.subN = 1 ∧ r.subLo = 0 ∧ sub = 0 ∧ index < r.indices)

/-- A field owned by the vault (R363, R364): a field of Tables 2-4, 3-6, 4-3 and 5-4 at an owned index, or any field of Table 14-3. -/
def vaultOwned (code index : Nat) : Bool :=
  if code / 64 = 0x901 / 64 ∨ code / 64 = 0x10C1 / 64 then decide (60 ≤ index)
  else if code = 0xD81 ∨ code = 0xD82 ∨ code = 0xD83 then decide (240 ≤ index)
  else if 0xD84 ≤ code ∧ code ≤ 0xD89 then decide (480 ≤ index)
  else if 0xD8A ≤ code ∧ code ≤ 0xD93 then decide (28 ≤ index)
  else if 0x1501 ≤ code ∧ code ≤ 0x1506 then decide (480 ≤ index)
  else decide (0x38C1 ≤ code ∧ code ≤ 0x38CC)

/-- A bank: configuration keys to values. -/
abbrev Bank := Cells Nat

/-- The value of a field in a bank. -/
def Bank.get (fuse : Bool) (b : Bank) (code index sub : Nat) : Nat :=
  Cells.get (keyDflt fuse) b (keyOf code index sub)

/-- Write a field of a bank. -/
def Bank.set (fuse : Bool) (b : Bank) (key v : Nat) : Bank := Cells.set (keyDflt fuse) b key v

/-- All instances of a row: (index, sub). -/
def rowInstances (r : FieldRow) : List (Nat × Nat) :=
  (List.range r.indices).flatMap (fun i => (List.range r.subN).map (fun j => (i, r.subLo + j)))

/-- The keys of every instance of the rows a profile governs. -/
def profileKeys : List (FieldRow × Nat) :=
  (catalogue.filter profiled).flatMap (fun r => (rowInstances r).map (fun p => (r, keyOf r.code p.1 p.2)))

/-- The live value of a field. -/
def State.cfgv (s : State) (code index sub : Nat) : Nat := Bank.get s.otp.vaultFuse s.cfg.live code index sub

/-- A live 0/1 field as a truth value. -/
def State.cfgOn (s : State) (code index : Nat) : Bool := s.cfgv code index 0 == 1

/-- A live set field's members. -/
def State.cfgSet (s : State) (code index bound : Nat) : List Nat := bitsOf bound (s.cfgv code index 0)

/-- A live signed field. -/
def State.cfgInt (s : State) (code index : Nat) : Int := signedOf 32 (s.cfgv code index 0)

end Sys2Proof.Machine
end

