-- ==== Sys2Proof/Machine/Coding.lean ====
section
/-! DEFINITION. Line coding of a Utina port (chapter 10): 66-bit blocks and their scrambler (R251), control blocks (Table 10-2), lanes (R252), a frame's blocks and their CRC (R253, R254), block lock (R265), the eye search (R264), the chirp detector (R276) and test patterns (R279). -/

namespace Sys2Proof.Machine

open Sys2Proof

/-! ### Scrambler -/

/-- One bit through 1 + x^39 + x^58 (R251): the register holds the last 58 scrambled bits, bit 0 the latest. -/
def scramBit (reg : BitVec 58) (d : Bool) : Bool := d ^^ reg.getLsbD 38 ^^ reg.getLsbD 57

/-- The register behind one scrambled bit. -/
def scramNext (reg : BitVec 58) (b : Bool) : BitVec 58 := (reg <<< 1) ||| BitVec.setWidth 58 (BitVec.ofBool b)

/-- Bits of a word from an index on, least significant first, that a lane sends or receives: scramble (out) or descramble. Answers the register behind them and the bits as a number. -/
def scramGo (out : Bool) (w : BitVec 64) : Nat → Nat → BitVec 58 → Nat → BitVec 58 × Nat
  | 0, _, reg, acc => (reg, acc)
  | n + 1, i, reg, acc =>
    let x := w.getLsbD i
    let y := scramBit reg x
    scramGo out w n (i + 1) (scramNext reg (if out then y else x)) (if y then acc + 2 ^ i else acc)

/-- The 64 bits of a block through a lane's scrambler. -/
def scramble (reg : BitVec 58) (w : BitVec 64) : BitVec 58 × BitVec 64 :=
  let r := scramGo true w 64 0 reg 0
  (r.1, BitVec.ofNat 64 r.2)

/-- The 64 bits of a block through a lane's descrambler. -/
def descramble (reg : BitVec 58) (w : BitVec 64) : BitVec 58 × BitVec 64 :=
  let r := scramGo false w 64 0 reg 0
  (r.1, BitVec.ofNat 64 r.2)

/-- Blocks that alternate between the lanes through the two scramblers (out) or descramblers; one: the next block is on lane 1. -/
def lanesGo (out one : Bool) (r0 r1 : BitVec 58) : List Block → List Block
  | [] => []
  | b :: bs =>
    let r := if out then scramble (if one then r1 else r0) b.data else descramble (if one then r1 else r0) b.data
    ⟨b.hdr, r.2⟩ :: lanesGo out (!one) (if one then r0 else r.1) (if one then r.1 else r1) bs

/-- The scrambler registers behind blocks that alternate between the lanes as they leave. -/
def lanesEnd (one : Bool) (r0 r1 : BitVec 58) : List Block → BitVec 58 × BitVec 58
  | [] => (r0, r1)
  | b :: bs => if one then lanesEnd false r0 (scramble r1 b.data).1 bs else lanesEnd true (scramble r0 b.data).1 r1 bs

/-- One lane's blocks through its descrambler. -/
def descrambleLane (reg : BitVec 58) : List Block → List Block
  | [] => []
  | b :: bs => let r := descramble reg b.data; ⟨b.hdr, r.2⟩ :: descrambleLane r.1 bs

/-- The blocks of two lanes in the order in which they left: the first from the one lane, the next from the other. -/
def mergeLanes : List Block → List Block → List Block
  | [], _ => []
  | a :: as, bs =>
    match bs with
    | [] => [a]
    | b :: bs => a :: b :: mergeLanes as bs

/-! ### Blocks -/

/-- A block of eight bytes: byte n occupies bits [8n+7:8n] (R251). -/
def blockOf (ctl : Bool) (bs : List Byte) : Block := ⟨if ctl then 2 else 1, BitVec.ofNat 64 (ofLeBytes (bs.take 8))⟩

/-- The eight bytes of a block. -/
def blockBytes (b : Block) : List Byte := leBytes 8 b.data.toNat

/-- The header is 0b01 or 0b10 (R251). -/
def hdrOk (h : BitVec 2) : Bool := h == 1 || h == 2

/-- A control block of a type (Table 10-2). -/
def isCtl (b : Block) (typ : Byte) : Bool := b.hdr == 2 && (blockBytes b).getD 0 0 == typ

/-- Blocks that may stand between any two blocks of a frame: ACK, NAK and ALIGN (R253). -/
def between (b : Block) : Bool := isCtl b 0x66 || isCtl b 0x78 || isCtl b 0x33

/-- An ACK block (Table 10-2). -/
def ackBlock (lseq : BitVec 12) : BitVec 64 := BitVec.ofNat 64 (0x66 + 256 * lseq.toNat)
/-- An IDLE block (Table 10-2). -/
def idleBlock : Block := ⟨2, 0x1E⟩
/-- A TRAIN block: lane number and state code (Table 10-2). -/
def trainBlock (lane code : Nat) : Block := ⟨2, BitVec.ofNat 64 (0x2D + 256 * lane + 65536 * code)⟩
/-- A NAK block with its cause (Table 10-2). -/
def nakBlock (lseq : BitVec 12) (cause : Nat) : BitVec 64 := BitVec.ofNat 64 (0x78 + 256 * lseq.toNat + 16777216 * cause)
/-- An ALIGN block: lane number and count (Table 10-2). -/
def alignBlock (lane count : Nat) : Block := ⟨2, BitVec.ofNat 64 (0x33 + 256 * lane + 65536 * (count % 65536))⟩

/-- Data blocks of a payload whose length is a multiple of 8. -/
def dataBlocks : Nat → List Byte → List Block
  | 0, _ => []
  | n + 1, bs => blockOf false bs :: dataBlocks n (bs.drop 8)

/-- Blocks of a frame placed from a block position of both lanes on (R252): an ALIGN pair stands at every 4,096th position of each lane. -/
def placeBlocks (pos : Nat) : List Block → List Block
  | [] => []
  | b :: bs =>
    if pos / 2 % 4096 = 0 ∧ pos % 2 = 0 then alignBlock 0 (pos / 8192) :: alignBlock 1 (pos / 8192) :: b :: placeBlocks (pos + 3) bs
    else b :: placeBlocks (pos + 1) bs

/-! ### Frames -/

/-- What FRAME_START says (Table 10-2). -/
structure FrameHead where
  lseq  : BitVec 12
  retry : Bool
  tsReq : Bool
  enc   : Bool
  phase : Bool
  len   : Nat
  tsId  : BitVec 16
deriving DecidableEq, Repr

/-- Bytes 1 to 7 of FRAME_START: the additional data of R272 and the first bytes of the CRC. -/
def FrameHead.bytes (h : FrameHead) : List Byte :=
  leBytes 2 (h.lseq.toNat + (if h.retry then 4096 else 0) + (if h.tsReq then 8192 else 0) + (if h.enc then 16384 else 0) + (if h.phase then 32768 else 0))
    ++ leBytes 2 h.len ++ leBytes 2 h.tsId.toNat ++ [0]

/-- A frame's blocks (R253, R254): body is the payload as sent, with the tag behind it when ENC is set. -/
def frameBlocks (h : FrameHead) (body : List Byte) : List Block :=
  blockOf true (0x4B :: h.bytes) :: dataBlocks (body.length / 8) body
    ++ [blockOf true (0x55 :: leBytes 4 (crc32c (h.bytes ++ body)).toNat ++ [0, 0, 0])]

/-- What a FRAME_START block says. -/
def headOf (b : Block) : FrameHead :=
  let bs := blockBytes b
  let w := ofLeBytes ((bs.drop 1).take 2)
  { lseq := BitVec.ofNat 12 w, retry := w.testBit 12, tsReq := w.testBit 13, enc := w.testBit 14, phase := w.testBit 15,
    len := ofLeBytes ((bs.drop 3).take 2), tsId := BitVec.ofNat 16 (ofLeBytes ((bs.drop 5).take 2)) }

/-- A frame out of its blocks, in clear (R253, R254): none when it fails as a CRC error. Answers what FRAME_START says and the body. -/
def readFrame (blocks : List Block) : Option (FrameHead × List Byte) :=
  match blocks.filter (fun b => !between b) with
  | [] => none
  | b :: rest =>
    let h := headOf b
    let n := h.len / 8 + (if h.enc then 2 else 0)
    let data := rest.take n
    let body := data.flatMap blockBytes
    match rest.drop n with
    | [e] =>
      if blocks.all (fun x => hdrOk x.hdr) && isCtl b 0x4B && decide (32 ≤ h.len ∧ h.len ≤ 1024 ∧ h.len % 8 = 0) && data.all (fun x => x.hdr == 1)
          && isCtl e 0x55 && ofLeBytes (((blockBytes e).drop 1).take 4) == (crc32c ((blockBytes b).drop 1 ++ body)).toNat then some (h, body)
      else none
    | _ => none

/-- A lane whose pair is inverted, put right (R252). -/
def upright (inverted : Bool) (reg : BitVec 58) (bs : List Block) : BitVec 58 × List Block :=
  if inverted then (~~~ reg, bs.map (fun b => ⟨~~~ b.hdr, ~~~ b.data⟩)) else (reg, bs)

/-- The blocks of a received frame, in clear (R252): polarity, scrambler, skew and swap are undone, then the lanes are merged. inv0, inv1, skew, swapped: what DESKEW found. -/
def rxClear (inv0 inv1 : Bool) (skew : Int) (swapped : Bool) (f : RxFrame) : List Block :=
  let a := upright inv0 f.before0 f.lane0
  let b := upright inv1 f.before1 f.lane1
  let a := (descrambleLane a.1 a.2).drop skew.toNat
  let b := (descrambleLane b.1 b.2).drop (-skew).toNat
  let own := if swapped then (b, a) else (a, b)
  if f.onLane1 then mergeLanes own.2 own.1 else mergeLanes own.1 own.2

/-- The IV of a frame (R272): the direction's salt and the transmission counter, in the byte order of R6 (assumption 55). -/
def frameIv (salt : List Byte) (counter : Nat) : List Byte := salt ++ leBytes 8 counter

/-! ### Bring-up -/

/-- The search for block lock on one lane (R265): valid headers at the current position, 64 in a row. Answers whether it locks and how many invalid headers it met. -/
def lockSearch : Nat → Nat → Nat → List Bool → Bool × Nat
  | 0, _, bad, _ => (false, bad)
  | n + 1, run, bad, bits =>
    match bits with
    | a :: b :: rest =>
      if a == b then lockSearch n 0 (bad + 1) (b :: rest)
      else if 63 ≤ run then (true, bad)
      else lockSearch n (run + 1) bad (rest.drop 64)
    | _ => (false, bad)

/-- The peaking setting with the largest eye height, the lower of equal ones (R264): best so far, its height, index. -/
def bestEye (best height : Nat) : Nat → List Nat → Nat
  | _, [] => best
  | i, h :: hs => if height < h then bestEye i h (i + 1) hs else bestEye best height (i + 1) hs

/-- A lane is inverted (R252): its TRAIN type byte arrives inverted. -/
def laneInverted (r : LaneReport) : Bool := r.typ == 0xD2
/-- A lane number as it left, polarity put right. -/
def laneNumberOf (r : LaneReport) (n : Byte) : Nat := (if laneInverted r then ~~~ n else n).toNat
/-- The lane number a lane's TRAIN blocks carry, polarity put right. -/
def laneNumber (r : LaneReport) : Nat := laneNumberOf r r.number
/-- Two consecutive ALIGN pairs agree, within a skew of 16 blocks either way, on two lanes that carry TRAIN with different numbers and ALIGN with the same ones (R252, R263). -/
def deskewed (a b : LaneReport) (g : AlignPairs) : Bool :=
  let first : Int := (g.first0 : Int) - g.first1
  let second : Int := (g.second0 : Int) - g.second1
  (a.typ == 0x2D || laneInverted a) && (b.typ == 0x2D || laneInverted b) && decide (laneNumber a + laneNumber b = 1)
    && decide (laneNumberOf a g.number0 = laneNumber a ∧ laneNumberOf b g.number1 = laneNumber b)
    && decide (first = second) && decide (first.natAbs ≤ 16)

/-! ### Chirps and test patterns -/

/-- Lengths of the runs of equal samples that have ended, with their value. -/
def runsOf : Bool → Nat → List Bool → List (Bool × Nat)
  | _, _, [] => []
  | v, n, x :: xs => if x == v then runsOf v (n + 1) xs else (v, n) :: runsOf x 1 xs

/-- Three bursts of 6 to 10 active samples with 6 to 10 idle ones between them (R276). -/
def chirpRuns : List (Bool × Nat) → Bool
  | [] => false
  | r :: rs =>
    let fit := fun (v : Bool) (x : Bool × Nat) => x.1 == v && decide (6 ≤ x.2 ∧ x.2 ≤ 10)
    match rs with
    | a :: b :: c :: d :: _ => (fit true r && fit false a && fit true b && fit false c && fit true d) || chirpRuns rs
    | _ => false

/-- The chirp detector on the samples of a receive clock lane (R276). -/
def chirpIn (samples : List Bool) : Bool := chirpRuns (runsOf false 0 samples)

/-- The next bit of a test pattern behind the last 31 bits of it, latest first (R279): taps 7 and 6 for PRBS7, 31 and 28 for PRBS31. -/
def prbsNext (prbs31 : Bool) (reg : List Bool) : Bool :=
  if prbs31 then reg.getD 30 false ^^ reg.getD 27 false else reg.getD 6 false ^^ reg.getD 5 false

/-- n bits of a test pattern, behind the last 31 bits of it. -/
def prbsBits (prbs31 : Bool) : Nat → List Bool → List Bool
  | 0, _ => []
  | n + 1, reg => let x := prbsNext prbs31 reg; x :: prbsBits prbs31 n (x :: reg.take 30)

/-- Errors among bits i, i + 1, … against the pattern a checker goes on with from the last 31 bits of it (R279). -/
def prbsErrors (prbs31 : Bool) (bit : Nat → Bool) : Nat → Nat → List Bool → Nat
  | 0, _, _ => 0
  | n + 1, i, reg =>
    let x := prbsNext prbs31 reg
    (if bit i == x then 0 else 1) + prbsErrors prbs31 bit n (i + 1) (x :: reg.take 30)

end Sys2Proof.Machine
end

