-- ==== Sys2Proof/Machine/Payload.lean ====
section
/-! DEFINITION. Payloads of the frames a hub sends, as bytes (Tables 7-6, 9-1, 10-3, 10-4, 13-3, 13-4, 13-6, 15-6). -/

namespace Sys2Proof.Machine

open Sys2Proof

/-- Type code of a frame (Table 10-3). -/
def TxBody.typ (b : TxBody) : Nat :=
  match b with
  | .sync _ => 0x21
  | .delayReq _ => 0x22
  | .delayResp _ => 0x23
  | .lineTrigger _ _ => 0x31
  | .ident _ => 0x01
  | .rate _ _ => 0x02
  | .soak => 0x03
  | .keyFrame k _ => 0x10 + k
  | .digest _ => 0x41
  | .health _ => 0x42
  | .streamSync _ => 0x43
  | .mains _ => 0x44
  | .cfgData _ _ => 0x45
  | .cfgReady _ => 0x46
  | .cfgArm _ => 0x46
  | .vaultSync _ _ => 0x47
  | .mgmt => 0x51

/-- Word 0 of a payload: the type in bits [31:24]. -/
def typeWord (typ rest : Nat) : W32 := BitVec.ofNat 32 (typ * 16777216 + rest)

/-- A time as three words: whole ns, and the fraction in bits [31:16] with bits below it (Tables 7-6, 9-1). -/
def timeWords (t : Tq) : List W32 := two (t / 65536) ++ [BitVec.ofNat 32 (t % 65536 * 65536)]

/-- Length rule of a frame (R253): at least 32 B, at most 1,024 B, in multiples of 8. -/
def fitLength (bs : List Byte) : List Byte :=
  let bs := bs.take 1024
  bs ++ List.replicate (if bs.length < 32 then 32 - bs.length else (8 - bs.length % 8) % 8) 0

/-- The payload of a frame whose layout the manual does not give: its type, and the rest free (assumption 56). -/
def freePayload (typ : Nat) (values : List W32) : List Byte :=
  fitLength ((Config.layout typ values).take 3 ++ List.replicate (3 - (Config.layout typ values).length) 0 ++ [BitVec.ofNat 8 typ] ++ (Config.layout typ values).drop 3)

/-- A STREAM_SYNC entry (Table 13-6). -/
def entryWords (e : SyncEntry) : List W32 :=
  [BitVec.ofNat 32 (e.kind.val * 16777216 + e.cause.toNat * 65536 + e.detail.toNat * 256 + e.index.val), e.seq] ++ two e.first ++ two e.frames ++ [0, 0]

/-- Bit positions of HEALTH's flags (Table 13-4). -/
def healthFlags (f : HealthFrame) : Nat :=
  (if f.linkDiscard then 8 else 0) + (if f.swapPending then 4 else 0) + (if f.excStuckSelf then 2 else 0) + (if f.relinquish then 1 else 0)

/-- The payload of a frame, in the byte order of R6. -/
def TxBody.payload (b : TxBody) : List Byte :=
  match b with
  | .sync m => wordBytes ([typeWord 0x21 m.seqId.toNat, BitVec.ofNat 32 (m.epoch.toNat * 65536 + m.state.val * 8192 + (if m.synt then 4096 else 0) + m.hops.toNat)]
      ++ timeWords m.t1 ++ [BitVec.ofNat 32 (m.rootId.toNat * 65536), 0, 0])
  | .delayReq m => wordBytes ([typeWord 0x22 m.seqId.toNat, BitVec.ofNat 32 (m.epoch.toNat * 65536)] ++ List.replicate 6 0)
  | .delayResp m => wordBytes ([typeWord 0x23 m.seqId.toNat, BitVec.ofNat 32 (m.epoch.toNat * 65536)] ++ timeWords m.t4 ++ [0, 0, 0])
  | .lineTrigger f _ => wordBytes ([typeWord 0x31 (f.cls.val * 65536 + f.hopsLeft.toNat), BitVec.ofNat 32 (f.origin.toNat * 65536 + f.epoch.toNat), f.seq]
      ++ timeWords f.tq ++ [0, 0])
  | .ident f => wordBytes ([typeWord 1 ((match f.port with
        | .head => 0
        | .tail => 1
        | .twin => 2) * 65536 + f.maxRate * 256 + (if f.secure then 1 else 0)),
      BitVec.ofNat 32 (f.nodeId.toNat * 65536 + (if f.unitB then 1 else 0)), BitVec.ofNat 32 f.nextRx.toNat] ++ toWords 4 f.identity.toNat ++ [0])
  | .rate op code => wordBytes ([typeWord 2 (op * 65536 + code * 256)] ++ List.replicate 7 0)
  | .soak => freePayload 3 []
  | .keyFrame _ bytes => bytes
  | .digest f => wordBytes ([typeWord 0x41 (match f.group with
        | .a => 0
        | .b => 65536)] ++ two f.frame ++ [f.strobeNs] ++ f.cores)
  | .health f => wordBytes ([typeWord 0x42 (f.role.toNat * 1048576 + f.reasons.toNat), BitVec.ofNat 32 (f.epoch.toNat * 65536 + healthFlags f), f.firmware, f.trigSeq]
      ++ toWords 8 f.cfgHash.toNat ++ two f.lastA.toNat ++ two f.lastB.toNat ++ two f.failCores.toNat ++ [0, 0])
  | .streamSync es => wordBytes ([typeWord 0x43 es.length] ++ List.replicate 7 0 ++ es.flatMap entryWords)
  | .mains f => freePayload 0x44 (two (f.ta / 65536) ++ [BitVec.ofNat 32 (f.ta % 65536)] ++ two f.fA ++ two f.fB)
  | .cfgData rs last => freePayload 0x45 (bitAt 0 last :: rs)
  | .cfgReady crc => freePayload 0x46 [0, crc]
  | .cfgArm frame => freePayload 0x46 (1 :: two frame)
  | .vaultSync vseq tExit => freePayload 0x47 (vseq :: two tExit)
  | .mgmt => freePayload 0x51 []

/-- LEN of a frame (R253). -/
def TxFrame.len (f : TxFrame) : Nat := f.body.payload.length

/-- What FRAME_START says of a frame (Table 10-2); phase: its KEY_PHASE when it is sealed (R272). -/
def TxFrame.head (f : TxFrame) (phase : Option Bool) : FrameHead :=
  { lseq := f.lseq, retry := f.retry, tsReq := f.tsReq, enc := phase.isSome, phase := phase.getD false, len := f.len, tsId := if f.tsReq then f.tsId else 0 }

/-- A frame's blocks before the scrambler (R253, R254, R272, R273): in service with keys it is sealed, over the stamps already in its payload. -/
def TxFrame.blocks (f : TxFrame) (keys : Option LinkKeys) : List Block :=
  let h := f.head (keys.map (fun k => k.phase))
  let plain := f.body.payload
  match keys with
  | none => frameBlocks h plain
  | some k =>
    let r := Config.aesGcmSeal k.txKey (frameIv k.txSalt k.counter) h.bytes plain
    frameBlocks h (r.1 ++ r.2)

end Sys2Proof.Machine
end

