-- ==== Sys2Proof/Machine/Ops.lean ====
section
/-! DEFINITION. The named operations every command is written over: one accessor per indexed piece of state, the clock (R214, R230, R439), the register window's stored words, host memory, trace (R438), the error log (R454 to R462), interrupts (R300) and completions (R298, R299). -/

namespace Sys2Proof.Machine

open Sys2Proof

/-- The outcome of a command that runs. -/
abbrev Out := Host.Outcome State Fault Refusal

/-- Index of a strobe group: 0 A, 1 B. -/
def gidx : Group → Nat
  | .a => 0
  | .b => 1

/-- The group of an index. -/
def groupOf (n : Nat) : Group := if n = 0 then .a else .b

/-- The other group. -/
def Group.peer : Group → Group
  | .a => .b
  | .b => .a

/-- Index p of a port. -/
def pidx : Port → Nat
  | .head => 0
  | .tail => 1
  | .twin => 2

/-- The port of an index. -/
def portOf (n : Nat) : Port := if n = 0 then .head else if n = 1 then .tail else .twin

/-- Apply an update for each of a list of items, in order. -/
def State.each {α : Type} (s : State) (xs : List α) (f : α → State → State) : State :=
  xs.foldl (fun t x => f x t) s

/-- Apply an update when a condition holds. -/
def State.doIf (s : State) (c : Bool) (f : State → State) : State := if c then f s else s

/-! ### Indexed state -/

/-- A strobe group. -/
def State.grpOf (s : State) (n : Nat) : GroupSt := Cells.get (fun _ => .init) s.grp n
/-- Replace a strobe group. -/
def State.setGrp (s : State) (n : Nat) (v : GroupSt) : State := { s with grp := Cells.set (fun _ => .init) s.grp n v }
/-- Change a strobe group. -/
def State.updGrp (s : State) (n : Nat) (f : GroupSt → GroupSt) : State := s.setGrp n (f (s.grpOf n))

/-- The analogue facts of a group's last edge. -/
def State.edgeOf (s : State) (n : Nat) : EdgeSample := Cells.get (fun _ => EdgeSample.none) s.edge n
/-- Replace the analogue facts of a group's last edge. -/
def State.setEdge (s : State) (n : Nat) (v : EdgeSample) : State := { s with edge := Cells.set (fun _ => EdgeSample.none) s.edge n v }
/-- Change the analogue facts of a group's last edge. -/
def State.updEdge (s : State) (n : Nat) (f : EdgeSample → EdgeSample) : State := s.setEdge n (f (s.edgeOf n))

/-- A converter core. -/
def State.coreOf (s : State) (n : Nat) : CoreSt := Cells.get (fun _ => .init) s.core n
/-- Replace a converter core. -/
def State.setCore (s : State) (n : Nat) (v : CoreSt) : State := { s with core := Cells.set (fun _ => .init) s.core n v }
/-- Change a converter core. -/
def State.updCore (s : State) (n : Nat) (f : CoreSt → CoreSt) : State := s.setCore n (f (s.coreOf n))

/-- The pair check of a core pair. -/
def State.pairOf (s : State) (n : Nat) : CheckSt := Cells.get (fun _ => .init) s.pair n
/-- Replace the pair check of a core pair. -/
def State.setPair (s : State) (n : Nat) (v : CheckSt) : State := { s with pair := Cells.set (fun _ => .init) s.pair n v }
/-- Change the pair check of a core pair. -/
def State.updPair (s : State) (n : Nat) (f : CheckSt → CheckSt) : State := s.setPair n (f (s.pairOf n))

/-- The result of a channel in the frame in hand. -/
def State.resOf (s : State) (n : Nat) : Option ResultSt := Cells.get (fun _ => none) s.res n
/-- Replace the result of a channel in the frame in hand. -/
def State.setRes (s : State) (n : Nat) (v : Option ResultSt) : State := { s with res := Cells.set (fun _ => none) s.res n v }
/-- Change the result of a channel in the frame in hand. -/
def State.updRes (s : State) (n : Nat) (f : Option ResultSt → Option ResultSt) : State := s.setRes n (f (s.resOf n))

/-- An input. -/
def State.ainOf (s : State) (n : Nat) : InputSt := Cells.get (fun _ => .init) s.ain n
/-- Replace an input. -/
def State.setAin (s : State) (n : Nat) (v : InputSt) : State := { s with ain := Cells.set (fun _ => .init) s.ain n v }
/-- Change an input. -/
def State.updAin (s : State) (n : Nat) (f : InputSt → InputSt) : State := s.setAin n (f (s.ainOf n))

/-- An excitation output. -/
def State.excOf (s : State) (n : Nat) : ExcSt := Cells.get (fun _ => .init) s.exc n
/-- Replace an excitation output. -/
def State.setExc (s : State) (n : Nat) (v : ExcSt) : State := { s with exc := Cells.set (fun _ => .init) s.exc n v }
/-- Change an excitation output. -/
def State.updExc (s : State) (n : Nat) (f : ExcSt → ExcSt) : State := s.setExc n (f (s.excOf n))

/-- A filter stage. -/
def State.fltOf (s : State) (n : Nat) : StageSt := Cells.get (fun _ => .init) s.flt n
/-- Replace a filter stage. -/
def State.setFlt (s : State) (n : Nat) (v : StageSt) : State := { s with flt := Cells.set (fun _ => .init) s.flt n v }
/-- Change a filter stage. -/
def State.updFlt (s : State) (n : Nat) (f : StageSt → StageSt) : State := s.setFlt n (f (s.fltOf n))

/-- A stream. -/
def State.strmOf (s : State) (n : Nat) : StreamSt := Cells.get (fun _ => .init) s.strm n
/-- Replace a stream. -/
def State.setStrm (s : State) (n : Nat) (v : StreamSt) : State := { s with strm := Cells.set (fun _ => .init) s.strm n v }
/-- Change a stream. -/
def State.updStrm (s : State) (n : Nat) (f : StreamSt → StreamSt) : State := s.setStrm n (f (s.strmOf n))

/-- Frames of a group that left the history lately, newest first. -/
def State.hiveLostOf (s : State) (n : Nat) : List (Nat × Tq) := Cells.get (fun _ => []) s.hiveLost n
/-- Replace the frames of a group that left the history. -/
def State.setHiveLost (s : State) (n : Nat) (v : List (Nat × Tq)) : State := { s with hiveLost := Cells.set (fun _ => []) s.hiveLost n v }

/-- A channel's statistics. -/
def State.statsOf (s : State) (n : Nat) : StatCh := Cells.get (fun _ => .init) s.stats n
/-- Replace a channel's statistics. -/
def State.setStats (s : State) (n : Nat) (v : StatCh) : State := { s with stats := Cells.set (fun _ => .init) s.stats n v }
/-- Change a channel's statistics. -/
def State.updStats (s : State) (n : Nat) (f : StatCh → StatCh) : State := s.setStats n (f (s.statsOf n))

/-- A condition. -/
def State.condOf (s : State) (n : Nat) : CondSt := Cells.get (fun _ => .init) s.cond n
/-- Replace a condition. -/
def State.setCond (s : State) (n : Nat) (v : CondSt) : State := { s with cond := Cells.set (fun _ => .init) s.cond n v }
/-- Change a condition. -/
def State.updCond (s : State) (n : Nat) (f : CondSt → CondSt) : State := s.setCond n (f (s.condOf n))

/-- A trigger unit. -/
def State.trigOf (s : State) (n : Nat) : TrigSt := Cells.get (fun _ => .init) s.trig n
/-- Replace a trigger unit. -/
def State.setTrig (s : State) (n : Nat) (v : TrigSt) : State := { s with trig := Cells.set (fun _ => .init) s.trig n v }
/-- Change a trigger unit. -/
def State.updTrig (s : State) (n : Nat) (f : TrigSt → TrigSt) : State := s.setTrig n (f (s.trigOf n))

/-- A capture unit. -/
def State.capOf (s : State) (n : Nat) : CapSt := Cells.get (fun _ => .init) s.cap n
/-- Replace a capture unit. -/
def State.setCap (s : State) (n : Nat) (v : CapSt) : State := { s with cap := Cells.set (fun _ => .init) s.cap n v }
/-- Change a capture unit. -/
def State.updCap (s : State) (n : Nat) (f : CapSt → CapSt) : State := s.setCap n (f (s.capOf n))

/-- Firefly's view of a port. -/
def State.ffPortOf (s : State) (n : Nat) : FfPortSt := Cells.get (fun _ => .init) s.ffPort n
/-- Replace Firefly's view of a port. -/
def State.setFfPort (s : State) (n : Nat) (v : FfPortSt) : State := { s with ffPort := Cells.set (fun _ => .init) s.ffPort n v }
/-- Change Firefly's view of a port. -/
def State.updFfPort (s : State) (n : Nat) (f : FfPortSt → FfPortSt) : State := s.setFfPort n (f (s.ffPortOf n))

/-- A transmit time-stamp queue. -/
def State.txtsOf (s : State) (n : Nat) : TxtsSt := Cells.get (fun _ => .init) s.txts n
/-- Replace a transmit time-stamp queue. -/
def State.setTxts (s : State) (n : Nat) (v : TxtsSt) : State := { s with txts := Cells.set (fun _ => .init) s.txts n v }
/-- Change a transmit time-stamp queue. -/
def State.updTxts (s : State) (n : Nat) (f : TxtsSt → TxtsSt) : State := s.setTxts n (f (s.txtsOf n))

/-- A pulse generator. -/
def State.pulseOf (s : State) (n : Nat) : PulseSt := Cells.get (fun _ => .init) s.pulse n
/-- Replace a pulse generator. -/
def State.setPulse (s : State) (n : Nat) (v : PulseSt) : State := { s with pulse := Cells.set (fun _ => .init) s.pulse n v }
/-- Change a pulse generator. -/
def State.updPulse (s : State) (n : Nat) (f : PulseSt → PulseSt) : State := s.setPulse n (f (s.pulseOf n))

/-- A port. -/
def State.linkOf (s : State) (n : Nat) : LinkSt := Cells.get (fun _ => .init) s.link n
/-- Replace a port. -/
def State.setLink (s : State) (n : Nat) (v : LinkSt) : State := { s with link := Cells.set (fun _ => .init) s.link n v }
/-- Change a port. -/
def State.updLink (s : State) (n : Nat) (f : LinkSt → LinkSt) : State := s.setLink n (f (s.linkOf n))

/-- A submission ring. -/
def State.sqOf (s : State) (n : Nat) : SqSt := Cells.get (fun _ => .init) s.sq n
/-- Replace a submission ring. -/
def State.setSq (s : State) (n : Nat) (v : SqSt) : State := { s with sq := Cells.set (fun _ => .init) s.sq n v }
/-- Change a submission ring. -/
def State.updSq (s : State) (n : Nat) (f : SqSt → SqSt) : State := s.setSq n (f (s.sqOf n))

/-- A completion ring. -/
def State.cqOf (s : State) (n : Nat) : CqSt := Cells.get (fun _ => .init) s.cq n
/-- Replace a completion ring. -/
def State.setCq (s : State) (n : Nat) (v : CqSt) : State := { s with cq := Cells.set (fun _ => .init) s.cq n v }
/-- Change a completion ring. -/
def State.updCq (s : State) (n : Nat) (f : CqSt → CqSt) : State := s.setCq n (f (s.cqOf n))

/-! ### Time -/

/-- A frame number that names no frame. -/
def noFrame : Nat := 0xFFFFFFFFFFFFFFFF

/-- The correction spread so far, u ns after the timebase started (R230): it is spread evenly over slewLen ns from slewAt on. On REFCLK (alone) its rate, the last one of the servo, goes on beyond them (R215, R231, R233). -/
def TimeSt.spread (t : TimeSt) (alone : Bool) (u : Nat) : Int :=
  if t.slewLen = 0 then 0 else t.slew * (if alone then u - t.slewAt else min (u - t.slewAt) t.slewLen : Nat) / (t.slewLen : Int)

/-- n ns pass on the Cricket clock of 32.768 kHz (R439), which no WARM starts again. -/
def TimeSt.cricketBy (t : TimeSt) (n : Nat) : TimeSt :=
  let sub := t.cricketSub + 32768 * n
  { t with cricket := t.cricket + BitVec.ofNat 32 (sub / 1000000000), cricketSub := sub % 1000000000, age := t.age + n }

/-- n cycles of the 1.0 GHz timebase pass (R214, R215, R230): 1 ns each, plus the part of a correction that falls to them. A timebase that does not run leaves the count alone. alone: it takes REFCLK, not the parent's clock. -/
def TimeSt.advance (t : TimeSt) (alone : Bool) (n : Nat) : TimeSt :=
  let c := t.cricketBy n
  if t.running then
    { c with count := ((t.count + n * 4294967296 : Nat) + (t.spread alone (t.up + n) - t.spread alone t.up) : Int).toNat,
             up := t.up + n }
  else c

/-- A port is in service (R250). -/
def State.inService (s : State) (p : Nat) : Bool := decide ((s.linkOf p).mode = .active)
/-- The hub is a ROOT (R222). -/
def State.ffRoot (s : State) : Bool := s.cfgv Fld.fireflyRole 0 0 == 0
/-- FIREFLY.PARENT. -/
def State.ffParent (s : State) : Nat := s.cfgv Fld.fireflyParent 0 0
/-- FIREFLY.ALT_PARENT. -/
def State.ffAlt (s : State) : Option Nat := if s.cfgv Fld.fireflyAltParent 0 0 = 0 then none else some (s.cfgv Fld.fireflyAltParent 0 0 - 1)
/-- The parent in use (R222). -/
def State.ffInUse (s : State) : Nat := if s.ff.altInUse then s.ffAlt.getD s.ffParent else s.ffParent
/-- FF_STATUS.SYNTONISED (R215): a member's parent port is in service. -/
def State.syntonised (s : State) : Bool := !s.ffRoot && s.inService s.ffInUse

/-- n cycles of the timebase pass, on the reference it takes now. -/
def State.tick (s : State) (n : Nat) : TimeSt := s.tm.advance (!s.syntonised) n

/-- Firefly time with its 16-bit fraction (R214). -/
def State.now (s : State) : Tq := s.tm.count / 65536

/-- Firefly time in whole ns. -/
def State.nowNs (s : State) : Nat := s.tm.count / 4294967296

/-- A time in whole ns. -/
def tqNs (t : Tq) : Nat := t / 65536

/-- A whole ns as a time. -/
def nsTq (n : Nat) : Tq := n * 65536

/-- Bring the count up to an instant that has fallen due (assumption 3); a count already past it stays. -/
def State.reach (s : State) (t : Tq) : State :=
  if s.now < t ∧ s.tm.running = true then
    let u := s.tick ((t * 65536 - s.tm.count) / 4294967296)
    { s with tm := { u with count := max u.count (t * 65536) } }
  else s

/-- Bring the clock up to an instant counted in ns since the timebase started (assumption 3). -/
def State.reachUp (s : State) (u : Nat) : State :=
  if s.tm.up < u ∧ s.tm.running = true then { s with tm := s.tick (u - s.tm.up) } else s

/-- Time reaches the Cricket edge of a count; an edge that has passed leaves it. -/
def State.reachCricket (s : State) (c : W32) : State :=
  let d := (c - s.tm.cricket).toNat
  if d = 0 ∨ 2147483648 ≤ d then s else { s with tm := s.tick ((d * 1000000000 - s.tm.cricketSub + 32767) / 32768) }

/-- The epoch a time is stamped with (R218). -/
def State.epoch (s : State) : BitVec 16 := s.ff.epoch

/-! ### The register window's stored words -/

/-- A stored register word. -/
def State.reg (s : State) (a : Nat) : W32 := Cells.get resetWord s.regs a
/-- Write a stored register word. -/
def State.setReg (s : State) (a : Nat) (v : W32) : State := { s with regs := Cells.set resetWord s.regs a v }
/-- Add to a counter register that stops at 0xFFFF_FFFF. -/
def State.bumpBy (s : State) (a n : Nat) : State := s.setReg a ((s.reg a).satAdd n)
/-- Add 1 to a counter register. -/
def State.bump (s : State) (a : Nat) : State := s.bumpBy a 1
/-- Set a bit of a stored register word. -/
def State.setBit (s : State) (a b : Nat) : State := s.setReg a (s.reg a ||| BitVec.ofNat 32 (2 ^ b))
/-- Clear a bit of a stored register word. -/
def State.clrBit (s : State) (a b : Nat) : State := s.setReg a (s.reg a &&& ~~~ BitVec.ofNat 32 (2 ^ b))
/-- Put a bit of a stored register word. -/
def State.putBit (s : State) (a b : Nat) (v : Bool) : State := if v then s.setBit a b else s.clrBit a b
/-- Read a bit of a stored register word. -/
def State.bit (s : State) (a b : Nat) : Bool := (s.reg a).getLsbD b
/-- A pair of stored words as one number (R7). -/
def State.reg64 (s : State) (a : Nat) : Nat := (s.reg a).toNat + 4294967296 * (s.reg (a + 4)).toNat
/-- Write a pair of stored words (R7). -/
def State.setReg64 (s : State) (a v : Nat) : State := (s.setReg a (W32.lo v)).setReg (a + 4) (W32.hi v)
/-- Words written upward from an address. -/
def State.setRegs (s : State) (a : Nat) : List W32 → State
  | [] => s
  | w :: ws => State.setRegs (s.setReg a w) (a + 4) ws

/-- EXC_STATUS[m]. -/
def Reg.excStatus (m : Nat) : Nat := 0x8400 + 4 * m
/-- EXC_SHORT_COUNT[m]. -/
def Reg.excShortCount (m : Nat) : Nat := 0x8480 + 4 * m
/-- CNV registers of core n (Table 4-4). -/
def Reg.cnv (n off : Nat) : Nat := 0x10000 + 0x40 * n + off
/-- STRB registers of group g (Table 2-6). -/
def Reg.strb (g off : Nat) : Nat := 0x1F000 + 0x40 * g + off
/-- Stream registers (Table 6-8). -/
def Reg.stream (x off : Nat) : Nat := 0x30000 + 0x40 * x + off
/-- Capture registers (Table 7-8). -/
def Reg.cap (u off : Nat) : Nat := 0x38000 + 0x40 * u + off
/-- Link registers (Table 10-9). -/
def Reg.link (p off : Nat) : Nat := 0x50000 + 0x1000 * p + off
/-- Transmit time-stamp registers (Table 9-7). -/
def Reg.txts (p off : Nat) : Nat := 0x48100 + 0x20 * p + off
/-- Submission ring registers (Table 11-3). -/
def Reg.sq (r off : Nat) : Nat := 0x4100 + 0x10 * r + off
/-- Completion ring registers (Table 11-3). -/
def Reg.cq (q off : Nat) : Nat := 0x4500 + 0x10 * q + off
/-- FF_STATUS, MAINS_STATUS, CFG_STATUS, TWIN_STATUS, CMP_STATUS, PWR_STATUS, FW_STATUS, BOOT_STATUS, HUB_STATUS, FLASH_STATUS, CLK_STATUS, SVETRON_STATUS, ERRLOG_STATUS and TRACE_STATUS: their sticky bits stand here. -/
def Reg.ffStatus : Nat := 0x48000
def Reg.mainsStatus : Nat := 0x20100
def Reg.cfgStatus : Nat := 0x100
def Reg.twinStatus : Nat := 0x58000
def Reg.cmpStatus : Nat := 0x40000
def Reg.pwrStatus : Nat := 0x1000
def Reg.fwStatus : Nat := 0x70010
def Reg.bootStatus : Nat := 0x40
def Reg.hubStatus : Nat := 0x20
def Reg.flashStatus : Nat := 0x70000
def Reg.clkStatus : Nat := 0x2000
def Reg.svStatus : Nat := 0x68000
def Reg.errStatus : Nat := 0x7C000
def Reg.traceStatus : Nat := 0x7E000

/-! ### Pins -/

/-- The function in effect on a pin (R480, R491): none while it is parked; GPIO[31] of the vault part is the seal switch. -/
def State.pinFunc (s : State) (k : Nat) : Nat :=
  if s.otp.vaultFuse = true ∧ k = 31 then 8 else if s.pads.parked.getLsbD k then 0 else Cells.get (fun _ => 0) s.pads.func k

/-- A pin feeds the excitation seize (R491, R492): it carries TWIN_SEIZE_IN, or is parked on its way from or to it. -/
def State.seizeFeeds (s : State) (k : Nat) : Bool :=
  decide (s.pinFunc k = 9) || (s.pads.parked.getLsbD k && (decide (Cells.get (fun _ => 0) s.pads.func k = 9) || s.cfgv Fld.pinFunc k 0 == 9))

/-- The pin that feeds the excitation seize, if one does. -/
def State.seizePin (s : State) : Option Nat := (List.range 32).find? s.seizeFeeds

/-- The force drivers count the seize as asserted (R492): the pin reads high or is UNSETTLED. -/
def State.seizeIn (s : State) : Bool :=
  match s.seizePin with
  | some k => !s.pads.settled.getLsbD k || s.pads.level.getLsbD k
  | none => false

/-- The level of a pin. -/
def State.setLevel (s : State) (k : Nat) (v : Bool) : State :=
  { s with pads := { s.pads with level := if v then s.pads.level ||| BitVec.ofNat 33 (2 ^ k) else s.pads.level &&& ~~~ BitVec.ofNat 33 (2 ^ k) } }

/-- A settled pin carries a function (R50, R175). -/
def State.pinCarries (s : State) (k f : Nat) : Bool := s.pads.settled.getLsbD k && decide (s.pinFunc k = f)

/-- A standby cuts packets only as the active reports (R352). -/
def State.isStandby (s : State) : Bool := decide (s.twin.role = .standby ∨ s.twin.role = .standbyUnfit)

/-- Role codes of Table 13-1. -/
def Role.code : Role → Nat
  | .unresolved => 0
  | .solo => 1
  | .active => 2
  | .standby => 3
  | .standbyUnfit => 4
  | .seized => 5

/-- The partner's last HEALTH reports a role. -/
def State.partnerRole (s : State) (r : Role) : Bool := s.twin.partner.any (fun h => decide (h.role.toNat = r.code))

/-! ### The flip of a commit -/

/-- The group whose boundary is the commit's (R317). -/
def State.leadGroup (s : State) : Option Nat :=
  if (s.grpOf 0).mode = .running then some 0 else if (s.grpOf 1).mode = .running then some 1 else none

/-- Arm a flip (R317). -/
def State.armFlip (s : State) (f : FlipSt) (atFrame : Option Nat) : State :=
  let f := { f with sealing := false, armed := true, waitA := true, waitB := true, atA := false, atB := false, shared := true, lead := s.leadGroup, atFrame := atFrame }
  { s with cfg := { s.cfg with flip := some f } }

/-! ### Host memory -/

/-- The hub may issue requests: Bus Master Enable and the link are up (R307), and the unit is not seized (R337). -/
def State.canDma (s : State) : Bool := s.host.control.busMaster && s.pads.pcieUp && !decide (s.twin.role = .seized)

/-- The port may carry requests at all (R307). -/
def State.busUp (s : State) : Bool := s.host.control.busMaster && s.pads.pcieUp

/-- A read of n bytes meets no address that answers with an error (R294). -/
def State.readOk (s : State) (a n : Nat) : Bool :=
  s.host.bad.all (fun r => decide (a + n ≤ r.1 ∨ r.1 + r.2 ≤ a))

/-- A read that failed is reported through AER (R294): poisoned data (bit 12) or a completion timeout (bit 14) of the Base specification's status word, or an error completion, which it does not hold; which one it was is free (assumption 62). -/
def State.aerReport (s : State) : State :=
  { s with host := { s.host with aer := s.host.aer ||| (Config.freeWord s.freeCtr &&& 0x5000) }, freeCtr := s.freeCtr + 1 }

/-- n bytes of host memory. -/
def State.hostRead (s : State) (a n : Nat) : List Byte := Memory.readN s.host.mem a n

/-- Posted writes to host memory. -/
def State.hostWrite (s : State) (a : Nat) (bs : List Byte) : State :=
  { s with host := { s.host with mem := Memory.writeN s.host.mem a bs } }

/-! ### Interrupts -/

/-- Send an MSI-X message on a vector (R284, R300, R462): a memory write of the table's data to its address; a vector that is masked, by its own bit or with the function, and a port that may not send it set the pending bit. -/
def State.msix (s : State) (v : Nat) : State :=
  let e := 0x6000 + 16 * v
  if s.canDma && s.host.control.msixEnable && !s.host.control.msixMask && !s.bit (e + 12) 0 then
    (s.hostWrite (s.reg64 e) (leBytes 4 (s.reg (e + 8)).toNat)).clrBit (0x6800 + 4 * (v / 32)) (v % 32)
  else s.setBit (0x6800 + 4 * (v / 32)) (v % 32)

/-- Send what is pending on every vector that may now be sent. -/
def State.msixPending (s : State) : State :=
  s.each (List.range 64) (fun v t => if t.bit (0x6800 + 4 * (v / 32)) (v % 32) then t.msix v else t)

/-! ### Trace (R438, R439) -/

/-- Place an entry behind those of other cycles and behind those of its own cycle with a source not above its own; the LOST marker keeps the place reserved for it. -/
def traceInsert (e : TraceEntry) : List TraceEntry → List TraceEntry
  | [] => [e]
  | x :: xs => if x.time = e.time ∧ e.source < x.source ∧ e.kind ≠ 0xF5 then e :: x :: xs else x :: traceInsert e xs

/-- Store an entry: WRAP overwrites the oldest, STOP keeps the last place for one LOST marker. -/
def State.traceStore (s : State) (e : TraceEntry) : State :=
  let t := s.trace
  if s.cfgv Fld.traceMode 0 0 = 0 then
    let es := traceInsert e t.entries
    let es := if es.length > 4096 then es.drop 1 else es
    { s with trace := { entries := es, full := es.any (fun x => x.kind == 0xF5) } }
  else if t.entries.length < (if t.full then 4096 else 4095) then
    { s with trace := { t with entries := traceInsert e t.entries } }
  else if t.full then s
  else if 4096 ≤ t.entries.length then s.setBit Reg.traceStatus 16
  else
    ({ s with trace := ⟨t.entries ++ [⟨0xF5, 0, s.epoch, BitVec.ofNat 64 s.nowNs, s.tm.cricket⟩], true⟩ } : State).setBit Reg.traceStatus 16

/-- Trace a hardware entry when TRACE.SOURCES holds its source. -/
def State.traceAdd (s : State) (kind source : Nat) (data : W32) : State :=
  if (s.cfgv Fld.traceSources 0 0).testBit (source - 1) then
    s.traceStore ⟨BitVec.ofNat 8 kind, BitVec.ofNat 8 source, s.epoch, BitVec.ofNat 64 s.nowNs, data⟩
  else s

/-- Trace a hardware entry whose KIND within 0x80-0xEF and whose DATA the manual does not give: both are free (R438). -/
def State.traceFree (s : State) (source : Nat) : State :=
  let kind := 0x80 + (Config.freeWord s.freeCtr).toNat % 0x70
  let data := Config.freeWord (s.freeCtr + 1)
  { s.traceAdd kind source data with freeCtr := s.freeCtr + 2 }

/-- The management engine writes a trace entry of its own, or none: whether, its KIND within 0x01-0x7F and its DATA are free (R438; assumption 61). -/
def State.traceEngine (s : State) : State :=
  let w := Config.freeWord s.freeCtr
  let data := Config.freeWord (s.freeCtr + 1)
  let s := { s with freeCtr := s.freeCtr + 2 }
  if w.getLsbD 0 then s.traceAdd (1 + field w 31 8 % 0x7F) 1 data else s

/-- Write a marker whatever TRACE.SOURCES holds (R439). -/
def State.traceMark (s : State) (kind : Nat) : State :=
  s.traceStore ⟨BitVec.ofNat 8 kind, 3, s.epoch, BitVec.ofNat 64 s.nowNs, s.tm.cricket⟩

/-! ### Power states (R403, R411) -/

/-- Spans in which the fast PLLs were stopped, as far as the last second reaches. -/
def recentSpans (age : Nat) (ps : List (Nat × Nat)) : List (Nat × Nat) := ps.filter (fun p => decide (age ≤ p.2 + 1000000000))

/-- The fast PLLs run since some ns ago, and no clock is gated. -/
def State.pllRunAgo (s : State) (ns : Nat) : State :=
  match s.pwr.pllFrom with
  | some u => { s with pwr := { s.pwr with pllFrom := none, pllSpans := recentSpans s.tm.age (s.pwr.pllSpans ++ [(u, max u (s.tm.age - ns))]), gated := false, gatedCnv := false } }
  | none => { s with pwr := { s.pwr with gated := false, gatedCnv := false } }

/-- The fast PLLs run from here on. -/
def State.pllRun (s : State) : State := s.pllRunAgo 0

/-- An unscheduled need (R405): gated clocks are there within 20 ns; stopped PLLs restart, and the need waits a free time of no more than 45 µs (assumption 110). -/
def State.coreNeed (s : State) : State :=
  match s.pwr.pllFrom with
  | some _ =>
    let s : State := s.pllRun
    { s with tm := s.tick ((Config.freeWord s.freeCtr).toNat % 45001), freeCtr := s.freeCtr + 1 }
  | none => { s with pwr := { s.pwr with gated := false, gatedCnv := false } }

/-- The power state while the core domain is off or goes off, when nothing but markers is traced (R439). -/
def State.quietMode (s : State) (m : PowerMode) : State := { s with pwr := { s.pwr with mode := m } }

/-- The power state changes: one entry of source POWER. -/
def State.powerMode (s : State) (m : PowerMode) : State := (s.quietMode m).traceFree 3

/-- The hub leaves DOZE for RUN. -/
def State.leaveDoze (s : State) : State :=
  if s.pwr.mode = .doze then (s.pllRun.powerMode .run).traceMark 0xF4 else s

/-! ### Errors (chapter 19) -/

/-- An error on a status bit. -/
def errAt (cls reg bit inst : Nat) : ErrIn := ⟨cls, reg, bit, inst, 0, false, false, false, false⟩

/-- An error without a status bit, Table 19-3: code, value of DETAIL [31:16]. -/
def errCode (cls code value : Nat) : ErrIn := ⟨cls, 0xFFFFF, 0, 0xFFFF, value * 65536 + code, false, false, false, false⟩

/-- Rank of an error among those of one cycle: REG, then BIT, then INSTANCE (R457). -/
def ErrIn.rank (e : ErrIn) : Nat := (e.reg * 32 + e.bit) * 65536 + e.inst

/-- One record per (REG, BIT, INSTANCE), with their number and the highest class, in rising rank (R457). -/
def mergeErr (e : ErrIn) : List (ErrIn × Nat) → List (ErrIn × Nat)
  | [] => [(e, 1)]
  | (x, n) :: xs =>
    if e.rank < x.rank then (e, 1) :: (x, n) :: xs
    else if e.rank = x.rank then
      ({ x with cls := max x.cls e.cls, engine := x.engine || e.engine, injected := x.injected || e.injected,
                recovers := x.recovers || e.recovers }, n + 1) :: xs
    else (x, n) :: mergeErr e xs

/-- The errors of one cycle as records to form. -/
def mergeErrs (es : List ErrIn) : List (ErrIn × Nat) := es.foldl (fun acc e => mergeErr e acc) []

/-- The oldest held record a new record of a class overwrites: of the lowest class below its own, otherwise of its own (R460). -/
def logVictim (cls : Nat) (rs : List ErrRec) : Option W32 :=
  if cls = 0 then none
  else ((List.range (cls + 1)).filterMap (fun c => (rs.find? (fun r => r.cls == c)).map (·.eseq))).head?

/-- Count a record dropped or overwritten (R460). -/
def State.logLost (s : State) : State := (s.bump 0x7C010).setBit Reg.errStatus 9

/-- Send or delay the message of a record that qualifies (R462). -/
def State.errMsi (s : State) (cls : Nat) : State :=
  if cls < field (s.reg 0x7C004) 1 0 then s
  else
    let gap := field (s.reg 0x7C004) 25 16 * 1000
    match s.log.msiUp with
    | some u => if s.tm.up < u + gap then { s with log := { s.log with msiDue := true } }
                else ({ s with log := { s.log with msiUp := some s.tm.up } } : State).msix (field (s.reg 0x401C) 5 0)
    | none => ({ s with log := { s.log with msiUp := some s.tm.up } } : State).msix (field (s.reg 0x401C) 5 0)

/-- Form a record: it takes the next ESEQ, is traced, and is placed, overwrites or is dropped (R454, R456, R460). -/
def State.formRecord (s : State) (r : ErrRec) : State :=
  let eseq := s.reg 0x7C00C
  let r := { r with eseq := eseq }
  let s := (s.setReg 0x7C00C (eseq + 1)).traceAdd 0x80 2 eseq
  if s.log.records.length < 512 then
    ({ s with log := { s.log with records := s.log.records ++ [{ r with lostBefore := s.log.lostNext }], lostNext := false } } : State).errMsi r.cls
  else
    match logVictim r.cls s.log.records with
    | some v =>
      (({ s with log := { s.log with
          records := s.log.records.filter (fun x => x.eseq != v) ++ [{ r with lostBefore := true }], lostNext := false } } : State).logLost).errMsi r.cls
    | none => ({ s with log := { s.log with lostNext := true } } : State).logLost

/-- Whether a record still stands in the log. -/
def State.logHeld (s : State) (e : W32) : Bool := s.log.records.any (fun r => r.eseq == e)

/-- Add occurrences to a held record (R458): COUNT stops at 65,535. -/
def State.logCount (s : State) (e : W32) (n : Nat) : State :=
  { s with log := { s.log with records := s.log.records.map (fun r =>
      if r.eseq == e then { r with count := min (r.count + n) 65535, coalesced := true } else r) } }

/-- The handling a source is in (R458). -/
def State.handlingOf (s : State) (reg inst : Nat) : Option Handling :=
  s.log.handling.find? (fun h => h.reg == reg && h.inst == inst)

/-- Replace a source's handling. -/
def State.setHandling (s : State) (h : Handling) : State :=
  { s with log := { s.log with handling := s.log.handling.map (fun x => if x.reg == h.reg && x.inst == h.inst then h else x) } }

/-- The recovery of a source ends (R458). -/
def State.endHandling (s : State) (reg inst : Nat) : State :=
  { s with log := { s.log with handling := s.log.handling.filter (fun h => !(h.reg == reg && h.inst == inst)) } }

/-- One record's worth of errors (R458, R459). -/
def State.raiseOne (s : State) (e : ErrIn) (n : Nat) : State :=
  let s := (s.doIf (decide (1 < n)) (fun t => t.bump 0x7C014)).bumpBy (0x7C020 + 4 * e.cls) n
  let eseq := s.reg 0x7C00C
  let r : ErrRec :=
    { eseq := eseq, cls := e.cls, injected := e.injected || s.injectedNow, nested := false, coalesced := decide (1 < n), lostBefore := false,
      engine := e.engine, reg := e.reg, bit := e.bit, inst := e.inst, tFirst := if e.early then 0 else s.nowNs,
      epoch := if e.early then 0xFFFF else s.epoch, count := min n 65535, parent := 0, detail := BitVec.ofNat 32 e.detail }
  match s.handlingOf e.reg e.inst with
  | none =>
    let s := s.formRecord r
    if e.recovers && decide (1 ≤ e.cls) then
      { s with log := { s.log with handling := s.log.handling ++ [⟨e.reg, e.inst, e.bit, eseq, e.cls, 0, 0⟩] } }
    else s
  | some h =>
    if 8 ≤ h.nested then
      if s.logHeld h.eighth then (s.logCount h.eighth n).setHandling { h with cls := max h.cls e.cls }
      else ({ s with log := { s.log with lostNext := true } } : State).setReg 0x7C00C (eseq + 1) |>.traceAdd 0x80 2 eseq |>.logLost
    else if e.bit = h.bit ∧ s.logHeld h.eseq = true then
      (s.logCount h.eseq n).setHandling { h with cls := max h.cls e.cls }
    else
      let s := s.formRecord { r with nested := true, parent := h.eseq }
      let wrote := s.logHeld eseq
      s.setHandling { h with nested := h.nested + wrote.toNat, eighth := if h.nested = 7 ∧ wrote = true then eseq else h.eighth,
                             eseq := if h.cls < e.cls then eseq else h.eseq,
                             bit := if h.cls < e.cls then e.bit else h.bit, cls := max h.cls e.cls }

/-- Records of the errors of one cycle (R457). -/
def State.record (s : State) (es : List ErrIn) : State := (mergeErrs es).foldl (fun t p => t.raiseOne p.1 p.2) s

/-- Errors are raised: as a cycle of their own, or among the others of the cycle in hand (R457). -/
def State.raiseAll (s : State) (es : List ErrIn) : State :=
  match s.log.gather with
  | none => s.record es
  | some g => { s with log := { s.log with gather := some (g ++ es.map (fun e => { e with injected := e.injected || s.injectedNow })) } }

/-- What happens in one core clock cycle: the errors it raises are recorded together (R457), behind the end of any handling that falls in it (R458). -/
def State.oneCycle (s : State) (f : State → State) : State :=
  match s.log.gather with
  | some _ => f s
  | none =>
    let t := f { s with log := { s.log with gather := some [] } }
    ({ t with log := { t.log with gather := none } } : State).record (t.log.gather.getD [])

/-- One error. -/
def State.raise (s : State) (e : ErrIn) : State := s.raiseAll [e]

/-- One error that sets no status bit and has no code in Table 19-3: what its DETAIL holds is free (assumption 24). -/
def State.raiseBare (s : State) (cls : Nat) (engine : Bool) (inst : Nat) : State :=
  ({ s with freeCtr := s.freeCtr + 1 } : State).raise { errAt cls 0xFFFFF 0 inst with detail := (Config.freeWord s.freeCtr).toNat, engine := engine }

/-- Set a sticky bit and, when it rises, raise an error on it. -/
def State.setBitRaise (s : State) (cls a b inst : Nat) : State :=
  if s.bit a b then s else (s.setBit a b).raise (errAt cls a b inst)

/-! ### Injected faults (R468) -/

/-- A pending injection on a target, action and index. -/
def State.injOf (s : State) (target action index : Nat) : Option Injection :=
  s.inj.find? (fun i => i.target == target && i.action == action && i.index == index)

/-- Use up one count of the first injection that matches. -/
def useFirst (target action index : Nat) : List Injection → List Injection
  | [] => []
  | i :: is =>
    if i.target = target ∧ i.action = action ∧ i.index = index then
      if i.left ≤ 1 then is else { i with left := i.left - 1 } :: is
    else i :: useFirst target action index is

/-- One fault is injected: counted, and used up. -/
def State.useInj (s : State) (target action index : Nat) : State :=
  ({ s with inj := useFirst target action index s.inj } : State).bump 0x80004

/-- Run an update whose records carry INJECTED when a fault was injected. -/
def State.underInj (s : State) (b : Bool) (f : State → State) : State :=
  if b then { f { s with injectedNow := true } with injectedNow := s.injectedNow } else f s

/-- An injected digest sum this recent (2 ms) stands behind a digest fault (R468; assumption 114). -/
def State.sumRecent (s : State) : Bool := s.twin.sumInj.any (fun u => decide (s.tm.up ≤ u + 2000000))

/-- What the next write of a memory region meets (Table 19-6): 0 nothing, 1 a correctable error, which is corrected, 2 an uncorrectable error. -/
def State.memError (s : State) (region : Nat) : Nat :=
  if (s.injOf 7 2 region).isSome then 2 else if (s.injOf 7 1 region).isSome then 1 else 0

/-- The write of a memory region uses up its injection. -/
def State.memWrite (s : State) (region : Nat) : State :=
  let k := s.memError region
  if k = 0 then s else s.useInj 7 k region

/-! ### Free values and random draws -/

/-- A word the manual leaves undefined. -/
def State.freeW (s : State) : W32 := Config.freeWord s.freeCtr
/-- The next free word is another one. -/
def State.freeNext (s : State) : State := { s with freeCtr := s.freeCtr + 1 }

/-- CLK_REFCLK_PPB keeps its last value when the clock is followed no more (Table 20-6). -/
def State.refclkKeep (s : State) : State := if s.syntonised then (s.setReg 0x2004 s.freeW).freeNext else s
/-- n random bytes of a draw. -/
def randomBytes (draw n : Nat) : List Byte := (List.range n).map (Config.randomByte draw)

/-! ### Descriptors in flight -/

/-- OPCODE. -/
def Desc.op (d : Desc) : Nat := field (wordAt d.words 0) 7 0
/-- A flag of Table 11-9. -/
def Desc.flag (d : Desc) (n : Nat) : Bool := (wordAt d.words 0).getLsbD (8 + n)
/-- TAG. -/
def Desc.tag (d : Desc) : BitVec 16 := BitVec.ofNat 16 (field (wordAt d.words 0) 31 16)
/-- ADDR. -/
def Desc.addr (d : Desc) : Nat := word2 d.words 1
/-- LEN; the side-band port's inline buffer takes its place (R426). -/
def Desc.len (d : Desc) : Nat := if d.ring = 64 then d.inline.length else (wordAt d.words 3).toNat
/-- Parameter word P n. -/
def Desc.p (d : Desc) (n : Nat) : W32 := wordAt d.words (4 + n)
/-- Parameter words P n and P n+1 as one number. -/
def Desc.p64 (d : Desc) (n : Nat) : Nat := word2 d.words (4 + n)

/-- A descriptor in flight by its fetch number. -/
def State.descOf (s : State) (id : Nat) : Option Desc := s.host.inflight.find? (fun d => d.id == id)

/-- Mark a descriptor as started. -/
def State.take (s : State) (id : Nat) : State :=
  { s with host := { s.host with inflight := s.host.inflight.map (fun d => if d.id == id then { d with taken := true } else d) } }

/-- Opcodes that depend on the management engine (R302). -/
def engineOp (op : Nat) : Bool := decide ((0x10 ≤ op ∧ op ≤ 0x13) ∨ (0x50 ≤ op ∧ op ≤ 0x52) ∨ op = 0x70 ∨ op = 0x71)

/-- The management engine serves descriptors: it runs and step 9 has ended (R450). -/
def State.engineUp (s : State) : Bool := decide (s.boot.engine = .up) && decide (s.boot.stage = 10)

/-- Engine opcodes the recovery loader serves (R447). -/
def loaderOp (op : Nat) : Bool := decide (op = 0x50 ∨ op = 0x51)

/-- Configuration opcodes, which an unresolved unit holds (R342). -/
def cfgOp (op : Nat) : Bool := decide (0x10 ≤ op ∧ op ≤ 0x13)

/-- A descriptor with FENCE waits for every earlier descriptor of its ring (R304). -/
def State.fenceOk (s : State) (d : Desc) : Bool :=
  !(d.flag 0 || decide (d.op = 1)) || s.host.inflight.all (fun x => !(x.ring == d.ring && decide (x.id < d.id)))

/-- A descriptor opcode whose order of use R305 promises: the stream of a STREAM_BUF, the unit of a CAPTURE_ARM. -/
def Desc.orderKey (d : Desc) : Option Nat :=
  if d.op = 0x20 then some (field (d.p 0) 5 0) else if d.op = 0x21 then some (64 + field (d.p 0) 3 0) else none

/-- No buffer of the same stream, or CAPTURE_ARM of the same unit, was fetched earlier and still waits to be used (R305). -/
def State.orderOk (s : State) (d : Desc) : Bool :=
  d.orderKey.isNone || s.host.inflight.all (fun x => x.taken || decide (x.bad ≠ 0) || decide (d.id ≤ x.id) || x.orderKey != d.orderKey)

/-- The management engine is absent (R16): nothing serves engine opcodes, the recovery loader neither. -/
def State.engineAway (s : State) : Bool := !(s.engineUp || (s.boot.recovery && decide (s.boot.stage = 10)))

/-- A descriptor's turn has come: configuration opcodes wait for the role to resolve (R342), FENCE waits for every earlier descriptor of its ring (R304), buffers and captures keep the order of their fetch (R305), an engine opcode waits for the engine and for every earlier engine opcode (R302). -/
def State.turnOf (s : State) (d : Desc) : Bool :=
  !d.taken
  && !(cfgOp d.op && decide (s.twin.role = .unresolved))
  && s.fenceOk d && s.orderOk d
  && (!engineOp d.op || (!s.engineAway
        && s.host.inflight.all (fun x => !(engineOp x.op && decide (x.id < d.id)))))

/-! ### Completions -/

/-- Whether a completion counts towards an interrupt (R300). -/
def Completion.counts (c : Completion) : Bool := c.irq || decide (c.status ≠ 0)

/-- Words of a completion (Table 11-12). -/
def Completion.words (c : Completion) (sq : Nat) (phase : Bool) : List W32 :=
  [at_ 16 c.tag.toNat ||| BitVec.ofNat 32 c.status.toNat,
   at_ 16 c.resS.toNat ||| at_ 10 sq ||| bitAt 0 phase,
   wordAt c.res 0, wordAt c.res 1, wordAt c.res 2, wordAt c.res 3] ++ two c.tRetire

/-- SIZE of a ring from its CTRL register. -/
def ringSize (ctrl : W32) : Nat := 2 ^ field ctrl 7 4

/-- Completions software has not consumed. -/
def State.cqUsed (s : State) (q : Nat) : Nat := ((s.cqOf q).posted + 65536 - (s.cqOf q).head) % 65536

/-- CQ_STATUS[q].FULL. -/
def State.cqFull (s : State) (q : Nat) : Bool := (s.cqOf q).enabled && decide (ringSize (s.reg (Reg.cq q 8)) ≤ s.cqUsed q)

/-- The buffer a completion carries releases the FIFO and spill space of its packets once the completion is posted (R303). -/
def State.releaseBuf (s : State) (id : Nat) : State :=
  let keys := (s.strm.filter (fun c => c.2.bufs.any (fun b => b.id == id))).map (fun c => c.1)
  s.each keys (fun x t => t.updStrm x (fun st => { st with bufs := st.bufs.filter (fun b => b.id != id) }))

/-- Interrupt of a completion ring when its count or its time is reached (R300). -/
def State.cqCount (s : State) (q : Nat) : State :=
  let ctrl := s.reg (Reg.cq q 8)
  let c := s.cqOf q
  let n := c.pending + 1
  if field ctrl 31 22 = 0 ∨ max 1 (field ctrl 21 14) ≤ n then
    (s.setCq q { c with pending := 0 }).msix (field ctrl 13 8)
  else s.setCq q { c with pending := n, firstUp := if c.pending = 0 then s.tm.up else c.firstUp }

/-- Post one completion into the next slot (R298). -/
def State.postOne (s : State) (q : Nat) (c : Completion) : State :=
  let ctrl := s.reg (Reg.cq q 8)
  let size := ringSize ctrl
  let n := (s.cqOf q).posted
  let base := (s.reg64 (Reg.cq q 0)) / 4096 * 4096
  let s := s.hostWrite (base + 32 * (n % size)) (wordBytes (c.words c.ring (decide (n / size % 2 = 0))))
  let s := (s.updCq q (fun x => { x with posted := (n + 1) % 65536 })).releaseBuf c.id
  let s := s.doIf (s.cqFull q) (fun t => t.setBit (Reg.cq q 12) 2)
  if c.counts then s.cqCount q else s

/-- Whether a completion ring can take a completion now (R299); an injection may hold it (Table 19-6). -/
def State.cqOpen (s : State) (q : Nat) : Bool :=
  (s.cqOf q).enabled && s.canDma && (s.injOf 8 2 q).isNone && !s.cqFull q

/-- A completion whose retirement the standby has not acknowledged yet (R353). -/
def State.gated (s : State) (id : Nat) : Bool := s.twin.awaiting.any (fun a => a.id == id)

/-- Post waiting completions in retirement order while their rings take them; a ring whose oldest completion waits posts none behind it (R299, R305, R353). -/
def postGo : List (Nat × Completion) → List Nat → State → State
  | [], _, s => s
  | (q, c) :: rest, stuck, s =>
    if s.cqOpen q && !stuck.contains q && !s.gated c.id then postGo rest stuck (s.postOne q c)
    else postGo rest (q :: stuck) { s with host := { s.host with waiting := s.host.waiting ++ [(q, c)] } }

/-- Post what can be posted. -/
def State.postAll (s : State) : State :=
  postGo s.host.waiting [] { s with host := { s.host with waiting := [] } }

/-- DRAINED of a disabled ring whose fetched descriptors have all retired (R292). -/
def State.drainCheck (s : State) (r : Nat) : State :=
  if r < 64 ∧ (s.sqOf r).enabled = false ∧ s.host.inflight.all (fun d => d.ring != r) = true
      ∧ (s.sqOf r).drained = false then s.updSq r (fun q => { q with drained := true })
  else s

/-- The completion of a descriptor that retires now. -/
def State.completionOf (s : State) (d : Desc) (status resS : Nat) (res : List W32) : Completion :=
  { id := d.id, ring := d.ring, tag := d.tag, status := BitVec.ofNat 16 status, irq := d.flag 1,
    resS := BitVec.ofNat 16 resS, res := res, tRetire := s.nowNs }

/-- A descriptor leaves the set of those that have not retired. -/
def State.dropDesc (s : State) (id : Nat) : State :=
  { s with host := { s.host with inflight := s.host.inflight.filter (fun d => d.id != id) } }

/-- Hand a completion to its ring, or to the side-band port (R298, R426). -/
def State.deliver (s : State) (d : Desc) (c : Completion) : State :=
  if d.ring = 64 then
    ({ s with sb := { s.sb with descBusy := false } } : State).setRegs 0x74040 (c.words 0 false)
  else
    ({ s with host := { s.host with waiting := s.host.waiting ++ [(d.cq, c)] } } : State).postAll

/-- One descriptor leaves the set in flight, and its completion waits for its ring in retirement order (R298, R299, R305). -/
def State.retire1 (s : State) (d : Desc) (status resS : Nat) (res : List W32) : State :=
  ((s.dropDesc d.id).drainCheck d.ring).deliver d (s.completionOf d status resS res)

/-- Descriptors the first check refused retire as soon as their fences let them (R294, R304). -/
def State.sweepBad (s : State) : State :=
  s.each (s.host.inflight.filter (fun d => decide (d.bad ≠ 0))) (fun d t => if t.fenceOk d then t.retire1 d d.bad 0 [] else t)

/-- Retire a descriptor. -/
def State.retire (s : State) (d : Desc) (status resS : Nat) (res : List W32) : State :=
  (s.retire1 d status resS res).sweepBad

/-- Retire with OK. -/
def State.retireOk (s : State) (d : Desc) (res : List W32) : State := s.retire d 0 0 res

/-- Retire with an error status and no result. -/
def State.retireBad (s : State) (d : Desc) (status : Nat) : State := s.retire d status 0 []

/-- A read for a descriptor failed (R294): it retires with DMA_ERROR, and AER reports the error. -/
def State.dmaFailed (s : State) (d : Desc) : State := s.aerReport.retireBad d 0x0003

/-- Opcodes whose operation reads or writes host memory as it runs: CFG_WRITE, STATS_READ, FW_STAGE, SIGN_REQ, ATTEST, VAULT_CMD and TWIN_CMD. -/
def Desc.usesHost (d : Desc) : Bool := decide (d.ring < 64) && [0x11, 0x23, 0x50, 0x60, 0x61, 0x70, 0x71].contains d.op

/-- Run an opcode when its descriptor is in flight, names it and its turn has come; otherwise it stays as it is (assumption 4). One that needs host memory waits while the port carries no request (R307). -/
def State.serve (s : State) (id op : Nat) (f : Desc → State → State) : Out :=
  match s.descOf id with
  | none => .next s
  | some d => if d.op = op ∧ d.bad = 0 ∧ s.turnOf d = true ∧ (d.usesHost = true → s.busUp = true) then .next (f d s) else .next s

/-- Output of a descriptor: to its buffer in host memory, or up to 192 B into SB_RESP (R426). -/
def State.descWrite (s : State) (d : Desc) (bs : List Byte) : State :=
  if d.ring = 64 then s.setRegs 0x74080 (wordsOf (bs.take 192)) else s.hostWrite d.addr bs

/-- Room for a response: LEN, or the 192 B of SB_RESP (R426). -/
def State.descRoom (_ : State) (d : Desc) : Nat := if d.ring = 64 then 192 else d.len

/-- The first n bytes of a descriptor's buffer. -/
def State.descRead (s : State) (d : Desc) (n : Nat) : List Byte :=
  if d.ring = 64 then d.inline.take n else s.hostRead d.addr n

/-- The read of a descriptor's buffer succeeds (R294). -/
def State.descReadOk (s : State) (d : Desc) (n : Nat) : Bool := decide (d.ring = 64) || s.readOk d.addr n

end Sys2Proof.Machine
end

