-- ==== Sys2Proof/Machine/Operands.lean ====
section
/-! DEFINITION. What operands and configuration values stand for: grids (R37), channels and slots (R91, R111), decimation (R119), streams (R139, R150), and the layouts of packets, gap records and marks (R141 to R145, R155), and the delta pre-transform (R200). -/

namespace Sys2Proof.Machine

open Sys2Proof

/-- A configuration as it is looked up: field code, index, subindex. -/
abbrev Look := Nat → Nat → Nat → Nat

/-! ### Groups, cores, channels -/

/-- START_TIME of a group with its fraction (R37). -/
def Look.start (c : Look) (g : Nat) : Tq :=
  let v := c Fld.strbStartTime g 0
  v % 18446744073709551616 * 65536 + v / 18446744073709551616 % 65536

/-- PERIOD of a group with its fraction (R37, R42). -/
def Look.period (c : Look) (g : Nat) : Tq :=
  let v := c Fld.strbPeriod g 0
  v % 4294967296 * 65536 + v / 4294967296 % 65536

/-- T(k), unrounded (R37). -/
def Look.gridT (c : Look) (g k : Nat) : Tq := c.start g + k * c.period g

/-- The placed edge: rounded to the nearest 1/64 ns, a tie upward (R37). -/
def placeEdge (t : Tq) : Tq := roundHalfUp t 1024 * 1024

/-- The edge of frame k. -/
def Look.edgeT (c : Look) (g k : Nat) : Tq := placeEdge (c.gridT g k)

/-- The group runs on the schedule. -/
def Look.scheduled (c : Look) (g : Nat) : Bool := c Fld.strbSource g 0 == 0

/-- Outputs of a group that can pulse. -/
def Look.pulsing (c : Look) (g : Nat) : List Nat :=
  if c Fld.strbEnable g 0 = 1 then (List.range 32).filter (fun m => c Fld.excEnable m 0 == 1 && c Fld.excGroup m 0 == g) else []

/-- The longest LEAD of a group's pulses, in ns. -/
def Look.longestLead (c : Look) (g : Nat) : Nat := (c.pulsing g).foldl (fun n m => max n (c Fld.excLead m 0)) 0

/-- The first grid index whose instant is at or after a time. -/
def Look.firstK (c : Look) (g : Nat) (t : Tq) : Nat :=
  if t ≤ c.start g then 0 else (t - c.start g + c.period g - 1) / max 1 (c.period g)

/-- The first grid index whose placed edge is later than a time (owned: at or after it). -/
def Look.firstEdge (c : Look) (g : Nat) (t : Tq) (owned : Bool) : Nat :=
  let k := c.firstK g (t - 1024)
  let ok := fun k => if owned then decide (t ≤ c.edgeT g k) else decide (t < c.edgeT g k)
  if ok k then k else if ok (k + 1) then k + 1 else k + 2

/-- Group of a core. -/
def Look.coreGroup (c : Look) (n : Nat) : Nat := c Fld.cnvGroup n 0

/-- A pair is in DIFF mode. -/
def Look.diff (c : Look) (j : Nat) : Bool := c Fld.ainPairMode j 0 == 0

/-- Core of an input. -/
def coreOf (i : Nat) : Nat := i / 8

/-- Group of a channel. -/
def Look.chanGroup (c : Look) (i : Nat) : Nat := c.coreGroup (coreOf i)

/-- A slot of a core is enabled. -/
def Look.slotOn (c : Look) (n s : Nat) : Bool := (c Fld.cnvScanMask n 0).testBit s

/-- The slots a core converts in a frame, in ascending number (R32, R51). -/
def Look.slots (c : Look) (n : Nat) (diag : Bool) : List Nat :=
  (List.range (if diag then 12 else 8)).filter (c.slotOn n)

/-- The cores of a group. -/
def Look.coresIn (c : Look) (g : Nat) : List Nat := (List.range 64).filter (fun n => c.coreGroup n == g)

/-- N_max of a frame (R33). -/
def Look.nMax (c : Look) (g : Nat) (diag : Bool) : Nat :=
  (c.coresIn g).foldl (fun m n => max m (c.slots n diag).length) 0

/-- A channel is converted: its slot is enabled and it is not the odd input of a DIFF pair (R92, R111). -/
def Look.converted (c : Look) (i : Nat) : Bool :=
  c.slotOn (coreOf i) (i % 8) && !(i % 2 == 1 && c.diff (i / 2))

/-- The converted channels of a core. -/
def Look.coreChannels (c : Look) (n : Nat) : List Nat :=
  ((List.range 8).map (fun s => 8 * n + s)).filter c.converted

/-- The converted channels of a group. -/
def Look.groupChannels (c : Look) (g : Nat) : List Nat := (c.coresIn g).flatMap c.coreChannels

/-- A diagnostic frame (R51). -/
def Look.diagFrame (c : Look) (g k : Nat) : Bool := k % 2 ^ c Fld.strbDiagCadence g 0 == 0

/-- The excitation output a channel is bound to (R70, R72). -/
def Look.bind (c : Look) (i : Nat) : Option Nat :=
  let v := c Fld.ainBind i 0
  if v < 32 then some v else none

/-- A channel is bound with BIND_MODE RATIO. -/
def Look.ratio (c : Look) (i : Nat) : Bool := (c.bind i).isSome && c Fld.ainBindMode i 0 == 1

/-- A channel is bound with BIND_MODE ABSOLUTE. -/
def Look.absolute (c : Look) (i : Nat) : Bool := (c.bind i).isSome && c Fld.ainBindMode i 0 == 0

/-- The gain of a pair. -/
def Look.gain (c : Look) (j : Nat) : Nat := 2 ^ c Fld.ainPairGain j 0

/-- The channel whose result a core's slot 11 checks (R95). -/
def Look.owning (c : Look) (n : Nat) : Nat :=
  let p := if n % 2 = 0 then n + 1 else n - 1
  if c.diff (4 * p + 3) then 8 * p + 6 else 8 * p + 7

/-! ### Filters -/

/-- Stages of a chain. -/
def Look.stages (c : Look) (i : Nat) : Nat := c Fld.fltStages i 0

/-- Chain in SCS mode (R122). -/
def Look.scs (c : Look) (i : Nat) : Bool := c Fld.fltMode i 0 == 1

/-- Decimation of a stage (R119, R122). -/
def Look.dec (c : Look) (i st : Nat) : Nat := if c.scs i then c Fld.fltLen i st else c Fld.fltDec i st

/-- Cumulative decimation of a tap (R119): C_0 = 1. -/
def Look.cumDec (c : Look) (i : Nat) : Nat → Nat
  | 0 => 1
  | s + 1 => c.cumDec i s * c.dec i (s + 1)

/-- An input carries a channel: it is not the odd input of a DIFF pair (R58, R111). -/
def Look.isChannel (c : Look) (i : Nat) : Bool := !(i % 2 == 1 && c.diff (i / 2))

/-- A stage tracks mains (R128). -/
def Look.tracks (c : Look) (i st : Nat) : Bool := c Fld.mainsEnable 0 0 == 1 && c Fld.fltMains i st == 1

/-! ### Streams -/

/-- Channels of a stream, in ascending order. -/
def Look.strmChannels (c : Look) (x : Nat) : List Nat := bitsOf 512 (c Fld.streamChannels x 0)

/-- Group of a stream: that of its channels (R140). -/
def Look.strmGroup (c : Look) (x : Nat) : Nat :=
  match (c.strmChannels x).head? with
  | some i => c.chanGroup i
  | none => 0

/-- Cumulative decimation of a stream's tap (R140: equal for all its channels). -/
def Look.strmDec (c : Look) (x : Nat) : Nat :=
  match (c.strmChannels x).head? with
  | some i => c.cumDec i (c Fld.streamTap x 0)
  | none => 1

/-- A stream is enabled. -/
def Look.strmOn (c : Look) (x : Nat) : Bool := c Fld.streamEnable x 0 == 1

/-- Payload bytes of F frames of C channels (R144). -/
def payloadBytes (frames channels : Nat) (marks times : Bool) : Nat :=
  let n := frames * channels
  4 * n + (if marks then 4 * ((n + 7) / 8) else 0) + (if times then 8 * frames else 0)

/-- Largest possible payload of a stream (R150, R202). -/
def Look.largestPayload (c : Look) (x : Nat) : Nat :=
  payloadBytes (c Fld.streamFramesPerPacket x 0) (c.strmChannels x).length (c Fld.streamMarks x 0 == 1) (!c.scheduled (c.strmGroup x))

/-- Largest possible packet of a stream (R150). -/
def Look.largestPacket (c : Look) (x : Nat) : Nat :=
  32 + c.largestPayload x + 4 + (if c Fld.streamSign x 0 = 1 then 104 else 0)

/-! ### Packet layout -/

/-- Word with a nibble of marks per sample from position i on (R144). -/
def markWord (ms : List Marks) : W32 := BitVec.ofNat 32 (ms.reverse.foldl (fun a m => a * 16 + m.toNat) 0)

/-- Mark words of a list of marks. -/
def markWords (fuel : Nat) (ms : List Marks) : List W32 :=
  match fuel, ms with
  | 0, _ => []
  | _, [] => []
  | f + 1, m :: rest => markWord ((m :: rest).take 8) :: markWords f ((m :: rest).drop 8)

/-- Samples of a packet in order, with their marks. -/
def Packet.samples (p : Packet) : List (Int × Marks) := p.frames.flatMap (fun f => f.samples)

/-- The sample block (R144). -/
def Packet.sampleWords (p : Packet) : List W32 := p.samples.map (fun x => BitVec.ofInt 32 x.1)

/-- Mark block and time block (R144). -/
def Packet.tailWords (p : Packet) : List W32 :=
  (if p.marksOn then markWords (p.samples.length + 1) (p.samples.map (fun x => x.2)) else []) ++
  (if p.timesOn then p.frames.flatMap (fun f => two f.t) else [])

/-- Payload of a gap record (Table 6-4). -/
def GapInfo.words (g : GapInfo) : List W32 :=
  two g.tStart ++ two g.tEnd ++ two g.lost ++ two g.first ++ [BitVec.ofNat 32 (g.detail.toNat * 256 + g.cause.toNat), 0]

/-- The uncompressed payload. -/
def Packet.payload (p : Packet) : List W32 :=
  match p.gap with
  | some g => g.words
  | none => p.sampleWords ++ p.tailWords

/-- FORMAT (Table 6-1). -/
def Packet.format (p : Packet) : Nat :=
  if p.gap.isSome then 0xF0 else 0x10 + (if p.marksOn then 1 else 0) + (if p.timesOn then 2 else 0)

/-- OR of the marks of every sample (R143). -/
def Packet.marksOr (p : Packet) : Marks := p.samples.foldl (fun a x => a ||| x.2) 0

/-- FLAGS with COMPRESSED taken as 0 (Table 6-3, R145). -/
def Packet.flags (p : Packet) : Nat :=
  (if p.gap.isSome then 1 else 0) + (if p.sign then 4 else 0) + 8 * p.marksOr.toNat

/-- T_FIRST: time of the first frame, or T_START of a gap record (R142, R155). -/
def Packet.tFirst (p : Packet) : Nat :=
  match p.gap with
  | some g => g.tStart
  | none => (p.frames.head?.map (fun f => f.t)).getD 0

/-- Header words 1 to 7 with FLAGS.COMPRESSED and PRE_DELTA taken as 0 (Table 6-2, R145). -/
def Packet.headMasked (p : Packet) : List W32 :=
  [BitVec.ofNat 32 (0x5A480000 + p.stream * 256 + p.format), p.seq] ++ two p.tFirst ++
  [BitVec.ofNat 32 (p.frames.length * 65536 + p.channels), BitVec.ofNat 32 p.flags, BitVec.ofNat 32 (p.epoch.toNat * 65536)]

/-- The CRC word (R145). -/
def Packet.crc (p : Packet) : W32 := crcWords (p.headMasked ++ p.payload)

/-- The payload as sent. -/
def Packet.sent (p : Packet) : List Byte :=
  match p.packed with
  | some bs => bs
  | none => wordBytes p.payload

/-- LENGTH: the whole packet as sent (Table 6-2). -/
def Packet.size (p : Packet) : Nat := 32 + p.sent.length + 4 + (if p.sign then 104 else 0)

/-- Header words 0 to 7 as sent: compression sets FLAGS bit 1 and, with DELTA, word 7 bit 8 (R142, R201). -/
def Packet.head (p : Packet) : List W32 :=
  let c := p.packed.isSome
  let m := p.headMasked
  BitVec.ofNat 32 p.size :: (m.take 5 ++ [wordAt m 5 ||| bitAt 1 c, wordAt m 6 ||| bitAt 8 (c && p.delta)])

/-- The packet as the host receives it (R142). -/
def Packet.bytes (p : Packet) (free : Nat → Byte) : List Byte :=
  wordBytes p.head ++ (if p.damaged then (List.range p.sent.length).map free else p.sent) ++ wordBytes [p.crc] ++
  (if p.sign then p.signature.getD [] else [])

/-! ### The delta pre-transform (R200) -/

/-- Zigzag of a 32-bit difference. -/
def zigzag (d : W32) : W32 := (d <<< 1) ^^^ (d.sshiftRight 31)

/-- The inverse of zigzag. -/
def unzigzag (z : W32) : W32 := (z >>> 1) ^^^ (0 - (z &&& 1))

/-- Differences of a frame-major block with C channels. -/
def deltaGo (c : Nat) (prev : List W32) : List W32 → List W32
  | [] => []
  | w :: ws =>
    let d := if prev.length < c then w else w - prev.getD (c - 1) 0
    zigzag d :: deltaGo c ((w :: prev).take c) ws

/-- Byte plane b of the words. -/
def bytePlane (b : Nat) (zs : List W32) : List Byte := zs.map (fun z => BitVec.ofNat 8 (z.toNat / 256 ^ b))

/-- The DELTA transform of a block of words with C channels. -/
def deltaBlock (c : Nat) (ws : List W32) : List Byte :=
  let zs := deltaGo c [] ws
  bytePlane 0 zs ++ bytePlane 1 zs ++ bytePlane 2 zs ++ bytePlane 3 zs

/-- Sums of the differences per channel. -/
def undeltaGo (c : Nat) (prev : List W32) : List W32 → List W32
  | [] => []
  | z :: zs =>
    let d := unzigzag z
    let w := if prev.length < c then d else d + prev.getD (c - 1) 0
    w :: undeltaGo c ((w :: prev).take c) zs

/-- The inverse of the DELTA transform over a byte block of 4 M4 bytes. -/
def undeltaBlock (c : Nat) (bs : List Byte) : List W32 :=
  let m := bs.length / 4
  undeltaGo c [] ((List.range m).map (fun i =>
    BitVec.ofNat 32 ((bs.getD i 0).toNat + 256 * (bs.getD (m + i) 0).toNat + 65536 * (bs.getD (2 * m + i) 0).toNat
      + 16777216 * (bs.getD (3 * m + i) 0).toNat)))

/-- What the compressed payload of a packet decodes to (R201). -/
def Packet.transformed (p : Packet) : List Byte :=
  (if p.delta then deltaBlock p.channels p.sampleWords else wordBytes p.sampleWords) ++ wordBytes p.tailWords

/-! ### CFG_HASH -/

/-- A field instance as a record (Table 12-1). -/
def recordWords (r : FieldRow) (index sub v : Nat) : List W32 :=
  [BitVec.ofNat 32 (r.code * 65536 + r.words), BitVec.ofNat 32 (sub * 65536 + index)] ++ toWords r.words v

/-- Every field of a configuration as records in canonical order, CFG.PROFILE and CFG.PERSIST left out (R330). -/
def Look.records (c : Look) : List W32 :=
  (catalogue.filter (fun r => !(r.code == Fld.cfgProfile || r.code == Fld.cfgPersist))).flatMap
    (fun r => (rowInstances r).flatMap (fun p => recordWords r p.1 p.2 (c r.code p.1 p.2)))

/-- CFG.PROFILE as a record (R328). -/
def profileRecord (p : Nat) : List W32 := [0x30C10001, 0, BitVec.ofNat 32 p]

/-- CFG_HASH (R330). -/
def Look.hash (c : Look) : List Byte := (Config.sha384 (wordBytes c.records)).take 32

end Sys2Proof.Machine
end

