-- ==== Sys2Proof/Machine/Inflate.lean ====
section
/-! DEFINITION. The decompressor: raw DEFLATE (RFC 1951) with the errors and bit offsets of Table 8-3 (R210). -/

namespace Sys2Proof.Machine

open Sys2Proof

/-- A source as bits, least significant bit of the first byte first. -/
structure BitSrc where
  bits : Nat
  len  : Nat
deriving DecidableEq, Repr

/-- The bits of a byte list. -/
def BitSrc.of (bs : List Byte) : BitSrc := ⟨ofLeBytes bs, 8 * bs.length⟩

/-- n bits from a position, first bit least significant. -/
def BitSrc.get (b : BitSrc) (pos n : Nat) : Nat := b.bits / 2 ^ pos % 2 ^ n

/-- An error of Table 8-3: status, bit offset. -/
structure InfErr where
  code : Nat
  at_  : Nat
deriving DecidableEq, Repr

/-- A Huffman code: how many codes of each length 1 to 15, and the symbols in code order. -/
structure Huff where
  counts : List Nat
  syms   : List Nat
deriving DecidableEq, Repr

/-- The code of a list of code lengths. -/
def Huff.of (lens : List Nat) : Huff :=
  let at_ := fun l => (List.range lens.length).filter (fun i => lens.getD i 0 == l + 1)
  ⟨(List.range 15).map (fun l => (at_ l).length), (List.range 15).flatMap at_⟩

/-- Code space left after a list of counts: none when over-subscribed. -/
def codeSpace (left : Nat) : List Nat → Option Nat
  | [] => some left
  | c :: cs => if 2 * left < c then none else codeSpace (2 * left - c) cs

/-- A complete set of codes. -/
def Huff.complete (h : Huff) : Bool := codeSpace 1 h.counts == some 0

/-- A usable set of distance codes: complete, a single code of one bit, or no code at all (RFC 1951). -/
def Huff.distOk (h : Huff) : Bool := h.complete || decide (h.syms.length ≤ 1 ∧ h.counts.drop 1 = List.replicate 14 0)

/-- Outcome of reading one symbol. -/
inductive SymRes where
  | sym (n pos : Nat)
  | bad
  | short
deriving DecidableEq, Repr

/-- Read a code bit by bit, lengths rising. -/
def huffGo (b : BitSrc) (syms : List Nat) (pos code first index : Nat) : List Nat → SymRes
  | [] => .bad
  | c :: cs =>
    if b.len ≤ pos then .short
    else
      let code := 2 * code + b.get pos 1
      if code < first + c then .sym (syms.getD (index + (code - first)) 0) (pos + 1)
      else if cs.all (fun n => n == 0) then .bad
      else huffGo b syms (pos + 1) code (2 * (first + c)) (index + c) cs

/-- Read one symbol. -/
def Huff.read (h : Huff) (b : BitSrc) (pos : Nat) : SymRes := huffGo b h.syms pos 0 0 0 h.counts

/-- Base and extra bits of length symbol 257 + n. -/
def lenBase (n : Nat) : Nat × Nat :=
  if n = 28 then (258, 0) else if n < 8 then (3 + n, 0) else (3 + (4 + n % 4) * 2 ^ (n / 4 - 1), n / 4 - 1)

/-- Base and extra bits of a distance symbol. -/
def distBase (n : Nat) : Nat × Nat :=
  if n < 4 then (1 + n, 0) else (1 + (2 + n % 2) * 2 ^ (n / 2 - 1), n / 2 - 1)

/-- Copy a match into a window kept newest first. -/
def copyMatch (d : Nat) : Nat → List Byte → List Byte
  | 0, w => w
  | n + 1, w => copyMatch d n (w.getD (d - 1) 0 :: w)

/-- Decoding state: position, window newest first (earlier jobs' output behind), bytes of this job. -/
structure InfSt where
  pos : Nat
  win : List Byte
  n   : Nat
deriving DecidableEq, Repr

/-- Outcome of a part of the stream. -/
inductive InfRes where
  | ok (st : InfSt)
  | err (e : InfErr) (st : InfSt)
deriving DecidableEq, Repr

/-- The source ends too early. -/
def truncated (b : BitSrc) (st : InfSt) : InfRes := .err ⟨0x0424, b.len⟩ st

/-- Bytes of a stored block. -/
def storedBytes (b : BitSrc) (lim : Nat) : Nat → InfSt → InfRes
  | 0, st => .ok st
  | k + 1, st =>
    if b.len < st.pos + 8 then truncated b st
    else if lim ≤ st.n then .err ⟨0x0422, st.pos⟩ st
    else storedBytes b lim k ⟨st.pos + 8, BitVec.ofNat 8 (b.get st.pos 8) :: st.win, st.n + 1⟩

/-- Symbols of a compressed block up to its end-of-block code. -/
def blockSyms (b : BitSrc) (lim : Nat) (lit dist : Huff) : Nat → InfSt → InfRes
  | 0, st => truncated b st
  | f + 1, st =>
    match lit.read b st.pos with
    | .short => truncated b st
    | .bad => .err ⟨0x0420, st.pos⟩ st
    | .sym v p =>
      if v < 256 then
        if lim ≤ st.n then .err ⟨0x0422, st.pos⟩ st
        else blockSyms b lim lit dist f ⟨p, BitVec.ofNat 8 v :: st.win, st.n + 1⟩
      else if v = 256 then .ok { st with pos := p }
      else if 286 ≤ v then .err ⟨0x0420, st.pos⟩ st
      else
        let e := (lenBase (v - 257)).2
        if b.len < p + e then truncated b st
        else
          let l := (lenBase (v - 257)).1 + b.get p e
          if lim < st.n + l then .err ⟨0x0422, st.pos⟩ st
          else
            match dist.read b (p + e) with
            | .short => truncated b st
            | .bad => .err ⟨0x0420, p + e⟩ st
            | .sym w q =>
              if 30 ≤ w then .err ⟨0x0420, p + e⟩ st
              else
                let x := (distBase w).2
                if b.len < q + x then truncated b st
                else
                  let d := (distBase w).1 + b.get q x
                  if st.win.length < d then .err ⟨0x0421, p + e⟩ st
                  else blockSyms b lim lit dist f ⟨q + x, copyMatch d l st.win, st.n + l⟩

/-- Order of the code-length code lengths (RFC 1951). -/
def clOrder : List Nat := [16, 17, 18, 0, 8, 7, 9, 6, 10, 5, 11, 4, 12, 3, 13, 2, 14, 1, 15]

/-- The literal/length set of a dynamic block is judged as soon as its last length is read (R210): complete, with a code for the end of the block. -/
def litBad (lens : List Nat) : Bool := !(Huff.of lens).complete || lens.getD 256 0 == 0

/-- Read total code lengths, the first nl of them the literal/length set; answers the lengths, the position behind them and the position of the code that first reaches index nl. -/
def readLens (b : BitSrc) (cl : Huff) (nl total start : Nat) : Nat → Nat → List Nat → Nat → Except InfErr (List Nat × Nat × Nat)
  | 0, _, _, _ => .error ⟨0x0424, b.len⟩
  | f + 1, pos, acc, dpos =>
    if acc.length = total then .ok (acc, pos, dpos)
    else
      match cl.read b pos with
      | .short => .error ⟨0x0424, b.len⟩
      | .bad => .error ⟨0x0420, pos⟩
      | .sym v p =>
        let eb := if v = 16 then 2 else if v = 17 then 3 else if v = 18 then 7 else 0
        if v = 16 ∧ acc = [] then .error ⟨0x0420, pos⟩
        else if b.len < p + eb then .error ⟨0x0424, b.len⟩
        else
          let n := if v < 16 then 1 else if v = 18 then 11 + b.get p 7 else 3 + b.get p eb
          let x := if v < 16 then v else if v = 16 then acc.getLast?.getD 0 else 0
          let all := acc ++ List.replicate n x
          if total < acc.length + n then .error ⟨0x0420, pos⟩
          else if acc.length < nl ∧ nl ≤ all.length ∧ litBad (all.take nl) = true then .error ⟨0x0420, start⟩
          else readLens b cl nl total start f (p + eb) all (if acc.length ≤ nl ∧ nl < acc.length + n then pos else dpos)

/-- The codes of a dynamic block and the position behind its header: each field is judged as soon as it is read (R210). -/
def dynHeader (b : BitSrc) (pos : Nat) : Except InfErr (Huff × Huff × Nat) :=
  let hlit := 257 + b.get pos 5
  let hdist := 1 + b.get (pos + 5) 5
  let hclen := 4 + b.get (pos + 10) 4
  if b.len < pos + 5 then .error ⟨0x0424, b.len⟩
  else if 286 < hlit then .error ⟨0x0420, pos⟩
  else if b.len < pos + 10 then .error ⟨0x0424, b.len⟩
  else if 30 < hdist then .error ⟨0x0420, pos + 5⟩
  else if b.len < pos + 14 + 3 * hclen then .error ⟨0x0424, b.len⟩
  else
    let ls := (List.range 19).map (fun s =>
      match clOrder.idxOf? s with
      | some i => if i < hclen then b.get (pos + 14 + 3 * i) 3 else 0
      | none => 0)
    let cl := Huff.of ls
    if !cl.complete then .error ⟨0x0420, pos + 14⟩
    else
      let start := pos + 14 + 3 * hclen
      match readLens b cl hlit (hlit + hdist) start (hlit + hdist + 1) start [] start with
      | .error e => .error e
      | .ok (lens, p, dpos) =>
        let dist := Huff.of (lens.drop hlit)
        if !dist.distOk then .error ⟨0x0420, dpos⟩ else .ok (Huff.of (lens.take hlit), dist, p)

/-- The fixed codes. -/
def fixedLit : Huff := Huff.of (List.replicate 144 8 ++ List.replicate 112 9 ++ List.replicate 24 7 ++ List.replicate 8 8)
/-- The fixed distance code. -/
def fixedDist : Huff := Huff.of (List.replicate 32 5)

/-- The body of a block of a type at a position behind BTYPE. -/
def inflateBody (b : BitSrc) (lim ty : Nat) (st : InfSt) (start : Nat) : InfRes :=
  if ty = 3 then .err ⟨0x0420, start + 1⟩ st
  else if ty = 0 then
    let p := (start + 3 + 7) / 8 * 8
    if b.len < p + 32 then truncated b st
    else if b.get p 16 + b.get (p + 16) 16 ≠ 65535 ∨ b.get p 16 &&& b.get (p + 16) 16 ≠ 0 then .err ⟨0x0423, p⟩ st
    else storedBytes b lim (b.get p 16) { st with pos := p + 32 }
  else if ty = 1 then blockSyms b lim fixedLit fixedDist (b.len + 1) { st with pos := start + 3 }
  else
    match dynHeader b (start + 3) with
    | .error e => .err e st
    | .ok (lit, dist, p) => blockSyms b lim lit dist (b.len + 1) { st with pos := p }

/-- Blocks up to the final one, or, for a chained job, up to an empty stored block at the end of the source. -/
def inflateGo (b : BitSrc) (lim : Nat) (chain : Bool) : Nat → InfSt → InfRes × Bool
  | 0, st => (truncated b st, false)
  | f + 1, st =>
    if b.len < st.pos + 3 then (truncated b st, false)
    else
      let final := b.get st.pos 1 = 1
      match inflateBody b lim (b.get (st.pos + 1) 2) st st.pos with
      | .err e t => (.err e t, false)
      | .ok t =>
        if final then
          if 7 < b.len - t.pos ∨ b.get t.pos (b.len - t.pos) ≠ 0 then (.err ⟨0x0425, t.pos⟩ t, false) else (.ok t, true)
        else if chain ∧ t.pos = b.len ∧ b.get (st.pos + 1) 2 = 0 ∧ t.n = st.n then (.ok t, false)
        else inflateGo b lim chain f t

/-- Decode a source with a history (newest first) and a limit on the output; the flag says that the stream has ended. -/
def inflate (src : List Byte) (lim : Nat) (chain : Bool) (hist : List Byte) : InfRes × Bool :=
  let b := BitSrc.of src
  inflateGo b lim chain (b.len + 1) ⟨0, hist, 0⟩

/-- The output of this job, oldest first. -/
def InfSt.output (st : InfSt) : List Byte := (st.win.take st.n).reverse

end Sys2Proof.Machine
end

