-- ==== Sys2Proof/Machine/Deflate.lean ====
section
/-! DEFINITION. The compressor's output (R197 to R199, R206, R208): raw DEFLATE (RFC 1951) in blocks of 16,384 symbols or 65,535 bytes, each in the shortest of its forms. Which candidates a search meets, and the Huffman construction of the dynamic form, are the engine's own (Config). -/

namespace Sys2Proof.Machine

open Sys2Proof

/-- A symbol (R198): a literal with distance 0, or a length and a distance. -/
abbrev DefSym := Nat × Nat

/-- Candidates compared per search (Table 8-1). -/
def levelCandidates (level : Nat) : Nat := [0, 1, 2, 4, 8, 16, 32, 128, 512, 4096].getD level 0

/-- Levels 4 to 9 choose their matches lazily, over one position (Table 8-1). -/
def levelLazy (level : Nat) : Bool := decide (4 ≤ level)

/-- Length of the match at a distance: the bytes that the decoder would copy right, at most as many as the first number. -/
def matchRun (d : Nat) : Nat → List Byte → List Byte → Nat
  | 0, _, _ => 0
  | _, _, [] => 0
  | f + 1, win, b :: bs => if win[d - 1]? = some b then 1 + matchRun d f (b :: win) bs else 0

/-- A match the engine may use (R197): 3 to 258 bytes at a distance inside the 32,768 B history. -/
def matchAtDistance (win rest : List Byte) (d : Nat) : Option (Nat × Nat) :=
  let n := matchRun d 258 win rest
  if 1 ≤ d ∧ d ≤ 32768 ∧ 3 ≤ n then some (n, d) else none

/-- The longest match among the candidates of a search, the first compared of equal ones (R197, Table 8-1). -/
def bestMatch (level : Nat) (win rest : List Byte) : Option (Nat × Nat) :=
  let found := ((Config.candidates level win (rest.take 258)).take (levelCandidates level)).filterMap (matchAtDistance win rest)
  found.foldl (fun best m => match best with
    | some b => if b.1 < m.1 then some m else some b
    | none => some m) none

/-- The match a level takes at a position (Table 8-1): the greedy levels take the best one, the lazy ones only where the search at the next position finds none longer. -/
def takeMatch (level : Nat) (win : List Byte) : List Byte → Option (Nat × Nat)
  | [] => none
  | b :: bs =>
    match bestMatch level win (b :: bs) with
    | none => none
    | some m => if levelLazy level && (bestMatch level (b :: win) bs).any (fun n => decide (m.1 < n.1)) then none else some m

/-- The symbols of an input behind a history, newest byte first. -/
def defSyms (level : Nat) : Nat → List Byte → List Byte → List DefSym
  | 0, _, _ => []
  | _, _, [] => []
  | f + 1, win, b :: bs =>
    match takeMatch level win (b :: bs) with
    | some m => m :: defSyms level f (((b :: bs).take m.1).reverse ++ win) ((b :: bs).drop m.1)
    | none => (b.toNat, 0) :: defSyms level f (b :: win) bs

/-- Input bytes a symbol covers. -/
def symBytes (y : DefSym) : Nat := if y.2 = 0 then 1 else y.1

/-- Cut symbols into blocks (R198): a block ends with its 16,384th symbol or once it covers 65,535 bytes; acc is the block in hand, newest symbol first. -/
def defBlocks : List DefSym → List DefSym → Nat → List (List DefSym)
  | [], acc, _ => if acc.isEmpty then [] else [acc.reverse]
  | y :: ys, acc, n =>
    if acc.length = 16383 ∨ 65535 ≤ n + symBytes y then (y :: acc).reverse :: defBlocks ys [] 0
    else defBlocks ys (y :: acc) (n + symBytes y)

/-- n bits of a number, least significant first. -/
def bitsLsb (n v : Nat) : List Bool := (List.range n).map (fun i => v.testBit i)

/-- The first code of a length (RFC 1951): code lengths' counts from 1 on. -/
def firstCode (code : Nat) : List Nat → Nat → Nat
  | _, 0 => code
  | [], _ => code
  | c :: cs, l + 1 => firstCode (2 * (code + c)) cs l

/-- The code of a symbol in a set of code lengths, most significant bit first (RFC 1951). -/
def codeBits (lens : List Nat) (sym : Nat) : List Bool :=
  let l := lens.getD sym 0
  let idx := ((lens.take sym).filter (fun x => x == l)).length
  let v := firstCode 0 (Huff.of lens).counts (l - 1) + idx
  (List.range l).map (fun i => v.testBit (l - 1 - i))

/-- The length symbol above 257 and the distance symbol of a value: the last whose base is not above it. -/
def baseIndex (base : Nat → Nat × Nat) (count v : Nat) : Nat := ((List.range count).reverse.find? (fun n => decide ((base n).1 ≤ v))).getD 0

/-- The literal/length symbol of a symbol. -/
def litSym (y : DefSym) : Nat := if y.2 = 0 then y.1 else 257 + baseIndex lenBase 29 y.1

/-- Bits of a symbol under two sets of code lengths. -/
def symBits (lit dist : List Nat) (y : DefSym) : List Bool :=
  if y.2 = 0 then codeBits lit y.1
  else
    let n := baseIndex lenBase 29 y.1
    let d := baseIndex distBase 30 y.2
    codeBits lit (257 + n) ++ bitsLsb (lenBase n).2 (y.1 - (lenBase n).1) ++ codeBits dist d ++ bitsLsb (distBase d).2 (y.2 - (distBase d).1)

/-- Symbols and the end-of-block code. -/
def blockBits (lit dist : List Nat) (ys : List DefSym) : List Bool := ys.flatMap (symBits lit dist) ++ codeBits lit 256

/-- Bits as a source of the decompressor. -/
def BitSrc.ofBits (bs : List Bool) : BitSrc := ⟨bs.foldr (fun b n => 2 * n + b.toNat) 0, bs.length⟩

/-- The Huffman construction's proposal is a dynamic form of a block: its code lengths are at most 15 (RFC 1951), its header spells them, and every symbol has a code. -/
def dynFits (ys : List DefSym) (f : List Nat × List Nat × List Bool) : Bool :=
  (match dynHeader (BitSrc.ofBits f.2.2) 0 with
    | .ok (lit, dist, p) => decide (lit = Huff.of f.1 ∧ dist = Huff.of f.2.1 ∧ p = f.2.2.length)
    | .error _ => false)
  && (f.1 ++ f.2.1).all (fun l => decide (l ≤ 15))
  && decide (f.1.getD 256 0 ≠ 0)
  && ys.all (fun y => decide (f.1.getD (litSym y) 0 ≠ 0) && (decide (y.2 = 0) || decide (f.2.1.getD (baseIndex distBase 30 y.2) 0 ≠ 0)))

/-- Code lengths of the fixed form. -/
def fixedLitLens : List Nat := List.replicate 144 8 ++ List.replicate 112 9 ++ List.replicate 24 7 ++ List.replicate 8 8

/-- Zero bits up to a byte boundary from a bit position. -/
def padBits (pos : Nat) : List Bool := List.replicate ((8 - pos % 8) % 8) false

/-- One stored piece at a bit position: BFINAL, BTYPE 0, LEN, NLEN and the bytes. -/
def storedPiece (pos : Nat) (final : Bool) (bs : List Byte) : List Bool :=
  [final, false, false] ++ padBits (pos + 3) ++ bitsLsb 16 bs.length ++ bitsLsb 16 (65535 - bs.length) ++ bs.flatMap (fun b => bitsLsb 8 b.toNat)

/-- The stored form (R198): pieces of at most 65,535 B. -/
def storedForm : Nat → Nat → Bool → List Byte → List Bool
  | 0, pos, final, bs => storedPiece pos final bs
  | f + 1, pos, final, bs =>
    if bs.length ≤ 65535 then storedPiece pos final bs
    else
      let p := storedPiece pos false (bs.take 65535)
      p ++ storedForm f (pos + p.length) final (bs.drop 65535)

/-- A block at a bit position in the shortest of its forms, a tie going to dynamic, then fixed (R198). -/
def emitBlock (pos : Nat) (final : Bool) (ys : List DefSym) (bs : List Byte) : List Bool :=
  let fixed := [final, true, false] ++ blockBits fixedLitLens (List.replicate 32 5) ys
  let stored := storedForm 1 pos final bs
  let plain := if fixed.length ≤ stored.length then fixed else stored
  let d := Config.dynForm ys
  if dynFits ys d then
    let dyn := [final, false, true] ++ d.2.2 ++ blockBits d.1 d.2.1 ys
    if dyn.length ≤ plain.length then dyn else plain
  else plain

/-- Blocks in order from a bit position; the last one carries BFINAL where the stream ends (R206). -/
def emitBlocks (final : Bool) : Nat → List (List DefSym) → List Byte → List Bool
  | _, [], _ => []
  | pos, b :: bs, src =>
    let n := b.foldl (fun n y => n + symBytes y) 0
    let out := emitBlock pos (final && bs.isEmpty) b (src.take n)
    out ++ emitBlocks final (pos + out.length) bs (src.drop n)

/-- Bits as bytes, the last one padded with zeros. -/
def packBits : Nat → List Bool → List Byte
  | 0, _ => []
  | _, [] => []
  | f + 1, b :: bs => BitVec.ofNat 8 (((b :: bs).take 8).foldr (fun b n => 2 * n + b.toNat) 0) :: packBits f ((b :: bs).drop 8)

/-- The DEFLATE stream of an input at a level behind a history (newest byte first): ended by a block with BFINAL, or by the flush of a chained job, an empty stored block without it (R206). -/
def deflate (level : Nat) (final : Bool) (hist src : List Byte) : List Byte :=
  let blocks := defBlocks (defSyms level src.length (hist.take 32768) src) [] 0
  let blocks := if blocks.isEmpty && final then [[]] else blocks
  let body := emitBlocks final 0 blocks src
  let bits := if final then body else body ++ storedPiece body.length false []
  packBits bits.length bits

/-- The blocks at the front of an input that what follows cannot change: a match looks 258 bytes ahead, and the lazy choice one more. -/
def settledBlocks : Nat → List (List DefSym) → List (List DefSym)
  | _, [] => []
  | room, b :: bs =>
    let n := b.foldl (fun n y => n + symBytes y) 0
    if n ≤ room then b :: settledBlocks (room - n) bs else []

/-- The bytes of a DEFLATE stream that the front of its input decides. -/
def deflateFront (level : Nat) (hist src : List Byte) : List Byte :=
  let body := emitBlocks false 0 (settledBlocks (src.length - 259) (defBlocks (defSyms level src.length (hist.take 32768) src) [] 0)) src
  packBits body.length (body.take (body.length / 8 * 8))

end Sys2Proof.Machine
end

