-- ==== Sys2Proof/Machine/Wire.lean ====
section
/-! DEFINITION. Sending on the Utina ports: class queues, the order of sending, the replay buffer's intake and time stamps (R226, R243 to R245, R257 to R261). -/

namespace Sys2Proof.Machine

open Sys2Proof

/-- A frame of a class. -/
def TxFrame.mk' (cls : TxClass) (body : TxBody) (tsReq : Bool) (tsId : BitVec 16) (up : Nat) : TxFrame :=
  { cls := cls, body := body, lseq := 0, tsReq := tsReq, tsId := tsId, retry := false, tries := 0, queued := up, stamp := 0, injected := false, cipher := none }

/-- The body as it leaves at a time: T1 of a SYNC is the time of its transmission; a DELAY_RESP sent again carries its new one (R226, R259). -/
def TxBody.leaving (b : TxBody) (t : Tq) (retry : Bool) : TxBody :=
  match b with
  | .sync m => .sync { m with t1 := t, retry := retry }
  | .delayReq m => .delayReq { m with retry := retry }
  | .delayResp m => .delayResp { m with t4 := if retry then t else m.t4, retry := retry }
  | x => x

/-- The first queued frame of the first class of a list that has one (R257). -/
def pickFrame (q : List TxFrame) : List TxClass → Option TxFrame
  | [] => none
  | c :: cs =>
    match q.find? (fun f => f.cls == c) with
    | some f => some f
    | none => pickFrame q cs

/-- Remove the first queued frame of a class. -/
def dropFirst (c : TxClass) : List TxFrame → List TxFrame
  | [] => []
  | f :: fs => if f.cls == c then fs else f :: dropFirst c fs

/-- An exchange whose DELAY_REQ of a sequence identifier leaves at a time. -/
def ExchSt.sent (e : ExchSt) (id : BitVec 16) (t : Tq) (retry : Bool) : ExchSt :=
  if e.seqId = id then { e with t3 := some t, retry := e.retry || retry } else e

/-- T3 of the exchange a DELAY_REQ belongs to is the time of its transmission (R226). -/
def State.stampReq (s : State) (p : Nat) (b : TxBody) (retry : Bool) : State :=
  match b with
  | .delayReq m => s.updFfPort p (fun x => { x with exch := x.exch.map (fun e => e.sent m.seqId s.now retry) })
  | _ => s

/-- One side of each port is the initiator and proposes every rate (R262). -/
def State.initiator (s : State) (p : Nat) : Bool := decide (p = 1) || (decide (p = 2) && !s.boot.strapB)

/-- Block time of a lane in ps (Table 10-1). -/
def blockPs (rate : Nat) : Nat := [52800, 26400, 13200, 6600, 5280].getD rate 5280

/-- Frame capacity of a rate in Mb/s (Table 10-1). -/
def rateCapacity (r : Nat) : Nat := [2420, 4850, 9700, 19390, 24240].getD r 24240

/-- LINK_LOAD (Table 10-9): the bits of the blocks sent in the last second, in whole % of the capacity of Table 10-1 (assumption 74). -/
def State.linkLoad (s : State) (p : Nat) : Nat :=
  let l := s.linkOf p
  let blocks := ((l.sent.filter (fun e => decide (s.tm.up ≤ e.1 + 1000000000))).map (fun e => e.2)).sum
  min 100 (blocks * 64 * 100 / (rateCapacity l.rate * 1000000))

/-- Bits a lane of a rate receives in 100 ns (Table 10-1). -/
def rateBits (r : Nat) : Nat := [125, 250, 500, 1000, 1250].getD r 1250

/-- LINK_PRBS_ERRORS[p][l] (R279): in TEST the checker goes on from the first 31 bits received and counts every bit that differs. -/
def State.prbsWord (s : State) (p lane : Nat) : W32 :=
  let l := s.linkOf p
  let w := s.reg (Reg.link p (0x40 + 4 * lane))
  if l.mode = .test then
    let bit := Config.testBit p lane l.testUp
    let n := (s.tm.up - l.testUp) * rateBits l.rate / 100
    w.satAdd (prbsErrors l.test31 bit (n - 31) 31 ((List.range 31).map bit).reverse)
  else w

/-! ### Lanes -/

/-- State codes of Table 10-5. -/
def PortMode.code : PortMode → Nat
  | .disabled => 0
  | .sleep => 1
  | .detect => 2
  | .clockLock => 3
  | .eqTune => 4
  | .blockLock => 5
  | .deskew => 6
  | .identify => 7
  | .rateTrial => 8
  | .secure => 9
  | .active => 10
  | .fault => 11
  | .test => 12

/-- LSEQ a lies at or after LSEQ b, modulo 4,096. -/
def lseqFrom (b a : BitVec 12) : Bool := decide ((a - b).toNat < 2048)

/-- What the lanes of a port carry where no frame stands (Table 10-5): IDLE between frames, TRAIN with the state's code, or nothing of blocks. -/
inductive LaneFill where
  | nothing | idle | train (code : Nat)
deriving DecidableEq, Repr

/-- What the lanes of a port carry where no frame stands. -/
def LinkSt.fill (l : LinkSt) : LaneFill :=
  match l.mode with
  | .disabled | .sleep | .test => .nothing
  | .identify | .secure | .active => .idle
  | .rateTrial => if 2 ≤ l.trialStep ∧ l.trialStep ≤ 5 then .train 8 else .idle
  | .detect | .clockLock | .eqTune | .blockLock | .deskew | .fault => .train l.mode.code

/-- ALIGN pairs stand on the lanes from DESKEW on (Table 10-5, R252). -/
def LinkSt.aligns (l : LinkSt) : Bool :=
  match l.mode with
  | .detect | .clockLock | .eqTune | .blockLock | .fault => false
  | .rateTrial => decide (l.trialStep < 2 ∨ 5 ≤ l.trialStep)
  | _ => true

/-- The block a lane carries where no frame stands. -/
def LaneFill.block : LaneFill → Nat → Block
  | .train code, lane => trainBlock lane code
  | _, _ => idleBlock

/-- n blocks of both lanes from a position on leave where no frame stands: the scrambler registers behind them. -/
def fillGo (fill : LaneFill) (aligns : Bool) : Nat → Nat → BitVec 58 → BitVec 58 → BitVec 58 × BitVec 58
  | 0, _, r0, r1 => (r0, r1)
  | n + 1, pos, r0, r1 =>
    let b := if aligns ∧ pos / 2 % 4096 = 0 then alignBlock (pos % 2) (pos / 8192) else fill.block (pos % 2)
    if pos % 2 = 0 then fillGo fill aligns n (pos + 1) (scramble r0 b.data).1 r1 else fillGo fill aligns n (pos + 1) r0 (scramble r1 b.data).1

/-- The block position, over both lanes, at which a frame that starts at a time leaves (R252, R273). -/
def LinkSt.lanePos (l : LinkSt) (up : Nat) : Nat := max l.txPos ((up - l.laneUp) * 1000 / blockPs l.rate * 2)

/-- Blocks have left up to a position: of those still to leave with an invalid header, as many of each lane (R280: the injector acts only in ACTIVE). -/
def LinkSt.passed (l : LinkSt) (pos : Nat) : LinkSt :=
  if l.mode = .active then { l with txPos := pos, bad0 := l.bad0 - ((pos + 1) / 2 - (l.txPos + 1) / 2), bad1 := l.bad1 - (pos / 2 - l.txPos / 2) }
  else { l with txPos := pos }

/-- The lanes have carried what stands between frames up to a time. -/
def LinkSt.catchUp (l : LinkSt) (up : Nat) : LinkSt :=
  let pos := l.lanePos up
  let r := if l.fill = .nothing then (l.scram0, l.scram1) else fillGo l.fill l.aligns (pos - l.txPos) l.txPos l.scram0 l.scram1
  { l.passed pos with scram0 := r.1, scram1 := r.2 }

/-- Control blocks that wait take their positions inside a frame (R253). -/
def insertCtl (start : Nat) (blocks : List Block) (ctl : List (Nat × Block)) : List Block :=
  ctl.foldl (fun bs c => bs.take (c.1 - start) ++ c.2 :: bs.drop (c.1 - start)) blocks

/-- The first blocks of each lane leave with an invalid header (Table 10-7, HEADER). -/
def spoilHeaders (bad : BitVec 2) : Bool → Nat → Nat → List Block → List Block
  | _, _, _, [] => []
  | one, n0, n1, b :: bs =>
    (if 0 < (if one then n1 else n0) then ⟨bad, b.data⟩ else b) :: spoilHeaders bad (!one) (if one then n0 else n0 - 1) (if one then n1 - 1 else n1) bs

/-- Blocks leave at the position reached, with the control blocks that wait and the ALIGN pairs due among them, through the scramblers (R251, R252); bad: the invalid header of R280. -/
def LinkSt.put (l : LinkSt) (blocks : List Block) (bad : BitVec 2) (dark0 dark1 : Bool) : LinkSt :=
  let placed := placeBlocks l.txPos (insertCtl l.txPos blocks l.ctlWait)
  let one := l.txPos % 2 == 1
  let line := lanesGo true one l.scram0 l.scram1 placed
  let line := if l.mode = .active then spoilHeaders bad one l.bad0 l.bad1 line else line
  let r := lanesEnd one l.scram0 l.scram1 placed
  { l.passed (l.txPos + placed.length) with ctlWait := [], wire := ⟨l.scram0, l.scram1, one, line, dark0, dark1⟩, scram0 := r.1, scram1 := r.2 }

/-- The injector holds a lane (0, 1) or the clock lane (2) of a port silent (R280). -/
def State.squelched (s : State) (p lane : Nat) : Bool := s.inj.any (fun i => i.target == p + 1 && i.action == 6 && i.index == lane)

/-- Blocks leave on a port: they are on the wire, and count for the load of the last second (R282). Which of the two invalid headers an injected one is, is free. -/
def State.emit (s : State) (p : Nat) (blocks : List Block) : State :=
  let l := s.linkOf p
  let w := l.put blocks (if s.freeW.getLsbD 1 then 3 else 0) (s.squelched p 0) (s.squelched p 1)
  let sent := ((s.tm.up, w.wire.blocks.length) :: l.sent).filter (fun e => decide (s.tm.up ≤ e.1 + 1000000000))
  (s.setLink p { w with sent := sent }).freeNext

/-- The frame in transmission is cut where it stands as its port leaves service (R269). -/
def State.cutFrame (s : State) (p : Nat) : State :=
  let l := s.linkOf p
  match l.current with
  | some f => s.emit p ((f.blocks f.cipher).take (l.lanePos s.tm.up - l.txPos))
  | none => s

/-- Keys behind a transmission that uses one value of the counter (R272). -/
def LinkKeys.used (k : LinkKeys) : LinkKeys := { k with counter := k.counter + 1 }

/-- The replay buffer takes another frame (R259): 128 frames and 128 KiB. -/
def LinkSt.hasRoom (l : LinkSt) (f : TxFrame) : Bool :=
  decide (l.replay.length < 128) && decide ((l.replay.map TxFrame.len).sum + f.len ≤ 131072)

/-- Start the next frame on a port that has none in transmission (R257, R259): frames due for replay first, then trigger, Firefly, twin, and management and in-service key frames; training and key frames while the port is not in service. A frame in service is sealed under the keys in use with a count of its own (R272). -/
def State.startNext (s : State) (p : Nat) : State :=
  if (s.linkOf p).current.isSome then s
  else if s.inService p then
    let l := (s.linkOf p).catchUp s.tm.up
    match l.resend with
    | n :: rest =>
      match l.replay.find? (fun f => f.lseq == n) with
      | some f =>
        let g := { f with retry := true, tries := f.tries + 1, body := f.body.leaving s.now true, stamp := s.now, cipher := l.keys }
        let kept := l.replay.map (fun x => if x.lseq == n then g else x)
        ((s.setLink p { l with current := some g, resend := rest, replay := kept, keys := l.keys.map LinkKeys.used }).bump (Reg.link p 0x14)).stampReq p g.body true
      | none => s.setLink p { s.linkOf p with resend := rest }
    | [] =>
      match pickFrame l.queues [.trigger, .firefly, .twin, .management] with
      | some f =>
        if l.hasRoom f then
          let g := { f with lseq := l.txNext, body := f.body.leaving s.now false, stamp := s.now, cipher := l.keys }
          (s.setLink p { l with current := some g, queues := dropFirst f.cls l.queues, txNext := l.txNext + 1, keys := l.keys.map LinkKeys.used }).stampReq p g.body false
        else s
      | none => s
  else
    let l := (s.linkOf p).catchUp s.tm.up
    match pickFrame l.queues [.training, .key] with
    | some f => s.setLink p { l with current := some { f with stamp := s.now }, queues := dropFirst f.cls l.queues }
    | none => s

/-- A frame is lost (R261): counted, and on TWIN told to the partner in the next HEALTH. -/
def State.txLost (s : State) (p : Nat) : State :=
  (s.bump (Reg.link p 0x20)).updLink p (fun l => { l with discarded := true })

/-- A port takes another frame of a class (R257, R261): it is not disabled, a Firefly frame needs it in service, and the class queue holds 64. -/
def State.accepts (s : State) (p : Nat) (cls : TxClass) : Bool :=
  let l := s.linkOf p
  decide (l.mode ≠ .disabled) && !(decide (cls = .firefly) && !s.inService p) && decide ((l.queues.filter (fun f => f.cls == cls)).length < 64)

/-- A frame joins its class queue. -/
def State.enqueue (s : State) (p : Nat) (cls : TxClass) (body : TxBody) (tsReq : Bool) (tsId : BitVec 16) : State :=
  (s.updLink p (fun l => { l with queues := l.queues ++ [TxFrame.mk' cls body tsReq tsId s.tm.up] })).startNext p

/-! ### HEALTH (R346) -/

/-- The unit gives up the active role (R347). -/
def State.relinquishes (s : State) : Bool := decide (s.twin.role = .active) && (s.log.fatal || s.twin.stuck)

/-- The HEALTH payload as it stands now (Table 13-4). -/
def State.healthOf (s : State) : HealthFrame :=
  { role := BitVec.ofNat 4 s.twin.role.code, reasons := s.twin.reasons, epoch := s.epoch, linkDiscard := (s.linkOf 2).discarded,
    swapPending := s.twin.swapId.isSome, excStuckSelf := s.twin.stuck, relinquish := s.relinquishes, firmware := s.reg 0x18,
    trigSeq := s.mantis.trigSeq, cfgHash := BitVec.ofNat 256 (ofLeBytes (Look.hash s.cfgv)), lastA := BitVec.ofNat 64 (s.grpOf 0).doneK,
    lastB := BitVec.ofNat 64 (s.grpOf 1).doneK, failCores := if s.twin.role = .active then s.twin.failCores else 0 }

/-- A HEALTH frame is formed: it tells of the frames lost since the one before; a standby that hears of one resynchronises, and the active serves it again (R359). -/
def State.healthForm (s : State) : State :=
  let h := s.healthOf
  let again := decide (s.twin.role = .active) && h.linkDiscard
  ({ s with twin := { s.twin with mine := some h, resync := if again then 0 else s.twin.resync } } : State).updLink 2 (fun l => { l with discarded := false })

/-- A loss on TWIN in service sets LINK_DISCARD, and HEALTH follows at once (R346), when its own queue takes it and the injector does not withhold it (Table 19-6). -/
def State.tellLost (s : State) (p : Nat) : State :=
  if p = 2 ∧ s.inService 2 = true ∧ s.accepts 2 .twin = true ∧ (s.injOf 11 3 0).isNone = true then s.healthForm.enqueue 2 .twin (.health s.healthOf) false 0 else s

/-- Queue a frame on a port (R257, R261), or lose it. -/
def State.queueFrame (s : State) (p : Nat) (cls : TxClass) (body : TxBody) (tsReq : Bool) (tsId : BitVec 16) : State :=
  if s.accepts p cls then s.enqueue p cls body tsReq tsId else (s.txLost p).doIf (!(s.linkOf p).discarded) (fun t => t.tellLost p)

/-- Queue a frame that asks for no stamp. -/
def State.sendOn (s : State) (p : Nat) (cls : TxClass) (body : TxBody) : State := s.queueFrame p cls body false 0

/-- Send a HEALTH frame (R346), unless the injector withholds it (Table 19-6). -/
def State.sendHealth (s : State) : State :=
  if (s.injOf 11 3 0).isSome then s else s.healthForm.sendOn 2 .twin (.health s.healthOf)

/-! ### CFG_DATA (R349) -/

/-- Records in frames of whole records, at most 254 words each (R253: a payload holds 1,024 B; assumption 97). -/
def packRecords : Nat → List W32 → List W32 → List (List W32)
  | 0, acc, ws => [acc ++ ws]
  | _ + 1, acc, [] => [acc]
  | n + 1, acc, w :: ws =>
    let k := 1 + field w 15 0
    if acc.length + 1 + k ≤ 254 then packRecords n (acc ++ w :: ws.take k) (ws.drop k) else acc :: packRecords n (w :: ws.take k) (ws.drop k)

/-- Frames of CFG_DATA join their class queue while no more than half of it is taken (R257; assumption 97). -/
def feedGo : Nat → State → State
  | 0, s => s
  | n + 1, s =>
    match s.cfg.dataOut with
    | [] => s
    | r :: rest =>
      if 32 ≤ ((s.linkOf 2).queues.filter (fun f => f.cls == TxClass.twin)).length then s
      else feedGo n (({ s with cfg := { s.cfg with dataOut := rest } } : State).sendOn 2 .twin (.cfgData r rest.isEmpty))

/-- More of the CFG_DATA under way is queued. -/
def State.feedData (s : State) : State := feedGo 34 s

/-- Records go to the standby as CFG_DATA (R349, R359). -/
def State.sendData (s : State) (records : List W32) : State :=
  ({ s with cfg := { s.cfg with dataOut := packRecords records.length [] records, dataUp := s.tm.up, armAt := none } } : State).feedData

/-! ### Control blocks -/

/-- A control block leaves on a port (R258): at once, or among the blocks of the frame in transmission (R253). -/
def State.sendCtl (s : State) (p : Nat) (b : BitVec 64) : State :=
  let l := { s.linkOf p with ctl := b, ctlSent := (s.linkOf p).ctlSent + 1 }
  if l.current.isSome then s.setLink p { l with ctlWait := l.ctlWait ++ [(l.lanePos s.tm.up, ⟨2, b⟩)] }
  else (s.setLink p (l.catchUp s.tm.up)).emit p [⟨2, b⟩]

/-- A frame has been received under the keys in use (R274). -/
def LinkSt.receives (l : LinkSt) : LinkSt := { l with keys := l.keys.map (fun k => { k with received := k.received + 1 }) }

/-- A received frame is accepted and acknowledged (R258): its LSEQ is the one waited for, and a run of tag failures ends (Table 10-6). Keys of the earlier phase go with a frame under the new one (R274); which KEY_PHASE an accepted frame carried is a free value (assumption 57). -/
def State.rxAccept (s : State) (p : Nat) : State :=
  let l := (s.linkOf p).receives
  let held := l.oldKeys.isSome
  let turned := (Config.freeWord s.freeCtr).getLsbD 0
  let s := if held then { s with freeCtr := s.freeCtr + 1 } else s
  (s.setLink p { l with rxNext := l.rxNext + 1, ackSent := l.rxNext, nakFor := none, authRun := 0, oldKeys := if turned then none else l.oldKeys }).sendCtl p (ackBlock l.rxNext)

end Sys2Proof.Machine
end

