-- ==== Sys2Proof/Machine/Hive.lean ====
section
/-! DEFINITION. The Hive: the space that stream packets and frames of history share (R150, R152, R164, R165), and what overwriting takes from the capture jobs (R184). -/

namespace Sys2Proof.Machine

open Sys2Proof

/-! ### Space of streams -/

/-- Bytes of packets that satisfy a test, over those in the queue and those in buffers whose completion is not posted (R303). -/
def StreamSt.bytesOf (st : StreamSt) (f : Packet → Bool) : Nat :=
  (((st.bufs.flatMap (fun b => b.held)) ++ st.queue).filter f).foldl (fun n p => n + p.size) 0

/-- Bytes of closed packets in the FIFO: the original of a packet that waits for its form as sent lies there too (R202). -/
def StreamSt.fifoBytes (st : StreamSt) : Nat := st.closing.foldl (fun n p => n + p.size) (st.bytesOf (fun p => !p.spilled))

/-- Bytes in spill. -/
def StreamSt.spillBytes (st : StreamSt) : Nat := st.bytesOf (fun p => p.spilled)

/-- Spill in use by all streams. -/
def State.spillUsed (s : State) : Nat := s.strm.foldl (fun n e => n + e.2.spillBytes) 0

/-- The FIFO and spill hold no closed packet of the stream (R150). -/
def StreamSt.empty (st : StreamSt) : Bool := st.closing.isEmpty && st.queue.isEmpty && st.bufs.all (fun b => b.held.isEmpty)

/-! ### History -/

/-- A time lies in a job's window. -/
def CapJob.covers (j : CapJob) (t : Tq) : Bool := decide (j.lo ≤ t ∧ t ≤ j.hi)

/-- A frame a job has not copied: of its group, in its window, from LATE on. -/
def CapJob.wants (j : CapJob) (f : HiveFrame) : Bool :=
  decide (gidx f.group = j.group ∧ f.epoch = j.epoch) && j.covers f.edge && decide (j.late ≤ f.edge)
    && !j.frames.any (fun h => h.k == f.k && h.edge == f.edge)

/-- A job knows every frame its window may hold: copied or lost, 65,535 in all (R182). -/
def CapJob.isFull (j : CapJob) : Bool := decide (65535 ≤ j.frames.length + j.gone.length)

/-- A frame leaves the history before a job copied it (R184). -/
def CapJob.overwrite (j : CapJob) (f : HiveFrame) : CapJob :=
  if j.wants f then (if j.isFull then { j with tooLong := true } else { j with gone := j.gone ++ [(f.k, f.edge)] }) else j

/-- Bytes of history a frame takes (R164). -/
def HiveFrame.bytes (f : HiveFrame) : Nat := 4 * f.results.length

/-- Bytes of history. -/
def State.hiveBytes (s : State) : Nat := s.hive.foldl (fun n f => n + f.bytes) 0

/-- Overwrite the oldest history until it fits what spill leaves of the 24 MiB (R152, R164, R165). -/
def State.hiveTrim : Nat → State → State
  | 0, s => s
  | n + 1, s =>
    match s.hive with
    | [] => s
    | f :: rest =>
      if s.hiveBytes + s.spillUsed ≤ 25165824 then s
      else
        let g := gidx f.group
        let s := s.setHiveLost g (((f.k, f.edge) :: s.hiveLostOf g).filter (fun r => decide (s.now ≤ r.2 + nsTq 4300000000)))
        State.hiveTrim n { s with hive := rest, mantis := { s.mantis with jobs := s.mantis.jobs.map (fun j => j.overwrite f) } }

/-- History gives way to what has just been written or spilled. -/
def State.hiveFit (s : State) : State := s.hiveTrim (s.hive.length + 1)

end Sys2Proof.Machine
end

