-- ==== Sys2Proof/Machine/Lanes.lean ====
section
/-! DEFINITION. The lanes of the compression engine (R197, R204 to R206): which packet or job segment takes a lane, and what a chain of jobs leaves to its next member. -/

namespace Sys2Proof.Machine

open Sys2Proof

/-! ### Packets -/

/-- The older of two packets by close. -/
def olderOf (a b : Nat × Packet) : Nat × Packet := if b.2.closedAt < a.2.closedAt then b else a

/-- Packets that wait for a lane. -/
def State.laneWait (s : State) : List (Nat × Packet) :=
  s.strm.flatMap (fun e => ((e.2.queue ++ e.2.closing).filter (fun p => !p.settled && p.lane.isNone)).map (fun p => (e.1, p)))

/-- The oldest of a list of packets. -/
def oldestOf : List (Nat × Packet) → Option (Nat × Packet)
  | [] => none
  | x :: xs => some (xs.foldl olderOf x)

/-- Change a packet of a stream by its SEQ. -/
def StreamSt.updPacket (st : StreamSt) (seq : W32) (f : Packet → Packet) : StreamSt :=
  let g := fun p => if p.seq = seq then f p else p
  { st with queue := st.queue.map g, closing := st.closing.map g }

/-- A packet's payload as one DEFLATE stream (R201). -/
def Packet.deflated (p : Packet) : List Byte := deflate p.level true [] p.transformed

/-- Count bytes processed in CMP_IN_BYTES and CMP_OUT_BYTES (Table 8-5). -/
def State.cmpBytes (s : State) (plain packed : Nat) : State :=
  let s := s.setReg64 0x40010 (min (s.reg64 0x40010 + plain) 18446744073709551615)
  s.setReg64 0x40018 (min (s.reg64 0x40018 + packed) 18446744073709551615)

/-- A packet has been compressed: bytes processed, and a fallback when that made it longer (R202). -/
def State.cmpPacket (s : State) (p : Packet) : State :=
  let s := s.cmpBytes (4 * p.payload.length) p.deflated.length
  if 4 * p.payload.length < p.deflated.length then s.bump 0x40008 else s

/-! ### Lanes -/

/-- Lowest-numbered free lane. -/
def State.freeLane (s : State) : Option Nat := s.comp.lanes.findIdx? (fun l => decide (l = .free))

/-- Set a lane's work. -/
def State.setLane (s : State) (n : Nat) (w : LaneWork) : State :=
  { s with comp := { s.comp with lanes := s.comp.lanes.set n w } }

/-- The packet of a stream that a lane works on; none once it has been discarded. -/
def StreamSt.onLane (st : StreamSt) (n : Nat) : Option Packet :=
  (st.queue ++ st.closing).find? (fun p => decide (p.lane = some n) && !p.settled)

/-- The lane that works on a packet, if one does, becomes free. -/
def State.leaveLane (s : State) (p : Packet) : State :=
  match p.lane with
  | some n => s.setLane n .free
  | none => s

/-- Some enabled stream compresses (R204). -/
def State.streamsCompress (s : State) : Bool :=
  (List.range 64).any (fun x => s.cfgOn Fld.streamEnable x && s.cfgv Fld.streamCmpLevel x 0 != 0)

/-- A lane works on a host job; of one job when it is given. -/
def LaneWork.onJob (l : LaneWork) (id : Option Nat) : Bool :=
  match l with
  | .job n _ => id.all (fun i => i == n)
  | _ => false

/-- Lanes that host jobs hold. -/
def State.jobLanes (s : State) : Nat := (s.comp.lanes.filter (fun l => l.onJob none)).length

/-! ### Host jobs -/

/-- Parameters of a job (Table 11-10). -/
def Desc.jobLevel (d : Desc) : Nat := field (d.p 3) 3 0
def Desc.jobDelta (d : Desc) : Bool := (d.p 3).getLsbD 8
def Desc.jobPacket (d : Desc) : Bool := (d.p 3).getLsbD 9
def Desc.jobCheck (d : Desc) : Bool := (d.p 3).getLsbD 10
def Desc.jobCh (d : Desc) : Nat := field (d.p 4) 9 0
def Desc.jobSrcLen (d : Desc) : Nat := (d.p 2).toNat
def Desc.jobOrigLen (d : Desc) : Nat := (d.p 5).toNat
/-- COMPRESS or DECOMPRESS. -/
def Desc.isJob (d : Desc) : Bool := decide (d.op = 0x30 ∨ d.op = 0x31)

/-- Uncompressed bytes of a segment (R205). -/
def segBytes : Nat := 65536

/-- Segments of a length; an empty job has one. -/
def segsOf (n : Nat) : Nat := max 1 ((n + segBytes - 1) / segBytes)

/-- Change a job. -/
def State.updJob (s : State) (id : Nat) (f : JobSt → JobSt) : State :=
  { s with comp := { s.comp with jobs := s.comp.jobs.map (fun j => if j.id == id then f j else j) } }

/-- A job leaves the engine with every lane it holds. -/
def State.dropJob (s : State) (id : Nat) : State :=
  { s with comp := { s.comp with jobs := s.comp.jobs.filter (fun j => j.id != id), lanes := s.comp.lanes.map (fun l => if l.onJob (some id) then .free else l) } }

/-- The nearest earlier job of a descriptor's ring that has not retired. -/
def State.jobBefore (s : State) (d : Desc) : Option Desc :=
  (s.host.inflight.filter (fun x => x.isJob && x.ring == d.ring && decide (x.id < d.id))).foldl
    (fun m x => if m.all (fun y => decide (y.id < x.id)) then some x else m) none

/-- What the nearest earlier job of the ring has left, when no job in between is still in flight (R206). -/
def State.chainAt (s : State) (d : Desc) : Option ChainSt :=
  (s.comp.chains.filter (fun c => c.ring == d.ring && decide (c.id < d.id) && (s.jobBefore d).all (fun x => decide (x.id < c.id)))).getLast?

/-- The chain a job continues: left by a job of its own opcode (R206). -/
def State.chainFor (s : State) (d : Desc) : Option ChainSt := (s.chainAt d).filter (fun c => c.inflate == decide (d.op = 0x31))

/-- A job has come to its turn behind what earlier jobs of its ring left: taken up or broken, it is gone (R206). What a job has left stands for the next one of the ring alone, while that one waits. -/
def State.chainPast (s : State) (d : Desc) : State :=
  let past := fun (c : ChainSt) => c.ring == d.ring && decide (c.id < d.id) && (s.jobBefore d).all (fun x => decide (x.id < c.id))
  { s with comp := { s.comp with chains := s.comp.chains.filter (fun c => !past c) } }

/-- A job continues the chain of an earlier one that has not ended (R206). -/
def State.chainWaits (s : State) (d : Desc) : Bool :=
  (s.jobBefore d).any (fun x => decide (x.op = d.op) && x.flag 2 && !x.jobPacket)

/-- The lane a job's next segment takes (R204, R206): a chain keeps one lane and its segments follow each other, as those of a DECOMPRESS do; any other segment takes the lowest free lane. None while it has to wait or has none left. -/
def State.segLane (s : State) (d : Desc) (j : JobSt) : Option Nat :=
  let before := if j.taken = 0 then s.chainFor d else j.chain
  let chained := d.flag 2 || before.isSome
  let lane := j.lane.orElse (fun _ => before.map (fun c => c.lane))
  if s.chainWaits d then none
  else if (chained || decide (d.op = 0x31)) && s.comp.lanes.any (fun l => l.onJob (some d.id)) then none
  else if d.op = 0x30 ∧ segsOf d.jobSrcLen ≤ j.taken then none
  else
    match lane with
    | some n => if s.comp.lanes.getD n .free = .free then some n else none
    | none => s.freeLane

/-- The first job in the order of acceptance that can take a lane, with that lane. -/
def State.nextSeg (s : State) : Option (Desc × JobSt × Nat) :=
  s.comp.jobs.findSome? (fun j => (s.descOf j.id).bind (fun d => (s.segLane d j).map (fun n => (d, j, n))))

/-- A job's next segment takes a lane; with its first one the job takes up the chain it continues. A job behind a failed one of its chain is refused (R208). -/
def State.takeSeg (s : State) (d : Desc) (j : JobSt) (n : Nat) : State :=
  let c := if j.taken = 0 then s.chainFor d else j.chain
  let s := if j.taken = 0 then s.chainPast d else s
  if c.any (fun c => c.failed) then (s.dropJob d.id).retireBad d 0x0401
  else
    let lane := if d.flag 2 || c.isSome then some n else none
    (s.setLane n (.job d.id j.taken)).updJob d.id (fun j => { j with taken := j.taken + 1, chain := c, lane := lane })

/-- Hand free lanes out: waiting packets first, oldest to the lowest lane, then waiting segments of host jobs, which hold at most two lanes while any enabled stream compresses (R204). -/
def State.assignLanes : Nat → State → State
  | 0, s => s
  | f + 1, s =>
    match s.freeLane with
    | none => s
    | some n =>
      match oldestOf s.laneWait with
      | some (x, p) =>
        State.assignLanes f ((s.setLane n (.packet x)).updStrm x (fun st => st.updPacket p.seq (fun q => { q with lane := some n })))
      | none =>
        if s.streamsCompress ∧ 2 ≤ s.jobLanes then s
        else
          match s.nextSeg with
          | some (d, j, m) => State.assignLanes f (s.takeSeg d j m)
          | none => s

/-- Hand out every free lane; a job that is refused leaves its lane to the next. -/
def State.assignAll (s : State) : State := State.assignLanes (4 + s.comp.jobs.length) s

end Sys2Proof.Machine
end

