-- ==== Sys2Proof/Machine/Sign.lean ====
section
/-! DEFINITION. Svetron's device keys, fingerprint and signature blocks (R383 to R386). -/

namespace Sys2Proof.Machine

open Sys2Proof

/-- The order of the P-384 group. -/
def p384Order : Nat :=
  0xFFFFFFFFFFFFFFFFFFFFFFFFFFFFFFFFFFFFFFFFFFFFFFFFC7634D81F4372DDF581A0DB248B0A77AECEC196ACCC52973

/-- The number that bytes spell, most significant first (SEC 1). -/
def ofBeBytes (bs : List Byte) : Nat := bs.foldl (fun a b => a * 256 + b.toNat) 0

/-- Key derivation: with a counter byte while the outcome is no private key (R383). -/
def deriveKey (uds info : List Byte) : Nat → Nat → List Byte
  | 0, _ => []
  | f + 1, n =>
    let i := if n = 0 then info else info ++ [BitVec.ofNat 8 n]
    let d := Config.hkdfSha384 uds [] i 48
    if ofBeBytes d = 0 ∨ p384Order ≤ ofBeBytes d then deriveKey uds info f (n + 1) else d

/-- The device keys of Table 15-1 by code: 1 IDENTITY, 2 DATA, 3 VAULT. -/
def State.deviceKey (s : State) (code : Nat) : List Byte :=
  deriveKey s.otp.secret (ascii (if code = 1 then "ZH-KEY-IDENTITY" else if code = 2 then "ZH-KEY-DATA" else "ZH-KEY-VAULT")) 256 0

/-- The IDENTITY public key, 97 B. -/
def State.identityKey (s : State) : List Byte := Config.p384Public (s.deviceKey 1)

/-- First 16 B of the SHA-384 digest of a public key (R384). -/
def fingerprintOf (pub : List Byte) : List Byte := (Config.sha384 pub).take 16

/-- The CTX strings of Table 15-2. -/
def ctxName (code : Nat) : List Byte :=
  ascii (match code with
    | 1 => "ZHSTREAM"
    | 2 => "ZHCAPTUR"
    | 3 => "ZHSTATS."
    | 4 => "ZHWEIGHT"
    | 5 => "ZHSIGNRQ"
    | 6 => "ZHATTEST"
    | 7 => "ZHOWNREQ"
    | _ => "ZHMEMBER")

/-- The signed message CTX || D (R385). -/
def ctxMessage (ctx : Nat) (digest : List Byte) : List Byte := ctxName ctx ++ digest

/-- The first two words of a signature block (R386). -/
def sigHead (key ctx : Nat) (pub : List Byte) : List Byte :=
  wordBytes [BitVec.ofNat 32 (0x5A530000 + key * 256 + ctx)] ++ (fingerprintOf pub).take 4

/-- A 104 B signature block by a device key over a digest (R385, R386). -/
def State.signBlock (s : State) (key ctx : Nat) (digest : List Byte) : List Byte :=
  let d := s.deviceKey key
  sigHead key ctx (Config.p384Public d) ++ Config.ecdsaSign d (ctxMessage ctx digest)

/-- A signature block names a key and context and verifies over a digest under a public key. -/
def blockVerifies (block : List Byte) (key ctx : Nat) (pub digest : List Byte) : Bool :=
  decide (block.length = 104) && decide (block.take 8 = sigHead key ctx pub)
    && Config.ecdsaVerify pub (ctxMessage ctx digest) (block.drop 8)

/-! ### The flash port (R427, R428) -/

/-- I/O in use (R427): FLASH.IO, limited to what the devices offer; 0 single, 1 dual, 2 quad. -/
def State.flashIo (s : State) : Nat := min (s.cfgv Fld.flashIo 0 0) s.flash.io

/-- The clock in use in MHz (R427): FLASH.CLK_MHZ, limited to what the devices offer. -/
def State.flashClk (s : State) : Nat := min (s.cfgv Fld.flashClkMhz 0 0) s.flash.clk

/-- The hub sets quad enable of the devices present for quad I/O, by the method their SFDP tables name (R427). -/
def State.quadSet (s : State) : State :=
  if s.flashIo = 2 then { s with flash := { s.flash with quadA := s.flash.quadA || s.flash.presentA, quadB := s.flash.quadB || s.flash.presentB } } else s

/-- The stored copies a read finds: those of every present device (R428); the caller takes the sound one of highest sequence. -/
def FlashSt.copies (f : FlashSt) : List StoredCfg := (if f.presentA then f.stored else []) ++ (if f.presentB then f.storedB else [])

/-! ### Images in flash (R401, R428, R431) -/

/-- Bytes of a device. -/
def FlashSt.mem (f : FlashSt) (second : Bool) : List Host.Cell := if second then f.memB else f.memA

/-- Replace the bytes of a device. -/
def FlashSt.setMem (f : FlashSt) (second : Bool) (m : List Host.Cell) : FlashSt := if second then { f with memB := m } else { f with memA := m }

/-- A device is present. -/
def FlashSt.present (f : FlashSt) (second : Bool) : Bool := if second then f.presentB else f.presentA

/-- Bytes of a flash device. -/
def flashRead (m : List Host.Cell) (a n : Nat) : List Byte := (List.range n).map (fun i => Cells.get flashByte m (a + i))

/-- The image header of a slot (R428, Table 17-6). -/
def State.imageHeader (s : State) (slotB : Bool) : List Byte := flashRead (if slotB then s.flash.memB else s.flash.memA) 0 332

/-- A number of an image header. -/
def hdr (h : List Byte) (at4 : Nat) : Nat := ofLeBytes ((h.drop at4).take 4)

/-- Both signatures of a slot's image (R401, R431): Wiaro's, under the key whose digest OTP holds, and the owner's when POLICY.OWNER_COSIGN asks for it. -/
def State.imageSigned (s : State) (second : Bool) : Bool :=
  let h := s.imageHeader second
  let digest := Config.sha384 (h.take 124)
  let good := fun key pub (block : List Byte) =>
    decide (block.take 8 = sigHead key 9 pub) && Config.ecdsaVerify pub (ascii "ZHFIRMWR" ++ digest) (block.drop 8)
  decide (Config.sha384 Config.firmwareKey = s.otp.firmwareDigest) && good 6 Config.firmwareKey ((h.drop 124).take 104) && (!s.sv.policy.getLsbD 1 || good 4 s.sv.ownerKey ((h.drop 228).take 104))

/-- Both digests of a slot's image. -/
def State.imageDigests (s : State) (second : Bool) : Bool :=
  let h := s.imageHeader second
  let m := s.flash.mem second
  let v := hdr h 16
  decide (Config.sha384 (flashRead m 512 (hdr h 12)) = (h.drop 28).take 48)
    && decide ((if v = 0 then List.replicate 48 0 else Config.sha384 (flashRead m 0x800000 v)) = (h.drop 76).take 48)

/-- The vault image verifies as the vault starts (R379, R401): the read succeeds, and where a slot's vault region holds that image, its package's signature and digests are good. The manual does not say where an image lies that neither slot holds (assumption 104). -/
def State.vaultVerifies (s : State) (readOk : Bool) : Bool :=
  let holds := [false, true].filter (fun b => s.flash.present b && decide (hdr (s.imageHeader b) 16 ≠ 0 ∧ ((s.imageHeader b).drop 76).take 48 = s.vault.imageDigest))
  readOk && (holds.isEmpty || holds.any (fun b => s.imageSigned b && s.imageDigests b))

/-! ### Waiting writes (R430) -/

/-- The oldest waiting write of a device begins when no other is in progress. -/
def beginFirst (second : Bool) : List FlashWrite → List FlashWrite
  | [] => []
  | w :: ws => if w.second = second then { w with begun := true } :: ws else w :: beginFirst second ws

/-- Writes begin on devices that are idle, unless a vault write waits, which goes ahead of them (R430). -/
def State.flashBegin (s : State) : State :=
  if s.vault.toStore.isEmpty then { s with flash := { s.flash with writes := beginFirst false (beginFirst true s.flash.writes) } } else s

end Sys2Proof.Machine
end

