-- ==== Sys2Proof/Machine/Weigh.lean ====
section
/-! DEFINITION. The Scarab vault's operations (chapter 14): the seal (R368, R369), audit entries (R373), the sealed set (R371), inhibit reasons (R375), occupancy intervals and results (R374), and what a standby holds (R378). -/

namespace Sys2Proof.Machine

open Sys2Proof

/-! ### The seal -/

/-- GPIO[31] reads high: the seal counts as open for writes (R368, R369). -/
def State.sealOpen (s : State) : Bool := s.otp.vaultFuse && s.pads.settled.getLsbD 31 && s.pads.level.getLsbD 31

/-- The seal counts as open for records: an unsettled pin flags them too (R369). -/
def State.sealFlag (s : State) : Bool := s.otp.vaultFuse && (!s.pads.settled.getLsbD 31 || s.pads.level.getLsbD 31)

/-- The open transaction is authorised (R370). -/
def State.authTxn (s : State) : Bool := s.cfg.txn.any (fun t => t.authorised)

/-! ### Sealed set -/

/-- Owned fields of a configuration as records in canonical order (R364, R371). -/
def Look.ownedRecords (c : Look) : List W32 :=
  catalogue.flatMap (fun r => ((rowInstances r).filter (fun p => vaultOwned r.code p.1)).flatMap (fun p => recordWords r p.1 p.2 (c r.code p.1 p.2)))

/-- The sealed set as a configuration. -/
def State.sealedLook (s : State) : Look := Bank.get s.otp.vaultFuse s.vault.sealed

/-- SEAL_HASH of the owned fields of a bank (R371). -/
def sealHashOf (fuse : Bool) (b : Bank) : List Byte := (Config.sha384 (wordBytes (Look.ownedRecords (Bank.get fuse b)))).take 32

/-- SEAL_HASH (R371). -/
def State.sealHash (s : State) : List Byte := sealHashOf s.otp.vaultFuse s.vault.sealed

/-- The owned entries of a bank. -/
def ownedPart (b : Bank) : Bank := b.filter (fun e => vaultOwned (keyCode e.1) (keyIndex e.1))

/-- The values of the owned fields in the live configuration: those of the sealed set, or the defaults while the vault is in FAULT (R364, R379). -/
def State.sealedBank (s : State) : Bank := if s.vault.mode = .fault then [] else s.vault.sealed

/-- A bank with the owned entries of another (R364); a part without the vault owns none. -/
def withOwned (fuse : Bool) (b owned : Bank) : Bank :=
  if fuse then (ownedPart owned).foldl (fun m e => Bank.set fuse m e.1 e.2) (b.filter (fun e => !vaultOwned (keyCode e.1) (keyIndex e.1))) else b

/-! ### Audit trail -/

/-- The chain value an entry continues (R373). -/
def State.chainValue (s : State) : List Byte :=
  match s.vault.audit.getLast? with
  | some e => (wordBytes e).drop 16
  | none => (Config.sha384 (ascii "ZHAUDIT0" ++ fingerprintOf s.identityKey)).take 16

/-- Write one audit entry (R373): words 2 and 3 are the time, or what the kind puts in its place. It waits for the alibi store. -/
def State.audit (s : State) (kind : Nat) (inPlace : Option (List W32)) : State :=
  let head := [s.sv.eventCount, at_ 24 kind ||| BitVec.ofNat 32 s.epoch.toNat] ++ inPlace.getD (two s.nowNs)
  let e := head ++ wordsOf ((Config.sha384 (s.chainValue ++ wordBytes head)).take 16)
  { s with vault := { s.vault with audit := (s.vault.audit ++ [e]).drop (s.vault.audit.length + 1 - 4096), toStore := s.vault.toStore ++ [e] } }

/-- The event counter rises by 1; it stops at its end (R372, R382). -/
def State.countEvent (s : State) : State := { s with sv := { s.sv with eventCount := s.sv.eventCount.satAdd 1 } }

/-- Raise the event counter and write the entry of the event (R371, R372). -/
def State.auditEvent (s : State) (kind : Nat) (inPlace : Option (List W32)) : State := s.countEvent.audit kind inPlace

/-- A commit that changes owned fields (R371): the sealed set it will leave is on its way to the alibi store, and the flip waits for that write; the set changes when the commit is applied. -/
def State.sealWrite (s : State) (bank : Bank) : State :=
  { s with vault := { s.vault with toStore := s.vault.toStore ++ [Look.ownedRecords (Bank.get s.otp.vaultFuse bank)] } }

/-- The staged bank of a commit that is not armed yet is discarded (R307, R318): its descriptor is held again, its transaction open again unless it is rolled back. -/
def State.unstage (s : State) (rollback : Bool) : State :=
  let back := fun (s : State) (f : FlipSt) =>
    let fresh := fun (d : Desc) => if some d.id = f.id then { d with taken := false } else d
    let cfg := { s.cfg with flip := none, waitReady := none, armAt := none, txn := if rollback then none else f.txn }
    { s with cfg := cfg, host := { s.host with inflight := s.host.inflight.map fresh } }
  match s.cfg.flip, s.cfg.waitReady with
  | some f, _ => if f.sealing then back s f else s
  | none, some f => if f.id.isSome then back s f else s
  | none, none => s

/-- The settled level of the seal switch changes (R368, R373). -/
def State.sealTurn (s : State) (before : Bool) : State :=
  if s.otp.vaultFuse = true ∧ s.vault.mode = .running ∧ s.sealOpen ≠ before then s.audit (if s.sealOpen then 3 else 4) none else s

/-! ### Inhibit reasons -/

/-- Records not acknowledged (R377). -/
def State.unacked (s : State) : List (W32 × List W32) :=
  match s.vault.acked with
  | none => s.vault.records
  | some v => s.vault.records.filter (fun r => decide (v.toNat < r.1.toNat))

/-- A check of an owned core stands (R375). -/
def State.ownedCheck (s : State) : Bool :=
  [60, 61, 62, 63].any (fun n => let c := s.coreOf n; c.ref.standing || c.supply.standing || c.tCrit.standing || decide (s.cfgv Fld.cnvScanMask n 0 / 256 ≠ 15))
    || [30, 31].any (fun k => (s.pairOf k).standing)

/-- The group of an owned core is not on the schedule or has another period (R366). -/
def State.periodMismatch (s : State) : Bool :=
  let c : Look := s.cfgv
  [60, 61, 62, 63].any (fun n => !c.scheduled (c.coreGroup n) || decide (c.period (c.coreGroup n) ≠ nsTq (c Fld.vaultPeriodNs 0 0)))

/-- A unit that issues records (R378). -/
def State.issues (s : State) : Bool := decide (s.twin.role = .active ∨ s.twin.role = .solo)

/-- INHIBIT of VAULT_STATUS but for NOT_ACTIVE (R375). -/
def State.inhibits (s : State) : List Bool :=
  [decide (s.vault.mode ≠ .running), !s.otp.trimGood, s.ownedCheck, s.periodMismatch, s.cfg.bad, decide (65536 ≤ s.unacked.length), false,
   s.seizeIn || decide (s.twin.role = .seized)]

/-- A reason other than NOT_ACTIVE stands. -/
def State.inhibited (s : State) : Bool := s.inhibits.any id

/-- INHIBIT as bits. -/
def State.inhibitBits (s : State) : Nat :=
  maskOf ((List.range 8).filter (fun b => s.inhibits.getD b false)) + (if s.issues || decide (s.twin.role = .seized) then 0 else 64)

/-! ### Intervals -/

/-- The open interval of a platform. -/
def State.intervalOf (s : State) (p : Nat) : Option Interval := Cells.get (fun _ => none) s.vault.intervals p
/-- Replace the open interval of a platform. -/
def State.setInterval (s : State) (p : Nat) (i : Option Interval) : State :=
  { s with vault := { s.vault with intervals := Cells.set (fun _ => none) s.vault.intervals p i } }

/-- A reason that stands now counts for every open interval (R375). -/
def State.vaultTaint (s : State) : State :=
  if s.inhibited then s.each [0, 1, 2, 3] (fun p t => t.setInterval p ((t.intervalOf p).map (fun i => { i with inhibited := true }))) else s

/-- Cells of a platform (R374). -/
def Look.cells (c : Look) (p : Nat) : List Nat := (bitsOf 32 (c Fld.vaultPlatformCells p 0)).map (fun k => 480 + k)

/-- VAULT_INHIBIT_COUNT. -/
def State.inhibitCount (s : State) : State := s.bump 0x60010

/-- A standby holds a result, up to 4,096 (R378). -/
def State.holdResult (s : State) (r : WeighSt) : State :=
  let l := s.vault.heldRes ++ [r]
  ({ s with vault := { s.vault with heldRes := l.drop (l.length - 4096) } } : State).doIf (decide (4096 < l.length)) State.inhibitCount

/-- A weighing result goes to the record or is held (R375, R378). -/
def State.weighed (s : State) (r : WeighSt) : State :=
  if s.issues then { s with vault := { s.vault with ready := s.vault.ready ++ [r] } } else s.holdResult r

/-- MASS and WD of a used sum (R374). -/
def massOf (total : Int) (k : Nat) (span d : Nat) : Int × Int :=
  let m := roundHalfEven total k
  let mass := roundHalfEven (m * span) 2147483648
  (mass, roundHalfEven mass d)

/-- The result of an interval that closes (R374, R376): interrupted by a hole, a flip or a WARM reset, or overlong. -/
def State.resultOf (s : State) (p : Nat) (i : Interval) (tExit : Nat) (epoch : BitVec 16) (interrupted overlong : Bool) : WeighSt :=
  let c : Look := s.cfgv
  let settle := c Fld.vaultPlatformSettle p 0
  let d := c Fld.vaultPlatformDMg p 0
  let k := i.nets.length - 2 * settle
  let used := (i.nets.reverse.drop settle).take k
  let short := decide (k < c Fld.vaultPlatformMinOutputs p 0)
  let mw := if short then (0, 0) else massOf (used.foldl (fun a x => a + x.1) 0) k (c Fld.vaultPlatformSpanMg p 0) d
  let bad := (used.filter (fun x => x.2)).length
  let st := maskOf ((if i.sealOpen then [0] else []) ++ (if bad ≠ 0 then [1] else []) ++ (if short then [2] else [])
    ++ (if mw.1 > (c Fld.vaultPlatformMaxMg p 0 : Int) + 9 * d then [3] else []) ++ (if mw.1 < -(20 * d : Int) then [4] else [])
    ++ (if interrupted then [5] else []) ++ (if i.unlocked then [6] else []) ++ (if overlong then [7] else []))
  { platform := p, tEntry := i.tEntry, tExit := tExit, epoch := epoch, status := BitVec.ofNat 16 st, mass := mw.1, wd := mw.2, k := k,
    markedN := bad, event := s.sv.eventCount }

/-- An interval closes: it gives a result, or only counts when a reason other than NOT_ACTIVE stood (R375). -/
def State.closeInterval (s : State) (p : Nat) (i : Interval) (tExit : Nat) (epoch : BitVec 16) (interrupted overlong : Bool) : State :=
  let s := s.setInterval p none
  if i.inhibited || s.inhibited then s.inhibitCount else s.weighed (s.resultOf p i tExit epoch interrupted overlong)

/-- Open intervals of the listed platforms close at their last output (R374). -/
def State.interruptWeighing (s : State) (ps : List Nat) : State :=
  s.each ps (fun p t => match t.intervalOf p with
    | some i => t.closeInterval p i i.tLast t.epoch true false
    | none => t)

/-- Platforms with a cell in a group. -/
def Look.platformsIn (c : Look) (g : Nat) : List Nat := [0, 1, 2, 3].filter (fun p => (c.cells p).any (fun i => c.chanGroup i == g))

/-- A hole of a group (R124, R374). -/
def State.vaultHole (s : State) (g : Nat) : State := s.interruptWeighing (Look.platformsIn s.cfgv g)

/-- One output of a platform: net, whether it counts as marked, its time (R374). -/
def State.weigh (s : State) (p : Nat) (net : Int) (marked : Bool) (t : Nat) (epoch : BitVec 16) : State :=
  let c : Look := s.cfgv
  let level := signedOf 32 (c Fld.vaultPlatformOccLevel p 0)
  let unlocked := decide (s.ff.mode ≠ .locked) && decide (c Fld.fireflyRole 0 0 ≠ 0)
  let add := fun (i : Interval) => { i with tLast := t, nets := (net, marked) :: i.nets, sealOpen := i.sealOpen || s.sealFlag, unlocked := i.unlocked || unlocked, inhibited := i.inhibited || s.inhibited }
  match s.intervalOf p with
  | none => if level ≤ net then s.setInterval p (some (add ⟨t, t, [], false, false, false⟩)) else s
  | some i =>
    if net < level - (c Fld.vaultPlatformOccHyst p 0 : Int) then
      s.closeInterval p { i with sealOpen := i.sealOpen || s.sealFlag, unlocked := i.unlocked || unlocked } t epoch false false
    else if 65535 ≤ i.nets.length + 1 then s.closeInterval p (add i) t epoch false true
    else s.setInterval p (some (add i))

/-- The outputs of a group's frame (channel, tap, value, marks) reach the weighing unit (R374). -/
def State.vaultFrame (s : State) (g t : Nat) (epoch : BitVec 16) (outs : List (Nat × Nat × Int × Marks)) : State :=
  if s.otp.vaultFuse then
    let c : Look := s.cfgv
    s.vaultTaint.each (c.platformsIn g) (fun p u =>
      let cells := c.cells p
      let ys := cells.filterMap (fun i => (outs.find? (fun o => decide (o.1 = i ∧ o.2.1 = c Fld.vaultPlatformTap p 0))).map (fun o => (o.2.2.1, o.2.2.2)))
      if c Fld.vaultPlatformEnable p 0 = 1 ∧ ys.length = cells.length then
        u.weigh p (ys.foldl (fun a y => a + y.1) 0 - signedOf 64 (c Fld.vaultPlatformZero p 0))
          (ys.any (fun y => y.2.getLsbD 0 || y.2.getLsbD 1 || y.2.getLsbD 2)) t epoch
      else u)
  else s

/-! ### Twins (R378) -/

/-- The unit becomes active: what no VAULT_SYNC frame reported is issued. A takeover marks the intervals entered at or before it. -/
def State.vaultTake (s : State) (takeover : Bool) : State :=
  if s.otp.vaultFuse then
    let v := s.vault
    let t := if takeover then some s.nowNs else v.tTake
    let late := (v.ready ++ v.heldRes).filter (fun r => v.lastSync.all (fun x => decide (x < r.tExit)))
    { s with vault := { v with ready := late, heldRes := [], tTake := t } }
  else s

end Sys2Proof.Machine
end

