-- ==== Sys2Proof/Machine/Streams.lean ====
section
/-! DEFINITION. Streams: assembly, closing, placing, overflow, gap records, delivery into buffers (R139 to R158, R303), the lanes' choice of packets (R204), and the stream commands. -/

namespace Sys2Proof.Machine

open Sys2Proof

/-! ### Space -/

/-- Where a closed data packet of a size is placed (R150, R152, R154): some false in the FIFO, some true in spill, none when it fits neither. The 256 B for a gap record stay free. -/
def State.roomFor (s : State) (x size : Nat) : Option Bool :=
  let st := s.strmOf x
  let spillRoom := s.cfgOn Fld.streamSpill x && decide (s.spillUsed + size ≤ s.cfgv Fld.spillMaxMib 0 0 * 1048576)
  let data := st.bytesOf (fun p => !p.spilled && p.gap.isNone)
  if st.spillBytes = 0 ∧ data + size + 256 ≤ s.cfgv Fld.streamFifoKib x 0 * 1024 then some false
  else if spillRoom then some true
  else none

/-! ### Roles -/

/-- The unit delivers streams and captures (Table 13-1, R356). -/
def State.delivers (s : State) : Bool :=
  decide (s.twin.role = .solo ∨ s.twin.role = .active) && !s.twin.resumeWait && s.canDma

/-- The unit writes a stream's packets: it delivers, or a former active still delivers what it had cut before a swap (R357). -/
def State.deliversNow (s : State) (x : Nat) : Bool :=
  s.delivers || (s.canDma && (match (s.strmOf x).handover, (s.strmOf x).queue with
    | some h, p :: _ => decide ((h - p.seq).toNat < 2147483648)
    | _, _ => false))

/-- SEQ b lies at or before SEQ a. -/
def seqCovers (a b : W32) : Bool := decide ((a - b).toNat < 2147483648)

/-- A packet or gap record a former active had cut before a swap, whose form is decided only now (R357). -/
def State.stillCuts (s : State) (e : SyncEntry) : Bool :=
  decide (e.kind.val ≤ 1) && (s.strmOf e.index.val).handover.any (fun h => seqCovers h e.seq)

/-- The active reports an event to its standby (R351); a former active still reports the packets it had cut (R357). -/
def State.report (s : State) (e : SyncEntry) : State :=
  if s.twin.role = .active ∨ s.stillCuts e = true then s.sendOn 2 .twin (.streamSync [e]) else s

/-- Stream number as an entry's index. -/
def idx64 (x : Nat) : Fin 64 := Fin.ofNat 64 x

/-! ### Losses (R154 to R157) -/

/-- The first instant after a tail that can be lost. -/
def TailSt.from_ (t : TailSt) : Tq := if t.open_ then nsTq t.t else nsTq t.t + 65535

/-- The first frame number after a tail that can be lost. -/
def TailSt.first (t : TailSt) : Nat := if t.open_ then t.k else t.k + 1

/-- A loss that begins behind a tail; with none, T_START is 0. -/
def StreamSt.lossFrom (st : StreamSt) (t : Option TailSt) (cause detail : Nat) : LossSt :=
  match t with
  | some t => { cause := BitVec.ofNat 8 cause, detail := BitVec.ofNat 8 detail, tStart := t.t, from_ := t.from_, first := t.first, until_ := none, epoch := none, counted := none }
  | none => { cause := BitVec.ofNat 8 cause, detail := BitVec.ofNat 8 detail, tStart := 0, from_ := 0, first := st.floor, until_ := none, epoch := none, counted := none }

/-- A loss of a cause begins at a frame number and time: one continuous loss of one cause is one record, and an adjoining loss of another cause begins where the earlier one ends (R157). -/
def StreamSt.beginLoss (st : StreamSt) (cause detail bK : Nat) (bT : Tq) : StreamSt :=
  match st.losses.getLast? with
  | none => { st with losses := [st.lossFrom st.tail cause detail] }
  | some l =>
    if l.cause = BitVec.ofNat 8 cause ∧ l.detail = BitVec.ofNat 8 detail ∧ l.until_ = none then st
    else
      let n : LossSt := { cause := BitVec.ofNat 8 cause, detail := BitVec.ofNat 8 detail, tStart := tqNs bT, from_ := nsTq (tqNs bT), first := bK, until_ := none, epoch := none, counted := none }
      { st with losses := st.losses.dropLast ++ [{ l with until_ := l.until_.orElse (fun _ => some (bK, bT)) }, n] }

/-- FIRST_LOST_FRAME and FRAMES_LOST of a loss that ends at a frame (R157): the tap's output positions (k + 1) mod C = 0 of the grid in force from its first instant up to its end in schedule mode, or of the strobed frame numbers in event mode, those from before the numbers began again included. -/
def Look.lossCount (c : Look) (x : Nat) (l : LossSt) (endK : Nat) (endT : Tq) : Nat × Nat :=
  let g := c.strmGroup x
  let d := max 1 (c.strmDec x)
  let a := if c.scheduled g then (if l.tStart = 0 then max (c.firstEdge g l.from_ true) l.first else c.firstEdge g l.from_ true) else l.first
  let b := if c.scheduled g then c.firstEdge g endT true else endK
  let n := b / d - a / d
  match l.counted with
  | some c => (c.1, c.2 + n)
  | none => ((a / d + 1) * d - 1, n)

/-- A loss as it stands when event-mode frame numbers go on at another number (R47): what it has lost by then in event mode, up to a frame number, stays counted. -/
def Look.renumber (c : Look) (x : Nat) (l : LossSt) (endK : Option Nat) (start : Nat) : LossSt :=
  if l.until_.isSome then l
  else
    match endK with
    | some k => let n := c.lossCount x l k 0; { l with first := start, counted := if n.2 = 0 then none else some n }
    | none => { l with first := start }

/-- Pending losses of a group's streams when its frames are numbered by events from a number on; endK: the next event-mode number until now, none: it ran on its schedule. -/
def State.renumberLosses (s : State) (g : Nat) (endK : Option Nat) (start : Nat) : State :=
  s.each ((List.range 64).filter (fun x => s.cfgOn Fld.streamEnable x && (Look.strmGroup s.cfgv x == g))) (fun x t =>
    t.updStrm x (fun st => { st with losses := st.losses.map (fun l => Look.renumber t.cfgv x l endK start) }))

/-- The gap record of a loss that ends at a frame. -/
def State.gapOf (s : State) (x : Nat) (l : LossSt) (endK : Nat) (endT : Tq) : GapInfo :=
  let e := l.until_.getD (endK, endT)
  let n := Look.lossCount s.cfgv x l e.1 (nsTq (tqNs e.2))
  { tStart := l.tStart, tEnd := tqNs e.2, lost := n.2, first := n.1, cause := l.cause, detail := l.detail, endK := e.1 }

/-- A packet of a stream as its settings make it, empty; frames held uncut from before a commit keep the settings they came under (R158). -/
def State.newPacket (s : State) (x : Nat) (epoch : BitVec 16) : Packet :=
  let c : Look := s.cfgv
  match (s.strmOf x).form with
  | some p => { p with epoch := epoch, frames := [], closedAt := s.tm.up }
  | none =>
  { stream := x, seq := 0, epoch := epoch, channels := (c.strmChannels x).length, marksOn := s.cfgOn Fld.streamMarks x,
    timesOn := !c.scheduled (c.strmGroup x), level := s.cfgv Fld.streamCmpLevel x 0, delta := s.cfgOn Fld.streamCmpPre x,
    sign := s.cfgOn Fld.streamSign x, frames := [], gap := none, closedAt := s.tm.up, lane := none, settled := false,
    packed := none, signature := none, damaged := false, spilled := false }

/-- A gap record as a packet. -/
def State.gapPacket (s : State) (x : Nat) (seq : W32) (g : GapInfo) : Packet :=
  { s.newPacket x s.epoch with seq := seq, gap := some g, marksOn := false, timesOn := false, level := 0, settled := true }

/-! ### Placing -/

/-- Count a placed gap record and report it (R157, R351). -/
def State.countGap (s : State) (x : Nat) (p : Packet) (g : GapInfo) : State :=
  let a := Reg.stream x 0x18
  let t := (s.bump (Reg.stream x 0x10)).setReg64 a (min (s.reg64 a + g.lost) 18446744073709551615)
  (t.setBit (Reg.stream x 0) 15).report ⟨1, g.cause, g.detail, idx64 x, p.seq, g.first, g.lost⟩

/-- Number and time of a packet's last frame, or of the frame that ends a gap record. -/
def Packet.tailOf (p : Packet) : Option TailSt :=
  match p.gap with
  | some g => some ⟨g.endK, g.tEnd, true, p.epoch⟩
  | none => p.frames.getLast?.map (fun f => ⟨f.k, f.t, false, f.epoch⟩)

/-- Put a packet behind the queue. -/
def StreamSt.enqueue (st : StreamSt) (p : Packet) : StreamSt :=
  { st with queue := st.queue ++ [p], placed := p.tailOf }

/-- A pending loss as one that begins where an adjoining one before it ends (R157): at its own first lost frame. -/
def Look.beginAt (c : Look) (x : Nat) (l : LossSt) : LossSt :=
  let g := c.strmGroup x
  if l.tStart = 0 then l
  else if c.scheduled g then
    let k := c.firstEdge g l.from_ true
    let t := tqNs (c.edgeT g k)
    { l with tStart := t, from_ := nsTq t, first := k }
  else l

/-- A loss and those behind it as adjoining ones, in time order: each ends where the next begins; two of one cause are one (R157). -/
def adjoin : LossSt → List LossSt → List LossSt
  | l, [] => [l]
  | l, m :: rest =>
    if l.cause = m.cause ∧ l.detail = m.detail ∧ m.counted = none then adjoin { l with until_ := m.until_ } rest
    else { l with until_ := some (m.first, m.from_) } :: adjoin m rest

/-- A gap record that is taken back before it was placed, as the loss it recorded. -/
def Look.lossOf (c : Look) (x : Nat) (g : GapInfo) : LossSt :=
  let t := if c.scheduled (c.strmGroup x) then tqNs (c.edgeT (c.strmGroup x) g.first) else g.tStart
  { cause := g.cause, detail := g.detail, tStart := t, from_ := nsTq t, first := g.first, until_ := some (g.endK, nsTq g.tEnd), epoch := none, counted := none }

/-- A host stall that begins at a held frame. -/
def stallAt (f : PktFrame) : LossSt :=
  { cause := 1, detail := 0, tStart := f.t, from_ := nsTq f.t, first := f.k, until_ := none, epoch := none, counted := none }

/-- What a held packet becomes when the packet before it overflows (R154): its frames are lost with it, a gap record stays a loss of its own cause. -/
def Look.heldLoss (c : Look) (x : Nat) (p : Packet) : List LossSt :=
  match p.gap with
  | some g => [c.lossOf x g]
  | none => (p.frames.head?.map stallAt).toList

/-- The record that ends a stream after UNIT_FATAL (R464) takes the SEQ of a packet that fits nowhere, and goes back to the last packet placed. -/
def State.endRecord (s : State) (x : Nat) (p last : Packet) : State :=
  let st := s.strmOf x
  let q := { last with seq := p.seq, gap := last.gap.map (fun g => { g with tStart := (st.placed.map (fun t => t.t)).getD 0 }) }
  s.setStrm x { st with closing := [q], openPkt := none, seqNext := p.seq + 1, losses := [], flushSeq := some p.seq }

/-- A packet fits nowhere (R154): it is discarded with every later frame held, its SEQ is free again, and the loss begins behind the last packet placed. DESIGN CHOICE (assumption 95): a pending flush whose packet is discarded ends with it, without a buffer retiring (R149). -/
def State.overflowAt (s : State) (x : Nat) (p : Packet) : State :=
  let c : Look := s.cfgv
  let st := s.strmOf x
  let rest := (st.closing.drop 1 ++ st.openPkt.toList).flatMap (c.heldLoss x)
  let flushed := st.closing.any (fun q => decide (some q.seq = st.flushSeq))
  match st.closing.find? (fun q => q.gap.any (fun g => decide (g.cause = 6))) with
  | some last => s.endRecord x p last
  | none =>
    s.setStrm x { st with closing := [], openPkt := none, seqNext := p.seq, overflow := true, resume := false,
                          losses := adjoin (st.lossFrom st.placed 1 0) ((rest ++ st.losses).map (c.beginAt x)), tail := st.placed,
                          flush := st.flush && !flushed, flushSeq := if flushed then none else st.flushSeq }

/-- A memory error takes a packet (R154): a gap record of cause MEMORY_ERROR takes its place and its SEQ, up to the next frame held or to the loss a gap record behind it records; when nothing later is held, the record waits for the next frame. -/
def State.memoryGap (s : State) (x : Nat) (p : Packet) (rest : List Packet) (detail : Nat) : State :=
  let c : Look := s.cfgv
  let st := s.strmOf x
  let l := st.lossFrom st.placed 4 detail
  let flushed := decide (some p.seq = st.flushSeq)
  let s := s.setBit (Reg.stream x 0) 13
  match (rest ++ st.openPkt.toList).flatMap (c.heldLoss x) with
  | n :: _ =>
    let g := s.gapOf x l n.first n.from_
    let q := s.gapPacket x p.seq g
    let back := match rest with
      | r :: rs => (match r.gap with
        | some h => { r with gap := some { h with tStart := tqNs n.from_ } } :: rs
        | none => rest)
      | [] => rest
    (s.setStrm x { st.enqueue q with closing := back }).countGap x q g
  | [] =>
    s.setStrm x { st with closing := rest, seqNext := p.seq, losses := adjoin l (st.losses.map (c.beginAt x)), tail := st.placed,
                          flush := st.flush && !flushed, flushSeq := if flushed then none else st.flushSeq }

/-- Place the head of the closing packets when its form as sent is decided. -/
def State.placeHead (s : State) (x : Nat) : State :=
  let st := s.strmOf x
  match st.closing with
  | [] => s
  | p :: rest =>
    if !p.settled then s
    else
      match p.gap with
      | some g => (s.setStrm x { st.enqueue p with closing := rest }).countGap x p g
      | none =>
        let room := if s.isStandby then some ((s.roomFor x p.size).getD true) else s.roomFor x p.size
        match room with
        | none => s.overflowAt x p
        | some spill =>
          let region := if spill then 2 else 1
          let bad := s.memError region
          let s := s.memWrite region
          if bad = 2 ∧ p.packed.isNone ∧ s.isStandby = false then s.underInj true (fun t => t.memoryGap x p rest (region - 1))
          else
            let q := { p with spilled := spill, damaged := decide (bad = 2) }
            let s := s.setStrm x { st.enqueue q with closing := rest }
            let s := s.doIf spill (fun t => (t.setBit (Reg.stream x 0) 14).hiveFit)
            s.report ⟨0, 0, 0, idx64 x, q.seq, (q.frames.head?.map (fun f => f.k)).getD 0, q.frames.length⟩

/-- Place every closed packet whose turn has come. -/
def State.placeAll : Nat → State → Nat → State
  | 0, s, _ => s
  | f + 1, s, x =>
    match (s.strmOf x).closing with
    | p :: _ => if p.settled then State.placeAll f (s.placeHead x) x else s
    | [] => s

/-- Put a gap record behind the closing packets and take the next SEQ. -/
def State.pushGap (s : State) (x : Nat) (l : LossSt) (endK : Nat) (endT : Tq) : State :=
  let st := s.strmOf x
  let p := { s.gapPacket x st.seqNext (s.gapOf x l endK endT) with epoch := l.epoch.getD s.epoch }
  s.setStrm x { st with closing := st.closing ++ [p], seqNext := st.seqNext + 1 }

/-! ### Buffers (R151, R303) -/

/-- The buffer that is being filled. -/
def StreamSt.buffer (st : StreamSt) : Option StreamBuf := st.bufs.find? (fun b => !b.done)

/-- Change a buffer by its descriptor. -/
def StreamSt.updBuf (st : StreamSt) (id : Nat) (f : StreamBuf → StreamBuf) : StreamSt :=
  { st with bufs := st.bufs.map (fun b => if b.id = id then f b else b) }

/-- Drop a buffer. -/
def StreamSt.dropBuf (st : StreamSt) (id : Nat) : StreamSt := { st with bufs := st.bufs.filter (fun b => b.id != id) }

/-- A buffer with packets retires with OK: bytes, first SEQ, packets; the active posts its completion once the standby has acknowledged it (R151, R353). -/
def State.retireBuf (s : State) (x : Nat) (b : StreamBuf) : State :=
  match s.descOf b.id with
  | none => s
  | some d =>
    let last := (b.held.getLast?.map (fun p => p.seq)).getD b.first
    let e : SyncEntry := ⟨2, 0, 0, idx64 x, last, 0, 0⟩
    let s := s.updStrm x (fun st => { st.updBuf b.id (fun c => { c with done := true }) with retired := some last })
    let s := if s.twin.role = .active then ({ s with twin := { s.twin with awaiting := s.twin.awaiting ++ [⟨b.id, e, s.tm.up⟩] } } : State).report e else s
    s.retire d 0 0 [BitVec.ofNat 32 b.used, b.first, BitVec.ofNat 32 b.count]

/-- A buffer retires without data. -/
def State.retireEmpty (s : State) (x : Nat) (b : StreamBuf) (status : Nat) : State :=
  match s.descOf b.id with
  | none => s
  | some d => (s.updStrm x (fun st => st.dropBuf b.id)).retireBad d status

/-- Retire buffers whose remaining space the next closed packet does not fit (R151). -/
def State.bufSettle : Nat → State → Nat → State
  | 0, s, _ => s
  | f + 1, s, x =>
    match (s.strmOf x).buffer, (s.strmOf x).queue with
    | some b, p :: _ =>
      if s.deliversNow x ∧ p.settled ∧ b.len < b.used + p.size then
        State.bufSettle f (if b.count = 0 then s.retireEmpty x b 0x0210 else s.retireBuf x b) x
      else s
    | _, _ => s

/-- Write the oldest packet into the buffer in hand. -/
def State.fillBuf (s : State) (x : Nat) (b : StreamBuf) (p : Packet) : State :=
  let bytes := p.bytes (fun i => BitVec.setWidth 8 (Config.freeWord (s.freeCtr + i)))
  let s := s.hostWrite (b.addr + b.used) bytes
  let s := if p.damaged then { s with freeCtr := s.freeCtr + p.sent.length } else s
  s.updStrm x (fun st =>
    { st.updBuf b.id (fun c => { c with used := c.used + p.size, count := c.count + 1, first := if c.count = 0 then p.seq else c.first, held := c.held ++ [p] })
      with queue := st.queue.drop 1 })

/-- A packet may leave: its form is decided, it is signed where it must be (R388). -/
def Packet.ready (p : Packet) : Bool := p.settled && (!p.sign || p.signature.isSome)

/-- A packet a former standby found damaged, its samples lost (R352). -/
def Packet.lostForm (p : Packet) : Bool := p.damaged && p.packed.isNone && p.gap.isNone

/-- A packet a former standby found damaged is replaced at delivery (R352). -/
def State.replaceDamaged (s : State) (x : Nat) : State :=
  let st := s.strmOf x
  match st.queue with
  | p :: rest =>
    if p.lostForm then
      let l := { st.lossFrom none 4 (if p.spilled then 1 else 0) with tStart := ((st.bufs.flatMap (fun b => b.held)).getLast?.bind Packet.tailOf |>.map (fun t => t.t)).getD 0 }
      match ((rest ++ st.closing).findSome? (fun q => q.frames.head?)).orElse (fun _ => st.openPkt.bind (fun q => q.frames.head?)) with
      | some f =>
        let g : GapInfo := { s.gapOf x l f.k (nsTq f.t) with lost := p.frames.length, first := (p.frames.head?.map (fun f => f.k)).getD 0 }
        let q := { s.gapPacket x p.seq g with spilled := p.spilled }
        ((s.setStrm x { st with queue := q :: rest }).countGap x q g).setBit (Reg.stream x 0) 13
      | none => s
    else s
  | [] => s

/-- After UNIT_FATAL the buffers behind the one that took the end of the stream retire with UNIT_FAILED (R464). -/
def State.endBufs (s : State) (x : Nat) : State :=
  if s.log.fatal then s.each ((s.strmOf x).bufs.filter (fun b => !b.done)) (fun b t => t.retireEmpty x b 0x0007) else s

/-- One packet has been written into the buffer in hand; the buffer retires when a flush completes on it or the next packet does not fit (R149, R151). -/
def State.deliverPacket (s : State) (x : Nat) : State :=
  let s := s.replaceDamaged x
  match (s.strmOf x).buffer, (s.strmOf x).queue with
  | some b, p :: _ =>
    if p.ready ∧ b.used + p.size ≤ b.len ∧ p.lostForm = false then
      let s := s.fillBuf x b p
      if (s.strmOf x).flushSeq = some p.seq then
        let s := s.updStrm x (fun st => { st with flush := false, flushSeq := none })
        match (s.strmOf x).buffer with
        | some c => (s.retireBuf x c).endBufs x
        | none => s
      else s.bufSettle ((s.strmOf x).bufs.length + 1) x
    else s
  | _, _ => s

/-! ### Closing and appending -/

/-- Settle a stream's closed packets after a change: lanes, places, buffers. -/
def State.streamSettle (s : State) (x : Nat) : State :=
  let s := s.assignAll
  let s := State.placeAll ((s.strmOf x).closing.length + 1) s x
  s.bufSettle ((s.strmOf x).bufs.length + 1) x

/-- The open packet closes (R146, R147), unless the configuration is BAD (R325) or the frames held are still to be cut by a former active (R357): it takes the next SEQ; a stream that compresses waits for a lane (R202), but a standby holds packets uncompressed (R352). -/
def State.closePacket (s : State) (x : Nat) : State :=
  let st := s.strmOf x
  match st.openPkt with
  | none => s
  | some p =>
    if s.cfg.bad || st.awaitCut.isSome then s
    else if p.frames.isEmpty then s.setStrm x { st with openPkt := none }
    else
      let q := { p with seq := st.seqNext, closedAt := s.tm.up, settled := decide (p.level = 0) || s.isStandby }
      let fl := if st.flush ∧ st.flushSeq.isNone then some st.seqNext else st.flushSeq
      let s := s.setStrm x { st with openPkt := none, closing := st.closing ++ [q], seqNext := st.seqNext + 1, flushSeq := fl, flushCut := false }
      s.streamSettle x

/-- Write the gap records of every pending loss; the last one ends at a frame (R154, R157). -/
def State.writeGaps (s : State) (x endK : Nat) (endT : Tq) : State :=
  let ls := (s.strmOf x).losses
  let s := s.each ls (fun l t => t.pushGap x l endK endT)
  (s.updStrm x (fun st => { st with losses := [], overflow := false, resume := false })).streamSettle x

/-- The frame follows the stream's last one without a hole or loss (R147). -/
def StreamSt.follows (st : StreamSt) (k d : Nat) : Bool :=
  match st.tail with
  | some t => if t.open_ then decide (k = t.k) else decide (k = t.k + d)
  | none => false

/-- A frame joins the frames a standby holds uncut: it opens a run of its own behind a commit that changed the stream (R158, R352). -/
def State.holdFrame (s : State) (x : Nat) (epoch : BitVec 16) (f : PktFrame) : State :=
  let st := s.strmOf x
  let tail := some ⟨f.k, f.t, false, f.epoch⟩
  let add := fun (p : Packet) => { p with frames := p.frames ++ [f] }
  match st.openPkt with
  | none => s.setStrm x { st with openPkt := some (add (s.newPacket x epoch)), openedUp := s.tm.up, tail := tail, split := false }
  | some p =>
    if st.split then s.setStrm x { st with held := st.held ++ [add (s.newPacket x epoch)], tail := tail, split := false }
    else
      match st.held.getLast? with
      | some q => s.setStrm x { st with held := st.held.dropLast ++ [add q], tail := tail }
      | none => s.setStrm x { st with openPkt := some (add p), tail := tail }

/-- Put a frame into the open packet, opening one when there is none. -/
def State.putFrame (s : State) (x : Nat) (epoch : BitVec 16) (f : PktFrame) : State :=
  let st := s.strmOf x
  let p := st.openPkt.getD (s.newPacket x epoch)
  let up := if st.openPkt.isNone then s.tm.up else st.openedUp
  s.setStrm x { st with openPkt := some { p with frames := p.frames ++ [f] }, openedUp := up, tail := some ⟨f.k, f.t, false, f.epoch⟩ }

/-- The closing rules behind an appended frame (R147, R149); a standby waits for the cut (R352). -/
def State.closeIfFull (s : State) (x : Nat) : State :=
  let st := s.strmOf x
  let n := (st.openPkt.map (fun p => p.frames.length)).getD 0
  if !s.isStandby && (decide (s.cfgv Fld.streamFramesPerPacket x 0 ≤ n) || st.flushCut) then s.closePacket x else s

/-- One frame of a stream (R139): while the stream overflows it is dropped; otherwise pending losses end at it and it is appended (R147, R154, R157). -/
def State.appendFrame (s : State) (x k : Nat) (edge : Tq) (epoch : BitVec 16) (samples : List (Int × Marks)) : State :=
  let st := s.strmOf x
  let f : PktFrame := ⟨k, tqNs edge, epoch, samples⟩
  if s.cfgOn Fld.streamEnable x = false then s
  else if st.overflow ∧ st.resume = false then s.updStrm x (fun st => st.beginLoss 1 0 k edge)
  else if decide (k < st.skipTo.getD 0) then s
  else
    let s := s.updStrm x (fun st => { st with skipTo := none })
    let cut := !st.follows k (Look.strmDec s.cfgv x) || decide (st.openPkt.any (fun p => decide (p.epoch ≠ epoch)) = true) || !st.losses.isEmpty
    if s.isStandby || (s.strmOf x).awaitCut.isSome then s.holdFrame x epoch f
    else
      let s := if cut then s.closePacket x else s
      if (s.strmOf x).overflow ∧ (s.strmOf x).resume = false then s
      else
        let s := if (s.strmOf x).losses.isEmpty then s else s.writeGaps x k edge
        (s.putFrame x epoch f).closeIfFull x

/-- Close every open packet of a set of streams (R147, R158). -/
def State.closeStreams (s : State) (xs : List Nat) : State :=
  s.each xs (fun x t => if t.isStandby || (t.strmOf x).awaitCut.isSome then t.updStrm x (fun st => { st with split := true }) else t.closePacket x)

/-- The enabled streams of a group. -/
def State.streamsOf (s : State) (g : Nat) : List Nat :=
  (List.range 64).filter (fun x => s.cfgOn Fld.streamEnable x && (Look.strmGroup s.cfgv x == g))

/-- DETAIL that stands for an epoch adoption (R236) among the losses of a group. -/
def adoptionDetail : Nat := 256

/-- The loss of an epoch adoption (R236): T_START 0, counted on the new grid from the adoption on, with every tie to earlier frames cut. -/
def StreamSt.adoptionLoss (st : StreamSt) (bK : Nat) (bT : Tq) : StreamSt :=
  let l : LossSt := { cause := 3, detail := 0, tStart := 0, from_ := bT, first := bK, until_ := none, epoch := none, counted := none }
  { st with losses := st.losses ++ [l], tail := none, floor := bK, skipTo := none }

/-- A loss begins on every enabled stream of a group at once; the open packet closes (R41, R156, R236). -/
def State.loseNow (s : State) (g cause detail bK : Nat) (bT : Tq) : State :=
  s.each (s.streamsOf g) (fun x t => (t.closeStreams [x]).updStrm x (fun st =>
    if detail = adoptionDetail then st.adoptionLoss bK bT else st.beginLoss cause detail bK bT))

/-- A loss begins on every enabled stream of a group, behind a frame that is still converting and will be delivered (R507). -/
def State.loseGroup (s : State) (g cause detail bK : Nat) (bT : Tq) : State :=
  match (s.grpOf g).frame with
  | some f => if f.undelivered then s.loseNow g cause detail bK bT else s.updGrp g (fun x => { x with deferred := x.deferred ++ [(cause, detail, bK, bT)] })
  | none => s.loseNow g cause detail bK bT

/-- Begin the losses deferred behind the frame that has completed. -/
def State.loseDeferred (s : State) (g : Nat) : State :=
  let ds := (s.grpOf g).deferred
  (s.updGrp g (fun x => { x with deferred := [] })).each ds (fun d t => t.loseNow g d.1 d.2.1 d.2.2.1 d.2.2.2)

/-- Fill posted buffers with the closed packets of a stream that is being disabled (R303). A packet found damaged is replaced (R352); with no frame behind it to end its record it is discarded as what is left of the stream is. -/
def State.drainStream : Nat → State → Nat → State
  | 0, s, _ => s
  | f + 1, s, x =>
    let s := s.replaceDamaged x
    match (s.strmOf x).buffer, (s.strmOf x).queue with
    | some b, p :: _ =>
      if p.lostForm then State.drainStream f (s.updStrm x (fun st => { st with queue := st.queue.drop 1 })) x
      else if b.used + p.size ≤ b.len then State.drainStream f (s.fillBuf x b p) x
      else State.drainStream f (if b.count = 0 then s.retireEmpty x b 0x0210 else s.retireBuf x b) x
    | _, _ => s

/-- A closed packet in its form as sent, compressed unless that makes it longer (R145, R201, R202). -/
def Packet.settleForm (p : Packet) : Packet :=
  if p.settled then p
  else
    let packed := p.deflated
    { p with settled := true, lane := none, packed := if 4 * p.payload.length < packed.length then none else some packed }

/-- Decide the form of every closed packet of a stream at once: compressed, signed where it must be. -/
def State.settleNow (s : State) (x : Nat) : State :=
  let fix := fun (p : Packet) =>
    let p := p.settleForm
    { p with signature := if p.sign ∧ s.sv.withheld = false then some (s.signBlock 2 1 (Config.sha384 (wordBytes (p.headMasked ++ p.payload ++ [p.crc])))) else none }
  let st := s.strmOf x
  let open_ := (st.closing ++ st.queue).filter (fun p => !p.settled)
  let n := if s.sv.withheld then 0 else ((st.closing ++ st.queue).filter (fun p => p.sign && p.signature.isNone)).length
  let s := (s.bumpBy 0x6800C n).each open_ (fun p t => t.cmpPacket p)
  { s.setStrm x { st with closing := st.closing.map fix, queue := st.queue.map fix } with comp :=
      { s.comp with lanes := s.comp.lanes.map (fun l => match l with
          | .packet y => if y = x then .free else l
          | _ => l) } }

/-- The end of a stream that is being disabled (R303): its closed packets go into its posted buffers, a buffer with packets retires with OK, the others with STREAM_DISABLED, and what is left is discarded. -/
def State.endStream (s : State) (x : Nat) : State :=
  let s := if s.delivers then s.drainStream ((s.strmOf x).queue.length + (s.strmOf x).bufs.length + 2) x else s
  let s := s.each (s.strmOf x).bufs (fun b t => if b.done then t else if b.count = 0 then t.retireEmpty x b 0x0201 else t.retireBuf x b)
  let keep := (s.strmOf x).bufs
  s.setStrm x { StreamSt.init with bufs := keep }

/-- The unit would deliver, and only the host keeps it from writing (R307: everything waits as for a stalled host). -/
def State.hostWaits (s : State) : Bool := decide (s.twin.role = .solo ∨ s.twin.role = .active) && !s.delivers

/-- A stream is disabled (R147, R148, R303): while the host stalls, its closed packets and posted buffers wait for the writes. -/
def State.disableStream (s : State) (x : Nat) : State :=
  let s := ((s.closeStreams [x]).settleNow x)
  let s := s.placeAll ((s.strmOf x).closing.length + 1) x
  let st := s.strmOf x
  if s.hostWaits && st.buffer.isSome && !st.queue.isEmpty then
    s.setStrm x { StreamSt.init with bufs := st.bufs, queue := st.queue, retired := st.retired, ending := true }
  else s.endStream x

/-- Streams whose end waited for the host come to it. -/
def State.endStreams (s : State) : State :=
  s.each (s.strm.map (fun e => e.1)) (fun x t => t.doIf (t.strmOf x).ending (fun t => t.endStream x))

/-! ### Commands -/

/-- PACKET_MAX_AGE (R147): MAX_AGE ms have passed since the first frame's ready time. -/
def execPacketMaxAge (x : Fin 64) (s : State) : Out :=
  let age := s.cfgv Fld.streamMaxAge x 0
  if age = 0 ∨ s.isStandby = true ∨ (s.strmOf x).openPkt.isNone = true then .next s
  else .next ((s.reachUp ((s.strmOf x).openedUp + age * 1000000)).closePacket x)

/-- GAP_RECORD_WRITE (R154): free space reaches the largest packet; in schedule mode the record names the stream's next frame as its end at once, otherwise it waits for that frame. -/
def execGapRecordWrite (x : Fin 64) (s : State) : Out :=
  let c : Look := s.cfgv
  let st := s.strmOf x
  let g := c.strmGroup x
  let d := max 1 (c.strmDec x)
  if st.overflow = false ∨ st.resume = true ∨ s.cfgOn Fld.streamEnable x = false ∨ (s.roomFor x (c.largestPacket x)).isNone = true then .next s
  else if c.scheduled g && decide ((s.grpOf g).mode = .running) && st.losses.getLast?.any (fun l => decide (l.cause = 1)) then
    let k := ((s.grpOf g).nextK / d + 1) * d - 1
    let t := c.edgeT g k
    let s := s.writeGaps x k t
    .next (s.updStrm x (fun st => { st with tail := some ⟨k, tqNs t, true, s.epoch⟩, skipTo := some k }))
  else .next (s.setStrm x { st with resume := true })

/-- What Svetron signs of a packet (Table 15-2, context 1). -/
def Packet.signed (p : Packet) : List Byte := wordBytes (p.headMasked ++ p.payload ++ [p.crc])

/-- Packets and gap records that wait for a signature. -/
def State.signWait (s : State) : List (Nat × Packet) :=
  s.strm.flatMap (fun e => ((e.2.queue ++ e.2.closing).filter (fun p => p.sign && p.signature.isNone)).map (fun p => (e.1, p)))

/-- A weight record waits for its signature, which goes before all others (R376, R388). -/
def State.weightWaits (s : State) : Bool :=
  s.otp.vaultFuse && decide (s.vault.mode = .running) && s.issues && !s.sv.withheld && !s.vault.ready.isEmpty

/-- A weight record, a packet or a gap record waits for its signature (R388). -/
def State.packetsWait (s : State) : Bool := s.weightWaits || (!s.sv.withheld && !s.signWait.isEmpty)

/-- PACKET_SIGNED (R388, R399): behind weight records, in close order over all streams, unless keys are withheld. -/
def execPacketSigned (x : Fin 64) (s : State) : Out :=
  if s.weightWaits || s.sv.withheld then .next s else
  match oldestOf s.signWait with
  | none => .next s
  | some (y, p) =>
    if y = x.val then
      .next (((s.bump 0x6800C).updStrm y (fun st => st.updPacket p.seq (fun q => { q with signature := some (s.signBlock 2 1 (Config.sha384 p.signed)) }))).streamSettle y)
    else .next s

/-- PACKET_DMA_DONE (R151): the oldest closed packet has been written into the buffer in hand. -/
def execPacketDmaDone (x : Fin 64) (s : State) : Out :=
  if s.deliversNow x then .next (s.deliverPacket x) else .next s

/-- STREAM_BUF (R151, R303): a buffer is posted to a stream, or retires at once when the stream is not enabled or the buffer is shorter than its largest packet. -/
def execStreamBuf (id : Nat) (s : State) : Out :=
  s.serve id 0x20 (fun d s =>
    let x := field (d.p 0) 5 0
    if s.cfgOn Fld.streamEnable x = false then s.retireBad d 0x0201
    else if d.len < Look.largestPacket s.cfgv x then s.retireBad d 0x0210
    else
      let b : StreamBuf := { id := id, addr := d.addr, len := d.len, used := 0, first := 0, count := 0, held := [], done := false }
      (s.take id).updStrm x (fun st => { st with bufs := st.bufs ++ [b] }))

/-- One stream's flush (R149): the open packet closes at once, or after the stream's next frame when it holds none. -/
def State.flushStream (s : State) (x : Nat) : State :=
  let st := s.strmOf x
  if s.cfgOn Fld.streamEnable x = false ∨ s.isStandby = true ∨ st.flush = true then s
  else
    let s := s.setStrm x { st with flush := true, flushSeq := none, flushCut := st.openPkt.isNone }
    s.closePacket x

/-- STREAM_FLUSH (R149): a write to STREAM_FLUSH_LO or STREAM_FLUSH_HI. -/
def execStreamFlush (high : Bool) (w : W32) (s : State) : Out :=
  .next (s.each (bitsOf 32 w.toNat) (fun i t => t.flushStream (if high then 32 + i else i)))

end Sys2Proof.Machine
end

