-- ==== Sys2Proof/Machine/Compress.lean ====
section
/-! DEFINITION. The compression engine: stream packets on lanes, bypass and fallback, and the host's COMPRESS and DECOMPRESS jobs (chapter 08, R294 to R296). -/

namespace Sys2Proof.Machine

open Sys2Proof

/-- Send a closed packet uncompressed (R204). -/
def State.bypass (s : State) (x : Nat) (p : Packet) : State :=
  let s := ((s.bump 0x40004).setBit Reg.cmpStatus 8).leaveLane p
  (s.updStrm x (fun st => st.updPacket p.seq (fun p => { p with settled := true, lane := none }))).streamSettle x

/-- A lane finishes a packet (R145, R202): the compressed payload replaces the original unless it is longer. -/
def State.packetCompressed (s : State) (x : Nat) (p : Packet) : State :=
  let q := p.settleForm
  let f := fun (r : Packet) => { r with settled := true, lane := none, packed := q.packed }
  (((s.cmpPacket p).leaveLane p).updStrm x (fun st => st.updPacket p.seq f)).streamSettle x

/-- PACKET_COMPRESSED (R202, R204): a staging error bypasses the packet. -/
def execPacketCompressed (lane : Fin 4) (eccError : Bool) (s : State) : Out :=
  match s.comp.lanes.getD lane .free with
  | .packet x =>
    match (s.strmOf x).onLane lane with
    | some p =>
      let injected := decide (s.memError 3 = 2)
      let s := s.memWrite 3
      if eccError || injected then .next ((s.setBit Reg.cmpStatus 10).bypass x p)
      else .next (s.packetCompressed x p)
    | none => .next ((s.setLane lane .free).streamSettle x)
  | _ => .next s

/-- CMP_BYPASS (R204): no lane has taken the stream's oldest closed packet 100 µs after its close. -/
def execCmpBypass (x : Fin 64) (s : State) : Out :=
  match ((s.strmOf x).queue ++ (s.strmOf x).closing).find? (fun p => !p.settled && p.lane.isNone) with
  | some p => .next ((s.reachUp (p.closedAt + 100000)).bypass x p)
  | none => .next s

/-! ### Host jobs -/

/-- A job's parameters are refused (R205). -/
def Desc.jobBad (d : Desc) : Bool :=
  let chBad := d.jobDelta && decide (d.jobCh = 0 ∨ 512 < d.jobCh)
  if d.op = 0x30 then
    decide (d.jobLevel = 0 ∨ 9 < d.jobLevel) || d.jobPacket || chBad || (d.jobDelta && decide (d.jobSrcLen % (4 * max 1 d.jobCh) ≠ 0))
  else !d.jobPacket && chBad

/-- A host job failed (Tables 8-5, 8-6): the last one's status stands in CMP_LAST_ERROR. -/
def State.jobFailed (s : State) (status : Nat) : State := (s.setReg 0x40024 (BitVec.ofNat 32 status)).setBit Reg.cmpStatus 9

/-- The destination of a failed job holds undefined data up to its length (R208). -/
def State.spoil (s : State) (d : Desc) : State :=
  let t := s.descWrite d ((List.range d.len).map (fun i => BitVec.setWidth 8 (Config.freeWord (s.freeCtr + i))))
  { t with freeCtr := t.freeCtr + d.len }

/-- The lane of a job's chain. -/
def State.jobLane (s : State) (d : Desc) : Nat := ((s.comp.jobs.find? (fun j => j.id == d.id)).bind (fun j => j.lane)).getD 0

/-- A job leaves the engine; with CHAIN it leaves its history, or its failure, to the next job of its ring (R206, R208). -/
def State.jobLeaves (s : State) (d : Desc) (failed : Bool) (history : List Byte) : State :=
  let c : ChainSt := { id := d.id, ring := d.ring, inflate := decide (d.op = 0x31), failed := failed, history := history.take 32768, lane := s.jobLane d }
  let s := s.dropJob d.id
  if d.flag 2 && !d.jobPacket then { s with comp := { s.comp with chains := s.comp.chains ++ [c] } } else s

/-- A job that failed whole retires (R208, R210). -/
def State.jobError (s : State) (d : Desc) (status : Nat) (res : List W32) : State :=
  ((((s.spoil d).bump 0x40020).jobFailed status).jobLeaves d true []).retire d status 0 res

/-- A job that failed with a status outside Table 8-3: a signature (R296) or a read of its source (R294). -/
def State.jobRefused (s : State) (d : Desc) (status : Nat) : State := ((s.jobFailed status).jobLeaves d true []).retireBad d status

/-- A failed signature check (R296). -/
def State.jobSigBad (s : State) (d : Desc) : State := (s.spoil d).jobRefused d 0x0530

/-- Output written behind what a job has written so far (R205). -/
def State.jobWrite (s : State) (d : Desc) (done : Nat) (out : List Byte) : State := s.hostWrite (d.addr + done) (out.drop done)

/-- The end of a COMPRESS job that has written so many bytes (R205 to R208). -/
def State.compressJob (s : State) (d : Desc) (done : Nat) (hist src : List Byte) : State :=
  let plain := if d.jobDelta then deltaBlock d.jobCh (wordsOf src) else src
  let out := deflate d.jobLevel (!d.flag 2) hist plain
  if d.len < out.length then s.jobError d 0x0410 []
  else
    let s := ((s.jobWrite d done out).cmpBytes src.length out.length).jobLeaves d false (plain.reverse ++ hist)
    s.retireOk d [BitVec.ofNat 32 out.length, BitVec.ofNat 32 src.length, crc32c src]

/-- Result words of a decompressor error: BIT_OFFSET, OUT_BYTES, the computed CRC-32C. -/
def errWords (off out : Nat) (crc : W32) : List W32 := two off ++ [BitVec.ofNat 32 out, crc]

/-- How a DECOMPRESS job decodes its source: bytes of the source in front of its stream and the stream itself, the bound on its output, whether it is DEFLATE, what stands in front of the output in the destination, and whether a transform has to be undone behind it. -/
structure InfPlan where
  front  : Nat
  body   : List Byte
  lim    : Nat
  packed : Bool
  head   : List Byte
  delta  : Bool
deriving DecidableEq, Repr

/-- The plan of a job in RAW mode (R205, R387): with SIGN the source ends in a signature block of 104 B. -/
def Desc.rawPlan (d : Desc) (src : List Byte) : InfPlan :=
  { front := 0, body := if d.flag 3 then src.take (d.jobSrcLen - 104) else src,
    lim := if d.jobOrigLen = 0 then d.len else min d.len d.jobOrigLen, packed := true, head := [], delta := d.jobDelta }

/-- The header of a packet as a source of a job (R209): its words, payload bytes, compressed, signed, DELTA, and the bytes behind its payload. -/
structure PacketHead where
  words    : List W32
  frames   : Nat
  channels : Nat
  orig     : Nat
  packed   : Bool
  signed   : Bool
  delta    : Bool
  tail     : Nat
deriving DecidableEq, Repr

/-- Read a packet's header. -/
def packetHead (src : List Byte) : PacketHead :=
  let h := wordsOf (src.take 32)
  let fmt := field (wordAt h 1) 7 0
  let frames := field (wordAt h 5) 31 16
  let channels := field (wordAt h 5) 15 0
  let packed := (wordAt h 6).getLsbD 1
  let signed := (wordAt h 6).getLsbD 2
  { words := h, frames := frames, channels := channels, orig := payloadBytes frames channels (decide (fmt % 2 = 1)) (decide (fmt / 2 % 2 = 1)),
    packed := packed, signed := signed, delta := packed && (wordAt h 7).getLsbD 8, tail := if signed then 108 else 4 }

/-- The header of a packet behind LENGTH as it was before compression (R209). -/
def PacketHead.masked (h : PacketHead) : List W32 :=
  (h.words.drop 1).take 5 ++ [wordAt h.words 6 &&& ~~~(2 : W32), wordAt h.words 7 &&& ~~~(256 : W32)]

/-- A FORMAT of Table 6-1 that is no gap record. -/
def dataFormat (f : Nat) : Bool := decide (0x10 ≤ f ∧ f ≤ 0x13)

/-- The bit offset at which a packet's header is refused (R209, R210). -/
def PacketHead.bad (h : PacketHead) (n : Nat) : Option Nat :=
  if (wordAt h.words 0).toNat ≠ n ∨ n < 32 + h.tail then some 0
  else if field (wordAt h.words 1) 31 16 ≠ 0x5A48 ∨ dataFormat (field (wordAt h.words 1) 7 0) = false then some 32
  else none

/-- The plan of a job in PACKET mode (R209). -/
def Desc.packetPlan (d : Desc) (src : List Byte) (h : PacketHead) : InfPlan :=
  { front := 32, body := (src.drop 32).take (d.jobSrcLen - 32 - h.tail), lim := min h.orig (d.len - 32 - h.tail), packed := h.packed,
    head := wordBytes (BitVec.ofNat 32 (32 + h.orig + h.tail) :: h.masked), delta := h.delta }

/-- Decode as far as a bound. -/
def InfPlan.run (p : InfPlan) (chain : Bool) (hist : List Byte) (bound : Nat) : InfRes × Bool :=
  let lim := min p.lim bound
  if p.packed then inflate p.body lim chain hist
  else if lim < p.body.length then (.err ⟨0x0422, 8 * lim⟩ ⟨8 * lim, (p.body.take lim).reverse, lim⟩, false)
  else (.ok ⟨8 * p.body.length, p.body.reverse, p.body.length⟩, false)

/-- Where decoding ended, and what it gave. -/
def InfRes.st : InfRes → InfSt
  | .ok st => st
  | .err e st => { st with pos := e.at_ }

/-- A DECOMPRESS job in RAW mode that has written so many bytes comes to its end (R206, R207, R210, R296, R387). -/
def State.inflateRaw (s : State) (d : Desc) (done : Nat) (hist whole : List Byte) : State :=
  let n := d.jobSrcLen
  let plan := d.rawPlan whole
  match plan.run (d.flag 2) hist plan.lim with
  | (.err e st, _) => s.jobError d e.code (errWords (if e.code = 0x0424 then 8 * n else e.at_) st.n 0)
  | (.ok st, ended) =>
    if (d.jobOrigLen ≠ 0 ∧ st.n < d.jobOrigLen) ∨ (d.jobDelta = true ∧ st.n % (4 * d.jobCh) ≠ 0) then s.jobError d 0x0426 (errWords (8 * n) st.n 0)
    else
      let out := if d.jobDelta then wordBytes (undeltaBlock d.jobCh st.output) else st.output
      let crc := crc32c out
      let pub := Config.p384Public (s.deviceKey 2)
      if d.flag 3 = false ∧ d.jobCheck = true ∧ crc ≠ d.p 6 then s.jobError d 0x0430 (errWords (8 * n) st.n crc)
      else if d.flag 3 = true ∧ blockVerifies (whole.drop (n - 104)) 2 5 pub (Config.sha384 out) = false then s.jobSigBad d
      else
        let s := ((s.jobWrite d done out).cmpBytes out.length plan.body.length)
        let s := if ended then s.dropJob d.id else s.jobLeaves d false st.win
        s.retireOk d [BitVec.ofNat 32 out.length, BitVec.ofNat 32 n, crc]

/-- The sample block of a decoded payload with its transform undone (R201, R209). -/
def unpackPayload (delta : Bool) (frames channels : Nat) (bs : List Byte) : List Byte :=
  let m := 4 * frames * channels
  if delta then wordBytes (undeltaBlock channels (bs.take m)) ++ bs.drop m else bs

/-- A DECOMPRESS job in PACKET mode that has written so many bytes comes to its end (R209, R210, R296). -/
def State.inflatePacket (s : State) (d : Desc) (done : Nat) (src : List Byte) : State :=
  let n := d.jobSrcLen
  let h := packetHead src
  match h.bad n with
  | some off => s.jobError d 0x0427 (errWords off 0 0)
  | none =>
    let plan := d.packetPlan src h
    match (plan.run false [] plan.lim).1 with
    | .err e st => s.jobError d e.code (errWords (if e.code = 0x0424 then 8 * n else 256 + e.at_) st.n 0)
    | .ok st =>
      if st.n < h.orig ∨ d.len < 32 + h.orig + h.tail then s.jobError d 0x0426 (errWords (8 * n) st.n 0)
      else
        let out := unpackPayload h.delta h.frames h.channels st.output
        let crc := crc32c (wordBytes h.masked ++ out)
        let foot := src.drop (n - h.tail)
        let digest := Config.sha384 (wordBytes h.masked ++ out ++ foot.take 4)
        if wordBytes [crc] ≠ foot.take 4 then s.jobError d 0x0430 (errWords (8 * n) st.n crc)
        else if d.flag 3 = true ∧ (h.signed && blockVerifies (foot.drop 4) 2 1 (Config.p384Public (s.deviceKey 2)) digest) = false then s.jobSigBad d
        else
          let s := (s.jobWrite d done (plan.head ++ out ++ foot)).cmpBytes out.length plan.body.length
          (s.dropJob d.id).retireOk d [BitVec.ofNat 32 (32 + out.length + h.tail), BitVec.ofNat 32 n, crc]

/-- A job is accepted and waits for a lane, or is refused for its parameters (R205), which breaks the chain it would have continued. -/
def State.acceptJob (s : State) (d : Desc) : State :=
  if d.jobBad then ((s.chainPast d).jobLeaves d true []).retireBad d 0x0401
  else
    let j : JobSt := { id := d.id, taken := 0, data := [], chain := none, lane := none, src := [], out := 0 }
    ({ s with comp := { s.comp with jobs := s.comp.jobs ++ [j] } } : State).take d.id |>.assignAll

/-- COMPRESS (R205, R206). -/
def execCompress (id : Nat) (s : State) : Out := s.serve id 0x30 (fun d s => s.acceptJob d)

/-- DECOMPRESS (R205, R209). -/
def execDecompress (id : Nat) (s : State) : Out := s.serve id 0x31 (fun d s => s.acceptJob d)

/-- The history a job continues with. -/
def JobSt.history (j : JobSt) : List Byte := (j.chain.map (fun c => c.history)).getD []

/-- The front of a COMPRESS source of which every segment has been read, from a segment on. -/
def sourceFrom (data : List (Nat × List Byte)) : Nat → Nat → List Byte
  | 0, _ => []
  | f + 1, i =>
    match data.find? (fun e => e.1 == i) with
    | some e => e.2 ++ sourceFrom data f (i + 1)
    | none => []

/-- A lane has compressed a segment of 65,536 B of a job's source (R205): what the segments read so far decide of the output is written; the last one of all ends the job. With DELTA the first byte of the output depends on the whole source. -/
def State.compressSeg (s : State) (d : Desc) (j : JobSt) (seg : Nat) : State :=
  let off := segBytes * seg
  let n := min segBytes (d.jobSrcLen - off)
  if s.readOk (d.p64 0 + off) n = false then s.aerReport.jobRefused d 0x0003
  else
    let data := (seg, s.hostRead (d.p64 0 + off) n) :: j.data
    let front := sourceFrom data data.length 0
    if data.length = segsOf d.jobSrcLen then s.compressJob d j.out j.history front
    else
      let out := if d.jobDelta then [] else (deflateFront d.jobLevel j.history front).take d.len
      (s.jobWrite d j.out out).updJob d.id (fun j => { j with data := data, out := max j.out out.length })

/-- How a DECOMPRESS job decodes a source; none where its packet's header is refused. -/
def Desc.infPlan (d : Desc) (src : List Byte) : Option InfPlan :=
  if d.jobPacket then
    let h := packetHead src
    if (h.bad d.jobSrcLen).isNone then some (d.packetPlan src h) else none
  else some (d.rawPlan src)

/-- What a segment of a DECOMPRESS job comes to (R205): bytes of the source the engine has read by its end, and the bytes of the destination written by then; none of those where the segment is the job's last. With DELTA the first word of the output depends on the whole stream. -/
def Desc.infSegment (d : Desc) (hist src : List Byte) (seg : Nat) : Nat × Option (List Byte) :=
  match d.infPlan src with
  | none => (min 32 d.jobSrcLen, none)
  | some p =>
    let bound := segBytes * (seg + 1)
    match (p.run (d.flag 2 && !d.jobPacket) hist p.lim).1 with
    | .ok st =>
      if bound < st.n then (p.front + ((p.run (d.flag 2 && !d.jobPacket) hist bound).1.st.pos + 7) / 8, some (if p.delta then [] else p.head ++ st.output.take bound))
      else (d.jobSrcLen, none)
    | .err e st =>
      if bound < st.n then (p.front + ((p.run (d.flag 2 && !d.jobPacket) hist bound).1.st.pos + 7) / 8, some (if p.delta then [] else p.head ++ st.output.take bound))
      else (min d.jobSrcLen (p.front + (e.at_ + 7) / 8), none)

/-- A lane has decompressed a segment of 65,536 B of a job's output (R205): the segments of one job follow each other, each reads on in the source and writes on in the destination, and the one in which its output ends, or fails, ends the job. -/
def State.inflateSeg (s : State) (d : Desc) (j : JobSt) (seg : Nat) : State :=
  let src := j.src ++ s.hostRead (d.p64 0 + j.src.length) (d.jobSrcLen - j.src.length)
  let r := d.infSegment j.history src seg
  if s.readOk (d.p64 0 + j.src.length) (r.1 - j.src.length) = false then s.aerReport.jobRefused d 0x0003
  else
    match r.2 with
    | some out => (s.jobWrite d j.out out).updJob d.id (fun j => { j with src := src.take (max j.src.length r.1), out := max j.out out.length })
    | none => if d.jobPacket then s.inflatePacket d j.out src else s.inflateRaw d j.out j.history src

/-- COMPRESSION_JOB_DONE (R197, R204 to R210): a lane finishes its segment of a host job and becomes free; with the job's last segment the job ends. Nothing is read or written while the hub may issue no request (R307). -/
def execCompressionJobDone (lane : Fin 4) (s : State) : Out :=
  match s.comp.lanes.getD lane .free with
  | .job id seg =>
    if s.canDma = false then .next s
    else
      let s := s.setLane lane .free
      match s.descOf id, s.comp.jobs.find? (fun j => j.id == id) with
      | some d, some j => .next (if d.op = 0x30 then s.compressSeg d j seg else s.inflateSeg d j seg).assignAll
      | _, _ => .next s.assignAll
  | _ => .next s

end Sys2Proof.Machine
end

