-- ==== Sys2Proof/Machine/Mantis.lean ====
section
/-! DEFINITION. Mantis: conditions (R167 to R169), trigger units (R170 to R173), capture units and jobs (R174 to R189), line triggers (R190 to R193) and their commands. -/

namespace Sys2Proof.Machine

open Sys2Proof

/-! ### Conditions -/

/-- L, U and H of a condition as exact numbers (R168). -/
def State.condLevels (s : State) (c : Nat) : Int × Int × Int :=
  (s.cfgInt Fld.condLevel c, s.cfgInt Fld.condLevelHi c, (s.cfgv Fld.condHyst c 0 : Int))

/-- Truth and arming after an output (Table 7-1). -/
def condTable (typ : Nat) (l u h y : Int) (marked val armed : Bool) : Bool × Bool :=
  match typ with
  | 0 => (if l ≤ y then true else if y < l - h then false else val, armed)
  | 1 => (if y < l then true else if l + h ≤ y then false else val, armed)
  | 2 => if armed && decide (l ≤ y) then (true, false) else (false, armed || decide (y < l - h))
  | 3 => if armed && decide (y < l) then (true, false) else (false, armed || decide (l + h ≤ y))
  | 4 => (if l ≤ y ∧ y < u then true else if y < l - h ∨ u + h ≤ y then false else val, armed)
  | 5 => (if y < l ∨ u ≤ y then true else if l + h ≤ y ∧ y < u - h then false else val, armed)
  | _ => (marked, armed)

/-- One output of a condition's tap (R167 to R169). -/
def State.condOutput (s : State) (c : Nat) (y : Int) (m : Marks) (t : Tq) : State :=
  let typ := s.cfgv Fld.condType c 0
  let x := s.condOf c
  if decide (typ ≠ 6) && s.cfgOn Fld.condIgnoreMarked c && (m.getLsbD 1 || m.getLsbD 2) then s
  else
    let v := s.condLevels c
    let marked := decide (m &&& BitVec.ofNat 4 (s.cfgv Fld.condMarks c 0) ≠ 0)
    let r := condTable typ v.1 v.2.1 v.2.2 y marked x.val x.armed
    s.setCond c { val := r.1, armed := r.2, last := ((y, t) :: x.last).take 2, rose := r.1 && !x.val }

/-- Group of a condition. -/
def State.condGroup (s : State) (c : Nat) : Nat := Look.chanGroup s.cfgv (s.cfgv Fld.condChannel c 0)

/-- Enabled conditions of a group. -/
def State.condsOf (s : State) (g : Nat) : List Nat :=
  (List.range 64).filter (fun c => s.cfgOn Fld.condEnable c && decide (s.condGroup c = g))

/-- The conditions of a group see the tap outputs of a frame: channel, tap, output, marks. -/
def State.condFrame (s : State) (g : Nat) (outs : List (Nat × Nat × Int × Marks)) (t : Tq) : State :=
  s.each (s.condsOf g) (fun c a =>
    let a := a.updCond c (fun x => { x with rose := false })
    match outs.find? (fun o => o.1 == a.cfgv Fld.condChannel c 0 && o.2.1 == a.cfgv Fld.condTap c 0) with
    | some o => a.condOutput c o.2.2.1 o.2.2.2 t
    | none => a)

/-- All 64 conditions as a word, bit c for condition c (R170). -/
def State.condWord (s : State) : Nat := maskOf ((List.range 64).filter (fun c => s.cfgOn Fld.condEnable c && (s.condOf c).val))

/-- Conditions and trigger units of a group return to their state of R169 and R172, at a start and at a hole. -/
def State.mantisReset (s : State) (g : Nat) : State :=
  let s := s.each (s.condsOf g) (fun c t => t.setCond c .init)
  s.each ((List.range 16).filter (fun u => s.cfgv Fld.trigGroup u 0 == g)) (fun u t => t.updTrig u (fun x => { TrigSt.init with forced := x.forced }))

/-! ### Trigger units -/

/-- MASK and VALUE of a pattern field; a pattern with MASK 0 never matches (R170). -/
def patternMatches (pattern conds : Nat) : Bool :=
  let mask := pattern % 18446744073709551616
  let value := pattern / 18446744073709551616
  decide (mask ≠ 0) && decide (((conds &&& mask) ^^^ value) &&& mask = 0)

/-- A trigger unit enters a step at a time. -/
def TrigSt.enter (x : TrigSt) (step : Nat) (t : Tq) : TrigSt := { x with step := step, tEntry := some t, count := 0 }

/-- One frame of a SEQUENCE unit (R172): its next state and whether it fires. -/
def State.sequenceStep (s : State) (u conds : Nat) (t : Tq) : TrigSt × Bool :=
  let x := s.trigOf u
  let entry := x.tEntry.getD t
  let x := { x with tEntry := some entry }
  let within := s.cfgv Fld.trigStepWithinNs u x.step
  if patternMatches (s.cfgv Fld.trigResetPattern u 0) conds then (x.enter 0 t, false)
  else if within ≠ 0 ∧ x.step ≠ 0 ∧ entry + nsTq within < t then (x.enter 0 t, false)
  else
    let hit := patternMatches (s.cfgv Fld.trigStepPattern u x.step) conds
    let n := if hit ∧ entry + nsTq (s.cfgv Fld.trigStepMinNs u x.step) ≤ t then x.count + 1
             else if hit = false ∧ s.cfgv Fld.trigStepConsec u x.step = 1 then 0 else x.count
    if s.cfgv Fld.trigStepCount u x.step ≤ n then
      if s.cfgv Fld.trigSteps u 0 ≤ x.step + 1 then (x.enter 0 t, true) else (x.enter (x.step + 1) t, false)
    else ({ x with count := n }, false)

/-- The crossing of a condition that became true on this frame (R173): none when its type is not interpolated or it has no earlier output. -/
def State.crossing (s : State) (c : Nat) : Option Tq :=
  let x := s.condOf c
  let typ := s.cfgv Fld.condType c 0
  let l := s.cfgInt Fld.condLevel c
  if x.rose ∧ typ ≤ 3 then
    match x.last with
    | [(_, t1)] => some t1
    | (y1, t1) :: (y0, t0) :: _ =>
      let up := typ % 2 == 0
      let num := if up then l - y0 else y0 - l
      let den := if up then y1 - y0 else y0 - y1
      some ((t0 : Int) + roundHalfEven (((t1 : Int) - t0) * num) den.toNat).toNat
    | [] => none
  else none

/-- A trigger on its way to the capture units: sources as bits of R174, trigger point, interpolated, origin of a line trigger. -/
structure TrigEvent where
  bits   : Nat
  point  : Tq
  interp : Bool
  origin : BitVec 16
deriving DecidableEq, Repr

/-- The trigger point of a firing on a frame (R173, R176): that of a forced firing is the strobe time; only a condition of the unit's own group becomes true on that frame. -/
def State.firePoint (s : State) (u : Nat) (t : Tq) (forced : Bool) : Tq × Bool :=
  let c := s.cfgv Fld.trigTimingCond u 0
  if forced ∨ 64 ≤ c ∨ s.cfgOn Fld.condEnable c = false ∨ s.condGroup c ≠ s.cfgv Fld.trigGroup u 0 then (t, false)
  else
    match s.crossing c with
    | some p => (p, true)
    | none => (t, false)

/-- The unit drives excitation and captures (R338, R341, R342). -/
def State.capLive (s : State) : Bool := decide (s.twin.role = .solo ∨ s.twin.role = .active)

/-! ### Frames of a window (R181) -/

/-- Edge of grid instant k of a stored grid. -/
def gridEdge (g : Tq × Tq) (k : Nat) : Tq := placeEdge (g.1 + k * g.2)

/-- The first grid instant of a stored grid whose edge is at or after a time. -/
def gridFirst (g : Tq × Tq) (t : Tq) : Nat :=
  let k := if t ≤ g.1 + 1024 then 0 else (t - 1024 - g.1) / max 1 g.2
  if t ≤ gridEdge g k then k else if t ≤ gridEdge g (k + 1) then k + 1 else if t ≤ gridEdge g (k + 2) then k + 2 else k + 3

/-- The grid of a group in schedule mode. -/
def State.gridOf (s : State) (g : Nat) : Option (Tq × Tq) :=
  if Look.scheduled s.cfgv g then some (Look.start s.cfgv g, Look.period s.cfgv g) else none

/-- The grids of a group with the time up to which each holds, oldest first; the last one holds now (R157, R181). -/
def State.gridSpans (s : State) (g : Nat) : List (Option Tq × Option (Tq × Tq)) :=
  (s.grpOf g).oldGrids.map (fun e => (some e.1, e.2)) ++ [(none, s.gridOf g)]

/-- Grid instants of a group from one time up to another, each with its edge; before: where the earlier grid ended. At most as many as asked. -/
def gridInstants (lo hi : Tq) (limit : Nat) : Tq → List (Option Tq × Option (Tq × Tq)) → List (Nat × Tq)
  | _, [] => []
  | before, (upto, g) :: rest =>
    let here := match g with
      | some g =>
        let a := gridFirst g (max lo before)
        let b := gridFirst g (match upto with
          | some u => min u (hi + 1)
          | none => hi + 1)
        (List.range (min limit (b - a))).map (fun i => (a + i, gridEdge g (a + i)))
      | none => []
    here ++ gridInstants lo hi limit (upto.getD before) rest

/-- The first grid instant at or after a time, on the grid that holds there. -/
def gridNext (t : Tq) : Tq → List (Option Tq × Option (Tq × Tq)) → Option (Nat × Tq)
  | _, [] => none
  | before, (upto, g) :: rest =>
    match g with
    | some g =>
      let k := gridFirst g (max t before)
      if upto.all (fun u => decide (gridEdge g k < u)) then some (k, gridEdge g k) else gridNext t (upto.getD before) rest
    | none => gridNext t (upto.getD before) rest

/-- Frames of a group strobed in an epoch, as the Hive and what it has lost name them. -/
def State.strobedIn (s : State) (g : Nat) (epoch : BitVec 16) : List (Nat × Tq) :=
  (if epoch = s.epoch then s.hiveLostOf g else []) ++ (s.hive.filter (fun f => decide (gidx f.group = g ∧ f.epoch = epoch))).map (fun f => (f.k, f.edge))

/-- The first strobe instant of a group at or after a time, where the grids that held or the frames strobed tell it (R189). -/
def State.firstStrobe (s : State) (g : Nat) (grids : List (Option Tq × Option (Tq × Tq))) (epoch : BitVec 16) (t : Tq) : Option (Nat × Tq) :=
  ((gridNext t 0 grids).toList ++ (s.strobedIn g epoch).filter (fun r => decide (t ≤ r.2))).foldl (fun b r => match b with
    | some x => if r.2 < x.2 then some r else b
    | none => some r) none

/-- A group's present grid becomes an earlier one: it held up to the last edge strobed on it (R157). -/
def State.keepGrid (s : State) (g : Nat) (grid : Option (Tq × Tq)) : State :=
  let x := s.grpOf g
  if x.strobed || x.hole then
    let old := x.oldGrids.filter (fun e => !s.mantis.jobs.isEmpty || decide (s.now ≤ e.1 + nsTq 4300000000))
    s.setGrp g { x with oldGrids := old ++ [(x.lastEdge + 1, grid)] }
  else s

/-- The oldest history of a group in the present epoch (R218). -/
def State.oldestHive (s : State) (g : Nat) : Option HiveFrame := s.hive.find? (fun f => decide (gidx f.group = g ∧ f.epoch = s.epoch))

/-- Copy what the Hive holds into a job (R183, R184). -/
def CapJob.copy (j : CapJob) (hive : List HiveFrame) : CapJob :=
  { j with frames := (j.frames ++ hive.filter j.wants).take (65535 - j.gone.length) }

/-- Every job copies, while the hub may issue requests. -/
def State.copyJobs (s : State) : State :=
  if s.canDma then { s with mantis := { s.mantis with jobs := s.mantis.jobs.map (fun j => j.copy s.hive) } } else s

/-- A job as a trigger or a CAPTURE_READ starts it (R184): the frames the history has lost already are noted. -/
def State.startJob (s : State) (j : CapJob) : State :=
  let late := match s.oldestHive j.group with
    | some f => f.edge + nsTq 100000
    | none => 0
  let gone := ((s.hiveLostOf j.group).reverse ++ ((s.hive.filter (fun f => decide (gidx f.group = j.group ∧ f.epoch = s.epoch) && decide (f.edge < late))).map (fun f => (f.k, f.edge)))).filter (fun r => j.covers r.2)
  let j := { j with late := late, gone := gone }
  ({ s with mantis := { s.mantis with jobs := s.mantis.jobs ++ [j] } } : State).copyJobs

/-! ### Capture units -/

/-- A unit enters ARMED (R180): the dead interval ends, when one runs. -/
def State.capEnterArmed (s : State) (u : Nat) : State :=
  let c := s.capOf u
  match c.deadFrom with
  | some t =>
    let d := min (s.nowNs - t) 0xFFFFFFFF
    (s.setCap u { c with mode := .armed, deadFrom := none, dead := d }).setReg (Reg.cap u 0x10) (BitVec.ofNat 32 d)
  | none => s.setCap u { c with mode := .armed }

/-- An idle unit with a descriptor in hand is armed, where the role lets it capture (R178, R341, R355). -/
def State.capArm (s : State) (u : Nat) : State :=
  if (s.capOf u).mode = .idle ∧ (s.capOf u).descs ≠ [] ∧ s.capLive = true then s.capEnterArmed u else s

/-- Every unit takes its held descriptors. -/
def State.capArmAll (s : State) : State := s.each (List.range 16) (fun u t => t.capArm u)

/-- Events of one cycle as one trigger (R179): the earliest point, every contributing source. -/
def mergeEvents (a b : TrigEvent) : TrigEvent :=
  { bits := a.bits ||| b.bits, point := min a.point b.point, interp := if b.point < a.point then b.interp else a.interp,
    origin := if a.origin = 0xFFFF then b.origin else a.origin }

/-- A job's window and sources as an event gives them (R179, R181). -/
def CapJob.at (j : CapJob) (e : TrigEvent) (pre post : Nat) (coalesced : Bool) : CapJob :=
  { j with tTrig := e.point, lo := e.point - nsTq pre, hi := e.point + nsTq post, sources := e.bits, origin := e.origin, interp := e.interp, coalesced := coalesced,
           late := 0, frames := [], gone := [] }

/-- An ARMED unit accepts a trigger (R178, R180, R181). -/
def State.capAccept (s : State) (u : Nat) (e : TrigEvent) (coalesced : Bool) : State :=
  let c := s.capOf u
  match c.descs with
  | [] => s
  | d :: rest =>
    let g := s.cfgv Fld.capGroup u 0
    let j : CapJob :=
      { unit := u, id := d, seq := c.seqNext, group := g, channels := s.cfgv Fld.capChannels u 0, tTrig := 0, lo := 0, hi := 0, epoch := s.epoch,
        sources := 0, origin := 0xFFFF, interp := false, coalesced := false, missed := c.missed, dead := c.dead, late := 0, frames := [], gone := [], grids := none, spans := [], tooLong := false }
    let j := j.at e (s.cfgv Fld.capPreNs u 0) (s.cfgv Fld.capPostNs u 0) coalesced
    let s := s.setCap u { c with mode := .window, descs := rest, seqNext := c.seqNext + 1, winEnd := j.hi, deadFrom := some s.nowNs, missed := 0, winGroup := g, hitTook := true }
    s.startJob j

/-- A further trigger in the cycle in which a unit accepted one joins it (R179). -/
def State.capJoin (s : State) (u : Nat) (e : TrigEvent) : State :=
  match s.mantis.jobs.find? (fun j => j.unit == u && j.seq == (s.capOf u).seqNext - 1) with
  | none => s
  | some j =>
    let m := mergeEvents { bits := j.sources, point := j.tTrig, interp := j.interp, origin := j.origin } e
    let k := j.at m (s.cfgv Fld.capPreNs u 0) (s.cfgv Fld.capPostNs u 0) true
    let s := { s with mantis := { s.mantis with jobs := s.mantis.jobs.filter (fun x => x.id != j.id) } }
    (s.updCap u (fun c => { c with winEnd := k.hi })).startJob k

/-- A trigger that reaches a unit in IDLE or WINDOW is missed (R180). -/
def State.capMiss (s : State) (u : Nat) : State :=
  let s := (s.bump (Reg.cap u 8)).setBit (Reg.cap u 0) 8
  s.updCap u (fun c => if c.deadFrom.isSome then { c with missed := c.missed + 1 } else c)

/-- A capture unit runs: its ENABLE is 1 and the configuration is not BAD (R195, R325). -/
def State.capOn (s : State) (u : Nat) : Bool := s.cfgOn Fld.capEnable u && !s.cfg.bad

/-- Time lies more than 2,147,483,647 ns from now (R183). -/
def State.tooFar (s : State) (t : Tq) : Bool := decide (nsTq 2147483647 < ((t : Int) - s.now).natAbs)

/-- The sources of an event that a unit lists; a firing that the host forced carries the force bit. -/
def TrigEvent.listed (e : TrigEvent) (sources : Nat) : Nat :=
  let b := e.bits &&& sources
  if b = 0 then 0 else b ||| (e.bits &&& 2 ^ 34)

/-- Triggers reach a unit's input (R179, R180): those of one cycle of the 1 GHz core clock count as one, whichever commands bring them; one too far from now is refused (R183). -/
def State.capTrigger (s : State) (u : Nat) (es : List TrigEvent) : State :=
  let sources := s.cfgv Fld.capSources u 0
  let hits := (es.filter (fun e => decide (e.listed sources ≠ 0) && !s.tooFar e.point)).map (fun e => { e with bits := e.listed sources, origin := if e.bits / 65536 % 65536 = 0 then 0xFFFF else e.origin })
  match hits with
  | [] => s
  | h :: rest =>
    if s.capOn u = false ∨ s.capLive = false then s
    else
      let e := rest.foldl mergeEvents h
      let c := s.capOf u
      let same := decide (c.hitUp = some s.tm.up)
      let many := same || !rest.isEmpty
      let s := s.doIf (many && !(same && c.hitMany)) (fun t => t.bump (Reg.cap u 0xC))
      let s := s.setCap u { c with hitUp := some s.tm.up, hitMany := many, hitTook := same && c.hitTook }
      if same then (if c.hitTook then s.capJoin u e else s)
      else if c.mode = .armed then s.capAccept u e many
      else s.capMiss u

/-- The triggers of one cycle reach every unit. -/
def State.capDeliver (s : State) (es : List TrigEvent) : State :=
  if es.isEmpty then s else s.each (List.range 16) (fun u t => t.capTrigger u es)

/-! ### Line triggers -/

/-- A line trigger frame counts among the last 256 received or originated (R193). -/
def State.ltrigSeen (s : State) (f : LineTrig) : State :=
  { s with mantis := { s.mantis with seen := ((f.origin, f.seq, f.tq) :: s.mantis.seen).take 256 } }

/-- Whether a line trigger frame equals one of the last 256 (R193). -/
def State.ltrigDuplicate (s : State) (f : LineTrig) : Bool := s.mantis.seen.contains (f.origin, f.seq, f.tq)

/-- Send a line trigger frame on a port (R194); stamped: the hub originates it while FIREFLY.TXTS_LTRIG is 1 (R243). -/
def State.ltrigSend (s : State) (p : Nat) (f : LineTrig) (stamped : Bool) : State := s.sendOn p .trigger (.lineTrigger f stamped)

/-- A firing originates a line trigger of its class (R190): held back inside HOLDOFF_US. Answers the event for the hub's own units. -/
def State.originate (s : State) (c : Nat) (point : Tq) : State × List TrigEvent :=
  let last := Cells.get (fun _ => 0) s.mantis.lastSent c
  if s.capLive = false then (s, [])
  else if last ≠ 0 ∧ s.tm.up + 1 < last + s.cfgv Fld.ltrigHoldoffUs c 0 * 1000 then (s.bump 0x38614, [])
  else
    let seq := s.mantis.trigSeq + 1
    let node := BitVec.ofNat 16 (s.cfgv Fld.mantisNodeId 0 0)
    let f : LineTrig := { cls := Fin.ofNat 16 c, hopsLeft := BitVec.ofNat 16 (s.cfgv Fld.ltrigReach c 0), origin := node, epoch := s.epoch, seq := seq, tq := point }
    let m := { s.mantis with trigSeq := seq, lastSent := Cells.set (fun _ => 0) s.mantis.lastSent c (s.tm.up + 1) }
    let s := (({ s with mantis := m } : State).ltrigSeen f).bump 0x38600
    let s := s.each [0, 1, 2] (fun p t => t.ltrigSend p f (t.cfgOn Fld.fireflyTxtsLtrig 0))
    (s, [{ bits := 2 ^ (16 + c), point := point, interp := false, origin := node }])

/-- The trigger-out pin is parked on its way to or from the function: a pulse due now is not carried out (R491). -/
def State.toutParked (s : State) : Bool :=
  (List.range 32).any (fun k => s.pads.parked.getLsbD k && (decide (Cells.get (fun _ => 0) s.pads.func k = 7) || s.cfgv Fld.pinFunc k 0 == 7))

/-- The trigger-out pin goes high, or stays high for TOUT_WIDTH more (R177); a standby holds it low (R338), and so does a unit whose configuration is BAD (R325). -/
def State.toutFire (s : State) (u : Nat) : State :=
  if s.cfgOn Fld.trigTout u ∧ s.isStandby = false ∧ s.cfg.bad = false ∧ s.toutParked = false then
    { s with mantis := { s.mantis with toutHigh := true, toutUntil := s.tm.up + s.cfgv Fld.toutWidth 0 0 * 1000 } }
  else s

/-- A unit fires on a frame (R173, R176, R177, R190). -/
def State.trigFire (s : State) (u : Nat) (t : Tq) (forced : Bool) : State × List TrigEvent :=
  let p := s.firePoint u t forced
  let e : TrigEvent := { bits := 2 ^ u + (if forced then 2 ^ 34 else 0), point := p.1, interp := p.2, origin := 0xFFFF }
  let s := (s.bump (0x38440 + 4 * u)).toutFire u
  let c := s.cfgv Fld.trigLineClass u 0
  if c < 16 then
    let r := s.originate c p.1
    (r.1, e :: r.2.map (fun x => { x with interp := p.2 }))
  else (s, [e])

/-- A trigger unit at a frame (R170 to R172, R176). -/
def State.trigStep (s : State) (u conds : Nat) (t : Tq) : State × List TrigEvent :=
  let x := s.trigOf u
  let r := if s.cfgv Fld.trigKind u 0 = 0 then
      let m := patternMatches (s.cfgv Fld.trigPattern u 0) conds
      ({ x with matched := m }, m && !x.matched)
    else s.sequenceStep u conds t
  let s := s.setTrig u { r.1 with forced := false }
  if r.2 || x.forced then s.trigFire u t x.forced else (s, [])

/-- Every enabled trigger unit of a group at a frame; their firings reach the capture units in one cycle. -/
def State.trigFrame (s : State) (g : Nat) (t : Tq) : State :=
  let conds := s.condWord
  let us := (List.range 16).filter (fun u => s.cfgOn Fld.trigEnable u && (s.cfgv Fld.trigGroup u 0 == g))
  let r := us.foldl (fun (a : State × List TrigEvent) u => let b := a.1.trigStep u conds t; (b.1, a.2 ++ b.2)) (s, [])
  r.1.capDeliver r.2

/-! ### Records (R185 to R188) -/

/-- A frame of a job's window: number, edge, and the cause that lost it (0: present). -/
abbrev WinFrame := Nat × Tq × Nat

/-- Why a window frame is not in the record (Table 7-3). -/
def State.capCause (s : State) (j : CapJob) (k : Nat) (t : Tq) : Nat :=
  match j.frames.find? (fun f => f.k == k && f.edge == t) with
  | some f => f.lost.toNat
  | none =>
    if t < j.late then 0x10
    else if j.gone.any (fun r => r.1 == k && r.2 == t) then 0x11
    else if (if j.grids.isSome then j.spans else (s.grpOf j.group).spans).any (fun r => decide (r.1 ≤ t ∧ t < r.2)) then 2
    else 3

/-- Frames in time order, out of two lists that are. -/
def mergeFrames : Nat → List WinFrame → List WinFrame → List WinFrame
  | 0, xs, ys => xs ++ ys
  | _, [], ys => ys
  | _, xs, [] => xs
  | n + 1, x :: xs, y :: ys => if x.2.1 ≤ y.2.1 then x :: mergeFrames n xs (y :: ys) else y :: mergeFrames n (x :: xs) ys

/-- The grids a job's window lies on (R157, R181): those of its epoch. -/
def State.jobGrids (s : State) (j : CapJob) : List (Option Tq × Option (Tq × Tq)) := j.grids.getD (s.gridSpans j.group)

/-- The window's frames in time order (R181): the instants of each grid that held in it, strobed or not, and the frames strobed in event mode. -/
def State.capWindow (s : State) (j : CapJob) : List WinFrame :=
  let grid := (gridInstants j.lo j.hi 65535 0 (s.jobGrids j)).map (fun e => (e.1, e.2, s.capCause j e.1 e.2))
  let strobed := mergeFrames (j.gone.length + j.frames.length) (j.gone.map (fun r => (r.1, r.2, s.capCause j r.1 r.2))) (j.frames.map (fun f => (f.k, f.edge, f.lost.toNat)))
  let extra := strobed.filter (fun w => !grid.any (fun v => v.1 == w.1 && v.2.1 == w.2.1))
  (mergeFrames (grid.length + extra.length) grid extra).take 65535

/-- A gap entry in the making: T_START, T_END, frames lost, cause. -/
abbrev CapGap := Nat × Nat × Nat × Nat

/-- Group lost frames into entries (R157, R185): prev is the time and cause of the frame before; the last entry of a window that ends in a loss takes a free T_END. -/
def capGaps (tail : Nat) : Option (Nat × Nat) → List WinFrame → List CapGap → List CapGap
  | _, [], acc => acc
  | prev, (_, t, cause) :: rest, acc =>
    let tn := tqNs t
    let next := match rest with
      | (_, u, _) :: _ => tqNs u
      | [] => tail
    if cause = 0 then capGaps tail (some (tn, 0)) rest acc
    else
      match prev with
      | some (pt, pc) =>
        if pc = cause then capGaps tail (some (tn, cause)) rest (acc.dropLast ++ (acc.getLast?.map (fun e => (e.1, next, e.2.2.1 + 1, e.2.2.2))).toList)
        else capGaps tail (some (tn, cause)) rest (acc ++ [(if pc = 0 then pt else tn, next, 1, cause)])
      | none => capGaps tail (some (tn, cause)) rest (acc ++ [(0, next, 1, cause)])

/-- At most 8 entries: the eighth takes up every later loss as MIXED (R185). -/
def capMix (es : List CapGap) : List CapGap :=
  match es.drop 8 with
  | [] => es
  | e :: rest =>
    let last := (e :: rest).getLast?.getD e
    match es[7]? with
    | some x => es.take 7 ++ [(x.1, last.2.1, (e :: rest).foldl (fun n y => n + y.2.2.1) x.2.2.1, 0xFF)]
    | none => es.take 8

/-- Words of a gap entry (Table 7-5). -/
def capGapWords (e : CapGap) : List W32 := two e.1 ++ two e.2.1 ++ two e.2.2.1 ++ [BitVec.ofNat 32 e.2.2.2, 0]

/-- A channel's result in a frame of history. -/
def HiveFrame.sample (f : HiveFrame) (i : Nat) : Int × Marks :=
  match f.results.find? (fun r => r.1 == i) with
  | some r => (r.2.1, r.2.2)
  | none => (0, 0)

/-- FLAGS of a record (Table 7-4). -/
def CapJob.flags (j : CapJob) (truncated : Bool) (marks : Marks) : Nat :=
  (if j.interp then 1 else 0) + (if j.sources / 65536 % 65536 ≠ 0 then 2 else 0) + (if j.sources.testBit 32 then 4 else 0) + (if j.sources.testBit 33 then 8 else 0)
    + (if j.sources.testBit 34 then 16 else 0) + (if j.coalesced then 32 else 0) + (if truncated then 64 else 0) + 128 * marks.toNat

/-- The first strobe a record names (R187, R189): the window's first frame; where a read's window holds none, the first one at or after T_A. DESIGN CHOICE (assumption 96): what neither tells is a free value. -/
def State.capFirst (s : State) (j : CapJob) (win : List WinFrame) : Nat × Tq :=
  let free := fun n => (Config.freeWord (s.freeCtr + n)).toNat
  match win with
  | w :: _ => (w.1, w.2.1)
  | [] => ((if j.unit = 16 then s.firstStrobe j.group (s.jobGrids j) j.epoch j.lo else none)).getD (free 1, nsTq (free 2))

/-- A job's record (R187): its words, and the number of frames present. -/
def State.capRecord (s : State) (j : CapJob) : List W32 × Nat :=
  let win := s.capWindow j
  let chans := bitsOf 512 j.channels
  let present := j.frames.filter (fun f => decide (f.lost = 0) && win.any (fun w => w.1 == f.k && w.2.1 == f.edge))
  let gaps := capMix (capGaps s.freeW.toNat none win [])
  let samples := present.flatMap (fun f => chans.map f.sample)
  let marks := samples.foldl (fun a x => a ||| x.2) (0 : Marks)
  let truncated := !Look.scheduled s.cfgv j.group && j.isFull && decide (j.unit ≠ 16)
  let body := gaps.flatMap capGapWords ++ samples.map (fun x => BitVec.ofInt 32 x.1) ++ markWords (samples.length + 1) (samples.map (fun x => x.2)) ++ present.flatMap (fun f => two (tqNs f.edge))
  let first := s.capFirst j win
  let trig := if j.unit = 16 then first.2 else j.tTrig
  let unitCode := if j.unit = 16 then 0xFF else j.unit
  let head : List W32 :=
    [BitVec.ofNat 32 (0x5A430000 + unitCode * 256 + 0x20), j.seq] ++ two (tqNs trig) ++ [BitVec.ofNat 32 (trig % 65536 * 65536 + j.epoch.toNat)]
    ++ two (tqNs first.2) ++ two first.1
    ++ [BitVec.ofNat 32 (win.length * 65536 + chans.length), BitVec.ofNat 32 (present.length * 65536 + gaps.length), BitVec.ofNat 32 j.sources,
        BitVec.ofNat 32 (j.origin.toNat * 65536 + j.flags truncated marks), BitVec.ofNat 32 j.missed, BitVec.ofNat 32 j.dead]
  let words := head ++ body
  (BitVec.ofNat 32 (4 * (words.length + 2)) :: (words ++ [crcWords words]), present.length)

/-- Largest window of a unit in frames (R182, R188). -/
def State.capLargestWindow (s : State) (u : Nat) : Nat :=
  let g := s.cfgv Fld.capGroup u 0
  if Look.scheduled s.cfgv g then nsTq (s.cfgv Fld.capPreNs u 0 + s.cfgv Fld.capPostNs u 0) / max 1 (Look.period s.cfgv g) + 1 else 65535

/-- Bytes of a record of a number of frames and channels with 8 gap entries (R187, R188). -/
def recordBytes (frames channels : Nat) : Nat := 64 + 256 + payloadBytes frames channels true true + 4

/-- Largest possible record of a unit (R188). -/
def State.capLargest (s : State) (u : Nat) : Nat := recordBytes (s.capLargestWindow u) (popCount 512 (s.cfgv Fld.capChannels u 0))

/-- A CAPTURE_READ's window holds more than 65,535 frames (R189). -/
def State.readTooLong (s : State) (j : CapJob) : Bool := decide (j.unit = 16) && (j.tooLong || (j.isFull && s.hive.any j.wants))

/-- A job's window has ended and no frame of it is still converting; in event mode a full record ends a capture (R182), and one frame more a read (R189); an adoption loses the later frames (R236). -/
def State.capOver (s : State) (j : CapJob) : Bool :=
  (!Look.scheduled s.cfgv j.group && j.isFull && decide (j.unit ≠ 16)) || s.readTooLong j ||
    ((decide (j.hi < s.now) || decide (j.epoch ≠ s.epoch)) && (match (s.grpOf j.group).frame with
      | some f => !(j.covers f.edge && decide (f.epoch = j.epoch))
      | none => true))

/-- Status of a capture (R186). -/
def State.capStatus (s : State) (j : CapJob) : Nat :=
  let win := s.capWindow j
  if win.any (fun w => w.2.2 == 0x10) then 0x310 else if win.any (fun w => w.2.2 == 0x11) then 0x311 else 0

/-- Count a capture that lost history (R186); CAPTURE_READ has no counters of its own. -/
def State.capCount (s : State) (u status : Nat) : State :=
  if 16 ≤ u ∨ status = 0 then s
  else
    let late := decide (status = 0x310)
    let s := (s.bump (Reg.cap u (if late then 0x14 else 0x18))).setBit (Reg.cap u 0) (if late then 9 else 10)
    s.raise (errAt 0 (Reg.cap u 0) (if late then 9 else 10) u)

/-- A job's completion waits for the standby's acknowledgement on an active (R351, R353). -/
def State.capReport (s : State) (j : CapJob) : State :=
  if s.twin.role = .active ∧ j.unit < 16 then
    let e : SyncEntry := ⟨3, 0, 0, idx64 j.unit, j.seq, 0, 0⟩
    ({ s with twin := { s.twin with awaiting := s.twin.awaiting ++ [⟨j.id, e, s.tm.up⟩] } } : State).report e
  else s

/-- A job ends: its record is written and its descriptor retires (R186 to R189); a signature covers header words 1 to 15 and all that follows (Table 15-2). -/
def State.capFinish (s : State) (j : CapJob) (d : Desc) : State :=
  let r := s.capRecord j
  let bytes := wordBytes r.1
  let trig := if j.unit = 16 then word2 r.1 3 else tqNs j.tTrig
  let status := s.capStatus j
  let long := s.readTooLong j
  let s : State := { s with mantis := { s.mantis with jobs := s.mantis.jobs.filter (fun x => x.id != j.id) }, freeCtr := s.freeCtr + 3 }
  if long then s.retireBad d 0x0340
  else if d.flag 3 && s.sv.withheld then s.retireBad d 0x0506
  else
    let sig := if d.flag 3 then s.signBlock 2 2 (Config.sha384 (bytes.drop 4)) else []
    let s := ((s.doIf (d.flag 3) (fun t => t.bump 0x6800C)).hostWrite d.addr (bytes ++ sig)).capCount j.unit status
    (s.capReport j).retire d status r.2 ([BitVec.ofNat 32 bytes.length, j.seq] ++ two trig)

/-! ### Commands -/

/-- TRIGGER_OUT_END (R177). -/
def execTriggerOutEnd (s : State) : Out :=
  if s.mantis.toutHigh then
    let s := s.reachUp s.mantis.toutUntil
    .next { s with mantis := { s.mantis with toutHigh := false } }
  else .next s

/-- A trigger input takes an edge (R175): its pin is settled and carries the function, and the edge is the one EDGE names. -/
def State.tinReady (s : State) (v : Nat) (rising : Bool) : Bool :=
  (decide (s.cfgv Fld.tinEdge v 0 = 0) == rising) && s.pinCarries (s.cfgv Fld.tinGpio v 0) 6

/-- TRIGGER_IN_EDGE (R175, R179): the trigger point is the next converter clock edge. -/
def execTriggerInEdge (v : Fin 2) (rising : Bool) (s : State) : Out :=
  let s := s.reachUp ((s.tm.up + 4) / 5 * 5)
  if s.tinReady v rising then .next (s.capDeliver [{ bits := 2 ^ (32 + v.val), point := nsTq s.nowNs, interp := false, origin := 0xFFFF }])
  else .next s

/-- Ready time of the last grid frame of the window in hand (R178), on the grids that held in it. -/
def State.windowReady (s : State) (u : Nat) : Tq :=
  let g := (s.capOf u).winGroup
  let c : Look := s.cfgv
  let hi := (s.capOf u).winEnd
  match s.gridOf g with
  | some gr =>
    let k := gridFirst gr (hi + 1) - 1
    if gridEdge gr k ≤ hi then gridEdge gr k + nsTq (200 + 400 * c.nMax g (c.diagFrame g k)) else hi
  | none =>
    match (s.grpOf g).frame with
    | some f => if f.edge ≤ hi then max hi (f.edge + nsTq (200 + 400 * f.nMax)) else hi
    | none => hi

/-- CAPTURE_WINDOW_END (R178, R180). -/
def execCaptureWindowEnd (u : Fin 16) (s : State) : Out :=
  if (s.capOf u).mode = .window then
    let s := s.reach (s.windowReady u)
    .next ((s.updCap u (fun c => { c with mode := .idle })).capArm u)
  else .next s

/-- CAPTURE_COPY_DONE (R178, R188): jobs of one unit complete in the order of acceptance; the hub writes only while it may issue requests. -/
def execCaptureCopyDone (u : Fin 17) (s : State) : Out :=
  match s.mantis.jobs.find? (fun j => j.unit == u.val) with
  | none => .next s
  | some j =>
    match s.descOf j.id with
    | none => .next s
    | some d => if s.capOver j ∧ s.canDma = true ∧ (d.flag 3 && s.packetsWait) = false then .next (s.capFinish j d) else .next s

/-- CAPTURE_ARM (R178, R188, R195, R341). -/
def execCaptureArm (id : Nat) (s : State) : Out :=
  s.serve id 0x21 (fun d s =>
    let u := field (d.p 0) 3 0
    if s.capOn u = false then s.retireBad d 0x0330
    else if d.len < s.capLargest u + (if d.flag 3 then 104 else 0) then s.retireBad d 0x0320
    else ((s.take id).updCap u (fun c => { c with descs := c.descs ++ [id] })).capArm u)

/-- Frames of a CAPTURE_READ window that are known now (R181, R189): the instants of each grid that held in it, and the frames strobed in event mode. -/
def State.readFrames (s : State) (g : Nat) (ta tb : Tq) : Nat :=
  let grid := gridInstants ta tb 65536 0 (s.gridSpans g)
  grid.length + ((s.strobedIn g s.epoch).filter (fun r => decide (ta ≤ r.2 ∧ r.2 ≤ tb) && !grid.any (fun w => w.1 == r.1 && w.2 == r.2))).length

/-- Trigger point of a CAPTURE_READ (R189, R219): the first strobe instant at or after T_A; T_A where nothing tells it yet. -/
def State.readPoint (s : State) (g : Nat) (ta : Tq) : Tq := ((s.firstStrobe g (s.gridSpans g) s.epoch ta).map (fun r => r.2)).getD ta

/-- CAPTURE_READ (R183, R189). -/
def execCaptureRead (id : Nat) (s : State) : Out :=
  s.serve id 0x22 (fun d s =>
    let g := field (d.p 0) 0 0
    let ta := nsTq (d.p64 1)
    let tb := nsTq (d.p64 3)
    let bitmap := d.p64 5
    if tb < ta then s.retireBad d 0x0002
    else if s.tooFar (s.readPoint g ta) then s.retireBad d 0x0810
    else if s.readOk bitmap 64 = false then s.dmaFailed d
    else
      let chans := ofLeBytes (s.hostRead bitmap 64)
      let frames := s.readFrames g ta tb
      let largest := if Look.scheduled s.cfgv g then frames else 65535
      if 65535 < frames then s.retireBad d 0x0340
      else if (bitsOf 512 chans).any (fun i => decide (Look.chanGroup s.cfgv i ≠ g)) then s.retireBad d 0x0002
      else if d.len < recordBytes largest (popCount 512 chans) + (if d.flag 3 then 104 else 0) then s.retireBad d 0x0320
      else
        let j : CapJob :=
          { unit := 16, id := id, seq := s.freeW, group := g, channels := chans, tTrig := s.readPoint g ta, lo := ta, hi := tb, epoch := s.epoch,
            sources := 0, origin := 0xFFFF, interp := false, coalesced := false, missed := 0, dead := 0, late := 0, frames := [], gone := [], grids := none, spans := [], tooLong := false }
        ((s.take id).freeNext).startJob j)

/-- MANTIS_FORCE (R176, R196). -/
def execMantisForce (w : W32) (s : State) : Out :=
  .next (s.each (bitsOf 16 w.toNat) (fun u t => if t.cfgOn Fld.trigEnable u then t.updTrig u (fun x => { x with forced := true }) else t))

/-- Ports a received line trigger is forwarded on (R193). -/
def forwardPorts (p : Nat) : List Nat := if p = 0 then [1] else if p = 1 then [0] else [0, 1]

/-- A received line trigger reaches the capture units, or is dropped (R193). -/
def State.ltrigTake (s : State) (f : LineTrig) : State :=
  if f.epoch ≠ s.epoch then s.bump 0x3860C
  else if s.tooFar f.tq then s.bump 0x38610
  else (s.bump 0x38604).capDeliver [{ bits := 2 ^ (16 + f.cls.val), point := f.tq, interp := false, origin := f.origin }]

/-- LINE_TRIGGER (R192, R193). -/
def execLineTrigger (p : Port) (f : LineTrig) (s : State) : Out :=
  let n := pidx p
  if s.inService n = false then .next s
  else
    let s := s.rxAccept n
    let s := if n = 2 ∧ f.origin = BitVec.ofNat 16 (s.cfgv Fld.mantisNodeId 0 0) then
        ({ s with mantis := { s.mantis with partnerSeq := some f.seq } } : State) else s
    if s.ltrigDuplicate f then .next ((s.ltrigSeen f).bump 0x38608)
    else
      let s := s.ltrigSeen f
      let s := if f.hopsLeft = 0 then s else s.each (forwardPorts n) (fun q t => t.ltrigSend q { f with hopsLeft := f.hopsLeft - 1 } false)
      .next (s.ltrigTake f)

end Sys2Proof.Machine
end

