-- ==== Sys2Proof/Machine/Refuse.lean ====
section
/-! DEFINITION. What refuses DOZE and Hibernate (R412, R413), and what keeps the fast clocks running (R404, R405). -/

namespace Sys2Proof.Machine

open Sys2Proof

/-! ### Refusers (R412) -/

/-- A slot is in TRIAL. -/
def FlashSt.trial (f : FlashSt) : Bool := decide (f.slotA = .trial ∨ f.slotB = .trial)

/-- An update is in progress (Table 16-3, UPDATE): a slot in STAGING; an activation, from its descriptor to the engine's return; a confirmation, awaited by a TRIAL or asked for by a descriptor; STORE_PENDING. -/
def State.updating (s : State) : Bool :=
  decide (s.flash.slotA = .staging ∨ s.flash.slotB = .staging) || s.flash.pauseUp.isSome || s.flash.trial
    || s.host.inflight.any (fun d => (d.taken && decide (d.op = 0x51)) || decide (d.op = 0x52 ∧ d.bad = 0)) || s.cfg.storePending.isSome

/-- The host holds the hub (Table 16-3, HOST). -/
def State.hostHolds (s : State) : Bool :=
  (List.range 64).any (fun r => (s.sqOf r).enabled || s.cfgOn Fld.streamEnable r || ((s.cqOf r).enabled && decide (s.cqUsed r ≠ 0)))
    || !s.host.inflight.isEmpty || !s.host.waiting.isEmpty

/-- A refuser of Table 16-3 stands, for DOZE or for Hibernate. -/
def State.refuses (s : State) (hib : Bool) (r : Nat) : Bool :=
  match r with
  | 0 => hib && s.cfgOn Fld.twinEnable 0
  | 1 => hib && s.otp.vaultFuse && ([0, 1, 2, 3].any (fun p => s.cfgOn Fld.vaultPlatformEnable p) || !s.vault.toStore.isEmpty)
  | 2 => hib && s.hostHolds
  | 3 => decide (s.ff.mode = .acquiring) || (hib && [0, 1, 2, 3].any (fun k => (s.pulseOf k).prog.isSome || !(s.pulseOf k).next.isEmpty || (s.pulseOf k).high || !(s.pulseOf k).tails.isEmpty))
  | 4 => hib && ((List.range 16).any (fun u => decide ((s.capOf u).mode ≠ .idle)) || !s.mantis.jobs.isEmpty)
  | 5 => s.updating
  | _ => false

/-- The refusers that stand. -/
def State.refusers (s : State) (hib : Bool) : List Nat := [0, 1, 2, 3, 4, 5].filter (s.refuses hib)

/-- PWR_REFUSE_COUNT of refusers (R413). -/
def State.countRefusals (s : State) (rs : List Nat) : State :=
  if rs.isEmpty then s else (s.each rs (fun r t => t.bump (0x1020 + 4 * r))).setBit Reg.pwrStatus 8

/-! ### Doze (R404 to R406) -/

/-- FAST_CLOCKS is BURST. -/
def State.burst (s : State) : Bool := s.cfgOn Fld.pwrFastClocks 0

/-- The core clock is awaited by work of the hub (R405): a frame converts, a packet waits for a lane or its place, a packet is being written to a buffer, or a completion waits. -/
def State.workPending (s : State) : Bool :=
  [0, 1].any (fun g => (s.grpOf g).frame.isSome) || s.strm.any (fun e => !e.2.closing.isEmpty || (s.canDma && !e.2.queue.isEmpty && !e.2.bufs.isEmpty))
    || !s.comp.jobs.isEmpty || (s.canDma && !s.host.waiting.isEmpty)

/-- A burst is in progress (R404): work is pending, or a lane is busy. -/
def State.bursting (s : State) : Bool := s.workPending || s.comp.lanes.any (fun l => decide (l ≠ .free))

/-- Refusers that begin to hold the hub in RUN are counted once (R413). -/
def State.dozeOnset (s : State) : State :=
  let now := if s.burst then s.refusers false else []
  let s := s.countRefusals (now.filter (fun r => !s.pwr.onset.getLsbD r))
  { s with pwr := { s.pwr with onset := BitVec.ofNat 6 (maskOf now) } }

/-- What refuses DOZE or Hibernate may have changed: onsets are counted, and before the commit point of an entry the refusers that arise are kept (R410, R413). -/
def State.refuserNote (s : State) : State :=
  let s := s.dozeOnset
  if s.pwr.mode = .hibEntry ∧ s.pwr.committed = false then
    { s with pwr := { s.pwr with arose := s.pwr.arose ||| BitVec.ofNat 6 (maskOf (s.refusers true)) } }
  else s

end Sys2Proof.Machine
end

