-- ==== Sys2Proof/Machine/Request.lean ====
section
/-! DEFINITION. Svetron's requests up to their handling (chapter 15): layout, checks, order and the DMA read (R390, R391). -/

namespace Sys2Proof.Machine

open Sys2Proof

/-- The body length of a request code (Table 15-3). -/
def reqBody (code : Nat) : Option Nat :=
  match code with
  | 0x0001 => some 343
  | 0x0002 => some 343
  | 0x0003 => some 0
  | 0x0004 => some 145
  | 0x0005 => some 97
  | 0x0006 => some 96
  | 0x0007 => some 4
  | 0x0010 => some 0
  | 0x0011 => some 0
  | 0x0012 => some 0
  | _ => none

/-- The request calls for a signature block (Table 15-3). -/
def State.reqSigned (s : State) (code : Nat) : Bool :=
  if code = 0x0006 ∨ code = 0x0011 then false else if code = 0x0010 then s.sv.owned else true

/-- The request code of a request's bytes. -/
def reqCode (bs : List Byte) : Nat := ofLeBytes (bs.take 2)

/-- The layout is that of R391: known code, MAGIC, and a length with at most 3 bytes behind it. -/
def State.reqLayout (s : State) (bs : List Byte) : Bool :=
  match reqBody (reqCode bs) with
  | some n =>
    let need := 56 + n + (if s.reqSigned (reqCode bs) then 104 else 0)
    decide (ofLeBytes ((bs.drop 2).take 2) = 0x5A4F ∧ need ≤ bs.length ∧ bs.length ≤ need + 3)
  | none => false

/-- The current challenge. -/
def State.svChallenge (s : State) : List Byte := randomBytes s.sv.challenge 32

/-- OWNER_GEN, fingerprint and challenge are the current ones (R391). -/
def State.reqFresh (s : State) (bs : List Byte) : Bool :=
  decide ((bs.drop 4).take 52 = leBytes 4 s.sv.ownerGen.toNat ++ fingerprintOf s.identityKey ++ s.svChallenge)

/-- The ownership state a request needs (Table 15-3). -/
def State.reqState (s : State) (code : Nat) : Bool :=
  if code = 0x0001 then !s.sv.owned else if 0x0010 ≤ code then true else s.sv.owned

/-- The key a request is signed with, and its code of R386. -/
def State.reqSigner (s : State) (code : Nat) (body : List Byte) : Nat × List Byte :=
  if code = 0x0001 then (4, body.take 97) else if s.sv.owned then (4, s.sv.ownerKey) else (5, Config.issuerKey)

/-- The request ends (R390, R391): status, a new challenge, and the run of REQ_SIG_BAD, which after 8 begins the back-off. -/
def State.reqEnd (s : State) (status : Nat) : State :=
  let n := if status = 0x0504 then s.sv.badSigs + 1 else 0
  let s : State := { s with sv := { s.sv with requests := s.sv.requests.drop 1, challenge := s.sv.draws, draws := s.sv.draws + 1, badSigs := if 8 ≤ n then 0 else n, backoff := if 8 ≤ n then some s.tm.up else s.sv.backoff } }
  (s.setReg 0x68050 (BitVec.ofNat 32 status)).doIf (decide (status ≠ 0)) (fun t => t.setBit Reg.svStatus 15)

/-- The checks of R391 before the body's, in order. -/
def State.reqCheck (s : State) (bs : List Byte) : Nat :=
  let code := reqCode bs
  let n := (reqBody code).getD 0
  let body := (bs.drop 56).take n
  let signer := s.reqSigner code body
  if s.sv.backoff.isSome then 0x0508
  else if s.reqLayout bs = false then 0x0501
  else if s.reqFresh bs = false then 0x0503
  else if s.reqState code = false then 0x0502
  else if s.reqSigned code && !blockVerifies ((bs.drop (56 + n)).take 104) signer.1 7 signer.2 (Config.sha384 (bs.take (56 + n))) then 0x0504
  else 0

/-- Requests that no request command handles end in their turn, behind a GO whose request has still to be read: back-off, or a layout that names no request. -/
def svSweep : Nat → State → State
  | 0, s => s
  | f + 1, s =>
    if s.sv.goWaits.isSome then s else
    match s.sv.requests with
    | (_, bs) :: _ => if (reqBody (reqCode bs)).isNone then svSweep f (s.reqEnd (s.reqCheck bs)) else s
    | [] => s

/-- A request arrives (R390). -/
def State.reqArrive (s : State) (path : Path) (bs : List Byte) : State :=
  svSweep 64 { s with sv := { s.sv with requests := s.sv.requests ++ [(path, bs)] } }

/-- The request a GO asked for, the oldest, is read by DMA (R390), once the port carries requests (R307); a read that fails ends it with DMA_ERROR. -/
def State.reqPull (s : State) : State :=
  match s.sv.goWaits with
  | some g =>
    if s.canDma = false then s
    else
      let s : State := { s with sv := { s.sv with goWaits := none } }
      if s.readOk g.1 g.2 then svSweep 64 { s with sv := { s.sv with requests := (.host, s.hostRead g.1 g.2) :: s.sv.requests } }
      else ({ s with sv := { s.sv with requests := (.host, []) :: s.sv.requests } } : State).reqEnd 0x0003
  | none => s

/-- GO of SVETRON_REQ_CTRL (R390, R402): ignored while a request is handled. -/
def State.reqGo (s : State) : State :=
  if s.sv.requests ≠ [] ∨ s.sv.goWaits.isSome = true then s
  else ({ s with sv := { s.sv with goWaits := some (s.reg64 0x68040 / 8 * 8, min (s.reg 0x68048).toNat 1024) } } : State).reqPull

end Sys2Proof.Machine
end

