-- ==== Sys2Proof/Machine/Host.lean ====
section
/-! DEFINITION. Host interface: doorbell page and nudges (R285 to R289), rings (R286 to R292), fetching and the first check (R293 to R297, R301), holding (R302), moderation (R300), and what stops and resumes the port's requests (R307). -/

namespace Sys2Proof.Machine

open Sys2Proof

/-! ### Doorbell fetches -/

/-- A doorbell fetch starts (R288). -/
def State.startDoorbell (s : State) (nudged : Bool) : State :=
  ({ s with host := { s.host with fetching := true } } : State).doIf nudged (fun t => t.bump 0x4014)

/-- What a read in the nudge window returns (R285). -/
def nudgeRead (_offset : Nat) : W32 := 0

/-- A write to the nudge window that requests a fetch: of 32 bits, to offset 0; the hub discards every other (R285). -/
def isNudge (w : NudgeWrite) : Bool := decide (w.offset = 0 ∧ w.bytes = 4)

/-- NUDGE (R285, R288, R405): the writes to the nudge window in one cycle. Several nudges request one fetch; those during a fetch make one further fetch. -/
def execNudge (writes : List NudgeWrite) (s : State) : Out :=
  let count := (writes.filter isNudge).length
  let s := s.coreNeed
  if count = 0 then .next s
  else
    let s := s.doIf (decide (2 ≤ count)) (fun t => t.bump 0x4018)
    if s.host.fetching then .next { s with host := { s.host with again := true } } else .next (s.startDoorbell true)

/-- DB_POLL (R288, R405): DB_POLL_US after the last poll fell due. -/
def execDbPoll (s : State) : Out :=
  if s.reg 0x4008 = 0 then .next s
  else
    let s := (s.reachUp (s.host.pollUp + (s.reg 0x4008).toNat * 1000)).pllRunAgo 40000
    let s := { s with host := { s.host with pollUp := s.tm.up } }
    if s.host.fetching then .next s else .next (s.startDoorbell false)

/-- A 16-bit counter of the doorbell page (Table 11-2). -/
def pageCounter (page : List Byte) (offset : Nat) : Nat := ofLeBytes ((page.drop offset).take 2)

/-- Counts ahead, modulo 65,536. -/
def ahead (tail head : Nat) : Nat := (tail + 65536 - head) % 65536

/-- A tail that runs more than SIZE ahead of the fetch count (R289). -/
def State.tailInvalid (s : State) (page : List Byte) (r : Nat) : Bool :=
  (s.sqOf r).enabled && !(s.sqOf r).stopped && decide (ringSize (s.reg (Reg.sq r 8)) < ahead (pageCounter page (4 * r)) (s.sqOf r).fetched)

/-- The page has been read: tails, heads, stopped rings, completions that were waiting (R287 to R289, R299). -/
def State.takeDoorbell (s : State) (page : List Byte) : State :=
  let bad := (List.range 64).filter (s.tailInvalid page)
  let s := s.each (List.range 64) (fun r t => if (t.sqOf r).enabled then
    (if bad.contains r then (t.updSq r (fun q => { q with stopped := true })).setBit (Reg.sq r 12) 5
     else t.updSq r (fun q => { q with tail := pageCounter page (4 * r) })) else t)
  let s := s.raiseAll (bad.map (fun r => { errAt 1 (Reg.sq r 12) 5 r with recovers := true }))
  let s := s.each (List.range 64) (fun q t => if (t.cqOf q).enabled then t.updCq q (fun c => { c with head := pageCounter page (256 + 4 * q) }) else t)
  s.postAll

/-- DOORBELL_FETCH (R287 to R289): the read completes; a failed one changes no ring. -/
def execDoorbellFetch (readOk : Bool) (s : State) : Out :=
  if s.host.fetching = false ∨ s.canDma = false then .next s
  else
    let a := s.reg64 0x4000 / 4096 * 4096
    let s := if readOk && s.readOk a 512 then s.takeDoorbell (s.hostRead a 512) else s.aerReport
    let more := s.host.again
    let s := { s with host := { s.host with fetching := false, again := false } }
    .next (if more then s.startDoorbell true else s)

/-! ### Fetching -/

/-- A ring has a descriptor to fetch (R289, R301). -/
def State.fetchable (s : State) (r : Nat) : Bool :=
  (s.sqOf r).enabled && !(s.sqOf r).stopped && decide ((s.sqOf r).fetched ≠ (s.sqOf r).tail)

/-- Descriptors in flight: fetched, and their completion not posted (R301). -/
def State.inFlight (s : State) : Nat :=
  (s.host.inflight.filter (fun d => decide (d.ring < 64))).length + s.host.waiting.length

/-- The ring whose turn it is (R301): up to 8 descriptors of one ring, then the next ring that has some. -/
def State.fetchRing (s : State) : Option Nat :=
  let cur := s.host.turn / 16
  if s.host.turn % 16 < 8 ∧ s.fetchable cur = true then some cur
  else ((List.range 64).map (fun i => (cur + 1 + i) % 64)).find? s.fetchable

/-- Opcodes of Table 11-10. -/
def knownOps : List Nat :=
  [0x00, 0x01, 0x10, 0x11, 0x12, 0x13, 0x20, 0x21, 0x22, 0x23, 0x30, 0x31, 0x40, 0x50, 0x51, 0x52, 0x60, 0x61, 0x70, 0x71, 0x80]

/-- Opcodes the side-band port accepts (R426). -/
def sbOps : List Nat := [0x00, 0x10, 0x11, 0x12, 0x13, 0x50, 0x51, 0x52, 0x70, 0x71]

/-- Actions of an injector target (Tables 10-7 and 19-6). -/
def injActions (target : Nat) : Nat :=
  match target with
  | 1 | 2 | 3 => 6
  | 4 => 4
  | 5 => 2
  | 6 => 5
  | 7 => 2
  | 8 => 2
  | 9 => 1
  | 10 => 2
  | 11 => 3
  | 12 => 1
  | 15 => 1
  | _ => 0

/-- Target and action of an INJECT_CMD are in the catalogue; action 0 cancels. -/
def injKnown (target action : Nat) : Bool := decide (0 < injActions target ∧ action ≤ injActions target)

/-- Bytes of the response of VAULT_CMD STATUS (Table 14-6). -/
def vaultStatusLen : Nat := 100

/-- Fixed output size or fixed range that an opcode states (R294, Tables 13-7, 14-6). -/
def State.badParam (s : State) (d : Desc) : Bool :=
  if d.op = 0x23 then
    let first := field (d.p 0) 8 0
    let count := field (d.p 1) 9 0
    decide (count = 0 ∨ 512 < count ∨ 512 < first + count ∨ d.len < 64 * count + (if d.flag 3 then 104 else 0))
  else if d.op = 0x60 then decide (d.len < 104)
  else if d.op = 0x61 then decide (d.len < 1632)
  else if d.op = 0x70 then
    let code := field (d.p 0) 15 0
    !([0x01, 0x02, 0x03, 0x04, 0x10, 0x20].contains code) || decide ((code = 0x01 ∧ s.descRoom d < vaultStatusLen) ∨ (code = 0x10 ∧ s.descRoom d < 8))
  else if d.op = 0x71 then
    let code := field (d.p 0) 15 0
    decide (code = 0 ∨ 6 < code ∨ (code = 1 ∧ s.descRoom d < 160))
  else if d.op = 0x80 then s.sv.injectOpen && !injKnown (field (d.p 0) 7 0) (d.p 1).toNat
  else false

/-- The first check of a fetched descriptor (R294, R297, R426, R447): the status that refuses it, 0 when it may run. A part without the vault fuse refuses every VAULT_CMD with a security status (R3), before anything else about it is checked. -/
def State.firstCheck (s : State) (d : Desc) : Nat :=
  if knownOps.contains d.op = false ∨ (d.ring = 64 ∧ sbOps.contains d.op = false) then 0x0001
  else if d.op = 0x70 ∧ s.otp.vaultFuse = false then 0x0520
  else if d.ring < 64 ∧ d.addr % 8 ≠ 0 then 0x0002
  else if d.op = 0x80 ∧ s.sv.injectOpen = false then 0x0509
  else if s.badParam d = true then 0x0002
  else if s.boot.recovery = true ∧ s.boot.stage = 10 ∧ engineOp d.op = true ∧ loaderOp d.op = false then 0x0710
  else 0

/-- A descriptor enters the set in flight; after UNIT_FATAL it retires with UNIT_FAILED (R464), and one the check refuses retires at once or behind its fence. -/
def State.enlist (s : State) (d : Desc) : State :=
  let d := { d with bad := s.firstCheck d }
  let s := { s with host := { s.host with nextId := s.host.nextId + 1, inflight := s.host.inflight ++ [d] } }
  if s.log.fatal then s.retireBad d 0x0007 else s.sweepBad

/-- A descriptor read failed: the ring stops, and AER reports it (R294). -/
def State.fetchFailed (s : State) (r : Nat) : State := (s.aerReport.updSq r (fun q => { q with stopped := true })).setBit (Reg.sq r 12) 4

/-- DESCRIPTOR_FETCH (R289, R293, R294, R301): the next descriptor of the ring whose turn it is; an entry into HIBERNATE has stopped fetching (R409). -/
def execDescriptorFetch (r : Fin 64) (readOk : Bool) (s : State) : Out :=
  let q := s.sqOf r
  let ctrl := s.reg (Reg.sq r 8)
  if s.canDma = false ∨ s.pwr.mode = .hibEntry ∨ 131072 ≤ s.inFlight ∨ s.fetchRing ≠ some r.val then .next s
  else
    let a := s.reg64 (Reg.sq r 0) / 4096 * 4096 + 64 * (q.fetched % ringSize ctrl)
    let inj := (s.injOf 8 1 r).isSome
    let s := s.doIf inj (fun t => t.useInj 8 1 r)
    if !readOk || inj || !s.readOk a 64 then .next (s.fetchFailed r)
    else
      let n := if s.host.turn / 16 = r.val ∧ s.host.turn % 16 < 8 then s.host.turn % 16 + 1 else 1
      let d : Desc :=
        { id := s.host.nextId, ring := r, cq := field ctrl 15 10, words := wordsOf (s.hostRead a 64), inline := [], since := s.tm.up, taken := false, bad := 0, fetchedAt := s.now }
      let s := s.setSq r { q with fetched := (q.fetched + 1) % 65536 }
      .next (({ s with host := { s.host with turn := r.val * 16 + n } } : State).enlist d)

/-- NOP (R295). -/
def execNop (id : Nat) (s : State) : Out := s.serve id 0x00 (fun d s => s.retireOk d [])

/-- FENCE (R304). -/
def execFence (id : Nat) (s : State) : Out := s.serve id 0x01 (fun d s => s.retireOk d [])

/-- A group is HELD. -/
def State.anyHeld (s : State) : Bool := [0, 1].any (fun g => decide ((s.grpOf g).mode = .held))

/-- A descriptor is held, not merely behind another or at its fence (R16, R302): the engine is absent, the role is unresolved (R342), or a CFG_COMMIT has reached execution while a group is HELD (R319), on a unit that validates it. -/
def State.heldNow (s : State) (d : Desc) : Bool :=
  s.fenceOk d && (s.engineAway || (cfgOp d.op && decide (s.twin.role = .unresolved)) || (decide (d.op = 0x12) && s.anyHeld && s.turnOf d && !s.isStandby && !decide (s.twin.role = .seized)))

/-- A command that names the open transaction starts its 60 s anew (R309). -/
def State.touchTxn (s : State) (d : Desc) : State :=
  match s.cfg.txn with
  | some t => if 0x11 ≤ d.op ∧ d.op ≤ 0x13 ∧ t.id = d.p 0 then { s with cfg := { s.cfg with txn := some { t with touchedUp := s.tm.up } } } else s
  | none => s

/-- ENGINE_HOLD_TIMEOUT (R302, R319, R342): a descriptor held longer than MGMT_HOLD_MS from its fetch. -/
def execEngineHoldTimeout (id : Nat) (s : State) : Out :=
  match s.descOf id with
  | none => .next s
  | some d =>
    if engineOp d.op = true ∧ d.taken = false ∧ d.bad = 0 ∧ s.heldNow d = true then
      .next (((s.reachUp (d.since + (s.reg 0x400C).toNat * 1000000)).touchTxn d).retireBad d 0x0004)
    else .next s

/-- CQ_MODERATION_TIMER (R300). -/
def execCqModerationTimer (q : Fin 64) (s : State) : Out :=
  let ctrl := s.reg (Reg.cq q 8)
  let c := s.cqOf q
  if c.pending = 0 ∨ field ctrl 31 22 = 0 then .next s
  else
    let s := s.reachUp (c.firstUp + field ctrl 31 22 * 1000)
    .next ((s.setCq q { c with pending := 0 }).msix (field ctrl 13 8))

/-! ### Rings -/

/-- SIZE_LOG2 of a written CTRL lies in 4 to 12. -/
def sizeOk (v : W32) : Bool := decide (4 ≤ field v 7 4 ∧ field v 7 4 ≤ 12)

/-- The host may set up rings from step 4 on (R450). -/
def State.ringsOpen (s : State) : Bool := decide (4 ≤ s.boot.stage)

/-- SQ_ENABLE (R290, R291, R450). While the ring is enabled the write changes nothing. -/
def execSqEnable (r : Fin 64) (v : W32) (s : State) : Out :=
  let a := Reg.sq r 8
  if (s.sqOf r).enabled || !s.ringsOpen then .next s
  else
    let s := s.setReg a (v &&& 0xFCF0)
    if sizeOk v && (s.cqOf (field v 15 10)).enabled then
      .next (((s.setBit a 0).setSq r { enabled := true, stopped := false, drained := false, fetched := 0, tail := 0 }).endHandling (Reg.sq r 12) r).refuserNote
    else .next (s.setBit (Reg.sq r 12) 3)

/-- A capture descriptor that waits in a unit is taken back; a unit with none left is IDLE. -/
def State.capRelease (s : State) (id : Nat) : State :=
  s.each (List.range 16) (fun u t => t.updCap u (fun c =>
    let ds := c.descs.filter (fun x => x != id)
    { c with descs := ds, mode := if c.mode = .armed ∧ ds = [] then .idle else c.mode }))

/-- A descriptor has started writing data: a compression job of which a segment has been taken. A capture's record and every other answer are written as it retires. -/
def State.writing (s : State) (d : Desc) : Bool := s.comp.jobs.any (fun j => j.id == d.id && decide (0 < j.taken))

/-- What an operation that has not started writing data leaves when it is aborted (R292; assumption 63): its capture is lost, its job gives its place up, a commit that is not yet armed leaves its transaction open, and a swap is abandoned. A generator keeps its programme, as at R307. -/
def State.abandon (s : State) (d : Desc) : State :=
  let s := (s.touchTxn d).capRelease d.id
  let s := { s with mantis := { s.mantis with jobs := s.mantis.jobs.filter (fun j => j.id != d.id) } }
  let s := (s.dropJob d.id).chainPast d
  let mine := fun (f : Option FlipSt) => f.any (fun f => f.id == some d.id)
  let s : State := if mine s.cfg.flip || mine s.cfg.waitReady then s.unstage false else s
  if s.twin.swapId = some d.id then { s with twin := { s.twin with swapId := none, swapFrame := none, swapAsked := false } } else s

/-- What becomes of one fetched descriptor when its ring is disabled (R292). -/
def State.abortDesc (s : State) (d : Desc) : State :=
  match s.strm.find? (fun e => e.2.bufs.any (fun b => b.id == d.id && !b.done)) with
  | some (x, st) =>
    match st.bufs.find? (fun b => b.id == d.id) with
    | some b => if b.count = 0 then s.retireEmpty x b 0x0005 else s.retireBuf x b
    | none => s
  | none => if s.writing d then s else (s.abandon d).retireBad d 0x0005

/-- SQ_DISABLE (R292): nothing further is fetched; what has not started retires. -/
def execSqDisable (r : Fin 64) (s : State) : Out :=
  if (s.sqOf r).enabled then
    let s := (s.clrBit (Reg.sq r 8) 0).updSq r (fun q => { q with enabled := false, drained := false })
    let s := s.each (s.host.inflight.filter (fun d => d.ring == r.val)) (fun d t => if (t.descOf d.id).isSome then t.abortDesc d else t)
    .next (s.drainCheck r)
  else .next s

/-- CQ_ENABLE (R290, R291, R450). -/
def execCqEnable (q : Fin 64) (v : W32) (s : State) : Out :=
  let a := Reg.cq q 8
  if (s.cqOf q).enabled || !s.ringsOpen then .next s
  else
    let s := s.setReg a (v &&& 0xFFFFFFF0)
    if sizeOk v then
      .next (((s.setBit a 0).setCq q { enabled := true, posted := 0, head := 0, pending := 0, firstUp := 0 }).postAll)
    else .next s

/-- CQ_DISABLE (R291): ignored and counted while an enabled submission ring names the ring. -/
def execCqDisable (q : Fin 64) (s : State) : Out :=
  if (s.cqOf q).enabled = false then .next s
  else if (List.range 64).any (fun r => (s.sqOf r).enabled && decide (field (s.reg (Reg.sq r 8)) 15 10 = q.val)) then .next (s.bump 0x4020)
  else .next ((s.clrBit (Reg.cq q 8) 0).updCq q (fun c => { c with enabled := false, pending := 0 }))

/-! ### The port -/

/-- Packets whose buffers had not completed stand first in their queues again (R307). -/
def StreamSt.unpost (st : StreamSt) : StreamSt :=
  { st with queue := st.bufs.flatMap (fun b => b.held) ++ st.queue, bufs := [] }

/-- Capture units lose the descriptors they hold (R307). -/
def CapSt.unpost (c : CapSt) : CapSt := { c with descs := [], mode := if c.mode = .armed then .idle else c.mode }

/-- Every HOSTIF register takes its WARM reset value (R307, R470). -/
def State.hostifReset (s : State) : State :=
  { s with regs := s.regs.filter (fun e => !decide (0x4000 ≤ e.1 ∧ e.1 < 0x8000)), sq := [], cq := [],
           log := { s.log with handling := s.log.handling.filter (fun h => !decide (0x4000 ≤ h.reg ∧ h.reg < 0x8000)) } }

/-- Every descriptor of the rings is dropped without a completion (R307); side-band descriptors stay (R426). -/
def State.dropRings (s : State) : State :=
  let kept := s.host.inflight.filter (fun d => decide (d.ring = 64))
  let s := { s with host := { s.host with control := controlInit, gen := 0, width := 0, aer := 0, fetching := false, again := false, turn := 0, waiting := [], inflight := kept } }
  let s := s.each (s.strm.map (fun e => e.1)) (fun x t => t.updStrm x StreamSt.unpost)
  let s := s.each (s.cap.map (fun e => e.1)) (fun u t => t.updCap u CapSt.unpost)
  let lanes := s.comp.lanes.map (fun l => match l with
    | .job _ _ => .free
    | x => x)
  { s with mantis := { s.mantis with jobs := [] }, twin := { s.twin with awaiting := [] }, comp := { lanes := lanes, jobs := [], chains := [] } }

/-- PCIE_CONVENTIONAL_RESET (R307): registers, descriptors, packets, captures, the open transaction. A commit that has passed validation has closed its own and goes on (R317). Whether PERST# brought it, which then stays asserted until PERST_DEASSERT, is a free value (assumption 105). -/
def execPcieConventionalReset (s : State) : Out :=
  let perst := s.pads.perst || s.freeW.getLsbD 0
  let s := s.freeNext.hostifReset.dropRings
  let s := { s with pads := { s.pads with pcieUp := false, perst := perst }, cfg := { s.cfg with txn := none } }
  .next s.endStreams.assignAll

/-- Requests that waited are issued: packets of streams that end, completions, messages, capture copies, the read of a request to Svetron (R390). -/
def State.resumeDma (s : State) : State := (((if s.delivers then s.endStreams else s).postAll.msixPending).copyJobs).reqPull

/-- The link in service, at one of the rates and widths of Table 11-1: training with the host's port chooses them (free value, assumption 86). -/
def State.pcieTrained (s : State) : State :=
  let w := (Config.freeWord s.freeCtr).toNat
  { s with pads := { s.pads with pcieUp := true }, host := { s.host with gen := 1 + w % 4, width := 2 ^ (w / 4 % 3) }, freeCtr := s.freeCtr + 1 }

/-- PCIE_LINK_UP (R283, R450): training starts once step 3 has ended and PERST# is deasserted; an entry into HIBERNATE keeps the link down from its commit point on (R409). -/
def execPcieLinkUp (s : State) : Out :=
  if 4 ≤ s.boot.stage ∧ s.pads.perst = false ∧ s.pwr.committed = false then .next s.pcieTrained.resumeDma
  else .next s

/-- BUS_MASTER_ENABLE (R283, R307): a configuration write over the link, answered with Retry Status until step 4 has ended (R450); MSI-X messages that were held are sent once they may be. -/
def execBusMasterEnable (c : PcieControl) (s : State) : Out :=
  if s.pads.pcieUp = false ∨ s.boot.stage < 5 then .next s
  else
    let s := { s with host := { s.host with control := c } }
    .next (if c.busMaster then s.resumeDma else s)

end Sys2Proof.Machine
end

