-- ==== Sys2Proof/Machine/Excite.lean ====
section
/-! DEFINITION. Excitation outputs and the charge pump (R65 to R85), protection switches and the input comparators (R62, R86), and the open-wire check (R88). -/

namespace Sys2Proof.Machine

open Sys2Proof

/-! ### Outputs -/

/-- An output is in a pulse. -/
def ExcSt.pulsing (e : ExcSt) : Bool := decide (e.mode = .inrush ∨ e.mode = .pulse)

/-- Enabled outputs (field EXC[m].ENABLE). -/
def State.excEnabled (s : State) : List Nat := (List.range 32).filter (fun m => s.cfgOn Fld.excEnable m)

/-- Outputs in a pulse now. -/
def State.pulsingNow (s : State) : List Nat := (List.range 32).filter (fun m => (s.excOf m).pulsing)

/-- Commanded polarity of a frame (R70). -/
def Look.negative (c : Look) (m k : Nat) : Bool := c Fld.excChop m 0 == 1 && k % 2 == 1

/-- The handling of an output's source ends when no fault of it stands any longer (R84, R458). -/
def State.excClose (s : State) (m : Nat) : State :=
  let e := s.excOf m
  if e.retrying || e.openNow || e.senseOpen then s else s.endHandling (Reg.excStatus m) m

/-- A wiring fault of an output is entered (R84): sticky bit, one DEGRADED error. -/
def State.excFault (s : State) (m bit : Nat) : State :=
  (s.setBit (Reg.excStatus m) bit).raise { errAt 2 (Reg.excStatus m) bit m with recovers := true }

/-- SHORT_RETRIES + 1, stopping at 255 (Table 3-8). -/
def State.retryFailed (s : State) (m : Nat) : State :=
  let w := s.reg (Reg.excStatus m)
  s.setReg (Reg.excStatus m) (at_ 24 (min 255 (field w 31 24 + 1)) ||| (w &&& 0x00FFFFFF))

/-- An output goes to SHORT (R80, R84): a failed retry is the fault of the pulse that follows RETRY. -/
def State.toShort (s : State) (m : Nat) : State :=
  let again := (s.excOf m).isRetry
  let s := s.updExc m (fun e => { e with mode := .short, faultUp := s.tm.up, retrying := true, isRetry := false, cutAt := none })
  let s := (s.bump (Reg.excShortCount m)).doIf again (fun t => t.retryFailed m)
  s.excFault m 10

/-- An output goes to REVERSED (R80, R81, R84). -/
def State.toReversed (s : State) (m : Nat) : State :=
  let again := (s.excOf m).isRetry
  let s := s.updExc m (fun e => { e with mode := .reversed, faultUp := s.tm.up, retrying := true, isRetry := false, cutAt := none })
  (s.doIf again (fun t => t.retryFailed m)).excFault m 13

/-- A pulse ends well: the output returns to IDLE, and a fault it was retrying is over (R80, R84). -/
def State.goodPulse (s : State) (m : Nat) : State :=
  let w := s.reg (Reg.excStatus m)
  let s := s.setReg (Reg.excStatus m) (w &&& 0x00FFFFFF)
  (s.updExc m (fun e => { e with mode := .idle, cutAt := none, retrying := false, isRetry := false })).excClose m

/-- The pump runs while an output is enabled (R76). -/
def State.pumpCheck (s : State) : State :=
  if s.excEnabled.isEmpty then { s with pump := { s.pump with running := false, ready := false, railUv := none } }
  else { s with pump := { s.pump with running := true } }

/-- An output whose ENABLE is 1 on an active unit leaves DISABLED or STANDBY_Z (R80, R82). -/
def State.excStart (s : State) (m : Nat) : State :=
  s.updExc m (fun e => if (e.mode = .disabled ∨ e.mode = .standbyZ) ∧ e.reEnable = false then { e with mode := if s.pump.ready then .idle else .waitPump } else e)

/-- EXC[28] to EXC[31] stay DISABLED while the vault is in FAULT (R379). -/
def State.ownedFault (s : State) (m : Nat) : Bool := s.otp.vaultFuse && decide (s.vault.mode = .fault) && decide (28 ≤ m)

/-- An output takes the state its role, its ENABLE and the standing of the configuration give it (R80, R83, R326, R336); a written ENABLE of 1 is a new enable after SEIZED (R82). DESIGN CHOICE (assumption 88): OPEN and OPEN_SENSE, their runs and an unfinished handling of SHORT or REVERSED stay as they stood when the output is disabled, seized or becomes STANDBY_Z. -/
def State.excApply (s : State) (m : Nat) (bad enabledAgain : Bool) : State :=
  let e := s.excOf m
  if e.mode = .seized then s
  else if s.ownedFault m then s.setExc m { e with mode := .disabled, isRetry := false, cutAt := none }
  else if s.twin.role = .standby ∨ s.twin.role = .standbyUnfit then s.setExc m { e with mode := .standbyZ, isRetry := false, cutAt := none }
  else if bad = true ∨ s.cfgOn Fld.excEnable m = false ∨ s.twin.role = .unresolved ∨ s.twin.role = .seized then
    s.setExc m { e with mode := .disabled, isRetry := false, cutAt := none }
  else
    let s := if enabledAgain then s.setExc m { e with reEnable := false } else s
    s.excStart m

/-- Every output after a commit, a change of role, or an entry into BAD. -/
def State.excApplyAll (s : State) (bad : Bool) (writtenOn : List Nat) : State :=
  let s := s.pumpCheck
  s.each (List.range 32) (fun m t => t.excApply m bad (writtenOn.contains m))

/-- Every output is forced to SEIZED (R82). -/
def State.excSeize (s : State) : State :=
  s.each (List.range 32) (fun m t => t.updExc m (fun e => { e with mode := .seized, cutAt := none, isRetry := false, reEnable := true }))

/-- The seize input is released: SEIZED outputs go to DISABLED (R80). -/
def State.excUnseize (s : State) : State :=
  s.each (List.range 32) (fun m t => t.updExc m (fun e => if e.mode = .seized then { e with mode := .disabled } else e))

/-- A pulse that a unit finished after handing over leaves its output to the partner (R80, R357). -/
def State.standbyEnd (s : State) (m : Nat) : State := if s.isStandby then s.excApply m s.cfg.bad false else s

/-- Every running pulse ends (R77). -/
def State.endPulses (s : State) : State :=
  s.each s.pulsingNow (fun m t => (t.updExc m (fun e => { e with mode := .idle, isRetry := false, cutAt := none })).standbyEnd m)

/-- The rail is below V_MAX / 2 + 50 mV (R77), or a sag is injected (Table 19-6). A standby judges its own pump against its enabled outputs (R339). -/
def State.sagAt (s : State) (railUv : Nat) (standby : Bool) : Bool :=
  let ms := if standby then s.excEnabled else s.pulsingNow
  let vmax := ms.foldl (fun v m => max v (s.cfgv Fld.excVexc m 0)) 0
  !ms.isEmpty && (decide (railUv < vmax * 500 + 50000) || (s.injOf 12 1 0).isSome)

/-- PUMP_STATUS bit 2 (R90): the rail as last measured is below the limit of the outputs in a pulse now. -/
def State.sagNow (s : State) : Bool :=
  s.pump.running && (match s.pump.railUv with
    | some uv => s.sagAt uv s.isStandby
    | none => false)

/-- |VEXC_S| differs from VEXC by more than SENSE_TOL (R78). -/
def Look.senseOff (c : Look) (m : Nat) (senseUv : Int) : Bool :=
  let v : Int := c Fld.excVexc m 0 * 1000
  decide (((senseUv.natAbs : Int) - v).natAbs * 100 > c Fld.excSenseTol m 0 * v.toNat)

/-- OPEN is decided on the output current at the edge (Table 3-4). -/
def State.openCheck (s : State) (m ua : Nat) : State :=
  let e := s.excOf m
  let p := s.cfgv Fld.excOpenPersist m 0
  let low := decide (ua < s.cfgv Fld.excOpenI m 0)
  let e := { e with openRun := if low then e.openRun + 1 else 0, passRun := if low then 0 else e.passRun + 1 }
  if !e.openNow && decide (p ≤ e.openRun) then (s.setExc m { e with openNow := true }).excFault m 11
  else if e.openNow && decide (p ≤ e.passRun) then (s.setExc m { e with openNow := false }).excClose m
  else s.setExc m e

/-- One output at its group's strobe edge (R72, R77, R78, R80, R84, R339); sagged, ownSag: the pump sagged at the edge, as an output in a pulse and as a standby sees it. -/
def State.excAtEdge (s : State) (m : Nat) (e : EdgeSample) (sagged ownSag : Bool) : State :=
  let sense := Cells.get (fun _ => 0) e.senseUv m
  let standby := decide ((s.excOf m).mode = .standbyZ)
  let inPulse := (s.excOf m).pulsing
  let sag := if standby then ownSag else sagged
  let shorted := decide ((s.excOf m).mode = .pulse) && (s.injOf 4 1 m).isSome
  let opened := inPulse && (s.injOf 4 2 m).isSome
  let s := s.doIf shorted (fun t => t.useInj 4 1 m)
  let s := s.doIf opened (fun t => t.useInj 4 2 m)
  let lim := e.limited.contains m || shorted
  let ua := if opened then 0 else Cells.get (fun _ => 0) e.outUa m
  let s := if inPulse then s.underInj opened (fun t => t.openCheck m ua) else s
  let s := s.doIf ((inPulse || standby) && sag) (fun t => t.setBit (Reg.excStatus m) 15)
  let x := s.excOf m
  let off := Look.senseOff s.cfgv m sense
  let disturbed := if standby then off || sag else !inPulse || lim || off || x.openNow || x.senseOpen || sag || x.suppressed
  let s := s.setExc m { x with disturbed := disturbed, senseUv := sense, limited := lim, suppressed := false }
  if lim && decide ((s.excOf m).mode = .pulse) then s.underInj shorted (fun t => t.toShort m) else s

/-- The outputs of a group at its strobe edge: one sag of the pump, as the edge finds it, for all of them; PUMP_SAG_COUNT rises for it (R77). -/
def State.excEdge (s : State) (g : Nat) (e : EdgeSample) : State :=
  let ms := (List.range 32).filter (fun m => s.cfgv Fld.excGroup m 0 == g)
  let sagged := s.sagAt e.railUv false
  let ownSag := s.sagAt e.railUv true
  let s := s.doIf (sagged || (s.isStandby && ownSag)) (fun t => t.bump 0x8708)
  let s := { s with pump := { s.pump with railUv := some e.railUv } }
  s.each ms (fun m t => t.excAtEdge m e sagged ownSag)

/-- An accepted event sets the end of a pulse that would end less than 1,000 ns before the output's next one starts (R68): 1,000 ns before that start, or the accepting edge when that instant has passed; times in ns since the timebase started. -/
def State.excCut (s : State) (g acceptUp edgeUp : Nat) : State :=
  s.each ((List.range 32).filter (fun m => (s.cfgv Fld.excGroup m 0 == g) && (s.excOf m).pulsing)) (fun m t =>
    let start := edgeUp - t.cfgv Fld.excLead m 0
    if start < (t.excOf m).endUp + 1000 then t.updExc m (fun e => { e with cutAt := some (max acceptUp (start - 1000)) }) else t)

/-! ### Pulse commands -/

/-- Start a pulse of a frame, or suppress it when six others run (R70, R74, R80). -/
def State.startPulse (s : State) (m k : Nat) : State :=
  let neg := Look.negative s.cfgv m k
  if 6 ≤ (s.pulsingNow.filter (fun x => x != m)).length then
    (((s.updExc m (fun e => { e with suppressed := true, mode := .idle })).bump 0x8704).setBit (Reg.excStatus m) 14).raise (errAt 1 (Reg.excStatus m) 14 m)
  else s.updExc m (fun e => { e with mode := .inrush, negative := neg, pulseFrame := k, cutAt := none, startUp := s.tm.up, endUp := s.tm.up + s.cfgv Fld.excWidth m 0 })

/-- POLARITY_CHECK (R81): 500 ns after the pulse began. -/
def execPolarityCheck (m : Fin 32) (senseUv : Int) (s : State) : Out :=
  let e := s.excOf m
  if e.mode = .inrush then
    let forced := (s.injOf 4 3 m).isSome
    let s := s.reachUp (e.startUp + 500)
    let s := s.doIf forced (fun t => t.useInj 4 3 m)
    let opposite := decide (50000 ≤ senseUv.natAbs) && decide ((senseUv < 0) ≠ (e.negative = true))
    if forced || opposite then .next (s.underInj forced (fun t => t.toReversed m)) else .next s
  else .next s

/-- INRUSH_END (R80): 20 µs after the pulse began. -/
def execInrushEnd (m : Fin 32) (s : State) : Out :=
  if (s.excOf m).mode = .inrush then .next ((s.reachUp ((s.excOf m).startUp + 20000)).updExc m (fun e => { e with mode := .pulse })) else .next s

/-- PULSE_END (R67, R68, R80): at S − LEAD + WIDTH, or where an event cuts the pulse. That a short pulse limited through its final 1 µs goes to SHORT here, and not to IDLE, is the command's own row. -/
def execPulseEnd (m : Fin 32) (limited : Bool) (s : State) : Out :=
  let e := s.excOf m
  if e.pulsing then
    let short := decide (e.mode = .inrush) && decide (s.cfgv Fld.excWidth m 0 ≤ 20000)
    let forced := short && (s.injOf 4 1 m).isSome
    let s := s.reachUp ((e.cutAt.map (min e.endUp)).getD e.endUp)
    let s := s.doIf forced (fun t => t.useInj 4 1 m)
    if short && (limited || forced) then .next ((s.underInj forced (fun t => t.toShort m)).standbyEnd m) else .next ((s.goodPulse m).standbyEnd m)
  else .next s

/-- SHORT_DETECT (R80, R84, R85): the output's own limiter, outside its own inrush window. -/
def execShortDetect (m : Fin 32) (s : State) : Out :=
  if (s.excOf m).mode = .pulse then .next ((s.toShort m).standbyEnd m) else .next s

/-- RETRY_ELAPSED (R80): RETRY × 100 ms after the detection. -/
def execRetryElapsed (m : Fin 32) (s : State) : Out :=
  let e := s.excOf m
  if (e.mode = .short ∨ e.mode = .reversed) ∧ s.cfgv Fld.excRetry m 0 ≠ 0 then
    .next ((s.reachUp (e.faultUp + s.cfgv Fld.excRetry m 0 * 100000000)).setExc m { e with mode := .idle, isRetry := true })
  else .next s

/-- OPEN_SENSE_TEST_END (R84): a test that did not run neither breaks nor extends a run. -/
def execOpenSenseTestEnd (m : Fin 32) (ran : Bool) (shiftPUv shiftNUv : Nat) (s : State) : Out :=
  let e := s.excOf m
  let g := s.cfgv Fld.excGroup m 0
  if !ran || decide (e.mode ≠ .idle) || !Look.diagFrame s.cfgv g e.pulseFrame then .next s
  else
    let forced := (s.injOf 4 4 m).isSome
    let s := s.doIf forced (fun t => t.useInj 4 4 m)
    let fail := forced || decide (200000 < shiftPUv) || decide (200000 < shiftNUv)
    let e := { e with senseFail := if fail then e.senseFail + 1 else 0, sensePass := if fail then 0 else e.sensePass + 1 }
    if !e.senseOpen && decide (2 ≤ e.senseFail) then .next (s.underInj forced (fun t => (t.setExc m { e with senseOpen := true }).excFault m 12))
    else if e.senseOpen && decide (2 ≤ e.sensePass) then .next ((s.setExc m { e with senseOpen := false }).excClose m)
    else .next (s.setExc m e)

/-- PUMP_READY (R76, R80). -/
def execPumpReady (s : State) : Out :=
  if s.pump.running then
    let s := { s with pump := { s.pump with ready := true } }
    .next (s.each (List.range 32) (fun m t => t.updExc m (fun e => if e.mode = .waitPump then { e with mode := .idle } else e)))
  else .next s

/-- A sag that stands began no earlier than the oldest running pulse (R77). -/
def State.sagFrom (s : State) : Nat := (s.pulsingNow.map (fun m => (s.excOf m).startUp)).foldl min s.tm.up

/-- PUMP_SAG_TIMEOUT (R77): every running pulse ends, with one RECOVERABLE error per event; with no output in a pulse the sag is over. -/
def execPumpSagTimeout (s : State) : Out :=
  if s.pulsingNow.isEmpty then .next s
  else
    let s := s.reachUp (s.sagFrom + 100000)
    let forced := (s.injOf 12 1 0).isSome
    let s := s.underInj forced (fun t => t.raise (errAt 1 0x8700 2 0xFFFF))
    .next s.endPulses

/-- A write of 1 to a SEEN bit clears it, and with RETRY 0 re-arms the output from a state (R80). -/
def State.rearm (s : State) (m bit : Nat) (from_ : ExcMode) : State :=
  let s := s.clrBit (Reg.excStatus m) bit
  s.updExc m (fun e => if e.mode = from_ ∧ s.cfgv Fld.excRetry m 0 = 0 then { e with mode := .idle, isRetry := false } else e)

/-- SHORT_SEEN_REARM (R80). -/
def execShortSeenRearm (m : Fin 32) (s : State) : Out := .next (s.rearm m 10 .short)

/-- REVERSED_SEEN_REARM (R80). -/
def execReversedSeenRearm (m : Fin 32) (s : State) : Out := .next (s.rearm m 13 .reversed)

/-! ### Inputs -/

/-- An input the comparator watches (R86): enabled, or the odd input of an enabled DIFF pair. -/
def Look.watched (c : Look) (i : Nat) : Bool :=
  if c.diff (i / 2) then c.slotOn (coreOf i) (i / 2 * 2 % 8) else c.slotOn (coreOf i) (i % 8)

/-- The input whose fields govern an input (R58). -/
def Look.governs (c : Look) (i : Nat) : Nat := if c.diff (i / 2) then i / 2 * 2 else i

/-- Registers of the input conditions (Table 3-7). -/
def Reg.ainOpen (i : Nat) : Nat := 0x8600 + 4 * (i / 32)
def Reg.ainOver (i : Nat) : Nat := 0x8640 + 4 * (i / 32)
def Reg.ainRev (i : Nat) : Nat := 0x8680 + 4 * (i / 32)
def Reg.ainBoot (i : Nat) : Nat := 0x86C0 + 4 * (i / 32)

/-- An input condition is entered: one error of its class (Table 3-5). -/
def State.ainFault (s : State) (cls reg i : Nat) : State := s.raise { errAt cls reg (i % 32) i with recovers := true }

/-- PROTECTION_OPEN (R62, R86). -/
def execProtectionOpen (i : Fin 512) (positive : Bool) (s : State) : Out :=
  let a := s.ainOf i
  let enters := Look.watched s.cfgv i && !a.overIn
  let s := s.setAin i { a with switchOpen := true, positive := positive, overIn := a.overIn || enters }
  if enters then .next (s.ainFault 1 (Reg.ainOver i) i) else .next s

/-- PROTECTION_CLOSE (R62, R86). -/
def execProtectionClose (i : Fin 512) (s : State) : Out :=
  .next ((s.updAin i (fun a => { a with switchOpen := false, overIn := false })).endHandling (Reg.ainOver i) i)

/-- The window comparator of an input at a strobe edge (R86): overvoltage is the protection switch, open input a run of edges in its band. -/
def State.ainAtEdge (s : State) (i : Nat) (e : EdgeSample) : State :=
  let a := s.ainOf i
  let openInj := (s.injOf 5 1 i).isSome
  let overInj := (s.injOf 5 2 i).isSome
  let s := (s.doIf openInj (fun t => t.useInj 5 1 i)).doIf overInj (fun t => t.useInj 5 2 i)
  let mag := (Cells.get (fun _ => (0 : Int)) e.pinUv i).natAbs
  let inBand := openInj || decide (1700000 ≤ mag ∧ mag ≤ 2200000)
  let inside := !openInj && decide (mag < 1700000)
  let run := if inBand then a.openRun + 1 else 0
  let enter := !a.openNow && decide (s.cfgv Fld.ainOwPersist (Look.governs s.cfgv i) 0 ≤ run)
  let leave := a.openNow && inside
  let above := a.switchOpen || overInj
  let overEnter := above && !a.overIn
  let s := s.setAin i { a with openRun := run, openNow := (a.openNow || enter) && !leave, overNow := above, overIn := above, revMark := a.revNow }
  let s := if enter then s.underInj openInj (fun t => t.ainFault 2 (Reg.ainOpen i) i) else s
  let s := if leave then s.endHandling (Reg.ainOpen i) i else s
  let s := if overEnter then s.underInj overInj (fun t => t.ainFault 1 (Reg.ainOver i) i) else s
  if a.overIn && !above then s.endHandling (Reg.ainOver i) i else s

/-- Every watched input of a group at its strobe edge. DESIGN CHOICE (assumption 48): an input that a commit disables keeps its conditions, runs and AIN bits as they stood; the manual says nothing of them. -/
def State.ainEdge (s : State) (g : Nat) (e : EdgeSample) : State :=
  let c : Look := s.cfgv
  s.each ((c.coresIn g).flatMap (fun n => ((List.range 8).map (fun k => 8 * n + k)).filter c.watched)) (fun i t => t.ainAtEdge i e)

/-- The reversal check on a frame's result of a channel (R86): marks change from the next frame on. -/
def State.reversal (s : State) (i : Nat) (q : Int) : State :=
  let a := s.ainOf i
  let sign := s.cfgv Fld.ainExpectSign i 0
  let thr : Int := s.cfgv Fld.ainRevThreshold i 0
  let hit := (decide (sign = 1) && decide (q < -thr)) || (decide (sign = 2) && decide (thr < q))
  let run := if hit then a.revRun + 1 else 0
  let enter := !a.revNow && decide (s.cfgv Fld.ainRevPersist i 0 ≤ run)
  let s := s.setAin i { a with revRun := run, revNow := (a.revNow || enter) && hit }
  if enter then s.ainFault 0 (Reg.ainRev i) i else s

/-- OW_TEST_START (R88). -/
def execOwTestStart (s : State) : Out :=
  if s.pump.owRunning then .next s
  else if (s.grpOf 0).mode = .stopped ∧ (s.grpOf 1).mode = .stopped then
    .next { s with pump := { s.pump with owRunning := true, owDone := false, owRefused := false, owUp := s.tm.up } }
  else .next { s with pump := { s.pump with owDone := false, owRefused := true } }

/-- AIN_OPEN_BOOT after an open-wire check (R87, R88). -/
def State.owResult (s : State) (moved : List Nat) : State :=
  s.each (List.range 16) (fun w t => t.setReg (0x86C0 + 4 * w) (BitVec.ofNat 32 (maskOf ((List.range 32).filter (fun b => moved.contains (32 * w + b))))))

/-- OW_TEST_END (R88): the check takes 500 µs. DESIGN CHOICE (assumption 89): a strobe group that starts while the check runs does not end it. -/
def execOwTestEnd (moved : List Nat) (s : State) : Out :=
  if s.pump.owRunning then
    let s := (s.reachUp (s.pump.owUp + 500000)).owResult moved
    .next { s with pump := { s.pump with owRunning := false, owDone := true } }
  else .next s

end Sys2Proof.Machine
end

