-- ==== Sys2Proof/Machine/Convert.lean ====
section
/-! DEFINITION. Converter cores: codes and trim (R96 to R98), results and marks (R64, R72, R99, R100), and the self-checks (R102 to R106). -/

namespace Sys2Proof.Machine

open Sys2Proof

/-! ### Trim and temperature -/

/-- Converter terms of a core; neutral when the trim failed its check (R108). -/
def State.coreTrim (s : State) (n : Nat) : CoreTrim :=
  if s.otp.trimGood then Cells.get (fun _ => CoreTrim.neutral) s.otp.coreTrim n else .neutral

/-- Amplifier terms of a channel's pair at its gain and effective mode (R96); neutral when the trim failed its check. -/
def State.ampTrim (s : State) (i : Nat) : AmpTrim :=
  let c : Look := s.cfgv
  let key := (i / 2) * 16 + c Fld.ainPairGain (i / 2) 0 * 2 + (if c.ratio i then 1 else 0)
  if s.otp.trimGood then Cells.get (fun _ => AmpTrim.neutral) s.otp.ampTrim key else .neutral

/-- A core whose own temperature reading qualifies (R98 case 1). DEDUCED (assumption 50): TEMP_SENSOR counts as it stands at the conversion, so slot 11 follows a change that slot 10 of its frame made. -/
def State.ownTemp (s : State) (n : Nat) : Option Int :=
  let c := s.coreOf n
  if Look.slotOn s.cfgv n 10 && !c.tSensor.standing then c.t16 else none

/-- Temperature of R98 for a core, in 1/16 °C, and whether it falls back. -/
def State.trimTemp (s : State) (n : Nat) : Int × Bool :=
  match s.ownTemp n with
  | some t => (t, false)
  | none =>
    let ts := (List.range 64).filterMap s.ownTemp
    (if ts.isEmpty then 400 else roundHalfEven (ts.foldl (· + ·) 0) ts.length, true)

/-! ### Codes (R96, R97) -/

/-- The sum of the weights of the decisions taken. -/
def weightSum (ws : List Nat) (d : BitVec 22) : Nat :=
  (List.range 22).foldl (fun a i => if d.getLsbD i then a + ws.getD i 0 else a) 0

/-- f of R96, before the limits. -/
def trimmed (ct : CoreTrim) (ofsAmp ga : Int) (d : BitVec 22) : Int :=
  let raw : Int := weightSum ct.weights d - ct.wMid
  let a := raw - ct.ofs
  roundHalfEven ((a * ct.gain - ofsAmp * 4194304) * ga) 4503599627370496

/-- Amplifier offset at a temperature (R96). -/
def AmpTrim.ofsAt (a : AmpTrim) (t16 : Int) : Int := roundHalfEven (16 * a.ofs0 + a.tcOfs * (t16 - 400)) 16
/-- Amplifier gain at a temperature (R96). -/
def AmpTrim.gainAt (a : AmpTrim) (t16 : Int) : Int := roundHalfEven (16 * a.ga0 + a.tcGa * (t16 - 400)) 16

/-- A code with its clip mark (R96, R97). -/
def limitCode (f : Int) : Int × Bool :=
  let c := clampInt (-524288) 524287 f
  (c, decide (f < -524288 ∨ 524287 < f ∨ c = -524288 ∨ c = 524287))

/-- The code of a conversion: amplifier terms of a channel, or none for slots 8 to 10. DEDUCED (assumption 51): slot 11 takes the owning channel's amplifier terms at the temperature of the converting core. -/
def State.code (s : State) (n : Nat) (amp : Option Nat) (d : BitVec 22) : Int × Bool :=
  let t := (s.trimTemp n).1
  let ct := s.coreTrim n
  match amp with
  | some i => let a := s.ampTrim i; limitCode (trimmed ct (a.ofsAt t) (a.gainAt t) d)
  | none => limitCode (trimmed ct 0 4194304 d)

/-! ### Self-checks -/

/-- No DEGRADED condition stands on a core's source any longer (R102, R458); PAIR_MISMATCH stands on the even core's (R106). -/
def State.coreClose (s : State) (n : Nat) : State :=
  let c := s.coreOf n
  if c.ref.standing || c.supply.standing || c.tCrit.standing || c.tSensor.standing || (decide (n % 2 = 0) && (s.pairOf (n / 2)).standing) then s
  else s.endHandling (Reg.cnv n 0) n

/-- A reading enters a check's runs (R102): a failing reading, a clearing one, or one that is neither. -/
def CheckSt.run (c : CheckSt) (fail pass : Bool) : CheckSt :=
  { c with fails := if fail then c.fails + 1 else 0, passes := if pass then c.passes + 1 else 0 }

/-- Outcome of a check after a reading: entered, left. -/
def CheckSt.judge (c : CheckSt) (nFail nPass : Nat) : CheckSt × Bool × Bool :=
  if !c.standing && decide (nFail ≤ c.fails) then ({ c with standing := true }, true, false)
  else if c.standing && decide (nPass ≤ c.passes) then ({ c with standing := false }, false, true)
  else (c, false, false)

/-- A check of a core takes a reading: the error of its entry, and whether it ended. -/
def State.coreJudge (s : State) (n : Nat) (get : CoreSt → CheckSt) (put : CoreSt → CheckSt → CoreSt) (bit cls nFail nPass : Nat) (fail pass : Bool) : State × List ErrIn × Bool :=
  let r := ((get (s.coreOf n)).run fail pass).judge nFail nPass
  let s := (s.updCore n (fun c => put c r.1)).doIf r.2.1 (fun t => t.setBit (Reg.cnv n 0) bit)
  (s, if r.2.1 then [{ errAt cls (Reg.cnv n 0) bit n with recovers := decide (1 ≤ cls) }] else [], r.2.2)

/-- What the checks of one reading ended and entered is reported together, the ends first (R457, R458): the core's handling ends when no condition that stood before the reading still stands, whatever it has entered. -/
def State.coreReport (s : State) (n : Nat) (old : CoreSt) (left : Bool) (es : List ErrIn) : State :=
  let c := s.coreOf n
  let still := (c.ref.standing && old.ref.standing) || (c.supply.standing && old.supply.standing) || (c.tCrit.standing && old.tCrit.standing)
    || (c.tSensor.standing && old.tSensor.standing) || (decide (n % 2 = 0) && (s.pairOf (n / 2)).standing)
  (s.doIf (left && !still) (fun t => t.endHandling (Reg.cnv n 0) n)).raiseAll es

/-- Store a check of a core and report its entry or end. -/
def State.coreCheck (s : State) (n : Nat) (get : CoreSt → CheckSt) (put : CoreSt → CheckSt → CoreSt) (bit cls nFail nPass : Nat) (fail pass : Bool) : State :=
  let r := s.coreJudge n get put bit cls nFail nPass fail pass
  r.1.coreReport n (s.coreOf n) r.2.2 r.2.1

/-- T < X °C for a slot-10 code (R103). -/
def below (code : Int) (x : Int) : Bool := decide (code * 1250 < (x + 225) * 1048576)

/-- T of a slot-10 code in 1/16 °C (R98). -/
def temp16 (code : Int) : Int := roundHalfEven (16 * (code * 1250 - 225 * 1048576)) 1048576

/-- Slot 8 (Table 4-2): the reference check. -/
def State.refCheck (s : State) (n : Nat) (code : Int) : State :=
  let ok := decide (419010 ≤ code ∧ code ≤ 419850)
  (s.setReg (Reg.cnv n 4) (BitVec.ofInt 32 code)).coreCheck n (·.ref) (fun c v => { c with ref := v }) 11 2 2 2 (!ok) ok

/-- Slot 9: the supply check. CNV_SUPPLY_MV is rounded half to even (assumption 30). -/
def State.supplyCheck (s : State) (n : Nat) (code : Int) : State :=
  let ok := decide (358613 ≤ code ∧ code ≤ 396362)
  (s.setReg (Reg.cnv n 8) (BitVec.ofInt 32 (roundHalfEven (code * 5000) 1048576))).coreCheck n (·.supply) (fun c v => { c with supply := v }) 12 2 2 2 (!ok) ok

/-- Slot 10: temperature high, critical, sensor; the reading is used from the next frame on (R98). -/
def State.tempCheck (s : State) (n : Nat) (code : Int) : State :=
  let hi : Int := s.cfgInt Fld.cnvTHigh n
  let t := temp16 code
  let s := (s.setReg (Reg.cnv n 0xC) (BitVec.ofInt 32 t)).updCore n (fun c => { c with t16Next := some t })
  let old := s.coreOf n
  let ok := !below code (-60) && decide (code * 1250 ≤ (160 + 225) * 1048576)
  let a := s.coreJudge n (·.tHigh) (fun c v => { c with tHigh := v }) 13 0 1 1 (!below code hi) (below code (hi - 5))
  let b := a.1.coreJudge n (·.tCrit) (fun c v => { c with tCrit := v }) 13 2 1 1 (!below code 135) (below code 130)
  let c := b.1.coreJudge n (·.tSensor) (fun c v => { c with tSensor := v }) 13 2 2 2 (!ok) ok
  c.1.coreReport n old (b.2.2 || c.2.2) (a.2.1 ++ b.2.1 ++ c.2.1)

/-- The suspect of a pair mismatch (R106). -/
def State.suspect (s : State) (k : Nat) : Nat :=
  let bad := fun n => (s.coreOf n).ref.standing || (s.coreOf n).supply.standing || (s.coreOf n).tCrit.standing
  if bad (2 * k) && !bad (2 * k + 1) then 2 * k
  else if bad (2 * k + 1) && !bad (2 * k) then 2 * k + 1
  else 0xFFFF

/-- One cross-check of a converting core (R105, R106). DESIGN CHOICE (assumption 52): entering PAIR_MISMATCH leaves the run counts of both cores as they stand, so passing checks the other core has already counted count towards its end. -/
def State.crossCheck (s : State) (n : Nat) (diff : Int) : State :=
  let fail := decide ((s.cfgv Fld.cnvXchkTol n 0 : Int) < diff.natAbs)
  let c := s.coreOf n
  let c := { c with xFails := if fail then c.xFails + 1 else 0, xPasses := if fail then 0 else c.xPasses + 1 }
  let p := s.cfgv Fld.cnvXchkPersist n 0
  let k := n / 2
  let s := ((s.setCore n c).setReg (Reg.cnv n 0x10) (BitVec.ofInt 32 diff)).doIf fail (fun t => t.bump (Reg.cnv n 0x14))
  let pr := s.pairOf k
  if !pr.standing && decide (p ≤ c.xFails) then
    let s := ((s.setPair k { pr with standing := true }).setBit (Reg.cnv (2 * k) 0) 14).setBit (Reg.cnv (2 * k + 1) 0) 14
    s.raise { errAt 2 (Reg.cnv (2 * k) 0) 14 (2 * k) with detail := s.suspect k, recovers := true }
  else if pr.standing && decide (p ≤ c.xPasses) then ((s.setPair k { pr with standing := false }).coreClose (2 * k)).coreClose (2 * k + 1)
  else s

/-- The cross-check runs once both readings of the frame are in (R105). -/
def State.tryCross (s : State) (n : Nat) : State :=
  let i := Look.owning s.cfgv n
  match (s.coreOf n).slot11, s.resOf i with
  | some a, some b =>
    if a.timeout || b.timeout || a.marks.getLsbD 0 || b.marks.getLsbD 0 || b.wiring || b.marks.getLsbD 2 then s
    else s.crossCheck n (a.code - b.code)
  | _, _ => s

/-! ### Results -/

/-- Both inputs of a channel. -/
def Look.pinsOf (c : Look) (i : Nat) : List Nat := if c.diff (i / 2) then [i, i + 1] else [i]

/-- Sign of the full-scale result of R64, when a protection switch was open at the edge. -/
def State.fullScale (s : State) (i : Nat) : Option Bool :=
  if (s.ainOf i).overNow then some (s.ainOf i).positive
  else if Look.diff s.cfgv (i / 2) && (s.ainOf (i + 1)).overNow then some (!(s.ainOf (i + 1)).positive)
  else none

/-- A wiring fault marks a channel's results (R86). -/
def State.wiringMark (s : State) (i : Nat) : Bool :=
  (Look.pinsOf s.cfgv i).any (fun j => (s.ainOf j).openNow || (s.ainOf j).overNow) || (s.ainOf i).revMark

/-- The standing marks of a result before its code is known (R78, R86, R100, R102, R104). -/
def State.standingMarks (s : State) (i : Nat) : Marks :=
  let c : Look := s.cfgv
  let core := s.coreOf (i / 8)
  let plaus := s.wiringMark i || core.marksPlaus || (core.marksRef && !c.ratio i)
  let exc := match c.bind i with
    | some m => (s.excOf m).disturbed
    | none => false
  (if plaus then 2 else 0) ||| (if exc then 4 else 0) ||| (if c.ratio i then 8 else 0)

/-- The sensed excitation of a RATIO channel is below 0.4 V (R72). -/
def State.noRatio (s : State) (i : Nat) : Bool :=
  match Look.bind s.cfgv i with
  | some m => Look.ratio s.cfgv i && decide ((s.excOf m).senseUv.natAbs < 400000)
  | none => false

/-- A channel is demodulated in a frame (R71, R99). -/
def Look.demod (c : Look) (i k : Nat) : Bool :=
  match c.bind i with
  | some m => c.absolute i && c.negative m k
  | none => false

/-- The result of an input slot (R64, R72, R97, R99, R100, R102). DESIGN CHOICE (assumption 90): a conversion that times out gives 0 without the clip mark also when the input's switch was open, and an open switch gives full scale also when |VEXC_S| is below 0.4 V. -/
def State.inputResult (s : State) (i k : Nat) (d : BitVec 22) (completed : Bool) : ResultSt :=
  let m := s.standingMarks i
  let w := s.wiringMark i
  if !completed then { value := 0, marks := m ||| 2, code := 0, wiring := w, timeout := true }
  else
    match s.fullScale i with
    | some pos => { value := if pos then 524287 else -524288, marks := m ||| 3, code := if pos then 524287 else -524288, wiring := true, timeout := false }
    | none =>
      if s.noRatio i then { value := 0, marks := m ||| 4, code := 0, wiring := w, timeout := false }
      else
        let r := s.code (i / 8) (some i) d
        let clip : Marks := if r.2 then 1 else 0
        if Look.demod s.cfgv i k then
          if r.1 = -524288 then { value := 524287, marks := m ||| 1, code := r.1, wiring := w, timeout := false }
          else { value := -r.1, marks := m ||| clip, code := r.1, wiring := w, timeout := false }
        else { value := r.1, marks := m ||| clip, code := r.1, wiring := w, timeout := false }

/-- The Q1.31 word of a result (R99). -/
def ResultSt.q (r : ResultSt) : Int := r.value * 4096

/-- A conversion timed out (Table 4-2). -/
def State.timedOut (s : State) (n : Nat) (injected : Bool) : State :=
  let s := s.bump (Reg.cnv n 0x18)
  s.underInj injected (fun t => t.setBitRaise 2 (Reg.cnv n 0) 15 n)

/-- Injected codes for a slot of a core in a diagnostic frame (Table 19-6). -/
def State.injCode (s : State) (n slot : Nat) : Int :=
  match s.injOf 6 (slot - 7) n with
  | some j => j.value
  | none => 0

/-! ### Holds (R27 to R29, R32, R94, R95) -/

/-- What the hold of a slot of a core closed on at its group's strobe edge, in µV (R27). -/
def State.holdUv (s : State) (n k : Nat) : Int := Cells.get (fun _ => 0) (s.edgeOf (Look.coreGroup s.cfgv n)).holdUv (16 * n + k)

/-- What the conversion of an input slot reads: its hold, or the difference of a DIFF pair's two (R95). Reading leaves the holds as they are (R29). -/
def State.inputUv (s : State) (i : Nat) : Int :=
  if Look.diff s.cfgv (i / 2) then s.holdUv (i / 8) (i % 8 / 2 * 2) - s.holdUv (i / 8) (i % 8 / 2 * 2 + 1) else s.holdUv (i / 8) (i % 8)

/-- The channel a slot of a core converts: its own, or for slot 11 the partner's (R28, R95); none for slots 8 to 10. -/
def Look.slotChannel (c : Look) (n slot : Nat) : Option Nat :=
  if slot < 8 then some (8 * n + slot) else if slot = 11 then some (c.owning n) else none

/-- What a slot of a core reads, in µV (R28, R29, R91). -/
def State.readUv (s : State) (n slot : Nat) : Int :=
  match Look.slotChannel s.cfgv n slot with
  | some i => s.inputUv i
  | none => s.holdUv n slot

/-- The reference of a slot, in µV (R72, R91, R95): the sense hold of the output for a RATIO channel, otherwise the internal span. -/
def State.refUv (s : State) (n slot : Nat) : Int :=
  match Look.slotChannel s.cfgv n slot with
  | some i => if Look.ratio s.cfgv i then ((Look.bind s.cfgv i).map (fun m => (s.excOf m).senseUv)).getD 2500000 else 2500000
  | none => 2500000

/-- The bit decisions of a slot over what its hold closed on. -/
def State.decisions (s : State) (n slot noise : Nat) : BitVec 22 := Config.decisions n noise (s.readUv n slot) (s.refUv n slot)

/-- The strobe edge of a frame, in ns since the timebase started. -/
def FrameSt.edgeUp (f : FrameSt) : Nat := f.dueUp - (200 + 400 * f.nMax)

/-- The end of the conversion at a position (R32, Table 2-1); it began 400 ns earlier. -/
def FrameSt.convEnd (f : FrameSt) (p : Nat) : Nat := f.edgeUp + 450 + 400 * p

/-- When the hold of a slot returns to tracking (R32): with the others of its core, but not before the end of the partner's slot 11 that reads it (R94). -/
def State.holdUntil (s : State) (f : FrameSt) (n k : Nat) : Nat :=
  let c : Look := s.cfgv
  let p := if n % 2 = 0 then n + 1 else n - 1
  let mine := (c.slots n f.diag).length
  let read := (c.slots p f.diag).contains 11 && (k == 7 || (k == 6 && c.diff (4 * n + 3)))
  f.edgeUp + 50 + 400 * (if read then max mine (c.slots p f.diag).length else mine)

/-- The hold of a slot of a core is closed now; in a group without a frame in hand every hold tracks (R27, R32, R36). -/
def State.holdClosed (s : State) (n k : Nat) : Bool :=
  match (s.grpOf (Look.coreGroup s.cfgv n)).frame with
  | some f => decide (f.edgeUp ≤ s.tm.up ∧ s.tm.up < s.holdUntil f n k)
  | none => false

/-! ### Conversions -/

/-- An input slot's conversion has ended (R96 to R101). -/
def State.inputDone (s : State) (n slot k : Nat) (d : BitVec 22) (done : Bool) : State :=
  let i := 8 * n + slot
  let s := s.setRes i (some (s.inputResult i k d done))
  let partner := if n % 2 = 0 then n + 1 else n - 1
  if Look.owning s.cfgv partner = i then s.tryCross partner else s

/-- An internal slot's conversion has ended (R101 to R106); a timeout is not judged. -/
def State.checkDone (s : State) (n slot : Nat) (d : BitVec 22) (done : Bool) : State :=
  let raw := s.code n (if slot = 11 then some (Look.owning s.cfgv n) else none) d
  let inj := (s.injOf 6 (slot - 7) n).isSome
  let code := clampInt (-524288) 524287 (raw.1 + s.injCode n slot)
  let s := s.doIf inj (fun t => t.useInj 6 (slot - 7) n)
  if slot = 11 then
    let r : ResultSt := { value := code, marks := if raw.2 then 1 else 0, code := code, wiring := false, timeout := !done }
    s.underInj inj (fun t => (t.updCore n (fun x => { x with slot11 := some r })).tryCross n)
  else if !done then s
  else s.underInj inj (fun t => if slot = 8 then t.refCheck n code else if slot = 9 then t.supplyCheck n code else t.tempCheck n code)

/-- The conversion at the next position of a core's order ends (R32): with a code over what its hold closed on, or with a timeout. -/
def State.convert (s : State) (n slot k : Nat) (d : BitVec 22) (completed injected : Bool) : State :=
  let s := s.doIf (!completed) (fun t => t.timedOut n injected)
  if slot < 8 then s.inputDone n slot k d completed else s.checkDone n slot d completed

/-- CONVERSION_DONE (R32, R96 to R106): the slot that stands next in the core's ascending order ends its 400 ns; noise is the conversion's own disturbance. -/
def execConversionDone (n : Fin 64) (slot : Fin 12) (noise : Nat) (completed : Bool) (s : State) : Out :=
  let c : Look := s.cfgv
  match (s.grpOf (c.coreGroup n)).frame with
  | none => .next s
  | some f =>
    let p := (s.coreOf n).pos
    if (c.slots n f.diag)[p]? ≠ some slot.val then .next s
    else
      let d := s.decisions n slot noise
      let s := (s.reachUp (f.convEnd p)).updCore n (fun x => { x with pos := p + 1 })
      let tInj := f.diag && (s.injOf 6 5 n).isSome
      let s := s.doIf tInj (fun t => t.useInj 6 5 n)
      .next (s.convert n slot f.k d (completed && !tInj) tInj)

/-- A slot whose conversion has not ended at the ready time timed out (Table 4-2, assumption 37). -/
def State.finishScan (s : State) (f : FrameSt) (n : Nat) : State :=
  let left := (Look.slots s.cfgv n f.diag).drop (s.coreOf n).pos
  s.each left (fun k t => t.convert n k f.k 0 false false)

end Sys2Proof.Machine
end

