-- ==== Sys2Proof/Machine/Filters.lean ====
section
/-! DEFINITION. The moving-average chain (R111 to R125) and mains tracking (R128 to R136). -/

namespace Sys2Proof.Machine

open Sys2Proof

/-! ### Stages -/

/-- A group runs with mains tracking (R126). -/
def MainsSt.on (m : MainsSt) (g : Nat) : Bool := if g = 0 then m.onA else m.onB

/-- A stage tracks mains as its group runs now (R126, R128). -/
def State.tracks (s : State) (i st : Nat) : Bool := s.mains.on (Look.chanGroup s.cfgv i) && s.cfgv Fld.fltMains i st == 1

/-- N and F of a stage (R115, R134): LEN without tracking, MAINS_WEIGHT with it. -/
def State.stageWeights (s : State) (i st : Nat) : Nat × Nat :=
  let c : Look := s.cfgv
  if s.tracks i st then
    let w := s.reg (0x20120 + 0x10 * c.chanGroup i + 4 * (st - 1))
    (field w 31 16, field w 15 0)
  else (c Fld.fltLen i st, 0)

/-- The weighted window of a stage, newest first: S, and the boundary term when F > 0 (R115). -/
def windowNum (hist : List (Int × Marks)) (n f : Nat) : Int :=
  (hist.take n).foldl (fun a x => a + x.1) 0 * 65536 + (if f = 0 then 0 else (f : Int) * (hist.getD n (0, 0)).1)

/-- Marks of a window (R118): the boundary input counts only when F > 0. -/
def windowMarks (hist : List (Int × Marks)) (n f : Nat) : Marks :=
  (hist.take (if f = 0 then n else n + 1)).foldl (fun a x => a ||| x.2) 0

/-- The exact quotient of a window, rounded once (R115). -/
def windowQ (hist : List (Int × Marks)) (n f g : Nat) : Int :=
  roundHalfEven (windowNum hist n f * 2 ^ g) (n * 65536 + f)

/-- The output of a window with its saturation (R115, R117). -/
def windowOut (hist : List (Int × Marks)) (n f g : Nat) : (Int × Marks) × Bool :=
  let q := windowQ hist n f g
  let y := clampInt (-2147483648) 2147483647 q
  let sat := decide (y ≠ q)
  ((y, windowMarks hist n f ||| (if sat then 1 else 0)), sat)

/-- An input enters a stage: the last 65,536 are kept (R114). -/
def StageSt.push (st : StageSt) (x : Int × Marks) : StageSt :=
  { hist := (x :: st.hist).take 65536, since := st.since + 1, block := st.block + 1 }

/-- Inputs a stage needs since it last primed (R121). -/
def primeNeed (n f : Nat) : Nat := if f = 0 then n else n + 1

/-- A stage at a frame whose input it has taken: the output it emits, if any (R120 to R122). -/
def stageEmit (scs : Bool) (st : StageSt) (k cum n f g : Nat) : Option ((Int × Marks) × Bool) :=
  if (k + 1) % cum ≠ 0 then none
  else if scs then (if st.block = n then some (windowOut st.hist n 0 g) else none)
  else if primeNeed n f ≤ st.since then some (windowOut st.hist n f g)
  else none

/-- Stage s of a chain at frame k takes an input; the rest of the chain follows on what it emits. Answers the tap outputs (R112). -/
def State.chainFrom (s : State) (i k : Nat) : Nat → Nat → Int × Marks → State × List (Nat × Int × Marks)
  | 0, _, _ => (s, [])
  | f + 1, st, x =>
    let c : Look := s.cfgv
    let nf := s.stageWeights i st
    let cum := c.cumDec i st
    let a := (s.fltOf (4 * i + (st - 1))).push x
    let b := if c.scs i && decide ((k + 1) % cum = 0) then { a with block := 0 } else a
    let s := s.setFlt (4 * i + (st - 1)) b
    match stageEmit (c.scs i) a k cum nf.1 nf.2 (if st = 1 then c Fld.fltDgain i 0 else 0) with
    | none => (s, [])
    | some (y, sat) =>
      let r := State.chainFrom (s.doIf sat (fun t => t.bump 0x20004)) i k f (st + 1) y
      (r.1, (st, y.1, y.2) :: r.2)

/-- A result of a channel goes through its chain: the outputs of every tap of this frame, tap 0 first. -/
def State.chainRun (s : State) (i k : Nat) (x : Int × Marks) : State × List (Nat × Int × Marks) :=
  let r := s.chainFrom i k (Look.stages s.cfgv i) 1 x
  (r.1, (0, x.1, x.2) :: r.2)

/-- Every stage of a channel discards its window and primes again (R124). -/
def State.chainReset (s : State) (i : Nat) : State := s.each [0, 1, 2, 3] (fun st t => t.setFlt (4 * i + st) .init)

/-! ### The mains detector (R130, R131) -/

/-- The nominal period (Table 5-2). -/
def State.mainsNominal (s : State) : Tq := if s.cfgv Fld.mainsNominal 0 0 = 0 then 20000000 * 65536 else 16666666 * 65536 + 43691

/-- A measured period lies in the lock range of ±5 % (R131). -/
def State.inLock (s : State) (t : Tq) : Bool :=
  let n := if s.cfgv Fld.mainsNominal 0 0 = 0 then 50 else 60
  decide (n * 19 * t ≤ 20 * 65536000000000 ∧ 20 * 65536000000000 ≤ n * 21 * t)

/-- Group of the reference channel. -/
def State.mainsGroup (s : State) : Nat := Look.chanGroup s.cfgv (s.cfgv Fld.mainsRefInput 0 0)

/-- A measurement goes to the engine; while it is absent none is queued, and one that has completed sets ENGINE_ABSENT (R133). -/
def State.mainsDeliver (s : State) (m : Option Tq) (completed : Bool) : State :=
  if s.engineUp then { s with mains := { s.mains with done := s.mains.done ++ [m] } } else s.doIf completed (fun t => t.setBit Reg.mainsStatus 3)

/-- An invalid measurement: counted, and the chain of crossings restarts (R131); completed: its last crossing came. -/
def State.mainsInvalid (s : State) (completed : Bool) : State :=
  (({ s with mains := { s.mains with armed := false, crossings := 0, marked := false, crossT := s.now } } : State).bump 0x20118).mainsDeliver none completed

/-- A hole in the reference group's frames (R131). -/
def State.mainsHole (s : State) (g : Nat) : State :=
  if s.cfgOn Fld.mainsEnable 0 = false ∨ g ≠ s.mainsGroup then s
  else
    let had := s.mains.crossings
    let s := { s with mains := { s.mains with lastX := none } }
    if had = 0 then s else s.mainsInvalid false

/-- A rising crossing at a time; bad: a result that defines it carried a mark (R130, R131). -/
def State.mainsCross (s : State) (tc : Tq) (bad : Bool) : State :=
  let s := s.bump 0x20114
  let m : MainsSt := { s.mains with crossT := tc }
  let avg := 2 ^ s.cfgv Fld.mainsAvgCycles 0 0
  if m.crossings = 0 then { s with mains := { m with crossings := 1, tFirst := tc, marked := bad } }
  else if m.crossings < avg then { s with mains := { m with crossings := m.crossings + 1 } }
  else
    let t := (roundHalfEven ((tc : Int) - m.tFirst) avg).toNat
    let s := (s.setReg 0x20104 (BitVec.ofNat 32 (t / 65536))).setReg 0x20108 (BitVec.ofNat 32 (t % 65536))
    let out := !s.inLock t
    let s := (s.doIf m.marked (fun u => u.setBit Reg.mainsStatus 6)).doIf out (fun u => u.setBit Reg.mainsStatus 5)
    if m.marked || out then s.mainsInvalid true
    else ({ s with mains := { m with crossings := 1, tFirst := tc, marked := bad } } : State).mainsDeliver (some t) true

/-- The crossing time between two results, rounded half to even (R130). -/
def crossTime (t0 t1 : Tq) (x0 x1 : Int) : Tq := ((t0 : Int) + roundHalfEven (((t1 : Int) - t0) * (-x0)) (x1 - x0).toNat).toNat

/-- A tap-0 result of the reference channel (R130). -/
def State.mainsResult (s : State) (t : Tq) (q : Int) (marks : Marks) : State :=
  let bad := marks.getLsbD 0 || marks.getLsbD 1
  let m := s.mains
  let prev := m.lastX
  let s := { s with mains := { m with lastX := some (q, t, marks), marked := m.marked || (bad && decide (m.crossings ≠ 0)) } }
  let s := match prev with
    | some (x0, t0, m0) =>
      if m.armed && decide (x0 < 0 ∧ 0 ≤ q) then
        ({ s with mains := { s.mains with armed := false } } : State).mainsCross (crossTime t0 t x0 q) (bad || m0.getLsbD 0 || m0.getLsbD 1)
      else s
    | none => s
  if q ≤ -(s.cfgv Fld.mainsHyst 0 0 : Int) then { s with mains := { s.mains with armed := true } } else s

/-- MAINS_CROSSING_TIMEOUT (R131): two nominal periods have passed since the last crossing or restart. -/
def execMainsCrossingTimeout (s : State) : Out :=
  if s.cfgOn Fld.mainsEnable 0 then .next ((s.reach (s.mains.crossT + 2 * s.mainsNominal)).mainsInvalid false) else .next s

/-! ### Acceptance and weights (R132 to R135) -/

/-- Two periods differ by no more than 0.5 % of the older one. -/
def agree (old new : Tq) : Bool := decide (200 * ((new : Int) - old).natAbs ≤ old)

/-- P_q16 of a span (R134). -/
def spanQ16 (cycles : Nat) (ta period : Tq) (cum : Nat) : Nat := (roundHalfEven ((cycles * ta * 65536 : Nat) : Int) (period * cum)).toNat

/-- Write MAINS_WEIGHT of a group from a period under a configuration (R134): one pair for every stage that a channel of the group tracks, converted or not (R129). -/
def State.writeWeightsOf (s : State) (c : Look) (ta : Tq) (g : Nat) : State :=
  s.each [1, 2, 3, 4] (fun st t =>
    match (List.range 512).find? (fun i => c.chanGroup i == g && c.isChannel i && c.tracks i st && decide (st ≤ c.stages i)) with
    | some i =>
      let p := spanQ16 (c Fld.mainsCycles 0 0) ta (c.period g) (c.cumDec i (st - 1))
      t.setReg (0x20120 + 0x10 * g + 4 * (st - 1)) (BitVec.ofNat 32 p)
    | none => t)

/-- Write MAINS_WEIGHT of a group from T_a (R134). -/
def State.writeWeights (s : State) (g : Nat) : State := s.writeWeightsOf s.cfgv s.mains.ta g

/-- A group is between frames and does not strobe. -/
def State.quiet (s : State) (g : Nat) : Bool := decide ((s.grpOf g).mode ≠ .running) && (s.grpOf g).frame.isNone

/-- MAINS_ACC shows T_a. -/
def State.setTa (s : State) (t : Tq) : State :=
  (({ s with mains := { s.mains with ta := t } } : State).setReg 0x2010C (BitVec.ofNat 32 (t / 65536))).setReg 0x20110 (BitVec.ofNat 32 (t % 65536))

/-- The state of tracking changes: its 10 s limit starts again, and a handling it had ends (R132, R458). -/
def State.mainsMode (s : State) (m : MainsMode) : State :=
  if s.mains.mode = m then s
  else
    let s := { s with mains := { s.mains with mode := m, run := 0, prev := none, warned := false, modeUp := s.tm.up } }
    let s := if m = .holdover then (s.setBit Reg.mainsStatus 4).raise { errAt 0 Reg.mainsStatus 4 0xFFFF with engine := true } else s
    s.endHandling Reg.mainsStatus 0xFFFF

/-- A new T_a is written (R135, R350): both groups take it at their first frame boundary from then on, or the one before their apply frame; one that does not run takes it at once. -/
def State.newTa (s : State) (t : Tq) (applyF : Option (Nat × Nat)) : State :=
  let s := s.setTa t
  { s with mains := { s.mains with pendA := true, pendB := true, boundA := s.quiet 0, boundB := s.quiet 1, applyF := applyF } }

/-- F_apply of a group (R350): the first frame that starts at least 2 ms from now. DESIGN CHOICE (assumption 94): in event mode nothing tells it, so it is the next frame number or any later one, a free value; a group that does not run has none. -/
def State.applyFrame (s : State) (g : Nat) : Nat :=
  let c : Look := s.cfgv
  let x := s.grpOf g
  if x.mode = .stopped then noFrame
  else if c.scheduled g then max (c.firstK g (s.now + nsTq 2000000)) (if x.mode = .waitingStart then x.nextK else 0)
  else x.evNext + (Config.freeWord (s.freeCtr + g)).toNat

/-- The engine writes a new T_a (R132, R135); on an active paired with a standby each group waits for its apply frame, which the standby is told (R350). -/
def State.accept (s : State) (t : Tq) : State :=
  if s.twin.role = .active ∧ (s.partnerRole .standby || s.partnerRole .standbyUnfit) = true then
    let f := (s.applyFrame 0, s.applyFrame 1)
    ({ s with freeCtr := s.freeCtr + 2 } : State).newTa t (some f) |>.sendOn 2 .twin (.mains ⟨t, f.1, f.2⟩)
  else s.newTa t none

/-- Table 5-2 on one measurement. -/
def State.mainsTake (s : State) (m : Option Tq) : State :=
  let st := s.mains
  match m with
  | none =>
    let s := { s with mains := { st with run := 0, prev := none } }
    if st.mode = .locked then s.mainsMode .holdover else s
  | some t =>
    let fits := match st.prev with
      | some p => agree p t
      | none => false
    let hold := ({ s with mains := { st with prev := some t } } : State)
    match st.mode with
    | .off => s
    | .acquiring =>
      let n := if fits then st.run + 1 else 1
      if 4 ≤ n then (s.accept t).mainsMode .locked else { s with mains := { st with run := n, prev := some t } }
    | .locked =>
      if agree st.ta t || fits then
        let s := s.accept t
        { s with mains := { s.mains with prev := none } }
      else hold
    | .holdover => if fits then (s.accept t).mainsMode .locked else hold

/-- MAINS_ACCEPT (R132, R133): the engine takes the oldest completed measurement; a standby does not use its own (R136). -/
def execMainsAccept (s : State) : Out :=
  match s.mains.done with
  | [] => .next s
  | m :: rest =>
    if s.engineUp then
      let s := { s with mains := { s.mains with done := rest } }
      if s.twin.role = .standby ∨ s.twin.role = .standbyUnfit then .next s else .next (s.mainsTake m)
    else .next s

/-- MAINS_STATE_TIMER (R132): HOLDOVER or ACQUIRING has lasted 10 s. -/
def execMainsStateTimer (s : State) : Out :=
  if (s.mains.mode = .acquiring ∨ s.mains.mode = .holdover) ∧ s.mains.warned = false ∧ s.engineUp = true then
    let s := s.reachUp (s.mains.modeUp + 10000000000)
    let s := { s with mains := { s.mains with warned := true } }
    .next ((s.setBit Reg.mainsStatus 7).raise { errAt 2 Reg.mainsStatus 7 0xFFFF with engine := true, recovers := true })
  else .next s

/-- A group has to take the accepted period still. -/
def MainsSt.pends (m : MainsSt) (g : Nat) : Bool := if g = 0 then m.pendA else m.pendB

/-- A frame boundary of a group has come since the accepted period was written (R135). -/
def MainsSt.bound (m : MainsSt) (g : Nat) : Bool := if g = 0 then m.boundA else m.boundB

/-- The period a group runs with; 0 when it has none. -/
def MainsSt.taken (m : MainsSt) (g : Nat) : Tq := if g = 0 then m.takenA else m.takenB

/-- A frame boundary of a group: an accepted period may be taken there (R135). -/
def State.mainsBoundary (s : State) (g : Nat) : State :=
  { s with mains := { s.mains with boundA := s.mains.boundA || decide (g = 0), boundB := s.mains.boundB || decide (g ≠ 0) } }

/-- A group takes a period, or goes without. -/
def State.setTaken (s : State) (g : Nat) (t : Tq) (pends : Bool) : State :=
  { s with mains := (if g = 0 then { s.mains with takenA := t, pendA := pends } else { s.mains with takenB := t, pendB := pends }) }

/-- The boundary before a group's apply frame has not come (R350). -/
def State.mainsEarly (s : State) (g : Nat) : Bool :=
  match s.mains.applyF with
  | some f => let k := if g = 0 then f.1 else f.2; decide (k ≠ noFrame ∧ (s.grpOf g).mode ≠ .stopped ∧ (s.grpOf g).lastK + 1 < k)
  | none => false

/-- A group is at a frame boundary at which it takes the accepted period (R135, R350). -/
def State.mainsDue (s : State) (g : Nat) : Bool := s.mains.pends g && s.mains.bound g && (s.grpOf g).frame.isNone && !s.mainsEarly g

/-- MAINS_WEIGHT_APPLY (R135, R350): at a frame boundary of the group, not before the one before its apply frame. -/
def execMainsWeightApply (g : Group) (s : State) : Out :=
  let n := gidx g
  if s.mainsDue n then .next ((s.writeWeights n).setTaken n s.mains.ta false) else .next s

/-- Acceptance starts again with T_a at the nominal period, which is a new T_a for both groups, or stops when MAINS.ENABLE is 0 (R126, R132, R135). DESIGN CHOICE (assumption 92): in OFF, T_a and MAINS_ACC are 0. -/
def State.mainsRestart (s : State) : State :=
  let m := s.mains
  let kept : MainsSt := { MainsSt.init with mode := m.mode, onA := m.onA, onB := m.onB, takenA := m.takenA, takenB := m.takenB, crossT := s.now, modeUp := m.modeUp }
  if s.cfgOn Fld.mainsEnable 0 then
    let s := ({ s with mains := { kept with warned := m.warned } } : State).newTa s.mainsNominal none
    let s := (s.mainsMode .acquiring)
    { s with mains := { s.mains with run := 0, prev := none } }
  else (({ s with mains := kept } : State).setTa 0).mainsMode .off

/-- A group takes MAINS.ENABLE and its weights from a configuration at its boundary (R126, R134, R135): from the accepted period where that is due there or acceptance has started again at this boundary, otherwise from the one it runs with, or the nominal one when it has none. -/
def State.mainsLoad (s : State) (c : Look) (restarted : Bool) (g : Nat) : State :=
  let on := decide (c Fld.mainsEnable 0 0 = 1)
  let takes := s.mainsDue g || restarted
  let t := if takes then s.mains.ta else if s.mains.taken g = 0 then (if c Fld.mainsNominal 0 0 = 0 then 20000000 * 65536 else 16666666 * 65536 + 43691) else s.mains.taken g
  let s := { s with mains := { s.mains with onA := if g = 0 then on else s.mains.onA, onB := if g = 0 then s.mains.onB else on } }
  if on then (s.writeWeightsOf c t g).setTaken g t (s.mains.pends g && !takes)
  else s.setTaken g 0 false

end Sys2Proof.Machine
end

