-- ==== Sys2Proof/Machine/Stats.lean ====
section
/-! DEFINITION. The statistics unit (R159 to R161) and its commands. -/

namespace Sys2Proof.Machine

open Sys2Proof

/-- INTERVAL in ns. -/
def Look.statInterval (c : Look) : Nat := max 1 (c Fld.statsIntervalMs 0 0) * 1000000

/-- INTERVAL in ns. -/
def State.statInterval (s : State) : Nat := Look.statInterval s.cfgv

/-- An interval of an index with no output yet, under a configuration. -/
def State.statOf (s : State) (c : Look) (i j : Nat) : StatAcc :=
  { index := j, tStart := j * c.statInterval, len := c.statInterval, tEnd := (j + 1) * c.statInterval, tap := c Fld.statsTap i 0, epoch := s.epoch, n := 0, min := 0, max := 0, sum := 0,
    sq := 0, below := true, peaks := 0, clips := 0, marked := 0, holed := false, short := false }

/-- An interval of an index with no output yet. -/
def State.statNew (s : State) (i j : Nat) : StatAcc := s.statOf s.cfgv i j

/-- One output into an interval (R160). -/
def StatAcc.add (a : StatAcc) (level hyst : Nat) (exclude : Bool) (y : Int) (m : Marks) : StatAcc :=
  let bad := m.getLsbD 1 || m.getLsbD 2
  let a := { a with clips := a.clips + (if m.getLsbD 0 then 1 else 0), marked := a.marked + (if bad then 1 else 0) }
  if exclude && bad then a
  else
    let v : Int := y.natAbs
    let first := decide (a.n = 0)
    let enters := (first || a.below) && decide ((level : Int) ≤ v)
    let below := if (level : Int) ≤ v then false else decide (v < (level : Int) - (hyst : Int)) || (!first && a.below)
    { a with n := a.n + 1, min := if a.n = 0 then y else Min.min a.min y, max := if a.n = 0 then y else Max.max a.max y,
             sum := a.sum + y, sq := a.sq + (y * y).toNat, below := below, peaks := a.peaks + (if enters then 1 else 0) }

/-- The current interval ends; the 8 most recent completed ones are kept (R161). -/
def StatCh.close (c : StatCh) (short : Bool) (next : Option StatAcc) : StatCh :=
  match c.cur with
  | some a => { cur := next, done := ({ a with short := short } :: c.done).take 8 }
  | none => { c with cur := next }

/-- The current interval closes as SHORT at a time in ns (R159); one that has not started yet makes no record. -/
def StatCh.closeShort (c : StatCh) (at_ : Nat) (next : Option StatAcc) : StatCh :=
  match c.cur with
  | some a => if at_ < a.tStart then { c with cur := next } else StatCh.close { c with cur := some { a with tEnd := at_ } } true next
  | none => { c with cur := next }

/-- The interval in hand has ended at the index of another one of its grid, that of a configuration: those between held no output (R161). -/
def State.statAdvance (s : State) (c : Look) (i j : Nat) (next : StatAcc) : State :=
  s.updStats i (fun h =>
    let h := match h.cur with
      | some a =>
        let empty := fun (n : Nat) (h : StatCh) => StatCh.close { h with cur := some (s.statOf c i (j - 1 - n)) } false none
        (List.range (min 8 (j - a.index - 1))).foldr empty (h.close false none)
      | none => h
    { h with cur := some next })

/-- A completed interval takes a late output: it covers its time on the present grid, or, of an earlier epoch, it is the one an adoption closed (R159, R236). -/
def StatAcc.takes (b : StatAcc) (j len : Nat) (epoch now : BitVec 16) : Bool :=
  decide (b.index = j ∧ b.len = len ∧ b.epoch = epoch) && (!b.short || decide (epoch ≠ now))

/-- An output of a channel at a time, in ns, into the interval that covers it (R159). -/
def State.statOutput (s : State) (i t : Nat) (epoch : BitVec 16) (y : Int) (m : Marks) : State :=
  let j := t / s.statInterval
  let add := fun (a : StatAcc) => a.add (s.cfgv Fld.statsPeakLevel i 0) (s.cfgv Fld.statsPeakHyst i 0) (s.cfgOn Fld.statsExcludeMarked i) y m
  let c := s.statsOf i
  let fresh := { s.statNew i j with epoch := epoch }
  let late := s.setStats i { c with done := c.done.map (fun b => if b.takes j s.statInterval epoch s.epoch then add b else b) }
  if epoch ≠ s.epoch then late
  else
    match c.cur with
    | none => s.setStats i { c with cur := some (add fresh) }
    | some a =>
      if a.epoch ≠ epoch then s.setStats i (c.close false (some (add fresh)))
      else if a.index = j then s.setStats i { c with cur := some (add a) }
      else if a.index < j then s.statAdvance s.cfgv i j (add fresh)
      else late

/-- A hole falls in every interval of a channel that it touches (Table 6-6): from its first missing instant to the strobe that ends it, in ns. -/
def State.statHole (s : State) (i from_ upto : Nat) : State :=
  let j := upto / s.statInterval
  let s := match (s.statsOf i).cur with
    | some a => if a.index < j then s.statAdvance s.cfgv i j (s.statNew i j) else s
    | none => s.updStats i (fun c => { c with cur := some (s.statNew i j) })
  let hit := fun (a : StatAcc) => if a.epoch = s.epoch ∧ a.tStart < upto ∧ from_ < a.tEnd then { a with holed := true } else a
  s.updStats i (fun c => { cur := c.cur.map hit, done := c.done.map hit })

/-- The interval of a converted channel that covers the present is the current one, under a configuration (R159, R161). -/
def State.statNow (s : State) (c : Look) (i : Nat) : State :=
  let j := s.nowNs / c.statInterval
  match (s.statsOf i).cur with
  | some a => if a.index < j then s.statAdvance c i j (s.statOf c i j) else s
  | none => if c.converted i then s.updStats i (fun h => { h with cur := some (s.statOf c i j) }) else s

/-- A commit changes INTERVAL_MS or STATS[i].TAP (R159): the current interval closes as SHORT, and the next one starts at the next multiple of the new INTERVAL. Called with the new configuration live. -/
def State.statCommit (s : State) (old : Look) (i : Nat) : State :=
  (s.statNow old i).updStats i (fun c => c.closeShort s.nowNs (some (s.statNew i (s.nowNs / s.statInterval + 1))))

/-- STATS_INTERVAL_END (R159, R405): every channel's interval that has ended is completed. -/
def execStatsIntervalEnd (s : State) : Out :=
  let c : Look := s.cfgv
  let past := fun (t : State) => ((List.range 512).filter c.converted).any (fun i => (t.statsOf i).cur.all (fun a => decide (a.index < t.nowNs / t.statInterval)))
  let s := (if past s then s else s.reach (nsTq ((s.nowNs / s.statInterval + 1) * s.statInterval))).pllRunAgo 40000
  let j := s.nowNs / s.statInterval
  let ended := fun (a : StatAcc) => decide (a.index < j)
  .next (s.each ((List.range 512).filter c.converted) (fun i t =>
    match (t.statsOf i).cur with
    | some a => if ended a then t.statAdvance t.cfgv i j (t.statNew i j) else t
    | none => t.updStats i (fun h => { h with cur := some (t.statNew i j) })))

/-- Words of a statistics record (Table 6-6). -/
def StatAcc.words (a : StatAcc) (i flags : Nat) : List W32 :=
  let mean := if a.n = 0 then 0 else roundHalfEven a.sum a.n
  let rms := if a.n = 0 then 0 else isqrt 32 0 (roundHalfEven (a.sq : Int) a.n).toNat
  let f := flags + (if a.n = 0 then 1 else 0) + (if a.holed then 2 else 0) + (if a.short then 4 else 0)
  [BitVec.ofNat 32 (f * 16777216 + a.tap * 65536 + i), BitVec.ofNat 32 a.n] ++ two a.tStart ++
  [BitVec.ofInt 32 a.min, BitVec.ofInt 32 a.max, BitVec.ofInt 32 mean, BitVec.ofNat 32 rms, BitVec.ofNat 32 a.peaks,
   BitVec.ofNat 32 a.clips, BitVec.ofNat 32 a.marked, BitVec.ofNat 32 (a.epoch.toNat * 65536), 0, 0, 0, 0]

/-- A record with OVERWRITTEN set and every count 0 (R161). -/
def State.statGone (s : State) (i j : Nat) : List W32 :=
  [BitVec.ofNat 32 (8 * 16777216 + s.cfgv Fld.statsTap i 0 * 65536 + i), 0] ++ two (j * s.statInterval) ++ List.replicate 12 0

/-- The record of a channel for an interval (R161): completed, open, overwritten, or without outputs. -/
def State.statRecord (s : State) (i j : Nat) : List W32 :=
  let c := s.statsOf i
  let open_ := if j = s.nowNs / s.statInterval then 16 else 0
  let found := (c.done.find? (fun a => a.index == j && a.len == s.statInterval)).orElse (fun _ => c.done.find? (fun a => a.index == j))
  match c.cur, found with
  | some a, d =>
    if a.index = j then a.words i open_
    else
      match d with
      | some b => b.words i 0
      | none => if j < a.index ∧ c.done.length = 8 then s.statGone i j else (s.statNew i j).words i open_
  | none, some b => b.words i 0
  | none, none => (s.statNew i j).words i open_

/-- The record of the most recent completed interval of a channel. -/
def State.statLatest (s : State) (i : Nat) : List W32 :=
  let now := s.nowNs / s.statInterval
  let past := s.statRecord i (now - 1)
  match (s.statsOf i).cur, (s.statsOf i).done with
  | some a, d :: _ => if a.index < now then past else d.words i 0
  | none, d :: _ => d.words i 0
  | _, [] => past

/-- STATS_READ (R161, R295, R296). -/
def execStatsRead (id : Nat) (s : State) : Out :=
  s.serve id 0x23 (fun d s =>
    let first := field (d.p 0) 8 0
    let count := field (d.p 1) 9 0
    let asked := d.p64 2
    let latest := decide (asked = 18446744073709551615)
    let extra := if d.flag 3 then 104 else 0
    if count = 0 ∨ 512 < count ∨ 512 < first + count ∨ d.len < 64 * count + extra then s.retireBad d 0x0002
    else if !latest && decide (s.nowNs / s.statInterval < asked) then s.retireBad d 0x0220
    else if d.flag 3 && s.sv.withheld then s.retireBad d 0x0506
    else if d.flag 3 && s.packetsWait then s
    else
      let bytes := wordBytes ((List.range count).flatMap (fun n => if latest then s.statLatest (first + n) else s.statRecord (first + n) asked))
      let sig := if d.flag 3 then s.signBlock 2 3 (Config.sha384 bytes) else []
      ((s.doIf (d.flag 3) (fun t => t.bump 0x6800C)).descWrite d (bytes ++ sig)).retireOk d [BitVec.ofNat 32 count])

end Sys2Proof.Machine
end

