-- ==== Sys2Proof/Machine/TwinRole.lean ====
section
/-! DEFINITION. The twin pair's core (chapter 13): HEALTH (R346), reasons (R347), roles (R336, R337), takeover (R355, R356) and the cuts a standby follows (R352). -/

namespace Sys2Proof.Machine

open Sys2Proof

/-! ### Reasons and roles -/

/-- Bits of Table 13-5. -/
def Reason.config : Nat := 0
def Reason.firmware : Nat := 1
def Reason.time : Nat := 2
def Reason.epoch : Nat := 3
def Reason.digest : Nat := 4
def Reason.link : Nat := 5
def Reason.resync : Nat := 6
def Reason.mains : Nat := 7
def Reason.frames : Nat := 8

/-- A set of reasons as the bits of TWIN_UNFIT. -/
def reasonMask (bits : List Nat) : BitVec 16 := BitVec.ofNat 16 (maskOf bits)

/-- Twin reasons act while TWIN.ENABLE is 1. -/
def State.twinned (s : State) : Bool := s.cfgOn Fld.twinEnable 0

/-- The outputs of this unit while the configuration stands or is BAD (R80, R325). -/
def State.excRole (s : State) (newlyOn : List Nat) : State := s.excApplyAll s.cfg.bad newlyOn

/-- A standby of either kind. -/
def Role.isStandby (r : Role) : Bool := decide (r = .standby ∨ r = .standbyUnfit)

/-- An active that becomes a standby or is seized gives up a commit that waits for its standby or its sealed set: it retires with NOT_ACTIVE as the standby's own commits do (R341, R348; assumption 98). What a standby has staged goes with its role. -/
def State.giveUpCommit (s : State) : State :=
  let f := s.cfg.waitReady.orElse (fun _ => s.cfg.flip.filter (fun f => f.sealing))
  let s := { s with cfg := { s.cfg with flip := s.cfg.flip.filter (fun f => !f.sealing), waitReady := none, twinData := [], dataOut := [], armAt := none } }
  match (f.bind (fun f => f.id)).bind s.descOf with
  | some d => s.retireBad d 0x0601
  | none => s

/-- A role is taken (Table 13-1): outputs follow it, UNFIT_SEEN records an entry into STANDBY_UNFIT, twin-alive-out and twin-seize-out are low in every role but ACTIVE (R334, R336), EXC_STUCK_SELF is an active's (R347), a standby holds its trigger-out pin low (R338), and the frames R340 counts begin again with each time as a standby. -/
def State.setRole (s : State) (r : Role) (newlyOn : List Nat) : State :=
  let entered := decide (r = .standbyUnfit ∧ s.twin.role ≠ .standbyUnfit)
  let active := decide (r = Role.active)
  let was := s.twin.role
  let s := s.doIf (was.isStandby != r.isStandby) (fun t => t.each (List.range 32) (fun m u => u.updExc m (fun e => { e with stuckRun := 0 })))
  let s := { s with twin := { s.twin with role := r, aliveOut := s.twin.aliveOut && active, seizeOut := s.twin.seizeOut && active, stuck := s.twin.stuck && active,
                                          lost := s.twin.lost && active, dualUp := s.twin.dualUp.filter (fun _ => active) },
                    mantis := { s.mantis with toutHigh := s.mantis.toutHigh && !r.isStandby } }
  let s := (s.doIf entered (fun t => t.setBit Reg.twinStatus 10)).excRole newlyOn
  s.doIf ((was.isStandby != r.isStandby || decide (r = .seized)) && decide (r ≠ .solo)) State.giveUpCommit

/-- The seize input is asserted: a settled pin that carries its function reads high (R333, R337). -/
def State.seizeAsserted (s : State) : Bool := (List.range 32).any (fun k => decide (s.pinFunc k = 9) && s.pads.settled.getLsbD k && s.pads.level.getLsbD k)

/-- The first row of Table 13-2. -/
def State.seizeTaken (s : State) : State :=
  if s.seizeAsserted = true ∧ s.twin.role ≠ .solo ∧ s.twin.role ≠ .seized then (s.setRole .seized []).sendHealth else s

/-- Reasons of a standby change (Table 13-2): it becomes unfit with one DEGRADED error, whose DETAIL is 0 (R455), or fit with a NOTICE; HEALTH follows at once (R346). -/
def State.setReasons (s : State) (r : BitVec 16) : State :=
  if r = s.twin.reasons then s
  else
    let s := { s with twin := { s.twin with reasons := r } }
    let s :=
      if s.twin.role = .standby ∧ r ≠ 0 then
        (s.setRole .standbyUnfit []).raise { errAt 2 Reg.twinStatus 10 0xFFFF with recovers := true }
      else if s.twin.role = .standbyUnfit ∧ r = 0 then
        ((s.setRole .standby []).endHandling Reg.twinStatus 0xFFFF).raiseBare 0 false 0xFFFF
      else s
    s.sendHealth

/-- A reason is set. -/
def State.addReason (s : State) (bits : List Nat) : State := s.setReasons (s.twin.reasons ||| reasonMask bits)

/-- A reason is cleared. -/
def State.dropReason (s : State) (bits : List Nat) : State := s.setReasons (s.twin.reasons &&& ~~~ reasonMask bits)

/-- A reason is set or cleared. -/
def State.putReason (s : State) (bit : Nat) (on : Bool) : State := if on then s.addReason [bit] else s.dropReason [bit]

/-- The unit becomes STANDBY_UNFIT with reasons (Table 13-2, R451). -/
def State.enterUnfit (s : State) (bits : List Nat) : State :=
  let s := { s with twin := { s.twin with reasons := s.twin.reasons ||| reasonMask bits, resync := 0 } }
  (s.setRole .standbyUnfit []).sendHealth

/-! ### What the standby follows (R352) -/

/-- The runs of frames a standby holds uncut, oldest first. -/
def StreamSt.runs (st : StreamSt) : List Packet := st.openPkt.toList ++ st.held

/-- Hold these runs of frames uncut, those without frames left out. -/
def StreamSt.setRuns (st : StreamSt) (ps : List Packet) : StreamSt :=
  let ps := (ps.filter (fun p => !p.frames.isEmpty)).map (fun p => { p with epoch := (p.frames.head?.map (fun f => f.epoch)).getD p.epoch })
  { st with openPkt := ps.head?, held := ps.drop 1, split := st.split && !ps.isEmpty }

/-- The runs from the one on that holds a frame number. -/
def runsFrom (k : Nat) (ps : List Packet) : List Packet := ps.dropWhile (fun p => p.frames.all (fun f => decide (f.k ≠ k)))

/-- A packet cut from the run in front: its frames, with the rest of that run and the runs behind it. -/
def State.cutOpen (s : State) (x : Nat) (seq : W32) (p : Packet) (frames rest : List PktFrame) (behind : List Packet) : State :=
  let st := s.strmOf x
  let ep := (frames.head?.map (fun f => f.epoch)).getD p.epoch
  let q := { p with seq := seq, epoch := ep, frames := frames, closedAt := s.tm.up, settled := true }
  s.setStrm x ({ st with closing := st.closing ++ [q], seqNext := seq + 1 }.setRuns ({ p with frames := rest } :: behind))

/-- The standby holds the packet an entry reports in full: the run it lies in, its frames from the first on, as many as it names, the rest of the run and the runs behind it. -/
def StreamSt.heldFrames (st : StreamSt) (e : SyncEntry) : Option (Packet × List PktFrame × List PktFrame × List Packet) :=
  match runsFrom e.first st.runs with
  | [] => none
  | p :: ps =>
    let fs := p.frames.dropWhile (fun f => decide (f.k ≠ e.first))
    if fs.length < e.frames then none else some (p, fs.take e.frames, fs.drop e.frames, ps)

/-- The standby has passed the packet an entry reports without holding it whole. -/
def StreamSt.passed (st : StreamSt) (e : SyncEntry) : Bool :=
  match st.openPkt with
  | none => false
  | some p => (match p.frames.head? with
    | some f => decide (e.first < f.k)
    | none => false)

/-- The frame that ends a reported gap, and its time: the standby's own frame, or the grid instant in schedule mode; none while event mode has not strobed it. -/
def State.gapEndOf (s : State) (x : Nat) (e : SyncEntry) : Option (Nat × Nat) :=
  let c : Look := s.cfgv
  let k := e.first + e.frames * max 1 (c.strmDec x)
  match (s.strmOf x).runs.findSome? (fun p => p.frames.find? (fun f => decide (f.k = k))) with
  | some f => some (k, f.t)
  | none => if c.scheduled (c.strmGroup x) then some (k, tqNs (c.edgeT (c.strmGroup x) k)) else none

/-- Apply a reported gap record (R352): built from the entry and the standby's own frame times; T_START is that of the last frame cut before it, also when its packet has been freed (Table 6-4). -/
def State.cutGap (s : State) (x : Nat) (e : SyncEntry) (k t : Nat) : State :=
  let st := s.strmOf x
  let last := (st.closing.getLast?.bind Packet.tailOf).orElse (fun _ => st.placed)
  let start := match last with
    | some y => if y.epoch = s.epoch then y.t else 0
    | none => 0
  let g : GapInfo := { tStart := start, tEnd := t, lost := e.frames, first := e.first, cause := e.cause, detail := e.detail, endK := k }
  let q := s.gapPacket x e.seq g
  let keep := (st.runs.map (fun p => { p with frames := p.frames.dropWhile (fun f => decide (f.k < k ∧ f.t < t)) }))
  s.setStrm x ({ st with closing := st.closing ++ [q], seqNext := e.seq + 1, losses := st.losses.drop 1 }.setRuns keep)

/-- A retirement the active reports (R352): every closed packet up to its SEQ is freed, but for those this unit still delivers after a swap (R357). -/
def State.coverTo (s : State) (x : Nat) (seq : W32) : State :=
  s.updStrm x (fun st =>
    let mineStill := fun (q : W32) => match st.handover with
      | some h => seqCovers h q
      | none => false
    { st with queue := st.queue.filter (fun p => mineStill p.seq || !seqCovers seq p.seq), retired := some seq })

/-- Resync has caught up with every enabled stream (R359): a retirement covers the first packet held in full. -/
def State.caughtUp (s : State) : Bool :=
  (List.range 64).all (fun x => !s.cfgOn Fld.streamEnable x || (match (s.strmOf x).marker, (s.strmOf x).retired with
    | some m, some r => seqCovers r m
    | _, _ => false))

/-- Step 3 of the resync: RESYNC and LINK clear once the standby holds every unretired packet (R359). -/
def State.resyncEnd (s : State) : State :=
  if s.twin.resync = 2 ∧ s.caughtUp = true then
    ({ s with twin := { s.twin with resync := 3 } } : State).dropReason [Reason.link, Reason.resync]
  else s

/-- Apply one entry; none while the standby's own frames are not there yet. -/
def State.applyEntry (s : State) (e : SyncEntry) : Option State :=
  let x := e.index.val
  let st := s.strmOf x
  match e.kind.val with
  | 0 =>
    match st.heldFrames e with
    | some (p, fs, rest, behind) =>
      let s := (s.cutOpen x e.seq p fs rest behind).updStrm x (fun y => { y with marker := y.marker.orElse (fun _ => some e.seq) })
      some (s.placeAll 64 x)
    | none => if st.passed e then some (s.updStrm x (fun y => { y with seqNext := e.seq + 1 })) else none
  | 1 => (s.gapEndOf x e).map (fun g => (s.cutGap x e g.1 g.2).placeAll 64 x)
  | 2 => some ((s.coverTo x e.seq).resyncEnd)
  | _ => some { s with twin := { s.twin with capSeqs := Cells.set (fun _ => 0xFFFFFFFF) s.twin.capSeqs x e.seq } }

/-- A cut of the old active reaches the new one (R357): the frames and the SEQ it names are the old active's. -/
def State.leaveEntry (s : State) (e : SyncEntry) : Option State :=
  let x := e.index.val
  let st := s.strmOf x
  let past := { st with seqNext := e.seq + 1 }
  match e.kind.val with
  | 0 =>
    match st.heldFrames e with
    | some (p, fs, rest, behind) =>
      let cut : Packet := { p with frames := fs, gap := none }
      let left : StreamSt := { past with placed := cut.tailOf }
      some (s.setStrm x (left.setRuns ({ p with frames := rest } :: behind)))
    | none => if st.passed e then some (s.setStrm x past) else none
  | 1 => (s.gapEndOf x e).map (fun g =>
    let left : StreamSt := { past with losses := st.losses.drop 1, placed := some ⟨g.1, g.2, true, s.epoch⟩ }
    s.setStrm x (left.setRuns (st.runs.map (fun p => { p with frames := p.frames.dropWhile (fun f => decide (f.k < g.1 ∧ f.t < g.2)) }))))
  | _ => some s

/-- One entry is applied: by a standby, or by a new active to a stream whose last cuts are still the old active's (R357). -/
def State.takeEntry (s : State) (e : SyncEntry) : Option State :=
  if s.isStandby then s.applyEntry e else if (s.strmOf e.index.val).awaitCut.isSome then s.leaveEntry e else some s

/-- Apply the entries that can be applied, in order; an entry that waits holds back those of its stream behind it. -/
def applyEntries : List SyncEntry → List (Fin 64) → State → State
  | [], _, s => s
  | e :: es, stuck, s =>
    let wait := fun (t : State) => { t with twin := { t.twin with syncQueue := t.twin.syncQueue ++ [e] } }
    if e.kind.val ≠ 3 ∧ stuck.contains e.index = true then applyEntries es stuck (wait s)
    else
      match s.takeEntry e with
      | some t => applyEntries es stuck t
      | none => applyEntries es (e.index :: stuck) (wait s)

/-! ### Takeover -/

/-- Frames a standby held uncut go through assembly again, each with the losses that lie before it (R355, R356). -/
def reAppend (x : Nat) : List PktFrame → List LossSt → State → State
  | [], pend, s => s.updStrm x (fun st => { st with losses := st.losses ++ pend })
  | f :: fs, pend, s =>
    let due := pend.filter (fun l => decide (l.first ≤ f.k))
    let s := s.updStrm x (fun st => { st with losses := st.losses ++ due })
    reAppend x fs (pend.filter (fun l => !decide (l.first ≤ f.k))) (s.appendFrame x f.k (nsTq f.t) f.epoch f.samples)

/-- The runs of frames a standby held uncut go through assembly again, each under its own settings (R158); a packet ends with its run. -/
def reAppendRuns (x : Nat) : List Packet → List LossSt → State → State
  | [], pend, s => reAppend x [] pend s
  | p :: ps, pend, s =>
    let last := (p.frames.getLast?.map (fun f => f.k)).getD 0
    let s := s.updStrm x (fun st => { st with form := some p })
    let s := reAppend x p.frames (pend.filter (fun l => decide (l.first ≤ last))) s
    let s := if ps.isEmpty then s else s.closePacket x
    reAppendRuns x ps (pend.filter (fun l => !decide (l.first ≤ last))) s

/-- A stream passes to the new active: closed packets compress now (R352), and frames not cut yet are cut by its own rules. -/
def State.adoptStream (s : State) (x : Nat) : State :=
  let st := s.strmOf x
  let again := fun (p : Packet) => if p.gap.isNone ∧ p.level ≠ 0 ∧ p.packed.isNone ∧ p.damaged = false then { p with settled := false, closedAt := s.tm.up } else p
  let tail := ((st.queue ++ st.closing).getLast?.bind Packet.tailOf).orElse (fun _ => st.placed)
  let s := s.setStrm x { st with queue := st.queue.map again, openPkt := none, held := [], split := false, losses := [], tail := tail, placed := tail, marker := none, handover := none, awaitCut := none }
  let s := reAppendRuns x st.runs st.losses s
  let s := if st.split then s.closePacket x else s
  (s.updStrm x (fun y => { y with form := none })).streamSettle x

/-- What lies behind the last frame the old active had still to cut. -/
def StreamSt.dropTo (st : StreamSt) (k : Nat) : StreamSt :=
  match runsFrom k st.runs with
  | [] => st
  | p :: ps => st.setRuns ({ p with frames := (p.frames.dropWhile (fun f => decide (f.k ≠ k))).drop 1 } :: ps)

/-- A stream of the new active after a swap (R357): frames it still holds uncut are the old active's, whose cuts are on their way; one that holds none goes on at once. -/
def State.swapStream (s : State) (x : Nat) : State :=
  match ((s.strmOf x).runs.flatMap (fun p => p.frames)).getLast? with
  | some f => s.updStrm x (fun st => { st with awaitCut := some f.k, split := true })
  | none => s.adoptStream x

/-- Streams whose last cut of the old active has come go on from the next SEQ (R357). -/
def State.endAwaits (s : State) : State :=
  s.each (s.strm.map (fun e => e.1)) (fun x t => match (t.strmOf x).awaitCut with
    | some k => t.doIf (runsFrom k (t.strmOf x).runs).isEmpty (fun t => t.adoptStream x)
    | none => t)

/-- TWIN leaves service with cuts of the old active on their way: it delivers what it has cut, and the new active goes on behind (R357; assumption 99). -/
def State.dropAwaits (s : State) : State :=
  s.each (s.strm.map (fun e => e.1)) (fun x t => match (t.strmOf x).awaitCut with
    | some k => (t.updStrm x (fun st => st.dropTo k)).adoptStream x
    | none => t)

/-- The standby follows the cuts it has been told (R352), a new active the last of the old one (R357). -/
def State.followCuts (s : State) : State :=
  if s.isStandby || s.strm.any (fun e => e.2.awaitCut.isSome) then (applyEntries s.twin.syncQueue [] { s with twin := { s.twin with syncQueue := [] } }).endAwaits else s

/-- TRIG_SEQ of a unit that becomes ACTIVE by takeover or swap: the later of its own and the last value learnt from its partner (R192). -/
def State.adoptTrigSeq (s : State) : State :=
  match s.mantis.partnerSeq with
  | some q => if s.mantis.trigSeq ≠ q ∧ (q - s.mantis.trigSeq).toNat < 2147483648 then { s with mantis := { s.mantis with trigSeq := q } } else s
  | none => s

/-- Every stream and capture unit passes to the new active (R355, R356); swap: by a swap (R357). -/
def State.adoptData (s : State) (swap : Bool) : State :=
  let s := s.each ((List.range 64).filter (fun x => s.cfgOn Fld.streamEnable x)) (fun x t => if swap then t.swapStream x else t.adoptStream x)
  let s := s.each (s.twin.capSeqs.map (fun e => e.1)) (fun u t => t.updCap u (fun c => { c with seqNext := Cells.get (fun _ => 0xFFFFFFFF) t.twin.capSeqs u + 1 }))
  { s with twin := { s.twin with syncQueue := s.twin.syncQueue.filter (fun e => swap && decide (e.kind.val ≤ 1)), capSeqs := [] } }

/-- The watermark is in doubt (R356): TWIN has been out of service for longer than ACK_WAIT_US less 1,000 µs; one that has never been in service has been out of it since the timebase started. -/
def State.inDoubt (s : State) : Bool :=
  match s.twin.twinDownUp with
  | some u => !s.inService 2 && decide (u + (s.cfgv Fld.twinAckWaitUs 0 0 - 1000) * 1000 < s.tm.up)
  | none => !s.inService 2 && decide ((s.cfgv Fld.twinAckWaitUs 0 0 - 1000) * 1000 < s.tm.up)

/-- Takeover (R355, R356). A takeover is a new enable of every enabled output (R82), and its reasons no longer stand, so that the handling they opened ends (R458). -/
def State.takeover (s : State) : State :=
  let doubt := s.inDoubt
  let fail := (s.twin.partner.map (fun h => h.failCores)).getD 0
  let tw := { s.twin with seizeOut := true, pulseFrom := s.now + nsTq 2000, resumeWait := doubt, lost := true, failCores := fail, digestPlaus := fail, reasons := 0, runs := [], own := [],
                          swapId := none, swapFrame := none, swapAsked := false, awaiting := [], theirs := [], missingRun := 0, swapEdgeA := 0, swapEdgeB := 0, dualUp := none }
  let s := (({ s with twin := tw } : State).setRole .active s.excEnabled).endHandling Reg.twinStatus 0xFFFF
  let s := (((s.bump 0x58018).setReg64 0x58028 s.nowNs).setBit Reg.twinStatus 11).raise (errAt 2 Reg.twinStatus 11 0xFFFF)
  (((s.adoptTrigSeq.adoptData false).capArmAll).vaultTake true).sendHealth

/-- The active is lost (R354): a standby of either kind takes over. -/
def State.activeLost (s : State) : State := if s.isStandby then s.takeover else s

/-! ### Frames that are named (R349, R357) -/

/-- The frame number an ARM carries. -/
def armWord (f : Option Nat) : Nat := f.getD 0xFFFFFFFFFFFFFFFF

/-- The active sends ARM with F (R349): for a commit of its own it arms its flip with it; either gives the standby its whole configuration (R359). -/
def State.armPair (s : State) (own : Bool) (k : Option Nat) : State :=
  let f := s.cfg.waitReady
  let s := { s with cfg := { s.cfg with armAt := none, waitReady := if own then none else f }, twin := { s.twin with resync := 2 } }
  let s := s.sendOn 2 .twin (.cfgArm (armWord k))
  match own, f with
  | true, some f => s.armFlip f k
  | _, _ => s

/-- The group whose frame F ends a swap (R357). -/
def State.swapGroup (s : State) : Nat := if (s.grpOf 0).mode = .stopped then 1 else 0

/-- In event mode the first frame that strobes late enough is the F a swap or a commit waits for (R349, R357). -/
def State.nameFrame (s : State) (g k : Nat) (edge : Tq) : State :=
  let s := if s.twin.swapAsked = true ∧ s.twin.swapFrame = none ∧ s.swapGroup = g ∧ s.twin.swapAt ≤ edge then
      { s with twin := { s.twin with swapFrame := some k, swapAt := edge } }
    else s
  match s.cfg.armAt with
  | some a => if a.2 ≤ edge ∧ s.leadGroup = some g then s.armPair a.1 (some k) else s
  | none => s

/-! ### The unit's own excitation -/

/-- EXC_STUCK_SELF (R347): current outside a pulse at the strobe edge, at or above OPEN_I (assumption 12). -/
def State.stuckAt (s : State) (g : Nat) (e : EdgeSample) : Bool :=
  (List.range 32).any (fun m => (s.cfgv Fld.excGroup m 0 == g) && s.cfgOn Fld.excEnable m && decide ((s.excOf m).mode = .idle)
    && decide (s.cfgv Fld.excOpenI m 0 ≤ Cells.get (fun _ => 0) e.outUa m))

/-- The flag after a strobe edge of either group; a change sends HEALTH at once (R346). -/
def State.stuckEdge (s : State) : State :=
  let now := s.stuckAt 0 (s.edgeOf 0) || s.stuckAt 1 (s.edgeOf 1)
  if s.twin.role = .active ∧ s.twin.stuck ≠ now then ({ s with twin := { s.twin with stuck := now } } : State).sendHealth else s

end Sys2Proof.Machine
end

