-- ==== Sys2Proof/Machine/Strobe.lean ====
section
/-! DEFINITION. Strobe groups: start and stop (R40, R47, R507), the strobe edge (R27, R31, R37), events (R43 to R48), and steps of time (R41). -/

namespace Sys2Proof.Machine

open Sys2Proof

/-- Every stage of every channel of a group discards its window (R121, R124). -/
def State.groupChainsReset (s : State) (g : Nat) : State :=
  s.each (Look.groupChannels s.cfgv g) (fun i t => t.chainReset i)

/-- The chains and the Mantis units of a group start anew (R124, R169). -/
def State.groupAnew (s : State) (g : Nat) : State := (s.groupChainsReset g).mantisReset g

/-- They start anew now, or once a frame that is still converting has completed with what it belongs to (R507). -/
def State.groupAnewDue (s : State) (g : Nat) : State :=
  if (s.grpOf g).frame.isSome then s.updGrp g (fun x => { x with resetDue := true }) else s.groupAnew g

/-- A group starts, the start applied at a time (R40, R47): the first grid instant at least 10 µs later, or T(0) when it is; in event mode it runs at once. Accepted events count from 0 at a start that follows no hold, and go on counting behind a hold (R321). DESIGN CHOICE (assumption 87): a hold that changes SOURCE from SCHEDULE to EVENT goes on with the number of events accepted since the start, 0 when there was none. DESIGN CHOICE (assumption 49): a start behind a backward step that came while the group was HELD or stopped follows R40 alone, so its first instant may lie before the last one strobed. -/
def State.startGroup (s : State) (g : Nat) (at_ : Tq) : State :=
  let c : Look := s.cfgv
  let x := s.grpOf g
  let behind := decide (x.mode = .held)
  let events := !c.scheduled g
  let evNext := if behind then x.evNext else 0
  let s := s.groupAnewDue g
  let s := s.doIf (events && !(behind && x.byEvents)) (fun t => t.renumberLosses g (if x.byEvents then some x.evNext else none) evNext)
  let s := s.updGrp g (fun y => { y with evNext := evNext, byEvents := events, heldHole := y.heldHole || (behind && (events || y.byEvents)), strobed := false, pendEdge := none, peerUp := none, applied := at_ })
  if events then s.updGrp g (fun y => { y with mode := .running, lastEvUp := s.tm.up })
  else s.updGrp g (fun y => { y with mode := .waitingStart, nextK := c.firstK g (at_ + nsTq 10000) })

/-- A group stops at once; a frame that is converting completes at its ready time (R507). STARVED stays: only an accepted event clears it (R48). -/
def State.stopGroup (s : State) (g : Nat) (mode : GroupMode) : State :=
  s.updGrp g (fun x => { x with mode := mode, heldUp := s.tm.up, hole := x.hole || x.strobed, strobed := false, pendEdge := none, peerUp := none })

/-- Number and time of the first frame a group has not strobed. -/
def State.nextFrame (s : State) (g : Nat) : Nat × Tq :=
  if Look.scheduled s.cfgv g then ((s.grpOf g).nextK, Look.edgeT s.cfgv g (s.grpOf g).nextK) else ((s.grpOf g).evNext, s.now)

/-- What the cores of a group latch at the edge: standing marks, temperature, empty results (R98, R104, R108, R355). -/
def State.latchCore (s : State) (n : Nat) : State :=
  let s := s.updCore n (fun c => { c with t16 := c.t16Next, slot11 := none, pos := 0 })
  let c := s.coreOf n
  let plaus := c.supply.standing || c.tCrit.standing || (s.pairOf (n / 2)).standing || !s.otp.trimGood || s.twin.digestPlaus.getLsbD n
  let s := s.setCore n { c with marksPlaus := plaus, marksRef := c.ref.standing, fallback := (s.trimTemp n).2 }
  s.each (List.range 8) (fun k t => t.setRes (8 * n + k) none)

/-- A hole in a group's frame numbers, or an event-mode hold, between two edges (R124, R131, R169, R171, R172, R321, Table 6-6). -/
def State.groupHole (s : State) (g : Nat) (from_ upto : Tq) : State :=
  let s := ((s.groupChainsReset g).mantisReset g).bump 0x20008
  let lost := if Look.scheduled s.cfgv g then Look.edgeT s.cfgv g (Look.firstEdge s.cfgv g from_ false) else max from_ (s.now - nsTq (s.tm.up - (s.grpOf g).heldUp))
  let s := s.each (Look.groupChannels s.cfgv g) (fun i t => t.statHole i (tqNs lost) (tqNs upto))
  (s.vaultHole g).mainsHole g

/-- The strobe edge of a group is the PEER event of the other one where that one selects it (R43). -/
def State.peerEvent (s : State) (g : Nat) : State :=
  let p := 1 - g
  if Look.scheduled s.cfgv p = false ∧ (s.grpOf p).mode = .running ∧ (s.cfgv Fld.strbEventSrc p 0).testBit 2 = true then
    s.updGrp p (fun x => { x with peerUp := some s.tm.up })
  else s

/-- A strobe edge of a group falls (R27, R31, R32): every hold of its cores closes on what the edge finds, whether or not its slot is enabled. -/
def State.takeEdge (s : State) (g k : Nat) (edge : Tq) (e : EdgeSample) : State :=
  s.oneCycle (fun s =>
    let c : Look := s.cfgv
    let x := s.grpOf g
    let diag := c.diagFrame g k
    let gap := (x.strobed || x.hole) && (x.heldHole || decide (k ≠ x.lastK + 1))
    let f : FrameSt := { k := k, edge := edge, diag := diag, nMax := c.nMax g diag, epoch := s.epoch, dueUp := s.tm.up + 200 + 400 * c.nMax g diag, undelivered := false }
    let s := s.setGrp g { x with mode := .running, nextK := k + 1, strobed := true, hole := false, heldHole := false, lastK := k, lastEdge := edge, frame := some f, pendEdge := none }
    let s := if gap then s.groupHole g x.lastEdge edge else s
    let s := ((s.setEdge g e).excEdge g e).stuckEdge
    let s := s.ainEdge g e
    (s.each (c.coresIn g) (fun n t => t.latchCore n)).peerEvent g)

/-- STROBE_EDGE (R37, R38, R405): the group's next grid instant falls due. -/
def execStrobeEdge (g : Group) (e : EdgeSample) (s : State) : Out :=
  let n := gidx g
  let c : Look := s.cfgv
  let x := s.grpOf n
  if c.scheduled n = true ∧ (x.mode = .waitingStart ∨ x.mode = .running) ∧ x.frame.isNone = true then
    let t := c.edgeT n x.nextK
    .next (((s.reach t).pllRunAgo (c.longestLead n + 40000)).takeEdge n x.nextK t e)
  else .next s

/-- An event of a source counts at a group (R43, R50): selected, and a GPIO that is settled, carries the function and shows the edge EVENT_EDGE names; PEER is a strobe edge of the other group that has not been taken. -/
def State.eventCounts (s : State) (g : Nat) (e : EventSource) : Bool :=
  let on := fun n => (s.cfgv Fld.strbEventSrc g 0).testBit n
  let edge := fun (rising : Bool) => decide (s.cfgv Fld.strbEventEdge g 0 = 0) == rising
  match e with
  | .gpioA rising => on 0 && edge rising && s.pinCarries (s.cfgv Fld.strbEventGpioA g 0) 3
  | .gpioB rising => on 1 && edge rising && s.pinCarries (s.cfgv Fld.strbEventGpioB g 0) 3
  | .peer => on 2 && (s.grpOf g).peerUp.isSome

/-- When the events of a command reached the strobe input: a PEER event at the other group's edge. -/
def State.eventUp (s : State) (g : Nat) (es : List EventSource) : Nat :=
  if es.contains .peer then ((s.grpOf g).peerUp).getD s.tm.up else s.tm.up

/-- Ready time of a frame (R33). -/
def FrameSt.ready (f : FrameSt) : Tq := f.edge + nsTq (200 + 400 * f.nMax)

/-- The group is busy at an instant (R45): a delayed strobe is pending, or a frame converts and the converter clock cycle of its ready time has not come. -/
def State.busyAt (s : State) (g up : Nat) : Bool :=
  let x := s.grpOf g
  x.pendEdge.isSome || (match x.frame with
    | some f => decide (up / 5 < f.dueUp / 5)
    | none => false)

/-- The group is busy now. -/
def State.busy (s : State) (g : Nat) : Bool := s.busyAt g s.tm.up

/-- STROBE_EVENT (R43 to R46, R48, R68): the events of one converter clock cycle. -/
def execStrobeEvent (g : Group) (sources : List EventSource) (s : State) : Out :=
  let n := gidx g
  let es := sources.filter (s.eventCounts n)
  if Look.scheduled s.cfgv n = true ∨ (s.grpOf n).mode ≠ .running ∨ es = [] then .next s
  else
    let at_ := s.eventUp n es
    let s := s.updGrp n (fun x => { x with peerUp := if es.contains .peer then none else x.peerUp })
    let s := s.doIf (decide (2 ≤ es.length)) (fun t => t.bump (Reg.strb n 8))
    if s.busyAt n at_ then .next (s.bump (Reg.strb n 4))
    else
      let clk := (at_ + 4) / 5 * 5
      let u := clk + 40 + 5 * s.cfgv Fld.strbDelay n 0
      .next ((s.updGrp n (fun x => { x with pendEdge := some u, starved := false, lastEvUp := clk })).excCut n clk u)

/-- EVENT_STROBE_EDGE (R44, R47, R349, R357): the delay behind an accepted event expires. -/
def execEventStrobeEdge (g : Group) (e : EdgeSample) (s : State) : Out :=
  let n := gidx g
  let x := s.grpOf n
  match x.pendEdge with
  | none => .next s
  | some u =>
    if x.frame.isSome then .next s
    else
      let s := s.reachUp u
      let t := placeEdge s.now
      .next (((s.updGrp n (fun y => { y with evNext := x.evNext + 1 })).takeEdge n x.evNext t e).nameFrame n x.evNext t)

/-- STARVED (R48): 10 ms after the last accepted event, or after the start without one. -/
def execStarved (g : Group) (s : State) : Out :=
  let n := gidx g
  let x := s.grpOf n
  if Look.scheduled s.cfgv n = true ∨ x.mode ≠ .running ∨ x.starved = true then .next s
  else .next (((s.reachUp (x.lastEvUp + 10000000)).setGrp n { x with starved := true }).raise (errAt 0 (Reg.strb n 0) 7 n))

/-- The grid of a group after Firefly time stepped (R41). DESIGN CHOICE (assumption 49): instants that a forward step has passed stay skipped when a backward step follows before the next strobe. -/
def State.gridStepped (s : State) (g : Nat) (old : Tq) : State :=
  let c : Look := s.cfgv
  let x := s.grpOf g
  if c.scheduled g = false ∨ s.now ≤ old then s
  else if x.mode = .waitingStart then
    if c.edgeT g x.nextK < s.now then s.setGrp g { x with nextK := c.firstK g (s.now + nsTq 10000) } else s
  else if x.mode = .running then
    let k := c.firstEdge g s.now true
    if x.nextK < k then
      let s := s.updGrp g (fun y => { y with nextK := k, spans := (y.spans ++ [(c.edgeT g x.nextK, c.edgeT g k)]).filter (fun r => decide (s.now ≤ r.2 + nsTq 4300000000)) })
      s.loseGroup g 2 0 x.nextK (c.edgeT g x.nextK)
    else s
  else s

/-- Both groups after a step. -/
def State.timeStepped (s : State) (old : Tq) : State := (s.gridStepped 0 old).gridStepped 1 old

end Sys2Proof.Machine
end

