-- ==== Sys2Proof/Machine/Firefly.lean ====
section
/-! DEFINITION. Firefly (chapter 09): exchanges (R226 to R229), the servo and its states (R230 to R233), steps and adoptions (R234 to R236), roots (R225), neighbours (R238), pulse generators (R239 to R242) and transmit time stamps (R243 to R246). -/

namespace Sys2Proof.Machine

open Sys2Proof

/-! ### Fields -/

/-- A ROOT takes its time from PPS (R225). -/
def State.ffPps (s : State) : Bool := s.cfgv Fld.fireflyRootSource 0 0 == 1
/-- The sync interval in ns (R226). -/
def State.ffInterval (s : State) : Nat := 125000 * 2 ^ (s.cfgInt Fld.fireflySyncLog 0 + 3).toNat
/-- FIREFLY.STEP_NS. -/
def State.ffStepTq (s : State) : Nat := nsTq (s.cfgv Fld.fireflyStepNs 0 0)
/-- 16 sync intervals in ns (R222). -/
def State.ffLimit (s : State) : Nat := 16 * s.ffInterval
/-- A port gives valid exchanges (R222): it is in service and gave one within the last 16 sync intervals. -/
def State.ffGives (s : State) (p : Nat) : Bool := s.inService p && (s.ffPortOf p).lastUp.any (fun u => decide (s.tm.up ≤ u + s.ffLimit))

/-- Picoseconds of a signed time (R228). -/
def psOf (t : Int) : Int := roundHalfEven (t * 1000) 65536

/-! ### Pulse generators -/

/-- Placed time of rising edge j in ns (R240). -/
def PulseProg.edgeNs (p : PulseProg) (j : Nat) : Nat := roundHalfUp (p.start + j * p.period) 65536

/-- The run has no edge beyond j - 1 (R241). -/
def PulseProg.doneAt (p : PulseProg) (j : Nat) : Bool := if p.period = 0 then decide (1 ≤ j) else decide (p.count ≠ 0 ∧ p.count ≤ j)

/-- A programme is dropped: a descriptor that has met no falling edge retires (R236, R241). -/
def State.dropProg (s : State) (p : Option PulseProg) (retired : Bool) (status : Nat) : State :=
  match p with
  | none => s
  | some p => if retired then s else match s.descOf p.id with
    | some d => s.retireBad d status
    | none => s

/-- A list of programmes is dropped with their operations. -/
def State.dropProgs (s : State) (ps : List PulseProg) (status : Nat) : State := s.each ps (fun p t => t.dropProg (some p) false status)

/-- A generator gives up its programmes; a pulse in progress completes its width (R240; assumption 53). -/
def State.pulseStop (s : State) (k status : Nat) : State :=
  let x := s.pulseOf k
  let s := s.setPulse k { x with prog := none, next := [], retired := false }
  (s.dropProg x.prog x.retired status).dropProgs x.next status

/-- Every generator stops (R236, R325). -/
def State.pulseStopAll (s : State) (status : Nat) : State := s.each (List.range 4) (fun k t => t.pulseStop k status)

/-- The waiting programme that takes over first: the one with the earliest START, of equal ones the latest to come (R241). -/
def firstStart : List PulseProg → Option PulseProg
  | [] => none
  | p :: ps => match firstStart ps with
    | some q => if p.edgeNs 0 < q.edgeNs 0 then some p else some q
    | none => some p

/-- A waiting programme takes over at its START (R241): those before it retire with PULSE_CANCELLED when still pending, and those that came after it go on waiting. -/
def State.pulseSwitch (s : State) (k : Nat) (n : PulseProg) : State :=
  let x := s.pulseOf k
  let older := x.next.takeWhile (fun q => decide (q ≠ n))
  let s := s.setPulse k { x with prog := some n, next := x.next.drop (older.length + 1), edge := 0, retired := false }
  (s.dropProg x.prog x.retired 0x0813).dropProgs older 0x0813

/-- Edges passed by a forward step (R242): the first index whose edge lies after a time, from an index on. -/
def PulseProg.nextAfter (p : PulseProg) (edge now : Nat) : Nat :=
  if p.doneAt edge = true ∨ now < p.edgeNs edge then edge
  else if p.period = 0 then edge + 1
  else
    let j := (nsTq now - p.start) / p.period
    let j := if p.edgeNs j ≤ now then j + 1 else j
    let j := if p.edgeNs j ≤ now then j + 1 else j
    if p.count ≠ 0 then min j p.count else j

/-- The programme that runs loses the edges up to a time (R242): they are counted, and a run without another edge ends. -/
def State.pulsePass (s : State) (k now : Nat) : State :=
  let x := s.pulseOf k
  match x.prog with
  | none => s
  | some p =>
    let j := p.nextAfter x.edge now
    if j = x.edge then s
    else
      let s := (s.bumpBy (0x48220 + 4 * k) (j - x.edge)).setBit (0x48200 + 4 * k) 8
      if p.doneAt j then (s.setPulse k { x with prog := none, edge := j, retired := false }).dropProg (some p) x.retired 0x0813
      else s.setPulse k { x with edge := j }

/-- Waiting programmes whose START the step has passed take over in turn, at most n of them; the run each replaces has passed its edges before that START. -/
def State.pulseTurns (s : State) (k : Nat) : Nat → State
  | 0 => s
  | n + 1 => match firstStart (s.pulseOf k).next with
    | some p => if p.edgeNs 0 ≤ s.nowNs then State.pulseTurns ((s.pulsePass k (p.edgeNs 0 - 1)).pulseSwitch k p) k n else s
    | none => s

/-- A START lies farther ahead than R219 lets a target lie. -/
def State.startFar (s : State) (p : PulseProg) : Bool := decide (nsTq 2147483647 + s.now < p.start)

/-- A generator after a step (R221, R242): targets now out of reach are refused, then passed edges are left out. -/
def State.pulseStepped (s : State) (k : Nat) : State :=
  let x := s.pulseOf k
  let far := x.next.filter s.startFar
  let pend := x.prog.filter (fun p => x.edge == 0 && !x.retired && s.startFar p)
  let s := s.setPulse k { x with prog := if pend.isSome then none else x.prog, next := x.next.filter (fun p => !s.startFar p) }
  let s := (s.dropProg pend false 0x0810).dropProgs far 0x0810
  let s := s.pulseTurns k (s.pulseOf k).next.length
  s.pulsePass k s.nowNs

/-- Pending capture windows after a step (R221): those more than the window of R219 ahead are refused. -/
def State.jobsStepped (s : State) : State :=
  let far := s.mantis.jobs.filter (fun j => decide (nsTq 2147483647 + s.now < j.tTrig))
  let s := { s with mantis := { s.mantis with jobs := s.mantis.jobs.filter (fun j => !far.any (fun x => x.id == j.id)) } }
  s.each far (fun j t => match t.descOf j.id with
    | some d => t.retireBad d 0x0810
    | none => t)

/-! ### Steps and epochs -/

/-- Slewing starts anew with a correction over an interval (R230); 0 cancels it. -/
def State.slewBy (s : State) (c : Int) (interval : Nat) : State :=
  { s with tm := { s.tm with slew := c * 65536, slewLen := if c = 0 then 0 else interval, slewAt := s.tm.up } }

/-- The count takes another value at once. -/
def State.setCount (s : State) (t : Tq) : State := { s with tm := { s.tm with count := t * 65536 } }

/-- What follows any step (R41, R221, R242). -/
def State.afterStep (s : State) (old : Tq) : State :=
  ((s.timeStepped old).jobsStepped).each (List.range 4) (fun k t => t.pulseStepped k)

/-- A step of the servo (R234): the count changes by d. -/
def State.ffStep (s : State) (d : Int) : State :=
  let old := s.now
  let locked := decide (s.ff.mode = .locked)
  let s := (s.slewBy 0 0)
  let s := { s with tm := { s.tm with count := ((s.tm.count : Int) + d * 65536).toNat }, ff := { s.ff with integral := 0 } }
  let s := ((s.bump 0x48020).setReg 0x48024 (satWord (roundHalfEven d 65536))).setBit Reg.ffStatus 9
  let s := s.doIf locked (fun t => t.raise (errAt 1 Reg.ffStatus 9 0xFFFF))
  s.afterStep old

/-- A servo state is entered (Table 9-3). -/
def State.ffMode (s : State) (m : FfMode) : State :=
  let f := { s.ff with mode := m, lockRun := 0, unlockRun := 0, ppsRun := 0, firstHere := true, modeUp := s.tm.up }
  let s := match m with
    | .acquiring => { s with ff := { f with integral := 0 } }
    | .holdover => ({ s with ff := { f with holdFrom := s.tm.up } } : State).setBit Reg.ffStatus 11
    | _ => { s with ff := f }
  s.refuserNote

/-- Streams at an adoption (R236): losses in hand end with the old epoch, and every open packet closes, behind a frame that still converts when there is one (R507). -/
def State.adoptStreams (s : State) (g : Nat) : State :=
  let n := s.nextFrame g
  let ep := s.epoch
  let s := s.each (s.streamsOf g) (fun x t =>
    t.updStrm x (fun st => { st with losses := st.losses.map (fun l => { l with until_ := l.until_.orElse (fun _ => some n), epoch := l.epoch.orElse (fun _ => some ep) }) }))
  if (s.grpOf g).frame.any (fun f => !f.undelivered) then s.updGrp g (fun x => { x with closeDue := true })
  else s.closeStreams (s.streamsOf g)

/-- A group in schedule mode restarts in the new epoch (R236). -/
def State.adoptGroup (s : State) (g : Nat) : State :=
  let c : Look := s.cfgv
  let grids := s.gridSpans g
  let spans := (s.grpOf g).spans
  let s : State := { s with mantis := { s.mantis with jobs := s.mantis.jobs.map (fun j => if j.group = g ∧ j.grids = none then { j with grids := some grids, spans := spans } else j) } }
  let s := s.updGrp g (fun x => { x with spans := [], oldGrids := [] })
  if c.scheduled g = true ∧ ((s.grpOf g).mode = .waitingStart ∨ (s.grpOf g).mode = .running) then
    let s := (s.stopGroup g .stopped).startGroup g s.now
    s.loseGroup g 3 adoptionDetail (c.firstK g s.now) s.now
  else s

/-- Captures at an adoption (R236): windows end, and CAPTURE_READs whose target was still to come retire. -/
def State.adoptCaptures (s : State) (old : Tq) : State :=
  let far := s.mantis.jobs.filter (fun j => decide (j.unit = 16 ∧ old < j.tTrig))
  let s := { s with mantis := { s.mantis with jobs := s.mantis.jobs.filter (fun j => !far.any (fun x => x.id == j.id)) } }
  let s := s.each far (fun j t => match t.descOf j.id with
    | some d => t.retireBad d 0x0810
    | none => t)
  s.each (s.cap.map (fun e => e.1)) (fun u t => t.updCap u (fun c => if c.mode = .window then { c with winEnd := t.now } else c))

/-- An adoption (R235, R236): the epoch and the count change, and nothing carries a time across. -/
def State.adopt (s : State) (epoch : BitVec 16) (t : Tq) : State :=
  let old := s.now
  let s := s.each (List.range 512) (fun i a => (a.statNow a.cfgv i).updStats i (fun c => c.closeShort a.nowNs none))
  let s := (s.adoptStreams 0).adoptStreams 1
  let s := (s.slewBy 0 0).setCount t
  let s := { s with ff := { s.ff with epoch := epoch }, hiveLost := [] }
  let s := ((s.mainsHole s.mainsGroup).adoptGroup 0).adoptGroup 1
  let s := (s.adoptCaptures old).pulseStopAll 0x0813
  let s := s.each (List.range 4) (fun k a => a.updPulse k (fun x =>
    { x with fallAt := a.now + (x.fallAt - old), tails := x.tails.map (fun y => { y with fallAt := a.now + (y.fallAt - old) }) }))
  (s.setBit Reg.ffStatus 10).raise (errAt 0 Reg.ffStatus 10 0xFFFF)

/-! ### The servo -/

/-- The slew of R230. -/
def State.ffSlew (s : State) (theta : Int) (interval : Nat) : State :=
  let e := -theta
  let lim : Int := (s.cfgv Fld.fireflySlewMaxPpb 0 0 * interval * 65536 / 1000000000 : Nat)
  let i := clampInt (-lim) lim (s.ff.integral + asr e (s.cfgv Fld.fireflyKiShift 0 0))
  let c := clampInt (-lim) lim (asr e (s.cfgv Fld.fireflyKpShift 0 0) + i)
  ({ s with ff := { s.ff with integral := i } } : State).slewBy c interval

/-- Correct the count by an offset: slew, or step under R234; mayStep: the rule of the source lets it step. -/
def State.ffCorrect (s : State) (theta : Int) (interval : Nat) (mayStep : Bool) : State :=
  let big := decide (s.ffStepTq < theta.natAbs)
  let run := if big then s.ff.stepRun + 1 else 0
  let first := s.ff.firstHere && decide (s.ff.mode = .acquiring ∨ s.ff.mode = .holdover)
  let s := { s with ff := { s.ff with stepRun := run, firstHere := false } }
  if !big then s.ffSlew theta interval
  else if mayStep && (first || decide (s.cfgv Fld.fireflyStepPersist 0 0 ≤ run)) then s.ffStep (-theta)
  else s.slewBy 0 0

/-- The parent reports LOCKED or HOLDOVER. -/
def State.parentSound (s : State) : Bool := decide (2 ≤ (s.ffPortOf s.ffInUse).parentMode)

/-- The states of a member after a valid exchange (Table 9-3). -/
def State.ffStates (s : State) (theta : Int) : State :=
  match s.ff.mode with
  | .holdover => s.ffMode .acquiring
  | .acquiring =>
    let n := if decide (theta.natAbs ≤ nsTq 1) && s.parentSound then s.ff.lockRun + 1 else 0
    if 8 ≤ n then s.ffMode .locked else { s with ff := { s.ff with lockRun := n } }
  | .locked =>
    let n := if nsTq 10 < theta.natAbs then s.ff.unlockRun + 1 else 0
    if 4 ≤ n then s.ffMode .acquiring else { s with ff := { s.ff with unlockRun := n } }
  | .free => s

/-- A valid exchange on the parent in use (R230, R231, R234). -/
def State.ffParentExchange (s : State) (theta delay : Int) : State :=
  let s := (s.setReg 0x48018 (satWord (psOf theta))).setReg 0x4801C (satWord (psOf delay))
  (s.ffCorrect theta s.ffInterval true).ffStates theta

/-- The twin exchange (R229) and reason TIME (Table 13-5). -/
def State.ffTwinExchange (s : State) (theta : Int) : State :=
  let s := s.setReg 0x4802C (satWord (psOf theta))
  let off := decide (nsTq (s.cfgv Fld.twinTimeTol 0 0) < theta.natAbs)
  let n := s.cfgv Fld.twinTimePersist 0 0
  let bad := if off then s.twin.timeRun + 1 else 0
  let good := if off then 0 else s.twin.timeGood + 1
  let s := { s with twin := { s.twin with timeRun := bad, timeGood := good } }
  if s.isStandby = false then s
  else if n ≤ bad then s.addReason [Reason.time]
  else if n ≤ good then s.dropReason [Reason.time]
  else s

/-- Runs that belong to the parent in use start anew on every port (R235), and ALT_DISAGREE holds for an ALT_PARENT out of use only (R238). -/
def State.ffPortsAnew (s : State) : State := s.each [0, 1, 2] (fun p t => t.updFfPort p (fun x => { x with adoptRun := 0, altBad := false }))

/-- The hub changes its parent (R222): the run of valid exchanges of the port it leaves ends. -/
def State.ffSwitch (s : State) (alt : Bool) : State :=
  let s := s.updFfPort s.ffInUse (fun x => { x with goodRun := 0 })
  ({ s with ff := { s.ff with altInUse := alt, sinceSwitch := 0, source := none, parentHold := false, useUp := s.tm.up } } : State).ffPortsAnew.refclkKeep

/-- A valid exchange on a port (R222, R229, R230, R238): HOLDOVER ends with the first one of PARENT or ALT_PARENT (Table 9-3; assumption 54). -/
def State.ffExchange (s : State) (p : Nat) (theta delay : Int) : State :=
  let s := s.updFfPort p (fun x => { x with goodRun := x.goodRun + 1, delay := delay, lastUp := some s.tm.up })
  let s := if p = 2 then s.ffTwinExchange theta else s
  if s.ffRoot then s
  else
    let held := decide (s.ff.mode = .holdover)
    let s := if s.ffAlt = some p ∧ s.ff.altInUse = false then s.updFfPort p (fun x => { x with altBad := decide (s.ffStepTq < theta.natAbs) }) else s
    let free := decide (16 ≤ s.ff.sinceSwitch)
    let back := s.ff.altInUse && decide (p = s.ffParent) && (held || decide (8 ≤ (s.ffPortOf p).goodRun)) && free
    let turn := !s.ff.altInUse && decide (s.ffAlt = some p) && held && !(s.ffPortOf p).altBad && free
    let s := if back then s.ffSwitch false else if turn then s.ffSwitch true else s
    if p = s.ffInUse then s.ffParentExchange theta delay else s

/-- θ and the mean delay of an exchange (R228). -/
def State.ffTheta (s : State) (p : Nat) (t1 t2 t3 t4 : Tq) : Int × Int :=
  let a : Int := t2 - t1
  let b : Int := t4 - t3
  let asym := roundHalfEven (s.cfgInt Fld.fireflyAsymPs p * 65536) 1000
  (roundHalfEven (a - b - asym) 2, roundHalfEven (a + b) 2)

/-- Exchanges end without being valid (R227): each is counted once, and a run of valid ones ends. -/
def State.ffDrop (s : State) (p : Nat) (bad : ExchSt → Bool) : State :=
  let n := ((s.ffPortOf p).exch.filter bad).length
  if n = 0 then s
  else (s.bumpBy 0x48028 n).updFfPort p (fun x => { x with exch := x.exch.filter (fun e => !bad e), goodRun := 0 })

/-- A SYNC starts an exchange (R226): the DELAY_REQ is queued at once. An earlier one whose request has not left by now cannot become valid. A hub whose epoch is UNSET sends none (R218). -/
def State.ffStart (s : State) (p : Nat) (m : SyncMsg) : State :=
  if s.epoch = 0xFFFF then s
  else
    let s := s.ffDrop p (fun e => e.t3.isNone || e.seqId == m.seqId)
    let e : ExchSt := { seqId := m.seqId, epoch := m.epoch, reqEpoch := s.epoch, t1 := m.t1, t2 := s.now, t3 := none, retry := m.retry }
    (s.updFfPort p (fun x => { x with exch := x.exch ++ [e] })).sendOn p .firefly (.delayReq ⟨m.seqId, s.epoch, false⟩)

/-- A SYNC on a port other than the parent in use (R235, R238). -/
def State.ffNeighbour (s : State) (p : Nat) (m : SyncMsg) : State :=
  if m.epoch = s.epoch then s.updFfPort p (fun x => { x with adoptRun := 0 })
  else
    let seen := (s.ffPortOf p).diffSeen.contains m.epoch
    let s := (s.bump 0x4804C).setBit Reg.ffStatus 13
    if seen then s else (s.updFfPort p (fun x => { x with diffSeen := m.epoch :: x.diffSeen })).raise (errAt 0 Reg.ffStatus 13 p)

/-- A SYNC on the parent in use (R231, R232, R235). -/
def State.ffFromParent (s : State) (p : Nat) (m : SyncMsg) : State :=
  let s := if s.ff.mode = .free then s.ffMode .acquiring else s
  let run := if m.epoch = s.epoch then 0 else (s.ffPortOf p).adoptRun + 1
  let s := s.updFfPort p (fun x => { x with adoptRun := run, parentMode := m.state.val, syncUp := some s.tm.up })
  let s := { s with ff := { s.ff with source := some (m.rootId, m.hops + 1), parentHold := decide (m.state.val = 3) } }
  if run ≠ 0 ∧ (s.epoch = 0xFFFF ∨ 3 ≤ run) then
    (s.updFfPort p (fun x => { x with adoptRun := 0 })).adopt m.epoch ((m.t1 : Int) + (s.ffPortOf p).delay).toNat
  else s

/-! ### Commands -/

/-- What a SYNC of this hub says (Table 9-1). -/
def State.ffSyncMsg (s : State) (p : Nat) : SyncMsg :=
  let src := if s.ffRoot then (BitVec.ofNat 16 (s.cfgv Fld.mantisNodeId 0 0), (0 : BitVec 12)) else s.ff.source.getD (0xFFFF, 0xFFF)
  let st : Fin 4 := match s.ff.mode with
    | .free => 0
    | .acquiring => 1
    | .locked => 2
    | .holdover => 3
  { seqId := (s.ffPortOf p).txSeq, epoch := s.epoch, state := st, synt := s.syntonised, hops := src.2, t1 := s.now, rootId := src.1, retry := false }

/-- SYNC_INTERVAL (R224, R226): every port in service but the parent in use, and TWIN in every case. -/
def execSyncInterval (s : State) : Out :=
  let s := { s with ff := { s.ff with sinceSwitch := s.ff.sinceSwitch + 1 } }
  if s.epoch = 0xFFFF then .next s
  else
    let ps := [0, 1, 2].filter (fun p => s.inService p && (decide (p = 2) || s.ffRoot || decide (p ≠ s.ffInUse)))
    .next (s.each ps (fun p t => (t.updFfPort p (fun x => { x with txSeq := x.txSeq + 1 })).sendOn p .firefly (.sync (t.ffSyncMsg p))))

/-- SYNC (R223, R226, R235, R238). -/
def execSync (p : Port) (m : SyncMsg) (s : State) : Out :=
  let n := pidx p
  if s.inService n = false then .next s
  else
    let s := s.rxAccept n
    if 4094 ≤ m.hops.toNat ∨ m.epoch = 0xFFFF then .next s
    else if s.ffRoot then
      if n = 2 then .next ((s.ffNeighbour n m).ffStart n m)
      else
        let told := (s.ffPortOf n).conflict
        let s := (s.ffNeighbour n m).bump 0x48048
        .next (if told then s else (s.updFfPort n (fun x => { x with conflict := true })).raiseBare 0 false n)
    else if n = s.ffInUse then .next ((s.ffFromParent n m).ffStart n m)
    else
      let s := s.ffNeighbour n m
      .next (if n = 2 ∨ n = s.ffParent ∨ s.ffAlt = some n then s.ffStart n m else s)

/-- DELAY_REQ (R224, R226): T4 is the time of reception. -/
def execDelayReq (p : Port) (m : DelayReq) (s : State) : Out :=
  let n := pidx p
  if s.inService n = false then .next s
  else
    let s := s.rxAccept n
    if s.epoch = 0xFFFF then .next s else .next (s.sendOn n .firefly (.delayResp ⟨m.seqId, s.epoch, s.now, m.retry⟩))

/-- DELAY_RESP (R227, R228). -/
def execDelayResp (p : Port) (m : DelayResp) (s : State) : Out :=
  let n := pidx p
  if s.inService n = false then .next s
  else
    let s := s.rxAccept n
    match (s.ffPortOf n).exch.find? (fun e => e.seqId == m.seqId) with
    | none => .next s
    | some e =>
      let forced := (s.injOf 10 2 0).isSome
      let s := s.doIf forced (fun t => t.useInj 10 2 0)
      let this := fun (x : ExchSt) => x.seqId == m.seqId
      match e.t3 with
      | none => .next (s.ffDrop n this)
      | some t3 =>
        if forced || e.retry || m.retry || decide (e.epoch ≠ s.epoch ∨ e.reqEpoch ≠ s.epoch ∨ m.epoch ≠ s.epoch ∨ t3 + nsTq 200000 < s.now) then
          .next (s.underInj forced (fun t => t.ffDrop n this))
        else
          let r := s.ffTheta n e.t1 e.t2 t3 m.t4
          let s := s.updFfPort n (fun x => { x with exch := x.exch.filter (fun x => !this x) })
          match s.injOf 10 1 0 with
          | some i => .next ((s.useInj 10 1 0).underInj true (fun t => t.ffExchange n (r.1 + roundHalfEven (i.value * 65536) 1000) r.2))
          | none => .next (s.ffExchange n r.1 r.2)

/-- EXCHANGE_TIMEOUT (R227): the oldest exchange whose request has left is over 200 µs later. -/
def execExchangeTimeout (p : Port) (s : State) : Out :=
  let n := pidx p
  match (s.ffPortOf n).exch.find? (fun e => e.t3.isSome) with
  | none => .next s
  | some e => .next ((s.reach (e.t3.getD 0 + nsTq 200000)).ffDrop n (fun x => x.seqId == e.seqId))

/-- The port the hub would turn to from the parent in use (R222): one that gives valid exchanges, ALT_PARENT without ALT_DISAGREE (R238), PARENT after 8 of them. -/
def State.ffOther (s : State) : Bool :=
  decide (16 ≤ s.ff.sinceSwitch) &&
    (if s.ff.altInUse then s.ffGives s.ffParent && decide (8 ≤ (s.ffPortOf s.ffParent).goodRun)
     else s.ffAlt.any (fun p => s.ffGives p && !(s.ffPortOf p).altBad))

/-- The instant the parent in use has given no valid exchange for 16 sync intervals, in ns since the timebase started. -/
def State.ffDue (s : State) : Nat := max ((s.ffPortOf s.ffInUse).lastUp.getD 0) s.ff.useUp + s.ffLimit

/-- PARENT_TIMEOUT (R222, Table 9-3): the other parent takes over when it gives valid exchanges, at once when the port in use is out of service; otherwise LOCKED ends in HOLDOVER. -/
def execParentTimeout (s : State) : Out :=
  if s.ffRoot then .next s
  else if s.inService s.ffInUse = false ∧ s.ffOther = true then .next (s.ffSwitch (!s.ff.altInUse))
  else
    let s := (s.reachUp s.ffDue).updFfPort s.ffInUse (fun x => { x with goodRun := 0 })
    if s.ffOther then .next (s.ffSwitch (!s.ff.altInUse))
    else if s.ff.mode = .locked then .next (s.ffMode .holdover)
    else .next s

/-- NO_PARENT (R231): 1 s in ACQUIRING without a SYNC on the parent port. -/
def execNoParent (s : State) : Out :=
  if s.ffRoot = false ∧ s.ff.mode = .acquiring then
    .next (((s.reachUp (max ((s.ffPortOf s.ffInUse).syncUp.getD 0) s.ff.modeUp + 1000000000)).setBit Reg.ffStatus 12).raise (errAt 0 Reg.ffStatus 12 0xFFFF)) else .next s

/-- The count takes a set value (R225, R233): a step, or an adoption when the epoch changes. -/
def State.ffSet (s : State) (v : Nat) (epoch : BitVec 16) : State :=
  if epoch ≠ s.epoch then s.adopt epoch (nsTq v)
  else
    let old := s.now
    ((s.slewBy 0 0).setCount (nsTq v)).afterStep old

/-- The states of a PPS root at an edge (R233). -/
def State.ppsStates (s : State) (theta : Int) : State :=
  match s.ff.mode with
  | .locked => if 1000 < theta.natAbs then s.ffMode .holdover else s
  | _ =>
    let n := if theta.natAbs ≤ 100 then s.ff.ppsRun + 1 else 0
    if 4 ≤ n then s.ffMode .locked else { s with ff := { s.ff with ppsRun := n } }

/-- PPS_EDGE (R225, R233). -/
def execPpsEdge (s : State) : Out :=
  if s.ffRoot = false ∨ s.ffPps = false ∨ s.pinCarries (s.cfgv Fld.fireflyPpsGpio 0 0) 4 = false then .next s
  else
    let held := decide (s.ff.mode = .holdover)
    let s : State := { s with ff := { s.ff with ppsUp := s.tm.up } }
    let s := if s.ff.mode = .free then s.ffMode .acquiring else s
    match s.ff.goPending with
    | some (v, ep) =>
      let s := ({ s with ff := { s.ff with goPending := none, ppsRun := 0 } } : State).ffSet v ep
      .next (if held then s.ffMode .acquiring else s)
    | none =>
      let t := s.nowNs
      let theta : Int := (t : Int) - ((t + 500000000) / 1000000000 * 1000000000 : Nat)
      let s := s.ffCorrect (theta * 65536) 1000000000 (decide (s.ff.mode ≠ .locked))
      let s := if held then s.ffMode .acquiring else s
      .next (s.ppsStates theta)

/-- PPS_TIMEOUT (R233): 1.5 s without an edge. -/
def execPpsTimeout (s : State) : Out :=
  if s.ffRoot = true ∧ s.ffPps = true ∧ s.ff.mode = .locked then .next ((s.reachUp (s.ff.ppsUp + 1500000000)).ffMode .holdover) else .next s

/-- FF_SET_GO (R225, R397). -/
def execFfSetGo (path : Path) (s : State) : Out :=
  let epoch := BitVec.ofNat 16 (field (s.reg 0x48038) 15 0)
  let denied := decide (path = .host) && s.sv.owned && !s.sv.policy.getLsbD 0
  if s.ffRoot = false ∨ epoch = 0xFFFF ∨ denied = true then .next (s.setBit Reg.ffStatus 14)
  else
    let v := s.reg64 0x48030
    if s.ffPps then .next { s with ff := { s.ff with goPending := some (v, epoch) } }
    else .next ((s.ffSet v epoch).ffMode .locked)

/-- FF_NOW_READ (R216). -/
def execFfNowRead (wide : Bool) (s : State) : Out :=
  let hi := if wide then none else some (W32.hi s.nowNs)
  .next { s with ff := { s.ff with nowHi := hi, nowFrac := some (BitVec.ofNat 32 (s.now % 65536)) } }

/-- TXTS_POP (R246). -/
def execTxtsPop (p : Port) (s : State) : Out := .next (s.updTxts (pidx p) (fun q => { q with queue := q.queue.drop 1 }))

/-- An entry for a transmit time-stamp queue (R243 to R245). -/
def State.txtsPush (s : State) (p : Nat) (tsId : BitVec 16) (stamp : Tq) (retry : Bool) : State :=
  let q := s.txtsOf p
  if 32 ≤ q.queue.length then
    ((s.bump (Reg.txts p 4)).setBit (Reg.txts p 0) 8).setTxts p { q with gapNext := true }
  else s.setTxts p { queue := q.queue ++ [⟨tsId, stamp, retry, q.gapNext⟩], gapNext := false }

/-- The parameters of a TIME_PULSE are in range, and its pin has the function (R241, Table 9-5). -/
def State.pulseGood (s : State) (p : PulseProg) : Bool :=
  let whole := p.period / 65536
  decide (s.pinFunc p.gpio = 5) && decide (10 ≤ p.width)
    && (if p.period = 0 then decide (p.width ≤ 1000000000)
        else decide (1000 ≤ whole ∧ whole ≤ 2147483647 ∧ nsTq p.width + nsTq 10 ≤ p.period))

/-- TIME_PULSE (R219, R241). -/
def execTimePulse (id : Nat) (s : State) : Out :=
  s.serve id 0x40 (fun d s =>
    let k := field (d.p 0) 1 0
    let p : PulseProg :=
      { id := id, gpio := field (d.p 0) 12 8, start := nsTq (d.p64 1) + field (d.p 3) 15 0, width := (d.p 4).toNat,
        period := nsTq (d.p 5).toNat + field (d.p 6) 15 0, count := (d.p 7).toNat }
    if p.width = 0 then (s.pulseStop k 0x0813).retireOk d []
    else if s.pulseGood p = false then s.retireBad d 0x0812
    else if nsTq 2147483647 < ((p.start : Int) - s.now).natAbs then s.retireBad d 0x0810
    else if p.start < d.fetchedAt + nsTq 2000 then s.retireBad d 0x0811
    else if s.cfg.bad then s.retireBad d 0x0813
    else
      let s := s.take id
      let x := s.pulseOf k
      if x.prog.isNone = true ∧ x.next = [] then s.setPulse k { x with prog := some p, edge := 0, retired := false }
      else s.setPulse k { x with next := x.next ++ [p] })

/-- A pulse's falling edge retires the descriptor it is due to (R241). -/
def State.pulseRetire (s : State) (id : Option Nat) (rise : Tq) : State :=
  match id.bind s.descOf with
  | some d => s.retireOk d (two (tqNs rise))
  | none => s

/-- TIME_PULSE_RISE (R240, R241): the generator's next rising edge, that of a waiting programme when its START comes first. A pulse of an earlier programme still in progress keeps its own pin and fall. -/
def execTimePulseRise (k : Fin 4) (s : State) : Out :=
  let x := s.pulseOf k
  let own := (x.prog.filter (fun p => !p.doneAt x.edge)).map (fun p => p.edgeNs x.edge)
  let s := match firstStart x.next with
    | some n => if own.all (fun t => decide (n.edgeNs 0 ≤ t)) then s.pulseSwitch k n else s
    | none => s
  let x := s.pulseOf k
  match x.prog with
  | none => .next s
  | some p =>
    if p.doneAt x.edge then .next s
    else
      let t := nsTq (p.edgeNs x.edge)
      let tails := if x.high then x.tails ++ [⟨x.pin, x.fallAt, x.riseAt, x.fallId⟩] else x.tails
      .next ((s.reach t).setPulse k
        { x with high := true, edge := x.edge + 1, riseAt := t, fallAt := t + nsTq p.width, fallId := if x.retired then none else some p.id, retired := true, pin := if s.pads.parked.getLsbD p.gpio then 32 else p.gpio, tails := tails })

/-- The earliest fall among pulses of replaced programmes. -/
def firstFall : List PulseTail → Option PulseTail
  | [] => none
  | y :: ys => match firstFall ys with
    | some z => if z.fallAt < y.fallAt then some z else some y
    | none => some y

/-- TIME_PULSE_FALL (R241): the generator's next falling edge. -/
def execTimePulseFall (k : Fin 4) (s : State) : Out :=
  let x := s.pulseOf k
  match (firstFall x.tails).filter (fun y => !x.high || decide (y.fallAt ≤ x.fallAt)) with
  | some y => .next (((s.reach y.fallAt).setPulse k { x with tails := x.tails.erase y }).pulseRetire y.fallId y.riseAt)
  | none =>
    if x.high = false then .next s
    else
      let turn := x.prog.any (fun p => p.doneAt x.edge)
      let s := (s.reach x.fallAt).setPulse k { x with high := false, fallId := none, prog := if turn then none else x.prog, retired := x.retired && !turn }
      .next (s.pulseRetire x.fallId x.riseAt)

/-! ### Links and commits -/

/-- A port comes into service (Table 9-3, Table 20-6). -/
def State.ffPortUp (s : State) (p : Nat) : State :=
  let s := s.refclkKeep
  if s.ffRoot = false ∧ s.ff.mode = .free ∧ (p = s.ffParent ∨ s.ffAlt = some p) then s.ffMode .acquiring else s

/-- A commit changed Firefly's fields (R233, R247): called with the new configuration live. -/
def State.ffCommit (s : State) (old : Look) : State :=
  let s := s.refclkKeep
  let changed := fun (f : Nat) => decide (old f 0 0 ≠ s.cfgv f 0 0)
  if changed Fld.fireflyRole then
    let s := (s.ffMode .free).ffPortsAnew
    { s with ff := { s.ff with altInUse := false, useUp := s.tm.up, source := none, parentHold := false, goPending := none, integral := 0 } }
  else if s.ffRoot then
    if changed Fld.fireflyRootSource then
      let s : State := s.ffMode .acquiring
      let s : State := { s with ff := { s.ff with goPending := none } }
      if s.ffPps = false ∧ s.epoch ≠ 0xFFFF then s.ffMode .locked else s
    else s
  else if changed Fld.fireflyParent || changed Fld.fireflyAltParent then
    let s := (s.ffMode .acquiring).ffPortsAnew
    { s with ff := { s.ff with altInUse := false, source := none, parentHold := false, useUp := s.tm.up } }
  else s

end Sys2Proof.Machine
end

