-- ==== Sys2Proof/Machine/Links.lean ====
section
/-! DEFINITION. Utina ports (chapter 10): states and bring-up (R262 to R268), leaving service (R269), retry (R258 to R261), key exchange (R270 to R274, R394, R395), chirps (R277) and the link commands. -/

namespace Sys2Proof.Machine

open Sys2Proof

/-! ### Fields -/

/-- SECURITY is ON (the list is ON, OFF). -/
def State.linkSecured (s : State) (p : Nat) : Bool := s.cfgv Fld.linkSecurity p 0 == 0
/-- EQ_MODE is FIXED. -/
def State.eqFixed (s : State) (p : Nat) : Bool := s.cfgv Fld.linkEqMode p 0 == 1
/-- Frames per second of a group's configured grid; none in event mode. -/
def State.groupRate (s : State) (g : Nat) : Nat :=
  if s.cfgOn Fld.strbEnable g ∧ Look.scheduled s.cfgv g then 65536000000000 / max 1 (Look.period s.cfgv g) else 0

/-- Reserved load of a port in Mb/s (R266, R335). -/
def State.reservedLoad (s : State) (p : Nat) : Nat :=
  50 + (if p = 2 ∧ s.twinned = true then (2600 * (s.groupRate 0 + s.groupRate 1) + 999999) / 1000000 else 0)

/-- The highest rate both ends allow. -/
def State.rateLimit (s : State) (p : Nat) : Nat :=
  min (s.cfgv Fld.linkMaxRate p 0) (((s.linkOf p).partner.map (fun f => f.maxRate)).getD 0)

/-- No further rate is to be tried (R266): the initiator's SPEED_POLICY ends the search. A responder goes on until the key exchange tells it, and with SECURITY OFF, where nothing does, ends by its own policy (assumption 58). -/
def State.ratesDone (s : State) (p : Nat) : Bool :=
  let l := s.linkOf p
  decide (s.rateLimit p ≤ l.rate)
    || ((s.initiator p || !s.linkSecured p) && l.policy == 1 && decide (2 * s.reservedLoad p ≤ rateCapacity l.rate) && l.loadUp ≠ some s.tm.up)

/-- The clock lane runs in every state but DISABLED and SLEEP (R250, Table 10-5); the injector can silence it (R280). -/
def State.clockLane (s : State) (p : Nat) : Bool :=
  decide ((s.linkOf p).mode ≠ .disabled) && decide ((s.linkOf p).mode ≠ .sleep) && !s.squelched p 2

/-! ### State changes -/

/-- Bit errors counted so far are kept when a port leaves TEST (R279). -/
def State.testKeep (s : State) (p : Nat) : State :=
  if (s.linkOf p).mode = .test then (s.setReg (Reg.link p 0x40) (s.prbsWord p 0)).setReg (Reg.link p 0x44) (s.prbsWord p 1) else s

/-- A port changes its state; the lanes have carried what its old state puts on them up to now, and the change is traced (Table 17-13). -/
def State.linkMode (s : State) (p : Nat) (m : PortMode) : State :=
  if (s.linkOf p).mode = m then s
  else ((s.testKeep p).updLink p (fun l => { l.catchUp s.tm.up with mode := m, testUp := s.tm.up, clockLock := l.clockLock && decide (m ≠ .disabled ∧ m ≠ .sleep) })).traceFree 4

/-- Send a training frame, again every 10 µs until the partner answers (R263). -/
def State.trainSend (s : State) (p : Nat) (b : TxBody) : State :=
  (s.updLink p (fun l => { l with lastTrain := some b, trainUp := s.tm.up })).sendOn p .training b

/-- A commit that waited for the standby is armed alone when TWIN leaves service, and a standby drops what it had staged (R349). -/
def State.flipAlone (s : State) : State :=
  let f := s.cfg.waitReady.filter (fun f => f.id.isSome)
  let s := { s with cfg := { s.cfg with waitReady := none, twinData := [], dataOut := [], armAt := none } }
  match f with
  | some f => s.armFlip f none
  | none => s

/-- The twin's part in TWIN leaving service (R347, R349, R357, R359). -/
def State.twinDown (s : State) : State :=
  let s := s.flipAlone.dropAwaits
  let swap := s.twin.swapId
  let s := { s with twin := { s.twin with twinDownUp := some s.tm.up, resync := 0, syncQueue := [], swapId := none, swapFrame := none, swapAsked := false } }
  let s := match swap.bind s.descOf with
    | some d => s.retireBad d 0x0612
    | none => s
  if s.isStandby then s.addReason [Reason.link] else s

/-- A port leaves ACTIVE (R269): one RECOVERABLE error with its cause (rows of Table 10-6 from 1; 0 for RETRAIN or a commit), LOSS_SEEN and the count; the frame on the wire is cut and stays for replay, Firefly frames are dropped at once (R261), and a parent's run of valid exchanges ends (R222). -/
def State.linkExit (s : State) (p cause : Nat) : State :=
  if s.inService p = false then s
  else
    let s := s.cutFrame p
    let l := s.linkOf p
    let kept := match l.current with
      | some f => if lseqFrom f.lseq l.lastAcked || l.replay.any (fun x => x.lseq == f.lseq) then l.replay else l.replay ++ [f]
      | none => l.replay
    let fire := fun (f : TxFrame) => f.cls == TxClass.firefly
    let lost := (kept.filter fire).length + (l.queues.filter fire).length
    let s := s.setLink p { l with current := none, resend := [], replay := kept.filter (fun f => !fire f), queues := l.queues.filter (fun f => !fire f), hiBer := false, hiBerRun := 0, discarded := l.discarded || decide (0 < lost), authRun := 0, kept := none }
    let s := s.updFfPort p (fun x => { x with goodRun := 0 })
    let s := ((s.bumpBy (Reg.link p 0x20) lost).bump (Reg.link p 0x10)).setBit (Reg.link p 0) 14
    let s := s.raise { errAt 1 (Reg.link p 0) 14 p with detail := cause, recovers := true }
    if p = 2 then s.twinDown else s

/-- A frame of the bring-up alone: it is not one of those R261 counts. -/
def TxFrame.isTraining (f : TxFrame) : Bool := f.cls == TxClass.training || f.cls == TxClass.key

/-- The lanes of a port start: where their scramblers stand is free (R251). -/
def State.lanesStart (s : State) (p : Nat) : State :=
  ({ s with freeCtr := s.freeCtr + 1 } : State).updLink p (fun l =>
    { l with laneUp := s.tm.up, txPos := 0, ctlWait := [], bad0 := 0, bad1 := 0, scram0 := Config.scrambler s.freeCtr 0, scram1 := Config.scrambler s.freeCtr 1 })

/-- Full bring-up from DETECT (R263, R281): SPEED_POLICY and IDLE_SLEEP are those now committed. -/
def State.linkDetect (s : State) (p : Nat) : State :=
  let s := ((s.linkExit p 0).lanesStart p).updLink p (fun l =>
    { l with fast := false, rate := 0, trial := none, trialStep := 0, back := false, faultCause := 0, lastTrain := none, keys := none, oldKeys := none, newKeys := none,
             queues := l.queues.filter (fun f => !f.isTraining), current := none, clockLock := false,
             testUp := if l.mode = .detect then s.tm.up else l.testUp, policy := s.cfgv Fld.linkSpeedPolicy p 0, sleeps := s.cfgOn Fld.linkIdleSleep p })
  s.linkMode p .detect

/-- FAULT is entered from outside service (R268). -/
def State.faultEnter (s : State) (p cause : Nat) : State :=
  let s := s.updLink p (fun l => { l with faultCause := cause, fast := false, lastTrain := none })
  ((s.linkMode p .fault).setBit (Reg.link p 0) 13).raise { errAt 1 (Reg.link p 0) 13 p with detail := cause + 16, recovers := true }

/-- A port enters FAULT (R268). -/
def State.linkFault (s : State) (p cause : Nat) : State := s.oneCycle (fun s => (s.linkExit p 0).faultEnter p cause)

/-- A condition of Table 10-6 takes a port out of service (R269): a fast retrain, or FAULT when three fast retrains have ended in AUTH within 10 s (Table 10-7). -/
def State.linkLose (s : State) (p cause : Nat) : State :=
  if s.inService p = false then s
  else
    let l := s.linkOf p
    let times := if cause = 7 ∧ l.fastIn = true then (s.tm.up :: l.authTimes).take 3 else l.authTimes
    let full := decide (cause = 7) && l.fastIn && decide (times.length = 3) && times.all (fun t => decide (s.tm.up ≤ t + 10000000000))
    s.oneCycle (fun s =>
      let s := (s.linkExit p cause).updLink p (fun l =>
        { l with authTimes := if full then [] else times, fast := true, clockLock := l.clockLock && decide (2 < cause), laneUp := s.tm.up, txPos := 0 })
      if full then s.faultEnter p 5 else s.linkMode p .clockLock)

/-! ### Coming into service -/

/-- Number frames from an LSEQ on. -/
def renumber : BitVec 12 → List TxFrame → List TxFrame
  | _, [] => []
  | n, f :: fs => { f with lseq := n } :: renumber (n + 1) fs

/-- Sequence and queues at the return to service (R261, R267): a partner already known goes on from its NEXT_RX_LSEQ, a new one starts at 0; frames older than 100 ms are lost. -/
def State.linkResume (s : State) (p : Nat) (f : IdentFrame) : State :=
  let l := s.linkOf p
  let same := decide (l.known = some f.identity)
  let young := fun (x : TxFrame) => decide (s.tm.up ≤ x.queued + 100000000)
  let held := if same then l.replay.filter (fun x => lseqFrom f.nextRx x.lseq) else []
  let gone := if same then 0 else l.replay.length
  let kept := held.filter young
  let queue := l.queues.filter (fun x => !x.isTraining)
  let stay := queue.filter young
  let lost := gone + (held.length - kept.length) + (queue.length - stay.length)
  let base := if same then f.nextRx else 0
  let replay := renumber base kept
  let l := { l with known := some f.identity, replay := replay, resend := replay.map (fun x => x.lseq), ackUp := s.tm.up, queues := stay, txNext := base + BitVec.ofNat 12 replay.length,
                    rxNext := if same then l.rxNext else 0, lastAcked := base - 1, ackSent := if same then l.ackSent else 0xFFF, nakFor := none, discarded := l.discarded || decide (0 < lost) }
  (s.setLink p l).bumpBy (Reg.link p 0x20) lost

/-- A port enters ACTIVE (R250, R263, R267). -/
def State.linkActive (s : State) (p : Nat) : State :=
  match (s.linkOf p).partner with
  | none => s
  | some f =>
    let s := (s.updLink p (fun l => { l with fast := false, fastIn := l.fast, trained := some l.rate, lastTrain := none, trialStep := 0, trial := none, current := none, ephemeral := none, authRun := 0 })).linkResume p f
    let s := ((s.linkMode p .active).endHandling (Reg.link p 0) p).ffPortUp p
    let s := if p = 2 then { s with twin := { s.twin with twinDownUp := none } } else s
    let s := s.startNext p
    if p = 2 ∧ (s.linkOf 2).discarded = true then s.sendHealth else s

/-! ### Key exchange -/

/-- The n-th random draw from a point on, 32 B blocks joined. -/
def State.draw (s : State) (n : Nat) : List Byte := randomBytes s.sv.draws n
/-- The next draw is another one. -/
def State.drawn (s : State) : State := { s with sv := { s.sv with draws := s.sv.draws + 1 } }

/-- An ephemeral private key: drawn again by the curve's rule, taken as drawn here (Config.p384Public of any 48 B). -/
def State.ephemeralKey (s : State) : List Byte := s.draw 48

/-- Bytes 4 to 135 of KEY_INIT and KEY_RESP: public key, three reserved bytes, random bytes (Table 15-6). -/
def keyHalf (pub rnd : List Byte) : List Byte := pub ++ [0, 0, 0] ++ rnd

/-- Word 0 of a key frame. -/
def keyType (kind : Nat) : List Byte := [0, 0, 0, BitVec.ofNat 8 kind]

/-- The stored endorsement as r and s, or zeros (R395). -/
def State.endorsed (s : State) : List Byte := (s.sv.endorsement).getD (List.replicate 96 0)

/-- The message one side signs (R394). -/
def linkMessage (responder : Bool) (transcript : List Byte) : List Byte :=
  ascii (if responder then "ZHLINKRS" else "ZHLINKIN") ++ Config.sha384 transcript

/-- A partner is accepted (R395). -/
def State.peerGood (s : State) (responder : Bool) (transcript pub endorsement sig : List Byte) : Bool :=
  Config.ecdsaVerify pub (linkMessage responder transcript) sig
    && (if s.sv.owned then Config.ecdsaVerify s.sv.ownerKey (ctxMessage 8 (Config.sha384 pub)) endorsement
        else decide (endorsement = List.replicate 96 0))

/-- Session keys (R271) from the transcript: initiator's half first. -/
def linkKeys (priv peer transcript : List Byte) (initiator phase : Bool) : LinkKeys :=
  let salt := (transcript.drop 100).take 32 ++ (transcript.drop 232).take 32
  let k := Config.hkdfSha384 (Config.ecdh priv peer) salt (ascii "UTINA-LINK") 72
  let i2r := k.take 32
  let r2i := (k.drop 32).take 32
  let si := (k.drop 64).take 4
  let sr := k.drop 68
  if initiator then { txKey := i2r, rxKey := r2i, txSalt := si, rxSalt := sr, counter := 0, received := 0, phase := phase }
  else { txKey := r2i, rxKey := i2r, txSalt := sr, rxSalt := si, counter := 0, received := 0, phase := phase }

/-- Bytes a to a + n - 1 of a payload. -/
def slice (bs : List Byte) (a n : Nat) : List Byte := (bs.drop a).take n

/-- Send a key frame: in the training path outside service, in the management class in service (R257, R274). -/
def State.keySend (s : State) (p kind : Nat) (payload : List Byte) : State :=
  let b := TxBody.keyFrame kind payload
  if s.inService p then s.sendOn p .management b else (s.updLink p (fun l => { l with lastTrain := some b, trainUp := s.tm.up })).sendOn p .key b

/-- The initiator starts a key exchange (R270). -/
def State.keyStart (s : State) (p : Nat) : State :=
  let priv := s.ephemeralKey
  let s := s.drawn
  let half := keyHalf (Config.p384Public priv) (s.draw 32)
  let s := (s.drawn).updLink p (fun l => { l with ephemeral := some priv, transcript := half })
  s.keySend p 1 (keyType 0x11 ++ half ++ List.replicate 8 0)

/-- New keys are used from here on; those before them are held for frames still under the earlier phase (R274). -/
def State.keysTurn (s : State) (p : Nat) (k : LinkKeys) : State := s.updLink p (fun l => { l with keys := some k, oldKeys := l.keys, newKeys := none })

/-- Keys are derived (R271, R274). In service the responder uses them at once, the initiator once its KEY_CONFIRM, sealed under the current ones, has been acknowledged (assumption 57). Outside service the responder enters ACTIVE, the initiator once its KEY_CONFIRM has left. -/
def State.keysDone (s : State) (p : Nat) (k : LinkKeys) : State :=
  let s := s.updLink p (fun l => { l with ephemeral := none, lastTrain := none, keysAt := s.tm.up })
  if s.inService p then
    if s.initiator p then s.updLink p (fun l => { l with newKeys := some k }) else s.keysTurn p k
  else
    let s := s.updLink p (fun l => { l with keys := some k, oldKeys := none, newKeys := none })
    if s.initiator p then s else s.linkActive p

/-- Phase of the next keys. -/
def State.nextPhase (s : State) (p : Nat) : Bool :=
  match (s.linkOf p).keys with
  | some k => s.inService p && !k.phase
  | none => false

/-- A port is where key frames belong: SECURE, or in service with keys; a responder may still stand between trials. -/
def State.keyTime (s : State) (p : Nat) : Bool :=
  s.linkSecured p && (match (s.linkOf p).mode with
    | .secure => true
    | .rateTrial => decide ((s.linkOf p).trialStep = 0)
    | .active => (s.linkOf p).keys.isSome
    | _ => false)

/-- A key frame was received: in service it counts as a frame (R258). -/
def State.keyRx (s : State) (p : Nat) : State := if s.inService p then s.rxAccept p else s

/-- After the last rate (R263): SECURE, which is passed through when SECURITY is OFF. -/
def State.linkSecure (s : State) (p : Nat) : State :=
  if s.linkSecured p then
    let s := (s.updLink p (fun l => { l with trial := none, trialStep := 0, trained := some l.rate })).linkMode p .secure
    if s.initiator p then s.keyStart p else s
  else s.linkActive p

/-! ### Rate trials -/

/-- Between trials: the initiator proposes the next rate, or the search is over (R266). -/
def State.nextTrial (s : State) (p : Nat) : State :=
  if s.ratesDone p then s.linkSecure p
  else if s.initiator p then
    let r := (s.linkOf p).rate + 1
    (s.updLink p (fun l => { l with trial := some r, trialStep := 1, back := false, sentPass := none, gotPass := none, trialUp := s.tm.up })).trainSend p (.rate 0 r)
  else s.updLink p (fun l => { l with trial := none, trialStep := 0, back := false, sentPass := none, gotPass := none, trialUp := s.tm.up })

/-- Both sides go to another rate (R266 steps 2 and 3): the data lanes stand idle for 10 µs. -/
def State.toRate (s : State) (p rate : Nat) (back : Bool) : State :=
  s.updLink p (fun l => { l.catchUp s.tm.up with prevRate := if back then l.prevRate else l.rate, rate := rate, trialStep := 2, back := back, ownClean := true, lastTrain := none, laneUp := s.tm.up + 10000, txPos := 0 })

/-- The search ends after a failure: back to the previous rate. -/
def State.rateBack (s : State) (p : Nat) : State := (s.toRate p (s.linkOf p).prevRate true).updLink p (fun l => { l with trialUp := s.tm.up })

/-- A frame tells a result: PASS or FAIL (R266). -/
def TxFrame.isResult (f : TxFrame) : Bool :=
  match f.body with
  | .rate op _ => decide (2 ≤ op)
  | _ => false

/-- Both results of a trial are known, and the own one has left. -/
def State.trialResult (s : State) (p : Nat) : State :=
  let l := s.linkOf p
  if (l.queues ++ l.current.toList).any TxFrame.isResult then s
  else
    match l.sentPass, l.gotPass with
    | some true, some true =>
      let s := s.setLink p { l with bestRate := max l.bestRate l.rate, trial := none, trialStep := 0, lastTrain := none }
      s.nextTrial p
    | some _, some _ => s.rateBack p
    | _, _ => s

/-! ### Commands: state machine -/

/-- DETECT_DONE (R263). -/
def execDetectDone (p : Port) (s : State) : Out :=
  let n := pidx p
  .next (if (s.linkOf n).mode = .detect then s.linkMode n .clockLock else s)

/-- Peaking as FIXED sets it (R264). -/
def State.fixedPeaks (s : State) (p : Nat) : State :=
  s.updLink p (fun l => { l with peak0 := s.cfgv Fld.linkEqPeak p 0, peak1 := s.cfgv Fld.linkEqPeak p 1 })

/-- EQ_TUNE is entered; under FIXED it ends at once (R264). -/
def State.toEqTune (s : State) (p : Nat) : State :=
  if (s.linkOf p).mode = .rateTrial then
    if s.eqFixed p then (s.fixedPeaks p).updLink p (fun l => { l with trialStep := 4 }) else s.updLink p (fun l => { l with trialStep := 3 })
  else
    let s := s.linkMode p .eqTune
    if s.eqFixed p then (s.fixedPeaks p).linkMode p .blockLock else s

/-- A port stands at a step of bring-up, or at the same step of a rate trial. -/
def State.atStep (s : State) (p : Nat) (m : PortMode) (step : Nat) : Bool :=
  decide ((s.linkOf p).mode = m) || (decide ((s.linkOf p).mode = .rateTrial) && decide ((s.linkOf p).trialStep = step))

/-- CLOCK_LOCK_DONE (R250, R263). -/
def execClockLockDone (p : Port) (s : State) : Out :=
  let n := pidx p
  .next (if s.atStep n .clockLock 2 then (s.updLink n (fun l => { l with clockLock := true, lastTrain := none })).toEqTune n else s)

/-- Leave a step: the next state, or the next step of the trial. -/
def State.stepOn (s : State) (p : Nat) (m : PortMode) (step : Nat) : State :=
  if (s.linkOf p).mode = .rateTrial then s.updLink p (fun l => { l with trialStep := step }) else s.linkMode p m

/-- EQ_TUNE_DONE (R264): the margin sampler's eye height at each setting of each lane; the largest is kept. -/
def execEqTuneDone (p : Port) (eyes0 eyes1 : List Nat) (s : State) : Out :=
  let n := pidx p
  .next (if s.atStep n .eqTune 3 then (s.updLink n (fun l => { l with peak0 := bestEye 0 0 0 eyes0, peak1 := bestEye 0 0 0 eyes1 })).stepOn n .blockLock 4 else s)

/-- BLOCK_LOCK_DONE (R265): the bits each lane receives; the state ends when both lanes lock. Invalid headers are counted (Table 10-9). -/
def execBlockLockDone (bits : LockBits) (s : State) : Out :=
  let n := pidx bits.port
  let a := lockSearch bits.lane0.length 0 0 bits.lane0
  let b := lockSearch bits.lane1.length 0 0 bits.lane1
  if s.atStep n .blockLock 4 then
    let s := s.bumpBy (Reg.link n 0x28) (a.2 + b.2)
    .next (if a.1 && b.1 then s.stepOn n .deskew 5 else s)
  else .next s

/-- IDENT as this hub sends it (Table 10-4). -/
def State.identOf (s : State) (p : Nat) : IdentFrame :=
  { port := portOf p, maxRate := s.cfgv Fld.linkMaxRate p 0, secure := s.linkSecured p, nodeId := BitVec.ofNat 16 (s.cfgv Fld.mantisNodeId 0 0),
    unitB := s.boot.strapB, nextRx := (s.linkOf p).rxNext, identity := BitVec.ofNat 128 (ofLeBytes (fingerprintOf s.identityKey)) }

/-- DESKEW_DONE (R252, R263, R266): what the lanes show corrects swap and polarity when two ALIGN pairs agree; IDENTIFY follows, or the soak of a trial, or the end of the way back. -/
def execDeskewDone (p : Port) (lane0 lane1 : LaneReport) (aligns : AlignPairs) (s : State) : Out :=
  let n := pidx p
  if s.atStep n .deskew 5 = false ∨ deskewed lane0 lane1 aligns = false then .next s
  else
    let s := s.updLink n (fun l => { l with swapped := laneNumber lane0 == 1, inv0 := laneInverted lane0, inv1 := laneInverted lane1, skew := (aligns.first0 : Int) - aligns.first1 })
    if (s.linkOf n).mode = .rateTrial then
      if (s.linkOf n).back then .next (s.linkSecure n)
      else .next ((s.updLink n (fun l => { l with trialStep := 6, ownClean := true, soakUp := s.tm.up })).sendOn n .training .soak)
    else .next ((s.linkMode n .identify).trainSend n (.ident (s.identOf n)))

/-- The two PORT fields may face each other (R17). -/
def portsFit (a b : Port) : Bool :=
  match a, b with
  | .head, .tail => true
  | .tail, .head => true
  | .twin, .twin => true
  | _, _ => false

/-- IDENT (R262, R263, R267): rttNs is the round trip measured when it answers this hub's own IDENT, which ends IDENTIFY; none: the partner has not yet accepted that. -/
def execIdent (p : Port) (f : IdentFrame) (rttNs : Option Nat) (s : State) : Out :=
  let n := pidx p
  if (s.linkOf n).mode ≠ .identify then .next s
  else
    let s := s.updLink n (fun l => { l with partner := some f, rtt := rttNs.getD l.rtt })
    if portsFit p f.port = false then .next (s.linkFault n 1)
    else if n = 2 ∧ f.unitB = s.boot.strapB then .next (s.linkFault n 2)
    else if f.secure ≠ s.linkSecured n then .next (s.linkFault n 3)
    else if rttNs.isNone then .next s
    else if (s.linkOf n).fast then .next (s.linkActive n)
    else .next (((s.updLink n (fun l => { l with lastTrain := none })).linkMode n .rateTrial).nextTrial n)

/-- RATE PROPOSE (R266): the responder accepts and goes to the rate, from ACTIVE too when the initiator retrains for its load; it sends ACCEPT again while the initiator goes on asking (R263). -/
def execRatePropose (p : Port) (rate : Nat) (s : State) : Out :=
  let n := pidx p
  let l := s.linkOf n
  let between := decide (l.mode = .rateTrial ∧ l.trialStep = 0) || s.inService n
  if s.initiator n = false ∧ between = true ∧ rate = l.rate + 1 ∧ rate ≤ s.rateLimit n then
    let s := if s.inService n then ((s.linkExit n 0).updLink n (fun l => { l with fast := false })).linkMode n .rateTrial else s
    let s := s.updLink n (fun l => { l with trial := some rate, sentPass := none, gotPass := none, trialUp := s.tm.up })
    .next (((s.sendOn n .training (.rate 1 rate)).toRate n rate false).updLink n (fun l => { l with lastTrain := some (.rate 1 rate), trainUp := s.tm.up }))
  else if l.mode = .rateTrial ∧ l.trialStep = 2 ∧ s.initiator n = false ∧ l.back = false ∧ l.trial = some rate then .next (s.sendOn n .training (.rate 1 rate))
  else .next s

/-- RATE ACCEPT (R266). -/
def execRateAccept (p : Port) (rate : Nat) (s : State) : Out :=
  let n := pidx p
  let l := s.linkOf n
  if l.mode = .rateTrial ∧ l.trialStep = 1 ∧ l.trial = some rate then .next (s.toRate n rate false) else .next s

/-- TEST (R258, R266): a soak frame with a CRC error or an invalid header spoils the soak; both are counted. -/
def execTest (p : Port) (f : SoakFrame) (s : State) : Out :=
  let n := pidx p
  if (s.linkOf n).mode = .rateTrial ∧ (s.linkOf n).trialStep = 6 then
    let s := (s.bumpBy (Reg.link n 0x18) (if f.crcGood then 0 else 1)).bumpBy (Reg.link n 0x28) f.invalidHeaders
    .next (s.updLink n (fun l => { l with ownClean := l.ownClean && f.crcGood && decide (f.invalidHeaders = 0) }))
  else .next s

/-- SOAK_END (R266): 10 ms of soak end; PASS or FAIL is sent. -/
def execSoakEnd (p : Port) (s : State) : Out :=
  let n := pidx p
  let l := s.linkOf n
  if l.mode = .rateTrial ∧ l.trialStep = 6 then
    let s := s.reachUp (l.soakUp + 10000000)
    let s := s.setLink n { l with trialStep := 7, sentPass := some l.ownClean }
    .next ((s.trainSend n (.rate (if l.ownClean then 2 else 3) l.rate)).trialResult n)
  else .next s

/-- The partner's result of a trial. -/
def State.gotResult (s : State) (p : Nat) (pass : Bool) : State :=
  let l := s.linkOf p
  if l.mode = .rateTrial ∧ 6 ≤ l.trialStep then (s.setLink p { l with gotPass := some pass }).trialResult p else s

/-- RATE PASS (R266). -/
def execRatePass (p : Port) (s : State) : Out := .next (s.gotResult (pidx p) true)

/-- RATE FAIL (R266). -/
def execRateFail (p : Port) (s : State) : Out := .next (s.gotResult (pidx p) false)

/-- When the state of a port times out (Table 10-5): a rate trial counts from its proposal. -/
def LinkSt.limitUp (l : LinkSt) : Nat :=
  match l.mode with
  | .detect => l.testUp + 100000000
  | .clockLock => l.testUp + 500000
  | .eqTune | .deskew => l.testUp + 1000000
  | .blockLock | .identify => l.testUp + 2000000
  | .rateTrial => l.trialUp + 25000000
  | .secure => l.testUp + 50000000
  | .disabled | .sleep | .active | .fault | .test => 0

/-- LINK_STATE_TIMEOUT (R263, R269, Table 10-5). -/
def execLinkStateTimeout (p : Port) (s : State) : Out :=
  let n := pidx p
  let l := s.linkOf n
  let s := s.reachUp l.limitUp
  match l.mode with
  | .detect =>
    let s := s.setBit (Reg.link n 0) 11
    .next (if l.sleeps then s.linkMode n .sleep else s.linkDetect n)
  | .rateTrial => .next (if l.back then s.linkDetect n else if l.trialStep ≤ 1 then (s.updLink n (fun l => { l with prevRate := l.rate })).rateBack n else s.rateBack n)
  | .clockLock | .eqTune | .blockLock | .deskew | .identify | .secure => .next (s.linkDetect n)
  | .disabled | .sleep | .active | .fault | .test => .next s

/-- TRAINING_RESEND (R263). -/
def execTrainingResend (p : Port) (s : State) : Out :=
  let n := pidx p
  let l := s.linkOf n
  let s := if l.lastTrain.isSome then (s.reachUp (l.trainUp + 10000)).updLink n (fun l => { l with trainUp := max s.tm.up (l.trainUp + 10000) }) else s
  match l.lastTrain with
  | some b =>
    if l.mode = .identify ∨ l.mode = .rateTrial then .next (s.sendOn n .training b)
    else if l.mode = .secure then .next (s.sendOn n .key b)
    else .next s
  | none => .next s

/-- FAULT_RETRY (R268): causes 4 and 5 retry after 1 s. -/
def execFaultRetry (p : Port) (s : State) : Out :=
  let n := pidx p
  let l := s.linkOf n
  .next (if l.mode = .fault ∧ 4 ≤ l.faultCause then (s.reachUp (l.testUp + 1000000000)).linkDetect n else s)

/-- RETRAIN (R263): a write of RETRAIN to LINK_CTRL. -/
def execRetrain (p : Port) (s : State) : Out :=
  let n := pidx p
  let m := (s.linkOf n).mode
  .next (if m = .disabled ∨ m = .test then s else s.linkDetect n)

/-- LOS (R269). -/
def execLos (p : Port) (s : State) : Out := .next (s.linkLose (pidx p) 1)

/-- CLOCK_UNLOCK (R269). -/
def execClockUnlock (p : Port) (s : State) : Out := .next (s.linkLose (pidx p) 2)

/-- BLOCK_UNLOCK (R269): the headers of 64 consecutive blocks of one lane, 32 or more of them invalid. -/
def execBlockUnlock (w : HeaderWindow) (s : State) : Out :=
  let n := pidx w.port
  let bad := (w.headers.filter (fun h => !hdrOk h)).length
  .next (if s.inService n = true ∧ 32 ≤ bad then (s.bumpBy (Reg.link n 0x28) bad).linkLose n 3 else s)

/-- DESKEW_LOST (R269). -/
def execDeskewLost (p : Port) (s : State) : Out := .next (s.linkLose (pidx p) 4)

/-- HI_BER (R269): a 125 µs window ends. -/
def execHiBer (p : Port) (invalidHeaders : Nat) (s : State) : Out :=
  let n := pidx p
  if s.inService n = false then .next s
  else
    let s := s.bumpBy (Reg.link n 0x28) invalidHeaders
    let l := s.linkOf n
    if invalidHeaders < 16 then .next (s.setLink n { l with hiBer := false, hiBerRun := 0 })
    else
      let s := (s.setLink n { l with hiBer := true, hiBerRun := l.hiBerRun + 1 }).setBit (Reg.link n 0) 12
      let s := if l.hiBer then s else s.raise (errAt 0 (Reg.link n 0) 12 n)
      .next (if 7 ≤ l.hiBerRun then s.linkLose n 5 else s)

/-- LOAD_RETRAIN (R266): the transmit load of the last second is above 50 % of capacity; at most once in 60 s, upward from the rate in use. -/
def execLoadRetrain (p : Port) (s : State) : Out :=
  let n := pidx p
  let l := s.linkOf n
  let rested := match l.loadUp with
    | some u => decide (u + 60000000000 ≤ s.tm.up)
    | none => true
  if s.inService n = true ∧ l.policy = 1 ∧ 50 < s.linkLoad n ∧ rested = true ∧ l.rate < s.rateLimit n then
    let s := (s.linkExit n 0).updLink n (fun l => { l with loadUp := some s.tm.up, fast := false })
    .next ((s.linkMode n .rateTrial).nextTrial n)
  else .next s

/-- CHIRP_SEND (R277, R278): one chirp, then DETECT; no further one for 20 ms. -/
def execChirpSend (p : Port) (s : State) : Out :=
  let n := pidx p
  let l := s.linkOf n
  let rested := match l.chirpUp with
    | some u => decide (u + 20000000 ≤ s.tm.up)
    | none => true
  if (l.mode = .sleep ∨ l.mode = .detect) ∧ rested = true then .next ((s.setLink n { l with chirpUp := some s.tm.up }).linkDetect n)
  else .next s

/-! ### Commands: frames -/

/-- The injection that acts on a frame that is sent (Table 10-7): the first whose filter takes its type; TAG acts on sealed frames only. -/
def findLinkInj (typ : Nat) (sealed : Bool) (is : List LinkInj) : Option LinkInj :=
  is.find? (fun i => decide (i.action ≤ 4 ∧ (i.filter = 0 ∨ i.filter = typ)) && (i.action != 4 || sealed))

/-- One count of an injection is used up. -/
def useLinkInj (i : LinkInj) : List LinkInj → List LinkInj
  | [] => []
  | j :: js => if j = i then (if j.count ≤ 1 then js else { j with count := j.count - 1 } :: js) else j :: useLinkInj i js

/-- Flip a bit of the data blocks behind FRAME_START. -/
def flipBit (n : Nat) : List Block → List Block
  | [] => []
  | b :: bs => b :: bs.mapIdx (fun i x => if i = n / 64 then { x with data := x.data ^^^ BitVec.ofNat 64 (2 ^ (n % 64)) } else x)

/-- A sealed frame with one bit of its tag wrong and a CRC that fits (Table 10-7, TAG). -/
def wrongTag (f : TxFrame) (blocks : List Block) : List Block :=
  match blocks with
  | [] => []
  | b :: bs =>
    let body := ((flipBit (f.len * 8) (b :: bs)).drop 1).dropLast.flatMap blockBytes
    frameBlocks (headOf b) body

/-- A frame's blocks as the injector lets them leave (Table 10-7): none for DROP, payload bit BIT flipped for CORRUPT (counted around the payload's own length; assumption 59), a wrong tag for TAG. -/
def injBlocks (f : TxFrame) (i : Option LinkInj) (blocks : List Block) : List Block :=
  match i.map (fun i => (i.action, i.param)) with
  | some (1, _) => []
  | some (2, bit) => flipBit (bit % (8 * f.len)) blocks
  | some (4, _) => wrongTag f blocks
  | _ => blocks

/-- A frame in service leaves through the injector (R280): REORDER holds one back and sends it behind the next. -/
def State.sendBlocks (s : State) (p : Nat) (f : TxFrame) : State :=
  let l := s.linkOf p
  let i := findLinkInj f.body.typ f.cipher.isSome l.inject
  let swap := i.any (fun i => i.action == 3)
  let blocks := injBlocks f i (f.blocks f.cipher)
  if swap && l.kept.isNone then s.updLink p (fun l => { l with kept := some blocks })
  else
    let s := (s.updLink p (fun l => { l with kept := none, inject := i.elim l.inject (fun i => useLinkInj i l.inject) })).emit p (blocks ++ l.kept.getD [])
    s.doIf i.isSome (fun t => (t.bump (Reg.link p 0x2C)).bump 0x80004)

/-- The injector acts on a frame, or held the one before it back. -/
def State.injHits (s : State) (p : Nat) (f : TxFrame) : Bool :=
  (findLinkInj f.body.typ f.cipher.isSome (s.linkOf p).inject).isSome || (s.linkOf p).kept.isSome

/-- The stamp a sent frame asks for (R243, R256). -/
def State.stampSent (s : State) (p : Nat) (f : TxFrame) : State :=
  if f.tsReq then s.txtsPush p f.tsId f.stamp f.retry
  else
    match f.body with
    | .lineTrigger m true => s.txtsPush p (BitVec.setWidth 16 m.seq) f.stamp f.retry
    | _ => s

/-- FRAME_TX_END (R251 to R254, R257, R272): the frame has left, waits for its ACK unless one has covered it meanwhile, its stamp is kept, and the next frame starts. Outside service a soak goes on back to back, and the initiator's KEY_CONFIRM ends SECURE (R263, R270). -/
def execFrameTxEnd (p : Port) (s : State) : Out :=
  let n := pidx p
  let l := s.linkOf n
  match l.current with
  | none => .next s
  | some f =>
    if s.inService n then
      let f := { f with injected := f.injected || s.injHits n f }
      let replay := if lseqFrom f.lseq l.lastAcked then l.replay
        else if l.replay.any (fun x => x.lseq == f.lseq) then l.replay.map (fun x => if x.lseq == f.lseq then f else x) else l.replay ++ [f]
      let s := (s.setLink n { l with current := none, replay := replay, ackUp := if l.replay.isEmpty then s.tm.up else l.ackUp }).sendBlocks n f
      let s := (s.stampSent n f).startNext n
      .next (if n = 2 then s.feedData else s)
    else
      let s := (s.setLink n { l with current := none }).emit n (f.blocks none)
      let again := f.body == TxBody.soak && decide (l.mode = .rateTrial) && decide (l.trialStep = 6)
      let confirmed := f.body.typ == 0x13 && decide (l.mode = .secure) && l.keys.isSome
      .next (if again then s.sendOn n .training .soak else if confirmed then s.linkActive n
        else if f.isResult && decide (l.mode = .rateTrial) && decide (l.trialStep = 7) then (s.startNext n).trialResult n else s.startNext n)

/-- A frame is rejected with one NAK for each expected LSEQ, naming the cause (R258, Table 10-2). -/
def State.rxReject (s : State) (p cause : Nat) : State :=
  let l := s.linkOf p
  if l.nakFor = some l.rxNext then s else (s.setLink p { l with nakFor := some l.rxNext }).sendCtl p (nakBlock l.rxNext cause)

/-- The tag of a sealed frame verifies under the keys of its KEY_PHASE (R272, R274). -/
def LinkSt.opens (l : LinkSt) (h : FrameHead) (counter : Nat) (body : List Byte) : Bool :=
  ([l.keys, l.oldKeys, l.newKeys].filterMap id).any (fun k => k.phase == h.phase && (Config.aesGcmOpen k.rxKey (frameIv k.rxSalt counter) h.bytes body).isSome)

/-- Why a received frame is not accepted (R253, R254, R258, R272); none: it is. -/
def LinkSt.verdict (l : LinkSt) (f : RxFrame) : Option RejectCause :=
  match readFrame (rxClear l.inv0 l.inv1 l.skew l.swapped f) with
  | none => some .crc
  | some (h, body) =>
    let ahead := (h.lseq - l.rxNext).toNat
    if 2048 < ahead then some .duplicate
    else if ahead ≠ 0 then some .ahead
    else if h.enc != l.keys.isSome then some .tag
    else if h.enc && !l.opens h f.counter body then some .tag
    else none

/-- FRAME_REJECTED (R253, R254, R258, R272, Table 10-6): the hub judges the frame by its blocks. One that passes every check is no rejected frame: it is accepted by the command of its type. -/
def execFrameRejected (p : Port) (f : RxFrame) (s : State) : Out :=
  let n := pidx p
  if s.inService n = false then .next s
  else
    let why := (s.linkOf n).verdict f
    let s := s.doIf why.isSome (fun t => t.updLink n LinkSt.receives)
    match why with
    | some .crc => .next (((s.bump (Reg.link n 0x18)).updLink n (fun l => { l with authRun := 0 })).rxReject n 1)
    | some .ahead => .next ((s.updLink n (fun l => { l with authRun := 0 })).rxReject n 2)
    | some .tag =>
      let s := ((s.bump (Reg.link n 0x1C)).updLink n (fun l => { l with authRun := l.authRun + 1 })).rxReject n 3
      .next (if 4 ≤ (s.linkOf n).authRun then s.linkLose n 7 else s)
    | some .duplicate => .next (s.sendCtl n (ackBlock (s.linkOf n).ackSent))
    | none => .next s

/-- Entries an ACK covers free the completions that waited for them (R353). -/
def State.ackSync (s : State) (freed : List TxFrame) : State :=
  let es := freed.flatMap (fun f => match f.body with
    | .streamSync xs => xs
    | _ => [])
  if es.isEmpty then s
  else ({ s with twin := { s.twin with awaiting := s.twin.awaiting.filter (fun a => !es.contains a.entry) } } : State).postAll

/-- ACK (R258, R259, R353): it names an LSEQ that has left, at or behind the last one acknowledged; one sent again covers what it covered before. -/
def execAck (p : Port) (lseq : BitVec 12) (s : State) : Out :=
  let n := pidx p
  let l := s.linkOf n
  if s.inService n = false ∨ lseqFrom l.lastAcked lseq = false ∨ lseqFrom (lseq + 1) l.txNext = false then .next s
  else
    let covered := fun (x : BitVec 12) => lseqFrom x lseq
    let s := s.setLink n { l with ackUp := if lseq = l.lastAcked then l.ackUp else s.tm.up, lastAcked := lseq, replay := l.replay.filter (fun f => !covered f.lseq), resend := l.resend.filter (fun x => !covered x) }
    let s := if n = 2 then s.ackSync (l.replay.filter (fun f => covered f.lseq)) else s
    let confirmed := l.replay.any (fun f => covered f.lseq && f.body.typ == 0x13)
    let s := match l.newKeys with
      | some k => if confirmed then s.keysTurn n k else s
      | none => s
    .next (s.startNext n)

/-- Replay from an LSEQ on (R259, R260), the frame in transmission too once it has ended. A port that gives up over an injected fault says so (R280, R468). -/
def State.replayFrom (s : State) (p : Nat) (from_ : BitVec 12) : State :=
  let l := s.linkOf p
  let fs := l.replay.filter (fun f => lseqFrom from_ f.lseq)
  let now := (l.current.filter (fun f => lseqFrom from_ f.lseq && !l.replay.any (fun x => x.lseq == f.lseq))).toList
  if fs.any (fun f => decide (8 ≤ f.tries)) then s.underInj (fs.any (fun f => decide (8 ≤ f.tries) && f.injected)) (fun t => t.linkLose p 6)
  else (s.setLink p { l with resend := (fs ++ now).map (fun f => f.lseq), ackUp := s.tm.up }).startNext p

/-- NAK (R259). -/
def execNak (p : Port) (lseq : BitVec 12) (s : State) : Out :=
  let n := pidx p
  .next (if s.inService n then s.replayFrom n lseq else s)

/-- REPLAY_TIMEOUT (R259): no ACK has advanced for the round trip plus 20 µs. -/
def execReplayTimeout (p : Port) (s : State) : Out :=
  let n := pidx p
  let l := s.linkOf n
  match l.replay.head? with
  | some f => .next (if s.inService n then (s.reachUp (l.ackUp + l.rtt + 20000)).replayFrom n f.lseq else s)
  | none => .next s

/-- What the management engine sends upon a message is free: no MGMT frame, or one on some port, which may ask for a time stamp under a TS_ID of its own (R256; assumption 61). -/
def State.engineSend (s : State) : State :=
  let w := Config.freeWord s.freeCtr
  let s := { s with freeCtr := s.freeCtr + 1 }
  if s.engineUp && w.getLsbD 0 then s.queueFrame (field w 3 2 % 3) .management .mgmt (w.getLsbD 1) (BitVec.ofNat 16 (field w 31 16)) else s

/-- MGMT (R255): handed to the management engine. -/
def execMgmt (p : Port) (s : State) : Out :=
  let n := pidx p
  .next (if s.inService n then (((s.rxAccept n).doIf s.engineUp State.traceEngine).engineSend) else s)

/-- RESERVED_TYPE_FRAME (R255). -/
def execReservedTypeFrame (p : Port) (s : State) : Out :=
  let n := pidx p
  .next (if s.inService n then (s.rxAccept n).bump (Reg.link n 0x24) else s)

/-! ### Commands: keys -/

/-- KEY_INIT (R270, R394). -/
def execKeyInit (p : Port) (payload : List Byte) (s : State) : Out :=
  let n := pidx p
  if s.keyTime n = false ∨ s.initiator n = true then .next s
  else
    let s := s.keyRx n
    let s := if (s.linkOf n).mode = .rateTrial then s.linkMode n .secure else s
    let priv := s.ephemeralKey
    let s := s.drawn
    let half := keyHalf (Config.p384Public priv) (s.draw 32)
    let transcript := slice payload 4 132 ++ half
    let s := (s.drawn).updLink n (fun l => { l with ephemeral := some priv, transcript := transcript })
    let sig := Config.ecdsaSign (s.deviceKey 1) (linkMessage true transcript)
    .next ((s.bump 0x6800C).keySend n 2 (keyType 0x12 ++ half ++ s.identityKey ++ [0, 0, 0] ++ s.endorsed ++ sig ++ List.replicate 4 0))

/-- A partner that fails its checks (R270). -/
def State.peerRejected (s : State) (p : Nat) : State := (s.updLink p (fun l => { l with ephemeral := none })).linkFault p 4

/-- KEY_RESP (R270, R271, R394, R395). -/
def execKeyResp (p : Port) (payload : List Byte) (s : State) : Out :=
  let n := pidx p
  match (s.linkOf n).ephemeral with
  | none => .next s
  | some priv =>
    if s.keyTime n = false ∨ s.initiator n = false then .next s
    else
      let s := s.keyRx n
      let transcript := (s.linkOf n).transcript ++ slice payload 4 132
      if s.peerGood true transcript (slice payload 136 97) (slice payload 236 96) (slice payload 332 96) then
        let sig := Config.ecdsaSign (s.deviceKey 1) (linkMessage false transcript)
        let keys := linkKeys priv (slice payload 4 97) transcript true (s.nextPhase n)
        let s := (s.bump 0x6800C).keySend n 3 (keyType 0x13 ++ s.identityKey ++ [0, 0, 0] ++ s.endorsed ++ sig ++ List.replicate 8 0)
        .next (s.keysDone n keys)
      else .next (s.peerRejected n)

/-- KEY_CONFIRM (R270, R271, R394, R395). -/
def execKeyConfirm (p : Port) (payload : List Byte) (s : State) : Out :=
  let n := pidx p
  match (s.linkOf n).ephemeral with
  | none => .next s
  | some priv =>
    if s.keyTime n = false ∨ s.initiator n = true then .next s
    else
      let s := s.keyRx n
      let transcript := (s.linkOf n).transcript
      if s.peerGood false transcript (slice payload 4 97) (slice payload 104 96) (slice payload 200 96) then
        .next (s.keysDone n (linkKeys priv (transcript.take 97) transcript false (s.nextPhase n)))
      else .next (s.peerRejected n)

/-- KEY_RENEWAL (R274): a counter of either direction has reached 2^40, or 24 h have passed since the last derivation; the initiator starts the exchange in service. -/
def execKeyRenewal (p : Port) (s : State) : Out :=
  let n := pidx p
  let l := s.linkOf n
  if s.inService n = true ∧ l.keys.isSome = true ∧ s.initiator n = true then
    let worn := l.keys.any (fun k => decide (2 ^ 40 ≤ k.counter ∨ 2 ^ 40 ≤ k.received))
    .next ((if worn then s else s.reachUp (l.keysAt + 86400000000000)).keyStart n)
  else .next s

/-! ### Commits -/

/-- A port enters DISABLED (R261, R263): every frame it holds is lost. -/
def State.linkDisable (s : State) (p : Nat) : State :=
  let s := s.linkExit p 0
  let l := s.linkOf p
  let lost := (l.queues.filter (fun f => !f.isTraining)).length + l.replay.length
  let l' := { LinkSt.init with mode := l.mode, known := l.known, txNext := l.txNext, rxNext := l.rxNext, lastAcked := l.lastAcked, ackSent := l.ackSent, bestRate := l.bestRate, trained := l.trained, inject := l.inject, ctl := l.ctl, ctlSent := l.ctlSent, scram0 := l.scram0, scram1 := l.scram1, wire := l.wire, sent := l.sent, discarded := l.discarded || decide (0 < lost) }
  ((s.setLink p l').bumpBy (Reg.link p 0x20) lost).linkMode p .disabled

/-- The register with which a lane's test pattern begins is free; a pattern register is never 0 in the bits that feed it (R279). -/
def patternSeed (ctr lane : Nat) : BitVec 31 :=
  let r := BitVec.setWidth 31 (Config.scrambler ctr lane)
  if BitVec.setWidth 7 r = 0 then r + 1 else r

/-- The first n bits of the pattern that a data lane carries in TEST, unscrambled and without sync headers (R263, R279). -/
def LinkSt.testPattern (l : LinkSt) (lane n : Nat) : List Bool :=
  let seed := if lane = 0 then l.seed0 else l.seed1
  prbsBits l.test31 n ((List.range 31).map seed.getLsbD)

/-- A port starts as its fields say (R263, R279). -/
def State.linkStart (s : State) (p : Nat) : State :=
  if s.cfgOn Fld.linkEnable p = false then s.linkDisable p
  else if s.cfgv Fld.linkTest p 0 ≠ 0 then
    let s := ((s.linkExit p 0).testKeep p).freeNext
    (s.updLink p (fun l =>
      { l with rate := l.trained.getD 0, faultCause := 0, lastTrain := none, testUp := s.tm.up, test31 := s.cfgv Fld.linkTest p 0 == 2,
               seed0 := patternSeed s.freeCtr 0, seed1 := patternSeed s.freeCtr 1 })).linkMode p .test
  else s.linkDetect p

/-- A commit changed a port's fields (R268, R281): called with the new configuration live. -/
def State.linkCommit (s : State) (old : Look) (p : Nat) : State :=
  let changed := fun (f sub : Nat) => decide (old f p sub ≠ s.cfgv f p sub)
  let hard := changed Fld.linkEnable 0 || changed Fld.linkMaxRate 0 || changed Fld.linkEqMode 0 || changed Fld.linkEqPeak 0 || changed Fld.linkEqPeak 1
    || changed Fld.linkSecurity 0 || changed Fld.linkTest 0
  let soft := changed Fld.linkSpeedPolicy 0 || changed Fld.linkIdleSleep 0
  if hard || (soft && decide ((s.linkOf p).mode = .fault)) then s.linkStart p else s

end Sys2Proof.Machine
end

