-- ==== Sys2Proof/Machine/TwinCmd.lean ====
section
/-! DEFINITION. The twin pair's commands (chapter 13): seize (R82, R337, R492), pulses (R67, R73, R340, R355, R357), role resolution (R451), digests (R344, R345), HEALTH (R346, R347), stream cuts (R352, R353), mains (R350), swaps (R357, R358), resync (R359) and TWIN_CMD (R360). -/

namespace Sys2Proof.Machine

open Sys2Proof

/-! ### Seize -/

/-- The pin that carries a function, if one does. -/
def State.pinWith (s : State) (f : Nat) : Option Nat := (List.range 32).find? (fun k => decide (s.pinFunc k = f))

/-- The seize input goes high (R82, R337, R492): the force drivers go to Z whatever the pin's settling; the role follows the settled level. -/
def State.seizeHigh (s : State) (k : Nat) : State :=
  (s.setLevel k true).excSeize.vaultTaint.seizeTaken

/-- The settled seize input is low (R80, R82, R337): after UNIT_FATAL the outputs stay seized (R464). -/
def State.seizeLow (s : State) (k : Nat) : State :=
  let s := s.setLevel k false
  let s := if s.log.fatal then s else s.excUnseize
  if s.twin.role = .seized then s.enterUnfit [Reason.resync] else s

/-- SEIZE_ASSERT (R82, R337, R492). -/
def execSeizeAssert (s : State) : Out :=
  match s.seizePin with
  | none => .next s
  | some k => .next (s.seizeHigh k)

/-- SEIZE_RELEASE (R80, R82, R337). -/
def execSeizeRelease (s : State) : Out :=
  match s.seizePin with
  | none => .next s
  | some k => if s.pads.settled.getLsbD k then .next (s.seizeLow k) else .next s

/-! ### Pulses -/

/-- The midpoint watch of a standby (R340). -/
def State.stuckWatch (s : State) (m : Nat) (midUv : Int) : State :=
  let high := decide (s.cfgv Fld.excVexc m 0 * 100 < midUv.natAbs)
  let n := if high then (s.excOf m).stuckRun + 1 else 0
  let s := s.updExc m (fun e => { e with stuckRun := n })
  if 3 ≤ n then s.activeLost else s

/-- Strobe time of the frame a pulse belongs to, and its number: the grid's next edge, or the edge an accepted event has set. -/
def State.pulseEdge (s : State) (g : Nat) : Option (Nat × Tq) :=
  let x := s.grpOf g
  if Look.scheduled s.cfgv g then
    if x.mode = .running ∨ x.mode = .waitingStart then some (x.nextK, Look.edgeT s.cfgv g x.nextK) else none
  else
    match x.pendEdge with
    | some u => some (x.evNext, s.now + nsTq (u - s.tm.up))
    | none => none

/-- A frame that strobes behind the frame F an active has named, in event mode behind its strobe: its pulse is the new active's (R357). -/
def State.pulseBehindSwap (s : State) (edge : Tq) : Bool :=
  decide (s.twin.role = .active)
    && s.twin.swapFrame.any (fun f => decide ((if Look.scheduled s.cfgv s.swapGroup then Look.edgeT s.cfgv s.swapGroup f else s.twin.swapAt) < edge))

/-- A pulse that is not driven: in schedule mode it starts before the moment at which the group's start was applied (R67); of a new active, it starts less than 2 µs behind the takeover (R355), or less than 1,000 ns behind the old active's pulse of frame F; of the old active, it belongs to a frame behind F (R357). -/
def State.pulseWithheld (s : State) (m : Nat) (start : Tq) : Bool :=
  (Look.scheduled s.cfgv (s.cfgv Fld.excGroup m 0) && decide (start < (s.grpOf (s.cfgv Fld.excGroup m 0)).applied))
    || decide (start < s.twin.pulseFrom)
    || s.pulseBehindSwap (start + nsTq (s.cfgv Fld.excLead m 0))
    || (let e := if s.cfgv Fld.excGroup m 0 = 0 then s.twin.swapEdgeA else s.twin.swapEdgeB
        decide (e ≠ 0) && decide (start + nsTq (s.cfgv Fld.excLead m 0) < e + nsTq (s.cfgv Fld.excWidth m 0 + 1000)))

/-- PULSE_START (R67, R73, R74, R80, R340, R355, R357). -/
def execPulseStart (m : Fin 32) (midUv : Int) (s : State) : Out :=
  let e := s.excOf m
  if e.mode = .standbyZ then
    .next (if s.cfgOn Fld.twinStuckWatch 0 && s.cfgOn Fld.excEnable m then s.stuckWatch m midUv else s)
  else if e.mode ≠ .idle then .next s
  else
    match s.pulseEdge (s.cfgv Fld.excGroup m 0) with
    | none => .next s
    | some (k, t) =>
      let start := t - nsTq (s.cfgv Fld.excLead m 0)
      let s := (s.reach start).pllRunAgo 40000
      .next (if s.pulseWithheld m start then s else s.startPulse m k)

/-! ### Resolution and alive -/

/-- A unit that becomes ACTIVE by resolution seizes nothing (R451). -/
def State.resolveActive (s : State) : State :=
  let s := { s with twin := { s.twin with reasons := 0 } }
  ((s.setRole .active []).capArmAll).sendHealth

/-- ROLE_RESOLUTION (R451): rules 3 and 4 at the resolution time. -/
def execRoleResolution (edgeSeen : Bool) (s : State) : Out :=
  if s.twin.role ≠ .unresolved ∨ s.boot.stage ≠ 10 ∨ s.twinned = false then .next s
  else
    let s := s.reachUp (s.boot.readyAt + (if s.boot.strapB then 4000000000 else 2000000000))
    match s.twin.partner with
    | some _ => .next (if s.boot.strapB then s.enterUnfit [Reason.resync] else s.resolveActive)
    | none => .next (if edgeSeen then s.enterUnfit [Reason.resync] else s.resolveActive)

/-- TWIN_ALIVE_TOGGLE (R334): hardware of the strobe scheduler, at the next multiple of 2,500 ns of Firefly time (assumption 70); UNIT_FATAL and the injector stop it. -/
def execTwinAliveToggle (s : State) : Out :=
  if s.twin.role = .active ∧ s.log.fatal = false ∧ (s.injOf 11 2 0).isNone = true then
    let s := s.reach (nsTq ((s.nowNs / 2500 + 1) * 2500))
    .next { s with twin := { s.twin with aliveOut := !s.twin.aliveOut } }
  else .next s

/-- TWIN_ALIVE_EDGE (R354, R451 rule 1). -/
def execTwinAliveEdge (s : State) : Out :=
  if s.pinCarries (s.cfgv Fld.twinAliveInGpio 0 0) 11 = false then .next s
  else
    let again := match s.twin.aliveAt with
      | some u => decide (s.tm.up ≤ u + 10000)
      | none => false
    let s := { s with twin := { s.twin with aliveAt := some s.tm.up } }
    .next (if s.twin.role = .unresolved ∧ s.boot.stage = 10 ∧ again = true ∧ s.twinned = true then s.enterUnfit [Reason.resync] else s)

/-- ACTIVE_LOST (R354): no edge for 10,000 ns while the partner reported ACTIVE. -/
def execActiveLost (s : State) : Out :=
  if s.isStandby = true ∧ s.partnerRole .active = true then
    let s := match s.twin.aliveAt with
      | some u => s.reachUp (u + 10000)
      | none => s
    .next s.activeLost
  else .next s

/-! ### Digests -/

/-- SUM of a core word, signed. -/
def digestSum (w : W32) : Int := signedOf 24 (w.toNat % 16777216)

/-- One core of a pair of digests (R344): none when it is not compared, otherwise whether it mismatches. -/
def digestCore (tol : Nat) (a b : W32) : Option Bool :=
  if !(a.getLsbD 28 && b.getLsbD 28) then none
  else if a.getLsbD 31 || b.getLsbD 31 || a.getLsbD 29 || b.getLsbD 29 then none
  else some (decide (tol < (digestSum a - digestSum b).natAbs) || (a.getLsbD 30 != b.getLsbD 30))

/-- Runs of one core after a comparison (R345). -/
def State.digestRun (s : State) (n : Nat) (bad : Bool) : State :=
  let r := Cells.get (fun _ => (0, 0)) s.twin.runs n
  let r := if bad then (r.1 + 1, 0) else (0, r.2 + 1)
  let persist := s.cfgv Fld.twinDigestPersist 0 0
  let mask := BitVec.ofNat 64 (2 ^ n)
  let fail := if persist ≤ r.1 then s.twin.failCores ||| mask else if persist ≤ r.2 then s.twin.failCores &&& ~~~ mask else s.twin.failCores
  let s := s.doIf bad (fun t => t.bump 0x58010)
  { s with twin := { s.twin with runs := Cells.set (fun _ => (0, 0)) s.twin.runs n r, failCores := fail, digestPlaus := s.twin.digestPlaus &&& fail } }

/-- Compare a pair (R344, R345). -/
def State.digestPair (s : State) (a b : DigestFrame) : State :=
  let tol := s.cfgv Fld.twinDigestTol 0 0
  let s := s.each (List.range 64) (fun n t => match digestCore tol (wordAt a.cores n) (wordAt b.cores n) with
    | some bad => t.digestRun n bad
    | none => t)
  let run := s.twin.pairRun + 1
  let s := { s with twin := { s.twin with missingRun := 0, pairRun := run } }
  let r := s.twin.reasons &&& ~~~ reasonMask [Reason.link]
  let r := if s.cfgv Fld.twinDigestPersist 0 0 ≤ run then r &&& ~~~ reasonMask [Reason.frames] else r
  s.underInj s.sumRecent (fun t => t.setReasons (if t.twin.failCores = 0 then r &&& ~~~ reasonMask [Reason.digest] else r ||| reasonMask [Reason.digest]))

/-- Two digests belong together (R344): by frame number in schedule mode, by strobe time in event mode. -/
def State.digestMatch (s : State) (a b : DigestFrame) : Bool :=
  decide (a.group = b.group)
    && (if Look.scheduled s.cfgv (gidx a.group) then decide (a.frame = b.frame)
        else decide ((signedOf 32 (a.strobeNs - b.strobeNs).toNat).natAbs ≤ s.cfgv Fld.twinTimeTol 0 0))

/-- A frame of either unit has no partner in event mode (R345). -/
def State.digestAlone (s : State) : State := ({ s with twin := { s.twin with pairRun := 0 } } : State).addReason [Reason.frames]

/-- A digest of the standby may still find its frame (R344): in schedule mode one that is not ready yet, in event mode the one in hand, or one that may still strobe within TIME_TOL of it. -/
def State.digestWaits (s : State) (b : DigestFrame) : Bool :=
  let x := s.grpOf (gidx b.group)
  let tol := s.cfgv Fld.twinTimeTol 0 0
  if Look.scheduled s.cfgv (gidx b.group) then !x.strobed || decide (x.doneK < b.frame)
  else x.frame.any (fun f => decide ((signedOf 32 (BitVec.ofNat 32 (tqNs f.edge) - b.strobeNs).toNat).natAbs ≤ tol))
    || decide (signedOf 32 (BitVec.ofNat 32 s.nowNs - b.strobeNs).toNat ≤ (tol : Int))

/-- Digests of the standby that can find no frame any longer go; in event mode that is a frame without a partner (R345). -/
def State.digestSweep (s : State) : State :=
  let gone := s.twin.theirs.filter (fun b => !s.digestWaits b)
  let alone := gone.any (fun b => !Look.scheduled s.cfgv (gidx b.group))
  ({ s with twin := { s.twin with theirs := s.twin.theirs.filter s.digestWaits } } : State).doIf alone State.digestAlone

/-- A digest of the active's own frame: paired at once with the standby's when that came first. -/
def State.digestOwn (s : State) (f : DigestFrame) : State :=
  match s.twin.theirs.find? (s.digestMatch f) with
  | some b => (({ s with twin := { s.twin with theirs := s.twin.theirs.filter (fun x => x != b) } } : State).digestPair f b).digestSweep
  | none => ({ s with twin := { s.twin with own := s.twin.own ++ [(f, s.tm.up)] } } : State).digestSweep

/-- DIGEST (R344, R345): from the standby. -/
def execDigest (f : DigestFrame) (s : State) : Out :=
  if s.inService 2 = false then .next s
  else
    let s := s.rxAccept 2
    if s.twin.role ≠ .active then .next s
    else
      match s.twin.own.find? (fun a => s.digestMatch f a.1) with
      | some a => .next (({ s with twin := { s.twin with own := s.twin.own.filter (fun x => x != a) } } : State).digestPair a.1 f)
      | none => .next ({ s with twin := { s.twin with theirs := s.twin.theirs ++ [f] } } : State).digestSweep

/-- A digest is missing, the n-th in a row (R345): LINK that rises at the 64th has the standby resynchronise, and the active serves it again (R359). -/
def State.digestMissed (s : State) (g : Group) (n : Nat) : State :=
  let s := if 64 ≤ n ∧ s.twin.reasons.getLsbD Reason.link = false then ({ s with twin := { s.twin with resync := 0 } } : State).addReason [Reason.link] else s
  if Look.scheduled s.cfgv (gidx g) then s else s.digestAlone

/-- DIGEST_MISSING (R345): 1 ms behind a frame's ready time its digest is not there. -/
def execDigestMissing (g : Group) (frame : Nat) (s : State) : Out :=
  let mine := fun (x : DigestFrame × Nat) => decide (x.1.group = g ∧ x.1.frame = frame)
  match s.twin.own.find? mine with
  | none => .next s
  | some a =>
    if s.twin.role ≠ .active then .next s
    else
      let n := s.twin.missingRun + 1
      let s := (s.reachUp (a.2 + 1000000)).bump 0x58014
      .next (({ s with twin := { s.twin with own := s.twin.own.filter (fun x => !mine x), missingRun := n, pairRun := 0 } } : State).digestMissed g n)

/-! ### Swaps -/

/-- A swap is asked for (R357): the active names F, the first frame of group A, or of B when A is stopped, that starts at least 2 ms later; in event mode the first that strobes then. How the standby learns F is not stated: on it the wait before F is a free value (assumption 103). -/
def State.nameSwap (s : State) : State :=
  let g := s.swapGroup
  let at_ := s.now + nsTq (if s.twin.role = .active then 2000000 else s.freeW.toNat)
  let s := if s.twin.role = .active then s else s.freeNext
  let f := if Look.scheduled s.cfgv g ∧ (s.grpOf g).mode ≠ .stopped then some (max (s.grpOf g).nextK (Look.firstK s.cfgv g at_)) else none
  { s with twin := { s.twin with swapFrame := f, swapAt := at_, swapAsked := true } }

/-- A swap request of the partner (R357, R358): against an own one, A's proceeds, and HEALTH tells at once that B's no longer pends (R346). -/
def State.partnerAsks (s : State) : State :=
  let s := if s.twin.swapId.isSome ∧ s.boot.strapB = true then
      let d := s.twin.swapId.bind s.descOf
      let s := ({ s with twin := { s.twin with swapId := none } } : State)
      let s := (s.bump 0x58020).setBit Reg.twinStatus 12
      let s := match d with
        | some d => s.retireBad d 0x0610
        | none => s
      (s.raise (errAt 0 Reg.twinStatus 12 0xFFFF)).sendHealth
    else s
  if s.twin.swapAsked then s else s.nameSwap

/-- The old active hands over (R357): open packets close as by a flush, what was cut is its to deliver, pulses of frames up to F run to their ends, and it follows from here. -/
def State.handOver (s : State) : State :=
  let xs := (List.range 64).filter (fun x => s.cfgOn Fld.streamEnable x)
  let s := s.closeStreams xs
  let s := s.each xs (fun x t => t.updStrm x (fun st => { st with handover := if (st.queue ++ st.closing).isEmpty then none else some (st.seqNext - 1), marker := some st.seqNext, losses := st.losses }))
  let s := { s with twin := { s.twin with own := [], theirs := [], awaiting := [], syncQueue := [], reasons := 0, resync := 3, seizeOut := false } }
  let running := s.pulsingNow.map (fun m => (m, s.excOf m))
  let s := (s.setRole .standby []).each running (fun e t => t.setExc e.1 e.2)
  s.postAll

/-- The new active goes on from the next SEQ (R357): what the old active cut is the old active's, also where its report has still to come. -/
def State.takeOverBySwap (s : State) : State :=
  let s := s.followCuts
  let s := s.each ((List.range 64).filter (fun x => s.cfgOn Fld.streamEnable x)) (fun x t => t.updStrm x (fun st => { st with queue := [], closing := [] }))
  let tw := { s.twin with reasons := 0, runs := [], own := [], theirs := [], missingRun := 0, failCores := 0, digestPlaus := 0, swapEdgeA := (s.grpOf 0).lastEdge, swapEdgeB := (s.grpOf 1).lastEdge, pulseFrom := 0, awaiting := [] }
  let s := ({ s with twin := tw } : State).setRole .active s.excEnabled
  (s.adoptTrigSeq.adoptData true).capArmAll.vaultTake false

/-- The boundary behind F has come (R357). -/
def State.swapDue (s : State) : Bool :=
  let g := s.swapGroup
  let x := s.grpOf g
  decide (s.twin.role = .active ∨ s.twin.role = .standby) && s.twin.swapAsked && x.frame.isNone && (decide (x.mode = .stopped) || s.twin.swapFrame.any (fun f => x.strobed && decide (f ≤ x.doneK)))

/-- SWAP_EXECUTE (R357). -/
def execSwapExecute (s : State) : Out :=
  if s.swapDue = false ∨ s.inService 2 = false then .next s
  else
    let d := s.twin.swapId.bind s.descOf
    let s := if s.twin.role = .active then s.handOver else s.takeOverBySwap
    let s := ({ s with twin := { s.twin with swapId := none, swapFrame := none, swapAsked := false } } : State).bump 0x5801C
    let s := match d with
      | some d => s.retireOk d []
      | none => s
    .next s.sendHealth

/-! ### HEALTH -/

/-- HEALTH_SEND (R346): 1 ms after the last periodic one. -/
def execHealthSend (s : State) : Out :=
  let s := s.reachUp (s.twin.healthUp + 1000000)
  .next ({ s with twin := { s.twin with healthUp := s.tm.up } } : State).sendHealth

/-- Reasons a HEALTH frame sets and clears on a standby (Table 13-5); LINK stands until a resync has ended, which runs while TWIN is in service (R359). -/
def State.healthReasons (s : State) (f : HealthFrame) (before : Option HealthFrame) : State :=
  let mine := BitVec.ofNat 256 (ofLeBytes (Look.hash s.cfgv))
  let hashRun := if f.cfgHash = mine then 0 else s.twin.hashRun + 1
  let epochRun := if f.epoch = s.epoch then 0 else s.twin.epochRun + 1
  let s := { s with twin := { s.twin with hashRun := hashRun, epochRun := epochRun } }
  let fromActive := decide (f.role.toNat = Role.active.code)
  let rises := fun (b : Nat) => fromActive && f.reasons.getLsbD b && !(before.any (fun h => h.reasons.getLsbD b))
  let put := fun (r : BitVec 16) (b : Nat) (on off : Bool) => if on then r ||| reasonMask [b] else if off then r &&& ~~~ reasonMask [b] else r
  let r := s.twin.reasons
  let r := put r Reason.config (decide (2 ≤ hashRun) || s.twin.lateFlip) (decide (hashRun = 0))
  let r := put r Reason.firmware (decide (f.firmware ≠ s.reg 0x18)) true
  let r := put r Reason.epoch (decide (3 ≤ epochRun)) (decide (epochRun = 0))
  let r := if fromActive then put r Reason.digest (decide (f.failCores ≠ 0)) true else r
  let r := if fromActive then put r Reason.frames (f.reasons.getLsbD Reason.frames) true else r
  let linkLost := f.linkDiscard || rises Reason.link
  let s := if linkLost then { s with twin := { s.twin with resync := 0 } } else s
  let r := put r Reason.link linkLost false
  s.setReasons (put r Reason.resync (r.getLsbD Reason.link) false)

/-- The active gives a standby that resynchronises its whole configuration (R359): once TIME and EPOCH are clear on it, unless a commit is on its way, which gives it as much. -/
def State.serveResync (s : State) (f : HealthFrame) : State :=
  let wants := f.reasons.getLsbD Reason.resync || f.reasons.getLsbD Reason.link
  let ready := !(f.reasons.getLsbD Reason.time || f.reasons.getLsbD Reason.epoch)
  if wants = false then { s with twin := { s.twin with resync := 0 } }
  else if ready = true ∧ s.twin.resync = 0 ∧ s.cfg.waitReady.isNone = true then
    ({ s with twin := { s.twin with resync := 1 } } : State).sendData (Look.records s.cfgv ++ profileRecord s.cfg.profile)
  else s

/-- Rules 2 of R451 at any moment of an unresolved unit. -/
def State.resolveBy (s : State) (f : HealthFrame) : State :=
  if s.twin.role ≠ .unresolved ∨ s.boot.stage ≠ 10 ∨ s.twinned = false then s
  else if f.role.toNat = Role.active.code then s.enterUnfit [Reason.resync]
  else if f.role.toNat = Role.solo.code then s.enterUnfit [Reason.resync, Reason.config]
  else s

/-- Since when the partner has reported ACTIVE beside an ACTIVE unit (Table 13-2). -/
def State.dualSince (s : State) (f : HealthFrame) : Option Nat :=
  if s.twin.role = .active ∧ f.role.toNat = Role.active.code then s.twin.dualUp.orElse (fun _ => some s.tm.up) else none

/-- HEALTH (R346, R347, R354, R357). -/
def execHealth (f : HealthFrame) (s : State) : Out :=
  if s.inService 2 = false then .next s
  else
    let before := s.twin.partner
    let s := s.rxAccept 2
    let s := { s with twin := { s.twin with partner := some f, dualUp := s.dualSince f }, mantis := { s.mantis with partnerSeq := some f.trigSeq } }
    let s := (s.setReg 0x58030 f.firmware).setRegs 0x58040 (toWords 8 f.cfgHash.toNat)
    if s.twinned = false then .next s
    else
      let s := s.resolveBy f
      if s.isStandby then
        if decide (f.role.toNat = Role.active.code) && f.relinquish then .next s.activeLost
        else
          let s := s.underInj (s.sumRecent && decide (f.failCores ≠ 0)) (fun t => t.healthReasons f before)
          .next (if f.swapPending && !before.any (fun h => h.swapPending) then s.partnerAsks else s)
      else if s.twin.role = .active then
        let s := s.digestSweep.serveResync f
        .next (if f.swapPending && !before.any (fun h => h.swapPending) then s.partnerAsks else s)
      else .next s

/-- DUAL_ACTIVE (R337, Table 13-2): the partner's HEALTH has reported ACTIVE for 1 ms. -/
def execDualActive (s : State) : Out :=
  if s.twin.role = .active ∧ s.boot.strapB = true ∧ s.twin.dualUp.isSome = true then
    let s := s.reachUp (s.twin.dualUp.getD 0 + 1000000)
    let s := (s.setBit Reg.twinStatus 13).raise (errAt 2 Reg.twinStatus 13 0xFFFF)
    .next (({ s with twin := { s.twin with seizeOut := false, awaiting := [], own := [], theirs := [] } } : State).enterUnfit [Reason.resync])
  else .next s

/-! ### Streams and mains -/

/-- A buffer posted to a standby is held unfilled (R341). -/
def StreamBuf.unfill (b : StreamBuf) : StreamBuf := { b with used := 0, first := 0, count := 0, held := [] }

/-- A standby follows the active anew (R359): what it held before belongs to no cut it will see. -/
def State.followAnew (s : State) : State :=
  let s := s.each (s.strm.map (fun e => e.1)) (fun x t => t.updStrm x (fun st =>
    { st with openPkt := none, held := [], split := false, closing := [], queue := [], losses := [], overflow := false, resume := false, marker := none, retired := none,
              handover := none, bufs := st.bufs.map (fun b => if b.done then b else b.unfill) }))
  ({ s with twin := { s.twin with resync := 2, syncQueue := [] } } : State).resyncEnd

/-- Cuts are followed once the resync has its configuration, and while none runs. -/
def State.following (s : State) : Bool :=
  decide (2 ≤ s.twin.resync) || !(s.twin.reasons.getLsbD Reason.resync || s.twin.reasons.getLsbD Reason.link)

/-- STREAM_SYNC (R351, R352): a standby follows it, and a new active the cuts of its predecessor that come behind a swap (R357). -/
def execStreamSync (entries : List SyncEntry) (s : State) : Out :=
  if s.inService 2 = false then .next s
  else
    let s := s.rxAccept 2
    if s.isStandby = false ∧ s.twin.role ≠ .active then .next s
    else
      let es := if s.twin.role = .active then entries.filter (fun e => (s.strmOf e.index.val).awaitCut.isSome && decide (e.kind.val ≤ 1))
        else if s.following then entries else entries.filter (fun e => decide (e.kind.val = 3))
      .next (({ s with twin := { s.twin with syncQueue := s.twin.syncQueue ++ es } } : State).followCuts)

/-- ACK_WAIT_TIMEOUT (R353): ACK_WAIT_US after its report the oldest gated completion is posted without its ACK. -/
def execAckWaitTimeout (s : State) : Out :=
  match s.twin.awaiting with
  | [] => .next s
  | a :: rest =>
    let s := s.reachUp (a.up + s.cfgv Fld.twinAckWaitUs 0 0 * 1000)
    .next (({ s with twin := { s.twin with awaiting := rest } } : State).postAll)

/-- A running group is past its apply frame. -/
def State.mainsLate (s : State) (g f : Nat) : Bool :=
  decide ((s.grpOf g).mode = .running ∧ f ≠ noFrame) && decide (f < (if Look.scheduled s.cfgv g then (s.grpOf g).nextK else (s.grpOf g).evNext))

/-- MAINS_FRAME (R136, R350). DESIGN CHOICE (assumption 93): a standby, which does not use its own measurements, keeps STATE and its 10 s limit as Table 5-2 leaves them without any. -/
def execMainsFrame (f : MainsFrame) (s : State) : Out :=
  if s.inService 2 = false then .next s
  else
    let s := s.rxAccept 2
    if s.isStandby = false then .next s
    else
      let late := s.mainsLate 0 f.fA || s.mainsLate 1 f.fB
      let s := s.newTa f.ta (some (f.fA, f.fB))
      .next (s.putReason Reason.mains late)

/-! ### TWIN_CMD -/

/-- Run a TWIN_CMD of a code (R360): NO_TWIN while TWIN.ENABLE is 0. -/
def State.serveTwin (s : State) (id code : Nat) (f : Desc → State → State) : Out :=
  s.serve id 0x71 (fun d s =>
    if field (d.p 0) 15 0 ≠ code then s
    else if s.twinned = false then s.retireBad d 0x0602
    else f d s)

/-- A HEALTH payload as bytes (Table 13-4); zeros where none has been seen. -/
def healthBytes (h : Option HealthFrame) : List Byte :=
  match h with
  | none => List.replicate 80 0
  | some h =>
    wordBytes ([at_ 24 0x42 ||| at_ 20 h.role.toNat ||| BitVec.ofNat 32 h.reasons.toNat,
      at_ 16 h.epoch.toNat ||| bitAt 3 h.linkDiscard ||| bitAt 2 h.swapPending ||| bitAt 1 h.excStuckSelf ||| bitAt 0 h.relinquish, h.firmware, h.trigSeq]
      ++ toWords 8 h.cfgHash.toNat ++ two h.lastA.toNat ++ two h.lastB.toNat ++ two h.failCores.toNat ++ [0, 0])

/-- TWIN_CMD STATUS (R360): this unit's last HEALTH, then its partner's. -/
def execTwinCmdStatus (id : Nat) (s : State) : Out :=
  s.serveTwin id 0x0001 (fun d s =>
    let out := healthBytes s.twin.mine ++ healthBytes s.twin.partner
    (s.descWrite d (out.take (s.descRoom d))).retireOk d [BitVec.ofNat 32 out.length])

/-- TWIN_CMD SWAP (R357). -/
def execTwinCmdSwap (id : Nat) (s : State) : Out :=
  s.serveTwin id 0x0002 (fun d s =>
    let fit := match s.twin.role with
      | .active => s.partnerRole .standby
      | .standby => true
      | _ => false
    if s.inService 2 = false then s.retireBad d 0x0613
    else if fit = false then s.retireBad d 0x0611
    else
      let s := s.take id
      let s := { s with twin := { s.twin with swapId := some id } }
      let s := if s.twin.swapAsked = false then s.nameSwap else s
      s.sendHealth)

/-- TWIN_CMD TAKEOVER (R355, Table 13-2). -/
def execTwinCmdTakeover (id : Nat) (s : State) : Out :=
  s.serveTwin id 0x0003 (fun d s => if s.twin.role = .standby then s.takeover.retireOk d [] else s.retireBad d 0x0603)

/-- TWIN_CMD RELEASE_SEIZE (R355). -/
def execTwinCmdReleaseSeize (id : Nat) (s : State) : Out :=
  s.serveTwin id 0x0004 (fun d s =>
    if s.twin.role = .active then ({ s with twin := { s.twin with seizeOut := false } } : State).retireOk d [] else s.retireBad d 0x0601)

/-- Frames of closed packets behind a time, in order: gap records that end behind it stay, a data packet loses its earlier frames. -/
def Packet.after (p : Packet) (t : Nat) : Option Packet :=
  match p.gap with
  | some g => if g.tEnd ≤ t then none else some p
  | none =>
    let fs := p.frames.filter (fun f => decide (t < f.t))
    if fs.isEmpty then none
    else if fs.length = p.frames.length then some p
    else some { p with frames := fs, packed := none, signature := none, settled := decide (p.level = 0) }

/-- Packets numbered from a SEQ on; a packet whose number changes is signed anew. -/
def reseq : W32 → List Packet → List Packet
  | _, [] => []
  | n, p :: ps => (if p.seq = n then p else { p with seq := n, signature := none }) :: reseq (n + 1) ps

/-- One stream resumes behind what the host has (R356): where the first thing held is itself a gap record, the record of cause TAKEOVER ends where that one's loss begins. -/
def State.resumeStream (s : State) (x : Nat) (seq : W32) (t : Nat) : State :=
  let st := s.strmOf x
  let c : Look := s.cfgv
  let all := (st.queue ++ st.closing).filterMap (fun p => p.after t)
  let o := st.openPkt.bind (fun p =>
    let fs := p.frames.filter (fun f => decide (t < f.t))
    if fs.isEmpty then none else some { p with frames := fs })
  let first := (all.findSome? (fun p => p.frames.head?)).orElse (fun _ => o.bind (fun p => p.frames.head?))
  let next := match first with
    | some f => (f.k, f.t)
    | none => let n := s.nextFrame (c.strmGroup x); (n.1, tqNs n.2)
  let l : LossSt := { cause := 5, detail := 0, tStart := t, from_ := nsTq t + 65535, first := next.1, until_ := none, epoch := none, counted := none }
  let head := all.head?.bind (fun p => p.gap.map (c.lossOf x))
  let stop := (head.map (fun h => (h.first, tqNs h.from_))).getD next
  let g := s.gapOf x l stop.1 (nsTq stop.2)
  let gap := decide (g.lost ≠ 0) && (head.isSome || first.isSome)
  let recs := if gap then [s.gapPacket x 0 g] else []
  let all := if gap && head.isSome then all.modifyHead (fun p => { p with gap := p.gap.map (fun h => { h with tStart := stop.2 }), signature := none }) else all
  let q := reseq (seq + 1) (recs ++ all)
  let losses := if first.isNone && head.isNone && decide (g.lost ≠ 0) && st.losses.isEmpty then [l] else st.losses
  let s := s.setStrm x { st with queue := q, closing := [], openPkt := o, seqNext := seq + 1 + BitVec.ofNat 32 q.length, placed := (q.getLast?.bind Packet.tailOf), losses := losses }
  if gap then
    match q with
    | p :: _ => s.countGap x p g
    | [] => s
  else s

/-- Every enabled stream resumes from its entry, and delivery goes on (R356). -/
def State.resumeAll (s : State) (ws : List W32) : State :=
  let s := s.each (List.range 64) (fun x t =>
    if s.cfgOn Fld.streamEnable x && (wordAt ws (4 * x)).getLsbD 0 then t.resumeStream x (wordAt ws (4 * x + 1)) (word2 ws (4 * x + 2)) else t)
  let s := { s with twin := { s.twin with resumeWait := false } }
  let s := if s.delivers then s.endStreams else s
  s.each ((List.range 64).filter (fun x => s.cfgOn Fld.streamEnable x)) (fun x t => t.streamSettle x)

/-- TWIN_CMD RESUME (R356): 64 entries of 16 B. -/
def execTwinCmdResume (id : Nat) (s : State) : Out :=
  s.serveTwin id 0x0005 (fun d s =>
    if s.twin.role ≠ .active ∨ s.twin.resumeWait = false then s.retireBad d 0x0601
    else if s.descReadOk d 1024 = false then s.dmaFailed d
    else
      (s.resumeAll (wordsOf (s.descRead d 1024))).retireOk d [])

/-- TWIN_CMD RESYNC (R359); a resync that runs is the one asked for (assumption 101). -/
def execTwinCmdResync (id : Nat) (s : State) : Out :=
  s.serveTwin id 0x0006 (fun d s =>
    if s.isStandby then
      (if s.twin.reasons.getLsbD Reason.resync then s else ({ s with twin := { s.twin with resync := 0 } } : State).addReason [Reason.resync]).retireOk d []
    else s.retireBad d 0x0603)

end Sys2Proof.Machine
end

