-- ==== Sys2Proof/Machine/Vault.lean ====
section
/-! DEFINITION. The Scarab vault's commands (chapter 14): start and reset (R379), seal switch (R368), weight records (R376), alibi store (R373, R376), VAULT_SYNC (R378), watchdog (R465) and VAULT_CMD (R380). -/

namespace Sys2Proof.Machine

open Sys2Proof

/-! ### Start and reset -/

/-- Registers of the VAULT block that a VAULT reset loads (R382). -/
def State.vaultRegsReset (s : State) : State := (s.setReg 0x60010 0).setReg 0x60014 0

/-- The vault stops (R375, R379): open intervals give no record. -/
def State.vaultStop (s : State) : State := { s with vault := { s.vault with mode := .starting, intervals := [] } }

/-- The vault stops for a VAULT reset, which loads the reset values of its registers (R10, R382). -/
def State.vaultDown (s : State) : State :=
  let s := s.vaultStop.vaultRegsReset
  { s with vault := { s.vault with seqNext := 0 } }

/-- The owned channels run on other fields from here: their chains prime again and their outputs follow (R364, R379). -/
def State.ownedReload (s : State) : State :=
  (s.each ((List.range 32).map (fun k => 480 + k)) (fun i t => t.chainReset i)).excRole []

/-- VSEQ after the newest record of the alibi store (R379). -/
def State.seqFromStore (s : State) : W32 := (s.vault.records.getLast?.map (fun r => r.1 + 1)).getD 0

/-- The vault starts (R379, R401): image, sealed set, VSEQ, audit entry, which names the digest of a new image (R373), RUNNING; otherwise FAULT with the owned fields at their defaults. -/
def State.vaultStart (s : State) (imageOk : Bool) (kind : Nat) : State :=
  if s.otp.vaultFuse = false then s
  else if s.vaultVerifies imageOk && s.vault.sealedGood then
    let n := s.seqFromStore
    let before := s.cfg.live
    let live := withOwned s.otp.vaultFuse before s.vault.sealed
    let s : State := { s with cfg := { s.cfg with live := live }, vault := { s.vault with mode := .running, seqNext := n, challenge := s.sv.draws }, sv := { s.sv with draws := s.sv.draws + 1 } }
    let s := if live ≠ before then s.ownedReload else s.excRole []
    s.audit kind (if kind = 2 then some ((wordsOf s.vault.imageDigest).take 2) else none)
  else
    let live := withOwned s.otp.vaultFuse s.cfg.live []
    let s : State := { s with cfg := { s.cfg with live := live }, vault := { s.vault with mode := .fault } }
    s.ownedReload.raiseBare 2 false 0xFFFF

/-- VAULT_RESET (R379): the restart that a command or the watchdog began. -/
def execVaultReset (imageOk : Bool) (s : State) : Out :=
  if s.otp.vaultFuse = true ∧ s.vault.mode = .starting ∧ 9 ≤ s.boot.stage then .next (s.vaultStart imageOk 5) else .next s

/-- An open transaction that holds a vault-owned record is rolled back by a VAULT reset (Table 12-4). -/
def State.vaultRollback (s : State) : State :=
  if s.cfg.txn.any (fun t => t.vaultOwned) then { s with cfg := { s.cfg with txn := none } } else s

/-- A VAULT reset begins (R379). -/
def State.vaultRestart (s : State) : State := s.vaultDown.vaultRollback

/-- VAULT_WATCHDOG (R465): in every state in which the vault processor runs. -/
def execVaultWatchdog (s : State) : Out :=
  if s.otp.vaultFuse = true ∧ s.vault.mode ≠ .off then .next (s.vaultRestart.raise (errCode 1 0x0005 0)) else .next s

/-! ### Seal -/

/-- GPIO[31] has settled at a level (R368, R487). -/
def State.settlePin (s : State) (k : Nat) (high : Bool) : State :=
  { (s.setLevel k high) with pads := { (s.setLevel k high).pads with settled := s.pads.settled ||| BitVec.ofNat 33 (2 ^ k) } }

/-- SEAL_SWITCH_CHANGE (R368, R373). -/
def execSealSwitchChange (high : Bool) (s : State) : Out :=
  if s.otp.vaultFuse then .next ((s.settlePin 31 high).sealTurn s.sealOpen) else .next s

/-! ### Weight records -/

/-- Words 0 to 14 of a weight record (Table 14-4). -/
def WeighSt.words (r : WeighSt) (seq version : W32) (takeover : Bool) : List W32 :=
  [168, BitVec.ofNat 32 (0x5A560000 + r.platform * 256 + 0x30), seq] ++ two r.tEntry ++ two r.tExit
  ++ [BitVec.ofNat 32 (r.epoch.toNat * 65536 + (r.status.toNat ||| (if takeover then 256 else 0)))]
  ++ toWords 2 (BitVec.ofInt 64 r.mass).toNat
  ++ [BitVec.ofInt 32 r.wd, BitVec.ofNat 32 (min r.k 65535 * 65536 + min r.markedN 65535), r.event, version, 0]

/-- The record with its CRC word and signature block (R376, R386). -/
def State.weightRecord (s : State) (r : WeighSt) : List W32 :=
  let ws := r.words s.vault.seqNext s.vault.imageVersion (s.vault.tTake.any (fun t => decide (r.tEntry ≤ t)))
  let all := ws ++ [crcWords (ws.drop 1)]
  all ++ wordsOf (s.signBlock 3 4 (Config.sha384 (wordBytes all)))

/-- WEIGHT_RECORD_ISSUE (R376, R378, R388): the oldest result becomes a record; Svetron refuses the VAULT key while keys are withheld (R399). STORE_FULL that arises with it stands against open intervals (R375). -/
def execWeightRecordIssue (s : State) : Out :=
  match s.vault.ready with
  | [] => .next s
  | r :: rest =>
    if s.vault.mode ≠ .running ∨ s.issues = false ∨ s.sv.withheld = true then .next s
    else
      let ws := s.weightRecord r
      let n := s.vault.seqNext
      let s : State := { s with vault := { s.vault with ready := rest, records := s.vault.records ++ [(n, ws)], toStore := s.vault.toStore ++ [ws], seqNext := n + 1, lastSync := some r.tExit } }
      .next ((s.vaultTaint.bump 0x6800C).sendOn 2 .twin (.vaultSync n r.tExit))

/-- Released records leave the alibi store when space is needed (R377): it holds 65,536. -/
def trimRecords (acked : Option W32) (rs : List (W32 × List W32)) : List (W32 × List W32) :=
  match rs, acked with
  | r :: rest, some v => if 65536 < rs.length ∧ r.1.toNat ≤ v.toNat then rest else rs
  | rs, _ => rs

/-- VAULT_SYNC (R378): the standby's vault discards what the active has reported, and follows its VSEQ. -/
def execVaultSync (vseq : W32) (tExit : Nat) (s : State) : Out :=
  if s.inService 2 = false then .next s
  else
    let s := s.rxAccept 2
    if s.otp.vaultFuse = false ∨ s.isStandby = false then .next s
    else
      let keep := fun (r : WeighSt) => decide (tExit < r.tExit)
      let v := s.vault
      .next { s with vault := { v with heldRes := v.heldRes.filter keep, ready := v.ready.filter keep, lastSync := some (max tExit (v.lastSync.getD 0)), seqNext := vseq + 1 } }

/-! ### VAULT_CMD -/

/-- VAULT_STATUS (Table 14-8); a vault that starts shows its reset value (assumption 102). -/
def State.vaultStatusWord (s : State) : W32 :=
  let st := match s.vault.mode with
    | .off => 0
    | .starting => 1
    | .running => 2
    | .fault => 3
  if s.otp.vaultFuse = true ∧ s.vault.mode = .starting then 1
  else if s.otp.vaultFuse then
    at_ 16 s.inhibitBits ||| at_ 4 (maskOf ([0, 1, 2, 3].filter (fun p => (s.intervalOf p).isSome))) ||| bitAt 3 s.authTxn ||| bitAt 2 s.sealFlag ||| BitVec.ofNat 32 st
  else 0

/-- Run a VAULT_CMD of a code (R380): all but STATUS need a vault that runs. -/
def State.serveVault (s : State) (id code : Nat) (f : Desc → State → State) : Out :=
  s.serve id 0x70 (fun d s =>
    if field (d.p 0) 15 0 ≠ code then s
    else if code ≠ 1 ∧ s.vault.mode ≠ .running then s.retireBad d 0x0542
    else f d s)

/-- Answer with a response (R295: RES0 is its length). -/
def State.respond (s : State) (d : Desc) (bs : List Byte) : State := (s.descWrite d (bs.take (s.descRoom d))).retireOk d [BitVec.ofNat 32 bs.length]

/-- VAULT_CMD STATUS (R373, R380). -/
def execVaultCmdStatus (id : Nat) (s : State) : Out :=
  s.serveVault id 0x0001 (fun d s =>
    s.respond d (wordBytes [s.vaultStatusWord, s.sv.eventCount, s.vault.seqNext] ++ s.sealHash ++ wordBytes [s.vault.imageVersion, s.vault.imageCrc]
      ++ randomBytes s.vault.challenge 32 ++ s.chainValue))

/-- VAULT_CMD READ_RECORDS (R377): as many as fit. -/
def execVaultCmdReadRecords (id : Nat) (s : State) : Out :=
  s.serveVault id 0x0002 (fun d s => s.respond d ((s.unacked.take (s.descRoom d / 168)).flatMap (fun r => wordBytes r.2)))

/-- VAULT_CMD ACK (R377): releases every record up to v, and none issued later. -/
def execVaultCmdAck (id : Nat) (s : State) : Out :=
  s.serveVault id 0x0003 (fun d s =>
    if s.descReadOk d 4 = false then s.dmaFailed d
    else
      let v := ofLeBytes (s.descRead d 4)
      let rs := s.vault.records.filter (fun r => decide (r.1.toNat ≤ v))
      let a := match rs.getLast?, s.vault.acked with
        | some r, some x => some (if x.toNat ≤ r.1.toNat then r.1 else x)
        | some r, none => some r.1
        | none, x => x
      ({ s with vault := { s.vault with acked := a } } : State).retireOk d [0])

/-- VAULT_CMD READ_AUDIT (R380). -/
def execVaultCmdReadAudit (id : Nat) (s : State) : Out :=
  s.serveVault id 0x0004 (fun d s =>
    if s.descReadOk d 8 = false then s.dmaFailed d
    else
      let first := ofLeBytes ((s.descRead d 8).take 4)
      let n := ofLeBytes ((s.descRead d 8).drop 4)
      if n = 0 ∨ 4096 < n then s.retireBad d 0x0002
      else s.respond d (((s.vault.audit.filter (fun e => decide (first ≤ (wordAt e 0).toNat))).take (min n (s.descRoom d / 32))).flatMap wordBytes))

/-- The AUTH buffer names the open transaction, this hub and the challenge, under the metrology key (R370). -/
def State.authGood (s : State) (bs : List Byte) : Bool :=
  match s.cfg.txn, s.sv.metrology with
  | some t, some key =>
    decide (bs.length = 148) && decide (bs.take 52 = leBytes 4 t.id.toNat ++ fingerprintOf s.identityKey ++ randomBytes s.vault.challenge 32)
      && Config.ecdsaVerify key (bs.take 52) (bs.drop 52)
  | _, _ => false

/-- VAULT_CMD AUTH (R370). -/
def execVaultCmdAuth (id : Nat) (s : State) : Out :=
  s.serveVault id 0x0010 (fun d s =>
    if s.descReadOk d (min d.len 148) = false then s.dmaFailed d
    else if s.authGood (s.descRead d (min d.len 148)) then
      let s : State := { s with cfg := { s.cfg with txn := s.cfg.txn.map (fun t => { t with authorised := true }) }, vault := { s.vault with challenge := s.sv.draws }, sv := { s.sv with draws := s.sv.draws + 1 } }
      s.respond d (leBytes 8 s.nowNs)
    else s.retireBad d 0x0541)

/-- VAULT_CMD RESET (R379, R380). -/
def execVaultCmdReset (id : Nat) (s : State) : Out :=
  s.serveVault id 0x0020 (fun d s =>
    if s.sealOpen || s.authTxn then (s.retireOk d [0]).vaultRestart else s.retireBad d 0x0540)

end Sys2Proof.Machine
end

