-- ==== Sys2Proof/Machine/Svetron.lean ====
section
/-! DEFINITION. Svetron's requests (R390 to R392, R398, R399), SIGN_REQ (R385) and ATTEST (R393). -/

namespace Sys2Proof.Machine

open Sys2Proof

/-! ### Requests -/

/-- Handle the oldest request when it came by a path and has a code: the body's effect answers a status, and changes nothing unless it is OK. -/
def State.request (s : State) (path : Path) (code : Nat) (f : List Byte → State → State × Nat) : Out :=
  if s.sv.goWaits.isSome then .next s else
  match s.sv.requests with
  | (p, bs) :: _ =>
    if p = path ∧ reqCode bs = code then
      let st := s.reqCheck bs
      if st ≠ 0 then .next (svSweep 64 (s.reqEnd st))
      else
        let r := f ((bs.drop 56).take ((reqBody code).getD 0)) s
        .next (svSweep 64 ((if r.2 = 0 then r.1 else s).reqEnd r.2))
    else .next s
  | [] => .next s

/-! ### Owner material -/

/-- Unwrap a side-band key (R392). -/
def State.unwrap (s : State) (bs : List Byte) : Option (List Byte) :=
  let k := Config.hkdfSha384 (Config.ecdh (s.deviceKey 1) (bs.take 97)) s.svChallenge (ascii "ZH-SBKEY") 44
  Config.aesGcmOpen (k.take 32) (k.drop 32) [] ((bs.drop 97).take 48)

/-- A new side-band key starts a new session (R396). -/
def State.newSbKey (s : State) (key : List Byte) : State :=
  { s with sv := { s.sv with sbKey := key, session := s.sv.draws, draws := s.sv.draws + 1, sbCounter := 0 } }

/-- The metrology key of a body; 97 zero bytes stand for none. -/
def metrologyOf (bs : List Byte) : Option (List Byte) := if bs.all (fun b => b == 0) then none else some bs

/-- The metrology key is set; on the vault part a change counts as an event of kind 7 (R391). -/
def State.setMetrology (s : State) (k : Option (List Byte)) (always : Bool) : State :=
  let ev := s.otp.vaultFuse && (always || decide (k ≠ s.sv.metrology))
  ({ s with sv := { s.sv with metrology := k } } : State).doIf ev (fun t => t.auditEvent 7 none)

/-- An owner takes the part (CLAIM, TRANSFER). -/
def State.newOwner (s : State) (body : List Byte) : State × Nat :=
  match s.unwrap (body.drop 198) with
  | none => (s, 0x0505)
  | some key =>
    let s : State := { s with sv := { s.sv with owned := true, ownerKey := body.take 97, policy := BitVec.ofNat 32 (ofLeBytes ((body.drop 194).take 4) % 4), ownerGen := s.sv.ownerGen.satAdd 1 } }
    ((s.newSbKey key).setMetrology (metrologyOf ((body.drop 97).take 97)) false, 0)

/-- The injector locks (R398). -/
def State.injectLock (s : State) : State := { s with sv := { s.sv with injectOpen := false } }

/-- CLAIM (R391). -/
def execClaim (path : Path) (s : State) : Out := s.request path 0x0001 (fun b s => s.newOwner b)

/-- TRANSFER (R391, R400): the endorsement is erased and the injector locks. -/
def execTransfer (path : Path) (s : State) : Out :=
  s.request path 0x0002 (fun b s =>
    let r := s.newOwner b
    (({ r.1 with sv := { r.1.sv with endorsement := none } } : State).injectLock, r.2))

/-- RELEASE (R391, R400). -/
def execRelease (path : Path) (s : State) : Out :=
  s.request path 0x0003 (fun _ s =>
    (({ s with sv := { s.sv with owned := false, ownerKey := [], metrology := none, endorsement := none, policy := 0, sbKey := [], ownerGen := s.sv.ownerGen.satAdd 1 } } : State).injectLock, 0))

/-- SET_SB_KEY (R392). -/
def execSetSbKey (path : Path) (s : State) : Out :=
  s.request path 0x0004 (fun b s => match s.unwrap b with
    | some key => (s.newSbKey key, 0)
    | none => (s, 0x0505))

/-- SET_METROLOGY_KEY (R391): refused unless the seal is open. -/
def execSetMetrologyKey (path : Path) (s : State) : Out :=
  s.request path 0x0005 (fun b s => if s.sealOpen then (s.setMetrology (some b) true, 0) else (s, 0x0540))

/-- ENDORSE (R391): r and s in context 8 under the owner key. -/
def execEndorse (path : Path) (s : State) : Out :=
  s.request path 0x0006 (fun b s =>
    if Config.ecdsaVerify s.sv.ownerKey (ctxMessage 8 (Config.sha384 s.identityKey)) b then ({ s with sv := { s.sv with endorsement := some b } }, 0)
    else (s, 0x0504))

/-- SET_POLICY (R391). -/
def execSetPolicy (path : Path) (s : State) : Out :=
  s.request path 0x0007 (fun b s => ({ s with sv := { s.sv with policy := BitVec.ofNat 32 (ofLeBytes b % 4) } }, 0))

/-- UNLOCK_INJECT (R398). -/
def execUnlockInject (path : Path) (s : State) : Out :=
  s.request path 0x0010 (fun _ s => ({ s with sv := { s.sv with injectOpen := true } }, 0))

/-- LOCK_INJECT (R398). -/
def execLockInject (path : Path) (s : State) : Out := s.request path 0x0011 (fun _ s => (s.injectLock, 0))

/-- A configuration has a stream sign or enables a platform (R399). -/
def Look.signs (c : Look) (fuse : Bool) : Bool :=
  (List.range 64).any (fun x => c Fld.streamEnable x 0 == 1 && c Fld.streamSign x 0 == 1) || (fuse && (List.range 4).any (fun p => c Fld.vaultPlatformEnable p 0 == 1))

/-- A stream signs or a platform is enabled (R399): in the live configuration or in a commit that has passed validation, or packets of a stream still wait for their signatures. -/
def State.signing (s : State) : Bool :=
  Look.signs s.cfgv s.otp.vaultFuse
    || (s.cfg.flip.toList ++ s.cfg.waitReady.toList).any (fun f => Look.signs (Bank.get s.otp.vaultFuse f.staged) s.otp.vaultFuse)
    || !s.signWait.isEmpty || s.strm.any (fun e => e.2.openPkt.any (fun p => p.sign) || e.2.held.any (fun p => p.sign))

/-- UNLOCK_DEBUG (R399). -/
def execUnlockDebug (path : Path) (s : State) : Out :=
  s.request path 0x0012 (fun _ s =>
    if s.signing then (s, 0x0507) else ({ s with sv := { s.sv with debugOpen := true, withheld := true } }, 0))

/-- BACKOFF_END (R391): 60 s after the eighth bad signature. -/
def execBackoffEnd (s : State) : Out :=
  match s.sv.backoff with
  | some u => let s := s.reachUp (u + 60000000000); .next { s with sv := { s.sv with backoff := none } }
  | none => .next s

/-! ### SIGN_REQ and ATTEST -/

/-- SIGN_REQ and ATTEST come last (R388): weight records, packets, captures and statistics that wait for signatures go first. -/
def State.lastWaits (s : State) : Bool :=
  s.packetsWait || s.mantis.jobs.any (fun j => (s.descOf j.id).any (fun d => d.flag 3) && s.capOver j && s.canDma)
    || (!s.sv.withheld && s.host.inflight.any (fun d => decide (d.op = 0x23) && d.flag 3 && decide (d.bad = 0) && s.turnOf d && s.busUp))

/-- SIGN_REQ (R385, R386, R388, R399): the digest of P0 to P11 in context 5. -/
def execSignReq (id : Nat) (s : State) : Out :=
  s.serve id 0x60 (fun d s =>
    if s.sv.withheld then s.retireBad d 0x0506
    else if s.lastWaits then s
    else
      let b := s.signBlock 2 5 (wordBytes ((d.words.drop 4).take 12))
      ((s.descWrite d b).bump 0x6800C).retireOk d [])

/-- FF_STATUS.STATE (Table 9-3). -/
def FfMode.code : FfMode → Nat
  | .free => 0
  | .acquiring => 1
  | .locked => 2
  | .holdover => 3

/-- Bytes padded with 0 to a length. -/
def padTo (n : Nat) (bs : List Byte) : List Byte := (bs ++ List.replicate (n - bs.length) 0).take n

/-- Report bytes 0 to 503 (Table 15-5). -/
def State.report504 (s : State) (nonce : List W32) : List Byte :=
  let h := s.imageHeader s.flash.runningB
  let v := s.otp.vaultFuse
  let flags := bitAt 0 s.sv.owned ||| bitAt 2 s.sv.endorsement.isSome ||| bitAt 3 s.sv.injectOpen ||| bitAt 4 s.sv.debugOpen ||| bitAt 5 v ||| bitAt 6 (!s.otp.trimGood) ||| 0x42010000
  wordBytes [BitVec.ofNat 32 (608 + s.otp.certificate.length), 0x5A520040] ++ padTo 16 (fingerprintOf s.identityKey) ++ wordBytes [flags, s.sv.ownerGen]
  ++ (if s.sv.owned then padTo 48 (Config.sha384 s.sv.ownerKey) else padTo 48 []) ++ wordBytes [s.reg 0x18] ++ (h.drop 8).take 4 ++ (h.drop 28).take 48
  ++ wordBytes [if v then s.vault.imageVersion else 0] ++ padTo 48 (if v then s.vault.imageDigest else []) ++ padTo 32 (Look.hash s.cfgv)
  ++ padTo 32 (if v then s.sealHash else []) ++ wordBytes [s.sv.eventCount] ++ leBytes 8 s.nowNs
  ++ wordBytes [at_ 16 s.epoch.toNat ||| BitVec.ofNat 32 s.ff.mode.code] ++ wordBytes nonce
  ++ padTo 100 (Config.p384Public (s.deviceKey 2)) ++ padTo 100 (Config.p384Public (s.deviceKey 3)) ++ wordBytes [BitVec.ofNat 32 s.otp.certificate.length]

/-- ATTEST (R388, R393). -/
def execAttest (id : Nat) (s : State) : Out :=
  s.serve id 0x61 (fun d s =>
    if s.lastWaits then s else
    let r := s.report504 ((d.words.drop 4).take 8)
    let bs := r ++ s.signBlock 1 6 (Config.sha384 r) ++ s.otp.certificate
    ((s.descWrite d bs).bump 0x6800C).retireOk d [BitVec.ofNat 32 (608 + s.otp.certificate.length)])

end Sys2Proof.Machine
end

