-- ==== Sys2Proof/Machine/Pins.lean ====
section
/-! DEFINITION. Pins (chapter 21): settling (R487), the switch of a pin's function (R491) with the seize exception (R492), and PIN_OUT (R479). -/

namespace Sys2Proof.Machine

open Sys2Proof

/-- What follows from a seize pin that has settled at a level (R492). -/
def State.seizeSettled (s : State) (k : Nat) (high : Bool) : State :=
  if s.seizeFeeds k then (if high then s.seizeHigh k else s.seizeLow k) else s

/-- PIN_SETTLE (R487): the pin settles at a level, or a settled pin has crossed the band; settling is no edge. -/
def execPinSettle (k : Fin 33) (high : Bool) (s : State) : Out :=
  let before := s.sealOpen
  let s := s.settlePin k high
  let s := if k.val = 31 then s.sealTurn before else s
  .next (if k.val < 32 then s.seizeSettled k high else s)

/-- The seize is held while its pin reads high or is UNSETTLED (R491, R492), and released with the outputs DISABLED when nothing asserts it. -/
def State.seizeCheck (s : State) (fed : Bool) : State :=
  if s.seizeIn then s.excSeize.vaultTaint
  else if fed && !s.log.fatal then s.excUnseize
  else s

/-- The Cricket count of a pin's next step of its switch. -/
def State.pinEdge (s : State) (k : Nat) : W32 := Cells.get (fun _ => 0) s.pads.edgeAt k

/-- FUNCTION_SWITCH_PARK (R491): at C0 the old function is released and the pin parked; C1 is the next Cricket edge. -/
def execFunctionSwitchPark (k : Fin 32) (s : State) : Out :=
  if s.pads.due.getLsbD k then
    let s := s.reachCricket (s.pinEdge k)
    let fed := s.seizeIn
    let b := BitVec.ofNat 32 (2 ^ k.val)
    let at1 := Cells.set (fun _ => 0) s.pads.edgeAt k (s.tm.cricket + 1)
    let s := { s with pads := { s.pads with due := s.pads.due &&& ~~~ b, parked := s.pads.parked ||| b, edgeAt := at1 } }
    .next (s.seizeCheck fed)
  else .next s

/-- FUNCTION_SWITCH_CONNECT (R491): at C1 the live function takes the pin, unless a later flip waits for its own Cricket edge. -/
def execFunctionSwitchConnect (k : Fin 32) (s : State) : Out :=
  if s.pads.parked.getLsbD k && !s.pads.due.getLsbD k then
    let s := s.reachCricket (s.pinEdge k)
    let fed := s.seizeIn
    let f := s.cfgv Fld.pinFunc k 0
    let s := { s with pads := { s.pads with parked := s.pads.parked &&& ~~~ BitVec.ofNat 32 (2 ^ k.val), func := Cells.set (fun _ => 0) s.pads.func k f,
                                            edgeAt := Cells.set (fun _ => 0) s.pads.edgeAt k 0 } }
    let s := s.seizeCheck fed
    .next (if s.pinFunc k = 9 ∧ s.pads.settled.getLsbD k = true then s.seizeSettled k (s.pads.level.getLsbD k) else s)
  else .next s

/-- PIN_OUT_SET (R479). -/
def execPinOutSet (v : W32) (s : State) : Out := .next (s.setReg 0x78088 (s.reg 0x78088 ||| v))

/-- PIN_OUT_CLR (R479). -/
def execPinOutClr (v : W32) (s : State) : Out := .next (s.setReg 0x78088 (s.reg 0x78088 &&& ~~~ v))

end Sys2Proof.Machine
end

