-- ==== Sys2Proof/Machine/Validate.lean ====
section
/-! DEFINITION. Validation of a configuration (R315, R316): every rule that refuses a commit with INVALID names its failing fields, and the first in canonical order is reported; then LOCKED, OUT_OF_WINDOW and the stop-class changes (R39, R52, R60, R93, R126, R320, R321). -/

namespace Sys2Proof.Machine

open Sys2Proof

/-- The function a configuration gives a pin. -/
def Look.func (c : Look) (k : Nat) : Nat := c Fld.pinFunc k 0

/-- The keys of a field for the indices that break a rule. -/
def failing (n code sub : Nat) (p : Nat → Bool) : List Nat := ((List.range n).filter p).map (fun i => keyOf code i sub)

/-- Not all values of a list are equal. -/
def differ (xs : List Nat) : Bool := xs.any (fun x => x != xs.headD x)

/-! ### Cores, strobes and pins -/

/-- R30, R58, R92, R109. -/
def Look.coreRules (c : Look) : List Nat :=
  ((List.range 32).filter (fun k => ((c Fld.cnvScanMask (2 * k) 0).testBit 11 || (c Fld.cnvScanMask (2 * k + 1) 0).testBit 11)
      && c.coreGroup (2 * k) != c.coreGroup (2 * k + 1))).map (fun k => keyOf Fld.cnvGroup (2 * k) 0)
  ++ failing 64 Fld.cnvScanMask 0 (fun n => [1, 3, 5, 7].any (fun s => c.slotOn n s && c.diff (4 * n + s / 2)))
  ++ ((List.range 32).filter (fun k => c Fld.cnvXchkTol (2 * k) 0 != c Fld.cnvXchkTol (2 * k + 1) 0)).map (fun k => keyOf Fld.cnvXchkTol (2 * k) 0)
  ++ ((List.range 32).filter (fun k => c Fld.cnvXchkPersist (2 * k) 0 != c Fld.cnvXchkPersist (2 * k + 1) 0)).map (fun k => keyOf Fld.cnvXchkPersist (2 * k) 0)

/-- R49. -/
def Look.eventRules (c : Look) : List Nat :=
  let src := fun g b => (c Fld.strbEventSrc g 0).testBit b
  failing 2 Fld.strbEventSrc 0 (fun g => (src g 0 && c.func (c Fld.strbEventGpioA g 0) != 3) || (src g 1 && c.func (c Fld.strbEventGpioB g 0) != 3)
    || (src 0 2 && src 1 2))

/-- Pins that may carry a function at most (Table 21-3). -/
def funcLimit (f : Nat) : Nat :=
  match f with
  | 3 => 4
  | 5 => 4
  | 6 => 2
  | 0 => 32
  | 1 => 32
  | 2 => 32
  | _ => 1

/-- R480, R489: placement, and how many pins carry a function. -/
def Look.pinRules (c : Look) (fuse : Bool) : List Nat :=
  let count := fun f => ((List.range 32).filter (fun k => c.func k == f)).length
  let twin := c Fld.twinEnable 0 0 == 1
  failing 32 Fld.pinFunc 0 (fun k =>
    (c.func k == 8 && !(fuse && k == 31)) || (fuse && k == 31 && c.func k != 0 && c.func k != 8) || decide (funcLimit (c.func k) < count (c.func k)))
  ++ (if twin && [9, 10, 11, 12].any (fun f => count f == 0) then [keyOf Fld.twinEnable 0 0] else [])

/-- R361: the pins a pair names carry their functions. -/
def Look.twinRules (c : Look) : List Nat :=
  if c Fld.twinEnable 0 0 = 1 then
    (if c.func (c Fld.twinSeizeOutGpio 0 0) = 10 then [] else [keyOf Fld.twinSeizeOutGpio 0 0])
    ++ (if c.func (c Fld.twinAliveOutGpio 0 0) = 12 then [] else [keyOf Fld.twinAliveOutGpio 0 0])
    ++ (if c.func (c Fld.twinAliveInGpio 0 0) = 11 then [] else [keyOf Fld.twinAliveInGpio 0 0])
  else []

/-- R492: no field of the seize pin changes while TWIN.ENABLE is 1 before and after. -/
def seizeRules (old new : Look) : List Nat :=
  if old Fld.twinEnable 0 0 = 1 ∧ new Fld.twinEnable 0 0 = 1 then
    ((List.range 32).filter (fun k => old.func k == 9)).flatMap (fun k =>
      ([Fld.pinFunc, Fld.pinPull, Fld.pinDrive, Fld.pinOpenDrain].filter (fun f => old f k 0 != new f k 0)).map (fun f => keyOf f k 0))
  else []

/-! ### Excitation -/

/-- R67: the bounds of every output, enabled or not (assumption 67: R67 names no enable bit). -/
def Look.pulseRules (c : Look) : List Nat :=
  let g := fun m => c Fld.excGroup m 0
  failing 32 Fld.excLead 0 (fun m => decide (c Fld.excWidth m 0 < c Fld.excLead m 0 + 100)
    || (!c.scheduled (g m) && decide (40 + 5 * c Fld.strbDelay (g m) 0 < c Fld.excLead m 0)))
  ++ failing 32 Fld.excWidth 0 (fun m => c.scheduled (g m) && decide (c.period (g m) < nsTq (c Fld.excWidth m 0 + 1000)))

/-- R31, R69. -/
def Look.bindRules (c : Look) : List Nat :=
  let bad := fun i (p : Nat → Bool) => c.isChannel i && (match c.bind i with
    | some m => p m
    | none => false)
  failing 512 Fld.ainBind 0 (fun i => bad i (fun m => c.chanGroup i != c Fld.excGroup m 0))
  ++ failing 512 Fld.ainBindMode 0 (fun i => bad i (fun m => c Fld.ainBindMode i 0 == 1 && c Fld.excEnable m 0 != 1))

/-- Pulses of a period as (start, width) that cover an instant, each as often as its width holds whole periods more (R73). -/
def coverage (period : Nat) (arcs : List (Nat × Nat)) (t : Nat) : Nat :=
  arcs.foldl (fun n a => n + a.2 / period + (if (t + period - a.1 % period) % period < a.2 % period then 1 else 0)) 0

/-- The most pulses that cover one instant: it is one at which a pulse starts. -/
def mostPulses (period : Nat) (arcs : List (Nat × Nat)) : Nat := arcs.foldl (fun n a => max n (coverage period arcs (a.1 % period))) 0

/-- Pulses of a group on its grid, from an offset in front of it. -/
def Look.arcs (c : Look) (g base : Nat) : List (Nat × Nat) :=
  (c.pulsing g).map (fun m => (base + 4 * c.period g - nsTq (c Fld.excLead m 0) % c.period g, nsTq (c Fld.excWidth m 0)))

/-- The most concurrent pulses a configuration could have (R73). -/
def Look.concurrent (c : Look) : Nat :=
  let one := fun g => if c.scheduled g then mostPulses (c.period g) (c.arcs g 0) else (c.pulsing g).length
  if c.scheduled 0 && c.scheduled 1 && decide (c.period 0 = c.period 1) then
    mostPulses (c.period 0) (c.arcs 0 (c.start 0 % c.period 0) ++ c.arcs 1 (c.start 1 % c.period 0))
  else one 0 + one 1

/-- R73. -/
def Look.pumpRules (c : Look) : List Nat :=
  if 6 < c.concurrent then (c.pulsing 0 ++ c.pulsing 1).map (fun m => keyOf Fld.excEnable m 0) else []

/-! ### Filters and mains -/

/-- The stage at which a chain's cumulative decimation passes 2^32 (R119). -/
def Look.overDec (c : Look) (i : Nat) : Option Nat :=
  ((List.range (c.stages i)).map (fun s => s + 1)).find? (fun s => decide (4294967296 < c.cumDec i s))

/-- R119, R122. -/
def Look.chainRules (c : Look) : List Nat :=
  ((List.range 512).filter c.isChannel).flatMap (fun i =>
    (match c.overDec i with
      | some s => [keyOf (if c.scs i then Fld.fltLen else Fld.fltDec) i s]
      | none => [])
    ++ (if c.scs i then ([1, 2, 3, 4].filter (fun s => c Fld.fltMains i s == 1)).map (fun s => keyOf Fld.fltMains i s) else []))

/-- N of a span of CYCLES periods at one end of the lock range (R131, R134): the period is 20 / (19 n) or 20 / (21 n) s. -/
def Look.spanN (c : Look) (i s den : Nat) : Nat :=
  let n := if c Fld.mainsNominal 0 0 = 0 then 50 else 60
  (roundHalfEven ((c Fld.mainsCycles 0 0 * 20 * 65536000000000 * 65536 : Nat) : Int) (den * n * c.period (c.chanGroup i) * c.cumDec i (s - 1))).toNat / 65536

/-- Channels with MAINS[s] set to 1. -/
def Look.mainsOn (c : Look) (s : Nat) : List Nat := (List.range 512).filter (fun i => c.isChannel i && c Fld.fltMains i s == 1)

/-- R129. DESIGN CHOICE (assumption 47): a tracking stage, for the rule on the span, is one up to STAGES; the words "channel with MAINS[s] set to 1" of the other rules take in every s. -/
def Look.mainsRules (c : Look) : List Nat :=
  if c Fld.mainsEnable 0 0 = 1 then
    let r := c Fld.mainsRefInput 0 0
    (if c.converted r && c.scheduled (c.chanGroup r) && decide (c.period (c.chanGroup r) ≤ nsTq 1000000) then [] else [keyOf Fld.mainsRefInput 0 0])
    ++ [1, 2, 3, 4].flatMap (fun s =>
      let on := c.mainsOn s
      let first := fun g => on.find? (fun i => c.chanGroup i == g)
      on.filterMap (fun i =>
        let other := match first (c.chanGroup i) with
          | some j => decide (c.cumDec j (s - 1) ≠ c.cumDec i (s - 1))
          | none => false
        let span := decide (s ≤ c.stages i) && [19, 21].any (fun d => decide (c.spanN i s d < 2 ∨ 65535 < c.spanN i s d))
        if !c.scheduled (c.chanGroup i) || span then some (keyOf Fld.fltMains i s)
        else if other then some (keyOf Fld.fltMains ((first (c.chanGroup i)).getD i) s)
        else none))
  else []

/-! ### Streams -/

/-- A fraction added to another. -/
def addFrac (a b : Nat × Nat) : Nat × Nat := (a.1 * b.2 + b.1 * a.2, a.2 * b.2)

/-- Packets per second a signed stream could need (R388): in event mode an event is accepted at the earliest at the ready time of the frame before. -/
def Look.signRate (c : Look) (x : Nat) : Nat × Nat :=
  let g := c.strmGroup x
  let frame := if c.scheduled g then c.period g else nsTq (240 + 5 * c Fld.strbDelay g 0 + 400 * c.nMax g false)
  let base := (65536000000000, max 1 frame * c.strmDec x * c Fld.streamFramesPerPacket x 0)
  let age := c Fld.streamMaxAge x 0
  if age = 0 then base else addFrac base (1000, age)

/-- R112, R140, R150, R202, R388. -/
def Look.streamRules (c : Look) : List Nat :=
  let on := (List.range 64).filter c.strmOn
  let tap := fun x => c Fld.streamTap x 0
  let signed := (List.range 64).filter (fun x => c Fld.streamSign x 0 == 1 && !(c.strmChannels x).isEmpty)
  let rate := signed.foldl (fun a x => addFrac a (c.signRate x)) (0, 1)
  (on.filter (fun x => let ch := c.strmChannels x
      ch.isEmpty || differ (ch.map c.chanGroup) || ch.any (fun i => !c.isChannel i) || differ (ch.map (fun i => c.cumDec i (tap x)))
        || differ (ch.map (fun i => c Fld.fltMode i 0)))).map (fun x => keyOf Fld.streamChannels x 0)
  ++ failing 64 Fld.streamTap 0 (fun x => (c.strmChannels x).any (fun i => c.isChannel i && decide (c.stages i < tap x)))
  ++ (if 4096 < on.foldl (fun n x => n + c Fld.streamFifoKib x 0) 0 then on.map (fun x => keyOf Fld.streamFifoKib x 0) else [])
  ++ (on.filter (fun x => decide (c Fld.streamFifoKib x 0 * 1024 < c.largestPacket x + 256))).map (fun x => keyOf Fld.streamFifoKib x 0)
  ++ failing 64 Fld.streamCmpLevel 0 (fun x => c Fld.streamCmpLevel x 0 != 0 && decide (262144 < c.largestPayload x))
  ++ (if 3000 * rate.2 < rate.1 then signed.map (fun x => keyOf Fld.streamSign x 0) else [])

/-! ### Mantis, Firefly -/

/-- A pattern's MASK names a condition of the other group than g (R170). -/
def Look.maskForeign (c : Look) (g pattern : Nat) : Bool :=
  (bitsOf 64 pattern).any (fun k => c.chanGroup (c Fld.condChannel k 0) != g)

/-- R112, R170, R174, R182, R195. -/
def Look.mantisRules (c : Look) : List Nat :=
  let group := fun u => c Fld.capGroup u 0
  let trigs := fun u => bitsOf 16 (c Fld.capSources u 0)
  let tin := fun u v => (c Fld.capSources u 0).testBit (32 + v) && c.func (c Fld.tinGpio v 0) != 6
  failing 64 Fld.condTap 0 (fun k => let i := c Fld.condChannel k 0; c.isChannel i && decide (c.stages i < c Fld.condTap k 0))
  ++ failing 16 Fld.trigPattern 0 (fun u => c.maskForeign (c Fld.trigGroup u 0) (c Fld.trigPattern u 0))
  ++ (List.range 8).flatMap (fun st => failing 16 Fld.trigStepPattern st (fun u => c.maskForeign (c Fld.trigGroup u 0) (c Fld.trigStepPattern u st)))
  ++ failing 16 Fld.trigResetPattern 0 (fun u => c.maskForeign (c Fld.trigGroup u 0) (c Fld.trigResetPattern u 0))
  ++ failing 16 Fld.trigTout 0 (fun u => c Fld.trigEnable u 0 == 1 && c Fld.trigTout u 0 == 1 && !(List.range 32).any (fun k => c.func k == 7))
  ++ failing 16 Fld.capSources 0 (fun u => (trigs u).any (fun t => c Fld.trigGroup t 0 != group u) || (c Fld.capEnable u 0 == 1 && (tin u 0 || tin u 1)))
  ++ failing 16 Fld.capChannels 0 (fun u => (bitsOf 512 (c Fld.capChannels u 0)).any (fun i => c.chanGroup i != group u))
  ++ failing 16 Fld.capPreNs 0 (fun u => c.scheduled (group u) && decide (65535 < nsTq (c Fld.capPreNs u 0 + c Fld.capPostNs u 0) / max 1 (c.period (group u)) + 1))

/-- R247. -/
def Look.fireflyRules (c : Look) : List Nat :=
  (if c Fld.fireflyAltParent 0 0 = c Fld.fireflyParent 0 0 + 1 then [keyOf Fld.fireflyParent 0 0] else [])
  ++ (if c Fld.fireflyRootSource 0 0 = 1 ∧ c.func (c Fld.fireflyPpsGpio 0 0) ≠ 4 then [keyOf Fld.fireflyRootSource 0 0] else [])

/-! ### Vault and keys -/

/-- R365, R374, on the vault part. -/
def Look.vaultRules (c : Look) : List Nat :=
  failing 512 Fld.ainBind 0 (fun i => c.isChannel i && (match c.bind i with
    | some m => decide (480 ≤ i) != decide (28 ≤ m)
    | none => false))
  ++ ((List.range 32).map (fun k => 480 + k)).flatMap (fun i => ([1, 2, 3, 4].filter (fun s => c Fld.fltMains i s == 1)).map (fun s => keyOf Fld.fltMains i s))
  ++ failing 4 Fld.vaultPlatformCells 0 (fun p => let ch := (bitsOf 32 (c Fld.vaultPlatformCells p 0)).map (fun k => 480 + k)
      c Fld.vaultPlatformEnable p 0 == 1 && (ch.isEmpty || differ (ch.map c.chanGroup) || differ (ch.map (fun i => c.cumDec i (c Fld.vaultPlatformTap p 0)))))

/-- R399: SIGN becomes 1, or a stream with SIGN 1 is enabled (DEDUCED, assumption 73), or a platform is enabled. -/
def Look.withheldRules (old c : Look) : List Nat :=
  let rises := fun code i => c code i 0 == 1 && old code i 0 != 1
  failing 64 Fld.streamSign 0 (fun x => c Fld.streamSign x 0 == 1 && (rises Fld.streamSign x || rises Fld.streamEnable x))
    ++ failing 4 Fld.vaultPlatformEnable 0 (rises Fld.vaultPlatformEnable)

/-- Every failing field of a configuration (R315). -/
def State.broken (s : State) (c : Look) : List Nat :=
  let fuse := s.otp.vaultFuse
  c.coreRules ++ c.eventRules ++ c.pinRules fuse ++ c.twinRules ++ seizeRules s.cfgv c ++ c.pulseRules ++ c.bindRules ++ c.pumpRules ++ c.chainRules
    ++ c.mainsRules ++ c.streamRules ++ c.mantisRules ++ c.fireflyRules ++ (if fuse then c.vaultRules else []) ++ (if s.sv.withheld then Look.withheldRules s.cfgv c else [])

/-- The failing field that comes first in canonical order (R316). -/
def State.firstBroken (s : State) (c : Look) : Option Nat :=
  match s.broken c with
  | [] => none
  | k :: ks => some (ks.foldl min k)

/-! ### What changes -/

/-- Keys at which two banks differ. -/
def changedKeys (fuse : Bool) (a b : Bank) : List Nat :=
  let ks := a.map (fun e => e.1) ++ (b.map (fun e => e.1)).filter (fun k => !a.any (fun e => e.1 == k))
  ks.filter (fun k => Cells.get (keyDflt fuse) a k != Cells.get (keyDflt fuse) b k)

/-- A change of a key is stop-class for a group under the configurations before and after (R52, R60, R93, R126). -/
def stopKey (old new : Look) (key g : Nat) : Bool :=
  let code := keyCode key
  let i := keyIndex key
  let core := fun n => old.coreGroup n == g || new.coreGroup n == g
  let anyCore := !(old.coresIn g).isEmpty || !(new.coresIn g).isEmpty
  if code = Fld.cnvGroup then core i
  else if 0x941 ≤ code ∧ code ≤ 0x949 then i == g && code != Fld.strbEnable
  else if code = Fld.ainPairMode ∨ code = Fld.ainPairGain ∨ code = Fld.ainPairAaf then core (i / 4)
  else if code = Fld.ainBind ∨ code = Fld.ainBindMode then core (i / 8)
  else if code = Fld.excGroup then old Fld.excGroup i 0 == g || new Fld.excGroup i 0 == g
  else if code = Fld.cnvScanMask then core i && decide (old Fld.cnvScanMask i 0 % 256 ≠ new Fld.cnvScanMask i 0 % 256)
  else if 0x1501 ≤ code ∧ code ≤ 0x1506 then core (i / 8)
  else if code = Fld.mainsEnable ∨ code = Fld.mainsCycles ∨ code = Fld.mainsNominal then anyCore
  else false

/-- The state of a group calls for a stop (R320). -/
def GroupMode.live (m : GroupMode) : Bool := decide (m = .waitingStart ∨ m = .running ∨ m = .held)

/-- A group needs a stop (R320). -/
def State.needsStop (s : State) (new : Look) (changed : List Nat) (g : Nat) : Bool :=
  (s.grpOf g).mode.live && decide (new Fld.strbEnable g 0 = 1) && changed.any (fun k => stopKey s.cfgv new k g)

/-- The frame at whose boundary a running group would take a bank now: number, edge, ready time from now on in ns (R317). -/
def State.boundary (s : State) (g : Nat) : Nat × Tq × Tq :=
  let x := s.grpOf g
  match x.frame with
  | some f => (f.k, f.edge, s.now + nsTq (f.dueUp - s.tm.up))
  | none => let n := s.nextFrame g; (n.1, n.2, n.2 + nsTq (200 + 400 * Look.nMax s.cfgv g (Look.diagFrame s.cfgv g n.1)))

/-- Frames stopped by a hold from B on (R321): grid instants behind the last strobed edge and in front of the first strobe at least 10 µs behind B + 500 µs. -/
def stoppedFrames (new : Look) (g : Nat) (last : Option Tq) (b : Tq) : Nat :=
  if new.scheduled g then
    match last with
    | some e => new.firstK g (b + nsTq 510000) - new.firstEdge g e false
    | none => 0
  else 0

/-- The frame count a hold of a group would take, were the flip armed now. -/
def State.stopCount (s : State) (new : Look) (g : Nat) : Nat :=
  if (s.grpOf g).mode = .running then let b := s.boundary g; stoppedFrames new g (some b.2.1) b.2.2 else stoppedFrames new g none s.now

/-- A START_TIME too far ahead (R39). -/
def State.outOfWindow (s : State) (c : Look) : Bool := [0, 1].any (fun g => decide (s.now + nsTq 2147483647 < c.start g))

/-- A commit's outcome before it is staged (Table 12-2): status and result words. -/
def State.validate (s : State) (bank : Bank) (authorised withGap : Bool) (limit : Nat) : Nat × List W32 :=
  let fuse := s.otp.vaultFuse
  let new : Look := Bank.get fuse bank
  let changed := changedKeys fuse s.cfg.live bank
  let stops := [0, 1].filter (s.needsStop new changed)
  let count := stops.foldl (fun n g => max n (s.stopCount new g)) 0
  let stopRes := [0, 0, BitVec.ofNat 32 (maskOf stops), BitVec.ofNat 32 count]
  match s.firstBroken new with
  | some k => (0x0120, [BitVec.ofNat 32 (keyCode k), at_ 16 (keySub k) ||| BitVec.ofNat 32 (keyIndex k)])
  | none =>
    if fuse && !authorised && !s.sealOpen && changed.any (fun k => vaultOwned (keyCode k) (keyIndex k)) then (0x0130, [])
    else if s.outOfWindow new then (0x0810, [])
    else if !stops.isEmpty && !withGap then (0x0110, stopRes)
    else if !stops.isEmpty && decide (limit ≠ 0 ∧ limit < count) then (0x0111, stopRes)
    else (0, [])

end Sys2Proof.Machine
end

