-- ==== Sys2Proof/Machine/CfgApply.lean ====
section
/-! DEFINITION. Applying a configuration (chapter 12): what each field is bound to (R317), arming (R317, R349), the flip with what it starts and stops (R52, R82, R107, R126, R158, R159, R195, R212, R247, R281, R317, R321, R324, R361, R491), and the BAD configuration (R325 to R327). -/

namespace Sys2Proof.Machine

open Sys2Proof

/-! ### What a field is bound to -/

/-- The group a field takes its values with under a configuration (R52, R60, R93, R126, R195); none: it takes them at the commit's own boundary (R317). -/
def Look.keyGroup (c : Look) (key : Nat) : Option Nat :=
  let code := keyCode key
  let i := keyIndex key
  if code = Fld.cnvGroup then some (c.coreGroup i)
  else if 0x941 ≤ code ∧ code ≤ 0x94A then some i
  else if 0xD81 ≤ code ∧ code ≤ 0xD83 then some (c.coreGroup (i / 4))
  else if 0xD84 ≤ code ∧ code ≤ 0xD89 then some (c.chanGroup i)
  else if 0xD8A ≤ code ∧ code ≤ 0xD93 then some (c Fld.excGroup i 0)
  else if 0x10C1 ≤ code ∧ code ≤ 0x10C4 then some (c.coreGroup i)
  else if 0x1501 ≤ code ∧ code ≤ 0x1506 then some (c.chanGroup i)
  else if 0x1509 ≤ code ∧ code ≤ 0x150B then some (c.chanGroup (c Fld.mainsRefInput 0 0))
  else if 0x1DC1 ≤ code ∧ code ≤ 0x1DC9 then some (c.chanGroup (c Fld.condChannel i 0))
  else if 0x1DCA ≤ code ∧ code ≤ 0x1DD7 then some (c Fld.trigGroup i 0)
  else if 0x1DD8 ≤ code ∧ code ≤ 0x1DDD then some (c Fld.capGroup i 0)
  else none

/-- A commit's waiting flag of a group. -/
def FlipSt.waits (f : FlipSt) (g : Nat) : Bool := if g = 0 then f.waitA else f.waitB

/-- A group's boundary was reached. -/
def FlipSt.at (f : FlipSt) (g : Nat) : Bool := if g = 0 then f.atA else f.atB

/-- A group is to be held. -/
def FlipSt.holds (f : FlipSt) (g : Nat) : Bool := if g = 0 then f.holdA else f.holdB

/-- A group's boundary is reached. -/
def FlipSt.reach (f : FlipSt) (g : Nat) : FlipSt := if g = 0 then { f with atA := true } else { f with atB := true }

/-- A field takes its new value: its groups before and after have taken the bank, or the commit's own boundary has come (R317). -/
def FlipSt.moves (f : FlipSt) (old new : Look) (key : Nat) : Bool :=
  match old.keyGroup key, new.keyGroup key with
  | some a, some b => !f.waits a && !f.waits b
  | _, _ => !f.shared

/-! ### Arming -/

/-- A partner that follows commits stands by (R349). -/
def State.partnerFollows (s : State) : Bool :=
  decide (s.twin.role = .active) && s.inService 2 && (s.partnerRole .standby || s.partnerRole .standbyUnfit)

/-- A staged commit goes to the standby first, or is armed (R317, R349); it takes the place of a configuration on its way to a standby that resynchronises (R359). -/
def State.launchFlip (s : State) (f : FlipSt) : State :=
  if s.partnerFollows then
    let recs := Look.records (Bank.get s.otp.vaultFuse f.staged) ++ (f.profile.map profileRecord).getD []
    ({ s with cfg := { s.cfg with flip := none, waitReady := some { f with sealing := false, sentUp := s.tm.up } }, twin := { s.twin with resync := 0 } } : State).sendData recs
  else s.armFlip f none

/-- The boundary that ends frame k of a group (R33, R317): an armed flip is reached there; one that waits for frame F is armed there (R349). -/
def State.flipBoundary (s : State) (g k : Nat) : State :=
  match s.cfg.flip with
  | some f =>
    if f.armed = false then s
    else
      let f' := match f.atFrame with
        | some n => if f.lead = some g ∧ n ≤ k then { f.reach g with atFrame := none, late := f.late || decide (n < k) } else f
        | none => f.reach g
      { s with cfg := { s.cfg with flip := some f' } }
  | none => s

/-- The commit's own boundary has come: that of the group that sets it, or at once when that group runs no longer. -/
def State.leadReached (s : State) (f : FlipSt) : Bool :=
  match f.lead with
  | some g => !f.waits g || (f.at g && (s.grpOf g).frame.isNone) || s.quiet g
  | none => true

/-- A group takes the bank now: at its boundary when it runs, at the commit's when it does not (R317). -/
def State.flipsNow (s : State) (f : FlipSt) (g : Nat) : Bool :=
  f.waits g && ((f.at g && (s.grpOf g).frame.isNone) || (s.leadReached f && s.quiet g))

/-! ### BAD (R325 to R327) -/

/-- A group stops for BAD (R326, R507): each stream loses the frame that is converting, which is not delivered, and what follows; behind a hold, what follows the entry. -/
def State.badGroup (s : State) (g : Nat) : State :=
  let n := s.nextFrame g
  let now := (if Look.scheduled s.cfgv g then Look.firstEdge s.cfgv g s.now true else n.1, s.now)
  let x := s.grpOf g
  let live := x.mode.live
  let first := (x.frame.map (fun f => (f.k, f.edge))).getD (if x.mode = .held then now else n)
  let s := s.updGrp g (fun x => { x with frame := x.frame.map (fun f => { f with undelivered := true }) })
  let s := s.doIf live (fun t => t.stopGroup g .stopped)
  if live then ((s.loseGroup g 3 2 first.1 first.2).loseDeferred g).loseGroup g 3 2 n.1 n.2 else s.loseGroup g 3 2 now.1 now.2

/-- Every CAPTURE_ARM descriptor a unit holds retires with CAP_ABORTED (R195). -/
def State.capAbort (s : State) (u : Nat) : State :=
  let ds := (s.capOf u).descs
  let s := s.updCap u (fun c => { c with descs := [], mode := if c.mode = .armed then .idle else c.mode })
  s.each ds (fun id t => match t.descOf id with
    | some d => t.retireBad d 0x0330
    | none => t)

/-- A commit that cannot be completed retires with APPLY_FAILED (R327). -/
def State.flipFails (s : State) (f : FlipSt) : State :=
  let s := ({ s with cfg := { s.cfg with flip := none } } : State).bump 0x110 |>.setReg 0x114 0x0160
  match f.id.bind s.descOf with
  | some d => s.retireBad d 0x0160
  | none => s

/-- The configuration becomes BAD (R325). -/
def State.enterBad (s : State) (cause : Nat) : State :=
  let s := match s.cfg.flip with
    | some f => if f.armed then s.flipFails f else s
    | none => s
  if s.cfg.bad then { s with cfg := { s.cfg with badCause := cause } }
  else
    let s := { s with cfg := { s.cfg with bad := true, badCause := cause } }
    let s := (s.badGroup 0).badGroup 1
    let s := (s.excRole []).pulseStopAll 0x0813
    let s := { s with mantis := { s.mantis with toutHigh := false } }
    let s := s.each (List.range 16) (fun u t => t.capAbort u)
    let s := ((s.setBit Reg.cfgStatus 8).raise { errAt 2 Reg.cfgStatus 8 0xFFFF with detail := cause, recovers := true }).traceFree 5
    s.vaultTaint

/-- BAD ends with a commit that is applied (R326). -/
def State.leaveBad (s : State) : State :=
  if s.cfg.bad then ({ s with cfg := { s.cfg with bad := false, badCause := 0 } } : State).endHandling Reg.cfgStatus 0xFFFF else s

/-! ### The switch -/

/-- A moved key changes one of some fields of an index. -/
def movedAt (moved : List Nat) (codes : List Nat) (i : Nat) : Bool := moved.any (fun k => keyIndex k == i && codes.contains (keyCode k))

/-- Fields of a stream that R158 and R212 name. -/
def streamCodes : List Nat :=
  [Fld.streamChannels, Fld.streamTap, Fld.streamFramesPerPacket, Fld.streamMarks, Fld.streamCmpLevel, Fld.streamSign, Fld.streamCmpPre]

/-- What ends under the old configuration (R147, R158, R374): packets, disabled streams, open weighing intervals. -/
def State.beforeSwitch (s : State) (new : Look) (moved : List Nat) : State :=
  let s := s.doIf (s.otp.vaultFuse && moved.any (fun k => vaultOwned (keyCode k) (keyIndex k))) (fun t => t.interruptWeighing [0, 1, 2, 3])
  s.each (List.range 64) (fun x t =>
    if !t.cfgOn Fld.streamEnable x then t.doIf ((t.strmOf x).ending && new Fld.streamEnable x 0 == 1) (fun t => t.endStream x)
    else if movedAt moved [Fld.streamEnable] x && new Fld.streamEnable x 0 == 0 then t.disableStream x
    else if movedAt moved streamCodes x then t.closeStreams [x]
    else t)

/-- A check of a core whose slot a commit disables is cleared (R107). -/
def State.checkOff (s : State) (old : Look) (n : Nat) : State :=
  let off := fun b => old.slotOn n b && !Look.slotOn s.cfgv n b
  let c := s.coreOf n
  let c := if off 8 then { c with ref := CheckSt.init } else c
  let c := if off 9 then { c with supply := CheckSt.init } else c
  let c := if off 10 then { c with tHigh := CheckSt.init, tCrit := CheckSt.init, tSensor := CheckSt.init } else c
  let c := if off 11 then { c with xFails := 0, xPasses := 0 } else c
  let s := s.setCore n c
  let k := n / 2
  let s := if off 11 && !Look.slotOn s.cfgv (2 * k) 11 && !Look.slotOn s.cfgv (2 * k + 1) 11 then
      ((s.setPair k CheckSt.init).updCore (2 * k) (fun x => { x with xFails := 0, xPasses := 0 })).updCore (2 * k + 1) (fun x => { x with xFails := 0, xPasses := 0 })
    else s
  (s.coreClose n).coreClose (2 * k)

/-- Checks of the cores whose fields moved (R107). -/
def State.checksSwitch (s : State) (old : Look) (moved : List Nat) : State :=
  s.each (List.range 64) (fun n t =>
    let t := t.doIf (movedAt moved [Fld.cnvScanMask] n) (fun t => t.checkOff old n)
    t.doIf (movedAt moved [Fld.cnvXchkTol, Fld.cnvXchkPersist] n) (fun t => t.updCore n (fun x => { x with xFails := 0, xPasses := 0 })))

/-- Conditions, trigger units and capture units whose fields moved (R195). -/
def State.mantisSwitch (s : State) (old : Look) (moved : List Nat) : State :=
  let hit := fun lo hi i => moved.any (fun k => keyIndex k == i && decide (lo ≤ keyCode k ∧ keyCode k ≤ hi))
  let s := s.each (List.range 64) (fun c t => t.doIf (hit 0x1DC1 0x1DC9 c) (fun t => t.setCond c .init))
  let s := s.each (List.range 16) (fun u t => t.doIf (hit 0x1DCA 0x1DD7 u) (fun t => t.updTrig u (fun x => { TrigSt.init with forced := x.forced && t.cfgOn Fld.trigEnable u })))
  s.each (List.range 16) (fun u t =>
    let t := t.doIf (hit 0x1DD8 0x1DDD u) (fun t => t.capAbort u)
    t.doIf (movedAt moved [Fld.capEnable] u && old Fld.capEnable u 0 == 0) (fun t => t.updCap u (fun c => { c with seqNext := 0 })))

/-- A change of some keys starts the acceptance of mains periods again (R126). -/
def mainsAgain (old new : Look) (moved : List Nat) : Bool :=
  let g := new.chanGroup (new Fld.mainsRefInput 0 0)
  moved.any (fun k => [Fld.mainsEnable, Fld.mainsNominal, Fld.mainsRefInput, Fld.mainsHyst, Fld.mainsAvgCycles].contains (keyCode k))
    || decide (old.chanGroup (new Fld.mainsRefInput 0 0) ≠ g) || movedAt moved [Fld.strbPeriod, Fld.strbStartTime] g

/-- A change of some keys gives the stages other mains weights (R126, R134). -/
def mainsMoves (old new : Look) (moved : List Nat) : Bool :=
  mainsAgain old new moved || moved.any (fun k => [Fld.mainsCycles, Fld.strbPeriod, Fld.fltStages, Fld.fltMode, Fld.fltLen, Fld.fltDec, Fld.fltMains, Fld.cnvGroup].contains (keyCode k))

/-- Acceptance of mains periods after a commit (R126). DESIGN CHOICE (assumption 91): it starts again at the flip also while the engine is absent (R133). -/
def State.mainsSwitch (s : State) (old : Look) (moved : List Nat) : State := s.doIf (mainsAgain old s.cfgv moved) State.mainsRestart

/-- A stream that a commit enables begins with the next frame of its group. -/
def State.streamsSwitch (s : State) (old : Look) (moved : List Nat) : State :=
  s.each (List.range 64) (fun x t =>
    if movedAt moved [Fld.streamEnable] x && old Fld.streamEnable x 0 == 0 then
      let n := t.nextFrame (Look.strmGroup t.cfgv x)
      t.setStrm x { StreamSt.init with floor := n.1, bufs := (t.strmOf x).bufs }
    else t)

/-- Statistics intervals that a commit closes (R159). -/
def State.statsSwitch (s : State) (old : Look) (moved : List Nat) : State :=
  let all := moved.any (fun k => keyCode k == Fld.statsIntervalMs)
  s.each (List.range 512) (fun i t => t.doIf (all || movedAt moved [Fld.statsTap] i) (fun t => t.statCommit old i))

/-- Pins whose fields moved switch at the next Cricket edge (R491). -/
def State.pinsSwitch (s : State) (moved : List Nat) : State :=
  let ks := (List.range 32).filter (movedAt moved [Fld.pinFunc, Fld.pinPull, Fld.pinDrive, Fld.pinOpenDrain])
  { s with pads := { s.pads with due := s.pads.due ||| BitVec.ofNat 32 (maskOf ks),
                                 edgeAt := ks.foldl (fun m k => Cells.set (fun _ => 0) m k (s.tm.cricket + 1)) s.pads.edgeAt } }

/-- The hub leaves DOZE for RUN when FAST_CLOCKS is ALWAYS and no burst is in progress (R404); otherwise the end of the burst brings the change. -/
def State.clocksSwitch (s : State) : State :=
  let s := s.refuserNote
  if s.cfgv Fld.pwrFastClocks 0 0 = 0 ∧ s.bursting = false then s.leaveDoze else s

/-- TWIN.ENABLE changes the role (R336): a pair resolves anew, or finds its seize input asserted (R337), and a unit on its own is SOLO whatever it was. -/
def State.twinSwitch (s : State) (old : Look) : State :=
  let was := old Fld.twinEnable 0 0
  let now := s.cfgv Fld.twinEnable 0 0
  if was = now then s
  else if now = 1 then ((({ s with boot := { s.boot with readyAt := s.tm.up } } : State).setRole .unresolved []).sendHealth).seizeTaken
  else ((({ s with twin := { s.twin with reasons := 0 } } : State).setRole .solo []).endHandling Reg.twinStatus 0xFFFF).sendHealth

/-- What starts with the new values, group by group fields first. -/
def State.afterSwitch (s : State) (old : Look) (moved written : List Nat) : State :=
  let s := ((s.checksSwitch old moved).mantisSwitch old moved).mainsSwitch old moved
  let s := ((s.streamsSwitch old moved).statsSwitch old moved).pinsSwitch moved
  let s := s.doIf (moved.any (fun k => decide (0x2581 ≤ keyCode k ∧ keyCode k ≤ 0x258E))) (fun t => t.ffCommit old)
  let s := s.each [0, 1, 2] (fun p t => t.doIf (moved.any (fun k => decide (0x2A01 ≤ keyCode k ∧ keyCode k ≤ 0x2A08) && keyIndex k == p)) (fun t => t.linkCommit old p))
  let s := s.doIf (moved.any (fun k => keyCode k == Fld.flashIo)) State.quadSet
  let s := ((s.clocksSwitch).twinSwitch old).assignAll
  s.excApplyAll s.cfg.bad (written.filterMap (fun k => if keyCode k = Fld.excEnable ∧ s.cfgv Fld.excEnable (keyIndex k) 0 = 1 then some (keyIndex k) else none))

/-- The last edge a group strobed. -/
def State.lastStrobed (s : State) (g : Nat) : Option Tq :=
  if (s.grpOf g).strobed then some (s.grpOf g).lastEdge else none

/-- A group after the switch (R321, R322, R324, R326): held, stopped, or started. next: the first frame it had not strobed. -/
def State.groupSwitch (s : State) (g : Nat) (hold : Bool) (next : Nat × Tq) : State :=
  let mode := (s.grpOf g).mode
  if s.cfgv Fld.strbEnable g 0 = 0 then
    if mode.live then (s.stopGroup g .stopped).loseGroup g 3 0 next.1 next.2 else s
  else if hold && mode.live then
    let s := (s.stopGroup g .held).mantisReset g
    s.loseGroup g 3 1 next.1 next.2
  else if mode = .stopped ∧ s.cfg.bad = false ∧ s.log.fatal = false then s.startGroup g s.now
  else s

/-- The bank a commit applies: while the vault is in FAULT the owned fields stay at their defaults (R379). -/
def State.applying (s : State) (f : FlipSt) : Bank := if s.vault.mode = .fault then withOwned s.otp.vaultFuse f.staged [] else f.staged

/-- The sealed set changes with the owned fields of the live configuration (R364, R371): the first of them that a commit changes raises the event counter and is entered with the hash of the new set. -/
def State.sealFollow (s : State) (f : FlipSt) : State :=
  if s.otp.vaultFuse = true ∧ s.vault.mode ≠ .fault ∧ ownedPart s.cfg.live ≠ s.vault.sealed then
    let s := { s with vault := { s.vault with sealed := ownedPart s.cfg.live }, cfg := { s.cfg with flip := s.cfg.flip.map (fun x => { x with counted := true }) } }
    if f.counted then s else s.auditEvent 1 (some ((wordsOf (sealHashOf s.otp.vaultFuse f.staged)).take 2))
  else s

/-- The groups of a list take the bank: moved fields switch with everything they start and stop. -/
def State.switchGroups (s : State) (f : FlipSt) (gs : List Nat) : State :=
  let fuse := s.otp.vaultFuse
  let f := { f with staged := s.applying f }
  let new : Look := Bank.get fuse f.staged
  let old : Look := s.cfgv
  let next := fun g => s.nextFrame g
  let frames := gs.foldl (fun n g => if f.holds g then max n (stoppedFrames new g (s.lastStrobed g) s.now) else n) 0
  let moved := (changedKeys fuse s.cfg.live f.staged).filter (f.moves old new)
  let written := f.written.filter (fun k => match new.keyGroup k with
    | some g => gs.contains g
    | none => false)
  let s := s.beforeSwitch new moved
  let live := moved.foldl (fun b k => Bank.set fuse b k (Bank.get fuse f.staged (keyCode k) (keyIndex k) (keySub k))) s.cfg.live
  let restarts := mainsAgain old (Bank.get fuse live) moved
  let again := f.again && !restarts
  let was := fun g => s.gridOf g
  let s := { s with cfg := { s.cfg with live := live, flip := some { f with frames := max f.frames frames, again := again } } }
  let s := s.sealFollow f
  let s := s.each gs (fun g t => if t.gridOf g = was g then t else t.keepGrid g (was g))
  let s := s.each gs (fun g t => t.groupSwitch g (f.holds g) (next g))
  let s := s.afterSwitch old moved written
  s.doIf f.mains (fun t => t.each gs (fun g u => u.mainsLoad new restarts g))

/-- The stored configuration a commit with PERSIST writes (R329, R437). -/
def State.storeSnapshot (s : State) : StoredCfg :=
  { format := s.flash.format, seq := 0, profile := s.cfg.profile, records := Look.records s.cfgv, hash := Look.hash s.cfgv, good := true }

/-- Every group has taken the bank (R317, R326, R329): the commit is applied and its completion posted. -/
def State.flipDone (s : State) (f : FlipSt) : State :=
  let s := { s with cfg := { s.cfg with flip := none, profile := f.profile.getD s.cfg.profile, committed := true } }
  let s := (s.bump 0x10C).setReg 0x114 0
  let s := s.doIf f.persist (fun t => ({ t with cfg := { t.cfg with storePending := some t.storeSnapshot } } : State).refuserNote)
  let s := s.traceFree 5
  let s := { s with twin := { s.twin with lateFlip := f.late && s.isStandby } }
  let s := s.doIf s.twin.lateFlip (fun t => t.addReason [Reason.config])
  let s := s.doIf (f.id.isNone && decide (s.twin.resync < 2) && s.isStandby && (s.twin.reasons.getLsbD Reason.resync || s.twin.reasons.getLsbD Reason.link)) State.followAnew
  match f.id.bind s.descOf with
  | some d =>
    let k := f.lastK.getD 0xFFFFFFFFFFFFFFFF
    s.retireOk d (two k ++ [BitVec.ofNat 32 (maskOf ([0, 1].filter f.holds)), BitVec.ofNat 32 f.frames])
  | none => s

/-- The flip at the boundaries that have come: the groups take the bank, the fields bound to none with the commit's own boundary, and the last of them ends the commit. -/
def State.flipHere (s : State) (f : FlipSt) : State :=
  let gs := [0, 1].filter (s.flipsNow f)
  let sharedNow := f.shared && s.leadReached f
  let f := { f with waitA := f.waitA && !gs.contains 0, waitB := f.waitB && !gs.contains 1, shared := f.shared && !sharedNow,
                    lastK := if sharedNow then f.lead.map (fun g => (s.grpOf g).doneK) else f.lastK }
  let s := s.doIf f.inBad State.leaveBad
  let s := s.switchGroups f gs
  let f := s.cfg.flip.getD f
  let s := if s.memError 4 = 2 then (s.memWrite 4).enterBad 4 else s.memWrite 4
  if s.cfg.flip.isSome ∧ f.waitA = false ∧ f.waitB = false ∧ f.shared = false then s.flipDone f else s

/-- CFG_FLIP (R317, R327): an armed flip takes effect where its boundaries have come; a block that does not confirm its load makes the configuration BAD. -/
def execCfgFlip (confirmed : Bool) (s : State) : Out :=
  match s.cfg.flip with
  | some f =>
    if f.armed = false ∨ f.atFrame.isSome = true then .next s
    else if s.leadReached f || [0, 1].any (s.flipsNow f) then .next (if confirmed then s.oneCycle (fun t => t.flipHere f) else s.enterBad 3)
    else .next s
  | none => .next s

/-- HELD_RESTART (R321, R322): 500 µs after its boundary a held group restarts under R40. -/
def execHeldRestart (g : Group) (s : State) : Out :=
  let n := gidx g
  if (s.grpOf n).mode = .held then
    let s := s.reachUp ((s.grpOf n).heldUp + 500000)
    .next (s.startGroup n s.now)
  else .next s

/-- LIVE_BANK_ECC (R325). -/
def execLiveBankEcc (s : State) : Out := .next (s.enterBad 4)

end Sys2Proof.Machine
end

