-- ==== Sys2Proof/Machine/ConfigTxn.lean ====
section
/-! DEFINITION. Configuration transactions (chapter 12): opening, writing, discarding (R308 to R314), commits (R315 to R323), storing (R329), and how a commit reaches the standby (R349, R359). -/

namespace Sys2Proof.Machine

open Sys2Proof

/-! ### Transactions -/

/-- A configuration opcode: a standby retires it with NOT_ACTIVE (R341, R342). -/
def State.serveCfg (s : State) (id op : Nat) (f : Desc → State → State) : Out :=
  s.serve id op (fun d s =>
    let s := s.touchTxn d
    if s.isStandby || decide (s.twin.role = .seized) then s.retireBad d 0x0601 else f d s)

/-- The shadow of a new transaction (R308, R364). -/
def State.newShadow (s : State) : Bank :=
  if s.cfg.bad then withOwned s.otp.vaultFuse [] s.sealedBank else s.cfg.live

/-- CFG_BEGIN (R308). -/
def execCfgBegin (id : Nat) (s : State) : Out :=
  s.serveCfg id 0x10 (fun d s =>
    if s.cfg.txn.isSome then s.retireBad d 0x0140
    else
      let n := s.cfg.nextId
      let t : TxnSt :=
        { id := n, shadow := s.newShadow, written := [], profile := none, persist := false,
          authorised := false, inBad := s.cfg.bad, vaultOwned := false, touchedUp := s.tm.up }
      let next := if n + 1 = 0 then 1 else n + 1
      ({ s with cfg := { s.cfg with txn := some t, nextId := next } } : State).retireOk d [n])

/-- A record of Table 12-1 read from the front of a list of words: its key, its value and what follows; none when it breaks R310 to R312. -/
def readRecord (ws : List W32) : Option (Nat × Nat × List W32) :=
  match ws with
  | a :: b :: rest =>
    match fieldRow (field a 31 16) with
    | some r =>
      let v := normValue r (ofWords (rest.take r.words))
      if field a 15 0 = r.words ∧ r.words ≤ rest.length ∧ indexOk r (field b 15 0) (field b 31 16) = true ∧ inRange r v = true then
        some (keyOf r.code (field b 15 0) (field b 31 16), v, rest.drop r.words)
      else none
    | none => none
  | _ => none

/-- Records in order (R312): keys and values, or the status and byte offset of the first that fails; locked: a record of an owned field is refused. -/
def readRecords (locked : Bool) : Nat → Nat → List W32 → List (Nat × Nat) ⊕ (Nat × Nat)
  | _, _, [] => .inl []
  | 0, off, _ => .inr (0x0120, off)
  | fuel + 1, off, w :: ws =>
    match readRecord (w :: ws) with
    | none => .inr (0x0120, off)
    | some (k, v, rest) =>
      if locked && vaultOwned (keyCode k) (keyIndex k) then .inr (0x0130, off)
      else
        match readRecords locked fuel (off + 4 * ((w :: ws).length - rest.length)) rest with
        | .inl rs => .inl ((k, v) :: rs)
        | .inr e => .inr e

/-- A record enters the shadow (R313, R328). -/
def TxnSt.put (fuse : Bool) (t : TxnSt) (k v : Nat) : TxnSt :=
  if keyCode k = Fld.cfgProfile then { t with profile := some v }
  else if keyCode k = Fld.cfgPersist then { t with persist := v == 1 }
  else { t with shadow := Bank.set fuse t.shadow k v, written := t.written ++ [k], vaultOwned := t.vaultOwned || (fuse && Sys2Proof.Machine.vaultOwned (keyCode k) (keyIndex k)) }

/-- CFG_WRITE (R310 to R314). -/
def execCfgWrite (id : Nat) (s : State) : Out :=
  s.serveCfg id 0x11 (fun d s =>
    match s.cfg.txn with
    | none => s.retireBad d 0x0150
    | some t =>
      if t.id ≠ d.p 0 then s.retireBad d 0x0150
      else if d.len % 4 ≠ 0 then s.retireBad d 0x0002
      else if s.descReadOk d d.len = false then s.dmaFailed d
      else
        let ws := wordsOf (s.descRead d d.len)
        match readRecords (s.otp.vaultFuse && !s.sealOpen && !t.authorised) ws.length 0 ws with
        | .inr e => s.retire d e.1 0 [0, BitVec.ofNat 32 e.2]
        | .inl rs =>
          let t' := rs.foldl (fun t r => t.put s.otp.vaultFuse r.1 r.2) t
          ({ s with cfg := { s.cfg with txn := some t' } } : State).retireOk d [BitVec.ofNat 32 rs.length])

/-- CFG_ROLLBACK (R314). -/
def execCfgRollback (id : Nat) (s : State) : Out :=
  s.serveCfg id 0x13 (fun d s =>
    if s.cfg.txn.any (fun t => t.id == d.p 0) then ({ s with cfg := { s.cfg with txn := none } } : State).retireOk d []
    else s.retireBad d 0x0150)

/-- A descriptor that names a transaction is held or executing (R309). -/
def State.txnNamed (s : State) (t : TxnSt) : Bool :=
  s.host.inflight.any (fun d => decide (0x11 ≤ d.op ∧ d.op ≤ 0x13) && d.p 0 == t.id)

/-- CFG_TXN_TIMEOUT (R309): 60 s after the last command that named the transaction. -/
def execCfgTxnTimeout (s : State) : Out :=
  match s.cfg.txn with
  | none => .next s
  | some t =>
    if s.txnNamed t then .next s
    else
      let s := s.reachUp (t.touchedUp + 60000000000)
      .next (({ s with cfg := { s.cfg with txn := none } } : State).raiseBare 0 false 0xFFFF)

/-! ### Commit -/

/-- The configuration a transaction asks for (R23, R328): a selected profile gives its defaults to the governed fields that were not written. -/
def TxnSt.bank (fuse : Bool) (t : TxnSt) : Bank :=
  match t.profile with
  | none => t.shadow
  | some p => profileKeys.foldl (fun b e => if t.written.contains e.2 then b else Bank.set fuse b e.2 (dfltOf fuse p e.1 (keyIndex e.2) (keySub e.2))) t.shadow

/-- A commit is refused (R315, R332). -/
def State.refuseCommit (s : State) (d : Desc) (status : Nat) (res : List W32) : State :=
  ((s.bump 0x110).setReg 0x114 (BitVec.ofNat 32 status)).retire d status 0 res

/-- The bank of a commit that has passed validation (R317, R320). -/
def State.staging (s : State) (bank : Bank) (t : Option TxnSt) (id : Option Nat) (profile : Option Nat) (written : List Nat) (persist inBad : Bool) : FlipSt :=
  let fuse := s.otp.vaultFuse
  let new : Look := Bank.get fuse bank
  let changed := changedKeys fuse s.cfg.live bank
  { id := id, staged := bank, written := written, profile := profile, persist := persist, inBad := inBad, sealing := false, armed := false,
    waitA := true, waitB := true, atA := false, atB := false, holdA := s.needsStop new changed 0, holdB := s.needsStop new changed 1,
    shared := true, lead := none, txn := t, frames := 0, lastK := none, atFrame := none, late := false,
    mains := mainsMoves s.cfgv new changed, again := mainsAgain s.cfgv new changed, sentUp := 0, counted := false }

/-- A commit changes an owned field, which a vault in FAULT keeps at its default (R371, R379). -/
def State.sealChanges (s : State) (bank : Bank) : Bool :=
  s.otp.vaultFuse && decide (s.vault.mode ≠ .fault) && (changedKeys s.otp.vaultFuse s.cfg.live bank).any (fun k => vaultOwned (keyCode k) (keyIndex k))

/-- A validated commit closes its transaction and is staged (R317, R371): a change of owned fields waits for the alibi store. -/
def State.stageCommit (s : State) (d : Desc) (t : TxnSt) (bank : Bank) : State :=
  let f := s.staging bank (some t) (some d.id) t.profile t.written t.persist t.inBad
  let owned := s.sealChanges bank
  let s := ({ s with cfg := { s.cfg with txn := none } } : State).take d.id
  if owned then
    let s := s.sealWrite bank
    { s with cfg := { s.cfg with flip := some { f with sealing := true } } }
  else s.launchFlip f

/-- A CFG_COMMIT is validated (R314 to R323, R327). -/
def State.commit (s : State) (bankOk : Bool) (d : Desc) : State :=
  match s.cfg.txn with
  | none => s.refuseCommit d 0x0150 []
  | some t =>
    if t.id ≠ d.p 0 then s.refuseCommit d 0x0150 []
    else
      let bank := t.bank s.otp.vaultFuse
      let v := s.validate bank t.authorised ((d.p 1).getLsbD 0) (d.p 2).toNat
      if v.1 ≠ 0 then s.refuseCommit d v.1 v.2
      else if bankOk = false then s.refuseCommit d 0x0160 []
      else s.stageCommit d t bank

/-- CFG_COMMIT (R315 to R319): while a group is HELD it waits. -/
def execCfgCommit (id : Nat) (bankOk : Bool) (s : State) : Out :=
  if s.anyHeld = true ∧ s.isStandby = false ∧ s.twin.role ≠ .seized then .next s else s.serveCfg id 0x12 (fun d s => s.commit bankOk d)

/-- HELD_COMMIT_VALIDATE (R319): no group is HELD any longer and the commit that waited is validated. -/
def execHeldCommitValidate (id : Nat) (bankOk : Bool) (s : State) : Out :=
  if s.anyHeld then .next s else s.serveCfg id 0x12 (fun d s => s.commit bankOk d)

/-- CRC-32C of the bank a commit leaves, as READY carries it (R349). -/
def bankCrc (fuse : Bool) (b : Bank) : W32 := crcWords (Look.records (Bank.get fuse b))

/-- The standby's bank is written: it answers READY (R349). -/
def State.sendReady (s : State) (f : FlipSt) : State :=
  ({ s with cfg := { s.cfg with waitReady := some { f with sealing := false } } } : State).sendOn 2 .twin (.cfgReady (bankCrc s.otp.vaultFuse f.staged))

/-- No sealed set waits for the alibi store any longer: the commit that waited for it goes on (R371), on a standby with READY (R349; assumption 100). -/
def State.sealStored (s : State) : State :=
  match s.cfg.flip, s.cfg.waitReady with
  | some f, w => if f.sealing then s.launchFlip f else (match w with
    | some g => if g.sealing then s.sendReady g else s
    | none => s)
  | none, some g => if g.sealing then s.sendReady g else s
  | none, none => s

/-- ALIBI_STORE_WRITE (R371, R373, R376): the oldest waiting write is in the store on every present device; a commit that waited for the sealed set goes on. It goes ahead of the engine's waiting writes and behind one in progress (R430). -/
def execAlibiStoreWrite (s : State) : Out :=
  if s.flash.writes.any (fun w => w.begun) then .next s else
  let left := s.vault.toStore.drop 1
  let s := ({ s with vault := { s.vault with toStore := left, records := trimRecords s.vault.acked s.vault.records } } : State).flashBegin
  .next (if left.all (fun e => decide (e.length ≤ 42)) then s.sealStored else s)

/-! ### Storing (R329, R437) -/

/-- The two copies of a device with a new one in place of the older (R437), numbered behind all copies a read finds. -/
def storeCopies (all cs : List StoredCfg) (c : StoredCfg) : List StoredCfg :=
  let newest := all.foldl (fun n x => max n x.seq.toNat) 0
  let c := { c with seq := BitVec.ofNat 32 (newest + 1) }
  match cs with
  | a :: b :: _ => if a.seq.toNat < b.seq.toNat then [b, c] else [a, c]
  | _ => cs ++ [c]

/-- A copy is written, device A first, then device B (R428): complete, each present device holds it in place of its older one. -/
def FlashSt.storeBoth (f : FlashSt) (c : StoredCfg) : FlashSt :=
  { f with stored := if f.presentA then storeCopies f.copies f.stored c else f.stored, storedB := if f.presentB then storeCopies f.copies f.storedB c else f.storedB }

/-- CFG_STORE_DONE (R329, R428). -/
def execCfgStoreDone (ok : Bool) (s : State) : Out :=
  match s.cfg.storePending with
  | none => .next s
  | some c =>
    if s.engineUp = false then .next s
    else
      let s := ({ s with cfg := { s.cfg with storePending := none } } : State).refuserNote
      if ok then .next { s with flash := s.flash.storeBoth c }
      else .next (s.raiseBare 1 true 0xFFFF)

/-! ### The pair (R349, R359) -/

/-- The standby stages what the active sent, or refuses it (R349); a change of owned fields first goes to its alibi store (R371). -/
def State.stageData (s : State) : State :=
  let ws := s.cfg.twinData
  let s := { s with cfg := { s.cfg with twinData := [] } }
  let fuse := s.otp.vaultFuse
  match readRecords false ws.length 0 ws with
  | .inr _ => s
  | .inl rs =>
    let t : TxnSt := { id := 0, shadow := s.cfg.live, written := [], profile := none, persist := false, authorised := false, inBad := s.cfg.bad, vaultOwned := false, touchedUp := s.tm.up }
    let t := rs.foldl (fun t r => t.put fuse r.1 r.2) t
    if (s.validate t.shadow false true 0).1 ≠ 0 then s
    else
      let f := s.staging t.shadow none none t.profile t.written false t.inBad
      if s.sealChanges t.shadow then
        let s := s.sealWrite t.shadow
        { s with cfg := { s.cfg with waitReady := some { f with sealing := true } } }
      else s.sendReady f

/-- CFG_DATA (R349): records of the active's shadow. -/
def execCfgData (records : List W32) (last : Bool) (s : State) : Out :=
  if s.inService 2 = false then .next s
  else
    let s := s.rxAccept 2
    if s.isStandby = false then .next s
    else
      let s := { s with cfg := { s.cfg with twinData := s.cfg.twinData ++ records } }
      .next (if last then s.stageData else s)

/-- F (R349): the first frame of the group that sets the boundary that starts at least 1 ms from now, on a group that runs on its schedule. -/
def State.chooseFrame (s : State) (g : Nat) : Nat := max (s.grpOf g).nextK (Look.firstK s.cfgv g (s.now + nsTq 1000000))

/-- READY has come (R349): the active chooses F and sends ARM; in event mode F is the first frame that strobes at least 1 ms later, and with no group running ARM names no frame. -/
def State.choose (s : State) (own : Bool) : State :=
  match s.leadGroup with
  | some g => if Look.scheduled s.cfgv g then s.armPair own (some (s.chooseFrame g)) else { s with cfg := { s.cfg with armAt := some (own, s.now + nsTq 1000000) } }
  | none => s.armPair own none

/-- CFG_CTRL READY (R349, R359): one whose CRC-32C is that of the shadow sent answers the active's commit, or a resync it serves; any other answers nothing that waits (assumption 101). -/
def execCfgCtrlReady (crc : W32) (s : State) : Out :=
  if s.inService 2 = false then .next s
  else
    let s := s.rxAccept 2
    if s.twin.role ≠ .active ∨ s.cfg.armAt.isSome = true then .next s
    else
      match s.cfg.waitReady with
      | some f => .next (if crc = bankCrc s.otp.vaultFuse f.staged then s.choose true else s)
      | none => .next (if s.twin.resync = 1 ∧ crc = bankCrc s.otp.vaultFuse s.cfg.live then s.choose false else s)

/-- CFG_CTRL ARM (R349): the standby flips at the boundary that ends frame F, or, when F has ended, at its next boundary. -/
def execCfgCtrlArm (frame : Nat) (s : State) : Out :=
  if s.inService 2 = false then .next s
  else
    let s := s.rxAccept 2
    match s.isStandby, s.cfg.waitReady with
    | true, some f =>
      let s := { s with cfg := { s.cfg with waitReady := none } }
      match s.leadGroup with
      | some g =>
        let x := s.grpOf g
        let ended := x.strobed && decide (frame ≤ x.doneK)
        if frame = 0xFFFFFFFFFFFFFFFF then .next (s.armFlip f none)
        else if ended then .next (s.armFlip { f with late := true } none)
        else .next (s.armFlip f (some frame))
      | none => .next (s.armFlip f none)
    | _, _ => .next s

/-- CFG_READY_TIMEOUT (R349): without READY for 50 ms the active flips alone, and gives a standby that resynchronises its configuration again (R359; assumption 101); behind READY, it sends ARM when the group whose next frame would be F runs no longer. -/
def execCfgReadyTimeout (s : State) : Out :=
  match s.cfg.armAt, s.cfg.waitReady with
  | some a, _ => .next (if s.leadGroup.isNone then s.armPair a.1 none else s)
  | none, some f =>
    if f.id.isSome then
      let s := s.reachUp (f.sentUp + 50000000)
      .next (({ s with cfg := { s.cfg with waitReady := none, dataOut := [] } } : State).armFlip f none)
    else .next s
  | none, none =>
    if s.twin.role = .active ∧ s.twin.resync = 1 then
      let s := s.reachUp (s.cfg.dataUp + 50000000)
      .next { s with twin := { s.twin with resync := 0 } }
    else .next s

end Sys2Proof.Machine
end

