-- ==== Sys2Proof/Machine/Frame.lean ====
section
/-! DEFINITION. The ready time of a frame (R33): its results enter the Hive (R164), the filter chains (R112), mains tracking (R130), statistics (R159), streams (R139), Mantis (R167 to R172), the vault (R374) and the digests of a pair (R343, R344). -/

namespace Sys2Proof.Machine

open Sys2Proof

/-- Results of a group's frame: channel, Q1.31 value, marks. -/
def State.frameResults (s : State) (chans : List Nat) : List (Nat × Int × Marks) :=
  chans.filterMap (fun i => (s.resOf i).map (fun r => (i, r.q, r.marks)))

/-- The frame enters the Hive (R164); lost: a capture loses it (R507, an injected error of Table 19-6). -/
def State.hivePut (s : State) (g : Nat) (f : FrameSt) (rs : List (Nat × Int × Marks)) : State :=
  let lost : Byte := if f.undelivered then 3 else if s.memError 0 = 2 then 4 else 0
  let h : HiveFrame := { group := groupOf g, k := f.k, edge := f.edge, epoch := f.epoch, results := rs, lost := lost }
  let s := s.memWrite 0
  { s with hive := s.hive ++ [h] }

/-- The tap outputs of a frame: channel, tap, value, marks. -/
def chainAll (s : State) (k : Nat) (rs : List (Nat × Int × Marks)) : State × List (Nat × Nat × Int × Marks) :=
  rs.foldl (fun (a : State × List (Nat × Nat × Int × Marks)) r =>
    let b := a.1.chainRun r.1 k (r.2.1, r.2.2)
    (b.1, a.2 ++ b.2.map (fun o => (r.1, o.1, o.2.1, o.2.2)))) (s, [])

/-- The reference channel's tap-0 result feeds the detector (R130). -/
def State.mainsFrame (s : State) (t : Tq) (rs : List (Nat × Int × Marks)) : State :=
  if s.cfgOn Fld.mainsEnable 0 then
    match rs.find? (fun r => r.1 == s.cfgv Fld.mainsRefInput 0 0) with
    | some r => s.mainsResult t r.2.1 r.2.2
    | none => s
  else s

/-- Outputs enter the statistics of their channels (R159, R160). -/
def State.statsFrame (s : State) (t : Nat) (epoch : BitVec 16) (outs : List (Nat × Nat × Int × Marks)) : State :=
  s.each outs (fun o a => if o.2.1 = a.cfgv Fld.statsTap o.1 0 then a.statOutput o.1 t epoch o.2.2.1 o.2.2.2 else a)

/-- One frame for each stream of the group whose channels all give an output (R139, R141). -/
def State.streamsFrame (s : State) (g : Nat) (f : FrameSt) (outs : List (Nat × Nat × Int × Marks)) : State :=
  s.each (s.streamsOf g) (fun x a =>
    let tap := a.cfgv Fld.streamTap x 0
    let chans := Look.strmChannels a.cfgv x
    let ys := chans.filterMap (fun i => (outs.find? (fun o => o.1 == i && o.2.1 == tap)).map (fun o => (o.2.2.1, o.2.2.2)))
    if ys.length = chans.length then a.appendFrame x f.k f.edge f.epoch ys else a)

/-- A core's word of a digest (Table 13-3): the sum of the codes after demodulation, the marks of its results, and an injected addition (Table 19-6). -/
def State.digestWord (s : State) (g n : Nat) : W32 :=
  let c : Look := s.cfgv
  let rs := (c.coreChannels n).filterMap (fun i => s.resOf i)
  let sum := rs.foldl (fun a r => a + r.value) 0 + (match s.injOf 11 1 n with
    | some j => j.value
    | none => 0)
  let any := fun (b : Nat) => rs.any (fun r => r.marks.getLsbD b)
  if c.coreGroup n = g ∧ rs ≠ [] then
    bitAt 31 (any 0) ||| bitAt 30 (any 1) ||| bitAt 29 (any 2) ||| bitAt 28 true ||| (BitVec.ofInt 32 sum &&& 0x00FFFFFF)
  else 0

/-- The digest of a frame (R343). -/
def State.digestOf (s : State) (g : Nat) (f : FrameSt) : DigestFrame :=
  { group := groupOf g, frame := f.k, strobeNs := BitVec.ofNat 32 (tqNs f.edge), cores := (List.range 64).map (s.digestWord g) }

/-- The standby sends its digest, the active pairs its own (R343, R344). -/
def State.digestFrame (s : State) (g : Nat) (f : FrameSt) : State :=
  let d := s.digestOf g f
  let used := (Look.coresIn s.cfgv g).filter (fun n => (s.injOf 11 1 n).isSome)
  let s := if used.isEmpty then s else { s with twin := { s.twin with sumInj := some s.tm.up } }
  if s.isStandby then (s.sendOn 2 .twin (.digest d)).each used (fun n t => t.useInj 11 1 n)
  else if s.twin.role = .active ∧ (s.partnerRole .standby || s.partnerRole .standbyUnfit) = true then (s.digestOwn d).each used (fun n t => t.useInj 11 1 n)
  else s

/-- A frame is delivered to everything that takes results. -/
def State.frameDeliver (s : State) (g : Nat) (f : FrameSt) (rs : List (Nat × Int × Marks)) : State :=
  let r := chainAll s f.k rs
  let outs := r.2
  let s := (r.1.mainsFrame f.edge rs).statsFrame (tqNs f.edge) f.epoch outs
  let s := (s.streamsFrame g f outs).condFrame g outs f.edge
  let s := (s.trigFrame g f.edge).vaultFrame g (tqNs f.edge) f.epoch outs
  s.digestFrame g f

/-- What the ready time of a frame brings, in one core clock cycle. -/
def State.frameReady (s : State) (n : Nat) (f : FrameSt) : State :=
  let chans := Look.groupChannels s.cfgv n
  let s := s.each (Look.coresIn s.cfgv n) (fun k t => t.finishScan f k)
  let rs := s.frameResults chans
  let s := s.hivePut n f rs
  let s := if f.undelivered then s else s.frameDeliver n f rs
  let s := s.each rs (fun r t => t.reversal r.1 r.2.1)
  let due := s.grpOf n
  let s := s.updGrp n (fun x => { x with frame := none, doneK := f.k, lastSlots := f.nMax, diagLast := f.diag, resetDue := false, closeDue := false })
  let s := s.doIf due.closeDue (fun t => t.closeStreams (t.streamsOf n))
  let s := s.doIf due.resetDue (fun t => t.groupAnew n)
  let s := (((s.mainsBoundary n).loseDeferred n).followCuts).copyJobs
  let s := s.hiveFit
  s.flipBoundary n f.k

/-- FRAME_READY (R33): the frame in hand completes; what waited for the boundary follows. -/
def execFrameReady (g : Group) (s : State) : Out :=
  let n := gidx g
  match (s.grpOf n).frame with
  | none => .next s
  | some f => .next ((s.reachUp f.dueUp).oneCycle (fun t => t.frameReady n f))

end Sys2Proof.Machine
end

