-- ==== Sys2Proof/Machine/Reset.lean ====
section
/-! DEFINITION. Resets (R10 to R13, Table 12-4): what POR and WARM load and what they leave. -/

namespace Sys2Proof.Machine

open Sys2Proof

/-- Registers WARM leaves alone: those whose Reset column names P or V only (Tables 14-7, 15-7, 16-8, 17-11, 19-7). -/
def warmKeeps (a : Nat) : Bool :=
  decide ((0x1000 ≤ a ∧ a < 0x2000) ∨ (0x60000 ≤ a ∧ a < 0x61000) ∨ (0x68060 ≤ a ∧ a < 0x68080) ∨ (0x74000 ≤ a ∧ a < 0x75000)
    ∨ (0x7C000 ≤ a ∧ a < 0x7D000) ∨ (0x7E000 ≤ a ∧ a < 0x7F000))

/-- Of SVETRON_STATUS, WARM leaves SB_AUTH_SEEN alone (Table 15-9). -/
def State.warmRegs (s : State) : Cells W32 :=
  let kept := s.regs.filter (fun e => warmKeeps e.1)
  Cells.set resetWord kept Reg.svStatus (s.reg Reg.svStatus &&& 0x4000)

/-- Svetron after POR: owner material and counters are non-volatile, session and challenge are drawn anew (R390, R396). -/
def SvSt.powerUp (v : SvSt) : SvSt :=
  { SvSt.init with owned := v.owned, ownerKey := v.ownerKey, metrology := v.metrology, endorsement := v.endorsement, policy := v.policy,
                   ownerGen := v.ownerGen, svn := v.svn, eventCount := v.eventCount, sbKey := v.sbKey, session := v.draws, challenge := v.draws + 1, draws := v.draws + 2 }

/-- Svetron after WARM (Table 15-7): what the Cricket domain holds stays. -/
def SvSt.warm (v : SvSt) : SvSt :=
  { v with challenge := v.draws, draws := v.draws + 1, badSigs := 0, backoff := none, injectOpen := false, requests := [], goWaits := none }

/-- The vault after power was off: the alibi store is what reached the flash (R376, R379). -/
def VaultSt.powerUp (v : VaultSt) : VaultSt :=
  let lost := v.toStore
  { VaultSt.init with sealed := v.sealed, sealedGood := v.sealedGood, imageVersion := v.imageVersion, imageCrc := v.imageCrc, imageDigest := v.imageDigest,
                      records := v.records.filter (fun r => !lost.contains r.2), audit := v.audit.filter (fun e => !lost.contains e), acked := v.acked }

/-- The flash port after a reset: what the devices hold stays. -/
def FlashSt.restart (f : FlashSt) : FlashSt :=
  { f with presentA := false, presentB := false, io := 0, staged := 0, writes := [], pauseUp := none, trialUp := 0, clk := 0, pageA := 256, pageB := 256, stageBad := false, selfTest := false }

/-- The state POR leaves (R10): the whole part starts again but for what is not volatile. -/
def State.porState (s : State) : State :=
  let s := s.unstage true
  { State.reset with
    otp := s.otp, pads := { PadSt.init with perst := s.pads.perst }, boot := { BootSt.init with stage := 1, vaultDue := true },
    host := { HostSt.init with mem := s.host.mem, bad := s.host.bad }, sv := s.sv.powerUp, vault := s.vault.powerUp, flash := s.flash.restart,
    freeCtr := s.freeCtr, pending := s.pending }

/-- The live configuration after WARM (Table 12-4): Balanced defaults with the sealed set. -/
def State.warmLive (s : State) : Bank :=
  if s.otp.vaultFuse then withOwned true [] s.sealedBank else []

/-- The configuration in HIBERNATE: that of the pins stays in the Cricket domain (R415). -/
def State.pinBank (s : State) : Bank :=
  (s.cfg.live.filter (fun e => decide (Fld.pinFunc ≤ keyCode e.1 ∧ keyCode e.1 ≤ Fld.pinOpenDrain))).foldl (fun b e => Bank.set s.otp.vaultFuse b e.1 e.2) s.warmLive

/-- The state WARM leaves at the start of step 2 (R10, R217, Table 12-4): the Cricket domain and the vault go on; open weighing intervals end (R374). -/
def State.warmState (s : State) (src : ResetSource) : State :=
  let s := (s.unstage true).interruptWeighing [0, 1, 2, 3]
  { State.reset with
    tm := { TimeSt.init with cricket := s.tm.cricket, cricketSub := s.tm.cricketSub, age := s.tm.age }, otp := s.otp,
    pads := { s.pads with parked := 0, due := 0, func := [], edgeAt := [], pcieUp := false },
    boot := { BootSt.init with stage := 2, vaultDue := s.boot.vaultDue, warmCause := some src, fromHib := s.boot.fromHib && decide (s.pwr.mode = .hibExit), strapB := s.boot.strapB, overruns := s.boot.overruns },
    regs := s.warmRegs, host := { HostSt.init with mem := s.host.mem, bad := s.host.bad },
    cfg := { CfgSt.init with nextId := s.cfg.nextId, live := s.warmLive },
    vault := s.vault, sv := s.sv.warm, pwr := s.pwr, sb := { s.sb with descBusy := false, endUp := none }, flash := s.flash.restart, trace := s.trace,
    log := { s.log with handling := [], fatal := false, msiUp := none, msiDue := false }, freeCtr := s.freeCtr, pending := s.pending }

/-- POR (R10, R444, R450). -/
def execPor (s : State) : Out := .next s.porState

/-- A WARM is taken (R10, R445, R450): during step 1 it is latched; in HIBERNATE there is nothing it reaches; an entry into HIBERNATE and DOZE end. It finds rails whose enable is high in regulation, so step 2 ends at once. -/
def State.warmTake (s : State) (src : ResetSource) : State :=
  if s.boot.stage = 0 ∨ s.pwr.mode = .hibernate then s
  else if s.boot.stage = 1 then { s with boot := { s.boot with warmLatched := some src } }
  else
    let s := s.leaveDoze
    let s := if s.pwr.mode = .hibEntry then s.powerMode .run else s
    let up := s.pads.enDig && !decide (s.pwr.mode = .hibExit)
    let t := s.warmState src
    { t with pads := { t.pads with enDig := true }, pwr := { t.pwr with wakeTimer := if t.pwr.mode = .hibExit then t.pwr.wakeTimer else none, committed := false, arose := 0 },
             boot := { t.boot with stage := if up then 3 else 2 } }

/-- WARM (R10). -/
def execWarm (src : ResetSource) (s : State) : Out := .next (s.warmTake src)

/-- HUB_CTRL (R477): the key and bit 0 request a WARM. -/
def execHubCtrl (v : W32) (path : Path) (s : State) : Out :=
  if field v 31 16 = 0xA55A ∧ v.getLsbD 0 = true then
    .next (s.warmTake (match path with
      | .host => .host
      | .sideband => .sideband))
  else .next s

end Sys2Proof.Machine
end

