-- ==== Sys2Proof/Machine/Power.lean ====
section
/-! DEFINITION. Power (chapter 16): Doze (R404 to R406), Hibernate entry and exit (R408 to R411), wake sources (R414, R276), and the clocks' status (R478). -/

namespace Sys2Proof.Machine

open Sys2Proof

/-! ### Doze (R404 to R406) -/

/-- RUN or DOZE, as R404 says, at a moment when no burst is in progress; a return to RUN lets every clock run. -/
def State.dozeTurn (s : State) : State :=
  let s := s.dozeOnset
  let doze := s.burst && (s.refusers false).isEmpty
  if s.pwr.mode = .run ∧ doze = true then (s.powerMode .doze).traceMark 0xF3
  else if doze then s
  else s.leaveDoze

/-- Scheduled needs from now on (R405): the next frame of a group with its earliest pulse, the next doorbell poll, the next interval end. -/
def State.needs (s : State) : List Tq :=
  let c : Look := s.cfgv
  let frame := fun g =>
    if c.scheduled g && decide ((s.grpOf g).mode = .running ∨ (s.grpOf g).mode = .waitingStart) then
      [c.edgeT g (s.grpOf g).nextK - nsTq (c.longestLead g)]
    else []
  let poll := if (s.reg 0x4008).toNat = 0 then [] else [s.now + nsTq (s.host.pollUp + (s.reg 0x4008).toNat * 1000 - s.tm.up)]
  frame 0 ++ frame 1 ++ poll ++ [nsTq ((s.nowNs / s.statInterval + 1) * s.statInterval)]

/-- A group is in event mode (R406). -/
def State.eventGroup (s : State) : Bool := [0, 1].any (fun g => !Look.scheduled s.cfgv g && decide ((s.grpOf g).mode ≠ .stopped))

/-- Only gating applies (R406): a twin, a group in event mode, a busy lane or a busy DMA transfer, reads of the doorbell page and of descriptors among them. -/
def State.pllsStay (s : State) : Bool :=
  s.twinned || s.eventGroup || s.comp.lanes.any (fun l => decide (l ≠ .free)) || s.host.fetching || (s.canDma && s.fetchRing.isSome) || !s.mantis.jobs.isEmpty

/-- The fast PLLs may stop (R405): the next scheduled need lies at least 100 µs ahead. -/
def State.needsFar (s : State) : Bool := s.needs.all (fun t => decide (s.now + nsTq 100000 ≤ t))

/-- BURST_END (R404 to R406): once no burst is in progress the power state follows; in DOZE without pending work the fast PLLs stop when no need lies within 100 µs, and are gated otherwise, the converter clock only while no group is in event mode. -/
def execBurstEnd (s : State) : Out :=
  if s.bursting then .next s.dozeOnset
  else
    let s := s.dozeTurn
    if s.pwr.mode ≠ .doze ∨ s.pwr.pllFrom.isSome = true then .next s
    else if !s.pllsStay && s.needsFar then .next { s with pwr := { s.pwr with pllFrom := some s.tm.age, gated := false, gatedCnv := false } }
    else .next { s with pwr := { s.pwr with gated := true, gatedCnv := !s.eventGroup } }

/-- The first scheduled need. -/
def State.nextNeed (s : State) : Option Tq :=
  s.needs.foldl (fun m t => some (match m with
    | some u => min u t
    | none => t)) none

/-- PLL_RESTART (R405): 40 µs before the first scheduled need stopped PLLs start. -/
def execPllRestart (s : State) : Out :=
  match s.pwr.pllFrom, s.nextNeed with
  | some _, some t => .next (s.reach (t - nsTq 40000)).pllRun
  | _, _ => .next s

/-! ### Hibernate (R408 to R411) -/

/-- The commit point of an entry has come (Table 16-2, assumption 60). -/
def State.pastCommit (s : State) : Bool := decide (s.pwr.entryUp + 200000 ≤ s.tm.up)

/-- HIBERNATE (R408, R409): refused, or step 0 of the entry begins and the wake timer starts (R414). -/
def State.hibRequest (s : State) : State :=
  if s.pwr.mode ≠ .run ∧ s.pwr.mode ≠ .doze then s
  else
    let rs := s.refusers true
    if rs.isEmpty then
      let left := s.pwr.mode
      let gs := [0, 1].filter (fun g => decide ((s.grpOf g).mode ≠ .stopped))
      let timer := s.reg 0x1010
      let s := s.leaveDoze.powerMode .hibEntry
      let s := { s with pwr := { s.pwr with leftMode := left, entryUp := s.tm.up, latched := 0, stopped := gs.map groupOf, committed := false, arose := 0,
                                            wakeTimer := if timer = 0 then none else some (s.tm.cricket + timer) } }
      s.each gs (fun g t => t.stopGroup g .stopped)
    else
      let s := s.countRefusals rs
      { s with pwr := { s.pwr with lastResult := 2 } }

/-- A request of the other path in the same core clock cycle (R408). -/
def State.hibTwice (s : State) (path : Path) : Bool := s.pwr.reqUp.any (fun r => decide (r.1 = s.tm.up ∧ r.2 ≠ path))

/-- A write of 1 to PWR_CTRL.HIBERNATE (R408); requests from both paths in one core clock cycle count as one. -/
def State.hibAsk (s : State) (path : Path) : State :=
  if s.hibTwice path then s else ({ s with pwr := { s.pwr with reqUp := some (s.tm.up, path) } } : State).hibRequest

/-- HIBERNATE (R408). -/
def execHibernate (path : Path) (s : State) : Out := .next (s.hibAsk path)

/-- An entry is aborted (R410); a return to DOZE comes from no RUN and has no marker (R411). While the configuration is BAD no group runs (R325). -/
def State.hibAbort (s : State) : State :=
  let gs := s.pwr.stopped
  let left := s.pwr.leftMode
  let s := (s.powerMode left).setBit Reg.pwrStatus 9
  let s := { s with pwr := { s.pwr with lastResult := 3, stopped := [], wakeTimer := none, arose := 0 } }
  s.each gs (fun g t => if (t.grpOf (gidx g)).mode = .stopped ∧ t.log.fatal = false ∧ t.cfg.bad = false then t.startGroup (gidx g) t.now else t)

/-- Step 1 of Table 16-2, the commit point (R409, R439): the entry marker is written, and the PCI Express link and the ports go down. -/
def State.hibCommit (s : State) : State :=
  let s := (s.reachUp (s.pwr.entryUp + 200000)).traceMark 0xF1
  { s with pwr := { s.pwr with committed := true }, pads := { s.pads with pcieUp := false }, link := State.reset.link }

/-- Refusers that have arisen before the commit point. -/
def State.hibArisen (s : State) : List Nat := [0, 1, 2, 3, 4, 5].filter (fun r => s.pwr.arose.getLsbD r || s.refuses true r)

/-- An entry before its commit point (R410, R413): refusers that have arisen are counted and abort it. -/
def State.hibRefused (s : State) : State :=
  let rs := s.hibArisen
  if s.pwr.mode ≠ .hibEntry ∨ s.pwr.committed = true ∨ rs.isEmpty = true then s
  else (s.each rs (fun r t => t.bump (0x1040 + 4 * r))).hibAbort

/-- An entry as time goes on: a refuser aborts it, and after 200 µs it is past its commit point. -/
def State.hibWatch (s : State) : State :=
  let s := s.hibRefused
  if s.pwr.mode = .hibEntry ∧ s.pwr.committed = false ∧ s.pastCommit = true then s.hibCommit else s

/-- HIBERNATE ends on wake sources (R411): both enables rise, and the domains that were off go through the WARM sequence. A source other than PERST# asserts WAKE# until PERST_DEASSERT; one in the Cricket clock of PERST# does not (assumption 112). -/
def State.wakeUp (s : State) (bits : W32) : State :=
  let s := s.quietMode .hibExit
  let boot := { BootSt.init with stage := 2, vaultDue := true, warmCause := some .hibExit, fromHib := true, strapB := s.boot.strapB }
  let pads := { s.pads with enDig := true, enAna := true, wakeOut := !bits.getLsbD 5, func := [], parked := 0, due := 0, edgeAt := [] }
  { s with boot := boot, pads := pads, cfg := { s.cfg with live := s.warmLive }, vault := { s.vault with mode := .starting }, pwr := { s.pwr with lastWake := bits, wakeAt := s.tm.cricket, latched := 0 } }

/-- Wake sources fire (R410, R411, R414): those that are enabled abort an entry, are latched behind its commit point, or end HIBERNATE; one that fires in the Cricket clock of the wake is recorded with it. -/
def State.wakeFire (s : State) (bits : W32) : State :=
  let s := s.hibWatch
  let on := bits &&& s.reg 0x1008
  if on = 0 then s
  else
    match s.pwr.mode with
    | .hibEntry =>
      if s.pwr.committed then { s with pwr := { s.pwr with latched := s.pwr.latched ||| on } }
      else (s.bump 0x1058).hibAbort
    | .hibernate => s.wakeUp on
    | .hibExit => if s.pwr.wakeAt = s.tm.cricket then { s with pwr := { s.pwr with lastWake := s.pwr.lastWake ||| on } } else s
    | _ => s

/-- HIBERNATE begins (R409, R411, R415, R416): every domain but the Cricket domain is off and holds nothing; the pins keep their configuration, and the fast clocks stop. -/
def State.hibEnter (s : State) : State :=
  let latched := s.pwr.latched
  let pads := s.pads
  let pinOut := s.reg 0x78088
  let live := s.pinBank
  let s := (s.quietMode .hibernate).warmState .hibExit
  let s := { s with boot := { s.boot with stage := 0 }, cfg := { s.cfg with live := live },
                    pads := { s.pads with enDig := false, enAna := false, func := pads.func, parked := pads.parked, due := pads.due, edgeAt := pads.edgeAt } }
  let pwr := { s.pwr with lastResult := 1, latched := 0, stopped := [], committed := false, arose := 0, pllFrom := some s.tm.age }
  let s := { s with pwr := pwr, vault := { s.vault.powerUp with mode := .off, toStore := s.vault.toStore, records := s.vault.records, audit := s.vault.audit } }
  let s := (s.setReg 0x78088 pinOut).vaultRegsReset.bump 0x105C
  if latched = 0 then s else s.wakeUp latched

/-- HIB_ENTRY_DONE (R409, R410): the last step of the entry, unless a refuser that arose before the commit point has aborted it. -/
def execHibEntryDone (s : State) : Out :=
  let s := s.hibRefused
  if s.pwr.mode ≠ .hibEntry then .next s
  else .next (if s.pwr.committed then s else s.hibCommit).hibEnter

/-- HIB_SUPPLY_TIMEOUT (R411): both enables go low again and the hub stays in HIBERNATE. -/
def State.hibSupply (s : State) : State :=
  let s := (s.quietMode .hibernate).setBit Reg.pwrStatus 10
  { s with boot := { BootSt.init with strapB := s.boot.strapB }, pads := { s.pads with enDig := false, enAna := false }, vault := { s.vault with mode := .off } }

/-- HIB_SUPPLY_TIMEOUT. -/
def execHibSupplyTimeout (s : State) : Out :=
  if s.pwr.mode = .hibExit ∧ s.boot.stage = 2 then .next s.hibSupply else .next s

/-! ### Wake sources (R414) -/

/-- WAKE: a side-band write of 1 to PWR_CTRL.WAKE. -/
def execWake (s : State) : Out := .next (s.wakeFire 0x10)

/-- WAKE_TIMER: the timer counts down to 0. -/
def execWakeTimer (s : State) : Out :=
  match s.pwr.wakeTimer with
  | some due =>
    let s := s.reachCricket due
    .next (({ s with pwr := { s.pwr with wakeTimer := none } } : State).wakeFire 0x40)
  | none => .next s

/-- WAKE_GPIO: an edge on the pin PWR_WAKE_GPIO names, once settled, fires when it is the edge chosen there. -/
def execWakeGpio (e : WakeEdge) (s : State) : Out :=
  let w := s.reg 0x100C
  let k := if e.pinB then field w 12 8 else field w 4 0
  let falls := w.getLsbD (if e.pinB then 15 else 7)
  if s.pads.settled.getLsbD k && (e.rising != falls) then .next (s.wakeFire (if e.pinB then 0x200 else 0x100)) else .next s

/-- PERST_DEASSERT (R411, R414). -/
def execPerstDeassert (s : State) : Out :=
  .next (({ s with pads := { s.pads with perst := false, wakeOut := false } } : State).wakeFire 0x20)

/-- CHIRP_RECOGNISED (R276, R278): the wake source fires, and a sleeping port wakes. -/
def execChirpRecognised (c : ClockSamples) (s : State) : Out :=
  let n := pidx c.port
  if chirpIn c.samples = false then .next s else
  let s := if s.pads.enDig then s.setBit (Reg.link n 0) 15 else s
  let s := if (s.linkOf n).mode = .sleep then s.linkDetect n else s
  .next (s.wakeFire (BitVec.ofNat 32 (2 ^ n)))

/-! ### Clocks (R478) -/

/-- REFCLK_LOSS. -/
def execRefclkLoss (s : State) : Out := .next (s.setBit Reg.clkStatus 8)

/-- PLL_UNLOCK. -/
def execPllUnlock (converter : Bool) (s : State) : Out := .next (s.setBit Reg.clkStatus (if converter then 10 else 9))

end Sys2Proof.Machine
end

