-- ==== Sys2Proof/Machine/Flash.lean ====
section
/-! DEFINITION. The flash port (R428 to R430), firmware update (R401, R431 to R436), migration of the stored configuration (R437), the engine's restarts (R465) and its return (R16, R133), and TRACE_POP (R441). -/

namespace Sys2Proof.Machine

open Sys2Proof

/-! ### The devices -/

/-- Bytes written upward. -/
def flashPut (m : List Host.Cell) (a : Nat) : List Byte → List Host.Cell
  | [] => m
  | b :: bs => flashPut (Cells.set flashByte m a b) (a + 1) bs

/-- What is left of programmed ranges when one range is erased. -/
def rangesLess (second : Bool) (a n : Nat) (rs : List (Bool × Nat × Nat)) : List (Bool × Nat × Nat) :=
  rs.flatMap (fun r =>
    if r.1 ≠ second then [r]
    else
      let lo := r.2.1
      let hi := lo + r.2.2
      (if lo < a then [(second, lo, min hi a - lo)] else []) ++ (if a + n < hi then [(second, max lo (a + n), hi - max lo (a + n))] else []))

/-- n bytes are erased. -/
def FlashSt.erase (f : FlashSt) (second : Bool) (a n : Nat) : FlashSt :=
  { f.setMem second ((f.mem second).filter (fun c => !decide (a ≤ c.1 ∧ c.1 < a + n))) with written := rangesLess second a n f.written }

/-- Bytes are programmed. -/
def FlashSt.program (f : FlashSt) (second : Bool) (a : Nat) (bs : List Byte) : FlashSt :=
  { f.setMem second (flashPut (f.mem second) a bs) with written := f.written ++ (if bs.isEmpty then [] else [(second, a, bs.length)]) }

/-- The hub discards a write of n bytes (R429): the running slot, the vault's regions, bytes not erased, bytes a waiting write programs first. -/
def FlashSt.denies (f : FlashSt) (second : Bool) (a n : Nat) : Bool :=
  let hits := fun lo hi => decide (a < hi ∧ lo < a + n)
  (decide (second = f.runningB) && hits 0 0xA00000) || hits 0xA40000 0xA80000 || hits 0xC00000 0x1700000
    || f.written.any (fun r => decide (r.1 = second) && hits r.2.1 (r.2.1 + r.2.2))
    || f.writes.any (fun w => decide (w.second = second) && hits w.offset (w.offset + w.data.length))

/-! ### The stored configuration in flash (R428, R437) -/

/-- Words 0-14 of a copy's header. -/
def StoredCfg.head (c : StoredCfg) : List W32 :=
  [at_ 16 0x5A4B ||| at_ 0 (c.format % 65536), c.seq, at_ 0 (4 * c.records.length)] ++ wordsOf c.hash ++ [at_ 0 (c.profile % 4), 0, 0, 0]

/-- The CRC-32C in word 15. -/
def StoredCfg.crc (c : StoredCfg) : W32 := crc32c (wordBytes (c.head ++ c.records))

/-- A copy as it lies in flash; one whose CRC-32C is bad shows another word 15. -/
def StoredCfg.copy (c : StoredCfg) : List W32 := c.head ++ [if c.good then c.crc else ~~~ c.crc] ++ c.records

/-- The copies a device holds (R428). -/
def FlashSt.storedOn (f : FlashSt) (second : Bool) : List StoredCfg := if second then f.storedB else f.stored

/-- The copy at a place of a device's region: successive copies alternate (assumption 23). -/
def FlashSt.storedAt (f : FlashSt) (second : Bool) (place : Nat) : Option StoredCfg := (f.storedOn second).find? (fun c => decide (c.seq.toNat % 2 = place))

/-- A byte of a device's stored-configuration region. -/
def FlashSt.storedByte (f : FlashSt) (second : Bool) (i : Nat) : Byte :=
  match f.storedAt second (i / 131072) with
  | some c => ((wordBytes c.copy)[i % 131072]?).getD 0xFF
  | none => 0xFF

/-- A byte of the weight records' region: a record lies at its VSEQ modulo 65,536 (Table 17-5; assumption 107). -/
def State.recordByte (s : State) (i : Nat) : Byte :=
  match s.vault.records.reverse.find? (fun r => decide (r.1.toNat % 65536 = i / 168) && !s.vault.toStore.contains r.2) with
  | some r => ((wordBytes r.2)[i % 168]?).getD 0xFF
  | none => 0xFF

/-- A byte of the engine's 64 MiB window (R429): device A below 32 MiB, device B from there. Where the audit trail and the sealed set lie in their region is not stated: its bytes are free (assumption 107). -/
def State.windowByte (s : State) (offset : Nat) : Byte :=
  let second := decide (33554432 ≤ offset)
  let a := offset % 33554432
  if 0xA00000 ≤ a ∧ a < 0xA40000 then s.flash.storedByte second (a - 0xA00000)
  else if s.otp.vaultFuse = true ∧ 0xA40000 ≤ a ∧ a < 0xA80000 then BitVec.setWidth 8 (Config.freeWord offset)
  else if s.otp.vaultFuse = true ∧ 0xC00000 ≤ a ∧ a < 0x1680000 then s.recordByte (a - 0xC00000)
  else Cells.get flashByte (s.flash.mem second) a

/-! ### Programs (R429, R430) -/

/-- Page size of a device (R427). -/
def FlashSt.page (f : FlashSt) (second : Bool) : Nat := max 4 (if second then f.pageB else f.pageA)

/-- A write joins the queue of its device (R429): the gathering command's own last write grows while the run goes on inside one page; fresh: the first of its run. -/
def FlashSt.gather (f : FlashSt) (fresh second : Bool) (a : Nat) (bs : List Byte) : FlashSt :=
  match f.writes.getLast? with
  | some w =>
    if fresh = false ∧ w.begun = false ∧ w.second = second ∧ w.offset + w.data.length = a ∧ w.offset / f.page second = a / f.page second then
      { f with writes := f.writes.dropLast ++ [{ w with data := w.data ++ bs }] }
    else { f with writes := f.writes ++ [⟨second, a, bs, false⟩] }
  | none => { f with writes := [⟨second, a, bs, false⟩] }

/-- Aligned 32-bit writes of the engine, one behind the other (R429): each that hits a refused range is discarded and counted, the others are gathered. -/
def flashWrites : Nat → Bool → Nat → List Byte → State → State
  | 0, _, _, _, s => s
  | _ + 1, _, _, [], s => s
  | n + 1, fresh, offset, b :: bs, s =>
    let k := 4 - offset % 4
    let w := (b :: bs).take k
    let second := decide (33554432 ≤ offset)
    let a := offset % 33554432
    if 67108864 ≤ offset then s
    else if s.flash.denies second a w.length then flashWrites n true (offset + k) ((b :: bs).drop k) (s.bump 0x70008)
    else flashWrites n false (offset + k) ((b :: bs).drop k) { s with flash := s.flash.gather fresh second a w }

/-- FLASH_PROGRAM (R429, R430): gathered writes of the engine into its window become page programs, each within one page, or are discarded. -/
def execFlashProgram (offset : Nat) (data : List Byte) (s : State) : Out :=
  if s.boot.engine ≠ .up ∨ 67108864 ≤ offset ∨ data = [] then .next s
  else .next (flashWrites data.length true offset data s).flashBegin

/-- Remove the oldest waiting write of a device. -/
def dropWrite (second : Bool) : List FlashWrite → List FlashWrite
  | [] => []
  | w :: ws => if w.second = second then ws else w :: dropWrite second ws

/-- n bytes of which the manual says nothing. -/
def freeBytes (ctr n : Nat) : List Byte := (List.range n).map (fun i => BitVec.setWidth 8 (Config.freeWord (ctr + i)))

/-- FLASH_PROG_FAIL counts a program that failed (R429). -/
def State.progFail (s : State) : State := ((s.bump 0x70004).setBit Reg.flashStatus 8).raise (errAt 1 Reg.flashStatus 8 0xFFFF)

/-- A program of the chunk an FW_STAGE in flight writes into the idle slot fails (R429, R433; assumption 108). -/
def State.stageFail (s : State) (second : Bool) : State :=
  if second ≠ s.flash.runningB ∧ s.host.inflight.any (fun d => decide (d.op = 0x50) && decide (d.bad = 0)) = true then
    ({ s with flash := { s.flash with stageBad := true } } : State).progFail
  else s

/-- FLASH_PROGRAM_DONE (R429, R430, R433): the program a device has in progress ends; after a timeout or a mismatch what its bytes hold is not known. With none of the engine's writes on the device, one that fails is a program of FW_STAGE. -/
def execFlashProgramDone (second ok : Bool) (s : State) : Out :=
  match s.flash.writes.find? (fun w => w.second == second) with
  | none => .next (if ok then s else s.stageFail second)
  | some w =>
    if w.begun = false then .next s
    else
      let s := ({ s with flash := { s.flash with writes := dropWrite second s.flash.writes } } : State).flashBegin
      if ok && s.flash.present second then .next { s with flash := s.flash.program second w.offset w.data }
      else
        let bs := freeBytes s.freeCtr w.data.length
        let s := { s with flash := s.flash.program second w.offset bs, freeCtr := s.freeCtr + w.data.length }
        .next s.progFail

/-- FLASH_ERASE_DONE (R429): a 4 KiB or 64 KiB sector is erased. -/
def execFlashEraseDone (second : Bool) (offset : Nat) (large : Bool) (s : State) : Out :=
  let n := if large then 65536 else 4096
  .next { s with flash := s.flash.erase second (offset / n * n) n }

/-! ### Images (R401, R431) -/

/-- State of a slot. -/
def FlashSt.slot (f : FlashSt) (second : Bool) : SlotMode := if second then f.slotB else f.slotA

/-- Set the state of a slot. -/
def FlashSt.setSlot (f : FlashSt) (second : Bool) (m : SlotMode) : FlashSt := if second then { f with slotB := m } else { f with slotA := m }

/-- A slot's image is verified (R401): the status that refuses it, 0 when it passes. -/
def State.verifySlot (s : State) (second : Bool) : Nat :=
  if s.imageSigned second = false then 0x0703
  else if hdr (s.imageHeader second) 8 < s.sv.svn.toNat then 0x0704
  else if s.imageDigests second = false then 0x0705
  else 0

/-! ### FW_STAGE (R433) -/

/-- The package would exceed a region once n bytes of it are there. -/
def tooLarge (h : List Byte) (n : Nat) : Bool :=
  decide (16 ≤ n ∧ 8388096 < hdr h 12) || decide (20 ≤ n ∧ 2097152 < hdr h 16) || decide (16 ≤ n ∧ 512 + hdr h 12 + 2097152 < n)

/-- Bytes go to a place of the slot, each 4 KiB sector erased as staging reaches its start. -/
def FlashSt.stagePut (f : FlashSt) (second : Bool) (a : Nat) (bs : List Byte) : FlashSt :=
  let first := (a + 4095) / 4096
  let sectors := (List.range ((a + bs.length + 4095) / 4096 - first)).map (fun i => first + i)
  (sectors.foldl (fun (g : FlashSt) i => g.erase second (4096 * i) 4096) f).program second a bs

/-- A chunk of the package at an offset goes to the management region and, behind the management body, to the vault region of the slot. -/
def FlashSt.stageChunk (f : FlashSt) (second : Bool) (h : List Byte) (off : Nat) (bs : List Byte) : FlashSt :=
  let edge := if 16 ≤ h.length then 512 + hdr h 12 else 512
  let n := edge - off
  let f := if (bs.take n).isEmpty then f else f.stagePut second off (bs.take n)
  if (bs.drop n).isEmpty then f else f.stagePut second (0x800000 + (off + n - edge)) (bs.drop n)

/-- The slot that is not running. -/
def FlashSt.idle (f : FlashSt) : Bool := !f.runningB

/-- The last chunk: the slot is read back and verified. -/
def State.stageLast (s : State) (d : Desc) (total : Nat) : State :=
  let second := s.flash.idle
  let h := s.imageHeader second
  let st := s.verifySlot second
  let st := if st = 0 ∧ total ≠ 512 + hdr h 12 + hdr h 16 then 0x0705 else st
  if st = 0 then ({ s with flash := s.flash.setSlot second .staged } : State).refuserNote.retireOk d [BitVec.ofNat 32 total, BitVec.ofNat 32 (hdr h 4)]
  else ({ s with flash := { s.flash.setSlot second .empty with staged := 0 } } : State).refuserNote.retireBad d st

/-- A program, erase or read-back of the chunk failed (R433, Table 17-8): the slot takes no more of it; with the last chunk it becomes EMPTY. -/
def State.stageLost (s : State) (d : Desc) (last : Bool) : State :=
  let s := { s with flash := { s.flash with stageBad := false } }
  let s := if last then { s with flash := { s.flash.setSlot s.flash.idle .empty with staged := 0 } } else s
  s.refuserNote.retireBad d 0x0706

/-- FW_STAGE (R433). -/
def execFwStage (id : Nat) (s : State) : Out :=
  s.serve id 0x50 (fun d s =>
    let p0 := (d.p 0).toNat
    let total := p0 + d.len
    let second := s.flash.idle
    if d.len % 4 ≠ 0 ∨ 65536 < d.len then s.retireBad d 0x0002
    else if s.flash.trial then s.retireBad d 0x0708
    else if p0 ≠ 0 ∧ p0 ≠ s.flash.staged then s.retireBad d 0x0701
    else if s.descReadOk d d.len = false then s.dmaFailed d
    else
      let bs := s.descRead d d.len
      let h := ((s.imageHeader second).take (min p0 332) ++ (bs.take (332 - p0))).take (min total 332)
      if tooLarge h total then s.retireBad d 0x0702
      else if s.flash.present second = false then s.retireBad d 0x0706
      else if s.flash.stageBad then s.stageLost d ((d.p 1).getLsbD 0)
      else
        let s := ({ s with flash := { (s.flash.stageChunk second h p0 bs).setSlot second .staging with staged := total } } : State).refuserNote
        if (d.p 1).getLsbD 0 then s.stageLast d total else s.retireOk d [BitVec.ofNat 32 total])

/-! ### The engine leaves and returns (R16, R318, R433 to R436, R465) -/

/-- The engine stops: a bank that is staged and not armed is discarded, on a standby too (R318). -/
def State.engineStop (s : State) : State :=
  let s := s.unstage false
  let wait := s.cfg.waitReady.filter (fun f => f.id.isSome)
  { s with cfg := { s.cfg with waitReady := wait, twinData := [] }, boot := { s.boot with engine := .absent } }

/-- The engine stops for another image: the pause begins (R434). -/
def State.enginePause (s : State) : State :=
  let s := s.engineStop
  ({ s with flash := { s.flash with pauseUp := some s.tm.up } } : State).refuserNote

/-- What the image of a slot brings with it: HUB_FW_VERSION and the stored-configuration format. -/
def State.imageRuns (s : State) : State :=
  let h := s.imageHeader s.flash.runningB
  ({ s with flash := { s.flash with format := hdr h 24 % 65536 } } : State).setReg 0x18 (BitVec.ofNat 32 (hdr h 4))

/-- Another vault image (R372, R434): version, CRC-32C and digest, the event counter, and the restart with its IMAGE entry. The restart goes as at a VAULT reset (R434 step 5) but keeps both counters, since an activation loads no reset value (R11; assumption 64). -/
def State.vaultImage (s : State) (v : W32 × W32 × List Byte) : State :=
  let s : State := { s with vault := { s.vault with imageVersion := v.1, imageCrc := v.2.1, imageDigest := v.2.2 } }
  s.countEvent.vaultStop.vaultRollback.vaultStart true 2

/-- A TRIAL falls back (R436). -/
def State.fallBack (s : State) : State :=
  let trial := s.flash.runningB
  let s := s.enginePause
  let old := s.flash.oldVault
  let s := ({ s with flash := { (s.flash.setSlot trial .rejected) with runningB := !trial, oldVault := none } } : State).refuserNote
  let s := match old with
    | some v => s.vaultImage v
    | none => s
  ((s.imageRuns).setBit Reg.fwStatus 15).raise (errAt 2 Reg.fwStatus 15 0xFFFF)

/-- Hardware restarts the engine (R465): a TRIAL falls back (R436). The restart is in handling until the engine serves descriptors again (R458); ENGINE_BACKOFF, raised with it and equal in REG, BIT and INSTANCE, makes one record with it (R457; assumption 24). -/
def State.engineRestart (s : State) : State :=
  s.oneCycle (fun s =>
    let recent := (s.boot.restarts.filter (fun u => decide (s.tm.up < u + 60000000000))) ++ [s.tm.up]
    let s := s.engineStop
    let s := ({ s with boot := { s.boot with restarts := recent } } : State).bump 0x7C080
    let s := s.raise { errCode 1 0x0001 recent.length with recovers := true }
    let s := if 4 ≤ recent.length then s.raise { errCode 2 0x0002 0 with recovers := true } else s
    if s.flash.trial then s.fallBack else s)

/-- ENGINE_WATCHDOG (R465). -/
def execEngineWatchdog (s : State) : Out := .next (if s.boot.engine = .up then s.engineRestart else s)

/-- The earliest return after the fourth restart within 60 s (R465). -/
def State.returnUp (s : State) : Nat := if 4 ≤ s.boot.restarts.length then s.boot.restarts.getLastD 0 + 10000000000 else 0

/-- Mains tracking on the engine's return (R133). -/
def State.mainsReturn (s : State) : State :=
  let s := (s.clrBit Reg.mainsStatus 3)
  let s := { s with mains := { s.mains with done := [], run := 0, prev := none } }
  if s.mains.mode = .off ∨ s.mains.mode = .holdover then s else s.mainsMode .holdover

/-- Descriptors of an activation retire when the engine serves again (R434). -/
def State.activated (s : State) (pause : Nat) : State :=
  let v := BitVec.ofNat 32 (hdr (s.imageHeader s.flash.runningB) 4)
  s.each (s.host.inflight.filter (fun d => d.taken && decide (d.op = 0x51))) (fun d t => t.retireOk d [v, BitVec.ofNat 32 pause])

/-- An image starts: whether its start-up self-test passes, which R435 asks for, is a free value (assumption 109). -/
def State.selfTest (s : State) : State := ({ s with flash := { s.flash with selfTest := s.freeW.getLsbD 0 } } : State).freeNext

/-- ENGINE_RETURN (R16, R133, R434, R435). -/
def execEngineReturn (s : State) : Out :=
  if s.boot.engine = .up ∨ s.boot.recovery = true ∨ s.boot.stage < 9 then .next s
  else
    let s := s.reachUp s.returnUp
    let s := (({ s with boot := { s.boot with engine := .up } } : State).endHandling 0xFFFFF 0xFFFF).selfTest.traceEngine
    let s := s.mainsReturn
    match s.flash.pauseUp with
    | none => .next s
    | some u =>
      let us := (s.tm.up - u) / 1000
      let s := ({ s with flash := { s.flash with pauseUp := none } } : State).setReg 0x70020 (BitVec.ofNat 32 us)
      .next (s.activated us).refuserNote

/-! ### FW_ACTIVATE (R434) -/

/-- The image of a slot brings another vault body. -/
def State.newVault (s : State) (second : Bool) : Bool :=
  let h := s.imageHeader second
  s.otp.vaultFuse && decide (hdr h 16 ≠ 0) && decide ((h.drop 76).take 48 ≠ s.vault.imageDigest)

/-- Version, CRC-32C and digest of a slot's vault image. -/
def State.slotVault (s : State) (second : Bool) : W32 × W32 × List Byte :=
  let h := s.imageHeader second
  (BitVec.ofNat 32 (hdr h 20), crc32c (flashRead (s.flash.mem second) 0x800000 (hdr h 16)), (h.drop 76).take 48)

/-- FW_ACTIVATE: steps 1 to 5; the completion follows the engine's return. -/
def execFwActivate (id : Nat) (s : State) : Out :=
  s.serve id 0x51 (fun d s =>
    let second := s.flash.idle
    if s.flash.trial then s.retireBad d 0x0708
    else if s.flash.slot second ≠ .staged then s.retireBad d 0x0709
    else
      let fresh := s.newVault second
      if fresh && !s.sealOpen && !s.authTxn then s.retireBad d 0x0540
      else
        let s := s.enginePause
        let s := { s with cfg := { s.cfg with txn := none } }
        if s.verifySlot second ≠ 0 then
          ({ s with flash := { s.flash.setSlot second .empty with staged := 0 } } : State).retireBad d 0x0703
        else
          let old := if fresh then some (s.vault.imageVersion, s.vault.imageCrc, s.vault.imageDigest) else none
          let s := { s with flash := { s.flash.setSlot second .trial with runningB := second, oldVault := old, trialUp := s.tm.up }, boot := { s.boot with recovery := false } }
          let s := if fresh then s.vaultImage (s.slotVault second) else s
          s.imageRuns.take d.id)

/-! ### Confirmation (R435, R437) -/

/-- Records of a stored configuration that the image knows: keys and values, and whether any was dropped; none when one of them has no legal value. -/
def knownRecords : Nat → List W32 → Option (List (Nat × Nat) × Bool)
  | 0, _ => some ([], false)
  | _, [] => some ([], false)
  | f + 1, w :: ws =>
    if (fieldRow (field w 31 16)).isNone then
      (knownRecords f (ws.drop (1 + field w 15 0))).map (fun r => (r.1, true))
    else
      match readRecord (w :: ws) with
      | some (k, v, rest) => (knownRecords f rest).map (fun r => ((k, v) :: r.1, r.2))
      | none => none

/-- Records of a stored copy over the defaults, with the owned fields of the sealed set in place of the copy's (R364, R448). -/
def State.storedBank (s : State) (rs : List (Nat × Nat)) : Bank :=
  let fuse := s.otp.vaultFuse
  withOwned fuse (rs.foldl (fun b r => Bank.set fuse b r.1 r.2) []) s.sealedBank

/-- The newest stored copy that an image of a format reads. -/
def newestStored (cs : List StoredCfg) : Option StoredCfg :=
  cs.foldl (fun a c => match a with
    | some b => if b.seq.toNat < c.seq.toNat then some c else a
    | none => some c) none

/-- The copy's CRC-32C and CFG_HASH are good (R448). -/
def StoredCfg.sound (c : StoredCfg) : Bool := c.good && decide ((Config.sha384 (wordBytes c.records)).take 32 = c.hash)

/-- The migrated copy of a stored one, when it passes validation, under the profile that is active as it is written (R22), and whether unknown records were dropped. -/
def State.migrated (s : State) (c : StoredCfg) : Option StoredCfg × Bool :=
  match knownRecords c.records.length c.records with
  | none => (none, false)
  | some r =>
    let new : Look := Bank.get s.otp.vaultFuse (s.storedBank r.1)
    if (s.firstBroken new).isSome || s.outOfWindow new then (none, r.2)
    else (some { format := s.flash.format, seq := 0, profile := s.cfg.profile, records := Look.records new, hash := Look.hash new, good := true }, r.2)

/-- The stored configuration takes the confirmed image's format (R437): the newest sound copy is migrated, or the live configuration stands in for it. -/
def State.migrate (s : State) : State :=
  match newestStored (s.flash.copies.filter StoredCfg.sound) with
  | none => s
  | some c =>
    if c.format = s.flash.format then s
    else
      let m := s.migrated c
      let s := s.doIf m.2 (fun t => t.setBit Reg.fwStatus 14)
      { s with flash := s.flash.storeBoth (m.1.getD s.storeSnapshot) }

/-- The TRIAL is confirmed (R401, R435). -/
def State.confirmTrial (s : State) : State :=
  let r := s.flash.runningB
  let svn := max s.sv.svn.toNat (hdr (s.imageHeader r) 8)
  let s := { s with flash := { (s.flash.setSlot r .confirmed).setSlot (!r) .previous with oldVault := none }, sv := { s.sv with svn := BitVec.ofNat 32 svn } }
  s.refuserNote.migrate

/-- FW.CONFIRM_LIMIT_S has passed in a TRIAL that does not confirm itself (R436). -/
def State.limitPassed (s : State) : Bool :=
  !s.cfgOn Fld.fwAutoConfirm 0 && decide (s.flash.trialUp + s.cfgv Fld.fwConfirmLimitS 0 0 * 1000000000 ≤ s.tm.up)

/-- FW_CONFIRM (R435): refused with no slot in TRIAL, or once the limit has passed (R436). -/
def execFwConfirm (id : Nat) (s : State) : Out :=
  s.serve id 0x52 (fun d s => if s.flash.trial && !s.limitPassed then s.confirmTrial.retireOk d [] else s.retireBad d 0x0707)

/-- FW_AUTO_CONFIRM (R435): the image has run for FW.CONFIRM_S, its start-up self-test passed. -/
def execFwAutoConfirm (s : State) : Out :=
  if s.flash.trial && s.cfgOn Fld.fwAutoConfirm 0 && s.engineUp && s.flash.selfTest then
    .next (s.reachUp (s.flash.trialUp + s.cfgv Fld.fwConfirmS 0 0 * 1000000000)).confirmTrial
  else .next s

/-- FW_CONFIRM_LIMIT (R436): hardware keeps the limit. -/
def execFwConfirmLimit (s : State) : Out :=
  if s.flash.trial && !s.cfgOn Fld.fwAutoConfirm 0 then
    .next (s.reachUp (s.flash.trialUp + s.cfgv Fld.fwConfirmLimitS 0 0 * 1000000000)).fallBack
  else .next s

/-! ### Trace -/

/-- TRACE_POP (R441): bit 0 removes the oldest entry. -/
def execTracePop (v : W32) (s : State) : Out :=
  if v.getLsbD 0 then
    let es := s.trace.entries.drop 1
    .next { s with trace := { entries := es, full := es.any (fun e => e.kind == 0xF5) } }
  else .next s

end Sys2Proof.Machine
end

