-- ==== Sys2Proof/Machine/Startup.lean ====
section
/-! DEFINITION. Start-up (chapter 18): the steps of Table 18-2 and what ends each of them (R443 to R452, R493), the boot slot (R447), the stored configuration (R448), READY (R449, R451), supply faults (R443) and overruns (R446). -/

namespace Sys2Proof.Machine

open Sys2Proof

/-- A step begins. -/
def State.stageAt (s : State) (n : Nat) : State := { s with boot := { s.boot with stage := n, stageUp := s.tm.up } }

/-- The limit of a step in µs (Table 18-2). -/
def stepLimit : Nat → Nat
  | 1 => 1000000
  | 2 => 50000
  | 3 => 200
  | 4 => 5000
  | 5 => 50000
  | 6 => 500
  | 7 => 300000
  | 8 => 100000
  | _ => 50000

/-- The step in progress has taken a number of µs: time goes on, and so does BOOT_TIME_US (R452); before step 3 only the Cricket clock runs. -/
def State.stepTook (s : State) (us : Nat) : State :=
  let s := if s.tm.running then s.reachUp (s.boot.stageUp + us * 1000) else { s with tm := s.tick (us * 1000) }
  { s with boot := { s.boot with timeUs := s.boot.timeUs + us } }

/-! ### Steps 1 to 6 -/

/-- Step 1 ends once TWIN_SEL has settled (R493): the strap is latched, and a latched WARM acts (R450). -/
def State.cricketEnds (s : State) : State :=
  if s.pads.settled.getLsbD 32 then
    let late := s.boot.warmLatched
    let s := { s with boot := { s.boot with strapB := s.pads.level.getLsbD 32, warmLatched := none, stage := 2 }, pads := { s.pads with enDig := true } }
    match late with
    | some src => s.warmTake src
    | none => s
  else s

/-- The WARM_RESET value of a cause (Table 19-3). -/
def resetCode : ResetSource → Nat
  | .pin => 0
  | .host => 1
  | .sideband => 2
  | .hibExit => 3

/-- Step 3 ends (R217, Table 19-3): the count begins at 0, and what could not be recorded before is recorded. -/
def State.clocksEnd (s : State) : State :=
  let s := ({ s with tm := { TimeSt.init with running := true, cricket := s.tm.cricket, cricketSub := s.tm.cricketSub, age := s.tm.age } } : State).pllRun
  let late := s.boot.overruns
  let s := ({ s with boot := { s.boot with overruns := [] } } : State).stageAt 4
  let s := s.each late (fun n t => t.raise { errCode 2 0x0006 n with early := true })
  match s.boot.warmCause with
  | some src => s.raise (errCode 0 0x0004 (resetCode src))
  | none => s

/-- Step 4 ends (R108): the trim is loaded, and a bad one is reported. Step 5 waits for the rails, but ends at once in a WARM that finds PWR_EN_ANA high (R445). -/
def State.otpEnds (s : State) : State :=
  let s := (s.setBit 0x1E000 0).doIf (!s.otp.trimGood) (fun t => t.setBitRaise 2 0x1E000 1 0xFFFF)
  let up := s.pads.enAna && !decide (s.pwr.mode = .hibExit)
  ({ s with pads := { s.pads with enAna := true } } : State).stageAt (if up then 6 else 5)

/-! ### Step 7 -/

/-- A device is present (R427): a valid table, 4-byte addressing, at least 32 MiB, page program and both erases. -/
def sfdpPresent (r : SfdpReport) : Bool := r.valid && r.addr4 && r.programs && r.erases && decide (33554432 ≤ r.bytes)

/-- What both devices offer, or the one that is present. -/
def sfdpMin (a b : SfdpReport) (f : SfdpReport → Nat) : Nat :=
  match sfdpPresent a, sfdpPresent b with
  | true, true => min (f a) (f b)
  | true, false => f a
  | false, true => f b
  | false, false => 0

/-- The flash devices as SFDP shows them (R427): an absent one is reported; I/O and clock are limited to what the devices offer, and quad enable is set for quad I/O. -/
def State.readSfdp (s : State) (a b : SfdpReport) : State :=
  let s := { s with flash := { s.flash with presentA := sfdpPresent a, presentB := sfdpPresent b, io := sfdpMin a b SfdpReport.io, clk := sfdpMin a b SfdpReport.clkMhz, pageA := a.page, pageB := b.page } }
  ((s.doIf (!sfdpPresent a) (fun t => t.raise (errCode 2 0x0003 0))).doIf (!sfdpPresent b) (fun t => t.raise (errCode 2 0x0003 1))).quadSet

/-- A slot left in TRIAL is marked REJECTED (R436, R447); the vault image before it comes back, at once when the vault runs on. -/
def State.bootFallback (s : State) : State :=
  if s.flash.trial then
    let old := s.flash.oldVault
    let second := decide (s.flash.slotB = .trial)
    let s := { s with flash := { s.flash.setSlot second .rejected with runningB := !second, oldVault := none } }
    let s := match old with
      | some v =>
        if s.boot.vaultDue then
          let s : State := { s with vault := { s.vault with imageVersion := v.1, imageCrc := v.2.1, imageDigest := v.2.2 } }
          s.auditEvent 2 (some ((wordsOf v.2.2).take 2))
        else s.vaultImage v
      | none => s
    (s.setBit Reg.fwStatus 15).raise (errAt 2 Reg.fwStatus 15 0xFFFF)
  else s

/-- Slots the hub may boot from, in order (R447). -/
def FlashSt.bootOrder (f : FlashSt) : List Bool :=
  [false, true].filter (fun b => decide (f.slot b = .confirmed)) ++ [false, true].filter (fun b => decide (f.slot b = .previous))

/-- No slot verifies (R447): the recovery loader starts. -/
def State.noFirmware (s : State) : State :=
  (({ s with boot := { s.boot with recovery := true } } : State).stageAt 8).setBitRaise 2 Reg.bootStatus 15 0xFFFF

/-- The first slot of a list that verifies runs; each one before it holds no usable image. -/
def bootFrom (ok : Bool → Bool) : List Bool → State → State
  | [], s => s.noFirmware
  | b :: bs, s =>
    if ok b && s.flash.present b then ({ s with flash := { s.flash.setSlot b .confirmed with runningB := b } } : State).stageAt 8
    else bootFrom ok bs (({ s with flash := s.flash.setSlot b .empty } : State).doIf (!bs.isEmpty) (fun t => t.setBit Reg.bootStatus 14))

/-- VERSION of a slot, read at start (R441). -/
def State.slotVersion (s : State) (second : Bool) : W32 :=
  if s.flash.present second && decide (s.flash.slot second ≠ .empty) then BitVec.ofNat 32 (hdr (s.imageHeader second) 4) else 0

/-- The image of a slot verifies (R401): the device reads, and Svetron finds signatures, security version and digests good. -/
def State.bootable (s : State) (reads second : Bool) : Bool := reads && decide (s.verifySlot second = 0)

/-- Step 7 ends (R427, R447). -/
def State.firmwareEnds (s : State) (rep : StepReport) : State :=
  let s := (s.readSfdp rep.deviceA rep.deviceB).bootFallback
  let s := (s.setReg 0x70014 (s.slotVersion false)).setReg 0x70018 (s.slotVersion true)
  bootFrom (fun b => s.bootable (if b then rep.imageBOk else rep.imageAOk) b) s.flash.bootOrder s

/-! ### Step 8 -/

/-- Step 8 ends (R379, R445): the engine runs, unless the recovery loader does, and a restart behind a limit passed ends its handling (R458) and waits as R465 says; the vault starts after POR and HIBERNATE. -/
def State.engineStarts (s : State) (vaultOk : Bool) : State :=
  let s := if s.boot.recovery then s else (({ s.reachUp s.returnUp with boot := { s.boot with engine := .up } } : State).endHandling 0xFFFFF 0xFFFF).imageRuns
  let due := s.boot.vaultDue
  let s := ({ s with boot := { s.boot with vaultDue := false } } : State).stageAt 9
  s.doIf due (fun t => t.vaultStart vaultOk 6)

/-! ### Step 9 -/

/-- Groups that the live configuration enables start (R40, R449). -/
def State.startGroups (s : State) : State :=
  if s.cfg.bad || s.log.fatal then s
  else s.each [0, 1] (fun g t => if t.cfgOn Fld.strbEnable g ∧ (t.grpOf g).mode = .stopped then t.startGroup g t.now else t)

/-- Ports start by themselves at READY, not with the stored configuration. -/
def notLink (key : Nat) : Bool := !decide (0x2A01 ≤ keyCode key ∧ keyCode key ≤ 0x2A08)

/-- Both groups start with the mains weights of the live configuration (R134). -/
def State.mainsBoth (s : State) : State := (s.mainsLoad s.cfgv true 0).mainsLoad s.cfgv true 1

/-- A stored configuration is applied as a commit (R22, R448). -/
def State.applyStored (s : State) (bank : Bank) (profile : Nat) : State :=
  let old : Look := s.cfgv
  let moved := (changedKeys s.otp.vaultFuse s.cfg.live bank).filter notLink
  let s := { s with cfg := { s.cfg with live := bank, profile := profile, committed := true } }
  let s := ((s.bump 0x10C).setReg 0x114 0).startGroups
  ((s.afterSwitch old moved moved).mainsBoth).traceFree 5

/-- A START_TIME lies too far ahead of a count of 0 (R39, R448). -/
def Look.farStart (c : Look) : Bool := [0, 1].any (fun g => decide (nsTq 2147483647 < c.start g))

/-- The stored configuration is loaded, checked and applied, or becomes the reason for BAD (R448); under the recovery loader no group is enabled (R447). -/
def State.loadStored (s : State) : State :=
  if s.boot.recovery then { s with cfg := { s.cfg with live := Bank.set s.otp.vaultFuse s.cfg.live (keyOf Fld.strbEnable 0 0) 0 } }
  else
    let readable := s.flash.copies.filter (fun c => decide (c.format = s.flash.format))
    if readable.isEmpty then s.startGroups
    else
      match newestStored (readable.filter StoredCfg.sound) with
      | none => s.enterBad 1
      | some c =>
        match readRecords false c.records.length 0 c.records with
        | .inr _ => s.enterBad 2
        | .inl rs =>
          let bank := s.storedBank rs
          let new : Look := Bank.get s.otp.vaultFuse bank
          if (s.firstBroken new).isSome || new.farStart then s.enterBad 2 else s.applyStored bank c.profile

/-- Engine opcodes that the recovery loader does not serve retire (R447). -/
def State.recoverySweep (s : State) : State :=
  if s.boot.recovery then
    let no := fun (d : Desc) => if d.bad = 0 ∧ engineOp d.op = true ∧ loaderOp d.op = false then { d with bad := 0x0710 } else d
    ({ s with host := { s.host with inflight := s.host.inflight.map no } } : State).sweepBad
  else s

/-- READY (R411, R449, R451, R452). -/
def State.ready (s : State) : State :=
  let s := { s with boot := { s.boot with stage := 10, readyAt := s.tm.up } }
  let s := s.setReg 0x44 (BitVec.ofNat 32 (min s.boot.timeUs 0xFFFFFFFF))
  let s := if s.twinned then s.setRole .unresolved [] else ({ s with twin := { s.twin with reasons := 0 } } : State).setRole .solo []
  let s := s.each [0, 1, 2] (fun p t => t.linkStart p)
  let s := if s.boot.fromHib then (({ s with boot := { s.boot with fromHib := false }, pwr := { s.pwr with wakeTimer := none } } : State).powerMode .run).traceMark 0xF2 else s
  s.recoverySweep

/-- Step 9 ends. -/
def State.configEnds (s : State) : State := (s.mainsRestart.mainsBoth.loadStored).ready

/-! ### The commands -/

/-- STARTUP_STEP_END (R445). -/
def execStartupStepEnd (rep : StepReport) (s : State) : Out :=
  if s.boot.retryDue then .next s
  else
    let s := if s.boot.stage = 0 ∨ 10 ≤ s.boot.stage then s else s.stepTook rep.elapsedUs
    match s.boot.stage with
    | 1 => .next s.cricketEnds
    | 2 => .next (s.stageAt 3)
    | 3 => .next s.clocksEnd
    | 4 => .next s.otpEnds
    | 5 => .next (s.stageAt 6)
    | 6 => .next ((s.owResult rep.moved).stageAt 7)
    | 7 => .next (s.firmwareEnds rep)
    | 8 => .next (s.engineStarts rep.vaultOk)
    | 9 => .next s.configEnds
    | _ => .next s

/-- Both enables go low and start-up begins again from step 2 after 1 s (R443). -/
def State.supplyOff (s : State) : State :=
  { s with boot := { s.boot with retryDue := true }, pads := { s.pads with enDig := false, enAna := false } }

/-- An overrun is recorded, or kept until step 3 ends (R446). -/
def State.overrun (s : State) : State :=
  let n := s.boot.stage
  let s := s.setBit Reg.bootStatus 9
  if n ≤ 3 then { s with boot := { s.boot with overruns := s.boot.overruns ++ (if n = 1 ∧ s.boot.overruns.contains 1 = true then [] else [n]) } }
  else s.raise (errCode 2 0x0006 n)

/-- A supply group is late at step 2 or 5 (R443, R446); at the exit from HIBERNATE step 2 goes back to HIBERNATE (R411). -/
def State.supplyLate (s : State) : State :=
  if s.pwr.mode = .hibExit ∧ s.boot.stage = 2 then s.hibSupply
  else (s.overrun.supplyOff).setBit Reg.pwrStatus 10

/-- SUPPLY_TIMEOUT (R443). -/
def execSupplyTimeout (s : State) : Out :=
  if s.boot.retryDue = false ∧ (s.boot.stage = 2 ∨ s.boot.stage = 5) then .next (s.stepTook 50000).supplyLate else .next s

/-- SUPPLY_RETRY (R443, R446): 1 s later step 2 begins again; what lay behind it begins again too. -/
def execSupplyRetry (s : State) : Out :=
  if s.boot.retryDue then
    let b := s.boot
    let s := { s with tm := s.tick 1000000000 }
    let t := s.warmState .pin
    let boot := { BootSt.init with stage := 2, vaultDue := b.vaultDue, warmCause := b.warmCause, fromHib := b.fromHib, overruns := b.overruns, timeUs := b.timeUs + 1000000, strapB := b.strapB }
    .next (({ t with boot := boot, pads := { t.pads with enDig := true } } : State).setBit Reg.bootStatus 9)
  else .next s

/-- Every input counts as open (R446). -/
def allInputs : List Nat := List.range 512

/-- The step in progress reaches its limit; steps 1 and 8 go on and report their whole time when they end. -/
def State.atLimit (s : State) : State :=
  let n := s.boot.stage
  if n = 0 ∨ n = 1 ∨ 10 ≤ n then s
  else if n = 8 then s.reachUp (s.boot.stageUp + stepLimit 8 * 1000)
  else s.stepTook (stepLimit n)

/-- STEP_OVERRUN (R446). -/
def execStepOverrun (s : State) : Out :=
  if s.boot.retryDue then .next s
  else
    let s := s.atLimit
    match s.boot.stage with
    | 1 => .next s.overrun
    | 2 => .next s.supplyLate
    | 3 => .next s.overrun.supplyOff
    | 4 => .next { s.overrun with boot := { s.overrun.boot with retryDue := true } }
    | 5 => .next s.supplyLate
    | 6 => .next ((s.overrun.owResult allInputs).stageAt 7)
    | 7 => .next s.overrun.bootFallback.noFirmware
    | 8 => .next s.overrun.engineRestart
    | 9 => .next ((s.overrun.mainsRestart.mainsBoth).enterBad 5).ready
    | _ => .next s

end Sys2Proof.Machine
end

