-- ==== Sys2Proof/Machine/Errors.lean ====
section
/-! DEFINITION. UNIT_FATAL (R463, R464), the log's messages (R462) and its pop (R461). -/

namespace Sys2Proof.Machine

open Sys2Proof

/-- The code of a cause (Table 19-4). -/
def fatalCode : FatalCause → Nat
  | .corePll => 1
  | .cnvPll => 2
  | .ctrlEcc => 3
  | .schedWdg => 4
  | .supply => 5
  | .injected => 6

/-- A group stops for UNIT_FATAL; what was converting is not delivered. -/
def State.fatalGroup (s : State) (g : Nat) : State :=
  let s := s.updGrp g (fun x => { x with frame := x.frame.map (fun f => { f with undelivered := true }) })
  if (s.grpOf g).mode = .stopped then s else s.stopGroup g .stopped

/-- The end of a stream (R464): its open packet closes, one gap record with no restart follows, and the buffer that takes it retires. -/
def State.fatalStream (s : State) (x : Nat) : State :=
  let s := s.closePacket x
  let st := s.strmOf x
  let l := st.lossFrom st.tail 6 0
  let g : GapInfo := { tStart := l.tStart, tEnd := 0xFFFFFFFFFFFFFFFF, lost := 0, first := l.first, cause := 6, detail := 0, endK := l.first }
  let p := s.gapPacket x st.seqNext g
  let s := s.setStrm x { st with closing := st.closing ++ [p], seqNext := st.seqNext + 1, losses := [], overflow := false, resume := false, flush := true, flushSeq := some p.seq }
  s.streamSettle x

/-- A descriptor in flight retires with UNIT_FAILED; buffers of enabled streams still take what was closed (R464). -/
def State.failDesc (s : State) (d : Desc) : State :=
  match s.strm.find? (fun e => e.2.bufs.any (fun b => b.id == d.id && !b.done)) with
  | some (x, st) =>
    if s.cfgOn Fld.streamEnable x && !s.isStandby then s
    else
      match st.bufs.find? (fun b => b.id == d.id) with
      | some b => if b.count = 0 then s.retireEmpty x b 0x0007 else s.retireBuf x b
      | none => s
  | none =>
    let s := s.capRelease d.id
    let jobs := s.mantis.jobs.filter (fun j => j.id != d.id)
    ({ s.dropJob d.id with mantis := { s.mantis with jobs := jobs } } : State).retireBad d 0x0007

/-- What UNIT_FATAL does (R464). Its recovery is WARM or POR, so the source stays in handling (R458). -/
def State.fatalStop (s : State) (cause : FatalCause) : State :=
  let s := (s.excSeize.fatalGroup 0).fatalGroup 1
  let s := { s with log := { s.log with fatal := true }, twin := { s.twin with aliveOut := false } }
  let s := s.doIf (decide (s.twin.role = .active)) State.sendHealth
  let s := s.raise { errCode 3 (0x10 + fatalCode cause) 0 with injected := decide (cause = .injected), recovers := true }
  let s := s.each ((List.range 64).filter (fun x => s.cfgOn Fld.streamEnable x)) (fun x t => t.fatalStream x)
  let s := s.each s.host.inflight (fun d t => if (t.descOf d.id).isSome then t.failDesc d else t)
  s.vaultTaint

/-- UNIT_FATAL (R464), once. -/
def State.unitFatal (s : State) (cause : FatalCause) : State := if s.log.fatal then s else s.oneCycle (fun t => t.fatalStop cause)

/-- The group whose schedule the watchdog finds stopped (Table 19-4). -/
def State.schedGroup (s : State) : Option Nat := [0, 1].find? (fun g => Look.scheduled s.cfgv g && decide ((s.grpOf g).mode = .running))

/-- UNIT_FATAL (R463): a cause of Table 19-4 is detected, and no other. SCHED_WDG needs a running group in schedule mode, whose frame boundary has passed by more than one PERIOD; INJECTED comes from INJECT_FATAL alone. -/
def execUnitFatal (cause : FatalCause) (s : State) : Out :=
  match cause with
  | .injected => .next s
  | .schedWdg =>
    match s.schedGroup with
    | some g => .next ((s.reach (Look.edgeT s.cfgv g (s.grpOf g).nextK + Look.period s.cfgv g + 1)).unitFatal .schedWdg)
    | none => .next s
  | c => .next (s.unitFatal c)

/-- ERR_MSI_TIMER (R462): MOD_US have passed since the last message, and one message covers what came meanwhile. -/
def execErrMsiTimer (s : State) : Out :=
  match s.log.msiDue, s.log.msiUp with
  | true, some u =>
    let s := s.reachUp (u + field (s.reg 0x7C004) 25 16 * 1000)
    .next (({ s with log := { s.log with msiDue := false, msiUp := some s.tm.up } } : State).msix (field (s.reg 0x401C) 5 0))
  | _, _ => .next s

/-- ERRLOG_POP (R461): the oldest record leaves when the value is its ESEQ. -/
def execErrlogPop (v : W32) (s : State) : Out :=
  match s.log.records with
  | r :: rest => if r.eseq = v then .next { s with log := { s.log with records := rest } } else .next s
  | [] => .next s

end Sys2Proof.Machine
end

