-- ==== Sys2Proof/Machine/Inject.lean ====
section
/-! DEFINITION. The injector (R280, R398, R468, Tables 10-7 and 19-6). -/

namespace Sys2Proof.Machine

open Sys2Proof

/-- The index of an action is in its range, or it has none (R468). -/
def injIndexOk (target action : Nat) (p2 p4 : W32) : Bool :=
  match target with
  | 4 => decide (p2.toNat < 32)
  | 5 => decide (p2.toNat < 512)
  | 6 => decide (p2.toNat < 64)
  | 7 => decide (p2.toNat < 5)
  | 8 => decide (p2.toNat < 64)
  | 11 => decide (action ≠ 1 ∨ p2.toNat < 64)
  | _ =>
    if target ≤ 3 then
      (match action with
        | 2 => decide (p4.toNat < 8192)
        | 5 => decide (p4.toNat < 2)
        | 6 => decide (p4.toNat < 3)
        | _ => true)
    else true

/-- The target is a resource the vault owns (Table 14-1, Table 14-2). -/
def State.injOwned (s : State) (target : Nat) (p2 : W32) : Bool :=
  s.otp.vaultFuse && (match target with
    | 4 => decide (28 ≤ p2.toNat)
    | 5 => decide (480 ≤ p2.toNat)
    | 6 => decide (60 ≤ p2.toNat)
    | _ => false)

/-- A strobe group does not stand still. -/
def State.groupLive (s : State) (g : Nat) : Bool := decide ((s.grpOf g).mode ≠ .stopped)

/-- The target is in the state the action needs (R280, R468). -/
def State.injReady (s : State) (target action index : Nat) : Bool :=
  match target with
  | 1 => s.inService 0
  | 2 => s.inService 1
  | 3 => s.inService 2
  | 4 =>
    let m := (s.excOf index).mode
    decide (m ≠ .standbyZ ∧ m ≠ .disabled ∧ m ≠ .seized) && s.groupLive (s.cfgv Fld.excGroup index 0)
  | 5 => s.groupLive (Look.chanGroup s.cfgv index)
  | 6 => s.groupLive (Look.coreGroup s.cfgv index)
  | 8 => if action = 1 then (s.sqOf index).enabled else (s.cqOf index).enabled
  | 9 => decide (s.boot.engine = .up)
  | 11 => if action = 2 then decide (s.twin.role = .active) else s.twinned
  | 12 => s.pump.running
  | _ => true

/-- Add a pending injection that acts a number of times. -/
def State.injAdd (s : State) (target action index left : Nat) (value : Int) : State :=
  if left = 0 then s else { s with inj := s.inj ++ [⟨target, action, index, left, value⟩] }

/-- An injection that lasts a number of µs: one fault, from now on. -/
def State.injTimed (s : State) (target action index us : Nat) : State :=
  if us = 0 then s
  else ({ s with inj := s.inj ++ [⟨target, action, index, 1, ((s.tm.up + us * 1000 : Nat) : Int)⟩] } : State).bump 0x80004

/-- A fault is counted on its link and in INJECT_COUNT (R280, R468). -/
def State.injLinkCount (s : State) (p n : Nat) : State := (s.bumpBy (Reg.link p 0x2C) n).bumpBy 0x80004 n

/-- INJECT_CMD of one target and action (R468): the refusals in their order, then its effect. -/
def State.injectCmd (s : State) (id : Nat) (isTarget : Nat → Bool) (action : Nat) (f : Desc → State → State) : Out :=
  s.serve id 0x80 (fun d s =>
    let target := field (d.p 0) 7 0
    if isTarget target = false ∨ (d.p 1).toNat ≠ action then s
    else if s.sv.injectOpen = false then s.retireBad d 0x0509
    else if s.injOwned target (d.p 2) && !s.sealOpen then s.retireBad d 0x0540
    else if injIndexOk target action (d.p 2) (d.p 4) = false then s.retireBad d 0x0002
    else if s.injReady target action (d.p 2).toNat = false then s.retireBad d 0x0006
    else f d s)

/-- The effect of an injection with the retirement of its descriptor. -/
def State.injDone (s : State) (d : Desc) : State := s.retireOk d []

/-- A target code is this one. -/
def only (n : Nat) : Nat → Bool := fun t => decide (t = n)

/-- A target code is that of a link. -/
def isLink (t : Nat) : Bool := decide (1 ≤ t ∧ t ≤ 3)

/-- The port of a link target. -/
def Desc.port (d : Desc) : Nat := field (d.p 0) 7 0 - 1

/-- Program the injector of a port (Table 10-7). -/
def State.linkInject (s : State) (d : Desc) (action filter : Nat) : State :=
  let i : LinkInj := ⟨action, (d.p 2).toNat, filter, (d.p 4).toNat⟩
  if i.count = 0 then s else s.updLink d.port (fun l => { l with inject := l.inject ++ [i] })

/-- INJECT_CANCEL (R468): every pending injection on the target. -/
def execInjectCancel (id : Nat) (s : State) : Out :=
  s.serve id 0x80 (fun d s =>
    let target := field (d.p 0) 7 0
    if (d.p 1).toNat ≠ 0 then s
    else if s.sv.injectOpen = false then s.retireBad d 0x0509
    else
      let s := { s with inj := s.inj.filter (fun i => i.target != target) }
      let s := if isLink target then s.updLink d.port (fun l => { l with inject := [], bad0 := 0, bad1 := 0 }) else s
      (s.retireOk d []).postAll)

/-- INJECT_DROP (R280). -/
def execInjectDrop (id : Nat) (s : State) : Out :=
  s.injectCmd id isLink 1 (fun d s => (s.linkInject d 1 (field (d.p 3) 7 0)).injDone d)

/-- INJECT_CORRUPT (R280). -/
def execInjectCorrupt (id : Nat) (s : State) : Out :=
  s.injectCmd id isLink 2 (fun d s => (s.linkInject d 2 (field (d.p 3) 7 0)).injDone d)

/-- INJECT_REORDER (R280). -/
def execInjectReorder (id : Nat) (s : State) : Out :=
  s.injectCmd id isLink 3 (fun d s => (s.linkInject d 3 0).injDone d)

/-- INJECT_TAG (R280). -/
def execInjectTag (id : Nat) (s : State) : Out :=
  s.injectCmd id isLink 4 (fun d s => (s.linkInject d 4 0).injDone d)

/-- The next blocks of a lane leave with invalid headers (Table 10-7, HEADER), from now on. -/
def State.badHeaders (s : State) (p lane n : Nat) : State :=
  s.updLink p (fun l =>
    let l := if l.current.isNone then l.catchUp s.tm.up else l
    if lane = 0 then { l with bad0 := l.bad0 + n } else { l with bad1 := l.bad1 + n })

/-- INJECT_HEADER (R280): the next COUNT blocks of a lane leave with invalid headers. -/
def execInjectHeader (id : Nat) (s : State) : Out :=
  s.injectCmd id isLink 5 (fun d s => ((s.badHeaders d.port (d.p 4).toNat (d.p 2).toNat).injLinkCount d.port (d.p 2).toNat).injDone d)

/-- INJECT_SQUELCH (R280): a lane or the clock lane is silent for a number of µs. -/
def execInjectSquelch (id : Nat) (s : State) : Out :=
  s.injectCmd id isLink 6 (fun d s =>
    let us := (d.p 2).toNat
    if us = 0 then s.injDone d
    else
      let s := s.injLinkCount d.port 1
      ({ s with inj := s.inj ++ [⟨d.port + 1, 6, (d.p 4).toNat, 1, ((s.tm.up + us * 1000 : Nat) : Int)⟩] } : State).injDone d)

/-- An injection on an indexed target, P3 times. -/
def State.injCounted (s : State) (id target action : Nat) (value : Desc → Int) : Out :=
  s.injectCmd id (only target) action (fun d s => (s.injAdd target action (d.p 2).toNat (d.p 3).toNat (value d)).injDone d)

/-- No value. -/
def noValue (_ : Desc) : Int := 0

/-- P4 as signed codes. -/
def valueP4 (d : Desc) : Int := signedOf 32 (d.p 4).toNat

/-- INJECT_EXC_SHORT (R468). -/
def execInjectExcShort (id : Nat) (s : State) : Out := s.injCounted id 4 1 noValue
/-- INJECT_EXC_OPEN (R468). -/
def execInjectExcOpen (id : Nat) (s : State) : Out := s.injCounted id 4 2 noValue
/-- INJECT_EXC_REVERSED (R468). -/
def execInjectExcReversed (id : Nat) (s : State) : Out := s.injCounted id 4 3 noValue
/-- INJECT_EXC_SENSE_OPEN (R468). -/
def execInjectExcSenseOpen (id : Nat) (s : State) : Out := s.injCounted id 4 4 noValue
/-- INJECT_AIN_OPEN (R468). -/
def execInjectAinOpen (id : Nat) (s : State) : Out := s.injCounted id 5 1 noValue
/-- INJECT_AIN_OVERVOLT (R468). -/
def execInjectAinOvervolt (id : Nat) (s : State) : Out := s.injCounted id 5 2 noValue
/-- INJECT_CNV_REF (R468). -/
def execInjectCnvRef (id : Nat) (s : State) : Out := s.injCounted id 6 1 valueP4
/-- INJECT_CNV_SUPPLY (R468). -/
def execInjectCnvSupply (id : Nat) (s : State) : Out := s.injCounted id 6 2 valueP4
/-- INJECT_CNV_TEMP (R468). -/
def execInjectCnvTemp (id : Nat) (s : State) : Out := s.injCounted id 6 3 valueP4
/-- INJECT_CNV_XCHK (R468). -/
def execInjectCnvXchk (id : Nat) (s : State) : Out := s.injCounted id 6 4 valueP4
/-- INJECT_CNV_TIMEOUT (R468). -/
def execInjectCnvTimeout (id : Nat) (s : State) : Out := s.injCounted id 6 5 noValue

/-- INJECT_MEM_CORRECTABLE (R468). -/
def execInjectMemCorrectable (id : Nat) (s : State) : Out :=
  s.injectCmd id (only 7) 1 (fun d s => (s.injAdd 7 1 (d.p 2).toNat 1 0).injDone d)
/-- INJECT_MEM_UNCORRECTABLE (R468). -/
def execInjectMemUncorrectable (id : Nat) (s : State) : Out :=
  s.injectCmd id (only 7) 2 (fun d s => (s.injAdd 7 2 (d.p 2).toNat 1 0).injDone d)

/-- INJECT_HOST_DMA_ERROR (R468). -/
def execInjectHostDmaError (id : Nat) (s : State) : Out :=
  s.injectCmd id (only 8) 1 (fun d s => (s.injAdd 8 1 (d.p 2).toNat 1 0).injDone d)
/-- INJECT_HOST_POSTING_HELD (R468): completions of ring P2 wait for P3 µs. -/
def execInjectHostPostingHeld (id : Nat) (s : State) : Out :=
  s.injectCmd id (only 8) 2 (fun d s => (s.injTimed 8 2 (d.p 2).toNat (d.p 3).toNat).injDone d)

/-- INJECT_ENGINE_WATCHDOG (R465, R468). -/
def execInjectEngineWatchdog (id : Nat) (s : State) : Out :=
  s.injectCmd id (only 9) 1 (fun d s => ((s.injDone d).bump 0x80004).underInj true State.engineRestart)

/-- INJECT_FIREFLY_THETA (R468): P2 exchanges. -/
def execInjectFireflyTheta (id : Nat) (s : State) : Out :=
  s.injectCmd id (only 10) 1 (fun d s => (s.injAdd 10 1 0 (d.p 2).toNat (signedOf 32 (d.p 3).toNat)).injDone d)
/-- INJECT_FIREFLY_INVALID (R468): P2 exchanges. -/
def execInjectFireflyInvalid (id : Nat) (s : State) : Out :=
  s.injectCmd id (only 10) 2 (fun d s => (s.injAdd 10 2 0 (d.p 2).toNat 0).injDone d)

/-- INJECT_TWIN_SUM (R468). -/
def execInjectTwinSum (id : Nat) (s : State) : Out := s.injCounted id 11 1 valueP4
/-- INJECT_TWIN_ALIVE_STOP (R468). -/
def execInjectTwinAliveStop (id : Nat) (s : State) : Out :=
  s.injectCmd id (only 11) 2 (fun d s => (s.injTimed 11 2 0 (d.p 3).toNat).injDone d)
/-- INJECT_TWIN_HEALTH_WITHHELD (R468). -/
def execInjectTwinHealthWithheld (id : Nat) (s : State) : Out :=
  s.injectCmd id (only 11) 3 (fun d s => (s.injTimed 11 3 0 (d.p 3).toNat).injDone d)

/-- INJECT_PUMP_SAG (R468). -/
def execInjectPumpSag (id : Nat) (s : State) : Out :=
  s.injectCmd id (only 12) 1 (fun d s => (s.injTimed 12 1 0 (d.p 3).toNat).injDone d)

/-- INJECT_FATAL (R463, R468). -/
def execInjectFatal (id : Nat) (s : State) : Out :=
  s.injectCmd id (only 15) 1 (fun d s => ((s.injDone d).bump 0x80004).unitFatal .injected)

/-- An injection lasts a time. -/
def Injection.timed (i : Injection) : Bool :=
  decide ((i.target = 8 ∧ i.action = 2) ∨ (i.target = 11 ∧ (i.action = 2 ∨ i.action = 3)) ∨ i.target = 12 ∨ (i.target ≤ 3 ∧ i.action = 6))

/-- Remove the first timed injection on a target. -/
def dropTimed (target : Nat) : List Injection → List Injection
  | [] => []
  | i :: is => if i.target = target ∧ i.timed = true then is else i :: dropTimed target is

/-- INJECTION_DURATION_END (R468): the oldest injection on the target that lasts a time runs out. -/
def execInjectionDurationEnd (target : Nat) (s : State) : Out :=
  match s.inj.find? (fun i => decide (i.target = target) && i.timed) with
  | some i =>
    let s := s.reachUp i.value.toNat
    .next ({ s with inj := dropTimed target s.inj } : State).postAll
  | none => .next s

end Sys2Proof.Machine
end

