-- ==== Sys2Proof/Machine/Flags.lean ====
section
/-! DEFINITION. What every register of the register window reads as (chapter 20 and the register tables of the other chapters): the status words with each of their flags, computed from the state; counters and plain set-up words stand in the store as they are. An address no chapter assigns, and a write-only register, reads 0 (R9, R471). -/

namespace Sys2Proof.Machine

open Sys2Proof

/-- A number as a word; what does not fit is cut off. -/
def word (v : Nat) : W32 := BitVec.ofNat 32 v

/-- A stored word with all but the listed bits taken as 0: the sticky bits of a status register. -/
def State.sticky (s : State) (a mask : Nat) : W32 := s.reg a &&& BitVec.ofNat 32 mask

/-- A bitmap over 32 items from number n on. -/
def bitmap (n : Nat) (f : Nat → Bool) : W32 := word (maskOf ((List.range 32).filter (fun b => f (n + b))))

/-! ### HUB (Tables 20-3 to 20-5, 18-4, 12-6) -/

/-- HUB_STATUS (Table 20-4). -/
def State.hubStatus (s : State) : W32 :=
  s.sticky Reg.hubStatus 0x300 ||| bitAt 6 s.log.fatal ||| bitAt 5 (!s.log.records.isEmpty) ||| bitAt 4 (decide (s.ff.mode = .locked))
    ||| bitAt 3 (decide (s.twin.role = .solo ∨ s.twin.role = .active)) ||| bitAt 2 s.cfg.bad ||| bitAt 1 s.engineUp ||| bitAt 0 (decide (s.boot.stage = 10))

/-- Some input was found open by the last open-wire check. -/
def State.owOpen (s : State) : Bool := (List.range 16).any (fun w => decide (s.reg (0x86C0 + 4 * w) ≠ 0))

/-- Step 7 has read the slots: until then their fields hold the reset value 0 (R12, R447; assumption 65). -/
def State.slotsRead (s : State) : Bool := decide (8 ≤ s.boot.stage)

/-- BOOT_STATUS (Table 18-4). -/
def State.bootStatus (s : State) : W32 :=
  s.sticky Reg.bootStatus 0xC200 ||| bitAt 13 s.owOpen ||| bitAt 12 (s.bit 0x1E000 1) ||| bitAt 8 (s.slotsRead && s.flash.runningB) ||| word s.boot.stage

/-- CFG_STATUS.STATE: 0 DEFAULT, 1 COMMITTED, 2 BAD (Table 12-6). -/
def CfgSt.code (c : CfgSt) : Nat := if c.bad then 2 else if c.committed then 1 else 0

/-- CFG_STATUS (Table 12-6). -/
def State.cfgStatus (s : State) : W32 :=
  s.sticky Reg.cfgStatus 0x100 ||| at_ 24 s.cfg.profile ||| at_ 16 s.cfg.badCause ||| bitAt 6 s.cfg.storePending.isSome
    ||| bitAt 5 (decide ((s.grpOf 1).mode = .held)) ||| bitAt 4 (decide ((s.grpOf 0).mode = .held)) ||| bitAt 3 s.cfg.txn.isSome ||| word s.cfg.code

/-- CFG_OVERRIDES (R26): profile-governed fields that differ from the defaults of the active profile, every instance of an indexed field counting for itself (DESIGN CHOICE, assumption 66). -/
def State.overrides (s : State) : Nat :=
  (profileKeys.filter (fun e => s.cfgv (keyCode e.2) (keyIndex e.2) (keySub e.2) != dfltOf s.otp.vaultFuse s.cfg.profile e.1 (keyIndex e.2) (keySub e.2))).length

/-- Word w of CFG_HASH (R330): 0 until start-up has applied a configuration. -/
def State.cfgHashWord (s : State) (w : Nat) : W32 :=
  if s.boot.stage = 10 then wordAt (wordsOf (Look.hash s.cfgv)) w else 0

/-- Registers of the HUB block. -/
def State.readHub (s : State) (a : Nat) : W32 :=
  if a = 0x0 then 0x5A485120
  else if a = 0x4 then 0x4201
  else if a = 0x8 then bitAt 0 s.otp.vaultFuse
  else if a = 0x10 then W32.lo s.otp.serial.toNat
  else if a = 0x14 then W32.hi s.otp.serial.toNat
  else if a = 0x18 ∨ a = 0x24 ∨ a = 0x28 ∨ a = 0x2C ∨ a = 0x44 ∨ a = 0x10C ∨ a = 0x110 ∨ a = 0x114 then s.reg a
  else if a = 0x20 then s.hubStatus
  else if a = 0x40 then s.bootStatus
  else if a = 0x100 then s.cfgStatus
  else if a = 0x104 then (s.cfg.txn.map (fun t => t.id)).getD 0
  else if a = 0x108 then word s.overrides
  else if 0x120 ≤ a ∧ a < 0x140 then s.cfgHashWord ((a - 0x120) / 4)
  else 0

/-! ### PWR (Tables 16-8, 16-9) and CLK (Tables 20-6, 20-7) -/

/-- PWR_STATUS.STATE (Table 16-1). -/
def PowerMode.code : PowerMode → Nat
  | .run => 0
  | .doze => 1
  | .hibEntry => 2
  | .hibernate => 3
  | .hibExit => 4

/-- PWR_STATUS (Table 16-9). -/
def State.pwrStatus (s : State) : W32 := s.sticky Reg.pwrStatus 0x700 ||| at_ 4 s.pwr.lastResult ||| word s.pwr.mode.code

/-- Ns of a span that lie in the last second. -/
def inLastSecond (age : Nat) (p : Nat × Nat) : Nat := p.2 - max p.1 (age - 1000000000)

/-- PWR_DOZE_PERMIL (Table 16-8). -/
def State.dozePermil (s : State) : Nat :=
  let spans := s.pwr.pllSpans ++ (match s.pwr.pllFrom with
    | some u => [(u, s.tm.age)]
    | none => [])
  (spans.foldl (fun n p => n + inLastSecond s.tm.age p) 0) / 1000000

/-- Registers of the PWR block. -/
def State.readPwr (s : State) (a : Nat) : W32 :=
  if a = 0x1000 then s.pwrStatus
  else if a = 0x1014 then s.pwr.lastWake
  else if a = 0x1018 then word (maskOf (s.refusers true))
  else if a = 0x1060 then word s.dozePermil
  else if (0x1008 ≤ a ∧ a ≤ 0x1010) ∨ (0x1020 ≤ a ∧ a < 0x1038) ∨ (0x1040 ≤ a ∧ a ≤ 0x105C) then s.reg a
  else 0

/-- CLK_STATUS (Table 20-7): REFCLK is watched from the start of step 1 on, 0 in reset (R12); the PLLs are locked once the step that locks them has ended and while they run. -/
def State.clkStatus (s : State) : W32 :=
  let running := s.pwr.pllFrom.isNone
  s.sticky Reg.clkStatus 0x700 ||| bitAt 2 (running && decide (5 < s.boot.stage)) ||| bitAt 1 (running && decide (3 < s.boot.stage)) ||| bitAt 0 (decide (0 < s.boot.stage))

/-- Registers of the CLK block; the offset of REFCLK is a measured value the model leaves free once a partner's clock has been followed. -/
def State.readClk (s : State) (a : Nat) : W32 :=
  if a = 0x2000 then s.clkStatus
  else if a = 0x2004 then (if s.syntonised then s.freeW else s.reg 0x2004)
  else 0

/-! ### HOSTIF (Tables 11-3 to 11-7) -/

/-- SQ_STATUS[r] (Table 11-5). -/
def State.sqStatus (s : State) (r : Nat) : W32 :=
  let q := s.sqOf r
  s.sticky (Reg.sq r 12) 0x38 ||| at_ 16 q.fetched ||| bitAt 2 q.stopped ||| bitAt 1 q.drained ||| bitAt 0 (q.enabled && !q.stopped)

/-- CQ_STATUS[q] (Table 11-7). -/
def State.cqStatus (s : State) (q : Nat) : W32 :=
  s.sticky (Reg.cq q 12) 4 ||| at_ 16 (s.cqOf q).posted ||| bitAt 1 (s.cqFull q) ||| bitAt 0 (s.cqOf q).enabled

/-- Registers of the HOSTIF block. -/
def State.readHostif (s : State) (a : Nat) : W32 :=
  if a = 0x4010 then word s.inFlight
  else if 0x4000 ≤ a ∧ a ≤ 0x4020 then s.reg a
  else if 0x4100 ≤ a ∧ a < 0x4500 then (if a % 16 = 12 then s.sqStatus ((a - 0x4100) / 16) else s.reg a)
  else if 0x4500 ≤ a ∧ a < 0x4900 then (if a % 16 = 12 then s.cqStatus ((a - 0x4500) / 16) else s.reg a)
  else if (0x6000 ≤ a ∧ a < 0x6400) ∨ (0x6800 ≤ a ∧ a < 0x6808) then s.reg a
  else 0

/-! ### AFE (Tables 3-7, 3-8) -/

/-- EXC_STATUS.STATE (Table 3-2). -/
def ExcMode.code : ExcMode → Nat
  | .disabled => 0
  | .standbyZ => 1
  | .seized => 2
  | .waitPump => 3
  | .idle => 4
  | .inrush => 5
  | .pulse => 6
  | .short => 7
  | .reversed => 8

/-- EXC_STATUS[m] (Table 3-8). -/
def State.excStatus (s : State) (m : Nat) : W32 :=
  let e := s.excOf m
  s.sticky (Reg.excStatus m) 0xFF00FC00 ||| bitAt 9 e.openNow ||| bitAt 8 e.senseOpen ||| bitAt 7 e.negative ||| word e.mode.code

/-- Registers of the AFE block. -/
def State.readAfe (s : State) (a : Nat) : W32 :=
  if 0x8400 ≤ a ∧ a < 0x8480 then s.excStatus ((a - 0x8400) / 4)
  else if 0x8480 ≤ a ∧ a < 0x8500 then s.reg a
  else if 0x8600 ≤ a ∧ a < 0x8640 then bitmap ((a - 0x8600) * 8) (fun i => (s.ainOf i).openNow)
  else if 0x8640 ≤ a ∧ a < 0x8680 then bitmap ((a - 0x8640) * 8) (fun i => (s.ainOf i).switchOpen)
  else if 0x8680 ≤ a ∧ a < 0x86C0 then bitmap ((a - 0x8680) * 8) (fun i => (s.ainOf i).revNow)
  else if 0x86C0 ≤ a ∧ a < 0x8700 then s.reg a
  else if a = 0x8700 then bitAt 0 s.pump.running ||| bitAt 1 s.pump.ready ||| bitAt 2 s.sagNow
  else if a = 0x8704 ∨ a = 0x8708 then s.reg a
  else if a = 0x8714 then bitAt 0 s.pump.owRunning ||| bitAt 1 s.pump.owDone ||| bitAt 2 s.pump.owRefused
  else 0

/-! ### CNV (Tables 4-4, 4-5, 2-6, 2-7) -/

/-- CNV_STATUS[n] (Table 4-5). -/
def State.cnvStatus (s : State) (n : Nat) : W32 :=
  let c := s.coreOf n
  s.sticky (Reg.cnv n 0) 0xF800 ||| bitAt 7 c.fallback ||| bitAt 6 c.tSensor.standing ||| bitAt 5 c.tCrit.standing ||| bitAt 4 c.tHigh.standing
    ||| bitAt 3 (s.pairOf (n / 2)).standing ||| bitAt 2 c.supply.standing ||| bitAt 1 c.ref.standing
    ||| bitAt 0 (decide (s.cfgv Fld.cnvScanMask n 0 / 256 % 16 ≠ 15))

/-- STRB_STATUS.STATE (Table 2-7). -/
def GroupMode.code : GroupMode → Nat
  | .stopped => 0
  | .waitingStart => 1
  | .running => 2
  | .held => 3

/-- STRB_STATUS of a group (Table 2-7). -/
def State.strbStatus (s : State) (g : Nat) : W32 :=
  let x := s.grpOf g
  at_ 16 x.lastSlots ||| bitAt 7 x.starved ||| bitAt 6 x.diagLast ||| bitAt 5 x.pendEdge.isSome ||| bitAt 4 x.frame.isSome
    ||| bitAt 3 (!Look.scheduled s.cfgv g) ||| word x.mode.code

/-- Strobe registers of a group, by offset (Table 2-6). -/
def State.readStrb (s : State) (g off : Nat) : W32 :=
  let x := s.grpOf g
  if off = 0x00 then s.strbStatus g
  else if off = 0x04 ∨ off = 0x08 then s.reg (Reg.strb g off)
  else if off = 0x10 then W32.lo x.lastK
  else if off = 0x14 then W32.hi x.lastK
  else if off = 0x18 then W32.lo (tqNs x.lastEdge)
  else if off = 0x1C then W32.hi (tqNs x.lastEdge)
  else if off = 0x20 then word (x.lastEdge % 65536)
  else 0

/-- Registers of the CNV block. -/
def State.readCnv (s : State) (a : Nat) : W32 :=
  if a < 0x11000 then
    (if a % 64 = 0 then s.cnvStatus ((a - 0x10000) / 64) else if a % 64 ≤ 0x18 then s.reg a else 0)
  else if a = 0x1E000 then s.reg a
  else if a = 0x1E004 then s.otp.trimCrc
  else if 0x1F000 ≤ a ∧ a < 0x1F080 then s.readStrb ((a - 0x1F000) / 64) (a % 64)
  else 0

/-! ### FLT (Tables 5-5, 5-6) -/

/-- MAINS_STATUS.STATE (Table 5-2). -/
def MainsMode.code : MainsMode → Nat
  | .off => 0
  | .acquiring => 1
  | .locked => 2
  | .holdover => 3

/-- Registers of the FLT block. -/
def State.readFlt (s : State) (a : Nat) : W32 :=
  if a = 0x20100 then s.sticky a 0xF8 ||| word s.mains.mode.code
  else if a = 0x20004 ∨ a = 0x20008 ∨ (0x20104 ≤ a ∧ a ≤ 0x20118) ∨ (0x20120 ≤ a ∧ a < 0x20140) then s.reg a
  else 0

/-! ### STREAM (Tables 6-8, 6-9) -/

/-- STREAM_STATUS[x] (Table 6-9). -/
def State.streamStatus (s : State) (x : Nat) : W32 :=
  let st := s.strmOf x
  s.sticky (Reg.stream x 0) 0xE000 ||| bitAt 4 st.flush ||| bitAt 3 st.overflow ||| bitAt 2 (decide (st.spillBytes ≠ 0)) ||| bitAt 1 st.empty
    ||| bitAt 0 (s.cfgOn Fld.streamEnable x)

/-- Raw bytes of history that a running scheduled group writes per frame. -/
def State.rawBytes (s : State) (g : Nat) : Nat := 4 * (Look.groupChannels s.cfgv g).length

/-- HIVE_DEPTH_US (Table 6-8): what the Hive's 24 MiB less the spill in use hold at the raw rate of the groups that run on a schedule; 0 with none. -/
def State.hiveDepthUs (s : State) : Nat :=
  let runs := fun g => Look.scheduled s.cfgv g && decide ((s.grpOf g).mode = .running)
  let pa := Look.period s.cfgv 0
  let pb := Look.period s.cfgv 1
  let num := (if runs 0 then s.rawBytes 0 * pb else 0) + (if runs 1 then s.rawBytes 1 * pa else 0)
  if num = 0 then 0 else min 0xFFFFFFFF ((25165824 - s.spillUsed) * pa * pb / (num * 65536000))

/-- Registers of the STREAM block. -/
def State.readStream (s : State) (a : Nat) : W32 :=
  if a < 0x31000 then
    let x := (a - 0x30000) / 64
    let off := a % 64
    if off = 0 then s.streamStatus x
    else if off = 4 then (s.strmOf x).seqNext
    else if off = 8 then word (s.strmOf x).fifoBytes
    else if off = 0xC then word (s.strmOf x).spillBytes
    else if off = 0x10 ∨ off = 0x18 ∨ off = 0x1C then s.reg a
    else 0
  else if a = 0x31008 then word s.spillUsed
  else if a = 0x3100C then word s.hiveDepthUs
  else 0

/-! ### MANTIS (Tables 7-8, 7-9) and CMP (Tables 8-5, 8-6) -/

/-- CAP_STATUS.STATE (Table 7-2). -/
def CapMode.code : CapMode → Nat
  | .idle => 0
  | .armed => 1
  | .window => 2

/-- CAP_STATUS[u] (Table 7-9). -/
def State.capStatusWord (s : State) (u : Nat) : W32 :=
  s.sticky (Reg.cap u 0) 0x700 ||| at_ 4 (min 15 (s.mantis.jobs.filter (fun j => j.unit == u)).length) ||| word (s.capOf u).mode.code

/-- Registers of the MANTIS block. -/
def State.readMantis (s : State) (a : Nat) : W32 :=
  if a < 0x38400 then
    let u := (a - 0x38000) / 64
    let off := a % 64
    if off = 0 then s.capStatusWord u
    else if off = 4 then (s.capOf u).seqNext
    else if off ≤ 0x18 then s.reg a
    else 0
  else if a < 0x38440 then word (s.trigOf ((a - 0x38400) / 4)).step
  else if a < 0x38480 then s.reg a
  else if a = 0x38500 then bitmap 0 (fun i => (s.condOf i).val)
  else if a = 0x38504 then bitmap 32 (fun i => (s.condOf i).val)
  else if 0x38600 ≤ a ∧ a ≤ 0x38614 then s.reg a
  else 0

/-- CMP_STATUS (Table 8-6). -/
def State.cmpStatus (s : State) : W32 :=
  s.sticky Reg.cmpStatus 0x700 ||| word (maskOf ([0, 1, 2, 3].filter (fun l => decide (s.comp.lanes.getD l .free ≠ .free))))

/-- Registers of the CMP block. -/
def State.readCmp (s : State) (a : Nat) : W32 :=
  if a = 0x40000 then s.cmpStatus
  else if a = 0x40004 ∨ a = 0x40008 ∨ (0x40010 ≤ a ∧ a ≤ 0x40024) then s.reg a
  else 0

/-! ### FIREFLY (Tables 9-7, 9-8) -/

/-- FF_STATUS (Table 9-8). -/
def State.ffStatus (s : State) : W32 :=
  s.sticky Reg.ffStatus 0x7E00 ||| bitAt 6 ([0, 1, 2].any (fun p => (s.ffPortOf p).altBad)) ||| bitAt 5 s.ff.parentHold ||| bitAt 4 s.ff.altInUse
    ||| bitAt 3 s.syntonised ||| word s.ff.mode.code

/-- FF_SOURCE: ROOT_ID and HOPS of this hub (Table 9-7). -/
def State.ffSource (s : State) : BitVec 16 × BitVec 12 :=
  if s.ffRoot then (BitVec.ofNat 16 (s.cfgv Fld.mantisNodeId 0 0), 0) else s.ff.source.getD (0xFFFF, 0xFFF)

/-- TXTS registers of a port, by offset (Table 9-7); the entry registers of an empty queue are free (R246). -/
def State.readTxts (s : State) (p off : Nat) : W32 :=
  let q := (s.txtsOf p).queue
  if off = 0 then
    s.sticky (Reg.txts p 0) 0x100 ||| word q.length ||| bitAt 16 ((q.head?.map (fun e => e.retry)).getD false)
      ||| bitAt 17 ((q.head?.map (fun e => e.gap)).getD false)
  else if off = 4 then s.reg (Reg.txts p 4)
  else
    match q with
    | e :: _ =>
      if off = 8 then at_ 16 (e.stamp % 65536) ||| word e.tsId.toNat
      else if off = 0xC then W32.lo (tqNs e.stamp)
      else if off = 0x10 then W32.hi (tqNs e.stamp)
      else 0
    | [] => if off = 8 ∨ off = 0xC ∨ off = 0x10 then Config.freeWord (s.freeCtr + off) else 0

/-- PULSE_STATUS[q] (Table 9-7): ARMED until the first edge of a programme, then RUNNING while it runs or a pulse is in progress. -/
def State.pulseStatus (s : State) (q : Nat) : W32 :=
  let x := s.pulseOf q
  s.sticky (0x48200 + 4 * q) 0x100 ||| word (if x.high || !x.tails.isEmpty then 2 else if x.prog.isNone then (if x.next.isEmpty then 0 else 1) else if x.edge = 0 then 1 else 2)

/-- Registers of the FIREFLY block. -/
def State.readFf (s : State) (a : Nat) : W32 :=
  if a = 0x48000 then s.ffStatus
  else if a = 0x48004 then word s.epoch.toNat
  else if a = 0x48008 then s.ff.nowFrac.getD (word (s.now % 65536))
  else if a = 0x48010 then W32.lo s.nowNs
  else if a = 0x48014 then s.ff.nowHi.getD (W32.hi s.nowNs)
  else if 0x48018 ≤ a ∧ a ≤ 0x48038 then s.reg a
  else if a = 0x48040 then (if s.ff.mode = .holdover then word (min 0xFFFFFFFF ((s.tm.up - s.ff.holdFrom) / 1000000)) else 0)
  else if a = 0x48044 then at_ 16 s.ffSource.1.toNat ||| word s.ffSource.2.toNat
  else if a = 0x48048 ∨ a = 0x4804C then s.reg a
  else if 0x48100 ≤ a ∧ a < 0x48160 then s.readTxts ((a - 0x48100) / 32) (a % 32)
  else if 0x48200 ≤ a ∧ a < 0x48210 then s.pulseStatus ((a - 0x48200) / 4)
  else if 0x48220 ≤ a ∧ a < 0x48230 then s.reg a
  else 0

/-! ### LINK (Tables 10-9, 10-10) and TWIN (Tables 13-9, 13-10) -/

/-- LINK_STATUS[p] (Table 10-10). -/
def State.linkStatus (s : State) (p : Nat) : W32 :=
  let l := s.linkOf p
  s.sticky (Reg.link p 0) 0xF800 ||| at_ 20 l.faultCause ||| bitAt 10 (s.inService p && l.keys.isSome) ||| bitAt 9 l.swapped ||| bitAt 8 l.inv1 ||| bitAt 7 l.inv0
    ||| bitAt 6 l.hiBer ||| bitAt 5 (s.inService p) ||| word l.mode.code

/-- LINK_PARTNER[p] (Table 10-9): 0 before the partner has identified itself. -/
def LinkSt.partnerWord (l : LinkSt) : W32 :=
  match l.partner with
  | some f => at_ 16 f.nodeId.toNat ||| at_ 8 (pidx f.port) ||| bitAt 0 f.unitB
  | none => 0

/-- Registers of a port, by offset. -/
def State.readLink (s : State) (p off : Nat) : W32 :=
  let l := s.linkOf p
  if off = 0x00 then s.linkStatus p
  else if off = 0x04 then word (l.rate + 16 * l.bestRate + 256 * l.peak0 + 4096 * l.peak1)
  else if off = 0x0C then word l.rtt
  else if 0x10 ≤ off ∧ off ≤ 0x2C then s.reg (Reg.link p off)
  else if off = 0x30 then word (s.linkLoad p)
  else if off = 0x34 then l.partnerWord
  else if off = 0x40 then s.prbsWord p 0
  else if off = 0x44 then s.prbsWord p 1
  else 0

/-- TWIN_STATUS (Table 13-10). -/
def State.twinStatus (s : State) : W32 :=
  s.sticky Reg.twinStatus 0x3C00 ||| bitAt 6 s.twin.resumeWait ||| bitAt 5 s.twin.seizeOut ||| bitAt 4 (decide (s.twin.role = .active) && s.twin.lost && !s.inService 2) ||| bitAt 3 s.boot.strapB
    ||| word s.twin.role.code

/-- Registers of the TWIN block. -/
def State.readTwin (s : State) (a : Nat) : W32 :=
  if a = 0x58000 then s.twinStatus
  else if a = 0x58004 then word s.twin.reasons.toNat
  else if a = 0x58008 then W32.lo s.twin.failCores.toNat
  else if a = 0x5800C then W32.hi s.twin.failCores.toNat
  else if (0x58010 ≤ a ∧ a ≤ 0x58020) ∨ (0x58028 ≤ a ∧ a ≤ 0x58030) ∨ (0x58040 ≤ a ∧ a < 0x58060) then s.reg a
  else 0

/-! ### VAULT (Tables 14-7, 14-8) and SVETRON (Tables 15-7, 15-9) -/

/-- Registers of the VAULT block; a part without the vault has none. What the start of the vault sets reads 0 until then (R12, R379; assumption 65). -/
def State.readVault (s : State) (a : Nat) : W32 :=
  if s.otp.vaultFuse = false then 0
  else if a = 0x60000 then s.vaultStatusWord
  else if a = 0x60004 then s.sv.eventCount
  else if s.vault.mode = .starting ∧ a ≠ 0x60010 ∧ a ≠ 0x60014 then 0
  else if a = 0x60008 then s.vault.seqNext
  else if a = 0x6000C then word s.unacked.length
  else if a = 0x60010 ∨ a = 0x60014 then s.reg a
  else if a = 0x60018 then s.vault.imageVersion
  else if a = 0x6001C then s.vault.imageCrc
  else if 0x60020 ≤ a ∧ a < 0x60040 then wordAt (wordsOf s.sealHash) ((a - 0x60020) / 4)
  else 0

/-- SVETRON_STATUS (Table 15-9). -/
def State.svStatus (s : State) : W32 :=
  s.sticky Reg.svStatus 0xC000 ||| bitAt 7 s.sv.backoff.isSome ||| bitAt 6 (!s.sv.requests.isEmpty || s.sv.goWaits.isSome) ||| bitAt 5 s.sv.withheld
    ||| bitAt 4 s.sv.debugOpen ||| bitAt 3 s.sv.injectOpen ||| bitAt 2 s.sv.endorsement.isSome ||| bitAt 0 s.sv.owned

/-- Registers of the SVETRON block. -/
def State.readSv (s : State) (a : Nat) : W32 :=
  if a = 0x68000 then s.svStatus
  else if a = 0x68004 then s.sv.ownerGen
  else if a = 0x68008 then s.sv.svn
  else if 0x68010 ≤ a ∧ a < 0x68020 then wordAt (wordsOf (fingerprintOf s.identityKey)) ((a - 0x68010) / 4)
  else if 0x68020 ≤ a ∧ a < 0x68040 then wordAt (wordsOf s.svChallenge) ((a - 0x68020) / 4)
  else if a = 0x6800C ∨ (0x68040 ≤ a ∧ a ≤ 0x68048) ∨ a = 0x68050 ∨ a = 0x68070 then s.reg a
  else if a = 0x68060 then word (ofLeBytes (randomBytes s.sv.session 4))
  else if a = 0x68068 then W32.lo s.sv.sbCounter.toNat
  else if a = 0x6806C then W32.hi s.sv.sbCounter.toNat
  else 0

/-! ### FLASH, SIDEBAND and TRACE (Tables 17-11, 17-12) -/

/-- Slot states (Table 17-7). -/
def SlotMode.code : SlotMode → Nat
  | .empty => 0
  | .staging => 1
  | .staged => 2
  | .trial => 3
  | .confirmed => 4
  | .previous => 5
  | .rejected => 6

/-- Registers of the FLASH block. -/
def State.readFlash (s : State) (a : Nat) : W32 :=
  if a = 0x70000 then s.sticky a 0x100 ||| at_ 2 s.flashIo ||| bitAt 1 s.flash.presentB ||| bitAt 0 s.flash.presentA
  else if a = 0x70010 then
    s.sticky a 0xC000 ||| (if s.slotsRead then at_ 8 s.flash.slotB.code ||| at_ 4 s.flash.slotA.code ||| bitAt 0 s.flash.runningB else 0)
  else if a = 0x7001C then word s.flash.staged
  else if a = 0x70004 ∨ a = 0x70008 ∨ a = 0x70014 ∨ a = 0x70018 ∨ a = 0x70020 then s.reg a
  else 0

/-- Words of a trace entry (Table 17-9). -/
def TraceEntry.words (e : TraceEntry) : List W32 :=
  [at_ 24 e.kind.toNat ||| at_ 16 e.source.toNat ||| word e.epoch.toNat] ++ two e.time.toNat ++ [e.data]

/-- Registers of the trace store. -/
def State.readTrace (s : State) (a : Nat) : W32 :=
  if a = 0x7E000 then s.sticky a 0x10000 ||| word s.trace.entries.length
  else if 0x7E010 ≤ a ∧ a < 0x7E020 then wordAt ((s.trace.entries.head?.map (fun e => e.words)).getD []) ((a - 0x7E010) / 4)
  else if a = 0x7E020 then s.tm.cricket
  else 0

/-! ### PINS (Tables 20-8, 20-9) -/

/-- PIN_CFG[k] (Table 20-9): the live values; GPIO[31] of the vault part is the seal switch (R480). -/
def State.pinCfg (s : State) (k : Nat) : W32 :=
  let func := if s.otp.vaultFuse = true ∧ k = 31 then 8 else s.cfgv Fld.pinFunc k 0
  bitAt 13 (s.cfgv Fld.pinOpenDrain k 0 == 1) ||| at_ 10 (s.cfgv Fld.pinDrive k 0) ||| at_ 8 (s.cfgv Fld.pinPull k 0) ||| word func

/-- The level an output function drives on a pin (R175, R239, R334, R355, R479); none for an input, and none for a function whose domain is off (Table 16-6). -/
def State.pinDrives (s : State) (k : Nat) : Option Bool :=
  if s.pwr.mode = .hibernate ∧ s.pinFunc k ≠ 2 then none else
  match s.pinFunc k with
  | 2 => some ((s.reg 0x78088).getLsbD k)
  | 5 => some ([0, 1, 2, 3].any (fun q => ((s.pulseOf q).high && (s.pulseOf q).pin == k) || (s.pulseOf q).tails.any (fun x => x.pin == k)))
  | 7 => some s.mantis.toutHigh
  | 10 => some s.twin.seizeOut
  | 12 => some s.twin.aliveOut
  | _ => none

/-- The level at a pad (R479, R490): what an output drives, which is no high level under OPEN_DRAIN; otherwise what the board and the pull give it. -/
def State.padLevel (s : State) (k : Nat) : Bool :=
  match s.pinDrives k with
  | some v => if v && s.cfgOn Fld.pinOpenDrain k then s.pads.level.getLsbD k else v
  | none => s.pads.level.getLsbD k

/-- Bit k of PIN_IN: the settled level, an output reading back its own; 0 while UNSETTLED. -/
def State.pinIn (s : State) (k : Nat) : Bool := s.pads.settled.getLsbD k && s.padLevel k

/-- Registers of the PINS block. -/
def State.readPins (s : State) (a : Nat) : W32 :=
  if a < 0x78080 then s.pinCfg ((a - 0x78000) / 4)
  else if a = 0x78080 then bitmap 0 s.pinIn
  else if a = 0x78084 then bitmap 0 (fun k => s.pads.settled.getLsbD k)
  else if a = 0x78088 then s.reg a
  else if a = 0x78094 then s.pads.parked
  else 0

/-! ### ERRLOG and INJECT (Tables 19-7, 19-8) -/

/-- Words of an error record (Table 19-2). -/
def ErrRec.words (r : ErrRec) : List W32 :=
  [r.eseq,
   at_ 30 r.cls ||| bitAt 29 r.injected ||| bitAt 28 r.nested ||| bitAt 27 r.coalesced ||| bitAt 26 r.lostBefore ||| bitAt 25 r.engine ||| word (r.reg % 1048576),
   at_ 27 r.bit ||| word (r.inst % 65536)] ++ two r.tFirst ++ [at_ 16 r.epoch.toNat ||| word r.count, r.parent, r.detail]

/-- ERRLOG_STATUS (Table 19-8). -/
def State.errStatus (s : State) : W32 :=
  let n := s.log.records.length
  s.sticky Reg.errStatus 0x200 ||| at_ 16 n ||| bitAt 10 s.log.fatal ||| bitAt 8 (decide (512 ≤ n)) ||| word (s.log.records.foldl (fun m r => max m r.cls) 0)

/-- Registers of the error log. -/
def State.readErr (s : State) (a : Nat) : W32 :=
  if a = 0x7C000 then s.errStatus
  else if a = 0x7C004 ∨ (0x7C00C ≤ a ∧ a ≤ 0x7C014) ∨ (0x7C020 ≤ a ∧ a < 0x7C030) ∨ a = 0x7C080 then s.reg a
  else if 0x7C040 ≤ a ∧ a < 0x7C060 then wordAt ((s.log.records.head?.map (fun r => r.words)).getD []) ((a - 0x7C040) / 4)
  else 0

/-- Injections pending on a link: its entries, and each lane with blocks still to spoil. -/
def LinkSt.injPending (l : LinkSt) : Nat := l.inject.length + (if 0 < l.bad0 then 1 else 0) + (if 0 < l.bad1 then 1 else 0)

/-- Injections pending, those of the links among them. -/
def State.injPending (s : State) : Nat := s.inj.length + ([0, 1, 2].foldl (fun n p => n + (s.linkOf p).injPending) 0)

/-- Registers of the injector. -/
def State.readInject (s : State) (a : Nat) : W32 :=
  if a = 0x80000 then word (min s.injPending 255) else if a = 0x80004 then s.reg a else 0

/-! ### The window (Table 20-1) -/

/-- What the register at an address reads as, its side effects left out. -/
def State.readReg (s : State) (a : Nat) : W32 :=
  if a < 0x1000 then s.readHub a
  else if a < 0x2000 then s.readPwr a
  else if a < 0x4000 then s.readClk a
  else if a < 0x8000 then s.readHostif a
  else if a < 0x10000 then s.readAfe a
  else if a < 0x20000 then s.readCnv a
  else if a < 0x30000 then s.readFlt a
  else if a < 0x38000 then s.readStream a
  else if a < 0x40000 then s.readMantis a
  else if a < 0x48000 then s.readCmp a
  else if a < 0x50000 then s.readFf a
  else if a < 0x53000 then s.readLink ((a - 0x50000) / 0x1000) (a % 0x1000)
  else if a < 0x58000 then 0
  else if a < 0x60000 then s.readTwin a
  else if a < 0x68000 then s.readVault a
  else if a < 0x70000 then s.readSv a
  else if a < 0x74000 then s.readFlash a
  else if a < 0x78000 then (if a = 0x74004 ∨ (0x74040 ≤ a ∧ a < 0x74060) ∨ (0x74080 ≤ a ∧ a < 0x74140) then s.reg a else 0)
  else if a < 0x7C000 then s.readPins a
  else if a < 0x7E000 then s.readErr a
  else if a < 0x80000 then s.readTrace a
  else if a < 0x81000 then s.readInject a
  else 0

end Sys2Proof.Machine
end

