-- ==== Sys2Proof/Machine/Registers.lean ====
section
/-! DEFINITION. What a write to the register window does (R9, R291, R472 to R477): set-up registers take their value, a 1 clears a sticky bit, a write-only register acts, and every other write is ignored; the accesses that are discarded and counted. -/

namespace Sys2Proof.Machine

open Sys2Proof

/-- The state a command answers, as an update. -/
def Out.state (o : Out) (s : State) : State :=
  match o with
  | .next t => t
  | .fault _ => s
  | .refused _ => s

/-- Bits of a register that software sets by writing them (R9, R8: reserved bits read 0); none for a register that is not plainly read and written. -/
def rwMask (a : Nat) : Option Nat :=
  if a = 0x1008 then some 0x377
  else if a = 0x100C then some 0x9F9F
  else if a = 0x4000 then some 0xFFFFF000
  else if a = 0x1010 ∨ a = 0x4004 ∨ a = 0x4008 ∨ a = 0x400C ∨ a = 0x48030 ∨ a = 0x48034 ∨ a = 0x68044 ∨ a = 0x68048 ∨ a = 0x78088 then some 0xFFFFFFFF
  else if a = 0x401C then some 0x3F
  else if a = 0x48038 then some 0xFFFF
  else if a = 0x68040 then some 0xFFFFFFF8
  else if a = 0x7C004 then some 0x03FF0003
  else none

/-- Bits of a register that a written 1 clears (R9). -/
def rw1cMask (a : Nat) : Nat :=
  if a = Reg.hubStatus then 0x300
  else if a = Reg.cfgStatus then 0x100
  else if a = Reg.pwrStatus ∨ a = Reg.clkStatus ∨ a = Reg.cmpStatus then 0x700
  else if 0x4100 ≤ a ∧ a < 0x4500 ∧ a % 16 = 12 then 0x38
  else if 0x4500 ≤ a ∧ a < 0x4900 ∧ a % 16 = 12 then 0x4
  else if 0x8400 ≤ a ∧ a < 0x8480 then 0xFC00
  else if 0x10000 ≤ a ∧ a < 0x11000 ∧ a % 64 = 0 then 0xF800
  else if a = Reg.mainsStatus then 0xF0
  else if 0x30000 ≤ a ∧ a < 0x31000 ∧ a % 64 = 0 then 0xE000
  else if 0x38000 ≤ a ∧ a < 0x38400 ∧ a % 64 = 0 then 0x700
  else if a = Reg.ffStatus then 0x7E00
  else if 0x48100 ≤ a ∧ a < 0x48160 ∧ a % 32 = 0 then 0x100
  else if 0x48200 ≤ a ∧ a < 0x48210 then 0x100
  else if 0x50000 ≤ a ∧ a < 0x53000 ∧ a % 0x1000 = 0 then 0xF800
  else if a = Reg.twinStatus then 0x3C00
  else if a = Reg.svStatus ∨ a = Reg.fwStatus then 0xC000
  else if a = Reg.flashStatus then 0x100
  else if a = Reg.traceStatus then 0x10000
  else if a = Reg.errStatus then 0x200
  else 0

/-- A written 1 clears a sticky bit; for SHORT_SEEN and REVERSED_SEEN it also re-arms the output (R80). -/
def State.clearSticky (s : State) (a : Nat) (v : W32) : State :=
  let s := s.setReg a (s.reg a &&& ~~~ (v &&& word (rw1cMask a)))
  if 0x8400 ≤ a ∧ a < 0x8480 then
    let m := (a - 0x8400) / 4
    (s.doIf (v.getLsbD 10) (fun t => t.rearm m 10 .short)).doIf (v.getLsbD 13) (fun t => t.rearm m 13 .reversed)
  else s

/-- A write to a submission ring's registers (R290 to R292). -/
def State.writeSq (s : State) (r : Fin 64) (off : Nat) (v : W32) : State :=
  let on := (s.sqOf r).enabled
  if off = 8 then
    if on then (if v.getLsbD 0 then s else (execSqDisable r s).state s)
    else if v.getLsbD 0 then (execSqEnable r v s).state s
    else s.setReg (Reg.sq r 8) (v &&& 0xFCF0)
  else if on then s.bump 0x4020
  else s.setReg (Reg.sq r off) (if off = 0 then v &&& 0xFFFFF000 else v)

/-- A write to a completion ring's registers (R290, R291). -/
def State.writeCq (s : State) (q : Fin 64) (off : Nat) (v : W32) : State :=
  let on := (s.cqOf q).enabled
  if off = 8 then
    if on then (if v.getLsbD 0 then s else (execCqDisable q s).state s)
    else if v.getLsbD 0 then (execCqEnable q v s).state s
    else s.setReg (Reg.cq q 8) (v &&& 0xFFFFFFF0)
  else if on then s.bump 0x4020
  else s.setReg (Reg.cq q off) (if off = 0 then v &&& 0xFFFFF000 else v)

/-- A write to the MSI-X table (R284): the address keeps its two low bits 0, the control word its mask bit; a vector that is no longer masked sends what is pending. -/
def State.writeMsix (s : State) (a : Nat) (v : W32) : State :=
  (s.setReg a (if a % 16 = 12 then v &&& 1 else if a % 16 = 0 then v &&& 0xFFFFFFFC else v)).msixPending

/-- A ring of a register offset. -/
def ringAt (a base : Nat) : Fin 64 := ⟨(a - base) / 16 % 64, Nat.mod_lt _ (by decide)⟩

/-- A write-only register acts (R9); the path says who wrote it. -/
def State.writeAct (s : State) (path : Path) (a : Nat) (v : W32) : State :=
  if a = 0x30 then (execHubCtrl v path s).state s
  else if a = 0x1004 then
    (s.doIf (v.getLsbD 0) (fun t => t.hibAsk path)).doIf (v.getLsbD 1 && decide (path = .sideband)) (fun t => t.wakeFire 0x10)
  else if a = 0x8710 then s.doIf (v.getLsbD 0) (fun t => (execOwTestStart t).state t)
  else if a = 0x31000 then (execStreamFlush false v s).state s
  else if a = 0x31004 then (execStreamFlush true v s).state s
  else if a = 0x38508 then (execMantisForce v s).state s
  else if a = 0x4803C then s.doIf (v.getLsbD 0) (fun t => (execFfSetGo path t).state t)
  else if a = 0x48114 ∨ a = 0x48134 ∨ a = 0x48154 then s.doIf (v.getLsbD 0) (fun t => (execTxtsPop (portOf ((a - 0x48114) / 32)) t).state t)
  else if a = 0x50008 ∨ a = 0x51008 ∨ a = 0x52008 then s.doIf (v.getLsbD 0) (fun t => (execRetrain (portOf ((a - 0x50008) / 0x1000)) t).state t)
  else if a = 0x6804C then s.doIf (v.getLsbD 0) State.reqGo
  else if a = 0x7808C then (execPinOutSet v s).state s
  else if a = 0x78090 then (execPinOutClr v s).state s
  else if a = 0x7C008 then (execErrlogPop v s).state s
  else if a = 0x7E004 then (execTracePop v s).state s
  else s

/-- One whole 32-bit write to the register window. -/
def State.writeReg (s : State) (path : Path) (a : Nat) (v : W32) : State :=
  match rwMask a with
  | some m => s.setReg a (v &&& word m)
  | none =>
    if rw1cMask a ≠ 0 then s.clearSticky a v
    else if 0x4100 ≤ a ∧ a < 0x4500 then s.writeSq (ringAt a 0x4100) (a % 16) v
    else if 0x4500 ≤ a ∧ a < 0x4900 then s.writeCq (ringAt a 0x4500) (a % 16) v
    else if 0x6000 ≤ a ∧ a < 0x6400 then s.writeMsix a v
    else if 0x60000 ≤ a ∧ a < 0x60040 then s.doIf s.otp.vaultFuse (fun t => t.bump 0x60014)
    else s.writeAct path a v

/-- Words written upward from an address, one access each (R472). -/
def State.writeRegs (s : State) (path : Path) (a : Nat) : List W32 → State
  | [] => s
  | w :: ws => State.writeRegs (s.writeReg path a w) path (a + 4) ws

/-- The side effect of a 32-bit read (R216): FF_NOW_LO latches the rest of its instant; a latched word returns its latch once. -/
def State.readEffect (s : State) (a : Nat) : State :=
  if a = 0x48010 then { s with ff := { s.ff with nowHi := some (W32.hi s.nowNs), nowFrac := some (word (s.now % 65536)) } }
  else if a = 0x48014 then { s with ff := { s.ff with nowHi := none } }
  else if a = 0x48008 then { s with ff := { s.ff with nowFrac := none } }
  else s

/-- The side effects of n reads upward. -/
def State.readEffects : Nat → Nat → State → State
  | 0, _, s => s
  | n + 1, a, s => State.readEffects n (a + 4) (s.readEffect a)

/-- The core domain is off (R415, R450): its supplies are not enabled, or step 2 has not found them in regulation. -/
def State.coreOff (s : State) : Bool := !s.pads.enDig || decide (s.boot.stage ≤ 2)

/-- Number of the first enabled byte of a DW. -/
def firstByte (b : BitVec 4) : Nat := if b.getLsbD 0 then 0 else if b.getLsbD 1 then 1 else if b.getLsbD 2 then 2 else if b.getLsbD 3 then 3 else 0

/-- Window address of a request's first DW. -/
def RegRequest.base (r : RegRequest) : Nat := r.addr / 4 * 4 % 1048576

/-- An access is counted (R474): its number, HUB_ACCESS_LAST, ACCESS_SEEN. -/
def State.accessDenied (s : State) (kind : Nat) (r : RegRequest) : State :=
  ((s.bump 0x24).setReg 0x28 (at_ 28 kind ||| word ((RegRequest.base r + firstByte r.first) % 1048576))).setBitRaise 0 Reg.hubStatus 8 0xFFFF

/-- A request of one DW with fewer than four bytes enabled (Table 20-2). -/
def narrow (r : RegRequest) : Bool := decide (r.data.length = 1) && decide (r.first ≠ 0xF)

/-- A request of several DWs whose first or last is not fully enabled (Table 20-2). -/
def unaligned (r : RegRequest) : Bool := decide (2 ≤ r.data.length) && (decide (r.first ≠ 0xF) || decide (r.last ≠ 0xF))

/-- REGISTER_WRITE (R472, Table 20-2): a narrow or unaligned write is discarded whole and counted. -/
def execRegisterWrite (r : RegRequest) (s : State) : Out :=
  if s.coreOff then .next s
  else
    let s := s.coreNeed
    if narrow r then .next (s.accessDenied 1 r)
    else if unaligned r then .next (s.accessDenied 3 r)
    else .next (s.writeRegs .host (RegRequest.base r) r.data)

/-- UNALIGNED_READ (R472, R474): every byte reads 0xFF and the access is counted; a read that is not unaligned has the side effects of its words alone, a 64-bit read of FF_NOW latching its fraction only (R216). -/
def execUnalignedRead (r : RegRequest) (s : State) : Out :=
  if s.coreOff then .next s
  else
    let s := s.coreNeed
    if unaligned r then .next (s.accessDenied 2 r)
    else if RegRequest.base r = 0x48010 ∧ r.data.length = 2 then execFfNowRead true s
    else .next (State.readEffects r.data.length (RegRequest.base r) s)

end Sys2Proof.Machine
end

