-- ==== Sys2Proof/Machine/Sideband.lean ====
section
/-! DEFINITION. The side-band port (chapter 17): what makes a frame valid (R396, R420 to R422), the commands of Table 17-4 (R425, R426), and the status byte and response (R423, R424). -/

namespace Sys2Proof.Machine

open Sys2Proof

/-! ### What the next frame shifts out -/

/-- The status byte (R423) as a number; NOT_READY is 0 once the response stands. -/
def State.sbStatusByte (s : State) : Nat :=
  128 + (if s.coreOff then 32 else 0) + (if s.pads.pcieUp then 0 else 16) + (if s.log.records.isEmpty then 0 else 8)
    + (if s.sb.descBusy then 4 else 0) + (if s.sv.owned then 2 else 0)

/-- The second word of a response: CMD and PARAM of the frame it answers. -/
def State.sbEcho (s : State) : W32 := word (16777216 * s.sb.cmd.toNat + s.sb.param.toNat)

/-- The response to the last frame taken (R424). -/
def State.sbResponse (s : State) : List W32 :=
  [word (s.sbStatusByte + 256 * s.sb.result.toNat + 65536 * s.sb.response.length), s.sbEcho] ++ s.sb.response

/-- What a frame that starts before the response is ready shows (R424): NOT_READY, RESULT 0xFF, no data. -/
def State.sbNotReady (s : State) : List W32 := [word (s.sbStatusByte + 1 + 256 * 255), s.sbEcho]

/-- Bits of a byte, most significant first (R420). -/
def byteBits (b : Byte) : List Bool := [7, 6, 5, 4, 3, 2, 1, 0].map (fun i => b.getLsbD i)

/-- Words on the side-band lines (R6, R420): each as four bytes, least significant first. -/
def sbShift (ws : List W32) : List Bool := (wordBytes ws).flatMap byteBits

/-- What SB_MISO carries in a frame of n bits (R423, R424): the response, then 0. -/
def State.sbMiso (s : State) (early : Bool) (n : Nat) : List Bool :=
  let bits := sbShift (if early then s.sbNotReady else s.sbResponse)
  bits.take n ++ List.replicate (n - bits.length) false

/-! ### Validity -/

/-- A word that may be read without a tag (R396): HUB identity, SVETRON_STATUS, SVETRON_FPR, SB_SESSION. -/
def tagFree (a : Nat) : Bool := decide (a ≤ 0x1C ∨ a = 0x68000 ∨ (0x68010 ≤ a ∧ a ≤ 0x6801C) ∨ a = 0x68060)

/-- Words that a READ or WRITE covers. -/
def SbFrame.count (f : SbFrame) : Nat := if f.cmd = 1 then f.param.toNat else f.nwords.toNat

/-- A command other than NOP carries COUNTER. -/
def SbFrame.counted (f : SbFrame) : Bool := decide (f.cmd ≠ 0)

/-- The frame carries a tag (R421). -/
def State.sbTagged (s : State) (f : SbFrame) : Bool :=
  s.sv.owned && SbFrame.counted f
    && !(decide (f.cmd = 1) && (List.range f.param.toNat).all (fun i => tagFree (f.addr.toNat + 4 * i)))

/-- NWORDS and PARAM are in range for the command (Table 17-4). -/
def SbFrame.shape (f : SbFrame) : Bool :=
  let n := f.nwords.toNat
  let p := f.param.toNat
  if f.cmd = 0 then decide (n = 0 ∧ p = 0)
  else if f.cmd = 1 then decide (n = 0 ∧ 1 ≤ p ∧ p ≤ 64)
  else if f.cmd = 2 then decide (1 ≤ n ∧ n ≤ 64 ∧ p = 0)
  else if f.cmd = 3 then decide (16 ≤ n ∧ n ≤ 64 ∧ p = 0)
  else if f.cmd = 4 then decide (1 ≤ n ∧ n ≤ 64 ∧ p / 256 % 128 = 0 ∧ p % 256 + n ≤ 256)
  else false

/-- Length of a frame in words (Table 17-1). -/
def State.sbWords (s : State) (f : SbFrame) : Nat :=
  2 + (if SbFrame.counted f then 2 + f.nwords.toNat else 0) + (if s.sbTagged f then 4 else 0)

/-- The frame is laid out as R421 states. -/
def State.sbFormat (s : State) (f : SbFrame) : Bool :=
  SbFrame.shape f && decide (f.bits = 32 * s.sbWords f) && decide (f.data.length = f.nwords.toNat)

/-- The range of a READ or WRITE lies in the register window, on words. -/
def SbFrame.inWindow (f : SbFrame) : Bool :=
  !decide (f.cmd = 1 ∨ f.cmd = 2) || decide (f.addr.toNat % 4 = 0 ∧ f.addr.toNat + 4 * SbFrame.count f ≤ 1048576)

/-- The command words as sent (R421). -/
def SbFrame.sent (f : SbFrame) : List W32 := word (16777216 * f.cmd.toNat + 65536 * f.nwords.toNat + f.param.toNat) :: f.addr :: f.data

/-- What SB_MOSI carries in a frame (R420, R421). -/
def State.sbMosi (s : State) (f : SbFrame) : List Bool :=
  let counter := if SbFrame.counted f then two f.counter.toNat else []
  sbShift ((SbFrame.sent f).take 2 ++ counter ++ f.data) ++ (if s.sbTagged f then f.tag.flatMap byteBits else [])

/-- The tag of a command (R396). -/
def State.sbTag (s : State) (f : SbFrame) : List Byte :=
  (Config.hmacSha256 s.sv.sbKey (randomBytes s.sv.session 4 ++ leBytes 8 f.counter.toNat ++ wordBytes (SbFrame.sent f))).take 16

/-- RESULT of a frame: the first failure in the order of Table 17-2, 0 when it is taken. -/
def State.sbCheck (s : State) (f : SbFrame) : Nat :=
  if f.bits % 32 ≠ 0 then 1
  else if s.sbFormat f = false then 2
  else if SbFrame.inWindow f = false then 5
  else if s.sbTagged f = true ∧ f.tag ≠ s.sbTag f then 3
  else if s.sv.owned = true ∧ SbFrame.counted f = true ∧ f.counter.toNat ≤ s.sv.sbCounter.toNat then 4
  else if (f.cmd = 3 ∨ f.cmd = 4) ∧ s.coreOff = true then 6
  else if f.cmd = 3 ∧ s.sb.descBusy = true then 7
  else 0

/-- The response to a frame stands (R424). -/
def State.sbAnswer (s : State) (f : SbFrame) (result : Nat) (data : List W32) : State :=
  { s with sb := { s.sb with result := BitVec.ofNat 8 result, cmd := f.cmd, param := f.param, response := data, endUp := some s.tm.up } }

/-- A frame starts before the response to the one before it is ready (R424): that is possible for no more than 50 µs. -/
def State.sbEarly (s : State) (f : SbFrame) : Bool := f.early && s.sb.endUp.any (fun u => decide (s.tm.up < u + 50000))

/-- A rejected frame executes nothing, moves no counter, and is counted (R422); on an OWNED hub one that fails by its tag or its counter is a failing command of R396. -/
def State.sbReject (s : State) (f : SbFrame) (result : Nat) : State :=
  let s := s.bump 0x74004
  let s := if result = 3 ∨ result = 4 then (s.bump 0x68070).setBit Reg.svStatus 14 else s
  s.sbAnswer f result []

/-- An accepted command moves SB_COUNTER (R396). -/
def State.sbAccept (s : State) (f : SbFrame) : State :=
  if s.sv.owned && SbFrame.counted f then { s with sv := { s.sv with sbCounter := f.counter } } else s

/-- Take a frame: one that starts before the response is ready is not taken (R424); the rest is checked, and a good one runs. -/
def State.sbTake (s : State) (f : SbFrame) (run : State → State × List W32) : State :=
  if s.sbEarly f then s
  else
    let r := s.sbCheck f
    if r ≠ 0 then s.sbReject f r
    else
      let out := run (s.coreNeed.sbAccept f)
      out.1.sbAnswer f 0 out.2

/-! ### What the commands reach -/

/-- Blocks and registers of the Cricket domain (Table 20-1). -/
def cricketReg (a : Nat) : Bool :=
  decide ((0x1000 ≤ a ∧ a < 0x2000) ∨ (0x74000 ≤ a ∧ a < 0x80000) ∨ (0x68060 ≤ a ∧ a < 0x68074))

/-- BOOT_STATUS, which shows through the side-band port where start-up stands before the core domain is up (R443, R446; assumption 113). -/
def State.showsStage (s : State) (a : Nat) : Bool := decide (a = Reg.bootStatus) && !decide (s.pwr.mode = .hibernate)

/-- A block whose domain is off (R415), that of the vault for good on the part without it (R3); a reserved address has no domain. -/
def State.blockOff (s : State) (a : Nat) : Bool :=
  (s.coreOff && !cricketReg a && decide (a < 0x81000)) || (!s.otp.vaultFuse && decide (0x60000 ≤ a ∧ a < 0x68000))

/-- n words read upward (R415, R425). -/
def sbReadWords : Nat → Nat → State → State × List W32
  | 0, _, s => (s, [])
  | n + 1, a, s =>
    if s.blockOff a && !s.showsStage a then
      let r := sbReadWords n (a + 4) s
      (r.1, 0xFFFFFFFF :: r.2)
    else
      let r := sbReadWords n (a + 4) (s.readEffect a)
      (r.1, s.readReg a :: r.2)

/-- Words written upward, in order; a block whose domain is off takes none (R415, R425). -/
def sbWriteWords : List W32 → Nat → State → State
  | [], _, s => s
  | w :: ws, a, s => sbWriteWords ws (a + 4) (if s.blockOff a then s else s.writeReg .sideband a w)

/-- SB_NOP (R425). -/
def execSbNop (f : SbFrame) (s : State) : Out :=
  .next (if f.cmd = 0 then s.sbTake f (fun t => (t, [])) else s)

/-- SB_READ (R425). -/
def execSbRead (f : SbFrame) (s : State) : Out :=
  .next (if f.cmd = 1 then s.sbTake f (sbReadWords f.param.toNat f.addr.toNat) else s)

/-- SB_WRITE (R425). -/
def execSbWrite (f : SbFrame) (s : State) : Out :=
  .next (if f.cmd = 2 then s.sbTake f (fun t => (sbWriteWords f.data f.addr.toNat t, [])) else s)

/-- A side-band descriptor is taken (R426): it joins the order of R302. -/
def State.sbDescTake (s : State) (data : List W32) : State :=
  let d : Desc :=
    { id := s.host.nextId, ring := 64, cq := 0, words := data.take 16, inline := wordBytes (data.drop 16), since := s.tm.up, taken := false, bad := 0, fetchedAt := s.now }
  ({ s with sb := { s.sb with descBusy := true } } : State).enlist d

/-- SB_DESC (R426). -/
def execSbDesc (f : SbFrame) (s : State) : Out :=
  .next (if f.cmd = 3 then s.sbTake f (fun t => (t.sbDescTake f.data, [])) else s)

/-- Words into the request buffer from an offset upward. -/
def reqBufWrite : List W32 → Nat → Cells W32 → Cells W32
  | [], _, b => b
  | w :: ws, o, b => reqBufWrite ws (o + 1) (Cells.set (fun _ => 0) b o w)

/-- SVREQ (R390, R425): DATA into the request buffer, and with GO a request of all words up to the last one. -/
def State.sbSvreqTake (s : State) (f : SbFrame) : State :=
  let o := f.param.toNat % 256
  let buf := reqBufWrite f.data o s.sb.reqBuf
  let s := { s with sb := { s.sb with reqBuf := buf } }
  if f.param.getLsbD 15 then
    s.reqArrive .sideband (wordBytes ((List.range (o + f.data.length)).map (fun i => Cells.get (fun _ => 0) buf i)))
  else s

/-- SB_SVREQ (R425). -/
def execSbSvreq (f : SbFrame) (s : State) : Out :=
  .next (if f.cmd = 4 then s.sbTake f (fun t => (t.sbSvreqTake f, [])) else s)

/-- SB_MALFORMED_FRAME (R422): a frame that fails LENGTH or FORMAT. -/
def execSbMalformedFrame (f : SbFrame) (s : State) : Out :=
  .next (if !s.sbEarly f && decide (s.sbCheck f = 1 ∨ s.sbCheck f = 2) then s.sbReject f (s.sbCheck f) else s)

end Sys2Proof.Machine
end

