-- ==== Sys2Proof/Machine/Dispatch.lean ====
section
/-! DEFINITION. One arm per command: each calls its meaning. -/

namespace Sys2Proof.Machine

open Sys2Proof

/-- The effect of a command on everything but the queue. -/
def exec (i : Instr) (s : State) : Host.Outcome State Fault Refusal :=
  match i with
  | .por => Sys2Proof.Machine.execPor s
  | .warm src => Sys2Proof.Machine.execWarm src s
  | .vaultReset imageOk => Sys2Proof.Machine.execVaultReset imageOk s
  | .startupStepEnd rep => Sys2Proof.Machine.execStartupStepEnd rep s
  | .supplyTimeout => Sys2Proof.Machine.execSupplyTimeout s
  | .supplyRetry => Sys2Proof.Machine.execSupplyRetry s
  | .stepOverrun => Sys2Proof.Machine.execStepOverrun s
  | .roleResolution edgeSeen => Sys2Proof.Machine.execRoleResolution edgeSeen s
  | .strobeEdge g e => Sys2Proof.Machine.execStrobeEdge g e s
  | .strobeEvent g sources => Sys2Proof.Machine.execStrobeEvent g sources s
  | .eventStrobeEdge g e => Sys2Proof.Machine.execEventStrobeEdge g e s
  | .starved g => Sys2Proof.Machine.execStarved g s
  | .conversionDone n slot d completed => Sys2Proof.Machine.execConversionDone n slot d completed s
  | .frameReady g => Sys2Proof.Machine.execFrameReady g s
  | .mainsCrossingTimeout => Sys2Proof.Machine.execMainsCrossingTimeout s
  | .mainsAccept => Sys2Proof.Machine.execMainsAccept s
  | .mainsStateTimer => Sys2Proof.Machine.execMainsStateTimer s
  | .mainsWeightApply g => Sys2Proof.Machine.execMainsWeightApply g s
  | .triggerOutEnd => Sys2Proof.Machine.execTriggerOutEnd s
  | .triggerInEdge v rising => Sys2Proof.Machine.execTriggerInEdge v rising s
  | .captureWindowEnd u => Sys2Proof.Machine.execCaptureWindowEnd u s
  | .captureCopyDone u => Sys2Proof.Machine.execCaptureCopyDone u s
  | .packetMaxAge x => Sys2Proof.Machine.execPacketMaxAge x s
  | .gapRecordWrite x => Sys2Proof.Machine.execGapRecordWrite x s
  | .packetCompressed lane eccError => Sys2Proof.Machine.execPacketCompressed lane eccError s
  | .cmpBypass x => Sys2Proof.Machine.execCmpBypass x s
  | .packetSigned x => Sys2Proof.Machine.execPacketSigned x s
  | .packetDmaDone x => Sys2Proof.Machine.execPacketDmaDone x s
  | .statsIntervalEnd => Sys2Proof.Machine.execStatsIntervalEnd s
  | .protectionOpen k positive => Sys2Proof.Machine.execProtectionOpen k positive s
  | .protectionClose k => Sys2Proof.Machine.execProtectionClose k s
  | .pulseStart m midUv => Sys2Proof.Machine.execPulseStart m midUv s
  | .polarityCheck m senseUv => Sys2Proof.Machine.execPolarityCheck m senseUv s
  | .inrushEnd m => Sys2Proof.Machine.execInrushEnd m s
  | .pulseEnd m limited => Sys2Proof.Machine.execPulseEnd m limited s
  | .shortDetect m => Sys2Proof.Machine.execShortDetect m s
  | .retryElapsed m => Sys2Proof.Machine.execRetryElapsed m s
  | .openSenseTestEnd m ran shiftPUv shiftNUv => Sys2Proof.Machine.execOpenSenseTestEnd m ran shiftPUv shiftNUv s
  | .pumpReady => Sys2Proof.Machine.execPumpReady s
  | .pumpSagTimeout => Sys2Proof.Machine.execPumpSagTimeout s
  | .seizeAssert => Sys2Proof.Machine.execSeizeAssert s
  | .seizeRelease => Sys2Proof.Machine.execSeizeRelease s
  | .shortSeenRearm m => Sys2Proof.Machine.execShortSeenRearm m s
  | .reversedSeenRearm m => Sys2Proof.Machine.execReversedSeenRearm m s
  | .owTestStart => Sys2Proof.Machine.execOwTestStart s
  | .owTestEnd moved => Sys2Proof.Machine.execOwTestEnd moved s
  | .nudge writes => Sys2Proof.Machine.execNudge writes s
  | .dbPoll => Sys2Proof.Machine.execDbPoll s
  | .doorbellFetch readOk => Sys2Proof.Machine.execDoorbellFetch readOk s
  | .descriptorFetch r readOk => Sys2Proof.Machine.execDescriptorFetch r readOk s
  | .cqModerationTimer q => Sys2Proof.Machine.execCqModerationTimer q s
  | .engineHoldTimeout id => Sys2Proof.Machine.execEngineHoldTimeout id s
  | .sqEnable r v => Sys2Proof.Machine.execSqEnable r v s
  | .sqDisable r => Sys2Proof.Machine.execSqDisable r s
  | .cqEnable q v => Sys2Proof.Machine.execCqEnable q v s
  | .cqDisable q => Sys2Proof.Machine.execCqDisable q s
  | .pcieConventionalReset => Sys2Proof.Machine.execPcieConventionalReset s
  | .nop id => Sys2Proof.Machine.execNop id s
  | .fence id => Sys2Proof.Machine.execFence id s
  | .cfgBegin id => Sys2Proof.Machine.execCfgBegin id s
  | .cfgWrite id => Sys2Proof.Machine.execCfgWrite id s
  | .cfgCommit id bankOk => Sys2Proof.Machine.execCfgCommit id bankOk s
  | .cfgRollback id => Sys2Proof.Machine.execCfgRollback id s
  | .cfgTxnTimeout => Sys2Proof.Machine.execCfgTxnTimeout s
  | .heldCommitValidate id bankOk => Sys2Proof.Machine.execHeldCommitValidate id bankOk s
  | .cfgFlip confirmed => Sys2Proof.Machine.execCfgFlip confirmed s
  | .heldRestart g => Sys2Proof.Machine.execHeldRestart g s
  | .liveBankEcc => Sys2Proof.Machine.execLiveBankEcc s
  | .cfgStoreDone ok => Sys2Proof.Machine.execCfgStoreDone ok s
  | .streamBuf id => Sys2Proof.Machine.execStreamBuf id s
  | .captureArm id => Sys2Proof.Machine.execCaptureArm id s
  | .captureRead id => Sys2Proof.Machine.execCaptureRead id s
  | .statsRead id => Sys2Proof.Machine.execStatsRead id s
  | .compress id => Sys2Proof.Machine.execCompress id s
  | .decompress id => Sys2Proof.Machine.execDecompress id s
  | .timePulse id => Sys2Proof.Machine.execTimePulse id s
  | .timePulseRise k => Sys2Proof.Machine.execTimePulseRise k s
  | .timePulseFall k => Sys2Proof.Machine.execTimePulseFall k s
  | .fwStage id => Sys2Proof.Machine.execFwStage id s
  | .fwActivate id => Sys2Proof.Machine.execFwActivate id s
  | .fwConfirm id => Sys2Proof.Machine.execFwConfirm id s
  | .fwAutoConfirm => Sys2Proof.Machine.execFwAutoConfirm s
  | .fwConfirmLimit => Sys2Proof.Machine.execFwConfirmLimit s
  | .signReq id => Sys2Proof.Machine.execSignReq id s
  | .attest id => Sys2Proof.Machine.execAttest id s
  | .vaultCmdStatus id => Sys2Proof.Machine.execVaultCmdStatus id s
  | .vaultCmdReadRecords id => Sys2Proof.Machine.execVaultCmdReadRecords id s
  | .vaultCmdAck id => Sys2Proof.Machine.execVaultCmdAck id s
  | .vaultCmdReadAudit id => Sys2Proof.Machine.execVaultCmdReadAudit id s
  | .vaultCmdAuth id => Sys2Proof.Machine.execVaultCmdAuth id s
  | .vaultCmdReset id => Sys2Proof.Machine.execVaultCmdReset id s
  | .twinCmdStatus id => Sys2Proof.Machine.execTwinCmdStatus id s
  | .twinCmdSwap id => Sys2Proof.Machine.execTwinCmdSwap id s
  | .twinCmdTakeover id => Sys2Proof.Machine.execTwinCmdTakeover id s
  | .twinCmdReleaseSeize id => Sys2Proof.Machine.execTwinCmdReleaseSeize id s
  | .twinCmdResume id => Sys2Proof.Machine.execTwinCmdResume id s
  | .twinCmdResync id => Sys2Proof.Machine.execTwinCmdResync id s
  | .injectCancel id => Sys2Proof.Machine.execInjectCancel id s
  | .injectDrop id => Sys2Proof.Machine.execInjectDrop id s
  | .injectCorrupt id => Sys2Proof.Machine.execInjectCorrupt id s
  | .injectReorder id => Sys2Proof.Machine.execInjectReorder id s
  | .injectTag id => Sys2Proof.Machine.execInjectTag id s
  | .injectHeader id => Sys2Proof.Machine.execInjectHeader id s
  | .injectSquelch id => Sys2Proof.Machine.execInjectSquelch id s
  | .injectExcShort id => Sys2Proof.Machine.execInjectExcShort id s
  | .injectExcOpen id => Sys2Proof.Machine.execInjectExcOpen id s
  | .injectExcReversed id => Sys2Proof.Machine.execInjectExcReversed id s
  | .injectExcSenseOpen id => Sys2Proof.Machine.execInjectExcSenseOpen id s
  | .injectAinOpen id => Sys2Proof.Machine.execInjectAinOpen id s
  | .injectAinOvervolt id => Sys2Proof.Machine.execInjectAinOvervolt id s
  | .injectCnvRef id => Sys2Proof.Machine.execInjectCnvRef id s
  | .injectCnvSupply id => Sys2Proof.Machine.execInjectCnvSupply id s
  | .injectCnvTemp id => Sys2Proof.Machine.execInjectCnvTemp id s
  | .injectCnvXchk id => Sys2Proof.Machine.execInjectCnvXchk id s
  | .injectCnvTimeout id => Sys2Proof.Machine.execInjectCnvTimeout id s
  | .injectMemCorrectable id => Sys2Proof.Machine.execInjectMemCorrectable id s
  | .injectMemUncorrectable id => Sys2Proof.Machine.execInjectMemUncorrectable id s
  | .injectHostDmaError id => Sys2Proof.Machine.execInjectHostDmaError id s
  | .injectHostPostingHeld id => Sys2Proof.Machine.execInjectHostPostingHeld id s
  | .injectEngineWatchdog id => Sys2Proof.Machine.execInjectEngineWatchdog id s
  | .injectFireflyTheta id => Sys2Proof.Machine.execInjectFireflyTheta id s
  | .injectFireflyInvalid id => Sys2Proof.Machine.execInjectFireflyInvalid id s
  | .injectTwinSum id => Sys2Proof.Machine.execInjectTwinSum id s
  | .injectTwinAliveStop id => Sys2Proof.Machine.execInjectTwinAliveStop id s
  | .injectTwinHealthWithheld id => Sys2Proof.Machine.execInjectTwinHealthWithheld id s
  | .injectPumpSag id => Sys2Proof.Machine.execInjectPumpSag id s
  | .injectFatal id => Sys2Proof.Machine.execInjectFatal id s
  | .syncInterval => Sys2Proof.Machine.execSyncInterval s
  | .sync p m => Sys2Proof.Machine.execSync p m s
  | .delayReq p m => Sys2Proof.Machine.execDelayReq p m s
  | .delayResp p m => Sys2Proof.Machine.execDelayResp p m s
  | .exchangeTimeout p => Sys2Proof.Machine.execExchangeTimeout p s
  | .parentTimeout => Sys2Proof.Machine.execParentTimeout s
  | .noParent => Sys2Proof.Machine.execNoParent s
  | .ppsEdge => Sys2Proof.Machine.execPpsEdge s
  | .ppsTimeout => Sys2Proof.Machine.execPpsTimeout s
  | .ffSetGo path => Sys2Proof.Machine.execFfSetGo path s
  | .ffNowRead wide => Sys2Proof.Machine.execFfNowRead wide s
  | .txtsPop p => Sys2Proof.Machine.execTxtsPop p s
  | .frameTxEnd p => Sys2Proof.Machine.execFrameTxEnd p s
  | .frameRejected p f => Sys2Proof.Machine.execFrameRejected p f s
  | .ack p lseq => Sys2Proof.Machine.execAck p lseq s
  | .nak p lseq => Sys2Proof.Machine.execNak p lseq s
  | .replayTimeout p => Sys2Proof.Machine.execReplayTimeout p s
  | .ident p f rttNs => Sys2Proof.Machine.execIdent p f rttNs s
  | .ratePropose p rate => Sys2Proof.Machine.execRatePropose p rate s
  | .rateAccept p rate => Sys2Proof.Machine.execRateAccept p rate s
  | .ratePass p => Sys2Proof.Machine.execRatePass p s
  | .rateFail p => Sys2Proof.Machine.execRateFail p s
  | .test p f => Sys2Proof.Machine.execTest p f s
  | .soakEnd p => Sys2Proof.Machine.execSoakEnd p s
  | .keyInit p payload => Sys2Proof.Machine.execKeyInit p payload s
  | .keyResp p payload => Sys2Proof.Machine.execKeyResp p payload s
  | .keyConfirm p payload => Sys2Proof.Machine.execKeyConfirm p payload s
  | .keyRenewal p => Sys2Proof.Machine.execKeyRenewal p s
  | .lineTrigger p f => Sys2Proof.Machine.execLineTrigger p f s
  | .mgmt p => Sys2Proof.Machine.execMgmt p s
  | .detectDone p => Sys2Proof.Machine.execDetectDone p s
  | .clockLockDone p => Sys2Proof.Machine.execClockLockDone p s
  | .eqTuneDone p eyes0 eyes1 => Sys2Proof.Machine.execEqTuneDone p eyes0 eyes1 s
  | .blockLockDone bits => Sys2Proof.Machine.execBlockLockDone bits s
  | .deskewDone p lane0 lane1 aligns => Sys2Proof.Machine.execDeskewDone p lane0 lane1 aligns s
  | .linkStateTimeout p => Sys2Proof.Machine.execLinkStateTimeout p s
  | .trainingResend p => Sys2Proof.Machine.execTrainingResend p s
  | .faultRetry p => Sys2Proof.Machine.execFaultRetry p s
  | .los p => Sys2Proof.Machine.execLos p s
  | .clockUnlock p => Sys2Proof.Machine.execClockUnlock p s
  | .blockUnlock w => Sys2Proof.Machine.execBlockUnlock w s
  | .deskewLost p => Sys2Proof.Machine.execDeskewLost p s
  | .hiBer p invalidHeaders => Sys2Proof.Machine.execHiBer p invalidHeaders s
  | .loadRetrain p => Sys2Proof.Machine.execLoadRetrain p s
  | .retrain p => Sys2Proof.Machine.execRetrain p s
  | .chirpRecognised c => Sys2Proof.Machine.execChirpRecognised c s
  | .chirpSend p => Sys2Proof.Machine.execChirpSend p s
  | .twinAliveToggle => Sys2Proof.Machine.execTwinAliveToggle s
  | .twinAliveEdge => Sys2Proof.Machine.execTwinAliveEdge s
  | .activeLost => Sys2Proof.Machine.execActiveLost s
  | .digest f => Sys2Proof.Machine.execDigest f s
  | .digestMissing g frame => Sys2Proof.Machine.execDigestMissing g frame s
  | .healthSend => Sys2Proof.Machine.execHealthSend s
  | .health f => Sys2Proof.Machine.execHealth f s
  | .dualActive => Sys2Proof.Machine.execDualActive s
  | .streamSync entries => Sys2Proof.Machine.execStreamSync entries s
  | .ackWaitTimeout => Sys2Proof.Machine.execAckWaitTimeout s
  | .mainsFrame f => Sys2Proof.Machine.execMainsFrame f s
  | .cfgData records last => Sys2Proof.Machine.execCfgData records last s
  | .cfgCtrlReady crc => Sys2Proof.Machine.execCfgCtrlReady crc s
  | .cfgCtrlArm frame => Sys2Proof.Machine.execCfgCtrlArm frame s
  | .cfgReadyTimeout => Sys2Proof.Machine.execCfgReadyTimeout s
  | .swapExecute => Sys2Proof.Machine.execSwapExecute s
  | .vaultSync vseq tExit => Sys2Proof.Machine.execVaultSync vseq tExit s
  | .sealSwitchChange high => Sys2Proof.Machine.execSealSwitchChange high s
  | .weightRecordIssue => Sys2Proof.Machine.execWeightRecordIssue s
  | .alibiStoreWrite => Sys2Proof.Machine.execAlibiStoreWrite s
  | .vaultWatchdog => Sys2Proof.Machine.execVaultWatchdog s
  | .claim path => Sys2Proof.Machine.execClaim path s
  | .transfer path => Sys2Proof.Machine.execTransfer path s
  | .release path => Sys2Proof.Machine.execRelease path s
  | .setSbKey path => Sys2Proof.Machine.execSetSbKey path s
  | .setMetrologyKey path => Sys2Proof.Machine.execSetMetrologyKey path s
  | .endorse path => Sys2Proof.Machine.execEndorse path s
  | .setPolicy path => Sys2Proof.Machine.execSetPolicy path s
  | .unlockInject path => Sys2Proof.Machine.execUnlockInject path s
  | .lockInject path => Sys2Proof.Machine.execLockInject path s
  | .unlockDebug path => Sys2Proof.Machine.execUnlockDebug path s
  | .backoffEnd => Sys2Proof.Machine.execBackoffEnd s
  | .hibernate path => Sys2Proof.Machine.execHibernate path s
  | .wake => Sys2Proof.Machine.execWake s
  | .wakeTimer => Sys2Proof.Machine.execWakeTimer s
  | .wakeGpio e => Sys2Proof.Machine.execWakeGpio e s
  | .perstDeassert => Sys2Proof.Machine.execPerstDeassert s
  | .hibSupplyTimeout => Sys2Proof.Machine.execHibSupplyTimeout s
  | .burstEnd => Sys2Proof.Machine.execBurstEnd s
  | .pllRestart => Sys2Proof.Machine.execPllRestart s
  | .sbNop f => Sys2Proof.Machine.execSbNop f s
  | .sbRead f => Sys2Proof.Machine.execSbRead f s
  | .sbWrite f => Sys2Proof.Machine.execSbWrite f s
  | .sbDesc f => Sys2Proof.Machine.execSbDesc f s
  | .sbSvreq f => Sys2Proof.Machine.execSbSvreq f s
  | .flashProgram offset data => Sys2Proof.Machine.execFlashProgram offset data s
  | .flashProgramDone second ok => Sys2Proof.Machine.execFlashProgramDone second ok s
  | .engineWatchdog => Sys2Proof.Machine.execEngineWatchdog s
  | .engineReturn => Sys2Proof.Machine.execEngineReturn s
  | .unitFatal cause => Sys2Proof.Machine.execUnitFatal cause s
  | .errMsiTimer => Sys2Proof.Machine.execErrMsiTimer s
  | .errlogPop v => Sys2Proof.Machine.execErrlogPop v s
  | .tracePop v => Sys2Proof.Machine.execTracePop v s
  | .streamFlush high w => Sys2Proof.Machine.execStreamFlush high w s
  | .mantisForce w => Sys2Proof.Machine.execMantisForce w s
  | .hubCtrl v path => Sys2Proof.Machine.execHubCtrl v path s
  | .pinOutSet v => Sys2Proof.Machine.execPinOutSet v s
  | .pinOutClr v => Sys2Proof.Machine.execPinOutClr v s
  | .registerWrite req => Sys2Proof.Machine.execRegisterWrite req s
  | .unalignedRead req => Sys2Proof.Machine.execUnalignedRead req s
  | .pinSettle k high => Sys2Proof.Machine.execPinSettle k high s
  | .functionSwitchPark k => Sys2Proof.Machine.execFunctionSwitchPark k s
  | .functionSwitchConnect k => Sys2Proof.Machine.execFunctionSwitchConnect k s
  | .hibEntryDone => Sys2Proof.Machine.execHibEntryDone s
  | .refclkLoss => Sys2Proof.Machine.execRefclkLoss s
  | .pllUnlock converter => Sys2Proof.Machine.execPllUnlock converter s
  | .flashEraseDone second offset large => Sys2Proof.Machine.execFlashEraseDone second offset large s
  | .sbMalformedFrame f => Sys2Proof.Machine.execSbMalformedFrame f s
  | .reservedTypeFrame p => Sys2Proof.Machine.execReservedTypeFrame p s
  | .compressionJobDone lane => Sys2Proof.Machine.execCompressionJobDone lane s
  | .injectionDurationEnd target => Sys2Proof.Machine.execInjectionDurationEnd target s
  | .pcieLinkUp => Sys2Proof.Machine.execPcieLinkUp s
  | .busMasterEnable c => Sys2Proof.Machine.execBusMasterEnable c s

end Sys2Proof.Machine
end

