-- ==== Sys2Proof/Safety.lean ====
section
/-! DEFINITION. What holds of the hub in every state a claim may assume: each sparse store is in its one canonical form, so that a store reads back what was written and equal contents are equal data; and the stores of fixed size hold no more than the manual gives them. -/

namespace Sys2Proof.Machine

open Sys2Proof

/-- Every store that is indexed by a number of the manual (register address, group, core, input, output, channel, stream, unit, port, ring) is canonical. -/
def State.storesWf (s : State) : Bool :=
  Cells.wf resetWord s.regs && Cells.wf (fun _ => GroupSt.init) s.grp && Cells.wf (fun _ => EdgeSample.none) s.edge
    && Cells.wf (fun _ => CoreSt.init) s.core && Cells.wf (fun _ => CheckSt.init) s.pair && Cells.wf (fun _ => (none : Option ResultSt)) s.res
    && Cells.wf (fun _ => InputSt.init) s.ain && Cells.wf (fun _ => ExcSt.init) s.exc && Cells.wf (fun _ => StageSt.init) s.flt
    && Cells.wf (fun _ => StreamSt.init) s.strm && Cells.wf (fun _ => ([] : List (Nat × Tq))) s.hiveLost && Cells.wf (fun _ => StatCh.init) s.stats
    && Cells.wf (fun _ => CondSt.init) s.cond && Cells.wf (fun _ => TrigSt.init) s.trig && Cells.wf (fun _ => CapSt.init) s.cap
    && Cells.wf (fun _ => FfPortSt.init) s.ffPort && Cells.wf (fun _ => TxtsSt.init) s.txts && Cells.wf (fun _ => PulseSt.init) s.pulse
    && Cells.wf (fun _ => LinkSt.init) s.link && Cells.wf (fun _ => SqSt.init) s.sq && Cells.wf (fun _ => CqSt.init) s.cq

/-- The error log holds 512 records at most (R460), trace storage 4,096 entries (R438), and the compression engine has four lanes (R197). -/
def State.sizesOk (s : State) : Bool :=
  decide (s.log.records.length ≤ 512) && decide (s.trace.entries.length ≤ 4096) && decide (s.comp.lanes.length = 4)

/-- The invariant of the machine. -/
def State.wf (s : State) : Bool := s.storesWf && Memory.wf s.host.mem && s.sizesOk

/-- The parts of the state, one per field of State. -/
inductive Part where
  | tm | otp | pads | boot | regs | grp | edge | core | pair | res | ain | exc | pump | flt | mains | strm | hive | hiveLost | stats | cond | trig | cap | mantis | comp | ff | ffPort | txts | pulse | link | host | sq | cq | cfg | twin | vault | sv | pwr | sb | flash | trace | log | inj | injectedNow | freeCtr | pending
deriving DecidableEq, Repr

/-- A part is the same in both states. -/
def Part.same (p : Part) (s t : State) : Prop :=
  match p with
  | .tm => t.tm = s.tm
  | .otp => t.otp = s.otp
  | .pads => t.pads = s.pads
  | .boot => t.boot = s.boot
  | .regs => t.regs = s.regs
  | .grp => t.grp = s.grp
  | .edge => t.edge = s.edge
  | .core => t.core = s.core
  | .pair => t.pair = s.pair
  | .res => t.res = s.res
  | .ain => t.ain = s.ain
  | .exc => t.exc = s.exc
  | .pump => t.pump = s.pump
  | .flt => t.flt = s.flt
  | .mains => t.mains = s.mains
  | .strm => t.strm = s.strm
  | .hive => t.hive = s.hive
  | .hiveLost => t.hiveLost = s.hiveLost
  | .stats => t.stats = s.stats
  | .cond => t.cond = s.cond
  | .trig => t.trig = s.trig
  | .cap => t.cap = s.cap
  | .mantis => t.mantis = s.mantis
  | .comp => t.comp = s.comp
  | .ff => t.ff = s.ff
  | .ffPort => t.ffPort = s.ffPort
  | .txts => t.txts = s.txts
  | .pulse => t.pulse = s.pulse
  | .link => t.link = s.link
  | .host => t.host = s.host
  | .sq => t.sq = s.sq
  | .cq => t.cq = s.cq
  | .cfg => t.cfg = s.cfg
  | .twin => t.twin = s.twin
  | .vault => t.vault = s.vault
  | .sv => t.sv = s.sv
  | .pwr => t.pwr = s.pwr
  | .sb => t.sb = s.sb
  | .flash => t.flash = s.flash
  | .trace => t.trace = s.trace
  | .log => t.log = s.log
  | .inj => t.inj = s.inj
  | .injectedNow => t.injectedNow = s.injectedNow
  | .freeCtr => t.freeCtr = s.freeCtr
  | .pending => t.pending = s.pending

/-- t differs from s in the listed parts at most. -/
def State.keepsBut (F : List Part) (s t : State) : Prop := ∀ p : Part, p ∈ F ∨ p.same s t

/-- The command runs: its outcome is a next state, and that state meets P. -/
def Runs (c : Instr) (s : State) (P : State → Prop) : Prop := ∃ t, exec c s = .next t ∧ P t

/-- The parts an error's report can change (R454 to R462): counters and record, trace, and the interrupt's write to host memory. -/
def reportParts : List Part := [.regs, .host, .trace, .log]

/-- A descriptor whose turn has come (R301, R302, R304): it is in flight, names the opcode, passed the first check, nothing holds it, and the port carries requests where its operation needs host memory (R307). -/
def State.serves (s : State) (id op : Nat) (d : Desc) : Prop := s.descOf id = some d ∧ d.op = op ∧ d.bad = 0 ∧ s.turnOf d = true ∧ (d.usesHost = true → s.busUp = true)

/-- Every part but the one-time-programmable memory and the queue of waiting commands. -/
def Part.all : List Part :=
  [.tm, .pads, .boot, .regs, .grp, .edge, .core, .pair, .res, .ain, .exc, .pump, .flt, .mains, .strm, .hive, .hiveLost, .stats, .cond, .trig, .cap, .mantis, .comp, .ff, .ffPort, .txts, .pulse, .link, .host, .sq, .cq, .cfg, .twin, .vault, .sv, .pwr, .sb, .flash, .trace, .log, .inj, .injectedNow, .freeCtr]

end Sys2Proof.Machine

namespace Sys2Proof

open Sys2Proof.Machine

/-- The parts of the state a command can change. -/
def Instr.parts (i : Instr) : List Part :=
  match i with
  | .por | .warm _ | .startupStepEnd _ | .supplyRetry | .sbWrite _ | .hubCtrl _ _ | .registerWrite _ | .hibEntryDone =>
    Part.all
  | .vaultReset _ =>
    [.regs, .exc, .pump, .flt, .host, .cfg, .vault, .sv, .trace, .log, .freeCtr]
  | .supplyTimeout =>
    [.tm, .pads, .boot, .regs, .host, .vault, .pwr, .trace, .log]
  | .stepOverrun =>
    Part.all.filter (fun p => !([.otp, .edge, .core, .pair, .res, .ain, .stats, .cond, .trig, .ff, .txts, .pending].contains p))
  | .roleResolution _ =>
    [.tm, .regs, .exc, .pump, .strm, .cap, .mantis, .ffPort, .link, .host, .sq, .cq, .cfg, .twin, .sb]
  | .strobeEdge _ _ =>
    Part.all.filter (fun p => !([.otp, .pads, .boot, .pair, .strm, .hive, .hiveLost, .cap, .mantis, .comp, .ff, .txts, .pulse, .sq, .cq, .cfg, .sv, .sb, .flash, .freeCtr, .pending].contains p))
  | .strobeEvent _ _ =>
    [.regs, .grp, .exc]
  | .eventStrobeEdge _ _ =>
    Part.all.filter (fun p => !([.otp, .pads, .boot, .pair, .strm, .hive, .hiveLost, .cap, .mantis, .comp, .ff, .txts, .pulse, .sq, .cq, .sv, .pwr, .sb, .flash, .freeCtr, .pending].contains p))
  | .starved _ =>
    [.tm, .regs, .grp, .host, .trace, .log]
  | .conversionDone _ _ _ _ =>
    [.tm, .regs, .core, .pair, .res, .host, .trace, .log, .inj, .injectedNow]
  | .frameReady _ =>
    Part.all.filter (fun p => !([.otp, .pads, .boot, .edge, .ff, .txts, .pulse, .sv, .pwr, .flash, .pending].contains p))
  | .mainsCrossingTimeout =>
    [.tm, .regs, .mains]
  | .mainsAccept =>
    [.regs, .mains, .ffPort, .link, .host, .twin, .trace, .log, .freeCtr]
  | .mainsStateTimer =>
    [.tm, .regs, .mains, .host, .trace, .log]
  | .mainsWeightApply _ =>
    [.regs, .mains]
  | .triggerOutEnd =>
    [.tm, .mantis]
  | .triggerInEdge _ _ =>
    [.tm, .regs, .cap, .mantis]
  | .captureWindowEnd _ =>
    [.tm, .regs, .cap]
  | .captureCopyDone _ =>
    [.regs, .strm, .mantis, .ffPort, .link, .host, .sq, .cq, .twin, .sb, .trace, .log, .freeCtr]
  | .packetMaxAge _ | .cmpBypass _ =>
    [.tm, .regs, .strm, .hive, .hiveLost, .mantis, .comp, .ffPort, .link, .host, .sq, .cq, .twin, .sb, .inj, .injectedNow]
  | .gapRecordWrite _ | .packetCompressed _ _ | .packetSigned _ | .streamFlush _ _ =>
    [.regs, .strm, .hive, .hiveLost, .mantis, .comp, .ffPort, .link, .host, .sq, .cq, .twin, .sb, .inj, .injectedNow]
  | .packetDmaDone _ | .twinCmdSwap _ =>
    [.regs, .strm, .ffPort, .link, .host, .sq, .cq, .twin, .sb, .freeCtr]
  | .statsIntervalEnd =>
    [.tm, .stats, .pwr]
  | .protectionOpen _ _ =>
    [.regs, .ain, .host, .trace, .log]
  | .protectionClose _ =>
    [.ain, .log]
  | .pulseStart _ _ =>
    Part.all.filter (fun p => !([.otp, .pads, .boot, .grp, .edge, .core, .pair, .res, .ain, .flt, .mains, .stats, .cond, .trig, .ff, .txts, .pulse, .sv, .flash, .freeCtr, .pending].contains p))
  | .polarityCheck _ _ | .pulseEnd _ _ =>
    [.tm, .regs, .exc, .host, .trace, .log, .inj, .injectedNow]
  | .inrushEnd _ | .retryElapsed _ =>
    [.tm, .exc]
  | .shortDetect _ =>
    [.regs, .exc, .host, .trace, .log]
  | .openSenseTestEnd _ _ _ _ =>
    [.regs, .exc, .host, .trace, .log, .inj, .injectedNow]
  | .pumpReady =>
    [.exc, .pump]
  | .pumpSagTimeout =>
    [.tm, .regs, .exc, .host, .trace, .log, .injectedNow]
  | .seizeAssert | .pinSettle _ _ =>
    [.pads, .regs, .exc, .pump, .strm, .mantis, .ffPort, .link, .host, .sq, .cq, .cfg, .twin, .vault, .sb]
  | .seizeRelease =>
    [.pads, .regs, .exc, .pump, .strm, .mantis, .ffPort, .link, .host, .sq, .cq, .cfg, .twin, .sb]
  | .shortSeenRearm _ | .reversedSeenRearm _ =>
    [.regs, .exc]
  | .owTestStart =>
    [.pump]
  | .owTestEnd _ =>
    [.tm, .regs, .pump]
  | .nudge _ =>
    [.tm, .regs, .host, .pwr, .freeCtr]
  | .dbPoll =>
    [.tm, .regs, .host, .pwr]
  | .doorbellFetch _ =>
    [.regs, .strm, .host, .sq, .cq, .trace, .log, .freeCtr]
  | .descriptorFetch _ _ =>
    [.regs, .strm, .host, .sq, .cq, .sb, .inj, .freeCtr]
  | .cqModerationTimer _ =>
    [.tm, .regs, .host, .cq]
  | .engineHoldTimeout _ =>
    [.tm, .regs, .strm, .host, .sq, .cq, .cfg, .sb]
  | .sqEnable _ _ =>
    [.regs, .sq, .pwr, .log]
  | .sqDisable _ =>
    [.regs, .strm, .cap, .mantis, .comp, .ffPort, .link, .host, .sq, .cq, .cfg, .twin, .sb]
  | .cqEnable _ _ =>
    [.regs, .strm, .host, .cq]
  | .cqDisable _ =>
    [.regs, .cq]
  | .pcieConventionalReset =>
    [.pads, .regs, .strm, .cap, .mantis, .comp, .ffPort, .link, .host, .sq, .cq, .cfg, .twin, .sb, .log, .freeCtr]
  | .nop _ | .fence _ | .streamBuf _ | .statsRead _ | .signReq _ | .attest _ | .vaultCmdStatus _ | .vaultCmdReadRecords _ | .twinCmdStatus _ =>
    [.regs, .strm, .host, .sq, .cq, .sb]
  | .cfgBegin _ | .cfgRollback _ =>
    [.regs, .strm, .host, .sq, .cq, .cfg, .sb]
  | .cfgWrite _ =>
    [.regs, .strm, .host, .sq, .cq, .cfg, .sb, .freeCtr]
  | .cfgCommit _ _ | .heldCommitValidate _ _ =>
    [.regs, .strm, .ffPort, .link, .host, .sq, .cq, .cfg, .twin, .vault, .sb]
  | .cfgTxnTimeout =>
    [.tm, .regs, .host, .cfg, .trace, .log, .freeCtr]
  | .cfgFlip _ =>
    Part.all.filter (fun p => !([.tm, .otp, .edge, .res, .ain, .txts, .pending].contains p))
  | .heldRestart _ =>
    [.tm, .grp, .flt, .strm, .cond, .trig]
  | .liveBankEcc =>
    Part.all.filter (fun p => !([.tm, .otp, .pads, .boot, .edge, .core, .pair, .res, .ain, .flt, .mains, .stats, .cond, .trig, .ff, .txts, .sv, .pwr, .flash, .pending].contains p))
  | .cfgStoreDone _ =>
    [.regs, .host, .cfg, .pwr, .flash, .trace, .log, .freeCtr]
  | .captureArm _ =>
    [.regs, .strm, .cap, .host, .sq, .cq, .sb]
  | .captureRead _ =>
    [.regs, .strm, .mantis, .host, .sq, .cq, .sb, .freeCtr]
  | .compress _ | .decompress _ =>
    [.regs, .strm, .comp, .host, .sq, .cq, .sb]
  | .timePulse _ =>
    [.regs, .strm, .pulse, .host, .sq, .cq, .sb]
  | .timePulseRise _ | .timePulseFall _ =>
    [.tm, .regs, .strm, .pulse, .host, .sq, .cq, .sb]
  | .fwStage _ =>
    [.regs, .strm, .host, .sq, .cq, .pwr, .sb, .flash, .freeCtr]
  | .fwActivate _ =>
    [.boot, .regs, .exc, .pump, .flt, .strm, .host, .sq, .cq, .cfg, .vault, .sv, .pwr, .sb, .flash, .trace, .log, .freeCtr]
  | .fwConfirm _ =>
    [.regs, .strm, .host, .sq, .cq, .sv, .pwr, .sb, .flash]
  | .fwAutoConfirm =>
    [.tm, .regs, .sv, .pwr, .flash, .freeCtr]
  | .fwConfirmLimit =>
    [.tm, .boot, .regs, .exc, .pump, .flt, .host, .cfg, .vault, .sv, .pwr, .flash, .trace, .log, .freeCtr]
  | .vaultCmdAck _ =>
    [.regs, .strm, .host, .sq, .cq, .vault, .sb, .freeCtr]
  | .vaultCmdReadAudit _ =>
    [.regs, .strm, .host, .sq, .cq, .sb, .freeCtr]
  | .vaultCmdAuth _ =>
    [.regs, .strm, .host, .sq, .cq, .cfg, .vault, .sv, .sb, .freeCtr]
  | .vaultCmdReset _ =>
    [.regs, .strm, .host, .sq, .cq, .cfg, .vault, .sb]
  | .twinCmdTakeover _ =>
    [.regs, .exc, .pump, .strm, .hive, .hiveLost, .cap, .mantis, .comp, .ffPort, .link, .host, .sq, .cq, .cfg, .twin, .vault, .sb, .trace, .log, .inj, .injectedNow]
  | .twinCmdReleaseSeize _ =>
    [.regs, .strm, .host, .sq, .cq, .twin, .sb]
  | .twinCmdResume _ =>
    [.regs, .strm, .hive, .hiveLost, .mantis, .comp, .ffPort, .link, .host, .sq, .cq, .twin, .sb, .inj, .injectedNow, .freeCtr]
  | .twinCmdResync _ =>
    [.regs, .exc, .pump, .strm, .mantis, .ffPort, .link, .host, .sq, .cq, .cfg, .twin, .sb, .trace, .log, .freeCtr]
  | .injectCancel _ =>
    [.regs, .strm, .link, .host, .sq, .cq, .sb, .inj]
  | .injectDrop _ | .injectCorrupt _ | .injectReorder _ | .injectTag _ | .injectHeader _ =>
    [.regs, .strm, .link, .host, .sq, .cq, .sb]
  | .injectSquelch _ | .injectExcShort _ | .injectExcOpen _ | .injectExcReversed _ | .injectExcSenseOpen _ | .injectAinOpen _ | .injectAinOvervolt _ | .injectCnvRef _ | .injectCnvSupply _ | .injectCnvTemp _ | .injectCnvXchk _ | .injectCnvTimeout _ | .injectMemCorrectable _ | .injectMemUncorrectable _ | .injectHostDmaError _ | .injectHostPostingHeld _ | .injectFireflyTheta _ | .injectFireflyInvalid _ | .injectTwinSum _ | .injectTwinAliveStop _ | .injectTwinHealthWithheld _ | .injectPumpSag _ =>
    [.regs, .strm, .host, .sq, .cq, .sb, .inj]
  | .injectEngineWatchdog _ =>
    [.boot, .regs, .exc, .pump, .flt, .strm, .host, .sq, .cq, .cfg, .vault, .sv, .pwr, .sb, .flash, .trace, .log, .injectedNow, .freeCtr]
  | .injectFatal _ =>
    [.regs, .grp, .exc, .strm, .hive, .hiveLost, .cap, .mantis, .comp, .ffPort, .link, .host, .sq, .cq, .twin, .vault, .sb, .trace, .log, .inj, .injectedNow]
  | .syncInterval =>
    [.regs, .ff, .ffPort, .link, .twin]
  | .sync _ _ =>
    Part.all.filter (fun p => !([.otp, .pads, .boot, .edge, .core, .pair, .res, .ain, .exc, .pump, .txts, .cfg, .vault, .sv, .flash, .pending].contains p))
  | .delayReq _ _ =>
    [.regs, .ffPort, .link, .twin, .freeCtr]
  | .delayResp _ _ =>
    Part.all.filter (fun p => !([.otp, .pads, .boot, .edge, .core, .pair, .res, .ain, .flt, .mains, .stats, .cond, .trig, .cap, .txts, .vault, .sv, .flash, .pending].contains p))
  | .exchangeTimeout _ =>
    [.tm, .regs, .ffPort]
  | .parentTimeout =>
    [.tm, .regs, .ff, .ffPort, .pwr, .freeCtr]
  | .noParent =>
    [.tm, .regs, .host, .trace, .log]
  | .ppsEdge | .ffSetGo _ =>
    Part.all.filter (fun p => !([.otp, .pads, .boot, .edge, .core, .pair, .res, .ain, .exc, .pump, .txts, .cfg, .vault, .sv, .flash, .freeCtr, .pending].contains p))
  | .ppsTimeout =>
    [.tm, .regs, .ff, .pwr]
  | .ffNowRead _ =>
    [.ff]
  | .txtsPop _ =>
    [.txts]
  | .frameTxEnd _ =>
    [.regs, .ff, .ffPort, .txts, .link, .cfg, .twin, .sv, .pwr, .trace, .log, .freeCtr]
  | .frameRejected _ _ | .nak _ _ | .ratePropose _ _ | .los _ | .clockUnlock _ | .blockUnlock _ | .deskewLost _ | .hiBer _ _ | .retrain _ | .chirpSend _ | .streamSync _ =>
    [.regs, .exc, .pump, .strm, .hive, .hiveLost, .mantis, .comp, .ffPort, .link, .host, .sq, .cq, .cfg, .twin, .sb, .trace, .log, .inj, .injectedNow, .freeCtr]
  | .ack _ _ =>
    [.regs, .strm, .ffPort, .link, .host, .cq, .twin]
  | .replayTimeout _ | .linkStateTimeout _ | .faultRetry _ =>
    [.tm, .regs, .exc, .pump, .strm, .hive, .hiveLost, .mantis, .comp, .ffPort, .link, .host, .sq, .cq, .cfg, .twin, .sb, .trace, .log, .inj, .injectedNow, .freeCtr]
  | .ident _ _ _ | .loadRetrain _ =>
    Part.all.filter (fun p => !([.tm, .otp, .pads, .boot, .grp, .edge, .core, .pair, .res, .ain, .flt, .mains, .stats, .cond, .trig, .cap, .txts, .pulse, .vault, .flash, .pending].contains p))
  | .rateAccept _ _ =>
    [.link]
  | .ratePass _ | .rateFail _ | .deskewDone _ _ _ _ =>
    [.regs, .ff, .ffPort, .link, .twin, .sv, .pwr, .trace, .log, .freeCtr]
  | .test _ _ =>
    [.regs, .link]
  | .soakEnd _ =>
    [.tm, .regs, .ff, .ffPort, .link, .twin, .sv, .pwr, .trace, .log, .freeCtr]
  | .keyInit _ _ =>
    [.regs, .ffPort, .link, .twin, .sv, .trace, .freeCtr]
  | .keyResp _ _ | .keyConfirm _ _ =>
    Part.all.filter (fun p => !([.tm, .otp, .pads, .boot, .grp, .edge, .core, .pair, .res, .ain, .flt, .mains, .stats, .cond, .trig, .cap, .txts, .pulse, .vault, .sv, .flash, .pending].contains p))
  | .keyRenewal _ =>
    [.tm, .regs, .ffPort, .link, .twin, .sv]
  | .lineTrigger _ _ =>
    [.regs, .cap, .mantis, .ffPort, .link, .host, .twin, .freeCtr]
  | .mgmt _ =>
    [.regs, .ffPort, .link, .twin, .trace, .freeCtr]
  | .detectDone _ | .clockLockDone _ | .eqTuneDone _ _ _ | .blockLockDone _ =>
    [.regs, .link, .trace, .freeCtr]
  | .trainingResend _ | .healthSend =>
    [.tm, .regs, .ffPort, .link, .twin]
  | .chirpRecognised _ | .wake | .wakeTimer | .wakeGpio _ | .perstDeassert =>
    Part.all.filter (fun p => !([.otp, .edge, .pending].contains p))
  | .twinAliveToggle =>
    [.tm, .twin]
  | .twinAliveEdge =>
    [.regs, .exc, .pump, .strm, .mantis, .ffPort, .link, .host, .sq, .cq, .cfg, .twin, .sb]
  | .activeLost =>
    Part.all.filter (fun p => !([.otp, .pads, .boot, .grp, .edge, .core, .pair, .res, .ain, .flt, .mains, .stats, .cond, .trig, .ff, .txts, .pulse, .sv, .pwr, .flash, .freeCtr, .pending].contains p))
  | .digest _ =>
    [.regs, .exc, .pump, .strm, .mantis, .ffPort, .link, .host, .sq, .cq, .cfg, .twin, .sb, .trace, .log, .injectedNow, .freeCtr]
  | .digestMissing _ _ =>
    [.tm, .regs, .exc, .pump, .strm, .mantis, .ffPort, .link, .host, .sq, .cq, .cfg, .twin, .sb, .trace, .log, .freeCtr]
  | .health _ | .swapExecute =>
    Part.all.filter (fun p => !([.tm, .otp, .pads, .boot, .grp, .edge, .core, .pair, .res, .ain, .flt, .mains, .stats, .cond, .trig, .ff, .txts, .pulse, .sv, .pwr, .flash, .pending].contains p))
  | .dualActive =>
    [.tm, .regs, .exc, .pump, .strm, .mantis, .ffPort, .link, .host, .sq, .cq, .cfg, .twin, .sb, .trace, .log]
  | .ackWaitTimeout =>
    [.tm, .regs, .strm, .host, .cq, .twin]
  | .mainsFrame _ =>
    [.regs, .exc, .pump, .mains, .strm, .mantis, .ffPort, .link, .host, .sq, .cq, .cfg, .twin, .sb, .trace, .log, .freeCtr]
  | .cfgData _ _ =>
    [.regs, .ffPort, .link, .cfg, .twin, .vault, .freeCtr]
  | .cfgCtrlReady _ =>
    [.regs, .ffPort, .link, .cfg, .twin, .freeCtr]
  | .cfgCtrlArm _ =>
    [.link, .cfg, .freeCtr]
  | .cfgReadyTimeout =>
    [.tm, .regs, .ffPort, .link, .cfg, .twin]
  | .vaultSync _ _ =>
    [.link, .vault, .freeCtr]
  | .sealSwitchChange _ =>
    [.pads, .host, .vault]
  | .weightRecordIssue =>
    [.regs, .ffPort, .link, .twin, .vault]
  | .alibiStoreWrite =>
    [.regs, .ffPort, .link, .cfg, .twin, .vault, .flash]
  | .vaultWatchdog =>
    [.regs, .host, .cfg, .vault, .trace, .log]
  | .claim _ | .transfer _ | .setMetrologyKey _ =>
    [.regs, .host, .vault, .sv]
  | .release _ | .setSbKey _ | .endorse _ | .setPolicy _ | .unlockInject _ | .lockInject _ | .unlockDebug _ =>
    [.regs, .host, .sv]
  | .backoffEnd =>
    [.tm, .sv]
  | .hibernate _ =>
    [.regs, .grp, .pwr, .trace, .freeCtr]
  | .hibSupplyTimeout =>
    [.pads, .boot, .regs, .vault, .pwr]
  | .burstEnd =>
    [.regs, .pwr, .trace, .freeCtr]
  | .pllRestart =>
    [.tm, .pwr]
  | .sbNop _ | .sbSvreq _ =>
    [.tm, .regs, .sv, .pwr, .sb, .freeCtr]
  | .sbRead _ =>
    [.tm, .regs, .ff, .sv, .pwr, .sb, .freeCtr]
  | .sbDesc _ =>
    [.tm, .regs, .strm, .host, .sq, .cq, .sv, .pwr, .sb, .freeCtr]
  | .flashProgram _ _ =>
    [.regs, .host, .flash]
  | .flashProgramDone _ _ =>
    [.regs, .host, .flash, .trace, .log, .freeCtr]
  | .engineWatchdog =>
    [.boot, .regs, .exc, .pump, .flt, .host, .cfg, .vault, .sv, .pwr, .flash, .trace, .log, .freeCtr]
  | .engineReturn =>
    [.tm, .boot, .regs, .mains, .strm, .host, .sq, .cq, .pwr, .sb, .flash, .trace, .log, .freeCtr]
  | .unitFatal _ =>
    [.tm, .regs, .grp, .exc, .strm, .hive, .hiveLost, .cap, .mantis, .comp, .ffPort, .link, .host, .sq, .cq, .twin, .vault, .sb, .trace, .log, .inj, .injectedNow]
  | .errMsiTimer =>
    [.tm, .regs, .host, .log]
  | .errlogPop _ =>
    [.log]
  | .tracePop _ =>
    [.trace]
  | .mantisForce _ =>
    [.trig]
  | .pinOutSet _ | .pinOutClr _ | .refclkLoss | .pllUnlock _ =>
    [.regs]
  | .unalignedRead _ =>
    [.tm, .regs, .ff, .host, .pwr, .trace, .log, .freeCtr]
  | .functionSwitchPark _ =>
    [.tm, .pads, .exc, .vault]
  | .functionSwitchConnect _ =>
    [.tm, .pads, .regs, .exc, .pump, .strm, .mantis, .ffPort, .link, .host, .sq, .cq, .cfg, .twin, .vault, .sb]
  | .flashEraseDone _ _ _ =>
    [.flash]
  | .sbMalformedFrame _ =>
    [.regs, .sb]
  | .reservedTypeFrame _ =>
    [.regs, .link, .freeCtr]
  | .compressionJobDone _ =>
    [.regs, .strm, .comp, .host, .sq, .cq, .sb, .freeCtr]
  | .injectionDurationEnd _ =>
    [.tm, .regs, .strm, .host, .cq, .inj]
  | .pcieLinkUp =>
    [.pads, .regs, .strm, .mantis, .ffPort, .link, .host, .sq, .cq, .twin, .sv, .sb, .freeCtr]
  | .busMasterEnable _ =>
    [.regs, .strm, .mantis, .ffPort, .link, .host, .sq, .cq, .twin, .sv, .sb, .freeCtr]

end Sys2Proof
end

