-- ==== Sys2Proof/Certificates/Slice0/Obligations.lean ====
section
/-! DEFINITION. The statements of the model, for the provers. Runs c s P says that the command c answers a next state in s and that this state meets P; keepsBut F says that nothing outside the listed parts of the state changed (Safety.lean). -/

open Sys2Proof Sys2Proof.Machine

/-! ### The machine as a whole -/

/-- One step runs the command at the front of the queue with the queue's rest. -/
def Obligations.StepRunsTheCommandInFront : Prop :=
  ∀ (c : Instr) (rest : List Instr) (s : State), s.pending = c :: rest → step s = exec c { s with pending := rest }

/-- On an empty queue one cycle of the 1.0 GHz timebase passes (assumption 2, DESIGN CHOICE) and nothing else changes, but that an entry into HIBERNATE is watched until its commit point (assumption 60); a word of the table spells no command. It rests on the model's own choices or readings in assumptions 2, 13 and 60. -/
def Obligations.IdleStepPassesOneTimebaseCycle : Prop :=
  (∀ s : State, s.pending = [] → s.pwr.mode ≠ .hibEntry ∨ s.pwr.committed = true → step s = .next { s with tm := s.tm.advance (!s.syntonised) 1 })
  ∧ (∀ s : State, s.pending = [] → s.pwr.mode = .hibEntry → s.pwr.committed = false → step s = .next ({ s with tm := s.tm.advance (!s.syntonised) 1 } : State).hibWatch)
  ∧ (∀ (t : TimeSt) (alone : Bool), t.running = true → t.slewLen = 0 → (t.advance alone 1).count = t.count + 4294967296 ∧ (t.advance alone 1).up = t.up + 1)
  ∧ (∀ (t : TimeSt) (alone : Bool), t.running = false → (t.advance alone 1).count = t.count ∧ (t.advance alone 1).up = t.up)
  ∧ (∀ (s : State) (nbits w : Nat), s.withFetchWord nbits w = s)

/-- The invariant of Safety.lean holds in the reset state. It rests on the model's own choices or readings in assumptions 5 and 13. -/
def Obligations.ResetMeetsTheInvariant : Prop := State.reset.wf = true ∧ State.reset.pending = []

/-- Every step keeps the invariant, never changes the one-time-programmable memory, and takes one command off the queue. -/
def Obligations.EveryStepKeepsTheInvariant : Prop :=
  ∀ s t : State, s.wf = true → step s = .next t → t.wf = true ∧ t.otp = s.otp ∧ t.pending = s.pending.tail

/-- Every command, in every state, has a next state, and that state differs from the one before only in the parts that Instr.parts lists for the command (Safety.lean). -/
def Obligations.EveryCommandRunsWithinItsParts : Prop :=
  ∀ (c : Instr) (s : State), Runs c s (fun t => s.keepsBut c.parts t)
/-! ### Excitation outputs -/

/-- R67, R70, R80, R81: the states a pulse passes through when nothing is wrong. It rests on the model's own choices or readings in assumptions 3 and 43. -/
def Obligations.PulsePassesThroughItsStates : Prop :=
  ∀ (s : State) (m : Fin 32),
    (∀ midUv k t, (s.excOf m).mode = .idle → s.pulseEdge (s.cfgv Fld.excGroup m 0) = some (k, t) →
      s.pulseWithheld m (t - nsTq (s.cfgv Fld.excLead m 0)) = false → (s.pulsingNow.filter (fun x => x != m.val)).length < 6 →
      exec (.pulseStart m midUv) s = .next (((s.reach (t - nsTq (s.cfgv Fld.excLead m 0))).pllRunAgo 40000).setExc m
        { s.excOf m with mode := .inrush, negative := s.cfgv Fld.excChop m 0 == 1 && k % 2 == 1, pulseFrame := k, cutAt := none,
                         startUp := (s.reach (t - nsTq (s.cfgv Fld.excLead m 0))).tm.up, endUp := (s.reach (t - nsTq (s.cfgv Fld.excLead m 0))).tm.up + s.cfgv Fld.excWidth m 0 }))
    ∧ (∀ v : Int, (s.excOf m).mode = .inrush → s.injOf 4 3 m = none → (v.natAbs < 50000 ∨ (v < 0 ↔ (s.excOf m).negative = true)) →
      exec (.polarityCheck m v) s = .next (s.reachUp ((s.excOf m).startUp + 500)))
    ∧ ((s.excOf m).mode = .inrush → exec (.inrushEnd m) s = .next ((s.reachUp ((s.excOf m).startUp + 20000)).setExc m { s.excOf m with mode := .pulse }))
    ∧ (∀ limited, (s.excOf m).mode = .pulse ∨ ((s.excOf m).mode = .inrush ∧ (20000 < s.cfgv Fld.excWidth m 0 ∨ (limited = false ∧ s.injOf 4 1 m = none))) →
      (s.excOf m).cutAt = none → s.isStandby = false → exec (.pulseEnd m limited) s = .next ((s.reachUp (s.excOf m).endUp).goodPulse m))
    ∧ (∀ limited u, (s.excOf m).mode = .pulse ∨ ((s.excOf m).mode = .inrush ∧ (20000 < s.cfgv Fld.excWidth m 0 ∨ (limited = false ∧ s.injOf 4 1 m = none))) →
      (s.excOf m).cutAt = some u → s.isStandby = false →
      exec (.pulseEnd m limited) s = .next ((s.reachUp (min u (s.excOf m).endUp)).goodPulse m))
    ∧ (∀ limited, (s.excOf m).mode = .pulse → (s.excOf m).cutAt = none → s.isStandby = true → Runs (.pulseEnd m limited) s (fun u => (u.excOf m).mode = .standbyZ))
    ∧ ((s.excOf m).mode = .short ∨ (s.excOf m).mode = .reversed → s.cfgv Fld.excRetry m 0 ≠ 0 →
      exec (.retryElapsed m) s = .next ((s.reachUp ((s.excOf m).faultUp + s.cfgv Fld.excRetry m 0 * 100000000)).setExc m { s.excOf m with mode := .idle, isRetry := true }))
    ∧ (∀ p n : Nat, (s.excOf m).mode = .idle → Look.diagFrame s.cfgv (s.cfgv Fld.excGroup m 0) (s.excOf m).pulseFrame = true → s.injOf 4 4 m = none →
      p ≤ 200000 → n ≤ 200000 → (s.excOf m).senseOpen = false → exec (.openSenseTestEnd m true p n) s =
        .next (s.setExc m { s.excOf m with senseFail := 0, sensePass := (s.excOf m).sensePass + 1 }))

/-- R80, R84 and Table 3-8: what entering a fault and ending a pulse well do to an output, its registers and everything else; a write of 1 to a SEEN bit clears it, and re-arms the output when RETRY is 0. -/
def Obligations.ExcitationEntriesSetStateAndStickyBit : Prop :=
  ∀ s : State, s.wf = true → ∀ m : Fin 32,
    ((s.toShort m).excOf m = { s.excOf m with mode := .short, faultUp := s.tm.up, retrying := true, isRetry := false, cutAt := none }
      ∧ (s.toShort m).reg (Reg.excShortCount m) = (s.reg (Reg.excShortCount m)).satAdd 1 ∧ (s.toShort m).bit (Reg.excStatus m) 10 = true
      ∧ (∀ j, j ≠ m.val → (s.toShort m).excOf j = s.excOf j) ∧ s.keepsBut (.exc :: reportParts) (s.toShort m))
    ∧ ((s.toReversed m).excOf m = { s.excOf m with mode := .reversed, faultUp := s.tm.up, retrying := true, isRetry := false, cutAt := none } ∧ (s.toReversed m).bit (Reg.excStatus m) 13 = true
      ∧ (∀ j, j ≠ m.val → (s.toReversed m).excOf j = s.excOf j) ∧ s.keepsBut (.exc :: reportParts) (s.toReversed m))
    ∧ ((s.goodPulse m).excOf m = { s.excOf m with mode := .idle, cutAt := none, retrying := false, isRetry := false }
      ∧ (s.goodPulse m).reg (Reg.excStatus m) = s.reg (Reg.excStatus m) &&& 0x00FFFFFF
      ∧ (∀ j, j ≠ m.val → (s.goodPulse m).excOf j = s.excOf j) ∧ s.keepsBut [.regs, .exc, .log] (s.goodPulse m))
    ∧ Runs (.shortSeenRearm m) s (fun u => u.reg (Reg.excStatus m) = s.reg (Reg.excStatus m) &&& ~~~ 0x400
      ∧ u.excOf m = (if (s.excOf m).mode = .short ∧ s.cfgv Fld.excRetry m 0 = 0 then { s.excOf m with mode := .idle, isRetry := false } else s.excOf m)
      ∧ (∀ a, a ≠ Reg.excStatus m → u.reg a = s.reg a) ∧ (∀ j, j ≠ m.val → u.excOf j = s.excOf j) ∧ s.keepsBut [.regs, .exc] u)
    ∧ Runs (.reversedSeenRearm m) s (fun u => u.reg (Reg.excStatus m) = s.reg (Reg.excStatus m) &&& ~~~ 0x2000
      ∧ u.excOf m = (if (s.excOf m).mode = .reversed ∧ s.cfgv Fld.excRetry m 0 = 0 then { s.excOf m with mode := .idle, isRetry := false } else s.excOf m)
      ∧ (∀ a, a ≠ Reg.excStatus m → u.reg a = s.reg a) ∧ (∀ j, j ≠ m.val → u.excOf j = s.excOf j) ∧ s.keepsBut [.regs, .exc] u)

/-- R74, R80, R81, R84, R85: which commands enter an excitation fault, and the pulse that would be the seventh. It rests on the model's own choices or readings in assumptions 3 and 43. -/
def Obligations.ExcitationFaultsAreEntered : Prop :=
  ∀ (s : State) (m : Fin 32),
    ((s.excOf m).mode = .pulse → s.isStandby = false → exec (.shortDetect m) s = .next (s.toShort m))
    ∧ ((s.excOf m).mode = .pulse → (s.excOf m).isRetry = true → field (s.reg (Reg.excStatus m)) 31 24 < 255 → s.isStandby = false →
      Runs (.shortDetect m) s (fun u => field (u.reg (Reg.excStatus m)) 31 24 = field (s.reg (Reg.excStatus m)) 31 24 + 1 ∧ (u.excOf m).mode = .short))
    ∧ ((s.excOf m).mode = .inrush → s.cfgv Fld.excWidth m 0 ≤ 20000 → s.injOf 4 1 m = none → s.isStandby = false →
      exec (.pulseEnd m true) s = .next ((s.reachUp (((s.excOf m).cutAt.map (min (s.excOf m).endUp)).getD (s.excOf m).endUp)).toShort m))
    ∧ (∀ v : Int, (s.excOf m).mode = .inrush → s.injOf 4 3 m = none → 50000 ≤ v.natAbs → ¬ (v < 0 ↔ (s.excOf m).negative = true) →
      exec (.polarityCheck m v) s = .next ((s.reachUp ((s.excOf m).startUp + 500)).toReversed m))
    ∧ (∀ p n : Nat, (s.excOf m).mode = .idle → Look.diagFrame s.cfgv (s.cfgv Fld.excGroup m 0) (s.excOf m).pulseFrame = true → s.injOf 4 4 m = none →
      (s.excOf m).senseOpen = false → 1 ≤ (s.excOf m).senseFail → 200000 < p ∨ 200000 < n → exec (.openSenseTestEnd m true p n) s =
        .next ((s.setExc m { s.excOf m with senseFail := (s.excOf m).senseFail + 1, sensePass := 0, senseOpen := true }).excFault m 12))
    ∧ (∀ midUv k t, (s.excOf m).mode = .idle → s.pulseEdge (s.cfgv Fld.excGroup m 0) = some (k, t) →
      s.pulseWithheld m (t - nsTq (s.cfgv Fld.excLead m 0)) = false → 6 ≤ (s.pulsingNow.filter (fun x => x != m.val)).length →
      exec (.pulseStart m midUv) s = .next ((((((s.reach (t - nsTq (s.cfgv Fld.excLead m 0))).pllRunAgo 40000).setExc m { s.excOf m with suppressed := true, mode := .idle }).bump
        0x8704).setBit (Reg.excStatus m) 14).raise (errAt 1 (Reg.excStatus m) 14 m)))

/-- R76, R77, R80, R82: the charge pump and the seize input. It rests on the model's own choices or readings in assumption 43. -/
def Obligations.PumpAndSeizeMoveEveryOutput : Prop :=
  ∀ s : State, s.wf = true →
    (s.pump.running = true → Runs .pumpReady s (fun u =>
      u.pump = { s.pump with ready := true } ∧ (∀ m, m < 32 → u.excOf m = if (s.excOf m).mode = .waitPump then { s.excOf m with mode := .idle } else s.excOf m)
      ∧ s.keepsBut [.pump, .exc] u))
    ∧ (∀ m, m < 32 → (s.excOf m).pulsing = true → Runs .pumpSagTimeout s (fun u =>
      (∀ j, j < 32 → u.excOf j = if (s.excOf j).pulsing = true then { s.excOf j with mode := .idle, isRetry := false, cutAt := none } else s.excOf j)
      ∧ u.sagNow = (u.isStandby && s.sagNow) ∧ s.keepsBut (.tm :: .exc :: .injectedNow :: reportParts) u))
    ∧ (∀ k, s.seizePin = some k → Runs .seizeAssert s (fun u => (∀ m, m < 32 → (u.excOf m).mode = .seized)
      ∧ (s.pads.settled.getLsbD k = true → s.pinFunc k = 9 → s.twin.role ≠ .solo → u.twin.role = .seized)))
    ∧ (∀ k, s.seizePin = some k → s.pads.settled.getLsbD k = true → s.log.fatal = false → s.twin.role ≠ .seized →
      Runs .seizeRelease s (fun u => (∀ m, m < 32 → u.excOf m = if (s.excOf m).mode = .seized then { s.excOf m with mode := .disabled } else s.excOf m)
        ∧ s.keepsBut [.pads, .exc] u))
    ∧ (∀ k, s.seizePin = some k → s.pads.settled.getLsbD k = true → s.twin.role = .seized → Runs .seizeRelease s (fun u => u.twin.role = .standbyUnfit))

/-! ### Inputs -/

/-- R62, R86, R87, R88: protection switches, and the open-wire check at start-up and on request. It rests on the model's own choices or readings in assumption 89. -/
def Obligations.InputSwitchesAndOpenWireCheck : Prop :=
  ∀ s : State, s.wf = true →
    (∀ (i : Fin 512) (pos : Bool), Runs (.protectionOpen i pos) s (fun u =>
      u.ainOf i = { s.ainOf i with switchOpen := true, positive := pos, overIn := (s.ainOf i).overIn || Look.watched s.cfgv i } ∧ (∀ j, j ≠ i.val → u.ainOf j = s.ainOf j) ∧ s.keepsBut (.ain :: reportParts) u))
    ∧ (∀ i : Fin 512, Runs (.protectionClose i) s (fun u =>
      u.ainOf i = { s.ainOf i with switchOpen := false, overIn := false } ∧ (∀ j, j ≠ i.val → u.ainOf j = s.ainOf j) ∧ s.keepsBut [.ain, .log] u))
    ∧ (s.pump.owRunning = true → exec .owTestStart s = .next s)
    ∧ (s.pump.owRunning = false → (s.grpOf 0).mode = .stopped → (s.grpOf 1).mode = .stopped →
      exec .owTestStart s = .next { s with pump := { s.pump with owRunning := true, owDone := false, owRefused := false, owUp := s.tm.up } })
    ∧ (s.pump.owRunning = false → (s.grpOf 0).mode ≠ .stopped ∨ (s.grpOf 1).mode ≠ .stopped →
      exec .owTestStart s = .next { s with pump := { s.pump with owDone := false, owRefused := true } })
    ∧ (∀ moved, s.pump.owRunning = true → Runs (.owTestEnd moved) s (fun u =>
      u.pump = { s.pump with owRunning := false, owDone := true } ∧ u.tm = (s.reachUp (s.pump.owUp + 500000)).tm ∧ (∀ i, i < 512 → u.bit (0x86C0 + 4 * (i / 32)) (i % 32) = moved.contains i)
      ∧ (∀ a, a < 0x86C0 ∨ 0x8700 ≤ a → u.reg a = s.reg a) ∧ s.keepsBut [.tm, .regs, .pump] u))
    ∧ (∀ rep : StepReport, s.boot.stage = 6 → s.boot.retryDue = false → Runs (.startupStepEnd rep) s (fun u => u.pump = s.pump ∧ u.boot.stage = 7
      ∧ (∀ i, i < 512 → u.bit (0x86C0 + 4 * (i / 32)) (i % 32) = rep.moved.contains i) ∧ s.keepsBut [.tm, .regs, .boot] u))

/-! ### Strobe groups, conversions and frames -/

/-- R33, R37, R38, R40, R44, R47: a strobe edge takes the next frame number of its group, the frame converts from that edge on, and completes at its ready time. It rests on the model's own choices or readings in assumptions 3 and 43. -/
def Obligations.StrobeEdgesStartFramesThatComplete : Prop :=
  ∀ s : State, s.wf = true → ∀ (g : Group) (e : EdgeSample),
    let p := gidx (Group.peer g)
    let peerSees := fun (up : Nat) => if Look.scheduled s.cfgv p = false ∧ (s.grpOf p).mode = .running ∧ (s.cfgv Fld.strbEventSrc p 0).testBit 2 = true then some up else (s.grpOf p).peerUp
    (Look.scheduled s.cfgv (gidx g) = true → (s.grpOf (gidx g)).mode = .waitingStart ∨ (s.grpOf (gidx g)).mode = .running → (s.grpOf (gidx g)).frame = none →
      Runs (.strobeEdge g e) s (fun u =>
        let x := s.grpOf (gidx g)
        let t := Look.edgeT s.cfgv (gidx g) x.nextK
        let diag := Look.diagFrame s.cfgv (gidx g) x.nextK
        let n := Look.nMax s.cfgv (gidx g) diag
        u.grpOf (gidx g) = { x with mode := .running, nextK := x.nextK + 1, strobed := true, hole := false, heldHole := false, lastK := x.nextK, lastEdge := t, pendEdge := none,
                                    frame := some ⟨x.nextK, t, diag, n, s.epoch, (s.reach t).tm.up + 200 + 400 * n, false⟩ }
        ∧ u.grpOf (gidx (Group.peer g)) = { s.grpOf (gidx (Group.peer g)) with peerUp := peerSees u.tm.up } ∧ u.edgeOf (gidx g) = e))
    ∧ (∀ at_, (s.grpOf (gidx g)).pendEdge = some at_ → (s.grpOf (gidx g)).frame = none →
      Runs (.eventStrobeEdge g e) s (fun u =>
        (u.grpOf (gidx g)).lastK = (s.grpOf (gidx g)).evNext ∧ (u.grpOf (gidx g)).evNext = (s.grpOf (gidx g)).evNext + 1
        ∧ (u.grpOf (gidx g)).lastEdge = placeEdge (s.reachUp at_).now ∧ (u.grpOf (gidx g)).pendEdge = none ∧ (u.grpOf (gidx g)).mode = .running
        ∧ u.grpOf (gidx (Group.peer g)) = { s.grpOf (gidx (Group.peer g)) with peerUp := peerSees u.tm.up } ∧ u.edgeOf (gidx g) = e))
    ∧ (∀ f : FrameSt, (s.grpOf (gidx g)).frame = some f → Runs (.frameReady g) s (fun u =>
      u.grpOf (gidx g) = { s.grpOf (gidx g) with frame := none, doneK := f.k, lastSlots := f.nMax, diagLast := f.diag, resetDue := false, closeDue := false, deferred := [] }
      ∧ u.grpOf (gidx (Group.peer g)) = s.grpOf (gidx (Group.peer g)) ∧ u.wf = true))

/-- R43 to R46, R48, R68: an event is accepted and sets the end of a pulse that would run into the next one, or it is skipped while the group is busy; simultaneous ones count as coalesced; a group without one for 10 ms is STARVED. It rests on the model's own choices or readings in assumptions 3 and 43. -/
def Obligations.EventsAreAcceptedSkippedOrMissed : Prop :=
  ∀ s : State, s.wf = true → ∀ (g : Group) (es on : List EventSource), es.filter (s.eventCounts (gidx g)) = on →
    Look.scheduled s.cfgv (gidx g) = false → (s.grpOf (gidx g)).mode = .running →
    let clk := (s.eventUp (gidx g) on + 4) / 5 * 5
    let taken : GroupSt := { s.grpOf (gidx g) with pendEdge := some (clk + 40 + 5 * s.cfgv Fld.strbDelay (gidx g) 0), starved := false, lastEvUp := clk,
                                                   peerUp := if on.contains .peer then none else (s.grpOf (gidx g)).peerUp }
    (on.length = 1 → s.busyAt (gidx g) (s.eventUp (gidx g) on) = false →
      Runs (.strobeEvent g es) s (fun u => u.grpOf (gidx g) = taken
        ∧ u.grpOf (gidx (Group.peer g)) = s.grpOf (gidx (Group.peer g))
        ∧ (∀ m, m < 32 → u.excOf m = (if s.cfgv Fld.excGroup m 0 = gidx g ∧ (s.excOf m).pulsing = true ∧ clk + 40 + 5 * s.cfgv Fld.strbDelay (gidx g) 0 - s.cfgv Fld.excLead m 0 < (s.excOf m).endUp + 1000
          then { s.excOf m with cutAt := some (max clk (clk + 40 + 5 * s.cfgv Fld.strbDelay (gidx g) 0 - s.cfgv Fld.excLead m 0 - 1000)) } else s.excOf m))
        ∧ s.keepsBut [.grp, .exc] u))
    ∧ (2 ≤ on.length → s.busyAt (gidx g) (s.eventUp (gidx g) on) = false →
      Runs (.strobeEvent g es) s (fun u => u.grpOf (gidx g) = taken
        ∧ u.reg (Reg.strb (gidx g) 8) = (s.reg (Reg.strb (gidx g) 8)).satAdd 1 ∧ u.grpOf (gidx (Group.peer g)) = s.grpOf (gidx (Group.peer g))
        ∧ s.keepsBut [.regs, .grp, .exc] u))
    ∧ (2 ≤ on.length → on.contains .peer = false → s.busy (gidx g) = true →
      Runs (.strobeEvent g es) s (fun u => u.reg (Reg.strb (gidx g) 8) = (s.reg (Reg.strb (gidx g) 8)).satAdd 1 ∧ u.reg (Reg.strb (gidx g) 4) = (s.reg (Reg.strb (gidx g) 4)).satAdd 1
        ∧ u.grpOf (gidx g) = s.grpOf (gidx g) ∧ s.keepsBut [.regs, .grp] u))
    ∧ (on.length = 1 → s.busyAt (gidx g) (s.eventUp (gidx g) on) = true →
      Runs (.strobeEvent g es) s (fun u => u.reg (Reg.strb (gidx g) 4) = (s.reg (Reg.strb (gidx g) 4)).satAdd 1 ∧ (u.grpOf (gidx g)).pendEdge = (s.grpOf (gidx g)).pendEdge
        ∧ (∀ a, a ≠ Reg.strb (gidx g) 4 → u.reg a = s.reg a) ∧ s.keepsBut [.regs, .grp] u))
    ∧ ((s.grpOf (gidx g)).starved = false →
      exec (.starved g) s = .next (((s.reachUp ((s.grpOf (gidx g)).lastEvUp + 10000000)).setGrp (gidx g) { s.grpOf (gidx g) with starved := true }).raise (errAt 0 (Reg.strb (gidx g) 0) 7 (gidx g))))

/-- R28, R29, R32, R99, R100, R102 to R104: the end of the conversion that stands next in its core's order stores the result of its channel, over what the hold closed on, or runs the self-check of its slot. It rests on the model's own choices or readings in assumptions 9, 37, 43, 51 and 90. -/
def Obligations.ConversionStoresItsResult : Prop :=
  ∀ s : State, s.wf = true → ∀ (n : Fin 64) (slot : Fin 12) (noise : Nat) (f : FrameSt),
    (s.grpOf (Look.coreGroup s.cfgv n)).frame = some f → (Look.slots s.cfgv n f.diag)[(s.coreOf n).pos]? = some slot.val → s.injOf 6 5 n = none →
    let d := s.decisions n slot noise
    let w := (s.reachUp (f.convEnd (s.coreOf n).pos)).updCore n (fun x => { x with pos := (s.coreOf n).pos + 1 })
    (∀ completed, slot.val < 8 → Runs (.conversionDone n slot noise completed) s (fun u =>
      u.resOf (8 * n + slot) = some (State.inputResult s (8 * n + slot) f.k d completed) ∧ (∀ j, j ≠ 8 * n.val + slot.val → u.resOf j = s.resOf j)
      ∧ (u.coreOf n).pos = (s.coreOf n).pos + 1 ∧ u.tm = w.tm
      ∧ (completed = false → u.reg (Reg.cnv n 0x18) = (s.reg (Reg.cnv n 0x18)).satAdd 1) ∧ s.keepsBut (.tm :: .core :: .pair :: .res :: .injectedNow :: reportParts) u))
    ∧ (∀ completed, slot.val = 8 ∨ slot.val = 9 ∨ slot.val = 10 → completed = false → s.injOf 6 (slot.val - 7) n = none →
      exec (.conversionDone n slot noise completed) s = .next (w.timedOut n false))
    ∧ (slot.val = 8 → s.injOf 6 1 n = none → exec (.conversionDone n slot noise true) s = .next (w.refCheck n (clampInt (-524288) 524287 (w.code n none d).1)))
    ∧ (slot.val = 9 → s.injOf 6 2 n = none → exec (.conversionDone n slot noise true) s = .next (w.supplyCheck n (clampInt (-524288) 524287 (w.code n none d).1)))
    ∧ (slot.val = 10 → s.injOf 6 3 n = none → exec (.conversionDone n slot noise true) s = .next (w.tempCheck n (clampInt (-524288) 524287 (w.code n none d).1)))
    ∧ (slot.val = 11 → s.injOf 6 4 n = none → exec (.conversionDone n slot noise true) s =
      .next ((w.updCore n (fun x => { x with slot11 := some ⟨clampInt (-524288) 524287 (w.code n (some (Look.owning s.cfgv n)) d).1,
        if (w.code n (some (Look.owning s.cfgv n)) d).2 then 1 else 0, clampInt (-524288) 524287 (w.code n (some (Look.owning s.cfgv n)) d).1, false, false⟩ })).tryCross n))
    ∧ (∀ completed (other : Fin 12), other ≠ slot → exec (.conversionDone n other noise completed) s = .next s)
/-! ### Filters and mains tracking -/

/-- R96, R97, R99, R100, R115, R117, R118, R160: rounding is to the nearest integer, a tie to the even one; results and stage outputs keep within their formats, with the clip mark at the limits, and keep every mark of their window. -/
def Obligations.ArithmeticRoundsAndSaturates : Prop :=
  (∀ (num : Int) (den : Nat), 0 < den →
    2 * (num - roundHalfEven num den * den).natAbs ≤ den ∧ (2 * (num - roundHalfEven num den * den).natAbs = den → roundHalfEven num den % 2 = 0))
  ∧ (∀ f : Int, -524288 ≤ (limitCode f).1 ∧ (limitCode f).1 ≤ 524287 ∧ (-524288 ≤ f → f ≤ 524287 → (limitCode f).1 = f)
    ∧ ((limitCode f).2 = true ↔ (f ≤ -524288 ∨ 524287 ≤ f)))
  ∧ (∀ (s : State) (i k : Nat) (d : BitVec 22), (s.inputResult i k d false).value = 0 ∧ (s.inputResult i k d false).marks.getLsbD 1 = true)
  ∧ (∀ (s : State) (i k : Nat) (d : BitVec 22) (pos : Bool), s.fullScale i = some pos → (s.inputResult i k d true).value = (if pos then 524287 else -524288)
    ∧ (s.inputResult i k d true).marks.getLsbD 0 = true ∧ (s.inputResult i k d true).marks.getLsbD 1 = true)
  ∧ (∀ (s : State) (i k : Nat) (d : BitVec 22) (c : Bool), -524288 ≤ (s.inputResult i k d c).value ∧ (s.inputResult i k d c).value ≤ 524287)
  ∧ (∀ (hist : List (Int × Marks)) (n f g : Nat),
    -2147483648 ≤ (windowOut hist n f g).1.1 ∧ (windowOut hist n f g).1.1 ≤ 2147483647
    ∧ ((windowOut hist n f g).2 = true ↔ (windowQ hist n f g < -2147483648 ∨ 2147483647 < windowQ hist n f g))
    ∧ ((windowOut hist n f g).2 = true → (windowOut hist n f g).1.2.getLsbD 0 = true)
    ∧ (∀ x ∈ hist.take n, ∀ b, x.2.getLsbD b = true → (windowOut hist n f g).1.2.getLsbD b = true))

/-- R131 to R133, R135: a crossing timeout is an invalid measurement; the engine locks on the fourth agreeing one; a state that lasts is reported once; weights follow T_a at the group's first frame boundary behind it, never inside a frame. It rests on the model's own choices or readings in assumption 4. -/
def Obligations.MainsTrackingTakesMeasurements : Prop :=
  ∀ s : State, s.wf = true →
    (s.cfgOn Fld.mainsEnable 0 = true → Runs .mainsCrossingTimeout s (fun u =>
      u.mains.crossings = 0 ∧ u.mains.armed = false ∧ u.reg 0x20118 = (s.reg 0x20118).satAdd 1
      ∧ u.tm = (s.reach (s.mains.crossT + 2 * s.mainsNominal)).tm ∧ s.keepsBut [.tm, .regs, .mains] u))
    ∧ (∀ t p rest, s.mains.done = some t :: rest → s.engineUp = true → s.isStandby = false → s.mains.mode = .acquiring → s.mains.prev = some p →
      agree p t = true → s.mains.run = 3 → Runs .mainsAccept s (fun u => u.mains.mode = .locked ∧ u.mains.ta = t ∧ u.mains.done = rest ∧ u.mains.pendA = true ∧ u.mains.pendB = true))
    ∧ (∀ rest, s.mains.done = none :: rest → s.engineUp = true → s.isStandby = false → s.mains.mode = .locked →
      Runs .mainsAccept s (fun u => u.mains.mode = .holdover ∧ u.mains.ta = s.mains.ta ∧ u.mains.done = rest ∧ u.bit Reg.mainsStatus 4 = true))
    ∧ (s.mains.mode = .acquiring ∨ s.mains.mode = .holdover → s.mains.warned = false → s.engineUp = true → Runs .mainsStateTimer s (fun u =>
      u.mains = { s.mains with warned := true } ∧ u.bit Reg.mainsStatus 7 = true ∧ u.tm = (s.reachUp (s.mains.modeUp + 10000000000)).tm ∧ s.keepsBut (.tm :: .mains :: reportParts) u))
    ∧ (∀ g : Group, s.mains.pends (gidx g) = true → s.mains.bound (gidx g) = true → (s.grpOf (gidx g)).frame = none → s.mains.applyF = none → Runs (.mainsWeightApply g) s (fun u =>
      u.mains.pends (gidx g) = false ∧ u.mains.taken (gidx g) = s.mains.ta ∧ u.mains.pends (gidx (Group.peer g)) = s.mains.pends (gidx (Group.peer g))
      ∧ u.mains.taken (gidx (Group.peer g)) = s.mains.taken (gidx (Group.peer g)) ∧ u.mains.ta = s.mains.ta ∧ u.regs = (s.writeWeights (gidx g)).regs ∧ s.keepsBut [.regs, .mains] u))
    ∧ (∀ g : Group, s.mainsDue (gidx g) = false → exec (.mainsWeightApply g) s = .next s)
    ∧ (∀ g : Group, s.mains.pends (gidx g) = false ∨ s.mains.bound (gidx g) = false ∨ (s.grpOf (gidx g)).frame.isSome = true → s.mainsDue (gidx g) = false)

/-! ### Statistics -/

/-- R159, R160, R161: an interval that has ended is completed and the next one starts; a read of unsigned records writes them and retires OK; extremes bound every output taken in. -/
def Obligations.StatisticsIntervalsCompleteAndAreRead : Prop :=
  (∀ s : State, s.wf = true → Runs .statsIntervalEnd s (fun u =>
    (∀ i a, i < 512 → Look.converted s.cfgv i = true → (s.statsOf i).cur = some a → a.index + 1 = u.nowNs / s.statInterval →
      u.statsOf i = { cur := some (s.statNew i (u.nowNs / s.statInterval)), done := ({ a with short := false } :: (s.statsOf i).done).take 8 })
    ∧ (∀ i a, i < 512 → Look.converted s.cfgv i = true → (s.statsOf i).cur = some a → a.index < u.nowNs / s.statInterval →
      (u.statsOf i).cur = some (s.statNew i (u.nowNs / s.statInterval)))
    ∧ (∀ i a, (s.statsOf i).cur = some a → u.nowNs / s.statInterval ≤ a.index → u.statsOf i = s.statsOf i)
    ∧ (s.tm.running = true → (∀ i, i < 512 → Look.converted s.cfgv i = true → (s.statsOf i).cur.any (fun a => decide (s.nowNs / s.statInterval ≤ a.index)) = true) →
      s.nowNs / s.statInterval < u.nowNs / s.statInterval)
    ∧ s.nowNs ≤ u.nowNs ∧ s.keepsBut [.tm, .stats, .pwr] u))
  ∧ (∀ (s : State) (id : Nat) (d : Desc), s.serves id 0x23 d → d.flag 3 = false → field (d.p 1) 9 0 ≠ 0 →
    field (d.p 0) 8 0 + field (d.p 1) 9 0 ≤ 512 → 64 * field (d.p 1) 9 0 ≤ d.len → d.p64 2 ≤ s.nowNs / s.statInterval → d.p64 2 ≠ 18446744073709551615 →
    exec (.statsRead id) s = .next ((s.descWrite d (wordBytes ((List.range (field (d.p 1) 9 0)).flatMap (fun n =>
      s.statRecord (field (d.p 0) 8 0 + n) (d.p64 2))))).retireOk d [BitVec.ofNat 32 (field (d.p 1) 9 0)]))
  ∧ (∀ (a : StatAcc) (level hyst : Nat) (y : Int) (m : Marks),
    (a.add level hyst false y m).n = a.n + 1 ∧ (a.add level hyst false y m).sum = a.sum + y ∧ (a.add level hyst false y m).min ≤ y
    ∧ y ≤ (a.add level hyst false y m).max ∧ (a.n ≠ 0 → (a.add level hyst false y m).min ≤ a.min ∧ a.max ≤ (a.add level hyst false y m).max))

/-! ### Streams -/

/-- R146, R147, R149, R151, R154, R303: packets close, buffers are posted or refused, and a stream that overflowed writes its gap record when room returns. It rests on the model's own choices or readings in assumption 3. -/
def Obligations.StreamCommandsCloseAndPost : Prop :=
  ∀ s : State,
    (∀ x : Fin 64, s.cfgv Fld.streamMaxAge x 0 ≠ 0 → s.isStandby = false → (s.strmOf x).openPkt.isSome = true →
      exec (.packetMaxAge x) s = .next ((s.reachUp ((s.strmOf x).openedUp + s.cfgv Fld.streamMaxAge x 0 * 1000000)).closePacket x))
    ∧ (∀ (x : Nat) (p : Packet), (s.strmOf x).openPkt = some p → p.frames ≠ [] → s.cfg.bad = false → (s.strmOf x).awaitCut = none → (s.strmOf x).flush = false →
      s.closePacket x = (s.setStrm x { s.strmOf x with openPkt := none, flushCut := false, seqNext := (s.strmOf x).seqNext + 1, closing :=
        (s.strmOf x).closing ++ [{ p with seq := (s.strmOf x).seqNext, closedAt := s.tm.up, settled := decide (p.level = 0) || s.isStandby }] }).streamSettle x)
    ∧ (∀ i : Fin 32, s.cfgOn Fld.streamEnable i = true → s.isStandby = false → (s.strmOf i).flush = false →
      exec (.streamFlush false (BitVec.ofNat 32 (2 ^ i.val))) s =
        .next ((s.setStrm i { s.strmOf i with flush := true, flushSeq := none, flushCut := (s.strmOf i).openPkt.isNone }).closePacket i))
    ∧ (∀ i : Fin 32, s.cfgOn Fld.streamEnable (32 + i) = true → s.isStandby = false → (s.strmOf (32 + i)).flush = false →
      exec (.streamFlush true (BitVec.ofNat 32 (2 ^ i.val))) s =
        .next ((s.setStrm (32 + i) { s.strmOf (32 + i) with flush := true, flushSeq := none, flushCut := (s.strmOf (32 + i)).openPkt.isNone }).closePacket (32 + i)))
    ∧ (∀ id d, s.serves id 0x20 d → s.cfgOn Fld.streamEnable (field (d.p 0) 5 0) = true → Look.largestPacket s.cfgv (field (d.p 0) 5 0) ≤ d.len →
      exec (.streamBuf id) s = .next ((s.take id).setStrm (field (d.p 0) 5 0)
        { s.strmOf (field (d.p 0) 5 0) with bufs := (s.strmOf (field (d.p 0) 5 0)).bufs ++ [⟨id, d.addr, d.len, 0, 0, 0, [], false⟩] }))
    ∧ (∀ id d, s.serves id 0x20 d → s.cfgOn Fld.streamEnable (field (d.p 0) 5 0) = false → exec (.streamBuf id) s = .next (s.retireBad d 0x0201))
    ∧ (∀ id d, s.serves id 0x20 d → s.cfgOn Fld.streamEnable (field (d.p 0) 5 0) = true → d.len < Look.largestPacket s.cfgv (field (d.p 0) 5 0) →
      exec (.streamBuf id) s = .next (s.retireBad d 0x0210))
    ∧ (∀ x : Fin 64, (s.strmOf x).overflow = true → (s.strmOf x).resume = false → s.cfgOn Fld.streamEnable x = true →
      (s.roomFor x (Look.largestPacket s.cfgv x)).isSome = true → Look.scheduled s.cfgv (Look.strmGroup s.cfgv x) = false →
      exec (.gapRecordWrite x) s = .next (s.setStrm x { s.strmOf x with resume := true }))
    ∧ (∀ (x : Fin 64) (l : LossSt), (s.strmOf x).overflow = true → (s.strmOf x).resume = false → s.cfgOn Fld.streamEnable x = true →
      (s.roomFor x (Look.largestPacket s.cfgv x)).isSome = true → l.cause = 1 → Look.scheduled s.cfgv (Look.strmGroup s.cfgv x) = true →
      (s.grpOf (Look.strmGroup s.cfgv x)).mode = .running → (s.strmOf x).losses = [l] → Look.strmDec s.cfgv x = 1 →
      exec (.gapRecordWrite x) s = .next ((s.writeGaps x (s.grpOf (Look.strmGroup s.cfgv x)).nextK
        (Look.edgeT s.cfgv (Look.strmGroup s.cfgv x) (s.grpOf (Look.strmGroup s.cfgv x)).nextK)).updStrm x (fun st =>
          { st with tail := some ⟨(s.grpOf (Look.strmGroup s.cfgv x)).nextK, tqNs (Look.edgeT s.cfgv (Look.strmGroup s.cfgv x) (s.grpOf (Look.strmGroup s.cfgv x)).nextK), true, s.epoch⟩,
                    skipTo := some (s.grpOf (Look.strmGroup s.cfgv x)).nextK })))

/-- R151, R388, R399: the oldest packet that waits for a signature is signed, behind weight records and unless keys are withheld; a packet that fits is written to its buffer, and to nothing else in host memory. It rests on the model's own choices or readings in assumption 9. -/
def Obligations.PacketsAreSignedAndWrittenToTheirBuffer : Prop :=
  (∀ (s : State) (x : Fin 64) (p : Packet), s.weightWaits = false → s.sv.withheld = false → oldestOf s.signWait = some (x.val, p) →
    exec (.packetSigned x) s = .next (((s.bump 0x6800C).updStrm x (fun st => st.updPacket p.seq (fun q => { q with signature := some (s.signBlock 2 1 (Config.sha384 p.signed)) }))).streamSettle x))
  ∧ (∀ (s : State) (x : Fin 64), s.weightWaits = true ∨ s.sv.withheld = true → exec (.packetSigned x) s = .next s)
  ∧ (∀ (s : State) (x : Fin 64) (b : StreamBuf) (p : Packet) (rest : List Packet), s.deliversNow x = true → (s.strmOf x).buffer = some b → (s.strmOf x).queue = p :: rest →
    p.damaged = false → p.ready = true → b.used + p.size ≤ b.len → ((s.fillBuf x b p).strmOf x).flushSeq ≠ some p.seq →
    exec (.packetDmaDone x) s = .next ((s.fillBuf x b p).bufSettle (((s.fillBuf x b p).strmOf x).bufs.length + 1) x))
  ∧ (∀ (s : State) (x : Nat) (b : StreamBuf) (p : Packet), s.wf = true → p.damaged = false → (p.bytes (fun _ => 0)).length ≤ 18446744073709551616 →
    (∀ i, i < (p.bytes (fun _ => 0)).length → Memory.read (s.fillBuf x b p).host.mem ((b.addr + b.used + i) % 18446744073709551616) = (p.bytes (fun _ => 0)).getD i 0)
    ∧ (∀ a, (∀ i, i < (p.bytes (fun _ => 0)).length → a ≠ (b.addr + b.used + i) % 18446744073709551616) → Memory.read (s.fillBuf x b p).host.mem a = Memory.read s.host.mem a)
    ∧ s.keepsBut [.strm, .host] (s.fillBuf x b p))

/-! ### Compression -/

/-- R202, R204, R205, R206, R208: a lane's end gives a packet its form, compressed unless that is longer, and a staging error or 100 µs without a lane sends it as it is; a job is taken for the lanes or refused for its parameters; a lane's end reads a segment of its job, and the last one ends it. Host jobs gain no third lane while an enabled stream compresses. It rests on the model's own choices or readings in assumptions 3, 9, 81, 82, 83 and 106. -/
def Obligations.LanesServePacketsAndJobs : Prop :=
  ∀ s : State,
    (∀ (lane : Fin 4) (x : Nat) (p : Packet), s.comp.lanes.getD lane .free = .packet x → (s.strmOf x).onLane lane = some p → s.memError 3 = 0 →
      exec (.packetCompressed lane false) s = .next (s.packetCompressed x p)
      ∧ exec (.packetCompressed lane true) s = .next ((s.setBit Reg.cmpStatus 10).bypass x p)
      ∧ s.packetCompressed x p = (((s.cmpPacket p).setLane lane .free).updStrm x (fun st => st.updPacket p.seq (fun r => { r with settled := true, lane := none, packed := p.settleForm.packed }))).streamSettle x
      ∧ s.bypass x p = ((((s.bump 0x40004).setBit Reg.cmpStatus 8).setLane lane .free).updStrm x (fun st => st.updPacket p.seq (fun r => { r with settled := true, lane := none }))).streamSettle x)
    ∧ (∀ (lane : Fin 4) (x : Nat), s.comp.lanes.getD lane .free = .packet x → (s.strmOf x).onLane lane = none →
      ∀ ecc, exec (.packetCompressed lane ecc) s = .next ((s.setLane lane .free).streamSettle x))
    ∧ (∀ (x : Nat) (seq : W32) (f : Packet → Packet) (p : Packet), ((s.strmOf x).updPacket seq f).queue.length = (s.strmOf x).queue.length
      ∧ (p ∈ (s.strmOf x).closing → p.seq = seq → f p ∈ ((s.strmOf x).updPacket seq f).closing) ∧ (p ∈ (s.strmOf x).closing → p.seq ≠ seq → p ∈ ((s.strmOf x).updPacket seq f).closing))
    ∧ (∀ p : Packet, p.settled = false → p.settleForm.settled = true
      ∧ (p.deflated.length ≤ 4 * p.payload.length → p.settleForm.packed = some p.deflated) ∧ (4 * p.payload.length < p.deflated.length → p.settleForm.packed = none))
    ∧ (∀ (x : Fin 64) (p : Packet), ((s.strmOf x).queue ++ (s.strmOf x).closing).find? (fun p => !p.settled && p.lane.isNone) = some p →
      exec (.cmpBypass x) s = .next ((s.reachUp (p.closedAt + 100000)).bypass x p))
    ∧ (∀ (id : Nat) (d : Desc), s.serves id 0x30 d →
      (d.jobBad = false → exec (.compress id) s = .next (({ s with comp := { s.comp with jobs := s.comp.jobs ++ [⟨id, 0, [], none, none, [], 0⟩] } } : State).take id).assignAll)
      ∧ (d.jobBad = false → s.comp.chains = [] → (∀ j ∈ s.comp.jobs, j.id ≠ id) → Runs (.compress id) s (fun u => (∃ j ∈ u.comp.jobs, j.id = id) ∧ s.keepsBut [.regs, .strm, .comp, .host, .sq, .cq, .sb] u))
      ∧ (d.jobBad = true → exec (.compress id) s = .next (((s.chainPast d).jobLeaves d true []).retireBad d 0x0401)))
    ∧ (∀ (id : Nat) (d : Desc), s.serves id 0x31 d →
      (d.jobBad = false → exec (.decompress id) s = .next (({ s with comp := { s.comp with jobs := s.comp.jobs ++ [⟨id, 0, [], none, none, [], 0⟩] } } : State).take id).assignAll)
      ∧ (d.jobBad = false → s.comp.chains = [] → (∀ j ∈ s.comp.jobs, j.id ≠ id) → Runs (.decompress id) s (fun u => (∃ j ∈ u.comp.jobs, j.id = id) ∧ s.keepsBut [.regs, .strm, .comp, .host, .sq, .cq, .sb] u))
      ∧ (d.jobBad = true → exec (.decompress id) s = .next (((s.chainPast d).jobLeaves d true []).retireBad d 0x0401)))
    ∧ (∀ (lane : Fin 4) (id seg : Nat) (d : Desc) (j : JobSt), s.comp.lanes.getD lane .free = .job id seg →
      (s.canDma = false → exec (.compressionJobDone lane) s = .next s)
      ∧ (s.canDma = true → s.descOf id = some d → s.comp.jobs.find? (fun j => j.id == id) = some j →
        (d.op = 0x30 → exec (.compressionJobDone lane) s = .next ((s.setLane lane .free).compressSeg d j seg).assignAll)
        ∧ (d.op ≠ 0x30 → exec (.compressionJobDone lane) s = .next ((s.setLane lane .free).inflateSeg d j seg).assignAll)
        ∧ (d.op = 0x30 → j.data.length + 1 = segsOf d.jobSrcLen → Runs (.compressionJobDone lane) s (fun u => u.descOf id = none))
        ∧ (d.op ≠ 0x30 → (d.infSegment j.history (j.src ++ s.hostRead (d.p64 0 + j.src.length) (d.jobSrcLen - j.src.length)) seg).2 = none →
          Runs (.compressionJobDone lane) s (fun u => u.descOf id = none))))
    ∧ (s.streamsCompress = true → s.jobLanes ≤ 2 → s.assignAll.jobLanes ≤ 2)

/-- R200: undoing the delta transform gives back the words it was made from. -/
def Obligations.DeltaTransformIsUndone : Prop :=
  ∀ (ch : Nat) (ws : List W32), 0 < ch → undeltaBlock ch (deltaBlock ch ws) = ws


/-! ### Mantis -/

/-- R168, R170: a pattern compares the bits of its MASK and one with MASK 0 never matches; inside the hysteresis a condition keeps its value. -/
def Obligations.PatternsAndConditionsDecide : Prop :=
  (∀ mask value conds : Nat, mask < 18446744073709551616 → value < 18446744073709551616 →
    (patternMatches (mask + 18446744073709551616 * value) conds = true ↔
      mask ≠ 0 ∧ ∀ b, mask.testBit b = true → conds.testBit b = value.testBit b))
  ∧ (∀ (l u h y : Int) (marked val armed : Bool),
    (l ≤ y → (condTable 0 l u h y marked val armed).1 = true) ∧ (0 ≤ h → y < l - h → (condTable 0 l u h y marked val armed).1 = false)
    ∧ (l - h ≤ y → y < l → (condTable 0 l u h y marked val armed).1 = val)
    ∧ (y < l → (condTable 1 l u h y marked val armed).1 = true) ∧ (0 ≤ h → l + h ≤ y → (condTable 1 l u h y marked val armed).1 = false)
    ∧ (armed = false → (condTable 2 l u h y marked val armed).1 = false) ∧ (armed = false → (condTable 3 l u h y marked val armed).1 = false)
    ∧ (l ≤ y → y < u → (condTable 4 l u h y marked val armed).1 = true) ∧ (0 ≤ h → l + h ≤ y → y < u - h → (condTable 5 l u h y marked val armed).1 = false)
    ∧ condTable 6 l u h y marked val armed = (marked, armed))

/-- R178, R180, R181, R187: an armed unit that accepts a trigger takes its oldest descriptor, numbers the record and opens its window; a trigger it cannot take is counted as missed. It rests on the model's own choices or readings in assumption 84. -/
def Obligations.CaptureUnitsAcceptOrMissTriggers : Prop :=
  ∀ (s : State) (u : Nat) (e : TrigEvent), s.wf = true → u < 16 →
    (∀ d rest merged, (s.capOf u).descs = d :: rest →
      (s.capAccept u e merged).capOf u = { s.capOf u with mode := .window, descs := rest, seqNext := (s.capOf u).seqNext + 1, winEnd := e.point + nsTq (s.cfgv Fld.capPostNs u 0), deadFrom := some s.nowNs, missed := 0, winGroup := s.cfgv Fld.capGroup u 0, hitTook := true }
      ∧ (∃ j js, (s.capAccept u e merged).mantis.jobs = js ++ [j] ∧ js.length = s.mantis.jobs.length ∧ j.unit = u ∧ j.id = d ∧ j.seq = (s.capOf u).seqNext
        ∧ j.tTrig = e.point ∧ j.lo = e.point - nsTq (s.cfgv Fld.capPreNs u 0) ∧ j.hi = e.point + nsTq (s.cfgv Fld.capPostNs u 0)
        ∧ j.sources = e.bits ∧ j.missed = (s.capOf u).missed ∧ j.dead = (s.capOf u).dead ∧ j.coalesced = merged)
      ∧ s.keepsBut [.cap, .mantis] (s.capAccept u e merged))
    ∧ ((s.capMiss u).reg (Reg.cap u 8) = (s.reg (Reg.cap u 8)).satAdd 1 ∧ (s.capMiss u).bit (Reg.cap u 0) 8 = true
      ∧ (s.capMiss u).capOf u = (if (s.capOf u).deadFrom.isSome = true then { s.capOf u with missed := (s.capOf u).missed + 1 } else s.capOf u)
      ∧ s.keepsBut [.regs, .cap] (s.capMiss u))
    ∧ (e.listed (s.cfgv Fld.capSources u 0) = 0 → s.capTrigger u [e] = s)
    ∧ (s.capOn u = true → s.capLive = true → s.tooFar e.point = true → s.capTrigger u [e] = s)

/-- R175, R177, R178, R180: the trigger-out pulse ends at its time, a trigger input's edge lies on the next converter clock edge, and a window that ends leaves its unit idle or armed again. It rests on the model's own choices or readings in assumption 3. -/
def Obligations.TriggerPinsAndWindowsAct : Prop :=
  ∀ s : State, s.wf = true →
    (s.mantis.toutHigh = true → Runs .triggerOutEnd s (fun t => t.mantis = { s.mantis with toutHigh := false } ∧ t.tm = (s.reachUp s.mantis.toutUntil).tm ∧ s.keepsBut [.tm, .mantis] t))
    ∧ (∀ (v : Fin 2) (rising : Bool), s.pinCarries (s.cfgv Fld.tinGpio v 0) 6 = true → (rising = true ↔ s.cfgv Fld.tinEdge v 0 = 0) → exec (.triggerInEdge v rising) s =
      .next ((s.reachUp ((s.tm.up + 4) / 5 * 5)).capDeliver [⟨2 ^ (32 + v.val), nsTq (s.reachUp ((s.tm.up + 4) / 5 * 5)).nowNs, false, 0xFFFF⟩]))
    ∧ (∀ (v : Fin 2) (rising : Bool), s.pinCarries (s.cfgv Fld.tinGpio v 0) 6 = false ∨ ¬ (rising = true ↔ s.cfgv Fld.tinEdge v 0 = 0) →
      Runs (.triggerInEdge v rising) s (fun t => s.keepsBut [.tm] t))
    ∧ (∀ u : Fin 16, (s.capOf u).mode = .window → (s.capOf u).descs = [] → Runs (.captureWindowEnd u) s (fun t =>
      t.capOf u = { s.capOf u with mode := .idle } ∧ s.keepsBut [.tm, .cap] t))
    ∧ (∀ u : Fin 16, (s.capOf u).mode = .window → (s.capOf u).descs ≠ [] → s.capLive = true → Runs (.captureWindowEnd u) s (fun t =>
      (t.capOf u).mode = .armed ∧ (t.capOf u).deadFrom = none ∧ (t.capOf u).descs = (s.capOf u).descs
      ∧ (∀ n, (s.capOf u).deadFrom = some n → t.reg (Reg.cap u 0x10) = BitVec.ofNat 32 (min (t.nowNs - n) 0xFFFFFFFF)) ∧ s.keepsBut [.tm, .regs, .cap] t))

/-- R176, R178, R183, R186, R188, R189: arming, reading back, forcing and finishing a capture. It rests on the model's own choices or readings in assumptions 85 and 96. -/
def Obligations.CaptureDescriptorsAreServed : Prop :=
  ∀ s : State, s.wf = true →
    let largest := fun (d : Desc) => recordBytes (if Look.scheduled s.cfgv (field (d.p 0) 0 0) then s.readFrames (field (d.p 0) 0 0) (nsTq (d.p64 1)) (nsTq (d.p64 3)) else 65535)
      (popCount 512 (ofLeBytes (s.hostRead (d.p64 5) 64)))
    (∀ id d, s.serves id 0x21 d → s.capOn (field (d.p 0) 3 0) = false → exec (.captureArm id) s = .next (s.retireBad d 0x0330))
    ∧ (∀ id d, s.serves id 0x21 d → s.capOn (field (d.p 0) 3 0) = true → d.len < s.capLargest (field (d.p 0) 3 0) + (if d.flag 3 then 104 else 0) →
      exec (.captureArm id) s = .next (s.retireBad d 0x0320))
    ∧ (∀ id d, s.serves id 0x21 d → s.capOn (field (d.p 0) 3 0) = true → s.capLargest (field (d.p 0) 3 0) + (if d.flag 3 then 104 else 0) ≤ d.len →
      s.capLive = true → Runs (.captureArm id) s (fun t => (t.capOf (field (d.p 0) 3 0)).descs = (s.capOf (field (d.p 0) 3 0)).descs ++ [id]
        ∧ ((s.capOf (field (d.p 0) 3 0)).mode = .idle → (t.capOf (field (d.p 0) 3 0)).mode = .armed) ∧ t.host = (s.take id).host ∧ s.keepsBut [.regs, .cap, .host] t))
    ∧ (∀ id d, s.serves id 0x22 d → d.p64 1 ≤ d.p64 3 → s.tooFar (s.readPoint (field (d.p 0) 0 0) (nsTq (d.p64 1))) = false →
      s.readOk (d.p64 5) 64 = true → s.readFrames (field (d.p 0) 0 0) (nsTq (d.p64 1)) (nsTq (d.p64 3)) ≤ 65535 →
      (∀ i ∈ bitsOf 512 (ofLeBytes (s.hostRead (d.p64 5) 64)), Look.chanGroup s.cfgv i = field (d.p 0) 0 0) →
      (d.len < largest d + (if d.flag 3 then 104 else 0) → exec (.captureRead id) s = .next (s.retireBad d 0x0320))
      ∧ (largest d + (if d.flag 3 then 104 else 0) ≤ d.len → Runs (.captureRead id) s (fun t =>
          (∃ j js, t.mantis.jobs = js ++ [j] ∧ js.length = s.mantis.jobs.length ∧ j.unit = 16 ∧ j.id = id ∧ j.lo = nsTq (d.p64 1) ∧ j.hi = nsTq (d.p64 3)
            ∧ j.tTrig = s.readPoint (field (d.p 0) 0 0) (nsTq (d.p64 1)) ∧ j.group = field (d.p 0) 0 0 ∧ j.channels = ofLeBytes (s.hostRead (d.p64 5) 64)) ∧ t.host = (s.take id).host ∧ s.keepsBut [.mantis, .host, .freeCtr] t)))
    ∧ (∀ id d, s.serves id 0x22 d → d.p64 1 ≤ d.p64 3 → s.tooFar (s.readPoint (field (d.p 0) 0 0) (nsTq (d.p64 1))) = false →
      s.readOk (d.p64 5) 64 = true → 65535 < s.readFrames (field (d.p 0) 0 0) (nsTq (d.p64 1)) (nsTq (d.p64 3)) →
      exec (.captureRead id) s = .next (s.retireBad d 0x0340))
    ∧ (∀ id d, s.serves id 0x22 d → d.p64 1 ≤ d.p64 3 → s.tooFar (s.readPoint (field (d.p 0) 0 0) (nsTq (d.p64 1))) = true →
      exec (.captureRead id) s = .next (s.retireBad d 0x0810))
    ∧ (∀ w : W32, Runs (.mantisForce w) s (fun t => (∀ u, u < 16 →
      t.trigOf u = if w.getLsbD u && s.cfgOn Fld.trigEnable u then { s.trigOf u with forced := true } else s.trigOf u) ∧ s.keepsBut [.trig] t))
    ∧ (∀ (u : Fin 17) j d, s.mantis.jobs.find? (fun j => j.unit == u.val) = some j → s.descOf j.id = some d → s.capOver j = true → s.canDma = true →
      exec (.captureCopyDone u) s = .next (if d.flag 3 = true ∧ s.packetsWait = true then s else s.capFinish j d))

/-- R192, R193: a line trigger is taken once, forwarded with one hop less while hops are left, and dropped when it is a repeat, of another epoch or too far away. -/
def Obligations.LineTriggersAreTakenOnce : Prop :=
  ∀ s : State, s.wf = true → ∀ (p : Port) (f : LineTrig), s.inService (pidx p) = true →
    (s.ltrigDuplicate f = true → Runs (.lineTrigger p f) s (fun t => t.reg 0x38608 = (s.reg 0x38608).satAdd 1 ∧ t.mantis.seen = ((f.origin, f.seq, f.tq) :: s.mantis.seen).take 256
      ∧ t.linkOf (pidx p) = { (s.linkOf (pidx p)).receives with rxNext := (s.linkOf (pidx p)).rxNext + 1, ackSent := (s.linkOf (pidx p)).rxNext, nakFor := none, authRun := 0, oldKeys := (t.linkOf (pidx p)).oldKeys, ctl := ackBlock (s.linkOf (pidx p)).rxNext, ctlSent := (s.linkOf (pidx p)).ctlSent + 1, ctlWait := (t.linkOf (pidx p)).ctlWait, wire := (t.linkOf (pidx p)).wire, scram0 := (t.linkOf (pidx p)).scram0, scram1 := (t.linkOf (pidx p)).scram1, txPos := (t.linkOf (pidx p)).txPos, bad0 := (t.linkOf (pidx p)).bad0, bad1 := (t.linkOf (pidx p)).bad1, sent := (t.linkOf (pidx p)).sent }
      ∧ s.keepsBut [.regs, .link, .mantis, .freeCtr] t))
    ∧ (s.ltrigDuplicate f = false → Runs (.lineTrigger p f) s (fun t => t.mantis.seen = ((f.origin, f.seq, f.tq) :: s.mantis.seen).take 256
      ∧ t.reg 0x38608 = s.reg 0x38608
      ∧ (f.epoch ≠ s.epoch → t.reg 0x3860C = (s.reg 0x3860C).satAdd 1 ∧ t.cap = s.cap)
      ∧ (f.epoch = s.epoch → s.tooFar f.tq = true → t.reg 0x38610 = (s.reg 0x38610).satAdd 1 ∧ t.cap = s.cap)
      ∧ (f.epoch = s.epoch → s.tooFar f.tq = false → t.reg 0x38604 = (s.reg 0x38604).satAdd 1)
      ∧ (f.hopsLeft = 0 → ∀ q, q ≠ pidx p → t.linkOf q = s.linkOf q)
      ∧ (f.hopsLeft ≠ 0 → ∀ q, q ∈ forwardPorts (pidx p) → (s.linkOf q).mode = .disabled → t.reg (Reg.link q 0x20) = (s.reg (Reg.link q 0x20)).satAdd 1)))

/-! ### Firefly -/

/-- R214, R215, R230: a slew spreads exactly its correction over its interval, within the limit of SLEW_MAX_PPB, and one of less than 100 % never turns time back; a hub without a parent's clock goes on with the rate of its last correction. -/
def Obligations.SlewingSpreadsItsCorrection : Prop :=
  (∀ t : TimeSt, t.slewLen ≠ 0 → (∀ n, t.slewLen ≤ n → t.spread false (t.slewAt + n) = t.slew) ∧ (∀ k : Nat, t.spread true (t.slewAt + k * t.slewLen) = k * t.slew))
  ∧ (∀ (s : State) (theta : Int) (interval : Nat), (s.ffSlew theta interval).tm.slew.natAbs ≤ s.cfgv Fld.fireflySlewMaxPpb 0 0 * interval * 65536 / 1000000000 * 65536
    ∧ (s.ffSlew theta interval).tm.count = s.tm.count ∧ s.keepsBut [.tm, .ff] (s.ffSlew theta interval))
  ∧ (∀ (t : TimeSt) (alone : Bool) (n : Nat), t.running = true → t.slew.natAbs ≤ t.slewLen * 4294967296 → t.count ≤ (t.advance alone n).count)

/-- R228, R234 to R236: with no asymmetry set, an exchange over a line of the same delay both ways gives exactly the offset and the delay; a servo step moves the count by its amount and starts the servo anew; an adoption takes epoch and time of the parent at once, empties the record of lost history and is reported. -/
def Obligations.OffsetsAreMeasuredAndTakenAsSteps : Prop :=
  ∀ s : State, s.wf = true →
    (∀ d : Int, (s.ffStep d).tm.count = ((s.tm.count : Int) + d * 65536).toNat ∧ (s.ffStep d).tm.slewLen = 0 ∧ (s.ffStep d).ff.integral = 0
      ∧ (s.ffStep d).ff.stepRun = s.ff.stepRun ∧ (s.ffStep d).epoch = s.epoch ∧ (s.ffStep d).ff.mode = s.ff.mode)
    ∧ (∀ epoch t, (s.adopt epoch t).epoch = epoch ∧ (s.adopt epoch t).tm.count = t * 65536 ∧ (s.adopt epoch t).tm.slewLen = 0 ∧ (s.adopt epoch t).hiveLost = []
      ∧ (s.adopt epoch t).bit Reg.ffStatus 10 = true ∧ (s.adopt epoch t).ff.mode = s.ff.mode)
    ∧ (∀ (p : Nat) (t1 t2 t3 t4 : Tq) (off delay : Int), s.cfgInt Fld.fireflyAsymPs p = 0 → (t2 : Int) = t1 + delay + off → (t4 : Int) = t3 + delay - off →
    s.ffTheta p t1 t2 t3 t4 = (off, delay))

/-- R222 to R229, R235, R238: what the frames of an exchange do at a port in service. It rests on the model's own choices or readings in assumption 42. -/
def Obligations.SyncExchangesRunAtAPort : Prop :=
  ∀ s : State, s.wf = true →
    (s.epoch ≠ 0xFFFF → Runs .syncInterval s (fun u => u.ff = { s.ff with sinceSwitch := s.ff.sinceSwitch + 1 }
      ∧ (∀ p, p ≤ 2 → (u.ffPortOf p).txSeq = if s.inService p && (decide (p = 2) || s.ffRoot || decide (p ≠ s.ffInUse)) then (s.ffPortOf p).txSeq + 1 else (s.ffPortOf p).txSeq)
      ∧ u.twin = { s.twin with mine := u.twin.mine, resync := u.twin.resync } ∧ s.keepsBut [.regs, .ff, .ffPort, .link, .twin] u))
    ∧ (s.epoch = 0xFFFF → exec .syncInterval s = .next { s with ff := { s.ff with sinceSwitch := s.ff.sinceSwitch + 1 } })
    ∧ (∀ p : Port, s.inService (pidx p) = true →
      (∀ m : DelayReq, s.epoch ≠ 0xFFFF → exec (.delayReq p m) s = .next ((s.rxAccept (pidx p)).sendOn (pidx p) .firefly (.delayResp ⟨m.seqId, s.epoch, s.now, m.retry⟩)))
      ∧ (∀ m : DelayReq, s.epoch = 0xFFFF → exec (.delayReq p m) s = .next (s.rxAccept (pidx p)))
      ∧ (∀ m : SyncMsg, s.ffRoot = false → pidx p = s.ffInUse → m.hops.toNat < 4094 → m.epoch ≠ 0xFFFF → m.epoch = s.epoch → (∀ x ∈ (s.ffPortOf (pidx p)).exch, x.t3 = none) →
        Runs (.sync p m) s (fun u => u.ff.source = some (m.rootId, m.hops + 1) ∧ (u.ffPortOf (pidx p)).adoptRun = 0 ∧ (s.ff.mode = .free → u.ff.mode = .acquiring)
          ∧ (s.ff.mode ≠ .free → u.ff.mode = s.ff.mode)
          ∧ (∃ e, (u.ffPortOf (pidx p)).exch = [e] ∧ e.seqId = m.seqId ∧ e.epoch = m.epoch ∧ e.reqEpoch = s.epoch ∧ e.t1 = m.t1 ∧ e.t2 = s.now)
          ∧ u.twin = { s.twin with mine := u.twin.mine, resync := u.twin.resync } ∧ s.keepsBut [.regs, .ff, .ffPort, .link, .twin, .pwr, .freeCtr] u))
      ∧ (∀ m : SyncMsg, s.ffRoot = false → pidx p = s.ffInUse → m.hops.toNat < 4094 → m.epoch ≠ 0xFFFF → s.epoch = 0xFFFF →
        Runs (.sync p m) s (fun u => u.epoch = m.epoch ∧ u.tm.count = ((m.t1 : Int) + (s.ffPortOf (pidx p)).delay).toNat * 65536))
      ∧ (∀ m : SyncMsg, 4094 ≤ m.hops.toNat ∨ m.epoch = 0xFFFF → exec (.sync p m) s = .next (s.rxAccept (pidx p)))
      ∧ (∀ m : SyncMsg, s.ffRoot = true → pidx p ≠ 2 → m.hops.toNat < 4094 → m.epoch ≠ 0xFFFF → m.epoch = s.epoch → (s.ffPortOf (pidx p)).conflict = true →
        exec (.sync p m) s = .next (((s.rxAccept (pidx p)).updFfPort (pidx p) (fun x => { x with adoptRun := 0 })).bump 0x48048))
      ∧ (∀ m : DelayResp, (s.ffPortOf (pidx p)).exch.find? (fun e => e.seqId == m.seqId) = none → exec (.delayResp p m) s = .next (s.rxAccept (pidx p)))
      ∧ (∀ (m : DelayResp) (e : ExchSt) (t3 : Tq), (s.ffPortOf (pidx p)).exch.find? (fun e => e.seqId == m.seqId) = some e → e.t3 = some t3 → s.injOf 10 1 0 = none → s.injOf 10 2 0 = none →
        e.retry = false → m.retry = false → e.epoch = s.epoch → e.reqEpoch = s.epoch → m.epoch = s.epoch → s.now ≤ t3 + nsTq 200000 →
        exec (.delayResp p m) s = .next (((s.rxAccept (pidx p)).updFfPort (pidx p) (fun x => { x with exch := x.exch.filter (fun x => !(x.seqId == m.seqId)) })).ffExchange (pidx p)
          (s.ffTheta (pidx p) e.t1 e.t2 t3 m.t4).1 (s.ffTheta (pidx p) e.t1 e.t2 t3 m.t4).2))
      ∧ (∀ (m : DelayResp) (e : ExchSt), (s.ffPortOf (pidx p)).exch.find? (fun e => e.seqId == m.seqId) = some e → s.injOf 10 2 0 = none →
        e.t3 = none ∨ e.retry = true ∨ m.retry = true ∨ e.epoch ≠ s.epoch ∨ e.reqEpoch ≠ s.epoch ∨ m.epoch ≠ s.epoch →
        exec (.delayResp p m) s = .next ((s.rxAccept (pidx p)).ffDrop (pidx p) (fun x => x.seqId == m.seqId))))
    ∧ (∀ (p : Port) (e : ExchSt) (t3 : Tq), (s.ffPortOf (pidx p)).exch = [e] → e.t3 = some t3 → Runs (.exchangeTimeout p) s (fun u =>
      u.reg 0x48028 = (s.reg 0x48028).satAdd 1 ∧ u.ffPortOf (pidx p) = { s.ffPortOf (pidx p) with exch := [], goodRun := 0 } ∧ u.tm = (s.reach (t3 + nsTq 200000)).tm
      ∧ (∀ q, q ≠ pidx p → u.ffPortOf q = s.ffPortOf q) ∧ s.keepsBut [.tm, .regs, .ffPort] u))

/-- R216, R225, R231, R233, R243 to R246: the servo's states at timeouts, PPS and FF_SET; the latches of FF_NOW; transmit time stamps. -/
def Obligations.ServoStatesAndLatchesFollowTheirRules : Prop :=
  ∀ s : State, s.wf = true →
    (s.ffRoot = false → s.ff.altInUse = false → s.ffAlt = none → s.ff.mode = .locked → Runs .parentTimeout s (fun u =>
      u.ff.mode = .holdover ∧ u.ff.holdFrom = u.tm.up ∧ u.tm = (s.reachUp s.ffDue).tm ∧ u.bit Reg.ffStatus 11 = true ∧ (u.ffPortOf s.ffParent).goodRun = 0
      ∧ u.pwr = { s.pwr with onset := u.pwr.onset, arose := u.pwr.arose } ∧ s.keepsBut [.tm, .regs, .ff, .ffPort, .pwr] u))
    ∧ (∀ p, s.ffRoot = false → s.ff.altInUse = false → s.ffAlt = some p → s.inService s.ffParent = false → s.ffGives p = true →
      (s.ffPortOf p).altBad = false → 16 ≤ s.ff.sinceSwitch → Runs .parentTimeout s (fun u =>
        u.ff = { s.ff with altInUse := true, sinceSwitch := 0, source := none, parentHold := false, useUp := s.tm.up } ∧ (∀ a, a ≠ 0x2004 → u.reg a = s.reg a) ∧ s.keepsBut [.regs, .ff, .ffPort, .freeCtr] u))
    ∧ (∀ p, s.ffRoot = false → s.ff.altInUse = false → s.ffAlt = some p → p ≠ s.ffParent → s.inService s.ffParent = true → (s.reachUp s.ffDue).ffGives p = true →
      (s.ffPortOf p).altBad = false → 16 ≤ s.ff.sinceSwitch → Runs .parentTimeout s (fun u =>
        u.ff = { s.ff with altInUse := true, sinceSwitch := 0, source := none, parentHold := false, useUp := u.tm.up } ∧ u.tm = (s.reachUp s.ffDue).tm ∧ (∀ a, a ≠ 0x2004 → u.reg a = s.reg a) ∧ s.keepsBut [.tm, .regs, .ff, .ffPort, .freeCtr] u))
    ∧ (s.ffRoot = false → s.ff.mode = .acquiring → exec .noParent s =
      .next (((s.reachUp (max ((s.ffPortOf s.ffInUse).syncUp.getD 0) s.ff.modeUp + 1000000000)).setBit Reg.ffStatus 12).raise (errAt 0 Reg.ffStatus 12 0xFFFF)))
    ∧ (s.ffRoot = true → s.ffPps = true → s.ff.mode = .locked → Runs .ppsTimeout s (fun u =>
      u.ff.mode = .holdover ∧ u.ff.holdFrom = u.tm.up ∧ u.tm = (s.reachUp (s.ff.ppsUp + 1500000000)).tm ∧ u.bit Reg.ffStatus 11 = true
      ∧ u.pwr = { s.pwr with onset := u.pwr.onset, arose := u.pwr.arose } ∧ s.keepsBut [.tm, .regs, .ff, .pwr] u))
    ∧ (s.ffRoot = true → s.ffPps = true → s.pinCarries (s.cfgv Fld.fireflyPpsGpio 0 0) 4 = true → s.ff.mode = .acquiring ∨ s.ff.mode = .locked →
      (∀ v ep, s.ff.goPending = some (v, ep) → Runs .ppsEdge s (fun u => u.nowNs = v ∧ u.epoch = ep ∧ u.ff.goPending = none ∧ u.ff.mode = s.ff.mode))
      ∧ (s.ff.goPending = none → exec .ppsEdge s = .next ((({ s with ff := { s.ff with ppsUp := s.tm.up } } : State).ffCorrect (((s.nowNs : Int) - ((s.nowNs + 500000000) / 1000000000 * 1000000000 : Nat)) * 65536)
        1000000000 (decide (s.ff.mode ≠ .locked))).ppsStates ((s.nowNs : Int) - ((s.nowNs + 500000000) / 1000000000 * 1000000000 : Nat)))))
    ∧ (∀ theta : Int, s.ff.mode = .locked → (1000 < theta.natAbs → (s.ppsStates theta).ff.mode = .holdover) ∧ (theta.natAbs ≤ 1000 → s.ppsStates theta = s))
    ∧ (∀ theta : Int, s.ff.mode = .acquiring → theta.natAbs ≤ 100 → s.ff.ppsRun = 3 → (s.ppsStates theta).ff.mode = .locked)
    ∧ (∀ path : Path, s.ffRoot = false ∨ field (s.reg 0x48038) 15 0 = 0xFFFF ∨ (path = .host ∧ s.sv.owned = true ∧ s.sv.policy.getLsbD 0 = false) →
      Runs (.ffSetGo path) s (fun u => u.bit Reg.ffStatus 14 = true ∧ (∀ a, a ≠ Reg.ffStatus → u.reg a = s.reg a) ∧ s.keepsBut [.regs] u))
    ∧ (s.ffRoot = true → s.ffPps = false → field (s.reg 0x48038) 15 0 ≠ 0xFFFF → Runs (.ffSetGo .sideband) s (fun u =>
      u.nowNs = s.reg64 0x48030 ∧ u.epoch = BitVec.ofNat 16 (field (s.reg 0x48038) 15 0) ∧ u.ff.mode = .locked))
    ∧ (s.ffRoot = true → s.ffPps = true → field (s.reg 0x48038) 15 0 ≠ 0xFFFF → exec (.ffSetGo .sideband) s =
      .next { s with ff := { s.ff with goPending := some (s.reg64 0x48030, BitVec.ofNat 16 (field (s.reg 0x48038) 15 0)) } })
    ∧ exec (.ffNowRead false) s = .next { s with ff := { s.ff with nowHi := some (W32.hi s.nowNs), nowFrac := some (BitVec.ofNat 32 (s.now % 65536)) } }
    ∧ exec (.ffNowRead true) s = .next { s with ff := { s.ff with nowHi := none, nowFrac := some (BitVec.ofNat 32 (s.now % 65536)) } }
    ∧ (∀ p : Port, Runs (.txtsPop p) s (fun u => u.txtsOf (pidx p) = { s.txtsOf (pidx p) with queue := (s.txtsOf (pidx p)).queue.drop 1 }
      ∧ (∀ q, q ≠ pidx p → u.txtsOf q = s.txtsOf q) ∧ s.keepsBut [.txts] u))
    ∧ (∀ (p : Nat) (i : BitVec 16) (stamp : Tq) (retry : Bool),
      ((s.txtsOf p).queue.length < 32 → (s.txtsPush p i stamp retry).txtsOf p = ⟨(s.txtsOf p).queue ++ [⟨i, stamp, retry, (s.txtsOf p).gapNext⟩], false⟩
        ∧ s.keepsBut [.txts] (s.txtsPush p i stamp retry))
      ∧ (32 ≤ (s.txtsOf p).queue.length → (s.txtsPush p i stamp retry).txtsOf p = { s.txtsOf p with gapNext := true }
        ∧ (s.txtsPush p i stamp retry).bit (Reg.txts p 0) 8 = true ∧ (s.txtsPush p i stamp retry).reg (Reg.txts p 4) = (s.reg (Reg.txts p 4)).satAdd 1))

/-- R219, R240, R241: a pulse programme is refused, or set up; its rising edge stands at the placed time and its falling edge WIDTH later. It rests on the model's own choices or readings in assumptions 3, 53 and 115. -/
def Obligations.TimePulsesRiseAndFallAtTheirTimes : Prop :=
  ∀ s : State, s.wf = true →
    (∀ id d, s.serves id 0x40 d →
      let k := field (d.p 0) 1 0
      let p : PulseProg := ⟨id, field (d.p 0) 12 8, nsTq (d.p64 1) + field (d.p 3) 15 0, (d.p 4).toNat, nsTq (d.p 5).toNat + field (d.p 6) 15 0, (d.p 7).toNat⟩
      (p.width = 0 → exec (.timePulse id) s = .next ((s.pulseStop k 0x0813).retireOk d []))
      ∧ (p.width ≠ 0 → s.pulseGood p = false → exec (.timePulse id) s = .next (s.retireBad d 0x0812))
      ∧ (p.width ≠ 0 → s.pulseGood p = true → nsTq 2147483647 < ((p.start : Int) - s.now).natAbs → exec (.timePulse id) s = .next (s.retireBad d 0x0810))
      ∧ (p.width ≠ 0 → s.pulseGood p = true → ((p.start : Int) - s.now).natAbs ≤ nsTq 2147483647 → p.start < d.fetchedAt + nsTq 2000 →
        exec (.timePulse id) s = .next (s.retireBad d 0x0811))
      ∧ (p.width ≠ 0 → s.pulseGood p = true → ((p.start : Int) - s.now).natAbs ≤ nsTq 2147483647 → d.fetchedAt + nsTq 2000 ≤ p.start → s.cfg.bad = false →
        Runs (.timePulse id) s (fun u => u.pulseOf k = (if (s.pulseOf k).prog = none ∧ (s.pulseOf k).next = [] then { s.pulseOf k with prog := some p, edge := 0, retired := false }
            else { s.pulseOf k with next := (s.pulseOf k).next ++ [p] })
          ∧ (∀ j, j ≠ k → u.pulseOf j = s.pulseOf j) ∧ u.host = (s.take id).host ∧ s.keepsBut [.pulse, .host] u)))
    ∧ (∀ (k : Fin 4) (p : PulseProg), (s.pulseOf k).prog = some p → (s.pulseOf k).next = [] → p.doneAt (s.pulseOf k).edge = false →
      Runs (.timePulseRise k) s (fun u => (u.pulseOf k).high = true ∧ (u.pulseOf k).edge = (s.pulseOf k).edge + 1 ∧ (u.pulseOf k).riseAt = nsTq (p.edgeNs (s.pulseOf k).edge)
        ∧ (u.pulseOf k).fallAt = nsTq (p.edgeNs (s.pulseOf k).edge) + nsTq p.width ∧ (u.pulseOf k).prog = some p ∧ (u.pulseOf k).pin = (if s.pads.parked.getLsbD p.gpio then 32 else p.gpio)
        ∧ u.tm = (s.reach (nsTq (p.edgeNs (s.pulseOf k).edge))).tm ∧ (∀ j, j ≠ k.val → u.pulseOf j = s.pulseOf j)))
    ∧ (∀ (k : Fin 4) (n : PulseProg), firstStart (s.pulseOf k).next = some n → (∀ p, (s.pulseOf k).prog = some p → p.doneAt (s.pulseOf k).edge = false → n.edgeNs 0 ≤ p.edgeNs (s.pulseOf k).edge) →
      Runs (.timePulseRise k) s (fun u => (u.pulseOf k).high = true ∧ (u.pulseOf k).edge = 1 ∧ (u.pulseOf k).prog = some n ∧ (u.pulseOf k).pin = (if s.pads.parked.getLsbD n.gpio then 32 else n.gpio)
        ∧ (u.pulseOf k).riseAt = nsTq (n.edgeNs 0) ∧ (u.pulseOf k).fallAt = nsTq (n.edgeNs 0) + nsTq n.width ∧ (∀ j, j ≠ k.val → u.pulseOf j = s.pulseOf j)))
    ∧ (∀ k : Fin 4, (s.pulseOf k).high = true → (s.pulseOf k).tails = [] → Runs (.timePulseFall k) s (fun u => (u.pulseOf k).high = false ∧ (u.pulseOf k).fallId = none
        ∧ (∀ p, (s.pulseOf k).prog = some p → (u.pulseOf k).prog = if p.doneAt (s.pulseOf k).edge then none else some p) ∧ u.tm = (s.reach (s.pulseOf k).fallAt).tm
        ∧ (∀ j, j ≠ k.val → u.pulseOf j = s.pulseOf j)))
    ∧ (∀ (k : Fin 4) (y : PulseTail), firstFall (s.pulseOf k).tails = some y → (s.pulseOf k).high = false ∨ y.fallAt ≤ (s.pulseOf k).fallAt →
      Runs (.timePulseFall k) s (fun u => u.pulseOf k = { s.pulseOf k with tails := (s.pulseOf k).tails.erase y } ∧ u.tm = (s.reach y.fallAt).tm
        ∧ (∀ j, j ≠ k.val → u.pulseOf j = s.pulseOf j)))
    ∧ (∀ (p : PulseProg) (j : Nat), 1000 * 65536 ≤ p.period → p.edgeNs j + 1000 ≤ p.edgeNs (j + 1))

/-! ### Utina links -/

/-- R263 to R265, R267, R268, R277: the states of a full bring-up, what ends each of them, its timeouts, and the causes of FAULT; block lock after 64 valid headers in a row, and the largest eye, the lower setting of equal ones. It rests on the model's own choices or readings in assumptions 43, 61, 78 and 79. -/
def Obligations.PortsComeUpStateByState : Prop :=
  (∀ bs : List (Bool × List Bool), bs.length = 64 → (∀ b ∈ bs, b.2.length = 64) →
    lockSearch (bs.flatMap (fun b => b.1 :: (!b.1) :: b.2)).length 0 0 (bs.flatMap (fun b => b.1 :: (!b.1) :: b.2)) = (true, 0))
  ∧ (∀ (hs : List Nat) (i : Nat), i < hs.length → hs.getD i 0 ≤ hs.getD (bestEye 0 0 0 hs) 0 ∧ (hs.getD i 0 = hs.getD (bestEye 0 0 0 hs) 0 → bestEye 0 0 0 hs ≤ i))
  ∧ ∀ s : State, s.wf = true → ∀ p : Port,
    let n := pidx p
    let l := s.linkOf n
    let up := s.tm.up
    let only := fun u : State => (∀ q, q ≠ n → u.linkOf q = s.linkOf q) ∧ s.keepsBut [.tm, .regs, .link, .trace, .freeCtr] u
    (l.mode = .detect → Runs (.detectDone p) s (fun u => u.linkOf n = { l.catchUp up with mode := .clockLock, testUp := up } ∧ only u))
    ∧ (l.mode = .clockLock → s.eqFixed n = false → Runs (.clockLockDone p) s (fun u => u.linkOf n = { l.catchUp up with mode := .eqTune, clockLock := true, lastTrain := none, testUp := up } ∧ only u))
    ∧ (l.mode = .clockLock → s.eqFixed n = true → Runs (.clockLockDone p) s (fun u =>
      u.linkOf n = { l.catchUp up with mode := .blockLock, clockLock := true, lastTrain := none, testUp := up, peak0 := s.cfgv Fld.linkEqPeak n 0, peak1 := s.cfgv Fld.linkEqPeak n 1 } ∧ only u))
    ∧ (∀ a b : List Nat, l.mode = .eqTune → Runs (.eqTuneDone p a b) s (fun u => u.linkOf n = { l.catchUp up with mode := .blockLock, testUp := up, peak0 := bestEye 0 0 0 a, peak1 := bestEye 0 0 0 b } ∧ only u))
    ∧ (∀ a b : List Bool, l.mode = .blockLock → Runs (.blockLockDone ⟨p, a, b⟩) s (fun u =>
      u.linkOf n = (if (lockSearch a.length 0 0 a).1 && (lockSearch b.length 0 0 b).1 then { l.catchUp up with mode := .deskew, testUp := up } else l)
      ∧ u.reg (Reg.link n 0x28) = (s.reg (Reg.link n 0x28)).satAdd ((lockSearch a.length 0 0 a).2 + (lockSearch b.length 0 0 b).2) ∧ only u))
    ∧ (∀ a b g, l.mode = .deskew → deskewed a b g = true → Runs (.deskewDone p a b g) s (fun u => (u.linkOf n).mode = .identify ∧ (u.linkOf n).swapped = (laneNumber a == 1)
      ∧ (u.linkOf n).inv0 = laneInverted a ∧ (u.linkOf n).inv1 = laneInverted b ∧ (u.linkOf n).skew = (g.first0 : Int) - g.first1 ∧ (u.linkOf n).lastTrain = some (.ident (s.identOf n)) ∧ ∀ q, q ≠ n → u.linkOf q = s.linkOf q))
    ∧ (∀ a b g, deskewed a b g = false → exec (.deskewDone p a b g) s = .next s)
    ∧ (∀ (f : IdentFrame) (r : Option Nat) (cause : Nat), l.mode = .identify →
      (portsFit p f.port = false ∧ cause = 1) ∨ (portsFit p f.port = true ∧ n = 2 ∧ f.unitB = s.boot.strapB ∧ cause = 2)
        ∨ (portsFit p f.port = true ∧ ¬ (n = 2 ∧ f.unitB = s.boot.strapB) ∧ f.secure ≠ s.linkSecured n ∧ cause = 3) →
      Runs (.ident p f r) s (fun u => u.linkOf n = { l.catchUp up with mode := .fault, faultCause := cause, partner := some f, rtt := r.getD l.rtt, fast := false, lastTrain := none, testUp := up }
        ∧ u.bit (Reg.link n 0) 13 = true ∧ ∀ q, q ≠ n → u.linkOf q = s.linkOf q))
    ∧ (∀ (f : IdentFrame), l.mode = .identify → portsFit p f.port = true → ¬ (n = 2 ∧ f.unitB = s.boot.strapB) → f.secure = s.linkSecured n →
      Runs (.ident p f none) s (fun u => u.linkOf n = { l with partner := some f } ∧ only u)
      ∧ (∀ r, l.fast = true → Runs (.ident p f (some r)) s (fun u => (u.linkOf n).mode = .active ∧ (u.linkOf n).partner = some f ∧ (u.linkOf n).rtt = r
        ∧ (u.linkOf n).keys.map (fun k => { k with counter := 0 }) = l.keys.map (fun k => { k with counter := 0 }) ∧ (u.linkOf n).fast = false))
      ∧ (∀ r, l.fast = false → exec (.ident p f (some r)) s =
        .next ((((s.updLink n (fun l => { l with partner := some f, rtt := r })).updLink n (fun l => { l with lastTrain := none })).linkMode n .rateTrial).nextTrial n)))
    ∧ (l.mode = .detect → Runs (.linkStateTimeout p) s (fun u => u.bit (Reg.link n 0) 11 = true ∧ (u.linkOf n).mode = (if l.sleeps then .sleep else .detect)
      ∧ u.tm = (s.reachUp (l.testUp + 100000000)).tm ∧ only u))
    ∧ (l.mode = .clockLock ∨ l.mode = .eqTune ∨ l.mode = .blockLock ∨ l.mode = .deskew ∨ l.mode = .identify ∨ l.mode = .secure →
      Runs (.linkStateTimeout p) s (fun u => (u.linkOf n).mode = .detect ∧ (u.linkOf n).rate = 0 ∧ (u.linkOf n).keys = none ∧ (u.linkOf n).fast = false ∧ u.tm = (s.reachUp l.limitUp).tm ∧ only u))
    ∧ (∀ b, l.lastTrain = some b → l.mode = .identify ∨ l.mode = .rateTrial → exec (.trainingResend p) s =
      .next (((s.reachUp (l.trainUp + 10000)).updLink n (fun l => { l with trainUp := max (s.reachUp (l.trainUp + 10000)).tm.up (l.trainUp + 10000) })).sendOn n .training b))
    ∧ (l.mode = .fault → 4 ≤ l.faultCause → Runs (.faultRetry p) s (fun u => (u.linkOf n).mode = .detect ∧ (u.linkOf n).faultCause = 0 ∧ u.tm = (s.reachUp (l.testUp + 1000000000)).tm ∧ only u))
    ∧ (l.mode = .fault → l.faultCause < 4 → exec (.faultRetry p) s = .next s)
    ∧ (l.mode ≠ .disabled → l.mode ≠ .test → Runs (.retrain p) s (fun u => (u.linkOf n).mode = .detect))
    ∧ (l.mode = .sleep ∨ l.mode = .detect → l.chirpUp = none → Runs (.chirpSend p) s (fun u => (u.linkOf n).mode = .detect ∧ (u.linkOf n).chirpUp = some up ∧ only u))
    ∧ (l.mode = .sleep ∨ l.mode = .detect → ∀ t, l.chirpUp = some t → up < t + 20000000 → exec (.chirpSend p) s = .next s)

/-- R266: a trial is proposed, accepted, soaked and judged; a failure goes back to the previous rate. It rests on the model's own choices or readings in assumption 58. -/
def Obligations.RateTrialsGoUpOneRateAtATime : Prop :=
  ∀ s : State, s.wf = true → ∀ p : Port,
    let n := pidx p
    let l := s.linkOf n
    let told := (l.queues ++ l.current.toList).any TxFrame.isResult
    (∀ r, l.mode = .rateTrial → l.trialStep = 0 → s.initiator n = false → r = l.rate + 1 → r ≤ s.rateLimit n →
      Runs (.ratePropose p r) s (fun u => (u.linkOf n).rate = r ∧ (u.linkOf n).prevRate = l.rate ∧ (u.linkOf n).trial = some r ∧ (u.linkOf n).trialStep = 2 ∧ (u.linkOf n).back = false
        ∧ (u.linkOf n).lastTrain = some (.rate 1 r)))
    ∧ (∀ r, s.inService n = true → s.initiator n = false → r = l.rate + 1 → r ≤ s.rateLimit n →
      Runs (.ratePropose p r) s (fun u => (u.linkOf n).mode = .rateTrial ∧ (u.linkOf n).rate = r ∧ (u.linkOf n).trial = some r ∧ (u.linkOf n).trialStep = 2
        ∧ (n ≠ 2 → u.reg (Reg.link n 0x10) = (s.reg (Reg.link n 0x10)).satAdd 1)))
    ∧ (∀ r, r ≠ l.rate + 1 ∨ s.rateLimit n < r → l.mode ≠ .rateTrial ∨ l.trialStep ≠ 2 → exec (.ratePropose p r) s = .next s)
    ∧ (∀ r, l.mode = .rateTrial → l.trialStep = 2 → s.initiator n = false → l.back = false → l.trial = some r → exec (.ratePropose p r) s = .next (s.sendOn n .training (.rate 1 r)))
    ∧ (∀ r, l.mode = .rateTrial → l.trialStep = 1 → l.trial = some r → Runs (.rateAccept p r) s (fun u =>
      u.linkOf n = { l.catchUp s.tm.up with prevRate := l.rate, rate := r, trialStep := 2, back := false, ownClean := true, lastTrain := none, laneUp := s.tm.up + 10000, txPos := 0 }
      ∧ (∀ q, q ≠ n → u.linkOf q = s.linkOf q) ∧ s.keepsBut [.link] u))
    ∧ (∀ c bad, l.mode = .rateTrial → l.trialStep = 6 → Runs (.test p ⟨c, bad⟩) s (fun u => u.linkOf n = { l with ownClean := l.ownClean && c && decide (bad = 0) }
      ∧ u.reg (Reg.link n 0x18) = (s.reg (Reg.link n 0x18)).satAdd (if c then 0 else 1) ∧ u.reg (Reg.link n 0x28) = (s.reg (Reg.link n 0x28)).satAdd bad
      ∧ (∀ q, q ≠ n → u.linkOf q = s.linkOf q) ∧ s.keepsBut [.regs, .link] u))
    ∧ (l.mode = .rateTrial → l.trialStep = 6 → l.gotPass = none → Runs (.soakEnd p) s (fun u => (u.linkOf n).trialStep = 7 ∧ (u.linkOf n).sentPass = some l.ownClean
      ∧ (u.linkOf n).lastTrain = some (.rate (if l.ownClean then 2 else 3) l.rate) ∧ (u.linkOf n).rate = l.rate ∧ u.tm = (s.reachUp (l.soakUp + 10000000)).tm))
    ∧ (l.mode = .rateTrial → 6 ≤ l.trialStep → l.sentPass = none ∨ told = true →
      Runs (.ratePass p) s (fun u => u.linkOf n = { l with gotPass := some true } ∧ s.keepsBut [.link] u) ∧ Runs (.rateFail p) s (fun u => u.linkOf n = { l with gotPass := some false } ∧ s.keepsBut [.link] u))
    ∧ (l.mode = .rateTrial → 6 ≤ l.trialStep → l.sentPass = some true → told = false → Runs (.ratePass p) s (fun u => (u.linkOf n).bestRate = max l.bestRate l.rate))
    ∧ (∀ b, l.mode = .rateTrial → 6 ≤ l.trialStep → l.sentPass = some b → told = false → Runs (.rateFail p) s (fun u =>
      u.linkOf n = { l.catchUp s.tm.up with gotPass := some false, rate := l.prevRate, trialStep := 2, back := true, ownClean := true, lastTrain := none, laneUp := s.tm.up + 10000, txPos := 0, trialUp := s.tm.up }
      ∧ s.keepsBut [.link] u))
    ∧ (∀ f, l.mode = .rateTrial → l.trialStep = 7 → l.current = some f → f.isResult = true → l.queues.any TxFrame.isResult = false → l.sentPass = some true → l.gotPass = some true →
      Runs (.frameTxEnd p) s (fun u => (u.linkOf n).bestRate = max l.bestRate l.rate))
    ∧ (s.inService n = true → l.policy = 1 → 50 < s.linkLoad n → l.loadUp = none → l.rate < s.rateLimit n → Runs (.loadRetrain p) s (fun u =>
      (u.linkOf n).mode = .rateTrial ∧ (u.linkOf n).loadUp = some s.tm.up ∧ (s.initiator n = true → (u.linkOf n).trial = some (l.rate + 1) ∧ (u.linkOf n).trialStep = 1)))
    ∧ (∀ t, l.loadUp = some t → s.tm.up < t + 60000000000 → exec (.loadRetrain p) s = .next s)
    ∧ (s.linkLoad n ≤ 50 → exec (.loadRetrain p) s = .next s)
    ∧ (l.mode = .rateTrial → l.back = true → Runs (.linkStateTimeout p) s (fun u => (u.linkOf n).mode = .detect ∧ u.tm = (s.reachUp (l.trialUp + 25000000)).tm))
    ∧ (l.mode = .rateTrial → l.back = false → l.trialStep ≤ 1 → Runs (.linkStateTimeout p) s (fun u => (u.linkOf n).rate = l.rate ∧ (u.linkOf n).back = true ∧ (u.linkOf n).mode = .rateTrial))
    ∧ (l.mode = .rateTrial → l.back = false → 2 ≤ l.trialStep → Runs (.linkStateTimeout p) s (fun u => (u.linkOf n).rate = l.prevRate ∧ (u.linkOf n).back = true ∧ (u.linkOf n).mode = .rateTrial))

/-- R261, R269, Table 10-6: every exit from service is counted and reported and loses the Firefly frames at once; the port goes into a fast retrain that keeps its keys. -/
def Obligations.PortsLeaveServiceForAFastRetrain : Prop :=
  ∀ s : State, s.wf = true → ∀ p : Port, s.inService (pidx p) = true →
    let n := pidx p
    let l := s.linkOf n
    let bad := fun (hs : List (BitVec 2)) => (hs.filter (fun h => !hdrOk h)).length
    let left := fun u : State => (u.linkOf n).mode = .clockLock ∧ (u.linkOf n).fast = true
      ∧ (n ≠ 2 → (u.linkOf n).keys = l.keys ∧ (u.linkOf n).rate = l.rate ∧ u.reg (Reg.link n 0x10) = (s.reg (Reg.link n 0x10)).satAdd 1 ∧ u.bit (Reg.link n 0) 14 = true
        ∧ ∀ q, q ≠ n → u.linkOf q = s.linkOf q)
    (∀ cause, n ≠ 2 → (s.linkExit n cause).reg (Reg.link n 0x10) = (s.reg (Reg.link n 0x10)).satAdd 1 ∧ (s.linkExit n cause).bit (Reg.link n 0) 14 = true
      ∧ ((s.linkExit n cause).linkOf n).current = none ∧ (∀ f ∈ ((s.linkExit n cause).linkOf n).queues ++ ((s.linkExit n cause).linkOf n).replay, f.cls ≠ .firefly)
      ∧ ((s.linkExit n cause).linkOf n).keys = l.keys ∧ (∀ q, q ≠ n → (s.linkExit n cause).linkOf q = s.linkOf q) ∧ s.keepsBut (.link :: .ffPort :: .freeCtr :: reportParts) (s.linkExit n cause))
    ∧ (∀ c ∈ [Instr.los p, .clockUnlock p, .deskewLost p], Runs c s left)
    ∧ (∀ hs, 32 ≤ bad hs → Runs (.blockUnlock ⟨p, hs⟩) s left)
    ∧ (∀ hs, bad hs < 32 → exec (.blockUnlock ⟨p, hs⟩) s = .next s)
    ∧ (∀ k, k < 16 → Runs (.hiBer p k) s (fun u => u.linkOf n = { l with hiBer := false, hiBerRun := 0 } ∧ u.reg (Reg.link n 0x28) = (s.reg (Reg.link n 0x28)).satAdd k
      ∧ (∀ q, q ≠ n → u.linkOf q = s.linkOf q) ∧ s.keepsBut [.regs, .link] u))
    ∧ (∀ k, 16 ≤ k → l.hiBerRun < 7 → Runs (.hiBer p k) s (fun u => u.linkOf n = { l with hiBer := true, hiBerRun := l.hiBerRun + 1 } ∧ u.bit (Reg.link n 0) 12 = true
      ∧ u.reg (Reg.link n 0x28) = (s.reg (Reg.link n 0x28)).satAdd k ∧ s.keepsBut (.link :: reportParts) u))
    ∧ (∀ k, 16 ≤ k → 7 ≤ l.hiBerRun → Runs (.hiBer p k) s (fun u => (u.linkOf n).mode = .clockLock ∧ (u.linkOf n).fast = true))

/-- R251, R253 to R255, R257 to R260: blocks come back through the descrambler, and a frame reads back out of its blocks wherever ALIGN pairs fall; what the receiver does with a frame it accepts or rejects, and the sender with an acknowledgement. It rests on the model's own choices or readings in assumptions 43, 56, 59, 79 and 80. -/
def Obligations.FramesAreAcknowledgedAndReplayed : Prop :=
  (∀ (reg : BitVec 58) (w : BitVec 64), descramble reg (scramble reg w).2 = ((scramble reg w).1, w))
  ∧ (∀ (h : FrameHead) (body : List Byte) (pos : Nat), 32 ≤ h.len → h.len ≤ 1024 → h.len % 8 = 0 → body.length = h.len + (if h.enc then 16 else 0) →
    readFrame (frameBlocks h body) = some (h, body) ∧ readFrame (placeBlocks pos (frameBlocks h body)) = some (h, body))
  ∧ (∀ (l : LinkSt) (f : RxFrame), (readFrame (rxClear l.inv0 l.inv1 l.skew l.swapped f) = none → l.verdict f = some .crc)
    ∧ (∀ h body, readFrame (rxClear l.inv0 l.inv1 l.skew l.swapped f) = some (h, body) →
      (2048 < (h.lseq - l.rxNext).toNat → l.verdict f = some .duplicate) ∧ (1 ≤ (h.lseq - l.rxNext).toNat → (h.lseq - l.rxNext).toNat ≤ 2048 → l.verdict f = some .ahead)
      ∧ (h.lseq = l.rxNext → h.enc = false → l.keys = none → l.verdict f = none) ∧ (h.lseq = l.rxNext → h.enc = false → l.keys.isSome = true → l.verdict f = some .tag)))
  ∧ ∀ s : State, s.wf = true → ∀ p : Port, s.inService (pidx p) = true →
    let n := pidx p
    let l := s.linkOf n
    let lanes := fun (x y : LinkSt) => { y with ctlWait := x.ctlWait, wire := x.wire, scram0 := x.scram0, scram1 := x.scram1, txPos := x.txPos, bad0 := x.bad0, bad1 := x.bad1, sent := x.sent }
    let rej := fun (x : LinkSt) (a cause : Nat) => if l.nakFor = some l.rxNext then { l.receives with authRun := a }
      else lanes x { l.receives with authRun := a, nakFor := some l.rxNext, ctl := nakBlock l.rxNext cause, ctlSent := l.ctlSent + 1 }
    let again := fun (a : BitVec 12) => (l.replay.filter (fun f => lseqFrom a f.lseq)) ++ (l.current.filter (fun f => lseqFrom a f.lseq && !l.replay.any (fun x => x.lseq == f.lseq))).toList
    Runs (.mgmt p) s (fun u => (u.linkOf n).rxNext = l.rxNext + 1 ∧ (u.linkOf n).ackSent = l.rxNext ∧ (u.linkOf n).nakFor = none ∧ (u.linkOf n).ctl = ackBlock l.rxNext
      ∧ u.twin = { s.twin with mine := u.twin.mine, resync := u.twin.resync } ∧ s.keepsBut [.regs, .ffPort, .link, .freeCtr, .trace, .twin] u)
    ∧ Runs (.reservedTypeFrame p) s (fun u =>
      u.linkOf n = lanes (u.linkOf n) { l.receives with rxNext := l.rxNext + 1, ackSent := l.rxNext, nakFor := none, authRun := 0, oldKeys := (u.linkOf n).oldKeys, ctl := ackBlock l.rxNext, ctlSent := l.ctlSent + 1 }
      ∧ u.reg (Reg.link n 0x24) = (s.reg (Reg.link n 0x24)).satAdd 1 ∧ (∀ q, q ≠ n → u.linkOf q = s.linkOf q) ∧ s.keepsBut [.regs, .link, .freeCtr] u)
    ∧ (∀ f, l.verdict f = some .crc → Runs (.frameRejected p f) s (fun u => u.linkOf n = rej (u.linkOf n) 0 1 ∧ u.reg (Reg.link n 0x18) = (s.reg (Reg.link n 0x18)).satAdd 1
      ∧ (∀ q, q ≠ n → u.linkOf q = s.linkOf q) ∧ s.keepsBut [.regs, .link, .freeCtr] u))
    ∧ (∀ f, l.verdict f = some .ahead → Runs (.frameRejected p f) s (fun u => u.linkOf n = rej (u.linkOf n) 0 2 ∧ (∀ q, q ≠ n → u.linkOf q = s.linkOf q) ∧ s.keepsBut [.link, .freeCtr] u))
    ∧ (∀ f, l.verdict f = some .tag → l.authRun < 3 → Runs (.frameRejected p f) s (fun u => u.linkOf n = rej (u.linkOf n) (l.authRun + 1) 3
      ∧ u.reg (Reg.link n 0x1C) = (s.reg (Reg.link n 0x1C)).satAdd 1 ∧ (∀ q, q ≠ n → u.linkOf q = s.linkOf q) ∧ s.keepsBut [.regs, .link, .freeCtr] u))
    ∧ (∀ f, l.verdict f = some .tag → 3 ≤ l.authRun → l.fastIn = false → Runs (.frameRejected p f) s (fun u => (u.linkOf n).mode = .clockLock ∧ (u.linkOf n).fast = true))
    ∧ (∀ f a b, l.verdict f = some .tag → 3 ≤ l.authRun → l.fastIn = true → l.authTimes = [a, b] → s.tm.up ≤ a + 10000000000 → s.tm.up ≤ b + 10000000000 →
      Runs (.frameRejected p f) s (fun u => (u.linkOf n).mode = .fault ∧ (u.linkOf n).faultCause = 5))
    ∧ (∀ f, l.verdict f = some .duplicate → Runs (.frameRejected p f) s (fun u => u.linkOf n = lanes (u.linkOf n) { l.receives with ctl := ackBlock l.ackSent, ctlSent := l.ctlSent + 1 }
      ∧ (∀ q, q ≠ n → u.linkOf q = s.linkOf q) ∧ s.keepsBut [.link, .freeCtr] u))
    ∧ (∀ a : BitVec 12, n ≠ 2 → l.newKeys = none → lseqFrom l.lastAcked a = true → lseqFrom (a + 1) l.txNext = true → exec (.ack p a) s =
      .next ((s.setLink n { l with ackUp := if a = l.lastAcked then l.ackUp else s.tm.up, lastAcked := a, replay := l.replay.filter (fun f => !lseqFrom f.lseq a), resend := l.resend.filter (fun x => !lseqFrom x a) }).startNext n))
    ∧ (∀ a : BitVec 12, lseqFrom l.lastAcked a = false ∨ lseqFrom (a + 1) l.txNext = false → exec (.ack p a) s = .next s)
    ∧ (∀ a : BitVec 12, (∀ f ∈ l.replay, lseqFrom a f.lseq = true → f.tries < 8) →
      exec (.nak p a) s = .next ((s.setLink n { l with resend := (again a).map (fun f => f.lseq), ackUp := s.tm.up }).startNext n))
    ∧ (∀ (a : BitVec 12) f, f ∈ l.replay → lseqFrom a f.lseq = true → 8 ≤ f.tries → Runs (.nak p a) s (fun u => (u.linkOf n).mode = .clockLock ∧ (u.linkOf n).fast = true))
    ∧ (∀ f fs, l.replay = f :: fs → (∀ f ∈ l.replay, f.tries < 8) → exec (.replayTimeout p) s =
      .next (((s.reachUp (l.ackUp + l.rtt + 20000)).setLink n { l with resend := (again f.lseq).map (fun x => x.lseq), ackUp := (s.reachUp (l.ackUp + l.rtt + 20000)).tm.up }).startNext n))
    ∧ (∀ f, l.current = some f → l.inject = [] → l.kept = none →
      let waits := if lseqFrom f.lseq l.lastAcked then l.replay
        else if l.replay.any (fun x => x.lseq == f.lseq) then l.replay.map (fun x => if x.lseq == f.lseq then f else x) else l.replay ++ [f]
      let u := (((s.setLink n { l with current := none, replay := waits, ackUp := (if l.replay.isEmpty then s.tm.up else l.ackUp) }).emit n (f.blocks f.cipher)).stampSent n f).startNext n
      exec (.frameTxEnd p) s = .next (if n = 2 then u.feedData else u))
    ∧ (∀ f rest, l.current = none → l.resend = [] → l.hasRoom f = true → l.queues = f :: rest → f.cls = .trigger →
      ((s.startNext n).linkOf n).txNext = l.txNext + 1 ∧ ((s.startNext n).linkOf n).queues = rest ∧ ((s.startNext n).linkOf n).keys = l.keys.map LinkKeys.used
      ∧ (((s.startNext n).linkOf n).current.map (fun x => (x.lseq, x.cipher))) = some (l.txNext, l.keys))

/-- R270, R271, R274, R394, R395: the key exchange; a partner whose signature or endorsement fails puts the port in FAULT; the initiator is in service once its KEY_CONFIRM has left. It rests on the model's own choices or readings in assumptions 9, 44 and 57. -/
def Obligations.KeyExchangeGivesKeysOrFault : Prop :=
  ∀ s : State, s.wf = true → ∀ p : Port,
    let n := pidx p
    let l := s.linkOf n
    let bare := fun (k : Option LinkKeys) => k.map (fun k => { k with counter := 0 })
    (∀ payload, l.mode = .secure → s.linkSecured n = true → s.initiator n = false → Runs (.keyInit p payload) s (fun u =>
      (u.linkOf n).ephemeral = some (randomBytes s.sv.draws 48) ∧ (u.linkOf n).mode = .secure
      ∧ (u.linkOf n).transcript = slice payload 4 132 ++ keyHalf (Config.p384Public (randomBytes s.sv.draws 48)) (randomBytes (s.sv.draws + 1) 32)
      ∧ u.sv = { s.sv with draws := s.sv.draws + 2 } ∧ u.reg 0x6800C = (s.reg 0x6800C).satAdd 1))
    ∧ (∀ payload priv, l.mode = .secure → s.linkSecured n = true → s.initiator n = true → l.ephemeral = some priv →
      s.peerGood true (l.transcript ++ slice payload 4 132) (slice payload 136 97) (slice payload 236 96) (slice payload 332 96) = true →
      Runs (.keyResp p payload) s (fun u => (u.linkOf n).mode = .secure ∧ (u.linkOf n).keys = some (linkKeys priv (slice payload 4 97) (l.transcript ++ slice payload 4 132) true (s.nextPhase n))
        ∧ (u.linkOf n).ephemeral = none ∧ u.reg 0x6800C = (s.reg 0x6800C).satAdd 1))
    ∧ (∀ f g, l.mode = .secure → l.current = some f → f.body.typ = 0x13 → l.keys.isSome = true → l.partner = some g → Runs (.frameTxEnd p) s (fun u =>
      (u.linkOf n).mode = .active ∧ bare (u.linkOf n).keys = bare l.keys))
    ∧ (∀ payload priv, l.mode = .secure → s.linkSecured n = true → s.initiator n = true → l.ephemeral = some priv →
      s.peerGood true (l.transcript ++ slice payload 4 132) (slice payload 136 97) (slice payload 236 96) (slice payload 332 96) = false →
      Runs (.keyResp p payload) s (fun u => (u.linkOf n).mode = .fault ∧ (u.linkOf n).faultCause = 4 ∧ u.bit (Reg.link n 0) 13 = true))
    ∧ (∀ payload priv f, l.mode = .secure → s.linkSecured n = true → s.initiator n = false → l.ephemeral = some priv → l.partner = some f →
      s.peerGood false l.transcript (slice payload 4 97) (slice payload 104 96) (slice payload 200 96) = true →
      Runs (.keyConfirm p payload) s (fun u => (u.linkOf n).mode = .active ∧ bare (u.linkOf n).keys = some (linkKeys priv (l.transcript.take 97) l.transcript false (s.nextPhase n))))
    ∧ (∀ payload priv, l.mode = .secure → s.linkSecured n = true → s.initiator n = false → l.ephemeral = some priv →
      s.peerGood false l.transcript (slice payload 4 97) (slice payload 104 96) (slice payload 200 96) = false →
      Runs (.keyConfirm p payload) s (fun u => (u.linkOf n).mode = .fault ∧ (u.linkOf n).faultCause = 4 ∧ u.bit (Reg.link n 0) 13 = true))
    ∧ (∀ k, s.inService n = true → l.keys = some k → s.initiator n = true → Runs (.keyRenewal p) s (fun u =>
      (u.linkOf n).ephemeral = some (randomBytes s.sv.draws 48) ∧ bare (u.linkOf n).keys = bare l.keys ∧ (u.linkOf n).mode = .active ∧ u.sv = { s.sv with draws := s.sv.draws + 2 }
      ∧ u.tm = (if 2 ^ 40 ≤ k.counter ∨ 2 ^ 40 ≤ k.received then s.tm else (s.reachUp (l.keysAt + 86400000000000)).tm)))
    ∧ (∀ (owner sig pub tr e : List Byte), s.sv.owned = true → s.sv.ownerKey = owner → Config.ecdsaVerify owner (ctxMessage 8 (Config.sha384 pub)) e = false → s.peerGood true tr pub e sig = false)
    ∧ (∀ (sig pub tr e : List Byte) (r : Bool), Config.ecdsaVerify pub (linkMessage r tr) sig = false → s.peerGood r tr pub e sig = false)

/-! ### The twin pair -/

/-- R334, R336, R337, R354, R451: how a role is taken, resolved, watched and lost. It rests on the model's own choices or readings in assumptions 3, 70, 71 and 98. -/
def Obligations.RolesAreResolvedAndTaken : Prop :=
  ∀ s : State, s.wf = true →
    (∀ (r : Role) xs, (s.setRole r xs).twin = { s.twin with role := r, aliveOut := s.twin.aliveOut && decide (r = .active), seizeOut := s.twin.seizeOut && decide (r = .active), stuck := s.twin.stuck && decide (r = .active), lost := s.twin.lost && decide (r = .active), dualUp := s.twin.dualUp.filter (fun _ => decide (r = .active)) }
      ∧ (s.setRole r xs).mantis = { s.mantis with toutHigh := s.mantis.toutHigh && !r.isStandby }
      ∧ (r = .standbyUnfit → s.twin.role ≠ .standbyUnfit → (s.setRole r xs).bit Reg.twinStatus 10 = true) ∧ s.keepsBut [.regs, .exc, .pump, .mantis, .cfg, .host, .sq, .cq, .strm, .sb, .twin] (s.setRole r xs))
    ∧ (s.twin.role = .unresolved → s.boot.stage = 10 → s.twinned = true →
      (s.twin.partner = none → Runs (.roleResolution false) s (fun u => u.twin.role = .active ∧ u.twin.reasons = 0
        ∧ u.tm = (s.reachUp (s.boot.readyAt + (if s.boot.strapB then 4000000000 else 2000000000))).tm))
      ∧ (s.twin.partner = none → Runs (.roleResolution true) s (fun u => u.twin.role = .standbyUnfit ∧ u.twin.reasons.getLsbD 6 = true))
      ∧ (∀ e h, s.twin.partner = some h → s.boot.strapB = true → Runs (.roleResolution e) s (fun u => u.twin.role = .standbyUnfit ∧ u.twin.reasons.getLsbD 6 = true))
      ∧ (∀ e h, s.twin.partner = some h → s.boot.strapB = false → Runs (.roleResolution e) s (fun u => u.twin.role = .active ∧ u.twin.reasons = 0)))
    ∧ (s.twin.role = .active → s.log.fatal = false → s.injOf 11 2 0 = none → exec .twinAliveToggle s =
      .next { s.reach (nsTq ((s.nowNs / 2500 + 1) * 2500)) with twin := { s.twin with aliveOut := !s.twin.aliveOut } })
    ∧ (s.twin.role ≠ .active ∨ s.log.fatal = true → exec .twinAliveToggle s = .next s)
    ∧ (s.pinCarries (s.cfgv Fld.twinAliveInGpio 0 0) 11 = true → s.twin.role ≠ .unresolved → exec .twinAliveEdge s = .next { s with twin := { s.twin with aliveAt := some s.tm.up } })
    ∧ (∀ t, s.pinCarries (s.cfgv Fld.twinAliveInGpio 0 0) 11 = true → s.twin.role = .unresolved → s.boot.stage = 10 → s.twinned = true → s.twin.aliveAt = some t → s.tm.up ≤ t + 10000 →
      Runs .twinAliveEdge s (fun u => u.twin.role = .standbyUnfit ∧ u.twin.reasons.getLsbD 6 = true ∧ u.twin.aliveAt = some s.tm.up))
    ∧ (∀ t, s.isStandby = true → s.partnerRole .active = true → s.twin.aliveAt = some t → exec .activeLost s = .next (s.reachUp (t + 10000)).takeover)
    ∧ (s.isStandby = false ∨ s.partnerRole .active = false → exec .activeLost s = .next s)
    ∧ (∀ since, s.twin.role = .active → s.boot.strapB = true → s.twin.dualUp = some since → Runs .dualActive s (fun u =>
      u.twin.role = .standbyUnfit ∧ u.twin.seizeOut = false ∧ u.twin.reasons.getLsbD 6 = true ∧ u.bit Reg.twinStatus 13 = true ∧ u.tm = (s.reachUp (since + 1000000)).tm))
    ∧ (s.boot.strapB = false ∨ s.twin.dualUp = none → exec .dualActive s = .next s)
    ∧ (s.injOf 11 3 0 = none → Runs .healthSend s (fun u => u.twin = { s.twin with healthUp := (s.reachUp (s.twin.healthUp + 1000000)).tm.up, mine := some s.healthOf, resync := if s.twin.role = .active ∧ (s.linkOf 2).discarded = true then 0 else s.twin.resync }
      ∧ u.tm = (s.reachUp (s.twin.healthUp + 1000000)).tm ∧ s.keepsBut [.tm, .regs, .ffPort, .link, .twin] u))

/-- R355, R357: a takeover and a swap leave the unit in the role they name; the new active of a takeover seizes its partner's outputs. It rests on the model's own choices or readings in assumptions 38, 98 and 103. -/
def Obligations.TakeoverAndSwapChangeTheRole : Prop :=
  ∀ s : State, s.wf = true →
    (s.takeover.twin.role = .active ∧ s.takeover.twin.seizeOut = true)
    ∧ (s.twin.role = .active → s.inService 2 = true → s.swapDue = true → Runs .swapExecute s (fun u =>
      u.twin.role = .standby ∧ u.twin.seizeOut = false ∧ u.twin.reasons = 0 ∧ u.twin.swapId = none ∧ u.twin.swapAsked = false))
    ∧ (s.twin.role = .standby → s.inService 2 = true → s.swapDue = true → Runs .swapExecute s (fun u => u.twin.role = .active ∧ u.twin.swapId = none ∧ u.twin.swapAsked = false))
    ∧ (∀ f, s.twin.swapAsked = true → s.twin.swapFrame = some f → s.twin.role = .active ∨ s.twin.role = .standby → (s.grpOf s.swapGroup).frame = none → (s.grpOf s.swapGroup).mode ≠ .stopped →
      (s.swapDue = true ↔ (s.grpOf s.swapGroup).strobed = true ∧ f ≤ (s.grpOf s.swapGroup).doneK))
    ∧ (s.swapDue = false ∨ s.inService 2 = false → exec .swapExecute s = .next s)

/-- R344, R345, R346: digests are compared core by core, counted when they are missing, and HEALTH brings the partner's state. It rests on the model's own choices or readings in assumption 12. -/
def Obligations.DigestsAndHealthAreCompared : Prop :=
  (∀ (tol : Nat) (a b : W32), (a.getLsbD 28 = false ∨ b.getLsbD 28 = false ∨ a.getLsbD 31 = true ∨ b.getLsbD 31 = true ∨ a.getLsbD 29 = true ∨ b.getLsbD 29 = true) →
    digestCore tol a b = none)
  ∧ (∀ (tol : Nat) (a b : W32) (bad : Bool), digestCore tol a b = some bad → (bad = true ↔ (tol < (digestSum a - digestSum b).natAbs ∨ a.getLsbD 30 ≠ b.getLsbD 30)))
  ∧ (∀ s : State, s.wf = true →
    (∀ (n r p : Nat) (bad : Bool), n < 64 → 0 < s.cfgv Fld.twinDigestPersist 0 0 → Cells.get (fun _ => (0, 0)) s.twin.runs n = (r, p) →
      ((s.digestRun n true).reg 0x58010 = (s.reg 0x58010).satAdd 1 ∧ (s.digestRun n false).reg 0x58010 = s.reg 0x58010)
      ∧ (s.cfgv Fld.twinDigestPersist 0 0 ≤ r + 1 → (s.digestRun n true).twin.failCores.getLsbD n = true)
      ∧ (s.cfgv Fld.twinDigestPersist 0 0 ≤ p + 1 → (s.digestRun n false).twin.failCores.getLsbD n = false)
      ∧ (∀ m, m ≠ n → (s.digestRun n bad).twin.failCores.getLsbD m = s.twin.failCores.getLsbD m) ∧ s.keepsBut [.regs, .twin] (s.digestRun n bad))
    ∧ (∀ f a, s.inService 2 = true → s.twin.role = .active → s.twin.own.find? (fun a => (s.rxAccept 2).digestMatch f a.1) = some a → exec (.digest f) s =
      .next (({ s.rxAccept 2 with twin := { s.twin with own := s.twin.own.filter (fun x => x != a) } } : State).digestPair a.1 f))
    ∧ (∀ f, s.inService 2 = true → s.twin.role = .active → s.twin.own.find? (fun a => (s.rxAccept 2).digestMatch f a.1) = none →
      exec (.digest f) s = .next ({ s.rxAccept 2 with twin := { s.twin with theirs := s.twin.theirs ++ [f] } } : State).digestSweep)
    ∧ s.digestSweep.twin.theirs = s.twin.theirs.filter s.digestWaits
    ∧ (∀ b : DigestFrame, Look.scheduled s.cfgv (gidx b.group) = true → (s.digestWaits b = true ↔ (s.grpOf (gidx b.group)).strobed = false ∨ (s.grpOf (gidx b.group)).doneK < b.frame))
    ∧ (∀ f, s.inService 2 = true → s.twin.role ≠ .active → exec (.digest f) s = .next (s.rxAccept 2))
    ∧ (∀ (g : Group) (k : Nat) (a : DigestFrame × Nat), s.twin.role = .active → s.twin.own.find? (fun x => decide (x.1.group = g ∧ x.1.frame = k)) = some a → s.twin.missingRun < 63 → Look.scheduled s.cfgv (gidx g) = true →
      Runs (.digestMissing g k) s (fun u => u.reg 0x58014 = (s.reg 0x58014).satAdd 1 ∧ u.twin.missingRun = s.twin.missingRun + 1
        ∧ u.twin.own = s.twin.own.filter (fun x => !decide (x.1.group = g ∧ x.1.frame = k)) ∧ u.tm = (s.reachUp (a.2 + 1000000)).tm ∧ s.keepsBut [.tm, .regs, .twin] u))
    ∧ (∀ f : HealthFrame, s.inService 2 = true → s.twinned = false ∨ s.twin.role = .solo ∨ s.twin.role = .seized → Runs (.health f) s (fun u => u.twin = { s.twin with partner := some f, dualUp := s.dualSince f }
      ∧ u.mantis = { s.mantis with partnerSeq := some f.trigSeq } ∧ u.reg 0x58030 = f.firmware ∧ s.keepsBut [.regs, .link, .twin, .mantis, .freeCtr] u))
    ∧ (∀ f : HealthFrame, s.inService 2 = true → s.twinned = true → s.twin.role = .unresolved → s.boot.stage = 10 → f.role = 2 → f.relinquish = false → f.excStuckSelf = false →
      Runs (.health f) s (fun u => u.twin.role = .standbyUnfit)))

/-- R136, R350 to R353, R356, R357, R360: stream cuts, gated completions, mains frames and TWIN_CMD. It rests on the model's own choices or readings in assumptions 38, 93, 94, 101 and 103. -/
def Obligations.TwinCommandsAreServed : Prop :=
  ∀ s : State, s.wf = true →
    (∀ es, s.inService 2 = true → s.isStandby = false → s.twin.role ≠ .active → exec (.streamSync es) s = .next (s.rxAccept 2))
    ∧ (∀ es, s.inService 2 = true → s.twin.role = .active → (∀ e ∈ es, (s.strmOf e.index.val).awaitCut = none) → exec (.streamSync es) s = .next (s.rxAccept 2).followCuts)
    ∧ (∀ es, s.inService 2 = true → s.isStandby = true → s.following = true → exec (.streamSync es) s =
      .next (({ s.rxAccept 2 with twin := { s.twin with syncQueue := s.twin.syncQueue ++ es } } : State).followCuts))
    ∧ (∀ a rest, s.twin.awaiting = a :: rest → exec .ackWaitTimeout s =
      .next (({ s.reachUp (a.up + s.cfgv Fld.twinAckWaitUs 0 0 * 1000) with twin := { s.twin with awaiting := rest } } : State).postAll))
    ∧ (∀ f : MainsFrame, s.inService 2 = true → s.isStandby = true → Runs (.mainsFrame f) s (fun u =>
      u.mains = { s.mains with ta := f.ta, pendA := true, pendB := true, boundA := s.quiet 0, boundB := s.quiet 1, applyF := some (f.fA, f.fB) }))
    ∧ (∀ f : MainsFrame, s.inService 2 = true → s.isStandby = false → exec (.mainsFrame f) s = .next (s.rxAccept 2))
    ∧ (∀ id d, s.serves id 0x71 d → s.twinned = false →
      (field (d.p 0) 15 0 = 1 → exec (.twinCmdStatus id) s = .next (s.retireBad d 0x0602)) ∧ (field (d.p 0) 15 0 = 2 → exec (.twinCmdSwap id) s = .next (s.retireBad d 0x0602))
      ∧ (field (d.p 0) 15 0 = 3 → exec (.twinCmdTakeover id) s = .next (s.retireBad d 0x0602)) ∧ (field (d.p 0) 15 0 = 4 → exec (.twinCmdReleaseSeize id) s = .next (s.retireBad d 0x0602))
      ∧ (field (d.p 0) 15 0 = 5 → exec (.twinCmdResume id) s = .next (s.retireBad d 0x0602)) ∧ (field (d.p 0) 15 0 = 6 → exec (.twinCmdResync id) s = .next (s.retireBad d 0x0602)))
    ∧ (∀ id d, s.serves id 0x71 d → s.twinned = true →
      (field (d.p 0) 15 0 = 1 → exec (.twinCmdStatus id) s = .next ((s.descWrite d ((healthBytes s.twin.mine ++ healthBytes s.twin.partner).take (s.descRoom d))).retireOk d
        [BitVec.ofNat 32 (healthBytes s.twin.mine ++ healthBytes s.twin.partner).length]))
      ∧ (field (d.p 0) 15 0 = 2 → s.inService 2 = false → exec (.twinCmdSwap id) s = .next (s.retireBad d 0x0613))
      ∧ (field (d.p 0) 15 0 = 2 → s.inService 2 = true → ¬ (s.twin.role = .standby ∨ (s.twin.role = .active ∧ s.partnerRole .standby = true)) → exec (.twinCmdSwap id) s = .next (s.retireBad d 0x0611))
      ∧ (field (d.p 0) 15 0 = 2 → s.inService 2 = true → s.twin.role = .standby ∨ (s.twin.role = .active ∧ s.partnerRole .standby = true) → Runs (.twinCmdSwap id) s (fun u =>
        u.twin.swapId = some id ∧ u.twin.role = s.twin.role ∧ u.twin.swapAsked = true ∧ u.host = (s.take id).host))
      ∧ (field (d.p 0) 15 0 = 3 → s.twin.role = .standby → exec (.twinCmdTakeover id) s = .next (s.takeover.retireOk d []))
      ∧ (field (d.p 0) 15 0 = 3 → s.twin.role ≠ .standby → exec (.twinCmdTakeover id) s = .next (s.retireBad d 0x0603))
      ∧ (field (d.p 0) 15 0 = 4 → s.twin.role = .active → exec (.twinCmdReleaseSeize id) s = .next (({ s with twin := { s.twin with seizeOut := false } } : State).retireOk d []))
      ∧ (field (d.p 0) 15 0 = 4 → s.twin.role ≠ .active → exec (.twinCmdReleaseSeize id) s = .next (s.retireBad d 0x0601))
      ∧ (field (d.p 0) 15 0 = 5 → s.twin.role ≠ .active ∨ s.twin.resumeWait = false → exec (.twinCmdResume id) s = .next (s.retireBad d 0x0601))
      ∧ (field (d.p 0) 15 0 = 5 → s.twin.role = .active → s.twin.resumeWait = true → s.descReadOk d 1024 = true →
        exec (.twinCmdResume id) s = .next ((s.resumeAll (wordsOf (s.descRead d 1024))).retireOk d []))
      ∧ (field (d.p 0) 15 0 = 6 → s.isStandby = true → exec (.twinCmdResync id) s =
        .next ((if s.twin.reasons.getLsbD Reason.resync then s else ({ s with twin := { s.twin with resync := 0 } } : State).addReason [Reason.resync]).retireOk d []))
      ∧ (field (d.p 0) 15 0 = 6 → s.isStandby = false → exec (.twinCmdResync id) s = .next (s.retireBad d 0x0603)))

/-- R356: a stream that resumes behind what the host has sends no frame the host holds again, and numbers its packets from the next SEQ on. -/
def Obligations.ResumeSendsNoFrameTwice : Prop :=
  ∀ (s : State) (x : Fin 64) (seq : W32) (t : Nat), s.wf = true →
    (∀ p ∈ ((s.resumeStream x seq t).strmOf x).queue, p.gap = none → ∀ f ∈ p.frames, t < f.t)
    ∧ (∀ p, ((s.resumeStream x seq t).strmOf x).queue.head? = some p → p.seq = seq + 1)
    ∧ (∀ o, ((s.resumeStream x seq t).strmOf x).openPkt = some o → ∀ f ∈ o.frames, t < f.t)
    ∧ ((s.resumeStream x seq t).strmOf x).seqNext = seq + 1 + BitVec.ofNat 32 ((s.resumeStream x seq t).strmOf x).queue.length
    ∧ (∀ y, y ≠ x.val → (s.resumeStream x seq t).strmOf y = s.strmOf y)

/-! ### Configuration -/

/-- R308 to R314: a transaction opens over the live bank, takes the commands that name it as starts of its 60 s, takes records in order or none of them, and closes without touching the live bank; a record names a field of the catalogue, an index it has and a value in range, and the first that does not refuses them all with its byte offset. -/
def Obligations.TransactionsOpenWriteAndClose : Prop :=
  (∀ (s : State) (id : Nat) (d : Desc),
    (s.serves id 0x10 d → s.isStandby = false → s.twin.role ≠ .seized →
      (∀ t, s.cfg.txn = some t → exec (.cfgBegin id) s = .next (s.retireBad d 0x0140))
      ∧ (s.cfg.txn = none → exec (.cfgBegin id) s = .next (({ s with cfg := { s.cfg with
          txn := some ⟨s.cfg.nextId, s.newShadow, [], none, false, false, s.cfg.bad, false, s.tm.up⟩, nextId := if s.cfg.nextId + 1 = 0 then 1 else s.cfg.nextId + 1 } } : State).retireOk d [s.cfg.nextId])))
    ∧ (s.serves id 0x11 d → s.isStandby = false → s.twin.role ≠ .seized →
      (s.cfg.txn = none → exec (.cfgWrite id) s = .next (s.retireBad d 0x0150))
      ∧ (∀ t, s.cfg.txn = some t → t.id ≠ d.p 0 → exec (.cfgWrite id) s = .next (s.retireBad d 0x0150))
      ∧ (∀ t st off, s.cfg.txn = some t → t.id = d.p 0 → d.len % 4 = 0 → s.descReadOk d d.len = true →
        readRecords (s.otp.vaultFuse && !s.sealOpen && !t.authorised) (wordsOf (s.descRead d d.len)).length 0 (wordsOf (s.descRead d d.len)) = .inr (st, off) →
        exec (.cfgWrite id) s = .next ((s.touchTxn d).retire d st 0 [0, BitVec.ofNat 32 off]))
      ∧ (∀ t rs, s.cfg.txn = some t → t.id = d.p 0 → d.len % 4 = 0 → s.descReadOk d d.len = true →
        readRecords (s.otp.vaultFuse && !s.sealOpen && !t.authorised) (wordsOf (s.descRead d d.len)).length 0 (wordsOf (s.descRead d d.len)) = .inl rs →
        exec (.cfgWrite id) s = .next (({ s with cfg := { s.cfg with txn := some (rs.foldl (fun t r => t.put s.otp.vaultFuse r.1 r.2) { t with touchedUp := s.tm.up }) } } : State).retireOk d [BitVec.ofNat 32 rs.length])))
    ∧ (s.serves id 0x13 d → s.isStandby = false → s.twin.role ≠ .seized →
      (∀ t, s.cfg.txn = some t → t.id = d.p 0 → exec (.cfgRollback id) s = .next (({ s with cfg := { s.cfg with txn := none } } : State).retireOk d []))
      ∧ (∀ t, s.cfg.txn = some t → t.id ≠ d.p 0 → exec (.cfgRollback id) s = .next (s.retireBad d 0x0150))
      ∧ (s.cfg.txn = none → exec (.cfgRollback id) s = .next (s.retireBad d 0x0150)))
    ∧ (s.serves id 0x12 d → s.isStandby = false → s.twin.role ≠ .seized → s.anyHeld = false → ∀ ok, (∀ t, s.cfg.txn = some t → t.id ≠ d.p 0) →
      exec (.cfgCommit id ok) s = .next (s.refuseCommit d 0x0150 []) ∧ (s.refuseCommit d 0x0150 []).cfg = s.cfg)
    ∧ (∀ d status, (s.retireBad d status).cfg = s.cfg)
    ∧ (∀ t, s.cfg.txn = some t → s.txnNamed t = false → Runs .cfgTxnTimeout s (fun u => u.cfg = { s.cfg with txn := none } ∧ u.tm = (s.reachUp (t.touchedUp + 60000000000)).tm ∧ s.keepsBut (.tm :: .cfg :: .freeCtr :: reportParts) u
      ∧ (s.wf = true → u.reg 0x7C020 = (s.reg 0x7C020).satAdd 1)))
    ∧ (∀ t, s.cfg.txn = some t → s.txnNamed t = true → exec .cfgTxnTimeout s = .next s)
    ∧ (s.cfg.bad = false → s.newShadow = s.cfg.live)
    ∧ (∀ t, s.cfg.txn = some t → 0x11 ≤ d.op → d.op ≤ 0x13 → t.id = d.p 0 → s.touchTxn d = { s with cfg := { s.cfg with txn := some { t with touchedUp := s.tm.up } } })
    ∧ (s.serves id 0x10 d → s.isStandby = true → exec (.cfgBegin id) s = .next (s.retireBad d 0x0601)))
  ∧ (∀ (ws rest : List W32) (k v : Nat), readRecord ws = some (k, v, rest) →
    ∃ r a b, fieldRow (field a 31 16) = some r ∧ ws = a :: b :: (ws.drop 2) ∧ field a 15 0 = r.words ∧ rest = ws.drop (2 + r.words)
      ∧ k = keyOf r.code (field b 15 0) (field b 31 16) ∧ indexOk r (field b 15 0) (field b 31 16) = true ∧ inRange r v = true)
  ∧ (∀ (locked : Bool) (ws : List W32) (off st at_ : Nat), readRecords locked ws.length off ws = .inr (st, at_) → (st = 0x0120 ∨ st = 0x0130) ∧ off ≤ at_ ∧ at_ < off + 4 * ws.length)
  ∧ (∀ (ws : List W32) (off : Nat) (rs : List (Nat × Nat)), readRecords true ws.length off ws = .inl rs → ∀ r ∈ rs, vaultOwned (keyCode r.1) (keyIndex r.1) = false)

/-- R315 to R319, R327: a commit is refused and counted, or closes its transaction and is armed; the flip changes the live bank only where its boundary has come. It rests on the model's own choices or readings in assumptions 34, 35, 47 and 67. -/
def Obligations.CommitsAreValidatedAndArmed : Prop :=
  ∀ s : State,
    (∀ id ok d, s.serves id 0x12 d → s.isStandby = false → s.twin.role ≠ .seized → s.anyHeld = false →
      (s.cfg.txn = none → exec (.cfgCommit id ok) s = .next (s.refuseCommit d 0x0150 []) ∧ exec (.heldCommitValidate id ok) s = .next (s.refuseCommit d 0x0150 []))
      ∧ (∀ t, s.cfg.txn = some t → t.id = d.p 0 → (s.validate (t.bank s.otp.vaultFuse) t.authorised ((d.p 1).getLsbD 0) (d.p 2).toNat).1 ≠ 0 →
        exec (.cfgCommit id ok) s = .next ((s.touchTxn d).refuseCommit d (s.validate (t.bank s.otp.vaultFuse) t.authorised ((d.p 1).getLsbD 0) (d.p 2).toNat).1
          (s.validate (t.bank s.otp.vaultFuse) t.authorised ((d.p 1).getLsbD 0) (d.p 2).toNat).2)
        ∧ exec (.heldCommitValidate id ok) s = exec (.cfgCommit id ok) s)
      ∧ (∀ t, s.cfg.txn = some t → t.id = d.p 0 → (s.validate (t.bank s.otp.vaultFuse) t.authorised ((d.p 1).getLsbD 0) (d.p 2).toNat).1 = 0 →
        exec (.cfgCommit id false) s = .next ((s.touchTxn d).refuseCommit d 0x0160 [])
        ∧ exec (.heldCommitValidate id false) s = .next ((s.touchTxn d).refuseCommit d 0x0160 [])
        ∧ (let bank := t.bank s.otp.vaultFuse
          let owned := s.otp.vaultFuse && decide (s.vault.mode ≠ .fault) && (changedKeys s.otp.vaultFuse s.cfg.live bank).any (fun k => vaultOwned (keyCode k) (keyIndex k))
          let P := fun (u : State) => u.cfg.live = s.cfg.live ∧ u.cfg.txn = none ∧ u.host = (s.take id).host
            ∧ (owned = true → (∃ f, u.cfg.flip = some f ∧ f.armed = false ∧ f.sealing = true ∧ f.id = some id ∧ f.staged = bank) ∧ u.vault.sealed = s.vault.sealed
              ∧ u.vault.toStore = s.vault.toStore ++ [Look.ownedRecords (Bank.get s.otp.vaultFuse bank)]
              ∧ s.keepsBut [.cfg, .host, .vault] u)
            ∧ (owned = false → s.partnerFollows = true → u.cfg.flip = none ∧ (∃ f, u.cfg.waitReady = some f ∧ f.armed = false ∧ f.id = some id ∧ f.staged = bank ∧ f.sentUp = s.tm.up)
              ∧ u.twin = { s.twin with mine := u.twin.mine, resync := 0 } ∧ s.keepsBut [.cfg, .host, .link, .regs, .ffPort, .twin] u)
            ∧ (owned = false → s.partnerFollows = false →
              (∃ f, u.cfg.flip = some f ∧ f.armed = true ∧ f.id = some id ∧ f.staged = bank ∧ f.lead = s.leadGroup ∧ f.atFrame = none ∧ f.waitA = true ∧ f.waitB = true ∧ f.shared = true)
              ∧ s.keepsBut [.cfg, .host] u)
          Runs (.cfgCommit id true) s P ∧ Runs (.heldCommitValidate id true) s P)))
    ∧ (∀ id ok, s.anyHeld = true → s.isStandby = false → s.twin.role ≠ .seized → exec (.cfgCommit id ok) s = .next s ∧ exec (.heldCommitValidate id ok) s = .next s)
    ∧ (∀ d status res, (s.refuseCommit d status res).cfg = s.cfg ∧ (s.refuseCommit d status res).grp = s.grp)
    ∧ (∀ f c, s.cfg.flip = some f → f.armed = false ∨ f.atFrame.isSome = true → exec (.cfgFlip c) s = .next s)
    ∧ (∀ f, s.cfg.flip = some f → f.armed = true → f.atFrame = none → (s.leadReached f || s.flipsNow f 0 || s.flipsNow f 1) = true →
      exec (.cfgFlip true) s = .next (s.oneCycle (fun t => t.flipHere f)) ∧ exec (.cfgFlip false) s = .next (s.enterBad 3)
      ∧ (s.memError 4 ≠ 2 →
        let a := f.waitA && !s.flipsNow f 0
        let b := f.waitB && !s.flipsNow f 1
        let c := f.shared && !s.leadReached f
        let staged := if s.vault.mode = .fault then withOwned s.otp.vaultFuse f.staged [] else f.staged
        let new : Look := Bank.get s.otp.vaultFuse staged
        let moved := (changedKeys s.otp.vaultFuse s.cfg.live staged).filter (({ f with waitA := a, waitB := b, shared := c } : FlipSt).moves s.cfgv new)
        Runs (.cfgFlip true) s (fun u =>
          u.cfg.live = moved.foldl (fun l k => Bank.set s.otp.vaultFuse l k (new (keyCode k) (keyIndex k) (keySub k))) s.cfg.live ∧ (f.inBad = true → u.cfg.bad = false)
          ∧ ((a || b || c) = true → u.cfg.committed = s.cfg.committed ∧ u.cfg.profile = s.cfg.profile ∧ ∃ n, u.cfg.flip = some n ∧ n.waitA = a ∧ n.waitB = b ∧ n.shared = c ∧ n.staged = staged ∧ n.id = f.id)
          ∧ ((a || b || c) = false → u.cfg.flip = none ∧ u.cfg.committed = true ∧ u.cfg.profile = f.profile.getD s.cfg.profile))))
    ∧ (s.cfg.flip = none → ∀ c, exec (.cfgFlip c) s = .next s)
    ∧ (∀ f c, s.cfg.flip = some f → f.armed = true → s.leadReached f = false → s.flipsNow f 0 = false → s.flipsNow f 1 = false → exec (.cfgFlip c) s = .next s)
    ∧ (∀ f, (s.flipDone f).cfg.flip = none ∧ (s.flipDone f).cfg.live = s.cfg.live ∧ (s.flipDone f).cfg.profile = f.profile.getD s.cfg.profile ∧ (s.flipDone f).cfg.committed = true ∧ (s.wf = true → (s.flipDone f).reg 0x10C = (s.reg 0x10C).satAdd 1 ∧ (s.flipDone f).reg 0x114 = 0))

/-- R321, R322, R325, R329, R437: a held group restarts and goes on counting, a damaged bank makes the configuration BAD, and a stored copy replaces the older of the two. It rests on the model's own choices or readings in assumptions 23 and 36. -/
def Obligations.HeldBadAndStoredConfigurations : Prop :=
  (∀ s : State, s.wf = true →
    (∀ g : Group, (s.grpOf (gidx g)).mode = .held → Runs (.heldRestart g) s (fun u =>
      (u.grpOf (gidx g)).mode = (if Look.scheduled s.cfgv (gidx g) then .waitingStart else .running) ∧ (u.grpOf (gidx g)).strobed = false ∧ (u.grpOf (gidx g)).applied = u.now ∧ (u.grpOf (gidx g)).evNext = (s.grpOf (gidx g)).evNext
      ∧ u.grpOf (gidx (Group.peer g)) = s.grpOf (gidx (Group.peer g)) ∧ u.tm = (s.reachUp ((s.grpOf (gidx g)).heldUp + 500000)).tm ∧ s.keepsBut [.tm, .grp, .flt, .cond, .trig, .strm] u))
    ∧ Runs .liveBankEcc s (fun u => u.cfg.bad = true ∧ u.cfg.badCause = 4 ∧ u.cfg.live = s.cfg.live)
    ∧ (∀ c, s.cfg.storePending = some c → s.engineUp = true →
      exec (.cfgStoreDone true) s = .next { ({ s with cfg := { s.cfg with storePending := none } } : State).refuserNote with flash := s.flash.storeBoth c }
      ∧ Runs (.cfgStoreDone false) s (fun u => u.cfg = { s.cfg with storePending := none } ∧ u.flash = s.flash ∧ s.keepsBut (.cfg :: .pwr :: .freeCtr :: reportParts) u)))
  ∧ (∀ (a b c : StoredCfg), a.seq.toNat < b.seq.toNat → b.seq.toNat < 4294967295 → ∃ n, storeCopies [a, b] [a, b] c = [b, n] ∧ n.seq = b.seq + 1 ∧ n.records = c.records ∧ n.profile = c.profile)
  ∧ (∀ (all cs : List StoredCfg) (c : StoredCfg), cs.length ≤ 2 → (storeCopies all cs c).length ≤ 2)
  ∧ (∀ (f : FlashSt) (c : StoredCfg), f.presentA = true → f.presentB = true → (∀ x ∈ f.copies, x.seq.toNat < 4294967295) →
    ∃ n, n ∈ (f.storeBoth c).stored ∧ n ∈ (f.storeBoth c).storedB ∧ n.records = c.records ∧ n.profile = c.profile ∧ ∀ x ∈ f.copies, x.seq.toNat < n.seq.toNat)

/-- R349: the active arms with its standby at a chosen frame, alone when the standby does not answer; the standby arms at the frame it is told. It rests on the model's own choices or readings in assumptions 36, 38, 97 and 101. -/
def Obligations.CommitsReachTheStandby : Prop :=
  ∀ s : State, s.wf = true →
    (∀ ws, s.inService 2 = true → s.isStandby = true → Runs (.cfgData ws false) s (fun u => u.cfg = { s.cfg with twinData := s.cfg.twinData ++ ws } ∧ s.keepsBut [.link, .cfg, .freeCtr] u))
    ∧ (∀ ws l, s.inService 2 = true → s.isStandby = false → exec (.cfgData ws l) s = .next (s.rxAccept 2))
    ∧ (∀ crc f, s.inService 2 = true → s.twin.role = .active → s.cfg.waitReady = some f → s.cfg.armAt = none → crc = bankCrc s.otp.vaultFuse f.staged →
      let armed := fun (k : Option Nat) (u : State) => u.cfg.waitReady = none ∧ (∃ a, u.cfg.flip = some a ∧ a.armed = true ∧ a.staged = f.staged ∧ a.id = f.id ∧ a.atFrame = k ∧ a.lead = s.leadGroup)
        ∧ u.cfg.live = s.cfg.live ∧ s.keepsBut [.regs, .ffPort, .link, .cfg, .twin, .freeCtr] u
      (∀ g, s.leadGroup = some g → Look.scheduled s.cfgv g = true → Runs (.cfgCtrlReady crc) s (armed (some (max (s.grpOf g).nextK (Look.firstK s.cfgv g (s.now + nsTq 1000000))))))
      ∧ (∀ g, s.leadGroup = some g → Look.scheduled s.cfgv g = false → Runs (.cfgCtrlReady crc) s (fun u =>
        u.cfg = { s.cfg with armAt := some (true, s.now + nsTq 1000000) } ∧ s.keepsBut [.link, .cfg, .freeCtr] u))
      ∧ (s.leadGroup = none → Runs (.cfgCtrlReady crc) s (armed none)))
    ∧ (∀ crc f, s.inService 2 = true → s.twin.role = .active → s.cfg.waitReady = some f → crc ≠ bankCrc s.otp.vaultFuse f.staged → exec (.cfgCtrlReady crc) s = .next (s.rxAccept 2))
    ∧ (∀ k f g, s.inService 2 = true → s.isStandby = true → s.cfg.waitReady = some f → s.leadGroup = some g → k ≠ 0xFFFFFFFFFFFFFFFF →
      Runs (.cfgCtrlArm k) s (fun u => u.cfg.waitReady = none ∧ (∃ a, u.cfg.flip = some a ∧ a.armed = true ∧ a.staged = f.staged
        ∧ (((s.grpOf g).strobed = false ∨ (s.grpOf g).doneK < k) → a.atFrame = some k ∧ a.late = f.late)
        ∧ ((s.grpOf g).strobed = true → k ≤ (s.grpOf g).doneK → a.atFrame = none ∧ a.late = true)) ∧ s.keepsBut [.link, .cfg, .freeCtr] u))
    ∧ (∀ f n, s.cfg.armAt = none → s.cfg.waitReady = some f → f.id = some n → Runs .cfgReadyTimeout s (fun u =>
      u.cfg.waitReady = none ∧ (∃ a, u.cfg.flip = some a ∧ a.armed = true ∧ a.staged = f.staged ∧ a.id = f.id ∧ a.atFrame = none) ∧ u.cfg.live = s.cfg.live
      ∧ u.tm = (s.reachUp (f.sentUp + 50000000)).tm ∧ s.keepsBut [.tm, .cfg] u))

/-! ### Host interface -/

/-- R298, R299: a completion goes to the next slot of its ring with its phase, a write to host memory changes its own bytes alone, and a retired descriptor is in flight no longer. It rests on the model's own choices or readings in assumption 5. -/
def Obligations.CompletionsArePostedOnce : Prop :=
  (∀ (s : State) (a : Nat) (bs : List Byte), s.wf = true → bs.length ≤ 18446744073709551616 →
    (∀ i, i < bs.length → Memory.read (s.hostWrite a bs).host.mem ((a + i) % 18446744073709551616) = bs.getD i 0)
    ∧ (∀ x, (∀ i, i < bs.length → x ≠ (a + i) % 18446744073709551616) → Memory.read (s.hostWrite a bs).host.mem x = Memory.read s.host.mem x)
    ∧ s.keepsBut [.host] (s.hostWrite a bs))
  ∧ (∀ (s : State) (q : Nat) (c : Completion), s.wf = true → q < 64 → c.counts = false →
    let size := ringSize (s.reg (Reg.cq q 8))
    let n := (s.cqOf q).posted
    let slot := s.reg64 (Reg.cq q 0) / 4096 * 4096 + 32 * (n % size)
    let bs := wordBytes (c.words c.ring (decide (n / size % 2 = 0)))
    (∀ i, i < 32 → Memory.read (s.postOne q c).host.mem ((slot + i) % 18446744073709551616) = bs.getD i 0)
    ∧ (∀ x, (∀ i, i < 32 → x ≠ (slot + i) % 18446744073709551616) → Memory.read (s.postOne q c).host.mem x = Memory.read s.host.mem x)
    ∧ ((s.postOne q c).cqOf q).posted = (n + 1) % 65536 ∧ (∀ r, r ≠ q → (s.postOne q c).cqOf r = s.cqOf r))
  ∧ (∀ (c : Completion) (sq : Nat) (phase : Bool), (wordBytes (c.words sq phase)).length = 32 ∧ ((wordAt (c.words sq phase) 1).getLsbD 0 = phase) ∧ field (wordAt (c.words sq phase) 0) 15 0 = c.status.toNat
    ∧ field (wordAt (c.words sq phase) 0) 31 16 = c.tag.toNat)
  ∧ (∀ (s : State) (d : Desc) (status resS : Nat) (res : List W32), (s.retire d status resS res).descOf d.id = none ∧ s.keepsBut [.regs, .strm, .host, .sq, .cq, .sb] (s.retire d status resS res))

/-- R284 to R292, R295, R300 to R304: doorbells, fetches, rings, moderation and holding. It rests on the model's own choices or readings in assumptions 4, 25, 62, 63, 86 and 110. -/
def Obligations.RingsAreFetchedAndServed : Prop :=
  ∀ s : State, s.wf = true →
    (∀ ws : List NudgeWrite, ws.filter isNudge = [] → exec (.nudge ws) s = .next s.coreNeed)
    ∧ (∀ (ws : List NudgeWrite) n, n = (ws.filter isNudge).length → s.host.fetching = false → n ≠ 0 → Runs (.nudge ws) s (fun u => u.host = { s.host with fetching := true } ∧ u.reg 0x4014 = (s.reg 0x4014).satAdd 1
      ∧ u.reg 0x4018 = (if 2 ≤ n then (s.reg 0x4018).satAdd 1 else s.reg 0x4018) ∧ u.tm = s.coreNeed.tm ∧ u.pwr = s.coreNeed.pwr ∧ s.keepsBut [.tm, .regs, .host, .pwr, .freeCtr] u))
    ∧ (∀ (ws : List NudgeWrite) n, n = (ws.filter isNudge).length → s.host.fetching = true → n ≠ 0 → Runs (.nudge ws) s (fun u => u.host = { s.host with again := true } ∧ u.reg 0x4014 = s.reg 0x4014
      ∧ u.reg 0x4018 = (if 2 ≤ n then (s.reg 0x4018).satAdd 1 else s.reg 0x4018) ∧ u.tm = s.coreNeed.tm ∧ u.pwr = s.coreNeed.pwr ∧ s.keepsBut [.tm, .regs, .host, .pwr, .freeCtr] u))
    ∧ (s.reg 0x4008 ≠ 0 → Runs .dbPoll s (fun u => u.host = { s.host with fetching := true, pollUp := u.tm.up }
      ∧ u.tm = (s.reachUp (s.host.pollUp + (s.reg 0x4008).toNat * 1000)).tm
      ∧ u.pwr.pllFrom = none ∧ s.keepsBut [.tm, .host, .pwr] u))
    ∧ (s.reg 0x4008 = 0 → exec .dbPoll s = .next s)
    ∧ (∀ ok, s.host.fetching = false ∨ s.canDma = false → exec (.doorbellFetch ok) s = .next s)
    ∧ (s.host.fetching = true → s.canDma = true → Runs (.doorbellFetch false) s (fun u =>
      u.host = { s.host with fetching := s.host.again, again := false, aer := s.host.aer ||| (Config.freeWord s.freeCtr &&& 0x5000) }
      ∧ u.reg 0x4014 = (if s.host.again then (s.reg 0x4014).satAdd 1 else s.reg 0x4014) ∧ s.keepsBut [.regs, .host, .freeCtr] u))
    ∧ (s.host.fetching = true → s.canDma = true → s.host.again = false → s.readOk (s.reg64 0x4000 / 4096 * 4096) 512 = true → Runs (.doorbellFetch true) s (fun u =>
      u.host.fetching = false ∧ (∀ r, r < 64 → (s.sqOf r).enabled = true →
        u.sqOf r = (if s.tailInvalid (s.hostRead (s.reg64 0x4000 / 4096 * 4096) 512) r then { s.sqOf r with stopped := true }
          else { s.sqOf r with tail := pageCounter (s.hostRead (s.reg64 0x4000 / 4096 * 4096) 512) (4 * r) }))
      ∧ (∀ r, (s.sqOf r).enabled = false → u.sqOf r = s.sqOf r)))
    ∧ (∀ r : Fin 64, s.canDma = true → s.pwr.mode ≠ .hibEntry → s.inFlight < 131072 → s.fetchRing = some r.val → s.injOf 8 1 r = none →
      (∀ ok, ok = false ∨ s.readOk (s.reg64 (Reg.sq r 0) / 4096 * 4096 + 64 * ((s.sqOf r).fetched % ringSize (s.reg (Reg.sq r 8)))) 64 = false →
        Runs (.descriptorFetch r ok) s (fun u => u.sqOf r = { s.sqOf r with stopped := true } ∧ u.bit (Reg.sq r 12) 4 = true ∧ (∀ j, j ≠ r.val → u.sqOf j = s.sqOf j)
          ∧ u.host = { s.host with aer := s.host.aer ||| (Config.freeWord s.freeCtr &&& 0x5000) } ∧ s.keepsBut [.regs, .sq, .host, .freeCtr] u))
      ∧ (s.readOk (s.reg64 (Reg.sq r 0) / 4096 * 4096 + 64 * ((s.sqOf r).fetched % ringSize (s.reg (Reg.sq r 8)))) 64 = true → s.log.fatal = false →
        (∀ x ∈ s.host.inflight, x.bad = 0) →
        let d : Desc := ⟨s.host.nextId, r.val, field (s.reg (Reg.sq r 8)) 15 10, wordsOf (s.hostRead (s.reg64 (Reg.sq r 0) / 4096 * 4096 + 64 * ((s.sqOf r).fetched % ringSize (s.reg (Reg.sq r 8)))) 64), [], s.tm.up, false, 0, s.now⟩
        s.firstCheck d = 0 → Runs (.descriptorFetch r true) s (fun u => u.host.inflight = s.host.inflight ++ [d] ∧ u.host.nextId = s.host.nextId + 1
          ∧ u.sqOf r = { s.sqOf r with fetched := ((s.sqOf r).fetched + 1) % 65536 } ∧ s.keepsBut [.host, .sq] u)))
    ∧ (∀ q : Fin 64, (s.cqOf q).pending ≠ 0 → field (s.reg (Reg.cq q 8)) 31 22 ≠ 0 → Runs (.cqModerationTimer q) s (fun u =>
      u.cqOf q = { s.cqOf q with pending := 0 } ∧ (∀ j, j ≠ q.val → u.cqOf j = s.cqOf j) ∧ s.keepsBut [.tm, .regs, .cq, .host] u))
    ∧ (∀ id d, s.descOf id = some d → engineOp d.op = true → d.taken = false → d.bad = 0 →
      (s.heldNow d = true → exec (.engineHoldTimeout id) s = .next (((s.reachUp (d.since + (s.reg 0x400C).toNat * 1000000)).touchTxn d).retireBad d 0x0004))
      ∧ (s.heldNow d = false → exec (.engineHoldTimeout id) s = .next s))
    ∧ (∀ d, s.fenceOk d = false → s.heldNow d = false ∧ s.turnOf d = false)
    ∧ (∀ d, s.engineAway = false → s.twin.role ≠ .unresolved → s.anyHeld = false → s.heldNow d = false)
    ∧ (∀ d, s.turnOf d = true → ∀ x ∈ s.host.inflight, x.id < d.id →
      (engineOp d.op = true → engineOp x.op = false)
      ∧ (d.flag 0 = true ∨ d.op = 1 → x.ring ≠ d.ring)
      ∧ (∀ k, d.orderKey = some k → x.orderKey = some k → x.taken = true ∨ x.bad ≠ 0))
    ∧ (∀ d, d.ring < 64 → (knownOps.contains d.op = false → s.firstCheck d = 0x0001) ∧ (d.op = 0x70 → s.otp.vaultFuse = false → s.firstCheck d = 0x0520)
      ∧ (knownOps.contains d.op = true → d.op ≠ 0x70 → d.addr % 8 ≠ 0 → s.firstCheck d = 0x0002))
    ∧ (∀ (r : Fin 64) v, 4 ≤ s.boot.stage → (s.sqOf r).enabled = false → sizeOk v = true → (s.cqOf (field v 15 10)).enabled = true → Runs (.sqEnable r v) s (fun u =>
      u.sqOf r = ⟨true, false, false, 0, 0⟩ ∧ u.reg (Reg.sq r 8) = (v &&& 0xFCF0) ||| 1 ∧ (∀ j, j ≠ r.val → u.sqOf j = s.sqOf j) ∧ s.keepsBut [.regs, .sq, .log, .pwr] u))
    ∧ (∀ (r : Fin 64) v, 4 ≤ s.boot.stage → (s.sqOf r).enabled = false → sizeOk v = false ∨ (s.cqOf (field v 15 10)).enabled = false → Runs (.sqEnable r v) s (fun u =>
      u.bit (Reg.sq r 12) 3 = true ∧ u.reg (Reg.sq r 8) = v &&& 0xFCF0 ∧ s.keepsBut [.regs] u))
    ∧ (s.boot.stage < 4 → ∀ r v, exec (.sqEnable r v) s = .next s ∧ exec (.cqEnable r v) s = .next s)
    ∧ (∀ r : Fin 64, (s.sqOf r).enabled = true → Runs (.sqDisable r) s (fun u => (u.sqOf r).enabled = false))
    ∧ (∀ d, (∀ e ∈ s.strm, ∀ b ∈ e.2.bufs, b.id ≠ d.id ∨ b.done = true) → s.writing d = false →
      s.abortDesc d = (s.abandon d).retireBad d 0x0005 ∧ (s.abortDesc d).descOf d.id = none
      ∧ (∀ f, s.cfg.flip = some f → f.id = some d.id → f.sealing = true → (s.abandon d).cfg.flip = none ∧ (s.abandon d).cfg.live = s.cfg.live))
    ∧ (∀ (q : Fin 64) v, 4 ≤ s.boot.stage → (s.cqOf q).enabled = false → sizeOk v = true → exec (.cqEnable q v) s =
      .next ((((s.setReg (Reg.cq q 8) (v &&& 0xFFFFFFF0)).setBit (Reg.cq q 8) 0).setCq q ⟨true, 0, 0, 0, 0⟩).postAll))
    ∧ (∀ q : Fin 64, (s.cqOf q).enabled = true → (∀ r, r < 64 → (s.sqOf r).enabled = true → field (s.reg (Reg.sq r 8)) 15 10 ≠ q.val) → Runs (.cqDisable q) s (fun u =>
      u.cqOf q = { s.cqOf q with enabled := false, pending := 0 } ∧ u.bit (Reg.cq q 8) 0 = false ∧ s.keepsBut [.regs, .cq] u))
    ∧ (∀ (q : Fin 64) r, r < 64 → (s.cqOf q).enabled = true → (s.sqOf r).enabled = true → field (s.reg (Reg.sq r 8)) 15 10 = q.val → exec (.cqDisable q) s = .next (s.bump 0x4020))
    ∧ (∀ id d, s.serves id 0 d → exec (.nop id) s = .next (s.retireOk d []))
    ∧ (∀ id d, s.serves id 1 d → exec (.fence id) s = .next (s.retireOk d []))
    ∧ Runs .pcieConventionalReset s (fun u => u.sq = [] ∧ u.cq = [] ∧ u.host.control = controlInit ∧ u.host.waiting = [] ∧ (∀ d ∈ u.host.inflight, d.ring = 64) ∧ u.cfg.txn = none
      ∧ u.cfg.live = s.cfg.live ∧ u.pads.pcieUp = false ∧ u.mantis.jobs = [] ∧ (∀ a, 0x4000 ≤ a → a < 0x8000 → u.reg a = resetWord a))
    ∧ (4 ≤ s.boot.stage → s.pads.perst = false → s.pwr.committed = false → exec .pcieLinkUp s = .next s.pcieTrained.resumeDma)
    ∧ s.pcieTrained.pads = { s.pads with pcieUp := true } ∧ 1 ≤ s.pcieTrained.host.gen ∧ s.pcieTrained.host.gen ≤ 4 ∧ s.pcieTrained.host.width ∈ [1, 2, 4] ∧ s.keepsBut [.pads, .host, .freeCtr] s.pcieTrained
    ∧ (∀ c : PcieControl, s.pads.pcieUp = true → 5 ≤ s.boot.stage → c.busMaster = false → exec (.busMasterEnable c) s = .next { s with host := { s.host with control := c } })
    ∧ (∀ c : PcieControl, s.pads.pcieUp = false ∨ s.boot.stage < 5 → exec (.busMasterEnable c) s = .next s)
    ∧ (∀ c : PcieControl, s.pads.pcieUp = true → 5 ≤ s.boot.stage → c.busMaster = true → exec (.busMasterEnable c) s = .next (({ s with host := { s.host with control := c } } : State).resumeDma))
    ∧ (∀ v, s.host.control.msixEnable = false ∨ s.host.control.msixMask = true → s.msix v = s.setBit (0x6800 + 4 * (v / 32)) (v % 32))

/-! ### The vault -/

/-- R374, R376: the status word of a weighing result says what happened in its interval, and a short interval carries no mass. It rests on the model's own choices or readings in assumption 72. -/
def Obligations.WeighingResultsCarryTheirStatus : Prop :=
  ∀ (s : State) (p : Nat) (i : Interval) (tExit : Nat) (epoch : BitVec 16) (interrupted overlong : Bool),
    let r := s.resultOf p i tExit epoch interrupted overlong
    r.status.getLsbD 0 = i.sealOpen ∧ r.status.getLsbD 5 = interrupted ∧ r.status.getLsbD 6 = i.unlocked ∧ r.status.getLsbD 7 = overlong
    ∧ (r.status.getLsbD 1 = true ↔ r.markedN ≠ 0)
    ∧ (r.status.getLsbD 2 = true ↔ i.nets.length - 2 * s.cfgv Fld.vaultPlatformSettle p 0 < s.cfgv Fld.vaultPlatformMinOutputs p 0)
    ∧ (r.status.getLsbD 2 = true → r.mass = 0 ∧ r.wd = 0)
    ∧ r.tEntry = i.tEntry ∧ r.tExit = tExit ∧ r.event = s.sv.eventCount ∧ (∀ b, 8 ≤ b → r.status.getLsbD b = false)

/-- R368 to R380, R465: the vault starts, stops, issues records, follows its seal switch and serves VAULT_CMD. It rests on the model's own choices or readings in assumptions 32, 33, 64, 102 and 104. -/
def Obligations.VaultCommandsAreServed : Prop :=
  ∀ s : State, s.wf = true →
    (s.otp.vaultFuse = true → s.vault.mode = .starting → 9 ≤ s.boot.stage →
      (s.vault.sealedGood = true → s.vaultVerifies true = true → Runs (.vaultReset true) s (fun u => u.vault.mode = .running ∧ u.vault.seqNext = s.seqFromStore ∧ u.vault.challenge = s.sv.draws ∧ u.sv.draws = s.sv.draws + 1
        ∧ u.cfg.live = withOwned true s.cfg.live s.vault.sealed ∧ ∃ e, u.vault.toStore = s.vault.toStore ++ [e] ∧ field (wordAt e 1) 31 24 = 5))
      ∧ (∀ ok, s.vaultVerifies ok = false ∨ s.vault.sealedGood = false → Runs (.vaultReset ok) s (fun u => u.vault.mode = .fault ∧ u.cfg.live = withOwned true s.cfg.live [])))
    ∧ s.vaultVerifies false = false
    ∧ (s.otp.vaultFuse = true → s.vault.mode ≠ .off → Runs .vaultWatchdog s (fun u => u.vault = { s.vault with mode := .starting, intervals := [], seqNext := 0 }
      ∧ (s.cfg.txn.any (fun t => t.vaultOwned) = true → u.cfg.txn = none) ∧ u.reg 0x60010 = 0 ∧ u.reg 0x60014 = 0 ∧ s.keepsBut (.vault :: .cfg :: reportParts) u))
    ∧ (∀ high, s.otp.vaultFuse = true → Runs (.sealSwitchChange high) s (fun u => u.pads.level.getLsbD 31 = high ∧ u.pads.settled.getLsbD 31 = true ∧ u.sealOpen = high
      ∧ (s.vault.mode = .running → s.sealOpen ≠ high → ∃ e, u.vault.toStore = s.vault.toStore ++ [e] ∧ wordAt e 0 = s.sv.eventCount ∧ field (wordAt e 1) 31 24 = (if high then 3 else 4))
      ∧ (s.sealOpen = high → u.vault = s.vault) ∧ s.keepsBut [.pads, .vault] u))
    ∧ (∀ r rest, s.vault.ready = r :: rest → s.vault.mode = .running → s.issues = true → s.sv.withheld = false → Runs .weightRecordIssue s (fun u =>
      u.vault = { s.vault with ready := rest, records := s.vault.records ++ [(s.vault.seqNext, s.weightRecord r)], toStore := s.vault.toStore ++ [s.weightRecord r], seqNext := s.vault.seqNext + 1, lastSync := some r.tExit, intervals := u.vault.intervals }
      ∧ u.twin = { s.twin with mine := u.twin.mine, resync := u.twin.resync }
      ∧ u.reg 0x6800C = (s.reg 0x6800C).satAdd 1 ∧ s.keepsBut [.regs, .ffPort, .link, .twin, .vault] u))
    ∧ (s.vault.mode ≠ .running ∨ s.issues = false ∨ s.sv.withheld = true → exec .weightRecordIssue s = .next s)
    ∧ (s.cfg.flip = none → s.cfg.waitReady = none → s.flash.writes.any (fun w => w.begun) = false → Runs .alibiStoreWrite s (fun u => u.vault.toStore = s.vault.toStore.drop 1
      ∧ (∀ x ∈ u.vault.records, x ∈ s.vault.records) ∧ u.flash = { s.flash with writes := u.flash.writes } ∧ (1 < s.vault.toStore.length → u.flash = s.flash) ∧ s.keepsBut [.vault, .flash] u))
    ∧ (s.flash.writes.any (fun w => w.begun) = true → exec .alibiStoreWrite s = .next s)
    ∧ (∀ v t, s.inService 2 = true → s.otp.vaultFuse = true → s.isStandby = true → Runs (.vaultSync v t) s (fun u => u.vault.seqNext = v + 1
      ∧ u.vault.heldRes = s.vault.heldRes.filter (fun r => decide (t < r.tExit)) ∧ u.vault.records = s.vault.records ∧ s.keepsBut [.link, .vault, .freeCtr] u))
    ∧ (∀ id d, s.serves id 0x70 d → s.vault.mode ≠ .running → ∀ e ∈ [(Instr.vaultCmdReadRecords id, 2), (.vaultCmdAck id, 3), (.vaultCmdReadAudit id, 4), (.vaultCmdAuth id, 16), (.vaultCmdReset id, 32)],
      field (d.p 0) 15 0 = e.2 → exec e.1 s = .next (s.retireBad d 0x0542))
    ∧ (∀ id d, s.serves id 0x70 d →
      (field (d.p 0) 15 0 = 1 → exec (.vaultCmdStatus id) s = .next (s.respond d (wordBytes [s.vaultStatusWord, s.sv.eventCount, s.vault.seqNext] ++ s.sealHash
        ++ wordBytes [s.vault.imageVersion, s.vault.imageCrc] ++ randomBytes s.vault.challenge 32 ++ s.chainValue)))
      ∧ (s.vault.mode = .running →
        (field (d.p 0) 15 0 = 2 → exec (.vaultCmdReadRecords id) s = .next (s.respond d ((s.unacked.take (s.descRoom d / 168)).flatMap (fun r => wordBytes r.2))))
        ∧ (field (d.p 0) 15 0 = 3 → s.descReadOk d 4 = true → Runs (.vaultCmdAck id) s (fun u => u.vault.records = s.vault.records
          ∧ (∀ x, u.vault.acked = some x → s.vault.acked = some x ∨ (x.toNat ≤ ofLeBytes (s.descRead d 4) ∧ ∃ r ∈ s.vault.records, r.1 = x))
          ∧ (∀ x, s.vault.acked = some x → ∃ y, u.vault.acked = some y ∧ x.toNat ≤ y.toNat) ∧ s.keepsBut [.regs, .strm, .host, .sq, .cq, .vault, .sb] u))
        ∧ (field (d.p 0) 15 0 = 4 → s.descReadOk d 8 = true → ofLeBytes ((s.descRead d 8).drop 4) = 0 ∨ 4096 < ofLeBytes ((s.descRead d 8).drop 4) → exec (.vaultCmdReadAudit id) s = .next (s.retireBad d 0x0002))
        ∧ (field (d.p 0) 15 0 = 4 → s.descReadOk d 8 = true → 0 < ofLeBytes ((s.descRead d 8).drop 4) → ofLeBytes ((s.descRead d 8).drop 4) ≤ 4096 → exec (.vaultCmdReadAudit id) s =
          .next (s.respond d (((s.vault.audit.filter (fun e => decide (ofLeBytes ((s.descRead d 8).take 4) ≤ (wordAt e 0).toNat))).take (min (ofLeBytes ((s.descRead d 8).drop 4)) (s.descRoom d / 32))).flatMap wordBytes)))
        ∧ (field (d.p 0) 15 0 = 16 → s.descReadOk d (min d.len 148) = true → s.authGood (s.descRead d (min d.len 148)) = false → exec (.vaultCmdAuth id) s = .next (s.retireBad d 0x0541))
        ∧ (field (d.p 0) 15 0 = 16 → s.descReadOk d (min d.len 148) = true → s.authGood (s.descRead d (min d.len 148)) = true → Runs (.vaultCmdAuth id) s (fun u =>
          u.cfg = { s.cfg with txn := s.cfg.txn.map (fun t => { t with authorised := true }) } ∧ u.vault = { s.vault with challenge := s.sv.draws } ∧ u.sv = { s.sv with draws := s.sv.draws + 1 }))
        ∧ (field (d.p 0) 15 0 = 32 → s.sealOpen = true ∨ s.authTxn = true → Runs (.vaultCmdReset id) s (fun u => u.vault = { s.vault with mode := .starting, intervals := [], seqNext := 0 }))
        ∧ (field (d.p 0) 15 0 = 32 → s.sealOpen = false → s.authTxn = false → exec (.vaultCmdReset id) s = .next (s.retireBad d 0x0540))))

/-! ### Svetron -/

/-- R385, R390 to R393, R396, R398, R399: a request is checked, changes what its code names and nothing when it is refused, and ends with a status and a new challenge. It rests on the model's own choices or readings in assumptions 9 and 44. -/
def Obligations.SvetronRequestsAreChecked : Prop :=
  ∀ s : State,
    (∀ path bs rest, s.sv.goWaits = none → s.sv.requests = (path, bs) :: rest →
      (∀ e ∈ [(Instr.claim path, 1), (.transfer path, 2), (.release path, 3), (.setSbKey path, 4), (.setMetrologyKey path, 5), (.endorse path, 6), (.setPolicy path, 7), (.unlockInject path, 16), (.lockInject path, 17), (.unlockDebug path, 18)],
        reqCode bs = e.2 → s.reqCheck bs ≠ 0 → exec e.1 s = .next (svSweep 64 (s.reqEnd (s.reqCheck bs))))
      ∧ (s.reqCheck bs = 0 →
        (∀ key, reqCode bs = 1 → s.unwrap (((bs.drop 56).take 343).drop 198) = some key → exec (.claim path) s = .next (svSweep 64 (((s.newOwner ((bs.drop 56).take 343)).1).reqEnd 0)))
        ∧ (reqCode bs = 1 → s.unwrap (((bs.drop 56).take 343).drop 198) = none → exec (.claim path) s = .next (svSweep 64 (s.reqEnd 0x0505)))
        ∧ (∀ key, reqCode bs = 2 → s.unwrap (((bs.drop 56).take 343).drop 198) = some key → exec (.transfer path) s =
          .next (svSweep 64 ((({ (s.newOwner ((bs.drop 56).take 343)).1 with sv := { (s.newOwner ((bs.drop 56).take 343)).1.sv with endorsement := none } } : State).injectLock).reqEnd 0)))
        ∧ (reqCode bs = 3 → exec (.release path) s = .next (svSweep 64 (({ s with sv := { s.sv with
            owned := false, ownerKey := [], metrology := none, endorsement := none, policy := 0, sbKey := [], ownerGen := s.sv.ownerGen.satAdd 1, injectOpen := false } } : State).reqEnd 0)))
        ∧ (∀ key, reqCode bs = 4 → s.unwrap ((bs.drop 56).take 145) = some key → exec (.setSbKey path) s = .next (svSweep 64 ((s.newSbKey key).reqEnd 0)))
        ∧ (reqCode bs = 4 → s.unwrap ((bs.drop 56).take 145) = none → exec (.setSbKey path) s = .next (svSweep 64 (s.reqEnd 0x0505)))
        ∧ (reqCode bs = 5 → s.sealOpen = true → exec (.setMetrologyKey path) s = .next (svSweep 64 ((s.setMetrology (some ((bs.drop 56).take 97)) true).reqEnd 0)))
        ∧ (reqCode bs = 5 → s.sealOpen = false → exec (.setMetrologyKey path) s = .next (svSweep 64 (s.reqEnd 0x0540)))
        ∧ (reqCode bs = 6 → Config.ecdsaVerify s.sv.ownerKey (ctxMessage 8 (Config.sha384 s.identityKey)) ((bs.drop 56).take 96) = true →
          exec (.endorse path) s = .next (svSweep 64 (({ s with sv := { s.sv with endorsement := some ((bs.drop 56).take 96) } } : State).reqEnd 0)))
        ∧ (reqCode bs = 6 → Config.ecdsaVerify s.sv.ownerKey (ctxMessage 8 (Config.sha384 s.identityKey)) ((bs.drop 56).take 96) = false → exec (.endorse path) s = .next (svSweep 64 (s.reqEnd 0x0504)))
        ∧ (reqCode bs = 7 → exec (.setPolicy path) s = .next (svSweep 64 (({ s with sv := { s.sv with policy := BitVec.ofNat 32 (ofLeBytes ((bs.drop 56).take 4) % 4) } } : State).reqEnd 0)))
        ∧ (reqCode bs = 16 → exec (.unlockInject path) s = .next (svSweep 64 (({ s with sv := { s.sv with injectOpen := true } } : State).reqEnd 0)))
        ∧ (reqCode bs = 17 → exec (.lockInject path) s = .next (svSweep 64 (({ s with sv := { s.sv with injectOpen := false } } : State).reqEnd 0)))
        ∧ (reqCode bs = 18 → s.signing = true → exec (.unlockDebug path) s = .next (svSweep 64 (s.reqEnd 0x0507)))
        ∧ (reqCode bs = 18 → s.signing = false → exec (.unlockDebug path) s = .next (svSweep 64 (({ s with sv := { s.sv with debugOpen := true, withheld := true } } : State).reqEnd 0)))))
    ∧ (s.sv.goWaits.isSome = true → ∀ path, ∀ c ∈ [Instr.claim path, .transfer path, .release path, .setSbKey path, .setMetrologyKey path, .endorse path, .setPolicy path, .unlockInject path, .lockInject path, .unlockDebug path],
      exec c s = .next s)
    ∧ (∀ status, (s.reqEnd status).sv.requests = s.sv.requests.drop 1 ∧ (s.reqEnd status).sv.challenge = s.sv.draws ∧ (s.reqEnd status).sv.draws = s.sv.draws + 1
      ∧ (s.reqEnd status).sv.owned = s.sv.owned ∧ (s.reqEnd status).sv.policy = s.sv.policy ∧ (s.reqEnd status).sv.injectOpen = s.sv.injectOpen ∧ s.keepsBut [.regs, .sv] (s.reqEnd status))
    ∧ (s.wf = true → ∀ status, (s.reqEnd status).reg 0x68050 = BitVec.ofNat 32 status ∧ (status ≠ 0 → (s.reqEnd status).bit Reg.svStatus 15 = true))
    ∧ (s.sv.badSigs = 7 → (s.reqEnd 0x0504).sv.backoff = some s.tm.up ∧ (s.reqEnd 0x0504).sv.badSigs = 0)
    ∧ (∀ bs, s.sv.backoff.isSome = true → s.reqCheck bs = 0x0508)
    ∧ (∀ body key, s.unwrap (body.drop 198) = some key → (s.newOwner body).1.sv.owned = true ∧ (s.newOwner body).1.sv.ownerKey = body.take 97 ∧ (s.newOwner body).1.sv.sbKey = key
      ∧ (s.newOwner body).1.sv.sbCounter = 0 ∧ (s.newOwner body).1.sv.ownerGen = s.sv.ownerGen.satAdd 1 ∧ (s.newOwner body).1.sv.metrology = metrologyOf ((body.drop 97).take 97))
    ∧ (∀ t, s.sv.backoff = some t → Runs .backoffEnd s (fun u => u.sv = { s.sv with backoff := none } ∧ u.tm = (s.reachUp (t + 60000000000)).tm ∧ s.keepsBut [.tm, .sv] u))
    ∧ (∀ id d, s.serves id 0x60 d → s.sv.withheld = true → exec (.signReq id) s = .next (s.retireBad d 0x0506))
    ∧ (∀ id d, s.serves id 0x60 d → s.sv.withheld = false → s.lastWaits = false → exec (.signReq id) s =
      .next (((s.descWrite d (s.signBlock 2 5 (wordBytes ((d.words.drop 4).take 12)))).bump 0x6800C).retireOk d []))
    ∧ (∀ id d, s.serves id 0x60 d → s.sv.withheld = false → s.lastWaits = true → exec (.signReq id) s = .next s)
    ∧ (∀ id d, s.serves id 0x61 d → s.lastWaits = true → exec (.attest id) s = .next s)
    ∧ (∀ id d, s.serves id 0x61 d → s.lastWaits = false → exec (.attest id) s = .next (((s.descWrite d (s.report504 ((d.words.drop 4).take 8)
        ++ s.signBlock 1 6 (Config.sha384 (s.report504 ((d.words.drop 4).take 8))) ++ s.otp.certificate)).bump 0x6800C).retireOk d [BitVec.ofNat 32 (608 + s.otp.certificate.length)]))

/-! ### Resets, start-up and power -/

/-- R10, R217, R444, R450, R470, R477, Table 12-4: what POR and WARM load and what they leave. It rests on the model's own choices or readings in assumptions 26, 40 and 65. -/
def Obligations.ResetsLoadAndKeep : Prop :=
  ∀ s : State, s.wf = true →
    Runs .por s (fun u => u.boot.stage = 1 ∧ u.otp = s.otp ∧ u.host.mem = s.host.mem ∧ u.pads.perst = s.pads.perst ∧ (∀ a, u.reg a = resetWord a) ∧ u.cfg = .init ∧ u.twin = .init
      ∧ u.tm = .init ∧ u.epoch = 0xFFFF ∧ u.ff.mode = .free ∧ u.log = .init ∧ u.trace = .init ∧ u.pwr = .init ∧ u.host.inflight = [] ∧ (∀ g, (u.grpOf g).mode = .stopped)
      ∧ u.sv.owned = s.sv.owned ∧ u.sv.ownerKey = s.sv.ownerKey ∧ u.sv.policy = s.sv.policy ∧ u.sv.ownerGen = s.sv.ownerGen ∧ u.sv.eventCount = s.sv.eventCount ∧ u.sv.svn = s.sv.svn
      ∧ u.sv.injectOpen = false ∧ u.sv.debugOpen = false ∧ u.flash.stored = s.flash.stored ∧ u.flash.slotA = s.flash.slotA ∧ u.flash.slotB = s.flash.slotB ∧ u.pending = s.pending)
    ∧ (∀ src, 2 ≤ s.boot.stage → s.pwr.mode = .run → Runs (.warm src) s (fun u => u.boot.stage = (if s.pads.enDig then 3 else 2) ∧ u.boot.warmCause = some src ∧ u.boot.strapB = s.boot.strapB ∧ u.pads.enDig = true
      ∧ u.tm.cricket = s.tm.cricket ∧ u.tm.age = s.tm.age ∧ u.tm.running = false ∧ u.epoch = 0xFFFF ∧ u.pwr = { s.pwr with wakeTimer := none, committed := false, arose := 0 } ∧ u.trace = s.trace ∧ u.log.records = s.log.records ∧ u.log.fatal = false ∧ u.otp = s.otp
      ∧ u.cfg.txn = none ∧ u.cfg.flip = none ∧ u.cfg.nextId = s.cfg.nextId ∧ u.twin = .init ∧ u.sv.owned = s.sv.owned ∧ u.sv.injectOpen = false ∧ u.host.inflight = [] ∧ u.host.mem = s.host.mem
      ∧ (s.otp.vaultFuse = false → u.cfg.live = []) ∧ (∀ g, (u.grpOf g).mode = .stopped)
      ∧ (∀ a, warmKeeps a = true → a ≠ 0x60010 → a ≠ Reg.svStatus → u.reg a = s.reg a) ∧ (∀ a, warmKeeps a = false → a ≠ Reg.svStatus → u.reg a = resetWord a)
      ∧ u.reg Reg.svStatus = s.reg Reg.svStatus &&& 0x4000))
    ∧ (∀ src, s.boot.stage = 0 ∨ s.pwr.mode = .hibernate → exec (.warm src) s = .next s)
    ∧ (∀ src, s.boot.stage = 1 → s.pwr.mode ≠ .hibernate → exec (.warm src) s = .next { s with boot := { s.boot with warmLatched := some src } })
    ∧ (∀ v, field v 31 16 = 0xA55A → v.getLsbD 0 = true → exec (.hubCtrl v .host) s = .next (s.warmTake .host) ∧ exec (.hubCtrl v .sideband) s = .next (s.warmTake .sideband))
    ∧ (∀ v path, field v 31 16 ≠ 0xA55A ∨ v.getLsbD 0 = false → exec (.hubCtrl v path) s = .next s)

/-- R16, R217, R443 to R451, R493: the steps of start-up in their order, what ends each of them, and what a late one leads to. It rests on the model's own choices or readings in assumptions 13 and 28. -/
def Obligations.StartupGoesStepByStep : Prop :=
  ∀ s : State, s.wf = true → s.boot.retryDue = false → ∀ rep : StepReport,
    (s.boot.stage = 1 → s.pads.settled.getLsbD 32 = true → s.boot.warmLatched = none → Runs (.startupStepEnd rep) s (fun u =>
      u.boot.stage = 2 ∧ u.boot.strapB = s.pads.level.getLsbD 32 ∧ u.pads.enDig = true ∧ u.boot.timeUs = s.boot.timeUs + rep.elapsedUs ∧ u.tm = (s.stepTook rep.elapsedUs).tm ∧ s.keepsBut [.tm, .boot, .pads] u))
    ∧ (s.boot.stage = 2 → Runs (.startupStepEnd rep) s (fun u => u.boot = { s.boot with stage := 3, timeUs := s.boot.timeUs + rep.elapsedUs, stageUp := u.tm.up } ∧ u.tm = (s.stepTook rep.elapsedUs).tm ∧ s.keepsBut [.tm, .boot] u))
    ∧ (s.boot.stage = 3 → Runs (.startupStepEnd rep) s (fun u => u.boot.stage = 4 ∧ u.boot.overruns = [] ∧ u.tm.running = true ∧ u.tm.count = 0 ∧ u.tm.up = 0 ∧ u.tm.cricket = (s.stepTook rep.elapsedUs).tm.cricket
      ∧ u.pwr.pllFrom = none ∧ u.pwr.mode = s.pwr.mode ∧ s.keepsBut (.tm :: .boot :: .pwr :: reportParts) u))
    ∧ (s.boot.stage = 4 → Runs (.startupStepEnd rep) s (fun u => u.boot.stage = (if s.pads.enAna = true ∧ s.pwr.mode ≠ .hibExit then 6 else 5) ∧ u.pads.enAna = true ∧ u.bit 0x1E000 0 = true ∧ s.keepsBut (.tm :: .pads :: .boot :: reportParts) u))
    ∧ (s.boot.stage = 5 → Runs (.startupStepEnd rep) s (fun u => u.boot.stage = 6 ∧ s.keepsBut [.tm, .boot] u))
    ∧ (s.boot.stage = 6 → Runs (.startupStepEnd rep) s (fun u => u.boot.stage = 7))
    ∧ (s.boot.stage = 7 → Runs (.startupStepEnd rep) s (fun u => u.boot.stage = 8 ∧ (rep.imageAOk = false → rep.imageBOk = false → u.boot.recovery = true)
      ∧ (s.flash.trial = false → s.flash.slotA = .confirmed → s.verifySlot false = 0 → rep.imageAOk = true → sfdpPresent rep.deviceA = true → u.flash.runningB = false ∧ u.flash.slotA = .confirmed ∧ u.boot.recovery = s.boot.recovery)))
    ∧ (s.boot.stage = 8 → Runs (.startupStepEnd rep) s (fun u => u.boot.stage = 9 ∧ (s.boot.recovery = false → u.boot.engine = .up)))
    ∧ (s.boot.stage = 9 → Runs (.startupStepEnd rep) s (fun u => u.boot.stage = 10 ∧ u.boot.readyAt = (s.stepTook rep.elapsedUs).tm.up))
    ∧ (s.boot.stage = 0 ∨ s.boot.stage = 10 → exec (.startupStepEnd rep) s = .next s)
    ∧ (s.boot.stage = 2 ∨ s.boot.stage = 5 → s.pwr.mode ≠ .hibExit → Runs .supplyTimeout s (fun u =>
      u.boot.retryDue = true ∧ u.pads.enDig = false ∧ u.pads.enAna = false ∧ u.bit Reg.pwrStatus 10 = true ∧ u.bit Reg.bootStatus 9 = true ∧ u.boot.timeUs = s.boot.timeUs + 50000))
    ∧ (s.boot.stage = 1 → Runs .stepOverrun s (fun u => u.bit Reg.bootStatus 9 = true ∧ u.boot.stage = 1 ∧ u.boot.overruns.contains 1 = true ∧ s.keepsBut [.regs, .boot] u))
    ∧ (s.boot.stage = 3 ∨ s.boot.stage = 4 → Runs .stepOverrun s (fun u => u.boot.retryDue = true ∧ u.bit Reg.bootStatus 9 = true))
    ∧ (s.boot.stage = 6 → Runs .stepOverrun s (fun u => u.boot.stage = 7))
    ∧ (s.boot.stage = 7 → Runs .stepOverrun s (fun u => u.boot.stage = 8 ∧ u.boot.recovery = true ∧ u.bit Reg.bootStatus 15 = true))
    ∧ (s.boot.stage = 8 → Runs .stepOverrun s (fun u => u.boot.stage = 8 ∧ u.bit Reg.bootStatus 9 = true))
    ∧ (s.boot.stage = 9 → Runs .stepOverrun s (fun u => u.boot.stage = 10 ∧ u.cfg.bad = true ∧ u.cfg.badCause = 5))
    ∧ Runs .supplyRetry { s with boot := { s.boot with retryDue := true } } (fun u => u.boot.stage = 2 ∧ u.boot.retryDue = false ∧ u.boot.timeUs = s.boot.timeUs + 1000000 ∧ u.boot.strapB = s.boot.strapB ∧ u.pads.enDig = true
      ∧ u.bit Reg.bootStatus 9 = true)
    ∧ exec .supplyRetry s = .next s

/-- R276, R403 to R415, R478: refusals, entry and exit of Hibernate, wake sources, DOZE and the clocks' status. It rests on the model's own choices or readings in assumptions 19, 39, 60, 76, 110 and 112. -/
def Obligations.PowerStatesFollowTheirRules : Prop :=
  ∀ s : State, s.wf = true →
    (∀ path, s.hibTwice path = true → exec (.hibernate path) s = .next s)
    ∧ (∀ path, s.hibTwice path = false → s.pwr.mode = .run ∨ s.pwr.mode = .doze → s.refusers true ≠ [] → Runs (.hibernate path) s (fun u => u.pwr = { s.pwr with reqUp := some (s.tm.up, path), lastResult := 2 } ∧ u.bit Reg.pwrStatus 8 = true ∧ s.keepsBut [.regs, .pwr] u))
    ∧ (∀ path, s.hibTwice path = false → s.pwr.mode = .run ∨ s.pwr.mode = .doze → s.refusers true = [] → Runs (.hibernate path) s (fun u => u.pwr.mode = .hibEntry ∧ u.pwr.leftMode = s.pwr.mode ∧ u.pwr.entryUp = s.tm.up ∧ u.pwr.latched = 0
      ∧ u.pwr.committed = false ∧ u.pwr.wakeTimer = (if s.reg 0x1010 = 0 then none else some (s.tm.cricket + s.reg 0x1010))
      ∧ (u.grpOf 0).mode = .stopped ∧ (u.grpOf 1).mode = .stopped ∧ s.keepsBut [.regs, .grp, .pwr, .trace, .freeCtr] u))
    ∧ (s.pwr.mode = .hibEntry → s.pwr.committed = true ∨ s.hibArisen = [] → s.pwr.latched = 0 → Runs .hibEntryDone s (fun u => u.pwr.mode = .hibernate ∧ u.pwr.lastResult = 1 ∧ u.pads.enDig = false ∧ u.pads.enAna = false
      ∧ u.boot.stage = 0 ∧ u.otp = s.otp ∧ u.host.mem = s.host.mem ∧ u.vault.mode = .off ∧ u.tm.running = false ∧ u.pwr.wakeTimer = s.pwr.wakeTimer))
    ∧ (s.pwr.mode = .hibEntry → s.pwr.committed = false → s.hibArisen ≠ [] → Runs .hibEntryDone s (fun u => u.pwr.mode = s.pwr.leftMode ∧ u.pwr.lastResult = 3 ∧ u.pwr.stopped = [] ∧ u.pwr.wakeTimer = none))
    ∧ s.hibCommit.pads = { s.pads with pcieUp := false } ∧ s.hibCommit.pwr = { s.pwr with committed := true } ∧ s.hibCommit.link = State.reset.link ∧ s.hibCommit.tm = (s.reachUp (s.pwr.entryUp + 200000)).tm
    ∧ (s.pwr.mode = .hibExit → s.boot.stage = 2 → Runs .hibSupplyTimeout s (fun u => u.pwr.mode = .hibernate ∧ u.pads.enDig = false ∧ u.pads.enAna = false ∧ u.bit Reg.pwrStatus 10 = true ∧ u.vault.mode = .off))
    ∧ (∀ bits, bits &&& s.reg 0x1008 = 0 → s.wakeFire bits = s.hibWatch) ∧ (s.pwr.mode ≠ .hibEntry → s.hibWatch = s)
    ∧ (∀ bits, s.pwr.mode = .run ∨ s.pwr.mode = .doze → s.wakeFire bits = s)
    ∧ (∀ bits, s.pwr.mode = .hibExit → s.wakeFire bits = if s.pwr.wakeAt = s.tm.cricket then { s with pwr := { s.pwr with lastWake := s.pwr.lastWake ||| (bits &&& s.reg 0x1008) } } else s)
    ∧ (∀ bits, s.pwr.mode = .hibernate → bits &&& s.reg 0x1008 ≠ 0 → (s.wakeFire bits).pwr.mode = .hibExit ∧ (s.wakeFire bits).pwr.lastWake = bits &&& s.reg 0x1008 ∧ (s.wakeFire bits).pwr.wakeAt = s.tm.cricket
      ∧ (s.wakeFire bits).pads.enDig = true ∧ (s.wakeFire bits).pads.enAna = true ∧ (s.wakeFire bits).boot.stage = 2 ∧ (s.wakeFire bits).boot.fromHib = true ∧ (s.wakeFire bits).pads.wakeOut = !(bits &&& s.reg 0x1008).getLsbD 5)
    ∧ (∀ bits, s.pwr.mode = .hibEntry → bits &&& s.reg 0x1008 ≠ 0 → s.pwr.committed = true → s.wakeFire bits = { s with pwr := { s.pwr with latched := s.pwr.latched ||| (bits &&& s.reg 0x1008) } })
    ∧ (∀ bits, s.pwr.mode = .hibEntry → bits &&& s.reg 0x1008 ≠ 0 → s.pwr.committed = false → s.hibArisen = [] →
      (s.pastCommit = true → (s.wakeFire bits).pwr = { s.pwr with committed := true, latched := s.pwr.latched ||| (bits &&& s.reg 0x1008) })
      ∧ (s.pastCommit = false → (s.wakeFire bits).pwr.mode = s.pwr.leftMode ∧ (s.wakeFire bits).pwr.lastResult = 3 ∧ (s.wakeFire bits).reg 0x1058 = (s.reg 0x1058).satAdd 1))
    ∧ (∀ bits, s.pwr.mode = .hibEntry → s.pwr.committed = false → s.hibArisen ≠ [] → s.pwr.leftMode = .run ∨ s.pwr.leftMode = .doze →
      (s.wakeFire bits).pwr.mode = s.pwr.leftMode ∧ (s.wakeFire bits).pwr.lastResult = 3)
    ∧ exec .wake s = .next (s.wakeFire 0x10)
    ∧ (∀ t, s.pwr.wakeTimer = some t → exec .wakeTimer s = .next (({ s.reachCricket t with pwr := { s.pwr with wakeTimer := none } } : State).wakeFire 0x40)) ∧ (s.pwr.wakeTimer = none → exec .wakeTimer s = .next s)
    ∧ (∀ rising, exec (.wakeGpio ⟨false, rising⟩) s =
      if s.pads.settled.getLsbD (field (s.reg 0x100C) 4 0) = true ∧ rising = !(s.reg 0x100C).getLsbD 7 then .next (s.wakeFire 0x100) else .next s)
    ∧ (∀ rising, exec (.wakeGpio ⟨true, rising⟩) s =
      if s.pads.settled.getLsbD (field (s.reg 0x100C) 12 8) = true ∧ rising = !(s.reg 0x100C).getLsbD 15 then .next (s.wakeFire 0x200) else .next s)
    ∧ exec .perstDeassert s = .next (({ s with pads := { s.pads with perst := false, wakeOut := false } } : State).wakeFire 0x20)
    ∧ (∀ (p : Port) samples, chirpIn samples = false → exec (.chirpRecognised ⟨p, samples⟩) s = .next s)
    ∧ (∀ (p : Port) samples, chirpIn samples = true → s.pads.enDig = true → (s.linkOf (pidx p)).mode ≠ .sleep → exec (.chirpRecognised ⟨p, samples⟩) s = .next ((s.setBit (Reg.link (pidx p) 0) 15).wakeFire (BitVec.ofNat 32 (2 ^ pidx p))))
    ∧ (∀ (p : Port) samples, chirpIn samples = true → s.pads.enDig = true → (s.linkOf (pidx p)).mode = .sleep → s.pwr.mode = .run → Runs (.chirpRecognised ⟨p, samples⟩) s (fun u => (u.linkOf (pidx p)).mode = .detect ∧ u.bit (Reg.link (pidx p) 0) 15 = true))
    ∧ (s.bursting = true → exec .burstEnd s = .next s.dozeOnset)
    ∧ (s.bursting = false → s.pwr.mode = .run → s.burst = true → s.refusers false = [] → Runs .burstEnd s (fun u => u.pwr.mode = .doze ∧ s.keepsBut [.regs, .pwr, .trace, .freeCtr] u))
    ∧ (s.bursting = false → s.pwr.mode = .run → s.refusers false ≠ [] → Runs .burstEnd s (fun u => u.pwr.mode = .run ∧ s.keepsBut [.regs, .pwr, .trace, .freeCtr] u))
    ∧ (s.bursting = false → s.pwr.mode = .doze → s.burst = false ∨ s.refusers false ≠ [] → Runs .burstEnd s (fun u => u.pwr.mode = .run ∧ u.pwr.pllFrom = none ∧ s.keepsBut [.regs, .pwr, .trace, .freeCtr] u))
    ∧ (s.bursting = false → s.pwr.mode = .doze → s.burst = true → s.refusers false = [] → s.pwr.pllFrom = none →
      (s.pllsStay = false → s.needsFar = true → Runs .burstEnd s (fun u => u.pwr.mode = .doze ∧ u.pwr.pllFrom = some s.tm.age))
      ∧ (s.pllsStay = true ∨ s.needsFar = false → Runs .burstEnd s (fun u => u.pwr.mode = .doze ∧ u.pwr.pllFrom = none ∧ u.pwr.gated = true ∧ u.pwr.gatedCnv = !s.eventGroup)))
    ∧ (∀ at_ t, s.pwr.pllFrom = some at_ → s.nextNeed = some t → Runs .pllRestart s (fun u =>
      u.pwr.pllFrom = none ∧ u.pwr.mode = s.pwr.mode ∧ u.tm = (s.reach (t - nsTq 40000)).tm ∧ s.keepsBut [.tm, .pwr] u))
    ∧ (s.pwr.pllFrom = none → exec .pllRestart s = .next s ∧ s.coreNeed.tm = s.tm)
    ∧ (s.coreNeed.pwr.pllFrom = none ∧ s.coreNeed.pwr.gated = false ∧ s.coreNeed.tm.up ≤ s.tm.up + 45000)
    ∧ exec .refclkLoss s = .next (s.setBit Reg.clkStatus 8)
    ∧ exec (.pllUnlock false) s = .next (s.setBit Reg.clkStatus 9) ∧ exec (.pllUnlock true) s = .next (s.setBit Reg.clkStatus 10)

/-! ### Side-band port -/

/-- R396, R415, R420 to R426: which frames are taken, what a rejected one changes, and what the commands reach. It rests on the model's own choices or readings in assumptions 14, 15, 20, 75, 110 and 113. -/
def Obligations.SideBandFramesAreCheckedAndRun : Prop :=
  ∀ s : State, s.wf = true → ∀ f : SbFrame,
    (s.sbEarly f = true → ∀ c ∈ [Instr.sbNop f, .sbRead f, .sbWrite f, .sbDesc f, .sbSvreq f, .sbMalformedFrame f], exec c s = .next s)
    ∧ (∀ u, s.sb.endUp = some u → u + 50000 ≤ s.tm.up → s.sbEarly f = false) ∧ (f.early = false → s.sbEarly f = false)
    ∧ (s.sbEarly f = false →
    (s.sbCheck f = 0 →
      (f.cmd = 0 → Runs (.sbNop f) s (fun u => u.sb = { s.sb with result := 0, cmd := 0, param := f.param, response := [], endUp := some s.coreNeed.tm.up }
        ∧ u.tm = s.coreNeed.tm ∧ u.pwr = s.coreNeed.pwr ∧ s.keepsBut [.tm, .pwr, .sb, .freeCtr] u))
      ∧ (f.cmd = 1 → exec (.sbRead f) s = .next ((sbReadWords f.param.toNat f.addr.toNat (s.coreNeed.sbAccept f)).1.sbAnswer f 0 (sbReadWords f.param.toNat f.addr.toNat (s.coreNeed.sbAccept f)).2)
        ∧ Runs (.sbRead f) s (fun u => u.sb.result = 0 ∧ u.sb.cmd = 1 ∧ u.sb.param = f.param ∧ u.sb.response.length = f.param.toNat))
      ∧ (f.cmd = 2 → exec (.sbWrite f) s = .next ((sbWriteWords f.data f.addr.toNat (s.coreNeed.sbAccept f)).sbAnswer f 0 [])
        ∧ Runs (.sbWrite f) s (fun u => u.sb.result = 0 ∧ u.sb.cmd = 2 ∧ u.sb.param = f.param ∧ u.sb.response = []))
      ∧ (f.cmd = 3 → exec (.sbDesc f) s = .next (((s.coreNeed.sbAccept f).sbDescTake f.data).sbAnswer f 0 [])
        ∧ Runs (.sbDesc f) s (fun u => u.sb.result = 0 ∧ u.sb.cmd = 3 ∧ u.sb.response = [] ∧ u.host.nextId = s.host.nextId + 1))
      ∧ (f.cmd = 4 → exec (.sbSvreq f) s = .next (((s.coreNeed.sbAccept f).sbSvreqTake f).sbAnswer f 0 [])
        ∧ Runs (.sbSvreq f) s (fun u => u.sb.result = 0 ∧ u.sb.cmd = 4 ∧ u.sb.response = [] ∧ u.sb.reqBuf = reqBufWrite f.data (f.param.toNat % 256) s.sb.reqBuf)))
    ∧ (s.sbCheck f ≠ 0 → ∀ e ∈ [(Instr.sbNop f, 0), (.sbRead f, 1), (.sbWrite f, 2), (.sbDesc f, 3), (.sbSvreq f, 4)], f.cmd = e.2 → exec e.1 s = .next (s.sbReject f (s.sbCheck f)))
    ∧ (s.sbCheck f = 1 ∨ s.sbCheck f = 2 → exec (.sbMalformedFrame f) s = .next (s.sbReject f (s.sbCheck f))))
    ∧ (∀ early n, (s.sbMiso early n).length = n)
    ∧ (∀ n, n ≤ 64 → s.sbMiso true n = (sbShift [word (s.sbStatusByte + 1 + 256 * 255), s.sbEcho]).take n)
    ∧ (∀ r, (s.sbReject f r).reg 0x74004 = (s.reg 0x74004).satAdd 1 ∧ (s.sbReject f r).sb = { s.sb with result := BitVec.ofNat 8 r, cmd := f.cmd, param := f.param, response := [], endUp := some s.tm.up }
      ∧ (r = 3 ∨ r = 4 → (s.sbReject f r).reg 0x68070 = (s.reg 0x68070).satAdd 1 ∧ (s.sbReject f r).bit Reg.svStatus 14 = true)
      ∧ (r ≠ 3 → r ≠ 4 → (s.sbReject f r).reg 0x68070 = s.reg 0x68070) ∧ s.keepsBut [.regs, .sb] (s.sbReject f r))
    ∧ (f.bits % 32 ≠ 0 → s.sbCheck f = 1) ∧ (f.bits % 32 = 0 → s.sbFormat f = false → s.sbCheck f = 2)
    ∧ (s.sbCheck f = 0 → s.sbTagged f = true → f.tag = s.sbTag f)
    ∧ (s.sbCheck f = 0 → s.sv.owned = true → f.cmd ≠ 0 → s.sv.sbCounter.toNat < f.counter.toNat ∧ (s.sbAccept f).sv = { s.sv with sbCounter := f.counter })
    ∧ (s.sv.owned = false → s.sbAccept f = s)
    ∧ (∀ a n, s.coreOff = true → cricketReg a = false → a + 4 < 0x81000 → (a ≠ Reg.bootStatus ∨ s.pwr.mode = .hibernate → sbReadWords 1 a s = (s, [0xFFFFFFFF])) ∧ sbWriteWords [n] a s = s)
    ∧ (∀ a n, s.otp.vaultFuse = false → 0x60000 ≤ a → a < 0x68000 → sbReadWords 1 a s = (s, [0xFFFFFFFF]) ∧ sbWriteWords [n] a s = s)
    ∧ (∀ data, data.length = 16 → s.log.fatal = false → (∀ x ∈ s.host.inflight, x.bad = 0) →
      s.firstCheck ⟨s.host.nextId, 64, 0, data, [], s.tm.up, false, 0, s.now⟩ = 0 → (s.sbDescTake data).sb.descBusy = true
        ∧ (s.sbDescTake data).host.inflight = s.host.inflight ++ [⟨s.host.nextId, 64, 0, data, [], s.tm.up, false, 0, s.now⟩])

/-! ### Registers and pins -/

/-- R8, R9, R472, R474, R479, R487, R491, R492: what register writes and the pins do. It rests on the model's own choices or readings in assumptions 15, 18 and 110. -/
def Obligations.RegistersAndPinsFollowTheirTypes : Prop :=
  ∀ s : State, s.wf = true →
    (∀ path a m v, rwMask a = some m → (s.writeReg path a v).reg a = v &&& BitVec.ofNat 32 m ∧ (∀ b, b ≠ a → (s.writeReg path a v).reg b = s.reg b) ∧ s.keepsBut [.regs] (s.writeReg path a v))
    ∧ (∀ path a v, rwMask a = none → rw1cMask a ≠ 0 → (a < 0x8400 ∨ 0x8480 ≤ a) → (s.writeReg path a v).reg a = s.reg a &&& ~~~ (v &&& BitVec.ofNat 32 (rw1cMask a))
      ∧ (∀ b, b ≠ a → (s.writeReg path a v).reg b = s.reg b) ∧ s.keepsBut [.regs] (s.writeReg path a v))
    ∧ (∀ r : RegRequest, s.coreOff = true → exec (.registerWrite r) s = .next s ∧ exec (.unalignedRead r) s = .next s)
    ∧ (∀ r : RegRequest, s.coreOff = false → narrow r = false → unaligned r = false → exec (.registerWrite r) s = .next (s.coreNeed.writeRegs .host (RegRequest.base r) r.data))
    ∧ (∀ r : RegRequest, s.coreOff = false → narrow r = true → Runs (.registerWrite r) s (fun u => u.reg 0x24 = (s.reg 0x24).satAdd 1 ∧ field (u.reg 0x28) 31 28 = 1
      ∧ field (u.reg 0x28) 19 0 = (RegRequest.base r + firstByte r.first) % 1048576 ∧ u.bit Reg.hubStatus 8 = true ∧ u.tm = s.coreNeed.tm ∧ u.pwr = s.coreNeed.pwr ∧ s.keepsBut (.tm :: .pwr :: .freeCtr :: reportParts) u))
    ∧ (∀ r : RegRequest, s.coreOff = false → unaligned r = true → Runs (.unalignedRead r) s (fun u => u.reg 0x24 = (s.reg 0x24).satAdd 1 ∧ field (u.reg 0x28) 31 28 = 2
      ∧ u.bit Reg.hubStatus 8 = true ∧ u.tm = s.coreNeed.tm ∧ u.pwr = s.coreNeed.pwr ∧ s.keepsBut (.tm :: .pwr :: .freeCtr :: reportParts) u))
    ∧ (∀ v : W32, exec (.pinOutSet v) s = .next (s.setReg 0x78088 (s.reg 0x78088 ||| v)) ∧ exec (.pinOutClr v) s = .next (s.setReg 0x78088 (s.reg 0x78088 &&& ~~~ v)))
    ∧ (∀ (k : Fin 33) high, k.val ≠ 31 → (k.val < 32 → s.seizeFeeds k.val = false) → Runs (.pinSettle k high) s (fun u =>
      u.pads = { s.pads with level := u.pads.level, settled := s.pads.settled ||| BitVec.ofNat 33 (2 ^ k.val) } ∧ u.pads.level.getLsbD k.val = high
      ∧ (∀ j, j ≠ k.val → u.pads.level.getLsbD j = s.pads.level.getLsbD j) ∧ s.keepsBut [.pads] u))
    ∧ (∀ k : Fin 32, s.pads.due.getLsbD k.val = true → Runs (.functionSwitchPark k) s (fun u => u.pads.parked.getLsbD k.val = true ∧ u.pads.due.getLsbD k.val = false ∧ u.pinFunc k.val ≠ 9
      ∧ (∀ j, j < 32 → j ≠ k.val → u.pads.parked.getLsbD j = s.pads.parked.getLsbD j) ∧ u.tm = (s.reachCricket (s.pinEdge k)).tm ∧ u.pinEdge k = u.tm.cricket + 1
      ∧ s.keepsBut [.tm, .pads, .exc, .vault] u))
    ∧ (∀ k : Fin 32, s.pads.parked.getLsbD k.val = true → s.pads.due.getLsbD k.val = false → (s.otp.vaultFuse = false ∨ k.val ≠ 31) → s.cfgv Fld.pinFunc k.val 0 ≠ 9 → Cells.wf (fun _ => 0) s.pads.func = true →
      Runs (.functionSwitchConnect k) s (fun u => u.pads.parked.getLsbD k.val = false ∧ u.pinFunc k.val = s.cfgv Fld.pinFunc k.val 0 ∧ Cells.wf (fun _ => 0) u.pads.func = true ∧ u.tm = (s.reachCricket (s.pinEdge k)).tm ∧ s.keepsBut [.tm, .pads, .exc, .vault] u))

/-! ### Flash and firmware -/

/-- R429, R432: the engine's writes become page programs or are discarded, a failed program is counted and raised, and an erase leaves its sector alone erased. It rests on the model's own choices or readings in assumptions 1, 11 and 108. -/
def Obligations.FlashWritesAreProgrammedOrDenied : Prop :=
  ∀ s : State, s.wf = true →
    (∀ offset data, s.boot.engine = .up → offset < 67108864 → data ≠ [] → exec (.flashProgram offset data) s = .next (flashWrites data.length true offset data s).flashBegin
      ∧ (∀ u : State, exec (.flashProgram offset data) s = .next u → (∀ second, u.flash.mem second = s.flash.mem second) ∧ s.keepsBut [.regs, .host, .flash] u)
      ∧ (data.length ≤ 4 - offset % 4 → s.flash.denies (decide (33554432 ≤ offset)) (offset % 33554432) data.length = true → exec (.flashProgram offset data) s = .next (s.bump 0x70008).flashBegin)
      ∧ (data.length ≤ 4 - offset % 4 → s.flash.denies (decide (33554432 ≤ offset)) (offset % 33554432) data.length = false → exec (.flashProgram offset data) s = .next
        ({ s with flash := { s.flash with writes := s.flash.writes ++ [⟨decide (33554432 ≤ offset), offset % 33554432, data, false⟩] } } : State).flashBegin))
    ∧ (∀ offset data, (s.boot.engine ≠ .up ∨ 67108864 ≤ offset ∨ data = []) → exec (.flashProgram offset data) s = .next s)
    ∧ (∀ n fresh offset data, data ≠ [] → offset < 67108864 → ∀ (second : Bool) (a : Nat) (w : List Byte), second = decide (33554432 ≤ offset) → a = offset % 33554432 → w = data.take (4 - offset % 4) →
      (s.flash.denies second a w.length = true → flashWrites (n + 1) fresh offset data s = flashWrites n true (offset + (4 - offset % 4)) (data.drop (4 - offset % 4)) (s.bump 0x70008))
      ∧ (s.flash.denies second a w.length = false → flashWrites (n + 1) fresh offset data s = flashWrites n false (offset + (4 - offset % 4)) (data.drop (4 - offset % 4)) { s with flash := s.flash.gather fresh second a w })
      ∧ (∀ x, s.flash.writes.getLast? = some x → fresh = false → x.begun = false → x.second = second → x.offset + x.data.length = a →
        (x.offset / s.flash.page second = a / s.flash.page second → s.flash.gather fresh second a w = { s.flash with writes := s.flash.writes.dropLast ++ [{ x with data := x.data ++ w }] })
        ∧ (x.offset / s.flash.page second ≠ a / s.flash.page second → s.flash.gather fresh second a w = { s.flash with writes := s.flash.writes ++ [⟨second, a, w, false⟩] })))
    ∧ (∀ a n, 0 < n → (a < 0xA00000 → s.flash.denies s.flash.runningB a n = true)
      ∧ (∀ second, (a < 0xA80000 ∧ 0xA40000 < a + n) ∨ (a < 0x1700000 ∧ 0xC00000 < a + n) → s.flash.denies second a n = true)
      ∧ (∀ r ∈ s.flash.written, a < r.2.1 + r.2.2 → r.2.1 < a + n → s.flash.denies r.1 a n = true))
    ∧ (∀ second w, s.flash.writes.find? (fun x => x.second == second) = some w → w.begun = false → ∀ ok, exec (.flashProgramDone second ok) s = .next s)
    ∧ (∀ second, s.flash.writes.find? (fun x => x.second == second) = none → exec (.flashProgramDone second true) s = .next s
      ∧ ((∃ id d, s.serves id 0x50 d) → second ≠ s.flash.runningB → Runs (.flashProgramDone second false) s (fun u => u.flash = { s.flash with stageBad := true } ∧ u.reg 0x70004 = (s.reg 0x70004).satAdd 1
        ∧ u.bit Reg.flashStatus 8 = true ∧ s.keepsBut (.flash :: reportParts) u)))
    ∧ (∀ second w, s.flash.writes.find? (fun x => x.second == second) = some w → w.begun = true →
      (s.flash.present second = true → Runs (.flashProgramDone second true) s (fun u => u.flash.mem second = flashPut (s.flash.mem second) w.offset w.data
        ∧ u.flash.mem (!second) = s.flash.mem (!second) ∧ u.flash.writes = (if s.vault.toStore.isEmpty then beginFirst false (beginFirst true (dropWrite second s.flash.writes)) else dropWrite second s.flash.writes) ∧ s.keepsBut [.flash] u))
      ∧ Runs (.flashProgramDone second false) s (fun u => u.reg 0x70004 = (s.reg 0x70004).satAdd 1 ∧ u.bit Reg.flashStatus 8 = true ∧ u.flash.mem (!second) = s.flash.mem (!second)
        ∧ u.flash.writes = (if s.vault.toStore.isEmpty then beginFirst false (beginFirst true (dropWrite second s.flash.writes)) else dropWrite second s.flash.writes) ∧ s.keepsBut (.flash :: .freeCtr :: reportParts) u))
    ∧ (∀ second offset large, Runs (.flashEraseDone second offset large) s (fun u => s.keepsBut [.flash] u ∧ u.flash.mem (!second) = s.flash.mem (!second)
      ∧ ∀ a, Cells.get flashByte (u.flash.mem second) a = (if offset / (if large then 65536 else 4096) * (if large then 65536 else 4096) ≤ a
        ∧ a < offset / (if large then 65536 else 4096) * (if large then 65536 else 4096) + (if large then 65536 else 4096) then flashByte a else Cells.get flashByte (s.flash.mem second) a)))

/-- R433 to R436: staging, activation, confirmation and fallback of an image, with the refusals of Table 17-8 and the states its slots take. It rests on the model's own choices or readings in assumptions 21, 22, 64, 108 and 109. -/
def Obligations.ImagesAreStagedActivatedAndConfirmed : Prop :=
  ∀ s : State, s.wf = true →
    (∀ id d, s.serves id 0x50 d → d.len % 4 = 0 → d.len ≤ 65536 →
      (s.flash.trial = true → exec (.fwStage id) s = .next (s.retireBad d 0x0708))
      ∧ (s.flash.trial = false → (d.p 0).toNat ≠ 0 → (d.p 0).toNat ≠ s.flash.staged → exec (.fwStage id) s = .next (s.retireBad d 0x0701))
      ∧ (s.flash.trial = false → ((d.p 0).toNat = 0 ∨ (d.p 0).toNat = s.flash.staged) → s.descReadOk d d.len = true →
        tooLarge ((((s.imageHeader s.flash.idle).take (min (d.p 0).toNat 332) ++ (s.descRead d d.len).take (332 - (d.p 0).toNat))).take (min ((d.p 0).toNat + d.len) 332)) ((d.p 0).toNat + d.len) = false →
        s.flash.present s.flash.idle = true → (s.flash.stageBad = true → exec (.fwStage id) s = .next (s.stageLost d ((d.p 1).getLsbD 0)))
        ∧ (s.flash.stageBad = false → Runs (.fwStage id) s (fun u => u.flash.runningB = s.flash.runningB ∧ u.flash.slot s.flash.runningB = s.flash.slot s.flash.runningB ∧ u.flash.mem s.flash.runningB = s.flash.mem s.flash.runningB
          ∧ ((d.p 1).getLsbD 0 = false → u.flash.slot s.flash.idle = .staging ∧ u.flash.staged = (d.p 0).toNat + d.len)
          ∧ ((d.p 1).getLsbD 0 = true → u.flash.slot s.flash.idle = .staged ∨ (u.flash.slot s.flash.idle = .empty ∧ u.flash.staged = 0))
          ∧ s.keepsBut [.regs, .strm, .host, .sq, .cq, .sb, .flash, .pwr] u)))
      ∧ (s.flash.trial = false → ((d.p 0).toNat = 0 ∨ (d.p 0).toNat = s.flash.staged) → s.descReadOk d d.len = false → exec (.fwStage id) s = .next (s.dmaFailed d)))
    ∧ (∀ (d : Desc) (last : Bool), ∃ t : State, s.stageLost d last = t.retireBad d 0x0706 ∧ t.flash.stageBad = false ∧ (last = true → t.flash.slot s.flash.idle = .empty ∧ t.flash.staged = 0)
      ∧ t.flash.slot s.flash.runningB = s.flash.slot s.flash.runningB ∧ s.keepsBut [.regs, .host, .flash, .pwr] t)
    ∧ (∀ id d, s.serves id 0x51 d →
      (s.flash.trial = true → exec (.fwActivate id) s = .next (s.retireBad d 0x0708))
      ∧ (s.flash.trial = false → s.flash.slot s.flash.idle ≠ .staged → exec (.fwActivate id) s = .next (s.retireBad d 0x0709))
      ∧ (s.flash.trial = false → s.flash.slot s.flash.idle = .staged → s.newVault s.flash.idle = true → s.sealOpen = false → s.authTxn = false → exec (.fwActivate id) s = .next (s.retireBad d 0x0540))
      ∧ (s.flash.trial = false → s.flash.slot s.flash.idle = .staged → (s.newVault s.flash.idle = false ∨ s.sealOpen = true ∨ s.authTxn = true) →
        (s.verifySlot s.flash.idle ≠ 0 → Runs (.fwActivate id) s (fun u => u.flash.slot s.flash.idle = .empty ∧ u.flash.runningB = s.flash.runningB ∧ u.boot.engine = .absent ∧ u.cfg.txn = none))
        ∧ (s.verifySlot s.flash.idle = 0 → Runs (.fwActivate id) s (fun u => u.flash.slot s.flash.idle = .trial ∧ u.flash.runningB = s.flash.idle ∧ u.flash.slot s.flash.runningB = s.flash.slot s.flash.runningB
          ∧ u.boot.engine = .absent ∧ u.flash.pauseUp = some s.tm.up ∧ u.reg 0x18 = BitVec.ofNat 32 (hdr (s.imageHeader s.flash.idle) 4)
          ∧ (s.newVault s.flash.idle = true → u.sv.eventCount = s.sv.eventCount.satAdd 1) ∧ (s.newVault s.flash.idle = false → u.cfg.txn = none ∧ u.sv = s.sv ∧ u.vault.imageDigest = s.vault.imageDigest)))))
    ∧ (∀ id d, s.serves id 0x52 d → (s.flash.trial = false ∨ s.limitPassed = true) → exec (.fwConfirm id) s = .next (s.retireBad d 0x0707))
    ∧ (∀ c : Instr, ((∃ id d, c = .fwConfirm id ∧ s.serves id 0x52 d ∧ s.limitPassed = false) ∨ (c = .fwAutoConfirm ∧ s.cfgOn Fld.fwAutoConfirm 0 = true ∧ s.engineUp = true ∧ s.flash.selfTest = true)) → s.flash.trial = true →
      Runs c s (fun u => u.flash.slot s.flash.runningB = .confirmed ∧ u.flash.slot (!s.flash.runningB) = .previous ∧ u.flash.runningB = s.flash.runningB
        ∧ u.sv = { s.sv with svn := BitVec.ofNat 32 (max s.sv.svn.toNat (hdr (s.imageHeader s.flash.runningB) 8)) } ∧ u.vault = s.vault ∧ u.cfg = s.cfg))
    ∧ (s.flash.trial = false → exec .fwAutoConfirm s = .next s ∧ exec .fwConfirmLimit s = .next s) ∧ (s.flash.selfTest = false → exec .fwAutoConfirm s = .next s)
    ∧ (s.flash.trial = true → s.cfgOn Fld.fwAutoConfirm 0 = false → Runs .fwConfirmLimit s (fun u => u.flash.slot s.flash.runningB = .rejected ∧ u.flash.runningB = (!s.flash.runningB)
      ∧ u.boot.engine = .absent ∧ u.bit Reg.fwStatus 15 = true ∧ u.tm = (s.reachUp (s.flash.trialUp + s.cfgv Fld.fwConfirmLimitS 0 0 * 1000000000)).tm ∧ u.otp = s.otp))

/-- R16, R133, R434, R436, R465: the engine's watchdog restarts it and ends a TRIAL, and its return takes up the pause and mains tracking. It rests on the model's own choices or readings in assumptions 24, 29, 46, 61 and 109. -/
def Obligations.EngineRestartsAndReturns : Prop :=
  ∀ s : State, s.wf = true →
    (s.boot.engine = .up → Runs .engineWatchdog s (fun u => u.boot.engine = .absent ∧ u.boot.stage = s.boot.stage
      ∧ (s.flash.trial = false → u.flash = s.flash ∧ u.sv = s.sv ∧ u.reg 0x7C080 = (s.reg 0x7C080).satAdd 1) ∧ (s.flash.trial = true → u.flash.slot s.flash.runningB = .rejected ∧ u.flash.runningB = (!s.flash.runningB) ∧ u.bit Reg.fwStatus 15 = true)
      ∧ s.keepsBut [.boot, .regs, .exc, .pump, .flt, .host, .cfg, .vault, .sv, .flash, .trace, .log, .pwr, .freeCtr] u))
    ∧ (s.boot.engine ≠ .up → exec .engineWatchdog s = .next s)
    ∧ (s.boot.engine ≠ .up → s.boot.recovery = false → 9 ≤ s.boot.stage → Runs .engineReturn s (fun u => u.boot = { s.boot with engine := .up }
      ∧ u.tm = (s.reachUp s.returnUp).tm ∧ u.flash = { s.flash with pauseUp := none, selfTest := s.freeW.getLsbD 0 } ∧ (s.mains.mode = .off → u.mains.mode = .off) ∧ (s.mains.mode ≠ .off → u.mains.mode = .holdover)
      ∧ s.keepsBut [.tm, .boot, .regs, .mains, .strm, .host, .sq, .cq, .sb, .flash, .trace, .log, .pwr, .freeCtr] u))
    ∧ ((s.boot.engine = .up ∨ s.boot.recovery = true ∨ s.boot.stage < 9) → exec .engineReturn s = .next s)
    ∧ (4 ≤ s.boot.restarts.length → s.returnUp = s.boot.restarts.getLastD 0 + 10000000000) ∧ (s.boot.restarts.length < 4 → s.returnUp = 0)

/-! ### Errors, log and trace -/

/-- R457 to R462: errors of one cycle are merged and counted, make a record or raise the count of the one whose handling they fall in, take their place in a log of 512 records, and are taken out by their ESEQ alone. It rests on the model's own choices or readings in assumption 24. -/
def Obligations.ErrorsAreRecordedCoalescedAndPopped : Prop :=
  (∀ a b : ErrIn, (a.rank = b.rank → mergeErrs [a, b] = [({ a with cls := max a.cls b.cls, engine := a.engine || b.engine, injected := a.injected || b.injected, recovers := a.recovers || b.recovers }, 2)])
    ∧ (a.rank < b.rank → mergeErrs [a, b] = [(a, 1), (b, 1)] ∧ mergeErrs [b, a] = [(a, 1), (b, 1)]))
  ∧ (∀ (s : State) (es g : List ErrIn), s.log.gather = some g → s.raiseAll es = { s with log := { s.log with gather := some (g ++ es.map (fun e => { e with injected := e.injected || s.injectedNow })) } })
  ∧ (∀ (s : State) (es : List ErrIn) (f : State → State), s.log.gather = none → f { s with log := { s.log with gather := some [] } } = { s with log := { s.log with gather := some es } } →
    s.oneCycle f = s.record es ∧ s.record es = (mergeErrs es).foldl (fun t p => t.raiseOne p.1 p.2) s)
  ∧ (∀ (s : State) (e : ErrIn), s.wf = true → s.log.gather = none → e.cls ≤ 3 →
    (s.raise e).reg (0x7C020 + 4 * e.cls) = (s.reg (0x7C020 + 4 * e.cls)).satAdd 1
    ∧ (s.handlingOf e.reg e.inst = none → s.log.records.length < 512 → ∃ r, (s.raise e).log.records = s.log.records ++ [r] ∧ r.eseq = s.reg 0x7C00C ∧ r.cls = e.cls ∧ r.reg = e.reg ∧ r.bit = e.bit ∧ r.inst = e.inst
      ∧ r.nested = false ∧ r.coalesced = false ∧ r.count = 1 ∧ r.parent = 0 ∧ r.lostBefore = s.log.lostNext ∧ (s.raise e).reg 0x7C00C = s.reg 0x7C00C + 1
      ∧ (e.recovers = true → 1 ≤ e.cls → (s.raise e).handlingOf e.reg e.inst = some ⟨e.reg, e.inst, e.bit, r.eseq, e.cls, 0, 0⟩))
    ∧ (∀ h, s.handlingOf e.reg e.inst = some h → h.nested < 8 → e.bit = h.bit → s.logHeld h.eseq = true → (s.raise e).reg 0x7C00C = s.reg 0x7C00C
      ∧ (s.raise e).log.records = s.log.records.map (fun r => if r.eseq == h.eseq then { r with count := min (r.count + 1) 65535, coalesced := true } else r))
    ∧ (∀ h, s.handlingOf e.reg e.inst = some h → h.nested < 8 → e.bit ≠ h.bit → s.log.records.length < 512 → ∃ r, (s.raise e).log.records = s.log.records ++ [r] ∧ r.eseq = s.reg 0x7C00C ∧ r.nested = true ∧ r.parent = h.eseq ∧ r.count = 1)
    ∧ (∀ h, s.handlingOf e.reg e.inst = some h → 8 ≤ h.nested → s.logHeld h.eighth = true →
      (s.raise e).log.records = s.log.records.map (fun r => if r.eseq == h.eighth then { r with count := min (r.count + 1) 65535, coalesced := true } else r))
    ∧ (∀ h, s.handlingOf e.reg e.inst = some h → h.nested < 8 → (e.bit ≠ h.bit ∨ s.logHeld h.eseq = false) → (s.raise e).handlingOf e.reg e.inst = some { h with
      nested := h.nested + ((s.raise e).logHeld (s.reg 0x7C00C)).toNat, eighth := if h.nested = 7 ∧ (s.raise e).logHeld (s.reg 0x7C00C) = true then s.reg 0x7C00C else h.eighth, eseq := if h.cls < e.cls then s.reg 0x7C00C else h.eseq, bit := if h.cls < e.cls then e.bit else h.bit, cls := max h.cls e.cls })
    ∧ (s.handlingOf e.reg e.inst = none → 512 ≤ s.log.records.length → e.cls = 0 → (s.raise e).log.records = s.log.records ∧ (s.raise e).log.lostNext = true
      ∧ (s.raise e).reg 0x7C010 = (s.reg 0x7C010).satAdd 1 ∧ (s.raise e).bit Reg.errStatus 9 = true ∧ (s.raise e).reg 0x7C00C = s.reg 0x7C00C + 1)
    ∧ s.keepsBut reportParts (s.raise e))
  ∧ (∀ cls rs v, logVictim cls rs = some v → ∃ r ∈ rs, r.eseq = v ∧ r.cls ≤ cls ∧ ∀ x ∈ rs, r.cls ≤ x.cls)
  ∧ (∀ cls (rs : List ErrRec), 0 < cls → (∀ r ∈ rs, cls < r.cls) → logVictim cls rs = none)
  ∧ (∀ s : State, (∀ v r rest, s.log.records = r :: rest → (r.eseq = v → exec (.errlogPop v) s = .next { s with log := { s.log with records := rest } }) ∧ (r.eseq ≠ v → exec (.errlogPop v) s = .next s))
    ∧ (∀ v, s.log.records = [] → exec (.errlogPop v) s = .next s)
    ∧ (∀ u, s.log.msiDue = true → s.log.msiUp = some u → Runs .errMsiTimer s (fun t => t.log.msiDue = false ∧ t.log.msiUp = some (s.reachUp (u + field (s.reg 0x7C004) 25 16 * 1000)).tm.up
      ∧ t.log.records = s.log.records ∧ s.keepsBut [.tm, .regs, .host, .log] t))
    ∧ (s.log.msiDue = false → exec .errMsiTimer s = .next s)
    ∧ (∀ cls, cls < field (s.reg 0x7C004) 1 0 → s.errMsi cls = s)
    ∧ (∀ v : W32, Runs (.tracePop v) s (fun t => t.trace.entries = (if v.getLsbD 0 then s.trace.entries.drop 1 else s.trace.entries) ∧ s.keepsBut [.trace] t)))

/-- R82, R334, R463, R464: UNIT_FATAL seizes every output, stops every group and twin-alive-out, fails what is in flight, and lasts. It rests on the model's own choices or readings in assumption 27. -/
def Obligations.UnitFatalStopsTheUnit : Prop :=
  ∀ (s : State) (c : FatalCause), s.wf = true →
    (s.log.fatal = true → s.unitFatal c = s ∧ (c ≠ .schedWdg → exec (.unitFatal c) s = .next s))
    ∧ exec (.unitFatal .injected) s = .next s ∧ (s.schedGroup = none → exec (.unitFatal .schedWdg) s = .next s)
    ∧ (∀ g, s.schedGroup = some g → (s.grpOf g).mode = .running ∧ Look.scheduled s.cfgv g = true
      ∧ exec (.unitFatal .schedWdg) s = .next ((s.reach (Look.edgeT s.cfgv g (s.grpOf g).nextK + Look.period s.cfgv g + 1)).unitFatal .schedWdg))
    ∧ (c ≠ .injected → c ≠ .schedWdg → exec (.unitFatal c) s = .next (s.unitFatal c))
    ∧ (s.log.fatal = false → ∃ u : State, s.unitFatal c = u ∧ (u.log.fatal = true ∧ (∀ m < 32, (u.excOf m).mode = .seized) ∧ (∀ g : Group, (u.grpOf (gidx g)).mode = .stopped)
      ∧ ((∀ x, s.cfgOn Fld.streamEnable x = false) → s.host.inflight = [] → u.twin.aliveOut = false) ∧ u.tm = s.tm ∧ u.cfg = s.cfg ∧ u.boot = s.boot ∧ s.keepsBut [.regs, .grp, .exc, .strm, .hive, .hiveLost, .cap, .mantis, .comp, .ffPort, .link, .host, .sq, .cq, .twin, .vault, .sb, .trace, .log, .inj, .injectedNow] u))
    ∧ (∀ d : Desc, s.strm.find? (fun e => e.2.bufs.any (fun b => b.id == d.id && !b.done)) = none →
      ∃ t : State, s.failDesc d = t.retireBad d 0x0007 ∧ (∀ j ∈ t.mantis.jobs, j.id ≠ d.id) ∧ (∀ j ∈ t.comp.jobs, j.id ≠ d.id) ∧ t.host = s.host)
    ∧ (∀ d : Desc, s.log.fatal = true → s.enlist d = ({ s with host := { s.host with nextId := s.host.nextId + 1, inflight := s.host.inflight ++ [{ d with bad := s.firstCheck d }] } } : State).retireBad { d with bad := s.firstCheck d } 0x0007)

/-! ### Injector -/

/-- R280, R398, R468: an injection is refused on the manual's grounds, or is pending as often or as long as its command says, and one that lasts a time ends. It rests on the model's own choices or readings in assumptions 31 and 59. -/
def Obligations.InjectionsAreRefusedOrPending : Prop :=
  ∀ s : State,
    (∀ id d, s.serves id 0x80 d → ∀ e ∈ [(Instr.injectExcShort id, 4, 1), (.injectExcOpen id, 4, 2), (.injectExcReversed id, 4, 3), (.injectExcSenseOpen id, 4, 4), (.injectAinOpen id, 5, 1), (.injectAinOvervolt id, 5, 2),
        (.injectCnvRef id, 6, 1), (.injectCnvSupply id, 6, 2), (.injectCnvTemp id, 6, 3), (.injectCnvXchk id, 6, 4), (.injectCnvTimeout id, 6, 5), (.injectMemCorrectable id, 7, 1), (.injectMemUncorrectable id, 7, 2),
        (.injectHostDmaError id, 8, 1), (.injectHostPostingHeld id, 8, 2), (.injectEngineWatchdog id, 9, 1), (.injectFireflyTheta id, 10, 1), (.injectFireflyInvalid id, 10, 2), (.injectTwinSum id, 11, 1), (.injectTwinAliveStop id, 11, 2),
        (.injectTwinHealthWithheld id, 11, 3), (.injectPumpSag id, 12, 1), (.injectFatal id, 15, 1), (.injectDrop id, 1, 1), (.injectCorrupt id, 2, 2), (.injectReorder id, 3, 3), (.injectTag id, 1, 4), (.injectHeader id, 2, 5), (.injectSquelch id, 3, 6)],
      field (d.p 0) 7 0 = e.2.1 → (d.p 1).toNat = e.2.2 →
        (s.sv.injectOpen = false → exec e.1 s = .next (s.retireBad d 0x0509))
        ∧ (s.sv.injectOpen = true → s.injOwned e.2.1 (d.p 2) = true → s.sealOpen = false → exec e.1 s = .next (s.retireBad d 0x0540))
        ∧ (s.sv.injectOpen = true → (s.injOwned e.2.1 (d.p 2) = false ∨ s.sealOpen = true) → injIndexOk e.2.1 e.2.2 (d.p 2) (d.p 4) = false → exec e.1 s = .next (s.retireBad d 0x0002))
        ∧ (s.sv.injectOpen = true → (s.injOwned e.2.1 (d.p 2) = false ∨ s.sealOpen = true) → injIndexOk e.2.1 e.2.2 (d.p 2) (d.p 4) = true → s.injReady e.2.1 e.2.2 (d.p 2).toNat = false → exec e.1 s = .next (s.retireBad d 0x0006)))
    ∧ (∀ id d, s.serves id 0x80 d → s.sv.injectOpen = true → (s.injOwned (field (d.p 0) 7 0) (d.p 2) = false ∨ s.sealOpen = true) →
      injIndexOk (field (d.p 0) 7 0) (d.p 1).toNat (d.p 2) (d.p 4) = true → s.injReady (field (d.p 0) 7 0) (d.p 1).toNat (d.p 2).toNat = true →
      (∀ e ∈ [(Instr.injectExcShort id, 4, 1, (0 : Int)), (.injectExcOpen id, 4, 2, 0), (.injectExcReversed id, 4, 3, 0), (.injectExcSenseOpen id, 4, 4, 0), (.injectAinOpen id, 5, 1, 0), (.injectAinOvervolt id, 5, 2, 0),
          (.injectCnvRef id, 6, 1, valueP4 d), (.injectCnvSupply id, 6, 2, valueP4 d), (.injectCnvTemp id, 6, 3, valueP4 d), (.injectCnvXchk id, 6, 4, valueP4 d), (.injectCnvTimeout id, 6, 5, 0), (.injectTwinSum id, 11, 1, valueP4 d)],
        field (d.p 0) 7 0 = e.2.1 → (d.p 1).toNat = e.2.2.1 → Runs e.1 s (fun u => u.inj = s.inj ++ (if (d.p 3).toNat = 0 then [] else [⟨e.2.1, e.2.2.1, (d.p 2).toNat, (d.p 3).toNat, e.2.2.2⟩])
          ∧ s.keepsBut [.regs, .strm, .host, .sq, .cq, .sb, .inj] u))
      ∧ (∀ e ∈ [(Instr.injectMemCorrectable id, 7, 1), (.injectMemUncorrectable id, 7, 2), (.injectHostDmaError id, 8, 1)],
        field (d.p 0) 7 0 = e.2.1 → (d.p 1).toNat = e.2.2 → Runs e.1 s (fun u => u.inj = s.inj ++ [⟨e.2.1, e.2.2, (d.p 2).toNat, 1, 0⟩] ∧ s.keepsBut [.regs, .strm, .host, .sq, .cq, .sb, .inj] u))
      ∧ (∀ e ∈ [(Instr.injectFireflyTheta id, 1, signedOf 32 (d.p 3).toNat), (.injectFireflyInvalid id, 2, 0)],
        field (d.p 0) 7 0 = 10 → (d.p 1).toNat = e.2.1 → 0 < (d.p 2).toNat → Runs e.1 s (fun u => u.inj = s.inj ++ [⟨10, e.2.1, 0, (d.p 2).toNat, e.2.2⟩] ∧ s.keepsBut [.regs, .strm, .host, .sq, .cq, .sb, .inj] u))
      ∧ (∀ e ∈ [(Instr.injectHostPostingHeld id, 8, 2, (d.p 2).toNat), (.injectTwinAliveStop id, 11, 2, 0), (.injectTwinHealthWithheld id, 11, 3, 0), (.injectPumpSag id, 12, 1, 0)],
        field (d.p 0) 7 0 = e.2.1 → (d.p 1).toNat = e.2.2.1 → 0 < (d.p 3).toNat → Runs e.1 s (fun u => u.inj = s.inj ++ [⟨e.2.1, e.2.2.1, e.2.2.2, 1, ((s.tm.up + (d.p 3).toNat * 1000 : Nat) : Int)⟩]
          ∧ s.keepsBut [.regs, .strm, .host, .sq, .cq, .sb, .inj] u))
      ∧ (∀ p < 3, field (d.p 0) 7 0 = p + 1 → (∀ e ∈ [(Instr.injectDrop id, 1, field (d.p 3) 7 0), (.injectCorrupt id, 2, field (d.p 3) 7 0), (.injectReorder id, 3, 0), (.injectTag id, 4, 0)],
          (d.p 1).toNat = e.2.1 → Runs e.1 s (fun u => u.link = (if (d.p 2).toNat = 0 then s else s.updLink p (fun l => { l with inject := l.inject ++ [⟨e.2.1, (d.p 2).toNat, e.2.2, (d.p 4).toNat⟩] })).link
            ∧ s.keepsBut [.regs, .strm, .link, .host, .sq, .cq, .sb] u))
        ∧ ((d.p 1).toNat = 5 → Runs (.injectHeader id) s (fun u => u.link = (s.badHeaders p (d.p 4).toNat (d.p 2).toNat).link ∧ (∀ q, q ≠ p → u.linkOf q = s.linkOf q) ∧ s.keepsBut [.regs, .strm, .link, .host, .sq, .cq, .sb] u))
        ∧ ((d.p 1).toNat = 6 → 0 < (d.p 2).toNat → Runs (.injectSquelch id) s (fun u => u.inj = s.inj ++ [⟨p + 1, 6, (d.p 4).toNat, 1, ((s.tm.up + (d.p 2).toNat * 1000 : Nat) : Int)⟩] ∧ s.keepsBut [.regs, .strm, .host, .sq, .cq, .sb, .inj] u)))
      ∧ (field (d.p 0) 7 0 = 9 → (d.p 1).toNat = 1 → Runs (.injectEngineWatchdog id) s (fun u => u.boot.engine = .absent ∧ u.injectedNow = s.injectedNow))
      ∧ (field (d.p 0) 7 0 = 15 → (d.p 1).toNat = 1 → Runs (.injectFatal id) s (fun u => u.log.fatal = true)))
    ∧ (∀ id d, s.serves id 0x80 d → (d.p 1).toNat = 0 →
      (s.sv.injectOpen = false → exec (.injectCancel id) s = .next (s.retireBad d 0x0509))
      ∧ (s.sv.injectOpen = true → Runs (.injectCancel id) s (fun u => u.inj = s.inj.filter (fun i => i.target != field (d.p 0) 7 0) ∧ s.keepsBut [.regs, .strm, .link, .host, .sq, .cq, .sb, .inj] u
        ∧ (s.wf = true → ∀ p < 3, field (d.p 0) 7 0 = p + 1 → (u.linkOf p).inject = [] ∧ (u.linkOf p).bad0 = 0 ∧ (u.linkOf p).bad1 = 0))))
    ∧ (∀ target i, s.inj.find? (fun i => decide (i.target = target) && i.timed) = some i → Runs (.injectionDurationEnd target) s (fun u => u.inj = dropTimed target s.inj
      ∧ u.tm = (s.reachUp i.value.toNat).tm ∧ s.keepsBut [.tm, .regs, .strm, .host, .cq, .inj] u))
    ∧ (∀ target, s.inj.find? (fun i => decide (i.target = target) && i.timed) = none → exec (.injectionDurationEnd target) s = .next s)
end

