-- ==== Sys2Proof/Laws/FrmBase.lean ====
section
/-! SUPPORT. Which parts of the state an operation can change. A set of parts is a number whose bit i stands for part i in the order of Part (Safety.lean); Frm m s t says that t differs from s in parts of the set m only. -/

namespace Sys2Proof.Machine

open Sys2Proof

set_option Elab.async false

/-- The number of a part. -/
def Part.bit : Part → Nat
  | .tm => 0
  | .otp => 1
  | .pads => 2
  | .boot => 3
  | .regs => 4
  | .grp => 5
  | .edge => 6
  | .core => 7
  | .pair => 8
  | .res => 9
  | .ain => 10
  | .exc => 11
  | .pump => 12
  | .flt => 13
  | .mains => 14
  | .strm => 15
  | .hive => 16
  | .hiveLost => 17
  | .stats => 18
  | .cond => 19
  | .trig => 20
  | .cap => 21
  | .mantis => 22
  | .comp => 23
  | .ff => 24
  | .ffPort => 25
  | .txts => 26
  | .pulse => 27
  | .link => 28
  | .host => 29
  | .sq => 30
  | .cq => 31
  | .cfg => 32
  | .twin => 33
  | .vault => 34
  | .sv => 35
  | .pwr => 36
  | .sb => 37
  | .flash => 38
  | .trace => 39
  | .log => 40
  | .inj => 41
  | .injectedNow => 42
  | .freeCtr => 43
  | .pending => 44

/-- t differs from s in parts of the set m only. -/
def Frm (m : Nat) (s t : State) : Prop := ∀ p : Part, m.testBit p.bit = false → p.same s t

/-- Every part of the set a is in the set b. -/
def Sub (a b : Nat) : Prop := ∀ i, a.testBit i = true → b.testBit i = true

variable {m : Nat} {s0 s : State}

theorem Sub.refl (a : Nat) : Sub a a := fun _ h => h

theorem Sub.le {a b m : Nat} (h : Sub b m) (hab : a &&& b = a) : Sub a m := fun i hi => by
  refine h i ?_
  rw [← hab, Nat.testBit_and, Bool.and_eq_true] at hi
  exact hi.2

theorem Sub.bit {a m i : Nat} (h : Sub a m) (hi : a.testBit i = true) : m.testBit i = true := h i hi

theorem Frm.refl (m : Nat) (s : State) : Frm m s s := fun p _ => by cases p <;> rfl

theorem Part.same_trans {p : Part} {a b c : State} (h : p.same a b) (g : p.same b c) : p.same a c := by
  cases p <;> exact Eq.trans (show _ from g) (show _ from h)

/-- An update that changes parts of the set only. -/
theorem frm_mk {tm' : TimeSt} {pads' : PadSt} {boot' : BootSt} {regs' : Cells W32} {grp' : Cells GroupSt} {edge' : Cells EdgeSample} {core' : Cells CoreSt} {pair' : Cells CheckSt} {res' : Cells (Option ResultSt)} {ain' : Cells InputSt} {exc' : Cells ExcSt} {pump' : PumpSt} {flt' : Cells StageSt} {mains' : MainsSt} {strm' : Cells StreamSt} {hive' : List HiveFrame} {hiveLost' : Cells (List (Nat × Tq))} {stats' : Cells StatCh} {cond' : Cells CondSt} {trig' : Cells TrigSt} {cap' : Cells CapSt} {mantis' : MantisSt} {comp' : CompSt} {ff' : FfSt} {ffPort' : Cells FfPortSt} {txts' : Cells TxtsSt} {pulse' : Cells PulseSt} {link' : Cells LinkSt} {host' : HostSt} {sq' : Cells SqSt} {cq' : Cells CqSt} {cfg' : CfgSt} {twin' : TwinSt} {vault' : VaultSt} {sv' : SvSt} {pwr' : PwrSt} {sb' : SbSt} {flash' : FlashSt} {trace' : TraceSt} {log' : LogSt} {inj' : List Injection} {injectedNow' : Bool} {freeCtr' : Nat} {pending' : List Instr} (hf : Frm m s0 s)
    (h_tm : m.testBit 0 = true ∨ tm' = s.tm := by first | exact Or.inl (Sub.bit (by assumption) (by decide)) | exact Or.inr rfl) (h_pads : m.testBit 2 = true ∨ pads' = s.pads := by first | exact Or.inl (Sub.bit (by assumption) (by decide)) | exact Or.inr rfl) (h_boot : m.testBit 3 = true ∨ boot' = s.boot := by first | exact Or.inl (Sub.bit (by assumption) (by decide)) | exact Or.inr rfl) (h_regs : m.testBit 4 = true ∨ regs' = s.regs := by first | exact Or.inl (Sub.bit (by assumption) (by decide)) | exact Or.inr rfl) (h_grp : m.testBit 5 = true ∨ grp' = s.grp := by first | exact Or.inl (Sub.bit (by assumption) (by decide)) | exact Or.inr rfl) (h_edge : m.testBit 6 = true ∨ edge' = s.edge := by first | exact Or.inl (Sub.bit (by assumption) (by decide)) | exact Or.inr rfl) (h_core : m.testBit 7 = true ∨ core' = s.core := by first | exact Or.inl (Sub.bit (by assumption) (by decide)) | exact Or.inr rfl) (h_pair : m.testBit 8 = true ∨ pair' = s.pair := by first | exact Or.inl (Sub.bit (by assumption) (by decide)) | exact Or.inr rfl) (h_res : m.testBit 9 = true ∨ res' = s.res := by first | exact Or.inl (Sub.bit (by assumption) (by decide)) | exact Or.inr rfl) (h_ain : m.testBit 10 = true ∨ ain' = s.ain := by first | exact Or.inl (Sub.bit (by assumption) (by decide)) | exact Or.inr rfl) (h_exc : m.testBit 11 = true ∨ exc' = s.exc := by first | exact Or.inl (Sub.bit (by assumption) (by decide)) | exact Or.inr rfl) (h_pump : m.testBit 12 = true ∨ pump' = s.pump := by first | exact Or.inl (Sub.bit (by assumption) (by decide)) | exact Or.inr rfl) (h_flt : m.testBit 13 = true ∨ flt' = s.flt := by first | exact Or.inl (Sub.bit (by assumption) (by decide)) | exact Or.inr rfl) (h_mains : m.testBit 14 = true ∨ mains' = s.mains := by first | exact Or.inl (Sub.bit (by assumption) (by decide)) | exact Or.inr rfl) (h_strm : m.testBit 15 = true ∨ strm' = s.strm := by first | exact Or.inl (Sub.bit (by assumption) (by decide)) | exact Or.inr rfl) (h_hive : m.testBit 16 = true ∨ hive' = s.hive := by first | exact Or.inl (Sub.bit (by assumption) (by decide)) | exact Or.inr rfl) (h_hiveLost : m.testBit 17 = true ∨ hiveLost' = s.hiveLost := by first | exact Or.inl (Sub.bit (by assumption) (by decide)) | exact Or.inr rfl) (h_stats : m.testBit 18 = true ∨ stats' = s.stats := by first | exact Or.inl (Sub.bit (by assumption) (by decide)) | exact Or.inr rfl) (h_cond : m.testBit 19 = true ∨ cond' = s.cond := by first | exact Or.inl (Sub.bit (by assumption) (by decide)) | exact Or.inr rfl) (h_trig : m.testBit 20 = true ∨ trig' = s.trig := by first | exact Or.inl (Sub.bit (by assumption) (by decide)) | exact Or.inr rfl) (h_cap : m.testBit 21 = true ∨ cap' = s.cap := by first | exact Or.inl (Sub.bit (by assumption) (by decide)) | exact Or.inr rfl) (h_mantis : m.testBit 22 = true ∨ mantis' = s.mantis := by first | exact Or.inl (Sub.bit (by assumption) (by decide)) | exact Or.inr rfl) (h_comp : m.testBit 23 = true ∨ comp' = s.comp := by first | exact Or.inl (Sub.bit (by assumption) (by decide)) | exact Or.inr rfl) (h_ff : m.testBit 24 = true ∨ ff' = s.ff := by first | exact Or.inl (Sub.bit (by assumption) (by decide)) | exact Or.inr rfl) (h_ffPort : m.testBit 25 = true ∨ ffPort' = s.ffPort := by first | exact Or.inl (Sub.bit (by assumption) (by decide)) | exact Or.inr rfl) (h_txts : m.testBit 26 = true ∨ txts' = s.txts := by first | exact Or.inl (Sub.bit (by assumption) (by decide)) | exact Or.inr rfl) (h_pulse : m.testBit 27 = true ∨ pulse' = s.pulse := by first | exact Or.inl (Sub.bit (by assumption) (by decide)) | exact Or.inr rfl) (h_link : m.testBit 28 = true ∨ link' = s.link := by first | exact Or.inl (Sub.bit (by assumption) (by decide)) | exact Or.inr rfl) (h_host : m.testBit 29 = true ∨ host' = s.host := by first | exact Or.inl (Sub.bit (by assumption) (by decide)) | exact Or.inr rfl) (h_sq : m.testBit 30 = true ∨ sq' = s.sq := by first | exact Or.inl (Sub.bit (by assumption) (by decide)) | exact Or.inr rfl) (h_cq : m.testBit 31 = true ∨ cq' = s.cq := by first | exact Or.inl (Sub.bit (by assumption) (by decide)) | exact Or.inr rfl) (h_cfg : m.testBit 32 = true ∨ cfg' = s.cfg := by first | exact Or.inl (Sub.bit (by assumption) (by decide)) | exact Or.inr rfl) (h_twin : m.testBit 33 = true ∨ twin' = s.twin := by first | exact Or.inl (Sub.bit (by assumption) (by decide)) | exact Or.inr rfl) (h_vault : m.testBit 34 = true ∨ vault' = s.vault := by first | exact Or.inl (Sub.bit (by assumption) (by decide)) | exact Or.inr rfl) (h_sv : m.testBit 35 = true ∨ sv' = s.sv := by first | exact Or.inl (Sub.bit (by assumption) (by decide)) | exact Or.inr rfl) (h_pwr : m.testBit 36 = true ∨ pwr' = s.pwr := by first | exact Or.inl (Sub.bit (by assumption) (by decide)) | exact Or.inr rfl) (h_sb : m.testBit 37 = true ∨ sb' = s.sb := by first | exact Or.inl (Sub.bit (by assumption) (by decide)) | exact Or.inr rfl) (h_flash : m.testBit 38 = true ∨ flash' = s.flash := by first | exact Or.inl (Sub.bit (by assumption) (by decide)) | exact Or.inr rfl) (h_trace : m.testBit 39 = true ∨ trace' = s.trace := by first | exact Or.inl (Sub.bit (by assumption) (by decide)) | exact Or.inr rfl) (h_log : m.testBit 40 = true ∨ log' = s.log := by first | exact Or.inl (Sub.bit (by assumption) (by decide)) | exact Or.inr rfl) (h_inj : m.testBit 41 = true ∨ inj' = s.inj := by first | exact Or.inl (Sub.bit (by assumption) (by decide)) | exact Or.inr rfl) (h_injectedNow : m.testBit 42 = true ∨ injectedNow' = s.injectedNow := by first | exact Or.inl (Sub.bit (by assumption) (by decide)) | exact Or.inr rfl) (h_freeCtr : m.testBit 43 = true ∨ freeCtr' = s.freeCtr := by first | exact Or.inl (Sub.bit (by assumption) (by decide)) | exact Or.inr rfl) (h_pending : m.testBit 44 = true ∨ pending' = s.pending := by first | exact Or.inl (Sub.bit (by assumption) (by decide)) | exact Or.inr rfl) :
    Frm m s0 (State.mk tm' s.otp pads' boot' regs' grp' edge' core' pair' res' ain' exc' pump' flt' mains' strm' hive' hiveLost' stats' cond' trig' cap' mantis' comp' ff' ffPort' txts' pulse' link' host' sq' cq' cfg' twin' vault' sv' pwr' sb' flash' trace' log' inj' injectedNow' freeCtr' pending') := by
  intro p hp
  have h := hf p hp
  cases p
  · exact (h_tm.resolve_left (by simpa [Part.bit] using hp)).trans h
  · exact h
  · exact (h_pads.resolve_left (by simpa [Part.bit] using hp)).trans h
  · exact (h_boot.resolve_left (by simpa [Part.bit] using hp)).trans h
  · exact (h_regs.resolve_left (by simpa [Part.bit] using hp)).trans h
  · exact (h_grp.resolve_left (by simpa [Part.bit] using hp)).trans h
  · exact (h_edge.resolve_left (by simpa [Part.bit] using hp)).trans h
  · exact (h_core.resolve_left (by simpa [Part.bit] using hp)).trans h
  · exact (h_pair.resolve_left (by simpa [Part.bit] using hp)).trans h
  · exact (h_res.resolve_left (by simpa [Part.bit] using hp)).trans h
  · exact (h_ain.resolve_left (by simpa [Part.bit] using hp)).trans h
  · exact (h_exc.resolve_left (by simpa [Part.bit] using hp)).trans h
  · exact (h_pump.resolve_left (by simpa [Part.bit] using hp)).trans h
  · exact (h_flt.resolve_left (by simpa [Part.bit] using hp)).trans h
  · exact (h_mains.resolve_left (by simpa [Part.bit] using hp)).trans h
  · exact (h_strm.resolve_left (by simpa [Part.bit] using hp)).trans h
  · exact (h_hive.resolve_left (by simpa [Part.bit] using hp)).trans h
  · exact (h_hiveLost.resolve_left (by simpa [Part.bit] using hp)).trans h
  · exact (h_stats.resolve_left (by simpa [Part.bit] using hp)).trans h
  · exact (h_cond.resolve_left (by simpa [Part.bit] using hp)).trans h
  · exact (h_trig.resolve_left (by simpa [Part.bit] using hp)).trans h
  · exact (h_cap.resolve_left (by simpa [Part.bit] using hp)).trans h
  · exact (h_mantis.resolve_left (by simpa [Part.bit] using hp)).trans h
  · exact (h_comp.resolve_left (by simpa [Part.bit] using hp)).trans h
  · exact (h_ff.resolve_left (by simpa [Part.bit] using hp)).trans h
  · exact (h_ffPort.resolve_left (by simpa [Part.bit] using hp)).trans h
  · exact (h_txts.resolve_left (by simpa [Part.bit] using hp)).trans h
  · exact (h_pulse.resolve_left (by simpa [Part.bit] using hp)).trans h
  · exact (h_link.resolve_left (by simpa [Part.bit] using hp)).trans h
  · exact (h_host.resolve_left (by simpa [Part.bit] using hp)).trans h
  · exact (h_sq.resolve_left (by simpa [Part.bit] using hp)).trans h
  · exact (h_cq.resolve_left (by simpa [Part.bit] using hp)).trans h
  · exact (h_cfg.resolve_left (by simpa [Part.bit] using hp)).trans h
  · exact (h_twin.resolve_left (by simpa [Part.bit] using hp)).trans h
  · exact (h_vault.resolve_left (by simpa [Part.bit] using hp)).trans h
  · exact (h_sv.resolve_left (by simpa [Part.bit] using hp)).trans h
  · exact (h_pwr.resolve_left (by simpa [Part.bit] using hp)).trans h
  · exact (h_sb.resolve_left (by simpa [Part.bit] using hp)).trans h
  · exact (h_flash.resolve_left (by simpa [Part.bit] using hp)).trans h
  · exact (h_trace.resolve_left (by simpa [Part.bit] using hp)).trans h
  · exact (h_log.resolve_left (by simpa [Part.bit] using hp)).trans h
  · exact (h_inj.resolve_left (by simpa [Part.bit] using hp)).trans h
  · exact (h_injectedNow.resolve_left (by simpa [Part.bit] using hp)).trans h
  · exact (h_freeCtr.resolve_left (by simpa [Part.bit] using hp)).trans h
  · exact (h_pending.resolve_left (by simpa [Part.bit] using hp)).trans h

theorem frm_ite {c : Prop} [Decidable c] {a b : State} (ha : Frm m s0 a) (hb : Frm m s0 b) : Frm m s0 (if c then a else b) := by
  split <;> assumption

theorem State.doIf_frm {c : Bool} {f : State → State} (h : Frm m s0 s) (hf : Frm m s0 (f s)) : Frm m s0 (s.doIf c f) := by
  unfold State.doIf
  split <;> assumption

theorem frm_foldl {α : Type} {f : State → α → State} (xs : List α) (hf : ∀ x t, Frm m s0 t → Frm m s0 (f t x)) :
    ∀ {t}, Frm m s0 t → Frm m s0 (xs.foldl f t) := by
  induction xs with
  | nil => intro t h; exact h
  | cons x xs ih => intro t h; exact ih (hf x t h)

theorem State.each_frm {α : Type} {xs : List α} {f : α → State → State} (h : Frm m s0 s) (hf : ∀ x t, Frm m s0 t → Frm m s0 (f x t)) :
    Frm m s0 (s.each xs f) := frm_foldl xs hf h

/-- A fold that carries a state beside something else. -/
theorem frm_foldl_fst {α β : Type} {f : State × β → α → State × β} (xs : List α) (hf : ∀ x t, Frm m s0 t.1 → Frm m s0 (f t x).1) :
    ∀ {t : State × β}, Frm m s0 t.1 → Frm m s0 (xs.foldl f t).1 := by
  induction xs with
  | nil => intro t h; exact h
  | cons x xs ih => intro t h; exact ih (hf x t h)

/-- An outcome is a next state that differs in parts of the set only. -/
def OutFrm (m : Nat) (s : State) (x : Out) : Prop := ∃ t, x = .next t ∧ Frm m s t

theorem outFrm_next {t : State} (h : Frm m s0 t) : OutFrm m s0 (.next t) := ⟨t, rfl, h⟩

theorem outFrm_ite {c : Prop} [Decidable c] {a b : Out} (ha : OutFrm m s0 a) (hb : OutFrm m s0 b) : OutFrm m s0 (if c then a else b) := by
  split <;> assumption

theorem State.setGrp_frm {n : Nat} {v : GroupSt} (hm : Sub 32 m) (hgood : Frm m s0 s) : Frm m s0 (s.setGrp n v) := by
  unfold State.setGrp
  exact frm_mk hgood
theorem State.updGrp_frm {n : Nat} {f : GroupSt → GroupSt} (hm : Sub 32 m) (hgood : Frm m s0 s) : Frm m s0 (s.updGrp n f) := State.setGrp_frm hm hgood
theorem State.setEdge_frm {n : Nat} {v : EdgeSample} (hm : Sub 64 m) (hgood : Frm m s0 s) : Frm m s0 (s.setEdge n v) := by
  unfold State.setEdge
  exact frm_mk hgood
theorem State.updEdge_frm {n : Nat} {f : EdgeSample → EdgeSample} (hm : Sub 64 m) (hgood : Frm m s0 s) : Frm m s0 (s.updEdge n f) := State.setEdge_frm hm hgood
theorem State.setCore_frm {n : Nat} {v : CoreSt} (hm : Sub 128 m) (hgood : Frm m s0 s) : Frm m s0 (s.setCore n v) := by
  unfold State.setCore
  exact frm_mk hgood
theorem State.updCore_frm {n : Nat} {f : CoreSt → CoreSt} (hm : Sub 128 m) (hgood : Frm m s0 s) : Frm m s0 (s.updCore n f) := State.setCore_frm hm hgood
theorem State.setPair_frm {n : Nat} {v : CheckSt} (hm : Sub 256 m) (hgood : Frm m s0 s) : Frm m s0 (s.setPair n v) := by
  unfold State.setPair
  exact frm_mk hgood
theorem State.updPair_frm {n : Nat} {f : CheckSt → CheckSt} (hm : Sub 256 m) (hgood : Frm m s0 s) : Frm m s0 (s.updPair n f) := State.setPair_frm hm hgood
theorem State.setRes_frm {n : Nat} {v : Option ResultSt} (hm : Sub 512 m) (hgood : Frm m s0 s) : Frm m s0 (s.setRes n v) := by
  unfold State.setRes
  exact frm_mk hgood
theorem State.updRes_frm {n : Nat} {f : Option ResultSt → Option ResultSt} (hm : Sub 512 m) (hgood : Frm m s0 s) : Frm m s0 (s.updRes n f) := State.setRes_frm hm hgood
theorem State.setAin_frm {n : Nat} {v : InputSt} (hm : Sub 1024 m) (hgood : Frm m s0 s) : Frm m s0 (s.setAin n v) := by
  unfold State.setAin
  exact frm_mk hgood
theorem State.updAin_frm {n : Nat} {f : InputSt → InputSt} (hm : Sub 1024 m) (hgood : Frm m s0 s) : Frm m s0 (s.updAin n f) := State.setAin_frm hm hgood
theorem State.setExc_frm {n : Nat} {v : ExcSt} (hm : Sub 2048 m) (hgood : Frm m s0 s) : Frm m s0 (s.setExc n v) := by
  unfold State.setExc
  exact frm_mk hgood
theorem State.updExc_frm {n : Nat} {f : ExcSt → ExcSt} (hm : Sub 2048 m) (hgood : Frm m s0 s) : Frm m s0 (s.updExc n f) := State.setExc_frm hm hgood
theorem State.setFlt_frm {n : Nat} {v : StageSt} (hm : Sub 8192 m) (hgood : Frm m s0 s) : Frm m s0 (s.setFlt n v) := by
  unfold State.setFlt
  exact frm_mk hgood
theorem State.updFlt_frm {n : Nat} {f : StageSt → StageSt} (hm : Sub 8192 m) (hgood : Frm m s0 s) : Frm m s0 (s.updFlt n f) := State.setFlt_frm hm hgood
theorem State.setStrm_frm {n : Nat} {v : StreamSt} (hm : Sub 32768 m) (hgood : Frm m s0 s) : Frm m s0 (s.setStrm n v) := by
  unfold State.setStrm
  exact frm_mk hgood
theorem State.updStrm_frm {n : Nat} {f : StreamSt → StreamSt} (hm : Sub 32768 m) (hgood : Frm m s0 s) : Frm m s0 (s.updStrm n f) := State.setStrm_frm hm hgood
theorem State.setHiveLost_frm {n : Nat} {v : List (Nat × Tq)} (hm : Sub 131072 m) (hgood : Frm m s0 s) : Frm m s0 (s.setHiveLost n v) := by
  unfold State.setHiveLost
  exact frm_mk hgood
theorem State.setStats_frm {n : Nat} {v : StatCh} (hm : Sub 262144 m) (hgood : Frm m s0 s) : Frm m s0 (s.setStats n v) := by
  unfold State.setStats
  exact frm_mk hgood
theorem State.updStats_frm {n : Nat} {f : StatCh → StatCh} (hm : Sub 262144 m) (hgood : Frm m s0 s) : Frm m s0 (s.updStats n f) := State.setStats_frm hm hgood
theorem State.setCond_frm {n : Nat} {v : CondSt} (hm : Sub 524288 m) (hgood : Frm m s0 s) : Frm m s0 (s.setCond n v) := by
  unfold State.setCond
  exact frm_mk hgood
theorem State.updCond_frm {n : Nat} {f : CondSt → CondSt} (hm : Sub 524288 m) (hgood : Frm m s0 s) : Frm m s0 (s.updCond n f) := State.setCond_frm hm hgood
theorem State.setTrig_frm {n : Nat} {v : TrigSt} (hm : Sub 1048576 m) (hgood : Frm m s0 s) : Frm m s0 (s.setTrig n v) := by
  unfold State.setTrig
  exact frm_mk hgood
theorem State.updTrig_frm {n : Nat} {f : TrigSt → TrigSt} (hm : Sub 1048576 m) (hgood : Frm m s0 s) : Frm m s0 (s.updTrig n f) := State.setTrig_frm hm hgood
theorem State.setCap_frm {n : Nat} {v : CapSt} (hm : Sub 2097152 m) (hgood : Frm m s0 s) : Frm m s0 (s.setCap n v) := by
  unfold State.setCap
  exact frm_mk hgood
theorem State.updCap_frm {n : Nat} {f : CapSt → CapSt} (hm : Sub 2097152 m) (hgood : Frm m s0 s) : Frm m s0 (s.updCap n f) := State.setCap_frm hm hgood
theorem State.setFfPort_frm {n : Nat} {v : FfPortSt} (hm : Sub 33554432 m) (hgood : Frm m s0 s) : Frm m s0 (s.setFfPort n v) := by
  unfold State.setFfPort
  exact frm_mk hgood
theorem State.updFfPort_frm {n : Nat} {f : FfPortSt → FfPortSt} (hm : Sub 33554432 m) (hgood : Frm m s0 s) : Frm m s0 (s.updFfPort n f) := State.setFfPort_frm hm hgood
theorem State.setTxts_frm {n : Nat} {v : TxtsSt} (hm : Sub 67108864 m) (hgood : Frm m s0 s) : Frm m s0 (s.setTxts n v) := by
  unfold State.setTxts
  exact frm_mk hgood
theorem State.updTxts_frm {n : Nat} {f : TxtsSt → TxtsSt} (hm : Sub 67108864 m) (hgood : Frm m s0 s) : Frm m s0 (s.updTxts n f) := State.setTxts_frm hm hgood
theorem State.setPulse_frm {n : Nat} {v : PulseSt} (hm : Sub 134217728 m) (hgood : Frm m s0 s) : Frm m s0 (s.setPulse n v) := by
  unfold State.setPulse
  exact frm_mk hgood
theorem State.updPulse_frm {n : Nat} {f : PulseSt → PulseSt} (hm : Sub 134217728 m) (hgood : Frm m s0 s) : Frm m s0 (s.updPulse n f) := State.setPulse_frm hm hgood
theorem State.setLink_frm {n : Nat} {v : LinkSt} (hm : Sub 268435456 m) (hgood : Frm m s0 s) : Frm m s0 (s.setLink n v) := by
  unfold State.setLink
  exact frm_mk hgood
theorem State.updLink_frm {n : Nat} {f : LinkSt → LinkSt} (hm : Sub 268435456 m) (hgood : Frm m s0 s) : Frm m s0 (s.updLink n f) := State.setLink_frm hm hgood
theorem State.setSq_frm {n : Nat} {v : SqSt} (hm : Sub 1073741824 m) (hgood : Frm m s0 s) : Frm m s0 (s.setSq n v) := by
  unfold State.setSq
  exact frm_mk hgood
theorem State.updSq_frm {n : Nat} {f : SqSt → SqSt} (hm : Sub 1073741824 m) (hgood : Frm m s0 s) : Frm m s0 (s.updSq n f) := State.setSq_frm hm hgood
theorem State.setCq_frm {n : Nat} {v : CqSt} (hm : Sub 2147483648 m) (hgood : Frm m s0 s) : Frm m s0 (s.setCq n v) := by
  unfold State.setCq
  exact frm_mk hgood
theorem State.updCq_frm {n : Nat} {f : CqSt → CqSt} (hm : Sub 2147483648 m) (hgood : Frm m s0 s) : Frm m s0 (s.updCq n f) := State.setCq_frm hm hgood
theorem State.setReg_frm {a : Nat} {v : W32} (hm : Sub 16 m) (hgood : Frm m s0 s) : Frm m s0 (s.setReg a v) := by
  unfold State.setReg
  exact frm_mk hgood

/-- A part outside the set is the same. -/
theorem Frm.get {t : State} (h : Frm m s t) (p : Part) (hp : m.testBit p.bit = false) : p.same s t := h p hp

/-- The set as the list of its parts. -/
theorem Frm.keepsBut {t : State} {F : List Part} (h : Frm m s t) (hF : ∀ p : Part, m.testBit p.bit = true → p ∈ F) : s.keepsBut F t := by
  intro p
  cases hb : m.testBit p.bit
  · exact Or.inr (h p hb)
  · exact Or.inl (hF p hb)

theorem Frm.trans {t u : State} (h : Frm m s t) (g : Frm m t u) : Frm m s u := fun p hp => Part.same_trans (h p hp) (g p hp)

end Sys2Proof.Machine
end

