-- ==== Sys2Proof/Laws/FrmOps.lean ====
section
/-! SUPPORT. The parts of the state each operation can change (Ops, Refuse, Operands, Wire, Sign, Weigh, Hive, Inflate, Deflate, Lanes, Streams, Compress, Stats, Excite, Filters, Convert). -/

namespace Sys2Proof.Machine

open Sys2Proof

set_option Elab.async false
set_option linter.unusedVariables false
set_option linter.unusedTactic false
set_option linter.unreachableTactic false

variable {m : Nat} {s0 s : State}

theorem State.reach_frm {t : Tq} (hm : Sub 1 m) (hgood : Frm m s0 s) : Frm m s0 (State.reach s t) := by
  unfold State.reach
  try dsimp only
  repeat' first
    | with_reducible assumption
    | with_reducible refine frm_ite ?_ ?_
    | fail_if_no_progress with_reducible refine frm_mk ?_
    | split

theorem State.reachUp_frm {u : Nat} (hm : Sub 1 m) (hgood : Frm m s0 s) : Frm m s0 (State.reachUp s u) := by
  unfold State.reachUp
  try dsimp only
  repeat' first
    | with_reducible assumption
    | with_reducible refine frm_ite ?_ ?_
    | fail_if_no_progress with_reducible refine frm_mk ?_
    | split

theorem State.reachCricket_frm {c : W32} (hm : Sub 1 m) (hgood : Frm m s0 s) : Frm m s0 (State.reachCricket s c) := by
  unfold State.reachCricket
  try dsimp only
  repeat' first
    | with_reducible assumption
    | with_reducible refine frm_ite ?_ ?_
    | fail_if_no_progress with_reducible refine frm_mk ?_
    | split

theorem State.bumpBy_frm {a : Nat} {n : Nat} (hm : Sub 16 m) (hgood : Frm m s0 s) : Frm m s0 (State.bumpBy s a n) := by
  unfold State.bumpBy
  try dsimp only
  repeat' first
    | with_reducible assumption
    | with_reducible refine State.setReg_frm (hm.le (by decide)) ?_
    | with_reducible refine frm_ite ?_ ?_
    | fail_if_no_progress with_reducible refine frm_mk ?_
    | split

theorem State.bump_frm {a : Nat} (hm : Sub 16 m) (hgood : Frm m s0 s) : Frm m s0 (State.bump s a) := by
  unfold State.bump
  try dsimp only
  repeat' first
    | with_reducible assumption
    | with_reducible refine State.bumpBy_frm (hm.le (by decide)) ?_
    | with_reducible refine frm_ite ?_ ?_
    | fail_if_no_progress with_reducible refine frm_mk ?_
    | split

theorem State.setBit_frm {a : Nat} {b : Nat} (hm : Sub 16 m) (hgood : Frm m s0 s) : Frm m s0 (State.setBit s a b) := by
  unfold State.setBit
  try dsimp only
  repeat' first
    | with_reducible assumption
    | with_reducible refine State.setReg_frm (hm.le (by decide)) ?_
    | with_reducible refine frm_ite ?_ ?_
    | fail_if_no_progress with_reducible refine frm_mk ?_
    | split

theorem State.clrBit_frm {a : Nat} {b : Nat} (hm : Sub 16 m) (hgood : Frm m s0 s) : Frm m s0 (State.clrBit s a b) := by
  unfold State.clrBit
  try dsimp only
  repeat' first
    | with_reducible assumption
    | with_reducible refine State.setReg_frm (hm.le (by decide)) ?_
    | with_reducible refine frm_ite ?_ ?_
    | fail_if_no_progress with_reducible refine frm_mk ?_
    | split

theorem State.putBit_frm {a : Nat} {b : Nat} {v : Bool} (hm : Sub 16 m) (hgood : Frm m s0 s) : Frm m s0 (State.putBit s a b v) := by
  unfold State.putBit
  try dsimp only
  repeat' first
    | with_reducible assumption
    | with_reducible refine State.clrBit_frm (hm.le (by decide)) ?_
    | with_reducible refine State.setBit_frm (hm.le (by decide)) ?_
    | with_reducible refine frm_ite ?_ ?_
    | fail_if_no_progress with_reducible refine frm_mk ?_
    | split

theorem State.setReg64_frm {a : Nat} {v : Nat} (hm : Sub 16 m) (hgood : Frm m s0 s) : Frm m s0 (State.setReg64 s a v) := by
  unfold State.setReg64
  try dsimp only
  repeat' first
    | with_reducible assumption
    | with_reducible refine State.setReg_frm (hm.le (by decide)) ?_
    | with_reducible refine frm_ite ?_ ?_
    | fail_if_no_progress with_reducible refine frm_mk ?_
    | split

theorem State.setRegs_frm {ws : List W32} (hm : Sub 16 m) : ∀ {s : State} {a : Nat}, Frm m s0 s → Frm m s0 (s.setRegs a ws) := by
  induction ws with
  | nil => intro s a h; exact h
  | cons w ws ih => intro s a h; exact ih (State.setReg_frm (hm.le (by decide)) h)

theorem State.setLevel_frm {k : Nat} {v : Bool} (hm : Sub 4 m) (hgood : Frm m s0 s) : Frm m s0 (State.setLevel s k v) := by
  unfold State.setLevel
  try dsimp only
  repeat' first
    | with_reducible assumption
    | with_reducible refine frm_ite ?_ ?_
    | fail_if_no_progress with_reducible refine frm_mk ?_
    | split

theorem State.armFlip_frm {f : FlipSt} {atFrame : Option Nat} (hm : Sub 4294967296 m) (hgood : Frm m s0 s) : Frm m s0 (State.armFlip s f atFrame) := by
  unfold State.armFlip
  try dsimp only
  repeat' first
    | with_reducible assumption
    | with_reducible refine frm_ite ?_ ?_
    | fail_if_no_progress with_reducible refine frm_mk ?_
    | split

theorem State.aerReport_frm (hm : Sub 8796629893120 m) (hgood : Frm m s0 s) : Frm m s0 (State.aerReport s) := by
  unfold State.aerReport
  try dsimp only
  repeat' first
    | with_reducible assumption
    | with_reducible refine frm_ite ?_ ?_
    | fail_if_no_progress with_reducible refine frm_mk ?_
    | split

theorem State.hostWrite_frm {a : Nat} {bs : List Byte} (hm : Sub 536870912 m) (hgood : Frm m s0 s) : Frm m s0 (s.hostWrite a bs) := frm_mk hgood

theorem State.msix_frm {v : Nat} (hm : Sub 536870928 m) (hgood : Frm m s0 s) : Frm m s0 (State.msix s v) := by
  unfold State.msix
  try dsimp only
  repeat' first
    | with_reducible assumption
    | with_reducible refine State.clrBit_frm (hm.le (by decide)) ?_
    | with_reducible refine State.hostWrite_frm (hm.le (by decide)) ?_
    | with_reducible refine State.setBit_frm (hm.le (by decide)) ?_
    | with_reducible refine frm_ite ?_ ?_
    | fail_if_no_progress with_reducible refine frm_mk ?_
    | split

theorem State.msixPending_frm (hm : Sub 536870928 m) (hgood : Frm m s0 s) : Frm m s0 (State.msixPending s) := by
  unfold State.msixPending
  try dsimp only
  repeat' first
    | with_reducible assumption
    | with_reducible refine State.each_frm ?_ (fun _ _ _ => ?_)
    | with_reducible refine State.msix_frm (hm.le (by decide)) ?_
    | with_reducible refine frm_ite ?_ ?_
    | fail_if_no_progress with_reducible refine frm_mk ?_
    | split

theorem State.traceStore_frm {e : TraceEntry} (hm : Sub 549755813904 m) (hgood : Frm m s0 s) : Frm m s0 (State.traceStore s e) := by
  unfold State.traceStore
  try dsimp only
  repeat' first
    | with_reducible assumption
    | with_reducible refine State.setBit_frm (hm.le (by decide)) ?_
    | with_reducible refine frm_ite ?_ ?_
    | fail_if_no_progress with_reducible refine frm_mk ?_
    | split

theorem State.traceAdd_frm {kind : Nat} {source : Nat} {data : W32} (hm : Sub 549755813904 m) (hgood : Frm m s0 s) : Frm m s0 (State.traceAdd s kind source data) := by
  unfold State.traceAdd
  try dsimp only
  repeat' first
    | with_reducible assumption
    | with_reducible refine State.traceStore_frm (hm.le (by decide)) ?_
    | with_reducible refine frm_ite ?_ ?_
    | fail_if_no_progress with_reducible refine frm_mk ?_
    | split

theorem State.traceFree_frm {source : Nat} (hm : Sub 9345848836112 m) (hgood : Frm m s0 s) : Frm m s0 (State.traceFree s source) := by
  unfold State.traceFree
  try dsimp only
  repeat' first
    | with_reducible assumption
    | with_reducible refine State.traceAdd_frm (hm.le (by decide)) ?_
    | with_reducible refine frm_ite ?_ ?_
    | fail_if_no_progress with_reducible refine frm_mk ?_
    | split

theorem State.traceEngine_frm (hm : Sub 9345848836112 m) (hgood : Frm m s0 s) : Frm m s0 (State.traceEngine s) := by
  unfold State.traceEngine
  try dsimp only
  repeat' first
    | with_reducible assumption
    | with_reducible refine State.traceAdd_frm (hm.le (by decide)) ?_
    | with_reducible refine frm_ite ?_ ?_
    | fail_if_no_progress with_reducible refine frm_mk ?_
    | split

theorem State.traceMark_frm {kind : Nat} (hm : Sub 549755813904 m) (hgood : Frm m s0 s) : Frm m s0 (State.traceMark s kind) := by
  unfold State.traceMark
  try dsimp only
  repeat' first
    | with_reducible assumption
    | with_reducible refine State.traceStore_frm (hm.le (by decide)) ?_
    | with_reducible refine frm_ite ?_ ?_
    | fail_if_no_progress with_reducible refine frm_mk ?_
    | split

theorem State.pllRunAgo_frm {ns : Nat} (hm : Sub 68719476736 m) (hgood : Frm m s0 s) : Frm m s0 (State.pllRunAgo s ns) := by
  unfold State.pllRunAgo
  try dsimp only
  repeat' first
    | with_reducible assumption
    | with_reducible refine frm_ite ?_ ?_
    | fail_if_no_progress with_reducible refine frm_mk ?_
    | split

theorem State.pllRun_frm (hm : Sub 68719476736 m) (hgood : Frm m s0 s) : Frm m s0 (State.pllRun s) := by
  unfold State.pllRun
  try dsimp only
  repeat' first
    | with_reducible assumption
    | with_reducible refine State.pllRunAgo_frm (hm.le (by decide)) ?_
    | with_reducible refine frm_ite ?_ ?_
    | fail_if_no_progress with_reducible refine frm_mk ?_
    | split

theorem State.coreNeed_frm (hm : Sub 8864812498945 m) (hgood : Frm m s0 s) : Frm m s0 (State.coreNeed s) := by
  unfold State.coreNeed
  try dsimp only
  repeat' first
    | with_reducible assumption
    | with_reducible refine State.pllRun_frm (hm.le (by decide)) ?_
    | with_reducible refine frm_ite ?_ ?_
    | fail_if_no_progress with_reducible refine frm_mk ?_
    | split

theorem State.quietMode_frm {m' : PowerMode} (hm : Sub 68719476736 m) (hgood : Frm m s0 s) : Frm m s0 (State.quietMode s m') := by
  unfold State.quietMode
  try dsimp only
  repeat' first
    | with_reducible assumption
    | with_reducible refine frm_ite ?_ ?_
    | fail_if_no_progress with_reducible refine frm_mk ?_
    | split

theorem State.powerMode_frm {m' : PowerMode} (hm : Sub 9414568312848 m) (hgood : Frm m s0 s) : Frm m s0 (State.powerMode s m') := by
  unfold State.powerMode
  try dsimp only
  repeat' first
    | with_reducible assumption
    | with_reducible refine State.quietMode_frm (hm.le (by decide)) ?_
    | with_reducible refine State.traceFree_frm (hm.le (by decide)) ?_
    | with_reducible refine frm_ite ?_ ?_
    | fail_if_no_progress with_reducible refine frm_mk ?_
    | split

theorem State.leaveDoze_frm (hm : Sub 9414568312848 m) (hgood : Frm m s0 s) : Frm m s0 (State.leaveDoze s) := by
  unfold State.leaveDoze
  try dsimp only
  repeat' first
    | with_reducible assumption
    | with_reducible refine State.pllRun_frm (hm.le (by decide)) ?_
    | with_reducible refine State.powerMode_frm (hm.le (by decide)) ?_
    | with_reducible refine State.traceMark_frm (hm.le (by decide)) ?_
    | with_reducible refine frm_ite ?_ ?_
    | fail_if_no_progress with_reducible refine frm_mk ?_
    | split

theorem State.logLost_frm (hm : Sub 16 m) (hgood : Frm m s0 s) : Frm m s0 (State.logLost s) := by
  unfold State.logLost
  try dsimp only
  repeat' first
    | with_reducible assumption
    | with_reducible refine State.bump_frm (hm.le (by decide)) ?_
    | with_reducible refine State.setBit_frm (hm.le (by decide)) ?_
    | with_reducible refine frm_ite ?_ ?_
    | fail_if_no_progress with_reducible refine frm_mk ?_
    | split

theorem State.errMsi_frm {cls : Nat} (hm : Sub 1100048498704 m) (hgood : Frm m s0 s) : Frm m s0 (State.errMsi s cls) := by
  unfold State.errMsi
  try dsimp only
  repeat' first
    | with_reducible assumption
    | with_reducible refine State.msix_frm (hm.le (by decide)) ?_
    | with_reducible refine frm_ite ?_ ?_
    | fail_if_no_progress with_reducible refine frm_mk ?_
    | split

theorem State.formRecord_frm {r : ErrRec} (hm : Sub 1649804312592 m) (hgood : Frm m s0 s) : Frm m s0 (State.formRecord s r) := by
  unfold State.formRecord
  try dsimp only
  repeat' first
    | with_reducible assumption
    | with_reducible refine State.errMsi_frm (hm.le (by decide)) ?_
    | with_reducible refine State.logLost_frm (hm.le (by decide)) ?_
    | with_reducible refine State.setReg_frm (hm.le (by decide)) ?_
    | with_reducible refine State.traceAdd_frm (hm.le (by decide)) ?_
    | with_reducible refine frm_ite ?_ ?_
    | fail_if_no_progress with_reducible refine frm_mk ?_
    | split

theorem State.logCount_frm {e : W32} {n : Nat} (hm : Sub 1099511627776 m) (hgood : Frm m s0 s) : Frm m s0 (State.logCount s e n) := by
  unfold State.logCount
  try dsimp only
  repeat' first
    | with_reducible assumption
    | with_reducible refine frm_ite ?_ ?_
    | fail_if_no_progress with_reducible refine frm_mk ?_
    | split

theorem State.setHandling_frm {h : Handling} (hm : Sub 1099511627776 m) (hgood : Frm m s0 s) : Frm m s0 (State.setHandling s h) := by
  unfold State.setHandling
  try dsimp only
  repeat' first
    | with_reducible assumption
    | with_reducible refine frm_ite ?_ ?_
    | fail_if_no_progress with_reducible refine frm_mk ?_
    | split

theorem State.endHandling_frm {reg : Nat} {inst : Nat} (hm : Sub 1099511627776 m) (hgood : Frm m s0 s) : Frm m s0 (State.endHandling s reg inst) := by
  unfold State.endHandling
  try dsimp only
  repeat' first
    | with_reducible assumption
    | with_reducible refine frm_ite ?_ ?_
    | fail_if_no_progress with_reducible refine frm_mk ?_
    | split

theorem State.raiseOne_frm {e : ErrIn} {n : Nat} (hm : Sub 1649804312592 m) (hgood : Frm m s0 s) : Frm m s0 (State.raiseOne s e n) := by
  unfold State.raiseOne
  try dsimp only
  repeat' first
    | with_reducible assumption
    | with_reducible refine State.bump_frm (hm.le (by decide)) ?_
    | with_reducible refine State.bumpBy_frm (hm.le (by decide)) ?_
    | with_reducible refine State.doIf_frm ?_ ?_
    | with_reducible refine State.formRecord_frm (hm.le (by decide)) ?_
    | with_reducible refine State.logCount_frm (hm.le (by decide)) ?_
    | with_reducible refine State.logLost_frm (hm.le (by decide)) ?_
    | with_reducible refine State.setHandling_frm (hm.le (by decide)) ?_
    | with_reducible refine State.setReg_frm (hm.le (by decide)) ?_
    | with_reducible refine State.traceAdd_frm (hm.le (by decide)) ?_
    | with_reducible refine frm_ite ?_ ?_
    | fail_if_no_progress with_reducible refine frm_mk ?_
    | split

theorem State.record_frm {es : List ErrIn} (hm : Sub 1649804312592 m) (hgood : Frm m s0 s) : Frm m s0 (State.record s es) := by
  unfold State.record
  try dsimp only
  repeat' first
    | with_reducible assumption
    | with_reducible refine State.raiseOne_frm (hm.le (by decide)) ?_
    | with_reducible refine frm_foldl _ (fun _ _ _ => ?_) ?_
    | with_reducible refine frm_ite ?_ ?_
    | fail_if_no_progress with_reducible refine frm_mk ?_
    | split

theorem State.raiseAll_frm {es : List ErrIn} (hm : Sub 1649804312592 m) (hgood : Frm m s0 s) : Frm m s0 (State.raiseAll s es) := by
  unfold State.raiseAll
  try dsimp only
  repeat' first
    | with_reducible assumption
    | with_reducible refine State.record_frm (hm.le (by decide)) ?_
    | with_reducible refine frm_ite ?_ ?_
    | fail_if_no_progress with_reducible refine frm_mk ?_
    | split

theorem State.oneCycle_frm {f : State → State} (hm : Sub 1649804312592 m) (hgood : Frm m s0 s) (hf : ∀ t, Frm m s0 t → Frm m s0 (f t)) : Frm m s0 (s.oneCycle f) := by
  unfold State.oneCycle
  split
  · exact hf _ hgood
  · refine State.record_frm (hm.le (by decide)) ?_
    fail_if_no_progress with_reducible refine frm_mk ?_
    refine hf _ ?_
    fail_if_no_progress with_reducible refine frm_mk ?_
    exact hgood

theorem State.raise_frm {e : ErrIn} (hm : Sub 1649804312592 m) (hgood : Frm m s0 s) : Frm m s0 (State.raise s e) := by
  unfold State.raise
  try dsimp only
  repeat' first
    | with_reducible assumption
    | with_reducible refine State.raiseAll_frm (hm.le (by decide)) ?_
    | with_reducible refine frm_ite ?_ ?_
    | fail_if_no_progress with_reducible refine frm_mk ?_
    | split

theorem State.raiseBare_frm {cls : Nat} {engine : Bool} {inst : Nat} (hm : Sub 10445897334800 m) (hgood : Frm m s0 s) : Frm m s0 (State.raiseBare s cls engine inst) := by
  unfold State.raiseBare
  try dsimp only
  repeat' first
    | with_reducible assumption
    | with_reducible refine State.raise_frm (hm.le (by decide)) ?_
    | with_reducible refine frm_ite ?_ ?_
    | fail_if_no_progress with_reducible refine frm_mk ?_
    | split

theorem State.setBitRaise_frm {cls : Nat} {a : Nat} {b : Nat} {inst : Nat} (hm : Sub 1649804312592 m) (hgood : Frm m s0 s) : Frm m s0 (State.setBitRaise s cls a b inst) := by
  unfold State.setBitRaise
  try dsimp only
  repeat' first
    | with_reducible assumption
    | with_reducible refine State.raise_frm (hm.le (by decide)) ?_
    | with_reducible refine State.setBit_frm (hm.le (by decide)) ?_
    | with_reducible refine frm_ite ?_ ?_
    | fail_if_no_progress with_reducible refine frm_mk ?_
    | split

theorem State.useInj_frm {target : Nat} {action : Nat} {index : Nat} (hm : Sub 2199023255568 m) (hgood : Frm m s0 s) : Frm m s0 (State.useInj s target action index) := by
  unfold State.useInj
  try dsimp only
  repeat' first
    | with_reducible assumption
    | with_reducible refine State.bump_frm (hm.le (by decide)) ?_
    | with_reducible refine frm_ite ?_ ?_
    | fail_if_no_progress with_reducible refine frm_mk ?_
    | split

theorem State.underInj_frm {b : Bool} {f : State → State} (hm : Sub 4398046511104 m) (hgood : Frm m s0 s) (hf : ∀ t, Frm m s0 t → Frm m s0 (f t)) : Frm m s0 (s.underInj b f) := by
  unfold State.underInj
  split
  · fail_if_no_progress with_reducible refine frm_mk ?_
    exact hf _ (frm_mk hgood)
  · exact hf _ hgood

theorem State.memWrite_frm {region : Nat} (hm : Sub 2199023255568 m) (hgood : Frm m s0 s) : Frm m s0 (State.memWrite s region) := by
  unfold State.memWrite
  try dsimp only
  repeat' first
    | with_reducible assumption
    | with_reducible refine State.useInj_frm (hm.le (by decide)) ?_
    | with_reducible refine frm_ite ?_ ?_
    | fail_if_no_progress with_reducible refine frm_mk ?_
    | split

theorem State.freeNext_frm (hm : Sub 8796093022208 m) (hgood : Frm m s0 s) : Frm m s0 (State.freeNext s) := by
  unfold State.freeNext
  try dsimp only
  repeat' first
    | with_reducible assumption
    | with_reducible refine frm_ite ?_ ?_
    | fail_if_no_progress with_reducible refine frm_mk ?_
    | split

theorem State.refclkKeep_frm (hm : Sub 8796093022224 m) (hgood : Frm m s0 s) : Frm m s0 (State.refclkKeep s) := by
  unfold State.refclkKeep
  try dsimp only
  repeat' first
    | with_reducible assumption
    | with_reducible refine State.freeNext_frm (hm.le (by decide)) ?_
    | with_reducible refine State.setReg_frm (hm.le (by decide)) ?_
    | with_reducible refine frm_ite ?_ ?_
    | fail_if_no_progress with_reducible refine frm_mk ?_
    | split

theorem State.take_frm {id : Nat} (hm : Sub 536870912 m) (hgood : Frm m s0 s) : Frm m s0 (State.take s id) := by
  unfold State.take
  try dsimp only
  repeat' first
    | with_reducible assumption
    | with_reducible refine frm_ite ?_ ?_
    | fail_if_no_progress with_reducible refine frm_mk ?_
    | split

theorem State.releaseBuf_frm {id : Nat} (hm : Sub 32768 m) (hgood : Frm m s0 s) : Frm m s0 (State.releaseBuf s id) := by
  unfold State.releaseBuf
  try dsimp only
  repeat' first
    | with_reducible assumption
    | with_reducible refine State.each_frm ?_ (fun _ _ _ => ?_)
    | with_reducible refine State.updStrm_frm (hm.le (by decide)) ?_
    | with_reducible refine frm_ite ?_ ?_
    | fail_if_no_progress with_reducible refine frm_mk ?_
    | split

theorem State.cqCount_frm {q : Nat} (hm : Sub 2684354576 m) (hgood : Frm m s0 s) : Frm m s0 (State.cqCount s q) := by
  unfold State.cqCount
  try dsimp only
  repeat' first
    | with_reducible assumption
    | with_reducible refine State.msix_frm (hm.le (by decide)) ?_
    | with_reducible refine State.setCq_frm (hm.le (by decide)) ?_
    | with_reducible refine frm_ite ?_ ?_
    | fail_if_no_progress with_reducible refine frm_mk ?_
    | split

theorem State.postOne_frm {q : Nat} {c : Completion} (hm : Sub 2684387344 m) (hgood : Frm m s0 s) : Frm m s0 (State.postOne s q c) := by
  unfold State.postOne
  try dsimp only
  repeat' first
    | with_reducible assumption
    | with_reducible refine State.cqCount_frm (hm.le (by decide)) ?_
    | with_reducible refine State.doIf_frm ?_ ?_
    | with_reducible refine State.hostWrite_frm (hm.le (by decide)) ?_
    | with_reducible refine State.releaseBuf_frm (hm.le (by decide)) ?_
    | with_reducible refine State.setBit_frm (hm.le (by decide)) ?_
    | with_reducible refine State.updCq_frm (hm.le (by decide)) ?_
    | with_reducible refine frm_ite ?_ ?_
    | fail_if_no_progress with_reducible refine frm_mk ?_
    | split

theorem postGo_frm {ws : List (Nat × Completion)} (hm : Sub 2684387344 m) : ∀ {stuck : List Nat} {s : State}, Frm m s0 s → Frm m s0 (postGo ws stuck s) := by
  induction ws with
  | nil => intro stuck s h; exact h
  | cons w ws ih =>
    intro stuck s h
    unfold postGo
    split
    · exact ih (State.postOne_frm (hm.le (by decide)) h)
    · exact ih (frm_mk h)

theorem State.postAll_frm (hm : Sub 2684387344 m) (hgood : Frm m s0 s) : Frm m s0 (State.postAll s) := by
  unfold State.postAll
  try dsimp only
  repeat' first
    | with_reducible assumption
    | with_reducible refine postGo_frm (hm.le (by decide)) ?_
    | with_reducible refine frm_ite ?_ ?_
    | fail_if_no_progress with_reducible refine frm_mk ?_
    | split

theorem State.drainCheck_frm {r : Nat} (hm : Sub 1073741824 m) (hgood : Frm m s0 s) : Frm m s0 (State.drainCheck s r) := by
  unfold State.drainCheck
  try dsimp only
  repeat' first
    | with_reducible assumption
    | with_reducible refine State.updSq_frm (hm.le (by decide)) ?_
    | with_reducible refine frm_ite ?_ ?_
    | fail_if_no_progress with_reducible refine frm_mk ?_
    | split

theorem State.dropDesc_frm {id : Nat} (hm : Sub 536870912 m) (hgood : Frm m s0 s) : Frm m s0 (State.dropDesc s id) := by
  unfold State.dropDesc
  try dsimp only
  repeat' first
    | with_reducible assumption
    | with_reducible refine frm_ite ?_ ?_
    | fail_if_no_progress with_reducible refine frm_mk ?_
    | split

theorem State.deliver_frm {d : Desc} {c : Completion} (hm : Sub 140123340816 m) (hgood : Frm m s0 s) : Frm m s0 (State.deliver s d c) := by
  unfold State.deliver
  try dsimp only
  repeat' first
    | with_reducible assumption
    | with_reducible refine State.postAll_frm (hm.le (by decide)) ?_
    | with_reducible refine State.setRegs_frm (hm.le (by decide)) ?_
    | with_reducible refine frm_ite ?_ ?_
    | fail_if_no_progress with_reducible refine frm_mk ?_
    | split

theorem State.retire1_frm {d : Desc} {status : Nat} {resS : Nat} {res : List W32} (hm : Sub 141197082640 m) (hgood : Frm m s0 s) : Frm m s0 (State.retire1 s d status resS res) := by
  unfold State.retire1
  try dsimp only
  repeat' first
    | with_reducible assumption
    | with_reducible refine State.deliver_frm (hm.le (by decide)) ?_
    | with_reducible refine State.drainCheck_frm (hm.le (by decide)) ?_
    | with_reducible refine State.dropDesc_frm (hm.le (by decide)) ?_
    | with_reducible refine frm_ite ?_ ?_
    | fail_if_no_progress with_reducible refine frm_mk ?_
    | split

theorem State.sweepBad_frm (hm : Sub 141197082640 m) (hgood : Frm m s0 s) : Frm m s0 (State.sweepBad s) := by
  unfold State.sweepBad
  try dsimp only
  repeat' first
    | with_reducible assumption
    | with_reducible refine State.each_frm ?_ (fun _ _ _ => ?_)
    | with_reducible refine State.retire1_frm (hm.le (by decide)) ?_
    | with_reducible refine frm_ite ?_ ?_
    | fail_if_no_progress with_reducible refine frm_mk ?_
    | split

theorem State.retire_frm {d : Desc} {status : Nat} {resS : Nat} {res : List W32} (hm : Sub 141197082640 m) (hgood : Frm m s0 s) : Frm m s0 (State.retire s d status resS res) := by
  unfold State.retire
  try dsimp only
  repeat' first
    | with_reducible assumption
    | with_reducible refine State.retire1_frm (hm.le (by decide)) ?_
    | with_reducible refine State.sweepBad_frm (hm.le (by decide)) ?_
    | with_reducible refine frm_ite ?_ ?_
    | fail_if_no_progress with_reducible refine frm_mk ?_
    | split

theorem State.retireOk_frm {d : Desc} {res : List W32} (hm : Sub 141197082640 m) (hgood : Frm m s0 s) : Frm m s0 (State.retireOk s d res) := by
  unfold State.retireOk
  try dsimp only
  repeat' first
    | with_reducible assumption
    | with_reducible refine State.retire_frm (hm.le (by decide)) ?_
    | with_reducible refine frm_ite ?_ ?_
    | fail_if_no_progress with_reducible refine frm_mk ?_
    | split

theorem State.retireBad_frm {d : Desc} {status : Nat} (hm : Sub 141197082640 m) (hgood : Frm m s0 s) : Frm m s0 (State.retireBad s d status) := by
  unfold State.retireBad
  try dsimp only
  repeat' first
    | with_reducible assumption
    | with_reducible refine State.retire_frm (hm.le (by decide)) ?_
    | with_reducible refine frm_ite ?_ ?_
    | fail_if_no_progress with_reducible refine frm_mk ?_
    | split

theorem State.dmaFailed_frm {d : Desc} (hm : Sub 8937290104848 m) (hgood : Frm m s0 s) : Frm m s0 (State.dmaFailed s d) := by
  unfold State.dmaFailed
  try dsimp only
  repeat' first
    | with_reducible assumption
    | with_reducible refine State.aerReport_frm (hm.le (by decide)) ?_
    | with_reducible refine State.retireBad_frm (hm.le (by decide)) ?_
    | with_reducible refine frm_ite ?_ ?_
    | fail_if_no_progress with_reducible refine frm_mk ?_
    | split

theorem State.serve_frm {id op : Nat} {f : Desc → State → State} (hm : Sub 0 m) (hgood : Frm m s0 s) (hf : ∀ d t, Frm m s0 t → Frm m s0 (f d t)) : OutFrm m s0 (s.serve id op f) := by
  unfold State.serve
  split
  · exact outFrm_next hgood
  · split
    · exact outFrm_next (hf _ _ hgood)
    · exact outFrm_next hgood

theorem State.descWrite_frm {d : Desc} {bs : List Byte} (hm : Sub 536870928 m) (hgood : Frm m s0 s) : Frm m s0 (State.descWrite s d bs) := by
  unfold State.descWrite
  try dsimp only
  repeat' first
    | with_reducible assumption
    | with_reducible refine State.hostWrite_frm (hm.le (by decide)) ?_
    | with_reducible refine State.setRegs_frm (hm.le (by decide)) ?_
    | with_reducible refine State.take_frm (hm.le (by decide)) ?_
    | with_reducible refine frm_ite ?_ ?_
    | fail_if_no_progress with_reducible refine frm_mk ?_
    | split

theorem State.countRefusals_frm {rs : List Nat} (hm : Sub 16 m) (hgood : Frm m s0 s) : Frm m s0 (State.countRefusals s rs) := by
  unfold State.countRefusals
  try dsimp only
  repeat' first
    | with_reducible assumption
    | with_reducible refine State.bump_frm (hm.le (by decide)) ?_
    | with_reducible refine State.each_frm ?_ (fun _ _ _ => ?_)
    | with_reducible refine State.setBit_frm (hm.le (by decide)) ?_
    | with_reducible refine frm_ite ?_ ?_
    | fail_if_no_progress with_reducible refine frm_mk ?_
    | split

theorem State.dozeOnset_frm (hm : Sub 68719476752 m) (hgood : Frm m s0 s) : Frm m s0 (State.dozeOnset s) := by
  unfold State.dozeOnset
  try dsimp only
  repeat' first
    | with_reducible assumption
    | with_reducible refine State.countRefusals_frm (hm.le (by decide)) ?_
    | with_reducible refine frm_ite ?_ ?_
    | fail_if_no_progress with_reducible refine frm_mk ?_
    | split

theorem State.refuserNote_frm (hm : Sub 68719476752 m) (hgood : Frm m s0 s) : Frm m s0 (State.refuserNote s) := by
  unfold State.refuserNote
  try dsimp only
  repeat' first
    | with_reducible assumption
    | with_reducible refine State.dozeOnset_frm (hm.le (by decide)) ?_
    | with_reducible refine frm_ite ?_ ?_
    | fail_if_no_progress with_reducible refine frm_mk ?_
    | split

theorem State.stampReq_frm {p : Nat} {b : TxBody} {retry : Bool} (hm : Sub 33554432 m) (hgood : Frm m s0 s) : Frm m s0 (State.stampReq s p b retry) := by
  unfold State.stampReq
  try dsimp only
  repeat' first
    | with_reducible assumption
    | with_reducible refine State.updFfPort_frm (hm.le (by decide)) ?_
    | with_reducible refine frm_ite ?_ ?_
    | fail_if_no_progress with_reducible refine frm_mk ?_
    | split

theorem State.emit_frm {p : Nat} {blocks : List Block} (hm : Sub 8796361457664 m) (hgood : Frm m s0 s) : Frm m s0 (State.emit s p blocks) := by
  unfold State.emit
  try dsimp only
  repeat' first
    | with_reducible assumption
    | with_reducible refine State.freeNext_frm (hm.le (by decide)) ?_
    | with_reducible refine State.setLink_frm (hm.le (by decide)) ?_
    | with_reducible refine frm_ite ?_ ?_
    | fail_if_no_progress with_reducible refine frm_mk ?_
    | split

theorem State.cutFrame_frm {p : Nat} (hm : Sub 8796898328576 m) (hgood : Frm m s0 s) : Frm m s0 (State.cutFrame s p) := by
  unfold State.cutFrame
  try dsimp only
  repeat' first
    | with_reducible assumption
    | with_reducible refine State.emit_frm (hm.le (by decide)) ?_
    | with_reducible refine State.take_frm (hm.le (by decide)) ?_
    | with_reducible refine frm_ite ?_ ?_
    | fail_if_no_progress with_reducible refine frm_mk ?_
    | split

theorem State.startNext_frm {p : Nat} (hm : Sub 301989904 m) (hgood : Frm m s0 s) : Frm m s0 (State.startNext s p) := by
  unfold State.startNext
  try dsimp only
  repeat' first
    | with_reducible assumption
    | with_reducible refine State.bump_frm (hm.le (by decide)) ?_
    | with_reducible refine State.setLink_frm (hm.le (by decide)) ?_
    | with_reducible refine State.stampReq_frm (hm.le (by decide)) ?_
    | with_reducible refine frm_ite ?_ ?_
    | fail_if_no_progress with_reducible refine frm_mk ?_
    | split

theorem State.txLost_frm {p : Nat} (hm : Sub 268435472 m) (hgood : Frm m s0 s) : Frm m s0 (State.txLost s p) := by
  unfold State.txLost
  try dsimp only
  repeat' first
    | with_reducible assumption
    | with_reducible refine State.bump_frm (hm.le (by decide)) ?_
    | with_reducible refine State.updLink_frm (hm.le (by decide)) ?_
    | with_reducible refine frm_ite ?_ ?_
    | fail_if_no_progress with_reducible refine frm_mk ?_
    | split

theorem State.enqueue_frm {p : Nat} {cls : TxClass} {body : TxBody} {tsReq : Bool} {tsId : BitVec 16} (hm : Sub 301989904 m) (hgood : Frm m s0 s) : Frm m s0 (State.enqueue s p cls body tsReq tsId) := by
  unfold State.enqueue
  try dsimp only
  repeat' first
    | with_reducible assumption
    | with_reducible refine State.startNext_frm (hm.le (by decide)) ?_
    | with_reducible refine State.updLink_frm (hm.le (by decide)) ?_
    | with_reducible refine frm_ite ?_ ?_
    | fail_if_no_progress with_reducible refine frm_mk ?_
    | split

theorem State.healthForm_frm (hm : Sub 8858370048 m) (hgood : Frm m s0 s) : Frm m s0 (State.healthForm s) := by
  unfold State.healthForm
  try dsimp only
  repeat' first
    | with_reducible assumption
    | with_reducible refine State.updLink_frm (hm.le (by decide)) ?_
    | with_reducible refine frm_ite ?_ ?_
    | fail_if_no_progress with_reducible refine frm_mk ?_
    | split

theorem State.tellLost_frm {p : Nat} (hm : Sub 8891924496 m) (hgood : Frm m s0 s) : Frm m s0 (State.tellLost s p) := by
  unfold State.tellLost
  try dsimp only
  repeat' first
    | with_reducible assumption
    | with_reducible refine State.enqueue_frm (hm.le (by decide)) ?_
    | with_reducible refine State.healthForm_frm (hm.le (by decide)) ?_
    | with_reducible refine frm_ite ?_ ?_
    | fail_if_no_progress with_reducible refine frm_mk ?_
    | split

theorem State.queueFrame_frm {p : Nat} {cls : TxClass} {body : TxBody} {tsReq : Bool} {tsId : BitVec 16} (hm : Sub 8891924496 m) (hgood : Frm m s0 s) : Frm m s0 (State.queueFrame s p cls body tsReq tsId) := by
  unfold State.queueFrame
  try dsimp only
  repeat' first
    | with_reducible assumption
    | with_reducible refine State.doIf_frm ?_ ?_
    | with_reducible refine State.enqueue_frm (hm.le (by decide)) ?_
    | with_reducible refine State.tellLost_frm (hm.le (by decide)) ?_
    | with_reducible refine State.txLost_frm (hm.le (by decide)) ?_
    | with_reducible refine frm_ite ?_ ?_
    | fail_if_no_progress with_reducible refine frm_mk ?_
    | split

theorem State.sendOn_frm {p : Nat} {cls : TxClass} {body : TxBody} (hm : Sub 8891924496 m) (hgood : Frm m s0 s) : Frm m s0 (State.sendOn s p cls body) := by
  unfold State.sendOn
  try dsimp only
  repeat' first
    | with_reducible assumption
    | with_reducible refine State.queueFrame_frm (hm.le (by decide)) ?_
    | with_reducible refine frm_ite ?_ ?_
    | fail_if_no_progress with_reducible refine frm_mk ?_
    | split

theorem State.sendHealth_frm (hm : Sub 8891924496 m) (hgood : Frm m s0 s) : Frm m s0 (State.sendHealth s) := by
  unfold State.sendHealth
  try dsimp only
  repeat' first
    | with_reducible assumption
    | with_reducible refine State.healthForm_frm (hm.le (by decide)) ?_
    | with_reducible refine State.sendOn_frm (hm.le (by decide)) ?_
    | with_reducible refine frm_ite ?_ ?_
    | fail_if_no_progress with_reducible refine frm_mk ?_
    | split

theorem feedGo_frm {f : Nat} (hm : Sub 13186891792 m) : ∀ {s : State}, Frm m s0 s → Frm m s0 (feedGo f s) := by
  induction f with
  | zero => intro s  h; exact h
  | succ f ih =>
    intro s  h
    unfold feedGo
    try dsimp only
    repeat' first
      | with_reducible assumption
      | with_reducible refine ih ?_
      | with_reducible refine State.sendOn_frm (hm.le (by decide)) ?_
      | with_reducible refine frm_ite ?_ ?_
      | fail_if_no_progress with_reducible refine frm_mk ?_
      | split

theorem State.feedData_frm (hm : Sub 13186891792 m) (hgood : Frm m s0 s) : Frm m s0 (State.feedData s) := by
  unfold State.feedData
  try dsimp only
  repeat' first
    | with_reducible assumption
    | with_reducible refine feedGo_frm (hm.le (by decide)) ?_
    | with_reducible refine frm_ite ?_ ?_
    | fail_if_no_progress with_reducible refine frm_mk ?_
    | split

theorem State.sendData_frm {records : List W32} (hm : Sub 13186891792 m) (hgood : Frm m s0 s) : Frm m s0 (State.sendData s records) := by
  unfold State.sendData
  try dsimp only
  repeat' first
    | with_reducible assumption
    | with_reducible refine State.feedData_frm (hm.le (by decide)) ?_
    | with_reducible refine frm_ite ?_ ?_
    | fail_if_no_progress with_reducible refine frm_mk ?_
    | split

theorem State.sendCtl_frm {p : Nat} {b : BitVec 64} (hm : Sub 8796361457664 m) (hgood : Frm m s0 s) : Frm m s0 (State.sendCtl s p b) := by
  unfold State.sendCtl
  try dsimp only
  repeat' first
    | with_reducible assumption
    | with_reducible refine State.emit_frm (hm.le (by decide)) ?_
    | with_reducible refine State.setLink_frm (hm.le (by decide)) ?_
    | with_reducible refine frm_ite ?_ ?_
    | fail_if_no_progress with_reducible refine frm_mk ?_
    | split

theorem State.rxAccept_frm {p : Nat} (hm : Sub 8796361457664 m) (hgood : Frm m s0 s) : Frm m s0 (State.rxAccept s p) := by
  unfold State.rxAccept
  try dsimp only
  repeat' first
    | with_reducible assumption
    | with_reducible refine State.sendCtl_frm (hm.le (by decide)) ?_
    | with_reducible refine State.setLink_frm (hm.le (by decide)) ?_
    | with_reducible refine frm_ite ?_ ?_
    | fail_if_no_progress with_reducible refine frm_mk ?_
    | split

theorem State.quadSet_frm (hm : Sub 274877906944 m) (hgood : Frm m s0 s) : Frm m s0 (State.quadSet s) := by
  unfold State.quadSet
  try dsimp only
  repeat' first
    | with_reducible assumption
    | with_reducible refine frm_ite ?_ ?_
    | fail_if_no_progress with_reducible refine frm_mk ?_
    | split

theorem State.flashBegin_frm (hm : Sub 274877906944 m) (hgood : Frm m s0 s) : Frm m s0 (State.flashBegin s) := by
  unfold State.flashBegin
  try dsimp only
  repeat' first
    | with_reducible assumption
    | with_reducible refine frm_ite ?_ ?_
    | fail_if_no_progress with_reducible refine frm_mk ?_
    | split

theorem State.audit_frm {kind : Nat} {inPlace : Option (List W32)} (hm : Sub 17716740096 m) (hgood : Frm m s0 s) : Frm m s0 (State.audit s kind inPlace) := by
  unfold State.audit
  try dsimp only
  repeat' first
    | with_reducible assumption
    | with_reducible refine State.take_frm (hm.le (by decide)) ?_
    | with_reducible refine frm_ite ?_ ?_
    | fail_if_no_progress with_reducible refine frm_mk ?_
    | split

theorem State.countEvent_frm (hm : Sub 34359738368 m) (hgood : Frm m s0 s) : Frm m s0 (State.countEvent s) := by
  unfold State.countEvent
  try dsimp only
  repeat' first
    | with_reducible assumption
    | with_reducible refine frm_ite ?_ ?_
    | fail_if_no_progress with_reducible refine frm_mk ?_
    | split

theorem State.auditEvent_frm {kind : Nat} {inPlace : Option (List W32)} (hm : Sub 52076478464 m) (hgood : Frm m s0 s) : Frm m s0 (State.auditEvent s kind inPlace) := by
  unfold State.auditEvent
  try dsimp only
  repeat' first
    | with_reducible assumption
    | with_reducible refine State.audit_frm (hm.le (by decide)) ?_
    | with_reducible refine State.countEvent_frm (hm.le (by decide)) ?_
    | with_reducible refine frm_ite ?_ ?_
    | fail_if_no_progress with_reducible refine frm_mk ?_
    | split

theorem State.sealWrite_frm {bank : Bank} (hm : Sub 17179869184 m) (hgood : Frm m s0 s) : Frm m s0 (State.sealWrite s bank) := by
  unfold State.sealWrite
  try dsimp only
  repeat' first
    | with_reducible assumption
    | with_reducible refine frm_ite ?_ ?_
    | fail_if_no_progress with_reducible refine frm_mk ?_
    | split

theorem State.unstage_frm {rollback : Bool} (hm : Sub 4831838208 m) (hgood : Frm m s0 s) : Frm m s0 (State.unstage s rollback) := by
  unfold State.unstage
  try dsimp only
  repeat' first
    | with_reducible assumption
    | with_reducible refine frm_ite ?_ ?_
    | fail_if_no_progress with_reducible refine frm_mk ?_
    | split

theorem State.sealTurn_frm {before : Bool} (hm : Sub 17716740096 m) (hgood : Frm m s0 s) : Frm m s0 (State.sealTurn s before) := by
  unfold State.sealTurn
  try dsimp only
  repeat' first
    | with_reducible assumption
    | with_reducible refine State.audit_frm (hm.le (by decide)) ?_
    | with_reducible refine frm_ite ?_ ?_
    | fail_if_no_progress with_reducible refine frm_mk ?_
    | split

theorem State.setInterval_frm {p : Nat} {i : Option Interval} (hm : Sub 17179869184 m) (hgood : Frm m s0 s) : Frm m s0 (State.setInterval s p i) := by
  unfold State.setInterval
  try dsimp only
  repeat' first
    | with_reducible assumption
    | with_reducible refine frm_ite ?_ ?_
    | fail_if_no_progress with_reducible refine frm_mk ?_
    | split

theorem State.vaultTaint_frm (hm : Sub 17179869184 m) (hgood : Frm m s0 s) : Frm m s0 (State.vaultTaint s) := by
  unfold State.vaultTaint
  try dsimp only
  repeat' first
    | with_reducible assumption
    | with_reducible refine State.each_frm ?_ (fun _ _ _ => ?_)
    | with_reducible refine State.setInterval_frm (hm.le (by decide)) ?_
    | with_reducible refine frm_ite ?_ ?_
    | fail_if_no_progress with_reducible refine frm_mk ?_
    | split

theorem State.inhibitCount_frm (hm : Sub 16 m) (hgood : Frm m s0 s) : Frm m s0 (State.inhibitCount s) := by
  unfold State.inhibitCount
  try dsimp only
  repeat' first
    | with_reducible assumption
    | with_reducible refine State.bump_frm (hm.le (by decide)) ?_
    | with_reducible refine frm_ite ?_ ?_
    | fail_if_no_progress with_reducible refine frm_mk ?_
    | split

theorem State.holdResult_frm {r : WeighSt} (hm : Sub 17179869200 m) (hgood : Frm m s0 s) : Frm m s0 (State.holdResult s r) := by
  unfold State.holdResult
  try dsimp only
  repeat' first
    | with_reducible assumption
    | with_reducible refine State.doIf_frm ?_ ?_
    | with_reducible refine State.inhibitCount_frm (hm.le (by decide)) ?_
    | with_reducible refine frm_ite ?_ ?_
    | fail_if_no_progress with_reducible refine frm_mk ?_
    | split

theorem State.weighed_frm {r : WeighSt} (hm : Sub 17179869200 m) (hgood : Frm m s0 s) : Frm m s0 (State.weighed s r) := by
  unfold State.weighed
  try dsimp only
  repeat' first
    | with_reducible assumption
    | with_reducible refine State.holdResult_frm (hm.le (by decide)) ?_
    | with_reducible refine frm_ite ?_ ?_
    | fail_if_no_progress with_reducible refine frm_mk ?_
    | split

theorem State.closeInterval_frm {p : Nat} {i : Interval} {tExit : Nat} {epoch : BitVec 16} {interrupted : Bool} {overlong : Bool} (hm : Sub 17179869200 m) (hgood : Frm m s0 s) : Frm m s0 (State.closeInterval s p i tExit epoch interrupted overlong) := by
  unfold State.closeInterval
  try dsimp only
  repeat' first
    | with_reducible assumption
    | with_reducible refine State.inhibitCount_frm (hm.le (by decide)) ?_
    | with_reducible refine State.setInterval_frm (hm.le (by decide)) ?_
    | with_reducible refine State.weighed_frm (hm.le (by decide)) ?_
    | with_reducible refine frm_ite ?_ ?_
    | fail_if_no_progress with_reducible refine frm_mk ?_
    | split

theorem State.interruptWeighing_frm {ps : List Nat} (hm : Sub 17179869200 m) (hgood : Frm m s0 s) : Frm m s0 (State.interruptWeighing s ps) := by
  unfold State.interruptWeighing
  try dsimp only
  repeat' first
    | with_reducible assumption
    | with_reducible refine State.closeInterval_frm (hm.le (by decide)) ?_
    | with_reducible refine State.each_frm ?_ (fun _ _ _ => ?_)
    | with_reducible refine frm_ite ?_ ?_
    | fail_if_no_progress with_reducible refine frm_mk ?_
    | split

theorem State.vaultHole_frm {g : Nat} (hm : Sub 17179869200 m) (hgood : Frm m s0 s) : Frm m s0 (State.vaultHole s g) := by
  unfold State.vaultHole
  try dsimp only
  repeat' first
    | with_reducible assumption
    | with_reducible refine State.interruptWeighing_frm (hm.le (by decide)) ?_
    | with_reducible refine frm_ite ?_ ?_
    | fail_if_no_progress with_reducible refine frm_mk ?_
    | split

theorem State.weigh_frm {p : Nat} {net : Int} {marked : Bool} {t : Nat} {epoch : BitVec 16} (hm : Sub 17179869200 m) (hgood : Frm m s0 s) : Frm m s0 (State.weigh s p net marked t epoch) := by
  unfold State.weigh
  try dsimp only
  repeat' first
    | with_reducible assumption
    | with_reducible refine State.closeInterval_frm (hm.le (by decide)) ?_
    | with_reducible refine State.setInterval_frm (hm.le (by decide)) ?_
    | with_reducible refine frm_ite ?_ ?_
    | fail_if_no_progress with_reducible refine frm_mk ?_
    | split

theorem State.vaultFrame_frm {g : Nat} {t : Nat} {epoch : BitVec 16} {outs : List (Nat × Nat × Int × Marks)} (hm : Sub 17179869200 m) (hgood : Frm m s0 s) : Frm m s0 (State.vaultFrame s g t epoch outs) := by
  unfold State.vaultFrame
  try dsimp only
  repeat' first
    | with_reducible assumption
    | with_reducible refine State.each_frm ?_ (fun _ _ _ => ?_)
    | with_reducible refine State.vaultTaint_frm (hm.le (by decide)) ?_
    | with_reducible refine State.weigh_frm (hm.le (by decide)) ?_
    | with_reducible refine frm_foldl _ (fun _ _ _ => ?_) ?_
    | with_reducible refine frm_ite ?_ ?_
    | fail_if_no_progress with_reducible refine frm_mk ?_
    | split

theorem State.vaultTake_frm {takeover : Bool} (hm : Sub 8417915934736 m) (hgood : Frm m s0 s) : Frm m s0 (State.vaultTake s takeover) := by
  unfold State.vaultTake
  try dsimp only
  repeat' first
    | with_reducible assumption
    | with_reducible refine frm_ite ?_ ?_
    | fail_if_no_progress with_reducible refine frm_mk ?_
    | split

theorem State.excClose_frm {m' : Nat} (hm : Sub 1099511627776 m) (hgood : Frm m s0 s) : Frm m s0 (State.excClose s m') := by
  unfold State.excClose
  try dsimp only
  repeat' first
    | with_reducible assumption
    | with_reducible refine State.endHandling_frm (hm.le (by decide)) ?_
    | with_reducible refine frm_ite ?_ ?_
    | fail_if_no_progress with_reducible refine frm_mk ?_
    | split

theorem State.excFault_frm {m' : Nat} {bit : Nat} (hm : Sub 1649804312592 m) (hgood : Frm m s0 s) : Frm m s0 (State.excFault s m' bit) := by
  unfold State.excFault
  try dsimp only
  repeat' first
    | with_reducible assumption
    | with_reducible refine State.raise_frm (hm.le (by decide)) ?_
    | with_reducible refine State.setBit_frm (hm.le (by decide)) ?_
    | with_reducible refine frm_ite ?_ ?_
    | fail_if_no_progress with_reducible refine frm_mk ?_
    | split

theorem State.retryFailed_frm {m' : Nat} (hm : Sub 16 m) (hgood : Frm m s0 s) : Frm m s0 (State.retryFailed s m') := by
  unfold State.retryFailed
  try dsimp only
  repeat' first
    | with_reducible assumption
    | with_reducible refine State.setReg_frm (hm.le (by decide)) ?_
    | with_reducible refine frm_ite ?_ ?_
    | fail_if_no_progress with_reducible refine frm_mk ?_
    | split

theorem State.toShort_frm {m' : Nat} (hm : Sub 1649804314640 m) (hgood : Frm m s0 s) : Frm m s0 (State.toShort s m') := by
  unfold State.toShort
  try dsimp only
  repeat' first
    | with_reducible assumption
    | with_reducible refine State.bump_frm (hm.le (by decide)) ?_
    | with_reducible refine State.doIf_frm ?_ ?_
    | with_reducible refine State.excFault_frm (hm.le (by decide)) ?_
    | with_reducible refine State.retryFailed_frm (hm.le (by decide)) ?_
    | with_reducible refine State.updExc_frm (hm.le (by decide)) ?_
    | with_reducible refine frm_ite ?_ ?_
    | fail_if_no_progress with_reducible refine frm_mk ?_
    | split

theorem State.toReversed_frm {m' : Nat} (hm : Sub 1649804314640 m) (hgood : Frm m s0 s) : Frm m s0 (State.toReversed s m') := by
  unfold State.toReversed
  try dsimp only
  repeat' first
    | with_reducible assumption
    | with_reducible refine State.doIf_frm ?_ ?_
    | with_reducible refine State.excFault_frm (hm.le (by decide)) ?_
    | with_reducible refine State.retryFailed_frm (hm.le (by decide)) ?_
    | with_reducible refine State.updExc_frm (hm.le (by decide)) ?_
    | with_reducible refine frm_ite ?_ ?_
    | fail_if_no_progress with_reducible refine frm_mk ?_
    | split

theorem State.goodPulse_frm {m' : Nat} (hm : Sub 1099511629840 m) (hgood : Frm m s0 s) : Frm m s0 (State.goodPulse s m') := by
  unfold State.goodPulse
  try dsimp only
  repeat' first
    | with_reducible assumption
    | with_reducible refine State.excClose_frm (hm.le (by decide)) ?_
    | with_reducible refine State.setReg_frm (hm.le (by decide)) ?_
    | with_reducible refine State.updExc_frm (hm.le (by decide)) ?_
    | with_reducible refine frm_ite ?_ ?_
    | fail_if_no_progress with_reducible refine frm_mk ?_
    | split

theorem State.pumpCheck_frm (hm : Sub 4096 m) (hgood : Frm m s0 s) : Frm m s0 (State.pumpCheck s) := by
  unfold State.pumpCheck
  try dsimp only
  repeat' first
    | with_reducible assumption
    | with_reducible refine frm_ite ?_ ?_
    | fail_if_no_progress with_reducible refine frm_mk ?_
    | split

theorem State.excStart_frm {m' : Nat} (hm : Sub 2048 m) (hgood : Frm m s0 s) : Frm m s0 (State.excStart s m') := by
  unfold State.excStart
  try dsimp only
  repeat' first
    | with_reducible assumption
    | with_reducible refine State.updExc_frm (hm.le (by decide)) ?_
    | with_reducible refine frm_ite ?_ ?_
    | fail_if_no_progress with_reducible refine frm_mk ?_
    | split

theorem State.excApply_frm {m' : Nat} {bad : Bool} {enabledAgain : Bool} (hm : Sub 2048 m) (hgood : Frm m s0 s) : Frm m s0 (State.excApply s m' bad enabledAgain) := by
  unfold State.excApply
  try dsimp only
  repeat' first
    | with_reducible assumption
    | with_reducible refine State.excStart_frm (hm.le (by decide)) ?_
    | with_reducible refine State.setExc_frm (hm.le (by decide)) ?_
    | with_reducible refine frm_ite ?_ ?_
    | fail_if_no_progress with_reducible refine frm_mk ?_
    | split

theorem State.excApplyAll_frm {bad : Bool} {writtenOn : List Nat} (hm : Sub 6144 m) (hgood : Frm m s0 s) : Frm m s0 (State.excApplyAll s bad writtenOn) := by
  unfold State.excApplyAll
  try dsimp only
  repeat' first
    | with_reducible assumption
    | with_reducible refine State.each_frm ?_ (fun _ _ _ => ?_)
    | with_reducible refine State.excApply_frm (hm.le (by decide)) ?_
    | with_reducible refine State.pumpCheck_frm (hm.le (by decide)) ?_
    | with_reducible refine frm_ite ?_ ?_
    | fail_if_no_progress with_reducible refine frm_mk ?_
    | split

theorem State.excSeize_frm (hm : Sub 2048 m) (hgood : Frm m s0 s) : Frm m s0 (State.excSeize s) := by
  unfold State.excSeize
  try dsimp only
  repeat' first
    | with_reducible assumption
    | with_reducible refine State.each_frm ?_ (fun _ _ _ => ?_)
    | with_reducible refine State.updExc_frm (hm.le (by decide)) ?_
    | with_reducible refine frm_ite ?_ ?_
    | fail_if_no_progress with_reducible refine frm_mk ?_
    | split

theorem State.excUnseize_frm (hm : Sub 2048 m) (hgood : Frm m s0 s) : Frm m s0 (State.excUnseize s) := by
  unfold State.excUnseize
  try dsimp only
  repeat' first
    | with_reducible assumption
    | with_reducible refine State.each_frm ?_ (fun _ _ _ => ?_)
    | with_reducible refine State.updExc_frm (hm.le (by decide)) ?_
    | with_reducible refine frm_ite ?_ ?_
    | fail_if_no_progress with_reducible refine frm_mk ?_
    | split

theorem State.standbyEnd_frm {m' : Nat} (hm : Sub 2048 m) (hgood : Frm m s0 s) : Frm m s0 (State.standbyEnd s m') := by
  unfold State.standbyEnd
  try dsimp only
  repeat' first
    | with_reducible assumption
    | with_reducible refine State.excApply_frm (hm.le (by decide)) ?_
    | with_reducible refine frm_ite ?_ ?_
    | fail_if_no_progress with_reducible refine frm_mk ?_
    | split

theorem State.endPulses_frm (hm : Sub 2048 m) (hgood : Frm m s0 s) : Frm m s0 (State.endPulses s) := by
  unfold State.endPulses
  try dsimp only
  repeat' first
    | with_reducible assumption
    | with_reducible refine State.each_frm ?_ (fun _ _ _ => ?_)
    | with_reducible refine State.standbyEnd_frm (hm.le (by decide)) ?_
    | with_reducible refine State.updExc_frm (hm.le (by decide)) ?_
    | with_reducible refine frm_ite ?_ ?_
    | fail_if_no_progress with_reducible refine frm_mk ?_
    | split

theorem State.openCheck_frm {m' : Nat} {ua : Nat} (hm : Sub 1649804314640 m) (hgood : Frm m s0 s) : Frm m s0 (State.openCheck s m' ua) := by
  unfold State.openCheck
  try dsimp only
  repeat' first
    | with_reducible assumption
    | with_reducible refine State.excClose_frm (hm.le (by decide)) ?_
    | with_reducible refine State.excFault_frm (hm.le (by decide)) ?_
    | with_reducible refine State.setExc_frm (hm.le (by decide)) ?_
    | with_reducible refine frm_ite ?_ ?_
    | fail_if_no_progress with_reducible refine frm_mk ?_
    | split

theorem State.excAtEdge_frm {m' : Nat} {e : EdgeSample} {sagged : Bool} {ownSag : Bool} (hm : Sub 8246874081296 m) (hgood : Frm m s0 s) : Frm m s0 (State.excAtEdge s m' e sagged ownSag) := by
  unfold State.excAtEdge
  try dsimp only
  repeat' first
    | with_reducible assumption
    | with_reducible refine State.doIf_frm ?_ ?_
    | with_reducible refine State.openCheck_frm (hm.le (by decide)) ?_
    | with_reducible refine State.setBit_frm (hm.le (by decide)) ?_
    | with_reducible refine State.setExc_frm (hm.le (by decide)) ?_
    | with_reducible refine State.toShort_frm (hm.le (by decide)) ?_
    | with_reducible refine State.underInj_frm (hm.le (by decide)) ?_ (fun _ _ => ?_)
    | with_reducible refine State.useInj_frm (hm.le (by decide)) ?_
    | with_reducible refine frm_ite ?_ ?_
    | fail_if_no_progress with_reducible refine frm_mk ?_
    | split

theorem State.excEdge_frm {g : Nat} {e : EdgeSample} (hm : Sub 8246874085392 m) (hgood : Frm m s0 s) : Frm m s0 (State.excEdge s g e) := by
  unfold State.excEdge
  try dsimp only
  repeat' first
    | with_reducible assumption
    | with_reducible refine State.bump_frm (hm.le (by decide)) ?_
    | with_reducible refine State.doIf_frm ?_ ?_
    | with_reducible refine State.each_frm ?_ (fun _ _ _ => ?_)
    | with_reducible refine State.excAtEdge_frm (hm.le (by decide)) ?_
    | with_reducible refine frm_ite ?_ ?_
    | fail_if_no_progress with_reducible refine frm_mk ?_
    | split

theorem State.excCut_frm {g : Nat} {acceptUp : Nat} {edgeUp : Nat} (hm : Sub 2048 m) (hgood : Frm m s0 s) : Frm m s0 (State.excCut s g acceptUp edgeUp) := by
  unfold State.excCut
  try dsimp only
  repeat' first
    | with_reducible assumption
    | with_reducible refine State.each_frm ?_ (fun _ _ _ => ?_)
    | with_reducible refine State.updExc_frm (hm.le (by decide)) ?_
    | with_reducible refine frm_ite ?_ ?_
    | fail_if_no_progress with_reducible refine frm_mk ?_
    | split

theorem State.startPulse_frm {m' : Nat} {k : Nat} (hm : Sub 1649804314640 m) (hgood : Frm m s0 s) : Frm m s0 (State.startPulse s m' k) := by
  unfold State.startPulse
  try dsimp only
  repeat' first
    | with_reducible assumption
    | with_reducible refine State.bump_frm (hm.le (by decide)) ?_
    | with_reducible refine State.raise_frm (hm.le (by decide)) ?_
    | with_reducible refine State.setBit_frm (hm.le (by decide)) ?_
    | with_reducible refine State.updExc_frm (hm.le (by decide)) ?_
    | with_reducible refine frm_ite ?_ ?_
    | fail_if_no_progress with_reducible refine frm_mk ?_
    | split

theorem execPolarityCheck_frm {m' : Fin 32} {senseUv : Int} (hm : Sub 8246874081297 m) (hgood : Frm m s0 s) : OutFrm m s0 (execPolarityCheck m' senseUv s) := by
  unfold execPolarityCheck
  try dsimp only
  repeat' first
    | with_reducible assumption
    | with_reducible refine outFrm_next ?_
    | with_reducible refine outFrm_ite ?_ ?_
    | with_reducible refine State.doIf_frm ?_ ?_
    | with_reducible refine State.reachUp_frm (hm.le (by decide)) ?_
    | with_reducible refine State.toReversed_frm (hm.le (by decide)) ?_
    | with_reducible refine State.underInj_frm (hm.le (by decide)) ?_ (fun _ _ => ?_)
    | with_reducible refine State.useInj_frm (hm.le (by decide)) ?_
    | with_reducible refine frm_ite ?_ ?_
    | fail_if_no_progress with_reducible refine frm_mk ?_
    | split

theorem execInrushEnd_frm {m' : Fin 32} (hm : Sub 2049 m) (hgood : Frm m s0 s) : OutFrm m s0 (execInrushEnd m' s) := by
  unfold execInrushEnd
  try dsimp only
  repeat' first
    | with_reducible assumption
    | with_reducible refine outFrm_next ?_
    | with_reducible refine outFrm_ite ?_ ?_
    | with_reducible refine State.reachUp_frm (hm.le (by decide)) ?_
    | with_reducible refine State.updExc_frm (hm.le (by decide)) ?_
    | with_reducible refine frm_ite ?_ ?_
    | fail_if_no_progress with_reducible refine frm_mk ?_
    | split

theorem execPulseEnd_frm {m' : Fin 32} {limited : Bool} (hm : Sub 8246874081297 m) (hgood : Frm m s0 s) : OutFrm m s0 (execPulseEnd m' limited s) := by
  unfold execPulseEnd
  try dsimp only
  repeat' first
    | with_reducible assumption
    | with_reducible refine outFrm_next ?_
    | with_reducible refine outFrm_ite ?_ ?_
    | with_reducible refine State.doIf_frm ?_ ?_
    | with_reducible refine State.goodPulse_frm (hm.le (by decide)) ?_
    | with_reducible refine State.reachUp_frm (hm.le (by decide)) ?_
    | with_reducible refine State.standbyEnd_frm (hm.le (by decide)) ?_
    | with_reducible refine State.toShort_frm (hm.le (by decide)) ?_
    | with_reducible refine State.underInj_frm (hm.le (by decide)) ?_ (fun _ _ => ?_)
    | with_reducible refine State.useInj_frm (hm.le (by decide)) ?_
    | with_reducible refine frm_ite ?_ ?_
    | fail_if_no_progress with_reducible refine frm_mk ?_
    | split

theorem execShortDetect_frm {m' : Fin 32} (hm : Sub 1649804314640 m) (hgood : Frm m s0 s) : OutFrm m s0 (execShortDetect m' s) := by
  unfold execShortDetect
  try dsimp only
  repeat' first
    | with_reducible assumption
    | with_reducible refine outFrm_next ?_
    | with_reducible refine outFrm_ite ?_ ?_
    | with_reducible refine State.standbyEnd_frm (hm.le (by decide)) ?_
    | with_reducible refine State.toShort_frm (hm.le (by decide)) ?_
    | with_reducible refine frm_ite ?_ ?_
    | fail_if_no_progress with_reducible refine frm_mk ?_
    | split

theorem execRetryElapsed_frm {m' : Fin 32} (hm : Sub 2049 m) (hgood : Frm m s0 s) : OutFrm m s0 (execRetryElapsed m' s) := by
  unfold execRetryElapsed
  try dsimp only
  repeat' first
    | with_reducible assumption
    | with_reducible refine outFrm_next ?_
    | with_reducible refine outFrm_ite ?_ ?_
    | with_reducible refine State.reachUp_frm (hm.le (by decide)) ?_
    | with_reducible refine State.setExc_frm (hm.le (by decide)) ?_
    | with_reducible refine frm_ite ?_ ?_
    | fail_if_no_progress with_reducible refine frm_mk ?_
    | split

theorem execOpenSenseTestEnd_frm {m' : Fin 32} {ran : Bool} {shiftPUv : Nat} {shiftNUv : Nat} (hm : Sub 8246874081296 m) (hgood : Frm m s0 s) : OutFrm m s0 (execOpenSenseTestEnd m' ran shiftPUv shiftNUv s) := by
  unfold execOpenSenseTestEnd
  try dsimp only
  repeat' first
    | with_reducible assumption
    | with_reducible refine outFrm_next ?_
    | with_reducible refine outFrm_ite ?_ ?_
    | with_reducible refine State.doIf_frm ?_ ?_
    | with_reducible refine State.excClose_frm (hm.le (by decide)) ?_
    | with_reducible refine State.excFault_frm (hm.le (by decide)) ?_
    | with_reducible refine State.setExc_frm (hm.le (by decide)) ?_
    | with_reducible refine State.underInj_frm (hm.le (by decide)) ?_ (fun _ _ => ?_)
    | with_reducible refine State.useInj_frm (hm.le (by decide)) ?_
    | with_reducible refine frm_ite ?_ ?_
    | fail_if_no_progress with_reducible refine frm_mk ?_
    | split

theorem execPumpReady_frm (hm : Sub 6144 m) (hgood : Frm m s0 s) : OutFrm m s0 (execPumpReady s) := by
  unfold execPumpReady
  try dsimp only
  repeat' first
    | with_reducible assumption
    | with_reducible refine outFrm_next ?_
    | with_reducible refine outFrm_ite ?_ ?_
    | with_reducible refine State.each_frm ?_ (fun _ _ _ => ?_)
    | with_reducible refine State.updExc_frm (hm.le (by decide)) ?_
    | with_reducible refine frm_ite ?_ ?_
    | fail_if_no_progress with_reducible refine frm_mk ?_
    | split

theorem execPumpSagTimeout_frm (hm : Sub 6047850825745 m) (hgood : Frm m s0 s) : OutFrm m s0 (execPumpSagTimeout s) := by
  unfold execPumpSagTimeout
  try dsimp only
  repeat' first
    | with_reducible assumption
    | with_reducible refine outFrm_next ?_
    | with_reducible refine outFrm_ite ?_ ?_
    | with_reducible refine State.endPulses_frm (hm.le (by decide)) ?_
    | with_reducible refine State.raise_frm (hm.le (by decide)) ?_
    | with_reducible refine State.reachUp_frm (hm.le (by decide)) ?_
    | with_reducible refine State.underInj_frm (hm.le (by decide)) ?_ (fun _ _ => ?_)
    | with_reducible refine frm_ite ?_ ?_
    | fail_if_no_progress with_reducible refine frm_mk ?_
    | split

theorem State.rearm_frm {m' : Nat} {bit : Nat} {from_ : ExcMode} (hm : Sub 2064 m) (hgood : Frm m s0 s) : Frm m s0 (State.rearm s m' bit from_) := by
  unfold State.rearm
  try dsimp only
  repeat' first
    | with_reducible assumption
    | with_reducible refine State.clrBit_frm (hm.le (by decide)) ?_
    | with_reducible refine State.updExc_frm (hm.le (by decide)) ?_
    | with_reducible refine frm_ite ?_ ?_
    | fail_if_no_progress with_reducible refine frm_mk ?_
    | split

theorem execShortSeenRearm_frm {m' : Fin 32} (hm : Sub 2064 m) (hgood : Frm m s0 s) : OutFrm m s0 (execShortSeenRearm m' s) := by
  unfold execShortSeenRearm
  try dsimp only
  repeat' first
    | with_reducible assumption
    | with_reducible refine outFrm_next ?_
    | with_reducible refine outFrm_ite ?_ ?_
    | with_reducible refine State.rearm_frm (hm.le (by decide)) ?_
    | with_reducible refine frm_ite ?_ ?_
    | fail_if_no_progress with_reducible refine frm_mk ?_
    | split

theorem execReversedSeenRearm_frm {m' : Fin 32} (hm : Sub 2064 m) (hgood : Frm m s0 s) : OutFrm m s0 (execReversedSeenRearm m' s) := by
  unfold execReversedSeenRearm
  try dsimp only
  repeat' first
    | with_reducible assumption
    | with_reducible refine outFrm_next ?_
    | with_reducible refine outFrm_ite ?_ ?_
    | with_reducible refine State.rearm_frm (hm.le (by decide)) ?_
    | with_reducible refine frm_ite ?_ ?_
    | fail_if_no_progress with_reducible refine frm_mk ?_
    | split

theorem State.ainFault_frm {cls : Nat} {reg : Nat} {i : Nat} (hm : Sub 1649804312592 m) (hgood : Frm m s0 s) : Frm m s0 (State.ainFault s cls reg i) := by
  unfold State.ainFault
  try dsimp only
  repeat' first
    | with_reducible assumption
    | with_reducible refine State.raise_frm (hm.le (by decide)) ?_
    | with_reducible refine frm_ite ?_ ?_
    | fail_if_no_progress with_reducible refine frm_mk ?_
    | split

theorem execProtectionOpen_frm {i : Fin 512} {positive : Bool} (hm : Sub 1649804313616 m) (hgood : Frm m s0 s) : OutFrm m s0 (execProtectionOpen i positive s) := by
  unfold execProtectionOpen
  try dsimp only
  repeat' first
    | with_reducible assumption
    | with_reducible refine outFrm_next ?_
    | with_reducible refine outFrm_ite ?_ ?_
    | with_reducible refine State.ainFault_frm (hm.le (by decide)) ?_
    | with_reducible refine State.setAin_frm (hm.le (by decide)) ?_
    | with_reducible refine frm_ite ?_ ?_
    | fail_if_no_progress with_reducible refine frm_mk ?_
    | split

theorem execProtectionClose_frm {i : Fin 512} (hm : Sub 1099511628800 m) (hgood : Frm m s0 s) : OutFrm m s0 (execProtectionClose i s) := by
  unfold execProtectionClose
  try dsimp only
  repeat' first
    | with_reducible assumption
    | with_reducible refine outFrm_next ?_
    | with_reducible refine outFrm_ite ?_ ?_
    | with_reducible refine State.endHandling_frm (hm.le (by decide)) ?_
    | with_reducible refine State.updAin_frm (hm.le (by decide)) ?_
    | with_reducible refine frm_ite ?_ ?_
    | fail_if_no_progress with_reducible refine frm_mk ?_
    | split

theorem State.ainAtEdge_frm {i : Nat} {e : EdgeSample} (hm : Sub 8246874080272 m) (hgood : Frm m s0 s) : Frm m s0 (State.ainAtEdge s i e) := by
  unfold State.ainAtEdge
  try dsimp only
  repeat' first
    | with_reducible assumption
    | with_reducible refine State.ainFault_frm (hm.le (by decide)) ?_
    | with_reducible refine State.doIf_frm ?_ ?_
    | with_reducible refine State.endHandling_frm (hm.le (by decide)) ?_
    | with_reducible refine State.setAin_frm (hm.le (by decide)) ?_
    | with_reducible refine State.underInj_frm (hm.le (by decide)) ?_ (fun _ _ => ?_)
    | with_reducible refine State.useInj_frm (hm.le (by decide)) ?_
    | with_reducible refine frm_ite ?_ ?_
    | fail_if_no_progress with_reducible refine frm_mk ?_
    | split

theorem State.ainEdge_frm {g : Nat} {e : EdgeSample} (hm : Sub 8246874080272 m) (hgood : Frm m s0 s) : Frm m s0 (State.ainEdge s g e) := by
  unfold State.ainEdge
  try dsimp only
  repeat' first
    | with_reducible assumption
    | with_reducible refine State.ainAtEdge_frm (hm.le (by decide)) ?_
    | with_reducible refine State.each_frm ?_ (fun _ _ _ => ?_)
    | with_reducible refine frm_ite ?_ ?_
    | fail_if_no_progress with_reducible refine frm_mk ?_
    | split

theorem State.reversal_frm {i : Nat} {q : Int} (hm : Sub 1649804313616 m) (hgood : Frm m s0 s) : Frm m s0 (State.reversal s i q) := by
  unfold State.reversal
  try dsimp only
  repeat' first
    | with_reducible assumption
    | with_reducible refine State.ainFault_frm (hm.le (by decide)) ?_
    | with_reducible refine State.setAin_frm (hm.le (by decide)) ?_
    | with_reducible refine frm_ite ?_ ?_
    | fail_if_no_progress with_reducible refine frm_mk ?_
    | split

theorem execOwTestStart_frm (hm : Sub 4096 m) (hgood : Frm m s0 s) : OutFrm m s0 (execOwTestStart s) := by
  unfold execOwTestStart
  try dsimp only
  repeat' first
    | with_reducible assumption
    | with_reducible refine outFrm_next ?_
    | with_reducible refine outFrm_ite ?_ ?_
    | with_reducible refine frm_ite ?_ ?_
    | fail_if_no_progress with_reducible refine frm_mk ?_
    | split

theorem State.owResult_frm {moved : List Nat} (hm : Sub 16 m) (hgood : Frm m s0 s) : Frm m s0 (State.owResult s moved) := by
  unfold State.owResult
  try dsimp only
  repeat' first
    | with_reducible assumption
    | with_reducible refine State.each_frm ?_ (fun _ _ _ => ?_)
    | with_reducible refine State.setReg_frm (hm.le (by decide)) ?_
    | with_reducible refine frm_ite ?_ ?_
    | fail_if_no_progress with_reducible refine frm_mk ?_
    | split

theorem execOwTestEnd_frm {moved : List Nat} (hm : Sub 4113 m) (hgood : Frm m s0 s) : OutFrm m s0 (execOwTestEnd moved s) := by
  unfold execOwTestEnd
  try dsimp only
  repeat' first
    | with_reducible assumption
    | with_reducible refine outFrm_next ?_
    | with_reducible refine outFrm_ite ?_ ?_
    | with_reducible refine State.owResult_frm (hm.le (by decide)) ?_
    | with_reducible refine State.reachUp_frm (hm.le (by decide)) ?_
    | with_reducible refine frm_ite ?_ ?_
    | fail_if_no_progress with_reducible refine frm_mk ?_
    | split

theorem State.coreClose_frm {n : Nat} (hm : Sub 1099511627776 m) (hgood : Frm m s0 s) : Frm m s0 (State.coreClose s n) := by
  unfold State.coreClose
  try dsimp only
  repeat' first
    | with_reducible assumption
    | with_reducible refine State.endHandling_frm (hm.le (by decide)) ?_
    | with_reducible refine frm_ite ?_ ?_
    | fail_if_no_progress with_reducible refine frm_mk ?_
    | split

theorem State.coreJudge_frm {n : Nat} {get : CoreSt → CheckSt} {put : CoreSt → CheckSt → CoreSt} {bit cls nFail nPass : Nat} {fail pass : Bool} (hm : Sub 144 m) (hgood : Frm m s0 s) :
    Frm m s0 (s.coreJudge n get put bit cls nFail nPass fail pass).1 := by
  unfold State.coreJudge
  dsimp only
  refine State.doIf_frm (State.updCore_frm (hm.le (by decide)) hgood) ?_
  exact State.setBit_frm (hm.le (by decide)) (State.updCore_frm (hm.le (by decide)) hgood)

theorem State.coreReport_frm {n : Nat} {old : CoreSt} {left : Bool} {es : List ErrIn} (hm : Sub 1649804312592 m) (hgood : Frm m s0 s) : Frm m s0 (State.coreReport s n old left es) := by
  unfold State.coreReport
  try dsimp only
  repeat' first
    | with_reducible assumption
    | with_reducible refine State.doIf_frm ?_ ?_
    | with_reducible refine State.endHandling_frm (hm.le (by decide)) ?_
    | with_reducible refine State.raiseAll_frm (hm.le (by decide)) ?_
    | with_reducible refine frm_ite ?_ ?_
    | fail_if_no_progress with_reducible refine frm_mk ?_
    | split

theorem State.coreCheck_frm {n : Nat} {get : CoreSt → CheckSt} {put : CoreSt → CheckSt → CoreSt} {bit : Nat} {cls : Nat} {nFail : Nat} {nPass : Nat} {fail : Bool} {pass : Bool} (hm : Sub 1649804312720 m) (hgood : Frm m s0 s) : Frm m s0 (State.coreCheck s n get put bit cls nFail nPass fail pass) := by
  unfold State.coreCheck
  try dsimp only
  repeat' first
    | with_reducible assumption
    | with_reducible refine State.coreJudge_frm (hm.le (by decide)) ?_
    | with_reducible refine State.coreReport_frm (hm.le (by decide)) ?_
    | with_reducible refine frm_ite ?_ ?_
    | fail_if_no_progress with_reducible refine frm_mk ?_
    | split

theorem State.refCheck_frm {n : Nat} {code : Int} (hm : Sub 1649804312720 m) (hgood : Frm m s0 s) : Frm m s0 (State.refCheck s n code) := by
  unfold State.refCheck
  try dsimp only
  repeat' first
    | with_reducible assumption
    | with_reducible refine State.coreCheck_frm (hm.le (by decide)) ?_
    | with_reducible refine State.setReg_frm (hm.le (by decide)) ?_
    | with_reducible refine frm_ite ?_ ?_
    | fail_if_no_progress with_reducible refine frm_mk ?_
    | split

theorem State.supplyCheck_frm {n : Nat} {code : Int} (hm : Sub 1649804312720 m) (hgood : Frm m s0 s) : Frm m s0 (State.supplyCheck s n code) := by
  unfold State.supplyCheck
  try dsimp only
  repeat' first
    | with_reducible assumption
    | with_reducible refine State.coreCheck_frm (hm.le (by decide)) ?_
    | with_reducible refine State.setReg_frm (hm.le (by decide)) ?_
    | with_reducible refine frm_ite ?_ ?_
    | fail_if_no_progress with_reducible refine frm_mk ?_
    | split

theorem State.tempCheck_frm {n : Nat} {code : Int} (hm : Sub 1649804312720 m) (hgood : Frm m s0 s) : Frm m s0 (State.tempCheck s n code) := by
  unfold State.tempCheck
  try dsimp only
  repeat' first
    | with_reducible assumption
    | with_reducible refine State.coreJudge_frm (hm.le (by decide)) ?_
    | with_reducible refine State.coreReport_frm (hm.le (by decide)) ?_
    | with_reducible refine State.setReg_frm (hm.le (by decide)) ?_
    | with_reducible refine State.updCore_frm (hm.le (by decide)) ?_
    | with_reducible refine frm_ite ?_ ?_
    | fail_if_no_progress with_reducible refine frm_mk ?_
    | split

theorem State.crossCheck_frm {n : Nat} {diff : Int} (hm : Sub 1649804312976 m) (hgood : Frm m s0 s) : Frm m s0 (State.crossCheck s n diff) := by
  unfold State.crossCheck
  try dsimp only
  repeat' first
    | with_reducible assumption
    | with_reducible refine State.bump_frm (hm.le (by decide)) ?_
    | with_reducible refine State.coreClose_frm (hm.le (by decide)) ?_
    | with_reducible refine State.doIf_frm ?_ ?_
    | with_reducible refine State.raise_frm (hm.le (by decide)) ?_
    | with_reducible refine State.setBit_frm (hm.le (by decide)) ?_
    | with_reducible refine State.setCore_frm (hm.le (by decide)) ?_
    | with_reducible refine State.setPair_frm (hm.le (by decide)) ?_
    | with_reducible refine State.setReg_frm (hm.le (by decide)) ?_
    | with_reducible refine frm_ite ?_ ?_
    | fail_if_no_progress with_reducible refine frm_mk ?_
    | split

theorem State.tryCross_frm {n : Nat} (hm : Sub 1649804312976 m) (hgood : Frm m s0 s) : Frm m s0 (State.tryCross s n) := by
  unfold State.tryCross
  try dsimp only
  repeat' first
    | with_reducible assumption
    | with_reducible refine State.crossCheck_frm (hm.le (by decide)) ?_
    | with_reducible refine frm_ite ?_ ?_
    | fail_if_no_progress with_reducible refine frm_mk ?_
    | split

theorem State.timedOut_frm {n : Nat} {injected : Bool} (hm : Sub 6047850823696 m) (hgood : Frm m s0 s) : Frm m s0 (State.timedOut s n injected) := by
  unfold State.timedOut
  try dsimp only
  repeat' first
    | with_reducible assumption
    | with_reducible refine State.bump_frm (hm.le (by decide)) ?_
    | with_reducible refine State.setBitRaise_frm (hm.le (by decide)) ?_
    | with_reducible refine State.underInj_frm (hm.le (by decide)) ?_ (fun _ _ => ?_)
    | with_reducible refine frm_ite ?_ ?_
    | fail_if_no_progress with_reducible refine frm_mk ?_
    | split

theorem State.inputDone_frm {n : Nat} {slot : Nat} {k : Nat} {d : BitVec 22} {done : Bool} (hm : Sub 1649804313488 m) (hgood : Frm m s0 s) : Frm m s0 (State.inputDone s n slot k d done) := by
  unfold State.inputDone
  try dsimp only
  repeat' first
    | with_reducible assumption
    | with_reducible refine State.setRes_frm (hm.le (by decide)) ?_
    | with_reducible refine State.tryCross_frm (hm.le (by decide)) ?_
    | with_reducible refine frm_ite ?_ ?_
    | fail_if_no_progress with_reducible refine frm_mk ?_
    | split

theorem State.checkDone_frm {n : Nat} {slot : Nat} {d : BitVec 22} {done : Bool} (hm : Sub 8246874079632 m) (hgood : Frm m s0 s) : Frm m s0 (State.checkDone s n slot d done) := by
  unfold State.checkDone
  try dsimp only
  repeat' first
    | with_reducible assumption
    | with_reducible refine State.doIf_frm ?_ ?_
    | with_reducible refine State.refCheck_frm (hm.le (by decide)) ?_
    | with_reducible refine State.supplyCheck_frm (hm.le (by decide)) ?_
    | with_reducible refine State.tempCheck_frm (hm.le (by decide)) ?_
    | with_reducible refine State.tryCross_frm (hm.le (by decide)) ?_
    | with_reducible refine State.underInj_frm (hm.le (by decide)) ?_ (fun _ _ => ?_)
    | with_reducible refine State.updCore_frm (hm.le (by decide)) ?_
    | with_reducible refine State.useInj_frm (hm.le (by decide)) ?_
    | with_reducible refine frm_ite ?_ ?_
    | fail_if_no_progress with_reducible refine frm_mk ?_
    | split

theorem State.convert_frm {n : Nat} {slot : Nat} {k : Nat} {d : BitVec 22} {completed : Bool} {injected : Bool} (hm : Sub 8246874080144 m) (hgood : Frm m s0 s) : Frm m s0 (State.convert s n slot k d completed injected) := by
  unfold State.convert
  try dsimp only
  repeat' first
    | with_reducible assumption
    | with_reducible refine State.checkDone_frm (hm.le (by decide)) ?_
    | with_reducible refine State.doIf_frm ?_ ?_
    | with_reducible refine State.inputDone_frm (hm.le (by decide)) ?_
    | with_reducible refine State.timedOut_frm (hm.le (by decide)) ?_
    | with_reducible refine frm_ite ?_ ?_
    | fail_if_no_progress with_reducible refine frm_mk ?_
    | split

theorem execConversionDone_frm {n : Fin 64} {slot : Fin 12} {noise : Nat} {completed : Bool} (hm : Sub 8246874080145 m) (hgood : Frm m s0 s) : OutFrm m s0 (execConversionDone n slot noise completed s) := by
  unfold execConversionDone
  try dsimp only
  repeat' first
    | with_reducible assumption
    | with_reducible refine outFrm_next ?_
    | with_reducible refine outFrm_ite ?_ ?_
    | with_reducible refine State.convert_frm (hm.le (by decide)) ?_
    | with_reducible refine State.doIf_frm ?_ ?_
    | with_reducible refine State.reachUp_frm (hm.le (by decide)) ?_
    | with_reducible refine State.updCore_frm (hm.le (by decide)) ?_
    | with_reducible refine State.useInj_frm (hm.le (by decide)) ?_
    | with_reducible refine frm_ite ?_ ?_
    | fail_if_no_progress with_reducible refine frm_mk ?_
    | split

theorem State.finishScan_frm {f : FrameSt} {n : Nat} (hm : Sub 8246874080144 m) (hgood : Frm m s0 s) : Frm m s0 (State.finishScan s f n) := by
  unfold State.finishScan
  try dsimp only
  repeat' first
    | with_reducible assumption
    | with_reducible refine State.convert_frm (hm.le (by decide)) ?_
    | with_reducible refine State.each_frm ?_ (fun _ _ _ => ?_)
    | with_reducible refine frm_ite ?_ ?_
    | fail_if_no_progress with_reducible refine frm_mk ?_
    | split

theorem State.chainFrom_frm {i k : Nat} {f : Nat} (hm : Sub 8208 m) : ∀ {s : State} {st : Nat} {x : Int × Marks}, Frm m s0 s → Frm m s0 (State.chainFrom s i k f st x).1 := by
  induction f with
  | zero => intro s st x h; exact h
  | succ f ih =>
    intro s st x h
    unfold State.chainFrom
    dsimp only
    split
    · exact State.setFlt_frm (hm.le (by decide)) h
    · exact ih (State.doIf_frm (State.setFlt_frm (hm.le (by decide)) h) (State.bump_frm (hm.le (by decide)) (State.setFlt_frm (hm.le (by decide)) h)))

theorem State.chainRun_frm {i k : Nat} {x : Int × Marks} (hm : Sub 8208 m) (hgood : Frm m s0 s) : Frm m s0 (s.chainRun i k x).1 := State.chainFrom_frm (hm.le (by decide)) hgood

theorem State.chainReset_frm {i : Nat} (hm : Sub 8192 m) (hgood : Frm m s0 s) : Frm m s0 (State.chainReset s i) := by
  unfold State.chainReset
  try dsimp only
  repeat' first
    | with_reducible assumption
    | with_reducible refine State.each_frm ?_ (fun _ _ _ => ?_)
    | with_reducible refine State.setFlt_frm (hm.le (by decide)) ?_
    | with_reducible refine frm_ite ?_ ?_
    | fail_if_no_progress with_reducible refine frm_mk ?_
    | split

theorem State.mainsDeliver_frm {m' : Option Tq} {completed : Bool} (hm : Sub 16400 m) (hgood : Frm m s0 s) : Frm m s0 (State.mainsDeliver s m' completed) := by
  unfold State.mainsDeliver
  try dsimp only
  repeat' first
    | with_reducible assumption
    | with_reducible refine State.doIf_frm ?_ ?_
    | with_reducible refine State.setBit_frm (hm.le (by decide)) ?_
    | with_reducible refine frm_ite ?_ ?_
    | fail_if_no_progress with_reducible refine frm_mk ?_
    | split

theorem State.mainsInvalid_frm {completed : Bool} (hm : Sub 16400 m) (hgood : Frm m s0 s) : Frm m s0 (State.mainsInvalid s completed) := by
  unfold State.mainsInvalid
  try dsimp only
  repeat' first
    | with_reducible assumption
    | with_reducible refine State.bump_frm (hm.le (by decide)) ?_
    | with_reducible refine State.mainsDeliver_frm (hm.le (by decide)) ?_
    | with_reducible refine frm_ite ?_ ?_
    | fail_if_no_progress with_reducible refine frm_mk ?_
    | split

theorem State.mainsHole_frm {g : Nat} (hm : Sub 16400 m) (hgood : Frm m s0 s) : Frm m s0 (State.mainsHole s g) := by
  unfold State.mainsHole
  try dsimp only
  repeat' first
    | with_reducible assumption
    | with_reducible refine State.mainsInvalid_frm (hm.le (by decide)) ?_
    | with_reducible refine frm_ite ?_ ?_
    | fail_if_no_progress with_reducible refine frm_mk ?_
    | split

theorem State.mainsCross_frm {tc : Tq} {bad : Bool} (hm : Sub 16400 m) (hgood : Frm m s0 s) : Frm m s0 (State.mainsCross s tc bad) := by
  unfold State.mainsCross
  try dsimp only
  repeat' first
    | with_reducible assumption
    | with_reducible refine State.bump_frm (hm.le (by decide)) ?_
    | with_reducible refine State.doIf_frm ?_ ?_
    | with_reducible refine State.mainsDeliver_frm (hm.le (by decide)) ?_
    | with_reducible refine State.mainsInvalid_frm (hm.le (by decide)) ?_
    | with_reducible refine State.setBit_frm (hm.le (by decide)) ?_
    | with_reducible refine State.setReg_frm (hm.le (by decide)) ?_
    | with_reducible refine frm_ite ?_ ?_
    | fail_if_no_progress with_reducible refine frm_mk ?_
    | split

theorem State.mainsResult_frm {t : Tq} {q : Int} {marks : Marks} (hm : Sub 16400 m) (hgood : Frm m s0 s) : Frm m s0 (State.mainsResult s t q marks) := by
  unfold State.mainsResult
  try dsimp only
  repeat' first
    | with_reducible assumption
    | with_reducible refine State.mainsCross_frm (hm.le (by decide)) ?_
    | with_reducible refine frm_ite ?_ ?_
    | fail_if_no_progress with_reducible refine frm_mk ?_
    | split

theorem execMainsCrossingTimeout_frm (hm : Sub 16401 m) (hgood : Frm m s0 s) : OutFrm m s0 (execMainsCrossingTimeout s) := by
  unfold execMainsCrossingTimeout
  try dsimp only
  repeat' first
    | with_reducible assumption
    | with_reducible refine outFrm_next ?_
    | with_reducible refine outFrm_ite ?_ ?_
    | with_reducible refine State.mainsInvalid_frm (hm.le (by decide)) ?_
    | with_reducible refine State.reach_frm (hm.le (by decide)) ?_
    | with_reducible refine frm_ite ?_ ?_
    | fail_if_no_progress with_reducible refine frm_mk ?_
    | split

theorem State.writeWeightsOf_frm {c : Look} {ta : Tq} {g : Nat} (hm : Sub 16 m) (hgood : Frm m s0 s) : Frm m s0 (State.writeWeightsOf s c ta g) := by
  unfold State.writeWeightsOf
  try dsimp only
  repeat' first
    | with_reducible assumption
    | with_reducible refine State.each_frm ?_ (fun _ _ _ => ?_)
    | with_reducible refine State.setReg_frm (hm.le (by decide)) ?_
    | with_reducible refine frm_ite ?_ ?_
    | fail_if_no_progress with_reducible refine frm_mk ?_
    | split

theorem State.writeWeights_frm {g : Nat} (hm : Sub 16 m) (hgood : Frm m s0 s) : Frm m s0 (State.writeWeights s g) := by
  unfold State.writeWeights
  try dsimp only
  repeat' first
    | with_reducible assumption
    | with_reducible refine State.writeWeightsOf_frm (hm.le (by decide)) ?_
    | with_reducible refine frm_ite ?_ ?_
    | fail_if_no_progress with_reducible refine frm_mk ?_
    | split

theorem State.setTa_frm {t : Tq} (hm : Sub 16400 m) (hgood : Frm m s0 s) : Frm m s0 (State.setTa s t) := by
  unfold State.setTa
  try dsimp only
  repeat' first
    | with_reducible assumption
    | with_reducible refine State.setReg_frm (hm.le (by decide)) ?_
    | with_reducible refine frm_ite ?_ ?_
    | fail_if_no_progress with_reducible refine frm_mk ?_
    | split

theorem State.mainsMode_frm {m' : MainsMode} (hm : Sub 1649804328976 m) (hgood : Frm m s0 s) : Frm m s0 (State.mainsMode s m') := by
  unfold State.mainsMode
  try dsimp only
  repeat' first
    | with_reducible assumption
    | with_reducible refine State.endHandling_frm (hm.le (by decide)) ?_
    | with_reducible refine State.raise_frm (hm.le (by decide)) ?_
    | with_reducible refine State.setBit_frm (hm.le (by decide)) ?_
    | with_reducible refine frm_ite ?_ ?_
    | fail_if_no_progress with_reducible refine frm_mk ?_
    | split

theorem State.newTa_frm {t : Tq} {applyF : Option (Nat × Nat)} (hm : Sub 16400 m) (hgood : Frm m s0 s) : Frm m s0 (State.newTa s t applyF) := by
  unfold State.newTa
  try dsimp only
  repeat' first
    | with_reducible assumption
    | with_reducible refine State.setTa_frm (hm.le (by decide)) ?_
    | with_reducible refine frm_ite ?_ ?_
    | fail_if_no_progress with_reducible refine frm_mk ?_
    | split

theorem State.accept_frm {t : Tq} (hm : Sub 8804984963088 m) (hgood : Frm m s0 s) : Frm m s0 (State.accept s t) := by
  unfold State.accept
  try dsimp only
  repeat' first
    | with_reducible assumption
    | with_reducible refine State.newTa_frm (hm.le (by decide)) ?_
    | with_reducible refine State.sendOn_frm (hm.le (by decide)) ?_
    | with_reducible refine frm_ite ?_ ?_
    | fail_if_no_progress with_reducible refine frm_mk ?_
    | split

theorem State.mainsTake_frm {m' : Option Tq} (hm : Sub 10454789275664 m) (hgood : Frm m s0 s) : Frm m s0 (State.mainsTake s m') := by
  unfold State.mainsTake
  try dsimp only
  repeat' first
    | with_reducible assumption
    | with_reducible refine State.accept_frm (hm.le (by decide)) ?_
    | with_reducible refine State.mainsMode_frm (hm.le (by decide)) ?_
    | with_reducible refine frm_ite ?_ ?_
    | fail_if_no_progress with_reducible refine frm_mk ?_
    | split

theorem execMainsAccept_frm (hm : Sub 10454789275664 m) (hgood : Frm m s0 s) : OutFrm m s0 (execMainsAccept s) := by
  unfold execMainsAccept
  try dsimp only
  repeat' first
    | with_reducible assumption
    | with_reducible refine outFrm_next ?_
    | with_reducible refine outFrm_ite ?_ ?_
    | with_reducible refine State.mainsTake_frm (hm.le (by decide)) ?_
    | with_reducible refine frm_ite ?_ ?_
    | fail_if_no_progress with_reducible refine frm_mk ?_
    | split

theorem execMainsStateTimer_frm (hm : Sub 1649804328977 m) (hgood : Frm m s0 s) : OutFrm m s0 (execMainsStateTimer s) := by
  unfold execMainsStateTimer
  try dsimp only
  repeat' first
    | with_reducible assumption
    | with_reducible refine outFrm_next ?_
    | with_reducible refine outFrm_ite ?_ ?_
    | with_reducible refine State.raise_frm (hm.le (by decide)) ?_
    | with_reducible refine State.reachUp_frm (hm.le (by decide)) ?_
    | with_reducible refine State.setBit_frm (hm.le (by decide)) ?_
    | with_reducible refine frm_ite ?_ ?_
    | fail_if_no_progress with_reducible refine frm_mk ?_
    | split

theorem State.mainsBoundary_frm {g : Nat} (hm : Sub 16384 m) (hgood : Frm m s0 s) : Frm m s0 (State.mainsBoundary s g) := by
  unfold State.mainsBoundary
  try dsimp only
  repeat' first
    | with_reducible assumption
    | with_reducible refine frm_ite ?_ ?_
    | fail_if_no_progress with_reducible refine frm_mk ?_
    | split

theorem State.setTaken_frm {g : Nat} {t : Tq} {pends : Bool} (hm : Sub 16384 m) (hgood : Frm m s0 s) : Frm m s0 (State.setTaken s g t pends) := by
  unfold State.setTaken
  try dsimp only
  repeat' first
    | with_reducible assumption
    | with_reducible refine frm_ite ?_ ?_
    | fail_if_no_progress with_reducible refine frm_mk ?_
    | split

theorem execMainsWeightApply_frm {g : Group} (hm : Sub 16400 m) (hgood : Frm m s0 s) : OutFrm m s0 (execMainsWeightApply g s) := by
  unfold execMainsWeightApply
  try dsimp only
  repeat' first
    | with_reducible assumption
    | with_reducible refine outFrm_next ?_
    | with_reducible refine outFrm_ite ?_ ?_
    | with_reducible refine State.setTaken_frm (hm.le (by decide)) ?_
    | with_reducible refine State.writeWeights_frm (hm.le (by decide)) ?_
    | with_reducible refine frm_ite ?_ ?_
    | fail_if_no_progress with_reducible refine frm_mk ?_
    | split

theorem State.mainsRestart_frm (hm : Sub 1649804328976 m) (hgood : Frm m s0 s) : Frm m s0 (State.mainsRestart s) := by
  unfold State.mainsRestart
  try dsimp only
  repeat' first
    | with_reducible assumption
    | with_reducible refine State.mainsMode_frm (hm.le (by decide)) ?_
    | with_reducible refine State.newTa_frm (hm.le (by decide)) ?_
    | with_reducible refine State.setTa_frm (hm.le (by decide)) ?_
    | with_reducible refine frm_ite ?_ ?_
    | fail_if_no_progress with_reducible refine frm_mk ?_
    | split

theorem State.mainsLoad_frm {c : Look} {restarted : Bool} {g : Nat} (hm : Sub 16400 m) (hgood : Frm m s0 s) : Frm m s0 (State.mainsLoad s c restarted g) := by
  unfold State.mainsLoad
  try dsimp only
  repeat' first
    | with_reducible assumption
    | with_reducible refine State.setTaken_frm (hm.le (by decide)) ?_
    | with_reducible refine State.writeWeightsOf_frm (hm.le (by decide)) ?_
    | with_reducible refine frm_ite ?_ ?_
    | fail_if_no_progress with_reducible refine frm_mk ?_
    | split

theorem State.hiveTrim_frm {f : Nat} (hm : Sub 4390912 m) : ∀ {s : State}, Frm m s0 s → Frm m s0 (State.hiveTrim f s) := by
  induction f with
  | zero => intro s  h; exact h
  | succ f ih =>
    intro s  h
    unfold State.hiveTrim
    try dsimp only
    repeat' first
      | with_reducible assumption
      | with_reducible refine ih ?_
      | with_reducible refine State.setHiveLost_frm (hm.le (by decide)) ?_
      | with_reducible refine frm_ite ?_ ?_
      | fail_if_no_progress with_reducible refine frm_mk ?_
      | split

theorem State.hiveFit_frm (hm : Sub 4390912 m) (hgood : Frm m s0 s) : Frm m s0 (State.hiveFit s) := by
  unfold State.hiveFit
  try dsimp only
  repeat' first
    | with_reducible assumption
    | with_reducible refine State.hiveTrim_frm (hm.le (by decide)) ?_
    | with_reducible refine frm_ite ?_ ?_
    | fail_if_no_progress with_reducible refine frm_mk ?_
    | split

theorem State.cmpBytes_frm {plain : Nat} {packed : Nat} (hm : Sub 16 m) (hgood : Frm m s0 s) : Frm m s0 (State.cmpBytes s plain packed) := by
  unfold State.cmpBytes
  try dsimp only
  repeat' first
    | with_reducible assumption
    | with_reducible refine State.setReg64_frm (hm.le (by decide)) ?_
    | with_reducible refine frm_ite ?_ ?_
    | fail_if_no_progress with_reducible refine frm_mk ?_
    | split

theorem State.cmpPacket_frm {p : Packet} (hm : Sub 16 m) (hgood : Frm m s0 s) : Frm m s0 (State.cmpPacket s p) := by
  unfold State.cmpPacket
  try dsimp only
  repeat' first
    | with_reducible assumption
    | with_reducible refine State.bump_frm (hm.le (by decide)) ?_
    | with_reducible refine State.cmpBytes_frm (hm.le (by decide)) ?_
    | with_reducible refine frm_ite ?_ ?_
    | fail_if_no_progress with_reducible refine frm_mk ?_
    | split

theorem State.setLane_frm {n : Nat} {w : LaneWork} (hm : Sub 8388608 m) (hgood : Frm m s0 s) : Frm m s0 (State.setLane s n w) := by
  unfold State.setLane
  try dsimp only
  repeat' first
    | with_reducible assumption
    | with_reducible refine frm_ite ?_ ?_
    | fail_if_no_progress with_reducible refine frm_mk ?_
    | split

theorem State.leaveLane_frm {p : Packet} (hm : Sub 8388608 m) (hgood : Frm m s0 s) : Frm m s0 (State.leaveLane s p) := by
  unfold State.leaveLane
  try dsimp only
  repeat' first
    | with_reducible assumption
    | with_reducible refine State.setLane_frm (hm.le (by decide)) ?_
    | with_reducible refine frm_ite ?_ ?_
    | fail_if_no_progress with_reducible refine frm_mk ?_
    | split

theorem State.updJob_frm {id : Nat} {f : JobSt → JobSt} (hm : Sub 8388608 m) (hgood : Frm m s0 s) : Frm m s0 (State.updJob s id f) := by
  unfold State.updJob
  try dsimp only
  repeat' first
    | with_reducible assumption
    | with_reducible refine frm_ite ?_ ?_
    | fail_if_no_progress with_reducible refine frm_mk ?_
    | split

theorem State.dropJob_frm {id : Nat} (hm : Sub 8388608 m) (hgood : Frm m s0 s) : Frm m s0 (State.dropJob s id) := by
  unfold State.dropJob
  try dsimp only
  repeat' first
    | with_reducible assumption
    | with_reducible refine frm_ite ?_ ?_
    | fail_if_no_progress with_reducible refine frm_mk ?_
    | split

theorem State.chainPast_frm {d : Desc} (hm : Sub 8388608 m) (hgood : Frm m s0 s) : Frm m s0 (State.chainPast s d) := by
  unfold State.chainPast
  try dsimp only
  repeat' first
    | with_reducible assumption
    | with_reducible refine frm_ite ?_ ?_
    | fail_if_no_progress with_reducible refine frm_mk ?_
    | split

theorem State.takeSeg_frm {d : Desc} {j : JobSt} {n : Nat} (hm : Sub 141205471248 m) (hgood : Frm m s0 s) : Frm m s0 (State.takeSeg s d j n) := by
  unfold State.takeSeg
  try dsimp only
  repeat' first
    | with_reducible assumption
    | with_reducible refine State.chainPast_frm (hm.le (by decide)) ?_
    | with_reducible refine State.dropJob_frm (hm.le (by decide)) ?_
    | with_reducible refine State.retireBad_frm (hm.le (by decide)) ?_
    | with_reducible refine State.setLane_frm (hm.le (by decide)) ?_
    | with_reducible refine State.updJob_frm (hm.le (by decide)) ?_
    | with_reducible refine frm_ite ?_ ?_
    | fail_if_no_progress with_reducible refine frm_mk ?_
    | split

theorem State.assignLanes_frm {f : Nat} (hm : Sub 141205471248 m) : ∀ {s : State}, Frm m s0 s → Frm m s0 (State.assignLanes f s) := by
  induction f with
  | zero => intro s  h; exact h
  | succ f ih =>
    intro s  h
    unfold State.assignLanes
    try dsimp only
    repeat' first
      | with_reducible assumption
      | with_reducible refine ih ?_
      | with_reducible refine State.updStrm_frm (hm.le (by decide)) ?_
      | with_reducible refine State.setLane_frm (hm.le (by decide)) ?_
      | with_reducible refine State.takeSeg_frm (hm.le (by decide)) ?_
      | with_reducible refine frm_ite ?_ ?_
      | fail_if_no_progress with_reducible refine frm_mk ?_
      | split

theorem State.assignAll_frm (hm : Sub 141205471248 m) (hgood : Frm m s0 s) : Frm m s0 (State.assignAll s) := by
  unfold State.assignAll
  try dsimp only
  repeat' first
    | with_reducible assumption
    | with_reducible refine State.assignLanes_frm (hm.le (by decide)) ?_
    | with_reducible refine frm_ite ?_ ?_
    | fail_if_no_progress with_reducible refine frm_mk ?_
    | split

theorem State.report_frm {e : SyncEntry} (hm : Sub 8891924496 m) (hgood : Frm m s0 s) : Frm m s0 (State.report s e) := by
  unfold State.report
  try dsimp only
  repeat' first
    | with_reducible assumption
    | with_reducible refine State.sendOn_frm (hm.le (by decide)) ?_
    | with_reducible refine frm_ite ?_ ?_
    | fail_if_no_progress with_reducible refine frm_mk ?_
    | split

theorem State.renumberLosses_frm {g : Nat} {endK : Option Nat} {start : Nat} (hm : Sub 32768 m) (hgood : Frm m s0 s) : Frm m s0 (State.renumberLosses s g endK start) := by
  unfold State.renumberLosses
  try dsimp only
  repeat' first
    | with_reducible assumption
    | with_reducible refine State.each_frm ?_ (fun _ _ _ => ?_)
    | with_reducible refine State.updStrm_frm (hm.le (by decide)) ?_
    | with_reducible refine frm_ite ?_ ?_
    | fail_if_no_progress with_reducible refine frm_mk ?_
    | split

theorem State.countGap_frm {x : Nat} {p : Packet} {g : GapInfo} (hm : Sub 8891924496 m) (hgood : Frm m s0 s) : Frm m s0 (State.countGap s x p g) := by
  unfold State.countGap
  try dsimp only
  repeat' first
    | with_reducible assumption
    | with_reducible refine State.bump_frm (hm.le (by decide)) ?_
    | with_reducible refine State.report_frm (hm.le (by decide)) ?_
    | with_reducible refine State.setBit_frm (hm.le (by decide)) ?_
    | with_reducible refine State.setReg64_frm (hm.le (by decide)) ?_
    | with_reducible refine frm_ite ?_ ?_
    | fail_if_no_progress with_reducible refine frm_mk ?_
    | split

theorem State.endRecord_frm {x : Nat} {p : Packet} {last : Packet} (hm : Sub 32768 m) (hgood : Frm m s0 s) : Frm m s0 (State.endRecord s x p last) := by
  unfold State.endRecord
  try dsimp only
  repeat' first
    | with_reducible assumption
    | with_reducible refine State.setStrm_frm (hm.le (by decide)) ?_
    | with_reducible refine frm_ite ?_ ?_
    | fail_if_no_progress with_reducible refine frm_mk ?_
    | split

theorem State.overflowAt_frm {x : Nat} {p : Packet} (hm : Sub 32768 m) (hgood : Frm m s0 s) : Frm m s0 (State.overflowAt s x p) := by
  unfold State.overflowAt
  try dsimp only
  repeat' first
    | with_reducible assumption
    | with_reducible refine State.endRecord_frm (hm.le (by decide)) ?_
    | with_reducible refine State.setStrm_frm (hm.le (by decide)) ?_
    | with_reducible refine frm_ite ?_ ?_
    | fail_if_no_progress with_reducible refine frm_mk ?_
    | split

theorem State.memoryGap_frm {x : Nat} {p : Packet} {rest : List Packet} {detail : Nat} (hm : Sub 8891957264 m) (hgood : Frm m s0 s) : Frm m s0 (State.memoryGap s x p rest detail) := by
  unfold State.memoryGap
  try dsimp only
  repeat' first
    | with_reducible assumption
    | with_reducible refine State.countGap_frm (hm.le (by decide)) ?_
    | with_reducible refine State.enqueue_frm (hm.le (by decide)) ?_
    | with_reducible refine State.setBit_frm (hm.le (by decide)) ?_
    | with_reducible refine State.setStrm_frm (hm.le (by decide)) ?_
    | with_reducible refine frm_ite ?_ ?_
    | fail_if_no_progress with_reducible refine frm_mk ?_
    | split

theorem State.placeHead_frm {x : Nat} (hm : Sub 6605966114832 m) (hgood : Frm m s0 s) : Frm m s0 (State.placeHead s x) := by
  unfold State.placeHead
  try dsimp only
  repeat' first
    | with_reducible assumption
    | with_reducible refine State.countGap_frm (hm.le (by decide)) ?_
    | with_reducible refine State.doIf_frm ?_ ?_
    | with_reducible refine State.enqueue_frm (hm.le (by decide)) ?_
    | with_reducible refine State.hiveFit_frm (hm.le (by decide)) ?_
    | with_reducible refine State.memWrite_frm (hm.le (by decide)) ?_
    | with_reducible refine State.memoryGap_frm (hm.le (by decide)) ?_
    | with_reducible refine State.overflowAt_frm (hm.le (by decide)) ?_
    | with_reducible refine State.report_frm (hm.le (by decide)) ?_
    | with_reducible refine State.setBit_frm (hm.le (by decide)) ?_
    | with_reducible refine State.setStrm_frm (hm.le (by decide)) ?_
    | with_reducible refine State.underInj_frm (hm.le (by decide)) ?_ (fun _ _ => ?_)
    | with_reducible refine frm_ite ?_ ?_
    | fail_if_no_progress with_reducible refine frm_mk ?_
    | split

theorem State.placeAll_frm {f : Nat} (hm : Sub 6605966114832 m) : ∀ {s : State} {x : Nat}, Frm m s0 s → Frm m s0 (State.placeAll f s x) := by
  induction f with
  | zero => intro s x h; exact h
  | succ f ih =>
    intro s x h
    unfold State.placeAll
    try dsimp only
    repeat' first
      | with_reducible assumption
      | with_reducible refine ih ?_
      | with_reducible refine State.placeHead_frm (hm.le (by decide)) ?_
      | with_reducible refine frm_ite ?_ ?_
      | fail_if_no_progress with_reducible refine frm_mk ?_
      | split

theorem State.pushGap_frm {x : Nat} {l : LossSt} {endK : Nat} {endT : Tq} (hm : Sub 32768 m) (hgood : Frm m s0 s) : Frm m s0 (State.pushGap s x l endK endT) := by
  unfold State.pushGap
  try dsimp only
  repeat' first
    | with_reducible assumption
    | with_reducible refine State.setStrm_frm (hm.le (by decide)) ?_
    | with_reducible refine frm_ite ?_ ?_
    | fail_if_no_progress with_reducible refine frm_mk ?_
    | split

theorem State.retireBuf_frm {x : Nat} {b : StreamBuf} (hm : Sub 150089007120 m) (hgood : Frm m s0 s) : Frm m s0 (State.retireBuf s x b) := by
  unfold State.retireBuf
  try dsimp only
  repeat' first
    | with_reducible assumption
    | with_reducible refine State.report_frm (hm.le (by decide)) ?_
    | with_reducible refine State.retire_frm (hm.le (by decide)) ?_
    | with_reducible refine State.updStrm_frm (hm.le (by decide)) ?_
    | with_reducible refine frm_ite ?_ ?_
    | fail_if_no_progress with_reducible refine frm_mk ?_
    | split

theorem State.retireEmpty_frm {x : Nat} {b : StreamBuf} {status : Nat} (hm : Sub 141197082640 m) (hgood : Frm m s0 s) : Frm m s0 (State.retireEmpty s x b status) := by
  unfold State.retireEmpty
  try dsimp only
  repeat' first
    | with_reducible assumption
    | with_reducible refine State.retireBad_frm (hm.le (by decide)) ?_
    | with_reducible refine State.updStrm_frm (hm.le (by decide)) ?_
    | with_reducible refine frm_ite ?_ ?_
    | fail_if_no_progress with_reducible refine frm_mk ?_
    | split

theorem State.bufSettle_frm {f : Nat} (hm : Sub 150089007120 m) : ∀ {s : State} {x : Nat}, Frm m s0 s → Frm m s0 (State.bufSettle f s x) := by
  induction f with
  | zero => intro s x h; exact h
  | succ f ih =>
    intro s x h
    unfold State.bufSettle
    try dsimp only
    repeat' first
      | with_reducible assumption
      | with_reducible refine ih ?_
      | with_reducible refine State.retireEmpty_frm (hm.le (by decide)) ?_
      | with_reducible refine State.retireBuf_frm (hm.le (by decide)) ?_
      | with_reducible refine frm_ite ?_ ?_
      | fail_if_no_progress with_reducible refine frm_mk ?_
      | split

theorem State.fillBuf_frm {x : Nat} {b : StreamBuf} {p : Packet} (hm : Sub 8796629925888 m) (hgood : Frm m s0 s) : Frm m s0 (State.fillBuf s x b p) := by
  unfold State.fillBuf
  try dsimp only
  repeat' first
    | with_reducible assumption
    | with_reducible refine State.hostWrite_frm (hm.le (by decide)) ?_
    | with_reducible refine State.updStrm_frm (hm.le (by decide)) ?_
    | with_reducible refine frm_ite ?_ ?_
    | fail_if_no_progress with_reducible refine frm_mk ?_
    | split

theorem State.replaceDamaged_frm {x : Nat} (hm : Sub 8891957264 m) (hgood : Frm m s0 s) : Frm m s0 (State.replaceDamaged s x) := by
  unfold State.replaceDamaged
  try dsimp only
  repeat' first
    | with_reducible assumption
    | with_reducible refine State.countGap_frm (hm.le (by decide)) ?_
    | with_reducible refine State.setBit_frm (hm.le (by decide)) ?_
    | with_reducible refine State.setStrm_frm (hm.le (by decide)) ?_
    | with_reducible refine frm_ite ?_ ?_
    | fail_if_no_progress with_reducible refine frm_mk ?_
    | split

theorem State.endBufs_frm {x : Nat} (hm : Sub 141197082640 m) (hgood : Frm m s0 s) : Frm m s0 (State.endBufs s x) := by
  unfold State.endBufs
  try dsimp only
  repeat' first
    | with_reducible assumption
    | with_reducible refine State.each_frm ?_ (fun _ _ _ => ?_)
    | with_reducible refine State.retireEmpty_frm (hm.le (by decide)) ?_
    | with_reducible refine frm_ite ?_ ?_
    | fail_if_no_progress with_reducible refine frm_mk ?_
    | split

theorem State.deliverPacket_frm {x : Nat} (hm : Sub 8946182029328 m) (hgood : Frm m s0 s) : Frm m s0 (State.deliverPacket s x) := by
  unfold State.deliverPacket
  try dsimp only
  repeat' first
    | with_reducible assumption
    | with_reducible refine State.bufSettle_frm (hm.le (by decide)) ?_
    | with_reducible refine State.endBufs_frm (hm.le (by decide)) ?_
    | with_reducible refine State.fillBuf_frm (hm.le (by decide)) ?_
    | with_reducible refine State.replaceDamaged_frm (hm.le (by decide)) ?_
    | with_reducible refine State.retireBuf_frm (hm.le (by decide)) ?_
    | with_reducible refine State.updStrm_frm (hm.le (by decide)) ?_
    | with_reducible refine frm_ite ?_ ?_
    | fail_if_no_progress with_reducible refine frm_mk ?_
    | split

theorem State.streamSettle_frm {x : Nat} (hm : Sub 6747171553296 m) (hgood : Frm m s0 s) : Frm m s0 (State.streamSettle s x) := by
  unfold State.streamSettle
  try dsimp only
  repeat' first
    | with_reducible assumption
    | with_reducible refine State.assignAll_frm (hm.le (by decide)) ?_
    | with_reducible refine State.bufSettle_frm (hm.le (by decide)) ?_
    | with_reducible refine State.placeAll_frm (hm.le (by decide)) ?_
    | with_reducible refine frm_ite ?_ ?_
    | fail_if_no_progress with_reducible refine frm_mk ?_
    | split

theorem State.closePacket_frm {x : Nat} (hm : Sub 6747171553296 m) (hgood : Frm m s0 s) : Frm m s0 (State.closePacket s x) := by
  unfold State.closePacket
  try dsimp only
  repeat' first
    | with_reducible assumption
    | with_reducible refine State.setStrm_frm (hm.le (by decide)) ?_
    | with_reducible refine State.streamSettle_frm (hm.le (by decide)) ?_
    | with_reducible refine frm_ite ?_ ?_
    | fail_if_no_progress with_reducible refine frm_mk ?_
    | split

theorem State.writeGaps_frm {x : Nat} {endK : Nat} {endT : Tq} (hm : Sub 6747171553296 m) (hgood : Frm m s0 s) : Frm m s0 (State.writeGaps s x endK endT) := by
  unfold State.writeGaps
  try dsimp only
  repeat' first
    | with_reducible assumption
    | with_reducible refine State.each_frm ?_ (fun _ _ _ => ?_)
    | with_reducible refine State.pushGap_frm (hm.le (by decide)) ?_
    | with_reducible refine State.streamSettle_frm (hm.le (by decide)) ?_
    | with_reducible refine State.updStrm_frm (hm.le (by decide)) ?_
    | with_reducible refine frm_ite ?_ ?_
    | fail_if_no_progress with_reducible refine frm_mk ?_
    | split

theorem State.holdFrame_frm {x : Nat} {epoch : BitVec 16} {f : PktFrame} (hm : Sub 32768 m) (hgood : Frm m s0 s) : Frm m s0 (State.holdFrame s x epoch f) := by
  unfold State.holdFrame
  try dsimp only
  repeat' first
    | with_reducible assumption
    | with_reducible refine State.setStrm_frm (hm.le (by decide)) ?_
    | with_reducible refine frm_ite ?_ ?_
    | fail_if_no_progress with_reducible refine frm_mk ?_
    | split

theorem State.putFrame_frm {x : Nat} {epoch : BitVec 16} {f : PktFrame} (hm : Sub 32768 m) (hgood : Frm m s0 s) : Frm m s0 (State.putFrame s x epoch f) := by
  unfold State.putFrame
  try dsimp only
  repeat' first
    | with_reducible assumption
    | with_reducible refine State.setStrm_frm (hm.le (by decide)) ?_
    | with_reducible refine frm_ite ?_ ?_
    | fail_if_no_progress with_reducible refine frm_mk ?_
    | split

theorem State.closeIfFull_frm {x : Nat} (hm : Sub 6747171553296 m) (hgood : Frm m s0 s) : Frm m s0 (State.closeIfFull s x) := by
  unfold State.closeIfFull
  try dsimp only
  repeat' first
    | with_reducible assumption
    | with_reducible refine State.closePacket_frm (hm.le (by decide)) ?_
    | with_reducible refine frm_ite ?_ ?_
    | fail_if_no_progress with_reducible refine frm_mk ?_
    | split

theorem State.appendFrame_frm {x : Nat} {k : Nat} {edge : Tq} {epoch : BitVec 16} {samples : List (Int × Marks)} (hm : Sub 6747171553296 m) (hgood : Frm m s0 s) : Frm m s0 (State.appendFrame s x k edge epoch samples) := by
  unfold State.appendFrame
  try dsimp only
  repeat' first
    | with_reducible assumption
    | with_reducible refine State.closeIfFull_frm (hm.le (by decide)) ?_
    | with_reducible refine State.closePacket_frm (hm.le (by decide)) ?_
    | with_reducible refine State.holdFrame_frm (hm.le (by decide)) ?_
    | with_reducible refine State.putFrame_frm (hm.le (by decide)) ?_
    | with_reducible refine State.updStrm_frm (hm.le (by decide)) ?_
    | with_reducible refine State.writeGaps_frm (hm.le (by decide)) ?_
    | with_reducible refine frm_ite ?_ ?_
    | fail_if_no_progress with_reducible refine frm_mk ?_
    | split

theorem State.closeStreams_frm {xs : List Nat} (hm : Sub 6747171553296 m) (hgood : Frm m s0 s) : Frm m s0 (State.closeStreams s xs) := by
  unfold State.closeStreams
  try dsimp only
  repeat' first
    | with_reducible assumption
    | with_reducible refine State.closePacket_frm (hm.le (by decide)) ?_
    | with_reducible refine State.each_frm ?_ (fun _ _ _ => ?_)
    | with_reducible refine State.updStrm_frm (hm.le (by decide)) ?_
    | with_reducible refine frm_ite ?_ ?_
    | fail_if_no_progress with_reducible refine frm_mk ?_
    | split

theorem State.loseNow_frm {g : Nat} {cause : Nat} {detail : Nat} {bK : Nat} {bT : Tq} (hm : Sub 6747171553296 m) (hgood : Frm m s0 s) : Frm m s0 (State.loseNow s g cause detail bK bT) := by
  unfold State.loseNow
  try dsimp only
  repeat' first
    | with_reducible assumption
    | with_reducible refine State.closeStreams_frm (hm.le (by decide)) ?_
    | with_reducible refine State.each_frm ?_ (fun _ _ _ => ?_)
    | with_reducible refine State.updStrm_frm (hm.le (by decide)) ?_
    | with_reducible refine frm_ite ?_ ?_
    | fail_if_no_progress with_reducible refine frm_mk ?_
    | split

theorem State.loseGroup_frm {g : Nat} {cause : Nat} {detail : Nat} {bK : Nat} {bT : Tq} (hm : Sub 6747171553328 m) (hgood : Frm m s0 s) : Frm m s0 (State.loseGroup s g cause detail bK bT) := by
  unfold State.loseGroup
  try dsimp only
  repeat' first
    | with_reducible assumption
    | with_reducible refine State.loseNow_frm (hm.le (by decide)) ?_
    | with_reducible refine State.updGrp_frm (hm.le (by decide)) ?_
    | with_reducible refine frm_ite ?_ ?_
    | fail_if_no_progress with_reducible refine frm_mk ?_
    | split

theorem State.loseDeferred_frm {g : Nat} (hm : Sub 6747171553328 m) (hgood : Frm m s0 s) : Frm m s0 (State.loseDeferred s g) := by
  unfold State.loseDeferred
  try dsimp only
  repeat' first
    | with_reducible assumption
    | with_reducible refine State.each_frm ?_ (fun _ _ _ => ?_)
    | with_reducible refine State.loseNow_frm (hm.le (by decide)) ?_
    | with_reducible refine State.updGrp_frm (hm.le (by decide)) ?_
    | with_reducible refine frm_ite ?_ ?_
    | fail_if_no_progress with_reducible refine frm_mk ?_
    | split

theorem State.drainStream_frm {f : Nat} (hm : Sub 8946182029328 m) : ∀ {s : State} {x : Nat}, Frm m s0 s → Frm m s0 (State.drainStream f s x) := by
  induction f with
  | zero => intro s x h; exact h
  | succ f ih =>
    intro s x h
    unfold State.drainStream
    try dsimp only
    repeat' first
      | with_reducible assumption
      | with_reducible refine ih ?_
      | with_reducible refine State.retireEmpty_frm (hm.le (by decide)) ?_
      | with_reducible refine State.retireBuf_frm (hm.le (by decide)) ?_
      | with_reducible refine State.fillBuf_frm (hm.le (by decide)) ?_
      | with_reducible refine State.updStrm_frm (hm.le (by decide)) ?_
      | with_reducible refine State.replaceDamaged_frm (hm.le (by decide)) ?_
      | with_reducible refine frm_ite ?_ ?_
      | fail_if_no_progress with_reducible refine frm_mk ?_
      | split

theorem State.settleNow_frm {x : Nat} (hm : Sub 8421392 m) (hgood : Frm m s0 s) : Frm m s0 (State.settleNow s x) := by
  unfold State.settleNow
  try dsimp only
  repeat' first
    | with_reducible assumption
    | with_reducible refine State.bumpBy_frm (hm.le (by decide)) ?_
    | with_reducible refine State.cmpPacket_frm (hm.le (by decide)) ?_
    | with_reducible refine State.each_frm ?_ (fun _ _ _ => ?_)
    | with_reducible refine State.setStrm_frm (hm.le (by decide)) ?_
    | with_reducible refine frm_ite ?_ ?_
    | fail_if_no_progress with_reducible refine frm_mk ?_
    | split

theorem State.endStream_frm {x : Nat} (hm : Sub 8946182029328 m) (hgood : Frm m s0 s) : Frm m s0 (State.endStream s x) := by
  unfold State.endStream
  try dsimp only
  repeat' first
    | with_reducible assumption
    | with_reducible refine State.drainStream_frm (hm.le (by decide)) ?_
    | with_reducible refine State.each_frm ?_ (fun _ _ _ => ?_)
    | with_reducible refine State.retireBuf_frm (hm.le (by decide)) ?_
    | with_reducible refine State.retireEmpty_frm (hm.le (by decide)) ?_
    | with_reducible refine State.setStrm_frm (hm.le (by decide)) ?_
    | with_reducible refine frm_ite ?_ ?_
    | fail_if_no_progress with_reducible refine frm_mk ?_
    | split

theorem State.disableStream_frm {x : Nat} (hm : Sub 15543264575504 m) (hgood : Frm m s0 s) : Frm m s0 (State.disableStream s x) := by
  unfold State.disableStream
  try dsimp only
  repeat' first
    | with_reducible assumption
    | with_reducible refine State.closeStreams_frm (hm.le (by decide)) ?_
    | with_reducible refine State.endStream_frm (hm.le (by decide)) ?_
    | with_reducible refine State.placeAll_frm (hm.le (by decide)) ?_
    | with_reducible refine State.setStrm_frm (hm.le (by decide)) ?_
    | with_reducible refine State.settleNow_frm (hm.le (by decide)) ?_
    | with_reducible refine frm_ite ?_ ?_
    | fail_if_no_progress with_reducible refine frm_mk ?_
    | split

theorem State.endStreams_frm (hm : Sub 8946182029328 m) (hgood : Frm m s0 s) : Frm m s0 (State.endStreams s) := by
  unfold State.endStreams
  try dsimp only
  repeat' first
    | with_reducible assumption
    | with_reducible refine State.doIf_frm ?_ ?_
    | with_reducible refine State.each_frm ?_ (fun _ _ _ => ?_)
    | with_reducible refine State.endStream_frm (hm.le (by decide)) ?_
    | with_reducible refine frm_ite ?_ ?_
    | fail_if_no_progress with_reducible refine frm_mk ?_
    | split

theorem execPacketMaxAge_frm {x : Fin 64} (hm : Sub 6747171553297 m) (hgood : Frm m s0 s) : OutFrm m s0 (execPacketMaxAge x s) := by
  unfold execPacketMaxAge
  try dsimp only
  repeat' first
    | with_reducible assumption
    | with_reducible refine outFrm_next ?_
    | with_reducible refine outFrm_ite ?_ ?_
    | with_reducible refine State.closePacket_frm (hm.le (by decide)) ?_
    | with_reducible refine State.reachUp_frm (hm.le (by decide)) ?_
    | with_reducible refine frm_ite ?_ ?_
    | fail_if_no_progress with_reducible refine frm_mk ?_
    | split

theorem execGapRecordWrite_frm {x : Fin 64} (hm : Sub 6747171553296 m) (hgood : Frm m s0 s) : OutFrm m s0 (execGapRecordWrite x s) := by
  unfold execGapRecordWrite
  try dsimp only
  repeat' first
    | with_reducible assumption
    | with_reducible refine outFrm_next ?_
    | with_reducible refine outFrm_ite ?_ ?_
    | with_reducible refine State.setStrm_frm (hm.le (by decide)) ?_
    | with_reducible refine State.updStrm_frm (hm.le (by decide)) ?_
    | with_reducible refine State.writeGaps_frm (hm.le (by decide)) ?_
    | with_reducible refine frm_ite ?_ ?_
    | fail_if_no_progress with_reducible refine frm_mk ?_
    | split

theorem execPacketSigned_frm {x : Fin 64} (hm : Sub 6747171553296 m) (hgood : Frm m s0 s) : OutFrm m s0 (execPacketSigned x s) := by
  unfold execPacketSigned
  try dsimp only
  repeat' first
    | with_reducible assumption
    | with_reducible refine outFrm_next ?_
    | with_reducible refine outFrm_ite ?_ ?_
    | with_reducible refine State.bump_frm (hm.le (by decide)) ?_
    | with_reducible refine State.streamSettle_frm (hm.le (by decide)) ?_
    | with_reducible refine State.updStrm_frm (hm.le (by decide)) ?_
    | with_reducible refine frm_ite ?_ ?_
    | fail_if_no_progress with_reducible refine frm_mk ?_
    | split

theorem execPacketDmaDone_frm {x : Fin 64} (hm : Sub 8946182029328 m) (hgood : Frm m s0 s) : OutFrm m s0 (execPacketDmaDone x s) := by
  unfold execPacketDmaDone
  try dsimp only
  repeat' first
    | with_reducible assumption
    | with_reducible refine outFrm_next ?_
    | with_reducible refine outFrm_ite ?_ ?_
    | with_reducible refine State.deliverPacket_frm (hm.le (by decide)) ?_
    | with_reducible refine frm_ite ?_ ?_
    | fail_if_no_progress with_reducible refine frm_mk ?_
    | split

theorem execStreamBuf_frm {id : Nat} (hm : Sub 141197082640 m) (hgood : Frm m s0 s) : OutFrm m s0 (execStreamBuf id s) := by
  unfold execStreamBuf
  try dsimp only
  repeat' first
    | with_reducible assumption
    | with_reducible refine outFrm_next ?_
    | with_reducible refine outFrm_ite ?_ ?_
    | with_reducible refine State.retireBad_frm (hm.le (by decide)) ?_
    | with_reducible refine State.serve_frm (hm.le (by decide)) ?_ (fun _ _ _ => ?_)
    | with_reducible refine State.take_frm (hm.le (by decide)) ?_
    | with_reducible refine State.updStrm_frm (hm.le (by decide)) ?_
    | with_reducible refine frm_ite ?_ ?_
    | fail_if_no_progress with_reducible refine frm_mk ?_
    | split

theorem State.flushStream_frm {x : Nat} (hm : Sub 6747171553296 m) (hgood : Frm m s0 s) : Frm m s0 (State.flushStream s x) := by
  unfold State.flushStream
  try dsimp only
  repeat' first
    | with_reducible assumption
    | with_reducible refine State.closePacket_frm (hm.le (by decide)) ?_
    | with_reducible refine State.setStrm_frm (hm.le (by decide)) ?_
    | with_reducible refine frm_ite ?_ ?_
    | fail_if_no_progress with_reducible refine frm_mk ?_
    | split

theorem execStreamFlush_frm {high : Bool} {w : W32} (hm : Sub 6747171553296 m) (hgood : Frm m s0 s) : OutFrm m s0 (execStreamFlush high w s) := by
  unfold execStreamFlush
  try dsimp only
  repeat' first
    | with_reducible assumption
    | with_reducible refine outFrm_next ?_
    | with_reducible refine outFrm_ite ?_ ?_
    | with_reducible refine State.each_frm ?_ (fun _ _ _ => ?_)
    | with_reducible refine State.flushStream_frm (hm.le (by decide)) ?_
    | with_reducible refine frm_ite ?_ ?_
    | fail_if_no_progress with_reducible refine frm_mk ?_
    | split

theorem State.statAdvance_frm {c : Look} {i : Nat} {j : Nat} {next : StatAcc} (hm : Sub 262144 m) (hgood : Frm m s0 s) : Frm m s0 (State.statAdvance s c i j next) := by
  unfold State.statAdvance
  try dsimp only
  repeat' first
    | with_reducible assumption
    | with_reducible refine State.updStats_frm (hm.le (by decide)) ?_
    | with_reducible refine frm_ite ?_ ?_
    | fail_if_no_progress with_reducible refine frm_mk ?_
    | split

theorem State.statOutput_frm {i : Nat} {t : Nat} {epoch : BitVec 16} {y : Int} {m' : Marks} (hm : Sub 262144 m) (hgood : Frm m s0 s) : Frm m s0 (State.statOutput s i t epoch y m') := by
  unfold State.statOutput
  try dsimp only
  repeat' first
    | with_reducible assumption
    | with_reducible refine State.setStats_frm (hm.le (by decide)) ?_
    | with_reducible refine State.statAdvance_frm (hm.le (by decide)) ?_
    | with_reducible refine frm_ite ?_ ?_
    | fail_if_no_progress with_reducible refine frm_mk ?_
    | split

theorem State.statHole_frm {i : Nat} {from_ : Nat} {upto : Nat} (hm : Sub 262144 m) (hgood : Frm m s0 s) : Frm m s0 (State.statHole s i from_ upto) := by
  unfold State.statHole
  try dsimp only
  repeat' first
    | with_reducible assumption
    | with_reducible refine State.statAdvance_frm (hm.le (by decide)) ?_
    | with_reducible refine State.updStats_frm (hm.le (by decide)) ?_
    | with_reducible refine frm_ite ?_ ?_
    | fail_if_no_progress with_reducible refine frm_mk ?_
    | split

theorem State.statNow_frm {c : Look} {i : Nat} (hm : Sub 262144 m) (hgood : Frm m s0 s) : Frm m s0 (State.statNow s c i) := by
  unfold State.statNow
  try dsimp only
  repeat' first
    | with_reducible assumption
    | with_reducible refine State.statAdvance_frm (hm.le (by decide)) ?_
    | with_reducible refine State.updStats_frm (hm.le (by decide)) ?_
    | with_reducible refine frm_ite ?_ ?_
    | fail_if_no_progress with_reducible refine frm_mk ?_
    | split

theorem State.statCommit_frm {old : Look} {i : Nat} (hm : Sub 262144 m) (hgood : Frm m s0 s) : Frm m s0 (State.statCommit s old i) := by
  unfold State.statCommit
  try dsimp only
  repeat' first
    | with_reducible assumption
    | with_reducible refine State.statNow_frm (hm.le (by decide)) ?_
    | with_reducible refine State.updStats_frm (hm.le (by decide)) ?_
    | with_reducible refine frm_ite ?_ ?_
    | fail_if_no_progress with_reducible refine frm_mk ?_
    | split

theorem execStatsIntervalEnd_frm (hm : Sub 68719738881 m) (hgood : Frm m s0 s) : OutFrm m s0 (execStatsIntervalEnd s) := by
  unfold execStatsIntervalEnd
  try dsimp only
  repeat' first
    | with_reducible assumption
    | with_reducible refine outFrm_next ?_
    | with_reducible refine outFrm_ite ?_ ?_
    | with_reducible refine State.each_frm ?_ (fun _ _ _ => ?_)
    | with_reducible refine State.pllRunAgo_frm (hm.le (by decide)) ?_
    | with_reducible refine State.reach_frm (hm.le (by decide)) ?_
    | with_reducible refine State.statAdvance_frm (hm.le (by decide)) ?_
    | with_reducible refine State.updStats_frm (hm.le (by decide)) ?_
    | with_reducible refine frm_ite ?_ ?_
    | fail_if_no_progress with_reducible refine frm_mk ?_
    | split

theorem execStatsRead_frm {id : Nat} (hm : Sub 141197082640 m) (hgood : Frm m s0 s) : OutFrm m s0 (execStatsRead id s) := by
  unfold execStatsRead
  try dsimp only
  repeat' first
    | with_reducible assumption
    | with_reducible refine outFrm_next ?_
    | with_reducible refine outFrm_ite ?_ ?_
    | with_reducible refine State.bump_frm (hm.le (by decide)) ?_
    | with_reducible refine State.descWrite_frm (hm.le (by decide)) ?_
    | with_reducible refine State.doIf_frm ?_ ?_
    | with_reducible refine State.retireBad_frm (hm.le (by decide)) ?_
    | with_reducible refine State.retireOk_frm (hm.le (by decide)) ?_
    | with_reducible refine State.serve_frm (hm.le (by decide)) ?_ (fun _ _ _ => ?_)
    | with_reducible refine frm_ite ?_ ?_
    | fail_if_no_progress with_reducible refine frm_mk ?_
    | split

theorem State.bypass_frm {x : Nat} {p : Packet} (hm : Sub 6747171553296 m) (hgood : Frm m s0 s) : Frm m s0 (State.bypass s x p) := by
  unfold State.bypass
  try dsimp only
  repeat' first
    | with_reducible assumption
    | with_reducible refine State.bump_frm (hm.le (by decide)) ?_
    | with_reducible refine State.leaveLane_frm (hm.le (by decide)) ?_
    | with_reducible refine State.setBit_frm (hm.le (by decide)) ?_
    | with_reducible refine State.streamSettle_frm (hm.le (by decide)) ?_
    | with_reducible refine State.updStrm_frm (hm.le (by decide)) ?_
    | with_reducible refine frm_ite ?_ ?_
    | fail_if_no_progress with_reducible refine frm_mk ?_
    | split

theorem State.packetCompressed_frm {x : Nat} {p : Packet} (hm : Sub 6747171553296 m) (hgood : Frm m s0 s) : Frm m s0 (State.packetCompressed s x p) := by
  unfold State.packetCompressed
  try dsimp only
  repeat' first
    | with_reducible assumption
    | with_reducible refine State.cmpPacket_frm (hm.le (by decide)) ?_
    | with_reducible refine State.leaveLane_frm (hm.le (by decide)) ?_
    | with_reducible refine State.streamSettle_frm (hm.le (by decide)) ?_
    | with_reducible refine State.updStrm_frm (hm.le (by decide)) ?_
    | with_reducible refine frm_ite ?_ ?_
    | fail_if_no_progress with_reducible refine frm_mk ?_
    | split

theorem execPacketCompressed_frm {lane : Fin 4} {eccError : Bool} (hm : Sub 6747171553296 m) (hgood : Frm m s0 s) : OutFrm m s0 (execPacketCompressed lane eccError s) := by
  unfold execPacketCompressed
  try dsimp only
  repeat' first
    | with_reducible assumption
    | with_reducible refine outFrm_next ?_
    | with_reducible refine outFrm_ite ?_ ?_
    | with_reducible refine State.bypass_frm (hm.le (by decide)) ?_
    | with_reducible refine State.memWrite_frm (hm.le (by decide)) ?_
    | with_reducible refine State.packetCompressed_frm (hm.le (by decide)) ?_
    | with_reducible refine State.setBit_frm (hm.le (by decide)) ?_
    | with_reducible refine State.setLane_frm (hm.le (by decide)) ?_
    | with_reducible refine State.streamSettle_frm (hm.le (by decide)) ?_
    | with_reducible refine frm_ite ?_ ?_
    | fail_if_no_progress with_reducible refine frm_mk ?_
    | split

theorem execCmpBypass_frm {x : Fin 64} (hm : Sub 6747171553297 m) (hgood : Frm m s0 s) : OutFrm m s0 (execCmpBypass x s) := by
  unfold execCmpBypass
  try dsimp only
  repeat' first
    | with_reducible assumption
    | with_reducible refine outFrm_next ?_
    | with_reducible refine outFrm_ite ?_ ?_
    | with_reducible refine State.bypass_frm (hm.le (by decide)) ?_
    | with_reducible refine State.reachUp_frm (hm.le (by decide)) ?_
    | with_reducible refine frm_ite ?_ ?_
    | fail_if_no_progress with_reducible refine frm_mk ?_
    | split

theorem State.jobFailed_frm {status : Nat} (hm : Sub 16 m) (hgood : Frm m s0 s) : Frm m s0 (State.jobFailed s status) := by
  unfold State.jobFailed
  try dsimp only
  repeat' first
    | with_reducible assumption
    | with_reducible refine State.setBit_frm (hm.le (by decide)) ?_
    | with_reducible refine State.setReg_frm (hm.le (by decide)) ?_
    | with_reducible refine frm_ite ?_ ?_
    | fail_if_no_progress with_reducible refine frm_mk ?_
    | split

theorem State.spoil_frm {d : Desc} (hm : Sub 8796629893136 m) (hgood : Frm m s0 s) : Frm m s0 (State.spoil s d) := by
  unfold State.spoil
  try dsimp only
  repeat' first
    | with_reducible assumption
    | with_reducible refine State.descWrite_frm (hm.le (by decide)) ?_
    | with_reducible refine frm_ite ?_ ?_
    | fail_if_no_progress with_reducible refine frm_mk ?_
    | split

theorem State.jobLeaves_frm {d : Desc} {failed : Bool} {history : List Byte} (hm : Sub 545259520 m) (hgood : Frm m s0 s) : Frm m s0 (State.jobLeaves s d failed history) := by
  unfold State.jobLeaves
  try dsimp only
  repeat' first
    | with_reducible assumption
    | with_reducible refine State.dropJob_frm (hm.le (by decide)) ?_
    | with_reducible refine State.take_frm (hm.le (by decide)) ?_
    | with_reducible refine frm_ite ?_ ?_
    | fail_if_no_progress with_reducible refine frm_mk ?_
    | split

theorem State.jobError_frm {d : Desc} {status : Nat} {res : List W32} (hm : Sub 8937298493456 m) (hgood : Frm m s0 s) : Frm m s0 (State.jobError s d status res) := by
  unfold State.jobError
  try dsimp only
  repeat' first
    | with_reducible assumption
    | with_reducible refine State.bump_frm (hm.le (by decide)) ?_
    | with_reducible refine State.jobFailed_frm (hm.le (by decide)) ?_
    | with_reducible refine State.jobLeaves_frm (hm.le (by decide)) ?_
    | with_reducible refine State.retire_frm (hm.le (by decide)) ?_
    | with_reducible refine State.spoil_frm (hm.le (by decide)) ?_
    | with_reducible refine frm_ite ?_ ?_
    | fail_if_no_progress with_reducible refine frm_mk ?_
    | split

theorem State.jobRefused_frm {d : Desc} {status : Nat} (hm : Sub 141205471248 m) (hgood : Frm m s0 s) : Frm m s0 (State.jobRefused s d status) := by
  unfold State.jobRefused
  try dsimp only
  repeat' first
    | with_reducible assumption
    | with_reducible refine State.jobFailed_frm (hm.le (by decide)) ?_
    | with_reducible refine State.jobLeaves_frm (hm.le (by decide)) ?_
    | with_reducible refine State.retireBad_frm (hm.le (by decide)) ?_
    | with_reducible refine frm_ite ?_ ?_
    | fail_if_no_progress with_reducible refine frm_mk ?_
    | split

theorem State.jobSigBad_frm {d : Desc} (hm : Sub 8937298493456 m) (hgood : Frm m s0 s) : Frm m s0 (State.jobSigBad s d) := by
  unfold State.jobSigBad
  try dsimp only
  repeat' first
    | with_reducible assumption
    | with_reducible refine State.jobRefused_frm (hm.le (by decide)) ?_
    | with_reducible refine State.spoil_frm (hm.le (by decide)) ?_
    | with_reducible refine frm_ite ?_ ?_
    | fail_if_no_progress with_reducible refine frm_mk ?_
    | split

theorem State.jobWrite_frm {d : Desc} {done : Nat} {out : List Byte} (hm : Sub 536870912 m) (hgood : Frm m s0 s) : Frm m s0 (State.jobWrite s d done out) := by
  unfold State.jobWrite
  try dsimp only
  repeat' first
    | with_reducible assumption
    | with_reducible refine State.hostWrite_frm (hm.le (by decide)) ?_
    | with_reducible refine frm_ite ?_ ?_
    | fail_if_no_progress with_reducible refine frm_mk ?_
    | split

theorem State.compressJob_frm {d : Desc} {done : Nat} {hist : List Byte} {src : List Byte} (hm : Sub 8937298493456 m) (hgood : Frm m s0 s) : Frm m s0 (State.compressJob s d done hist src) := by
  unfold State.compressJob
  try dsimp only
  repeat' first
    | with_reducible assumption
    | with_reducible refine State.cmpBytes_frm (hm.le (by decide)) ?_
    | with_reducible refine State.jobError_frm (hm.le (by decide)) ?_
    | with_reducible refine State.jobLeaves_frm (hm.le (by decide)) ?_
    | with_reducible refine State.jobWrite_frm (hm.le (by decide)) ?_
    | with_reducible refine State.retireOk_frm (hm.le (by decide)) ?_
    | with_reducible refine frm_ite ?_ ?_
    | fail_if_no_progress with_reducible refine frm_mk ?_
    | split

theorem State.inflateRaw_frm {d : Desc} {done : Nat} {hist : List Byte} {whole : List Byte} (hm : Sub 8937298493456 m) (hgood : Frm m s0 s) : Frm m s0 (State.inflateRaw s d done hist whole) := by
  unfold State.inflateRaw
  try dsimp only
  repeat' first
    | with_reducible assumption
    | with_reducible refine State.cmpBytes_frm (hm.le (by decide)) ?_
    | with_reducible refine State.dropJob_frm (hm.le (by decide)) ?_
    | with_reducible refine State.jobError_frm (hm.le (by decide)) ?_
    | with_reducible refine State.jobLeaves_frm (hm.le (by decide)) ?_
    | with_reducible refine State.jobSigBad_frm (hm.le (by decide)) ?_
    | with_reducible refine State.jobWrite_frm (hm.le (by decide)) ?_
    | with_reducible refine State.retireOk_frm (hm.le (by decide)) ?_
    | with_reducible refine frm_ite ?_ ?_
    | fail_if_no_progress with_reducible refine frm_mk ?_
    | split

theorem State.inflatePacket_frm {d : Desc} {done : Nat} {src : List Byte} (hm : Sub 8937298493456 m) (hgood : Frm m s0 s) : Frm m s0 (State.inflatePacket s d done src) := by
  unfold State.inflatePacket
  try dsimp only
  repeat' first
    | with_reducible assumption
    | with_reducible refine State.cmpBytes_frm (hm.le (by decide)) ?_
    | with_reducible refine State.dropJob_frm (hm.le (by decide)) ?_
    | with_reducible refine State.jobError_frm (hm.le (by decide)) ?_
    | with_reducible refine State.jobSigBad_frm (hm.le (by decide)) ?_
    | with_reducible refine State.jobWrite_frm (hm.le (by decide)) ?_
    | with_reducible refine State.retireOk_frm (hm.le (by decide)) ?_
    | with_reducible refine State.take_frm (hm.le (by decide)) ?_
    | with_reducible refine frm_ite ?_ ?_
    | fail_if_no_progress with_reducible refine frm_mk ?_
    | split

theorem State.acceptJob_frm {d : Desc} (hm : Sub 141205471248 m) (hgood : Frm m s0 s) : Frm m s0 (State.acceptJob s d) := by
  unfold State.acceptJob
  try dsimp only
  repeat' first
    | with_reducible assumption
    | with_reducible refine State.assignAll_frm (hm.le (by decide)) ?_
    | with_reducible refine State.chainPast_frm (hm.le (by decide)) ?_
    | with_reducible refine State.jobLeaves_frm (hm.le (by decide)) ?_
    | with_reducible refine State.retireBad_frm (hm.le (by decide)) ?_
    | with_reducible refine State.take_frm (hm.le (by decide)) ?_
    | with_reducible refine frm_ite ?_ ?_
    | fail_if_no_progress with_reducible refine frm_mk ?_
    | split

theorem execCompress_frm {id : Nat} (hm : Sub 141205471248 m) (hgood : Frm m s0 s) : OutFrm m s0 (execCompress id s) := by
  unfold execCompress
  try dsimp only
  repeat' first
    | with_reducible assumption
    | with_reducible refine outFrm_next ?_
    | with_reducible refine outFrm_ite ?_ ?_
    | with_reducible refine State.acceptJob_frm (hm.le (by decide)) ?_
    | with_reducible refine State.serve_frm (hm.le (by decide)) ?_ (fun _ _ _ => ?_)
    | with_reducible refine frm_ite ?_ ?_
    | fail_if_no_progress with_reducible refine frm_mk ?_
    | split

theorem execDecompress_frm {id : Nat} (hm : Sub 141205471248 m) (hgood : Frm m s0 s) : OutFrm m s0 (execDecompress id s) := by
  unfold execDecompress
  try dsimp only
  repeat' first
    | with_reducible assumption
    | with_reducible refine outFrm_next ?_
    | with_reducible refine outFrm_ite ?_ ?_
    | with_reducible refine State.acceptJob_frm (hm.le (by decide)) ?_
    | with_reducible refine State.serve_frm (hm.le (by decide)) ?_ (fun _ _ _ => ?_)
    | with_reducible refine frm_ite ?_ ?_
    | fail_if_no_progress with_reducible refine frm_mk ?_
    | split

theorem State.compressSeg_frm {d : Desc} {j : JobSt} {seg : Nat} (hm : Sub 8937298493456 m) (hgood : Frm m s0 s) : Frm m s0 (State.compressSeg s d j seg) := by
  unfold State.compressSeg
  try dsimp only
  repeat' first
    | with_reducible assumption
    | with_reducible refine State.aerReport_frm (hm.le (by decide)) ?_
    | with_reducible refine State.compressJob_frm (hm.le (by decide)) ?_
    | with_reducible refine State.jobRefused_frm (hm.le (by decide)) ?_
    | with_reducible refine State.jobWrite_frm (hm.le (by decide)) ?_
    | with_reducible refine State.take_frm (hm.le (by decide)) ?_
    | with_reducible refine State.updJob_frm (hm.le (by decide)) ?_
    | with_reducible refine frm_ite ?_ ?_
    | fail_if_no_progress with_reducible refine frm_mk ?_
    | split

theorem State.inflateSeg_frm {d : Desc} {j : JobSt} {seg : Nat} (hm : Sub 8937298493456 m) (hgood : Frm m s0 s) : Frm m s0 (State.inflateSeg s d j seg) := by
  unfold State.inflateSeg
  try dsimp only
  repeat' first
    | with_reducible assumption
    | with_reducible refine State.aerReport_frm (hm.le (by decide)) ?_
    | with_reducible refine State.inflatePacket_frm (hm.le (by decide)) ?_
    | with_reducible refine State.inflateRaw_frm (hm.le (by decide)) ?_
    | with_reducible refine State.jobRefused_frm (hm.le (by decide)) ?_
    | with_reducible refine State.jobWrite_frm (hm.le (by decide)) ?_
    | with_reducible refine State.take_frm (hm.le (by decide)) ?_
    | with_reducible refine State.updJob_frm (hm.le (by decide)) ?_
    | with_reducible refine frm_ite ?_ ?_
    | fail_if_no_progress with_reducible refine frm_mk ?_
    | split

theorem execCompressionJobDone_frm {lane : Fin 4} (hm : Sub 8937298493456 m) (hgood : Frm m s0 s) : OutFrm m s0 (execCompressionJobDone lane s) := by
  unfold execCompressionJobDone
  try dsimp only
  repeat' first
    | with_reducible assumption
    | with_reducible refine outFrm_next ?_
    | with_reducible refine outFrm_ite ?_ ?_
    | with_reducible refine State.assignAll_frm (hm.le (by decide)) ?_
    | with_reducible refine State.compressSeg_frm (hm.le (by decide)) ?_
    | with_reducible refine State.inflateSeg_frm (hm.le (by decide)) ?_
    | with_reducible refine State.setLane_frm (hm.le (by decide)) ?_
    | with_reducible refine frm_ite ?_ ?_
    | fail_if_no_progress with_reducible refine frm_mk ?_
    | split

end Sys2Proof.Machine
end

