-- ==== Sys2Proof/Laws/FrmTime.lean ====
section
/-! SUPPORT. The parts of the state each operation can change (Mantis, TwinRole, Strobe, Firefly, Links, TwinCmd). -/

namespace Sys2Proof.Machine

open Sys2Proof

set_option Elab.async false
set_option linter.unusedVariables false
set_option linter.unusedTactic false
set_option linter.unreachableTactic false

variable {m : Nat} {s0 s : State}

theorem State.condOutput_frm {c : Nat} {y : Int} {m' : Marks} {t : Tq} (hm : Sub 537395200 m) (hgood : Frm m s0 s) : Frm m s0 (State.condOutput s c y m' t) := by
  unfold State.condOutput
  try dsimp only
  repeat' first
    | with_reducible assumption
    | with_reducible refine State.setCond_frm (hm.le (by decide)) ?_
    | with_reducible refine State.take_frm (hm.le (by decide)) ?_
    | with_reducible refine frm_ite ?_ ?_
    | fail_if_no_progress with_reducible refine frm_mk ?_
    | split

theorem State.condFrame_frm {g : Nat} {outs : List (Nat × Nat × Int × Marks)} {t : Tq} (hm : Sub 537395200 m) (hgood : Frm m s0 s) : Frm m s0 (State.condFrame s g outs t) := by
  unfold State.condFrame
  try dsimp only
  repeat' first
    | with_reducible assumption
    | with_reducible refine State.condOutput_frm (hm.le (by decide)) ?_
    | with_reducible refine State.each_frm ?_ (fun _ _ _ => ?_)
    | with_reducible refine State.updCond_frm (hm.le (by decide)) ?_
    | with_reducible refine frm_ite ?_ ?_
    | fail_if_no_progress with_reducible refine frm_mk ?_
    | split

theorem State.mantisReset_frm {g : Nat} (hm : Sub 1572864 m) (hgood : Frm m s0 s) : Frm m s0 (State.mantisReset s g) := by
  unfold State.mantisReset
  try dsimp only
  repeat' first
    | with_reducible assumption
    | with_reducible refine State.each_frm ?_ (fun _ _ _ => ?_)
    | with_reducible refine State.setCond_frm (hm.le (by decide)) ?_
    | with_reducible refine State.updTrig_frm (hm.le (by decide)) ?_
    | with_reducible refine frm_ite ?_ ?_
    | fail_if_no_progress with_reducible refine frm_mk ?_
    | split

theorem State.keepGrid_frm {g : Nat} {grid : Option (Tq × Tq)} (hm : Sub 32 m) (hgood : Frm m s0 s) : Frm m s0 (State.keepGrid s g grid) := by
  unfold State.keepGrid
  try dsimp only
  repeat' first
    | with_reducible assumption
    | with_reducible refine State.setGrp_frm (hm.le (by decide)) ?_
    | with_reducible refine frm_ite ?_ ?_
    | fail_if_no_progress with_reducible refine frm_mk ?_
    | split

theorem State.copyJobs_frm (hm : Sub 4194304 m) (hgood : Frm m s0 s) : Frm m s0 (State.copyJobs s) := by
  unfold State.copyJobs
  try dsimp only
  repeat' first
    | with_reducible assumption
    | with_reducible refine frm_ite ?_ ?_
    | fail_if_no_progress with_reducible refine frm_mk ?_
    | split

theorem State.startJob_frm {j : CapJob} (hm : Sub 4194304 m) (hgood : Frm m s0 s) : Frm m s0 (State.startJob s j) := by
  unfold State.startJob
  try dsimp only
  repeat' first
    | with_reducible assumption
    | with_reducible refine State.copyJobs_frm (hm.le (by decide)) ?_
    | with_reducible refine frm_ite ?_ ?_
    | fail_if_no_progress with_reducible refine frm_mk ?_
    | split

theorem State.capEnterArmed_frm {u : Nat} (hm : Sub 2097168 m) (hgood : Frm m s0 s) : Frm m s0 (State.capEnterArmed s u) := by
  unfold State.capEnterArmed
  try dsimp only
  repeat' first
    | with_reducible assumption
    | with_reducible refine State.setCap_frm (hm.le (by decide)) ?_
    | with_reducible refine State.setReg_frm (hm.le (by decide)) ?_
    | with_reducible refine frm_ite ?_ ?_
    | fail_if_no_progress with_reducible refine frm_mk ?_
    | split

theorem State.capArm_frm {u : Nat} (hm : Sub 2097168 m) (hgood : Frm m s0 s) : Frm m s0 (State.capArm s u) := by
  unfold State.capArm
  try dsimp only
  repeat' first
    | with_reducible assumption
    | with_reducible refine State.capEnterArmed_frm (hm.le (by decide)) ?_
    | with_reducible refine frm_ite ?_ ?_
    | fail_if_no_progress with_reducible refine frm_mk ?_
    | split

theorem State.capArmAll_frm (hm : Sub 2097168 m) (hgood : Frm m s0 s) : Frm m s0 (State.capArmAll s) := by
  unfold State.capArmAll
  try dsimp only
  repeat' first
    | with_reducible assumption
    | with_reducible refine State.capArm_frm (hm.le (by decide)) ?_
    | with_reducible refine State.each_frm ?_ (fun _ _ _ => ?_)
    | with_reducible refine frm_ite ?_ ?_
    | fail_if_no_progress with_reducible refine frm_mk ?_
    | split

theorem State.capAccept_frm {u : Nat} {e : TrigEvent} {coalesced : Bool} (hm : Sub 6291456 m) (hgood : Frm m s0 s) : Frm m s0 (State.capAccept s u e coalesced) := by
  unfold State.capAccept
  try dsimp only
  repeat' first
    | with_reducible assumption
    | with_reducible refine State.setCap_frm (hm.le (by decide)) ?_
    | with_reducible refine State.startJob_frm (hm.le (by decide)) ?_
    | with_reducible refine frm_ite ?_ ?_
    | fail_if_no_progress with_reducible refine frm_mk ?_
    | split

theorem State.capJoin_frm {u : Nat} {e : TrigEvent} (hm : Sub 6291456 m) (hgood : Frm m s0 s) : Frm m s0 (State.capJoin s u e) := by
  unfold State.capJoin
  try dsimp only
  repeat' first
    | with_reducible assumption
    | with_reducible refine State.startJob_frm (hm.le (by decide)) ?_
    | with_reducible refine State.updCap_frm (hm.le (by decide)) ?_
    | with_reducible refine frm_ite ?_ ?_
    | fail_if_no_progress with_reducible refine frm_mk ?_
    | split

theorem State.capMiss_frm {u : Nat} (hm : Sub 2097168 m) (hgood : Frm m s0 s) : Frm m s0 (State.capMiss s u) := by
  unfold State.capMiss
  try dsimp only
  repeat' first
    | with_reducible assumption
    | with_reducible refine State.bump_frm (hm.le (by decide)) ?_
    | with_reducible refine State.setBit_frm (hm.le (by decide)) ?_
    | with_reducible refine State.updCap_frm (hm.le (by decide)) ?_
    | with_reducible refine frm_ite ?_ ?_
    | fail_if_no_progress with_reducible refine frm_mk ?_
    | split

theorem State.capTrigger_frm {u : Nat} {es : List TrigEvent} (hm : Sub 6291472 m) (hgood : Frm m s0 s) : Frm m s0 (State.capTrigger s u es) := by
  unfold State.capTrigger
  try dsimp only
  repeat' first
    | with_reducible assumption
    | with_reducible refine State.bump_frm (hm.le (by decide)) ?_
    | with_reducible refine State.capAccept_frm (hm.le (by decide)) ?_
    | with_reducible refine State.capJoin_frm (hm.le (by decide)) ?_
    | with_reducible refine State.capMiss_frm (hm.le (by decide)) ?_
    | with_reducible refine State.doIf_frm ?_ ?_
    | with_reducible refine State.setCap_frm (hm.le (by decide)) ?_
    | with_reducible refine frm_foldl _ (fun _ _ _ => ?_) ?_
    | with_reducible refine frm_ite ?_ ?_
    | fail_if_no_progress with_reducible refine frm_mk ?_
    | split

theorem State.capDeliver_frm {es : List TrigEvent} (hm : Sub 6291472 m) (hgood : Frm m s0 s) : Frm m s0 (State.capDeliver s es) := by
  unfold State.capDeliver
  try dsimp only
  repeat' first
    | with_reducible assumption
    | with_reducible refine State.capTrigger_frm (hm.le (by decide)) ?_
    | with_reducible refine State.each_frm ?_ (fun _ _ _ => ?_)
    | with_reducible refine frm_ite ?_ ?_
    | fail_if_no_progress with_reducible refine frm_mk ?_
    | split

theorem State.ltrigSeen_frm {f : LineTrig} (hm : Sub 541065216 m) (hgood : Frm m s0 s) : Frm m s0 (State.ltrigSeen s f) := by
  unfold State.ltrigSeen
  try dsimp only
  repeat' first
    | with_reducible assumption
    | with_reducible refine State.take_frm (hm.le (by decide)) ?_
    | with_reducible refine frm_ite ?_ ?_
    | fail_if_no_progress with_reducible refine frm_mk ?_
    | split

theorem State.ltrigSend_frm {p : Nat} {f : LineTrig} {stamped : Bool} (hm : Sub 8891924496 m) (hgood : Frm m s0 s) : Frm m s0 (State.ltrigSend s p f stamped) := by
  unfold State.ltrigSend
  try dsimp only
  repeat' first
    | with_reducible assumption
    | with_reducible refine State.sendOn_frm (hm.le (by decide)) ?_
    | with_reducible refine frm_ite ?_ ?_
    | fail_if_no_progress with_reducible refine frm_mk ?_
    | split

theorem State.originate_frm {c : Nat} {point : Tq} (hm : Sub 9432989712 m) (hgood : Frm m s0 s) : Frm m s0 (s.originate c point).1 := by
  unfold State.originate
  dsimp only
  split
  · exact hgood
  · split
    · exact State.bump_frm (hm.le (by decide)) hgood
    · exact State.each_frm (State.bump_frm (hm.le (by decide)) (State.ltrigSeen_frm (hm.le (by decide)) (frm_mk hgood))) (fun _ _ h => State.ltrigSend_frm (hm.le (by decide)) h)

theorem State.toutFire_frm {u : Nat} (hm : Sub 4194304 m) (hgood : Frm m s0 s) : Frm m s0 (State.toutFire s u) := by
  unfold State.toutFire
  try dsimp only
  repeat' first
    | with_reducible assumption
    | with_reducible refine frm_ite ?_ ?_
    | fail_if_no_progress with_reducible refine frm_mk ?_
    | split

theorem State.trigFire_frm {u : Nat} {t : Tq} {forced : Bool} (hm : Sub 9432989712 m) (hgood : Frm m s0 s) : Frm m s0 (s.trigFire u t forced).1 := by
  unfold State.trigFire
  dsimp only
  split
  · exact State.originate_frm (hm.le (by decide)) (State.toutFire_frm (hm.le (by decide)) (State.bump_frm (hm.le (by decide)) hgood))
  · exact State.toutFire_frm (hm.le (by decide)) (State.bump_frm (hm.le (by decide)) hgood)

theorem State.trigStep_frm {u conds : Nat} {t : Tq} (hm : Sub 9434038288 m) (hgood : Frm m s0 s) : Frm m s0 (s.trigStep u conds t).1 := by
  unfold State.trigStep
  dsimp only
  generalize (if s.cfgv Fld.trigKind u 0 = 0 then _ else _ : TrigSt × Bool) = r
  split
  · exact State.trigFire_frm (hm.le (by decide)) (State.setTrig_frm (hm.le (by decide)) hgood)
  · exact State.setTrig_frm (hm.le (by decide)) hgood

theorem State.trigFrame_frm {g : Nat} {t : Tq} (hm : Sub 9436135440 m) (hgood : Frm m s0 s) : Frm m s0 (s.trigFrame g t) := by
  unfold State.trigFrame
  dsimp only
  refine State.capDeliver_frm (hm.le (by decide)) (frm_foldl_fst _ ?_ hgood)
  intro u a h
  exact State.trigStep_frm (hm.le (by decide)) h

theorem State.capCount_frm {u : Nat} {status : Nat} (hm : Sub 1649804312592 m) (hgood : Frm m s0 s) : Frm m s0 (State.capCount s u status) := by
  unfold State.capCount
  try dsimp only
  repeat' first
    | with_reducible assumption
    | with_reducible refine State.bump_frm (hm.le (by decide)) ?_
    | with_reducible refine State.raise_frm (hm.le (by decide)) ?_
    | with_reducible refine State.setBit_frm (hm.le (by decide)) ?_
    | with_reducible refine frm_ite ?_ ?_
    | fail_if_no_progress with_reducible refine frm_mk ?_
    | split

theorem State.capReport_frm {j : CapJob} (hm : Sub 8891924496 m) (hgood : Frm m s0 s) : Frm m s0 (State.capReport s j) := by
  unfold State.capReport
  try dsimp only
  repeat' first
    | with_reducible assumption
    | with_reducible refine State.report_frm (hm.le (by decide)) ?_
    | with_reducible refine frm_ite ?_ ?_
    | fail_if_no_progress with_reducible refine frm_mk ?_
    | split

theorem State.capFinish_frm {j : CapJob} {d : Desc} (hm : Sub 10595453665296 m) (hgood : Frm m s0 s) : Frm m s0 (State.capFinish s j d) := by
  unfold State.capFinish
  try dsimp only
  repeat' first
    | with_reducible assumption
    | with_reducible refine State.bump_frm (hm.le (by decide)) ?_
    | with_reducible refine State.capCount_frm (hm.le (by decide)) ?_
    | with_reducible refine State.capReport_frm (hm.le (by decide)) ?_
    | with_reducible refine State.doIf_frm ?_ ?_
    | with_reducible refine State.hostWrite_frm (hm.le (by decide)) ?_
    | with_reducible refine State.retire_frm (hm.le (by decide)) ?_
    | with_reducible refine State.retireBad_frm (hm.le (by decide)) ?_
    | with_reducible refine frm_ite ?_ ?_
    | fail_if_no_progress with_reducible refine frm_mk ?_
    | split

theorem execTriggerOutEnd_frm (hm : Sub 4194305 m) (hgood : Frm m s0 s) : OutFrm m s0 (execTriggerOutEnd s) := by
  unfold execTriggerOutEnd
  try dsimp only
  repeat' first
    | with_reducible assumption
    | with_reducible refine outFrm_next ?_
    | with_reducible refine outFrm_ite ?_ ?_
    | with_reducible refine State.reachUp_frm (hm.le (by decide)) ?_
    | with_reducible refine frm_ite ?_ ?_
    | fail_if_no_progress with_reducible refine frm_mk ?_
    | split

theorem execTriggerInEdge_frm {v : Fin 2} {rising : Bool} (hm : Sub 6291473 m) (hgood : Frm m s0 s) : OutFrm m s0 (execTriggerInEdge v rising s) := by
  unfold execTriggerInEdge
  try dsimp only
  repeat' first
    | with_reducible assumption
    | with_reducible refine outFrm_next ?_
    | with_reducible refine outFrm_ite ?_ ?_
    | with_reducible refine State.capDeliver_frm (hm.le (by decide)) ?_
    | with_reducible refine State.reachUp_frm (hm.le (by decide)) ?_
    | with_reducible refine frm_ite ?_ ?_
    | fail_if_no_progress with_reducible refine frm_mk ?_
    | split

theorem execCaptureWindowEnd_frm {u : Fin 16} (hm : Sub 2097169 m) (hgood : Frm m s0 s) : OutFrm m s0 (execCaptureWindowEnd u s) := by
  unfold execCaptureWindowEnd
  try dsimp only
  repeat' first
    | with_reducible assumption
    | with_reducible refine outFrm_next ?_
    | with_reducible refine outFrm_ite ?_ ?_
    | with_reducible refine State.capArm_frm (hm.le (by decide)) ?_
    | with_reducible refine State.reach_frm (hm.le (by decide)) ?_
    | with_reducible refine State.updCap_frm (hm.le (by decide)) ?_
    | with_reducible refine frm_ite ?_ ?_
    | fail_if_no_progress with_reducible refine frm_mk ?_
    | split

theorem execCaptureCopyDone_frm {u : Fin 17} (hm : Sub 10595453665296 m) (hgood : Frm m s0 s) : OutFrm m s0 (execCaptureCopyDone u s) := by
  unfold execCaptureCopyDone
  try dsimp only
  repeat' first
    | with_reducible assumption
    | with_reducible refine outFrm_next ?_
    | with_reducible refine outFrm_ite ?_ ?_
    | with_reducible refine State.capFinish_frm (hm.le (by decide)) ?_
    | with_reducible refine frm_ite ?_ ?_
    | fail_if_no_progress with_reducible refine frm_mk ?_
    | split

theorem execCaptureArm_frm {id : Nat} (hm : Sub 141199179792 m) (hgood : Frm m s0 s) : OutFrm m s0 (execCaptureArm id s) := by
  unfold execCaptureArm
  try dsimp only
  repeat' first
    | with_reducible assumption
    | with_reducible refine outFrm_next ?_
    | with_reducible refine outFrm_ite ?_ ?_
    | with_reducible refine State.capArm_frm (hm.le (by decide)) ?_
    | with_reducible refine State.retireBad_frm (hm.le (by decide)) ?_
    | with_reducible refine State.serve_frm (hm.le (by decide)) ?_ (fun _ _ _ => ?_)
    | with_reducible refine State.take_frm (hm.le (by decide)) ?_
    | with_reducible refine State.updCap_frm (hm.le (by decide)) ?_
    | with_reducible refine frm_ite ?_ ?_
    | fail_if_no_progress with_reducible refine frm_mk ?_
    | split

theorem execCaptureRead_frm {id : Nat} (hm : Sub 8937294299152 m) (hgood : Frm m s0 s) : OutFrm m s0 (execCaptureRead id s) := by
  unfold execCaptureRead
  try dsimp only
  repeat' first
    | with_reducible assumption
    | with_reducible refine outFrm_next ?_
    | with_reducible refine outFrm_ite ?_ ?_
    | with_reducible refine State.dmaFailed_frm (hm.le (by decide)) ?_
    | with_reducible refine State.freeNext_frm (hm.le (by decide)) ?_
    | with_reducible refine State.retireBad_frm (hm.le (by decide)) ?_
    | with_reducible refine State.serve_frm (hm.le (by decide)) ?_ (fun _ _ _ => ?_)
    | with_reducible refine State.startJob_frm (hm.le (by decide)) ?_
    | with_reducible refine State.take_frm (hm.le (by decide)) ?_
    | with_reducible refine frm_ite ?_ ?_
    | fail_if_no_progress with_reducible refine frm_mk ?_
    | split

theorem execMantisForce_frm {w : W32} (hm : Sub 1048576 m) (hgood : Frm m s0 s) : OutFrm m s0 (execMantisForce w s) := by
  unfold execMantisForce
  try dsimp only
  repeat' first
    | with_reducible assumption
    | with_reducible refine outFrm_next ?_
    | with_reducible refine outFrm_ite ?_ ?_
    | with_reducible refine State.each_frm ?_ (fun _ _ _ => ?_)
    | with_reducible refine State.updTrig_frm (hm.le (by decide)) ?_
    | with_reducible refine frm_ite ?_ ?_
    | fail_if_no_progress with_reducible refine frm_mk ?_
    | split

theorem State.ltrigTake_frm {f : LineTrig} (hm : Sub 6291472 m) (hgood : Frm m s0 s) : Frm m s0 (State.ltrigTake s f) := by
  unfold State.ltrigTake
  try dsimp only
  repeat' first
    | with_reducible assumption
    | with_reducible refine State.bump_frm (hm.le (by decide)) ?_
    | with_reducible refine State.capDeliver_frm (hm.le (by decide)) ?_
    | with_reducible refine frm_ite ?_ ?_
    | fail_if_no_progress with_reducible refine frm_mk ?_
    | split

theorem execLineTrigger_frm {p : Port} {f : LineTrig} (hm : Sub 8805528109072 m) (hgood : Frm m s0 s) : OutFrm m s0 (execLineTrigger p f s) := by
  unfold execLineTrigger
  try dsimp only
  repeat' first
    | with_reducible assumption
    | with_reducible refine outFrm_next ?_
    | with_reducible refine outFrm_ite ?_ ?_
    | with_reducible refine State.bump_frm (hm.le (by decide)) ?_
    | with_reducible refine State.each_frm ?_ (fun _ _ _ => ?_)
    | with_reducible refine State.ltrigSeen_frm (hm.le (by decide)) ?_
    | with_reducible refine State.ltrigSend_frm (hm.le (by decide)) ?_
    | with_reducible refine State.ltrigTake_frm (hm.le (by decide)) ?_
    | with_reducible refine State.rxAccept_frm (hm.le (by decide)) ?_
    | with_reducible refine frm_ite ?_ ?_
    | fail_if_no_progress with_reducible refine frm_mk ?_
    | split

theorem State.excRole_frm {newlyOn : List Nat} (hm : Sub 6144 m) (hgood : Frm m s0 s) : Frm m s0 (State.excRole s newlyOn) := by
  unfold State.excRole
  try dsimp only
  repeat' first
    | with_reducible assumption
    | with_reducible refine State.excApplyAll_frm (hm.le (by decide)) ?_
    | with_reducible refine frm_ite ?_ ?_
    | fail_if_no_progress with_reducible refine frm_mk ?_
    | split

theorem State.giveUpCommit_frm (hm : Sub 145492049936 m) (hgood : Frm m s0 s) : Frm m s0 (State.giveUpCommit s) := by
  unfold State.giveUpCommit
  try dsimp only
  repeat' first
    | with_reducible assumption
    | with_reducible refine State.retireBad_frm (hm.le (by decide)) ?_
    | with_reducible refine frm_ite ?_ ?_
    | fail_if_no_progress with_reducible refine frm_mk ?_
    | split

theorem State.setRole_frm {r : Role} {newlyOn : List Nat} (hm : Sub 154086184976 m) (hgood : Frm m s0 s) : Frm m s0 (State.setRole s r newlyOn) := by
  unfold State.setRole
  try dsimp only
  repeat' first
    | with_reducible assumption
    | with_reducible refine State.doIf_frm ?_ ?_
    | with_reducible refine State.each_frm ?_ (fun _ _ _ => ?_)
    | with_reducible refine State.excRole_frm (hm.le (by decide)) ?_
    | with_reducible refine State.giveUpCommit_frm (hm.le (by decide)) ?_
    | with_reducible refine State.setBit_frm (hm.le (by decide)) ?_
    | with_reducible refine State.updExc_frm (hm.le (by decide)) ?_
    | with_reducible refine frm_ite ?_ ?_
    | fail_if_no_progress with_reducible refine frm_mk ?_
    | split

theorem State.seizeTaken_frm (hm : Sub 154388174864 m) (hgood : Frm m s0 s) : Frm m s0 (State.seizeTaken s) := by
  unfold State.seizeTaken
  try dsimp only
  repeat' first
    | with_reducible assumption
    | with_reducible refine State.sendHealth_frm (hm.le (by decide)) ?_
    | with_reducible refine State.setRole_frm (hm.le (by decide)) ?_
    | with_reducible refine frm_ite ?_ ?_
    | fail_if_no_progress with_reducible refine frm_mk ?_
    | split

theorem State.setReasons_frm {r : BitVec 16} (hm : Sub 10599748638736 m) (hgood : Frm m s0 s) : Frm m s0 (State.setReasons s r) := by
  unfold State.setReasons
  try dsimp only
  repeat' first
    | with_reducible assumption
    | with_reducible refine State.endHandling_frm (hm.le (by decide)) ?_
    | with_reducible refine State.raise_frm (hm.le (by decide)) ?_
    | with_reducible refine State.raiseBare_frm (hm.le (by decide)) ?_
    | with_reducible refine State.sendHealth_frm (hm.le (by decide)) ?_
    | with_reducible refine State.setRole_frm (hm.le (by decide)) ?_
    | with_reducible refine frm_ite ?_ ?_
    | fail_if_no_progress with_reducible refine frm_mk ?_
    | split

theorem State.addReason_frm {bits : List Nat} (hm : Sub 10599748638736 m) (hgood : Frm m s0 s) : Frm m s0 (State.addReason s bits) := by
  unfold State.addReason
  try dsimp only
  repeat' first
    | with_reducible assumption
    | with_reducible refine State.setReasons_frm (hm.le (by decide)) ?_
    | with_reducible refine frm_ite ?_ ?_
    | fail_if_no_progress with_reducible refine frm_mk ?_
    | split

theorem State.dropReason_frm {bits : List Nat} (hm : Sub 10599748638736 m) (hgood : Frm m s0 s) : Frm m s0 (State.dropReason s bits) := by
  unfold State.dropReason
  try dsimp only
  repeat' first
    | with_reducible assumption
    | with_reducible refine State.setReasons_frm (hm.le (by decide)) ?_
    | with_reducible refine frm_ite ?_ ?_
    | fail_if_no_progress with_reducible refine frm_mk ?_
    | split

theorem State.putReason_frm {bit : Nat} {on : Bool} (hm : Sub 10599748638736 m) (hgood : Frm m s0 s) : Frm m s0 (State.putReason s bit on) := by
  unfold State.putReason
  try dsimp only
  repeat' first
    | with_reducible assumption
    | with_reducible refine State.addReason_frm (hm.le (by decide)) ?_
    | with_reducible refine State.dropReason_frm (hm.le (by decide)) ?_
    | with_reducible refine frm_ite ?_ ?_
    | fail_if_no_progress with_reducible refine frm_mk ?_
    | split

theorem State.enterUnfit_frm {bits : List Nat} (hm : Sub 154388174864 m) (hgood : Frm m s0 s) : Frm m s0 (State.enterUnfit s bits) := by
  unfold State.enterUnfit
  try dsimp only
  repeat' first
    | with_reducible assumption
    | with_reducible refine State.sendHealth_frm (hm.le (by decide)) ?_
    | with_reducible refine State.setRole_frm (hm.le (by decide)) ?_
    | with_reducible refine frm_ite ?_ ?_
    | fail_if_no_progress with_reducible refine frm_mk ?_
    | split

theorem State.cutOpen_frm {x : Nat} {seq : W32} {p : Packet} {frames : List PktFrame} {rest : List PktFrame} {behind : List Packet} (hm : Sub 32768 m) (hgood : Frm m s0 s) : Frm m s0 (State.cutOpen s x seq p frames rest behind) := by
  unfold State.cutOpen
  try dsimp only
  repeat' first
    | with_reducible assumption
    | with_reducible refine State.setStrm_frm (hm.le (by decide)) ?_
    | with_reducible refine frm_ite ?_ ?_
    | fail_if_no_progress with_reducible refine frm_mk ?_
    | split

theorem State.cutGap_frm {x : Nat} {e : SyncEntry} {k : Nat} {t : Nat} (hm : Sub 32768 m) (hgood : Frm m s0 s) : Frm m s0 (State.cutGap s x e k t) := by
  unfold State.cutGap
  try dsimp only
  repeat' first
    | with_reducible assumption
    | with_reducible refine State.setStrm_frm (hm.le (by decide)) ?_
    | with_reducible refine frm_ite ?_ ?_
    | fail_if_no_progress with_reducible refine frm_mk ?_
    | split

theorem State.coverTo_frm {x : Nat} {seq : W32} (hm : Sub 32768 m) (hgood : Frm m s0 s) : Frm m s0 (State.coverTo s x seq) := by
  unfold State.coverTo
  try dsimp only
  repeat' first
    | with_reducible assumption
    | with_reducible refine State.updStrm_frm (hm.le (by decide)) ?_
    | with_reducible refine frm_ite ?_ ?_
    | fail_if_no_progress with_reducible refine frm_mk ?_
    | split

theorem State.resyncEnd_frm (hm : Sub 10599748638736 m) (hgood : Frm m s0 s) : Frm m s0 (State.resyncEnd s) := by
  unfold State.resyncEnd
  try dsimp only
  repeat' first
    | with_reducible assumption
    | with_reducible refine State.dropReason_frm (hm.le (by decide)) ?_
    | with_reducible refine frm_ite ?_ ?_
    | fail_if_no_progress with_reducible refine frm_mk ?_
    | split

theorem State.applyEntry_frm {e : SyncEntry} {t : State} (h : s.applyEntry e = some t) (hm : Sub 17196818602000 m) (hgood : Frm m s0 s) : Frm m s0 t := by
  unfold State.applyEntry at h
  dsimp only at h
  split at h
  · split at h
    · cases h
      exact State.placeAll_frm (hm.le (by decide)) (State.updStrm_frm (hm.le (by decide)) (State.cutOpen_frm (hm.le (by decide)) hgood))
    · split at h
      · cases h
        exact State.updStrm_frm (hm.le (by decide)) hgood
      · cases h
  · obtain ⟨g, _, rfl⟩ := Option.map_eq_some_iff.mp h
    exact State.placeAll_frm (hm.le (by decide)) (State.cutGap_frm (hm.le (by decide)) hgood)
  · cases h
    exact State.resyncEnd_frm (hm.le (by decide)) (State.coverTo_frm (hm.le (by decide)) hgood)
  · cases h
    exact frm_mk hgood

theorem State.leaveEntry_frm {e : SyncEntry} {t : State} (h : s.leaveEntry e = some t) (hm : Sub 32768 m) (hgood : Frm m s0 s) : Frm m s0 t := by
  unfold State.leaveEntry at h
  dsimp only at h
  split at h
  · split at h
    · cases h
      exact State.setStrm_frm (hm.le (by decide)) hgood
    · split at h
      · cases h
        exact State.setStrm_frm (hm.le (by decide)) hgood
      · cases h
  · obtain ⟨g, _, rfl⟩ := Option.map_eq_some_iff.mp h
    exact State.setStrm_frm (hm.le (by decide)) hgood
  · cases h
    exact hgood

theorem State.takeEntry_frm {e : SyncEntry} {t : State} (h : s.takeEntry e = some t) (hm : Sub 17196818602000 m) (hgood : Frm m s0 s) : Frm m s0 t := by
  unfold State.takeEntry at h
  split at h
  · exact State.applyEntry_frm h (hm.le (by decide)) hgood
  · split at h
    · exact State.leaveEntry_frm h (hm.le (by decide)) hgood
    · cases h
      exact hgood

theorem applyEntries_frm {es : List SyncEntry} (hm : Sub 17196818602000 m) : ∀ {stuck : List (Fin 64)} {s : State}, Frm m s0 s → Frm m s0 (applyEntries es stuck s) := by
  induction es with
  | nil => intro stuck s h; exact h
  | cons e es ih =>
    intro stuck s h
    unfold applyEntries
    dsimp only
    split
    · exact ih (frm_mk h)
    · split
      · rename_i t ht
        exact ih (State.takeEntry_frm ht (hm.le (by decide)) h)
      · exact ih (frm_mk h)

theorem reAppend_frm {x : Nat} {fs : List PktFrame} (hm : Sub 6747171553296 m) : ∀ {pend : List LossSt} {s : State}, Frm m s0 s → Frm m s0 (reAppend x fs pend s) := by
  induction fs with
  | nil => intro pend s h; exact State.updStrm_frm (hm.le (by decide)) h
  | cons f fs ih => intro pend s h; exact ih (State.appendFrame_frm (hm.le (by decide)) (State.updStrm_frm (hm.le (by decide)) h))

theorem reAppendRuns_frm {x : Nat} {ps : List Packet} (hm : Sub 6747171553296 m) : ∀ {pend : List LossSt} {s : State}, Frm m s0 s → Frm m s0 (reAppendRuns x ps pend s) := by
  induction ps with
  | nil => intro pend s h; exact reAppend_frm (hm.le (by decide)) h
  | cons p ps ih =>
    intro pend s h
    unfold reAppendRuns
    dsimp only
    refine ih (frm_ite ?_ (State.closePacket_frm (hm.le (by decide)) ?_)) <;> exact reAppend_frm (hm.le (by decide)) (State.updStrm_frm (hm.le (by decide)) h)

theorem State.adoptStream_frm {x : Nat} (hm : Sub 6747171553296 m) (hgood : Frm m s0 s) : Frm m s0 (State.adoptStream s x) := by
  unfold State.adoptStream
  try dsimp only
  repeat' first
    | with_reducible assumption
    | with_reducible refine State.closePacket_frm (hm.le (by decide)) ?_
    | with_reducible refine State.setStrm_frm (hm.le (by decide)) ?_
    | with_reducible refine State.streamSettle_frm (hm.le (by decide)) ?_
    | with_reducible refine State.updStrm_frm (hm.le (by decide)) ?_
    | with_reducible refine reAppendRuns_frm (hm.le (by decide)) ?_
    | with_reducible refine frm_ite ?_ ?_
    | fail_if_no_progress with_reducible refine frm_mk ?_
    | split

theorem State.swapStream_frm {x : Nat} (hm : Sub 6747171553296 m) (hgood : Frm m s0 s) : Frm m s0 (State.swapStream s x) := by
  unfold State.swapStream
  try dsimp only
  repeat' first
    | with_reducible assumption
    | with_reducible refine State.adoptStream_frm (hm.le (by decide)) ?_
    | with_reducible refine State.updStrm_frm (hm.le (by decide)) ?_
    | with_reducible refine frm_ite ?_ ?_
    | fail_if_no_progress with_reducible refine frm_mk ?_
    | split

theorem State.endAwaits_frm (hm : Sub 6747171553296 m) (hgood : Frm m s0 s) : Frm m s0 (State.endAwaits s) := by
  unfold State.endAwaits
  try dsimp only
  repeat' first
    | with_reducible assumption
    | with_reducible refine State.adoptStream_frm (hm.le (by decide)) ?_
    | with_reducible refine State.doIf_frm ?_ ?_
    | with_reducible refine State.each_frm ?_ (fun _ _ _ => ?_)
    | with_reducible refine frm_ite ?_ ?_
    | fail_if_no_progress with_reducible refine frm_mk ?_
    | split

theorem State.dropAwaits_frm (hm : Sub 6747171553296 m) (hgood : Frm m s0 s) : Frm m s0 (State.dropAwaits s) := by
  unfold State.dropAwaits
  try dsimp only
  repeat' first
    | with_reducible assumption
    | with_reducible refine State.adoptStream_frm (hm.le (by decide)) ?_
    | with_reducible refine State.each_frm ?_ (fun _ _ _ => ?_)
    | with_reducible refine State.updStrm_frm (hm.le (by decide)) ?_
    | with_reducible refine frm_ite ?_ ?_
    | fail_if_no_progress with_reducible refine frm_mk ?_
    | split

theorem State.followCuts_frm (hm : Sub 17196826990608 m) (hgood : Frm m s0 s) : Frm m s0 (State.followCuts s) := by
  unfold State.followCuts
  try dsimp only
  repeat' first
    | with_reducible assumption
    | with_reducible refine State.endAwaits_frm (hm.le (by decide)) ?_
    | with_reducible refine applyEntries_frm (hm.le (by decide)) ?_
    | with_reducible refine frm_ite ?_ ?_
    | fail_if_no_progress with_reducible refine frm_mk ?_
    | split

theorem State.adoptTrigSeq_frm (hm : Sub 4194304 m) (hgood : Frm m s0 s) : Frm m s0 (State.adoptTrigSeq s) := by
  unfold State.adoptTrigSeq
  try dsimp only
  repeat' first
    | with_reducible assumption
    | with_reducible refine frm_ite ?_ ?_
    | fail_if_no_progress with_reducible refine frm_mk ?_
    | split

theorem State.adoptData_frm {swap : Bool} (hm : Sub 6747173650448 m) (hgood : Frm m s0 s) : Frm m s0 (State.adoptData s swap) := by
  unfold State.adoptData
  try dsimp only
  repeat' first
    | with_reducible assumption
    | with_reducible refine State.adoptStream_frm (hm.le (by decide)) ?_
    | with_reducible refine State.each_frm ?_ (fun _ _ _ => ?_)
    | with_reducible refine State.swapStream_frm (hm.le (by decide)) ?_
    | with_reducible refine State.updCap_frm (hm.le (by decide)) ?_
    | with_reducible refine frm_ite ?_ ?_
    | fail_if_no_progress with_reducible refine frm_mk ?_
    | split

theorem State.takeover_frm (hm : Sub 8417915934736 m) (hgood : Frm m s0 s) : Frm m s0 (State.takeover s) := by
  unfold State.takeover
  try dsimp only
  repeat' first
    | with_reducible assumption
    | with_reducible refine State.adoptData_frm (hm.le (by decide)) ?_
    | with_reducible refine State.adoptTrigSeq_frm (hm.le (by decide)) ?_
    | with_reducible refine State.bump_frm (hm.le (by decide)) ?_
    | with_reducible refine State.capArmAll_frm (hm.le (by decide)) ?_
    | with_reducible refine State.endHandling_frm (hm.le (by decide)) ?_
    | with_reducible refine State.raise_frm (hm.le (by decide)) ?_
    | with_reducible refine State.sendHealth_frm (hm.le (by decide)) ?_
    | with_reducible refine State.setBit_frm (hm.le (by decide)) ?_
    | with_reducible refine State.setReg64_frm (hm.le (by decide)) ?_
    | with_reducible refine State.setRole_frm (hm.le (by decide)) ?_
    | with_reducible refine State.vaultTake_frm (hm.le (by decide)) ?_
    | with_reducible refine frm_ite ?_ ?_
    | fail_if_no_progress with_reducible refine frm_mk ?_
    | split

theorem State.activeLost_frm (hm : Sub 8417915934736 m) (hgood : Frm m s0 s) : Frm m s0 (State.activeLost s) := by
  unfold State.activeLost
  try dsimp only
  repeat' first
    | with_reducible assumption
    | with_reducible refine State.takeover_frm (hm.le (by decide)) ?_
    | with_reducible refine frm_ite ?_ ?_
    | fail_if_no_progress with_reducible refine frm_mk ?_
    | split

theorem State.armPair_frm {own : Bool} {k : Option Nat} (hm : Sub 13186891792 m) (hgood : Frm m s0 s) : Frm m s0 (State.armPair s own k) := by
  unfold State.armPair
  try dsimp only
  repeat' first
    | with_reducible assumption
    | with_reducible refine State.armFlip_frm (hm.le (by decide)) ?_
    | with_reducible refine State.sendOn_frm (hm.le (by decide)) ?_
    | with_reducible refine frm_ite ?_ ?_
    | fail_if_no_progress with_reducible refine frm_mk ?_
    | split

theorem State.nameFrame_frm {g : Nat} {k : Nat} {edge : Tq} (hm : Sub 13186891792 m) (hgood : Frm m s0 s) : Frm m s0 (State.nameFrame s g k edge) := by
  unfold State.nameFrame
  try dsimp only
  repeat' first
    | with_reducible assumption
    | with_reducible refine State.armPair_frm (hm.le (by decide)) ?_
    | with_reducible refine frm_ite ?_ ?_
    | fail_if_no_progress with_reducible refine frm_mk ?_
    | split

theorem State.stuckEdge_frm (hm : Sub 8891924496 m) (hgood : Frm m s0 s) : Frm m s0 (State.stuckEdge s) := by
  unfold State.stuckEdge
  try dsimp only
  repeat' first
    | with_reducible assumption
    | with_reducible refine State.sendHealth_frm (hm.le (by decide)) ?_
    | with_reducible refine frm_ite ?_ ?_
    | fail_if_no_progress with_reducible refine frm_mk ?_
    | split

theorem State.groupChainsReset_frm {g : Nat} (hm : Sub 8192 m) (hgood : Frm m s0 s) : Frm m s0 (State.groupChainsReset s g) := by
  unfold State.groupChainsReset
  try dsimp only
  repeat' first
    | with_reducible assumption
    | with_reducible refine State.chainReset_frm (hm.le (by decide)) ?_
    | with_reducible refine State.each_frm ?_ (fun _ _ _ => ?_)
    | with_reducible refine frm_ite ?_ ?_
    | fail_if_no_progress with_reducible refine frm_mk ?_
    | split

theorem State.groupAnew_frm {g : Nat} (hm : Sub 1581056 m) (hgood : Frm m s0 s) : Frm m s0 (State.groupAnew s g) := by
  unfold State.groupAnew
  try dsimp only
  repeat' first
    | with_reducible assumption
    | with_reducible refine State.groupChainsReset_frm (hm.le (by decide)) ?_
    | with_reducible refine State.mantisReset_frm (hm.le (by decide)) ?_
    | with_reducible refine frm_ite ?_ ?_
    | fail_if_no_progress with_reducible refine frm_mk ?_
    | split

theorem State.groupAnewDue_frm {g : Nat} (hm : Sub 1581088 m) (hgood : Frm m s0 s) : Frm m s0 (State.groupAnewDue s g) := by
  unfold State.groupAnewDue
  try dsimp only
  repeat' first
    | with_reducible assumption
    | with_reducible refine State.groupAnew_frm (hm.le (by decide)) ?_
    | with_reducible refine State.updGrp_frm (hm.le (by decide)) ?_
    | with_reducible refine frm_ite ?_ ?_
    | fail_if_no_progress with_reducible refine frm_mk ?_
    | split

theorem State.startGroup_frm {g : Nat} {at_ : Tq} (hm : Sub 1613856 m) (hgood : Frm m s0 s) : Frm m s0 (State.startGroup s g at_) := by
  unfold State.startGroup
  try dsimp only
  repeat' first
    | with_reducible assumption
    | with_reducible refine State.doIf_frm ?_ ?_
    | with_reducible refine State.groupAnewDue_frm (hm.le (by decide)) ?_
    | with_reducible refine State.renumberLosses_frm (hm.le (by decide)) ?_
    | with_reducible refine State.updGrp_frm (hm.le (by decide)) ?_
    | with_reducible refine frm_ite ?_ ?_
    | fail_if_no_progress with_reducible refine frm_mk ?_
    | split

theorem State.stopGroup_frm {g : Nat} {mode : GroupMode} (hm : Sub 32 m) (hgood : Frm m s0 s) : Frm m s0 (State.stopGroup s g mode) := by
  unfold State.stopGroup
  try dsimp only
  repeat' first
    | with_reducible assumption
    | with_reducible refine State.updGrp_frm (hm.le (by decide)) ?_
    | with_reducible refine frm_ite ?_ ?_
    | fail_if_no_progress with_reducible refine frm_mk ?_
    | split

theorem State.latchCore_frm {n : Nat} (hm : Sub 640 m) (hgood : Frm m s0 s) : Frm m s0 (State.latchCore s n) := by
  unfold State.latchCore
  try dsimp only
  repeat' first
    | with_reducible assumption
    | with_reducible refine State.each_frm ?_ (fun _ _ _ => ?_)
    | with_reducible refine State.setCore_frm (hm.le (by decide)) ?_
    | with_reducible refine State.setRes_frm (hm.le (by decide)) ?_
    | with_reducible refine State.updCore_frm (hm.le (by decide)) ?_
    | with_reducible refine frm_ite ?_ ?_
    | fail_if_no_progress with_reducible refine frm_mk ?_
    | split

theorem State.groupHole_frm {g : Nat} {from_ : Tq} {upto : Tq} (hm : Sub 17181728784 m) (hgood : Frm m s0 s) : Frm m s0 (State.groupHole s g from_ upto) := by
  unfold State.groupHole
  try dsimp only
  repeat' first
    | with_reducible assumption
    | with_reducible refine State.bump_frm (hm.le (by decide)) ?_
    | with_reducible refine State.each_frm ?_ (fun _ _ _ => ?_)
    | with_reducible refine State.groupChainsReset_frm (hm.le (by decide)) ?_
    | with_reducible refine State.mainsHole_frm (hm.le (by decide)) ?_
    | with_reducible refine State.mantisReset_frm (hm.le (by decide)) ?_
    | with_reducible refine State.statHole_frm (hm.le (by decide)) ?_
    | with_reducible refine State.vaultHole_frm (hm.le (by decide)) ?_
    | with_reducible refine frm_ite ?_ ?_
    | fail_if_no_progress with_reducible refine frm_mk ?_
    | split

theorem State.peerEvent_frm {g : Nat} (hm : Sub 32 m) (hgood : Frm m s0 s) : Frm m s0 (State.peerEvent s g) := by
  unfold State.peerEvent
  try dsimp only
  repeat' first
    | with_reducible assumption
    | with_reducible refine State.updGrp_frm (hm.le (by decide)) ?_
    | with_reducible refine frm_ite ?_ ?_
    | fail_if_no_progress with_reducible refine frm_mk ?_
    | split

theorem State.takeEdge_frm {g : Nat} {k : Nat} {edge : Tq} {e : EdgeSample} (hm : Sub 8272947740400 m) (hgood : Frm m s0 s) : Frm m s0 (State.takeEdge s g k edge e) := by
  unfold State.takeEdge
  try dsimp only
  repeat' first
    | with_reducible assumption
    | with_reducible refine State.ainEdge_frm (hm.le (by decide)) ?_
    | with_reducible refine State.each_frm ?_ (fun _ _ _ => ?_)
    | with_reducible refine State.excEdge_frm (hm.le (by decide)) ?_
    | with_reducible refine State.groupHole_frm (hm.le (by decide)) ?_
    | with_reducible refine State.latchCore_frm (hm.le (by decide)) ?_
    | with_reducible refine State.oneCycle_frm (hm.le (by decide)) ?_ (fun _ _ => ?_)
    | with_reducible refine State.peerEvent_frm (hm.le (by decide)) ?_
    | with_reducible refine State.setEdge_frm (hm.le (by decide)) ?_
    | with_reducible refine State.setGrp_frm (hm.le (by decide)) ?_
    | with_reducible refine State.stuckEdge_frm (hm.le (by decide)) ?_
    | with_reducible refine frm_ite ?_ ?_
    | fail_if_no_progress with_reducible refine frm_mk ?_
    | split

theorem execStrobeEdge_frm {g : Group} {e : EdgeSample} (hm : Sub 8341667217137 m) (hgood : Frm m s0 s) : OutFrm m s0 (execStrobeEdge g e s) := by
  unfold execStrobeEdge
  try dsimp only
  repeat' first
    | with_reducible assumption
    | with_reducible refine outFrm_next ?_
    | with_reducible refine outFrm_ite ?_ ?_
    | with_reducible refine State.pllRunAgo_frm (hm.le (by decide)) ?_
    | with_reducible refine State.reach_frm (hm.le (by decide)) ?_
    | with_reducible refine State.takeEdge_frm (hm.le (by decide)) ?_
    | with_reducible refine frm_ite ?_ ?_
    | fail_if_no_progress with_reducible refine frm_mk ?_
    | split

theorem execStrobeEvent_frm {g : Group} {sources : List EventSource} (hm : Sub 2096 m) (hgood : Frm m s0 s) : OutFrm m s0 (execStrobeEvent g sources s) := by
  unfold execStrobeEvent
  try dsimp only
  repeat' first
    | with_reducible assumption
    | with_reducible refine outFrm_next ?_
    | with_reducible refine outFrm_ite ?_ ?_
    | with_reducible refine State.bump_frm (hm.le (by decide)) ?_
    | with_reducible refine State.doIf_frm ?_ ?_
    | with_reducible refine State.excCut_frm (hm.le (by decide)) ?_
    | with_reducible refine State.updGrp_frm (hm.le (by decide)) ?_
    | with_reducible refine frm_ite ?_ ?_
    | fail_if_no_progress with_reducible refine frm_mk ?_
    | split

theorem execEventStrobeEdge_frm {g : Group} {e : EdgeSample} (hm : Sub 8277242707697 m) (hgood : Frm m s0 s) : OutFrm m s0 (execEventStrobeEdge g e s) := by
  unfold execEventStrobeEdge
  try dsimp only
  repeat' first
    | with_reducible assumption
    | with_reducible refine outFrm_next ?_
    | with_reducible refine outFrm_ite ?_ ?_
    | with_reducible refine State.nameFrame_frm (hm.le (by decide)) ?_
    | with_reducible refine State.reachUp_frm (hm.le (by decide)) ?_
    | with_reducible refine State.takeEdge_frm (hm.le (by decide)) ?_
    | with_reducible refine State.updGrp_frm (hm.le (by decide)) ?_
    | with_reducible refine frm_ite ?_ ?_
    | fail_if_no_progress with_reducible refine frm_mk ?_
    | split

theorem execStarved_frm {g : Group} (hm : Sub 1649804312625 m) (hgood : Frm m s0 s) : OutFrm m s0 (execStarved g s) := by
  unfold execStarved
  try dsimp only
  repeat' first
    | with_reducible assumption
    | with_reducible refine outFrm_next ?_
    | with_reducible refine outFrm_ite ?_ ?_
    | with_reducible refine State.raise_frm (hm.le (by decide)) ?_
    | with_reducible refine State.reachUp_frm (hm.le (by decide)) ?_
    | with_reducible refine State.setGrp_frm (hm.le (by decide)) ?_
    | with_reducible refine frm_ite ?_ ?_
    | fail_if_no_progress with_reducible refine frm_mk ?_
    | split

theorem State.gridStepped_frm {g : Nat} {old : Tq} (hm : Sub 6747171553328 m) (hgood : Frm m s0 s) : Frm m s0 (State.gridStepped s g old) := by
  unfold State.gridStepped
  try dsimp only
  repeat' first
    | with_reducible assumption
    | with_reducible refine State.loseGroup_frm (hm.le (by decide)) ?_
    | with_reducible refine State.setGrp_frm (hm.le (by decide)) ?_
    | with_reducible refine State.updGrp_frm (hm.le (by decide)) ?_
    | with_reducible refine frm_ite ?_ ?_
    | fail_if_no_progress with_reducible refine frm_mk ?_
    | split

theorem State.timeStepped_frm {old : Tq} (hm : Sub 6747171553328 m) (hgood : Frm m s0 s) : Frm m s0 (State.timeStepped s old) := by
  unfold State.timeStepped
  try dsimp only
  repeat' first
    | with_reducible assumption
    | with_reducible refine State.gridStepped_frm (hm.le (by decide)) ?_
    | with_reducible refine frm_ite ?_ ?_
    | fail_if_no_progress with_reducible refine frm_mk ?_
    | split

theorem State.dropProg_frm {p : Option PulseProg} {retired : Bool} {status : Nat} (hm : Sub 141197082640 m) (hgood : Frm m s0 s) : Frm m s0 (State.dropProg s p retired status) := by
  unfold State.dropProg
  try dsimp only
  repeat' first
    | with_reducible assumption
    | with_reducible refine State.retireBad_frm (hm.le (by decide)) ?_
    | with_reducible refine frm_ite ?_ ?_
    | fail_if_no_progress with_reducible refine frm_mk ?_
    | split

theorem State.dropProgs_frm {ps : List PulseProg} {status : Nat} (hm : Sub 141197082640 m) (hgood : Frm m s0 s) : Frm m s0 (State.dropProgs s ps status) := by
  unfold State.dropProgs
  try dsimp only
  repeat' first
    | with_reducible assumption
    | with_reducible refine State.dropProg_frm (hm.le (by decide)) ?_
    | with_reducible refine State.each_frm ?_ (fun _ _ _ => ?_)
    | with_reducible refine frm_ite ?_ ?_
    | fail_if_no_progress with_reducible refine frm_mk ?_
    | split

theorem State.pulseStop_frm {k : Nat} {status : Nat} (hm : Sub 141331300368 m) (hgood : Frm m s0 s) : Frm m s0 (State.pulseStop s k status) := by
  unfold State.pulseStop
  try dsimp only
  repeat' first
    | with_reducible assumption
    | with_reducible refine State.dropProg_frm (hm.le (by decide)) ?_
    | with_reducible refine State.dropProgs_frm (hm.le (by decide)) ?_
    | with_reducible refine State.setPulse_frm (hm.le (by decide)) ?_
    | with_reducible refine frm_ite ?_ ?_
    | fail_if_no_progress with_reducible refine frm_mk ?_
    | split

theorem State.pulseStopAll_frm {status : Nat} (hm : Sub 141331300368 m) (hgood : Frm m s0 s) : Frm m s0 (State.pulseStopAll s status) := by
  unfold State.pulseStopAll
  try dsimp only
  repeat' first
    | with_reducible assumption
    | with_reducible refine State.each_frm ?_ (fun _ _ _ => ?_)
    | with_reducible refine State.pulseStop_frm (hm.le (by decide)) ?_
    | with_reducible refine frm_ite ?_ ?_
    | fail_if_no_progress with_reducible refine frm_mk ?_
    | split

theorem State.pulseSwitch_frm {k : Nat} {n : PulseProg} (hm : Sub 141331300368 m) (hgood : Frm m s0 s) : Frm m s0 (State.pulseSwitch s k n) := by
  unfold State.pulseSwitch
  try dsimp only
  repeat' first
    | with_reducible assumption
    | with_reducible refine State.dropProg_frm (hm.le (by decide)) ?_
    | with_reducible refine State.dropProgs_frm (hm.le (by decide)) ?_
    | with_reducible refine State.setPulse_frm (hm.le (by decide)) ?_
    | with_reducible refine frm_ite ?_ ?_
    | fail_if_no_progress with_reducible refine frm_mk ?_
    | split

theorem State.pulsePass_frm {k : Nat} {now : Nat} (hm : Sub 141331300368 m) (hgood : Frm m s0 s) : Frm m s0 (State.pulsePass s k now) := by
  unfold State.pulsePass
  try dsimp only
  repeat' first
    | with_reducible assumption
    | with_reducible refine State.bumpBy_frm (hm.le (by decide)) ?_
    | with_reducible refine State.dropProg_frm (hm.le (by decide)) ?_
    | with_reducible refine State.setBit_frm (hm.le (by decide)) ?_
    | with_reducible refine State.setPulse_frm (hm.le (by decide)) ?_
    | with_reducible refine frm_ite ?_ ?_
    | fail_if_no_progress with_reducible refine frm_mk ?_
    | split

theorem State.pulseTurns_frm {k n : Nat} (hm : Sub 141331300368 m) : ∀ {s : State}, Frm m s0 s → Frm m s0 (s.pulseTurns k n) := by
  induction n with
  | zero => intro s h; exact h
  | succ n ih =>
    intro s h
    unfold State.pulseTurns
    split
    · exact frm_ite (ih (State.pulseSwitch_frm (hm.le (by decide)) (State.pulsePass_frm (hm.le (by decide)) h))) h
    · exact h

theorem State.pulseStepped_frm {k : Nat} (hm : Sub 141331300368 m) (hgood : Frm m s0 s) : Frm m s0 (State.pulseStepped s k) := by
  unfold State.pulseStepped
  try dsimp only
  repeat' first
    | with_reducible assumption
    | with_reducible refine State.dropProg_frm (hm.le (by decide)) ?_
    | with_reducible refine State.dropProgs_frm (hm.le (by decide)) ?_
    | with_reducible refine State.pulsePass_frm (hm.le (by decide)) ?_
    | with_reducible refine State.pulseTurns_frm (hm.le (by decide)) ?_
    | with_reducible refine State.setPulse_frm (hm.le (by decide)) ?_
    | with_reducible refine frm_ite ?_ ?_
    | fail_if_no_progress with_reducible refine frm_mk ?_
    | split

theorem State.jobsStepped_frm (hm : Sub 141201276944 m) (hgood : Frm m s0 s) : Frm m s0 (State.jobsStepped s) := by
  unfold State.jobsStepped
  try dsimp only
  repeat' first
    | with_reducible assumption
    | with_reducible refine State.each_frm ?_ (fun _ _ _ => ?_)
    | with_reducible refine State.retireBad_frm (hm.le (by decide)) ?_
    | with_reducible refine frm_ite ?_ ?_
    | fail_if_no_progress with_reducible refine frm_mk ?_
    | split

theorem State.slewBy_frm {c : Int} {interval : Nat} (hm : Sub 1 m) (hgood : Frm m s0 s) : Frm m s0 (State.slewBy s c interval) := by
  unfold State.slewBy
  try dsimp only
  repeat' first
    | with_reducible assumption
    | with_reducible refine frm_ite ?_ ?_
    | fail_if_no_progress with_reducible refine frm_mk ?_
    | split

theorem State.setCount_frm {t : Tq} (hm : Sub 1 m) (hgood : Frm m s0 s) : Frm m s0 (State.setCount s t) := by
  unfold State.setCount
  try dsimp only
  repeat' first
    | with_reducible assumption
    | with_reducible refine frm_ite ?_ ?_
    | fail_if_no_progress with_reducible refine frm_mk ?_
    | split

theorem State.afterStep_frm {old : Tq} (hm : Sub 6747305771056 m) (hgood : Frm m s0 s) : Frm m s0 (State.afterStep s old) := by
  unfold State.afterStep
  try dsimp only
  repeat' first
    | with_reducible assumption
    | with_reducible refine State.each_frm ?_ (fun _ _ _ => ?_)
    | with_reducible refine State.jobsStepped_frm (hm.le (by decide)) ?_
    | with_reducible refine State.pulseStepped_frm (hm.le (by decide)) ?_
    | with_reducible refine State.timeStepped_frm (hm.le (by decide)) ?_
    | with_reducible refine frm_ite ?_ ?_
    | fail_if_no_progress with_reducible refine frm_mk ?_
    | split

theorem State.ffStep_frm {d : Int} (hm : Sub 8396589989937 m) (hgood : Frm m s0 s) : Frm m s0 (State.ffStep s d) := by
  unfold State.ffStep
  try dsimp only
  repeat' first
    | with_reducible assumption
    | with_reducible refine State.afterStep_frm (hm.le (by decide)) ?_
    | with_reducible refine State.bump_frm (hm.le (by decide)) ?_
    | with_reducible refine State.doIf_frm ?_ ?_
    | with_reducible refine State.raise_frm (hm.le (by decide)) ?_
    | with_reducible refine State.setBit_frm (hm.le (by decide)) ?_
    | with_reducible refine State.setReg_frm (hm.le (by decide)) ?_
    | with_reducible refine State.slewBy_frm (hm.le (by decide)) ?_
    | with_reducible refine frm_ite ?_ ?_
    | fail_if_no_progress with_reducible refine frm_mk ?_
    | split

theorem State.ffMode_frm {m' : FfMode} (hm : Sub 68736253968 m) (hgood : Frm m s0 s) : Frm m s0 (State.ffMode s m') := by
  unfold State.ffMode
  try dsimp only
  repeat' first
    | with_reducible assumption
    | with_reducible refine State.refuserNote_frm (hm.le (by decide)) ?_
    | with_reducible refine State.setBit_frm (hm.le (by decide)) ?_
    | with_reducible refine frm_ite ?_ ?_
    | fail_if_no_progress with_reducible refine frm_mk ?_
    | split

theorem State.adoptStreams_frm {g : Nat} (hm : Sub 6747171553328 m) (hgood : Frm m s0 s) : Frm m s0 (State.adoptStreams s g) := by
  unfold State.adoptStreams
  try dsimp only
  repeat' first
    | with_reducible assumption
    | with_reducible refine State.closeStreams_frm (hm.le (by decide)) ?_
    | with_reducible refine State.each_frm ?_ (fun _ _ _ => ?_)
    | with_reducible refine State.updGrp_frm (hm.le (by decide)) ?_
    | with_reducible refine State.updStrm_frm (hm.le (by decide)) ?_
    | with_reducible refine frm_ite ?_ ?_
    | fail_if_no_progress with_reducible refine frm_mk ?_
    | split

theorem State.adoptGroup_frm {g : Nat} (hm : Sub 6747173134384 m) (hgood : Frm m s0 s) : Frm m s0 (State.adoptGroup s g) := by
  unfold State.adoptGroup
  try dsimp only
  repeat' first
    | with_reducible assumption
    | with_reducible refine State.loseGroup_frm (hm.le (by decide)) ?_
    | with_reducible refine State.startGroup_frm (hm.le (by decide)) ?_
    | with_reducible refine State.stopGroup_frm (hm.le (by decide)) ?_
    | with_reducible refine State.updGrp_frm (hm.le (by decide)) ?_
    | with_reducible refine frm_ite ?_ ?_
    | fail_if_no_progress with_reducible refine frm_mk ?_
    | split

theorem State.adoptCaptures_frm {old : Tq} (hm : Sub 141203374096 m) (hgood : Frm m s0 s) : Frm m s0 (State.adoptCaptures s old) := by
  unfold State.adoptCaptures
  try dsimp only
  repeat' first
    | with_reducible assumption
    | with_reducible refine State.each_frm ?_ (fun _ _ _ => ?_)
    | with_reducible refine State.retireBad_frm (hm.le (by decide)) ?_
    | with_reducible refine State.updCap_frm (hm.le (by decide)) ?_
    | with_reducible refine frm_ite ?_ ?_
    | fail_if_no_progress with_reducible refine frm_mk ?_
    | split

theorem State.adopt_frm {epoch : BitVec 16} {t : Tq} (hm : Sub 8396593946673 m) (hgood : Frm m s0 s) : Frm m s0 (State.adopt s epoch t) := by
  unfold State.adopt
  try dsimp only
  repeat' first
    | with_reducible assumption
    | with_reducible refine State.adoptCaptures_frm (hm.le (by decide)) ?_
    | with_reducible refine State.adoptGroup_frm (hm.le (by decide)) ?_
    | with_reducible refine State.adoptStreams_frm (hm.le (by decide)) ?_
    | with_reducible refine State.each_frm ?_ (fun _ _ _ => ?_)
    | with_reducible refine State.mainsHole_frm (hm.le (by decide)) ?_
    | with_reducible refine State.pulseStopAll_frm (hm.le (by decide)) ?_
    | with_reducible refine State.raise_frm (hm.le (by decide)) ?_
    | with_reducible refine State.setBit_frm (hm.le (by decide)) ?_
    | with_reducible refine State.setCount_frm (hm.le (by decide)) ?_
    | with_reducible refine State.slewBy_frm (hm.le (by decide)) ?_
    | with_reducible refine State.statNow_frm (hm.le (by decide)) ?_
    | with_reducible refine State.updPulse_frm (hm.le (by decide)) ?_
    | with_reducible refine State.updStats_frm (hm.le (by decide)) ?_
    | with_reducible refine frm_ite ?_ ?_
    | fail_if_no_progress with_reducible refine frm_mk ?_
    | split

theorem State.ffSlew_frm {theta : Int} {interval : Nat} (hm : Sub 16777217 m) (hgood : Frm m s0 s) : Frm m s0 (State.ffSlew s theta interval) := by
  unfold State.ffSlew
  try dsimp only
  repeat' first
    | with_reducible assumption
    | with_reducible refine State.slewBy_frm (hm.le (by decide)) ?_
    | with_reducible refine frm_ite ?_ ?_
    | fail_if_no_progress with_reducible refine frm_mk ?_
    | split

theorem State.ffCorrect_frm {theta : Int} {interval : Nat} {mayStep : Bool} (hm : Sub 8396589989937 m) (hgood : Frm m s0 s) : Frm m s0 (State.ffCorrect s theta interval mayStep) := by
  unfold State.ffCorrect
  try dsimp only
  repeat' first
    | with_reducible assumption
    | with_reducible refine State.ffSlew_frm (hm.le (by decide)) ?_
    | with_reducible refine State.ffStep_frm (hm.le (by decide)) ?_
    | with_reducible refine State.slewBy_frm (hm.le (by decide)) ?_
    | with_reducible refine frm_ite ?_ ?_
    | fail_if_no_progress with_reducible refine frm_mk ?_
    | split

theorem State.ffStates_frm {theta : Int} (hm : Sub 68736253968 m) (hgood : Frm m s0 s) : Frm m s0 (State.ffStates s theta) := by
  unfold State.ffStates
  try dsimp only
  repeat' first
    | with_reducible assumption
    | with_reducible refine State.ffMode_frm (hm.le (by decide)) ?_
    | with_reducible refine frm_ite ?_ ?_
    | fail_if_no_progress with_reducible refine frm_mk ?_
    | split

theorem State.ffParentExchange_frm {theta : Int} {delay : Int} (hm : Sub 8465309466673 m) (hgood : Frm m s0 s) : Frm m s0 (State.ffParentExchange s theta delay) := by
  unfold State.ffParentExchange
  try dsimp only
  repeat' first
    | with_reducible assumption
    | with_reducible refine State.ffCorrect_frm (hm.le (by decide)) ?_
    | with_reducible refine State.ffStates_frm (hm.le (by decide)) ?_
    | with_reducible refine State.setReg_frm (hm.le (by decide)) ?_
    | with_reducible refine frm_ite ?_ ?_
    | fail_if_no_progress with_reducible refine frm_mk ?_
    | split

theorem State.ffTwinExchange_frm {theta : Int} (hm : Sub 10599748638736 m) (hgood : Frm m s0 s) : Frm m s0 (State.ffTwinExchange s theta) := by
  unfold State.ffTwinExchange
  try dsimp only
  repeat' first
    | with_reducible assumption
    | with_reducible refine State.addReason_frm (hm.le (by decide)) ?_
    | with_reducible refine State.dropReason_frm (hm.le (by decide)) ?_
    | with_reducible refine State.setReg_frm (hm.le (by decide)) ?_
    | with_reducible refine frm_ite ?_ ?_
    | fail_if_no_progress with_reducible refine frm_mk ?_
    | split

theorem State.ffPortsAnew_frm (hm : Sub 33554432 m) (hgood : Frm m s0 s) : Frm m s0 (State.ffPortsAnew s) := by
  unfold State.ffPortsAnew
  try dsimp only
  repeat' first
    | with_reducible assumption
    | with_reducible refine State.each_frm ?_ (fun _ _ _ => ?_)
    | with_reducible refine State.updFfPort_frm (hm.le (by decide)) ?_
    | with_reducible refine frm_ite ?_ ?_
    | fail_if_no_progress with_reducible refine frm_mk ?_
    | split

theorem State.ffSwitch_frm {alt : Bool} (hm : Sub 8796143353872 m) (hgood : Frm m s0 s) : Frm m s0 (State.ffSwitch s alt) := by
  unfold State.ffSwitch
  try dsimp only
  repeat' first
    | with_reducible assumption
    | with_reducible refine State.ffPortsAnew_frm (hm.le (by decide)) ?_
    | with_reducible refine State.refclkKeep_frm (hm.le (by decide)) ?_
    | with_reducible refine State.updFfPort_frm (hm.le (by decide)) ?_
    | with_reducible refine frm_ite ?_ ?_
    | fail_if_no_progress with_reducible refine frm_mk ?_
    | split

theorem State.ffExchange_frm {p : Nat} {theta : Int} {delay : Int} (hm : Sub 17265697462321 m) (hgood : Frm m s0 s) : Frm m s0 (State.ffExchange s p theta delay) := by
  unfold State.ffExchange
  try dsimp only
  repeat' first
    | with_reducible assumption
    | with_reducible refine State.ffParentExchange_frm (hm.le (by decide)) ?_
    | with_reducible refine State.ffSwitch_frm (hm.le (by decide)) ?_
    | with_reducible refine State.ffTwinExchange_frm (hm.le (by decide)) ?_
    | with_reducible refine State.updFfPort_frm (hm.le (by decide)) ?_
    | with_reducible refine frm_ite ?_ ?_
    | fail_if_no_progress with_reducible refine frm_mk ?_
    | split

theorem State.ffDrop_frm {p : Nat} {bad : ExchSt → Bool} (hm : Sub 33554448 m) (hgood : Frm m s0 s) : Frm m s0 (State.ffDrop s p bad) := by
  unfold State.ffDrop
  try dsimp only
  repeat' first
    | with_reducible assumption
    | with_reducible refine State.bumpBy_frm (hm.le (by decide)) ?_
    | with_reducible refine State.updFfPort_frm (hm.le (by decide)) ?_
    | with_reducible refine frm_ite ?_ ?_
    | fail_if_no_progress with_reducible refine frm_mk ?_
    | split

theorem State.ffStart_frm {p : Nat} {m' : SyncMsg} (hm : Sub 8891924496 m) (hgood : Frm m s0 s) : Frm m s0 (State.ffStart s p m') := by
  unfold State.ffStart
  try dsimp only
  repeat' first
    | with_reducible assumption
    | with_reducible refine State.ffDrop_frm (hm.le (by decide)) ?_
    | with_reducible refine State.sendOn_frm (hm.le (by decide)) ?_
    | with_reducible refine State.updFfPort_frm (hm.le (by decide)) ?_
    | with_reducible refine frm_ite ?_ ?_
    | fail_if_no_progress with_reducible refine frm_mk ?_
    | split

theorem State.ffNeighbour_frm {p : Nat} {m' : SyncMsg} (hm : Sub 1649837867024 m) (hgood : Frm m s0 s) : Frm m s0 (State.ffNeighbour s p m') := by
  unfold State.ffNeighbour
  try dsimp only
  repeat' first
    | with_reducible assumption
    | with_reducible refine State.bump_frm (hm.le (by decide)) ?_
    | with_reducible refine State.raise_frm (hm.le (by decide)) ?_
    | with_reducible refine State.setBit_frm (hm.le (by decide)) ?_
    | with_reducible refine State.updFfPort_frm (hm.le (by decide)) ?_
    | with_reducible refine frm_ite ?_ ?_
    | fail_if_no_progress with_reducible refine frm_mk ?_
    | split

theorem State.ffFromParent_frm {p : Nat} {m' : SyncMsg} (hm : Sub 8465313423409 m) (hgood : Frm m s0 s) : Frm m s0 (State.ffFromParent s p m') := by
  unfold State.ffFromParent
  try dsimp only
  repeat' first
    | with_reducible assumption
    | with_reducible refine State.adopt_frm (hm.le (by decide)) ?_
    | with_reducible refine State.ffMode_frm (hm.le (by decide)) ?_
    | with_reducible refine State.updFfPort_frm (hm.le (by decide)) ?_
    | with_reducible refine frm_ite ?_ ?_
    | fail_if_no_progress with_reducible refine frm_mk ?_
    | split

theorem execSyncInterval_frm (hm : Sub 8908701712 m) (hgood : Frm m s0 s) : OutFrm m s0 (execSyncInterval s) := by
  unfold execSyncInterval
  try dsimp only
  repeat' first
    | with_reducible assumption
    | with_reducible refine outFrm_next ?_
    | with_reducible refine outFrm_ite ?_ ?_
    | with_reducible refine State.each_frm ?_ (fun _ _ _ => ?_)
    | with_reducible refine State.sendOn_frm (hm.le (by decide)) ?_
    | with_reducible refine State.updFfPort_frm (hm.le (by decide)) ?_
    | with_reducible refine frm_ite ?_ ?_
    | fail_if_no_progress with_reducible refine frm_mk ?_
    | split

theorem execSync_frm {p : Port} {m' : SyncMsg} (hm : Sub 17261406445617 m) (hgood : Frm m s0 s) : OutFrm m s0 (execSync p m' s) := by
  unfold execSync
  try dsimp only
  repeat' first
    | with_reducible assumption
    | with_reducible refine outFrm_next ?_
    | with_reducible refine outFrm_ite ?_ ?_
    | with_reducible refine State.bump_frm (hm.le (by decide)) ?_
    | with_reducible refine State.ffFromParent_frm (hm.le (by decide)) ?_
    | with_reducible refine State.ffNeighbour_frm (hm.le (by decide)) ?_
    | with_reducible refine State.ffStart_frm (hm.le (by decide)) ?_
    | with_reducible refine State.raiseBare_frm (hm.le (by decide)) ?_
    | with_reducible refine State.rxAccept_frm (hm.le (by decide)) ?_
    | with_reducible refine State.updFfPort_frm (hm.le (by decide)) ?_
    | with_reducible refine frm_ite ?_ ?_
    | fail_if_no_progress with_reducible refine frm_mk ?_
    | split

theorem execDelayReq_frm {p : Port} {m' : DelayReq} (hm : Sub 8804984946704 m) (hgood : Frm m s0 s) : OutFrm m s0 (execDelayReq p m' s) := by
  unfold execDelayReq
  try dsimp only
  repeat' first
    | with_reducible assumption
    | with_reducible refine outFrm_next ?_
    | with_reducible refine outFrm_ite ?_ ?_
    | with_reducible refine State.rxAccept_frm (hm.le (by decide)) ?_
    | with_reducible refine State.sendOn_frm (hm.le (by decide)) ?_
    | with_reducible refine frm_ite ?_ ?_
    | fail_if_no_progress with_reducible refine frm_mk ?_
    | split

theorem execDelayResp_frm {p : Port} {m' : DelayResp} (hm : Sub 17265697462321 m) (hgood : Frm m s0 s) : OutFrm m s0 (execDelayResp p m' s) := by
  unfold execDelayResp
  try dsimp only
  repeat' first
    | with_reducible assumption
    | with_reducible refine outFrm_next ?_
    | with_reducible refine outFrm_ite ?_ ?_
    | with_reducible refine State.doIf_frm ?_ ?_
    | with_reducible refine State.ffDrop_frm (hm.le (by decide)) ?_
    | with_reducible refine State.ffExchange_frm (hm.le (by decide)) ?_
    | with_reducible refine State.rxAccept_frm (hm.le (by decide)) ?_
    | with_reducible refine State.underInj_frm (hm.le (by decide)) ?_ (fun _ _ => ?_)
    | with_reducible refine State.updFfPort_frm (hm.le (by decide)) ?_
    | with_reducible refine State.useInj_frm (hm.le (by decide)) ?_
    | with_reducible refine frm_ite ?_ ?_
    | fail_if_no_progress with_reducible refine frm_mk ?_
    | split

theorem execExchangeTimeout_frm {p : Port} (hm : Sub 33554449 m) (hgood : Frm m s0 s) : OutFrm m s0 (execExchangeTimeout p s) := by
  unfold execExchangeTimeout
  try dsimp only
  repeat' first
    | with_reducible assumption
    | with_reducible refine outFrm_next ?_
    | with_reducible refine outFrm_ite ?_ ?_
    | with_reducible refine State.ffDrop_frm (hm.le (by decide)) ?_
    | with_reducible refine State.reach_frm (hm.le (by decide)) ?_
    | with_reducible refine frm_ite ?_ ?_
    | fail_if_no_progress with_reducible refine frm_mk ?_
    | split

theorem execParentTimeout_frm (hm : Sub 8864862830609 m) (hgood : Frm m s0 s) : OutFrm m s0 (execParentTimeout s) := by
  unfold execParentTimeout
  try dsimp only
  repeat' first
    | with_reducible assumption
    | with_reducible refine outFrm_next ?_
    | with_reducible refine outFrm_ite ?_ ?_
    | with_reducible refine State.ffMode_frm (hm.le (by decide)) ?_
    | with_reducible refine State.ffSwitch_frm (hm.le (by decide)) ?_
    | with_reducible refine State.reachUp_frm (hm.le (by decide)) ?_
    | with_reducible refine State.updFfPort_frm (hm.le (by decide)) ?_
    | with_reducible refine frm_ite ?_ ?_
    | fail_if_no_progress with_reducible refine frm_mk ?_
    | split

theorem execNoParent_frm (hm : Sub 1649804312593 m) (hgood : Frm m s0 s) : OutFrm m s0 (execNoParent s) := by
  unfold execNoParent
  try dsimp only
  repeat' first
    | with_reducible assumption
    | with_reducible refine outFrm_next ?_
    | with_reducible refine outFrm_ite ?_ ?_
    | with_reducible refine State.raise_frm (hm.le (by decide)) ?_
    | with_reducible refine State.reachUp_frm (hm.le (by decide)) ?_
    | with_reducible refine State.setBit_frm (hm.le (by decide)) ?_
    | with_reducible refine frm_ite ?_ ?_
    | fail_if_no_progress with_reducible refine frm_mk ?_
    | split

theorem State.ffSet_frm {v : Nat} {epoch : BitVec 16} (hm : Sub 8396593946673 m) (hgood : Frm m s0 s) : Frm m s0 (State.ffSet s v epoch) := by
  unfold State.ffSet
  try dsimp only
  repeat' first
    | with_reducible assumption
    | with_reducible refine State.adopt_frm (hm.le (by decide)) ?_
    | with_reducible refine State.afterStep_frm (hm.le (by decide)) ?_
    | with_reducible refine State.setCount_frm (hm.le (by decide)) ?_
    | with_reducible refine State.slewBy_frm (hm.le (by decide)) ?_
    | with_reducible refine frm_ite ?_ ?_
    | fail_if_no_progress with_reducible refine frm_mk ?_
    | split

theorem State.ppsStates_frm {theta : Int} (hm : Sub 68736253968 m) (hgood : Frm m s0 s) : Frm m s0 (State.ppsStates s theta) := by
  unfold State.ppsStates
  try dsimp only
  repeat' first
    | with_reducible assumption
    | with_reducible refine State.ffMode_frm (hm.le (by decide)) ?_
    | with_reducible refine frm_ite ?_ ?_
    | fail_if_no_progress with_reducible refine frm_mk ?_
    | split

theorem execPpsEdge_frm (hm : Sub 8465313423409 m) (hgood : Frm m s0 s) : OutFrm m s0 (execPpsEdge s) := by
  unfold execPpsEdge
  try dsimp only
  repeat' first
    | with_reducible assumption
    | with_reducible refine outFrm_next ?_
    | with_reducible refine outFrm_ite ?_ ?_
    | with_reducible refine State.ffCorrect_frm (hm.le (by decide)) ?_
    | with_reducible refine State.ffMode_frm (hm.le (by decide)) ?_
    | with_reducible refine State.ffSet_frm (hm.le (by decide)) ?_
    | with_reducible refine State.ppsStates_frm (hm.le (by decide)) ?_
    | with_reducible refine frm_ite ?_ ?_
    | fail_if_no_progress with_reducible refine frm_mk ?_
    | split

theorem execPpsTimeout_frm (hm : Sub 68736253969 m) (hgood : Frm m s0 s) : OutFrm m s0 (execPpsTimeout s) := by
  unfold execPpsTimeout
  try dsimp only
  repeat' first
    | with_reducible assumption
    | with_reducible refine outFrm_next ?_
    | with_reducible refine outFrm_ite ?_ ?_
    | with_reducible refine State.ffMode_frm (hm.le (by decide)) ?_
    | with_reducible refine State.reachUp_frm (hm.le (by decide)) ?_
    | with_reducible refine frm_ite ?_ ?_
    | fail_if_no_progress with_reducible refine frm_mk ?_
    | split

theorem execFfSetGo_frm {path : Path} (hm : Sub 8465313423409 m) (hgood : Frm m s0 s) : OutFrm m s0 (execFfSetGo path s) := by
  unfold execFfSetGo
  try dsimp only
  repeat' first
    | with_reducible assumption
    | with_reducible refine outFrm_next ?_
    | with_reducible refine outFrm_ite ?_ ?_
    | with_reducible refine State.ffMode_frm (hm.le (by decide)) ?_
    | with_reducible refine State.ffSet_frm (hm.le (by decide)) ?_
    | with_reducible refine State.setBit_frm (hm.le (by decide)) ?_
    | with_reducible refine frm_ite ?_ ?_
    | fail_if_no_progress with_reducible refine frm_mk ?_
    | split

theorem execFfNowRead_frm {wide : Bool} (hm : Sub 16777216 m) (hgood : Frm m s0 s) : OutFrm m s0 (execFfNowRead wide s) := by
  unfold execFfNowRead
  try dsimp only
  repeat' first
    | with_reducible assumption
    | with_reducible refine outFrm_next ?_
    | with_reducible refine outFrm_ite ?_ ?_
    | with_reducible refine frm_ite ?_ ?_
    | fail_if_no_progress with_reducible refine frm_mk ?_
    | split

theorem execTxtsPop_frm {p : Port} (hm : Sub 67108864 m) (hgood : Frm m s0 s) : OutFrm m s0 (execTxtsPop p s) := by
  unfold execTxtsPop
  try dsimp only
  repeat' first
    | with_reducible assumption
    | with_reducible refine outFrm_next ?_
    | with_reducible refine outFrm_ite ?_ ?_
    | with_reducible refine State.updTxts_frm (hm.le (by decide)) ?_
    | with_reducible refine frm_ite ?_ ?_
    | fail_if_no_progress with_reducible refine frm_mk ?_
    | split

theorem State.txtsPush_frm {p : Nat} {tsId : BitVec 16} {stamp : Tq} {retry : Bool} (hm : Sub 67108880 m) (hgood : Frm m s0 s) : Frm m s0 (State.txtsPush s p tsId stamp retry) := by
  unfold State.txtsPush
  try dsimp only
  repeat' first
    | with_reducible assumption
    | with_reducible refine State.bump_frm (hm.le (by decide)) ?_
    | with_reducible refine State.setBit_frm (hm.le (by decide)) ?_
    | with_reducible refine State.setTxts_frm (hm.le (by decide)) ?_
    | with_reducible refine frm_ite ?_ ?_
    | fail_if_no_progress with_reducible refine frm_mk ?_
    | split

theorem execTimePulse_frm {id : Nat} (hm : Sub 141331300368 m) (hgood : Frm m s0 s) : OutFrm m s0 (execTimePulse id s) := by
  unfold execTimePulse
  try dsimp only
  repeat' first
    | with_reducible assumption
    | with_reducible refine outFrm_next ?_
    | with_reducible refine outFrm_ite ?_ ?_
    | with_reducible refine State.pulseStop_frm (hm.le (by decide)) ?_
    | with_reducible refine State.retireBad_frm (hm.le (by decide)) ?_
    | with_reducible refine State.retireOk_frm (hm.le (by decide)) ?_
    | with_reducible refine State.serve_frm (hm.le (by decide)) ?_ (fun _ _ _ => ?_)
    | with_reducible refine State.setPulse_frm (hm.le (by decide)) ?_
    | with_reducible refine State.take_frm (hm.le (by decide)) ?_
    | with_reducible refine frm_ite ?_ ?_
    | fail_if_no_progress with_reducible refine frm_mk ?_
    | split

theorem State.pulseRetire_frm {id : Option Nat} {rise : Tq} (hm : Sub 141197082640 m) (hgood : Frm m s0 s) : Frm m s0 (State.pulseRetire s id rise) := by
  unfold State.pulseRetire
  try dsimp only
  repeat' first
    | with_reducible assumption
    | with_reducible refine State.retireOk_frm (hm.le (by decide)) ?_
    | with_reducible refine frm_ite ?_ ?_
    | fail_if_no_progress with_reducible refine frm_mk ?_
    | split

theorem execTimePulseRise_frm {k : Fin 4} (hm : Sub 141331300369 m) (hgood : Frm m s0 s) : OutFrm m s0 (execTimePulseRise k s) := by
  unfold execTimePulseRise
  try dsimp only
  repeat' first
    | with_reducible assumption
    | with_reducible refine outFrm_next ?_
    | with_reducible refine outFrm_ite ?_ ?_
    | with_reducible refine State.pulseSwitch_frm (hm.le (by decide)) ?_
    | with_reducible refine State.reach_frm (hm.le (by decide)) ?_
    | with_reducible refine State.setPulse_frm (hm.le (by decide)) ?_
    | with_reducible refine frm_ite ?_ ?_
    | fail_if_no_progress with_reducible refine frm_mk ?_
    | split

theorem execTimePulseFall_frm {k : Fin 4} (hm : Sub 141331300369 m) (hgood : Frm m s0 s) : OutFrm m s0 (execTimePulseFall k s) := by
  unfold execTimePulseFall
  try dsimp only
  repeat' first
    | with_reducible assumption
    | with_reducible refine outFrm_next ?_
    | with_reducible refine outFrm_ite ?_ ?_
    | with_reducible refine State.pulseRetire_frm (hm.le (by decide)) ?_
    | with_reducible refine State.reach_frm (hm.le (by decide)) ?_
    | with_reducible refine State.setPulse_frm (hm.le (by decide)) ?_
    | with_reducible refine frm_ite ?_ ?_
    | fail_if_no_progress with_reducible refine frm_mk ?_
    | split

theorem State.ffPortUp_frm {p : Nat} (hm : Sub 8864829276176 m) (hgood : Frm m s0 s) : Frm m s0 (State.ffPortUp s p) := by
  unfold State.ffPortUp
  try dsimp only
  repeat' first
    | with_reducible assumption
    | with_reducible refine State.ffMode_frm (hm.le (by decide)) ?_
    | with_reducible refine State.refclkKeep_frm (hm.le (by decide)) ?_
    | with_reducible refine frm_ite ?_ ?_
    | fail_if_no_progress with_reducible refine frm_mk ?_
    | split

theorem State.ffCommit_frm {old : Look} (hm : Sub 8864862830608 m) (hgood : Frm m s0 s) : Frm m s0 (State.ffCommit s old) := by
  unfold State.ffCommit
  try dsimp only
  repeat' first
    | with_reducible assumption
    | with_reducible refine State.ffMode_frm (hm.le (by decide)) ?_
    | with_reducible refine State.ffPortsAnew_frm (hm.le (by decide)) ?_
    | with_reducible refine State.refclkKeep_frm (hm.le (by decide)) ?_
    | with_reducible refine frm_ite ?_ ?_
    | fail_if_no_progress with_reducible refine frm_mk ?_
    | split

theorem State.testKeep_frm {p : Nat} (hm : Sub 16 m) (hgood : Frm m s0 s) : Frm m s0 (State.testKeep s p) := by
  unfold State.testKeep
  try dsimp only
  repeat' first
    | with_reducible assumption
    | with_reducible refine State.setReg_frm (hm.le (by decide)) ?_
    | with_reducible refine frm_ite ?_ ?_
    | fail_if_no_progress with_reducible refine frm_mk ?_
    | split

theorem State.linkMode_frm {p : Nat} {m' : PortMode} (hm : Sub 9346117271568 m) (hgood : Frm m s0 s) : Frm m s0 (State.linkMode s p m') := by
  unfold State.linkMode
  try dsimp only
  repeat' first
    | with_reducible assumption
    | with_reducible refine State.testKeep_frm (hm.le (by decide)) ?_
    | with_reducible refine State.traceFree_frm (hm.le (by decide)) ?_
    | with_reducible refine State.updLink_frm (hm.le (by decide)) ?_
    | with_reducible refine frm_ite ?_ ?_
    | fail_if_no_progress with_reducible refine frm_mk ?_
    | split

theorem State.trainSend_frm {p : Nat} {b : TxBody} (hm : Sub 8891924496 m) (hgood : Frm m s0 s) : Frm m s0 (State.trainSend s p b) := by
  unfold State.trainSend
  try dsimp only
  repeat' first
    | with_reducible assumption
    | with_reducible refine State.sendOn_frm (hm.le (by decide)) ?_
    | with_reducible refine State.updLink_frm (hm.le (by decide)) ?_
    | with_reducible refine frm_ite ?_ ?_
    | fail_if_no_progress with_reducible refine frm_mk ?_
    | split

theorem State.flipAlone_frm (hm : Sub 4294967296 m) (hgood : Frm m s0 s) : Frm m s0 (State.flipAlone s) := by
  unfold State.flipAlone
  try dsimp only
  repeat' first
    | with_reducible assumption
    | with_reducible refine State.armFlip_frm (hm.le (by decide)) ?_
    | with_reducible refine frm_ite ?_ ?_
    | fail_if_no_progress with_reducible refine frm_mk ?_
    | split

theorem State.twinDown_frm (hm : Sub 17196826990608 m) (hgood : Frm m s0 s) : Frm m s0 (State.twinDown s) := by
  unfold State.twinDown
  try dsimp only
  repeat' first
    | with_reducible assumption
    | with_reducible refine State.addReason_frm (hm.le (by decide)) ?_
    | with_reducible refine State.dropAwaits_frm (hm.le (by decide)) ?_
    | with_reducible refine State.flipAlone_frm (hm.le (by decide)) ?_
    | with_reducible refine State.retireBad_frm (hm.le (by decide)) ?_
    | with_reducible refine frm_ite ?_ ?_
    | fail_if_no_progress with_reducible refine frm_mk ?_
    | split

theorem State.linkExit_frm {p : Nat} {cause : Nat} (hm : Sub 17196826990608 m) (hgood : Frm m s0 s) : Frm m s0 (State.linkExit s p cause) := by
  unfold State.linkExit
  try dsimp only
  repeat' first
    | with_reducible assumption
    | with_reducible refine State.bump_frm (hm.le (by decide)) ?_
    | with_reducible refine State.bumpBy_frm (hm.le (by decide)) ?_
    | with_reducible refine State.cutFrame_frm (hm.le (by decide)) ?_
    | with_reducible refine State.raise_frm (hm.le (by decide)) ?_
    | with_reducible refine State.setBit_frm (hm.le (by decide)) ?_
    | with_reducible refine State.setLink_frm (hm.le (by decide)) ?_
    | with_reducible refine State.twinDown_frm (hm.le (by decide)) ?_
    | with_reducible refine State.updFfPort_frm (hm.le (by decide)) ?_
    | with_reducible refine frm_ite ?_ ?_
    | fail_if_no_progress with_reducible refine frm_mk ?_
    | split

theorem State.lanesStart_frm {p : Nat} (hm : Sub 8796361457664 m) (hgood : Frm m s0 s) : Frm m s0 (State.lanesStart s p) := by
  unfold State.lanesStart
  try dsimp only
  repeat' first
    | with_reducible assumption
    | with_reducible refine State.updLink_frm (hm.le (by decide)) ?_
    | with_reducible refine frm_ite ?_ ?_
    | fail_if_no_progress with_reducible refine frm_mk ?_
    | split

theorem State.linkDetect_frm {p : Nat} (hm : Sub 17196826990608 m) (hgood : Frm m s0 s) : Frm m s0 (State.linkDetect s p) := by
  unfold State.linkDetect
  try dsimp only
  repeat' first
    | with_reducible assumption
    | with_reducible refine State.lanesStart_frm (hm.le (by decide)) ?_
    | with_reducible refine State.linkExit_frm (hm.le (by decide)) ?_
    | with_reducible refine State.linkMode_frm (hm.le (by decide)) ?_
    | with_reducible refine State.updLink_frm (hm.le (by decide)) ?_
    | with_reducible refine frm_ite ?_ ?_
    | fail_if_no_progress with_reducible refine frm_mk ?_
    | split

theorem State.faultEnter_frm {p : Nat} {cause : Nat} (hm : Sub 10446165770256 m) (hgood : Frm m s0 s) : Frm m s0 (State.faultEnter s p cause) := by
  unfold State.faultEnter
  try dsimp only
  repeat' first
    | with_reducible assumption
    | with_reducible refine State.linkMode_frm (hm.le (by decide)) ?_
    | with_reducible refine State.raise_frm (hm.le (by decide)) ?_
    | with_reducible refine State.setBit_frm (hm.le (by decide)) ?_
    | with_reducible refine State.updLink_frm (hm.le (by decide)) ?_
    | with_reducible refine frm_ite ?_ ?_
    | fail_if_no_progress with_reducible refine frm_mk ?_
    | split

theorem State.linkFault_frm {p : Nat} {cause : Nat} (hm : Sub 17196826990608 m) (hgood : Frm m s0 s) : Frm m s0 (State.linkFault s p cause) := by
  unfold State.linkFault
  try dsimp only
  repeat' first
    | with_reducible assumption
    | with_reducible refine State.faultEnter_frm (hm.le (by decide)) ?_
    | with_reducible refine State.linkExit_frm (hm.le (by decide)) ?_
    | with_reducible refine State.oneCycle_frm (hm.le (by decide)) ?_ (fun _ _ => ?_)
    | with_reducible refine frm_ite ?_ ?_
    | fail_if_no_progress with_reducible refine frm_mk ?_
    | split

theorem State.linkLose_frm {p : Nat} {cause : Nat} (hm : Sub 17196826990608 m) (hgood : Frm m s0 s) : Frm m s0 (State.linkLose s p cause) := by
  unfold State.linkLose
  try dsimp only
  repeat' first
    | with_reducible assumption
    | with_reducible refine State.faultEnter_frm (hm.le (by decide)) ?_
    | with_reducible refine State.linkExit_frm (hm.le (by decide)) ?_
    | with_reducible refine State.linkMode_frm (hm.le (by decide)) ?_
    | with_reducible refine State.oneCycle_frm (hm.le (by decide)) ?_ (fun _ _ => ?_)
    | with_reducible refine State.take_frm (hm.le (by decide)) ?_
    | with_reducible refine State.updLink_frm (hm.le (by decide)) ?_
    | with_reducible refine frm_ite ?_ ?_
    | fail_if_no_progress with_reducible refine frm_mk ?_
    | split

theorem State.linkResume_frm {p : Nat} {f : IdentFrame} (hm : Sub 268435472 m) (hgood : Frm m s0 s) : Frm m s0 (State.linkResume s p f) := by
  unfold State.linkResume
  try dsimp only
  repeat' first
    | with_reducible assumption
    | with_reducible refine State.bumpBy_frm (hm.le (by decide)) ?_
    | with_reducible refine State.setLink_frm (hm.le (by decide)) ?_
    | with_reducible refine frm_ite ?_ ?_
    | fail_if_no_progress with_reducible refine frm_mk ?_
    | split

theorem State.linkActive_frm {p : Nat} (hm : Sub 10522988642320 m) (hgood : Frm m s0 s) : Frm m s0 (State.linkActive s p) := by
  unfold State.linkActive
  try dsimp only
  repeat' first
    | with_reducible assumption
    | with_reducible refine State.endHandling_frm (hm.le (by decide)) ?_
    | with_reducible refine State.ffPortUp_frm (hm.le (by decide)) ?_
    | with_reducible refine State.linkMode_frm (hm.le (by decide)) ?_
    | with_reducible refine State.linkResume_frm (hm.le (by decide)) ?_
    | with_reducible refine State.sendHealth_frm (hm.le (by decide)) ?_
    | with_reducible refine State.startNext_frm (hm.le (by decide)) ?_
    | with_reducible refine State.updLink_frm (hm.le (by decide)) ?_
    | with_reducible refine frm_ite ?_ ?_
    | fail_if_no_progress with_reducible refine frm_mk ?_
    | split

theorem State.drawn_frm (hm : Sub 34359738368 m) (hgood : Frm m s0 s) : Frm m s0 (State.drawn s) := by
  unfold State.drawn
  try dsimp only
  repeat' first
    | with_reducible assumption
    | with_reducible refine frm_ite ?_ ?_
    | fail_if_no_progress with_reducible refine frm_mk ?_
    | split

theorem State.keySend_frm {p : Nat} {kind : Nat} {payload : List Byte} (hm : Sub 8891924496 m) (hgood : Frm m s0 s) : Frm m s0 (State.keySend s p kind payload) := by
  unfold State.keySend
  try dsimp only
  repeat' first
    | with_reducible assumption
    | with_reducible refine State.sendOn_frm (hm.le (by decide)) ?_
    | with_reducible refine State.updLink_frm (hm.le (by decide)) ?_
    | with_reducible refine frm_ite ?_ ?_
    | fail_if_no_progress with_reducible refine frm_mk ?_
    | split

theorem State.keyStart_frm {p : Nat} (hm : Sub 43251662864 m) (hgood : Frm m s0 s) : Frm m s0 (State.keyStart s p) := by
  unfold State.keyStart
  try dsimp only
  repeat' first
    | with_reducible assumption
    | with_reducible refine State.drawn_frm (hm.le (by decide)) ?_
    | with_reducible refine State.keySend_frm (hm.le (by decide)) ?_
    | with_reducible refine State.updLink_frm (hm.le (by decide)) ?_
    | with_reducible refine frm_ite ?_ ?_
    | fail_if_no_progress with_reducible refine frm_mk ?_
    | split

theorem State.keysTurn_frm {p : Nat} {k : LinkKeys} (hm : Sub 268435456 m) (hgood : Frm m s0 s) : Frm m s0 (State.keysTurn s p k) := by
  unfold State.keysTurn
  try dsimp only
  repeat' first
    | with_reducible assumption
    | with_reducible refine State.updLink_frm (hm.le (by decide)) ?_
    | with_reducible refine frm_ite ?_ ?_
    | fail_if_no_progress with_reducible refine frm_mk ?_
    | split

theorem State.keysDone_frm {p : Nat} {k : LinkKeys} (hm : Sub 10522988642320 m) (hgood : Frm m s0 s) : Frm m s0 (State.keysDone s p k) := by
  unfold State.keysDone
  try dsimp only
  repeat' first
    | with_reducible assumption
    | with_reducible refine State.keysTurn_frm (hm.le (by decide)) ?_
    | with_reducible refine State.linkActive_frm (hm.le (by decide)) ?_
    | with_reducible refine State.updLink_frm (hm.le (by decide)) ?_
    | with_reducible refine frm_ite ?_ ?_
    | fail_if_no_progress with_reducible refine frm_mk ?_
    | split

theorem State.keyRx_frm {p : Nat} (hm : Sub 8796361457664 m) (hgood : Frm m s0 s) : Frm m s0 (State.keyRx s p) := by
  unfold State.keyRx
  try dsimp only
  repeat' first
    | with_reducible assumption
    | with_reducible refine State.rxAccept_frm (hm.le (by decide)) ?_
    | with_reducible refine frm_ite ?_ ?_
    | fail_if_no_progress with_reducible refine frm_mk ?_
    | split

theorem State.linkSecure_frm {p : Nat} (hm : Sub 10557348380688 m) (hgood : Frm m s0 s) : Frm m s0 (State.linkSecure s p) := by
  unfold State.linkSecure
  try dsimp only
  repeat' first
    | with_reducible assumption
    | with_reducible refine State.keyStart_frm (hm.le (by decide)) ?_
    | with_reducible refine State.linkActive_frm (hm.le (by decide)) ?_
    | with_reducible refine State.linkMode_frm (hm.le (by decide)) ?_
    | with_reducible refine State.updLink_frm (hm.le (by decide)) ?_
    | with_reducible refine frm_ite ?_ ?_
    | fail_if_no_progress with_reducible refine frm_mk ?_
    | split

theorem State.nextTrial_frm {p : Nat} (hm : Sub 10557348380688 m) (hgood : Frm m s0 s) : Frm m s0 (State.nextTrial s p) := by
  unfold State.nextTrial
  try dsimp only
  repeat' first
    | with_reducible assumption
    | with_reducible refine State.linkSecure_frm (hm.le (by decide)) ?_
    | with_reducible refine State.trainSend_frm (hm.le (by decide)) ?_
    | with_reducible refine State.updLink_frm (hm.le (by decide)) ?_
    | with_reducible refine frm_ite ?_ ?_
    | fail_if_no_progress with_reducible refine frm_mk ?_
    | split

theorem State.toRate_frm {p : Nat} {rate : Nat} {back : Bool} (hm : Sub 268435456 m) (hgood : Frm m s0 s) : Frm m s0 (State.toRate s p rate back) := by
  unfold State.toRate
  try dsimp only
  repeat' first
    | with_reducible assumption
    | with_reducible refine State.updLink_frm (hm.le (by decide)) ?_
    | with_reducible refine frm_ite ?_ ?_
    | fail_if_no_progress with_reducible refine frm_mk ?_
    | split

theorem State.rateBack_frm {p : Nat} (hm : Sub 268435456 m) (hgood : Frm m s0 s) : Frm m s0 (State.rateBack s p) := by
  unfold State.rateBack
  try dsimp only
  repeat' first
    | with_reducible assumption
    | with_reducible refine State.toRate_frm (hm.le (by decide)) ?_
    | with_reducible refine State.updLink_frm (hm.le (by decide)) ?_
    | with_reducible refine frm_ite ?_ ?_
    | fail_if_no_progress with_reducible refine frm_mk ?_
    | split

theorem State.trialResult_frm {p : Nat} (hm : Sub 10557348380688 m) (hgood : Frm m s0 s) : Frm m s0 (State.trialResult s p) := by
  unfold State.trialResult
  try dsimp only
  repeat' first
    | with_reducible assumption
    | with_reducible refine State.nextTrial_frm (hm.le (by decide)) ?_
    | with_reducible refine State.rateBack_frm (hm.le (by decide)) ?_
    | with_reducible refine State.setLink_frm (hm.le (by decide)) ?_
    | with_reducible refine frm_ite ?_ ?_
    | fail_if_no_progress with_reducible refine frm_mk ?_
    | split

theorem execDetectDone_frm {p : Port} (hm : Sub 9346117271568 m) (hgood : Frm m s0 s) : OutFrm m s0 (execDetectDone p s) := by
  unfold execDetectDone
  try dsimp only
  repeat' first
    | with_reducible assumption
    | with_reducible refine outFrm_next ?_
    | with_reducible refine outFrm_ite ?_ ?_
    | with_reducible refine State.linkMode_frm (hm.le (by decide)) ?_
    | with_reducible refine frm_ite ?_ ?_
    | fail_if_no_progress with_reducible refine frm_mk ?_
    | split

theorem State.fixedPeaks_frm {p : Nat} (hm : Sub 268435456 m) (hgood : Frm m s0 s) : Frm m s0 (State.fixedPeaks s p) := by
  unfold State.fixedPeaks
  try dsimp only
  repeat' first
    | with_reducible assumption
    | with_reducible refine State.updLink_frm (hm.le (by decide)) ?_
    | with_reducible refine frm_ite ?_ ?_
    | fail_if_no_progress with_reducible refine frm_mk ?_
    | split

theorem State.toEqTune_frm {p : Nat} (hm : Sub 9346117271568 m) (hgood : Frm m s0 s) : Frm m s0 (State.toEqTune s p) := by
  unfold State.toEqTune
  try dsimp only
  repeat' first
    | with_reducible assumption
    | with_reducible refine State.fixedPeaks_frm (hm.le (by decide)) ?_
    | with_reducible refine State.linkMode_frm (hm.le (by decide)) ?_
    | with_reducible refine State.updLink_frm (hm.le (by decide)) ?_
    | with_reducible refine frm_ite ?_ ?_
    | fail_if_no_progress with_reducible refine frm_mk ?_
    | split

theorem execClockLockDone_frm {p : Port} (hm : Sub 9346117271568 m) (hgood : Frm m s0 s) : OutFrm m s0 (execClockLockDone p s) := by
  unfold execClockLockDone
  try dsimp only
  repeat' first
    | with_reducible assumption
    | with_reducible refine outFrm_next ?_
    | with_reducible refine outFrm_ite ?_ ?_
    | with_reducible refine State.toEqTune_frm (hm.le (by decide)) ?_
    | with_reducible refine State.updLink_frm (hm.le (by decide)) ?_
    | with_reducible refine frm_ite ?_ ?_
    | fail_if_no_progress with_reducible refine frm_mk ?_
    | split

theorem State.stepOn_frm {p : Nat} {m' : PortMode} {step : Nat} (hm : Sub 9346117271568 m) (hgood : Frm m s0 s) : Frm m s0 (State.stepOn s p m' step) := by
  unfold State.stepOn
  try dsimp only
  repeat' first
    | with_reducible assumption
    | with_reducible refine State.linkMode_frm (hm.le (by decide)) ?_
    | with_reducible refine State.updLink_frm (hm.le (by decide)) ?_
    | with_reducible refine frm_ite ?_ ?_
    | fail_if_no_progress with_reducible refine frm_mk ?_
    | split

theorem execEqTuneDone_frm {p : Port} {eyes0 : List Nat} {eyes1 : List Nat} (hm : Sub 9346117271568 m) (hgood : Frm m s0 s) : OutFrm m s0 (execEqTuneDone p eyes0 eyes1 s) := by
  unfold execEqTuneDone
  try dsimp only
  repeat' first
    | with_reducible assumption
    | with_reducible refine outFrm_next ?_
    | with_reducible refine outFrm_ite ?_ ?_
    | with_reducible refine State.stepOn_frm (hm.le (by decide)) ?_
    | with_reducible refine State.updLink_frm (hm.le (by decide)) ?_
    | with_reducible refine frm_ite ?_ ?_
    | fail_if_no_progress with_reducible refine frm_mk ?_
    | split

theorem execBlockLockDone_frm {bits : LockBits} (hm : Sub 9346117271568 m) (hgood : Frm m s0 s) : OutFrm m s0 (execBlockLockDone bits s) := by
  unfold execBlockLockDone
  try dsimp only
  repeat' first
    | with_reducible assumption
    | with_reducible refine outFrm_next ?_
    | with_reducible refine outFrm_ite ?_ ?_
    | with_reducible refine State.bumpBy_frm (hm.le (by decide)) ?_
    | with_reducible refine State.stepOn_frm (hm.le (by decide)) ?_
    | with_reducible refine frm_ite ?_ ?_
    | fail_if_no_progress with_reducible refine frm_mk ?_
    | split

theorem execDeskewDone_frm {p : Port} {lane0 : LaneReport} {lane1 : LaneReport} {aligns : AlignPairs} (hm : Sub 10557348380688 m) (hgood : Frm m s0 s) : OutFrm m s0 (execDeskewDone p lane0 lane1 aligns s) := by
  unfold execDeskewDone
  try dsimp only
  repeat' first
    | with_reducible assumption
    | with_reducible refine outFrm_next ?_
    | with_reducible refine outFrm_ite ?_ ?_
    | with_reducible refine State.linkMode_frm (hm.le (by decide)) ?_
    | with_reducible refine State.linkSecure_frm (hm.le (by decide)) ?_
    | with_reducible refine State.sendOn_frm (hm.le (by decide)) ?_
    | with_reducible refine State.trainSend_frm (hm.le (by decide)) ?_
    | with_reducible refine State.updLink_frm (hm.le (by decide)) ?_
    | with_reducible refine frm_ite ?_ ?_
    | fail_if_no_progress with_reducible refine frm_mk ?_
    | split

theorem execIdent_frm {p : Port} {f : IdentFrame} {rttNs : Option Nat} (hm : Sub 17299922982928 m) (hgood : Frm m s0 s) : OutFrm m s0 (execIdent p f rttNs s) := by
  unfold execIdent
  try dsimp only
  repeat' first
    | with_reducible assumption
    | with_reducible refine outFrm_next ?_
    | with_reducible refine outFrm_ite ?_ ?_
    | with_reducible refine State.linkActive_frm (hm.le (by decide)) ?_
    | with_reducible refine State.linkFault_frm (hm.le (by decide)) ?_
    | with_reducible refine State.linkMode_frm (hm.le (by decide)) ?_
    | with_reducible refine State.nextTrial_frm (hm.le (by decide)) ?_
    | with_reducible refine State.updLink_frm (hm.le (by decide)) ?_
    | with_reducible refine frm_ite ?_ ?_
    | fail_if_no_progress with_reducible refine frm_mk ?_
    | split

theorem execRatePropose_frm {p : Port} {rate : Nat} (hm : Sub 17196826990608 m) (hgood : Frm m s0 s) : OutFrm m s0 (execRatePropose p rate s) := by
  unfold execRatePropose
  try dsimp only
  repeat' first
    | with_reducible assumption
    | with_reducible refine outFrm_next ?_
    | with_reducible refine outFrm_ite ?_ ?_
    | with_reducible refine State.linkExit_frm (hm.le (by decide)) ?_
    | with_reducible refine State.linkMode_frm (hm.le (by decide)) ?_
    | with_reducible refine State.sendOn_frm (hm.le (by decide)) ?_
    | with_reducible refine State.toRate_frm (hm.le (by decide)) ?_
    | with_reducible refine State.updLink_frm (hm.le (by decide)) ?_
    | with_reducible refine frm_ite ?_ ?_
    | fail_if_no_progress with_reducible refine frm_mk ?_
    | split

theorem execRateAccept_frm {p : Port} {rate : Nat} (hm : Sub 268435456 m) (hgood : Frm m s0 s) : OutFrm m s0 (execRateAccept p rate s) := by
  unfold execRateAccept
  try dsimp only
  repeat' first
    | with_reducible assumption
    | with_reducible refine outFrm_next ?_
    | with_reducible refine outFrm_ite ?_ ?_
    | with_reducible refine State.toRate_frm (hm.le (by decide)) ?_
    | with_reducible refine frm_ite ?_ ?_
    | fail_if_no_progress with_reducible refine frm_mk ?_
    | split

theorem execTest_frm {p : Port} {f : SoakFrame} (hm : Sub 268435472 m) (hgood : Frm m s0 s) : OutFrm m s0 (execTest p f s) := by
  unfold execTest
  try dsimp only
  repeat' first
    | with_reducible assumption
    | with_reducible refine outFrm_next ?_
    | with_reducible refine outFrm_ite ?_ ?_
    | with_reducible refine State.bumpBy_frm (hm.le (by decide)) ?_
    | with_reducible refine State.updLink_frm (hm.le (by decide)) ?_
    | with_reducible refine frm_ite ?_ ?_
    | fail_if_no_progress with_reducible refine frm_mk ?_
    | split

theorem execSoakEnd_frm {p : Port} (hm : Sub 10557348380689 m) (hgood : Frm m s0 s) : OutFrm m s0 (execSoakEnd p s) := by
  unfold execSoakEnd
  try dsimp only
  repeat' first
    | with_reducible assumption
    | with_reducible refine outFrm_next ?_
    | with_reducible refine outFrm_ite ?_ ?_
    | with_reducible refine State.reachUp_frm (hm.le (by decide)) ?_
    | with_reducible refine State.setLink_frm (hm.le (by decide)) ?_
    | with_reducible refine State.trainSend_frm (hm.le (by decide)) ?_
    | with_reducible refine State.trialResult_frm (hm.le (by decide)) ?_
    | with_reducible refine frm_ite ?_ ?_
    | fail_if_no_progress with_reducible refine frm_mk ?_
    | split

theorem State.gotResult_frm {p : Nat} {pass : Bool} (hm : Sub 10557348380688 m) (hgood : Frm m s0 s) : Frm m s0 (State.gotResult s p pass) := by
  unfold State.gotResult
  try dsimp only
  repeat' first
    | with_reducible assumption
    | with_reducible refine State.setLink_frm (hm.le (by decide)) ?_
    | with_reducible refine State.trialResult_frm (hm.le (by decide)) ?_
    | with_reducible refine frm_ite ?_ ?_
    | fail_if_no_progress with_reducible refine frm_mk ?_
    | split

theorem execRatePass_frm {p : Port} (hm : Sub 10557348380688 m) (hgood : Frm m s0 s) : OutFrm m s0 (execRatePass p s) := by
  unfold execRatePass
  try dsimp only
  repeat' first
    | with_reducible assumption
    | with_reducible refine outFrm_next ?_
    | with_reducible refine outFrm_ite ?_ ?_
    | with_reducible refine State.gotResult_frm (hm.le (by decide)) ?_
    | with_reducible refine frm_ite ?_ ?_
    | fail_if_no_progress with_reducible refine frm_mk ?_
    | split

theorem execRateFail_frm {p : Port} (hm : Sub 10557348380688 m) (hgood : Frm m s0 s) : OutFrm m s0 (execRateFail p s) := by
  unfold execRateFail
  try dsimp only
  repeat' first
    | with_reducible assumption
    | with_reducible refine outFrm_next ?_
    | with_reducible refine outFrm_ite ?_ ?_
    | with_reducible refine State.gotResult_frm (hm.le (by decide)) ?_
    | with_reducible refine frm_ite ?_ ?_
    | fail_if_no_progress with_reducible refine frm_mk ?_
    | split

theorem execLinkStateTimeout_frm {p : Port} (hm : Sub 17196826990609 m) (hgood : Frm m s0 s) : OutFrm m s0 (execLinkStateTimeout p s) := by
  unfold execLinkStateTimeout
  try dsimp only
  repeat' first
    | with_reducible assumption
    | with_reducible refine outFrm_next ?_
    | with_reducible refine outFrm_ite ?_ ?_
    | with_reducible refine State.linkDetect_frm (hm.le (by decide)) ?_
    | with_reducible refine State.linkMode_frm (hm.le (by decide)) ?_
    | with_reducible refine State.rateBack_frm (hm.le (by decide)) ?_
    | with_reducible refine State.reachUp_frm (hm.le (by decide)) ?_
    | with_reducible refine State.setBit_frm (hm.le (by decide)) ?_
    | with_reducible refine State.updLink_frm (hm.le (by decide)) ?_
    | with_reducible refine frm_ite ?_ ?_
    | fail_if_no_progress with_reducible refine frm_mk ?_
    | split

theorem execTrainingResend_frm {p : Port} (hm : Sub 8891924497 m) (hgood : Frm m s0 s) : OutFrm m s0 (execTrainingResend p s) := by
  unfold execTrainingResend
  try dsimp only
  repeat' first
    | with_reducible assumption
    | with_reducible refine outFrm_next ?_
    | with_reducible refine outFrm_ite ?_ ?_
    | with_reducible refine State.reachUp_frm (hm.le (by decide)) ?_
    | with_reducible refine State.sendOn_frm (hm.le (by decide)) ?_
    | with_reducible refine State.updLink_frm (hm.le (by decide)) ?_
    | with_reducible refine frm_ite ?_ ?_
    | fail_if_no_progress with_reducible refine frm_mk ?_
    | split

theorem execFaultRetry_frm {p : Port} (hm : Sub 17196826990609 m) (hgood : Frm m s0 s) : OutFrm m s0 (execFaultRetry p s) := by
  unfold execFaultRetry
  try dsimp only
  repeat' first
    | with_reducible assumption
    | with_reducible refine outFrm_next ?_
    | with_reducible refine outFrm_ite ?_ ?_
    | with_reducible refine State.linkDetect_frm (hm.le (by decide)) ?_
    | with_reducible refine State.reachUp_frm (hm.le (by decide)) ?_
    | with_reducible refine frm_ite ?_ ?_
    | fail_if_no_progress with_reducible refine frm_mk ?_
    | split

theorem execRetrain_frm {p : Port} (hm : Sub 17196826990608 m) (hgood : Frm m s0 s) : OutFrm m s0 (execRetrain p s) := by
  unfold execRetrain
  try dsimp only
  repeat' first
    | with_reducible assumption
    | with_reducible refine outFrm_next ?_
    | with_reducible refine outFrm_ite ?_ ?_
    | with_reducible refine State.linkDetect_frm (hm.le (by decide)) ?_
    | with_reducible refine frm_ite ?_ ?_
    | fail_if_no_progress with_reducible refine frm_mk ?_
    | split

theorem execLos_frm {p : Port} (hm : Sub 17196826990608 m) (hgood : Frm m s0 s) : OutFrm m s0 (execLos p s) := by
  unfold execLos
  try dsimp only
  repeat' first
    | with_reducible assumption
    | with_reducible refine outFrm_next ?_
    | with_reducible refine outFrm_ite ?_ ?_
    | with_reducible refine State.linkLose_frm (hm.le (by decide)) ?_
    | with_reducible refine frm_ite ?_ ?_
    | fail_if_no_progress with_reducible refine frm_mk ?_
    | split

theorem execClockUnlock_frm {p : Port} (hm : Sub 17196826990608 m) (hgood : Frm m s0 s) : OutFrm m s0 (execClockUnlock p s) := by
  unfold execClockUnlock
  try dsimp only
  repeat' first
    | with_reducible assumption
    | with_reducible refine outFrm_next ?_
    | with_reducible refine outFrm_ite ?_ ?_
    | with_reducible refine State.linkLose_frm (hm.le (by decide)) ?_
    | with_reducible refine frm_ite ?_ ?_
    | fail_if_no_progress with_reducible refine frm_mk ?_
    | split

theorem execBlockUnlock_frm {w : HeaderWindow} (hm : Sub 17196826990608 m) (hgood : Frm m s0 s) : OutFrm m s0 (execBlockUnlock w s) := by
  unfold execBlockUnlock
  try dsimp only
  repeat' first
    | with_reducible assumption
    | with_reducible refine outFrm_next ?_
    | with_reducible refine outFrm_ite ?_ ?_
    | with_reducible refine State.bumpBy_frm (hm.le (by decide)) ?_
    | with_reducible refine State.linkLose_frm (hm.le (by decide)) ?_
    | with_reducible refine frm_ite ?_ ?_
    | fail_if_no_progress with_reducible refine frm_mk ?_
    | split

theorem execDeskewLost_frm {p : Port} (hm : Sub 17196826990608 m) (hgood : Frm m s0 s) : OutFrm m s0 (execDeskewLost p s) := by
  unfold execDeskewLost
  try dsimp only
  repeat' first
    | with_reducible assumption
    | with_reducible refine outFrm_next ?_
    | with_reducible refine outFrm_ite ?_ ?_
    | with_reducible refine State.linkLose_frm (hm.le (by decide)) ?_
    | with_reducible refine frm_ite ?_ ?_
    | fail_if_no_progress with_reducible refine frm_mk ?_
    | split

theorem execHiBer_frm {p : Port} {invalidHeaders : Nat} (hm : Sub 17196826990608 m) (hgood : Frm m s0 s) : OutFrm m s0 (execHiBer p invalidHeaders s) := by
  unfold execHiBer
  try dsimp only
  repeat' first
    | with_reducible assumption
    | with_reducible refine outFrm_next ?_
    | with_reducible refine outFrm_ite ?_ ?_
    | with_reducible refine State.bumpBy_frm (hm.le (by decide)) ?_
    | with_reducible refine State.linkLose_frm (hm.le (by decide)) ?_
    | with_reducible refine State.raise_frm (hm.le (by decide)) ?_
    | with_reducible refine State.setBit_frm (hm.le (by decide)) ?_
    | with_reducible refine State.setLink_frm (hm.le (by decide)) ?_
    | with_reducible refine frm_ite ?_ ?_
    | fail_if_no_progress with_reducible refine frm_mk ?_
    | split

theorem execLoadRetrain_frm {p : Port} (hm : Sub 17299922982928 m) (hgood : Frm m s0 s) : OutFrm m s0 (execLoadRetrain p s) := by
  unfold execLoadRetrain
  try dsimp only
  repeat' first
    | with_reducible assumption
    | with_reducible refine outFrm_next ?_
    | with_reducible refine outFrm_ite ?_ ?_
    | with_reducible refine State.linkExit_frm (hm.le (by decide)) ?_
    | with_reducible refine State.linkMode_frm (hm.le (by decide)) ?_
    | with_reducible refine State.nextTrial_frm (hm.le (by decide)) ?_
    | with_reducible refine State.updLink_frm (hm.le (by decide)) ?_
    | with_reducible refine frm_ite ?_ ?_
    | fail_if_no_progress with_reducible refine frm_mk ?_
    | split

theorem execChirpSend_frm {p : Port} (hm : Sub 17196826990608 m) (hgood : Frm m s0 s) : OutFrm m s0 (execChirpSend p s) := by
  unfold execChirpSend
  try dsimp only
  repeat' first
    | with_reducible assumption
    | with_reducible refine outFrm_next ?_
    | with_reducible refine outFrm_ite ?_ ?_
    | with_reducible refine State.linkDetect_frm (hm.le (by decide)) ?_
    | with_reducible refine State.setLink_frm (hm.le (by decide)) ?_
    | with_reducible refine frm_ite ?_ ?_
    | fail_if_no_progress with_reducible refine frm_mk ?_
    | split

theorem State.sendBlocks_frm {p : Nat} {f : TxFrame} (hm : Sub 8796361457680 m) (hgood : Frm m s0 s) : Frm m s0 (State.sendBlocks s p f) := by
  unfold State.sendBlocks
  try dsimp only
  repeat' first
    | with_reducible assumption
    | with_reducible refine State.bump_frm (hm.le (by decide)) ?_
    | with_reducible refine State.doIf_frm ?_ ?_
    | with_reducible refine State.emit_frm (hm.le (by decide)) ?_
    | with_reducible refine State.updLink_frm (hm.le (by decide)) ?_
    | with_reducible refine frm_ite ?_ ?_
    | fail_if_no_progress with_reducible refine frm_mk ?_
    | split

theorem State.stampSent_frm {p : Nat} {f : TxFrame} (hm : Sub 67108880 m) (hgood : Frm m s0 s) : Frm m s0 (State.stampSent s p f) := by
  unfold State.stampSent
  try dsimp only
  repeat' first
    | with_reducible assumption
    | with_reducible refine State.txtsPush_frm (hm.le (by decide)) ?_
    | with_reducible refine frm_ite ?_ ?_
    | fail_if_no_progress with_reducible refine frm_mk ?_
    | split

theorem execFrameTxEnd_frm {p : Port} (hm : Sub 10561710456848 m) (hgood : Frm m s0 s) : OutFrm m s0 (execFrameTxEnd p s) := by
  unfold execFrameTxEnd
  try dsimp only
  repeat' first
    | with_reducible assumption
    | with_reducible refine outFrm_next ?_
    | with_reducible refine outFrm_ite ?_ ?_
    | with_reducible refine State.emit_frm (hm.le (by decide)) ?_
    | with_reducible refine State.feedData_frm (hm.le (by decide)) ?_
    | with_reducible refine State.linkActive_frm (hm.le (by decide)) ?_
    | with_reducible refine State.sendBlocks_frm (hm.le (by decide)) ?_
    | with_reducible refine State.sendOn_frm (hm.le (by decide)) ?_
    | with_reducible refine State.setLink_frm (hm.le (by decide)) ?_
    | with_reducible refine State.stampSent_frm (hm.le (by decide)) ?_
    | with_reducible refine State.startNext_frm (hm.le (by decide)) ?_
    | with_reducible refine State.trialResult_frm (hm.le (by decide)) ?_
    | with_reducible refine frm_ite ?_ ?_
    | fail_if_no_progress with_reducible refine frm_mk ?_
    | split

theorem State.rxReject_frm {p : Nat} {cause : Nat} (hm : Sub 8796361457664 m) (hgood : Frm m s0 s) : Frm m s0 (State.rxReject s p cause) := by
  unfold State.rxReject
  try dsimp only
  repeat' first
    | with_reducible assumption
    | with_reducible refine State.sendCtl_frm (hm.le (by decide)) ?_
    | with_reducible refine State.setLink_frm (hm.le (by decide)) ?_
    | with_reducible refine frm_ite ?_ ?_
    | fail_if_no_progress with_reducible refine frm_mk ?_
    | split

theorem execFrameRejected_frm {p : Port} {f : RxFrame} (hm : Sub 17196826990608 m) (hgood : Frm m s0 s) : OutFrm m s0 (execFrameRejected p f s) := by
  unfold execFrameRejected
  try dsimp only
  repeat' first
    | with_reducible assumption
    | with_reducible refine outFrm_next ?_
    | with_reducible refine outFrm_ite ?_ ?_
    | with_reducible refine State.bump_frm (hm.le (by decide)) ?_
    | with_reducible refine State.doIf_frm ?_ ?_
    | with_reducible refine State.linkLose_frm (hm.le (by decide)) ?_
    | with_reducible refine State.rxReject_frm (hm.le (by decide)) ?_
    | with_reducible refine State.sendCtl_frm (hm.le (by decide)) ?_
    | with_reducible refine State.updLink_frm (hm.le (by decide)) ?_
    | with_reducible refine frm_ite ?_ ?_
    | fail_if_no_progress with_reducible refine frm_mk ?_
    | split

theorem State.ackSync_frm {freed : List TxFrame} (hm : Sub 11274321936 m) (hgood : Frm m s0 s) : Frm m s0 (State.ackSync s freed) := by
  unfold State.ackSync
  try dsimp only
  repeat' first
    | with_reducible assumption
    | with_reducible refine State.postAll_frm (hm.le (by decide)) ?_
    | with_reducible refine frm_ite ?_ ?_
    | fail_if_no_progress with_reducible refine frm_mk ?_
    | split

theorem execAck_frm {p : Port} {lseq : BitVec 12} (hm : Sub 11576311824 m) (hgood : Frm m s0 s) : OutFrm m s0 (execAck p lseq s) := by
  unfold execAck
  try dsimp only
  repeat' first
    | with_reducible assumption
    | with_reducible refine outFrm_next ?_
    | with_reducible refine outFrm_ite ?_ ?_
    | with_reducible refine State.ackSync_frm (hm.le (by decide)) ?_
    | with_reducible refine State.keysTurn_frm (hm.le (by decide)) ?_
    | with_reducible refine State.setLink_frm (hm.le (by decide)) ?_
    | with_reducible refine State.startNext_frm (hm.le (by decide)) ?_
    | with_reducible refine frm_ite ?_ ?_
    | fail_if_no_progress with_reducible refine frm_mk ?_
    | split

theorem State.replayFrom_frm {p : Nat} {from_ : BitVec 12} (hm : Sub 17196826990608 m) (hgood : Frm m s0 s) : Frm m s0 (State.replayFrom s p from_) := by
  unfold State.replayFrom
  try dsimp only
  repeat' first
    | with_reducible assumption
    | with_reducible refine State.linkLose_frm (hm.le (by decide)) ?_
    | with_reducible refine State.setLink_frm (hm.le (by decide)) ?_
    | with_reducible refine State.startNext_frm (hm.le (by decide)) ?_
    | with_reducible refine State.underInj_frm (hm.le (by decide)) ?_ (fun _ _ => ?_)
    | with_reducible refine frm_ite ?_ ?_
    | fail_if_no_progress with_reducible refine frm_mk ?_
    | split

theorem execNak_frm {p : Port} {lseq : BitVec 12} (hm : Sub 17196826990608 m) (hgood : Frm m s0 s) : OutFrm m s0 (execNak p lseq s) := by
  unfold execNak
  try dsimp only
  repeat' first
    | with_reducible assumption
    | with_reducible refine outFrm_next ?_
    | with_reducible refine outFrm_ite ?_ ?_
    | with_reducible refine State.replayFrom_frm (hm.le (by decide)) ?_
    | with_reducible refine frm_ite ?_ ?_
    | fail_if_no_progress with_reducible refine frm_mk ?_
    | split

theorem execReplayTimeout_frm {p : Port} (hm : Sub 17196826990609 m) (hgood : Frm m s0 s) : OutFrm m s0 (execReplayTimeout p s) := by
  unfold execReplayTimeout
  try dsimp only
  repeat' first
    | with_reducible assumption
    | with_reducible refine outFrm_next ?_
    | with_reducible refine outFrm_ite ?_ ?_
    | with_reducible refine State.reachUp_frm (hm.le (by decide)) ?_
    | with_reducible refine State.replayFrom_frm (hm.le (by decide)) ?_
    | with_reducible refine frm_ite ?_ ?_
    | fail_if_no_progress with_reducible refine frm_mk ?_
    | split

theorem State.engineSend_frm (hm : Sub 8804984946704 m) (hgood : Frm m s0 s) : Frm m s0 (State.engineSend s) := by
  unfold State.engineSend
  try dsimp only
  repeat' first
    | with_reducible assumption
    | with_reducible refine State.queueFrame_frm (hm.le (by decide)) ?_
    | with_reducible refine frm_ite ?_ ?_
    | fail_if_no_progress with_reducible refine frm_mk ?_
    | split

theorem execMgmt_frm {p : Port} (hm : Sub 9354740760592 m) (hgood : Frm m s0 s) : OutFrm m s0 (execMgmt p s) := by
  unfold execMgmt
  try dsimp only
  repeat' first
    | with_reducible assumption
    | with_reducible refine outFrm_next ?_
    | with_reducible refine outFrm_ite ?_ ?_
    | with_reducible refine State.doIf_frm ?_ ?_
    | with_reducible refine State.engineSend_frm (hm.le (by decide)) ?_
    | with_reducible refine State.rxAccept_frm (hm.le (by decide)) ?_
    | with_reducible refine State.traceEngine_frm (hm.le (by decide)) ?_
    | with_reducible refine frm_ite ?_ ?_
    | fail_if_no_progress with_reducible refine frm_mk ?_
    | split

theorem execReservedTypeFrame_frm {p : Port} (hm : Sub 8796361457680 m) (hgood : Frm m s0 s) : OutFrm m s0 (execReservedTypeFrame p s) := by
  unfold execReservedTypeFrame
  try dsimp only
  repeat' first
    | with_reducible assumption
    | with_reducible refine outFrm_next ?_
    | with_reducible refine outFrm_ite ?_ ?_
    | with_reducible refine State.bump_frm (hm.le (by decide)) ?_
    | with_reducible refine State.rxAccept_frm (hm.le (by decide)) ?_
    | with_reducible refine frm_ite ?_ ?_
    | fail_if_no_progress with_reducible refine frm_mk ?_
    | split

theorem execKeyInit_frm {p : Port} {payload : List Byte} (hm : Sub 9389100498960 m) (hgood : Frm m s0 s) : OutFrm m s0 (execKeyInit p payload s) := by
  unfold execKeyInit
  try dsimp only
  repeat' first
    | with_reducible assumption
    | with_reducible refine outFrm_next ?_
    | with_reducible refine outFrm_ite ?_ ?_
    | with_reducible refine State.bump_frm (hm.le (by decide)) ?_
    | with_reducible refine State.drawn_frm (hm.le (by decide)) ?_
    | with_reducible refine State.keyRx_frm (hm.le (by decide)) ?_
    | with_reducible refine State.keySend_frm (hm.le (by decide)) ?_
    | with_reducible refine State.linkMode_frm (hm.le (by decide)) ?_
    | with_reducible refine State.updLink_frm (hm.le (by decide)) ?_
    | with_reducible refine frm_ite ?_ ?_
    | fail_if_no_progress with_reducible refine frm_mk ?_
    | split

theorem State.peerRejected_frm {p : Nat} (hm : Sub 17196826990608 m) (hgood : Frm m s0 s) : Frm m s0 (State.peerRejected s p) := by
  unfold State.peerRejected
  try dsimp only
  repeat' first
    | with_reducible assumption
    | with_reducible refine State.linkFault_frm (hm.le (by decide)) ?_
    | with_reducible refine State.updLink_frm (hm.le (by decide)) ?_
    | with_reducible refine frm_ite ?_ ?_
    | fail_if_no_progress with_reducible refine frm_mk ?_
    | split

theorem execKeyResp_frm {p : Port} {payload : List Byte} (hm : Sub 17265563244560 m) (hgood : Frm m s0 s) : OutFrm m s0 (execKeyResp p payload s) := by
  unfold execKeyResp
  try dsimp only
  repeat' first
    | with_reducible assumption
    | with_reducible refine outFrm_next ?_
    | with_reducible refine outFrm_ite ?_ ?_
    | with_reducible refine State.bump_frm (hm.le (by decide)) ?_
    | with_reducible refine State.keyRx_frm (hm.le (by decide)) ?_
    | with_reducible refine State.keySend_frm (hm.le (by decide)) ?_
    | with_reducible refine State.keysDone_frm (hm.le (by decide)) ?_
    | with_reducible refine State.peerRejected_frm (hm.le (by decide)) ?_
    | with_reducible refine frm_ite ?_ ?_
    | fail_if_no_progress with_reducible refine frm_mk ?_
    | split

theorem execKeyConfirm_frm {p : Port} {payload : List Byte} (hm : Sub 17265563244560 m) (hgood : Frm m s0 s) : OutFrm m s0 (execKeyConfirm p payload s) := by
  unfold execKeyConfirm
  try dsimp only
  repeat' first
    | with_reducible assumption
    | with_reducible refine outFrm_next ?_
    | with_reducible refine outFrm_ite ?_ ?_
    | with_reducible refine State.keyRx_frm (hm.le (by decide)) ?_
    | with_reducible refine State.keysDone_frm (hm.le (by decide)) ?_
    | with_reducible refine State.peerRejected_frm (hm.le (by decide)) ?_
    | with_reducible refine State.take_frm (hm.le (by decide)) ?_
    | with_reducible refine frm_ite ?_ ?_
    | fail_if_no_progress with_reducible refine frm_mk ?_
    | split

theorem execKeyRenewal_frm {p : Port} (hm : Sub 43251662865 m) (hgood : Frm m s0 s) : OutFrm m s0 (execKeyRenewal p s) := by
  unfold execKeyRenewal
  try dsimp only
  repeat' first
    | with_reducible assumption
    | with_reducible refine outFrm_next ?_
    | with_reducible refine outFrm_ite ?_ ?_
    | with_reducible refine State.keyStart_frm (hm.le (by decide)) ?_
    | with_reducible refine State.reachUp_frm (hm.le (by decide)) ?_
    | with_reducible refine frm_ite ?_ ?_
    | fail_if_no_progress with_reducible refine frm_mk ?_
    | split

theorem State.linkDisable_frm {p : Nat} (hm : Sub 17196826990608 m) (hgood : Frm m s0 s) : Frm m s0 (State.linkDisable s p) := by
  unfold State.linkDisable
  try dsimp only
  repeat' first
    | with_reducible assumption
    | with_reducible refine State.bumpBy_frm (hm.le (by decide)) ?_
    | with_reducible refine State.linkExit_frm (hm.le (by decide)) ?_
    | with_reducible refine State.linkMode_frm (hm.le (by decide)) ?_
    | with_reducible refine State.setLink_frm (hm.le (by decide)) ?_
    | with_reducible refine frm_ite ?_ ?_
    | fail_if_no_progress with_reducible refine frm_mk ?_
    | split

theorem State.linkStart_frm {p : Nat} (hm : Sub 17196826990608 m) (hgood : Frm m s0 s) : Frm m s0 (State.linkStart s p) := by
  unfold State.linkStart
  try dsimp only
  repeat' first
    | with_reducible assumption
    | with_reducible refine State.freeNext_frm (hm.le (by decide)) ?_
    | with_reducible refine State.linkDetect_frm (hm.le (by decide)) ?_
    | with_reducible refine State.linkDisable_frm (hm.le (by decide)) ?_
    | with_reducible refine State.linkExit_frm (hm.le (by decide)) ?_
    | with_reducible refine State.linkMode_frm (hm.le (by decide)) ?_
    | with_reducible refine State.testKeep_frm (hm.le (by decide)) ?_
    | with_reducible refine State.updLink_frm (hm.le (by decide)) ?_
    | with_reducible refine frm_ite ?_ ?_
    | fail_if_no_progress with_reducible refine frm_mk ?_
    | split

theorem State.linkCommit_frm {old : Look} {p : Nat} (hm : Sub 17196826990608 m) (hgood : Frm m s0 s) : Frm m s0 (State.linkCommit s old p) := by
  unfold State.linkCommit
  try dsimp only
  repeat' first
    | with_reducible assumption
    | with_reducible refine State.linkStart_frm (hm.le (by decide)) ?_
    | with_reducible refine frm_ite ?_ ?_
    | fail_if_no_progress with_reducible refine frm_mk ?_
    | split

theorem State.seizeHigh_frm {k : Nat} (hm : Sub 171568044052 m) (hgood : Frm m s0 s) : Frm m s0 (State.seizeHigh s k) := by
  unfold State.seizeHigh
  try dsimp only
  repeat' first
    | with_reducible assumption
    | with_reducible refine State.excSeize_frm (hm.le (by decide)) ?_
    | with_reducible refine State.seizeTaken_frm (hm.le (by decide)) ?_
    | with_reducible refine State.setLevel_frm (hm.le (by decide)) ?_
    | with_reducible refine State.vaultTaint_frm (hm.le (by decide)) ?_
    | with_reducible refine frm_ite ?_ ?_
    | fail_if_no_progress with_reducible refine frm_mk ?_
    | split

theorem State.seizeLow_frm {k : Nat} (hm : Sub 154388174868 m) (hgood : Frm m s0 s) : Frm m s0 (State.seizeLow s k) := by
  unfold State.seizeLow
  try dsimp only
  repeat' first
    | with_reducible assumption
    | with_reducible refine State.enterUnfit_frm (hm.le (by decide)) ?_
    | with_reducible refine State.excUnseize_frm (hm.le (by decide)) ?_
    | with_reducible refine State.setLevel_frm (hm.le (by decide)) ?_
    | with_reducible refine frm_ite ?_ ?_
    | fail_if_no_progress with_reducible refine frm_mk ?_
    | split

theorem execSeizeAssert_frm (hm : Sub 171568044052 m) (hgood : Frm m s0 s) : OutFrm m s0 (execSeizeAssert s) := by
  unfold execSeizeAssert
  try dsimp only
  repeat' first
    | with_reducible assumption
    | with_reducible refine outFrm_next ?_
    | with_reducible refine outFrm_ite ?_ ?_
    | with_reducible refine State.seizeHigh_frm (hm.le (by decide)) ?_
    | with_reducible refine frm_ite ?_ ?_
    | fail_if_no_progress with_reducible refine frm_mk ?_
    | split

theorem execSeizeRelease_frm (hm : Sub 154388174868 m) (hgood : Frm m s0 s) : OutFrm m s0 (execSeizeRelease s) := by
  unfold execSeizeRelease
  try dsimp only
  repeat' first
    | with_reducible assumption
    | with_reducible refine outFrm_next ?_
    | with_reducible refine outFrm_ite ?_ ?_
    | with_reducible refine State.seizeLow_frm (hm.le (by decide)) ?_
    | with_reducible refine frm_ite ?_ ?_
    | fail_if_no_progress with_reducible refine frm_mk ?_
    | split

theorem State.stuckWatch_frm {m' : Nat} {midUv : Int} (hm : Sub 8417915934736 m) (hgood : Frm m s0 s) : Frm m s0 (State.stuckWatch s m' midUv) := by
  unfold State.stuckWatch
  try dsimp only
  repeat' first
    | with_reducible assumption
    | with_reducible refine State.activeLost_frm (hm.le (by decide)) ?_
    | with_reducible refine State.updExc_frm (hm.le (by decide)) ?_
    | with_reducible refine frm_ite ?_ ?_
    | fail_if_no_progress with_reducible refine frm_mk ?_
    | split

theorem execPulseStart_frm {m' : Fin 32} {midUv : Int} (hm : Sub 8486635411473 m) (hgood : Frm m s0 s) : OutFrm m s0 (execPulseStart m' midUv s) := by
  unfold execPulseStart
  try dsimp only
  repeat' first
    | with_reducible assumption
    | with_reducible refine outFrm_next ?_
    | with_reducible refine outFrm_ite ?_ ?_
    | with_reducible refine State.pllRunAgo_frm (hm.le (by decide)) ?_
    | with_reducible refine State.reach_frm (hm.le (by decide)) ?_
    | with_reducible refine State.startPulse_frm (hm.le (by decide)) ?_
    | with_reducible refine State.stuckWatch_frm (hm.le (by decide)) ?_
    | with_reducible refine frm_ite ?_ ?_
    | fail_if_no_progress with_reducible refine frm_mk ?_
    | split

theorem State.resolveActive_frm (hm : Sub 154390272016 m) (hgood : Frm m s0 s) : Frm m s0 (State.resolveActive s) := by
  unfold State.resolveActive
  try dsimp only
  repeat' first
    | with_reducible assumption
    | with_reducible refine State.capArmAll_frm (hm.le (by decide)) ?_
    | with_reducible refine State.sendHealth_frm (hm.le (by decide)) ?_
    | with_reducible refine State.setRole_frm (hm.le (by decide)) ?_
    | with_reducible refine frm_ite ?_ ?_
    | fail_if_no_progress with_reducible refine frm_mk ?_
    | split

theorem execRoleResolution_frm {edgeSeen : Bool} (hm : Sub 154390272017 m) (hgood : Frm m s0 s) : OutFrm m s0 (execRoleResolution edgeSeen s) := by
  unfold execRoleResolution
  try dsimp only
  repeat' first
    | with_reducible assumption
    | with_reducible refine outFrm_next ?_
    | with_reducible refine outFrm_ite ?_ ?_
    | with_reducible refine State.enterUnfit_frm (hm.le (by decide)) ?_
    | with_reducible refine State.reachUp_frm (hm.le (by decide)) ?_
    | with_reducible refine State.resolveActive_frm (hm.le (by decide)) ?_
    | with_reducible refine frm_ite ?_ ?_
    | fail_if_no_progress with_reducible refine frm_mk ?_
    | split

theorem execTwinAliveToggle_frm (hm : Sub 8589934593 m) (hgood : Frm m s0 s) : OutFrm m s0 (execTwinAliveToggle s) := by
  unfold execTwinAliveToggle
  try dsimp only
  repeat' first
    | with_reducible assumption
    | with_reducible refine outFrm_next ?_
    | with_reducible refine outFrm_ite ?_ ?_
    | with_reducible refine State.reach_frm (hm.le (by decide)) ?_
    | with_reducible refine frm_ite ?_ ?_
    | fail_if_no_progress with_reducible refine frm_mk ?_
    | split

theorem execTwinAliveEdge_frm (hm : Sub 154388174864 m) (hgood : Frm m s0 s) : OutFrm m s0 (execTwinAliveEdge s) := by
  unfold execTwinAliveEdge
  try dsimp only
  repeat' first
    | with_reducible assumption
    | with_reducible refine outFrm_next ?_
    | with_reducible refine outFrm_ite ?_ ?_
    | with_reducible refine State.enterUnfit_frm (hm.le (by decide)) ?_
    | with_reducible refine frm_ite ?_ ?_
    | fail_if_no_progress with_reducible refine frm_mk ?_
    | split

theorem execActiveLost_frm (hm : Sub 8417915934737 m) (hgood : Frm m s0 s) : OutFrm m s0 (execActiveLost s) := by
  unfold execActiveLost
  try dsimp only
  repeat' first
    | with_reducible assumption
    | with_reducible refine outFrm_next ?_
    | with_reducible refine outFrm_ite ?_ ?_
    | with_reducible refine State.activeLost_frm (hm.le (by decide)) ?_
    | with_reducible refine State.reachUp_frm (hm.le (by decide)) ?_
    | with_reducible refine frm_ite ?_ ?_
    | fail_if_no_progress with_reducible refine frm_mk ?_
    | split

theorem State.digestRun_frm {n : Nat} {bad : Bool} (hm : Sub 8589934608 m) (hgood : Frm m s0 s) : Frm m s0 (State.digestRun s n bad) := by
  unfold State.digestRun
  try dsimp only
  repeat' first
    | with_reducible assumption
    | with_reducible refine State.bump_frm (hm.le (by decide)) ?_
    | with_reducible refine State.doIf_frm ?_ ?_
    | with_reducible refine frm_ite ?_ ?_
    | fail_if_no_progress with_reducible refine frm_mk ?_
    | split

theorem State.digestPair_frm {a : DigestFrame} {b : DigestFrame} (hm : Sub 14997795149840 m) (hgood : Frm m s0 s) : Frm m s0 (State.digestPair s a b) := by
  unfold State.digestPair
  try dsimp only
  repeat' first
    | with_reducible assumption
    | with_reducible refine State.digestRun_frm (hm.le (by decide)) ?_
    | with_reducible refine State.each_frm ?_ (fun _ _ _ => ?_)
    | with_reducible refine State.setReasons_frm (hm.le (by decide)) ?_
    | with_reducible refine State.underInj_frm (hm.le (by decide)) ?_ (fun _ _ => ?_)
    | with_reducible refine frm_ite ?_ ?_
    | fail_if_no_progress with_reducible refine frm_mk ?_
    | split

theorem State.digestAlone_frm (hm : Sub 10599748638736 m) (hgood : Frm m s0 s) : Frm m s0 (State.digestAlone s) := by
  unfold State.digestAlone
  try dsimp only
  repeat' first
    | with_reducible assumption
    | with_reducible refine State.addReason_frm (hm.le (by decide)) ?_
    | with_reducible refine frm_ite ?_ ?_
    | fail_if_no_progress with_reducible refine frm_mk ?_
    | split

theorem State.digestSweep_frm (hm : Sub 10599748638736 m) (hgood : Frm m s0 s) : Frm m s0 (State.digestSweep s) := by
  unfold State.digestSweep
  try dsimp only
  repeat' first
    | with_reducible assumption
    | with_reducible refine State.digestAlone_frm (hm.le (by decide)) ?_
    | with_reducible refine State.doIf_frm ?_ ?_
    | with_reducible refine frm_ite ?_ ?_
    | fail_if_no_progress with_reducible refine frm_mk ?_
    | split

theorem State.digestOwn_frm {f : DigestFrame} (hm : Sub 14997795149840 m) (hgood : Frm m s0 s) : Frm m s0 (State.digestOwn s f) := by
  unfold State.digestOwn
  try dsimp only
  repeat' first
    | with_reducible assumption
    | with_reducible refine State.digestPair_frm (hm.le (by decide)) ?_
    | with_reducible refine State.digestSweep_frm (hm.le (by decide)) ?_
    | with_reducible refine frm_ite ?_ ?_
    | fail_if_no_progress with_reducible refine frm_mk ?_
    | split

theorem execDigest_frm {f : DigestFrame} (hm : Sub 14997795149840 m) (hgood : Frm m s0 s) : OutFrm m s0 (execDigest f s) := by
  unfold execDigest
  try dsimp only
  repeat' first
    | with_reducible assumption
    | with_reducible refine outFrm_next ?_
    | with_reducible refine outFrm_ite ?_ ?_
    | with_reducible refine State.digestPair_frm (hm.le (by decide)) ?_
    | with_reducible refine State.digestSweep_frm (hm.le (by decide)) ?_
    | with_reducible refine State.rxAccept_frm (hm.le (by decide)) ?_
    | with_reducible refine frm_ite ?_ ?_
    | fail_if_no_progress with_reducible refine frm_mk ?_
    | split

theorem State.digestMissed_frm {g : Group} {n : Nat} (hm : Sub 10599748638736 m) (hgood : Frm m s0 s) : Frm m s0 (State.digestMissed s g n) := by
  unfold State.digestMissed
  try dsimp only
  repeat' first
    | with_reducible assumption
    | with_reducible refine State.addReason_frm (hm.le (by decide)) ?_
    | with_reducible refine State.digestAlone_frm (hm.le (by decide)) ?_
    | with_reducible refine frm_ite ?_ ?_
    | fail_if_no_progress with_reducible refine frm_mk ?_
    | split

theorem execDigestMissing_frm {g : Group} {frame : Nat} (hm : Sub 10599748638737 m) (hgood : Frm m s0 s) : OutFrm m s0 (execDigestMissing g frame s) := by
  unfold execDigestMissing
  try dsimp only
  repeat' first
    | with_reducible assumption
    | with_reducible refine outFrm_next ?_
    | with_reducible refine outFrm_ite ?_ ?_
    | with_reducible refine State.bump_frm (hm.le (by decide)) ?_
    | with_reducible refine State.digestMissed_frm (hm.le (by decide)) ?_
    | with_reducible refine State.reachUp_frm (hm.le (by decide)) ?_
    | with_reducible refine frm_ite ?_ ?_
    | fail_if_no_progress with_reducible refine frm_mk ?_
    | split

theorem State.nameSwap_frm (hm : Sub 8804682956800 m) (hgood : Frm m s0 s) : Frm m s0 (State.nameSwap s) := by
  unfold State.nameSwap
  try dsimp only
  repeat' first
    | with_reducible assumption
    | with_reducible refine State.freeNext_frm (hm.le (by decide)) ?_
    | with_reducible refine frm_ite ?_ ?_
    | fail_if_no_progress with_reducible refine frm_mk ?_
    | split

theorem State.partnerAsks_frm (hm : Sub 10595449470992 m) (hgood : Frm m s0 s) : Frm m s0 (State.partnerAsks s) := by
  unfold State.partnerAsks
  try dsimp only
  repeat' first
    | with_reducible assumption
    | with_reducible refine State.bump_frm (hm.le (by decide)) ?_
    | with_reducible refine State.nameSwap_frm (hm.le (by decide)) ?_
    | with_reducible refine State.raise_frm (hm.le (by decide)) ?_
    | with_reducible refine State.retireBad_frm (hm.le (by decide)) ?_
    | with_reducible refine State.sendHealth_frm (hm.le (by decide)) ?_
    | with_reducible refine State.setBit_frm (hm.le (by decide)) ?_
    | with_reducible refine frm_ite ?_ ?_
    | fail_if_no_progress with_reducible refine frm_mk ?_
    | split

theorem State.handOver_frm (hm : Sub 6751466526736 m) (hgood : Frm m s0 s) : Frm m s0 (State.handOver s) := by
  unfold State.handOver
  try dsimp only
  repeat' first
    | with_reducible assumption
    | with_reducible refine State.closeStreams_frm (hm.le (by decide)) ?_
    | with_reducible refine State.each_frm ?_ (fun _ _ _ => ?_)
    | with_reducible refine State.postAll_frm (hm.le (by decide)) ?_
    | with_reducible refine State.setExc_frm (hm.le (by decide)) ?_
    | with_reducible refine State.setRole_frm (hm.le (by decide)) ?_
    | with_reducible refine State.updStrm_frm (hm.le (by decide)) ?_
    | with_reducible refine frm_ite ?_ ?_
    | fail_if_no_progress with_reducible refine frm_mk ?_
    | split

theorem State.takeOverBySwap_frm (hm : Sub 17214008956944 m) (hgood : Frm m s0 s) : Frm m s0 (State.takeOverBySwap s) := by
  unfold State.takeOverBySwap
  try dsimp only
  repeat' first
    | with_reducible assumption
    | with_reducible refine State.adoptData_frm (hm.le (by decide)) ?_
    | with_reducible refine State.adoptTrigSeq_frm (hm.le (by decide)) ?_
    | with_reducible refine State.capArmAll_frm (hm.le (by decide)) ?_
    | with_reducible refine State.each_frm ?_ (fun _ _ _ => ?_)
    | with_reducible refine State.followCuts_frm (hm.le (by decide)) ?_
    | with_reducible refine State.setRole_frm (hm.le (by decide)) ?_
    | with_reducible refine State.updStrm_frm (hm.le (by decide)) ?_
    | with_reducible refine State.vaultTake_frm (hm.le (by decide)) ?_
    | with_reducible refine frm_ite ?_ ?_
    | fail_if_no_progress with_reducible refine frm_mk ?_
    | split

theorem execSwapExecute_frm (hm : Sub 17214008956944 m) (hgood : Frm m s0 s) : OutFrm m s0 (execSwapExecute s) := by
  unfold execSwapExecute
  try dsimp only
  repeat' first
    | with_reducible assumption
    | with_reducible refine outFrm_next ?_
    | with_reducible refine outFrm_ite ?_ ?_
    | with_reducible refine State.bump_frm (hm.le (by decide)) ?_
    | with_reducible refine State.handOver_frm (hm.le (by decide)) ?_
    | with_reducible refine State.retireOk_frm (hm.le (by decide)) ?_
    | with_reducible refine State.sendHealth_frm (hm.le (by decide)) ?_
    | with_reducible refine State.takeOverBySwap_frm (hm.le (by decide)) ?_
    | with_reducible refine frm_ite ?_ ?_
    | fail_if_no_progress with_reducible refine frm_mk ?_
    | split

theorem execHealthSend_frm (hm : Sub 8891924497 m) (hgood : Frm m s0 s) : OutFrm m s0 (execHealthSend s) := by
  unfold execHealthSend
  try dsimp only
  repeat' first
    | with_reducible assumption
    | with_reducible refine outFrm_next ?_
    | with_reducible refine outFrm_ite ?_ ?_
    | with_reducible refine State.reachUp_frm (hm.le (by decide)) ?_
    | with_reducible refine State.sendHealth_frm (hm.le (by decide)) ?_
    | with_reducible refine frm_ite ?_ ?_
    | fail_if_no_progress with_reducible refine frm_mk ?_
    | split

theorem State.healthReasons_frm {f : HealthFrame} {before : Option HealthFrame} (hm : Sub 10599748638736 m) (hgood : Frm m s0 s) : Frm m s0 (State.healthReasons s f before) := by
  unfold State.healthReasons
  try dsimp only
  repeat' first
    | with_reducible assumption
    | with_reducible refine State.setReasons_frm (hm.le (by decide)) ?_
    | with_reducible refine frm_ite ?_ ?_
    | fail_if_no_progress with_reducible refine frm_mk ?_
    | split

theorem State.serveResync_frm {f : HealthFrame} (hm : Sub 13186891792 m) (hgood : Frm m s0 s) : Frm m s0 (State.serveResync s f) := by
  unfold State.serveResync
  try dsimp only
  repeat' first
    | with_reducible assumption
    | with_reducible refine State.sendData_frm (hm.le (by decide)) ?_
    | with_reducible refine frm_ite ?_ ?_
    | fail_if_no_progress with_reducible refine frm_mk ?_
    | split

theorem State.resolveBy_frm {f : HealthFrame} (hm : Sub 154388174864 m) (hgood : Frm m s0 s) : Frm m s0 (State.resolveBy s f) := by
  unfold State.resolveBy
  try dsimp only
  repeat' first
    | with_reducible assumption
    | with_reducible refine State.enterUnfit_frm (hm.le (by decide)) ?_
    | with_reducible refine frm_ite ?_ ?_
    | fail_if_no_progress with_reducible refine frm_mk ?_
    | split

theorem execHealth_frm {f : HealthFrame} (hm : Sub 17214008956944 m) (hgood : Frm m s0 s) : OutFrm m s0 (execHealth f s) := by
  unfold execHealth
  try dsimp only
  repeat' first
    | with_reducible assumption
    | with_reducible refine outFrm_next ?_
    | with_reducible refine outFrm_ite ?_ ?_
    | with_reducible refine State.activeLost_frm (hm.le (by decide)) ?_
    | with_reducible refine State.digestSweep_frm (hm.le (by decide)) ?_
    | with_reducible refine State.healthReasons_frm (hm.le (by decide)) ?_
    | with_reducible refine State.partnerAsks_frm (hm.le (by decide)) ?_
    | with_reducible refine State.resolveBy_frm (hm.le (by decide)) ?_
    | with_reducible refine State.rxAccept_frm (hm.le (by decide)) ?_
    | with_reducible refine State.serveResync_frm (hm.le (by decide)) ?_
    | with_reducible refine State.setReg_frm (hm.le (by decide)) ?_
    | with_reducible refine State.setRegs_frm (hm.le (by decide)) ?_
    | with_reducible refine State.underInj_frm (hm.le (by decide)) ?_ (fun _ _ => ?_)
    | with_reducible refine frm_ite ?_ ?_
    | fail_if_no_progress with_reducible refine frm_mk ?_
    | split

theorem execDualActive_frm (hm : Sub 1803655616529 m) (hgood : Frm m s0 s) : OutFrm m s0 (execDualActive s) := by
  unfold execDualActive
  try dsimp only
  repeat' first
    | with_reducible assumption
    | with_reducible refine outFrm_next ?_
    | with_reducible refine outFrm_ite ?_ ?_
    | with_reducible refine State.enterUnfit_frm (hm.le (by decide)) ?_
    | with_reducible refine State.raise_frm (hm.le (by decide)) ?_
    | with_reducible refine State.reachUp_frm (hm.le (by decide)) ?_
    | with_reducible refine State.setBit_frm (hm.le (by decide)) ?_
    | with_reducible refine frm_ite ?_ ?_
    | fail_if_no_progress with_reducible refine frm_mk ?_
    | split

theorem State.followAnew_frm (hm : Sub 10599748638736 m) (hgood : Frm m s0 s) : Frm m s0 (State.followAnew s) := by
  unfold State.followAnew
  try dsimp only
  repeat' first
    | with_reducible assumption
    | with_reducible refine State.each_frm ?_ (fun _ _ _ => ?_)
    | with_reducible refine State.resyncEnd_frm (hm.le (by decide)) ?_
    | with_reducible refine State.updStrm_frm (hm.le (by decide)) ?_
    | with_reducible refine frm_ite ?_ ?_
    | fail_if_no_progress with_reducible refine frm_mk ?_
    | split

theorem execStreamSync_frm {entries : List SyncEntry} (hm : Sub 17196826990608 m) (hgood : Frm m s0 s) : OutFrm m s0 (execStreamSync entries s) := by
  unfold execStreamSync
  try dsimp only
  repeat' first
    | with_reducible assumption
    | with_reducible refine outFrm_next ?_
    | with_reducible refine outFrm_ite ?_ ?_
    | with_reducible refine State.followCuts_frm (hm.le (by decide)) ?_
    | with_reducible refine State.rxAccept_frm (hm.le (by decide)) ?_
    | with_reducible refine frm_ite ?_ ?_
    | fail_if_no_progress with_reducible refine frm_mk ?_
    | split

theorem execAckWaitTimeout_frm (hm : Sub 11274321937 m) (hgood : Frm m s0 s) : OutFrm m s0 (execAckWaitTimeout s) := by
  unfold execAckWaitTimeout
  try dsimp only
  repeat' first
    | with_reducible assumption
    | with_reducible refine outFrm_next ?_
    | with_reducible refine outFrm_ite ?_ ?_
    | with_reducible refine State.postAll_frm (hm.le (by decide)) ?_
    | with_reducible refine State.reachUp_frm (hm.le (by decide)) ?_
    | with_reducible refine frm_ite ?_ ?_
    | fail_if_no_progress with_reducible refine frm_mk ?_
    | split

theorem execMainsFrame_frm {f : MainsFrame} (hm : Sub 10599748655120 m) (hgood : Frm m s0 s) : OutFrm m s0 (execMainsFrame f s) := by
  unfold execMainsFrame
  try dsimp only
  repeat' first
    | with_reducible assumption
    | with_reducible refine outFrm_next ?_
    | with_reducible refine outFrm_ite ?_ ?_
    | with_reducible refine State.newTa_frm (hm.le (by decide)) ?_
    | with_reducible refine State.putReason_frm (hm.le (by decide)) ?_
    | with_reducible refine State.rxAccept_frm (hm.le (by decide)) ?_
    | with_reducible refine frm_ite ?_ ?_
    | fail_if_no_progress with_reducible refine frm_mk ?_
    | split

theorem State.serveTwin_frm {id code : Nat} {f : Desc → State → State} (hm : Sub 141197082640 m) (hgood : Frm m s0 s) (hf : ∀ d t, Frm m s0 t → Frm m s0 (f d t)) : OutFrm m s0 (s.serveTwin id code f) := by
  unfold State.serveTwin
  refine State.serve_frm (hm.le (by decide)) hgood (fun d t ht => ?_)
  try dsimp only
  repeat' first
    | with_reducible exact hf _ _ ht
    | with_reducible exact State.retireBad_frm (hm.le (by decide)) ht
    | with_reducible exact ht
    | split

theorem execTwinCmdStatus_frm {id : Nat} (hm : Sub 141197082640 m) (hgood : Frm m s0 s) : OutFrm m s0 (execTwinCmdStatus id s) := by
  unfold execTwinCmdStatus
  try dsimp only
  repeat' first
    | with_reducible assumption
    | with_reducible refine outFrm_next ?_
    | with_reducible refine outFrm_ite ?_ ?_
    | with_reducible refine State.descWrite_frm (hm.le (by decide)) ?_
    | with_reducible refine State.retireOk_frm (hm.le (by decide)) ?_
    | with_reducible refine State.serveTwin_frm (hm.le (by decide)) ?_ (fun _ _ _ => ?_)
    | with_reducible refine State.take_frm (hm.le (by decide)) ?_
    | with_reducible refine frm_ite ?_ ?_
    | fail_if_no_progress with_reducible refine frm_mk ?_
    | split

theorem execTwinCmdSwap_frm {id : Nat} (hm : Sub 8946182029328 m) (hgood : Frm m s0 s) : OutFrm m s0 (execTwinCmdSwap id s) := by
  unfold execTwinCmdSwap
  try dsimp only
  repeat' first
    | with_reducible assumption
    | with_reducible refine outFrm_next ?_
    | with_reducible refine outFrm_ite ?_ ?_
    | with_reducible refine State.nameSwap_frm (hm.le (by decide)) ?_
    | with_reducible refine State.retireBad_frm (hm.le (by decide)) ?_
    | with_reducible refine State.sendHealth_frm (hm.le (by decide)) ?_
    | with_reducible refine State.serveTwin_frm (hm.le (by decide)) ?_ (fun _ _ _ => ?_)
    | with_reducible refine State.take_frm (hm.le (by decide)) ?_
    | with_reducible refine frm_ite ?_ ?_
    | fail_if_no_progress with_reducible refine frm_mk ?_
    | split

theorem execTwinCmdTakeover_frm {id : Nat} (hm : Sub 8417915934736 m) (hgood : Frm m s0 s) : OutFrm m s0 (execTwinCmdTakeover id s) := by
  unfold execTwinCmdTakeover
  try dsimp only
  repeat' first
    | with_reducible assumption
    | with_reducible refine outFrm_next ?_
    | with_reducible refine outFrm_ite ?_ ?_
    | with_reducible refine State.retireBad_frm (hm.le (by decide)) ?_
    | with_reducible refine State.retireOk_frm (hm.le (by decide)) ?_
    | with_reducible refine State.serveTwin_frm (hm.le (by decide)) ?_ (fun _ _ _ => ?_)
    | with_reducible refine State.takeover_frm (hm.le (by decide)) ?_
    | with_reducible refine frm_ite ?_ ?_
    | fail_if_no_progress with_reducible refine frm_mk ?_
    | split

theorem execTwinCmdReleaseSeize_frm {id : Nat} (hm : Sub 149787017232 m) (hgood : Frm m s0 s) : OutFrm m s0 (execTwinCmdReleaseSeize id s) := by
  unfold execTwinCmdReleaseSeize
  try dsimp only
  repeat' first
    | with_reducible assumption
    | with_reducible refine outFrm_next ?_
    | with_reducible refine outFrm_ite ?_ ?_
    | with_reducible refine State.retireBad_frm (hm.le (by decide)) ?_
    | with_reducible refine State.retireOk_frm (hm.le (by decide)) ?_
    | with_reducible refine State.serveTwin_frm (hm.le (by decide)) ?_ (fun _ _ _ => ?_)
    | with_reducible refine frm_ite ?_ ?_
    | fail_if_no_progress with_reducible refine frm_mk ?_
    | split

theorem State.resumeStream_frm {x : Nat} {seq : W32} {t : Nat} (hm : Sub 8891957264 m) (hgood : Frm m s0 s) : Frm m s0 (State.resumeStream s x seq t) := by
  unfold State.resumeStream
  try dsimp only
  repeat' first
    | with_reducible assumption
    | with_reducible refine State.countGap_frm (hm.le (by decide)) ?_
    | with_reducible refine State.setStrm_frm (hm.le (by decide)) ?_
    | with_reducible refine frm_ite ?_ ?_
    | fail_if_no_progress with_reducible refine frm_mk ?_
    | split

theorem State.resumeAll_frm {ws : List W32} (hm : Sub 15543264575504 m) (hgood : Frm m s0 s) : Frm m s0 (State.resumeAll s ws) := by
  unfold State.resumeAll
  try dsimp only
  repeat' first
    | with_reducible assumption
    | with_reducible refine State.each_frm ?_ (fun _ _ _ => ?_)
    | with_reducible refine State.endStreams_frm (hm.le (by decide)) ?_
    | with_reducible refine State.resumeStream_frm (hm.le (by decide)) ?_
    | with_reducible refine State.streamSettle_frm (hm.le (by decide)) ?_
    | with_reducible refine frm_ite ?_ ?_
    | fail_if_no_progress with_reducible refine frm_mk ?_
    | split

theorem execTwinCmdResume_frm {id : Nat} (hm : Sub 15543264575504 m) (hgood : Frm m s0 s) : OutFrm m s0 (execTwinCmdResume id s) := by
  unfold execTwinCmdResume
  try dsimp only
  repeat' first
    | with_reducible assumption
    | with_reducible refine outFrm_next ?_
    | with_reducible refine outFrm_ite ?_ ?_
    | with_reducible refine State.dmaFailed_frm (hm.le (by decide)) ?_
    | with_reducible refine State.resumeAll_frm (hm.le (by decide)) ?_
    | with_reducible refine State.retireBad_frm (hm.le (by decide)) ?_
    | with_reducible refine State.retireOk_frm (hm.le (by decide)) ?_
    | with_reducible refine State.serveTwin_frm (hm.le (by decide)) ?_ (fun _ _ _ => ?_)
    | with_reducible refine frm_ite ?_ ?_
    | fail_if_no_progress with_reducible refine frm_mk ?_
    | split

theorem execTwinCmdResync_frm {id : Nat} (hm : Sub 10599748638736 m) (hgood : Frm m s0 s) : OutFrm m s0 (execTwinCmdResync id s) := by
  unfold execTwinCmdResync
  try dsimp only
  repeat' first
    | with_reducible assumption
    | with_reducible refine outFrm_next ?_
    | with_reducible refine outFrm_ite ?_ ?_
    | with_reducible refine State.addReason_frm (hm.le (by decide)) ?_
    | with_reducible refine State.retireBad_frm (hm.le (by decide)) ?_
    | with_reducible refine State.retireOk_frm (hm.le (by decide)) ?_
    | with_reducible refine State.serveTwin_frm (hm.le (by decide)) ?_ (fun _ _ _ => ?_)
    | with_reducible refine frm_ite ?_ ?_
    | fail_if_no_progress with_reducible refine frm_mk ?_
    | split

end Sys2Proof.Machine
end

