-- ==== Sys2Proof/Laws/FrmHost.lean ====
section
/-! SUPPORT. The parts of the state each operation can change (Request, Host, Vault, Svetron, Pins, Validate, CfgApply, ConfigTxn, Frame). -/

namespace Sys2Proof.Machine

open Sys2Proof

set_option Elab.async false
set_option linter.unusedVariables false
set_option linter.unusedTactic false
set_option linter.unreachableTactic false

variable {m : Nat} {s0 s : State}

theorem State.reqEnd_frm {status : Nat} (hm : Sub 34359738384 m) (hgood : Frm m s0 s) : Frm m s0 (State.reqEnd s status) := by
  unfold State.reqEnd
  try dsimp only
  repeat' first
    | with_reducible assumption
    | with_reducible refine State.doIf_frm ?_ ?_
    | with_reducible refine State.setBit_frm (hm.le (by decide)) ?_
    | with_reducible refine State.setReg_frm (hm.le (by decide)) ?_
    | with_reducible refine frm_ite ?_ ?_
    | fail_if_no_progress with_reducible refine frm_mk ?_
    | split

theorem svSweep_frm {f : Nat} (hm : Sub 34359738384 m) : ∀ {s : State}, Frm m s0 s → Frm m s0 (svSweep f s) := by
  induction f with
  | zero => intro s  h; exact h
  | succ f ih =>
    intro s  h
    unfold svSweep
    try dsimp only
    repeat' first
      | with_reducible assumption
      | with_reducible refine ih ?_
      | with_reducible refine State.reqEnd_frm (hm.le (by decide)) ?_
      | with_reducible refine frm_ite ?_ ?_
      | fail_if_no_progress with_reducible refine frm_mk ?_
      | split

theorem State.reqArrive_frm {path : Path} {bs : List Byte} (hm : Sub 34359738384 m) (hgood : Frm m s0 s) : Frm m s0 (State.reqArrive s path bs) := by
  unfold State.reqArrive
  try dsimp only
  repeat' first
    | with_reducible assumption
    | with_reducible refine svSweep_frm (hm.le (by decide)) ?_
    | with_reducible refine frm_ite ?_ ?_
    | fail_if_no_progress with_reducible refine frm_mk ?_
    | split

theorem State.reqPull_frm (hm : Sub 34359738384 m) (hgood : Frm m s0 s) : Frm m s0 (State.reqPull s) := by
  unfold State.reqPull
  try dsimp only
  repeat' first
    | with_reducible assumption
    | with_reducible refine State.reqEnd_frm (hm.le (by decide)) ?_
    | with_reducible refine svSweep_frm (hm.le (by decide)) ?_
    | with_reducible refine frm_ite ?_ ?_
    | fail_if_no_progress with_reducible refine frm_mk ?_
    | split

theorem State.reqGo_frm (hm : Sub 34359738384 m) (hgood : Frm m s0 s) : Frm m s0 (State.reqGo s) := by
  unfold State.reqGo
  try dsimp only
  repeat' first
    | with_reducible assumption
    | with_reducible refine State.reqPull_frm (hm.le (by decide)) ?_
    | with_reducible refine frm_ite ?_ ?_
    | fail_if_no_progress with_reducible refine frm_mk ?_
    | split

theorem State.vaultRegsReset_frm (hm : Sub 16 m) (hgood : Frm m s0 s) : Frm m s0 (State.vaultRegsReset s) := by
  unfold State.vaultRegsReset
  try dsimp only
  repeat' first
    | with_reducible assumption
    | with_reducible refine State.setReg_frm (hm.le (by decide)) ?_
    | with_reducible refine frm_ite ?_ ?_
    | fail_if_no_progress with_reducible refine frm_mk ?_
    | split

theorem State.vaultStop_frm (hm : Sub 17179869184 m) (hgood : Frm m s0 s) : Frm m s0 (State.vaultStop s) := by
  unfold State.vaultStop
  try dsimp only
  repeat' first
    | with_reducible assumption
    | with_reducible refine frm_ite ?_ ?_
    | fail_if_no_progress with_reducible refine frm_mk ?_
    | split

theorem State.vaultDown_frm (hm : Sub 17179869200 m) (hgood : Frm m s0 s) : Frm m s0 (State.vaultDown s) := by
  unfold State.vaultDown
  try dsimp only
  repeat' first
    | with_reducible assumption
    | with_reducible refine State.vaultRegsReset_frm (hm.le (by decide)) ?_
    | with_reducible refine State.vaultStop_frm (hm.le (by decide)) ?_
    | with_reducible refine frm_ite ?_ ?_
    | fail_if_no_progress with_reducible refine frm_mk ?_
    | split

theorem State.ownedReload_frm (hm : Sub 14336 m) (hgood : Frm m s0 s) : Frm m s0 (State.ownedReload s) := by
  unfold State.ownedReload
  try dsimp only
  repeat' first
    | with_reducible assumption
    | with_reducible refine State.chainReset_frm (hm.le (by decide)) ?_
    | with_reducible refine State.each_frm ?_ (fun _ _ _ => ?_)
    | with_reducible refine State.excRole_frm (hm.le (by decide)) ?_
    | with_reducible refine frm_ite ?_ ?_
    | fail_if_no_progress with_reducible refine frm_mk ?_
    | split

theorem State.vaultStart_frm {imageOk : Bool} {kind : Nat} (hm : Sub 10501731923984 m) (hgood : Frm m s0 s) : Frm m s0 (State.vaultStart s imageOk kind) := by
  unfold State.vaultStart
  try dsimp only
  repeat' first
    | with_reducible assumption
    | with_reducible refine State.audit_frm (hm.le (by decide)) ?_
    | with_reducible refine State.excRole_frm (hm.le (by decide)) ?_
    | with_reducible refine State.ownedReload_frm (hm.le (by decide)) ?_
    | with_reducible refine State.raiseBare_frm (hm.le (by decide)) ?_
    | with_reducible refine State.take_frm (hm.le (by decide)) ?_
    | with_reducible refine frm_ite ?_ ?_
    | fail_if_no_progress with_reducible refine frm_mk ?_
    | split

theorem execVaultReset_frm {imageOk : Bool} (hm : Sub 10501731923984 m) (hgood : Frm m s0 s) : OutFrm m s0 (execVaultReset imageOk s) := by
  unfold execVaultReset
  try dsimp only
  repeat' first
    | with_reducible assumption
    | with_reducible refine outFrm_next ?_
    | with_reducible refine outFrm_ite ?_ ?_
    | with_reducible refine State.vaultStart_frm (hm.le (by decide)) ?_
    | with_reducible refine frm_ite ?_ ?_
    | fail_if_no_progress with_reducible refine frm_mk ?_
    | split

theorem State.vaultRollback_frm (hm : Sub 4294967296 m) (hgood : Frm m s0 s) : Frm m s0 (State.vaultRollback s) := by
  unfold State.vaultRollback
  try dsimp only
  repeat' first
    | with_reducible assumption
    | with_reducible refine frm_ite ?_ ?_
    | fail_if_no_progress with_reducible refine frm_mk ?_
    | split

theorem State.vaultRestart_frm (hm : Sub 21474836496 m) (hgood : Frm m s0 s) : Frm m s0 (State.vaultRestart s) := by
  unfold State.vaultRestart
  try dsimp only
  repeat' first
    | with_reducible assumption
    | with_reducible refine State.vaultDown_frm (hm.le (by decide)) ?_
    | with_reducible refine State.vaultRollback_frm (hm.le (by decide)) ?_
    | with_reducible refine frm_ite ?_ ?_
    | fail_if_no_progress with_reducible refine frm_mk ?_
    | split

theorem execVaultWatchdog_frm (hm : Sub 1671279149072 m) (hgood : Frm m s0 s) : OutFrm m s0 (execVaultWatchdog s) := by
  unfold execVaultWatchdog
  try dsimp only
  repeat' first
    | with_reducible assumption
    | with_reducible refine outFrm_next ?_
    | with_reducible refine outFrm_ite ?_ ?_
    | with_reducible refine State.raise_frm (hm.le (by decide)) ?_
    | with_reducible refine State.vaultRestart_frm (hm.le (by decide)) ?_
    | with_reducible refine frm_ite ?_ ?_
    | fail_if_no_progress with_reducible refine frm_mk ?_
    | split

theorem State.settlePin_frm {k : Nat} {high : Bool} (hm : Sub 4 m) (hgood : Frm m s0 s) : Frm m s0 (State.settlePin s k high) := by
  unfold State.settlePin
  try dsimp only
  repeat' first
    | with_reducible assumption
    | with_reducible refine State.setLevel_frm (hm.le (by decide)) ?_
    | with_reducible refine frm_ite ?_ ?_
    | fail_if_no_progress with_reducible refine frm_mk ?_
    | split

theorem execSealSwitchChange_frm {high : Bool} (hm : Sub 17716740100 m) (hgood : Frm m s0 s) : OutFrm m s0 (execSealSwitchChange high s) := by
  unfold execSealSwitchChange
  try dsimp only
  repeat' first
    | with_reducible assumption
    | with_reducible refine outFrm_next ?_
    | with_reducible refine outFrm_ite ?_ ?_
    | with_reducible refine State.sealTurn_frm (hm.le (by decide)) ?_
    | with_reducible refine State.settlePin_frm (hm.le (by decide)) ?_
    | with_reducible refine frm_ite ?_ ?_
    | fail_if_no_progress with_reducible refine frm_mk ?_
    | split

theorem execWeightRecordIssue_frm (hm : Sub 26071793680 m) (hgood : Frm m s0 s) : OutFrm m s0 (execWeightRecordIssue s) := by
  unfold execWeightRecordIssue
  try dsimp only
  repeat' first
    | with_reducible assumption
    | with_reducible refine outFrm_next ?_
    | with_reducible refine outFrm_ite ?_ ?_
    | with_reducible refine State.bump_frm (hm.le (by decide)) ?_
    | with_reducible refine State.sendOn_frm (hm.le (by decide)) ?_
    | with_reducible refine State.vaultTaint_frm (hm.le (by decide)) ?_
    | with_reducible refine frm_ite ?_ ?_
    | fail_if_no_progress with_reducible refine frm_mk ?_
    | split

theorem execVaultSync_frm {vseq : W32} {tExit : Nat} (hm : Sub 8813541326848 m) (hgood : Frm m s0 s) : OutFrm m s0 (execVaultSync vseq tExit s) := by
  unfold execVaultSync
  try dsimp only
  repeat' first
    | with_reducible assumption
    | with_reducible refine outFrm_next ?_
    | with_reducible refine outFrm_ite ?_ ?_
    | with_reducible refine State.rxAccept_frm (hm.le (by decide)) ?_
    | with_reducible refine frm_ite ?_ ?_
    | fail_if_no_progress with_reducible refine frm_mk ?_
    | split

theorem State.serveVault_frm {id code : Nat} {f : Desc → State → State} (hm : Sub 141197082640 m) (hgood : Frm m s0 s) (hf : ∀ d t, Frm m s0 t → Frm m s0 (f d t)) : OutFrm m s0 (s.serveVault id code f) := by
  unfold State.serveVault
  refine State.serve_frm (hm.le (by decide)) hgood (fun d t ht => ?_)
  try dsimp only
  repeat' first
    | with_reducible exact hf _ _ ht
    | with_reducible exact State.retireBad_frm (hm.le (by decide)) ht
    | with_reducible exact ht
    | split

theorem State.respond_frm {d : Desc} {bs : List Byte} (hm : Sub 141197082640 m) (hgood : Frm m s0 s) : Frm m s0 (State.respond s d bs) := by
  unfold State.respond
  try dsimp only
  repeat' first
    | with_reducible assumption
    | with_reducible refine State.descWrite_frm (hm.le (by decide)) ?_
    | with_reducible refine State.retireOk_frm (hm.le (by decide)) ?_
    | with_reducible refine State.take_frm (hm.le (by decide)) ?_
    | with_reducible refine frm_ite ?_ ?_
    | fail_if_no_progress with_reducible refine frm_mk ?_
    | split

theorem execVaultCmdStatus_frm {id : Nat} (hm : Sub 141197082640 m) (hgood : Frm m s0 s) : OutFrm m s0 (execVaultCmdStatus id s) := by
  unfold execVaultCmdStatus
  try dsimp only
  repeat' first
    | with_reducible assumption
    | with_reducible refine outFrm_next ?_
    | with_reducible refine outFrm_ite ?_ ?_
    | with_reducible refine State.respond_frm (hm.le (by decide)) ?_
    | with_reducible refine State.serveVault_frm (hm.le (by decide)) ?_ (fun _ _ _ => ?_)
    | with_reducible refine frm_ite ?_ ?_
    | fail_if_no_progress with_reducible refine frm_mk ?_
    | split

theorem execVaultCmdReadRecords_frm {id : Nat} (hm : Sub 141197082640 m) (hgood : Frm m s0 s) : OutFrm m s0 (execVaultCmdReadRecords id s) := by
  unfold execVaultCmdReadRecords
  try dsimp only
  repeat' first
    | with_reducible assumption
    | with_reducible refine outFrm_next ?_
    | with_reducible refine outFrm_ite ?_ ?_
    | with_reducible refine State.respond_frm (hm.le (by decide)) ?_
    | with_reducible refine State.serveVault_frm (hm.le (by decide)) ?_ (fun _ _ _ => ?_)
    | with_reducible refine State.take_frm (hm.le (by decide)) ?_
    | with_reducible refine frm_ite ?_ ?_
    | fail_if_no_progress with_reducible refine frm_mk ?_
    | split

theorem execVaultCmdAck_frm {id : Nat} (hm : Sub 8954469974032 m) (hgood : Frm m s0 s) : OutFrm m s0 (execVaultCmdAck id s) := by
  unfold execVaultCmdAck
  try dsimp only
  repeat' first
    | with_reducible assumption
    | with_reducible refine outFrm_next ?_
    | with_reducible refine outFrm_ite ?_ ?_
    | with_reducible refine State.dmaFailed_frm (hm.le (by decide)) ?_
    | with_reducible refine State.retireOk_frm (hm.le (by decide)) ?_
    | with_reducible refine State.serveVault_frm (hm.le (by decide)) ?_ (fun _ _ _ => ?_)
    | with_reducible refine frm_ite ?_ ?_
    | fail_if_no_progress with_reducible refine frm_mk ?_
    | split

theorem execVaultCmdReadAudit_frm {id : Nat} (hm : Sub 8937290104848 m) (hgood : Frm m s0 s) : OutFrm m s0 (execVaultCmdReadAudit id s) := by
  unfold execVaultCmdReadAudit
  try dsimp only
  repeat' first
    | with_reducible assumption
    | with_reducible refine outFrm_next ?_
    | with_reducible refine outFrm_ite ?_ ?_
    | with_reducible refine State.audit_frm (hm.le (by decide)) ?_
    | with_reducible refine State.dmaFailed_frm (hm.le (by decide)) ?_
    | with_reducible refine State.respond_frm (hm.le (by decide)) ?_
    | with_reducible refine State.retireBad_frm (hm.le (by decide)) ?_
    | with_reducible refine State.serveVault_frm (hm.le (by decide)) ?_ (fun _ _ _ => ?_)
    | with_reducible refine State.take_frm (hm.le (by decide)) ?_
    | with_reducible refine frm_ite ?_ ?_
    | fail_if_no_progress with_reducible refine frm_mk ?_
    | split

theorem execVaultCmdAuth_frm {id : Nat} (hm : Sub 8993124679696 m) (hgood : Frm m s0 s) : OutFrm m s0 (execVaultCmdAuth id s) := by
  unfold execVaultCmdAuth
  try dsimp only
  repeat' first
    | with_reducible assumption
    | with_reducible refine outFrm_next ?_
    | with_reducible refine outFrm_ite ?_ ?_
    | with_reducible refine State.dmaFailed_frm (hm.le (by decide)) ?_
    | with_reducible refine State.respond_frm (hm.le (by decide)) ?_
    | with_reducible refine State.retireBad_frm (hm.le (by decide)) ?_
    | with_reducible refine State.serveVault_frm (hm.le (by decide)) ?_ (fun _ _ _ => ?_)
    | with_reducible refine frm_ite ?_ ?_
    | fail_if_no_progress with_reducible refine frm_mk ?_
    | split

theorem execVaultCmdReset_frm {id : Nat} (hm : Sub 162671919120 m) (hgood : Frm m s0 s) : OutFrm m s0 (execVaultCmdReset id s) := by
  unfold execVaultCmdReset
  try dsimp only
  repeat' first
    | with_reducible assumption
    | with_reducible refine outFrm_next ?_
    | with_reducible refine outFrm_ite ?_ ?_
    | with_reducible refine State.retireBad_frm (hm.le (by decide)) ?_
    | with_reducible refine State.retireOk_frm (hm.le (by decide)) ?_
    | with_reducible refine State.serveVault_frm (hm.le (by decide)) ?_ (fun _ _ _ => ?_)
    | with_reducible refine State.vaultRestart_frm (hm.le (by decide)) ?_
    | with_reducible refine frm_ite ?_ ?_
    | fail_if_no_progress with_reducible refine frm_mk ?_
    | split

theorem State.request_frm {path : Path} {code : Nat} {f : List Byte → State → State × Nat} (hm : Sub 34896609296 m) (hgood : Frm m s0 s)
    (hf : ∀ b t, Frm m s0 t → Frm m s0 (f b t).1) : OutFrm m s0 (s.request path code f) := by
  unfold State.request
  split
  · exact outFrm_next hgood
  split
  · split
    · dsimp only
      split
      · exact outFrm_next (svSweep_frm (hm.le (by decide)) (State.reqEnd_frm (hm.le (by decide)) hgood))
      · refine outFrm_next (svSweep_frm (hm.le (by decide)) (State.reqEnd_frm (hm.le (by decide)) ?_))
        split
        · exact hf _ _ hgood
        · exact hgood
    · exact outFrm_next hgood
  · exact outFrm_next hgood

theorem State.newSbKey_frm {key : List Byte} (hm : Sub 34359738368 m) (hgood : Frm m s0 s) : Frm m s0 (State.newSbKey s key) := by
  unfold State.newSbKey
  try dsimp only
  repeat' first
    | with_reducible assumption
    | with_reducible refine frm_ite ?_ ?_
    | fail_if_no_progress with_reducible refine frm_mk ?_
    | split

theorem State.setMetrology_frm {k : Option (List Byte)} {always : Bool} (hm : Sub 52076478464 m) (hgood : Frm m s0 s) : Frm m s0 (State.setMetrology s k always) := by
  unfold State.setMetrology
  try dsimp only
  repeat' first
    | with_reducible assumption
    | with_reducible refine State.auditEvent_frm (hm.le (by decide)) ?_
    | with_reducible refine State.doIf_frm ?_ ?_
    | with_reducible refine frm_ite ?_ ?_
    | fail_if_no_progress with_reducible refine frm_mk ?_
    | split

theorem State.newOwner_frm {body : List Byte} (hm : Sub 52076478464 m) (hgood : Frm m s0 s) : Frm m s0 (s.newOwner body).1 := by
  unfold State.newOwner
  split
  · exact hgood
  · exact State.setMetrology_frm (hm.le (by decide)) (State.newSbKey_frm (hm.le (by decide)) (frm_mk hgood))

theorem State.injectLock_frm (hm : Sub 34359738368 m) (hgood : Frm m s0 s) : Frm m s0 (State.injectLock s) := by
  unfold State.injectLock
  try dsimp only
  repeat' first
    | with_reducible assumption
    | with_reducible refine frm_ite ?_ ?_
    | fail_if_no_progress with_reducible refine frm_mk ?_
    | split

theorem execClaim_frm {path : Path} (hm : Sub 52076478480 m) (hgood : Frm m s0 s) : OutFrm m s0 (execClaim path s) := by
  unfold execClaim
  try dsimp only
  repeat' first
    | with_reducible assumption
    | with_reducible refine outFrm_next ?_
    | with_reducible refine outFrm_ite ?_ ?_
    | with_reducible refine State.newOwner_frm (hm.le (by decide)) ?_
    | with_reducible refine State.request_frm (hm.le (by decide)) ?_ (fun _ _ _ => ?_)
    | with_reducible refine frm_ite ?_ ?_
    | fail_if_no_progress with_reducible refine frm_mk ?_
    | split

theorem execTransfer_frm {path : Path} (hm : Sub 52076478480 m) (hgood : Frm m s0 s) : OutFrm m s0 (execTransfer path s) := by
  unfold execTransfer
  try dsimp only
  repeat' first
    | with_reducible assumption
    | with_reducible refine outFrm_next ?_
    | with_reducible refine outFrm_ite ?_ ?_
    | with_reducible refine State.injectLock_frm (hm.le (by decide)) ?_
    | with_reducible refine State.newOwner_frm (hm.le (by decide)) ?_
    | with_reducible refine State.request_frm (hm.le (by decide)) ?_ (fun _ _ _ => ?_)
    | with_reducible refine frm_ite ?_ ?_
    | fail_if_no_progress with_reducible refine frm_mk ?_
    | split

theorem execRelease_frm {path : Path} (hm : Sub 34896609296 m) (hgood : Frm m s0 s) : OutFrm m s0 (execRelease path s) := by
  unfold execRelease
  try dsimp only
  repeat' first
    | with_reducible assumption
    | with_reducible refine outFrm_next ?_
    | with_reducible refine outFrm_ite ?_ ?_
    | with_reducible refine State.injectLock_frm (hm.le (by decide)) ?_
    | with_reducible refine State.request_frm (hm.le (by decide)) ?_ (fun _ _ _ => ?_)
    | with_reducible refine frm_ite ?_ ?_
    | fail_if_no_progress with_reducible refine frm_mk ?_
    | split

theorem execSetSbKey_frm {path : Path} (hm : Sub 34896609296 m) (hgood : Frm m s0 s) : OutFrm m s0 (execSetSbKey path s) := by
  unfold execSetSbKey
  try dsimp only
  repeat' first
    | with_reducible assumption
    | with_reducible refine outFrm_next ?_
    | with_reducible refine outFrm_ite ?_ ?_
    | with_reducible refine State.newSbKey_frm (hm.le (by decide)) ?_
    | with_reducible refine State.request_frm (hm.le (by decide)) ?_ (fun _ _ _ => ?_)
    | with_reducible refine frm_ite ?_ ?_
    | fail_if_no_progress with_reducible refine frm_mk ?_
    | split

theorem execSetMetrologyKey_frm {path : Path} (hm : Sub 52076478480 m) (hgood : Frm m s0 s) : OutFrm m s0 (execSetMetrologyKey path s) := by
  unfold execSetMetrologyKey
  try dsimp only
  repeat' first
    | with_reducible assumption
    | with_reducible refine outFrm_next ?_
    | with_reducible refine outFrm_ite ?_ ?_
    | with_reducible refine State.request_frm (hm.le (by decide)) ?_ (fun _ _ _ => ?_)
    | with_reducible refine State.setMetrology_frm (hm.le (by decide)) ?_
    | with_reducible refine frm_ite ?_ ?_
    | fail_if_no_progress with_reducible refine frm_mk ?_
    | split

theorem execEndorse_frm {path : Path} (hm : Sub 34896609296 m) (hgood : Frm m s0 s) : OutFrm m s0 (execEndorse path s) := by
  unfold execEndorse
  try dsimp only
  repeat' first
    | with_reducible assumption
    | with_reducible refine outFrm_next ?_
    | with_reducible refine outFrm_ite ?_ ?_
    | with_reducible refine State.request_frm (hm.le (by decide)) ?_ (fun _ _ _ => ?_)
    | with_reducible refine frm_ite ?_ ?_
    | fail_if_no_progress with_reducible refine frm_mk ?_
    | split

theorem execSetPolicy_frm {path : Path} (hm : Sub 34896609296 m) (hgood : Frm m s0 s) : OutFrm m s0 (execSetPolicy path s) := by
  unfold execSetPolicy
  try dsimp only
  repeat' first
    | with_reducible assumption
    | with_reducible refine outFrm_next ?_
    | with_reducible refine outFrm_ite ?_ ?_
    | with_reducible refine State.request_frm (hm.le (by decide)) ?_ (fun _ _ _ => ?_)
    | with_reducible refine frm_ite ?_ ?_
    | fail_if_no_progress with_reducible refine frm_mk ?_
    | split

theorem execUnlockInject_frm {path : Path} (hm : Sub 34896609296 m) (hgood : Frm m s0 s) : OutFrm m s0 (execUnlockInject path s) := by
  unfold execUnlockInject
  try dsimp only
  repeat' first
    | with_reducible assumption
    | with_reducible refine outFrm_next ?_
    | with_reducible refine outFrm_ite ?_ ?_
    | with_reducible refine State.request_frm (hm.le (by decide)) ?_ (fun _ _ _ => ?_)
    | with_reducible refine frm_ite ?_ ?_
    | fail_if_no_progress with_reducible refine frm_mk ?_
    | split

theorem execLockInject_frm {path : Path} (hm : Sub 34896609296 m) (hgood : Frm m s0 s) : OutFrm m s0 (execLockInject path s) := by
  unfold execLockInject
  try dsimp only
  repeat' first
    | with_reducible assumption
    | with_reducible refine outFrm_next ?_
    | with_reducible refine outFrm_ite ?_ ?_
    | with_reducible refine State.injectLock_frm (hm.le (by decide)) ?_
    | with_reducible refine State.request_frm (hm.le (by decide)) ?_ (fun _ _ _ => ?_)
    | with_reducible refine frm_ite ?_ ?_
    | fail_if_no_progress with_reducible refine frm_mk ?_
    | split

theorem execUnlockDebug_frm {path : Path} (hm : Sub 34896609296 m) (hgood : Frm m s0 s) : OutFrm m s0 (execUnlockDebug path s) := by
  unfold execUnlockDebug
  try dsimp only
  repeat' first
    | with_reducible assumption
    | with_reducible refine outFrm_next ?_
    | with_reducible refine outFrm_ite ?_ ?_
    | with_reducible refine State.request_frm (hm.le (by decide)) ?_ (fun _ _ _ => ?_)
    | with_reducible refine frm_ite ?_ ?_
    | fail_if_no_progress with_reducible refine frm_mk ?_
    | split

theorem execBackoffEnd_frm (hm : Sub 34359738369 m) (hgood : Frm m s0 s) : OutFrm m s0 (execBackoffEnd s) := by
  unfold execBackoffEnd
  try dsimp only
  repeat' first
    | with_reducible assumption
    | with_reducible refine outFrm_next ?_
    | with_reducible refine outFrm_ite ?_ ?_
    | with_reducible refine State.reachUp_frm (hm.le (by decide)) ?_
    | with_reducible refine frm_ite ?_ ?_
    | fail_if_no_progress with_reducible refine frm_mk ?_
    | split

theorem execSignReq_frm {id : Nat} (hm : Sub 141197082640 m) (hgood : Frm m s0 s) : OutFrm m s0 (execSignReq id s) := by
  unfold execSignReq
  try dsimp only
  repeat' first
    | with_reducible assumption
    | with_reducible refine outFrm_next ?_
    | with_reducible refine outFrm_ite ?_ ?_
    | with_reducible refine State.bump_frm (hm.le (by decide)) ?_
    | with_reducible refine State.descWrite_frm (hm.le (by decide)) ?_
    | with_reducible refine State.retireBad_frm (hm.le (by decide)) ?_
    | with_reducible refine State.retireOk_frm (hm.le (by decide)) ?_
    | with_reducible refine State.serve_frm (hm.le (by decide)) ?_ (fun _ _ _ => ?_)
    | with_reducible refine State.take_frm (hm.le (by decide)) ?_
    | with_reducible refine frm_ite ?_ ?_
    | fail_if_no_progress with_reducible refine frm_mk ?_
    | split

theorem execAttest_frm {id : Nat} (hm : Sub 141197082640 m) (hgood : Frm m s0 s) : OutFrm m s0 (execAttest id s) := by
  unfold execAttest
  try dsimp only
  repeat' first
    | with_reducible assumption
    | with_reducible refine outFrm_next ?_
    | with_reducible refine outFrm_ite ?_ ?_
    | with_reducible refine State.bump_frm (hm.le (by decide)) ?_
    | with_reducible refine State.descWrite_frm (hm.le (by decide)) ?_
    | with_reducible refine State.retireOk_frm (hm.le (by decide)) ?_
    | with_reducible refine State.serve_frm (hm.le (by decide)) ?_ (fun _ _ _ => ?_)
    | with_reducible refine State.take_frm (hm.le (by decide)) ?_
    | with_reducible refine frm_ite ?_ ?_
    | fail_if_no_progress with_reducible refine frm_mk ?_
    | split

theorem State.seizeSettled_frm {k : Nat} {high : Bool} (hm : Sub 171568044052 m) (hgood : Frm m s0 s) : Frm m s0 (State.seizeSettled s k high) := by
  unfold State.seizeSettled
  try dsimp only
  repeat' first
    | with_reducible assumption
    | with_reducible refine State.seizeHigh_frm (hm.le (by decide)) ?_
    | with_reducible refine State.seizeLow_frm (hm.le (by decide)) ?_
    | with_reducible refine frm_ite ?_ ?_
    | fail_if_no_progress with_reducible refine frm_mk ?_
    | split

theorem execPinSettle_frm {k : Fin 33} {high : Bool} (hm : Sub 171568044052 m) (hgood : Frm m s0 s) : OutFrm m s0 (execPinSettle k high s) := by
  unfold execPinSettle
  try dsimp only
  repeat' first
    | with_reducible assumption
    | with_reducible refine outFrm_next ?_
    | with_reducible refine outFrm_ite ?_ ?_
    | with_reducible refine State.sealTurn_frm (hm.le (by decide)) ?_
    | with_reducible refine State.seizeSettled_frm (hm.le (by decide)) ?_
    | with_reducible refine State.settlePin_frm (hm.le (by decide)) ?_
    | with_reducible refine frm_ite ?_ ?_
    | fail_if_no_progress with_reducible refine frm_mk ?_
    | split

theorem State.seizeCheck_frm {fed : Bool} (hm : Sub 17179871232 m) (hgood : Frm m s0 s) : Frm m s0 (State.seizeCheck s fed) := by
  unfold State.seizeCheck
  try dsimp only
  repeat' first
    | with_reducible assumption
    | with_reducible refine State.excSeize_frm (hm.le (by decide)) ?_
    | with_reducible refine State.excUnseize_frm (hm.le (by decide)) ?_
    | with_reducible refine State.vaultTaint_frm (hm.le (by decide)) ?_
    | with_reducible refine frm_ite ?_ ?_
    | fail_if_no_progress with_reducible refine frm_mk ?_
    | split

theorem execFunctionSwitchPark_frm {k : Fin 32} (hm : Sub 17179871237 m) (hgood : Frm m s0 s) : OutFrm m s0 (execFunctionSwitchPark k s) := by
  unfold execFunctionSwitchPark
  try dsimp only
  repeat' first
    | with_reducible assumption
    | with_reducible refine outFrm_next ?_
    | with_reducible refine outFrm_ite ?_ ?_
    | with_reducible refine State.reachCricket_frm (hm.le (by decide)) ?_
    | with_reducible refine State.seizeCheck_frm (hm.le (by decide)) ?_
    | with_reducible refine frm_ite ?_ ?_
    | fail_if_no_progress with_reducible refine frm_mk ?_
    | split

theorem execFunctionSwitchConnect_frm {k : Fin 32} (hm : Sub 171568044053 m) (hgood : Frm m s0 s) : OutFrm m s0 (execFunctionSwitchConnect k s) := by
  unfold execFunctionSwitchConnect
  try dsimp only
  repeat' first
    | with_reducible assumption
    | with_reducible refine outFrm_next ?_
    | with_reducible refine outFrm_ite ?_ ?_
    | with_reducible refine State.reachCricket_frm (hm.le (by decide)) ?_
    | with_reducible refine State.seizeCheck_frm (hm.le (by decide)) ?_
    | with_reducible refine State.seizeSettled_frm (hm.le (by decide)) ?_
    | with_reducible refine frm_ite ?_ ?_
    | fail_if_no_progress with_reducible refine frm_mk ?_
    | split

theorem execPinOutSet_frm {v : W32} (hm : Sub 16 m) (hgood : Frm m s0 s) : OutFrm m s0 (execPinOutSet v s) := by
  unfold execPinOutSet
  try dsimp only
  repeat' first
    | with_reducible assumption
    | with_reducible refine outFrm_next ?_
    | with_reducible refine outFrm_ite ?_ ?_
    | with_reducible refine State.setReg_frm (hm.le (by decide)) ?_
    | with_reducible refine frm_ite ?_ ?_
    | fail_if_no_progress with_reducible refine frm_mk ?_
    | split

theorem execPinOutClr_frm {v : W32} (hm : Sub 16 m) (hgood : Frm m s0 s) : OutFrm m s0 (execPinOutClr v s) := by
  unfold execPinOutClr
  try dsimp only
  repeat' first
    | with_reducible assumption
    | with_reducible refine outFrm_next ?_
    | with_reducible refine outFrm_ite ?_ ?_
    | with_reducible refine State.setReg_frm (hm.le (by decide)) ?_
    | with_reducible refine frm_ite ?_ ?_
    | fail_if_no_progress with_reducible refine frm_mk ?_
    | split

theorem State.startDoorbell_frm {nudged : Bool} (hm : Sub 536870928 m) (hgood : Frm m s0 s) : Frm m s0 (State.startDoorbell s nudged) := by
  unfold State.startDoorbell
  try dsimp only
  repeat' first
    | with_reducible assumption
    | with_reducible refine State.bump_frm (hm.le (by decide)) ?_
    | with_reducible refine State.doIf_frm ?_ ?_
    | with_reducible refine frm_ite ?_ ?_
    | fail_if_no_progress with_reducible refine frm_mk ?_
    | split

theorem execNudge_frm {writes : List NudgeWrite} (hm : Sub 8865349369873 m) (hgood : Frm m s0 s) : OutFrm m s0 (execNudge writes s) := by
  unfold execNudge
  try dsimp only
  repeat' first
    | with_reducible assumption
    | with_reducible refine outFrm_next ?_
    | with_reducible refine outFrm_ite ?_ ?_
    | with_reducible refine State.bump_frm (hm.le (by decide)) ?_
    | with_reducible refine State.coreNeed_frm (hm.le (by decide)) ?_
    | with_reducible refine State.doIf_frm ?_ ?_
    | with_reducible refine State.startDoorbell_frm (hm.le (by decide)) ?_
    | with_reducible refine frm_ite ?_ ?_
    | fail_if_no_progress with_reducible refine frm_mk ?_
    | split

theorem execDbPoll_frm (hm : Sub 69256347665 m) (hgood : Frm m s0 s) : OutFrm m s0 (execDbPoll s) := by
  unfold execDbPoll
  try dsimp only
  repeat' first
    | with_reducible assumption
    | with_reducible refine outFrm_next ?_
    | with_reducible refine outFrm_ite ?_ ?_
    | with_reducible refine State.pllRunAgo_frm (hm.le (by decide)) ?_
    | with_reducible refine State.reachUp_frm (hm.le (by decide)) ?_
    | with_reducible refine State.startDoorbell_frm (hm.le (by decide)) ?_
    | with_reducible refine frm_ite ?_ ?_
    | fail_if_no_progress with_reducible refine frm_mk ?_
    | split

theorem State.takeDoorbell_frm {page : List Byte} (hm : Sub 1653025570832 m) (hgood : Frm m s0 s) : Frm m s0 (State.takeDoorbell s page) := by
  unfold State.takeDoorbell
  try dsimp only
  repeat' first
    | with_reducible assumption
    | with_reducible refine State.each_frm ?_ (fun _ _ _ => ?_)
    | with_reducible refine State.postAll_frm (hm.le (by decide)) ?_
    | with_reducible refine State.raiseAll_frm (hm.le (by decide)) ?_
    | with_reducible refine State.setBit_frm (hm.le (by decide)) ?_
    | with_reducible refine State.updCq_frm (hm.le (by decide)) ?_
    | with_reducible refine State.updSq_frm (hm.le (by decide)) ?_
    | with_reducible refine frm_ite ?_ ?_
    | fail_if_no_progress with_reducible refine frm_mk ?_
    | split

theorem execDoorbellFetch_frm {readOk : Bool} (hm : Sub 10449118593040 m) (hgood : Frm m s0 s) : OutFrm m s0 (execDoorbellFetch readOk s) := by
  unfold execDoorbellFetch
  try dsimp only
  repeat' first
    | with_reducible assumption
    | with_reducible refine outFrm_next ?_
    | with_reducible refine outFrm_ite ?_ ?_
    | with_reducible refine State.aerReport_frm (hm.le (by decide)) ?_
    | with_reducible refine State.startDoorbell_frm (hm.le (by decide)) ?_
    | with_reducible refine State.takeDoorbell_frm (hm.le (by decide)) ?_
    | with_reducible refine frm_ite ?_ ?_
    | fail_if_no_progress with_reducible refine frm_mk ?_
    | split

theorem State.enlist_frm {d : Desc} (hm : Sub 141197082640 m) (hgood : Frm m s0 s) : Frm m s0 (State.enlist s d) := by
  unfold State.enlist
  try dsimp only
  repeat' first
    | with_reducible assumption
    | with_reducible refine State.retireBad_frm (hm.le (by decide)) ?_
    | with_reducible refine State.sweepBad_frm (hm.le (by decide)) ?_
    | with_reducible refine frm_ite ?_ ?_
    | fail_if_no_progress with_reducible refine frm_mk ?_
    | split

theorem State.fetchFailed_frm {r : Nat} (hm : Sub 8797703634960 m) (hgood : Frm m s0 s) : Frm m s0 (State.fetchFailed s r) := by
  unfold State.fetchFailed
  try dsimp only
  repeat' first
    | with_reducible assumption
    | with_reducible refine State.aerReport_frm (hm.le (by decide)) ?_
    | with_reducible refine State.setBit_frm (hm.le (by decide)) ?_
    | with_reducible refine State.updSq_frm (hm.le (by decide)) ?_
    | with_reducible refine frm_ite ?_ ?_
    | fail_if_no_progress with_reducible refine frm_mk ?_
    | split

theorem execDescriptorFetch_frm {r : Fin 64} {readOk : Bool} (hm : Sub 11136313360400 m) (hgood : Frm m s0 s) : OutFrm m s0 (execDescriptorFetch r readOk s) := by
  unfold execDescriptorFetch
  try dsimp only
  repeat' first
    | with_reducible assumption
    | with_reducible refine outFrm_next ?_
    | with_reducible refine outFrm_ite ?_ ?_
    | with_reducible refine State.doIf_frm ?_ ?_
    | with_reducible refine State.enlist_frm (hm.le (by decide)) ?_
    | with_reducible refine State.fetchFailed_frm (hm.le (by decide)) ?_
    | with_reducible refine State.setSq_frm (hm.le (by decide)) ?_
    | with_reducible refine State.useInj_frm (hm.le (by decide)) ?_
    | with_reducible refine frm_ite ?_ ?_
    | fail_if_no_progress with_reducible refine frm_mk ?_
    | split

theorem execNop_frm {id : Nat} (hm : Sub 141197082640 m) (hgood : Frm m s0 s) : OutFrm m s0 (execNop id s) := by
  unfold execNop
  try dsimp only
  repeat' first
    | with_reducible assumption
    | with_reducible refine outFrm_next ?_
    | with_reducible refine outFrm_ite ?_ ?_
    | with_reducible refine State.retireOk_frm (hm.le (by decide)) ?_
    | with_reducible refine State.serve_frm (hm.le (by decide)) ?_ (fun _ _ _ => ?_)
    | with_reducible refine frm_ite ?_ ?_
    | fail_if_no_progress with_reducible refine frm_mk ?_
    | split

theorem execFence_frm {id : Nat} (hm : Sub 141197082640 m) (hgood : Frm m s0 s) : OutFrm m s0 (execFence id s) := by
  unfold execFence
  try dsimp only
  repeat' first
    | with_reducible assumption
    | with_reducible refine outFrm_next ?_
    | with_reducible refine outFrm_ite ?_ ?_
    | with_reducible refine State.retireOk_frm (hm.le (by decide)) ?_
    | with_reducible refine State.serve_frm (hm.le (by decide)) ?_ (fun _ _ _ => ?_)
    | with_reducible refine frm_ite ?_ ?_
    | fail_if_no_progress with_reducible refine frm_mk ?_
    | split

theorem State.touchTxn_frm {d : Desc} (hm : Sub 4294967296 m) (hgood : Frm m s0 s) : Frm m s0 (State.touchTxn s d) := by
  unfold State.touchTxn
  try dsimp only
  repeat' first
    | with_reducible assumption
    | with_reducible refine frm_ite ?_ ?_
    | fail_if_no_progress with_reducible refine frm_mk ?_
    | split

theorem execEngineHoldTimeout_frm {id : Nat} (hm : Sub 145492049937 m) (hgood : Frm m s0 s) : OutFrm m s0 (execEngineHoldTimeout id s) := by
  unfold execEngineHoldTimeout
  try dsimp only
  repeat' first
    | with_reducible assumption
    | with_reducible refine outFrm_next ?_
    | with_reducible refine outFrm_ite ?_ ?_
    | with_reducible refine State.reachUp_frm (hm.le (by decide)) ?_
    | with_reducible refine State.retireBad_frm (hm.le (by decide)) ?_
    | with_reducible refine State.touchTxn_frm (hm.le (by decide)) ?_
    | with_reducible refine frm_ite ?_ ?_
    | fail_if_no_progress with_reducible refine frm_mk ?_
    | split

theorem execCqModerationTimer_frm {q : Fin 64} (hm : Sub 2684354577 m) (hgood : Frm m s0 s) : OutFrm m s0 (execCqModerationTimer q s) := by
  unfold execCqModerationTimer
  try dsimp only
  repeat' first
    | with_reducible assumption
    | with_reducible refine outFrm_next ?_
    | with_reducible refine outFrm_ite ?_ ?_
    | with_reducible refine State.msix_frm (hm.le (by decide)) ?_
    | with_reducible refine State.reachUp_frm (hm.le (by decide)) ?_
    | with_reducible refine State.setCq_frm (hm.le (by decide)) ?_
    | with_reducible refine frm_ite ?_ ?_
    | fail_if_no_progress with_reducible refine frm_mk ?_
    | split

theorem execSqEnable_frm {r : Fin 64} {v : W32} (hm : Sub 1169304846352 m) (hgood : Frm m s0 s) : OutFrm m s0 (execSqEnable r v s) := by
  unfold execSqEnable
  try dsimp only
  repeat' first
    | with_reducible assumption
    | with_reducible refine outFrm_next ?_
    | with_reducible refine outFrm_ite ?_ ?_
    | with_reducible refine State.endHandling_frm (hm.le (by decide)) ?_
    | with_reducible refine State.refuserNote_frm (hm.le (by decide)) ?_
    | with_reducible refine State.setBit_frm (hm.le (by decide)) ?_
    | with_reducible refine State.setReg_frm (hm.le (by decide)) ?_
    | with_reducible refine State.setSq_frm (hm.le (by decide)) ?_
    | with_reducible refine frm_ite ?_ ?_
    | fail_if_no_progress with_reducible refine frm_mk ?_
    | split

theorem State.capRelease_frm {id : Nat} (hm : Sub 2097152 m) (hgood : Frm m s0 s) : Frm m s0 (State.capRelease s id) := by
  unfold State.capRelease
  try dsimp only
  repeat' first
    | with_reducible assumption
    | with_reducible refine State.each_frm ?_ (fun _ _ _ => ?_)
    | with_reducible refine State.updCap_frm (hm.le (by decide)) ?_
    | with_reducible refine frm_ite ?_ ?_
    | fail_if_no_progress with_reducible refine frm_mk ?_
    | split

theorem State.abandon_frm {d : Desc} (hm : Sub 13436452864 m) (hgood : Frm m s0 s) : Frm m s0 (State.abandon s d) := by
  unfold State.abandon
  try dsimp only
  repeat' first
    | with_reducible assumption
    | with_reducible refine State.capRelease_frm (hm.le (by decide)) ?_
    | with_reducible refine State.chainPast_frm (hm.le (by decide)) ?_
    | with_reducible refine State.dropJob_frm (hm.le (by decide)) ?_
    | with_reducible refine State.touchTxn_frm (hm.le (by decide)) ?_
    | with_reducible refine State.unstage_frm (hm.le (by decide)) ?_
    | with_reducible refine frm_ite ?_ ?_
    | fail_if_no_progress with_reducible refine frm_mk ?_
    | split

theorem State.abortDesc_frm {d : Desc} (hm : Sub 154398654480 m) (hgood : Frm m s0 s) : Frm m s0 (State.abortDesc s d) := by
  unfold State.abortDesc
  try dsimp only
  repeat' first
    | with_reducible assumption
    | with_reducible refine State.abandon_frm (hm.le (by decide)) ?_
    | with_reducible refine State.retireBad_frm (hm.le (by decide)) ?_
    | with_reducible refine State.retireBuf_frm (hm.le (by decide)) ?_
    | with_reducible refine State.retireEmpty_frm (hm.le (by decide)) ?_
    | with_reducible refine frm_ite ?_ ?_
    | fail_if_no_progress with_reducible refine frm_mk ?_
    | split

theorem execSqDisable_frm {r : Fin 64} (hm : Sub 154398654480 m) (hgood : Frm m s0 s) : OutFrm m s0 (execSqDisable r s) := by
  unfold execSqDisable
  try dsimp only
  repeat' first
    | with_reducible assumption
    | with_reducible refine outFrm_next ?_
    | with_reducible refine outFrm_ite ?_ ?_
    | with_reducible refine State.abortDesc_frm (hm.le (by decide)) ?_
    | with_reducible refine State.clrBit_frm (hm.le (by decide)) ?_
    | with_reducible refine State.drainCheck_frm (hm.le (by decide)) ?_
    | with_reducible refine State.each_frm ?_ (fun _ _ _ => ?_)
    | with_reducible refine State.updSq_frm (hm.le (by decide)) ?_
    | with_reducible refine frm_ite ?_ ?_
    | fail_if_no_progress with_reducible refine frm_mk ?_
    | split

theorem execCqEnable_frm {q : Fin 64} {v : W32} (hm : Sub 2684387344 m) (hgood : Frm m s0 s) : OutFrm m s0 (execCqEnable q v s) := by
  unfold execCqEnable
  try dsimp only
  repeat' first
    | with_reducible assumption
    | with_reducible refine outFrm_next ?_
    | with_reducible refine outFrm_ite ?_ ?_
    | with_reducible refine State.postAll_frm (hm.le (by decide)) ?_
    | with_reducible refine State.setBit_frm (hm.le (by decide)) ?_
    | with_reducible refine State.setCq_frm (hm.le (by decide)) ?_
    | with_reducible refine State.setReg_frm (hm.le (by decide)) ?_
    | with_reducible refine frm_ite ?_ ?_
    | fail_if_no_progress with_reducible refine frm_mk ?_
    | split

theorem execCqDisable_frm {q : Fin 64} (hm : Sub 2147483664 m) (hgood : Frm m s0 s) : OutFrm m s0 (execCqDisable q s) := by
  unfold execCqDisable
  try dsimp only
  repeat' first
    | with_reducible assumption
    | with_reducible refine outFrm_next ?_
    | with_reducible refine outFrm_ite ?_ ?_
    | with_reducible refine State.bump_frm (hm.le (by decide)) ?_
    | with_reducible refine State.clrBit_frm (hm.le (by decide)) ?_
    | with_reducible refine State.updCq_frm (hm.le (by decide)) ?_
    | with_reducible refine frm_ite ?_ ?_
    | fail_if_no_progress with_reducible refine frm_mk ?_
    | split

theorem State.hostifReset_frm (hm : Sub 1102732853264 m) (hgood : Frm m s0 s) : Frm m s0 (State.hostifReset s) := by
  unfold State.hostifReset
  try dsimp only
  repeat' first
    | with_reducible assumption
    | with_reducible refine frm_ite ?_ ?_
    | fail_if_no_progress with_reducible refine frm_mk ?_
    | split

theorem State.dropRings_frm (hm : Sub 9141518336 m) (hgood : Frm m s0 s) : Frm m s0 (State.dropRings s) := by
  unfold State.dropRings
  try dsimp only
  repeat' first
    | with_reducible assumption
    | with_reducible refine State.each_frm ?_ (fun _ _ _ => ?_)
    | with_reducible refine State.updCap_frm (hm.le (by decide)) ?_
    | with_reducible refine State.updStrm_frm (hm.le (by decide)) ?_
    | with_reducible refine frm_ite ?_ ?_
    | fail_if_no_progress with_reducible refine frm_mk ?_
    | split

theorem execPcieConventionalReset_frm (hm : Sub 10050003304468 m) (hgood : Frm m s0 s) : OutFrm m s0 (execPcieConventionalReset s) := by
  unfold execPcieConventionalReset
  try dsimp only
  repeat' first
    | with_reducible assumption
    | with_reducible refine outFrm_next ?_
    | with_reducible refine outFrm_ite ?_ ?_
    | with_reducible refine State.assignAll_frm (hm.le (by decide)) ?_
    | with_reducible refine State.dropRings_frm (hm.le (by decide)) ?_
    | with_reducible refine State.endStreams_frm (hm.le (by decide)) ?_
    | with_reducible refine State.freeNext_frm (hm.le (by decide)) ?_
    | with_reducible refine State.hostifReset_frm (hm.le (by decide)) ?_
    | with_reducible refine frm_ite ?_ ?_
    | fail_if_no_progress with_reducible refine frm_mk ?_
    | split

theorem State.resumeDma_frm (hm : Sub 8980545962000 m) (hgood : Frm m s0 s) : Frm m s0 (State.resumeDma s) := by
  unfold State.resumeDma
  try dsimp only
  repeat' first
    | with_reducible assumption
    | with_reducible refine State.copyJobs_frm (hm.le (by decide)) ?_
    | with_reducible refine State.endStreams_frm (hm.le (by decide)) ?_
    | with_reducible refine State.msixPending_frm (hm.le (by decide)) ?_
    | with_reducible refine State.postAll_frm (hm.le (by decide)) ?_
    | with_reducible refine State.reqPull_frm (hm.le (by decide)) ?_
    | with_reducible refine frm_ite ?_ ?_
    | fail_if_no_progress with_reducible refine frm_mk ?_
    | split

theorem State.pcieTrained_frm (hm : Sub 8796629893124 m) (hgood : Frm m s0 s) : Frm m s0 (State.pcieTrained s) := by
  unfold State.pcieTrained
  try dsimp only
  repeat' first
    | with_reducible assumption
    | with_reducible refine frm_ite ?_ ?_
    | fail_if_no_progress with_reducible refine frm_mk ?_
    | split

theorem execPcieLinkUp_frm (hm : Sub 8980545962004 m) (hgood : Frm m s0 s) : OutFrm m s0 (execPcieLinkUp s) := by
  unfold execPcieLinkUp
  try dsimp only
  repeat' first
    | with_reducible assumption
    | with_reducible refine outFrm_next ?_
    | with_reducible refine outFrm_ite ?_ ?_
    | with_reducible refine State.pcieTrained_frm (hm.le (by decide)) ?_
    | with_reducible refine State.resumeDma_frm (hm.le (by decide)) ?_
    | with_reducible refine frm_ite ?_ ?_
    | fail_if_no_progress with_reducible refine frm_mk ?_
    | split

theorem execBusMasterEnable_frm {c : PcieControl} (hm : Sub 8980545962000 m) (hgood : Frm m s0 s) : OutFrm m s0 (execBusMasterEnable c s) := by
  unfold execBusMasterEnable
  try dsimp only
  repeat' first
    | with_reducible assumption
    | with_reducible refine outFrm_next ?_
    | with_reducible refine outFrm_ite ?_ ?_
    | with_reducible refine State.resumeDma_frm (hm.le (by decide)) ?_
    | with_reducible refine frm_ite ?_ ?_
    | fail_if_no_progress with_reducible refine frm_mk ?_
    | split

theorem State.launchFlip_frm {f : FlipSt} (hm : Sub 13186891792 m) (hgood : Frm m s0 s) : Frm m s0 (State.launchFlip s f) := by
  unfold State.launchFlip
  try dsimp only
  repeat' first
    | with_reducible assumption
    | with_reducible refine State.armFlip_frm (hm.le (by decide)) ?_
    | with_reducible refine State.sendData_frm (hm.le (by decide)) ?_
    | with_reducible refine frm_ite ?_ ?_
    | fail_if_no_progress with_reducible refine frm_mk ?_
    | split

theorem State.flipBoundary_frm {g : Nat} {k : Nat} (hm : Sub 4294967297 m) (hgood : Frm m s0 s) : Frm m s0 (State.flipBoundary s g k) := by
  unfold State.flipBoundary
  try dsimp only
  repeat' first
    | with_reducible assumption
    | with_reducible refine State.reach_frm (hm.le (by decide)) ?_
    | with_reducible refine frm_ite ?_ ?_
    | fail_if_no_progress with_reducible refine frm_mk ?_
    | split

theorem State.badGroup_frm {g : Nat} (hm : Sub 6747171553328 m) (hgood : Frm m s0 s) : Frm m s0 (State.badGroup s g) := by
  unfold State.badGroup
  try dsimp only
  repeat' first
    | with_reducible assumption
    | with_reducible refine State.doIf_frm ?_ ?_
    | with_reducible refine State.loseDeferred_frm (hm.le (by decide)) ?_
    | with_reducible refine State.loseGroup_frm (hm.le (by decide)) ?_
    | with_reducible refine State.stopGroup_frm (hm.le (by decide)) ?_
    | with_reducible refine State.updGrp_frm (hm.le (by decide)) ?_
    | with_reducible refine frm_ite ?_ ?_
    | fail_if_no_progress with_reducible refine frm_mk ?_
    | split

theorem State.capAbort_frm {u : Nat} (hm : Sub 141199179792 m) (hgood : Frm m s0 s) : Frm m s0 (State.capAbort s u) := by
  unfold State.capAbort
  try dsimp only
  repeat' first
    | with_reducible assumption
    | with_reducible refine State.each_frm ?_ (fun _ _ _ => ?_)
    | with_reducible refine State.retireBad_frm (hm.le (by decide)) ?_
    | with_reducible refine State.updCap_frm (hm.le (by decide)) ?_
    | with_reducible refine frm_ite ?_ ?_
    | fail_if_no_progress with_reducible refine frm_mk ?_
    | split

theorem State.flipFails_frm {f : FlipSt} (hm : Sub 145492049936 m) (hgood : Frm m s0 s) : Frm m s0 (State.flipFails s f) := by
  unfold State.flipFails
  try dsimp only
  repeat' first
    | with_reducible assumption
    | with_reducible refine State.bump_frm (hm.le (by decide)) ?_
    | with_reducible refine State.retireBad_frm (hm.le (by decide)) ?_
    | with_reducible refine State.setReg_frm (hm.le (by decide)) ?_
    | with_reducible refine frm_ite ?_ ?_
    | fail_if_no_progress with_reducible refine frm_mk ?_
    | split

theorem State.enterBad_frm {cause : Nat} (hm : Sub 17214143174704 m) (hgood : Frm m s0 s) : Frm m s0 (State.enterBad s cause) := by
  unfold State.enterBad
  try dsimp only
  repeat' first
    | with_reducible assumption
    | with_reducible refine State.badGroup_frm (hm.le (by decide)) ?_
    | with_reducible refine State.capAbort_frm (hm.le (by decide)) ?_
    | with_reducible refine State.each_frm ?_ (fun _ _ _ => ?_)
    | with_reducible refine State.excRole_frm (hm.le (by decide)) ?_
    | with_reducible refine State.flipFails_frm (hm.le (by decide)) ?_
    | with_reducible refine State.pulseStopAll_frm (hm.le (by decide)) ?_
    | with_reducible refine State.raise_frm (hm.le (by decide)) ?_
    | with_reducible refine State.setBit_frm (hm.le (by decide)) ?_
    | with_reducible refine State.traceFree_frm (hm.le (by decide)) ?_
    | with_reducible refine State.vaultTaint_frm (hm.le (by decide)) ?_
    | with_reducible refine frm_ite ?_ ?_
    | fail_if_no_progress with_reducible refine frm_mk ?_
    | split

theorem State.leaveBad_frm (hm : Sub 1103806595072 m) (hgood : Frm m s0 s) : Frm m s0 (State.leaveBad s) := by
  unfold State.leaveBad
  try dsimp only
  repeat' first
    | with_reducible assumption
    | with_reducible refine State.endHandling_frm (hm.le (by decide)) ?_
    | with_reducible refine frm_ite ?_ ?_
    | fail_if_no_progress with_reducible refine frm_mk ?_
    | split

theorem State.beforeSwitch_frm {new : Look} {moved : List Nat} (hm : Sub 15560444444688 m) (hgood : Frm m s0 s) : Frm m s0 (State.beforeSwitch s new moved) := by
  unfold State.beforeSwitch
  try dsimp only
  repeat' first
    | with_reducible assumption
    | with_reducible refine State.closeStreams_frm (hm.le (by decide)) ?_
    | with_reducible refine State.disableStream_frm (hm.le (by decide)) ?_
    | with_reducible refine State.doIf_frm ?_ ?_
    | with_reducible refine State.each_frm ?_ (fun _ _ _ => ?_)
    | with_reducible refine State.endStream_frm (hm.le (by decide)) ?_
    | with_reducible refine State.interruptWeighing_frm (hm.le (by decide)) ?_
    | with_reducible refine frm_ite ?_ ?_
    | fail_if_no_progress with_reducible refine frm_mk ?_
    | split

theorem State.checkOff_frm {old : Look} {n : Nat} (hm : Sub 1099511628160 m) (hgood : Frm m s0 s) : Frm m s0 (State.checkOff s old n) := by
  unfold State.checkOff
  try dsimp only
  repeat' first
    | with_reducible assumption
    | with_reducible refine State.coreClose_frm (hm.le (by decide)) ?_
    | with_reducible refine State.setCore_frm (hm.le (by decide)) ?_
    | with_reducible refine State.setPair_frm (hm.le (by decide)) ?_
    | with_reducible refine State.updCore_frm (hm.le (by decide)) ?_
    | with_reducible refine frm_ite ?_ ?_
    | fail_if_no_progress with_reducible refine frm_mk ?_
    | split

theorem State.checksSwitch_frm {old : Look} {moved : List Nat} (hm : Sub 1099511628160 m) (hgood : Frm m s0 s) : Frm m s0 (State.checksSwitch s old moved) := by
  unfold State.checksSwitch
  try dsimp only
  repeat' first
    | with_reducible assumption
    | with_reducible refine State.checkOff_frm (hm.le (by decide)) ?_
    | with_reducible refine State.doIf_frm ?_ ?_
    | with_reducible refine State.each_frm ?_ (fun _ _ _ => ?_)
    | with_reducible refine State.updCore_frm (hm.le (by decide)) ?_
    | with_reducible refine frm_ite ?_ ?_
    | fail_if_no_progress with_reducible refine frm_mk ?_
    | split

theorem State.mantisSwitch_frm {old : Look} {moved : List Nat} (hm : Sub 141200752656 m) (hgood : Frm m s0 s) : Frm m s0 (State.mantisSwitch s old moved) := by
  unfold State.mantisSwitch
  try dsimp only
  repeat' first
    | with_reducible assumption
    | with_reducible refine State.capAbort_frm (hm.le (by decide)) ?_
    | with_reducible refine State.doIf_frm ?_ ?_
    | with_reducible refine State.each_frm ?_ (fun _ _ _ => ?_)
    | with_reducible refine State.setCond_frm (hm.le (by decide)) ?_
    | with_reducible refine State.updCap_frm (hm.le (by decide)) ?_
    | with_reducible refine State.updTrig_frm (hm.le (by decide)) ?_
    | with_reducible refine frm_ite ?_ ?_
    | fail_if_no_progress with_reducible refine frm_mk ?_
    | split

theorem State.mainsSwitch_frm {old : Look} {moved : List Nat} (hm : Sub 1649804328976 m) (hgood : Frm m s0 s) : Frm m s0 (State.mainsSwitch s old moved) := by
  unfold State.mainsSwitch
  try dsimp only
  repeat' first
    | with_reducible assumption
    | with_reducible refine State.doIf_frm ?_ ?_
    | with_reducible refine State.mainsRestart_frm (hm.le (by decide)) ?_
    | with_reducible refine frm_ite ?_ ?_
    | fail_if_no_progress with_reducible refine frm_mk ?_
    | split

theorem State.streamsSwitch_frm {old : Look} {moved : List Nat} (hm : Sub 32768 m) (hgood : Frm m s0 s) : Frm m s0 (State.streamsSwitch s old moved) := by
  unfold State.streamsSwitch
  try dsimp only
  repeat' first
    | with_reducible assumption
    | with_reducible refine State.each_frm ?_ (fun _ _ _ => ?_)
    | with_reducible refine State.setStrm_frm (hm.le (by decide)) ?_
    | with_reducible refine frm_ite ?_ ?_
    | fail_if_no_progress with_reducible refine frm_mk ?_
    | split

theorem State.statsSwitch_frm {old : Look} {moved : List Nat} (hm : Sub 262144 m) (hgood : Frm m s0 s) : Frm m s0 (State.statsSwitch s old moved) := by
  unfold State.statsSwitch
  try dsimp only
  repeat' first
    | with_reducible assumption
    | with_reducible refine State.doIf_frm ?_ ?_
    | with_reducible refine State.each_frm ?_ (fun _ _ _ => ?_)
    | with_reducible refine State.statCommit_frm (hm.le (by decide)) ?_
    | with_reducible refine frm_ite ?_ ?_
    | fail_if_no_progress with_reducible refine frm_mk ?_
    | split

theorem State.pinsSwitch_frm {moved : List Nat} (hm : Sub 4 m) (hgood : Frm m s0 s) : Frm m s0 (State.pinsSwitch s moved) := by
  unfold State.pinsSwitch
  try dsimp only
  repeat' first
    | with_reducible assumption
    | with_reducible refine frm_foldl _ (fun _ _ _ => ?_) ?_
    | with_reducible refine frm_ite ?_ ?_
    | fail_if_no_progress with_reducible refine frm_mk ?_
    | split

theorem State.clocksSwitch_frm (hm : Sub 9414568312848 m) (hgood : Frm m s0 s) : Frm m s0 (State.clocksSwitch s) := by
  unfold State.clocksSwitch
  try dsimp only
  repeat' first
    | with_reducible assumption
    | with_reducible refine State.leaveDoze_frm (hm.le (by decide)) ?_
    | with_reducible refine State.refuserNote_frm (hm.le (by decide)) ?_
    | with_reducible refine frm_ite ?_ ?_
    | fail_if_no_progress with_reducible refine frm_mk ?_
    | split

theorem State.twinSwitch_frm {old : Look} (hm : Sub 1253899802648 m) (hgood : Frm m s0 s) : Frm m s0 (State.twinSwitch s old) := by
  unfold State.twinSwitch
  try dsimp only
  repeat' first
    | with_reducible assumption
    | with_reducible refine State.endHandling_frm (hm.le (by decide)) ?_
    | with_reducible refine State.seizeTaken_frm (hm.le (by decide)) ?_
    | with_reducible refine State.sendHealth_frm (hm.le (by decide)) ?_
    | with_reducible refine State.setRole_frm (hm.le (by decide)) ?_
    | with_reducible refine frm_ite ?_ ?_
    | fail_if_no_progress with_reducible refine frm_mk ?_
    | split

theorem State.afterSwitch_frm {old : Look} {moved : List Nat} {written : List Nat} (hm : Sub 17540445100444 m) (hgood : Frm m s0 s) : Frm m s0 (State.afterSwitch s old moved written) := by
  unfold State.afterSwitch
  try dsimp only
  repeat' first
    | with_reducible assumption
    | with_reducible refine State.assignAll_frm (hm.le (by decide)) ?_
    | with_reducible refine State.checksSwitch_frm (hm.le (by decide)) ?_
    | with_reducible refine State.clocksSwitch_frm (hm.le (by decide)) ?_
    | with_reducible refine State.doIf_frm ?_ ?_
    | with_reducible refine State.each_frm ?_ (fun _ _ _ => ?_)
    | with_reducible refine State.excApplyAll_frm (hm.le (by decide)) ?_
    | with_reducible refine State.ffCommit_frm (hm.le (by decide)) ?_
    | with_reducible refine State.linkCommit_frm (hm.le (by decide)) ?_
    | with_reducible refine State.mainsSwitch_frm (hm.le (by decide)) ?_
    | with_reducible refine State.mantisSwitch_frm (hm.le (by decide)) ?_
    | with_reducible refine State.pinsSwitch_frm (hm.le (by decide)) ?_
    | with_reducible refine State.quadSet_frm (hm.le (by decide)) ?_
    | with_reducible refine State.statsSwitch_frm (hm.le (by decide)) ?_
    | with_reducible refine State.streamsSwitch_frm (hm.le (by decide)) ?_
    | with_reducible refine State.twinSwitch_frm (hm.le (by decide)) ?_
    | with_reducible refine frm_ite ?_ ?_
    | fail_if_no_progress with_reducible refine frm_mk ?_
    | split

theorem State.groupSwitch_frm {g : Nat} {hold : Bool} {next : Nat × Tq} (hm : Sub 6747173134384 m) (hgood : Frm m s0 s) : Frm m s0 (State.groupSwitch s g hold next) := by
  unfold State.groupSwitch
  try dsimp only
  repeat' first
    | with_reducible assumption
    | with_reducible refine State.loseGroup_frm (hm.le (by decide)) ?_
    | with_reducible refine State.mantisReset_frm (hm.le (by decide)) ?_
    | with_reducible refine State.startGroup_frm (hm.le (by decide)) ?_
    | with_reducible refine State.stopGroup_frm (hm.le (by decide)) ?_
    | with_reducible refine frm_ite ?_ ?_
    | fail_if_no_progress with_reducible refine frm_mk ?_
    | split

theorem State.sealFollow_frm {f : FlipSt} (hm : Sub 56371445760 m) (hgood : Frm m s0 s) : Frm m s0 (State.sealFollow s f) := by
  unfold State.sealFollow
  try dsimp only
  repeat' first
    | with_reducible assumption
    | with_reducible refine State.auditEvent_frm (hm.le (by decide)) ?_
    | with_reducible refine State.take_frm (hm.le (by decide)) ?_
    | with_reducible refine frm_ite ?_ ?_
    | fail_if_no_progress with_reducible refine frm_mk ?_
    | split

theorem State.switchGroups_frm {f : FlipSt} {gs : List Nat} (hm : Sub 17591984716220 m) (hgood : Frm m s0 s) : Frm m s0 (State.switchGroups s f gs) := by
  unfold State.switchGroups
  try dsimp only
  repeat' first
    | with_reducible assumption
    | with_reducible refine State.afterSwitch_frm (hm.le (by decide)) ?_
    | with_reducible refine State.beforeSwitch_frm (hm.le (by decide)) ?_
    | with_reducible refine State.doIf_frm ?_ ?_
    | with_reducible refine State.each_frm ?_ (fun _ _ _ => ?_)
    | with_reducible refine State.groupSwitch_frm (hm.le (by decide)) ?_
    | with_reducible refine State.keepGrid_frm (hm.le (by decide)) ?_
    | with_reducible refine State.mainsLoad_frm (hm.le (by decide)) ?_
    | with_reducible refine State.sealFollow_frm (hm.le (by decide)) ?_
    | with_reducible refine frm_foldl _ (fun _ _ _ => ?_) ?_
    | with_reducible refine frm_ite ?_ ?_
    | fail_if_no_progress with_reducible refine frm_mk ?_
    | split

theorem State.flipDone_frm {f : FlipSt} (hm : Sub 10668468115472 m) (hgood : Frm m s0 s) : Frm m s0 (State.flipDone s f) := by
  unfold State.flipDone
  try dsimp only
  repeat' first
    | with_reducible assumption
    | with_reducible refine State.addReason_frm (hm.le (by decide)) ?_
    | with_reducible refine State.bump_frm (hm.le (by decide)) ?_
    | with_reducible refine State.doIf_frm ?_ ?_
    | with_reducible refine State.followAnew_frm (hm.le (by decide)) ?_
    | with_reducible refine State.refuserNote_frm (hm.le (by decide)) ?_
    | with_reducible refine State.retireOk_frm (hm.le (by decide)) ?_
    | with_reducible refine State.setReg_frm (hm.le (by decide)) ?_
    | with_reducible refine State.traceFree_frm (hm.le (by decide)) ?_
    | with_reducible refine frm_ite ?_ ?_
    | fail_if_no_progress with_reducible refine frm_mk ?_
    | split

theorem State.flipHere_frm {f : FlipSt} (hm : Sub 17592118933948 m) (hgood : Frm m s0 s) : Frm m s0 (State.flipHere s f) := by
  unfold State.flipHere
  try dsimp only
  repeat' first
    | with_reducible assumption
    | with_reducible refine State.doIf_frm ?_ ?_
    | with_reducible refine State.enterBad_frm (hm.le (by decide)) ?_
    | with_reducible refine State.flipDone_frm (hm.le (by decide)) ?_
    | with_reducible refine State.leaveBad_frm (hm.le (by decide)) ?_
    | with_reducible refine State.memWrite_frm (hm.le (by decide)) ?_
    | with_reducible refine State.switchGroups_frm (hm.le (by decide)) ?_
    | with_reducible refine frm_ite ?_ ?_
    | fail_if_no_progress with_reducible refine frm_mk ?_
    | split

theorem execCfgFlip_frm {confirmed : Bool} (hm : Sub 17592118933948 m) (hgood : Frm m s0 s) : OutFrm m s0 (execCfgFlip confirmed s) := by
  unfold execCfgFlip
  try dsimp only
  repeat' first
    | with_reducible assumption
    | with_reducible refine outFrm_next ?_
    | with_reducible refine outFrm_ite ?_ ?_
    | with_reducible refine State.enterBad_frm (hm.le (by decide)) ?_
    | with_reducible refine State.flipHere_frm (hm.le (by decide)) ?_
    | with_reducible refine State.oneCycle_frm (hm.le (by decide)) ?_ (fun _ _ => ?_)
    | with_reducible refine frm_ite ?_ ?_
    | fail_if_no_progress with_reducible refine frm_mk ?_
    | split

theorem execHeldRestart_frm {g : Group} (hm : Sub 1613857 m) (hgood : Frm m s0 s) : OutFrm m s0 (execHeldRestart g s) := by
  unfold execHeldRestart
  try dsimp only
  repeat' first
    | with_reducible assumption
    | with_reducible refine outFrm_next ?_
    | with_reducible refine outFrm_ite ?_ ?_
    | with_reducible refine State.reachUp_frm (hm.le (by decide)) ?_
    | with_reducible refine State.startGroup_frm (hm.le (by decide)) ?_
    | with_reducible refine frm_ite ?_ ?_
    | fail_if_no_progress with_reducible refine frm_mk ?_
    | split

theorem execLiveBankEcc_frm (hm : Sub 17214143174704 m) (hgood : Frm m s0 s) : OutFrm m s0 (execLiveBankEcc s) := by
  unfold execLiveBankEcc
  try dsimp only
  repeat' first
    | with_reducible assumption
    | with_reducible refine outFrm_next ?_
    | with_reducible refine outFrm_ite ?_ ?_
    | with_reducible refine State.enterBad_frm (hm.le (by decide)) ?_
    | with_reducible refine frm_ite ?_ ?_
    | fail_if_no_progress with_reducible refine frm_mk ?_
    | split

theorem State.serveCfg_frm {id op : Nat} {f : Desc → State → State} (hm : Sub 145492049936 m) (hgood : Frm m s0 s) (hf : ∀ d t, Frm m s0 t → Frm m s0 (f d t)) : OutFrm m s0 (s.serveCfg id op f) := by
  unfold State.serveCfg
  refine State.serve_frm (hm.le (by decide)) hgood (fun d t ht => ?_)
  try dsimp only
  repeat' first
    | with_reducible exact hf _ _ (State.touchTxn_frm (hm.le (by decide)) ht)
    | with_reducible exact State.retireBad_frm (hm.le (by decide)) (State.touchTxn_frm (hm.le (by decide)) ht)
    | split

theorem execCfgBegin_frm {id : Nat} (hm : Sub 145492049936 m) (hgood : Frm m s0 s) : OutFrm m s0 (execCfgBegin id s) := by
  unfold execCfgBegin
  try dsimp only
  repeat' first
    | with_reducible assumption
    | with_reducible refine outFrm_next ?_
    | with_reducible refine outFrm_ite ?_ ?_
    | with_reducible refine State.retireBad_frm (hm.le (by decide)) ?_
    | with_reducible refine State.retireOk_frm (hm.le (by decide)) ?_
    | with_reducible refine State.serveCfg_frm (hm.le (by decide)) ?_ (fun _ _ _ => ?_)
    | with_reducible refine frm_ite ?_ ?_
    | fail_if_no_progress with_reducible refine frm_mk ?_
    | split

theorem execCfgWrite_frm {id : Nat} (hm : Sub 8941585072144 m) (hgood : Frm m s0 s) : OutFrm m s0 (execCfgWrite id s) := by
  unfold execCfgWrite
  try dsimp only
  repeat' first
    | with_reducible assumption
    | with_reducible refine outFrm_next ?_
    | with_reducible refine outFrm_ite ?_ ?_
    | with_reducible refine State.dmaFailed_frm (hm.le (by decide)) ?_
    | with_reducible refine State.retire_frm (hm.le (by decide)) ?_
    | with_reducible refine State.retireBad_frm (hm.le (by decide)) ?_
    | with_reducible refine State.retireOk_frm (hm.le (by decide)) ?_
    | with_reducible refine State.serveCfg_frm (hm.le (by decide)) ?_ (fun _ _ _ => ?_)
    | with_reducible refine frm_foldl _ (fun _ _ _ => ?_) ?_
    | with_reducible refine frm_ite ?_ ?_
    | fail_if_no_progress with_reducible refine frm_mk ?_
    | split

theorem execCfgRollback_frm {id : Nat} (hm : Sub 145492049936 m) (hgood : Frm m s0 s) : OutFrm m s0 (execCfgRollback id s) := by
  unfold execCfgRollback
  try dsimp only
  repeat' first
    | with_reducible assumption
    | with_reducible refine outFrm_next ?_
    | with_reducible refine outFrm_ite ?_ ?_
    | with_reducible refine State.retireBad_frm (hm.le (by decide)) ?_
    | with_reducible refine State.retireOk_frm (hm.le (by decide)) ?_
    | with_reducible refine State.serveCfg_frm (hm.le (by decide)) ?_ (fun _ _ _ => ?_)
    | with_reducible refine frm_ite ?_ ?_
    | fail_if_no_progress with_reducible refine frm_mk ?_
    | split

theorem execCfgTxnTimeout_frm (hm : Sub 10450192302097 m) (hgood : Frm m s0 s) : OutFrm m s0 (execCfgTxnTimeout s) := by
  unfold execCfgTxnTimeout
  try dsimp only
  repeat' first
    | with_reducible assumption
    | with_reducible refine outFrm_next ?_
    | with_reducible refine outFrm_ite ?_ ?_
    | with_reducible refine State.raiseBare_frm (hm.le (by decide)) ?_
    | with_reducible refine State.reachUp_frm (hm.le (by decide)) ?_
    | with_reducible refine frm_ite ?_ ?_
    | fail_if_no_progress with_reducible refine frm_mk ?_
    | split

theorem State.refuseCommit_frm {d : Desc} {status : Nat} {res : List W32} (hm : Sub 141197082640 m) (hgood : Frm m s0 s) : Frm m s0 (State.refuseCommit s d status res) := by
  unfold State.refuseCommit
  try dsimp only
  repeat' first
    | with_reducible assumption
    | with_reducible refine State.bump_frm (hm.le (by decide)) ?_
    | with_reducible refine State.retire_frm (hm.le (by decide)) ?_
    | with_reducible refine State.setReg_frm (hm.le (by decide)) ?_
    | with_reducible refine frm_ite ?_ ?_
    | fail_if_no_progress with_reducible refine frm_mk ?_
    | split

theorem State.stageCommit_frm {d : Desc} {t : TxnSt} {bank : Bank} (hm : Sub 30903631888 m) (hgood : Frm m s0 s) : Frm m s0 (State.stageCommit s d t bank) := by
  unfold State.stageCommit
  try dsimp only
  repeat' first
    | with_reducible assumption
    | with_reducible refine State.launchFlip_frm (hm.le (by decide)) ?_
    | with_reducible refine State.sealWrite_frm (hm.le (by decide)) ?_
    | with_reducible refine State.take_frm (hm.le (by decide)) ?_
    | with_reducible refine frm_ite ?_ ?_
    | fail_if_no_progress with_reducible refine frm_mk ?_
    | split

theorem State.commit_frm {bankOk : Bool} {d : Desc} (hm : Sub 171563843600 m) (hgood : Frm m s0 s) : Frm m s0 (State.commit s bankOk d) := by
  unfold State.commit
  try dsimp only
  repeat' first
    | with_reducible assumption
    | with_reducible refine State.refuseCommit_frm (hm.le (by decide)) ?_
    | with_reducible refine State.stageCommit_frm (hm.le (by decide)) ?_
    | with_reducible refine frm_ite ?_ ?_
    | fail_if_no_progress with_reducible refine frm_mk ?_
    | split

theorem execCfgCommit_frm {id : Nat} {bankOk : Bool} (hm : Sub 171563843600 m) (hgood : Frm m s0 s) : OutFrm m s0 (execCfgCommit id bankOk s) := by
  unfold execCfgCommit
  try dsimp only
  repeat' first
    | with_reducible assumption
    | with_reducible refine outFrm_next ?_
    | with_reducible refine outFrm_ite ?_ ?_
    | with_reducible refine State.commit_frm (hm.le (by decide)) ?_
    | with_reducible refine State.serveCfg_frm (hm.le (by decide)) ?_ (fun _ _ _ => ?_)
    | with_reducible refine frm_ite ?_ ?_
    | fail_if_no_progress with_reducible refine frm_mk ?_
    | split

theorem execHeldCommitValidate_frm {id : Nat} {bankOk : Bool} (hm : Sub 171563843600 m) (hgood : Frm m s0 s) : OutFrm m s0 (execHeldCommitValidate id bankOk s) := by
  unfold execHeldCommitValidate
  try dsimp only
  repeat' first
    | with_reducible assumption
    | with_reducible refine outFrm_next ?_
    | with_reducible refine outFrm_ite ?_ ?_
    | with_reducible refine State.commit_frm (hm.le (by decide)) ?_
    | with_reducible refine State.serveCfg_frm (hm.le (by decide)) ?_ (fun _ _ _ => ?_)
    | with_reducible refine frm_ite ?_ ?_
    | fail_if_no_progress with_reducible refine frm_mk ?_
    | split

theorem State.sendReady_frm {f : FlipSt} (hm : Sub 13186891792 m) (hgood : Frm m s0 s) : Frm m s0 (State.sendReady s f) := by
  unfold State.sendReady
  try dsimp only
  repeat' first
    | with_reducible assumption
    | with_reducible refine State.sendOn_frm (hm.le (by decide)) ?_
    | with_reducible refine frm_ite ?_ ?_
    | fail_if_no_progress with_reducible refine frm_mk ?_
    | split

theorem State.sealStored_frm (hm : Sub 13186891792 m) (hgood : Frm m s0 s) : Frm m s0 (State.sealStored s) := by
  unfold State.sealStored
  try dsimp only
  repeat' first
    | with_reducible assumption
    | with_reducible refine State.launchFlip_frm (hm.le (by decide)) ?_
    | with_reducible refine State.sendReady_frm (hm.le (by decide)) ?_
    | with_reducible refine frm_ite ?_ ?_
    | fail_if_no_progress with_reducible refine frm_mk ?_
    | split

theorem execAlibiStoreWrite_frm (hm : Sub 305244667920 m) (hgood : Frm m s0 s) : OutFrm m s0 (execAlibiStoreWrite s) := by
  unfold execAlibiStoreWrite
  try dsimp only
  repeat' first
    | with_reducible assumption
    | with_reducible refine outFrm_next ?_
    | with_reducible refine outFrm_ite ?_ ?_
    | with_reducible refine State.flashBegin_frm (hm.le (by decide)) ?_
    | with_reducible refine State.sealStored_frm (hm.le (by decide)) ?_
    | with_reducible refine frm_ite ?_ ?_
    | fail_if_no_progress with_reducible refine frm_mk ?_
    | split

theorem execCfgStoreDone_frm {ok : Bool} (hm : Sub 10793789685776 m) (hgood : Frm m s0 s) : OutFrm m s0 (execCfgStoreDone ok s) := by
  unfold execCfgStoreDone
  try dsimp only
  repeat' first
    | with_reducible assumption
    | with_reducible refine outFrm_next ?_
    | with_reducible refine outFrm_ite ?_ ?_
    | with_reducible refine State.raiseBare_frm (hm.le (by decide)) ?_
    | with_reducible refine State.refuserNote_frm (hm.le (by decide)) ?_
    | with_reducible refine frm_ite ?_ ?_
    | fail_if_no_progress with_reducible refine frm_mk ?_
    | split

theorem State.stageData_frm (hm : Sub 30366760976 m) (hgood : Frm m s0 s) : Frm m s0 (State.stageData s) := by
  unfold State.stageData
  try dsimp only
  repeat' first
    | with_reducible assumption
    | with_reducible refine State.sealWrite_frm (hm.le (by decide)) ?_
    | with_reducible refine State.sendReady_frm (hm.le (by decide)) ?_
    | with_reducible refine frm_foldl _ (fun _ _ _ => ?_) ?_
    | with_reducible refine frm_ite ?_ ?_
    | fail_if_no_progress with_reducible refine frm_mk ?_
    | split

theorem execCfgData_frm {records : List W32} {last : Bool} (hm : Sub 8826459783184 m) (hgood : Frm m s0 s) : OutFrm m s0 (execCfgData records last s) := by
  unfold execCfgData
  try dsimp only
  repeat' first
    | with_reducible assumption
    | with_reducible refine outFrm_next ?_
    | with_reducible refine outFrm_ite ?_ ?_
    | with_reducible refine State.rxAccept_frm (hm.le (by decide)) ?_
    | with_reducible refine State.stageData_frm (hm.le (by decide)) ?_
    | with_reducible refine frm_ite ?_ ?_
    | fail_if_no_progress with_reducible refine frm_mk ?_
    | split

theorem State.choose_frm {own : Bool} (hm : Sub 13186891792 m) (hgood : Frm m s0 s) : Frm m s0 (State.choose s own) := by
  unfold State.choose
  try dsimp only
  repeat' first
    | with_reducible assumption
    | with_reducible refine State.armPair_frm (hm.le (by decide)) ?_
    | with_reducible refine frm_ite ?_ ?_
    | fail_if_no_progress with_reducible refine frm_mk ?_
    | split

theorem execCfgCtrlReady_frm {crc : W32} (hm : Sub 8809279914000 m) (hgood : Frm m s0 s) : OutFrm m s0 (execCfgCtrlReady crc s) := by
  unfold execCfgCtrlReady
  try dsimp only
  repeat' first
    | with_reducible assumption
    | with_reducible refine outFrm_next ?_
    | with_reducible refine outFrm_ite ?_ ?_
    | with_reducible refine State.choose_frm (hm.le (by decide)) ?_
    | with_reducible refine State.rxAccept_frm (hm.le (by decide)) ?_
    | with_reducible refine frm_ite ?_ ?_
    | fail_if_no_progress with_reducible refine frm_mk ?_
    | split

theorem execCfgCtrlArm_frm {frame : Nat} (hm : Sub 8800656424960 m) (hgood : Frm m s0 s) : OutFrm m s0 (execCfgCtrlArm frame s) := by
  unfold execCfgCtrlArm
  try dsimp only
  repeat' first
    | with_reducible assumption
    | with_reducible refine outFrm_next ?_
    | with_reducible refine outFrm_ite ?_ ?_
    | with_reducible refine State.armFlip_frm (hm.le (by decide)) ?_
    | with_reducible refine State.rxAccept_frm (hm.le (by decide)) ?_
    | with_reducible refine frm_ite ?_ ?_
    | fail_if_no_progress with_reducible refine frm_mk ?_
    | split

theorem execCfgReadyTimeout_frm (hm : Sub 13186891793 m) (hgood : Frm m s0 s) : OutFrm m s0 (execCfgReadyTimeout s) := by
  unfold execCfgReadyTimeout
  try dsimp only
  repeat' first
    | with_reducible assumption
    | with_reducible refine outFrm_next ?_
    | with_reducible refine outFrm_ite ?_ ?_
    | with_reducible refine State.armFlip_frm (hm.le (by decide)) ?_
    | with_reducible refine State.armPair_frm (hm.le (by decide)) ?_
    | with_reducible refine State.reachUp_frm (hm.le (by decide)) ?_
    | with_reducible refine frm_ite ?_ ?_
    | fail_if_no_progress with_reducible refine frm_mk ?_
    | split

theorem State.hivePut_frm {g : Nat} {f : FrameSt} {rs : List (Nat × Int × Marks)} (hm : Sub 2199023321104 m) (hgood : Frm m s0 s) : Frm m s0 (State.hivePut s g f rs) := by
  unfold State.hivePut
  try dsimp only
  repeat' first
    | with_reducible assumption
    | with_reducible refine State.memWrite_frm (hm.le (by decide)) ?_
    | with_reducible refine frm_ite ?_ ?_
    | fail_if_no_progress with_reducible refine frm_mk ?_
    | split

theorem chainAll_frm {k : Nat} {rs : List (Nat × Int × Marks)} (hm : Sub 8208 m) (hgood : Frm m s0 s) : Frm m s0 (chainAll s k rs).1 := by
  refine frm_foldl_fst _ ?_ hgood
  intro x t h
  exact State.chainRun_frm (hm.le (by decide)) h

theorem State.mainsFrame_frm {t : Tq} {rs : List (Nat × Int × Marks)} (hm : Sub 16400 m) (hgood : Frm m s0 s) : Frm m s0 (State.mainsFrame s t rs) := by
  unfold State.mainsFrame
  try dsimp only
  repeat' first
    | with_reducible assumption
    | with_reducible refine State.mainsResult_frm (hm.le (by decide)) ?_
    | with_reducible refine frm_ite ?_ ?_
    | fail_if_no_progress with_reducible refine frm_mk ?_
    | split

theorem State.statsFrame_frm {t : Nat} {epoch : BitVec 16} {outs : List (Nat × Nat × Int × Marks)} (hm : Sub 262144 m) (hgood : Frm m s0 s) : Frm m s0 (State.statsFrame s t epoch outs) := by
  unfold State.statsFrame
  try dsimp only
  repeat' first
    | with_reducible assumption
    | with_reducible refine State.each_frm ?_ (fun _ _ _ => ?_)
    | with_reducible refine State.statOutput_frm (hm.le (by decide)) ?_
    | with_reducible refine frm_ite ?_ ?_
    | fail_if_no_progress with_reducible refine frm_mk ?_
    | split

theorem State.streamsFrame_frm {g : Nat} {f : FrameSt} {outs : List (Nat × Nat × Int × Marks)} (hm : Sub 6747171553296 m) (hgood : Frm m s0 s) : Frm m s0 (State.streamsFrame s g f outs) := by
  unfold State.streamsFrame
  try dsimp only
  repeat' first
    | with_reducible assumption
    | with_reducible refine State.appendFrame_frm (hm.le (by decide)) ?_
    | with_reducible refine State.each_frm ?_ (fun _ _ _ => ?_)
    | with_reducible refine frm_ite ?_ ?_
    | fail_if_no_progress with_reducible refine frm_mk ?_
    | split

theorem State.digestFrame_frm {g : Nat} {f : FrameSt} (hm : Sub 17196818405392 m) (hgood : Frm m s0 s) : Frm m s0 (State.digestFrame s g f) := by
  unfold State.digestFrame
  try dsimp only
  repeat' first
    | with_reducible assumption
    | with_reducible refine State.digestOwn_frm (hm.le (by decide)) ?_
    | with_reducible refine State.each_frm ?_ (fun _ _ _ => ?_)
    | with_reducible refine State.sendOn_frm (hm.le (by decide)) ?_
    | with_reducible refine State.useInj_frm (hm.le (by decide)) ?_
    | with_reducible refine frm_ite ?_ ?_
    | fail_if_no_progress with_reducible refine frm_mk ?_
    | split

theorem State.frameDeliver_frm {g : Nat} {f : FrameSt} {rs : List (Nat × Int × Marks)} (hm : Sub 17214010816528 m) (hgood : Frm m s0 s) : Frm m s0 (State.frameDeliver s g f rs) := by
  unfold State.frameDeliver
  try dsimp only
  repeat' first
    | with_reducible assumption
    | with_reducible refine State.condFrame_frm (hm.le (by decide)) ?_
    | with_reducible refine State.digestFrame_frm (hm.le (by decide)) ?_
    | with_reducible refine State.mainsFrame_frm (hm.le (by decide)) ?_
    | with_reducible refine State.statsFrame_frm (hm.le (by decide)) ?_
    | with_reducible refine State.streamsFrame_frm (hm.le (by decide)) ?_
    | with_reducible refine State.trigFrame_frm (hm.le (by decide)) ?_
    | with_reducible refine State.vaultFrame_frm (hm.le (by decide)) ?_
    | with_reducible refine chainAll_frm (hm.le (by decide)) ?_
    | with_reducible refine frm_ite ?_ ?_
    | fail_if_no_progress with_reducible refine frm_mk ?_
    | split

theorem State.frameReady_frm {n : Nat} {f : FrameSt} (hm : Sub 17214010818481 m) (hgood : Frm m s0 s) : Frm m s0 (State.frameReady s n f) := by
  unfold State.frameReady
  try dsimp only
  repeat' first
    | with_reducible assumption
    | with_reducible refine State.closeStreams_frm (hm.le (by decide)) ?_
    | with_reducible refine State.copyJobs_frm (hm.le (by decide)) ?_
    | with_reducible refine State.doIf_frm ?_ ?_
    | with_reducible refine State.each_frm ?_ (fun _ _ _ => ?_)
    | with_reducible refine State.finishScan_frm (hm.le (by decide)) ?_
    | with_reducible refine State.flipBoundary_frm (hm.le (by decide)) ?_
    | with_reducible refine State.followCuts_frm (hm.le (by decide)) ?_
    | with_reducible refine State.frameDeliver_frm (hm.le (by decide)) ?_
    | with_reducible refine State.groupAnew_frm (hm.le (by decide)) ?_
    | with_reducible refine State.hiveFit_frm (hm.le (by decide)) ?_
    | with_reducible refine State.hivePut_frm (hm.le (by decide)) ?_
    | with_reducible refine State.loseDeferred_frm (hm.le (by decide)) ?_
    | with_reducible refine State.mainsBoundary_frm (hm.le (by decide)) ?_
    | with_reducible refine State.reversal_frm (hm.le (by decide)) ?_
    | with_reducible refine State.updGrp_frm (hm.le (by decide)) ?_
    | with_reducible refine frm_ite ?_ ?_
    | fail_if_no_progress with_reducible refine frm_mk ?_
    | split

theorem execFrameReady_frm {g : Group} (hm : Sub 17214010818481 m) (hgood : Frm m s0 s) : OutFrm m s0 (execFrameReady g s) := by
  unfold execFrameReady
  try dsimp only
  repeat' first
    | with_reducible assumption
    | with_reducible refine outFrm_next ?_
    | with_reducible refine outFrm_ite ?_ ?_
    | with_reducible refine State.frameReady_frm (hm.le (by decide)) ?_
    | with_reducible refine State.oneCycle_frm (hm.le (by decide)) ?_ (fun _ _ => ?_)
    | with_reducible refine State.reachUp_frm (hm.le (by decide)) ?_
    | with_reducible refine frm_ite ?_ ?_
    | fail_if_no_progress with_reducible refine frm_mk ?_
    | split

end Sys2Proof.Machine
end

