-- ==== Sys2Proof/Laws/FrmSystem.lean ====
section
/-! SUPPORT. The parts of the state each operation can change (Reset, Power, Flash, Startup, Errors, Inject, Flags, Registers, Sideband). -/

namespace Sys2Proof.Machine

open Sys2Proof

set_option Elab.async false
set_option linter.unusedVariables false
set_option linter.unusedTactic false
set_option linter.unreachableTactic false

variable {m : Nat} {s0 s : State}

theorem State.porState_frm (hm : Sub 17592186044413 m) (hgood : Frm m s0 s) : Frm m s0 (State.porState s) := by
  unfold State.porState
  try dsimp only
  repeat' first
    | with_reducible assumption
    | with_reducible refine State.unstage_frm (hm.le (by decide)) ?_
    | with_reducible refine frm_ite ?_ ?_
    | fail_if_no_progress with_reducible refine frm_mk ?_
    | split

theorem State.warmState_frm {src : ResetSource} (hm : Sub 17592186044413 m) (hgood : Frm m s0 s) : Frm m s0 (State.warmState s src) := by
  unfold State.warmState
  try dsimp only
  repeat' first
    | with_reducible assumption
    | with_reducible refine State.interruptWeighing_frm (hm.le (by decide)) ?_
    | with_reducible refine State.unstage_frm (hm.le (by decide)) ?_
    | with_reducible refine frm_ite ?_ ?_
    | fail_if_no_progress with_reducible refine frm_mk ?_
    | split

theorem execPor_frm (hm : Sub 17592186044413 m) (hgood : Frm m s0 s) : OutFrm m s0 (execPor s) := by
  unfold execPor
  try dsimp only
  repeat' first
    | with_reducible assumption
    | with_reducible refine outFrm_next ?_
    | with_reducible refine outFrm_ite ?_ ?_
    | with_reducible refine State.porState_frm (hm.le (by decide)) ?_
    | with_reducible refine frm_ite ?_ ?_
    | fail_if_no_progress with_reducible refine frm_mk ?_
    | split

theorem State.warmTake_frm {src : ResetSource} (hm : Sub 17592186044413 m) (hgood : Frm m s0 s) : Frm m s0 (State.warmTake s src) := by
  unfold State.warmTake
  try dsimp only
  repeat' first
    | with_reducible assumption
    | with_reducible refine State.leaveDoze_frm (hm.le (by decide)) ?_
    | with_reducible refine State.powerMode_frm (hm.le (by decide)) ?_
    | with_reducible refine State.warmState_frm (hm.le (by decide)) ?_
    | with_reducible refine frm_ite ?_ ?_
    | fail_if_no_progress with_reducible refine frm_mk ?_
    | split

theorem execWarm_frm {src : ResetSource} (hm : Sub 17592186044413 m) (hgood : Frm m s0 s) : OutFrm m s0 (execWarm src s) := by
  unfold execWarm
  try dsimp only
  repeat' first
    | with_reducible assumption
    | with_reducible refine outFrm_next ?_
    | with_reducible refine outFrm_ite ?_ ?_
    | with_reducible refine State.warmTake_frm (hm.le (by decide)) ?_
    | with_reducible refine frm_ite ?_ ?_
    | fail_if_no_progress with_reducible refine frm_mk ?_
    | split

theorem execHubCtrl_frm {v : W32} {path : Path} (hm : Sub 17592186044413 m) (hgood : Frm m s0 s) : OutFrm m s0 (execHubCtrl v path s) := by
  unfold execHubCtrl
  try dsimp only
  repeat' first
    | with_reducible assumption
    | with_reducible refine outFrm_next ?_
    | with_reducible refine outFrm_ite ?_ ?_
    | with_reducible refine State.warmTake_frm (hm.le (by decide)) ?_
    | with_reducible refine frm_ite ?_ ?_
    | fail_if_no_progress with_reducible refine frm_mk ?_
    | split

theorem State.dozeTurn_frm (hm : Sub 9414568312848 m) (hgood : Frm m s0 s) : Frm m s0 (State.dozeTurn s) := by
  unfold State.dozeTurn
  try dsimp only
  repeat' first
    | with_reducible assumption
    | with_reducible refine State.dozeOnset_frm (hm.le (by decide)) ?_
    | with_reducible refine State.leaveDoze_frm (hm.le (by decide)) ?_
    | with_reducible refine State.powerMode_frm (hm.le (by decide)) ?_
    | with_reducible refine State.traceMark_frm (hm.le (by decide)) ?_
    | with_reducible refine frm_ite ?_ ?_
    | fail_if_no_progress with_reducible refine frm_mk ?_
    | split

theorem execBurstEnd_frm (hm : Sub 9414568312848 m) (hgood : Frm m s0 s) : OutFrm m s0 (execBurstEnd s) := by
  unfold execBurstEnd
  try dsimp only
  repeat' first
    | with_reducible assumption
    | with_reducible refine outFrm_next ?_
    | with_reducible refine outFrm_ite ?_ ?_
    | with_reducible refine State.dozeOnset_frm (hm.le (by decide)) ?_
    | with_reducible refine State.dozeTurn_frm (hm.le (by decide)) ?_
    | with_reducible refine frm_ite ?_ ?_
    | fail_if_no_progress with_reducible refine frm_mk ?_
    | split

theorem execPllRestart_frm (hm : Sub 68719476737 m) (hgood : Frm m s0 s) : OutFrm m s0 (execPllRestart s) := by
  unfold execPllRestart
  try dsimp only
  repeat' first
    | with_reducible assumption
    | with_reducible refine outFrm_next ?_
    | with_reducible refine outFrm_ite ?_ ?_
    | with_reducible refine State.pllRun_frm (hm.le (by decide)) ?_
    | with_reducible refine State.reach_frm (hm.le (by decide)) ?_
    | with_reducible refine frm_ite ?_ ?_
    | fail_if_no_progress with_reducible refine frm_mk ?_
    | split

theorem State.hibRequest_frm (hm : Sub 9414568312880 m) (hgood : Frm m s0 s) : Frm m s0 (State.hibRequest s) := by
  unfold State.hibRequest
  try dsimp only
  repeat' first
    | with_reducible assumption
    | with_reducible refine State.countRefusals_frm (hm.le (by decide)) ?_
    | with_reducible refine State.each_frm ?_ (fun _ _ _ => ?_)
    | with_reducible refine State.leaveDoze_frm (hm.le (by decide)) ?_
    | with_reducible refine State.powerMode_frm (hm.le (by decide)) ?_
    | with_reducible refine State.stopGroup_frm (hm.le (by decide)) ?_
    | with_reducible refine frm_ite ?_ ?_
    | fail_if_no_progress with_reducible refine frm_mk ?_
    | split

theorem State.hibAsk_frm {path : Path} (hm : Sub 9414568312880 m) (hgood : Frm m s0 s) : Frm m s0 (State.hibAsk s path) := by
  unfold State.hibAsk
  try dsimp only
  repeat' first
    | with_reducible assumption
    | with_reducible refine State.hibRequest_frm (hm.le (by decide)) ?_
    | with_reducible refine frm_ite ?_ ?_
    | fail_if_no_progress with_reducible refine frm_mk ?_
    | split

theorem execHibernate_frm {path : Path} (hm : Sub 9414568312880 m) (hgood : Frm m s0 s) : OutFrm m s0 (execHibernate path s) := by
  unfold execHibernate
  try dsimp only
  repeat' first
    | with_reducible assumption
    | with_reducible refine outFrm_next ?_
    | with_reducible refine outFrm_ite ?_ ?_
    | with_reducible refine State.hibAsk_frm (hm.le (by decide)) ?_
    | with_reducible refine frm_ite ?_ ?_
    | fail_if_no_progress with_reducible refine frm_mk ?_
    | split

theorem State.hibAbort_frm (hm : Sub 9414569926704 m) (hgood : Frm m s0 s) : Frm m s0 (State.hibAbort s) := by
  unfold State.hibAbort
  try dsimp only
  repeat' first
    | with_reducible assumption
    | with_reducible refine State.each_frm ?_ (fun _ _ _ => ?_)
    | with_reducible refine State.powerMode_frm (hm.le (by decide)) ?_
    | with_reducible refine State.setBit_frm (hm.le (by decide)) ?_
    | with_reducible refine State.startGroup_frm (hm.le (by decide)) ?_
    | with_reducible refine frm_ite ?_ ?_
    | fail_if_no_progress with_reducible refine frm_mk ?_
    | split

theorem State.hibCommit_frm (hm : Sub 17592186044349 m) (hgood : Frm m s0 s) : Frm m s0 (State.hibCommit s) := by
  unfold State.hibCommit
  try dsimp only
  repeat' first
    | with_reducible assumption
    | with_reducible refine State.reachUp_frm (hm.le (by decide)) ?_
    | with_reducible refine State.traceMark_frm (hm.le (by decide)) ?_
    | with_reducible refine frm_ite ?_ ?_
    | fail_if_no_progress with_reducible refine frm_mk ?_
    | split

theorem State.hibRefused_frm (hm : Sub 9414569926704 m) (hgood : Frm m s0 s) : Frm m s0 (State.hibRefused s) := by
  unfold State.hibRefused
  try dsimp only
  repeat' first
    | with_reducible assumption
    | with_reducible refine State.bump_frm (hm.le (by decide)) ?_
    | with_reducible refine State.each_frm ?_ (fun _ _ _ => ?_)
    | with_reducible refine State.hibAbort_frm (hm.le (by decide)) ?_
    | with_reducible refine frm_ite ?_ ?_
    | fail_if_no_progress with_reducible refine frm_mk ?_
    | split

theorem State.hibWatch_frm (hm : Sub 17592186044349 m) (hgood : Frm m s0 s) : Frm m s0 (State.hibWatch s) := by
  unfold State.hibWatch
  try dsimp only
  repeat' first
    | with_reducible assumption
    | with_reducible refine State.hibCommit_frm (hm.le (by decide)) ?_
    | with_reducible refine State.hibRefused_frm (hm.le (by decide)) ?_
    | with_reducible refine frm_ite ?_ ?_
    | fail_if_no_progress with_reducible refine frm_mk ?_
    | split

theorem State.wakeUp_frm {bits : W32} (hm : Sub 90194313228 m) (hgood : Frm m s0 s) : Frm m s0 (State.wakeUp s bits) := by
  unfold State.wakeUp
  try dsimp only
  repeat' first
    | with_reducible assumption
    | with_reducible refine State.quietMode_frm (hm.le (by decide)) ?_
    | with_reducible refine frm_ite ?_ ?_
    | fail_if_no_progress with_reducible refine frm_mk ?_
    | split

theorem State.wakeFire_frm {bits : W32} (hm : Sub 17592186044349 m) (hgood : Frm m s0 s) : Frm m s0 (State.wakeFire s bits) := by
  unfold State.wakeFire
  try dsimp only
  repeat' first
    | with_reducible assumption
    | with_reducible refine State.bump_frm (hm.le (by decide)) ?_
    | with_reducible refine State.hibAbort_frm (hm.le (by decide)) ?_
    | with_reducible refine State.hibWatch_frm (hm.le (by decide)) ?_
    | with_reducible refine State.wakeUp_frm (hm.le (by decide)) ?_
    | with_reducible refine frm_ite ?_ ?_
    | fail_if_no_progress with_reducible refine frm_mk ?_
    | split

theorem State.hibEnter_frm (hm : Sub 17592186044413 m) (hgood : Frm m s0 s) : Frm m s0 (State.hibEnter s) := by
  unfold State.hibEnter
  try dsimp only
  repeat' first
    | with_reducible assumption
    | with_reducible refine State.audit_frm (hm.le (by decide)) ?_
    | with_reducible refine State.bump_frm (hm.le (by decide)) ?_
    | with_reducible refine State.quietMode_frm (hm.le (by decide)) ?_
    | with_reducible refine State.setReg_frm (hm.le (by decide)) ?_
    | with_reducible refine State.vaultRegsReset_frm (hm.le (by decide)) ?_
    | with_reducible refine State.wakeUp_frm (hm.le (by decide)) ?_
    | with_reducible refine State.warmState_frm (hm.le (by decide)) ?_
    | with_reducible refine frm_ite ?_ ?_
    | fail_if_no_progress with_reducible refine frm_mk ?_
    | split

theorem execHibEntryDone_frm (hm : Sub 17592186044413 m) (hgood : Frm m s0 s) : OutFrm m s0 (execHibEntryDone s) := by
  unfold execHibEntryDone
  try dsimp only
  repeat' first
    | with_reducible assumption
    | with_reducible refine outFrm_next ?_
    | with_reducible refine outFrm_ite ?_ ?_
    | with_reducible refine State.hibCommit_frm (hm.le (by decide)) ?_
    | with_reducible refine State.hibEnter_frm (hm.le (by decide)) ?_
    | with_reducible refine State.hibRefused_frm (hm.le (by decide)) ?_
    | with_reducible refine frm_ite ?_ ?_
    | fail_if_no_progress with_reducible refine frm_mk ?_
    | split

theorem State.hibSupply_frm (hm : Sub 85899345948 m) (hgood : Frm m s0 s) : Frm m s0 (State.hibSupply s) := by
  unfold State.hibSupply
  try dsimp only
  repeat' first
    | with_reducible assumption
    | with_reducible refine State.quietMode_frm (hm.le (by decide)) ?_
    | with_reducible refine State.setBit_frm (hm.le (by decide)) ?_
    | with_reducible refine frm_ite ?_ ?_
    | fail_if_no_progress with_reducible refine frm_mk ?_
    | split

theorem execHibSupplyTimeout_frm (hm : Sub 85899345948 m) (hgood : Frm m s0 s) : OutFrm m s0 (execHibSupplyTimeout s) := by
  unfold execHibSupplyTimeout
  try dsimp only
  repeat' first
    | with_reducible assumption
    | with_reducible refine outFrm_next ?_
    | with_reducible refine outFrm_ite ?_ ?_
    | with_reducible refine State.hibSupply_frm (hm.le (by decide)) ?_
    | with_reducible refine frm_ite ?_ ?_
    | fail_if_no_progress with_reducible refine frm_mk ?_
    | split

theorem execWake_frm (hm : Sub 17592186044349 m) (hgood : Frm m s0 s) : OutFrm m s0 (execWake s) := by
  unfold execWake
  try dsimp only
  repeat' first
    | with_reducible assumption
    | with_reducible refine outFrm_next ?_
    | with_reducible refine outFrm_ite ?_ ?_
    | with_reducible refine State.wakeFire_frm (hm.le (by decide)) ?_
    | with_reducible refine frm_ite ?_ ?_
    | fail_if_no_progress with_reducible refine frm_mk ?_
    | split

theorem execWakeTimer_frm (hm : Sub 17592186044349 m) (hgood : Frm m s0 s) : OutFrm m s0 (execWakeTimer s) := by
  unfold execWakeTimer
  try dsimp only
  repeat' first
    | with_reducible assumption
    | with_reducible refine outFrm_next ?_
    | with_reducible refine outFrm_ite ?_ ?_
    | with_reducible refine State.reachCricket_frm (hm.le (by decide)) ?_
    | with_reducible refine State.wakeFire_frm (hm.le (by decide)) ?_
    | with_reducible refine frm_ite ?_ ?_
    | fail_if_no_progress with_reducible refine frm_mk ?_
    | split

theorem execWakeGpio_frm {e : WakeEdge} (hm : Sub 17592186044349 m) (hgood : Frm m s0 s) : OutFrm m s0 (execWakeGpio e s) := by
  unfold execWakeGpio
  try dsimp only
  repeat' first
    | with_reducible assumption
    | with_reducible refine outFrm_next ?_
    | with_reducible refine outFrm_ite ?_ ?_
    | with_reducible refine State.wakeFire_frm (hm.le (by decide)) ?_
    | with_reducible refine frm_ite ?_ ?_
    | fail_if_no_progress with_reducible refine frm_mk ?_
    | split

theorem execPerstDeassert_frm (hm : Sub 17592186044349 m) (hgood : Frm m s0 s) : OutFrm m s0 (execPerstDeassert s) := by
  unfold execPerstDeassert
  try dsimp only
  repeat' first
    | with_reducible assumption
    | with_reducible refine outFrm_next ?_
    | with_reducible refine outFrm_ite ?_ ?_
    | with_reducible refine State.wakeFire_frm (hm.le (by decide)) ?_
    | with_reducible refine frm_ite ?_ ?_
    | fail_if_no_progress with_reducible refine frm_mk ?_
    | split

theorem execChirpRecognised_frm {c : ClockSamples} (hm : Sub 17592186044349 m) (hgood : Frm m s0 s) : OutFrm m s0 (execChirpRecognised c s) := by
  unfold execChirpRecognised
  try dsimp only
  repeat' first
    | with_reducible assumption
    | with_reducible refine outFrm_next ?_
    | with_reducible refine outFrm_ite ?_ ?_
    | with_reducible refine State.linkDetect_frm (hm.le (by decide)) ?_
    | with_reducible refine State.setBit_frm (hm.le (by decide)) ?_
    | with_reducible refine State.wakeFire_frm (hm.le (by decide)) ?_
    | with_reducible refine frm_ite ?_ ?_
    | fail_if_no_progress with_reducible refine frm_mk ?_
    | split

theorem execRefclkLoss_frm (hm : Sub 16 m) (hgood : Frm m s0 s) : OutFrm m s0 (execRefclkLoss s) := by
  unfold execRefclkLoss
  try dsimp only
  repeat' first
    | with_reducible assumption
    | with_reducible refine outFrm_next ?_
    | with_reducible refine outFrm_ite ?_ ?_
    | with_reducible refine State.setBit_frm (hm.le (by decide)) ?_
    | with_reducible refine frm_ite ?_ ?_
    | fail_if_no_progress with_reducible refine frm_mk ?_
    | split

theorem execPllUnlock_frm {converter : Bool} (hm : Sub 16 m) (hgood : Frm m s0 s) : OutFrm m s0 (execPllUnlock converter s) := by
  unfold execPllUnlock
  try dsimp only
  repeat' first
    | with_reducible assumption
    | with_reducible refine outFrm_next ?_
    | with_reducible refine outFrm_ite ?_ ?_
    | with_reducible refine State.setBit_frm (hm.le (by decide)) ?_
    | with_reducible refine frm_ite ?_ ?_
    | fail_if_no_progress with_reducible refine frm_mk ?_
    | split

theorem flashWrites_frm {n : Nat} (hm : Sub 275414777872 m) : ∀ {fresh : Bool} {offset : Nat} {bs : List Byte} {s : State}, Frm m s0 s → Frm m s0 (flashWrites n fresh offset bs s) := by
  induction n with
  | zero => intro fresh offset bs s h; exact h
  | succ n ih =>
    intro fresh offset bs s h
    cases bs with
    | nil => exact h
    | cons b bs =>
      unfold flashWrites
      dsimp only
      refine frm_ite h (frm_ite (ih (State.bump_frm (hm.le (by decide)) h)) (ih ?_))
      exact frm_mk h

theorem execFlashProgram_frm {offset : Nat} {data : List Byte} (hm : Sub 275414777872 m) (hgood : Frm m s0 s) : OutFrm m s0 (execFlashProgram offset data s) := by
  unfold execFlashProgram
  try dsimp only
  repeat' first
    | with_reducible assumption
    | with_reducible refine outFrm_next ?_
    | with_reducible refine outFrm_ite ?_ ?_
    | with_reducible refine State.flashBegin_frm (hm.le (by decide)) ?_
    | with_reducible refine flashWrites_frm (hm.le (by decide)) ?_
    | with_reducible refine frm_ite ?_ ?_
    | fail_if_no_progress with_reducible refine frm_mk ?_
    | split

theorem State.progFail_frm (hm : Sub 1649804312592 m) (hgood : Frm m s0 s) : Frm m s0 (State.progFail s) := by
  unfold State.progFail
  try dsimp only
  repeat' first
    | with_reducible assumption
    | with_reducible refine State.bump_frm (hm.le (by decide)) ?_
    | with_reducible refine State.raise_frm (hm.le (by decide)) ?_
    | with_reducible refine State.setBit_frm (hm.le (by decide)) ?_
    | with_reducible refine frm_ite ?_ ?_
    | fail_if_no_progress with_reducible refine frm_mk ?_
    | split

theorem State.stageFail_frm {second : Bool} (hm : Sub 1924682219536 m) (hgood : Frm m s0 s) : Frm m s0 (State.stageFail s second) := by
  unfold State.stageFail
  try dsimp only
  repeat' first
    | with_reducible assumption
    | with_reducible refine State.progFail_frm (hm.le (by decide)) ?_
    | with_reducible refine frm_ite ?_ ?_
    | fail_if_no_progress with_reducible refine frm_mk ?_
    | split

theorem execFlashProgramDone_frm {second : Bool} {ok : Bool} (hm : Sub 10720775241744 m) (hgood : Frm m s0 s) : OutFrm m s0 (execFlashProgramDone second ok s) := by
  unfold execFlashProgramDone
  try dsimp only
  repeat' first
    | with_reducible assumption
    | with_reducible refine outFrm_next ?_
    | with_reducible refine outFrm_ite ?_ ?_
    | with_reducible refine State.flashBegin_frm (hm.le (by decide)) ?_
    | with_reducible refine State.progFail_frm (hm.le (by decide)) ?_
    | with_reducible refine State.stageFail_frm (hm.le (by decide)) ?_
    | with_reducible refine frm_ite ?_ ?_
    | fail_if_no_progress with_reducible refine frm_mk ?_
    | split

theorem execFlashEraseDone_frm {second : Bool} {offset : Nat} {large : Bool} (hm : Sub 274877906944 m) (hgood : Frm m s0 s) : OutFrm m s0 (execFlashEraseDone second offset large s) := by
  unfold execFlashEraseDone
  try dsimp only
  repeat' first
    | with_reducible assumption
    | with_reducible refine outFrm_next ?_
    | with_reducible refine outFrm_ite ?_ ?_
    | with_reducible refine frm_ite ?_ ?_
    | fail_if_no_progress with_reducible refine frm_mk ?_
    | split

theorem State.stageLast_frm {d : Desc} {total : Nat} (hm : Sub 484794466320 m) (hgood : Frm m s0 s) : Frm m s0 (State.stageLast s d total) := by
  unfold State.stageLast
  try dsimp only
  repeat' first
    | with_reducible assumption
    | with_reducible refine State.refuserNote_frm (hm.le (by decide)) ?_
    | with_reducible refine State.retireBad_frm (hm.le (by decide)) ?_
    | with_reducible refine State.retireOk_frm (hm.le (by decide)) ?_
    | with_reducible refine frm_ite ?_ ?_
    | fail_if_no_progress with_reducible refine frm_mk ?_
    | split

theorem State.stageLost_frm {d : Desc} {last : Bool} (hm : Sub 484794466320 m) (hgood : Frm m s0 s) : Frm m s0 (State.stageLost s d last) := by
  unfold State.stageLost
  try dsimp only
  repeat' first
    | with_reducible assumption
    | with_reducible refine State.refuserNote_frm (hm.le (by decide)) ?_
    | with_reducible refine State.retireBad_frm (hm.le (by decide)) ?_
    | with_reducible refine frm_ite ?_ ?_
    | fail_if_no_progress with_reducible refine frm_mk ?_
    | split

theorem execFwStage_frm {id : Nat} (hm : Sub 9280887488528 m) (hgood : Frm m s0 s) : OutFrm m s0 (execFwStage id s) := by
  unfold execFwStage
  try dsimp only
  repeat' first
    | with_reducible assumption
    | with_reducible refine outFrm_next ?_
    | with_reducible refine outFrm_ite ?_ ?_
    | with_reducible refine State.dmaFailed_frm (hm.le (by decide)) ?_
    | with_reducible refine State.refuserNote_frm (hm.le (by decide)) ?_
    | with_reducible refine State.retireBad_frm (hm.le (by decide)) ?_
    | with_reducible refine State.retireOk_frm (hm.le (by decide)) ?_
    | with_reducible refine State.serve_frm (hm.le (by decide)) ?_ (fun _ _ _ => ?_)
    | with_reducible refine State.stageLast_frm (hm.le (by decide)) ?_
    | with_reducible refine State.stageLost_frm (hm.le (by decide)) ?_
    | with_reducible refine State.take_frm (hm.le (by decide)) ?_
    | with_reducible refine frm_ite ?_ ?_
    | fail_if_no_progress with_reducible refine frm_mk ?_
    | split

theorem State.engineStop_frm (hm : Sub 4831838216 m) (hgood : Frm m s0 s) : Frm m s0 (State.engineStop s) := by
  unfold State.engineStop
  try dsimp only
  repeat' first
    | with_reducible assumption
    | with_reducible refine State.unstage_frm (hm.le (by decide)) ?_
    | with_reducible refine frm_ite ?_ ?_
    | fail_if_no_progress with_reducible refine frm_mk ?_
    | split

theorem State.enginePause_frm (hm : Sub 348429221912 m) (hgood : Frm m s0 s) : Frm m s0 (State.enginePause s) := by
  unfold State.enginePause
  try dsimp only
  repeat' first
    | with_reducible assumption
    | with_reducible refine State.engineStop_frm (hm.le (by decide)) ?_
    | with_reducible refine State.refuserNote_frm (hm.le (by decide)) ?_
    | with_reducible refine frm_ite ?_ ?_
    | fail_if_no_progress with_reducible refine frm_mk ?_
    | split

theorem State.imageRuns_frm (hm : Sub 274877906960 m) (hgood : Frm m s0 s) : Frm m s0 (State.imageRuns s) := by
  unfold State.imageRuns
  try dsimp only
  repeat' first
    | with_reducible assumption
    | with_reducible refine State.setReg_frm (hm.le (by decide)) ?_
    | with_reducible refine frm_ite ?_ ?_
    | fail_if_no_progress with_reducible refine frm_mk ?_
    | split

theorem State.vaultImage_frm {v : W32 × W32 × List Byte} (hm : Sub 10501731923984 m) (hgood : Frm m s0 s) : Frm m s0 (State.vaultImage s v) := by
  unfold State.vaultImage
  try dsimp only
  repeat' first
    | with_reducible assumption
    | with_reducible refine State.countEvent_frm (hm.le (by decide)) ?_
    | with_reducible refine State.vaultRollback_frm (hm.le (by decide)) ?_
    | with_reducible refine State.vaultStart_frm (hm.le (by decide)) ?_
    | with_reducible refine State.vaultStop_frm (hm.le (by decide)) ?_
    | with_reducible refine frm_ite ?_ ?_
    | fail_if_no_progress with_reducible refine frm_mk ?_
    | split

theorem State.fallBack_frm (hm : Sub 10845329307672 m) (hgood : Frm m s0 s) : Frm m s0 (State.fallBack s) := by
  unfold State.fallBack
  try dsimp only
  repeat' first
    | with_reducible assumption
    | with_reducible refine State.enginePause_frm (hm.le (by decide)) ?_
    | with_reducible refine State.imageRuns_frm (hm.le (by decide)) ?_
    | with_reducible refine State.raise_frm (hm.le (by decide)) ?_
    | with_reducible refine State.refuserNote_frm (hm.le (by decide)) ?_
    | with_reducible refine State.setBit_frm (hm.le (by decide)) ?_
    | with_reducible refine State.vaultImage_frm (hm.le (by decide)) ?_
    | with_reducible refine frm_ite ?_ ?_
    | fail_if_no_progress with_reducible refine frm_mk ?_
    | split

theorem State.engineRestart_frm (hm : Sub 10845329307672 m) (hgood : Frm m s0 s) : Frm m s0 (State.engineRestart s) := by
  unfold State.engineRestart
  try dsimp only
  repeat' first
    | with_reducible assumption
    | with_reducible refine State.bump_frm (hm.le (by decide)) ?_
    | with_reducible refine State.engineStop_frm (hm.le (by decide)) ?_
    | with_reducible refine State.fallBack_frm (hm.le (by decide)) ?_
    | with_reducible refine State.oneCycle_frm (hm.le (by decide)) ?_ (fun _ _ => ?_)
    | with_reducible refine State.raise_frm (hm.le (by decide)) ?_
    | with_reducible refine frm_ite ?_ ?_
    | fail_if_no_progress with_reducible refine frm_mk ?_
    | split

theorem execEngineWatchdog_frm (hm : Sub 10845329307672 m) (hgood : Frm m s0 s) : OutFrm m s0 (execEngineWatchdog s) := by
  unfold execEngineWatchdog
  try dsimp only
  repeat' first
    | with_reducible assumption
    | with_reducible refine outFrm_next ?_
    | with_reducible refine outFrm_ite ?_ ?_
    | with_reducible refine State.engineRestart_frm (hm.le (by decide)) ?_
    | with_reducible refine frm_ite ?_ ?_
    | fail_if_no_progress with_reducible refine frm_mk ?_
    | split

theorem State.mainsReturn_frm (hm : Sub 1649804328976 m) (hgood : Frm m s0 s) : Frm m s0 (State.mainsReturn s) := by
  unfold State.mainsReturn
  try dsimp only
  repeat' first
    | with_reducible assumption
    | with_reducible refine State.clrBit_frm (hm.le (by decide)) ?_
    | with_reducible refine State.mainsMode_frm (hm.le (by decide)) ?_
    | with_reducible refine frm_ite ?_ ?_
    | fail_if_no_progress with_reducible refine frm_mk ?_
    | split

theorem State.activated_frm {pause : Nat} (hm : Sub 141197082640 m) (hgood : Frm m s0 s) : Frm m s0 (State.activated s pause) := by
  unfold State.activated
  try dsimp only
  repeat' first
    | with_reducible assumption
    | with_reducible refine State.each_frm ?_ (fun _ _ _ => ?_)
    | with_reducible refine State.retireOk_frm (hm.le (by decide)) ?_
    | with_reducible refine frm_ite ?_ ?_
    | fail_if_no_progress with_reducible refine frm_mk ?_
    | split

theorem State.selfTest_frm (hm : Sub 9070970929152 m) (hgood : Frm m s0 s) : Frm m s0 (State.selfTest s) := by
  unfold State.selfTest
  try dsimp only
  repeat' first
    | with_reducible assumption
    | with_reducible refine State.freeNext_frm (hm.le (by decide)) ?_
    | with_reducible refine frm_ite ?_ ?_
    | fail_if_no_progress with_reducible refine frm_mk ?_
    | split

theorem execEngineReturn_frm (hm : Sub 10930154946585 m) (hgood : Frm m s0 s) : OutFrm m s0 (execEngineReturn s) := by
  unfold execEngineReturn
  try dsimp only
  repeat' first
    | with_reducible assumption
    | with_reducible refine outFrm_next ?_
    | with_reducible refine outFrm_ite ?_ ?_
    | with_reducible refine State.activated_frm (hm.le (by decide)) ?_
    | with_reducible refine State.endHandling_frm (hm.le (by decide)) ?_
    | with_reducible refine State.mainsReturn_frm (hm.le (by decide)) ?_
    | with_reducible refine State.reachUp_frm (hm.le (by decide)) ?_
    | with_reducible refine State.refuserNote_frm (hm.le (by decide)) ?_
    | with_reducible refine State.selfTest_frm (hm.le (by decide)) ?_
    | with_reducible refine State.setReg_frm (hm.le (by decide)) ?_
    | with_reducible refine State.traceEngine_frm (hm.le (by decide)) ?_
    | with_reducible refine frm_ite ?_ ?_
    | fail_if_no_progress with_reducible refine frm_mk ?_
    | split

theorem execFwActivate_frm {id : Nat} (hm : Sub 10985989519384 m) (hgood : Frm m s0 s) : OutFrm m s0 (execFwActivate id s) := by
  unfold execFwActivate
  try dsimp only
  repeat' first
    | with_reducible assumption
    | with_reducible refine outFrm_next ?_
    | with_reducible refine outFrm_ite ?_ ?_
    | with_reducible refine State.enginePause_frm (hm.le (by decide)) ?_
    | with_reducible refine State.imageRuns_frm (hm.le (by decide)) ?_
    | with_reducible refine State.retireBad_frm (hm.le (by decide)) ?_
    | with_reducible refine State.serve_frm (hm.le (by decide)) ?_ (fun _ _ _ => ?_)
    | with_reducible refine State.take_frm (hm.le (by decide)) ?_
    | with_reducible refine State.vaultImage_frm (hm.le (by decide)) ?_
    | with_reducible refine frm_ite ?_ ?_
    | fail_if_no_progress with_reducible refine frm_mk ?_
    | split

theorem State.migrate_frm (hm : Sub 274877906960 m) (hgood : Frm m s0 s) : Frm m s0 (State.migrate s) := by
  unfold State.migrate
  try dsimp only
  repeat' first
    | with_reducible assumption
    | with_reducible refine State.doIf_frm ?_ ?_
    | with_reducible refine State.setBit_frm (hm.le (by decide)) ?_
    | with_reducible refine frm_ite ?_ ?_
    | fail_if_no_progress with_reducible refine frm_mk ?_
    | split

theorem State.confirmTrial_frm (hm : Sub 377957122064 m) (hgood : Frm m s0 s) : Frm m s0 (State.confirmTrial s) := by
  unfold State.confirmTrial
  try dsimp only
  repeat' first
    | with_reducible assumption
    | with_reducible refine State.migrate_frm (hm.le (by decide)) ?_
    | with_reducible refine State.refuserNote_frm (hm.le (by decide)) ?_
    | with_reducible refine frm_ite ?_ ?_
    | fail_if_no_progress with_reducible refine frm_mk ?_
    | split

theorem execFwConfirm_frm {id : Nat} (hm : Sub 519154204688 m) (hgood : Frm m s0 s) : OutFrm m s0 (execFwConfirm id s) := by
  unfold execFwConfirm
  try dsimp only
  repeat' first
    | with_reducible assumption
    | with_reducible refine outFrm_next ?_
    | with_reducible refine outFrm_ite ?_ ?_
    | with_reducible refine State.confirmTrial_frm (hm.le (by decide)) ?_
    | with_reducible refine State.retireBad_frm (hm.le (by decide)) ?_
    | with_reducible refine State.retireOk_frm (hm.le (by decide)) ?_
    | with_reducible refine State.serve_frm (hm.le (by decide)) ?_ (fun _ _ _ => ?_)
    | with_reducible refine frm_ite ?_ ?_
    | fail_if_no_progress with_reducible refine frm_mk ?_
    | split

theorem execFwAutoConfirm_frm (hm : Sub 9174050144273 m) (hgood : Frm m s0 s) : OutFrm m s0 (execFwAutoConfirm s) := by
  unfold execFwAutoConfirm
  try dsimp only
  repeat' first
    | with_reducible assumption
    | with_reducible refine outFrm_next ?_
    | with_reducible refine outFrm_ite ?_ ?_
    | with_reducible refine State.confirmTrial_frm (hm.le (by decide)) ?_
    | with_reducible refine State.reachUp_frm (hm.le (by decide)) ?_
    | with_reducible refine State.selfTest_frm (hm.le (by decide)) ?_
    | with_reducible refine frm_ite ?_ ?_
    | fail_if_no_progress with_reducible refine frm_mk ?_
    | split

theorem execFwConfirmLimit_frm (hm : Sub 10845329307673 m) (hgood : Frm m s0 s) : OutFrm m s0 (execFwConfirmLimit s) := by
  unfold execFwConfirmLimit
  try dsimp only
  repeat' first
    | with_reducible assumption
    | with_reducible refine outFrm_next ?_
    | with_reducible refine outFrm_ite ?_ ?_
    | with_reducible refine State.fallBack_frm (hm.le (by decide)) ?_
    | with_reducible refine State.reachUp_frm (hm.le (by decide)) ?_
    | with_reducible refine frm_ite ?_ ?_
    | fail_if_no_progress with_reducible refine frm_mk ?_
    | split

theorem execTracePop_frm {v : W32} (hm : Sub 549755813888 m) (hgood : Frm m s0 s) : OutFrm m s0 (execTracePop v s) := by
  unfold execTracePop
  try dsimp only
  repeat' first
    | with_reducible assumption
    | with_reducible refine outFrm_next ?_
    | with_reducible refine outFrm_ite ?_ ?_
    | with_reducible refine frm_ite ?_ ?_
    | fail_if_no_progress with_reducible refine frm_mk ?_
    | split

theorem State.stageAt_frm {n : Nat} (hm : Sub 8 m) (hgood : Frm m s0 s) : Frm m s0 (State.stageAt s n) := by
  unfold State.stageAt
  try dsimp only
  repeat' first
    | with_reducible assumption
    | with_reducible refine frm_ite ?_ ?_
    | fail_if_no_progress with_reducible refine frm_mk ?_
    | split

theorem State.stepTook_frm {us : Nat} (hm : Sub 9 m) (hgood : Frm m s0 s) : Frm m s0 (State.stepTook s us) := by
  unfold State.stepTook
  try dsimp only
  repeat' first
    | with_reducible assumption
    | with_reducible refine State.reachUp_frm (hm.le (by decide)) ?_
    | with_reducible refine frm_ite ?_ ?_
    | fail_if_no_progress with_reducible refine frm_mk ?_
    | split

theorem State.cricketEnds_frm (hm : Sub 17592186044413 m) (hgood : Frm m s0 s) : Frm m s0 (State.cricketEnds s) := by
  unfold State.cricketEnds
  try dsimp only
  repeat' first
    | with_reducible assumption
    | with_reducible refine State.warmTake_frm (hm.le (by decide)) ?_
    | with_reducible refine frm_ite ?_ ?_
    | fail_if_no_progress with_reducible refine frm_mk ?_
    | split

theorem State.clocksEnd_frm (hm : Sub 1718523789337 m) (hgood : Frm m s0 s) : Frm m s0 (State.clocksEnd s) := by
  unfold State.clocksEnd
  try dsimp only
  repeat' first
    | with_reducible assumption
    | with_reducible refine State.each_frm ?_ (fun _ _ _ => ?_)
    | with_reducible refine State.pllRun_frm (hm.le (by decide)) ?_
    | with_reducible refine State.raise_frm (hm.le (by decide)) ?_
    | with_reducible refine State.stageAt_frm (hm.le (by decide)) ?_
    | with_reducible refine frm_ite ?_ ?_
    | fail_if_no_progress with_reducible refine frm_mk ?_
    | split

theorem State.otpEnds_frm (hm : Sub 1649804312604 m) (hgood : Frm m s0 s) : Frm m s0 (State.otpEnds s) := by
  unfold State.otpEnds
  try dsimp only
  repeat' first
    | with_reducible assumption
    | with_reducible refine State.doIf_frm ?_ ?_
    | with_reducible refine State.setBit_frm (hm.le (by decide)) ?_
    | with_reducible refine State.setBitRaise_frm (hm.le (by decide)) ?_
    | with_reducible refine State.stageAt_frm (hm.le (by decide)) ?_
    | with_reducible refine frm_ite ?_ ?_
    | fail_if_no_progress with_reducible refine frm_mk ?_
    | split

theorem State.readSfdp_frm {a : SfdpReport} {b : SfdpReport} (hm : Sub 1924682219536 m) (hgood : Frm m s0 s) : Frm m s0 (State.readSfdp s a b) := by
  unfold State.readSfdp
  try dsimp only
  repeat' first
    | with_reducible assumption
    | with_reducible refine State.doIf_frm ?_ ?_
    | with_reducible refine State.quadSet_frm (hm.le (by decide)) ?_
    | with_reducible refine State.raise_frm (hm.le (by decide)) ?_
    | with_reducible refine frm_ite ?_ ?_
    | fail_if_no_progress with_reducible refine frm_mk ?_
    | split

theorem State.bootFallback_frm (hm : Sub 10776609830928 m) (hgood : Frm m s0 s) : Frm m s0 (State.bootFallback s) := by
  unfold State.bootFallback
  try dsimp only
  repeat' first
    | with_reducible assumption
    | with_reducible refine State.auditEvent_frm (hm.le (by decide)) ?_
    | with_reducible refine State.raise_frm (hm.le (by decide)) ?_
    | with_reducible refine State.setBit_frm (hm.le (by decide)) ?_
    | with_reducible refine State.take_frm (hm.le (by decide)) ?_
    | with_reducible refine State.vaultImage_frm (hm.le (by decide)) ?_
    | with_reducible refine frm_ite ?_ ?_
    | fail_if_no_progress with_reducible refine frm_mk ?_
    | split

theorem State.noFirmware_frm (hm : Sub 1649804312600 m) (hgood : Frm m s0 s) : Frm m s0 (State.noFirmware s) := by
  unfold State.noFirmware
  try dsimp only
  repeat' first
    | with_reducible assumption
    | with_reducible refine State.setBitRaise_frm (hm.le (by decide)) ?_
    | with_reducible refine State.stageAt_frm (hm.le (by decide)) ?_
    | with_reducible refine frm_ite ?_ ?_
    | fail_if_no_progress with_reducible refine frm_mk ?_
    | split

theorem bootFrom_frm {ok : Bool → Bool} {bs : List Bool} (hm : Sub 1924682219544 m) : ∀ {s : State}, Frm m s0 s → Frm m s0 (bootFrom ok bs s) := by
  induction bs with
  | nil => intro s h; exact State.noFirmware_frm (hm.le (by decide)) h
  | cons b bs ih =>
    intro s h
    unfold bootFrom
    split
    · exact State.stageAt_frm (hm.le (by decide)) (frm_mk h)
    · refine ih (State.doIf_frm ?_ (State.setBit_frm (hm.le (by decide)) ?_)) <;> exact frm_mk h

theorem State.firmwareEnds_frm {rep : StepReport} (hm : Sub 10776609830936 m) (hgood : Frm m s0 s) : Frm m s0 (State.firmwareEnds s rep) := by
  unfold State.firmwareEnds
  try dsimp only
  repeat' first
    | with_reducible assumption
    | with_reducible refine State.bootFallback_frm (hm.le (by decide)) ?_
    | with_reducible refine State.readSfdp_frm (hm.le (by decide)) ?_
    | with_reducible refine State.setReg_frm (hm.le (by decide)) ?_
    | with_reducible refine bootFrom_frm (hm.le (by decide)) ?_
    | with_reducible refine frm_ite ?_ ?_
    | fail_if_no_progress with_reducible refine frm_mk ?_
    | split

theorem State.engineStarts_frm {vaultOk : Bool} (hm : Sub 10776609830937 m) (hgood : Frm m s0 s) : Frm m s0 (State.engineStarts s vaultOk) := by
  unfold State.engineStarts
  try dsimp only
  repeat' first
    | with_reducible assumption
    | with_reducible refine State.doIf_frm ?_ ?_
    | with_reducible refine State.endHandling_frm (hm.le (by decide)) ?_
    | with_reducible refine State.imageRuns_frm (hm.le (by decide)) ?_
    | with_reducible refine State.reachUp_frm (hm.le (by decide)) ?_
    | with_reducible refine State.stageAt_frm (hm.le (by decide)) ?_
    | with_reducible refine State.vaultStart_frm (hm.le (by decide)) ?_
    | with_reducible refine frm_ite ?_ ?_
    | fail_if_no_progress with_reducible refine frm_mk ?_
    | split

theorem State.startGroups_frm (hm : Sub 1613856 m) (hgood : Frm m s0 s) : Frm m s0 (State.startGroups s) := by
  unfold State.startGroups
  try dsimp only
  repeat' first
    | with_reducible assumption
    | with_reducible refine State.each_frm ?_ (fun _ _ _ => ?_)
    | with_reducible refine State.startGroup_frm (hm.le (by decide)) ?_
    | with_reducible refine frm_ite ?_ ?_
    | fail_if_no_progress with_reducible refine frm_mk ?_
    | split

theorem State.mainsBoth_frm (hm : Sub 16400 m) (hgood : Frm m s0 s) : Frm m s0 (State.mainsBoth s) := by
  unfold State.mainsBoth
  try dsimp only
  repeat' first
    | with_reducible assumption
    | with_reducible refine State.mainsLoad_frm (hm.le (by decide)) ?_
    | with_reducible refine frm_ite ?_ ?_
    | fail_if_no_progress with_reducible refine frm_mk ?_
    | split

theorem State.applyStored_frm {bank : Bank} {profile : Nat} (hm : Sub 17540445108668 m) (hgood : Frm m s0 s) : Frm m s0 (State.applyStored s bank profile) := by
  unfold State.applyStored
  try dsimp only
  repeat' first
    | with_reducible assumption
    | with_reducible refine State.afterSwitch_frm (hm.le (by decide)) ?_
    | with_reducible refine State.bump_frm (hm.le (by decide)) ?_
    | with_reducible refine State.mainsBoth_frm (hm.le (by decide)) ?_
    | with_reducible refine State.setReg_frm (hm.le (by decide)) ?_
    | with_reducible refine State.startGroups_frm (hm.le (by decide)) ?_
    | with_reducible refine State.traceFree_frm (hm.le (by decide)) ?_
    | with_reducible refine frm_ite ?_ ?_
    | fail_if_no_progress with_reducible refine frm_mk ?_
    | split

theorem State.loadStored_frm (hm : Sub 17557759195580 m) (hgood : Frm m s0 s) : Frm m s0 (State.loadStored s) := by
  unfold State.loadStored
  try dsimp only
  repeat' first
    | with_reducible assumption
    | with_reducible refine State.applyStored_frm (hm.le (by decide)) ?_
    | with_reducible refine State.enterBad_frm (hm.le (by decide)) ?_
    | with_reducible refine State.startGroups_frm (hm.le (by decide)) ?_
    | with_reducible refine frm_ite ?_ ?_
    | fail_if_no_progress with_reducible refine frm_mk ?_
    | split

theorem State.recoverySweep_frm (hm : Sub 141197082640 m) (hgood : Frm m s0 s) : Frm m s0 (State.recoverySweep s) := by
  unfold State.recoverySweep
  try dsimp only
  repeat' first
    | with_reducible assumption
    | with_reducible refine State.sweepBad_frm (hm.le (by decide)) ?_
    | with_reducible refine frm_ite ?_ ?_
    | fail_if_no_progress with_reducible refine frm_mk ?_
    | split

theorem State.ready_frm (hm : Sub 17265546467352 m) (hgood : Frm m s0 s) : Frm m s0 (State.ready s) := by
  unfold State.ready
  try dsimp only
  repeat' first
    | with_reducible assumption
    | with_reducible refine State.each_frm ?_ (fun _ _ _ => ?_)
    | with_reducible refine State.linkStart_frm (hm.le (by decide)) ?_
    | with_reducible refine State.powerMode_frm (hm.le (by decide)) ?_
    | with_reducible refine State.recoverySweep_frm (hm.le (by decide)) ?_
    | with_reducible refine State.setReg_frm (hm.le (by decide)) ?_
    | with_reducible refine State.setRole_frm (hm.le (by decide)) ?_
    | with_reducible refine State.traceMark_frm (hm.le (by decide)) ?_
    | with_reducible refine frm_ite ?_ ?_
    | fail_if_no_progress with_reducible refine frm_mk ?_
    | split

theorem State.configEnds_frm (hm : Sub 17557759195580 m) (hgood : Frm m s0 s) : Frm m s0 (State.configEnds s) := by
  unfold State.configEnds
  try dsimp only
  repeat' first
    | with_reducible assumption
    | with_reducible refine State.loadStored_frm (hm.le (by decide)) ?_
    | with_reducible refine State.mainsBoth_frm (hm.le (by decide)) ?_
    | with_reducible refine State.mainsRestart_frm (hm.le (by decide)) ?_
    | with_reducible refine State.ready_frm (hm.le (by decide)) ?_
    | with_reducible refine frm_ite ?_ ?_
    | fail_if_no_progress with_reducible refine frm_mk ?_
    | split

theorem execStartupStepEnd_frm {rep : StepReport} (hm : Sub 17592186044413 m) (hgood : Frm m s0 s) : OutFrm m s0 (execStartupStepEnd rep s) := by
  unfold execStartupStepEnd
  try dsimp only
  repeat' first
    | with_reducible assumption
    | with_reducible refine outFrm_next ?_
    | with_reducible refine outFrm_ite ?_ ?_
    | with_reducible refine State.clocksEnd_frm (hm.le (by decide)) ?_
    | with_reducible refine State.configEnds_frm (hm.le (by decide)) ?_
    | with_reducible refine State.cricketEnds_frm (hm.le (by decide)) ?_
    | with_reducible refine State.engineStarts_frm (hm.le (by decide)) ?_
    | with_reducible refine State.firmwareEnds_frm (hm.le (by decide)) ?_
    | with_reducible refine State.otpEnds_frm (hm.le (by decide)) ?_
    | with_reducible refine State.owResult_frm (hm.le (by decide)) ?_
    | with_reducible refine State.stageAt_frm (hm.le (by decide)) ?_
    | with_reducible refine State.stepTook_frm (hm.le (by decide)) ?_
    | with_reducible refine frm_ite ?_ ?_
    | fail_if_no_progress with_reducible refine frm_mk ?_
    | split

theorem State.supplyOff_frm (hm : Sub 12 m) (hgood : Frm m s0 s) : Frm m s0 (State.supplyOff s) := by
  unfold State.supplyOff
  try dsimp only
  repeat' first
    | with_reducible assumption
    | with_reducible refine frm_ite ?_ ?_
    | fail_if_no_progress with_reducible refine frm_mk ?_
    | split

theorem State.overrun_frm (hm : Sub 1649804312600 m) (hgood : Frm m s0 s) : Frm m s0 (State.overrun s) := by
  unfold State.overrun
  try dsimp only
  repeat' first
    | with_reducible assumption
    | with_reducible refine State.raise_frm (hm.le (by decide)) ?_
    | with_reducible refine State.setBit_frm (hm.le (by decide)) ?_
    | with_reducible refine frm_ite ?_ ?_
    | fail_if_no_progress with_reducible refine frm_mk ?_
    | split

theorem State.supplyLate_frm (hm : Sub 1735703658524 m) (hgood : Frm m s0 s) : Frm m s0 (State.supplyLate s) := by
  unfold State.supplyLate
  try dsimp only
  repeat' first
    | with_reducible assumption
    | with_reducible refine State.hibSupply_frm (hm.le (by decide)) ?_
    | with_reducible refine State.overrun_frm (hm.le (by decide)) ?_
    | with_reducible refine State.setBit_frm (hm.le (by decide)) ?_
    | with_reducible refine State.supplyOff_frm (hm.le (by decide)) ?_
    | with_reducible refine frm_ite ?_ ?_
    | fail_if_no_progress with_reducible refine frm_mk ?_
    | split

theorem execSupplyTimeout_frm (hm : Sub 1735703658525 m) (hgood : Frm m s0 s) : OutFrm m s0 (execSupplyTimeout s) := by
  unfold execSupplyTimeout
  try dsimp only
  repeat' first
    | with_reducible assumption
    | with_reducible refine outFrm_next ?_
    | with_reducible refine outFrm_ite ?_ ?_
    | with_reducible refine State.stepTook_frm (hm.le (by decide)) ?_
    | with_reducible refine State.supplyLate_frm (hm.le (by decide)) ?_
    | with_reducible refine frm_ite ?_ ?_
    | fail_if_no_progress with_reducible refine frm_mk ?_
    | split

theorem execSupplyRetry_frm (hm : Sub 17592186044413 m) (hgood : Frm m s0 s) : OutFrm m s0 (execSupplyRetry s) := by
  unfold execSupplyRetry
  try dsimp only
  repeat' first
    | with_reducible assumption
    | with_reducible refine outFrm_next ?_
    | with_reducible refine outFrm_ite ?_ ?_
    | with_reducible refine State.setBit_frm (hm.le (by decide)) ?_
    | with_reducible refine State.warmState_frm (hm.le (by decide)) ?_
    | with_reducible refine frm_ite ?_ ?_
    | fail_if_no_progress with_reducible refine frm_mk ?_
    | split

theorem State.atLimit_frm (hm : Sub 9 m) (hgood : Frm m s0 s) : Frm m s0 (State.atLimit s) := by
  unfold State.atLimit
  try dsimp only
  repeat' first
    | with_reducible assumption
    | with_reducible refine State.reachUp_frm (hm.le (by decide)) ?_
    | with_reducible refine State.stepTook_frm (hm.le (by decide)) ?_
    | with_reducible refine frm_ite ?_ ?_
    | fail_if_no_progress with_reducible refine frm_mk ?_
    | split

theorem execStepOverrun_frm (hm : Sub 17592100321341 m) (hgood : Frm m s0 s) : OutFrm m s0 (execStepOverrun s) := by
  unfold execStepOverrun
  try dsimp only
  repeat' first
    | with_reducible assumption
    | with_reducible refine outFrm_next ?_
    | with_reducible refine outFrm_ite ?_ ?_
    | with_reducible refine State.atLimit_frm (hm.le (by decide)) ?_
    | with_reducible refine State.bootFallback_frm (hm.le (by decide)) ?_
    | with_reducible refine State.engineRestart_frm (hm.le (by decide)) ?_
    | with_reducible refine State.enterBad_frm (hm.le (by decide)) ?_
    | with_reducible refine State.mainsBoth_frm (hm.le (by decide)) ?_
    | with_reducible refine State.mainsRestart_frm (hm.le (by decide)) ?_
    | with_reducible refine State.noFirmware_frm (hm.le (by decide)) ?_
    | with_reducible refine State.overrun_frm (hm.le (by decide)) ?_
    | with_reducible refine State.owResult_frm (hm.le (by decide)) ?_
    | with_reducible refine State.ready_frm (hm.le (by decide)) ?_
    | with_reducible refine State.stageAt_frm (hm.le (by decide)) ?_
    | with_reducible refine State.supplyLate_frm (hm.le (by decide)) ?_
    | with_reducible refine State.supplyOff_frm (hm.le (by decide)) ?_
    | with_reducible refine frm_ite ?_ ?_
    | fail_if_no_progress with_reducible refine frm_mk ?_
    | split

theorem State.fatalGroup_frm {g : Nat} (hm : Sub 32 m) (hgood : Frm m s0 s) : Frm m s0 (State.fatalGroup s g) := by
  unfold State.fatalGroup
  try dsimp only
  repeat' first
    | with_reducible assumption
    | with_reducible refine State.stopGroup_frm (hm.le (by decide)) ?_
    | with_reducible refine State.updGrp_frm (hm.le (by decide)) ?_
    | with_reducible refine frm_ite ?_ ?_
    | fail_if_no_progress with_reducible refine frm_mk ?_
    | split

theorem State.fatalStream_frm {x : Nat} (hm : Sub 6747171553296 m) (hgood : Frm m s0 s) : Frm m s0 (State.fatalStream s x) := by
  unfold State.fatalStream
  try dsimp only
  repeat' first
    | with_reducible assumption
    | with_reducible refine State.closePacket_frm (hm.le (by decide)) ?_
    | with_reducible refine State.setStrm_frm (hm.le (by decide)) ?_
    | with_reducible refine State.streamSettle_frm (hm.le (by decide)) ?_
    | with_reducible refine frm_ite ?_ ?_
    | fail_if_no_progress with_reducible refine frm_mk ?_
    | split

theorem State.failDesc_frm {d : Desc} (hm : Sub 150103687184 m) (hgood : Frm m s0 s) : Frm m s0 (State.failDesc s d) := by
  unfold State.failDesc
  try dsimp only
  repeat' first
    | with_reducible assumption
    | with_reducible refine State.capRelease_frm (hm.le (by decide)) ?_
    | with_reducible refine State.dropJob_frm (hm.le (by decide)) ?_
    | with_reducible refine State.retireBad_frm (hm.le (by decide)) ?_
    | with_reducible refine State.retireBuf_frm (hm.le (by decide)) ?_
    | with_reducible refine State.retireEmpty_frm (hm.le (by decide)) ?_
    | with_reducible refine frm_ite ?_ ?_
    | fail_if_no_progress with_reducible refine frm_mk ?_
    | split

theorem State.fatalStop_frm {cause : FatalCause} (hm : Sub 8413620963376 m) (hgood : Frm m s0 s) : Frm m s0 (State.fatalStop s cause) := by
  unfold State.fatalStop
  try dsimp only
  repeat' first
    | with_reducible assumption
    | with_reducible refine State.doIf_frm ?_ ?_
    | with_reducible refine State.each_frm ?_ (fun _ _ _ => ?_)
    | with_reducible refine State.excSeize_frm (hm.le (by decide)) ?_
    | with_reducible refine State.failDesc_frm (hm.le (by decide)) ?_
    | with_reducible refine State.fatalGroup_frm (hm.le (by decide)) ?_
    | with_reducible refine State.fatalStream_frm (hm.le (by decide)) ?_
    | with_reducible refine State.raise_frm (hm.le (by decide)) ?_
    | with_reducible refine State.sendHealth_frm (hm.le (by decide)) ?_
    | with_reducible refine State.vaultTaint_frm (hm.le (by decide)) ?_
    | with_reducible refine frm_ite ?_ ?_
    | fail_if_no_progress with_reducible refine frm_mk ?_
    | split

theorem State.unitFatal_frm {cause : FatalCause} (hm : Sub 8413620963376 m) (hgood : Frm m s0 s) : Frm m s0 (State.unitFatal s cause) := by
  unfold State.unitFatal
  try dsimp only
  repeat' first
    | with_reducible assumption
    | with_reducible refine State.fatalStop_frm (hm.le (by decide)) ?_
    | with_reducible refine State.oneCycle_frm (hm.le (by decide)) ?_ (fun _ _ => ?_)
    | with_reducible refine frm_ite ?_ ?_
    | fail_if_no_progress with_reducible refine frm_mk ?_
    | split

theorem execUnitFatal_frm {cause : FatalCause} (hm : Sub 8413620963377 m) (hgood : Frm m s0 s) : OutFrm m s0 (execUnitFatal cause s) := by
  unfold execUnitFatal
  try dsimp only
  repeat' first
    | with_reducible assumption
    | with_reducible refine outFrm_next ?_
    | with_reducible refine outFrm_ite ?_ ?_
    | with_reducible refine State.reach_frm (hm.le (by decide)) ?_
    | with_reducible refine State.unitFatal_frm (hm.le (by decide)) ?_
    | with_reducible refine frm_ite ?_ ?_
    | fail_if_no_progress with_reducible refine frm_mk ?_
    | split

theorem execErrMsiTimer_frm (hm : Sub 1100048498705 m) (hgood : Frm m s0 s) : OutFrm m s0 (execErrMsiTimer s) := by
  unfold execErrMsiTimer
  try dsimp only
  repeat' first
    | with_reducible assumption
    | with_reducible refine outFrm_next ?_
    | with_reducible refine outFrm_ite ?_ ?_
    | with_reducible refine State.msix_frm (hm.le (by decide)) ?_
    | with_reducible refine State.reachUp_frm (hm.le (by decide)) ?_
    | with_reducible refine frm_ite ?_ ?_
    | fail_if_no_progress with_reducible refine frm_mk ?_
    | split

theorem execErrlogPop_frm {v : W32} (hm : Sub 1099511627776 m) (hgood : Frm m s0 s) : OutFrm m s0 (execErrlogPop v s) := by
  unfold execErrlogPop
  try dsimp only
  repeat' first
    | with_reducible assumption
    | with_reducible refine outFrm_next ?_
    | with_reducible refine outFrm_ite ?_ ?_
    | with_reducible refine frm_ite ?_ ?_
    | fail_if_no_progress with_reducible refine frm_mk ?_
    | split

theorem State.injAdd_frm {target : Nat} {action : Nat} {index : Nat} {left : Nat} {value : Int} (hm : Sub 2199023255552 m) (hgood : Frm m s0 s) : Frm m s0 (State.injAdd s target action index left value) := by
  unfold State.injAdd
  try dsimp only
  repeat' first
    | with_reducible assumption
    | with_reducible refine frm_ite ?_ ?_
    | fail_if_no_progress with_reducible refine frm_mk ?_
    | split

theorem State.injTimed_frm {target : Nat} {action : Nat} {index : Nat} {us : Nat} (hm : Sub 2199023255568 m) (hgood : Frm m s0 s) : Frm m s0 (State.injTimed s target action index us) := by
  unfold State.injTimed
  try dsimp only
  repeat' first
    | with_reducible assumption
    | with_reducible refine State.bump_frm (hm.le (by decide)) ?_
    | with_reducible refine frm_ite ?_ ?_
    | fail_if_no_progress with_reducible refine frm_mk ?_
    | split

theorem State.injLinkCount_frm {p : Nat} {n : Nat} (hm : Sub 16 m) (hgood : Frm m s0 s) : Frm m s0 (State.injLinkCount s p n) := by
  unfold State.injLinkCount
  try dsimp only
  repeat' first
    | with_reducible assumption
    | with_reducible refine State.bumpBy_frm (hm.le (by decide)) ?_
    | with_reducible refine frm_ite ?_ ?_
    | fail_if_no_progress with_reducible refine frm_mk ?_
    | split

theorem State.injectCmd_frm {id : Nat} {isTarget : Nat → Bool} {action : Nat} {f : Desc → State → State} (hm : Sub 141197082640 m) (hgood : Frm m s0 s) (hf : ∀ d t, Frm m s0 t → Frm m s0 (f d t)) : OutFrm m s0 (s.injectCmd id isTarget action f) := by
  unfold State.injectCmd
  refine State.serve_frm (hm.le (by decide)) hgood (fun d t ht => ?_)
  try dsimp only
  repeat' first
    | with_reducible exact hf _ _ ht
    | with_reducible exact State.retireBad_frm (hm.le (by decide)) ht
    | with_reducible exact ht
    | split

theorem State.injDone_frm {d : Desc} (hm : Sub 141197082640 m) (hgood : Frm m s0 s) : Frm m s0 (State.injDone s d) := by
  unfold State.injDone
  try dsimp only
  repeat' first
    | with_reducible assumption
    | with_reducible refine State.retireOk_frm (hm.le (by decide)) ?_
    | with_reducible refine frm_ite ?_ ?_
    | fail_if_no_progress with_reducible refine frm_mk ?_
    | split

theorem State.linkInject_frm {d : Desc} {action : Nat} {filter : Nat} (hm : Sub 268435456 m) (hgood : Frm m s0 s) : Frm m s0 (State.linkInject s d action filter) := by
  unfold State.linkInject
  try dsimp only
  repeat' first
    | with_reducible assumption
    | with_reducible refine State.updLink_frm (hm.le (by decide)) ?_
    | with_reducible refine frm_ite ?_ ?_
    | fail_if_no_progress with_reducible refine frm_mk ?_
    | split

theorem execInjectCancel_frm {id : Nat} (hm : Sub 2340488773648 m) (hgood : Frm m s0 s) : OutFrm m s0 (execInjectCancel id s) := by
  unfold execInjectCancel
  try dsimp only
  repeat' first
    | with_reducible assumption
    | with_reducible refine outFrm_next ?_
    | with_reducible refine outFrm_ite ?_ ?_
    | with_reducible refine State.postAll_frm (hm.le (by decide)) ?_
    | with_reducible refine State.retireBad_frm (hm.le (by decide)) ?_
    | with_reducible refine State.retireOk_frm (hm.le (by decide)) ?_
    | with_reducible refine State.serve_frm (hm.le (by decide)) ?_ (fun _ _ _ => ?_)
    | with_reducible refine State.updLink_frm (hm.le (by decide)) ?_
    | with_reducible refine frm_ite ?_ ?_
    | fail_if_no_progress with_reducible refine frm_mk ?_
    | split

theorem execInjectDrop_frm {id : Nat} (hm : Sub 141465518096 m) (hgood : Frm m s0 s) : OutFrm m s0 (execInjectDrop id s) := by
  unfold execInjectDrop
  try dsimp only
  repeat' first
    | with_reducible assumption
    | with_reducible refine outFrm_next ?_
    | with_reducible refine outFrm_ite ?_ ?_
    | with_reducible refine State.injDone_frm (hm.le (by decide)) ?_
    | with_reducible refine State.injectCmd_frm (hm.le (by decide)) ?_ (fun _ _ _ => ?_)
    | with_reducible refine State.linkInject_frm (hm.le (by decide)) ?_
    | with_reducible refine frm_ite ?_ ?_
    | fail_if_no_progress with_reducible refine frm_mk ?_
    | split

theorem execInjectCorrupt_frm {id : Nat} (hm : Sub 141465518096 m) (hgood : Frm m s0 s) : OutFrm m s0 (execInjectCorrupt id s) := by
  unfold execInjectCorrupt
  try dsimp only
  repeat' first
    | with_reducible assumption
    | with_reducible refine outFrm_next ?_
    | with_reducible refine outFrm_ite ?_ ?_
    | with_reducible refine State.injDone_frm (hm.le (by decide)) ?_
    | with_reducible refine State.injectCmd_frm (hm.le (by decide)) ?_ (fun _ _ _ => ?_)
    | with_reducible refine State.linkInject_frm (hm.le (by decide)) ?_
    | with_reducible refine frm_ite ?_ ?_
    | fail_if_no_progress with_reducible refine frm_mk ?_
    | split

theorem execInjectReorder_frm {id : Nat} (hm : Sub 141465518096 m) (hgood : Frm m s0 s) : OutFrm m s0 (execInjectReorder id s) := by
  unfold execInjectReorder
  try dsimp only
  repeat' first
    | with_reducible assumption
    | with_reducible refine outFrm_next ?_
    | with_reducible refine outFrm_ite ?_ ?_
    | with_reducible refine State.injDone_frm (hm.le (by decide)) ?_
    | with_reducible refine State.injectCmd_frm (hm.le (by decide)) ?_ (fun _ _ _ => ?_)
    | with_reducible refine State.linkInject_frm (hm.le (by decide)) ?_
    | with_reducible refine frm_ite ?_ ?_
    | fail_if_no_progress with_reducible refine frm_mk ?_
    | split

theorem execInjectTag_frm {id : Nat} (hm : Sub 141465518096 m) (hgood : Frm m s0 s) : OutFrm m s0 (execInjectTag id s) := by
  unfold execInjectTag
  try dsimp only
  repeat' first
    | with_reducible assumption
    | with_reducible refine outFrm_next ?_
    | with_reducible refine outFrm_ite ?_ ?_
    | with_reducible refine State.injDone_frm (hm.le (by decide)) ?_
    | with_reducible refine State.injectCmd_frm (hm.le (by decide)) ?_ (fun _ _ _ => ?_)
    | with_reducible refine State.linkInject_frm (hm.le (by decide)) ?_
    | with_reducible refine frm_ite ?_ ?_
    | fail_if_no_progress with_reducible refine frm_mk ?_
    | split

theorem State.badHeaders_frm {p : Nat} {lane : Nat} {n : Nat} (hm : Sub 268435456 m) (hgood : Frm m s0 s) : Frm m s0 (State.badHeaders s p lane n) := by
  unfold State.badHeaders
  try dsimp only
  repeat' first
    | with_reducible assumption
    | with_reducible refine State.updLink_frm (hm.le (by decide)) ?_
    | with_reducible refine frm_ite ?_ ?_
    | fail_if_no_progress with_reducible refine frm_mk ?_
    | split

theorem execInjectHeader_frm {id : Nat} (hm : Sub 141465518096 m) (hgood : Frm m s0 s) : OutFrm m s0 (execInjectHeader id s) := by
  unfold execInjectHeader
  try dsimp only
  repeat' first
    | with_reducible assumption
    | with_reducible refine outFrm_next ?_
    | with_reducible refine outFrm_ite ?_ ?_
    | with_reducible refine State.badHeaders_frm (hm.le (by decide)) ?_
    | with_reducible refine State.injDone_frm (hm.le (by decide)) ?_
    | with_reducible refine State.injLinkCount_frm (hm.le (by decide)) ?_
    | with_reducible refine State.injectCmd_frm (hm.le (by decide)) ?_ (fun _ _ _ => ?_)
    | with_reducible refine frm_ite ?_ ?_
    | fail_if_no_progress with_reducible refine frm_mk ?_
    | split

theorem execInjectSquelch_frm {id : Nat} (hm : Sub 2340220338192 m) (hgood : Frm m s0 s) : OutFrm m s0 (execInjectSquelch id s) := by
  unfold execInjectSquelch
  try dsimp only
  repeat' first
    | with_reducible assumption
    | with_reducible refine outFrm_next ?_
    | with_reducible refine outFrm_ite ?_ ?_
    | with_reducible refine State.injDone_frm (hm.le (by decide)) ?_
    | with_reducible refine State.injLinkCount_frm (hm.le (by decide)) ?_
    | with_reducible refine State.injectCmd_frm (hm.le (by decide)) ?_ (fun _ _ _ => ?_)
    | with_reducible refine frm_ite ?_ ?_
    | fail_if_no_progress with_reducible refine frm_mk ?_
    | split

theorem State.injCounted_frm {id : Nat} {target : Nat} {action : Nat} {value : Desc → Int} (hm : Sub 2340220338192 m) (hgood : Frm m s0 s) : OutFrm m s0 (State.injCounted s id target action value) := by
  unfold State.injCounted
  try dsimp only
  repeat' first
    | with_reducible assumption
    | with_reducible refine outFrm_next ?_
    | with_reducible refine outFrm_ite ?_ ?_
    | with_reducible refine State.injAdd_frm (hm.le (by decide)) ?_
    | with_reducible refine State.injDone_frm (hm.le (by decide)) ?_
    | with_reducible refine State.injectCmd_frm (hm.le (by decide)) ?_ (fun _ _ _ => ?_)
    | with_reducible refine frm_ite ?_ ?_
    | fail_if_no_progress with_reducible refine frm_mk ?_
    | split

theorem execInjectExcShort_frm {id : Nat} (hm : Sub 2340220338192 m) (hgood : Frm m s0 s) : OutFrm m s0 (execInjectExcShort id s) := by
  unfold execInjectExcShort
  try dsimp only
  repeat' first
    | with_reducible assumption
    | with_reducible refine outFrm_next ?_
    | with_reducible refine outFrm_ite ?_ ?_
    | with_reducible refine State.injCounted_frm (hm.le (by decide)) ?_
    | with_reducible refine frm_ite ?_ ?_
    | fail_if_no_progress with_reducible refine frm_mk ?_
    | split

theorem execInjectExcOpen_frm {id : Nat} (hm : Sub 2340220338192 m) (hgood : Frm m s0 s) : OutFrm m s0 (execInjectExcOpen id s) := by
  unfold execInjectExcOpen
  try dsimp only
  repeat' first
    | with_reducible assumption
    | with_reducible refine outFrm_next ?_
    | with_reducible refine outFrm_ite ?_ ?_
    | with_reducible refine State.injCounted_frm (hm.le (by decide)) ?_
    | with_reducible refine frm_ite ?_ ?_
    | fail_if_no_progress with_reducible refine frm_mk ?_
    | split

theorem execInjectExcReversed_frm {id : Nat} (hm : Sub 2340220338192 m) (hgood : Frm m s0 s) : OutFrm m s0 (execInjectExcReversed id s) := by
  unfold execInjectExcReversed
  try dsimp only
  repeat' first
    | with_reducible assumption
    | with_reducible refine outFrm_next ?_
    | with_reducible refine outFrm_ite ?_ ?_
    | with_reducible refine State.injCounted_frm (hm.le (by decide)) ?_
    | with_reducible refine frm_ite ?_ ?_
    | fail_if_no_progress with_reducible refine frm_mk ?_
    | split

theorem execInjectExcSenseOpen_frm {id : Nat} (hm : Sub 2340220338192 m) (hgood : Frm m s0 s) : OutFrm m s0 (execInjectExcSenseOpen id s) := by
  unfold execInjectExcSenseOpen
  try dsimp only
  repeat' first
    | with_reducible assumption
    | with_reducible refine outFrm_next ?_
    | with_reducible refine outFrm_ite ?_ ?_
    | with_reducible refine State.injCounted_frm (hm.le (by decide)) ?_
    | with_reducible refine frm_ite ?_ ?_
    | fail_if_no_progress with_reducible refine frm_mk ?_
    | split

theorem execInjectAinOpen_frm {id : Nat} (hm : Sub 2340220338192 m) (hgood : Frm m s0 s) : OutFrm m s0 (execInjectAinOpen id s) := by
  unfold execInjectAinOpen
  try dsimp only
  repeat' first
    | with_reducible assumption
    | with_reducible refine outFrm_next ?_
    | with_reducible refine outFrm_ite ?_ ?_
    | with_reducible refine State.injCounted_frm (hm.le (by decide)) ?_
    | with_reducible refine frm_ite ?_ ?_
    | fail_if_no_progress with_reducible refine frm_mk ?_
    | split

theorem execInjectAinOvervolt_frm {id : Nat} (hm : Sub 2340220338192 m) (hgood : Frm m s0 s) : OutFrm m s0 (execInjectAinOvervolt id s) := by
  unfold execInjectAinOvervolt
  try dsimp only
  repeat' first
    | with_reducible assumption
    | with_reducible refine outFrm_next ?_
    | with_reducible refine outFrm_ite ?_ ?_
    | with_reducible refine State.injCounted_frm (hm.le (by decide)) ?_
    | with_reducible refine frm_ite ?_ ?_
    | fail_if_no_progress with_reducible refine frm_mk ?_
    | split

theorem execInjectCnvRef_frm {id : Nat} (hm : Sub 2340220338192 m) (hgood : Frm m s0 s) : OutFrm m s0 (execInjectCnvRef id s) := by
  unfold execInjectCnvRef
  try dsimp only
  repeat' first
    | with_reducible assumption
    | with_reducible refine outFrm_next ?_
    | with_reducible refine outFrm_ite ?_ ?_
    | with_reducible refine State.injCounted_frm (hm.le (by decide)) ?_
    | with_reducible refine frm_ite ?_ ?_
    | fail_if_no_progress with_reducible refine frm_mk ?_
    | split

theorem execInjectCnvSupply_frm {id : Nat} (hm : Sub 2340220338192 m) (hgood : Frm m s0 s) : OutFrm m s0 (execInjectCnvSupply id s) := by
  unfold execInjectCnvSupply
  try dsimp only
  repeat' first
    | with_reducible assumption
    | with_reducible refine outFrm_next ?_
    | with_reducible refine outFrm_ite ?_ ?_
    | with_reducible refine State.injCounted_frm (hm.le (by decide)) ?_
    | with_reducible refine frm_ite ?_ ?_
    | fail_if_no_progress with_reducible refine frm_mk ?_
    | split

theorem execInjectCnvTemp_frm {id : Nat} (hm : Sub 2340220338192 m) (hgood : Frm m s0 s) : OutFrm m s0 (execInjectCnvTemp id s) := by
  unfold execInjectCnvTemp
  try dsimp only
  repeat' first
    | with_reducible assumption
    | with_reducible refine outFrm_next ?_
    | with_reducible refine outFrm_ite ?_ ?_
    | with_reducible refine State.injCounted_frm (hm.le (by decide)) ?_
    | with_reducible refine frm_ite ?_ ?_
    | fail_if_no_progress with_reducible refine frm_mk ?_
    | split

theorem execInjectCnvXchk_frm {id : Nat} (hm : Sub 2340220338192 m) (hgood : Frm m s0 s) : OutFrm m s0 (execInjectCnvXchk id s) := by
  unfold execInjectCnvXchk
  try dsimp only
  repeat' first
    | with_reducible assumption
    | with_reducible refine outFrm_next ?_
    | with_reducible refine outFrm_ite ?_ ?_
    | with_reducible refine State.injCounted_frm (hm.le (by decide)) ?_
    | with_reducible refine frm_ite ?_ ?_
    | fail_if_no_progress with_reducible refine frm_mk ?_
    | split

theorem execInjectCnvTimeout_frm {id : Nat} (hm : Sub 2340220338192 m) (hgood : Frm m s0 s) : OutFrm m s0 (execInjectCnvTimeout id s) := by
  unfold execInjectCnvTimeout
  try dsimp only
  repeat' first
    | with_reducible assumption
    | with_reducible refine outFrm_next ?_
    | with_reducible refine outFrm_ite ?_ ?_
    | with_reducible refine State.injCounted_frm (hm.le (by decide)) ?_
    | with_reducible refine frm_ite ?_ ?_
    | fail_if_no_progress with_reducible refine frm_mk ?_
    | split

theorem execInjectMemCorrectable_frm {id : Nat} (hm : Sub 2340220338192 m) (hgood : Frm m s0 s) : OutFrm m s0 (execInjectMemCorrectable id s) := by
  unfold execInjectMemCorrectable
  try dsimp only
  repeat' first
    | with_reducible assumption
    | with_reducible refine outFrm_next ?_
    | with_reducible refine outFrm_ite ?_ ?_
    | with_reducible refine State.injAdd_frm (hm.le (by decide)) ?_
    | with_reducible refine State.injDone_frm (hm.le (by decide)) ?_
    | with_reducible refine State.injectCmd_frm (hm.le (by decide)) ?_ (fun _ _ _ => ?_)
    | with_reducible refine frm_ite ?_ ?_
    | fail_if_no_progress with_reducible refine frm_mk ?_
    | split

theorem execInjectMemUncorrectable_frm {id : Nat} (hm : Sub 2340220338192 m) (hgood : Frm m s0 s) : OutFrm m s0 (execInjectMemUncorrectable id s) := by
  unfold execInjectMemUncorrectable
  try dsimp only
  repeat' first
    | with_reducible assumption
    | with_reducible refine outFrm_next ?_
    | with_reducible refine outFrm_ite ?_ ?_
    | with_reducible refine State.injAdd_frm (hm.le (by decide)) ?_
    | with_reducible refine State.injDone_frm (hm.le (by decide)) ?_
    | with_reducible refine State.injectCmd_frm (hm.le (by decide)) ?_ (fun _ _ _ => ?_)
    | with_reducible refine frm_ite ?_ ?_
    | fail_if_no_progress with_reducible refine frm_mk ?_
    | split

theorem execInjectHostDmaError_frm {id : Nat} (hm : Sub 2340220338192 m) (hgood : Frm m s0 s) : OutFrm m s0 (execInjectHostDmaError id s) := by
  unfold execInjectHostDmaError
  try dsimp only
  repeat' first
    | with_reducible assumption
    | with_reducible refine outFrm_next ?_
    | with_reducible refine outFrm_ite ?_ ?_
    | with_reducible refine State.injAdd_frm (hm.le (by decide)) ?_
    | with_reducible refine State.injDone_frm (hm.le (by decide)) ?_
    | with_reducible refine State.injectCmd_frm (hm.le (by decide)) ?_ (fun _ _ _ => ?_)
    | with_reducible refine frm_ite ?_ ?_
    | fail_if_no_progress with_reducible refine frm_mk ?_
    | split

theorem execInjectHostPostingHeld_frm {id : Nat} (hm : Sub 2340220338192 m) (hgood : Frm m s0 s) : OutFrm m s0 (execInjectHostPostingHeld id s) := by
  unfold execInjectHostPostingHeld
  try dsimp only
  repeat' first
    | with_reducible assumption
    | with_reducible refine outFrm_next ?_
    | with_reducible refine outFrm_ite ?_ ?_
    | with_reducible refine State.injDone_frm (hm.le (by decide)) ?_
    | with_reducible refine State.injTimed_frm (hm.le (by decide)) ?_
    | with_reducible refine State.injectCmd_frm (hm.le (by decide)) ?_ (fun _ _ _ => ?_)
    | with_reducible refine frm_ite ?_ ?_
    | fail_if_no_progress with_reducible refine frm_mk ?_
    | split

theorem execInjectEngineWatchdog_frm {id : Nat} (hm : Sub 15384036030488 m) (hgood : Frm m s0 s) : OutFrm m s0 (execInjectEngineWatchdog id s) := by
  unfold execInjectEngineWatchdog
  try dsimp only
  repeat' first
    | with_reducible assumption
    | with_reducible refine outFrm_next ?_
    | with_reducible refine outFrm_ite ?_ ?_
    | with_reducible refine State.bump_frm (hm.le (by decide)) ?_
    | with_reducible refine State.engineRestart_frm (hm.le (by decide)) ?_
    | with_reducible refine State.injDone_frm (hm.le (by decide)) ?_
    | with_reducible refine State.injectCmd_frm (hm.le (by decide)) ?_ (fun _ _ _ => ?_)
    | with_reducible refine State.underInj_frm (hm.le (by decide)) ?_ (fun _ _ => ?_)
    | with_reducible refine frm_ite ?_ ?_
    | fail_if_no_progress with_reducible refine frm_mk ?_
    | split

theorem execInjectFireflyTheta_frm {id : Nat} (hm : Sub 2340220338192 m) (hgood : Frm m s0 s) : OutFrm m s0 (execInjectFireflyTheta id s) := by
  unfold execInjectFireflyTheta
  try dsimp only
  repeat' first
    | with_reducible assumption
    | with_reducible refine outFrm_next ?_
    | with_reducible refine outFrm_ite ?_ ?_
    | with_reducible refine State.injAdd_frm (hm.le (by decide)) ?_
    | with_reducible refine State.injDone_frm (hm.le (by decide)) ?_
    | with_reducible refine State.injectCmd_frm (hm.le (by decide)) ?_ (fun _ _ _ => ?_)
    | with_reducible refine frm_ite ?_ ?_
    | fail_if_no_progress with_reducible refine frm_mk ?_
    | split

theorem execInjectFireflyInvalid_frm {id : Nat} (hm : Sub 2340220338192 m) (hgood : Frm m s0 s) : OutFrm m s0 (execInjectFireflyInvalid id s) := by
  unfold execInjectFireflyInvalid
  try dsimp only
  repeat' first
    | with_reducible assumption
    | with_reducible refine outFrm_next ?_
    | with_reducible refine outFrm_ite ?_ ?_
    | with_reducible refine State.injAdd_frm (hm.le (by decide)) ?_
    | with_reducible refine State.injDone_frm (hm.le (by decide)) ?_
    | with_reducible refine State.injectCmd_frm (hm.le (by decide)) ?_ (fun _ _ _ => ?_)
    | with_reducible refine frm_ite ?_ ?_
    | fail_if_no_progress with_reducible refine frm_mk ?_
    | split

theorem execInjectTwinSum_frm {id : Nat} (hm : Sub 2340220338192 m) (hgood : Frm m s0 s) : OutFrm m s0 (execInjectTwinSum id s) := by
  unfold execInjectTwinSum
  try dsimp only
  repeat' first
    | with_reducible assumption
    | with_reducible refine outFrm_next ?_
    | with_reducible refine outFrm_ite ?_ ?_
    | with_reducible refine State.injCounted_frm (hm.le (by decide)) ?_
    | with_reducible refine frm_ite ?_ ?_
    | fail_if_no_progress with_reducible refine frm_mk ?_
    | split

theorem execInjectTwinAliveStop_frm {id : Nat} (hm : Sub 2340220338192 m) (hgood : Frm m s0 s) : OutFrm m s0 (execInjectTwinAliveStop id s) := by
  unfold execInjectTwinAliveStop
  try dsimp only
  repeat' first
    | with_reducible assumption
    | with_reducible refine outFrm_next ?_
    | with_reducible refine outFrm_ite ?_ ?_
    | with_reducible refine State.injDone_frm (hm.le (by decide)) ?_
    | with_reducible refine State.injTimed_frm (hm.le (by decide)) ?_
    | with_reducible refine State.injectCmd_frm (hm.le (by decide)) ?_ (fun _ _ _ => ?_)
    | with_reducible refine frm_ite ?_ ?_
    | fail_if_no_progress with_reducible refine frm_mk ?_
    | split

theorem execInjectTwinHealthWithheld_frm {id : Nat} (hm : Sub 2340220338192 m) (hgood : Frm m s0 s) : OutFrm m s0 (execInjectTwinHealthWithheld id s) := by
  unfold execInjectTwinHealthWithheld
  try dsimp only
  repeat' first
    | with_reducible assumption
    | with_reducible refine outFrm_next ?_
    | with_reducible refine outFrm_ite ?_ ?_
    | with_reducible refine State.injDone_frm (hm.le (by decide)) ?_
    | with_reducible refine State.injTimed_frm (hm.le (by decide)) ?_
    | with_reducible refine State.injectCmd_frm (hm.le (by decide)) ?_ (fun _ _ _ => ?_)
    | with_reducible refine frm_ite ?_ ?_
    | fail_if_no_progress with_reducible refine frm_mk ?_
    | split

theorem execInjectPumpSag_frm {id : Nat} (hm : Sub 2340220338192 m) (hgood : Frm m s0 s) : OutFrm m s0 (execInjectPumpSag id s) := by
  unfold execInjectPumpSag
  try dsimp only
  repeat' first
    | with_reducible assumption
    | with_reducible refine outFrm_next ?_
    | with_reducible refine outFrm_ite ?_ ?_
    | with_reducible refine State.injDone_frm (hm.le (by decide)) ?_
    | with_reducible refine State.injTimed_frm (hm.le (by decide)) ?_
    | with_reducible refine State.injectCmd_frm (hm.le (by decide)) ?_ (fun _ _ _ => ?_)
    | with_reducible refine frm_ite ?_ ?_
    | fail_if_no_progress with_reducible refine frm_mk ?_
    | split

theorem execInjectFatal_frm {id : Nat} (hm : Sub 8413620963376 m) (hgood : Frm m s0 s) : OutFrm m s0 (execInjectFatal id s) := by
  unfold execInjectFatal
  try dsimp only
  repeat' first
    | with_reducible assumption
    | with_reducible refine outFrm_next ?_
    | with_reducible refine outFrm_ite ?_ ?_
    | with_reducible refine State.bump_frm (hm.le (by decide)) ?_
    | with_reducible refine State.injDone_frm (hm.le (by decide)) ?_
    | with_reducible refine State.injectCmd_frm (hm.le (by decide)) ?_ (fun _ _ _ => ?_)
    | with_reducible refine State.unitFatal_frm (hm.le (by decide)) ?_
    | with_reducible refine frm_ite ?_ ?_
    | fail_if_no_progress with_reducible refine frm_mk ?_
    | split

theorem execInjectionDurationEnd_frm {target : Nat} (hm : Sub 2201707642897 m) (hgood : Frm m s0 s) : OutFrm m s0 (execInjectionDurationEnd target s) := by
  unfold execInjectionDurationEnd
  try dsimp only
  repeat' first
    | with_reducible assumption
    | with_reducible refine outFrm_next ?_
    | with_reducible refine outFrm_ite ?_ ?_
    | with_reducible refine State.postAll_frm (hm.le (by decide)) ?_
    | with_reducible refine State.reachUp_frm (hm.le (by decide)) ?_
    | with_reducible refine frm_ite ?_ ?_
    | fail_if_no_progress with_reducible refine frm_mk ?_
    | split

theorem Out.state_frm {x : Out} {t : State} (h : OutFrm m s0 x) : Frm m s0 (Out.state x t) := by
  obtain ⟨u, rfl, hu⟩ := h
  exact hu

theorem State.clearSticky_frm {a : Nat} {v : W32} (hm : Sub 2064 m) (hgood : Frm m s0 s) : Frm m s0 (State.clearSticky s a v) := by
  unfold State.clearSticky
  try dsimp only
  repeat' first
    | with_reducible assumption
    | with_reducible refine State.doIf_frm ?_ ?_
    | with_reducible refine State.rearm_frm (hm.le (by decide)) ?_
    | with_reducible refine State.setReg_frm (hm.le (by decide)) ?_
    | with_reducible refine frm_ite ?_ ?_
    | fail_if_no_progress with_reducible refine frm_mk ?_
    | split

theorem State.writeSq_frm {r : Fin 64} {off : Nat} {v : W32} (hm : Sub 1322629758992 m) (hgood : Frm m s0 s) : Frm m s0 (State.writeSq s r off v) := by
  unfold State.writeSq
  try dsimp only
  repeat' first
    | with_reducible assumption
    | with_reducible refine Out.state_frm ?_
    | with_reducible refine State.bump_frm (hm.le (by decide)) ?_
    | with_reducible refine State.setReg_frm (hm.le (by decide)) ?_
    | with_reducible refine execSqDisable_frm (hm.le (by decide)) ?_
    | with_reducible refine execSqEnable_frm (hm.le (by decide)) ?_
    | with_reducible refine frm_ite ?_ ?_
    | fail_if_no_progress with_reducible refine frm_mk ?_
    | split

theorem State.writeCq_frm {q : Fin 64} {off : Nat} {v : W32} (hm : Sub 2684387344 m) (hgood : Frm m s0 s) : Frm m s0 (State.writeCq s q off v) := by
  unfold State.writeCq
  try dsimp only
  repeat' first
    | with_reducible assumption
    | with_reducible refine Out.state_frm ?_
    | with_reducible refine State.bump_frm (hm.le (by decide)) ?_
    | with_reducible refine State.setReg_frm (hm.le (by decide)) ?_
    | with_reducible refine execCqDisable_frm (hm.le (by decide)) ?_
    | with_reducible refine execCqEnable_frm (hm.le (by decide)) ?_
    | with_reducible refine frm_ite ?_ ?_
    | fail_if_no_progress with_reducible refine frm_mk ?_
    | split

theorem State.writeMsix_frm {a : Nat} {v : W32} (hm : Sub 536870928 m) (hgood : Frm m s0 s) : Frm m s0 (State.writeMsix s a v) := by
  unfold State.writeMsix
  try dsimp only
  repeat' first
    | with_reducible assumption
    | with_reducible refine State.msixPending_frm (hm.le (by decide)) ?_
    | with_reducible refine State.setReg_frm (hm.le (by decide)) ?_
    | with_reducible refine frm_ite ?_ ?_
    | fail_if_no_progress with_reducible refine frm_mk ?_
    | split

theorem State.writeAct_frm {path : Path} {a : Nat} {v : W32} (hm : Sub 17592186044413 m) (hgood : Frm m s0 s) : Frm m s0 (State.writeAct s path a v) := by
  unfold State.writeAct
  try dsimp only
  repeat' first
    | with_reducible assumption
    | with_reducible refine Out.state_frm ?_
    | with_reducible refine State.doIf_frm ?_ ?_
    | with_reducible refine State.hibAsk_frm (hm.le (by decide)) ?_
    | with_reducible refine State.reqGo_frm (hm.le (by decide)) ?_
    | with_reducible refine State.wakeFire_frm (hm.le (by decide)) ?_
    | with_reducible refine execErrlogPop_frm (hm.le (by decide)) ?_
    | with_reducible refine execFfSetGo_frm (hm.le (by decide)) ?_
    | with_reducible refine execHubCtrl_frm (hm.le (by decide)) ?_
    | with_reducible refine execMantisForce_frm (hm.le (by decide)) ?_
    | with_reducible refine execOwTestStart_frm (hm.le (by decide)) ?_
    | with_reducible refine execPinOutClr_frm (hm.le (by decide)) ?_
    | with_reducible refine execPinOutSet_frm (hm.le (by decide)) ?_
    | with_reducible refine execRetrain_frm (hm.le (by decide)) ?_
    | with_reducible refine execStreamFlush_frm (hm.le (by decide)) ?_
    | with_reducible refine execTracePop_frm (hm.le (by decide)) ?_
    | with_reducible refine execTxtsPop_frm (hm.le (by decide)) ?_
    | with_reducible refine frm_ite ?_ ?_
    | fail_if_no_progress with_reducible refine frm_mk ?_
    | split

theorem State.writeReg_frm {path : Path} {a : Nat} {v : W32} (hm : Sub 17592186044413 m) (hgood : Frm m s0 s) : Frm m s0 (State.writeReg s path a v) := by
  unfold State.writeReg
  try dsimp only
  repeat' first
    | with_reducible assumption
    | with_reducible refine State.bump_frm (hm.le (by decide)) ?_
    | with_reducible refine State.clearSticky_frm (hm.le (by decide)) ?_
    | with_reducible refine State.doIf_frm ?_ ?_
    | with_reducible refine State.setReg_frm (hm.le (by decide)) ?_
    | with_reducible refine State.writeAct_frm (hm.le (by decide)) ?_
    | with_reducible refine State.writeCq_frm (hm.le (by decide)) ?_
    | with_reducible refine State.writeMsix_frm (hm.le (by decide)) ?_
    | with_reducible refine State.writeSq_frm (hm.le (by decide)) ?_
    | with_reducible refine frm_ite ?_ ?_
    | fail_if_no_progress with_reducible refine frm_mk ?_
    | split

theorem State.writeRegs_frm {path : Path} {ws : List W32} (hm : Sub 17592186044413 m) : ∀ {s : State} {a : Nat}, Frm m s0 s → Frm m s0 (s.writeRegs path a ws) := by
  induction ws with
  | nil => intro s a h; exact h
  | cons w ws ih => intro s a h; exact ih (State.writeReg_frm (hm.le (by decide)) h)

theorem State.readEffect_frm {a : Nat} (hm : Sub 16777216 m) (hgood : Frm m s0 s) : Frm m s0 (State.readEffect s a) := by
  unfold State.readEffect
  try dsimp only
  repeat' first
    | with_reducible assumption
    | with_reducible refine frm_ite ?_ ?_
    | fail_if_no_progress with_reducible refine frm_mk ?_
    | split

theorem State.readEffects_frm {n : Nat} (hm : Sub 16777216 m) : ∀ {a : Nat} {s : State}, Frm m s0 s → Frm m s0 (State.readEffects n a s) := by
  induction n with
  | zero => intro a s h; exact h
  | succ n ih => intro a s h; exact ih (State.readEffect_frm (hm.le (by decide)) h)

theorem State.accessDenied_frm {kind : Nat} {r : RegRequest} (hm : Sub 1649804312592 m) (hgood : Frm m s0 s) : Frm m s0 (State.accessDenied s kind r) := by
  unfold State.accessDenied
  try dsimp only
  repeat' first
    | with_reducible assumption
    | with_reducible refine State.bump_frm (hm.le (by decide)) ?_
    | with_reducible refine State.setBitRaise_frm (hm.le (by decide)) ?_
    | with_reducible refine State.setReg_frm (hm.le (by decide)) ?_
    | with_reducible refine frm_ite ?_ ?_
    | fail_if_no_progress with_reducible refine frm_mk ?_
    | split

theorem execRegisterWrite_frm {r : RegRequest} (hm : Sub 17592186044413 m) (hgood : Frm m s0 s) : OutFrm m s0 (execRegisterWrite r s) := by
  unfold execRegisterWrite
  try dsimp only
  repeat' first
    | with_reducible assumption
    | with_reducible refine outFrm_next ?_
    | with_reducible refine outFrm_ite ?_ ?_
    | with_reducible refine State.accessDenied_frm (hm.le (by decide)) ?_
    | with_reducible refine State.coreNeed_frm (hm.le (by decide)) ?_
    | with_reducible refine State.writeRegs_frm (hm.le (by decide)) ?_
    | with_reducible refine frm_ite ?_ ?_
    | fail_if_no_progress with_reducible refine frm_mk ?_
    | split

theorem execUnalignedRead_frm {r : RegRequest} (hm : Sub 10514633588753 m) (hgood : Frm m s0 s) : OutFrm m s0 (execUnalignedRead r s) := by
  unfold execUnalignedRead
  try dsimp only
  repeat' first
    | with_reducible assumption
    | with_reducible refine outFrm_next ?_
    | with_reducible refine outFrm_ite ?_ ?_
    | with_reducible refine State.accessDenied_frm (hm.le (by decide)) ?_
    | with_reducible refine State.coreNeed_frm (hm.le (by decide)) ?_
    | with_reducible refine State.readEffects_frm (hm.le (by decide)) ?_
    | with_reducible refine execFfNowRead_frm (hm.le (by decide)) ?_
    | with_reducible refine frm_ite ?_ ?_
    | fail_if_no_progress with_reducible refine frm_mk ?_
    | split

theorem State.sbAnswer_frm {f : SbFrame} {result : Nat} {data : List W32} (hm : Sub 137438953472 m) (hgood : Frm m s0 s) : Frm m s0 (State.sbAnswer s f result data) := by
  unfold State.sbAnswer
  try dsimp only
  repeat' first
    | with_reducible assumption
    | with_reducible refine frm_ite ?_ ?_
    | fail_if_no_progress with_reducible refine frm_mk ?_
    | split

theorem State.sbReject_frm {f : SbFrame} {result : Nat} (hm : Sub 137438953488 m) (hgood : Frm m s0 s) : Frm m s0 (State.sbReject s f result) := by
  unfold State.sbReject
  try dsimp only
  repeat' first
    | with_reducible assumption
    | with_reducible refine State.bump_frm (hm.le (by decide)) ?_
    | with_reducible refine State.sbAnswer_frm (hm.le (by decide)) ?_
    | with_reducible refine State.setBit_frm (hm.le (by decide)) ?_
    | with_reducible refine frm_ite ?_ ?_
    | fail_if_no_progress with_reducible refine frm_mk ?_
    | split

theorem State.sbAccept_frm {f : SbFrame} (hm : Sub 34359738368 m) (hgood : Frm m s0 s) : Frm m s0 (State.sbAccept s f) := by
  unfold State.sbAccept
  try dsimp only
  repeat' first
    | with_reducible assumption
    | with_reducible refine frm_ite ?_ ?_
    | fail_if_no_progress with_reducible refine frm_mk ?_
    | split

theorem State.sbTake_frm {f : SbFrame} {run : State → State × List W32} (hm : Sub 9036611190801 m) (hgood : Frm m s0 s) (hf : ∀ t, Frm m s0 t → Frm m s0 (run t).1) : Frm m s0 (s.sbTake f run) := by
  unfold State.sbTake
  dsimp only
  split
  · exact hgood
  · split
    · exact State.sbReject_frm (hm.le (by decide)) hgood
    · exact State.sbAnswer_frm (hm.le (by decide)) (hf _ (State.sbAccept_frm (hm.le (by decide)) (State.coreNeed_frm (hm.le (by decide)) hgood)))

theorem sbReadWords_frm {n : Nat} (hm : Sub 16777216 m) : ∀ {a : Nat} {s : State}, Frm m s0 s → Frm m s0 (sbReadWords n a s).1 := by
  induction n with
  | zero => intro a s h; exact h
  | succ n ih =>
    intro a s h
    unfold sbReadWords
    split
    · exact ih h
    · exact ih (State.readEffect_frm (hm.le (by decide)) h)

theorem sbWriteWords_frm {ws : List W32} (hm : Sub 17592186044413 m) : ∀ {a : Nat} {s : State}, Frm m s0 s → Frm m s0 (sbWriteWords ws a s) := by
  induction ws with
  | nil => intro a s h; exact h
  | cons w ws ih =>
    intro a s h
    refine ih ?_
    split
    · exact h
    · exact State.writeReg_frm (hm.le (by decide)) h

theorem execSbNop_frm {f : SbFrame} (hm : Sub 9036611190801 m) (hgood : Frm m s0 s) : OutFrm m s0 (execSbNop f s) := by
  unfold execSbNop
  try dsimp only
  repeat' first
    | with_reducible assumption
    | with_reducible refine outFrm_next ?_
    | with_reducible refine outFrm_ite ?_ ?_
    | with_reducible refine State.sbTake_frm (hm.le (by decide)) ?_ (fun _ _ => ?_)
    | with_reducible refine frm_ite ?_ ?_
    | fail_if_no_progress with_reducible refine frm_mk ?_
    | split

theorem execSbRead_frm {f : SbFrame} (hm : Sub 9036627968017 m) (hgood : Frm m s0 s) : OutFrm m s0 (execSbRead f s) := by
  unfold execSbRead
  try dsimp only
  repeat' first
    | with_reducible assumption
    | with_reducible refine outFrm_next ?_
    | with_reducible refine outFrm_ite ?_ ?_
    | with_reducible refine State.sbTake_frm (hm.le (by decide)) ?_ (fun _ _ => ?_)
    | with_reducible refine sbReadWords_frm (hm.le (by decide)) ?_
    | with_reducible refine frm_ite ?_ ?_
    | fail_if_no_progress with_reducible refine frm_mk ?_
    | split

theorem execSbWrite_frm {f : SbFrame} (hm : Sub 17592186044413 m) (hgood : Frm m s0 s) : OutFrm m s0 (execSbWrite f s) := by
  unfold execSbWrite
  try dsimp only
  repeat' first
    | with_reducible assumption
    | with_reducible refine outFrm_next ?_
    | with_reducible refine outFrm_ite ?_ ?_
    | with_reducible refine State.sbTake_frm (hm.le (by decide)) ?_ (fun _ _ => ?_)
    | with_reducible refine sbWriteWords_frm (hm.le (by decide)) ?_
    | with_reducible refine frm_ite ?_ ?_
    | fail_if_no_progress with_reducible refine frm_mk ?_
    | split

theorem State.sbDescTake_frm {data : List W32} (hm : Sub 141197082640 m) (hgood : Frm m s0 s) : Frm m s0 (State.sbDescTake s data) := by
  unfold State.sbDescTake
  try dsimp only
  repeat' first
    | with_reducible assumption
    | with_reducible refine State.enlist_frm (hm.le (by decide)) ?_
    | with_reducible refine State.take_frm (hm.le (by decide)) ?_
    | with_reducible refine frm_ite ?_ ?_
    | fail_if_no_progress with_reducible refine frm_mk ?_
    | split

theorem execSbDesc_frm {f : SbFrame} (hm : Sub 9040369319953 m) (hgood : Frm m s0 s) : OutFrm m s0 (execSbDesc f s) := by
  unfold execSbDesc
  try dsimp only
  repeat' first
    | with_reducible assumption
    | with_reducible refine outFrm_next ?_
    | with_reducible refine outFrm_ite ?_ ?_
    | with_reducible refine State.sbDescTake_frm (hm.le (by decide)) ?_
    | with_reducible refine State.sbTake_frm (hm.le (by decide)) ?_ (fun _ _ => ?_)
    | with_reducible refine frm_ite ?_ ?_
    | fail_if_no_progress with_reducible refine frm_mk ?_
    | split

theorem State.sbSvreqTake_frm {f : SbFrame} (hm : Sub 171798691856 m) (hgood : Frm m s0 s) : Frm m s0 (State.sbSvreqTake s f) := by
  unfold State.sbSvreqTake
  try dsimp only
  repeat' first
    | with_reducible assumption
    | with_reducible refine State.reqArrive_frm (hm.le (by decide)) ?_
    | with_reducible refine frm_ite ?_ ?_
    | fail_if_no_progress with_reducible refine frm_mk ?_
    | split

theorem execSbSvreq_frm {f : SbFrame} (hm : Sub 9036611190801 m) (hgood : Frm m s0 s) : OutFrm m s0 (execSbSvreq f s) := by
  unfold execSbSvreq
  try dsimp only
  repeat' first
    | with_reducible assumption
    | with_reducible refine outFrm_next ?_
    | with_reducible refine outFrm_ite ?_ ?_
    | with_reducible refine State.sbSvreqTake_frm (hm.le (by decide)) ?_
    | with_reducible refine State.sbTake_frm (hm.le (by decide)) ?_ (fun _ _ => ?_)
    | with_reducible refine frm_ite ?_ ?_
    | fail_if_no_progress with_reducible refine frm_mk ?_
    | split

theorem execSbMalformedFrame_frm {f : SbFrame} (hm : Sub 137438953488 m) (hgood : Frm m s0 s) : OutFrm m s0 (execSbMalformedFrame f s) := by
  unfold execSbMalformedFrame
  try dsimp only
  repeat' first
    | with_reducible assumption
    | with_reducible refine outFrm_next ?_
    | with_reducible refine outFrm_ite ?_ ?_
    | with_reducible refine State.sbReject_frm (hm.le (by decide)) ?_
    | with_reducible refine frm_ite ?_ ?_
    | fail_if_no_progress with_reducible refine frm_mk ?_
    | split

end Sys2Proof.Machine
end

