-- ==== Sys2Proof/Laws/Store.lean ====
section
/-! SUPPORT. Laws of the sparse stores: what a write leaves at every index, that the canonical form holds after it, and that stores in canonical form that read alike are equal. -/

namespace Sys2Proof.Machine

open Sys2Proof

set_option Elab.async false

variable {α : Type} [DecidableEq α] {d : Nat → α}

theorem Cells.wfFrom_mono {m : Cells α} {lo lo' : Nat} (h : lo' ≤ lo) (hw : Cells.wfFrom d lo m = true) : Cells.wfFrom d lo' m = true := by
  cases m with
  | nil => rfl
  | cons e rest =>
    simp only [Cells.wfFrom, Bool.and_eq_true, decide_eq_true_eq] at hw ⊢
    exact ⟨⟨by omega, hw.1.2⟩, hw.2⟩

/-- Indices below the bound of a store in canonical form read as unlisted. -/
theorem Cells.get_below {m : Cells α} {lo a : Nat} (h : a < lo) (hw : Cells.wfFrom d lo m = true) : Cells.get d m a = d a := by
  induction m generalizing lo with
  | nil => rfl
  | cons e rest ih =>
    simp only [Cells.wfFrom, Bool.and_eq_true, decide_eq_true_eq] at hw
    rw [Cells.get, if_neg (by omega)]
    exact ih (by omega) hw.2

theorem Cells.put_wf {rest : Cells α} {lo a : Nat} {v : α} (h : lo ≤ a) (hw : Cells.wfFrom d (a + 1) rest = true) :
    Cells.wfFrom d lo (Cells.put d a v rest) = true := by
  unfold Cells.put
  split
  · exact Cells.wfFrom_mono (by omega) hw
  · rename_i hv
    simp [Cells.wfFrom, hw, hv, h]

/-- A write keeps the canonical form. -/
theorem Cells.set_wfFrom {m : Cells α} {lo a : Nat} {v : α} (h : lo ≤ a) (hw : Cells.wfFrom d lo m = true) :
    Cells.wfFrom d lo (Cells.set d m a v) = true := by
  induction m generalizing lo with
  | nil => exact Cells.put_wf h rfl
  | cons e rest ih =>
    have hw' := hw
    simp only [Cells.wfFrom, Bool.and_eq_true, decide_eq_true_eq] at hw'
    unfold Cells.set
    split
    · refine Cells.put_wf h ?_
      simp only [Cells.wfFrom, Bool.and_eq_true, decide_eq_true_eq]
      exact ⟨⟨by omega, hw'.1.2⟩, hw'.2⟩
    · split
      · rename_i h1 h2
        subst h2
        exact Cells.put_wf h hw'.2
      · simp only [Cells.wfFrom, Bool.and_eq_true, decide_eq_true_eq]
        exact ⟨hw'.1, ih (by omega) hw'.2⟩

/-- A write keeps the canonical form. -/
theorem Cells.set_wf {m : Cells α} {a : Nat} {v : α} (hw : Cells.wf d m = true) : Cells.wf d (Cells.set d m a v) = true :=
  Cells.set_wfFrom (Nat.zero_le a) hw

theorem Cells.get_put_self {rest : Cells α} {a : Nat} {v : α} (h : Cells.get d rest a = d a) : Cells.get d (Cells.put d a v rest) a = v := by
  unfold Cells.put
  split
  · rename_i hv
    rw [h, hv]
  · simp [Cells.get]

theorem Cells.get_put_other {rest : Cells α} {a b : Nat} {v : α} (h : b ≠ a) : Cells.get d (Cells.put d a v rest) b = Cells.get d rest b := by
  unfold Cells.put
  split
  · rfl
  · simp [Cells.get, Ne.symm h]

/-- A write is read back, in a store in canonical form. -/
theorem Cells.get_set_self {m : Cells α} {lo a : Nat} {v : α} (hw : Cells.wfFrom d lo m = true) : Cells.get d (Cells.set d m a v) a = v := by
  induction m generalizing lo with
  | nil => exact Cells.get_put_self rfl
  | cons e rest ih =>
    simp only [Cells.wfFrom, Bool.and_eq_true, decide_eq_true_eq] at hw
    unfold Cells.set
    split
    · rename_i h1
      refine Cells.get_put_self ?_
      rw [Cells.get, if_neg (by omega)]
      exact Cells.get_below (by omega) hw.2
    · split
      · rename_i h1 h2
        subst h2
        exact Cells.get_put_self (Cells.get_below (by omega) hw.2)
      · rename_i h1 h2
        rw [Cells.get, if_neg (by omega)]
        exact ih hw.2

/-- A write leaves every other index alone. -/
theorem Cells.get_set_other {m : Cells α} {a b : Nat} {v : α} (h : b ≠ a) : Cells.get d (Cells.set d m a v) b = Cells.get d m b := by
  induction m with
  | nil => exact Cells.get_put_other h
  | cons e rest ih =>
    unfold Cells.set
    split
    · exact Cells.get_put_other h
    · split
      · rename_i h1 h2
        subst h2
        rw [Cells.get_put_other h, Cells.get, if_neg (Ne.symm h)]
      · simp only [Cells.get, ih]

/-- A write of an index in a store in canonical form, read anywhere. -/
theorem Cells.get_set {m : Cells α} {a b : Nat} {v : α} (hw : Cells.wf d m = true) :
    Cells.get d (Cells.set d m a v) b = if b = a then v else Cells.get d m b := by
  split
  · rename_i h
    subst h
    exact Cells.get_set_self hw
  · rename_i h
    exact Cells.get_set_other h

/-- Dropping entries keeps the canonical form. -/
theorem Cells.filter_wfFrom {p : Nat × α → Bool} {m : Cells α} : ∀ {lo : Nat}, Cells.wfFrom d lo m = true → Cells.wfFrom d lo (m.filter p) = true := by
  induction m with
  | nil => intro lo _; rfl
  | cons e rest ih =>
    intro lo h
    simp only [Cells.wfFrom, Bool.and_eq_true, decide_eq_true_eq] at h
    simp only [List.filter]
    split
    · simp only [Cells.wfFrom, Bool.and_eq_true, decide_eq_true_eq]
      exact ⟨h.1, ih h.2⟩
    · exact Cells.wfFrom_mono (by omega) (ih h.2)

/-- Dropping entries keeps the canonical form. -/
theorem Cells.filter_wf {p : Nat × α → Bool} {m : Cells α} (h : Cells.wf d m = true) : Cells.wf d (m.filter p) = true := Cells.filter_wfFrom h

theorem Memory.write_wf {m : List Host.Cell} {a : Nat} {b : Byte} (h : Memory.wf m = true) : Memory.wf (Memory.write m a b) = true :=
  Cells.set_wf h

/-- A run of byte writes keeps the canonical form. -/
theorem Memory.writeN_wf {bs : List Byte} : ∀ {m : List Host.Cell} {a : Nat}, Memory.wf m = true → Memory.wf (Memory.writeN m a bs) = true := by
  induction bs with
  | nil => intro m a h; exact h
  | cons b bs ih => intro m a h; exact ih (Memory.write_wf h)

/-- A run of byte writes that does not pass the top of the address space leaves every address outside it alone. -/
theorem Memory.read_writeN_other {bs : List Byte} : ∀ {m : List Host.Cell} {a x : Nat}, (x < a ∨ a + bs.length ≤ x) → a + bs.length ≤ 18446744073709551616 →
    Memory.read (Memory.writeN m a bs) x = Memory.read m x := by
  induction bs with
  | nil => intro m a x _ _; rfl
  | cons b bs ih =>
    intro m a x h htop
    simp only [List.length_cons] at h htop
    rw [Memory.writeN, ih (by omega) (by omega)]
    unfold Memory.read Memory.write
    exact Cells.get_set_other (by rw [Nat.mod_eq_of_lt (by omega)]; omega)

end Sys2Proof.Machine
end

