-- ==== Sys2Proof/Laws/GoodBase.lean ====
section
/-! SUPPORT. What every operation of the model keeps, said once per operation: the part's one-time-programmable memory and the queue of waiting commands stay as they are, every store stays canonical, and the stores of fixed size stay within it. -/

namespace Sys2Proof.Machine

open Sys2Proof

/-- A state with a given OTP and queue that meets the invariant of Safety.lean. -/
structure Good (O : OtpSt) (Q : List Instr) (s : State) : Prop where
  otp : s.otp = O
  pending : s.pending = Q
  regs : Cells.wf resetWord s.regs = true
  grp : Cells.wf (fun _ => GroupSt.init) s.grp = true
  edge : Cells.wf (fun _ => EdgeSample.none) s.edge = true
  core : Cells.wf (fun _ => CoreSt.init) s.core = true
  pair : Cells.wf (fun _ => CheckSt.init) s.pair = true
  res : Cells.wf (fun _ => (none : Option ResultSt)) s.res = true
  ain : Cells.wf (fun _ => InputSt.init) s.ain = true
  exc : Cells.wf (fun _ => ExcSt.init) s.exc = true
  flt : Cells.wf (fun _ => StageSt.init) s.flt = true
  strm : Cells.wf (fun _ => StreamSt.init) s.strm = true
  hiveLost : Cells.wf (fun _ => ([] : List (Nat × Tq))) s.hiveLost = true
  stats : Cells.wf (fun _ => StatCh.init) s.stats = true
  cond : Cells.wf (fun _ => CondSt.init) s.cond = true
  trig : Cells.wf (fun _ => TrigSt.init) s.trig = true
  cap : Cells.wf (fun _ => CapSt.init) s.cap = true
  ffPort : Cells.wf (fun _ => FfPortSt.init) s.ffPort = true
  txts : Cells.wf (fun _ => TxtsSt.init) s.txts = true
  pulse : Cells.wf (fun _ => PulseSt.init) s.pulse = true
  link : Cells.wf (fun _ => LinkSt.init) s.link = true
  sq : Cells.wf (fun _ => SqSt.init) s.sq = true
  cq : Cells.wf (fun _ => CqSt.init) s.cq = true
  mem : Memory.wf s.host.mem = true
  log : s.log.records.length ≤ 512
  trace : s.trace.entries.length ≤ 4096
  lanes : s.comp.lanes.length = 4

variable {O : OtpSt} {Q : List Instr} {s : State}

theorem Good.wf (h : Good O Q s) : s.wf = true := by
  simp [State.wf, State.storesWf, State.sizesOk, h.regs, h.grp, h.edge, h.core, h.pair, h.res, h.ain, h.exc, h.flt, h.strm, h.hiveLost, h.stats, h.cond, h.trig, h.cap, h.ffPort, h.txts, h.pulse, h.link, h.sq, h.cq, h.mem, h.log, h.trace, h.lanes]

theorem good_of_wf (h : s.wf = true) : Good s.otp s.pending s := by
  simp only [State.wf, State.storesWf, State.sizesOk, Bool.and_eq_true, decide_eq_true_eq] at h
  constructor <;> first | rfl | (simp only [h])

/-- An update that leaves the critical parts alone. -/
theorem good_mk {tm' : TimeSt} {pads' : PadSt} {boot' : BootSt} {pump' : PumpSt} {mains' : MainsSt} {hive' : List HiveFrame} {mantis' : MantisSt} {comp' : CompSt} {ff' : FfSt} {host' : HostSt} {cfg' : CfgSt} {twin' : TwinSt} {vault' : VaultSt} {sv' : SvSt} {pwr' : PwrSt} {sb' : SbSt} {flash' : FlashSt} {trace' : TraceSt} {log' : LogSt} {inj' : List Injection} {injectedNow' : Bool} {freeCtr' : Nat} (h : Good O Q s) (hm : host'.mem = s.host.mem) (hl : log'.records = s.log.records)
    (ht : trace'.entries = s.trace.entries) (hc : comp'.lanes.length = s.comp.lanes.length) :
    Good O Q (State.mk tm' s.otp pads' boot' s.regs s.grp s.edge s.core s.pair s.res s.ain s.exc pump' s.flt mains' s.strm hive' s.hiveLost s.stats s.cond s.trig s.cap mantis' comp' ff' s.ffPort s.txts s.pulse s.link host' s.sq s.cq cfg' twin' vault' sv' pwr' sb' flash' trace' log' inj' injectedNow' freeCtr' s.pending) :=
  { h with mem := by rw [hm]; exact h.mem, log := by rw [hl]; exact h.log, trace := by rw [ht]; exact h.trace, lanes := by rw [hc]; exact h.lanes }

/-- The same as a rewriting rule. -/
theorem good_mk_eq {tm' : TimeSt} {pads' : PadSt} {boot' : BootSt} {pump' : PumpSt} {mains' : MainsSt} {hive' : List HiveFrame} {mantis' : MantisSt} {comp' : CompSt} {ff' : FfSt} {host' : HostSt} {cfg' : CfgSt} {twin' : TwinSt} {vault' : VaultSt} {sv' : SvSt} {pwr' : PwrSt} {sb' : SbSt} {flash' : FlashSt} {trace' : TraceSt} {log' : LogSt} {inj' : List Injection} {injectedNow' : Bool} {freeCtr' : Nat} (hm : host'.mem = s.host.mem) (hl : log'.records = s.log.records)
    (ht : trace'.entries = s.trace.entries) (hc : comp'.lanes.length = s.comp.lanes.length) :
    Good O Q (State.mk tm' s.otp pads' boot' s.regs s.grp s.edge s.core s.pair s.res s.ain s.exc pump' s.flt mains' s.strm hive' s.hiveLost s.stats s.cond s.trig s.cap mantis' comp' ff' s.ffPort s.txts s.pulse s.link host' s.sq s.cq cfg' twin' vault' sv' pwr' sb' flash' trace' log' inj' injectedNow' freeCtr' s.pending) = Good O Q s :=
  propext ⟨fun h => { h with mem := by rw [← hm]; exact h.mem, log := by rw [← hl]; exact h.log, trace := by rw [← ht]; exact h.trace, lanes := by rw [← hc]; exact h.lanes },
    fun h => good_mk h hm hl ht hc⟩

theorem good_ite {c : Prop} [Decidable c] {a b : State} (ha : Good O Q a) (hb : Good O Q b) : Good O Q (if c then a else b) := by
  split <;> assumption

theorem State.doIf_good {c : Bool} {f : State → State} (h : Good O Q s) (hf : Good O Q (f s)) : Good O Q (s.doIf c f) := by
  unfold State.doIf
  split <;> assumption

theorem good_foldl {α : Type} {f : State → α → State} (xs : List α) (hf : ∀ x t, Good O Q t → Good O Q (f t x)) :
    ∀ {t}, Good O Q t → Good O Q (xs.foldl f t) := by
  induction xs with
  | nil => intro t h; exact h
  | cons x xs ih => intro t h; exact ih (hf x t h)

theorem State.each_good {α : Type} {xs : List α} {f : α → State → State} (h : Good O Q s) (hf : ∀ x t, Good O Q t → Good O Q (f x t)) :
    Good O Q (s.each xs f) := good_foldl xs hf h

/-- An outcome is a next state that keeps the invariant. -/
def OutGood (O : OtpSt) (Q : List Instr) (x : Out) : Prop := ∃ t, x = .next t ∧ Good O Q t

theorem outGood_next {t : State} (h : Good O Q t) : OutGood O Q (.next t) := ⟨t, rfl, h⟩

theorem outGood_ite {c : Prop} [Decidable c] {a b : Out} (ha : OutGood O Q a) (hb : OutGood O Q b) : OutGood O Q (if c then a else b) := by
  split <;> assumption

theorem State.setGrp_good {n : Nat} {v : GroupSt} (h : Good O Q s) : Good O Q (s.setGrp n v) :=
  { h with grp := Cells.set_wf h.grp }
theorem State.setEdge_good {n : Nat} {v : EdgeSample} (h : Good O Q s) : Good O Q (s.setEdge n v) :=
  { h with edge := Cells.set_wf h.edge }
theorem State.setCore_good {n : Nat} {v : CoreSt} (h : Good O Q s) : Good O Q (s.setCore n v) :=
  { h with core := Cells.set_wf h.core }
theorem State.setPair_good {n : Nat} {v : CheckSt} (h : Good O Q s) : Good O Q (s.setPair n v) :=
  { h with pair := Cells.set_wf h.pair }
theorem State.setRes_good {n : Nat} {v : Option ResultSt} (h : Good O Q s) : Good O Q (s.setRes n v) :=
  { h with res := Cells.set_wf h.res }
theorem State.setAin_good {n : Nat} {v : InputSt} (h : Good O Q s) : Good O Q (s.setAin n v) :=
  { h with ain := Cells.set_wf h.ain }
theorem State.setExc_good {n : Nat} {v : ExcSt} (h : Good O Q s) : Good O Q (s.setExc n v) :=
  { h with exc := Cells.set_wf h.exc }
theorem State.setFlt_good {n : Nat} {v : StageSt} (h : Good O Q s) : Good O Q (s.setFlt n v) :=
  { h with flt := Cells.set_wf h.flt }
theorem State.setStrm_good {n : Nat} {v : StreamSt} (h : Good O Q s) : Good O Q (s.setStrm n v) :=
  { h with strm := Cells.set_wf h.strm }
theorem State.setHiveLost_good {n : Nat} {v : List (Nat × Tq)} (h : Good O Q s) : Good O Q (s.setHiveLost n v) :=
  { h with hiveLost := Cells.set_wf h.hiveLost }
theorem State.setStats_good {n : Nat} {v : StatCh} (h : Good O Q s) : Good O Q (s.setStats n v) :=
  { h with stats := Cells.set_wf h.stats }
theorem State.setCond_good {n : Nat} {v : CondSt} (h : Good O Q s) : Good O Q (s.setCond n v) :=
  { h with cond := Cells.set_wf h.cond }
theorem State.setTrig_good {n : Nat} {v : TrigSt} (h : Good O Q s) : Good O Q (s.setTrig n v) :=
  { h with trig := Cells.set_wf h.trig }
theorem State.setCap_good {n : Nat} {v : CapSt} (h : Good O Q s) : Good O Q (s.setCap n v) :=
  { h with cap := Cells.set_wf h.cap }
theorem State.setFfPort_good {n : Nat} {v : FfPortSt} (h : Good O Q s) : Good O Q (s.setFfPort n v) :=
  { h with ffPort := Cells.set_wf h.ffPort }
theorem State.setTxts_good {n : Nat} {v : TxtsSt} (h : Good O Q s) : Good O Q (s.setTxts n v) :=
  { h with txts := Cells.set_wf h.txts }
theorem State.setPulse_good {n : Nat} {v : PulseSt} (h : Good O Q s) : Good O Q (s.setPulse n v) :=
  { h with pulse := Cells.set_wf h.pulse }
theorem State.setLink_good {n : Nat} {v : LinkSt} (h : Good O Q s) : Good O Q (s.setLink n v) :=
  { h with link := Cells.set_wf h.link }
theorem State.setSq_good {n : Nat} {v : SqSt} (h : Good O Q s) : Good O Q (s.setSq n v) :=
  { h with sq := Cells.set_wf h.sq }
theorem State.setCq_good {n : Nat} {v : CqSt} (h : Good O Q s) : Good O Q (s.setCq n v) :=
  { h with cq := Cells.set_wf h.cq }
theorem State.setReg_good {a : Nat} {v : W32} (h : Good O Q s) : Good O Q (s.setReg a v) :=
  { h with regs := Cells.set_wf h.regs }
theorem State.updGrp_good {n : Nat} {f : GroupSt → GroupSt} (h : Good O Q s) : Good O Q (s.updGrp n f) := State.setGrp_good h
theorem State.updEdge_good {n : Nat} {f : EdgeSample → EdgeSample} (h : Good O Q s) : Good O Q (s.updEdge n f) := State.setEdge_good h
theorem State.updCore_good {n : Nat} {f : CoreSt → CoreSt} (h : Good O Q s) : Good O Q (s.updCore n f) := State.setCore_good h
theorem State.updPair_good {n : Nat} {f : CheckSt → CheckSt} (h : Good O Q s) : Good O Q (s.updPair n f) := State.setPair_good h
theorem State.updRes_good {n : Nat} {f : Option ResultSt → Option ResultSt} (h : Good O Q s) : Good O Q (s.updRes n f) := State.setRes_good h
theorem State.updAin_good {n : Nat} {f : InputSt → InputSt} (h : Good O Q s) : Good O Q (s.updAin n f) := State.setAin_good h
theorem State.updExc_good {n : Nat} {f : ExcSt → ExcSt} (h : Good O Q s) : Good O Q (s.updExc n f) := State.setExc_good h
theorem State.updFlt_good {n : Nat} {f : StageSt → StageSt} (h : Good O Q s) : Good O Q (s.updFlt n f) := State.setFlt_good h
theorem State.updStrm_good {n : Nat} {f : StreamSt → StreamSt} (h : Good O Q s) : Good O Q (s.updStrm n f) := State.setStrm_good h
theorem State.updStats_good {n : Nat} {f : StatCh → StatCh} (h : Good O Q s) : Good O Q (s.updStats n f) := State.setStats_good h
theorem State.updCond_good {n : Nat} {f : CondSt → CondSt} (h : Good O Q s) : Good O Q (s.updCond n f) := State.setCond_good h
theorem State.updTrig_good {n : Nat} {f : TrigSt → TrigSt} (h : Good O Q s) : Good O Q (s.updTrig n f) := State.setTrig_good h
theorem State.updCap_good {n : Nat} {f : CapSt → CapSt} (h : Good O Q s) : Good O Q (s.updCap n f) := State.setCap_good h
theorem State.updFfPort_good {n : Nat} {f : FfPortSt → FfPortSt} (h : Good O Q s) : Good O Q (s.updFfPort n f) := State.setFfPort_good h
theorem State.updTxts_good {n : Nat} {f : TxtsSt → TxtsSt} (h : Good O Q s) : Good O Q (s.updTxts n f) := State.setTxts_good h
theorem State.updPulse_good {n : Nat} {f : PulseSt → PulseSt} (h : Good O Q s) : Good O Q (s.updPulse n f) := State.setPulse_good h
theorem State.updLink_good {n : Nat} {f : LinkSt → LinkSt} (h : Good O Q s) : Good O Q (s.updLink n f) := State.setLink_good h
theorem State.updSq_good {n : Nat} {f : SqSt → SqSt} (h : Good O Q s) : Good O Q (s.updSq n f) := State.setSq_good h
theorem State.updCq_good {n : Nat} {f : CqSt → CqSt} (h : Good O Q s) : Good O Q (s.updCq n f) := State.setCq_good h

end Sys2Proof.Machine
end

