-- ==== Sys2Proof/Laws/GoodOps.lean ====
section
/-! SUPPORT. The invariant of Safety.lean, operation by operation (Ops, Refuse, Operands, Wire, Sign, Weigh, Hive, Inflate, Deflate, Lanes, Streams, Compress, Stats, Excite, Filters, Convert). -/

namespace Sys2Proof.Machine

open Sys2Proof

set_option linter.unusedSimpArgs false
set_option Elab.async false
set_option linter.unusedVariables false
set_option linter.unusedTactic false
set_option linter.unreachableTactic false

variable {O : OtpSt} {Q : List Instr} {s : State}

theorem State.reach_good {t : Tq} (hgood : Good O Q s) : Good O Q (State.reach s t) := by
  unfold State.reach
  try dsimp only
  repeat' first
    | with_reducible assumption
    | with_reducible refine good_ite ?_ ?_
    | simp only [good_mk_eq, List.length_map, List.length_set]
    | split

theorem State.reachUp_good {u : Nat} (hgood : Good O Q s) : Good O Q (State.reachUp s u) := by
  unfold State.reachUp
  try dsimp only
  repeat' first
    | with_reducible assumption
    | with_reducible refine good_ite ?_ ?_
    | simp only [good_mk_eq, List.length_map, List.length_set]
    | split

theorem State.reachCricket_good {c : W32} (hgood : Good O Q s) : Good O Q (State.reachCricket s c) := by
  unfold State.reachCricket
  try dsimp only
  repeat' first
    | with_reducible assumption
    | with_reducible refine good_ite ?_ ?_
    | simp only [good_mk_eq, List.length_map, List.length_set]
    | split

theorem State.bumpBy_good {a : Nat} {n : Nat} (hgood : Good O Q s) : Good O Q (State.bumpBy s a n) := by
  unfold State.bumpBy
  try dsimp only
  repeat' first
    | with_reducible assumption
    | with_reducible refine State.setReg_good ?_
    | with_reducible refine good_ite ?_ ?_
    | simp only [good_mk_eq, List.length_map, List.length_set]
    | split

theorem State.bump_good {a : Nat} (hgood : Good O Q s) : Good O Q (State.bump s a) := by
  unfold State.bump
  try dsimp only
  repeat' first
    | with_reducible assumption
    | with_reducible refine State.bumpBy_good ?_
    | with_reducible refine good_ite ?_ ?_
    | simp only [good_mk_eq, List.length_map, List.length_set]
    | split

theorem State.setBit_good {a : Nat} {b : Nat} (hgood : Good O Q s) : Good O Q (State.setBit s a b) := by
  unfold State.setBit
  try dsimp only
  repeat' first
    | with_reducible assumption
    | with_reducible refine State.setReg_good ?_
    | with_reducible refine good_ite ?_ ?_
    | simp only [good_mk_eq, List.length_map, List.length_set]
    | split

theorem State.clrBit_good {a : Nat} {b : Nat} (hgood : Good O Q s) : Good O Q (State.clrBit s a b) := by
  unfold State.clrBit
  try dsimp only
  repeat' first
    | with_reducible assumption
    | with_reducible refine State.setReg_good ?_
    | with_reducible refine good_ite ?_ ?_
    | simp only [good_mk_eq, List.length_map, List.length_set]
    | split

theorem State.putBit_good {a : Nat} {b : Nat} {v : Bool} (hgood : Good O Q s) : Good O Q (State.putBit s a b v) := by
  unfold State.putBit
  try dsimp only
  repeat' first
    | with_reducible assumption
    | with_reducible refine State.clrBit_good ?_
    | with_reducible refine State.setBit_good ?_
    | with_reducible refine good_ite ?_ ?_
    | simp only [good_mk_eq, List.length_map, List.length_set]
    | split

theorem State.setReg64_good {a : Nat} {v : Nat} (hgood : Good O Q s) : Good O Q (State.setReg64 s a v) := by
  unfold State.setReg64
  try dsimp only
  repeat' first
    | with_reducible assumption
    | with_reducible refine State.setReg_good ?_
    | with_reducible refine good_ite ?_ ?_
    | simp only [good_mk_eq, List.length_map, List.length_set]
    | split

theorem State.setRegs_good {ws : List W32} : ∀ {s : State} {a : Nat}, Good O Q s → Good O Q (s.setRegs a ws) := by
  induction ws with
  | nil => intro s a h; exact h
  | cons w ws ih => intro s a h; exact ih (State.setReg_good h)

theorem State.setLevel_good {k : Nat} {v : Bool} (hgood : Good O Q s) : Good O Q (State.setLevel s k v) := by
  unfold State.setLevel
  try dsimp only
  repeat' first
    | with_reducible assumption
    | with_reducible refine good_ite ?_ ?_
    | simp only [good_mk_eq, List.length_map, List.length_set]
    | split

theorem State.armFlip_good {f : FlipSt} {atFrame : Option Nat} (hgood : Good O Q s) : Good O Q (State.armFlip s f atFrame) := by
  unfold State.armFlip
  try dsimp only
  repeat' first
    | with_reducible assumption
    | with_reducible refine good_ite ?_ ?_
    | simp only [good_mk_eq, List.length_map, List.length_set]
    | split

theorem State.aerReport_good (hgood : Good O Q s) : Good O Q (State.aerReport s) := by
  unfold State.aerReport
  try dsimp only
  repeat' first
    | with_reducible assumption
    | with_reducible refine good_ite ?_ ?_
    | simp only [good_mk_eq, List.length_map, List.length_set]
    | split

theorem State.hostWrite_good {a : Nat} {bs : List Byte} (hgood : Good O Q s) : Good O Q (s.hostWrite a bs) :=
  { hgood with mem := Memory.writeN_wf hgood.mem }

theorem State.msix_good {v : Nat} (hgood : Good O Q s) : Good O Q (State.msix s v) := by
  unfold State.msix
  try dsimp only
  repeat' first
    | with_reducible assumption
    | with_reducible refine State.clrBit_good ?_
    | with_reducible refine State.hostWrite_good ?_
    | with_reducible refine State.setBit_good ?_
    | with_reducible refine good_ite ?_ ?_
    | simp only [good_mk_eq, List.length_map, List.length_set]
    | split

theorem State.msixPending_good (hgood : Good O Q s) : Good O Q (State.msixPending s) := by
  unfold State.msixPending
  try dsimp only
  repeat' first
    | with_reducible assumption
    | with_reducible refine State.msix_good ?_
    | with_reducible refine State.each_good ?_ (fun _ _ _ => ?_)
    | with_reducible refine good_ite ?_ ?_
    | simp only [good_mk_eq, List.length_map, List.length_set]
    | split

theorem traceInsert_length {e : TraceEntry} {es : List TraceEntry} : (traceInsert e es).length = es.length + 1 := by
  induction es with
  | nil => rfl
  | cons x xs ih => unfold traceInsert; split <;> simp [ih]

/-- A new list of trace entries within the store. -/
theorem good_trace {t : TraceSt} (hgood : Good O Q s) (h : t.entries.length ≤ 4096) : Good O Q { s with trace := t } :=
  { hgood with trace := h }

/-- A new log within 512 records. -/
theorem good_log {l : LogSt} (hgood : Good O Q s) (h : l.records.length ≤ 512) : Good O Q { s with log := l } :=
  { hgood with log := h }

theorem State.traceStore_good {e : TraceEntry} (hgood : Good O Q s) : Good O Q (s.traceStore e) := by
  have h := hgood.trace
  unfold State.traceStore
  dsimp only
  split
  · refine good_trace hgood ?_
    dsimp only
    split <;> simp only [List.length_drop, traceInsert_length] <;> simp only [traceInsert_length] at * <;> omega
  · cases hfull : s.trace.full
    · simp only [Bool.false_eq_true, if_false]
      split
      · refine good_trace hgood ?_
        simp only [traceInsert_length]
        omega
      · split
        · exact State.setBit_good hgood
        · refine State.setBit_good (good_trace hgood ?_)
          simp only [List.length_append, List.length_cons, List.length_nil]
          omega
    · simp only [if_true]
      split
      · refine good_trace hgood ?_
        simp only [traceInsert_length]
        omega
      · exact hgood

theorem State.traceAdd_good {kind : Nat} {source : Nat} {data : W32} (hgood : Good O Q s) : Good O Q (State.traceAdd s kind source data) := by
  unfold State.traceAdd
  try dsimp only
  repeat' first
    | with_reducible assumption
    | with_reducible refine State.traceStore_good ?_
    | with_reducible refine good_ite ?_ ?_
    | simp only [good_mk_eq, List.length_map, List.length_set]
    | split

theorem State.traceFree_good {source : Nat} (hgood : Good O Q s) : Good O Q (State.traceFree s source) := by
  unfold State.traceFree
  try dsimp only
  repeat' first
    | with_reducible assumption
    | with_reducible refine State.traceAdd_good ?_
    | with_reducible refine good_ite ?_ ?_
    | simp only [good_mk_eq, List.length_map, List.length_set]
    | split

theorem State.traceEngine_good (hgood : Good O Q s) : Good O Q (State.traceEngine s) := by
  unfold State.traceEngine
  try dsimp only
  repeat' first
    | with_reducible assumption
    | with_reducible refine State.traceAdd_good ?_
    | with_reducible refine good_ite ?_ ?_
    | simp only [good_mk_eq, List.length_map, List.length_set]
    | split

theorem State.traceMark_good {kind : Nat} (hgood : Good O Q s) : Good O Q (State.traceMark s kind) := by
  unfold State.traceMark
  try dsimp only
  repeat' first
    | with_reducible assumption
    | with_reducible refine State.traceStore_good ?_
    | with_reducible refine good_ite ?_ ?_
    | simp only [good_mk_eq, List.length_map, List.length_set]
    | split

theorem State.pllRunAgo_good {ns : Nat} (hgood : Good O Q s) : Good O Q (State.pllRunAgo s ns) := by
  unfold State.pllRunAgo
  try dsimp only
  repeat' first
    | with_reducible assumption
    | with_reducible refine good_ite ?_ ?_
    | simp only [good_mk_eq, List.length_map, List.length_set]
    | split

theorem State.pllRun_good (hgood : Good O Q s) : Good O Q (State.pllRun s) := by
  unfold State.pllRun
  try dsimp only
  repeat' first
    | with_reducible assumption
    | with_reducible refine State.pllRunAgo_good ?_
    | with_reducible refine good_ite ?_ ?_
    | simp only [good_mk_eq, List.length_map, List.length_set]
    | split

theorem State.coreNeed_good (hgood : Good O Q s) : Good O Q (State.coreNeed s) := by
  unfold State.coreNeed
  try dsimp only
  repeat' first
    | with_reducible assumption
    | with_reducible refine State.pllRun_good ?_
    | with_reducible refine good_ite ?_ ?_
    | simp only [good_mk_eq, List.length_map, List.length_set]
    | split

theorem State.quietMode_good {m : PowerMode} (hgood : Good O Q s) : Good O Q (State.quietMode s m) := by
  unfold State.quietMode
  try dsimp only
  repeat' first
    | with_reducible assumption
    | with_reducible refine good_ite ?_ ?_
    | simp only [good_mk_eq, List.length_map, List.length_set]
    | split

theorem State.powerMode_good {m : PowerMode} (hgood : Good O Q s) : Good O Q (State.powerMode s m) := by
  unfold State.powerMode
  try dsimp only
  repeat' first
    | with_reducible assumption
    | with_reducible refine State.quietMode_good ?_
    | with_reducible refine State.traceFree_good ?_
    | with_reducible refine good_ite ?_ ?_
    | simp only [good_mk_eq, List.length_map, List.length_set]
    | split

theorem State.leaveDoze_good (hgood : Good O Q s) : Good O Q (State.leaveDoze s) := by
  unfold State.leaveDoze
  try dsimp only
  repeat' first
    | with_reducible assumption
    | with_reducible refine State.pllRun_good ?_
    | with_reducible refine State.powerMode_good ?_
    | with_reducible refine State.traceMark_good ?_
    | with_reducible refine good_ite ?_ ?_
    | simp only [good_mk_eq, List.length_map, List.length_set]
    | split

theorem State.logLost_good (hgood : Good O Q s) : Good O Q (State.logLost s) := by
  unfold State.logLost
  try dsimp only
  repeat' first
    | with_reducible assumption
    | with_reducible refine State.bump_good ?_
    | with_reducible refine State.setBit_good ?_
    | with_reducible refine good_ite ?_ ?_
    | simp only [good_mk_eq, List.length_map, List.length_set]
    | split

theorem State.errMsi_good {cls : Nat} (hgood : Good O Q s) : Good O Q (State.errMsi s cls) := by
  unfold State.errMsi
  try dsimp only
  repeat' first
    | with_reducible assumption
    | with_reducible refine State.msix_good ?_
    | with_reducible refine good_ite ?_ ?_
    | simp only [good_mk_eq, List.length_map, List.length_set]
    | split

theorem logVictim_mem {c : Nat} {rs : List ErrRec} {v : W32} (h : logVictim c rs = some v) : ∃ r ∈ rs, r.eseq = v := by
  unfold logVictim at h
  split at h
  · cases h
  · obtain ⟨c', _, hc⟩ := List.mem_filterMap.mp (List.mem_of_mem_head? h)
    obtain ⟨r, hr, rfl⟩ := Option.map_eq_some_iff.mp hc
    exact ⟨r, List.mem_of_find?_eq_some hr, rfl⟩

/-- Removing the record a new one overwrites makes room for it. -/
theorem victim_room {c : Nat} {rs : List ErrRec} {v : W32} (h : logVictim c rs = some v) :
    (rs.filter (fun x => x.eseq != v)).length < rs.length := by
  obtain ⟨r, hr, hv⟩ := logVictim_mem h
  refine lt_of_le_of_ne (List.length_filter_le _ _) (fun he => ?_)
  have := List.length_filter_eq_length_iff.mp he r hr
  simp [hv] at this

theorem State.formRecord_good {r : ErrRec} (hgood : Good O Q s) : Good O Q (s.formRecord r) := by
  unfold State.formRecord
  dsimp only
  have h1 : Good O Q ((s.setReg 0x7C00C (s.reg 0x7C00C + 1)).traceAdd 0x80 2 (s.reg 0x7C00C)) := State.traceAdd_good (State.setReg_good hgood)
  have h := h1.log
  split
  · refine State.errMsi_good (good_log h1 ?_)
    simp only [List.length_append, List.length_cons, List.length_nil]
    omega
  · split
    · rename_i v hv
      refine State.errMsi_good (State.logLost_good (good_log h1 ?_))
      have := victim_room hv
      simp only [List.length_append, List.length_cons, List.length_nil]
      omega
    · refine State.logLost_good (good_log h1 ?_)
      exact h

theorem State.logCount_good {e : W32} {n : Nat} (hgood : Good O Q s) : Good O Q (s.logCount e n) := by
  refine good_log hgood ?_
  simpa using hgood.log

theorem State.setHandling_good {h : Handling} (hgood : Good O Q s) : Good O Q (State.setHandling s h) := by
  unfold State.setHandling
  try dsimp only
  repeat' first
    | with_reducible assumption
    | with_reducible refine good_ite ?_ ?_
    | simp only [good_mk_eq, List.length_map, List.length_set]
    | split

theorem State.endHandling_good {reg : Nat} {inst : Nat} (hgood : Good O Q s) : Good O Q (State.endHandling s reg inst) := by
  unfold State.endHandling
  try dsimp only
  repeat' first
    | with_reducible assumption
    | with_reducible refine good_ite ?_ ?_
    | simp only [good_mk_eq, List.length_map, List.length_set]
    | split

theorem State.raiseOne_good {e : ErrIn} {n : Nat} (hgood : Good O Q s) : Good O Q (State.raiseOne s e n) := by
  unfold State.raiseOne
  try dsimp only
  repeat' first
    | with_reducible assumption
    | with_reducible refine State.bumpBy_good ?_
    | with_reducible refine State.bump_good ?_
    | with_reducible refine State.formRecord_good ?_
    | with_reducible refine State.logCount_good ?_
    | with_reducible refine State.logLost_good ?_
    | with_reducible refine State.setHandling_good ?_
    | with_reducible refine State.setReg_good ?_
    | with_reducible refine State.traceAdd_good ?_
    | with_reducible refine State.doIf_good ?_ ?_
    | with_reducible refine good_ite ?_ ?_
    | simp only [good_mk_eq, List.length_map, List.length_set]
    | split

theorem State.record_good {es : List ErrIn} (hgood : Good O Q s) : Good O Q (State.record s es) := by
  unfold State.record
  try dsimp only
  repeat' first
    | with_reducible assumption
    | with_reducible refine State.raiseOne_good ?_
    | with_reducible refine good_foldl _ (fun _ _ _ => ?_) ?_
    | with_reducible refine good_ite ?_ ?_
    | simp only [good_mk_eq, List.length_map, List.length_set]
    | split

theorem State.raiseAll_good {es : List ErrIn} (hgood : Good O Q s) : Good O Q (State.raiseAll s es) := by
  unfold State.raiseAll
  try dsimp only
  repeat' first
    | with_reducible assumption
    | with_reducible refine State.record_good ?_
    | with_reducible refine good_ite ?_ ?_
    | simp only [good_mk_eq, List.length_map, List.length_set]
    | split

theorem State.oneCycle_good {f : State → State} (hgood : Good O Q s) (hf : ∀ t, Good O Q t → Good O Q (f t)) : Good O Q (s.oneCycle f) := by
  unfold State.oneCycle
  split
  · exact hf _ hgood
  · exact State.record_good (good_mk (hf _ (good_mk hgood rfl rfl rfl rfl)) rfl rfl rfl rfl)

theorem State.raise_good {e : ErrIn} (hgood : Good O Q s) : Good O Q (State.raise s e) := by
  unfold State.raise
  try dsimp only
  repeat' first
    | with_reducible assumption
    | with_reducible refine State.raiseAll_good ?_
    | with_reducible refine good_ite ?_ ?_
    | simp only [good_mk_eq, List.length_map, List.length_set]
    | split

theorem State.raiseBare_good {cls : Nat} {engine : Bool} {inst : Nat} (hgood : Good O Q s) : Good O Q (State.raiseBare s cls engine inst) := by
  unfold State.raiseBare
  try dsimp only
  repeat' first
    | with_reducible assumption
    | with_reducible refine State.raise_good ?_
    | with_reducible refine good_ite ?_ ?_
    | simp only [good_mk_eq, List.length_map, List.length_set]
    | split

theorem State.setBitRaise_good {cls : Nat} {a : Nat} {b : Nat} {inst : Nat} (hgood : Good O Q s) : Good O Q (State.setBitRaise s cls a b inst) := by
  unfold State.setBitRaise
  try dsimp only
  repeat' first
    | with_reducible assumption
    | with_reducible refine State.raise_good ?_
    | with_reducible refine State.setBit_good ?_
    | with_reducible refine good_ite ?_ ?_
    | simp only [good_mk_eq, List.length_map, List.length_set]
    | split

theorem State.useInj_good {target : Nat} {action : Nat} {index : Nat} (hgood : Good O Q s) : Good O Q (State.useInj s target action index) := by
  unfold State.useInj
  try dsimp only
  repeat' first
    | with_reducible assumption
    | with_reducible refine State.bump_good ?_
    | with_reducible refine good_ite ?_ ?_
    | simp only [good_mk_eq, List.length_map, List.length_set]
    | split

theorem State.underInj_good {b : Bool} {f : State → State} (hgood : Good O Q s) (hf : ∀ t, Good O Q t → Good O Q (f t)) : Good O Q (s.underInj b f) := by
  unfold State.underInj
  split
  · simp only [good_mk_eq]
    exact hf _ (good_mk hgood rfl rfl rfl rfl)
  · exact hf _ hgood

theorem State.memWrite_good {region : Nat} (hgood : Good O Q s) : Good O Q (State.memWrite s region) := by
  unfold State.memWrite
  try dsimp only
  repeat' first
    | with_reducible assumption
    | with_reducible refine State.useInj_good ?_
    | with_reducible refine good_ite ?_ ?_
    | simp only [good_mk_eq, List.length_map, List.length_set]
    | split

theorem State.freeNext_good (hgood : Good O Q s) : Good O Q (State.freeNext s) := by
  unfold State.freeNext
  try dsimp only
  repeat' first
    | with_reducible assumption
    | with_reducible refine good_ite ?_ ?_
    | simp only [good_mk_eq, List.length_map, List.length_set]
    | split

theorem State.refclkKeep_good (hgood : Good O Q s) : Good O Q (State.refclkKeep s) := by
  unfold State.refclkKeep
  try dsimp only
  repeat' first
    | with_reducible assumption
    | with_reducible refine State.freeNext_good ?_
    | with_reducible refine State.setReg_good ?_
    | with_reducible refine good_ite ?_ ?_
    | simp only [good_mk_eq, List.length_map, List.length_set]
    | split

theorem State.take_good {id : Nat} (hgood : Good O Q s) : Good O Q (State.take s id) := by
  unfold State.take
  try dsimp only
  repeat' first
    | with_reducible assumption
    | with_reducible refine good_ite ?_ ?_
    | simp only [good_mk_eq, List.length_map, List.length_set]
    | split

theorem State.releaseBuf_good {id : Nat} (hgood : Good O Q s) : Good O Q (State.releaseBuf s id) := by
  unfold State.releaseBuf
  try dsimp only
  repeat' first
    | with_reducible assumption
    | with_reducible refine State.updStrm_good ?_
    | with_reducible refine State.each_good ?_ (fun _ _ _ => ?_)
    | with_reducible refine good_ite ?_ ?_
    | simp only [good_mk_eq, List.length_map, List.length_set]
    | split

theorem State.cqCount_good {q : Nat} (hgood : Good O Q s) : Good O Q (State.cqCount s q) := by
  unfold State.cqCount
  try dsimp only
  repeat' first
    | with_reducible assumption
    | with_reducible refine State.msix_good ?_
    | with_reducible refine State.setCq_good ?_
    | with_reducible refine good_ite ?_ ?_
    | simp only [good_mk_eq, List.length_map, List.length_set]
    | split

theorem State.postOne_good {q : Nat} {c : Completion} (hgood : Good O Q s) : Good O Q (State.postOne s q c) := by
  unfold State.postOne
  try dsimp only
  repeat' first
    | with_reducible assumption
    | with_reducible refine State.cqCount_good ?_
    | with_reducible refine State.hostWrite_good ?_
    | with_reducible refine State.releaseBuf_good ?_
    | with_reducible refine State.setBit_good ?_
    | with_reducible refine State.updCq_good ?_
    | with_reducible refine State.doIf_good ?_ ?_
    | with_reducible refine good_ite ?_ ?_
    | simp only [good_mk_eq, List.length_map, List.length_set]
    | split

theorem postGo_good {ws : List (Nat × Completion)} : ∀ {stuck : List Nat} {s : State}, Good O Q s → Good O Q (postGo ws stuck s) := by
  induction ws with
  | nil => intro stuck s h; exact h
  | cons w ws ih =>
    intro stuck s h
    unfold postGo
    split
    · exact ih (State.postOne_good h)
    · exact ih (good_mk h rfl rfl rfl rfl)

theorem State.postAll_good (hgood : Good O Q s) : Good O Q (State.postAll s) := by
  unfold State.postAll
  try dsimp only
  repeat' first
    | with_reducible assumption
    | with_reducible refine postGo_good ?_
    | with_reducible refine good_ite ?_ ?_
    | simp only [good_mk_eq, List.length_map, List.length_set]
    | split

theorem State.drainCheck_good {r : Nat} (hgood : Good O Q s) : Good O Q (State.drainCheck s r) := by
  unfold State.drainCheck
  try dsimp only
  repeat' first
    | with_reducible assumption
    | with_reducible refine State.updSq_good ?_
    | with_reducible refine good_ite ?_ ?_
    | simp only [good_mk_eq, List.length_map, List.length_set]
    | split

theorem State.dropDesc_good {id : Nat} (hgood : Good O Q s) : Good O Q (State.dropDesc s id) := by
  unfold State.dropDesc
  try dsimp only
  repeat' first
    | with_reducible assumption
    | with_reducible refine good_ite ?_ ?_
    | simp only [good_mk_eq, List.length_map, List.length_set]
    | split

theorem State.deliver_good {d : Desc} {c : Completion} (hgood : Good O Q s) : Good O Q (State.deliver s d c) := by
  unfold State.deliver
  try dsimp only
  repeat' first
    | with_reducible assumption
    | with_reducible refine State.postAll_good ?_
    | with_reducible refine State.setRegs_good ?_
    | with_reducible refine good_ite ?_ ?_
    | simp only [good_mk_eq, List.length_map, List.length_set]
    | split

theorem State.retire1_good {d : Desc} {status : Nat} {resS : Nat} {res : List W32} (hgood : Good O Q s) : Good O Q (State.retire1 s d status resS res) := by
  unfold State.retire1
  try dsimp only
  repeat' first
    | with_reducible assumption
    | with_reducible refine State.deliver_good ?_
    | with_reducible refine State.drainCheck_good ?_
    | with_reducible refine State.dropDesc_good ?_
    | with_reducible refine good_ite ?_ ?_
    | simp only [good_mk_eq, List.length_map, List.length_set]
    | split

theorem State.sweepBad_good (hgood : Good O Q s) : Good O Q (State.sweepBad s) := by
  unfold State.sweepBad
  try dsimp only
  repeat' first
    | with_reducible assumption
    | with_reducible refine State.retire1_good ?_
    | with_reducible refine State.each_good ?_ (fun _ _ _ => ?_)
    | with_reducible refine good_ite ?_ ?_
    | simp only [good_mk_eq, List.length_map, List.length_set]
    | split

theorem State.retire_good {d : Desc} {status : Nat} {resS : Nat} {res : List W32} (hgood : Good O Q s) : Good O Q (State.retire s d status resS res) := by
  unfold State.retire
  try dsimp only
  repeat' first
    | with_reducible assumption
    | with_reducible refine State.retire1_good ?_
    | with_reducible refine State.sweepBad_good ?_
    | with_reducible refine good_ite ?_ ?_
    | simp only [good_mk_eq, List.length_map, List.length_set]
    | split

theorem State.retireOk_good {d : Desc} {res : List W32} (hgood : Good O Q s) : Good O Q (State.retireOk s d res) := by
  unfold State.retireOk
  try dsimp only
  repeat' first
    | with_reducible assumption
    | with_reducible refine State.retire_good ?_
    | with_reducible refine good_ite ?_ ?_
    | simp only [good_mk_eq, List.length_map, List.length_set]
    | split

theorem State.retireBad_good {d : Desc} {status : Nat} (hgood : Good O Q s) : Good O Q (State.retireBad s d status) := by
  unfold State.retireBad
  try dsimp only
  repeat' first
    | with_reducible assumption
    | with_reducible refine State.retire_good ?_
    | with_reducible refine good_ite ?_ ?_
    | simp only [good_mk_eq, List.length_map, List.length_set]
    | split

theorem State.dmaFailed_good {d : Desc} (hgood : Good O Q s) : Good O Q (State.dmaFailed s d) := by
  unfold State.dmaFailed
  try dsimp only
  repeat' first
    | with_reducible assumption
    | with_reducible refine State.aerReport_good ?_
    | with_reducible refine State.retireBad_good ?_
    | with_reducible refine good_ite ?_ ?_
    | simp only [good_mk_eq, List.length_map, List.length_set]
    | split

theorem State.serve_good {id op : Nat} {f : Desc → State → State} (hgood : Good O Q s) (hf : ∀ d t, Good O Q t → Good O Q (f d t)) : OutGood O Q (s.serve id op f) := by
  unfold State.serve
  split
  · exact outGood_next hgood
  · split
    · exact outGood_next (hf _ _ hgood)
    · exact outGood_next hgood

theorem State.descWrite_good {d : Desc} {bs : List Byte} (hgood : Good O Q s) : Good O Q (State.descWrite s d bs) := by
  unfold State.descWrite
  try dsimp only
  repeat' first
    | with_reducible assumption
    | with_reducible refine State.hostWrite_good ?_
    | with_reducible refine State.setRegs_good ?_
    | with_reducible refine State.take_good ?_
    | with_reducible refine good_ite ?_ ?_
    | simp only [good_mk_eq, List.length_map, List.length_set]
    | split

theorem State.countRefusals_good {rs : List Nat} (hgood : Good O Q s) : Good O Q (State.countRefusals s rs) := by
  unfold State.countRefusals
  try dsimp only
  repeat' first
    | with_reducible assumption
    | with_reducible refine State.bump_good ?_
    | with_reducible refine State.setBit_good ?_
    | with_reducible refine State.each_good ?_ (fun _ _ _ => ?_)
    | with_reducible refine good_ite ?_ ?_
    | simp only [good_mk_eq, List.length_map, List.length_set]
    | split

theorem State.dozeOnset_good (hgood : Good O Q s) : Good O Q (State.dozeOnset s) := by
  unfold State.dozeOnset
  try dsimp only
  repeat' first
    | with_reducible assumption
    | with_reducible refine State.countRefusals_good ?_
    | with_reducible refine good_ite ?_ ?_
    | simp only [good_mk_eq, List.length_map, List.length_set]
    | split

theorem State.refuserNote_good (hgood : Good O Q s) : Good O Q (State.refuserNote s) := by
  unfold State.refuserNote
  try dsimp only
  repeat' first
    | with_reducible assumption
    | with_reducible refine State.dozeOnset_good ?_
    | with_reducible refine good_ite ?_ ?_
    | simp only [good_mk_eq, List.length_map, List.length_set]
    | split

theorem State.stampReq_good {p : Nat} {b : TxBody} {retry : Bool} (hgood : Good O Q s) : Good O Q (State.stampReq s p b retry) := by
  unfold State.stampReq
  try dsimp only
  repeat' first
    | with_reducible assumption
    | with_reducible refine State.updFfPort_good ?_
    | with_reducible refine good_ite ?_ ?_
    | simp only [good_mk_eq, List.length_map, List.length_set]
    | split

theorem State.emit_good {p : Nat} {blocks : List Block} (hgood : Good O Q s) : Good O Q (State.emit s p blocks) := by
  unfold State.emit
  try dsimp only
  repeat' first
    | with_reducible assumption
    | with_reducible refine State.freeNext_good ?_
    | with_reducible refine State.setLink_good ?_
    | with_reducible refine good_ite ?_ ?_
    | simp only [good_mk_eq, List.length_map, List.length_set]
    | split

theorem State.cutFrame_good {p : Nat} (hgood : Good O Q s) : Good O Q (State.cutFrame s p) := by
  unfold State.cutFrame
  try dsimp only
  repeat' first
    | with_reducible assumption
    | with_reducible refine State.emit_good ?_
    | with_reducible refine State.take_good ?_
    | with_reducible refine good_ite ?_ ?_
    | simp only [good_mk_eq, List.length_map, List.length_set]
    | split

theorem State.startNext_good {p : Nat} (hgood : Good O Q s) : Good O Q (State.startNext s p) := by
  unfold State.startNext
  try dsimp only
  repeat' first
    | with_reducible assumption
    | with_reducible refine State.bump_good ?_
    | with_reducible refine State.setLink_good ?_
    | with_reducible refine State.stampReq_good ?_
    | with_reducible refine good_ite ?_ ?_
    | simp only [good_mk_eq, List.length_map, List.length_set]
    | split

theorem State.txLost_good {p : Nat} (hgood : Good O Q s) : Good O Q (State.txLost s p) := by
  unfold State.txLost
  try dsimp only
  repeat' first
    | with_reducible assumption
    | with_reducible refine State.bump_good ?_
    | with_reducible refine State.updLink_good ?_
    | with_reducible refine good_ite ?_ ?_
    | simp only [good_mk_eq, List.length_map, List.length_set]
    | split

theorem State.enqueue_good {p : Nat} {cls : TxClass} {body : TxBody} {tsReq : Bool} {tsId : BitVec 16} (hgood : Good O Q s) : Good O Q (State.enqueue s p cls body tsReq tsId) := by
  unfold State.enqueue
  try dsimp only
  repeat' first
    | with_reducible assumption
    | with_reducible refine State.startNext_good ?_
    | with_reducible refine State.updLink_good ?_
    | with_reducible refine good_ite ?_ ?_
    | simp only [good_mk_eq, List.length_map, List.length_set]
    | split

theorem State.healthForm_good (hgood : Good O Q s) : Good O Q (State.healthForm s) := by
  unfold State.healthForm
  try dsimp only
  repeat' first
    | with_reducible assumption
    | with_reducible refine State.updLink_good ?_
    | with_reducible refine good_ite ?_ ?_
    | simp only [good_mk_eq, List.length_map, List.length_set]
    | split

theorem State.tellLost_good {p : Nat} (hgood : Good O Q s) : Good O Q (State.tellLost s p) := by
  unfold State.tellLost
  try dsimp only
  repeat' first
    | with_reducible assumption
    | with_reducible refine State.enqueue_good ?_
    | with_reducible refine State.healthForm_good ?_
    | with_reducible refine good_ite ?_ ?_
    | simp only [good_mk_eq, List.length_map, List.length_set]
    | split

theorem State.queueFrame_good {p : Nat} {cls : TxClass} {body : TxBody} {tsReq : Bool} {tsId : BitVec 16} (hgood : Good O Q s) : Good O Q (State.queueFrame s p cls body tsReq tsId) := by
  unfold State.queueFrame
  try dsimp only
  repeat' first
    | with_reducible assumption
    | with_reducible refine State.enqueue_good ?_
    | with_reducible refine State.tellLost_good ?_
    | with_reducible refine State.txLost_good ?_
    | with_reducible refine State.doIf_good ?_ ?_
    | with_reducible refine good_ite ?_ ?_
    | simp only [good_mk_eq, List.length_map, List.length_set]
    | split

theorem State.sendOn_good {p : Nat} {cls : TxClass} {body : TxBody} (hgood : Good O Q s) : Good O Q (State.sendOn s p cls body) := by
  unfold State.sendOn
  try dsimp only
  repeat' first
    | with_reducible assumption
    | with_reducible refine State.queueFrame_good ?_
    | with_reducible refine good_ite ?_ ?_
    | simp only [good_mk_eq, List.length_map, List.length_set]
    | split

theorem State.sendHealth_good (hgood : Good O Q s) : Good O Q (State.sendHealth s) := by
  unfold State.sendHealth
  try dsimp only
  repeat' first
    | with_reducible assumption
    | with_reducible refine State.healthForm_good ?_
    | with_reducible refine State.sendOn_good ?_
    | with_reducible refine good_ite ?_ ?_
    | simp only [good_mk_eq, List.length_map, List.length_set]
    | split

theorem feedGo_good {f : Nat} : ∀ {s : State}, Good O Q s → Good O Q (feedGo f s) := by
  induction f with
  | zero => intro s  h; exact h
  | succ f ih =>
    intro s  h
    unfold feedGo
    try dsimp only
    repeat' first
      | with_reducible assumption
      | with_reducible refine ih ?_
      | with_reducible refine State.sendOn_good ?_
      | with_reducible refine good_ite ?_ ?_
      | simp only [good_mk_eq, List.length_map, List.length_set]
      | split

theorem State.feedData_good (hgood : Good O Q s) : Good O Q (State.feedData s) := by
  unfold State.feedData
  try dsimp only
  repeat' first
    | with_reducible assumption
    | with_reducible refine feedGo_good ?_
    | with_reducible refine good_ite ?_ ?_
    | simp only [good_mk_eq, List.length_map, List.length_set]
    | split

theorem State.sendData_good {records : List W32} (hgood : Good O Q s) : Good O Q (State.sendData s records) := by
  unfold State.sendData
  try dsimp only
  repeat' first
    | with_reducible assumption
    | with_reducible refine State.feedData_good ?_
    | with_reducible refine good_ite ?_ ?_
    | simp only [good_mk_eq, List.length_map, List.length_set]
    | split

theorem State.sendCtl_good {p : Nat} {b : BitVec 64} (hgood : Good O Q s) : Good O Q (State.sendCtl s p b) := by
  unfold State.sendCtl
  try dsimp only
  repeat' first
    | with_reducible assumption
    | with_reducible refine State.emit_good ?_
    | with_reducible refine State.setLink_good ?_
    | with_reducible refine good_ite ?_ ?_
    | simp only [good_mk_eq, List.length_map, List.length_set]
    | split

theorem State.rxAccept_good {p : Nat} (hgood : Good O Q s) : Good O Q (State.rxAccept s p) := by
  unfold State.rxAccept
  try dsimp only
  repeat' first
    | with_reducible assumption
    | with_reducible refine State.sendCtl_good ?_
    | with_reducible refine State.setLink_good ?_
    | with_reducible refine good_ite ?_ ?_
    | simp only [good_mk_eq, List.length_map, List.length_set]
    | split

theorem State.quadSet_good (hgood : Good O Q s) : Good O Q (State.quadSet s) := by
  unfold State.quadSet
  try dsimp only
  repeat' first
    | with_reducible assumption
    | with_reducible refine good_ite ?_ ?_
    | simp only [good_mk_eq, List.length_map, List.length_set]
    | split

theorem State.flashBegin_good (hgood : Good O Q s) : Good O Q (State.flashBegin s) := by
  unfold State.flashBegin
  try dsimp only
  repeat' first
    | with_reducible assumption
    | with_reducible refine good_ite ?_ ?_
    | simp only [good_mk_eq, List.length_map, List.length_set]
    | split

theorem State.audit_good {kind : Nat} {inPlace : Option (List W32)} (hgood : Good O Q s) : Good O Q (State.audit s kind inPlace) := by
  unfold State.audit
  try dsimp only
  repeat' first
    | with_reducible assumption
    | with_reducible refine State.take_good ?_
    | with_reducible refine good_ite ?_ ?_
    | simp only [good_mk_eq, List.length_map, List.length_set]
    | split

theorem State.countEvent_good (hgood : Good O Q s) : Good O Q (State.countEvent s) := by
  unfold State.countEvent
  try dsimp only
  repeat' first
    | with_reducible assumption
    | with_reducible refine good_ite ?_ ?_
    | simp only [good_mk_eq, List.length_map, List.length_set]
    | split

theorem State.auditEvent_good {kind : Nat} {inPlace : Option (List W32)} (hgood : Good O Q s) : Good O Q (State.auditEvent s kind inPlace) := by
  unfold State.auditEvent
  try dsimp only
  repeat' first
    | with_reducible assumption
    | with_reducible refine State.audit_good ?_
    | with_reducible refine State.countEvent_good ?_
    | with_reducible refine good_ite ?_ ?_
    | simp only [good_mk_eq, List.length_map, List.length_set]
    | split

theorem State.sealWrite_good {bank : Bank} (hgood : Good O Q s) : Good O Q (State.sealWrite s bank) := by
  unfold State.sealWrite
  try dsimp only
  repeat' first
    | with_reducible assumption
    | with_reducible refine good_ite ?_ ?_
    | simp only [good_mk_eq, List.length_map, List.length_set]
    | split

theorem State.unstage_good {rollback : Bool} (hgood : Good O Q s) : Good O Q (State.unstage s rollback) := by
  unfold State.unstage
  try dsimp only
  repeat' first
    | with_reducible assumption
    | with_reducible refine good_ite ?_ ?_
    | simp only [good_mk_eq, List.length_map, List.length_set]
    | split

theorem State.sealTurn_good {before : Bool} (hgood : Good O Q s) : Good O Q (State.sealTurn s before) := by
  unfold State.sealTurn
  try dsimp only
  repeat' first
    | with_reducible assumption
    | with_reducible refine State.audit_good ?_
    | with_reducible refine good_ite ?_ ?_
    | simp only [good_mk_eq, List.length_map, List.length_set]
    | split

theorem State.setInterval_good {p : Nat} {i : Option Interval} (hgood : Good O Q s) : Good O Q (State.setInterval s p i) := by
  unfold State.setInterval
  try dsimp only
  repeat' first
    | with_reducible assumption
    | with_reducible refine good_ite ?_ ?_
    | simp only [good_mk_eq, List.length_map, List.length_set]
    | split

theorem State.vaultTaint_good (hgood : Good O Q s) : Good O Q (State.vaultTaint s) := by
  unfold State.vaultTaint
  try dsimp only
  repeat' first
    | with_reducible assumption
    | with_reducible refine State.setInterval_good ?_
    | with_reducible refine State.each_good ?_ (fun _ _ _ => ?_)
    | with_reducible refine good_ite ?_ ?_
    | simp only [good_mk_eq, List.length_map, List.length_set]
    | split

theorem State.inhibitCount_good (hgood : Good O Q s) : Good O Q (State.inhibitCount s) := by
  unfold State.inhibitCount
  try dsimp only
  repeat' first
    | with_reducible assumption
    | with_reducible refine State.bump_good ?_
    | with_reducible refine good_ite ?_ ?_
    | simp only [good_mk_eq, List.length_map, List.length_set]
    | split

theorem State.holdResult_good {r : WeighSt} (hgood : Good O Q s) : Good O Q (State.holdResult s r) := by
  unfold State.holdResult
  try dsimp only
  repeat' first
    | with_reducible assumption
    | with_reducible refine State.inhibitCount_good ?_
    | with_reducible refine State.doIf_good ?_ ?_
    | with_reducible refine good_ite ?_ ?_
    | simp only [good_mk_eq, List.length_map, List.length_set]
    | split

theorem State.weighed_good {r : WeighSt} (hgood : Good O Q s) : Good O Q (State.weighed s r) := by
  unfold State.weighed
  try dsimp only
  repeat' first
    | with_reducible assumption
    | with_reducible refine State.holdResult_good ?_
    | with_reducible refine good_ite ?_ ?_
    | simp only [good_mk_eq, List.length_map, List.length_set]
    | split

theorem State.closeInterval_good {p : Nat} {i : Interval} {tExit : Nat} {epoch : BitVec 16} {interrupted : Bool} {overlong : Bool} (hgood : Good O Q s) : Good O Q (State.closeInterval s p i tExit epoch interrupted overlong) := by
  unfold State.closeInterval
  try dsimp only
  repeat' first
    | with_reducible assumption
    | with_reducible refine State.inhibitCount_good ?_
    | with_reducible refine State.setInterval_good ?_
    | with_reducible refine State.weighed_good ?_
    | with_reducible refine good_ite ?_ ?_
    | simp only [good_mk_eq, List.length_map, List.length_set]
    | split

theorem State.interruptWeighing_good {ps : List Nat} (hgood : Good O Q s) : Good O Q (State.interruptWeighing s ps) := by
  unfold State.interruptWeighing
  try dsimp only
  repeat' first
    | with_reducible assumption
    | with_reducible refine State.closeInterval_good ?_
    | with_reducible refine State.each_good ?_ (fun _ _ _ => ?_)
    | with_reducible refine good_ite ?_ ?_
    | simp only [good_mk_eq, List.length_map, List.length_set]
    | split

theorem State.vaultHole_good {g : Nat} (hgood : Good O Q s) : Good O Q (State.vaultHole s g) := by
  unfold State.vaultHole
  try dsimp only
  repeat' first
    | with_reducible assumption
    | with_reducible refine State.interruptWeighing_good ?_
    | with_reducible refine good_ite ?_ ?_
    | simp only [good_mk_eq, List.length_map, List.length_set]
    | split

theorem State.weigh_good {p : Nat} {net : Int} {marked : Bool} {t : Nat} {epoch : BitVec 16} (hgood : Good O Q s) : Good O Q (State.weigh s p net marked t epoch) := by
  unfold State.weigh
  try dsimp only
  repeat' first
    | with_reducible assumption
    | with_reducible refine State.closeInterval_good ?_
    | with_reducible refine State.setInterval_good ?_
    | with_reducible refine good_ite ?_ ?_
    | simp only [good_mk_eq, List.length_map, List.length_set]
    | split

theorem State.vaultFrame_good {g : Nat} {t : Nat} {epoch : BitVec 16} {outs : List (Nat × Nat × Int × Marks)} (hgood : Good O Q s) : Good O Q (State.vaultFrame s g t epoch outs) := by
  unfold State.vaultFrame
  try dsimp only
  repeat' first
    | with_reducible assumption
    | with_reducible refine State.vaultTaint_good ?_
    | with_reducible refine State.weigh_good ?_
    | with_reducible refine State.each_good ?_ (fun _ _ _ => ?_)
    | with_reducible refine good_foldl _ (fun _ _ _ => ?_) ?_
    | with_reducible refine good_ite ?_ ?_
    | simp only [good_mk_eq, List.length_map, List.length_set]
    | split

theorem State.vaultTake_good {takeover : Bool} (hgood : Good O Q s) : Good O Q (State.vaultTake s takeover) := by
  unfold State.vaultTake
  try dsimp only
  repeat' first
    | with_reducible assumption
    | with_reducible refine good_ite ?_ ?_
    | simp only [good_mk_eq, List.length_map, List.length_set]
    | split

theorem State.excClose_good {m : Nat} (hgood : Good O Q s) : Good O Q (State.excClose s m) := by
  unfold State.excClose
  try dsimp only
  repeat' first
    | with_reducible assumption
    | with_reducible refine State.endHandling_good ?_
    | with_reducible refine good_ite ?_ ?_
    | simp only [good_mk_eq, List.length_map, List.length_set]
    | split

theorem State.excFault_good {m : Nat} {bit : Nat} (hgood : Good O Q s) : Good O Q (State.excFault s m bit) := by
  unfold State.excFault
  try dsimp only
  repeat' first
    | with_reducible assumption
    | with_reducible refine State.raise_good ?_
    | with_reducible refine State.setBit_good ?_
    | with_reducible refine good_ite ?_ ?_
    | simp only [good_mk_eq, List.length_map, List.length_set]
    | split

theorem State.retryFailed_good {m : Nat} (hgood : Good O Q s) : Good O Q (State.retryFailed s m) := by
  unfold State.retryFailed
  try dsimp only
  repeat' first
    | with_reducible assumption
    | with_reducible refine State.setReg_good ?_
    | with_reducible refine good_ite ?_ ?_
    | simp only [good_mk_eq, List.length_map, List.length_set]
    | split

theorem State.toShort_good {m : Nat} (hgood : Good O Q s) : Good O Q (State.toShort s m) := by
  unfold State.toShort
  try dsimp only
  repeat' first
    | with_reducible assumption
    | with_reducible refine State.bump_good ?_
    | with_reducible refine State.excFault_good ?_
    | with_reducible refine State.retryFailed_good ?_
    | with_reducible refine State.updExc_good ?_
    | with_reducible refine State.doIf_good ?_ ?_
    | with_reducible refine good_ite ?_ ?_
    | simp only [good_mk_eq, List.length_map, List.length_set]
    | split

theorem State.toReversed_good {m : Nat} (hgood : Good O Q s) : Good O Q (State.toReversed s m) := by
  unfold State.toReversed
  try dsimp only
  repeat' first
    | with_reducible assumption
    | with_reducible refine State.excFault_good ?_
    | with_reducible refine State.retryFailed_good ?_
    | with_reducible refine State.updExc_good ?_
    | with_reducible refine State.doIf_good ?_ ?_
    | with_reducible refine good_ite ?_ ?_
    | simp only [good_mk_eq, List.length_map, List.length_set]
    | split

theorem State.goodPulse_good {m : Nat} (hgood : Good O Q s) : Good O Q (State.goodPulse s m) := by
  unfold State.goodPulse
  try dsimp only
  repeat' first
    | with_reducible assumption
    | with_reducible refine State.excClose_good ?_
    | with_reducible refine State.setReg_good ?_
    | with_reducible refine State.updExc_good ?_
    | with_reducible refine good_ite ?_ ?_
    | simp only [good_mk_eq, List.length_map, List.length_set]
    | split

theorem State.pumpCheck_good (hgood : Good O Q s) : Good O Q (State.pumpCheck s) := by
  unfold State.pumpCheck
  try dsimp only
  repeat' first
    | with_reducible assumption
    | with_reducible refine good_ite ?_ ?_
    | simp only [good_mk_eq, List.length_map, List.length_set]
    | split

theorem State.excStart_good {m : Nat} (hgood : Good O Q s) : Good O Q (State.excStart s m) := by
  unfold State.excStart
  try dsimp only
  repeat' first
    | with_reducible assumption
    | with_reducible refine State.updExc_good ?_
    | with_reducible refine good_ite ?_ ?_
    | simp only [good_mk_eq, List.length_map, List.length_set]
    | split

theorem State.excApply_good {m : Nat} {bad : Bool} {enabledAgain : Bool} (hgood : Good O Q s) : Good O Q (State.excApply s m bad enabledAgain) := by
  unfold State.excApply
  try dsimp only
  repeat' first
    | with_reducible assumption
    | with_reducible refine State.excStart_good ?_
    | with_reducible refine State.setExc_good ?_
    | with_reducible refine good_ite ?_ ?_
    | simp only [good_mk_eq, List.length_map, List.length_set]
    | split

theorem State.excApplyAll_good {bad : Bool} {writtenOn : List Nat} (hgood : Good O Q s) : Good O Q (State.excApplyAll s bad writtenOn) := by
  unfold State.excApplyAll
  try dsimp only
  repeat' first
    | with_reducible assumption
    | with_reducible refine State.excApply_good ?_
    | with_reducible refine State.pumpCheck_good ?_
    | with_reducible refine State.each_good ?_ (fun _ _ _ => ?_)
    | with_reducible refine good_ite ?_ ?_
    | simp only [good_mk_eq, List.length_map, List.length_set]
    | split

theorem State.excSeize_good (hgood : Good O Q s) : Good O Q (State.excSeize s) := by
  unfold State.excSeize
  try dsimp only
  repeat' first
    | with_reducible assumption
    | with_reducible refine State.updExc_good ?_
    | with_reducible refine State.each_good ?_ (fun _ _ _ => ?_)
    | with_reducible refine good_ite ?_ ?_
    | simp only [good_mk_eq, List.length_map, List.length_set]
    | split

theorem State.excUnseize_good (hgood : Good O Q s) : Good O Q (State.excUnseize s) := by
  unfold State.excUnseize
  try dsimp only
  repeat' first
    | with_reducible assumption
    | with_reducible refine State.updExc_good ?_
    | with_reducible refine State.each_good ?_ (fun _ _ _ => ?_)
    | with_reducible refine good_ite ?_ ?_
    | simp only [good_mk_eq, List.length_map, List.length_set]
    | split

theorem State.standbyEnd_good {m : Nat} (hgood : Good O Q s) : Good O Q (State.standbyEnd s m) := by
  unfold State.standbyEnd
  try dsimp only
  repeat' first
    | with_reducible assumption
    | with_reducible refine State.excApply_good ?_
    | with_reducible refine good_ite ?_ ?_
    | simp only [good_mk_eq, List.length_map, List.length_set]
    | split

theorem State.endPulses_good (hgood : Good O Q s) : Good O Q (State.endPulses s) := by
  unfold State.endPulses
  try dsimp only
  repeat' first
    | with_reducible assumption
    | with_reducible refine State.standbyEnd_good ?_
    | with_reducible refine State.updExc_good ?_
    | with_reducible refine State.each_good ?_ (fun _ _ _ => ?_)
    | with_reducible refine good_ite ?_ ?_
    | simp only [good_mk_eq, List.length_map, List.length_set]
    | split

theorem State.openCheck_good {m : Nat} {ua : Nat} (hgood : Good O Q s) : Good O Q (State.openCheck s m ua) := by
  unfold State.openCheck
  try dsimp only
  repeat' first
    | with_reducible assumption
    | with_reducible refine State.excClose_good ?_
    | with_reducible refine State.excFault_good ?_
    | with_reducible refine State.setExc_good ?_
    | with_reducible refine good_ite ?_ ?_
    | simp only [good_mk_eq, List.length_map, List.length_set]
    | split

theorem State.excAtEdge_good {m : Nat} {e : EdgeSample} {sagged : Bool} {ownSag : Bool} (hgood : Good O Q s) : Good O Q (State.excAtEdge s m e sagged ownSag) := by
  unfold State.excAtEdge
  try dsimp only
  repeat' first
    | with_reducible assumption
    | with_reducible refine State.openCheck_good ?_
    | with_reducible refine State.setBit_good ?_
    | with_reducible refine State.setExc_good ?_
    | with_reducible refine State.toShort_good ?_
    | with_reducible refine State.useInj_good ?_
    | with_reducible refine State.doIf_good ?_ ?_
    | with_reducible refine State.underInj_good ?_ (fun _ _ => ?_)
    | with_reducible refine good_ite ?_ ?_
    | simp only [good_mk_eq, List.length_map, List.length_set]
    | split

theorem State.excEdge_good {g : Nat} {e : EdgeSample} (hgood : Good O Q s) : Good O Q (State.excEdge s g e) := by
  unfold State.excEdge
  try dsimp only
  repeat' first
    | with_reducible assumption
    | with_reducible refine State.bump_good ?_
    | with_reducible refine State.excAtEdge_good ?_
    | with_reducible refine State.doIf_good ?_ ?_
    | with_reducible refine State.each_good ?_ (fun _ _ _ => ?_)
    | with_reducible refine good_ite ?_ ?_
    | simp only [good_mk_eq, List.length_map, List.length_set]
    | split

theorem State.excCut_good {g : Nat} {acceptUp : Nat} {edgeUp : Nat} (hgood : Good O Q s) : Good O Q (State.excCut s g acceptUp edgeUp) := by
  unfold State.excCut
  try dsimp only
  repeat' first
    | with_reducible assumption
    | with_reducible refine State.updExc_good ?_
    | with_reducible refine State.each_good ?_ (fun _ _ _ => ?_)
    | with_reducible refine good_ite ?_ ?_
    | simp only [good_mk_eq, List.length_map, List.length_set]
    | split

theorem State.startPulse_good {m : Nat} {k : Nat} (hgood : Good O Q s) : Good O Q (State.startPulse s m k) := by
  unfold State.startPulse
  try dsimp only
  repeat' first
    | with_reducible assumption
    | with_reducible refine State.bump_good ?_
    | with_reducible refine State.raise_good ?_
    | with_reducible refine State.setBit_good ?_
    | with_reducible refine State.updExc_good ?_
    | with_reducible refine good_ite ?_ ?_
    | simp only [good_mk_eq, List.length_map, List.length_set]
    | split

theorem execPolarityCheck_good {m : Fin 32} {senseUv : Int} (hgood : Good O Q s) : OutGood O Q (execPolarityCheck m senseUv s) := by
  unfold execPolarityCheck
  try dsimp only
  repeat' first
    | with_reducible assumption
    | with_reducible refine outGood_next ?_
    | with_reducible refine outGood_ite ?_ ?_
    | with_reducible refine State.reachUp_good ?_
    | with_reducible refine State.toReversed_good ?_
    | with_reducible refine State.useInj_good ?_
    | with_reducible refine State.doIf_good ?_ ?_
    | with_reducible refine State.underInj_good ?_ (fun _ _ => ?_)
    | with_reducible refine good_ite ?_ ?_
    | simp only [good_mk_eq, List.length_map, List.length_set]
    | split

theorem execInrushEnd_good {m : Fin 32} (hgood : Good O Q s) : OutGood O Q (execInrushEnd m s) := by
  unfold execInrushEnd
  try dsimp only
  repeat' first
    | with_reducible assumption
    | with_reducible refine outGood_next ?_
    | with_reducible refine outGood_ite ?_ ?_
    | with_reducible refine State.reachUp_good ?_
    | with_reducible refine State.updExc_good ?_
    | with_reducible refine good_ite ?_ ?_
    | simp only [good_mk_eq, List.length_map, List.length_set]
    | split

theorem execPulseEnd_good {m : Fin 32} {limited : Bool} (hgood : Good O Q s) : OutGood O Q (execPulseEnd m limited s) := by
  unfold execPulseEnd
  try dsimp only
  repeat' first
    | with_reducible assumption
    | with_reducible refine outGood_next ?_
    | with_reducible refine outGood_ite ?_ ?_
    | with_reducible refine State.goodPulse_good ?_
    | with_reducible refine State.reachUp_good ?_
    | with_reducible refine State.standbyEnd_good ?_
    | with_reducible refine State.toShort_good ?_
    | with_reducible refine State.useInj_good ?_
    | with_reducible refine State.doIf_good ?_ ?_
    | with_reducible refine State.underInj_good ?_ (fun _ _ => ?_)
    | with_reducible refine good_ite ?_ ?_
    | simp only [good_mk_eq, List.length_map, List.length_set]
    | split

theorem execShortDetect_good {m : Fin 32} (hgood : Good O Q s) : OutGood O Q (execShortDetect m s) := by
  unfold execShortDetect
  try dsimp only
  repeat' first
    | with_reducible assumption
    | with_reducible refine outGood_next ?_
    | with_reducible refine outGood_ite ?_ ?_
    | with_reducible refine State.standbyEnd_good ?_
    | with_reducible refine State.toShort_good ?_
    | with_reducible refine good_ite ?_ ?_
    | simp only [good_mk_eq, List.length_map, List.length_set]
    | split

theorem execRetryElapsed_good {m : Fin 32} (hgood : Good O Q s) : OutGood O Q (execRetryElapsed m s) := by
  unfold execRetryElapsed
  try dsimp only
  repeat' first
    | with_reducible assumption
    | with_reducible refine outGood_next ?_
    | with_reducible refine outGood_ite ?_ ?_
    | with_reducible refine State.reachUp_good ?_
    | with_reducible refine State.setExc_good ?_
    | with_reducible refine good_ite ?_ ?_
    | simp only [good_mk_eq, List.length_map, List.length_set]
    | split

theorem execOpenSenseTestEnd_good {m : Fin 32} {ran : Bool} {shiftPUv : Nat} {shiftNUv : Nat} (hgood : Good O Q s) : OutGood O Q (execOpenSenseTestEnd m ran shiftPUv shiftNUv s) := by
  unfold execOpenSenseTestEnd
  try dsimp only
  repeat' first
    | with_reducible assumption
    | with_reducible refine outGood_next ?_
    | with_reducible refine outGood_ite ?_ ?_
    | with_reducible refine State.excClose_good ?_
    | with_reducible refine State.excFault_good ?_
    | with_reducible refine State.setExc_good ?_
    | with_reducible refine State.useInj_good ?_
    | with_reducible refine State.doIf_good ?_ ?_
    | with_reducible refine State.underInj_good ?_ (fun _ _ => ?_)
    | with_reducible refine good_ite ?_ ?_
    | simp only [good_mk_eq, List.length_map, List.length_set]
    | split

theorem execPumpReady_good (hgood : Good O Q s) : OutGood O Q (execPumpReady s) := by
  unfold execPumpReady
  try dsimp only
  repeat' first
    | with_reducible assumption
    | with_reducible refine outGood_next ?_
    | with_reducible refine outGood_ite ?_ ?_
    | with_reducible refine State.updExc_good ?_
    | with_reducible refine State.each_good ?_ (fun _ _ _ => ?_)
    | with_reducible refine good_ite ?_ ?_
    | simp only [good_mk_eq, List.length_map, List.length_set]
    | split

theorem execPumpSagTimeout_good (hgood : Good O Q s) : OutGood O Q (execPumpSagTimeout s) := by
  unfold execPumpSagTimeout
  try dsimp only
  repeat' first
    | with_reducible assumption
    | with_reducible refine outGood_next ?_
    | with_reducible refine outGood_ite ?_ ?_
    | with_reducible refine State.endPulses_good ?_
    | with_reducible refine State.raise_good ?_
    | with_reducible refine State.reachUp_good ?_
    | with_reducible refine State.underInj_good ?_ (fun _ _ => ?_)
    | with_reducible refine good_ite ?_ ?_
    | simp only [good_mk_eq, List.length_map, List.length_set]
    | split

theorem State.rearm_good {m : Nat} {bit : Nat} {from_ : ExcMode} (hgood : Good O Q s) : Good O Q (State.rearm s m bit from_) := by
  unfold State.rearm
  try dsimp only
  repeat' first
    | with_reducible assumption
    | with_reducible refine State.clrBit_good ?_
    | with_reducible refine State.updExc_good ?_
    | with_reducible refine good_ite ?_ ?_
    | simp only [good_mk_eq, List.length_map, List.length_set]
    | split

theorem execShortSeenRearm_good {m : Fin 32} (hgood : Good O Q s) : OutGood O Q (execShortSeenRearm m s) := by
  unfold execShortSeenRearm
  try dsimp only
  repeat' first
    | with_reducible assumption
    | with_reducible refine outGood_next ?_
    | with_reducible refine outGood_ite ?_ ?_
    | with_reducible refine State.rearm_good ?_
    | with_reducible refine good_ite ?_ ?_
    | simp only [good_mk_eq, List.length_map, List.length_set]
    | split

theorem execReversedSeenRearm_good {m : Fin 32} (hgood : Good O Q s) : OutGood O Q (execReversedSeenRearm m s) := by
  unfold execReversedSeenRearm
  try dsimp only
  repeat' first
    | with_reducible assumption
    | with_reducible refine outGood_next ?_
    | with_reducible refine outGood_ite ?_ ?_
    | with_reducible refine State.rearm_good ?_
    | with_reducible refine good_ite ?_ ?_
    | simp only [good_mk_eq, List.length_map, List.length_set]
    | split

theorem State.ainFault_good {cls : Nat} {reg : Nat} {i : Nat} (hgood : Good O Q s) : Good O Q (State.ainFault s cls reg i) := by
  unfold State.ainFault
  try dsimp only
  repeat' first
    | with_reducible assumption
    | with_reducible refine State.raise_good ?_
    | with_reducible refine good_ite ?_ ?_
    | simp only [good_mk_eq, List.length_map, List.length_set]
    | split

theorem execProtectionOpen_good {i : Fin 512} {positive : Bool} (hgood : Good O Q s) : OutGood O Q (execProtectionOpen i positive s) := by
  unfold execProtectionOpen
  try dsimp only
  repeat' first
    | with_reducible assumption
    | with_reducible refine outGood_next ?_
    | with_reducible refine outGood_ite ?_ ?_
    | with_reducible refine State.ainFault_good ?_
    | with_reducible refine State.setAin_good ?_
    | with_reducible refine good_ite ?_ ?_
    | simp only [good_mk_eq, List.length_map, List.length_set]
    | split

theorem execProtectionClose_good {i : Fin 512} (hgood : Good O Q s) : OutGood O Q (execProtectionClose i s) := by
  unfold execProtectionClose
  try dsimp only
  repeat' first
    | with_reducible assumption
    | with_reducible refine outGood_next ?_
    | with_reducible refine outGood_ite ?_ ?_
    | with_reducible refine State.endHandling_good ?_
    | with_reducible refine State.updAin_good ?_
    | with_reducible refine good_ite ?_ ?_
    | simp only [good_mk_eq, List.length_map, List.length_set]
    | split

theorem State.ainAtEdge_good {i : Nat} {e : EdgeSample} (hgood : Good O Q s) : Good O Q (State.ainAtEdge s i e) := by
  unfold State.ainAtEdge
  try dsimp only
  repeat' first
    | with_reducible assumption
    | with_reducible refine State.ainFault_good ?_
    | with_reducible refine State.endHandling_good ?_
    | with_reducible refine State.setAin_good ?_
    | with_reducible refine State.useInj_good ?_
    | with_reducible refine State.doIf_good ?_ ?_
    | with_reducible refine State.underInj_good ?_ (fun _ _ => ?_)
    | with_reducible refine good_ite ?_ ?_
    | simp only [good_mk_eq, List.length_map, List.length_set]
    | split

theorem State.ainEdge_good {g : Nat} {e : EdgeSample} (hgood : Good O Q s) : Good O Q (State.ainEdge s g e) := by
  unfold State.ainEdge
  try dsimp only
  repeat' first
    | with_reducible assumption
    | with_reducible refine State.ainAtEdge_good ?_
    | with_reducible refine State.each_good ?_ (fun _ _ _ => ?_)
    | with_reducible refine good_ite ?_ ?_
    | simp only [good_mk_eq, List.length_map, List.length_set]
    | split

theorem State.reversal_good {i : Nat} {q : Int} (hgood : Good O Q s) : Good O Q (State.reversal s i q) := by
  unfold State.reversal
  try dsimp only
  repeat' first
    | with_reducible assumption
    | with_reducible refine State.ainFault_good ?_
    | with_reducible refine State.setAin_good ?_
    | with_reducible refine good_ite ?_ ?_
    | simp only [good_mk_eq, List.length_map, List.length_set]
    | split

theorem execOwTestStart_good (hgood : Good O Q s) : OutGood O Q (execOwTestStart s) := by
  unfold execOwTestStart
  try dsimp only
  repeat' first
    | with_reducible assumption
    | with_reducible refine outGood_next ?_
    | with_reducible refine outGood_ite ?_ ?_
    | with_reducible refine good_ite ?_ ?_
    | simp only [good_mk_eq, List.length_map, List.length_set]
    | split

theorem State.owResult_good {moved : List Nat} (hgood : Good O Q s) : Good O Q (State.owResult s moved) := by
  unfold State.owResult
  try dsimp only
  repeat' first
    | with_reducible assumption
    | with_reducible refine State.setReg_good ?_
    | with_reducible refine State.each_good ?_ (fun _ _ _ => ?_)
    | with_reducible refine good_ite ?_ ?_
    | simp only [good_mk_eq, List.length_map, List.length_set]
    | split

theorem execOwTestEnd_good {moved : List Nat} (hgood : Good O Q s) : OutGood O Q (execOwTestEnd moved s) := by
  unfold execOwTestEnd
  try dsimp only
  repeat' first
    | with_reducible assumption
    | with_reducible refine outGood_next ?_
    | with_reducible refine outGood_ite ?_ ?_
    | with_reducible refine State.owResult_good ?_
    | with_reducible refine State.reachUp_good ?_
    | with_reducible refine good_ite ?_ ?_
    | simp only [good_mk_eq, List.length_map, List.length_set]
    | split

theorem State.coreClose_good {n : Nat} (hgood : Good O Q s) : Good O Q (State.coreClose s n) := by
  unfold State.coreClose
  try dsimp only
  repeat' first
    | with_reducible assumption
    | with_reducible refine State.endHandling_good ?_
    | with_reducible refine good_ite ?_ ?_
    | simp only [good_mk_eq, List.length_map, List.length_set]
    | split

theorem State.coreJudge_good {n : Nat} {get : CoreSt → CheckSt} {put : CoreSt → CheckSt → CoreSt} {bit cls nFail nPass : Nat} {fail pass : Bool} (hgood : Good O Q s) :
    Good O Q (s.coreJudge n get put bit cls nFail nPass fail pass).1 := by
  unfold State.coreJudge
  dsimp only
  refine State.doIf_good (State.updCore_good hgood) ?_
  exact State.setBit_good (State.updCore_good hgood)

theorem State.coreReport_good {n : Nat} {old : CoreSt} {left : Bool} {es : List ErrIn} (hgood : Good O Q s) : Good O Q (State.coreReport s n old left es) := by
  unfold State.coreReport
  try dsimp only
  repeat' first
    | with_reducible assumption
    | with_reducible refine State.endHandling_good ?_
    | with_reducible refine State.raiseAll_good ?_
    | with_reducible refine State.doIf_good ?_ ?_
    | with_reducible refine good_ite ?_ ?_
    | simp only [good_mk_eq, List.length_map, List.length_set]
    | split

theorem State.coreCheck_good {n : Nat} {get : CoreSt → CheckSt} {put : CoreSt → CheckSt → CoreSt} {bit : Nat} {cls : Nat} {nFail : Nat} {nPass : Nat} {fail : Bool} {pass : Bool} (hgood : Good O Q s) : Good O Q (State.coreCheck s n get put bit cls nFail nPass fail pass) := by
  unfold State.coreCheck
  try dsimp only
  repeat' first
    | with_reducible assumption
    | with_reducible refine State.coreJudge_good ?_
    | with_reducible refine State.coreReport_good ?_
    | with_reducible refine good_ite ?_ ?_
    | simp only [good_mk_eq, List.length_map, List.length_set]
    | split

theorem State.refCheck_good {n : Nat} {code : Int} (hgood : Good O Q s) : Good O Q (State.refCheck s n code) := by
  unfold State.refCheck
  try dsimp only
  repeat' first
    | with_reducible assumption
    | with_reducible refine State.coreCheck_good ?_
    | with_reducible refine State.setReg_good ?_
    | with_reducible refine good_ite ?_ ?_
    | simp only [good_mk_eq, List.length_map, List.length_set]
    | split

theorem State.supplyCheck_good {n : Nat} {code : Int} (hgood : Good O Q s) : Good O Q (State.supplyCheck s n code) := by
  unfold State.supplyCheck
  try dsimp only
  repeat' first
    | with_reducible assumption
    | with_reducible refine State.coreCheck_good ?_
    | with_reducible refine State.setReg_good ?_
    | with_reducible refine good_ite ?_ ?_
    | simp only [good_mk_eq, List.length_map, List.length_set]
    | split

theorem State.tempCheck_good {n : Nat} {code : Int} (hgood : Good O Q s) : Good O Q (State.tempCheck s n code) := by
  unfold State.tempCheck
  try dsimp only
  repeat' first
    | with_reducible assumption
    | with_reducible refine State.coreJudge_good ?_
    | with_reducible refine State.coreReport_good ?_
    | with_reducible refine State.setReg_good ?_
    | with_reducible refine State.updCore_good ?_
    | with_reducible refine good_ite ?_ ?_
    | simp only [good_mk_eq, List.length_map, List.length_set]
    | split

theorem State.crossCheck_good {n : Nat} {diff : Int} (hgood : Good O Q s) : Good O Q (State.crossCheck s n diff) := by
  unfold State.crossCheck
  try dsimp only
  repeat' first
    | with_reducible assumption
    | with_reducible refine State.bump_good ?_
    | with_reducible refine State.coreClose_good ?_
    | with_reducible refine State.raise_good ?_
    | with_reducible refine State.setBit_good ?_
    | with_reducible refine State.setCore_good ?_
    | with_reducible refine State.setPair_good ?_
    | with_reducible refine State.setReg_good ?_
    | with_reducible refine State.doIf_good ?_ ?_
    | with_reducible refine good_ite ?_ ?_
    | simp only [good_mk_eq, List.length_map, List.length_set]
    | split

theorem State.tryCross_good {n : Nat} (hgood : Good O Q s) : Good O Q (State.tryCross s n) := by
  unfold State.tryCross
  try dsimp only
  repeat' first
    | with_reducible assumption
    | with_reducible refine State.crossCheck_good ?_
    | with_reducible refine good_ite ?_ ?_
    | simp only [good_mk_eq, List.length_map, List.length_set]
    | split

theorem State.timedOut_good {n : Nat} {injected : Bool} (hgood : Good O Q s) : Good O Q (State.timedOut s n injected) := by
  unfold State.timedOut
  try dsimp only
  repeat' first
    | with_reducible assumption
    | with_reducible refine State.bump_good ?_
    | with_reducible refine State.setBitRaise_good ?_
    | with_reducible refine State.underInj_good ?_ (fun _ _ => ?_)
    | with_reducible refine good_ite ?_ ?_
    | simp only [good_mk_eq, List.length_map, List.length_set]
    | split

theorem State.inputDone_good {n : Nat} {slot : Nat} {k : Nat} {d : BitVec 22} {done : Bool} (hgood : Good O Q s) : Good O Q (State.inputDone s n slot k d done) := by
  unfold State.inputDone
  try dsimp only
  repeat' first
    | with_reducible assumption
    | with_reducible refine State.setRes_good ?_
    | with_reducible refine State.tryCross_good ?_
    | with_reducible refine good_ite ?_ ?_
    | simp only [good_mk_eq, List.length_map, List.length_set]
    | split

theorem State.checkDone_good {n : Nat} {slot : Nat} {d : BitVec 22} {done : Bool} (hgood : Good O Q s) : Good O Q (State.checkDone s n slot d done) := by
  unfold State.checkDone
  try dsimp only
  repeat' first
    | with_reducible assumption
    | with_reducible refine State.refCheck_good ?_
    | with_reducible refine State.supplyCheck_good ?_
    | with_reducible refine State.tempCheck_good ?_
    | with_reducible refine State.tryCross_good ?_
    | with_reducible refine State.updCore_good ?_
    | with_reducible refine State.useInj_good ?_
    | with_reducible refine State.doIf_good ?_ ?_
    | with_reducible refine State.underInj_good ?_ (fun _ _ => ?_)
    | with_reducible refine good_ite ?_ ?_
    | simp only [good_mk_eq, List.length_map, List.length_set]
    | split

theorem State.convert_good {n : Nat} {slot : Nat} {k : Nat} {d : BitVec 22} {completed : Bool} {injected : Bool} (hgood : Good O Q s) : Good O Q (State.convert s n slot k d completed injected) := by
  unfold State.convert
  try dsimp only
  repeat' first
    | with_reducible assumption
    | with_reducible refine State.checkDone_good ?_
    | with_reducible refine State.inputDone_good ?_
    | with_reducible refine State.timedOut_good ?_
    | with_reducible refine State.doIf_good ?_ ?_
    | with_reducible refine good_ite ?_ ?_
    | simp only [good_mk_eq, List.length_map, List.length_set]
    | split

theorem execConversionDone_good {n : Fin 64} {slot : Fin 12} {noise : Nat} {completed : Bool} (hgood : Good O Q s) : OutGood O Q (execConversionDone n slot noise completed s) := by
  unfold execConversionDone
  try dsimp only
  repeat' first
    | with_reducible assumption
    | with_reducible refine outGood_next ?_
    | with_reducible refine outGood_ite ?_ ?_
    | with_reducible refine State.convert_good ?_
    | with_reducible refine State.reachUp_good ?_
    | with_reducible refine State.updCore_good ?_
    | with_reducible refine State.useInj_good ?_
    | with_reducible refine State.doIf_good ?_ ?_
    | with_reducible refine good_ite ?_ ?_
    | simp only [good_mk_eq, List.length_map, List.length_set]
    | split

theorem State.finishScan_good {f : FrameSt} {n : Nat} (hgood : Good O Q s) : Good O Q (State.finishScan s f n) := by
  unfold State.finishScan
  try dsimp only
  repeat' first
    | with_reducible assumption
    | with_reducible refine State.convert_good ?_
    | with_reducible refine State.each_good ?_ (fun _ _ _ => ?_)
    | with_reducible refine good_ite ?_ ?_
    | simp only [good_mk_eq, List.length_map, List.length_set]
    | split

theorem State.chainFrom_good {i k : Nat} {f : Nat} : ∀ {s : State} {st : Nat} {x : Int × Marks}, Good O Q s → Good O Q (State.chainFrom s i k f st x).1 := by
  induction f with
  | zero => intro s st x h; exact h
  | succ f ih =>
    intro s st x h
    unfold State.chainFrom
    dsimp only
    split
    · exact State.setFlt_good h
    · exact ih (State.doIf_good (State.setFlt_good h) (State.bump_good (State.setFlt_good h)))

theorem State.chainRun_good {i k : Nat} {x : Int × Marks} (hgood : Good O Q s) : Good O Q (s.chainRun i k x).1 := State.chainFrom_good hgood

theorem State.chainReset_good {i : Nat} (hgood : Good O Q s) : Good O Q (State.chainReset s i) := by
  unfold State.chainReset
  try dsimp only
  repeat' first
    | with_reducible assumption
    | with_reducible refine State.setFlt_good ?_
    | with_reducible refine State.each_good ?_ (fun _ _ _ => ?_)
    | with_reducible refine good_ite ?_ ?_
    | simp only [good_mk_eq, List.length_map, List.length_set]
    | split

theorem State.mainsDeliver_good {m : Option Tq} {completed : Bool} (hgood : Good O Q s) : Good O Q (State.mainsDeliver s m completed) := by
  unfold State.mainsDeliver
  try dsimp only
  repeat' first
    | with_reducible assumption
    | with_reducible refine State.setBit_good ?_
    | with_reducible refine State.doIf_good ?_ ?_
    | with_reducible refine good_ite ?_ ?_
    | simp only [good_mk_eq, List.length_map, List.length_set]
    | split

theorem State.mainsInvalid_good {completed : Bool} (hgood : Good O Q s) : Good O Q (State.mainsInvalid s completed) := by
  unfold State.mainsInvalid
  try dsimp only
  repeat' first
    | with_reducible assumption
    | with_reducible refine State.bump_good ?_
    | with_reducible refine State.mainsDeliver_good ?_
    | with_reducible refine good_ite ?_ ?_
    | simp only [good_mk_eq, List.length_map, List.length_set]
    | split

theorem State.mainsHole_good {g : Nat} (hgood : Good O Q s) : Good O Q (State.mainsHole s g) := by
  unfold State.mainsHole
  try dsimp only
  repeat' first
    | with_reducible assumption
    | with_reducible refine State.mainsInvalid_good ?_
    | with_reducible refine good_ite ?_ ?_
    | simp only [good_mk_eq, List.length_map, List.length_set]
    | split

theorem State.mainsCross_good {tc : Tq} {bad : Bool} (hgood : Good O Q s) : Good O Q (State.mainsCross s tc bad) := by
  unfold State.mainsCross
  try dsimp only
  repeat' first
    | with_reducible assumption
    | with_reducible refine State.bump_good ?_
    | with_reducible refine State.mainsDeliver_good ?_
    | with_reducible refine State.mainsInvalid_good ?_
    | with_reducible refine State.setBit_good ?_
    | with_reducible refine State.setReg_good ?_
    | with_reducible refine State.doIf_good ?_ ?_
    | with_reducible refine good_ite ?_ ?_
    | simp only [good_mk_eq, List.length_map, List.length_set]
    | split

theorem State.mainsResult_good {t : Tq} {q : Int} {marks : Marks} (hgood : Good O Q s) : Good O Q (State.mainsResult s t q marks) := by
  unfold State.mainsResult
  try dsimp only
  repeat' first
    | with_reducible assumption
    | with_reducible refine State.mainsCross_good ?_
    | with_reducible refine good_ite ?_ ?_
    | simp only [good_mk_eq, List.length_map, List.length_set]
    | split

theorem execMainsCrossingTimeout_good (hgood : Good O Q s) : OutGood O Q (execMainsCrossingTimeout s) := by
  unfold execMainsCrossingTimeout
  try dsimp only
  repeat' first
    | with_reducible assumption
    | with_reducible refine outGood_next ?_
    | with_reducible refine outGood_ite ?_ ?_
    | with_reducible refine State.mainsInvalid_good ?_
    | with_reducible refine State.reach_good ?_
    | with_reducible refine good_ite ?_ ?_
    | simp only [good_mk_eq, List.length_map, List.length_set]
    | split

theorem State.writeWeightsOf_good {c : Look} {ta : Tq} {g : Nat} (hgood : Good O Q s) : Good O Q (State.writeWeightsOf s c ta g) := by
  unfold State.writeWeightsOf
  try dsimp only
  repeat' first
    | with_reducible assumption
    | with_reducible refine State.setReg_good ?_
    | with_reducible refine State.each_good ?_ (fun _ _ _ => ?_)
    | with_reducible refine good_ite ?_ ?_
    | simp only [good_mk_eq, List.length_map, List.length_set]
    | split

theorem State.writeWeights_good {g : Nat} (hgood : Good O Q s) : Good O Q (State.writeWeights s g) := by
  unfold State.writeWeights
  try dsimp only
  repeat' first
    | with_reducible assumption
    | with_reducible refine State.writeWeightsOf_good ?_
    | with_reducible refine good_ite ?_ ?_
    | simp only [good_mk_eq, List.length_map, List.length_set]
    | split

theorem State.setTa_good {t : Tq} (hgood : Good O Q s) : Good O Q (State.setTa s t) := by
  unfold State.setTa
  try dsimp only
  repeat' first
    | with_reducible assumption
    | with_reducible refine State.setReg_good ?_
    | with_reducible refine good_ite ?_ ?_
    | simp only [good_mk_eq, List.length_map, List.length_set]
    | split

theorem State.mainsMode_good {m : MainsMode} (hgood : Good O Q s) : Good O Q (State.mainsMode s m) := by
  unfold State.mainsMode
  try dsimp only
  repeat' first
    | with_reducible assumption
    | with_reducible refine State.endHandling_good ?_
    | with_reducible refine State.raise_good ?_
    | with_reducible refine State.setBit_good ?_
    | with_reducible refine good_ite ?_ ?_
    | simp only [good_mk_eq, List.length_map, List.length_set]
    | split

theorem State.newTa_good {t : Tq} {applyF : Option (Nat × Nat)} (hgood : Good O Q s) : Good O Q (State.newTa s t applyF) := by
  unfold State.newTa
  try dsimp only
  repeat' first
    | with_reducible assumption
    | with_reducible refine State.setTa_good ?_
    | with_reducible refine good_ite ?_ ?_
    | simp only [good_mk_eq, List.length_map, List.length_set]
    | split

theorem State.accept_good {t : Tq} (hgood : Good O Q s) : Good O Q (State.accept s t) := by
  unfold State.accept
  try dsimp only
  repeat' first
    | with_reducible assumption
    | with_reducible refine State.newTa_good ?_
    | with_reducible refine State.sendOn_good ?_
    | with_reducible refine good_ite ?_ ?_
    | simp only [good_mk_eq, List.length_map, List.length_set]
    | split

theorem State.mainsTake_good {m : Option Tq} (hgood : Good O Q s) : Good O Q (State.mainsTake s m) := by
  unfold State.mainsTake
  try dsimp only
  repeat' first
    | with_reducible assumption
    | with_reducible refine State.accept_good ?_
    | with_reducible refine State.mainsMode_good ?_
    | with_reducible refine good_ite ?_ ?_
    | simp only [good_mk_eq, List.length_map, List.length_set]
    | split

theorem execMainsAccept_good (hgood : Good O Q s) : OutGood O Q (execMainsAccept s) := by
  unfold execMainsAccept
  try dsimp only
  repeat' first
    | with_reducible assumption
    | with_reducible refine outGood_next ?_
    | with_reducible refine outGood_ite ?_ ?_
    | with_reducible refine State.mainsTake_good ?_
    | with_reducible refine good_ite ?_ ?_
    | simp only [good_mk_eq, List.length_map, List.length_set]
    | split

theorem execMainsStateTimer_good (hgood : Good O Q s) : OutGood O Q (execMainsStateTimer s) := by
  unfold execMainsStateTimer
  try dsimp only
  repeat' first
    | with_reducible assumption
    | with_reducible refine outGood_next ?_
    | with_reducible refine outGood_ite ?_ ?_
    | with_reducible refine State.raise_good ?_
    | with_reducible refine State.reachUp_good ?_
    | with_reducible refine State.setBit_good ?_
    | with_reducible refine good_ite ?_ ?_
    | simp only [good_mk_eq, List.length_map, List.length_set]
    | split

theorem State.mainsBoundary_good {g : Nat} (hgood : Good O Q s) : Good O Q (State.mainsBoundary s g) := by
  unfold State.mainsBoundary
  try dsimp only
  repeat' first
    | with_reducible assumption
    | with_reducible refine good_ite ?_ ?_
    | simp only [good_mk_eq, List.length_map, List.length_set]
    | split

theorem State.setTaken_good {g : Nat} {t : Tq} {pends : Bool} (hgood : Good O Q s) : Good O Q (State.setTaken s g t pends) := by
  unfold State.setTaken
  try dsimp only
  repeat' first
    | with_reducible assumption
    | with_reducible refine good_ite ?_ ?_
    | simp only [good_mk_eq, List.length_map, List.length_set]
    | split

theorem execMainsWeightApply_good {g : Group} (hgood : Good O Q s) : OutGood O Q (execMainsWeightApply g s) := by
  unfold execMainsWeightApply
  try dsimp only
  repeat' first
    | with_reducible assumption
    | with_reducible refine outGood_next ?_
    | with_reducible refine outGood_ite ?_ ?_
    | with_reducible refine State.setTaken_good ?_
    | with_reducible refine State.writeWeights_good ?_
    | with_reducible refine good_ite ?_ ?_
    | simp only [good_mk_eq, List.length_map, List.length_set]
    | split

theorem State.mainsRestart_good (hgood : Good O Q s) : Good O Q (State.mainsRestart s) := by
  unfold State.mainsRestart
  try dsimp only
  repeat' first
    | with_reducible assumption
    | with_reducible refine State.mainsMode_good ?_
    | with_reducible refine State.newTa_good ?_
    | with_reducible refine State.setTa_good ?_
    | with_reducible refine good_ite ?_ ?_
    | simp only [good_mk_eq, List.length_map, List.length_set]
    | split

theorem State.mainsLoad_good {c : Look} {restarted : Bool} {g : Nat} (hgood : Good O Q s) : Good O Q (State.mainsLoad s c restarted g) := by
  unfold State.mainsLoad
  try dsimp only
  repeat' first
    | with_reducible assumption
    | with_reducible refine State.setTaken_good ?_
    | with_reducible refine State.writeWeightsOf_good ?_
    | with_reducible refine good_ite ?_ ?_
    | simp only [good_mk_eq, List.length_map, List.length_set]
    | split

theorem State.hiveTrim_good {f : Nat} : ∀ {s : State}, Good O Q s → Good O Q (State.hiveTrim f s) := by
  induction f with
  | zero => intro s  h; exact h
  | succ f ih =>
    intro s  h
    unfold State.hiveTrim
    try dsimp only
    repeat' first
      | with_reducible assumption
      | with_reducible refine ih ?_
      | with_reducible refine State.setHiveLost_good ?_
      | with_reducible refine good_ite ?_ ?_
      | simp only [good_mk_eq, List.length_map, List.length_set]
      | split

theorem State.hiveFit_good (hgood : Good O Q s) : Good O Q (State.hiveFit s) := by
  unfold State.hiveFit
  try dsimp only
  repeat' first
    | with_reducible assumption
    | with_reducible refine State.hiveTrim_good ?_
    | with_reducible refine good_ite ?_ ?_
    | simp only [good_mk_eq, List.length_map, List.length_set]
    | split

theorem State.cmpBytes_good {plain : Nat} {packed : Nat} (hgood : Good O Q s) : Good O Q (State.cmpBytes s plain packed) := by
  unfold State.cmpBytes
  try dsimp only
  repeat' first
    | with_reducible assumption
    | with_reducible refine State.setReg64_good ?_
    | with_reducible refine good_ite ?_ ?_
    | simp only [good_mk_eq, List.length_map, List.length_set]
    | split

theorem State.cmpPacket_good {p : Packet} (hgood : Good O Q s) : Good O Q (State.cmpPacket s p) := by
  unfold State.cmpPacket
  try dsimp only
  repeat' first
    | with_reducible assumption
    | with_reducible refine State.bump_good ?_
    | with_reducible refine State.cmpBytes_good ?_
    | with_reducible refine good_ite ?_ ?_
    | simp only [good_mk_eq, List.length_map, List.length_set]
    | split

theorem State.setLane_good {n : Nat} {w : LaneWork} (hgood : Good O Q s) : Good O Q (State.setLane s n w) := by
  unfold State.setLane
  try dsimp only
  repeat' first
    | with_reducible assumption
    | with_reducible refine good_ite ?_ ?_
    | simp only [good_mk_eq, List.length_map, List.length_set]
    | split

theorem State.leaveLane_good {p : Packet} (hgood : Good O Q s) : Good O Q (State.leaveLane s p) := by
  unfold State.leaveLane
  try dsimp only
  repeat' first
    | with_reducible assumption
    | with_reducible refine State.setLane_good ?_
    | with_reducible refine good_ite ?_ ?_
    | simp only [good_mk_eq, List.length_map, List.length_set]
    | split

theorem State.updJob_good {id : Nat} {f : JobSt → JobSt} (hgood : Good O Q s) : Good O Q (State.updJob s id f) := by
  unfold State.updJob
  try dsimp only
  repeat' first
    | with_reducible assumption
    | with_reducible refine good_ite ?_ ?_
    | simp only [good_mk_eq, List.length_map, List.length_set]
    | split

theorem State.dropJob_good {id : Nat} (hgood : Good O Q s) : Good O Q (State.dropJob s id) := by
  unfold State.dropJob
  try dsimp only
  repeat' first
    | with_reducible assumption
    | with_reducible refine good_ite ?_ ?_
    | simp only [good_mk_eq, List.length_map, List.length_set]
    | split

theorem State.chainPast_good {d : Desc} (hgood : Good O Q s) : Good O Q (State.chainPast s d) := by
  unfold State.chainPast
  try dsimp only
  repeat' first
    | with_reducible assumption
    | with_reducible refine good_ite ?_ ?_
    | simp only [good_mk_eq, List.length_map, List.length_set]
    | split

theorem State.takeSeg_good {d : Desc} {j : JobSt} {n : Nat} (hgood : Good O Q s) : Good O Q (State.takeSeg s d j n) := by
  unfold State.takeSeg
  try dsimp only
  repeat' first
    | with_reducible assumption
    | with_reducible refine State.chainPast_good ?_
    | with_reducible refine State.dropJob_good ?_
    | with_reducible refine State.retireBad_good ?_
    | with_reducible refine State.setLane_good ?_
    | with_reducible refine State.updJob_good ?_
    | with_reducible refine good_ite ?_ ?_
    | simp only [good_mk_eq, List.length_map, List.length_set]
    | split

theorem State.assignLanes_good {f : Nat} : ∀ {s : State}, Good O Q s → Good O Q (State.assignLanes f s) := by
  induction f with
  | zero => intro s  h; exact h
  | succ f ih =>
    intro s  h
    unfold State.assignLanes
    try dsimp only
    repeat' first
      | with_reducible assumption
      | with_reducible refine ih ?_
      | with_reducible refine State.updStrm_good ?_
      | with_reducible refine State.setLane_good ?_
      | with_reducible refine State.takeSeg_good ?_
      | with_reducible refine good_ite ?_ ?_
      | simp only [good_mk_eq, List.length_map, List.length_set]
      | split

theorem State.assignAll_good (hgood : Good O Q s) : Good O Q (State.assignAll s) := by
  unfold State.assignAll
  try dsimp only
  repeat' first
    | with_reducible assumption
    | with_reducible refine State.assignLanes_good ?_
    | with_reducible refine good_ite ?_ ?_
    | simp only [good_mk_eq, List.length_map, List.length_set]
    | split

theorem State.report_good {e : SyncEntry} (hgood : Good O Q s) : Good O Q (State.report s e) := by
  unfold State.report
  try dsimp only
  repeat' first
    | with_reducible assumption
    | with_reducible refine State.sendOn_good ?_
    | with_reducible refine good_ite ?_ ?_
    | simp only [good_mk_eq, List.length_map, List.length_set]
    | split

theorem State.renumberLosses_good {g : Nat} {endK : Option Nat} {start : Nat} (hgood : Good O Q s) : Good O Q (State.renumberLosses s g endK start) := by
  unfold State.renumberLosses
  try dsimp only
  repeat' first
    | with_reducible assumption
    | with_reducible refine State.updStrm_good ?_
    | with_reducible refine State.each_good ?_ (fun _ _ _ => ?_)
    | with_reducible refine good_ite ?_ ?_
    | simp only [good_mk_eq, List.length_map, List.length_set]
    | split

theorem State.countGap_good {x : Nat} {p : Packet} {g : GapInfo} (hgood : Good O Q s) : Good O Q (State.countGap s x p g) := by
  unfold State.countGap
  try dsimp only
  repeat' first
    | with_reducible assumption
    | with_reducible refine State.bump_good ?_
    | with_reducible refine State.report_good ?_
    | with_reducible refine State.setBit_good ?_
    | with_reducible refine State.setReg64_good ?_
    | with_reducible refine good_ite ?_ ?_
    | simp only [good_mk_eq, List.length_map, List.length_set]
    | split

theorem State.endRecord_good {x : Nat} {p : Packet} {last : Packet} (hgood : Good O Q s) : Good O Q (State.endRecord s x p last) := by
  unfold State.endRecord
  try dsimp only
  repeat' first
    | with_reducible assumption
    | with_reducible refine State.setStrm_good ?_
    | with_reducible refine good_ite ?_ ?_
    | simp only [good_mk_eq, List.length_map, List.length_set]
    | split

theorem State.overflowAt_good {x : Nat} {p : Packet} (hgood : Good O Q s) : Good O Q (State.overflowAt s x p) := by
  unfold State.overflowAt
  try dsimp only
  repeat' first
    | with_reducible assumption
    | with_reducible refine State.endRecord_good ?_
    | with_reducible refine State.setStrm_good ?_
    | with_reducible refine good_ite ?_ ?_
    | simp only [good_mk_eq, List.length_map, List.length_set]
    | split

theorem State.memoryGap_good {x : Nat} {p : Packet} {rest : List Packet} {detail : Nat} (hgood : Good O Q s) : Good O Q (State.memoryGap s x p rest detail) := by
  unfold State.memoryGap
  try dsimp only
  repeat' first
    | with_reducible assumption
    | with_reducible refine State.countGap_good ?_
    | with_reducible refine State.enqueue_good ?_
    | with_reducible refine State.setBit_good ?_
    | with_reducible refine State.setStrm_good ?_
    | with_reducible refine good_ite ?_ ?_
    | simp only [good_mk_eq, List.length_map, List.length_set]
    | split

theorem State.placeHead_good {x : Nat} (hgood : Good O Q s) : Good O Q (State.placeHead s x) := by
  unfold State.placeHead
  try dsimp only
  repeat' first
    | with_reducible assumption
    | with_reducible refine State.countGap_good ?_
    | with_reducible refine State.enqueue_good ?_
    | with_reducible refine State.hiveFit_good ?_
    | with_reducible refine State.memWrite_good ?_
    | with_reducible refine State.memoryGap_good ?_
    | with_reducible refine State.overflowAt_good ?_
    | with_reducible refine State.report_good ?_
    | with_reducible refine State.setBit_good ?_
    | with_reducible refine State.setStrm_good ?_
    | with_reducible refine State.doIf_good ?_ ?_
    | with_reducible refine State.underInj_good ?_ (fun _ _ => ?_)
    | with_reducible refine good_ite ?_ ?_
    | simp only [good_mk_eq, List.length_map, List.length_set]
    | split

theorem State.placeAll_good {f : Nat} : ∀ {s : State} {x : Nat}, Good O Q s → Good O Q (State.placeAll f s x) := by
  induction f with
  | zero => intro s x h; exact h
  | succ f ih =>
    intro s x h
    unfold State.placeAll
    try dsimp only
    repeat' first
      | with_reducible assumption
      | with_reducible refine ih ?_
      | with_reducible refine State.placeHead_good ?_
      | with_reducible refine good_ite ?_ ?_
      | simp only [good_mk_eq, List.length_map, List.length_set]
      | split

theorem State.pushGap_good {x : Nat} {l : LossSt} {endK : Nat} {endT : Tq} (hgood : Good O Q s) : Good O Q (State.pushGap s x l endK endT) := by
  unfold State.pushGap
  try dsimp only
  repeat' first
    | with_reducible assumption
    | with_reducible refine State.setStrm_good ?_
    | with_reducible refine good_ite ?_ ?_
    | simp only [good_mk_eq, List.length_map, List.length_set]
    | split

theorem State.retireBuf_good {x : Nat} {b : StreamBuf} (hgood : Good O Q s) : Good O Q (State.retireBuf s x b) := by
  unfold State.retireBuf
  try dsimp only
  repeat' first
    | with_reducible assumption
    | with_reducible refine State.report_good ?_
    | with_reducible refine State.retire_good ?_
    | with_reducible refine State.updStrm_good ?_
    | with_reducible refine good_ite ?_ ?_
    | simp only [good_mk_eq, List.length_map, List.length_set]
    | split

theorem State.retireEmpty_good {x : Nat} {b : StreamBuf} {status : Nat} (hgood : Good O Q s) : Good O Q (State.retireEmpty s x b status) := by
  unfold State.retireEmpty
  try dsimp only
  repeat' first
    | with_reducible assumption
    | with_reducible refine State.retireBad_good ?_
    | with_reducible refine State.updStrm_good ?_
    | with_reducible refine good_ite ?_ ?_
    | simp only [good_mk_eq, List.length_map, List.length_set]
    | split

theorem State.bufSettle_good {f : Nat} : ∀ {s : State} {x : Nat}, Good O Q s → Good O Q (State.bufSettle f s x) := by
  induction f with
  | zero => intro s x h; exact h
  | succ f ih =>
    intro s x h
    unfold State.bufSettle
    try dsimp only
    repeat' first
      | with_reducible assumption
      | with_reducible refine ih ?_
      | with_reducible refine State.retireEmpty_good ?_
      | with_reducible refine State.retireBuf_good ?_
      | with_reducible refine good_ite ?_ ?_
      | simp only [good_mk_eq, List.length_map, List.length_set]
      | split

theorem State.fillBuf_good {x : Nat} {b : StreamBuf} {p : Packet} (hgood : Good O Q s) : Good O Q (State.fillBuf s x b p) := by
  unfold State.fillBuf
  try dsimp only
  repeat' first
    | with_reducible assumption
    | with_reducible refine State.hostWrite_good ?_
    | with_reducible refine State.updStrm_good ?_
    | with_reducible refine good_ite ?_ ?_
    | simp only [good_mk_eq, List.length_map, List.length_set]
    | split

theorem State.replaceDamaged_good {x : Nat} (hgood : Good O Q s) : Good O Q (State.replaceDamaged s x) := by
  unfold State.replaceDamaged
  try dsimp only
  repeat' first
    | with_reducible assumption
    | with_reducible refine State.countGap_good ?_
    | with_reducible refine State.setBit_good ?_
    | with_reducible refine State.setStrm_good ?_
    | with_reducible refine good_ite ?_ ?_
    | simp only [good_mk_eq, List.length_map, List.length_set]
    | split

theorem State.endBufs_good {x : Nat} (hgood : Good O Q s) : Good O Q (State.endBufs s x) := by
  unfold State.endBufs
  try dsimp only
  repeat' first
    | with_reducible assumption
    | with_reducible refine State.retireEmpty_good ?_
    | with_reducible refine State.each_good ?_ (fun _ _ _ => ?_)
    | with_reducible refine good_ite ?_ ?_
    | simp only [good_mk_eq, List.length_map, List.length_set]
    | split

theorem State.deliverPacket_good {x : Nat} (hgood : Good O Q s) : Good O Q (State.deliverPacket s x) := by
  unfold State.deliverPacket
  try dsimp only
  repeat' first
    | with_reducible assumption
    | with_reducible refine State.bufSettle_good ?_
    | with_reducible refine State.endBufs_good ?_
    | with_reducible refine State.fillBuf_good ?_
    | with_reducible refine State.replaceDamaged_good ?_
    | with_reducible refine State.retireBuf_good ?_
    | with_reducible refine State.updStrm_good ?_
    | with_reducible refine good_ite ?_ ?_
    | simp only [good_mk_eq, List.length_map, List.length_set]
    | split

theorem State.streamSettle_good {x : Nat} (hgood : Good O Q s) : Good O Q (State.streamSettle s x) := by
  unfold State.streamSettle
  try dsimp only
  repeat' first
    | with_reducible assumption
    | with_reducible refine State.assignAll_good ?_
    | with_reducible refine State.bufSettle_good ?_
    | with_reducible refine State.placeAll_good ?_
    | with_reducible refine good_ite ?_ ?_
    | simp only [good_mk_eq, List.length_map, List.length_set]
    | split

theorem State.closePacket_good {x : Nat} (hgood : Good O Q s) : Good O Q (State.closePacket s x) := by
  unfold State.closePacket
  try dsimp only
  repeat' first
    | with_reducible assumption
    | with_reducible refine State.setStrm_good ?_
    | with_reducible refine State.streamSettle_good ?_
    | with_reducible refine good_ite ?_ ?_
    | simp only [good_mk_eq, List.length_map, List.length_set]
    | split

theorem State.writeGaps_good {x : Nat} {endK : Nat} {endT : Tq} (hgood : Good O Q s) : Good O Q (State.writeGaps s x endK endT) := by
  unfold State.writeGaps
  try dsimp only
  repeat' first
    | with_reducible assumption
    | with_reducible refine State.pushGap_good ?_
    | with_reducible refine State.streamSettle_good ?_
    | with_reducible refine State.updStrm_good ?_
    | with_reducible refine State.each_good ?_ (fun _ _ _ => ?_)
    | with_reducible refine good_ite ?_ ?_
    | simp only [good_mk_eq, List.length_map, List.length_set]
    | split

theorem State.holdFrame_good {x : Nat} {epoch : BitVec 16} {f : PktFrame} (hgood : Good O Q s) : Good O Q (State.holdFrame s x epoch f) := by
  unfold State.holdFrame
  try dsimp only
  repeat' first
    | with_reducible assumption
    | with_reducible refine State.setStrm_good ?_
    | with_reducible refine good_ite ?_ ?_
    | simp only [good_mk_eq, List.length_map, List.length_set]
    | split

theorem State.putFrame_good {x : Nat} {epoch : BitVec 16} {f : PktFrame} (hgood : Good O Q s) : Good O Q (State.putFrame s x epoch f) := by
  unfold State.putFrame
  try dsimp only
  repeat' first
    | with_reducible assumption
    | with_reducible refine State.setStrm_good ?_
    | with_reducible refine good_ite ?_ ?_
    | simp only [good_mk_eq, List.length_map, List.length_set]
    | split

theorem State.closeIfFull_good {x : Nat} (hgood : Good O Q s) : Good O Q (State.closeIfFull s x) := by
  unfold State.closeIfFull
  try dsimp only
  repeat' first
    | with_reducible assumption
    | with_reducible refine State.closePacket_good ?_
    | with_reducible refine good_ite ?_ ?_
    | simp only [good_mk_eq, List.length_map, List.length_set]
    | split

theorem State.appendFrame_good {x : Nat} {k : Nat} {edge : Tq} {epoch : BitVec 16} {samples : List (Int × Marks)} (hgood : Good O Q s) : Good O Q (State.appendFrame s x k edge epoch samples) := by
  unfold State.appendFrame
  try dsimp only
  repeat' first
    | with_reducible assumption
    | with_reducible refine State.closeIfFull_good ?_
    | with_reducible refine State.closePacket_good ?_
    | with_reducible refine State.holdFrame_good ?_
    | with_reducible refine State.putFrame_good ?_
    | with_reducible refine State.updStrm_good ?_
    | with_reducible refine State.writeGaps_good ?_
    | with_reducible refine good_ite ?_ ?_
    | simp only [good_mk_eq, List.length_map, List.length_set]
    | split

theorem State.closeStreams_good {xs : List Nat} (hgood : Good O Q s) : Good O Q (State.closeStreams s xs) := by
  unfold State.closeStreams
  try dsimp only
  repeat' first
    | with_reducible assumption
    | with_reducible refine State.closePacket_good ?_
    | with_reducible refine State.updStrm_good ?_
    | with_reducible refine State.each_good ?_ (fun _ _ _ => ?_)
    | with_reducible refine good_ite ?_ ?_
    | simp only [good_mk_eq, List.length_map, List.length_set]
    | split

theorem State.loseNow_good {g : Nat} {cause : Nat} {detail : Nat} {bK : Nat} {bT : Tq} (hgood : Good O Q s) : Good O Q (State.loseNow s g cause detail bK bT) := by
  unfold State.loseNow
  try dsimp only
  repeat' first
    | with_reducible assumption
    | with_reducible refine State.closeStreams_good ?_
    | with_reducible refine State.updStrm_good ?_
    | with_reducible refine State.each_good ?_ (fun _ _ _ => ?_)
    | with_reducible refine good_ite ?_ ?_
    | simp only [good_mk_eq, List.length_map, List.length_set]
    | split

theorem State.loseGroup_good {g : Nat} {cause : Nat} {detail : Nat} {bK : Nat} {bT : Tq} (hgood : Good O Q s) : Good O Q (State.loseGroup s g cause detail bK bT) := by
  unfold State.loseGroup
  try dsimp only
  repeat' first
    | with_reducible assumption
    | with_reducible refine State.loseNow_good ?_
    | with_reducible refine State.updGrp_good ?_
    | with_reducible refine good_ite ?_ ?_
    | simp only [good_mk_eq, List.length_map, List.length_set]
    | split

theorem State.loseDeferred_good {g : Nat} (hgood : Good O Q s) : Good O Q (State.loseDeferred s g) := by
  unfold State.loseDeferred
  try dsimp only
  repeat' first
    | with_reducible assumption
    | with_reducible refine State.loseNow_good ?_
    | with_reducible refine State.updGrp_good ?_
    | with_reducible refine State.each_good ?_ (fun _ _ _ => ?_)
    | with_reducible refine good_ite ?_ ?_
    | simp only [good_mk_eq, List.length_map, List.length_set]
    | split

theorem State.drainStream_good {f : Nat} : ∀ {s : State} {x : Nat}, Good O Q s → Good O Q (State.drainStream f s x) := by
  induction f with
  | zero => intro s x h; exact h
  | succ f ih =>
    intro s x h
    unfold State.drainStream
    try dsimp only
    repeat' first
      | with_reducible assumption
      | with_reducible refine ih ?_
      | with_reducible refine State.retireEmpty_good ?_
      | with_reducible refine State.retireBuf_good ?_
      | with_reducible refine State.fillBuf_good ?_
      | with_reducible refine State.updStrm_good ?_
      | with_reducible refine State.replaceDamaged_good ?_
      | with_reducible refine good_ite ?_ ?_
      | simp only [good_mk_eq, List.length_map, List.length_set]
      | split

theorem State.settleNow_good {x : Nat} (hgood : Good O Q s) : Good O Q (s.settleNow x) := by
  unfold State.settleNow
  dsimp only
  exact good_mk (State.setStrm_good (State.each_good (State.bumpBy_good hgood) (fun _ _ h => State.cmpPacket_good h))) rfl rfl rfl (List.length_map ..)

theorem State.endStream_good {x : Nat} (hgood : Good O Q s) : Good O Q (State.endStream s x) := by
  unfold State.endStream
  try dsimp only
  repeat' first
    | with_reducible assumption
    | with_reducible refine State.drainStream_good ?_
    | with_reducible refine State.retireBuf_good ?_
    | with_reducible refine State.retireEmpty_good ?_
    | with_reducible refine State.setStrm_good ?_
    | with_reducible refine State.each_good ?_ (fun _ _ _ => ?_)
    | with_reducible refine good_ite ?_ ?_
    | simp only [good_mk_eq, List.length_map, List.length_set]
    | split

theorem State.disableStream_good {x : Nat} (hgood : Good O Q s) : Good O Q (State.disableStream s x) := by
  unfold State.disableStream
  try dsimp only
  repeat' first
    | with_reducible assumption
    | with_reducible refine State.closeStreams_good ?_
    | with_reducible refine State.endStream_good ?_
    | with_reducible refine State.placeAll_good ?_
    | with_reducible refine State.setStrm_good ?_
    | with_reducible refine State.settleNow_good ?_
    | with_reducible refine good_ite ?_ ?_
    | simp only [good_mk_eq, List.length_map, List.length_set]
    | split

theorem State.endStreams_good (hgood : Good O Q s) : Good O Q (State.endStreams s) := by
  unfold State.endStreams
  try dsimp only
  repeat' first
    | with_reducible assumption
    | with_reducible refine State.endStream_good ?_
    | with_reducible refine State.doIf_good ?_ ?_
    | with_reducible refine State.each_good ?_ (fun _ _ _ => ?_)
    | with_reducible refine good_ite ?_ ?_
    | simp only [good_mk_eq, List.length_map, List.length_set]
    | split

theorem execPacketMaxAge_good {x : Fin 64} (hgood : Good O Q s) : OutGood O Q (execPacketMaxAge x s) := by
  unfold execPacketMaxAge
  try dsimp only
  repeat' first
    | with_reducible assumption
    | with_reducible refine outGood_next ?_
    | with_reducible refine outGood_ite ?_ ?_
    | with_reducible refine State.closePacket_good ?_
    | with_reducible refine State.reachUp_good ?_
    | with_reducible refine good_ite ?_ ?_
    | simp only [good_mk_eq, List.length_map, List.length_set]
    | split

theorem execGapRecordWrite_good {x : Fin 64} (hgood : Good O Q s) : OutGood O Q (execGapRecordWrite x s) := by
  unfold execGapRecordWrite
  try dsimp only
  repeat' first
    | with_reducible assumption
    | with_reducible refine outGood_next ?_
    | with_reducible refine outGood_ite ?_ ?_
    | with_reducible refine State.setStrm_good ?_
    | with_reducible refine State.updStrm_good ?_
    | with_reducible refine State.writeGaps_good ?_
    | with_reducible refine good_ite ?_ ?_
    | simp only [good_mk_eq, List.length_map, List.length_set]
    | split

theorem execPacketSigned_good {x : Fin 64} (hgood : Good O Q s) : OutGood O Q (execPacketSigned x s) := by
  unfold execPacketSigned
  try dsimp only
  repeat' first
    | with_reducible assumption
    | with_reducible refine outGood_next ?_
    | with_reducible refine outGood_ite ?_ ?_
    | with_reducible refine State.bump_good ?_
    | with_reducible refine State.streamSettle_good ?_
    | with_reducible refine State.updStrm_good ?_
    | with_reducible refine good_ite ?_ ?_
    | simp only [good_mk_eq, List.length_map, List.length_set]
    | split

theorem execPacketDmaDone_good {x : Fin 64} (hgood : Good O Q s) : OutGood O Q (execPacketDmaDone x s) := by
  unfold execPacketDmaDone
  try dsimp only
  repeat' first
    | with_reducible assumption
    | with_reducible refine outGood_next ?_
    | with_reducible refine outGood_ite ?_ ?_
    | with_reducible refine State.deliverPacket_good ?_
    | with_reducible refine good_ite ?_ ?_
    | simp only [good_mk_eq, List.length_map, List.length_set]
    | split

theorem execStreamBuf_good {id : Nat} (hgood : Good O Q s) : OutGood O Q (execStreamBuf id s) := by
  unfold execStreamBuf
  try dsimp only
  repeat' first
    | with_reducible assumption
    | with_reducible refine outGood_next ?_
    | with_reducible refine outGood_ite ?_ ?_
    | with_reducible refine State.retireBad_good ?_
    | with_reducible refine State.take_good ?_
    | with_reducible refine State.updStrm_good ?_
    | with_reducible refine State.serve_good ?_ (fun _ _ _ => ?_)
    | with_reducible refine good_ite ?_ ?_
    | simp only [good_mk_eq, List.length_map, List.length_set]
    | split

theorem State.flushStream_good {x : Nat} (hgood : Good O Q s) : Good O Q (State.flushStream s x) := by
  unfold State.flushStream
  try dsimp only
  repeat' first
    | with_reducible assumption
    | with_reducible refine State.closePacket_good ?_
    | with_reducible refine State.setStrm_good ?_
    | with_reducible refine good_ite ?_ ?_
    | simp only [good_mk_eq, List.length_map, List.length_set]
    | split

theorem execStreamFlush_good {high : Bool} {w : W32} (hgood : Good O Q s) : OutGood O Q (execStreamFlush high w s) := by
  unfold execStreamFlush
  try dsimp only
  repeat' first
    | with_reducible assumption
    | with_reducible refine outGood_next ?_
    | with_reducible refine outGood_ite ?_ ?_
    | with_reducible refine State.flushStream_good ?_
    | with_reducible refine State.each_good ?_ (fun _ _ _ => ?_)
    | with_reducible refine good_ite ?_ ?_
    | simp only [good_mk_eq, List.length_map, List.length_set]
    | split

theorem State.statAdvance_good {c : Look} {i : Nat} {j : Nat} {next : StatAcc} (hgood : Good O Q s) : Good O Q (State.statAdvance s c i j next) := by
  unfold State.statAdvance
  try dsimp only
  repeat' first
    | with_reducible assumption
    | with_reducible refine State.updStats_good ?_
    | with_reducible refine good_ite ?_ ?_
    | simp only [good_mk_eq, List.length_map, List.length_set]
    | split

theorem State.statOutput_good {i : Nat} {t : Nat} {epoch : BitVec 16} {y : Int} {m : Marks} (hgood : Good O Q s) : Good O Q (State.statOutput s i t epoch y m) := by
  unfold State.statOutput
  try dsimp only
  repeat' first
    | with_reducible assumption
    | with_reducible refine State.setStats_good ?_
    | with_reducible refine State.statAdvance_good ?_
    | with_reducible refine good_ite ?_ ?_
    | simp only [good_mk_eq, List.length_map, List.length_set]
    | split

theorem State.statHole_good {i : Nat} {from_ : Nat} {upto : Nat} (hgood : Good O Q s) : Good O Q (State.statHole s i from_ upto) := by
  unfold State.statHole
  try dsimp only
  repeat' first
    | with_reducible assumption
    | with_reducible refine State.statAdvance_good ?_
    | with_reducible refine State.updStats_good ?_
    | with_reducible refine good_ite ?_ ?_
    | simp only [good_mk_eq, List.length_map, List.length_set]
    | split

theorem State.statNow_good {c : Look} {i : Nat} (hgood : Good O Q s) : Good O Q (State.statNow s c i) := by
  unfold State.statNow
  try dsimp only
  repeat' first
    | with_reducible assumption
    | with_reducible refine State.statAdvance_good ?_
    | with_reducible refine State.updStats_good ?_
    | with_reducible refine good_ite ?_ ?_
    | simp only [good_mk_eq, List.length_map, List.length_set]
    | split

theorem State.statCommit_good {old : Look} {i : Nat} (hgood : Good O Q s) : Good O Q (State.statCommit s old i) := by
  unfold State.statCommit
  try dsimp only
  repeat' first
    | with_reducible assumption
    | with_reducible refine State.statNow_good ?_
    | with_reducible refine State.updStats_good ?_
    | with_reducible refine good_ite ?_ ?_
    | simp only [good_mk_eq, List.length_map, List.length_set]
    | split

theorem execStatsIntervalEnd_good (hgood : Good O Q s) : OutGood O Q (execStatsIntervalEnd s) := by
  unfold execStatsIntervalEnd
  try dsimp only
  repeat' first
    | with_reducible assumption
    | with_reducible refine outGood_next ?_
    | with_reducible refine outGood_ite ?_ ?_
    | with_reducible refine State.pllRunAgo_good ?_
    | with_reducible refine State.reach_good ?_
    | with_reducible refine State.statAdvance_good ?_
    | with_reducible refine State.updStats_good ?_
    | with_reducible refine State.each_good ?_ (fun _ _ _ => ?_)
    | with_reducible refine good_ite ?_ ?_
    | simp only [good_mk_eq, List.length_map, List.length_set]
    | split

theorem execStatsRead_good {id : Nat} (hgood : Good O Q s) : OutGood O Q (execStatsRead id s) := by
  unfold execStatsRead
  try dsimp only
  repeat' first
    | with_reducible assumption
    | with_reducible refine outGood_next ?_
    | with_reducible refine outGood_ite ?_ ?_
    | with_reducible refine State.bump_good ?_
    | with_reducible refine State.descWrite_good ?_
    | with_reducible refine State.retireBad_good ?_
    | with_reducible refine State.retireOk_good ?_
    | with_reducible refine State.doIf_good ?_ ?_
    | with_reducible refine State.serve_good ?_ (fun _ _ _ => ?_)
    | with_reducible refine good_ite ?_ ?_
    | simp only [good_mk_eq, List.length_map, List.length_set]
    | split

theorem State.bypass_good {x : Nat} {p : Packet} (hgood : Good O Q s) : Good O Q (State.bypass s x p) := by
  unfold State.bypass
  try dsimp only
  repeat' first
    | with_reducible assumption
    | with_reducible refine State.bump_good ?_
    | with_reducible refine State.leaveLane_good ?_
    | with_reducible refine State.setBit_good ?_
    | with_reducible refine State.streamSettle_good ?_
    | with_reducible refine State.updStrm_good ?_
    | with_reducible refine good_ite ?_ ?_
    | simp only [good_mk_eq, List.length_map, List.length_set]
    | split

theorem State.packetCompressed_good {x : Nat} {p : Packet} (hgood : Good O Q s) : Good O Q (State.packetCompressed s x p) := by
  unfold State.packetCompressed
  try dsimp only
  repeat' first
    | with_reducible assumption
    | with_reducible refine State.cmpPacket_good ?_
    | with_reducible refine State.leaveLane_good ?_
    | with_reducible refine State.streamSettle_good ?_
    | with_reducible refine State.updStrm_good ?_
    | with_reducible refine good_ite ?_ ?_
    | simp only [good_mk_eq, List.length_map, List.length_set]
    | split

theorem execPacketCompressed_good {lane : Fin 4} {eccError : Bool} (hgood : Good O Q s) : OutGood O Q (execPacketCompressed lane eccError s) := by
  unfold execPacketCompressed
  try dsimp only
  repeat' first
    | with_reducible assumption
    | with_reducible refine outGood_next ?_
    | with_reducible refine outGood_ite ?_ ?_
    | with_reducible refine State.bypass_good ?_
    | with_reducible refine State.memWrite_good ?_
    | with_reducible refine State.packetCompressed_good ?_
    | with_reducible refine State.setBit_good ?_
    | with_reducible refine State.setLane_good ?_
    | with_reducible refine State.streamSettle_good ?_
    | with_reducible refine good_ite ?_ ?_
    | simp only [good_mk_eq, List.length_map, List.length_set]
    | split

theorem execCmpBypass_good {x : Fin 64} (hgood : Good O Q s) : OutGood O Q (execCmpBypass x s) := by
  unfold execCmpBypass
  try dsimp only
  repeat' first
    | with_reducible assumption
    | with_reducible refine outGood_next ?_
    | with_reducible refine outGood_ite ?_ ?_
    | with_reducible refine State.bypass_good ?_
    | with_reducible refine State.reachUp_good ?_
    | with_reducible refine good_ite ?_ ?_
    | simp only [good_mk_eq, List.length_map, List.length_set]
    | split

theorem State.jobFailed_good {status : Nat} (hgood : Good O Q s) : Good O Q (State.jobFailed s status) := by
  unfold State.jobFailed
  try dsimp only
  repeat' first
    | with_reducible assumption
    | with_reducible refine State.setBit_good ?_
    | with_reducible refine State.setReg_good ?_
    | with_reducible refine good_ite ?_ ?_
    | simp only [good_mk_eq, List.length_map, List.length_set]
    | split

theorem State.spoil_good {d : Desc} (hgood : Good O Q s) : Good O Q (State.spoil s d) := by
  unfold State.spoil
  try dsimp only
  repeat' first
    | with_reducible assumption
    | with_reducible refine State.descWrite_good ?_
    | with_reducible refine good_ite ?_ ?_
    | simp only [good_mk_eq, List.length_map, List.length_set]
    | split

theorem State.jobLeaves_good {d : Desc} {failed : Bool} {history : List Byte} (hgood : Good O Q s) : Good O Q (State.jobLeaves s d failed history) := by
  unfold State.jobLeaves
  try dsimp only
  repeat' first
    | with_reducible assumption
    | with_reducible refine State.dropJob_good ?_
    | with_reducible refine State.take_good ?_
    | with_reducible refine good_ite ?_ ?_
    | simp only [good_mk_eq, List.length_map, List.length_set]
    | split

theorem State.jobError_good {d : Desc} {status : Nat} {res : List W32} (hgood : Good O Q s) : Good O Q (State.jobError s d status res) := by
  unfold State.jobError
  try dsimp only
  repeat' first
    | with_reducible assumption
    | with_reducible refine State.bump_good ?_
    | with_reducible refine State.jobFailed_good ?_
    | with_reducible refine State.jobLeaves_good ?_
    | with_reducible refine State.retire_good ?_
    | with_reducible refine State.spoil_good ?_
    | with_reducible refine good_ite ?_ ?_
    | simp only [good_mk_eq, List.length_map, List.length_set]
    | split

theorem State.jobRefused_good {d : Desc} {status : Nat} (hgood : Good O Q s) : Good O Q (State.jobRefused s d status) := by
  unfold State.jobRefused
  try dsimp only
  repeat' first
    | with_reducible assumption
    | with_reducible refine State.jobFailed_good ?_
    | with_reducible refine State.jobLeaves_good ?_
    | with_reducible refine State.retireBad_good ?_
    | with_reducible refine good_ite ?_ ?_
    | simp only [good_mk_eq, List.length_map, List.length_set]
    | split

theorem State.jobSigBad_good {d : Desc} (hgood : Good O Q s) : Good O Q (State.jobSigBad s d) := by
  unfold State.jobSigBad
  try dsimp only
  repeat' first
    | with_reducible assumption
    | with_reducible refine State.jobRefused_good ?_
    | with_reducible refine State.spoil_good ?_
    | with_reducible refine good_ite ?_ ?_
    | simp only [good_mk_eq, List.length_map, List.length_set]
    | split

theorem State.jobWrite_good {d : Desc} {done : Nat} {out : List Byte} (hgood : Good O Q s) : Good O Q (State.jobWrite s d done out) := by
  unfold State.jobWrite
  try dsimp only
  repeat' first
    | with_reducible assumption
    | with_reducible refine State.hostWrite_good ?_
    | with_reducible refine good_ite ?_ ?_
    | simp only [good_mk_eq, List.length_map, List.length_set]
    | split

theorem State.compressJob_good {d : Desc} {done : Nat} {hist : List Byte} {src : List Byte} (hgood : Good O Q s) : Good O Q (State.compressJob s d done hist src) := by
  unfold State.compressJob
  try dsimp only
  repeat' first
    | with_reducible assumption
    | with_reducible refine State.cmpBytes_good ?_
    | with_reducible refine State.jobError_good ?_
    | with_reducible refine State.jobLeaves_good ?_
    | with_reducible refine State.jobWrite_good ?_
    | with_reducible refine State.retireOk_good ?_
    | with_reducible refine good_ite ?_ ?_
    | simp only [good_mk_eq, List.length_map, List.length_set]
    | split

theorem State.inflateRaw_good {d : Desc} {done : Nat} {hist : List Byte} {whole : List Byte} (hgood : Good O Q s) : Good O Q (State.inflateRaw s d done hist whole) := by
  unfold State.inflateRaw
  try dsimp only
  repeat' first
    | with_reducible assumption
    | with_reducible refine State.cmpBytes_good ?_
    | with_reducible refine State.dropJob_good ?_
    | with_reducible refine State.jobError_good ?_
    | with_reducible refine State.jobLeaves_good ?_
    | with_reducible refine State.jobSigBad_good ?_
    | with_reducible refine State.jobWrite_good ?_
    | with_reducible refine State.retireOk_good ?_
    | with_reducible refine good_ite ?_ ?_
    | simp only [good_mk_eq, List.length_map, List.length_set]
    | split

theorem State.inflatePacket_good {d : Desc} {done : Nat} {src : List Byte} (hgood : Good O Q s) : Good O Q (State.inflatePacket s d done src) := by
  unfold State.inflatePacket
  try dsimp only
  repeat' first
    | with_reducible assumption
    | with_reducible refine State.cmpBytes_good ?_
    | with_reducible refine State.dropJob_good ?_
    | with_reducible refine State.jobError_good ?_
    | with_reducible refine State.jobSigBad_good ?_
    | with_reducible refine State.jobWrite_good ?_
    | with_reducible refine State.retireOk_good ?_
    | with_reducible refine State.take_good ?_
    | with_reducible refine good_ite ?_ ?_
    | simp only [good_mk_eq, List.length_map, List.length_set]
    | split

theorem State.acceptJob_good {d : Desc} (hgood : Good O Q s) : Good O Q (State.acceptJob s d) := by
  unfold State.acceptJob
  try dsimp only
  repeat' first
    | with_reducible assumption
    | with_reducible refine State.assignAll_good ?_
    | with_reducible refine State.chainPast_good ?_
    | with_reducible refine State.jobLeaves_good ?_
    | with_reducible refine State.retireBad_good ?_
    | with_reducible refine State.take_good ?_
    | with_reducible refine good_ite ?_ ?_
    | simp only [good_mk_eq, List.length_map, List.length_set]
    | split

theorem execCompress_good {id : Nat} (hgood : Good O Q s) : OutGood O Q (execCompress id s) := by
  unfold execCompress
  try dsimp only
  repeat' first
    | with_reducible assumption
    | with_reducible refine outGood_next ?_
    | with_reducible refine outGood_ite ?_ ?_
    | with_reducible refine State.acceptJob_good ?_
    | with_reducible refine State.serve_good ?_ (fun _ _ _ => ?_)
    | with_reducible refine good_ite ?_ ?_
    | simp only [good_mk_eq, List.length_map, List.length_set]
    | split

theorem execDecompress_good {id : Nat} (hgood : Good O Q s) : OutGood O Q (execDecompress id s) := by
  unfold execDecompress
  try dsimp only
  repeat' first
    | with_reducible assumption
    | with_reducible refine outGood_next ?_
    | with_reducible refine outGood_ite ?_ ?_
    | with_reducible refine State.acceptJob_good ?_
    | with_reducible refine State.serve_good ?_ (fun _ _ _ => ?_)
    | with_reducible refine good_ite ?_ ?_
    | simp only [good_mk_eq, List.length_map, List.length_set]
    | split

theorem State.compressSeg_good {d : Desc} {j : JobSt} {seg : Nat} (hgood : Good O Q s) : Good O Q (State.compressSeg s d j seg) := by
  unfold State.compressSeg
  try dsimp only
  repeat' first
    | with_reducible assumption
    | with_reducible refine State.aerReport_good ?_
    | with_reducible refine State.compressJob_good ?_
    | with_reducible refine State.jobRefused_good ?_
    | with_reducible refine State.jobWrite_good ?_
    | with_reducible refine State.take_good ?_
    | with_reducible refine State.updJob_good ?_
    | with_reducible refine good_ite ?_ ?_
    | simp only [good_mk_eq, List.length_map, List.length_set]
    | split

theorem State.inflateSeg_good {d : Desc} {j : JobSt} {seg : Nat} (hgood : Good O Q s) : Good O Q (State.inflateSeg s d j seg) := by
  unfold State.inflateSeg
  try dsimp only
  repeat' first
    | with_reducible assumption
    | with_reducible refine State.aerReport_good ?_
    | with_reducible refine State.inflatePacket_good ?_
    | with_reducible refine State.inflateRaw_good ?_
    | with_reducible refine State.jobRefused_good ?_
    | with_reducible refine State.jobWrite_good ?_
    | with_reducible refine State.take_good ?_
    | with_reducible refine State.updJob_good ?_
    | with_reducible refine good_ite ?_ ?_
    | simp only [good_mk_eq, List.length_map, List.length_set]
    | split

theorem execCompressionJobDone_good {lane : Fin 4} (hgood : Good O Q s) : OutGood O Q (execCompressionJobDone lane s) := by
  unfold execCompressionJobDone
  try dsimp only
  repeat' first
    | with_reducible assumption
    | with_reducible refine outGood_next ?_
    | with_reducible refine outGood_ite ?_ ?_
    | with_reducible refine State.assignAll_good ?_
    | with_reducible refine State.compressSeg_good ?_
    | with_reducible refine State.inflateSeg_good ?_
    | with_reducible refine State.setLane_good ?_
    | with_reducible refine good_ite ?_ ?_
    | simp only [good_mk_eq, List.length_map, List.length_set]
    | split

end Sys2Proof.Machine
end

