-- ==== Sys2Proof/Laws/GoodTime.lean ====
section
/-! SUPPORT. The invariant of Safety.lean, operation by operation (Mantis, TwinRole, Strobe, Firefly, Links, TwinCmd). -/

namespace Sys2Proof.Machine

open Sys2Proof

set_option linter.unusedSimpArgs false
set_option Elab.async false
set_option linter.unusedVariables false
set_option linter.unusedTactic false
set_option linter.unreachableTactic false

variable {O : OtpSt} {Q : List Instr} {s : State}

theorem State.condOutput_good {c : Nat} {y : Int} {m : Marks} {t : Tq} (hgood : Good O Q s) : Good O Q (State.condOutput s c y m t) := by
  unfold State.condOutput
  try dsimp only
  repeat' first
    | with_reducible assumption
    | with_reducible refine State.setCond_good ?_
    | with_reducible refine State.take_good ?_
    | with_reducible refine good_ite ?_ ?_
    | simp only [good_mk_eq, List.length_map, List.length_set]
    | split

theorem State.condFrame_good {g : Nat} {outs : List (Nat × Nat × Int × Marks)} {t : Tq} (hgood : Good O Q s) : Good O Q (State.condFrame s g outs t) := by
  unfold State.condFrame
  try dsimp only
  repeat' first
    | with_reducible assumption
    | with_reducible refine State.condOutput_good ?_
    | with_reducible refine State.updCond_good ?_
    | with_reducible refine State.each_good ?_ (fun _ _ _ => ?_)
    | with_reducible refine good_ite ?_ ?_
    | simp only [good_mk_eq, List.length_map, List.length_set]
    | split

theorem State.mantisReset_good {g : Nat} (hgood : Good O Q s) : Good O Q (State.mantisReset s g) := by
  unfold State.mantisReset
  try dsimp only
  repeat' first
    | with_reducible assumption
    | with_reducible refine State.setCond_good ?_
    | with_reducible refine State.updTrig_good ?_
    | with_reducible refine State.each_good ?_ (fun _ _ _ => ?_)
    | with_reducible refine good_ite ?_ ?_
    | simp only [good_mk_eq, List.length_map, List.length_set]
    | split

theorem State.keepGrid_good {g : Nat} {grid : Option (Tq × Tq)} (hgood : Good O Q s) : Good O Q (State.keepGrid s g grid) := by
  unfold State.keepGrid
  try dsimp only
  repeat' first
    | with_reducible assumption
    | with_reducible refine State.setGrp_good ?_
    | with_reducible refine good_ite ?_ ?_
    | simp only [good_mk_eq, List.length_map, List.length_set]
    | split

theorem State.copyJobs_good (hgood : Good O Q s) : Good O Q (State.copyJobs s) := by
  unfold State.copyJobs
  try dsimp only
  repeat' first
    | with_reducible assumption
    | with_reducible refine good_ite ?_ ?_
    | simp only [good_mk_eq, List.length_map, List.length_set]
    | split

theorem State.startJob_good {j : CapJob} (hgood : Good O Q s) : Good O Q (State.startJob s j) := by
  unfold State.startJob
  try dsimp only
  repeat' first
    | with_reducible assumption
    | with_reducible refine State.copyJobs_good ?_
    | with_reducible refine good_ite ?_ ?_
    | simp only [good_mk_eq, List.length_map, List.length_set]
    | split

theorem State.capEnterArmed_good {u : Nat} (hgood : Good O Q s) : Good O Q (State.capEnterArmed s u) := by
  unfold State.capEnterArmed
  try dsimp only
  repeat' first
    | with_reducible assumption
    | with_reducible refine State.setCap_good ?_
    | with_reducible refine State.setReg_good ?_
    | with_reducible refine good_ite ?_ ?_
    | simp only [good_mk_eq, List.length_map, List.length_set]
    | split

theorem State.capArm_good {u : Nat} (hgood : Good O Q s) : Good O Q (State.capArm s u) := by
  unfold State.capArm
  try dsimp only
  repeat' first
    | with_reducible assumption
    | with_reducible refine State.capEnterArmed_good ?_
    | with_reducible refine good_ite ?_ ?_
    | simp only [good_mk_eq, List.length_map, List.length_set]
    | split

theorem State.capArmAll_good (hgood : Good O Q s) : Good O Q (State.capArmAll s) := by
  unfold State.capArmAll
  try dsimp only
  repeat' first
    | with_reducible assumption
    | with_reducible refine State.capArm_good ?_
    | with_reducible refine State.each_good ?_ (fun _ _ _ => ?_)
    | with_reducible refine good_ite ?_ ?_
    | simp only [good_mk_eq, List.length_map, List.length_set]
    | split

theorem State.capAccept_good {u : Nat} {e : TrigEvent} {coalesced : Bool} (hgood : Good O Q s) : Good O Q (State.capAccept s u e coalesced) := by
  unfold State.capAccept
  try dsimp only
  repeat' first
    | with_reducible assumption
    | with_reducible refine State.setCap_good ?_
    | with_reducible refine State.startJob_good ?_
    | with_reducible refine good_ite ?_ ?_
    | simp only [good_mk_eq, List.length_map, List.length_set]
    | split

theorem State.capJoin_good {u : Nat} {e : TrigEvent} (hgood : Good O Q s) : Good O Q (State.capJoin s u e) := by
  unfold State.capJoin
  try dsimp only
  repeat' first
    | with_reducible assumption
    | with_reducible refine State.startJob_good ?_
    | with_reducible refine State.updCap_good ?_
    | with_reducible refine good_ite ?_ ?_
    | simp only [good_mk_eq, List.length_map, List.length_set]
    | split

theorem State.capMiss_good {u : Nat} (hgood : Good O Q s) : Good O Q (State.capMiss s u) := by
  unfold State.capMiss
  try dsimp only
  repeat' first
    | with_reducible assumption
    | with_reducible refine State.bump_good ?_
    | with_reducible refine State.setBit_good ?_
    | with_reducible refine State.updCap_good ?_
    | with_reducible refine good_ite ?_ ?_
    | simp only [good_mk_eq, List.length_map, List.length_set]
    | split

theorem State.capTrigger_good {u : Nat} {es : List TrigEvent} (hgood : Good O Q s) : Good O Q (State.capTrigger s u es) := by
  unfold State.capTrigger
  try dsimp only
  repeat' first
    | with_reducible assumption
    | with_reducible refine State.bump_good ?_
    | with_reducible refine State.capAccept_good ?_
    | with_reducible refine State.capJoin_good ?_
    | with_reducible refine State.capMiss_good ?_
    | with_reducible refine State.setCap_good ?_
    | with_reducible refine State.doIf_good ?_ ?_
    | with_reducible refine good_foldl _ (fun _ _ _ => ?_) ?_
    | with_reducible refine good_ite ?_ ?_
    | simp only [good_mk_eq, List.length_map, List.length_set]
    | split

theorem State.capDeliver_good {es : List TrigEvent} (hgood : Good O Q s) : Good O Q (State.capDeliver s es) := by
  unfold State.capDeliver
  try dsimp only
  repeat' first
    | with_reducible assumption
    | with_reducible refine State.capTrigger_good ?_
    | with_reducible refine State.each_good ?_ (fun _ _ _ => ?_)
    | with_reducible refine good_ite ?_ ?_
    | simp only [good_mk_eq, List.length_map, List.length_set]
    | split

theorem State.ltrigSeen_good {f : LineTrig} (hgood : Good O Q s) : Good O Q (State.ltrigSeen s f) := by
  unfold State.ltrigSeen
  try dsimp only
  repeat' first
    | with_reducible assumption
    | with_reducible refine State.take_good ?_
    | with_reducible refine good_ite ?_ ?_
    | simp only [good_mk_eq, List.length_map, List.length_set]
    | split

theorem State.ltrigSend_good {p : Nat} {f : LineTrig} {stamped : Bool} (hgood : Good O Q s) : Good O Q (State.ltrigSend s p f stamped) := by
  unfold State.ltrigSend
  try dsimp only
  repeat' first
    | with_reducible assumption
    | with_reducible refine State.sendOn_good ?_
    | with_reducible refine good_ite ?_ ?_
    | simp only [good_mk_eq, List.length_map, List.length_set]
    | split

theorem State.originate_good {c : Nat} {point : Tq} (hgood : Good O Q s) : Good O Q (s.originate c point).1 := by
  unfold State.originate
  dsimp only
  split
  · exact hgood
  · split
    · exact State.bump_good hgood
    · exact State.each_good (State.bump_good (State.ltrigSeen_good (good_mk hgood rfl rfl rfl rfl))) (fun _ _ h => State.ltrigSend_good h)

theorem State.toutFire_good {u : Nat} (hgood : Good O Q s) : Good O Q (State.toutFire s u) := by
  unfold State.toutFire
  try dsimp only
  repeat' first
    | with_reducible assumption
    | with_reducible refine good_ite ?_ ?_
    | simp only [good_mk_eq, List.length_map, List.length_set]
    | split

theorem State.trigFire_good {u : Nat} {t : Tq} {forced : Bool} (hgood : Good O Q s) : Good O Q (s.trigFire u t forced).1 := by
  unfold State.trigFire
  dsimp only
  split
  · exact State.originate_good (State.toutFire_good (State.bump_good hgood))
  · exact State.toutFire_good (State.bump_good hgood)

theorem State.trigStep_good {u conds : Nat} {t : Tq} (hgood : Good O Q s) : Good O Q (s.trigStep u conds t).1 := by
  unfold State.trigStep
  dsimp only
  generalize (if s.cfgv Fld.trigKind u 0 = 0 then _ else _ : TrigSt × Bool) = r
  split
  · exact State.trigFire_good (State.setTrig_good hgood)
  · exact State.setTrig_good hgood

/-- A fold that carries a state beside something else. -/
theorem good_foldl_fst {α β : Type} {f : State × β → α → State × β} (xs : List α) (hf : ∀ x t, Good O Q t.1 → Good O Q (f t x).1) :
    ∀ {t : State × β}, Good O Q t.1 → Good O Q (xs.foldl f t).1 := by
  induction xs with
  | nil => intro t h; exact h
  | cons x xs ih => intro t h; exact ih (hf x t h)

theorem State.trigFrame_good {g : Nat} {t : Tq} (hgood : Good O Q s) : Good O Q (s.trigFrame g t) := by
  unfold State.trigFrame
  dsimp only
  refine State.capDeliver_good (good_foldl_fst _ ?_ hgood)
  intro u a h
  exact State.trigStep_good h

theorem State.capCount_good {u : Nat} {status : Nat} (hgood : Good O Q s) : Good O Q (State.capCount s u status) := by
  unfold State.capCount
  try dsimp only
  repeat' first
    | with_reducible assumption
    | with_reducible refine State.bump_good ?_
    | with_reducible refine State.raise_good ?_
    | with_reducible refine State.setBit_good ?_
    | with_reducible refine good_ite ?_ ?_
    | simp only [good_mk_eq, List.length_map, List.length_set]
    | split

theorem State.capReport_good {j : CapJob} (hgood : Good O Q s) : Good O Q (State.capReport s j) := by
  unfold State.capReport
  try dsimp only
  repeat' first
    | with_reducible assumption
    | with_reducible refine State.report_good ?_
    | with_reducible refine good_ite ?_ ?_
    | simp only [good_mk_eq, List.length_map, List.length_set]
    | split

theorem State.capFinish_good {j : CapJob} {d : Desc} (hgood : Good O Q s) : Good O Q (State.capFinish s j d) := by
  unfold State.capFinish
  try dsimp only
  repeat' first
    | with_reducible assumption
    | with_reducible refine State.bump_good ?_
    | with_reducible refine State.capCount_good ?_
    | with_reducible refine State.capReport_good ?_
    | with_reducible refine State.hostWrite_good ?_
    | with_reducible refine State.retireBad_good ?_
    | with_reducible refine State.retire_good ?_
    | with_reducible refine State.doIf_good ?_ ?_
    | with_reducible refine good_ite ?_ ?_
    | simp only [good_mk_eq, List.length_map, List.length_set]
    | split

theorem execTriggerOutEnd_good (hgood : Good O Q s) : OutGood O Q (execTriggerOutEnd s) := by
  unfold execTriggerOutEnd
  try dsimp only
  repeat' first
    | with_reducible assumption
    | with_reducible refine outGood_next ?_
    | with_reducible refine outGood_ite ?_ ?_
    | with_reducible refine State.reachUp_good ?_
    | with_reducible refine good_ite ?_ ?_
    | simp only [good_mk_eq, List.length_map, List.length_set]
    | split

theorem execTriggerInEdge_good {v : Fin 2} {rising : Bool} (hgood : Good O Q s) : OutGood O Q (execTriggerInEdge v rising s) := by
  unfold execTriggerInEdge
  try dsimp only
  repeat' first
    | with_reducible assumption
    | with_reducible refine outGood_next ?_
    | with_reducible refine outGood_ite ?_ ?_
    | with_reducible refine State.capDeliver_good ?_
    | with_reducible refine State.reachUp_good ?_
    | with_reducible refine good_ite ?_ ?_
    | simp only [good_mk_eq, List.length_map, List.length_set]
    | split

theorem execCaptureWindowEnd_good {u : Fin 16} (hgood : Good O Q s) : OutGood O Q (execCaptureWindowEnd u s) := by
  unfold execCaptureWindowEnd
  try dsimp only
  repeat' first
    | with_reducible assumption
    | with_reducible refine outGood_next ?_
    | with_reducible refine outGood_ite ?_ ?_
    | with_reducible refine State.capArm_good ?_
    | with_reducible refine State.reach_good ?_
    | with_reducible refine State.updCap_good ?_
    | with_reducible refine good_ite ?_ ?_
    | simp only [good_mk_eq, List.length_map, List.length_set]
    | split

theorem execCaptureCopyDone_good {u : Fin 17} (hgood : Good O Q s) : OutGood O Q (execCaptureCopyDone u s) := by
  unfold execCaptureCopyDone
  try dsimp only
  repeat' first
    | with_reducible assumption
    | with_reducible refine outGood_next ?_
    | with_reducible refine outGood_ite ?_ ?_
    | with_reducible refine State.capFinish_good ?_
    | with_reducible refine good_ite ?_ ?_
    | simp only [good_mk_eq, List.length_map, List.length_set]
    | split

theorem execCaptureArm_good {id : Nat} (hgood : Good O Q s) : OutGood O Q (execCaptureArm id s) := by
  unfold execCaptureArm
  try dsimp only
  repeat' first
    | with_reducible assumption
    | with_reducible refine outGood_next ?_
    | with_reducible refine outGood_ite ?_ ?_
    | with_reducible refine State.capArm_good ?_
    | with_reducible refine State.retireBad_good ?_
    | with_reducible refine State.take_good ?_
    | with_reducible refine State.updCap_good ?_
    | with_reducible refine State.serve_good ?_ (fun _ _ _ => ?_)
    | with_reducible refine good_ite ?_ ?_
    | simp only [good_mk_eq, List.length_map, List.length_set]
    | split

theorem execCaptureRead_good {id : Nat} (hgood : Good O Q s) : OutGood O Q (execCaptureRead id s) := by
  unfold execCaptureRead
  try dsimp only
  repeat' first
    | with_reducible assumption
    | with_reducible refine outGood_next ?_
    | with_reducible refine outGood_ite ?_ ?_
    | with_reducible refine State.dmaFailed_good ?_
    | with_reducible refine State.freeNext_good ?_
    | with_reducible refine State.retireBad_good ?_
    | with_reducible refine State.startJob_good ?_
    | with_reducible refine State.take_good ?_
    | with_reducible refine State.serve_good ?_ (fun _ _ _ => ?_)
    | with_reducible refine good_ite ?_ ?_
    | simp only [good_mk_eq, List.length_map, List.length_set]
    | split

theorem execMantisForce_good {w : W32} (hgood : Good O Q s) : OutGood O Q (execMantisForce w s) := by
  unfold execMantisForce
  try dsimp only
  repeat' first
    | with_reducible assumption
    | with_reducible refine outGood_next ?_
    | with_reducible refine outGood_ite ?_ ?_
    | with_reducible refine State.updTrig_good ?_
    | with_reducible refine State.each_good ?_ (fun _ _ _ => ?_)
    | with_reducible refine good_ite ?_ ?_
    | simp only [good_mk_eq, List.length_map, List.length_set]
    | split

theorem State.ltrigTake_good {f : LineTrig} (hgood : Good O Q s) : Good O Q (State.ltrigTake s f) := by
  unfold State.ltrigTake
  try dsimp only
  repeat' first
    | with_reducible assumption
    | with_reducible refine State.bump_good ?_
    | with_reducible refine State.capDeliver_good ?_
    | with_reducible refine good_ite ?_ ?_
    | simp only [good_mk_eq, List.length_map, List.length_set]
    | split

theorem execLineTrigger_good {p : Port} {f : LineTrig} (hgood : Good O Q s) : OutGood O Q (execLineTrigger p f s) := by
  unfold execLineTrigger
  try dsimp only
  repeat' first
    | with_reducible assumption
    | with_reducible refine outGood_next ?_
    | with_reducible refine outGood_ite ?_ ?_
    | with_reducible refine State.bump_good ?_
    | with_reducible refine State.ltrigSeen_good ?_
    | with_reducible refine State.ltrigSend_good ?_
    | with_reducible refine State.ltrigTake_good ?_
    | with_reducible refine State.rxAccept_good ?_
    | with_reducible refine State.each_good ?_ (fun _ _ _ => ?_)
    | with_reducible refine good_ite ?_ ?_
    | simp only [good_mk_eq, List.length_map, List.length_set]
    | split

theorem State.excRole_good {newlyOn : List Nat} (hgood : Good O Q s) : Good O Q (State.excRole s newlyOn) := by
  unfold State.excRole
  try dsimp only
  repeat' first
    | with_reducible assumption
    | with_reducible refine State.excApplyAll_good ?_
    | with_reducible refine good_ite ?_ ?_
    | simp only [good_mk_eq, List.length_map, List.length_set]
    | split

theorem State.giveUpCommit_good (hgood : Good O Q s) : Good O Q (State.giveUpCommit s) := by
  unfold State.giveUpCommit
  try dsimp only
  repeat' first
    | with_reducible assumption
    | with_reducible refine State.retireBad_good ?_
    | with_reducible refine good_ite ?_ ?_
    | simp only [good_mk_eq, List.length_map, List.length_set]
    | split

theorem State.setRole_good {r : Role} {newlyOn : List Nat} (hgood : Good O Q s) : Good O Q (State.setRole s r newlyOn) := by
  unfold State.setRole
  try dsimp only
  repeat' first
    | with_reducible assumption
    | with_reducible refine State.excRole_good ?_
    | with_reducible refine State.giveUpCommit_good ?_
    | with_reducible refine State.setBit_good ?_
    | with_reducible refine State.updExc_good ?_
    | with_reducible refine State.doIf_good ?_ ?_
    | with_reducible refine State.each_good ?_ (fun _ _ _ => ?_)
    | with_reducible refine good_ite ?_ ?_
    | simp only [good_mk_eq, List.length_map, List.length_set]
    | split

theorem State.seizeTaken_good (hgood : Good O Q s) : Good O Q (State.seizeTaken s) := by
  unfold State.seizeTaken
  try dsimp only
  repeat' first
    | with_reducible assumption
    | with_reducible refine State.sendHealth_good ?_
    | with_reducible refine State.setRole_good ?_
    | with_reducible refine good_ite ?_ ?_
    | simp only [good_mk_eq, List.length_map, List.length_set]
    | split

theorem State.setReasons_good {r : BitVec 16} (hgood : Good O Q s) : Good O Q (State.setReasons s r) := by
  unfold State.setReasons
  try dsimp only
  repeat' first
    | with_reducible assumption
    | with_reducible refine State.endHandling_good ?_
    | with_reducible refine State.raiseBare_good ?_
    | with_reducible refine State.raise_good ?_
    | with_reducible refine State.sendHealth_good ?_
    | with_reducible refine State.setRole_good ?_
    | with_reducible refine good_ite ?_ ?_
    | simp only [good_mk_eq, List.length_map, List.length_set]
    | split

theorem State.addReason_good {bits : List Nat} (hgood : Good O Q s) : Good O Q (State.addReason s bits) := by
  unfold State.addReason
  try dsimp only
  repeat' first
    | with_reducible assumption
    | with_reducible refine State.setReasons_good ?_
    | with_reducible refine good_ite ?_ ?_
    | simp only [good_mk_eq, List.length_map, List.length_set]
    | split

theorem State.dropReason_good {bits : List Nat} (hgood : Good O Q s) : Good O Q (State.dropReason s bits) := by
  unfold State.dropReason
  try dsimp only
  repeat' first
    | with_reducible assumption
    | with_reducible refine State.setReasons_good ?_
    | with_reducible refine good_ite ?_ ?_
    | simp only [good_mk_eq, List.length_map, List.length_set]
    | split

theorem State.putReason_good {bit : Nat} {on : Bool} (hgood : Good O Q s) : Good O Q (State.putReason s bit on) := by
  unfold State.putReason
  try dsimp only
  repeat' first
    | with_reducible assumption
    | with_reducible refine State.addReason_good ?_
    | with_reducible refine State.dropReason_good ?_
    | with_reducible refine good_ite ?_ ?_
    | simp only [good_mk_eq, List.length_map, List.length_set]
    | split

theorem State.enterUnfit_good {bits : List Nat} (hgood : Good O Q s) : Good O Q (State.enterUnfit s bits) := by
  unfold State.enterUnfit
  try dsimp only
  repeat' first
    | with_reducible assumption
    | with_reducible refine State.sendHealth_good ?_
    | with_reducible refine State.setRole_good ?_
    | with_reducible refine good_ite ?_ ?_
    | simp only [good_mk_eq, List.length_map, List.length_set]
    | split

theorem State.cutOpen_good {x : Nat} {seq : W32} {p : Packet} {frames : List PktFrame} {rest : List PktFrame} {behind : List Packet} (hgood : Good O Q s) : Good O Q (State.cutOpen s x seq p frames rest behind) := by
  unfold State.cutOpen
  try dsimp only
  repeat' first
    | with_reducible assumption
    | with_reducible refine State.setStrm_good ?_
    | with_reducible refine good_ite ?_ ?_
    | simp only [good_mk_eq, List.length_map, List.length_set]
    | split

theorem State.cutGap_good {x : Nat} {e : SyncEntry} {k : Nat} {t : Nat} (hgood : Good O Q s) : Good O Q (State.cutGap s x e k t) := by
  unfold State.cutGap
  try dsimp only
  repeat' first
    | with_reducible assumption
    | with_reducible refine State.setStrm_good ?_
    | with_reducible refine good_ite ?_ ?_
    | simp only [good_mk_eq, List.length_map, List.length_set]
    | split

theorem State.coverTo_good {x : Nat} {seq : W32} (hgood : Good O Q s) : Good O Q (State.coverTo s x seq) := by
  unfold State.coverTo
  try dsimp only
  repeat' first
    | with_reducible assumption
    | with_reducible refine State.updStrm_good ?_
    | with_reducible refine good_ite ?_ ?_
    | simp only [good_mk_eq, List.length_map, List.length_set]
    | split

theorem State.resyncEnd_good (hgood : Good O Q s) : Good O Q (State.resyncEnd s) := by
  unfold State.resyncEnd
  try dsimp only
  repeat' first
    | with_reducible assumption
    | with_reducible refine State.dropReason_good ?_
    | with_reducible refine good_ite ?_ ?_
    | simp only [good_mk_eq, List.length_map, List.length_set]
    | split

theorem State.applyEntry_good {e : SyncEntry} {t : State} (h : s.applyEntry e = some t) (hgood : Good O Q s) : Good O Q t := by
  unfold State.applyEntry at h
  dsimp only at h
  split at h
  · split at h
    · cases h
      exact State.placeAll_good (State.updStrm_good (State.cutOpen_good hgood))
    · split at h
      · cases h
        exact State.updStrm_good hgood
      · cases h
  · obtain ⟨g, _, rfl⟩ := Option.map_eq_some_iff.mp h
    exact State.placeAll_good (State.cutGap_good hgood)
  · cases h
    exact State.resyncEnd_good (State.coverTo_good hgood)
  · cases h
    exact good_mk hgood rfl rfl rfl rfl

theorem State.leaveEntry_good {e : SyncEntry} {t : State} (h : s.leaveEntry e = some t) (hgood : Good O Q s) : Good O Q t := by
  unfold State.leaveEntry at h
  dsimp only at h
  split at h
  · split at h
    · cases h
      exact State.setStrm_good hgood
    · split at h
      · cases h
        exact State.setStrm_good hgood
      · cases h
  · obtain ⟨g, _, rfl⟩ := Option.map_eq_some_iff.mp h
    exact State.setStrm_good hgood
  · cases h
    exact hgood

theorem State.takeEntry_good {e : SyncEntry} {t : State} (h : s.takeEntry e = some t) (hgood : Good O Q s) : Good O Q t := by
  unfold State.takeEntry at h
  split at h
  · exact State.applyEntry_good h hgood
  · split at h
    · exact State.leaveEntry_good h hgood
    · cases h
      exact hgood

theorem applyEntries_good {es : List SyncEntry} : ∀ {stuck : List (Fin 64)} {s : State}, Good O Q s → Good O Q (applyEntries es stuck s) := by
  induction es with
  | nil => intro stuck s h; exact h
  | cons e es ih =>
    intro stuck s h
    unfold applyEntries
    dsimp only
    split
    · exact ih (good_mk h rfl rfl rfl rfl)
    · split
      · rename_i t ht
        exact ih (State.takeEntry_good ht h)
      · exact ih (good_mk h rfl rfl rfl rfl)

theorem reAppend_good {x : Nat} {fs : List PktFrame} : ∀ {pend : List LossSt} {s : State}, Good O Q s → Good O Q (reAppend x fs pend s) := by
  induction fs with
  | nil => intro pend s h; exact State.updStrm_good h
  | cons f fs ih => intro pend s h; exact ih (State.appendFrame_good (State.updStrm_good h))

theorem reAppendRuns_good {x : Nat} {ps : List Packet} : ∀ {pend : List LossSt} {s : State}, Good O Q s → Good O Q (reAppendRuns x ps pend s) := by
  induction ps with
  | nil => intro pend s h; exact reAppend_good h
  | cons p ps ih =>
    intro pend s h
    unfold reAppendRuns
    dsimp only
    refine ih (good_ite ?_ (State.closePacket_good ?_)) <;> exact reAppend_good (State.updStrm_good h)

theorem State.adoptStream_good {x : Nat} (hgood : Good O Q s) : Good O Q (State.adoptStream s x) := by
  unfold State.adoptStream
  try dsimp only
  repeat' first
    | with_reducible assumption
    | with_reducible refine State.closePacket_good ?_
    | with_reducible refine State.setStrm_good ?_
    | with_reducible refine State.streamSettle_good ?_
    | with_reducible refine State.updStrm_good ?_
    | with_reducible refine reAppendRuns_good ?_
    | with_reducible refine good_ite ?_ ?_
    | simp only [good_mk_eq, List.length_map, List.length_set]
    | split

theorem State.swapStream_good {x : Nat} (hgood : Good O Q s) : Good O Q (State.swapStream s x) := by
  unfold State.swapStream
  try dsimp only
  repeat' first
    | with_reducible assumption
    | with_reducible refine State.adoptStream_good ?_
    | with_reducible refine State.updStrm_good ?_
    | with_reducible refine good_ite ?_ ?_
    | simp only [good_mk_eq, List.length_map, List.length_set]
    | split

theorem State.endAwaits_good (hgood : Good O Q s) : Good O Q (State.endAwaits s) := by
  unfold State.endAwaits
  try dsimp only
  repeat' first
    | with_reducible assumption
    | with_reducible refine State.adoptStream_good ?_
    | with_reducible refine State.doIf_good ?_ ?_
    | with_reducible refine State.each_good ?_ (fun _ _ _ => ?_)
    | with_reducible refine good_ite ?_ ?_
    | simp only [good_mk_eq, List.length_map, List.length_set]
    | split

theorem State.dropAwaits_good (hgood : Good O Q s) : Good O Q (State.dropAwaits s) := by
  unfold State.dropAwaits
  try dsimp only
  repeat' first
    | with_reducible assumption
    | with_reducible refine State.adoptStream_good ?_
    | with_reducible refine State.updStrm_good ?_
    | with_reducible refine State.each_good ?_ (fun _ _ _ => ?_)
    | with_reducible refine good_ite ?_ ?_
    | simp only [good_mk_eq, List.length_map, List.length_set]
    | split

theorem State.followCuts_good (hgood : Good O Q s) : Good O Q (State.followCuts s) := by
  unfold State.followCuts
  try dsimp only
  repeat' first
    | with_reducible assumption
    | with_reducible refine State.endAwaits_good ?_
    | with_reducible refine applyEntries_good ?_
    | with_reducible refine good_ite ?_ ?_
    | simp only [good_mk_eq, List.length_map, List.length_set]
    | split

theorem State.adoptTrigSeq_good (hgood : Good O Q s) : Good O Q (State.adoptTrigSeq s) := by
  unfold State.adoptTrigSeq
  try dsimp only
  repeat' first
    | with_reducible assumption
    | with_reducible refine good_ite ?_ ?_
    | simp only [good_mk_eq, List.length_map, List.length_set]
    | split

theorem State.adoptData_good {swap : Bool} (hgood : Good O Q s) : Good O Q (State.adoptData s swap) := by
  unfold State.adoptData
  try dsimp only
  repeat' first
    | with_reducible assumption
    | with_reducible refine State.adoptStream_good ?_
    | with_reducible refine State.swapStream_good ?_
    | with_reducible refine State.updCap_good ?_
    | with_reducible refine State.each_good ?_ (fun _ _ _ => ?_)
    | with_reducible refine good_ite ?_ ?_
    | simp only [good_mk_eq, List.length_map, List.length_set]
    | split

theorem State.takeover_good (hgood : Good O Q s) : Good O Q (State.takeover s) := by
  unfold State.takeover
  try dsimp only
  repeat' first
    | with_reducible assumption
    | with_reducible refine State.adoptData_good ?_
    | with_reducible refine State.adoptTrigSeq_good ?_
    | with_reducible refine State.bump_good ?_
    | with_reducible refine State.capArmAll_good ?_
    | with_reducible refine State.endHandling_good ?_
    | with_reducible refine State.raise_good ?_
    | with_reducible refine State.sendHealth_good ?_
    | with_reducible refine State.setBit_good ?_
    | with_reducible refine State.setReg64_good ?_
    | with_reducible refine State.setRole_good ?_
    | with_reducible refine State.vaultTake_good ?_
    | with_reducible refine good_ite ?_ ?_
    | simp only [good_mk_eq, List.length_map, List.length_set]
    | split

theorem State.activeLost_good (hgood : Good O Q s) : Good O Q (State.activeLost s) := by
  unfold State.activeLost
  try dsimp only
  repeat' first
    | with_reducible assumption
    | with_reducible refine State.takeover_good ?_
    | with_reducible refine good_ite ?_ ?_
    | simp only [good_mk_eq, List.length_map, List.length_set]
    | split

theorem State.armPair_good {own : Bool} {k : Option Nat} (hgood : Good O Q s) : Good O Q (State.armPair s own k) := by
  unfold State.armPair
  try dsimp only
  repeat' first
    | with_reducible assumption
    | with_reducible refine State.armFlip_good ?_
    | with_reducible refine State.sendOn_good ?_
    | with_reducible refine good_ite ?_ ?_
    | simp only [good_mk_eq, List.length_map, List.length_set]
    | split

theorem State.nameFrame_good {g : Nat} {k : Nat} {edge : Tq} (hgood : Good O Q s) : Good O Q (State.nameFrame s g k edge) := by
  unfold State.nameFrame
  try dsimp only
  repeat' first
    | with_reducible assumption
    | with_reducible refine State.armPair_good ?_
    | with_reducible refine good_ite ?_ ?_
    | simp only [good_mk_eq, List.length_map, List.length_set]
    | split

theorem State.stuckEdge_good (hgood : Good O Q s) : Good O Q (State.stuckEdge s) := by
  unfold State.stuckEdge
  try dsimp only
  repeat' first
    | with_reducible assumption
    | with_reducible refine State.sendHealth_good ?_
    | with_reducible refine good_ite ?_ ?_
    | simp only [good_mk_eq, List.length_map, List.length_set]
    | split

theorem State.groupChainsReset_good {g : Nat} (hgood : Good O Q s) : Good O Q (State.groupChainsReset s g) := by
  unfold State.groupChainsReset
  try dsimp only
  repeat' first
    | with_reducible assumption
    | with_reducible refine State.chainReset_good ?_
    | with_reducible refine State.each_good ?_ (fun _ _ _ => ?_)
    | with_reducible refine good_ite ?_ ?_
    | simp only [good_mk_eq, List.length_map, List.length_set]
    | split

theorem State.groupAnew_good {g : Nat} (hgood : Good O Q s) : Good O Q (State.groupAnew s g) := by
  unfold State.groupAnew
  try dsimp only
  repeat' first
    | with_reducible assumption
    | with_reducible refine State.groupChainsReset_good ?_
    | with_reducible refine State.mantisReset_good ?_
    | with_reducible refine good_ite ?_ ?_
    | simp only [good_mk_eq, List.length_map, List.length_set]
    | split

theorem State.groupAnewDue_good {g : Nat} (hgood : Good O Q s) : Good O Q (State.groupAnewDue s g) := by
  unfold State.groupAnewDue
  try dsimp only
  repeat' first
    | with_reducible assumption
    | with_reducible refine State.groupAnew_good ?_
    | with_reducible refine State.updGrp_good ?_
    | with_reducible refine good_ite ?_ ?_
    | simp only [good_mk_eq, List.length_map, List.length_set]
    | split

theorem State.startGroup_good {g : Nat} {at_ : Tq} (hgood : Good O Q s) : Good O Q (State.startGroup s g at_) := by
  unfold State.startGroup
  try dsimp only
  repeat' first
    | with_reducible assumption
    | with_reducible refine State.groupAnewDue_good ?_
    | with_reducible refine State.renumberLosses_good ?_
    | with_reducible refine State.updGrp_good ?_
    | with_reducible refine State.doIf_good ?_ ?_
    | with_reducible refine good_ite ?_ ?_
    | simp only [good_mk_eq, List.length_map, List.length_set]
    | split

theorem State.stopGroup_good {g : Nat} {mode : GroupMode} (hgood : Good O Q s) : Good O Q (State.stopGroup s g mode) := by
  unfold State.stopGroup
  try dsimp only
  repeat' first
    | with_reducible assumption
    | with_reducible refine State.updGrp_good ?_
    | with_reducible refine good_ite ?_ ?_
    | simp only [good_mk_eq, List.length_map, List.length_set]
    | split

theorem State.latchCore_good {n : Nat} (hgood : Good O Q s) : Good O Q (State.latchCore s n) := by
  unfold State.latchCore
  try dsimp only
  repeat' first
    | with_reducible assumption
    | with_reducible refine State.setCore_good ?_
    | with_reducible refine State.setRes_good ?_
    | with_reducible refine State.updCore_good ?_
    | with_reducible refine State.each_good ?_ (fun _ _ _ => ?_)
    | with_reducible refine good_ite ?_ ?_
    | simp only [good_mk_eq, List.length_map, List.length_set]
    | split

theorem State.groupHole_good {g : Nat} {from_ : Tq} {upto : Tq} (hgood : Good O Q s) : Good O Q (State.groupHole s g from_ upto) := by
  unfold State.groupHole
  try dsimp only
  repeat' first
    | with_reducible assumption
    | with_reducible refine State.bump_good ?_
    | with_reducible refine State.groupChainsReset_good ?_
    | with_reducible refine State.mainsHole_good ?_
    | with_reducible refine State.mantisReset_good ?_
    | with_reducible refine State.statHole_good ?_
    | with_reducible refine State.vaultHole_good ?_
    | with_reducible refine State.each_good ?_ (fun _ _ _ => ?_)
    | with_reducible refine good_ite ?_ ?_
    | simp only [good_mk_eq, List.length_map, List.length_set]
    | split

theorem State.peerEvent_good {g : Nat} (hgood : Good O Q s) : Good O Q (State.peerEvent s g) := by
  unfold State.peerEvent
  try dsimp only
  repeat' first
    | with_reducible assumption
    | with_reducible refine State.updGrp_good ?_
    | with_reducible refine good_ite ?_ ?_
    | simp only [good_mk_eq, List.length_map, List.length_set]
    | split

theorem State.takeEdge_good {g : Nat} {k : Nat} {edge : Tq} {e : EdgeSample} (hgood : Good O Q s) : Good O Q (State.takeEdge s g k edge e) := by
  unfold State.takeEdge
  try dsimp only
  repeat' first
    | with_reducible assumption
    | with_reducible refine State.ainEdge_good ?_
    | with_reducible refine State.excEdge_good ?_
    | with_reducible refine State.groupHole_good ?_
    | with_reducible refine State.latchCore_good ?_
    | with_reducible refine State.peerEvent_good ?_
    | with_reducible refine State.setEdge_good ?_
    | with_reducible refine State.setGrp_good ?_
    | with_reducible refine State.stuckEdge_good ?_
    | with_reducible refine State.each_good ?_ (fun _ _ _ => ?_)
    | with_reducible refine State.oneCycle_good ?_ (fun _ _ => ?_)
    | with_reducible refine good_ite ?_ ?_
    | simp only [good_mk_eq, List.length_map, List.length_set]
    | split

theorem execStrobeEdge_good {g : Group} {e : EdgeSample} (hgood : Good O Q s) : OutGood O Q (execStrobeEdge g e s) := by
  unfold execStrobeEdge
  try dsimp only
  repeat' first
    | with_reducible assumption
    | with_reducible refine outGood_next ?_
    | with_reducible refine outGood_ite ?_ ?_
    | with_reducible refine State.pllRunAgo_good ?_
    | with_reducible refine State.reach_good ?_
    | with_reducible refine State.takeEdge_good ?_
    | with_reducible refine good_ite ?_ ?_
    | simp only [good_mk_eq, List.length_map, List.length_set]
    | split

theorem execStrobeEvent_good {g : Group} {sources : List EventSource} (hgood : Good O Q s) : OutGood O Q (execStrobeEvent g sources s) := by
  unfold execStrobeEvent
  try dsimp only
  repeat' first
    | with_reducible assumption
    | with_reducible refine outGood_next ?_
    | with_reducible refine outGood_ite ?_ ?_
    | with_reducible refine State.bump_good ?_
    | with_reducible refine State.excCut_good ?_
    | with_reducible refine State.updGrp_good ?_
    | with_reducible refine State.doIf_good ?_ ?_
    | with_reducible refine good_ite ?_ ?_
    | simp only [good_mk_eq, List.length_map, List.length_set]
    | split

theorem execEventStrobeEdge_good {g : Group} {e : EdgeSample} (hgood : Good O Q s) : OutGood O Q (execEventStrobeEdge g e s) := by
  unfold execEventStrobeEdge
  try dsimp only
  repeat' first
    | with_reducible assumption
    | with_reducible refine outGood_next ?_
    | with_reducible refine outGood_ite ?_ ?_
    | with_reducible refine State.nameFrame_good ?_
    | with_reducible refine State.reachUp_good ?_
    | with_reducible refine State.takeEdge_good ?_
    | with_reducible refine State.updGrp_good ?_
    | with_reducible refine good_ite ?_ ?_
    | simp only [good_mk_eq, List.length_map, List.length_set]
    | split

theorem execStarved_good {g : Group} (hgood : Good O Q s) : OutGood O Q (execStarved g s) := by
  unfold execStarved
  try dsimp only
  repeat' first
    | with_reducible assumption
    | with_reducible refine outGood_next ?_
    | with_reducible refine outGood_ite ?_ ?_
    | with_reducible refine State.raise_good ?_
    | with_reducible refine State.reachUp_good ?_
    | with_reducible refine State.setGrp_good ?_
    | with_reducible refine good_ite ?_ ?_
    | simp only [good_mk_eq, List.length_map, List.length_set]
    | split

theorem State.gridStepped_good {g : Nat} {old : Tq} (hgood : Good O Q s) : Good O Q (State.gridStepped s g old) := by
  unfold State.gridStepped
  try dsimp only
  repeat' first
    | with_reducible assumption
    | with_reducible refine State.loseGroup_good ?_
    | with_reducible refine State.setGrp_good ?_
    | with_reducible refine State.updGrp_good ?_
    | with_reducible refine good_ite ?_ ?_
    | simp only [good_mk_eq, List.length_map, List.length_set]
    | split

theorem State.timeStepped_good {old : Tq} (hgood : Good O Q s) : Good O Q (State.timeStepped s old) := by
  unfold State.timeStepped
  try dsimp only
  repeat' first
    | with_reducible assumption
    | with_reducible refine State.gridStepped_good ?_
    | with_reducible refine good_ite ?_ ?_
    | simp only [good_mk_eq, List.length_map, List.length_set]
    | split

theorem State.dropProg_good {p : Option PulseProg} {retired : Bool} {status : Nat} (hgood : Good O Q s) : Good O Q (State.dropProg s p retired status) := by
  unfold State.dropProg
  try dsimp only
  repeat' first
    | with_reducible assumption
    | with_reducible refine State.retireBad_good ?_
    | with_reducible refine good_ite ?_ ?_
    | simp only [good_mk_eq, List.length_map, List.length_set]
    | split

theorem State.dropProgs_good {ps : List PulseProg} {status : Nat} (hgood : Good O Q s) : Good O Q (State.dropProgs s ps status) := by
  unfold State.dropProgs
  try dsimp only
  repeat' first
    | with_reducible assumption
    | with_reducible refine State.dropProg_good ?_
    | with_reducible refine State.each_good ?_ (fun _ _ _ => ?_)
    | with_reducible refine good_ite ?_ ?_
    | simp only [good_mk_eq, List.length_map, List.length_set]
    | split

theorem State.pulseStop_good {k : Nat} {status : Nat} (hgood : Good O Q s) : Good O Q (State.pulseStop s k status) := by
  unfold State.pulseStop
  try dsimp only
  repeat' first
    | with_reducible assumption
    | with_reducible refine State.dropProg_good ?_
    | with_reducible refine State.dropProgs_good ?_
    | with_reducible refine State.setPulse_good ?_
    | with_reducible refine good_ite ?_ ?_
    | simp only [good_mk_eq, List.length_map, List.length_set]
    | split

theorem State.pulseStopAll_good {status : Nat} (hgood : Good O Q s) : Good O Q (State.pulseStopAll s status) := by
  unfold State.pulseStopAll
  try dsimp only
  repeat' first
    | with_reducible assumption
    | with_reducible refine State.pulseStop_good ?_
    | with_reducible refine State.each_good ?_ (fun _ _ _ => ?_)
    | with_reducible refine good_ite ?_ ?_
    | simp only [good_mk_eq, List.length_map, List.length_set]
    | split

theorem State.pulseSwitch_good {k : Nat} {n : PulseProg} (hgood : Good O Q s) : Good O Q (State.pulseSwitch s k n) := by
  unfold State.pulseSwitch
  try dsimp only
  repeat' first
    | with_reducible assumption
    | with_reducible refine State.dropProg_good ?_
    | with_reducible refine State.dropProgs_good ?_
    | with_reducible refine State.setPulse_good ?_
    | with_reducible refine good_ite ?_ ?_
    | simp only [good_mk_eq, List.length_map, List.length_set]
    | split

theorem State.pulsePass_good {k : Nat} {now : Nat} (hgood : Good O Q s) : Good O Q (State.pulsePass s k now) := by
  unfold State.pulsePass
  try dsimp only
  repeat' first
    | with_reducible assumption
    | with_reducible refine State.bumpBy_good ?_
    | with_reducible refine State.dropProg_good ?_
    | with_reducible refine State.setBit_good ?_
    | with_reducible refine State.setPulse_good ?_
    | with_reducible refine good_ite ?_ ?_
    | simp only [good_mk_eq, List.length_map, List.length_set]
    | split

theorem State.pulseTurns_good {k n : Nat} : ∀ {s : State}, Good O Q s → Good O Q (s.pulseTurns k n) := by
  induction n with
  | zero => intro s h; exact h
  | succ n ih =>
    intro s h
    unfold State.pulseTurns
    split
    · exact good_ite (ih (State.pulseSwitch_good (State.pulsePass_good h))) h
    · exact h

theorem State.pulseStepped_good {k : Nat} (hgood : Good O Q s) : Good O Q (State.pulseStepped s k) := by
  unfold State.pulseStepped
  try dsimp only
  repeat' first
    | with_reducible assumption
    | with_reducible refine State.dropProg_good ?_
    | with_reducible refine State.dropProgs_good ?_
    | with_reducible refine State.pulsePass_good ?_
    | with_reducible refine State.pulseTurns_good ?_
    | with_reducible refine State.setPulse_good ?_
    | with_reducible refine good_ite ?_ ?_
    | simp only [good_mk_eq, List.length_map, List.length_set]
    | split

theorem State.jobsStepped_good (hgood : Good O Q s) : Good O Q (State.jobsStepped s) := by
  unfold State.jobsStepped
  try dsimp only
  repeat' first
    | with_reducible assumption
    | with_reducible refine State.retireBad_good ?_
    | with_reducible refine State.each_good ?_ (fun _ _ _ => ?_)
    | with_reducible refine good_ite ?_ ?_
    | simp only [good_mk_eq, List.length_map, List.length_set]
    | split

theorem State.slewBy_good {c : Int} {interval : Nat} (hgood : Good O Q s) : Good O Q (State.slewBy s c interval) := by
  unfold State.slewBy
  try dsimp only
  repeat' first
    | with_reducible assumption
    | with_reducible refine good_ite ?_ ?_
    | simp only [good_mk_eq, List.length_map, List.length_set]
    | split

theorem State.setCount_good {t : Tq} (hgood : Good O Q s) : Good O Q (State.setCount s t) := by
  unfold State.setCount
  try dsimp only
  repeat' first
    | with_reducible assumption
    | with_reducible refine good_ite ?_ ?_
    | simp only [good_mk_eq, List.length_map, List.length_set]
    | split

theorem State.afterStep_good {old : Tq} (hgood : Good O Q s) : Good O Q (State.afterStep s old) := by
  unfold State.afterStep
  try dsimp only
  repeat' first
    | with_reducible assumption
    | with_reducible refine State.jobsStepped_good ?_
    | with_reducible refine State.pulseStepped_good ?_
    | with_reducible refine State.timeStepped_good ?_
    | with_reducible refine State.each_good ?_ (fun _ _ _ => ?_)
    | with_reducible refine good_ite ?_ ?_
    | simp only [good_mk_eq, List.length_map, List.length_set]
    | split

theorem State.ffStep_good {d : Int} (hgood : Good O Q s) : Good O Q (State.ffStep s d) := by
  unfold State.ffStep
  try dsimp only
  repeat' first
    | with_reducible assumption
    | with_reducible refine State.afterStep_good ?_
    | with_reducible refine State.bump_good ?_
    | with_reducible refine State.raise_good ?_
    | with_reducible refine State.setBit_good ?_
    | with_reducible refine State.setReg_good ?_
    | with_reducible refine State.slewBy_good ?_
    | with_reducible refine State.doIf_good ?_ ?_
    | with_reducible refine good_ite ?_ ?_
    | simp only [good_mk_eq, List.length_map, List.length_set]
    | split

theorem State.ffMode_good {m : FfMode} (hgood : Good O Q s) : Good O Q (State.ffMode s m) := by
  unfold State.ffMode
  try dsimp only
  repeat' first
    | with_reducible assumption
    | with_reducible refine State.refuserNote_good ?_
    | with_reducible refine State.setBit_good ?_
    | with_reducible refine good_ite ?_ ?_
    | simp only [good_mk_eq, List.length_map, List.length_set]
    | split

theorem State.adoptStreams_good {g : Nat} (hgood : Good O Q s) : Good O Q (State.adoptStreams s g) := by
  unfold State.adoptStreams
  try dsimp only
  repeat' first
    | with_reducible assumption
    | with_reducible refine State.closeStreams_good ?_
    | with_reducible refine State.updGrp_good ?_
    | with_reducible refine State.updStrm_good ?_
    | with_reducible refine State.each_good ?_ (fun _ _ _ => ?_)
    | with_reducible refine good_ite ?_ ?_
    | simp only [good_mk_eq, List.length_map, List.length_set]
    | split

theorem State.adoptGroup_good {g : Nat} (hgood : Good O Q s) : Good O Q (State.adoptGroup s g) := by
  unfold State.adoptGroup
  try dsimp only
  repeat' first
    | with_reducible assumption
    | with_reducible refine State.loseGroup_good ?_
    | with_reducible refine State.startGroup_good ?_
    | with_reducible refine State.stopGroup_good ?_
    | with_reducible refine State.updGrp_good ?_
    | with_reducible refine good_ite ?_ ?_
    | simp only [good_mk_eq, List.length_map, List.length_set]
    | split

theorem State.adoptCaptures_good {old : Tq} (hgood : Good O Q s) : Good O Q (State.adoptCaptures s old) := by
  unfold State.adoptCaptures
  try dsimp only
  repeat' first
    | with_reducible assumption
    | with_reducible refine State.retireBad_good ?_
    | with_reducible refine State.updCap_good ?_
    | with_reducible refine State.each_good ?_ (fun _ _ _ => ?_)
    | with_reducible refine good_ite ?_ ?_
    | simp only [good_mk_eq, List.length_map, List.length_set]
    | split

/-- The frames that left the history are forgotten. -/
theorem good_hiveLost {f : FfSt} (hgood : Good O Q s) : Good O Q { s with ff := f, hiveLost := [] } := { hgood with hiveLost := rfl }

theorem State.adopt_good {epoch : BitVec 16} {t : Tq} (hgood : Good O Q s) : Good O Q (s.adopt epoch t) := by
  have h0 : ∀ (i : Nat) (a : State), Good O Q a → Good O Q ((a.statNow a.cfgv i).updStats i (fun c => c.closeShort a.nowNs none)) :=
    fun _ _ h => State.updStats_good (State.statNow_good h)
  unfold State.adopt
  dsimp only
  refine State.raise_good (State.setBit_good (State.each_good (State.pulseStopAll_good (State.adoptCaptures_good
    (State.adoptGroup_good (State.adoptGroup_good (State.mainsHole_good ?_))))) (fun _ _ h => State.updPulse_good h)))
  exact good_hiveLost (State.setCount_good (State.slewBy_good (State.adoptStreams_good (State.adoptStreams_good (State.each_good hgood h0)))))

theorem State.ffSlew_good {theta : Int} {interval : Nat} (hgood : Good O Q s) : Good O Q (State.ffSlew s theta interval) := by
  unfold State.ffSlew
  try dsimp only
  repeat' first
    | with_reducible assumption
    | with_reducible refine State.slewBy_good ?_
    | with_reducible refine good_ite ?_ ?_
    | simp only [good_mk_eq, List.length_map, List.length_set]
    | split

theorem State.ffCorrect_good {theta : Int} {interval : Nat} {mayStep : Bool} (hgood : Good O Q s) : Good O Q (State.ffCorrect s theta interval mayStep) := by
  unfold State.ffCorrect
  try dsimp only
  repeat' first
    | with_reducible assumption
    | with_reducible refine State.ffSlew_good ?_
    | with_reducible refine State.ffStep_good ?_
    | with_reducible refine State.slewBy_good ?_
    | with_reducible refine good_ite ?_ ?_
    | simp only [good_mk_eq, List.length_map, List.length_set]
    | split

theorem State.ffStates_good {theta : Int} (hgood : Good O Q s) : Good O Q (State.ffStates s theta) := by
  unfold State.ffStates
  try dsimp only
  repeat' first
    | with_reducible assumption
    | with_reducible refine State.ffMode_good ?_
    | with_reducible refine good_ite ?_ ?_
    | simp only [good_mk_eq, List.length_map, List.length_set]
    | split

theorem State.ffParentExchange_good {theta : Int} {delay : Int} (hgood : Good O Q s) : Good O Q (State.ffParentExchange s theta delay) := by
  unfold State.ffParentExchange
  try dsimp only
  repeat' first
    | with_reducible assumption
    | with_reducible refine State.ffCorrect_good ?_
    | with_reducible refine State.ffStates_good ?_
    | with_reducible refine State.setReg_good ?_
    | with_reducible refine good_ite ?_ ?_
    | simp only [good_mk_eq, List.length_map, List.length_set]
    | split

theorem State.ffTwinExchange_good {theta : Int} (hgood : Good O Q s) : Good O Q (State.ffTwinExchange s theta) := by
  unfold State.ffTwinExchange
  try dsimp only
  repeat' first
    | with_reducible assumption
    | with_reducible refine State.addReason_good ?_
    | with_reducible refine State.dropReason_good ?_
    | with_reducible refine State.setReg_good ?_
    | with_reducible refine good_ite ?_ ?_
    | simp only [good_mk_eq, List.length_map, List.length_set]
    | split

theorem State.ffPortsAnew_good (hgood : Good O Q s) : Good O Q (State.ffPortsAnew s) := by
  unfold State.ffPortsAnew
  try dsimp only
  repeat' first
    | with_reducible assumption
    | with_reducible refine State.updFfPort_good ?_
    | with_reducible refine State.each_good ?_ (fun _ _ _ => ?_)
    | with_reducible refine good_ite ?_ ?_
    | simp only [good_mk_eq, List.length_map, List.length_set]
    | split

theorem State.ffSwitch_good {alt : Bool} (hgood : Good O Q s) : Good O Q (State.ffSwitch s alt) := by
  unfold State.ffSwitch
  try dsimp only
  repeat' first
    | with_reducible assumption
    | with_reducible refine State.ffPortsAnew_good ?_
    | with_reducible refine State.refclkKeep_good ?_
    | with_reducible refine State.updFfPort_good ?_
    | with_reducible refine good_ite ?_ ?_
    | simp only [good_mk_eq, List.length_map, List.length_set]
    | split

theorem State.ffExchange_good {p : Nat} {theta : Int} {delay : Int} (hgood : Good O Q s) : Good O Q (State.ffExchange s p theta delay) := by
  unfold State.ffExchange
  try dsimp only
  repeat' first
    | with_reducible assumption
    | with_reducible refine State.ffParentExchange_good ?_
    | with_reducible refine State.ffSwitch_good ?_
    | with_reducible refine State.ffTwinExchange_good ?_
    | with_reducible refine State.updFfPort_good ?_
    | with_reducible refine good_ite ?_ ?_
    | simp only [good_mk_eq, List.length_map, List.length_set]
    | split

theorem State.ffDrop_good {p : Nat} {bad : ExchSt → Bool} (hgood : Good O Q s) : Good O Q (State.ffDrop s p bad) := by
  unfold State.ffDrop
  try dsimp only
  repeat' first
    | with_reducible assumption
    | with_reducible refine State.bumpBy_good ?_
    | with_reducible refine State.updFfPort_good ?_
    | with_reducible refine good_ite ?_ ?_
    | simp only [good_mk_eq, List.length_map, List.length_set]
    | split

theorem State.ffStart_good {p : Nat} {m : SyncMsg} (hgood : Good O Q s) : Good O Q (State.ffStart s p m) := by
  unfold State.ffStart
  try dsimp only
  repeat' first
    | with_reducible assumption
    | with_reducible refine State.ffDrop_good ?_
    | with_reducible refine State.sendOn_good ?_
    | with_reducible refine State.updFfPort_good ?_
    | with_reducible refine good_ite ?_ ?_
    | simp only [good_mk_eq, List.length_map, List.length_set]
    | split

theorem State.ffNeighbour_good {p : Nat} {m : SyncMsg} (hgood : Good O Q s) : Good O Q (State.ffNeighbour s p m) := by
  unfold State.ffNeighbour
  try dsimp only
  repeat' first
    | with_reducible assumption
    | with_reducible refine State.bump_good ?_
    | with_reducible refine State.raise_good ?_
    | with_reducible refine State.setBit_good ?_
    | with_reducible refine State.updFfPort_good ?_
    | with_reducible refine good_ite ?_ ?_
    | simp only [good_mk_eq, List.length_map, List.length_set]
    | split

theorem State.ffFromParent_good {p : Nat} {m : SyncMsg} (hgood : Good O Q s) : Good O Q (State.ffFromParent s p m) := by
  unfold State.ffFromParent
  try dsimp only
  repeat' first
    | with_reducible assumption
    | with_reducible refine State.adopt_good ?_
    | with_reducible refine State.ffMode_good ?_
    | with_reducible refine State.updFfPort_good ?_
    | with_reducible refine good_ite ?_ ?_
    | simp only [good_mk_eq, List.length_map, List.length_set]
    | split

theorem execSyncInterval_good (hgood : Good O Q s) : OutGood O Q (execSyncInterval s) := by
  unfold execSyncInterval
  try dsimp only
  repeat' first
    | with_reducible assumption
    | with_reducible refine outGood_next ?_
    | with_reducible refine outGood_ite ?_ ?_
    | with_reducible refine State.sendOn_good ?_
    | with_reducible refine State.updFfPort_good ?_
    | with_reducible refine State.each_good ?_ (fun _ _ _ => ?_)
    | with_reducible refine good_ite ?_ ?_
    | simp only [good_mk_eq, List.length_map, List.length_set]
    | split

theorem execSync_good {p : Port} {m : SyncMsg} (hgood : Good O Q s) : OutGood O Q (execSync p m s) := by
  unfold execSync
  try dsimp only
  repeat' first
    | with_reducible assumption
    | with_reducible refine outGood_next ?_
    | with_reducible refine outGood_ite ?_ ?_
    | with_reducible refine State.bump_good ?_
    | with_reducible refine State.ffFromParent_good ?_
    | with_reducible refine State.ffNeighbour_good ?_
    | with_reducible refine State.ffStart_good ?_
    | with_reducible refine State.raiseBare_good ?_
    | with_reducible refine State.rxAccept_good ?_
    | with_reducible refine State.updFfPort_good ?_
    | with_reducible refine good_ite ?_ ?_
    | simp only [good_mk_eq, List.length_map, List.length_set]
    | split

theorem execDelayReq_good {p : Port} {m : DelayReq} (hgood : Good O Q s) : OutGood O Q (execDelayReq p m s) := by
  unfold execDelayReq
  try dsimp only
  repeat' first
    | with_reducible assumption
    | with_reducible refine outGood_next ?_
    | with_reducible refine outGood_ite ?_ ?_
    | with_reducible refine State.rxAccept_good ?_
    | with_reducible refine State.sendOn_good ?_
    | with_reducible refine good_ite ?_ ?_
    | simp only [good_mk_eq, List.length_map, List.length_set]
    | split

theorem execDelayResp_good {p : Port} {m : DelayResp} (hgood : Good O Q s) : OutGood O Q (execDelayResp p m s) := by
  unfold execDelayResp
  try dsimp only
  repeat' first
    | with_reducible assumption
    | with_reducible refine outGood_next ?_
    | with_reducible refine outGood_ite ?_ ?_
    | with_reducible refine State.ffDrop_good ?_
    | with_reducible refine State.ffExchange_good ?_
    | with_reducible refine State.rxAccept_good ?_
    | with_reducible refine State.updFfPort_good ?_
    | with_reducible refine State.useInj_good ?_
    | with_reducible refine State.doIf_good ?_ ?_
    | with_reducible refine State.underInj_good ?_ (fun _ _ => ?_)
    | with_reducible refine good_ite ?_ ?_
    | simp only [good_mk_eq, List.length_map, List.length_set]
    | split

theorem execExchangeTimeout_good {p : Port} (hgood : Good O Q s) : OutGood O Q (execExchangeTimeout p s) := by
  unfold execExchangeTimeout
  try dsimp only
  repeat' first
    | with_reducible assumption
    | with_reducible refine outGood_next ?_
    | with_reducible refine outGood_ite ?_ ?_
    | with_reducible refine State.ffDrop_good ?_
    | with_reducible refine State.reach_good ?_
    | with_reducible refine good_ite ?_ ?_
    | simp only [good_mk_eq, List.length_map, List.length_set]
    | split

theorem execParentTimeout_good (hgood : Good O Q s) : OutGood O Q (execParentTimeout s) := by
  unfold execParentTimeout
  try dsimp only
  repeat' first
    | with_reducible assumption
    | with_reducible refine outGood_next ?_
    | with_reducible refine outGood_ite ?_ ?_
    | with_reducible refine State.ffMode_good ?_
    | with_reducible refine State.ffSwitch_good ?_
    | with_reducible refine State.reachUp_good ?_
    | with_reducible refine State.updFfPort_good ?_
    | with_reducible refine good_ite ?_ ?_
    | simp only [good_mk_eq, List.length_map, List.length_set]
    | split

theorem execNoParent_good (hgood : Good O Q s) : OutGood O Q (execNoParent s) := by
  unfold execNoParent
  try dsimp only
  repeat' first
    | with_reducible assumption
    | with_reducible refine outGood_next ?_
    | with_reducible refine outGood_ite ?_ ?_
    | with_reducible refine State.raise_good ?_
    | with_reducible refine State.reachUp_good ?_
    | with_reducible refine State.setBit_good ?_
    | with_reducible refine good_ite ?_ ?_
    | simp only [good_mk_eq, List.length_map, List.length_set]
    | split

theorem State.ffSet_good {v : Nat} {epoch : BitVec 16} (hgood : Good O Q s) : Good O Q (State.ffSet s v epoch) := by
  unfold State.ffSet
  try dsimp only
  repeat' first
    | with_reducible assumption
    | with_reducible refine State.adopt_good ?_
    | with_reducible refine State.afterStep_good ?_
    | with_reducible refine State.setCount_good ?_
    | with_reducible refine State.slewBy_good ?_
    | with_reducible refine good_ite ?_ ?_
    | simp only [good_mk_eq, List.length_map, List.length_set]
    | split

theorem State.ppsStates_good {theta : Int} (hgood : Good O Q s) : Good O Q (State.ppsStates s theta) := by
  unfold State.ppsStates
  try dsimp only
  repeat' first
    | with_reducible assumption
    | with_reducible refine State.ffMode_good ?_
    | with_reducible refine good_ite ?_ ?_
    | simp only [good_mk_eq, List.length_map, List.length_set]
    | split

theorem execPpsEdge_good (hgood : Good O Q s) : OutGood O Q (execPpsEdge s) := by
  unfold execPpsEdge
  try dsimp only
  repeat' first
    | with_reducible assumption
    | with_reducible refine outGood_next ?_
    | with_reducible refine outGood_ite ?_ ?_
    | with_reducible refine State.ffCorrect_good ?_
    | with_reducible refine State.ffMode_good ?_
    | with_reducible refine State.ffSet_good ?_
    | with_reducible refine State.ppsStates_good ?_
    | with_reducible refine good_ite ?_ ?_
    | simp only [good_mk_eq, List.length_map, List.length_set]
    | split

theorem execPpsTimeout_good (hgood : Good O Q s) : OutGood O Q (execPpsTimeout s) := by
  unfold execPpsTimeout
  try dsimp only
  repeat' first
    | with_reducible assumption
    | with_reducible refine outGood_next ?_
    | with_reducible refine outGood_ite ?_ ?_
    | with_reducible refine State.ffMode_good ?_
    | with_reducible refine State.reachUp_good ?_
    | with_reducible refine good_ite ?_ ?_
    | simp only [good_mk_eq, List.length_map, List.length_set]
    | split

theorem execFfSetGo_good {path : Path} (hgood : Good O Q s) : OutGood O Q (execFfSetGo path s) := by
  unfold execFfSetGo
  try dsimp only
  repeat' first
    | with_reducible assumption
    | with_reducible refine outGood_next ?_
    | with_reducible refine outGood_ite ?_ ?_
    | with_reducible refine State.ffMode_good ?_
    | with_reducible refine State.ffSet_good ?_
    | with_reducible refine State.setBit_good ?_
    | with_reducible refine good_ite ?_ ?_
    | simp only [good_mk_eq, List.length_map, List.length_set]
    | split

theorem execFfNowRead_good {wide : Bool} (hgood : Good O Q s) : OutGood O Q (execFfNowRead wide s) := by
  unfold execFfNowRead
  try dsimp only
  repeat' first
    | with_reducible assumption
    | with_reducible refine outGood_next ?_
    | with_reducible refine outGood_ite ?_ ?_
    | with_reducible refine good_ite ?_ ?_
    | simp only [good_mk_eq, List.length_map, List.length_set]
    | split

theorem execTxtsPop_good {p : Port} (hgood : Good O Q s) : OutGood O Q (execTxtsPop p s) := by
  unfold execTxtsPop
  try dsimp only
  repeat' first
    | with_reducible assumption
    | with_reducible refine outGood_next ?_
    | with_reducible refine outGood_ite ?_ ?_
    | with_reducible refine State.updTxts_good ?_
    | with_reducible refine good_ite ?_ ?_
    | simp only [good_mk_eq, List.length_map, List.length_set]
    | split

theorem State.txtsPush_good {p : Nat} {tsId : BitVec 16} {stamp : Tq} {retry : Bool} (hgood : Good O Q s) : Good O Q (State.txtsPush s p tsId stamp retry) := by
  unfold State.txtsPush
  try dsimp only
  repeat' first
    | with_reducible assumption
    | with_reducible refine State.bump_good ?_
    | with_reducible refine State.setBit_good ?_
    | with_reducible refine State.setTxts_good ?_
    | with_reducible refine good_ite ?_ ?_
    | simp only [good_mk_eq, List.length_map, List.length_set]
    | split

theorem execTimePulse_good {id : Nat} (hgood : Good O Q s) : OutGood O Q (execTimePulse id s) := by
  unfold execTimePulse
  try dsimp only
  repeat' first
    | with_reducible assumption
    | with_reducible refine outGood_next ?_
    | with_reducible refine outGood_ite ?_ ?_
    | with_reducible refine State.pulseStop_good ?_
    | with_reducible refine State.retireBad_good ?_
    | with_reducible refine State.retireOk_good ?_
    | with_reducible refine State.setPulse_good ?_
    | with_reducible refine State.take_good ?_
    | with_reducible refine State.serve_good ?_ (fun _ _ _ => ?_)
    | with_reducible refine good_ite ?_ ?_
    | simp only [good_mk_eq, List.length_map, List.length_set]
    | split

theorem State.pulseRetire_good {id : Option Nat} {rise : Tq} (hgood : Good O Q s) : Good O Q (State.pulseRetire s id rise) := by
  unfold State.pulseRetire
  try dsimp only
  repeat' first
    | with_reducible assumption
    | with_reducible refine State.retireOk_good ?_
    | with_reducible refine good_ite ?_ ?_
    | simp only [good_mk_eq, List.length_map, List.length_set]
    | split

theorem execTimePulseRise_good {k : Fin 4} (hgood : Good O Q s) : OutGood O Q (execTimePulseRise k s) := by
  unfold execTimePulseRise
  try dsimp only
  repeat' first
    | with_reducible assumption
    | with_reducible refine outGood_next ?_
    | with_reducible refine outGood_ite ?_ ?_
    | with_reducible refine State.pulseSwitch_good ?_
    | with_reducible refine State.reach_good ?_
    | with_reducible refine State.setPulse_good ?_
    | with_reducible refine good_ite ?_ ?_
    | simp only [good_mk_eq, List.length_map, List.length_set]
    | split

theorem execTimePulseFall_good {k : Fin 4} (hgood : Good O Q s) : OutGood O Q (execTimePulseFall k s) := by
  unfold execTimePulseFall
  try dsimp only
  repeat' first
    | with_reducible assumption
    | with_reducible refine outGood_next ?_
    | with_reducible refine outGood_ite ?_ ?_
    | with_reducible refine State.pulseRetire_good ?_
    | with_reducible refine State.reach_good ?_
    | with_reducible refine State.setPulse_good ?_
    | with_reducible refine good_ite ?_ ?_
    | simp only [good_mk_eq, List.length_map, List.length_set]
    | split

theorem State.ffPortUp_good {p : Nat} (hgood : Good O Q s) : Good O Q (State.ffPortUp s p) := by
  unfold State.ffPortUp
  try dsimp only
  repeat' first
    | with_reducible assumption
    | with_reducible refine State.ffMode_good ?_
    | with_reducible refine State.refclkKeep_good ?_
    | with_reducible refine good_ite ?_ ?_
    | simp only [good_mk_eq, List.length_map, List.length_set]
    | split

theorem State.ffCommit_good {old : Look} (hgood : Good O Q s) : Good O Q (State.ffCommit s old) := by
  unfold State.ffCommit
  try dsimp only
  repeat' first
    | with_reducible assumption
    | with_reducible refine State.ffMode_good ?_
    | with_reducible refine State.ffPortsAnew_good ?_
    | with_reducible refine State.refclkKeep_good ?_
    | with_reducible refine good_ite ?_ ?_
    | simp only [good_mk_eq, List.length_map, List.length_set]
    | split

theorem State.testKeep_good {p : Nat} (hgood : Good O Q s) : Good O Q (State.testKeep s p) := by
  unfold State.testKeep
  try dsimp only
  repeat' first
    | with_reducible assumption
    | with_reducible refine State.setReg_good ?_
    | with_reducible refine good_ite ?_ ?_
    | simp only [good_mk_eq, List.length_map, List.length_set]
    | split

theorem State.linkMode_good {p : Nat} {m : PortMode} (hgood : Good O Q s) : Good O Q (State.linkMode s p m) := by
  unfold State.linkMode
  try dsimp only
  repeat' first
    | with_reducible assumption
    | with_reducible refine State.testKeep_good ?_
    | with_reducible refine State.traceFree_good ?_
    | with_reducible refine State.updLink_good ?_
    | with_reducible refine good_ite ?_ ?_
    | simp only [good_mk_eq, List.length_map, List.length_set]
    | split

theorem State.trainSend_good {p : Nat} {b : TxBody} (hgood : Good O Q s) : Good O Q (State.trainSend s p b) := by
  unfold State.trainSend
  try dsimp only
  repeat' first
    | with_reducible assumption
    | with_reducible refine State.sendOn_good ?_
    | with_reducible refine State.updLink_good ?_
    | with_reducible refine good_ite ?_ ?_
    | simp only [good_mk_eq, List.length_map, List.length_set]
    | split

theorem State.flipAlone_good (hgood : Good O Q s) : Good O Q (State.flipAlone s) := by
  unfold State.flipAlone
  try dsimp only
  repeat' first
    | with_reducible assumption
    | with_reducible refine State.armFlip_good ?_
    | with_reducible refine good_ite ?_ ?_
    | simp only [good_mk_eq, List.length_map, List.length_set]
    | split

theorem State.twinDown_good (hgood : Good O Q s) : Good O Q (State.twinDown s) := by
  unfold State.twinDown
  try dsimp only
  repeat' first
    | with_reducible assumption
    | with_reducible refine State.addReason_good ?_
    | with_reducible refine State.dropAwaits_good ?_
    | with_reducible refine State.flipAlone_good ?_
    | with_reducible refine State.retireBad_good ?_
    | with_reducible refine good_ite ?_ ?_
    | simp only [good_mk_eq, List.length_map, List.length_set]
    | split

theorem State.linkExit_good {p : Nat} {cause : Nat} (hgood : Good O Q s) : Good O Q (State.linkExit s p cause) := by
  unfold State.linkExit
  try dsimp only
  repeat' first
    | with_reducible assumption
    | with_reducible refine State.bumpBy_good ?_
    | with_reducible refine State.bump_good ?_
    | with_reducible refine State.cutFrame_good ?_
    | with_reducible refine State.raise_good ?_
    | with_reducible refine State.setBit_good ?_
    | with_reducible refine State.setLink_good ?_
    | with_reducible refine State.twinDown_good ?_
    | with_reducible refine State.updFfPort_good ?_
    | with_reducible refine good_ite ?_ ?_
    | simp only [good_mk_eq, List.length_map, List.length_set]
    | split

theorem State.lanesStart_good {p : Nat} (hgood : Good O Q s) : Good O Q (State.lanesStart s p) := by
  unfold State.lanesStart
  try dsimp only
  repeat' first
    | with_reducible assumption
    | with_reducible refine State.updLink_good ?_
    | with_reducible refine good_ite ?_ ?_
    | simp only [good_mk_eq, List.length_map, List.length_set]
    | split

theorem State.linkDetect_good {p : Nat} (hgood : Good O Q s) : Good O Q (State.linkDetect s p) := by
  unfold State.linkDetect
  try dsimp only
  repeat' first
    | with_reducible assumption
    | with_reducible refine State.lanesStart_good ?_
    | with_reducible refine State.linkExit_good ?_
    | with_reducible refine State.linkMode_good ?_
    | with_reducible refine State.updLink_good ?_
    | with_reducible refine good_ite ?_ ?_
    | simp only [good_mk_eq, List.length_map, List.length_set]
    | split

theorem State.faultEnter_good {p : Nat} {cause : Nat} (hgood : Good O Q s) : Good O Q (State.faultEnter s p cause) := by
  unfold State.faultEnter
  try dsimp only
  repeat' first
    | with_reducible assumption
    | with_reducible refine State.linkMode_good ?_
    | with_reducible refine State.raise_good ?_
    | with_reducible refine State.setBit_good ?_
    | with_reducible refine State.updLink_good ?_
    | with_reducible refine good_ite ?_ ?_
    | simp only [good_mk_eq, List.length_map, List.length_set]
    | split

theorem State.linkFault_good {p : Nat} {cause : Nat} (hgood : Good O Q s) : Good O Q (State.linkFault s p cause) := by
  unfold State.linkFault
  try dsimp only
  repeat' first
    | with_reducible assumption
    | with_reducible refine State.faultEnter_good ?_
    | with_reducible refine State.linkExit_good ?_
    | with_reducible refine State.oneCycle_good ?_ (fun _ _ => ?_)
    | with_reducible refine good_ite ?_ ?_
    | simp only [good_mk_eq, List.length_map, List.length_set]
    | split

theorem State.linkLose_good {p : Nat} {cause : Nat} (hgood : Good O Q s) : Good O Q (State.linkLose s p cause) := by
  unfold State.linkLose
  try dsimp only
  repeat' first
    | with_reducible assumption
    | with_reducible refine State.faultEnter_good ?_
    | with_reducible refine State.linkExit_good ?_
    | with_reducible refine State.linkMode_good ?_
    | with_reducible refine State.take_good ?_
    | with_reducible refine State.updLink_good ?_
    | with_reducible refine State.oneCycle_good ?_ (fun _ _ => ?_)
    | with_reducible refine good_ite ?_ ?_
    | simp only [good_mk_eq, List.length_map, List.length_set]
    | split

theorem State.linkResume_good {p : Nat} {f : IdentFrame} (hgood : Good O Q s) : Good O Q (State.linkResume s p f) := by
  unfold State.linkResume
  try dsimp only
  repeat' first
    | with_reducible assumption
    | with_reducible refine State.bumpBy_good ?_
    | with_reducible refine State.setLink_good ?_
    | with_reducible refine good_ite ?_ ?_
    | simp only [good_mk_eq, List.length_map, List.length_set]
    | split

theorem State.linkActive_good {p : Nat} (hgood : Good O Q s) : Good O Q (State.linkActive s p) := by
  unfold State.linkActive
  try dsimp only
  repeat' first
    | with_reducible assumption
    | with_reducible refine State.endHandling_good ?_
    | with_reducible refine State.ffPortUp_good ?_
    | with_reducible refine State.linkMode_good ?_
    | with_reducible refine State.linkResume_good ?_
    | with_reducible refine State.sendHealth_good ?_
    | with_reducible refine State.startNext_good ?_
    | with_reducible refine State.updLink_good ?_
    | with_reducible refine good_ite ?_ ?_
    | simp only [good_mk_eq, List.length_map, List.length_set]
    | split

theorem State.drawn_good (hgood : Good O Q s) : Good O Q (State.drawn s) := by
  unfold State.drawn
  try dsimp only
  repeat' first
    | with_reducible assumption
    | with_reducible refine good_ite ?_ ?_
    | simp only [good_mk_eq, List.length_map, List.length_set]
    | split

theorem State.keySend_good {p : Nat} {kind : Nat} {payload : List Byte} (hgood : Good O Q s) : Good O Q (State.keySend s p kind payload) := by
  unfold State.keySend
  try dsimp only
  repeat' first
    | with_reducible assumption
    | with_reducible refine State.sendOn_good ?_
    | with_reducible refine State.updLink_good ?_
    | with_reducible refine good_ite ?_ ?_
    | simp only [good_mk_eq, List.length_map, List.length_set]
    | split

theorem State.keyStart_good {p : Nat} (hgood : Good O Q s) : Good O Q (State.keyStart s p) := by
  unfold State.keyStart
  try dsimp only
  repeat' first
    | with_reducible assumption
    | with_reducible refine State.drawn_good ?_
    | with_reducible refine State.keySend_good ?_
    | with_reducible refine State.updLink_good ?_
    | with_reducible refine good_ite ?_ ?_
    | simp only [good_mk_eq, List.length_map, List.length_set]
    | split

theorem State.keysTurn_good {p : Nat} {k : LinkKeys} (hgood : Good O Q s) : Good O Q (State.keysTurn s p k) := by
  unfold State.keysTurn
  try dsimp only
  repeat' first
    | with_reducible assumption
    | with_reducible refine State.updLink_good ?_
    | with_reducible refine good_ite ?_ ?_
    | simp only [good_mk_eq, List.length_map, List.length_set]
    | split

theorem State.keysDone_good {p : Nat} {k : LinkKeys} (hgood : Good O Q s) : Good O Q (State.keysDone s p k) := by
  unfold State.keysDone
  try dsimp only
  repeat' first
    | with_reducible assumption
    | with_reducible refine State.keysTurn_good ?_
    | with_reducible refine State.linkActive_good ?_
    | with_reducible refine State.updLink_good ?_
    | with_reducible refine good_ite ?_ ?_
    | simp only [good_mk_eq, List.length_map, List.length_set]
    | split

theorem State.keyRx_good {p : Nat} (hgood : Good O Q s) : Good O Q (State.keyRx s p) := by
  unfold State.keyRx
  try dsimp only
  repeat' first
    | with_reducible assumption
    | with_reducible refine State.rxAccept_good ?_
    | with_reducible refine good_ite ?_ ?_
    | simp only [good_mk_eq, List.length_map, List.length_set]
    | split

theorem State.linkSecure_good {p : Nat} (hgood : Good O Q s) : Good O Q (State.linkSecure s p) := by
  unfold State.linkSecure
  try dsimp only
  repeat' first
    | with_reducible assumption
    | with_reducible refine State.keyStart_good ?_
    | with_reducible refine State.linkActive_good ?_
    | with_reducible refine State.linkMode_good ?_
    | with_reducible refine State.updLink_good ?_
    | with_reducible refine good_ite ?_ ?_
    | simp only [good_mk_eq, List.length_map, List.length_set]
    | split

theorem State.nextTrial_good {p : Nat} (hgood : Good O Q s) : Good O Q (State.nextTrial s p) := by
  unfold State.nextTrial
  try dsimp only
  repeat' first
    | with_reducible assumption
    | with_reducible refine State.linkSecure_good ?_
    | with_reducible refine State.trainSend_good ?_
    | with_reducible refine State.updLink_good ?_
    | with_reducible refine good_ite ?_ ?_
    | simp only [good_mk_eq, List.length_map, List.length_set]
    | split

theorem State.toRate_good {p : Nat} {rate : Nat} {back : Bool} (hgood : Good O Q s) : Good O Q (State.toRate s p rate back) := by
  unfold State.toRate
  try dsimp only
  repeat' first
    | with_reducible assumption
    | with_reducible refine State.updLink_good ?_
    | with_reducible refine good_ite ?_ ?_
    | simp only [good_mk_eq, List.length_map, List.length_set]
    | split

theorem State.rateBack_good {p : Nat} (hgood : Good O Q s) : Good O Q (State.rateBack s p) := by
  unfold State.rateBack
  try dsimp only
  repeat' first
    | with_reducible assumption
    | with_reducible refine State.toRate_good ?_
    | with_reducible refine State.updLink_good ?_
    | with_reducible refine good_ite ?_ ?_
    | simp only [good_mk_eq, List.length_map, List.length_set]
    | split

theorem State.trialResult_good {p : Nat} (hgood : Good O Q s) : Good O Q (State.trialResult s p) := by
  unfold State.trialResult
  try dsimp only
  repeat' first
    | with_reducible assumption
    | with_reducible refine State.nextTrial_good ?_
    | with_reducible refine State.rateBack_good ?_
    | with_reducible refine State.setLink_good ?_
    | with_reducible refine good_ite ?_ ?_
    | simp only [good_mk_eq, List.length_map, List.length_set]
    | split

theorem execDetectDone_good {p : Port} (hgood : Good O Q s) : OutGood O Q (execDetectDone p s) := by
  unfold execDetectDone
  try dsimp only
  repeat' first
    | with_reducible assumption
    | with_reducible refine outGood_next ?_
    | with_reducible refine outGood_ite ?_ ?_
    | with_reducible refine State.linkMode_good ?_
    | with_reducible refine good_ite ?_ ?_
    | simp only [good_mk_eq, List.length_map, List.length_set]
    | split

theorem State.fixedPeaks_good {p : Nat} (hgood : Good O Q s) : Good O Q (State.fixedPeaks s p) := by
  unfold State.fixedPeaks
  try dsimp only
  repeat' first
    | with_reducible assumption
    | with_reducible refine State.updLink_good ?_
    | with_reducible refine good_ite ?_ ?_
    | simp only [good_mk_eq, List.length_map, List.length_set]
    | split

theorem State.toEqTune_good {p : Nat} (hgood : Good O Q s) : Good O Q (State.toEqTune s p) := by
  unfold State.toEqTune
  try dsimp only
  repeat' first
    | with_reducible assumption
    | with_reducible refine State.fixedPeaks_good ?_
    | with_reducible refine State.linkMode_good ?_
    | with_reducible refine State.updLink_good ?_
    | with_reducible refine good_ite ?_ ?_
    | simp only [good_mk_eq, List.length_map, List.length_set]
    | split

theorem execClockLockDone_good {p : Port} (hgood : Good O Q s) : OutGood O Q (execClockLockDone p s) := by
  unfold execClockLockDone
  try dsimp only
  repeat' first
    | with_reducible assumption
    | with_reducible refine outGood_next ?_
    | with_reducible refine outGood_ite ?_ ?_
    | with_reducible refine State.toEqTune_good ?_
    | with_reducible refine State.updLink_good ?_
    | with_reducible refine good_ite ?_ ?_
    | simp only [good_mk_eq, List.length_map, List.length_set]
    | split

theorem State.stepOn_good {p : Nat} {m : PortMode} {step : Nat} (hgood : Good O Q s) : Good O Q (State.stepOn s p m step) := by
  unfold State.stepOn
  try dsimp only
  repeat' first
    | with_reducible assumption
    | with_reducible refine State.linkMode_good ?_
    | with_reducible refine State.updLink_good ?_
    | with_reducible refine good_ite ?_ ?_
    | simp only [good_mk_eq, List.length_map, List.length_set]
    | split

theorem execEqTuneDone_good {p : Port} {eyes0 : List Nat} {eyes1 : List Nat} (hgood : Good O Q s) : OutGood O Q (execEqTuneDone p eyes0 eyes1 s) := by
  unfold execEqTuneDone
  try dsimp only
  repeat' first
    | with_reducible assumption
    | with_reducible refine outGood_next ?_
    | with_reducible refine outGood_ite ?_ ?_
    | with_reducible refine State.stepOn_good ?_
    | with_reducible refine State.updLink_good ?_
    | with_reducible refine good_ite ?_ ?_
    | simp only [good_mk_eq, List.length_map, List.length_set]
    | split

theorem execBlockLockDone_good {bits : LockBits} (hgood : Good O Q s) : OutGood O Q (execBlockLockDone bits s) := by
  unfold execBlockLockDone
  try dsimp only
  repeat' first
    | with_reducible assumption
    | with_reducible refine outGood_next ?_
    | with_reducible refine outGood_ite ?_ ?_
    | with_reducible refine State.bumpBy_good ?_
    | with_reducible refine State.stepOn_good ?_
    | with_reducible refine good_ite ?_ ?_
    | simp only [good_mk_eq, List.length_map, List.length_set]
    | split

theorem execDeskewDone_good {p : Port} {lane0 : LaneReport} {lane1 : LaneReport} {aligns : AlignPairs} (hgood : Good O Q s) : OutGood O Q (execDeskewDone p lane0 lane1 aligns s) := by
  unfold execDeskewDone
  try dsimp only
  repeat' first
    | with_reducible assumption
    | with_reducible refine outGood_next ?_
    | with_reducible refine outGood_ite ?_ ?_
    | with_reducible refine State.linkMode_good ?_
    | with_reducible refine State.linkSecure_good ?_
    | with_reducible refine State.sendOn_good ?_
    | with_reducible refine State.trainSend_good ?_
    | with_reducible refine State.updLink_good ?_
    | with_reducible refine good_ite ?_ ?_
    | simp only [good_mk_eq, List.length_map, List.length_set]
    | split

theorem execIdent_good {p : Port} {f : IdentFrame} {rttNs : Option Nat} (hgood : Good O Q s) : OutGood O Q (execIdent p f rttNs s) := by
  unfold execIdent
  try dsimp only
  repeat' first
    | with_reducible assumption
    | with_reducible refine outGood_next ?_
    | with_reducible refine outGood_ite ?_ ?_
    | with_reducible refine State.linkActive_good ?_
    | with_reducible refine State.linkFault_good ?_
    | with_reducible refine State.linkMode_good ?_
    | with_reducible refine State.nextTrial_good ?_
    | with_reducible refine State.updLink_good ?_
    | with_reducible refine good_ite ?_ ?_
    | simp only [good_mk_eq, List.length_map, List.length_set]
    | split

theorem execRatePropose_good {p : Port} {rate : Nat} (hgood : Good O Q s) : OutGood O Q (execRatePropose p rate s) := by
  unfold execRatePropose
  try dsimp only
  repeat' first
    | with_reducible assumption
    | with_reducible refine outGood_next ?_
    | with_reducible refine outGood_ite ?_ ?_
    | with_reducible refine State.linkExit_good ?_
    | with_reducible refine State.linkMode_good ?_
    | with_reducible refine State.sendOn_good ?_
    | with_reducible refine State.toRate_good ?_
    | with_reducible refine State.updLink_good ?_
    | with_reducible refine good_ite ?_ ?_
    | simp only [good_mk_eq, List.length_map, List.length_set]
    | split

theorem execRateAccept_good {p : Port} {rate : Nat} (hgood : Good O Q s) : OutGood O Q (execRateAccept p rate s) := by
  unfold execRateAccept
  try dsimp only
  repeat' first
    | with_reducible assumption
    | with_reducible refine outGood_next ?_
    | with_reducible refine outGood_ite ?_ ?_
    | with_reducible refine State.toRate_good ?_
    | with_reducible refine good_ite ?_ ?_
    | simp only [good_mk_eq, List.length_map, List.length_set]
    | split

theorem execTest_good {p : Port} {f : SoakFrame} (hgood : Good O Q s) : OutGood O Q (execTest p f s) := by
  unfold execTest
  try dsimp only
  repeat' first
    | with_reducible assumption
    | with_reducible refine outGood_next ?_
    | with_reducible refine outGood_ite ?_ ?_
    | with_reducible refine State.bumpBy_good ?_
    | with_reducible refine State.updLink_good ?_
    | with_reducible refine good_ite ?_ ?_
    | simp only [good_mk_eq, List.length_map, List.length_set]
    | split

theorem execSoakEnd_good {p : Port} (hgood : Good O Q s) : OutGood O Q (execSoakEnd p s) := by
  unfold execSoakEnd
  try dsimp only
  repeat' first
    | with_reducible assumption
    | with_reducible refine outGood_next ?_
    | with_reducible refine outGood_ite ?_ ?_
    | with_reducible refine State.reachUp_good ?_
    | with_reducible refine State.setLink_good ?_
    | with_reducible refine State.trainSend_good ?_
    | with_reducible refine State.trialResult_good ?_
    | with_reducible refine good_ite ?_ ?_
    | simp only [good_mk_eq, List.length_map, List.length_set]
    | split

theorem State.gotResult_good {p : Nat} {pass : Bool} (hgood : Good O Q s) : Good O Q (State.gotResult s p pass) := by
  unfold State.gotResult
  try dsimp only
  repeat' first
    | with_reducible assumption
    | with_reducible refine State.setLink_good ?_
    | with_reducible refine State.trialResult_good ?_
    | with_reducible refine good_ite ?_ ?_
    | simp only [good_mk_eq, List.length_map, List.length_set]
    | split

theorem execRatePass_good {p : Port} (hgood : Good O Q s) : OutGood O Q (execRatePass p s) := by
  unfold execRatePass
  try dsimp only
  repeat' first
    | with_reducible assumption
    | with_reducible refine outGood_next ?_
    | with_reducible refine outGood_ite ?_ ?_
    | with_reducible refine State.gotResult_good ?_
    | with_reducible refine good_ite ?_ ?_
    | simp only [good_mk_eq, List.length_map, List.length_set]
    | split

theorem execRateFail_good {p : Port} (hgood : Good O Q s) : OutGood O Q (execRateFail p s) := by
  unfold execRateFail
  try dsimp only
  repeat' first
    | with_reducible assumption
    | with_reducible refine outGood_next ?_
    | with_reducible refine outGood_ite ?_ ?_
    | with_reducible refine State.gotResult_good ?_
    | with_reducible refine good_ite ?_ ?_
    | simp only [good_mk_eq, List.length_map, List.length_set]
    | split

theorem execLinkStateTimeout_good {p : Port} (hgood : Good O Q s) : OutGood O Q (execLinkStateTimeout p s) := by
  unfold execLinkStateTimeout
  try dsimp only
  repeat' first
    | with_reducible assumption
    | with_reducible refine outGood_next ?_
    | with_reducible refine outGood_ite ?_ ?_
    | with_reducible refine State.linkDetect_good ?_
    | with_reducible refine State.linkMode_good ?_
    | with_reducible refine State.rateBack_good ?_
    | with_reducible refine State.reachUp_good ?_
    | with_reducible refine State.setBit_good ?_
    | with_reducible refine State.updLink_good ?_
    | with_reducible refine good_ite ?_ ?_
    | simp only [good_mk_eq, List.length_map, List.length_set]
    | split

theorem execTrainingResend_good {p : Port} (hgood : Good O Q s) : OutGood O Q (execTrainingResend p s) := by
  unfold execTrainingResend
  try dsimp only
  repeat' first
    | with_reducible assumption
    | with_reducible refine outGood_next ?_
    | with_reducible refine outGood_ite ?_ ?_
    | with_reducible refine State.reachUp_good ?_
    | with_reducible refine State.sendOn_good ?_
    | with_reducible refine State.updLink_good ?_
    | with_reducible refine good_ite ?_ ?_
    | simp only [good_mk_eq, List.length_map, List.length_set]
    | split

theorem execFaultRetry_good {p : Port} (hgood : Good O Q s) : OutGood O Q (execFaultRetry p s) := by
  unfold execFaultRetry
  try dsimp only
  repeat' first
    | with_reducible assumption
    | with_reducible refine outGood_next ?_
    | with_reducible refine outGood_ite ?_ ?_
    | with_reducible refine State.linkDetect_good ?_
    | with_reducible refine State.reachUp_good ?_
    | with_reducible refine good_ite ?_ ?_
    | simp only [good_mk_eq, List.length_map, List.length_set]
    | split

theorem execRetrain_good {p : Port} (hgood : Good O Q s) : OutGood O Q (execRetrain p s) := by
  unfold execRetrain
  try dsimp only
  repeat' first
    | with_reducible assumption
    | with_reducible refine outGood_next ?_
    | with_reducible refine outGood_ite ?_ ?_
    | with_reducible refine State.linkDetect_good ?_
    | with_reducible refine good_ite ?_ ?_
    | simp only [good_mk_eq, List.length_map, List.length_set]
    | split

theorem execLos_good {p : Port} (hgood : Good O Q s) : OutGood O Q (execLos p s) := by
  unfold execLos
  try dsimp only
  repeat' first
    | with_reducible assumption
    | with_reducible refine outGood_next ?_
    | with_reducible refine outGood_ite ?_ ?_
    | with_reducible refine State.linkLose_good ?_
    | with_reducible refine good_ite ?_ ?_
    | simp only [good_mk_eq, List.length_map, List.length_set]
    | split

theorem execClockUnlock_good {p : Port} (hgood : Good O Q s) : OutGood O Q (execClockUnlock p s) := by
  unfold execClockUnlock
  try dsimp only
  repeat' first
    | with_reducible assumption
    | with_reducible refine outGood_next ?_
    | with_reducible refine outGood_ite ?_ ?_
    | with_reducible refine State.linkLose_good ?_
    | with_reducible refine good_ite ?_ ?_
    | simp only [good_mk_eq, List.length_map, List.length_set]
    | split

theorem execBlockUnlock_good {w : HeaderWindow} (hgood : Good O Q s) : OutGood O Q (execBlockUnlock w s) := by
  unfold execBlockUnlock
  try dsimp only
  repeat' first
    | with_reducible assumption
    | with_reducible refine outGood_next ?_
    | with_reducible refine outGood_ite ?_ ?_
    | with_reducible refine State.bumpBy_good ?_
    | with_reducible refine State.linkLose_good ?_
    | with_reducible refine good_ite ?_ ?_
    | simp only [good_mk_eq, List.length_map, List.length_set]
    | split

theorem execDeskewLost_good {p : Port} (hgood : Good O Q s) : OutGood O Q (execDeskewLost p s) := by
  unfold execDeskewLost
  try dsimp only
  repeat' first
    | with_reducible assumption
    | with_reducible refine outGood_next ?_
    | with_reducible refine outGood_ite ?_ ?_
    | with_reducible refine State.linkLose_good ?_
    | with_reducible refine good_ite ?_ ?_
    | simp only [good_mk_eq, List.length_map, List.length_set]
    | split

theorem execHiBer_good {p : Port} {invalidHeaders : Nat} (hgood : Good O Q s) : OutGood O Q (execHiBer p invalidHeaders s) := by
  unfold execHiBer
  try dsimp only
  repeat' first
    | with_reducible assumption
    | with_reducible refine outGood_next ?_
    | with_reducible refine outGood_ite ?_ ?_
    | with_reducible refine State.bumpBy_good ?_
    | with_reducible refine State.linkLose_good ?_
    | with_reducible refine State.raise_good ?_
    | with_reducible refine State.setBit_good ?_
    | with_reducible refine State.setLink_good ?_
    | with_reducible refine good_ite ?_ ?_
    | simp only [good_mk_eq, List.length_map, List.length_set]
    | split

theorem execLoadRetrain_good {p : Port} (hgood : Good O Q s) : OutGood O Q (execLoadRetrain p s) := by
  unfold execLoadRetrain
  try dsimp only
  repeat' first
    | with_reducible assumption
    | with_reducible refine outGood_next ?_
    | with_reducible refine outGood_ite ?_ ?_
    | with_reducible refine State.linkExit_good ?_
    | with_reducible refine State.linkMode_good ?_
    | with_reducible refine State.nextTrial_good ?_
    | with_reducible refine State.updLink_good ?_
    | with_reducible refine good_ite ?_ ?_
    | simp only [good_mk_eq, List.length_map, List.length_set]
    | split

theorem execChirpSend_good {p : Port} (hgood : Good O Q s) : OutGood O Q (execChirpSend p s) := by
  unfold execChirpSend
  try dsimp only
  repeat' first
    | with_reducible assumption
    | with_reducible refine outGood_next ?_
    | with_reducible refine outGood_ite ?_ ?_
    | with_reducible refine State.linkDetect_good ?_
    | with_reducible refine State.setLink_good ?_
    | with_reducible refine good_ite ?_ ?_
    | simp only [good_mk_eq, List.length_map, List.length_set]
    | split

theorem State.sendBlocks_good {p : Nat} {f : TxFrame} (hgood : Good O Q s) : Good O Q (State.sendBlocks s p f) := by
  unfold State.sendBlocks
  try dsimp only
  repeat' first
    | with_reducible assumption
    | with_reducible refine State.bump_good ?_
    | with_reducible refine State.emit_good ?_
    | with_reducible refine State.updLink_good ?_
    | with_reducible refine State.doIf_good ?_ ?_
    | with_reducible refine good_ite ?_ ?_
    | simp only [good_mk_eq, List.length_map, List.length_set]
    | split

theorem State.stampSent_good {p : Nat} {f : TxFrame} (hgood : Good O Q s) : Good O Q (State.stampSent s p f) := by
  unfold State.stampSent
  try dsimp only
  repeat' first
    | with_reducible assumption
    | with_reducible refine State.txtsPush_good ?_
    | with_reducible refine good_ite ?_ ?_
    | simp only [good_mk_eq, List.length_map, List.length_set]
    | split

theorem execFrameTxEnd_good {p : Port} (hgood : Good O Q s) : OutGood O Q (execFrameTxEnd p s) := by
  unfold execFrameTxEnd
  try dsimp only
  repeat' first
    | with_reducible assumption
    | with_reducible refine outGood_next ?_
    | with_reducible refine outGood_ite ?_ ?_
    | with_reducible refine State.emit_good ?_
    | with_reducible refine State.feedData_good ?_
    | with_reducible refine State.linkActive_good ?_
    | with_reducible refine State.sendBlocks_good ?_
    | with_reducible refine State.sendOn_good ?_
    | with_reducible refine State.setLink_good ?_
    | with_reducible refine State.stampSent_good ?_
    | with_reducible refine State.startNext_good ?_
    | with_reducible refine State.trialResult_good ?_
    | with_reducible refine good_ite ?_ ?_
    | simp only [good_mk_eq, List.length_map, List.length_set]
    | split

theorem State.rxReject_good {p : Nat} {cause : Nat} (hgood : Good O Q s) : Good O Q (State.rxReject s p cause) := by
  unfold State.rxReject
  try dsimp only
  repeat' first
    | with_reducible assumption
    | with_reducible refine State.sendCtl_good ?_
    | with_reducible refine State.setLink_good ?_
    | with_reducible refine good_ite ?_ ?_
    | simp only [good_mk_eq, List.length_map, List.length_set]
    | split

theorem execFrameRejected_good {p : Port} {f : RxFrame} (hgood : Good O Q s) : OutGood O Q (execFrameRejected p f s) := by
  unfold execFrameRejected
  try dsimp only
  repeat' first
    | with_reducible assumption
    | with_reducible refine outGood_next ?_
    | with_reducible refine outGood_ite ?_ ?_
    | with_reducible refine State.bump_good ?_
    | with_reducible refine State.linkLose_good ?_
    | with_reducible refine State.rxReject_good ?_
    | with_reducible refine State.sendCtl_good ?_
    | with_reducible refine State.updLink_good ?_
    | with_reducible refine State.doIf_good ?_ ?_
    | with_reducible refine good_ite ?_ ?_
    | simp only [good_mk_eq, List.length_map, List.length_set]
    | split

theorem State.ackSync_good {freed : List TxFrame} (hgood : Good O Q s) : Good O Q (State.ackSync s freed) := by
  unfold State.ackSync
  try dsimp only
  repeat' first
    | with_reducible assumption
    | with_reducible refine State.postAll_good ?_
    | with_reducible refine good_ite ?_ ?_
    | simp only [good_mk_eq, List.length_map, List.length_set]
    | split

theorem execAck_good {p : Port} {lseq : BitVec 12} (hgood : Good O Q s) : OutGood O Q (execAck p lseq s) := by
  unfold execAck
  try dsimp only
  repeat' first
    | with_reducible assumption
    | with_reducible refine outGood_next ?_
    | with_reducible refine outGood_ite ?_ ?_
    | with_reducible refine State.ackSync_good ?_
    | with_reducible refine State.keysTurn_good ?_
    | with_reducible refine State.setLink_good ?_
    | with_reducible refine State.startNext_good ?_
    | with_reducible refine good_ite ?_ ?_
    | simp only [good_mk_eq, List.length_map, List.length_set]
    | split

theorem State.replayFrom_good {p : Nat} {from_ : BitVec 12} (hgood : Good O Q s) : Good O Q (State.replayFrom s p from_) := by
  unfold State.replayFrom
  try dsimp only
  repeat' first
    | with_reducible assumption
    | with_reducible refine State.linkLose_good ?_
    | with_reducible refine State.setLink_good ?_
    | with_reducible refine State.startNext_good ?_
    | with_reducible refine State.underInj_good ?_ (fun _ _ => ?_)
    | with_reducible refine good_ite ?_ ?_
    | simp only [good_mk_eq, List.length_map, List.length_set]
    | split

theorem execNak_good {p : Port} {lseq : BitVec 12} (hgood : Good O Q s) : OutGood O Q (execNak p lseq s) := by
  unfold execNak
  try dsimp only
  repeat' first
    | with_reducible assumption
    | with_reducible refine outGood_next ?_
    | with_reducible refine outGood_ite ?_ ?_
    | with_reducible refine State.replayFrom_good ?_
    | with_reducible refine good_ite ?_ ?_
    | simp only [good_mk_eq, List.length_map, List.length_set]
    | split

theorem execReplayTimeout_good {p : Port} (hgood : Good O Q s) : OutGood O Q (execReplayTimeout p s) := by
  unfold execReplayTimeout
  try dsimp only
  repeat' first
    | with_reducible assumption
    | with_reducible refine outGood_next ?_
    | with_reducible refine outGood_ite ?_ ?_
    | with_reducible refine State.reachUp_good ?_
    | with_reducible refine State.replayFrom_good ?_
    | with_reducible refine good_ite ?_ ?_
    | simp only [good_mk_eq, List.length_map, List.length_set]
    | split

theorem State.engineSend_good (hgood : Good O Q s) : Good O Q (State.engineSend s) := by
  unfold State.engineSend
  try dsimp only
  repeat' first
    | with_reducible assumption
    | with_reducible refine State.queueFrame_good ?_
    | with_reducible refine good_ite ?_ ?_
    | simp only [good_mk_eq, List.length_map, List.length_set]
    | split

theorem execMgmt_good {p : Port} (hgood : Good O Q s) : OutGood O Q (execMgmt p s) := by
  unfold execMgmt
  try dsimp only
  repeat' first
    | with_reducible assumption
    | with_reducible refine outGood_next ?_
    | with_reducible refine outGood_ite ?_ ?_
    | with_reducible refine State.engineSend_good ?_
    | with_reducible refine State.rxAccept_good ?_
    | with_reducible refine State.traceEngine_good ?_
    | with_reducible refine State.doIf_good ?_ ?_
    | with_reducible refine good_ite ?_ ?_
    | simp only [good_mk_eq, List.length_map, List.length_set]
    | split

theorem execReservedTypeFrame_good {p : Port} (hgood : Good O Q s) : OutGood O Q (execReservedTypeFrame p s) := by
  unfold execReservedTypeFrame
  try dsimp only
  repeat' first
    | with_reducible assumption
    | with_reducible refine outGood_next ?_
    | with_reducible refine outGood_ite ?_ ?_
    | with_reducible refine State.bump_good ?_
    | with_reducible refine State.rxAccept_good ?_
    | with_reducible refine good_ite ?_ ?_
    | simp only [good_mk_eq, List.length_map, List.length_set]
    | split

theorem execKeyInit_good {p : Port} {payload : List Byte} (hgood : Good O Q s) : OutGood O Q (execKeyInit p payload s) := by
  unfold execKeyInit
  try dsimp only
  repeat' first
    | with_reducible assumption
    | with_reducible refine outGood_next ?_
    | with_reducible refine outGood_ite ?_ ?_
    | with_reducible refine State.bump_good ?_
    | with_reducible refine State.drawn_good ?_
    | with_reducible refine State.keyRx_good ?_
    | with_reducible refine State.keySend_good ?_
    | with_reducible refine State.linkMode_good ?_
    | with_reducible refine State.updLink_good ?_
    | with_reducible refine good_ite ?_ ?_
    | simp only [good_mk_eq, List.length_map, List.length_set]
    | split

theorem State.peerRejected_good {p : Nat} (hgood : Good O Q s) : Good O Q (State.peerRejected s p) := by
  unfold State.peerRejected
  try dsimp only
  repeat' first
    | with_reducible assumption
    | with_reducible refine State.linkFault_good ?_
    | with_reducible refine State.updLink_good ?_
    | with_reducible refine good_ite ?_ ?_
    | simp only [good_mk_eq, List.length_map, List.length_set]
    | split

theorem execKeyResp_good {p : Port} {payload : List Byte} (hgood : Good O Q s) : OutGood O Q (execKeyResp p payload s) := by
  unfold execKeyResp
  try dsimp only
  repeat' first
    | with_reducible assumption
    | with_reducible refine outGood_next ?_
    | with_reducible refine outGood_ite ?_ ?_
    | with_reducible refine State.bump_good ?_
    | with_reducible refine State.keyRx_good ?_
    | with_reducible refine State.keySend_good ?_
    | with_reducible refine State.keysDone_good ?_
    | with_reducible refine State.peerRejected_good ?_
    | with_reducible refine good_ite ?_ ?_
    | simp only [good_mk_eq, List.length_map, List.length_set]
    | split

theorem execKeyConfirm_good {p : Port} {payload : List Byte} (hgood : Good O Q s) : OutGood O Q (execKeyConfirm p payload s) := by
  unfold execKeyConfirm
  try dsimp only
  repeat' first
    | with_reducible assumption
    | with_reducible refine outGood_next ?_
    | with_reducible refine outGood_ite ?_ ?_
    | with_reducible refine State.keyRx_good ?_
    | with_reducible refine State.keysDone_good ?_
    | with_reducible refine State.peerRejected_good ?_
    | with_reducible refine State.take_good ?_
    | with_reducible refine good_ite ?_ ?_
    | simp only [good_mk_eq, List.length_map, List.length_set]
    | split

theorem execKeyRenewal_good {p : Port} (hgood : Good O Q s) : OutGood O Q (execKeyRenewal p s) := by
  unfold execKeyRenewal
  try dsimp only
  repeat' first
    | with_reducible assumption
    | with_reducible refine outGood_next ?_
    | with_reducible refine outGood_ite ?_ ?_
    | with_reducible refine State.keyStart_good ?_
    | with_reducible refine State.reachUp_good ?_
    | with_reducible refine good_ite ?_ ?_
    | simp only [good_mk_eq, List.length_map, List.length_set]
    | split

theorem State.linkDisable_good {p : Nat} (hgood : Good O Q s) : Good O Q (State.linkDisable s p) := by
  unfold State.linkDisable
  try dsimp only
  repeat' first
    | with_reducible assumption
    | with_reducible refine State.bumpBy_good ?_
    | with_reducible refine State.linkExit_good ?_
    | with_reducible refine State.linkMode_good ?_
    | with_reducible refine State.setLink_good ?_
    | with_reducible refine good_ite ?_ ?_
    | simp only [good_mk_eq, List.length_map, List.length_set]
    | split

theorem State.linkStart_good {p : Nat} (hgood : Good O Q s) : Good O Q (State.linkStart s p) := by
  unfold State.linkStart
  try dsimp only
  repeat' first
    | with_reducible assumption
    | with_reducible refine State.freeNext_good ?_
    | with_reducible refine State.linkDetect_good ?_
    | with_reducible refine State.linkDisable_good ?_
    | with_reducible refine State.linkExit_good ?_
    | with_reducible refine State.linkMode_good ?_
    | with_reducible refine State.testKeep_good ?_
    | with_reducible refine State.updLink_good ?_
    | with_reducible refine good_ite ?_ ?_
    | simp only [good_mk_eq, List.length_map, List.length_set]
    | split

theorem State.linkCommit_good {old : Look} {p : Nat} (hgood : Good O Q s) : Good O Q (State.linkCommit s old p) := by
  unfold State.linkCommit
  try dsimp only
  repeat' first
    | with_reducible assumption
    | with_reducible refine State.linkStart_good ?_
    | with_reducible refine good_ite ?_ ?_
    | simp only [good_mk_eq, List.length_map, List.length_set]
    | split

theorem State.seizeHigh_good {k : Nat} (hgood : Good O Q s) : Good O Q (State.seizeHigh s k) := by
  unfold State.seizeHigh
  try dsimp only
  repeat' first
    | with_reducible assumption
    | with_reducible refine State.excSeize_good ?_
    | with_reducible refine State.seizeTaken_good ?_
    | with_reducible refine State.setLevel_good ?_
    | with_reducible refine State.vaultTaint_good ?_
    | with_reducible refine good_ite ?_ ?_
    | simp only [good_mk_eq, List.length_map, List.length_set]
    | split

theorem State.seizeLow_good {k : Nat} (hgood : Good O Q s) : Good O Q (State.seizeLow s k) := by
  unfold State.seizeLow
  try dsimp only
  repeat' first
    | with_reducible assumption
    | with_reducible refine State.enterUnfit_good ?_
    | with_reducible refine State.excUnseize_good ?_
    | with_reducible refine State.setLevel_good ?_
    | with_reducible refine good_ite ?_ ?_
    | simp only [good_mk_eq, List.length_map, List.length_set]
    | split

theorem execSeizeAssert_good (hgood : Good O Q s) : OutGood O Q (execSeizeAssert s) := by
  unfold execSeizeAssert
  try dsimp only
  repeat' first
    | with_reducible assumption
    | with_reducible refine outGood_next ?_
    | with_reducible refine outGood_ite ?_ ?_
    | with_reducible refine State.seizeHigh_good ?_
    | with_reducible refine good_ite ?_ ?_
    | simp only [good_mk_eq, List.length_map, List.length_set]
    | split

theorem execSeizeRelease_good (hgood : Good O Q s) : OutGood O Q (execSeizeRelease s) := by
  unfold execSeizeRelease
  try dsimp only
  repeat' first
    | with_reducible assumption
    | with_reducible refine outGood_next ?_
    | with_reducible refine outGood_ite ?_ ?_
    | with_reducible refine State.seizeLow_good ?_
    | with_reducible refine good_ite ?_ ?_
    | simp only [good_mk_eq, List.length_map, List.length_set]
    | split

theorem State.stuckWatch_good {m : Nat} {midUv : Int} (hgood : Good O Q s) : Good O Q (State.stuckWatch s m midUv) := by
  unfold State.stuckWatch
  try dsimp only
  repeat' first
    | with_reducible assumption
    | with_reducible refine State.activeLost_good ?_
    | with_reducible refine State.updExc_good ?_
    | with_reducible refine good_ite ?_ ?_
    | simp only [good_mk_eq, List.length_map, List.length_set]
    | split

theorem execPulseStart_good {m : Fin 32} {midUv : Int} (hgood : Good O Q s) : OutGood O Q (execPulseStart m midUv s) := by
  unfold execPulseStart
  try dsimp only
  repeat' first
    | with_reducible assumption
    | with_reducible refine outGood_next ?_
    | with_reducible refine outGood_ite ?_ ?_
    | with_reducible refine State.pllRunAgo_good ?_
    | with_reducible refine State.reach_good ?_
    | with_reducible refine State.startPulse_good ?_
    | with_reducible refine State.stuckWatch_good ?_
    | with_reducible refine good_ite ?_ ?_
    | simp only [good_mk_eq, List.length_map, List.length_set]
    | split

theorem State.resolveActive_good (hgood : Good O Q s) : Good O Q (State.resolveActive s) := by
  unfold State.resolveActive
  try dsimp only
  repeat' first
    | with_reducible assumption
    | with_reducible refine State.capArmAll_good ?_
    | with_reducible refine State.sendHealth_good ?_
    | with_reducible refine State.setRole_good ?_
    | with_reducible refine good_ite ?_ ?_
    | simp only [good_mk_eq, List.length_map, List.length_set]
    | split

theorem execRoleResolution_good {edgeSeen : Bool} (hgood : Good O Q s) : OutGood O Q (execRoleResolution edgeSeen s) := by
  unfold execRoleResolution
  try dsimp only
  repeat' first
    | with_reducible assumption
    | with_reducible refine outGood_next ?_
    | with_reducible refine outGood_ite ?_ ?_
    | with_reducible refine State.enterUnfit_good ?_
    | with_reducible refine State.reachUp_good ?_
    | with_reducible refine State.resolveActive_good ?_
    | with_reducible refine good_ite ?_ ?_
    | simp only [good_mk_eq, List.length_map, List.length_set]
    | split

theorem execTwinAliveToggle_good (hgood : Good O Q s) : OutGood O Q (execTwinAliveToggle s) := by
  unfold execTwinAliveToggle
  try dsimp only
  repeat' first
    | with_reducible assumption
    | with_reducible refine outGood_next ?_
    | with_reducible refine outGood_ite ?_ ?_
    | with_reducible refine State.reach_good ?_
    | with_reducible refine good_ite ?_ ?_
    | simp only [good_mk_eq, List.length_map, List.length_set]
    | split

theorem execTwinAliveEdge_good (hgood : Good O Q s) : OutGood O Q (execTwinAliveEdge s) := by
  unfold execTwinAliveEdge
  try dsimp only
  repeat' first
    | with_reducible assumption
    | with_reducible refine outGood_next ?_
    | with_reducible refine outGood_ite ?_ ?_
    | with_reducible refine State.enterUnfit_good ?_
    | with_reducible refine good_ite ?_ ?_
    | simp only [good_mk_eq, List.length_map, List.length_set]
    | split

theorem execActiveLost_good (hgood : Good O Q s) : OutGood O Q (execActiveLost s) := by
  unfold execActiveLost
  try dsimp only
  repeat' first
    | with_reducible assumption
    | with_reducible refine outGood_next ?_
    | with_reducible refine outGood_ite ?_ ?_
    | with_reducible refine State.activeLost_good ?_
    | with_reducible refine State.reachUp_good ?_
    | with_reducible refine good_ite ?_ ?_
    | simp only [good_mk_eq, List.length_map, List.length_set]
    | split

theorem State.digestRun_good {n : Nat} {bad : Bool} (hgood : Good O Q s) : Good O Q (State.digestRun s n bad) := by
  unfold State.digestRun
  try dsimp only
  repeat' first
    | with_reducible assumption
    | with_reducible refine State.bump_good ?_
    | with_reducible refine State.doIf_good ?_ ?_
    | with_reducible refine good_ite ?_ ?_
    | simp only [good_mk_eq, List.length_map, List.length_set]
    | split

theorem State.digestPair_good {a : DigestFrame} {b : DigestFrame} (hgood : Good O Q s) : Good O Q (State.digestPair s a b) := by
  unfold State.digestPair
  try dsimp only
  repeat' first
    | with_reducible assumption
    | with_reducible refine State.digestRun_good ?_
    | with_reducible refine State.setReasons_good ?_
    | with_reducible refine State.each_good ?_ (fun _ _ _ => ?_)
    | with_reducible refine State.underInj_good ?_ (fun _ _ => ?_)
    | with_reducible refine good_ite ?_ ?_
    | simp only [good_mk_eq, List.length_map, List.length_set]
    | split

theorem State.digestAlone_good (hgood : Good O Q s) : Good O Q (State.digestAlone s) := by
  unfold State.digestAlone
  try dsimp only
  repeat' first
    | with_reducible assumption
    | with_reducible refine State.addReason_good ?_
    | with_reducible refine good_ite ?_ ?_
    | simp only [good_mk_eq, List.length_map, List.length_set]
    | split

theorem State.digestSweep_good (hgood : Good O Q s) : Good O Q (State.digestSweep s) := by
  unfold State.digestSweep
  try dsimp only
  repeat' first
    | with_reducible assumption
    | with_reducible refine State.digestAlone_good ?_
    | with_reducible refine State.doIf_good ?_ ?_
    | with_reducible refine good_ite ?_ ?_
    | simp only [good_mk_eq, List.length_map, List.length_set]
    | split

theorem State.digestOwn_good {f : DigestFrame} (hgood : Good O Q s) : Good O Q (State.digestOwn s f) := by
  unfold State.digestOwn
  try dsimp only
  repeat' first
    | with_reducible assumption
    | with_reducible refine State.digestPair_good ?_
    | with_reducible refine State.digestSweep_good ?_
    | with_reducible refine good_ite ?_ ?_
    | simp only [good_mk_eq, List.length_map, List.length_set]
    | split

theorem execDigest_good {f : DigestFrame} (hgood : Good O Q s) : OutGood O Q (execDigest f s) := by
  unfold execDigest
  try dsimp only
  repeat' first
    | with_reducible assumption
    | with_reducible refine outGood_next ?_
    | with_reducible refine outGood_ite ?_ ?_
    | with_reducible refine State.digestPair_good ?_
    | with_reducible refine State.digestSweep_good ?_
    | with_reducible refine State.rxAccept_good ?_
    | with_reducible refine good_ite ?_ ?_
    | simp only [good_mk_eq, List.length_map, List.length_set]
    | split

theorem State.digestMissed_good {g : Group} {n : Nat} (hgood : Good O Q s) : Good O Q (State.digestMissed s g n) := by
  unfold State.digestMissed
  try dsimp only
  repeat' first
    | with_reducible assumption
    | with_reducible refine State.addReason_good ?_
    | with_reducible refine State.digestAlone_good ?_
    | with_reducible refine good_ite ?_ ?_
    | simp only [good_mk_eq, List.length_map, List.length_set]
    | split

theorem execDigestMissing_good {g : Group} {frame : Nat} (hgood : Good O Q s) : OutGood O Q (execDigestMissing g frame s) := by
  unfold execDigestMissing
  try dsimp only
  repeat' first
    | with_reducible assumption
    | with_reducible refine outGood_next ?_
    | with_reducible refine outGood_ite ?_ ?_
    | with_reducible refine State.bump_good ?_
    | with_reducible refine State.digestMissed_good ?_
    | with_reducible refine State.reachUp_good ?_
    | with_reducible refine good_ite ?_ ?_
    | simp only [good_mk_eq, List.length_map, List.length_set]
    | split

theorem State.nameSwap_good (hgood : Good O Q s) : Good O Q (State.nameSwap s) := by
  unfold State.nameSwap
  try dsimp only
  repeat' first
    | with_reducible assumption
    | with_reducible refine State.freeNext_good ?_
    | with_reducible refine good_ite ?_ ?_
    | simp only [good_mk_eq, List.length_map, List.length_set]
    | split

theorem State.partnerAsks_good (hgood : Good O Q s) : Good O Q (State.partnerAsks s) := by
  unfold State.partnerAsks
  try dsimp only
  repeat' first
    | with_reducible assumption
    | with_reducible refine State.bump_good ?_
    | with_reducible refine State.nameSwap_good ?_
    | with_reducible refine State.raise_good ?_
    | with_reducible refine State.retireBad_good ?_
    | with_reducible refine State.sendHealth_good ?_
    | with_reducible refine State.setBit_good ?_
    | with_reducible refine good_ite ?_ ?_
    | simp only [good_mk_eq, List.length_map, List.length_set]
    | split

theorem State.handOver_good (hgood : Good O Q s) : Good O Q (State.handOver s) := by
  unfold State.handOver
  try dsimp only
  repeat' first
    | with_reducible assumption
    | with_reducible refine State.closeStreams_good ?_
    | with_reducible refine State.postAll_good ?_
    | with_reducible refine State.setExc_good ?_
    | with_reducible refine State.setRole_good ?_
    | with_reducible refine State.updStrm_good ?_
    | with_reducible refine State.each_good ?_ (fun _ _ _ => ?_)
    | with_reducible refine good_ite ?_ ?_
    | simp only [good_mk_eq, List.length_map, List.length_set]
    | split

theorem State.takeOverBySwap_good (hgood : Good O Q s) : Good O Q (State.takeOverBySwap s) := by
  unfold State.takeOverBySwap
  try dsimp only
  repeat' first
    | with_reducible assumption
    | with_reducible refine State.adoptData_good ?_
    | with_reducible refine State.adoptTrigSeq_good ?_
    | with_reducible refine State.capArmAll_good ?_
    | with_reducible refine State.followCuts_good ?_
    | with_reducible refine State.setRole_good ?_
    | with_reducible refine State.updStrm_good ?_
    | with_reducible refine State.vaultTake_good ?_
    | with_reducible refine State.each_good ?_ (fun _ _ _ => ?_)
    | with_reducible refine good_ite ?_ ?_
    | simp only [good_mk_eq, List.length_map, List.length_set]
    | split

theorem execSwapExecute_good (hgood : Good O Q s) : OutGood O Q (execSwapExecute s) := by
  unfold execSwapExecute
  try dsimp only
  repeat' first
    | with_reducible assumption
    | with_reducible refine outGood_next ?_
    | with_reducible refine outGood_ite ?_ ?_
    | with_reducible refine State.bump_good ?_
    | with_reducible refine State.handOver_good ?_
    | with_reducible refine State.retireOk_good ?_
    | with_reducible refine State.sendHealth_good ?_
    | with_reducible refine State.takeOverBySwap_good ?_
    | with_reducible refine good_ite ?_ ?_
    | simp only [good_mk_eq, List.length_map, List.length_set]
    | split

theorem execHealthSend_good (hgood : Good O Q s) : OutGood O Q (execHealthSend s) := by
  unfold execHealthSend
  try dsimp only
  repeat' first
    | with_reducible assumption
    | with_reducible refine outGood_next ?_
    | with_reducible refine outGood_ite ?_ ?_
    | with_reducible refine State.reachUp_good ?_
    | with_reducible refine State.sendHealth_good ?_
    | with_reducible refine good_ite ?_ ?_
    | simp only [good_mk_eq, List.length_map, List.length_set]
    | split

theorem State.healthReasons_good {f : HealthFrame} {before : Option HealthFrame} (hgood : Good O Q s) : Good O Q (State.healthReasons s f before) := by
  unfold State.healthReasons
  try dsimp only
  repeat' first
    | with_reducible assumption
    | with_reducible refine State.setReasons_good ?_
    | with_reducible refine good_ite ?_ ?_
    | simp only [good_mk_eq, List.length_map, List.length_set]
    | split

theorem State.serveResync_good {f : HealthFrame} (hgood : Good O Q s) : Good O Q (State.serveResync s f) := by
  unfold State.serveResync
  try dsimp only
  repeat' first
    | with_reducible assumption
    | with_reducible refine State.sendData_good ?_
    | with_reducible refine good_ite ?_ ?_
    | simp only [good_mk_eq, List.length_map, List.length_set]
    | split

theorem State.resolveBy_good {f : HealthFrame} (hgood : Good O Q s) : Good O Q (State.resolveBy s f) := by
  unfold State.resolveBy
  try dsimp only
  repeat' first
    | with_reducible assumption
    | with_reducible refine State.enterUnfit_good ?_
    | with_reducible refine good_ite ?_ ?_
    | simp only [good_mk_eq, List.length_map, List.length_set]
    | split

theorem execHealth_good {f : HealthFrame} (hgood : Good O Q s) : OutGood O Q (execHealth f s) := by
  unfold execHealth
  try dsimp only
  repeat' first
    | with_reducible assumption
    | with_reducible refine outGood_next ?_
    | with_reducible refine outGood_ite ?_ ?_
    | with_reducible refine State.activeLost_good ?_
    | with_reducible refine State.digestSweep_good ?_
    | with_reducible refine State.healthReasons_good ?_
    | with_reducible refine State.partnerAsks_good ?_
    | with_reducible refine State.resolveBy_good ?_
    | with_reducible refine State.rxAccept_good ?_
    | with_reducible refine State.serveResync_good ?_
    | with_reducible refine State.setReg_good ?_
    | with_reducible refine State.setRegs_good ?_
    | with_reducible refine State.underInj_good ?_ (fun _ _ => ?_)
    | with_reducible refine good_ite ?_ ?_
    | simp only [good_mk_eq, List.length_map, List.length_set]
    | split

theorem execDualActive_good (hgood : Good O Q s) : OutGood O Q (execDualActive s) := by
  unfold execDualActive
  try dsimp only
  repeat' first
    | with_reducible assumption
    | with_reducible refine outGood_next ?_
    | with_reducible refine outGood_ite ?_ ?_
    | with_reducible refine State.enterUnfit_good ?_
    | with_reducible refine State.raise_good ?_
    | with_reducible refine State.reachUp_good ?_
    | with_reducible refine State.setBit_good ?_
    | with_reducible refine good_ite ?_ ?_
    | simp only [good_mk_eq, List.length_map, List.length_set]
    | split

theorem State.followAnew_good (hgood : Good O Q s) : Good O Q (State.followAnew s) := by
  unfold State.followAnew
  try dsimp only
  repeat' first
    | with_reducible assumption
    | with_reducible refine State.resyncEnd_good ?_
    | with_reducible refine State.updStrm_good ?_
    | with_reducible refine State.each_good ?_ (fun _ _ _ => ?_)
    | with_reducible refine good_ite ?_ ?_
    | simp only [good_mk_eq, List.length_map, List.length_set]
    | split

theorem execStreamSync_good {entries : List SyncEntry} (hgood : Good O Q s) : OutGood O Q (execStreamSync entries s) := by
  unfold execStreamSync
  try dsimp only
  repeat' first
    | with_reducible assumption
    | with_reducible refine outGood_next ?_
    | with_reducible refine outGood_ite ?_ ?_
    | with_reducible refine State.followCuts_good ?_
    | with_reducible refine State.rxAccept_good ?_
    | with_reducible refine good_ite ?_ ?_
    | simp only [good_mk_eq, List.length_map, List.length_set]
    | split

theorem execAckWaitTimeout_good (hgood : Good O Q s) : OutGood O Q (execAckWaitTimeout s) := by
  unfold execAckWaitTimeout
  try dsimp only
  repeat' first
    | with_reducible assumption
    | with_reducible refine outGood_next ?_
    | with_reducible refine outGood_ite ?_ ?_
    | with_reducible refine State.postAll_good ?_
    | with_reducible refine State.reachUp_good ?_
    | with_reducible refine good_ite ?_ ?_
    | simp only [good_mk_eq, List.length_map, List.length_set]
    | split

theorem execMainsFrame_good {f : MainsFrame} (hgood : Good O Q s) : OutGood O Q (execMainsFrame f s) := by
  unfold execMainsFrame
  try dsimp only
  repeat' first
    | with_reducible assumption
    | with_reducible refine outGood_next ?_
    | with_reducible refine outGood_ite ?_ ?_
    | with_reducible refine State.newTa_good ?_
    | with_reducible refine State.putReason_good ?_
    | with_reducible refine State.rxAccept_good ?_
    | with_reducible refine good_ite ?_ ?_
    | simp only [good_mk_eq, List.length_map, List.length_set]
    | split

theorem State.serveTwin_good {id code : Nat} {f : Desc → State → State} (hgood : Good O Q s) (hf : ∀ d t, Good O Q t → Good O Q (f d t)) : OutGood O Q (s.serveTwin id code f) := by
  unfold State.serveTwin
  refine State.serve_good hgood (fun d t ht => ?_)
  try dsimp only
  repeat' first
    | with_reducible exact hf _ _ ht
    | with_reducible exact State.retireBad_good ht
    | with_reducible exact ht
    | split

theorem execTwinCmdStatus_good {id : Nat} (hgood : Good O Q s) : OutGood O Q (execTwinCmdStatus id s) := by
  unfold execTwinCmdStatus
  try dsimp only
  repeat' first
    | with_reducible assumption
    | with_reducible refine outGood_next ?_
    | with_reducible refine outGood_ite ?_ ?_
    | with_reducible refine State.descWrite_good ?_
    | with_reducible refine State.retireOk_good ?_
    | with_reducible refine State.take_good ?_
    | with_reducible refine State.serveTwin_good ?_ (fun _ _ _ => ?_)
    | with_reducible refine good_ite ?_ ?_
    | simp only [good_mk_eq, List.length_map, List.length_set]
    | split

theorem execTwinCmdSwap_good {id : Nat} (hgood : Good O Q s) : OutGood O Q (execTwinCmdSwap id s) := by
  unfold execTwinCmdSwap
  try dsimp only
  repeat' first
    | with_reducible assumption
    | with_reducible refine outGood_next ?_
    | with_reducible refine outGood_ite ?_ ?_
    | with_reducible refine State.nameSwap_good ?_
    | with_reducible refine State.retireBad_good ?_
    | with_reducible refine State.sendHealth_good ?_
    | with_reducible refine State.take_good ?_
    | with_reducible refine State.serveTwin_good ?_ (fun _ _ _ => ?_)
    | with_reducible refine good_ite ?_ ?_
    | simp only [good_mk_eq, List.length_map, List.length_set]
    | split

theorem execTwinCmdTakeover_good {id : Nat} (hgood : Good O Q s) : OutGood O Q (execTwinCmdTakeover id s) := by
  unfold execTwinCmdTakeover
  try dsimp only
  repeat' first
    | with_reducible assumption
    | with_reducible refine outGood_next ?_
    | with_reducible refine outGood_ite ?_ ?_
    | with_reducible refine State.retireBad_good ?_
    | with_reducible refine State.retireOk_good ?_
    | with_reducible refine State.takeover_good ?_
    | with_reducible refine State.serveTwin_good ?_ (fun _ _ _ => ?_)
    | with_reducible refine good_ite ?_ ?_
    | simp only [good_mk_eq, List.length_map, List.length_set]
    | split

theorem execTwinCmdReleaseSeize_good {id : Nat} (hgood : Good O Q s) : OutGood O Q (execTwinCmdReleaseSeize id s) := by
  unfold execTwinCmdReleaseSeize
  try dsimp only
  repeat' first
    | with_reducible assumption
    | with_reducible refine outGood_next ?_
    | with_reducible refine outGood_ite ?_ ?_
    | with_reducible refine State.retireBad_good ?_
    | with_reducible refine State.retireOk_good ?_
    | with_reducible refine State.serveTwin_good ?_ (fun _ _ _ => ?_)
    | with_reducible refine good_ite ?_ ?_
    | simp only [good_mk_eq, List.length_map, List.length_set]
    | split

theorem State.resumeStream_good {x : Nat} {seq : W32} {t : Nat} (hgood : Good O Q s) : Good O Q (State.resumeStream s x seq t) := by
  unfold State.resumeStream
  try dsimp only
  repeat' first
    | with_reducible assumption
    | with_reducible refine State.countGap_good ?_
    | with_reducible refine State.setStrm_good ?_
    | with_reducible refine good_ite ?_ ?_
    | simp only [good_mk_eq, List.length_map, List.length_set]
    | split

theorem State.resumeAll_good {ws : List W32} (hgood : Good O Q s) : Good O Q (State.resumeAll s ws) := by
  unfold State.resumeAll
  try dsimp only
  repeat' first
    | with_reducible assumption
    | with_reducible refine State.endStreams_good ?_
    | with_reducible refine State.resumeStream_good ?_
    | with_reducible refine State.streamSettle_good ?_
    | with_reducible refine State.each_good ?_ (fun _ _ _ => ?_)
    | with_reducible refine good_ite ?_ ?_
    | simp only [good_mk_eq, List.length_map, List.length_set]
    | split

theorem execTwinCmdResume_good {id : Nat} (hgood : Good O Q s) : OutGood O Q (execTwinCmdResume id s) := by
  unfold execTwinCmdResume
  try dsimp only
  repeat' first
    | with_reducible assumption
    | with_reducible refine outGood_next ?_
    | with_reducible refine outGood_ite ?_ ?_
    | with_reducible refine State.dmaFailed_good ?_
    | with_reducible refine State.resumeAll_good ?_
    | with_reducible refine State.retireBad_good ?_
    | with_reducible refine State.retireOk_good ?_
    | with_reducible refine State.serveTwin_good ?_ (fun _ _ _ => ?_)
    | with_reducible refine good_ite ?_ ?_
    | simp only [good_mk_eq, List.length_map, List.length_set]
    | split

theorem execTwinCmdResync_good {id : Nat} (hgood : Good O Q s) : OutGood O Q (execTwinCmdResync id s) := by
  unfold execTwinCmdResync
  try dsimp only
  repeat' first
    | with_reducible assumption
    | with_reducible refine outGood_next ?_
    | with_reducible refine outGood_ite ?_ ?_
    | with_reducible refine State.addReason_good ?_
    | with_reducible refine State.retireBad_good ?_
    | with_reducible refine State.retireOk_good ?_
    | with_reducible refine State.serveTwin_good ?_ (fun _ _ _ => ?_)
    | with_reducible refine good_ite ?_ ?_
    | simp only [good_mk_eq, List.length_map, List.length_set]
    | split

end Sys2Proof.Machine
end

