-- ==== Sys2Proof/Laws/GoodHost.lean ====
section
/-! SUPPORT. The invariant of Safety.lean, operation by operation (Request, Host, Vault, Svetron, Pins, Validate, CfgApply, ConfigTxn, Frame). -/

namespace Sys2Proof.Machine

open Sys2Proof

set_option linter.unusedSimpArgs false
set_option Elab.async false
set_option linter.unusedVariables false
set_option linter.unusedTactic false
set_option linter.unreachableTactic false

variable {O : OtpSt} {Q : List Instr} {s : State}

theorem State.reqEnd_good {status : Nat} (hgood : Good O Q s) : Good O Q (State.reqEnd s status) := by
  unfold State.reqEnd
  try dsimp only
  repeat' first
    | with_reducible assumption
    | with_reducible refine State.setBit_good ?_
    | with_reducible refine State.setReg_good ?_
    | with_reducible refine State.doIf_good ?_ ?_
    | with_reducible refine good_ite ?_ ?_
    | simp only [good_mk_eq, List.length_map, List.length_set]
    | split

theorem svSweep_good {f : Nat} : ∀ {s : State}, Good O Q s → Good O Q (svSweep f s) := by
  induction f with
  | zero => intro s  h; exact h
  | succ f ih =>
    intro s  h
    unfold svSweep
    try dsimp only
    repeat' first
      | with_reducible assumption
      | with_reducible refine ih ?_
      | with_reducible refine State.reqEnd_good ?_
      | with_reducible refine good_ite ?_ ?_
      | simp only [good_mk_eq, List.length_map, List.length_set]
      | split

theorem State.reqArrive_good {path : Path} {bs : List Byte} (hgood : Good O Q s) : Good O Q (State.reqArrive s path bs) := by
  unfold State.reqArrive
  try dsimp only
  repeat' first
    | with_reducible assumption
    | with_reducible refine svSweep_good ?_
    | with_reducible refine good_ite ?_ ?_
    | simp only [good_mk_eq, List.length_map, List.length_set]
    | split

theorem State.reqPull_good (hgood : Good O Q s) : Good O Q (State.reqPull s) := by
  unfold State.reqPull
  try dsimp only
  repeat' first
    | with_reducible assumption
    | with_reducible refine State.reqEnd_good ?_
    | with_reducible refine svSweep_good ?_
    | with_reducible refine good_ite ?_ ?_
    | simp only [good_mk_eq, List.length_map, List.length_set]
    | split

theorem State.reqGo_good (hgood : Good O Q s) : Good O Q (State.reqGo s) := by
  unfold State.reqGo
  try dsimp only
  repeat' first
    | with_reducible assumption
    | with_reducible refine State.reqPull_good ?_
    | with_reducible refine good_ite ?_ ?_
    | simp only [good_mk_eq, List.length_map, List.length_set]
    | split

theorem State.vaultRegsReset_good (hgood : Good O Q s) : Good O Q (State.vaultRegsReset s) := by
  unfold State.vaultRegsReset
  try dsimp only
  repeat' first
    | with_reducible assumption
    | with_reducible refine State.setReg_good ?_
    | with_reducible refine good_ite ?_ ?_
    | simp only [good_mk_eq, List.length_map, List.length_set]
    | split

theorem State.vaultStop_good (hgood : Good O Q s) : Good O Q (State.vaultStop s) := by
  unfold State.vaultStop
  try dsimp only
  repeat' first
    | with_reducible assumption
    | with_reducible refine good_ite ?_ ?_
    | simp only [good_mk_eq, List.length_map, List.length_set]
    | split

theorem State.vaultDown_good (hgood : Good O Q s) : Good O Q (State.vaultDown s) := by
  unfold State.vaultDown
  try dsimp only
  repeat' first
    | with_reducible assumption
    | with_reducible refine State.vaultRegsReset_good ?_
    | with_reducible refine State.vaultStop_good ?_
    | with_reducible refine good_ite ?_ ?_
    | simp only [good_mk_eq, List.length_map, List.length_set]
    | split

theorem State.ownedReload_good (hgood : Good O Q s) : Good O Q (State.ownedReload s) := by
  unfold State.ownedReload
  try dsimp only
  repeat' first
    | with_reducible assumption
    | with_reducible refine State.chainReset_good ?_
    | with_reducible refine State.excRole_good ?_
    | with_reducible refine State.each_good ?_ (fun _ _ _ => ?_)
    | with_reducible refine good_ite ?_ ?_
    | simp only [good_mk_eq, List.length_map, List.length_set]
    | split

theorem State.vaultStart_good {imageOk : Bool} {kind : Nat} (hgood : Good O Q s) : Good O Q (State.vaultStart s imageOk kind) := by
  unfold State.vaultStart
  try dsimp only
  repeat' first
    | with_reducible assumption
    | with_reducible refine State.audit_good ?_
    | with_reducible refine State.excRole_good ?_
    | with_reducible refine State.ownedReload_good ?_
    | with_reducible refine State.raiseBare_good ?_
    | with_reducible refine State.take_good ?_
    | with_reducible refine good_ite ?_ ?_
    | simp only [good_mk_eq, List.length_map, List.length_set]
    | split

theorem execVaultReset_good {imageOk : Bool} (hgood : Good O Q s) : OutGood O Q (execVaultReset imageOk s) := by
  unfold execVaultReset
  try dsimp only
  repeat' first
    | with_reducible assumption
    | with_reducible refine outGood_next ?_
    | with_reducible refine outGood_ite ?_ ?_
    | with_reducible refine State.vaultStart_good ?_
    | with_reducible refine good_ite ?_ ?_
    | simp only [good_mk_eq, List.length_map, List.length_set]
    | split

theorem State.vaultRollback_good (hgood : Good O Q s) : Good O Q (State.vaultRollback s) := by
  unfold State.vaultRollback
  try dsimp only
  repeat' first
    | with_reducible assumption
    | with_reducible refine good_ite ?_ ?_
    | simp only [good_mk_eq, List.length_map, List.length_set]
    | split

theorem State.vaultRestart_good (hgood : Good O Q s) : Good O Q (State.vaultRestart s) := by
  unfold State.vaultRestart
  try dsimp only
  repeat' first
    | with_reducible assumption
    | with_reducible refine State.vaultDown_good ?_
    | with_reducible refine State.vaultRollback_good ?_
    | with_reducible refine good_ite ?_ ?_
    | simp only [good_mk_eq, List.length_map, List.length_set]
    | split

theorem execVaultWatchdog_good (hgood : Good O Q s) : OutGood O Q (execVaultWatchdog s) := by
  unfold execVaultWatchdog
  try dsimp only
  repeat' first
    | with_reducible assumption
    | with_reducible refine outGood_next ?_
    | with_reducible refine outGood_ite ?_ ?_
    | with_reducible refine State.raise_good ?_
    | with_reducible refine State.vaultRestart_good ?_
    | with_reducible refine good_ite ?_ ?_
    | simp only [good_mk_eq, List.length_map, List.length_set]
    | split

theorem State.settlePin_good {k : Nat} {high : Bool} (hgood : Good O Q s) : Good O Q (State.settlePin s k high) := by
  unfold State.settlePin
  try dsimp only
  repeat' first
    | with_reducible assumption
    | with_reducible refine State.setLevel_good ?_
    | with_reducible refine good_ite ?_ ?_
    | simp only [good_mk_eq, List.length_map, List.length_set]
    | split

theorem execSealSwitchChange_good {high : Bool} (hgood : Good O Q s) : OutGood O Q (execSealSwitchChange high s) := by
  unfold execSealSwitchChange
  try dsimp only
  repeat' first
    | with_reducible assumption
    | with_reducible refine outGood_next ?_
    | with_reducible refine outGood_ite ?_ ?_
    | with_reducible refine State.sealTurn_good ?_
    | with_reducible refine State.settlePin_good ?_
    | with_reducible refine good_ite ?_ ?_
    | simp only [good_mk_eq, List.length_map, List.length_set]
    | split

theorem execWeightRecordIssue_good (hgood : Good O Q s) : OutGood O Q (execWeightRecordIssue s) := by
  unfold execWeightRecordIssue
  try dsimp only
  repeat' first
    | with_reducible assumption
    | with_reducible refine outGood_next ?_
    | with_reducible refine outGood_ite ?_ ?_
    | with_reducible refine State.bump_good ?_
    | with_reducible refine State.sendOn_good ?_
    | with_reducible refine State.vaultTaint_good ?_
    | with_reducible refine good_ite ?_ ?_
    | simp only [good_mk_eq, List.length_map, List.length_set]
    | split

theorem execVaultSync_good {vseq : W32} {tExit : Nat} (hgood : Good O Q s) : OutGood O Q (execVaultSync vseq tExit s) := by
  unfold execVaultSync
  try dsimp only
  repeat' first
    | with_reducible assumption
    | with_reducible refine outGood_next ?_
    | with_reducible refine outGood_ite ?_ ?_
    | with_reducible refine State.rxAccept_good ?_
    | with_reducible refine good_ite ?_ ?_
    | simp only [good_mk_eq, List.length_map, List.length_set]
    | split

theorem State.serveVault_good {id code : Nat} {f : Desc → State → State} (hgood : Good O Q s) (hf : ∀ d t, Good O Q t → Good O Q (f d t)) : OutGood O Q (s.serveVault id code f) := by
  unfold State.serveVault
  refine State.serve_good hgood (fun d t ht => ?_)
  try dsimp only
  repeat' first
    | with_reducible exact hf _ _ ht
    | with_reducible exact State.retireBad_good ht
    | with_reducible exact ht
    | split

theorem State.respond_good {d : Desc} {bs : List Byte} (hgood : Good O Q s) : Good O Q (State.respond s d bs) := by
  unfold State.respond
  try dsimp only
  repeat' first
    | with_reducible assumption
    | with_reducible refine State.descWrite_good ?_
    | with_reducible refine State.retireOk_good ?_
    | with_reducible refine State.take_good ?_
    | with_reducible refine good_ite ?_ ?_
    | simp only [good_mk_eq, List.length_map, List.length_set]
    | split

theorem execVaultCmdStatus_good {id : Nat} (hgood : Good O Q s) : OutGood O Q (execVaultCmdStatus id s) := by
  unfold execVaultCmdStatus
  try dsimp only
  repeat' first
    | with_reducible assumption
    | with_reducible refine outGood_next ?_
    | with_reducible refine outGood_ite ?_ ?_
    | with_reducible refine State.respond_good ?_
    | with_reducible refine State.serveVault_good ?_ (fun _ _ _ => ?_)
    | with_reducible refine good_ite ?_ ?_
    | simp only [good_mk_eq, List.length_map, List.length_set]
    | split

theorem execVaultCmdReadRecords_good {id : Nat} (hgood : Good O Q s) : OutGood O Q (execVaultCmdReadRecords id s) := by
  unfold execVaultCmdReadRecords
  try dsimp only
  repeat' first
    | with_reducible assumption
    | with_reducible refine outGood_next ?_
    | with_reducible refine outGood_ite ?_ ?_
    | with_reducible refine State.respond_good ?_
    | with_reducible refine State.take_good ?_
    | with_reducible refine State.serveVault_good ?_ (fun _ _ _ => ?_)
    | with_reducible refine good_ite ?_ ?_
    | simp only [good_mk_eq, List.length_map, List.length_set]
    | split

theorem execVaultCmdAck_good {id : Nat} (hgood : Good O Q s) : OutGood O Q (execVaultCmdAck id s) := by
  unfold execVaultCmdAck
  try dsimp only
  repeat' first
    | with_reducible assumption
    | with_reducible refine outGood_next ?_
    | with_reducible refine outGood_ite ?_ ?_
    | with_reducible refine State.dmaFailed_good ?_
    | with_reducible refine State.retireOk_good ?_
    | with_reducible refine State.serveVault_good ?_ (fun _ _ _ => ?_)
    | with_reducible refine good_ite ?_ ?_
    | simp only [good_mk_eq, List.length_map, List.length_set]
    | split

theorem execVaultCmdReadAudit_good {id : Nat} (hgood : Good O Q s) : OutGood O Q (execVaultCmdReadAudit id s) := by
  unfold execVaultCmdReadAudit
  try dsimp only
  repeat' first
    | with_reducible assumption
    | with_reducible refine outGood_next ?_
    | with_reducible refine outGood_ite ?_ ?_
    | with_reducible refine State.audit_good ?_
    | with_reducible refine State.dmaFailed_good ?_
    | with_reducible refine State.respond_good ?_
    | with_reducible refine State.retireBad_good ?_
    | with_reducible refine State.take_good ?_
    | with_reducible refine State.serveVault_good ?_ (fun _ _ _ => ?_)
    | with_reducible refine good_ite ?_ ?_
    | simp only [good_mk_eq, List.length_map, List.length_set]
    | split

theorem execVaultCmdAuth_good {id : Nat} (hgood : Good O Q s) : OutGood O Q (execVaultCmdAuth id s) := by
  unfold execVaultCmdAuth
  try dsimp only
  repeat' first
    | with_reducible assumption
    | with_reducible refine outGood_next ?_
    | with_reducible refine outGood_ite ?_ ?_
    | with_reducible refine State.dmaFailed_good ?_
    | with_reducible refine State.respond_good ?_
    | with_reducible refine State.retireBad_good ?_
    | with_reducible refine State.serveVault_good ?_ (fun _ _ _ => ?_)
    | with_reducible refine good_ite ?_ ?_
    | simp only [good_mk_eq, List.length_map, List.length_set]
    | split

theorem execVaultCmdReset_good {id : Nat} (hgood : Good O Q s) : OutGood O Q (execVaultCmdReset id s) := by
  unfold execVaultCmdReset
  try dsimp only
  repeat' first
    | with_reducible assumption
    | with_reducible refine outGood_next ?_
    | with_reducible refine outGood_ite ?_ ?_
    | with_reducible refine State.retireBad_good ?_
    | with_reducible refine State.retireOk_good ?_
    | with_reducible refine State.vaultRestart_good ?_
    | with_reducible refine State.serveVault_good ?_ (fun _ _ _ => ?_)
    | with_reducible refine good_ite ?_ ?_
    | simp only [good_mk_eq, List.length_map, List.length_set]
    | split

theorem State.request_good {path : Path} {code : Nat} {f : List Byte → State → State × Nat} (hgood : Good O Q s)
    (hf : ∀ b t, Good O Q t → Good O Q (f b t).1) : OutGood O Q (s.request path code f) := by
  unfold State.request
  split
  · exact outGood_next hgood
  split
  · split
    · dsimp only
      split
      · exact outGood_next (svSweep_good (State.reqEnd_good hgood))
      · refine outGood_next (svSweep_good (State.reqEnd_good ?_))
        split
        · exact hf _ _ hgood
        · exact hgood
    · exact outGood_next hgood
  · exact outGood_next hgood

theorem State.newSbKey_good {key : List Byte} (hgood : Good O Q s) : Good O Q (State.newSbKey s key) := by
  unfold State.newSbKey
  try dsimp only
  repeat' first
    | with_reducible assumption
    | with_reducible refine good_ite ?_ ?_
    | simp only [good_mk_eq, List.length_map, List.length_set]
    | split

theorem State.setMetrology_good {k : Option (List Byte)} {always : Bool} (hgood : Good O Q s) : Good O Q (State.setMetrology s k always) := by
  unfold State.setMetrology
  try dsimp only
  repeat' first
    | with_reducible assumption
    | with_reducible refine State.auditEvent_good ?_
    | with_reducible refine State.doIf_good ?_ ?_
    | with_reducible refine good_ite ?_ ?_
    | simp only [good_mk_eq, List.length_map, List.length_set]
    | split

theorem State.newOwner_good {body : List Byte} (hgood : Good O Q s) : Good O Q (s.newOwner body).1 := by
  unfold State.newOwner
  split
  · exact hgood
  · exact State.setMetrology_good (State.newSbKey_good (good_mk hgood rfl rfl rfl rfl))

theorem State.injectLock_good (hgood : Good O Q s) : Good O Q (State.injectLock s) := by
  unfold State.injectLock
  try dsimp only
  repeat' first
    | with_reducible assumption
    | with_reducible refine good_ite ?_ ?_
    | simp only [good_mk_eq, List.length_map, List.length_set]
    | split

theorem execClaim_good {path : Path} (hgood : Good O Q s) : OutGood O Q (execClaim path s) := by
  unfold execClaim
  try dsimp only
  repeat' first
    | with_reducible assumption
    | with_reducible refine outGood_next ?_
    | with_reducible refine outGood_ite ?_ ?_
    | with_reducible refine State.newOwner_good ?_
    | with_reducible refine State.request_good ?_ (fun _ _ _ => ?_)
    | with_reducible refine good_ite ?_ ?_
    | simp only [good_mk_eq, List.length_map, List.length_set]
    | split

theorem execTransfer_good {path : Path} (hgood : Good O Q s) : OutGood O Q (execTransfer path s) := by
  unfold execTransfer
  try dsimp only
  repeat' first
    | with_reducible assumption
    | with_reducible refine outGood_next ?_
    | with_reducible refine outGood_ite ?_ ?_
    | with_reducible refine State.injectLock_good ?_
    | with_reducible refine State.newOwner_good ?_
    | with_reducible refine State.request_good ?_ (fun _ _ _ => ?_)
    | with_reducible refine good_ite ?_ ?_
    | simp only [good_mk_eq, List.length_map, List.length_set]
    | split

theorem execRelease_good {path : Path} (hgood : Good O Q s) : OutGood O Q (execRelease path s) := by
  unfold execRelease
  try dsimp only
  repeat' first
    | with_reducible assumption
    | with_reducible refine outGood_next ?_
    | with_reducible refine outGood_ite ?_ ?_
    | with_reducible refine State.injectLock_good ?_
    | with_reducible refine State.request_good ?_ (fun _ _ _ => ?_)
    | with_reducible refine good_ite ?_ ?_
    | simp only [good_mk_eq, List.length_map, List.length_set]
    | split

theorem execSetSbKey_good {path : Path} (hgood : Good O Q s) : OutGood O Q (execSetSbKey path s) := by
  unfold execSetSbKey
  try dsimp only
  repeat' first
    | with_reducible assumption
    | with_reducible refine outGood_next ?_
    | with_reducible refine outGood_ite ?_ ?_
    | with_reducible refine State.newSbKey_good ?_
    | with_reducible refine State.request_good ?_ (fun _ _ _ => ?_)
    | with_reducible refine good_ite ?_ ?_
    | simp only [good_mk_eq, List.length_map, List.length_set]
    | split

theorem execSetMetrologyKey_good {path : Path} (hgood : Good O Q s) : OutGood O Q (execSetMetrologyKey path s) := by
  unfold execSetMetrologyKey
  try dsimp only
  repeat' first
    | with_reducible assumption
    | with_reducible refine outGood_next ?_
    | with_reducible refine outGood_ite ?_ ?_
    | with_reducible refine State.setMetrology_good ?_
    | with_reducible refine State.request_good ?_ (fun _ _ _ => ?_)
    | with_reducible refine good_ite ?_ ?_
    | simp only [good_mk_eq, List.length_map, List.length_set]
    | split

theorem execEndorse_good {path : Path} (hgood : Good O Q s) : OutGood O Q (execEndorse path s) := by
  unfold execEndorse
  try dsimp only
  repeat' first
    | with_reducible assumption
    | with_reducible refine outGood_next ?_
    | with_reducible refine outGood_ite ?_ ?_
    | with_reducible refine State.request_good ?_ (fun _ _ _ => ?_)
    | with_reducible refine good_ite ?_ ?_
    | simp only [good_mk_eq, List.length_map, List.length_set]
    | split

theorem execSetPolicy_good {path : Path} (hgood : Good O Q s) : OutGood O Q (execSetPolicy path s) := by
  unfold execSetPolicy
  try dsimp only
  repeat' first
    | with_reducible assumption
    | with_reducible refine outGood_next ?_
    | with_reducible refine outGood_ite ?_ ?_
    | with_reducible refine State.request_good ?_ (fun _ _ _ => ?_)
    | with_reducible refine good_ite ?_ ?_
    | simp only [good_mk_eq, List.length_map, List.length_set]
    | split

theorem execUnlockInject_good {path : Path} (hgood : Good O Q s) : OutGood O Q (execUnlockInject path s) := by
  unfold execUnlockInject
  try dsimp only
  repeat' first
    | with_reducible assumption
    | with_reducible refine outGood_next ?_
    | with_reducible refine outGood_ite ?_ ?_
    | with_reducible refine State.request_good ?_ (fun _ _ _ => ?_)
    | with_reducible refine good_ite ?_ ?_
    | simp only [good_mk_eq, List.length_map, List.length_set]
    | split

theorem execLockInject_good {path : Path} (hgood : Good O Q s) : OutGood O Q (execLockInject path s) := by
  unfold execLockInject
  try dsimp only
  repeat' first
    | with_reducible assumption
    | with_reducible refine outGood_next ?_
    | with_reducible refine outGood_ite ?_ ?_
    | with_reducible refine State.injectLock_good ?_
    | with_reducible refine State.request_good ?_ (fun _ _ _ => ?_)
    | with_reducible refine good_ite ?_ ?_
    | simp only [good_mk_eq, List.length_map, List.length_set]
    | split

theorem execUnlockDebug_good {path : Path} (hgood : Good O Q s) : OutGood O Q (execUnlockDebug path s) := by
  unfold execUnlockDebug
  try dsimp only
  repeat' first
    | with_reducible assumption
    | with_reducible refine outGood_next ?_
    | with_reducible refine outGood_ite ?_ ?_
    | with_reducible refine State.request_good ?_ (fun _ _ _ => ?_)
    | with_reducible refine good_ite ?_ ?_
    | simp only [good_mk_eq, List.length_map, List.length_set]
    | split

theorem execBackoffEnd_good (hgood : Good O Q s) : OutGood O Q (execBackoffEnd s) := by
  unfold execBackoffEnd
  try dsimp only
  repeat' first
    | with_reducible assumption
    | with_reducible refine outGood_next ?_
    | with_reducible refine outGood_ite ?_ ?_
    | with_reducible refine State.reachUp_good ?_
    | with_reducible refine good_ite ?_ ?_
    | simp only [good_mk_eq, List.length_map, List.length_set]
    | split

theorem execSignReq_good {id : Nat} (hgood : Good O Q s) : OutGood O Q (execSignReq id s) := by
  unfold execSignReq
  try dsimp only
  repeat' first
    | with_reducible assumption
    | with_reducible refine outGood_next ?_
    | with_reducible refine outGood_ite ?_ ?_
    | with_reducible refine State.bump_good ?_
    | with_reducible refine State.descWrite_good ?_
    | with_reducible refine State.retireBad_good ?_
    | with_reducible refine State.retireOk_good ?_
    | with_reducible refine State.take_good ?_
    | with_reducible refine State.serve_good ?_ (fun _ _ _ => ?_)
    | with_reducible refine good_ite ?_ ?_
    | simp only [good_mk_eq, List.length_map, List.length_set]
    | split

theorem execAttest_good {id : Nat} (hgood : Good O Q s) : OutGood O Q (execAttest id s) := by
  unfold execAttest
  try dsimp only
  repeat' first
    | with_reducible assumption
    | with_reducible refine outGood_next ?_
    | with_reducible refine outGood_ite ?_ ?_
    | with_reducible refine State.bump_good ?_
    | with_reducible refine State.descWrite_good ?_
    | with_reducible refine State.retireOk_good ?_
    | with_reducible refine State.take_good ?_
    | with_reducible refine State.serve_good ?_ (fun _ _ _ => ?_)
    | with_reducible refine good_ite ?_ ?_
    | simp only [good_mk_eq, List.length_map, List.length_set]
    | split

theorem State.seizeSettled_good {k : Nat} {high : Bool} (hgood : Good O Q s) : Good O Q (State.seizeSettled s k high) := by
  unfold State.seizeSettled
  try dsimp only
  repeat' first
    | with_reducible assumption
    | with_reducible refine State.seizeHigh_good ?_
    | with_reducible refine State.seizeLow_good ?_
    | with_reducible refine good_ite ?_ ?_
    | simp only [good_mk_eq, List.length_map, List.length_set]
    | split

theorem execPinSettle_good {k : Fin 33} {high : Bool} (hgood : Good O Q s) : OutGood O Q (execPinSettle k high s) := by
  unfold execPinSettle
  try dsimp only
  repeat' first
    | with_reducible assumption
    | with_reducible refine outGood_next ?_
    | with_reducible refine outGood_ite ?_ ?_
    | with_reducible refine State.sealTurn_good ?_
    | with_reducible refine State.seizeSettled_good ?_
    | with_reducible refine State.settlePin_good ?_
    | with_reducible refine good_ite ?_ ?_
    | simp only [good_mk_eq, List.length_map, List.length_set]
    | split

theorem State.seizeCheck_good {fed : Bool} (hgood : Good O Q s) : Good O Q (State.seizeCheck s fed) := by
  unfold State.seizeCheck
  try dsimp only
  repeat' first
    | with_reducible assumption
    | with_reducible refine State.excSeize_good ?_
    | with_reducible refine State.excUnseize_good ?_
    | with_reducible refine State.vaultTaint_good ?_
    | with_reducible refine good_ite ?_ ?_
    | simp only [good_mk_eq, List.length_map, List.length_set]
    | split

theorem execFunctionSwitchPark_good {k : Fin 32} (hgood : Good O Q s) : OutGood O Q (execFunctionSwitchPark k s) := by
  unfold execFunctionSwitchPark
  try dsimp only
  repeat' first
    | with_reducible assumption
    | with_reducible refine outGood_next ?_
    | with_reducible refine outGood_ite ?_ ?_
    | with_reducible refine State.reachCricket_good ?_
    | with_reducible refine State.seizeCheck_good ?_
    | with_reducible refine good_ite ?_ ?_
    | simp only [good_mk_eq, List.length_map, List.length_set]
    | split

theorem execFunctionSwitchConnect_good {k : Fin 32} (hgood : Good O Q s) : OutGood O Q (execFunctionSwitchConnect k s) := by
  unfold execFunctionSwitchConnect
  try dsimp only
  repeat' first
    | with_reducible assumption
    | with_reducible refine outGood_next ?_
    | with_reducible refine outGood_ite ?_ ?_
    | with_reducible refine State.reachCricket_good ?_
    | with_reducible refine State.seizeCheck_good ?_
    | with_reducible refine State.seizeSettled_good ?_
    | with_reducible refine good_ite ?_ ?_
    | simp only [good_mk_eq, List.length_map, List.length_set]
    | split

theorem execPinOutSet_good {v : W32} (hgood : Good O Q s) : OutGood O Q (execPinOutSet v s) := by
  unfold execPinOutSet
  try dsimp only
  repeat' first
    | with_reducible assumption
    | with_reducible refine outGood_next ?_
    | with_reducible refine outGood_ite ?_ ?_
    | with_reducible refine State.setReg_good ?_
    | with_reducible refine good_ite ?_ ?_
    | simp only [good_mk_eq, List.length_map, List.length_set]
    | split

theorem execPinOutClr_good {v : W32} (hgood : Good O Q s) : OutGood O Q (execPinOutClr v s) := by
  unfold execPinOutClr
  try dsimp only
  repeat' first
    | with_reducible assumption
    | with_reducible refine outGood_next ?_
    | with_reducible refine outGood_ite ?_ ?_
    | with_reducible refine State.setReg_good ?_
    | with_reducible refine good_ite ?_ ?_
    | simp only [good_mk_eq, List.length_map, List.length_set]
    | split

theorem State.startDoorbell_good {nudged : Bool} (hgood : Good O Q s) : Good O Q (State.startDoorbell s nudged) := by
  unfold State.startDoorbell
  try dsimp only
  repeat' first
    | with_reducible assumption
    | with_reducible refine State.bump_good ?_
    | with_reducible refine State.doIf_good ?_ ?_
    | with_reducible refine good_ite ?_ ?_
    | simp only [good_mk_eq, List.length_map, List.length_set]
    | split

theorem execNudge_good {writes : List NudgeWrite} (hgood : Good O Q s) : OutGood O Q (execNudge writes s) := by
  unfold execNudge
  try dsimp only
  repeat' first
    | with_reducible assumption
    | with_reducible refine outGood_next ?_
    | with_reducible refine outGood_ite ?_ ?_
    | with_reducible refine State.bump_good ?_
    | with_reducible refine State.coreNeed_good ?_
    | with_reducible refine State.startDoorbell_good ?_
    | with_reducible refine State.doIf_good ?_ ?_
    | with_reducible refine good_ite ?_ ?_
    | simp only [good_mk_eq, List.length_map, List.length_set]
    | split

theorem execDbPoll_good (hgood : Good O Q s) : OutGood O Q (execDbPoll s) := by
  unfold execDbPoll
  try dsimp only
  repeat' first
    | with_reducible assumption
    | with_reducible refine outGood_next ?_
    | with_reducible refine outGood_ite ?_ ?_
    | with_reducible refine State.pllRunAgo_good ?_
    | with_reducible refine State.reachUp_good ?_
    | with_reducible refine State.startDoorbell_good ?_
    | with_reducible refine good_ite ?_ ?_
    | simp only [good_mk_eq, List.length_map, List.length_set]
    | split

theorem State.takeDoorbell_good {page : List Byte} (hgood : Good O Q s) : Good O Q (State.takeDoorbell s page) := by
  unfold State.takeDoorbell
  try dsimp only
  repeat' first
    | with_reducible assumption
    | with_reducible refine State.postAll_good ?_
    | with_reducible refine State.raiseAll_good ?_
    | with_reducible refine State.setBit_good ?_
    | with_reducible refine State.updCq_good ?_
    | with_reducible refine State.updSq_good ?_
    | with_reducible refine State.each_good ?_ (fun _ _ _ => ?_)
    | with_reducible refine good_ite ?_ ?_
    | simp only [good_mk_eq, List.length_map, List.length_set]
    | split

theorem execDoorbellFetch_good {readOk : Bool} (hgood : Good O Q s) : OutGood O Q (execDoorbellFetch readOk s) := by
  unfold execDoorbellFetch
  try dsimp only
  repeat' first
    | with_reducible assumption
    | with_reducible refine outGood_next ?_
    | with_reducible refine outGood_ite ?_ ?_
    | with_reducible refine State.aerReport_good ?_
    | with_reducible refine State.startDoorbell_good ?_
    | with_reducible refine State.takeDoorbell_good ?_
    | with_reducible refine good_ite ?_ ?_
    | simp only [good_mk_eq, List.length_map, List.length_set]
    | split

theorem State.enlist_good {d : Desc} (hgood : Good O Q s) : Good O Q (State.enlist s d) := by
  unfold State.enlist
  try dsimp only
  repeat' first
    | with_reducible assumption
    | with_reducible refine State.retireBad_good ?_
    | with_reducible refine State.sweepBad_good ?_
    | with_reducible refine good_ite ?_ ?_
    | simp only [good_mk_eq, List.length_map, List.length_set]
    | split

theorem State.fetchFailed_good {r : Nat} (hgood : Good O Q s) : Good O Q (State.fetchFailed s r) := by
  unfold State.fetchFailed
  try dsimp only
  repeat' first
    | with_reducible assumption
    | with_reducible refine State.aerReport_good ?_
    | with_reducible refine State.setBit_good ?_
    | with_reducible refine State.updSq_good ?_
    | with_reducible refine good_ite ?_ ?_
    | simp only [good_mk_eq, List.length_map, List.length_set]
    | split

theorem execDescriptorFetch_good {r : Fin 64} {readOk : Bool} (hgood : Good O Q s) : OutGood O Q (execDescriptorFetch r readOk s) := by
  unfold execDescriptorFetch
  try dsimp only
  repeat' first
    | with_reducible assumption
    | with_reducible refine outGood_next ?_
    | with_reducible refine outGood_ite ?_ ?_
    | with_reducible refine State.enlist_good ?_
    | with_reducible refine State.fetchFailed_good ?_
    | with_reducible refine State.setSq_good ?_
    | with_reducible refine State.useInj_good ?_
    | with_reducible refine State.doIf_good ?_ ?_
    | with_reducible refine good_ite ?_ ?_
    | simp only [good_mk_eq, List.length_map, List.length_set]
    | split

theorem execNop_good {id : Nat} (hgood : Good O Q s) : OutGood O Q (execNop id s) := by
  unfold execNop
  try dsimp only
  repeat' first
    | with_reducible assumption
    | with_reducible refine outGood_next ?_
    | with_reducible refine outGood_ite ?_ ?_
    | with_reducible refine State.retireOk_good ?_
    | with_reducible refine State.serve_good ?_ (fun _ _ _ => ?_)
    | with_reducible refine good_ite ?_ ?_
    | simp only [good_mk_eq, List.length_map, List.length_set]
    | split

theorem execFence_good {id : Nat} (hgood : Good O Q s) : OutGood O Q (execFence id s) := by
  unfold execFence
  try dsimp only
  repeat' first
    | with_reducible assumption
    | with_reducible refine outGood_next ?_
    | with_reducible refine outGood_ite ?_ ?_
    | with_reducible refine State.retireOk_good ?_
    | with_reducible refine State.serve_good ?_ (fun _ _ _ => ?_)
    | with_reducible refine good_ite ?_ ?_
    | simp only [good_mk_eq, List.length_map, List.length_set]
    | split

theorem State.touchTxn_good {d : Desc} (hgood : Good O Q s) : Good O Q (State.touchTxn s d) := by
  unfold State.touchTxn
  try dsimp only
  repeat' first
    | with_reducible assumption
    | with_reducible refine good_ite ?_ ?_
    | simp only [good_mk_eq, List.length_map, List.length_set]
    | split

theorem execEngineHoldTimeout_good {id : Nat} (hgood : Good O Q s) : OutGood O Q (execEngineHoldTimeout id s) := by
  unfold execEngineHoldTimeout
  try dsimp only
  repeat' first
    | with_reducible assumption
    | with_reducible refine outGood_next ?_
    | with_reducible refine outGood_ite ?_ ?_
    | with_reducible refine State.reachUp_good ?_
    | with_reducible refine State.retireBad_good ?_
    | with_reducible refine State.touchTxn_good ?_
    | with_reducible refine good_ite ?_ ?_
    | simp only [good_mk_eq, List.length_map, List.length_set]
    | split

theorem execCqModerationTimer_good {q : Fin 64} (hgood : Good O Q s) : OutGood O Q (execCqModerationTimer q s) := by
  unfold execCqModerationTimer
  try dsimp only
  repeat' first
    | with_reducible assumption
    | with_reducible refine outGood_next ?_
    | with_reducible refine outGood_ite ?_ ?_
    | with_reducible refine State.msix_good ?_
    | with_reducible refine State.reachUp_good ?_
    | with_reducible refine State.setCq_good ?_
    | with_reducible refine good_ite ?_ ?_
    | simp only [good_mk_eq, List.length_map, List.length_set]
    | split

theorem execSqEnable_good {r : Fin 64} {v : W32} (hgood : Good O Q s) : OutGood O Q (execSqEnable r v s) := by
  unfold execSqEnable
  try dsimp only
  repeat' first
    | with_reducible assumption
    | with_reducible refine outGood_next ?_
    | with_reducible refine outGood_ite ?_ ?_
    | with_reducible refine State.endHandling_good ?_
    | with_reducible refine State.refuserNote_good ?_
    | with_reducible refine State.setBit_good ?_
    | with_reducible refine State.setReg_good ?_
    | with_reducible refine State.setSq_good ?_
    | with_reducible refine good_ite ?_ ?_
    | simp only [good_mk_eq, List.length_map, List.length_set]
    | split

theorem State.capRelease_good {id : Nat} (hgood : Good O Q s) : Good O Q (State.capRelease s id) := by
  unfold State.capRelease
  try dsimp only
  repeat' first
    | with_reducible assumption
    | with_reducible refine State.updCap_good ?_
    | with_reducible refine State.each_good ?_ (fun _ _ _ => ?_)
    | with_reducible refine good_ite ?_ ?_
    | simp only [good_mk_eq, List.length_map, List.length_set]
    | split

theorem State.abandon_good {d : Desc} (hgood : Good O Q s) : Good O Q (State.abandon s d) := by
  unfold State.abandon
  try dsimp only
  repeat' first
    | with_reducible assumption
    | with_reducible refine State.capRelease_good ?_
    | with_reducible refine State.chainPast_good ?_
    | with_reducible refine State.dropJob_good ?_
    | with_reducible refine State.touchTxn_good ?_
    | with_reducible refine State.unstage_good ?_
    | with_reducible refine good_ite ?_ ?_
    | simp only [good_mk_eq, List.length_map, List.length_set]
    | split

theorem State.abortDesc_good {d : Desc} (hgood : Good O Q s) : Good O Q (State.abortDesc s d) := by
  unfold State.abortDesc
  try dsimp only
  repeat' first
    | with_reducible assumption
    | with_reducible refine State.abandon_good ?_
    | with_reducible refine State.retireBad_good ?_
    | with_reducible refine State.retireBuf_good ?_
    | with_reducible refine State.retireEmpty_good ?_
    | with_reducible refine good_ite ?_ ?_
    | simp only [good_mk_eq, List.length_map, List.length_set]
    | split

theorem execSqDisable_good {r : Fin 64} (hgood : Good O Q s) : OutGood O Q (execSqDisable r s) := by
  unfold execSqDisable
  try dsimp only
  repeat' first
    | with_reducible assumption
    | with_reducible refine outGood_next ?_
    | with_reducible refine outGood_ite ?_ ?_
    | with_reducible refine State.abortDesc_good ?_
    | with_reducible refine State.clrBit_good ?_
    | with_reducible refine State.drainCheck_good ?_
    | with_reducible refine State.updSq_good ?_
    | with_reducible refine State.each_good ?_ (fun _ _ _ => ?_)
    | with_reducible refine good_ite ?_ ?_
    | simp only [good_mk_eq, List.length_map, List.length_set]
    | split

theorem execCqEnable_good {q : Fin 64} {v : W32} (hgood : Good O Q s) : OutGood O Q (execCqEnable q v s) := by
  unfold execCqEnable
  try dsimp only
  repeat' first
    | with_reducible assumption
    | with_reducible refine outGood_next ?_
    | with_reducible refine outGood_ite ?_ ?_
    | with_reducible refine State.postAll_good ?_
    | with_reducible refine State.setBit_good ?_
    | with_reducible refine State.setCq_good ?_
    | with_reducible refine State.setReg_good ?_
    | with_reducible refine good_ite ?_ ?_
    | simp only [good_mk_eq, List.length_map, List.length_set]
    | split

theorem execCqDisable_good {q : Fin 64} (hgood : Good O Q s) : OutGood O Q (execCqDisable q s) := by
  unfold execCqDisable
  try dsimp only
  repeat' first
    | with_reducible assumption
    | with_reducible refine outGood_next ?_
    | with_reducible refine outGood_ite ?_ ?_
    | with_reducible refine State.bump_good ?_
    | with_reducible refine State.clrBit_good ?_
    | with_reducible refine State.updCq_good ?_
    | with_reducible refine good_ite ?_ ?_
    | simp only [good_mk_eq, List.length_map, List.length_set]
    | split

theorem State.hostifReset_good (hgood : Good O Q s) : Good O Q (s.hostifReset) :=
  { hgood with regs := Cells.filter_wf hgood.regs, sq := rfl, cq := rfl }

theorem State.dropRings_good (hgood : Good O Q s) : Good O Q (State.dropRings s) := by
  unfold State.dropRings
  try dsimp only
  repeat' first
    | with_reducible assumption
    | with_reducible refine State.updCap_good ?_
    | with_reducible refine State.updStrm_good ?_
    | with_reducible refine State.each_good ?_ (fun _ _ _ => ?_)
    | with_reducible refine good_ite ?_ ?_
    | simp only [good_mk_eq, List.length_map, List.length_set]
    | split

theorem execPcieConventionalReset_good (hgood : Good O Q s) : OutGood O Q (execPcieConventionalReset s) := by
  unfold execPcieConventionalReset
  try dsimp only
  repeat' first
    | with_reducible assumption
    | with_reducible refine outGood_next ?_
    | with_reducible refine outGood_ite ?_ ?_
    | with_reducible refine State.assignAll_good ?_
    | with_reducible refine State.dropRings_good ?_
    | with_reducible refine State.endStreams_good ?_
    | with_reducible refine State.freeNext_good ?_
    | with_reducible refine State.hostifReset_good ?_
    | with_reducible refine good_ite ?_ ?_
    | simp only [good_mk_eq, List.length_map, List.length_set]
    | split

theorem State.resumeDma_good (hgood : Good O Q s) : Good O Q (State.resumeDma s) := by
  unfold State.resumeDma
  try dsimp only
  repeat' first
    | with_reducible assumption
    | with_reducible refine State.copyJobs_good ?_
    | with_reducible refine State.endStreams_good ?_
    | with_reducible refine State.msixPending_good ?_
    | with_reducible refine State.postAll_good ?_
    | with_reducible refine State.reqPull_good ?_
    | with_reducible refine good_ite ?_ ?_
    | simp only [good_mk_eq, List.length_map, List.length_set]
    | split

theorem State.pcieTrained_good (hgood : Good O Q s) : Good O Q (State.pcieTrained s) := by
  unfold State.pcieTrained
  try dsimp only
  repeat' first
    | with_reducible assumption
    | with_reducible refine good_ite ?_ ?_
    | simp only [good_mk_eq, List.length_map, List.length_set]
    | split

theorem execPcieLinkUp_good (hgood : Good O Q s) : OutGood O Q (execPcieLinkUp s) := by
  unfold execPcieLinkUp
  try dsimp only
  repeat' first
    | with_reducible assumption
    | with_reducible refine outGood_next ?_
    | with_reducible refine outGood_ite ?_ ?_
    | with_reducible refine State.pcieTrained_good ?_
    | with_reducible refine State.resumeDma_good ?_
    | with_reducible refine good_ite ?_ ?_
    | simp only [good_mk_eq, List.length_map, List.length_set]
    | split

theorem execBusMasterEnable_good {c : PcieControl} (hgood : Good O Q s) : OutGood O Q (execBusMasterEnable c s) := by
  unfold execBusMasterEnable
  try dsimp only
  repeat' first
    | with_reducible assumption
    | with_reducible refine outGood_next ?_
    | with_reducible refine outGood_ite ?_ ?_
    | with_reducible refine State.resumeDma_good ?_
    | with_reducible refine good_ite ?_ ?_
    | simp only [good_mk_eq, List.length_map, List.length_set]
    | split

theorem State.launchFlip_good {f : FlipSt} (hgood : Good O Q s) : Good O Q (State.launchFlip s f) := by
  unfold State.launchFlip
  try dsimp only
  repeat' first
    | with_reducible assumption
    | with_reducible refine State.armFlip_good ?_
    | with_reducible refine State.sendData_good ?_
    | with_reducible refine good_ite ?_ ?_
    | simp only [good_mk_eq, List.length_map, List.length_set]
    | split

theorem State.flipBoundary_good {g : Nat} {k : Nat} (hgood : Good O Q s) : Good O Q (State.flipBoundary s g k) := by
  unfold State.flipBoundary
  try dsimp only
  repeat' first
    | with_reducible assumption
    | with_reducible refine State.reach_good ?_
    | with_reducible refine good_ite ?_ ?_
    | simp only [good_mk_eq, List.length_map, List.length_set]
    | split

theorem State.badGroup_good {g : Nat} (hgood : Good O Q s) : Good O Q (State.badGroup s g) := by
  unfold State.badGroup
  try dsimp only
  repeat' first
    | with_reducible assumption
    | with_reducible refine State.loseDeferred_good ?_
    | with_reducible refine State.loseGroup_good ?_
    | with_reducible refine State.stopGroup_good ?_
    | with_reducible refine State.updGrp_good ?_
    | with_reducible refine State.doIf_good ?_ ?_
    | with_reducible refine good_ite ?_ ?_
    | simp only [good_mk_eq, List.length_map, List.length_set]
    | split

theorem State.capAbort_good {u : Nat} (hgood : Good O Q s) : Good O Q (State.capAbort s u) := by
  unfold State.capAbort
  try dsimp only
  repeat' first
    | with_reducible assumption
    | with_reducible refine State.retireBad_good ?_
    | with_reducible refine State.updCap_good ?_
    | with_reducible refine State.each_good ?_ (fun _ _ _ => ?_)
    | with_reducible refine good_ite ?_ ?_
    | simp only [good_mk_eq, List.length_map, List.length_set]
    | split

theorem State.flipFails_good {f : FlipSt} (hgood : Good O Q s) : Good O Q (State.flipFails s f) := by
  unfold State.flipFails
  try dsimp only
  repeat' first
    | with_reducible assumption
    | with_reducible refine State.bump_good ?_
    | with_reducible refine State.retireBad_good ?_
    | with_reducible refine State.setReg_good ?_
    | with_reducible refine good_ite ?_ ?_
    | simp only [good_mk_eq, List.length_map, List.length_set]
    | split

theorem State.enterBad_good {cause : Nat} (hgood : Good O Q s) : Good O Q (State.enterBad s cause) := by
  unfold State.enterBad
  try dsimp only
  repeat' first
    | with_reducible assumption
    | with_reducible refine State.badGroup_good ?_
    | with_reducible refine State.capAbort_good ?_
    | with_reducible refine State.excRole_good ?_
    | with_reducible refine State.flipFails_good ?_
    | with_reducible refine State.pulseStopAll_good ?_
    | with_reducible refine State.raise_good ?_
    | with_reducible refine State.setBit_good ?_
    | with_reducible refine State.traceFree_good ?_
    | with_reducible refine State.vaultTaint_good ?_
    | with_reducible refine State.each_good ?_ (fun _ _ _ => ?_)
    | with_reducible refine good_ite ?_ ?_
    | simp only [good_mk_eq, List.length_map, List.length_set]
    | split

theorem State.leaveBad_good (hgood : Good O Q s) : Good O Q (State.leaveBad s) := by
  unfold State.leaveBad
  try dsimp only
  repeat' first
    | with_reducible assumption
    | with_reducible refine State.endHandling_good ?_
    | with_reducible refine good_ite ?_ ?_
    | simp only [good_mk_eq, List.length_map, List.length_set]
    | split

theorem State.beforeSwitch_good {new : Look} {moved : List Nat} (hgood : Good O Q s) : Good O Q (State.beforeSwitch s new moved) := by
  unfold State.beforeSwitch
  try dsimp only
  repeat' first
    | with_reducible assumption
    | with_reducible refine State.closeStreams_good ?_
    | with_reducible refine State.disableStream_good ?_
    | with_reducible refine State.endStream_good ?_
    | with_reducible refine State.interruptWeighing_good ?_
    | with_reducible refine State.doIf_good ?_ ?_
    | with_reducible refine State.each_good ?_ (fun _ _ _ => ?_)
    | with_reducible refine good_ite ?_ ?_
    | simp only [good_mk_eq, List.length_map, List.length_set]
    | split

theorem State.checkOff_good {old : Look} {n : Nat} (hgood : Good O Q s) : Good O Q (State.checkOff s old n) := by
  unfold State.checkOff
  try dsimp only
  repeat' first
    | with_reducible assumption
    | with_reducible refine State.coreClose_good ?_
    | with_reducible refine State.setCore_good ?_
    | with_reducible refine State.setPair_good ?_
    | with_reducible refine State.updCore_good ?_
    | with_reducible refine good_ite ?_ ?_
    | simp only [good_mk_eq, List.length_map, List.length_set]
    | split

theorem State.checksSwitch_good {old : Look} {moved : List Nat} (hgood : Good O Q s) : Good O Q (State.checksSwitch s old moved) := by
  unfold State.checksSwitch
  try dsimp only
  repeat' first
    | with_reducible assumption
    | with_reducible refine State.checkOff_good ?_
    | with_reducible refine State.updCore_good ?_
    | with_reducible refine State.doIf_good ?_ ?_
    | with_reducible refine State.each_good ?_ (fun _ _ _ => ?_)
    | with_reducible refine good_ite ?_ ?_
    | simp only [good_mk_eq, List.length_map, List.length_set]
    | split

theorem State.mantisSwitch_good {old : Look} {moved : List Nat} (hgood : Good O Q s) : Good O Q (State.mantisSwitch s old moved) := by
  unfold State.mantisSwitch
  try dsimp only
  repeat' first
    | with_reducible assumption
    | with_reducible refine State.capAbort_good ?_
    | with_reducible refine State.setCond_good ?_
    | with_reducible refine State.updCap_good ?_
    | with_reducible refine State.updTrig_good ?_
    | with_reducible refine State.doIf_good ?_ ?_
    | with_reducible refine State.each_good ?_ (fun _ _ _ => ?_)
    | with_reducible refine good_ite ?_ ?_
    | simp only [good_mk_eq, List.length_map, List.length_set]
    | split

theorem State.mainsSwitch_good {old : Look} {moved : List Nat} (hgood : Good O Q s) : Good O Q (State.mainsSwitch s old moved) := by
  unfold State.mainsSwitch
  try dsimp only
  repeat' first
    | with_reducible assumption
    | with_reducible refine State.mainsRestart_good ?_
    | with_reducible refine State.doIf_good ?_ ?_
    | with_reducible refine good_ite ?_ ?_
    | simp only [good_mk_eq, List.length_map, List.length_set]
    | split

theorem State.streamsSwitch_good {old : Look} {moved : List Nat} (hgood : Good O Q s) : Good O Q (State.streamsSwitch s old moved) := by
  unfold State.streamsSwitch
  try dsimp only
  repeat' first
    | with_reducible assumption
    | with_reducible refine State.setStrm_good ?_
    | with_reducible refine State.each_good ?_ (fun _ _ _ => ?_)
    | with_reducible refine good_ite ?_ ?_
    | simp only [good_mk_eq, List.length_map, List.length_set]
    | split

theorem State.statsSwitch_good {old : Look} {moved : List Nat} (hgood : Good O Q s) : Good O Q (State.statsSwitch s old moved) := by
  unfold State.statsSwitch
  try dsimp only
  repeat' first
    | with_reducible assumption
    | with_reducible refine State.statCommit_good ?_
    | with_reducible refine State.doIf_good ?_ ?_
    | with_reducible refine State.each_good ?_ (fun _ _ _ => ?_)
    | with_reducible refine good_ite ?_ ?_
    | simp only [good_mk_eq, List.length_map, List.length_set]
    | split

theorem State.pinsSwitch_good {moved : List Nat} (hgood : Good O Q s) : Good O Q (State.pinsSwitch s moved) := by
  unfold State.pinsSwitch
  try dsimp only
  repeat' first
    | with_reducible assumption
    | with_reducible refine good_foldl _ (fun _ _ _ => ?_) ?_
    | with_reducible refine good_ite ?_ ?_
    | simp only [good_mk_eq, List.length_map, List.length_set]
    | split

theorem State.clocksSwitch_good (hgood : Good O Q s) : Good O Q (State.clocksSwitch s) := by
  unfold State.clocksSwitch
  try dsimp only
  repeat' first
    | with_reducible assumption
    | with_reducible refine State.leaveDoze_good ?_
    | with_reducible refine State.refuserNote_good ?_
    | with_reducible refine good_ite ?_ ?_
    | simp only [good_mk_eq, List.length_map, List.length_set]
    | split

theorem State.twinSwitch_good {old : Look} (hgood : Good O Q s) : Good O Q (State.twinSwitch s old) := by
  unfold State.twinSwitch
  try dsimp only
  repeat' first
    | with_reducible assumption
    | with_reducible refine State.endHandling_good ?_
    | with_reducible refine State.seizeTaken_good ?_
    | with_reducible refine State.sendHealth_good ?_
    | with_reducible refine State.setRole_good ?_
    | with_reducible refine good_ite ?_ ?_
    | simp only [good_mk_eq, List.length_map, List.length_set]
    | split

theorem State.afterSwitch_good {old : Look} {moved : List Nat} {written : List Nat} (hgood : Good O Q s) : Good O Q (State.afterSwitch s old moved written) := by
  unfold State.afterSwitch
  try dsimp only
  repeat' first
    | with_reducible assumption
    | with_reducible refine State.assignAll_good ?_
    | with_reducible refine State.checksSwitch_good ?_
    | with_reducible refine State.clocksSwitch_good ?_
    | with_reducible refine State.excApplyAll_good ?_
    | with_reducible refine State.ffCommit_good ?_
    | with_reducible refine State.linkCommit_good ?_
    | with_reducible refine State.mainsSwitch_good ?_
    | with_reducible refine State.mantisSwitch_good ?_
    | with_reducible refine State.pinsSwitch_good ?_
    | with_reducible refine State.quadSet_good ?_
    | with_reducible refine State.statsSwitch_good ?_
    | with_reducible refine State.streamsSwitch_good ?_
    | with_reducible refine State.twinSwitch_good ?_
    | with_reducible refine State.doIf_good ?_ ?_
    | with_reducible refine State.each_good ?_ (fun _ _ _ => ?_)
    | with_reducible refine good_ite ?_ ?_
    | simp only [good_mk_eq, List.length_map, List.length_set]
    | split

theorem State.groupSwitch_good {g : Nat} {hold : Bool} {next : Nat × Tq} (hgood : Good O Q s) : Good O Q (State.groupSwitch s g hold next) := by
  unfold State.groupSwitch
  try dsimp only
  repeat' first
    | with_reducible assumption
    | with_reducible refine State.loseGroup_good ?_
    | with_reducible refine State.mantisReset_good ?_
    | with_reducible refine State.startGroup_good ?_
    | with_reducible refine State.stopGroup_good ?_
    | with_reducible refine good_ite ?_ ?_
    | simp only [good_mk_eq, List.length_map, List.length_set]
    | split

theorem State.sealFollow_good {f : FlipSt} (hgood : Good O Q s) : Good O Q (State.sealFollow s f) := by
  unfold State.sealFollow
  try dsimp only
  repeat' first
    | with_reducible assumption
    | with_reducible refine State.auditEvent_good ?_
    | with_reducible refine State.take_good ?_
    | with_reducible refine good_ite ?_ ?_
    | simp only [good_mk_eq, List.length_map, List.length_set]
    | split

theorem State.switchGroups_good {f : FlipSt} {gs : List Nat} (hgood : Good O Q s) : Good O Q (State.switchGroups s f gs) := by
  unfold State.switchGroups
  try dsimp only
  repeat' first
    | with_reducible assumption
    | with_reducible refine State.afterSwitch_good ?_
    | with_reducible refine State.beforeSwitch_good ?_
    | with_reducible refine State.groupSwitch_good ?_
    | with_reducible refine State.keepGrid_good ?_
    | with_reducible refine State.mainsLoad_good ?_
    | with_reducible refine State.sealFollow_good ?_
    | with_reducible refine State.doIf_good ?_ ?_
    | with_reducible refine State.each_good ?_ (fun _ _ _ => ?_)
    | with_reducible refine good_foldl _ (fun _ _ _ => ?_) ?_
    | with_reducible refine good_ite ?_ ?_
    | simp only [good_mk_eq, List.length_map, List.length_set]
    | split

theorem State.flipDone_good {f : FlipSt} (hgood : Good O Q s) : Good O Q (State.flipDone s f) := by
  unfold State.flipDone
  try dsimp only
  repeat' first
    | with_reducible assumption
    | with_reducible refine State.addReason_good ?_
    | with_reducible refine State.bump_good ?_
    | with_reducible refine State.followAnew_good ?_
    | with_reducible refine State.refuserNote_good ?_
    | with_reducible refine State.retireOk_good ?_
    | with_reducible refine State.setReg_good ?_
    | with_reducible refine State.traceFree_good ?_
    | with_reducible refine State.doIf_good ?_ ?_
    | with_reducible refine good_ite ?_ ?_
    | simp only [good_mk_eq, List.length_map, List.length_set]
    | split

theorem State.flipHere_good {f : FlipSt} (hgood : Good O Q s) : Good O Q (State.flipHere s f) := by
  unfold State.flipHere
  try dsimp only
  repeat' first
    | with_reducible assumption
    | with_reducible refine State.enterBad_good ?_
    | with_reducible refine State.flipDone_good ?_
    | with_reducible refine State.leaveBad_good ?_
    | with_reducible refine State.memWrite_good ?_
    | with_reducible refine State.switchGroups_good ?_
    | with_reducible refine State.doIf_good ?_ ?_
    | with_reducible refine good_ite ?_ ?_
    | simp only [good_mk_eq, List.length_map, List.length_set]
    | split

theorem execCfgFlip_good {confirmed : Bool} (hgood : Good O Q s) : OutGood O Q (execCfgFlip confirmed s) := by
  unfold execCfgFlip
  try dsimp only
  repeat' first
    | with_reducible assumption
    | with_reducible refine outGood_next ?_
    | with_reducible refine outGood_ite ?_ ?_
    | with_reducible refine State.enterBad_good ?_
    | with_reducible refine State.flipHere_good ?_
    | with_reducible refine State.oneCycle_good ?_ (fun _ _ => ?_)
    | with_reducible refine good_ite ?_ ?_
    | simp only [good_mk_eq, List.length_map, List.length_set]
    | split

theorem execHeldRestart_good {g : Group} (hgood : Good O Q s) : OutGood O Q (execHeldRestart g s) := by
  unfold execHeldRestart
  try dsimp only
  repeat' first
    | with_reducible assumption
    | with_reducible refine outGood_next ?_
    | with_reducible refine outGood_ite ?_ ?_
    | with_reducible refine State.reachUp_good ?_
    | with_reducible refine State.startGroup_good ?_
    | with_reducible refine good_ite ?_ ?_
    | simp only [good_mk_eq, List.length_map, List.length_set]
    | split

theorem execLiveBankEcc_good (hgood : Good O Q s) : OutGood O Q (execLiveBankEcc s) := by
  unfold execLiveBankEcc
  try dsimp only
  repeat' first
    | with_reducible assumption
    | with_reducible refine outGood_next ?_
    | with_reducible refine outGood_ite ?_ ?_
    | with_reducible refine State.enterBad_good ?_
    | with_reducible refine good_ite ?_ ?_
    | simp only [good_mk_eq, List.length_map, List.length_set]
    | split

theorem State.serveCfg_good {id op : Nat} {f : Desc → State → State} (hgood : Good O Q s) (hf : ∀ d t, Good O Q t → Good O Q (f d t)) : OutGood O Q (s.serveCfg id op f) := by
  unfold State.serveCfg
  refine State.serve_good hgood (fun d t ht => ?_)
  try dsimp only
  repeat' first
    | with_reducible exact hf _ _ (State.touchTxn_good ht)
    | with_reducible exact State.retireBad_good (State.touchTxn_good ht)
    | split

theorem execCfgBegin_good {id : Nat} (hgood : Good O Q s) : OutGood O Q (execCfgBegin id s) := by
  unfold execCfgBegin
  try dsimp only
  repeat' first
    | with_reducible assumption
    | with_reducible refine outGood_next ?_
    | with_reducible refine outGood_ite ?_ ?_
    | with_reducible refine State.retireBad_good ?_
    | with_reducible refine State.retireOk_good ?_
    | with_reducible refine State.serveCfg_good ?_ (fun _ _ _ => ?_)
    | with_reducible refine good_ite ?_ ?_
    | simp only [good_mk_eq, List.length_map, List.length_set]
    | split

theorem execCfgWrite_good {id : Nat} (hgood : Good O Q s) : OutGood O Q (execCfgWrite id s) := by
  unfold execCfgWrite
  try dsimp only
  repeat' first
    | with_reducible assumption
    | with_reducible refine outGood_next ?_
    | with_reducible refine outGood_ite ?_ ?_
    | with_reducible refine State.dmaFailed_good ?_
    | with_reducible refine State.retireBad_good ?_
    | with_reducible refine State.retireOk_good ?_
    | with_reducible refine State.retire_good ?_
    | with_reducible refine State.serveCfg_good ?_ (fun _ _ _ => ?_)
    | with_reducible refine good_foldl _ (fun _ _ _ => ?_) ?_
    | with_reducible refine good_ite ?_ ?_
    | simp only [good_mk_eq, List.length_map, List.length_set]
    | split

theorem execCfgRollback_good {id : Nat} (hgood : Good O Q s) : OutGood O Q (execCfgRollback id s) := by
  unfold execCfgRollback
  try dsimp only
  repeat' first
    | with_reducible assumption
    | with_reducible refine outGood_next ?_
    | with_reducible refine outGood_ite ?_ ?_
    | with_reducible refine State.retireBad_good ?_
    | with_reducible refine State.retireOk_good ?_
    | with_reducible refine State.serveCfg_good ?_ (fun _ _ _ => ?_)
    | with_reducible refine good_ite ?_ ?_
    | simp only [good_mk_eq, List.length_map, List.length_set]
    | split

theorem execCfgTxnTimeout_good (hgood : Good O Q s) : OutGood O Q (execCfgTxnTimeout s) := by
  unfold execCfgTxnTimeout
  try dsimp only
  repeat' first
    | with_reducible assumption
    | with_reducible refine outGood_next ?_
    | with_reducible refine outGood_ite ?_ ?_
    | with_reducible refine State.raiseBare_good ?_
    | with_reducible refine State.reachUp_good ?_
    | with_reducible refine good_ite ?_ ?_
    | simp only [good_mk_eq, List.length_map, List.length_set]
    | split

theorem State.refuseCommit_good {d : Desc} {status : Nat} {res : List W32} (hgood : Good O Q s) : Good O Q (State.refuseCommit s d status res) := by
  unfold State.refuseCommit
  try dsimp only
  repeat' first
    | with_reducible assumption
    | with_reducible refine State.bump_good ?_
    | with_reducible refine State.retire_good ?_
    | with_reducible refine State.setReg_good ?_
    | with_reducible refine good_ite ?_ ?_
    | simp only [good_mk_eq, List.length_map, List.length_set]
    | split

theorem State.stageCommit_good {d : Desc} {t : TxnSt} {bank : Bank} (hgood : Good O Q s) : Good O Q (State.stageCommit s d t bank) := by
  unfold State.stageCommit
  try dsimp only
  repeat' first
    | with_reducible assumption
    | with_reducible refine State.launchFlip_good ?_
    | with_reducible refine State.sealWrite_good ?_
    | with_reducible refine State.take_good ?_
    | with_reducible refine good_ite ?_ ?_
    | simp only [good_mk_eq, List.length_map, List.length_set]
    | split

theorem State.commit_good {bankOk : Bool} {d : Desc} (hgood : Good O Q s) : Good O Q (State.commit s bankOk d) := by
  unfold State.commit
  try dsimp only
  repeat' first
    | with_reducible assumption
    | with_reducible refine State.refuseCommit_good ?_
    | with_reducible refine State.stageCommit_good ?_
    | with_reducible refine good_ite ?_ ?_
    | simp only [good_mk_eq, List.length_map, List.length_set]
    | split

theorem execCfgCommit_good {id : Nat} {bankOk : Bool} (hgood : Good O Q s) : OutGood O Q (execCfgCommit id bankOk s) := by
  unfold execCfgCommit
  try dsimp only
  repeat' first
    | with_reducible assumption
    | with_reducible refine outGood_next ?_
    | with_reducible refine outGood_ite ?_ ?_
    | with_reducible refine State.commit_good ?_
    | with_reducible refine State.serveCfg_good ?_ (fun _ _ _ => ?_)
    | with_reducible refine good_ite ?_ ?_
    | simp only [good_mk_eq, List.length_map, List.length_set]
    | split

theorem execHeldCommitValidate_good {id : Nat} {bankOk : Bool} (hgood : Good O Q s) : OutGood O Q (execHeldCommitValidate id bankOk s) := by
  unfold execHeldCommitValidate
  try dsimp only
  repeat' first
    | with_reducible assumption
    | with_reducible refine outGood_next ?_
    | with_reducible refine outGood_ite ?_ ?_
    | with_reducible refine State.commit_good ?_
    | with_reducible refine State.serveCfg_good ?_ (fun _ _ _ => ?_)
    | with_reducible refine good_ite ?_ ?_
    | simp only [good_mk_eq, List.length_map, List.length_set]
    | split

theorem State.sendReady_good {f : FlipSt} (hgood : Good O Q s) : Good O Q (State.sendReady s f) := by
  unfold State.sendReady
  try dsimp only
  repeat' first
    | with_reducible assumption
    | with_reducible refine State.sendOn_good ?_
    | with_reducible refine good_ite ?_ ?_
    | simp only [good_mk_eq, List.length_map, List.length_set]
    | split

theorem State.sealStored_good (hgood : Good O Q s) : Good O Q (State.sealStored s) := by
  unfold State.sealStored
  try dsimp only
  repeat' first
    | with_reducible assumption
    | with_reducible refine State.launchFlip_good ?_
    | with_reducible refine State.sendReady_good ?_
    | with_reducible refine good_ite ?_ ?_
    | simp only [good_mk_eq, List.length_map, List.length_set]
    | split

theorem execAlibiStoreWrite_good (hgood : Good O Q s) : OutGood O Q (execAlibiStoreWrite s) := by
  unfold execAlibiStoreWrite
  try dsimp only
  repeat' first
    | with_reducible assumption
    | with_reducible refine outGood_next ?_
    | with_reducible refine outGood_ite ?_ ?_
    | with_reducible refine State.flashBegin_good ?_
    | with_reducible refine State.sealStored_good ?_
    | with_reducible refine good_ite ?_ ?_
    | simp only [good_mk_eq, List.length_map, List.length_set]
    | split

theorem execCfgStoreDone_good {ok : Bool} (hgood : Good O Q s) : OutGood O Q (execCfgStoreDone ok s) := by
  unfold execCfgStoreDone
  try dsimp only
  repeat' first
    | with_reducible assumption
    | with_reducible refine outGood_next ?_
    | with_reducible refine outGood_ite ?_ ?_
    | with_reducible refine State.raiseBare_good ?_
    | with_reducible refine State.refuserNote_good ?_
    | with_reducible refine good_ite ?_ ?_
    | simp only [good_mk_eq, List.length_map, List.length_set]
    | split

theorem State.stageData_good (hgood : Good O Q s) : Good O Q (State.stageData s) := by
  unfold State.stageData
  try dsimp only
  repeat' first
    | with_reducible assumption
    | with_reducible refine State.sealWrite_good ?_
    | with_reducible refine State.sendReady_good ?_
    | with_reducible refine good_foldl _ (fun _ _ _ => ?_) ?_
    | with_reducible refine good_ite ?_ ?_
    | simp only [good_mk_eq, List.length_map, List.length_set]
    | split

theorem execCfgData_good {records : List W32} {last : Bool} (hgood : Good O Q s) : OutGood O Q (execCfgData records last s) := by
  unfold execCfgData
  try dsimp only
  repeat' first
    | with_reducible assumption
    | with_reducible refine outGood_next ?_
    | with_reducible refine outGood_ite ?_ ?_
    | with_reducible refine State.rxAccept_good ?_
    | with_reducible refine State.stageData_good ?_
    | with_reducible refine good_ite ?_ ?_
    | simp only [good_mk_eq, List.length_map, List.length_set]
    | split

theorem State.choose_good {own : Bool} (hgood : Good O Q s) : Good O Q (State.choose s own) := by
  unfold State.choose
  try dsimp only
  repeat' first
    | with_reducible assumption
    | with_reducible refine State.armPair_good ?_
    | with_reducible refine good_ite ?_ ?_
    | simp only [good_mk_eq, List.length_map, List.length_set]
    | split

theorem execCfgCtrlReady_good {crc : W32} (hgood : Good O Q s) : OutGood O Q (execCfgCtrlReady crc s) := by
  unfold execCfgCtrlReady
  try dsimp only
  repeat' first
    | with_reducible assumption
    | with_reducible refine outGood_next ?_
    | with_reducible refine outGood_ite ?_ ?_
    | with_reducible refine State.choose_good ?_
    | with_reducible refine State.rxAccept_good ?_
    | with_reducible refine good_ite ?_ ?_
    | simp only [good_mk_eq, List.length_map, List.length_set]
    | split

theorem execCfgCtrlArm_good {frame : Nat} (hgood : Good O Q s) : OutGood O Q (execCfgCtrlArm frame s) := by
  unfold execCfgCtrlArm
  try dsimp only
  repeat' first
    | with_reducible assumption
    | with_reducible refine outGood_next ?_
    | with_reducible refine outGood_ite ?_ ?_
    | with_reducible refine State.armFlip_good ?_
    | with_reducible refine State.rxAccept_good ?_
    | with_reducible refine good_ite ?_ ?_
    | simp only [good_mk_eq, List.length_map, List.length_set]
    | split

theorem execCfgReadyTimeout_good (hgood : Good O Q s) : OutGood O Q (execCfgReadyTimeout s) := by
  unfold execCfgReadyTimeout
  try dsimp only
  repeat' first
    | with_reducible assumption
    | with_reducible refine outGood_next ?_
    | with_reducible refine outGood_ite ?_ ?_
    | with_reducible refine State.armFlip_good ?_
    | with_reducible refine State.armPair_good ?_
    | with_reducible refine State.reachUp_good ?_
    | with_reducible refine good_ite ?_ ?_
    | simp only [good_mk_eq, List.length_map, List.length_set]
    | split

theorem State.hivePut_good {g : Nat} {f : FrameSt} {rs : List (Nat × Int × Marks)} (hgood : Good O Q s) : Good O Q (State.hivePut s g f rs) := by
  unfold State.hivePut
  try dsimp only
  repeat' first
    | with_reducible assumption
    | with_reducible refine State.memWrite_good ?_
    | with_reducible refine good_ite ?_ ?_
    | simp only [good_mk_eq, List.length_map, List.length_set]
    | split

theorem chainAll_good {k : Nat} {rs : List (Nat × Int × Marks)} (hgood : Good O Q s) : Good O Q (chainAll s k rs).1 := by
  refine good_foldl_fst _ ?_ hgood
  intro x t h
  exact State.chainRun_good h

theorem State.mainsFrame_good {t : Tq} {rs : List (Nat × Int × Marks)} (hgood : Good O Q s) : Good O Q (State.mainsFrame s t rs) := by
  unfold State.mainsFrame
  try dsimp only
  repeat' first
    | with_reducible assumption
    | with_reducible refine State.mainsResult_good ?_
    | with_reducible refine good_ite ?_ ?_
    | simp only [good_mk_eq, List.length_map, List.length_set]
    | split

theorem State.statsFrame_good {t : Nat} {epoch : BitVec 16} {outs : List (Nat × Nat × Int × Marks)} (hgood : Good O Q s) : Good O Q (State.statsFrame s t epoch outs) := by
  unfold State.statsFrame
  try dsimp only
  repeat' first
    | with_reducible assumption
    | with_reducible refine State.statOutput_good ?_
    | with_reducible refine State.each_good ?_ (fun _ _ _ => ?_)
    | with_reducible refine good_ite ?_ ?_
    | simp only [good_mk_eq, List.length_map, List.length_set]
    | split

theorem State.streamsFrame_good {g : Nat} {f : FrameSt} {outs : List (Nat × Nat × Int × Marks)} (hgood : Good O Q s) : Good O Q (State.streamsFrame s g f outs) := by
  unfold State.streamsFrame
  try dsimp only
  repeat' first
    | with_reducible assumption
    | with_reducible refine State.appendFrame_good ?_
    | with_reducible refine State.each_good ?_ (fun _ _ _ => ?_)
    | with_reducible refine good_ite ?_ ?_
    | simp only [good_mk_eq, List.length_map, List.length_set]
    | split

theorem State.digestFrame_good {g : Nat} {f : FrameSt} (hgood : Good O Q s) : Good O Q (State.digestFrame s g f) := by
  unfold State.digestFrame
  try dsimp only
  repeat' first
    | with_reducible assumption
    | with_reducible refine State.digestOwn_good ?_
    | with_reducible refine State.sendOn_good ?_
    | with_reducible refine State.useInj_good ?_
    | with_reducible refine State.each_good ?_ (fun _ _ _ => ?_)
    | with_reducible refine good_ite ?_ ?_
    | simp only [good_mk_eq, List.length_map, List.length_set]
    | split

theorem State.frameDeliver_good {g : Nat} {f : FrameSt} {rs : List (Nat × Int × Marks)} (hgood : Good O Q s) : Good O Q (State.frameDeliver s g f rs) := by
  unfold State.frameDeliver
  try dsimp only
  repeat' first
    | with_reducible assumption
    | with_reducible refine State.condFrame_good ?_
    | with_reducible refine State.digestFrame_good ?_
    | with_reducible refine State.mainsFrame_good ?_
    | with_reducible refine State.statsFrame_good ?_
    | with_reducible refine State.streamsFrame_good ?_
    | with_reducible refine State.trigFrame_good ?_
    | with_reducible refine State.vaultFrame_good ?_
    | with_reducible refine chainAll_good ?_
    | with_reducible refine good_ite ?_ ?_
    | simp only [good_mk_eq, List.length_map, List.length_set]
    | split

theorem State.frameReady_good {n : Nat} {f : FrameSt} (hgood : Good O Q s) : Good O Q (State.frameReady s n f) := by
  unfold State.frameReady
  try dsimp only
  repeat' first
    | with_reducible assumption
    | with_reducible refine State.closeStreams_good ?_
    | with_reducible refine State.copyJobs_good ?_
    | with_reducible refine State.finishScan_good ?_
    | with_reducible refine State.flipBoundary_good ?_
    | with_reducible refine State.followCuts_good ?_
    | with_reducible refine State.frameDeliver_good ?_
    | with_reducible refine State.groupAnew_good ?_
    | with_reducible refine State.hiveFit_good ?_
    | with_reducible refine State.hivePut_good ?_
    | with_reducible refine State.loseDeferred_good ?_
    | with_reducible refine State.mainsBoundary_good ?_
    | with_reducible refine State.reversal_good ?_
    | with_reducible refine State.updGrp_good ?_
    | with_reducible refine State.doIf_good ?_ ?_
    | with_reducible refine State.each_good ?_ (fun _ _ _ => ?_)
    | with_reducible refine good_ite ?_ ?_
    | simp only [good_mk_eq, List.length_map, List.length_set]
    | split

theorem execFrameReady_good {g : Group} (hgood : Good O Q s) : OutGood O Q (execFrameReady g s) := by
  unfold execFrameReady
  try dsimp only
  repeat' first
    | with_reducible assumption
    | with_reducible refine outGood_next ?_
    | with_reducible refine outGood_ite ?_ ?_
    | with_reducible refine State.frameReady_good ?_
    | with_reducible refine State.reachUp_good ?_
    | with_reducible refine State.oneCycle_good ?_ (fun _ _ => ?_)
    | with_reducible refine good_ite ?_ ?_
    | simp only [good_mk_eq, List.length_map, List.length_set]
    | split

end Sys2Proof.Machine
end

