-- ==== Sys2Proof/Laws/GoodSystem.lean ====
section
/-! SUPPORT. The invariant of Safety.lean, operation by operation (Reset, Power, Flash, Startup, Errors, Inject, Flags, Registers, Sideband). -/

namespace Sys2Proof.Machine

open Sys2Proof

set_option linter.unusedSimpArgs false
set_option Elab.async false
set_option linter.unusedVariables false
set_option linter.unusedTactic false
set_option linter.unreachableTactic false

variable {O : OtpSt} {Q : List Instr} {s : State}

theorem State.porState_good (hgood : Good O Q s) : Good O Q s.porState := by
  have h : Good O Q (s.unstage true) := State.unstage_good hgood
  unfold State.porState
  dsimp only
  constructor <;> first | exact h.otp | exact h.pending | exact h.mem | exact Nat.zero_le _ | rfl

theorem State.warmState_good {src : ResetSource} (hgood : Good O Q s) : Good O Q (s.warmState src) := by
  have h : Good O Q ((s.unstage true).interruptWeighing [0, 1, 2, 3]) := State.interruptWeighing_good (State.unstage_good hgood)
  unfold State.warmState State.warmRegs
  dsimp only
  generalize (s.unstage true).interruptWeighing [0, 1, 2, 3] = t at h
  exact ⟨h.otp, h.pending, Cells.set_wf (Cells.filter_wf h.regs), rfl, rfl, rfl, rfl, rfl, rfl, rfl, rfl, rfl, rfl, rfl, rfl, rfl, rfl, rfl, rfl, rfl, rfl, rfl, rfl,
    h.mem, h.log, h.trace, rfl⟩

theorem execPor_good (hgood : Good O Q s) : OutGood O Q (execPor s) := by
  unfold execPor
  try dsimp only
  repeat' first
    | with_reducible assumption
    | with_reducible refine outGood_next ?_
    | with_reducible refine outGood_ite ?_ ?_
    | with_reducible refine State.porState_good ?_
    | with_reducible refine good_ite ?_ ?_
    | simp only [good_mk_eq, List.length_map, List.length_set]
    | split

theorem State.warmTake_good {src : ResetSource} (hgood : Good O Q s) : Good O Q (State.warmTake s src) := by
  unfold State.warmTake
  try dsimp only
  repeat' first
    | with_reducible assumption
    | with_reducible refine State.leaveDoze_good ?_
    | with_reducible refine State.powerMode_good ?_
    | with_reducible refine State.warmState_good ?_
    | with_reducible refine good_ite ?_ ?_
    | simp only [good_mk_eq, List.length_map, List.length_set]
    | split

theorem execWarm_good {src : ResetSource} (hgood : Good O Q s) : OutGood O Q (execWarm src s) := by
  unfold execWarm
  try dsimp only
  repeat' first
    | with_reducible assumption
    | with_reducible refine outGood_next ?_
    | with_reducible refine outGood_ite ?_ ?_
    | with_reducible refine State.warmTake_good ?_
    | with_reducible refine good_ite ?_ ?_
    | simp only [good_mk_eq, List.length_map, List.length_set]
    | split

theorem execHubCtrl_good {v : W32} {path : Path} (hgood : Good O Q s) : OutGood O Q (execHubCtrl v path s) := by
  unfold execHubCtrl
  try dsimp only
  repeat' first
    | with_reducible assumption
    | with_reducible refine outGood_next ?_
    | with_reducible refine outGood_ite ?_ ?_
    | with_reducible refine State.warmTake_good ?_
    | with_reducible refine good_ite ?_ ?_
    | simp only [good_mk_eq, List.length_map, List.length_set]
    | split

theorem State.dozeTurn_good (hgood : Good O Q s) : Good O Q (State.dozeTurn s) := by
  unfold State.dozeTurn
  try dsimp only
  repeat' first
    | with_reducible assumption
    | with_reducible refine State.dozeOnset_good ?_
    | with_reducible refine State.leaveDoze_good ?_
    | with_reducible refine State.powerMode_good ?_
    | with_reducible refine State.traceMark_good ?_
    | with_reducible refine good_ite ?_ ?_
    | simp only [good_mk_eq, List.length_map, List.length_set]
    | split

theorem execBurstEnd_good (hgood : Good O Q s) : OutGood O Q (execBurstEnd s) := by
  unfold execBurstEnd
  try dsimp only
  repeat' first
    | with_reducible assumption
    | with_reducible refine outGood_next ?_
    | with_reducible refine outGood_ite ?_ ?_
    | with_reducible refine State.dozeOnset_good ?_
    | with_reducible refine State.dozeTurn_good ?_
    | with_reducible refine good_ite ?_ ?_
    | simp only [good_mk_eq, List.length_map, List.length_set]
    | split

theorem execPllRestart_good (hgood : Good O Q s) : OutGood O Q (execPllRestart s) := by
  unfold execPllRestart
  try dsimp only
  repeat' first
    | with_reducible assumption
    | with_reducible refine outGood_next ?_
    | with_reducible refine outGood_ite ?_ ?_
    | with_reducible refine State.pllRun_good ?_
    | with_reducible refine State.reach_good ?_
    | with_reducible refine good_ite ?_ ?_
    | simp only [good_mk_eq, List.length_map, List.length_set]
    | split

theorem State.hibRequest_good (hgood : Good O Q s) : Good O Q (State.hibRequest s) := by
  unfold State.hibRequest
  try dsimp only
  repeat' first
    | with_reducible assumption
    | with_reducible refine State.countRefusals_good ?_
    | with_reducible refine State.leaveDoze_good ?_
    | with_reducible refine State.powerMode_good ?_
    | with_reducible refine State.stopGroup_good ?_
    | with_reducible refine State.each_good ?_ (fun _ _ _ => ?_)
    | with_reducible refine good_ite ?_ ?_
    | simp only [good_mk_eq, List.length_map, List.length_set]
    | split

theorem State.hibAsk_good {path : Path} (hgood : Good O Q s) : Good O Q (State.hibAsk s path) := by
  unfold State.hibAsk
  try dsimp only
  repeat' first
    | with_reducible assumption
    | with_reducible refine State.hibRequest_good ?_
    | with_reducible refine good_ite ?_ ?_
    | simp only [good_mk_eq, List.length_map, List.length_set]
    | split

theorem execHibernate_good {path : Path} (hgood : Good O Q s) : OutGood O Q (execHibernate path s) := by
  unfold execHibernate
  try dsimp only
  repeat' first
    | with_reducible assumption
    | with_reducible refine outGood_next ?_
    | with_reducible refine outGood_ite ?_ ?_
    | with_reducible refine State.hibAsk_good ?_
    | with_reducible refine good_ite ?_ ?_
    | simp only [good_mk_eq, List.length_map, List.length_set]
    | split

theorem State.hibAbort_good (hgood : Good O Q s) : Good O Q (State.hibAbort s) := by
  unfold State.hibAbort
  try dsimp only
  repeat' first
    | with_reducible assumption
    | with_reducible refine State.powerMode_good ?_
    | with_reducible refine State.setBit_good ?_
    | with_reducible refine State.startGroup_good ?_
    | with_reducible refine State.each_good ?_ (fun _ _ _ => ?_)
    | with_reducible refine good_ite ?_ ?_
    | simp only [good_mk_eq, List.length_map, List.length_set]
    | split

theorem State.hibCommit_good (hgood : Good O Q s) : Good O Q s.hibCommit := by
  unfold State.hibCommit
  exact { State.traceMark_good (State.reachUp_good hgood) with link := rfl }

theorem State.hibRefused_good (hgood : Good O Q s) : Good O Q (State.hibRefused s) := by
  unfold State.hibRefused
  try dsimp only
  repeat' first
    | with_reducible assumption
    | with_reducible refine State.bump_good ?_
    | with_reducible refine State.hibAbort_good ?_
    | with_reducible refine State.each_good ?_ (fun _ _ _ => ?_)
    | with_reducible refine good_ite ?_ ?_
    | simp only [good_mk_eq, List.length_map, List.length_set]
    | split

theorem State.hibWatch_good (hgood : Good O Q s) : Good O Q (State.hibWatch s) := by
  unfold State.hibWatch
  try dsimp only
  repeat' first
    | with_reducible assumption
    | with_reducible refine State.hibCommit_good ?_
    | with_reducible refine State.hibRefused_good ?_
    | with_reducible refine good_ite ?_ ?_
    | simp only [good_mk_eq, List.length_map, List.length_set]
    | split

theorem State.wakeUp_good {bits : W32} (hgood : Good O Q s) : Good O Q (State.wakeUp s bits) := by
  unfold State.wakeUp
  try dsimp only
  repeat' first
    | with_reducible assumption
    | with_reducible refine State.quietMode_good ?_
    | with_reducible refine good_ite ?_ ?_
    | simp only [good_mk_eq, List.length_map, List.length_set]
    | split

theorem State.wakeFire_good {bits : W32} (hgood : Good O Q s) : Good O Q (State.wakeFire s bits) := by
  unfold State.wakeFire
  try dsimp only
  repeat' first
    | with_reducible assumption
    | with_reducible refine State.bump_good ?_
    | with_reducible refine State.hibAbort_good ?_
    | with_reducible refine State.hibWatch_good ?_
    | with_reducible refine State.wakeUp_good ?_
    | with_reducible refine good_ite ?_ ?_
    | simp only [good_mk_eq, List.length_map, List.length_set]
    | split

theorem State.hibEnter_good (hgood : Good O Q s) : Good O Q (State.hibEnter s) := by
  unfold State.hibEnter
  try dsimp only
  repeat' first
    | with_reducible assumption
    | with_reducible refine State.audit_good ?_
    | with_reducible refine State.bump_good ?_
    | with_reducible refine State.quietMode_good ?_
    | with_reducible refine State.setReg_good ?_
    | with_reducible refine State.vaultRegsReset_good ?_
    | with_reducible refine State.wakeUp_good ?_
    | with_reducible refine State.warmState_good ?_
    | with_reducible refine good_ite ?_ ?_
    | simp only [good_mk_eq, List.length_map, List.length_set]
    | split

theorem execHibEntryDone_good (hgood : Good O Q s) : OutGood O Q (execHibEntryDone s) := by
  unfold execHibEntryDone
  try dsimp only
  repeat' first
    | with_reducible assumption
    | with_reducible refine outGood_next ?_
    | with_reducible refine outGood_ite ?_ ?_
    | with_reducible refine State.hibCommit_good ?_
    | with_reducible refine State.hibEnter_good ?_
    | with_reducible refine State.hibRefused_good ?_
    | with_reducible refine good_ite ?_ ?_
    | simp only [good_mk_eq, List.length_map, List.length_set]
    | split

theorem State.hibSupply_good (hgood : Good O Q s) : Good O Q (State.hibSupply s) := by
  unfold State.hibSupply
  try dsimp only
  repeat' first
    | with_reducible assumption
    | with_reducible refine State.quietMode_good ?_
    | with_reducible refine State.setBit_good ?_
    | with_reducible refine good_ite ?_ ?_
    | simp only [good_mk_eq, List.length_map, List.length_set]
    | split

theorem execHibSupplyTimeout_good (hgood : Good O Q s) : OutGood O Q (execHibSupplyTimeout s) := by
  unfold execHibSupplyTimeout
  try dsimp only
  repeat' first
    | with_reducible assumption
    | with_reducible refine outGood_next ?_
    | with_reducible refine outGood_ite ?_ ?_
    | with_reducible refine State.hibSupply_good ?_
    | with_reducible refine good_ite ?_ ?_
    | simp only [good_mk_eq, List.length_map, List.length_set]
    | split

theorem execWake_good (hgood : Good O Q s) : OutGood O Q (execWake s) := by
  unfold execWake
  try dsimp only
  repeat' first
    | with_reducible assumption
    | with_reducible refine outGood_next ?_
    | with_reducible refine outGood_ite ?_ ?_
    | with_reducible refine State.wakeFire_good ?_
    | with_reducible refine good_ite ?_ ?_
    | simp only [good_mk_eq, List.length_map, List.length_set]
    | split

theorem execWakeTimer_good (hgood : Good O Q s) : OutGood O Q (execWakeTimer s) := by
  unfold execWakeTimer
  try dsimp only
  repeat' first
    | with_reducible assumption
    | with_reducible refine outGood_next ?_
    | with_reducible refine outGood_ite ?_ ?_
    | with_reducible refine State.reachCricket_good ?_
    | with_reducible refine State.wakeFire_good ?_
    | with_reducible refine good_ite ?_ ?_
    | simp only [good_mk_eq, List.length_map, List.length_set]
    | split

theorem execWakeGpio_good {e : WakeEdge} (hgood : Good O Q s) : OutGood O Q (execWakeGpio e s) := by
  unfold execWakeGpio
  try dsimp only
  repeat' first
    | with_reducible assumption
    | with_reducible refine outGood_next ?_
    | with_reducible refine outGood_ite ?_ ?_
    | with_reducible refine State.wakeFire_good ?_
    | with_reducible refine good_ite ?_ ?_
    | simp only [good_mk_eq, List.length_map, List.length_set]
    | split

theorem execPerstDeassert_good (hgood : Good O Q s) : OutGood O Q (execPerstDeassert s) := by
  unfold execPerstDeassert
  try dsimp only
  repeat' first
    | with_reducible assumption
    | with_reducible refine outGood_next ?_
    | with_reducible refine outGood_ite ?_ ?_
    | with_reducible refine State.wakeFire_good ?_
    | with_reducible refine good_ite ?_ ?_
    | simp only [good_mk_eq, List.length_map, List.length_set]
    | split

theorem execChirpRecognised_good {c : ClockSamples} (hgood : Good O Q s) : OutGood O Q (execChirpRecognised c s) := by
  unfold execChirpRecognised
  try dsimp only
  repeat' first
    | with_reducible assumption
    | with_reducible refine outGood_next ?_
    | with_reducible refine outGood_ite ?_ ?_
    | with_reducible refine State.linkDetect_good ?_
    | with_reducible refine State.setBit_good ?_
    | with_reducible refine State.wakeFire_good ?_
    | with_reducible refine good_ite ?_ ?_
    | simp only [good_mk_eq, List.length_map, List.length_set]
    | split

theorem execRefclkLoss_good (hgood : Good O Q s) : OutGood O Q (execRefclkLoss s) := by
  unfold execRefclkLoss
  try dsimp only
  repeat' first
    | with_reducible assumption
    | with_reducible refine outGood_next ?_
    | with_reducible refine outGood_ite ?_ ?_
    | with_reducible refine State.setBit_good ?_
    | with_reducible refine good_ite ?_ ?_
    | simp only [good_mk_eq, List.length_map, List.length_set]
    | split

theorem execPllUnlock_good {converter : Bool} (hgood : Good O Q s) : OutGood O Q (execPllUnlock converter s) := by
  unfold execPllUnlock
  try dsimp only
  repeat' first
    | with_reducible assumption
    | with_reducible refine outGood_next ?_
    | with_reducible refine outGood_ite ?_ ?_
    | with_reducible refine State.setBit_good ?_
    | with_reducible refine good_ite ?_ ?_
    | simp only [good_mk_eq, List.length_map, List.length_set]
    | split

theorem flashWrites_good {n : Nat} : ∀ {fresh : Bool} {offset : Nat} {bs : List Byte} {s : State}, Good O Q s → Good O Q (flashWrites n fresh offset bs s) := by
  induction n with
  | zero => intro fresh offset bs s h; exact h
  | succ n ih =>
    intro fresh offset bs s h
    cases bs with
    | nil => exact h
    | cons b bs =>
      unfold flashWrites
      dsimp only
      refine good_ite h (good_ite (ih (State.bump_good h)) (ih ?_))
      exact good_mk h rfl rfl rfl rfl

theorem execFlashProgram_good {offset : Nat} {data : List Byte} (hgood : Good O Q s) : OutGood O Q (execFlashProgram offset data s) := by
  unfold execFlashProgram
  try dsimp only
  repeat' first
    | with_reducible assumption
    | with_reducible refine outGood_next ?_
    | with_reducible refine outGood_ite ?_ ?_
    | with_reducible refine State.flashBegin_good ?_
    | with_reducible refine flashWrites_good ?_
    | with_reducible refine good_ite ?_ ?_
    | simp only [good_mk_eq, List.length_map, List.length_set]
    | split

theorem State.progFail_good (hgood : Good O Q s) : Good O Q (State.progFail s) := by
  unfold State.progFail
  try dsimp only
  repeat' first
    | with_reducible assumption
    | with_reducible refine State.bump_good ?_
    | with_reducible refine State.raise_good ?_
    | with_reducible refine State.setBit_good ?_
    | with_reducible refine good_ite ?_ ?_
    | simp only [good_mk_eq, List.length_map, List.length_set]
    | split

theorem State.stageFail_good {second : Bool} (hgood : Good O Q s) : Good O Q (State.stageFail s second) := by
  unfold State.stageFail
  try dsimp only
  repeat' first
    | with_reducible assumption
    | with_reducible refine State.progFail_good ?_
    | with_reducible refine good_ite ?_ ?_
    | simp only [good_mk_eq, List.length_map, List.length_set]
    | split

theorem execFlashProgramDone_good {second : Bool} {ok : Bool} (hgood : Good O Q s) : OutGood O Q (execFlashProgramDone second ok s) := by
  unfold execFlashProgramDone
  try dsimp only
  repeat' first
    | with_reducible assumption
    | with_reducible refine outGood_next ?_
    | with_reducible refine outGood_ite ?_ ?_
    | with_reducible refine State.flashBegin_good ?_
    | with_reducible refine State.progFail_good ?_
    | with_reducible refine State.stageFail_good ?_
    | with_reducible refine good_ite ?_ ?_
    | simp only [good_mk_eq, List.length_map, List.length_set]
    | split

theorem execFlashEraseDone_good {second : Bool} {offset : Nat} {large : Bool} (hgood : Good O Q s) : OutGood O Q (execFlashEraseDone second offset large s) := by
  unfold execFlashEraseDone
  try dsimp only
  repeat' first
    | with_reducible assumption
    | with_reducible refine outGood_next ?_
    | with_reducible refine outGood_ite ?_ ?_
    | with_reducible refine good_ite ?_ ?_
    | simp only [good_mk_eq, List.length_map, List.length_set]
    | split

theorem State.stageLast_good {d : Desc} {total : Nat} (hgood : Good O Q s) : Good O Q (State.stageLast s d total) := by
  unfold State.stageLast
  try dsimp only
  repeat' first
    | with_reducible assumption
    | with_reducible refine State.refuserNote_good ?_
    | with_reducible refine State.retireBad_good ?_
    | with_reducible refine State.retireOk_good ?_
    | with_reducible refine good_ite ?_ ?_
    | simp only [good_mk_eq, List.length_map, List.length_set]
    | split

theorem State.stageLost_good {d : Desc} {last : Bool} (hgood : Good O Q s) : Good O Q (State.stageLost s d last) := by
  unfold State.stageLost
  try dsimp only
  repeat' first
    | with_reducible assumption
    | with_reducible refine State.refuserNote_good ?_
    | with_reducible refine State.retireBad_good ?_
    | with_reducible refine good_ite ?_ ?_
    | simp only [good_mk_eq, List.length_map, List.length_set]
    | split

theorem execFwStage_good {id : Nat} (hgood : Good O Q s) : OutGood O Q (execFwStage id s) := by
  unfold execFwStage
  try dsimp only
  repeat' first
    | with_reducible assumption
    | with_reducible refine outGood_next ?_
    | with_reducible refine outGood_ite ?_ ?_
    | with_reducible refine State.dmaFailed_good ?_
    | with_reducible refine State.refuserNote_good ?_
    | with_reducible refine State.retireBad_good ?_
    | with_reducible refine State.retireOk_good ?_
    | with_reducible refine State.stageLast_good ?_
    | with_reducible refine State.stageLost_good ?_
    | with_reducible refine State.take_good ?_
    | with_reducible refine State.serve_good ?_ (fun _ _ _ => ?_)
    | with_reducible refine good_ite ?_ ?_
    | simp only [good_mk_eq, List.length_map, List.length_set]
    | split

theorem State.engineStop_good (hgood : Good O Q s) : Good O Q (State.engineStop s) := by
  unfold State.engineStop
  try dsimp only
  repeat' first
    | with_reducible assumption
    | with_reducible refine State.unstage_good ?_
    | with_reducible refine good_ite ?_ ?_
    | simp only [good_mk_eq, List.length_map, List.length_set]
    | split

theorem State.enginePause_good (hgood : Good O Q s) : Good O Q (State.enginePause s) := by
  unfold State.enginePause
  try dsimp only
  repeat' first
    | with_reducible assumption
    | with_reducible refine State.engineStop_good ?_
    | with_reducible refine State.refuserNote_good ?_
    | with_reducible refine good_ite ?_ ?_
    | simp only [good_mk_eq, List.length_map, List.length_set]
    | split

theorem State.imageRuns_good (hgood : Good O Q s) : Good O Q (State.imageRuns s) := by
  unfold State.imageRuns
  try dsimp only
  repeat' first
    | with_reducible assumption
    | with_reducible refine State.setReg_good ?_
    | with_reducible refine good_ite ?_ ?_
    | simp only [good_mk_eq, List.length_map, List.length_set]
    | split

theorem State.vaultImage_good {v : W32 × W32 × List Byte} (hgood : Good O Q s) : Good O Q (State.vaultImage s v) := by
  unfold State.vaultImage
  try dsimp only
  repeat' first
    | with_reducible assumption
    | with_reducible refine State.countEvent_good ?_
    | with_reducible refine State.vaultRollback_good ?_
    | with_reducible refine State.vaultStart_good ?_
    | with_reducible refine State.vaultStop_good ?_
    | with_reducible refine good_ite ?_ ?_
    | simp only [good_mk_eq, List.length_map, List.length_set]
    | split

theorem State.fallBack_good (hgood : Good O Q s) : Good O Q (State.fallBack s) := by
  unfold State.fallBack
  try dsimp only
  repeat' first
    | with_reducible assumption
    | with_reducible refine State.enginePause_good ?_
    | with_reducible refine State.imageRuns_good ?_
    | with_reducible refine State.raise_good ?_
    | with_reducible refine State.refuserNote_good ?_
    | with_reducible refine State.setBit_good ?_
    | with_reducible refine State.vaultImage_good ?_
    | with_reducible refine good_ite ?_ ?_
    | simp only [good_mk_eq, List.length_map, List.length_set]
    | split

theorem State.engineRestart_good (hgood : Good O Q s) : Good O Q (State.engineRestart s) := by
  unfold State.engineRestart
  try dsimp only
  repeat' first
    | with_reducible assumption
    | with_reducible refine State.bump_good ?_
    | with_reducible refine State.engineStop_good ?_
    | with_reducible refine State.fallBack_good ?_
    | with_reducible refine State.raise_good ?_
    | with_reducible refine State.oneCycle_good ?_ (fun _ _ => ?_)
    | with_reducible refine good_ite ?_ ?_
    | simp only [good_mk_eq, List.length_map, List.length_set]
    | split

theorem execEngineWatchdog_good (hgood : Good O Q s) : OutGood O Q (execEngineWatchdog s) := by
  unfold execEngineWatchdog
  try dsimp only
  repeat' first
    | with_reducible assumption
    | with_reducible refine outGood_next ?_
    | with_reducible refine outGood_ite ?_ ?_
    | with_reducible refine State.engineRestart_good ?_
    | with_reducible refine good_ite ?_ ?_
    | simp only [good_mk_eq, List.length_map, List.length_set]
    | split

theorem State.mainsReturn_good (hgood : Good O Q s) : Good O Q (State.mainsReturn s) := by
  unfold State.mainsReturn
  try dsimp only
  repeat' first
    | with_reducible assumption
    | with_reducible refine State.clrBit_good ?_
    | with_reducible refine State.mainsMode_good ?_
    | with_reducible refine good_ite ?_ ?_
    | simp only [good_mk_eq, List.length_map, List.length_set]
    | split

theorem State.activated_good {pause : Nat} (hgood : Good O Q s) : Good O Q (State.activated s pause) := by
  unfold State.activated
  try dsimp only
  repeat' first
    | with_reducible assumption
    | with_reducible refine State.retireOk_good ?_
    | with_reducible refine State.each_good ?_ (fun _ _ _ => ?_)
    | with_reducible refine good_ite ?_ ?_
    | simp only [good_mk_eq, List.length_map, List.length_set]
    | split

theorem State.selfTest_good (hgood : Good O Q s) : Good O Q (State.selfTest s) := by
  unfold State.selfTest
  try dsimp only
  repeat' first
    | with_reducible assumption
    | with_reducible refine State.freeNext_good ?_
    | with_reducible refine good_ite ?_ ?_
    | simp only [good_mk_eq, List.length_map, List.length_set]
    | split

theorem execEngineReturn_good (hgood : Good O Q s) : OutGood O Q (execEngineReturn s) := by
  unfold execEngineReturn
  try dsimp only
  repeat' first
    | with_reducible assumption
    | with_reducible refine outGood_next ?_
    | with_reducible refine outGood_ite ?_ ?_
    | with_reducible refine State.activated_good ?_
    | with_reducible refine State.endHandling_good ?_
    | with_reducible refine State.mainsReturn_good ?_
    | with_reducible refine State.reachUp_good ?_
    | with_reducible refine State.refuserNote_good ?_
    | with_reducible refine State.selfTest_good ?_
    | with_reducible refine State.setReg_good ?_
    | with_reducible refine State.traceEngine_good ?_
    | with_reducible refine good_ite ?_ ?_
    | simp only [good_mk_eq, List.length_map, List.length_set]
    | split

theorem execFwActivate_good {id : Nat} (hgood : Good O Q s) : OutGood O Q (execFwActivate id s) := by
  unfold execFwActivate
  try dsimp only
  repeat' first
    | with_reducible assumption
    | with_reducible refine outGood_next ?_
    | with_reducible refine outGood_ite ?_ ?_
    | with_reducible refine State.enginePause_good ?_
    | with_reducible refine State.imageRuns_good ?_
    | with_reducible refine State.retireBad_good ?_
    | with_reducible refine State.take_good ?_
    | with_reducible refine State.vaultImage_good ?_
    | with_reducible refine State.serve_good ?_ (fun _ _ _ => ?_)
    | with_reducible refine good_ite ?_ ?_
    | simp only [good_mk_eq, List.length_map, List.length_set]
    | split

theorem State.migrate_good (hgood : Good O Q s) : Good O Q (State.migrate s) := by
  unfold State.migrate
  try dsimp only
  repeat' first
    | with_reducible assumption
    | with_reducible refine State.setBit_good ?_
    | with_reducible refine State.doIf_good ?_ ?_
    | with_reducible refine good_ite ?_ ?_
    | simp only [good_mk_eq, List.length_map, List.length_set]
    | split

theorem State.confirmTrial_good (hgood : Good O Q s) : Good O Q (State.confirmTrial s) := by
  unfold State.confirmTrial
  try dsimp only
  repeat' first
    | with_reducible assumption
    | with_reducible refine State.migrate_good ?_
    | with_reducible refine State.refuserNote_good ?_
    | with_reducible refine good_ite ?_ ?_
    | simp only [good_mk_eq, List.length_map, List.length_set]
    | split

theorem execFwConfirm_good {id : Nat} (hgood : Good O Q s) : OutGood O Q (execFwConfirm id s) := by
  unfold execFwConfirm
  try dsimp only
  repeat' first
    | with_reducible assumption
    | with_reducible refine outGood_next ?_
    | with_reducible refine outGood_ite ?_ ?_
    | with_reducible refine State.confirmTrial_good ?_
    | with_reducible refine State.retireBad_good ?_
    | with_reducible refine State.retireOk_good ?_
    | with_reducible refine State.serve_good ?_ (fun _ _ _ => ?_)
    | with_reducible refine good_ite ?_ ?_
    | simp only [good_mk_eq, List.length_map, List.length_set]
    | split

theorem execFwAutoConfirm_good (hgood : Good O Q s) : OutGood O Q (execFwAutoConfirm s) := by
  unfold execFwAutoConfirm
  try dsimp only
  repeat' first
    | with_reducible assumption
    | with_reducible refine outGood_next ?_
    | with_reducible refine outGood_ite ?_ ?_
    | with_reducible refine State.confirmTrial_good ?_
    | with_reducible refine State.reachUp_good ?_
    | with_reducible refine State.selfTest_good ?_
    | with_reducible refine good_ite ?_ ?_
    | simp only [good_mk_eq, List.length_map, List.length_set]
    | split

theorem execFwConfirmLimit_good (hgood : Good O Q s) : OutGood O Q (execFwConfirmLimit s) := by
  unfold execFwConfirmLimit
  try dsimp only
  repeat' first
    | with_reducible assumption
    | with_reducible refine outGood_next ?_
    | with_reducible refine outGood_ite ?_ ?_
    | with_reducible refine State.fallBack_good ?_
    | with_reducible refine State.reachUp_good ?_
    | with_reducible refine good_ite ?_ ?_
    | simp only [good_mk_eq, List.length_map, List.length_set]
    | split

theorem execTracePop_good {v : W32} (hgood : Good O Q s) : OutGood O Q (execTracePop v s) := by
  unfold execTracePop
  split
  · refine outGood_next (good_trace hgood ?_)
    have := hgood.trace
    simp only [List.length_drop]
    omega
  · exact outGood_next hgood

theorem State.stageAt_good {n : Nat} (hgood : Good O Q s) : Good O Q (State.stageAt s n) := by
  unfold State.stageAt
  try dsimp only
  repeat' first
    | with_reducible assumption
    | with_reducible refine good_ite ?_ ?_
    | simp only [good_mk_eq, List.length_map, List.length_set]
    | split

theorem State.stepTook_good {us : Nat} (hgood : Good O Q s) : Good O Q (State.stepTook s us) := by
  unfold State.stepTook
  try dsimp only
  repeat' first
    | with_reducible assumption
    | with_reducible refine State.reachUp_good ?_
    | with_reducible refine good_ite ?_ ?_
    | simp only [good_mk_eq, List.length_map, List.length_set]
    | split

theorem State.cricketEnds_good (hgood : Good O Q s) : Good O Q (State.cricketEnds s) := by
  unfold State.cricketEnds
  try dsimp only
  repeat' first
    | with_reducible assumption
    | with_reducible refine State.warmTake_good ?_
    | with_reducible refine good_ite ?_ ?_
    | simp only [good_mk_eq, List.length_map, List.length_set]
    | split

theorem State.clocksEnd_good (hgood : Good O Q s) : Good O Q (State.clocksEnd s) := by
  unfold State.clocksEnd
  try dsimp only
  repeat' first
    | with_reducible assumption
    | with_reducible refine State.pllRun_good ?_
    | with_reducible refine State.raise_good ?_
    | with_reducible refine State.stageAt_good ?_
    | with_reducible refine State.each_good ?_ (fun _ _ _ => ?_)
    | with_reducible refine good_ite ?_ ?_
    | simp only [good_mk_eq, List.length_map, List.length_set]
    | split

theorem State.otpEnds_good (hgood : Good O Q s) : Good O Q (State.otpEnds s) := by
  unfold State.otpEnds
  try dsimp only
  repeat' first
    | with_reducible assumption
    | with_reducible refine State.setBitRaise_good ?_
    | with_reducible refine State.setBit_good ?_
    | with_reducible refine State.stageAt_good ?_
    | with_reducible refine State.doIf_good ?_ ?_
    | with_reducible refine good_ite ?_ ?_
    | simp only [good_mk_eq, List.length_map, List.length_set]
    | split

theorem State.readSfdp_good {a : SfdpReport} {b : SfdpReport} (hgood : Good O Q s) : Good O Q (State.readSfdp s a b) := by
  unfold State.readSfdp
  try dsimp only
  repeat' first
    | with_reducible assumption
    | with_reducible refine State.quadSet_good ?_
    | with_reducible refine State.raise_good ?_
    | with_reducible refine State.doIf_good ?_ ?_
    | with_reducible refine good_ite ?_ ?_
    | simp only [good_mk_eq, List.length_map, List.length_set]
    | split

theorem State.bootFallback_good (hgood : Good O Q s) : Good O Q (State.bootFallback s) := by
  unfold State.bootFallback
  try dsimp only
  repeat' first
    | with_reducible assumption
    | with_reducible refine State.auditEvent_good ?_
    | with_reducible refine State.raise_good ?_
    | with_reducible refine State.setBit_good ?_
    | with_reducible refine State.take_good ?_
    | with_reducible refine State.vaultImage_good ?_
    | with_reducible refine good_ite ?_ ?_
    | simp only [good_mk_eq, List.length_map, List.length_set]
    | split

theorem State.noFirmware_good (hgood : Good O Q s) : Good O Q (State.noFirmware s) := by
  unfold State.noFirmware
  try dsimp only
  repeat' first
    | with_reducible assumption
    | with_reducible refine State.setBitRaise_good ?_
    | with_reducible refine State.stageAt_good ?_
    | with_reducible refine good_ite ?_ ?_
    | simp only [good_mk_eq, List.length_map, List.length_set]
    | split

theorem bootFrom_good {ok : Bool → Bool} {bs : List Bool} : ∀ {s : State}, Good O Q s → Good O Q (bootFrom ok bs s) := by
  induction bs with
  | nil => intro s h; exact State.noFirmware_good h
  | cons b bs ih =>
    intro s h
    unfold bootFrom
    split
    · exact State.stageAt_good (good_mk h rfl rfl rfl rfl)
    · refine ih (State.doIf_good ?_ (State.setBit_good ?_)) <;> exact good_mk h rfl rfl rfl rfl

theorem State.firmwareEnds_good {rep : StepReport} (hgood : Good O Q s) : Good O Q (State.firmwareEnds s rep) := by
  unfold State.firmwareEnds
  try dsimp only
  repeat' first
    | with_reducible assumption
    | with_reducible refine State.bootFallback_good ?_
    | with_reducible refine State.readSfdp_good ?_
    | with_reducible refine State.setReg_good ?_
    | with_reducible refine bootFrom_good ?_
    | with_reducible refine good_ite ?_ ?_
    | simp only [good_mk_eq, List.length_map, List.length_set]
    | split

theorem State.engineStarts_good {vaultOk : Bool} (hgood : Good O Q s) : Good O Q (State.engineStarts s vaultOk) := by
  unfold State.engineStarts
  try dsimp only
  repeat' first
    | with_reducible assumption
    | with_reducible refine State.endHandling_good ?_
    | with_reducible refine State.imageRuns_good ?_
    | with_reducible refine State.reachUp_good ?_
    | with_reducible refine State.stageAt_good ?_
    | with_reducible refine State.vaultStart_good ?_
    | with_reducible refine State.doIf_good ?_ ?_
    | with_reducible refine good_ite ?_ ?_
    | simp only [good_mk_eq, List.length_map, List.length_set]
    | split

theorem State.startGroups_good (hgood : Good O Q s) : Good O Q (State.startGroups s) := by
  unfold State.startGroups
  try dsimp only
  repeat' first
    | with_reducible assumption
    | with_reducible refine State.startGroup_good ?_
    | with_reducible refine State.each_good ?_ (fun _ _ _ => ?_)
    | with_reducible refine good_ite ?_ ?_
    | simp only [good_mk_eq, List.length_map, List.length_set]
    | split

theorem State.mainsBoth_good (hgood : Good O Q s) : Good O Q (State.mainsBoth s) := by
  unfold State.mainsBoth
  try dsimp only
  repeat' first
    | with_reducible assumption
    | with_reducible refine State.mainsLoad_good ?_
    | with_reducible refine good_ite ?_ ?_
    | simp only [good_mk_eq, List.length_map, List.length_set]
    | split

theorem State.applyStored_good {bank : Bank} {profile : Nat} (hgood : Good O Q s) : Good O Q (State.applyStored s bank profile) := by
  unfold State.applyStored
  try dsimp only
  repeat' first
    | with_reducible assumption
    | with_reducible refine State.afterSwitch_good ?_
    | with_reducible refine State.bump_good ?_
    | with_reducible refine State.mainsBoth_good ?_
    | with_reducible refine State.setReg_good ?_
    | with_reducible refine State.startGroups_good ?_
    | with_reducible refine State.traceFree_good ?_
    | with_reducible refine good_ite ?_ ?_
    | simp only [good_mk_eq, List.length_map, List.length_set]
    | split

theorem State.loadStored_good (hgood : Good O Q s) : Good O Q (State.loadStored s) := by
  unfold State.loadStored
  try dsimp only
  repeat' first
    | with_reducible assumption
    | with_reducible refine State.applyStored_good ?_
    | with_reducible refine State.enterBad_good ?_
    | with_reducible refine State.startGroups_good ?_
    | with_reducible refine good_ite ?_ ?_
    | simp only [good_mk_eq, List.length_map, List.length_set]
    | split

theorem State.recoverySweep_good (hgood : Good O Q s) : Good O Q (State.recoverySweep s) := by
  unfold State.recoverySweep
  try dsimp only
  repeat' first
    | with_reducible assumption
    | with_reducible refine State.sweepBad_good ?_
    | with_reducible refine good_ite ?_ ?_
    | simp only [good_mk_eq, List.length_map, List.length_set]
    | split

theorem State.ready_good (hgood : Good O Q s) : Good O Q (State.ready s) := by
  unfold State.ready
  try dsimp only
  repeat' first
    | with_reducible assumption
    | with_reducible refine State.linkStart_good ?_
    | with_reducible refine State.powerMode_good ?_
    | with_reducible refine State.recoverySweep_good ?_
    | with_reducible refine State.setReg_good ?_
    | with_reducible refine State.setRole_good ?_
    | with_reducible refine State.traceMark_good ?_
    | with_reducible refine State.each_good ?_ (fun _ _ _ => ?_)
    | with_reducible refine good_ite ?_ ?_
    | simp only [good_mk_eq, List.length_map, List.length_set]
    | split

theorem State.configEnds_good (hgood : Good O Q s) : Good O Q (State.configEnds s) := by
  unfold State.configEnds
  try dsimp only
  repeat' first
    | with_reducible assumption
    | with_reducible refine State.loadStored_good ?_
    | with_reducible refine State.mainsBoth_good ?_
    | with_reducible refine State.mainsRestart_good ?_
    | with_reducible refine State.ready_good ?_
    | with_reducible refine good_ite ?_ ?_
    | simp only [good_mk_eq, List.length_map, List.length_set]
    | split

theorem execStartupStepEnd_good {rep : StepReport} (hgood : Good O Q s) : OutGood O Q (execStartupStepEnd rep s) := by
  unfold execStartupStepEnd
  try dsimp only
  repeat' first
    | with_reducible assumption
    | with_reducible refine outGood_next ?_
    | with_reducible refine outGood_ite ?_ ?_
    | with_reducible refine State.clocksEnd_good ?_
    | with_reducible refine State.configEnds_good ?_
    | with_reducible refine State.cricketEnds_good ?_
    | with_reducible refine State.engineStarts_good ?_
    | with_reducible refine State.firmwareEnds_good ?_
    | with_reducible refine State.otpEnds_good ?_
    | with_reducible refine State.owResult_good ?_
    | with_reducible refine State.stageAt_good ?_
    | with_reducible refine State.stepTook_good ?_
    | with_reducible refine good_ite ?_ ?_
    | simp only [good_mk_eq, List.length_map, List.length_set]
    | split

theorem State.supplyOff_good (hgood : Good O Q s) : Good O Q (State.supplyOff s) := by
  unfold State.supplyOff
  try dsimp only
  repeat' first
    | with_reducible assumption
    | with_reducible refine good_ite ?_ ?_
    | simp only [good_mk_eq, List.length_map, List.length_set]
    | split

theorem State.overrun_good (hgood : Good O Q s) : Good O Q (State.overrun s) := by
  unfold State.overrun
  try dsimp only
  repeat' first
    | with_reducible assumption
    | with_reducible refine State.raise_good ?_
    | with_reducible refine State.setBit_good ?_
    | with_reducible refine good_ite ?_ ?_
    | simp only [good_mk_eq, List.length_map, List.length_set]
    | split

theorem State.supplyLate_good (hgood : Good O Q s) : Good O Q (State.supplyLate s) := by
  unfold State.supplyLate
  try dsimp only
  repeat' first
    | with_reducible assumption
    | with_reducible refine State.hibSupply_good ?_
    | with_reducible refine State.overrun_good ?_
    | with_reducible refine State.setBit_good ?_
    | with_reducible refine State.supplyOff_good ?_
    | with_reducible refine good_ite ?_ ?_
    | simp only [good_mk_eq, List.length_map, List.length_set]
    | split

theorem execSupplyTimeout_good (hgood : Good O Q s) : OutGood O Q (execSupplyTimeout s) := by
  unfold execSupplyTimeout
  try dsimp only
  repeat' first
    | with_reducible assumption
    | with_reducible refine outGood_next ?_
    | with_reducible refine outGood_ite ?_ ?_
    | with_reducible refine State.stepTook_good ?_
    | with_reducible refine State.supplyLate_good ?_
    | with_reducible refine good_ite ?_ ?_
    | simp only [good_mk_eq, List.length_map, List.length_set]
    | split

theorem execSupplyRetry_good (hgood : Good O Q s) : OutGood O Q (execSupplyRetry s) := by
  unfold execSupplyRetry
  try dsimp only
  repeat' first
    | with_reducible assumption
    | with_reducible refine outGood_next ?_
    | with_reducible refine outGood_ite ?_ ?_
    | with_reducible refine State.setBit_good ?_
    | with_reducible refine State.warmState_good ?_
    | with_reducible refine good_ite ?_ ?_
    | simp only [good_mk_eq, List.length_map, List.length_set]
    | split

theorem State.atLimit_good (hgood : Good O Q s) : Good O Q (State.atLimit s) := by
  unfold State.atLimit
  try dsimp only
  repeat' first
    | with_reducible assumption
    | with_reducible refine State.reachUp_good ?_
    | with_reducible refine State.stepTook_good ?_
    | with_reducible refine good_ite ?_ ?_
    | simp only [good_mk_eq, List.length_map, List.length_set]
    | split

theorem execStepOverrun_good (hgood : Good O Q s) : OutGood O Q (execStepOverrun s) := by
  unfold execStepOverrun
  try dsimp only
  repeat' first
    | with_reducible assumption
    | with_reducible refine outGood_next ?_
    | with_reducible refine outGood_ite ?_ ?_
    | with_reducible refine State.atLimit_good ?_
    | with_reducible refine State.bootFallback_good ?_
    | with_reducible refine State.engineRestart_good ?_
    | with_reducible refine State.enterBad_good ?_
    | with_reducible refine State.mainsBoth_good ?_
    | with_reducible refine State.mainsRestart_good ?_
    | with_reducible refine State.noFirmware_good ?_
    | with_reducible refine State.overrun_good ?_
    | with_reducible refine State.owResult_good ?_
    | with_reducible refine State.ready_good ?_
    | with_reducible refine State.stageAt_good ?_
    | with_reducible refine State.supplyLate_good ?_
    | with_reducible refine State.supplyOff_good ?_
    | with_reducible refine good_ite ?_ ?_
    | simp only [good_mk_eq, List.length_map, List.length_set]
    | split

theorem State.fatalGroup_good {g : Nat} (hgood : Good O Q s) : Good O Q (State.fatalGroup s g) := by
  unfold State.fatalGroup
  try dsimp only
  repeat' first
    | with_reducible assumption
    | with_reducible refine State.stopGroup_good ?_
    | with_reducible refine State.updGrp_good ?_
    | with_reducible refine good_ite ?_ ?_
    | simp only [good_mk_eq, List.length_map, List.length_set]
    | split

theorem State.fatalStream_good {x : Nat} (hgood : Good O Q s) : Good O Q (State.fatalStream s x) := by
  unfold State.fatalStream
  try dsimp only
  repeat' first
    | with_reducible assumption
    | with_reducible refine State.closePacket_good ?_
    | with_reducible refine State.setStrm_good ?_
    | with_reducible refine State.streamSettle_good ?_
    | with_reducible refine good_ite ?_ ?_
    | simp only [good_mk_eq, List.length_map, List.length_set]
    | split

theorem State.failDesc_good {d : Desc} (hgood : Good O Q s) : Good O Q (State.failDesc s d) := by
  unfold State.failDesc
  try dsimp only
  repeat' first
    | with_reducible assumption
    | with_reducible refine State.capRelease_good ?_
    | with_reducible refine State.dropJob_good ?_
    | with_reducible refine State.retireBad_good ?_
    | with_reducible refine State.retireBuf_good ?_
    | with_reducible refine State.retireEmpty_good ?_
    | with_reducible refine good_ite ?_ ?_
    | simp only [good_mk_eq, List.length_map, List.length_set]
    | split

theorem State.fatalStop_good {cause : FatalCause} (hgood : Good O Q s) : Good O Q (State.fatalStop s cause) := by
  unfold State.fatalStop
  try dsimp only
  repeat' first
    | with_reducible assumption
    | with_reducible refine State.excSeize_good ?_
    | with_reducible refine State.failDesc_good ?_
    | with_reducible refine State.fatalGroup_good ?_
    | with_reducible refine State.fatalStream_good ?_
    | with_reducible refine State.raise_good ?_
    | with_reducible refine State.sendHealth_good ?_
    | with_reducible refine State.vaultTaint_good ?_
    | with_reducible refine State.doIf_good ?_ ?_
    | with_reducible refine State.each_good ?_ (fun _ _ _ => ?_)
    | with_reducible refine good_ite ?_ ?_
    | simp only [good_mk_eq, List.length_map, List.length_set]
    | split

theorem State.unitFatal_good {cause : FatalCause} (hgood : Good O Q s) : Good O Q (State.unitFatal s cause) := by
  unfold State.unitFatal
  try dsimp only
  repeat' first
    | with_reducible assumption
    | with_reducible refine State.fatalStop_good ?_
    | with_reducible refine State.oneCycle_good ?_ (fun _ _ => ?_)
    | with_reducible refine good_ite ?_ ?_
    | simp only [good_mk_eq, List.length_map, List.length_set]
    | split

theorem execUnitFatal_good {cause : FatalCause} (hgood : Good O Q s) : OutGood O Q (execUnitFatal cause s) := by
  unfold execUnitFatal
  try dsimp only
  repeat' first
    | with_reducible assumption
    | with_reducible refine outGood_next ?_
    | with_reducible refine outGood_ite ?_ ?_
    | with_reducible refine State.reach_good ?_
    | with_reducible refine State.unitFatal_good ?_
    | with_reducible refine good_ite ?_ ?_
    | simp only [good_mk_eq, List.length_map, List.length_set]
    | split

theorem execErrMsiTimer_good (hgood : Good O Q s) : OutGood O Q (execErrMsiTimer s) := by
  unfold execErrMsiTimer
  try dsimp only
  repeat' first
    | with_reducible assumption
    | with_reducible refine outGood_next ?_
    | with_reducible refine outGood_ite ?_ ?_
    | with_reducible refine State.msix_good ?_
    | with_reducible refine State.reachUp_good ?_
    | with_reducible refine good_ite ?_ ?_
    | simp only [good_mk_eq, List.length_map, List.length_set]
    | split

theorem execErrlogPop_good {v : W32} (hgood : Good O Q s) : OutGood O Q (execErrlogPop v s) := by
  unfold execErrlogPop
  split
  · rename_i r rest hr
    split
    · refine outGood_next (good_log hgood ?_)
      have := hgood.log
      rw [hr] at this
      simp only [List.length_cons] at this
      show rest.length ≤ 512
      omega
    · exact outGood_next hgood
  · exact outGood_next hgood

theorem State.injAdd_good {target : Nat} {action : Nat} {index : Nat} {left : Nat} {value : Int} (hgood : Good O Q s) : Good O Q (State.injAdd s target action index left value) := by
  unfold State.injAdd
  try dsimp only
  repeat' first
    | with_reducible assumption
    | with_reducible refine good_ite ?_ ?_
    | simp only [good_mk_eq, List.length_map, List.length_set]
    | split

theorem State.injTimed_good {target : Nat} {action : Nat} {index : Nat} {us : Nat} (hgood : Good O Q s) : Good O Q (State.injTimed s target action index us) := by
  unfold State.injTimed
  try dsimp only
  repeat' first
    | with_reducible assumption
    | with_reducible refine State.bump_good ?_
    | with_reducible refine good_ite ?_ ?_
    | simp only [good_mk_eq, List.length_map, List.length_set]
    | split

theorem State.injLinkCount_good {p : Nat} {n : Nat} (hgood : Good O Q s) : Good O Q (State.injLinkCount s p n) := by
  unfold State.injLinkCount
  try dsimp only
  repeat' first
    | with_reducible assumption
    | with_reducible refine State.bumpBy_good ?_
    | with_reducible refine good_ite ?_ ?_
    | simp only [good_mk_eq, List.length_map, List.length_set]
    | split

theorem State.injectCmd_good {id : Nat} {isTarget : Nat → Bool} {action : Nat} {f : Desc → State → State} (hgood : Good O Q s) (hf : ∀ d t, Good O Q t → Good O Q (f d t)) : OutGood O Q (s.injectCmd id isTarget action f) := by
  unfold State.injectCmd
  refine State.serve_good hgood (fun d t ht => ?_)
  try dsimp only
  repeat' first
    | with_reducible exact hf _ _ ht
    | with_reducible exact State.retireBad_good ht
    | with_reducible exact ht
    | split

theorem State.injDone_good {d : Desc} (hgood : Good O Q s) : Good O Q (State.injDone s d) := by
  unfold State.injDone
  try dsimp only
  repeat' first
    | with_reducible assumption
    | with_reducible refine State.retireOk_good ?_
    | with_reducible refine good_ite ?_ ?_
    | simp only [good_mk_eq, List.length_map, List.length_set]
    | split

theorem State.linkInject_good {d : Desc} {action : Nat} {filter : Nat} (hgood : Good O Q s) : Good O Q (State.linkInject s d action filter) := by
  unfold State.linkInject
  try dsimp only
  repeat' first
    | with_reducible assumption
    | with_reducible refine State.updLink_good ?_
    | with_reducible refine good_ite ?_ ?_
    | simp only [good_mk_eq, List.length_map, List.length_set]
    | split

theorem execInjectCancel_good {id : Nat} (hgood : Good O Q s) : OutGood O Q (execInjectCancel id s) := by
  unfold execInjectCancel
  try dsimp only
  repeat' first
    | with_reducible assumption
    | with_reducible refine outGood_next ?_
    | with_reducible refine outGood_ite ?_ ?_
    | with_reducible refine State.postAll_good ?_
    | with_reducible refine State.retireBad_good ?_
    | with_reducible refine State.retireOk_good ?_
    | with_reducible refine State.updLink_good ?_
    | with_reducible refine State.serve_good ?_ (fun _ _ _ => ?_)
    | with_reducible refine good_ite ?_ ?_
    | simp only [good_mk_eq, List.length_map, List.length_set]
    | split

theorem execInjectDrop_good {id : Nat} (hgood : Good O Q s) : OutGood O Q (execInjectDrop id s) := by
  unfold execInjectDrop
  try dsimp only
  repeat' first
    | with_reducible assumption
    | with_reducible refine outGood_next ?_
    | with_reducible refine outGood_ite ?_ ?_
    | with_reducible refine State.injDone_good ?_
    | with_reducible refine State.linkInject_good ?_
    | with_reducible refine State.injectCmd_good ?_ (fun _ _ _ => ?_)
    | with_reducible refine good_ite ?_ ?_
    | simp only [good_mk_eq, List.length_map, List.length_set]
    | split

theorem execInjectCorrupt_good {id : Nat} (hgood : Good O Q s) : OutGood O Q (execInjectCorrupt id s) := by
  unfold execInjectCorrupt
  try dsimp only
  repeat' first
    | with_reducible assumption
    | with_reducible refine outGood_next ?_
    | with_reducible refine outGood_ite ?_ ?_
    | with_reducible refine State.injDone_good ?_
    | with_reducible refine State.linkInject_good ?_
    | with_reducible refine State.injectCmd_good ?_ (fun _ _ _ => ?_)
    | with_reducible refine good_ite ?_ ?_
    | simp only [good_mk_eq, List.length_map, List.length_set]
    | split

theorem execInjectReorder_good {id : Nat} (hgood : Good O Q s) : OutGood O Q (execInjectReorder id s) := by
  unfold execInjectReorder
  try dsimp only
  repeat' first
    | with_reducible assumption
    | with_reducible refine outGood_next ?_
    | with_reducible refine outGood_ite ?_ ?_
    | with_reducible refine State.injDone_good ?_
    | with_reducible refine State.linkInject_good ?_
    | with_reducible refine State.injectCmd_good ?_ (fun _ _ _ => ?_)
    | with_reducible refine good_ite ?_ ?_
    | simp only [good_mk_eq, List.length_map, List.length_set]
    | split

theorem execInjectTag_good {id : Nat} (hgood : Good O Q s) : OutGood O Q (execInjectTag id s) := by
  unfold execInjectTag
  try dsimp only
  repeat' first
    | with_reducible assumption
    | with_reducible refine outGood_next ?_
    | with_reducible refine outGood_ite ?_ ?_
    | with_reducible refine State.injDone_good ?_
    | with_reducible refine State.linkInject_good ?_
    | with_reducible refine State.injectCmd_good ?_ (fun _ _ _ => ?_)
    | with_reducible refine good_ite ?_ ?_
    | simp only [good_mk_eq, List.length_map, List.length_set]
    | split

theorem State.badHeaders_good {p : Nat} {lane : Nat} {n : Nat} (hgood : Good O Q s) : Good O Q (State.badHeaders s p lane n) := by
  unfold State.badHeaders
  try dsimp only
  repeat' first
    | with_reducible assumption
    | with_reducible refine State.updLink_good ?_
    | with_reducible refine good_ite ?_ ?_
    | simp only [good_mk_eq, List.length_map, List.length_set]
    | split

theorem execInjectHeader_good {id : Nat} (hgood : Good O Q s) : OutGood O Q (execInjectHeader id s) := by
  unfold execInjectHeader
  try dsimp only
  repeat' first
    | with_reducible assumption
    | with_reducible refine outGood_next ?_
    | with_reducible refine outGood_ite ?_ ?_
    | with_reducible refine State.badHeaders_good ?_
    | with_reducible refine State.injDone_good ?_
    | with_reducible refine State.injLinkCount_good ?_
    | with_reducible refine State.injectCmd_good ?_ (fun _ _ _ => ?_)
    | with_reducible refine good_ite ?_ ?_
    | simp only [good_mk_eq, List.length_map, List.length_set]
    | split

theorem execInjectSquelch_good {id : Nat} (hgood : Good O Q s) : OutGood O Q (execInjectSquelch id s) := by
  unfold execInjectSquelch
  try dsimp only
  repeat' first
    | with_reducible assumption
    | with_reducible refine outGood_next ?_
    | with_reducible refine outGood_ite ?_ ?_
    | with_reducible refine State.injDone_good ?_
    | with_reducible refine State.injLinkCount_good ?_
    | with_reducible refine State.injectCmd_good ?_ (fun _ _ _ => ?_)
    | with_reducible refine good_ite ?_ ?_
    | simp only [good_mk_eq, List.length_map, List.length_set]
    | split

theorem State.injCounted_good {id : Nat} {target : Nat} {action : Nat} {value : Desc → Int} (hgood : Good O Q s) : OutGood O Q (State.injCounted s id target action value) := by
  unfold State.injCounted
  try dsimp only
  repeat' first
    | with_reducible assumption
    | with_reducible refine outGood_next ?_
    | with_reducible refine outGood_ite ?_ ?_
    | with_reducible refine State.injAdd_good ?_
    | with_reducible refine State.injDone_good ?_
    | with_reducible refine State.injectCmd_good ?_ (fun _ _ _ => ?_)
    | with_reducible refine good_ite ?_ ?_
    | simp only [good_mk_eq, List.length_map, List.length_set]
    | split

theorem execInjectExcShort_good {id : Nat} (hgood : Good O Q s) : OutGood O Q (execInjectExcShort id s) := by
  unfold execInjectExcShort
  try dsimp only
  repeat' first
    | with_reducible assumption
    | with_reducible refine outGood_next ?_
    | with_reducible refine outGood_ite ?_ ?_
    | with_reducible refine State.injCounted_good ?_
    | with_reducible refine good_ite ?_ ?_
    | simp only [good_mk_eq, List.length_map, List.length_set]
    | split

theorem execInjectExcOpen_good {id : Nat} (hgood : Good O Q s) : OutGood O Q (execInjectExcOpen id s) := by
  unfold execInjectExcOpen
  try dsimp only
  repeat' first
    | with_reducible assumption
    | with_reducible refine outGood_next ?_
    | with_reducible refine outGood_ite ?_ ?_
    | with_reducible refine State.injCounted_good ?_
    | with_reducible refine good_ite ?_ ?_
    | simp only [good_mk_eq, List.length_map, List.length_set]
    | split

theorem execInjectExcReversed_good {id : Nat} (hgood : Good O Q s) : OutGood O Q (execInjectExcReversed id s) := by
  unfold execInjectExcReversed
  try dsimp only
  repeat' first
    | with_reducible assumption
    | with_reducible refine outGood_next ?_
    | with_reducible refine outGood_ite ?_ ?_
    | with_reducible refine State.injCounted_good ?_
    | with_reducible refine good_ite ?_ ?_
    | simp only [good_mk_eq, List.length_map, List.length_set]
    | split

theorem execInjectExcSenseOpen_good {id : Nat} (hgood : Good O Q s) : OutGood O Q (execInjectExcSenseOpen id s) := by
  unfold execInjectExcSenseOpen
  try dsimp only
  repeat' first
    | with_reducible assumption
    | with_reducible refine outGood_next ?_
    | with_reducible refine outGood_ite ?_ ?_
    | with_reducible refine State.injCounted_good ?_
    | with_reducible refine good_ite ?_ ?_
    | simp only [good_mk_eq, List.length_map, List.length_set]
    | split

theorem execInjectAinOpen_good {id : Nat} (hgood : Good O Q s) : OutGood O Q (execInjectAinOpen id s) := by
  unfold execInjectAinOpen
  try dsimp only
  repeat' first
    | with_reducible assumption
    | with_reducible refine outGood_next ?_
    | with_reducible refine outGood_ite ?_ ?_
    | with_reducible refine State.injCounted_good ?_
    | with_reducible refine good_ite ?_ ?_
    | simp only [good_mk_eq, List.length_map, List.length_set]
    | split

theorem execInjectAinOvervolt_good {id : Nat} (hgood : Good O Q s) : OutGood O Q (execInjectAinOvervolt id s) := by
  unfold execInjectAinOvervolt
  try dsimp only
  repeat' first
    | with_reducible assumption
    | with_reducible refine outGood_next ?_
    | with_reducible refine outGood_ite ?_ ?_
    | with_reducible refine State.injCounted_good ?_
    | with_reducible refine good_ite ?_ ?_
    | simp only [good_mk_eq, List.length_map, List.length_set]
    | split

theorem execInjectCnvRef_good {id : Nat} (hgood : Good O Q s) : OutGood O Q (execInjectCnvRef id s) := by
  unfold execInjectCnvRef
  try dsimp only
  repeat' first
    | with_reducible assumption
    | with_reducible refine outGood_next ?_
    | with_reducible refine outGood_ite ?_ ?_
    | with_reducible refine State.injCounted_good ?_
    | with_reducible refine good_ite ?_ ?_
    | simp only [good_mk_eq, List.length_map, List.length_set]
    | split

theorem execInjectCnvSupply_good {id : Nat} (hgood : Good O Q s) : OutGood O Q (execInjectCnvSupply id s) := by
  unfold execInjectCnvSupply
  try dsimp only
  repeat' first
    | with_reducible assumption
    | with_reducible refine outGood_next ?_
    | with_reducible refine outGood_ite ?_ ?_
    | with_reducible refine State.injCounted_good ?_
    | with_reducible refine good_ite ?_ ?_
    | simp only [good_mk_eq, List.length_map, List.length_set]
    | split

theorem execInjectCnvTemp_good {id : Nat} (hgood : Good O Q s) : OutGood O Q (execInjectCnvTemp id s) := by
  unfold execInjectCnvTemp
  try dsimp only
  repeat' first
    | with_reducible assumption
    | with_reducible refine outGood_next ?_
    | with_reducible refine outGood_ite ?_ ?_
    | with_reducible refine State.injCounted_good ?_
    | with_reducible refine good_ite ?_ ?_
    | simp only [good_mk_eq, List.length_map, List.length_set]
    | split

theorem execInjectCnvXchk_good {id : Nat} (hgood : Good O Q s) : OutGood O Q (execInjectCnvXchk id s) := by
  unfold execInjectCnvXchk
  try dsimp only
  repeat' first
    | with_reducible assumption
    | with_reducible refine outGood_next ?_
    | with_reducible refine outGood_ite ?_ ?_
    | with_reducible refine State.injCounted_good ?_
    | with_reducible refine good_ite ?_ ?_
    | simp only [good_mk_eq, List.length_map, List.length_set]
    | split

theorem execInjectCnvTimeout_good {id : Nat} (hgood : Good O Q s) : OutGood O Q (execInjectCnvTimeout id s) := by
  unfold execInjectCnvTimeout
  try dsimp only
  repeat' first
    | with_reducible assumption
    | with_reducible refine outGood_next ?_
    | with_reducible refine outGood_ite ?_ ?_
    | with_reducible refine State.injCounted_good ?_
    | with_reducible refine good_ite ?_ ?_
    | simp only [good_mk_eq, List.length_map, List.length_set]
    | split

theorem execInjectMemCorrectable_good {id : Nat} (hgood : Good O Q s) : OutGood O Q (execInjectMemCorrectable id s) := by
  unfold execInjectMemCorrectable
  try dsimp only
  repeat' first
    | with_reducible assumption
    | with_reducible refine outGood_next ?_
    | with_reducible refine outGood_ite ?_ ?_
    | with_reducible refine State.injAdd_good ?_
    | with_reducible refine State.injDone_good ?_
    | with_reducible refine State.injectCmd_good ?_ (fun _ _ _ => ?_)
    | with_reducible refine good_ite ?_ ?_
    | simp only [good_mk_eq, List.length_map, List.length_set]
    | split

theorem execInjectMemUncorrectable_good {id : Nat} (hgood : Good O Q s) : OutGood O Q (execInjectMemUncorrectable id s) := by
  unfold execInjectMemUncorrectable
  try dsimp only
  repeat' first
    | with_reducible assumption
    | with_reducible refine outGood_next ?_
    | with_reducible refine outGood_ite ?_ ?_
    | with_reducible refine State.injAdd_good ?_
    | with_reducible refine State.injDone_good ?_
    | with_reducible refine State.injectCmd_good ?_ (fun _ _ _ => ?_)
    | with_reducible refine good_ite ?_ ?_
    | simp only [good_mk_eq, List.length_map, List.length_set]
    | split

theorem execInjectHostDmaError_good {id : Nat} (hgood : Good O Q s) : OutGood O Q (execInjectHostDmaError id s) := by
  unfold execInjectHostDmaError
  try dsimp only
  repeat' first
    | with_reducible assumption
    | with_reducible refine outGood_next ?_
    | with_reducible refine outGood_ite ?_ ?_
    | with_reducible refine State.injAdd_good ?_
    | with_reducible refine State.injDone_good ?_
    | with_reducible refine State.injectCmd_good ?_ (fun _ _ _ => ?_)
    | with_reducible refine good_ite ?_ ?_
    | simp only [good_mk_eq, List.length_map, List.length_set]
    | split

theorem execInjectHostPostingHeld_good {id : Nat} (hgood : Good O Q s) : OutGood O Q (execInjectHostPostingHeld id s) := by
  unfold execInjectHostPostingHeld
  try dsimp only
  repeat' first
    | with_reducible assumption
    | with_reducible refine outGood_next ?_
    | with_reducible refine outGood_ite ?_ ?_
    | with_reducible refine State.injDone_good ?_
    | with_reducible refine State.injTimed_good ?_
    | with_reducible refine State.injectCmd_good ?_ (fun _ _ _ => ?_)
    | with_reducible refine good_ite ?_ ?_
    | simp only [good_mk_eq, List.length_map, List.length_set]
    | split

theorem execInjectEngineWatchdog_good {id : Nat} (hgood : Good O Q s) : OutGood O Q (execInjectEngineWatchdog id s) := by
  unfold execInjectEngineWatchdog
  try dsimp only
  repeat' first
    | with_reducible assumption
    | with_reducible refine outGood_next ?_
    | with_reducible refine outGood_ite ?_ ?_
    | with_reducible refine State.bump_good ?_
    | with_reducible refine State.engineRestart_good ?_
    | with_reducible refine State.injDone_good ?_
    | with_reducible refine State.injectCmd_good ?_ (fun _ _ _ => ?_)
    | with_reducible refine State.underInj_good ?_ (fun _ _ => ?_)
    | with_reducible refine good_ite ?_ ?_
    | simp only [good_mk_eq, List.length_map, List.length_set]
    | split

theorem execInjectFireflyTheta_good {id : Nat} (hgood : Good O Q s) : OutGood O Q (execInjectFireflyTheta id s) := by
  unfold execInjectFireflyTheta
  try dsimp only
  repeat' first
    | with_reducible assumption
    | with_reducible refine outGood_next ?_
    | with_reducible refine outGood_ite ?_ ?_
    | with_reducible refine State.injAdd_good ?_
    | with_reducible refine State.injDone_good ?_
    | with_reducible refine State.injectCmd_good ?_ (fun _ _ _ => ?_)
    | with_reducible refine good_ite ?_ ?_
    | simp only [good_mk_eq, List.length_map, List.length_set]
    | split

theorem execInjectFireflyInvalid_good {id : Nat} (hgood : Good O Q s) : OutGood O Q (execInjectFireflyInvalid id s) := by
  unfold execInjectFireflyInvalid
  try dsimp only
  repeat' first
    | with_reducible assumption
    | with_reducible refine outGood_next ?_
    | with_reducible refine outGood_ite ?_ ?_
    | with_reducible refine State.injAdd_good ?_
    | with_reducible refine State.injDone_good ?_
    | with_reducible refine State.injectCmd_good ?_ (fun _ _ _ => ?_)
    | with_reducible refine good_ite ?_ ?_
    | simp only [good_mk_eq, List.length_map, List.length_set]
    | split

theorem execInjectTwinSum_good {id : Nat} (hgood : Good O Q s) : OutGood O Q (execInjectTwinSum id s) := by
  unfold execInjectTwinSum
  try dsimp only
  repeat' first
    | with_reducible assumption
    | with_reducible refine outGood_next ?_
    | with_reducible refine outGood_ite ?_ ?_
    | with_reducible refine State.injCounted_good ?_
    | with_reducible refine good_ite ?_ ?_
    | simp only [good_mk_eq, List.length_map, List.length_set]
    | split

theorem execInjectTwinAliveStop_good {id : Nat} (hgood : Good O Q s) : OutGood O Q (execInjectTwinAliveStop id s) := by
  unfold execInjectTwinAliveStop
  try dsimp only
  repeat' first
    | with_reducible assumption
    | with_reducible refine outGood_next ?_
    | with_reducible refine outGood_ite ?_ ?_
    | with_reducible refine State.injDone_good ?_
    | with_reducible refine State.injTimed_good ?_
    | with_reducible refine State.injectCmd_good ?_ (fun _ _ _ => ?_)
    | with_reducible refine good_ite ?_ ?_
    | simp only [good_mk_eq, List.length_map, List.length_set]
    | split

theorem execInjectTwinHealthWithheld_good {id : Nat} (hgood : Good O Q s) : OutGood O Q (execInjectTwinHealthWithheld id s) := by
  unfold execInjectTwinHealthWithheld
  try dsimp only
  repeat' first
    | with_reducible assumption
    | with_reducible refine outGood_next ?_
    | with_reducible refine outGood_ite ?_ ?_
    | with_reducible refine State.injDone_good ?_
    | with_reducible refine State.injTimed_good ?_
    | with_reducible refine State.injectCmd_good ?_ (fun _ _ _ => ?_)
    | with_reducible refine good_ite ?_ ?_
    | simp only [good_mk_eq, List.length_map, List.length_set]
    | split

theorem execInjectPumpSag_good {id : Nat} (hgood : Good O Q s) : OutGood O Q (execInjectPumpSag id s) := by
  unfold execInjectPumpSag
  try dsimp only
  repeat' first
    | with_reducible assumption
    | with_reducible refine outGood_next ?_
    | with_reducible refine outGood_ite ?_ ?_
    | with_reducible refine State.injDone_good ?_
    | with_reducible refine State.injTimed_good ?_
    | with_reducible refine State.injectCmd_good ?_ (fun _ _ _ => ?_)
    | with_reducible refine good_ite ?_ ?_
    | simp only [good_mk_eq, List.length_map, List.length_set]
    | split

theorem execInjectFatal_good {id : Nat} (hgood : Good O Q s) : OutGood O Q (execInjectFatal id s) := by
  unfold execInjectFatal
  try dsimp only
  repeat' first
    | with_reducible assumption
    | with_reducible refine outGood_next ?_
    | with_reducible refine outGood_ite ?_ ?_
    | with_reducible refine State.bump_good ?_
    | with_reducible refine State.injDone_good ?_
    | with_reducible refine State.unitFatal_good ?_
    | with_reducible refine State.injectCmd_good ?_ (fun _ _ _ => ?_)
    | with_reducible refine good_ite ?_ ?_
    | simp only [good_mk_eq, List.length_map, List.length_set]
    | split

theorem execInjectionDurationEnd_good {target : Nat} (hgood : Good O Q s) : OutGood O Q (execInjectionDurationEnd target s) := by
  unfold execInjectionDurationEnd
  try dsimp only
  repeat' first
    | with_reducible assumption
    | with_reducible refine outGood_next ?_
    | with_reducible refine outGood_ite ?_ ?_
    | with_reducible refine State.postAll_good ?_
    | with_reducible refine State.reachUp_good ?_
    | with_reducible refine good_ite ?_ ?_
    | simp only [good_mk_eq, List.length_map, List.length_set]
    | split

theorem Out.state_good {x : Out} {t : State} (h : OutGood O Q x) : Good O Q (Out.state x t) := by
  obtain ⟨u, rfl, hu⟩ := h
  exact hu

theorem State.clearSticky_good {a : Nat} {v : W32} (hgood : Good O Q s) : Good O Q (State.clearSticky s a v) := by
  unfold State.clearSticky
  try dsimp only
  repeat' first
    | with_reducible assumption
    | with_reducible refine State.rearm_good ?_
    | with_reducible refine State.setReg_good ?_
    | with_reducible refine State.doIf_good ?_ ?_
    | with_reducible refine good_ite ?_ ?_
    | simp only [good_mk_eq, List.length_map, List.length_set]
    | split

theorem State.writeSq_good {r : Fin 64} {off : Nat} {v : W32} (hgood : Good O Q s) : Good O Q (State.writeSq s r off v) := by
  unfold State.writeSq
  try dsimp only
  repeat' first
    | with_reducible assumption
    | with_reducible refine Out.state_good ?_
    | with_reducible refine State.bump_good ?_
    | with_reducible refine State.setReg_good ?_
    | with_reducible refine execSqDisable_good ?_
    | with_reducible refine execSqEnable_good ?_
    | with_reducible refine good_ite ?_ ?_
    | simp only [good_mk_eq, List.length_map, List.length_set]
    | split

theorem State.writeCq_good {q : Fin 64} {off : Nat} {v : W32} (hgood : Good O Q s) : Good O Q (State.writeCq s q off v) := by
  unfold State.writeCq
  try dsimp only
  repeat' first
    | with_reducible assumption
    | with_reducible refine Out.state_good ?_
    | with_reducible refine State.bump_good ?_
    | with_reducible refine State.setReg_good ?_
    | with_reducible refine execCqDisable_good ?_
    | with_reducible refine execCqEnable_good ?_
    | with_reducible refine good_ite ?_ ?_
    | simp only [good_mk_eq, List.length_map, List.length_set]
    | split

theorem State.writeMsix_good {a : Nat} {v : W32} (hgood : Good O Q s) : Good O Q (State.writeMsix s a v) := by
  unfold State.writeMsix
  try dsimp only
  repeat' first
    | with_reducible assumption
    | with_reducible refine State.msixPending_good ?_
    | with_reducible refine State.setReg_good ?_
    | with_reducible refine good_ite ?_ ?_
    | simp only [good_mk_eq, List.length_map, List.length_set]
    | split

theorem State.writeAct_good {path : Path} {a : Nat} {v : W32} (hgood : Good O Q s) : Good O Q (State.writeAct s path a v) := by
  unfold State.writeAct
  try dsimp only
  repeat' first
    | with_reducible assumption
    | with_reducible refine Out.state_good ?_
    | with_reducible refine State.hibAsk_good ?_
    | with_reducible refine State.reqGo_good ?_
    | with_reducible refine State.wakeFire_good ?_
    | with_reducible refine execErrlogPop_good ?_
    | with_reducible refine execFfSetGo_good ?_
    | with_reducible refine execHubCtrl_good ?_
    | with_reducible refine execMantisForce_good ?_
    | with_reducible refine execOwTestStart_good ?_
    | with_reducible refine execPinOutClr_good ?_
    | with_reducible refine execPinOutSet_good ?_
    | with_reducible refine execRetrain_good ?_
    | with_reducible refine execStreamFlush_good ?_
    | with_reducible refine execTracePop_good ?_
    | with_reducible refine execTxtsPop_good ?_
    | with_reducible refine State.doIf_good ?_ ?_
    | with_reducible refine good_ite ?_ ?_
    | simp only [good_mk_eq, List.length_map, List.length_set]
    | split

theorem State.writeReg_good {path : Path} {a : Nat} {v : W32} (hgood : Good O Q s) : Good O Q (State.writeReg s path a v) := by
  unfold State.writeReg
  try dsimp only
  repeat' first
    | with_reducible assumption
    | with_reducible refine State.bump_good ?_
    | with_reducible refine State.clearSticky_good ?_
    | with_reducible refine State.setReg_good ?_
    | with_reducible refine State.writeAct_good ?_
    | with_reducible refine State.writeCq_good ?_
    | with_reducible refine State.writeMsix_good ?_
    | with_reducible refine State.writeSq_good ?_
    | with_reducible refine State.doIf_good ?_ ?_
    | with_reducible refine good_ite ?_ ?_
    | simp only [good_mk_eq, List.length_map, List.length_set]
    | split

theorem State.writeRegs_good {path : Path} {ws : List W32} : ∀ {s : State} {a : Nat}, Good O Q s → Good O Q (s.writeRegs path a ws) := by
  induction ws with
  | nil => intro s a h; exact h
  | cons w ws ih => intro s a h; exact ih (State.writeReg_good h)

theorem State.readEffect_good {a : Nat} (hgood : Good O Q s) : Good O Q (State.readEffect s a) := by
  unfold State.readEffect
  try dsimp only
  repeat' first
    | with_reducible assumption
    | with_reducible refine good_ite ?_ ?_
    | simp only [good_mk_eq, List.length_map, List.length_set]
    | split

theorem State.readEffects_good {n : Nat} : ∀ {a : Nat} {s : State}, Good O Q s → Good O Q (State.readEffects n a s) := by
  induction n with
  | zero => intro a s h; exact h
  | succ n ih => intro a s h; exact ih (State.readEffect_good h)

theorem State.accessDenied_good {kind : Nat} {r : RegRequest} (hgood : Good O Q s) : Good O Q (State.accessDenied s kind r) := by
  unfold State.accessDenied
  try dsimp only
  repeat' first
    | with_reducible assumption
    | with_reducible refine State.bump_good ?_
    | with_reducible refine State.setBitRaise_good ?_
    | with_reducible refine State.setReg_good ?_
    | with_reducible refine good_ite ?_ ?_
    | simp only [good_mk_eq, List.length_map, List.length_set]
    | split

theorem execRegisterWrite_good {r : RegRequest} (hgood : Good O Q s) : OutGood O Q (execRegisterWrite r s) := by
  unfold execRegisterWrite
  try dsimp only
  repeat' first
    | with_reducible assumption
    | with_reducible refine outGood_next ?_
    | with_reducible refine outGood_ite ?_ ?_
    | with_reducible refine State.accessDenied_good ?_
    | with_reducible refine State.coreNeed_good ?_
    | with_reducible refine State.writeRegs_good ?_
    | with_reducible refine good_ite ?_ ?_
    | simp only [good_mk_eq, List.length_map, List.length_set]
    | split

theorem execUnalignedRead_good {r : RegRequest} (hgood : Good O Q s) : OutGood O Q (execUnalignedRead r s) := by
  unfold execUnalignedRead
  try dsimp only
  repeat' first
    | with_reducible assumption
    | with_reducible refine outGood_next ?_
    | with_reducible refine outGood_ite ?_ ?_
    | with_reducible refine State.accessDenied_good ?_
    | with_reducible refine State.coreNeed_good ?_
    | with_reducible refine State.readEffects_good ?_
    | with_reducible refine execFfNowRead_good ?_
    | with_reducible refine good_ite ?_ ?_
    | simp only [good_mk_eq, List.length_map, List.length_set]
    | split

theorem State.sbAnswer_good {f : SbFrame} {result : Nat} {data : List W32} (hgood : Good O Q s) : Good O Q (State.sbAnswer s f result data) := by
  unfold State.sbAnswer
  try dsimp only
  repeat' first
    | with_reducible assumption
    | with_reducible refine good_ite ?_ ?_
    | simp only [good_mk_eq, List.length_map, List.length_set]
    | split

theorem State.sbReject_good {f : SbFrame} {result : Nat} (hgood : Good O Q s) : Good O Q (State.sbReject s f result) := by
  unfold State.sbReject
  try dsimp only
  repeat' first
    | with_reducible assumption
    | with_reducible refine State.bump_good ?_
    | with_reducible refine State.sbAnswer_good ?_
    | with_reducible refine State.setBit_good ?_
    | with_reducible refine good_ite ?_ ?_
    | simp only [good_mk_eq, List.length_map, List.length_set]
    | split

theorem State.sbAccept_good {f : SbFrame} (hgood : Good O Q s) : Good O Q (State.sbAccept s f) := by
  unfold State.sbAccept
  try dsimp only
  repeat' first
    | with_reducible assumption
    | with_reducible refine good_ite ?_ ?_
    | simp only [good_mk_eq, List.length_map, List.length_set]
    | split

theorem State.sbTake_good {f : SbFrame} {run : State → State × List W32} (hgood : Good O Q s) (hf : ∀ t, Good O Q t → Good O Q (run t).1) : Good O Q (s.sbTake f run) := by
  unfold State.sbTake
  dsimp only
  split
  · exact hgood
  · split
    · exact State.sbReject_good hgood
    · exact State.sbAnswer_good (hf _ (State.sbAccept_good (State.coreNeed_good hgood)))

theorem sbReadWords_good {n : Nat} : ∀ {a : Nat} {s : State}, Good O Q s → Good O Q (sbReadWords n a s).1 := by
  induction n with
  | zero => intro a s h; exact h
  | succ n ih =>
    intro a s h
    unfold sbReadWords
    split
    · exact ih h
    · exact ih (State.readEffect_good h)

theorem sbWriteWords_good {ws : List W32} : ∀ {a : Nat} {s : State}, Good O Q s → Good O Q (sbWriteWords ws a s) := by
  induction ws with
  | nil => intro a s h; exact h
  | cons w ws ih =>
    intro a s h
    refine ih ?_
    split
    · exact h
    · exact State.writeReg_good h

theorem execSbNop_good {f : SbFrame} (hgood : Good O Q s) : OutGood O Q (execSbNop f s) := by
  unfold execSbNop
  try dsimp only
  repeat' first
    | with_reducible assumption
    | with_reducible refine outGood_next ?_
    | with_reducible refine outGood_ite ?_ ?_
    | with_reducible refine State.sbTake_good ?_ (fun _ _ => ?_)
    | with_reducible refine good_ite ?_ ?_
    | simp only [good_mk_eq, List.length_map, List.length_set]
    | split

theorem execSbRead_good {f : SbFrame} (hgood : Good O Q s) : OutGood O Q (execSbRead f s) := by
  unfold execSbRead
  try dsimp only
  repeat' first
    | with_reducible assumption
    | with_reducible refine outGood_next ?_
    | with_reducible refine outGood_ite ?_ ?_
    | with_reducible refine sbReadWords_good ?_
    | with_reducible refine State.sbTake_good ?_ (fun _ _ => ?_)
    | with_reducible refine good_ite ?_ ?_
    | simp only [good_mk_eq, List.length_map, List.length_set]
    | split

theorem execSbWrite_good {f : SbFrame} (hgood : Good O Q s) : OutGood O Q (execSbWrite f s) := by
  unfold execSbWrite
  try dsimp only
  repeat' first
    | with_reducible assumption
    | with_reducible refine outGood_next ?_
    | with_reducible refine outGood_ite ?_ ?_
    | with_reducible refine sbWriteWords_good ?_
    | with_reducible refine State.sbTake_good ?_ (fun _ _ => ?_)
    | with_reducible refine good_ite ?_ ?_
    | simp only [good_mk_eq, List.length_map, List.length_set]
    | split

theorem State.sbDescTake_good {data : List W32} (hgood : Good O Q s) : Good O Q (State.sbDescTake s data) := by
  unfold State.sbDescTake
  try dsimp only
  repeat' first
    | with_reducible assumption
    | with_reducible refine State.enlist_good ?_
    | with_reducible refine State.take_good ?_
    | with_reducible refine good_ite ?_ ?_
    | simp only [good_mk_eq, List.length_map, List.length_set]
    | split

theorem execSbDesc_good {f : SbFrame} (hgood : Good O Q s) : OutGood O Q (execSbDesc f s) := by
  unfold execSbDesc
  try dsimp only
  repeat' first
    | with_reducible assumption
    | with_reducible refine outGood_next ?_
    | with_reducible refine outGood_ite ?_ ?_
    | with_reducible refine State.sbDescTake_good ?_
    | with_reducible refine State.sbTake_good ?_ (fun _ _ => ?_)
    | with_reducible refine good_ite ?_ ?_
    | simp only [good_mk_eq, List.length_map, List.length_set]
    | split

theorem State.sbSvreqTake_good {f : SbFrame} (hgood : Good O Q s) : Good O Q (State.sbSvreqTake s f) := by
  unfold State.sbSvreqTake
  try dsimp only
  repeat' first
    | with_reducible assumption
    | with_reducible refine State.reqArrive_good ?_
    | with_reducible refine good_ite ?_ ?_
    | simp only [good_mk_eq, List.length_map, List.length_set]
    | split

theorem execSbSvreq_good {f : SbFrame} (hgood : Good O Q s) : OutGood O Q (execSbSvreq f s) := by
  unfold execSbSvreq
  try dsimp only
  repeat' first
    | with_reducible assumption
    | with_reducible refine outGood_next ?_
    | with_reducible refine outGood_ite ?_ ?_
    | with_reducible refine State.sbSvreqTake_good ?_
    | with_reducible refine State.sbTake_good ?_ (fun _ _ => ?_)
    | with_reducible refine good_ite ?_ ?_
    | simp only [good_mk_eq, List.length_map, List.length_set]
    | split

theorem execSbMalformedFrame_good {f : SbFrame} (hgood : Good O Q s) : OutGood O Q (execSbMalformedFrame f s) := by
  unfold execSbMalformedFrame
  try dsimp only
  repeat' first
    | with_reducible assumption
    | with_reducible refine outGood_next ?_
    | with_reducible refine outGood_ite ?_ ?_
    | with_reducible refine State.sbReject_good ?_
    | with_reducible refine good_ite ?_ ?_
    | simp only [good_mk_eq, List.length_map, List.length_set]
    | split

end Sys2Proof.Machine
end

