-- ==== Sys2Proof/Laws/PerInstr.lean ====
section
/-! SUPPORT. The family Parts: no command names the one-time-programmable memory or the queue of waiting commands among the parts it can change. -/

namespace Sys2Proof.Laws.Parts

open Sys2Proof.Machine

set_option Elab.async false

/-- The parts a command can change are neither the one-time-programmable memory nor the queue. -/
def Statement (i : Instr) : Prop := i.parts.any (fun p => p == .otp || p == .pending) = false

theorem por : Statement (.por) := rfl
theorem warm (src : ResetSource) : Statement (.warm src) := rfl
theorem vaultReset (imageOk : Bool) : Statement (.vaultReset imageOk) := rfl
theorem startupStepEnd (rep : StepReport) : Statement (.startupStepEnd rep) := rfl
theorem supplyTimeout : Statement (.supplyTimeout) := rfl
theorem supplyRetry : Statement (.supplyRetry) := rfl
theorem stepOverrun : Statement (.stepOverrun) := rfl
theorem roleResolution (edgeSeen : Bool) : Statement (.roleResolution edgeSeen) := rfl
theorem strobeEdge (g : Group) (e : EdgeSample) : Statement (.strobeEdge g e) := rfl
theorem strobeEvent (g : Group) (sources : List EventSource) : Statement (.strobeEvent g sources) := rfl
theorem eventStrobeEdge (g : Group) (e : EdgeSample) : Statement (.eventStrobeEdge g e) := rfl
theorem starved (g : Group) : Statement (.starved g) := rfl
theorem conversionDone (n : Fin 64) (slot : Fin 12) (noise : Nat) (completed : Bool) : Statement (.conversionDone n slot noise completed) := rfl
theorem frameReady (g : Group) : Statement (.frameReady g) := rfl
theorem mainsCrossingTimeout : Statement (.mainsCrossingTimeout) := rfl
theorem mainsAccept : Statement (.mainsAccept) := rfl
theorem mainsStateTimer : Statement (.mainsStateTimer) := rfl
theorem mainsWeightApply (g : Group) : Statement (.mainsWeightApply g) := rfl
theorem triggerOutEnd : Statement (.triggerOutEnd) := rfl
theorem triggerInEdge (v : Fin 2) (rising : Bool) : Statement (.triggerInEdge v rising) := rfl
theorem captureWindowEnd (u : Fin 16) : Statement (.captureWindowEnd u) := rfl
theorem captureCopyDone (u : Fin 17) : Statement (.captureCopyDone u) := rfl
theorem packetMaxAge (x : Fin 64) : Statement (.packetMaxAge x) := rfl
theorem gapRecordWrite (x : Fin 64) : Statement (.gapRecordWrite x) := rfl
theorem packetCompressed (lane : Fin 4) (eccError : Bool) : Statement (.packetCompressed lane eccError) := rfl
theorem cmpBypass (x : Fin 64) : Statement (.cmpBypass x) := rfl
theorem packetSigned (x : Fin 64) : Statement (.packetSigned x) := rfl
theorem packetDmaDone (x : Fin 64) : Statement (.packetDmaDone x) := rfl
theorem statsIntervalEnd : Statement (.statsIntervalEnd) := rfl
theorem protectionOpen (i : Fin 512) (positive : Bool) : Statement (.protectionOpen i positive) := rfl
theorem protectionClose (i : Fin 512) : Statement (.protectionClose i) := rfl
theorem pulseStart (m : Fin 32) (midUv : Int) : Statement (.pulseStart m midUv) := rfl
theorem polarityCheck (m : Fin 32) (senseUv : Int) : Statement (.polarityCheck m senseUv) := rfl
theorem inrushEnd (m : Fin 32) : Statement (.inrushEnd m) := rfl
theorem pulseEnd (m : Fin 32) (limited : Bool) : Statement (.pulseEnd m limited) := rfl
theorem shortDetect (m : Fin 32) : Statement (.shortDetect m) := rfl
theorem retryElapsed (m : Fin 32) : Statement (.retryElapsed m) := rfl
theorem openSenseTestEnd (m : Fin 32) (ran : Bool) (shiftPUv shiftNUv : Nat) : Statement (.openSenseTestEnd m ran shiftPUv shiftNUv) := rfl
theorem pumpReady : Statement (.pumpReady) := rfl
theorem pumpSagTimeout : Statement (.pumpSagTimeout) := rfl
theorem seizeAssert : Statement (.seizeAssert) := rfl
theorem seizeRelease : Statement (.seizeRelease) := rfl
theorem shortSeenRearm (m : Fin 32) : Statement (.shortSeenRearm m) := rfl
theorem reversedSeenRearm (m : Fin 32) : Statement (.reversedSeenRearm m) := rfl
theorem owTestStart : Statement (.owTestStart) := rfl
theorem owTestEnd (moved : List Nat) : Statement (.owTestEnd moved) := rfl
theorem nudge (writes : List NudgeWrite) : Statement (.nudge writes) := rfl
theorem dbPoll : Statement (.dbPoll) := rfl
theorem doorbellFetch (readOk : Bool) : Statement (.doorbellFetch readOk) := rfl
theorem descriptorFetch (r : Fin 64) (readOk : Bool) : Statement (.descriptorFetch r readOk) := rfl
theorem cqModerationTimer (q : Fin 64) : Statement (.cqModerationTimer q) := rfl
theorem engineHoldTimeout (id : Nat) : Statement (.engineHoldTimeout id) := rfl
theorem sqEnable (r : Fin 64) (v : W32) : Statement (.sqEnable r v) := rfl
theorem sqDisable (r : Fin 64) : Statement (.sqDisable r) := rfl
theorem cqEnable (q : Fin 64) (v : W32) : Statement (.cqEnable q v) := rfl
theorem cqDisable (q : Fin 64) : Statement (.cqDisable q) := rfl
theorem pcieConventionalReset : Statement (.pcieConventionalReset) := rfl
theorem nop (id : Nat) : Statement (.nop id) := rfl
theorem fence (id : Nat) : Statement (.fence id) := rfl
theorem cfgBegin (id : Nat) : Statement (.cfgBegin id) := rfl
theorem cfgWrite (id : Nat) : Statement (.cfgWrite id) := rfl
theorem cfgCommit (id : Nat) (bankOk : Bool) : Statement (.cfgCommit id bankOk) := rfl
theorem cfgRollback (id : Nat) : Statement (.cfgRollback id) := rfl
theorem cfgTxnTimeout : Statement (.cfgTxnTimeout) := rfl
theorem heldCommitValidate (id : Nat) (bankOk : Bool) : Statement (.heldCommitValidate id bankOk) := rfl
theorem cfgFlip (confirmed : Bool) : Statement (.cfgFlip confirmed) := rfl
theorem heldRestart (g : Group) : Statement (.heldRestart g) := rfl
theorem liveBankEcc : Statement (.liveBankEcc) := rfl
theorem cfgStoreDone (ok : Bool) : Statement (.cfgStoreDone ok) := rfl
theorem streamBuf (id : Nat) : Statement (.streamBuf id) := rfl
theorem captureArm (id : Nat) : Statement (.captureArm id) := rfl
theorem captureRead (id : Nat) : Statement (.captureRead id) := rfl
theorem statsRead (id : Nat) : Statement (.statsRead id) := rfl
theorem compress (id : Nat) : Statement (.compress id) := rfl
theorem decompress (id : Nat) : Statement (.decompress id) := rfl
theorem timePulse (id : Nat) : Statement (.timePulse id) := rfl
theorem timePulseRise (k : Fin 4) : Statement (.timePulseRise k) := rfl
theorem timePulseFall (k : Fin 4) : Statement (.timePulseFall k) := rfl
theorem fwStage (id : Nat) : Statement (.fwStage id) := rfl
theorem fwActivate (id : Nat) : Statement (.fwActivate id) := rfl
theorem fwConfirm (id : Nat) : Statement (.fwConfirm id) := rfl
theorem fwAutoConfirm : Statement (.fwAutoConfirm) := rfl
theorem fwConfirmLimit : Statement (.fwConfirmLimit) := rfl
theorem signReq (id : Nat) : Statement (.signReq id) := rfl
theorem attest (id : Nat) : Statement (.attest id) := rfl
theorem vaultCmdStatus (id : Nat) : Statement (.vaultCmdStatus id) := rfl
theorem vaultCmdReadRecords (id : Nat) : Statement (.vaultCmdReadRecords id) := rfl
theorem vaultCmdAck (id : Nat) : Statement (.vaultCmdAck id) := rfl
theorem vaultCmdReadAudit (id : Nat) : Statement (.vaultCmdReadAudit id) := rfl
theorem vaultCmdAuth (id : Nat) : Statement (.vaultCmdAuth id) := rfl
theorem vaultCmdReset (id : Nat) : Statement (.vaultCmdReset id) := rfl
theorem twinCmdStatus (id : Nat) : Statement (.twinCmdStatus id) := rfl
theorem twinCmdSwap (id : Nat) : Statement (.twinCmdSwap id) := rfl
theorem twinCmdTakeover (id : Nat) : Statement (.twinCmdTakeover id) := rfl
theorem twinCmdReleaseSeize (id : Nat) : Statement (.twinCmdReleaseSeize id) := rfl
theorem twinCmdResume (id : Nat) : Statement (.twinCmdResume id) := rfl
theorem twinCmdResync (id : Nat) : Statement (.twinCmdResync id) := rfl
theorem injectCancel (id : Nat) : Statement (.injectCancel id) := rfl
theorem injectDrop (id : Nat) : Statement (.injectDrop id) := rfl
theorem injectCorrupt (id : Nat) : Statement (.injectCorrupt id) := rfl
theorem injectReorder (id : Nat) : Statement (.injectReorder id) := rfl
theorem injectTag (id : Nat) : Statement (.injectTag id) := rfl
theorem injectHeader (id : Nat) : Statement (.injectHeader id) := rfl
theorem injectSquelch (id : Nat) : Statement (.injectSquelch id) := rfl
theorem injectExcShort (id : Nat) : Statement (.injectExcShort id) := rfl
theorem injectExcOpen (id : Nat) : Statement (.injectExcOpen id) := rfl
theorem injectExcReversed (id : Nat) : Statement (.injectExcReversed id) := rfl
theorem injectExcSenseOpen (id : Nat) : Statement (.injectExcSenseOpen id) := rfl
theorem injectAinOpen (id : Nat) : Statement (.injectAinOpen id) := rfl
theorem injectAinOvervolt (id : Nat) : Statement (.injectAinOvervolt id) := rfl
theorem injectCnvRef (id : Nat) : Statement (.injectCnvRef id) := rfl
theorem injectCnvSupply (id : Nat) : Statement (.injectCnvSupply id) := rfl
theorem injectCnvTemp (id : Nat) : Statement (.injectCnvTemp id) := rfl
theorem injectCnvXchk (id : Nat) : Statement (.injectCnvXchk id) := rfl
theorem injectCnvTimeout (id : Nat) : Statement (.injectCnvTimeout id) := rfl
theorem injectMemCorrectable (id : Nat) : Statement (.injectMemCorrectable id) := rfl
theorem injectMemUncorrectable (id : Nat) : Statement (.injectMemUncorrectable id) := rfl
theorem injectHostDmaError (id : Nat) : Statement (.injectHostDmaError id) := rfl
theorem injectHostPostingHeld (id : Nat) : Statement (.injectHostPostingHeld id) := rfl
theorem injectEngineWatchdog (id : Nat) : Statement (.injectEngineWatchdog id) := rfl
theorem injectFireflyTheta (id : Nat) : Statement (.injectFireflyTheta id) := rfl
theorem injectFireflyInvalid (id : Nat) : Statement (.injectFireflyInvalid id) := rfl
theorem injectTwinSum (id : Nat) : Statement (.injectTwinSum id) := rfl
theorem injectTwinAliveStop (id : Nat) : Statement (.injectTwinAliveStop id) := rfl
theorem injectTwinHealthWithheld (id : Nat) : Statement (.injectTwinHealthWithheld id) := rfl
theorem injectPumpSag (id : Nat) : Statement (.injectPumpSag id) := rfl
theorem injectFatal (id : Nat) : Statement (.injectFatal id) := rfl
theorem syncInterval : Statement (.syncInterval) := rfl
theorem sync (p : Port) (m : SyncMsg) : Statement (.sync p m) := rfl
theorem delayReq (p : Port) (m : DelayReq) : Statement (.delayReq p m) := rfl
theorem delayResp (p : Port) (m : DelayResp) : Statement (.delayResp p m) := rfl
theorem exchangeTimeout (p : Port) : Statement (.exchangeTimeout p) := rfl
theorem parentTimeout : Statement (.parentTimeout) := rfl
theorem noParent : Statement (.noParent) := rfl
theorem ppsEdge : Statement (.ppsEdge) := rfl
theorem ppsTimeout : Statement (.ppsTimeout) := rfl
theorem ffSetGo (path : Path) : Statement (.ffSetGo path) := rfl
theorem ffNowRead (wide : Bool) : Statement (.ffNowRead wide) := rfl
theorem txtsPop (p : Port) : Statement (.txtsPop p) := rfl
theorem frameTxEnd (p : Port) : Statement (.frameTxEnd p) := rfl
theorem frameRejected (p : Port) (f : RxFrame) : Statement (.frameRejected p f) := rfl
theorem ack (p : Port) (lseq : BitVec 12) : Statement (.ack p lseq) := rfl
theorem nak (p : Port) (lseq : BitVec 12) : Statement (.nak p lseq) := rfl
theorem replayTimeout (p : Port) : Statement (.replayTimeout p) := rfl
theorem ident (p : Port) (f : IdentFrame) (rttNs : Option Nat) : Statement (.ident p f rttNs) := rfl
theorem ratePropose (p : Port) (rate : Nat) : Statement (.ratePropose p rate) := rfl
theorem rateAccept (p : Port) (rate : Nat) : Statement (.rateAccept p rate) := rfl
theorem ratePass (p : Port) : Statement (.ratePass p) := rfl
theorem rateFail (p : Port) : Statement (.rateFail p) := rfl
theorem test (p : Port) (f : SoakFrame) : Statement (.test p f) := rfl
theorem soakEnd (p : Port) : Statement (.soakEnd p) := rfl
theorem keyInit (p : Port) (payload : List Byte) : Statement (.keyInit p payload) := rfl
theorem keyResp (p : Port) (payload : List Byte) : Statement (.keyResp p payload) := rfl
theorem keyConfirm (p : Port) (payload : List Byte) : Statement (.keyConfirm p payload) := rfl
theorem keyRenewal (p : Port) : Statement (.keyRenewal p) := rfl
theorem lineTrigger (p : Port) (f : LineTrig) : Statement (.lineTrigger p f) := rfl
theorem mgmt (p : Port) : Statement (.mgmt p) := rfl
theorem detectDone (p : Port) : Statement (.detectDone p) := rfl
theorem clockLockDone (p : Port) : Statement (.clockLockDone p) := rfl
theorem eqTuneDone (p : Port) (eyes0 eyes1 : List Nat) : Statement (.eqTuneDone p eyes0 eyes1) := rfl
theorem blockLockDone (bits : LockBits) : Statement (.blockLockDone bits) := rfl
theorem deskewDone (p : Port) (lane0 lane1 : LaneReport) (aligns : AlignPairs) : Statement (.deskewDone p lane0 lane1 aligns) := rfl
theorem linkStateTimeout (p : Port) : Statement (.linkStateTimeout p) := rfl
theorem trainingResend (p : Port) : Statement (.trainingResend p) := rfl
theorem faultRetry (p : Port) : Statement (.faultRetry p) := rfl
theorem los (p : Port) : Statement (.los p) := rfl
theorem clockUnlock (p : Port) : Statement (.clockUnlock p) := rfl
theorem blockUnlock (w : HeaderWindow) : Statement (.blockUnlock w) := rfl
theorem deskewLost (p : Port) : Statement (.deskewLost p) := rfl
theorem hiBer (p : Port) (invalidHeaders : Nat) : Statement (.hiBer p invalidHeaders) := rfl
theorem loadRetrain (p : Port) : Statement (.loadRetrain p) := rfl
theorem retrain (p : Port) : Statement (.retrain p) := rfl
theorem chirpRecognised (c : ClockSamples) : Statement (.chirpRecognised c) := rfl
theorem chirpSend (p : Port) : Statement (.chirpSend p) := rfl
theorem twinAliveToggle : Statement (.twinAliveToggle) := rfl
theorem twinAliveEdge : Statement (.twinAliveEdge) := rfl
theorem activeLost : Statement (.activeLost) := rfl
theorem digest (f : DigestFrame) : Statement (.digest f) := rfl
theorem digestMissing (g : Group) (frame : Nat) : Statement (.digestMissing g frame) := rfl
theorem healthSend : Statement (.healthSend) := rfl
theorem health (f : HealthFrame) : Statement (.health f) := rfl
theorem dualActive : Statement (.dualActive) := rfl
theorem streamSync (entries : List SyncEntry) : Statement (.streamSync entries) := rfl
theorem ackWaitTimeout : Statement (.ackWaitTimeout) := rfl
theorem mainsFrame (f : MainsFrame) : Statement (.mainsFrame f) := rfl
theorem cfgData (records : List W32) (last : Bool) : Statement (.cfgData records last) := rfl
theorem cfgCtrlReady (crc : W32) : Statement (.cfgCtrlReady crc) := rfl
theorem cfgCtrlArm (frame : Nat) : Statement (.cfgCtrlArm frame) := rfl
theorem cfgReadyTimeout : Statement (.cfgReadyTimeout) := rfl
theorem swapExecute : Statement (.swapExecute) := rfl
theorem vaultSync (vseq : W32) (tExit : Nat) : Statement (.vaultSync vseq tExit) := rfl
theorem sealSwitchChange (high : Bool) : Statement (.sealSwitchChange high) := rfl
theorem weightRecordIssue : Statement (.weightRecordIssue) := rfl
theorem alibiStoreWrite : Statement (.alibiStoreWrite) := rfl
theorem vaultWatchdog : Statement (.vaultWatchdog) := rfl
theorem claim (path : Path) : Statement (.claim path) := rfl
theorem transfer (path : Path) : Statement (.transfer path) := rfl
theorem release (path : Path) : Statement (.release path) := rfl
theorem setSbKey (path : Path) : Statement (.setSbKey path) := rfl
theorem setMetrologyKey (path : Path) : Statement (.setMetrologyKey path) := rfl
theorem endorse (path : Path) : Statement (.endorse path) := rfl
theorem setPolicy (path : Path) : Statement (.setPolicy path) := rfl
theorem unlockInject (path : Path) : Statement (.unlockInject path) := rfl
theorem lockInject (path : Path) : Statement (.lockInject path) := rfl
theorem unlockDebug (path : Path) : Statement (.unlockDebug path) := rfl
theorem backoffEnd : Statement (.backoffEnd) := rfl
theorem hibernate (path : Path) : Statement (.hibernate path) := rfl
theorem wake : Statement (.wake) := rfl
theorem wakeTimer : Statement (.wakeTimer) := rfl
theorem wakeGpio (e : WakeEdge) : Statement (.wakeGpio e) := rfl
theorem perstDeassert : Statement (.perstDeassert) := rfl
theorem hibSupplyTimeout : Statement (.hibSupplyTimeout) := rfl
theorem burstEnd : Statement (.burstEnd) := rfl
theorem pllRestart : Statement (.pllRestart) := rfl
theorem sbNop (f : SbFrame) : Statement (.sbNop f) := rfl
theorem sbRead (f : SbFrame) : Statement (.sbRead f) := rfl
theorem sbWrite (f : SbFrame) : Statement (.sbWrite f) := rfl
theorem sbDesc (f : SbFrame) : Statement (.sbDesc f) := rfl
theorem sbSvreq (f : SbFrame) : Statement (.sbSvreq f) := rfl
theorem flashProgram (offset : Nat) (data : List Byte) : Statement (.flashProgram offset data) := rfl
theorem flashProgramDone (second : Bool) (ok : Bool) : Statement (.flashProgramDone second ok) := rfl
theorem engineWatchdog : Statement (.engineWatchdog) := rfl
theorem engineReturn : Statement (.engineReturn) := rfl
theorem unitFatal (cause : FatalCause) : Statement (.unitFatal cause) := rfl
theorem errMsiTimer : Statement (.errMsiTimer) := rfl
theorem errlogPop (v : W32) : Statement (.errlogPop v) := rfl
theorem tracePop (v : W32) : Statement (.tracePop v) := rfl
theorem streamFlush (high : Bool) (w : W32) : Statement (.streamFlush high w) := rfl
theorem mantisForce (w : W32) : Statement (.mantisForce w) := rfl
theorem hubCtrl (v : W32) (path : Path) : Statement (.hubCtrl v path) := rfl
theorem pinOutSet (v : W32) : Statement (.pinOutSet v) := rfl
theorem pinOutClr (v : W32) : Statement (.pinOutClr v) := rfl
theorem registerWrite (req : RegRequest) : Statement (.registerWrite req) := rfl
theorem unalignedRead (req : RegRequest) : Statement (.unalignedRead req) := rfl
theorem pinSettle (k : Fin 33) (high : Bool) : Statement (.pinSettle k high) := rfl
theorem functionSwitchPark (k : Fin 32) : Statement (.functionSwitchPark k) := rfl
theorem functionSwitchConnect (k : Fin 32) : Statement (.functionSwitchConnect k) := rfl
theorem hibEntryDone : Statement (.hibEntryDone) := rfl
theorem refclkLoss : Statement (.refclkLoss) := rfl
theorem pllUnlock (converter : Bool) : Statement (.pllUnlock converter) := rfl
theorem flashEraseDone (second : Bool) (offset : Nat) (large : Bool) : Statement (.flashEraseDone second offset large) := rfl
theorem sbMalformedFrame (f : SbFrame) : Statement (.sbMalformedFrame f) := rfl
theorem reservedTypeFrame (p : Port) : Statement (.reservedTypeFrame p) := rfl
theorem compressionJobDone (lane : Fin 4) : Statement (.compressionJobDone lane) := rfl
theorem injectionDurationEnd (target : Nat) : Statement (.injectionDurationEnd target) := rfl
theorem pcieLinkUp : Statement .pcieLinkUp := rfl
theorem busMasterEnable (c : PcieControl) : Statement (.busMasterEnable c) := rfl

end Sys2Proof.Laws.Parts
end

