-- ==== Sys2Proof/Laws/State.lean ====
section
/-! SUPPORT. Every field of State under every named single-field update: each is true by rfl, and no later proof unfolds a record update. -/

namespace Sys2Proof.Machine

open Sys2Proof

@[simp] theorem State.setGrp_frame (s : State) (n : Nat) (v : GroupSt) :
    (s.setGrp n v).tm = s.tm ∧ (s.setGrp n v).otp = s.otp ∧ (s.setGrp n v).pads = s.pads ∧ (s.setGrp n v).boot = s.boot ∧ (s.setGrp n v).regs = s.regs ∧ (s.setGrp n v).edge = s.edge ∧ (s.setGrp n v).core = s.core ∧ (s.setGrp n v).pair = s.pair ∧ (s.setGrp n v).res = s.res ∧ (s.setGrp n v).ain = s.ain ∧ (s.setGrp n v).exc = s.exc ∧ (s.setGrp n v).pump = s.pump ∧ (s.setGrp n v).flt = s.flt ∧ (s.setGrp n v).mains = s.mains ∧ (s.setGrp n v).strm = s.strm ∧ (s.setGrp n v).hive = s.hive ∧ (s.setGrp n v).hiveLost = s.hiveLost ∧ (s.setGrp n v).stats = s.stats ∧ (s.setGrp n v).cond = s.cond ∧ (s.setGrp n v).trig = s.trig ∧ (s.setGrp n v).cap = s.cap ∧ (s.setGrp n v).mantis = s.mantis ∧ (s.setGrp n v).comp = s.comp ∧ (s.setGrp n v).ff = s.ff ∧ (s.setGrp n v).ffPort = s.ffPort ∧ (s.setGrp n v).txts = s.txts ∧ (s.setGrp n v).pulse = s.pulse ∧ (s.setGrp n v).link = s.link ∧ (s.setGrp n v).host = s.host ∧ (s.setGrp n v).sq = s.sq ∧ (s.setGrp n v).cq = s.cq ∧ (s.setGrp n v).cfg = s.cfg ∧ (s.setGrp n v).twin = s.twin ∧ (s.setGrp n v).vault = s.vault ∧ (s.setGrp n v).sv = s.sv ∧ (s.setGrp n v).pwr = s.pwr ∧ (s.setGrp n v).sb = s.sb ∧ (s.setGrp n v).flash = s.flash ∧ (s.setGrp n v).trace = s.trace ∧ (s.setGrp n v).log = s.log ∧ (s.setGrp n v).inj = s.inj ∧ (s.setGrp n v).injectedNow = s.injectedNow ∧ (s.setGrp n v).freeCtr = s.freeCtr ∧ (s.setGrp n v).pending = s.pending := ⟨rfl, rfl, rfl, rfl, rfl, rfl, rfl, rfl, rfl, rfl, rfl, rfl, rfl, rfl, rfl, rfl, rfl, rfl, rfl, rfl, rfl, rfl, rfl, rfl, rfl, rfl, rfl, rfl, rfl, rfl, rfl, rfl, rfl, rfl, rfl, rfl, rfl, rfl, rfl, rfl, rfl, rfl, rfl, rfl⟩

@[simp] theorem State.setEdge_frame (s : State) (n : Nat) (v : EdgeSample) :
    (s.setEdge n v).tm = s.tm ∧ (s.setEdge n v).otp = s.otp ∧ (s.setEdge n v).pads = s.pads ∧ (s.setEdge n v).boot = s.boot ∧ (s.setEdge n v).regs = s.regs ∧ (s.setEdge n v).grp = s.grp ∧ (s.setEdge n v).core = s.core ∧ (s.setEdge n v).pair = s.pair ∧ (s.setEdge n v).res = s.res ∧ (s.setEdge n v).ain = s.ain ∧ (s.setEdge n v).exc = s.exc ∧ (s.setEdge n v).pump = s.pump ∧ (s.setEdge n v).flt = s.flt ∧ (s.setEdge n v).mains = s.mains ∧ (s.setEdge n v).strm = s.strm ∧ (s.setEdge n v).hive = s.hive ∧ (s.setEdge n v).hiveLost = s.hiveLost ∧ (s.setEdge n v).stats = s.stats ∧ (s.setEdge n v).cond = s.cond ∧ (s.setEdge n v).trig = s.trig ∧ (s.setEdge n v).cap = s.cap ∧ (s.setEdge n v).mantis = s.mantis ∧ (s.setEdge n v).comp = s.comp ∧ (s.setEdge n v).ff = s.ff ∧ (s.setEdge n v).ffPort = s.ffPort ∧ (s.setEdge n v).txts = s.txts ∧ (s.setEdge n v).pulse = s.pulse ∧ (s.setEdge n v).link = s.link ∧ (s.setEdge n v).host = s.host ∧ (s.setEdge n v).sq = s.sq ∧ (s.setEdge n v).cq = s.cq ∧ (s.setEdge n v).cfg = s.cfg ∧ (s.setEdge n v).twin = s.twin ∧ (s.setEdge n v).vault = s.vault ∧ (s.setEdge n v).sv = s.sv ∧ (s.setEdge n v).pwr = s.pwr ∧ (s.setEdge n v).sb = s.sb ∧ (s.setEdge n v).flash = s.flash ∧ (s.setEdge n v).trace = s.trace ∧ (s.setEdge n v).log = s.log ∧ (s.setEdge n v).inj = s.inj ∧ (s.setEdge n v).injectedNow = s.injectedNow ∧ (s.setEdge n v).freeCtr = s.freeCtr ∧ (s.setEdge n v).pending = s.pending := ⟨rfl, rfl, rfl, rfl, rfl, rfl, rfl, rfl, rfl, rfl, rfl, rfl, rfl, rfl, rfl, rfl, rfl, rfl, rfl, rfl, rfl, rfl, rfl, rfl, rfl, rfl, rfl, rfl, rfl, rfl, rfl, rfl, rfl, rfl, rfl, rfl, rfl, rfl, rfl, rfl, rfl, rfl, rfl, rfl⟩

@[simp] theorem State.setCore_frame (s : State) (n : Nat) (v : CoreSt) :
    (s.setCore n v).tm = s.tm ∧ (s.setCore n v).otp = s.otp ∧ (s.setCore n v).pads = s.pads ∧ (s.setCore n v).boot = s.boot ∧ (s.setCore n v).regs = s.regs ∧ (s.setCore n v).grp = s.grp ∧ (s.setCore n v).edge = s.edge ∧ (s.setCore n v).pair = s.pair ∧ (s.setCore n v).res = s.res ∧ (s.setCore n v).ain = s.ain ∧ (s.setCore n v).exc = s.exc ∧ (s.setCore n v).pump = s.pump ∧ (s.setCore n v).flt = s.flt ∧ (s.setCore n v).mains = s.mains ∧ (s.setCore n v).strm = s.strm ∧ (s.setCore n v).hive = s.hive ∧ (s.setCore n v).hiveLost = s.hiveLost ∧ (s.setCore n v).stats = s.stats ∧ (s.setCore n v).cond = s.cond ∧ (s.setCore n v).trig = s.trig ∧ (s.setCore n v).cap = s.cap ∧ (s.setCore n v).mantis = s.mantis ∧ (s.setCore n v).comp = s.comp ∧ (s.setCore n v).ff = s.ff ∧ (s.setCore n v).ffPort = s.ffPort ∧ (s.setCore n v).txts = s.txts ∧ (s.setCore n v).pulse = s.pulse ∧ (s.setCore n v).link = s.link ∧ (s.setCore n v).host = s.host ∧ (s.setCore n v).sq = s.sq ∧ (s.setCore n v).cq = s.cq ∧ (s.setCore n v).cfg = s.cfg ∧ (s.setCore n v).twin = s.twin ∧ (s.setCore n v).vault = s.vault ∧ (s.setCore n v).sv = s.sv ∧ (s.setCore n v).pwr = s.pwr ∧ (s.setCore n v).sb = s.sb ∧ (s.setCore n v).flash = s.flash ∧ (s.setCore n v).trace = s.trace ∧ (s.setCore n v).log = s.log ∧ (s.setCore n v).inj = s.inj ∧ (s.setCore n v).injectedNow = s.injectedNow ∧ (s.setCore n v).freeCtr = s.freeCtr ∧ (s.setCore n v).pending = s.pending := ⟨rfl, rfl, rfl, rfl, rfl, rfl, rfl, rfl, rfl, rfl, rfl, rfl, rfl, rfl, rfl, rfl, rfl, rfl, rfl, rfl, rfl, rfl, rfl, rfl, rfl, rfl, rfl, rfl, rfl, rfl, rfl, rfl, rfl, rfl, rfl, rfl, rfl, rfl, rfl, rfl, rfl, rfl, rfl, rfl⟩

@[simp] theorem State.setPair_frame (s : State) (n : Nat) (v : CheckSt) :
    (s.setPair n v).tm = s.tm ∧ (s.setPair n v).otp = s.otp ∧ (s.setPair n v).pads = s.pads ∧ (s.setPair n v).boot = s.boot ∧ (s.setPair n v).regs = s.regs ∧ (s.setPair n v).grp = s.grp ∧ (s.setPair n v).edge = s.edge ∧ (s.setPair n v).core = s.core ∧ (s.setPair n v).res = s.res ∧ (s.setPair n v).ain = s.ain ∧ (s.setPair n v).exc = s.exc ∧ (s.setPair n v).pump = s.pump ∧ (s.setPair n v).flt = s.flt ∧ (s.setPair n v).mains = s.mains ∧ (s.setPair n v).strm = s.strm ∧ (s.setPair n v).hive = s.hive ∧ (s.setPair n v).hiveLost = s.hiveLost ∧ (s.setPair n v).stats = s.stats ∧ (s.setPair n v).cond = s.cond ∧ (s.setPair n v).trig = s.trig ∧ (s.setPair n v).cap = s.cap ∧ (s.setPair n v).mantis = s.mantis ∧ (s.setPair n v).comp = s.comp ∧ (s.setPair n v).ff = s.ff ∧ (s.setPair n v).ffPort = s.ffPort ∧ (s.setPair n v).txts = s.txts ∧ (s.setPair n v).pulse = s.pulse ∧ (s.setPair n v).link = s.link ∧ (s.setPair n v).host = s.host ∧ (s.setPair n v).sq = s.sq ∧ (s.setPair n v).cq = s.cq ∧ (s.setPair n v).cfg = s.cfg ∧ (s.setPair n v).twin = s.twin ∧ (s.setPair n v).vault = s.vault ∧ (s.setPair n v).sv = s.sv ∧ (s.setPair n v).pwr = s.pwr ∧ (s.setPair n v).sb = s.sb ∧ (s.setPair n v).flash = s.flash ∧ (s.setPair n v).trace = s.trace ∧ (s.setPair n v).log = s.log ∧ (s.setPair n v).inj = s.inj ∧ (s.setPair n v).injectedNow = s.injectedNow ∧ (s.setPair n v).freeCtr = s.freeCtr ∧ (s.setPair n v).pending = s.pending := ⟨rfl, rfl, rfl, rfl, rfl, rfl, rfl, rfl, rfl, rfl, rfl, rfl, rfl, rfl, rfl, rfl, rfl, rfl, rfl, rfl, rfl, rfl, rfl, rfl, rfl, rfl, rfl, rfl, rfl, rfl, rfl, rfl, rfl, rfl, rfl, rfl, rfl, rfl, rfl, rfl, rfl, rfl, rfl, rfl⟩

@[simp] theorem State.setRes_frame (s : State) (n : Nat) (v : Option ResultSt) :
    (s.setRes n v).tm = s.tm ∧ (s.setRes n v).otp = s.otp ∧ (s.setRes n v).pads = s.pads ∧ (s.setRes n v).boot = s.boot ∧ (s.setRes n v).regs = s.regs ∧ (s.setRes n v).grp = s.grp ∧ (s.setRes n v).edge = s.edge ∧ (s.setRes n v).core = s.core ∧ (s.setRes n v).pair = s.pair ∧ (s.setRes n v).ain = s.ain ∧ (s.setRes n v).exc = s.exc ∧ (s.setRes n v).pump = s.pump ∧ (s.setRes n v).flt = s.flt ∧ (s.setRes n v).mains = s.mains ∧ (s.setRes n v).strm = s.strm ∧ (s.setRes n v).hive = s.hive ∧ (s.setRes n v).hiveLost = s.hiveLost ∧ (s.setRes n v).stats = s.stats ∧ (s.setRes n v).cond = s.cond ∧ (s.setRes n v).trig = s.trig ∧ (s.setRes n v).cap = s.cap ∧ (s.setRes n v).mantis = s.mantis ∧ (s.setRes n v).comp = s.comp ∧ (s.setRes n v).ff = s.ff ∧ (s.setRes n v).ffPort = s.ffPort ∧ (s.setRes n v).txts = s.txts ∧ (s.setRes n v).pulse = s.pulse ∧ (s.setRes n v).link = s.link ∧ (s.setRes n v).host = s.host ∧ (s.setRes n v).sq = s.sq ∧ (s.setRes n v).cq = s.cq ∧ (s.setRes n v).cfg = s.cfg ∧ (s.setRes n v).twin = s.twin ∧ (s.setRes n v).vault = s.vault ∧ (s.setRes n v).sv = s.sv ∧ (s.setRes n v).pwr = s.pwr ∧ (s.setRes n v).sb = s.sb ∧ (s.setRes n v).flash = s.flash ∧ (s.setRes n v).trace = s.trace ∧ (s.setRes n v).log = s.log ∧ (s.setRes n v).inj = s.inj ∧ (s.setRes n v).injectedNow = s.injectedNow ∧ (s.setRes n v).freeCtr = s.freeCtr ∧ (s.setRes n v).pending = s.pending := ⟨rfl, rfl, rfl, rfl, rfl, rfl, rfl, rfl, rfl, rfl, rfl, rfl, rfl, rfl, rfl, rfl, rfl, rfl, rfl, rfl, rfl, rfl, rfl, rfl, rfl, rfl, rfl, rfl, rfl, rfl, rfl, rfl, rfl, rfl, rfl, rfl, rfl, rfl, rfl, rfl, rfl, rfl, rfl, rfl⟩

@[simp] theorem State.setAin_frame (s : State) (n : Nat) (v : InputSt) :
    (s.setAin n v).tm = s.tm ∧ (s.setAin n v).otp = s.otp ∧ (s.setAin n v).pads = s.pads ∧ (s.setAin n v).boot = s.boot ∧ (s.setAin n v).regs = s.regs ∧ (s.setAin n v).grp = s.grp ∧ (s.setAin n v).edge = s.edge ∧ (s.setAin n v).core = s.core ∧ (s.setAin n v).pair = s.pair ∧ (s.setAin n v).res = s.res ∧ (s.setAin n v).exc = s.exc ∧ (s.setAin n v).pump = s.pump ∧ (s.setAin n v).flt = s.flt ∧ (s.setAin n v).mains = s.mains ∧ (s.setAin n v).strm = s.strm ∧ (s.setAin n v).hive = s.hive ∧ (s.setAin n v).hiveLost = s.hiveLost ∧ (s.setAin n v).stats = s.stats ∧ (s.setAin n v).cond = s.cond ∧ (s.setAin n v).trig = s.trig ∧ (s.setAin n v).cap = s.cap ∧ (s.setAin n v).mantis = s.mantis ∧ (s.setAin n v).comp = s.comp ∧ (s.setAin n v).ff = s.ff ∧ (s.setAin n v).ffPort = s.ffPort ∧ (s.setAin n v).txts = s.txts ∧ (s.setAin n v).pulse = s.pulse ∧ (s.setAin n v).link = s.link ∧ (s.setAin n v).host = s.host ∧ (s.setAin n v).sq = s.sq ∧ (s.setAin n v).cq = s.cq ∧ (s.setAin n v).cfg = s.cfg ∧ (s.setAin n v).twin = s.twin ∧ (s.setAin n v).vault = s.vault ∧ (s.setAin n v).sv = s.sv ∧ (s.setAin n v).pwr = s.pwr ∧ (s.setAin n v).sb = s.sb ∧ (s.setAin n v).flash = s.flash ∧ (s.setAin n v).trace = s.trace ∧ (s.setAin n v).log = s.log ∧ (s.setAin n v).inj = s.inj ∧ (s.setAin n v).injectedNow = s.injectedNow ∧ (s.setAin n v).freeCtr = s.freeCtr ∧ (s.setAin n v).pending = s.pending := ⟨rfl, rfl, rfl, rfl, rfl, rfl, rfl, rfl, rfl, rfl, rfl, rfl, rfl, rfl, rfl, rfl, rfl, rfl, rfl, rfl, rfl, rfl, rfl, rfl, rfl, rfl, rfl, rfl, rfl, rfl, rfl, rfl, rfl, rfl, rfl, rfl, rfl, rfl, rfl, rfl, rfl, rfl, rfl, rfl⟩

@[simp] theorem State.setExc_frame (s : State) (n : Nat) (v : ExcSt) :
    (s.setExc n v).tm = s.tm ∧ (s.setExc n v).otp = s.otp ∧ (s.setExc n v).pads = s.pads ∧ (s.setExc n v).boot = s.boot ∧ (s.setExc n v).regs = s.regs ∧ (s.setExc n v).grp = s.grp ∧ (s.setExc n v).edge = s.edge ∧ (s.setExc n v).core = s.core ∧ (s.setExc n v).pair = s.pair ∧ (s.setExc n v).res = s.res ∧ (s.setExc n v).ain = s.ain ∧ (s.setExc n v).pump = s.pump ∧ (s.setExc n v).flt = s.flt ∧ (s.setExc n v).mains = s.mains ∧ (s.setExc n v).strm = s.strm ∧ (s.setExc n v).hive = s.hive ∧ (s.setExc n v).hiveLost = s.hiveLost ∧ (s.setExc n v).stats = s.stats ∧ (s.setExc n v).cond = s.cond ∧ (s.setExc n v).trig = s.trig ∧ (s.setExc n v).cap = s.cap ∧ (s.setExc n v).mantis = s.mantis ∧ (s.setExc n v).comp = s.comp ∧ (s.setExc n v).ff = s.ff ∧ (s.setExc n v).ffPort = s.ffPort ∧ (s.setExc n v).txts = s.txts ∧ (s.setExc n v).pulse = s.pulse ∧ (s.setExc n v).link = s.link ∧ (s.setExc n v).host = s.host ∧ (s.setExc n v).sq = s.sq ∧ (s.setExc n v).cq = s.cq ∧ (s.setExc n v).cfg = s.cfg ∧ (s.setExc n v).twin = s.twin ∧ (s.setExc n v).vault = s.vault ∧ (s.setExc n v).sv = s.sv ∧ (s.setExc n v).pwr = s.pwr ∧ (s.setExc n v).sb = s.sb ∧ (s.setExc n v).flash = s.flash ∧ (s.setExc n v).trace = s.trace ∧ (s.setExc n v).log = s.log ∧ (s.setExc n v).inj = s.inj ∧ (s.setExc n v).injectedNow = s.injectedNow ∧ (s.setExc n v).freeCtr = s.freeCtr ∧ (s.setExc n v).pending = s.pending := ⟨rfl, rfl, rfl, rfl, rfl, rfl, rfl, rfl, rfl, rfl, rfl, rfl, rfl, rfl, rfl, rfl, rfl, rfl, rfl, rfl, rfl, rfl, rfl, rfl, rfl, rfl, rfl, rfl, rfl, rfl, rfl, rfl, rfl, rfl, rfl, rfl, rfl, rfl, rfl, rfl, rfl, rfl, rfl, rfl⟩

@[simp] theorem State.setFlt_frame (s : State) (n : Nat) (v : StageSt) :
    (s.setFlt n v).tm = s.tm ∧ (s.setFlt n v).otp = s.otp ∧ (s.setFlt n v).pads = s.pads ∧ (s.setFlt n v).boot = s.boot ∧ (s.setFlt n v).regs = s.regs ∧ (s.setFlt n v).grp = s.grp ∧ (s.setFlt n v).edge = s.edge ∧ (s.setFlt n v).core = s.core ∧ (s.setFlt n v).pair = s.pair ∧ (s.setFlt n v).res = s.res ∧ (s.setFlt n v).ain = s.ain ∧ (s.setFlt n v).exc = s.exc ∧ (s.setFlt n v).pump = s.pump ∧ (s.setFlt n v).mains = s.mains ∧ (s.setFlt n v).strm = s.strm ∧ (s.setFlt n v).hive = s.hive ∧ (s.setFlt n v).hiveLost = s.hiveLost ∧ (s.setFlt n v).stats = s.stats ∧ (s.setFlt n v).cond = s.cond ∧ (s.setFlt n v).trig = s.trig ∧ (s.setFlt n v).cap = s.cap ∧ (s.setFlt n v).mantis = s.mantis ∧ (s.setFlt n v).comp = s.comp ∧ (s.setFlt n v).ff = s.ff ∧ (s.setFlt n v).ffPort = s.ffPort ∧ (s.setFlt n v).txts = s.txts ∧ (s.setFlt n v).pulse = s.pulse ∧ (s.setFlt n v).link = s.link ∧ (s.setFlt n v).host = s.host ∧ (s.setFlt n v).sq = s.sq ∧ (s.setFlt n v).cq = s.cq ∧ (s.setFlt n v).cfg = s.cfg ∧ (s.setFlt n v).twin = s.twin ∧ (s.setFlt n v).vault = s.vault ∧ (s.setFlt n v).sv = s.sv ∧ (s.setFlt n v).pwr = s.pwr ∧ (s.setFlt n v).sb = s.sb ∧ (s.setFlt n v).flash = s.flash ∧ (s.setFlt n v).trace = s.trace ∧ (s.setFlt n v).log = s.log ∧ (s.setFlt n v).inj = s.inj ∧ (s.setFlt n v).injectedNow = s.injectedNow ∧ (s.setFlt n v).freeCtr = s.freeCtr ∧ (s.setFlt n v).pending = s.pending := ⟨rfl, rfl, rfl, rfl, rfl, rfl, rfl, rfl, rfl, rfl, rfl, rfl, rfl, rfl, rfl, rfl, rfl, rfl, rfl, rfl, rfl, rfl, rfl, rfl, rfl, rfl, rfl, rfl, rfl, rfl, rfl, rfl, rfl, rfl, rfl, rfl, rfl, rfl, rfl, rfl, rfl, rfl, rfl, rfl⟩

@[simp] theorem State.setStrm_frame (s : State) (n : Nat) (v : StreamSt) :
    (s.setStrm n v).tm = s.tm ∧ (s.setStrm n v).otp = s.otp ∧ (s.setStrm n v).pads = s.pads ∧ (s.setStrm n v).boot = s.boot ∧ (s.setStrm n v).regs = s.regs ∧ (s.setStrm n v).grp = s.grp ∧ (s.setStrm n v).edge = s.edge ∧ (s.setStrm n v).core = s.core ∧ (s.setStrm n v).pair = s.pair ∧ (s.setStrm n v).res = s.res ∧ (s.setStrm n v).ain = s.ain ∧ (s.setStrm n v).exc = s.exc ∧ (s.setStrm n v).pump = s.pump ∧ (s.setStrm n v).flt = s.flt ∧ (s.setStrm n v).mains = s.mains ∧ (s.setStrm n v).hive = s.hive ∧ (s.setStrm n v).hiveLost = s.hiveLost ∧ (s.setStrm n v).stats = s.stats ∧ (s.setStrm n v).cond = s.cond ∧ (s.setStrm n v).trig = s.trig ∧ (s.setStrm n v).cap = s.cap ∧ (s.setStrm n v).mantis = s.mantis ∧ (s.setStrm n v).comp = s.comp ∧ (s.setStrm n v).ff = s.ff ∧ (s.setStrm n v).ffPort = s.ffPort ∧ (s.setStrm n v).txts = s.txts ∧ (s.setStrm n v).pulse = s.pulse ∧ (s.setStrm n v).link = s.link ∧ (s.setStrm n v).host = s.host ∧ (s.setStrm n v).sq = s.sq ∧ (s.setStrm n v).cq = s.cq ∧ (s.setStrm n v).cfg = s.cfg ∧ (s.setStrm n v).twin = s.twin ∧ (s.setStrm n v).vault = s.vault ∧ (s.setStrm n v).sv = s.sv ∧ (s.setStrm n v).pwr = s.pwr ∧ (s.setStrm n v).sb = s.sb ∧ (s.setStrm n v).flash = s.flash ∧ (s.setStrm n v).trace = s.trace ∧ (s.setStrm n v).log = s.log ∧ (s.setStrm n v).inj = s.inj ∧ (s.setStrm n v).injectedNow = s.injectedNow ∧ (s.setStrm n v).freeCtr = s.freeCtr ∧ (s.setStrm n v).pending = s.pending := ⟨rfl, rfl, rfl, rfl, rfl, rfl, rfl, rfl, rfl, rfl, rfl, rfl, rfl, rfl, rfl, rfl, rfl, rfl, rfl, rfl, rfl, rfl, rfl, rfl, rfl, rfl, rfl, rfl, rfl, rfl, rfl, rfl, rfl, rfl, rfl, rfl, rfl, rfl, rfl, rfl, rfl, rfl, rfl, rfl⟩

@[simp] theorem State.setHiveLost_frame (s : State) (n : Nat) (v : List (Nat × Tq)) :
    (s.setHiveLost n v).tm = s.tm ∧ (s.setHiveLost n v).otp = s.otp ∧ (s.setHiveLost n v).pads = s.pads ∧ (s.setHiveLost n v).boot = s.boot ∧ (s.setHiveLost n v).regs = s.regs ∧ (s.setHiveLost n v).grp = s.grp ∧ (s.setHiveLost n v).edge = s.edge ∧ (s.setHiveLost n v).core = s.core ∧ (s.setHiveLost n v).pair = s.pair ∧ (s.setHiveLost n v).res = s.res ∧ (s.setHiveLost n v).ain = s.ain ∧ (s.setHiveLost n v).exc = s.exc ∧ (s.setHiveLost n v).pump = s.pump ∧ (s.setHiveLost n v).flt = s.flt ∧ (s.setHiveLost n v).mains = s.mains ∧ (s.setHiveLost n v).strm = s.strm ∧ (s.setHiveLost n v).hive = s.hive ∧ (s.setHiveLost n v).stats = s.stats ∧ (s.setHiveLost n v).cond = s.cond ∧ (s.setHiveLost n v).trig = s.trig ∧ (s.setHiveLost n v).cap = s.cap ∧ (s.setHiveLost n v).mantis = s.mantis ∧ (s.setHiveLost n v).comp = s.comp ∧ (s.setHiveLost n v).ff = s.ff ∧ (s.setHiveLost n v).ffPort = s.ffPort ∧ (s.setHiveLost n v).txts = s.txts ∧ (s.setHiveLost n v).pulse = s.pulse ∧ (s.setHiveLost n v).link = s.link ∧ (s.setHiveLost n v).host = s.host ∧ (s.setHiveLost n v).sq = s.sq ∧ (s.setHiveLost n v).cq = s.cq ∧ (s.setHiveLost n v).cfg = s.cfg ∧ (s.setHiveLost n v).twin = s.twin ∧ (s.setHiveLost n v).vault = s.vault ∧ (s.setHiveLost n v).sv = s.sv ∧ (s.setHiveLost n v).pwr = s.pwr ∧ (s.setHiveLost n v).sb = s.sb ∧ (s.setHiveLost n v).flash = s.flash ∧ (s.setHiveLost n v).trace = s.trace ∧ (s.setHiveLost n v).log = s.log ∧ (s.setHiveLost n v).inj = s.inj ∧ (s.setHiveLost n v).injectedNow = s.injectedNow ∧ (s.setHiveLost n v).freeCtr = s.freeCtr ∧ (s.setHiveLost n v).pending = s.pending := ⟨rfl, rfl, rfl, rfl, rfl, rfl, rfl, rfl, rfl, rfl, rfl, rfl, rfl, rfl, rfl, rfl, rfl, rfl, rfl, rfl, rfl, rfl, rfl, rfl, rfl, rfl, rfl, rfl, rfl, rfl, rfl, rfl, rfl, rfl, rfl, rfl, rfl, rfl, rfl, rfl, rfl, rfl, rfl, rfl⟩

@[simp] theorem State.setStats_frame (s : State) (n : Nat) (v : StatCh) :
    (s.setStats n v).tm = s.tm ∧ (s.setStats n v).otp = s.otp ∧ (s.setStats n v).pads = s.pads ∧ (s.setStats n v).boot = s.boot ∧ (s.setStats n v).regs = s.regs ∧ (s.setStats n v).grp = s.grp ∧ (s.setStats n v).edge = s.edge ∧ (s.setStats n v).core = s.core ∧ (s.setStats n v).pair = s.pair ∧ (s.setStats n v).res = s.res ∧ (s.setStats n v).ain = s.ain ∧ (s.setStats n v).exc = s.exc ∧ (s.setStats n v).pump = s.pump ∧ (s.setStats n v).flt = s.flt ∧ (s.setStats n v).mains = s.mains ∧ (s.setStats n v).strm = s.strm ∧ (s.setStats n v).hive = s.hive ∧ (s.setStats n v).hiveLost = s.hiveLost ∧ (s.setStats n v).cond = s.cond ∧ (s.setStats n v).trig = s.trig ∧ (s.setStats n v).cap = s.cap ∧ (s.setStats n v).mantis = s.mantis ∧ (s.setStats n v).comp = s.comp ∧ (s.setStats n v).ff = s.ff ∧ (s.setStats n v).ffPort = s.ffPort ∧ (s.setStats n v).txts = s.txts ∧ (s.setStats n v).pulse = s.pulse ∧ (s.setStats n v).link = s.link ∧ (s.setStats n v).host = s.host ∧ (s.setStats n v).sq = s.sq ∧ (s.setStats n v).cq = s.cq ∧ (s.setStats n v).cfg = s.cfg ∧ (s.setStats n v).twin = s.twin ∧ (s.setStats n v).vault = s.vault ∧ (s.setStats n v).sv = s.sv ∧ (s.setStats n v).pwr = s.pwr ∧ (s.setStats n v).sb = s.sb ∧ (s.setStats n v).flash = s.flash ∧ (s.setStats n v).trace = s.trace ∧ (s.setStats n v).log = s.log ∧ (s.setStats n v).inj = s.inj ∧ (s.setStats n v).injectedNow = s.injectedNow ∧ (s.setStats n v).freeCtr = s.freeCtr ∧ (s.setStats n v).pending = s.pending := ⟨rfl, rfl, rfl, rfl, rfl, rfl, rfl, rfl, rfl, rfl, rfl, rfl, rfl, rfl, rfl, rfl, rfl, rfl, rfl, rfl, rfl, rfl, rfl, rfl, rfl, rfl, rfl, rfl, rfl, rfl, rfl, rfl, rfl, rfl, rfl, rfl, rfl, rfl, rfl, rfl, rfl, rfl, rfl, rfl⟩

@[simp] theorem State.setCond_frame (s : State) (n : Nat) (v : CondSt) :
    (s.setCond n v).tm = s.tm ∧ (s.setCond n v).otp = s.otp ∧ (s.setCond n v).pads = s.pads ∧ (s.setCond n v).boot = s.boot ∧ (s.setCond n v).regs = s.regs ∧ (s.setCond n v).grp = s.grp ∧ (s.setCond n v).edge = s.edge ∧ (s.setCond n v).core = s.core ∧ (s.setCond n v).pair = s.pair ∧ (s.setCond n v).res = s.res ∧ (s.setCond n v).ain = s.ain ∧ (s.setCond n v).exc = s.exc ∧ (s.setCond n v).pump = s.pump ∧ (s.setCond n v).flt = s.flt ∧ (s.setCond n v).mains = s.mains ∧ (s.setCond n v).strm = s.strm ∧ (s.setCond n v).hive = s.hive ∧ (s.setCond n v).hiveLost = s.hiveLost ∧ (s.setCond n v).stats = s.stats ∧ (s.setCond n v).trig = s.trig ∧ (s.setCond n v).cap = s.cap ∧ (s.setCond n v).mantis = s.mantis ∧ (s.setCond n v).comp = s.comp ∧ (s.setCond n v).ff = s.ff ∧ (s.setCond n v).ffPort = s.ffPort ∧ (s.setCond n v).txts = s.txts ∧ (s.setCond n v).pulse = s.pulse ∧ (s.setCond n v).link = s.link ∧ (s.setCond n v).host = s.host ∧ (s.setCond n v).sq = s.sq ∧ (s.setCond n v).cq = s.cq ∧ (s.setCond n v).cfg = s.cfg ∧ (s.setCond n v).twin = s.twin ∧ (s.setCond n v).vault = s.vault ∧ (s.setCond n v).sv = s.sv ∧ (s.setCond n v).pwr = s.pwr ∧ (s.setCond n v).sb = s.sb ∧ (s.setCond n v).flash = s.flash ∧ (s.setCond n v).trace = s.trace ∧ (s.setCond n v).log = s.log ∧ (s.setCond n v).inj = s.inj ∧ (s.setCond n v).injectedNow = s.injectedNow ∧ (s.setCond n v).freeCtr = s.freeCtr ∧ (s.setCond n v).pending = s.pending := ⟨rfl, rfl, rfl, rfl, rfl, rfl, rfl, rfl, rfl, rfl, rfl, rfl, rfl, rfl, rfl, rfl, rfl, rfl, rfl, rfl, rfl, rfl, rfl, rfl, rfl, rfl, rfl, rfl, rfl, rfl, rfl, rfl, rfl, rfl, rfl, rfl, rfl, rfl, rfl, rfl, rfl, rfl, rfl, rfl⟩

@[simp] theorem State.setTrig_frame (s : State) (n : Nat) (v : TrigSt) :
    (s.setTrig n v).tm = s.tm ∧ (s.setTrig n v).otp = s.otp ∧ (s.setTrig n v).pads = s.pads ∧ (s.setTrig n v).boot = s.boot ∧ (s.setTrig n v).regs = s.regs ∧ (s.setTrig n v).grp = s.grp ∧ (s.setTrig n v).edge = s.edge ∧ (s.setTrig n v).core = s.core ∧ (s.setTrig n v).pair = s.pair ∧ (s.setTrig n v).res = s.res ∧ (s.setTrig n v).ain = s.ain ∧ (s.setTrig n v).exc = s.exc ∧ (s.setTrig n v).pump = s.pump ∧ (s.setTrig n v).flt = s.flt ∧ (s.setTrig n v).mains = s.mains ∧ (s.setTrig n v).strm = s.strm ∧ (s.setTrig n v).hive = s.hive ∧ (s.setTrig n v).hiveLost = s.hiveLost ∧ (s.setTrig n v).stats = s.stats ∧ (s.setTrig n v).cond = s.cond ∧ (s.setTrig n v).cap = s.cap ∧ (s.setTrig n v).mantis = s.mantis ∧ (s.setTrig n v).comp = s.comp ∧ (s.setTrig n v).ff = s.ff ∧ (s.setTrig n v).ffPort = s.ffPort ∧ (s.setTrig n v).txts = s.txts ∧ (s.setTrig n v).pulse = s.pulse ∧ (s.setTrig n v).link = s.link ∧ (s.setTrig n v).host = s.host ∧ (s.setTrig n v).sq = s.sq ∧ (s.setTrig n v).cq = s.cq ∧ (s.setTrig n v).cfg = s.cfg ∧ (s.setTrig n v).twin = s.twin ∧ (s.setTrig n v).vault = s.vault ∧ (s.setTrig n v).sv = s.sv ∧ (s.setTrig n v).pwr = s.pwr ∧ (s.setTrig n v).sb = s.sb ∧ (s.setTrig n v).flash = s.flash ∧ (s.setTrig n v).trace = s.trace ∧ (s.setTrig n v).log = s.log ∧ (s.setTrig n v).inj = s.inj ∧ (s.setTrig n v).injectedNow = s.injectedNow ∧ (s.setTrig n v).freeCtr = s.freeCtr ∧ (s.setTrig n v).pending = s.pending := ⟨rfl, rfl, rfl, rfl, rfl, rfl, rfl, rfl, rfl, rfl, rfl, rfl, rfl, rfl, rfl, rfl, rfl, rfl, rfl, rfl, rfl, rfl, rfl, rfl, rfl, rfl, rfl, rfl, rfl, rfl, rfl, rfl, rfl, rfl, rfl, rfl, rfl, rfl, rfl, rfl, rfl, rfl, rfl, rfl⟩

@[simp] theorem State.setCap_frame (s : State) (n : Nat) (v : CapSt) :
    (s.setCap n v).tm = s.tm ∧ (s.setCap n v).otp = s.otp ∧ (s.setCap n v).pads = s.pads ∧ (s.setCap n v).boot = s.boot ∧ (s.setCap n v).regs = s.regs ∧ (s.setCap n v).grp = s.grp ∧ (s.setCap n v).edge = s.edge ∧ (s.setCap n v).core = s.core ∧ (s.setCap n v).pair = s.pair ∧ (s.setCap n v).res = s.res ∧ (s.setCap n v).ain = s.ain ∧ (s.setCap n v).exc = s.exc ∧ (s.setCap n v).pump = s.pump ∧ (s.setCap n v).flt = s.flt ∧ (s.setCap n v).mains = s.mains ∧ (s.setCap n v).strm = s.strm ∧ (s.setCap n v).hive = s.hive ∧ (s.setCap n v).hiveLost = s.hiveLost ∧ (s.setCap n v).stats = s.stats ∧ (s.setCap n v).cond = s.cond ∧ (s.setCap n v).trig = s.trig ∧ (s.setCap n v).mantis = s.mantis ∧ (s.setCap n v).comp = s.comp ∧ (s.setCap n v).ff = s.ff ∧ (s.setCap n v).ffPort = s.ffPort ∧ (s.setCap n v).txts = s.txts ∧ (s.setCap n v).pulse = s.pulse ∧ (s.setCap n v).link = s.link ∧ (s.setCap n v).host = s.host ∧ (s.setCap n v).sq = s.sq ∧ (s.setCap n v).cq = s.cq ∧ (s.setCap n v).cfg = s.cfg ∧ (s.setCap n v).twin = s.twin ∧ (s.setCap n v).vault = s.vault ∧ (s.setCap n v).sv = s.sv ∧ (s.setCap n v).pwr = s.pwr ∧ (s.setCap n v).sb = s.sb ∧ (s.setCap n v).flash = s.flash ∧ (s.setCap n v).trace = s.trace ∧ (s.setCap n v).log = s.log ∧ (s.setCap n v).inj = s.inj ∧ (s.setCap n v).injectedNow = s.injectedNow ∧ (s.setCap n v).freeCtr = s.freeCtr ∧ (s.setCap n v).pending = s.pending := ⟨rfl, rfl, rfl, rfl, rfl, rfl, rfl, rfl, rfl, rfl, rfl, rfl, rfl, rfl, rfl, rfl, rfl, rfl, rfl, rfl, rfl, rfl, rfl, rfl, rfl, rfl, rfl, rfl, rfl, rfl, rfl, rfl, rfl, rfl, rfl, rfl, rfl, rfl, rfl, rfl, rfl, rfl, rfl, rfl⟩

@[simp] theorem State.setFfPort_frame (s : State) (n : Nat) (v : FfPortSt) :
    (s.setFfPort n v).tm = s.tm ∧ (s.setFfPort n v).otp = s.otp ∧ (s.setFfPort n v).pads = s.pads ∧ (s.setFfPort n v).boot = s.boot ∧ (s.setFfPort n v).regs = s.regs ∧ (s.setFfPort n v).grp = s.grp ∧ (s.setFfPort n v).edge = s.edge ∧ (s.setFfPort n v).core = s.core ∧ (s.setFfPort n v).pair = s.pair ∧ (s.setFfPort n v).res = s.res ∧ (s.setFfPort n v).ain = s.ain ∧ (s.setFfPort n v).exc = s.exc ∧ (s.setFfPort n v).pump = s.pump ∧ (s.setFfPort n v).flt = s.flt ∧ (s.setFfPort n v).mains = s.mains ∧ (s.setFfPort n v).strm = s.strm ∧ (s.setFfPort n v).hive = s.hive ∧ (s.setFfPort n v).hiveLost = s.hiveLost ∧ (s.setFfPort n v).stats = s.stats ∧ (s.setFfPort n v).cond = s.cond ∧ (s.setFfPort n v).trig = s.trig ∧ (s.setFfPort n v).cap = s.cap ∧ (s.setFfPort n v).mantis = s.mantis ∧ (s.setFfPort n v).comp = s.comp ∧ (s.setFfPort n v).ff = s.ff ∧ (s.setFfPort n v).txts = s.txts ∧ (s.setFfPort n v).pulse = s.pulse ∧ (s.setFfPort n v).link = s.link ∧ (s.setFfPort n v).host = s.host ∧ (s.setFfPort n v).sq = s.sq ∧ (s.setFfPort n v).cq = s.cq ∧ (s.setFfPort n v).cfg = s.cfg ∧ (s.setFfPort n v).twin = s.twin ∧ (s.setFfPort n v).vault = s.vault ∧ (s.setFfPort n v).sv = s.sv ∧ (s.setFfPort n v).pwr = s.pwr ∧ (s.setFfPort n v).sb = s.sb ∧ (s.setFfPort n v).flash = s.flash ∧ (s.setFfPort n v).trace = s.trace ∧ (s.setFfPort n v).log = s.log ∧ (s.setFfPort n v).inj = s.inj ∧ (s.setFfPort n v).injectedNow = s.injectedNow ∧ (s.setFfPort n v).freeCtr = s.freeCtr ∧ (s.setFfPort n v).pending = s.pending := ⟨rfl, rfl, rfl, rfl, rfl, rfl, rfl, rfl, rfl, rfl, rfl, rfl, rfl, rfl, rfl, rfl, rfl, rfl, rfl, rfl, rfl, rfl, rfl, rfl, rfl, rfl, rfl, rfl, rfl, rfl, rfl, rfl, rfl, rfl, rfl, rfl, rfl, rfl, rfl, rfl, rfl, rfl, rfl, rfl⟩

@[simp] theorem State.setTxts_frame (s : State) (n : Nat) (v : TxtsSt) :
    (s.setTxts n v).tm = s.tm ∧ (s.setTxts n v).otp = s.otp ∧ (s.setTxts n v).pads = s.pads ∧ (s.setTxts n v).boot = s.boot ∧ (s.setTxts n v).regs = s.regs ∧ (s.setTxts n v).grp = s.grp ∧ (s.setTxts n v).edge = s.edge ∧ (s.setTxts n v).core = s.core ∧ (s.setTxts n v).pair = s.pair ∧ (s.setTxts n v).res = s.res ∧ (s.setTxts n v).ain = s.ain ∧ (s.setTxts n v).exc = s.exc ∧ (s.setTxts n v).pump = s.pump ∧ (s.setTxts n v).flt = s.flt ∧ (s.setTxts n v).mains = s.mains ∧ (s.setTxts n v).strm = s.strm ∧ (s.setTxts n v).hive = s.hive ∧ (s.setTxts n v).hiveLost = s.hiveLost ∧ (s.setTxts n v).stats = s.stats ∧ (s.setTxts n v).cond = s.cond ∧ (s.setTxts n v).trig = s.trig ∧ (s.setTxts n v).cap = s.cap ∧ (s.setTxts n v).mantis = s.mantis ∧ (s.setTxts n v).comp = s.comp ∧ (s.setTxts n v).ff = s.ff ∧ (s.setTxts n v).ffPort = s.ffPort ∧ (s.setTxts n v).pulse = s.pulse ∧ (s.setTxts n v).link = s.link ∧ (s.setTxts n v).host = s.host ∧ (s.setTxts n v).sq = s.sq ∧ (s.setTxts n v).cq = s.cq ∧ (s.setTxts n v).cfg = s.cfg ∧ (s.setTxts n v).twin = s.twin ∧ (s.setTxts n v).vault = s.vault ∧ (s.setTxts n v).sv = s.sv ∧ (s.setTxts n v).pwr = s.pwr ∧ (s.setTxts n v).sb = s.sb ∧ (s.setTxts n v).flash = s.flash ∧ (s.setTxts n v).trace = s.trace ∧ (s.setTxts n v).log = s.log ∧ (s.setTxts n v).inj = s.inj ∧ (s.setTxts n v).injectedNow = s.injectedNow ∧ (s.setTxts n v).freeCtr = s.freeCtr ∧ (s.setTxts n v).pending = s.pending := ⟨rfl, rfl, rfl, rfl, rfl, rfl, rfl, rfl, rfl, rfl, rfl, rfl, rfl, rfl, rfl, rfl, rfl, rfl, rfl, rfl, rfl, rfl, rfl, rfl, rfl, rfl, rfl, rfl, rfl, rfl, rfl, rfl, rfl, rfl, rfl, rfl, rfl, rfl, rfl, rfl, rfl, rfl, rfl, rfl⟩

@[simp] theorem State.setPulse_frame (s : State) (n : Nat) (v : PulseSt) :
    (s.setPulse n v).tm = s.tm ∧ (s.setPulse n v).otp = s.otp ∧ (s.setPulse n v).pads = s.pads ∧ (s.setPulse n v).boot = s.boot ∧ (s.setPulse n v).regs = s.regs ∧ (s.setPulse n v).grp = s.grp ∧ (s.setPulse n v).edge = s.edge ∧ (s.setPulse n v).core = s.core ∧ (s.setPulse n v).pair = s.pair ∧ (s.setPulse n v).res = s.res ∧ (s.setPulse n v).ain = s.ain ∧ (s.setPulse n v).exc = s.exc ∧ (s.setPulse n v).pump = s.pump ∧ (s.setPulse n v).flt = s.flt ∧ (s.setPulse n v).mains = s.mains ∧ (s.setPulse n v).strm = s.strm ∧ (s.setPulse n v).hive = s.hive ∧ (s.setPulse n v).hiveLost = s.hiveLost ∧ (s.setPulse n v).stats = s.stats ∧ (s.setPulse n v).cond = s.cond ∧ (s.setPulse n v).trig = s.trig ∧ (s.setPulse n v).cap = s.cap ∧ (s.setPulse n v).mantis = s.mantis ∧ (s.setPulse n v).comp = s.comp ∧ (s.setPulse n v).ff = s.ff ∧ (s.setPulse n v).ffPort = s.ffPort ∧ (s.setPulse n v).txts = s.txts ∧ (s.setPulse n v).link = s.link ∧ (s.setPulse n v).host = s.host ∧ (s.setPulse n v).sq = s.sq ∧ (s.setPulse n v).cq = s.cq ∧ (s.setPulse n v).cfg = s.cfg ∧ (s.setPulse n v).twin = s.twin ∧ (s.setPulse n v).vault = s.vault ∧ (s.setPulse n v).sv = s.sv ∧ (s.setPulse n v).pwr = s.pwr ∧ (s.setPulse n v).sb = s.sb ∧ (s.setPulse n v).flash = s.flash ∧ (s.setPulse n v).trace = s.trace ∧ (s.setPulse n v).log = s.log ∧ (s.setPulse n v).inj = s.inj ∧ (s.setPulse n v).injectedNow = s.injectedNow ∧ (s.setPulse n v).freeCtr = s.freeCtr ∧ (s.setPulse n v).pending = s.pending := ⟨rfl, rfl, rfl, rfl, rfl, rfl, rfl, rfl, rfl, rfl, rfl, rfl, rfl, rfl, rfl, rfl, rfl, rfl, rfl, rfl, rfl, rfl, rfl, rfl, rfl, rfl, rfl, rfl, rfl, rfl, rfl, rfl, rfl, rfl, rfl, rfl, rfl, rfl, rfl, rfl, rfl, rfl, rfl, rfl⟩

@[simp] theorem State.setLink_frame (s : State) (n : Nat) (v : LinkSt) :
    (s.setLink n v).tm = s.tm ∧ (s.setLink n v).otp = s.otp ∧ (s.setLink n v).pads = s.pads ∧ (s.setLink n v).boot = s.boot ∧ (s.setLink n v).regs = s.regs ∧ (s.setLink n v).grp = s.grp ∧ (s.setLink n v).edge = s.edge ∧ (s.setLink n v).core = s.core ∧ (s.setLink n v).pair = s.pair ∧ (s.setLink n v).res = s.res ∧ (s.setLink n v).ain = s.ain ∧ (s.setLink n v).exc = s.exc ∧ (s.setLink n v).pump = s.pump ∧ (s.setLink n v).flt = s.flt ∧ (s.setLink n v).mains = s.mains ∧ (s.setLink n v).strm = s.strm ∧ (s.setLink n v).hive = s.hive ∧ (s.setLink n v).hiveLost = s.hiveLost ∧ (s.setLink n v).stats = s.stats ∧ (s.setLink n v).cond = s.cond ∧ (s.setLink n v).trig = s.trig ∧ (s.setLink n v).cap = s.cap ∧ (s.setLink n v).mantis = s.mantis ∧ (s.setLink n v).comp = s.comp ∧ (s.setLink n v).ff = s.ff ∧ (s.setLink n v).ffPort = s.ffPort ∧ (s.setLink n v).txts = s.txts ∧ (s.setLink n v).pulse = s.pulse ∧ (s.setLink n v).host = s.host ∧ (s.setLink n v).sq = s.sq ∧ (s.setLink n v).cq = s.cq ∧ (s.setLink n v).cfg = s.cfg ∧ (s.setLink n v).twin = s.twin ∧ (s.setLink n v).vault = s.vault ∧ (s.setLink n v).sv = s.sv ∧ (s.setLink n v).pwr = s.pwr ∧ (s.setLink n v).sb = s.sb ∧ (s.setLink n v).flash = s.flash ∧ (s.setLink n v).trace = s.trace ∧ (s.setLink n v).log = s.log ∧ (s.setLink n v).inj = s.inj ∧ (s.setLink n v).injectedNow = s.injectedNow ∧ (s.setLink n v).freeCtr = s.freeCtr ∧ (s.setLink n v).pending = s.pending := ⟨rfl, rfl, rfl, rfl, rfl, rfl, rfl, rfl, rfl, rfl, rfl, rfl, rfl, rfl, rfl, rfl, rfl, rfl, rfl, rfl, rfl, rfl, rfl, rfl, rfl, rfl, rfl, rfl, rfl, rfl, rfl, rfl, rfl, rfl, rfl, rfl, rfl, rfl, rfl, rfl, rfl, rfl, rfl, rfl⟩

@[simp] theorem State.setSq_frame (s : State) (n : Nat) (v : SqSt) :
    (s.setSq n v).tm = s.tm ∧ (s.setSq n v).otp = s.otp ∧ (s.setSq n v).pads = s.pads ∧ (s.setSq n v).boot = s.boot ∧ (s.setSq n v).regs = s.regs ∧ (s.setSq n v).grp = s.grp ∧ (s.setSq n v).edge = s.edge ∧ (s.setSq n v).core = s.core ∧ (s.setSq n v).pair = s.pair ∧ (s.setSq n v).res = s.res ∧ (s.setSq n v).ain = s.ain ∧ (s.setSq n v).exc = s.exc ∧ (s.setSq n v).pump = s.pump ∧ (s.setSq n v).flt = s.flt ∧ (s.setSq n v).mains = s.mains ∧ (s.setSq n v).strm = s.strm ∧ (s.setSq n v).hive = s.hive ∧ (s.setSq n v).hiveLost = s.hiveLost ∧ (s.setSq n v).stats = s.stats ∧ (s.setSq n v).cond = s.cond ∧ (s.setSq n v).trig = s.trig ∧ (s.setSq n v).cap = s.cap ∧ (s.setSq n v).mantis = s.mantis ∧ (s.setSq n v).comp = s.comp ∧ (s.setSq n v).ff = s.ff ∧ (s.setSq n v).ffPort = s.ffPort ∧ (s.setSq n v).txts = s.txts ∧ (s.setSq n v).pulse = s.pulse ∧ (s.setSq n v).link = s.link ∧ (s.setSq n v).host = s.host ∧ (s.setSq n v).cq = s.cq ∧ (s.setSq n v).cfg = s.cfg ∧ (s.setSq n v).twin = s.twin ∧ (s.setSq n v).vault = s.vault ∧ (s.setSq n v).sv = s.sv ∧ (s.setSq n v).pwr = s.pwr ∧ (s.setSq n v).sb = s.sb ∧ (s.setSq n v).flash = s.flash ∧ (s.setSq n v).trace = s.trace ∧ (s.setSq n v).log = s.log ∧ (s.setSq n v).inj = s.inj ∧ (s.setSq n v).injectedNow = s.injectedNow ∧ (s.setSq n v).freeCtr = s.freeCtr ∧ (s.setSq n v).pending = s.pending := ⟨rfl, rfl, rfl, rfl, rfl, rfl, rfl, rfl, rfl, rfl, rfl, rfl, rfl, rfl, rfl, rfl, rfl, rfl, rfl, rfl, rfl, rfl, rfl, rfl, rfl, rfl, rfl, rfl, rfl, rfl, rfl, rfl, rfl, rfl, rfl, rfl, rfl, rfl, rfl, rfl, rfl, rfl, rfl, rfl⟩

@[simp] theorem State.setCq_frame (s : State) (n : Nat) (v : CqSt) :
    (s.setCq n v).tm = s.tm ∧ (s.setCq n v).otp = s.otp ∧ (s.setCq n v).pads = s.pads ∧ (s.setCq n v).boot = s.boot ∧ (s.setCq n v).regs = s.regs ∧ (s.setCq n v).grp = s.grp ∧ (s.setCq n v).edge = s.edge ∧ (s.setCq n v).core = s.core ∧ (s.setCq n v).pair = s.pair ∧ (s.setCq n v).res = s.res ∧ (s.setCq n v).ain = s.ain ∧ (s.setCq n v).exc = s.exc ∧ (s.setCq n v).pump = s.pump ∧ (s.setCq n v).flt = s.flt ∧ (s.setCq n v).mains = s.mains ∧ (s.setCq n v).strm = s.strm ∧ (s.setCq n v).hive = s.hive ∧ (s.setCq n v).hiveLost = s.hiveLost ∧ (s.setCq n v).stats = s.stats ∧ (s.setCq n v).cond = s.cond ∧ (s.setCq n v).trig = s.trig ∧ (s.setCq n v).cap = s.cap ∧ (s.setCq n v).mantis = s.mantis ∧ (s.setCq n v).comp = s.comp ∧ (s.setCq n v).ff = s.ff ∧ (s.setCq n v).ffPort = s.ffPort ∧ (s.setCq n v).txts = s.txts ∧ (s.setCq n v).pulse = s.pulse ∧ (s.setCq n v).link = s.link ∧ (s.setCq n v).host = s.host ∧ (s.setCq n v).sq = s.sq ∧ (s.setCq n v).cfg = s.cfg ∧ (s.setCq n v).twin = s.twin ∧ (s.setCq n v).vault = s.vault ∧ (s.setCq n v).sv = s.sv ∧ (s.setCq n v).pwr = s.pwr ∧ (s.setCq n v).sb = s.sb ∧ (s.setCq n v).flash = s.flash ∧ (s.setCq n v).trace = s.trace ∧ (s.setCq n v).log = s.log ∧ (s.setCq n v).inj = s.inj ∧ (s.setCq n v).injectedNow = s.injectedNow ∧ (s.setCq n v).freeCtr = s.freeCtr ∧ (s.setCq n v).pending = s.pending := ⟨rfl, rfl, rfl, rfl, rfl, rfl, rfl, rfl, rfl, rfl, rfl, rfl, rfl, rfl, rfl, rfl, rfl, rfl, rfl, rfl, rfl, rfl, rfl, rfl, rfl, rfl, rfl, rfl, rfl, rfl, rfl, rfl, rfl, rfl, rfl, rfl, rfl, rfl, rfl, rfl, rfl, rfl, rfl, rfl⟩

@[simp] theorem State.setReg_frame (s : State) (a : Nat) (v : W32) :
    (s.setReg a v).tm = s.tm ∧ (s.setReg a v).otp = s.otp ∧ (s.setReg a v).pads = s.pads ∧ (s.setReg a v).boot = s.boot ∧ (s.setReg a v).grp = s.grp ∧ (s.setReg a v).edge = s.edge ∧ (s.setReg a v).core = s.core ∧ (s.setReg a v).pair = s.pair ∧ (s.setReg a v).res = s.res ∧ (s.setReg a v).ain = s.ain ∧ (s.setReg a v).exc = s.exc ∧ (s.setReg a v).pump = s.pump ∧ (s.setReg a v).flt = s.flt ∧ (s.setReg a v).mains = s.mains ∧ (s.setReg a v).strm = s.strm ∧ (s.setReg a v).hive = s.hive ∧ (s.setReg a v).hiveLost = s.hiveLost ∧ (s.setReg a v).stats = s.stats ∧ (s.setReg a v).cond = s.cond ∧ (s.setReg a v).trig = s.trig ∧ (s.setReg a v).cap = s.cap ∧ (s.setReg a v).mantis = s.mantis ∧ (s.setReg a v).comp = s.comp ∧ (s.setReg a v).ff = s.ff ∧ (s.setReg a v).ffPort = s.ffPort ∧ (s.setReg a v).txts = s.txts ∧ (s.setReg a v).pulse = s.pulse ∧ (s.setReg a v).link = s.link ∧ (s.setReg a v).host = s.host ∧ (s.setReg a v).sq = s.sq ∧ (s.setReg a v).cq = s.cq ∧ (s.setReg a v).cfg = s.cfg ∧ (s.setReg a v).twin = s.twin ∧ (s.setReg a v).vault = s.vault ∧ (s.setReg a v).sv = s.sv ∧ (s.setReg a v).pwr = s.pwr ∧ (s.setReg a v).sb = s.sb ∧ (s.setReg a v).flash = s.flash ∧ (s.setReg a v).trace = s.trace ∧ (s.setReg a v).log = s.log ∧ (s.setReg a v).inj = s.inj ∧ (s.setReg a v).injectedNow = s.injectedNow ∧ (s.setReg a v).freeCtr = s.freeCtr ∧ (s.setReg a v).pending = s.pending := ⟨rfl, rfl, rfl, rfl, rfl, rfl, rfl, rfl, rfl, rfl, rfl, rfl, rfl, rfl, rfl, rfl, rfl, rfl, rfl, rfl, rfl, rfl, rfl, rfl, rfl, rfl, rfl, rfl, rfl, rfl, rfl, rfl, rfl, rfl, rfl, rfl, rfl, rfl, rfl, rfl, rfl, rfl, rfl, rfl⟩

@[simp] theorem State.updGrp_frame (s : State) (n : Nat) (f : GroupSt → GroupSt) :
    (s.updGrp n f).tm = s.tm ∧ (s.updGrp n f).otp = s.otp ∧ (s.updGrp n f).pads = s.pads ∧ (s.updGrp n f).boot = s.boot ∧ (s.updGrp n f).regs = s.regs ∧ (s.updGrp n f).edge = s.edge ∧ (s.updGrp n f).core = s.core ∧ (s.updGrp n f).pair = s.pair ∧ (s.updGrp n f).res = s.res ∧ (s.updGrp n f).ain = s.ain ∧ (s.updGrp n f).exc = s.exc ∧ (s.updGrp n f).pump = s.pump ∧ (s.updGrp n f).flt = s.flt ∧ (s.updGrp n f).mains = s.mains ∧ (s.updGrp n f).strm = s.strm ∧ (s.updGrp n f).hive = s.hive ∧ (s.updGrp n f).hiveLost = s.hiveLost ∧ (s.updGrp n f).stats = s.stats ∧ (s.updGrp n f).cond = s.cond ∧ (s.updGrp n f).trig = s.trig ∧ (s.updGrp n f).cap = s.cap ∧ (s.updGrp n f).mantis = s.mantis ∧ (s.updGrp n f).comp = s.comp ∧ (s.updGrp n f).ff = s.ff ∧ (s.updGrp n f).ffPort = s.ffPort ∧ (s.updGrp n f).txts = s.txts ∧ (s.updGrp n f).pulse = s.pulse ∧ (s.updGrp n f).link = s.link ∧ (s.updGrp n f).host = s.host ∧ (s.updGrp n f).sq = s.sq ∧ (s.updGrp n f).cq = s.cq ∧ (s.updGrp n f).cfg = s.cfg ∧ (s.updGrp n f).twin = s.twin ∧ (s.updGrp n f).vault = s.vault ∧ (s.updGrp n f).sv = s.sv ∧ (s.updGrp n f).pwr = s.pwr ∧ (s.updGrp n f).sb = s.sb ∧ (s.updGrp n f).flash = s.flash ∧ (s.updGrp n f).trace = s.trace ∧ (s.updGrp n f).log = s.log ∧ (s.updGrp n f).inj = s.inj ∧ (s.updGrp n f).injectedNow = s.injectedNow ∧ (s.updGrp n f).freeCtr = s.freeCtr ∧ (s.updGrp n f).pending = s.pending := ⟨rfl, rfl, rfl, rfl, rfl, rfl, rfl, rfl, rfl, rfl, rfl, rfl, rfl, rfl, rfl, rfl, rfl, rfl, rfl, rfl, rfl, rfl, rfl, rfl, rfl, rfl, rfl, rfl, rfl, rfl, rfl, rfl, rfl, rfl, rfl, rfl, rfl, rfl, rfl, rfl, rfl, rfl, rfl, rfl⟩

@[simp] theorem State.updEdge_frame (s : State) (n : Nat) (f : EdgeSample → EdgeSample) :
    (s.updEdge n f).tm = s.tm ∧ (s.updEdge n f).otp = s.otp ∧ (s.updEdge n f).pads = s.pads ∧ (s.updEdge n f).boot = s.boot ∧ (s.updEdge n f).regs = s.regs ∧ (s.updEdge n f).grp = s.grp ∧ (s.updEdge n f).core = s.core ∧ (s.updEdge n f).pair = s.pair ∧ (s.updEdge n f).res = s.res ∧ (s.updEdge n f).ain = s.ain ∧ (s.updEdge n f).exc = s.exc ∧ (s.updEdge n f).pump = s.pump ∧ (s.updEdge n f).flt = s.flt ∧ (s.updEdge n f).mains = s.mains ∧ (s.updEdge n f).strm = s.strm ∧ (s.updEdge n f).hive = s.hive ∧ (s.updEdge n f).hiveLost = s.hiveLost ∧ (s.updEdge n f).stats = s.stats ∧ (s.updEdge n f).cond = s.cond ∧ (s.updEdge n f).trig = s.trig ∧ (s.updEdge n f).cap = s.cap ∧ (s.updEdge n f).mantis = s.mantis ∧ (s.updEdge n f).comp = s.comp ∧ (s.updEdge n f).ff = s.ff ∧ (s.updEdge n f).ffPort = s.ffPort ∧ (s.updEdge n f).txts = s.txts ∧ (s.updEdge n f).pulse = s.pulse ∧ (s.updEdge n f).link = s.link ∧ (s.updEdge n f).host = s.host ∧ (s.updEdge n f).sq = s.sq ∧ (s.updEdge n f).cq = s.cq ∧ (s.updEdge n f).cfg = s.cfg ∧ (s.updEdge n f).twin = s.twin ∧ (s.updEdge n f).vault = s.vault ∧ (s.updEdge n f).sv = s.sv ∧ (s.updEdge n f).pwr = s.pwr ∧ (s.updEdge n f).sb = s.sb ∧ (s.updEdge n f).flash = s.flash ∧ (s.updEdge n f).trace = s.trace ∧ (s.updEdge n f).log = s.log ∧ (s.updEdge n f).inj = s.inj ∧ (s.updEdge n f).injectedNow = s.injectedNow ∧ (s.updEdge n f).freeCtr = s.freeCtr ∧ (s.updEdge n f).pending = s.pending := ⟨rfl, rfl, rfl, rfl, rfl, rfl, rfl, rfl, rfl, rfl, rfl, rfl, rfl, rfl, rfl, rfl, rfl, rfl, rfl, rfl, rfl, rfl, rfl, rfl, rfl, rfl, rfl, rfl, rfl, rfl, rfl, rfl, rfl, rfl, rfl, rfl, rfl, rfl, rfl, rfl, rfl, rfl, rfl, rfl⟩

@[simp] theorem State.updCore_frame (s : State) (n : Nat) (f : CoreSt → CoreSt) :
    (s.updCore n f).tm = s.tm ∧ (s.updCore n f).otp = s.otp ∧ (s.updCore n f).pads = s.pads ∧ (s.updCore n f).boot = s.boot ∧ (s.updCore n f).regs = s.regs ∧ (s.updCore n f).grp = s.grp ∧ (s.updCore n f).edge = s.edge ∧ (s.updCore n f).pair = s.pair ∧ (s.updCore n f).res = s.res ∧ (s.updCore n f).ain = s.ain ∧ (s.updCore n f).exc = s.exc ∧ (s.updCore n f).pump = s.pump ∧ (s.updCore n f).flt = s.flt ∧ (s.updCore n f).mains = s.mains ∧ (s.updCore n f).strm = s.strm ∧ (s.updCore n f).hive = s.hive ∧ (s.updCore n f).hiveLost = s.hiveLost ∧ (s.updCore n f).stats = s.stats ∧ (s.updCore n f).cond = s.cond ∧ (s.updCore n f).trig = s.trig ∧ (s.updCore n f).cap = s.cap ∧ (s.updCore n f).mantis = s.mantis ∧ (s.updCore n f).comp = s.comp ∧ (s.updCore n f).ff = s.ff ∧ (s.updCore n f).ffPort = s.ffPort ∧ (s.updCore n f).txts = s.txts ∧ (s.updCore n f).pulse = s.pulse ∧ (s.updCore n f).link = s.link ∧ (s.updCore n f).host = s.host ∧ (s.updCore n f).sq = s.sq ∧ (s.updCore n f).cq = s.cq ∧ (s.updCore n f).cfg = s.cfg ∧ (s.updCore n f).twin = s.twin ∧ (s.updCore n f).vault = s.vault ∧ (s.updCore n f).sv = s.sv ∧ (s.updCore n f).pwr = s.pwr ∧ (s.updCore n f).sb = s.sb ∧ (s.updCore n f).flash = s.flash ∧ (s.updCore n f).trace = s.trace ∧ (s.updCore n f).log = s.log ∧ (s.updCore n f).inj = s.inj ∧ (s.updCore n f).injectedNow = s.injectedNow ∧ (s.updCore n f).freeCtr = s.freeCtr ∧ (s.updCore n f).pending = s.pending := ⟨rfl, rfl, rfl, rfl, rfl, rfl, rfl, rfl, rfl, rfl, rfl, rfl, rfl, rfl, rfl, rfl, rfl, rfl, rfl, rfl, rfl, rfl, rfl, rfl, rfl, rfl, rfl, rfl, rfl, rfl, rfl, rfl, rfl, rfl, rfl, rfl, rfl, rfl, rfl, rfl, rfl, rfl, rfl, rfl⟩

@[simp] theorem State.updPair_frame (s : State) (n : Nat) (f : CheckSt → CheckSt) :
    (s.updPair n f).tm = s.tm ∧ (s.updPair n f).otp = s.otp ∧ (s.updPair n f).pads = s.pads ∧ (s.updPair n f).boot = s.boot ∧ (s.updPair n f).regs = s.regs ∧ (s.updPair n f).grp = s.grp ∧ (s.updPair n f).edge = s.edge ∧ (s.updPair n f).core = s.core ∧ (s.updPair n f).res = s.res ∧ (s.updPair n f).ain = s.ain ∧ (s.updPair n f).exc = s.exc ∧ (s.updPair n f).pump = s.pump ∧ (s.updPair n f).flt = s.flt ∧ (s.updPair n f).mains = s.mains ∧ (s.updPair n f).strm = s.strm ∧ (s.updPair n f).hive = s.hive ∧ (s.updPair n f).hiveLost = s.hiveLost ∧ (s.updPair n f).stats = s.stats ∧ (s.updPair n f).cond = s.cond ∧ (s.updPair n f).trig = s.trig ∧ (s.updPair n f).cap = s.cap ∧ (s.updPair n f).mantis = s.mantis ∧ (s.updPair n f).comp = s.comp ∧ (s.updPair n f).ff = s.ff ∧ (s.updPair n f).ffPort = s.ffPort ∧ (s.updPair n f).txts = s.txts ∧ (s.updPair n f).pulse = s.pulse ∧ (s.updPair n f).link = s.link ∧ (s.updPair n f).host = s.host ∧ (s.updPair n f).sq = s.sq ∧ (s.updPair n f).cq = s.cq ∧ (s.updPair n f).cfg = s.cfg ∧ (s.updPair n f).twin = s.twin ∧ (s.updPair n f).vault = s.vault ∧ (s.updPair n f).sv = s.sv ∧ (s.updPair n f).pwr = s.pwr ∧ (s.updPair n f).sb = s.sb ∧ (s.updPair n f).flash = s.flash ∧ (s.updPair n f).trace = s.trace ∧ (s.updPair n f).log = s.log ∧ (s.updPair n f).inj = s.inj ∧ (s.updPair n f).injectedNow = s.injectedNow ∧ (s.updPair n f).freeCtr = s.freeCtr ∧ (s.updPair n f).pending = s.pending := ⟨rfl, rfl, rfl, rfl, rfl, rfl, rfl, rfl, rfl, rfl, rfl, rfl, rfl, rfl, rfl, rfl, rfl, rfl, rfl, rfl, rfl, rfl, rfl, rfl, rfl, rfl, rfl, rfl, rfl, rfl, rfl, rfl, rfl, rfl, rfl, rfl, rfl, rfl, rfl, rfl, rfl, rfl, rfl, rfl⟩

@[simp] theorem State.updRes_frame (s : State) (n : Nat) (f : Option ResultSt → Option ResultSt) :
    (s.updRes n f).tm = s.tm ∧ (s.updRes n f).otp = s.otp ∧ (s.updRes n f).pads = s.pads ∧ (s.updRes n f).boot = s.boot ∧ (s.updRes n f).regs = s.regs ∧ (s.updRes n f).grp = s.grp ∧ (s.updRes n f).edge = s.edge ∧ (s.updRes n f).core = s.core ∧ (s.updRes n f).pair = s.pair ∧ (s.updRes n f).ain = s.ain ∧ (s.updRes n f).exc = s.exc ∧ (s.updRes n f).pump = s.pump ∧ (s.updRes n f).flt = s.flt ∧ (s.updRes n f).mains = s.mains ∧ (s.updRes n f).strm = s.strm ∧ (s.updRes n f).hive = s.hive ∧ (s.updRes n f).hiveLost = s.hiveLost ∧ (s.updRes n f).stats = s.stats ∧ (s.updRes n f).cond = s.cond ∧ (s.updRes n f).trig = s.trig ∧ (s.updRes n f).cap = s.cap ∧ (s.updRes n f).mantis = s.mantis ∧ (s.updRes n f).comp = s.comp ∧ (s.updRes n f).ff = s.ff ∧ (s.updRes n f).ffPort = s.ffPort ∧ (s.updRes n f).txts = s.txts ∧ (s.updRes n f).pulse = s.pulse ∧ (s.updRes n f).link = s.link ∧ (s.updRes n f).host = s.host ∧ (s.updRes n f).sq = s.sq ∧ (s.updRes n f).cq = s.cq ∧ (s.updRes n f).cfg = s.cfg ∧ (s.updRes n f).twin = s.twin ∧ (s.updRes n f).vault = s.vault ∧ (s.updRes n f).sv = s.sv ∧ (s.updRes n f).pwr = s.pwr ∧ (s.updRes n f).sb = s.sb ∧ (s.updRes n f).flash = s.flash ∧ (s.updRes n f).trace = s.trace ∧ (s.updRes n f).log = s.log ∧ (s.updRes n f).inj = s.inj ∧ (s.updRes n f).injectedNow = s.injectedNow ∧ (s.updRes n f).freeCtr = s.freeCtr ∧ (s.updRes n f).pending = s.pending := ⟨rfl, rfl, rfl, rfl, rfl, rfl, rfl, rfl, rfl, rfl, rfl, rfl, rfl, rfl, rfl, rfl, rfl, rfl, rfl, rfl, rfl, rfl, rfl, rfl, rfl, rfl, rfl, rfl, rfl, rfl, rfl, rfl, rfl, rfl, rfl, rfl, rfl, rfl, rfl, rfl, rfl, rfl, rfl, rfl⟩

@[simp] theorem State.updAin_frame (s : State) (n : Nat) (f : InputSt → InputSt) :
    (s.updAin n f).tm = s.tm ∧ (s.updAin n f).otp = s.otp ∧ (s.updAin n f).pads = s.pads ∧ (s.updAin n f).boot = s.boot ∧ (s.updAin n f).regs = s.regs ∧ (s.updAin n f).grp = s.grp ∧ (s.updAin n f).edge = s.edge ∧ (s.updAin n f).core = s.core ∧ (s.updAin n f).pair = s.pair ∧ (s.updAin n f).res = s.res ∧ (s.updAin n f).exc = s.exc ∧ (s.updAin n f).pump = s.pump ∧ (s.updAin n f).flt = s.flt ∧ (s.updAin n f).mains = s.mains ∧ (s.updAin n f).strm = s.strm ∧ (s.updAin n f).hive = s.hive ∧ (s.updAin n f).hiveLost = s.hiveLost ∧ (s.updAin n f).stats = s.stats ∧ (s.updAin n f).cond = s.cond ∧ (s.updAin n f).trig = s.trig ∧ (s.updAin n f).cap = s.cap ∧ (s.updAin n f).mantis = s.mantis ∧ (s.updAin n f).comp = s.comp ∧ (s.updAin n f).ff = s.ff ∧ (s.updAin n f).ffPort = s.ffPort ∧ (s.updAin n f).txts = s.txts ∧ (s.updAin n f).pulse = s.pulse ∧ (s.updAin n f).link = s.link ∧ (s.updAin n f).host = s.host ∧ (s.updAin n f).sq = s.sq ∧ (s.updAin n f).cq = s.cq ∧ (s.updAin n f).cfg = s.cfg ∧ (s.updAin n f).twin = s.twin ∧ (s.updAin n f).vault = s.vault ∧ (s.updAin n f).sv = s.sv ∧ (s.updAin n f).pwr = s.pwr ∧ (s.updAin n f).sb = s.sb ∧ (s.updAin n f).flash = s.flash ∧ (s.updAin n f).trace = s.trace ∧ (s.updAin n f).log = s.log ∧ (s.updAin n f).inj = s.inj ∧ (s.updAin n f).injectedNow = s.injectedNow ∧ (s.updAin n f).freeCtr = s.freeCtr ∧ (s.updAin n f).pending = s.pending := ⟨rfl, rfl, rfl, rfl, rfl, rfl, rfl, rfl, rfl, rfl, rfl, rfl, rfl, rfl, rfl, rfl, rfl, rfl, rfl, rfl, rfl, rfl, rfl, rfl, rfl, rfl, rfl, rfl, rfl, rfl, rfl, rfl, rfl, rfl, rfl, rfl, rfl, rfl, rfl, rfl, rfl, rfl, rfl, rfl⟩

@[simp] theorem State.updExc_frame (s : State) (n : Nat) (f : ExcSt → ExcSt) :
    (s.updExc n f).tm = s.tm ∧ (s.updExc n f).otp = s.otp ∧ (s.updExc n f).pads = s.pads ∧ (s.updExc n f).boot = s.boot ∧ (s.updExc n f).regs = s.regs ∧ (s.updExc n f).grp = s.grp ∧ (s.updExc n f).edge = s.edge ∧ (s.updExc n f).core = s.core ∧ (s.updExc n f).pair = s.pair ∧ (s.updExc n f).res = s.res ∧ (s.updExc n f).ain = s.ain ∧ (s.updExc n f).pump = s.pump ∧ (s.updExc n f).flt = s.flt ∧ (s.updExc n f).mains = s.mains ∧ (s.updExc n f).strm = s.strm ∧ (s.updExc n f).hive = s.hive ∧ (s.updExc n f).hiveLost = s.hiveLost ∧ (s.updExc n f).stats = s.stats ∧ (s.updExc n f).cond = s.cond ∧ (s.updExc n f).trig = s.trig ∧ (s.updExc n f).cap = s.cap ∧ (s.updExc n f).mantis = s.mantis ∧ (s.updExc n f).comp = s.comp ∧ (s.updExc n f).ff = s.ff ∧ (s.updExc n f).ffPort = s.ffPort ∧ (s.updExc n f).txts = s.txts ∧ (s.updExc n f).pulse = s.pulse ∧ (s.updExc n f).link = s.link ∧ (s.updExc n f).host = s.host ∧ (s.updExc n f).sq = s.sq ∧ (s.updExc n f).cq = s.cq ∧ (s.updExc n f).cfg = s.cfg ∧ (s.updExc n f).twin = s.twin ∧ (s.updExc n f).vault = s.vault ∧ (s.updExc n f).sv = s.sv ∧ (s.updExc n f).pwr = s.pwr ∧ (s.updExc n f).sb = s.sb ∧ (s.updExc n f).flash = s.flash ∧ (s.updExc n f).trace = s.trace ∧ (s.updExc n f).log = s.log ∧ (s.updExc n f).inj = s.inj ∧ (s.updExc n f).injectedNow = s.injectedNow ∧ (s.updExc n f).freeCtr = s.freeCtr ∧ (s.updExc n f).pending = s.pending := ⟨rfl, rfl, rfl, rfl, rfl, rfl, rfl, rfl, rfl, rfl, rfl, rfl, rfl, rfl, rfl, rfl, rfl, rfl, rfl, rfl, rfl, rfl, rfl, rfl, rfl, rfl, rfl, rfl, rfl, rfl, rfl, rfl, rfl, rfl, rfl, rfl, rfl, rfl, rfl, rfl, rfl, rfl, rfl, rfl⟩

@[simp] theorem State.updFlt_frame (s : State) (n : Nat) (f : StageSt → StageSt) :
    (s.updFlt n f).tm = s.tm ∧ (s.updFlt n f).otp = s.otp ∧ (s.updFlt n f).pads = s.pads ∧ (s.updFlt n f).boot = s.boot ∧ (s.updFlt n f).regs = s.regs ∧ (s.updFlt n f).grp = s.grp ∧ (s.updFlt n f).edge = s.edge ∧ (s.updFlt n f).core = s.core ∧ (s.updFlt n f).pair = s.pair ∧ (s.updFlt n f).res = s.res ∧ (s.updFlt n f).ain = s.ain ∧ (s.updFlt n f).exc = s.exc ∧ (s.updFlt n f).pump = s.pump ∧ (s.updFlt n f).mains = s.mains ∧ (s.updFlt n f).strm = s.strm ∧ (s.updFlt n f).hive = s.hive ∧ (s.updFlt n f).hiveLost = s.hiveLost ∧ (s.updFlt n f).stats = s.stats ∧ (s.updFlt n f).cond = s.cond ∧ (s.updFlt n f).trig = s.trig ∧ (s.updFlt n f).cap = s.cap ∧ (s.updFlt n f).mantis = s.mantis ∧ (s.updFlt n f).comp = s.comp ∧ (s.updFlt n f).ff = s.ff ∧ (s.updFlt n f).ffPort = s.ffPort ∧ (s.updFlt n f).txts = s.txts ∧ (s.updFlt n f).pulse = s.pulse ∧ (s.updFlt n f).link = s.link ∧ (s.updFlt n f).host = s.host ∧ (s.updFlt n f).sq = s.sq ∧ (s.updFlt n f).cq = s.cq ∧ (s.updFlt n f).cfg = s.cfg ∧ (s.updFlt n f).twin = s.twin ∧ (s.updFlt n f).vault = s.vault ∧ (s.updFlt n f).sv = s.sv ∧ (s.updFlt n f).pwr = s.pwr ∧ (s.updFlt n f).sb = s.sb ∧ (s.updFlt n f).flash = s.flash ∧ (s.updFlt n f).trace = s.trace ∧ (s.updFlt n f).log = s.log ∧ (s.updFlt n f).inj = s.inj ∧ (s.updFlt n f).injectedNow = s.injectedNow ∧ (s.updFlt n f).freeCtr = s.freeCtr ∧ (s.updFlt n f).pending = s.pending := ⟨rfl, rfl, rfl, rfl, rfl, rfl, rfl, rfl, rfl, rfl, rfl, rfl, rfl, rfl, rfl, rfl, rfl, rfl, rfl, rfl, rfl, rfl, rfl, rfl, rfl, rfl, rfl, rfl, rfl, rfl, rfl, rfl, rfl, rfl, rfl, rfl, rfl, rfl, rfl, rfl, rfl, rfl, rfl, rfl⟩

@[simp] theorem State.updStrm_frame (s : State) (n : Nat) (f : StreamSt → StreamSt) :
    (s.updStrm n f).tm = s.tm ∧ (s.updStrm n f).otp = s.otp ∧ (s.updStrm n f).pads = s.pads ∧ (s.updStrm n f).boot = s.boot ∧ (s.updStrm n f).regs = s.regs ∧ (s.updStrm n f).grp = s.grp ∧ (s.updStrm n f).edge = s.edge ∧ (s.updStrm n f).core = s.core ∧ (s.updStrm n f).pair = s.pair ∧ (s.updStrm n f).res = s.res ∧ (s.updStrm n f).ain = s.ain ∧ (s.updStrm n f).exc = s.exc ∧ (s.updStrm n f).pump = s.pump ∧ (s.updStrm n f).flt = s.flt ∧ (s.updStrm n f).mains = s.mains ∧ (s.updStrm n f).hive = s.hive ∧ (s.updStrm n f).hiveLost = s.hiveLost ∧ (s.updStrm n f).stats = s.stats ∧ (s.updStrm n f).cond = s.cond ∧ (s.updStrm n f).trig = s.trig ∧ (s.updStrm n f).cap = s.cap ∧ (s.updStrm n f).mantis = s.mantis ∧ (s.updStrm n f).comp = s.comp ∧ (s.updStrm n f).ff = s.ff ∧ (s.updStrm n f).ffPort = s.ffPort ∧ (s.updStrm n f).txts = s.txts ∧ (s.updStrm n f).pulse = s.pulse ∧ (s.updStrm n f).link = s.link ∧ (s.updStrm n f).host = s.host ∧ (s.updStrm n f).sq = s.sq ∧ (s.updStrm n f).cq = s.cq ∧ (s.updStrm n f).cfg = s.cfg ∧ (s.updStrm n f).twin = s.twin ∧ (s.updStrm n f).vault = s.vault ∧ (s.updStrm n f).sv = s.sv ∧ (s.updStrm n f).pwr = s.pwr ∧ (s.updStrm n f).sb = s.sb ∧ (s.updStrm n f).flash = s.flash ∧ (s.updStrm n f).trace = s.trace ∧ (s.updStrm n f).log = s.log ∧ (s.updStrm n f).inj = s.inj ∧ (s.updStrm n f).injectedNow = s.injectedNow ∧ (s.updStrm n f).freeCtr = s.freeCtr ∧ (s.updStrm n f).pending = s.pending := ⟨rfl, rfl, rfl, rfl, rfl, rfl, rfl, rfl, rfl, rfl, rfl, rfl, rfl, rfl, rfl, rfl, rfl, rfl, rfl, rfl, rfl, rfl, rfl, rfl, rfl, rfl, rfl, rfl, rfl, rfl, rfl, rfl, rfl, rfl, rfl, rfl, rfl, rfl, rfl, rfl, rfl, rfl, rfl, rfl⟩

@[simp] theorem State.updStats_frame (s : State) (n : Nat) (f : StatCh → StatCh) :
    (s.updStats n f).tm = s.tm ∧ (s.updStats n f).otp = s.otp ∧ (s.updStats n f).pads = s.pads ∧ (s.updStats n f).boot = s.boot ∧ (s.updStats n f).regs = s.regs ∧ (s.updStats n f).grp = s.grp ∧ (s.updStats n f).edge = s.edge ∧ (s.updStats n f).core = s.core ∧ (s.updStats n f).pair = s.pair ∧ (s.updStats n f).res = s.res ∧ (s.updStats n f).ain = s.ain ∧ (s.updStats n f).exc = s.exc ∧ (s.updStats n f).pump = s.pump ∧ (s.updStats n f).flt = s.flt ∧ (s.updStats n f).mains = s.mains ∧ (s.updStats n f).strm = s.strm ∧ (s.updStats n f).hive = s.hive ∧ (s.updStats n f).hiveLost = s.hiveLost ∧ (s.updStats n f).cond = s.cond ∧ (s.updStats n f).trig = s.trig ∧ (s.updStats n f).cap = s.cap ∧ (s.updStats n f).mantis = s.mantis ∧ (s.updStats n f).comp = s.comp ∧ (s.updStats n f).ff = s.ff ∧ (s.updStats n f).ffPort = s.ffPort ∧ (s.updStats n f).txts = s.txts ∧ (s.updStats n f).pulse = s.pulse ∧ (s.updStats n f).link = s.link ∧ (s.updStats n f).host = s.host ∧ (s.updStats n f).sq = s.sq ∧ (s.updStats n f).cq = s.cq ∧ (s.updStats n f).cfg = s.cfg ∧ (s.updStats n f).twin = s.twin ∧ (s.updStats n f).vault = s.vault ∧ (s.updStats n f).sv = s.sv ∧ (s.updStats n f).pwr = s.pwr ∧ (s.updStats n f).sb = s.sb ∧ (s.updStats n f).flash = s.flash ∧ (s.updStats n f).trace = s.trace ∧ (s.updStats n f).log = s.log ∧ (s.updStats n f).inj = s.inj ∧ (s.updStats n f).injectedNow = s.injectedNow ∧ (s.updStats n f).freeCtr = s.freeCtr ∧ (s.updStats n f).pending = s.pending := ⟨rfl, rfl, rfl, rfl, rfl, rfl, rfl, rfl, rfl, rfl, rfl, rfl, rfl, rfl, rfl, rfl, rfl, rfl, rfl, rfl, rfl, rfl, rfl, rfl, rfl, rfl, rfl, rfl, rfl, rfl, rfl, rfl, rfl, rfl, rfl, rfl, rfl, rfl, rfl, rfl, rfl, rfl, rfl, rfl⟩

@[simp] theorem State.updCond_frame (s : State) (n : Nat) (f : CondSt → CondSt) :
    (s.updCond n f).tm = s.tm ∧ (s.updCond n f).otp = s.otp ∧ (s.updCond n f).pads = s.pads ∧ (s.updCond n f).boot = s.boot ∧ (s.updCond n f).regs = s.regs ∧ (s.updCond n f).grp = s.grp ∧ (s.updCond n f).edge = s.edge ∧ (s.updCond n f).core = s.core ∧ (s.updCond n f).pair = s.pair ∧ (s.updCond n f).res = s.res ∧ (s.updCond n f).ain = s.ain ∧ (s.updCond n f).exc = s.exc ∧ (s.updCond n f).pump = s.pump ∧ (s.updCond n f).flt = s.flt ∧ (s.updCond n f).mains = s.mains ∧ (s.updCond n f).strm = s.strm ∧ (s.updCond n f).hive = s.hive ∧ (s.updCond n f).hiveLost = s.hiveLost ∧ (s.updCond n f).stats = s.stats ∧ (s.updCond n f).trig = s.trig ∧ (s.updCond n f).cap = s.cap ∧ (s.updCond n f).mantis = s.mantis ∧ (s.updCond n f).comp = s.comp ∧ (s.updCond n f).ff = s.ff ∧ (s.updCond n f).ffPort = s.ffPort ∧ (s.updCond n f).txts = s.txts ∧ (s.updCond n f).pulse = s.pulse ∧ (s.updCond n f).link = s.link ∧ (s.updCond n f).host = s.host ∧ (s.updCond n f).sq = s.sq ∧ (s.updCond n f).cq = s.cq ∧ (s.updCond n f).cfg = s.cfg ∧ (s.updCond n f).twin = s.twin ∧ (s.updCond n f).vault = s.vault ∧ (s.updCond n f).sv = s.sv ∧ (s.updCond n f).pwr = s.pwr ∧ (s.updCond n f).sb = s.sb ∧ (s.updCond n f).flash = s.flash ∧ (s.updCond n f).trace = s.trace ∧ (s.updCond n f).log = s.log ∧ (s.updCond n f).inj = s.inj ∧ (s.updCond n f).injectedNow = s.injectedNow ∧ (s.updCond n f).freeCtr = s.freeCtr ∧ (s.updCond n f).pending = s.pending := ⟨rfl, rfl, rfl, rfl, rfl, rfl, rfl, rfl, rfl, rfl, rfl, rfl, rfl, rfl, rfl, rfl, rfl, rfl, rfl, rfl, rfl, rfl, rfl, rfl, rfl, rfl, rfl, rfl, rfl, rfl, rfl, rfl, rfl, rfl, rfl, rfl, rfl, rfl, rfl, rfl, rfl, rfl, rfl, rfl⟩

@[simp] theorem State.updTrig_frame (s : State) (n : Nat) (f : TrigSt → TrigSt) :
    (s.updTrig n f).tm = s.tm ∧ (s.updTrig n f).otp = s.otp ∧ (s.updTrig n f).pads = s.pads ∧ (s.updTrig n f).boot = s.boot ∧ (s.updTrig n f).regs = s.regs ∧ (s.updTrig n f).grp = s.grp ∧ (s.updTrig n f).edge = s.edge ∧ (s.updTrig n f).core = s.core ∧ (s.updTrig n f).pair = s.pair ∧ (s.updTrig n f).res = s.res ∧ (s.updTrig n f).ain = s.ain ∧ (s.updTrig n f).exc = s.exc ∧ (s.updTrig n f).pump = s.pump ∧ (s.updTrig n f).flt = s.flt ∧ (s.updTrig n f).mains = s.mains ∧ (s.updTrig n f).strm = s.strm ∧ (s.updTrig n f).hive = s.hive ∧ (s.updTrig n f).hiveLost = s.hiveLost ∧ (s.updTrig n f).stats = s.stats ∧ (s.updTrig n f).cond = s.cond ∧ (s.updTrig n f).cap = s.cap ∧ (s.updTrig n f).mantis = s.mantis ∧ (s.updTrig n f).comp = s.comp ∧ (s.updTrig n f).ff = s.ff ∧ (s.updTrig n f).ffPort = s.ffPort ∧ (s.updTrig n f).txts = s.txts ∧ (s.updTrig n f).pulse = s.pulse ∧ (s.updTrig n f).link = s.link ∧ (s.updTrig n f).host = s.host ∧ (s.updTrig n f).sq = s.sq ∧ (s.updTrig n f).cq = s.cq ∧ (s.updTrig n f).cfg = s.cfg ∧ (s.updTrig n f).twin = s.twin ∧ (s.updTrig n f).vault = s.vault ∧ (s.updTrig n f).sv = s.sv ∧ (s.updTrig n f).pwr = s.pwr ∧ (s.updTrig n f).sb = s.sb ∧ (s.updTrig n f).flash = s.flash ∧ (s.updTrig n f).trace = s.trace ∧ (s.updTrig n f).log = s.log ∧ (s.updTrig n f).inj = s.inj ∧ (s.updTrig n f).injectedNow = s.injectedNow ∧ (s.updTrig n f).freeCtr = s.freeCtr ∧ (s.updTrig n f).pending = s.pending := ⟨rfl, rfl, rfl, rfl, rfl, rfl, rfl, rfl, rfl, rfl, rfl, rfl, rfl, rfl, rfl, rfl, rfl, rfl, rfl, rfl, rfl, rfl, rfl, rfl, rfl, rfl, rfl, rfl, rfl, rfl, rfl, rfl, rfl, rfl, rfl, rfl, rfl, rfl, rfl, rfl, rfl, rfl, rfl, rfl⟩

@[simp] theorem State.updCap_frame (s : State) (n : Nat) (f : CapSt → CapSt) :
    (s.updCap n f).tm = s.tm ∧ (s.updCap n f).otp = s.otp ∧ (s.updCap n f).pads = s.pads ∧ (s.updCap n f).boot = s.boot ∧ (s.updCap n f).regs = s.regs ∧ (s.updCap n f).grp = s.grp ∧ (s.updCap n f).edge = s.edge ∧ (s.updCap n f).core = s.core ∧ (s.updCap n f).pair = s.pair ∧ (s.updCap n f).res = s.res ∧ (s.updCap n f).ain = s.ain ∧ (s.updCap n f).exc = s.exc ∧ (s.updCap n f).pump = s.pump ∧ (s.updCap n f).flt = s.flt ∧ (s.updCap n f).mains = s.mains ∧ (s.updCap n f).strm = s.strm ∧ (s.updCap n f).hive = s.hive ∧ (s.updCap n f).hiveLost = s.hiveLost ∧ (s.updCap n f).stats = s.stats ∧ (s.updCap n f).cond = s.cond ∧ (s.updCap n f).trig = s.trig ∧ (s.updCap n f).mantis = s.mantis ∧ (s.updCap n f).comp = s.comp ∧ (s.updCap n f).ff = s.ff ∧ (s.updCap n f).ffPort = s.ffPort ∧ (s.updCap n f).txts = s.txts ∧ (s.updCap n f).pulse = s.pulse ∧ (s.updCap n f).link = s.link ∧ (s.updCap n f).host = s.host ∧ (s.updCap n f).sq = s.sq ∧ (s.updCap n f).cq = s.cq ∧ (s.updCap n f).cfg = s.cfg ∧ (s.updCap n f).twin = s.twin ∧ (s.updCap n f).vault = s.vault ∧ (s.updCap n f).sv = s.sv ∧ (s.updCap n f).pwr = s.pwr ∧ (s.updCap n f).sb = s.sb ∧ (s.updCap n f).flash = s.flash ∧ (s.updCap n f).trace = s.trace ∧ (s.updCap n f).log = s.log ∧ (s.updCap n f).inj = s.inj ∧ (s.updCap n f).injectedNow = s.injectedNow ∧ (s.updCap n f).freeCtr = s.freeCtr ∧ (s.updCap n f).pending = s.pending := ⟨rfl, rfl, rfl, rfl, rfl, rfl, rfl, rfl, rfl, rfl, rfl, rfl, rfl, rfl, rfl, rfl, rfl, rfl, rfl, rfl, rfl, rfl, rfl, rfl, rfl, rfl, rfl, rfl, rfl, rfl, rfl, rfl, rfl, rfl, rfl, rfl, rfl, rfl, rfl, rfl, rfl, rfl, rfl, rfl⟩

@[simp] theorem State.updFfPort_frame (s : State) (n : Nat) (f : FfPortSt → FfPortSt) :
    (s.updFfPort n f).tm = s.tm ∧ (s.updFfPort n f).otp = s.otp ∧ (s.updFfPort n f).pads = s.pads ∧ (s.updFfPort n f).boot = s.boot ∧ (s.updFfPort n f).regs = s.regs ∧ (s.updFfPort n f).grp = s.grp ∧ (s.updFfPort n f).edge = s.edge ∧ (s.updFfPort n f).core = s.core ∧ (s.updFfPort n f).pair = s.pair ∧ (s.updFfPort n f).res = s.res ∧ (s.updFfPort n f).ain = s.ain ∧ (s.updFfPort n f).exc = s.exc ∧ (s.updFfPort n f).pump = s.pump ∧ (s.updFfPort n f).flt = s.flt ∧ (s.updFfPort n f).mains = s.mains ∧ (s.updFfPort n f).strm = s.strm ∧ (s.updFfPort n f).hive = s.hive ∧ (s.updFfPort n f).hiveLost = s.hiveLost ∧ (s.updFfPort n f).stats = s.stats ∧ (s.updFfPort n f).cond = s.cond ∧ (s.updFfPort n f).trig = s.trig ∧ (s.updFfPort n f).cap = s.cap ∧ (s.updFfPort n f).mantis = s.mantis ∧ (s.updFfPort n f).comp = s.comp ∧ (s.updFfPort n f).ff = s.ff ∧ (s.updFfPort n f).txts = s.txts ∧ (s.updFfPort n f).pulse = s.pulse ∧ (s.updFfPort n f).link = s.link ∧ (s.updFfPort n f).host = s.host ∧ (s.updFfPort n f).sq = s.sq ∧ (s.updFfPort n f).cq = s.cq ∧ (s.updFfPort n f).cfg = s.cfg ∧ (s.updFfPort n f).twin = s.twin ∧ (s.updFfPort n f).vault = s.vault ∧ (s.updFfPort n f).sv = s.sv ∧ (s.updFfPort n f).pwr = s.pwr ∧ (s.updFfPort n f).sb = s.sb ∧ (s.updFfPort n f).flash = s.flash ∧ (s.updFfPort n f).trace = s.trace ∧ (s.updFfPort n f).log = s.log ∧ (s.updFfPort n f).inj = s.inj ∧ (s.updFfPort n f).injectedNow = s.injectedNow ∧ (s.updFfPort n f).freeCtr = s.freeCtr ∧ (s.updFfPort n f).pending = s.pending := ⟨rfl, rfl, rfl, rfl, rfl, rfl, rfl, rfl, rfl, rfl, rfl, rfl, rfl, rfl, rfl, rfl, rfl, rfl, rfl, rfl, rfl, rfl, rfl, rfl, rfl, rfl, rfl, rfl, rfl, rfl, rfl, rfl, rfl, rfl, rfl, rfl, rfl, rfl, rfl, rfl, rfl, rfl, rfl, rfl⟩

@[simp] theorem State.updTxts_frame (s : State) (n : Nat) (f : TxtsSt → TxtsSt) :
    (s.updTxts n f).tm = s.tm ∧ (s.updTxts n f).otp = s.otp ∧ (s.updTxts n f).pads = s.pads ∧ (s.updTxts n f).boot = s.boot ∧ (s.updTxts n f).regs = s.regs ∧ (s.updTxts n f).grp = s.grp ∧ (s.updTxts n f).edge = s.edge ∧ (s.updTxts n f).core = s.core ∧ (s.updTxts n f).pair = s.pair ∧ (s.updTxts n f).res = s.res ∧ (s.updTxts n f).ain = s.ain ∧ (s.updTxts n f).exc = s.exc ∧ (s.updTxts n f).pump = s.pump ∧ (s.updTxts n f).flt = s.flt ∧ (s.updTxts n f).mains = s.mains ∧ (s.updTxts n f).strm = s.strm ∧ (s.updTxts n f).hive = s.hive ∧ (s.updTxts n f).hiveLost = s.hiveLost ∧ (s.updTxts n f).stats = s.stats ∧ (s.updTxts n f).cond = s.cond ∧ (s.updTxts n f).trig = s.trig ∧ (s.updTxts n f).cap = s.cap ∧ (s.updTxts n f).mantis = s.mantis ∧ (s.updTxts n f).comp = s.comp ∧ (s.updTxts n f).ff = s.ff ∧ (s.updTxts n f).ffPort = s.ffPort ∧ (s.updTxts n f).pulse = s.pulse ∧ (s.updTxts n f).link = s.link ∧ (s.updTxts n f).host = s.host ∧ (s.updTxts n f).sq = s.sq ∧ (s.updTxts n f).cq = s.cq ∧ (s.updTxts n f).cfg = s.cfg ∧ (s.updTxts n f).twin = s.twin ∧ (s.updTxts n f).vault = s.vault ∧ (s.updTxts n f).sv = s.sv ∧ (s.updTxts n f).pwr = s.pwr ∧ (s.updTxts n f).sb = s.sb ∧ (s.updTxts n f).flash = s.flash ∧ (s.updTxts n f).trace = s.trace ∧ (s.updTxts n f).log = s.log ∧ (s.updTxts n f).inj = s.inj ∧ (s.updTxts n f).injectedNow = s.injectedNow ∧ (s.updTxts n f).freeCtr = s.freeCtr ∧ (s.updTxts n f).pending = s.pending := ⟨rfl, rfl, rfl, rfl, rfl, rfl, rfl, rfl, rfl, rfl, rfl, rfl, rfl, rfl, rfl, rfl, rfl, rfl, rfl, rfl, rfl, rfl, rfl, rfl, rfl, rfl, rfl, rfl, rfl, rfl, rfl, rfl, rfl, rfl, rfl, rfl, rfl, rfl, rfl, rfl, rfl, rfl, rfl, rfl⟩

@[simp] theorem State.updPulse_frame (s : State) (n : Nat) (f : PulseSt → PulseSt) :
    (s.updPulse n f).tm = s.tm ∧ (s.updPulse n f).otp = s.otp ∧ (s.updPulse n f).pads = s.pads ∧ (s.updPulse n f).boot = s.boot ∧ (s.updPulse n f).regs = s.regs ∧ (s.updPulse n f).grp = s.grp ∧ (s.updPulse n f).edge = s.edge ∧ (s.updPulse n f).core = s.core ∧ (s.updPulse n f).pair = s.pair ∧ (s.updPulse n f).res = s.res ∧ (s.updPulse n f).ain = s.ain ∧ (s.updPulse n f).exc = s.exc ∧ (s.updPulse n f).pump = s.pump ∧ (s.updPulse n f).flt = s.flt ∧ (s.updPulse n f).mains = s.mains ∧ (s.updPulse n f).strm = s.strm ∧ (s.updPulse n f).hive = s.hive ∧ (s.updPulse n f).hiveLost = s.hiveLost ∧ (s.updPulse n f).stats = s.stats ∧ (s.updPulse n f).cond = s.cond ∧ (s.updPulse n f).trig = s.trig ∧ (s.updPulse n f).cap = s.cap ∧ (s.updPulse n f).mantis = s.mantis ∧ (s.updPulse n f).comp = s.comp ∧ (s.updPulse n f).ff = s.ff ∧ (s.updPulse n f).ffPort = s.ffPort ∧ (s.updPulse n f).txts = s.txts ∧ (s.updPulse n f).link = s.link ∧ (s.updPulse n f).host = s.host ∧ (s.updPulse n f).sq = s.sq ∧ (s.updPulse n f).cq = s.cq ∧ (s.updPulse n f).cfg = s.cfg ∧ (s.updPulse n f).twin = s.twin ∧ (s.updPulse n f).vault = s.vault ∧ (s.updPulse n f).sv = s.sv ∧ (s.updPulse n f).pwr = s.pwr ∧ (s.updPulse n f).sb = s.sb ∧ (s.updPulse n f).flash = s.flash ∧ (s.updPulse n f).trace = s.trace ∧ (s.updPulse n f).log = s.log ∧ (s.updPulse n f).inj = s.inj ∧ (s.updPulse n f).injectedNow = s.injectedNow ∧ (s.updPulse n f).freeCtr = s.freeCtr ∧ (s.updPulse n f).pending = s.pending := ⟨rfl, rfl, rfl, rfl, rfl, rfl, rfl, rfl, rfl, rfl, rfl, rfl, rfl, rfl, rfl, rfl, rfl, rfl, rfl, rfl, rfl, rfl, rfl, rfl, rfl, rfl, rfl, rfl, rfl, rfl, rfl, rfl, rfl, rfl, rfl, rfl, rfl, rfl, rfl, rfl, rfl, rfl, rfl, rfl⟩

@[simp] theorem State.updLink_frame (s : State) (n : Nat) (f : LinkSt → LinkSt) :
    (s.updLink n f).tm = s.tm ∧ (s.updLink n f).otp = s.otp ∧ (s.updLink n f).pads = s.pads ∧ (s.updLink n f).boot = s.boot ∧ (s.updLink n f).regs = s.regs ∧ (s.updLink n f).grp = s.grp ∧ (s.updLink n f).edge = s.edge ∧ (s.updLink n f).core = s.core ∧ (s.updLink n f).pair = s.pair ∧ (s.updLink n f).res = s.res ∧ (s.updLink n f).ain = s.ain ∧ (s.updLink n f).exc = s.exc ∧ (s.updLink n f).pump = s.pump ∧ (s.updLink n f).flt = s.flt ∧ (s.updLink n f).mains = s.mains ∧ (s.updLink n f).strm = s.strm ∧ (s.updLink n f).hive = s.hive ∧ (s.updLink n f).hiveLost = s.hiveLost ∧ (s.updLink n f).stats = s.stats ∧ (s.updLink n f).cond = s.cond ∧ (s.updLink n f).trig = s.trig ∧ (s.updLink n f).cap = s.cap ∧ (s.updLink n f).mantis = s.mantis ∧ (s.updLink n f).comp = s.comp ∧ (s.updLink n f).ff = s.ff ∧ (s.updLink n f).ffPort = s.ffPort ∧ (s.updLink n f).txts = s.txts ∧ (s.updLink n f).pulse = s.pulse ∧ (s.updLink n f).host = s.host ∧ (s.updLink n f).sq = s.sq ∧ (s.updLink n f).cq = s.cq ∧ (s.updLink n f).cfg = s.cfg ∧ (s.updLink n f).twin = s.twin ∧ (s.updLink n f).vault = s.vault ∧ (s.updLink n f).sv = s.sv ∧ (s.updLink n f).pwr = s.pwr ∧ (s.updLink n f).sb = s.sb ∧ (s.updLink n f).flash = s.flash ∧ (s.updLink n f).trace = s.trace ∧ (s.updLink n f).log = s.log ∧ (s.updLink n f).inj = s.inj ∧ (s.updLink n f).injectedNow = s.injectedNow ∧ (s.updLink n f).freeCtr = s.freeCtr ∧ (s.updLink n f).pending = s.pending := ⟨rfl, rfl, rfl, rfl, rfl, rfl, rfl, rfl, rfl, rfl, rfl, rfl, rfl, rfl, rfl, rfl, rfl, rfl, rfl, rfl, rfl, rfl, rfl, rfl, rfl, rfl, rfl, rfl, rfl, rfl, rfl, rfl, rfl, rfl, rfl, rfl, rfl, rfl, rfl, rfl, rfl, rfl, rfl, rfl⟩

@[simp] theorem State.updSq_frame (s : State) (n : Nat) (f : SqSt → SqSt) :
    (s.updSq n f).tm = s.tm ∧ (s.updSq n f).otp = s.otp ∧ (s.updSq n f).pads = s.pads ∧ (s.updSq n f).boot = s.boot ∧ (s.updSq n f).regs = s.regs ∧ (s.updSq n f).grp = s.grp ∧ (s.updSq n f).edge = s.edge ∧ (s.updSq n f).core = s.core ∧ (s.updSq n f).pair = s.pair ∧ (s.updSq n f).res = s.res ∧ (s.updSq n f).ain = s.ain ∧ (s.updSq n f).exc = s.exc ∧ (s.updSq n f).pump = s.pump ∧ (s.updSq n f).flt = s.flt ∧ (s.updSq n f).mains = s.mains ∧ (s.updSq n f).strm = s.strm ∧ (s.updSq n f).hive = s.hive ∧ (s.updSq n f).hiveLost = s.hiveLost ∧ (s.updSq n f).stats = s.stats ∧ (s.updSq n f).cond = s.cond ∧ (s.updSq n f).trig = s.trig ∧ (s.updSq n f).cap = s.cap ∧ (s.updSq n f).mantis = s.mantis ∧ (s.updSq n f).comp = s.comp ∧ (s.updSq n f).ff = s.ff ∧ (s.updSq n f).ffPort = s.ffPort ∧ (s.updSq n f).txts = s.txts ∧ (s.updSq n f).pulse = s.pulse ∧ (s.updSq n f).link = s.link ∧ (s.updSq n f).host = s.host ∧ (s.updSq n f).cq = s.cq ∧ (s.updSq n f).cfg = s.cfg ∧ (s.updSq n f).twin = s.twin ∧ (s.updSq n f).vault = s.vault ∧ (s.updSq n f).sv = s.sv ∧ (s.updSq n f).pwr = s.pwr ∧ (s.updSq n f).sb = s.sb ∧ (s.updSq n f).flash = s.flash ∧ (s.updSq n f).trace = s.trace ∧ (s.updSq n f).log = s.log ∧ (s.updSq n f).inj = s.inj ∧ (s.updSq n f).injectedNow = s.injectedNow ∧ (s.updSq n f).freeCtr = s.freeCtr ∧ (s.updSq n f).pending = s.pending := ⟨rfl, rfl, rfl, rfl, rfl, rfl, rfl, rfl, rfl, rfl, rfl, rfl, rfl, rfl, rfl, rfl, rfl, rfl, rfl, rfl, rfl, rfl, rfl, rfl, rfl, rfl, rfl, rfl, rfl, rfl, rfl, rfl, rfl, rfl, rfl, rfl, rfl, rfl, rfl, rfl, rfl, rfl, rfl, rfl⟩

@[simp] theorem State.updCq_frame (s : State) (n : Nat) (f : CqSt → CqSt) :
    (s.updCq n f).tm = s.tm ∧ (s.updCq n f).otp = s.otp ∧ (s.updCq n f).pads = s.pads ∧ (s.updCq n f).boot = s.boot ∧ (s.updCq n f).regs = s.regs ∧ (s.updCq n f).grp = s.grp ∧ (s.updCq n f).edge = s.edge ∧ (s.updCq n f).core = s.core ∧ (s.updCq n f).pair = s.pair ∧ (s.updCq n f).res = s.res ∧ (s.updCq n f).ain = s.ain ∧ (s.updCq n f).exc = s.exc ∧ (s.updCq n f).pump = s.pump ∧ (s.updCq n f).flt = s.flt ∧ (s.updCq n f).mains = s.mains ∧ (s.updCq n f).strm = s.strm ∧ (s.updCq n f).hive = s.hive ∧ (s.updCq n f).hiveLost = s.hiveLost ∧ (s.updCq n f).stats = s.stats ∧ (s.updCq n f).cond = s.cond ∧ (s.updCq n f).trig = s.trig ∧ (s.updCq n f).cap = s.cap ∧ (s.updCq n f).mantis = s.mantis ∧ (s.updCq n f).comp = s.comp ∧ (s.updCq n f).ff = s.ff ∧ (s.updCq n f).ffPort = s.ffPort ∧ (s.updCq n f).txts = s.txts ∧ (s.updCq n f).pulse = s.pulse ∧ (s.updCq n f).link = s.link ∧ (s.updCq n f).host = s.host ∧ (s.updCq n f).sq = s.sq ∧ (s.updCq n f).cfg = s.cfg ∧ (s.updCq n f).twin = s.twin ∧ (s.updCq n f).vault = s.vault ∧ (s.updCq n f).sv = s.sv ∧ (s.updCq n f).pwr = s.pwr ∧ (s.updCq n f).sb = s.sb ∧ (s.updCq n f).flash = s.flash ∧ (s.updCq n f).trace = s.trace ∧ (s.updCq n f).log = s.log ∧ (s.updCq n f).inj = s.inj ∧ (s.updCq n f).injectedNow = s.injectedNow ∧ (s.updCq n f).freeCtr = s.freeCtr ∧ (s.updCq n f).pending = s.pending := ⟨rfl, rfl, rfl, rfl, rfl, rfl, rfl, rfl, rfl, rfl, rfl, rfl, rfl, rfl, rfl, rfl, rfl, rfl, rfl, rfl, rfl, rfl, rfl, rfl, rfl, rfl, rfl, rfl, rfl, rfl, rfl, rfl, rfl, rfl, rfl, rfl, rfl, rfl, rfl, rfl, rfl, rfl, rfl, rfl⟩

end Sys2Proof.Machine
end

