-- ==== Sys2Proof/Laws/Report.lean ====
section
/-! SUPPORT. Read-back of every indexed piece of state, and what reporting (trace, error records, interrupts) leaves of the register window: everything outside the MSI-X pending bits and the error log's and trace's own registers. -/

namespace Sys2Proof.Machine

open Sys2Proof

set_option Elab.async false

variable {O : OtpSt} {Q : List Instr} {s : State}

theorem State.grpOf_setGrp_self {n : Nat} {v : GroupSt} (h : Good O Q s) : (s.setGrp n v).grpOf n = v := Cells.get_set_self (lo := 0) h.grp
theorem State.grpOf_setGrp_other {n k : Nat} {v : GroupSt} (h : k ≠ n) : (s.setGrp n v).grpOf k = s.grpOf k := Cells.get_set_other h
theorem State.grpOf_updGrp_self {n : Nat} {f : GroupSt → GroupSt} (h : Good O Q s) : (s.updGrp n f).grpOf n = f (s.grpOf n) := Cells.get_set_self (lo := 0) h.grp
theorem State.grpOf_updGrp_other {n k : Nat} {f : GroupSt → GroupSt} (h : k ≠ n) : (s.updGrp n f).grpOf k = s.grpOf k := Cells.get_set_other h
theorem State.edgeOf_setEdge_self {n : Nat} {v : EdgeSample} (h : Good O Q s) : (s.setEdge n v).edgeOf n = v := Cells.get_set_self (lo := 0) h.edge
theorem State.edgeOf_setEdge_other {n k : Nat} {v : EdgeSample} (h : k ≠ n) : (s.setEdge n v).edgeOf k = s.edgeOf k := Cells.get_set_other h
theorem State.edgeOf_updEdge_self {n : Nat} {f : EdgeSample → EdgeSample} (h : Good O Q s) : (s.updEdge n f).edgeOf n = f (s.edgeOf n) := Cells.get_set_self (lo := 0) h.edge
theorem State.edgeOf_updEdge_other {n k : Nat} {f : EdgeSample → EdgeSample} (h : k ≠ n) : (s.updEdge n f).edgeOf k = s.edgeOf k := Cells.get_set_other h
theorem State.coreOf_setCore_self {n : Nat} {v : CoreSt} (h : Good O Q s) : (s.setCore n v).coreOf n = v := Cells.get_set_self (lo := 0) h.core
theorem State.coreOf_setCore_other {n k : Nat} {v : CoreSt} (h : k ≠ n) : (s.setCore n v).coreOf k = s.coreOf k := Cells.get_set_other h
theorem State.coreOf_updCore_self {n : Nat} {f : CoreSt → CoreSt} (h : Good O Q s) : (s.updCore n f).coreOf n = f (s.coreOf n) := Cells.get_set_self (lo := 0) h.core
theorem State.coreOf_updCore_other {n k : Nat} {f : CoreSt → CoreSt} (h : k ≠ n) : (s.updCore n f).coreOf k = s.coreOf k := Cells.get_set_other h
theorem State.pairOf_setPair_self {n : Nat} {v : CheckSt} (h : Good O Q s) : (s.setPair n v).pairOf n = v := Cells.get_set_self (lo := 0) h.pair
theorem State.pairOf_setPair_other {n k : Nat} {v : CheckSt} (h : k ≠ n) : (s.setPair n v).pairOf k = s.pairOf k := Cells.get_set_other h
theorem State.pairOf_updPair_self {n : Nat} {f : CheckSt → CheckSt} (h : Good O Q s) : (s.updPair n f).pairOf n = f (s.pairOf n) := Cells.get_set_self (lo := 0) h.pair
theorem State.pairOf_updPair_other {n k : Nat} {f : CheckSt → CheckSt} (h : k ≠ n) : (s.updPair n f).pairOf k = s.pairOf k := Cells.get_set_other h
theorem State.resOf_setRes_self {n : Nat} {v : Option ResultSt} (h : Good O Q s) : (s.setRes n v).resOf n = v := Cells.get_set_self (lo := 0) h.res
theorem State.resOf_setRes_other {n k : Nat} {v : Option ResultSt} (h : k ≠ n) : (s.setRes n v).resOf k = s.resOf k := Cells.get_set_other h
theorem State.resOf_updRes_self {n : Nat} {f : Option ResultSt → Option ResultSt} (h : Good O Q s) : (s.updRes n f).resOf n = f (s.resOf n) := Cells.get_set_self (lo := 0) h.res
theorem State.resOf_updRes_other {n k : Nat} {f : Option ResultSt → Option ResultSt} (h : k ≠ n) : (s.updRes n f).resOf k = s.resOf k := Cells.get_set_other h
theorem State.ainOf_setAin_self {n : Nat} {v : InputSt} (h : Good O Q s) : (s.setAin n v).ainOf n = v := Cells.get_set_self (lo := 0) h.ain
theorem State.ainOf_setAin_other {n k : Nat} {v : InputSt} (h : k ≠ n) : (s.setAin n v).ainOf k = s.ainOf k := Cells.get_set_other h
theorem State.ainOf_updAin_self {n : Nat} {f : InputSt → InputSt} (h : Good O Q s) : (s.updAin n f).ainOf n = f (s.ainOf n) := Cells.get_set_self (lo := 0) h.ain
theorem State.ainOf_updAin_other {n k : Nat} {f : InputSt → InputSt} (h : k ≠ n) : (s.updAin n f).ainOf k = s.ainOf k := Cells.get_set_other h
theorem State.excOf_setExc_self {n : Nat} {v : ExcSt} (h : Good O Q s) : (s.setExc n v).excOf n = v := Cells.get_set_self (lo := 0) h.exc
theorem State.excOf_setExc_other {n k : Nat} {v : ExcSt} (h : k ≠ n) : (s.setExc n v).excOf k = s.excOf k := Cells.get_set_other h
theorem State.excOf_updExc_self {n : Nat} {f : ExcSt → ExcSt} (h : Good O Q s) : (s.updExc n f).excOf n = f (s.excOf n) := Cells.get_set_self (lo := 0) h.exc
theorem State.excOf_updExc_other {n k : Nat} {f : ExcSt → ExcSt} (h : k ≠ n) : (s.updExc n f).excOf k = s.excOf k := Cells.get_set_other h
theorem State.fltOf_setFlt_self {n : Nat} {v : StageSt} (h : Good O Q s) : (s.setFlt n v).fltOf n = v := Cells.get_set_self (lo := 0) h.flt
theorem State.fltOf_setFlt_other {n k : Nat} {v : StageSt} (h : k ≠ n) : (s.setFlt n v).fltOf k = s.fltOf k := Cells.get_set_other h
theorem State.fltOf_updFlt_self {n : Nat} {f : StageSt → StageSt} (h : Good O Q s) : (s.updFlt n f).fltOf n = f (s.fltOf n) := Cells.get_set_self (lo := 0) h.flt
theorem State.fltOf_updFlt_other {n k : Nat} {f : StageSt → StageSt} (h : k ≠ n) : (s.updFlt n f).fltOf k = s.fltOf k := Cells.get_set_other h
theorem State.strmOf_setStrm_self {n : Nat} {v : StreamSt} (h : Good O Q s) : (s.setStrm n v).strmOf n = v := Cells.get_set_self (lo := 0) h.strm
theorem State.strmOf_setStrm_other {n k : Nat} {v : StreamSt} (h : k ≠ n) : (s.setStrm n v).strmOf k = s.strmOf k := Cells.get_set_other h
theorem State.strmOf_updStrm_self {n : Nat} {f : StreamSt → StreamSt} (h : Good O Q s) : (s.updStrm n f).strmOf n = f (s.strmOf n) := Cells.get_set_self (lo := 0) h.strm
theorem State.strmOf_updStrm_other {n k : Nat} {f : StreamSt → StreamSt} (h : k ≠ n) : (s.updStrm n f).strmOf k = s.strmOf k := Cells.get_set_other h
theorem State.hiveLostOf_setHiveLost_self {n : Nat} {v : List (Nat × Tq)} (h : Good O Q s) : (s.setHiveLost n v).hiveLostOf n = v := Cells.get_set_self (lo := 0) h.hiveLost
theorem State.hiveLostOf_setHiveLost_other {n k : Nat} {v : List (Nat × Tq)} (h : k ≠ n) : (s.setHiveLost n v).hiveLostOf k = s.hiveLostOf k := Cells.get_set_other h
theorem State.statsOf_setStats_self {n : Nat} {v : StatCh} (h : Good O Q s) : (s.setStats n v).statsOf n = v := Cells.get_set_self (lo := 0) h.stats
theorem State.statsOf_setStats_other {n k : Nat} {v : StatCh} (h : k ≠ n) : (s.setStats n v).statsOf k = s.statsOf k := Cells.get_set_other h
theorem State.statsOf_updStats_self {n : Nat} {f : StatCh → StatCh} (h : Good O Q s) : (s.updStats n f).statsOf n = f (s.statsOf n) := Cells.get_set_self (lo := 0) h.stats
theorem State.statsOf_updStats_other {n k : Nat} {f : StatCh → StatCh} (h : k ≠ n) : (s.updStats n f).statsOf k = s.statsOf k := Cells.get_set_other h
theorem State.condOf_setCond_self {n : Nat} {v : CondSt} (h : Good O Q s) : (s.setCond n v).condOf n = v := Cells.get_set_self (lo := 0) h.cond
theorem State.condOf_setCond_other {n k : Nat} {v : CondSt} (h : k ≠ n) : (s.setCond n v).condOf k = s.condOf k := Cells.get_set_other h
theorem State.condOf_updCond_self {n : Nat} {f : CondSt → CondSt} (h : Good O Q s) : (s.updCond n f).condOf n = f (s.condOf n) := Cells.get_set_self (lo := 0) h.cond
theorem State.condOf_updCond_other {n k : Nat} {f : CondSt → CondSt} (h : k ≠ n) : (s.updCond n f).condOf k = s.condOf k := Cells.get_set_other h
theorem State.trigOf_setTrig_self {n : Nat} {v : TrigSt} (h : Good O Q s) : (s.setTrig n v).trigOf n = v := Cells.get_set_self (lo := 0) h.trig
theorem State.trigOf_setTrig_other {n k : Nat} {v : TrigSt} (h : k ≠ n) : (s.setTrig n v).trigOf k = s.trigOf k := Cells.get_set_other h
theorem State.trigOf_updTrig_self {n : Nat} {f : TrigSt → TrigSt} (h : Good O Q s) : (s.updTrig n f).trigOf n = f (s.trigOf n) := Cells.get_set_self (lo := 0) h.trig
theorem State.trigOf_updTrig_other {n k : Nat} {f : TrigSt → TrigSt} (h : k ≠ n) : (s.updTrig n f).trigOf k = s.trigOf k := Cells.get_set_other h
theorem State.capOf_setCap_self {n : Nat} {v : CapSt} (h : Good O Q s) : (s.setCap n v).capOf n = v := Cells.get_set_self (lo := 0) h.cap
theorem State.capOf_setCap_other {n k : Nat} {v : CapSt} (h : k ≠ n) : (s.setCap n v).capOf k = s.capOf k := Cells.get_set_other h
theorem State.capOf_updCap_self {n : Nat} {f : CapSt → CapSt} (h : Good O Q s) : (s.updCap n f).capOf n = f (s.capOf n) := Cells.get_set_self (lo := 0) h.cap
theorem State.capOf_updCap_other {n k : Nat} {f : CapSt → CapSt} (h : k ≠ n) : (s.updCap n f).capOf k = s.capOf k := Cells.get_set_other h
theorem State.ffPortOf_setFfPort_self {n : Nat} {v : FfPortSt} (h : Good O Q s) : (s.setFfPort n v).ffPortOf n = v := Cells.get_set_self (lo := 0) h.ffPort
theorem State.ffPortOf_setFfPort_other {n k : Nat} {v : FfPortSt} (h : k ≠ n) : (s.setFfPort n v).ffPortOf k = s.ffPortOf k := Cells.get_set_other h
theorem State.ffPortOf_updFfPort_self {n : Nat} {f : FfPortSt → FfPortSt} (h : Good O Q s) : (s.updFfPort n f).ffPortOf n = f (s.ffPortOf n) := Cells.get_set_self (lo := 0) h.ffPort
theorem State.ffPortOf_updFfPort_other {n k : Nat} {f : FfPortSt → FfPortSt} (h : k ≠ n) : (s.updFfPort n f).ffPortOf k = s.ffPortOf k := Cells.get_set_other h
theorem State.txtsOf_setTxts_self {n : Nat} {v : TxtsSt} (h : Good O Q s) : (s.setTxts n v).txtsOf n = v := Cells.get_set_self (lo := 0) h.txts
theorem State.txtsOf_setTxts_other {n k : Nat} {v : TxtsSt} (h : k ≠ n) : (s.setTxts n v).txtsOf k = s.txtsOf k := Cells.get_set_other h
theorem State.txtsOf_updTxts_self {n : Nat} {f : TxtsSt → TxtsSt} (h : Good O Q s) : (s.updTxts n f).txtsOf n = f (s.txtsOf n) := Cells.get_set_self (lo := 0) h.txts
theorem State.txtsOf_updTxts_other {n k : Nat} {f : TxtsSt → TxtsSt} (h : k ≠ n) : (s.updTxts n f).txtsOf k = s.txtsOf k := Cells.get_set_other h
theorem State.pulseOf_setPulse_self {n : Nat} {v : PulseSt} (h : Good O Q s) : (s.setPulse n v).pulseOf n = v := Cells.get_set_self (lo := 0) h.pulse
theorem State.pulseOf_setPulse_other {n k : Nat} {v : PulseSt} (h : k ≠ n) : (s.setPulse n v).pulseOf k = s.pulseOf k := Cells.get_set_other h
theorem State.pulseOf_updPulse_self {n : Nat} {f : PulseSt → PulseSt} (h : Good O Q s) : (s.updPulse n f).pulseOf n = f (s.pulseOf n) := Cells.get_set_self (lo := 0) h.pulse
theorem State.pulseOf_updPulse_other {n k : Nat} {f : PulseSt → PulseSt} (h : k ≠ n) : (s.updPulse n f).pulseOf k = s.pulseOf k := Cells.get_set_other h
theorem State.linkOf_setLink_self {n : Nat} {v : LinkSt} (h : Good O Q s) : (s.setLink n v).linkOf n = v := Cells.get_set_self (lo := 0) h.link
theorem State.linkOf_setLink_other {n k : Nat} {v : LinkSt} (h : k ≠ n) : (s.setLink n v).linkOf k = s.linkOf k := Cells.get_set_other h
theorem State.linkOf_updLink_self {n : Nat} {f : LinkSt → LinkSt} (h : Good O Q s) : (s.updLink n f).linkOf n = f (s.linkOf n) := Cells.get_set_self (lo := 0) h.link
theorem State.linkOf_updLink_other {n k : Nat} {f : LinkSt → LinkSt} (h : k ≠ n) : (s.updLink n f).linkOf k = s.linkOf k := Cells.get_set_other h
theorem State.sqOf_setSq_self {n : Nat} {v : SqSt} (h : Good O Q s) : (s.setSq n v).sqOf n = v := Cells.get_set_self (lo := 0) h.sq
theorem State.sqOf_setSq_other {n k : Nat} {v : SqSt} (h : k ≠ n) : (s.setSq n v).sqOf k = s.sqOf k := Cells.get_set_other h
theorem State.sqOf_updSq_self {n : Nat} {f : SqSt → SqSt} (h : Good O Q s) : (s.updSq n f).sqOf n = f (s.sqOf n) := Cells.get_set_self (lo := 0) h.sq
theorem State.sqOf_updSq_other {n k : Nat} {f : SqSt → SqSt} (h : k ≠ n) : (s.updSq n f).sqOf k = s.sqOf k := Cells.get_set_other h
theorem State.cqOf_setCq_self {n : Nat} {v : CqSt} (h : Good O Q s) : (s.setCq n v).cqOf n = v := Cells.get_set_self (lo := 0) h.cq
theorem State.cqOf_setCq_other {n k : Nat} {v : CqSt} (h : k ≠ n) : (s.setCq n v).cqOf k = s.cqOf k := Cells.get_set_other h
theorem State.cqOf_updCq_self {n : Nat} {f : CqSt → CqSt} (h : Good O Q s) : (s.updCq n f).cqOf n = f (s.cqOf n) := Cells.get_set_self (lo := 0) h.cq
theorem State.cqOf_updCq_other {n k : Nat} {f : CqSt → CqSt} (h : k ≠ n) : (s.updCq n f).cqOf k = s.cqOf k := Cells.get_set_other h
theorem State.reg_setReg_self {n : Nat} {v : W32} (h : Good O Q s) : (s.setReg n v).reg n = v := Cells.get_set_self (lo := 0) h.regs
theorem State.reg_setReg_other {n k : Nat} {v : W32} (h : k ≠ n) : (s.setReg n v).reg k = s.reg k := Cells.get_set_other h

/-- A register that reporting leaves alone. -/
def quietReg (a : Nat) : Prop := a < 0x6800 ∨ (0x6808 ≤ a ∧ a < 0x7C000)

theorem State.setBit_reg {a b k : Nat} (h : k ≠ a) : (s.setBit a b).reg k = s.reg k := State.reg_setReg_other h
theorem State.clrBit_reg {a b k : Nat} (h : k ≠ a) : (s.clrBit a b).reg k = s.reg k := State.reg_setReg_other h
theorem State.bump_reg {a k : Nat} (h : k ≠ a) : (s.bump a).reg k = s.reg k := State.reg_setReg_other h
theorem State.bumpBy_reg {a k n : Nat} (h : k ≠ a) : (s.bumpBy a n).reg k = s.reg k := State.reg_setReg_other h

theorem State.msix_reg {v a : Nat} (hv : v < 64) (ha : quietReg a) : (s.msix v).reg a = s.reg a := by
  have h : a ≠ 0x6800 + 4 * (v / 32) := by unfold quietReg at ha; omega
  unfold State.msix
  dsimp only
  split
  · exact State.clrBit_reg h
  · exact State.setBit_reg h

theorem State.traceStore_reg {e : TraceEntry} {a : Nat} (ha : quietReg a) : (s.traceStore e).reg a = s.reg a := by
  have h : a ≠ Reg.traceStatus := by unfold quietReg at ha; unfold Reg.traceStatus; omega
  unfold State.traceStore
  dsimp only
  repeat' split
  all_goals first | rfl | exact State.setBit_reg h

theorem State.traceAdd_reg {k n a : Nat} {d : W32} (ha : quietReg a) : (s.traceAdd k n d).reg a = s.reg a := by
  unfold State.traceAdd
  split
  · exact State.traceStore_reg ha
  · rfl

theorem State.traceMark_reg {k a : Nat} (ha : quietReg a) : (s.traceMark k).reg a = s.reg a := State.traceStore_reg ha

theorem State.traceFree_reg {n a : Nat} (ha : quietReg a) : (s.traceFree n).reg a = s.reg a := State.traceAdd_reg ha

theorem State.errMsi_reg {c a : Nat} (ha : quietReg a) : (s.errMsi c).reg a = s.reg a := by
  have hv : ∀ w : W32, field w 5 0 < 64 := fun w => Nat.mod_lt _ (by decide)
  unfold State.errMsi
  dsimp only
  repeat' split
  all_goals first | rfl | (rw [State.msix_reg (hv _) ha]; rfl)

theorem State.logLost_reg {a : Nat} (ha : quietReg a) : (s.logLost).reg a = s.reg a := by
  unfold quietReg at ha
  unfold State.logLost
  rw [State.setBit_reg (by unfold Reg.errStatus; omega), State.bump_reg (by omega)]

theorem State.formRecord_reg {r : ErrRec} {a : Nat} (ha : quietReg a) : (s.formRecord r).reg a = s.reg a := by
  have h : a ≠ 0x7C00C := by unfold quietReg at ha; omega
  unfold State.formRecord
  dsimp only
  split
  · rw [State.errMsi_reg ha]
    exact (State.traceAdd_reg ha).trans (State.reg_setReg_other h)
  · split
    · rw [State.errMsi_reg ha, State.logLost_reg ha]
      exact (State.traceAdd_reg ha).trans (State.reg_setReg_other h)
    · rw [State.logLost_reg ha]
      exact (State.traceAdd_reg ha).trans (State.reg_setReg_other h)

theorem State.raiseOne_reg {e : ErrIn} {n a : Nat} (ha : quietReg a) : (s.raiseOne e n).reg a = s.reg a := by
  have h0 : a ≠ 0x7C014 := by unfold quietReg at ha; omega
  have h1 : a ≠ 0x7C020 + 4 * e.cls := by unfold quietReg at ha; omega
  have h2 : a ≠ 0x7C00C := by unfold quietReg at ha; omega
  have hb : ((s.doIf (decide (1 < n)) (fun t => t.bump 0x7C014)).bumpBy (0x7C020 + 4 * e.cls) n).reg a = s.reg a := by
    rw [State.bumpBy_reg h1]
    unfold State.doIf
    split
    · exact State.bump_reg h0
    · rfl
  rw [← hb]
  unfold State.raiseOne
  dsimp only
  split
  · split
    · exact State.formRecord_reg ha
    · exact State.formRecord_reg ha
  · split
    · split
      · rfl
      · rw [State.logLost_reg ha, State.traceAdd_reg ha, State.reg_setReg_other h2]
        rfl
    · split
      · rfl
      · exact State.formRecord_reg ha

/-- Raising an error leaves every register alone but those of reporting. -/
theorem State.raise_reg {e : ErrIn} {a : Nat} (ha : quietReg a) : (s.raise e).reg a = s.reg a := by
  unfold State.raise State.raiseAll
  split
  · exact State.raiseOne_reg ha
  · rfl

theorem State.setBitRaise_reg {c r b i a : Nat} (h : a ≠ r) (ha : quietReg a) : (s.setBitRaise c r b i).reg a = s.reg a := by
  unfold State.setBitRaise
  split
  · rfl
  · rw [State.raise_reg ha, State.setBit_reg h]

theorem State.endHandling_reg {r i a : Nat} : (s.endHandling r i).reg a = s.reg a := rfl

end Sys2Proof.Machine
end

