-- ==== Sys2Proof/WellFormed.lean ====
section
/-! DEFINITION. Which commands the manual's events and requests can be: every field of an operand that the types leave wider than the manual's own field keeps within it. exec gives a meaning to the others as well; a claim may assume Instr.wf. -/

namespace Sys2Proof

/-- Indices of a list lie below a bound. -/
def idxBelow (n : Nat) (is : List Nat) : Bool := is.all (fun i => decide (i < n))

/-- What the analogue die shows: 512 inputs, 32 outputs (R62, R67). -/
def EdgeSample.wf (e : EdgeSample) : Bool :=
  idxBelow 512 (e.pinUv.map (·.1)) && e.holdUv.all (fun h => decide (h.1 < 1024 ∧ h.1 % 16 < 11)) && idxBelow 32 (e.senseUv.map (·.1)) && idxBelow 32 (e.outUa.map (·.1)) && idxBelow 32 e.limited

/-- Single, dual or quad I/O (R427). -/
def SfdpReport.wf (r : SfdpReport) : Bool := decide (r.io < 3)

/-- A report of a start-up step (R87, R427, R452). -/
def StepReport.wf (r : StepReport) : Bool := idxBelow 512 r.moved && r.deviceA.wf && r.deviceB.wf

/-- A count of 1/65,536 ns fits 64 bits of ns and 16 of fraction (Table 7-6, Table 9-1). -/
def tqFits (t : Nat) : Bool := decide (t < 2 ^ 80)

/-- A DIGEST payload has a word for each of the 64 cores and a 64-bit frame number (Table 13-3). -/
def DigestFrame.wf (f : DigestFrame) : Bool := decide (f.cores.length = 64) && decide (f.frame < 2 ^ 64)

/-- Fields of a STREAM_SYNC entry (Table 13-6). -/
def SyncEntry.wf (e : SyncEntry) : Bool := decide (e.first < 2 ^ 64) && decide (e.frames < 2 ^ 64)

/-- A request has at least one DW; byte enables of a request of one DW are the first ones, and its window address lies in 1 MiB (R284, R472). -/
def RegRequest.wf (r : RegRequest) : Bool := decide (1 ≤ r.data.length ∧ r.data.length ≤ 1024) && decide (r.addr < 1048576)

/-- A tag has 16 bytes, or is absent (R396, R421). -/
def SbFrame.wf (f : SbFrame) : Bool := decide (f.tag.length = 0 ∨ f.tag.length = 16)

/-- A LINK_SPEED code (Table 10-1). -/
def rateWf (r : Nat) : Bool := decide (r < 5)

/-- A page program comes from aligned 32-bit writes into the 64 MiB window (R429). -/
def programWf (offset : Nat) (data : List Byte) : Bool :=
  decide (offset + data.length ≤ 67108864 ∧ offset % 4 = 0 ∧ data.length % 4 = 0 ∧ data ≠ [])

/-- Every operand is one the manual's event or request can carry. -/
def Instr.wf (i : Instr) : Bool :=
  match i with
  | .startupStepEnd rep => rep.wf
  | .strobeEdge _ e | .eventStrobeEdge _ e => e.wf
  | .owTestEnd moved => idxBelow 512 moved
  | .eqTuneDone _ eyes0 eyes1 => decide (eyes0.length = 16 ∧ eyes1.length = 16)
  | .nudge writes => !writes.isEmpty && writes.all (fun w => decide (w.offset < 4096 ∧ 1 ≤ w.bytes))
  | .busMasterEnable c => [128, 256, 512].contains c.maxPayload && [128, 256, 512, 1024, 2048, 4096].contains c.maxRead
  | .blockUnlock w => decide (w.headers.length = 64)
  | .sync _ m => tqFits m.t1
  | .delayResp _ m => tqFits m.t4
  | .ident _ f _ => rateWf f.maxRate
  | .ratePropose _ rate | .rateAccept _ rate => rateWf rate
  | .lineTrigger _ f => tqFits f.tq
  | .digest f => f.wf
  | .digestMissing _ frame | .cfgCtrlArm frame => decide (frame < 2 ^ 64)
  | .streamSync entries => entries.all SyncEntry.wf
  | .mainsFrame f => tqFits f.ta && decide (f.fA < 2 ^ 64) && decide (f.fB < 2 ^ 64)
  | .vaultSync _ tExit => decide (tExit < 2 ^ 64)
  | .sbNop f | .sbRead f | .sbWrite f | .sbDesc f | .sbSvreq f | .sbMalformedFrame f => f.wf
  | .flashProgram offset data => programWf offset data
  | .flashEraseDone _ offset _ => decide (offset < 33554432)
  | .registerWrite req | .unalignedRead req => req.wf
  | .injectionDurationEnd target => [1, 2, 3, 8, 11, 12].contains target
  | .por | .warm _ | .vaultReset _ | .supplyTimeout | .supplyRetry | .stepOverrun | .roleResolution _ | .strobeEvent _ _ | .starved _ | .conversionDone _ _ _ _ | .frameReady _ | .mainsCrossingTimeout
  | .mainsAccept | .mainsStateTimer | .mainsWeightApply _ | .triggerOutEnd | .triggerInEdge _ _ | .captureWindowEnd _ | .captureCopyDone _ | .packetMaxAge _ | .gapRecordWrite _ | .packetCompressed _ _
  | .cmpBypass _ | .packetSigned _ | .packetDmaDone _ | .statsIntervalEnd | .protectionOpen _ _ | .protectionClose _ | .pulseStart _ _ | .polarityCheck _ _ | .inrushEnd _ | .pulseEnd _ _
  | .shortDetect _ | .retryElapsed _ | .openSenseTestEnd _ _ _ _ | .pumpReady | .pumpSagTimeout | .seizeAssert | .seizeRelease | .shortSeenRearm _ | .reversedSeenRearm _ | .owTestStart | .dbPoll
  | .doorbellFetch _ | .descriptorFetch _ _ | .cqModerationTimer _ | .engineHoldTimeout _ | .sqEnable _ _ | .sqDisable _ | .cqEnable _ _ | .cqDisable _ | .pcieConventionalReset | .nop _ | .fence _
  | .cfgBegin _ | .cfgWrite _ | .cfgCommit _ _ | .cfgRollback _ | .cfgTxnTimeout | .heldCommitValidate _ _ | .cfgFlip _ | .heldRestart _ | .liveBankEcc | .cfgStoreDone _ | .streamBuf _ | .captureArm _
  | .captureRead _ | .statsRead _ | .compress _ | .decompress _ | .timePulse _ | .timePulseRise _ | .timePulseFall _ | .fwStage _ | .fwActivate _ | .fwConfirm _ | .fwAutoConfirm | .fwConfirmLimit
  | .signReq _ | .attest _ | .vaultCmdStatus _ | .vaultCmdReadRecords _ | .vaultCmdAck _ | .vaultCmdReadAudit _ | .vaultCmdAuth _ | .vaultCmdReset _ | .twinCmdStatus _ | .twinCmdSwap _
  | .twinCmdTakeover _ | .twinCmdReleaseSeize _ | .twinCmdResume _ | .twinCmdResync _ | .injectCancel _ | .injectDrop _ | .injectCorrupt _ | .injectReorder _ | .injectTag _ | .injectHeader _
  | .injectSquelch _ | .injectExcShort _ | .injectExcOpen _ | .injectExcReversed _ | .injectExcSenseOpen _ | .injectAinOpen _ | .injectAinOvervolt _ | .injectCnvRef _ | .injectCnvSupply _
  | .injectCnvTemp _ | .injectCnvXchk _ | .injectCnvTimeout _ | .injectMemCorrectable _ | .injectMemUncorrectable _ | .injectHostDmaError _ | .injectHostPostingHeld _ | .injectEngineWatchdog _
  | .injectFireflyTheta _ | .injectFireflyInvalid _ | .injectTwinSum _ | .injectTwinAliveStop _ | .injectTwinHealthWithheld _ | .injectPumpSag _ | .injectFatal _ | .syncInterval | .delayReq _ _
  | .exchangeTimeout _ | .parentTimeout | .noParent | .ppsEdge | .ppsTimeout | .ffSetGo _ | .ffNowRead _ | .txtsPop _ | .frameTxEnd _ | .frameRejected _ _ | .ack _ _ | .nak _ _ | .replayTimeout _
  | .ratePass _ | .rateFail _ | .test _ _ | .soakEnd _ | .keyInit _ _ | .keyResp _ _ | .keyConfirm _ _ | .keyRenewal _ | .mgmt _ | .detectDone _ | .clockLockDone _ 
  | .blockLockDone _ | .deskewDone _ _ _ _ | .linkStateTimeout _ | .trainingResend _ | .faultRetry _ | .los _ | .clockUnlock _ | .deskewLost _ | .hiBer _ _ | .loadRetrain _
  | .retrain _ | .chirpRecognised _ | .chirpSend _ | .twinAliveToggle | .twinAliveEdge | .activeLost | .healthSend | .health _ | .dualActive | .ackWaitTimeout | .cfgData _ _ | .cfgCtrlReady _
  | .cfgReadyTimeout | .swapExecute | .sealSwitchChange _ | .weightRecordIssue | .alibiStoreWrite | .vaultWatchdog | .claim _ | .transfer _ | .release _ | .setSbKey _ | .setMetrologyKey _ | .endorse _
  | .setPolicy _ | .unlockInject _ | .lockInject _ | .unlockDebug _ | .backoffEnd | .hibernate _ | .wake | .wakeTimer | .wakeGpio _ | .perstDeassert | .hibSupplyTimeout | .burstEnd | .pllRestart
  | .flashProgramDone _ _ | .engineWatchdog | .engineReturn | .unitFatal _ | .errMsiTimer | .errlogPop _ | .tracePop _ | .streamFlush _ _ | .mantisForce _ | .hubCtrl _ _ | .pinOutSet _ | .pinOutClr _
  | .pinSettle _ _ | .functionSwitchPark _ | .functionSwitchConnect _ | .hibEntryDone | .refclkLoss | .pllUnlock _ | .reservedTypeFrame _ | .compressionJobDone _ | .pcieLinkUp => true

end Sys2Proof
end

