-- ==== Sys2Proof/Tests/Slice0.lean ====
section
/-! SUPPORT. The model's own tests: an ill-formed operand for every check of Instr.wf, the manual's worked examples, and for every statement with hypotheses one state and operands for each of its clauses. A hypothesis about an open function of Config (a signature verifies, a key unwraps) has no value here, so no witness can decide it; the witnesses of those clauses meet the other hypotheses. -/

set_option Elab.async false

namespace Sys2Proof.Tests

open Sys2Proof Sys2Proof.Machine

/-! ### States to test in -/

/-- A hub in service: started up, one second after timebase 0, and without a twin. -/
def up : State :=
  { State.reset with
    boot := { BootSt.init with stage := 10, engine := .up }
    twin := { TwinSt.init with role := .solo, reasons := 0 }
    tm := { TimeSt.init with running := true, count := 4294967296000000000, up := 1000000000 }
    pads := ⟨0x1FFFFFFFF, 0, false, true, true, true, false, 0, 0, [], []⟩
    host := { HostSt.init with control := ⟨true, true, false, 512, 512⟩ } }

/-- Give configuration fields a value: (field code, index, value). -/
def cf (kvs : List (Nat × Nat × Nat)) (s : State) : State :=
  { s with cfg := { s.cfg with live := kvs.foldl (fun b e => Bank.set s.otp.vaultFuse b (keyOf e.1 e.2.1 0) e.2.2) s.cfg.live } }

/-- A descriptor of submission ring 0 with its parameter words; its buffer is at 0x1000. -/
def dsc (op len : Nat) (ps : List W32) : Desc := ⟨0, 0, 0, [BitVec.ofNat 32 op, 0x1000, 0, BitVec.ofNat 32 len] ++ ps, [], 0, false, 0, nsTq 1000000000⟩

/-- A descriptor is in flight. -/
def inFl (d : Desc) (s : State) : State := { s with host := { s.host with inflight := [d], nextId := 1 } }

/-- Output m is in a mode. -/
def excM (m : Nat) (k : ExcMode) (s : State) : State := s.updExc m (fun x => { x with mode := k })

/-- A group runs on schedule, with frame 7 last strobed. -/
def gRun : GroupSt := { GroupSt.init with mode := .running, nextK := 8, strobed := true, lastK := 7, doneK := 7 }

/-- A port is in service. -/
def act (p : Nat) (s : State) : State := s.updLink p (fun l => { l with mode := .active, laneUp := s.tm.up })

/-- The unit is of a pair and has a role. -/
def pairOf (r : Role) (s : State) : State := cf [(Fld.twinEnable, 0, 1)] { s with twin := { s.twin with role := r } }

/-! ### Instr.wf refuses an ill-formed operand -/

def stepRep (moved : List Nat) (io : Nat) : StepReport := ⟨moved, ⟨true, true, true, true, 33554432, 256, io, 80⟩, ⟨true, true, true, true, 33554432, 256, 2, 80⟩, 0, true, true, true⟩
def sbF (bits : Nat) (cmd : Byte) (tag : List Byte) : SbFrame := ⟨bits, cmd, 0, 5, 0, 0, [], tag, false⟩

theorem test_wf_startup_step : Instr.wf (.startupStepEnd (stepRep [511] 2)) = true ∧ Instr.wf (.startupStepEnd (stepRep [512] 2)) = false
    ∧ Instr.wf (.startupStepEnd (stepRep [] 3)) = false := by decide
theorem test_wf_edge : Instr.wf (.strobeEdge .a ⟨[(511, 0)], [(1018, 0)], [(31, 0)], [(31, 0)], [31], 0⟩) = true ∧ Instr.wf (.strobeEdge .a ⟨[(512, 0)], [], [], [], [], 0⟩) = false
    ∧ Instr.wf (.strobeEdge .a ⟨[], [], [(32, 0)], [], [], 0⟩) = false ∧ Instr.wf (.eventStrobeEdge .a ⟨[], [], [], [(32, 0)], [], 0⟩) = false
    ∧ Instr.wf (.eventStrobeEdge .a ⟨[], [], [], [], [32], 0⟩) = false
    ∧ Instr.wf (.strobeEdge .a ⟨[], [(1019, 0)], [], [], [], 0⟩) = false ∧ Instr.wf (.strobeEdge .b ⟨[], [(1024, 0)], [], [], [], 0⟩) = false := by decide
theorem test_wf_open_wire : Instr.wf (.owTestEnd [512]) = false ∧ Instr.wf (.owTestEnd [0, 511]) = true := by decide
theorem test_wf_nudge : Instr.wf (.nudge []) = false ∧ Instr.wf (.nudge [⟨4095, 1⟩]) = true ∧ Instr.wf (.nudge [⟨0, 4⟩, ⟨4096, 4⟩]) = false ∧ Instr.wf (.nudge [⟨0, 0⟩]) = false := by decide
theorem test_wf_pcie : Instr.wf (.busMasterEnable ⟨true, true, false, 1024, 512⟩) = false ∧ Instr.wf (.busMasterEnable ⟨true, true, false, 512, 64⟩) = false ∧ Instr.wf (.busMasterEnable ⟨true, true, false, 512, 4096⟩) = true := by decide
theorem test_wf_link_samples : Instr.wf (.eqTuneDone .head (List.replicate 16 0) (List.replicate 15 0)) = false ∧ Instr.wf (.eqTuneDone .head (List.replicate 16 0) (List.replicate 16 0)) = true
    ∧ Instr.wf (.blockUnlock ⟨.head, List.replicate 63 1⟩) = false ∧ Instr.wf (.blockUnlock ⟨.head, List.replicate 64 1⟩) = true := by decide
theorem test_wf_sync_times : Instr.wf (.sync .head ⟨0, 0, 0, false, 0, 2 ^ 80, 0, false⟩) = false ∧ Instr.wf (.delayResp .head ⟨0, 0, 2 ^ 80, false⟩) = false
    ∧ Instr.wf (.delayResp .head ⟨0, 0, 2 ^ 80 - 1, false⟩) = true ∧ Instr.wf (.lineTrigger .head ⟨0, 0, 0, 0, 0, 2 ^ 80⟩) = false := by decide
theorem test_wf_rates : Instr.wf (.ratePropose .head 5) = false ∧ Instr.wf (.rateAccept .head 5) = false ∧ Instr.wf (.rateAccept .head 4) = true
    ∧ Instr.wf (.ident .head ⟨.tail, 5, true, 0, false, 0, 0⟩ none) = false := by decide
theorem test_wf_digest : Instr.wf (.digest ⟨.a, 0, 0, List.replicate 63 0⟩) = false ∧ Instr.wf (.digest ⟨.a, 2 ^ 64, 0, List.replicate 64 0⟩) = false
    ∧ Instr.wf (.digest ⟨.a, 0, 0, List.replicate 64 0⟩) = true ∧ Instr.wf (.digestMissing .a (2 ^ 64)) = false ∧ Instr.wf (.cfgCtrlArm (2 ^ 64)) = false := by decide
theorem test_wf_stream_sync : Instr.wf (.streamSync [⟨0, 0, 0, 0, 0, 2 ^ 64, 0⟩]) = false ∧ Instr.wf (.streamSync [⟨0, 0, 0, 0, 0, 0, 2 ^ 64⟩]) = false := by decide
theorem test_wf_mains_and_vault : Instr.wf (.mainsFrame ⟨2 ^ 80, 0, 0⟩) = false ∧ Instr.wf (.mainsFrame ⟨0, 2 ^ 64, 0⟩) = false ∧ Instr.wf (.mainsFrame ⟨0, 0, 2 ^ 64⟩) = false
    ∧ Instr.wf (.vaultSync 0 (2 ^ 64)) = false := by decide
theorem test_wf_sideband_tag : Instr.wf (.sbNop (sbF 128 0 [1])) = false ∧ Instr.wf (.sbMalformedFrame (sbF 128 0 (List.replicate 16 0))) = true := by decide
theorem test_wf_flash : Instr.wf (.flashProgram 67108860 [0, 0, 0, 0]) = true ∧ Instr.wf (.flashProgram 67108860 [0, 0, 0, 0, 0, 0, 0, 0]) = false
    ∧ Instr.wf (.flashProgram 2 [0, 0, 0, 0]) = false ∧ Instr.wf (.flashProgram 0 [0, 0]) = false ∧ Instr.wf (.flashProgram 0 []) = false
    ∧ Instr.wf (.flashEraseDone false 33554432 false) = false := by decide
theorem test_wf_register_request : Instr.wf (.registerWrite ⟨0, [], 15, 0⟩) = false ∧ Instr.wf (.unalignedRead ⟨1048576, [0], 15, 0⟩) = false
    ∧ Instr.wf (.registerWrite ⟨1048572, [0], 15, 0⟩) = true := by decide
theorem test_wf_injection_target : Instr.wf (.injectionDurationEnd 4) = false ∧ Instr.wf (.injectionDurationEnd 12) = true := by decide

/-! ### The manual's worked examples -/

/-- R211. -/
theorem test_crc_of_123456789 : crc32c [0x31, 0x32, 0x33, 0x34, 0x35, 0x36, 0x37, 0x38, 0x39] = 0xE3069283 := by decide +kernel

/-- R200: the example block and its 16 bytes. -/
theorem test_delta_example : deltaBlock 2 [0x32000000, 0xF0000000, 0x32001000, 0xEFFFF000]
    = [0x00, 0xFF, 0x00, 0xFF, 0x00, 0xFF, 0x20, 0x1F, 0x00, 0xFF, 0x00, 0x00, 0x64, 0x1F, 0x00, 0x00] := by decide

/-- The example of chapter 14: MASS 12,345,000 mg and WD 2,469. -/
theorem test_mass_example : massOf 8483419400 100 312500000 5000 = (12345000, 2469) := by decide

/-- The example of R115: windows of four, ties to even. -/
theorem test_window_example : (windowOut [(7, 0), (6, 0), (6, 0), (5, 0)] 4 0 0).1.1 = 6 ∧ (windowOut [(8, 0), (6, 0), (6, 0), (5, 0)] 4 0 0).1.1 = 6
    ∧ (windowOut [(7, 0), (7, 0), (6, 0), (6, 0)] 4 0 0).1.1 = 6 ∧ (windowOut [(9, 0), (7, 0), (7, 0), (7, 0)] 4 0 0).1.1 = 8 := by decide

/-- Table 5-3: the weights of the example's three periods. -/
theorem test_weights_example : spanQ16 1 (nsTq 20000000) (nsTq 100000) 1 = 13107200 ∧ spanQ16 1 (nsTq 20040080 + 10507) (nsTq 100000) 1 = 13133467
    ∧ spanQ16 1 (nsTq 20080321 + 18687) (nsTq 100000) 1 = 13159839 ∧ agree (nsTq 20000000) (nsTq 20040080 + 10507) = true := by decide

/-- The example of R173: the interpolated trigger point. -/
theorem test_crossing_example :
    ((cf [(Fld.condType, 5, 2), (Fld.condLevel, 5, 894784853)] up).setCond 5 ⟨true, true, [(1342177280, nsTq 1000050000), (805306368, nsTq 1000000000)], true⟩).crossing 5
      = some (nsTq 1000008333 + 21843) := by decide

/-- The example of R228 to R230: offset, delay and the next interval's correction. -/
theorem test_servo_example :
    let s := cf [(Fld.fireflyKpShift, 0, 1), (Fld.fireflyKiShift, 0, 6), (Fld.fireflyAsymPs, 0, 250)] up
    s.ffTheta 0 (nsTq 5000000000) (nsTq 5000000503 + 24576) (nsTq 5000004000) (nsTq 5000004496 + 40960) = (212992, 32768000)
      ∧ (s.ffSlew 212992 1000000).ff.integral = -3328 ∧ (s.ffSlew 212992 1000000).tm.slew = -109824 * 65536 := by decide

/-- The example of chapter 20: a narrow write of DB_POLL_US is discarded, then an unaligned read. -/
theorem test_access_example :
    exec (.registerWrite ⟨0x4008, [100], 3, 0⟩) up = .next (up.accessDenied 1 ⟨0x4008, [100], 3, 0⟩)
    ∧ (let s := up.accessDenied 1 ⟨0x4008, [100], 3, 0⟩
      s.reg 0x24 = 1 ∧ s.reg 0x28 = 0x10004008 ∧ s.reg 0x4008 = up.reg 0x4008 ∧ (s.log.records.map (fun r => (r.cls, r.reg, r.bit))) = [(0, 0x20, 8)]
      ∧ (s.accessDenied 2 ⟨0x4004, [0, 0], 0xC, 3⟩).reg 0x24 = 2 ∧ (s.accessDenied 2 ⟨0x4004, [0, 0], 0xC, 3⟩).log.records.length = 1) := ⟨rfl, by decide⟩

/-- The same example: BOOT_STATUS after start-up from the second slot's image. -/
theorem test_boot_status_example : ({ up with flash := { up.flash with runningB := true } } : State).readReg 0x40 = 0x10A := by decide

/-- The example of chapter 2: an event at a converter clock edge with DELAY 200, one while the group is busy, and two together. -/
theorem test_event_example :
    let s := (cf [(Fld.strbSource, 1, 1), (Fld.strbEventSrc, 1, 3), (Fld.strbEventGpioA, 1, 1), (Fld.strbEventGpioB, 1, 2), (Fld.strbDelay, 1, 200)] up).setGrp 1 { gRun with pendEdge := none }
    let s := { s with pads := { s.pads with func := [(1, 3), (2, 3)] } }
    (∃ u, exec (.strobeEvent .b [.gpioA true]) s = .next u ∧ (u.grpOf 1).pendEdge = some (1000000000 + 1040) ∧ u.reg (Reg.strb 1 8) = 0
      ∧ ∃ v, exec (.strobeEvent .b [.gpioB true]) u = .next v ∧ (v.grpOf 1).pendEdge = (u.grpOf 1).pendEdge ∧ v.reg (Reg.strb 1 4) = 1)
    ∧ (∃ u, exec (.strobeEvent .b [.gpioA true, .gpioB true]) s = .next u ∧ (u.grpOf 1).pendEdge = some (1000000000 + 1040) ∧ u.reg (Reg.strb 1 8) = 1) :=
  ⟨⟨_, rfl, by decide, by decide, _, rfl, by decide, by decide⟩, ⟨_, rfl, by decide, by decide⟩⟩

/-- The example of chapter 18: STREAM[0].ENABLE is field code 0x19C1 and STREAM[0].CHANNELS 0x19C2, of one and of sixteen words. -/
theorem test_record_example : (∀ rest, readRecord ([0x19C10001, 0, 1] ++ rest) = some (keyOf 0x19C1 0 0, 1, rest)) ∧ (fieldRow 0x19C2).map (fun r => r.words) = some 16 :=
  ⟨fun _ => rfl, by decide⟩

/-! ### Witnesses: for each statement, states and operands that meet the hypotheses of each of its clauses -/

/-! #### The machine, excitation and inputs -/

theorem test_witness_StepRunsTheCommandInFront : ({ up with pending := [.dbPoll, .pumpReady] } : State).pending = .dbPoll :: [.pumpReady] := by decide

theorem test_witness_IdleStepPassesOneTimebaseCycle : up.pending = [] ∧ up.tm.running = true ∧ up.tm.slewLen = 0 ∧ State.reset.tm.running = false := by decide

theorem test_witness_EveryStepKeepsTheInvariant : ({ up with pending := [.pinOutSet 1] } : State).wf = true
    ∧ ∃ t, step { up with pending := [.pinOutSet 1] } = .next t ∧ t.pending = [] ∧ t.reg 0x78088 = 1 := ⟨by decide, _, rfl, by decide⟩

/-- Group A runs, and output 31 (of group A) may start its pulse while n others pulse. -/
def excUp (n : Nat) : State := (List.range n).foldl (fun s m => excM m .pulse s) (excM 31 .idle (up.setGrp 0 gRun))

theorem test_witness_PulsePassesThroughItsStates :
    (let s := excUp 5;
      let t := Look.edgeT s.cfgv 0 8;
      (s.excOf 31).mode = .idle ∧ s.pulseEdge (s.cfgv Fld.excGroup 31 0) = some (8, t) ∧ s.pulseWithheld 31 (t - nsTq (s.cfgv Fld.excLead 31 0)) = false
        ∧ (s.pulsingNow.filter (fun x => x != 31)).length < 6)
    ∧ (let s := excM 31 .inrush up;
      (s.excOf 31).mode = .inrush ∧ s.injOf 4 3 31 = none ∧ Int.natAbs (-49999) < 50000 ∧ (50000 < 0 ↔ (s.excOf 31).negative = true) ∧ s.injOf 4 1 31 = none ∧ (s.excOf 31).cutAt = none)
    ∧ (let s := cf [(Fld.excWidth, 31, 20001)] (excM 31 .inrush up);
      (s.excOf 31).mode = .inrush ∧ 20000 < s.cfgv Fld.excWidth 31 0)
    ∧ ((excM 0 .pulse up).excOf 0).mode = .pulse ∧ ((excM 0 .pulse up).excOf 0).cutAt = none
    ∧ (let s := up.updExc 0 (fun x => { x with mode := .pulse, cutAt := some 5 });
      (s.excOf 0).mode = .pulse ∧ (s.excOf 0).cutAt = some 5)
    ∧ ((pairOf .standby (excM 0 .pulse up)).excOf 0).mode = .pulse ∧ ((pairOf .standby (excM 0 .pulse up)).excOf 0).cutAt = none ∧ (pairOf .standby (excM 0 .pulse up)).isStandby = true ∧ up.isStandby = false
    ∧ (let s := excM 31 .inrush up; ¬ 20000 < (cf [(Fld.excWidth, 31, 20000)] s).cfgv Fld.excWidth 31 0 ∧ (cf [(Fld.excWidth, 31, 20000)] s).injOf 4 1 31 = none)
    ∧ ((excM 0 .short up).excOf 0).mode = .short ∧ ((excM 0 .reversed up).excOf 0).mode = .reversed ∧ (excM 0 .short up).cfgv Fld.excRetry 0 0 ≠ 0
    ∧ (let s := excM 31 .idle up;
      Look.diagFrame s.cfgv (s.cfgv Fld.excGroup 31 0) (s.excOf 31).pulseFrame = true ∧ s.injOf 4 4 31 = none ∧ 200000 ≤ 200000 ∧ (s.excOf 31).senseOpen = false) := by decide +kernel

theorem test_witness_ExcitationEntriesSetStateAndStickyBit : (cf [(Fld.excRetry, 31, 0)] (excM 31 .short up)).wf = true
    ∧ ((cf [(Fld.excRetry, 31, 0)] (excM 31 .short up)).excOf 31).mode = .short ∧ (cf [(Fld.excRetry, 31, 0)] (excM 31 .short up)).cfgv Fld.excRetry 31 0 = 0 := by decide

theorem test_witness_ExcitationFaultsAreEntered :
    ((excM 31 .pulse up).excOf 31).mode = .pulse ∧ (excM 31 .pulse up).isStandby = false
    ∧ (let s := (up.updExc 31 (fun x => { x with mode := .pulse, isRetry := true })).setReg (Reg.excStatus 31) 0xFE000000;
      (s.excOf 31).mode = .pulse ∧ (s.excOf 31).isRetry = true ∧ field (s.reg (Reg.excStatus 31)) 31 24 < 255 ∧ s.isStandby = false)
    ∧ (let s := cf [(Fld.excWidth, 31, 20000)] (excM 31 .inrush up);
      (s.excOf 31).mode = .inrush ∧ s.cfgv Fld.excWidth 31 0 ≤ 20000 ∧ (s.excOf 31).cutAt = none ∧ s.injOf 4 1 31 = none ∧ s.injOf 4 3 31 = none
        ∧ 50000 ≤ Int.natAbs (-50000) ∧ ¬ ((-50000 : Int) < 0 ↔ (s.excOf 31).negative = true))
    ∧ (let s := up.updExc 31 (fun x => { x with mode := .idle, senseFail := 1 });
      (s.excOf 31).mode = .idle ∧ Look.diagFrame s.cfgv (s.cfgv Fld.excGroup 31 0) (s.excOf 31).pulseFrame = true ∧ s.injOf 4 4 31 = none ∧ (s.excOf 31).senseOpen = false
        ∧ 1 ≤ (s.excOf 31).senseFail ∧ 200000 < 200001)
    ∧ (let s := excUp 6;
      let t := Look.edgeT s.cfgv 0 8;
      (s.excOf 31).mode = .idle ∧ s.pulseEdge (s.cfgv Fld.excGroup 31 0) = some (8, t) ∧ s.pulseWithheld 31 (t - nsTq (s.cfgv Fld.excLead 31 0)) = false
        ∧ 6 ≤ (s.pulsingNow.filter (fun x => x != 31)).length) := by decide +kernel

/-- GPIO 20 carries SEIZE_IN. -/
def seizeUp (r : Role) : State := { up with pads := { up.pads with func := [(20, 9)] }, twin := { up.twin with role := r } }

theorem test_witness_PumpAndSeizeMoveEveryOutput :
    (let s : State := { excM 31 .pulse up with pump := { PumpSt.init with running := true } };
      s.wf = true ∧ s.pump.running = true ∧ (s.excOf 31).pulsing = true)
    ∧ (let s := seizeUp .active;
      s.wf = true ∧ s.seizePin = some 20 ∧ s.pads.settled.getLsbD 20 = true ∧ s.pinFunc 20 = 9 ∧ s.twin.role ≠ .solo ∧ s.log.fatal = false ∧ s.twin.role ≠ .seized)
    ∧ (let s := seizeUp .seized;
      s.wf = true ∧ s.seizePin = some 20 ∧ s.pads.settled.getLsbD 20 = true ∧ s.twin.role = .seized) := by decide +kernel

theorem test_witness_InputSwitchesAndOpenWireCheck : up.wf = true ∧ up.pump.owRunning = false ∧ (up.grpOf 0).mode = .stopped ∧ (up.grpOf 1).mode = .stopped
    ∧ ((up.setGrp 1 gRun).grpOf 1).mode ≠ .stopped ∧ (up.setGrp 1 gRun).pump.owRunning = false
    ∧ ({ up with pump := { PumpSt.init with owRunning := true } } : State).pump.owRunning = true
    ∧ ({ up with boot := { up.boot with stage := 6 } } : State).boot.stage = 6 ∧ ({ up with boot := { up.boot with stage := 6 } } : State).wf = true ∧ up.boot.retryDue = false := by decide

/-! #### Strobe groups, filters and mains -/

theorem test_witness_StrobeEdgesStartFramesThatComplete :
    (let s := up.setGrp 1 gRun;
      s.wf = true ∧ Look.scheduled s.cfgv (gidx .b) = true ∧ (s.grpOf (gidx .b)).mode = .running ∧ (s.grpOf (gidx .b)).frame = none)
    ∧ (let s := up.setGrp 0 { GroupSt.init with mode := .waitingStart };
      Look.scheduled s.cfgv (gidx .a) = true ∧ (s.grpOf (gidx .a)).mode = .waitingStart ∧ (s.grpOf (gidx .a)).frame = none)
    ∧ (let s := up.setGrp 1 { gRun with pendEdge := some 1000001040 };
      s.wf = true ∧ (s.grpOf (gidx .b)).pendEdge = some 1000001040 ∧ (s.grpOf (gidx .b)).frame = none)
    ∧ (let s := up.setGrp 0 { gRun with frame := some ⟨7, 0, true, 10, 0, 0, false⟩ };
      s.wf = true ∧ (s.grpOf (gidx .a)).frame = some ⟨7, 0, true, 10, 0, 0, false⟩) := by decide

/-- Group B takes events from both its pins. -/
def evUp (x : GroupSt) : State :=
  { (cf [(Fld.strbSource, 1, 1), (Fld.strbEventSrc, 1, 3), (Fld.strbEventGpioA, 1, 1), (Fld.strbEventGpioB, 1, 2)] up).setGrp 1 x with pads := { up.pads with func := [(1, 3), (2, 3)] } }

theorem test_witness_EventsAreAcceptedSkippedOrMissed :
    (let s := evUp gRun;
      let on := [EventSource.gpioA true].filter (s.eventCounts (gidx .b));
      let two := [EventSource.gpioA true, .gpioB true].filter (s.eventCounts (gidx .b));
      s.wf = true ∧ Look.scheduled s.cfgv (gidx .b) = false ∧ (s.grpOf (gidx .b)).mode = .running ∧ on.length = 1 ∧ s.busyAt (gidx .b) (s.eventUp (gidx .b) on) = false
        ∧ 2 ≤ two.length ∧ s.busyAt (gidx .b) (s.eventUp (gidx .b) two) = false)
    ∧ (let s := evUp { gRun with pendEdge := some 1000001040 };
      let on := [EventSource.gpioA true].filter (s.eventCounts (gidx .b));
      let two := [EventSource.gpioA true, .gpioB true].filter (s.eventCounts (gidx .b));
      s.wf = true ∧ s.busy (gidx .b) = true ∧ on.length = 1 ∧ s.busyAt (gidx .b) (s.eventUp (gidx .b) on) = true ∧ 2 ≤ two.length ∧ two.contains .peer = false)
    ∧ ((evUp gRun).grpOf (gidx .b)).starved = false := by decide
/-- Core 63 converts every slot of a diagnostics frame and has come to one of them. -/
def convUp (slot : Nat) : State :=
  ((cf [(Fld.cnvScanMask, 63, 0xFFF)] up).setGrp 0 { gRun with frame := some ⟨0, 0, true, 11, 0, 0, false⟩ }).updCore 63 (fun x => { x with pos := slot })

theorem test_witness_ConversionStoresItsResult :
    ∀ slot ∈ [0, 7, 8, 9, 10, 11], (convUp slot).wf = true ∧ ((convUp slot).grpOf (Look.coreGroup (convUp slot).cfgv 63)).frame = some ⟨0, 0, true, 11, 0, 0, false⟩
      ∧ (Look.slots (convUp slot).cfgv 63 true)[((convUp slot).coreOf 63).pos]? = some slot
      ∧ (convUp slot).injOf 6 5 63 = none ∧ (convUp slot).injOf 6 1 63 = none ∧ (convUp slot).injOf 6 2 63 = none ∧ (convUp slot).injOf 6 3 63 = none ∧ (convUp slot).injOf 6 4 63 = none := by decide

theorem test_witness_ArithmeticRoundsAndSaturates : 2 * (5 - roundHalfEven 5 2 * 2).natAbs = 2 ∧ limitCode 524287 = (524287, true) ∧ limitCode (-524288) = (-524288, true) ∧ limitCode 524286 = (524286, false)
    ∧ (up.updAin 511 (fun x => { x with overNow := true, positive := true })).fullScale 511 = some true
    ∧ (2147483647 < windowQ [(2147483647, 0)] 1 0 1) ∧ windowQ [(-2147483648, 0)] 1 0 1 < -2147483648
    ∧ ((2147483647, (8 : Marks)) ∈ [(2147483647, (8 : Marks))].take 1 ∧ (8 : Marks).getLsbD 3 = true) := by decide

/-- Mains tracking is on and in a state. -/
def mainsUp (m : MainsSt) : State := { cf [(Fld.mainsEnable, 0, 1)] up with mains := m }

theorem test_witness_MainsTrackingTakesMeasurements :
    (mainsUp .init).wf = true ∧ (mainsUp .init).cfgOn Fld.mainsEnable 0 = true
    ∧ (let s := mainsUp { MainsSt.init with mode := .acquiring, done := [some (nsTq 20000000)], prev := some (nsTq 20100000), run := 3 };
      s.wf = true ∧ s.mains.done = some (nsTq 20000000) :: [] ∧ s.engineUp = true ∧ s.isStandby = false ∧ s.mains.mode = .acquiring ∧ s.mains.prev = some (nsTq 20100000)
        ∧ agree (nsTq 20100000) (nsTq 20000000) = true ∧ s.mains.run = 3 ∧ s.mains.warned = false)
    ∧ (let s := mainsUp { MainsSt.init with mode := .locked, done := [none] };
      s.wf = true ∧ s.mains.done = none :: [] ∧ s.engineUp = true ∧ s.isStandby = false ∧ s.mains.mode = .locked)
    ∧ (mainsUp { MainsSt.init with pendB := true }).mains.pends (gidx .b) = true ∧ (mainsUp { MainsSt.init with pendB := true }).mains.applyF = none
    ∧ (let s := mainsUp { MainsSt.init with pendB := true, boundB := true }; s.wf = true ∧ s.mains.pends (gidx .b) = true ∧ s.mains.bound (gidx .b) = true ∧ (s.grpOf (gidx .b)).frame = none ∧ s.mains.applyF = none)
    ∧ (mainsUp .init).mainsDue (gidx .a) = false ∧ (mainsUp .init).mains.pends (gidx .a) = false := by decide

theorem test_witness_StatisticsIntervalsCompleteAndAreRead :
    (let a : StatAcc := ⟨0, 0, 1000000000, 1000000000, 0, 0, 1, 0, 0, 0, 0, true, 0, 0, 0, false, true⟩;
      let s := up.setStats 510 ⟨some a, []⟩;
      s.wf = true ∧ Look.converted s.cfgv 510 = true ∧ (s.statsOf 510).cur = some a ∧ a.index + 1 = s.nowNs / s.statInterval ∧ a.index < s.nowNs / s.statInterval ∧ a.n ≠ 0 ∧ s.tm.running = true
        ∧ ({ a with index := 1 } : StatAcc).index = s.nowNs / s.statInterval)
    ∧ (let d := dsc 0x23 64 [511, 1, 1, 0];
      (inFl d up).serves 0 0x23 d ∧ d.flag 3 = false ∧ field (d.p 1) 9 0 ≠ 0 ∧ field (d.p 0) 8 0 + field (d.p 1) 9 0 ≤ 512 ∧ 64 * field (d.p 1) 9 0 ≤ d.len
        ∧ d.p64 2 ≤ (inFl d up).nowNs / (inFl d up).statInterval ∧ d.p64 2 ≠ 18446744073709551615) := by unfold State.serves; decide

/-- Stream x takes channel 0, and its state. -/
def strmUp (x : Nat) (st : StreamSt) : State := (cf [(Fld.streamEnable, x, 1), (Fld.streamChannels, x, 1), (Fld.streamMaxAge, x, 1)] up).setStrm x st

def pk (seq : W32) (frames : List PktFrame) : Packet :=
  { stream := 63, seq := seq, epoch := 0, channels := 1, marksOn := false, timesOn := false, level := 0, delta := false, sign := false, frames := frames, gap := none, closedAt := 0, lane := none, settled := true,
    packed := none, signature := none, damaged := false, spilled := false }

theorem test_witness_StreamCommandsCloseAndPost :
    (let s := strmUp 63 { StreamSt.init with openPkt := some (pk 0 [⟨0, 0, 0, [(1, 0)]⟩]) };
      s.cfgv Fld.streamMaxAge 63 0 ≠ 0 ∧ s.isStandby = false ∧ (s.strmOf 63).openPkt.isSome = true ∧ (s.strmOf 63).openPkt = some (pk 0 [⟨0, 0, 0, [(1, 0)]⟩]) ∧ s.cfg.bad = false
        ∧ (s.strmOf 63).awaitCut = none ∧ (pk 0 [⟨0, 0, 0, [(1, 0)]⟩]).frames ≠ [] ∧ (s.strmOf 63).flush = false ∧ s.cfgOn Fld.streamEnable (32 + 31) = true)
    ∧ (let s := strmUp 31 .init; s.cfgOn Fld.streamEnable 31 = true ∧ (s.strmOf 31).flush = false)
    ∧ (let d := dsc 0x20 (Look.largestPacket (strmUp 63 .init).cfgv 63) [63];
      (inFl d (strmUp 63 .init)).serves 0 0x20 d ∧ (inFl d (strmUp 63 .init)).cfgOn Fld.streamEnable (field (d.p 0) 5 0) = true
        ∧ Look.largestPacket (inFl d (strmUp 63 .init)).cfgv (field (d.p 0) 5 0) ≤ d.len)
    ∧ (let d := dsc 0x20 0 [62];
      (inFl d (strmUp 63 .init)).serves 0 0x20 d ∧ (inFl d (strmUp 63 .init)).cfgOn Fld.streamEnable (field (d.p 0) 5 0) = false)
    ∧ (let d := dsc 0x20 (Look.largestPacket (strmUp 63 .init).cfgv 63 - 1) [63];
      (inFl d (strmUp 63 .init)).serves 0 0x20 d ∧ d.len < Look.largestPacket (inFl d (strmUp 63 .init)).cfgv (field (d.p 0) 5 0))
    ∧ (let l : LossSt := ⟨1, 0, 0, 0, 0, none, none, none⟩;
      let s := (strmUp 63 { StreamSt.init with overflow := true, losses := [l] }).setGrp 0 gRun;
      (s.strmOf 63).overflow = true ∧ (s.strmOf 63).resume = false ∧ (s.roomFor 63 (Look.largestPacket s.cfgv 63)).isSome = true ∧ (s.strmOf 63).losses = [l]
        ∧ Look.scheduled s.cfgv (Look.strmGroup s.cfgv 63) = true ∧ (s.grpOf (Look.strmGroup s.cfgv 63)).mode = .running ∧ Look.strmDec s.cfgv 63 = 1
        ∧ Look.scheduled (cf [(Fld.strbSource, 0, 1)] s).cfgv (Look.strmGroup (cf [(Fld.strbSource, 0, 1)] s).cfgv 63) = false) := by unfold State.serves; decide +kernel

theorem test_witness_PacketsAreSignedAndWrittenToTheirBuffer :
    (let p := { pk 4 [⟨0, 0, 0, [(1, 0)]⟩] with sign := true };
      oldestOf (strmUp 63 { StreamSt.init with queue := [p] }).signWait = some (63, p))
    ∧ (let b : StreamBuf := ⟨0, 0xFFFFFFFFFFFFFFFC, 4096, 0, 0, 0, [], false⟩;
      let p := pk 4 [⟨0, 0, 0, [(1, 0)]⟩];
      let s := strmUp 63 { StreamSt.init with queue := [p], bufs := [b] };
      s.wf = true ∧ s.deliversNow 63 = true ∧ (s.strmOf 63).buffer = some b ∧ (s.strmOf 63).queue = p :: [] ∧ p.damaged = false ∧ p.ready = true ∧ b.used + p.size ≤ b.len
        ∧ (p.bytes (fun _ => 0)).length ≤ 18446744073709551616 ∧ ((s.fillBuf 63 b p).strmOf 63).flushSeq ≠ some p.seq) := by decide +kernel

theorem test_witness_LanesServePacketsAndJobs :
    (let p := { pk 4 [⟨0, 0, 0, [(1, 0)]⟩] with level := 6, settled := false, lane := some 3 };
      let s : State := { strmUp 63 { StreamSt.init with closing := [p] } with comp := { CompSt.init with lanes := [.free, .free, .free, .packet 63] } };
      s.comp.lanes.getD 3 .free = .packet 63 ∧ (s.strmOf 63).onLane 3 = some p ∧ s.memError 3 = 0 ∧ p.settled = false ∧ p ∈ (s.strmOf 63).closing ∧ p.seq = 4 ∧ p.seq ≠ 5
        ∧ (s.strmOf 63).onLane 2 = none)
    ∧ (let p := { pk 4 [⟨0, 0, 0, [(1, 0)]⟩] with level := 6, settled := false };
      ((strmUp 63 { StreamSt.init with closing := [p] }).strmOf 63).closing.find? (fun p => !p.settled && p.lane.isNone) = some p)
    ∧ (let d := dsc 0x30 4096 [0x2000, 0, 64, 6]; (inFl d up).serves 0 0x30 d ∧ d.jobBad = false ∧ (inFl d up).comp.chains = [] ∧ (inFl d up).comp.jobs = [])
    ∧ (let d := dsc 0x30 4096 [0x2000, 0, 0, 10]; (inFl d up).serves 0 0x30 d ∧ d.jobBad = true)
    ∧ (let d := dsc 0x31 4096 [0x2000, 0, 64, 0, 0, 64]; (inFl d up).serves 0 0x31 d ∧ d.jobBad = false)
    ∧ (let d := dsc 0x31 4096 [0x2000, 0, 0, 0x100]; (inFl d up).serves 0 0x31 d ∧ d.jobBad = true) := by unfold State.serves; decide

/-- Descriptor 0 is a job of which lane 3 works on a segment. -/
def laneUp (d : Desc) (seg : Nat) (j : JobSt) : State := { inFl d up with comp := { CompSt.init with lanes := [.free, .free, .free, .job 0 seg], jobs := [j] } }

theorem test_witness_LanesServePacketsAndJobs_lanes :
    (let d := dsc 0x30 4096 [0x2000, 0, 65537, 6]; let j : JobSt := ⟨0, 2, [(0, [])], none, none, [], 0⟩; let s := laneUp d 1 j;
      s.comp.lanes.getD 3 .free = .job 0 1 ∧ s.canDma = true ∧ s.descOf 0 = some d ∧ s.comp.jobs.find? (fun j => j.id == 0) = some j ∧ d.op = 0x30 ∧ j.data.length + 1 = segsOf d.jobSrcLen)
    ∧ (let d := dsc 0x31 4096 [0x2000, 0, 64, 0x200, 0, 64]; let j : JobSt := ⟨0, 1, [], none, some 3, [], 0⟩; let s := laneUp d 0 j;
      s.comp.lanes.getD 3 .free = .job 0 0 ∧ s.canDma = true ∧ s.descOf 0 = some d ∧ s.comp.jobs.find? (fun j => j.id == 0) = some j ∧ d.op ≠ 0x30 ∧ d.jobPacket = true
        ∧ ({ s with pads := { s.pads with pcieUp := false } } : State).canDma = false)
    ∧ (let s := cf [(Fld.streamCmpLevel, 63, 1)] (strmUp 63 .init); s.streamsCompress = true ∧ s.jobLanes ≤ 2) := by decide

theorem test_witness_DeltaTransformIsUndone : undeltaBlock 2 (deltaBlock 2 [0x32000000, 0xF0000000, 0x32001000, 0xEFFFF000]) = [0x32000000, 0xF0000000, 0x32001000, 0xEFFFF000] := by decide

/-! #### Mantis -/

theorem test_witness_PatternsAndConditionsDecide : (0x20 : Nat) ≠ 0 ∧ patternMatches (0x20 + 18446744073709551616 * 0x20) 0x20 = true ∧ patternMatches 0 0 = false
    ∧ (0 : Int) ≤ 4 ∧ (5 : Int) < 10 - 4 ∧ (10 : Int) - 4 ≤ 9 ∧ (9 : Int) < 10 ∧ (10 : Int) + 4 ≤ 14 ∧ (10 : Int) ≤ 19 ∧ (19 : Int) < 20 ∧ (15 : Int) < 20 - 4 := by decide

/-- Unit u may capture, with descriptors ds waiting. -/
def capUp (u : Nat) (x : CapSt) : State := (cf [(Fld.capEnable, u, 1), (Fld.capSources, u, 1), (Fld.tinGpio, 1, 3)] up).setCap u x

theorem test_witness_CaptureUnitsAcceptOrMissTriggers :
    (let s := capUp 15 { CapSt.init with mode := .armed, descs := [4, 5] };
      s.wf = true ∧ (s.capOf 15).descs = 4 :: [5] ∧ (⟨2, s.now, false, 0⟩ : TrigEvent).listed (s.cfgv Fld.capSources 15 0) = 0 ∧ s.capOn 15 = true ∧ s.capLive = true
        ∧ s.tooFar (s.now + nsTq 2147483648) = true) := by decide

theorem test_witness_TriggerPinsAndWindowsAct :
    ({ up with mantis := { MantisSt.init with toutHigh := true } } : State).wf = true ∧ ({ up with mantis := { MantisSt.init with toutHigh := true } } : State).mantis.toutHigh = true
    ∧ (let s : State := { capUp 15 .init with pads := { up.pads with func := [(3, 6)] } }; s.wf = true ∧ s.pinCarries (s.cfgv Fld.tinGpio 1 0) 6 = true ∧ s.cfgv Fld.tinEdge 1 0 = 0 ∧ s.pinCarries (s.cfgv Fld.tinGpio 0 0) 6 = false
      ∧ (cf [(Fld.tinEdge, 1, 1)] s).cfgv Fld.tinEdge 1 0 ≠ 0)
    ∧ (let s := capUp 15 { CapSt.init with mode := .window }; s.wf = true ∧ (s.capOf 15).mode = .window ∧ (s.capOf 15).descs = [])
    ∧ (let s := capUp 15 { CapSt.init with mode := .window, descs := [1], deadFrom := some 7 }; s.wf = true ∧ (s.capOf 15).mode = .window ∧ (s.capOf 15).descs ≠ [] ∧ s.capLive = true
      ∧ (s.capOf 15).deadFrom = some 7) := by decide

/-- CAPTURE_READ of channel 0 from the last frame on. -/
def readD (hi : W32) : Desc := dsc 0x22 8192 [0, 1000000000, 0, hi, 0, 0x8000, 0]
def readS : State := let s := inFl (readD 1000050000) (up.setGrp 0 gRun); { s with host := { s.host with mem := [(0x8000, 1)] } }

theorem test_witness_CaptureDescriptorsAreServed :
    (let d := dsc 0x21 100000 [14]; (inFl d (capUp 15 .init)).wf = true ∧ (inFl d (capUp 15 .init)).serves 0 0x21 d ∧ (inFl d (capUp 15 .init)).capOn (field (d.p 0) 3 0) = false)
    ∧ (let s0 := capUp 15 .init; let d := dsc 0x21 (s0.capLargest 15) [15]; let s := inFl d s0;
      s.serves 0 0x21 d ∧ s.capOn (field (d.p 0) 3 0) = true ∧ s.capLargest (field (d.p 0) 3 0) + (if d.flag 3 then 104 else 0) ≤ d.len ∧ s.capLive = true ∧ (s.capOf 15).mode = .idle)
    ∧ (let s0 := capUp 15 .init; let d := dsc 0x21 (s0.capLargest 15 - 1) [15]; let s := inFl d s0; s.serves 0 0x21 d ∧ d.len < s.capLargest (field (d.p 0) 3 0) + (if d.flag 3 then 104 else 0))
    ∧ (let d := readD 1000050000; let s := readS;
      s.wf = true ∧ s.serves 0 0x22 d ∧ d.p64 1 ≤ d.p64 3 ∧ d.p64 5 % 8 = 0 ∧ s.tooFar (s.readPoint (field (d.p 0) 0 0) (nsTq (d.p64 1))) = false ∧ s.readOk (d.p64 5) 64 = true
        ∧ s.readFrames (field (d.p 0) 0 0) (nsTq (d.p64 1)) (nsTq (d.p64 3)) ≤ 65535 ∧ (∀ i ∈ bitsOf 512 (ofLeBytes (s.hostRead (d.p64 5) 64)), Look.chanGroup s.cfgv i = field (d.p 0) 0 0)
        ∧ Look.scheduled s.cfgv (field (d.p 0) 0 0) = true
        ∧ recordBytes (s.readFrames (field (d.p 0) 0 0) (nsTq (d.p64 1)) (nsTq (d.p64 3))) (popCount 512 (ofLeBytes (s.hostRead (d.p64 5) 64))) + (if d.flag 3 then 104 else 0) ≤ d.len)
    ∧ (let d := dsc 0x22 8 [0, 1000000000, 0, 1000050000, 0, 0x8000, 0]; let s := inFl d readS;
      s.serves 0 0x22 d ∧ s.readOk (d.p64 5) 64 = true ∧ s.readFrames (field (d.p 0) 0 0) (nsTq (d.p64 1)) (nsTq (d.p64 3)) ≤ 65535
        ∧ d.len < recordBytes (s.readFrames (field (d.p 0) 0 0) (nsTq (d.p64 1)) (nsTq (d.p64 3))) (popCount 512 (ofLeBytes (s.hostRead (d.p64 5) 64)))) := by
  unfold State.serves; decide +kernel

theorem test_witness_CaptureDescriptorsAreServed_bounds :
    (let d := dsc 0x22 8192 [0, 1000000000, 0, 3147483647, 0, 0x8000, 0]; let s := inFl d (cf [(Fld.strbPeriod, 0, 5000)] (up.setGrp 0 gRun));
      s.serves 0 0x22 d ∧ s.tooFar (s.readPoint (field (d.p 0) 0 0) (nsTq (d.p64 1))) = false ∧ 65535 < s.readFrames (field (d.p 0) 0 0) (nsTq (d.p64 1)) (nsTq (d.p64 3)))
    ∧ (let d := dsc 0x22 8192 [0, 3147483648, 0, 3147483649, 0, 0x8000, 0]; let s := inFl d up; s.serves 0 0x22 d ∧ d.p64 1 ≤ d.p64 3 ∧ s.tooFar (s.readPoint (field (d.p 0) 0 0) (nsTq (d.p64 1))) = true)
    ∧ (let d := dsc 0x21 0 [15];
      let j : CapJob := ⟨15, 0, 0, 0, 1, 0, 0, 0, 0xFFFF, 1, 0, false, false, 0, 0, 0, [], [], none, [], false⟩;
      let s : State := { inFl d up with mantis := { MantisSt.init with jobs := [j] } };
      s.mantis.jobs.find? (fun j => j.unit == 15) = some j ∧ s.descOf j.id = some d ∧ s.capOver j = true ∧ s.canDma = true) := by
  unfold State.serves; decide +kernel

theorem test_witness_LineTriggersAreTakenOnce :
    (let f : LineTrig := ⟨0, 0, 1, 0xFFFF, 5, up.now⟩; let s : State := { act 1 up with mantis := { MantisSt.init with seen := [(1, 5, up.now)] } };
      s.wf = true ∧ s.inService (pidx .tail) = true ∧ s.ltrigDuplicate f = true ∧ (act 1 up).ltrigDuplicate f = false ∧ f.epoch = s.epoch ∧ s.tooFar f.tq = false ∧ f.hopsLeft = 0)
    ∧ (let f : LineTrig := ⟨0, 1, 1, 0xFFFF, 5, up.now + nsTq 2147483648⟩;
      (act 1 up).tooFar f.tq = true ∧ f.hopsLeft ≠ 0 ∧ 0 ∈ forwardPorts (pidx .tail) ∧ ((act 1 up).linkOf 0).mode = .disabled ∧ (0 : BitVec 16) ≠ (act 1 up).epoch) := by decide

/-! #### Firefly -/

/-- The servo of the hub is in a state. -/
def ffUp (x : FfSt) : State := { act 0 up with ff := x }
def ffExch (t3 : Option Tq) (retry : Bool) : ExchSt := ⟨7, 5, 5, up.now, up.now, t3, retry⟩
/-- A hub of epoch 5 with an exchange open at its parent port, HEAD. -/
def ffOpen (e : ExchSt) : State := (ffUp { FfSt.init with epoch := 5, mode := .locked }).updFfPort 0 (fun x => { x with exch := [e] })

theorem test_witness_SlewingSpreadsItsCorrection :
    (let t : TimeSt := { up.tm with slew := -4294967296, slewLen := 1 }; t.slewLen ≠ 0 ∧ t.slewLen ≤ 1 ∧ t.running = true ∧ t.slew.natAbs ≤ t.slewLen * 4294967296) := by decide

theorem test_witness_OffsetsAreMeasuredAndTakenAsSteps : up.wf = true ∧ up.cfgInt Fld.fireflyAsymPs 2 = 0 ∧ ((1000 : Nat) : Int) = (500 : Nat) + 400 + 100 ∧ ((2300 : Nat) : Int) = (2000 : Nat) + 400 - 100 := by decide

theorem test_witness_SyncExchangesRunAtAPort :
    (let s := ffUp { FfSt.init with epoch := 5 }; s.wf = true ∧ s.epoch ≠ 0xFFFF ∧ up.epoch = 0xFFFF ∧ s.inService (pidx .head) = true ∧ s.ffRoot = false ∧ pidx .head = s.ffInUse
      ∧ (4093 : BitVec 12).toNat < 4094 ∧ (5 : BitVec 16) = s.epoch ∧ (s.ffPortOf 0).exch = [] ∧ (s.ffPortOf 0).exch.find? (fun e => e.seqId == 7) = none ∧ s.ff.mode = .free ∧ 4094 ≤ (4094 : BitVec 12).toNat)
    ∧ (let s := (cf [(Fld.fireflyRole, 0, 0)] (ffUp { FfSt.init with epoch := 5 })).updFfPort 0 (fun x => { x with conflict := true });
      s.ffRoot = true ∧ pidx .head ≠ 2 ∧ s.epoch = 5 ∧ (s.ffPortOf 0).conflict = true)
    ∧ (let s := ffOpen (ffExch (some up.now) false);
      s.wf = true ∧ (s.ffPortOf 0).exch = [ffExch (some up.now) false] ∧ (s.ffPortOf 0).exch.find? (fun e => e.seqId == 7) = some (ffExch (some up.now) false) ∧ s.injOf 10 1 0 = none ∧ s.injOf 10 2 0 = none ∧ (ffExch (some up.now) false).seqId = 7
        ∧ (ffExch (some up.now) false).epoch = s.epoch ∧ (ffExch (some up.now) false).reqEpoch = s.epoch ∧ (ffExch (some up.now) false).retry = false ∧ s.now ≤ up.now + nsTq 200000)
    ∧ (let s := ffOpen (ffExch none true); s.wf = true ∧ (s.ffPortOf 0).exch.find? (fun e => e.seqId == 7) = some (ffExch none true) ∧ (∀ x ∈ (s.ffPortOf 0).exch, x.t3 = none) ∧ (5 : BitVec 16) ≠ 6 ∧ s.injOf 10 2 0 = none ∧ (ffExch none true).t3 = none ∧ (ffExch none true).retry = true) := by decide

/-- The hub is ROOT with a source. -/
def rootUp (source : Nat) (x : FfSt) : State := { cf [(Fld.fireflyRole, 0, 0), (Fld.fireflyRootSource, 0, source), (Fld.fireflyPpsGpio, 0, 12)] (ffUp x) with pads := { up.pads with func := [(12, 4)] } }

theorem test_witness_ServoStatesAndLatchesFollowTheirRules :
    (let s := ffUp { FfSt.init with mode := .locked }; s.wf = true ∧ s.ffRoot = false ∧ s.ff.altInUse = false ∧ s.ffAlt = none ∧ s.ff.mode = .locked)
    ∧ (let s := (act 1 (cf [(Fld.fireflyAltParent, 0, 2)] (ffUp { FfSt.init with mode := .locked }))).updFfPort 1 (fun x => { x with lastUp := some 1000000000 });
      s.wf = true ∧ s.ffAlt = some 1 ∧ 1 ≠ s.ffParent ∧ s.inService s.ffParent = true ∧ (s.reachUp s.ffDue).ffGives 1 = true ∧ s.ffGives 1 = true ∧ (s.ffPortOf 1).altBad = false ∧ 16 ≤ s.ff.sinceSwitch ∧ s.ff.altInUse = false
        ∧ (s.updLink 0 (fun l => { l with mode := .detect })).inService 0 = false)
    ∧ (ffUp { FfSt.init with mode := .acquiring }).ff.mode = .acquiring
    ∧ (let s := rootUp 1 { FfSt.init with mode := .locked };
      s.wf = true ∧ s.ffRoot = true ∧ s.ffPps = true ∧ s.ff.mode = .locked ∧ s.pinCarries (s.cfgv Fld.fireflyPpsGpio 0 0) 4 = true ∧ s.ff.goPending = none)
    ∧ (rootUp 1 { FfSt.init with mode := .acquiring, goPending := some (5, 5) }).ff.goPending = some (5, 5)
    ∧ 1000 < (1001 : Int).natAbs ∧ (1000 : Int).natAbs ≤ 1000
    ∧ (let s := ffUp { FfSt.init with mode := .acquiring, ppsRun := 3 }; s.ff.mode = .acquiring ∧ s.ff.ppsRun = 3 ∧ (100 : Int).natAbs ≤ 100)
    ∧ (rootUp 0 .init).ffPps = false ∧ field ((rootUp 0 .init).reg 0x48038) 15 0 ≠ 0xFFFF ∧ field (((rootUp 0 .init).setReg 0x48038 0xFFFF).reg 0x48038) 15 0 = 0xFFFF
    ∧ ({ up with sv := { SvSt.init with owned := true } } : State).sv.policy.getLsbD 0 = false
    ∧ ((up.setTxts 2 ⟨List.replicate 31 ⟨0, 0, false, false⟩, false⟩).txtsOf 2).queue.length < 32 ∧ 32 ≤ ((up.setTxts 2 ⟨List.replicate 32 ⟨0, 0, false, false⟩, false⟩).txtsOf 2).queue.length := by decide

/-- TIME_PULSE on GPIO 5, one pulse of a width, w ns after the present. -/
def pulseD (lo width : W32) : Desc := dsc 0x40 0 [0x0503, lo, 0, 0, width, 0, 0, 1]
def pulseS (d : Desc) : State := { inFl d up with pads := { up.pads with func := [(5, 5)] } }
def pulseP (d : Desc) : PulseProg := ⟨0, field (d.p 0) 12 8, nsTq (d.p64 1) + field (d.p 3) 15 0, (d.p 4).toNat, nsTq (d.p 5).toNat + field (d.p 6) 15 0, (d.p 7).toNat⟩

theorem test_witness_TimePulsesRiseAndFallAtTheirTimes :
    (let d := pulseD 0 0; (pulseS d).wf = true ∧ (pulseS d).serves 0 0x40 d ∧ (pulseP d).width = 0)
    ∧ (let d := pulseD 0 9; (pulseS d).serves 0 0x40 d ∧ (pulseP d).width ≠ 0 ∧ (pulseS d).pulseGood (pulseP d) = false)
    ∧ (let d := pulseD 3147483648 10; (pulseS d).serves 0 0x40 d ∧ (pulseS d).pulseGood (pulseP d) = true ∧ nsTq 2147483647 < (((pulseP d).start : Int) - (pulseS d).now).natAbs)
    ∧ (let d := pulseD 1000001999 10; (pulseS d).serves 0 0x40 d ∧ (pulseS d).pulseGood (pulseP d) = true ∧ (((pulseP d).start : Int) - (pulseS d).now).natAbs ≤ nsTq 2147483647
      ∧ (pulseP d).start < d.fetchedAt + nsTq 2000)
    ∧ (let d := pulseD 1000002000 10; (pulseS d).serves 0 0x40 d ∧ (pulseS d).pulseGood (pulseP d) = true ∧ (((pulseP d).start : Int) - (pulseS d).now).natAbs ≤ nsTq 2147483647
      ∧ d.fetchedAt + nsTq 2000 ≤ (pulseP d).start ∧ (pulseS d).cfg.bad = false ∧ ((pulseS d).pulseOf 3).prog = none) := by unfold State.serves; decide

theorem test_witness_TimePulsesRiseAndFallAtTheirTimes_edges :
    (let p : PulseProg := ⟨0, 5, nsTq 1000002000, 10, 1000 * 65536, 2⟩; let s := up.setPulse 3 { PulseSt.init with prog := some p, edge := 1 };
      s.wf = true ∧ (s.pulseOf 3).prog = some p ∧ (s.pulseOf 3).next = [] ∧ p.doneAt (s.pulseOf 3).edge = false ∧ 1000 * 65536 ≤ p.period
        ∧ (let n : PulseProg := { p with start := nsTq 1000003000 }; let s := up.setPulse 3 { PulseSt.init with prog := some p, edge := 1, next := [n] };
          s.wf = true ∧ firstStart (s.pulseOf 3).next = some n ∧ n.edgeNs 0 ≤ p.edgeNs (s.pulseOf 3).edge))
    ∧ (up.setPulse 3 { PulseSt.init with high := true }).wf = true ∧ ((up.setPulse 3 { PulseSt.init with high := true }).pulseOf 3).high = true ∧ ((up.setPulse 3 { PulseSt.init with high := true }).pulseOf 3).tails = []
    ∧ (let y : PulseTail := ⟨4, nsTq 1000000010, nsTq 1000000000, none⟩; let s := up.setPulse 3 { PulseSt.init with tails := [y] }; s.wf = true ∧ firstFall (s.pulseOf 3).tails = some y ∧ (s.pulseOf 3).high = false) := by decide

/-! #### Links -/

/-- A port in a state, on a unit that is A. -/
def lk (p : Nat) (l : LinkSt) : State := up.setLink p { l with laneUp := up.tm.up }
def idF (port : Port) (secure : Bool) : IdentFrame := ⟨port, 4, secure, 9, true, 0, 77⟩

theorem test_witness_PortsComeUpStateByState :
    (lk 2 { LinkSt.init with mode := .detect }).wf = true ∧ ((lk 2 { LinkSt.init with mode := .detect }).linkOf 2).mode = .detect
    ∧ (lk 0 { LinkSt.init with mode := .clockLock }).eqFixed 0 = false ∧ (cf [(Fld.linkEqMode, 0, 1)] (lk 0 { LinkSt.init with mode := .clockLock })).eqFixed 0 = true
    ∧ ((lk 0 { LinkSt.init with mode := .eqTune }).linkOf 0).mode = .eqTune ∧ ((lk 0 { LinkSt.init with mode := .blockLock }).linkOf 0).mode = .blockLock
    ∧ ((lk 0 { LinkSt.init with mode := .deskew }).linkOf 0).mode = .deskew
    ∧ (let b : Bool × List Bool := (true, List.replicate 64 false); [b].length = 1 ∧ (List.replicate 64 b).length = 64 ∧ ∀ x ∈ List.replicate 64 b, x.2.length = 64)
    ∧ 2 < [30, 45, 45].length
    ∧ deskewed ⟨0x2D, 0⟩ ⟨0xD2, 0xFE⟩ ⟨4096, 8192, 4080, 8176, 0, 0xFE⟩ = true ∧ deskewed ⟨0x2D, 0⟩ ⟨0xD2, 0xFE⟩ ⟨4096, 8192, 4079, 8175, 0, 0xFE⟩ = false ∧ deskewed ⟨0x2D, 0⟩ ⟨0xD2, 0xFE⟩ ⟨4096, 8192, 4080, 8176, 0, 0xFF⟩ = false
    ∧ (let s := lk 0 { LinkSt.init with mode := .detect, sleeps := true }; (s.linkOf 0).mode = .detect)
    ∧ (let s := lk 2 { LinkSt.init with mode := .identify, lastTrain := some .soak };
      (s.linkOf 2).mode = .identify ∧ portsFit .twin (idF .head true).port = false ∧ portsFit .twin (idF .twin true).port = true ∧ (⟨.twin, 4, true, 9, false, 0, 77⟩ : IdentFrame).unitB = s.boot.strapB
        ∧ ¬ (pidx .twin = 2 ∧ (idF .twin true).unitB = s.boot.strapB) ∧ (idF .twin false).secure ≠ s.linkSecured 2 ∧ (idF .twin true).secure = s.linkSecured 2 ∧ (s.linkOf 2).fast = false
        ∧ (s.linkOf 2).lastTrain = some .soak)
    ∧ ((lk 2 { LinkSt.init with mode := .identify, fast := true }).linkOf 2).fast = true
    ∧ (let s := lk 0 { LinkSt.init with mode := .fault, faultCause := 4 }; (s.linkOf 0).mode = .fault ∧ 4 ≤ (s.linkOf 0).faultCause)
    ∧ (let s := lk 0 { LinkSt.init with mode := .fault, faultCause := 3 }; (s.linkOf 0).mode = .fault ∧ (s.linkOf 0).faultCause < 4 ∧ (s.linkOf 0).mode ≠ .disabled ∧ (s.linkOf 0).mode ≠ .test)
    ∧ (let s := lk 0 { LinkSt.init with mode := .sleep }; (s.linkOf 0).mode = .sleep ∧ (s.linkOf 0).chirpUp = none)
    ∧ (let s := lk 0 { LinkSt.init with mode := .sleep, chirpUp := some 980000001 }; (s.linkOf 0).chirpUp = some 980000001 ∧ s.tm.up < 980000001 + 20000000) := by decide +kernel

/-- HEAD is in a rate trial. -/
def trial (l : LinkSt) : State := lk 0 { l with mode := .rateTrial, rate := 1, partner := some (idF .tail true) }

theorem test_witness_RateTrialsGoUpOneRateAtATime :
    (let s := trial { LinkSt.init with trialStep := 2, trial := some 1 }; (s.linkOf 0).trialStep = 2 ∧ s.initiator 0 = false ∧ (s.linkOf 0).back = false ∧ (s.linkOf 0).trial = some 1)
    ∧ (let s := lk 0 { LinkSt.init with mode := .active, rate := 1, partner := some (idF .tail true) }; s.wf = true ∧ s.inService 0 = true ∧ s.initiator 0 = false ∧ 2 = (s.linkOf 0).rate + 1 ∧ 2 ≤ s.rateLimit 0 ∧ (s.linkOf 0).mode ≠ .rateTrial ∧ s.linkLoad 0 ≤ 50)
    ∧ (let s := trial { LinkSt.init with back := true }; (s.linkOf 0).mode = .rateTrial ∧ (s.linkOf 0).back = true)
    ∧ (let s := trial .init; s.wf = true ∧ (s.linkOf 0).mode = .rateTrial ∧ (s.linkOf 0).trialStep = 0 ∧ s.initiator 0 = false ∧ 2 = (s.linkOf 0).rate + 1 ∧ 2 ≤ s.rateLimit 0 ∧ s.rateLimit 0 < 5 ∧ 3 ≠ (s.linkOf 0).rate + 1)
    ∧ (let s := trial { LinkSt.init with trialStep := 1, trial := some 2 }; (s.linkOf 0).trialStep = 1 ∧ (s.linkOf 0).trial = some 2 ∧ (s.linkOf 0).back = false)
    ∧ (let s := trial { LinkSt.init with trialStep := 6 }; (s.linkOf 0).trialStep = 6 ∧ (s.linkOf 0).gotPass = none ∧ (s.linkOf 0).sentPass = none ∧ (s.linkOf 0).back = false ∧ 2 ≤ (s.linkOf 0).trialStep)
    ∧ (let s := trial { LinkSt.init with trialStep := 7, sentPass := some true }; 6 ≤ (s.linkOf 0).trialStep ∧ (s.linkOf 0).sentPass = some true)
    ∧ (let s := lk 0 { LinkSt.init with mode := .active, rate := 3, policy := 1, sent := [(900000000, 200000000)], partner := some (idF .tail true) };
      s.wf = true ∧ s.inService 0 = true ∧ (s.linkOf 0).policy = 1 ∧ 50 < s.linkLoad 0 ∧ (s.linkOf 0).loadUp = none ∧ (s.linkOf 0).rate < s.rateLimit 0)
    ∧ (let s := lk 1 { LinkSt.init with mode := .active, rate := 3, policy := 1, sent := [(900000000, 200000000)], partner := some (idF .head true) };
      s.inService 1 = true ∧ 50 < s.linkLoad 1 ∧ (s.linkOf 1).rate < s.rateLimit 1 ∧ s.initiator 1 = true)
    ∧ (let s := lk 0 { LinkSt.init with loadUp := some 0 }; (s.linkOf 0).loadUp = some 0 ∧ s.tm.up < 0 + 60000000000) := by decide +kernel

theorem test_witness_PortsLeaveServiceForAFastRetrain : (act 1 up).wf = true ∧ (act 1 up).inService (pidx .tail) = true ∧ pidx .tail ≠ 2 ∧ ((act 1 up).linkOf 1).hiBerRun < 7 ∧ 16 ≤ 16
    ∧ (Instr.deskewLost .tail) ∈ [Instr.los .tail, .clockUnlock .tail, .deskewLost .tail]
    ∧ (let bad := fun (hs : List (BitVec 2)) => (hs.filter (fun h => !hdrOk h)).length; 32 ≤ bad (List.replicate 32 0 ++ List.replicate 32 1) ∧ bad (List.replicate 31 3 ++ List.replicate 33 2) < 32) ∧ 15 < 16
    ∧ (lk 1 { LinkSt.init with mode := .active, hiBerRun := 7 }).inService 1 = true ∧ 7 ≤ ((lk 1 { LinkSt.init with mode := .active, hiBerRun := 7 }).linkOf 1).hiBerRun := by decide

def txF (lseq : BitVec 12) (tries : Nat) : TxFrame := ⟨.trigger, .rate 0 0, lseq, false, 0, false, tries, 0, 0, false, none⟩

/-- The blocks of one data lane, of two that take turns. -/
def laneOf (k : Nat) (bs : List Block) : List Block := (List.range bs.length).filterMap (fun i => if i % 2 = k then bs[i]? else none)

/-- The frame that tells the trial's result leaves, or waits. -/
theorem test_witness_RateTrialsGoUpOneRateAtATime_results :
    let f : TxFrame := { txF 0 0 with cls := .training, body := .rate 2 1 }
    (let s := trial { LinkSt.init with trialStep := 7, sentPass := some true, gotPass := some true, current := some f };
      (s.linkOf 0).mode = .rateTrial ∧ (s.linkOf 0).current = some f ∧ f.isResult = true ∧ (s.linkOf 0).queues.any TxFrame.isResult = false ∧ (s.linkOf 0).gotPass = some true)
    ∧ (let s := trial { LinkSt.init with trialStep := 7, sentPass := some true, queues := [f] }; ((s.linkOf 0).queues ++ (s.linkOf 0).current.toList).any TxFrame.isResult = true)
    ∧ (let s := trial { LinkSt.init with trialStep := 7, sentPass := some false }; ((s.linkOf 0).queues ++ (s.linkOf 0).current.toList).any TxFrame.isResult = false) := by decide

/-- A frame of 32 bytes with an LSEQ as it arrives, its scramblers at 0. -/
def rxF (lseq : BitVec 12) : RxFrame :=
  let line := lanesGo true false 0 0 (frameBlocks ⟨lseq, false, false, false, false, 32, 0⟩ (List.replicate 32 7))
  ⟨0, 0, false, laneOf 0 line, laneOf 1 line, 0⟩

def flipped (bs : List Block) : List Block := bs.map (fun b => ⟨~~~ b.hdr, ~~~ b.data⟩)

/-- A frame comes back out of its scrambled blocks, over an inverted lane and swapped lanes too; one block short, it fails as a CRC error; a header inverted, too (R252 to R254). -/
theorem test_frame_reads_back : (readFrame (rxClear false false 0 false (rxF 5))).map (fun x => (x.1.lseq, x.2)) = some (5, List.replicate 32 7)
    ∧ (readFrame (rxClear true false 0 false { rxF 5 with before0 := ~~~ 0, lane0 := flipped (rxF 5).lane0 })).map (fun x => x.1.lseq) = some 5
    ∧ (readFrame (rxClear false false 0 true { rxF 5 with lane0 := (rxF 5).lane1, lane1 := (rxF 5).lane0 })).map (fun x => x.1.lseq) = some 5
    ∧ readFrame (rxClear false false 0 false { rxF 5 with lane1 := (rxF 5).lane1.dropLast }) = none
    ∧ readFrame (rxClear false false 0 false { rxF 5 with lane0 := (rxF 5).lane0.map (fun b => { b with hdr := 3 }) }) = none := by decide +kernel

theorem test_witness_FramesAreAcknowledgedAndReplayed :
    (let h : FrameHead := ⟨5, false, true, true, false, 1024, 9⟩; 32 ≤ h.len ∧ h.len ≤ 1024 ∧ h.len % 8 = 0 ∧ (List.replicate 1040 (7 : Byte)).length = h.len + (if h.enc then 16 else 0))
    ∧ (let s := lk 0 { LinkSt.init with mode := .active, replay := [txF 4094 7, txF 4095 8], current := some (txF 0 0) };
      s.wf = true ∧ s.inService (pidx .head) = true ∧ pidx .head ≠ 2 ∧ (s.linkOf 0).authRun < 3 ∧ (s.linkOf 0).newKeys = none ∧ (s.linkOf 0).replay.any (fun f => f.lseq == 4095) = true
        ∧ (s.linkOf 0).replay.any (fun f => f.lseq == 1) = false ∧ txF 4095 8 ∈ (s.linkOf 0).replay ∧ lseqFrom 4095 (txF 4095 8).lseq = true ∧ 8 ≤ (txF 4095 8).tries
        ∧ (s.linkOf 0).current = some (txF 0 0) ∧ (s.linkOf 0).inject = [] ∧ (s.linkOf 0).kept = none)
    ∧ (let s := lk 0 { LinkSt.init with mode := .active, replay := [txF 4094 7] };
      (s.linkOf 0).replay = txF 4094 7 :: [] ∧ (∀ f ∈ (s.linkOf 0).replay, f.tries < 8) ∧ ∀ f ∈ (s.linkOf 0).replay, lseqFrom 4094 f.lseq = true → f.tries < 8)
    ∧ (let s := lk 0 { LinkSt.init with mode := .active, authRun := 3, queues := [txF 0 0] };
      3 ≤ (s.linkOf 0).authRun ∧ (s.linkOf 0).fastIn = false ∧ (s.linkOf 0).current = none ∧ (s.linkOf 0).resend = [] ∧ (s.linkOf 0).hasRoom (txF 0 0) = true ∧ (s.linkOf 0).queues = txF 0 0 :: []
        ∧ (txF 0 0).cls = .trigger)
    ∧ (let s := lk 0 { LinkSt.init with mode := .active, authRun := 3, fastIn := true, authTimes := [500000000, 100000000] };
      (s.linkOf 0).fastIn = true ∧ (s.linkOf 0).authTimes = [500000000, 100000000] ∧ s.tm.up ≤ 500000000 + 10000000000 ∧ s.tm.up ≤ 100000000 + 10000000000)
    ∧ (let s := lk 0 { LinkSt.init with mode := .active, lastAcked := 4095, txNext := 1 };
      (s.linkOf 0).newKeys = none ∧ lseqFrom (s.linkOf 0).lastAcked 0 = true ∧ lseqFrom (0 + 1) (s.linkOf 0).txNext = true ∧ lseqFrom (s.linkOf 0).lastAcked 4094 = false ∧ lseqFrom (1 + 1) (s.linkOf 0).txNext = false)
    ∧ (let k : LinkKeys := ⟨[], [], [], [], 0, 0, false⟩; let l := { LinkSt.init with rxNext := 5 }; let m := { l with keys := some k };
      l.verdict { rxF 5 with lane0 := [], lane1 := [] } = some .crc ∧ l.verdict (rxF 6) = some .ahead ∧ l.verdict (rxF 2053) = some .ahead ∧ l.verdict (rxF 4) = some .duplicate ∧ l.verdict (rxF 2054) = some .duplicate
        ∧ l.verdict (rxF 5) = none ∧ m.verdict (rxF 5) = some .tag ∧ m.keys.isSome = true ∧ l.keys = none) := by decide +kernel

/-- The signatures themselves are open (Config.ecdsaVerify). -/
theorem test_witness_KeyExchangeGivesKeysOrFault :
    (let s := lk 0 { LinkSt.init with mode := .secure, ephemeral := some [1], partner := some (idF .tail true) };
      s.wf = true ∧ (s.linkOf 0).mode = .secure ∧ s.linkSecured 0 = true ∧ s.initiator 0 = false ∧ (s.linkOf 0).ephemeral = some [1] ∧ (s.linkOf 0).partner = some (idF .tail true))
    ∧ (let s := lk 1 { LinkSt.init with mode := .secure, ephemeral := some [1], partner := some (idF .head true) };
      s.wf = true ∧ s.linkSecured 1 = true ∧ s.initiator 1 = true ∧ (s.linkOf 1).ephemeral = some [1] ∧ (s.linkOf 1).partner = some (idF .head true))
    ∧ (let s := lk 1 { LinkSt.init with mode := .active, keys := some ⟨[], [], [], [], 0, 0, false⟩ }; s.inService 1 = true ∧ (s.linkOf 1).keys = some ⟨[], [], [], [], 0, 0, false⟩ ∧ s.initiator 1 = true ∧ 0 < 2 ^ 40)
    ∧ (let f := { txF 0 0 with cls := .key, body := .keyFrame 3 [] }; let s := lk 1 { LinkSt.init with mode := .secure, current := some f, keys := some ⟨[], [], [], [], 0, 0, false⟩, partner := some (idF .head true) };
      s.wf = true ∧ (s.linkOf 1).mode = .secure ∧ (s.linkOf 1).current = some f ∧ f.body.typ = 0x13 ∧ (s.linkOf 1).keys.isSome = true ∧ (s.linkOf 1).partner = some (idF .head true))
    ∧ ({ up with sv := { SvSt.init with owned := true, ownerKey := [4] } } : State).sv.owned = true ∧ ({ up with sv := { SvSt.init with owned := true, ownerKey := [4] } } : State).sv.ownerKey = [4] := by decide

/-! #### The twin pair -/

def hf (role : BitVec 4) : HealthFrame := ⟨role, 0, 0, false, false, false, false, 0x22000000, 9, 0, 0, 0, 0⟩

theorem test_witness_RolesAreResolvedAndTaken :
    (let s := pairOf .unresolved up; s.wf = true ∧ s.twin.role = .unresolved ∧ s.boot.stage = 10 ∧ s.twinned = true ∧ s.twin.partner = none ∧ s.boot.strapB = false)
    ∧ (let s : State := pairOf .unresolved { up with twin := { up.twin with partner := some (hf 2) }, boot := { up.boot with strapB := true } }; s.twin.partner = some (hf 2) ∧ s.boot.strapB = true ∧ s.twin.role = .unresolved)
    ∧ (let s := pairOf .active up; s.twin.role = .active ∧ s.log.fatal = false ∧ s.injOf 11 2 0 = none ∧ s.boot.strapB = false ∧ s.isStandby = false)
    ∧ (let s : State := cf [(Fld.twinAliveInGpio, 0, 14)] { pairOf .unresolved up with pads := { up.pads with func := [(14, 11)] } };
      s.pinCarries (s.cfgv Fld.twinAliveInGpio 0 0) 11 = true ∧ s.twin.role = .unresolved)
    ∧ (let s : State := cf [(Fld.twinAliveInGpio, 0, 14)] { pairOf .unresolved { up with twin := { up.twin with aliveAt := some 999990000 } } with pads := { up.pads with func := [(14, 11)] } };
      s.pinCarries (s.cfgv Fld.twinAliveInGpio 0 0) 11 = true ∧ s.twin.role = .unresolved ∧ s.boot.stage = 10 ∧ s.twinned = true ∧ s.twin.aliveAt = some 999990000 ∧ s.tm.up ≤ 999990000 + 10000)
    ∧ (let s : State := pairOf .standby { up with twin := { up.twin with partner := some (hf 2), aliveAt := some 5 } }; s.isStandby = true ∧ s.partnerRole .active = true ∧ s.twin.aliveAt = some 5)
    ∧ (let s : State := pairOf .active { up with twin := { up.twin with partner := some (hf 2) }, boot := { up.boot with strapB := true } };
      s.twin.role = .active ∧ s.boot.strapB = true ∧ s.partnerRole .active = true ∧ s.injOf 11 3 0 = none)
    ∧ (let s : State := pairOf .active { up with twin := { up.twin with partner := some (hf 2), dualUp := some 999500000 }, boot := { up.boot with strapB := true } };
      s.twin.role = .active ∧ s.boot.strapB = true ∧ s.twin.dualUp = some 999500000)
    ∧ (let s : State := cf [(Fld.twinAliveInGpio, 0, 14)] { pairOf .standby up with pads := { up.pads with func := [(14, 11)] } };
      s.pinCarries (s.cfgv Fld.twinAliveInGpio 0 0) 11 = true ∧ s.twin.role ≠ .unresolved)
    ∧ (pairOf .standbyUnfit up).twin.role = .standbyUnfit := by decide

/-- The pair's link is in service. -/
def pairLinked (r : Role) (s : State) : State := act 2 (pairOf r s)

theorem test_witness_TakeoverAndSwapChangeTheRole :
    (let s : State := pairLinked .active { up with twin := { up.twin with swapAsked := true } }; s.wf = true ∧ s.twin.role = .active ∧ s.inService 2 = true ∧ s.swapDue = true)
    ∧ (let s : State := pairLinked .standby { up with twin := { up.twin with swapAsked := true } }; s.twin.role = .standby ∧ s.inService 2 = true ∧ s.twin.swapAsked = true ∧ s.swapDue = true ∧ up.swapDue = false)
    ∧ (let s : State := (pairLinked .active { up with twin := { up.twin with swapAsked := true, swapFrame := some 8 } }).setGrp 0 gRun;
      s.twin.swapAsked = true ∧ s.twin.swapFrame = some 8 ∧ (s.grpOf s.swapGroup).frame = none ∧ (s.grpOf s.swapGroup).mode ≠ .stopped ∧ (s.grpOf s.swapGroup).strobed = true ∧ (s.grpOf s.swapGroup).doneK = 7 ∧ s.swapDue = false) := by decide +kernel

def dg (frame : Nat) : DigestFrame := ⟨.a, frame, 0, List.replicate 64 0⟩

theorem test_witness_DigestsAndHealthAreCompared :
    (let a : W32 := 0x10000005; let b : W32 := 0x10000001; digestCore 3 a b = some true ∧ digestCore 4 a b = some false ∧ digestCore 4 a 0x50000005 = some true ∧ digestCore 4 a 1 = none ∧ (1 : W32).getLsbD 28 = false)
    ∧ up.wf = true ∧ 0 < up.cfgv Fld.twinDigestPersist 0 0 ∧ Cells.get (fun _ => (0, 0)) up.twin.runs 63 = (0, 0)
    ∧ (let s : State := cf [(Fld.twinDigestPersist, 0, 1)] up; s.cfgv Fld.twinDigestPersist 0 0 ≤ 0 + 1)
    ∧ (let s : State := pairLinked .active { up with twin := { up.twin with own := [(dg 8, 999000000)], missingRun := 62 } };
      s.wf = true ∧ s.inService 2 = true ∧ s.twin.role = .active ∧ s.twin.own.find? (fun a => (s.rxAccept 2).digestMatch (dg 8) a.1) = some (dg 8, 999000000)
        ∧ s.twin.own.find? (fun a => (s.rxAccept 2).digestMatch (dg 9) a.1) = none ∧ s.twin.theirs.length < 64 ∧ s.twin.own.find? (fun x => decide (x.1.group = .a ∧ x.1.frame = 8)) = some (dg 8, 999000000) ∧ s.twin.missingRun < 63
        ∧ Look.scheduled s.cfgv (gidx .a) = true)
    ∧ (act 2 up).inService 2 = true ∧ (act 2 up).twinned = false
    ∧ (let s := pairLinked .unresolved up; s.inService 2 = true ∧ s.twinned = true ∧ s.twin.role = .unresolved ∧ s.boot.stage = 10 ∧ (hf 2).role = 2 ∧ (hf 2).relinquish = false ∧ (hf 2).excStuckSelf = false) := by decide

theorem test_witness_TwinCommandsAreServed :
    (let s := pairLinked .active up; s.wf = true ∧ s.inService 2 = true ∧ s.isStandby = false ∧ ∀ x, x < 64 → (s.strmOf x).awaitCut = none)
    ∧ (let s := pairLinked .solo up; s.inService 2 = true ∧ s.isStandby = false ∧ s.twin.role ≠ .active)
    ∧ (let s : State := pairLinked .standby up; s.inService 2 = true ∧ s.isStandby = true ∧ s.following = true)
    ∧ ({ up with twin := { up.twin with awaiting := [⟨0, ⟨0, 0, 0, 0, 0, 0, 0⟩, 999000000⟩] } } : State).twin.awaiting = ⟨0, ⟨0, 0, 0, 0, 0, 0, 0⟩, 999000000⟩ :: []
    ∧ (∀ c ∈ [1, 2, 3, 4, 5, 6], let d := dsc 0x71 1024 [BitVec.ofNat 32 c];
      (inFl d up).twinned = false ∧ (inFl d up).descOf 0 = some d ∧ d.op = 0x71 ∧ d.bad = 0 ∧ (inFl d up).turnOf d = true ∧ field (d.p 0) 15 0 = c
        ∧ (inFl d (pairOf .standby up)).twinned = true ∧ (inFl d (pairOf .standby up)).descOf 0 = some d ∧ (inFl d (pairOf .standby up)).turnOf d = true
        ∧ (inFl d (pairOf .active up)).twinned = true ∧ (inFl d (pairOf .active up)).descOf 0 = some d ∧ (inFl d (pairOf .active up)).turnOf d = true)
    ∧ (pairOf .standby up).inService 2 = false ∧ (pairLinked .standby up).inService 2 = true ∧ (pairLinked .standby up).twin.role = .standby
    ∧ ¬ ((pairLinked .active up).twin.role = .standby ∨ ((pairLinked .active up).twin.role = .active ∧ (pairLinked .active up).partnerRole .standby = true))
    ∧ ({ pairOf .active up with twin := { (pairOf .active up).twin with resumeWait := true } } : State).twin.resumeWait = true ∧ (inFl (dsc 0x71 1024 [5]) up).descReadOk (dsc 0x71 1024 [5]) 1024 = true := by decide

theorem test_witness_ResumeSendsNoFrameTwice :
    (let s := strmUp 63 { StreamSt.init with queue := [pk 1 [⟨0, 5, 0, []⟩], pk 2 [⟨1, 10, 0, []⟩, ⟨2, 15, 0, []⟩]], openPkt := some (pk 0 [⟨3, 20, 0, []⟩]) };
      let r := (s.resumeStream (63 : Fin 64) 1 10).strmOf 63;
      s.wf = true ∧ r.queue.map (fun p => (p.seq, p.frames.map (fun f => f.t))) = [(2, [15])] ∧ r.openPkt.isSome = true ∧ r.seqNext = 3) := by decide +kernel

/-! #### Configuration -/

/-- A transaction of number 1 is open. -/
def txnOf (profile : Option Nat) : TxnSt := ⟨1, [], [], profile, false, false, false, false, 999000000⟩
def txnUp (d : Desc) (mem : List Host.Cell) : State := let s := inFl d up; { s with cfg := { s.cfg with txn := some (txnOf none) }, host := { s.host with mem := mem } }
/-- A record of one field of one word, STRB[0].PERIOD or what the code is, at the buffer. -/
def recMem (v : Byte) : List Host.Cell := [(0x1000, 1), (0x1002, 0xC1), (0x1003, 0x19), (0x1008, v)]

theorem test_witness_TransactionsOpenWriteAndClose :
    (let d := dsc 0x10 0 []; (inFl d up).serves 0 0x10 d ∧ (inFl d up).isStandby = false ∧ (inFl d up).twin.role ≠ .seized ∧ (inFl d up).cfg.txn = none ∧ (inFl d up).cfg.bad = false
      ∧ (txnUp d []).serves 0 0x10 d ∧ (txnUp d []).cfg.txn = some (txnOf none) ∧ (inFl d (pairOf .standby up)).serves 0 0x10 d ∧ (inFl d (pairOf .standby up)).isStandby = true)
    ∧ (let d := dsc 0x11 12 [1]; (txnUp d (recMem 1)).serves 0 0x11 d ∧ (txnOf none).id = d.p 0 ∧ d.len % 4 = 0 ∧ (txnUp d (recMem 1)).descReadOk d d.len = true
      ∧ readRecords false 3 0 (wordsOf ((txnUp d (recMem 1)).descRead d d.len)) = .inl [(keyOf 0x19C1 0 0, 1)] ∧ readRecords false 3 0 (wordsOf ((txnUp d (recMem 2)).descRead d d.len)) = .inr (0x0120, 0))
    ∧ (let d := dsc 0x11 12 [2]; (txnUp d []).serves 0 0x11 d ∧ (txnOf none).id ≠ d.p 0)
    ∧ (let d := dsc 0x13 0 [1]; (txnUp d []).serves 0 0x13 d ∧ (txnOf none).id = d.p 0 ∧ (inFl d up).serves 0 0x13 d ∧ (inFl d up).cfg.txn = none)
    ∧ (let d := dsc 0x12 0 [2]; (txnUp d []).serves 0 0x12 d ∧ (txnUp d []).anyHeld = false ∧ ∀ t, (txnUp d []).cfg.txn = some t → t.id ≠ d.p 0)
    ∧ (let d := dsc 0x13 0 [2]; (txnUp d []).serves 0 0x13 d ∧ (txnUp d []).isStandby = false ∧ (txnOf none).id ≠ d.p 0) ∧ (let d := dsc 0x11 0 [1]; (inFl d up).serves 0 0x11 d ∧ (inFl d up).cfg.txn = none ∧ 0x11 ≤ d.op ∧ d.op ≤ 0x13)
    ∧ (let d := dsc 0x11 12 [1]; (txnUp d []).txnNamed (txnOf none) = true) ∧ (txnUp (dsc 0x00 0 []) []).txnNamed (txnOf none) = false := by
  unfold State.serves
  and_intros <;> decide +kernel

/-! The default configuration breaks no rule of a commit (R315, R22), rule by rule. -/

theorem test_default_core_rules : Look.coreRules (Bank.get false []) = [] := by decide +kernel
theorem test_default_event_rules : Look.eventRules (Bank.get false []) = [] := by decide +kernel
theorem test_default_pin_rules : Look.pinRules (Bank.get false []) false = [] := by decide +kernel
theorem test_default_twin_rules : Look.twinRules (Bank.get false []) = [] := by decide +kernel
theorem test_default_seize_rules : seizeRules (Bank.get false []) (Bank.get false []) = [] := by decide +kernel
theorem test_default_pulse_rules : Look.pulseRules (Bank.get false []) = [] := by decide +kernel
theorem test_default_bind_rules : Look.bindRules (Bank.get false []) = [] := by decide +kernel
theorem test_default_pump_rules : Look.pumpRules (Bank.get false []) = [] := by decide +kernel
theorem test_default_chain_rules : Look.chainRules (Bank.get false []) = [] := by decide +kernel
theorem test_default_mains_rules : Look.mainsRules (Bank.get false []) = [] := by decide +kernel
theorem test_default_stream_rules : Look.streamRules (Bank.get false []) = [] := by decide +kernel
theorem test_default_mantis_rules : Look.mantisRules (Bank.get false []) = [] := by decide +kernel
theorem test_default_firefly_rules : Look.fireflyRules (Bank.get false []) = [] := by decide +kernel

/-- A configuration whose rules hold one by one breaks none. -/
theorem broken_nil (s : State) (c : Look) (hf : s.otp.vaultFuse = false) (hw : s.sv.withheld = false) (h1 : c.coreRules = []) (h2 : c.eventRules = []) (h3 : c.pinRules false = []) (h4 : c.twinRules = [])
    (h5 : seizeRules s.cfgv c = []) (h6 : c.pulseRules = []) (h7 : c.bindRules = []) (h8 : c.pumpRules = []) (h9 : c.chainRules = []) (h10 : c.mainsRules = []) (h11 : c.streamRules = [])
    (h12 : c.mantisRules = []) (h13 : c.fireflyRules = []) : s.firstBroken c = none := by
  simp [State.firstBroken, State.broken, hf, hw, h1, h2, h3, h4, h5, h6, h7, h8, h9, h10, h11, h12, h13]

/-- A commit that breaks no rule and changes nothing is valid. -/
theorem validate_same (s : State) (hf : s.otp.vaultFuse = false) (hb : s.firstBroken (Bank.get false s.cfg.live) = none) (ho : s.outOfWindow (Bank.get false s.cfg.live) = false)
    (hk : changedKeys false s.cfg.live s.cfg.live = []) : (s.validate s.cfg.live false false 0).1 = 0 := by
  have hn : ∀ g, s.needsStop (Bank.get false s.cfg.live) [] g = false := fun g => by simp [State.needsStop]
  simp [State.validate, hf, hb, ho, hk, hn]

/-- A commit of a transaction that wrote nothing. -/
def comD : Desc := dsc 0x12 0 [1]

theorem test_default_configuration_is_valid : ((txnUp comD []).validate (txnUp comD []).cfg.live false false 0).1 = 0 :=
  validate_same _ rfl (broken_nil _ _ rfl rfl test_default_core_rules test_default_event_rules test_default_pin_rules test_default_twin_rules test_default_seize_rules test_default_pulse_rules test_default_bind_rules
    test_default_pump_rules test_default_chain_rules test_default_mains_rules test_default_stream_rules test_default_mantis_rules test_default_firefly_rules) (by decide) (by decide)

theorem test_witness_CommitsAreValidatedAndArmed :
    (let s := txnUp comD []; let t := txnOf none;
      s.serves 0 0x12 comD ∧ s.isStandby = false ∧ s.twin.role ≠ .seized ∧ s.anyHeld = false ∧ s.cfg.txn = some t ∧ t.id = comD.p 0 ∧ s.otp.vaultFuse = false ∧ s.partnerFollows = false)
    ∧ ((txnUp comD []).validate ((txnOf none).bank (txnUp comD []).otp.vaultFuse) (txnOf none).authorised ((comD.p 1).getLsbD 0) (comD.p 2).toNat).1 = 0 :=
  ⟨by unfold State.serves; decide, test_default_configuration_is_valid⟩

/-! The same for a transaction on a part with a vault that changes an owned field (VAULT.PERIOD_NS) with authority. -/

def vBank : Bank := [(keyOf Fld.vaultPeriodNs 0 0, 100000)]
def vS : State := { inFl comD up with otp := { up.otp with vaultFuse := true }, cfg := { CfgSt.init with txn := some { txnOf none with shadow := vBank, authorised := true } } }

theorem test_owned_core_rules : Look.coreRules (Bank.get true vBank) = [] := by decide +kernel
theorem test_owned_event_rules : Look.eventRules (Bank.get true vBank) = [] := by decide +kernel
theorem test_owned_pin_rules : Look.pinRules (Bank.get true vBank) true = [] := by decide +kernel
theorem test_owned_twin_rules : Look.twinRules (Bank.get true vBank) = [] := by decide +kernel
theorem test_owned_seize_rules : seizeRules (Bank.get true []) (Bank.get true vBank) = [] := by decide +kernel
theorem test_owned_pulse_rules : Look.pulseRules (Bank.get true vBank) = [] := by decide +kernel
theorem test_owned_bind_rules : Look.bindRules (Bank.get true vBank) = [] := by decide +kernel
theorem test_owned_pump_rules : Look.pumpRules (Bank.get true vBank) = [] := by decide +kernel
theorem test_owned_chain_rules : Look.chainRules (Bank.get true vBank) = [] := by decide +kernel
theorem test_owned_mains_rules : Look.mainsRules (Bank.get true vBank) = [] := by decide +kernel
theorem test_owned_stream_rules : Look.streamRules (Bank.get true vBank) = [] := by decide +kernel
theorem test_owned_mantis_rules : Look.mantisRules (Bank.get true vBank) = [] := by decide +kernel
theorem test_owned_firefly_rules : Look.fireflyRules (Bank.get true vBank) = [] := by decide +kernel
theorem test_owned_vault_rules : Look.vaultRules (Bank.get true vBank) = [] := by decide +kernel

theorem test_owned_commit_is_valid : (vS.validate vBank true false 0).1 = 0 := by
  have hb : vS.firstBroken (Bank.get true vBank) = none := by
    have hs : vS.cfgv = Bank.get true [] := rfl
    have hf : vS.otp.vaultFuse = true := rfl
    have hw : vS.sv.withheld = false := rfl
    simp [State.firstBroken, State.broken, hs, hf, hw, test_owned_core_rules, test_owned_event_rules, test_owned_pin_rules, test_owned_twin_rules, test_owned_seize_rules, test_owned_pulse_rules, test_owned_bind_rules,
      test_owned_pump_rules, test_owned_chain_rules, test_owned_mains_rules, test_owned_stream_rules, test_owned_mantis_rules, test_owned_firefly_rules, test_owned_vault_rules]
  have hf : vS.otp.vaultFuse = true := rfl
  have ho : vS.outOfWindow (Bank.get true vBank) = false := by decide +kernel
  have hn : [0, 1].filter (vS.needsStop (Bank.get true vBank) (changedKeys true vS.cfg.live vBank)) = [] := by decide +kernel
  simp only [State.validate, hf, hb, ho, hn]
  rfl

theorem test_witness_CommitsAreValidatedAndArmed_owned :
    (vS.serves 0 0x12 comD ∧ vS.isStandby = false ∧ vS.twin.role ≠ .seized ∧ vS.anyHeld = false ∧ vS.cfg.txn = some { txnOf none with shadow := vBank, authorised := true } ∧ (txnOf none).id = comD.p 0
      ∧ vS.vault.mode ≠ .fault ∧ (vS.otp.vaultFuse && (changedKeys true vS.cfg.live vBank).any (fun k => vaultOwned (keyCode k) (keyIndex k))) = true)
    ∧ (let s : State := pairLinked .active { txnUp comD [] with twin := { up.twin with partner := some (hf 3) } }; s.serves 0 0x12 comD ∧ s.partnerFollows = true ∧ s.anyHeld = false) := by
  unfold State.serves; decide +kernel

/-- A configuration that breaks a rule of cores or events is not valid. -/
theorem validate_broken (s : State) (bank : Bank) (a g : Bool) (l : Nat) (h : (Look.eventRules (Bank.get s.otp.vaultFuse bank)) ≠ []) : (s.validate bank a g l).1 ≠ 0 := by
  have hb : ∃ k, s.firstBroken (Bank.get s.otp.vaultFuse bank) = some k := by
    unfold State.firstBroken
    split
    · rename_i he; simp [State.broken] at he; exact absurd he.2.1 h
    · exact ⟨_, rfl⟩
  obtain ⟨k, hk⟩ := hb
  simp [State.validate, hk]

/-- An armed commit that waits for group 0. -/
def flipOf (staged : Cells Nat) : FlipSt := ⟨some 0, staged, [], none, false, false, false, true, true, false, true, false, false, false, true, some 0, none, 0, none, none, false, false, false, 999000000, false⟩

/-- A transaction that lets group 1 take events from a pin that carries none. -/
def evT : TxnSt := { txnOf none with shadow := [(keyOf Fld.strbEventSrc 1 0, 1)] }
def evTxn : State := { inFl comD up with cfg := { CfgSt.init with txn := some evT } }

theorem test_witness_CommitsAreValidatedAndArmed_refused :
    ((evTxn.serves 0 0x12 comD ∧ evTxn.cfg.txn = some evT ∧ evT.id = comD.p 0)
      ∧ (evTxn.validate (evT.bank evTxn.otp.vaultFuse) evT.authorised ((comD.p 1).getLsbD 0) (comD.p 2).toNat).1 ≠ 0)
    ∧ (let d := dsc 0x12 0 [1]; (inFl d up).serves 0 0x12 d ∧ (inFl d up).cfg.txn = none)
    ∧ (up.setGrp 1 { gRun with mode := .held }).anyHeld = true ∧ (up.setGrp 1 { gRun with mode := .held }).isStandby = false
    ∧ (flipOf []).armed = true ∧ (flipOf []).atFrame = none ∧ { flipOf [] with armed := false }.armed = false ∧ up.memError 4 ≠ 2 ∧ up.cfg.flip = none
    ∧ (let s : State := up.setGrp 0 gRun; let t := s.setGrp 1 gRun; let f := flipOf []; let g : FlipSt := { f with waitB := true };
      (s.leadReached f = true ∧ (f.waitA && !s.flipsNow f 0) = false ∧ (f.waitB && !s.flipsNow f 1) = false ∧ (f.shared && !s.leadReached f) = false) ∧ t.leadReached g = true ∧ (g.waitB && !t.flipsNow g 1) = true)
    ∧ (let s : State := { up.setGrp 0 gRun with cfg := { CfgSt.init with flip := some (flipOf []) } }; s.cfg.flip = some (flipOf []) ∧ s.leadReached (flipOf []) = true)
    ∧ (let f : FlipSt := { flipOf [] with atA := false }; (up.setGrp 0 gRun).leadReached f = false ∧ (up.setGrp 0 gRun).flipsNow f 0 = false ∧ (up.setGrp 0 gRun).flipsNow f 1 = false) := by
  refine ⟨⟨by unfold State.serves; decide, validate_broken _ _ _ _ _ (by decide)⟩, ?_⟩
  unfold State.serves; decide

theorem test_witness_HeldBadAndStoredConfigurations :
    (up.setGrp 1 { gRun with mode := .held }).wf = true ∧ ((up.setGrp 1 { gRun with mode := .held }).grpOf (gidx .b)).mode = .held
    ∧ (let c : StoredCfg := ⟨1, 4, 1, [], [], true⟩;
      ({ up with cfg := { CfgSt.init with storePending := some c } } : State).cfg.storePending = some c ∧ ({ up with cfg := { CfgSt.init with storePending := some c } } : State).engineUp = true)
    ∧ (let f : FlashSt := { FlashSt.init with presentA := true, presentB := true, stored := [⟨1, 4294967294, 1, [], [], true⟩] };
      f.presentA = true ∧ f.presentB = true ∧ ∀ x ∈ f.copies, x.seq.toNat < 4294967295)
    ∧ (4294967293 : W32).toNat < (4294967294 : W32).toNat ∧ (4294967294 : W32).toNat < 4294967295 := by decide

/-- A CRC that is not the bank's. -/
theorem test_witness_CommitsReachTheStandby_crc (b : Cells Nat) : bankCrc false b + 1 ≠ bankCrc false b := by bv_omega

theorem test_witness_CommitsReachTheStandby :
    (pairLinked .standby up).wf = true ∧ (pairLinked .standby up).inService 2 = true ∧ (pairLinked .standby up).isStandby = true ∧ (pairLinked .active up).isStandby = false
    ∧ (let s : State := { pairLinked .active up with cfg := { CfgSt.init with waitReady := some (flipOf []) } }; s.twin.role = .active ∧ s.inService 2 = true ∧ s.cfg.waitReady = some (flipOf []) ∧ s.cfg.armAt = none ∧ (flipOf []).id = some 0
        ∧ s.leadGroup = none
        ∧ (s.setGrp 0 gRun).leadGroup = some 0 ∧ Look.scheduled (s.setGrp 0 gRun).cfgv 0 = true
        ∧ (cf [(Fld.strbSource, 0, 1)] (s.setGrp 0 gRun)).leadGroup = some 0 ∧ Look.scheduled (cf [(Fld.strbSource, 0, 1)] (s.setGrp 0 gRun)).cfgv 0 = false)
    ∧ (let s : State := { (pairLinked .standby up).setGrp 0 gRun with cfg := { CfgSt.init with waitReady := some (flipOf []) } };
      s.wf = true ∧ s.inService 2 = true ∧ s.isStandby = true ∧ s.cfg.waitReady = some (flipOf []) ∧ s.leadGroup = some 0 ∧ (s.grpOf 0).strobed = true ∧ (s.grpOf 0).doneK < 8 ∧ 7 ≤ (s.grpOf 0).doneK) := by decide +kernel

/-! #### Host interface -/

/-- Rings of 16 entries: submission ring r served by completion ring 0, whose n-th completion is due. -/
def ringUp (r n : Nat) : State := (((up.setReg (Reg.sq r 8) 0x41).setReg (Reg.cq 0 8) 0x41).setSq r ⟨true, false, false, 0, 1⟩).setCq 0 ⟨true, n, 0, 0, 0⟩

theorem test_witness_CompletionsArePostedOnce : (ringUp 3 70).wf = true ∧ (⟨0, 3, 0, 0, false, 0, [], 0⟩ : Completion).counts = false
    ∧ 70 % ringSize ((ringUp 3 70).reg (Reg.cq 0 8)) = 6 ∧ decide (70 / ringSize ((ringUp 3 70).reg (Reg.cq 0 8)) % 2 = 0) = true := by decide

theorem test_witness_RingsAreFetchedAndServed :
    up.wf = true ∧ up.host.fetching = false ∧ [(⟨0, 2⟩ : NudgeWrite), ⟨4, 4⟩].filter isNudge = [] ∧ ([(⟨0, 4⟩ : NudgeWrite), ⟨0, 4⟩, ⟨8, 4⟩].filter isNudge).length = 2 ∧ 2 ≠ 0 ∧ ({ up with pads := { up.pads with pcieUp := false } } : State).canDma = false ∧ up.reg 0x4008 = 0 ∧ (up.setReg 0x4008 100).reg 0x4008 ≠ 0
    ∧ (let s : State := { ringUp 63 0 with host := { (ringUp 63 0).host with fetching := true } };
      s.host.fetching = true ∧ s.canDma = true ∧ s.host.again = false ∧ s.readOk (s.reg64 0x4000 / 4096 * 4096) 512 = true ∧ (s.sqOf 63).enabled = true ∧ (s.sqOf 0).enabled = false)
    ∧ (let s : State := { ringUp 63 0 with host := { (ringUp 63 0).host with bad := [(0x40, 1)], turn := 62 * 16 + 8 } };
      s.canDma = true ∧ s.inFlight < 131072 ∧ s.fetchRing = some 63 ∧ s.injOf 8 1 63 = none ∧ s.log.fatal = false ∧ (∀ x ∈ s.host.inflight, x.bad = 0)
        ∧ s.readOk (s.reg64 (Reg.sq 63 0) / 4096 * 4096 + 64 * ((s.sqOf 63).fetched % ringSize (s.reg (Reg.sq 63 8)))) 64 = true
        ∧ s.firstCheck ⟨s.host.nextId, 63, field (s.reg (Reg.sq 63 8)) 15 10, wordsOf (s.hostRead (s.reg64 (Reg.sq 63 0) / 4096 * 4096 + 64 * ((s.sqOf 63).fetched % ringSize (s.reg (Reg.sq 63 8)))) 64), [], s.tm.up, false, 0, s.now⟩ = 0 ∧ s.pwr.mode ≠ .hibEntry)
    ∧ (let s : State := { ringUp 63 0 with host := { (ringUp 63 0).host with bad := [(0x3F, 1)] } };
      s.readOk (s.reg64 (Reg.sq 63 0) / 4096 * 4096 + 64 * ((s.sqOf 63).fetched % ringSize (s.reg (Reg.sq 63 8)))) 64 = false)
    ∧ (let s := (up.setReg (Reg.cq 63 8) 0x400041).setCq 63 ⟨true, 1, 0, 1, 0⟩; (s.cqOf 63).pending ≠ 0 ∧ field (s.reg (Reg.cq 63 8)) 31 22 ≠ 0)
    ∧ sizeOk 0x40 = true ∧ sizeOk 0xC0 = true ∧ sizeOk 0x30 = false ∧ sizeOk 0xD0 = false ∧ ((ringUp 63 0).cqOf (field 0x40 15 10)).enabled = true ∧ (up.cqOf (field 0xFC40 15 10)).enabled = false
    ∧ ((ringUp 63 0).sqOf 5).enabled = false ∧ (up.cqOf 63).enabled = false
    ∧ (let s := up.setCq 63 ⟨true, 0, 0, 0, 0⟩; (s.cqOf 63).enabled = true ∧ ∀ r, r < 64 → (s.sqOf r).enabled = true → field (s.reg (Reg.sq r 8)) 15 10 ≠ 63)
    ∧ field ((ringUp 63 0).reg (Reg.sq 63 8)) 15 10 = 0 ∧ ((ringUp 63 0).cqOf 0).enabled = true := by decide +kernel

theorem test_witness_RingsAreFetchedAndServed_link :
    (let d := dsc 0 0 []; (inFl d up).serves 0 0 d) ∧ (let d := dsc 1 0 []; (inFl d up).serves 0 1 d) ∧ 4 ≤ up.boot.stage ∧ up.pads.perst = false ∧ up.pwr.committed = false ∧ up.pads.pcieUp = true ∧ 5 ≤ up.boot.stage ∧ ({ up with boot := { up.boot with stage := 3 } } : State).boot.stage < 4:= by unfold State.serves; decide +kernel

theorem test_witness_RingsAreFetchedAndServed_turns :
    (let d := dsc 0x13 0 [1]; let s := inFl d (pairOf .unresolved up); s.descOf 0 = some d ∧ engineOp d.op = true ∧ d.taken = false ∧ d.bad = 0 ∧ s.heldNow d = true ∧ (inFl d up).heldNow d = false ∧ (inFl d up).descOf 0 = some d)
    ∧ (let d := dsc 0x12 0 [1]; let s := (inFl d up).setGrp 0 { gRun with mode := .held }; s.descOf 0 = some d ∧ engineOp d.op = true ∧ s.heldNow d = true)
    ∧ up.engineAway = false ∧ up.twin.role ≠ .unresolved ∧ up.anyHeld = false
    ∧ (let d : Desc := { dsc 0x20 0 [5] with id := 1 }; let x : Desc := { dsc 0x20 0 [5] with taken := true }; let s : State := { up with host := { up.host with inflight := [x, d], nextId := 2 } };
      s.turnOf d = true ∧ x ∈ s.host.inflight ∧ x.id < d.id ∧ d.orderKey = some 5 ∧ x.orderKey = some 5)
    ∧ (let d : Desc := { dsc 1 0 [] with id := 1, ring := 3 }; let s : State := { up with host := { up.host with inflight := [dsc 0 0 [], d], nextId := 2 } }; s.turnOf d = true ∧ d.op = 1)
    ∧ (let d : Desc := { dsc 0x13 0 [1] with id := 1 }; let s : State := { up with host := { up.host with inflight := [dsc 0x20 0 [5], d], nextId := 2 } }; s.turnOf d = true ∧ engineOp d.op = true)
    ∧ (let d : Desc := { dsc 0x13 0 [1] with id := 1, words := [0x113, 0x1000, 0, 0, 1] }; let s : State := { up with host := { up.host with inflight := [dsc 0x20 0 [5], d], nextId := 2 } }; s.fenceOk d = false)
    ∧ knownOps.contains 0x99 = false ∧ knownOps.contains 0x70 = true ∧ up.otp.vaultFuse = false ∧ knownOps.contains 0x11 = true ∧ 4 % 8 ≠ 0
    ∧ (let d := dsc 0x12 0 [1]; let s : State := { inFl d up with cfg := { CfgSt.init with flip := some { flipOf [] with sealing := true, armed := false } } };
      (∀ e ∈ s.strm, ∀ b ∈ e.2.bufs, b.id ≠ d.id ∨ b.done = true) ∧ s.writing d = false ∧ s.cfg.flip = some { flipOf [] with sealing := true, armed := false } ∧ (flipOf []).id = some d.id)
    ∧ ({ controlInit with busMaster := true } : PcieControl).busMaster = true ∧ controlInit.busMaster = false ∧ controlInit.msixEnable = false ∧ ({ controlInit with msixMask := true } : PcieControl).msixMask = true := by decide +kernel

/-! #### Vault and Svetron -/

/-- A hub with a vault, its seal switch closed or open. -/
def vUp (opened : Bool) (v : VaultSt) : State := { up with otp := { up.otp with vaultFuse := true }, vault := v, pads := { up.pads with level := if opened then 0x80000000 else 0 } }
def vRun : VaultSt := { VaultSt.init with mode := .running }
def vRes : WeighSt := ⟨0, 0, 9, 0, 0, 0, 0, 0, 0, 0⟩

theorem test_witness_VaultCommandsAreServed :
    (let s := vUp false .init; s.wf = true ∧ s.otp.vaultFuse = true ∧ s.vault.mode = .starting ∧ 9 ≤ s.boot.stage ∧ s.vault.sealedGood = true)
    ∧ (vUp false vRun).vault.mode = .running ∧ (vUp false vRun).sealOpen = false ∧ (vUp true vRun).sealOpen = true
    ∧ (let s := vUp false { vRun with ready := [vRes] }; s.wf = true ∧ s.vault.ready = vRes :: [] ∧ s.vault.mode = .running ∧ s.issues = true ∧ s.sv.withheld = false)
    ∧ (vUp false .init).vaultVerifies true = true ∧ (vUp false .init).vault.mode ≠ .off ∧ (vUp false vRun).cfg.waitReady = none ∧ (vUp false vRun).flash.writes.any (fun w => w.begun) = false
    ∧ ({ vUp false vRun with flash := { FlashSt.init with writes := [⟨false, 0xA80000, [0], true⟩] } } : State).flash.writes.any (fun w => w.begun) = true
    ∧ (vUp false .init).vault.mode ≠ .running ∧ (vUp false vRun).cfg.flip = none ∧ (vUp false { vRun with mode := .fault }).vault.mode = .fault ∧ (vUp false vRun).sealOpen ≠ true ∧ (vUp true vRun).sealOpen ≠ false
    ∧ ({ vUp false vRun with cfg := { CfgSt.init with txn := some { txnOf none with vaultOwned := true } } } : State).cfg.txn.any (fun t => t.vaultOwned) = true
    ∧ (let s : State := act 2 { vUp false vRun with twin := { TwinSt.init with role := .standby } }; s.inService 2 = true ∧ s.otp.vaultFuse = true ∧ s.isStandby = true)
    ∧ (∀ c ∈ [1, 2, 3, 4, 16, 32], let d := dsc 0x70 4096 [BitVec.ofNat 32 c];
      ∀ s ∈ [inFl d (vUp true vRun), inFl d (vUp false .init)], s.descOf 0 = some d ∧ d.op = 0x70 ∧ d.bad = 0 ∧ s.turnOf d = true ∧ field (d.p 0) 15 0 = c ∧ s.descReadOk d 148 = true)
    ∧ (let d := dsc 0x70 4096 [4]; let s := fun (b0 b1 : Byte) => ({ inFl d (vUp false vRun) with host := { (inFl d (vUp false vRun)).host with mem := [(0x1004, b0), (0x1005, b1)] } } : State);
      ofLeBytes (((s 0 0x10).descRead d 8).drop 4) = 4096 ∧ 4096 < ofLeBytes (((s 1 0x10).descRead d 8).drop 4) ∧ 0 < ofLeBytes (((s 0 0x10).descRead d 8).drop 4) ∧ ofLeBytes (((inFl d (vUp false vRun)).descRead d 8).drop 4) = 0)
    ∧ (let d := dsc 0x70 148 [16]; (inFl d (vUp false vRun)).authGood ((inFl d (vUp false vRun)).descRead d (min d.len 148)) = false)
    ∧ (vUp false vRun).authTxn = false ∧ ({ vUp false vRun with cfg := { CfgSt.init with txn := some { txnOf none with authorised := true } } } : State).authTxn = true := by decide +kernel

theorem test_witness_WeighingResultsCarryTheirStatus :
    (let i : Interval := ⟨0, 0, [], false, false, false⟩; let s := vUp false vRun;
      i.nets.length - 2 * s.cfgv Fld.vaultPlatformSettle 0 0 < s.cfgv Fld.vaultPlatformMinOutputs 0 0 ∧ (s.resultOf 0 i 9 0 false false).status.getLsbD 2 = true) := by decide

/-- A request that waits: here SET_POLICY of 60 bytes, refused for its layout. -/
def reqUp (sv : SvSt) : State := { up with sv := { sv with requests := [(.host, [7, 0])] } }

/-- That a request passes every check rests on digests and signatures, which are open (Config). -/
theorem test_witness_SvetronRequestsAreChecked :
    (reqUp .init).sv.requests = (.host, [7, 0]) :: [] ∧ (reqUp .init).sv.goWaits = none ∧ (reqUp { SvSt.init with goWaits := some (0, 0) }).sv.goWaits.isSome = true ∧ up.lastWaits = false ∧ (reqUp .init).lastWaits = false ∧ (vUp false { vRun with ready := [vRes] }).lastWaits = true ∧ reqCode [7, 0] = 7 ∧ (reqUp .init).reqCheck [7, 0] = 0x0501 ∧ (reqUp .init).wf = true
    ∧ (reqUp { SvSt.init with badSigs := 7 }).sv.badSigs = 7 ∧ (reqUp { SvSt.init with backoff := some 3 }).sv.backoff = some 3
    ∧ (let d := dsc 0x60 4096 []; (inFl d up).serves 0 0x60 d ∧ (inFl d up).sv.withheld = false ∧ (inFl d (reqUp { SvSt.init with withheld := true })).serves 0 0x60 d
      ∧ (inFl d (reqUp { SvSt.init with withheld := true })).sv.withheld = true)
    ∧ (let d := dsc 0x61 4096 []; (inFl d up).serves 0 0x61 d) ∧ (vUp true vRun).sealOpen = true ∧ up.sealOpen = false ∧ up.signing = false ∧ (cf [(Fld.streamEnable, 63, 1), (Fld.streamSign, 63, 1)] up).signing = true := by
  unfold State.serves; decide

/-! #### Resets, start-up and power -/

/-- The hub in a step of start-up. -/
def bootUp (stage : Nat) : State := { up with boot := { BootSt.init with stage := stage } }

theorem test_witness_ResetsLoadAndKeep : up.wf = true ∧ 2 ≤ up.boot.stage ∧ up.pwr.mode = .run ∧ up.otp.vaultFuse = false ∧ (bootUp 1).boot.stage = 1 ∧ (bootUp 1).pwr.mode ≠ .hibernate
    ∧ warmKeeps 0x1008 = true ∧ (0x1008 : Nat) ≠ 0x60010 ∧ (0x1008 : Nat) ≠ Reg.svStatus ∧ warmKeeps 0x4008 = false ∧ (0x4008 : Nat) ≠ Reg.svStatus
    ∧ field (0xA55A0001 : W32) 31 16 = 0xA55A ∧ (0xA55A0001 : W32).getLsbD 0 = true ∧ (0xA55A0000 : W32).getLsbD 0 = false ∧ field (0xA55B0001 : W32) 31 16 ≠ 0xA55A := by decide

/-- A step's report in which neither slot's device reads (R447). -/
def noImages : StepReport := ⟨[], ⟨true, true, true, true, 33554432, 256, 2, 80⟩, ⟨true, true, true, true, 33554432, 256, 2, 80⟩, 0, false, false, true⟩

theorem test_witness_StartupGoesStepByStep :
    (∀ n ∈ [1, 2, 3, 4, 5, 6, 7, 8, 9, 10], (bootUp n).wf = true ∧ (bootUp n).boot.retryDue = false ∧ (bootUp n).boot.stage = n ∧ (bootUp n).pwr.mode ≠ .hibExit)
    ∧ (bootUp 1).pads.settled.getLsbD 32 = true ∧ (bootUp 1).boot.warmLatched = none ∧ (bootUp 8).boot.recovery = false
    ∧ noImages.imageAOk = false ∧ noImages.imageBOk = false ∧ sfdpPresent noImages.deviceA = true
    ∧ (let s := bootUp 7; s.flash.trial = false ∧ s.flash.slotA = .confirmed) ∧ (bootUp 4).pads.enAna = true := by decide

/-- The hub in a power state with a wake mask. -/
def pwrUp (p : PwrSt) : State := { up.setReg 0x1008 0x377 with pwr := p }

theorem test_witness_PowerStatesFollowTheirRules :
    up.wf = true ∧ up.pwr.mode = .run ∧ up.refusers true = [] ∧ up.refusers false = [] ∧ (cf [(Fld.twinEnable, 0, 1)] up).refusers true ≠ []
    ∧ (let s := pwrUp { PwrSt.init with mode := .hibEntry, entryUp := 999800000 }; s.pwr.mode = .hibEntry ∧ s.hibArisen = [] ∧ s.pwr.latched = 0 ∧ s.pwr.committed = false ∧ s.pastCommit = true ∧ 0x10 &&& s.reg 0x1008 ≠ 0 ∧ 0x80 &&& s.reg 0x1008 = 0)
    ∧ (let s := cf [(Fld.twinEnable, 0, 1)] (pwrUp { PwrSt.init with mode := .hibEntry, entryUp := 999800001 }); s.pwr.mode = .hibEntry ∧ s.hibArisen ≠ [] ∧ s.pwr.committed = false ∧ s.pwr.leftMode = .run ∧ s.pastCommit = false)
    ∧ (let s := pwrUp { PwrSt.init with mode := .hibEntry, entryUp := 999800001 }; s.hibArisen = [] ∧ s.pastCommit = false) ∧ (pwrUp { PwrSt.init with mode := .hibEntry, committed := true }).pwr.committed = true
    ∧ (let s : State := { pwrUp { PwrSt.init with mode := .hibExit } with boot := { BootSt.init with stage := 2 } }; s.pwr.mode = .hibExit ∧ s.boot.stage = 2)
    ∧ (pwrUp { PwrSt.init with mode := .hibernate }).pwr.mode = .hibernate ∧ 0x10 &&& (pwrUp { PwrSt.init with mode := .hibernate }).reg 0x1008 ≠ 0
    ∧ (pwrUp { PwrSt.init with wakeTimer := some 7 }).pwr.wakeTimer = some 7 ∧ up.pads.settled.getLsbD (field (up.reg 0x100C) 4 0) = true ∧ up.pads.settled.getLsbD (field (up.reg 0x100C) 12 8) = true
    ∧ up.pads.enDig = true ∧ (up.linkOf (pidx .twin)).mode ≠ .sleep ∧ ((lk 2 { LinkSt.init with mode := .sleep }).linkOf (pidx .twin)).mode = .sleep
    ∧ (cf [(Fld.pwrFastClocks, 0, 1)] up).burst = true ∧ up.burst = false ∧ (pwrUp { PwrSt.init with mode := .doze }).pwr.mode = .doze
    ∧ (let s := cf [(Fld.pwrFastClocks, 0, 1)] (pwrUp { PwrSt.init with mode := .doze }); s.bursting = false ∧ s.refusers false = [] ∧ s.pwr.pllFrom = none ∧ s.pllsStay = false ∧ s.needsFar = true)
    ∧ (let s := cf [(Fld.pwrFastClocks, 0, 1)] ((pwrUp { PwrSt.init with mode := .doze, pllFrom := some 7 }).setGrp 0 gRun); s.pwr.pllFrom = some 7 ∧ s.nextNeed.isSome = true)
    ∧ (up.setGrp 0 { gRun with frame := some ⟨8, 0, false, 1, 0, 0, false⟩ }).bursting = true
    ∧ (pwrUp { PwrSt.init with reqUp := some (1000000000, .sideband) }).hibTwice .host = true ∧ (pwrUp { PwrSt.init with reqUp := some (1000000000, .sideband) }).hibTwice .sideband = false ∧ up.hibTwice .host = false
    ∧ (pwrUp { PwrSt.init with mode := .hibExit, wakeAt := 5 }).pwr.mode = .hibExit ∧ (true = !(up.reg 0x100C).getLsbD 7) ∧ (true = !(up.reg 0x100C).getLsbD 15)
    ∧ (let b := List.replicate 8 true ++ List.replicate 8 false; chirpIn (b ++ b ++ b ++ [true]) = true ∧ chirpIn (List.replicate 64 true) = false ∧ chirpIn (b ++ b) = false) := by decide +kernel

/-! #### Side band, registers and pins -/

def sbOk (cmd : Byte) (n : Nat) (param : BitVec 16) : SbFrame := ⟨32 * (if cmd = 0 then 2 else 4 + n), cmd, BitVec.ofNat 8 n, param, 0x1004, 42, List.replicate n 2, [], false⟩
def ownedUp : State := { up with sv := { SvSt.init with owned := true, sbCounter := 41 } }

/-- The tag of an OWNED hub's frame is open (Config.hmacSha256); a frame that reads SVETRON_STATUS carries none. -/
theorem test_witness_SideBandFramesAreCheckedAndRun :
    up.wf = true ∧ up.sbCheck (sbOk 0 0 0) = 0 ∧ (sbOk 0 0 0).early = false ∧ up.sbCheck (sbOk 1 0 64) = 0 ∧ up.sbCheck (sbOk 2 64 0) = 0 ∧ up.sbCheck (sbOk 3 16 0) = 0 ∧ up.sbCheck (sbOk 4 1 0) = 0
    ∧ up.sbCheck (sbOk 1 0 65) = 2 ∧ up.sbFormat (sbOk 1 0 65) = false ∧ (sbOk 1 0 65).bits % 32 = 0 ∧ up.sbCheck { sbOk 0 0 0 with bits := 63 } = 1 ∧ (63 : Nat) % 32 ≠ 0
    ∧ (let f : SbFrame := { sbOk 1 0 1 with addr := 0x68000 }; ownedUp.sbCheck f = 0 ∧ ownedUp.sv.owned = true ∧ f.cmd ≠ 0 ∧ ownedUp.sbTagged f = false ∧ ownedUp.sbCheck { f with counter := 41 } = 4)
    ∧ up.sv.owned = false ∧ ({ up with pads := { up.pads with enDig := false } } : State).coreOff = true ∧ cricketReg 0x80000 = false ∧ 0x80000 + 4 < 0x81000
    ∧ (let ws := 0 :: List.replicate 15 (0 : W32); ws.length = 16 ∧ up.log.fatal = false ∧ (∀ x ∈ up.host.inflight, x.bad = 0) ∧ up.firstCheck ⟨up.host.nextId, 64, 0, ws, [], up.tm.up, false, 0, up.now⟩ = 0) := by decide

theorem test_witness_SideBandFramesAreCheckedAndRun_early :
    (let s : State := { up with sb := { SbSt.init with endUp := some 999950001 } }; s.sbEarly { sbOk 0 0 0 with early := true } = true ∧ s.sbEarly (sbOk 0 0 0) = false)
    ∧ (let s : State := { up with sb := { SbSt.init with endUp := some 999950000 } }; s.sb.endUp = some 999950000 ∧ 999950000 + 50000 ≤ s.tm.up ∧ s.sbEarly { sbOk 0 0 0 with early := true } = false)
    ∧ (0 : BitVec 16) = (sbOk 0 0 0).param ∧ (32 : Nat) ≤ 64 := by decide

/-- R426's example: an OWNED hub in HIBERNATE answers 0xB2, and the WRITE it took with RESULT 0, no words, and the echo 0x02000000; after 280 bits RESULT is 1. -/
theorem test_sideband_example :
    let s : State := { ownedUp with pads := { up.pads with enDig := false, pcieUp := false } }
    let f : SbFrame := ⟨288, 2, 1, 0, 0x1004, 42, [2], [], false⟩
    s.sbStatusByte = 0xB2 ∧ (s.sbMiso false 8) = [true, false, true, true, false, false, true, false]
      ∧ (s.sbAnswer f 0 []).sbResponse = [0x000000B2, 0x02000000] ∧ s.sbCheck { f with bits := 280 } = 1 ∧ ((s.sbReject f 1).sb.result, (s.sbReject f 1).sv.sbCounter) = (1, 41) := by decide +kernel

theorem test_witness_RegistersAndPinsFollowTheirTypes :
    up.wf = true ∧ rwMask 0x7C004 = some 0x03FF0003 ∧ rwMask Reg.ffStatus = none ∧ rw1cMask Reg.ffStatus ≠ 0 ∧ 0x8480 ≤ Reg.ffStatus ∧ rw1cMask Reg.hubStatus ≠ 0 ∧ Reg.hubStatus < 0x8400
    ∧ ({ up with pads := { up.pads with enDig := false } } : State).coreOff = true ∧ up.coreOff = false
    ∧ narrow ⟨0x4008, [100], 3, 0⟩ = true ∧ narrow ⟨0x4008, [100], 15, 0⟩ = false ∧ unaligned ⟨0x4008, [1, 2], 15, 7⟩ = true ∧ unaligned ⟨0x4008, [1, 2], 15, 15⟩ = false
    ∧ ((32 : Fin 33).val ≠ 31) ∧ ((30 : Fin 33).val < 32 ∧ up.seizeFeeds 30 = false)
    ∧ ({ up with pads := { up.pads with due := 0x80000000 } } : State).pads.due.getLsbD 31 = true
    ∧ (let s : State := { up with pads := { up.pads with parked := 0x80000001 } };
      s.wf = true ∧ s.pads.parked.getLsbD 31 = true ∧ s.pads.due.getLsbD 31 = false ∧ s.otp.vaultFuse = false ∧ s.cfgv Fld.pinFunc 31 0 ≠ 9 ∧ Cells.wf (fun _ => 0) s.pads.func = true) := by decide

/-! #### Flash, firmware and the engine -/

def flUp (f : FlashSt) : State := { up with flash := f }

theorem test_witness_FlashWritesAreProgrammedOrDenied :
    up.wf = true ∧ up.boot.engine = .up ∧ 67108860 < 67108864 ∧ ([0, 0, 0, 0] : List Byte).length ≤ 4 - 67108860 % 4 ∧ up.flash.denies (decide (33554432 ≤ 0)) (0 % 33554432) 4 = true ∧ up.flash.denies (decide (33554432 ≤ 67108860)) (67108860 % 33554432) 4 = false
    ∧ (0x9FFFFF : Nat) < 0xA00000 ∧ (0xA7FFFF < 0xA80000 ∧ 0xA40000 < 0xA7FFFF + 1) ∧ (0x16FFFFF < 0x1700000 ∧ 0xC00000 < 0x16FFFFF + 1)
    ∧ (let r : Bool × Nat × Nat := (true, 0x1FFFFF0, 16); r ∈ (flUp { FlashSt.init with written := [r] }).flash.written ∧ 0x1FFFFFF < r.2.1 + r.2.2 ∧ r.2.1 < 0x1FFFFFF + 1)
    ∧ (let w : FlashWrite := ⟨true, 0x1FFFFF4, [1, 2, 3, 4], true⟩; let s := flUp { FlashSt.init with writes := [w], presentB := true };
      s.wf = true ∧ s.flash.writes.find? (fun x => x.second == true) = some w ∧ s.flash.present true = true ∧ w.begun = true ∧ s.flash.writes.find? (fun x => x.second == false) = none)
    ∧ (let w : FlashWrite := ⟨true, 0x1FFFFF4, [1, 2, 3, 4], false⟩; let s := flUp { FlashSt.init with writes := [w] };
      s.flash.writes.getLast? = some w ∧ w.begun = false ∧ w.offset + w.data.length = 0x1FFFFF8 ∧ w.offset / s.flash.page true = 0x1FFFFF8 / s.flash.page true)
    ∧ (let w : FlashWrite := ⟨true, 0x1FFFEFC, [1, 2, 3, 4], false⟩; w.offset + w.data.length = 0x1FFFF00 ∧ w.offset / FlashSt.init.page true ≠ 0x1FFFF00 / FlashSt.init.page true) := by decide

theorem test_witness_FlashWritesAreProgrammedOrDenied_stage : (let d := dsc 0x50 4 [0, 0]; (inFl d up).serves 0 0x50 d) ∧ up.flash.writes.find? (fun x => x.second == true) = none ∧ true ≠ up.flash.runningB := by
  unfold State.serves; decide

/-- FW_STAGE of a chunk, with the state of the flash. -/
def stageUp (d : Desc) (f : FlashSt) : State := { inFl d up with flash := { f with presentB := true } }

/-- That an image's signatures verify is open (Config.ecdsaVerify). -/
theorem test_witness_ImagesAreStagedActivatedAndConfirmed :
    (let d := dsc 0x50 65536 [0, 1]; let s := stageUp d .init;
      s.wf = true ∧ s.serves 0 0x50 d ∧ d.len % 4 = 0 ∧ d.len ≤ 65536 ∧ s.flash.trial = false ∧ (d.p 0).toNat = 0 ∧ s.descReadOk d d.len = true ∧ (d.p 1).getLsbD 0 = true ∧ s.flash.present s.flash.idle = true
        ∧ s.flash.stageBad = false ∧ (flUp { FlashSt.init with slotB := .trial }).flash.trial = true)
    ∧ (let d := dsc 0x50 4 [0, 0]; let s := stageUp d .init;
      s.serves 0 0x50 d ∧ (d.p 1).getLsbD 0 = false
        ∧ tooLarge ((((s.imageHeader s.flash.idle).take (min (d.p 0).toNat 332) ++ (s.descRead d d.len).take (332 - (d.p 0).toNat))).take (min ((d.p 0).toNat + d.len) 332)) ((d.p 0).toNat + d.len) = false)
    ∧ (let d := dsc 0x50 4 [0, 0]; (stageUp d { FlashSt.init with stageBad := true }).serves 0 0x50 d ∧ (stageUp d { FlashSt.init with stageBad := true }).flash.stageBad = true)
    ∧ (let d := dsc 0x50 4 [4, 0]; (inFl d up).serves 0 0x50 d ∧ (d.p 0).toNat ≠ 0 ∧ (d.p 0).toNat ≠ (inFl d up).flash.staged) := by unfold State.serves; decide +kernel

theorem test_witness_ImagesAreStagedActivatedAndConfirmed_lost :
    (let d := dsc 0x50 64 [0, 0]; let s : State := { stageUp d .init with host := { (stageUp d .init).host with bad := [(0x1000, 8)] } }; s.serves 0 0x50 d ∧ s.descReadOk d d.len = false)
    ∧ (let d := dsc 0x51 0 []; (inFl d up).serves 0 0x51 d ∧ (inFl d up).flash.slot (inFl d up).flash.idle ≠ .staged ∧ (inFl d (flUp { FlashSt.init with slotB := .staged })).serves 0 0x51 d
      ∧ (inFl d (flUp { FlashSt.init with slotB := .staged })).flash.slot true = .staged ∧ (flUp { FlashSt.init with slotB := .staged }).newVault true = false) := by unfold State.serves; decide +kernel

theorem test_witness_ImagesAreStagedActivatedAndConfirmed_trial :
    (let s : State := { vUp false vRun with flash := { FlashSt.init with slotB := .staged } }; s.newVault s.flash.idle = true ∧ s.sealOpen = false ∧ s.authTxn = false)
    ∧ (let d := dsc 0x52 0 []; let s : State := inFl d (flUp { FlashSt.init with slotA := .previous, slotB := .trial, runningB := true, trialUp := 1000000000 });
      (inFl d up).serves 0 0x52 d ∧ s.serves 0 0x52 d ∧ s.flash.trial = true ∧ s.limitPassed = false)
    ∧ (let s := cf [(Fld.fwAutoConfirm, 0, 1)] (flUp { FlashSt.init with slotB := .trial, runningB := true, selfTest := true }); s.cfgOn Fld.fwAutoConfirm 0 = true ∧ s.engineUp = true ∧ s.flash.selfTest = true ∧ s.flash.trial = true)
    ∧ (let s := cf [(Fld.fwAutoConfirm, 0, 0)] (flUp { FlashSt.init with slotB := .trial, runningB := true }); s.cfgOn Fld.fwAutoConfirm 0 = false ∧ s.flash.selfTest = false ∧ s.flash.trial = true) := by unfold State.serves; decide +kernel

theorem test_witness_EngineRestartsAndReturns :
    up.wf = true ∧ up.boot.engine = .up ∧ up.flash.trial = false ∧ (flUp { FlashSt.init with slotB := .trial, runningB := true }).flash.trial = true
    ∧ (let s := bootUp 9; s.wf = true ∧ s.boot.engine ≠ .up ∧ s.boot.recovery = false ∧ 9 ≤ s.boot.stage ∧ s.mains.mode = .off ∧ s.boot.restarts.length < 4) ∧ (mainsUp { MainsSt.init with mode := .locked }).mains.mode ≠ .off
    ∧ (bootUp 8).boot.stage < 9 ∧ 4 ≤ ({ up with boot := { up.boot with restarts := [1, 2, 3, 4] } } : State).boot.restarts.length := by decide

/-! #### Errors and the injector -/

def er (reg bit cls : Nat) (recovers : Bool) : ErrIn := ⟨cls, reg, bit, 3, 0, false, false, false, recovers⟩
def recOf (e : W32) : ErrRec := ⟨e, 2, false, false, false, false, false, 0x10000, 11, 3, 0, 0, 1, 0, 0⟩
def logUp (l : LogSt) : State := { up with log := l }

theorem test_witness_ErrorsAreRecordedCoalescedAndPopped :
    (er 1 2 0 false).rank = (er 1 2 3 false).rank ∧ (er 1 2 0 false).rank < (er 1 3 0 false).rank ∧ up.wf = true ∧ (er 1 2 3 true).cls ≤ 3 ∧ up.handlingOf 0x10000 3 = none ∧ up.log.records.length < 512
    ∧ (let h : Handling := ⟨0x10000, 3, 11, 9, 2, 7, 0⟩; let s := logUp { LogSt.init with records := [recOf 9], handling := [h] };
      s.wf = true ∧ s.handlingOf 0x10000 3 = some h ∧ h.nested < 8 ∧ (er 0x10000 11 2 false).bit = h.bit ∧ (er 0x10000 12 2 false).bit ≠ h.bit ∧ s.logHeld h.eseq = true ∧ s.log.records.length < 512
        ∧ s.log.records = recOf 9 :: [] ∧ (recOf 9).eseq = 9)
    ∧ (let h : Handling := ⟨0x10000, 3, 11, 9, 2, 8, 9⟩; let s := logUp { LogSt.init with records := [recOf 9], handling := [h] }; s.handlingOf 0x10000 3 = some h ∧ 8 ≤ h.nested ∧ s.logHeld h.eighth = true)
    ∧ (let s := logUp { LogSt.init with records := List.replicate 512 (recOf 9) }; s.handlingOf 0x10000 3 = none ∧ 512 ≤ s.log.records.length ∧ (er 1 2 0 false).cls = 0)
    ∧ (∃ v, logVictim 2 [recOf 9] = some v) ∧ ∀ r ∈ [recOf 9], 1 < r.cls := ⟨by decide, by decide, by decide, by decide, by decide, by decide, by decide, by decide, by decide +kernel, ⟨9, by decide⟩, by decide⟩

theorem test_witness_ErrorsAreRecordedCoalescedAndPopped_interrupt :
    (logUp { LogSt.init with msiDue := true, msiUp := some 999999000 }).log.msiDue = true ∧ (logUp { LogSt.init with msiDue := true, msiUp := some 999999000 }).log.msiUp = some 999999000
    ∧ up.log.msiDue = false ∧ 0 < field (up.reg 0x7C004) 1 0 ∧ up.log.records = [] := by decide

theorem test_witness_ErrorsAreRecordedCoalescedAndPopped_cycle : up.log.gather = none ∧ (logUp { LogSt.init with gather := some [] }).log.gather = some []
    ∧ (fun s : State => s.raise (er 1 2 0 false)) { up with log := { up.log with gather := some [] } } = { up with log := { up.log with gather := some [er 1 2 0 false] } } := by decide

theorem test_witness_UnitFatalStopsTheUnit : up.wf = true ∧ up.log.fatal = false ∧ (logUp { LogSt.init with fatal := true }).wf = true ∧ (logUp { LogSt.init with fatal := true }).log.fatal = true
    ∧ (∀ x < 64, up.cfgOn Fld.streamEnable x = false) ∧ up.host.inflight = [] ∧ up.strm.find? (fun e => e.2.bufs.any (fun b => b.id == 0 && !b.done)) = none
    ∧ up.schedGroup = none ∧ (up.setGrp 1 gRun).schedGroup = some 1 ∧ FatalCause.supply ≠ .injected ∧ FatalCause.supply ≠ .schedWdg := by decide +kernel

/-- INJECT of a target's action, with the rest of its operands; the injector is unlocked or not. -/
def injD (t a : Nat) (p2 : W32) (p3 : W32 := 100) : Desc := dsc 0x80 0 [BitVec.ofNat 32 t, BitVec.ofNat 32 a, p2, p3, 1]
def injUp (opened : Bool) (d : Desc) : State :=
  inFl d (excM 0 .idle ((act 0 (act 1 (act 2 ((ringUp 0 0).setGrp 0 gRun)))) |> fun s => { s with sv := { SvSt.init with injectOpen := opened }, pump := { PumpSt.init with running := true, ready := true } }))

theorem test_witness_InjectionsAreRefusedOrPending :
    (∀ e ∈ [(4, 1, (0 : W32)), (4, 2, 0), (4, 3, 0), (4, 4, 0), (5, 1, 0), (5, 2, 0), (6, 1, 0), (6, 2, 0), (6, 3, 0), (6, 4, 0), (6, 5, 0), (7, 1, 4), (7, 2, 4), (8, 1, 0), (8, 2, 0), (9, 1, 0), (15, 1, 0),
        (1, 1, 5), (2, 2, 5), (3, 3, 5), (1, 4, 5), (2, 5, 5), (3, 6, 5), (1, 0, 0), (10, 1, 5), (10, 2, 5), (12, 1, 0)],
      let d := injD e.1 e.2.1 e.2.2;
      ((injUp true d).descOf 0 = some d ∧ d.op = 0x80 ∧ d.bad = 0 ∧ (injUp true d).turnOf d = true) ∧ field (d.p 0) 7 0 = e.1 ∧ (d.p 1).toNat = e.2.1 ∧ (injUp true d).sv.injectOpen = true
        ∧ (injUp true d).injOwned e.1 (d.p 2) = false ∧ injIndexOk e.1 e.2.1 (d.p 2) (d.p 4) = true ∧ (e.2.1 = 0 ∨ (injUp true d).injReady e.1 e.2.1 (d.p 2).toNat = true)
        ∧ 0 < (d.p 3).toNat)
    ∧ (∀ a ∈ [1, 2, 3], let d := injD 11 a 0; let s := pairOf .active (injUp true d);
      (s.descOf 0 = some d ∧ d.op = 0x80 ∧ d.bad = 0 ∧ s.turnOf d = true) ∧ s.injOwned 11 (d.p 2) = false ∧ injIndexOk 11 a (d.p 2) (d.p 4) = true ∧ s.injReady 11 a (d.p 2).toNat = true) := by decide +kernel

theorem test_witness_InjectionsAreRefusedOrPending_refused :
    (let d := injD 4 1 32; (injUp true d).sv.injectOpen = true ∧ injIndexOk 4 1 (d.p 2) (d.p 4) = false ∧ (injUp false d).sv.injectOpen = false)
    ∧ (let d := injD 4 1 1; injIndexOk 4 1 (d.p 2) (d.p 4) = true ∧ (injUp true d).injReady 4 1 (d.p 2).toNat = false)
    ∧ (let d := injD 4 1 28; ({ injUp true d with otp := { OtpSt.init with vaultFuse := true }, pads := { up.pads with level := 0 } } : State).injOwned 4 (d.p 2) = true
      ∧ ({ injUp true d with otp := { OtpSt.init with vaultFuse := true }, pads := { up.pads with level := 0 } } : State).sealOpen = false)
    ∧ (let i : Injection := ⟨12, 1, 0, 1, 5⟩; ({ up with inj := [i] } : State).inj.find? (fun i => decide (i.target = 12) && i.timed) = some i ∧ up.inj.find? (fun i => decide (i.target = 12) && i.timed) = none) := by decide

end Sys2Proof.Tests
end

section
/-! PROOFS. Resets (R10, R217, R444, R450, R470, R477, Table 12-4), and the step of a pin's switch at C0 (R491). -/

namespace Sys2Proof.Machine

open Sys2Proof

/-! ### What a discarded commit and interrupted weighing leave alone -/

/-- A staged commit is discarded in the configuration and among the descriptors in flight. -/
theorem State.unstage_changes (s : State) (rollback : Bool) : Frm 4831838208 s (s.unstage rollback) :=
  State.unstage_frm (Sub.refl _) (Frm.refl _ s)

/-- Host memory and the next transaction ID outlive the commit. -/
theorem State.unstage_keeps (s : State) (rollback : Bool) :
    (s.unstage rollback).host.mem = s.host.mem ∧ (s.unstage rollback).cfg.nextId = s.cfg.nextId := by
  unfold State.unstage
  dsimp only
  split
  · split <;> exact ⟨rfl, rfl⟩
  · split <;> exact ⟨rfl, rfl⟩
  · exact ⟨rfl, rfl⟩

/-- An interval that closes counts in VAULT_INHIBIT_COUNT at most (R375). -/
theorem State.closeInterval_reg {s : State} {p : Nat} {i : Interval} {tExit : Nat} {epoch : BitVec 16} {interrupted overlong : Bool} {a : Nat} (ha : a ≠ 0x60010) :
    (s.closeInterval p i tExit epoch interrupted overlong).reg a = s.reg a := by
  unfold State.closeInterval State.weighed State.holdResult State.doIf
  dsimp only
  split
  · exact State.bump_reg ha
  · split
    · rfl
    · split
      · exact State.bump_reg ha
      · rfl

theorem State.interruptWeighing_reg {ps : List Nat} {a : Nat} (ha : a ≠ 0x60010) :
    ∀ s : State, (s.interruptWeighing ps).reg a = s.reg a := by
  induction ps with
  | nil => intro s; rfl
  | cons p ps ih =>
    intro s
    refine (ih _).trans ?_
    dsimp only
    split
    · exact State.closeInterval_reg ha
    · rfl

/-! ### What POR leaves (R10, R390, R396) -/

theorem State.porState_otp (s : State) : s.porState.otp = s.otp := s.unstage_changes true .otp (by decide)

theorem State.porState_mem (s : State) : s.porState.host.mem = s.host.mem := (s.unstage_keeps true).1

theorem State.porState_perst (s : State) : s.porState.pads.perst = s.pads.perst := by
  have hpads : (s.unstage true).pads = s.pads := s.unstage_changes true .pads (by decide)
  exact (congrArg PadSt.perst hpads :)

theorem State.porState_sv (s : State) : s.porState.sv = s.sv.powerUp :=
  congrArg SvSt.powerUp (s.unstage_changes true .sv (by decide))

theorem State.porState_flash (s : State) : s.porState.flash = s.flash.restart :=
  congrArg FlashSt.restart (s.unstage_changes true .flash (by decide))

theorem State.porState_pending (s : State) : s.porState.pending = s.pending := s.unstage_changes true .pending (by decide)

/-! ### What WARM resets -/

/-- WARM starts from the hub with its staged commit discarded and its weighing interrupted (R374). -/
def State.warmBase (s : State) : State := (s.unstage true).interruptWeighing [0, 1, 2, 3]

theorem State.warmBase_changes (s : State) : Frm 22011707408 s s.warmBase :=
  State.interruptWeighing_frm (Sub.le (Sub.refl _) (by decide)) (State.unstage_frm (Sub.le (Sub.refl _) (by decide)) (Frm.refl _ s))

theorem State.warmBase_reg {s : State} {a : Nat} (ha : a ≠ 0x60010) : s.warmBase.reg a = s.reg a :=
  (State.interruptWeighing_reg ha _).trans (congrArg (fun r => Cells.get resetWord r a) (s.unstage_changes true .regs (by decide)))

theorem State.warmBase_keeps (s : State) : s.warmBase.host.mem = s.host.mem ∧ s.warmBase.cfg.nextId = s.cfg.nextId := by
  have weighing : Frm 17179869200 (s.unstage true) s.warmBase := State.interruptWeighing_frm (Sub.refl _) (Frm.refl _ _)
  have host : s.warmBase.host = (s.unstage true).host := weighing .host (by decide)
  have cfg : s.warmBase.cfg = (s.unstage true).cfg := weighing .cfg (by decide)
  rw [host, cfg]
  exact s.unstage_keeps true

/-- Without a vault WARM leaves the Balanced defaults alone live (Table 12-4). -/
theorem State.warmLive_of_noVault {s : State} (h : s.otp.vaultFuse = false) : s.warmLive = [] := by
  simp [State.warmLive, h]

/-- Dropping the indices outside a set leaves what is listed in it, and nothing outside it. -/
theorem Cells.get_filter {α : Type} {d : Nat → α} {p : Nat → Bool} {a : Nat} (m : Cells α) :
    Cells.get d (m.filter (fun e => p e.1)) a = if p a then Cells.get d m a else d a := by
  induction m with
  | nil => simp [Cells.get]
  | cons e rest ih =>
    obtain ⟨k, v⟩ := e
    by_cases hka : k = a
    · subst hka
      cases hp : p k <;> simp [Cells.get, hp, ih]
    · cases hp : p k <;> simp [Cells.get, hp, ih, hka]

/-- Of the register window WARM keeps the registers of warmKeeps and SB_AUTH_SEEN; every other register reads its reset value. -/
theorem State.warmRegs_get {s : State} (h : Cells.wf resetWord s.regs = true) (a : Nat) :
    Cells.get resetWord s.warmRegs a
      = if a = Reg.svStatus then s.reg Reg.svStatus &&& 0x4000 else if warmKeeps a then s.reg a else resetWord a := by
  unfold State.warmRegs
  rw [Cells.get_set (Cells.filter_wf h), Cells.get_filter]
  rfl

/-- A WARM taken in RUN after step 1 (R10, R445, R450): step 2 with the rails enabled, or step 3 where they were up. -/
theorem State.warmTake_run {s : State} {src : ResetSource} (hstage : 2 ≤ s.boot.stage) (hmode : s.pwr.mode = .run) :
    s.warmTake src = { s.warmState src with
      pads := { (s.warmState src).pads with enDig := true },
      pwr := { s.pwr with wakeTimer := none, committed := false, arose := 0 },
      boot := { (s.warmState src).boot with stage := if s.pads.enDig then 3 else 2 } } := by
  have hpwr : (s.warmState src).pwr = s.pwr := s.warmBase_changes .pwr (by decide)
  have h0 : s.boot.stage ≠ 0 := by omega
  have h1 : s.boot.stage ≠ 1 := by omega
  simp [State.warmTake, State.leaveDoze, hmode, hpwr, h0, h1]

/-- The registers after a WARM in RUN. -/
theorem State.warmTake_reg {s : State} {src : ResetSource} (hwf : s.wf = true) (hstage : 2 ≤ s.boot.stage) (hmode : s.pwr.mode = .run) (a : Nat) :
    (s.warmTake src).reg a
      = if a = Reg.svStatus then s.warmBase.reg Reg.svStatus &&& 0x4000 else if warmKeeps a then s.warmBase.reg a else resetWord a := by
  have hbase : Good s.otp s.pending s.warmBase := State.interruptWeighing_good (State.unstage_good (good_of_wf hwf))
  rw [State.warmTake_run hstage hmode]
  exact State.warmRegs_get hbase.regs a

/-- HUB_CTRL with its key and bit 0 set takes a WARM, with the path as its source (R477). -/
theorem execHubCtrl_key {s : State} {v : W32} (hkey : field v 31 16 = 0xA55A) (hbit : v.getLsbD 0 = true) :
    execHubCtrl v .host s = .next (s.warmTake .host) ∧ execHubCtrl v .sideband s = .next (s.warmTake .sideband) :=
  ⟨if_pos ⟨hkey, hbit⟩, if_pos ⟨hkey, hbit⟩⟩

/-- Any other write of HUB_CTRL does nothing (R477). -/
theorem execHubCtrl_noKey {s : State} {v : W32} {path : Path} (h : field v 31 16 ≠ 0xA55A ∨ v.getLsbD 0 = false) :
    execHubCtrl v path s = .next s := by
  refine if_neg ?_
  rintro ⟨hkey, hbit⟩
  rcases h with h | h
  · exact h hkey
  · exact absurd hbit (by rw [h]; decide)

/-! ### Resets load and keep -/

/-- Settles O50: what each reset loads stands in State.reset, what it keeps is a frame of unstage and interruptWeighing, and its registers are warmRegs_get. -/
theorem resetsLoadAndKeep : Obligations.ResetsLoadAndKeep := by
  intro s hwf
  refine ⟨?por, ?warm, ?noReach, ?latched, fun v hkey hbit => execHubCtrl_key hkey hbit, fun v path h => execHubCtrl_noKey h⟩
  case por =>
    refine ⟨s.porState, rfl, rfl, s.porState_otp, s.porState_mem, s.porState_perst, fun _ => rfl, rfl, rfl, rfl, rfl, rfl, rfl, rfl, rfl, rfl, fun _ => rfl, ?_⟩
    rw [s.porState_sv, s.porState_flash]
    exact ⟨rfl, rfl, rfl, rfl, rfl, rfl, rfl, rfl, rfl, rfl, rfl, s.porState_pending⟩
  case warm =>
    intro src hstage hmode
    have hbase := s.warmBase_changes
    have hcricket := congrArg TimeSt.cricket (show s.warmBase.tm = s.tm from hbase .tm (by decide))
    have hage := congrArg TimeSt.age (show s.warmBase.tm = s.tm from hbase .tm (by decide))
    have hstrapB := congrArg BootSt.strapB (show s.warmBase.boot = s.boot from hbase .boot (by decide))
    have howned := congrArg SvSt.owned (show s.warmBase.sv = s.sv from hbase .sv (by decide))
    have hrecords := congrArg LogSt.records (show s.warmBase.log = s.log from hbase .log (by decide))
    have hotp : s.warmBase.otp = s.otp := hbase .otp (by decide)
    have htrace : s.warmBase.trace = s.trace := hbase .trace (by decide)
    obtain ⟨hmem, hnextId⟩ := s.warmBase_keeps
    refine ⟨s.warmTake src, rfl, ?_⟩
    have hreg := State.warmTake_reg (src := src) hwf hstage hmode
    have hkept : ∀ a, warmKeeps a = true → a ≠ 0x60010 → a ≠ Reg.svStatus → (s.warmTake src).reg a = s.reg a := by
      intro a hk ha hsvs
      rw [hreg, if_neg hsvs, if_pos hk, State.warmBase_reg ha]
    have hloaded : ∀ a, warmKeeps a = false → a ≠ Reg.svStatus → (s.warmTake src).reg a = resetWord a := by
      intro a hk hsvs
      rw [hreg, if_neg hsvs, hk]
      rfl
    have hsvStatus : (s.warmTake src).reg Reg.svStatus = s.reg Reg.svStatus &&& 0x4000 := by
      rw [hreg, if_pos rfl, State.warmBase_reg (by decide)]
    revert hkept hloaded hsvStatus
    rw [State.warmTake_run hstage hmode]
    intro hkept hloaded hsvStatus
    exact ⟨rfl, rfl, hstrapB, rfl, hcricket, hage, rfl, rfl, rfl, htrace, hrecords, rfl, hotp, rfl, rfl, hnextId, rfl, howned, rfl, rfl, hmem,
      fun hfuse => State.warmLive_of_noVault (hotp ▸ hfuse), fun _ => rfl, hkept, hloaded, hsvStatus⟩
  case noReach => exact fun src h => congrArg Host.Outcome.next (if_pos h)
  case latched =>
    intro src hstage hmode
    have h : ¬ (s.boot.stage = 0 ∨ s.pwr.mode = .hibernate) := by simp [hstage, hmode]
    exact congrArg Host.Outcome.next ((if_neg h).trans (if_pos hstage))

/-! ### A pin's switch at C0 (R491) -/

/-- The hub at a pin's C0, with the pin parked until the next Cricket edge. -/
def State.parkedAt (s : State) (k : Fin 32) : State :=
  let s := s.reachCricket (s.pinEdge k)
  { s with pads := { s.pads with
      due := s.pads.due &&& ~~~ BitVec.ofNat 32 (2 ^ k.val), parked := s.pads.parked ||| BitVec.ofNat 32 (2 ^ k.val),
      edgeAt := Cells.set (fun _ => 0) s.pads.edgeAt k (s.tm.cricket + 1) } }

/-- Parking a pin and the seize's answer to it are all that C0 does. -/
theorem functionSwitchPark_parks {s : State} {k : Fin 32} (hdue : s.pads.due.getLsbD k = true) :
    OutFrm 17179871232 (s.parkedAt k) (exec (.functionSwitchPark k) s) :=
  ⟨_, if_pos hdue, State.seizeCheck_frm (Sub.refl _) (Frm.refl _ _)⟩

/-- The edge that ends a pin's parking is one Cricket cycle on, as the store of edges reads it back. -/
theorem functionSwitchPark_pinEdge {s u : State} {k : Fin 32} (hdue : s.pads.due.getLsbD k = true) (hu : exec (.functionSwitchPark k) s = .next u) :
    u.pinEdge k = Cells.get (fun _ => 0) (Cells.set (fun _ => 0) s.pads.edgeAt k (u.tm.cricket + 1)) k := by
  obtain ⟨t, ht, hparked⟩ := functionSwitchPark_parks hdue
  obtain rfl : t = u := Host.Outcome.next.inj (ht.symm.trans hu)
  have hreach : (s.reachCricket (s.pinEdge k)).pads = s.pads := State.reachCricket_frm (Sub.refl _) (Frm.refl _ s) .pads (by decide)
  have htm : t.tm = (s.parkedAt k).tm := hparked .tm (by decide)
  have hpads : t.pads = (s.parkedAt k).pads := hparked .pads (by decide)
  rw [State.pinEdge, htm, hpads]
  simp only [State.parkedAt, hreach]

/-- A hub whose store of Cricket edges lists pin 0 twice: State.wf asks the canonical form of the stores of State, and this store is one of the pads. -/
def edgeListedTwice : State :=
  { State.reset with
    tm := { TimeSt.init with cricket := 0xFFFFFFFF }
    pads := { PadSt.init with due := 1, edgeAt := [(0, 0xFFFFFFFF), (0, 0xFFFFFFFF)] } }

theorem edgeListedTwice_wf : edgeListedTwice.wf = true := by decide

/-- Refutes O54 in its clause on C0 of a switch. The next edge of pin 0 has the count 0, which the store need not list; so the write drops the pin's first entry
and the second one, 0xFFFF_FFFF, is read. A hypothesis that the store is canonical, as the clause on C1 has for the pins' functions, is what is missing. -/
theorem not_registersAndPinsFollowTheirTypes : ¬ Obligations.RegistersAndPinsFollowTheirTypes := by
  intro h
  obtain ⟨-, -, -, -, -, -, -, -, hpark, -⟩ := h edgeListedTwice edgeListedTwice_wf
  have hdue : edgeListedTwice.pads.due.getLsbD (0 : Fin 32) = true := by decide
  obtain ⟨u, hu, -, -, -, -, htm, hedge, -⟩ := hpark 0 hdue
  have hcricket : u.tm.cricket = 0xFFFFFFFF := by
    rw [htm]
    decide
  have hstale : u.pinEdge (0 : Fin 32) = 0xFFFFFFFF := by
    rw [functionSwitchPark_pinEdge hdue hu, hcricket]
    decide
  rw [hstale, hcricket] at hedge
  exact absurd hedge (by decide)

end Sys2Proof.Machine
end

section
/-! PROOFS. Bits of the register window, what reports leave of it, frames as lists of parts, and the errors of one core clock cycle (R457). -/

namespace Sys2Proof.Machine

open Sys2Proof

set_option Elab.async false

variable {O : OtpSt} {Q : List Instr} {s : State}

/-! ### Bits of the register window -/

theorem getLsbD_setBitWord {v : W32} {b c : Nat} (hb : b < 32) : (v ||| BitVec.ofNat 32 (2 ^ b)).getLsbD c = (v.getLsbD c || decide (b = c)) := by
  rw [BitVec.getLsbD_or, BitVec.getLsbD_ofNat, Nat.testBit_two_pow]
  by_cases hbc : b = c
  · subst hbc
    simp [hb]
  · simp [hbc]

/-- A bit that is set reads 1. -/
theorem State.setBit_bit {a b : Nat} (h : Good O Q s) (hb : b < 32) : (s.setBit a b).bit a b = true := by
  unfold State.bit State.setBit
  rw [State.reg_setReg_self h, getLsbD_setBitWord hb]
  simp

/-- Setting a bit clears none. -/
theorem State.setBit_keepsBit {a b r c : Nat} (h : Good O Q s) (hset : s.bit r c = true) : (s.setBit a b).bit r c = true := by
  unfold State.bit at *
  by_cases hra : r = a
  · subst hra
    rw [State.setBit, State.reg_setReg_self h, BitVec.getLsbD_or, hset, Bool.true_or]
  · rw [State.setBit_reg hra, hset]

theorem State.setBitRaise_bit {cls a b i : Nat} (h : Good O Q s) (hb : b < 32) (ha : quietReg a) : (s.setBitRaise cls a b i).bit a b = true := by
  unfold State.setBitRaise
  split
  · assumption
  · rw [State.bit, State.raise_reg ha]
    exact State.setBit_bit h hb

theorem State.setBitRaise_keepsBit {cls a b i r c : Nat} (h : Good O Q s) (hr : quietReg r) (hset : s.bit r c = true) : (s.setBitRaise cls a b i).bit r c = true := by
  unfold State.setBitRaise
  split
  · exact hset
  · rw [State.bit, State.raise_reg hr]
    exact State.setBit_keepsBit h hset

theorem State.each_reg {α : Type} {a : Nat} {xs : List α} {f : α → State → State} (hf : ∀ x t, (f x t).reg a = t.reg a) : (s.each xs f).reg a = s.reg a := by
  induction xs generalizing s with
  | nil => rfl
  | cons x xs ih => exact ih.trans (hf x s)

/-! ### Frames -/

/-- Every part of a set stands in a list. -/
def partsIn (m : Nat) (F : List Part) : Bool := (Part.otp :: Part.pending :: Part.all).all (fun p => !m.testBit p.bit || F.contains p)

/-- A frame given as a set is one given as a list of parts that holds the set. -/
theorem Frm.keepsParts {m : Nat} {t : State} {F : List Part} (h : Frm m s t) (hF : partsIn m F = true) : s.keepsBut F t := by
  refine h.keepsBut (fun p hp => ?_)
  have hall : p ∈ Part.otp :: Part.pending :: Part.all := by cases p <;> decide
  simpa [hp] using List.all_eq_true.mp hF p hall

/-- The register window is one of the parts. -/
theorem Frm.reg {m a : Nat} {t : State} (h : Frm m s t) (hm : m.testBit 4 = false) : t.reg a = s.reg a :=
  congrArg (fun r => Cells.get resetWord r a) (h .regs hm)

/-- The parts a report can change (reportParts): registers, host memory, trace and log. -/
def reportSet : Nat := 1649804312592

/-! ### What a report leaves of the register window -/

/-- A register that the reports of errors of classes 0 to 3 leave alone; unlike quietReg it takes in those behind the log's own, such as ENGINE_RESTART_COUNT. -/
def unreported (a : Nat) : Prop := a ≠ 0x6800 ∧ a ≠ 0x6804 ∧ (a < 0x7C000 ∨ 0x7C030 ≤ a) ∧ a ≠ 0x7E000

theorem State.msix_unreported {v a : Nat} (hv : v < 64) (ha : unreported a) : (s.msix v).reg a = s.reg a := by
  obtain ⟨h0, h1, -⟩ := ha
  have hpba : a ≠ 0x6800 + 4 * (v / 32) := by omega
  unfold State.msix
  dsimp only
  split
  · exact State.clrBit_reg hpba
  · exact State.setBit_reg hpba

theorem State.traceAdd_unreported {k n a : Nat} {d : W32} (ha : unreported a) : (s.traceAdd k n d).reg a = s.reg a := by
  obtain ⟨-, -, -, htrace⟩ : _ ∧ _ ∧ _ ∧ a ≠ Reg.traceStatus := ha
  unfold State.traceAdd State.traceStore
  dsimp only
  split
  · split
    · rfl
    · split
      · split <;> rfl
      · split
        · rfl
        · split <;> exact State.setBit_reg htrace
  · rfl

theorem State.errMsi_unreported {c a : Nat} (ha : unreported a) : (s.errMsi c).reg a = s.reg a := by
  have hv : ∀ w : W32, field w 5 0 < 64 := fun w => Nat.mod_lt _ (by decide)
  unfold State.errMsi
  dsimp only
  split
  · rfl
  · split
    · split
      · rfl
      · exact State.msix_unreported (hv _) ha
    · exact State.msix_unreported (hv _) ha

theorem State.logLost_unreported {a : Nat} (ha : unreported a) : s.logLost.reg a = s.reg a := by
  obtain ⟨-, -, hlog, -⟩ := ha
  unfold State.logLost
  rw [State.setBit_reg (by unfold Reg.errStatus; omega), State.bump_reg (by omega)]

theorem State.formRecord_unreported {r : ErrRec} {a : Nat} (ha : unreported a) : (s.formRecord r).reg a = s.reg a := by
  have heseq : a ≠ 0x7C00C := by
    obtain ⟨-, -, hlog, -⟩ := ha
    omega
  have htraced : ((s.setReg 0x7C00C (s.reg 0x7C00C + 1)).traceAdd 0x80 2 (s.reg 0x7C00C)).reg a = s.reg a :=
    (State.traceAdd_unreported ha).trans (State.reg_setReg_other heseq)
  unfold State.formRecord
  dsimp only
  split
  · exact (State.errMsi_unreported ha).trans htraced
  · split
    · exact ((State.errMsi_unreported ha).trans (State.logLost_unreported ha)).trans htraced
    · exact (State.logLost_unreported ha).trans htraced

theorem State.raiseOne_unreported {e : ErrIn} {n a : Nat} (hcls : e.cls ≤ 3) (ha : unreported a) : (s.raiseOne e n).reg a = s.reg a := by
  obtain ⟨-, -, hlog, -⟩ := id ha
  have heseq : a ≠ 0x7C00C := by omega
  have hcounted : ((s.doIf (decide (1 < n)) (fun t => t.bump 0x7C014)).bumpBy (0x7C020 + 4 * e.cls) n).reg a = s.reg a := by
    rw [State.bumpBy_reg (by omega)]
    unfold State.doIf
    split
    · exact State.bump_reg (by omega)
    · rfl
  rw [← hcounted]
  unfold State.raiseOne
  dsimp only
  split
  · split <;> exact State.formRecord_unreported ha
  · split
    · split
      · rfl
      · rw [State.logLost_unreported ha, State.traceAdd_unreported ha, State.reg_setReg_other heseq]
        rfl
    · split
      · rfl
      · exact State.formRecord_unreported ha

theorem State.foldRaise_reg {a : Nat} {ps : List (ErrIn × Nat)} (hone : ∀ p ∈ ps, ∀ t : State, (t.raiseOne p.1 p.2).reg a = t.reg a) :
    ∀ s : State, (ps.foldl (fun t p => t.raiseOne p.1 p.2) s).reg a = s.reg a := by
  induction ps with
  | nil => exact fun _ => rfl
  | cons p ps ih =>
    intro s
    exact (ih (fun q hq => hone q (List.mem_cons_of_mem p hq)) _).trans (hone p List.mem_cons_self s)

theorem State.record_reg {es : List ErrIn} {a : Nat} (ha : quietReg a) : (s.record es).reg a = s.reg a :=
  State.foldRaise_reg (fun _ _ _ => State.raiseOne_reg ha) s

/-- Merging keeps the classes within a bound. -/
theorem mergeErr_cls {e : ErrIn} {ps : List (ErrIn × Nat)} (he : e.cls ≤ 3) (hps : ∀ p ∈ ps, p.1.cls ≤ 3) : ∀ p ∈ mergeErr e ps, p.1.cls ≤ 3 := by
  induction ps with
  | nil => simpa [mergeErr] using he
  | cons q qs ih =>
    obtain ⟨hq, hqs⟩ := List.forall_mem_cons.mp hps
    unfold mergeErr
    split
    · exact List.forall_mem_cons.mpr ⟨he, hps⟩
    · split
      · exact List.forall_mem_cons.mpr ⟨max_le hq he, hqs⟩
      · exact List.forall_mem_cons.mpr ⟨hq, ih hqs⟩

theorem mergeErrs_cls {es : List ErrIn} (hes : ∀ e ∈ es, e.cls ≤ 3) : ∀ p ∈ mergeErrs es, p.1.cls ≤ 3 := by
  unfold mergeErrs
  exact List.foldlRecOn (motive := fun ps : List (ErrIn × Nat) => ∀ p ∈ ps, p.1.cls ≤ 3) es _ (by simp) (fun ps hps e he => mergeErr_cls (hes e he) hps)

theorem State.record_unreported {es : List ErrIn} {a : Nat} (hes : ∀ e ∈ es, e.cls ≤ 3) (ha : unreported a) : (s.record es).reg a = s.reg a :=
  State.foldRaise_reg (fun p hp _ => State.raiseOne_unreported (mergeErrs_cls hes p hp) ha) s

/-! ### The errors of one cycle (R457) -/

/-- The cycle in hand has raised these errors so far. -/
def State.gathering (s : State) (g : List ErrIn) : State := { s with log := { s.log with gather := some g } }

/-- The records of the errors gathered in a cycle that ends. -/
def State.cycleEnds (s : State) : State := ({ s with log := { s.log with gather := none } } : State).record (s.log.gather.getD [])

theorem State.cycleEnds_changes (s : State) : Frm reportSet s s.cycleEnds := by
  have hm := Sub.refl reportSet
  exact State.record_frm hm (frm_mk (Frm.refl _ s))

theorem State.cycleEnds_reg {a : Nat} (ha : quietReg a) : s.cycleEnds.reg a = s.reg a := State.record_reg ha

/-- A cycle runs among the others of the cycle in hand, or by itself: then its records follow it. -/
theorem State.oneCycle_cases (s : State) (f : State → State) :
    ∃ g, s.oneCycle f = f (s.gathering g) ∨ (g = [] ∧ s.oneCycle f = (f (s.gathering g)).cycleEnds) := by
  unfold State.oneCycle
  split
  next g hg =>
    refine ⟨g, Or.inl ?_⟩
    unfold State.gathering
    rw [← hg]
  next => exact ⟨[], Or.inr ⟨rfl, rfl⟩⟩

/-- An error raised while a cycle gathers its errors waits among them. -/
theorem State.raise_gathering {e : ErrIn} {g : List ErrIn} (h : s.log.gather = some g) :
    ∃ e' : ErrIn, e'.cls = e.cls ∧ s.raise e = s.gathering (g ++ [e']) :=
  ⟨{ e with injected := e.injected || s.injectedNow }, rfl, by simp only [State.raise, State.raiseAll, h, State.gathering, List.map]⟩

end Sys2Proof.Machine
end

section
/-! PROOFS. The engine stops, another vault image runs, and a TRIAL falls back (R318, R372, R434, R436). -/

namespace Sys2Proof.Machine

open Sys2Proof

set_option Elab.async false

variable {O : OtpSt} {Q : List Instr} {s : State}

/-! ### What the engine's stop leaves alone -/

theorem State.engineStop_boot (s : State) : s.engineStop.boot = { s.boot with engine := .absent } :=
  congrArg (fun b : BootSt => { b with engine := .absent }) (s.unstage_changes false .boot (by decide))

/-- A discarded commit, the engine's state: nothing else. -/
theorem State.engineStop_changes (s : State) : Frm 4831838216 s s.engineStop := State.engineStop_frm (Sub.refl _) (Frm.refl _ s)

/-- Refusals count at 0x1020 and above (R413). -/
theorem State.countRefusals_reg {rs : List Nat} {a : Nat} (ha : a < 0x1000) : (s.countRefusals rs).reg a = s.reg a := by
  have hstatus : a ≠ Reg.pwrStatus := Nat.ne_of_lt ha
  unfold State.countRefusals
  split
  · rfl
  · exact (State.setBit_reg hstatus).trans (State.each_reg (fun r t => State.bump_reg (by omega)))

theorem State.refuserNote_reg {a : Nat} (ha : a < 0x1000) : s.refuserNote.reg a = s.reg a := by
  have hdoze : s.dozeOnset.reg a = s.reg a := State.countRefusals_reg ha
  unfold State.refuserNote
  dsimp only
  split <;> exact hdoze

theorem State.enginePause_boot (s : State) : s.enginePause.boot = { s.boot with engine := .absent } :=
  (State.refuserNote_frm (m := 68719476752) (Sub.refl _) (Frm.refl _ _) .boot (by decide)).trans s.engineStop_boot

theorem State.enginePause_flash (s : State) : s.enginePause.flash = { s.flash with pauseUp := some s.engineStop.tm.up } := by
  refine (State.refuserNote_frm (m := 68719476752) (Sub.refl _) (Frm.refl _ _) .flash (by decide)).trans ?_
  exact congrArg (fun f : FlashSt => { f with pauseUp := some s.engineStop.tm.up }) (s.engineStop_changes .flash (by decide))

theorem State.enginePause_reg {a : Nat} (ha : a < 0x1000) : s.enginePause.reg a = s.reg a :=
  (State.refuserNote_reg ha).trans (s.engineStop_changes.reg (by decide))

/-! ### Another vault image -/

theorem State.raiseBare_reg {cls inst a : Nat} {engine : Bool} (ha : quietReg a) : (s.raiseBare cls engine inst).reg a = s.reg a :=
  State.raise_reg (s := { s with freeCtr := s.freeCtr + 1 }) ha

theorem State.vaultStart_reg {ok : Bool} {kind a : Nat} (ha : quietReg a) : (s.vaultStart ok kind).reg a = s.reg a := by
  have hreload : ∀ t : State, t.ownedReload.reg a = t.reg a := fun t =>
    (State.ownedReload_frm (m := 14336) (Sub.refl _) (Frm.refl _ t)).reg (by decide)
  have hrole : ∀ t : State, (t.excRole []).reg a = t.reg a := fun t =>
    (State.excRole_frm (m := 6144) (Sub.refl _) (Frm.refl _ t)).reg (by decide)
  have haudit : ∀ (t : State) (p : Option (List W32)), (t.audit kind p).reg a = t.reg a := fun t _ =>
    (State.audit_frm (m := 17716740096) (Sub.refl _) (Frm.refl _ t)).reg (by decide)
  unfold State.vaultStart
  dsimp only
  split
  · rfl
  · split
    · refine (haudit _ _).trans ?_
      split
      · exact hreload _
      · exact hrole _
    · exact (State.raiseBare_reg ha).trans (hreload _)

theorem State.vaultImage_reg {v : W32 × W32 × List Byte} {a : Nat} (ha : quietReg a) : (s.vaultImage v).reg a = s.reg a := by
  unfold State.vaultImage State.vaultRollback
  dsimp only
  refine (State.vaultStart_reg ha).trans ?_
  split <;> rfl

/-! ### A TRIAL falls back (R436) -/

/-- The engine pauses and the slots are swapped: the first half of a fall back. -/
def State.slotsBack (s : State) : State :=
  ({ s.enginePause with flash := { s.enginePause.flash.setSlot s.flash.runningB .rejected with runningB := !s.flash.runningB, oldVault := none } } : State).refuserNote

/-- The vault image before the TRIAL comes back, when there was another. -/
def State.vaultBack (s : State) : State :=
  match s.enginePause.flash.oldVault with
  | some v => s.slotsBack.vaultImage v
  | none => s.slotsBack

theorem State.fallBack_eq (s : State) :
    s.fallBack = ((s.vaultBack.imageRuns).setBit Reg.fwStatus 15).raise (errAt 2 Reg.fwStatus 15 0xFFFF) := rfl

theorem State.vaultBack_changes (s : State) : Frm 10501731923984 s.slotsBack s.vaultBack := by
  unfold State.vaultBack
  split
  · exact State.vaultImage_frm (Sub.refl _) (Frm.refl _ _)
  · exact Frm.refl _ _

theorem State.vaultBack_reg {a : Nat} (ha : quietReg a) : s.vaultBack.reg a = s.slotsBack.reg a := by
  unfold State.vaultBack
  split
  · exact State.vaultImage_reg ha
  · rfl

theorem State.slotsBack_changes (s : State) :
    Frm 68719476752 { s.enginePause with flash := { s.enginePause.flash.setSlot s.flash.runningB .rejected with runningB := !s.flash.runningB, oldVault := none } } s.slotsBack :=
  State.refuserNote_frm (Sub.refl _) (Frm.refl _ _)

theorem State.slotsBack_reg {a : Nat} (ha : a < 0x1000) : s.slotsBack.reg a = s.enginePause.reg a := by
  unfold State.slotsBack
  rw [State.refuserNote_reg ha]
  rfl

theorem State.vaultBack_good (h : Good O Q s) : Good O Q s.vaultBack := by
  have hslots : Good O Q s.slotsBack := State.refuserNote_good (good_mk (State.enginePause_good h) rfl rfl rfl rfl)
  unfold State.vaultBack
  split
  · exact State.vaultImage_good hslots
  · exact hslots

/-- The last steps of a fall back: registers, the stored format and the report. -/
theorem State.fallBack_changes (s : State) : Frm 1924682219536 s.vaultBack s.fallBack := by
  rw [State.fallBack_eq]
  have hm := Sub.refl 1924682219536
  exact State.raise_frm (hm.le (by decide)) (State.setBit_frm (hm.le (by decide)) (State.imageRuns_frm (hm.le (by decide)) (Frm.refl _ _)))

theorem State.fallBack_boot (s : State) : s.fallBack.boot = { s.boot with engine := .absent } :=
  ((s.fallBack_changes .boot (by decide)).trans (s.vaultBack_changes .boot (by decide))).trans ((s.slotsBack_changes .boot (by decide)).trans s.enginePause_boot)

theorem FlashSt.slot_setSlot (f : FlashSt) (b : Bool) (m : SlotMode) : (f.setSlot b m).slot b = m := by cases b <;> rfl

/-- The slot that ran in TRIAL is REJECTED and the other one runs. -/
theorem State.fallBack_flash (s : State) : s.fallBack.flash.slot s.flash.runningB = .rejected ∧ s.fallBack.flash.runningB = !s.flash.runningB := by
  have hruns : s.fallBack.flash = s.vaultBack.imageRuns.flash := by
    have hm := Sub.refl reportSet
    rw [State.fallBack_eq]
    exact State.raise_frm hm (State.setBit_frm (hm.le (by decide)) (Frm.refl _ _)) .flash (by decide)
  have hback : s.vaultBack.flash = { s.enginePause.flash.setSlot s.flash.runningB .rejected with runningB := !s.flash.runningB, oldVault := none } :=
    (s.vaultBack_changes .flash (by decide)).trans (s.slotsBack_changes .flash (by decide))
  rw [hruns]
  unfold State.imageRuns State.setReg
  rw [hback]
  exact ⟨FlashSt.slot_setSlot _ _ _, rfl⟩

theorem State.imageRuns_reg {a : Nat} (ha : a ≠ 0x18) : s.imageRuns.reg a = s.reg a := State.reg_setReg_other ha

/-- FW_STATUS.TRIAL_REJECTED is set. -/
theorem State.fallBack_bit (h : Good O Q s) : s.fallBack.bit Reg.fwStatus 15 = true := by
  have hquiet : quietReg Reg.fwStatus := Or.inr (by decide)
  rw [State.fallBack_eq, State.bit, State.raise_reg hquiet]
  exact State.setBit_bit (State.imageRuns_good (State.vaultBack_good h)) (by decide)

theorem State.fallBack_bootStatus (s : State) : s.fallBack.reg Reg.bootStatus = s.reg Reg.bootStatus := by
  have hquiet : quietReg Reg.bootStatus := Or.inl (by decide)
  rw [State.fallBack_eq, State.raise_reg hquiet, State.setBit_reg (by decide), State.imageRuns_reg (by decide), State.vaultBack_reg hquiet]
  exact (State.slotsBack_reg (by decide)).trans (State.enginePause_reg (by decide))

end Sys2Proof.Machine
end

section
/-! PROOFS. The engine's watchdog and its return (R16, R133, R434, R436, R465). -/

namespace Sys2Proof.Machine

open Sys2Proof

set_option Elab.async false

variable {O : OtpSt} {Q : List Instr} {s : State}

/-! ### The engine restarts (R465) -/

/-- The engine stops, and the restart is counted among those of the last 60 s. -/
def State.restartCounted (s : State) : State :=
  ({ s.engineStop with boot := { s.engineStop.boot with restarts := s.boot.restarts.filter (fun u => decide (s.tm.up < u + 60000000000)) ++ [s.tm.up] } } : State).bump 0x7C080

/-- ENGINE_RESTART and, from the fourth restart on, ENGINE_BACKOFF are raised. -/
def State.restartRaised (s : State) : State :=
  let n := s.restartCounted.boot.restarts.length
  let t := s.restartCounted.raise { errCode 1 0x0001 n with recovers := true }
  if 4 ≤ n then t.raise { errCode 2 0x0002 0 with recovers := true } else t

/-- All that a restart does within its core clock cycle. -/
def State.restartCycle (s : State) : State := if s.restartRaised.flash.trial then s.restartRaised.fallBack else s.restartRaised

theorem State.engineRestart_eq (s : State) : s.engineRestart = s.oneCycle State.restartCycle := rfl

theorem State.restartCounted_boot (s : State) : s.restartCounted.boot.engine = .absent ∧ s.restartCounted.boot.stage = s.boot.stage :=
  ⟨rfl, (congrArg BootSt.stage s.engineStop_boot :)⟩

theorem State.restartCounted_changes (s : State) : Frm 4831838232 s s.restartCounted := by
  have hm := Sub.refl 4831838232
  exact State.bump_frm (hm.le (by decide)) (frm_mk (State.engineStop_frm (hm.le (by decide)) (Frm.refl _ s)))

theorem State.restartCounted_reg {a : Nat} (ha : a ≠ 0x7C080) : s.restartCounted.reg a = s.reg a :=
  (State.bump_reg ha).trans (s.engineStop_changes.reg (by decide))

theorem State.restartCounted_good (h : Good O Q s) : Good O Q s.restartCounted :=
  State.bump_good (good_mk (State.engineStop_good h) rfl rfl rfl rfl)

/-- ENGINE_RESTART_COUNT goes up by one. -/
theorem State.restartCounted_count (h : Good O Q s) : s.restartCounted.reg 0x7C080 = (s.reg 0x7C080).satAdd 1 := by
  refine (State.reg_setReg_self (good_mk (State.engineStop_good h) rfl rfl rfl rfl)).trans ?_
  exact congrArg (fun v : W32 => v.satAdd 1) (s.engineStop_changes.reg (by decide))

theorem State.restartRaised_changes (s : State) : Frm reportSet s.restartCounted s.restartRaised := by
  have hm := Sub.refl reportSet
  unfold State.restartRaised
  exact frm_ite (State.raise_frm hm (State.raise_frm hm (Frm.refl _ _))) (State.raise_frm hm (Frm.refl _ _))

theorem State.restartRaised_reg {a : Nat} (ha : quietReg a) : s.restartRaised.reg a = s.restartCounted.reg a := by
  unfold State.restartRaised
  dsimp only
  split
  · exact (State.raise_reg ha).trans (State.raise_reg ha)
  · exact State.raise_reg ha

theorem State.restartRaised_good (h : Good O Q s) : Good O Q s.restartRaised := by
  unfold State.restartRaised
  exact good_ite (State.raise_good (State.raise_good (State.restartCounted_good h))) (State.raise_good (State.restartCounted_good h))

/-- In a cycle that gathers its errors the reports of a restart wait for its end. -/
theorem State.restartRaised_gathering {g : List ErrIn} (h : s.log.gather = some g) :
    ∃ es : List ErrIn, (∀ e ∈ es, e.cls ≤ 3) ∧ s.restartRaised = s.restartCounted.gathering (g ++ es) := by
  have hlog : s.restartCounted.log.gather = some g := (congrArg LogSt.gather (s.restartCounted_changes .log (by decide))).trans h
  obtain ⟨e, hcls, hraise⟩ := State.raise_gathering (e := { errCode 1 0x0001 s.restartCounted.boot.restarts.length with recovers := true }) hlog
  unfold State.restartRaised
  dsimp only
  rw [hraise]
  split
  · obtain ⟨e', hcls', hraise'⟩ := State.raise_gathering (s := s.restartCounted.gathering (g ++ [e])) (e := { errCode 2 0x0002 0 with recovers := true }) rfl
    refine ⟨[e, e'], ?_, ?_⟩
    · simp [hcls, hcls', errCode]
    · rw [hraise', List.append_assoc]
      rfl
  · exact ⟨[e], by simp [hcls, errCode], rfl⟩

theorem State.restartRaised_flash (s : State) : s.restartRaised.flash = s.flash :=
  (s.restartRaised_changes .flash (by decide)).trans (s.restartCounted_changes .flash (by decide))

/-- Without a TRIAL the reports are all. -/
theorem State.restartCycle_of_noTrial (h : s.flash.trial = false) : s.restartCycle = s.restartRaised := by
  simp [State.restartCycle, State.restartRaised_flash, h]

theorem State.restartCycle_of_trial (h : s.flash.trial = true) : s.restartCycle = s.restartRaised.fallBack := by
  simp [State.restartCycle, State.restartRaised_flash, h]

theorem State.restartRaised_boot (s : State) : s.restartRaised.boot = s.restartCounted.boot := s.restartRaised_changes .boot (by decide)

theorem State.restartCycle_boot (s : State) : s.restartCycle.boot.engine = .absent ∧ s.restartCycle.boot.stage = s.boot.stage := by
  unfold State.restartCycle
  split
  · rw [State.fallBack_boot, State.restartRaised_boot]
    exact ⟨rfl, s.restartCounted_boot.2⟩
  · rw [State.restartRaised_boot]
    exact s.restartCounted_boot

theorem State.restartCycle_bootStatus (s : State) : s.restartCycle.reg Reg.bootStatus = s.reg Reg.bootStatus := by
  have hraised : s.restartRaised.reg Reg.bootStatus = s.reg Reg.bootStatus :=
    (State.restartRaised_reg (Or.inl (by decide))).trans (State.restartCounted_reg (by decide))
  unfold State.restartCycle
  split
  · exact (State.fallBack_bootStatus _).trans hraised
  · exact hraised

/-- A restart is its cycle, with the reports that follow. -/
theorem State.engineRestart_reports (s : State) :
    ∃ g, Frm reportSet (s.gathering g).restartCycle s.engineRestart ∧ ∀ a, quietReg a → s.engineRestart.reg a = (s.gathering g).restartCycle.reg a := by
  obtain ⟨g, h | ⟨-, h⟩⟩ := s.oneCycle_cases State.restartCycle
  · exact ⟨g, by rw [State.engineRestart_eq, h]; exact Frm.refl _ _, fun a _ => by rw [State.engineRestart_eq, h]⟩
  · refine ⟨g, ?_, fun a ha => ?_⟩
    · rw [State.engineRestart_eq, h]
      exact State.cycleEnds_changes _
    · rw [State.engineRestart_eq, h]
      exact State.cycleEnds_reg ha

theorem State.engineRestart_boot (s : State) : s.engineRestart.boot.engine = .absent ∧ s.engineRestart.boot.stage = s.boot.stage := by
  obtain ⟨g, hchanges, -⟩ := s.engineRestart_reports
  have hboot : s.engineRestart.boot = (s.gathering g).restartCycle.boot := hchanges .boot (by decide)
  rw [hboot]
  exact (s.gathering g).restartCycle_boot

theorem State.engineRestart_bootStatus (s : State) : s.engineRestart.reg Reg.bootStatus = s.reg Reg.bootStatus := by
  obtain ⟨g, -, hreg⟩ := s.engineRestart_reports
  rw [hreg _ (Or.inl (by decide))]
  exact (s.gathering g).restartCycle_bootStatus

/-- Without a TRIAL a restart leaves flash and Svetron alone. -/
theorem State.engineRestart_noTrial (h : s.flash.trial = false) : s.engineRestart.flash = s.flash ∧ s.engineRestart.sv = s.sv := by
  obtain ⟨g, hchanges, -⟩ := s.engineRestart_reports
  rw [State.restartCycle_of_noTrial (s := s.gathering g) h] at hchanges
  have hraised := (s.gathering g).restartRaised_changes.trans hchanges
  exact ⟨(hraised .flash (by decide)).trans ((s.gathering g).restartCounted_changes .flash (by decide)),
    (hraised .sv (by decide)).trans ((s.gathering g).restartCounted_changes .sv (by decide))⟩

theorem State.gathering_good {g : List ErrIn} (h : Good O Q s) : Good O Q (s.gathering g) := good_mk h rfl rfl rfl rfl

/-- Without a TRIAL the count of restarts goes up by one: no report reaches it. -/
theorem State.engineRestart_count (h : Good O Q s) (htrial : s.flash.trial = false) : s.engineRestart.reg 0x7C080 = (s.reg 0x7C080).satAdd 1 := by
  obtain ⟨g, hcycle⟩ := s.oneCycle_cases State.restartCycle
  obtain ⟨es, hcls, hraised⟩ := State.restartRaised_gathering (s := s.gathering g) rfl
  have hcount : ((s.gathering g).restartCounted.gathering (g ++ es)).reg 0x7C080 = (s.reg 0x7C080).satAdd 1 := State.restartCounted_count (State.gathering_good h)
  rw [State.restartCycle_of_noTrial (s := s.gathering g) htrial, hraised] at hcycle
  rw [State.engineRestart_eq]
  obtain hinner | ⟨rfl, hown⟩ := hcycle
  · rw [hinner]
    exact hcount
  · rw [hown]
    exact (State.record_unreported hcls ⟨by decide, by decide, Or.inr (by decide), by decide⟩).trans hcount

/-- A restart in TRIAL rejects the slot that ran, and the other one runs (R436). -/
theorem State.engineRestart_trial (h : Good O Q s) (htrial : s.flash.trial = true) :
    s.engineRestart.flash.slot s.flash.runningB = .rejected ∧ s.engineRestart.flash.runningB = (!s.flash.runningB) ∧ s.engineRestart.bit Reg.fwStatus 15 = true := by
  obtain ⟨g, hchanges, hreg⟩ := s.engineRestart_reports
  have hcycle := State.restartCycle_of_trial (s := s.gathering g) htrial
  have hflash : s.engineRestart.flash = (s.gathering g).restartRaised.fallBack.flash := (hchanges .flash (by decide)).trans (congrArg State.flash hcycle)
  have hback := (s.gathering g).restartRaised.fallBack_flash
  rw [State.restartRaised_flash] at hback
  refine ⟨hflash ▸ hback.1, hflash ▸ hback.2, ?_⟩
  rw [State.bit, hreg _ (Or.inr (by decide)), hcycle]
  exact State.fallBack_bit (State.restartRaised_good (State.gathering_good h))

/-! ### The engine returns (R16, R133, R434) -/

/-- The engine runs again: its start-up self-test, its own trace entry and mains tracking. -/
def State.engineBack (s : State) : State :=
  (((({ s.reachUp s.returnUp with boot := { (s.reachUp s.returnUp).boot with engine := .up } } : State).endHandling 0xFFFFF 0xFFFF).selfTest).traceEngine).mainsReturn

/-- A pause of an activation ends: its length is read from here on, and the descriptor that asked for it retires. -/
def State.pauseEnds (s : State) : State :=
  match s.flash.pauseUp with
  | none => s
  | some u =>
    let us := (s.tm.up - u) / 1000
    ((({ s with flash := { s.flash with pauseUp := none } } : State).setReg 0x70020 (BitVec.ofNat 32 us)).activated us).refuserNote

theorem execEngineReturn_runs (hengine : s.boot.engine ≠ .up) (hrecovery : s.boot.recovery = false) (hstage : 9 ≤ s.boot.stage) :
    execEngineReturn s = .next s.engineBack.pauseEnds := by
  have hrun : ¬ (s.boot.engine = .up ∨ s.boot.recovery = true ∨ s.boot.stage < 9) := by
    simp [hengine, hrecovery, hstage]
  unfold execEngineReturn State.pauseEnds
  rw [if_neg hrun]
  dsimp only
  split
  next hpause =>
    rw [show s.engineBack.flash.pauseUp = none from hpause]
    rfl
  next u hpause =>
    rw [show s.engineBack.flash.pauseUp = some u from hpause]
    rfl

/-- The return traces, ends the tracking of mains and reports it, after the engine's own state is set. -/
theorem State.engineBack_changes (s : State) :
    Frm 10445897351184 (({ s.reachUp s.returnUp with boot := { (s.reachUp s.returnUp).boot with engine := .up } } : State).endHandling 0xFFFFF 0xFFFF).selfTest s.engineBack := by
  have hm := Sub.refl 10445897351184
  exact State.mainsReturn_frm (hm.le (by decide)) (State.traceEngine_frm (hm.le (by decide)) (Frm.refl _ _))

theorem State.reachUp_changes (s : State) (u : Nat) : Frm 1 s (s.reachUp u) := State.reachUp_frm (Sub.refl _) (Frm.refl _ s)

theorem State.engineBack_boot (s : State) : s.engineBack.boot = { s.boot with engine := .up } :=
  (s.engineBack_changes .boot (by decide)).trans (congrArg (fun b : BootSt => { b with engine := .up }) (s.reachUp_changes _ .boot (by decide)))

theorem State.engineBack_tm (s : State) : s.engineBack.tm = (s.reachUp s.returnUp).tm := s.engineBack_changes .tm (by decide)

theorem State.engineBack_flash (s : State) : s.engineBack.flash = { s.flash with selfTest := s.freeW.getLsbD 0 } := by
  refine (s.engineBack_changes .flash (by decide)).trans ?_
  have hflash : (s.reachUp s.returnUp).flash = s.flash := s.reachUp_changes _ .flash (by decide)
  have hfree : (s.reachUp s.returnUp).freeCtr = s.freeCtr := s.reachUp_changes _ .freeCtr (by decide)
  unfold State.selfTest State.freeNext State.endHandling State.freeW
  rw [hflash, hfree]

theorem State.mainsMode_mode (s : State) (m : MainsMode) : (s.mainsMode m).mains.mode = m := by
  have hraise : ∀ (t : State) (e : ErrIn), (t.raise e).mains = t.mains := fun t _ =>
    State.raise_frm (m := reportSet) (Sub.refl _) (Frm.refl _ t) .mains (by decide)
  unfold State.mainsMode State.endHandling
  dsimp only
  split
  · assumption
  · split
    · rw [hraise]
      rfl
    · rfl

/-- Mains tracking goes on from HOLDOVER, or stays OFF (R133). -/
theorem State.mainsReturn_mode (s : State) : s.mainsReturn.mains.mode = if s.mains.mode = .off then .off else .holdover := by
  have hmode : (s.clrBit Reg.mainsStatus 3).mains.mode = s.mains.mode := rfl
  unfold State.mainsReturn
  dsimp only
  rw [hmode]
  split
  next hrest =>
    split
    · assumption
    · exact hrest.resolve_left ‹_›
  next htracks =>
    rw [State.mainsMode_mode, if_neg (fun hoff => htracks (Or.inl hoff))]

theorem State.engineBack_mains (s : State) : s.engineBack.mains.mode = if s.mains.mode = .off then .off else .holdover := by
  refine (State.mainsReturn_mode _).trans ?_
  have hm := Sub.refl 9345848836112
  have hreach : (s.reachUp s.returnUp).mains = s.mains := s.reachUp_changes _ .mains (by decide)
  rw [State.traceEngine_frm hm (Frm.refl _ _) .mains (by decide)]
  unfold State.selfTest State.freeNext State.endHandling
  rw [hreach]

theorem State.pauseEnds_changes (s : State) : Frm 484794466320 s s.pauseEnds := by
  have hm := Sub.refl 484794466320
  unfold State.pauseEnds
  split
  · exact Frm.refl _ s
  · exact State.refuserNote_frm (hm.le (by decide)) (State.activated_frm (hm.le (by decide)) (State.setReg_frm (hm.le (by decide)) (frm_mk (Frm.refl _ s))))

theorem State.pauseEnds_flash (s : State) : s.pauseEnds.flash = { s.flash with pauseUp := none } := by
  unfold State.pauseEnds
  split
  next hpause => rw [← hpause]
  next =>
    have hm := Sub.refl 209916559376
    exact State.refuserNote_frm (hm.le (by decide)) (State.activated_frm (hm.le (by decide)) (State.setReg_frm (hm.le (by decide)) (Frm.refl _ _))) .flash (by decide)

/-! ### The engine's watchdog and return -/

/-- Settles O57: the restart's facts are those of its cycle, which its reports leave alone, and the return is engineBack and the end of a pause. -/
theorem engineRestartsAndReturns : Obligations.EngineRestartsAndReturns := by
  intro s hwf
  refine ⟨?restarts, ?absent, ?returns, ?noReturn, ?backoff, ?atOnce⟩
  case restarts =>
    intro hup
    refine ⟨s.engineRestart, congrArg Host.Outcome.next (if_pos hup), s.engineRestart_boot.1, s.engineRestart_boot.2, fun htrial => ?_, fun htrial => ?_, ?_⟩
    · exact ⟨(State.engineRestart_noTrial htrial).1, (State.engineRestart_noTrial htrial).2, State.engineRestart_count (good_of_wf hwf) htrial⟩
    · exact State.engineRestart_trial (good_of_wf hwf) htrial
    · exact (State.engineRestart_frm (Sub.refl _) (Frm.refl _ s)).keepsParts (by decide)
  case absent => exact fun hup => congrArg Host.Outcome.next (if_neg hup)
  case returns =>
    intro hengine hrecovery hstage
    have hpause := s.engineBack.pauseEnds_changes
    have hruns : exec .engineReturn s = .next s.engineBack.pauseEnds := execEngineReturn_runs hengine hrecovery hstage
    have hmains : s.engineBack.pauseEnds.mains.mode = if s.mains.mode = .off then .off else .holdover :=
      (congrArg MainsSt.mode (hpause .mains (by decide))).trans s.engineBack_mains
    refine ⟨s.engineBack.pauseEnds, hruns, (hpause .boot (by decide)).trans s.engineBack_boot, (hpause .tm (by decide)).trans s.engineBack_tm, ?_, fun hoff => ?_, fun hoff => ?_, ?_⟩
    · rw [State.pauseEnds_flash, State.engineBack_flash]
    · rw [hmains, if_pos hoff]
    · rw [hmains, if_neg hoff]
    · obtain ⟨t, ht, hframe⟩ := execEngineReturn_frm (Sub.refl _) (Frm.refl _ s)
      obtain rfl : t = s.engineBack.pauseEnds := Host.Outcome.next.inj (ht.symm.trans hruns)
      exact hframe.keepsParts (by decide)
  case noReturn => exact fun h => if_pos h
  case backoff => exact fun h => if_pos h
  case atOnce => exact fun h => if_neg (by omega)

end Sys2Proof.Machine
end

section
/-! PROOFS. What BAD and READY leave of the reason for BAD (R321, R348, R448, R451). -/

namespace Sys2Proof.Machine

open Sys2Proof

set_option Elab.async false

variable {s t u : State}

/-- Every part but the configuration. -/
def allButCfg : Nat := 35180077121535

/-- BAD and its reason are the same in both states. -/
def KeepsBad (s t : State) : Prop := t.cfg.bad = s.cfg.bad ∧ t.cfg.badCause = s.cfg.badCause

theorem KeepsBad.refl (s : State) : KeepsBad s s := ⟨rfl, rfl⟩

theorem KeepsBad.trans (h : KeepsBad s t) (g : KeepsBad t u) : KeepsBad s u := ⟨g.1.trans h.1, g.2.trans h.2⟩

/-- What leaves the configuration alone, whatever else it changes, leaves BAD alone. -/
theorem keepsBad_of_frm (h : Frm allButCfg s t) : KeepsBad s t := by
  have hcfg : t.cfg = s.cfg := h .cfg (by decide)
  rw [KeepsBad, hcfg]
  exact ⟨rfl, rfl⟩

theorem State.doIf_keepsBad {c : Bool} {f : State → State} (h : KeepsBad s t) (hf : ∀ v, KeepsBad v (f v)) : KeepsBad s (t.doIf c f) := by
  unfold State.doIf
  split
  · exact h.trans (hf t)
  · exact h

theorem State.each_keepsBad {α : Type} {xs : List α} {f : α → State → State} (hf : ∀ x v, KeepsBad v (f x v)) : ∀ s : State, KeepsBad s (s.each xs f) := by
  induction xs with
  | nil => exact KeepsBad.refl
  | cons x xs ih => exact fun s => (hf x s).trans (ih (f x s))

/-! ### Roles and reasons -/

theorem State.giveUpCommit_keepsBad (s : State) : KeepsBad s s.giveUpCommit := by
  have hm := Sub.refl allButCfg
  unfold State.giveUpCommit
  dsimp only
  split
  · refine KeepsBad.trans ?_ (keepsBad_of_frm (State.retireBad_frm (hm.le (by decide)) (Frm.refl _ _)))
    exact ⟨rfl, rfl⟩
  · exact ⟨rfl, rfl⟩

theorem State.setRole_keepsBad (s : State) (r : Role) (newlyOn : List Nat) : KeepsBad s (s.setRole r newlyOn) := by
  have hm := Sub.refl allButCfg
  unfold State.setRole
  refine State.doIf_keepsBad (keepsBad_of_frm ?_) State.giveUpCommit_keepsBad
  refine State.excRole_frm (hm.le (by decide)) (State.doIf_frm ?_ (State.setBit_frm (hm.le (by decide)) ?_))
  all_goals exact frm_mk (State.doIf_frm (Frm.refl _ s) (State.each_frm (Frm.refl _ s) (fun _ _ => State.updExc_frm (hm.le (by decide)))))

theorem State.setReasons_keepsBad (s : State) (r : BitVec 16) : KeepsBad s (s.setReasons r) := by
  have hm := Sub.refl allButCfg
  unfold State.setReasons
  split
  · exact KeepsBad.refl s
  · refine KeepsBad.trans ?_ (keepsBad_of_frm (State.sendHealth_frm (hm.le (by decide)) (Frm.refl _ _)))
    dsimp only
    split
    · exact KeepsBad.trans (State.setRole_keepsBad { s with twin := { s.twin with reasons := r } } _ _) (keepsBad_of_frm (State.raise_frm (hm.le (by decide)) (Frm.refl _ _)))
    · split
      · exact KeepsBad.trans (State.setRole_keepsBad { s with twin := { s.twin with reasons := r } } _ _)
          (keepsBad_of_frm (State.raiseBare_frm (hm.le (by decide)) (State.endHandling_frm (hm.le (by decide)) (Frm.refl _ _))))
      · exact ⟨rfl, rfl⟩

/-! ### A port leaves service or starts -/

theorem State.flipAlone_keepsBad (s : State) : KeepsBad s s.flipAlone := by
  unfold State.flipAlone
  dsimp only
  split <;> exact ⟨rfl, rfl⟩

theorem State.twinDown_keepsBad (s : State) : KeepsBad s s.twinDown := by
  have hm := Sub.refl allButCfg
  have hlink : ∀ v : State, KeepsBad v (if v.isStandby then v.addReason [Reason.link] else v) := by
    intro v
    split
    · exact State.setReasons_keepsBad v _
    · exact KeepsBad.refl v
  have hdrop : KeepsBad s s.flipAlone.dropAwaits := (State.flipAlone_keepsBad s).trans (keepsBad_of_frm (State.dropAwaits_frm (hm.le (by decide)) (Frm.refl _ _)))
  unfold State.twinDown
  dsimp only
  refine KeepsBad.trans ?_ (hlink _)
  split
  · exact hdrop.trans (keepsBad_of_frm (State.retireBad_frm (hm.le (by decide)) (frm_mk (Frm.refl _ _))))
  · exact hdrop

theorem State.linkExit_keepsBad (s : State) (p cause : Nat) : KeepsBad s (s.linkExit p cause) := by
  have hm := Sub.refl allButCfg
  have htwin : ∀ v : State, KeepsBad v (if p = 2 then v.twinDown else v) := by
    intro v
    split
    · exact v.twinDown_keepsBad
    · exact KeepsBad.refl v
  unfold State.linkExit
  split
  · exact KeepsBad.refl s
  · refine KeepsBad.trans (keepsBad_of_frm ?_) (htwin _)
    exact State.raise_frm (hm.le (by decide)) (State.setBit_frm (hm.le (by decide)) (State.bump_frm (hm.le (by decide)) (State.bumpBy_frm (hm.le (by decide))
      (State.updFfPort_frm (hm.le (by decide)) (State.setLink_frm (hm.le (by decide)) (State.cutFrame_frm (hm.le (by decide)) (Frm.refl _ s)))))))

theorem State.linkDisable_keepsBad (s : State) (p : Nat) : KeepsBad s (s.linkDisable p) := by
  have hm := Sub.refl allButCfg
  refine (s.linkExit_keepsBad p 0).trans (keepsBad_of_frm ?_)
  exact State.linkMode_frm (hm.le (by decide)) (State.bumpBy_frm (hm.le (by decide)) (State.setLink_frm (hm.le (by decide)) (Frm.refl _ _)))

theorem State.linkDetect_keepsBad (s : State) (p : Nat) : KeepsBad s (s.linkDetect p) := by
  have hm := Sub.refl allButCfg
  refine (s.linkExit_keepsBad p 0).trans (keepsBad_of_frm ?_)
  exact State.linkMode_frm (hm.le (by decide)) (State.updLink_frm (hm.le (by decide)) (State.lanesStart_frm (hm.le (by decide)) (Frm.refl _ _)))

theorem State.linkStart_keepsBad (p : Nat) (s : State) : KeepsBad s (s.linkStart p) := by
  have hm := Sub.refl allButCfg
  unfold State.linkStart
  split
  · exact s.linkDisable_keepsBad p
  · split
    · refine (s.linkExit_keepsBad p 0).trans (keepsBad_of_frm ?_)
      exact State.linkMode_frm (hm.le (by decide)) (State.updLink_frm (hm.le (by decide)) (State.freeNext_frm (hm.le (by decide)) (State.testKeep_frm (hm.le (by decide)) (Frm.refl _ _))))
    · exact s.linkDetect_keepsBad p

/-! ### READY and BAD -/

/-- READY as such: its time and the length of start-up (R449, R452). -/
def State.readyReached (s : State) : State :=
  ({ s with boot := { s.boot with stage := 10, readyAt := s.tm.up } } : State).setReg 0x44 (BitVec.ofNat 32 (min s.boot.timeUs 0xFFFFFFFF))

/-- The role a hub takes at READY (R451). -/
def State.readyRole (s : State) : State :=
  if s.twinned then s.setRole .unresolved [] else ({ s with twin := { s.twin with reasons := 0 } } : State).setRole .solo []

/-- The exit from HIBERNATE ends at READY (R411). -/
def State.readyRun (s : State) : State :=
  if s.boot.fromHib then (({ s with boot := { s.boot with fromHib := false }, pwr := { s.pwr with wakeTimer := none } } : State).powerMode .run).traceMark 0xF2 else s

theorem State.ready_eq (s : State) : s.ready = ((s.readyReached.readyRole.each [0, 1, 2] (fun p t => t.linkStart p)).readyRun).recoverySweep := by
  unfold State.ready
  extract_lets _ _ sAt _ sRole sLinks _ _ sRun
  have hrole : sRole = s.readyReached.readyRole := rfl
  have hlinks : sLinks = s.readyReached.readyRole.each [0, 1, 2] (fun p t => t.linkStart p) := congrArg (fun v : State => v.each [0, 1, 2] (fun p t => t.linkStart p)) hrole
  have hrun : sRun = sLinks.readyRun := rfl
  rw [hrun, hlinks]

theorem State.readyRole_keepsBad (s : State) : KeepsBad s s.readyRole := by
  unfold State.readyRole
  split
  · exact s.setRole_keepsBad _ _
  · exact State.setRole_keepsBad { s with twin := { s.twin with reasons := 0 } } _ _

theorem State.readyRun_keepsBad (s : State) : KeepsBad s s.readyRun := by
  have hm := Sub.refl allButCfg
  unfold State.readyRun
  split
  · exact keepsBad_of_frm (State.traceMark_frm (hm.le (by decide)) (State.powerMode_frm (hm.le (by decide)) (frm_mk (Frm.refl _ s))))
  · exact KeepsBad.refl s

theorem State.ready_keepsBad (s : State) : KeepsBad s s.ready := by
  have hm := Sub.refl allButCfg
  rw [State.ready_eq]
  have hat : KeepsBad s s.readyReached := ⟨rfl, rfl⟩
  refine KeepsBad.trans ?_ (keepsBad_of_frm (State.recoverySweep_frm (hm.le (by decide)) (Frm.refl _ _)))
  exact ((hat.trans s.readyReached.readyRole_keepsBad).trans (State.each_keepsBad State.linkStart_keepsBad _)).trans (State.readyRun_keepsBad _)

/-- The configuration becomes BAD with a cause (R321). -/
theorem State.enterBad_bad (s : State) (cause : Nat) : (s.enterBad cause).cfg.bad = true ∧ (s.enterBad cause).cfg.badCause = cause := by
  have hm := Sub.refl allButCfg
  unfold State.enterBad
  extract_lets flipped _ marked stopped outputs _ pins captures _ raised
  split
  next hbad => exact ⟨hbad, rfl⟩
  next =>
    have hstopped : Frm allButCfg marked stopped := State.badGroup_frm (hm.le (by decide)) (State.badGroup_frm (hm.le (by decide)) (Frm.refl _ marked))
    have houtputs : Frm allButCfg marked outputs := State.pulseStopAll_frm (hm.le (by decide)) (State.excRole_frm (hm.le (by decide)) hstopped)
    have hcaptures : Frm allButCfg marked captures := State.each_frm (frm_mk houtputs) (fun _ _ => State.capAbort_frm (hm.le (by decide)))
    have hraised : Frm allButCfg marked raised := State.traceFree_frm (hm.le (by decide)) (State.raise_frm (hm.le (by decide)) (State.setBit_frm (hm.le (by decide)) hcaptures))
    have hcfg : raised.vaultTaint.cfg = marked.cfg := State.vaultTaint_frm (hm.le (by decide)) hraised .cfg (by decide)
    rw [hcfg]
    exact ⟨rfl, rfl⟩

end Sys2Proof.Machine
end

section
/-! PROOFS. What ends each step of start-up (R217, R427, R443 to R451, R493). -/

namespace Sys2Proof.Machine

open Sys2Proof

set_option Elab.async false

variable {O : OtpSt} {Q : List Instr} {s : State}

/-! ### The time a step takes -/

theorem State.stepTook_changes (s : State) (us : Nat) : Frm 9 s (s.stepTook us) := State.stepTook_frm (Sub.refl _) (Frm.refl _ s)

theorem State.stepTook_boot (s : State) (us : Nat) : (s.stepTook us).boot = { s.boot with timeUs := s.boot.timeUs + us } := by
  unfold State.stepTook
  dsimp only
  split
  · rw [show (s.reachUp (s.boot.stageUp + us * 1000)).boot = s.boot from s.reachUp_changes _ .boot (by decide)]
  · rfl

theorem State.stepTook_stage {us n : Nat} (hn : s.boot.stage = n) : (s.stepTook us).boot.stage = n := by
  rw [State.stepTook_boot]
  exact hn

/-- What ends step n of start-up (Table 18-2). -/
def State.endOf (s : State) (rep : StepReport) : Nat → State
  | 1 => s.cricketEnds
  | 2 => s.stageAt 3
  | 3 => s.clocksEnd
  | 4 => s.otpEnds
  | 5 => s.stageAt 6
  | 6 => (s.owResult rep.moved).stageAt 7
  | 7 => s.firmwareEnds rep
  | 8 => s.engineStarts rep.vaultOk
  | 9 => s.configEnds
  | _ => s

theorem execStartupStepEnd_at {rep : StepReport} {n : Nat} (hretry : s.boot.retryDue = false) (hn : s.boot.stage = n) (h0 : 0 < n) (h10 : n < 10) :
    exec (.startupStepEnd rep) s = .next ((s.stepTook rep.elapsedUs).endOf rep n) := by
  have hlive : ¬ (s.boot.stage = 0 ∨ 10 ≤ s.boot.stage) := by omega
  have hretry' : ¬ s.boot.retryDue = true := by simp [hretry]
  refine (if_neg hretry').trans ?_
  rw [if_neg hlive, State.stepTook_stage hn]
  interval_cases n <;> rfl

/-- Before POR and after READY no step is in progress. -/
theorem execStartupStepEnd_idle {rep : StepReport} (hretry : s.boot.retryDue = false) (h : s.boot.stage = 0 ∨ s.boot.stage = 10) :
    exec (.startupStepEnd rep) s = .next s := by
  have hretry' : ¬ s.boot.retryDue = true := by simp [hretry]
  refine (if_neg hretry').trans ?_
  rw [if_pos (h.imp_right Eq.ge)]
  rcases h with h | h <;> rw [h] <;> rfl

/-! ### Steps 1 to 6 -/

theorem State.cricketEnds_settled (hsettled : s.pads.settled.getLsbD 32 = true) (hlate : s.boot.warmLatched = none) :
    s.cricketEnds = { s with boot := { s.boot with strapB := s.pads.level.getLsbD 32, warmLatched := none, stage := 2 }, pads := { s.pads with enDig := true } } := by
  unfold State.cricketEnds
  rw [if_pos hsettled]
  dsimp only
  rw [hlate]

/-- The timebase runs and step 4 begins, before anything kept is recorded. -/
def State.clocksRun (s : State) : State :=
  let t := ({ s with tm := { TimeSt.init with running := true, cricket := s.tm.cricket, cricketSub := s.tm.cricketSub, age := s.tm.age } } : State).pllRun
  ({ t with boot := { t.boot with overruns := [] } } : State).stageAt 4

theorem State.clocksEnd_changes (s : State) : Frm reportSet s.clocksRun s.clocksEnd := by
  have hm := Sub.refl reportSet
  unfold State.clocksEnd
  extract_lets _ _ late _ run recorded
  have hrecorded : Frm reportSet s.clocksRun recorded := State.each_frm (Frm.refl _ _) (fun _ _ => State.raise_frm hm)
  split
  · exact State.raise_frm hm hrecorded
  · exact hrecorded

theorem State.pllRun_changes (s : State) : Frm 68719476736 s s.pllRun := State.pllRun_frm (Sub.refl _) (Frm.refl _ s)

theorem State.pllRun_pwr (s : State) : s.pllRun.pwr.pllFrom = none ∧ s.pllRun.pwr.mode = s.pwr.mode := by
  unfold State.pllRun State.pllRunAgo
  split
  · exact ⟨rfl, rfl⟩
  · exact ⟨‹_›, rfl⟩

theorem State.clocksRun_tm (s : State) :
    s.clocksRun.tm = { TimeSt.init with running := true, cricket := s.tm.cricket, cricketSub := s.tm.cricketSub, age := s.tm.age } :=
  State.pllRun_changes { s with tm := { TimeSt.init with running := true, cricket := s.tm.cricket, cricketSub := s.tm.cricketSub, age := s.tm.age } } .tm (by decide)

theorem State.clocksRun_pwr (s : State) : s.clocksRun.pwr.pllFrom = none ∧ s.clocksRun.pwr.mode = s.pwr.mode :=
  State.pllRun_pwr { s with tm := { TimeSt.init with running := true, cricket := s.tm.cricket, cricketSub := s.tm.cricketSub, age := s.tm.age } }

/-- The trim is loaded, and a bad one reported. -/
def State.trimLoaded (s : State) : State := (s.setBit 0x1E000 0).doIf (!s.otp.trimGood) (fun t => t.setBitRaise 2 0x1E000 1 0xFFFF)

theorem State.trimLoaded_changes (s : State) : Frm reportSet s s.trimLoaded := by
  have hm := Sub.refl reportSet
  have hbit : Frm reportSet s (s.setBit 0x1E000 0) := State.setBit_frm (hm.le (by decide)) (Frm.refl _ s)
  exact State.doIf_frm hbit (State.setBitRaise_frm hm hbit)

theorem State.trimLoaded_bit (h : Good O Q s) : s.trimLoaded.bit 0x1E000 0 = true := by
  have hloaded : (s.setBit 0x1E000 0).bit 0x1E000 0 = true := State.setBit_bit h (by decide)
  unfold State.trimLoaded State.doIf
  split
  · exact State.setBitRaise_keepsBit (State.setBit_good h) (Or.inr (by decide)) hloaded
  · exact hloaded

theorem State.otpEnds_stage (s : State) : s.otpEnds.boot.stage = if s.pads.enAna = true ∧ s.pwr.mode ≠ .hibExit then 6 else 5 := by
  have hpads : s.trimLoaded.pads = s.pads := s.trimLoaded_changes .pads (by decide)
  have hpwr : s.trimLoaded.pwr = s.pwr := s.trimLoaded_changes .pwr (by decide)
  have hstage : s.otpEnds.boot.stage = if s.trimLoaded.pads.enAna && !decide (s.trimLoaded.pwr.mode = .hibExit) then 6 else 5 := rfl
  rw [hstage, hpads, hpwr]
  simp

/-! ### Step 7 -/

theorem State.noFirmware_boot (s : State) : s.noFirmware.boot.stage = 8 ∧ s.noFirmware.boot.recovery = true := by
  have hm := Sub.refl reportSet
  have hboot : s.noFirmware.boot = (({ s with boot := { s.boot with recovery := true } } : State).stageAt 8).boot :=
    State.setBitRaise_frm hm (Frm.refl _ _) .boot (by decide)
  rw [hboot]
  exact ⟨rfl, rfl⟩

theorem bootFrom_stage (ok : Bool → Bool) (bs : List Bool) : ∀ s : State, (bootFrom ok bs s).boot.stage = 8 := by
  induction bs with
  | nil => exact fun s => s.noFirmware_boot.1
  | cons b bs ih =>
    intro s
    unfold bootFrom
    split
    · rfl
    · exact ih _

/-- No slot verifies: the recovery loader starts (R447). -/
theorem bootFrom_none {ok : Bool → Bool} (hok : ∀ b, ok b = false) (bs : List Bool) : ∀ s : State, (bootFrom ok bs s).boot.recovery = true := by
  induction bs with
  | nil => exact fun s => s.noFirmware_boot.2
  | cons b bs ih =>
    intro s
    unfold bootFrom
    rw [hok b, Bool.false_and, if_neg Bool.false_ne_true]
    exact ih _

/-- The first slot in order runs when it verifies. -/
theorem bootFrom_first {ok : Bool → Bool} {b : Bool} {bs : List Bool} (hok : ok b = true) (hpresent : s.flash.present b = true) :
    bootFrom ok (b :: bs) s = ({ s with flash := { s.flash.setSlot b .confirmed with runningB := b } } : State).stageAt 8 := by
  rw [bootFrom, hok, hpresent]
  rfl

/-- Both devices are read, a TRIAL falls back, and the versions of the slots are shown. -/
def State.slotsShown (s : State) (rep : StepReport) : State :=
  let t := (s.readSfdp rep.deviceA rep.deviceB).bootFallback
  (t.setReg 0x70014 (t.slotVersion false)).setReg 0x70018 (t.slotVersion true)

/-- The image of a slot reads and verifies, as the report of the step says. -/
def State.slotBoots (s : State) (rep : StepReport) (second : Bool) : Bool := s.bootable (if second then rep.imageBOk else rep.imageAOk) second

theorem State.firmwareEnds_eq (s : State) (rep : StepReport) :
    s.firmwareEnds rep = bootFrom ((s.slotsShown rep).slotBoots rep) (s.slotsShown rep).flash.bootOrder (s.slotsShown rep) := rfl

theorem State.firmwareEnds_stage (s : State) (rep : StepReport) : (s.firmwareEnds rep).boot.stage = 8 := bootFrom_stage _ _ _

/-- When neither slot reads, the recovery loader starts. -/
theorem State.firmwareEnds_recovers {rep : StepReport} (hA : rep.imageAOk = false) (hB : rep.imageBOk = false) : (s.firmwareEnds rep).boot.recovery = true := by
  have hnone : ∀ b, (s.slotsShown rep).slotBoots rep b = false := by
    intro b
    cases b <;> simp [State.slotBoots, State.bootable, hA, hB]
  rw [State.firmwareEnds_eq]
  exact bootFrom_none hnone _ _

theorem State.quadSet_flash (s : State) : ∃ qa qb, s.quadSet.flash = { s.flash with quadA := qa, quadB := qb } := by
  unfold State.quadSet
  split
  · exact ⟨_, _, rfl⟩
  · exact ⟨_, _, rfl⟩

/-- SFDP tells what the devices are; their contents and the slots stay. -/
theorem State.readSfdp_flash (s : State) (a b : SfdpReport) : ∃ qa qb, (s.readSfdp a b).flash =
    { s.flash with presentA := sfdpPresent a, presentB := sfdpPresent b, io := sfdpMin a b SfdpReport.io, clk := sfdpMin a b SfdpReport.clkMhz, pageA := a.page, pageB := b.page, quadA := qa, quadB := qb } := by
  have hm := Sub.refl reportSet
  unfold State.readSfdp
  extract_lets _ shown
  obtain ⟨qa, qb, hquad⟩ := State.quadSet_flash ((shown.doIf (!sfdpPresent a) (fun t => t.raise (errCode 2 0x0003 0))).doIf (!sfdpPresent b) (fun t => t.raise (errCode 2 0x0003 1)))
  have hfirst : Frm reportSet shown (shown.doIf (!sfdpPresent a) (fun t => t.raise (errCode 2 0x0003 0))) := State.doIf_frm (Frm.refl _ _) (State.raise_frm hm (Frm.refl _ _))
  have hflash := State.doIf_frm (c := !sfdpPresent b) (f := fun t => t.raise (errCode 2 0x0003 1)) hfirst (State.raise_frm hm hfirst) .flash (by decide)
  exact ⟨qa, qb, hquad.trans (congrArg (fun f : FlashSt => { f with quadA := qa, quadB := qb }) hflash)⟩

theorem State.bootFallback_of_noTrial (h : s.flash.trial = false) : s.bootFallback = s := by
  unfold State.bootFallback
  rw [if_neg (by simp [h])]

/-- What Svetron finds of a slot rests on the devices' contents, its own material and OTP. -/
theorem State.verifySlot_congr {t : State} {second : Bool} (hA : t.flash.memA = s.flash.memA) (hB : t.flash.memB = s.flash.memB) (hotp : t.otp = s.otp) (hsv : t.sv = s.sv) :
    t.verifySlot second = s.verifySlot second := by
  have hheader : t.imageHeader second = s.imageHeader second := by rw [State.imageHeader, hA, hB, State.imageHeader]
  have hmem : t.flash.mem second = s.flash.mem second := by rw [FlashSt.mem, hA, hB, FlashSt.mem]
  have hsigned : t.imageSigned second = s.imageSigned second := by
    unfold State.imageSigned
    rw [hheader, hotp, hsv]
  have hdigests : t.imageDigests second = s.imageDigests second := by
    unfold State.imageDigests
    rw [hheader, hmem]
  unfold State.verifySlot
  rw [hsigned, hheader, hdigests, hsv]

/-- A CONFIRMED slot 0 that verifies runs (R447). -/
theorem State.firmwareEnds_runsA {rep : StepReport} (htrial : s.flash.trial = false) (hslot : s.flash.slotA = .confirmed) (hverify : s.verifySlot false = 0)
    (himage : rep.imageAOk = true) (hdevice : sfdpPresent rep.deviceA = true) :
    (s.firmwareEnds rep).flash.runningB = false ∧ (s.firmwareEnds rep).flash.slotA = .confirmed ∧ (s.firmwareEnds rep).boot.recovery = s.boot.recovery := by
  obtain ⟨qa, qb, hflash⟩ := s.readSfdp_flash rep.deviceA rep.deviceB
  have hsfdp : Frm 1924682219536 s (s.readSfdp rep.deviceA rep.deviceB) := State.readSfdp_frm (Sub.refl _) (Frm.refl _ s)
  have hread : s.slotsShown rep = (((s.readSfdp rep.deviceA rep.deviceB).setReg 0x70014 ((s.readSfdp rep.deviceA rep.deviceB).slotVersion false)).setReg 0x70018
      ((s.readSfdp rep.deviceA rep.deviceB).slotVersion true)) := by
    unfold State.slotsShown
    rw [State.bootFallback_of_noTrial (by rw [hflash]; exact htrial)]
  have hm := Sub.refl 16
  have hshown : Frm 16 (s.readSfdp rep.deviceA rep.deviceB) (s.slotsShown rep) := by
    rw [hread]
    exact State.setReg_frm hm (State.setReg_frm hm (Frm.refl _ _))
  have hflash' : (s.slotsShown rep).flash = (s.readSfdp rep.deviceA rep.deviceB).flash := hshown .flash (by decide)
  have hboot : (s.slotsShown rep).boot = s.boot := (hshown .boot (by decide)).trans (hsfdp .boot (by decide))
  have hotp : (s.slotsShown rep).otp = s.otp := (hshown .otp (by decide)).trans (hsfdp .otp (by decide))
  have hsv : (s.slotsShown rep).sv = s.sv := (hshown .sv (by decide)).trans (hsfdp .sv (by decide))
  rw [hflash] at hflash'
  have hboots : (s.slotsShown rep).slotBoots rep false = true := by
    have hsame : (s.slotsShown rep).verifySlot false = s.verifySlot false := State.verifySlot_congr (by rw [hflash']) (by rw [hflash']) hotp hsv
    simp [State.slotBoots, State.bootable, himage, hsame, hverify]
  obtain ⟨bs, horder⟩ : ∃ bs, (s.slotsShown rep).flash.bootOrder = false :: bs := by
    rw [hflash', FlashSt.bootOrder]
    simp [FlashSt.slot, hslot]
  have hpresent : (s.slotsShown rep).flash.present false = true := by
    rw [hflash']
    exact hdevice
  rw [State.firmwareEnds_eq, horder, bootFrom_first hboots hpresent]
  exact ⟨rfl, rfl, (congrArg BootSt.recovery hboot :)⟩

/-! ### Steps 8 and 9 -/

theorem State.engineStarts_boot (s : State) (ok : Bool) : (s.engineStarts ok).boot.stage = 9 ∧ (s.boot.recovery = false → (s.engineStarts ok).boot.engine = .up) := by
  unfold State.engineStarts
  extract_lets _ _ started due _ nine
  have hstart : ((nine.doIf due (fun t => t.vaultStart ok 6)).boot) = nine.boot :=
    State.doIf_frm (m := 10501731923984) (Frm.refl _ nine) (State.vaultStart_frm (Sub.refl _) (Frm.refl _ nine)) .boot (by decide)
  rw [hstart]
  refine ⟨rfl, fun hrecovery => ?_⟩
  have hstarted : started.boot.engine = .up := by
    unfold started
    rw [if_neg (by simp [hrecovery])]
    rfl
  exact hstarted

end Sys2Proof.Machine
end

section
/-! PROOFS. READY, late steps, and start-up step by step (R16, R443, R446, R449, R451). -/

namespace Sys2Proof.Machine

open Sys2Proof

set_option Elab.async false

variable {O : OtpSt} {Q : List Instr} {s : State}

/-- Every part but that of start-up. -/
def allButBoot : Nat := 35184372088823

theorem State.ready_boot (s : State) : s.ready.boot.stage = 10 ∧ s.ready.boot.readyAt = s.tm.up := by
  have hm := Sub.refl allButBoot
  have hrole : Frm allButBoot s.readyReached s.readyReached.readyRole :=
    frm_ite (State.setRole_frm (hm.le (by decide)) (Frm.refl _ _)) (State.setRole_frm (hm.le (by decide)) (frm_mk (Frm.refl _ _)))
  have hlinks : (s.readyReached.readyRole.each [0, 1, 2] (fun p t => t.linkStart p)).boot = s.readyReached.boot :=
    State.each_frm hrole (fun _ _ => State.linkStart_frm (hm.le (by decide))) .boot (by decide)
  have hrun : ∀ t : State, t.readyRun.boot.stage = t.boot.stage ∧ t.readyRun.boot.readyAt = t.boot.readyAt := by
    intro t
    unfold State.readyRun
    split
    · have hboot := State.traceMark_frm (kind := 0xF2) (hm.le (by decide)) (State.powerMode_frm (m' := .run) (hm.le (by decide))
        (Frm.refl _ { t with boot := { t.boot with fromHib := false }, pwr := { t.pwr with wakeTimer := none } })) .boot (by decide)
      rw [hboot]
      exact ⟨rfl, rfl⟩
    · exact ⟨rfl, rfl⟩
  have hsweep : ∀ t : State, t.recoverySweep.boot = t.boot := fun t => State.recoverySweep_frm (hm.le (by decide)) (Frm.refl _ t) .boot (by decide)
  rw [State.ready_eq, hsweep, (hrun _).1, (hrun _).2, hlinks]
  exact ⟨rfl, rfl⟩

/-- Step 9 ends with READY at the time the step took. -/
theorem State.configEnds_boot (s : State) : s.configEnds.boot.stage = 10 ∧ s.configEnds.boot.readyAt = s.tm.up := by
  have hm := Sub.refl 17557759195580
  have htm : s.mainsRestart.mainsBoth.loadStored.tm = s.tm :=
    State.loadStored_frm hm (State.mainsBoth_frm (hm.le (by decide)) (State.mainsRestart_frm (hm.le (by decide)) (Frm.refl _ s))) .tm (by decide)
  have hready := s.mainsRestart.mainsBoth.loadStored.ready_boot
  rw [htm] at hready
  rwa [State.configEnds]

/-! ### A late step (R443, R446) -/

/-- What a step that reaches its limit leads to. -/
def State.lateAt (s : State) : Nat → State
  | 1 => s.overrun
  | 2 => s.supplyLate
  | 3 => s.overrun.supplyOff
  | 4 => { s.overrun with boot := { s.overrun.boot with retryDue := true } }
  | 5 => s.supplyLate
  | 6 => (s.overrun.owResult allInputs).stageAt 7
  | 7 => s.overrun.bootFallback.noFirmware
  | 8 => s.overrun.engineRestart
  | 9 => ((s.overrun.mainsRestart.mainsBoth).enterBad 5).ready
  | _ => s

theorem State.atLimit_stage (s : State) : s.atLimit.boot.stage = s.boot.stage := by
  unfold State.atLimit
  dsimp only
  split
  · rfl
  · split
    · rw [show (s.reachUp (s.boot.stageUp + stepLimit 8 * 1000)).boot = s.boot from s.reachUp_changes _ .boot (by decide)]
    · exact State.stepTook_stage rfl

theorem State.atLimit_step1 (h : s.boot.stage = 1) : s.atLimit = s := if_pos (Or.inr (Or.inl h))

theorem execStepOverrun_at {n : Nat} (hretry : s.boot.retryDue = false) (hn : s.boot.stage = n) (h0 : 0 < n) (h10 : n < 10) :
    exec .stepOverrun s = .next (s.atLimit.lateAt n) := by
  have hretry' : ¬ s.boot.retryDue = true := by simp [hretry]
  refine (if_neg hretry').trans ?_
  rw [State.atLimit_stage, hn]
  interval_cases n <;> rfl

/-- An overrun sets BOOT_STATUS.OVERRUN. -/
theorem State.overrun_bit (h : Good O Q s) : s.overrun.bit Reg.bootStatus 9 = true := by
  have hset : (s.setBit Reg.bootStatus 9).bit Reg.bootStatus 9 = true := State.setBit_bit h (by decide)
  unfold State.overrun
  dsimp only
  split
  · exact hset
  · rw [State.bit, State.raise_reg (Or.inl (by decide))]
    exact hset

/-- Of the start-up state an overrun changes the overruns kept for step 3 at most. -/
theorem State.overrun_boot (s : State) : ∃ kept, s.overrun.boot = { s.boot with overruns := kept } := by
  unfold State.overrun
  dsimp only
  split
  · exact ⟨_, rfl⟩
  · exact ⟨s.boot.overruns, State.raise_frm (m := reportSet) (Sub.refl _) (Frm.refl _ (s.setBit Reg.bootStatus 9)) .boot (by decide)⟩

theorem State.overrun_stage (s : State) : s.overrun.boot.stage = s.boot.stage := by
  obtain ⟨kept, hboot⟩ := s.overrun_boot
  rw [hboot]

/-- An overrun of step 1 is kept once until step 3 ends. -/
theorem State.overrun_step1 (h : s.boot.stage = 1) : s.overrun.boot.overruns.contains 1 = true ∧ s.keepsBut [.regs, .boot] s.overrun := by
  have hm := Sub.refl 24
  have hearly : s.boot.stage ≤ 3 := by omega
  unfold State.overrun
  dsimp only
  rw [if_pos hearly]
  refine ⟨?_, (frm_mk (State.setBit_frm (hm.le (by decide)) (Frm.refl 24 s))).keepsParts (by decide)⟩
  have hkept : (s.setBit Reg.bootStatus 9).boot.overruns = s.boot.overruns := rfl
  rw [h, hkept]
  cases hin : s.boot.overruns.contains 1
  · simp
  · rw [if_pos ⟨rfl, rfl⟩, List.append_nil, hin]

theorem State.supplyLate_off (h : Good O Q s) (hmode : s.pwr.mode ≠ .hibExit) :
    s.supplyLate.boot.retryDue = true ∧ s.supplyLate.pads.enDig = false ∧ s.supplyLate.pads.enAna = false ∧ s.supplyLate.bit Reg.pwrStatus 10 = true
      ∧ s.supplyLate.bit Reg.bootStatus 9 = true ∧ s.supplyLate.boot.timeUs = s.boot.timeUs := by
  obtain ⟨kept, hboot⟩ := s.overrun_boot
  have hoff : Good O Q s.overrun.supplyOff := State.supplyOff_good (State.overrun_good h)
  have hlate : s.supplyLate = s.overrun.supplyOff.setBit Reg.pwrStatus 10 := if_neg (fun hexit => hmode hexit.1)
  rw [hlate]
  refine ⟨rfl, rfl, rfl, State.setBit_bit hoff (by decide), State.setBit_keepsBit hoff (State.overrun_bit h), ?_⟩
  exact (congrArg BootSt.timeUs hboot :)

/-- A late step 7 leaves the recovery loader in charge. -/
theorem State.overrun_noFirmware_bit (h : Good O Q s) : s.overrun.bootFallback.noFirmware.bit Reg.bootStatus 15 = true := by
  unfold State.noFirmware
  exact State.setBitRaise_bit (State.stageAt_good (good_mk (State.bootFallback_good (State.overrun_good h)) rfl rfl rfl rfl)) (by decide) (Or.inl (by decide))

/-- A late engine restarts within step 8. -/
theorem State.overrun_engineRestart (h : Good O Q s) : s.overrun.engineRestart.boot.stage = s.boot.stage ∧ s.overrun.engineRestart.bit Reg.bootStatus 9 = true := by
  refine ⟨s.overrun.engineRestart_boot.2.trans s.overrun_stage, ?_⟩
  rw [State.bit, State.engineRestart_bootStatus]
  exact State.overrun_bit h

/-- A late step 9 leaves the configuration BAD with cause 5, and READY comes all the same. -/
theorem State.lateAt_nine (s : State) : (s.lateAt 9).boot.stage = 10 ∧ (s.lateAt 9).cfg.bad = true ∧ (s.lateAt 9).cfg.badCause = 5 := by
  rw [State.lateAt]
  have hbad := State.enterBad_bad (s.overrun.mainsRestart.mainsBoth) 5
  have hready := State.ready_keepsBad ((s.overrun.mainsRestart.mainsBoth).enterBad 5)
  exact ⟨(State.ready_boot _).1, hready.1.trans hbad.1, hready.2.trans hbad.2⟩

theorem execSupplyTimeout_late (hretry : s.boot.retryDue = false) (hstage : s.boot.stage = 2 ∨ s.boot.stage = 5) :
    exec .supplyTimeout s = .next (s.stepTook 50000).supplyLate := if_pos ⟨hretry, hstage⟩

/-- What SUPPLY_RETRY starts step 2 with, before its own report. -/
def State.retried (s : State) : State :=
  let t := ({ s with tm := s.tick 1000000000 } : State).warmState .pin
  { t with boot := { BootSt.init with stage := 2, vaultDue := s.boot.vaultDue, warmCause := s.boot.warmCause, fromHib := s.boot.fromHib, overruns := s.boot.overruns,
                                      timeUs := s.boot.timeUs + 1000000, strapB := s.boot.strapB }, pads := { t.pads with enDig := true } }

theorem execSupplyRetry_due (hretry : s.boot.retryDue = true) : exec .supplyRetry s = .next (s.retried.setBit Reg.bootStatus 9) := if_pos hretry

theorem State.retried_good (h : Good O Q s) : Good O Q s.retried := good_mk (State.warmState_good (good_mk h rfl rfl rfl rfl)) rfl rfl rfl rfl

/-! ### The steps of start-up -/

/-- Step 3 ends: a count from 0, and nothing kept. -/
theorem State.clocksEnd_starts (s : State) :
    s.clocksEnd.boot.stage = 4 ∧ s.clocksEnd.boot.overruns = [] ∧ s.clocksEnd.tm.running = true ∧ s.clocksEnd.tm.count = 0 ∧ s.clocksEnd.tm.up = 0
      ∧ s.clocksEnd.tm.cricket = s.tm.cricket ∧ s.clocksEnd.pwr.pllFrom = none ∧ s.clocksEnd.pwr.mode = s.pwr.mode := by
  have hboot : s.clocksEnd.boot = s.clocksRun.boot := s.clocksEnd_changes .boot (by decide)
  have htm : s.clocksEnd.tm = s.clocksRun.tm := s.clocksEnd_changes .tm (by decide)
  have hpwr : s.clocksEnd.pwr = s.clocksRun.pwr := s.clocksEnd_changes .pwr (by decide)
  rw [hboot, htm, hpwr, State.clocksRun_tm]
  exact ⟨rfl, rfl, rfl, rfl, rfl, rfl, s.clocksRun_pwr⟩

/-- Settles O51: each clause is what its step's end (endOf) or its lateness (lateAt) does from the time the step took. -/
theorem startupGoesStepByStep : Obligations.StartupGoesStepByStep := by
  intro s hwf hretry rep
  have hgood := good_of_wf hwf
  have htook := s.stepTook_changes rep.elapsedUs
  have hboot := s.stepTook_boot rep.elapsedUs
  have hpads : (s.stepTook rep.elapsedUs).pads = s.pads := htook .pads (by decide)
  have hpwr : (s.stepTook rep.elapsedUs).pwr = s.pwr := htook .pwr (by decide)
  have hends : ∀ n, s.boot.stage = n → 0 < n → n < 10 → exec (.startupStepEnd rep) s = .next ((s.stepTook rep.elapsedUs).endOf rep n) :=
    fun n => execStartupStepEnd_at hretry
  have hlate : ∀ n, s.boot.stage = n → 0 < n → n < 10 → exec .stepOverrun s = .next (s.atLimit.lateAt n) := fun n => execStepOverrun_at hretry
  have hlimit : Good s.otp s.pending s.atLimit := State.atLimit_good hgood
  refine ⟨?cricket, ?rails, ?clocks, ?otp, ?analogue, ?wires, ?firmware, ?engine, ?config, execStartupStepEnd_idle hretry, ?supply,
    ?late1, ?late34, ?late6, ?late7, ?late8, ?late9, ?retry, if_neg (by simp [hretry])⟩
  case cricket =>
    intro hn hsettled hunlatched
    refine ⟨(s.stepTook rep.elapsedUs).cricketEnds, hends 1 hn (by decide) (by decide), ?_⟩
    rw [State.cricketEnds_settled (by rw [hpads]; exact hsettled) (by rw [hboot]; exact hunlatched)]
    have hm := Sub.refl 13
    exact ⟨rfl, by rw [hpads], rfl, by rw [hboot], rfl, (frm_mk (State.stepTook_frm (hm.le (by decide)) (Frm.refl 13 s))).keepsParts (by decide)⟩
  case rails =>
    intro hn
    refine ⟨(s.stepTook rep.elapsedUs).stageAt 3, hends 2 hn (by decide) (by decide), ?_, rfl, ?_⟩
    · exact congrArg (fun b : BootSt => { b with stage := 3, stageUp := (s.stepTook rep.elapsedUs).tm.up }) hboot
    · exact (State.stageAt_frm (Sub.le (Sub.refl 9) (by decide)) htook).keepsParts (by decide)
  case clocks =>
    intro hn
    have hm := Sub.refl 1718523789337
    obtain ⟨hstage, hkept, hrunning, hcount, hup, hcricket, hpll, hmode⟩ := (s.stepTook rep.elapsedUs).clocksEnd_starts
    exact ⟨(s.stepTook rep.elapsedUs).clocksEnd, hends 3 hn (by decide) (by decide), hstage, hkept, hrunning, hcount, hup, hcricket, hpll, by rw [hmode, hpwr],
      (State.clocksEnd_frm hm (State.stepTook_frm (hm.le (by decide)) (Frm.refl _ s))).keepsParts (by decide)⟩
  case otp =>
    intro hn
    have hm := Sub.refl 1649804312605
    refine ⟨(s.stepTook rep.elapsedUs).otpEnds, hends 4 hn (by decide) (by decide), ?_, rfl, State.trimLoaded_bit (State.stepTook_good hgood),
      (State.otpEnds_frm (hm.le (by decide)) (State.stepTook_frm (hm.le (by decide)) (Frm.refl _ s))).keepsParts (by decide)⟩
    rw [State.otpEnds_stage, hpads, hpwr]
  case analogue =>
    exact fun hn => ⟨(s.stepTook rep.elapsedUs).stageAt 6, hends 5 hn (by decide) (by decide), rfl,
      (State.stageAt_frm (Sub.le (Sub.refl 9) (by decide)) htook).keepsParts (by decide)⟩
  case wires => exact fun hn => ⟨((s.stepTook rep.elapsedUs).owResult rep.moved).stageAt 7, hends 6 hn (by decide) (by decide), rfl⟩
  case firmware =>
    intro hn
    have hflash : (s.stepTook rep.elapsedUs).flash = s.flash := htook .flash (by decide)
    have hsame : (s.stepTook rep.elapsedUs).verifySlot false = s.verifySlot false :=
      State.verifySlot_congr (by rw [hflash]) (by rw [hflash]) (htook .otp (by decide)) (htook .sv (by decide))
    refine ⟨(s.stepTook rep.elapsedUs).firmwareEnds rep, hends 7 hn (by decide) (by decide), State.firmwareEnds_stage _ rep,
      State.firmwareEnds_recovers, fun htrial hslot hverify himage hdevice => ?_⟩
    have hruns := State.firmwareEnds_runsA (s := s.stepTook rep.elapsedUs) (by rw [hflash]; exact htrial) (by rw [hflash]; exact hslot) (hsame.trans hverify) himage hdevice
    rwa [hboot] at hruns
  case engine =>
    intro hn
    have hstarts := (s.stepTook rep.elapsedUs).engineStarts_boot rep.vaultOk
    rw [hboot] at hstarts
    exact ⟨(s.stepTook rep.elapsedUs).engineStarts rep.vaultOk, hends 8 hn (by decide) (by decide), hstarts⟩
  case config => exact fun hn => ⟨(s.stepTook rep.elapsedUs).configEnds, hends 9 hn (by decide) (by decide), (s.stepTook rep.elapsedUs).configEnds_boot⟩
  case supply =>
    intro hn hmode
    have htook0 := s.stepTook_changes 50000
    have hpwr0 : (s.stepTook 50000).pwr = s.pwr := htook0 .pwr (by decide)
    obtain ⟨hdue, hdig, hana, hpwrBit, hbootBit, htime⟩ := State.supplyLate_off (State.stepTook_good (us := 50000) hgood) (by rw [hpwr0]; exact hmode)
    refine ⟨(s.stepTook 50000).supplyLate, execSupplyTimeout_late hretry hn, hdue, hdig, hana, hpwrBit, hbootBit, ?_⟩
    rw [htime, State.stepTook_boot]
  case late1 =>
    intro hn
    refine ⟨s.atLimit.lateAt 1, hlate 1 hn (by decide) (by decide), ?_⟩
    rw [State.lateAt, State.atLimit_step1 hn]
    exact ⟨State.overrun_bit hgood, s.overrun_stage.trans hn, State.overrun_step1 hn⟩
  case late34 =>
    rintro (hn | hn)
    · exact ⟨s.atLimit.lateAt 3, hlate 3 hn (by decide) (by decide), rfl, State.overrun_bit hlimit⟩
    · exact ⟨s.atLimit.lateAt 4, hlate 4 hn (by decide) (by decide), rfl, State.overrun_bit hlimit⟩
  case late6 => exact fun hn => ⟨s.atLimit.lateAt 6, hlate 6 hn (by decide) (by decide), rfl⟩
  case late7 =>
    intro hn
    have hloader := s.atLimit.overrun.bootFallback.noFirmware_boot
    exact ⟨s.atLimit.lateAt 7, hlate 7 hn (by decide) (by decide), hloader.1, hloader.2, State.overrun_noFirmware_bit hlimit⟩
  case late8 =>
    intro hn
    have hengine := State.overrun_engineRestart hlimit
    exact ⟨s.atLimit.lateAt 8, hlate 8 hn (by decide) (by decide), hengine.1.trans (s.atLimit_stage.trans hn), hengine.2⟩
  case late9 => exact fun hn => ⟨s.atLimit.lateAt 9, hlate 9 hn (by decide) (by decide), s.atLimit.lateAt_nine⟩
  case retry =>
    have hdue : Good s.otp s.pending ({ s with boot := { s.boot with retryDue := true } } : State) := good_mk hgood rfl rfl rfl rfl
    exact ⟨_, execSupplyRetry_due rfl, rfl, rfl, rfl, rfl, rfl, State.setBit_bit (State.retried_good hdue) (by decide)⟩

end Sys2Proof.Machine
end

section
/-! PROOFS. Strobe edges and the ready time of a frame (R33, R37, R38, R40, R43, R44, R47). -/

namespace Sys2Proof.Machine

open Sys2Proof

variable {O : OtpSt} {Q : List Instr} {s t : State} {m : Nat}

/-! ### What a frame leaves of groups, edges and fields -/

/-- A change of one group, read anywhere. -/
theorem State.grpOf_updGrp {n i : Nat} {f : GroupSt → GroupSt} (h : Good O Q s) :
    (s.updGrp n f).grpOf i = if i = n then f (s.grpOf n) else s.grpOf i := Cells.get_set h.grp

theorem Frm.grpOf {n : Nat} (h : Frm m s t) (hm : m.testBit 5 = false) : t.grpOf n = s.grpOf n :=
  congrArg (fun c => Cells.get (fun _ => GroupSt.init) c n) (h .grp hm)

theorem Frm.edgeOf {n : Nat} (h : Frm m s t) (hm : m.testBit 6 = false) : t.edgeOf n = s.edgeOf n :=
  congrArg (fun c => Cells.get (fun _ => EdgeSample.none) c n) (h .edge hm)

/-- The fields in effect hang on the live bank and on the part's fuse. -/
theorem Frm.cfgv (h : Frm m s t) (hcfg : m.testBit 32 = false) (hotp : m.testBit 1 = false) : t.cfgv = s.cfgv := by
  have hc : t.cfg = s.cfg := h .cfg hcfg
  have ho : t.otp = s.otp := h .otp hotp
  funext code index sub
  rw [State.cfgv, State.cfgv, hc, ho]

/-- Behind what happens in a cycle only its errors' reports follow. -/
theorem State.oneCycle_changes (s : State) (f : State → State) : ∃ g, Frm reportSet (f (s.gathering g)) (s.oneCycle f) := by
  obtain ⟨g, h | ⟨-, h⟩⟩ := s.oneCycle_cases f
  · exact ⟨g, h ▸ Frm.refl _ _⟩
  · exact ⟨g, h ▸ State.cycleEnds_changes _⟩

/-! ### A strobe edge (R33, R37, R43) -/

/-- The frame that a group's strobe edge starts. -/
def State.frameFrom (s : State) (g k : Nat) (edge : Tq) : FrameSt :=
  let diag := Look.diagFrame s.cfgv g k
  let n := Look.nMax s.cfgv g diag
  { k := k, edge := edge, diag := diag, nMax := n, epoch := s.epoch, dueUp := s.tm.up + 200 + 400 * n, undelivered := false }

/-- A group at its strobe edge. -/
def State.grpAtEdge (s : State) (g k : Nat) (edge : Tq) : GroupSt :=
  { s.grpOf g with mode := .running, nextK := k + 1, strobed := true, hole := false, heldHole := false, lastK := k, lastEdge := edge,
                   frame := some (s.frameFrom g k edge), pendEdge := none }

/-- The other group p once the edge has reached its strobe input (R43). -/
def State.peerSees (s : State) (p up : Nat) : GroupSt :=
  { s.grpOf p with peerUp :=
      if Look.scheduled s.cfgv p = false ∧ (s.grpOf p).mode = .running ∧ (s.cfgv Fld.strbEventSrc p 0).testBit 2 = true then some up else (s.grpOf p).peerUp }

/-- The group's frame starts, behind the hole before it if there is one. -/
def State.edgeStarts (s : State) (g k : Nat) (edge : Tq) : State :=
  let x := s.grpOf g
  let t := s.setGrp g (s.grpAtEdge g k edge)
  if (x.strobed || x.hole) && (x.heldHole || decide (k ≠ x.lastK + 1)) then t.groupHole g x.lastEdge edge else t

/-- The holds of the group's cores close on what the edge finds. -/
def State.edgeCloses (s : State) (g : Nat) (e : EdgeSample) (cores : List Nat) : State :=
  ((((s.setEdge g e).excEdge g e).stuckEdge).ainEdge g e).each cores (fun n t => t.latchCore n)

theorem State.takeEdge_eq (s : State) (g k : Nat) (edge : Tq) (e : EdgeSample) :
    s.takeEdge g k edge e = s.oneCycle (fun t => ((t.edgeStarts g k edge).edgeCloses g e (Look.coresIn t.cfgv g)).peerEvent g) := rfl

theorem State.edgeStarts_changes (s : State) (g k : Nat) (edge : Tq) :
    Frm 17181728784 (s.setGrp g (s.grpAtEdge g k edge)) (s.edgeStarts g k edge) :=
  frm_ite (State.groupHole_frm (Sub.refl _) (Frm.refl _ _)) (Frm.refl _ _)

theorem State.edgeStarts_good {g k : Nat} {edge : Tq} (h : Good O Q s) : Good O Q (s.edgeStarts g k edge) :=
  good_ite (State.groupHole_good (State.setGrp_good h)) (State.setGrp_good h)

/-- Excitation, HEALTH, inputs, cores and results at an edge, with the reports of their errors. -/
def edgeSet : Nat := 8255766011536

theorem State.edgeCloses_changes (s : State) (g : Nat) (e : EdgeSample) (cores : List Nat) : Frm edgeSet (s.setEdge g e) (s.edgeCloses g e cores) := by
  have hm := Sub.refl edgeSet
  exact State.each_frm (State.ainEdge_frm (hm.le (by decide)) (State.stuckEdge_frm (hm.le (by decide)) (State.excEdge_frm (hm.le (by decide)) (Frm.refl _ _))))
    (fun _ _ => State.latchCore_frm (hm.le (by decide)))

theorem State.edgeCloses_good {g : Nat} {e : EdgeSample} {cores : List Nat} (h : Good O Q s) : Good O Q (s.edgeCloses g e cores) :=
  State.each_good (State.ainEdge_good (State.stuckEdge_good (State.excEdge_good (State.setEdge_good h)))) (fun _ _ => State.latchCore_good)

/-- The PEER event of an edge reaches the other group alone. -/
theorem State.peerEvent_grpOf {g i : Nat} (h : Good O Q s) :
    (s.peerEvent g).grpOf i = if i = 1 - g then s.peerSees (1 - g) s.tm.up else s.grpOf i := by
  unfold State.peerEvent State.peerSees
  dsimp only
  split
  next hsees => exact State.grpOf_updGrp h
  next hblind =>
    split
    next hi => rw [hi]
    next => rfl

theorem State.peerEvent_changes (s : State) (g : Nat) : Frm 32 s (s.peerEvent g) := State.peerEvent_frm (Sub.refl _) (Frm.refl _ s)

/-- What a strobe edge leaves of both groups, and the edge's analogue facts. -/
theorem State.takeEdge_leaves {g k : Nat} {edge : Tq} {e : EdgeSample} (h : Good O Q s) :
    (s.takeEdge g k edge e).grpOf g = s.grpAtEdge g k edge ∧ (s.takeEdge g k edge e).grpOf (1 - g) = s.peerSees (1 - g) s.tm.up
      ∧ (s.takeEdge g k edge e).edgeOf g = e := by
  obtain ⟨es, hreport⟩ := s.oneCycle_changes (fun t => ((t.edgeStarts g k edge).edgeCloses g e (Look.coresIn t.cfgv g)).peerEvent g)
  rw [← State.takeEdge_eq] at hreport
  have hstarts := State.edgeStarts_good (g := g) (k := k) (edge := edge) (State.gathering_good (g := es) h)
  have hstart := (s.gathering es).edgeStarts_changes g k edge
  have hclose := ((s.gathering es).edgeStarts g k edge).edgeCloses_changes g e (Look.coresIn (s.gathering es).cfgv g)
  have hcloses := State.edgeCloses_good (g := g) (e := e) (cores := Look.coresIn (s.gathering es).cfgv g) hstarts
  have hgrp : ∀ i, (((s.gathering es).edgeStarts g k edge).edgeCloses g e (Look.coresIn (s.gathering es).cfgv g)).grpOf i
      = if i = g then s.grpAtEdge g k edge else s.grpOf i :=
    fun i => ((hclose.grpOf (by decide)).trans (hstart.grpOf (by decide))).trans (Cells.get_set h.grp)
  have hcfgv := (hclose.cfgv (by decide) (by decide)).trans (hstart.cfgv (by decide) (by decide))
  have htm := (hclose .tm (by decide)).trans (hstart .tm (by decide))
  have hpeer : g ≠ 1 - g := by omega
  refine ⟨?_, ?_, ?_⟩
  · rw [hreport.grpOf (by decide), State.peerEvent_grpOf hcloses, if_neg hpeer, hgrp, if_pos rfl]
  · rw [hreport.grpOf (by decide), State.peerEvent_grpOf hcloses, if_pos rfl, State.peerSees, hgrp, if_neg hpeer.symm, hcfgv, htm]
    rfl
  · rw [hreport.edgeOf (by decide), (State.peerEvent_changes _ g).edgeOf (by decide), hclose.edgeOf (by decide)]
    exact State.edgeOf_setEdge_self hstarts

theorem State.takeEdge_tm (s : State) (g k : Nat) (edge : Tq) (e : EdgeSample) : (s.takeEdge g k edge e).tm = s.tm :=
  State.takeEdge_frm (Sub.refl _) (Frm.refl _ s) .tm (by decide)

/-- Groups and fields as an edge finds them do not change on the way to it: the instant does. -/
theorem Frm.grpAtEdge {g k : Nat} {edge : Tq} (h : Frm 68719476737 s t) :
    t.grpAtEdge g k edge = { s.grpAtEdge g k edge with frame := some { s.frameFrom g k edge with dueUp := t.tm.up + 200 + 400 * (s.frameFrom g k edge).nMax } } := by
  have hepoch : t.epoch = s.epoch := congrArg FfSt.epoch (h .ff (by decide))
  simp only [State.grpAtEdge, State.frameFrom, h.grpOf (m := 68719476737) (by decide), h.cfgv (m := 68719476737) (by decide) (by decide), hepoch]

theorem State.peerSees_congr {p up : Nat} (hgrp : t.grpOf p = s.grpOf p) (hcfgv : t.cfgv = s.cfgv) : t.peerSees p up = s.peerSees p up := by
  rw [State.peerSees, State.peerSees, hgrp, hcfgv]

theorem gidx_peer (g : Group) : gidx (Group.peer g) = 1 - gidx g := by cases g <;> rfl

theorem gidx_peer_ne (g : Group) : gidx (Group.peer g) ≠ gidx g := by cases g <;> decide

/-! ### The group's instant falls due (R37, R40, R44) -/

/-- The hub at a grid instant, with the fast clocks that its pulses have run on. -/
def State.atInstant (s : State) (edge : Tq) (ns : Nat) : State := (s.reach edge).pllRunAgo ns

theorem State.atInstant_changes (s : State) (edge : Tq) (ns : Nat) : Frm 68719476737 s (s.atInstant edge ns) :=
  State.pllRunAgo_frm (Sub.le (Sub.refl _) (by decide)) (State.reach_frm (Sub.le (Sub.refl _) (by decide)) (Frm.refl _ s))

theorem State.atInstant_tm (s : State) (edge : Tq) (ns : Nat) : (s.atInstant edge ns).tm = (s.reach edge).tm :=
  State.pllRunAgo_frm (Sub.refl _) (Frm.refl _ (s.reach edge)) .tm (by decide)

theorem execStrobeEdge_due {g : Group} {e : EdgeSample} (hsched : Look.scheduled s.cfgv (gidx g) = true)
    (hmode : (s.grpOf (gidx g)).mode = .waitingStart ∨ (s.grpOf (gidx g)).mode = .running) (hframe : (s.grpOf (gidx g)).frame = none) :
    execStrobeEdge g e s = .next ((s.atInstant (Look.edgeT s.cfgv (gidx g) (s.grpOf (gidx g)).nextK) (Look.longestLead s.cfgv (gidx g) + 40000)).takeEdge
      (gidx g) (s.grpOf (gidx g)).nextK (Look.edgeT s.cfgv (gidx g) (s.grpOf (gidx g)).nextK) e) :=
  if_pos ⟨hsched, hmode, by rw [hframe]; rfl⟩

/-- The hub at the delayed strobe of an accepted event, which counts the event (R44, R47). -/
def State.atEvent (s : State) (g up : Nat) : State := (s.reachUp up).updGrp g (fun y => { y with evNext := (s.grpOf g).evNext + 1 })

theorem State.atEvent_good {g up : Nat} (h : Good O Q s) : Good O Q (s.atEvent g up) := State.updGrp_good (State.reachUp_good h)

theorem State.atEvent_grpOf {g up i : Nat} (h : Good O Q s) :
    (s.atEvent g up).grpOf i = if i = g then { s.grpOf g with evNext := (s.grpOf g).evNext + 1 } else s.grpOf i := by
  rw [State.atEvent, State.grpOf_updGrp (State.reachUp_good h), (s.reachUp_changes up).grpOf (by decide), (s.reachUp_changes up).grpOf (by decide)]

theorem State.atEvent_cfgv (s : State) (g up : Nat) : (s.atEvent g up).cfgv = s.cfgv := (s.reachUp_changes up).cfgv (by decide) (by decide)

theorem execEventStrobeEdge_due {g : Group} {e : EdgeSample} {up : Nat} (hpend : (s.grpOf (gidx g)).pendEdge = some up) (hframe : (s.grpOf (gidx g)).frame = none) :
    execEventStrobeEdge g e s = .next (((s.atEvent (gidx g) up).takeEdge (gidx g) (s.grpOf (gidx g)).evNext (placeEdge (s.reachUp up).now) e).nameFrame
      (gidx g) (s.grpOf (gidx g)).evNext (placeEdge (s.reachUp up).now)) := by
  simp only [execEventStrobeEdge, hpend, hframe]
  rfl

theorem State.nameFrame_changes (s : State) (g k : Nat) (edge : Tq) : Frm 13186891792 s (s.nameFrame g k edge) :=
  State.nameFrame_frm (Sub.refl _) (Frm.refl _ s)

/-! ### The ready time of a frame (R33) -/

/-- The frame in hand is complete: what is left of its conversions times out, and its results go where results go. -/
def State.frameEnds (s : State) (n : Nat) (f : FrameSt) : State :=
  let chans := Look.groupChannels s.cfgv n
  let s := s.each (Look.coresIn s.cfgv n) (fun k t => t.finishScan f k)
  let rs := s.frameResults chans
  let s := s.hivePut n f rs
  let s := if f.undelivered then s else s.frameDeliver n f rs
  s.each rs (fun r t => t.reversal r.1 r.2.1)

/-- A group whose frame has completed. -/
def GroupSt.ready (x : GroupSt) (f : FrameSt) : GroupSt :=
  { x with frame := none, doneK := f.k, lastSlots := f.nMax, diagLast := f.diag, resetDue := false, closeDue := false }

/-- What waited for the group's frame, as the group stood before it completed (R236, R507). -/
def State.dueFollows (s : State) (n : Nat) (due : GroupSt) : State :=
  ((s.doIf due.closeDue (fun t => t.closeStreams (t.streamsOf n))).doIf due.resetDue (fun t => t.groupAnew n)).mainsBoundary n

/-- What every frame boundary brings. -/
def State.boundaryFollows (s : State) (n k : Nat) : State := (s.followCuts.copyJobs.hiveFit).flipBoundary n k

theorem State.frameReady_eq (s : State) (n : Nat) (f : FrameSt) :
    s.frameReady n f = (((((s.frameEnds n f).updGrp n (fun x => x.ready f)).dueFollows n ((s.frameEnds n f).grpOf n)).loseDeferred n).boundaryFollows n f.k) := rfl

/-- Every part but those of the groups, of the time and of OTP and queue. -/
def boundarySet : Nat := 17592186044380

theorem State.frameEnds_changes (s : State) (n : Nat) (f : FrameSt) : Frm boundarySet s (s.frameEnds n f) := by
  have hm := Sub.refl boundarySet
  have hput : ∀ rs, Frm boundarySet s ((s.each (Look.coresIn s.cfgv n) (fun k t => t.finishScan f k)).hivePut n f rs) := fun _ =>
    State.hivePut_frm (hm.le (by decide)) (State.each_frm (Frm.refl _ s) (fun _ _ => State.finishScan_frm (hm.le (by decide))))
  exact State.each_frm (frm_ite (hput _) (State.frameDeliver_frm (hm.le (by decide)) (hput _))) (fun _ _ => State.reversal_frm (hm.le (by decide)))

theorem State.frameEnds_good {n : Nat} {f : FrameSt} (h : Good O Q s) : Good O Q (s.frameEnds n f) := by
  have hput : ∀ rs, Good O Q ((s.each (Look.coresIn s.cfgv n) (fun k t => t.finishScan f k)).hivePut n f rs) := fun _ =>
    State.hivePut_good (State.each_good h (fun _ _ => State.finishScan_good))
  exact State.each_good (good_ite (hput _) (State.frameDeliver_good (hput _))) (fun _ _ => State.reversal_good)

theorem State.dueFollows_changes (s : State) (n : Nat) (due : GroupSt) : Frm boundarySet s (s.dueFollows n due) := by
  have hm := Sub.refl boundarySet
  have hclosed : Frm boundarySet s (s.doIf due.closeDue (fun t => t.closeStreams (t.streamsOf n))) :=
    State.doIf_frm (Frm.refl _ s) (State.closeStreams_frm (hm.le (by decide)) (Frm.refl _ s))
  exact State.mainsBoundary_frm (hm.le (by decide)) (State.doIf_frm hclosed (State.groupAnew_frm (hm.le (by decide)) hclosed))

theorem State.dueFollows_good {n : Nat} {due : GroupSt} (h : Good O Q s) : Good O Q (s.dueFollows n due) := by
  have hclosed : Good O Q (s.doIf due.closeDue (fun t => t.closeStreams (t.streamsOf n))) := State.doIf_good h (State.closeStreams_good h)
  exact State.mainsBoundary_good (State.doIf_good hclosed (State.groupAnew_good hclosed))

/-- The losses that waited for the frame begin, and none waits any longer. -/
theorem State.loseDeferred_grpOf {n i : Nat} (h : Good O Q s) :
    (s.loseDeferred n).grpOf i = if i = n then { s.grpOf n with deferred := [] } else s.grpOf i := by
  have hm := Sub.refl boundarySet
  have hlost : Frm boundarySet (s.updGrp n (fun x => { x with deferred := [] })) (s.loseDeferred n) :=
    State.each_frm (Frm.refl _ _) (fun _ _ => State.loseNow_frm (hm.le (by decide)))
  rw [hlost.grpOf (by decide), State.grpOf_updGrp h]

theorem State.boundaryFollows_changes (s : State) (n k : Nat) : Frm 17592186044381 s (s.boundaryFollows n k) := by
  have hm := Sub.refl 17592186044381
  exact State.flipBoundary_frm (hm.le (by decide)) (State.hiveFit_frm (hm.le (by decide)) (State.copyJobs_frm (hm.le (by decide))
    (State.followCuts_frm (hm.le (by decide)) (Frm.refl _ s))))

/-- A group's ready time completes its frame and leaves the other group alone. -/
theorem State.frameReady_grpOf {n i : Nat} {f : FrameSt} (h : Good O Q s) :
    (s.frameReady n f).grpOf i = if i = n then { (s.grpOf n).ready f with deferred := [] } else s.grpOf i := by
  have hends := State.frameEnds_good (n := n) (f := f) h
  have hgrp : ∀ j, (((s.frameEnds n f).updGrp n (fun x => x.ready f)).dueFollows n ((s.frameEnds n f).grpOf n)).grpOf j
      = if j = n then (s.grpOf n).ready f else s.grpOf j := by
    intro j
    rw [(State.dueFollows_changes _ n _).grpOf (by decide), State.grpOf_updGrp hends, (s.frameEnds_changes n f).grpOf (by decide),
      (s.frameEnds_changes n f).grpOf (by decide)]
  rw [State.frameReady_eq, (State.boundaryFollows_changes _ n f.k).grpOf (by decide),
    State.loseDeferred_grpOf (State.dueFollows_good (State.updGrp_good hends)), hgrp, if_pos rfl, hgrp]
  split <;> rfl

theorem execFrameReady_due {g : Group} {f : FrameSt} (hframe : (s.grpOf (gidx g)).frame = some f) :
    execFrameReady g s = .next ((s.reachUp f.dueUp).oneCycle (fun t => t.frameReady (gidx g) f)) := by
  simp only [execFrameReady, hframe]

/-- The same in the cycle of the ready time. -/
theorem State.frameReady_leaves {n i : Nat} {f : FrameSt} (h : Good O Q s) :
    ((s.reachUp f.dueUp).oneCycle (fun t => t.frameReady n f)).grpOf i = if i = n then { (s.grpOf n).ready f with deferred := [] } else s.grpOf i := by
  obtain ⟨es, hreport⟩ := (s.reachUp f.dueUp).oneCycle_changes (fun t => t.frameReady n f)
  have hgrp : ∀ j, ((s.reachUp f.dueUp).gathering es).grpOf j = s.grpOf j := fun j => (s.reachUp_changes f.dueUp).grpOf (by decide)
  rw [hreport.grpOf (by decide), State.frameReady_grpOf (State.gathering_good (State.reachUp_good h)), hgrp, hgrp]

/-! ### Strobe edges start frames that complete -/

/-- Settles O11: takeEdge_leaves at the grid's instant and behind an event's delay, and frameReady_leaves at the ready time. -/
theorem strobeEdgesStartFramesThatComplete : Obligations.StrobeEdgesStartFramesThatComplete := by
  intro s hwf g e p peerSees
  have hgood := good_of_wf hwf
  have hpeer : gidx (Group.peer g) = 1 - gidx g := gidx_peer g
  have hne : gidx (Group.peer g) ≠ gidx g := gidx_peer_ne g
  refine ⟨?scheduled, ?event, ?ready⟩
  case scheduled =>
    intro hsched hmode hframe
    refine ⟨_, execStrobeEdge_due hsched hmode hframe, ?_⟩
    have hat := s.atInstant_changes (Look.edgeT s.cfgv (gidx g) (s.grpOf (gidx g)).nextK) (Look.longestLead s.cfgv (gidx g) + 40000)
    have hatGood : Good s.otp s.pending (s.atInstant (Look.edgeT s.cfgv (gidx g) (s.grpOf (gidx g)).nextK) (Look.longestLead s.cfgv (gidx g) + 40000)) :=
      State.pllRunAgo_good (State.reach_good hgood)
    obtain ⟨hgrp, hother, hedge⟩ := State.takeEdge_leaves (g := gidx g) (k := (s.grpOf (gidx g)).nextK)
      (edge := Look.edgeT s.cfgv (gidx g) (s.grpOf (gidx g)).nextK) (e := e) hatGood
    rw [← hpeer] at hother
    refine ⟨?_, ?_, hedge⟩
    · rw [hgrp, hat.grpAtEdge, State.atInstant_tm]
      rfl
    · rw [hother, State.takeEdge_tm, State.peerSees_congr (hat.grpOf (by decide)) (hat.cfgv (by decide) (by decide))]
      rfl
  case event =>
    intro up hpend hframe
    refine ⟨_, execEventStrobeEdge_due hpend hframe, ?_⟩
    obtain ⟨hgrp, hother, hedge⟩ := State.takeEdge_leaves (g := gidx g) (k := (s.grpOf (gidx g)).evNext)
      (edge := placeEdge (s.reachUp up).now) (e := e) (State.atEvent_good (g := gidx g) (up := up) hgood)
    have hname := State.nameFrame_changes ((s.atEvent (gidx g) up).takeEdge (gidx g) (s.grpOf (gidx g)).evNext (placeEdge (s.reachUp up).now) e)
      (gidx g) (s.grpOf (gidx g)).evNext (placeEdge (s.reachUp up).now)
    have htm := hname .tm (by decide)
    have hcounted : (s.atEvent (gidx g) up).grpOf (gidx g) = { s.grpOf (gidx g) with evNext := (s.grpOf (gidx g)).evNext + 1 } :=
      (State.atEvent_grpOf hgood).trans (if_pos rfl)
    have hpeerGrp : (s.atEvent (gidx g) up).grpOf (gidx (Group.peer g)) = s.grpOf (gidx (Group.peer g)) := (State.atEvent_grpOf hgood).trans (if_neg hne)
    have htaken := (hname.grpOf (by decide)).trans hgrp
    rw [← hpeer] at hother
    refine ⟨congrArg GroupSt.lastK htaken, (congrArg GroupSt.evNext htaken).trans (congrArg GroupSt.evNext hcounted), congrArg GroupSt.lastEdge htaken,
      congrArg GroupSt.pendEdge htaken, congrArg GroupSt.mode htaken, ?_, (hname.edgeOf (by decide)).trans hedge⟩
    rw [hname.grpOf (by decide), hother, htm, State.takeEdge_tm, State.peerSees_congr hpeerGrp (s.atEvent_cfgv _ _)]
    rfl
  case ready =>
    intro f hframe
    refine ⟨_, execFrameReady_due hframe, ?_, ?_, (State.oneCycle_good (State.reachUp_good hgood) (fun _ => State.frameReady_good)).wf⟩
    · exact (State.frameReady_leaves hgood).trans (if_pos rfl)
    · exact (State.frameReady_leaves hgood).trans (if_neg hne)

end Sys2Proof.Machine
end

section
/-! PROOFS. Events of a strobe group: accepted, skipped or missed (R43 to R46, R48, R68). -/

namespace Sys2Proof.Machine

open Sys2Proof

variable {O : OtpSt} {Q : List Instr} {s t : State}

/-- A frame holds in every larger set of parts. -/
theorem Frm.mono {a b : Nat} (h : Frm a s t) (hab : Sub a b) : Frm b s t := by
  refine fun p hp => h p (Bool.eq_false_iff.mpr (fun hbit => ?_))
  rw [hab p.bit hbit] at hp
  exact Bool.noConfusion hp

/-! ### The cut of running pulses (R68) -/

/-- Updates of distinct outputs, each of its own output alone, read at any output. P is what the updates keep. -/
theorem State.each_excOf {P : State → Prop} {f : Nat → State → State} {F : Nat → ExcSt → ExcSt} (hkeep : ∀ x t, P t → P (f x t))
    (hf : ∀ x t i, P t → (f x t).excOf i = if i = x then F i (t.excOf i) else t.excOf i) {xs : List Nat} (hxs : xs.Nodup) (i : Nat) :
    ∀ {s : State}, P s → (s.each xs f).excOf i = if i ∈ xs then F i (s.excOf i) else s.excOf i := by
  induction xs with
  | nil => exact fun _ => rfl
  | cons x xs ih =>
    intro s hs
    obtain ⟨hx, hxs⟩ := List.nodup_cons.mp hxs
    refine (ih hxs (hkeep x s hs)).trans ?_
    rw [hf x s i hs]
    by_cases hi : i = x
    · subst hi
      simp [hx]
    · simp [hi]

/-- An output when an event accepted at one time brings an edge at another: its pulse is cut if it would end less than 1,000 ns before the next one starts. -/
def ExcSt.cutBy (x : ExcSt) (lead acceptUp edgeUp : Nat) : ExcSt :=
  if edgeUp - lead < x.endUp + 1000 then { x with cutAt := some (max acceptUp (edgeUp - lead - 1000)) } else x

/-- The cut of one output of a group's event. -/
def State.cutPulse (s : State) (m acceptUp edgeUp : Nat) : State :=
  let start := edgeUp - s.cfgv Fld.excLead m 0
  if start < (s.excOf m).endUp + 1000 then s.updExc m (fun e => { e with cutAt := some (max acceptUp (start - 1000)) }) else s

theorem State.cutPulse_excOf {m acceptUp edgeUp i : Nat} (h : Good O Q s) :
    (s.cutPulse m acceptUp edgeUp).excOf i = if i = m then (s.excOf i).cutBy (s.cfgv Fld.excLead i 0) acceptUp edgeUp else s.excOf i := by
  unfold State.cutPulse ExcSt.cutBy
  dsimp only
  by_cases hi : i = m
  · subst hi
    rw [if_pos rfl]
    split
    · exact State.excOf_updExc_self h
    · rfl
  · rw [if_neg hi]
    split
    · exact State.excOf_updExc_other hi
    · rfl

theorem State.cutPulse_good {m acceptUp edgeUp : Nat} (h : Good O Q s) : Good O Q (s.cutPulse m acceptUp edgeUp) :=
  good_ite (State.updExc_good h) h

theorem State.cutPulse_changes (s : State) (m acceptUp edgeUp : Nat) : Frm 2048 s (s.cutPulse m acceptUp edgeUp) :=
  frm_ite (State.updExc_frm (Sub.refl _) (Frm.refl _ s)) (Frm.refl _ s)

/-- An accepted event cuts the pulses of its group's outputs and of no other. -/
theorem State.excCut_excOf {g acceptUp edgeUp i : Nat} (h : Good O Q s) :
    (s.excCut g acceptUp edgeUp).excOf i = if i < 32 ∧ s.cfgv Fld.excGroup i 0 = g ∧ (s.excOf i).pulsing = true
      then (s.excOf i).cutBy (s.cfgv Fld.excLead i 0) acceptUp edgeUp else s.excOf i := by
  have hcut := State.each_excOf (P := fun t => Good O Q t ∧ t.cfgv = s.cfgv) (f := fun m t => t.cutPulse m acceptUp edgeUp)
    (F := fun m x => x.cutBy (s.cfgv Fld.excLead m 0) acceptUp edgeUp)
    (fun m t ht => ⟨State.cutPulse_good ht.1, ((t.cutPulse_changes m acceptUp edgeUp).cfgv (by decide) (by decide)).trans ht.2⟩)
    (fun m t i ht => by rw [State.cutPulse_excOf ht.1, ht.2])
    ((List.nodup_range (n := 32)).filter (fun m => (s.cfgv Fld.excGroup m 0 == g) && (s.excOf m).pulsing)) i ⟨h, rfl⟩
  refine hcut.trans ?_
  simp only [List.mem_filter, List.mem_range, Bool.and_eq_true, beq_iff_eq]

/-! ### The events of one cycle (R43 to R46) -/

/-- A PEER event among the events of one cycle is taken. -/
def State.peerTaken (s : State) (g : Nat) (es : List EventSource) : State :=
  s.updGrp g (fun x => { x with peerUp := if es.contains .peer then none else x.peerUp })

/-- The events of one converter clock cycle reach a group: several count as coalesced. -/
def State.eventSeen (s : State) (g : Nat) (es : List EventSource) : State :=
  (s.peerTaken g es).doIf (decide (2 ≤ es.length)) (fun t => t.bump (Reg.strb g 8))

/-- A group that accepts an event at a clock edge, with its strobe edge to come. -/
def GroupSt.accepting (x : GroupSt) (clk up : Nat) : GroupSt := { x with pendEdge := some up, starved := false, lastEvUp := clk }

/-- The event of an instant is accepted. -/
def State.acceptEvent (s : State) (g at_ : Nat) : State :=
  let clk := (at_ + 4) / 5 * 5
  let up := clk + 40 + 5 * s.cfgv Fld.strbDelay g 0
  (s.updGrp g (fun x => x.accepting clk up)).excCut g clk up

theorem execStrobeEvent_runs {g : Group} {es on : List EventSource} (hon : es.filter (s.eventCounts (gidx g)) = on)
    (hevents : Look.scheduled s.cfgv (gidx g) = false) (hmode : (s.grpOf (gidx g)).mode = .running) (hne : on ≠ []) :
    execStrobeEvent g es s = .next (if (s.eventSeen (gidx g) on).busyAt (gidx g) (s.eventUp (gidx g) on) = true
      then (s.eventSeen (gidx g) on).bump (Reg.strb (gidx g) 4) else (s.eventSeen (gidx g) on).acceptEvent (gidx g) (s.eventUp (gidx g) on)) := by
  subst hon
  have hruns : ¬ (Look.scheduled s.cfgv (gidx g) = true ∨ (s.grpOf (gidx g)).mode ≠ .running ∨ es.filter (s.eventCounts (gidx g)) = []) := by
    simp [hevents, hmode, hne]
  refine (if_neg hruns).trans ?_
  exact (apply_ite Host.Outcome.next _ _ _).symm

theorem State.eventSeen_good {g : Nat} {es : List EventSource} (h : Good O Q s) : Good O Q (s.eventSeen g es) :=
  State.doIf_good (State.updGrp_good h) (State.setReg_good (State.updGrp_good h))

/-- One event leaves the register window alone. -/
theorem State.eventSeen_one {g : Nat} {es : List EventSource} (hes : es.length = 1) : s.eventSeen g es = s.peerTaken g es := by
  unfold State.eventSeen State.doIf
  rw [hes]
  rfl

theorem State.eventSeen_several {g : Nat} {es : List EventSource} (hes : 2 ≤ es.length) : s.eventSeen g es = (s.peerTaken g es).bump (Reg.strb g 8) :=
  if_pos (decide_eq_true hes)

theorem State.peerTaken_changes (s : State) (g : Nat) (es : List EventSource) : Frm 32 s (s.peerTaken g es) :=
  State.updGrp_frm (Sub.refl _) (Frm.refl _ s)

theorem State.eventSeen_counts (s : State) (g : Nat) (es : List EventSource) : Frm 16 (s.peerTaken g es) (s.eventSeen g es) :=
  State.doIf_frm (Frm.refl _ _) (State.bump_frm (Sub.refl _) (Frm.refl _ _))

theorem State.eventSeen_changes (s : State) (g : Nat) (es : List EventSource) : Frm 48 s (s.eventSeen g es) :=
  ((s.peerTaken_changes g es).mono (Sub.le (Sub.refl _) (by decide))).trans ((s.eventSeen_counts g es).mono (Sub.le (Sub.refl _) (by decide)))

theorem State.eventSeen_grpOf {g i : Nat} {es : List EventSource} (h : Good O Q s) :
    (s.eventSeen g es).grpOf i = if i = g then { s.grpOf g with peerUp := if es.contains .peer then none else (s.grpOf g).peerUp } else s.grpOf i :=
  ((s.eventSeen_counts g es).grpOf (by decide)).trans (State.grpOf_updGrp h)

theorem State.acceptEvent_changes (s : State) (g at_ : Nat) : Frm 2080 s (s.acceptEvent g at_) := by
  have hm := Sub.refl 2080
  exact State.excCut_frm (hm.le (by decide)) (State.updGrp_frm (hm.le (by decide)) (Frm.refl _ s))

/-- Whether a group is busy hangs on its delayed strobe and its frame. -/
theorem State.busyAt_congr {t : State} {g up : Nat} (hpend : (t.grpOf g).pendEdge = (s.grpOf g).pendEdge) (hframe : (t.grpOf g).frame = (s.grpOf g).frame) :
    t.busyAt g up = s.busyAt g up := by
  unfold State.busyAt
  dsimp only
  rw [hpend, hframe]

/-- Neither the taking of a PEER event nor the count of coalesced ones touches what makes a group busy. -/
theorem State.eventSeen_waits {g : Nat} {es : List EventSource} (h : Good O Q s) :
    ((s.eventSeen g es).grpOf g).pendEdge = (s.grpOf g).pendEdge ∧ ((s.eventSeen g es).grpOf g).frame = (s.grpOf g).frame := by
  rw [State.eventSeen_grpOf h, if_pos rfl]
  exact ⟨rfl, rfl⟩

theorem State.eventSeen_busyAt {g up : Nat} {es : List EventSource} (h : Good O Q s) : (s.eventSeen g es).busyAt g up = s.busyAt g up := by
  obtain ⟨hpend, hframe⟩ := State.eventSeen_waits (g := g) (es := es) h
  exact State.busyAt_congr hpend hframe

/-- A group that is not busy accepts. -/
theorem execStrobeEvent_accepts {g : Group} {es on : List EventSource} (h : Good O Q s) (hon : es.filter (s.eventCounts (gidx g)) = on)
    (hevents : Look.scheduled s.cfgv (gidx g) = false) (hmode : (s.grpOf (gidx g)).mode = .running) (hlen : 1 ≤ on.length)
    (hfree : s.busyAt (gidx g) (s.eventUp (gidx g) on) = false) :
    execStrobeEvent g es s = .next ((s.eventSeen (gidx g) on).acceptEvent (gidx g) (s.eventUp (gidx g) on)) := by
  rw [execStrobeEvent_runs hon hevents hmode (List.length_pos_iff.mp hlen), State.eventSeen_busyAt h, hfree]
  rfl

/-- A busy group misses what reaches it. -/
theorem execStrobeEvent_skips {g : Group} {es on : List EventSource} (h : Good O Q s) (hon : es.filter (s.eventCounts (gidx g)) = on)
    (hevents : Look.scheduled s.cfgv (gidx g) = false) (hmode : (s.grpOf (gidx g)).mode = .running) (hlen : 1 ≤ on.length)
    (hbusy : s.busyAt (gidx g) (s.eventUp (gidx g) on) = true) :
    execStrobeEvent g es s = .next ((s.eventSeen (gidx g) on).bump (Reg.strb (gidx g) 4)) := by
  rw [execStrobeEvent_runs hon hevents hmode (List.length_pos_iff.mp hlen), State.eventSeen_busyAt h, hbusy]
  rfl

theorem State.acceptEvent_grpOf {g at_ i : Nat} (h : Good O Q s) :
    (s.acceptEvent g at_).grpOf i
      = if i = g then (s.grpOf g).accepting ((at_ + 4) / 5 * 5) ((at_ + 4) / 5 * 5 + 40 + 5 * s.cfgv Fld.strbDelay g 0) else s.grpOf i :=
  ((State.excCut_frm (Sub.refl _) (Frm.refl _ _)).grpOf (by decide)).trans (State.grpOf_updGrp h)

theorem State.acceptEvent_excOf {g at_ i : Nat} (h : Good O Q s) :
    (s.acceptEvent g at_).excOf i = if i < 32 ∧ s.cfgv Fld.excGroup i 0 = g ∧ (s.excOf i).pulsing = true
      then (s.excOf i).cutBy (s.cfgv Fld.excLead i 0) ((at_ + 4) / 5 * 5) ((at_ + 4) / 5 * 5 + 40 + 5 * s.cfgv Fld.strbDelay g 0) else s.excOf i :=
  State.excCut_excOf (State.updGrp_good h)

/-- The group that has accepted the event of an instant. -/
theorem State.accepted_grpOf {g at_ : Nat} {es : List EventSource} (h : Good O Q s) :
    ((s.eventSeen g es).acceptEvent g at_).grpOf g
      = { (s.grpOf g).accepting ((at_ + 4) / 5 * 5) ((at_ + 4) / 5 * 5 + 40 + 5 * s.cfgv Fld.strbDelay g 0) with
          peerUp := if es.contains .peer then none else (s.grpOf g).peerUp } := by
  rw [State.acceptEvent_grpOf (State.eventSeen_good h), if_pos rfl, State.eventSeen_grpOf h, if_pos rfl,
    (s.eventSeen_changes g es).cfgv (by decide) (by decide)]
  rfl

/-- An accepted event leaves the other group alone. -/
theorem State.accepted_other {g at_ i : Nat} {es : List EventSource} (h : Good O Q s) (hi : i ≠ g) :
    ((s.eventSeen g es).acceptEvent g at_).grpOf i = s.grpOf i := by
  rw [State.acceptEvent_grpOf (State.eventSeen_good h), if_neg hi, State.eventSeen_grpOf h, if_neg hi]

/-- The outputs behind an accepted event. -/
theorem State.accepted_excOf {g at_ i : Nat} {es : List EventSource} (h : Good O Q s) :
    ((s.eventSeen g es).acceptEvent g at_).excOf i = if i < 32 ∧ s.cfgv Fld.excGroup i 0 = g ∧ (s.excOf i).pulsing = true
      then (s.excOf i).cutBy (s.cfgv Fld.excLead i 0) ((at_ + 4) / 5 * 5) ((at_ + 4) / 5 * 5 + 40 + 5 * s.cfgv Fld.strbDelay g 0) else s.excOf i := by
  have hexc : (s.eventSeen g es).excOf i = s.excOf i := congrArg (fun c => Cells.get (fun _ => ExcSt.init) c i) (s.eventSeen_changes g es .exc (by decide))
  rw [State.acceptEvent_excOf (State.eventSeen_good h), hexc, (s.eventSeen_changes g es).cfgv (by decide) (by decide)]

/-- Without a PEER event the events of a cycle reach the group now (R43). -/
theorem State.eventUp_now {g : Nat} {es : List EventSource} (hes : es.contains .peer = false) : s.eventUp g es = s.tm.up := by
  unfold State.eventUp
  rw [hes]
  rfl

theorem execStarved_runs {g : Group} (hevents : Look.scheduled s.cfgv (gidx g) = false) (hmode : (s.grpOf (gidx g)).mode = .running)
    (hfresh : (s.grpOf (gidx g)).starved = false) :
    execStarved g s = .next (((s.reachUp ((s.grpOf (gidx g)).lastEvUp + 10000000)).setGrp (gidx g) { s.grpOf (gidx g) with starved := true }).raise
      (errAt 0 (Reg.strb (gidx g) 0) 7 (gidx g))) :=
  if_neg (by simp [hevents, hmode, hfresh])

/-! ### Events are accepted, skipped or missed -/

/-- Settles O12: execStrobeEvent_accepts or execStrobeEvent_skips, and what each leaves of groups, outputs and counters. -/
theorem eventsAreAcceptedSkippedOrMissed : Obligations.EventsAreAcceptedSkippedOrMissed := by
  intro s hwf g es on hon hevents hmode clk taken
  have hgood := good_of_wf hwf
  have hne := gidx_peer_ne g
  have hseen := State.eventSeen_good (g := gidx g) (es := on) hgood
  have hcounters : Reg.strb (gidx g) 8 ≠ Reg.strb (gidx g) 4 := by unfold Reg.strb; omega
  refine ⟨?one, ?several, ?missed, ?skipped, fun hfresh => execStarved_runs hevents hmode hfresh⟩
  case one =>
    intro hlen hfree
    refine ⟨_, execStrobeEvent_accepts hgood hon hevents hmode hlen.ge hfree, State.accepted_grpOf hgood, State.accepted_other hgood hne, ?_, ?_⟩
    · intro m hm
      rw [State.accepted_excOf hgood]
      by_cases hcut : s.cfgv Fld.excGroup m 0 = gidx g ∧ (s.excOf m).pulsing = true
      · rw [if_pos ⟨hm, hcut⟩]
        unfold ExcSt.cutBy
        simp only [hcut, true_and]
        rfl
      · rw [if_neg (fun h => hcut h.2), if_neg (fun h => hcut ⟨h.1, h.2.1⟩)]
    · rw [State.eventSeen_one hlen]
      have htaken := (s.peerTaken_changes (gidx g) on).mono (Sub.le (Sub.refl 2080) (by decide))
      exact (htaken.trans (State.acceptEvent_changes _ _ _)).keepsParts (by decide)
  case several =>
    intro hlen hfree
    refine ⟨_, execStrobeEvent_accepts hgood hon hevents hmode (by omega) hfree, State.accepted_grpOf hgood, ?_, State.accepted_other hgood hne, ?_⟩
    · rw [(State.acceptEvent_changes _ _ _).reg (by decide), State.eventSeen_several hlen]
      exact State.reg_setReg_self (State.updGrp_good hgood)
    · have hreached := (s.eventSeen_changes (gidx g) on).mono (Sub.le (Sub.refl 2096) (by decide))
      exact (hreached.trans ((State.acceptEvent_changes _ _ _).mono (Sub.le (Sub.refl _) (by decide)))).keepsParts (by decide)
  case missed =>
    intro hlen hpeer hbusy
    rw [State.busy, ← State.eventUp_now (s := s) (g := gidx g) hpeer] at hbusy
    refine ⟨_, execStrobeEvent_skips hgood hon hevents hmode (by omega) hbusy, ?_, ?_, ?_, ?_⟩
    · rw [State.bump_reg hcounters, State.eventSeen_several hlen]
      exact State.reg_setReg_self (State.updGrp_good hgood)
    · refine (State.reg_setReg_self hseen).trans ?_
      rw [State.eventSeen_several hlen, State.bump_reg hcounters.symm]
      rfl
    · refine (State.eventSeen_grpOf hgood).trans ((if_pos rfl).trans ?_)
      rw [hpeer]
      rfl
    · exact (State.bump_frm (Sub.le (Sub.refl _) (by decide)) (s.eventSeen_changes (gidx g) on)).keepsParts (by decide)
  case skipped =>
    intro hlen hbusy
    have hregs : ∀ a, (s.eventSeen (gidx g) on).reg a = s.reg a := fun a => by rw [State.eventSeen_one hlen]; rfl
    refine ⟨_, execStrobeEvent_skips hgood hon hevents hmode hlen.ge hbusy, ?_, ?_, ?_, ?_⟩
    · exact (State.reg_setReg_self hseen).trans (congrArg (fun w : W32 => w.satAdd 1) (hregs _))
    · exact (State.eventSeen_waits hgood).1
    · exact fun a ha => (State.bump_reg ha).trans (hregs a)
    · exact (State.bump_frm (Sub.le (Sub.refl _) (by decide)) (s.eventSeen_changes (gidx g) on)).keepsParts (by decide)

end Sys2Proof.Machine
end

section
/-! PROOFS. The end of a conversion (R28, R29, R32, R99, R100, R102 to R106). -/

namespace Sys2Proof.Machine

open Sys2Proof

variable {O : OtpSt} {Q : List Instr} {s t : State}

/-! ### What a result hangs on -/

/-- A core's part in results: its standing marks and what its temperature reading is worth. -/
def CoreSt.readsAs (x y : CoreSt) : Prop := y.marksPlaus = x.marksPlaus ∧ y.marksRef = x.marksRef ∧ y.tSensor = x.tSensor ∧ y.t16 = x.t16

/-- Two states give every conversion the same result: they agree in fields, trim, inputs, outputs and in what results take from the cores. -/
structure State.ReadsAs (s t : State) : Prop where
  cfgv : t.cfgv = s.cfgv
  otp : t.otp = s.otp
  ain : ∀ i, t.ainOf i = s.ainOf i
  exc : ∀ m, t.excOf m = s.excOf m
  core : ∀ n, (s.coreOf n).readsAs (t.coreOf n)

theorem State.ReadsAs.trans {u : State} (h : s.ReadsAs t) (g : t.ReadsAs u) : s.ReadsAs u where
  cfgv := g.cfgv.trans h.cfgv
  otp := g.otp.trans h.otp
  ain i := (g.ain i).trans (h.ain i)
  exc m := (g.exc m).trans (h.exc m)
  core n := by
    obtain ⟨plaus, ref, sensor, temp⟩ := h.core n
    obtain ⟨plaus', ref', sensor', temp'⟩ := g.core n
    exact ⟨plaus'.trans plaus, ref'.trans ref, sensor'.trans sensor, temp'.trans temp⟩

/-- The parts results are read from: fields, OTP, cores, inputs and outputs. -/
def readSet : Nat := 4294970498

/-- Changes outside those parts leave results as they are. -/
theorem Frm.readsAs {m : Nat} (h : Frm m s t) (hm : m &&& readSet = 0) : s.ReadsAs t := by
  have hbit : ∀ i, Nat.testBit readSet i = true → m.testBit i = false := by
    intro i hi
    have hboth := congrArg (fun k => Nat.testBit k i) hm
    rwa [Nat.testBit_and, hi, Bool.and_true, Nat.zero_testBit] at hboth
  exact {
    cfgv := h.cfgv (hbit 32 (by decide)) (hbit 1 (by decide))
    otp := h .otp (hbit 1 (by decide))
    ain := fun i => congrArg (fun c => Cells.get (fun _ => InputSt.init) c i) (h .ain (hbit 10 (by decide)))
    exc := fun i => congrArg (fun c => Cells.get (fun _ => ExcSt.init) c i) (h .exc (hbit 11 (by decide)))
    core := fun i => by
      have hcore : t.coreOf i = s.coreOf i := congrArg (fun c => Cells.get (fun _ => CoreSt.init) c i) (h .core (hbit 7 (by decide)))
      rw [hcore]
      exact ⟨rfl, rfl, rfl, rfl⟩ }

theorem State.ReadsAs.ownTemp (h : s.ReadsAs t) : t.ownTemp = s.ownTemp := by
  funext n
  obtain ⟨-, -, sensor, temp⟩ := h.core n
  rw [State.ownTemp, State.ownTemp, h.cfgv, sensor, temp]

theorem State.ReadsAs.trimTemp (h : s.ReadsAs t) (n : Nat) : t.trimTemp n = s.trimTemp n := by
  unfold State.trimTemp
  rw [h.ownTemp]

theorem State.ReadsAs.code (h : s.ReadsAs t) (n : Nat) (amp : Option Nat) (d : BitVec 22) : t.code n amp d = s.code n amp d := by
  unfold State.code State.coreTrim State.ampTrim
  rw [h.trimTemp, h.otp, h.cfgv]

theorem State.ReadsAs.wiringMark (h : s.ReadsAs t) (i : Nat) : t.wiringMark i = s.wiringMark i := by
  simp only [State.wiringMark, h.cfgv, h.ain]

theorem State.ReadsAs.standingMarks (h : s.ReadsAs t) (i : Nat) : t.standingMarks i = s.standingMarks i := by
  obtain ⟨plaus, ref, -, -⟩ := h.core (i / 8)
  simp only [State.standingMarks, h.cfgv, h.exc, h.wiringMark, plaus, ref]

theorem State.ReadsAs.fullScale (h : s.ReadsAs t) (i : Nat) : t.fullScale i = s.fullScale i := by
  simp only [State.fullScale, h.cfgv, h.ain]

theorem State.ReadsAs.noRatio (h : s.ReadsAs t) (i : Nat) : t.noRatio i = s.noRatio i := by
  simp only [State.noRatio, h.cfgv, h.exc]

theorem State.ReadsAs.inputResult (h : s.ReadsAs t) (i k : Nat) (d : BitVec 22) (completed : Bool) :
    t.inputResult i k d completed = s.inputResult i k d completed := by
  simp only [State.inputResult, h.standingMarks, h.wiringMark, h.fullScale, h.noRatio, h.code, h.cfgv]

/-! ### The cross-check of a partner (R105) -/

/-- A core once its cross-check has counted. -/
def CoreSt.crossed (c : CoreSt) (fail : Bool) : CoreSt :=
  { c with xFails := if fail then c.xFails + 1 else 0, xPasses := if fail then 0 else c.xPasses + 1 }

/-- A cross-check has compared two readings: the core has counted, and its registers tell. -/
def State.crossCounted (s : State) (n : Nat) (diff : Int) : State :=
  let fail := decide ((s.cfgv Fld.cnvXchkTol n 0 : Int) < diff.natAbs)
  ((s.setCore n ((s.coreOf n).crossed fail)).setReg (Reg.cnv n 0x10) (BitVec.ofInt 32 diff)).doIf fail (fun t => t.bump (Reg.cnv n 0x14))

/-- PAIR_MISMATCH is entered (R106). -/
def State.pairEnters (s : State) (k : Nat) : State :=
  let t := ((s.setPair k { s.pairOf k with standing := true }).setBit (Reg.cnv (2 * k) 0) 14).setBit (Reg.cnv (2 * k + 1) 0) 14
  t.raise { errAt 2 (Reg.cnv (2 * k) 0) 14 (2 * k) with detail := t.suspect k, recovers := true }

/-- PAIR_MISMATCH ends (R106). -/
def State.pairLeaves (s : State) (k : Nat) : State := ((s.setPair k { s.pairOf k with standing := false }).coreClose (2 * k)).coreClose (2 * k + 1)

/-- A cross-check counts, and may enter or leave PAIR_MISMATCH. -/
theorem State.crossCheck_cases (s : State) (n : Nat) (diff : Int) :
    s.crossCheck n diff = (s.crossCounted n diff).pairEnters (n / 2) ∨ s.crossCheck n diff = (s.crossCounted n diff).pairLeaves (n / 2)
      ∨ s.crossCheck n diff = s.crossCounted n diff :=
  (ite_eq_or_eq _ _ _).imp_right (fun h => (ite_eq_or_eq _ _ _).imp h.trans h.trans)

/-- Pair checks and the reports of their errors. -/
def pairSet : Nat := 1649804312848

theorem State.crossCheck_changes (s : State) (n : Nat) (diff : Int) :
    Frm pairSet (s.setCore n ((s.coreOf n).crossed (decide ((s.cfgv Fld.cnvXchkTol n 0 : Int) < diff.natAbs)))) (s.crossCheck n diff) := by
  have hm := Sub.refl pairSet
  have hdiff := State.setReg_frm (a := Reg.cnv n 0x10) (v := BitVec.ofInt 32 diff) (hm.le (by decide))
    (Frm.refl pairSet (s.setCore n ((s.coreOf n).crossed (decide ((s.cfgv Fld.cnvXchkTol n 0 : Int) < diff.natAbs)))))
  have hcounted : Frm pairSet _ (s.crossCounted n diff) := State.doIf_frm hdiff (State.bump_frm (hm.le (by decide)) hdiff)
  obtain h | h | h := s.crossCheck_cases n diff <;> rw [h]
  · exact State.raise_frm (hm.le (by decide)) (State.setBit_frm (hm.le (by decide)) (State.setBit_frm (hm.le (by decide)) (State.setPair_frm (hm.le (by decide)) hcounted)))
  · exact State.coreClose_frm (hm.le (by decide)) (State.coreClose_frm (hm.le (by decide)) (State.setPair_frm (hm.le (by decide)) hcounted))
  · exact hcounted

theorem State.coreClose_reg {n a : Nat} : (s.coreClose n).reg a = s.reg a := by
  unfold State.coreClose
  dsimp only
  split <;> rfl

/-- The registers of a cross-check are CNV_STATUS, XCHK_DIFF and XCHK_FAILS: a core's count of timeouts is none of them. -/
theorem State.crossCheck_timeouts {n k : Nat} (hk : k < 64) {diff : Int} : (s.crossCheck n diff).reg (Reg.cnv k 0x18) = s.reg (Reg.cnv k 0x18) := by
  have hother : ∀ j off, off < 0x18 → Reg.cnv k 0x18 ≠ Reg.cnv j off := by
    intro j off hoff
    unfold Reg.cnv
    omega
  have hcounted : (s.crossCounted n diff).reg (Reg.cnv k 0x18) = s.reg (Reg.cnv k 0x18) := by
    unfold State.crossCounted State.doIf
    dsimp only
    split
    · exact (State.bump_reg (hother n 0x14 (by decide))).trans (State.reg_setReg_other (hother n 0x10 (by decide)))
    · exact State.reg_setReg_other (hother n 0x10 (by decide))
  rw [← hcounted]
  obtain h | h | h := s.crossCheck_cases n diff <;> rw [h]
  · have hquiet : quietReg (Reg.cnv k 0x18) := by
      unfold quietReg Reg.cnv
      omega
    exact (State.raise_reg hquiet).trans ((State.setBit_reg (hother _ 0 (by decide))).trans (State.setBit_reg (hother _ 0 (by decide))))
  · exact State.coreClose_reg.trans State.coreClose_reg

/-- A cross-check that may run leaves the results, every other core and the counts of timeouts alone. -/
theorem State.tryCross_leaves {n k j : Nat} (hk : k < 64) (hj : j ≠ n) :
    (s.tryCross n).res = s.res ∧ (s.tryCross n).coreOf j = s.coreOf j ∧ (s.tryCross n).reg (Reg.cnv k 0x18) = s.reg (Reg.cnv k 0x18) := by
  have hcross : ∀ diff, (s.crossCheck n diff).res = s.res ∧ (s.crossCheck n diff).coreOf j = s.coreOf j
      ∧ (s.crossCheck n diff).reg (Reg.cnv k 0x18) = s.reg (Reg.cnv k 0x18) := by
    intro diff
    have hcore := congrArg (fun c => Cells.get (fun _ => CoreSt.init) c j) (s.crossCheck_changes n diff .core (by decide))
    exact ⟨s.crossCheck_changes n diff .res (by decide), hcore.trans (State.coreOf_setCore_other hj), State.crossCheck_timeouts hk⟩
  unfold State.tryCross
  dsimp only
  split
  · split
    · exact ⟨rfl, rfl, rfl⟩
    · exact hcross _
  · exact ⟨rfl, rfl, rfl⟩

/-! ### A conversion that timed out -/

theorem State.timedOut_changes (s : State) (n : Nat) (injected : Bool) : Frm 6047850823696 s (s.timedOut n injected) :=
  State.timedOut_frm (Sub.refl _) (Frm.refl _ s)

/-- A timeout counts (Table 4-2). -/
theorem State.timedOut_counts {n : Nat} (h : Good O Q s) (hn : n < 64) : (s.timedOut n false).reg (Reg.cnv n 0x18) = (s.reg (Reg.cnv n 0x18)).satAdd 1 := by
  have hstatus : Reg.cnv n 0x18 ≠ Reg.cnv n 0 := by
    unfold Reg.cnv
    omega
  have hquiet : quietReg (Reg.cnv n 0x18) := by
    unfold quietReg Reg.cnv
    omega
  exact (State.setBitRaise_reg hstatus hquiet).trans (State.reg_setReg_self h)

/-! ### The next conversion of a core ends (R32) -/

/-- The core that shares a pair with a core. -/
def partnerCore (n : Nat) : Nat := if n % 2 = 0 then n + 1 else n - 1

theorem partnerCore_ne (n : Nat) : n ≠ partnerCore n := by
  unfold partnerCore
  split <;> omega

/-- The hub at the end of a conversion, with the core's order one place on. -/
def State.convEnds (s : State) (n up : Nat) : State := (s.reachUp up).updCore n (fun x => { x with pos := (s.coreOf n).pos + 1 })

theorem State.convEnds_changes (s : State) (n up : Nat) : Frm 129 s (s.convEnds n up) :=
  State.updCore_frm (Sub.le (Sub.refl _) (by decide)) (State.reachUp_frm (Sub.le (Sub.refl _) (by decide)) (Frm.refl _ s))

theorem State.convEnds_good {n up : Nat} (h : Good O Q s) : Good O Q (s.convEnds n up) := State.updCore_good (State.reachUp_good h)

theorem State.convEnds_coreOf {n up i : Nat} (h : Good O Q s) :
    (s.convEnds n up).coreOf i = if i = n then { s.coreOf n with pos := (s.coreOf n).pos + 1 } else s.coreOf i := by
  have hcore : ∀ j, (s.reachUp up).coreOf j = s.coreOf j := fun j =>
    congrArg (fun c => Cells.get (fun _ => CoreSt.init) c j) (s.reachUp_changes up .core (by decide))
  refine (Cells.get_set (State.reachUp_good h).core).trans ?_
  rw [hcore]
  exact if_congr Iff.rfl rfl (hcore i)

/-- A core's place in its order is none of its results' business. -/
theorem State.convEnds_readsAs {n up : Nat} (h : Good O Q s) : s.ReadsAs (s.convEnds n up) := by
  have hreach := (s.reachUp_changes up).readsAs (by decide)
  exact { cfgv := hreach.cfgv, otp := hreach.otp, ain := hreach.ain, exc := hreach.exc
          core := fun i => by
            rw [State.convEnds_coreOf h]
            split
            next hi => rw [hi]; exact ⟨rfl, rfl, rfl, rfl⟩
            next => exact ⟨rfl, rfl, rfl, rfl⟩ }

theorem State.convEnds_injOf (s : State) (n up target action index : Nat) : (s.convEnds n up).injOf target action index = s.injOf target action index :=
  congrArg (List.find? _) (s.convEnds_changes n up .inj (by decide))

theorem State.timedOut_injOf (s : State) (n : Nat) (injected : Bool) (target action index : Nat) :
    (s.timedOut n injected).injOf target action index = s.injOf target action index :=
  congrArg (List.find? _) (s.timedOut_changes n injected .inj (by decide))

/-- The slot that stands next ends its conversion, over what its hold closed on. -/
theorem execConversionDone_next {n : Fin 64} {slot : Fin 12} {noise : Nat} {completed : Bool} {f : FrameSt}
    (hframe : (s.grpOf (Look.coreGroup s.cfgv n)).frame = some f) (hslot : (Look.slots s.cfgv n f.diag)[(s.coreOf n).pos]? = some slot.val)
    (hinj : s.injOf 6 5 n = none) :
    execConversionDone n slot noise completed s
      = .next ((s.convEnds n (f.convEnd (s.coreOf n).pos)).convert n slot f.k (s.decisions n slot noise) completed false) := by
  have hpending := (s.convEnds_injOf n (f.convEnd (s.coreOf n).pos) 6 5 n).trans hinj
  unfold State.convEnds at hpending
  simp [execConversionDone, hframe, hslot, hpending, State.doIf, State.convEnds]

/-- A slot that does not stand next ends nothing. -/
theorem execConversionDone_other {n : Fin 64} {slot other : Fin 12} {noise : Nat} {completed : Bool} {f : FrameSt}
    (hframe : (s.grpOf (Look.coreGroup s.cfgv n)).frame = some f) (hslot : (Look.slots s.cfgv n f.diag)[(s.coreOf n).pos]? = some slot.val) (hother : other ≠ slot) :
    execConversionDone n other noise completed s = .next s := by
  have hnext : (Look.slots s.cfgv n f.diag)[(s.coreOf n).pos]? ≠ some other.val := by
    rw [hslot]
    exact fun h => hother (Fin.ext (Option.some.inj h).symm)
  simp only [execConversionDone, hframe]
  exact if_pos hnext

/-! ### An input slot (R99, R100) -/

/-- The end of a conversion counts a timeout before it stores the slot's result. -/
def State.countTimeout (s : State) (n : Nat) (completed : Bool) : State := s.doIf (!completed) (fun t => t.timedOut n false)

theorem State.countTimeout_completed (s : State) (n : Nat) : s.countTimeout n true = s := rfl

theorem State.countTimeout_changes (s : State) (n : Nat) (completed : Bool) : Frm 6047850823696 s (s.countTimeout n completed) :=
  State.doIf_frm (Frm.refl _ s) (s.timedOut_changes n false)

theorem State.countTimeout_good {n : Nat} {completed : Bool} (h : Good O Q s) : Good O Q (s.countTimeout n completed) :=
  State.doIf_good h (State.timedOut_good h)

/-- The result stands, and the partner's cross-check may follow. -/
theorem State.inputDone_leaves {n slot k : Nat} {d : BitVec 22} {completed : Bool} (h : Good O Q s) (hn : n < 64) :
    (∀ j, (s.inputDone n slot k d completed).resOf j = if j = 8 * n + slot then some (s.inputResult (8 * n + slot) k d completed) else s.resOf j)
      ∧ (s.inputDone n slot k d completed).coreOf n = s.coreOf n
      ∧ (s.inputDone n slot k d completed).reg (Reg.cnv n 0x18) = s.reg (Reg.cnv n 0x18) := by
  have hstored : ∀ j, (s.setRes (8 * n + slot) (some (s.inputResult (8 * n + slot) k d completed))).resOf j
      = if j = 8 * n + slot then some (s.inputResult (8 * n + slot) k d completed) else s.resOf j := fun j => Cells.get_set h.res
  obtain ⟨hres, hcore, hreg⟩ := State.tryCross_leaves (s := s.setRes (8 * n + slot) (some (s.inputResult (8 * n + slot) k d completed))) hn (partnerCore_ne n)
  have heq : s.inputDone n slot k d completed
      = let t := s.setRes (8 * n + slot) (some (s.inputResult (8 * n + slot) k d completed))
        if Look.owning t.cfgv (partnerCore n) = 8 * n + slot then t.tryCross (partnerCore n) else t := rfl
  rw [heq]
  dsimp only
  split
  · exact ⟨fun j => (congrArg (fun c => Cells.get (fun _ => (none : Option ResultSt)) c j) hres).trans (hstored j), hcore, hreg⟩
  · exact ⟨hstored, rfl, rfl⟩

/-- The parts an input slot's conversion can change. -/
theorem State.inputConvert_changes (s : State) (n up slot k : Nat) (d : BitVec 22) (completed : Bool) :
    Frm 6047850824593 s (((s.convEnds n up).countTimeout n completed).inputDone n slot k d completed) := by
  have hm := Sub.refl 6047850824593
  have hends : Frm 6047850824593 s (s.convEnds n up) := State.updCore_frm (hm.le (by decide)) (State.reachUp_frm (hm.le (by decide)) (Frm.refl _ s))
  exact State.inputDone_frm (hm.le (by decide)) (State.doIf_frm hends (State.timedOut_frm (hm.le (by decide)) hends))

/-! ### A self-check's slot (R102 to R104) -/

/-- Without an injection a self-check judges the code itself; a timeout is not judged. -/
theorem State.checkDone_judges {n slot : Nat} {d : BitVec 22} {completed : Bool} (hslot : slot ≠ 11) (hinj : s.injOf 6 (slot - 7) n = none) :
    s.checkDone n slot d completed = if completed = true
      then (if slot = 8 then s.refCheck n (clampInt (-524288) 524287 (s.code n none d).1)
        else if slot = 9 then s.supplyCheck n (clampInt (-524288) 524287 (s.code n none d).1) else s.tempCheck n (clampInt (-524288) 524287 (s.code n none d).1))
      else s := by
  cases completed <;> simp [State.checkDone, State.injCode, State.doIf, State.underInj, hslot, hinj]

/-- Without an injection slot 11 stands for the cross-check, over the owning channel's amplifier. -/
theorem State.checkDone_slot11 {n : Nat} {d : BitVec 22} (hinj : s.injOf 6 4 n = none) :
    s.checkDone n 11 d true = (s.updCore n (fun x => { x with slot11 := some ⟨clampInt (-524288) 524287 (s.code n (some (Look.owning s.cfgv n)) d).1,
      if (s.code n (some (Look.owning s.cfgv n)) d).2 then 1 else 0, clampInt (-524288) 524287 (s.code n (some (Look.owning s.cfgv n)) d).1, false, false⟩ })).tryCross n := by
  simp [State.checkDone, State.injCode, State.doIf, State.underInj, hinj]

theorem State.convert_input {n slot k : Nat} {d : BitVec 22} {completed : Bool} (hslot : slot < 8) :
    s.convert n slot k d completed false = (s.countTimeout n completed).inputDone n slot k d completed := if_pos hslot

theorem State.convert_check {n slot k : Nat} {d : BitVec 22} {completed : Bool} (hslot : 8 ≤ slot) :
    s.convert n slot k d completed false = (s.countTimeout n completed).checkDone n slot d completed := if_neg (by omega)

/-! ### A conversion stores its result or runs a self-check -/

/-- Settles O13: execConversionDone_next, then inputDone_leaves for an input and checkDone_judges or checkDone_slot11 for a self-check. -/
theorem conversionStoresItsResult : Obligations.ConversionStoresItsResult := by
  intro s hwf n slot noise f hframe hslot hinj d w
  have hgood := good_of_wf hwf
  have hwGood : Good s.otp s.pending w := State.convEnds_good hgood
  have hnext : ∀ completed, exec (.conversionDone n slot noise completed) s = .next (w.convert n slot f.k d completed false) :=
    fun completed => execConversionDone_next hframe hslot hinj
  have hpending : ∀ action, w.injOf 6 action n = s.injOf 6 action n := fun action => s.convEnds_injOf _ _ _ _ _
  refine ⟨?input, ?timeout, ?ref, ?supply, ?temp, ?cross, fun completed other hother => execConversionDone_other hframe hslot hother⟩
  case input =>
    intro completed hlow
    rw [Runs, hnext, State.convert_input hlow]
    obtain ⟨hres, hcore, hreg⟩ := State.inputDone_leaves (slot := slot) (k := f.k) (d := d) (completed := completed)
      (State.countTimeout_good (n := n) (completed := completed) hwGood) n.isLt
    have hcount := w.countTimeout_changes n completed
    have hreads := (State.convEnds_readsAs (n := n) (up := f.convEnd (s.coreOf n).pos) hgood).trans (hcount.readsAs (by decide))
    have hresOf : ∀ j, (w.countTimeout n completed).resOf j = s.resOf j := fun j =>
      congrArg (fun c => Cells.get (fun _ => (none : Option ResultSt)) c j) ((hcount .res (by decide)).trans (s.convEnds_changes _ _ .res (by decide)))
    have hpos : (w.countTimeout n completed).coreOf n = w.coreOf n := congrArg (fun c => Cells.get (fun _ => CoreSt.init) c n.val) (hcount .core (by decide))
    refine ⟨_, rfl, ?_, ?_, ?_, ?_, ?_, ?_⟩
    · rw [hres, if_pos rfl, hreads.inputResult]
    · exact fun j hj => (hres j).trans ((if_neg hj).trans (hresOf j))
    · rw [hcore, hpos]
      exact congrArg CoreSt.pos ((State.convEnds_coreOf hgood).trans (if_pos rfl))
    · exact (State.inputDone_frm (Sub.refl _) (Frm.refl _ _) .tm (by decide)).trans (hcount .tm (by decide))
    · rintro rfl
      rw [hreg]
      exact (State.timedOut_counts hwGood n.isLt).trans (congrArg (fun v : W32 => v.satAdd 1) ((s.convEnds_changes _ _).reg (by decide)))
    · exact (s.inputConvert_changes _ _ _ _ _ _).keepsParts (by decide)
  case timeout =>
    intro completed hcheck hfailed hfree
    have hslot11 : slot.val ≠ 11 := by omega
    subst hfailed
    rw [hnext, State.convert_check (by omega), State.checkDone_judges hslot11]
    · rfl
    · exact ((w.timedOut_injOf n false 6 _ n).trans (hpending _)).trans hfree
  case ref =>
    intro hnum hfree
    rw [hnext, hnum, State.convert_check (by decide), State.countTimeout_completed, State.checkDone_judges (by decide) ((hpending 1).trans hfree)]
    rfl
  case supply =>
    intro hnum hfree
    rw [hnext, hnum, State.convert_check (by decide), State.countTimeout_completed, State.checkDone_judges (by decide) ((hpending 2).trans hfree)]
    rfl
  case temp =>
    intro hnum hfree
    rw [hnext, hnum, State.convert_check (by decide), State.countTimeout_completed, State.checkDone_judges (by decide) ((hpending 3).trans hfree)]
    rfl
  case cross =>
    intro hnum hfree
    have hcfgv : w.cfgv = s.cfgv := (s.convEnds_changes _ _).cfgv (by decide) (by decide)
    rw [hnext, hnum, State.convert_check (by decide), State.countTimeout_completed, State.checkDone_slot11 ((hpending 4).trans hfree), hcfgv]

end Sys2Proof.Machine
end

section
/-! PROOFS. Excitation outputs: faults, pulses that end well, re-arming, and the start and end of pulses (R67 to R85). -/

namespace Sys2Proof.Machine

open Sys2Proof

variable {O : OtpSt} {Q : List Instr} {s t : State} {m i : Nat}

/-! ### Reading outputs and their registers -/

theorem Frm.excOf {n : Nat} (h : Frm m s t) (hm : m.testBit 11 = false) : t.excOf n = s.excOf n :=
  congrArg (fun c => Cells.get (fun _ => ExcSt.init) c n) (h .exc hm)

/-- A change of one output, read anywhere. -/
theorem State.excOf_updExc {f : ExcSt → ExcSt} (h : Good O Q s) : (s.updExc m f).excOf i = if i = m then f (s.excOf m) else s.excOf i :=
  Cells.get_set h.exc

theorem Reg.excShortCount_ne_excStatus : Reg.excShortCount m ≠ Reg.excStatus m := by
  unfold Reg.excShortCount Reg.excStatus
  omega

theorem quietReg_excStatus (hm : m < 32) : quietReg (Reg.excStatus m) := by
  unfold quietReg Reg.excStatus
  omega

theorem quietReg_excShortCount (hm : m < 32) : quietReg (Reg.excShortCount m) := by
  unfold quietReg Reg.excShortCount
  omega

/-- A value other than the reset value is read back, canonical store or not: only the reset value is left unlisted. -/
theorem Cells.get_set_listed {α : Type} [DecidableEq α] {d : Nat → α} {c : Cells α} {a : Nat} {v : α} (hv : v ≠ d a) : Cells.get d (Cells.set d c a v) a = v := by
  have hput : ∀ rest : Cells α, Cells.get d (Cells.put d a v rest) a = v := fun rest => by rw [Cells.put, if_neg hv, Cells.get, if_pos rfl]
  induction c with
  | nil => exact hput []
  | cons e rest ih =>
    obtain ⟨k, w⟩ := e
    unfold Cells.set
    split
    · exact hput _
    · split
      · exact hput _
      · rw [Cells.get, if_neg (by omega), ih]

theorem State.reg_setReg_listed {a : Nat} {v : W32} (hv : v ≠ resetWord a) : (s.setReg a v).reg a = v := Cells.get_set_listed hv

theorem State.excOf_updExc_listed {f : ExcSt → ExcSt} (hf : f (s.excOf m) ≠ ExcSt.init) : (s.updExc m f).excOf m = f (s.excOf m) := Cells.get_set_listed hf

/-! ### Faults (R80, R84) -/

/-- An output enters SHORT or REVERSED, before its registers tell. -/
def State.faultMode (s : State) (m : Nat) (k : ExcMode) : State :=
  s.updExc m (fun e => { e with mode := k, faultUp := s.tm.up, retrying := true, isRetry := false, cutAt := none })

/-- The fault of a retry counts in SHORT_RETRIES (Table 3-8). -/
def State.retryCounted (s : State) (m : Nat) (again : Bool) : State := s.doIf again (fun t => t.retryFailed m)

/-- An output that shorts, before its wiring fault is reported. -/
def State.shorted (s : State) (m : Nat) : State := ((s.faultMode m .short).bump (Reg.excShortCount m)).retryCounted m (s.excOf m).isRetry

/-- An output found reversed, before its wiring fault is reported. -/
def State.reversed (s : State) (m : Nat) : State := (s.faultMode m .reversed).retryCounted m (s.excOf m).isRetry

theorem State.toShort_eq (s : State) (m : Nat) : s.toShort m = (s.shorted m).excFault m 10 := rfl

theorem State.toReversed_eq (s : State) (m : Nat) : s.toReversed m = (s.reversed m).excFault m 13 := rfl

theorem State.excFault_changes (s : State) (m b : Nat) : Frm reportSet s (s.excFault m b) := State.excFault_frm (Sub.refl _) (Frm.refl _ s)

/-- The report of a wiring fault leaves EXC_STATUS with the fault's bit set. -/
theorem State.excFault_status {b : Nat} (hm : m < 32) : (s.excFault m b).reg (Reg.excStatus m) = (s.setBit (Reg.excStatus m) b).reg (Reg.excStatus m) :=
  State.raise_reg (quietReg_excStatus hm)

theorem State.excFault_bit {b : Nat} (h : Good O Q s) (hm : m < 32) (hb : b < 32) : (s.excFault m b).bit (Reg.excStatus m) b = true := by
  rw [State.bit, State.excFault_status hm]
  exact State.setBit_bit h hb

theorem State.excFault_reg {a b : Nat} (hquiet : quietReg a) (ha : a ≠ Reg.excStatus m) : (s.excFault m b).reg a = s.reg a :=
  (State.raise_reg hquiet).trans (State.setBit_reg ha)

theorem State.retryCounted_changes (s : State) (m : Nat) (again : Bool) : Frm 16 s (s.retryCounted m again) :=
  State.doIf_frm (Frm.refl _ s) (State.retryFailed_frm (Sub.refl _) (Frm.refl _ s))

theorem State.retryCounted_good {again : Bool} (h : Good O Q s) : Good O Q (s.retryCounted m again) :=
  State.doIf_good h (State.retryFailed_good h)

theorem State.retryCounted_reg {a : Nat} {again : Bool} (ha : a ≠ Reg.excStatus m) : (s.retryCounted m again).reg a = s.reg a := by
  unfold State.retryCounted State.doIf
  split
  · exact State.reg_setReg_other ha
  · rfl

theorem State.shorted_changes (s : State) (m : Nat) : Frm 16 (s.faultMode m .short) (s.shorted m) :=
  Frm.trans (State.bump_frm (Sub.refl _) (Frm.refl _ _)) (State.retryCounted_changes _ m _)

theorem State.shorted_good (h : Good O Q s) : Good O Q (s.shorted m) := State.retryCounted_good (State.bump_good (State.updExc_good h))

theorem State.reversed_good (h : Good O Q s) : Good O Q (s.reversed m) := State.retryCounted_good (State.updExc_good h)

theorem State.toShort_changes (s : State) (m : Nat) : Frm reportSet (s.faultMode m .short) (s.toShort m) :=
  ((s.shorted_changes m).mono (Sub.le (Sub.refl _) (by decide))).trans (State.excFault_changes _ m 10)

theorem State.toReversed_changes (s : State) (m : Nat) : Frm reportSet (s.faultMode m .reversed) (s.toReversed m) :=
  ((State.retryCounted_changes _ m _).mono (Sub.le (Sub.refl _) (by decide))).trans (State.excFault_changes _ m 13)

theorem State.toShort_excOf (h : Good O Q s) : (s.toShort m).excOf i =
    if i = m then { s.excOf m with mode := .short, faultUp := s.tm.up, retrying := true, isRetry := false, cutAt := none } else s.excOf i := by
  rw [(s.toShort_changes m).excOf (by decide)]
  exact State.excOf_updExc h

theorem State.toReversed_excOf (h : Good O Q s) : (s.toReversed m).excOf i =
    if i = m then { s.excOf m with mode := .reversed, faultUp := s.tm.up, retrying := true, isRetry := false, cutAt := none } else s.excOf i := by
  rw [(s.toReversed_changes m).excOf (by decide)]
  exact State.excOf_updExc h

theorem State.toShort_count (h : Good O Q s) (hm : m < 32) : (s.toShort m).reg (Reg.excShortCount m) = (s.reg (Reg.excShortCount m)).satAdd 1 := by
  have hne := Reg.excShortCount_ne_excStatus (m := m)
  rw [State.toShort_eq, State.excFault_reg (quietReg_excShortCount hm) hne, State.shorted, State.retryCounted_reg hne]
  exact State.reg_setReg_self (State.updExc_good h)

theorem State.toShort_seen (h : Good O Q s) (hm : m < 32) : (s.toShort m).bit (Reg.excStatus m) 10 = true :=
  State.excFault_bit (State.shorted_good h) hm (by decide)

theorem State.toReversed_seen (h : Good O Q s) (hm : m < 32) : (s.toReversed m).bit (Reg.excStatus m) 13 = true :=
  State.excFault_bit (State.reversed_good h) hm (by decide)

/-! ### A pulse that ends well (R80, R84) -/

/-- What the end of a handling leaves behind is in the log. -/
theorem State.excClose_changes (s : State) (m : Nat) : Frm 1099511627776 s (s.excClose m) := State.excClose_frm (Sub.refl _) (Frm.refl _ s)

theorem State.goodPulse_excOf (h : Good O Q s) : (s.goodPulse m).excOf i =
    if i = m then { s.excOf m with mode := .idle, cutAt := none, retrying := false, isRetry := false } else s.excOf i :=
  ((State.excClose_changes _ m).excOf (by decide)).trans (State.excOf_updExc (State.setReg_good h))

theorem State.goodPulse_status (h : Good O Q s) : (s.goodPulse m).reg (Reg.excStatus m) = s.reg (Reg.excStatus m) &&& 0x00FFFFFF :=
  ((State.excClose_changes _ m).reg (by decide)).trans (State.reg_setReg_self h)

/-! ### Re-arming by a SEEN bit (R80) -/

theorem State.rearm_status {b : Nat} {k : ExcMode} (h : Good O Q s) :
    (s.rearm m b k).reg (Reg.excStatus m) = s.reg (Reg.excStatus m) &&& ~~~ BitVec.ofNat 32 (2 ^ b) := State.reg_setReg_self h

theorem State.rearm_reg {a b : Nat} {k : ExcMode} (ha : a ≠ Reg.excStatus m) : (s.rearm m b k).reg a = s.reg a := State.clrBit_reg ha

theorem State.rearm_excOf {b : Nat} {k : ExcMode} (h : Good O Q s) : (s.rearm m b k).excOf i =
    if i = m then (if (s.excOf m).mode = k ∧ s.cfgv Fld.excRetry m 0 = 0 then { s.excOf m with mode := .idle, isRetry := false } else s.excOf m)
    else s.excOf i := State.excOf_updExc (State.clrBit_good h)

/-- A SEEN bit written with 1, as the command of either fault has it. -/
theorem State.rearm_leaves {b : Nat} {k : ExcMode} (h : Good O Q s) :
    (s.rearm m b k).reg (Reg.excStatus m) = s.reg (Reg.excStatus m) &&& ~~~ BitVec.ofNat 32 (2 ^ b)
      ∧ (s.rearm m b k).excOf m = (if (s.excOf m).mode = k ∧ s.cfgv Fld.excRetry m 0 = 0 then { s.excOf m with mode := .idle, isRetry := false } else s.excOf m)
      ∧ (∀ a, a ≠ Reg.excStatus m → (s.rearm m b k).reg a = s.reg a) ∧ (∀ j, j ≠ m → (s.rearm m b k).excOf j = s.excOf j)
      ∧ s.keepsBut [.regs, .exc] (s.rearm m b k) :=
  ⟨State.rearm_status h, (State.rearm_excOf h).trans (if_pos rfl), fun _ => State.rearm_reg, fun _ hj => (State.rearm_excOf h).trans (if_neg hj),
    (State.rearm_frm (m := 2064) (Sub.refl _) (Frm.refl _ s)).keepsParts (by decide)⟩

/-- Settles O7: each entry is one change of the output behind which only registers and reports follow. -/
theorem excitationEntriesSetStateAndStickyBit : Obligations.ExcitationEntriesSetStateAndStickyBit := by
  intro s hwf m
  have h := good_of_wf hwf
  refine ⟨⟨?_, State.toShort_count h m.isLt, State.toShort_seen h m.isLt, ?_, ?_⟩, ⟨?_, State.toReversed_seen h m.isLt, ?_, ?_⟩,
    ⟨?_, State.goodPulse_status h, ?_, ?_⟩, ⟨s.rearm m 10 .short, rfl, State.rearm_leaves h⟩, ⟨s.rearm m 13 .reversed, rfl, State.rearm_leaves h⟩⟩
  · exact (State.toShort_excOf h).trans (if_pos rfl)
  · exact fun j hj => (State.toShort_excOf h).trans (if_neg hj)
  · exact (State.toShort_frm (Sub.refl 1649804314640) (Frm.refl _ s)).keepsParts (by decide)
  · exact (State.toReversed_excOf h).trans (if_pos rfl)
  · exact fun j hj => (State.toReversed_excOf h).trans (if_neg hj)
  · exact (State.toReversed_frm (Sub.refl 1649804314640) (Frm.refl _ s)).keepsParts (by decide)
  · exact (State.goodPulse_excOf h).trans (if_pos rfl)
  · exact fun j hj => (State.goodPulse_excOf h).trans (if_neg hj)
  · exact (State.goodPulse_frm (Sub.refl 1099511629840) (Frm.refl _ s)).keepsParts (by decide)

end Sys2Proof.Machine
end

section
/-! PROOFS. Pulses of excitation outputs: which commands enter a fault, the seventh pulse, and the corners of standbys (R67 to R85). -/

namespace Sys2Proof.Machine

open Sys2Proof

variable {O : OtpSt} {Q : List Instr} {s t : State} {m : Nat}

/-! ### SHORT_RETRIES (Table 3-8) -/

/-- The top byte of a word is what a shift by 24 leaves. -/
theorem field_topByte (w : W32) : field w 31 24 = (w >>> 24).toNat := by
  rw [field, BitVec.toNat_ushiftRight, Nat.shiftRight_eq_div_pow]
  exact Nat.mod_eq_of_lt (by omega)

/-- The counter byte is replaced, the other bits stay. -/
theorem field_topByte_at {n : Nat} (hn : n < 256) (w : W32) : field (at_ 24 n ||| (w &&& 0x00FFFFFF)) 31 24 = n := by
  have hlow : (w &&& 0x00FFFFFF) >>> 24 = 0 := by
    rw [BitVec.ushiftRight_and_distrib]
    exact BitVec.and_zero
  have hcount : (at_ 24 n >>> 24).toNat = n := by
    rw [at_, BitVec.toNat_ushiftRight, BitVec.toNat_ofNat, Nat.shiftRight_eq_div_pow]
    omega
  rw [field_topByte, BitVec.ushiftRight_or_distrib, hlow, BitVec.ofNat_eq_ofNat, BitVec.or_zero, hcount]

/-- A bit below the counter byte leaves it alone. -/
theorem field_topByte_setBit {b : Nat} (hb : b < 24) (w : W32) : field (w ||| BitVec.ofNat 32 (2 ^ b)) 31 24 = field w 31 24 := by
  have hbit : BitVec.ofNat 32 (2 ^ b) >>> 24 = 0 := by
    interval_cases b <;> rfl
  rw [field_topByte, field_topByte, BitVec.ushiftRight_or_distrib, hbit, BitVec.ofNat_eq_ofNat, BitVec.or_zero]

theorem resetWord_excStatus (hm : m < 32) : resetWord (Reg.excStatus m) = 0 := by
  unfold resetWord Reg.excStatus
  rw [if_neg (by omega), if_neg (by omega), if_neg (by omega)]

/-- A status word whose counter byte is not 0 is read back from any store. -/
theorem State.status_listed {w : W32} (hm : m < 32) (hw : field w 31 24 ≠ 0) : (s.setReg (Reg.excStatus m) w).reg (Reg.excStatus m) = w := by
  refine State.reg_setReg_listed (fun hreset => hw ?_)
  rw [hreset, resetWord_excStatus hm]
  rfl

/-- SHORT_RETRIES is one higher after a failed retry, below its limit. -/
theorem State.retryFailed_retries (hm : m < 32) (hlimit : field (s.reg (Reg.excStatus m)) 31 24 < 255) :
    field ((s.retryFailed m).reg (Reg.excStatus m)) 31 24 = field (s.reg (Reg.excStatus m)) 31 24 + 1 := by
  have hmin : min 255 (field (s.reg (Reg.excStatus m)) 31 24 + 1) = field (s.reg (Reg.excStatus m)) 31 24 + 1 := by omega
  have hfield := field_topByte_at (n := field (s.reg (Reg.excStatus m)) 31 24 + 1) (by omega) (s.reg (Reg.excStatus m))
  unfold State.retryFailed
  dsimp only
  rw [hmin, State.status_listed hm (by omega), hfield]

/-- The short of a retry counts in SHORT_RETRIES. -/
theorem State.toShort_retries (hm : m < 32) (hretry : (s.excOf m).isRetry = true) (hlimit : field (s.reg (Reg.excStatus m)) 31 24 < 255) :
    field ((s.toShort m).reg (Reg.excStatus m)) 31 24 = field (s.reg (Reg.excStatus m)) 31 24 + 1 := by
  have hstatus : ((s.faultMode m .short).bump (Reg.excShortCount m)).reg (Reg.excStatus m) = s.reg (Reg.excStatus m) :=
    State.bump_reg Reg.excShortCount_ne_excStatus.symm
  have hshorted : s.shorted m = ((s.faultMode m .short).bump (Reg.excShortCount m)).retryFailed m := if_pos hretry
  have hcount : field ((s.shorted m).reg (Reg.excStatus m)) 31 24 = field (s.reg (Reg.excStatus m)) 31 24 + 1 := by
    rw [hshorted, State.retryFailed_retries hm (by rw [hstatus]; exact hlimit), hstatus]
  have hseen := field_topByte_setBit (b := 10) (by decide) ((s.shorted m).reg (Reg.excStatus m))
  rw [State.toShort_eq, State.excFault_status hm, State.setBit, State.status_listed hm (by omega), hseen, hcount]

/-- The output is in SHORT, whatever the form of the store. -/
theorem State.toShort_mode : ((s.toShort m).excOf m).mode = .short := by
  have hentered : (s.faultMode m .short).excOf m = { s.excOf m with mode := .short, faultUp := s.tm.up, retrying := true, isRetry := false, cutAt := none } :=
    State.excOf_updExc_listed (fun h => absurd (congrArg ExcSt.mode h) (by simp [ExcSt.init]))
  rw [(s.toShort_changes m).excOf (by decide), hentered]

/-! ### The commands of a pulse -/

theorem Frm.isStandby (h : Frm m s t) (hm : m.testBit 33 = false) : t.isStandby = s.isStandby := by
  have htwin : t.twin = s.twin := h .twin hm
  rw [State.isStandby, State.isStandby, htwin]

/-- On a unit that is no standby the end of a pulse leaves its output where it is. -/
theorem State.standbyEnd_of_active (h : s.isStandby = false) : s.standbyEnd m = s := if_neg (by simp [h])

theorem State.toShort_isStandby : (s.toShort m).isStandby = s.isStandby :=
  (State.toShort_frm (Sub.refl 1649804314640) (Frm.refl _ s)).isStandby (by decide)

theorem State.reachUp_isStandby {u : Nat} : (s.reachUp u).isStandby = s.isStandby := (s.reachUp_changes u).isStandby (by decide)

theorem execShortDetect_shorts {m : Fin 32} (hmode : (s.excOf m).mode = .pulse) (hactive : s.isStandby = false) :
    exec (.shortDetect m) s = .next (s.toShort m) := by
  refine (if_pos hmode).trans ?_
  rw [State.standbyEnd_of_active (State.toShort_isStandby.trans hactive)]

/-- A pulse of WIDTH ≤ 20,000 ns that is limited through its final 1 µs ends in SHORT (R80). -/
theorem execPulseEnd_limited {m : Fin 32} (hmode : (s.excOf m).mode = .inrush) (hwidth : s.cfgv Fld.excWidth m 0 ≤ 20000) (hinj : s.injOf 4 1 m = none)
    (hactive : s.isStandby = false) :
    exec (.pulseEnd m true) s = .next ((s.reachUp (((s.excOf m).cutAt.map (min (s.excOf m).endUp)).getD (s.excOf m).endUp)).toShort m) := by
  have hpulsing : (s.excOf m).pulsing = true := by simp [ExcSt.pulsing, hmode]
  refine (if_pos hpulsing).trans ?_
  simp only [hmode, hwidth, hinj, decide_true, Bool.true_and, Option.isSome_none, Bool.or_false, State.doIf, State.underInj, if_true, Bool.false_eq_true, if_false]
  rw [State.standbyEnd_of_active (State.toShort_isStandby.trans (State.reachUp_isStandby.trans hactive))]

/-- A sense sign opposite to the commanded polarity 500 ns after the start is REVERSED (R81). -/
theorem execPolarityCheck_opposite {m : Fin 32} {v : Int} (hmode : (s.excOf m).mode = .inrush) (hinj : s.injOf 4 3 m = none) (hsize : 50000 ≤ v.natAbs)
    (hsign : ¬ (v < 0 ↔ (s.excOf m).negative = true)) :
    exec (.polarityCheck m v) s = .next ((s.reachUp ((s.excOf m).startUp + 500)).toReversed m) := by
  have hopposite : (v < 0) ≠ ((s.excOf m).negative = true) := fun h => hsign (iff_of_eq h)
  refine (if_pos hmode).trans ?_
  simp only [hinj, hsize, hopposite, ne_eq, not_false_eq_true, decide_true, Bool.true_and, Option.isSome_none, Bool.false_or, State.doIf, State.underInj, if_true,
    Bool.false_eq_true, if_false]

/-- A second failing test in a row enters OPEN_SENSE (R84). -/
theorem execOpenSenseTestEnd_fails {m : Fin 32} {p n : Nat} (hmode : (s.excOf m).mode = .idle)
    (hdiag : Look.diagFrame s.cfgv (s.cfgv Fld.excGroup m 0) (s.excOf m).pulseFrame = true) (hinj : s.injOf 4 4 m = none) (hclosed : (s.excOf m).senseOpen = false)
    (hrun : 1 ≤ (s.excOf m).senseFail) (hshift : 200000 < p ∨ 200000 < n) :
    exec (.openSenseTestEnd m true p n) s =
      .next ((s.setExc m { s.excOf m with senseFail := (s.excOf m).senseFail + 1, sensePass := 0, senseOpen := true }).excFault m 12) := by
  have hran : ¬ (!true || decide ((s.excOf m).mode ≠ .idle) || !Look.diagFrame s.cfgv (s.cfgv Fld.excGroup m 0) (s.excOf m).pulseFrame) = true := by simp [hmode, hdiag]
  have hfail : (decide (200000 < p) || decide (200000 < n)) = true := by simpa using hshift
  have htwo : 2 ≤ (s.excOf m).senseFail + 1 := by omega
  refine (if_neg hran).trans ?_
  simp only [hinj, Option.isSome_none, Bool.false_or, hfail, hclosed, htwo, State.doIf, State.underInj, Bool.not_false, decide_true, Bool.true_and, if_true,
    Bool.false_eq_true, if_false]

/-! ### The start of a pulse (R67, R74) -/

/-- What withholds a pulse is in the fields, the groups and the twin, not in the clock. -/
theorem Frm.pulseWithheld {start : Tq} (h : Frm 68719476737 s t) : t.pulseWithheld m start = s.pulseWithheld m start := by
  have htwin : t.twin = s.twin := h .twin (by decide)
  have hcfgv : t.cfgv = s.cfgv := h.cfgv (by decide) (by decide)
  have hgrp : ∀ n, t.grpOf n = s.grpOf n := fun n => h.grpOf (by decide)
  have hgroup : t.swapGroup = s.swapGroup := by rw [State.swapGroup, State.swapGroup, hgrp]
  rw [State.pulseWithheld, State.pulseWithheld, State.pulseBehindSwap, State.pulseBehindSwap, hgroup, htwin, hcfgv, hgrp]

/-- The instant of a pulse's start has come, and nothing withholds it. -/
theorem execPulseStart_due {m : Fin 32} {midUv : Int} {k : Nat} {edge : Tq} (hmode : (s.excOf m).mode = .idle) (hedge : s.pulseEdge (s.cfgv Fld.excGroup m 0) = some (k, edge))
    (hdriven : s.pulseWithheld m (edge - nsTq (s.cfgv Fld.excLead m 0)) = false) :
    exec (.pulseStart m midUv) s = .next ((s.atInstant (edge - nsTq (s.cfgv Fld.excLead m 0)) 40000).startPulse m k) := by
  have hinstant := s.atInstant_changes (edge - nsTq (s.cfgv Fld.excLead m 0)) 40000
  have hstandby : ¬ (s.excOf m).mode = .standbyZ := by simp [hmode]
  have hidle : ¬ (s.excOf m).mode ≠ .idle := by simp [hmode]
  refine (if_neg hstandby).trans ((if_neg hidle).trans ?_)
  rw [hedge]
  refine congrArg Host.Outcome.next (if_neg ?_)
  rw [← State.atInstant, hinstant.pulseWithheld, hdriven]
  exact Bool.false_ne_true

/-- The outputs in a pulse are read from the excitation part alone. -/
theorem Frm.pulsingNow {a : Nat} (h : Frm a s t) (ha : a.testBit 11 = false) : t.pulsingNow = s.pulsingNow := by
  have hexc : ∀ n, t.excOf n = s.excOf n := fun n => h.excOf ha
  simp only [State.pulsingNow, hexc]

/-- With six others in a pulse the output stays in IDLE (R74). -/
theorem State.startPulse_seventh {k : Nat} (hsix : 6 ≤ (s.pulsingNow.filter (fun x => x != m)).length) :
    s.startPulse m k = (((s.setExc m { s.excOf m with suppressed := true, mode := .idle }).bump 0x8704).setBit (Reg.excStatus m) 14).raise (errAt 1 (Reg.excStatus m) 14 m) :=
  if_pos hsix

/-- Settles O8: the commands' branches at their faults, and what a failed retry leaves in SHORT_RETRIES. -/
theorem excitationFaultsAreEntered : Obligations.ExcitationFaultsAreEntered := by
  intro s m
  refine ⟨execShortDetect_shorts, ?retry, execPulseEnd_limited, fun v => execPolarityCheck_opposite, fun p n => execOpenSenseTestEnd_fails, ?seventh⟩
  case retry =>
    intro hmode hretry hlimit hactive
    exact ⟨s.toShort m, execShortDetect_shorts hmode hactive, State.toShort_retries m.isLt hretry hlimit, State.toShort_mode⟩
  case seventh =>
    intro midUv k edge hmode hedge hdriven hsix
    have hinstant := s.atInstant_changes (edge - nsTq (s.cfgv Fld.excLead m 0)) 40000
    rw [execPulseStart_due hmode hedge hdriven, State.startPulse_seventh (by rw [hinstant.pulsingNow (by decide)]; exact hsix), hinstant.excOf (by decide)]
    rfl

end Sys2Proof.Machine
end

section
/-! PROOFS. Outputs of a standby at the end of their pulses: what R80 and R379 make of them, and the two statements that leave it out (R77, R80). -/

namespace Sys2Proof.Machine

open Sys2Proof

variable {O : OtpSt} {Q : List Instr} {s t : State} {m : Nat}

/-! ### Outputs of a standby -/

/-- The end of a pulse on a standby leaves the output to the partner (R80), an owned one of a vault in FAULT disabled (R379). -/
theorem State.standbyEnd_mode (h : Good O Q s) (hstandby : s.isStandby = true) (hmode : (s.excOf m).mode ≠ .seized) :
    ((s.standbyEnd m).excOf m).mode = if s.ownedFault m then .disabled else .standbyZ := by
  have hrole : s.twin.role = .standby ∨ s.twin.role = .standbyUnfit := of_decide_eq_true hstandby
  unfold State.standbyEnd State.excApply
  dsimp only
  rw [if_pos hstandby, if_neg hmode, if_pos hrole]
  split
  · rw [State.excOf_setExc_self h]
  · rw [State.excOf_setExc_self h]

theorem Frm.ownedFault (h : Frm m s t) (hotp : m.testBit 1 = false) (hvault : m.testBit 34 = false) (i : Nat) : t.ownedFault i = s.ownedFault i := by
  have ho : t.otp = s.otp := h .otp hotp
  have hv : t.vault = s.vault := h .vault hvault
  rw [State.ownedFault, State.ownedFault, ho, hv]

/-- Behind its inrush a pulse without a cut ends by its WIDTH, and well (R67, R80). -/
theorem execPulseEnd_pulse {m : Fin 32} {limited : Bool} (hmode : (s.excOf m).mode = .pulse) (hcut : (s.excOf m).cutAt = none) :
    exec (.pulseEnd m limited) s = .next (((s.reachUp (s.excOf m).endUp).goodPulse m).standbyEnd m) := by
  have hpulsing : (s.excOf m).pulsing = true := by simp [ExcSt.pulsing, hmode]
  refine (if_pos hpulsing).trans ?_
  simp [hmode, hcut, State.doIf]

/-- Where a pulse that ends well on a standby leaves its output. -/
theorem pulseEnd_standby {m : Fin 32} {limited : Bool} (h : Good O Q s) (hmode : (s.excOf m).mode = .pulse) (hcut : (s.excOf m).cutAt = none)
    (hstandby : s.isStandby = true) :
    Runs (.pulseEnd m limited) s (fun u => (u.excOf m).mode = if s.ownedFault m then .disabled else .standbyZ) := by
  have hreach := State.reachUp_good (u := (s.excOf m).endUp) h
  have hended : Frm 1099511629841 s ((s.reachUp (s.excOf m).endUp).goodPulse m) :=
    State.goodPulse_frm (Sub.le (Sub.refl _) (by decide)) (State.reachUp_frm (Sub.le (Sub.refl _) (by decide)) (Frm.refl _ s))
  have hidle : (((s.reachUp (s.excOf m).endUp).goodPulse m).excOf m).mode ≠ .seized := by
    rw [State.goodPulse_excOf hreach, if_pos rfl]
    exact fun h => nomatch h
  refine ⟨_, execPulseEnd_pulse hmode hcut, (State.standbyEnd_mode (State.goodPulse_good hreach) ((hended.isStandby (by decide)).trans hstandby) hidle).trans ?_⟩
  rw [hended.ownedFault (by decide) (by decide)]

/-- The hub behind the report of a sag that has lasted 100 µs, its pulses still running (R77). -/
def State.sagRaised (s : State) : State :=
  let s := s.reachUp (s.sagFrom + 100000)
  s.underInj (s.injOf 12 1 0).isSome (fun t => t.raise (errAt 1 0x8700 2 0xFFFF))

/-- Time, the report and the mark of an injection. -/
def sagSet : Nat := reportSet ||| 4398046511105

theorem State.sagRaised_changes (s : State) : Frm sagSet s s.sagRaised := by
  have hm := Sub.refl sagSet
  exact State.underInj_frm (hm.le (by decide)) (State.reachUp_frm (hm.le (by decide)) (Frm.refl _ s)) (fun _ => State.raise_frm (hm.le (by decide)))

theorem State.sagRaised_good (h : Good O Q s) : Good O Q s.sagRaised :=
  State.underInj_good (State.reachUp_good h) (fun _ => State.raise_good)

theorem execPumpSagTimeout_ends {ms : List Nat} (hms : s.pulsingNow = m :: ms) : exec .pumpSagTimeout s = .next s.sagRaised.endPulses := by
  have hbusy : ¬ s.pulsingNow.isEmpty = true := by simp [hms]
  exact if_neg hbusy

/-- A pulse that a sag stops. -/
def State.pulseStopped (s : State) (m : Nat) : State := s.updExc m (fun e => { e with mode := .idle, isRetry := false, cutAt := none })

/-- A sag that ends the only pulse of a standby leaves its output to the partner too, and not in IDLE. -/
theorem pumpSagTimeout_standby (h : Good O Q s) (hone : s.pulsingNow = [m]) (hstandby : s.isStandby = true) :
    Runs .pumpSagTimeout s (fun u => (u.excOf m).mode = if s.ownedFault m then .disabled else .standbyZ) := by
  have hraised := s.sagRaised_changes
  have hgood := State.sagRaised_good h
  have hends : s.sagRaised.endPulses = (s.sagRaised.pulseStopped m).standbyEnd m := by
    rw [State.endPulses, hraised.pulsingNow (by decide), hone]
    rfl
  have hidle : ((s.sagRaised.pulseStopped m).excOf m).mode ≠ .seized := by
    rw [State.pulseStopped, State.excOf_updExc_self hgood]
    exact fun h => nomatch h
  have howned : (s.sagRaised.pulseStopped m).ownedFault m = s.ownedFault m := hraised.ownedFault (by decide) (by decide) m
  refine ⟨(s.sagRaised.pulseStopped m).standbyEnd m, (execPumpSagTimeout_ends hone).trans (congrArg Host.Outcome.next hends), ?_⟩
  exact howned ▸ State.standbyEnd_mode (State.updExc_good hgood) ((hraised.isStandby (by decide)).trans hstandby) hidle

/-! ### The statements that leave it out -/

/-- A standby of a part with a vault, its vault in FAULT, while output 28, an owned one, is in its pulse. -/
def ownedPulseOnStandby : State :=
  { State.reset with
    otp := { OtpSt.init with vaultFuse := true }
    vault := { VaultSt.init with mode := .fault }
    twin := { TwinSt.init with role := .standby }
    exc := [(28, { ExcSt.init with mode := .pulse })] }

/-- Refutes O6 in its clause on the end of a pulse on a standby: output 28 of a part whose vault is in FAULT goes to DISABLED (R379), not to STANDBY_Z.
The clause holds for every other output (pulseEnd_standby); what is missing is a hypothesis that the output is not one the vault's FAULT disables. -/
theorem not_pulsePassesThroughItsStates : ¬ Obligations.PulsePassesThroughItsStates := by
  intro h
  obtain ⟨-, -, -, -, -, hstandby, -⟩ := h ownedPulseOnStandby 28
  obtain ⟨u, hu, hz⟩ := hstandby false (by decide) (by decide) (by decide)
  obtain ⟨v, hv, hdisabled⟩ := pulseEnd_standby (m := 28) (limited := false) (good_of_wf (s := ownedPulseOnStandby) (by decide)) (by decide) (by decide) (by decide)
  obtain rfl : u = v := Host.Outcome.next.inj (hu.symm.trans hv)
  rw [hz] at hdisabled
  exact absurd hdisabled (by decide)

/-- A standby that finishes a pulse of output 0 after handing over. -/
def pulseOnStandby : State :=
  { State.reset with
    twin := { TwinSt.init with role := .standby }
    exc := [(0, { ExcSt.init with mode := .pulse })] }

/-- Refutes O9 in its clause on the pump's sag: on a standby the pulse it ends leaves its output in STANDBY_Z (R80), where the clause, which asks no role, has IDLE. -/
theorem not_pumpAndSeizeMoveEveryOutput : ¬ Obligations.PumpAndSeizeMoveEveryOutput := by
  intro h
  obtain ⟨-, hsag, -⟩ := h pulseOnStandby (by decide)
  obtain ⟨u, hu, hidle, -⟩ := hsag 0 (by decide) (by decide)
  obtain ⟨v, hv, hz⟩ := pumpSagTimeout_standby (m := 0) (good_of_wf (s := pulseOnStandby) (by decide)) (by decide) (by decide)
  obtain rfl : u = v := Host.Outcome.next.inj (hu.symm.trans hv)
  rw [hidle 0 (by decide)] at hz
  exact absurd hz (by decide)

end Sys2Proof.Machine
end

section
/-! PROOFS. Protection switches, and the open-wire check at start-up and on request (R62, R86, R87, R88). -/

namespace Sys2Proof.Machine

open Sys2Proof

variable {O : OtpSt} {Q : List Instr} {s t : State} {m : Nat}

/-- The bits of the register window hang on it alone. -/
theorem Frm.bit {a b : Nat} (h : Frm m s t) (hm : m.testBit 4 = false) : t.bit a b = s.bit a b := congrArg (BitVec.getLsbD · b) (h.reg hm)

/-! ### Protection switches (R62, R86) -/

theorem Frm.ainOf {n : Nat} (h : Frm m s t) (hm : m.testBit 10 = false) : t.ainOf n = s.ainOf n :=
  congrArg (fun c => Cells.get (fun _ => InputSt.init) c n) (h .ain hm)

/-- A change of one input, read anywhere. -/
theorem State.ainOf_setAin {n i : Nat} {v : InputSt} (h : Good O Q s) : (s.setAin n v).ainOf i = if i = n then v else s.ainOf i := Cells.get_set h.ain

/-- An input whose protection switch has opened. -/
def State.switchOpened (s : State) (i : Nat) (pos : Bool) : State :=
  s.setAin i { s.ainOf i with switchOpen := true, positive := pos, overIn := (s.ainOf i).overIn || Look.watched s.cfgv i }

/-- A switch that opens is reported where its input is watched and not yet in overvoltage; nothing else happens. -/
theorem execProtectionOpen_opens (s : State) (i : Fin 512) (pos : Bool) : ∃ u, exec (.protectionOpen i pos) s = .next u ∧ Frm reportSet (s.switchOpened i pos) u := by
  have hover : ∀ a w : Bool, (a || (w && !a)) = (a || w) := by decide
  have hopened : s.setAin i { s.ainOf i with switchOpen := true, positive := pos, overIn := (s.ainOf i).overIn || (Look.watched s.cfgv i && !(s.ainOf i).overIn) }
      = s.switchOpened i pos := by rw [hover, State.switchOpened]
  by_cases henters : (Look.watched s.cfgv i && !(s.ainOf i).overIn) = true
  · refine ⟨(s.switchOpened i pos).ainFault 1 (Reg.ainOver i) i, (if_pos henters).trans ?_, State.ainFault_frm (Sub.refl _) (Frm.refl _ _)⟩
    rw [hopened]
  · refine ⟨s.switchOpened i pos, (if_neg henters).trans ?_, Frm.refl _ _⟩
    rw [hopened]

/-! ### The result of an open-wire check (R87, R88) -/

theorem testBit_foldl_or (bits : List Nat) (b : Nat) : ∀ a, (bits.foldl (fun a b => a ||| 2 ^ b) a).testBit b = (a.testBit b || decide (b ∈ bits)) := by
  induction bits with
  | nil => simp
  | cons x xs ih =>
    intro a
    rw [List.foldl_cons, ih, Nat.testBit_or, Nat.testBit_two_pow]
    by_cases hx : x = b
    · simp [hx]
    · simp [hx, Ne.symm hx]

/-- A mask has the listed bits. -/
theorem testBit_maskOf (bits : List Nat) (b : Nat) : (maskOf bits).testBit b = decide (b ∈ bits) :=
  (testBit_foldl_or bits b 0).trans (by rw [Nat.zero_testBit, Bool.false_or])

/-- Consecutive words from a base on. -/
def State.putWords (s : State) (base : Nat) (v : Nat → W32) (ws : List Nat) : State := s.each ws (fun w t => t.setReg (base + 4 * w) (v w))

theorem State.putWords_outside {a base : Nat} {v : Nat → W32} {ws : List Nat} (ha : ∀ w ∈ ws, a ≠ base + 4 * w) :
    ∀ s : State, (s.putWords base v ws).reg a = s.reg a := by
  induction ws with
  | nil => exact fun _ => rfl
  | cons w ws ih =>
    intro s
    exact (ih (fun x hx => ha x (List.mem_cons_of_mem w hx)) _).trans (State.reg_setReg_other (ha w List.mem_cons_self))

theorem State.putWords_word {base w : Nat} {v : Nat → W32} {ws : List Nat} (hw : w ∈ ws) :
    ∀ {s : State}, Good O Q s → (s.putWords base v ws).reg (base + 4 * w) = v w := by
  induction ws with
  | nil => cases hw
  | cons x ws ih =>
    intro s h
    by_cases hin : w ∈ ws
    · exact ih hin (State.setReg_good h)
    · obtain rfl : w = x := (List.mem_cons.mp hw).resolve_right hin
      have hlast : ∀ y ∈ ws, base + 4 * w ≠ base + 4 * y := by
        intro y hy hsame
        obtain rfl : w = y := by omega
        exact hin hy
      exact (State.putWords_outside hlast _).trans (State.reg_setReg_self h)

/-- AIN_OPEN_BOOT shows the inputs that moved. -/
theorem State.owResult_bit {moved : List Nat} {i : Nat} (h : Good O Q s) (hi : i < 512) :
    (s.owResult moved).bit (0x86C0 + 4 * (i / 32)) (i % 32) = moved.contains i := by
  have hword := State.putWords_word (base := 0x86C0) (v := fun w => BitVec.ofNat 32 (maskOf ((List.range 32).filter (fun b => moved.contains (32 * w + b)))))
    (List.mem_range.mpr (show i / 32 < 16 by omega)) h
  have hbit : i % 32 < 32 := Nat.mod_lt _ (by decide)
  rw [State.bit]
  refine (congrArg (BitVec.getLsbD · (i % 32)) hword).trans ?_
  rw [BitVec.getLsbD_ofNat, testBit_maskOf]
  simp [hbit, Nat.div_add_mod]

theorem State.owResult_reg {moved : List Nat} {a : Nat} (ha : a < 0x86C0 ∨ 0x8700 ≤ a) : (s.owResult moved).reg a = s.reg a := by
  refine State.putWords_outside (fun w hw => ?_) s
  have hlt := List.mem_range.mp hw
  omega

theorem State.owResult_changes (s : State) (moved : List Nat) : Frm 16 s (s.owResult moved) := State.owResult_frm (Sub.refl _) (Frm.refl _ s)

/-! ### The check on request (R88) and at start-up (R87) -/

/-- The hub with another standing of the pump and of the check on request. -/
def State.withPump (s : State) (p : PumpSt) : State := { s with pump := p }

@[simp] theorem State.withPump_pump (s : State) (p : PumpSt) : (s.withPump p).pump = p := rfl

theorem State.withPump_changes (s : State) (p : PumpSt) : Frm 4096 s (s.withPump p) := by
  have hm := Sub.refl 4096
  exact frm_mk (Frm.refl _ s)

/-- The hub 500 µs behind the start of a requested check, its result shown. -/
def State.owShown (s : State) (moved : List Nat) : State := (s.reachUp (s.pump.owUp + 500000)).owResult moved

theorem State.owShown_changes (s : State) (moved : List Nat) : Frm 17 s (s.owShown moved) := by
  have hm := Sub.refl 17
  exact State.owResult_frm (hm.le (by decide)) (State.reachUp_frm (hm.le (by decide)) (Frm.refl _ s))

theorem execOwTestEnd_runs {moved : List Nat} (hruns : s.pump.owRunning = true) :
    exec (.owTestEnd moved) s = .next ((s.owShown moved).withPump { s.pump with owRunning := false, owDone := true }) := by
  have hpump : (s.owShown moved).pump = s.pump := s.owShown_changes moved .pump (by decide)
  rw [← hpump]
  exact if_pos hruns

/-- A requested check that runs ends 500 µs behind its start with its result. -/
theorem owTestEnd_runs {moved : List Nat} (h : Good O Q s) (hruns : s.pump.owRunning = true) :
    Runs (.owTestEnd moved) s (fun u => u.pump = { s.pump with owRunning := false, owDone := true } ∧ u.tm = (s.reachUp (s.pump.owUp + 500000)).tm
      ∧ (∀ i, i < 512 → u.bit (0x86C0 + 4 * (i / 32)) (i % 32) = moved.contains i) ∧ (∀ a, a < 0x86C0 ∨ 0x8700 ≤ a → u.reg a = s.reg a)
      ∧ s.keepsBut [.tm, .regs, .pump] u) := by
  have hreach := s.reachUp_changes (s.pump.owUp + 500000)
  have hended := (s.owShown moved).withPump_changes { s.pump with owRunning := false, owDone := true }
  have htm : (s.owShown moved).tm = (s.reachUp (s.pump.owUp + 500000)).tm := State.owResult_changes _ moved .tm (by decide)
  have hm := Sub.refl 4113
  refine ⟨_, execOwTestEnd_runs hruns, State.withPump_pump _ _, (hended .tm (by decide)).trans htm, fun i hi => ?_, fun a ha => ?_, ?_⟩
  · exact (hended.bit (by decide)).trans (State.owResult_bit (State.reachUp_good h) hi)
  · exact (hended.reg (by decide)).trans ((State.owResult_reg ha).trans (hreach.reg (by decide)))
  · exact (((s.owShown_changes moved).mono (hm.le (by decide))).trans (hended.mono (hm.le (by decide)))).keepsParts (by decide)

/-- Step 6 of start-up ends with the check's result, and takes nothing from a check on request. -/
theorem startupStepEnd_openWires {rep : StepReport} (h : Good O Q s) (hstage : s.boot.stage = 6) (hretry : s.boot.retryDue = false) :
    Runs (.startupStepEnd rep) s (fun u => u.pump = s.pump ∧ u.boot.stage = 7
      ∧ (∀ i, i < 512 → u.bit (0x86C0 + 4 * (i / 32)) (i % 32) = rep.moved.contains i) ∧ s.keepsBut [.tm, .regs, .boot] u) := by
  have hm := Sub.refl 25
  have hstage7 : Frm 8 ((s.stepTook rep.elapsedUs).owResult rep.moved) (((s.stepTook rep.elapsedUs).owResult rep.moved).stageAt 7) :=
    State.stageAt_frm (Sub.refl _) (Frm.refl _ _)
  have hends : Frm 25 s (((s.stepTook rep.elapsedUs).owResult rep.moved).stageAt 7) :=
    State.stageAt_frm (hm.le (by decide)) (State.owResult_frm (hm.le (by decide)) (State.stepTook_frm (hm.le (by decide)) (Frm.refl _ s)))
  exact ⟨_, execStartupStepEnd_at hretry hstage (by decide) (by decide), hends .pump (by decide), rfl,
    fun i hi => (hstage7.bit (by decide)).trans (State.owResult_bit (State.stepTook_good h) hi), hends.keepsParts (by decide)⟩

/-- Settles O10: a switch changes its input alone, and either check leaves its result in AIN_OPEN_BOOT. -/
theorem inputSwitchesAndOpenWireCheck : Obligations.InputSwitchesAndOpenWireCheck := by
  intro s hwf
  have h := good_of_wf hwf
  refine ⟨?opens, ?closes, fun hruns => if_pos hruns, ?starts, ?refused, fun _ => owTestEnd_runs h, fun _ => startupStepEnd_openWires h⟩
  case opens =>
    intro i pos
    obtain ⟨u, hu, hreport⟩ := execProtectionOpen_opens s i pos
    have hm := Sub.refl (reportSet ||| 1024)
    have hopened : Frm (reportSet ||| 1024) s (s.switchOpened i pos) := State.setAin_frm (hm.le (by decide)) (Frm.refl _ s)
    refine ⟨u, hu, ?_, fun j hj => ?_, (hopened.trans (hreport.mono (hm.le (by decide)))).keepsParts (by decide)⟩
    · exact (hreport.ainOf (by decide)).trans ((State.ainOf_setAin h).trans (if_pos rfl))
    · exact (hreport.ainOf (by decide)).trans ((State.ainOf_setAin h).trans (if_neg hj))
  case closes =>
    intro i
    have hm := Sub.refl 1099511628800
    refine ⟨_, rfl, (State.ainOf_setAin h).trans (if_pos rfl), fun j hj => (State.ainOf_setAin h).trans (if_neg hj), ?_⟩
    exact (State.endHandling_frm (hm.le (by decide)) (State.updAin_frm (hm.le (by decide)) (Frm.refl _ s))).keepsParts (by decide)
  case starts =>
    intro hfree hA hB
    exact (if_neg (by simp [hfree])).trans (if_pos ⟨hA, hB⟩)
  case refused =>
    intro hfree hgroups
    exact (if_neg (by simp [hfree])).trans (if_neg (fun hstopped => hgroups.elim (· hstopped.1) (· hstopped.2)))

end Sys2Proof.Machine
end

section
/-! PROOFS. Rounding, codes and results of inputs, and windows of the filter chain (R96 to R100, R115 to R118). -/

namespace Sys2Proof.Machine

open Sys2Proof

variable {s : State} {lo hi v : Int}

/-! ### Rounding (R96, R115) -/

/-- What the rounded value leaves of the number, by the remainder over the floor; a tie leaves the even value. -/
theorem roundHalfEven_error (num : Int) (den : Nat) :
    (2 * (num % den) < den ∧ num - roundHalfEven num den * den = num % den)
      ∨ (den < 2 * (num % den) ∧ num - roundHalfEven num den * den = num % den - den)
      ∨ (2 * (num % den) = den ∧ roundHalfEven num den % 2 = 0
        ∧ (num - roundHalfEven num den * den = num % den ∨ num - roundHalfEven num den * den = num % den - den)) := by
  have hfloor : num - num / den * den = num % den := by rw [Int.emod_def, Int.mul_comm]
  have habove : num - (num / den + 1) * den = num % den - den := by rw [Int.add_mul, Int.one_mul, ← hfloor, Int.sub_sub]
  simp only [roundHalfEven]
  split_ifs with hless hmore heven
  · exact .inl ⟨hless, hfloor⟩
  · exact .inr (.inl ⟨hmore, habove⟩)
  · exact .inr (.inr ⟨by omega, heven, .inl hfloor⟩)
  · exact .inr (.inr ⟨by omega, by omega, .inr habove⟩)

theorem roundHalfEven_nearest (num : Int) {den : Nat} (hden : 0 < den) : 2 * (num - roundHalfEven num den * den).natAbs ≤ den := by
  have hnonneg : 0 ≤ num % den := Int.emod_nonneg num (by omega)
  have hlt : num % den < den := Int.emod_lt_of_pos num (by omega)
  obtain ⟨hless, herr⟩ | ⟨hmore, herr⟩ | ⟨htie, -, herr | herr⟩ := roundHalfEven_error num den <;> omega

theorem roundHalfEven_tie_even (num : Int) {den : Nat} (hden : 0 < den) (htie : 2 * (num - roundHalfEven num den * den).natAbs = den) :
    roundHalfEven num den % 2 = 0 := by
  have hnonneg : 0 ≤ num % den := Int.emod_nonneg num (by omega)
  have hlt : num % den < den := Int.emod_lt_of_pos num (by omega)
  obtain ⟨hless, herr⟩ | ⟨hmore, herr⟩ | ⟨-, heven, -⟩ := roundHalfEven_error num den
  · omega
  · omega
  · exact heven

/-! ### Saturation -/

theorem le_clampInt (h : lo ≤ hi) (v : Int) : lo ≤ clampInt lo hi v := le_min (le_max_right v lo) h

theorem clampInt_le (lo hi v : Int) : clampInt lo hi v ≤ hi := min_le_right _ _

theorem clampInt_eq_self_iff (h : lo ≤ hi) : clampInt lo hi v = v ↔ lo ≤ v ∧ v ≤ hi := by
  unfold clampInt
  omega

theorem clampInt_eq_low_iff (h : lo < hi) : clampInt lo hi v = lo ↔ v ≤ lo := by
  unfold clampInt
  omega

theorem clampInt_eq_high_iff (h : lo < hi) : clampInt lo hi v = hi ↔ hi ≤ v := by
  unfold clampInt
  omega

/-! ### Codes (R96, R97) -/

/-- A converter code: 20 bits, signed. -/
def IsCode (v : Int) : Prop := -524288 ≤ v ∧ v ≤ 524287

theorem limitCode_isCode (f : Int) : IsCode (limitCode f).1 := ⟨le_clampInt (by decide) f, clampInt_le _ _ f⟩

theorem limitCode_of_isCode {f : Int} (h : IsCode f) : (limitCode f).1 = f := (clampInt_eq_self_iff (by decide)).mpr h

/-- The clip mark stands at the limits and beyond. -/
theorem limitCode_clips_iff (f : Int) : (limitCode f).2 = true ↔ f ≤ -524288 ∨ 524287 ≤ f := by
  rw [limitCode, decide_eq_true_iff, clampInt_eq_low_iff (by decide), clampInt_eq_high_iff (by decide)]
  omega

theorem State.code_isCode (s : State) (n : Nat) (amp : Option Nat) (d : BitVec 22) : IsCode (s.code n amp d).1 := by
  cases amp with
  | none => exact limitCode_isCode _
  | some i => exact limitCode_isCode _

/-! ### Results of inputs (R64, R72, R97, R99) -/

/-- A code with its sign turned (R71, R99): the lowest turns into the highest. -/
def turned (r : Int) : Int := if r = -524288 then 524287 else -r

theorem turned_isCode {r : Int} (h : IsCode r) : IsCode (turned r) := by
  obtain ⟨hlow, hhigh⟩ := h
  unfold IsCode turned
  split_ifs with hmin
  · decide
  · omega

/-- A conversion that timed out gives 0 with the mark PLAUS. -/
theorem State.inputResult_timedOut (s : State) (i k : Nat) (d : BitVec 22) :
    (s.inputResult i k d false).value = 0 ∧ (s.inputResult i k d false).marks = s.standingMarks i ||| 2 := ⟨rfl, rfl⟩

/-- A completed conversion with no switch open gives the code, turned where the channel is demodulated. -/
theorem State.inputResult_switchesClosed {i : Nat} (h : s.fullScale i = none) (k : Nat) (d : BitVec 22) :
    (s.inputResult i k d true).value = if s.noRatio i then 0 else
      if Look.demod s.cfgv i k then turned (s.code (i / 8) (some i) d).1 else (s.code (i / 8) (some i) d).1 := by
  simp only [State.inputResult, h, turned, Bool.not_true, Bool.false_eq_true, if_false, apply_ite ResultSt.value]

/-- An open switch gives full scale with the marks CLIP and PLAUS. -/
theorem State.inputResult_switchOpen {i : Nat} {pos : Bool} (h : s.fullScale i = some pos) (k : Nat) (d : BitVec 22) :
    (s.inputResult i k d true).value = (if pos then 524287 else -524288) ∧ (s.inputResult i k d true).marks = s.standingMarks i ||| 3 := by
  simp only [State.inputResult, h, Bool.not_true, Bool.false_eq_true, if_false, and_self]

theorem State.inputResult_isCode (s : State) (i k : Nat) (d : BitVec 22) (completed : Bool) : IsCode (s.inputResult i k d completed).value := by
  have hzero : IsCode 0 := by unfold IsCode; decide
  cases completed with
  | false => exact hzero
  | true =>
    cases hswitch : s.fullScale i with
    | some pos =>
      rw [(State.inputResult_switchOpen hswitch k d).1]
      unfold IsCode
      cases pos <;> decide
    | none =>
      have hcode := s.code_isCode (i / 8) (some i) d
      rw [State.inputResult_switchesClosed hswitch]
      split_ifs with hratio hdemod
      · exact hzero
      · exact turned_isCode hcode
      · exact hcode

/-! ### Windows (R115, R117, R118) -/

/-- An accumulated mask of marks has a mark where it began with it or an entry carries it. -/
theorem getLsbD_foldl_marks (xs : List (Int × Marks)) (b : Nat) :
    ∀ a : Marks, (xs.foldl (fun a x => a ||| x.2) a).getLsbD b = true ↔ a.getLsbD b = true ∨ ∃ x ∈ xs, x.2.getLsbD b = true := by
  induction xs with
  | nil => simp
  | cons x xs ih =>
    intro a
    rw [List.foldl_cons, ih, BitVec.getLsbD_or, Bool.or_eq_true, List.exists_mem_cons_iff, or_assoc]

/-- The marks of a window are those of the inputs it weighs, the one at its boundary with them. -/
theorem windowMarks_iff (hist : List (Int × Marks)) (n f b : Nat) :
    (windowMarks hist n f).getLsbD b = true ↔ ∃ x ∈ hist.take (primeNeed n f), x.2.getLsbD b = true := by
  refine (getLsbD_foldl_marks _ b 0).trans (or_iff_right ?_)
  simp

theorem le_primeNeed (n f : Nat) : n ≤ primeNeed n f := by
  unfold primeNeed
  split_ifs <;> omega

/-- An output of a stage: 32 bits, signed. -/
def IsOutput (v : Int) : Prop := -2147483648 ≤ v ∧ v ≤ 2147483647

theorem windowOut_isOutput (hist : List (Int × Marks)) (n f g : Nat) : IsOutput (windowOut hist n f g).1.1 :=
  ⟨le_clampInt (by decide) _, clampInt_le _ _ _⟩

theorem windowOut_marks (hist : List (Int × Marks)) (n f g : Nat) :
    (windowOut hist n f g).1.2 = windowMarks hist n f ||| (if (windowOut hist n f g).2 then 1 else 0) := by
  rw [windowOut]

theorem windowOut_keeps_mark {hist : List (Int × Marks)} {n f b : Nat} {x : Int × Marks} (g : Nat) (hx : x ∈ hist.take (primeNeed n f))
    (hb : x.2.getLsbD b = true) : (windowOut hist n f g).1.2.getLsbD b = true := by
  rw [windowOut_marks, BitVec.getLsbD_or, (windowMarks_iff hist n f b).mpr ⟨x, hx, hb⟩, Bool.true_or]

theorem windowOut_saturates_iff (hist : List (Int × Marks)) (n f g : Nat) :
    (windowOut hist n f g).2 = true ↔ windowQ hist n f g < -2147483648 ∨ 2147483647 < windowQ hist n f g := by
  rw [windowOut, decide_eq_true_iff, Ne, clampInt_eq_self_iff (by decide)]
  omega

theorem windowOut_saturated_clips {hist : List (Int × Marks)} {n f g : Nat} (h : (windowOut hist n f g).2 = true) :
    (windowOut hist n f g).1.2.getLsbD 0 = true := by
  rw [windowOut_marks, if_pos h, BitVec.getLsbD_or]
  exact Bool.or_true _

/-- Settles O14: codes, results and stage outputs are rounded half to even and limited to their formats, and marks are kept. -/
theorem arithmeticRoundsAndSaturates : Obligations.ArithmeticRoundsAndSaturates := by
  refine ⟨?rounds, ?code, ?timeout, ?switch, State.inputResult_isCode, ?window⟩
  case rounds => exact fun num den hden => ⟨roundHalfEven_nearest num hden, roundHalfEven_tie_even num hden⟩
  case code =>
    intro f
    obtain ⟨hlow, hhigh⟩ := limitCode_isCode f
    exact ⟨hlow, hhigh, fun h1 h2 => limitCode_of_isCode ⟨h1, h2⟩, limitCode_clips_iff f⟩
  case timeout =>
    intro s i k d
    obtain ⟨hvalue, hmarks⟩ := s.inputResult_timedOut i k d
    rw [hmarks, BitVec.getLsbD_or]
    exact ⟨hvalue, Bool.or_true _⟩
  case switch =>
    intro s i k d pos hswitch
    obtain ⟨hvalue, hmarks⟩ := State.inputResult_switchOpen hswitch k d
    rw [hmarks, BitVec.getLsbD_or, BitVec.getLsbD_or]
    exact ⟨hvalue, Bool.or_true _, Bool.or_true _⟩
  case window =>
    intro hist n f g
    obtain ⟨hlow, hhigh⟩ := windowOut_isOutput hist n f g
    refine ⟨hlow, hhigh, windowOut_saturates_iff hist n f g, windowOut_saturated_clips, fun x hx b hb => ?_⟩
    exact windowOut_keeps_mark g (List.take_subset_take_left hist (le_primeNeed n f) hx) hb

end Sys2Proof.Machine
end

section
/-! PROOFS. Mains tracking: its detector's timeout, acceptance, the report of a state that lasts, and the weights of a group (R131 to R133, R135). -/

namespace Sys2Proof.Machine

open Sys2Proof

variable {O : OtpSt} {Q : List Instr} {s : State} {t : Tq}

/-- The hub with its mains tracking replaced. -/
def State.withMains (s : State) (m : MainsSt) : State := { s with mains := m }

@[simp] theorem State.withMains_mains (s : State) (m : MainsSt) : (s.withMains m).mains = m := rfl

theorem State.withMains_frm {a : Nat} {s0 : State} {m : MainsSt} (ha : Sub 16384 a) (h : Frm a s0 s) : Frm a s0 (s.withMains m) := frm_mk h

theorem State.withMains_good {m : MainsSt} (h : Good O Q s) : Good O Q (s.withMains m) := good_mk h rfl rfl rfl rfl

/-! ### An invalid measurement (R131) -/

/-- A measurement that did not complete is queued for the engine, or lost while it is absent. -/
theorem State.mainsDeliver_incomplete (s : State) (m : Option Tq) :
    s.mainsDeliver m false = s.withMains { s.mains with done := if s.engineUp then s.mains.done ++ [m] else s.mains.done } := by
  unfold State.mainsDeliver
  split <;> rfl

theorem State.mainsInvalid_incomplete (s : State) :
    s.mainsInvalid false = (s.bump 0x20118).withMains { s.mains with
      armed := false, crossings := 0, marked := false, crossT := s.now, done := if s.engineUp then s.mains.done ++ [none] else s.mains.done } :=
  State.mainsDeliver_incomplete _ none

theorem State.reach_changes (s : State) (t : Tq) : Frm 1 s (s.reach t) := State.reach_frm (Sub.refl _) (Frm.refl _ s)

theorem mainsCrossingTimeout_counts (h : Good O Q s) (hon : s.cfgOn Fld.mainsEnable 0 = true) : Runs .mainsCrossingTimeout s (fun u =>
    u.mains.crossings = 0 ∧ u.mains.armed = false ∧ u.reg 0x20118 = (s.reg 0x20118).satAdd 1
    ∧ u.tm = (s.reach (s.mains.crossT + 2 * s.mainsNominal)).tm ∧ s.keepsBut [.tm, .regs, .mains] u) := by
  have hreach := s.reach_changes (s.mains.crossT + 2 * s.mainsNominal)
  have hm := Sub.refl 16401
  refine ⟨_, if_pos hon, ?crossings, ?armed, ?count, ?time, ?frame⟩
  case frame => exact (State.mainsInvalid_frm (hm.le (by decide)) (State.reach_frm (hm.le (by decide)) (Frm.refl _ s))).keepsParts (by decide)
  all_goals rw [State.mainsInvalid_incomplete]
  case count =>
    refine (State.reg_setReg_self (State.reach_good h)).trans ?_
    exact congrArg (fun v : W32 => v.satAdd 1) (hreach.reg (by decide))
  all_goals rfl

/-! ### Acceptance (R132, R133) -/

theorem execMainsAccept_takes {m : Option Tq} {rest : List (Option Tq)} (hdone : s.mains.done = m :: rest) (hup : s.engineUp = true) (hactive : s.isStandby = false) :
    exec .mainsAccept s = .next ((s.withMains { s.mains with done := rest }).mainsTake m) := by
  have hrole : ¬ (s.twin.role = .standby ∨ s.twin.role = .standbyUnfit) := of_decide_eq_false hactive
  change execMainsAccept s = _
  unfold execMainsAccept
  rw [hdone]
  exact (if_pos hup).trans (if_neg hrole)

theorem State.raise_mains (s : State) (e : ErrIn) : (s.raise e).mains = s.mains :=
  State.raise_frm (m := reportSet) (Sub.refl _) (Frm.refl _ s) .mains (by decide)

/-- A change of the state of tracking starts its run and its time anew. -/
theorem State.mainsMode_mains {m : MainsMode} (hm : s.mains.mode ≠ m) :
    (s.mainsMode m).mains = { s.mains with mode := m, run := 0, prev := none, warned := false, modeUp := s.tm.up } := by
  unfold State.mainsMode State.endHandling
  rw [if_neg hm]
  dsimp only
  split
  · exact State.raise_mains _ _
  · rfl

/-- An entry into HOLDOVER sets its bit of MAINS_STATUS. -/
theorem State.mainsMode_holdoverSeen (h : Good O Q s) (hm : s.mains.mode ≠ .holdover) : (s.mainsMode .holdover).bit Reg.mainsStatus 4 = true := by
  unfold State.mainsMode
  rw [if_neg hm]
  dsimp only
  rw [State.bit, State.endHandling_reg, if_pos rfl, State.raise_reg (by unfold quietReg Reg.mainsStatus; omega)]
  exact State.setBit_bit (good_mk h rfl rfl rfl rfl) (by decide)

/-- A new T_a is pending in both groups, from their next boundaries on where they strobe (R135, R350). -/
theorem State.newTa_mains (s : State) (t : Tq) (f : Option (Nat × Nat)) :
    (s.newTa t f).mains = { s.mains with ta := t, pendA := true, pendB := true, boundA := s.quiet 0, boundB := s.quiet 1, applyF := f } := rfl

theorem State.accept_mains (s : State) (t : Tq) : ∃ f, (s.accept t).mains =
    { s.mains with ta := t, pendA := true, pendB := true, boundA := s.quiet 0, boundB := s.quiet 1, applyF := f } := by
  unfold State.accept
  dsimp only
  split
  · exact ⟨_, State.sendOn_frm (m := 8891924496) (Sub.refl _) (Frm.refl _ _) .mains (by decide)⟩
  · exact ⟨none, s.newTa_mains t none⟩

/-- The fourth measurement in a row that agrees with the one before it locks, and is the period accepted. -/
theorem State.mainsTake_locks {p : Tq} (hmode : s.mains.mode = .acquiring) (hprev : s.mains.prev = some p) (hagree : agree p t = true) (hrun : s.mains.run = 3) :
    let m := (s.mainsTake (some t)).mains
    m.mode = .locked ∧ m.ta = t ∧ m.done = s.mains.done ∧ m.pendA = true ∧ m.pendB = true := by
  have htake : s.mainsTake (some t) = (s.accept t).mainsMode .locked := by
    simp [State.mainsTake, hmode, hprev, hagree, hrun]
  obtain ⟨f, haccept⟩ := s.accept_mains t
  have hacquiring : (s.accept t).mains.mode ≠ .locked := by
    rw [haccept]
    simp [hmode]
  rw [htake, State.mainsMode_mains hacquiring, haccept]
  exact ⟨rfl, rfl, rfl, rfl, rfl⟩

/-- An invalid measurement ends LOCKED; the period accepted stays. -/
theorem State.mainsTake_holdsOver (h : Good O Q s) (hmode : s.mains.mode = .locked) :
    let u := s.mainsTake none
    u.mains.mode = .holdover ∧ u.mains.ta = s.mains.ta ∧ u.mains.done = s.mains.done ∧ u.bit Reg.mainsStatus 4 = true := by
  have htake : s.mainsTake none = (s.withMains { s.mains with run := 0, prev := none }).mainsMode .holdover := if_pos hmode
  have hlocked : (s.withMains { s.mains with run := 0, prev := none }).mains.mode ≠ .holdover := by
    simp [hmode]
  have hmains := State.mainsMode_mains hlocked
  rw [htake]
  exact ⟨congrArg MainsSt.mode hmains, (congrArg MainsSt.ta hmains :), (congrArg MainsSt.done hmains :), State.mainsMode_holdoverSeen (State.withMains_good h) hlocked⟩

/-! ### A state that lasts (R132) -/

/-- The hub at an instant at which its state of tracking is reported. -/
def State.mainsWarned (s : State) (u : Nat) : State := (s.reachUp u).withMains { (s.reachUp u).mains with warned := true }

theorem State.mainsWarned_mains (s : State) (u : Nat) : (s.mainsWarned u).mains = { s.mains with warned := true } :=
  congrArg (fun m : MainsSt => { m with warned := true }) (s.reachUp_changes u .mains (by decide))

theorem State.mainsWarned_tm (s : State) (u : Nat) : (s.mainsWarned u).tm = (s.reachUp u).tm := rfl

theorem State.mainsWarned_good {u : Nat} (h : Good O Q s) : Good O Q (s.mainsWarned u) := State.withMains_good (State.reachUp_good h)

theorem State.mainsWarned_changes (s : State) (u : Nat) : Frm 16385 s (s.mainsWarned u) := by
  have hm := Sub.refl 16385
  exact State.withMains_frm (hm.le (by decide)) (State.reachUp_frm (hm.le (by decide)) (Frm.refl _ s))

/-- The report of a state that has lasted: bit 7 of MAINS_STATUS with its error. -/
def State.mainsReported (s : State) : State :=
  (s.setBit Reg.mainsStatus 7).raise { errAt 2 Reg.mainsStatus 7 0xFFFF with engine := true, recovers := true }

theorem State.mainsReported_changes (s : State) : Frm reportSet s s.mainsReported := by
  have hm := Sub.refl reportSet
  exact State.raise_frm hm (State.setBit_frm (hm.le (by decide)) (Frm.refl _ s))

theorem State.mainsReported_seen (h : Good O Q s) : s.mainsReported.bit Reg.mainsStatus 7 = true := by
  rw [State.mainsReported, State.bit, State.raise_reg (by unfold quietReg Reg.mainsStatus; omega)]
  exact State.setBit_bit h (by decide)

theorem execMainsStateTimer_warns (hmode : s.mains.mode = .acquiring ∨ s.mains.mode = .holdover) (hfirst : s.mains.warned = false) (hup : s.engineUp = true) :
    exec .mainsStateTimer s = .next (s.mainsWarned (s.mains.modeUp + 10000000000)).mainsReported :=
  if_pos ⟨hmode, hfirst, hup⟩

/-- Time, mains tracking and what a report changes. -/
def mainsReportSet : Nat := reportSet ||| 16385

theorem mainsStateTimer_reports (h : Good O Q s) (hmode : s.mains.mode = .acquiring ∨ s.mains.mode = .holdover) (hfirst : s.mains.warned = false) (hup : s.engineUp = true) :
    Runs .mainsStateTimer s (fun u => u.mains = { s.mains with warned := true } ∧ u.bit Reg.mainsStatus 7 = true
      ∧ u.tm = (s.reachUp (s.mains.modeUp + 10000000000)).tm ∧ s.keepsBut (.tm :: .mains :: reportParts) u) := by
  have hwarned : Frm mainsReportSet s (s.mainsWarned (s.mains.modeUp + 10000000000)) := (s.mainsWarned_changes _).mono ((Sub.refl _).le (by decide))
  have hreport := (s.mainsWarned (s.mains.modeUp + 10000000000)).mainsReported_changes
  refine ⟨_, execMainsStateTimer_warns hmode hfirst hup, (hreport .mains (by decide)).trans (s.mainsWarned_mains _), State.mainsReported_seen (State.mainsWarned_good h),
    (hreport .tm (by decide)).trans (s.mainsWarned_tm _), ?_⟩
  exact (hwarned.trans (hreport.mono ((Sub.refl _).le (by decide)))).keepsParts (by decide)

/-! ### The weights of a group (R135) -/

/-- A group takes the accepted period at a boundary behind it; without apply frames any such boundary will do. -/
theorem State.mainsDue_atBoundary {n : Nat} (hpends : s.mains.pends n = true) (hbound : s.mains.bound n = true) (hframe : (s.grpOf n).frame = none) (hnone : s.mains.applyF = none) :
    s.mainsDue n = true := by
  simp [State.mainsDue, State.mainsEarly, hpends, hbound, hframe, hnone]

/-- Without a pending period, before a boundary or inside a frame a group takes none. -/
theorem State.mainsDue_false {n : Nat} (hnot : s.mains.pends n = false ∨ s.mains.bound n = false ∨ (s.grpOf n).frame.isSome = true) : s.mainsDue n = false := by
  obtain hpends | hbound | hframe := hnot
  · simp [State.mainsDue, hpends]
  · simp [State.mainsDue, hbound]
  · simp [State.mainsDue, Option.isNone_eq_false_iff.mpr hframe]

/-- A period taken by one group leaves the other's pending or not as it was. -/
theorem State.setTaken_mains (s : State) (g : Group) (t : Tq) (pends : Bool) :
    let m := (s.setTaken (gidx g) t pends).mains
    m.pends (gidx g) = pends ∧ m.taken (gidx g) = t ∧ m.pends (gidx (Group.peer g)) = s.mains.pends (gidx (Group.peer g)) ∧ m.taken (gidx (Group.peer g)) = s.mains.taken (gidx (Group.peer g)) ∧ m.ta = s.mains.ta := by
  cases g <;> exact ⟨rfl, rfl, rfl, rfl, rfl⟩

theorem execMainsWeightApply_due {g : Group} (hdue : s.mainsDue (gidx g) = true) :
    exec (.mainsWeightApply g) s = .next ((s.writeWeights (gidx g)).setTaken (gidx g) s.mains.ta false) := by
  change execMainsWeightApply g s = _
  unfold execMainsWeightApply
  exact if_pos hdue

theorem mainsWeightApply_takes {g : Group} (hdue : s.mainsDue (gidx g) = true) : Runs (.mainsWeightApply g) s (fun u =>
    u.mains.pends (gidx g) = false ∧ u.mains.taken (gidx g) = s.mains.ta ∧ u.mains.pends (gidx (Group.peer g)) = s.mains.pends (gidx (Group.peer g))
    ∧ u.mains.taken (gidx (Group.peer g)) = s.mains.taken (gidx (Group.peer g)) ∧ u.mains.ta = s.mains.ta ∧ u.regs = (s.writeWeights (gidx g)).regs ∧ s.keepsBut [.regs, .mains] u) := by
  have hm := Sub.refl 16400
  have hmains : (s.writeWeights (gidx g)).mains = s.mains := State.writeWeights_frm (m := 16) (Sub.refl _) (Frm.refl _ s) .mains (by decide)
  obtain ⟨hpends, htaken, hpeerPends, hpeerTaken, hta⟩ := (s.writeWeights (gidx g)).setTaken_mains g s.mains.ta false
  rw [hmains] at hpeerPends hpeerTaken hta
  refine ⟨_, execMainsWeightApply_due hdue, hpends, htaken, hpeerPends, hpeerTaken, hta, State.setTaken_frm (m := 16384) (Sub.refl _) (Frm.refl _ _) .regs (by decide), ?_⟩
  exact (State.setTaken_frm (hm.le (by decide)) (State.writeWeights_frm (hm.le (by decide)) (Frm.refl _ s))).keepsParts (by decide)

/-! ### Mains tracking takes its measurements -/

/-- Settles O15: a timeout is mainsInvalid, acceptance is the rule of Table 5-2 on the oldest measurement, and weights are written where mainsDue says so. -/
theorem mainsTrackingTakesMeasurements : Obligations.MainsTrackingTakesMeasurements := by
  intro s hwf
  have h := good_of_wf hwf
  refine ⟨mainsCrossingTimeout_counts h, ?locks, ?holdsOver, mainsStateTimer_reports h, ?applies, ?waits, fun _ => State.mainsDue_false⟩
  case locks =>
    intro t p rest hdone hup hactive hmode hprev hagree hrun
    exact ⟨_, execMainsAccept_takes hdone hup hactive, State.mainsTake_locks (s := s.withMains { s.mains with done := rest }) hmode hprev hagree hrun⟩
  case holdsOver =>
    intro rest hdone hup hactive hmode
    exact ⟨_, execMainsAccept_takes hdone hup hactive, State.mainsTake_holdsOver (s := s.withMains { s.mains with done := rest }) (State.withMains_good h) hmode⟩
  case applies => exact fun _ hpends hbound hframe hnone => mainsWeightApply_takes (State.mainsDue_atBoundary hpends hbound hframe hnone)
  case waits => exact fun _ hdue => if_neg (by simp [hdue])

end Sys2Proof.Machine
end

section
/-! PROOFS. What a unit of a twin pair takes from its partner and its host: cuts of streams, gated completions, T_a, and TWIN_CMD (R136, R350 to R353, R356, R357, R360). -/

namespace Sys2Proof.Machine

open Sys2Proof

variable {s t u : State}

/-! ### A frame of the partner is accepted -/

theorem State.rxAccept_changes (s : State) (p : Nat) : Frm 8796361457664 s (s.rxAccept p) := State.rxAccept_frm (Sub.refl _) (Frm.refl _ s)

theorem State.rxAccept_twin (s : State) (p : Nat) : (s.rxAccept p).twin = s.twin := s.rxAccept_changes p .twin (by decide)

theorem State.rxAccept_isStandby (s : State) (p : Nat) : (s.rxAccept p).isStandby = s.isStandby := (s.rxAccept_changes p).isStandby (by decide)

theorem State.rxAccept_strmOf (s : State) (p x : Nat) : (s.rxAccept p).strmOf x = s.strmOf x :=
  congrArg (fun c => Cells.get (fun _ => StreamSt.init) c x) (s.rxAccept_changes p .strm (by decide))

theorem Frm.quiet {m n : Nat} (h : Frm m s t) (hm : m.testBit 5 = false) : t.quiet n = s.quiet n := by
  have hgrp : t.grp = s.grp := h .grp hm
  rw [State.quiet, State.quiet, State.grpOf, State.grpOf, hgrp]

theorem role_ne_active_of_isStandby (h : s.isStandby = true) : s.twin.role ≠ .active := by
  intro hactive
  rw [State.isStandby, hactive] at h
  exact absurd h (by decide)

/-! ### Cuts of the partner (R351, R352, R357) -/

/-- Entries of STREAM_SYNC a unit keeps: a new active those of streams the old one has still to cut, a standby all of them once it follows. -/
def State.syncKept (s : State) (es : List SyncEntry) : List SyncEntry :=
  if s.twin.role = .active then es.filter (fun e => (s.strmOf e.index.val).awaitCut.isSome && decide (e.kind.val ≤ 1))
  else if s.following then es else es.filter (fun e => decide (e.kind.val = 3))

/-- The hub with entries at the end of those it has still to apply. -/
def State.queueSync (s : State) (es : List SyncEntry) : State := { s with twin := { s.twin with syncQueue := s.twin.syncQueue ++ es } }

theorem State.syncKept_active {es : List SyncEntry} (hactive : s.twin.role = .active) (hcut : ∀ e ∈ es, (s.strmOf e.index.val).awaitCut = none) : s.syncKept es = [] := by
  rw [State.syncKept, if_pos hactive, List.filter_eq_nil_iff]
  intro e he
  simp [hcut e he]

theorem State.syncKept_following {es : List SyncEntry} (hactive : s.twin.role ≠ .active) (hfollowing : s.following = true) : s.syncKept es = es := by
  rw [State.syncKept, if_neg hactive, if_pos hfollowing]

theorem State.queueSync_nil (s : State) : s.queueSync [] = s := by
  rw [State.queueSync, List.append_nil]

theorem execStreamSync_ignored (es : List SyncEntry) (hservice : s.inService 2 = true) (hstandby : s.isStandby = false) (hrole : s.twin.role ≠ .active) :
    exec (.streamSync es) s = .next (s.rxAccept 2) := by
  rw [← s.rxAccept_isStandby 2] at hstandby
  rw [← s.rxAccept_twin 2] at hrole
  exact (if_neg (by simp [hservice])).trans (if_pos ⟨hstandby, hrole⟩)

theorem execStreamSync_follows (es : List SyncEntry) (hservice : s.inService 2 = true) (hpair : s.isStandby = true ∨ s.twin.role = .active) :
    exec (.streamSync es) s = .next (((s.rxAccept 2).queueSync ((s.rxAccept 2).syncKept es)).followCuts) := by
  rw [← s.rxAccept_isStandby 2, ← s.rxAccept_twin 2] at hpair
  refine (if_neg (by simp [hservice])).trans (if_neg ?_)
  rintro ⟨hstandby, hrole⟩
  exact hpair.elim (fun h => by simp [h] at hstandby) hrole

/-! ### T_a of the active (R136, R350) -/

/-- A standby takes the active's T_a, and notes whether it comes too late for a group. -/
theorem execMainsFrame_standby (f : MainsFrame) (hservice : s.inService 2 = true) (hstandby : s.isStandby = true) :
    exec (.mainsFrame f) s = .next (((s.rxAccept 2).newTa f.ta (some (f.fA, f.fB))).putReason Reason.mains
      ((s.rxAccept 2).mainsLate 0 f.fA || (s.rxAccept 2).mainsLate 1 f.fB)) := by
  rw [← s.rxAccept_isStandby 2] at hstandby
  exact (if_neg (by simp [hservice])).trans (if_neg (by simp [hstandby]))

theorem execMainsFrame_ignored (f : MainsFrame) (hservice : s.inService 2 = true) (hstandby : s.isStandby = false) :
    exec (.mainsFrame f) s = .next (s.rxAccept 2) := by
  rw [← s.rxAccept_isStandby 2] at hstandby
  exact (if_neg (by simp [hservice])).trans (if_pos hstandby)

theorem mainsFrame_takes (f : MainsFrame) (hservice : s.inService 2 = true) (hstandby : s.isStandby = true) : Runs (.mainsFrame f) s (fun u =>
    u.mains = { s.mains with ta := f.ta, pendA := true, pendB := true, boundA := s.quiet 0, boundB := s.quiet 1, applyF := some (f.fA, f.fB) }) := by
  have hrx := s.rxAccept_changes 2
  have hmains : (s.rxAccept 2).mains = s.mains := hrx .mains (by decide)
  refine ⟨_, execMainsFrame_standby f hservice hstandby, ?_⟩
  refine (State.putReason_frm (m := 10599748638736) (Sub.refl _) (Frm.refl _ _) .mains (by decide)).trans ?_
  rw [State.newTa_mains, hmains, hrx.quiet (by decide), hrx.quiet (by decide)]

/-! ### Gated completions (R353) -/

theorem execAckWaitTimeout_posts {a : AckWait} {rest : List AckWait} (hawait : s.twin.awaiting = a :: rest) :
    exec .ackWaitTimeout s = .next (({ s.reachUp (a.up + s.cfgv Fld.twinAckWaitUs 0 0 * 1000) with twin := { s.twin with awaiting := rest } } : State).postAll) := by
  have htwin : ∀ n, (s.reachUp n).twin = s.twin := fun n => s.reachUp_changes n .twin (by decide)
  change execAckWaitTimeout s = _
  unfold execAckWaitTimeout
  rw [hawait]
  dsimp only
  rw [htwin]

/-! ### What HEALTH leaves of the pair's state (R346) -/

/-- Of the pair's state only the last HEALTH and the course of a resync differ. -/
def TellsHealth (s t : State) : Prop := t.twin = { s.twin with mine := t.twin.mine, resync := t.twin.resync }

theorem TellsHealth.trans (h : TellsHealth s t) (g : TellsHealth t u) : TellsHealth s u :=
  Eq.trans g (congrArg (fun w : TwinSt => { w with mine := u.twin.mine, resync := u.twin.resync }) h)

theorem Frm.tellsHealth {m : Nat} (h : Frm m s t) (hm : m.testBit 33 = false) : TellsHealth s t := by
  have htwin : t.twin = s.twin := h .twin hm
  rw [TellsHealth, htwin]

theorem State.healthForm_tellsHealth (s : State) : TellsHealth s s.healthForm := rfl

theorem State.enqueue_tellsHealth (s : State) (p : Nat) (cls : TxClass) (body : TxBody) (tsReq : Bool) (tsId : BitVec 16) :
    TellsHealth s (s.enqueue p cls body tsReq tsId) := (State.enqueue_frm (m := 301989904) (Sub.refl _) (Frm.refl _ s)).tellsHealth (by decide)

theorem State.tellLost_tellsHealth (s : State) (p : Nat) : TellsHealth s (s.tellLost p) := by
  unfold State.tellLost
  split
  · exact s.healthForm_tellsHealth.trans (State.enqueue_tellsHealth _ _ _ _ _ _)
  · rfl

theorem State.queueFrame_tellsHealth (s : State) (p : Nat) (cls : TxClass) (body : TxBody) (tsReq : Bool) (tsId : BitVec 16) :
    TellsHealth s (s.queueFrame p cls body tsReq tsId) := by
  have hlost : TellsHealth s (s.txLost p) := (State.txLost_frm (m := 268435472) (Sub.refl _) (Frm.refl _ s)).tellsHealth (by decide)
  unfold State.queueFrame State.doIf
  split
  · exact State.enqueue_tellsHealth _ _ _ _ _ _
  · split
    · exact hlost.trans (State.tellLost_tellsHealth _ p)
    · exact hlost

theorem State.sendHealth_tellsHealth (s : State) : TellsHealth s s.sendHealth := by
  unfold State.sendHealth
  split
  · rfl
  · exact s.healthForm_tellsHealth.trans (State.queueFrame_tellsHealth _ _ _ _ _ _)

/-! ### TWIN_CMD (R360): each code is an operation of its own -/

theorem exec_twinCmdStatus (s : State) (id : Nat) : exec (.twinCmdStatus id) s = execTwinCmdStatus id s := rfl
theorem exec_twinCmdTakeover (s : State) (id : Nat) : exec (.twinCmdTakeover id) s = execTwinCmdTakeover id s := rfl
theorem exec_twinCmdReleaseSeize (s : State) (id : Nat) : exec (.twinCmdReleaseSeize id) s = execTwinCmdReleaseSeize id s := rfl
theorem exec_twinCmdResume (s : State) (id : Nat) : exec (.twinCmdResume id) s = execTwinCmdResume id s := rfl
theorem exec_twinCmdResync (s : State) (id : Nat) : exec (.twinCmdResync id) s = execTwinCmdResync id s := rfl

section
variable {id op code : Nat} {d : Desc} {f : Desc → State → State}

/-- A descriptor whose turn has come is served. -/
theorem State.serve_served (h : s.serves id op d) : s.serve id op f = .next (f d s) := by
  obtain ⟨hdesc, hturn⟩ := h
  unfold State.serve
  rw [hdesc]
  exact if_pos hturn

theorem State.serveTwin_noTwin (h : s.serves id 0x71 d) (hcode : field (d.p 0) 15 0 = code) (htwin : s.twinned = false) :
    s.serveTwin id code f = .next (s.retireBad d 0x0602) :=
  (State.serve_served h).trans (congrArg Host.Outcome.next ((if_neg (not_not_intro hcode)).trans (if_pos htwin)))

theorem State.serveTwin_twinned (h : s.serves id 0x71 d) (hcode : field (d.p 0) 15 0 = code) (htwin : s.twinned = true) :
    s.serveTwin id code f = .next (f d s) :=
  (State.serve_served h).trans (congrArg Host.Outcome.next ((if_neg (not_not_intro hcode)).trans (if_neg (by simp [htwin]))))

end

/-! ### SWAP (R357) -/

/-- A swap may be asked for: by a standby, or by the active of one. -/
def State.swapFit (s : State) : Bool :=
  match s.twin.role with
  | .active => s.partnerRole .standby
  | .standby => true
  | _ => false

theorem State.swapFit_iff (s : State) : s.swapFit = true ↔ s.twin.role = .standby ∨ (s.twin.role = .active ∧ s.partnerRole .standby = true) := by
  unfold State.swapFit
  cases s.twin.role <;> simp

/-- The hub with the descriptor that asks for its swap. -/
def State.swapAskedBy (s : State) (id : Nat) : State := { s.take id with twin := { s.twin with swapId := some id } }

/-- A swap has its frame: one asked for before keeps it. -/
def State.swapNamed (s : State) : State := if s.twin.swapAsked = false then s.nameSwap else s

theorem State.nameSwap_twin (s : State) :
    s.nameSwap.twin = { s.twin with swapFrame := s.nameSwap.twin.swapFrame, swapAt := s.nameSwap.twin.swapAt, swapAsked := true } := by
  unfold State.nameSwap
  dsimp only
  split <;> rfl

theorem State.swapNamed_twin (s : State) : s.swapNamed.twin.swapId = s.twin.swapId ∧ s.swapNamed.twin.role = s.twin.role ∧ s.swapNamed.twin.swapAsked = true := by
  unfold State.swapNamed
  split
  · rw [s.nameSwap_twin]
    exact ⟨rfl, rfl, rfl⟩
  next hasked => exact ⟨rfl, rfl, by simpa using hasked⟩

theorem State.swapNamed_host (s : State) : s.swapNamed.host = s.host := by
  unfold State.swapNamed
  split
  · exact State.nameSwap_frm (m := 8804682956800) (Sub.refl _) (Frm.refl _ s) .host (by decide)
  · rfl

/-- What a SWAP does once its turn has come. -/
def State.swapServed (s : State) (id : Nat) (d : Desc) : State :=
  if s.inService 2 = false then s.retireBad d 0x0613
  else if s.swapFit = false then s.retireBad d 0x0611
  else (s.swapAskedBy id).swapNamed.sendHealth

theorem exec_twinCmdSwap (s : State) (id : Nat) : exec (.twinCmdSwap id) s = s.serveTwin id 0x0002 (fun d t => t.swapServed id d) := rfl

theorem State.swapServed_asks {id : Nat} {d : Desc} (hservice : s.inService 2 = true) (hfit : s.swapFit = true) :
    s.swapServed id d = (s.swapAskedBy id).swapNamed.sendHealth :=
  (if_neg (by simp [hservice])).trans (if_neg (by simp [hfit]))

theorem State.swapServed_unfit {id : Nat} {d : Desc} (hservice : s.inService 2 = true) (hfit : s.swapFit = false) : s.swapServed id d = s.retireBad d 0x0611 :=
  (if_neg (by simp [hservice])).trans (if_pos hfit)

theorem twinCmdSwap_asks {id : Nat} {d : Desc} (h : s.serves id 0x71 d) (hcode : field (d.p 0) 15 0 = 2) (htwin : s.twinned = true)
    (hservice : s.inService 2 = true) (hfit : s.swapFit = true) : Runs (.twinCmdSwap id) s (fun u =>
      u.twin.swapId = some id ∧ u.twin.role = s.twin.role ∧ u.twin.swapAsked = true ∧ u.host = (s.take id).host) := by
  have hexec : exec (.twinCmdSwap id) s = .next (s.swapAskedBy id).swapNamed.sendHealth := by
    rw [exec_twinCmdSwap, State.serveTwin_twinned h hcode htwin, State.swapServed_asks hservice hfit]
  have hhost : (s.swapAskedBy id).swapNamed.sendHealth.host = (s.swapAskedBy id).swapNamed.host :=
    State.sendHealth_frm (m := 8891924496) (Sub.refl _) (Frm.refl _ _) .host (by decide)
  have htold : TellsHealth _ _ := (s.swapAskedBy id).swapNamed.sendHealth_tellsHealth
  obtain ⟨hid, hrole, hasked⟩ := (s.swapAskedBy id).swapNamed_twin
  refine ⟨_, hexec, ?_, ?_, ?_, hhost.trans (s.swapAskedBy id).swapNamed_host⟩
  · exact (congrArg TwinSt.swapId htold).trans hid
  · exact (congrArg TwinSt.role htold).trans hrole
  · exact (congrArg TwinSt.swapAsked htold).trans hasked

/-! ### The pair's frames and commands -/

/-- Settles O39: the frames of the partner by what execStreamSync and execMainsFrame keep of them, TWIN_CMD by serveTwin, and a SWAP by what nameSwap and HEALTH leave of the pair's state. -/
theorem twinCommandsAreServed : Obligations.TwinCommandsAreServed := by
  intro s _
  refine ⟨fun es => execStreamSync_ignored es, ?active, ?standby, fun _ _ => execAckWaitTimeout_posts, fun f => mainsFrame_takes f, fun f => execMainsFrame_ignored f, ?noTwin, ?twinned⟩
  case active =>
    intro es hservice hactive hcut
    have hcut' : ∀ e ∈ es, ((s.rxAccept 2).strmOf e.index.val).awaitCut = none := fun e he => by rw [s.rxAccept_strmOf]; exact hcut e he
    rw [execStreamSync_follows es hservice (Or.inr hactive), State.syncKept_active (by rw [s.rxAccept_twin]; exact hactive) hcut', State.queueSync_nil]
  case standby =>
    intro es hservice hstandby hfollowing
    have hrole : (s.rxAccept 2).twin.role ≠ .active := by
      rw [s.rxAccept_twin]
      exact role_ne_active_of_isStandby hstandby
    have hfollowing' : (s.rxAccept 2).following = true := by
      rw [State.following, s.rxAccept_twin]
      exact hfollowing
    rw [execStreamSync_follows es hservice (Or.inl hstandby), State.syncKept_following hrole hfollowing', State.queueSync, s.rxAccept_twin]
  case noTwin =>
    intro id d hserves htwin
    simp only [exec_twinCmdStatus, exec_twinCmdSwap, exec_twinCmdTakeover, exec_twinCmdReleaseSeize, exec_twinCmdResume, exec_twinCmdResync]
    refine ⟨fun hcode => ?_, fun hcode => ?_, fun hcode => ?_, fun hcode => ?_, fun hcode => ?_, fun hcode => ?_⟩
    all_goals exact State.serveTwin_noTwin hserves hcode htwin
  case twinned =>
    intro id d hserves htwin
    have served : ∀ {code : Nat} {f : Desc → State → State} {v : State}, field (d.p 0) 15 0 = code → f d s = v → s.serveTwin id code f = .next v :=
      fun hcode hv => (State.serveTwin_twinned hserves hcode htwin).trans (congrArg Host.Outcome.next hv)
    refine ⟨?status, ?swapDown, ?swapUnfit, ?swap, ?takeover, ?noTakeover, ?release, ?noRelease, ?noResume, ?resume, ?resync, ?noResync⟩
    case status => exact fun hcode => (exec_twinCmdStatus s id).trans (served hcode rfl)
    case swapDown => exact fun hcode hservice => (exec_twinCmdSwap s id).trans (served hcode (if_pos hservice))
    case swapUnfit =>
      intro hcode hservice hunfit
      rw [← s.swapFit_iff, Bool.not_eq_true] at hunfit
      exact (exec_twinCmdSwap s id).trans (served hcode (State.swapServed_unfit hservice hunfit))
    case swap => exact fun hcode hservice hfit => twinCmdSwap_asks hserves hcode htwin hservice (s.swapFit_iff.mpr hfit)
    case takeover => exact fun hcode hrole => (exec_twinCmdTakeover s id).trans (served hcode (if_pos hrole))
    case noTakeover => exact fun hcode hrole => (exec_twinCmdTakeover s id).trans (served hcode (if_neg hrole))
    case release => exact fun hcode hrole => (exec_twinCmdReleaseSeize s id).trans (served hcode (if_pos hrole))
    case noRelease => exact fun hcode hrole => (exec_twinCmdReleaseSeize s id).trans (served hcode (if_neg hrole))
    case noResume => exact fun hcode hnone => (exec_twinCmdResume s id).trans (served hcode (if_pos hnone))
    case resume =>
      intro hcode hrole hwait hread
      have hresumes : ¬ (s.twin.role ≠ .active ∨ s.twin.resumeWait = false) := by simp [hrole, hwait]
      exact (exec_twinCmdResume s id).trans (served hcode ((if_neg hresumes).trans (if_neg (by simp [hread]))))
    case resync => exact fun hcode hstandby => (exec_twinCmdResync s id).trans (served hcode (if_pos hstandby))
    case noResync => exact fun hcode hactive => (exec_twinCmdResync s id).trans (served hcode (if_neg (by simp [hactive])))

end Sys2Proof.Machine
end

section
/-! PROOFS. Statistics (R159 to R161): the instant an interval ends at, what each channel's turn leaves, reads of records, and what one output does to an interval. -/

namespace Sys2Proof.Machine

open Sys2Proof

variable {O : OtpSt} {Q : List Instr} {s t : State} {m : Nat}

/-! ### Reaching an instant (assumption 3) -/

/-- The count never goes back. -/
theorem State.count_le_reach (s : State) (e : Tq) : s.tm.count ≤ (s.reach e).tm.count := by
  unfold State.reach
  split
  next hbefore =>
    have hnow : s.tm.count / 65536 < e := hbefore.1
    exact le_trans (by omega) (le_max_right _ _)
  next => exact le_refl _

theorem State.nowNs_le_reach (s : State) (e : Tq) : s.nowNs ≤ (s.reach e).nowNs := Nat.div_le_div_right (s.count_le_reach e)

/-- A timebase that runs is at or behind the instant it has reached. -/
theorem State.le_nowNs_reach (hrun : s.tm.running = true) (n : Nat) : n ≤ (s.reach (nsTq n)).nowNs := by
  have hcount : n * 65536 * 65536 ≤ (s.reach (nsTq n)).tm.count := by
    unfold State.reach nsTq
    split
    next => exact le_max_right _ _
    next hpast =>
      have hnow : ¬ s.tm.count / 65536 < n * 65536 := fun hlt => hpast ⟨hlt, hrun⟩
      omega
  unfold State.nowNs
  omega

/-! ### The end of an interval (R159, R405) -/

theorem State.statInterval_pos (s : State) : 0 < s.statInterval :=
  Nat.mul_pos (lt_of_lt_of_le Nat.one_pos (le_max_left 1 _)) (by decide)

theorem Frm.nowNs (h : Frm m s t) (htm : m.testBit 0 = false) : t.nowNs = s.nowNs := congrArg (fun c : TimeSt => c.count / 4294967296) (h .tm htm)

theorem Frm.statsOf {n : Nat} (h : Frm m s t) (hstats : m.testBit 18 = false) : t.statsOf n = s.statsOf n :=
  congrArg (fun c => Cells.get (fun _ => StatCh.init) c n) (h .stats hstats)

theorem Frm.statInterval (h : Frm m s t) (hcfg : m.testBit 32 = false) (hotp : m.testBit 1 = false) : t.statInterval = s.statInterval := by
  rw [State.statInterval, State.statInterval, h.cfgv hcfg hotp]

/-- A new interval takes its tap and its grid from the fields, and the epoch. -/
theorem Frm.statNew (h : Frm m s t) (hcfg : m.testBit 32 = false) (hotp : m.testBit 1 = false) (hff : m.testBit 24 = false) (i j : Nat) :
    t.statNew i j = s.statNew i j := by
  have hepoch : t.epoch = s.epoch := congrArg FfSt.epoch (h .ff hff)
  simp only [State.statNew, State.statOf, h.cfgv hcfg hotp, hepoch]

/-- Some converted channel has no interval in hand that reaches to the present. -/
def State.statsPast (s : State) : Bool :=
  ((List.range 512).filter (Look.converted s.cfgv)).any (fun i => (s.statsOf i).cur.all (fun a => decide (a.index < s.nowNs / s.statInterval)))

/-- The hub as the end of an interval is taken: at once where one is past, otherwise at the end of the present one. -/
def State.statsAt (s : State) : State :=
  (if s.statsPast then s else s.reach (nsTq ((s.nowNs / s.statInterval + 1) * s.statInterval))).pllRunAgo 40000

/-- One channel's turn at the end of an interval: what it has in hand becomes the interval of an index, unless it is that far already. -/
def State.statTurn (s : State) (j i : Nat) : State :=
  match (s.statsOf i).cur with
  | some a => if decide (a.index < j) then s.statAdvance s.cfgv i j (s.statNew i j) else s
  | none => s.updStats i (fun h => { h with cur := some (s.statNew i j) })

theorem exec_statsIntervalEnd (s : State) : exec .statsIntervalEnd s =
    .next (s.statsAt.each ((List.range 512).filter (Look.converted s.cfgv)) (fun i t => t.statTurn (s.statsAt.nowNs / s.statsAt.statInterval) i)) := rfl

theorem State.statsAt_changes (s : State) : Frm 68719476737 s s.statsAt := by
  have hm := Sub.refl 68719476737
  exact State.pllRunAgo_frm (hm.le (by decide)) (frm_ite (Frm.refl _ s) (State.reach_frm (hm.le (by decide)) (Frm.refl _ s)))

theorem State.statsAt_good (h : Good O Q s) : Good O Q s.statsAt := State.pllRunAgo_good (good_ite h (State.reach_good h))

/-- The clocks that run for it do not change the time. -/
theorem State.statsAt_tm (s : State) :
    s.statsAt.tm = (if s.statsPast then s else s.reach (nsTq ((s.nowNs / s.statInterval + 1) * s.statInterval))).tm :=
  State.pllRunAgo_frm (m := 68719476736) (Sub.refl _) (Frm.refl _ _) .tm (by decide)

theorem State.nowNs_le_statsAt (s : State) : s.nowNs ≤ s.statsAt.nowNs := by
  rw [State.nowNs, State.nowNs, s.statsAt_tm]
  split
  · exact le_refl _
  · exact s.nowNs_le_reach _

/-- With no interval past, the present one ends. -/
theorem State.statsAt_later (hrun : s.tm.running = true) (hnone : s.statsPast = false) : s.nowNs / s.statInterval < s.statsAt.nowNs / s.statInterval := by
  have hat : s.statsAt.nowNs = (s.reach (nsTq ((s.nowNs / s.statInterval + 1) * s.statInterval))).nowNs := by
    rw [State.nowNs, State.nowNs, s.statsAt_tm, hnone, if_neg Bool.false_ne_true]
  rw [hat, ← Nat.succ_le_iff, Nat.le_div_iff_mul_le s.statInterval_pos]
  exact State.le_nowNs_reach hrun _

/-- An interval in hand that reaches to an index has not ended before it. -/
theorem not_ended_of_covers {cur : Option StatAcc} {j : Nat} (h : cur.any (fun a => decide (j ≤ a.index)) = true) :
    ¬ cur.all (fun a => decide (a.index < j)) = true := by
  cases cur with
  | none => exact absurd h Bool.false_ne_true
  | some a => simpa using h

theorem State.statsPast_false (h : ∀ i, i < 512 → Look.converted s.cfgv i = true →
    (s.statsOf i).cur.any (fun a => decide (s.nowNs / s.statInterval ≤ a.index)) = true) : s.statsPast = false := by
  rw [State.statsPast, List.any_eq_false]
  intro i hi
  rw [List.mem_filter, List.mem_range] at hi
  exact not_ended_of_covers (h i hi.1 hi.2)

/-! ### A channel's turn -/

section
variable {i j k : Nat} {a : StatAcc}

theorem State.statTurn_changes (s : State) (j i : Nat) : Frm 262144 s (s.statTurn j i) := by
  unfold State.statTurn
  split
  · exact frm_ite (State.statAdvance_frm (Sub.refl _) (Frm.refl _ s)) (Frm.refl _ s)
  · exact State.updStats_frm (Sub.refl _) (Frm.refl _ s)

theorem State.statTurn_good (h : Good O Q s) : Good O Q (s.statTurn j i) := by
  unfold State.statTurn
  split
  · exact good_ite (State.statAdvance_good h) h
  · exact State.updStats_good h

/-- A channel's turn leaves the statistics of every other channel alone. -/
theorem State.statTurn_other (hk : k ≠ i) : (s.statTurn j i).statsOf k = s.statsOf k := by
  unfold State.statTurn
  split
  · split
    · exact State.statsOf_updStats_other hk
    · rfl
  · exact State.statsOf_updStats_other hk

/-- An interval that the index has not passed goes on. -/
theorem State.statTurn_goesOn (hcur : (s.statsOf i).cur = some a) (hlate : j ≤ a.index) : s.statTurn j i = s := by
  unfold State.statTurn
  rw [hcur]
  exact if_neg (by simp [hlate])

theorem State.statTurn_advances (hcur : (s.statsOf i).cur = some a) (hended : a.index < j) : s.statTurn j i = s.statAdvance s.cfgv i j (s.statNew i j) := by
  unfold State.statTurn
  rw [hcur]
  exact if_pos (decide_eq_true hended)

/-- An interval that has ended gives way to the one of the index. -/
theorem State.statTurn_starts (h : Good O Q s) (hcur : (s.statsOf i).cur = some a) (hended : a.index < j) :
    ((s.statTurn j i).statsOf i).cur = some (s.statNew i j) := by
  rw [State.statTurn_advances hcur hended]
  exact congrArg StatCh.cur (State.statsOf_updStats_self h)

/-- The interval right before the one of the index is completed (R161). -/
theorem State.statTurn_completes (h : Good O Q s) (hcur : (s.statsOf i).cur = some a) (hnext : a.index + 1 = j) :
    (s.statTurn j i).statsOf i = { cur := some (s.statNew i j), done := ({ a with short := false } :: (s.statsOf i).done).take 8 } := by
  have hnothing : j - a.index - 1 = 0 := by omega
  rw [State.statTurn_advances hcur (by omega)]
  refine (State.statsOf_updStats_self h).trans ?_
  simp [hcur, hnothing, StatCh.close]

/-- A channel whose turn does not come keeps its statistics. -/
theorem State.each_statTurn_other {xs : List Nat} (hi : i ∉ xs) : ∀ s : State, (s.each xs (fun i t => t.statTurn j i)).statsOf i = s.statsOf i := by
  induction xs with
  | nil => exact fun _ => rfl
  | cons x xs ih =>
    intro s
    rw [List.mem_cons, not_or] at hi
    exact (ih hi.2 _).trans (State.statTurn_other hi.1)

/-- Each channel has its turn once, with its statistics still as they were. -/
theorem State.each_statTurn {xs : List Nat} (hxs : xs.Nodup) (hi : i ∈ xs) : ∀ {s : State}, Good O Q s →
    ∃ t, Good O Q t ∧ Frm 262144 s t ∧ t.statsOf i = s.statsOf i ∧ (s.each xs (fun i t => t.statTurn j i)).statsOf i = (t.statTurn j i).statsOf i := by
  induction xs with
  | nil => exact absurd hi List.not_mem_nil
  | cons x xs ih =>
    intro s h
    obtain ⟨hx, hxs⟩ := List.nodup_cons.mp hxs
    by_cases hix : i = x
    · subst hix
      exact ⟨s, h, Frm.refl _ s, rfl, State.each_statTurn_other hx _⟩
    · obtain ⟨t, hgood, hframe, hsame, hturn⟩ := ih hxs (List.mem_of_ne_of_mem hix hi) (State.statTurn_good h)
      exact ⟨t, hgood, (s.statTurn_changes j x).trans hframe, hsame.trans (State.statTurn_other hix), hturn⟩

theorem State.each_statTurn_changes (s : State) (xs : List Nat) (j : Nat) : Frm 262144 s (s.each xs (fun i t => t.statTurn j i)) :=
  State.each_frm (Frm.refl _ s) (fun i t ht => ht.trans (t.statTurn_changes j i))

end

/-- What the end of an interval leaves of a converted channel is what its turn leaves, from a state with the channel's statistics, the fields and the epoch as they were. -/
theorem statsIntervalEnd_turns (h : Good O Q s) : Runs .statsIntervalEnd s (fun u =>
    u.nowNs = s.statsAt.nowNs ∧ Frm 68719738881 s u
    ∧ (∀ i, i < 512 → Look.converted s.cfgv i = true → ∃ t, Good O Q t ∧ t.statsOf i = s.statsOf i ∧ (∀ j, t.statNew i j = s.statNew i j)
        ∧ u.statsOf i = (t.statTurn (s.statsAt.nowNs / s.statInterval) i).statsOf i)
    ∧ (∀ i, ¬ (i < 512 ∧ Look.converted s.cfgv i = true) → u.statsOf i = s.statsOf i)) := by
  have hat := s.statsAt_changes
  have hinterval : s.statsAt.statInterval = s.statInterval := hat.statInterval (by decide) (by decide)
  have hturns := s.statsAt.each_statTurn_changes ((List.range 512).filter (Look.converted s.cfgv)) (s.statsAt.nowNs / s.statsAt.statInterval)
  have hm := Sub.refl 68719738881
  refine ⟨_, exec_statsIntervalEnd s, hturns.nowNs (by decide), (hat.mono (hm.le (by decide))).trans (hturns.mono (hm.le (by decide))), ?converted, ?others⟩
  case converted =>
    intro i hi hconv
    obtain ⟨t, hgood, hframe, hsame, hturn⟩ := State.each_statTurn (j := s.statsAt.nowNs / s.statsAt.statInterval) (List.nodup_range.filter (Look.converted s.cfgv))
      (List.mem_filter.mpr ⟨List.mem_range.mpr hi, hconv⟩) (State.statsAt_good h)
    have hfrom := (hat.mono (hm.le (by decide))).trans (hframe.mono (hm.le (by decide)))
    refine ⟨t, hgood, hsame.trans (hat.statsOf (by decide)), hfrom.statNew (by decide) (by decide) (by decide) i, hturn.trans (by rw [hinterval])⟩
  case others =>
    intro i hnot
    refine (State.each_statTurn_other ?_ _).trans (hat.statsOf (by decide))
    rwa [List.mem_filter, List.mem_range]

/-! ### Reads (R161) -/

/-- A read of unsigned records of an interval that has begun writes them and retires OK. -/
theorem execStatsRead_writes {id : Nat} {d : Desc} (h : s.serves id 0x23 d) (hunsigned : d.flag 3 = false) (hsome : field (d.p 1) 9 0 ≠ 0)
    (hlast : field (d.p 0) 8 0 + field (d.p 1) 9 0 ≤ 512) (hroom : 64 * field (d.p 1) 9 0 ≤ d.len) (hbegun : d.p64 2 ≤ s.nowNs / s.statInterval)
    (hnamed : d.p64 2 ≠ 18446744073709551615) :
    exec (.statsRead id) s = .next ((s.descWrite d (wordBytes ((List.range (field (d.p 1) 9 0)).flatMap (fun n =>
      s.statRecord (field (d.p 0) 8 0 + n) (d.p64 2))))).retireOk d [BitVec.ofNat 32 (field (d.p 1) 9 0)]) := by
  have hfits : ¬ (field (d.p 1) 9 0 = 0 ∨ 512 < field (d.p 1) 9 0 ∨ 512 < field (d.p 0) 8 0 + field (d.p 1) 9 0 ∨ d.len < 64 * field (d.p 1) 9 0) := by omega
  change execStatsRead id s = _
  rw [execStatsRead, State.serve_served h]
  simp [hunsigned, hnamed, hfits, Nat.not_lt.mpr hbegun, State.doIf]

/-! ### One output into an interval (R160) -/

section
variable {a : StatAcc} {level hyst : Nat} {y : Int} {marks : Marks}

/-- With marked outputs included, every output counts. -/
theorem StatAcc.add_counts : (a.add level hyst false y marks).n = a.n + 1 ∧ (a.add level hyst false y marks).sum = a.sum + y := ⟨rfl, rfl⟩

theorem StatAcc.add_min : (a.add level hyst false y marks).min = if a.n = 0 then y else Min.min a.min y := rfl

theorem StatAcc.add_max : (a.add level hyst false y marks).max = if a.n = 0 then y else Max.max a.max y := rfl

/-- The extremes take the output in. -/
theorem StatAcc.add_bounds : (a.add level hyst false y marks).min ≤ y ∧ y ≤ (a.add level hyst false y marks).max := by
  rw [StatAcc.add_min, StatAcc.add_max]
  split
  · exact ⟨le_refl y, le_refl y⟩
  · exact ⟨min_le_right a.min y, le_max_right a.max y⟩

/-- The extremes of an interval with outputs only widen. -/
theorem StatAcc.add_widens (hn : a.n ≠ 0) : (a.add level hyst false y marks).min ≤ a.min ∧ a.max ≤ (a.add level hyst false y marks).max := by
  rw [StatAcc.add_min, StatAcc.add_max, if_neg hn, if_neg hn]
  exact ⟨min_le_left a.min y, le_max_left a.max y⟩

end

/-- Settles O16: the end of an interval is one turn of each converted channel, a read is execStatsRead_writes, and extremes are those of StatAcc.add. -/
theorem statisticsIntervalsCompleteAndAreRead : Obligations.StatisticsIntervalsCompleteAndAreRead := by
  refine ⟨?intervalEnd, fun s id d => execStatsRead_writes, fun a level hyst y marks => ?extremes⟩
  case intervalEnd =>
    intro s hwf
    obtain ⟨u, hexec, hnow, hframe, hconverted, hothers⟩ := statsIntervalEnd_turns (good_of_wf hwf)
    refine ⟨u, hexec, ?completes, ?starts, ?goesOn, ?later, le_of_le_of_eq s.nowNs_le_statsAt hnow.symm, hframe.keepsParts (by decide)⟩
    all_goals rw [hnow]
    case completes =>
      intro i a hi hconv hcur hnext
      obtain ⟨t, hgood, hsame, hnew, hturn⟩ := hconverted i hi hconv
      rw [hturn, State.statTurn_completes hgood (hsame ▸ hcur) hnext, hsame, hnew]
    case starts =>
      intro i a hi hconv hcur hended
      obtain ⟨t, hgood, hsame, hnew, hturn⟩ := hconverted i hi hconv
      rw [hturn, State.statTurn_starts hgood (hsame ▸ hcur) hended, hnew]
    case goesOn =>
      intro i a hcur hlate
      by_cases hi : i < 512 ∧ Look.converted s.cfgv i = true
      · obtain ⟨t, -, hsame, -, hturn⟩ := hconverted i hi.1 hi.2
        rw [hturn, State.statTurn_goesOn (hsame ▸ hcur) hlate, hsame]
      · exact hothers i hi
    case later => exact fun hrun hcovers => State.statsAt_later hrun (State.statsPast_false hcovers)
  case extremes => exact ⟨StatAcc.add_counts.1, StatAcc.add_counts.2, StatAcc.add_bounds.1, StatAcc.add_bounds.2, fun hn => StatAcc.add_widens hn⟩

end Sys2Proof.Machine
end

section
/-! PROOFS. Streams: packets that close, flushes, posted buffers, the gap record of an overflow (R146 to R154, R303), and what signing and delivery do to a packet and to host memory (R151, R388, R399). -/

namespace Sys2Proof.Machine

open Sys2Proof

variable {O : OtpSt} {Q : List Instr} {s t : State} {m : Nat}

/-! ### Bytes written to host memory -/

section
variable {mem : List Host.Cell} {a : Nat} {bs : List Byte}

/-- A run of byte writes, which may pass the top of the address space, leaves every other address alone. -/
theorem Memory.read_writeN_outside {x : Nat} (hx : ∀ i, i < bs.length → x ≠ (a + i) % 18446744073709551616) : Memory.read (Memory.writeN mem a bs) x = Memory.read mem x := by
  induction bs generalizing mem a with
  | nil => rfl
  | cons b bs ih =>
    have hrest : ∀ i, i < bs.length → x ≠ (a + 1 + i) % 18446744073709551616 := by
      intro i hi
      rw [Nat.add_assoc, Nat.add_comm 1 i]
      exact hx (i + 1) (Nat.succ_lt_succ hi)
    exact (ih hrest).trans (Cells.get_set_other (hx 0 (Nat.succ_pos _)))

/-- Bytes that fit the address space are read back where they were written. -/
theorem Memory.read_writeN (hmem : Memory.wf mem = true) (hlen : bs.length ≤ 18446744073709551616) {i : Nat} (hi : i < bs.length) :
    Memory.read (Memory.writeN mem a bs) ((a + i) % 18446744073709551616) = bs.getD i 0 := by
  induction bs generalizing mem a i with
  | nil => exact absurd hi (Nat.not_lt_zero i)
  | cons b bs ih =>
    rw [List.length_cons] at hi hlen
    cases i with
    | zero =>
      have hrest : ∀ i, i < bs.length → a % 18446744073709551616 ≠ (a + 1 + i) % 18446744073709551616 := by omega
      exact (Memory.read_writeN_outside hrest).trans (Cells.get_set_self (lo := 0) hmem)
    | succ i =>
      rw [Nat.add_comm i 1, ← Nat.add_assoc, Nat.add_comm 1 i, List.getD_cons_succ]
      exact ih (Memory.write_wf hmem) (by omega) (by omega)

end

/-! ### Packets close (R146, R147, R149) -/

section
variable {x : Nat} {p : Packet}

/-- PACKET_MAX_AGE closes the open packet at its age. -/
theorem execPacketMaxAge_closes {x : Fin 64} (hage : s.cfgv Fld.streamMaxAge x 0 ≠ 0) (hactive : s.isStandby = false) (hopen : (s.strmOf x).openPkt.isSome = true) :
    exec (.packetMaxAge x) s = .next ((s.reachUp ((s.strmOf x).openedUp + s.cfgv Fld.streamMaxAge x 0 * 1000000)).closePacket x) := by
  refine if_neg ?_
  rw [not_or, not_or, hactive, Option.isNone_eq_false_iff.mpr hopen]
  exact ⟨hage, Bool.false_ne_true, Bool.false_ne_true⟩

/-- An open packet with frames closes under the next SEQ; with no flush pending no SEQ is noted for one. -/
theorem State.closePacket_closes (hopen : (s.strmOf x).openPkt = some p) (hframes : p.frames ≠ []) (hgood : s.cfg.bad = false) (hcut : (s.strmOf x).awaitCut = none)
    (hflush : (s.strmOf x).flush = false) :
    s.closePacket x = (s.setStrm x { s.strmOf x with openPkt := none, flushCut := false, seqNext := (s.strmOf x).seqNext + 1, closing :=
      (s.strmOf x).closing ++ [{ p with seq := (s.strmOf x).seqNext, closedAt := s.tm.up, settled := decide (p.level = 0) || s.isStandby }] }).streamSettle x := by
  unfold State.closePacket
  dsimp only
  rw [hopen]
  simp [hframes, hgood, hcut, hflush]

end

/-! ### Flushes (R149) -/

/-- A stream that is enabled and not being flushed takes a flush. -/
theorem State.flushStream_flushes {x : Nat} (hon : s.cfgOn Fld.streamEnable x = true) (hactive : s.isStandby = false) (hfirst : (s.strmOf x).flush = false) :
    s.flushStream x = (s.setStrm x { s.strmOf x with flush := true, flushSeq := none, flushCut := (s.strmOf x).openPkt.isNone }).closePacket x := by
  refine if_neg ?_
  simp [hon, hactive, hfirst]

/-- A power of two has one bit. -/
theorem bitsOf_two_pow {n i : Nat} (hi : i < n) : bitsOf n (2 ^ i) = [i] := by
  have hbit : (fun k => (2 ^ i).testBit k) = fun k => k == i := by
    funext k
    rw [Nat.testBit_two_pow, beq_eq_decide, decide_eq_decide.mpr eq_comm]
  rw [bitsOf, hbit, List.filter_beq, List.nodup_range.count, if_pos (List.mem_range.mpr hi)]
  rfl

/-- A write of one bit flushes that bit's stream. -/
theorem execStreamFlush_bit (high : Bool) (i : Fin 32) (s : State) :
    exec (.streamFlush high (BitVec.ofNat 32 (2 ^ i.val))) s = .next (s.flushStream (if high then 32 + i else i)) := by
  have hword : (BitVec.ofNat 32 (2 ^ i.val)).toNat = 2 ^ i.val := Nat.mod_eq_of_lt (Nat.pow_lt_pow_right Nat.one_lt_two i.isLt)
  change execStreamFlush high _ s = _
  rw [execStreamFlush, hword, bitsOf_two_pow i.isLt]
  rfl

/-! ### Buffers are posted or refused (R151, R303) -/

section
variable {id : Nat} {d : Desc}

/-- What a STREAM_BUF does once its turn has come. -/
def State.bufServed (s : State) (id : Nat) (d : Desc) : State :=
  if s.cfgOn Fld.streamEnable (field (d.p 0) 5 0) = false then s.retireBad d 0x0201
  else if d.len < Look.largestPacket s.cfgv (field (d.p 0) 5 0) then s.retireBad d 0x0210
  else (s.take id).updStrm (field (d.p 0) 5 0) (fun st => { st with bufs := st.bufs ++ [⟨id, d.addr, d.len, 0, 0, 0, [], false⟩] })

theorem exec_streamBuf (s : State) (id : Nat) : exec (.streamBuf id) s = s.serve id 0x20 (fun d t => t.bufServed id d) := rfl

theorem exec_streamBuf_served (h : s.serves id 0x20 d) : exec (.streamBuf id) s = .next (s.bufServed id d) :=
  (exec_streamBuf s id).trans (State.serve_served h)

theorem State.bufServed_posts (hon : s.cfgOn Fld.streamEnable (field (d.p 0) 5 0) = true) (hroom : Look.largestPacket s.cfgv (field (d.p 0) 5 0) ≤ d.len) :
    s.bufServed id d = (s.take id).setStrm (field (d.p 0) 5 0)
      { s.strmOf (field (d.p 0) 5 0) with bufs := (s.strmOf (field (d.p 0) 5 0)).bufs ++ [⟨id, d.addr, d.len, 0, 0, 0, [], false⟩] } :=
  (if_neg (by simp [hon])).trans (if_neg (Nat.not_lt.mpr hroom))

theorem State.bufServed_disabled (hoff : s.cfgOn Fld.streamEnable (field (d.p 0) 5 0) = false) : s.bufServed id d = s.retireBad d 0x0201 := if_pos hoff

theorem State.bufServed_short (hon : s.cfgOn Fld.streamEnable (field (d.p 0) 5 0) = true) (hshort : d.len < Look.largestPacket s.cfgv (field (d.p 0) 5 0)) :
    s.bufServed id d = s.retireBad d 0x0210 :=
  (if_neg (by simp [hon])).trans (if_pos hshort)

end

/-! ### The gap record of an overflow (R154) -/

section
variable {x : Fin 64}

/-- An enabled stream that overflowed has room for its largest packet again, and its record is not yet under way. -/
def State.gapDue (s : State) (x : Nat) : Prop :=
  (s.strmOf x).overflow = true ∧ (s.strmOf x).resume = false ∧ s.cfgOn Fld.streamEnable x = true ∧ (s.roomFor x (Look.largestPacket s.cfgv x)).isSome = true

theorem State.gapDue.not_waits (h : s.gapDue x) : ¬ ((s.strmOf x).overflow = false ∨ (s.strmOf x).resume = true ∨ s.cfgOn Fld.streamEnable x = false
    ∨ (s.roomFor x (Look.largestPacket s.cfgv x)).isNone = true) := by
  obtain ⟨hover, hresume, hon, hroom⟩ := h
  simp [hover, hresume, hon, Option.isNone_eq_false_iff.mpr hroom]

/-- In event mode the record waits for the next frame. -/
theorem execGapRecordWrite_event (h : s.gapDue x) (hevent : Look.scheduled s.cfgv (Look.strmGroup s.cfgv x) = false) :
    exec (.gapRecordWrite x) s = .next (s.setStrm x { s.strmOf x with resume := true }) := by
  refine (if_neg h.not_waits).trans (if_neg ?_)
  simp [hevent]

/-- The epoch stands through the writing of gap records. -/
theorem State.writeGaps_epoch (s : State) (x endK : Nat) (endT : Tq) : (s.writeGaps x endK endT).epoch = s.epoch :=
  congrArg FfSt.epoch (State.writeGaps_frm (m := 6747171553296) (Sub.refl _) (Frm.refl _ s) .ff (by decide))

/-- In schedule mode the record of a host stall ends at the stream's next frame, with which assembly goes on. -/
theorem execGapRecordWrite_scheduled {l : LossSt} (h : s.gapDue x) (hcause : l.cause = 1) (hsched : Look.scheduled s.cfgv (Look.strmGroup s.cfgv x) = true)
    (hrun : (s.grpOf (Look.strmGroup s.cfgv x)).mode = .running) (hloss : (s.strmOf x).losses = [l]) (hdec : Look.strmDec s.cfgv x = 1) :
    exec (.gapRecordWrite x) s = .next ((s.writeGaps x (s.grpOf (Look.strmGroup s.cfgv x)).nextK
      (Look.edgeT s.cfgv (Look.strmGroup s.cfgv x) (s.grpOf (Look.strmGroup s.cfgv x)).nextK)).updStrm x (fun st =>
        { st with tail := some ⟨(s.grpOf (Look.strmGroup s.cfgv x)).nextK, tqNs (Look.edgeT s.cfgv (Look.strmGroup s.cfgv x) (s.grpOf (Look.strmGroup s.cfgv x)).nextK), true, s.epoch⟩,
                  skipTo := some (s.grpOf (Look.strmGroup s.cfgv x)).nextK })) := by
  have hnext : ∀ k : Nat, (k / max 1 (Look.strmDec s.cfgv x) + 1) * max 1 (Look.strmDec s.cfgv x) - 1 = k := fun k => by rw [hdec]; simp
  refine (if_neg h.not_waits).trans ((if_pos ?_).trans ?_)
  · simp [hsched, hrun, hloss, hcause]
  · simp only [hnext, State.writeGaps_epoch]

end

/-- Settles O17: each command's branch where its packet, buffer or record is due, and the rest of what it does as the model's own operations. -/
theorem streamCommandsCloseAndPost : Obligations.StreamCommandsCloseAndPost := by
  intro s
  refine ⟨fun x => execPacketMaxAge_closes, fun x p => State.closePacket_closes, ?low, ?high, ?posts, ?disabled, ?short, ?event, ?scheduled⟩
  case low => exact fun i hon hactive hfirst => (execStreamFlush_bit false i s).trans (congrArg Host.Outcome.next (State.flushStream_flushes hon hactive hfirst))
  case high => exact fun i hon hactive hfirst => (execStreamFlush_bit true i s).trans (congrArg Host.Outcome.next (State.flushStream_flushes hon hactive hfirst))
  case posts => exact fun id d h hon hroom => (exec_streamBuf_served h).trans (congrArg Host.Outcome.next (State.bufServed_posts hon hroom))
  case disabled => exact fun id d h hoff => (exec_streamBuf_served h).trans (congrArg Host.Outcome.next (State.bufServed_disabled hoff))
  case short => exact fun id d h hon hshort => (exec_streamBuf_served h).trans (congrArg Host.Outcome.next (State.bufServed_short hon hshort))
  case event => exact fun x hover hresume hon hroom => execGapRecordWrite_event ⟨hover, hresume, hon, hroom⟩
  case scheduled => exact fun x l hover hresume hon hroom => execGapRecordWrite_scheduled ⟨hover, hresume, hon, hroom⟩

/-! ### Signing (R388, R399) -/

section
variable {x : Fin 64} {p : Packet}

/-- The oldest packet that waits is signed over what R388 names, with the data key. -/
theorem execPacketSigned_signs (hweights : s.weightWaits = false) (hkeys : s.sv.withheld = false) (holdest : oldestOf s.signWait = some (x.val, p)) :
    exec (.packetSigned x) s = .next (((s.bump 0x6800C).updStrm x (fun st => st.updPacket p.seq (fun q =>
      { q with signature := some (s.signBlock 2 1 (Config.sha384 p.signed)) }))).streamSettle x) := by
  change execPacketSigned x s = _
  unfold execPacketSigned
  rw [if_neg (by simp [hweights, hkeys]), holdest]
  exact if_pos rfl

theorem execPacketSigned_waits (h : s.weightWaits = true ∨ s.sv.withheld = true) : exec (.packetSigned x) s = .next s :=
  if_pos (by simpa using h)

end

/-! ### Delivery into a buffer (R151) -/

section
variable {x : Nat} {b : StreamBuf} {p : Packet}

/-- A packet that is not damaged has no free bytes. -/
theorem Packet.bytes_undamaged (hsound : p.damaged = false) (free free' : Nat → Byte) : p.bytes free = p.bytes free' := by
  simp [Packet.bytes, hsound]

theorem Packet.lostForm_undamaged (hsound : p.damaged = false) : p.lostForm = false := by
  simp [Packet.lostForm, hsound]

/-- Nothing replaces a packet at the head that is not damaged. -/
theorem State.replaceDamaged_undamaged {rest : List Packet} (hqueue : (s.strmOf x).queue = p :: rest) (hsound : p.damaged = false) : s.replaceDamaged x = s := by
  unfold State.replaceDamaged
  dsimp only
  rw [hqueue]
  exact if_neg (by simp [Packet.lostForm_undamaged hsound])

/-- The oldest packet fills the buffer in hand, which retires when the next one does not fit. -/
theorem State.deliverPacket_fills {rest : List Packet} (hbuffer : (s.strmOf x).buffer = some b) (hqueue : (s.strmOf x).queue = p :: rest) (hsound : p.damaged = false)
    (hready : p.ready = true) (hroom : b.used + p.size ≤ b.len) (hflush : ((s.fillBuf x b p).strmOf x).flushSeq ≠ some p.seq) :
    s.deliverPacket x = (s.fillBuf x b p).bufSettle (((s.fillBuf x b p).strmOf x).bufs.length + 1) x := by
  unfold State.deliverPacket
  rw [State.replaceDamaged_undamaged hqueue hsound]
  dsimp only
  rw [hbuffer, hqueue]
  exact (if_pos ⟨hready, hroom, Packet.lostForm_undamaged hsound⟩).trans (if_neg hflush)

theorem State.hostWrite_mem (s : State) (a : Nat) (bs : List Byte) : (s.hostWrite a bs).host.mem = Memory.writeN s.host.mem a bs := rfl

/-- The host receives the packet behind what the buffer holds already; else only the stream changes. -/
theorem State.fillBuf_undamaged (hsound : p.damaged = false) : Frm 32768 (s.hostWrite (b.addr + b.used) (p.bytes (fun _ => 0))) (s.fillBuf x b p) := by
  unfold State.fillBuf
  dsimp only
  rw [Packet.bytes_undamaged hsound (fun i => BitVec.setWidth 8 (Config.freeWord (s.freeCtr + i))) (fun _ => 0), hsound, if_neg Bool.false_ne_true]
  exact State.updStrm_frm (Sub.refl _) (Frm.refl _ _)

theorem State.fillBuf_mem (hsound : p.damaged = false) : (s.fillBuf x b p).host.mem = Memory.writeN s.host.mem (b.addr + b.used) (p.bytes (fun _ => 0)) :=
  (congrArg HostSt.mem (State.fillBuf_undamaged hsound .host (by decide))).trans (s.hostWrite_mem _ _)

theorem State.fillBuf_changes (hsound : p.damaged = false) : Frm 536903680 s (s.fillBuf x b p) := by
  have hm := Sub.refl 536903680
  exact (State.hostWrite_frm (hm.le (by decide)) (Frm.refl _ s)).trans ((State.fillBuf_undamaged hsound).mono (hm.le (by decide)))

end

/-- Settles O18: signing and delivery where a packet is due, and the bytes of a run of writes to host memory. -/
theorem packetsAreSignedAndWrittenToTheirBuffer : Obligations.PacketsAreSignedAndWrittenToTheirBuffer := by
  refine ⟨fun s x p => execPacketSigned_signs, fun s x => execPacketSigned_waits, ?delivered, ?written⟩
  case delivered =>
    intro s x b p rest hdelivers hbuffer hqueue hsound hready hroom hflush
    exact (if_pos hdelivers).trans (congrArg Host.Outcome.next (State.deliverPacket_fills hbuffer hqueue hsound hready hroom hflush))
  case written =>
    intro s x b p hwf hsound hlen
    rw [State.fillBuf_mem hsound]
    exact ⟨fun i hi => Memory.read_writeN (good_of_wf hwf).mem hlen hi, fun a ha => Memory.read_writeN_outside ha, (State.fillBuf_changes hsound).keepsParts (by decide)⟩

end Sys2Proof.Machine
end

section
/-! PROOFS. Mantis: conditions and patterns (R168, R170), what capture units do with triggers, windows and descriptors (R174 to R189), and the trigger pins (R175 to R177). -/

namespace Sys2Proof.Machine

open Sys2Proof

variable {O : OtpSt} {Q : List Instr} {s t : State} {m : Nat}

/-! ### Patterns and conditions (R168, R170) -/

/-- Masking the difference of two words leaves nothing where the words agree in the bits of the mask. -/
theorem maskedDifference_eq_zero {conds mask value : Nat} :
    ((conds &&& mask) ^^^ value) &&& mask = 0 ↔ ∀ b, mask.testBit b = true → conds.testBit b = value.testBit b := by
  have hbit : ∀ b, (((conds &&& mask) ^^^ value) &&& mask).testBit b = false ↔ (mask.testBit b = true → conds.testBit b = value.testBit b) := by
    intro b
    rw [Nat.testBit_and, Nat.testBit_xor, Nat.testBit_and]
    cases mask.testBit b with
    | false => simp
    | true => simp
  constructor
  · exact fun h b => (hbit b).mp (by rw [h, Nat.zero_testBit])
  · exact fun h => Nat.eq_of_testBit_eq (fun b => by rw [(hbit b).mpr (h b), Nat.zero_testBit])

/-- A pattern field holds MASK in its low 64 bits and VALUE above them. -/
theorem patternMatches_iff {mask value conds : Nat} (hmask : mask < 18446744073709551616) :
    patternMatches (mask + 18446744073709551616 * value) conds = true ↔ mask ≠ 0 ∧ ∀ b, mask.testBit b = true → conds.testBit b = value.testBit b := by
  have hlow : (mask + 18446744073709551616 * value) % 18446744073709551616 = mask := by omega
  have hhigh : (mask + 18446744073709551616 * value) / 18446744073709551616 = value := by omega
  simp only [patternMatches, hlow, hhigh, Bool.and_eq_true, decide_eq_true_eq, maskedDifference_eq_zero]

section
variable {l u h y : Int} {marked val armed : Bool}

/-- A level from below: true at the level, false below its hysteresis, and between them as it was. -/
theorem condTable_above :
    (l ≤ y → (condTable 0 l u h y marked val armed).1 = true) ∧ (0 ≤ h → y < l - h → (condTable 0 l u h y marked val armed).1 = false)
    ∧ (l - h ≤ y → y < l → (condTable 0 l u h y marked val armed).1 = val) :=
  ⟨fun hup => if_pos hup, fun _ hlow => (if_neg (by omega)).trans (if_pos hlow), fun hin hlow => (if_neg (by omega)).trans (if_neg (by omega))⟩

/-- A level from above. -/
theorem condTable_below :
    (y < l → (condTable 1 l u h y marked val armed).1 = true) ∧ (0 ≤ h → l + h ≤ y → (condTable 1 l u h y marked val armed).1 = false) :=
  ⟨fun hlow => if_pos hlow, fun _ hup => (if_neg (by omega)).trans (if_pos hup)⟩

/-- A crossing that is not armed is false. -/
theorem condTable_unarmed (harmed : armed = false) : (condTable 2 l u h y marked val armed).1 = false ∧ (condTable 3 l u h y marked val armed).1 = false := by
  subst harmed
  exact ⟨rfl, rfl⟩

/-- A band is true inside, and the outside of one is false from its hysteresis inward. -/
theorem condTable_band :
    (l ≤ y → y < u → (condTable 4 l u h y marked val armed).1 = true) ∧ (0 ≤ h → l + h ≤ y → y < u - h → (condTable 5 l u h y marked val armed).1 = false) :=
  ⟨fun hlow hup => if_pos ⟨hlow, hup⟩, fun _ hlow hup => (if_neg (by omega)).trans (if_pos ⟨hlow, hup⟩)⟩

end

/-- Settles O21: a pattern is its two halves, and a condition the row of Table 7-1 of its type. -/
theorem patternsAndConditionsDecide : Obligations.PatternsAndConditionsDecide := by
  refine ⟨fun mask value conds hmask _ => patternMatches_iff hmask, fun l u h y marked val armed => ?_⟩
  obtain ⟨habove, hfalls, hkeeps⟩ := condTable_above (l := l) (u := u) (h := h) (y := y) (marked := marked) (val := val) (armed := armed)
  exact ⟨habove, hfalls, hkeeps, condTable_below.1, condTable_below.2, fun harmed => (condTable_unarmed harmed).1, fun harmed => (condTable_unarmed harmed).2,
    condTable_band.1, condTable_band.2, rfl⟩

/-! ### Capture jobs (R183, R184) -/

/-- The copy of every job gives the last one frames alone. -/
theorem State.copyJobs_last {js : List CapJob} {j : CapJob} (h : s.mantis.jobs = js ++ [j]) :
    ∃ copied frames, s.copyJobs.mantis.jobs = copied ++ [{ j with frames := frames }] ∧ copied.length = js.length := by
  unfold State.copyJobs
  split
  · exact ⟨js.map (fun j => j.copy s.hive), (j.copy s.hive).frames, (congrArg (List.map (fun j => j.copy s.hive)) h).trans List.map_append, List.length_map _⟩
  · exact ⟨js, j.frames, h, rfl⟩

/-- A job that starts stands last among the jobs; what history gives and has lost already are its only fields that are not the trigger's. -/
theorem State.startJob_jobs (s : State) (j : CapJob) : ∃ js late frames gone,
    (s.startJob j).mantis.jobs = js ++ [{ j with late := late, frames := frames, gone := gone }] ∧ js.length = s.mantis.jobs.length := by
  obtain ⟨js, frames, hjobs, hlen⟩ := State.copyJobs_last (s := { s with mantis := { s.mantis with jobs := s.mantis.jobs ++ [_] } }) rfl
  exact ⟨js, _, frames, _, hjobs, hlen⟩

/-- Starting a job changes the jobs alone. -/
theorem State.startJob_changes (s : State) (j : CapJob) : Frm 4194304 s (s.startJob j) := State.startJob_frm (Sub.refl _) (Frm.refl _ s)

theorem State.copyJobs_seen (s : State) : s.copyJobs.mantis.seen = s.mantis.seen := by
  unfold State.copyJobs
  split <;> rfl

theorem State.startJob_seen (s : State) (j : CapJob) : (s.startJob j).mantis.seen = s.mantis.seen := State.copyJobs_seen _

/-! ### Triggers at a capture unit (R178 to R181, R183) -/

theorem Frm.capOf {n : Nat} (h : Frm m s t) (hm : m.testBit 21 = false) : t.capOf n = s.capOf n :=
  congrArg (fun c => Cells.get (fun _ => CapSt.init) c n) (h .cap hm)

section
variable {u d : Nat} {rest : List Nat} {e : TrigEvent} {merged : Bool}

/-- The record in the making of a trigger that a unit accepts with a descriptor. -/
def State.acceptedJob (s : State) (u d : Nat) (e : TrigEvent) (merged : Bool) : CapJob :=
  { unit := u, id := d, seq := (s.capOf u).seqNext, group := s.cfgv Fld.capGroup u 0, channels := s.cfgv Fld.capChannels u 0, tTrig := e.point,
    lo := e.point - nsTq (s.cfgv Fld.capPreNs u 0), hi := e.point + nsTq (s.cfgv Fld.capPostNs u 0), epoch := s.epoch, sources := e.bits, origin := e.origin,
    interp := e.interp, coalesced := merged, missed := (s.capOf u).missed, dead := (s.capOf u).dead, late := 0, frames := [], gone := [], grids := none, spans := [],
    tooLong := false }

/-- The unit in the window of a trigger it accepted. -/
def State.inWindow (s : State) (u : Nat) (rest : List Nat) (e : TrigEvent) : CapSt :=
  { s.capOf u with
      mode := .window, descs := rest, seqNext := (s.capOf u).seqNext + 1, winEnd := e.point + nsTq (s.cfgv Fld.capPostNs u 0), deadFrom := some s.nowNs,
      missed := 0, winGroup := s.cfgv Fld.capGroup u 0, hitTook := true }

theorem State.capAccept_takes (hdescs : (s.capOf u).descs = d :: rest) :
    s.capAccept u e merged = (s.setCap u (s.inWindow u rest e)).startJob (s.acceptedJob u d e merged) := by
  unfold State.capAccept
  dsimp only
  rw [hdescs]
  rfl

theorem State.capAccept_changes (s : State) (u : Nat) (e : TrigEvent) (merged : Bool) : Frm 6291456 s (s.capAccept u e merged) :=
  State.capAccept_frm (Sub.refl _) (Frm.refl _ s)

theorem State.capAccept_capOf (h : Good O Q s) (hdescs : (s.capOf u).descs = d :: rest) : (s.capAccept u e merged).capOf u = s.inWindow u rest e := by
  rw [State.capAccept_takes hdescs, (State.startJob_changes _ _).capOf (by decide)]
  exact State.capOf_setCap_self h

/-- The job of an accepted trigger is behind those there were. -/
theorem State.capAccept_jobs (hdescs : (s.capOf u).descs = d :: rest) : ∃ js late frames gone,
    (s.capAccept u e merged).mantis.jobs = js ++ [{ s.acceptedJob u d e merged with late := late, frames := frames, gone := gone }] ∧ js.length = s.mantis.jobs.length := by
  rw [State.capAccept_takes hdescs]
  exact State.startJob_jobs _ _

/-- What a missed trigger leaves in MISSED, in the unit's status and in the unit. -/
theorem State.capMiss_leaves (h : Good O Q s) :
    (s.capMiss u).reg (Reg.cap u 8) = (s.reg (Reg.cap u 8)).satAdd 1 ∧ (s.capMiss u).bit (Reg.cap u 0) 8 = true
    ∧ (s.capMiss u).capOf u = (if (s.capOf u).deadFrom.isSome = true then { s.capOf u with missed := (s.capOf u).missed + 1 } else s.capOf u) := by
  have hcount : Good O Q (s.bump (Reg.cap u 8)) := State.bump_good h
  have hstatus : Good O Q ((s.bump (Reg.cap u 8)).setBit (Reg.cap u 0) 8) := State.setBit_good hcount
  have happart : Reg.cap u 8 ≠ Reg.cap u 0 := by unfold Reg.cap; omega
  exact ⟨(State.setBit_reg happart).trans (State.reg_setReg_self h), State.setBit_bit hcount (by decide), State.capOf_updCap_self hstatus⟩

theorem State.capMiss_changes (s : State) (u : Nat) : Frm 2097168 s (s.capMiss u) := State.capMiss_frm (Sub.refl _) (Frm.refl _ s)

/-- Triggers that the unit does not list, or that lie too far from now, do not reach it. -/
theorem State.capTrigger_refused {es : List TrigEvent} (h : ∀ e ∈ es, e.listed (s.cfgv Fld.capSources u 0) = 0 ∨ s.tooFar e.point = true) : s.capTrigger u es = s := by
  have hnone : es.filter (fun e => decide (e.listed (s.cfgv Fld.capSources u 0) ≠ 0) && !s.tooFar e.point) = [] := by
    refine List.filter_eq_nil_iff.mpr (fun e he => ?_)
    rcases h e he with hunlisted | hfar
    · simp [hunlisted]
    · simp [hfar]
  unfold State.capTrigger
  dsimp only
  rw [hnone]
  rfl

end

/-- Settles O22: an accepted trigger is capAccept_takes, a missed one capMiss_leaves, and one that is not listed or too far off capTrigger_refused. -/
theorem captureUnitsAcceptOrMissTriggers : Obligations.CaptureUnitsAcceptOrMissTriggers := by
  intro s u e hwf _
  have h := good_of_wf hwf
  refine ⟨?accepted, ?missed, ?unlisted, ?far⟩
  case accepted =>
    intro d rest merged hdescs
    obtain ⟨js, late, frames, gone, hjobs, hlen⟩ := State.capAccept_jobs (e := e) (merged := merged) hdescs
    exact ⟨State.capAccept_capOf h hdescs, ⟨_, js, hjobs, hlen, rfl, rfl, rfl, rfl, rfl, rfl, rfl, rfl, rfl, rfl⟩, (s.capAccept_changes u e merged).keepsParts (by decide)⟩
  case missed =>
    obtain ⟨hcount, hstatus, hunit⟩ := State.capMiss_leaves (u := u) h
    exact ⟨hcount, hstatus, hunit, (s.capMiss_changes u).keepsParts (by decide)⟩
  case unlisted => exact fun hunlisted => State.capTrigger_refused (by simpa using Or.inl hunlisted)
  case far => exact fun _ _ hfar => State.capTrigger_refused (by simpa using Or.inr hfar)

/-! ### A unit is armed (R178, R180, R341) -/

section
variable {u : Nat}

/-- The length of the dead interval as the unit enters ARMED: that of the one that ends there, when one runs. -/
def State.deadLength (s : State) (u : Nat) : Nat := ((s.capOf u).deadFrom.map (fun n => min (s.nowNs - n) 0xFFFFFFFF)).getD (s.capOf u).dead

/-- The unit as it enters ARMED. -/
def State.armedUnit (s : State) (u : Nat) : CapSt := { s.capOf u with mode := .armed, deadFrom := none, dead := s.deadLength u }

theorem State.capEnterArmed_capOf (h : Good O Q s) : (s.capEnterArmed u).capOf u = s.armedUnit u := by
  unfold State.capEnterArmed State.armedUnit State.deadLength
  dsimp only
  cases hdead : (s.capOf u).deadFrom with
  | none => exact State.capOf_setCap_self h
  | some n => exact State.capOf_setCap_self h

/-- The length of the dead interval is counted as it ends. -/
theorem State.capEnterArmed_dead {n : Nat} (h : Good O Q s) (hdead : (s.capOf u).deadFrom = some n) :
    (s.capEnterArmed u).reg (Reg.cap u 0x10) = BitVec.ofNat 32 (min (s.nowNs - n) 0xFFFFFFFF) := by
  unfold State.capEnterArmed
  dsimp only
  rw [hdead]
  exact State.reg_setReg_self (State.setCap_good h)

theorem Frm.capLive (h : Frm m s t) (hm : m.testBit 33 = false) : t.capLive = s.capLive := by
  have htwin : t.twin = s.twin := h .twin hm
  rw [State.capLive, State.capLive, htwin]

theorem State.capArm_changes (s : State) (u : Nat) : Frm 2097168 s (s.capArm u) := State.capArm_frm (Sub.refl _) (Frm.refl _ s)

theorem State.capArm_arms (hmode : (s.capOf u).mode = .idle) (hdescs : (s.capOf u).descs ≠ []) (hlive : s.capLive = true) : s.capArm u = s.capEnterArmed u :=
  if_pos ⟨hmode, hdescs, hlive⟩

/-- A unit without a descriptor stays as it is. -/
theorem State.capArm_waits (hdescs : (s.capOf u).descs = []) : s.capArm u = s := if_neg (fun h => h.2.1 hdescs)

/-- Arming takes no descriptor. -/
theorem State.capArm_descs (h : Good O Q s) : ((s.capArm u).capOf u).descs = (s.capOf u).descs := by
  unfold State.capArm
  split
  · rw [State.capEnterArmed_capOf h]
    rfl
  · rfl

end

/-! ### The trigger pins (R175, R177) -/

theorem execTriggerOutEnd_ends (hhigh : s.mantis.toutHigh = true) :
    exec .triggerOutEnd s = .next { s.reachUp s.mantis.toutUntil with mantis := { (s.reachUp s.mantis.toutUntil).mantis with toutHigh := false } } := if_pos hhigh

/-- The edge of a trigger input that its unit takes. -/
theorem State.tinReady_iff {v : Nat} {rising : Bool} :
    s.tinReady v rising = true ↔ s.pinCarries (s.cfgv Fld.tinGpio v 0) 6 = true ∧ (rising = true ↔ s.cfgv Fld.tinEdge v 0 = 0) := by
  unfold State.tinReady
  cases rising <;> by_cases hedge : s.cfgv Fld.tinEdge v 0 = 0 <;> simp [hedge]

theorem Frm.tinReady {v : Nat} {rising : Bool} (h : Frm m s t) (hotp : m.testBit 1 = false) (hpads : m.testBit 2 = false) (hcfg : m.testBit 32 = false) :
    t.tinReady v rising = s.tinReady v rising := by
  have hp : t.pads = s.pads := h .pads hpads
  have ho : t.otp = s.otp := h .otp hotp
  rw [State.tinReady, State.tinReady, State.pinCarries, State.pinCarries, State.pinFunc, State.pinFunc, h.cfgv hcfg hotp, hp, ho]

/-- An instant counted in ns, on the next edge of the 200 MHz converter clock (R175). -/
def State.atConverterEdge (s : State) : State := s.reachUp ((s.tm.up + 4) / 5 * 5)

theorem State.atConverterEdge_tinReady {v : Nat} {rising : Bool} : s.atConverterEdge.tinReady v rising = s.tinReady v rising :=
  (s.reachUp_changes _).tinReady (by decide) (by decide) (by decide)

theorem execTriggerInEdge_delivers {v : Fin 2} {rising : Bool} (h : s.tinReady v rising = true) :
    exec (.triggerInEdge v rising) s = .next (s.atConverterEdge.capDeliver [⟨2 ^ (32 + v.val), nsTq s.atConverterEdge.nowNs, false, 0xFFFF⟩]) :=
  if_pos (State.atConverterEdge_tinReady.trans h)

/-- Any other edge passes with the time up to it. -/
theorem execTriggerInEdge_passes {v : Fin 2} {rising : Bool} (h : ¬ s.tinReady v rising = true) : exec (.triggerInEdge v rising) s = .next s.atConverterEdge :=
  if_neg (fun hready => h (State.atConverterEdge_tinReady.symm.trans hready))

/-! ### A window ends (R178, R180) -/

section
variable {u : Fin 16}

/-- The hub at the end of a window, its unit out of it. -/
def State.windowOver (s : State) (u : Nat) : State := (s.reach (s.windowReady u)).updCap u (fun c => { c with mode := .idle })

theorem execCaptureWindowEnd_ends (hmode : (s.capOf u).mode = .window) : exec (.captureWindowEnd u) s = .next ((s.windowOver u).capArm u) := if_pos hmode

theorem State.windowOver_changes (s : State) (u : Nat) : Frm 2097153 s (s.windowOver u) := by
  have hm := Sub.refl 2097153
  exact State.updCap_frm (hm.le (by decide)) (State.reach_frm (hm.le (by decide)) (Frm.refl _ s))

theorem State.windowOver_good {u : Nat} (h : Good O Q s) : Good O Q (s.windowOver u) := State.updCap_good (State.reach_good h)

theorem State.windowOver_capOf {u : Nat} (h : Good O Q s) : (s.windowOver u).capOf u = { s.capOf u with mode := .idle } := by
  refine (State.capOf_updCap_self (State.reach_good h)).trans ?_
  rw [(s.reach_changes _).capOf (by decide)]

end

/-- Settles O23: the pulse's end and the inputs' edges by what the instant reached leaves of pins and fields, a window's end by what arming leaves of its unit. -/
theorem triggerPinsAndWindowsAct : Obligations.TriggerPinsAndWindowsAct := by
  intro s hwf
  have h := good_of_wf hwf
  refine ⟨?outEnd, ?taken, ?passed, ?idle, ?armed⟩
  case outEnd =>
    intro hhigh
    have hreach := s.reachUp_changes s.mantis.toutUntil
    have hmantis : (s.reachUp s.mantis.toutUntil).mantis = s.mantis := hreach .mantis (by decide)
    have hm := Sub.refl 4194305
    exact ⟨_, execTriggerOutEnd_ends hhigh, congrArg (fun w : MantisSt => { w with toutHigh := false }) hmantis, rfl,
      (frm_mk (hreach.mono (hm.le (by decide)))).keepsParts (m := 4194305) (by decide)⟩
  case taken => exact fun v rising hpin hedge => execTriggerInEdge_delivers (State.tinReady_iff.mpr ⟨hpin, hedge⟩)
  case passed =>
    intro v rising hother
    refine ⟨_, execTriggerInEdge_passes (fun hready => ?_), (s.reachUp_changes _).keepsParts (by decide)⟩
    obtain ⟨hpin, hedge⟩ := State.tinReady_iff.mp hready
    rcases hother with hunset | hwrong
    · exact Bool.noConfusion (hunset.symm.trans hpin)
    · exact hwrong hedge
  case idle =>
    intro u hmode hdescs
    have hunit := State.windowOver_capOf (u := u) h
    refine ⟨_, execCaptureWindowEnd_ends hmode, ?_⟩
    rw [State.capArm_waits (by rw [hunit]; exact hdescs)]
    exact ⟨hunit, (s.windowOver_changes u).keepsParts (by decide)⟩
  case armed =>
    intro u hmode hdescs hlive
    have hunit := State.windowOver_capOf (u := u) h
    have hover := State.windowOver_good (u := u) h
    have hchanges := s.windowOver_changes u
    have harms := State.capArm_arms (s := s.windowOver u) (u := u) (by rw [hunit]) (by rw [hunit]; exact hdescs) ((hchanges.capLive (by decide)).trans hlive)
    have harmed := (s.windowOver u).capArm_changes u
    have hm := Sub.refl 2097169
    have hcap : ((s.windowOver u).capArm u).capOf u = (s.windowOver u).armedUnit u := by rw [harms, State.capEnterArmed_capOf hover]
    refine ⟨_, execCaptureWindowEnd_ends hmode, ?mode, ?deadFrom, ?descs, ?dead, ((hchanges.mono (hm.le (by decide))).trans (harmed.mono (hm.le (by decide)))).keepsParts (by decide)⟩
    case mode => rw [hcap]; rfl
    case deadFrom => rw [hcap]; rfl
    case descs => rw [State.capArm_descs hover, hunit]
    case dead =>
      intro n hdead
      rw [harmed.nowNs (by decide), harms]
      exact State.capEnterArmed_dead hover (by rw [hunit]; exact hdead)

end Sys2Proof.Machine
end

section
/-! PROOFS. Mantis: captures that the host asks for (R176, R178, R183, R186, R188, R189). -/

namespace Sys2Proof.Machine

open Sys2Proof

variable {O : OtpSt} {Q : List Instr} {s t : State} {m id : Nat} {d : Desc}

/-! ### CAPTURE_ARM (R178, R188, R195) -/

/-- What a CAPTURE_ARM does once its turn has come. -/
def State.armServed (s : State) (id : Nat) (d : Desc) : State :=
  if s.capOn (field (d.p 0) 3 0) = false then s.retireBad d 0x0330
  else if d.len < s.capLargest (field (d.p 0) 3 0) + (if d.flag 3 then 104 else 0) then s.retireBad d 0x0320
  else ((s.take id).updCap (field (d.p 0) 3 0) (fun c => { c with descs := c.descs ++ [id] })).capArm (field (d.p 0) 3 0)

theorem exec_captureArm (s : State) (id : Nat) : exec (.captureArm id) s = s.serve id 0x21 (fun d t => t.armServed id d) := rfl

theorem exec_captureArm_served (h : s.serves id 0x21 d) : exec (.captureArm id) s = .next (s.armServed id d) := (exec_captureArm s id).trans (State.serve_served h)

theorem State.armServed_off (hoff : s.capOn (field (d.p 0) 3 0) = false) : s.armServed id d = s.retireBad d 0x0330 := if_pos hoff

theorem State.armServed_short (hon : s.capOn (field (d.p 0) 3 0) = true) (hshort : d.len < s.capLargest (field (d.p 0) 3 0) + (if d.flag 3 then 104 else 0)) :
    s.armServed id d = s.retireBad d 0x0320 := (if_neg (by simp [hon])).trans (if_pos hshort)

/-- The hub with a descriptor in a unit's hand. -/
def State.capHolds (s : State) (u id : Nat) : State := (s.take id).updCap u (fun c => { c with descs := c.descs ++ [id] })

theorem State.armServed_holds (hon : s.capOn (field (d.p 0) 3 0) = true) (hroom : s.capLargest (field (d.p 0) 3 0) + (if d.flag 3 then 104 else 0) ≤ d.len) :
    s.armServed id d = (s.capHolds (field (d.p 0) 3 0) id).capArm (field (d.p 0) 3 0) := (if_neg (by simp [hon])).trans (if_neg (Nat.not_lt.mpr hroom))

section
variable {u : Nat}

theorem State.capHolds_good (h : Good O Q s) : Good O Q (s.capHolds u id) := State.updCap_good (State.take_good h)

theorem State.capHolds_capOf (h : Good O Q s) : (s.capHolds u id).capOf u = { s.capOf u with descs := (s.capOf u).descs ++ [id] } :=
  State.capOf_updCap_self (State.take_good h)

theorem State.capHolds_changes (s : State) (u id : Nat) : Frm 538968064 s (s.capHolds u id) := by
  have hm := Sub.refl 538968064
  exact State.updCap_frm (hm.le (by decide)) (State.take_frm (hm.le (by decide)) (Frm.refl _ s))

/-- The unit holds the descriptor behind those it had, and one that was idle is armed. -/
theorem State.capHolds_arms (h : Good O Q s) (hlive : s.capLive = true) :
    (((s.capHolds u id).capArm u).capOf u).descs = (s.capOf u).descs ++ [id]
    ∧ ((s.capOf u).mode = .idle → (((s.capHolds u id).capArm u).capOf u).mode = .armed) := by
  have hunit := State.capHolds_capOf (u := u) (id := id) h
  have hgood := State.capHolds_good (u := u) (id := id) h
  refine ⟨by rw [State.capArm_descs hgood, hunit], fun hidle => ?_⟩
  have hdescs : ((s.capHolds u id).capOf u).descs ≠ [] := by
    rw [hunit]
    exact List.append_ne_nil_of_right_ne_nil _ (List.cons_ne_nil id [])
  rw [State.capArm_arms (by rw [hunit]; exact hidle) hdescs (((s.capHolds_changes u id).capLive (by decide)).trans hlive), State.capEnterArmed_capOf hgood]
  rfl

end

/-! ### CAPTURE_READ (R183, R189) -/

/-- The group a CAPTURE_READ names. -/
def Desc.readGroup (d : Desc) : Nat := field (d.p 0) 0 0
/-- T_A of a CAPTURE_READ. -/
def Desc.readFrom (d : Desc) : Tq := nsTq (d.p64 1)
/-- T_B of a CAPTURE_READ. -/
def Desc.readTo (d : Desc) : Tq := nsTq (d.p64 3)
/-- The bitmap of channels a CAPTURE_READ points to. -/
def State.readChannels (s : State) (d : Desc) : Nat := ofLeBytes (s.hostRead (d.p64 5) 64)

/-- The bytes a read's buffer must hold: its largest record and, when asked for, the signature. -/
def State.readRoom (s : State) (d : Desc) : Nat :=
  recordBytes (if Look.scheduled s.cfgv d.readGroup then s.readFrames d.readGroup d.readFrom d.readTo else 65535) (popCount 512 (s.readChannels d))
    + (if d.flag 3 then 104 else 0)

/-- The job of a read. -/
def State.readJob (s : State) (id : Nat) (d : Desc) : CapJob :=
  { unit := 16, id := id, seq := s.freeW, group := d.readGroup, channels := s.readChannels d, tTrig := s.readPoint d.readGroup d.readFrom,
    lo := d.readFrom, hi := d.readTo, epoch := s.epoch, sources := 0, origin := 0xFFFF, interp := false, coalesced := false, missed := 0, dead := 0, late := 0,
    frames := [], gone := [], grids := none, spans := [], tooLong := false }

/-- What a CAPTURE_READ does once its turn has come. -/
def State.readServed (s : State) (id : Nat) (d : Desc) : State :=
  if d.readTo < d.readFrom then s.retireBad d 0x0002
  else if s.tooFar (s.readPoint d.readGroup d.readFrom) then s.retireBad d 0x0810
  else if s.readOk (d.p64 5) 64 = false then s.dmaFailed d
  else if 65535 < s.readFrames d.readGroup d.readFrom d.readTo then s.retireBad d 0x0340
  else if (bitsOf 512 (s.readChannels d)).any (fun i => decide (Look.chanGroup s.cfgv i ≠ d.readGroup)) then s.retireBad d 0x0002
  else if d.len < s.readRoom d then s.retireBad d 0x0320
  else ((s.take id).freeNext).startJob (s.readJob id d)

theorem exec_captureRead (s : State) (id : Nat) : exec (.captureRead id) s = s.serve id 0x22 (fun d t => t.readServed id d) := rfl

theorem exec_captureRead_served (h : s.serves id 0x22 d) : exec (.captureRead id) s = .next (s.readServed id d) := (exec_captureRead s id).trans (State.serve_served h)

/-- A read whose end is not before its start. -/
theorem Desc.readFrom_le_readTo (h : d.p64 1 ≤ d.p64 3) : ¬ d.readTo < d.readFrom := Nat.not_lt.mpr (Nat.mul_le_mul_right 65536 h)

section
variable (horder : d.p64 1 ≤ d.p64 3)
include horder

theorem State.readServed_far (hfar : s.tooFar (s.readPoint d.readGroup d.readFrom) = true) : s.readServed id d = s.retireBad d 0x0810 :=
  (if_neg (Desc.readFrom_le_readTo horder)).trans (if_pos hfar)

variable (hnear : s.tooFar (s.readPoint d.readGroup d.readFrom) = false) (hbitmap : s.readOk (d.p64 5) 64 = true)
include hnear hbitmap

theorem State.readServed_long (hlong : 65535 < s.readFrames d.readGroup d.readFrom d.readTo) : s.readServed id d = s.retireBad d 0x0340 := by
  rw [State.readServed, if_neg (Desc.readFrom_le_readTo horder), if_neg (by simp [hnear]), if_neg (by simp [hbitmap]), if_pos hlong]

/-- A read of a window and channels that it may name asks for room, and begins. -/
theorem State.readServed_fits (hframes : s.readFrames d.readGroup d.readFrom d.readTo ≤ 65535)
    (hgroup : ∀ i ∈ bitsOf 512 (s.readChannels d), Look.chanGroup s.cfgv i = d.readGroup) :
    s.readServed id d = if d.len < s.readRoom d then s.retireBad d 0x0320 else ((s.take id).freeNext).startJob (s.readJob id d) := by
  have hone : ¬ (bitsOf 512 (s.readChannels d)).any (fun i => decide (Look.chanGroup s.cfgv i ≠ d.readGroup)) = true := by
    rw [List.any_eq_true]
    rintro ⟨i, hi, hother⟩
    exact of_decide_eq_true hother (hgroup i hi)
  rw [State.readServed, if_neg (Desc.readFrom_le_readTo horder), if_neg (by simp [hnear]), if_neg (by simp [hbitmap]), if_neg (Nat.not_lt.mpr hframes), if_neg hone]

end

/-- The start of a read's job changes the jobs, marks its descriptor and draws one free value. -/
theorem State.readStart_changes (s : State) (id : Nat) (j : CapJob) : Frm 8796634087424 s (((s.take id).freeNext).startJob j) := by
  have hm := Sub.refl 8796634087424
  exact State.startJob_frm (hm.le (by decide)) (State.freeNext_frm (hm.le (by decide)) (State.take_frm (hm.le (by decide)) (Frm.refl _ s)))

theorem State.readStart_host (s : State) (id : Nat) (j : CapJob) : (((s.take id).freeNext).startJob j).host = (s.take id).host :=
  State.startJob_changes _ j .host (by decide)

/-! ### MANTIS_FORCE (R176) -/

/-- A forced bit that is written for a unit. -/
def State.force (s : State) (u : Nat) : State := if s.cfgOn Fld.trigEnable u then s.updTrig u (fun x => { x with forced := true }) else s

theorem exec_mantisForce (w : W32) (s : State) : exec (.mantisForce w) s = .next (s.each (bitsOf 16 w.toNat) (fun u t => t.force u)) := rfl

theorem State.force_changes (s : State) (u : Nat) : Frm 1048576 s (s.force u) := frm_ite (State.updTrig_frm (Sub.refl _) (Frm.refl _ s)) (Frm.refl _ s)

theorem State.force_good {u : Nat} (h : Good O Q s) : Good O Q (s.force u) := good_ite (State.updTrig_good h) h

theorem State.force_trigOf {u v : Nat} (h : Good O Q s) :
    (s.force u).trigOf v = if v = u ∧ s.cfgOn Fld.trigEnable v = true then { s.trigOf v with forced := true } else s.trigOf v := by
  unfold State.force
  by_cases hvu : v = u
  · subst hvu
    by_cases hon : s.cfgOn Fld.trigEnable v = true
    · rw [if_pos hon, if_pos ⟨rfl, hon⟩]
      exact State.trigOf_updTrig_self h
    · rw [if_neg hon, if_neg (fun hboth => hon hboth.2)]
  · rw [if_neg (c := v = u ∧ _) (fun hboth => hvu hboth.1)]
    split
    · exact State.trigOf_updTrig_other hvu
    · rfl

/-- Forcing a unit twice is forcing it once; so of a list only what it holds counts. -/
theorem State.each_force_trigOf {v : Nat} (us : List Nat) : ∀ {s : State}, Good O Q s →
    (s.each us (fun u t => t.force u)).trigOf v = if v ∈ us ∧ s.cfgOn Fld.trigEnable v = true then { s.trigOf v with forced := true } else s.trigOf v := by
  induction us with
  | nil => exact fun _ => by simp [State.each]
  | cons u us ih =>
    intro s h
    have hcfg : (s.force u).cfgOn Fld.trigEnable v = s.cfgOn Fld.trigEnable v := by
      rw [State.cfgOn, State.cfgOn, (s.force_changes u).cfgv (by decide) (by decide)]
    refine (ih (State.force_good h)).trans ?_
    rw [hcfg, State.force_trigOf h]
    by_cases hon : s.cfgOn Fld.trigEnable v = true
    · by_cases hvu : v = u
      · simp [hvu ▸ hon, hvu]
      · simp [hon, hvu]
    · simp [hon]

/-- The units that a word names. -/
theorem mem_bitsOf_toNat {w : W32} {u : Nat} (hu : u < 16) : u ∈ bitsOf 16 w.toNat ↔ w.getLsbD u = true := by
  rw [bitsOf, List.mem_filter, List.mem_range]
  exact ⟨fun h => h.2, fun h => ⟨hu, h⟩⟩

/-! ### CAPTURE_COPY_DONE (R178, R186) -/

/-- A job that is over ends, unless its record waits to be signed behind the packets. -/
theorem execCaptureCopyDone_ends {u : Fin 17} {j : CapJob} (hjob : s.mantis.jobs.find? (fun j => j.unit == u.val) = some j) (hdesc : s.descOf j.id = some d)
    (hover : s.capOver j = true) (hdma : s.canDma = true) :
    exec (.captureCopyDone u) s = .next (if d.flag 3 = true ∧ s.packetsWait = true then s else s.capFinish j d) := by
  change execCaptureCopyDone u s = _
  unfold execCaptureCopyDone
  rw [hjob]
  dsimp only
  rw [hdesc]
  dsimp only
  by_cases hsigned : d.flag 3 = true ∧ s.packetsWait = true
  · rw [if_pos hsigned, if_neg (by simp [hsigned])]
  · rw [if_neg hsigned, if_pos ⟨hover, hdma, by simpa using hsigned⟩]

/-- Settles O24: each command's branch where its turn has come, and what arming, a read's job, forcing and a job's end leave. -/
theorem captureDescriptorsAreServed : Obligations.CaptureDescriptorsAreServed := by
  intro s hwf largest
  have h := good_of_wf hwf
  refine ⟨?off, ?short, ?arms, ?reads, ?long, ?far, ?force, fun u j d hjob hdesc hover hdma => execCaptureCopyDone_ends hjob hdesc hover hdma⟩
  case off => exact fun id d hserves hoff => (exec_captureArm_served hserves).trans (congrArg Host.Outcome.next (State.armServed_off hoff))
  case short => exact fun id d hserves hon hshort => (exec_captureArm_served hserves).trans (congrArg Host.Outcome.next (State.armServed_short hon hshort))
  case arms =>
    intro id d hserves hon hroom hlive
    obtain ⟨hdescs, hmode⟩ := State.capHolds_arms (u := field (d.p 0) 3 0) (id := id) h hlive
    have harmed := (s.capHolds (field (d.p 0) 3 0) id).capArm_changes (field (d.p 0) 3 0)
    have hm := Sub.refl 538968080
    exact ⟨_, (exec_captureArm_served hserves).trans (congrArg Host.Outcome.next (State.armServed_holds hon hroom)), hdescs, hmode, harmed .host (by decide),
      (((s.capHolds_changes _ id).mono (hm.le (by decide))).trans (harmed.mono (hm.le (by decide)))).keepsParts (by decide)⟩
  case reads =>
    intro id d hserves horder hnear hbitmap hframes hgroup
    have hexec := (exec_captureRead_served hserves).trans (congrArg Host.Outcome.next (State.readServed_fits horder hnear hbitmap hframes hgroup))
    refine ⟨fun hshort => hexec.trans (congrArg Host.Outcome.next (if_pos hshort)), fun hroom => ?_⟩
    obtain ⟨js, late, frames, gone, hjobs, hlen⟩ := State.startJob_jobs (s.take id).freeNext (s.readJob id d)
    exact ⟨_, hexec.trans (congrArg Host.Outcome.next (if_neg (Nat.not_lt.mpr hroom))), ⟨_, js, hjobs, hlen, rfl, rfl, rfl, rfl, rfl, rfl, rfl⟩,
      s.readStart_host id _, (s.readStart_changes id _).keepsParts (by decide)⟩
  case long =>
    exact fun id d hserves horder hnear hbitmap hlong =>
      (exec_captureRead_served hserves).trans (congrArg Host.Outcome.next (State.readServed_long horder hnear hbitmap hlong))
  case far => exact fun id d hserves horder hfar => (exec_captureRead_served hserves).trans (congrArg Host.Outcome.next (State.readServed_far horder hfar))
  case force =>
    intro w
    refine ⟨_, exec_mantisForce w s, fun u hu => ?_, (State.each_frm (m := 1048576) (Frm.refl _ s) (fun u t ht => ht.trans (t.force_changes u))).keepsParts (by decide)⟩
    rw [State.each_force_trigOf _ h]
    simp only [mem_bitsOf_toNat hu, Bool.and_eq_true]

end Sys2Proof.Machine
end

section
/-! PROOFS. Mantis: line triggers (R192, R193), and what accepting a frame (R258) and losing one (R261) leave of the ports and of the register window. -/

namespace Sys2Proof.Machine

open Sys2Proof

variable {O : OtpSt} {Q : List Instr} {s t : State} {m : Nat}

/-! ### What blocks leave of their port (R251 to R253) -/

/-- Two states of a port that differ in what its lanes carry alone: positions, scramblers, blocks that wait or are spoilt, and what left last. -/
def OnLanes (l u : LinkSt) : Prop :=
  u = { l with
    ctlWait := u.ctlWait, wire := u.wire, scram0 := u.scram0, scram1 := u.scram1, txPos := u.txPos, bad0 := u.bad0, bad1 := u.bad1, sent := u.sent }

theorem OnLanes.trans {l u v : LinkSt} (h : OnLanes l u) (g : OnLanes u v) : OnLanes l v :=
  Eq.trans g (congrArg (fun w : LinkSt => { w with
    ctlWait := v.ctlWait, wire := v.wire, scram0 := v.scram0, scram1 := v.scram1, txPos := v.txPos, bad0 := v.bad0, bad1 := v.bad1, sent := v.sent }) h)

theorem LinkSt.passed_onLanes (l : LinkSt) (pos : Nat) : OnLanes l (l.passed pos) := by
  unfold LinkSt.passed
  split <;> rfl

theorem LinkSt.catchUp_onLanes (l : LinkSt) (up : Nat) : OnLanes l (l.catchUp up) := (l.passed_onLanes _).trans rfl

theorem LinkSt.put_onLanes (l : LinkSt) (blocks : List Block) (bad : BitVec 2) (dark0 dark1 : Bool) : OnLanes l (l.put blocks bad dark0 dark1) :=
  (l.passed_onLanes _).trans rfl

theorem Frm.linkOf {n : Nat} (h : Frm m s t) (hm : m.testBit 28 = false) : t.linkOf n = s.linkOf n :=
  congrArg (fun c => Cells.get (fun _ => LinkSt.init) c n) (h .link hm)

section
variable {p q : Nat} {blocks : List Block} {b : BitVec 64}

theorem State.emit_onLanes (h : Good O Q s) : OnLanes (s.linkOf p) ((s.emit p blocks).linkOf p) := by
  have hport : ∃ sent, (s.emit p blocks).linkOf p = { (s.linkOf p).put blocks (if s.freeW.getLsbD 1 then 3 else 0) (s.squelched p 0) (s.squelched p 1) with sent := sent } :=
    ⟨_, State.linkOf_setLink_self h⟩
  obtain ⟨sent, hport⟩ := hport
  rw [hport]
  exact (LinkSt.put_onLanes _ _ _ _ _).trans rfl

theorem State.emit_linkOf_other (hq : q ≠ p) : (s.emit p blocks).linkOf q = s.linkOf q := State.linkOf_setLink_other hq

/-- A control block is noted as the last one sent, and takes its place on the lanes. -/
theorem State.sendCtl_onLanes (h : Good O Q s) : OnLanes { s.linkOf p with ctl := b, ctlSent := (s.linkOf p).ctlSent + 1 } ((s.sendCtl p b).linkOf p) := by
  unfold State.sendCtl
  dsimp only
  split
  · rw [State.linkOf_setLink_self h]
    rfl
  · refine OnLanes.trans ?_ (State.emit_onLanes (State.setLink_good h))
    rw [State.linkOf_setLink_self h]
    exact LinkSt.catchUp_onLanes _ _

theorem State.sendCtl_linkOf_other (hq : q ≠ p) : (s.sendCtl p b).linkOf q = s.linkOf q := by
  unfold State.sendCtl
  dsimp only
  split
  · exact State.linkOf_setLink_other hq
  · exact (State.emit_linkOf_other hq).trans (State.linkOf_setLink_other hq)

/-! ### An accepted frame at its port (R258, R274) -/

/-- The port behind an accepted frame and its acknowledgement; which older keys it keeps a free value tells. -/
def LinkSt.accepted (l : LinkSt) (oldKeys : Option LinkKeys) : LinkSt :=
  { l.receives with rxNext := l.rxNext + 1, ackSent := l.rxNext, nakFor := none, authRun := 0, oldKeys := oldKeys, ctl := ackBlock l.rxNext, ctlSent := l.ctlSent + 1 }

/-- The hub as it notes an accepted frame: keys of an earlier phase cost a free value. -/
def State.rxDrawn (s : State) (p : Nat) : State := if (s.linkOf p).receives.oldKeys.isSome then s.freeNext else s

theorem State.rxAccept_sends (s : State) (p : Nat) : ∃ oldKeys, s.rxAccept p = ((s.rxDrawn p).setLink p { (s.linkOf p).receives with
    rxNext := (s.linkOf p).rxNext + 1, ackSent := (s.linkOf p).rxNext, nakFor := none, authRun := 0, oldKeys := oldKeys }).sendCtl p (ackBlock (s.linkOf p).rxNext) :=
  ⟨_, rfl⟩

theorem State.rxAccept_onLanes (h : Good O Q s) : ∃ oldKeys, OnLanes ((s.linkOf p).accepted oldKeys) ((s.rxAccept p).linkOf p) := by
  obtain ⟨oldKeys, hsends⟩ := s.rxAccept_sends p
  have hdrawn : Good O Q (s.rxDrawn p) := good_ite (State.freeNext_good h) h
  have hport := State.sendCtl_onLanes (p := p) (b := ackBlock (s.linkOf p).rxNext) (State.setLink_good (n := p) (v := { (s.linkOf p).receives with
    rxNext := (s.linkOf p).rxNext + 1, ackSent := (s.linkOf p).rxNext, nakFor := none, authRun := 0, oldKeys := oldKeys }) hdrawn)
  rw [State.linkOf_setLink_self hdrawn] at hport
  rw [hsends]
  exact ⟨oldKeys, hport⟩

theorem State.rxDrawn_linkOf (s : State) (p : Nat) : (s.rxDrawn p).linkOf q = s.linkOf q := by
  unfold State.rxDrawn
  split <;> rfl

theorem State.rxAccept_linkOf_other (hq : q ≠ p) : (s.rxAccept p).linkOf q = s.linkOf q := by
  obtain ⟨oldKeys, hsends⟩ := s.rxAccept_sends p
  rw [hsends, State.sendCtl_linkOf_other hq, State.linkOf_setLink_other hq, State.rxDrawn_linkOf]

end

/-! ### What sending a frame leaves of the other ports and of the register window (R257, R261) -/

/-- Of the ports only p differs, and of the register window only its LINK_RETRIES and LINK_TX_LOST. -/
def AtPort (p : Nat) (s t : State) : Prop :=
  (∀ a, a ≠ Reg.link p 0x14 → a ≠ Reg.link p 0x20 → t.reg a = s.reg a) ∧ ∀ q, q ≠ p → t.linkOf q = s.linkOf q

section
variable {p q : Nat} {u : State} {cls : TxClass} {body : TxBody} {retry tsReq : Bool} {tsId : BitVec 16}

theorem AtPort.refl (p : Nat) (s : State) : AtPort p s s := ⟨fun _ _ _ => rfl, fun _ _ => rfl⟩

theorem AtPort.trans (h : AtPort p s t) (g : AtPort p t u) : AtPort p s u :=
  ⟨fun a hretries hlost => (g.1 a hretries hlost).trans (h.1 a hretries hlost), fun q hq => (g.2 q hq).trans (h.2 q hq)⟩

theorem Frm.atPort (h : Frm m s t) (hregs : m.testBit 4 = false) (hlink : m.testBit 28 = false) : AtPort p s t := ⟨fun _ _ _ => h.reg hregs, fun _ _ => h.linkOf hlink⟩

theorem State.setLink_atPort (s : State) (p : Nat) (l : LinkSt) : AtPort p s (s.setLink p l) := ⟨fun _ _ _ => rfl, fun _ hq => State.linkOf_setLink_other hq⟩

theorem State.stampReq_atPort (s : State) (p : Nat) (body : TxBody) (retry : Bool) : AtPort p s (s.stampReq p body retry) :=
  (State.stampReq_frm (m := 33554432) (Sub.refl _) (Frm.refl _ s)).atPort (by decide) (by decide)

theorem State.startNext_atPort (s : State) (p : Nat) : AtPort p s (s.startNext p) := by
  unfold State.startNext
  split
  · exact AtPort.refl p s
  · split
    · dsimp only
      split
      · split
        · refine AtPort.trans (t := State.bump (s.setLink p _) (Reg.link p 0x14)) ?_ (State.stampReq_atPort _ p _ true)
          exact ⟨fun a hretries _ => State.bump_reg hretries, fun q hq => State.linkOf_setLink_other hq⟩
        · exact s.setLink_atPort p _
      · split
        · split
          · exact (s.setLink_atPort p _).trans (State.stampReq_atPort _ p _ false)
          · exact AtPort.refl p s
        · exact AtPort.refl p s
    · dsimp only
      split
      · exact s.setLink_atPort p _
      · exact AtPort.refl p s

theorem State.enqueue_atPort (s : State) (p : Nat) (cls : TxClass) (body : TxBody) (tsReq : Bool) (tsId : BitVec 16) : AtPort p s (s.enqueue p cls body tsReq tsId) :=
  (s.setLink_atPort p _).trans (State.startNext_atPort _ p)

theorem State.txLost_atPort (s : State) (p : Nat) : AtPort p s (s.txLost p) := ⟨fun _ _ hlost => State.bump_reg hlost, fun _ hq => State.linkOf_updLink_other hq⟩

theorem State.tellLost_atPort (s : State) (p : Nat) : AtPort p s (s.tellLost p) := by
  unfold State.tellLost
  split
  next hport =>
    obtain ⟨rfl, -⟩ := hport
    have hform : AtPort 2 s s.healthForm := ⟨fun _ _ _ => rfl, fun q hq => State.linkOf_updLink_other hq⟩
    exact hform.trans (State.enqueue_atPort _ 2 _ _ _ _)
  next => exact AtPort.refl p s

/-- Only a loss on TWIN is told. -/
theorem State.tellLost_line (hline : p ≠ 2) : s.tellLost p = s := if_neg (fun h => hline h.1)

theorem State.ltrigSend_atPort (s : State) (p : Nat) (f : LineTrig) (stamped : Bool) : AtPort p s (s.ltrigSend p f stamped) := by
  unfold State.ltrigSend State.sendOn State.queueFrame State.doIf
  split
  · exact State.enqueue_atPort _ _ _ _ _ _
  · split
    · exact (s.txLost_atPort p).trans (State.tellLost_atPort _ p)
    · exact s.txLost_atPort p

/-- A disabled port of the line loses the frame, which LINK_TX_LOST counts. -/
theorem State.ltrigSend_lost {f : LineTrig} {stamped : Bool} (h : Good O Q s) (hline : p ≠ 2) (hdisabled : (s.linkOf p).mode = .disabled) :
    (s.ltrigSend p f stamped).reg (Reg.link p 0x20) = (s.reg (Reg.link p 0x20)).satAdd 1 := by
  have hfull : ¬ s.accepts p .trigger = true := by simp [State.accepts, hdisabled]
  have hlost : s.ltrigSend p f stamped = s.txLost p := by
    rw [State.ltrigSend, State.sendOn, State.queueFrame, if_neg hfull, State.doIf, State.tellLost_line hline, ite_self]
  rw [hlost]
  exact State.reg_setReg_self h

end

/-! ### Forwarding (R193) -/

/-- What each turn of a loop leaves alone, the loop does. -/
theorem State.each_same {α β : Type} {g : State → β} {xs : List α} {f : α → State → State} (hf : ∀ x ∈ xs, ∀ t, g (f x t) = g t) : ∀ s : State, g (s.each xs f) = g s := by
  induction xs with
  | nil => exact fun _ => rfl
  | cons x xs ih =>
    obtain ⟨hx, hxs⟩ := List.forall_mem_cons.mp hf
    exact fun s => (ih hxs (f x s)).trans (hx s)

/-- Registers of one port lie apart from those of another. -/
theorem Reg.link_ne {p q i j : Nat} (hpq : p ≠ q) (hi : i < 0x1000) (hj : j < 0x1000) : Reg.link p i ≠ Reg.link q j := by
  unfold Reg.link
  omega

section
variable {f : LineTrig} {n q : Nat} {xs : List Nat}

/-- Sending on other ports leaves a port and its LINK_TX_LOST alone. -/
theorem State.each_ltrigSend_other (hq : q ∉ xs) (s : State) :
    (s.each xs (fun p t => t.ltrigSend p f false)).reg (Reg.link q 0x20) = s.reg (Reg.link q 0x20) :=
  State.each_same (g := fun t => t.reg (Reg.link q 0x20)) (fun p hp t => by
    have hqp : q ≠ p := fun h => hq (h ▸ hp)
    exact (t.ltrigSend_atPort p f false).1 _ (Reg.link_ne hqp (by decide) (by decide)) (Reg.link_ne hqp (by decide) (by decide))) s

/-- A disabled port among those of the line that a frame is sent on loses it once. -/
theorem State.each_ltrigSend_lost (hxs : xs.Nodup) (hline : 2 ∉ xs) (hq : q ∈ xs) :
    ∀ {s : State}, Good O Q s → (s.linkOf q).mode = .disabled →
      (s.each xs (fun p t => t.ltrigSend p f false)).reg (Reg.link q 0x20) = (s.reg (Reg.link q 0x20)).satAdd 1 := by
  induction xs with
  | nil => exact absurd hq List.not_mem_nil
  | cons p xs ih =>
    intro s h hdisabled
    obtain ⟨hp, hxs⟩ := List.nodup_cons.mp hxs
    by_cases hqp : q = p
    · subst hqp
      exact (State.each_ltrigSend_other hp _).trans (State.ltrigSend_lost h (fun h2 => hline (h2 ▸ List.mem_cons_self)) hdisabled)
    · obtain ⟨hreg, hlink⟩ := s.ltrigSend_atPort p f false
      refine (ih hxs (fun h2 => hline (List.mem_cons_of_mem p h2)) (List.mem_of_ne_of_mem hqp hq) (State.ltrigSend_good h) (by rw [hlink q hqp, hdisabled])).trans ?_
      rw [hreg _ (Reg.link_ne hqp (by decide) (by decide)) (Reg.link_ne hqp (by decide) (by decide))]

/-- The forwarding of a line trigger that has hops left. -/
def State.ltrigForward (s : State) (n : Nat) (f : LineTrig) : State :=
  if f.hopsLeft = 0 then s else s.each (forwardPorts n) (fun q t => t.ltrigSend q { f with hopsLeft := f.hopsLeft - 1 } false)

theorem State.ltrigForward_good (h : Good O Q s) : Good O Q (s.ltrigForward n f) :=
  good_ite h (State.each_good h (fun _ _ ht => State.ltrigSend_good ht))

theorem State.ltrigForward_changes (s : State) (n : Nat) (f : LineTrig) : Frm 8891924496 s (s.ltrigForward n f) :=
  frm_ite (Frm.refl _ s) (State.each_frm (Frm.refl _ s) (fun _ _ ht => State.ltrigSend_frm (Sub.refl _) ht))

/-- Forwarding counts in the registers of the ports alone. -/
theorem State.ltrigForward_reg {a : Nat} (ha : a < 0x50000) : (s.ltrigForward n f).reg a = s.reg a := by
  have hport : ∀ p i, a ≠ Reg.link p i := by
    intro p i
    unfold Reg.link
    omega
  unfold State.ltrigForward
  split
  · rfl
  · exact State.each_reg (fun p t => (t.ltrigSend_atPort p _ false).1 a (hport p 0x14) (hport p 0x20))

theorem State.ltrigForward_last (hlast : f.hopsLeft = 0) : s.ltrigForward n f = s := if_pos hlast

theorem forwardPorts_line (n : Nat) : (forwardPorts n).Nodup ∧ 2 ∉ forwardPorts n := by
  unfold forwardPorts
  split
  · decide
  · split <;> decide

theorem State.ltrigForward_lost (h : Good O Q s) (hhops : f.hopsLeft ≠ 0) (hq : q ∈ forwardPorts n) (hdisabled : (s.linkOf q).mode = .disabled) :
    (s.ltrigForward n f).reg (Reg.link q 0x20) = (s.reg (Reg.link q 0x20)).satAdd 1 := by
  rw [State.ltrigForward, if_neg hhops]
  exact State.each_ltrigSend_lost (forwardPorts_line n).1 (forwardPorts_line n).2 hq h hdisabled

end

/-! ### Triggers at every capture unit -/

section
variable {a : Nat} {es : List TrigEvent}

/-- A unit as triggers have reached it: those of one cycle that coalesce count in CAP_COALESCED (R179). -/
def State.capReached (s : State) (u : Nat) (counts : Bool) (c : CapSt) : State := (s.doIf counts (fun t => t.bump (Reg.cap u 0xC))).setCap u c

/-- Triggers pass a unit, or reach it: then it has taken one in this cycle, which they join or not, or it takes one, or misses it. -/
theorem State.capTrigger_cases (s : State) (u : Nat) (es : List TrigEvent) : s.capTrigger u es = s ∨ ∃ counts c, s.capTrigger u es = s.capReached u counts c
    ∨ (∃ e, s.capTrigger u es = (s.capReached u counts c).capJoin u e) ∨ (∃ e merged, s.capTrigger u es = (s.capReached u counts c).capAccept u e merged)
    ∨ s.capTrigger u es = (s.capReached u counts c).capMiss u := by
  unfold State.capTrigger
  dsimp only
  split
  · exact Or.inl rfl
  · split
    · exact Or.inl rfl
    · split
      · split
        · exact Or.inr ⟨_, _, Or.inr (Or.inl ⟨_, rfl⟩)⟩
        · exact Or.inr ⟨_, _, Or.inl rfl⟩
      · split
        · exact Or.inr ⟨_, _, Or.inr (Or.inr (Or.inl ⟨_, _, rfl⟩))⟩
        · exact Or.inr ⟨_, _, Or.inr (Or.inr (Or.inr rfl))⟩

/-- A trigger at a unit counts in that unit's registers alone. -/
theorem State.capTrigger_reg {u : Nat} (hu : u < 16) (ha : 0x38400 ≤ a) : (s.capTrigger u es).reg a = s.reg a := by
  have hown : ∀ i, i < 0x40 → a ≠ Reg.cap u i := by
    intro i hi
    unfold Reg.cap
    omega
  have hreached : ∀ counts c, (s.capReached u counts c).reg a = s.reg a := by
    rintro (_ | _) c
    · rfl
    · exact State.bump_reg (hown 0xC (by decide))
  obtain hpass | ⟨counts, c, hreach | ⟨e, hjoin⟩ | ⟨e, merged, haccept⟩ | hmiss⟩ := s.capTrigger_cases u es
  · rw [hpass]
  · rw [hreach, hreached]
  · rw [hjoin, (State.capJoin_frm (m := 6291456) (Sub.refl _) (Frm.refl _ _)).reg (by decide), hreached]
  · rw [haccept, (State.capAccept_changes _ u e merged).reg (by decide), hreached]
  · rw [hmiss]
    exact ((State.setBit_reg (hown 0 (by decide))).trans (State.bump_reg (hown 8 (by decide)))).trans (hreached counts c)

theorem State.capAccept_seen (s : State) (u : Nat) (e : TrigEvent) (merged : Bool) : (s.capAccept u e merged).mantis.seen = s.mantis.seen := by
  cases hdescs : (s.capOf u).descs with
  | nil =>
    unfold State.capAccept
    dsimp only
    rw [hdescs]
  | cons d rest =>
    rw [State.capAccept_takes hdescs]
    exact State.startJob_seen _ _

theorem State.capJoin_seen (s : State) (u : Nat) (e : TrigEvent) : (s.capJoin u e).mantis.seen = s.mantis.seen := by
  unfold State.capJoin
  split
  · rfl
  · exact State.startJob_seen _ _

/-- Triggers at a unit leave the record of line triggers alone. -/
theorem State.capTrigger_seen (s : State) (u : Nat) (es : List TrigEvent) : (s.capTrigger u es).mantis.seen = s.mantis.seen := by
  have hreached : ∀ counts c, (s.capReached u counts c).mantis = s.mantis := by
    rintro (_ | _) c <;> rfl
  obtain hpass | ⟨counts, c, hreach | ⟨e, hjoin⟩ | ⟨e, merged, haccept⟩ | hmiss⟩ := s.capTrigger_cases u es
  · rw [hpass]
  · rw [hreach, hreached]
  · rw [hjoin, State.capJoin_seen, hreached]
  · rw [haccept, State.capAccept_seen, hreached]
  · have hmantis : ((s.capReached u counts c).capMiss u).mantis = (s.capReached u counts c).mantis := State.capMiss_changes _ u .mantis (by decide)
    rw [hmiss, hmantis, hreached]

theorem State.capDeliver_reg (ha : 0x38400 ≤ a) : (s.capDeliver es).reg a = s.reg a := by
  unfold State.capDeliver
  split
  · rfl
  · exact State.each_same (g := fun t => t.reg a) (fun u hu _ => State.capTrigger_reg (List.mem_range.mp hu) ha) s

theorem State.capDeliver_seen : (s.capDeliver es).mantis.seen = s.mantis.seen := by
  unfold State.capDeliver
  split
  · rfl
  · exact State.each_same (g := fun t => t.mantis.seen) (fun u _ t => t.capTrigger_seen u es) s

end

/-! ### A received line trigger (R192, R193) -/

section
variable {f : LineTrig} {n a : Nat}

theorem State.ltrigTake_otherEpoch (hepoch : f.epoch ≠ s.epoch) : s.ltrigTake f = s.bump 0x3860C := if_pos hepoch

theorem State.ltrigTake_far (hepoch : f.epoch = s.epoch) (hfar : s.tooFar f.tq = true) : s.ltrigTake f = s.bump 0x38610 :=
  (if_neg (fun h => h hepoch)).trans (if_pos hfar)

theorem State.ltrigTake_near (hepoch : f.epoch = s.epoch) (hnear : s.tooFar f.tq = false) :
    s.ltrigTake f = (s.bump 0x38604).capDeliver [⟨2 ^ (16 + f.cls.val), f.tq, false, f.origin⟩] :=
  (if_neg (fun h => h hepoch)).trans (if_neg (by simp [hnear]))

/-- Taken or dropped, a line trigger counts once, behind the registers of the capture units. -/
theorem State.ltrigTake_reg (ha : 0x38400 ≤ a) (htaken : a ≠ 0x38604) (hepoch : a ≠ 0x3860C) (hfar : a ≠ 0x38610) : (s.ltrigTake f).reg a = s.reg a := by
  unfold State.ltrigTake
  split
  · exact State.bump_reg hepoch
  · split
    · exact State.bump_reg hfar
    · exact (State.capDeliver_reg ha).trans (State.bump_reg htaken)

theorem State.ltrigTake_seen (s : State) (f : LineTrig) : (s.ltrigTake f).mantis.seen = s.mantis.seen := by
  unfold State.ltrigTake
  split
  · rfl
  · split
    · rfl
    · exact State.capDeliver_seen

theorem State.ltrigTake_changes (s : State) (f : LineTrig) : Frm 6291472 s (s.ltrigTake f) := State.ltrigTake_frm (Sub.refl _) (Frm.refl _ s)

/-- The hub as it has accepted a line trigger's frame: on TWIN the partner's TRIG_SEQ of a trigger of their own node is noted. -/
def State.ltrigArrives (s : State) (n : Nat) (f : LineTrig) : State :=
  if n = 2 ∧ f.origin = BitVec.ofNat 16 ((s.rxAccept n).cfgv Fld.mantisNodeId 0 0) then
    { s.rxAccept n with mantis := { (s.rxAccept n).mantis with partnerSeq := some f.seq } }
  else s.rxAccept n

/-- The arrival noted among the last 256. -/
def State.ltrigNoted (s : State) (n : Nat) (f : LineTrig) : State := (s.ltrigArrives n f).ltrigSeen f

theorem State.ltrigArrives_seen (s : State) (n : Nat) (f : LineTrig) : (s.ltrigArrives n f).mantis.seen = s.mantis.seen := by
  have haccept : (s.rxAccept n).mantis.seen = s.mantis.seen := congrArg MantisSt.seen (s.rxAccept_changes n .mantis (by decide))
  unfold State.ltrigArrives
  split <;> exact haccept

theorem State.ltrigArrives_duplicate (s : State) (n : Nat) (f : LineTrig) : (s.ltrigArrives n f).ltrigDuplicate f = s.ltrigDuplicate f :=
  congrArg (fun seen => List.contains seen (f.origin, f.seq, f.tq)) (s.ltrigArrives_seen n f)

theorem State.ltrigNoted_seen (s : State) (n : Nat) (f : LineTrig) : (s.ltrigNoted n f).mantis.seen = ((f.origin, f.seq, f.tq) :: s.mantis.seen).take 256 :=
  congrArg (fun seen => List.take 256 ((f.origin, f.seq, f.tq) :: seen)) (s.ltrigArrives_seen n f)

/-- Behind the frame's acceptance only Mantis's own record changes. -/
theorem State.ltrigNoted_changes (s : State) (n : Nat) (f : LineTrig) : Frm 4194304 (s.rxAccept n) (s.ltrigNoted n f) := by
  have hm := Sub.refl 4194304
  exact frm_mk (frm_ite (frm_mk (Frm.refl _ _)) (Frm.refl _ _))

theorem State.ltrigNoted_good (h : Good O Q s) : Good O Q (s.ltrigNoted n f) := by
  have haccept := State.rxAccept_good (p := n) h
  exact State.ltrigSeen_good (good_ite (good_mk haccept rfl rfl rfl rfl) haccept)

theorem State.ltrigNoted_from (s : State) (n : Nat) (f : LineTrig) : Frm 8796365651968 s (s.ltrigNoted n f) := by
  have hm := Sub.refl 8796365651968
  exact ((s.rxAccept_changes n).mono (hm.le (by decide))).trans ((s.ltrigNoted_changes n f).mono (hm.le (by decide)))

theorem State.ltrigNoted_linkOf_other {q : Nat} (hq : q ≠ n) : (s.ltrigNoted n f).linkOf q = s.linkOf q :=
  ((s.ltrigNoted_changes n f).linkOf (by decide)).trans (State.rxAccept_linkOf_other hq)

/-- The hub as it takes a first line trigger, noted and forwarded. -/
def State.ltrigReady (s : State) (n : Nat) (f : LineTrig) : State := (s.ltrigNoted n f).ltrigForward n f

theorem execLineTrigger_repeated {p : Port} (hservice : s.inService (pidx p) = true) (hseen : s.ltrigDuplicate f = true) :
    exec (.lineTrigger p f) s = .next ((s.ltrigNoted (pidx p) f).bump 0x38608) :=
  (if_neg (by simp [hservice])).trans (if_pos ((s.ltrigArrives_duplicate (pidx p) f).trans hseen))

theorem execLineTrigger_first {p : Port} (hservice : s.inService (pidx p) = true) (hnew : s.ltrigDuplicate f = false) :
    exec (.lineTrigger p f) s = .next ((s.ltrigReady (pidx p) f).ltrigTake f) := by
  have hfirst : ¬ (s.ltrigArrives (pidx p) f).ltrigDuplicate f = true := by simp [s.ltrigArrives_duplicate, hnew]
  exact (if_neg (by simp [hservice])).trans (if_neg hfirst)

theorem State.ltrigReady_changes (s : State) (n : Nat) (f : LineTrig) : Frm 8804989141008 s (s.ltrigReady n f) := by
  have hm := Sub.refl 8804989141008
  exact ((s.ltrigNoted_from n f).mono (hm.le (by decide))).trans ((State.ltrigForward_changes _ n f).mono (hm.le (by decide)))

theorem State.ltrigReady_seen (s : State) (n : Nat) (f : LineTrig) : (s.ltrigReady n f).mantis.seen = ((f.origin, f.seq, f.tq) :: s.mantis.seen).take 256 := by
  have hmantis : (s.ltrigReady n f).mantis = (s.ltrigNoted n f).mantis := State.ltrigForward_changes _ n f .mantis (by decide)
  rw [hmantis, s.ltrigNoted_seen]

theorem State.ltrigReady_good (h : Good O Q s) : Good O Q (s.ltrigReady n f) := State.ltrigForward_good (State.ltrigNoted_good h)

theorem State.ltrigReady_reg (ha : a < 0x50000) : (s.ltrigReady n f).reg a = s.reg a :=
  (State.ltrigForward_reg ha).trans ((s.ltrigNoted_from n f).reg (by decide))

/-- What the trigger's fate counts in starts from its count before. -/
theorem State.ltrigReady_counts (h : Good O Q s) (ha : a < 0x50000) : ((s.ltrigReady n f).bump a).reg a = (s.reg a).satAdd 1 := by
  refine (State.reg_setReg_self (State.ltrigReady_good h)).trans ?_
  rw [State.ltrigReady_reg ha]

theorem State.ltrigReady_epoch (s : State) (n : Nat) (f : LineTrig) : (s.ltrigReady n f).epoch = s.epoch :=
  congrArg FfSt.epoch (s.ltrigReady_changes n f .ff (by decide))

theorem State.ltrigReady_tooFar (s : State) (n : Nat) (f : LineTrig) (t : Tq) : (s.ltrigReady n f).tooFar t = s.tooFar t := by
  have htm : (s.ltrigReady n f).tm = s.tm := s.ltrigReady_changes n f .tm (by decide)
  rw [State.tooFar, State.tooFar, State.now, State.now, htm]

end

/-- The port of a repeated line trigger is the one its frame's acceptance leaves. -/
theorem OnLanes.accepted {l u : LinkSt} {oldKeys : Option LinkKeys} (h : OnLanes (l.accepted oldKeys) u) : OnLanes (l.accepted u.oldKeys) u := by
  have hkeys : u.oldKeys = oldKeys := congrArg LinkSt.oldKeys h
  rwa [hkeys]

/-- Settles O25: a repeat ends with its frame's acceptance, and a first trigger is noted, forwarded and then taken or dropped. -/
theorem lineTriggersAreTakenOnce : Obligations.LineTriggersAreTakenOnce := by
  intro s hwf p f hservice
  have h := good_of_wf hwf
  refine ⟨fun hseen => ⟨_, execLineTrigger_repeated hservice hseen, ?counted, s.ltrigNoted_seen _ f, ?port, ?frame⟩,
    fun hnew => ⟨_, execLineTrigger_first hservice hnew, (State.ltrigTake_seen _ f).trans (s.ltrigReady_seen _ f), ?repeats, ?epoch, ?far, ?near, ?last, ?lost⟩⟩
  case counted =>
    refine (State.reg_setReg_self (State.ltrigNoted_good h)).trans ?_
    rw [(s.ltrigNoted_from _ f).reg (by decide)]
  case port =>
    obtain ⟨oldKeys, hport⟩ := State.rxAccept_onLanes (p := pidx p) h
    have hsame : ((s.ltrigNoted (pidx p) f).bump 0x38608).linkOf (pidx p) = (s.rxAccept (pidx p)).linkOf (pidx p) := (s.ltrigNoted_changes _ f).linkOf (by decide)
    rw [hsame]
    exact hport.accepted
  case frame =>
    have hm := Sub.refl 8796365651984
    exact (State.bump_frm (hm.le (by decide)) ((s.ltrigNoted_from _ f).mono (hm.le (by decide)))).keepsParts (by decide)
  case repeats => exact (State.ltrigTake_reg (by decide) (by decide) (by decide) (by decide)).trans (State.ltrigReady_reg (by decide))
  case epoch =>
    intro hepoch
    rw [State.ltrigTake_otherEpoch (by rwa [s.ltrigReady_epoch])]
    exact ⟨State.ltrigReady_counts h (by decide), s.ltrigReady_changes _ f .cap (by decide)⟩
  case far =>
    intro hepoch hfar
    rw [State.ltrigTake_far (by rwa [s.ltrigReady_epoch]) (by rwa [s.ltrigReady_tooFar])]
    exact ⟨State.ltrigReady_counts h (by decide), s.ltrigReady_changes _ f .cap (by decide)⟩
  case near =>
    intro hepoch hnear
    rw [State.ltrigTake_near (by rwa [s.ltrigReady_epoch]) (by rwa [s.ltrigReady_tooFar]), State.capDeliver_reg (by decide)]
    exact State.ltrigReady_counts h (by decide)
  case last =>
    intro hlast q hq
    have htaken := (State.ltrigTake_changes (s.ltrigReady (pidx p) f) f).linkOf (n := q) (by decide)
    refine htaken.trans ?_
    rw [State.ltrigReady, State.ltrigForward_last hlast]
    exact State.ltrigNoted_linkOf_other hq
  case lost =>
    intro hhops q hq hdisabled
    have hother : q ≠ pidx p := by
      rintro rfl
      rw [State.inService, hdisabled] at hservice
      exact absurd hservice (by decide)
    have hbehind : 0x50000 ≤ Reg.link q 0x20 := by
      unfold Reg.link
      omega
    refine (State.ltrigTake_reg (by omega) (by omega) (by omega) (by omega)).trans ?_
    refine (State.ltrigForward_lost (State.ltrigNoted_good h) hhops hq (by rw [State.ltrigNoted_linkOf_other hother, hdisabled])).trans ?_
    rw [(s.ltrigNoted_from _ f).reg (by decide)]

end Sys2Proof.Machine
end

section
/-! PROOFS. The compression engine: the delta pre-transform undone (R200), what lanes do with packets (R202, R204) and with the segments of host jobs (R205, R206, R208). -/

namespace Sys2Proof.Machine

open Sys2Proof

variable {O : OtpSt} {Q : List Instr} {s t : State} {m : Nat}

/-! ### The delta pre-transform (R200) -/

/-- A bit of a difference's zigzag: the difference moved up by one, under its sign. -/
theorem getLsbD_zigzag {d : W32} {i : Nat} (hi : i < 32) : (zigzag d).getLsbD i = (((decide (0 < i)) && d.getLsbD (i - 1)) ^^ d.msb) := by
  have hsign : (d.sshiftRight 31).getLsbD i = d.msb := by
    rw [BitVec.getLsbD_sshiftRight]
    cases i with
    | zero => simp [BitVec.msb_eq_getLsbD_last]
    | succ i => simp [show ¬ 31 + (i + 1) < 32 by omega, show ¬ 32 ≤ i + 1 by omega]
  rw [zigzag, BitVec.getLsbD_xor, hsign, BitVec.getLsbD_shiftLeft]
  cases i with
  | zero => simp
  | succ i => simp [hi]

/-- A bit of what zigzag is undone to: the bit above it, under the sign in the lowest bit. -/
theorem getLsbD_unzigzag {z : W32} {i : Nat} (hi : i < 32) : (unzigzag z).getLsbD i = (z.getLsbD (i + 1) ^^ z.getLsbD 0) := by
  have hsign : (0 - (z &&& 1)).getLsbD i = z.getLsbD 0 := by
    change (0 - (z &&& 1#32)).getLsbD i = _
    rw [BitVec.and_one_eq_setWidth_ofBool_getLsbD]
    cases z.getLsbD 0 with
    | false => simp
    | true => rw [show (0 : W32) - BitVec.setWidth 32 (BitVec.ofBool true) = BitVec.allOnes 32 from rfl, BitVec.getLsbD_allOnes, decide_eq_true hi]
  rw [unzigzag, BitVec.getLsbD_xor, hsign, BitVec.getLsbD_ushiftRight, Nat.add_comm]

theorem unzigzag_zigzag (d : W32) : unzigzag (zigzag d) = d := by
  refine BitVec.eq_of_getLsbD_eq (fun i hi => ?_)
  rw [getLsbD_unzigzag hi, getLsbD_zigzag (by decide : 0 < 32)]
  by_cases htop : i = 31
  · subst htop
    rw [BitVec.getLsbD_of_ge _ _ (by decide), BitVec.msb_eq_getLsbD_last]
    simp
  · rw [getLsbD_zigzag (by omega : i + 1 < 32)]
    simp

/-- The sums of the differences are the words, whatever words stand in front. -/
theorem undeltaGo_deltaGo {c : Nat} (ws : List W32) : ∀ prev : List W32, undeltaGo c prev (deltaGo c prev ws) = ws := by
  induction ws with
  | nil => exact fun _ => rfl
  | cons w ws ih =>
    intro prev
    rw [deltaGo, undeltaGo, unzigzag_zigzag]
    by_cases hfirst : prev.length < c
    · simp only [if_pos hfirst, ih]
    · simp only [if_neg hfirst, BitVec.sub_add_cancel, ih]

@[simp] theorem length_bytePlane (b : Nat) (zs : List W32) : (bytePlane b zs).length = zs.length := List.length_map _

/-- A byte of a plane. -/
theorem toNat_getD_bytePlane {b i : Nat} {zs : List W32} (hi : i < zs.length) : ((bytePlane b zs).getD i 0).toNat = zs[i].toNat / 256 ^ b % 256 := by
  rw [List.getD_eq_getElem _ _ (by simpa using hi)]
  simp [bytePlane]

/-- A word is the number its four bytes spell. -/
theorem word_of_bytes (z : W32) :
    BitVec.ofNat 32 (z.toNat / 256 ^ 0 % 256 + 256 * (z.toNat / 256 ^ 1 % 256) + 65536 * (z.toNat / 256 ^ 2 % 256) + 16777216 * (z.toNat / 256 ^ 3 % 256)) = z := by
  have hz := z.isLt
  refine BitVec.eq_of_toNat_eq ?_
  rw [BitVec.toNat_ofNat]
  omega

/-- The byte planes are read back as the words they were made from. -/
theorem undeltaBlock_planes (c : Nat) (zs : List W32) :
    undeltaBlock c (bytePlane 0 zs ++ bytePlane 1 zs ++ bytePlane 2 zs ++ bytePlane 3 zs) = undeltaGo c [] zs := by
  have hlength : (bytePlane 0 zs ++ bytePlane 1 zs ++ bytePlane 2 zs ++ bytePlane 3 zs).length / 4 = zs.length := by
    simp only [List.length_append, length_bytePlane]
    omega
  unfold undeltaBlock
  rw [hlength]
  refine congrArg (undeltaGo c []) (List.ext_getElem (by simp) (fun i _ hi => ?_))
  have hthis : ∀ (b : Nat) (rest : List Byte), (bytePlane b zs ++ rest).getD i 0 = (bytePlane b zs).getD i 0 :=
    fun b rest => List.getD_append _ _ _ _ (by rwa [length_bytePlane])
  have hnext : ∀ (b j : Nat) (rest : List Byte), (bytePlane b zs ++ rest).getD (zs.length + j) 0 = rest.getD j 0 := fun b j rest => by
    rw [List.getD_append_right _ _ _ _ (by simp), length_bytePlane, Nat.add_sub_cancel_left]
  have htwo : 2 * zs.length + i = zs.length + (zs.length + i) := by omega
  have hthree : 3 * zs.length + i = zs.length + (zs.length + (zs.length + i)) := by omega
  simp only [List.getElem_map, List.getElem_range, htwo, hthree, List.append_assoc, hnext, hthis, toNat_getD_bytePlane hi, word_of_bytes]

theorem undeltaBlock_deltaBlock (c : Nat) (ws : List W32) : undeltaBlock c (deltaBlock c ws) = ws :=
  (undeltaBlock_planes c _).trans (undeltaGo_deltaGo ws [])

/-- Settles O20: the planes are read back as the words they were made from, zigzag is undone, and the sums of the differences are the words. -/
theorem deltaTransformIsUndone : Obligations.DeltaTransformIsUndone := fun ch ws _ => undeltaBlock_deltaBlock ch ws

/-! ### The engine's commands (R202, R204, R205) -/

theorem exec_packetCompressed (s : State) (lane : Fin 4) (ecc : Bool) : exec (.packetCompressed lane ecc) s = execPacketCompressed lane ecc s := rfl
theorem exec_cmpBypass (s : State) (x : Fin 64) : exec (.cmpBypass x) s = execCmpBypass x s := rfl
theorem exec_compress (s : State) (id : Nat) : exec (.compress id) s = s.serve id 0x30 (fun d t => t.acceptJob d) := rfl
theorem exec_decompress (s : State) (id : Nat) : exec (.decompress id) s = s.serve id 0x31 (fun d t => t.acceptJob d) := rfl
theorem exec_compressionJobDone (s : State) (lane : Fin 4) : exec (.compressionJobDone lane) s = execCompressionJobDone lane s := rfl

/-! ### Packets on lanes (R202, R204) -/

section
variable {n x : Nat} {p : Packet} {st : StreamSt}

theorem StreamSt.onLane_lane (h : st.onLane n = some p) : p.lane = some n := by
  have hp := List.find?_some h
  rw [Bool.and_eq_true, decide_eq_true_eq] at hp
  exact hp.1

theorem State.leaveLane_on (h : p.lane = some n) : s.leaveLane p = s.setLane n .free := by
  unfold State.leaveLane
  rw [h]

/-- A region that meets no injected error takes a write as it is. -/
theorem State.memWrite_sound {region : Nat} (h : s.memError region = 0) : s.memWrite region = s := if_pos h

/-- A lane ends with its packet: a staging error sends the packet as it is. -/
theorem exec_packetCompressed_ends {lane : Fin 4} {ecc : Bool} (hlane : s.comp.lanes.getD lane .free = .packet x) (hp : (s.strmOf x).onLane lane = some p)
    (hsound : s.memError 3 = 0) :
    exec (.packetCompressed lane ecc) s = if ecc then .next ((s.setBit Reg.cmpStatus 10).bypass x p) else .next (s.packetCompressed x p) := by
  rw [exec_packetCompressed, execPacketCompressed]
  simp only [hlane, hp, hsound, State.memWrite_sound hsound]
  cases ecc <;> rfl

/-- A lane ends with a packet that has been discarded. -/
theorem exec_packetCompressed_discarded {lane : Fin 4} {ecc : Bool} (hlane : s.comp.lanes.getD lane .free = .packet x) (hp : (s.strmOf x).onLane lane = none) :
    exec (.packetCompressed lane ecc) s = .next ((s.setLane lane .free).streamSettle x) := by
  rw [exec_packetCompressed, execPacketCompressed]
  simp only [hlane, hp]

theorem State.packetCompressed_on (h : p.lane = some n) : s.packetCompressed x p = (((s.cmpPacket p).setLane n .free).updStrm x (fun st =>
    st.updPacket p.seq (fun r => { r with settled := true, lane := none, packed := p.settleForm.packed }))).streamSettle x := by
  unfold State.packetCompressed
  rw [State.leaveLane_on h]

theorem State.bypass_on (h : p.lane = some n) : s.bypass x p = ((((s.bump 0x40004).setBit Reg.cmpStatus 8).setLane n .free).updStrm x (fun st =>
    st.updPacket p.seq (fun r => { r with settled := true, lane := none }))).streamSettle x := by
  unfold State.bypass
  rw [State.leaveLane_on h]

theorem StreamSt.length_queue_updPacket {seq : W32} {f : Packet → Packet} : (st.updPacket seq f).queue.length = st.queue.length := List.length_map _

/-- The packet of the SEQ that is changed. -/
theorem StreamSt.mem_closing_updPacket {f : Packet → Packet} (h : p ∈ st.closing) : f p ∈ (st.updPacket p.seq f).closing :=
  List.mem_map.mpr ⟨p, h, if_pos rfl⟩

/-- A packet of another SEQ. -/
theorem StreamSt.mem_closing_updPacket_other {seq : W32} {f : Packet → Packet} (h : p ∈ st.closing) (hseq : p.seq ≠ seq) : p ∈ (st.updPacket seq f).closing :=
  List.mem_map.mpr ⟨p, h, if_neg hseq⟩

theorem Packet.settleForm_open (h : p.settled = false) :
    p.settleForm = { p with settled := true, lane := none, packed := if 4 * p.payload.length < p.deflated.length then none else some p.deflated } :=
  if_neg (by simp [h])

theorem exec_cmpBypass_bypasses {x : Fin 64} (h : ((s.strmOf x).queue ++ (s.strmOf x).closing).find? (fun p => !p.settled && p.lane.isNone) = some p) :
    exec (.cmpBypass x) s = .next ((s.reachUp (p.closedAt + 100000)).bypass x p) := by
  rw [exec_cmpBypass, execCmpBypass, h]

end

/-! ### What holds on while lanes are handed out (R204) -/

section
variable {d : Desc} {j : JobSt} {n : Nat}

theorem State.descOf_id {id : Nat} (h : s.descOf id = some d) : d.id = id := by
  simpa using List.find?_some h

/-- The segment that comes next is one of a job's, under that job's descriptor. -/
theorem State.nextSeg_job (h : s.nextSeg = some (d, j, n)) : j ∈ s.comp.jobs ∧ d.id = j.id := by
  obtain ⟨k, hk, hseg⟩ := List.exists_of_findSome?_eq_some h
  obtain ⟨e, hdesc, hseg⟩ := Option.bind_eq_some_iff.mp hseg
  obtain ⟨m, -, hm⟩ := Option.map_eq_some_iff.mp hseg
  cases hm
  exact ⟨hk, State.descOf_id hdesc⟩

/-- A waiting packet takes a lane. -/
def State.laneTakes (s : State) (n x : Nat) (p : Packet) : State :=
  (s.setLane n (.packet x)).updStrm x (fun st => st.updPacket p.seq (fun q => { q with lane := some n }))

/-- What a packet's and a segment's taking of a lane keep, the handing out of lanes keeps. -/
theorem State.assignLanes_keeps {P : State → Prop} (hpacket : ∀ t n x p, P t → P (State.laneTakes t n x p))
    (hseg : ∀ t d j n, P t → ¬ (t.streamsCompress = true ∧ 2 ≤ t.jobLanes) → t.nextSeg = some (d, j, n) → P (t.takeSeg d j n)) :
    ∀ (f : Nat) (s : State), P s → P (State.assignLanes f s) := by
  intro f
  induction f with
  | zero => exact fun _ h => h
  | succ f ih =>
    intro s h
    unfold State.assignLanes
    split
    · exact h
    · split
      · exact ih _ (hpacket s _ _ _ h)
      · split
        · exact h
        · next hroom =>
          split
          · next hnext => exact ih _ (hseg s _ _ _ h hroom hnext)
          · exact h

theorem State.assignAll_keeps {P : State → Prop} (hpacket : ∀ t n x p, P t → P (State.laneTakes t n x p))
    (hseg : ∀ t d j n, P t → ¬ (t.streamsCompress = true ∧ 2 ≤ t.jobLanes) → t.nextSeg = some (d, j, n) → P (t.takeSeg d j n)) (h : P s) : P s.assignAll :=
  State.assignLanes_keeps hpacket hseg _ s h

/-- The chain a job's segment belongs to. -/
def State.segChain (s : State) (d : Desc) (j : JobSt) : Option ChainSt := if j.taken = 0 then s.chainFor d else j.chain

/-- With its first segment a job takes up or breaks what stands before it. -/
def State.segStart (s : State) (d : Desc) (j : JobSt) : State := if j.taken = 0 then s.chainPast d else s

/-- A segment of a chain that failed ends its job; any other takes its lane. -/
theorem State.takeSeg_cases (s : State) (d : Desc) (j : JobSt) (n : Nat) :
    (∃ c, s.segChain d j = some c ∧ c.failed = true ∧ s.takeSeg d j n = ((s.segStart d j).dropJob d.id).retireBad d 0x0401)
    ∨ ∃ lane, s.takeSeg d j n = ((s.segStart d j).setLane n (.job d.id j.taken)).updJob d.id (fun k => { k with taken := k.taken + 1, chain := s.segChain d j, lane := lane }) := by
  unfold State.takeSeg
  by_cases hfailed : (s.segChain d j).any (fun c => c.failed) = true
  · cases hc : s.segChain d j with
    | none => simp [hc] at hfailed
    | some c => exact .inl ⟨c, rfl, by simpa [hc] using hfailed, if_pos hfailed⟩
  · exact .inr ⟨if d.flag 2 || (s.segChain d j).isSome then some n else none, if_neg hfailed⟩

end

/-! ### A job that has ended is no longer in flight (R208) -/

section
variable {d : Desc} {j : JobSt} {id n status resS : Nat} {res : List W32}

theorem State.msix_inflight (s : State) (v : Nat) : (s.msix v).host.inflight = s.host.inflight := by
  unfold State.msix
  dsimp only
  split <;> rfl

theorem State.cqCount_inflight (s : State) (q : Nat) : (s.cqCount q).host.inflight = s.host.inflight := by
  unfold State.cqCount
  dsimp only
  split
  · exact State.msix_inflight _ _
  · rfl

theorem State.postOne_inflight (s : State) (q : Nat) (c : Completion) : (s.postOne q c).host.inflight = s.host.inflight := by
  have hrelease : ∀ t : State, (t.releaseBuf c.id).host.inflight = t.host.inflight := fun t =>
    congrArg HostSt.inflight (State.releaseBuf_frm (Sub.refl _) (Frm.refl _ t) .host rfl)
  have hfull : ∀ (b : Bool) (t : State) (r i : Nat), (t.doIf b (fun u => u.setBit r i)).host.inflight = t.host.inflight := by
    intro b t r i
    cases b <;> rfl
  have hwrite : ∀ (a : Nat) (bs : List Byte) (f : CqSt → CqSt), ((s.hostWrite a bs).updCq q f).host.inflight = s.host.inflight := fun _ _ _ => rfl
  have hcounts : ∀ t : State, (if c.counts then t.cqCount q else t).host.inflight = t.host.inflight := by
    intro t
    split
    · exact t.cqCount_inflight q
    · rfl
  exact (hcounts _).trans ((hfull _ _ _ _).trans ((hrelease _).trans (hwrite _ _ _)))

theorem postGo_inflight (ws : List (Nat × Completion)) : ∀ (stuck : List Nat) (s : State), (postGo ws stuck s).host.inflight = s.host.inflight := by
  induction ws with
  | nil => exact fun _ _ => rfl
  | cons w ws ih =>
    intro stuck s
    unfold postGo
    split
    · exact (ih _ _).trans (s.postOne_inflight _ _)
    · exact ih _ _

theorem State.deliver_inflight (s : State) (d : Desc) (c : Completion) : (s.deliver d c).host.inflight = s.host.inflight := by
  unfold State.deliver
  split
  · exact congrArg HostSt.inflight (State.setRegs_frm (Sub.refl _) (Frm.refl _ _) .host rfl)
  · exact postGo_inflight _ _ _

theorem State.descOf_eq_none : s.descOf id = none ↔ ∀ x ∈ s.host.inflight, x.id ≠ id := by
  simp [State.descOf]

/-- One retirement takes its descriptor out of those in flight. -/
theorem State.retire1_inflight : (s.retire1 d status resS res).host.inflight = s.host.inflight.filter (fun x => x.id != d.id) := by
  have hdrain : ((s.dropDesc d.id).drainCheck d.ring).host = (s.dropDesc d.id).host := State.drainCheck_frm (Sub.refl _) (Frm.refl _ _) .host rfl
  rw [State.retire1, State.deliver_inflight, hdrain]
  rfl

theorem State.retire1_descOf (h : s.descOf id = none) : (s.retire1 d status resS res).descOf id = none := by
  rw [State.descOf_eq_none, State.retire1_inflight]
  exact fun x hx => State.descOf_eq_none.mp h x (List.mem_of_mem_filter hx)

theorem State.retire1_gone : (s.retire1 d status resS res).descOf d.id = none := by
  rw [State.descOf_eq_none, State.retire1_inflight]
  exact fun x hx => by simpa using (List.mem_filter.mp hx).2

theorem State.sweepBad_descOf (h : s.descOf id = none) : s.sweepBad.descOf id = none := by
  refine List.foldlRecOn (motive := fun t : State => t.descOf id = none) _ _ h (fun t ht e _ => ?_)
  dsimp only
  split
  · exact State.retire1_descOf ht
  · exact ht

theorem State.retire_descOf (h : s.descOf id = none) : (s.retire d status resS res).descOf id = none := State.sweepBad_descOf (State.retire1_descOf h)

/-- A state in which the retirement of a descriptor ends. -/
def Retires (d : Desc) (t : State) : Prop := ∃ s status resS res, t = State.retire s d status resS res

theorem Retires.ite {a : Prop} [Decidable a] {t u : State} (ht : Retires d t) (hu : Retires d u) : Retires d (if a then t else u) := by
  split <;> assumption

theorem Retires.descOf (h : Retires d t) : t.descOf d.id = none := by
  obtain ⟨s, status, resS, res, rfl⟩ := h
  exact State.sweepBad_descOf State.retire1_gone

theorem State.segStart_host (s : State) (d : Desc) (j : JobSt) : (s.segStart d j).host = s.host := by
  unfold State.segStart
  split <;> rfl

theorem State.takeSeg_descOf (h : s.descOf id = none) : (s.takeSeg d j n).descOf id = none := by
  have hstart : (s.segStart d j).descOf id = none := by rwa [State.descOf, State.segStart_host]
  obtain ⟨c, -, -, hfails⟩ | ⟨lane, htakes⟩ := s.takeSeg_cases d j n
  · rw [hfails]
    exact State.retire_descOf hstart
  · rw [htakes]
    exact hstart

theorem State.assignAll_descOf (h : s.descOf id = none) : s.assignAll.descOf id = none :=
  State.assignAll_keeps (P := fun t => t.descOf id = none) (fun _ _ _ _ h => h) (fun _ _ _ _ h _ _ => State.takeSeg_descOf h) h

end

/-! ### The last segment of a job (R205, R206, R208) -/

section
variable {d : Desc} {j : JobSt} {seg done : Nat} {hist src : List Byte}

theorem State.jobError_retires {status : Nat} {res : List W32} : Retires d (s.jobError d status res) := ⟨_, _, _, _, rfl⟩

theorem State.jobRefused_retires {status : Nat} : Retires d (s.jobRefused d status) := ⟨_, _, _, _, rfl⟩

theorem State.compressJob_retires : Retires d (s.compressJob d done hist src) := Retires.ite State.jobError_retires ⟨_, _, _, _, rfl⟩

theorem State.compressSeg_retires (hlast : j.data.length + 1 = segsOf d.jobSrcLen) : Retires d (s.compressSeg d j seg) := by
  refine Retires.ite State.jobRefused_retires ?_
  dsimp only
  rw [if_pos (by exact hlast)]
  exact State.compressJob_retires

theorem State.inflateRaw_retires : Retires d (s.inflateRaw d done hist src) := by
  unfold State.inflateRaw
  dsimp only
  split
  · exact State.jobError_retires
  · exact Retires.ite State.jobError_retires (Retires.ite State.jobError_retires (Retires.ite State.jobRefused_retires ⟨_, _, _, _, rfl⟩))

theorem State.inflatePacket_retires : Retires d (s.inflatePacket d done src) := by
  unfold State.inflatePacket
  dsimp only
  split
  · exact State.jobError_retires
  · split
    · exact State.jobError_retires
    · exact Retires.ite State.jobError_retires (Retires.ite State.jobError_retires (Retires.ite State.jobRefused_retires ⟨_, _, _, _, rfl⟩))

theorem State.inflateSeg_retires (hlast : (d.infSegment j.history (j.src ++ s.hostRead (d.p64 0 + j.src.length) (d.jobSrcLen - j.src.length)) seg).2 = none) :
    Retires d (s.inflateSeg d j seg) := by
  refine Retires.ite State.jobRefused_retires ?_
  rw [hlast]
  exact Retires.ite State.inflatePacket_retires State.inflateRaw_retires

theorem exec_compressionJobDone_waits {lane : Fin 4} {id : Nat} (hlane : s.comp.lanes.getD lane .free = .job id seg) (hdma : s.canDma = false) :
    exec (.compressionJobDone lane) s = .next s := by
  rw [exec_compressionJobDone, execCompressionJobDone]
  simp only [hlane, hdma, if_true]

theorem exec_compressionJobDone_works {lane : Fin 4} {id : Nat} (hlane : s.comp.lanes.getD lane .free = .job id seg) (hdma : s.canDma = true)
    (hdesc : s.descOf id = some d) (hjob : s.comp.jobs.find? (fun j => j.id == id) = some j) :
    exec (.compressionJobDone lane) s = .next (if d.op = 0x30 then (s.setLane lane .free).compressSeg d j seg else (s.setLane lane .free).inflateSeg d j seg).assignAll := by
  have hdesc' : (s.setLane lane .free).descOf id = some d := hdesc
  have hjob' : (s.setLane lane .free).comp.jobs.find? (fun j => j.id == id) = some j := hjob
  rw [exec_compressionJobDone, execCompressionJobDone]
  simp only [hlane, hdma, hdesc', hjob', Bool.true_eq_false, if_false]

end

/-! ### A job that waits for its lanes (R205, R206) -/

section
variable {d : Desc} {j : JobSt} {id n : Nat}

theorem State.retireBad_comp (s : State) (d : Desc) (status : Nat) : (s.retireBad d status).comp = s.comp := State.retireBad_frm (Sub.refl _) (Frm.refl _ s) .comp rfl

/-- A job stands in the engine and no chain has reached it. -/
def State.holdsJob (s : State) (id : Nat) : Prop :=
  s.comp.chains = [] ∧ (∃ j ∈ s.comp.jobs, j.id = id) ∧ ∀ j ∈ s.comp.jobs, j.id = id → j.chain = none

theorem State.segStart_comp (h : s.comp.chains = []) : (s.segStart d j).comp = s.comp := by
  unfold State.segStart State.chainPast
  split
  · dsimp only
    rw [h, List.filter_nil, ← h]
  · rfl

theorem State.segChain_none (h : s.comp.chains = []) (hchain : j.chain = none) : s.segChain d j = none := by
  unfold State.segChain
  split
  · simp [State.chainFor, State.chainAt, h]
  · exact hchain

theorem State.dropJob_holdsJob {k : Nat} (h : s.holdsJob id) (hother : id ≠ k) : (s.dropJob k).holdsJob id := by
  obtain ⟨hchains, ⟨i, hi, rfl⟩, hnone⟩ := h
  exact ⟨hchains, ⟨i, List.mem_filter.mpr ⟨hi, by simpa using hother⟩, rfl⟩, fun i hi => hnone i (List.mem_of_mem_filter hi)⟩

theorem State.updJob_holdsJob {k : Nat} {f : JobSt → JobSt} (h : s.holdsJob id) (hid : ∀ i, (f i).id = i.id) (hchain : k = id → ∀ i, (f i).chain = none) :
    (s.updJob k f).holdsJob id := by
  obtain ⟨hchains, ⟨i, hi, rfl⟩, hnone⟩ := h
  refine ⟨hchains, ⟨_, List.mem_map_of_mem hi, ?_⟩, fun v hv => ?_⟩
  · split
    · exact hid i
    · rfl
  · obtain ⟨w, hw, rfl⟩ := List.mem_map.mp hv
    split
    · next hmine => exact fun hi => hchain ((beq_iff_eq.mp hmine).symm.trans ((hid w).symm.trans hi)) w
    · exact hnone w hw

theorem State.takeSeg_holdsJob (h : s.holdsJob id) (hj : j ∈ s.comp.jobs) (hid : d.id = j.id) : (s.takeSeg d j n).holdsJob id := by
  have ⟨hchains, _, hnone⟩ := h
  have hstart : (s.segStart d j).holdsJob id := by rwa [State.holdsJob, State.segStart_comp hchains]
  have hnew : d.id = id → s.segChain d j = none := fun hd => State.segChain_none hchains (hnone j hj (hid ▸ hd))
  obtain ⟨c, hc, -, hfails⟩ | ⟨lane, htakes⟩ := s.takeSeg_cases d j n
  · have hother : id ≠ d.id := by
      rintro rfl
      cases (hnew rfl).symm.trans hc
    rw [hfails, State.holdsJob, State.retireBad_comp]
    exact State.dropJob_holdsJob hstart hother
  · rw [htakes]
    exact State.updJob_holdsJob (s := (s.segStart d j).setLane n (.job d.id j.taken)) hstart (fun _ => rfl) (fun hd _ => hnew hd)

theorem State.assignAll_holdsJob (h : s.holdsJob id) : s.assignAll.holdsJob id :=
  State.assignAll_keeps (P := fun t => t.holdsJob id) (fun _ _ _ _ h => h)
    (fun _ _ _ _ h _ hnext => State.takeSeg_holdsJob h (State.nextSeg_job hnext).1 (State.nextSeg_job hnext).2) h

/-- A job is taken into the engine. -/
def State.enrol (s : State) (id : Nat) : State :=
  ({ s with comp := { s.comp with jobs := s.comp.jobs ++ [⟨id, 0, [], none, none, [], 0⟩] } } : State).take id

theorem State.acceptJob_takes (hd : d.id = id) (h : d.jobBad = false) : s.acceptJob d = (s.enrol id).assignAll := by
  subst hd
  exact if_neg (by simp [h])

theorem State.acceptJob_refuses (h : d.jobBad = true) : s.acceptJob d = ((s.chainPast d).jobLeaves d true []).retireBad d 0x0401 := if_pos h

/-- A job taken into an engine without chains stands in it, whatever lanes are handed out then. -/
theorem State.enrol_stands (hchains : s.comp.chains = []) (hnew : ∀ j ∈ s.comp.jobs, j.id ≠ id) :
    (∃ j ∈ (s.enrol id).assignAll.comp.jobs, j.id = id) ∧ s.keepsBut [.regs, .strm, .comp, .host, .sq, .cq, .sb] (s.enrol id).assignAll := by
  have hholds : (s.enrol id).holdsJob id := by
    refine ⟨hchains, ⟨_, List.mem_append_right _ List.mem_cons_self, rfl⟩, fun j hj hid => ?_⟩
    obtain hj | hj := List.mem_append.mp hj
    · exact absurd hid (hnew j hj)
    · rw [List.mem_singleton.mp hj]
  have hm := Sub.refl 141205471248
  refine ⟨(State.assignAll_holdsJob hholds).2.1, Frm.keepsParts (State.assignAll_frm hm ?_) (by decide)⟩
  exact State.take_frm (hm.le (by decide)) (frm_mk (Frm.refl _ s))

/-- A job whose turn has come is taken for the lanes, or refused for its parameters. -/
theorem acceptsJob {i : Instr} (hdesc : s.descOf id = some d) (hexec : exec i s = .next (s.acceptJob d)) :
    (d.jobBad = false → exec i s = .next (s.enrol id).assignAll)
    ∧ (d.jobBad = false → s.comp.chains = [] → (∀ j ∈ s.comp.jobs, j.id ≠ id) →
      Runs i s (fun u => (∃ j ∈ u.comp.jobs, j.id = id) ∧ s.keepsBut [.regs, .strm, .comp, .host, .sq, .cq, .sb] u))
    ∧ (d.jobBad = true → exec i s = .next (((s.chainPast d).jobLeaves d true []).retireBad d 0x0401)) := by
  have htakes : d.jobBad = false → exec i s = .next (s.enrol id).assignAll := fun hok => by
    rw [hexec, State.acceptJob_takes (State.descOf_id hdesc) hok]
  refine ⟨htakes, fun hok hchains hnew => ⟨_, htakes hok, State.enrol_stands hchains hnew⟩, fun hbad => ?_⟩
  rw [hexec, State.acceptJob_refuses hbad]

end

/-! ### Lanes that host jobs hold (R204) -/

section
variable {d : Desc} {j : JobSt} {n : Nat} {w : LaneWork}

/-- One entry more counts at most where one is set. -/
theorem countP_set_le {α : Type} {p : α → Bool} {l : List α} {a : α} : (l.set n a).countP p ≤ l.countP p + (if p a then 1 else 0) := by
  by_cases hn : n < l.length
  · rw [List.countP_set hn]
    omega
  · rw [List.set_eq_of_length_le (Nat.le_of_not_lt hn)]
    exact Nat.le_add_right _ _

theorem State.jobLanes_eq (s : State) : s.jobLanes = s.comp.lanes.countP (fun l => l.onJob none) := List.countP_eq_length_filter.symm

theorem State.setLane_jobLanes : (s.setLane n w).jobLanes ≤ s.jobLanes + (if w.onJob none then 1 else 0) := by
  rw [State.jobLanes_eq, State.jobLanes_eq]
  exact countP_set_le

/-- A job that leaves frees lanes at most. -/
theorem State.dropJob_jobLanes (s : State) (id : Nat) : (s.dropJob id).jobLanes ≤ s.jobLanes := by
  rw [State.jobLanes_eq, State.jobLanes_eq, State.dropJob, List.countP_map]
  refine List.countP_mono_left (fun l _ hl => ?_)
  cases l with
  | job k seg => rfl
  | free => exact hl
  | packet x => exact hl

theorem State.segStart_jobLanes (s : State) (d : Desc) (j : JobSt) : (s.segStart d j).jobLanes = s.jobLanes := by
  unfold State.segStart
  split <;> rfl

theorem State.takeSeg_jobLanes : (s.takeSeg d j n).jobLanes ≤ s.jobLanes + 1 := by
  obtain ⟨c, -, -, hfails⟩ | ⟨lane, htakes⟩ := s.takeSeg_cases d j n
  · rw [hfails, State.jobLanes, State.retireBad_comp]
    exact ((State.dropJob_jobLanes _ _).trans_eq (s.segStart_jobLanes d j)).trans (Nat.le_succ _)
  · rw [htakes]
    exact (s.segStart_jobLanes d j) ▸ State.setLane_jobLanes (w := .job d.id j.taken)

theorem Frm.streamsCompress (h : Frm m s t) (hcfg : m.testBit 32 = false) (hotp : m.testBit 1 = false) : t.streamsCompress = s.streamsCompress := by
  unfold State.streamsCompress State.cfgOn
  rw [h.cfgv hcfg hotp]

/-- While a stream compresses, host jobs gain no third lane. -/
theorem State.assignAll_jobLanes (hcompress : s.streamsCompress = true) (h : s.jobLanes ≤ 2) : s.assignAll.jobLanes ≤ 2 := by
  refine (State.assignAll_keeps (P := fun t => t.streamsCompress = true ∧ t.jobLanes ≤ 2) ?packet ?seg ⟨hcompress, h⟩).2
  case packet =>
    intro t n x p ⟨hcompress, h⟩
    exact ⟨hcompress, (State.setLane_jobLanes (w := .packet x)).trans h⟩
  case seg =>
    intro t d j n ⟨hcompress, h⟩ hroom _
    have hone : t.jobLanes < 2 := Nat.lt_of_not_le (fun hfull => hroom ⟨hcompress, hfull⟩)
    exact ⟨(Frm.streamsCompress (State.takeSeg_frm (Sub.refl _) (Frm.refl _ t)) (by decide) (by decide)).trans hcompress, State.takeSeg_jobLanes.trans hone⟩

end

/-- Settles O19: a lane's end and a bypass by the packet's lane, a job by what acceptJob does of its parameters, its end by the retirement that follows its last segment,
and the lanes of host jobs by what one segment takes. -/
theorem lanesServePacketsAndJobs : Obligations.LanesServePacketsAndJobs := by
  intro s
  refine ⟨fun lane x p hlane hp hsound => ?lane, fun lane x hlane hp ecc => exec_packetCompressed_discarded hlane hp,
    fun x seq f p => ⟨StreamSt.length_queue_updPacket, fun h hseq => hseq ▸ StreamSt.mem_closing_updPacket h, StreamSt.mem_closing_updPacket_other⟩,
    fun p hopen => ?form, fun x p h => exec_cmpBypass_bypasses h, fun id d h => acceptsJob h.1 ((exec_compress s id).trans (State.serve_served h)),
    fun id d h => acceptsJob h.1 ((exec_decompress s id).trans (State.serve_served h)),
    fun lane id seg d j hlane => ⟨exec_compressionJobDone_waits hlane, fun hdma hdesc hjob => ?works⟩, State.assignAll_jobLanes⟩
  case lane =>
    have hon := StreamSt.onLane_lane hp
    exact ⟨(exec_packetCompressed_ends hlane hp hsound).trans rfl, (exec_packetCompressed_ends hlane hp hsound).trans rfl, State.packetCompressed_on hon, State.bypass_on hon⟩
  case form =>
    rw [Packet.settleForm_open hopen]
    exact ⟨rfl, fun hfits => if_neg (Nat.not_lt.mpr hfits), fun hlonger => if_pos hlonger⟩
  case works =>
    have hexec := exec_compressionJobDone_works hlane hdma hdesc hjob
    have hid := State.descOf_id hdesc
    have hends : ∀ {u : State}, Retires d u → u.assignAll.descOf id = none := fun h => State.assignAll_descOf (hid ▸ h.descOf)
    refine ⟨fun hop => ?_, fun hop => ?_, fun hop hlast => ?_, fun hop hlast => ?_⟩
    · rw [hexec, if_pos hop]
    · rw [hexec, if_neg hop]
    · exact ⟨_, hexec, hends (by rw [if_pos hop]; exact State.compressSeg_retires hlast)⟩
    · exact ⟨_, hexec, hends (by rw [if_neg hop]; exact State.inflateSeg_retires hlast)⟩

end Sys2Proof.Machine
end

section
/-! PROOFS. Firefly time as it goes on (R214, R215, R230): slews that spread their corrections, and the step of an idle hub. -/

namespace Sys2Proof.Machine

open Sys2Proof

variable {t : TimeSt} {alone : Bool} {s : State}

/-! ### The spread of a correction (R215, R230) -/

/-- How many ns of its interval a slew has spread over, u ns after the timebase started; on REFCLK it goes on beyond the interval. -/
def TimeSt.slewed (t : TimeSt) (alone : Bool) (u : Nat) : Nat := if alone then u - t.slewAt else min (u - t.slewAt) t.slewLen

theorem TimeSt.spread_eq (t : TimeSt) (alone : Bool) (u : Nat) :
    t.spread alone u = if t.slewLen = 0 then 0 else t.slew * (t.slewed alone u : Nat) / (t.slewLen : Int) := rfl

theorem TimeSt.spread_none (hnone : t.slewLen = 0) (u : Nat) : t.spread alone u = 0 := if_pos hnone

/-- Over k intervals' worth of ns a slew spreads k times its correction. -/
theorem TimeSt.spread_whole {u k : Nat} (hslews : t.slewLen ≠ 0) (hu : t.slewed alone u = k * t.slewLen) : t.spread alone u = k * t.slew := by
  have hlen : (t.slewLen : Int) ≠ 0 := Int.natCast_ne_zero.mpr hslews
  rw [TimeSt.spread_eq, if_neg hslews, hu, Nat.cast_mul, ← mul_assoc, Int.mul_ediv_cancel _ hlen, mul_comm]

theorem TimeSt.slewed_parent {n : Nat} (h : t.slewLen ≤ n) : t.slewed false (t.slewAt + n) = 1 * t.slewLen := by
  rw [TimeSt.slewed, if_neg Bool.false_ne_true, Nat.add_sub_cancel_left, Nat.min_eq_right h, one_mul]

theorem TimeSt.slewed_alone (t : TimeSt) (n : Nat) : t.slewed true (t.slewAt + n) = n := by
  rw [TimeSt.slewed, if_pos rfl, Nat.add_sub_cancel_left]

/-- In n ns a slew spreads over no more than n ns of its interval, and never back. -/
theorem TimeSt.slewed_step (t : TimeSt) (alone : Bool) (u n : Nat) :
    t.slewed alone u ≤ t.slewed alone (u + n) ∧ t.slewed alone (u + n) ≤ t.slewed alone u + n := by
  unfold TimeSt.slewed
  split <;> omega

/-- What a slew of at most 100 % takes back in n ns is no more than the n ns. -/
theorem TimeSt.spread_step (hslow : t.slew.natAbs ≤ t.slewLen * 4294967296) (u n : Nat) :
    t.spread alone u ≤ n * 4294967296 + t.spread alone (u + n) := by
  by_cases hnone : t.slewLen = 0
  · rw [TimeSt.spread_none hnone, TimeSt.spread_none hnone]
    omega
  · obtain ⟨hforth, hahead⟩ := t.slewed_step alone u n
    have hlen : (0 : Int) < t.slewLen := Int.natCast_pos.mpr (Nat.pos_of_ne_zero hnone)
    rw [TimeSt.spread_eq, TimeSt.spread_eq, if_neg hnone, if_neg hnone, add_comm, ← Int.add_mul_ediv_right _ _ hlen.ne']
    refine Int.ediv_le_ediv hlen ?_
    have hback : -((t.slewLen : Int) * 4294967296) ≤ t.slew := by omega
    obtain ⟨d, hd⟩ := Nat.exists_eq_add_of_le hforth
    have hdn : (d : Int) ≤ n := by omega
    rw [hd]
    push_cast
    nlinarith

/-! ### Cycles of the timebase (R214) -/

theorem TimeSt.advance_running (hrun : t.running = true) (n : Nat) :
    (t.advance alone n).count = ((t.count + n * 4294967296 : Nat) + (t.spread alone (t.up + n) - t.spread alone t.up) : Int).toNat
    ∧ (t.advance alone n).up = t.up + n := by
  rw [TimeSt.advance, if_pos hrun]
  exact ⟨rfl, rfl⟩

theorem TimeSt.advance_stopped (hstop : t.running = false) (n : Nat) : t.advance alone n = t.cricketBy n := by
  rw [TimeSt.advance, if_neg (Bool.eq_false_iff.mp hstop)]

/-- A slew of at most 100 % never turns time back. -/
theorem TimeSt.count_le_advance (hrun : t.running = true) (hslow : t.slew.natAbs ≤ t.slewLen * 4294967296) (n : Nat) : t.count ≤ (t.advance alone n).count := by
  rw [(TimeSt.advance_running hrun n).1]
  have hstep := TimeSt.spread_step (alone := alone) hslow t.up n
  omega

/-! ### The slew of the servo (R230) -/

theorem natAbs_clampInt_le {lim v : Int} (h : 0 ≤ lim) : (clampInt (-lim) lim v).natAbs ≤ lim.toNat := by
  have hlow := le_clampInt (neg_le_self h) v
  have hhigh := clampInt_le (-lim) lim v
  omega

/-- Most of a correction that FIREFLY.SLEW_MAX_PPB lets spread over an interval. -/
def State.slewLimit (s : State) (interval : Nat) : Nat := s.cfgv Fld.fireflySlewMaxPpb 0 0 * interval * 65536 / 1000000000

theorem State.ffSlew_slews (s : State) (theta : Int) (interval : Nat) :
    ∃ i c, s.ffSlew theta interval = ({ s with ff := { s.ff with integral := i } } : State).slewBy c interval ∧ c.natAbs ≤ s.slewLimit interval :=
  ⟨_, _, rfl, natAbs_clampInt_le (Int.natCast_nonneg (s.slewLimit interval))⟩

/-- Settles O26: spread_whole for the whole interval and for holdover, ffSlew_slews for the limit, and spread_step for time that never turns back. -/
theorem slewingSpreadsItsCorrection : Obligations.SlewingSpreadsItsCorrection := by
  refine ⟨fun t hslews => ⟨fun n hn => ?whole, fun k => TimeSt.spread_whole hslews (t.slewed_alone _)⟩, fun s theta interval => ?limit,
    fun t alone n hrun hslow => TimeSt.count_le_advance hrun hslow n⟩
  case whole => rw [TimeSt.spread_whole hslews (TimeSt.slewed_parent hn), Nat.cast_one, one_mul]
  case limit =>
    obtain ⟨i, c, hslew, hc⟩ := s.ffSlew_slews theta interval
    refine ⟨?_, by rw [hslew]; rfl, (State.ffSlew_frm (Sub.refl _) (Frm.refl _ s)).keepsParts (by decide)⟩
    rw [hslew]
    calc (c * 65536).natAbs = c.natAbs * 65536 := Int.natAbs_mul c 65536
      _ ≤ s.slewLimit interval * 65536 := Nat.mul_le_mul_right 65536 hc

/-! ### The step of an idle hub (assumption 2) -/

/-- Outside an entry into HIBERNATE, and behind its commit point, nothing is watched (assumption 60). -/
theorem State.hibWatch_idle (h : s.pwr.mode ≠ .hibEntry ∨ s.pwr.committed = true) : s.hibWatch = s := by
  have hrefused : s.hibRefused = s := if_pos (h.imp_right .inl)
  unfold State.hibWatch
  rw [hrefused]
  refine if_neg ?_
  rintro ⟨hentry, hopen, -⟩
  exact h.elim (absurd hentry) (fun hcommitted => absurd hcommitted (Bool.eq_false_iff.mp hopen))

/-- On an empty queue a cycle of the timebase passes, and an entry into HIBERNATE is watched. -/
theorem step_idle (hidle : s.pending = []) : step s = .next ({ s with tm := s.tm.advance (!s.syntonised) 1 } : State).hibWatch := by
  unfold step
  rw [hidle]
  rfl

/-- Settles O2: the idle step is one cycle of the timebase, whose effect advance gives, and no word of the table decodes. -/
theorem idleStepPassesOneTimebaseCycle : Obligations.IdleStepPassesOneTimebaseCycle := by
  refine ⟨fun s hidle hmode => ?unwatched, fun s hidle _ _ => step_idle hidle, fun t alone hrun hnone => ?runs, fun t alone hstop => ?stops, fun s nbits w => rfl⟩
  case unwatched =>
    rw [step_idle hidle]
    exact congrArg Host.Outcome.next (State.hibWatch_idle (s := { s with tm := _ }) hmode)
  case runs =>
    obtain ⟨hcount, hup⟩ := TimeSt.advance_running (alone := alone) hrun 1
    refine ⟨?_, hup⟩
    rw [hcount, TimeSt.spread_none hnone, TimeSt.spread_none hnone]
    omega
  case stops =>
    rw [TimeSt.advance_stopped hstop]
    exact ⟨rfl, rfl⟩

end Sys2Proof.Machine
end

section
/-! PROOFS. Pulse generators: how TIME_PULSE is answered, and what the edges of pulses leave of them (R219, R240, R241). -/

namespace Sys2Proof.Machine

open Sys2Proof

set_option Elab.async false

variable {O : OtpSt} {Q : List Instr} {s t : State} {m k j : Nat} {p n : PulseProg} {d : Desc} {y : PulseTail}

/-! ### Reading generators -/

theorem Frm.pulseOf (h : Frm m s t) (hm : m.testBit 27 = false) : t.pulseOf j = s.pulseOf j :=
  congrArg (fun c => Cells.get (fun _ => PulseSt.init) c j) (h .pulse hm)

theorem State.pulseOf_setPulse {v : PulseSt} (h : Good O Q s) : (s.setPulse k v).pulseOf j = if j = k then v else s.pulseOf j := Cells.get_set h.pulse

/-! ### TIME_PULSE (R219, R241) -/

/-- The generator a TIME_PULSE names (Table 9-5). -/
def Desc.pulseGen (d : Desc) : Nat := field (d.p 0) 1 0

/-- The programme a TIME_PULSE brings (Table 9-5). -/
def Desc.pulseProg (d : Desc) (id : Nat) : PulseProg :=
  ⟨id, field (d.p 0) 12 8, nsTq (d.p64 1) + field (d.p 3) 15 0, (d.p 4).toNat, nsTq (d.p 5).toNat + field (d.p 6) 15 0, (d.p 7).toNat⟩

/-- A generator takes a programme: at once when it has none, behind the others otherwise. -/
def PulseSt.takes (x : PulseSt) (p : PulseProg) : PulseSt :=
  if x.prog.isNone = true ∧ x.next = [] then { x with prog := some p, edge := 0, retired := false } else { x with next := x.next ++ [p] }

/-- A generator of the hub takes a programme. -/
def State.pulseTakes (s : State) (k : Nat) (p : PulseProg) : State :=
  if (s.pulseOf k).prog.isNone = true ∧ (s.pulseOf k).next = [] then s.setPulse k { s.pulseOf k with prog := some p, edge := 0, retired := false }
  else s.setPulse k { s.pulseOf k with next := (s.pulseOf k).next ++ [p] }

theorem State.pulseTakes_eq (s : State) (k : Nat) (p : PulseProg) : s.pulseTakes k p = s.setPulse k ((s.pulseOf k).takes p) :=
  (apply_ite (s.setPulse k) _ _ _).symm

/-- The answer to a TIME_PULSE whose turn has come. -/
def State.pulseServed (s : State) (d : Desc) (k : Nat) (p : PulseProg) : State :=
  if p.width = 0 then (s.pulseStop k 0x0813).retireOk d []
  else if s.pulseGood p = false then s.retireBad d 0x0812
  else if nsTq 2147483647 < ((p.start : Int) - s.now).natAbs then s.retireBad d 0x0810
  else if p.start < d.fetchedAt + nsTq 2000 then s.retireBad d 0x0811
  else if s.cfg.bad then s.retireBad d 0x0813
  else (s.take p.id).pulseTakes k p

theorem exec_timePulse {id : Nat} (h : s.serves id 0x40 d) : exec (.timePulse id) s = .next (s.pulseServed d d.pulseGen (d.pulseProg id)) := by
  change execTimePulse id s = _
  unfold execTimePulse
  exact State.serve_served h

section
variable (hwidth : p.width ≠ 0)
include hwidth

theorem State.pulseServed_unfit (hfit : s.pulseGood p = false) : s.pulseServed d k p = s.retireBad d 0x0812 :=
  (if_neg hwidth).trans (if_pos hfit)

variable (hfit : s.pulseGood p = true)
include hfit

theorem State.pulseServed_far (hfar : nsTq 2147483647 < ((p.start : Int) - s.now).natAbs) : s.pulseServed d k p = s.retireBad d 0x0810 :=
  (if_neg hwidth).trans ((if_neg (by simp [hfit])).trans (if_pos hfar))

variable (hnear : ((p.start : Int) - s.now).natAbs ≤ nsTq 2147483647)
include hnear

theorem State.pulseServed_late (hlate : p.start < d.fetchedAt + nsTq 2000) : s.pulseServed d k p = s.retireBad d 0x0811 :=
  (if_neg hwidth).trans ((if_neg (by simp [hfit])).trans ((if_neg (Nat.not_lt.mpr hnear)).trans (if_pos hlate)))

theorem State.pulseServed_takes (hearly : d.fetchedAt + nsTq 2000 ≤ p.start) (hgood : s.cfg.bad = false) :
    s.pulseServed d k p = (s.take p.id).setPulse k ((s.pulseOf k).takes p) :=
  (if_neg hwidth).trans ((if_neg (by simp [hfit])).trans ((if_neg (Nat.not_lt.mpr hnear)).trans ((if_neg (Nat.not_lt.mpr hearly)).trans ((if_neg (by simp [hgood])).trans (State.pulseTakes_eq _ k p)))))

end

/-! ### Rising edges (R240, R241) -/

/-- A programme's first edge is always to come. -/
theorem PulseProg.doneAt_zero (p : PulseProg) : p.doneAt 0 = false := by
  unfold PulseProg.doneAt
  split
  · rfl
  · exact decide_eq_false (fun h => h.1 (Nat.le_zero.mp h.2))

/-- A generator behind the next rising edge of its programme. -/
def PulseSt.rises (x : PulseSt) (p : PulseProg) (parked : BitVec 32) : PulseSt :=
  let t := nsTq (p.edgeNs x.edge)
  { x with prog := some p, high := true, edge := x.edge + 1, riseAt := t, fallAt := t + nsTq p.width, fallId := if x.retired then none else some p.id, retired := true,
           pin := if parked.getLsbD p.gpio then 32 else p.gpio, tails := if x.high then x.tails ++ [⟨x.pin, x.fallAt, x.riseAt, x.fallId⟩] else x.tails }

/-- The hub at the next rising edge of a generator's programme. -/
def State.pulseRises (s : State) (k : Nat) (p : PulseProg) : State :=
  (s.reach (nsTq (p.edgeNs (s.pulseOf k).edge))).setPulse k ((s.pulseOf k).rises p s.pads.parked)

theorem State.pulseRises_pulseOf (h : Good O Q s) : (s.pulseRises k p).pulseOf j = if j = k then (s.pulseOf k).rises p s.pads.parked else s.pulseOf j := by
  rw [State.pulseRises, State.pulseOf_setPulse (State.reach_good h), (s.reach_changes _).pulseOf (by decide)]

/-- The generator when a waiting programme takes over. -/
def PulseSt.turnsTo (x : PulseSt) (n : PulseProg) : PulseSt :=
  { x with prog := some n, next := x.next.drop ((x.next.takeWhile (fun q => decide (q ≠ n))).length + 1), edge := 0, retired := false }

theorem State.pulseSwitch_changes (s : State) (k : Nat) (n : PulseProg) : Frm 141197082640 (s.setPulse k ((s.pulseOf k).turnsTo n)) (s.pulseSwitch k n) := by
  have hm := Sub.refl 141197082640
  exact State.dropProgs_frm hm (State.dropProg_frm hm (Frm.refl _ _))

theorem State.pulseSwitch_pulseOf (h : Good O Q s) : (s.pulseSwitch k n).pulseOf j = if j = k then (s.pulseOf k).turnsTo n else s.pulseOf j :=
  ((s.pulseSwitch_changes k n).pulseOf (by decide)).trans (State.pulseOf_setPulse h)

theorem State.pulseSwitch_pads (s : State) (k : Nat) (n : PulseProg) : (s.pulseSwitch k n).pads = s.pads := s.pulseSwitch_changes k n .pads (by decide)

/-- With no programme waiting, the next edge is that of the programme that runs. -/
theorem execTimePulseRise_own {k : Fin 4} (hprog : (s.pulseOf k).prog = some p) (hnext : (s.pulseOf k).next = []) (hruns : p.doneAt (s.pulseOf k).edge = false) :
    exec (.timePulseRise k) s = .next (s.pulseRises k p) := by
  change execTimePulseRise k s = _
  unfold execTimePulseRise
  dsimp only
  rw [hnext]
  dsimp only [firstStart]
  rw [hprog]
  exact if_neg (Bool.eq_false_iff.mp hruns)

/-- A waiting programme whose START comes before the next edge of the one that runs takes over and rises. -/
theorem execTimePulseRise_turns {k : Fin 4} (h : Good O Q s) (hfirst : firstStart (s.pulseOf k).next = some n)
    (hbefore : ∀ p, (s.pulseOf k).prog = some p → p.doneAt (s.pulseOf k).edge = false → n.edgeNs 0 ≤ p.edgeNs (s.pulseOf k).edge) :
    exec (.timePulseRise k) s = .next ((s.pulseSwitch k n).pulseRises k n) := by
  have hown : ((((s.pulseOf k).prog.filter (fun p => !p.doneAt (s.pulseOf k).edge)).map (fun p => p.edgeNs (s.pulseOf k).edge)).all
      (fun t => decide (n.edgeNs 0 ≤ t))) = true := by
    cases hprog : (s.pulseOf k).prog with
    | none => rfl
    | some p =>
      cases hdone : p.doneAt (s.pulseOf k).edge with
      | true => simp [Option.filter, hdone]
      | false => simpa [Option.filter, hdone] using hbefore p hprog hdone
  have hpulse : (s.pulseSwitch k n).pulseOf k = (s.pulseOf k).turnsTo n := by rw [State.pulseSwitch_pulseOf h, if_pos rfl]
  change execTimePulseRise k s = _
  unfold execTimePulseRise
  simp only [hfirst, hown, if_true]
  rw [State.pulseRises, hpulse]
  simp only [PulseSt.turnsTo, n.doneAt_zero]
  rfl

/-! ### Falling edges (R241) -/

/-- The generator behind the fall of its own pulse, the last in progress: a programme without another edge ends. -/
def PulseSt.falls (x : PulseSt) : PulseSt :=
  let turn := x.prog.any (fun p => p.doneAt x.edge)
  { x with high := false, fallId := none, prog := if turn then none else x.prog, retired := x.retired && !turn, tails := [] }

theorem State.pulseRetire_changes (s : State) (id : Option Nat) (rise : Tq) : Frm 141197082640 s (s.pulseRetire id rise) :=
  State.pulseRetire_frm (Sub.refl _) (Frm.refl _ s)

theorem execTimePulseFall_own {k : Fin 4} (hhigh : (s.pulseOf k).high = true) (htails : (s.pulseOf k).tails = []) :
    exec (.timePulseFall k) s =
      .next (((s.reach (s.pulseOf k).fallAt).setPulse k (s.pulseOf k).falls).pulseRetire (s.pulseOf k).fallId (s.pulseOf k).riseAt) := by
  change execTimePulseFall k s = _
  unfold execTimePulseFall
  dsimp only
  rw [htails]
  exact if_neg ((Bool.not_eq_false _).mpr hhigh)

theorem execTimePulseFall_tail {k : Fin 4} (hfirst : firstFall (s.pulseOf k).tails = some y) (hbefore : (s.pulseOf k).high = false ∨ y.fallAt ≤ (s.pulseOf k).fallAt) :
    exec (.timePulseFall k) s =
      .next (((s.reach y.fallAt).setPulse k { s.pulseOf k with tails := (s.pulseOf k).tails.erase y }).pulseRetire y.fallId y.riseAt) := by
  have hfilter : (firstFall (s.pulseOf k).tails).filter (fun y => !(s.pulseOf k).high || decide (y.fallAt ≤ (s.pulseOf k).fallAt)) = some y := by
    rw [hfirst, Option.filter_some, if_pos]
    simpa using hbefore
  change execTimePulseFall k s = _
  unfold execTimePulseFall
  dsimp only
  rw [hfilter]

/-- What any falling edge leaves of the generators and of the time. -/
theorem State.pulseFall_leaves {e : Tq} {x : PulseSt} {id : Option Nat} {rise : Tq} (h : Good O Q s) :
    (((s.reach e).setPulse k x).pulseRetire id rise).pulseOf j = (if j = k then x else s.pulseOf j)
    ∧ (((s.reach e).setPulse k x).pulseRetire id rise).tm = (s.reach e).tm := by
  refine ⟨?_, State.pulseRetire_changes _ id rise .tm (by decide)⟩
  rw [(State.pulseRetire_changes _ id rise).pulseOf (by decide), State.pulseOf_setPulse (State.reach_good h), (s.reach_changes e).pulseOf (by decide)]

/-! ### Edges of one programme (R240) -/

/-- Edges of a programme with a period of 1 µs or more are placed 1 µs apart or more. -/
theorem PulseProg.edgeNs_apart (hperiod : 1000 * 65536 ≤ p.period) (j : Nat) : p.edgeNs j + 1000 ≤ p.edgeNs (j + 1) := by
  have hnext : (j + 1) * p.period = j * p.period + p.period := Nat.succ_mul _ _
  have hlong : (65536000 : Nat) ≤ p.period := hperiod
  unfold PulseProg.edgeNs roundHalfUp
  rw [hnext]
  omega

/-- Settles O30: pulseServed answers TIME_PULSE, pulseRises and pulseSwitch are its rising edges, and pulseFall_leaves its falling ones. -/
theorem timePulsesRiseAndFallAtTheirTimes : Obligations.TimePulsesRiseAndFallAtTheirTimes := by
  intro s hwf
  have h := good_of_wf hwf
  refine ⟨fun id d hserves => ?pulse, fun k p hprog hnext hruns => ?own, fun k n hfirst hbefore => ?turns, fun k hhigh htails => ?falls, fun k y hfirst hbefore => ?tail,
    fun p j hperiod => PulseProg.edgeNs_apart hperiod j⟩
  case pulse =>
    have hexec := exec_timePulse hserves
    refine ⟨fun hwidth => ?_, fun hwidth hfit => ?_, fun hwidth hfit hfar => ?_, fun hwidth hfit hnear hlate => ?_, fun hwidth hfit hnear hearly hgood => ?_⟩
    · exact hexec.trans (congrArg Host.Outcome.next (if_pos hwidth))
    · exact hexec.trans (congrArg Host.Outcome.next (State.pulseServed_unfit hwidth hfit))
    · exact hexec.trans (congrArg Host.Outcome.next (State.pulseServed_far hwidth hfit hfar))
    · exact hexec.trans (congrArg Host.Outcome.next (State.pulseServed_late hwidth hfit hnear hlate))
    · have htakes := State.pulseServed_takes (k := d.pulseGen) hwidth hfit hnear hearly hgood
      refine ⟨_, hexec.trans (congrArg Host.Outcome.next htakes), ?_, fun j hj => State.pulseOf_setPulse_other hj, rfl,
        (State.setPulse_frm (m := 671088640) (Sub.refl _ |>.le (by decide)) (State.take_frm (Sub.refl _ |>.le (by decide)) (Frm.refl _ s))).keepsParts (by decide)⟩
      refine (State.pulseOf_setPulse_self (State.take_good h)).trans ?_
      unfold PulseSt.takes
      simp only [Option.isNone_iff_eq_none]
      rfl
  case own =>
    refine ⟨_, execTimePulseRise_own hprog hnext hruns, ?_⟩
    have hk : (s.pulseRises k p).pulseOf k = (s.pulseOf k).rises p s.pads.parked := by rw [State.pulseRises_pulseOf h, if_pos rfl]
    dsimp only
    rw [hk]
    exact ⟨rfl, rfl, rfl, rfl, rfl, rfl, rfl, fun j hj => by rw [State.pulseRises_pulseOf h, if_neg hj]⟩
  case turns =>
    refine ⟨_, execTimePulseRise_turns h hfirst hbefore, ?_⟩
    have hswitch := State.pulseSwitch_good (k := k) (n := n) h
    have hk : ((s.pulseSwitch k n).pulseRises k n).pulseOf k = ((s.pulseOf k).turnsTo n).rises n s.pads.parked := by
      rw [State.pulseRises_pulseOf hswitch, if_pos rfl, State.pulseSwitch_pulseOf h, if_pos rfl, State.pulseSwitch_pads]
    dsimp only
    rw [hk]
    exact ⟨rfl, rfl, rfl, rfl, rfl, rfl, fun j hj => by rw [State.pulseRises_pulseOf hswitch, if_neg hj, State.pulseSwitch_pulseOf h, if_neg hj]⟩
  case falls =>
    have hleaves := fun j => State.pulseFall_leaves (k := k) (j := j) (e := (s.pulseOf k).fallAt) (x := (s.pulseOf k).falls) (id := (s.pulseOf k).fallId) (rise := (s.pulseOf k).riseAt) h
    refine ⟨_, execTimePulseFall_own hhigh htails, ?_⟩
    dsimp only
    rw [(hleaves k).1, if_pos rfl]
    refine ⟨rfl, rfl, fun p hprog => ?_, (hleaves k).2, fun j hj => by rw [(hleaves j).1, if_neg hj]⟩
    simp only [PulseSt.falls, hprog, Option.any_some]
  case tail =>
    refine ⟨_, execTimePulseFall_tail hfirst hbefore, ?_⟩
    obtain ⟨hk, htm⟩ := State.pulseFall_leaves (k := k) (j := k) (e := y.fallAt) (x := { s.pulseOf k with tails := (s.pulseOf k).tails.erase y }) (id := y.fallId) (rise := y.riseAt) h
    refine ⟨hk.trans (if_pos rfl), htm, fun j hj => (State.pulseFall_leaves h).1.trans (if_neg hj)⟩

end Sys2Proof.Machine
end

section
/-! PROOFS. The servo: entries into its states, the change of parent, steps, adoptions and set values, the latches of FF_NOW, and transmit time stamps (R216, R222, R225, R231, R233 to R236, R243 to R246). -/

namespace Sys2Proof.Machine

open Sys2Proof

set_option Elab.async false

variable {O : OtpSt} {Q : List Instr} {s t : State} {m p : Nat} {epoch : BitVec 16}

/-! ### Reading Firefly's state -/

theorem Frm.ffPortOf {n : Nat} (h : Frm m s t) (hm : m.testBit 25 = false) : t.ffPortOf n = s.ffPortOf n :=
  congrArg (fun c => Cells.get (fun _ => FfPortSt.init) c n) (h .ffPort hm)

theorem Frm.inService (h : Frm m s t) (hm : m.testBit 28 = false) : t.inService p = s.inService p := by
  unfold State.inService
  rw [h.linkOf hm]

theorem Frm.ffAlt (h : Frm m s t) (hcfg : m.testBit 32 = false) (hotp : m.testBit 1 = false) : t.ffAlt = s.ffAlt := by
  unfold State.ffAlt
  rw [h.cfgv hcfg hotp]

theorem Frm.ffLimit (h : Frm m s t) (hcfg : m.testBit 32 = false) (hotp : m.testBit 1 = false) : t.ffLimit = s.ffLimit := by
  have hrow : t.cfgInt = s.cfgInt := by
    unfold State.cfgInt
    rw [h.cfgv hcfg hotp]
  unfold State.ffLimit State.ffInterval
  rw [hrow]

/-! ### A state is entered (Table 9-3) -/

theorem State.refuserNote_changes (s : State) : Frm 68719476752 s s.refuserNote := State.refuserNote_frm (Sub.refl _) (Frm.refl _ s)

theorem State.refusers_below {hib : Bool} {r : Nat} (hr : r ∈ s.refusers hib) : r < 6 := by
  have hmem := List.mem_of_mem_filter hr
  simp only [List.mem_cons, List.not_mem_nil, or_false] at hmem
  omega

/-- Refusals count below 0x1040 (R413). -/
theorem State.countRefusals_regAbove {rs : List Nat} {a : Nat} (hrs : ∀ r ∈ rs, r < 6) (ha : 0x1040 ≤ a) : (s.countRefusals rs).reg a = s.reg a := by
  unfold State.countRefusals
  split
  · rfl
  · rw [State.setBit_reg (by unfold Reg.pwrStatus; omega)]
    exact State.each_same (g := fun u => u.reg a) (fun r hr u => State.bump_reg (by have := hrs r hr; omega)) s

theorem State.refuserNote_regAbove {a : Nat} (ha : 0x1040 ≤ a) : s.refuserNote.reg a = s.reg a := by
  have hnow : ∀ r ∈ (if s.burst then s.refusers false else []), r < 6 := by
    split
    · exact fun r => State.refusers_below
    · exact fun r hr => absurd hr List.not_mem_nil
  have hdoze : s.dozeOnset.reg a = s.reg a := State.countRefusals_regAbove (fun r hr => hnow r (List.mem_of_mem_filter hr)) ha
  unfold State.refuserNote
  dsimp only
  split <;> exact hdoze

/-- t differs from s in its power state in what it keeps of refusers alone (R410, R413). -/
def NotesRefusers (s t : State) : Prop := t.pwr = { s.pwr with onset := t.pwr.onset, arose := t.pwr.arose }

theorem State.refuserNote_notes (s : State) : NotesRefusers s s.refuserNote := by
  have hcount : ∀ rs, (s.countRefusals rs).pwr = s.pwr := fun rs => State.countRefusals_frm (Sub.refl _) (Frm.refl _ s) .pwr (by decide)
  have hdoze : NotesRefusers s s.dozeOnset := by
    unfold NotesRefusers State.dozeOnset
    dsimp only
    rw [hcount]
  unfold State.refuserNote
  dsimp only
  split
  · unfold NotesRefusers at hdoze ⊢
    dsimp only
    rw [hdoze]
  · exact hdoze

/-- The servo's record as a state is entered. -/
def FfSt.enters (f : FfSt) (mode : FfMode) (up : Nat) : FfSt :=
  { f with mode := mode, lockRun := 0, unlockRun := 0, ppsRun := 0, firstHere := true, modeUp := up,
           integral := if mode = .acquiring then 0 else f.integral, holdFrom := if mode = .holdover then up else f.holdFrom }

/-- The hub with the servo's record replaced. -/
def State.withFf (s : State) (f : FfSt) : State := { s with ff := f }

theorem State.withFf_changes (s : State) (f : FfSt) : Frm 16777216 s (s.withFf f) := by
  have hm := Sub.refl 16777216
  exact frm_mk (Frm.refl _ s)

theorem State.withFf_good {f : FfSt} (h : Good O Q s) : Good O Q (s.withFf f) := good_mk h rfl rfl rfl rfl

theorem State.ffMode_eq (s : State) (mode : FfMode) :
    s.ffMode mode = ((s.withFf (s.ff.enters mode s.tm.up)).doIf (decide (mode = .holdover)) (fun u => u.setBit Reg.ffStatus 11)).refuserNote := by
  cases mode <;> rfl

theorem State.ffMode_changes (s : State) (mode : FfMode) : Frm 68736253968 s (s.ffMode mode) := State.ffMode_frm (Sub.refl _) (Frm.refl _ s)

theorem State.ffMode_ff (s : State) (mode : FfMode) : (s.ffMode mode).ff = s.ff.enters mode s.tm.up := by
  rw [State.ffMode_eq]
  refine (State.refuserNote_changes _ .ff (by decide)).trans ?_
  exact State.doIf_frm (m := 16) (Frm.refl _ _) (State.setBit_frm (Sub.refl _) (Frm.refl _ _)) .ff (by decide)

@[simp] theorem State.ffMode_mode (s : State) (mode : FfMode) : (s.ffMode mode).ff.mode = mode := by rw [State.ffMode_ff]; rfl

theorem State.ffMode_tm (s : State) (mode : FfMode) : (s.ffMode mode).tm = s.tm := s.ffMode_changes mode .tm (by decide)

theorem State.ffMode_notes (s : State) (mode : FfMode) : NotesRefusers s (s.ffMode mode) := by
  rw [State.ffMode_eq]
  have hset : ∀ (b : Bool) (u : State), (u.doIf b (fun v => v.setBit Reg.ffStatus 11)).pwr = u.pwr := fun b u => by cases b <;> rfl
  have hnotes := State.refuserNote_notes ((s.withFf (s.ff.enters mode s.tm.up)).doIf (decide (mode = .holdover)) (fun u => u.setBit Reg.ffStatus 11))
  unfold NotesRefusers at hnotes ⊢
  rwa [hset] at hnotes

/-- An entry into HOLDOVER sets its bit of FF_STATUS, and holds from now on. -/
theorem State.ffMode_holdover (h : Good O Q s) :
    (s.ffMode .holdover).ff.holdFrom = (s.ffMode .holdover).tm.up ∧ (s.ffMode .holdover).bit Reg.ffStatus 11 = true := by
  refine ⟨by rw [State.ffMode_ff, State.ffMode_tm]; rfl, ?_⟩
  rw [State.ffMode_eq, State.bit, State.refuserNote_regAbove (by decide)]
  exact State.setBit_bit (State.withFf_good h) (by decide)

/-! ### The hub changes its parent, or holds over (R222) -/

theorem State.refclkKeep_reg {a : Nat} (ha : a ≠ 0x2004) : s.refclkKeep.reg a = s.reg a := by
  unfold State.refclkKeep
  split
  · exact State.reg_setReg_other ha
  · rfl

/-- The servo's record behind a change of parent. -/
def FfSt.turns (f : FfSt) (alt : Bool) (up : Nat) : FfSt := { f with altInUse := alt, sinceSwitch := 0, source := none, parentHold := false, useUp := up }

theorem State.ffSwitch_changes (s : State) (alt : Bool) : Frm 8796143353872 s (s.ffSwitch alt) := State.ffSwitch_frm (Sub.refl _) (Frm.refl _ s)

/-- A change of parent ends the run of the port it leaves and starts every port's adoption anew; of the registers it touches CLK_REFCLK_PPB alone. -/
theorem State.ffSwitch_leaves (s : State) (alt : Bool) :
    (s.ffSwitch alt).ff = s.ff.turns alt s.tm.up ∧ ∀ a, a ≠ 0x2004 → (s.ffSwitch alt).reg a = s.reg a := by
  have hanew : ∀ u : State, Frm 33554432 u u.ffPortsAnew := fun u => State.ffPortsAnew_frm (Sub.refl _) (Frm.refl _ u)
  constructor
  · exact (State.refclkKeep_frm (m := 8796093022224) (Sub.refl _) (Frm.refl _ _) .ff (by decide)).trans (hanew _ .ff (by decide))
  · exact fun a ha => (State.refclkKeep_reg ha).trans ((hanew _).reg (by decide))

/-- The hub at the instant the parent in use is due, whose run of valid exchanges has ended. -/
def State.parentLate (s : State) : State := (s.reachUp s.ffDue).updFfPort s.ffInUse (fun x => { x with goodRun := 0 })

theorem State.parentLate_changes (s : State) : Frm 33554433 s s.parentLate := by
  have hm := Sub.refl 33554433
  exact State.updFfPort_frm (hm.le (by decide)) (State.reachUp_frm (hm.le (by decide)) (Frm.refl _ s))

theorem State.parentLate_good (h : Good O Q s) : Good O Q s.parentLate := State.updFfPort_good (State.reachUp_good h)

theorem State.ffInUse_parent (hparent : s.ff.altInUse = false) : s.ffInUse = s.ffParent := if_neg (by simp [hparent])

theorem State.ffOther_alone (hparent : s.ff.altInUse = false) (hnone : s.ffAlt = none) : s.ffOther = false := by
  simp [State.ffOther, hparent, hnone]

theorem State.ffOther_alt (hparent : s.ff.altInUse = false) (halt : s.ffAlt = some p) (hlong : 16 ≤ s.ff.sinceSwitch) (hgives : s.ffGives p = true)
    (hagrees : (s.ffPortOf p).altBad = false) : s.ffOther = true := by
  simp [State.ffOther, hparent, halt, hlong, hgives, hagrees]

theorem State.parentLate_ffPortOf (hother : p ≠ s.ffInUse) : s.parentLate.ffPortOf p = s.ffPortOf p :=
  (State.ffPortOf_updFfPort_other hother).trans ((s.reachUp_changes s.ffDue).ffPortOf (by decide))

theorem State.parentLate_ffGives (hother : p ≠ s.ffInUse) : s.parentLate.ffGives p = (s.reachUp s.ffDue).ffGives p := by
  have hlate : Frm 33554432 (s.reachUp s.ffDue) s.parentLate := State.updFfPort_frm (Sub.refl _) (Frm.refl _ _)
  unfold State.ffGives
  rw [hlate.inService (by decide), hlate.ffLimit (by decide) (by decide), State.parentLate_ffPortOf hother, (s.reachUp_changes s.ffDue).ffPortOf (by decide)]
  rfl

theorem execParentTimeout_out (hmember : s.ffRoot = false) (hout : s.inService s.ffInUse = false) (hother : s.ffOther = true) :
    exec .parentTimeout s = .next (s.ffSwitch (!s.ff.altInUse)) :=
  (if_neg (by simp [hmember])).trans (if_pos ⟨hout, hother⟩)

theorem execParentTimeout_due (hmember : s.ffRoot = false) (hin : ¬ (s.inService s.ffInUse = false ∧ s.ffOther = true)) :
    exec .parentTimeout s = if s.parentLate.ffOther then .next (s.parentLate.ffSwitch (!s.parentLate.ff.altInUse))
      else if s.parentLate.ff.mode = .locked then .next (s.parentLate.ffMode .holdover) else .next s.parentLate :=
  (if_neg (by simp [hmember])).trans (if_neg hin)

/-! ### Steps, adoptions and set values (R225, R233 to R236) -/

/-- What a step changes behind the count: grids, captures and pulse generators. -/
theorem State.afterStep_changes (s : State) (old : Tq) : Frm 6747305771056 s (s.afterStep old) := State.afterStep_frm (Sub.refl _) (Frm.refl _ s)

/-- An epoch's end: statistics and streams close what they hold (R236). -/
def State.epochEnds (s : State) : State :=
  ((s.each (List.range 512) (fun i a => (a.statNow a.cfgv i).updStats i (fun c => c.closeShort a.nowNs none))).adoptStreams 0).adoptStreams 1

/-- The hub in its new epoch, before anything of it starts anew. -/
def State.inEpoch (s : State) (epoch : BitVec 16) (t : Tq) : State :=
  { (s.slewBy 0 0).setCount t with ff := { ((s.slewBy 0 0).setCount t).ff with epoch := epoch }, hiveLost := [] }

theorem State.inEpoch_leaves (s : State) (epoch : BitVec 16) (t : Tq) :
    (s.inEpoch epoch t).ff = { s.ff with epoch := epoch } ∧ (s.inEpoch epoch t).tm.count = t * 65536 ∧ (s.inEpoch epoch t).tm.slewLen = 0 :=
  ⟨rfl, rfl, rfl⟩

/-- Mains tracking and both groups start anew in an epoch (R236). -/
def State.groupsAdopt (s : State) : State := ((s.mainsHole s.mainsGroup).adoptGroup 0).adoptGroup 1

/-- Captures and pulses end, and pulses in progress keep their lengths; old: the time before the adoption (R236). -/
def State.edgesAdopt (s : State) (old : Tq) : State :=
  ((s.adoptCaptures old).pulseStopAll 0x0813).each (List.range 4) (fun k a => a.updPulse k (fun x =>
    { x with fallAt := a.now + (x.fallAt - old), tails := x.tails.map (fun y => { y with fallAt := a.now + (y.fallAt - old) }) }))

theorem State.adopt_eq (s : State) (epoch : BitVec 16) (t : Tq) :
    s.adopt epoch t = (((s.epochEnds.inEpoch epoch t).groupsAdopt.edgesAdopt s.now).setBit Reg.ffStatus 10).raise (errAt 0 Reg.ffStatus 10 0xFFFF) := by
  unfold State.adopt State.edgesAdopt State.groupsAdopt State.inEpoch State.epochEnds
  rfl

theorem State.epochEnds_changes (s : State) : Frm 6747171815472 s s.epochEnds := by
  have hm := Sub.refl 6747171815472
  refine State.adoptStreams_frm (hm.le (by decide)) (State.adoptStreams_frm (hm.le (by decide)) (State.each_frm (Frm.refl _ s) (fun i u hu => ?_)))
  exact State.updStats_frm (hm.le (by decide)) (State.statNow_frm (hm.le (by decide)) hu)

theorem State.groupsAdopt_changes (s : State) : Frm 6747173150768 s s.groupsAdopt := by
  have hm := Sub.refl 6747173150768
  exact State.adoptGroup_frm (hm.le (by decide)) (State.adoptGroup_frm (hm.le (by decide)) (State.mainsHole_frm (hm.le (by decide)) (Frm.refl _ s)))

theorem State.edgesAdopt_changes (s : State) (old : Tq) : Frm 141337591824 s (s.edgesAdopt old) := by
  have hm := Sub.refl 141337591824
  refine State.each_frm (State.pulseStopAll_frm (hm.le (by decide)) (State.adoptCaptures_frm (hm.le (by decide)) (Frm.refl _ s))) (fun k u hu => ?_)
  exact State.updPulse_frm (hm.le (by decide)) hu

/-- All that an adoption still changes once the hub is in its new epoch: neither the time nor the servo. -/
def adoptSet : Nat := 8396577169456

theorem State.adopt_changes (s : State) (epoch : BitVec 16) (t : Tq) : Frm adoptSet (s.epochEnds.inEpoch epoch t) (s.adopt epoch t) := by
  have hm : Sub adoptSet adoptSet := Sub.refl _
  rw [State.adopt_eq]
  refine State.raise_frm (hm.le (by decide)) (State.setBit_frm (hm.le (by decide)) ?_)
  exact ((State.groupsAdopt_changes _).mono (hm.le (by decide))).trans ((State.edgesAdopt_changes _ _).mono (hm.le (by decide)))

/-- An adoption takes epoch and time at once, cancels the slew and leaves the servo's state. -/
theorem State.adopt_leaves (s : State) (epoch : BitVec 16) (t : Tq) :
    (s.adopt epoch t).ff = { s.ff with epoch := epoch } ∧ (s.adopt epoch t).tm.count = t * 65536 ∧ (s.adopt epoch t).tm.slewLen = 0 := by
  have htm : (s.adopt epoch t).tm = (s.epochEnds.inEpoch epoch t).tm := s.adopt_changes epoch t .tm (by decide)
  have hff : s.epochEnds.ff = s.ff := s.epochEnds_changes .ff (by decide)
  obtain ⟨hin, hcount, hslew⟩ := s.epochEnds.inEpoch_leaves epoch t
  rw [htm]
  exact ⟨(s.adopt_changes epoch t .ff (by decide)).trans (hin.trans (congrArg (fun f : FfSt => { f with epoch := epoch }) hff)), hcount, hslew⟩

/-- A set value is the hub's time at once, in its epoch; of the servo it changes the epoch alone. -/
theorem State.ffSet_leaves (s : State) (v : Nat) (epoch : BitVec 16) :
    (s.ffSet v epoch).ff = { s.ff with epoch := epoch } ∧ (s.ffSet v epoch).nowNs = v := by
  have hns : v * 65536 * 65536 / 4294967296 = v := by omega
  unfold State.ffSet
  split
  · obtain ⟨hff, hcount, -⟩ := s.adopt_leaves epoch (nsTq v)
    exact ⟨hff, by rw [State.nowNs, hcount]; exact hns⟩
  · next hsame =>
    have hafter := State.afterStep_changes ((s.slewBy 0 0).setCount (nsTq v)) s.now
    refine ⟨(hafter .ff (by decide)).trans ?_, (hafter.nowNs (by decide)).trans hns⟩
    rw [of_not_not hsame]
    rfl

/-! ### A PPS root (R225, R233) -/

theorem State.ppsStates_locked {theta : Int} (hmode : s.ff.mode = .locked) : s.ppsStates theta = if 1000 < theta.natAbs then s.ffMode .holdover else s := by
  unfold State.ppsStates
  rw [hmode]

theorem State.ppsStates_fourth {theta : Int} (hmode : s.ff.mode = .acquiring) (hnear : theta.natAbs ≤ 100) (hrun : s.ff.ppsRun = 3) :
    s.ppsStates theta = s.ffMode .locked := by
  unfold State.ppsStates
  rw [hmode]
  simp [hnear, hrun]

theorem execPpsTimeout_late (hroot : s.ffRoot = true) (hpps : s.ffPps = true) (hmode : s.ff.mode = .locked) :
    exec .ppsTimeout s = .next ((s.reachUp (s.ff.ppsUp + 1500000000)).ffMode .holdover) := if_pos ⟨hroot, hpps, hmode⟩

/-- The hub with the time of a PPS edge noted. -/
def State.ppsSeen (s : State) : State := s.withFf { s.ff with ppsUp := s.tm.up }

/-- The phase of the hub's whole second at a PPS edge, in ns. -/
def State.ppsTheta (s : State) : Int := (s.nowNs : Int) - ((s.nowNs + 500000000) / 1000000000 * 1000000000 : Nat)

theorem State.ppsSeen_theta (s : State) : s.ppsSeen.ppsTheta = s.ppsTheta := by
  have hns : s.ppsSeen.nowNs = s.nowNs := rfl
  unfold State.ppsTheta
  rw [hns]

/-- What a PPS edge does to the hub that has noted it: the set value that waits for it, or a correction; held: the hub held over before. -/
def State.ppsCounts (s : State) (held : Bool) : Out :=
  match s.ff.goPending with
  | some (v, ep) =>
    let u := (s.withFf { s.ff with goPending := none, ppsRun := 0 }).ffSet v ep
    .next (if held then u.ffMode .acquiring else u)
  | none =>
    let u := s.ffCorrect (s.ppsTheta * 65536) 1000000000 (decide (s.ff.mode ≠ .locked))
    .next ((if held then u.ffMode .acquiring else u).ppsStates s.ppsTheta)

theorem execPpsEdge_eq (s : State) :
    execPpsEdge s = if s.ffRoot = false ∨ s.ffPps = false ∨ s.pinCarries (s.cfgv Fld.fireflyPpsGpio 0 0) 4 = false then .next s
      else (if s.ppsSeen.ff.mode = .free then s.ppsSeen.ffMode .acquiring else s.ppsSeen).ppsCounts (decide (s.ff.mode = .holdover)) := rfl

section
variable (hroot : s.ffRoot = true) (hpps : s.ffPps = true) (hcarries : s.pinCarries (s.cfgv Fld.fireflyPpsGpio 0 0) 4 = true)
  (hmode : s.ff.mode = .acquiring ∨ s.ff.mode = .locked)
include hroot hpps hcarries hmode

theorem execPpsEdge_counts : exec .ppsEdge s = s.ppsSeen.ppsCounts false := by
  have hheld : ¬ s.ff.mode = .holdover := by rcases hmode with h | h <;> rw [h] <;> decide
  have hfree : ¬ s.ppsSeen.ff.mode = .free := by rcases hmode with h | h <;> exact fun hf => absurd (h.symm.trans hf) (by decide)
  refine (execPpsEdge_eq s).trans ?_
  rw [if_neg (by simp [hroot, hpps, hcarries]), if_neg hfree, decide_eq_false hheld]

theorem execPpsEdge_sets {v : Nat} {ep : BitVec 16} (hgo : s.ff.goPending = some (v, ep)) :
    exec .ppsEdge s = .next ((s.ppsSeen.withFf { s.ppsSeen.ff with goPending := none, ppsRun := 0 }).ffSet v ep) := by
  have hseen : s.ppsSeen.ff.goPending = some (v, ep) := hgo
  rw [execPpsEdge_counts hroot hpps hcarries hmode, State.ppsCounts, hseen]
  rfl

theorem execPpsEdge_corrects (hgo : s.ff.goPending = none) :
    exec .ppsEdge s = .next ((s.ppsSeen.ffCorrect (s.ppsTheta * 65536) 1000000000 (decide (s.ff.mode ≠ .locked))).ppsStates s.ppsTheta) := by
  have hseen : s.ppsSeen.ff.goPending = none := hgo
  have hstill : s.ppsSeen.ff.mode = s.ff.mode := rfl
  rw [execPpsEdge_counts hroot hpps hcarries hmode, State.ppsCounts, hseen, State.ppsSeen_theta, hstill]
  simp only [Bool.false_eq_true, if_false]

end

/-! ### FF_SET (R225, R397) -/

/-- The epoch that FF_SET brings; the register's low half is 0xFFFF exactly when it is UNSET. -/
def State.setEpoch (s : State) : BitVec 16 := BitVec.ofNat 16 (field (s.reg 0x48038) 15 0)

theorem State.setEpoch_unset_iff (s : State) : s.setEpoch = 0xFFFF ↔ field (s.reg 0x48038) 15 0 = 0xFFFF := by
  have hbound : field (s.reg 0x48038) 15 0 < 65536 := Nat.mod_lt _ (by decide)
  rw [← BitVec.toNat_inj, State.setEpoch, BitVec.toNat_ofNat, Nat.mod_eq_of_lt hbound]
  rfl

theorem execFfSetGo_denied {path : Path}
    (h : s.ffRoot = false ∨ field (s.reg 0x48038) 15 0 = 0xFFFF ∨ (path = .host ∧ s.sv.owned = true ∧ s.sv.policy.getLsbD 0 = false)) :
    exec (.ffSetGo path) s = .next (s.setBit Reg.ffStatus 14) := by
  refine if_pos (h.imp_right (Or.imp s.setEpoch_unset_iff.mpr ?_))
  rintro ⟨hpath, howned, hpolicy⟩
  rw [hpath, howned, hpolicy]
  rfl

theorem execFfSetGo_allowed (hroot : s.ffRoot = true) (hset : field (s.reg 0x48038) 15 0 ≠ 0xFFFF) :
    exec (.ffSetGo .sideband) s = if s.ffPps then .next (s.withFf { s.ff with goPending := some (s.reg64 0x48030, s.setEpoch) })
      else .next ((s.ffSet (s.reg64 0x48030) s.setEpoch).ffMode .locked) := by
  refine if_neg ?_
  rintro (hmember | hunset | hdenied)
  · exact absurd hroot (Bool.eq_false_iff.mp hmember)
  · exact hset (s.setEpoch_unset_iff.mp hunset)
  · exact absurd hdenied (by simp)

/-! ### Transmit time stamps (R243 to R246) -/

theorem State.txtsPush_room {i : BitVec 16} {stamp : Tq} {retry : Bool} (hroom : (s.txtsOf p).queue.length < 32) :
    s.txtsPush p i stamp retry = s.setTxts p ⟨(s.txtsOf p).queue ++ [⟨i, stamp, retry, (s.txtsOf p).gapNext⟩], false⟩ := if_neg (Nat.not_le.mpr hroom)

theorem State.txtsPush_full {i : BitVec 16} {stamp : Tq} {retry : Bool} (hfull : 32 ≤ (s.txtsOf p).queue.length) :
    s.txtsPush p i stamp retry = ((s.bump (Reg.txts p 4)).setBit (Reg.txts p 0) 8).setTxts p { s.txtsOf p with gapNext := true } := if_pos hfull

theorem Reg.txts_ne : Reg.txts p 4 ≠ Reg.txts p 0 := by
  unfold Reg.txts
  omega

/-- At a full queue a stamp is lost: counted, and its bit set (R245). -/
theorem State.txtsPush_loses {i : BitVec 16} {stamp : Tq} {retry : Bool} (h : Good O Q s) (hfull : 32 ≤ (s.txtsOf p).queue.length) :
    (s.txtsPush p i stamp retry).txtsOf p = { s.txtsOf p with gapNext := true } ∧ (s.txtsPush p i stamp retry).bit (Reg.txts p 0) 8 = true
    ∧ (s.txtsPush p i stamp retry).reg (Reg.txts p 4) = (s.reg (Reg.txts p 4)).satAdd 1 := by
  have hbump : Good O Q (s.bump (Reg.txts p 4)) := State.bump_good h
  rw [State.txtsPush_full hfull]
  exact ⟨State.txtsOf_setTxts_self (State.setBit_good hbump), State.setBit_bit hbump (by decide), (State.setBit_reg Reg.txts_ne).trans (State.reg_setReg_self h)⟩

/-! ### States and latches -/

/-- The hub in HOLDOVER behind a state that differs from s in parts that HOLDOVER can change as well, but not in its power state. -/
theorem State.ffMode_holds {a : Nat} (h : Good O Q t) (ha : Sub 68736253968 a) (hst : Frm a s t) (hpwr : t.pwr = s.pwr) :
    (t.ffMode .holdover).ff.mode = .holdover ∧ (t.ffMode .holdover).ff.holdFrom = (t.ffMode .holdover).tm.up ∧ (t.ffMode .holdover).tm = t.tm
    ∧ (t.ffMode .holdover).bit Reg.ffStatus 11 = true ∧ NotesRefusers s (t.ffMode .holdover) ∧ Frm a s (t.ffMode .holdover) := by
  obtain ⟨hfrom, hbit⟩ := State.ffMode_holdover h
  have hnotes := t.ffMode_notes .holdover
  unfold NotesRefusers at hnotes
  rw [hpwr] at hnotes
  exact ⟨t.ffMode_mode _, hfrom, t.ffMode_tm _, hbit, hnotes, State.ffMode_frm ha hst⟩

/-- Settles O29: each timeout by what ffSwitch or ffMode leaves, an edge and FF_SET by ffSet_leaves, and the stamps by txtsPush. -/
theorem servoStatesAndLatchesFollowTheirRules : Obligations.ServoStatesAndLatchesFollowTheirRules := by
  intro s hwf
  have h := good_of_wf hwf
  have hlate := s.parentLate_changes
  have hff : s.parentLate.ff = s.ff := hlate .ff (by decide)
  refine ⟨fun hmember hparent hnone hmode => ?holds, fun p hmember hparent halt hout hgives hagrees hlong => ?out,
    fun p hmember hparent halt hne hin hgives hagrees hlong => ?turns, fun hmember hmode => if_pos ⟨hmember, hmode⟩, fun hroot hpps hmode => ?pps,
    fun hroot hpps hcarries hmode => ⟨fun v ep hgo => ?edge, execPpsEdge_corrects hroot hpps hcarries hmode⟩,
    fun theta hmode => ⟨fun hfar => ?far, fun hnear => (State.ppsStates_locked hmode).trans (if_neg (Nat.not_lt.mpr hnear))⟩,
    fun theta hmode hnear hrun => ?fourth, fun path hdenied => ?denied, fun hroot hpps hset => ?set,
    fun hroot hpps hset => (execFfSetGo_allowed hroot hset).trans (if_pos hpps), rfl, rfl, fun p => ?pop,
    fun p i stamp retry => ⟨fun hroom => ?room, State.txtsPush_loses h⟩⟩
  case holds =>
    have hin : ¬ (s.inService s.ffInUse = false ∧ s.ffOther = true) := fun hc => absurd hc.2 (by rw [State.ffOther_alone hparent hnone]; decide)
    have hother : s.parentLate.ffOther = false := State.ffOther_alone (hff ▸ hparent) ((hlate.ffAlt (by decide) (by decide)).trans hnone)
    have hm := Sub.refl 68769808401
    obtain ⟨hmode', hfrom, htm, hbit, hnotes, hframe⟩ := State.ffMode_holds (s := s) (State.parentLate_good h) (hm.le (by decide)) (hlate.mono (hm.le (by decide))) (hlate .pwr (by decide))
    refine ⟨_, (execParentTimeout_due hmember hin).trans ?_, hmode', hfrom, htm, hbit, ?_, hnotes, hframe.keepsParts (by decide)⟩
    · rw [hother, hff, hmode]
      rfl
    · rw [(State.ffMode_changes _ _).ffPortOf (by decide), State.parentLate, State.ffInUse_parent hparent, State.ffPortOf_updFfPort_self (State.reachUp_good h)]
  case out =>
    have hother := State.ffOther_alt hparent halt hlong hgives hagrees
    have hexec := execParentTimeout_out hmember ((State.ffInUse_parent hparent).symm ▸ hout) hother
    rw [hparent] at hexec
    obtain ⟨hturns, hregs⟩ := s.ffSwitch_leaves true
    exact ⟨_, hexec, hturns, hregs, (s.ffSwitch_changes true).keepsParts (by decide)⟩
  case turns =>
    have huse := State.ffInUse_parent hparent
    have hne' : p ≠ s.ffInUse := huse.symm ▸ hne
    have hin' : ¬ (s.inService s.ffInUse = false ∧ s.ffOther = true) := fun hc => absurd hin (by rw [← huse, hc.1]; decide)
    have hother : s.parentLate.ffOther = true :=
      State.ffOther_alt (hff ▸ hparent) ((hlate.ffAlt (by decide) (by decide)).trans halt) (hff ▸ hlong) ((State.parentLate_ffGives hne').trans hgives)
        ((State.parentLate_ffPortOf hne').symm ▸ hagrees)
    have hexec := (execParentTimeout_due hmember hin').trans (if_pos hother)
    rw [hff, hparent] at hexec
    obtain ⟨hturns, hregs⟩ := s.parentLate.ffSwitch_leaves true
    have hm := Sub.refl 8796143353873
    have hswitch := s.parentLate.ffSwitch_changes true
    have htm : (s.parentLate.ffSwitch true).tm = s.parentLate.tm := hswitch .tm (by decide)
    refine ⟨_, hexec, ?_, htm, fun a ha => (hregs a ha).trans (hlate.reg (by decide)),
      ((hlate.mono (hm.le (by decide))).trans (hswitch.mono (hm.le (by decide)))).keepsParts (by decide)⟩
    refine hturns.trans ?_
    rw [hff]
    exact congrArg (fun up => s.ff.turns true up) (congrArg TimeSt.up htm).symm
  case pps =>
    have hm := Sub.refl 68736253969
    obtain ⟨hmode', hfrom, htm, hbit, hnotes, hframe⟩ := State.ffMode_holds (s := s) (State.reachUp_good h) (hm.le (by decide))
      ((s.reachUp_changes (s.ff.ppsUp + 1500000000)).mono (hm.le (by decide))) (s.reachUp_changes _ .pwr (by decide))
    exact ⟨_, execPpsTimeout_late hroot hpps hmode, hmode', hfrom, htm, hbit, hnotes, hframe.keepsParts (by decide)⟩
  case edge =>
    obtain ⟨hff', hns⟩ := State.ffSet_leaves (s.ppsSeen.withFf { s.ppsSeen.ff with goPending := none, ppsRun := 0 }) v ep
    exact ⟨_, execPpsEdge_sets hroot hpps hcarries hmode hgo, hns, congrArg FfSt.epoch hff', congrArg FfSt.goPending hff', (congrArg FfSt.mode hff').trans rfl⟩
  case far => rw [State.ppsStates_locked hmode, if_pos hfar, State.ffMode_mode]
  case fourth => rw [State.ppsStates_fourth hmode hnear hrun, State.ffMode_mode]
  case denied =>
    exact ⟨_, execFfSetGo_denied hdenied, State.setBit_bit h (by decide), fun a ha => State.setBit_reg ha, (State.setBit_frm (Sub.refl _) (Frm.refl _ s)).keepsParts (by decide)⟩
  case set =>
    obtain ⟨hff', hns⟩ := s.ffSet_leaves (s.reg64 0x48030) s.setEpoch
    refine ⟨_, (execFfSetGo_allowed hroot hset).trans (if_neg (by simp [hpps])), ((State.ffMode_changes _ _).nowNs (by decide)).trans hns, ?_, State.ffMode_mode _ _⟩
    rw [State.epoch, State.ffMode_ff, hff']
    rfl
  case pop =>
    exact ⟨_, rfl, State.txtsOf_updTxts_self h, fun q hq => State.txtsOf_updTxts_other hq, (State.updTxts_frm (Sub.refl _) (Frm.refl _ s)).keepsParts (by decide)⟩
  case room =>
    rw [State.txtsPush_room hroom]
    exact ⟨State.txtsOf_setTxts_self h, (State.setTxts_frm (Sub.refl _) (Frm.refl _ s)).keepsParts (by decide)⟩

end Sys2Proof.Machine
end

section
/-! PROOFS. Steps and adoptions of time. An adoption closes every stream first, and none of them closes a packet, or places one in the Hive, again when its group restarts (R147, R228, R234 to R236). -/

namespace Sys2Proof.Machine

open Sys2Proof

set_option Elab.async false

variable {O : OtpSt} {Q : List Instr} {s t u : State} {m x g : Nat}

/-! ### Operations that open no packet -/

/-- b awaits the cut that a awaits, and holds no packet open that a does not. -/
def StreamSt.shuts (a b : StreamSt) : Prop := b.awaitCut = a.awaitCut ∧ (b.openPkt = a.openPkt ∨ b.openPkt = none)

theorem StreamSt.shuts_refl (a : StreamSt) : a.shuts a := ⟨rfl, .inl rfl⟩

theorem StreamSt.shuts.trans {a b c : StreamSt} (h : a.shuts b) (k : b.shuts c) : a.shuts c :=
  ⟨k.1.trans h.1, k.2.elim (fun hkeep => h.2.imp hkeep.trans hkeep.trans) .inr⟩

/-- t keeps the invariant, and has the role, the configuration and the converting frames of s; its streams open no packet. -/
structure OpensNone (O : OtpSt) (Q : List Instr) (s t : State) : Prop where
  good : Good O Q t
  role : t.twin.role = s.twin.role
  cfg : t.cfg = s.cfg
  otp : t.otp = s.otp
  frames : ∀ g, (t.grpOf g).frame = (s.grpOf g).frame
  streams : ∀ x, (s.strmOf x).shuts (t.strmOf x)

theorem OpensNone.refl (h : Good O Q s) : OpensNone O Q s s := ⟨h, rfl, rfl, rfl, fun _ => rfl, fun _ => StreamSt.shuts_refl _⟩

theorem OpensNone.trans (h : OpensNone O Q s t) (k : OpensNone O Q t u) : OpensNone O Q s u :=
  ⟨k.good, k.role.trans h.role, k.cfg.trans h.cfg, k.otp.trans h.otp, fun g => (k.frames g).trans (h.frames g), fun x => (h.streams x).trans (k.streams x)⟩

/-- A set of parts without groups, streams, configuration and twin. -/
def quietParts (m : Nat) : Bool := [1, 5, 15, 32, 33].all (fun i => !m.testBit i)

theorem Frm.strmOf (h : Frm m s t) (hm : m.testBit 15 = false) : t.strmOf x = s.strmOf x :=
  congrArg (fun c => Cells.get (fun _ => StreamSt.init) c x) (h .strm hm)

theorem OpensNone.frm (h : OpensNone O Q s t) (hgood : Good O Q u) (hframe : Frm m t u) (hm : quietParts m = true) : OpensNone O Q s u := by
  simp only [quietParts, List.all_cons, List.all_nil, Bool.and_true, Bool.and_eq_true, Bool.not_eq_true'] at hm
  obtain ⟨hotp, hgrp, hstrm, hcfg, htwin⟩ := hm
  exact h.trans ⟨hgood, congrArg TwinSt.role (hframe .twin htwin), hframe .cfg hcfg, hframe .otp hotp,
    fun g => congrArg GroupSt.frame (hframe.grpOf hgrp), fun x => hframe.strmOf hstrm ▸ StreamSt.shuts_refl _⟩

theorem OpensNone.setStrm {v : StreamSt} (h : OpensNone O Q s t) (hv : (t.strmOf x).shuts v) : OpensNone O Q s (t.setStrm x v) := by
  refine h.trans ⟨State.setStrm_good h.good, rfl, rfl, rfl, fun _ => rfl, fun y => ?_⟩
  by_cases hy : y = x
  · rw [hy, State.strmOf_setStrm_self h.good]
    exact hv
  · rw [State.strmOf_setStrm_other hy]
    exact StreamSt.shuts_refl _

theorem OpensNone.updStrm {f : StreamSt → StreamSt} (h : OpensNone O Q s t) (hf : ∀ a : StreamSt, a.shuts (f a)) : OpensNone O Q s (t.updStrm x f) := h.setStrm (hf _)

theorem OpensNone.updGrp {f : GroupSt → GroupSt} (h : OpensNone O Q s t) (hf : ∀ a : GroupSt, (f a).frame = a.frame) : OpensNone O Q s (t.updGrp g f) := by
  refine h.trans ⟨State.updGrp_good h.good, rfl, rfl, rfl, fun i => ?_, fun _ => StreamSt.shuts_refl _⟩
  rw [State.grpOf_updGrp h.good]
  split
  · next hi => rw [hf, hi]
  · rfl

theorem OpensNone.each {α : Type} {xs : List α} {f : α → State → State} (hf : ∀ x t, OpensNone O Q s t → OpensNone O Q s (f x t)) (h : OpensNone O Q s t) :
    OpensNone O Q s (t.each xs f) := by
  induction xs generalizing t with
  | nil => exact h
  | cons x xs ih => exact ih (hf x t h)

theorem OpensNone.doIf {c : Bool} {f : State → State} (h : OpensNone O Q s t) (hf : OpensNone O Q s (f t)) : OpensNone O Q s (t.doIf c f) := by
  unfold State.doIf
  split <;> assumption

theorem OpensNone.ite {c : Prop} [Decidable c] (ht : OpensNone O Q s t) (hu : OpensNone O Q s u) : OpensNone O Q s (if c then t else u) := by
  split <;> assumption

/-! ### Retirements and reports -/

theorem OpensNone.postOne {q : Nat} {c : Completion} (h : OpensNone O Q s t) : OpensNone O Q s (t.postOne q c) := by
  have hrelease : ∀ u : State, OpensNone O Q s u → OpensNone O Q s (u.releaseBuf c.id) := fun u hu => hu.each (fun _ _ hv => hv.updStrm (fun _ => ⟨rfl, .inl rfl⟩))
  have hwrite : ∀ (a : Nat) (bs : List Byte) (f : CqSt → CqSt), OpensNone O Q s ((t.hostWrite a bs).updCq q f) := fun a bs f =>
    h.frm (State.updCq_good (State.hostWrite_good h.good))
      ((State.hostWrite_frm (m := 2684354560) ((Sub.refl _).le (by decide)) (Frm.refl _ t)).trans (State.updCq_frm ((Sub.refl _).le (by decide)) (Frm.refl _ _))) (by decide)
  have hfull : ∀ (b : Bool) (u : State) (r i : Nat), OpensNone O Q s u → OpensNone O Q s (u.doIf b (fun v => v.setBit r i)) := fun b u r i hu =>
    hu.doIf (hu.frm (State.setBit_good hu.good) (State.setBit_frm (Sub.refl _) (Frm.refl _ u)) (by decide))
  have hcount : ∀ u : State, OpensNone O Q s u → OpensNone O Q s (if c.counts then u.cqCount q else u) := fun u hu =>
    (hu.frm (State.cqCount_good hu.good) (State.cqCount_frm (Sub.refl _) (Frm.refl _ u)) (by decide)).ite hu
  exact hcount _ (hfull _ _ _ _ (hrelease _ (hwrite _ _ _)))

/-- A change of host memory's bookkeeping alone. -/
theorem OpensNone.withHost {f : HostSt} (h : OpensNone O Q s t) (hmem : f.mem = t.host.mem) : OpensNone O Q s { t with host := f } :=
  h.trans ⟨good_mk h.good hmem rfl rfl rfl, rfl, rfl, rfl, fun _ => rfl, fun _ => StreamSt.shuts_refl _⟩

theorem OpensNone.postGo {ws : List (Nat × Completion)} : ∀ {stuck : List Nat} {t : State}, OpensNone O Q s t → OpensNone O Q s (postGo ws stuck t) := by
  induction ws with
  | nil => exact fun h => h
  | cons w ws ih =>
    intro stuck t h
    unfold Machine.postGo
    exact (ih h.postOne).ite (ih (h.withHost rfl))

theorem OpensNone.deliver {d : Desc} {c : Completion} (h : OpensNone O Q s t) : OpensNone O Q s (t.deliver d c) := by
  unfold State.deliver
  split
  · have hfree : OpensNone O Q s { t with sb := { t.sb with descBusy := false } } :=
      h.trans ⟨good_mk h.good rfl rfl rfl rfl, rfl, rfl, rfl, fun _ => rfl, fun _ => StreamSt.shuts_refl _⟩
    exact hfree.frm (State.setRegs_good hfree.good) (State.setRegs_frm (Sub.refl _) (Frm.refl _ _)) (by decide)
  · refine OpensNone.postGo ?_
    exact h.withHost rfl

theorem OpensNone.retire1 {d : Desc} {status resS : Nat} {res : List W32} (h : OpensNone O Q s t) : OpensNone O Q s (t.retire1 d status resS res) := by
  have hdrop : OpensNone O Q s (t.dropDesc d.id) := h.withHost rfl
  exact (hdrop.frm (State.drainCheck_good hdrop.good) (State.drainCheck_frm (Sub.refl _) (Frm.refl _ _)) (by decide)).deliver

theorem OpensNone.retire {d : Desc} {status resS : Nat} {res : List W32} (h : OpensNone O Q s t) : OpensNone O Q s (t.retire d status resS res) :=
  h.retire1.each (fun _ _ hu => hu.retire1.ite hu)

theorem OpensNone.report {e : SyncEntry} (h : OpensNone O Q s t) : OpensNone O Q s (t.report e) := by
  unfold State.report
  refine OpensNone.ite ?_ h
  have hsend : Frm 8891924496 t (t.sendOn 2 .twin (.streamSync [e])) := State.sendOn_frm (Sub.refl _) (Frm.refl _ t)
  have hrole := congrArg TwinSt.role (t.queueFrame_tellsHealth 2 .twin (.streamSync [e]) false 0)
  exact h.trans ⟨State.sendOn_good h.good, hrole, hsend .cfg (by decide), hsend .otp (by decide), fun g => congrArg GroupSt.frame (hsend.grpOf (by decide)),
    fun x => hsend.strmOf (x := x) (by decide) ▸ StreamSt.shuts_refl _⟩

theorem OpensNone.retireBuf {b : StreamBuf} (h : OpensNone O Q s t) : OpensNone O Q s (t.retireBuf x b) := by
  unfold State.retireBuf
  split
  · exact h
  · refine OpensNone.retire ?_
    have hdone : OpensNone O Q s (t.updStrm x (fun st =>
        { st.updBuf b.id (fun c => { c with done := true }) with retired := some ((b.held.getLast?.map (fun p => p.seq)).getD b.first) })) :=
      h.updStrm (fun _ => ⟨rfl, .inl rfl⟩)
    refine OpensNone.ite (OpensNone.report ?_) hdone
    exact hdone.trans ⟨good_mk hdone.good rfl rfl rfl rfl, rfl, rfl, rfl, fun _ => rfl, fun _ => StreamSt.shuts_refl _⟩

theorem OpensNone.retireEmpty {b : StreamBuf} {status : Nat} (h : OpensNone O Q s t) : OpensNone O Q s (t.retireEmpty x b status) := by
  unfold State.retireEmpty
  split
  · exact h
  · refine OpensNone.retire (h.updStrm ?_)
    exact fun _ => ⟨rfl, .inl rfl⟩

/-! ### Placing, lanes and buffers of a stream that settles -/

theorem OpensNone.countGap {p : Packet} {i : GapInfo} (h : OpensNone O Q s t) : OpensNone O Q s (t.countGap x p i) := by
  have hm := Sub.refl 16
  refine OpensNone.report (h.frm ?_ (State.setBit_frm hm (State.setReg64_frm hm (State.bump_frm hm (Frm.refl _ t)))) (by decide))
  exact State.setBit_good (State.setReg64_good (State.bump_good h.good))

theorem OpensNone.memWrite {region : Nat} (h : OpensNone O Q s t) : OpensNone O Q s (t.memWrite region) :=
  h.frm (State.memWrite_good h.good) (State.memWrite_frm (Sub.refl _) (Frm.refl _ t)) (by decide)

theorem OpensNone.overflowAt {p : Packet} (h : OpensNone O Q s t) : OpensNone O Q s (t.overflowAt x p) := by
  unfold State.overflowAt
  dsimp only
  split
  · exact h.setStrm ⟨rfl, .inr rfl⟩
  · exact h.setStrm ⟨rfl, .inr rfl⟩

theorem OpensNone.memoryGap {p : Packet} {rest : List Packet} {detail : Nat} (h : OpensNone O Q s t) : OpensNone O Q s (t.memoryGap x p rest detail) := by
  have hset : OpensNone O Q s (t.setBit (Reg.stream x 0) 13) := h.frm (State.setBit_good h.good) (State.setBit_frm (Sub.refl _) (Frm.refl _ t)) (by decide)
  unfold State.memoryGap
  dsimp only
  split
  · refine OpensNone.countGap (hset.setStrm ?_)
    exact ⟨rfl, .inl rfl⟩
  · refine hset.setStrm ?_
    exact ⟨rfl, .inl rfl⟩

theorem OpensNone.underInj {b : Bool} {f : State → State} (hf : ∀ u, OpensNone O Q s u → OpensNone O Q s (f u)) (h : OpensNone O Q s t) :
    OpensNone O Q s (t.underInj b f) := by
  have hflag : ∀ (v : Bool) (u : State), OpensNone O Q s u → OpensNone O Q s { u with injectedNow := v } := fun v u hu =>
    hu.trans ⟨good_mk hu.good rfl rfl rfl rfl, rfl, rfl, rfl, fun _ => rfl, fun _ => StreamSt.shuts_refl _⟩
  unfold State.underInj
  split
  · exact hflag _ _ (hf _ (hflag _ _ h))
  · exact hf _ h

theorem OpensNone.placeHead (h : OpensNone O Q s t) : OpensNone O Q s (t.placeHead x) := by
  unfold State.placeHead
  dsimp only
  split
  · exact h
  · refine OpensNone.ite h ?_
    split
    · refine OpensNone.countGap (h.setStrm ?_)
      exact ⟨rfl, .inl rfl⟩
    · split
      · exact h.overflowAt
      · next spill _ =>
        refine OpensNone.ite (OpensNone.underInj (fun u hu => hu.memoryGap) h.memWrite) (OpensNone.report ?_)
        have hplaced := h.memWrite (region := if spill then 2 else 1)
        have hsame : (t.memWrite (if spill then 2 else 1)).strmOf x = t.strmOf x := (State.memWrite_frm (Sub.refl _) (Frm.refl _ t)).strmOf (by decide)
        have hspill : ∀ u : State, Frm 4390928 u ((u.setBit (Reg.stream x 0) 14).hiveFit) := fun u =>
          State.hiveFit_frm ((Sub.refl 4390928).le (by decide)) (State.setBit_frm ((Sub.refl _).le (by decide)) (Frm.refl _ u))
        refine OpensNone.doIf (hplaced.setStrm ?_) ?_
        · exact hsame ▸ ⟨rfl, .inl rfl⟩
        · refine OpensNone.frm (hplaced.setStrm ?_) (State.hiveFit_good (State.setBit_good (State.setStrm_good hplaced.good))) (hspill _) (by decide)
          exact hsame ▸ ⟨rfl, .inl rfl⟩

theorem OpensNone.placeAll {f : Nat} : ∀ {t : State} {x : Nat}, OpensNone O Q s t → OpensNone O Q s (State.placeAll f t x) := by
  induction f with
  | zero => exact fun h => h
  | succ f ih =>
    intro t x h
    unfold State.placeAll
    split
    · exact (ih h.placeHead).ite h
    · exact h

theorem OpensNone.bufSettle {f : Nat} : ∀ {t : State} {x : Nat}, OpensNone O Q s t → OpensNone O Q s (State.bufSettle f t x) := by
  induction f with
  | zero => exact fun h => h
  | succ f ih =>
    intro t x h
    unfold State.bufSettle
    split
    · exact (ih (h.retireEmpty.ite h.retireBuf)).ite h
    · exact h

/-- A change of the compression engine that keeps its lanes' number. -/
theorem OpensNone.withComp {f : CompSt} (h : OpensNone O Q s t) (hlanes : f.lanes.length = t.comp.lanes.length) : OpensNone O Q s { t with comp := f } :=
  h.trans ⟨good_mk h.good rfl rfl rfl hlanes, rfl, rfl, rfl, fun _ => rfl, fun _ => StreamSt.shuts_refl _⟩

theorem OpensNone.takeSeg {d : Desc} {j : JobSt} {n : Nat} (h : OpensNone O Q s t) : OpensNone O Q s (t.takeSeg d j n) := by
  have hstart : OpensNone O Q s (t.segStart d j) := OpensNone.ite (h.withComp rfl) h
  obtain ⟨c, -, -, hfails⟩ | ⟨lane, htakes⟩ := t.takeSeg_cases d j n
  · rw [hfails]
    exact (hstart.withComp (List.length_map _)).retire
  · rw [htakes]
    exact (hstart.withComp List.length_set).withComp rfl

theorem OpensNone.assignAll (h : OpensNone O Q s t) : OpensNone O Q s t.assignAll :=
  State.assignAll_keeps (P := OpensNone O Q s) (fun _ _ _ _ hu => (hu.withComp List.length_set).updStrm (fun _ => ⟨rfl, .inl rfl⟩)) (fun _ _ _ _ hu _ _ => hu.takeSeg) h

theorem OpensNone.streamSettle (h : OpensNone O Q s t) : OpensNone O Q s (t.streamSettle x) := h.assignAll.placeAll.bufSettle

/-! ### Streams close (R147) -/

theorem OpensNone.closePacket (h : OpensNone O Q s t) : OpensNone O Q s (t.closePacket x) := by
  unfold State.closePacket
  dsimp only
  split
  · exact h
  · refine h.ite (OpensNone.ite (h.setStrm ?_) (OpensNone.streamSettle (h.setStrm ?_)))
    · exact ⟨rfl, .inr rfl⟩
    · exact ⟨rfl, .inr rfl⟩

theorem OpensNone.closeOne (h : OpensNone O Q s t) : OpensNone O Q s (t.closeStreams [x]) := by
  refine OpensNone.ite (h.updStrm ?_) h.closePacket
  exact fun _ => ⟨rfl, .inl rfl⟩

theorem OpensNone.closeStreams {xs : List Nat} (h : OpensNone O Q s t) : OpensNone O Q s (t.closeStreams xs) := h.each (fun _ _ hu => hu.closeOne)

/-- Closing a stream places nothing: a cut of the partner is awaited, the configuration is BAD, or no packet is open. -/
def State.restsAt (s : State) (x : Nat) : Prop :=
  (s.isStandby || (s.strmOf x).awaitCut.isSome) = true ∨ s.cfg.bad = true ∨ (s.strmOf x).openPkt = none

theorem OpensNone.isStandby (h : OpensNone O Q s t) : t.isStandby = s.isStandby := by
  unfold State.isStandby
  rw [h.role]

theorem State.restsAt.keeps (hrests : s.restsAt x) (h : OpensNone O Q s t) : t.restsAt x := by
  obtain ⟨hcut, hopen⟩ := h.streams x
  unfold State.restsAt at *
  rw [h.isStandby, hcut, h.cfg]
  exact hrests.imp_right (Or.imp_right (fun hnone => hopen.elim (fun hkeep => hkeep.trans hnone) id))

theorem State.closePacket_rests (h : Good O Q s) (hcut : (s.strmOf x).awaitCut = none) : (s.closePacket x).restsAt x := by
  by_cases hbad : s.cfg.bad = true
  · exact .inr (.inl (by rw [(OpensNone.refl h).closePacket.cfg]; exact hbad))
  · have hset : ∀ v : StreamSt, v.openPkt = none → ((s.setStrm x v).strmOf x).openPkt = none := fun v hv => by rw [State.strmOf_setStrm_self h, hv]
    unfold State.closePacket
    dsimp only
    split
    · next hnone => exact .inr (.inr hnone)
    · simp only [hbad, hcut, Option.isSome_none, Bool.or_self, Bool.false_eq_true, if_false]
      split
      · exact .inr (.inr (hset _ rfl))
      · exact State.restsAt.keeps (.inr (.inr (hset _ rfl))) (OpensNone.refl (State.setStrm_good h)).streamSettle

theorem State.closeOne_rests (h : Good O Q s) : (s.closeStreams [x]).restsAt x := by
  by_cases hcut : (s.isStandby || (s.strmOf x).awaitCut.isSome) = true
  · exact State.restsAt.keeps (.inl hcut) (OpensNone.refl h).closeOne
  · have hclose : s.closeStreams [x] = s.closePacket x := if_neg hcut
    rw [hclose]
    simp only [Bool.or_eq_true, not_or, Bool.not_eq_true, Option.isSome_eq_false_iff, Option.isNone_iff_eq_none] at hcut
    exact State.closePacket_rests h hcut.2

theorem State.closeStreams_rests {xs : List Nat} (h : Good O Q s) (hx : x ∈ xs) : (s.closeStreams xs).restsAt x := by
  induction xs generalizing s with
  | nil => exact absurd hx List.not_mem_nil
  | cons y ys ih =>
    have hone : OpensNone O Q s (s.closeStreams [y]) := (OpensNone.refl h).closeOne
    by_cases hy : x ∈ ys
    · exact ih hone.good hy
    · obtain rfl : x = y := (List.mem_cons.mp hx).resolve_right hy
      have hrest : OpensNone O Q (s.closeStreams [x]) ((s.closeStreams [x]).closeStreams ys) := (OpensNone.refl hone.good).closeStreams
      exact State.restsAt.keeps (State.closeOne_rests h) hrest

/-- A stream that rests stays as it is when it is closed, but for a split that a standby notes; the Hive is left alone. -/
theorem State.restsAt.closeOne_hiveLost (hrests : s.restsAt x) : (s.closeStreams [x]).hiveLost = s.hiveLost := by
  by_cases hcut : (s.isStandby || (s.strmOf x).awaitCut.isSome) = true
  · have hsplit : s.closeStreams [x] = s.updStrm x (fun st => { st with split := true }) := if_pos hcut
    rw [hsplit]
    rfl
  · have hclose : s.closeStreams [x] = s.closePacket x := if_neg hcut
    have hsame : s.closePacket x = s := by
      unfold State.closePacket
      dsimp only
      split
      · rfl
      · next hopen => exact if_pos (by rw [(hrests.resolve_left hcut).resolve_right (by simp [hopen]), Bool.true_or])
    rw [hclose, hsame]

/-! ### Groups of an adoption (R236) -/

/-- Losses of a group touch nothing in the Hive: they wait for a frame that converts, or every stream of the group rests. -/
def State.groupRests (s : State) (g : Nat) : Prop :=
  (s.grpOf g).frame.any (fun f => !f.undelivered) = true ∨ ∀ x ∈ s.streamsOf g, s.restsAt x

theorem OpensNone.streamsOf (h : OpensNone O Q s t) : t.streamsOf g = s.streamsOf g := by
  have hcfgv : t.cfgv = s.cfgv := by
    funext a b c
    simp only [State.cfgv, h.cfg, h.otp]
  unfold State.streamsOf State.cfgOn
  rw [hcfgv]

theorem State.groupRests.keeps (hrests : s.groupRests g) (h : OpensNone O Q s t) : t.groupRests g := by
  unfold State.groupRests at *
  rw [h.frames, h.streamsOf]
  exact hrests.imp_right (fun hall x hx => (hall x hx).keeps h)

/-- The hub with its losses of group g ended by the epoch. -/
def State.endLosses (s : State) (g : Nat) : State :=
  let n := s.nextFrame g
  let ep := s.epoch
  s.each (s.streamsOf g) (fun x t =>
    t.updStrm x (fun st => { st with losses := st.losses.map (fun l => { l with until_ := l.until_.orElse (fun _ => some n), epoch := l.epoch.orElse (fun _ => some ep) }) }))

theorem State.adoptStreams_eq (s : State) (g : Nat) : s.adoptStreams g =
    if ((s.endLosses g).grpOf g).frame.any (fun f => !f.undelivered) then (s.endLosses g).updGrp g (fun x => { x with closeDue := true })
    else (s.endLosses g).closeStreams ((s.endLosses g).streamsOf g) := rfl

theorem OpensNone.endLosses (h : OpensNone O Q s t) : OpensNone O Q s (t.endLosses g) := by
  refine OpensNone.each (fun y u hu => hu.updStrm ?_) h
  exact fun _ => ⟨rfl, .inl rfl⟩

theorem OpensNone.adoptStreams (h : OpensNone O Q s t) : OpensNone O Q s (t.adoptStreams g) := by
  rw [State.adoptStreams_eq]
  exact OpensNone.ite (h.endLosses.updGrp (fun _ => rfl)) h.endLosses.closeStreams

theorem State.adoptStreams_rests (h : Good O Q s) : (s.adoptStreams g).groupRests g := by
  have hended : OpensNone O Q s (s.endLosses g) := (OpensNone.refl h).endLosses
  rw [State.adoptStreams_eq]
  split
  · next hconverts =>
    refine .inl ?_
    rw [State.grpOf_updGrp hended.good, if_pos rfl]
    exact hconverts
  · refine .inr (fun x hx => ?_)
    rw [(OpensNone.refl hended.good).closeStreams.streamsOf] at hx
    exact State.closeStreams_rests hended.good hx

theorem OpensNone.renumberLosses {endK : Option Nat} {start : Nat} (h : OpensNone O Q s t) : OpensNone O Q s (t.renumberLosses g endK start) :=
  h.each (fun _ _ hu => hu.updStrm (fun _ => ⟨rfl, .inl rfl⟩))

theorem OpensNone.startGroup {at_ : Tq} (h : OpensNone O Q s t) : OpensNone O Q s (t.startGroup g at_) := by
  have hanew : OpensNone O Q s (t.groupAnewDue g) := by
    have hreset : ∀ u : State, Frm 1581056 u (u.groupAnew g) := fun u => State.groupAnew_frm (Sub.refl _) (Frm.refl _ u)
    exact OpensNone.ite (h.updGrp (fun _ => rfl)) (h.frm (State.groupAnew_good h.good) (hreset t) (by decide))
  unfold State.startGroup
  dsimp only
  refine OpensNone.ite (OpensNone.updGrp (OpensNone.updGrp (OpensNone.doIf hanew hanew.renumberLosses) ?_) ?_)
    (OpensNone.updGrp (OpensNone.updGrp (OpensNone.doIf hanew hanew.renumberLosses) ?_) ?_) <;> exact fun _ => rfl

/-- One stream of a group loses frames from now on. -/
def State.loseOne (s : State) (cause detail bK : Nat) (bT : Tq) (x : Nat) : State :=
  (s.closeStreams [x]).updStrm x (fun st => if detail = adoptionDetail then st.adoptionLoss bK bT else st.beginLoss cause detail bK bT)

theorem StreamSt.beginLoss_shuts (a : StreamSt) (cause detail bK : Nat) (bT : Tq) : a.shuts (a.beginLoss cause detail bK bT) := by
  unfold StreamSt.beginLoss
  split
  · exact ⟨rfl, .inl rfl⟩
  · dsimp only
    split
    · exact a.shuts_refl
    · exact ⟨rfl, .inl rfl⟩

theorem OpensNone.loseOne {cause detail bK : Nat} {bT : Tq} (h : OpensNone O Q s t) : OpensNone O Q s (t.loseOne cause detail bK bT x) := by
  refine h.closeOne.updStrm (fun a => ?_)
  split
  · exact ⟨rfl, .inl rfl⟩
  · exact a.beginLoss_shuts _ _ _ _

theorem State.each_loseOne_hiveLost {cause detail bK : Nat} {bT : Tq} {xs : List Nat} (h : Good O Q s) (hrests : ∀ x ∈ xs, s.restsAt x) :
    (s.each xs (fun x u => u.loseOne cause detail bK bT x)).hiveLost = s.hiveLost := by
  induction xs generalizing s with
  | nil => rfl
  | cons x xs ih =>
    obtain ⟨hx, hxs⟩ := List.forall_mem_cons.mp hrests
    have hone : OpensNone O Q s (s.loseOne cause detail bK bT x) := (OpensNone.refl h).loseOne
    exact (ih hone.good (fun y hy => (hxs y hy).keeps hone)).trans hx.closeOne_hiveLost

theorem OpensNone.loseGroup {cause detail bK : Nat} {bT : Tq} (h : OpensNone O Q s t) : OpensNone O Q s (t.loseGroup g cause detail bK bT) := by
  have hnow : OpensNone O Q s (t.loseNow g cause detail bK bT) := h.each (fun _ _ hu => hu.loseOne)
  unfold State.loseGroup
  split
  · exact hnow.ite (h.updGrp (fun _ => rfl))
  · exact hnow

theorem State.groupRests.loseGroup_hiveLost {cause detail bK : Nat} {bT : Tq} (hrests : s.groupRests g) (h : Good O Q s) :
    (s.loseGroup g cause detail bK bT).hiveLost = s.hiveLost := by
  have hnow : (s.grpOf g).frame.any (fun f => !f.undelivered) = false → (s.loseNow g cause detail bK bT).hiveLost = s.hiveLost := fun hidle =>
    State.each_loseOne_hiveLost h (hrests.resolve_left (by simp [hidle]))
  unfold State.loseGroup
  split
  · next f hf =>
    split
    · next hlost => exact hnow (by simp [hf, hlost])
    · rfl
  · next hf => exact hnow (by simp [hf])

/-- The hub whose captures of group g keep the grid of the epoch that ends; the group knows none of it. -/
def State.regrids (s : State) (g : Nat) : State :=
  let grids := s.gridSpans g
  let spans := (s.grpOf g).spans
  ({ s with mantis := { s.mantis with jobs := s.mantis.jobs.map (fun j => if j.group = g ∧ j.grids = none then { j with grids := some grids, spans := spans } else j) } } : State).updGrp g
    (fun x => { x with spans := [], oldGrids := [] })

theorem State.adoptGroup_eq (s : State) (g : Nat) : s.adoptGroup g =
    if Look.scheduled s.cfgv g = true ∧ (((s.regrids g).grpOf g).mode = .waitingStart ∨ ((s.regrids g).grpOf g).mode = .running) then
      (((s.regrids g).stopGroup g .stopped).startGroup g (s.regrids g).now).loseGroup g 3 adoptionDetail
        (Look.firstK s.cfgv g (((s.regrids g).stopGroup g .stopped).startGroup g (s.regrids g).now).now) (((s.regrids g).stopGroup g .stopped).startGroup g (s.regrids g).now).now
    else s.regrids g := rfl

theorem OpensNone.regrids (h : OpensNone O Q s t) : OpensNone O Q s (t.regrids g) := by
  have hjobs : ∀ jobs : List CapJob, OpensNone O Q s { t with mantis := { t.mantis with jobs := jobs } } := fun jobs =>
    h.trans ⟨good_mk h.good rfl rfl rfl rfl, rfl, rfl, rfl, fun _ => rfl, fun _ => StreamSt.shuts_refl _⟩
  unfold State.regrids
  exact (hjobs _).updGrp (by exact fun _ => rfl)

theorem State.restartGroup_changes (s : State) (g : Nat) (at_ : Tq) : Frm 1613856 s ((s.stopGroup g .stopped).startGroup g at_) :=
  State.startGroup_frm ((Sub.refl _).le (by decide)) (State.stopGroup_frm ((Sub.refl _).le (by decide)) (Frm.refl _ s))

theorem State.groupRests.adoptGroup (hrests : s.groupRests g) (h : Good O Q s) : OpensNone O Q s (s.adoptGroup g) ∧ (s.adoptGroup g).hiveLost = s.hiveLost := by
  have hanew : OpensNone O Q s (s.regrids g) := (OpensNone.refl h).regrids
  rw [State.adoptGroup_eq]
  split
  · have hstop : OpensNone O Q s ((s.regrids g).stopGroup g .stopped) := hanew.updGrp (fun _ => rfl)
    have hbegun : OpensNone O Q s (((s.regrids g).stopGroup g .stopped).startGroup g (s.regrids g).now) := hstop.startGroup
    exact ⟨hbegun.loseGroup, ((hrests.keeps hbegun).loseGroup_hiveLost hbegun.good).trans ((s.regrids g).restartGroup_changes g _ .hiveLost (by decide))⟩
  · exact ⟨hanew, rfl⟩

/-! ### Offsets, steps and adoptions (R228, R234 to R236) -/

theorem roundHalfEven_twice (v : Int) : roundHalfEven (2 * v) 2 = v := by
  have hnear := roundHalfEven_nearest (2 * v) (den := 2) (by decide)
  omega

/-- Over a line of the same delay both ways an exchange gives offset and delay. -/
theorem State.ffTheta_even {p : Nat} {t1 t2 t3 t4 : Tq} {off delay : Int} (hasym : s.cfgInt Fld.fireflyAsymPs p = 0) (hthere : (t2 : Int) = t1 + delay + off)
    (hback : (t4 : Int) = t3 + delay - off) : s.ffTheta p t1 t2 t3 t4 = (off, delay) := by
  have hnone : roundHalfEven (s.cfgInt Fld.fireflyAsymPs p * 65536) 1000 = 0 := by rw [hasym]; rfl
  have hoff : (t2 : Int) - t1 - (t4 - t3) - 0 = 2 * off := by omega
  have hdelay : (t2 : Int) - t1 + (t4 - t3) = 2 * delay := by omega
  unfold State.ffTheta
  dsimp only
  rw [hnone, hoff, hdelay, roundHalfEven_twice, roundHalfEven_twice]

/-- The hub with its count moved by d and its servo anew, before anything reckons with the step. -/
def State.stepped (s : State) (d : Int) : State :=
  { s.slewBy 0 0 with tm := { (s.slewBy 0 0).tm with count := (((s.slewBy 0 0).tm.count : Int) + d * 65536).toNat }, ff := { (s.slewBy 0 0).ff with integral := 0 } }

theorem State.stepped_leaves (s : State) (d : Int) :
    (s.stepped d).tm.count = ((s.tm.count : Int) + d * 65536).toNat ∧ (s.stepped d).tm.slewLen = 0 ∧ (s.stepped d).ff = { s.ff with integral := 0 } := ⟨rfl, rfl, rfl⟩

theorem State.ffStep_changes (s : State) (d : Int) : Frm 8396573212720 (s.stepped d) (s.ffStep d) := by
  have hm := Sub.refl 8396573212720
  have hcounted : Frm 8396573212720 (s.stepped d) ((((s.stepped d).bump 0x48020).setReg 0x48024 (satWord (roundHalfEven d 65536))).setBit Reg.ffStatus 9) :=
    State.setBit_frm (hm.le (by decide)) (State.setReg_frm (hm.le (by decide)) (State.bump_frm (hm.le (by decide)) (Frm.refl _ _)))
  exact State.afterStep_frm (hm.le (by decide)) (State.doIf_frm hcounted (State.raise_frm (hm.le (by decide)) hcounted))

theorem State.inEpoch_quiet (h : Good O Q s) (epoch : BitVec 16) (t : Tq) : OpensNone O Q s (s.inEpoch epoch t) :=
  ⟨good_hiveLost (State.setCount_good (State.slewBy_good h)), rfl, rfl, rfl, fun _ => rfl, fun _ => StreamSt.shuts_refl _⟩

/-- Once an epoch's end has closed the streams of both groups, nothing enters the record of lost history while they start anew. -/
theorem State.groupsAdopt_hiveLost (hfirst : s.groupRests 0) (hsecond : s.groupRests 1) (h : Good O Q s) : s.groupsAdopt.hiveLost = s.hiveLost ∧ Good O Q s.groupsAdopt := by
  have hframe : Frm 16400 s (s.mainsHole s.mainsGroup) := State.mainsHole_frm (Sub.refl _) (Frm.refl _ s)
  have hmains : OpensNone O Q s (s.mainsHole s.mainsGroup) := (OpensNone.refl h).frm (State.mainsHole_good h) hframe (by decide)
  obtain ⟨hzero, hlost⟩ := (hfirst.keeps hmains).adoptGroup hmains.good
  obtain ⟨hone, hlost'⟩ := ((hsecond.keeps hmains).keeps hzero).adoptGroup hzero.good
  exact ⟨hlost'.trans (hlost.trans (hframe .hiveLost (by decide))), hone.good⟩

theorem State.edgesAdopt_good {old : Tq} (h : Good O Q s) : Good O Q (s.edgesAdopt old) :=
  State.each_good (State.pulseStopAll_good (State.adoptCaptures_good h)) (fun _ _ hu => State.updPulse_good hu)

/-- An adoption empties the record of lost history and sets its bit of FF_STATUS. -/
theorem State.adopt_reports (h : Good O Q s) (epoch : BitVec 16) (t : Tq) : (s.adopt epoch t).hiveLost = [] ∧ (s.adopt epoch t).bit Reg.ffStatus 10 = true := by
  have hstats : Good O Q (s.each (List.range 512) (fun i a => (a.statNow a.cfgv i).updStats i (fun c => c.closeShort a.nowNs none))) :=
    State.each_good h (fun _ _ hu => State.updStats_good (State.statNow_good hu))
  have hfirst := (OpensNone.refl hstats).adoptStreams (g := 0)
  have hsecond := (OpensNone.refl hfirst.good).adoptStreams (g := 1)
  have hin := s.epochEnds.inEpoch_quiet hsecond.good epoch t
  obtain ⟨hlost, hgood⟩ := State.groupsAdopt_hiveLost (((State.adoptStreams_rests hstats).keeps hsecond).keeps hin) ((State.adoptStreams_rests hfirst.good).keeps hin) hin.good
  have hreport : ∀ u : State, Frm 1649804312592 u ((u.setBit Reg.ffStatus 10).raise (errAt 0 Reg.ffStatus 10 0xFFFF)) := fun u =>
    State.raise_frm (Sub.refl _) (State.setBit_frm ((Sub.refl _).le (by decide)) (Frm.refl _ u))
  rw [State.adopt_eq]
  refine ⟨?_, ?_⟩
  · exact (hreport _ .hiveLost (by decide)).trans ((State.edgesAdopt_changes _ _ .hiveLost (by decide)).trans hlost)
  · rw [State.bit, State.raise_reg (by unfold quietReg Reg.ffStatus; omega)]
    exact State.setBit_bit (State.edgesAdopt_good hgood) (by decide)

/-- Settles O27: a step and an adoption by what they leave before the rest of the hub reckons with them, and an exchange by ffTheta_even. -/
theorem offsetsAreMeasuredAndTakenAsSteps : Obligations.OffsetsAreMeasuredAndTakenAsSteps := by
  intro s hwf
  refine ⟨fun d => ?step, fun epoch t => ?adoption, fun p t1 t2 t3 t4 off delay => State.ffTheta_even⟩
  case step =>
    obtain ⟨hcount, hslew, hff⟩ := s.stepped_leaves d
    have htm : (s.ffStep d).tm = (s.stepped d).tm := s.ffStep_changes d .tm (by decide)
    have hservo : (s.ffStep d).ff = { s.ff with integral := 0 } := (s.ffStep_changes d .ff (by decide)).trans hff
    rw [State.epoch, htm, hservo]
    exact ⟨hcount, hslew, rfl, rfl, rfl, rfl⟩
  case adoption =>
    obtain ⟨hff, hcount, hslew⟩ := s.adopt_leaves epoch t
    obtain ⟨hlost, hbit⟩ := State.adopt_reports (good_of_wf hwf) epoch t
    rw [State.epoch, hff]
    exact ⟨rfl, hcount, hslew, hlost, hbit, rfl⟩

end Sys2Proof.Machine
end

section
/-! PROOFS. Sync exchanges at a port: what sending leaves of Firefly's ports, what a SYNC of the parent starts, and how an exchange ends (R222 to R229, R235, R238). -/

namespace Sys2Proof.Machine

open Sys2Proof

set_option Elab.async false

variable {O : OtpSt} {Q : List Instr} {s t u : State} {m n p q : Nat}

/-! ### What sending leaves of Firefly's ports (R226) -/

/-- b is the exchange a, whose DELAY_REQ may have left since. -/
def ExchSt.stamped (a b : ExchSt) : Prop := b = { a with t3 := b.t3, retry := b.retry }

theorem ExchSt.stamped_trans {a b c : ExchSt} (h : a.stamped b) (k : b.stamped c) : a.stamped c :=
  Eq.trans k (congrArg (fun e : ExchSt => { e with t3 := c.t3, retry := c.retry }) h)

theorem ExchSt.stamped_sent (a : ExchSt) (i : BitVec 16) (at_ : Tq) (retry : Bool) : a.stamped (a.sent i at_ retry) := by
  unfold ExchSt.sent
  split <;> rfl

/-- t keeps the invariant, and differs from s in Firefly's ports at most in when the requests of exchanges left. -/
structure Stamps (O : OtpSt) (Q : List Instr) (s t : State) : Prop where
  good : Good O Q t
  ports : ∀ q, t.ffPortOf q = { s.ffPortOf q with exch := (t.ffPortOf q).exch }
  exchanges : ∀ q, List.Forall₂ ExchSt.stamped (s.ffPortOf q).exch (t.ffPortOf q).exch

theorem Stamps.refl (h : Good O Q s) : Stamps O Q s s := ⟨h, fun _ => rfl, fun _ => List.forall₂_same.mpr (fun _ _ => rfl)⟩

theorem forall₂_stamped_trans {a b c : List ExchSt} (h : List.Forall₂ ExchSt.stamped a b) (k : List.Forall₂ ExchSt.stamped b c) : List.Forall₂ ExchSt.stamped a c := by
  induction h generalizing c with
  | nil => exact k
  | cons hab _ ih =>
    cases k with
    | cons hbc hrest => exact .cons (ExchSt.stamped_trans hab hbc) (ih hrest)

theorem Stamps.trans (h : Stamps O Q s t) (k : Stamps O Q t u) : Stamps O Q s u :=
  ⟨k.good, fun q => (k.ports q).trans (congrArg (fun f : FfPortSt => { f with exch := (u.ffPortOf q).exch }) (h.ports q)),
    fun q => forall₂_stamped_trans (h.exchanges q) (k.exchanges q)⟩

theorem Stamps.same (h : Stamps O Q s t) (hgood : Good O Q u) (hports : u.ffPort = t.ffPort) : Stamps O Q s u := by
  have hof : ∀ q, u.ffPortOf q = t.ffPortOf q := fun q => congrArg (fun c => Cells.get (fun _ => FfPortSt.init) c q) hports
  exact h.trans ⟨hgood, fun q => by rw [hof], fun q => hof q ▸ List.forall₂_same.mpr (fun _ _ => rfl)⟩

theorem Stamps.setLink {l : LinkSt} (h : Stamps O Q s t) : Stamps O Q s (t.setLink p l) := h.same (State.setLink_good h.good) rfl

theorem Stamps.bump {a : Nat} (h : Stamps O Q s t) : Stamps O Q s (t.bump a) := h.same (State.bump_good h.good) rfl

theorem Stamps.stampReq {body : TxBody} {retry : Bool} (h : Stamps O Q s t) : Stamps O Q s (t.stampReq p body retry) := by
  unfold State.stampReq
  split
  · next r =>
    refine h.trans ⟨State.updFfPort_good h.good, fun q => ?_, fun q => ?_⟩
    · by_cases hq : q = p
      · rw [hq, State.ffPortOf_updFfPort_self h.good]
      · rw [State.ffPortOf_updFfPort_other hq]
    · by_cases hq : q = p
      · rw [hq, State.ffPortOf_updFfPort_self h.good]
        exact List.forall₂_map_right_iff.mpr (List.forall₂_same.mpr (fun e _ => e.stamped_sent _ _ _))
      · rw [State.ffPortOf_updFfPort_other hq]
        exact List.forall₂_same.mpr (fun _ _ => rfl)
  · exact h

theorem Stamps.startNext (h : Stamps O Q s t) : Stamps O Q s (t.startNext p) := by
  unfold State.startNext
  split
  · exact h
  · split
    · dsimp only
      split
      · split
        · exact h.setLink.bump.stampReq
        · exact h.setLink
      · split
        · split
          · exact h.setLink.stampReq
          · exact h
        · exact h
    · dsimp only
      split
      · exact h.setLink
      · exact h

theorem Stamps.enqueue {cls : TxClass} {body : TxBody} {tsReq : Bool} {i : BitVec 16} (h : Stamps O Q s t) : Stamps O Q s (t.enqueue p cls body tsReq i) := h.setLink.startNext

theorem Stamps.tellLost (h : Stamps O Q s t) : Stamps O Q s (t.tellLost p) := by
  unfold State.tellLost
  split
  · exact (h.same (u := t.healthForm) (State.healthForm_good h.good) rfl).enqueue
  · exact h

theorem Stamps.sendOn {cls : TxClass} {body : TxBody} (h : Stamps O Q s t) : Stamps O Q s (t.sendOn p cls body) := by
  unfold State.sendOn State.queueFrame State.doIf
  split
  · exact h.enqueue
  · have hlost : Stamps O Q s (t.txLost p) := h.bump.setLink
    split
    · exact hlost.tellLost
    · exact hlost

theorem Stamps.txSeq (h : Stamps O Q s t) (q : Nat) : (t.ffPortOf q).txSeq = (s.ffPortOf q).txSeq := by
  have hport := congrArg FfPortSt.txSeq (h.ports q)
  exact hport

theorem Stamps.adoptRun (h : Stamps O Q s t) (q : Nat) : (t.ffPortOf q).adoptRun = (s.ffPortOf q).adoptRun := by
  have hport := congrArg FfPortSt.adoptRun (h.ports q)
  exact hport

/-! ### SYNC_INTERVAL (R224, R226) -/

/-- One SYNC leaves on a port. -/
def State.syncOut (s : State) (p : Nat) : State :=
  (s.updFfPort p (fun x => { x with txSeq := x.txSeq + 1 })).sendOn p .firefly (.sync (s.ffSyncMsg p))

/-- A port that sends SYNCs: in service, and not the parent in use; TWIN sends them in every case. -/
def State.syncsOn (s : State) (p : Nat) : Bool := s.inService p && (decide (p = 2) || s.ffRoot || decide (p ≠ s.ffInUse))

/-- The hub with one sync interval more since its last change of parent. -/
def State.intervalPast (s : State) : State := s.withFf { s.ff with sinceSwitch := s.ff.sinceSwitch + 1 }

theorem execSyncInterval_set (hset : s.epoch ≠ 0xFFFF) :
    exec .syncInterval s = .next (s.intervalPast.each ([0, 1, 2].filter s.syncsOn) (fun p t => t.syncOut p)) := if_neg hset

theorem State.syncOut_good (h : Good O Q s) : Good O Q (s.syncOut p) := State.sendOn_good (State.updFfPort_good h)

theorem State.syncOut_txSeq (h : Good O Q s) : ((s.syncOut p).ffPortOf q).txSeq = if q = p then (s.ffPortOf q).txSeq + 1 else (s.ffPortOf q).txSeq := by
  rw [State.syncOut, (Stamps.refl (State.updFfPort_good h)).sendOn.txSeq]
  split
  · next hq => rw [hq, State.ffPortOf_updFfPort_self h]
  · next hq => rw [State.ffPortOf_updFfPort_other hq]

theorem State.each_syncOut_txSeq {ps : List Nat} (hps : ps.Nodup) : ∀ {s : State}, Good O Q s →
    ((s.each ps (fun p t => t.syncOut p)).ffPortOf q).txSeq = if q ∈ ps then (s.ffPortOf q).txSeq + 1 else (s.ffPortOf q).txSeq := by
  induction ps with
  | nil => exact fun _ => rfl
  | cons p ps ih =>
    intro s h
    obtain ⟨hp, hps⟩ := List.nodup_cons.mp hps
    refine (ih hps (State.syncOut_good (p := p) h)).trans ?_
    rw [State.syncOut_txSeq h]
    by_cases hq : q = p
    · subst hq
      simp [hp]
    · simp [hq]

theorem State.each_syncOut_tells (ps : List Nat) : ∀ s : State, TellsHealth s (s.each ps (fun p t => t.syncOut p)) := by
  induction ps with
  | nil => exact fun _ => rfl
  | cons p ps ih =>
    intro s
    have hone : TellsHealth s (s.syncOut p) := State.queueFrame_tellsHealth (s.updFfPort p _) p .firefly _ false 0
    exact hone.trans (ih _)

theorem State.each_syncOut_changes (s : State) (ps : List Nat) : Frm 8891924496 s (s.each ps (fun p t => t.syncOut p)) := by
  have hm := Sub.refl 8891924496
  exact State.each_frm (Frm.refl _ s) (fun p t ht => State.sendOn_frm hm (State.updFfPort_frm (hm.le (by decide)) ht))

theorem State.intervalPast_ffPortOf (s : State) (p : Nat) : s.intervalPast.ffPortOf p = s.ffPortOf p := rfl

/-- At a sync interval a SYNC leaves on every port that sends them; nothing but the ports and what they report changes. -/
theorem execSyncInterval_leaves (h : Good O Q s) (hset : s.epoch ≠ 0xFFFF) : Runs .syncInterval s (fun u => u.ff = { s.ff with sinceSwitch := s.ff.sinceSwitch + 1 }
    ∧ (∀ p, p ≤ 2 → (u.ffPortOf p).txSeq = if s.syncsOn p then (s.ffPortOf p).txSeq + 1 else (s.ffPortOf p).txSeq)
    ∧ u.twin = { s.twin with mine := u.twin.mine, resync := u.twin.resync } ∧ s.keepsBut [.regs, .ff, .ffPort, .link, .twin] u) := by
  have hchanges := s.intervalPast.each_syncOut_changes ([0, 1, 2].filter s.syncsOn)
  refine ⟨_, execSyncInterval_set hset, hchanges .ff (by decide), fun p hp => ?_, State.each_syncOut_tells _ s.intervalPast, ?_⟩
  · have hmem : p ∈ [0, 1, 2].filter s.syncsOn ↔ s.syncsOn p = true := by
      rw [List.mem_filter]
      exact and_iff_right (by simp only [List.mem_cons, List.not_mem_nil, or_false]; omega)
    have hpast : Good O Q s.intervalPast := State.withFf_good h
    rw [State.each_syncOut_txSeq ((by decide : [0, 1, 2].Nodup).filter _) hpast, State.intervalPast_ffPortOf]
    simp only [hmem]
  · have hm := Sub.refl 8908701712
    exact (((s.withFf_changes _).mono (hm.le (by decide))).trans (hchanges.mono (hm.le (by decide)))).keepsParts (by decide)

/-! ### An accepted frame of an exchange -/

theorem State.rxAccept_ffPortOf (s : State) (p q : Nat) : (s.rxAccept p).ffPortOf q = s.ffPortOf q := (s.rxAccept_changes p).ffPortOf (by decide)

theorem State.rxAccept_ff (s : State) (p : Nat) : (s.rxAccept p).ff = s.ff := s.rxAccept_changes p .ff (by decide)

theorem State.rxAccept_epoch (s : State) (p : Nat) : (s.rxAccept p).epoch = s.epoch := congrArg FfSt.epoch (s.rxAccept_changes p .ff (by decide))

theorem State.rxAccept_now (s : State) (p : Nat) : (s.rxAccept p).now = s.now := congrArg (fun c : TimeSt => c.count / 65536) (s.rxAccept_changes p .tm (by decide))

theorem Frm.ffRoot (h : Frm m s t) (hcfg : m.testBit 32 = false) (hotp : m.testBit 1 = false) : t.ffRoot = s.ffRoot := by
  unfold State.ffRoot
  rw [h.cfgv hcfg hotp]

theorem Frm.ffInUse (h : Frm m s t) (hff : m.testBit 24 = false) (hcfg : m.testBit 32 = false) (hotp : m.testBit 1 = false) : t.ffInUse = s.ffInUse := by
  have hrecord : t.ff = s.ff := h .ff hff
  unfold State.ffInUse State.ffParent
  rw [h.ffAlt hcfg hotp, h.cfgv hcfg hotp, hrecord]

theorem Frm.ffTheta {t1 t2 t3 t4 : Tq} (h : Frm m s t) (hcfg : m.testBit 32 = false) (hotp : m.testBit 1 = false) : t.ffTheta p t1 t2 t3 t4 = s.ffTheta p t1 t2 t3 t4 := by
  unfold State.ffTheta State.cfgInt
  rw [h.cfgv hcfg hotp]

theorem Frm.injOf {target action index : Nat} (h : Frm m s t) (hinj : m.testBit 41 = false) : t.injOf target action index = s.injOf target action index := by
  have hsame : t.inj = s.inj := h .inj hinj
  rw [State.injOf, hsame, State.injOf]

theorem State.rxAccept_ffRoot (s : State) (p : Nat) : (s.rxAccept p).ffRoot = s.ffRoot := (s.rxAccept_changes p).ffRoot (by decide) (by decide)

theorem State.rxAccept_ffInUse (s : State) (p : Nat) : (s.rxAccept p).ffInUse = s.ffInUse := (s.rxAccept_changes p).ffInUse (by decide) (by decide) (by decide)

/-! ### DELAY_REQ (R224, R226) -/

theorem execDelayReq_answers {p : Port} {r : DelayReq} (hservice : s.inService (pidx p) = true) (hset : s.epoch ≠ 0xFFFF) :
    exec (.delayReq p r) s = .next ((s.rxAccept (pidx p)).sendOn (pidx p) .firefly (.delayResp ⟨r.seqId, s.epoch, s.now, r.retry⟩)) := by
  refine (if_neg (by simp [hservice])).trans ((if_neg (by rwa [State.rxAccept_epoch])).trans ?_)
  rw [State.rxAccept_epoch, State.rxAccept_now]

theorem execDelayReq_unset {p : Port} {r : DelayReq} (hservice : s.inService (pidx p) = true) (hunset : s.epoch = 0xFFFF) :
    exec (.delayReq p r) s = .next (s.rxAccept (pidx p)) :=
  (if_neg (by simp [hservice])).trans (if_pos ((s.rxAccept_epoch _).trans hunset))

/-! ### SYNC (R223, R235, R238) -/

theorem execSync_ignored {p : Port} {r : SyncMsg} (hservice : s.inService (pidx p) = true) (h : 4094 ≤ r.hops.toNat ∨ r.epoch = 0xFFFF) :
    exec (.sync p r) s = .next (s.rxAccept (pidx p)) := (if_neg (by simp [hservice])).trans (if_pos h)

theorem execSync_parent {p : Port} {r : SyncMsg} (hservice : s.inService (pidx p) = true) (hmember : s.ffRoot = false) (hparent : pidx p = s.ffInUse)
    (hhops : r.hops.toNat < 4094) (hset : r.epoch ≠ 0xFFFF) :
    exec (.sync p r) s = .next (((s.rxAccept (pidx p)).ffFromParent (pidx p) r).ffStart (pidx p) r) := by
  refine (if_neg (by simp [hservice])).trans ((if_neg (fun hbad => hbad.elim (Nat.not_le.mpr hhops) hset)).trans ((if_neg ?_).trans (if_pos ?_)))
  · rw [State.rxAccept_ffRoot, hmember]
    decide
  · rw [State.rxAccept_ffInUse, hparent]

/-- A SYNC on a ROOT's line is a conflict, told once (R238). -/
theorem execSync_conflict {p : Port} {r : SyncMsg} (hservice : s.inService (pidx p) = true) (hroot : s.ffRoot = true) (hline : pidx p ≠ 2)
    (hhops : r.hops.toNat < 4094) (hset : r.epoch ≠ 0xFFFF) (hepoch : r.epoch = s.epoch) (htold : (s.ffPortOf (pidx p)).conflict = true) :
    exec (.sync p r) s = .next (((s.rxAccept (pidx p)).updFfPort (pidx p) (fun x => { x with adoptRun := 0 })).bump 0x48048) := by
  have hneighbour : (s.rxAccept (pidx p)).ffNeighbour (pidx p) r = (s.rxAccept (pidx p)).updFfPort (pidx p) (fun x => { x with adoptRun := 0 }) :=
    if_pos (hepoch.trans (s.rxAccept_epoch _).symm)
  refine (if_neg (by simp [hservice])).trans ((if_neg (fun hbad => hbad.elim (Nat.not_le.mpr hhops) hset)).trans ((if_pos ((s.rxAccept_ffRoot _).trans hroot)).trans ((if_neg hline).trans ?_)))
  dsimp only
  rw [State.rxAccept_ffPortOf, htold, if_pos rfl, hneighbour]

/-! ### The parent in use is heard (R231, R235) -/

/-- A hub that hears its parent is FREE no more. -/
def State.leavesFree (s : State) : State := if s.ff.mode = .free then s.ffMode .acquiring else s

/-- A SYNC of the parent in use is noted; run: the SYNCs in a row of another epoch. -/
def State.parentHeard (s : State) (p : Nat) (r : SyncMsg) (run : Nat) : State :=
  let s := s.leavesFree.updFfPort p (fun x => { x with adoptRun := run, parentMode := r.state.val, syncUp := some s.leavesFree.tm.up })
  s.withFf { s.ff with source := some (r.rootId, r.hops + 1), parentHold := decide (r.state.val = 3) }

theorem State.leavesFree_changes (s : State) : Frm 68736253968 s s.leavesFree := frm_ite (s.ffMode_changes .acquiring) (Frm.refl _ s)

theorem State.leavesFree_good (h : Good O Q s) : Good O Q s.leavesFree := good_ite (State.ffMode_good h) h

theorem State.leavesFree_epoch (s : State) : s.leavesFree.epoch = s.epoch := by
  unfold State.leavesFree
  split
  · rw [State.epoch, State.ffMode_ff]
    rfl
  · rfl

theorem State.leavesFree_mode (s : State) : s.leavesFree.ff.mode = if s.ff.mode = .free then .acquiring else s.ff.mode := by
  unfold State.leavesFree
  split
  · exact s.ffMode_mode _
  · rfl

theorem State.parentHeard_changes (s : State) (p : Nat) (r : SyncMsg) (run : Nat) : Frm 68769808400 s (s.parentHeard p r run) := by
  have hm := Sub.refl 68769808400
  exact (State.updFfPort_frm (hm.le (by decide)) (s.leavesFree_changes.mono (hm.le (by decide)))).trans ((State.withFf_changes _ _).mono (hm.le (by decide)))

theorem State.parentHeard_good {r : SyncMsg} {run : Nat} (h : Good O Q s) : Good O Q (s.parentHeard p r run) :=
  State.withFf_good (State.updFfPort_good (State.leavesFree_good h))

theorem State.parentHeard_ffPortOf {r : SyncMsg} {run : Nat} (h : Good O Q s) :
    (s.parentHeard p r run).ffPortOf p = { s.ffPortOf p with adoptRun := run, parentMode := r.state.val, syncUp := some s.leavesFree.tm.up } := by
  have hfree : s.leavesFree.ffPortOf p = s.ffPortOf p := s.leavesFree_changes.ffPortOf (by decide)
  rw [← hfree]
  exact ((State.withFf_changes _ _).ffPortOf (by decide)).trans (State.ffPortOf_updFfPort_self (State.leavesFree_good h))

theorem State.parentHeard_epoch (s : State) (p : Nat) (r : SyncMsg) (run : Nat) : (s.parentHeard p r run).epoch = s.epoch := s.leavesFree_epoch

theorem State.parentHeard_now (s : State) (p : Nat) (r : SyncMsg) (run : Nat) : (s.parentHeard p r run).now = s.now :=
  congrArg (fun c : TimeSt => c.count / 65536) (s.parentHeard_changes p r run .tm (by decide))

theorem State.parentHeard_mode (s : State) (p : Nat) (r : SyncMsg) (run : Nat) : (s.parentHeard p r run).ff.mode = if s.ff.mode = .free then .acquiring else s.ff.mode :=
  s.leavesFree_mode

theorem State.parentHeard_source (s : State) (p : Nat) (r : SyncMsg) (run : Nat) : (s.parentHeard p r run).ff.source = some (r.rootId, r.hops + 1) := rfl

/-- The SYNCs in a row of another epoch, counted with the one heard (R235). -/
def State.strangeRun (s : State) (p : Nat) (r : SyncMsg) : Nat := if r.epoch = s.leavesFree.epoch then 0 else (s.leavesFree.ffPortOf p).adoptRun + 1

theorem State.ffFromParent_eq (s : State) (p : Nat) (r : SyncMsg) : s.ffFromParent p r =
    if s.strangeRun p r ≠ 0 ∧ ((s.parentHeard p r (s.strangeRun p r)).epoch = 0xFFFF ∨ 3 ≤ s.strangeRun p r) then
      ((s.parentHeard p r (s.strangeRun p r)).updFfPort p (fun x => { x with adoptRun := 0 })).adopt r.epoch
        ((r.t1 : Int) + ((s.parentHeard p r (s.strangeRun p r)).ffPortOf p).delay).toNat
    else s.parentHeard p r (s.strangeRun p r) := rfl

theorem State.ffFromParent_sameEpoch {r : SyncMsg} (hepoch : r.epoch = s.epoch) : s.ffFromParent p r = s.parentHeard p r 0 := by
  have hrun : s.strangeRun p r = 0 := if_pos (hepoch.trans s.leavesFree_epoch.symm)
  rw [State.ffFromParent_eq, hrun]
  exact if_neg (fun h => h.1 rfl)

/-- A hub whose epoch is UNSET adopts its parent's at the first SYNC (R235). -/
theorem State.ffFromParent_unset {r : SyncMsg} (h : Good O Q s) (hunset : s.epoch = 0xFFFF) (hset : r.epoch ≠ 0xFFFF) : ∃ base,
    s.ffFromParent p r = State.adopt base r.epoch ((r.t1 : Int) + (s.ffPortOf p).delay).toNat := by
  have hrun : s.strangeRun p r ≠ 0 := by
    have hother : r.epoch ≠ s.leavesFree.epoch := by rwa [s.leavesFree_epoch, hunset]
    rw [State.strangeRun, if_neg hother]
    exact Nat.succ_ne_zero _
  have hheard : (s.parentHeard p r (s.strangeRun p r)).epoch = 0xFFFF := s.leavesFree_epoch.trans hunset
  rw [State.ffFromParent_eq, if_pos ⟨hrun, .inl hheard⟩, State.parentHeard_ffPortOf h]
  exact ⟨_, rfl⟩

/-! ### Exchanges that end or start (R226, R227) -/

theorem State.ffDrop_changes (s : State) (p : Nat) (bad : ExchSt → Bool) : Frm 33554448 s (s.ffDrop p bad) := State.ffDrop_frm (Sub.refl _) (Frm.refl _ s)

/-- Exchanges that end are counted, and end the run of valid ones. -/
theorem State.ffDrop_some {bad : ExchSt → Bool} (hsome : ((s.ffPortOf p).exch.filter bad).length ≠ 0) :
    s.ffDrop p bad = (s.bumpBy 0x48028 ((s.ffPortOf p).exch.filter bad).length).updFfPort p (fun x => { x with exch := x.exch.filter (fun e => !bad e), goodRun := 0 }) := if_neg hsome

/-- When every exchange of a port ends, none is left; the port's record of its parent stays. -/
theorem State.ffDrop_all {bad : ExchSt → Bool} (h : Good O Q s) (hall : ∀ e ∈ (s.ffPortOf p).exch, bad e = true) :
    ((s.ffDrop p bad).ffPortOf p).exch = [] ∧ ((s.ffDrop p bad).ffPortOf p).adoptRun = (s.ffPortOf p).adoptRun := by
  have hfilter : (s.ffPortOf p).exch.filter bad = (s.ffPortOf p).exch := List.filter_eq_self.mpr hall
  by_cases hnone : (s.ffPortOf p).exch = []
  · have hsame : s.ffDrop p bad = s := if_pos (by rw [hfilter, hnone]; rfl)
    rw [hsame]
    exact ⟨hnone, rfl⟩
  · have hport : (s.bumpBy 0x48028 ((s.ffPortOf p).exch.filter bad).length).ffPortOf p = s.ffPortOf p := rfl
    rw [State.ffDrop_some (by rw [hfilter]; exact fun h => hnone (List.eq_nil_of_length_eq_zero h)), State.ffPortOf_updFfPort_self (State.bumpBy_good h), hport]
    exact ⟨List.filter_eq_nil_iff.mpr (fun e he => by simp [hall e he]), rfl⟩

/-- The exchange a SYNC starts. -/
def State.exchOf (s : State) (r : SyncMsg) : ExchSt := { seqId := r.seqId, epoch := r.epoch, reqEpoch := s.epoch, t1 := r.t1, t2 := s.now, t3 := none, retry := r.retry }

theorem State.ffStart_set {r : SyncMsg} (hset : s.epoch ≠ 0xFFFF) : s.ffStart p r =
    (((s.ffDrop p (fun e => e.t3.isNone || e.seqId == r.seqId)).updFfPort p (fun x => { x with exch := x.exch ++ [s.exchOf r] })).sendOn p .firefly
      (.delayReq ⟨r.seqId, s.epoch, false⟩)) := by
  have hdrop := s.ffDrop_changes p (fun e => e.t3.isNone || e.seqId == r.seqId)
  have hepoch : (s.ffDrop p (fun e => e.t3.isNone || e.seqId == r.seqId)).epoch = s.epoch := congrArg FfSt.epoch (hdrop .ff (by decide))
  have hnow : (s.ffDrop p (fun e => e.t3.isNone || e.seqId == r.seqId)).now = s.now := congrArg (fun c : TimeSt => c.count / 65536) (hdrop .tm (by decide))
  refine (if_neg hset).trans ?_
  dsimp only
  rw [hepoch, hnow]
  rfl

theorem State.ffStart_changes (s : State) (p : Nat) (r : SyncMsg) : Frm 8891924496 s (s.ffStart p r) := State.ffStart_frm (Sub.refl _) (Frm.refl _ s)

theorem State.ffStart_tells {r : SyncMsg} (hset : s.epoch ≠ 0xFFFF) : TellsHealth s (s.ffStart p r) := by
  rw [State.ffStart_set hset]
  exact ((s.ffDrop_changes p _).tellsHealth (by decide)).trans (State.queueFrame_tellsHealth (State.updFfPort _ p _) p .firefly _ false 0)

/-- A SYNC starts an exchange beside none whose request has not left (R226). -/
theorem State.ffStart_alone {r : SyncMsg} (h : Good O Q s) (hset : s.epoch ≠ 0xFFFF) (hwait : ∀ e ∈ (s.ffPortOf p).exch, e.t3 = none) :
    ((s.ffStart p r).ffPortOf p).adoptRun = (s.ffPortOf p).adoptRun
    ∧ ∃ e, ((s.ffStart p r).ffPortOf p).exch = [e] ∧ (s.exchOf r).stamped e := by
  obtain ⟨hnone, hrun⟩ := State.ffDrop_all (bad := fun e => e.t3.isNone || e.seqId == r.seqId) h (fun e he => by simp [hwait e he])
  have hdropped : Good O Q (s.ffDrop p (fun e => e.t3.isNone || e.seqId == r.seqId)) := State.ffDrop_good h
  have hopened := State.ffPortOf_updFfPort_self (n := p) (f := fun x => { x with exch := x.exch ++ [s.exchOf r] }) hdropped
  have hsent := (Stamps.refl (State.updFfPort_good (n := p) (f := fun x => { x with exch := x.exch ++ [s.exchOf r] }) hdropped)).sendOn
    (p := p) (cls := .firefly) (body := .delayReq ⟨r.seqId, s.epoch, false⟩)
  have hexch := hsent.exchanges p
  have hrunEnd := hsent.adoptRun p
  rw [hopened] at hexch hrunEnd
  rw [hnone] at hexch
  obtain ⟨e, hstamped, hlast⟩ : ∃ e, (s.exchOf r).stamped e ∧ [e] = _ := by
    obtain ⟨e, es, hstamped, hrest, hlist⟩ := List.forall₂_cons_left_iff.mp hexch
    rw [List.forall₂_nil_left_iff.mp hrest] at hlist
    exact ⟨e, hstamped, hlist.symm⟩
  rw [State.ffStart_set hset]
  exact ⟨hrunEnd.trans hrun, e, hlast.symm, hstamped⟩

/-- What a SYNC of the parent in use does to a hub of its epoch. -/
def State.parentSyncs (s : State) (p : Nat) (r : SyncMsg) : State := (s.parentHeard p r 0).ffStart p r

theorem execSync_sameEpoch {p : Port} {r : SyncMsg} (hservice : s.inService (pidx p) = true) (hmember : s.ffRoot = false) (hparent : pidx p = s.ffInUse)
    (hhops : r.hops.toNat < 4094) (hset : r.epoch ≠ 0xFFFF) (hepoch : r.epoch = s.epoch) : exec (.sync p r) s = .next ((s.rxAccept (pidx p)).parentSyncs (pidx p) r) := by
  rw [execSync_parent hservice hmember hparent hhops hset, State.ffFromParent_sameEpoch (hepoch.trans (s.rxAccept_epoch _).symm)]
  rfl

theorem State.parentSyncs_ff (s : State) (p : Nat) (r : SyncMsg) : (s.parentSyncs p r).ff = (s.parentHeard p r 0).ff := State.ffStart_changes _ p r .ff (by decide)

theorem State.parentSyncs_changes (s : State) (p : Nat) (r : SyncMsg) : Frm 77628178448 s (s.parentSyncs p r) := by
  have hm := Sub.refl 77628178448
  exact ((s.parentHeard_changes p r 0).mono (hm.le (by decide))).trans ((State.ffStart_changes _ p r).mono (hm.le (by decide)))

theorem State.parentSyncs_tells {r : SyncMsg} (hset : s.epoch ≠ 0xFFFF) : TellsHealth s (s.parentSyncs p r) :=
  ((s.parentHeard_changes p r 0).tellsHealth (by decide)).trans (State.ffStart_tells (by rwa [State.parentHeard_epoch]))

theorem State.parentSyncs_alone {r : SyncMsg} (h : Good O Q s) (hset : s.epoch ≠ 0xFFFF) (hwait : ∀ e ∈ (s.ffPortOf p).exch, e.t3 = none) :
    ((s.parentSyncs p r).ffPortOf p).adoptRun = 0 ∧ ∃ e, ((s.parentSyncs p r).ffPortOf p).exch = [e] ∧ (s.exchOf r).stamped e := by
  have hport := State.parentHeard_ffPortOf (p := p) (r := r) (run := 0) h
  have hopened : (s.parentHeard p r 0).exchOf r = s.exchOf r := by
    unfold State.exchOf
    rw [State.parentHeard_epoch, State.parentHeard_now]
  obtain ⟨hrun, hone⟩ := State.ffStart_alone (p := p) (r := r) (State.parentHeard_good h) ((s.parentHeard_epoch p r 0).trans_ne hset) (by rwa [hport])
  rw [hopened] at hone
  exact ⟨hrun.trans (congrArg FfPortSt.adoptRun hport), hone⟩

/-- A hub whose epoch is UNSET has epoch and time of its parent behind the SYNC (R235). -/
theorem execSync_adopts {p : Port} {r : SyncMsg} (h : Good O Q s) (hservice : s.inService (pidx p) = true) (hmember : s.ffRoot = false) (hparent : pidx p = s.ffInUse)
    (hhops : r.hops.toNat < 4094) (hset : r.epoch ≠ 0xFFFF) (hunset : s.epoch = 0xFFFF) :
    Runs (.sync p r) s (fun u => u.epoch = r.epoch ∧ u.tm.count = ((r.t1 : Int) + (s.ffPortOf (pidx p)).delay).toNat * 65536) := by
  obtain ⟨base, hadopts⟩ := State.ffFromParent_unset (p := pidx p) (r := r) (State.rxAccept_good (p := pidx p) h) ((s.rxAccept_epoch _).trans hunset) hset
  rw [State.rxAccept_ffPortOf] at hadopts
  obtain ⟨hff, hcount, -⟩ := base.adopt_leaves r.epoch ((r.t1 : Int) + (s.ffPortOf (pidx p)).delay).toNat
  have hstart := ((s.rxAccept (pidx p)).ffFromParent (pidx p) r).ffStart_changes (pidx p) r
  have hservo := hstart .ff (by decide)
  have htm := hstart .tm (by decide)
  refine ⟨_, execSync_parent hservice hmember hparent hhops hset, ?_, ?_⟩
  · rw [State.epoch, hservo, hadopts, hff]
  · rw [htm, hadopts, hcount]

/-! ### DELAY_RESP (R227, R228) -/

/-- An exchange of a port ends with its DELAY_RESP; forced: an injection makes it invalid. -/
def State.exchangeEnds (s : State) (n : Nat) (r : DelayResp) (e : ExchSt) (forced : Bool) : Out :=
  match e.t3 with
  | none => .next (s.ffDrop n (fun x => x.seqId == r.seqId))
  | some t3 =>
    if forced || e.retry || r.retry || decide (e.epoch ≠ s.epoch ∨ e.reqEpoch ≠ s.epoch ∨ r.epoch ≠ s.epoch ∨ t3 + nsTq 200000 < s.now) then
      .next (s.underInj forced (fun t => t.ffDrop n (fun x => x.seqId == r.seqId)))
    else
      let v := s.ffTheta n e.t1 e.t2 t3 r.t4
      let s := s.updFfPort n (fun x => { x with exch := x.exch.filter (fun x => !(x.seqId == r.seqId)) })
      match s.injOf 10 1 0 with
      | some i => .next ((s.useInj 10 1 0).underInj true (fun t => t.ffExchange n (v.1 + roundHalfEven (i.value * 65536) 1000) v.2))
      | none => .next (s.ffExchange n v.1 v.2)

theorem execDelayResp_eq (p : Port) (r : DelayResp) (s : State) : execDelayResp p r s =
    if s.inService (pidx p) = false then .next s
    else match ((s.rxAccept (pidx p)).ffPortOf (pidx p)).exch.find? (fun e => e.seqId == r.seqId) with
    | none => .next (s.rxAccept (pidx p))
    | some e => ((s.rxAccept (pidx p)).doIf ((s.rxAccept (pidx p)).injOf 10 2 0).isSome (fun t => t.useInj 10 2 0)).exchangeEnds (pidx p) r e
        ((s.rxAccept (pidx p)).injOf 10 2 0).isSome := rfl

theorem execDelayResp_unknown {p : Port} {r : DelayResp} (hservice : s.inService (pidx p) = true)
    (hfind : (s.ffPortOf (pidx p)).exch.find? (fun e => e.seqId == r.seqId) = none) : exec (.delayResp p r) s = .next (s.rxAccept (pidx p)) := by
  refine (execDelayResp_eq p r s).trans ((if_neg (by simp [hservice])).trans ?_)
  rw [State.rxAccept_ffPortOf, hfind]

theorem execDelayResp_known {p : Port} {r : DelayResp} {e : ExchSt} (hservice : s.inService (pidx p) = true)
    (hfind : (s.ffPortOf (pidx p)).exch.find? (fun e => e.seqId == r.seqId) = some e) (hplain : s.injOf 10 2 0 = none) :
    exec (.delayResp p r) s = (s.rxAccept (pidx p)).exchangeEnds (pidx p) r e false := by
  have hnone : (s.rxAccept (pidx p)).injOf 10 2 0 = none := ((s.rxAccept_changes _).injOf (by decide)).trans hplain
  refine (execDelayResp_eq p r s).trans ((if_neg (by simp [hservice])).trans ?_)
  rw [State.rxAccept_ffPortOf, hfind, hnone]
  rfl

/-- An exchange whose request has not left, that was repeated, or that saw two epochs, ends without being valid. -/
theorem State.exchangeEnds_drops {r : DelayResp} {e : ExchSt}
    (hbad : e.t3 = none ∨ e.retry = true ∨ r.retry = true ∨ e.epoch ≠ s.epoch ∨ e.reqEpoch ≠ s.epoch ∨ r.epoch ≠ s.epoch) :
    s.exchangeEnds n r e false = .next (s.ffDrop n (fun x => x.seqId == r.seqId)) := by
  unfold State.exchangeEnds
  split
  · rfl
  · next t3 hleft =>
    refine if_pos ?_
    simp only [Bool.false_or, Bool.or_eq_true, decide_eq_true_eq]
    rcases hbad.resolve_left (by simp [hleft]) with h | h | h | h | h
    · exact .inl (.inl h)
    · exact .inl (.inr h)
    · exact .inr (.inl h)
    · exact .inr (.inr (.inl h))
    · exact .inr (.inr (.inr (.inl h)))

/-- A valid exchange of one epoch, at most 200 µs behind its request, gives its offset and delay. -/
theorem State.exchangeEnds_valid {r : DelayResp} {e : ExchSt} {t3 : Tq} (hleft : e.t3 = some t3) (hplain : s.injOf 10 1 0 = none) (hfirst : e.retry = false)
    (honce : r.retry = false) (hepoch : e.epoch = s.epoch) (hreq : e.reqEpoch = s.epoch) (hresp : r.epoch = s.epoch) (hsoon : s.now ≤ t3 + nsTq 200000) :
    s.exchangeEnds n r e false = .next ((s.updFfPort n (fun x => { x with exch := x.exch.filter (fun x => !(x.seqId == r.seqId)) })).ffExchange n
      (s.ffTheta n e.t1 e.t2 t3 r.t4).1 (s.ffTheta n e.t1 e.t2 t3 r.t4).2) := by
  have hsame : ∀ f, (s.updFfPort n f).injOf 10 1 0 = none := fun f => hplain
  unfold State.exchangeEnds
  rw [hleft]
  dsimp only
  rw [if_neg (by simp [hfirst, honce, hepoch, hreq, hresp, Nat.not_lt.mpr hsoon]), hsame]

/-! ### EXCHANGE_TIMEOUT (R227) -/

theorem execExchangeTimeout_one {p : Port} {e : ExchSt} {t3 : Tq} (hone : (s.ffPortOf (pidx p)).exch = [e]) (hleft : e.t3 = some t3) :
    exec (.exchangeTimeout p) s = .next ((s.reach (t3 + nsTq 200000)).ffDrop (pidx p) (fun x => x.seqId == e.seqId)) := by
  have hfind : (s.ffPortOf (pidx p)).exch.find? (fun e => e.t3.isSome) = some e := by
    rw [hone]
    exact List.find?_cons_of_pos (by rw [hleft]; rfl)
  change execExchangeTimeout p s = _
  unfold execExchangeTimeout
  dsimp only
  rw [hfind]
  dsimp only
  rw [hleft]
  rfl

/-- The only exchange of a port ends without being valid: it is counted, and the run of valid ones ends with it. -/
theorem State.ffDrop_one {e : ExchSt} (h : Good O Q s) (hone : (s.ffPortOf p).exch = [e]) :
    (s.ffDrop p (fun x => x.seqId == e.seqId)).reg 0x48028 = (s.reg 0x48028).satAdd 1
    ∧ (s.ffDrop p (fun x => x.seqId == e.seqId)).ffPortOf p = { s.ffPortOf p with exch := [], goodRun := 0 }
    ∧ ∀ q, q ≠ p → (s.ffDrop p (fun x => x.seqId == e.seqId)).ffPortOf q = s.ffPortOf q := by
  have hlength : ((s.ffPortOf p).exch.filter (fun x => x.seqId == e.seqId)).length = 1 := by simp [hone]
  have hnone : (s.ffPortOf p).exch.filter (fun x => !(x.seqId == e.seqId)) = [] := by simp [hone]
  have hport : ∀ q, (s.bumpBy 0x48028 1).ffPortOf q = s.ffPortOf q := fun _ => rfl
  rw [State.ffDrop_some (by rw [hlength]; decide), hlength]
  refine ⟨State.reg_setReg_self h, ?_, fun q hq => (State.ffPortOf_updFfPort_other hq).trans (hport q)⟩
  rw [State.ffPortOf_updFfPort_self (State.bumpBy_good h), hport, hnone]

/-- An exchange that nothing answers ends 200 µs behind its request. -/
theorem execExchangeTimeout_leaves {p : Port} {e : ExchSt} {t3 : Tq} (h : Good O Q s) (hone : (s.ffPortOf (pidx p)).exch = [e]) (hleft : e.t3 = some t3) :
    Runs (.exchangeTimeout p) s (fun u => u.reg 0x48028 = (s.reg 0x48028).satAdd 1 ∧ u.ffPortOf (pidx p) = { s.ffPortOf (pidx p) with exch := [], goodRun := 0 }
      ∧ u.tm = (s.reach (t3 + nsTq 200000)).tm ∧ (∀ q, q ≠ pidx p → u.ffPortOf q = s.ffPortOf q) ∧ s.keepsBut [.tm, .regs, .ffPort] u) := by
  have hreach := s.reach_changes (t3 + nsTq 200000)
  have hports : ∀ q, (s.reach (t3 + nsTq 200000)).ffPortOf q = s.ffPortOf q := fun q => hreach.ffPortOf (by decide)
  have hdrop := (s.reach (t3 + nsTq 200000)).ffDrop_changes (pidx p) (fun x => x.seqId == e.seqId)
  have hm := Sub.refl 33554449
  obtain ⟨hcount, hport, hothers⟩ := State.ffDrop_one (State.reach_good (t := t3 + nsTq 200000) h) (p := pidx p) (e := e) (by rw [hports, hone])
  rw [hports] at hport
  exact ⟨_, execExchangeTimeout_one hone hleft, hcount.trans (congrArg (fun w : W32 => w.satAdd 1) (hreach.reg (by decide))), hport, hdrop .tm (by decide),
    fun q hq => (hothers q hq).trans (hports q), ((hreach.mono (hm.le (by decide))).trans (hdrop.mono (hm.le (by decide)))).keepsParts (by decide)⟩

/-- Settles O28: intervals by each_syncOut_txSeq, SYNCs of the parent by parentHeard and ffStart_alone, and exchanges by how they end. -/
theorem syncExchangesRunAtAPort : Obligations.SyncExchangesRunAtAPort := by
  intro s hwf
  have h := good_of_wf hwf
  refine ⟨fun hset => ?interval, fun hunset => if_pos hunset, fun p hservice => ⟨fun r => execDelayReq_answers hservice, fun r => execDelayReq_unset hservice,
    fun r hmember hparent hhops hset hepoch hwait => ?parent, fun r hmember hparent hhops hset hunset => ?adopts, fun r => execSync_ignored hservice,
    fun r => execSync_conflict hservice, fun r => execDelayResp_unknown hservice,
    fun r e t3 hfind hleft hplain hvalid hfirst honce hepoch hreq hresp hsoon => ?valid, fun r e hfind hvalid hbad => ?dropped⟩, fun p e t3 hone hleft => ?timeout⟩
  case interval => exact execSyncInterval_leaves h hset
  case parent =>
    have hsetHere : (s.rxAccept (pidx p)).epoch ≠ 0xFFFF := by rwa [State.rxAccept_epoch, ← hepoch]
    have hff : ((s.rxAccept (pidx p)).parentSyncs (pidx p) r).ff = _ := State.parentSyncs_ff _ _ _
    have hmode : ((s.rxAccept (pidx p)).parentSyncs (pidx p) r).ff.mode = if s.ff.mode = .free then .acquiring else s.ff.mode := by
      rw [hff, State.parentHeard_mode, State.rxAccept_ff]
    obtain ⟨hrun, e, hlist, hstamped⟩ := State.parentSyncs_alone (p := pidx p) (r := r) (State.rxAccept_good (p := pidx p) h) hsetHere (by rwa [State.rxAccept_ffPortOf])
    refine ⟨_, execSync_sameEpoch hservice hmember hparent hhops hset hepoch, hff ▸ State.parentHeard_source _ _ _ _, hrun, fun hfree => hmode.trans (if_pos hfree),
      fun hfree => hmode.trans (if_neg hfree), ⟨e, hlist, ?_⟩, ((s.rxAccept_changes _).tellsHealth (by decide)).trans (State.parentSyncs_tells hsetHere), ?_⟩
    · rw [hstamped]
      exact ⟨rfl, rfl, s.rxAccept_epoch _, rfl, s.rxAccept_now _⟩
    · have hm := Sub.refl 8873721200656
      exact (((s.rxAccept_changes _).mono (hm.le (by decide))).trans ((State.parentSyncs_changes _ _ r).mono (hm.le (by decide)))).keepsParts (by decide)
  case adopts => exact execSync_adopts h hservice hmember hparent hhops hset hunset
  case valid =>
    have hrx := s.rxAccept_changes (pidx p)
    refine (execDelayResp_known hservice hfind hvalid).trans ?_
    rw [State.exchangeEnds_valid hleft ((hrx.injOf (by decide)).trans hplain) hfirst honce (hepoch.trans (s.rxAccept_epoch _).symm) (hreq.trans (s.rxAccept_epoch _).symm)
      (hresp.trans (s.rxAccept_epoch _).symm) ((s.rxAccept_now _).trans_le hsoon), hrx.ffTheta (by decide) (by decide)]
  case dropped =>
    refine (execDelayResp_known hservice hfind hvalid).trans (State.exchangeEnds_drops ?_)
    rwa [State.rxAccept_epoch]
  case timeout => exact execExchangeTimeout_leaves h hone hleft

end Sys2Proof.Machine
end

section
/-! PROOFS. The end of an entry into HIBERNATE that a refuser aborts, and the statement that leaves out what it returns to (R410). -/

namespace Sys2Proof.Machine

open Sys2Proof

set_option Elab.async false

variable {s : State}

/-! ### The last step of an entry (R409, R410) -/

/-- An entry that is aborted goes back to what it came from, as aborted, with nothing left to wake or to start again. -/
theorem State.hibAbort_pwr (s : State) : s.hibAbort.pwr = { s.pwr with mode := s.pwr.leftMode, lastResult := 3, stopped := [], wakeTimer := none, arose := 0 } := by
  have hmode : ((s.powerMode s.pwr.leftMode).setBit Reg.pwrStatus 9).pwr = { s.pwr with mode := s.pwr.leftMode } :=
    State.traceFree_frm (s := s.quietMode s.pwr.leftMode) (source := 3) (Sub.refl _) (Frm.refl _ _) .pwr (by decide)
  have hgroups : ∀ (t : State) (gs : List Group), (t.each gs (fun g v => if (v.grpOf (gidx g)).mode = .stopped ∧ v.log.fatal = false ∧ v.cfg.bad = false then v.startGroup (gidx g) v.now else v)).pwr = t.pwr := fun t gs =>
    State.each_frm (m := 1613856) (Frm.refl _ t) (fun _ _ hv => frm_ite (State.startGroup_frm (Sub.refl _) hv) hv) .pwr (by decide)
  unfold State.hibAbort
  dsimp only
  rw [hgroups, hmode]

/-- Behind its last step an entry is in HIBERNATE, or on its way out of it. -/
theorem State.hibEnter_mode (s : State) : s.hibEnter.pwr.mode = .hibernate ∨ s.hibEnter.pwr.mode = .hibExit := by
  have hkept : ((s.quietMode .hibernate).warmState .hibExit).pwr = (s.quietMode .hibernate).pwr := (s.quietMode .hibernate).warmBase_changes .pwr (by decide)
  have hmode : ((s.quietMode .hibernate).warmState .hibExit).pwr.mode = .hibernate := by rw [hkept]; rfl
  unfold State.hibEnter
  dsimp only
  split
  · exact .inl hmode
  · exact .inr rfl

/-- An entry that a refuser has aborted. -/
theorem State.hibRefused_aborts (hmode : s.pwr.mode = .hibEntry) (hopen : s.pwr.committed = false) (harisen : s.hibArisen ≠ []) :
    s.hibRefused.pwr = { s.pwr with mode := s.pwr.leftMode, lastResult := 3, stopped := [], wakeTimer := none, arose := 0 } := by
  have hcounted : (s.each s.hibArisen (fun r t => t.bump (0x1040 + 4 * r))).pwr = s.pwr :=
    State.each_frm (m := 16) (Frm.refl _ s) (fun _ _ hv => State.bump_frm (Sub.refl _) hv) .pwr (by decide)
  rw [State.hibRefused, if_neg (by simp [hmode, hopen, harisen]), State.hibAbort_pwr, hcounted]

/-- What was entered from RUN or DOZE returns to it when a refuser arises before the commit point. -/
theorem hibEntryDone_aborts (hmode : s.pwr.mode = .hibEntry) (hleft : s.pwr.leftMode ≠ .hibEntry) (hopen : s.pwr.committed = false) (harisen : s.hibArisen ≠ []) :
    Runs .hibEntryDone s (fun u => u.pwr.mode = s.pwr.leftMode ∧ u.pwr.lastResult = 3 ∧ u.pwr.stopped = [] ∧ u.pwr.wakeTimer = none) := by
  have haborts := State.hibRefused_aborts hmode hopen harisen
  have hreturns : s.hibRefused.pwr.mode ≠ .hibEntry := by rwa [haborts]
  refine ⟨s.hibRefused, if_pos hreturns, ?_⟩
  dsimp only
  rw [haborts]
  exact ⟨rfl, rfl, rfl, rfl⟩

/-- An entry that came from an entry is not over when a refuser aborts it: the last step goes on to HIBERNATE. -/
theorem hibEntryDone_of_entry (hmode : s.pwr.mode = .hibEntry) (hleft : s.pwr.leftMode = .hibEntry) (hopen : s.pwr.committed = false) (harisen : s.hibArisen ≠ []) :
    Runs .hibEntryDone s (fun u => u.pwr.mode ≠ .hibEntry) := by
  have hstays : s.hibRefused.pwr.mode = .hibEntry := by rw [State.hibRefused_aborts hmode hopen harisen, hleft]
  refine ⟨_, if_neg (by simpa using hstays), ?_⟩
  rcases State.hibEnter_mode (if s.hibRefused.pwr.committed then s.hibRefused else s.hibRefused.hibCommit) with hin | hout
  · simp [hin]
  · simp [hout]

/-! ### The statement that leaves it out -/

/-- A hub in an entry into HIBERNATE that its state says came from an entry, with a refuser that has arisen. -/
def entryFromEntry : State := { State.reset with pwr := { PwrSt.init with mode := .hibEntry, leftMode := .hibEntry, arose := 1 } }

/-- Refutes O52 in its clause on an entry that a refuser aborts at HIB_ENTRY_DONE: from a state whose entry came from HIB_ENTRY itself the abort changes no state, and the last step ends in HIBERNATE.
The clause holds from every other state (hibEntryDone_aborts); what is missing is the hypothesis of the clause on wakes, that the entry came from RUN or DOZE. -/
theorem not_powerStatesFollowTheirRules : ¬ Obligations.PowerStatesFollowTheirRules := by
  intro h
  obtain ⟨-, -, -, -, haborts, -⟩ := h entryFromEntry (by decide)
  obtain ⟨u, hu, hmode, -⟩ := haborts rfl rfl (by decide)
  obtain ⟨v, hv, hgone⟩ := hibEntryDone_of_entry (s := entryFromEntry) rfl rfl rfl (by decide)
  obtain rfl : u = v := Host.Outcome.next.inj (hu.symm.trans hv)
  exact hgone hmode

end Sys2Proof.Machine
end

section
/-! PROOFS. The injector: what refuses an injection, what one that is taken leaves pending, and how injections are cancelled or run out (R280, R398, R463, R468). -/

namespace Sys2Proof.Machine

open Sys2Proof

set_option Elab.async false

variable {O : OtpSt} {Q : List Instr} {s t : State} {d : Desc} {id : Nat} {c : Instr} {target action : Nat}

/-! ### UNIT_FATAL is not undone (R463, R464) -/

theorem State.errMsi_fatal (s : State) (cls : Nat) : (s.errMsi cls).log.fatal = s.log.fatal := by
  have hmsix : ∀ (t : State) (v : Nat), (t.msix v).log = t.log := fun t v => State.msix_frm (m := 536870928) (Sub.refl _) (Frm.refl _ t) .log (by decide)
  unfold State.errMsi
  dsimp only
  split
  · rfl
  · split
    · split
      · rfl
      · rw [hmsix]
    · rw [hmsix]

theorem State.traceAdd_log (s : State) (kind source : Nat) (data : W32) : (s.traceAdd kind source data).log = s.log :=
  State.traceAdd_frm (m := 549755813904) (Sub.refl _) (Frm.refl _ s) .log (by decide)

theorem State.logLost_errMsi_fatal (s : State) (cls : Nat) : (s.logLost.errMsi cls).log.fatal = s.log.fatal := State.errMsi_fatal _ _

theorem State.formRecord_fatal (s : State) (r : ErrRec) : (s.formRecord r).log.fatal = s.log.fatal := by
  have htraced : ((s.setReg 0x7C00C (s.reg 0x7C00C + 1)).traceAdd 0x80 2 (s.reg 0x7C00C)).log.fatal = s.log.fatal := congrArg LogSt.fatal (State.traceAdd_log _ _ _ _)
  unfold State.formRecord
  dsimp only
  split
  · exact (State.errMsi_fatal _ _).trans htraced
  · split
    · exact (State.logLost_errMsi_fatal _ _).trans htraced
    · exact htraced

theorem State.raiseOne_fatal (s : State) (e : ErrIn) (k : Nat) : (s.raiseOne e k).log.fatal = s.log.fatal := by
  have hcounted : ((s.doIf (decide (1 < k)) (fun t => t.bump 0x7C014)).bumpBy (0x7C020 + 4 * e.cls) k).log.fatal = s.log.fatal := by
    unfold State.doIf
    split <;> rfl
  unfold State.raiseOne
  dsimp only
  split
  · split
    · exact (State.formRecord_fatal _ _).trans hcounted
    · exact (State.formRecord_fatal _ _).trans hcounted
  · split
    · split
      · exact hcounted
      · exact (congrArg LogSt.fatal (State.traceAdd_log _ _ _ _)).trans hcounted
    · split
      · exact hcounted
      · exact (State.formRecord_fatal _ _).trans hcounted

theorem State.record_fatal (s : State) (es : List ErrIn) : (s.record es).log.fatal = s.log.fatal := by
  unfold State.record
  generalize mergeErrs es = ps
  induction ps generalizing s with
  | nil => rfl
  | cons p ps ih => exact (ih _).trans (s.raiseOne_fatal _ _)

theorem State.raise_fatal (s : State) (e : ErrIn) : (s.raise e).log.fatal = s.log.fatal := by
  unfold State.raise State.raiseAll
  split
  · exact s.record_fatal _
  · rfl

theorem State.fatalStop_fatal (s : State) (cause : FatalCause) : (s.fatalStop cause).log.fatal = true := by
  have htold : ∀ (t : State) b, (t.doIf b State.sendHealth).log = t.log := fun t b =>
    State.doIf_frm (m := 8891924496) (Frm.refl _ t) (State.sendHealth_frm (Sub.refl _) (Frm.refl _ _)) .log (by decide)
  have hstreams : ∀ (t : State) (xs : List Nat), (t.each xs (fun x v => v.fatalStream x)).log = t.log := fun t xs =>
    State.each_frm (m := 6747171553296) (Frm.refl _ t) (fun _ _ => State.fatalStream_frm (Sub.refl _)) .log (by decide)
  have hdescs : ∀ (t : State) (ds : List Desc), (t.each ds (fun d v => if (v.descOf d.id).isSome then v.failDesc d else v)).vaultTaint.log = t.log := fun t ds => by
    have hm := Sub.refl 167283556368
    exact State.vaultTaint_frm (hm.le (by decide)) (State.each_frm (Frm.refl _ t) (fun _ _ hv => frm_ite (State.failDesc_frm (hm.le (by decide)) hv) hv)) .log (by decide)
  unfold State.fatalStop
  dsimp only
  rw [hdescs, hstreams, State.raise_fatal, htold]

theorem State.cycleEnds_fatal (s : State) : s.cycleEnds.log.fatal = s.log.fatal := State.record_fatal _ _

/-- Behind UNIT_FATAL, the first or another, the hub is in it. -/
theorem State.unitFatal_fatal (s : State) (cause : FatalCause) : (s.unitFatal cause).log.fatal = true := by
  unfold State.unitFatal
  split
  · assumption
  · obtain ⟨g, hinner | ⟨-, hown⟩⟩ := s.oneCycle_cases (fun t => t.fatalStop cause)
    · rw [hinner]
      exact State.fatalStop_fatal _ _
    · rw [hown]
      exact (State.cycleEnds_fatal _).trans (State.fatalStop_fatal _ _)

/-! ### INJECT_CMD of a target and an action (R468) -/

/-- The command is INJECT_CMD of a target and an action for the descriptor d, and leaves t when nothing refuses it. -/
def InjectsBy (s : State) (id : Nat) (d : Desc) (c : Instr) (target action : Nat) (t : State) : Prop :=
  ∃ isTarget f, exec c s = s.injectCmd id isTarget action f ∧ isTarget target = true ∧ f d s = t

section
variable (h : InjectsBy s id d c target action t) (hd : s.serves id 0x80 d) (htarget : field (d.p 0) 7 0 = target) (haction : (d.p 1).toNat = action)
include h hd htarget haction

/-- What the injector answers when its descriptor's turn has come: refusals in their order, or the effect. -/
theorem InjectsBy.answers : exec c s = .next (
    if s.sv.injectOpen = false then s.retireBad d 0x0509
    else if s.injOwned target (d.p 2) && !s.sealOpen then s.retireBad d 0x0540
    else if injIndexOk target action (d.p 2) (d.p 4) = false then s.retireBad d 0x0002
    else if s.injReady target action (d.p 2).toNat = false then s.retireBad d 0x0006
    else t) := by
  obtain ⟨isTarget, f, hexec, hkind, heffect⟩ := h
  have hmeant : ¬ (isTarget target = false ∨ (d.p 1).toNat ≠ action) := by simp [hkind, haction]
  rw [hexec, State.injectCmd, State.serve_served hd]
  dsimp only
  rw [htarget, if_neg hmeant, heffect]

theorem InjectsBy.locked (hopen : s.sv.injectOpen = false) : exec c s = .next (s.retireBad d 0x0509) := by
  rw [h.answers hd htarget haction, if_pos hopen]

theorem InjectsBy.sealed (hopen : s.sv.injectOpen = true) (howned : s.injOwned target (d.p 2) = true) (hseal : s.sealOpen = false) :
    exec c s = .next (s.retireBad d 0x0540) := by
  rw [h.answers hd htarget haction, if_neg (by simp [hopen]), if_pos (by simp [howned, hseal])]

theorem InjectsBy.badParam (hopen : s.sv.injectOpen = true) (howned : s.injOwned target (d.p 2) = false ∨ s.sealOpen = true)
    (hindex : injIndexOk target action (d.p 2) (d.p 4) = false) : exec c s = .next (s.retireBad d 0x0002) := by
  have hallowed : ¬ (s.injOwned target (d.p 2) && !s.sealOpen) = true := by rcases howned with hfree | hseal <;> simp [*]
  rw [h.answers hd htarget haction, if_neg (by simp [hopen]), if_neg hallowed, if_pos hindex]

theorem InjectsBy.notReady (hopen : s.sv.injectOpen = true) (howned : s.injOwned target (d.p 2) = false ∨ s.sealOpen = true)
    (hindex : injIndexOk target action (d.p 2) (d.p 4) = true) (hready : s.injReady target action (d.p 2).toNat = false) :
    exec c s = .next (s.retireBad d 0x0006) := by
  have hallowed : ¬ (s.injOwned target (d.p 2) && !s.sealOpen) = true := by rcases howned with hfree | hseal <;> simp [*]
  rw [h.answers hd htarget haction, if_neg (by simp [hopen]), if_neg hallowed, if_neg (by simp [hindex]), if_pos hready]

end

/-- Nothing of R468 refuses the injection a descriptor asks for. -/
structure State.injAllowed (s : State) (d : Desc) : Prop where
  unlocked : s.sv.injectOpen = true
  owner : s.injOwned (field (d.p 0) 7 0) (d.p 2) = false ∨ s.sealOpen = true
  index : injIndexOk (field (d.p 0) 7 0) (d.p 1).toNat (d.p 2) (d.p 4) = true
  ready : s.injReady (field (d.p 0) 7 0) (d.p 1).toNat (d.p 2).toNat = true

theorem InjectsBy.taken (h : InjectsBy s id d c target action t) (hd : s.serves id 0x80 d) (hallowed : s.injAllowed d)
    (htarget : field (d.p 0) 7 0 = target) (haction : (d.p 1).toNat = action) : exec c s = .next t := by
  obtain ⟨hopen, howned, hindex, hready⟩ := hallowed
  subst htarget haction
  have hfree : ¬ (s.injOwned (field (d.p 0) 7 0) (d.p 2) && !s.sealOpen) = true := by rcases howned with hfree | hseal <;> simp [*]
  rw [h.answers hd rfl rfl, if_neg (by simp [hopen]), if_neg hfree, if_neg (by simp [hindex]), if_neg (by simp [hready])]

/-! ### What an injection leaves (R280, R468) -/

/-- Parts in which a retirement acts, with the injections. -/
def injParts : List Part := [.regs, .strm, .host, .sq, .cq, .sb, .inj]

/-- The set of injParts. -/
def injSet : Nat := 2340220338192

theorem State.injDone_changes (s : State) (d : Desc) : Frm 141197082640 s (s.injDone d) := State.retireOk_frm (Sub.refl _) (Frm.refl _ s)

theorem State.injDone_inj (s : State) (d : Desc) : (s.injDone d).inj = s.inj := s.injDone_changes d .inj (by decide)

theorem State.injDone_link (s : State) (d : Desc) : (s.injDone d).link = s.link := s.injDone_changes d .link (by decide)

/-- Injections are pending from now on, with the counts that go with them, and the descriptor retires. -/
theorem State.injDone_pends {is : List Injection} (d : Desc) (hframe : Frm 2199023255568 s t) (hinj : t.inj = s.inj ++ is) :
    (t.injDone d).inj = s.inj ++ is ∧ s.keepsBut injParts (t.injDone d) := by
  have hm := Sub.refl injSet
  refine ⟨(t.injDone_inj d).trans hinj, Frm.keepsParts (m := injSet) ?_ (by decide)⟩
  exact (hframe.mono (hm.le (by decide))).trans ((t.injDone_changes d).mono (hm.le (by decide)))

theorem State.injAdd_changes (s : State) (target action index left : Nat) (value : Int) : Frm 2199023255568 s (s.injAdd target action index left value) := by
  have hm := Sub.refl 2199023255568
  exact frm_ite (Frm.refl _ s) (frm_mk (Frm.refl _ s))

theorem State.injAdd_inj (s : State) (target action index left : Nat) (value : Int) :
    (s.injAdd target action index left value).inj = s.inj ++ (if left = 0 then [] else [⟨target, action, index, left, value⟩]) := by
  unfold State.injAdd
  split
  · exact (List.append_nil _).symm
  · rfl

theorem State.injAdd_pends (s : State) (d : Desc) (target action index left : Nat) (value : Int) :
    ((s.injAdd target action index left value).injDone d).inj = s.inj ++ (if left = 0 then [] else [⟨target, action, index, left, value⟩])
      ∧ s.keepsBut injParts ((s.injAdd target action index left value).injDone d) :=
  State.injDone_pends d (s.injAdd_changes target action index left value) (s.injAdd_inj target action index left value)

/-- An injection that acts at least once is pending. -/
theorem State.injAdd_pends_one (s : State) (d : Desc) (target action index : Nat) {left : Nat} (value : Int) (hleft : left ≠ 0) :
    ((s.injAdd target action index left value).injDone d).inj = s.inj ++ [⟨target, action, index, left, value⟩]
      ∧ s.keepsBut injParts ((s.injAdd target action index left value).injDone d) := by
  have hpends := s.injAdd_pends d target action index left value
  rwa [if_neg hleft] at hpends

theorem State.injTimed_pends (s : State) (d : Desc) (target action index : Nat) {us : Nat} (hus : 0 < us) :
    ((s.injTimed target action index us).injDone d).inj = s.inj ++ [⟨target, action, index, 1, ((s.tm.up + us * 1000 : Nat) : Int)⟩]
      ∧ s.keepsBut injParts ((s.injTimed target action index us).injDone d) := by
  have hm := Sub.refl 2199023255568
  rw [State.injTimed, if_neg (by omega)]
  exact State.injDone_pends d (State.bump_frm (hm.le (by decide)) (frm_mk (Frm.refl _ s))) rfl

/-- Parts in which the injector of a port acts. -/
def linkInjParts : List Part := [.regs, .strm, .link, .host, .sq, .cq, .sb]

theorem State.injDone_links (d : Desc) (hframe : Frm 268435472 s t) : (t.injDone d).link = t.link ∧ s.keepsBut linkInjParts (t.injDone d) := by
  have hm := Sub.refl 141465518096
  refine ⟨t.injDone_link d, Frm.keepsParts (m := 141465518096) ?_ (by decide)⟩
  exact (hframe.mono (hm.le (by decide))).trans ((t.injDone_changes d).mono (hm.le (by decide)))

theorem State.linkInject_changes (s : State) (d : Desc) (action filter : Nat) : Frm 268435472 s (s.linkInject d action filter) := by
  have hm := Sub.refl 268435472
  exact frm_ite (Frm.refl _ s) (State.updLink_frm (hm.le (by decide)) (Frm.refl _ s))

theorem State.injLinkCount_changes (s : State) (p k : Nat) : Frm 16 s (s.injLinkCount p k) :=
  State.bumpBy_frm (Sub.refl _) (State.bumpBy_frm (Sub.refl _) (Frm.refl _ s))

theorem State.headers_leaves (s : State) (d : Desc) (p lane k : Nat) :
    let u := ((s.badHeaders p lane k).injLinkCount p k).injDone d
    u.link = (s.badHeaders p lane k).link ∧ (∀ q, q ≠ p → u.linkOf q = s.linkOf q) ∧ s.keepsBut linkInjParts u := by
  have hm := Sub.refl 268435472
  have hframe : Frm 268435472 s ((s.badHeaders p lane k).injLinkCount p k) :=
    (State.updLink_frm (hm.le (by decide)) (Frm.refl _ s)).trans ((State.injLinkCount_changes _ p k).mono (hm.le (by decide)))
  obtain ⟨hlink, hkeeps⟩ := State.injDone_links d hframe
  refine ⟨hlink, fun q hq => ?_, hkeeps⟩
  calc State.linkOf _ q = (s.badHeaders p lane k).linkOf q := congrArg (fun cells => Cells.get (fun _ => LinkSt.init) cells q) hlink
    _ = s.linkOf q := State.linkOf_updLink_other hq

theorem State.squelch_pends (s : State) (d : Desc) (p lane us : Nat) :
    let t : State := { s.injLinkCount p 1 with inj := (s.injLinkCount p 1).inj ++ [⟨p + 1, 6, lane, 1, (((s.injLinkCount p 1).tm.up + us * 1000 : Nat) : Int)⟩] }
    (t.injDone d).inj = s.inj ++ [⟨p + 1, 6, lane, 1, ((s.tm.up + us * 1000 : Nat) : Int)⟩] ∧ s.keepsBut injParts (t.injDone d) := by
  have hm := Sub.refl 2199023255568
  exact State.injDone_pends d (frm_mk ((s.injLinkCount_changes p 1).mono (hm.le (by decide)))) rfl

/-! ### INJECT_CANCEL and the end of an injection (R468) -/

/-- The hub with no injection pending on a target. -/
def State.injCleared (s : State) (d : Desc) : State :=
  let t : State := { s with inj := s.inj.filter (fun i => i.target != field (d.p 0) 7 0) }
  if isLink (field (d.p 0) 7 0) then t.updLink d.port (fun l => { l with inject := [], bad0 := 0, bad1 := 0 }) else t

theorem execInjectCancel_answers (hd : s.serves id 0x80 d) (haction : (d.p 1).toNat = 0) :
    exec (.injectCancel id) s = .next (if s.sv.injectOpen = false then s.retireBad d 0x0509 else ((s.injCleared d).retireOk d []).postAll) := by
  change execInjectCancel id s = _
  rw [execInjectCancel, State.serve_served hd]
  exact congrArg Host.Outcome.next (if_neg (by simp [haction]))

theorem State.injCleared_changes (s : State) (d : Desc) : Frm 2199291691008 s (s.injCleared d) := by
  have hm := Sub.refl 2199291691008
  exact frm_ite (State.updLink_frm (hm.le (by decide)) (frm_mk (Frm.refl _ s))) (frm_mk (Frm.refl _ s))

theorem State.injCleared_inj (s : State) (d : Desc) : (s.injCleared d).inj = s.inj.filter (fun i => i.target != field (d.p 0) 7 0) := by
  unfold State.injCleared
  split <;> rfl

theorem State.injCleared_linkOf {p : Nat} (h : Good O Q s) (hp : p < 3) (htarget : field (d.p 0) 7 0 = p + 1) :
    (s.injCleared d).linkOf p = { s.linkOf p with inject := [], bad0 := 0, bad1 := 0 } := by
  have hport : d.port = p := by rw [Desc.port, htarget, Nat.add_sub_cancel]
  have hlink : isLink (p + 1) = true := decide_eq_true (by omega)
  rw [State.injCleared, htarget, if_pos hlink, hport]
  exact State.linkOf_updLink_self (good_mk h rfl rfl rfl rfl)

theorem State.cancelled_changes (s : State) (d : Desc) : Frm 141197082640 s ((s.retireOk d []).postAll) := by
  have hm := Sub.refl 141197082640
  exact State.postAll_frm (hm.le (by decide)) (State.retireOk_frm hm (Frm.refl _ s))

theorem execInjectCancel_clears (hd : s.serves id 0x80 d) (haction : (d.p 1).toNat = 0) (hopen : s.sv.injectOpen = true) :
    Runs (.injectCancel id) s (fun u => u.inj = s.inj.filter (fun i => i.target != field (d.p 0) 7 0) ∧ s.keepsBut [.regs, .strm, .link, .host, .sq, .cq, .sb, .inj] u
      ∧ (s.wf = true → ∀ p < 3, field (d.p 0) 7 0 = p + 1 → (u.linkOf p).inject = [] ∧ (u.linkOf p).bad0 = 0 ∧ (u.linkOf p).bad1 = 0)) := by
  have hanswers := execInjectCancel_answers hd haction
  rw [if_neg (by simp [hopen])] at hanswers
  have hdone := (s.injCleared d).cancelled_changes d
  refine ⟨_, hanswers, (hdone .inj (by decide)).trans (s.injCleared_inj d), ?_, fun hwf p hp htarget => ?_⟩
  · have hm := Sub.refl 2340488773648
    exact (((s.injCleared_changes d).mono (hm.le (by decide))).trans (hdone.mono (hm.le (by decide)))).keepsParts (by decide)
  · rw [hdone.linkOf (by decide), State.injCleared_linkOf (good_of_wf hwf) hp htarget]
    exact ⟨rfl, rfl, rfl⟩

theorem execInjectionDurationEnd_ends {i : Injection} (htimed : s.inj.find? (fun i => decide (i.target = target) && i.timed) = some i) :
    Runs (.injectionDurationEnd target) s (fun u => u.inj = dropTimed target s.inj ∧ u.tm = (s.reachUp i.value.toNat).tm ∧ s.keepsBut [.tm, .regs, .strm, .host, .cq, .inj] u) := by
  have hexec : exec (.injectionDurationEnd target) s = .next ({ s.reachUp i.value.toNat with inj := dropTimed target (s.reachUp i.value.toNat).inj } : State).postAll := by
    change execInjectionDurationEnd target s = _
    unfold execInjectionDurationEnd
    rw [htimed]
  have hreach := s.reachUp_changes i.value.toNat
  have hinj : (s.reachUp i.value.toNat).inj = s.inj := hreach .inj (by decide)
  have hm := Sub.refl 2201707642897
  have hposted : Frm 2684387344 _ _ := State.postAll_frm (Sub.refl _) (Frm.refl _ ({ s.reachUp i.value.toNat with inj := dropTimed target (s.reachUp i.value.toNat).inj } : State))
  refine ⟨_, hexec, (hposted .inj (by decide)).trans (congrArg (dropTimed target) hinj), hposted .tm (by decide), ?_⟩
  exact ((frm_mk (hreach.mono (hm.le (by decide)))).trans (hposted.mono (hm.le (by decide)))).keepsParts (by decide)

theorem execInjectionDurationEnd_none (hnone : s.inj.find? (fun i => decide (i.target = target) && i.timed) = none) :
    exec (.injectionDurationEnd target) s = .next s := by
  change execInjectionDurationEnd target s = _
  unfold execInjectionDurationEnd
  rw [hnone]

/-! ### The statement -/

section
variable (h : ∃ t, InjectsBy s id d c target action t) (hd : s.serves id 0x80 d) (htarget : field (d.p 0) 7 0 = target) (haction : (d.p 1).toNat = action)
include h hd htarget haction

/-- The four refusals of an injection, each behind those before it (assumption 31). -/
theorem injectsBy_refused :
    (s.sv.injectOpen = false → exec c s = .next (s.retireBad d 0x0509))
    ∧ (s.sv.injectOpen = true → s.injOwned target (d.p 2) = true → s.sealOpen = false → exec c s = .next (s.retireBad d 0x0540))
    ∧ (s.sv.injectOpen = true → (s.injOwned target (d.p 2) = false ∨ s.sealOpen = true) → injIndexOk target action (d.p 2) (d.p 4) = false → exec c s = .next (s.retireBad d 0x0002))
    ∧ (s.sv.injectOpen = true → (s.injOwned target (d.p 2) = false ∨ s.sealOpen = true) → injIndexOk target action (d.p 2) (d.p 4) = true →
      s.injReady target action (d.p 2).toNat = false → exec c s = .next (s.retireBad d 0x0006)) := by
  obtain ⟨t, ht⟩ := h
  exact ⟨ht.locked hd htarget haction, ht.sealed hd htarget haction, ht.badParam hd htarget haction, ht.notReady hd htarget haction⟩

end

/-- What an injection that nothing refuses leaves is what its effect leaves. -/
theorem InjectsBy.runs {P : State → Prop} (h : InjectsBy s id d c target action t) (ht : P t) (hd : s.serves id 0x80 d) (hallowed : s.injAllowed d)
    (htarget : field (d.p 0) 7 0 = target) (haction : (d.p 1).toNat = action) : Runs c s P :=
  ⟨t, h.taken hd hallowed htarget haction, ht⟩

theorem injectsBy_only {f : Desc → State → State} (hexec : exec c s = s.injectCmd id (only target) action f) (heffect : f d s = t) : InjectsBy s id d c target action t :=
  ⟨only target, f, hexec, decide_eq_true rfl, heffect⟩

theorem injectsBy_counted {value : Desc → Int} (hexec : exec c s = s.injCounted id target action value) :
    InjectsBy s id d c target action ((s.injAdd target action (d.p 2).toNat (d.p 3).toNat (value d)).injDone d) := injectsBy_only hexec rfl

theorem injectsBy_link {p : Nat} {f : Desc → State → State} (hexec : exec c s = s.injectCmd id isLink action f) (hp : p < 3) (heffect : f d s = t) :
    InjectsBy s id d c (p + 1) action t := ⟨isLink, f, hexec, decide_eq_true (by omega), heffect⟩

theorem State.linkInject_leaves {p : Nat} (hport : d.port = p) (action filter : Nat) :
    let u := (s.linkInject d action filter).injDone d
    u.link = (if (d.p 2).toNat = 0 then s else s.updLink p (fun l => { l with inject := l.inject ++ [⟨action, (d.p 2).toNat, filter, (d.p 4).toNat⟩] })).link
      ∧ s.keepsBut linkInjParts u := by
  obtain ⟨hlink, hkeeps⟩ := State.injDone_links d (s.linkInject_changes d action filter)
  refine ⟨hlink.trans ?_, hkeeps⟩
  unfold State.linkInject
  rw [hport]

/-- INJECT_ENGINE_WATCHDOG stops the engine at once (R465). -/
theorem State.engineInjected_absent (s : State) (d : Desc) :
    let u := ((s.injDone d).bump 0x80004).underInj true State.engineRestart
    u.boot.engine = .absent ∧ u.injectedNow = s.injectedNow :=
  ⟨(State.engineRestart_boot _).1, s.injDone_changes d .injectedNow (by decide)⟩

/-- Settles O60: InjectsBy says what a command of the injector answers, and the lemmas on its effects what is pending then; INJECT_CANCEL and the end of a timed injection are run as they stand. -/
theorem injectionsAreRefusedOrPending : Obligations.InjectionsAreRefusedOrPending := by
  refine fun s => ⟨fun id d hd => ?refusals, fun id d hd hopen howned hindex hready => ?effects, fun id d hd haction => ⟨fun hclosed => ?locked, fun hopen => execInjectCancel_clears hd haction hopen⟩,
    fun target i => execInjectionDurationEnd_ends, fun target => execInjectionDurationEnd_none⟩
  case refusals =>
    refine fun e he => injectsBy_refused ?_ hd
    revert e
    simp only [List.forall_mem_cons]
    exact ⟨⟨_, injectsBy_counted rfl⟩, ⟨_, injectsBy_counted rfl⟩, ⟨_, injectsBy_counted rfl⟩, ⟨_, injectsBy_counted rfl⟩, ⟨_, injectsBy_counted rfl⟩, ⟨_, injectsBy_counted rfl⟩,
      ⟨_, injectsBy_counted rfl⟩, ⟨_, injectsBy_counted rfl⟩, ⟨_, injectsBy_counted rfl⟩, ⟨_, injectsBy_counted rfl⟩, ⟨_, injectsBy_counted rfl⟩,
      ⟨_, injectsBy_only (rfl : execInjectMemCorrectable id s = _) rfl⟩, ⟨_, injectsBy_only (rfl : execInjectMemUncorrectable id s = _) rfl⟩, ⟨_, injectsBy_only (rfl : execInjectHostDmaError id s = _) rfl⟩,
      ⟨_, injectsBy_only (rfl : execInjectHostPostingHeld id s = _) rfl⟩, ⟨_, injectsBy_only (rfl : execInjectEngineWatchdog id s = _) rfl⟩, ⟨_, injectsBy_only (rfl : execInjectFireflyTheta id s = _) rfl⟩,
      ⟨_, injectsBy_only (rfl : execInjectFireflyInvalid id s = _) rfl⟩, ⟨_, injectsBy_counted rfl⟩, ⟨_, injectsBy_only (rfl : execInjectTwinAliveStop id s = _) rfl⟩,
      ⟨_, injectsBy_only (rfl : execInjectTwinHealthWithheld id s = _) rfl⟩, ⟨_, injectsBy_only (rfl : execInjectPumpSag id s = _) rfl⟩, ⟨_, injectsBy_only (rfl : execInjectFatal id s = _) rfl⟩,
      ⟨_, injectsBy_link (p := 0) (rfl : execInjectDrop id s = _) (by decide) rfl⟩, ⟨_, injectsBy_link (p := 1) (rfl : execInjectCorrupt id s = _) (by decide) rfl⟩,
      ⟨_, injectsBy_link (p := 2) (rfl : execInjectReorder id s = _) (by decide) rfl⟩, ⟨_, injectsBy_link (p := 0) (rfl : execInjectTag id s = _) (by decide) rfl⟩,
      ⟨_, injectsBy_link (p := 1) (rfl : execInjectHeader id s = _) (by decide) rfl⟩, ⟨_, injectsBy_link (p := 2) (rfl : execInjectSquelch id s = _) (by decide) rfl⟩, fun _ hnil => absurd hnil List.not_mem_nil⟩
  case locked => rw [execInjectCancel_answers hd haction, if_pos hclosed]
  case effects =>
    have hallowed : s.injAllowed d := ⟨hopen, howned, hindex, hready⟩
    refine ⟨?counted, ?once, ?exchanges, ?timed, fun p hp htarget => ⟨?frames, fun haction => ?headers, fun haction hus => ?squelch⟩, fun htarget haction => ?watchdog, fun htarget haction => ?fatal⟩
    case counted =>
      refine fun e he => InjectsBy.runs ?_ (s.injAdd_pends d e.2.1 e.2.2.1 (d.p 2).toNat (d.p 3).toNat e.2.2.2) hd hallowed
      revert e
      simp only [List.forall_mem_cons]
      exact ⟨injectsBy_counted (value := noValue) rfl, injectsBy_counted (value := noValue) rfl, injectsBy_counted (value := noValue) rfl, injectsBy_counted (value := noValue) rfl,
        injectsBy_counted (value := noValue) rfl, injectsBy_counted (value := noValue) rfl, injectsBy_counted (value := valueP4) rfl, injectsBy_counted (value := valueP4) rfl,
        injectsBy_counted (value := valueP4) rfl, injectsBy_counted (value := valueP4) rfl, injectsBy_counted (value := noValue) rfl, injectsBy_counted (value := valueP4) rfl, fun _ hnil => absurd hnil List.not_mem_nil⟩
    case once =>
      refine fun e he => InjectsBy.runs ?_ (s.injAdd_pends_one d e.2.1 e.2.2 (d.p 2).toNat 0 one_ne_zero) hd hallowed
      revert e
      simp only [List.forall_mem_cons]
      exact ⟨injectsBy_only (rfl : execInjectMemCorrectable id s = _) rfl, injectsBy_only (rfl : execInjectMemUncorrectable id s = _) rfl, injectsBy_only (rfl : execInjectHostDmaError id s = _) rfl, fun _ hnil => absurd hnil List.not_mem_nil⟩
    case exchanges =>
      refine fun e he htarget haction hn => InjectsBy.runs ?_ (s.injAdd_pends_one d 10 e.2.1 0 e.2.2 (by omega)) hd hallowed htarget haction
      clear haction
      revert e
      simp only [List.forall_mem_cons]
      exact ⟨injectsBy_only (rfl : execInjectFireflyTheta id s = _) rfl, injectsBy_only (rfl : execInjectFireflyInvalid id s = _) rfl, fun _ hnil => absurd hnil List.not_mem_nil⟩
    case timed =>
      refine fun e he htarget haction hus => InjectsBy.runs ?_ (s.injTimed_pends d e.2.1 e.2.2.1 e.2.2.2 hus) hd hallowed htarget haction
      clear htarget haction
      revert e
      simp only [List.forall_mem_cons]
      exact ⟨injectsBy_only (rfl : execInjectHostPostingHeld id s = _) rfl, injectsBy_only (rfl : execInjectTwinAliveStop id s = _) rfl, injectsBy_only (rfl : execInjectTwinHealthWithheld id s = _) rfl, injectsBy_only (rfl : execInjectPumpSag id s = _) rfl,
        fun _ hnil => absurd hnil List.not_mem_nil⟩
    case frames =>
      have hport : d.port = p := by rw [Desc.port, htarget, Nat.add_sub_cancel]
      refine fun e he => InjectsBy.runs ?_ (s.linkInject_leaves hport e.2.1 e.2.2) hd hallowed htarget
      revert e
      simp only [List.forall_mem_cons]
      exact ⟨injectsBy_link (rfl : execInjectDrop id s = _) hp rfl, injectsBy_link (rfl : execInjectCorrupt id s = _) hp rfl, injectsBy_link (rfl : execInjectReorder id s = _) hp rfl, injectsBy_link (rfl : execInjectTag id s = _) hp rfl,
        fun _ hnil => absurd hnil List.not_mem_nil⟩
    case headers =>
      have hport : d.port = p := by rw [Desc.port, htarget, Nat.add_sub_cancel]
      have hleaves := s.headers_leaves d p (d.p 4).toNat (d.p 2).toNat
      rw [← hport] at hleaves
      exact InjectsBy.runs (injectsBy_link (rfl : execInjectHeader id s = _) hp rfl) (hport ▸ hleaves) hd hallowed htarget haction
    case squelch =>
      have hport : d.port = p := by rw [Desc.port, htarget, Nat.add_sub_cancel]
      refine InjectsBy.runs (injectsBy_link (rfl : execInjectSquelch id s = _) hp rfl) ?_ hd hallowed htarget haction
      have hpends := s.squelch_pends d p (d.p 4).toNat (d.p 2).toNat
      dsimp only
      rw [if_neg hus.ne', hport]
      exact hpends
    case watchdog =>
      exact InjectsBy.runs (injectsBy_only (rfl : execInjectEngineWatchdog id s = _) rfl) (s.engineInjected_absent d) hd hallowed htarget haction
    case fatal => exact InjectsBy.runs (injectsBy_only (rfl : execInjectFatal id s = _) rfl) (State.unitFatal_fatal _ _) hd hallowed htarget haction

end Sys2Proof.Machine
end

section
/-! PROOFS. Ports of the line: what sending leaves of a port (R257, R261), its changes of state (Table 10-5), and which parts of the hub each of them touches. -/

namespace Sys2Proof.Machine

open Sys2Proof

set_option Elab.async false

variable {O : OtpSt} {Q : List Instr} {s t u : State} {m n p q : Nat}

/-! ### What sending leaves of a port (R257, R261) -/

/-- Keys but for how often they have been used for sending (R272). -/
def unused (k : Option LinkKeys) : Option LinkKeys := k.map (fun k => { k with counter := 0 })

theorem unused_used (k : Option LinkKeys) : unused (k.map LinkKeys.used) = unused k := by cases k <;> rfl

/-- Two states of a port that differ in what sending changes alone: the frames it holds, how often its keys have been used, whether one was lost, and what its lanes carry. -/
structure OnSending (l u : LinkSt) : Prop where
  port : u = { l with
    queues := u.queues, current := u.current, replay := u.replay, resend := u.resend, txNext := u.txNext, keys := u.keys, discarded := u.discarded,
    ctlWait := u.ctlWait, wire := u.wire, scram0 := u.scram0, scram1 := u.scram1, txPos := u.txPos, bad0 := u.bad0, bad1 := u.bad1, sent := u.sent }
  keys : unused u.keys = unused l.keys

theorem OnSending.refl (l : LinkSt) : OnSending l l := ⟨rfl, rfl⟩

theorem OnSending.trans {l u v : LinkSt} (h : OnSending l u) (g : OnSending u v) : OnSending l v :=
  ⟨Eq.trans g.port (congrArg (fun w : LinkSt => { w with
    queues := v.queues, current := v.current, replay := v.replay, resend := v.resend, txNext := v.txNext, keys := v.keys, discarded := v.discarded,
    ctlWait := v.ctlWait, wire := v.wire, scram0 := v.scram0, scram1 := v.scram1, txPos := v.txPos, bad0 := v.bad0, bad1 := v.bad1, sent := v.sent }) h.port),
    g.keys.trans h.keys⟩

theorem OnLanes.keys {l u : LinkSt} (h : OnLanes l u) : u.keys = l.keys := by rw [h]

theorem OnLanes.sending {l u : LinkSt} (h : OnLanes l u) : OnSending l u := by
  refine ⟨?_, congrArg unused h.keys⟩
  rw [h]

theorem OnSending.mode {l u : LinkSt} (h : OnSending l u) : u.mode = l.mode := by rw [h.port]

theorem LinkSt.catchUp_onSending (l : LinkSt) (up : Nat) : OnSending l (l.catchUp up) := (l.catchUp_onLanes up).sending

/-- A port holds a frame that starts, under its keys or, as it is not in service, without. -/
theorem LinkSt.starts_onSending (l : LinkSt) (up : Nat) {queues replay : List TxFrame} {current : Option TxFrame} {resend : List (BitVec 12)} {txNext : BitVec 12} :
    OnSending l { l.catchUp up with queues := queues, current := current, replay := replay, resend := resend, txNext := txNext, keys := (l.catchUp up).keys.map LinkKeys.used } :=
  (l.catchUp_onSending up).trans ⟨rfl, unused_used _⟩

theorem State.stampReq_linkOf (s : State) (p : Nat) (body : TxBody) (retry : Bool) (q : Nat) : (s.stampReq p body retry).linkOf q = s.linkOf q :=
  (State.stampReq_frm (m := 33554432) (Sub.refl _) (Frm.refl _ s)).linkOf (by decide)

/-- A frame that starts changes its port as sending does. -/
theorem State.startNext_onSending (h : Good O Q s) : OnSending (s.linkOf p) ((s.startNext p).linkOf p) := by
  unfold State.startNext
  split
  · exact OnSending.refl _
  · split
    · dsimp only
      split
      · split
        · rw [State.stampReq_linkOf]
          refine Eq.subst (motive := OnSending (s.linkOf p)) (State.linkOf_setLink_self h).symm ?_
          exact (s.linkOf p).starts_onSending s.tm.up
        · rw [State.linkOf_setLink_self h]
          exact ⟨rfl, rfl⟩
      · split
        · split
          · rw [State.stampReq_linkOf, State.linkOf_setLink_self h]
            exact (s.linkOf p).starts_onSending s.tm.up
          · exact OnSending.refl _
        · exact OnSending.refl _
    · dsimp only
      split
      · rw [State.linkOf_setLink_self h]
        exact ((s.linkOf p).catchUp_onSending s.tm.up).trans ⟨rfl, rfl⟩
      · exact OnSending.refl _

/-- t keeps the invariant, and of its ports only p differs from s, as sending changes it; registers differ in LINK_RETRIES and LINK_TX_LOST of p. -/
structure Sends (O : OtpSt) (Q : List Instr) (p : Nat) (s t : State) : Prop where
  good : Good O Q t
  port : OnSending (s.linkOf p) (t.linkOf p)
  at_ : AtPort p s t

theorem Sends.refl (h : Good O Q s) : Sends O Q p s s := ⟨h, OnSending.refl _, AtPort.refl p s⟩

theorem Sends.trans (h : Sends O Q p s t) (g : Sends O Q p t u) : Sends O Q p s u := ⟨g.good, h.port.trans g.port, h.at_.trans g.at_⟩

theorem Sends.other (h : Sends O Q p s t) (hq : q ≠ p) : t.linkOf q = s.linkOf q := h.at_.2 q hq

theorem Sends.mode (h : Sends O Q p s t) : (t.linkOf p).mode = (s.linkOf p).mode := h.port.mode

theorem State.startNext_sends (h : Good O Q s) : Sends O Q p s (s.startNext p) := ⟨State.startNext_good h, State.startNext_onSending h, s.startNext_atPort p⟩

theorem State.setLink_sends {l : LinkSt} (h : Good O Q s) (hl : OnSending (s.linkOf p) l) : Sends O Q p s (s.setLink p l) :=
  ⟨State.setLink_good h, (State.linkOf_setLink_self h).symm ▸ hl, s.setLink_atPort p l⟩

theorem State.enqueue_sends {cls : TxClass} {body : TxBody} {tsReq : Bool} {tsId : BitVec 16} (h : Good O Q s) : Sends O Q p s (s.enqueue p cls body tsReq tsId) :=
  (State.setLink_sends (l := { s.linkOf p with queues := (s.linkOf p).queues ++ [TxFrame.mk' cls body tsReq tsId s.tm.up] }) h ⟨rfl, rfl⟩).trans (State.startNext_sends (State.setLink_good h))

theorem State.txLost_sends (h : Good O Q s) : Sends O Q p s (s.txLost p) :=
  ⟨State.updLink_good (State.bump_good h), (State.linkOf_updLink_self (State.bump_good h)).symm ▸ ⟨rfl, rfl⟩, s.txLost_atPort p⟩

theorem State.healthForm_sends (h : Good O Q s) : Sends O Q 2 s s.healthForm := by
  refine ⟨State.healthForm_good h, ?_, fun _ _ _ => rfl, fun _ hq => State.linkOf_updLink_other hq⟩
  unfold State.healthForm
  rw [State.linkOf_updLink_self (good_mk h rfl rfl rfl rfl)]
  exact ⟨rfl, rfl⟩

theorem State.tellLost_sends (h : Good O Q s) : Sends O Q p s (s.tellLost p) := by
  unfold State.tellLost
  split
  next hport =>
    obtain ⟨rfl, -⟩ := hport
    exact (State.healthForm_sends h).trans (State.enqueue_sends (State.healthForm_good h))
  next => exact Sends.refl h

theorem State.queueFrame_sends {cls : TxClass} {body : TxBody} {tsReq : Bool} {tsId : BitVec 16} (h : Good O Q s) : Sends O Q p s (s.queueFrame p cls body tsReq tsId) := by
  have hlost := State.txLost_sends (p := p) h
  unfold State.queueFrame State.doIf
  split
  · exact State.enqueue_sends h
  · split
    · exact hlost.trans (State.tellLost_sends hlost.good)
    · exact hlost

theorem State.sendOn_sends {cls : TxClass} {body : TxBody} (h : Good O Q s) : Sends O Q p s (s.sendOn p cls body) := State.queueFrame_sends h

theorem State.sendHealth_sends (h : Good O Q s) : Sends O Q 2 s s.sendHealth := by
  unfold State.sendHealth
  split
  · exact Sends.refl h
  · exact (State.healthForm_sends h).trans (State.sendOn_sends (State.healthForm_good h))

theorem State.sendOn_changes (s : State) (p : Nat) (cls : TxClass) (body : TxBody) : Frm 8891924496 s (s.sendOn p cls body) := State.sendOn_frm (Sub.refl _) (Frm.refl _ s)

/-! ### Changes of a port's state (Table 10-5) -/

/-- Two states of a port that differ in its place in Table 10-5 alone: its state and since when, its receive clock, and what its lanes carry. -/
def OnMode (l u : LinkSt) : Prop :=
  u = { l with
    mode := u.mode, testUp := u.testUp, clockLock := u.clockLock,
    ctlWait := u.ctlWait, wire := u.wire, scram0 := u.scram0, scram1 := u.scram1, txPos := u.txPos, bad0 := u.bad0, bad1 := u.bad1, sent := u.sent }

/-- The port as it enters another state. -/
def LinkSt.enters (l : LinkSt) (up : Nat) (mode : PortMode) : LinkSt :=
  { l.catchUp up with mode := mode, testUp := up, clockLock := (l.catchUp up).clockLock && decide (mode ≠ .disabled ∧ mode ≠ .sleep) }

theorem LinkSt.enters_onMode (l : LinkSt) (up : Nat) (mode : PortMode) : OnMode l (l.enters up mode) := by
  unfold OnMode LinkSt.enters
  rw [l.catchUp_onLanes up]

/-- A state in which the receive clock goes on. -/
theorem LinkSt.enters_awake (l : LinkSt) (up : Nat) {mode : PortMode} (hmode : mode ≠ .disabled ∧ mode ≠ .sleep) : l.enters up mode = { l.catchUp up with mode := mode, testUp := up } := by
  simp [LinkSt.enters, hmode]

theorem State.testKeep_linkOf (s : State) (p q : Nat) : (s.testKeep p).linkOf q = s.linkOf q := by
  unfold State.testKeep
  split <;> rfl

theorem State.testKeep_reg {a : Nat} (ha : a ≠ Reg.link p 0x40) (hb : a ≠ Reg.link p 0x44) : (s.testKeep p).reg a = s.reg a := by
  unfold State.testKeep
  split
  · exact (State.reg_setReg_other hb).trans (State.reg_setReg_other ha)
  · rfl

section
variable {mode : PortMode}

theorem State.linkMode_same (hmode : (s.linkOf p).mode = mode) : s.linkMode p mode = s := if_pos hmode

theorem State.linkMode_traced (hmode : (s.linkOf p).mode ≠ mode) : s.linkMode p mode = ((s.testKeep p).updLink p (fun l =>
    { l.catchUp s.tm.up with mode := mode, testUp := s.tm.up, clockLock := l.clockLock && decide (mode ≠ .disabled ∧ mode ≠ .sleep) })).traceFree 4 := if_neg hmode

theorem State.traceFree_linkOf (s : State) (source q : Nat) : (s.traceFree source).linkOf q = s.linkOf q :=
  (State.traceFree_frm (m := 9345848836112) (Sub.refl _) (Frm.refl _ s)).linkOf (by decide)

theorem State.linkMode_enters (h : Good O Q s) (hmode : (s.linkOf p).mode ≠ mode) : (s.linkMode p mode).linkOf p = (s.linkOf p).enters s.tm.up mode := by
  have hclock : ((s.linkOf p).catchUp s.tm.up).clockLock = (s.linkOf p).clockLock := by rw [(s.linkOf p).catchUp_onLanes s.tm.up]
  rw [State.linkMode_traced hmode, State.traceFree_linkOf, State.linkOf_updLink_self (State.testKeep_good h), State.testKeep_linkOf, LinkSt.enters, hclock]

theorem State.linkMode_onMode (h : Good O Q s) : OnMode (s.linkOf p) ((s.linkMode p mode).linkOf p) := by
  by_cases hmode : (s.linkOf p).mode = mode
  · rw [State.linkMode_same hmode]
    rfl
  · rw [State.linkMode_enters h hmode]
    exact (s.linkOf p).enters_onMode _ _

theorem State.linkMode_mode (h : Good O Q s) : ((s.linkMode p mode).linkOf p).mode = mode := by
  by_cases hmode : (s.linkOf p).mode = mode
  · rw [State.linkMode_same hmode, hmode]
  · rw [State.linkMode_enters h hmode]
    rfl

theorem State.linkMode_other (hq : q ≠ p) : (s.linkMode p mode).linkOf q = s.linkOf q := by
  by_cases hmode : (s.linkOf p).mode = mode
  · rw [State.linkMode_same hmode]
  · rw [State.linkMode_traced hmode, State.traceFree_linkOf, State.linkOf_updLink_other hq, State.testKeep_linkOf]

/-- A change of state leaves the registers alone but for the bit errors kept and the trace's own. -/
theorem State.linkMode_reg {a : Nat} (hquiet : quietReg a) (ha : a ≠ Reg.link p 0x40) (hb : a ≠ Reg.link p 0x44) : (s.linkMode p mode).reg a = s.reg a := by
  by_cases hmode : (s.linkOf p).mode = mode
  · rw [State.linkMode_same hmode]
  · rw [State.linkMode_traced hmode]
    exact (State.traceFree_reg hquiet).trans (State.testKeep_reg ha hb)

theorem State.linkMode_changes (s : State) (p : Nat) (mode : PortMode) : Frm 9346117271568 s (s.linkMode p mode) := State.linkMode_frm (Sub.refl _) (Frm.refl _ s)

end

/-! ### Bring-up touches one port -/

/-- The parts in which a port's bring-up acts: time, registers, ports, trace and free values. -/
def bringUpSet : Nat := 9346117271569

/-- t keeps the invariant; of the ports only p differs from s, and else at most the parts of a bring-up. -/
structure PortAlone (O : OtpSt) (Q : List Instr) (p : Nat) (s t : State) : Prop where
  good : Good O Q t
  other : ∀ q, q ≠ p → t.linkOf q = s.linkOf q
  changes : Frm bringUpSet s t

theorem PortAlone.refl (h : Good O Q s) : PortAlone O Q p s s := ⟨h, fun _ _ => rfl, Frm.refl _ s⟩

theorem PortAlone.trans (h : PortAlone O Q p s t) (g : PortAlone O Q p t u) : PortAlone O Q p s u :=
  ⟨g.good, fun q hq => (g.other q hq).trans (h.other q hq), h.changes.trans g.changes⟩

/-- What the statements say of the rest of the hub. -/
theorem PortAlone.only (h : PortAlone O Q p s t) : (∀ q, q ≠ p → t.linkOf q = s.linkOf q) ∧ s.keepsBut [.tm, .regs, .link, .trace, .freeCtr] t :=
  ⟨h.other, h.changes.keepsParts (by decide)⟩

theorem PortAlone.frm (hgood : Good O Q t) (hframe : Frm m s t) (hlink : m.testBit 28 = false) (hm : m &&& bringUpSet = m) : PortAlone O Q p s t :=
  ⟨hgood, fun _ _ => hframe.linkOf hlink, hframe.mono ((Sub.refl _).le hm)⟩

theorem State.setLink_alone {l : LinkSt} (h : Good O Q s) : PortAlone O Q p s (s.setLink p l) :=
  ⟨State.setLink_good h, fun _ hq => State.linkOf_setLink_other hq, State.setLink_frm ((Sub.refl _).le (by decide)) (Frm.refl _ s)⟩

theorem State.updLink_alone {f : LinkSt → LinkSt} (h : Good O Q s) : PortAlone O Q p s (s.updLink p f) := State.setLink_alone h

theorem State.linkMode_alone {mode : PortMode} (h : Good O Q s) : PortAlone O Q p s (s.linkMode p mode) :=
  ⟨State.linkMode_good h, fun _ hq => State.linkMode_other hq, (s.linkMode_changes p mode).mono ((Sub.refl _).le (by decide))⟩

theorem State.bumpBy_alone {a k : Nat} (h : Good O Q s) : PortAlone O Q p s (s.bumpBy a k) :=
  PortAlone.frm (State.bumpBy_good h) (State.bumpBy_frm (Sub.refl _) (Frm.refl _ s)) (by decide) (by decide)

theorem State.setBit_alone {a b : Nat} (h : Good O Q s) : PortAlone O Q p s (s.setBit a b) :=
  PortAlone.frm (State.setBit_good h) (State.setBit_frm (Sub.refl _) (Frm.refl _ s)) (by decide) (by decide)

theorem State.reachUp_alone {up : Nat} (h : Good O Q s) : PortAlone O Q p s (s.reachUp up) :=
  PortAlone.frm (State.reachUp_good h) (s.reachUp_changes up) (by decide) (by decide)

theorem State.reachUp_linkOf (s : State) (up q : Nat) : (s.reachUp up).linkOf q = s.linkOf q := (s.reachUp_changes up).linkOf (by decide)

/-! ### A full bring-up begins (R263, R281) -/

/-- The port as a full bring-up begins with it. -/
def LinkSt.anew (l : LinkSt) (up policy : Nat) (sleeps : Bool) : LinkSt :=
  { l with
    fast := false, rate := 0, trial := none, trialStep := 0, back := false, faultCause := 0, lastTrain := none, keys := none, oldKeys := none, newKeys := none,
    queues := l.queues.filter (fun f => !f.isTraining), current := none, clockLock := false,
    testUp := if l.mode = .detect then up else l.testUp, policy := policy, sleeps := sleeps }

/-- A full bring-up once the port is out of service. -/
def State.detectFrom (s t : State) (p : Nat) : State :=
  (t.lanesStart p).updLink p (fun l => l.anew s.tm.up (s.cfgv Fld.linkSpeedPolicy p 0) (s.cfgOn Fld.linkIdleSleep p))

theorem State.linkDetect_eq (s : State) (p : Nat) : s.linkDetect p = (s.detectFrom (s.linkExit p 0) p).linkMode p .detect := rfl

theorem State.linkExit_idle {cause : Nat} (hidle : s.inService p = false) : s.linkExit p cause = s := if_pos hidle

theorem State.freeNext_alone (h : Good O Q s) : PortAlone O Q p s { s with freeCtr := s.freeCtr + 1 } :=
  PortAlone.frm (m := 8796093022208) (good_mk h rfl rfl rfl rfl) (State.freeNext_frm (Sub.refl _) (Frm.refl _ s)) (by decide) (by decide)

theorem State.lanesStart_alone (h : Good O Q s) : PortAlone O Q p s (s.lanesStart p) :=
  (State.freeNext_alone h).trans (State.updLink_alone (good_mk h rfl rfl rfl rfl))

theorem State.detectFrom_alone (u : State) (h : Good O Q s) : PortAlone O Q p s (u.detectFrom s p) :=
  (State.lanesStart_alone h).trans (State.updLink_alone (State.lanesStart_alone (p := p) h).good)

theorem State.lanesStart_linkOf (h : Good O Q s) : (s.lanesStart p).linkOf p = { s.linkOf p with
    laneUp := s.tm.up, txPos := 0, ctlWait := [], bad0 := 0, bad1 := 0, scram0 := Config.scrambler s.freeCtr 0, scram1 := Config.scrambler s.freeCtr 1 } :=
  State.linkOf_updLink_self (good_mk h rfl rfl rfl rfl)

theorem State.linkDetect_mode (h : Good O Q s) : ((s.linkDetect p).linkOf p).mode = .detect :=
  State.linkMode_mode (State.detectFrom_alone s (State.linkExit_good h)).good

theorem State.linkDetect_alone (h : Good O Q s) (hidle : s.inService p = false) : PortAlone O Q p s (s.linkDetect p) := by
  rw [State.linkDetect_eq, State.linkExit_idle hidle]
  exact (State.detectFrom_alone s h).trans (State.linkMode_alone (State.detectFrom_alone s h).good)

theorem State.linkDetect_tm (hidle : s.inService p = false) : (s.linkDetect p).tm = s.tm := by
  have hmode : (s.linkDetect p).tm = (s.detectFrom s p).tm := by
    rw [State.linkDetect_eq, State.linkExit_idle hidle]
    exact State.linkMode_changes _ p .detect .tm (by decide)
  exact hmode

/-- The port of a full bring-up from outside service. -/
theorem State.linkDetect_port (h : Good O Q s) (hidle : s.inService p = false) : let u := (s.linkDetect p).linkOf p
    u.mode = .detect ∧ u.rate = 0 ∧ u.keys = none ∧ u.fast = false ∧ u.faultCause = 0 ∧ u.chirpUp = (s.linkOf p).chirpUp := by
  have hport : (s.detectFrom s p).linkOf p = LinkSt.anew { s.linkOf p with
      laneUp := s.tm.up, txPos := 0, ctlWait := [], bad0 := 0, bad1 := 0, scram0 := Config.scrambler s.freeCtr 0, scram1 := Config.scrambler s.freeCtr 1 }
      s.tm.up (s.cfgv Fld.linkSpeedPolicy p 0) (s.cfgOn Fld.linkIdleSleep p) := by
    rw [State.detectFrom, State.linkOf_updLink_self (State.lanesStart_alone (p := p) h).good, State.lanesStart_linkOf h]
  have hmode := State.linkMode_onMode (p := p) (mode := .detect) (State.detectFrom_alone (p := p) s h).good
  refine ⟨State.linkDetect_mode h, ?_⟩
  rw [State.linkDetect_eq, State.linkExit_idle hidle, hmode, hport]
  exact ⟨rfl, rfl, rfl, rfl, rfl⟩

/-- A register of the port that a full bring-up from outside service leaves alone. -/
theorem State.linkDetect_reg {a : Nat} (hidle : s.inService p = false) (hquiet : quietReg a) (ha : a ≠ Reg.link p 0x40) (hb : a ≠ Reg.link p 0x44) :
    (s.linkDetect p).reg a = s.reg a := by
  rw [State.linkDetect_eq, State.linkExit_idle hidle, State.linkMode_reg hquiet ha hb]
  rfl

end Sys2Proof.Machine
end

section
/-! PROOFS. Ports of the line: FAULT (R268), the return to service (R267), and what the reports of a cycle leave of ports and registers. -/

namespace Sys2Proof.Machine

open Sys2Proof

set_option Elab.async false

variable {O : OtpSt} {Q : List Instr} {s t : State} {m n p q cause : Nat} {f : State → State}

/-! ### Reports of a cycle (R457) -/

/-- What a cycle leaves is what its changes leave, but for the records of its errors. -/
theorem State.oneCycle_reports (s : State) (f : State → State) :
    ∃ g, Frm reportSet (f (s.gathering g)) (s.oneCycle f) ∧ ∀ a, quietReg a → (s.oneCycle f).reg a = (f (s.gathering g)).reg a := by
  obtain ⟨g, h | ⟨-, h⟩⟩ := s.oneCycle_cases f
  · rw [h]
    exact ⟨g, Frm.refl _ _, fun _ _ => rfl⟩
  · rw [h]
    exact ⟨g, State.cycleEnds_changes _, fun _ ha => State.cycleEnds_reg ha⟩

theorem State.raise_linkOf (s : State) (e : ErrIn) (q : Nat) : (s.raise e).linkOf q = s.linkOf q :=
  (State.raise_frm (m := reportSet) (Sub.refl _) (Frm.refl _ s)).linkOf (by decide)

/-- No report reaches the registers of a port. -/
theorem Reg.link_quiet {i : Nat} (hp : p < 3) (hi : i < 0x1000) : quietReg (Reg.link p i) := by
  unfold quietReg Reg.link
  omega

theorem pidx_lt (p : Port) : pidx p < 3 := by cases p <;> decide

/-! ### FAULT (R268) -/

/-- The port as FAULT begins with it. -/
def LinkSt.faulted (l : LinkSt) (cause : Nat) : LinkSt := { l with faultCause := cause, fast := false, lastTrain := none }

/-- A port as it enters FAULT, before that is reported. -/
def State.portFaulted (s : State) (p cause : Nat) : State := (s.updLink p (fun l => l.faulted cause)).linkMode p .fault

theorem State.faultEnter_eq (s : State) (p cause : Nat) :
    s.faultEnter p cause = ((s.portFaulted p cause).setBit (Reg.link p 0) 13).raise { errAt 1 (Reg.link p 0) 13 p with detail := cause + 16, recovers := true } := rfl

theorem State.faultEnter_linkOf (s : State) (p cause q : Nat) : (s.faultEnter p cause).linkOf q = (s.portFaulted p cause).linkOf q := by
  rw [State.faultEnter_eq, State.raise_linkOf]
  rfl

theorem State.portFaulted_good (h : Good O Q s) : Good O Q (s.portFaulted p cause) := State.linkMode_good (State.updLink_good h)

theorem State.faultEnter_state (h : Good O Q s) : ((s.faultEnter p cause).linkOf p).mode = .fault ∧ ((s.faultEnter p cause).linkOf p).faultCause = cause := by
  have hmode := State.linkMode_onMode (p := p) (mode := .fault) (State.updLink_good (n := p) (f := fun l => l.faulted cause) h)
  rw [State.faultEnter_linkOf]
  refine ⟨State.linkMode_mode (State.updLink_good h), ?_⟩
  rw [State.portFaulted, hmode, State.linkOf_updLink_self h]
  rfl

theorem State.faultEnter_enters (h : Good O Q s) (hmode : (s.linkOf p).mode ≠ .fault) : (s.faultEnter p cause).linkOf p = ((s.linkOf p).faulted cause).enters s.tm.up .fault := by
  have hport : (s.updLink p (fun l => l.faulted cause)).linkOf p = (s.linkOf p).faulted cause := State.linkOf_updLink_self h
  rw [State.faultEnter_linkOf, State.portFaulted, State.linkMode_enters (State.updLink_good h) (by rwa [hport]), hport]
  rfl

theorem State.faultEnter_other (hq : q ≠ p) : (s.faultEnter p cause).linkOf q = s.linkOf q := by
  rw [State.faultEnter_linkOf, State.portFaulted, State.linkMode_other hq, State.linkOf_updLink_other hq]

theorem State.faultEnter_bit (h : Good O Q s) (hp : p < 3) : (s.faultEnter p cause).bit (Reg.link p 0) 13 = true := by
  have hreg : (s.faultEnter p cause).reg (Reg.link p 0) = ((s.portFaulted p cause).setBit (Reg.link p 0) 13).reg (Reg.link p 0) := State.raise_reg (Reg.link_quiet (i := 0) hp (by decide))
  unfold State.bit
  rw [hreg]
  exact State.setBit_bit (State.portFaulted_good h) (by decide)

/-- FAULT from outside service: the port's own state, its bit, and no other port. -/
theorem State.linkFault_leaves (h : Good O Q s) (hp : p < 3) (hidle : s.inService p = false) (hmode : (s.linkOf p).mode ≠ .fault) :
    (s.linkFault p cause).linkOf p = ((s.linkOf p).faulted cause).enters s.tm.up .fault ∧ (s.linkFault p cause).bit (Reg.link p 0) 13 = true ∧ ∀ q, q ≠ p → (s.linkFault p cause).linkOf q = s.linkOf q := by
  obtain ⟨g, hchanges, hreg⟩ := s.oneCycle_reports (fun t => (t.linkExit p 0).faultEnter p cause)
  have hstays : (s.gathering g).linkExit p 0 = s.gathering g := State.linkExit_idle hidle
  rw [hstays] at hchanges
  have hport : ∀ q, (s.linkFault p cause).linkOf q = ((s.gathering g).faultEnter p cause).linkOf q := fun q => hchanges.linkOf (by decide)
  refine ⟨(hport p).trans (State.faultEnter_enters (State.gathering_good h) hmode), ?_, fun q hq => (hport q).trans (State.faultEnter_other hq)⟩
  have hbit := State.faultEnter_bit (cause := cause) (State.gathering_good (g := g) h) hp
  unfold State.bit at hbit ⊢
  rw [State.linkFault, hreg _ (Reg.link_quiet (i := 0) hp (by decide)), hstays]
  exact hbit

/-! ### The return to service (R250, R263, R267) -/

/-- The port as a bring-up ends with it. -/
def LinkSt.trains (l : LinkSt) : LinkSt :=
  { l with fast := false, fastIn := l.fast, trained := some l.rate, lastTrain := none, trialStep := 0, trial := none, current := none, ephemeral := none, authRun := 0 }

/-- A port in service that knows its partner: what stays of what it held before. -/
structure Serves (l u : LinkSt) : Prop where
  mode : u.mode = .active
  partner : u.partner = l.partner
  rtt : u.rtt = l.rtt
  keys : unused u.keys = unused l.keys
  fast : u.fast = false
  bestRate : u.bestRate = l.bestRate

theorem OnSending.serves {l u v : LinkSt} (hl : Serves l u) (h : OnSending u v) : Serves l v := by
  obtain ⟨hmode, hpartner, hrtt, hkeys, hfast, hbest⟩ := hl
  have hport := h.port
  exact ⟨by rw [hport, hmode], by rw [hport, hpartner], by rw [hport, hrtt], h.keys.trans hkeys, by rw [hport, hfast], by rw [hport, hbest]⟩

/-- The queues' part in the return to service. -/
def State.resumed (s : State) (p : Nat) (f : IdentFrame) : State := (s.updLink p (fun l => l.trains)).linkResume p f

theorem State.resumed_good {f : IdentFrame} (h : Good O Q s) : Good O Q (s.resumed p f) := State.linkResume_good (State.updLink_good h)

/-- What the queues' part keeps of the port. -/
theorem State.resumed_keeps {f : IdentFrame} (h : Good O Q s) : let u := (s.resumed p f).linkOf p
    u.partner = (s.linkOf p).partner ∧ u.rtt = (s.linkOf p).rtt ∧ u.keys = (s.linkOf p).keys ∧ u.fast = false ∧ u.bestRate = (s.linkOf p).bestRate := by
  have htrained : (s.updLink p (fun l => l.trains)).linkOf p = (s.linkOf p).trains := State.linkOf_updLink_self h
  obtain ⟨l, lost, hl, hport⟩ : ∃ l lost, (s.resumed p f) = ((s.updLink p (fun l => l.trains)).setLink p l).bumpBy (Reg.link p 0x20) lost
      ∧ l = { (s.updLink p (fun l => l.trains)).linkOf p with known := l.known, replay := l.replay, resend := l.resend, ackUp := l.ackUp, queues := l.queues, txNext := l.txNext, rxNext := l.rxNext, lastAcked := l.lastAcked, ackSent := l.ackSent, nakFor := l.nakFor, discarded := l.discarded } :=
    ⟨_, _, rfl, rfl⟩
  have hset : (s.resumed p f).linkOf p = l := by
    rw [hl]
    exact State.linkOf_setLink_self (State.updLink_good h)
  rw [hset, hport, htrained]
  exact ⟨rfl, rfl, rfl, rfl, rfl⟩

/-- The port ACTIVE, its handling over and Firefly told. -/
def State.portActive (s : State) (p : Nat) (f : IdentFrame) : State := (((s.resumed p f).linkMode p .active).endHandling (Reg.link p 0) p).ffPortUp p

theorem State.portActive_good {f : IdentFrame} (h : Good O Q s) : Good O Q (s.portActive p f) := State.ffPortUp_good (State.endHandling_good (State.linkMode_good (State.resumed_good h)))

theorem State.portActive_serves {f : IdentFrame} (h : Good O Q s) : Serves (s.linkOf p) ((s.portActive p f).linkOf p) := by
  have hport : (s.portActive p f).linkOf p = ((s.resumed p f).linkMode p .active).linkOf p :=
    (State.ffPortUp_frm (m := 8864829276176) (Sub.refl _) (Frm.refl _ (((s.resumed p f).linkMode p .active).endHandling (Reg.link p 0) p))).linkOf (by decide)
  have hmode := State.linkMode_onMode (p := p) (mode := .active) (State.resumed_good (p := p) (f := f) h)
  obtain ⟨hpartner, hrtt, hkeys, hfast, hbest⟩ := State.resumed_keeps (p := p) (f := f) h
  rw [hport]
  refine ⟨State.linkMode_mode (State.resumed_good h), ?_, ?_, ?_, ?_, ?_⟩
  all_goals rw [hmode]
  · exact hpartner
  · exact hrtt
  · exact congrArg unused hkeys
  · exact hfast
  · exact hbest

/-- TWIN stands again. -/
def State.twinStands (s : State) (p : Nat) : State := if p = 2 then { s with twin := { s.twin with twinDownUp := none } } else s

/-- The frames a port holds start to leave, and a loss on TWIN is told. -/
def State.sendsAgain (s : State) (p : Nat) : State :=
  if p = 2 ∧ ((s.startNext p).linkOf 2).discarded = true then (s.startNext p).sendHealth else s.startNext p

theorem State.twinStands_good (h : Good O Q s) : Good O Q (s.twinStands p) := good_ite (good_mk h rfl rfl rfl rfl) h

theorem State.twinStands_linkOf (s : State) (p q : Nat) : (s.twinStands p).linkOf q = s.linkOf q := by
  unfold State.twinStands
  split <;> rfl

theorem State.sendsAgain_sends (h : Good O Q s) : Sends O Q p s (s.sendsAgain p) := by
  have hstarts := State.startNext_sends (p := p) h
  unfold State.sendsAgain
  split
  next htwin =>
    obtain ⟨rfl, -⟩ := htwin
    exact hstarts.trans (State.sendHealth_sends hstarts.good)
  next => exact hstarts

/-- A port whose partner is known enters ACTIVE under the keys it has. -/
theorem State.linkActive_serves {g : IdentFrame} (h : Good O Q s) (hpartner : (s.linkOf p).partner = some g) : Serves (s.linkOf p) ((s.linkActive p).linkOf p) := by
  have hserves := State.portActive_serves (p := p) (f := g) h
  have hgood := State.portActive_good (p := p) (f := g) h
  unfold State.linkActive
  rw [hpartner]
  revert hserves hgood
  generalize hactive : s.portActive p g = t
  intro hserves hgood
  unfold State.portActive State.resumed LinkSt.trains at hactive
  dsimp only
  rw [hactive]
  have hback : Serves (s.linkOf p) ((t.twinStands p).linkOf p) := by rwa [State.twinStands_linkOf]
  exact (State.sendsAgain_sends (State.twinStands_good hgood)).port.serves hback

/-! ### Training frames (R263) -/

theorem State.inService_of_mode (hmode : (s.linkOf p).mode ≠ .active) : s.inService p = false := decide_eq_false hmode

theorem State.mode_of_inService (hservice : s.inService p = true) : (s.linkOf p).mode = .active := of_decide_eq_true hservice

theorem State.trainSend_port {b : TxBody} (h : Good O Q s) : OnSending { s.linkOf p with lastTrain := some b, trainUp := s.tm.up } ((s.trainSend p b).linkOf p) := by
  have hsends := State.sendOn_sends (p := p) (cls := .training) (body := b) (State.updLink_good (n := p) (f := fun l => { l with lastTrain := some b, trainUp := s.tm.up }) h)
  have hport := hsends.port
  rw [State.linkOf_updLink_self h] at hport
  exact hport

theorem State.trainSend_other {b : TxBody} (h : Good O Q s) (hq : q ≠ p) : (s.trainSend p b).linkOf q = s.linkOf q :=
  ((State.sendOn_sends (State.updLink_good h)).other hq).trans (State.linkOf_updLink_other hq)

end Sys2Proof.Machine
end

section
/-! PROOFS. A full bring-up of a port, state by state (R263 to R265, R267, R268, R277). -/

namespace Sys2Proof.Machine

open Sys2Proof

set_option Elab.async false

variable {O : OtpSt} {Q : List Instr} {s t : State} {l : LinkSt} {p : Port} {n up : Nat} {mode : PortMode}

/-! ### Block lock and the largest eye (R264, R265) -/

/-- The bits of a block on a lane: a valid header and what it carries. -/
def lockBits (b : Bool × List Bool) : List Bool := b.1 :: (!b.1) :: b.2

/-- Valid headers in a row lock the lane with the 64th of them. -/
theorem lockSearch_valid (bad : Nat) : ∀ (bs : List (Bool × List Bool)) (fuel run : Nat), (∀ b ∈ bs, b.2.length = 64) → bs ≠ [] → run + bs.length = 64 → bs.length ≤ fuel →
    lockSearch fuel run bad (bs.flatMap lockBits) = (true, bad) := by
  intro bs
  induction bs with
  | nil => exact fun _ _ _ hne => absurd rfl hne
  | cons b bs ih =>
    intro fuel run hblocks _ hrun hfuel
    obtain ⟨hb, hbs⟩ := List.forall_mem_cons.mp hblocks
    rw [List.length_cons] at hrun hfuel
    obtain ⟨fuel, rfl⟩ : ∃ k, fuel = k + 1 := ⟨fuel - 1, by omega⟩
    have hvalid : ¬ (b.1 == !b.1) = true := by cases b.1 <;> decide
    have hbits : (b :: bs).flatMap lockBits = b.1 :: (!b.1) :: (b.2 ++ bs.flatMap lockBits) := rfl
    rw [hbits, lockSearch, if_neg hvalid]
    by_cases hlast : 63 ≤ run
    · rw [if_pos hlast]
    · rw [if_neg hlast, List.drop_left' hb]
      exact ih fuel (run + 1) hbs (by rintro rfl; simp at hrun; omega) (by omega) (by omega)

theorem lockBits_length (bs : List (Bool × List Bool)) : bs.length ≤ (bs.flatMap lockBits).length := by
  have hone : ∀ k ∈ bs.map (fun b => (lockBits b).length), 1 ≤ k := by
    intro k hk
    obtain ⟨b, -, rfl⟩ := List.mem_map.mp hk
    exact Nat.succ_le_succ (Nat.zero_le _)
  rw [List.length_flatMap]
  exact (List.length_map _).symm.trans_le (List.length_le_sum_of_one_le _ hone)

/-- What the search for the largest eye finds: the best so far, when no later one is larger, or the first of the largest that are. -/
theorem bestEye_finds : ∀ (hs : List Nat) (best height i : Nat),
    (bestEye best height i hs = best ∧ ∀ k < hs.length, hs.getD k 0 ≤ height)
      ∨ ∃ j < hs.length, bestEye best height i hs = i + j ∧ height < hs.getD j 0 ∧ (∀ k < hs.length, hs.getD k 0 ≤ hs.getD j 0) ∧ ∀ k < j, hs.getD k 0 < hs.getD j 0 := by
  intro hs
  induction hs with
  | nil => exact fun _ _ _ => .inl ⟨rfl, by simp⟩
  | cons x xs ih =>
    intro best height i
    have hall : ∀ {P : Nat → Prop}, P x → (∀ k < xs.length, P (xs.getD k 0)) → ∀ k < (x :: xs).length, P ((x :: xs).getD k 0) := by
      intro P hx hxs k hk
      cases k with
      | zero => exact hx
      | succ k => exact hxs k (by simpa using hk)
    by_cases hx : height < x
    · rw [bestEye, if_pos hx]
      rcases ih i x (i + 1) with ⟨hstays, hle⟩ | ⟨j, hj, hfinds, hlt, hle, hfirst⟩
      · exact .inr ⟨0, by simp, hstays, hx, hall (P := (· ≤ x)) le_rfl hle, fun k hk => absurd hk (Nat.not_lt_zero k)⟩
      · refine .inr ⟨j + 1, by simpa using hj, hfinds.trans (by omega), hx.trans hlt, hall (P := (· ≤ xs.getD j 0)) hlt.le hle, fun k hk => ?_⟩
        cases k with
        | zero => exact hlt
        | succ k => exact hfirst k (by omega)
    · rw [bestEye, if_neg hx]
      rcases ih best height (i + 1) with ⟨hstays, hle⟩ | ⟨j, hj, hfinds, hlt, hle, hfirst⟩
      · exact .inl ⟨hstays, hall (P := (· ≤ height)) (by omega) hle⟩
      · refine .inr ⟨j + 1, by simpa using hj, hfinds.trans (by omega), hlt, hall (P := (· ≤ xs.getD j 0)) (by omega) hle, fun k hk => ?_⟩
        cases k with
        | zero => exact lt_of_le_of_lt (not_lt.mp hx) hlt
        | succ k => exact hfirst k (by omega)

/-- The setting kept has the largest eye, and of those the lowest index. -/
theorem bestEye_largest (hs : List Nat) (i : Nat) (hi : i < hs.length) :
    hs.getD i 0 ≤ hs.getD (bestEye 0 0 0 hs) 0 ∧ (hs.getD i 0 = hs.getD (bestEye 0 0 0 hs) 0 → bestEye 0 0 0 hs ≤ i) := by
  rcases bestEye_finds hs 0 0 0 with ⟨hfirst, hle⟩ | ⟨j, -, hfinds, -, hle, hfirst⟩
  · rw [hfirst]
    exact ⟨(hle i hi).trans (Nat.zero_le _), fun _ => Nat.zero_le i⟩
  · rw [hfinds, Nat.zero_add]
    refine ⟨hle i hi, fun heq => ?_⟩
    by_contra hlow
    have := hfirst i (by omega)
    omega

/-! ### What the lanes carry up to a change of state (R251, R252) -/

/-- The scramblers behind what the lanes carry up to a time. -/
def LinkSt.scrambled (l : LinkSt) (up : Nat) : BitVec 58 × BitVec 58 :=
  if l.fill = .nothing then (l.scram0, l.scram1) else fillGo l.fill l.aligns (l.lanePos up - l.txPos) l.txPos l.scram0 l.scram1

theorem LinkSt.catchUp_active (hactive : l.mode = .active) : l.catchUp up = { l with
    txPos := l.lanePos up, bad0 := l.bad0 - ((l.lanePos up + 1) / 2 - (l.txPos + 1) / 2), bad1 := l.bad1 - (l.lanePos up / 2 - l.txPos / 2),
    scram0 := (l.scrambled up).1, scram1 := (l.scrambled up).2 } :=
  congrArg (fun u : LinkSt => { u with scram0 := (l.scrambled up).1, scram1 := (l.scrambled up).2 }) (if_pos hactive : l.passed (l.lanePos up) = _)

theorem LinkSt.catchUp_quiet (hquiet : l.mode ≠ .active) : l.catchUp up = { l with txPos := l.lanePos up, scram0 := (l.scrambled up).1, scram1 := (l.scrambled up).2 } :=
  congrArg (fun u : LinkSt => { u with scram0 := (l.scrambled up).1, scram1 := (l.scrambled up).2 }) (if_neg hquiet : l.passed (l.lanePos up) = _)

/-- The lanes look neither at what is known of the partner nor at how the port is tuned. -/
theorem LinkSt.catchUp_noted (l : LinkSt) (up : Nat) (fast : Bool) (peak0 peak1 faultCause rtt : Nat) (partner : Option IdentFrame) (lastTrain : Option TxBody) (clockLock : Bool) :
    let u := { l with fast := fast, peak0 := peak0, peak1 := peak1, faultCause := faultCause, rtt := rtt, partner := partner, lastTrain := lastTrain, clockLock := clockLock }
    u.catchUp up = { l.catchUp up with fast := fast, peak0 := peak0, peak1 := peak1, faultCause := faultCause, rtt := rtt, partner := partner, lastTrain := lastTrain, clockLock := clockLock } := by
  intro u
  by_cases hactive : l.mode = .active
  · rw [LinkSt.catchUp_active (l := u) hactive, LinkSt.catchUp_active hactive]
    rfl
  · rw [LinkSt.catchUp_quiet (l := u) hactive, LinkSt.catchUp_quiet hactive]
    rfl

/-- Lanes that have carried all that was due stay as they are. -/
theorem LinkSt.catchUp_still (hmode : l.mode ≠ .active) (hpos : l.lanePos up = l.txPos) : l.catchUp up = l := by
  have hscrambled : l.scrambled up = (l.scram0, l.scram1) := by
    unfold LinkSt.scrambled
    rw [hpos, Nat.sub_self]
    exact ite_self _
  rw [LinkSt.catchUp_quiet hmode, hscrambled, hpos]

/-- A port that changes its state again at the same time: its lanes have carried what they had to. -/
theorem LinkSt.enters_lanePos (l : LinkSt) (up : Nat) (mode : PortMode) : (l.enters up mode).lanePos up = (l.enters up mode).txPos := by
  have hpos : (l.catchUp up).txPos = l.lanePos up := by
    by_cases hactive : l.mode = .active
    · rw [LinkSt.catchUp_active hactive]
    · rw [LinkSt.catchUp_quiet hactive]
  have hrate : (l.catchUp up).rate = l.rate := by rw [l.catchUp_onLanes up]
  have hlane : (l.catchUp up).laneUp = l.laneUp := by rw [l.catchUp_onLanes up]
  change max (l.catchUp up).txPos ((up - (l.catchUp up).laneUp) * 1000 / blockPs (l.catchUp up).rate * 2) = (l.catchUp up).txPos
  rw [hpos, hrate, hlane]
  exact max_eq_left (le_max_right _ _)

/-- A port that changes its state while what is known of its partner, or how it is tuned, changes with it. -/
theorem LinkSt.noted_enters (l : LinkSt) (up : Nat) {mode : PortMode} (hawake : mode ≠ .disabled ∧ mode ≠ .sleep) (fast : Bool) (peak0 peak1 faultCause rtt : Nat)
    (partner : Option IdentFrame) (lastTrain : Option TxBody) (clockLock : Bool) :
    LinkSt.enters { l with fast := fast, peak0 := peak0, peak1 := peak1, faultCause := faultCause, rtt := rtt, partner := partner, lastTrain := lastTrain, clockLock := clockLock } up mode
      = { l.catchUp up with mode := mode, testUp := up, fast := fast, peak0 := peak0, peak1 := peak1, faultCause := faultCause, rtt := rtt, partner := partner, lastTrain := lastTrain, clockLock := clockLock } := by
  have hcaught := l.catchUp_noted up fast peak0 peak1 faultCause rtt partner lastTrain clockLock
  dsimp only at hcaught
  rw [LinkSt.enters_awake _ _ hawake, hcaught]

/-! ### One state after another (R263 to R265) -/

theorem State.linkMode_lands (h : Good O Q s) (hmode : (s.linkOf n).mode ≠ mode) (hawake : mode ≠ .disabled ∧ mode ≠ .sleep) :
    (s.linkMode n mode).linkOf n = { (s.linkOf n).catchUp s.tm.up with mode := mode, testUp := s.tm.up } := by
  rw [State.linkMode_enters h hmode, LinkSt.enters_awake _ _ hawake]

theorem detectDone_moves (h : Good O Q s) (hmode : (s.linkOf (pidx p)).mode = .detect) : Runs (.detectDone p) s (fun u =>
    u.linkOf (pidx p) = { (s.linkOf (pidx p)).catchUp s.tm.up with mode := .clockLock, testUp := s.tm.up }
      ∧ (∀ q, q ≠ pidx p → u.linkOf q = s.linkOf q) ∧ s.keepsBut [.tm, .regs, .link, .trace, .freeCtr] u) :=
  ⟨_, congrArg Host.Outcome.next (if_pos hmode), State.linkMode_lands h (by rw [hmode]; decide) (by decide), (State.linkMode_alone h).only⟩

/-- A port whose receive clock has locked. -/
def State.clockLocked (s : State) (n : Nat) : State := s.updLink n (fun l => { l with clockLock := true, lastTrain := none })

theorem exec_clockLockDone (hmode : (s.linkOf (pidx p)).mode = .clockLock) : exec (.clockLockDone p) s = .next ((s.clockLocked (pidx p)).toEqTune (pidx p)) :=
  congrArg Host.Outcome.next (if_pos (by simp [State.atStep, hmode]))

theorem State.clockLocked_linkOf (h : Good O Q s) : (s.clockLocked n).linkOf n = { s.linkOf n with clockLock := true, lastTrain := none } := State.linkOf_updLink_self h

theorem State.clockLocked_alone (h : Good O Q s) : PortAlone O Q n s (s.clockLocked n) := State.updLink_alone h

/-- EQ_TUNE outside a trial, its peaking found or fixed. -/
theorem State.toEqTune_eq (hmode : (s.linkOf n).mode = .clockLock) :
    s.toEqTune n = if s.eqFixed n then ((s.linkMode n .eqTune).fixedPeaks n).linkMode n .blockLock else s.linkMode n .eqTune := by
  have hfixed : (s.linkMode n .eqTune).eqFixed n = s.eqFixed n := by
    unfold State.eqFixed
    rw [(s.linkMode_changes n .eqTune).cfgv (by decide) (by decide)]
  unfold State.toEqTune
  rw [if_neg (by rw [hmode]; decide)]
  dsimp only
  rw [hfixed]

theorem State.clockLocked_tunes (h : Good O Q s) (hmode : (s.linkOf n).mode = .clockLock) :
    ((s.clockLocked n).linkMode n .eqTune).linkOf n = { (s.linkOf n).catchUp s.tm.up with mode := .eqTune, clockLock := true, lastTrain := none, testUp := s.tm.up } := by
  have hport := State.clockLocked_linkOf (n := n) h
  have hlocked : ((s.clockLocked n).linkOf n).mode ≠ .eqTune := by
    rw [hport]
    exact fun heq => nomatch hmode.symm.trans heq
  rw [State.linkMode_enters (State.clockLocked_alone h).good hlocked, hport]
  refine (LinkSt.noted_enters (s.linkOf n) s.tm.up (by decide) _ _ _ _ _ _ _ _).trans ?_
  rw [(s.linkOf n).catchUp_onLanes s.tm.up]

theorem clockLockDone_tunes (h : Good O Q s) (hmode : (s.linkOf (pidx p)).mode = .clockLock) (hfree : s.eqFixed (pidx p) = false) : Runs (.clockLockDone p) s (fun u =>
    u.linkOf (pidx p) = { (s.linkOf (pidx p)).catchUp s.tm.up with mode := .eqTune, clockLock := true, lastTrain := none, testUp := s.tm.up }
      ∧ (∀ q, q ≠ pidx p → u.linkOf q = s.linkOf q) ∧ s.keepsBut [.tm, .regs, .link, .trace, .freeCtr] u) := by
  have hlocked := State.clockLocked_alone (n := pidx p) h
  have htunes : (s.clockLocked (pidx p)).toEqTune (pidx p) = (s.clockLocked (pidx p)).linkMode (pidx p) .eqTune :=
    (State.toEqTune_eq (by rw [State.clockLocked_linkOf h]; exact hmode)).trans (if_neg (Bool.not_eq_true _ ▸ hfree))
  refine ⟨_, exec_clockLockDone hmode, ?_⟩
  rw [htunes]
  exact ⟨State.clockLocked_tunes h hmode, (hlocked.trans (State.linkMode_alone hlocked.good)).only⟩

theorem State.fixedPeaks_alone (h : Good O Q s) : PortAlone O Q n s (s.fixedPeaks n) := State.updLink_alone h

/-- Under FIXED the port passes EQ_TUNE at once. -/
theorem State.clockLocked_passes (h : Good O Q s) (hmode : (s.linkOf n).mode = .clockLock) :
    ((((s.clockLocked n).linkMode n .eqTune).fixedPeaks n).linkMode n .blockLock).linkOf n = { (s.linkOf n).catchUp s.tm.up with
      mode := .blockLock, clockLock := true, lastTrain := none, testUp := s.tm.up, peak0 := s.cfgv Fld.linkEqPeak n 0, peak1 := s.cfgv Fld.linkEqPeak n 1 } := by
  have hlocked := State.clockLocked_alone (n := n) h
  have htune := State.linkMode_alone (p := n) (mode := .eqTune) hlocked.good
  have hport := State.clockLocked_linkOf (n := n) h
  have hquiet : ((s.clockLocked n).linkOf n).mode ≠ .eqTune := by
    rw [hport]
    exact fun heq => nomatch hmode.symm.trans heq
  have henters := State.linkMode_enters hlocked.good hquiet
  have htunes := State.clockLocked_tunes h hmode
  generalize ht : (s.clockLocked n).linkMode n .eqTune = t at htune henters htunes ⊢
  have hframe : Frm 9346117271568 s t := by
    rw [← ht]
    exact (State.updLink_frm ((Sub.refl _).le (by decide)) (Frm.refl _ s)).trans (State.linkMode_changes _ n .eqTune)
  have htime : t.tm = s.tm := hframe .tm (by decide)
  have hpeaks : (t.fixedPeaks n).linkOf n = { t.linkOf n with peak0 := s.cfgv Fld.linkEqPeak n 0, peak1 := s.cfgv Fld.linkEqPeak n 1 } := by
    rw [← hframe.cfgv (by decide) (by decide)]
    exact State.linkOf_updLink_self htune.good
  have hstill : ((t.fixedPeaks n).linkOf n).catchUp (t.fixedPeaks n).tm.up = (t.fixedPeaks n).linkOf n := by
    have hpos := LinkSt.enters_lanePos ((s.clockLocked n).linkOf n) (s.clockLocked n).tm.up .eqTune
    rw [← henters] at hpos
    have hup : (t.fixedPeaks n).tm.up = (s.clockLocked n).tm.up := congrArg TimeSt.up htime
    rw [hup, hpeaks]
    exact LinkSt.catchUp_still (by rw [htunes]; exact fun heq => nomatch heq) hpos
  have hmoves : ((t.fixedPeaks n).linkOf n).mode ≠ .blockLock := by
    rw [hpeaks, htunes]
    exact fun heq => nomatch heq
  have hgood : Good O Q (t.fixedPeaks n) := State.updLink_good htune.good
  rw [State.linkMode_lands hgood hmoves (by decide), hstill, hpeaks, htunes]
  exact congrArg (fun up => { (s.linkOf n).catchUp s.tm.up with
      mode := .blockLock, clockLock := true, lastTrain := none, testUp := up, peak0 := s.cfgv Fld.linkEqPeak n 0, peak1 := s.cfgv Fld.linkEqPeak n 1 }) (congrArg TimeSt.up htime)

theorem clockLockDone_passes (h : Good O Q s) (hmode : (s.linkOf (pidx p)).mode = .clockLock) (hfixed : s.eqFixed (pidx p) = true) : Runs (.clockLockDone p) s (fun u =>
    u.linkOf (pidx p) = { (s.linkOf (pidx p)).catchUp s.tm.up with
      mode := .blockLock, clockLock := true, lastTrain := none, testUp := s.tm.up, peak0 := s.cfgv Fld.linkEqPeak (pidx p) 0, peak1 := s.cfgv Fld.linkEqPeak (pidx p) 1 }
      ∧ (∀ q, q ≠ pidx p → u.linkOf q = s.linkOf q) ∧ s.keepsBut [.tm, .regs, .link, .trace, .freeCtr] u) := by
  have hlocked := State.clockLocked_alone (n := pidx p) h
  have htune := hlocked.trans (State.linkMode_alone (mode := .eqTune) hlocked.good)
  have hpeaks := htune.trans (State.fixedPeaks_alone htune.good)
  have hpasses : (s.clockLocked (pidx p)).toEqTune (pidx p) = (((s.clockLocked (pidx p)).linkMode (pidx p) .eqTune).fixedPeaks (pidx p)).linkMode (pidx p) .blockLock :=
    (State.toEqTune_eq (by rw [State.clockLocked_linkOf h]; exact hmode)).trans (if_pos hfixed)
  refine ⟨_, exec_clockLockDone hmode, ?_⟩
  rw [hpasses]
  exact ⟨State.clockLocked_passes h hmode, (hpeaks.trans (State.linkMode_alone hpeaks.good)).only⟩

/-! ### EQ_TUNE, BLOCK_LOCK and DESKEW (R252, R264, R265) -/

/-- A step of bring-up outside a trial leads to the next state. -/
theorem State.stepOn_eq {step : Nat} (hmode : (s.linkOf n).mode ≠ .rateTrial) : s.stepOn n mode step = s.linkMode n mode := if_neg hmode

theorem eqTuneDone_moves (h : Good O Q s) (a b : List Nat) (hmode : (s.linkOf (pidx p)).mode = .eqTune) : Runs (.eqTuneDone p a b) s (fun u =>
    u.linkOf (pidx p) = { (s.linkOf (pidx p)).catchUp s.tm.up with mode := .blockLock, testUp := s.tm.up, peak0 := bestEye 0 0 0 a, peak1 := bestEye 0 0 0 b }
      ∧ (∀ q, q ≠ pidx p → u.linkOf q = s.linkOf q) ∧ s.keepsBut [.tm, .regs, .link, .trace, .freeCtr] u) := by
  have hstep : s.atStep (pidx p) .eqTune 3 = true := by simp [State.atStep, hmode]
  have hport : (s.updLink (pidx p) (fun l => { l with peak0 := bestEye 0 0 0 a, peak1 := bestEye 0 0 0 b })).linkOf (pidx p)
      = { s.linkOf (pidx p) with peak0 := bestEye 0 0 0 a, peak1 := bestEye 0 0 0 b } := State.linkOf_updLink_self h
  have htuned := State.updLink_alone (p := pidx p) (f := fun l => { l with peak0 := bestEye 0 0 0 a, peak1 := bestEye 0 0 0 b }) h
  generalize ht : s.updLink (pidx p) (fun l => { l with peak0 := bestEye 0 0 0 a, peak1 := bestEye 0 0 0 b }) = t at hport htuned
  have hup : t.tm.up = s.tm.up := ht ▸ rfl
  have hquiet : (t.linkOf (pidx p)).mode = .eqTune := by rw [hport]; exact hmode
  have hexec : exec (.eqTuneDone p a b) s = .next (t.linkMode (pidx p) .blockLock) := by
    rw [← State.stepOn_eq (step := 4) (by rw [hquiet]; decide), ← ht]
    exact congrArg Host.Outcome.next (if_pos hstep)
  refine ⟨_, hexec, ?_, (htuned.trans (State.linkMode_alone htuned.good)).only⟩
  rw [State.linkMode_enters htuned.good (by rw [hquiet]; decide), hport, hup]
  refine (LinkSt.noted_enters (s.linkOf (pidx p)) s.tm.up (by decide) _ _ _ _ _ _ _ _).trans ?_
  rw [(s.linkOf (pidx p)).catchUp_onLanes s.tm.up]

theorem blockLockDone_moves (h : Good O Q s) (a b : List Bool) (hmode : (s.linkOf (pidx p)).mode = .blockLock) : Runs (.blockLockDone ⟨p, a, b⟩) s (fun u =>
    u.linkOf (pidx p) = (if (lockSearch a.length 0 0 a).1 && (lockSearch b.length 0 0 b).1 then { (s.linkOf (pidx p)).catchUp s.tm.up with mode := .deskew, testUp := s.tm.up } else s.linkOf (pidx p))
      ∧ u.reg (Reg.link (pidx p) 0x28) = (s.reg (Reg.link (pidx p) 0x28)).satAdd ((lockSearch a.length 0 0 a).2 + (lockSearch b.length 0 0 b).2)
      ∧ (∀ q, q ≠ pidx p → u.linkOf q = s.linkOf q) ∧ s.keepsBut [.tm, .regs, .link, .trace, .freeCtr] u) := by
  have hstep : s.atStep (pidx p) .blockLock 4 = true := by simp [State.atStep, hmode]
  have hcounted := State.bumpBy_alone (p := pidx p) (a := Reg.link (pidx p) 0x28) (k := (lockSearch a.length 0 0 a).2 + (lockSearch b.length 0 0 b).2) h
  have hreg : (s.bumpBy (Reg.link (pidx p) 0x28) ((lockSearch a.length 0 0 a).2 + (lockSearch b.length 0 0 b).2)).reg (Reg.link (pidx p) 0x28)
      = (s.reg (Reg.link (pidx p) 0x28)).satAdd ((lockSearch a.length 0 0 a).2 + (lockSearch b.length 0 0 b).2) := State.reg_setReg_self h
  have hexec : exec (.blockLockDone ⟨p, a, b⟩) s = .next (if (lockSearch a.length 0 0 a).1 && (lockSearch b.length 0 0 b).1
      then (s.bumpBy (Reg.link (pidx p) 0x28) ((lockSearch a.length 0 0 a).2 + (lockSearch b.length 0 0 b).2)).stepOn (pidx p) .deskew 5
      else s.bumpBy (Reg.link (pidx p) 0x28) ((lockSearch a.length 0 0 a).2 + (lockSearch b.length 0 0 b).2)) := if_pos hstep
  refine ⟨_, hexec, ?_⟩
  split
  · have hquiet : ((s.bumpBy (Reg.link (pidx p) 0x28) ((lockSearch a.length 0 0 a).2 + (lockSearch b.length 0 0 b).2)).linkOf (pidx p)).mode = .blockLock := hmode
    rw [State.stepOn_eq (by rw [hquiet]; decide)]
    refine ⟨State.linkMode_lands hcounted.good (by rw [hquiet]; decide) (by decide), ?_, (hcounted.trans (State.linkMode_alone hcounted.good)).only⟩
    rw [State.linkMode_reg (Reg.link_quiet (pidx_lt p) (by decide)) (by simp [Reg.link]) (by simp [Reg.link]), hreg]
  · exact ⟨rfl, hreg, hcounted.only⟩

/-- A port as DESKEW has put it right (R252). -/
def State.deskewDone (s : State) (n : Nat) (a b : LaneReport) (g : AlignPairs) : State :=
  s.updLink n (fun l => { l with swapped := laneNumber a == 1, inv0 := laneInverted a, inv1 := laneInverted b, skew := (g.first0 : Int) - g.first1 })

theorem State.deskewDone_linkOf {a b : LaneReport} {g : AlignPairs} (h : Good O Q s) : (s.deskewDone n a b g).linkOf n =
    { s.linkOf n with swapped := laneNumber a == 1, inv0 := laneInverted a, inv1 := laneInverted b, skew := (g.first0 : Int) - g.first1 } := State.linkOf_updLink_self h

theorem State.deskewDone_identOf {a b : LaneReport} {g : AlignPairs} (h : Good O Q s) : (s.deskewDone n a b g).identOf n = s.identOf n := by
  unfold State.identOf
  rw [State.deskewDone_linkOf h]
  rfl

theorem deskewDone_identifies (h : Good O Q s) {a b : LaneReport} {g : AlignPairs} (hmode : (s.linkOf (pidx p)).mode = .deskew) (hagree : deskewed a b g = true) : Runs (.deskewDone p a b g) s (fun u =>
    (u.linkOf (pidx p)).mode = .identify ∧ (u.linkOf (pidx p)).swapped = (laneNumber a == 1) ∧ (u.linkOf (pidx p)).inv0 = laneInverted a ∧ (u.linkOf (pidx p)).inv1 = laneInverted b
      ∧ (u.linkOf (pidx p)).skew = (g.first0 : Int) - g.first1 ∧ (u.linkOf (pidx p)).lastTrain = some (.ident (s.identOf (pidx p))) ∧ ∀ q, q ≠ pidx p → u.linkOf q = s.linkOf q) := by
  have hport := State.deskewDone_linkOf (n := pidx p) (a := a) (b := b) (g := g) h
  have hgood : Good O Q (s.deskewDone (pidx p) a b g) := State.updLink_good h
  have hquiet : ((s.deskewDone (pidx p) a b g).linkOf (pidx p)).mode = .deskew := by rw [hport]; exact hmode
  have hout : ((s.deskewDone (pidx p) a b g).linkOf (pidx p)).mode ≠ .rateTrial := by rw [hquiet]; decide
  have hexec : exec (.deskewDone p a b g) s = .next (((s.deskewDone (pidx p) a b g).linkMode (pidx p) .identify).trainSend (pidx p) (.ident ((s.deskewDone (pidx p) a b g).identOf (pidx p)))) :=
    (if_neg (by simp [State.atStep, hmode, hagree])).trans (if_neg hout)
  have hlands := State.linkMode_lands (mode := .identify) hgood (by rw [hquiet]; decide) (by decide)
  have hsent := (State.trainSend_port (p := pidx p) (b := .ident ((s.deskewDone (pidx p) a b g).identOf (pidx p))) (State.linkMode_good (p := pidx p) (m := .identify) hgood)).port
  rw [hlands, ((s.deskewDone (pidx p) a b g).linkOf (pidx p)).catchUp_onLanes, hport, State.deskewDone_identOf h] at hsent
  refine ⟨_, hexec, ?_⟩
  dsimp only
  rw [State.deskewDone_identOf h, hsent]
  refine ⟨rfl, rfl, rfl, rfl, rfl, rfl, fun q hq => ?_⟩
  rw [State.trainSend_other (State.linkMode_good hgood) hq, State.linkMode_other hq]
  exact State.linkOf_updLink_other hq

/-! ### IDENTIFY (R262, R267, R268) -/

/-- A port that has heard its partner's IDENT. -/
def State.identHeard (s : State) (n : Nat) (f : IdentFrame) (r : Option Nat) : State := s.updLink n (fun l => { l with partner := some f, rtt := r.getD l.rtt })

section
variable {f : IdentFrame} {r : Option Nat} {cause : Nat}

theorem State.identHeard_linkOf (h : Good O Q s) : (s.identHeard n f r).linkOf n = { s.linkOf n with partner := some f, rtt := r.getD (s.linkOf n).rtt } := State.linkOf_updLink_self h

theorem State.identHeard_good (h : Good O Q s) : Good O Q (s.identHeard n f r) := State.updLink_good h

variable (hmode : (s.linkOf (pidx p)).mode = .identify)
include hmode

/-- The partner is one this port does not fit (Table 10-7). -/
theorem exec_ident_unfit (hcause : (portsFit p f.port = false ∧ cause = 1) ∨ (portsFit p f.port = true ∧ pidx p = 2 ∧ f.unitB = s.boot.strapB ∧ cause = 2)
    ∨ (portsFit p f.port = true ∧ ¬ (pidx p = 2 ∧ f.unitB = s.boot.strapB) ∧ f.secure ≠ s.linkSecured (pidx p) ∧ cause = 3)) :
    exec (.ident p f r) s = .next ((s.identHeard (pidx p) f r).linkFault (pidx p) cause) := by
  have hstands : ¬ (s.linkOf (pidx p)).mode ≠ .identify := not_not.mpr hmode
  rcases hcause with ⟨hport, rfl⟩ | ⟨hport, htwin, hstrap, rfl⟩ | ⟨hport, hstrap, hsecure, rfl⟩
  · exact (if_neg hstands).trans (if_pos hport)
  · exact (if_neg hstands).trans ((if_neg (by simp [hport])).trans (if_pos ⟨htwin, hstrap⟩))
  · exact (if_neg hstands).trans ((if_neg (by simp [hport])).trans ((if_neg hstrap).trans (if_pos hsecure)))

theorem ident_faults (h : Good O Q s) (hcause : (portsFit p f.port = false ∧ cause = 1) ∨ (portsFit p f.port = true ∧ pidx p = 2 ∧ f.unitB = s.boot.strapB ∧ cause = 2)
    ∨ (portsFit p f.port = true ∧ ¬ (pidx p = 2 ∧ f.unitB = s.boot.strapB) ∧ f.secure ≠ s.linkSecured (pidx p) ∧ cause = 3)) : Runs (.ident p f r) s (fun u =>
    u.linkOf (pidx p) = { (s.linkOf (pidx p)).catchUp s.tm.up with
        mode := .fault, faultCause := cause, partner := some f, rtt := r.getD (s.linkOf (pidx p)).rtt, fast := false, lastTrain := none, testUp := s.tm.up }
      ∧ u.bit (Reg.link (pidx p) 0) 13 = true ∧ ∀ q, q ≠ pidx p → u.linkOf q = s.linkOf q) := by
  have hport := State.identHeard_linkOf (n := pidx p) (f := f) (r := r) h
  have hheard : ((s.identHeard (pidx p) f r).linkOf (pidx p)).mode = .identify := by rw [hport]; exact hmode
  obtain ⟨hfaults, hbit, hother⟩ := State.linkFault_leaves (cause := cause) (State.identHeard_good (n := pidx p) (f := f) (r := r) h) (pidx_lt p)
    (State.inService_of_mode (by rw [hheard]; decide)) (by rw [hheard]; decide)
  refine ⟨_, exec_ident_unfit hmode hcause, ?_, hbit, fun q hq => (hother q hq).trans (State.linkOf_updLink_other hq)⟩
  rw [hfaults, hport]
  refine (LinkSt.noted_enters (s.linkOf (pidx p)) s.tm.up (by decide) _ _ _ _ _ _ _ _).trans ?_
  rw [(s.linkOf (pidx p)).catchUp_onLanes s.tm.up]

variable (hfit : portsFit p f.port = true) (hstrap : ¬ (pidx p = 2 ∧ f.unitB = s.boot.strapB)) (hsecure : f.secure = s.linkSecured (pidx p))
include hfit hstrap hsecure

/-- A fitting partner: it has not yet accepted this hub's IDENT, or has, and a fast retrain ends or the trials begin. -/
theorem exec_ident_fit : exec (.ident p f r) s = .next (if r.isNone then s.identHeard (pidx p) f r
    else if ((s.identHeard (pidx p) f r).linkOf (pidx p)).fast then (s.identHeard (pidx p) f r).linkActive (pidx p)
    else (((s.identHeard (pidx p) f r).updLink (pidx p) (fun l => { l with lastTrain := none })).linkMode (pidx p) .rateTrial).nextTrial (pidx p)) := by
  have hladder : exec (.ident p f r) s = if r.isNone then .next (s.identHeard (pidx p) f r)
      else if ((s.identHeard (pidx p) f r).linkOf (pidx p)).fast then .next ((s.identHeard (pidx p) f r).linkActive (pidx p))
      else .next ((((s.identHeard (pidx p) f r).updLink (pidx p) (fun l => { l with lastTrain := none })).linkMode (pidx p) .rateTrial).nextTrial (pidx p)) :=
    (if_neg (not_not.mpr hmode)).trans ((if_neg (by simp [hfit])).trans ((if_neg hstrap).trans (if_neg (not_not.mpr hsecure))))
  rw [hladder]
  split
  · rfl
  · split <;> rfl

theorem ident_waits (h : Good O Q s) : Runs (.ident p f none) s (fun u => u.linkOf (pidx p) = { s.linkOf (pidx p) with partner := some f }
    ∧ (∀ q, q ≠ pidx p → u.linkOf q = s.linkOf q) ∧ s.keepsBut [.tm, .regs, .link, .trace, .freeCtr] u) :=
  ⟨s.identHeard (pidx p) f none, exec_ident_fit hmode hfit hstrap hsecure, State.identHeard_linkOf h, (State.updLink_alone h).only⟩

theorem ident_returns (h : Good O Q s) {r : Nat} (hfast : (s.linkOf (pidx p)).fast = true) : Runs (.ident p f (some r)) s (fun u =>
    (u.linkOf (pidx p)).mode = .active ∧ (u.linkOf (pidx p)).partner = some f ∧ (u.linkOf (pidx p)).rtt = r
      ∧ unused (u.linkOf (pidx p)).keys = unused (s.linkOf (pidx p)).keys ∧ (u.linkOf (pidx p)).fast = false) := by
  have hport := State.identHeard_linkOf (n := pidx p) (f := f) (r := some r) h
  have hstill : ((s.identHeard (pidx p) f (some r)).linkOf (pidx p)).fast = true := by rw [hport]; exact hfast
  have hserves := State.linkActive_serves (State.identHeard_good (n := pidx p) (f := f) (r := some r) h) (g := f) (by rw [hport])
  refine ⟨(s.identHeard (pidx p) f (some r)).linkActive (pidx p), ?_, hserves.mode, hserves.partner.trans ?_, hserves.rtt.trans ?_, hserves.keys.trans ?_, hserves.fast⟩
  · rw [exec_ident_fit hmode hfit hstrap hsecure, if_neg (by simp), if_pos hstill]
  all_goals rw [hport]
  · rfl

theorem exec_ident_trials (h : Good O Q s) {r : Nat} (hfull : (s.linkOf (pidx p)).fast = false) : exec (.ident p f (some r)) s =
    .next ((((s.updLink (pidx p) (fun l => { l with partner := some f, rtt := r })).updLink (pidx p) (fun l => { l with lastTrain := none })).linkMode (pidx p) .rateTrial).nextTrial (pidx p)) := by
  have hstill : ¬ ((s.identHeard (pidx p) f (some r)).linkOf (pidx p)).fast = true := by
    rw [State.identHeard_linkOf h]
    simp [hfull]
  rw [exec_ident_fit hmode hfit hstrap hsecure, if_neg (by simp), if_neg hstill]
  rfl

end

/-! ### Timeouts, retries and chirps (R263, R268, R277) -/

/-- DETECT has timed out at a time. -/
def State.detectTimeout (s : State) (n up : Nat) : State := (s.reachUp up).setBit (Reg.link n 0) 11

theorem State.detectTimeout_alone (h : Good O Q s) : PortAlone O Q n s (s.detectTimeout n up) :=
  (State.reachUp_alone h).trans (State.setBit_alone (State.reachUp_good h))

theorem State.detectTimeout_linkOf (s : State) (n up q : Nat) : (s.detectTimeout n up).linkOf q = s.linkOf q :=
  (State.setBit_frm (m := 16) (Sub.refl _) (Frm.refl _ (s.reachUp up))).linkOf (by decide) |>.trans (s.reachUp_linkOf up q)

theorem exec_linkStateTimeout_detect (hmode : (s.linkOf (pidx p)).mode = .detect) : exec (.linkStateTimeout p) s = .next (if (s.linkOf (pidx p)).sleeps
    then (s.detectTimeout (pidx p) ((s.linkOf (pidx p)).testUp + 100000000)).linkMode (pidx p) .sleep
    else (s.detectTimeout (pidx p) ((s.linkOf (pidx p)).testUp + 100000000)).linkDetect (pidx p)) := by
  have hlimit : (s.linkOf (pidx p)).limitUp = (s.linkOf (pidx p)).testUp + 100000000 := by rw [LinkSt.limitUp, hmode]
  change execLinkStateTimeout p s = _
  unfold execLinkStateTimeout State.detectTimeout
  dsimp only
  rw [hlimit, hmode]

theorem linkStateTimeout_detect (h : Good O Q s) (hmode : (s.linkOf (pidx p)).mode = .detect) : Runs (.linkStateTimeout p) s (fun u =>
    u.bit (Reg.link (pidx p) 0) 11 = true ∧ (u.linkOf (pidx p)).mode = (if (s.linkOf (pidx p)).sleeps then .sleep else .detect)
      ∧ u.tm = (s.reachUp ((s.linkOf (pidx p)).testUp + 100000000)).tm ∧ (∀ q, q ≠ pidx p → u.linkOf q = s.linkOf q) ∧ s.keepsBut [.tm, .regs, .link, .trace, .freeCtr] u) := by
  refine ⟨_, exec_linkStateTimeout_detect hmode, ?_⟩
  generalize (s.linkOf (pidx p)).testUp + 100000000 = up
  have hset := State.detectTimeout_alone (n := pidx p) (up := up) h
  have hbit : (s.detectTimeout (pidx p) up).bit (Reg.link (pidx p) 0) 11 = true := State.setBit_bit (s := s.reachUp up) (State.reachUp_good h) (by decide)
  have htm : (s.detectTimeout (pidx p) up).tm = (s.reachUp up).tm := State.setBit_frm (m := 16) (Sub.refl _) (Frm.refl _ (s.reachUp up)) .tm (by decide)
  have hidle : (s.detectTimeout (pidx p) up).inService (pidx p) = false := State.inService_of_mode (by rw [State.detectTimeout_linkOf, hmode]; decide)
  have hquiet := Reg.link_quiet (i := 0) (pidx_lt p) (by decide)
  have hapart : Reg.link (pidx p) 0 ≠ Reg.link (pidx p) 0x40 ∧ Reg.link (pidx p) 0 ≠ Reg.link (pidx p) 0x44 := by simp [Reg.link]
  split
  · refine ⟨?_, State.linkMode_mode hset.good, (State.linkMode_changes _ _ _ .tm (by decide)).trans htm, (hset.trans (State.linkMode_alone hset.good)).only⟩
    exact (congrArg (BitVec.getLsbD · 11) (State.linkMode_reg hquiet hapart.1 hapart.2)).trans hbit
  · refine ⟨?_, State.linkDetect_mode hset.good, (State.linkDetect_tm hidle).trans htm, (hset.trans (State.linkDetect_alone hset.good hidle)).only⟩
    exact (congrArg (BitVec.getLsbD · 11) (State.linkDetect_reg hidle hquiet hapart.1 hapart.2)).trans hbit

theorem linkStateTimeout_restarts (h : Good O Q s) (hmode : (s.linkOf (pidx p)).mode = .clockLock ∨ (s.linkOf (pidx p)).mode = .eqTune ∨ (s.linkOf (pidx p)).mode = .blockLock
      ∨ (s.linkOf (pidx p)).mode = .deskew ∨ (s.linkOf (pidx p)).mode = .identify ∨ (s.linkOf (pidx p)).mode = .secure) : Runs (.linkStateTimeout p) s (fun u =>
    (u.linkOf (pidx p)).mode = .detect ∧ (u.linkOf (pidx p)).rate = 0 ∧ (u.linkOf (pidx p)).keys = none ∧ (u.linkOf (pidx p)).fast = false
      ∧ u.tm = (s.reachUp (s.linkOf (pidx p)).limitUp).tm ∧ (∀ q, q ≠ pidx p → u.linkOf q = s.linkOf q) ∧ s.keepsBut [.tm, .regs, .link, .trace, .freeCtr] u) := by
  have hexec : exec (.linkStateTimeout p) s = .next ((s.reachUp (s.linkOf (pidx p)).limitUp).linkDetect (pidx p)) := by
    change execLinkStateTimeout p s = _
    unfold execLinkStateTimeout
    dsimp only
    rcases hmode with hmode | hmode | hmode | hmode | hmode | hmode <;> rw [hmode]
  have hout : (s.linkOf (pidx p)).mode ≠ .active := by rcases hmode with hmode | hmode | hmode | hmode | hmode | hmode <;> rw [hmode] <;> decide
  have hreach := State.reachUp_alone (p := pidx p) (up := (s.linkOf (pidx p)).limitUp) h
  have hidle : (s.reachUp (s.linkOf (pidx p)).limitUp).inService (pidx p) = false := State.inService_of_mode (by rwa [State.reachUp_linkOf])
  obtain ⟨hdetect, hrate, hkeys, hfast, -⟩ := State.linkDetect_port hreach.good hidle
  exact ⟨_, hexec, hdetect, hrate, hkeys, hfast, State.linkDetect_tm hidle, (hreach.trans (State.linkDetect_alone hreach.good hidle)).only⟩

/-- Time that has reached an instant is not before it. -/
theorem State.reachUp_max (s : State) (up : Nat) : max (s.reachUp up).tm.up up = max s.tm.up up := by
  unfold State.reachUp
  split
  next hdue =>
    obtain ⟨hlate, hrun⟩ := hdue
    have hup : (s.tick (up - s.tm.up)).up = s.tm.up + (up - s.tm.up) := (TimeSt.advance_running hrun _).2
    dsimp only
    omega
  next => rfl

theorem exec_trainingResend {b : TxBody} (hb : (s.linkOf (pidx p)).lastTrain = some b) (hmode : (s.linkOf (pidx p)).mode = .identify ∨ (s.linkOf (pidx p)).mode = .rateTrial) :
    exec (.trainingResend p) s = .next (((s.reachUp ((s.linkOf (pidx p)).trainUp + 10000)).updLink (pidx p)
      (fun l => { l with trainUp := max (s.reachUp (l.trainUp + 10000)).tm.up (l.trainUp + 10000) })).sendOn (pidx p) .training b) := by
  change execTrainingResend p s = _
  unfold execTrainingResend
  simp only [State.reachUp_max]
  rw [hb]
  exact if_pos hmode

theorem faultRetry_restarts (h : Good O Q s) (hmode : (s.linkOf (pidx p)).mode = .fault) (hcause : 4 ≤ (s.linkOf (pidx p)).faultCause) : Runs (.faultRetry p) s (fun u =>
    (u.linkOf (pidx p)).mode = .detect ∧ (u.linkOf (pidx p)).faultCause = 0 ∧ u.tm = (s.reachUp ((s.linkOf (pidx p)).testUp + 1000000000)).tm
      ∧ (∀ q, q ≠ pidx p → u.linkOf q = s.linkOf q) ∧ s.keepsBut [.tm, .regs, .link, .trace, .freeCtr] u) := by
  have hreach := State.reachUp_alone (p := pidx p) (up := (s.linkOf (pidx p)).testUp + 1000000000) h
  have hidle : (s.reachUp ((s.linkOf (pidx p)).testUp + 1000000000)).inService (pidx p) = false := State.inService_of_mode (by rw [State.reachUp_linkOf, hmode]; decide)
  obtain ⟨hdetect, -, -, -, hnone, -⟩ := State.linkDetect_port hreach.good hidle
  exact ⟨_, congrArg Host.Outcome.next (if_pos ⟨hmode, hcause⟩), hdetect, hnone, State.linkDetect_tm hidle, (hreach.trans (State.linkDetect_alone hreach.good hidle)).only⟩

theorem chirpSend_restarts (h : Good O Q s) (hmode : (s.linkOf (pidx p)).mode = .sleep ∨ (s.linkOf (pidx p)).mode = .detect) (hnone : (s.linkOf (pidx p)).chirpUp = none) :
    Runs (.chirpSend p) s (fun u => (u.linkOf (pidx p)).mode = .detect ∧ (u.linkOf (pidx p)).chirpUp = some s.tm.up
      ∧ (∀ q, q ≠ pidx p → u.linkOf q = s.linkOf q) ∧ s.keepsBut [.tm, .regs, .link, .trace, .freeCtr] u) := by
  have hchirp := State.setLink_alone (p := pidx p) (l := { s.linkOf (pidx p) with chirpUp := some s.tm.up }) h
  have hport : (s.setLink (pidx p) { s.linkOf (pidx p) with chirpUp := some s.tm.up }).linkOf (pidx p) = { s.linkOf (pidx p) with chirpUp := some s.tm.up } := State.linkOf_setLink_self h
  have hexec : exec (.chirpSend p) s = .next ((s.setLink (pidx p) { s.linkOf (pidx p) with chirpUp := some s.tm.up }).linkDetect (pidx p)) := by
    change execChirpSend p s = _
    unfold execChirpSend
    dsimp only
    rw [hnone]
    exact if_pos ⟨hmode, rfl⟩
  have hidle : (s.setLink (pidx p) { s.linkOf (pidx p) with chirpUp := some s.tm.up }).inService (pidx p) = false := by
    refine State.inService_of_mode ?_
    rw [hport]
    rcases hmode with hmode | hmode <;> exact fun heq => nomatch hmode.symm.trans heq
  obtain ⟨hdetect, -, -, -, -, hup⟩ := State.linkDetect_port hchirp.good hidle
  refine ⟨_, hexec, hdetect, hup.trans ?_, (hchirp.trans (State.linkDetect_alone hchirp.good hidle)).only⟩
  rw [hport]

theorem exec_chirpSend_rests {u : Nat} (hchirp : (s.linkOf (pidx p)).chirpUp = some u) (hsoon : s.tm.up < u + 20000000) : exec (.chirpSend p) s = .next s := by
  change execChirpSend p s = _
  unfold execChirpSend
  dsimp only
  rw [hchirp]
  exact if_neg (by simp; omega)

/-- Settles O31: a theorem for each state of the bring-up, over linkMode_enters, which says what a change of state leaves of its port, and linkDetect_port, which says it of a new start. -/
theorem portsComeUpStateByState : Obligations.PortsComeUpStateByState := by
  refine ⟨fun bs hlength hblocks => lockSearch_valid 0 bs _ 0 hblocks (List.ne_nil_of_length_pos (by omega)) (by omega) (lockBits_length bs), bestEye_largest, fun s hwf p => ?_⟩
  have h := good_of_wf hwf
  refine ⟨detectDone_moves h, clockLockDone_tunes h, clockLockDone_passes h, fun a b => eqTuneDone_moves h a b, fun a b => blockLockDone_moves h a b, fun a b g => deskewDone_identifies h,
    fun a b g hdisagree => if_pos (.inr hdisagree), fun f r cause hmode => ident_faults hmode h, fun f hmode hfit hstrap hsecure => ⟨ident_waits hmode hfit hstrap hsecure h,
    fun r => ident_returns hmode hfit hstrap hsecure h, fun r => exec_ident_trials hmode hfit hstrap hsecure h⟩, linkStateTimeout_detect h, linkStateTimeout_restarts h, fun b => exec_trainingResend,
    faultRetry_restarts h, fun hmode hcause => congrArg Host.Outcome.next (if_neg (fun hretry => by omega)), fun hup htest => ?retrain, chirpSend_restarts h,
    fun hmode u => exec_chirpSend_rests⟩
  case retrain => exact ⟨_, congrArg Host.Outcome.next (if_neg (by simp [hup, htest])), State.linkDetect_mode h⟩

end Sys2Proof.Machine
end

section
/-! PROOFS. A port leaves service (R261, R269, Table 10-6). -/

namespace Sys2Proof.Machine

open Sys2Proof

set_option Elab.async false

variable {O : OtpSt} {Q : List Instr} {s t : State} {n p q cause : Nat}

/-! ### What leaving service leaves of the port (R261, R269) -/

/-- A frame of the Firefly class. -/
def TxFrame.isFire (f : TxFrame) : Bool := f.cls == TxClass.firefly

/-- The frames that wait for their acknowledgement once the one on the wire is cut. -/
def LinkSt.heldFrames (l : LinkSt) : List TxFrame :=
  match l.current with
  | some f => if lseqFrom f.lseq l.lastAcked || l.replay.any (fun x => x.lseq == f.lseq) then l.replay else l.replay ++ [f]
  | none => l.replay

/-- Firefly frames that are lost. -/
def LinkSt.fireLost (l : LinkSt) : Nat := (l.heldFrames.filter TxFrame.isFire).length + (l.queues.filter TxFrame.isFire).length

/-- The port out of service. -/
def LinkSt.outOfService (l : LinkSt) : LinkSt :=
  { l with
    current := none, resend := [], replay := l.heldFrames.filter (fun f => !f.isFire), queues := l.queues.filter (fun f => !f.isFire), hiBer := false, hiBerRun := 0,
    discarded := l.discarded || decide (0 < l.fireLost), authRun := 0, kept := none }

/-- The hub with the frame on the wire cut and the port's frames sorted. -/
def State.exitHeld (s : State) (p : Nat) : State := (s.cutFrame p).setLink p ((s.cutFrame p).linkOf p).outOfService

/-- The hub with the loss counted and marked. -/
def State.exitCounted (s : State) (p : Nat) : State :=
  ((((s.exitHeld p).updFfPort p (fun x => { x with goodRun := 0 })).bumpBy (Reg.link p 0x20) ((s.cutFrame p).linkOf p).fireLost).bump (Reg.link p 0x10)).setBit (Reg.link p 0) 14

/-- Leaving service, but for what the twin does upon it. -/
def State.exitLeft (s : State) (p cause : Nat) : State := (s.exitCounted p).raise { errAt 1 (Reg.link p 0) 14 p with detail := cause, recovers := true }

theorem State.linkExit_eq (hservice : s.inService p = true) : s.linkExit p cause = if p = 2 then (s.exitLeft p cause).twinDown else s.exitLeft p cause :=
  if_neg (by simp [hservice])

/-- A port of the line leaves service with no part of the twin in it. -/
theorem State.linkExit_line (hservice : s.inService p = true) (hline : p ≠ 2) : s.linkExit p cause = s.exitLeft p cause :=
  (State.linkExit_eq hservice).trans (if_neg hline)

theorem State.cutFrame_onLanes (h : Good O Q s) : OnLanes (s.linkOf p) ((s.cutFrame p).linkOf p) := by
  unfold State.cutFrame
  dsimp only
  split
  · exact State.emit_onLanes h
  · rfl

theorem State.cutFrame_other (hq : q ≠ p) : (s.cutFrame p).linkOf q = s.linkOf q := by
  unfold State.cutFrame
  dsimp only
  split
  · exact State.emit_linkOf_other hq
  · rfl

theorem State.cutFrame_changes (s : State) (p : Nat) : Frm 8796898328576 s (s.cutFrame p) := State.cutFrame_frm (Sub.refl _) (Frm.refl _ s)

theorem State.exitHeld_port (h : Good O Q s) : (s.exitHeld p).linkOf p = ((s.cutFrame p).linkOf p).outOfService := State.linkOf_setLink_self (State.cutFrame_good h)

/-- Counting and marking leave the ports alone. -/
theorem State.exitCounted_changes (s : State) (p : Nat) : Frm 33554448 (s.exitHeld p) (s.exitCounted p) := by
  have hm := Sub.refl 33554448
  exact State.setBit_frm (hm.le (by decide)) (State.bump_frm (hm.le (by decide)) (State.bumpBy_frm (hm.le (by decide)) (State.updFfPort_frm (hm.le (by decide)) (Frm.refl _ (s.exitHeld p)))))

theorem State.exitLeft_linkOf (s : State) (p cause q : Nat) : (s.exitLeft p cause).linkOf q = (s.exitHeld p).linkOf q := by
  rw [State.exitLeft, State.raise_linkOf, (s.exitCounted_changes p).linkOf (by decide)]

/-- What a port keeps as it leaves service, on the line and off it. -/
theorem State.exitLeft_port (h : Good O Q s) : ∃ l, OnLanes (s.linkOf p) l ∧ (s.exitLeft p cause).linkOf p = l.outOfService :=
  ⟨_, State.cutFrame_onLanes h, by rw [State.exitLeft_linkOf, State.exitHeld_port h]⟩

theorem State.exitLeft_other (hq : q ≠ p) : (s.exitLeft p cause).linkOf q = s.linkOf q := by
  rw [State.exitLeft_linkOf, State.exitHeld, State.linkOf_setLink_other hq, State.cutFrame_other hq]

theorem State.exitCounted_good (h : Good O Q s) : Good O Q (s.exitCounted p) :=
  State.setBit_good (State.bump_good (State.bumpBy_good (State.updFfPort_good (State.setLink_good (State.cutFrame_good h)))))

theorem State.exitLeft_good (h : Good O Q s) : Good O Q (s.exitLeft p cause) := State.raise_good (State.exitCounted_good h)

theorem State.exitLeft_count (h : Good O Q s) (hp : p < 3) : (s.exitLeft p cause).reg (Reg.link p 0x10) = (s.reg (Reg.link p 0x10)).satAdd 1 := by
  have hheld : (s.exitHeld p).reg (Reg.link p 0x10) = s.reg (Reg.link p 0x10) := (s.cutFrame_changes p).reg (by decide)
  have hgood : Good O Q (((s.exitHeld p).updFfPort p (fun x => { x with goodRun := 0 })).bumpBy (Reg.link p 0x20) ((s.cutFrame p).linkOf p).fireLost) :=
    State.bumpBy_good (State.updFfPort_good (State.setLink_good (State.cutFrame_good h)))
  calc (s.exitLeft p cause).reg (Reg.link p 0x10) = (s.exitCounted p).reg (Reg.link p 0x10) := State.raise_reg (Reg.link_quiet hp (by decide))
    _ = _ := State.setBit_reg (by simp [Reg.link])
    _ = _ := State.reg_setReg_self hgood
    _ = ((s.exitHeld p).reg (Reg.link p 0x10)).satAdd 1 := congrArg (W32.satAdd · 1) (State.bumpBy_reg (by simp [Reg.link]))
    _ = _ := by rw [hheld]

theorem State.exitLeft_bit (h : Good O Q s) (hp : p < 3) : (s.exitLeft p cause).bit (Reg.link p 0) 14 = true := by
  have hreg : (s.exitLeft p cause).reg (Reg.link p 0) = (s.exitCounted p).reg (Reg.link p 0) := State.raise_reg (Reg.link_quiet hp (by decide))
  unfold State.bit
  rw [hreg]
  exact State.setBit_bit (State.bump_good (State.bumpBy_good (State.updFfPort_good (State.setLink_good (State.cutFrame_good h))))) (by decide)

theorem State.exitLeft_changes (s : State) (p cause : Nat) : Frm 10446199324688 s (s.exitLeft p cause) := by
  have hm := Sub.refl 10446199324688
  have hheld : Frm 10446199324688 s (s.exitHeld p) := State.setLink_frm (hm.le (by decide)) (State.cutFrame_frm (hm.le (by decide)) (Frm.refl _ s))
  exact State.raise_frm (hm.le (by decide)) (hheld.trans ((s.exitCounted_changes p).mono (hm.le (by decide))))

/-- Firefly frames are dropped at once (R261). -/
theorem LinkSt.outOfService_fire (l : LinkSt) : ∀ f ∈ l.outOfService.queues ++ l.outOfService.replay, f.cls ≠ .firefly := by
  intro f hf
  have hother : (!f.isFire) = true := by
    rcases List.mem_append.mp hf with hqueue | hreplay
    · exact (List.mem_filter.mp hqueue).2
    · exact (List.mem_filter.mp hreplay).2
  intro hfire
  simp [TxFrame.isFire, hfire] at hother

theorem State.linkExit_leaves (h : Good O Q s) (hp : p < 3) (hservice : s.inService p = true) (hline : p ≠ 2) : let u := s.linkExit p cause
    u.reg (Reg.link p 0x10) = (s.reg (Reg.link p 0x10)).satAdd 1 ∧ u.bit (Reg.link p 0) 14 = true ∧ (u.linkOf p).current = none
      ∧ (∀ f ∈ (u.linkOf p).queues ++ (u.linkOf p).replay, f.cls ≠ .firefly) ∧ (u.linkOf p).keys = (s.linkOf p).keys ∧ (∀ q, q ≠ p → u.linkOf q = s.linkOf q)
      ∧ s.keepsBut (.link :: .ffPort :: .freeCtr :: reportParts) u := by
  obtain ⟨l, hlanes, hport⟩ := State.exitLeft_port (p := p) (cause := cause) h
  rw [State.linkExit_line hservice hline]
  dsimp only
  rw [hport]
  exact ⟨State.exitLeft_count h hp, State.exitLeft_bit h hp, rfl, l.outOfService_fire, hlanes.keys, fun q hq => State.exitLeft_other hq, (s.exitLeft_changes p cause).keepsParts (by decide)⟩

/-! ### A condition of Table 10-6 (R269) -/

/-- The fast retrains that have ended in AUTH, with the one now asked for. -/
def State.authTries (s : State) (p cause : Nat) : List Nat :=
  if cause = 7 ∧ (s.linkOf p).fastIn = true then (s.tm.up :: (s.linkOf p).authTimes).take 3 else (s.linkOf p).authTimes

/-- Three fast retrains have ended in AUTH within 10 s (Table 10-7). -/
def State.authSpent (s : State) (p cause : Nat) : Bool :=
  decide (cause = 7) && (s.linkOf p).fastIn && decide ((s.authTries p cause).length = 3) && (s.authTries p cause).all (fun t => decide (s.tm.up ≤ t + 10000000000))

/-- The port as a fast retrain begins with it. -/
def LinkSt.retrains (l : LinkSt) (tries : List Nat) (cause up : Nat) : LinkSt :=
  { l with authTimes := tries, fast := true, clockLock := l.clockLock && decide (2 < cause), laneUp := up, txPos := 0 }

/-- Leaving service upon a condition, before the next state is entered. -/
def State.loses (s t : State) (p cause : Nat) : State :=
  (t.linkExit p cause).updLink p (fun l => l.retrains (if s.authSpent p cause then [] else s.authTries p cause) cause t.tm.up)

theorem State.linkLose_eq (hservice : s.inService p = true) :
    s.linkLose p cause = s.oneCycle (fun t => if s.authSpent p cause then (s.loses t p cause).faultEnter p 5 else (s.loses t p cause).linkMode p .clockLock) := by
  unfold State.linkLose
  rw [if_neg (by simp [hservice])]
  rfl

theorem State.linkLose_idle (hidle : s.inService p = false) : s.linkLose p cause = s := if_pos hidle

/-- Only AUTH can end in FAULT. -/
theorem State.authSpent_other (hcause : cause ≠ 7) : s.authSpent p cause = false := by simp [State.authSpent, hcause]

theorem State.loses_good (s : State) (h : Good O Q t) : Good O Q (s.loses t p cause) := State.updLink_good (State.linkExit_good h)

theorem State.loses_port (s : State) (h : Good O Q t) : (s.loses t p cause).linkOf p =
    ((t.linkExit p cause).linkOf p).retrains (if s.authSpent p cause then [] else s.authTries p cause) cause t.tm.up := State.linkOf_updLink_self (State.linkExit_good h)

section
variable (hservice : s.inService p = true) (hspares : s.authSpent p cause = false)
include hservice hspares

/-- A condition that does not end in FAULT leaves what leaving service and CLOCK_LOCK leave. -/
theorem State.linkLose_reports : ∃ g, (∀ q, (s.linkLose p cause).linkOf q = ((s.loses (s.gathering g) p cause).linkMode p .clockLock).linkOf q)
    ∧ ∀ a, quietReg a → (s.linkLose p cause).reg a = ((s.loses (s.gathering g) p cause).linkMode p .clockLock).reg a := by
  obtain ⟨g, hchanges, hreg⟩ := s.oneCycle_reports (fun t => if s.authSpent p cause then (s.loses t p cause).faultEnter p 5 else (s.loses t p cause).linkMode p .clockLock)
  rw [← State.linkLose_eq hservice] at hchanges hreg
  rw [if_neg (by simp [hspares])] at hchanges hreg
  exact ⟨g, fun q => hchanges.linkOf (by decide), hreg⟩

/-- The port is in a fast retrain. -/
theorem State.linkLose_retrains (h : Good O Q s) : ((s.linkLose p cause).linkOf p).mode = .clockLock ∧ ((s.linkLose p cause).linkOf p).fast = true := by
  obtain ⟨g, hport, -⟩ := State.linkLose_reports (cause := cause) hservice hspares
  have hlost := State.loses_good (p := p) (cause := cause) s (State.gathering_good (g := g) h)
  have hmode := State.linkMode_onMode (p := p) (mode := .clockLock) hlost
  rw [hport p]
  refine ⟨State.linkMode_mode hlost, ?_⟩
  rw [hmode, State.loses_port s (State.gathering_good h)]
  rfl

/-- On the line it keeps keys and rate, and is counted and marked. -/
theorem State.linkLose_line (h : Good O Q s) (hp : p < 3) (hline : p ≠ 2) : let u := s.linkLose p cause
    (u.linkOf p).keys = (s.linkOf p).keys ∧ (u.linkOf p).rate = (s.linkOf p).rate ∧ u.reg (Reg.link p 0x10) = (s.reg (Reg.link p 0x10)).satAdd 1 ∧ u.bit (Reg.link p 0) 14 = true
      ∧ ∀ q, q ≠ p → u.linkOf q = s.linkOf q := by
  obtain ⟨g, hport, hreg⟩ := State.linkLose_reports (cause := cause) hservice hspares
  have hgood : Good O Q (s.gathering g) := State.gathering_good h
  have hlost := State.loses_good (p := p) (cause := cause) s hgood
  have hmode := State.linkMode_onMode (p := p) (mode := .clockLock) hlost
  obtain ⟨l, hlanes, hleft⟩ := State.exitLeft_port (p := p) (cause := cause) hgood
  have hkept : l.keys = (s.linkOf p).keys ∧ l.rate = (s.linkOf p).rate := by rw [hlanes]; exact ⟨rfl, rfl⟩
  have hexit : (s.gathering g).linkExit p cause = (s.gathering g).exitLeft p cause := State.linkExit_line hservice hline
  have hregs : ∀ i, i < 0x1000 → i ≠ 0x40 → i ≠ 0x44 → (s.linkLose p cause).reg (Reg.link p i) = ((s.gathering g).exitLeft p cause).reg (Reg.link p i) := by
    intro i hi ha hb
    rw [hreg _ (Reg.link_quiet hp hi), State.linkMode_reg (Reg.link_quiet hp hi) (by simp [Reg.link, ha]) (by simp [Reg.link, hb]), ← hexit]
    rfl
  refine ⟨?_, ?_, (hregs 0x10 (by decide) (by decide) (by decide)).trans (State.exitLeft_count hgood hp), ?_, fun q hq => ?_⟩
  · rw [hport p, hmode, State.loses_port s hgood, hexit, hleft]
    exact hkept.1
  · rw [hport p, hmode, State.loses_port s hgood, hexit, hleft]
    exact hkept.2
  · unfold State.bit
    rw [hregs 0 (by decide) (by decide) (by decide)]
    exact State.exitLeft_bit hgood hp
  · rw [hport q, State.linkMode_other hq, State.loses, State.linkOf_updLink_other hq, hexit, State.exitLeft_other hq]
    rfl

end

/-! ### The conditions themselves (R269) -/

/-- The hub t after the port left service in s for a fast retrain. -/
def Retrained (s t : State) (n : Nat) : Prop :=
  (t.linkOf n).mode = .clockLock ∧ (t.linkOf n).fast = true
    ∧ (n ≠ 2 → (t.linkOf n).keys = (s.linkOf n).keys ∧ (t.linkOf n).rate = (s.linkOf n).rate ∧ t.reg (Reg.link n 0x10) = (s.reg (Reg.link n 0x10)).satAdd 1
      ∧ t.bit (Reg.link n 0) 14 = true ∧ ∀ q, q ≠ n → t.linkOf q = s.linkOf q)

theorem State.linkLose_retrained (h : Good O Q s) (hp : p < 3) (hservice : s.inService p = true) (hcause : cause ≠ 7) : Retrained s (s.linkLose p cause) p := by
  have hspares := State.authSpent_other (s := s) (p := p) hcause
  obtain ⟨hmode, hfast⟩ := State.linkLose_retrains hservice hspares h
  exact ⟨hmode, hfast, State.linkLose_line hservice hspares h hp⟩

/-- Invalid headers counted in LINK_HDR_ERR first leave what the exit itself leaves. -/
theorem State.linkLose_counted {k : Nat} (h : Good O Q s) (hp : p < 3) (hservice : s.inService p = true) (hcause : cause ≠ 7) :
    Retrained s ((s.bumpBy (Reg.link p 0x28) k).linkLose p cause) p := by
  obtain ⟨hmode, hfast, hline⟩ := State.linkLose_retrained (State.bumpBy_good (a := Reg.link p 0x28) (n := k) h) hp hservice hcause
  have hcount : (s.bumpBy (Reg.link p 0x28) k).reg (Reg.link p 0x10) = s.reg (Reg.link p 0x10) := State.bumpBy_reg (by simp [Reg.link])
  rw [hcount] at hline
  exact ⟨hmode, hfast, hline⟩

/-- A port in a window of headers, as HI_BER notes it. -/
def LinkSt.window (l : LinkSt) (high : Bool) (run : Nat) : LinkSt := { l with hiBer := high, hiBerRun := run }

section
variable {p : Port} {k : Nat} (h : Good O Q s) (hservice : s.inService (pidx p) = true)
include h hservice

theorem hiBer_clears (hfew : k < 16) : Runs (.hiBer p k) s (fun u => u.linkOf (pidx p) = { s.linkOf (pidx p) with hiBer := false, hiBerRun := 0 }
    ∧ u.reg (Reg.link (pidx p) 0x28) = (s.reg (Reg.link (pidx p) 0x28)).satAdd k ∧ (∀ q, q ≠ pidx p → u.linkOf q = s.linkOf q) ∧ s.keepsBut [.regs, .link] u) := by
  have hexec : exec (.hiBer p k) s = .next ((s.bumpBy (Reg.link (pidx p) 0x28) k).setLink (pidx p) ((s.linkOf (pidx p)).window false 0)) :=
    (if_neg (by simp [hservice])).trans (if_pos hfew)
  have hm := Sub.refl 268435472
  refine ⟨_, hexec, State.linkOf_setLink_self (State.bumpBy_good h), State.reg_setReg_self h, fun q hq => State.linkOf_setLink_other hq, Frm.keepsParts (m := 268435472) ?_ (by decide)⟩
  exact State.setLink_frm (hm.le (by decide)) (State.bumpBy_frm (hm.le (by decide)) (Frm.refl _ s))

end

/-- A port whose window held 16 invalid headers or more, counted and marked. -/
def State.windowMarked (s : State) (n k : Nat) : State :=
  ((s.bumpBy (Reg.link n 0x28) k).setLink n ((s.linkOf n).window true ((s.linkOf n).hiBerRun + 1))).setBit (Reg.link n 0) 12

/-- The first such window in a row is reported. -/
def State.windowHigh (s : State) (n k : Nat) : State :=
  if (s.linkOf n).hiBer then s.windowMarked n k else (s.windowMarked n k).raise (errAt 0 (Reg.link n 0) 12 n)

section
variable {k : Nat}

theorem State.windowMarked_good (h : Good O Q s) : Good O Q (s.windowMarked n k) := State.setBit_good (State.setLink_good (State.bumpBy_good h))

theorem State.windowHigh_good (h : Good O Q s) : Good O Q (s.windowHigh n k) := good_ite (State.windowMarked_good h) (State.raise_good (State.windowMarked_good h))

theorem State.windowMarked_linkOf (s : State) (n k q : Nat) :
    (s.windowMarked n k).linkOf q = ((s.bumpBy (Reg.link n 0x28) k).setLink n ((s.linkOf n).window true ((s.linkOf n).hiBerRun + 1))).linkOf q :=
  (State.setBit_frm (m := 16) (Sub.refl _) (Frm.refl _ _)).linkOf (by decide)

theorem State.windowHigh_linkOf (s : State) (n k q : Nat) : (s.windowHigh n k).linkOf q = (s.windowMarked n k).linkOf q := by
  unfold State.windowHigh
  split
  · rfl
  · exact State.raise_linkOf _ _ _

theorem State.windowHigh_port (h : Good O Q s) : (s.windowHigh n k).linkOf n = { s.linkOf n with hiBer := true, hiBerRun := (s.linkOf n).hiBerRun + 1 } := by
  rw [State.windowHigh_linkOf, State.windowMarked_linkOf, State.linkOf_setLink_self (State.bumpBy_good h)]
  rfl

theorem State.windowHigh_reg {i : Nat} (hn : n < 3) (hi : i < 0x1000) : (s.windowHigh n k).reg (Reg.link n i) = (s.windowMarked n k).reg (Reg.link n i) := by
  unfold State.windowHigh
  split
  · rfl
  · exact State.raise_reg (Reg.link_quiet hn hi)

theorem State.windowHigh_bit (h : Good O Q s) (hn : n < 3) : (s.windowHigh n k).bit (Reg.link n 0) 12 = true := by
  unfold State.bit
  rw [State.windowHigh_reg hn (by decide)]
  exact State.setBit_bit (State.setLink_good (State.bumpBy_good h)) (by decide)

theorem State.windowHigh_count (h : Good O Q s) (hn : n < 3) : (s.windowHigh n k).reg (Reg.link n 0x28) = (s.reg (Reg.link n 0x28)).satAdd k := by
  have hset : (s.windowMarked n k).reg (Reg.link n 0x28) = (s.bumpBy (Reg.link n 0x28) k).reg (Reg.link n 0x28) := State.setBit_reg (by simp [Reg.link])
  rw [State.windowHigh_reg hn (by decide), hset]
  exact State.reg_setReg_self h

theorem State.windowHigh_changes (s : State) (n k : Nat) : Frm 1650072748048 s (s.windowHigh n k) := by
  have hm := Sub.refl 1650072748048
  have hmarked : Frm 1650072748048 s (s.windowMarked n k) := State.setBit_frm (hm.le (by decide)) (State.setLink_frm (hm.le (by decide)) (State.bumpBy_frm (hm.le (by decide)) (Frm.refl _ s)))
  exact frm_ite hmarked (State.raise_frm (hm.le (by decide)) hmarked)

end

section
variable {p : Port} {k : Nat} (h : Good O Q s) (hservice : s.inService (pidx p) = true) (hmany : 16 ≤ k)
include hservice hmany

theorem exec_hiBer_high : exec (.hiBer p k) s = .next (if 7 ≤ (s.linkOf (pidx p)).hiBerRun then (s.windowHigh (pidx p) k).linkLose (pidx p) 5 else s.windowHigh (pidx p) k) :=
  (if_neg (by simp [hservice])).trans (if_neg (Nat.not_lt.mpr hmany))

include h

theorem hiBer_marks (hrun : (s.linkOf (pidx p)).hiBerRun < 7) : Runs (.hiBer p k) s (fun u => u.linkOf (pidx p) = { s.linkOf (pidx p) with hiBer := true, hiBerRun := (s.linkOf (pidx p)).hiBerRun + 1 }
    ∧ u.bit (Reg.link (pidx p) 0) 12 = true ∧ u.reg (Reg.link (pidx p) 0x28) = (s.reg (Reg.link (pidx p) 0x28)).satAdd k ∧ s.keepsBut (.link :: reportParts) u) :=
  ⟨s.windowHigh (pidx p) k, by rw [exec_hiBer_high hservice hmany, if_neg (by omega)], State.windowHigh_port h, State.windowHigh_bit h (pidx_lt p), State.windowHigh_count h (pidx_lt p),
    (s.windowHigh_changes (pidx p) k).keepsParts (by decide)⟩

theorem hiBer_retrains (hrun : 7 ≤ (s.linkOf (pidx p)).hiBerRun) : Runs (.hiBer p k) s (fun u => (u.linkOf (pidx p)).mode = .clockLock ∧ (u.linkOf (pidx p)).fast = true) := by
  have hstays : (s.windowHigh (pidx p) k).inService (pidx p) = true := by
    unfold State.inService
    rw [State.windowHigh_port h]
    exact hservice
  exact ⟨_, by rw [exec_hiBer_high hservice hmany, if_pos hrun], State.linkLose_retrains hstays (State.authSpent_other (by decide)) (State.windowHigh_good h)⟩

end

/-- Settles O33: linkExit_leaves for the exit itself, and linkLose_retrained for the fast retrain it leads to, whatever condition it comes from. -/
theorem portsLeaveServiceForAFastRetrain : Obligations.PortsLeaveServiceForAFastRetrain := by
  intro s hwf p hservice
  have h := good_of_wf hwf
  have hp := pidx_lt p
  refine ⟨fun cause => State.linkExit_leaves h hp hservice, ?conditions, fun hs hbad => ⟨_, congrArg Host.Outcome.next (if_pos ⟨hservice, hbad⟩), State.linkLose_counted h hp hservice (by decide)⟩,
    fun hs hbad => congrArg Host.Outcome.next (if_neg (fun hlost => absurd hlost.2 (Nat.not_le.mpr hbad))), fun k => hiBer_clears h hservice, fun k => hiBer_marks h hservice, fun k => hiBer_retrains h hservice⟩
  case conditions =>
    simp only [List.forall_mem_cons]
    exact ⟨⟨_, rfl, State.linkLose_retrained h hp hservice (by decide)⟩, ⟨_, rfl, State.linkLose_retrained h hp hservice (by decide)⟩, ⟨_, rfl, State.linkLose_retrained h hp hservice (by decide)⟩,
      fun _ hnil => absurd hnil List.not_mem_nil⟩

end Sys2Proof.Machine
end

section
/-! PROOFS. The key exchange (R270, R271, R274, R394, R395). -/

namespace Sys2Proof.Machine

open Sys2Proof

set_option Elab.async false

variable {O : OtpSt} {Q : List Instr} {s t : State} {n q kind : Nat} {p : Port} {payload : List Byte}

/-! ### Key frames and draws (R257, R270) -/

/-- What a key frame leaves: the port as sending leaves it, with the frame to be sent again outside service, and no other port. -/
structure KeySends (O : OtpSt) (Q : List Instr) (n : Nat) (s t : State) : Prop where
  good : Good O Q t
  port : ∃ train up, OnSending { s.linkOf n with lastTrain := train, trainUp := up } (t.linkOf n)
  at_ : AtPort n s t
  changes : Frm 8891924496 s t

theorem State.keySend_sends (h : Good O Q s) : KeySends O Q n s (s.keySend n kind payload) := by
  unfold State.keySend
  dsimp only
  split
  · have hsends := State.sendOn_sends (p := n) (cls := .management) (body := .keyFrame kind payload) h
    exact ⟨hsends.good, ⟨_, _, hsends.port⟩, hsends.at_, s.sendOn_changes n _ _⟩
  · have hnoted : Good O Q (s.updLink n (fun l => { l with lastTrain := some (.keyFrame kind payload), trainUp := s.tm.up })) := State.updLink_good h
    have hsends := State.sendOn_sends (p := n) (cls := .key) (body := .keyFrame kind payload) hnoted
    have hport := hsends.port
    rw [State.linkOf_updLink_self h] at hport
    have hframe : Frm 8891924496 s (s.updLink n (fun l => { l with lastTrain := some (.keyFrame kind payload), trainUp := s.tm.up })) :=
      State.updLink_frm ((Sub.refl _).le (by decide)) (Frm.refl _ s)
    exact ⟨hsends.good, ⟨_, _, hport⟩, (s.setLink_atPort n _).trans hsends.at_, hframe.trans (State.sendOn_changes _ n _ _)⟩

/-- What a key frame keeps of its port. -/
theorem KeySends.keeps (h : KeySends O Q n s t) : (t.linkOf n).mode = (s.linkOf n).mode ∧ unused (t.linkOf n).keys = unused (s.linkOf n).keys
    ∧ (t.linkOf n).ephemeral = (s.linkOf n).ephemeral ∧ (t.linkOf n).transcript = (s.linkOf n).transcript ∧ (t.linkOf n).partner = (s.linkOf n).partner := by
  obtain ⟨train, up, hport⟩ := h.port
  refine ⟨hport.mode, hport.keys, ?_, ?_, ?_⟩
  all_goals rw [hport.port]

theorem KeySends.inService (h : KeySends O Q n s t) : t.inService n = s.inService n := by
  unfold State.inService
  rw [h.keeps.1]

/-- The count of signatures is no register of a port. -/
theorem KeySends.reg {a : Nat} (h : KeySends O Q n s t) (ha : 0x58000 ≤ a) (hn : n < 3) : t.reg a = s.reg a :=
  h.at_.1 a (by unfold Reg.link; omega) (by unfold Reg.link; omega)

/-- Two values drawn for a port: a private key and the half of the transcript it gives. -/
def State.drawnFor (s : State) (n : Nat) (transcript : List Byte) : State :=
  s.drawn.drawn.updLink n (fun l => { l with ephemeral := some s.ephemeralKey, transcript := transcript })

/-- This hub's half of a transcript. -/
def State.drawnHalf (s : State) : List Byte := keyHalf (Config.p384Public s.ephemeralKey) (s.drawn.draw 32)

theorem State.drawnFor_good {transcript : List Byte} (h : Good O Q s) : Good O Q (s.drawnFor n transcript) := State.updLink_good (State.drawn_good (State.drawn_good h))

theorem State.drawnFor_linkOf {transcript : List Byte} (h : Good O Q s) :
    (s.drawnFor n transcript).linkOf n = { s.linkOf n with ephemeral := some (randomBytes s.sv.draws 48), transcript := transcript } := by
  have hsame : s.drawn.drawn.linkOf n = s.linkOf n := rfl
  rw [State.drawnFor, State.linkOf_updLink_self (State.drawn_good (State.drawn_good h)), hsame]
  rfl

/-! ### Where key frames belong (R270) -/

section
variable (hmode : (s.linkOf (pidx p)).mode = .secure)
include hmode

theorem State.keyTime_secure (hsecured : s.linkSecured (pidx p) = true) : s.keyTime (pidx p) = true := by simp [State.keyTime, hsecured, hmode]

theorem State.inService_secure : s.inService (pidx p) = false := State.inService_of_mode (by rw [hmode]; decide)

theorem State.keyRx_secure : s.keyRx (pidx p) = s := if_neg (by simp [State.inService_secure hmode])

end

/-! ### KEY_INIT (R270, R394) -/

/-- The responder has answered a KEY_INIT. -/
def State.keyAnswered (s : State) (n : Nat) (payload : List Byte) : State :=
  let transcript := slice payload 4 132 ++ s.drawnHalf
  ((s.drawnFor n transcript).bump 0x6800C).keySend n 2
    (keyType 0x12 ++ s.drawnHalf ++ s.identityKey ++ [0, 0, 0] ++ s.endorsed ++ Config.ecdsaSign (s.deviceKey 1) (linkMessage true transcript) ++ List.replicate 4 0)

theorem exec_keyInit_secure (hmode : (s.linkOf (pidx p)).mode = .secure) (hsecured : s.linkSecured (pidx p) = true) (hresponder : s.initiator (pidx p) = false) :
    exec (.keyInit p payload) s = .next (s.keyAnswered (pidx p) payload) := by
  have hno : ¬ (s.keyTime (pidx p) = false ∨ s.initiator (pidx p) = true) := by simp [State.keyTime_secure hmode hsecured, hresponder]
  have hstays : ¬ (s.linkOf (pidx p)).mode = .rateTrial := by rw [hmode]; decide
  change execKeyInit p payload s = _
  unfold execKeyInit
  dsimp only
  rw [if_neg hno, State.keyRx_secure hmode, if_neg hstays]
  rfl

theorem keyInit_answers (h : Good O Q s) (hmode : (s.linkOf (pidx p)).mode = .secure) (hsecured : s.linkSecured (pidx p) = true) (hresponder : s.initiator (pidx p) = false) :
    Runs (.keyInit p payload) s (fun u => (u.linkOf (pidx p)).ephemeral = some (randomBytes s.sv.draws 48) ∧ (u.linkOf (pidx p)).mode = .secure
      ∧ (u.linkOf (pidx p)).transcript = slice payload 4 132 ++ keyHalf (Config.p384Public (randomBytes s.sv.draws 48)) (randomBytes (s.sv.draws + 1) 32)
      ∧ u.sv = { s.sv with draws := s.sv.draws + 2 } ∧ u.reg 0x6800C = (s.reg 0x6800C).satAdd 1) := by
  have hdrawn : Good O Q (s.drawnFor (pidx p) (slice payload 4 132 ++ s.drawnHalf)) := State.drawnFor_good h
  have hport := State.drawnFor_linkOf (n := pidx p) (transcript := slice payload 4 132 ++ s.drawnHalf) h
  have hsends : KeySends O Q (pidx p) ((s.drawnFor (pidx p) (slice payload 4 132 ++ s.drawnHalf)).bump 0x6800C) (s.keyAnswered (pidx p) payload) := State.keySend_sends (State.bump_good hdrawn)
  have hcount : ((s.drawnFor (pidx p) (slice payload 4 132 ++ s.drawnHalf)).bump 0x6800C).reg 0x6800C = (s.reg 0x6800C).satAdd 1 := State.reg_setReg_self hdrawn
  obtain ⟨hstays, -, hkey, htranscript, -⟩ := hsends.keeps
  refine ⟨_, exec_keyInit_secure hmode hsecured hresponder, hkey.trans ?_, hstays.trans ?_, htranscript.trans ?_, hsends.changes .sv (by decide), (hsends.reg (by decide) (pidx_lt p)).trans hcount⟩
  · exact congrArg LinkSt.ephemeral hport
  · exact (congrArg LinkSt.mode hport).trans hmode
  · exact congrArg LinkSt.transcript hport

/-! ### Keys are derived (R271, R274) -/

/-- The port with keys derived outside service. -/
def LinkSt.keyed (l : LinkSt) (k : LinkKeys) (up : Nat) : LinkSt :=
  { l with ephemeral := none, lastTrain := none, keysAt := up, keys := some k, oldKeys := none, newKeys := none }

/-- The hub with keys derived outside service. -/
def State.keyedBy (s : State) (n : Nat) (k : LinkKeys) : State :=
  (s.updLink n (fun l => { l with ephemeral := none, lastTrain := none, keysAt := s.tm.up })).updLink n (fun l => { l with keys := some k, oldKeys := none, newKeys := none })

theorem State.keyedBy_good {k : LinkKeys} (h : Good O Q s) : Good O Q (s.keyedBy n k) := State.updLink_good (State.updLink_good h)

theorem State.keyedBy_linkOf {k : LinkKeys} (h : Good O Q s) : (s.keyedBy n k).linkOf n = (s.linkOf n).keyed k s.tm.up := by
  rw [State.keyedBy, State.linkOf_updLink_self (State.updLink_good h), State.linkOf_updLink_self h]
  rfl

/-- Outside service the initiator waits until its KEY_CONFIRM has left, and the responder enters ACTIVE. -/
theorem State.keysDone_eq {k : LinkKeys} (h : Good O Q s) (hidle : s.inService n = false) :
    s.keysDone n k = if s.initiator n then s.keyedBy n k else (s.keyedBy n k).linkActive n := by
  have hout : ¬ (s.updLink n (fun l => { l with ephemeral := none, lastTrain := none, keysAt := s.tm.up })).inService n = true := by
    unfold State.inService
    rw [State.linkOf_updLink_self h]
    simpa [State.inService] using hidle
  exact if_neg hout

/-- A partner that fails its checks puts the port in FAULT (R270). -/
theorem State.peerRejected_leaves (h : Good O Q s) (hn : n < 3) (hidle : s.inService n = false) (hmode : (s.linkOf n).mode ≠ .fault) :
    ((s.peerRejected n).linkOf n).mode = .fault ∧ ((s.peerRejected n).linkOf n).faultCause = 4 ∧ (s.peerRejected n).bit (Reg.link n 0) 13 = true := by
  have hforgot : (s.updLink n (fun l => { l with ephemeral := none })).linkOf n = { s.linkOf n with ephemeral := none } := State.linkOf_updLink_self h
  have hout : (s.updLink n (fun l => { l with ephemeral := none })).inService n = false := by
    unfold State.inService
    rw [hforgot]
    exact hidle
  obtain ⟨hport, hbit, -⟩ := State.linkFault_leaves (cause := 4) (State.updLink_good (n := n) (f := fun l => { l with ephemeral := none }) h) hn hout (by rw [hforgot]; exact hmode)
  rw [State.peerRejected, hport, LinkSt.enters_awake _ _ (by decide), LinkSt.catchUp_onLanes]
  exact ⟨rfl, rfl, hbit⟩

/-! ### KEY_RESP and KEY_CONFIRM (R270, R271, R394, R395) -/

section
variable {priv : List Byte} (hmode : (s.linkOf (pidx p)).mode = .secure) (hsecured : s.linkSecured (pidx p) = true) (hpriv : (s.linkOf (pidx p)).ephemeral = some priv)

/-- The initiator has sent its KEY_CONFIRM. -/
def State.keyConfirmed (s : State) (n : Nat) (transcript : List Byte) : State :=
  (s.bump 0x6800C).keySend n 3 (keyType 0x13 ++ s.identityKey ++ [0, 0, 0] ++ s.endorsed ++ Config.ecdsaSign (s.deviceKey 1) (linkMessage false transcript) ++ List.replicate 8 0)

include hmode hsecured hpriv

theorem exec_keyResp_secure (hinitiator : s.initiator (pidx p) = true) : exec (.keyResp p payload) s = .next (
    if s.peerGood true ((s.linkOf (pidx p)).transcript ++ slice payload 4 132) (slice payload 136 97) (slice payload 236 96) (slice payload 332 96)
    then (s.keyConfirmed (pidx p) ((s.linkOf (pidx p)).transcript ++ slice payload 4 132)).keysDone (pidx p)
      (linkKeys priv (slice payload 4 97) ((s.linkOf (pidx p)).transcript ++ slice payload 4 132) true (s.nextPhase (pidx p)))
    else s.peerRejected (pidx p)) := by
  have hno : ¬ (s.keyTime (pidx p) = false ∨ s.initiator (pidx p) = false) := by simp [State.keyTime_secure hmode hsecured, hinitiator]
  change execKeyResp p payload s = _
  unfold execKeyResp
  dsimp only
  rw [hpriv]
  dsimp only
  rw [if_neg hno, State.keyRx_secure hmode]
  split
  · rfl
  · rfl

theorem keyResp_derives (h : Good O Q s) (hinitiator : s.initiator (pidx p) = true)
    (hpeer : s.peerGood true ((s.linkOf (pidx p)).transcript ++ slice payload 4 132) (slice payload 136 97) (slice payload 236 96) (slice payload 332 96) = true) :
    Runs (.keyResp p payload) s (fun u => (u.linkOf (pidx p)).mode = .secure
      ∧ (u.linkOf (pidx p)).keys = some (linkKeys priv (slice payload 4 97) ((s.linkOf (pidx p)).transcript ++ slice payload 4 132) true (s.nextPhase (pidx p)))
      ∧ (u.linkOf (pidx p)).ephemeral = none ∧ u.reg 0x6800C = (s.reg 0x6800C).satAdd 1) := by
  have hsends : KeySends O Q (pidx p) (s.bump 0x6800C) (s.keyConfirmed (pidx p) ((s.linkOf (pidx p)).transcript ++ slice payload 4 132)) := State.keySend_sends (State.bump_good h)
  generalize ht : s.keyConfirmed (pidx p) ((s.linkOf (pidx p)).transcript ++ slice payload 4 132) = t at hsends
  have hmode' : (t.linkOf (pidx p)).mode = .secure := hsends.keeps.1.trans hmode
  have hinit : t.initiator (pidx p) = true := by
    have hboot : t.boot = s.boot := hsends.changes .boot (by decide)
    unfold State.initiator at hinitiator ⊢
    rwa [hboot]
  have hkeyed := State.keyedBy_linkOf (n := pidx p) (k := linkKeys priv (slice payload 4 97) ((s.linkOf (pidx p)).transcript ++ slice payload 4 132) true (s.nextPhase (pidx p))) hsends.good
  have hcount : t.reg 0x6800C = (s.reg 0x6800C).satAdd 1 := (hsends.reg (by decide) (pidx_lt p)).trans (State.reg_setReg_self h)
  refine ⟨t.keyedBy (pidx p) (linkKeys priv (slice payload 4 97) ((s.linkOf (pidx p)).transcript ++ slice payload 4 132) true (s.nextPhase (pidx p))), ?_, ?_, ?_, ?_, hcount⟩
  · rw [exec_keyResp_secure hmode hsecured hpriv hinitiator, if_pos hpeer, ht, State.keysDone_eq hsends.good (State.inService_secure hmode'), if_pos hinit]
  · exact (congrArg LinkSt.mode hkeyed).trans hmode'
  · exact congrArg LinkSt.keys hkeyed
  · exact congrArg LinkSt.ephemeral hkeyed

theorem keyResp_faults (h : Good O Q s) (hinitiator : s.initiator (pidx p) = true)
    (hpeer : s.peerGood true ((s.linkOf (pidx p)).transcript ++ slice payload 4 132) (slice payload 136 97) (slice payload 236 96) (slice payload 332 96) = false) :
    Runs (.keyResp p payload) s (fun u => (u.linkOf (pidx p)).mode = .fault ∧ (u.linkOf (pidx p)).faultCause = 4 ∧ u.bit (Reg.link (pidx p) 0) 13 = true) :=
  ⟨_, by rw [exec_keyResp_secure hmode hsecured hpriv hinitiator, if_neg (by simp [hpeer])], State.peerRejected_leaves h (pidx_lt p) (State.inService_secure hmode) (by rw [hmode]; decide)⟩

theorem exec_keyConfirm_secure (hresponder : s.initiator (pidx p) = false) : exec (.keyConfirm p payload) s = .next (
    if s.peerGood false (s.linkOf (pidx p)).transcript (slice payload 4 97) (slice payload 104 96) (slice payload 200 96)
    then s.keysDone (pidx p) (linkKeys priv ((s.linkOf (pidx p)).transcript.take 97) (s.linkOf (pidx p)).transcript false (s.nextPhase (pidx p)))
    else s.peerRejected (pidx p)) := by
  have hno : ¬ (s.keyTime (pidx p) = false ∨ s.initiator (pidx p) = true) := by simp [State.keyTime_secure hmode hsecured, hresponder]
  change execKeyConfirm p payload s = _
  unfold execKeyConfirm
  dsimp only
  rw [hpriv]
  dsimp only
  rw [if_neg hno, State.keyRx_secure hmode]
  split
  · rfl
  · rfl

theorem keyConfirm_serves {f : IdentFrame} (h : Good O Q s) (hresponder : s.initiator (pidx p) = false) (hpartner : (s.linkOf (pidx p)).partner = some f)
    (hpeer : s.peerGood false (s.linkOf (pidx p)).transcript (slice payload 4 97) (slice payload 104 96) (slice payload 200 96) = true) :
    Runs (.keyConfirm p payload) s (fun u => (u.linkOf (pidx p)).mode = .active
      ∧ unused (u.linkOf (pidx p)).keys = some (linkKeys priv ((s.linkOf (pidx p)).transcript.take 97) (s.linkOf (pidx p)).transcript false (s.nextPhase (pidx p)))) := by
  have hkeyed := State.keyedBy_linkOf (n := pidx p) (k := linkKeys priv ((s.linkOf (pidx p)).transcript.take 97) (s.linkOf (pidx p)).transcript false (s.nextPhase (pidx p))) h
  have hserves := State.linkActive_serves (g := f) (State.keyedBy_good h) ((congrArg LinkSt.partner hkeyed).trans hpartner)
  refine ⟨_, ?_, hserves.mode, hserves.keys.trans ?_⟩
  · rw [exec_keyConfirm_secure hmode hsecured hpriv hresponder, if_pos hpeer, State.keysDone_eq h (State.inService_secure hmode), if_neg (by simp [hresponder])]
  · rw [hkeyed]
    rfl

theorem keyConfirm_faults (h : Good O Q s) (hresponder : s.initiator (pidx p) = false)
    (hpeer : s.peerGood false (s.linkOf (pidx p)).transcript (slice payload 4 97) (slice payload 104 96) (slice payload 200 96) = false) :
    Runs (.keyConfirm p payload) s (fun u => (u.linkOf (pidx p)).mode = .fault ∧ (u.linkOf (pidx p)).faultCause = 4 ∧ u.bit (Reg.link (pidx p) 0) 13 = true) :=
  ⟨_, by rw [exec_keyConfirm_secure hmode hsecured hpriv hresponder, if_neg (by simp [hpeer])], State.peerRejected_leaves h (pidx_lt p) (State.inService_secure hmode) (by rw [hmode]; decide)⟩

end

/-! ### The initiator's KEY_CONFIRM has left (R270) -/

/-- The hub as a frame has left a port outside service. -/
def State.frameGone (s : State) (n : Nat) (f : TxFrame) : State := (s.setLink n { s.linkOf n with current := none }).emit n (f.blocks none)

theorem State.frameGone_good {f : TxFrame} (h : Good O Q s) : Good O Q (s.frameGone n f) := State.emit_good (State.setLink_good h)

theorem State.frameGone_onLanes {f : TxFrame} (h : Good O Q s) : OnLanes { s.linkOf n with current := none } ((s.frameGone n f).linkOf n) := by
  have hport := State.emit_onLanes (p := n) (blocks := f.blocks none) (State.setLink_good (n := n) (v := { s.linkOf n with current := none }) h)
  rw [State.linkOf_setLink_self h] at hport
  exact hport

theorem exec_frameTxEnd_confirm {f : TxFrame} (hmode : (s.linkOf (pidx p)).mode = .secure) (hcurrent : (s.linkOf (pidx p)).current = some f) (htyp : f.body.typ = 0x13)
    (hkeys : (s.linkOf (pidx p)).keys.isSome = true) : exec (.frameTxEnd p) s = .next ((s.frameGone (pidx p) f).linkActive (pidx p)) := by
  change execFrameTxEnd p s = _
  unfold execFrameTxEnd
  dsimp only
  rw [hcurrent]
  dsimp only
  rw [if_neg (by simp [State.inService_secure hmode]), if_neg (by simp [hmode]), if_pos (by simp [hmode, htyp, hkeys])]
  rfl

theorem frameTxEnd_serves {f : TxFrame} {g : IdentFrame} (h : Good O Q s) (hmode : (s.linkOf (pidx p)).mode = .secure) (hcurrent : (s.linkOf (pidx p)).current = some f) (htyp : f.body.typ = 0x13)
    (hkeys : (s.linkOf (pidx p)).keys.isSome = true) (hpartner : (s.linkOf (pidx p)).partner = some g) :
    Runs (.frameTxEnd p) s (fun u => (u.linkOf (pidx p)).mode = .active ∧ unused (u.linkOf (pidx p)).keys = unused (s.linkOf (pidx p)).keys) := by
  have hlanes := State.frameGone_onLanes (n := pidx p) (f := f) h
  have hserves := State.linkActive_serves (p := pidx p) (g := g) (State.frameGone_good (f := f) h) (by rw [hlanes]; exact hpartner)
  refine ⟨_, exec_frameTxEnd_confirm hmode hcurrent htyp hkeys, hserves.mode, hserves.keys.trans ?_⟩
  rw [hlanes.keys]

/-! ### KEY_RENEWAL (R274) -/

/-- The initiator starts a key exchange. -/
theorem State.keyStart_eq (s : State) (n : Nat) : s.keyStart n = (s.drawnFor n s.drawnHalf).keySend n 1 (keyType 0x11 ++ s.drawnHalf ++ List.replicate 8 0) := rfl

theorem State.keyStart_leaves (h : Good O Q s) : ((s.keyStart n).linkOf n).ephemeral = some (randomBytes s.sv.draws 48) ∧ unused ((s.keyStart n).linkOf n).keys = unused (s.linkOf n).keys
    ∧ ((s.keyStart n).linkOf n).mode = (s.linkOf n).mode ∧ (s.keyStart n).sv = { s.sv with draws := s.sv.draws + 2 } ∧ (s.keyStart n).tm = s.tm := by
  have hport := State.drawnFor_linkOf (n := n) (transcript := s.drawnHalf) h
  have hsends : KeySends O Q n (s.drawnFor n s.drawnHalf) (s.keyStart n) := State.keyStart_eq s n ▸ State.keySend_sends (State.drawnFor_good h)
  obtain ⟨hmode, hkeys, hkey, -, -⟩ := hsends.keeps
  have hsame : unused ((s.drawnFor n s.drawnHalf).linkOf n).keys = unused (s.linkOf n).keys ∧ ((s.drawnFor n s.drawnHalf).linkOf n).mode = (s.linkOf n).mode := by
    rw [hport]
    exact ⟨rfl, rfl⟩
  exact ⟨hkey.trans (congrArg LinkSt.ephemeral hport), hkeys.trans hsame.1, hmode.trans hsame.2,
    hsends.changes .sv (by decide), hsends.changes .tm (by decide)⟩

theorem exec_keyRenewal {k : LinkKeys} (hservice : s.inService (pidx p) = true) (hkeys : (s.linkOf (pidx p)).keys = some k) (hinitiator : s.initiator (pidx p) = true) :
    exec (.keyRenewal p) s = .next ((if 2 ^ 40 ≤ k.counter ∨ 2 ^ 40 ≤ k.received then s else s.reachUp ((s.linkOf (pidx p)).keysAt + 86400000000000)).keyStart (pidx p)) := by
  change execKeyRenewal p s = _
  unfold execKeyRenewal
  dsimp only
  rw [if_pos ⟨hservice, by rw [hkeys]; rfl, hinitiator⟩, hkeys]
  simp only [Option.any_some, decide_eq_true_eq]

theorem keyRenewal_starts {k : LinkKeys} (h : Good O Q s) (hservice : s.inService (pidx p) = true) (hkeys : (s.linkOf (pidx p)).keys = some k) (hinitiator : s.initiator (pidx p) = true) :
    Runs (.keyRenewal p) s (fun u => (u.linkOf (pidx p)).ephemeral = some (randomBytes s.sv.draws 48) ∧ unused (u.linkOf (pidx p)).keys = unused (s.linkOf (pidx p)).keys ∧ (u.linkOf (pidx p)).mode = .active
      ∧ u.sv = { s.sv with draws := s.sv.draws + 2 }
      ∧ u.tm = (if 2 ^ 40 ≤ k.counter ∨ 2 ^ 40 ≤ k.received then s.tm else (s.reachUp ((s.linkOf (pidx p)).keysAt + 86400000000000)).tm)) := by
  have hmode := State.mode_of_inService hservice
  refine ⟨_, exec_keyRenewal hservice hkeys hinitiator, ?_⟩
  generalize (s.linkOf (pidx p)).keysAt + 86400000000000 = up
  split
  · obtain ⟨hkey, hunused, hstays, hsv, htm⟩ := State.keyStart_leaves (n := pidx p) h
    exact ⟨hkey, hunused, hstays.trans hmode, hsv, htm⟩
  · obtain ⟨hkey, hunused, hstays, hsv, htm⟩ := State.keyStart_leaves (n := pidx p) (State.reachUp_good (u := up) h)
    have hsame : (s.reachUp up).sv = s.sv := s.reachUp_changes up .sv (by decide)
    rw [State.reachUp_linkOf] at hunused hstays
    rw [hsame] at hkey hsv
    exact ⟨hkey, hunused, hstays.trans hmode, hsv, htm⟩

/-! ### The partner's checks (R394, R395) -/

theorem State.peerGood_unendorsed {owner sig pub transcript e : List Byte} (howned : s.sv.owned = true) (hkey : s.sv.ownerKey = owner)
    (hbad : Config.ecdsaVerify owner (ctxMessage 8 (Config.sha384 pub)) e = false) : s.peerGood true transcript pub e sig = false := by
  simp [State.peerGood, howned, hkey, hbad]

theorem State.peerGood_unsigned {sig pub transcript e : List Byte} {r : Bool} (hbad : Config.ecdsaVerify pub (linkMessage r transcript) sig = false) : s.peerGood r transcript pub e sig = false := by
  simp [State.peerGood, hbad]

/-- Settles O35: what each key frame leaves follows from KeySends, and a port that comes into service from linkActive_serves. -/
theorem keyExchangeGivesKeysOrFault : Obligations.KeyExchangeGivesKeysOrFault := by
  intro s hwf p
  have h := good_of_wf hwf
  exact ⟨fun payload => keyInit_answers h, fun payload priv hmode hsecured hinitiator hpriv => keyResp_derives hmode hsecured hpriv h hinitiator, fun f g => frameTxEnd_serves h,
    fun payload priv hmode hsecured hinitiator hpriv => keyResp_faults hmode hsecured hpriv h hinitiator,
    fun payload priv f hmode hsecured hresponder hpriv hpartner => keyConfirm_serves hmode hsecured hpriv h hresponder hpartner,
    fun payload priv hmode hsecured hresponder hpriv => keyConfirm_faults hmode hsecured hpriv h hresponder, fun k => keyRenewal_starts h,
    fun owner sig pub tr e => State.peerGood_unendorsed, fun sig pub tr e r => State.peerGood_unsigned⟩

end Sys2Proof.Machine
end

section
/-! PROOFS. What the twin does as TWIN leaves service touches no port but as sending does, and no field in effect (R347, R349, R357, R359). -/

namespace Sys2Proof.Machine

open Sys2Proof

set_option Elab.async false

variable {O : OtpSt} {Q : List Instr} {s t u : State} {m n p q x : Nat}

/-! ### Operations that touch ports as sending does -/

/-- t keeps the invariant, and each of its ports differs from that of s as sending changes it. -/
structure SendsAll (O : OtpSt) (Q : List Instr) (s t : State) : Prop where
  good : Good O Q t
  ports : ∀ q, OnSending (s.linkOf q) (t.linkOf q)

theorem SendsAll.refl (h : Good O Q s) : SendsAll O Q s s := ⟨h, fun _ => OnSending.refl _⟩

theorem SendsAll.trans (h : SendsAll O Q s t) (k : SendsAll O Q t u) : SendsAll O Q s u := ⟨k.good, fun q => (h.ports q).trans (k.ports q)⟩

/-- What touches no port. -/
theorem SendsAll.frm (h : SendsAll O Q s t) (hgood : Good O Q u) (hframe : Frm m t u) (hm : m.testBit 28 = false) : SendsAll O Q s u :=
  h.trans ⟨hgood, fun _ => hframe.linkOf hm ▸ OnSending.refl _⟩

/-- A change of a part of its own. -/
theorem SendsAll.same (h : SendsAll O Q s t) (hgood : Good O Q u) (hlink : u.link = t.link) : SendsAll O Q s u :=
by
  refine h.trans ⟨hgood, fun q => ?_⟩
  have hport : u.linkOf q = t.linkOf q := congrArg (fun c => Cells.get (fun _ => LinkSt.init) c q) hlink
  exact hport ▸ OnSending.refl _

/-- What sends on one port. -/
theorem SendsAll.sends (h : SendsAll O Q s t) (hsends : Sends O Q p t u) : SendsAll O Q s u := by
  refine h.trans ⟨hsends.good, fun q => ?_⟩
  by_cases hq : q = p
  · rw [hq]
    exact hsends.port
  · rw [hsends.other hq]
    exact OnSending.refl _

theorem SendsAll.strm {v : StreamSt} (h : SendsAll O Q s t) : SendsAll O Q s (t.setStrm x v) := h.frm (State.setStrm_good h.good) (State.setStrm_frm (Sub.refl _) (Frm.refl _ t)) (by decide)

theorem SendsAll.updStrm {f : StreamSt → StreamSt} (h : SendsAll O Q s t) : SendsAll O Q s (t.updStrm x f) := h.strm

theorem SendsAll.each {α : Type} {xs : List α} {f : α → State → State} (hf : ∀ x t, SendsAll O Q s t → SendsAll O Q s (f x t)) (h : SendsAll O Q s t) :
    SendsAll O Q s (t.each xs f) := by
  induction xs generalizing t with
  | nil => exact h
  | cons x xs ih => exact ih (hf x t h)

theorem SendsAll.ite {c : Prop} [Decidable c] (ht : SendsAll O Q s t) (hu : SendsAll O Q s u) : SendsAll O Q s (if c then t else u) := by
  split <;> assumption

theorem SendsAll.doIf {c : Bool} {f : State → State} (h : SendsAll O Q s t) (hf : SendsAll O Q s (f t)) : SendsAll O Q s (t.doIf c f) := hf.ite h

theorem SendsAll.underInj {b : Bool} {f : State → State} (hf : ∀ u, SendsAll O Q s u → SendsAll O Q s (f u)) (h : SendsAll O Q s t) : SendsAll O Q s (t.underInj b f) := by
  have hflag : ∀ (v : Bool) (u : State), SendsAll O Q s u → SendsAll O Q s { u with injectedNow := v } := fun v u hu => hu.same (good_mk hu.good rfl rfl rfl rfl) rfl
  unfold State.underInj
  split
  · exact hflag _ _ (hf _ (hflag _ _ h))
  · exact hf _ h

/-! ### Streams that settle (R147, R352) -/

theorem SendsAll.retire {d : Desc} {status resS : Nat} {res : List W32} (h : SendsAll O Q s t) : SendsAll O Q s (t.retire d status resS res) :=
  h.frm (State.retire_good h.good) (State.retire_frm (Sub.refl _) (Frm.refl _ t)) (by decide)

theorem SendsAll.report {e : SyncEntry} (h : SendsAll O Q s t) : SendsAll O Q s (t.report e) := (h.sends (State.sendOn_sends h.good)).ite h

theorem SendsAll.setBit {a b : Nat} (h : SendsAll O Q s t) : SendsAll O Q s (t.setBit a b) := h.frm (State.setBit_good h.good) (State.setBit_frm (Sub.refl _) (Frm.refl _ t)) (by decide)

theorem SendsAll.hiveFit (h : SendsAll O Q s t) : SendsAll O Q s t.hiveFit := h.frm (State.hiveFit_good h.good) (State.hiveFit_frm (Sub.refl _) (Frm.refl _ t)) (by decide)

theorem SendsAll.countGap {k : Packet} {i : GapInfo} (h : SendsAll O Q s t) : SendsAll O Q s (t.countGap x k i) := by
  have hcounted := h.frm (State.bump_good h.good (a := Reg.stream x 0x10)) (State.bump_frm (Sub.refl _) (Frm.refl _ t)) (by decide)
  exact (hcounted.frm (State.setReg64_good hcounted.good) (State.setReg64_frm (Sub.refl _) (Frm.refl _ _)) (by decide)).setBit.report

theorem SendsAll.memoryGap {k : Packet} {rest : List Packet} {detail : Nat} (h : SendsAll O Q s t) : SendsAll O Q s (t.memoryGap x k rest detail) := by
  unfold State.memoryGap
  dsimp only
  split
  · exact h.setBit.strm.countGap
  · exact h.setBit.strm

theorem SendsAll.placeHead (h : SendsAll O Q s t) : SendsAll O Q s (t.placeHead x) := by
  have hwritten : ∀ region, SendsAll O Q s (t.memWrite region) := fun region => h.frm (State.memWrite_good h.good) (State.memWrite_frm (Sub.refl _) (Frm.refl _ t)) (by decide)
  unfold State.placeHead
  dsimp only
  split
  · exact h
  · refine h.ite ?_
    split
    · exact h.strm.countGap
    · split
      · exact h.frm (State.overflowAt_good h.good) (State.overflowAt_frm (Sub.refl _) (Frm.refl _ t)) (by decide)
      · refine SendsAll.ite (SendsAll.underInj (fun u hu => hu.memoryGap) (hwritten _)) (SendsAll.report (SendsAll.doIf (hwritten _).strm ?_))
        exact (hwritten _).strm.setBit.hiveFit

theorem SendsAll.placeAll {f : Nat} : ∀ {t : State} {x : Nat}, SendsAll O Q s t → SendsAll O Q s (State.placeAll f t x) := by
  induction f with
  | zero => exact fun h => h
  | succ f ih =>
    intro t x h
    unfold State.placeAll
    split
    · exact (ih h.placeHead).ite h
    · exact h

theorem SendsAll.retireBuf {b : StreamBuf} (h : SendsAll O Q s t) : SendsAll O Q s (t.retireBuf x b) := by
  unfold State.retireBuf
  split
  · exact h
  · have hdone : SendsAll O Q s (t.updStrm x (fun st => { st.updBuf b.id (fun c => { c with done := true }) with retired := some ((b.held.getLast?.map (fun p => p.seq)).getD b.first) })) := h.updStrm
    refine SendsAll.retire (SendsAll.ite (SendsAll.report ?_) hdone)
    exact hdone.same (good_mk hdone.good rfl rfl rfl rfl) rfl

theorem SendsAll.bufSettle {f : Nat} : ∀ {t : State} {x : Nat}, SendsAll O Q s t → SendsAll O Q s (State.bufSettle f t x) := by
  induction f with
  | zero => exact fun h => h
  | succ f ih =>
    intro t x h
    have hempty : ∀ b status, SendsAll O Q s (t.retireEmpty x b status) := fun b status => h.frm (State.retireEmpty_good h.good) (State.retireEmpty_frm (Sub.refl _) (Frm.refl _ t)) (by decide)
    unfold State.bufSettle
    split
    · exact (ih ((hempty _ _).ite h.retireBuf)).ite h
    · exact h

theorem SendsAll.streamSettle (h : SendsAll O Q s t) : SendsAll O Q s (t.streamSettle x) :=
  (h.frm (State.assignAll_good h.good) (State.assignAll_frm (Sub.refl _) (Frm.refl _ t)) (by decide)).placeAll.bufSettle

theorem SendsAll.closePacket (h : SendsAll O Q s t) : SendsAll O Q s (t.closePacket x) := by
  unfold State.closePacket
  dsimp only
  split
  · exact h
  · exact h.ite (h.strm.ite h.strm.streamSettle)

theorem SendsAll.writeGaps {k : Nat} {at_ : Tq} (h : SendsAll O Q s t) : SendsAll O Q s (t.writeGaps x k at_) := by
  refine SendsAll.streamSettle (SendsAll.updStrm (h.each (fun l v hv => ?_)))
  exact hv.frm (State.pushGap_good hv.good) (State.pushGap_frm (Sub.refl _) (Frm.refl _ v)) (by decide)

theorem SendsAll.appendFrame {k : Nat} {edge : Tq} {epoch : BitVec 16} {samples : List (Int × Marks)} (h : SendsAll O Q s t) : SendsAll O Q s (t.appendFrame x k edge epoch samples) := by
  have hhold : ∀ f v, SendsAll O Q s v → SendsAll O Q s (v.holdFrame x epoch f) := fun f v hv => hv.frm (State.holdFrame_good hv.good) (State.holdFrame_frm (Sub.refl _) (Frm.refl _ v)) (by decide)
  have hput : ∀ f v, SendsAll O Q s v → SendsAll O Q s ((v.putFrame x epoch f).closeIfFull x) := fun f v hv => by
    have hframe := hv.frm (State.putFrame_good hv.good (x := x) (epoch := epoch) (f := f)) (State.putFrame_frm (Sub.refl _) (Frm.refl _ v)) (by decide)
    exact hframe.closePacket.ite hframe
  have hgaps : ∀ v, SendsAll O Q s v → SendsAll O Q s (if (v.strmOf x).losses.isEmpty then v else v.writeGaps x k edge) := fun v hv => hv.ite hv.writeGaps
  have hopen := h.updStrm (x := x) (f := fun st => { st with skipTo := none })
  have hcut : ∀ c : Bool, SendsAll O Q s (if c then (t.updStrm x (fun st => { st with skipTo := none })).closePacket x else t.updStrm x (fun st => { st with skipTo := none })) := fun c => hopen.closePacket.ite hopen
  unfold State.appendFrame
  dsimp only
  exact h.ite (h.updStrm.ite (h.ite ((hhold _ _ hopen).ite ((hcut _).ite (hput _ _ (hgaps _ (hcut _)))))))

theorem SendsAll.reAppend {fs : List PktFrame} : ∀ {pend : List LossSt} {t : State}, SendsAll O Q s t → SendsAll O Q s (reAppend x fs pend t) := by
  induction fs with
  | nil => exact fun h => h.updStrm
  | cons f fs ih => exact fun h => ih h.updStrm.appendFrame

theorem SendsAll.reAppendRuns {ps : List Packet} : ∀ {pend : List LossSt} {t : State}, SendsAll O Q s t → SendsAll O Q s (reAppendRuns x ps pend t) := by
  induction ps with
  | nil => exact fun h => h.reAppend
  | cons k ps ih =>
    intro pend t h
    have hagain := (h.updStrm (x := x) (f := fun st => { st with form := some k })).reAppend (x := x) (fs := k.frames) (pend := pend.filter (fun l => decide (l.first ≤ (k.frames.getLast?.map (fun f => f.k)).getD 0)))
    exact ih (hagain.ite hagain.closePacket)

theorem SendsAll.adoptStream (h : SendsAll O Q s t) : SendsAll O Q s (t.adoptStream x) := by
  unfold State.adoptStream
  dsimp only
  exact (SendsAll.ite h.strm.reAppendRuns.closePacket h.strm.reAppendRuns).updStrm.streamSettle

theorem SendsAll.dropAwaits (h : SendsAll O Q s t) : SendsAll O Q s t.dropAwaits := by
  refine h.each (fun x v hv => ?_)
  split
  · exact hv.updStrm.adoptStream
  · exact hv

/-! ### A standby's reasons (R451) -/

theorem SendsAll.setReasons {r : BitVec 16} (h : SendsAll O Q s t) : SendsAll O Q s (t.setReasons r) := by
  have hnoted : SendsAll O Q s { t with twin := { t.twin with reasons := r } } := h.same (good_mk h.good rfl rfl rfl rfl) rfl
  have hrole : ∀ to_ v, SendsAll O Q s v → SendsAll O Q s (v.setRole to_ []) := fun to_ v hv => hv.frm (State.setRole_good hv.good) (State.setRole_frm (Sub.refl _) (Frm.refl _ v)) (by decide)
  have hraise : ∀ e v, SendsAll O Q s v → SendsAll O Q s (v.raise e) := fun e v hv => hv.frm (State.raise_good hv.good) (State.raise_frm (m := reportSet) (Sub.refl _) (Frm.refl _ v)) (by decide)
  have hfit : ∀ v, SendsAll O Q s v → SendsAll O Q s ((v.endHandling Reg.twinStatus 0xFFFF).raiseBare 0 false 0xFFFF) := fun v hv => by
    have hover := hv.frm (State.endHandling_good hv.good (reg := Reg.twinStatus) (inst := 0xFFFF)) (State.endHandling_frm (Sub.refl _) (Frm.refl _ v)) (by decide)
    exact hover.frm (State.raiseBare_good hover.good) (State.raiseBare_frm (Sub.refl _) (Frm.refl _ _)) (by decide)
  have htold : ∀ v, SendsAll O Q s v → SendsAll O Q s v.sendHealth := fun v hv => hv.sends (State.sendHealth_sends hv.good)
  unfold State.setReasons
  dsimp only
  exact h.ite (htold _ ((hraise _ _ (hrole _ _ hnoted)).ite ((hfit _ (hrole _ _ hnoted)).ite hnoted)))

/-! ### TWIN leaves service (R347, R349, R357, R359) -/

theorem Frm.live (h : Frm m s t) (hm : m.testBit 32 = false) : t.cfg.live = s.cfg.live := congrArg CfgSt.live (h .cfg hm)

theorem State.flipAlone_live (s : State) : s.flipAlone.cfg.live = s.cfg.live := by
  unfold State.flipAlone
  dsimp only
  split <;> rfl

theorem State.giveUpCommit_live (s : State) : s.giveUpCommit.cfg.live = s.cfg.live := by
  unfold State.giveUpCommit
  dsimp only
  split
  · exact (State.retireBad_frm (Sub.refl _) (Frm.refl _ _)).live (by decide)
  · rfl

theorem State.setRole_live (s : State) (r : Role) (newlyOn : List Nat) : (s.setRole r newlyOn).cfg.live = s.cfg.live := by
  have hgives : ∀ (c : Bool) (t : State), (t.doIf c State.giveUpCommit).cfg.live = t.cfg.live := fun c t => by
    cases c
    · rfl
    · exact t.giveUpCommit_live
  have hm := Sub.refl 149791217680
  unfold State.setRole
  dsimp only
  refine (hgives _ _).trans (Frm.live (m := 149791217680) (State.excRole_frm (hm.le (by decide)) (State.doIf_frm ?_ (State.setBit_frm (hm.le (by decide)) ?_))) (by decide))
  all_goals exact frm_mk (State.doIf_frm (Frm.refl _ s) (State.each_frm (Frm.refl _ s) (fun _ _ ht => State.updExc_frm (hm.le (by decide)) ht)))

theorem State.setReasons_live (s : State) (r : BitVec 16) : (s.setReasons r).cfg.live = s.cfg.live := by
  have htold : ∀ t : State, t.cfg.live = s.cfg.live → t.sendHealth.cfg.live = s.cfg.live := fun t ht => ((State.sendHealth_frm (Sub.refl _) (Frm.refl _ t)).live (by decide)).trans ht
  have hraised : ∀ t e, (State.raise t e).cfg.live = t.cfg.live := fun t e => (State.raise_frm (Sub.refl _) (Frm.refl _ t)).live (by decide)
  have hfit : ∀ t : State, ((t.endHandling Reg.twinStatus 0xFFFF).raiseBare 0 false 0xFFFF).cfg.live = t.cfg.live := fun t =>
    (State.raiseBare_frm (Sub.refl _) (State.endHandling_frm ((Sub.refl _).le (by decide)) (Frm.refl _ t))).live (by decide)
  unfold State.setReasons
  dsimp only
  split
  · rfl
  · refine htold _ ?_
    split
    · exact (hraised _ _).trans (State.setRole_live _ _ _)
    · split
      · exact (hfit _).trans (State.setRole_live _ _ _)
      · rfl

/-- TWIN's record as it leaves service: the swap and the resync end. -/
def State.twinCut (s : State) : State :=
  { s with twin := { s.twin with twinDownUp := some s.tm.up, resync := 0, syncQueue := [], swapId := none, swapFrame := none, swapAsked := false } }

/-- A swap under way ends with its descriptor. -/
def State.swapLost (s t : State) : State :=
  match s.twin.swapId.bind t.descOf with
  | some d => t.retireBad d 0x0612
  | none => t

theorem State.twinDown_eq (s : State) : s.twinDown =
    if (s.flipAlone.dropAwaits.swapLost s.flipAlone.dropAwaits.twinCut).isStandby then (s.flipAlone.dropAwaits.swapLost s.flipAlone.dropAwaits.twinCut).addReason [Reason.link]
    else s.flipAlone.dropAwaits.swapLost s.flipAlone.dropAwaits.twinCut := rfl

theorem State.swapLost_frm (s t : State) : Frm 141197082640 t (s.swapLost t) := by
  unfold State.swapLost
  split
  · exact State.retireBad_frm (Sub.refl _) (Frm.refl _ t)
  · exact Frm.refl _ t

theorem State.swapLost_good (s : State) (h : Good O Q t) : Good O Q (s.swapLost t) := by
  unfold State.swapLost
  split
  · exact State.retireBad_good h
  · exact h

theorem State.twinDown_live (s : State) : s.twinDown.cfg.live = s.cfg.live := by
  have hdropped : (s.flipAlone.dropAwaits.swapLost s.flipAlone.dropAwaits.twinCut).cfg.live = s.cfg.live :=
    ((State.swapLost_frm _ _).live (by decide)).trans (((State.dropAwaits_frm (Sub.refl _) (Frm.refl _ s.flipAlone)).live (by decide)).trans s.flipAlone_live)
  rw [State.twinDown_eq]
  split
  · exact (State.setReasons_live _ _).trans hdropped
  · exact hdropped

theorem State.twinDown_sends (h : Good O Q s) : SendsAll O Q s s.twinDown := by
  have hflip := (SendsAll.refl h).frm (State.flipAlone_good h) (State.flipAlone_frm (Sub.refl _) (Frm.refl _ s)) (by decide)
  have hdrop := hflip.dropAwaits
  have hcut : SendsAll O Q s s.flipAlone.dropAwaits.twinCut := hdrop.same (good_mk hdrop.good rfl rfl rfl rfl) rfl
  have hswap := hcut.frm (State.swapLost_good s.flipAlone.dropAwaits hcut.good) (State.swapLost_frm _ _) (by decide)
  rw [State.twinDown_eq]
  exact hswap.setReasons.ite hswap

/-! ### What a port keeps as it leaves service -/

theorem State.linkExit_port {cause : Nat} (h : Good O Q s) (hservice : s.inService p = true) :
    ∃ l, OnLanes (s.linkOf p) l ∧ OnSending l.outOfService ((s.linkExit p cause).linkOf p) := by
  obtain ⟨l, hlanes, hport⟩ := State.exitLeft_port (p := p) (cause := cause) h
  refine ⟨l, hlanes, ?_⟩
  rw [State.linkExit_eq hservice, ← hport]
  split
  · exact (State.twinDown_sends (State.exitLeft_good h)).ports p
  · exact OnSending.refl _

theorem State.linkExit_cfgv {cause : Nat} (hservice : s.inService p = true) : (s.linkExit p cause).cfgv = s.cfgv := by
  have hleft : (s.exitLeft p cause).cfg.live = s.cfg.live := (s.exitLeft_changes p cause).live (by decide)
  have hlive : (s.linkExit p cause).cfg.live = s.cfg.live := by
    rw [State.linkExit_eq hservice]
    split
    · exact (State.twinDown_live _).trans hleft
    · exact hleft
  have hotp : (s.linkExit p cause).otp = s.otp := State.linkExit_frm (Sub.refl _) (Frm.refl _ s) .otp (by decide)
  unfold State.cfgv
  rw [hlive, hotp]

end Sys2Proof.Machine
end

section
/-! PROOFS. Rate trials: proposed, accepted, soaked and judged (R266). -/

namespace Sys2Proof.Machine

open Sys2Proof

set_option Elab.async false

variable {O : OtpSt} {Q : List Instr} {s t : State} {l : LinkSt} {p : Port} {n q r : Nat}

/-- What sending leaves of a trial. -/
theorem OnSending.trial {l u : LinkSt} (h : OnSending l u) : u.rate = l.rate ∧ u.trial = l.trial ∧ u.trialStep = l.trialStep ∧ u.sentPass = l.sentPass ∧ u.gotPass = l.gotPass
    ∧ u.bestRate = l.bestRate ∧ u.lastTrain = l.lastTrain ∧ u.loadUp = l.loadUp ∧ u.partner = l.partner := by
  rw [h.port]
  exact ⟨rfl, rfl, rfl, rfl, rfl, rfl, rfl, rfl, rfl⟩

/-! ### Going to a rate and back (R266 steps 2 and 3) -/

/-- The port as it goes to another rate. -/
def LinkSt.movesTo (l : LinkSt) (up rate : Nat) (back : Bool) : LinkSt :=
  { l.catchUp up with prevRate := if back then l.prevRate else l.rate, rate := rate, trialStep := 2, back := back, ownClean := true, lastTrain := none, laneUp := up + 10000, txPos := 0 }

theorem State.toRate_eq (s : State) (n rate : Nat) (back : Bool) : s.toRate n rate back = s.updLink n (fun l => l.movesTo s.tm.up rate back) := rfl

theorem State.toRate_port {back : Bool} (h : Good O Q s) : (s.toRate n r back).linkOf n = (s.linkOf n).movesTo s.tm.up r back := State.linkOf_updLink_self h

theorem LinkSt.movesTo_keeps (l : LinkSt) (up rate : Nat) (back : Bool) : (l.movesTo up rate back).mode = l.mode ∧ (l.movesTo up rate back).trial = l.trial := by
  rw [LinkSt.movesTo, l.catchUp_onLanes up]
  exact ⟨rfl, rfl⟩

theorem State.rateBack_port (h : Good O Q s) : (s.rateBack n).linkOf n = { (s.linkOf n).movesTo s.tm.up (s.linkOf n).prevRate true with trialUp := s.tm.up } := by
  rw [State.rateBack, State.linkOf_updLink_self (State.toRate_good h), State.toRate_port h]

theorem State.updLink_keeps (s : State) (n : Nat) (f : LinkSt → LinkSt) : s.keepsBut [.link] (s.updLink n f) :=
  (State.updLink_frm (m := 268435456) (Sub.refl _) (Frm.refl _ s)).keepsParts (by decide)

theorem State.rateBack_changes (s : State) (n : Nat) : Frm 268435456 s (s.rateBack n) :=
  State.updLink_frm (Sub.refl _) (State.updLink_frm (Sub.refl _) (Frm.refl _ s))

/-! ### A proposal is taken (R266) -/

/-- The responder goes to a proposed rate and answers ACCEPT. -/
def State.rateTaken (s : State) (n r : Nat) : State :=
  (((s.updLink n (fun l => { l with trial := some r, sentPass := none, gotPass := none, trialUp := s.tm.up })).sendOn n .training (.rate 1 r)).toRate n r false).updLink n
    (fun l => { l with lastTrain := some (.rate 1 r), trainUp := s.tm.up })

/-- The port once ACCEPT has been sent. -/
theorem State.proposed_port (h : Good O Q s) {u : State} (hu : u = (s.updLink n (fun l => { l with trial := some r, sentPass := none, gotPass := none, trialUp := s.tm.up })).sendOn n .training (.rate 1 r)) :
    Good O Q u ∧ (u.linkOf n).mode = (s.linkOf n).mode ∧ (u.linkOf n).rate = (s.linkOf n).rate ∧ (u.linkOf n).trial = some r := by
  have hsends := State.sendOn_sends (p := n) (cls := .training) (body := .rate 1 r)
    (State.updLink_good (n := n) (f := fun l => { l with trial := some r, sentPass := none, gotPass := none, trialUp := s.tm.up }) h)
  rw [← hu] at hsends
  have hnoted := State.linkOf_updLink_self (n := n) (f := fun l => { l with trial := some r, sentPass := none, gotPass := none, trialUp := s.tm.up }) h
  obtain ⟨hrate, htrial, -⟩ := hsends.port.trial
  exact ⟨hsends.good, hsends.mode.trans (by rw [hnoted]), hrate.trans (by rw [hnoted]), htrial.trans (by rw [hnoted])⟩

theorem State.rateTaken_port (h : Good O Q s) : let u := (s.rateTaken n r).linkOf n
    u.mode = (s.linkOf n).mode ∧ u.rate = r ∧ u.prevRate = (s.linkOf n).rate ∧ u.trial = some r ∧ u.trialStep = 2 ∧ u.back = false ∧ u.lastTrain = some (.rate 1 r) := by
  unfold State.rateTaken
  generalize ht : (s.updLink n (fun l => { l with trial := some r, sentPass := none, gotPass := none, trialUp := s.tm.up })).sendOn n .training (.rate 1 r) = t
  obtain ⟨hgood, hmode, hrate, htrial⟩ := State.proposed_port h ht.symm
  obtain ⟨hstays, hsame⟩ := (t.linkOf n).movesTo_keeps t.tm.up r false
  rw [State.linkOf_updLink_self (State.toRate_good hgood), State.toRate_port hgood]
  exact ⟨hstays.trans hmode, rfl, hrate, hsame.trans htrial, rfl, rfl, rfl⟩

/-- Of the registers at most LINK_RETRIES and LINK_TX_LOST change. -/
theorem State.rateTaken_reg {i : Nat} (h : Good O Q s) (hretries : i ≠ 0x14) (hlost : i ≠ 0x20) : (s.rateTaken n r).reg (Reg.link n i) = s.reg (Reg.link n i) := by
  have hsends := State.sendOn_sends (p := n) (cls := .training) (body := .rate 1 r)
    (State.updLink_good (n := n) (f := fun l => { l with trial := some r, sentPass := none, gotPass := none, trialUp := s.tm.up }) h)
  have hmoved : ∀ u : State, ((u.toRate n r false).updLink n (fun l => { l with lastTrain := some (.rate 1 r), trainUp := s.tm.up })).reg (Reg.link n i) = u.reg (Reg.link n i) := fun u =>
    (State.updLink_frm (m := 268435456) (Sub.refl _) (State.toRate_frm (Sub.refl _) (Frm.refl _ u))).reg (by decide)
  exact (hmoved _).trans (hsends.at_.1 _ (by simp [Reg.link, hretries]) (by simp [Reg.link, hlost]))

/-- The port left service for a proposal. -/
def State.leavesForTrial (s : State) (n : Nat) : State := ((s.linkExit n 0).updLink n (fun l => { l with fast := false })).linkMode n .rateTrial

theorem State.leavesForTrial_good (h : Good O Q s) : Good O Q (s.leavesForTrial n) := State.linkMode_good (State.updLink_good (State.linkExit_good h))

section
variable (hresponder : s.initiator (pidx p) = false) (hnext : r = (s.linkOf (pidx p)).rate + 1) (hlimit : r ≤ s.rateLimit (pidx p))
include hresponder hnext hlimit

theorem exec_ratePropose_taken (hbetween : (decide ((s.linkOf (pidx p)).mode = .rateTrial ∧ (s.linkOf (pidx p)).trialStep = 0) || s.inService (pidx p)) = true) :
    exec (.ratePropose p r) s = .next (if s.inService (pidx p) then (s.leavesForTrial (pidx p)).rateTaken (pidx p) r else s.rateTaken (pidx p) r) := by
  refine (if_pos ⟨hresponder, hbetween, hnext, hlimit⟩).trans ?_
  split <;> rfl

theorem ratePropose_between (h : Good O Q s) (hmode : (s.linkOf (pidx p)).mode = .rateTrial) (hstep : (s.linkOf (pidx p)).trialStep = 0) : Runs (.ratePropose p r) s (fun u =>
    (u.linkOf (pidx p)).rate = r ∧ (u.linkOf (pidx p)).prevRate = (s.linkOf (pidx p)).rate ∧ (u.linkOf (pidx p)).trial = some r ∧ (u.linkOf (pidx p)).trialStep = 2
      ∧ (u.linkOf (pidx p)).back = false ∧ (u.linkOf (pidx p)).lastTrain = some (.rate 1 r)) := by
  have hidle : s.inService (pidx p) = false := State.inService_of_mode (by rw [hmode]; decide)
  refine ⟨s.rateTaken (pidx p) r, ?_, (State.rateTaken_port h).2⟩
  rw [exec_ratePropose_taken hresponder hnext hlimit (by simp [hmode, hstep]), if_neg (by simp [hidle])]

theorem ratePropose_inService (h : Good O Q s) (hservice : s.inService (pidx p) = true) : Runs (.ratePropose p r) s (fun u =>
    (u.linkOf (pidx p)).mode = .rateTrial ∧ (u.linkOf (pidx p)).rate = r ∧ (u.linkOf (pidx p)).trial = some r ∧ (u.linkOf (pidx p)).trialStep = 2
      ∧ (pidx p ≠ 2 → u.reg (Reg.link (pidx p) 0x10) = (s.reg (Reg.link (pidx p) 0x10)).satAdd 1)) := by
  obtain ⟨hmode, hrate, -, htrial, hstep, -⟩ := State.rateTaken_port (n := pidx p) (r := r) (State.leavesForTrial_good (n := pidx p) h)
  refine ⟨(s.leavesForTrial (pidx p)).rateTaken (pidx p) r, ?_, hmode.trans (State.linkMode_mode (State.updLink_good (State.linkExit_good h))), hrate, htrial, hstep, fun hline => ?_⟩
  · rw [exec_ratePropose_taken hresponder hnext hlimit (by simp [hservice]), if_pos hservice]
  · calc ((s.leavesForTrial (pidx p)).rateTaken (pidx p) r).reg (Reg.link (pidx p) 0x10)
        = (s.leavesForTrial (pidx p)).reg (Reg.link (pidx p) 0x10) := State.rateTaken_reg (State.leavesForTrial_good h) (by decide) (by decide)
      _ = (s.linkExit (pidx p) 0).reg (Reg.link (pidx p) 0x10) := State.linkMode_reg (Reg.link_quiet (pidx_lt p) (by decide)) (by simp [Reg.link]) (by simp [Reg.link])
      _ = (s.exitLeft (pidx p) 0).reg (Reg.link (pidx p) 0x10) := by rw [State.linkExit_line hservice hline]
      _ = _ := State.exitLeft_count h (pidx_lt p)

end

theorem exec_ratePropose_idle (hunfit : r ≠ (s.linkOf (pidx p)).rate + 1 ∨ s.rateLimit (pidx p) < r) (hstep : (s.linkOf (pidx p)).mode ≠ .rateTrial ∨ (s.linkOf (pidx p)).trialStep ≠ 2) :
    exec (.ratePropose p r) s = .next s :=
  (if_neg (by omega)).trans (if_neg (by tauto))

theorem exec_ratePropose_again (hmode : (s.linkOf (pidx p)).mode = .rateTrial) (hstep : (s.linkOf (pidx p)).trialStep = 2) (hresponder : s.initiator (pidx p) = false)
    (hforth : (s.linkOf (pidx p)).back = false) (htrial : (s.linkOf (pidx p)).trial = some r) : exec (.ratePropose p r) s = .next (s.sendOn (pidx p) .training (.rate 1 r)) := by
  have hidle : s.inService (pidx p) = false := State.inService_of_mode (by rw [hmode]; decide)
  exact (if_neg (by simp [hidle, hstep])).trans (if_pos ⟨hmode, hstep, hresponder, hforth, htrial⟩)

theorem rateAccept_moves (h : Good O Q s) (hmode : (s.linkOf (pidx p)).mode = .rateTrial) (hstep : (s.linkOf (pidx p)).trialStep = 1) (htrial : (s.linkOf (pidx p)).trial = some r) :
    Runs (.rateAccept p r) s (fun u => u.linkOf (pidx p) = { (s.linkOf (pidx p)).catchUp s.tm.up with
        prevRate := (s.linkOf (pidx p)).rate, rate := r, trialStep := 2, back := false, ownClean := true, lastTrain := none, laneUp := s.tm.up + 10000, txPos := 0 }
      ∧ (∀ q, q ≠ pidx p → u.linkOf q = s.linkOf q) ∧ s.keepsBut [.link] u) :=
  ⟨s.toRate (pidx p) r false, if_pos ⟨hmode, hstep, htrial⟩, State.toRate_port h, fun _ hq => State.linkOf_updLink_other hq, s.updLink_keeps _ _⟩

/-! ### The soak (R258, R266) -/

theorem test_counts (h : Good O Q s) {clean : Bool} {bad : Nat} (hmode : (s.linkOf (pidx p)).mode = .rateTrial) (hstep : (s.linkOf (pidx p)).trialStep = 6) : Runs (.test p ⟨clean, bad⟩) s (fun u =>
    u.linkOf (pidx p) = { s.linkOf (pidx p) with ownClean := (s.linkOf (pidx p)).ownClean && clean && decide (bad = 0) }
      ∧ u.reg (Reg.link (pidx p) 0x18) = (s.reg (Reg.link (pidx p) 0x18)).satAdd (if clean then 0 else 1)
      ∧ u.reg (Reg.link (pidx p) 0x28) = (s.reg (Reg.link (pidx p) 0x28)).satAdd bad ∧ (∀ q, q ≠ pidx p → u.linkOf q = s.linkOf q) ∧ s.keepsBut [.regs, .link] u) := by
  have hexec : exec (.test p ⟨clean, bad⟩) s = .next (((s.bumpBy (Reg.link (pidx p) 0x18) (if clean then 0 else 1)).bumpBy (Reg.link (pidx p) 0x28) bad).updLink (pidx p)
      (fun l => { l with ownClean := l.ownClean && clean && decide (bad = 0) })) := if_pos ⟨hmode, hstep⟩
  have hfirst : Good O Q (s.bumpBy (Reg.link (pidx p) 0x18) (if clean then 0 else 1)) := State.bumpBy_good h
  have hcount : (s.bumpBy (Reg.link (pidx p) 0x18) (if clean then 0 else 1)).reg (Reg.link (pidx p) 0x28) = s.reg (Reg.link (pidx p) 0x28) := State.bumpBy_reg (by simp [Reg.link])
  have hm := Sub.refl 268435472
  refine ⟨_, hexec, State.linkOf_updLink_self (State.bumpBy_good hfirst), ?_, ?_, fun q hq => State.linkOf_updLink_other hq, Frm.keepsParts (m := 268435472) ?_ (by decide)⟩
  · exact (State.bumpBy_reg (s := s.bumpBy (Reg.link (pidx p) 0x18) (if clean then 0 else 1)) (by simp [Reg.link])).trans (State.reg_setReg_self h)
  · exact (State.reg_setReg_self hfirst).trans (congrArg (W32.satAdd · bad) hcount)
  · exact State.updLink_frm (hm.le (by decide)) (State.bumpBy_frm (hm.le (by decide)) (State.bumpBy_frm (hm.le (by decide)) (Frm.refl _ s)))

/-! ### The results of a trial (R266) -/

/-- The own result has not left, or one of the two is missing. -/
theorem State.trialResult_waits (hopen : ((s.linkOf n).queues ++ (s.linkOf n).current.toList).any TxFrame.isResult = true ∨ (s.linkOf n).sentPass = none ∨ (s.linkOf n).gotPass = none) :
    s.trialResult n = s := by
  unfold State.trialResult
  dsimp only
  split
  · rfl
  next htold =>
    rcases hopen with hopen | hsent | hgot
    · exact absurd hopen htold
    · rw [hsent]
    · rw [hgot]
      cases (s.linkOf n).sentPass with
      | none => rfl
      | some b => cases b <;> rfl

section
variable (htold : ((s.linkOf n).queues ++ (s.linkOf n).current.toList).any TxFrame.isResult = false)
include htold

theorem State.trialResult_passes (hsent : (s.linkOf n).sentPass = some true) (hgot : (s.linkOf n).gotPass = some true) :
    s.trialResult n = (s.setLink n { s.linkOf n with bestRate := max (s.linkOf n).bestRate (s.linkOf n).rate, trial := none, trialStep := 0, lastTrain := none }).nextTrial n := by
  unfold State.trialResult
  dsimp only
  rw [if_neg (by simp [htold]), hsent, hgot]

theorem State.trialResult_fails {b : Bool} (hsent : (s.linkOf n).sentPass = some b) (hgot : (s.linkOf n).gotPass = some false) : s.trialResult n = s.rateBack n := by
  unfold State.trialResult
  dsimp only
  rw [if_neg (by simp [htold]), hsent, hgot]
  cases b <;> rfl

end

/-! ### What is best so far stays (R266) -/

theorem OnMode.bestRate {l u : LinkSt} (h : OnMode l u) : u.bestRate = l.bestRate := by rw [h]

theorem State.keyStart_bestRate (h : Good O Q s) : ((s.keyStart n).linkOf n).bestRate = (s.linkOf n).bestRate := by
  obtain ⟨train, up, hport⟩ := (State.keySend_sends (n := n) (kind := 1) (payload := keyType 0x11 ++ s.drawnHalf ++ List.replicate 8 0) (State.drawnFor_good (n := n) (transcript := s.drawnHalf) h)).port
  obtain ⟨-, -, -, -, -, hbest, -⟩ := hport.trial
  rw [State.keyStart_eq, hbest]
  dsimp only
  rw [State.drawnFor_linkOf h]

theorem State.linkActive_bestRate (h : Good O Q s) : ((s.linkActive n).linkOf n).bestRate = (s.linkOf n).bestRate := by
  cases hpartner : (s.linkOf n).partner with
  | none => rw [State.linkActive, hpartner]
  | some f => exact (State.linkActive_serves h hpartner).bestRate

/-- The search is over. -/
theorem State.linkSecure_bestRate (h : Good O Q s) : ((s.linkSecure n).linkOf n).bestRate = (s.linkOf n).bestRate := by
  have hended : Good O Q (s.updLink n (fun l => { l with trial := none, trialStep := 0, trained := some l.rate })) := State.updLink_good h
  have hsecure : ((((s.updLink n (fun l => { l with trial := none, trialStep := 0, trained := some l.rate })).linkMode n .secure)).linkOf n).bestRate = (s.linkOf n).bestRate :=
    (State.linkMode_onMode hended).bestRate.trans (by rw [State.linkOf_updLink_self h])
  unfold State.linkSecure
  dsimp only
  split
  · split
    · exact (State.keyStart_bestRate (State.linkMode_good hended)).trans hsecure
    · exact hsecure
  · exact State.linkActive_bestRate h

theorem State.trainSend_trial {b : TxBody} (h : Good O Q s) : ((s.trainSend n b).linkOf n).bestRate = (s.linkOf n).bestRate := by
  obtain ⟨-, -, -, -, -, hbest, -⟩ := (State.trainSend_port (p := n) (b := b) h).trial
  exact hbest

theorem State.nextTrial_bestRate (h : Good O Q s) : ((s.nextTrial n).linkOf n).bestRate = (s.linkOf n).bestRate := by
  unfold State.nextTrial
  dsimp only
  split
  · exact State.linkSecure_bestRate h
  · split
    · refine (State.trainSend_trial (State.updLink_good h)).trans ?_
      rw [State.linkOf_updLink_self h]
    · rw [State.linkOf_updLink_self h]

theorem State.trialResult_best (h : Good O Q s) (htold : ((s.linkOf n).queues ++ (s.linkOf n).current.toList).any TxFrame.isResult = false)
    (hsent : (s.linkOf n).sentPass = some true) (hgot : (s.linkOf n).gotPass = some true) : ((s.trialResult n).linkOf n).bestRate = max (s.linkOf n).bestRate (s.linkOf n).rate := by
  rw [State.trialResult_passes htold hsent hgot, State.nextTrial_bestRate (State.setLink_good h), State.linkOf_setLink_self h]

/-! ### The soak ends, and the partner's result comes (R266) -/

/-- The soak has ended with a result of its own. -/
def State.soaked (s : State) (n : Nat) (l : LinkSt) : State := (s.reachUp (l.soakUp + 10000000)).setLink n { l with trialStep := 7, sentPass := some l.ownClean }

theorem soakEnd_tells (h : Good O Q s) (hmode : (s.linkOf (pidx p)).mode = .rateTrial) (hstep : (s.linkOf (pidx p)).trialStep = 6) (hgot : (s.linkOf (pidx p)).gotPass = none) :
    Runs (.soakEnd p) s (fun u => (u.linkOf (pidx p)).trialStep = 7 ∧ (u.linkOf (pidx p)).sentPass = some (s.linkOf (pidx p)).ownClean
      ∧ (u.linkOf (pidx p)).lastTrain = some (.rate (if (s.linkOf (pidx p)).ownClean then 2 else 3) (s.linkOf (pidx p)).rate) ∧ (u.linkOf (pidx p)).rate = (s.linkOf (pidx p)).rate
      ∧ u.tm = (s.reachUp ((s.linkOf (pidx p)).soakUp + 10000000)).tm) := by
  have hreached := State.reachUp_good (u := (s.linkOf (pidx p)).soakUp + 10000000) h
  have hset : (s.soaked (pidx p) (s.linkOf (pidx p))).linkOf (pidx p) = { s.linkOf (pidx p) with trialStep := 7, sentPass := some (s.linkOf (pidx p)).ownClean } := State.linkOf_setLink_self hreached
  have hgood : Good O Q (s.soaked (pidx p) (s.linkOf (pidx p))) := State.setLink_good hreached
  have htm : (s.soaked (pidx p) (s.linkOf (pidx p))).tm = (s.reachUp ((s.linkOf (pidx p)).soakUp + 10000000)).tm := State.setLink_frm (m := 268435456) (Sub.refl _) (Frm.refl _ _) .tm (by decide)
  have hexec : exec (.soakEnd p) s = .next (((s.soaked (pidx p) (s.linkOf (pidx p))).trainSend (pidx p) (.rate (if (s.linkOf (pidx p)).ownClean then 2 else 3) (s.linkOf (pidx p)).rate)).trialResult (pidx p)) :=
    if_pos ⟨hmode, hstep⟩
  generalize s.soaked (pidx p) (s.linkOf (pidx p)) = t at hset hgood htm hexec
  generalize TxBody.rate (if (s.linkOf (pidx p)).ownClean then 2 else 3) (s.linkOf (pidx p)).rate = b at hexec ⊢
  obtain ⟨hrate, -, hseven, hsent, hnone, -, htrain, -⟩ := (State.trainSend_port (p := pidx p) (b := b) hgood).trial
  rw [hset] at hrate hseven hsent hnone htrain
  refine ⟨t.trainSend (pidx p) b, ?_, hseven, hsent, htrain, hrate, ?_⟩
  · rw [hexec, State.trialResult_waits (.inr (.inr (hnone.trans hgot)))]
  · exact Eq.trans (State.trainSend_frm (m := 8891924496) (Sub.refl _) (Frm.refl _ t) .tm (by decide)) htm

/-- The port with the partner's result. -/
def State.heard (s : State) (n : Nat) (pass : Bool) : State := s.setLink n { s.linkOf n with gotPass := some pass }

theorem State.heard_linkOf {pass : Bool} (h : Good O Q s) : (s.heard n pass).linkOf n = { s.linkOf n with gotPass := some pass } := State.linkOf_setLink_self h

theorem State.heard_good {pass : Bool} (h : Good O Q s) : Good O Q (s.heard n pass) := State.setLink_good h

/-- The lanes do not look at the partner's result. -/
theorem LinkSt.catchUp_heard (l : LinkSt) (up : Nat) (pass : Bool) : LinkSt.catchUp { l with gotPass := some pass } up = { l.catchUp up with gotPass := some pass } := by
  by_cases hactive : l.mode = .active
  · rw [LinkSt.catchUp_active (l := { l with gotPass := some pass }) hactive, LinkSt.catchUp_active hactive]
    rfl
  · rw [LinkSt.catchUp_quiet (l := { l with gotPass := some pass }) hactive, LinkSt.catchUp_quiet hactive]
    rfl

section
variable (hmode : (s.linkOf n).mode = .rateTrial) (hstep : 6 ≤ (s.linkOf n).trialStep)
include hmode hstep

theorem State.gotResult_eq (pass : Bool) : s.gotResult n pass = (s.heard n pass).trialResult n := if_pos ⟨hmode, hstep⟩

theorem State.gotResult_waits (h : Good O Q s) (hopen : (s.linkOf n).sentPass = none ∨ ((s.linkOf n).queues ++ (s.linkOf n).current.toList).any TxFrame.isResult = true) (pass : Bool) :
    (s.gotResult n pass).linkOf n = { s.linkOf n with gotPass := some pass } ∧ s.keepsBut [.link] (s.gotResult n pass) := by
  have hwaits : (s.heard n pass).trialResult n = s.heard n pass := by
    refine State.trialResult_waits ?_
    rw [State.heard_linkOf h]
    exact hopen.symm.imp_right .inl
  rw [State.gotResult_eq hmode hstep, hwaits]
  exact ⟨State.heard_linkOf h, s.updLink_keeps n (fun _ => { s.linkOf n with gotPass := some pass })⟩

variable (htold : ((s.linkOf n).queues ++ (s.linkOf n).current.toList).any TxFrame.isResult = false)
include htold

theorem State.gotResult_best (h : Good O Q s) (hsent : (s.linkOf n).sentPass = some true) : ((s.gotResult n true).linkOf n).bestRate = max (s.linkOf n).bestRate (s.linkOf n).rate := by
  have hport := State.heard_linkOf (n := n) (pass := true) h
  rw [State.gotResult_eq hmode hstep, State.trialResult_best (State.heard_good h) (by rw [hport]; exact htold) (by rw [hport]; exact hsent) (by rw [hport]), hport]

theorem State.gotResult_fails (h : Good O Q s) {b : Bool} (hsent : (s.linkOf n).sentPass = some b) : (s.gotResult n false).linkOf n = { (s.linkOf n).catchUp s.tm.up with
        gotPass := some false, rate := (s.linkOf n).prevRate, trialStep := 2, back := true, ownClean := true, lastTrain := none, laneUp := s.tm.up + 10000, txPos := 0, trialUp := s.tm.up }
      ∧ s.keepsBut [.link] (s.gotResult n false) := by
  have hport := State.heard_linkOf (n := n) (pass := false) h
  have hframe : Frm 268435456 s ((s.heard n false).rateBack n) := (State.setLink_frm (Sub.refl _) (Frm.refl _ s)).trans ((s.heard n false).rateBack_changes n)
  have hprev : ((s.linkOf n).catchUp s.tm.up).prevRate = (s.linkOf n).prevRate := by rw [(s.linkOf n).catchUp_onLanes s.tm.up]
  rw [State.gotResult_eq hmode hstep, State.trialResult_fails (by rw [hport]; exact htold) (by rw [hport]; exact hsent) (by rw [hport])]
  refine ⟨?_, hframe.keepsParts (by decide)⟩
  rw [State.rateBack_port (State.heard_good h), hport, LinkSt.movesTo, LinkSt.catchUp_heard]
  simp only [if_true]
  rw [← hprev]
  rfl

end

/-! ### The own result has left (R266) -/

theorem mem_of_pickFrame {q : List TxFrame} {f : TxFrame} : ∀ {cs : List TxClass}, pickFrame q cs = some f → f ∈ q := by
  intro cs
  induction cs with
  | nil => exact fun hpick => nomatch hpick
  | cons c cs ih =>
    unfold pickFrame
    intro hpick
    split at hpick
    next hfind =>
      cases hpick
      exact List.mem_of_find?_eq_some hfind
    next => exact ih hpick

theorem dropFirst_subset (c : TxClass) (q : List TxFrame) : dropFirst c q ⊆ q := by
  induction q with
  | nil => exact List.Subset.refl _
  | cons f fs ih =>
    unfold dropFirst
    split
    · exact List.subset_cons_self f fs
    · exact List.cons_subset_cons f ih

/-- The frame a port outside service starts with is one of its queues. -/
theorem State.startNext_told (h : Good O Q s) (hidle : s.inService n = false) (hnone : (s.linkOf n).current = none) (hqueues : (s.linkOf n).queues.any TxFrame.isResult = false) :
    (((s.startNext n).linkOf n).queues ++ ((s.startNext n).linkOf n).current.toList).any TxFrame.isResult = false := by
  have hcaught : ((s.linkOf n).catchUp s.tm.up).queues = (s.linkOf n).queues := by rw [(s.linkOf n).catchUp_onLanes s.tm.up]
  have hclear : ∀ f ∈ (s.linkOf n).queues, f.isResult = false := by simpa [List.any_eq_false] using hqueues
  unfold State.startNext
  rw [if_neg (by simp [hnone]), if_neg (by simp [hidle])]
  dsimp only
  rw [hcaught]
  split
  next f hpick =>
    rw [State.linkOf_setLink_self h, List.any_append, Bool.or_eq_false_iff]
    refine ⟨List.any_eq_false.mpr (fun g hg => by simp [hclear g (dropFirst_subset _ _ hg)]), ?_⟩
    simpa [TxFrame.isResult] using hclear f (mem_of_pickFrame hpick)
  next => simp [hnone, hqueues]

theorem frameTxEnd_best (h : Good O Q s) {f : TxFrame} (hmode : (s.linkOf (pidx p)).mode = .rateTrial) (hstep : (s.linkOf (pidx p)).trialStep = 7) (hcurrent : (s.linkOf (pidx p)).current = some f)
    (hresult : f.isResult = true) (hqueues : (s.linkOf (pidx p)).queues.any TxFrame.isResult = false) (hsent : (s.linkOf (pidx p)).sentPass = some true) (hgot : (s.linkOf (pidx p)).gotPass = some true) :
    Runs (.frameTxEnd p) s (fun u => (u.linkOf (pidx p)).bestRate = max (s.linkOf (pidx p)).bestRate (s.linkOf (pidx p)).rate) := by
  have hexec : exec (.frameTxEnd p) s = .next (((s.frameGone (pidx p) f).startNext (pidx p)).trialResult (pidx p)) := by
    change execFrameTxEnd p s = _
    unfold execFrameTxEnd
    dsimp only
    rw [hcurrent]
    dsimp only
    rw [if_neg (by simp [State.inService_of_mode (p := pidx p) (s := s) (by rw [hmode]; decide)]), if_neg (by simp [hstep]), if_neg (by simp [hmode]), if_pos (by simp [hmode, hstep, hresult])]
    rfl
  have hlanes := State.frameGone_onLanes (n := pidx p) (f := f) h
  have hgone := State.frameGone_good (n := pidx p) (f := f) h
  generalize s.frameGone (pidx p) f = t at hexec hlanes hgone
  have hidle : t.inService (pidx p) = false := State.inService_of_mode (by rw [hlanes]; exact fun heq => nomatch hmode.symm.trans heq)
  have htold := State.startNext_told hgone hidle (by rw [hlanes]) (by rw [hlanes]; exact hqueues)
  obtain ⟨hrate, -, -, hsame, hheard, hbest, -⟩ := (State.startNext_onSending (p := pidx p) hgone).trial
  rw [hlanes] at hrate hsame hheard hbest
  refine ⟨_, hexec, ?_⟩
  dsimp only
  rw [State.trialResult_best (State.startNext_good hgone) htold (hsame.trans hsent) (hheard.trans hgot), hbest, hrate]

/-! ### A retrain for load (R266) -/

/-- The port left service for its load. -/
def State.leavesForLoad (s : State) (n : Nat) : State := ((s.linkExit n 0).updLink n (fun l => { l with loadUp := some s.tm.up, fast := false })).linkMode n .rateTrial

/-- The parts that leaving service, and a change of state, act on. -/
theorem State.leavesForLoad_changes (s : State) (n : Nat) : Frm 17196826990608 s (s.leavesForLoad n) :=
  State.linkMode_frm ((Sub.refl _).le (by decide)) (State.updLink_frm ((Sub.refl _).le (by decide)) (State.linkExit_frm (Sub.refl _) (Frm.refl _ s)))

theorem State.leavesForLoad_good (h : Good O Q s) : Good O Q (s.leavesForLoad n) := State.linkMode_good (State.updLink_good (State.linkExit_good h))

theorem State.leavesForLoad_port (h : Good O Q s) (hservice : s.inService n = true) : let u := (s.leavesForLoad n).linkOf n
    u.mode = .rateTrial ∧ u.rate = (s.linkOf n).rate ∧ u.partner = (s.linkOf n).partner ∧ u.loadUp = some s.tm.up := by
  have hexit := State.linkExit_good (p := n) (cause := 0) h
  obtain ⟨l, hlanes, hsent⟩ := State.linkExit_port (p := n) (cause := 0) h hservice
  obtain ⟨hrate, -, -, -, -, -, -, -, hpartner⟩ := hsent.trial
  have hsame : l.rate = (s.linkOf n).rate ∧ l.partner = (s.linkOf n).partner := by
    rw [hlanes]
    exact ⟨rfl, rfl⟩
  have hport := State.linkOf_updLink_self (n := n) (f := fun l => { l with loadUp := some s.tm.up, fast := false }) hexit
  have hmode := State.linkMode_onMode (p := n) (mode := .rateTrial) (State.updLink_good (n := n) (f := fun l => { l with loadUp := some s.tm.up, fast := false }) hexit)
  refine ⟨State.linkMode_mode (State.updLink_good hexit), ?_, ?_, ?_⟩
  all_goals rw [State.leavesForLoad, hmode, hport]
  · exact hrate.trans hsame.1
  · exact hpartner.trans hsame.2

theorem State.leavesForLoad_cfgv (hservice : s.inService n = true) : (s.leavesForLoad n).cfgv = s.cfgv := by
  have hmode : (s.leavesForLoad n).cfgv = (s.linkExit n 0).cfgv := (State.linkMode_frm (m := 9346117271568) (Sub.refl _) (State.updLink_frm ((Sub.refl _).le (by decide)) (Frm.refl _ _))).cfgv (by decide) (by decide)
  exact hmode.trans (State.linkExit_cfgv hservice)

/-- The search goes on from the rate in use, whatever SPEED_POLICY says. -/
theorem State.leavesForLoad_ratesDone (h : Good O Q s) (hservice : s.inService n = true) (hlimit : (s.linkOf n).rate < s.rateLimit n) : (s.leavesForLoad n).ratesDone n = false := by
  obtain ⟨-, hrate, hpartner, hload⟩ := State.leavesForLoad_port h hservice
  have htm : (s.leavesForLoad n).tm = s.tm := s.leavesForLoad_changes n .tm (by decide)
  have hsame : (s.leavesForLoad n).rateLimit n = s.rateLimit n := by
    unfold State.rateLimit
    rw [State.leavesForLoad_cfgv hservice, hpartner]
  unfold State.ratesDone
  dsimp only
  rw [hsame, hrate, hload, htm]
  simp [hlimit]

theorem exec_loadRetrain (hservice : s.inService (pidx p) = true) (hpolicy : (s.linkOf (pidx p)).policy = 1) (hload : 50 < s.linkLoad (pidx p)) (hnone : (s.linkOf (pidx p)).loadUp = none)
    (hlimit : (s.linkOf (pidx p)).rate < s.rateLimit (pidx p)) : exec (.loadRetrain p) s = .next ((s.leavesForLoad (pidx p)).nextTrial (pidx p)) := by
  change execLoadRetrain p s = _
  unfold execLoadRetrain
  dsimp only
  rw [hnone]
  exact if_pos ⟨hservice, hpolicy, hload, rfl, hlimit⟩

theorem loadRetrain_proposes (h : Good O Q s) (hservice : s.inService (pidx p) = true) (hpolicy : (s.linkOf (pidx p)).policy = 1) (hload : 50 < s.linkLoad (pidx p))
    (hnone : (s.linkOf (pidx p)).loadUp = none) (hlimit : (s.linkOf (pidx p)).rate < s.rateLimit (pidx p)) : Runs (.loadRetrain p) s (fun u =>
      (u.linkOf (pidx p)).mode = .rateTrial ∧ (u.linkOf (pidx p)).loadUp = some s.tm.up
        ∧ (s.initiator (pidx p) = true → (u.linkOf (pidx p)).trial = some ((s.linkOf (pidx p)).rate + 1) ∧ (u.linkOf (pidx p)).trialStep = 1)) := by
  refine ⟨_, exec_loadRetrain hservice hpolicy hload hnone hlimit, ?_⟩
  have hgood := State.leavesForLoad_good (n := pidx p) h
  have hgoes := State.leavesForLoad_ratesDone h hservice hlimit
  have hboot : (s.leavesForLoad (pidx p)).initiator (pidx p) = s.initiator (pidx p) := by
    unfold State.initiator
    rw [s.leavesForLoad_changes (pidx p) .boot (by decide)]
  obtain ⟨hmode, hrate, -, hup⟩ := State.leavesForLoad_port h hservice
  generalize s.leavesForLoad (pidx p) = t at hgood hgoes hboot hmode hrate hup
  unfold State.nextTrial
  dsimp only
  rw [if_neg (by simp [hgoes])]
  split
  · have hnoted := State.linkOf_updLink_self (n := pidx p)
      (f := fun l => { l with trial := some ((t.linkOf (pidx p)).rate + 1), trialStep := 1, back := false, sentPass := none, gotPass := none, trialUp := t.tm.up }) hgood
    have hsent := State.trainSend_port (p := pidx p) (b := .rate 0 ((t.linkOf (pidx p)).rate + 1)) (State.updLink_good (n := pidx p)
      (f := fun l => { l with trial := some ((t.linkOf (pidx p)).rate + 1), trialStep := 1, back := false, sentPass := none, gotPass := none, trialUp := t.tm.up }) hgood)
    rw [hnoted] at hsent
    obtain ⟨-, htrial, hone, -, -, -, -, hsame, -⟩ := hsent.trial
    exact ⟨hsent.mode.trans hmode, hsame.trans hup, fun _ => ⟨htrial.trans (congrArg (fun r => some (r + 1)) hrate), hone⟩⟩
  next hresponder =>
    rw [State.linkOf_updLink_self hgood]
    exact ⟨hmode, hup, fun hinitiator => absurd (hboot.trans hinitiator) hresponder⟩

theorem exec_loadRetrain_rests {t : Nat} (hload : (s.linkOf (pidx p)).loadUp = some t) (hsoon : s.tm.up < t + 60000000000) : exec (.loadRetrain p) s = .next s := by
  change execLoadRetrain p s = _
  unfold execLoadRetrain
  dsimp only
  rw [hload]
  exact if_neg (by simp; omega)

/-! ### A trial runs out of time (R263, R266) -/

theorem State.rateBack_leaves (h : Good O Q t) (hport : (t.linkOf n).mode = .rateTrial) :
    ((t.rateBack n).linkOf n).rate = (t.linkOf n).prevRate ∧ ((t.rateBack n).linkOf n).back = true ∧ ((t.rateBack n).linkOf n).mode = .rateTrial := by
  have hmode := ((t.linkOf n).movesTo_keeps t.tm.up (t.linkOf n).prevRate true).1
  rw [State.rateBack_port h]
  exact ⟨rfl, rfl, hmode.trans hport⟩

section
variable (hmode : (s.linkOf (pidx p)).mode = .rateTrial)
include hmode

theorem exec_linkStateTimeout_trial : exec (.linkStateTimeout p) s = .next (if (s.linkOf (pidx p)).back then (s.reachUp ((s.linkOf (pidx p)).trialUp + 25000000)).linkDetect (pidx p)
    else if (s.linkOf (pidx p)).trialStep ≤ 1 then ((s.reachUp ((s.linkOf (pidx p)).trialUp + 25000000)).updLink (pidx p) (fun l => { l with prevRate := l.rate })).rateBack (pidx p)
    else (s.reachUp ((s.linkOf (pidx p)).trialUp + 25000000)).rateBack (pidx p)) := by
  have hlimit : (s.linkOf (pidx p)).limitUp = (s.linkOf (pidx p)).trialUp + 25000000 := by rw [LinkSt.limitUp, hmode]
  change execLinkStateTimeout p s = _
  unfold execLinkStateTimeout
  dsimp only
  rw [hlimit, hmode]

theorem linkStateTimeout_restartsTrial (h : Good O Q s) (hback : (s.linkOf (pidx p)).back = true) :
    Runs (.linkStateTimeout p) s (fun u => (u.linkOf (pidx p)).mode = .detect ∧ u.tm = (s.reachUp ((s.linkOf (pidx p)).trialUp + 25000000)).tm) := by
  have hexec := exec_linkStateTimeout_trial hmode
  rw [if_pos hback] at hexec
  refine ⟨_, hexec, ?_⟩
  generalize (s.linkOf (pidx p)).trialUp + 25000000 = up
  exact ⟨State.linkDetect_mode (State.reachUp_good h), State.linkDetect_tm (State.inService_of_mode (by rw [State.reachUp_linkOf, hmode]; decide))⟩

variable (hforth : (s.linkOf (pidx p)).back = false)
include hforth

theorem linkStateTimeout_stays (h : Good O Q s) (hstep : (s.linkOf (pidx p)).trialStep ≤ 1) :
    Runs (.linkStateTimeout p) s (fun u => (u.linkOf (pidx p)).rate = (s.linkOf (pidx p)).rate ∧ (u.linkOf (pidx p)).back = true ∧ (u.linkOf (pidx p)).mode = .rateTrial) := by
  have hexec := exec_linkStateTimeout_trial hmode
  rw [if_neg (by simp [hforth]), if_pos hstep] at hexec
  refine ⟨_, hexec, ?_⟩
  generalize (s.linkOf (pidx p)).trialUp + 25000000 = up
  have hport := State.linkOf_updLink_self (n := pidx p) (f := fun l => { l with prevRate := l.rate }) (State.reachUp_good (u := up) h)
  rw [State.reachUp_linkOf] at hport
  have hleaves := State.rateBack_leaves (State.updLink_good (n := pidx p) (f := fun l => { l with prevRate := l.rate }) (State.reachUp_good (u := up) h)) (by rw [hport]; exact hmode)
  rw [hport] at hleaves
  exact hleaves

theorem linkStateTimeout_goesBack (h : Good O Q s) (hstep : 2 ≤ (s.linkOf (pidx p)).trialStep) :
    Runs (.linkStateTimeout p) s (fun u => (u.linkOf (pidx p)).rate = (s.linkOf (pidx p)).prevRate ∧ (u.linkOf (pidx p)).back = true ∧ (u.linkOf (pidx p)).mode = .rateTrial) := by
  have hexec := exec_linkStateTimeout_trial hmode
  rw [if_neg (by simp [hforth]), if_neg (by omega)] at hexec
  refine ⟨_, hexec, ?_⟩
  generalize (s.linkOf (pidx p)).trialUp + 25000000 = up
  have hleaves := State.rateBack_leaves (State.reachUp_good (u := up) h) (n := pidx p) (by rw [State.reachUp_linkOf]; exact hmode)
  rw [State.reachUp_linkOf] at hleaves
  exact hleaves

end

/-- Settles O32: each step of a trial, over rateTaken_port and rateBack_port, which say what going to a rate and back leaves of the port, and trialResult's three outcomes. -/
theorem rateTrialsGoUpOneRateAtATime : Obligations.RateTrialsGoUpOneRateAtATime := by
  intro s hwf p
  have h := good_of_wf hwf
  exact ⟨fun r hmode hstep hresponder hnext hlimit => ratePropose_between hresponder hnext hlimit h hmode hstep,
    fun r hservice hresponder hnext hlimit => ratePropose_inService hresponder hnext hlimit h hservice, fun r => exec_ratePropose_idle, fun r => exec_ratePropose_again, fun r => rateAccept_moves h,
    fun clean bad => test_counts h, soakEnd_tells h,
    fun hmode hstep hopen => ⟨⟨_, rfl, State.gotResult_waits hmode hstep h hopen true⟩, ⟨_, rfl, State.gotResult_waits hmode hstep h hopen false⟩⟩,
    fun hmode hstep hsent htold => ⟨_, rfl, State.gotResult_best hmode hstep htold h hsent⟩, fun b hmode hstep hsent htold => ⟨_, rfl, State.gotResult_fails hmode hstep htold h hsent⟩,
    fun f => frameTxEnd_best h, loadRetrain_proposes h, fun t => exec_loadRetrain_rests, fun hload => if_neg (fun hasked => absurd hasked.2.2.1 (Nat.not_lt.mpr hload)),
    fun hmode => linkStateTimeout_restartsTrial hmode h, fun hmode hforth => linkStateTimeout_stays hmode hforth h, fun hmode hforth => linkStateTimeout_goesBack hmode hforth h⟩

end Sys2Proof.Machine
end

section
/-! PROOFS. Line coding of a port: blocks come back through the descrambler (R251), and a frame out of its blocks (R252 to R254). -/

namespace Sys2Proof.Machine

open Sys2Proof

set_option Elab.async false

/-! ### The scrambler (R251) -/

/-- One more bit of the word at its place. -/
theorem lt_of_placed {i acc : Nat} {y : Bool} (hacc : acc < 2 ^ i) : (if y then acc + 2 ^ i else acc) < 2 ^ (i + 1) := by
  rw [Nat.pow_succ]
  split <;> omega

theorem testBit_of_placed {i acc : Nat} {y : Bool} (hacc : acc < 2 ^ i) : (if y then acc + 2 ^ i else acc).testBit i = y := by
  cases y with
  | false => exact Nat.testBit_lt_two_pow hacc
  | true =>
    rw [if_pos rfl, Nat.add_comm, Nat.testBit_two_pow_add_eq, Nat.testBit_lt_two_pow hacc]
    rfl

/-- The bits already placed stay. -/
theorem scramGo_testBit {out : Bool} {w : BitVec 64} {j : Nat} : ∀ (n i : Nat) (reg : BitVec 58) (acc : Nat), j < i → (scramGo out w n i reg acc).2.testBit j = acc.testBit j := by
  intro n
  induction n with
  | zero => exact fun _ _ _ _ => rfl
  | succ n ih =>
    intro i reg acc hj
    rw [scramGo, ih _ _ _ (by omega)]
    split
    · rw [Nat.add_comm, Nat.testBit_two_pow_add_gt hj]
    · rfl

theorem scramBit_scramBit (reg : BitVec 58) (x : Bool) : scramBit reg (scramBit reg x) = x := by
  unfold scramBit
  cases x <;> cases reg.getLsbD 38 <;> cases reg.getLsbD 57 <;> rfl

/-- Descrambling what scrambling gave: the same register behind it, and the word's bits. -/
theorem scramGo_back (w v : BitVec 64) : ∀ (n i : Nat) (reg : BitVec 58) (acc back : Nat), acc < 2 ^ i →
    (∀ j, i ≤ j → j < i + n → v.getLsbD j = (scramGo true w n i reg acc).2.testBit j) →
    scramGo false v n i reg back = ((scramGo true w n i reg acc).1, back + 2 ^ i * (w.toNat / 2 ^ i % 2 ^ n)) := by
  intro n
  induction n with
  | zero => exact fun i reg acc back _ _ => by simp [scramGo, Nat.mod_one]
  | succ n ih =>
    intro i reg acc back hacc hbits
    have hplaced := lt_of_placed (y := scramBit reg (w.getLsbD i)) hacc
    have hbit : v.getLsbD i = scramBit reg (w.getLsbD i) := by
      rw [hbits i le_rfl (by omega), scramGo, scramGo_testBit _ _ _ _ (by omega), testBit_of_placed hacc]
    have hrest := ih (i + 1) (scramNext reg (scramBit reg (w.getLsbD i))) _ (if w.getLsbD i then back + 2 ^ i else back) hplaced
      (fun j hlow hhigh => hbits j (by omega) (by omega))
    have hword : 2 ^ i * (w.toNat / 2 ^ i % 2 ^ (n + 1)) = 2 ^ i * (w.getLsbD i).toNat + 2 ^ (i + 1) * (w.toNat / 2 ^ (i + 1) % 2 ^ n) := by
      have hlsb : (w.getLsbD i).toNat = w.toNat / 2 ^ i % 2 := by rw [BitVec.getLsbD, Nat.toNat_testBit]
      rw [hlsb, Nat.pow_succ 2 n, Nat.mul_comm (2 ^ n), Nat.mod_mul, Nat.div_div_eq_div_mul, Nat.pow_succ 2 i]
      ring
    rw [scramGo, hbit, scramBit_scramBit]
    rw [if_neg (by decide), hrest, hword, ← Nat.add_assoc]
    refine Prod.ext rfl (congrArg (· + _) ?_)
    cases w.getLsbD i <;> simp

theorem descramble_scramble (reg : BitVec 58) (w : BitVec 64) : descramble reg (scramble reg w).2 = ((scramble reg w).1, w) := by
  have hback := scramGo_back w (scramble reg w).2 64 0 reg 0 0 (by decide) (fun j _ hj => by
    rw [scramble, BitVec.getLsbD_ofNat, decide_eq_true (by omega), Bool.true_and])
  unfold descramble
  rw [hback]
  refine Prod.ext rfl ?_
  dsimp only
  rw [Nat.pow_zero, Nat.div_one, Nat.one_mul, Nat.zero_add, Nat.mod_eq_of_lt w.isLt]
  exact BitVec.ofNat_toNat _ _ |>.trans (BitVec.setWidth_eq w)

/-! ### Bytes of a number (R6) -/

theorem leBytes_length (n v : Nat) : (leBytes n v).length = n := by
  induction n generalizing v with
  | zero => rfl
  | succ n ih => rw [leBytes, List.length_cons, ih]

theorem ofLeBytes_leBytes (n v : Nat) : ofLeBytes (leBytes n v) = v % 256 ^ n := by
  induction n generalizing v with
  | zero => exact (Nat.mod_one v).symm
  | succ n ih => rw [leBytes, ofLeBytes, ih, Nat.pow_succ, Nat.mul_comm (256 ^ n), Nat.mod_mul, BitVec.toNat_ofNat]

theorem leBytes_ofLeBytes (bs : List Byte) : leBytes bs.length (ofLeBytes bs) = bs := by
  induction bs with
  | nil => rfl
  | cons b bs ih =>
    have hdiv : (b.toNat + 256 * ofLeBytes bs) / 256 = ofLeBytes bs := by omega
    have hlow : BitVec.ofNat 8 (b.toNat + 256 * ofLeBytes bs) = b := BitVec.eq_of_toNat_eq (by rw [BitVec.toNat_ofNat]; omega)
    rw [List.length_cons, ofLeBytes, leBytes, hdiv, hlow, ih]

theorem ofLeBytes_lt (bs : List Byte) : ofLeBytes bs < 256 ^ bs.length := by
  induction bs with
  | nil => exact Nat.one_pos
  | cons b bs ih =>
    rw [List.length_cons, ofLeBytes, Nat.pow_succ]
    omega

/-! ### Blocks (R251, Table 10-2) -/

theorem blockBytes_blockOf {ctl : Bool} {bs : List Byte} (hbs : 8 ≤ bs.length) : blockBytes (blockOf ctl bs) = bs.take 8 := by
  have hlength : (bs.take 8).length = 8 := by rw [List.length_take]; omega
  have hlt := ofLeBytes_lt (bs.take 8)
  rw [hlength] at hlt
  rw [blockBytes, blockOf, BitVec.toNat_ofNat, Nat.mod_eq_of_lt (by omega)]
  exact (congrArg (leBytes · _) hlength.symm).trans (leBytes_ofLeBytes _)

theorem isCtl_blockOf {typ x : Byte} {bs : List Byte} (hbs : 7 ≤ bs.length) : isCtl (blockOf true (x :: bs)) typ = (x == typ) := by
  rw [isCtl, blockBytes_blockOf (by simpa using hbs)]
  rfl

/-- A data block is no control block. -/
theorem between_data {b : Block} (hdata : b.hdr = 1) : between b = false := by
  simp [between, isCtl, hdata]

theorem between_align (lane count : Nat) : between (alignBlock lane count) = true := by
  have htyp : (blockBytes (alignBlock lane count)).getD 0 0 = 0x33 := by
    change BitVec.ofNat 8 (BitVec.ofNat 64 (0x33 + 256 * lane + 65536 * (count % 65536))).toNat = 0x33
    refine BitVec.eq_of_toNat_eq ?_
    rw [BitVec.toNat_ofNat, BitVec.toNat_ofNat]
    change _ % 256 = 0x33
    omega
  unfold between isCtl
  rw [htyp]
  rfl

theorem dataBlocks_spec (n : Nat) (bs : List Byte) (hbs : bs.length = 8 * n) :
    (dataBlocks n bs).flatMap blockBytes = bs ∧ (dataBlocks n bs).length = n ∧ ∀ b ∈ dataBlocks n bs, b.hdr = 1 := by
  induction n generalizing bs with
  | zero =>
    rw [List.length_eq_zero_iff.mp hbs]
    exact ⟨rfl, rfl, fun _ hb => absurd hb List.not_mem_nil⟩
  | succ n ih =>
    obtain ⟨hbytes, hlength, hdata⟩ := ih (bs.drop 8) (by rw [List.length_drop]; omega)
    rw [dataBlocks]
    refine ⟨?_, by rw [List.length_cons, hlength], List.forall_mem_cons.mpr ⟨rfl, hdata⟩⟩
    rw [List.flatMap_cons, hbytes, blockBytes_blockOf (by omega), List.take_append_drop]

/-- The ALIGN pairs among a frame's blocks stand between them, and their headers are valid. -/
theorem placeBlocks_spec (bs : List Block) (pos : Nat) :
    (placeBlocks pos bs).filter (fun b => !between b) = bs.filter (fun b => !between b) ∧ (placeBlocks pos bs).all (fun b => hdrOk b.hdr) = bs.all (fun b => hdrOk b.hdr) := by
  induction bs generalizing pos with
  | nil => exact ⟨rfl, rfl⟩
  | cons b bs ih =>
    unfold placeBlocks
    split
    · obtain ⟨hfilter, hall⟩ := ih (pos + 3)
      have hok : ∀ lane, hdrOk (alignBlock lane (pos / 8192)).hdr = true := fun _ => rfl
      refine ⟨?_, ?_⟩
      · rw [List.filter_cons_of_neg (by simp [between_align]), List.filter_cons_of_neg (by simp [between_align]), List.filter_cons, List.filter_cons, hfilter]
      · rw [List.all_cons, List.all_cons, List.all_cons, List.all_cons, hall, hok, hok, Bool.true_and, Bool.true_and]
    · obtain ⟨hfilter, hall⟩ := ih (pos + 1)
      exact ⟨by rw [List.filter_cons, List.filter_cons, hfilter], by rw [List.all_cons, List.all_cons, hall]⟩

/-! ### A frame's blocks (R253, R254) -/

theorem FrameHead.bytes_length (h : FrameHead) : h.bytes.length = 7 := by simp [FrameHead.bytes, leBytes_length]

/-- The block a frame starts with. -/
def FrameHead.start (h : FrameHead) : Block := blockOf true (0x4B :: h.bytes)

theorem FrameHead.blockBytes_start (h : FrameHead) : blockBytes h.start = 0x4B :: h.bytes := by
  have hlength := h.bytes_length
  rw [FrameHead.start, blockBytes_blockOf (by simp [hlength]), List.take_of_length_le (by simp [hlength])]

/-- The first word of FRAME_START holds the LSEQ and four flags, each at its bit. -/
theorem headWord_parts (lseq : BitVec 12) (retry tsReq enc phase : Bool) :
    let w := (lseq.toNat + (if retry then 4096 else 0) + (if tsReq then 8192 else 0) + (if enc then 16384 else 0) + (if phase then 32768 else 0)) % 256 ^ 2
    BitVec.ofNat 12 w = lseq ∧ w.testBit 12 = retry ∧ w.testBit 13 = tsReq ∧ w.testBit 14 = enc ∧ w.testBit 15 = phase := by
  have hlseq := lseq.isLt
  have hflag : ∀ (b : Bool) (k : Nat), (if b then k else 0) = k * b.toNat := fun b k => by cases b <;> simp
  have hone : ∀ (b : Bool) (x : Nat), x = b.toNat → decide (x = 1) = b := fun b x hx => by rw [hx]; cases b <;> rfl
  have hretry := retry.toNat_le
  have htsReq := tsReq.toNat_le
  have henc := enc.toNat_le
  have hphase := phase.toNat_le
  simp only [Nat.testBit_eq_decide_div_mod_eq, hflag]
  refine ⟨BitVec.eq_of_toNat_eq ?_, hone _ _ ?_, hone _ _ ?_, hone _ _ ?_, hone _ _ ?_⟩
  · rw [BitVec.toNat_ofNat]
    omega
  all_goals omega

theorem FrameHead.headOf_start (h : FrameHead) (hlen : h.len < 65536) : headOf h.start = h := by
  obtain ⟨lseq, retry, tsReq, enc, phase, len, tsId⟩ := h
  obtain ⟨hlseq, hretry, htsReq, henc, hphase⟩ := headWord_parts lseq retry tsReq enc phase
  have hthird : ∀ (a b : Nat) (cs : List Byte), (leBytes 2 a ++ (leBytes 2 b ++ cs)).drop 4 = cs := fun _ _ _ => rfl
  have hlen' : len % 256 ^ 2 = len := Nat.mod_eq_of_lt hlen
  have htsId : BitVec.ofNat 16 (tsId.toNat % 256 ^ 2) = tsId := BitVec.eq_of_toNat_eq (by rw [BitVec.toNat_ofNat]; have := tsId.isLt; omega)
  unfold headOf
  rw [FrameHead.blockBytes_start]
  simp only [FrameHead.bytes, List.drop_succ_cons, List.drop_zero, List.append_assoc, hthird, List.take_left' (leBytes_length _ _), List.drop_left' (leBytes_length _ _), ofLeBytes_leBytes,
    hlseq, hretry, htsReq, henc, hphase, htsId, hlen']

/-- The block a frame ends with. -/
def frameEnd (h : FrameHead) (body : List Byte) : Block := blockOf true (0x55 :: leBytes 4 (crc32c (h.bytes ++ body)).toNat ++ [0, 0, 0])

theorem frameEnd_bytes (h : FrameHead) (body : List Byte) : blockBytes (frameEnd h body) = 0x55 :: leBytes 4 (crc32c (h.bytes ++ body)).toNat ++ [0, 0, 0] := by
  rw [frameEnd, blockBytes_blockOf (by simp [leBytes_length]), List.take_of_length_le (by simp [leBytes_length])]

theorem frameBlocks_eq (h : FrameHead) (body : List Byte) : frameBlocks h body = h.start :: (dataBlocks (body.length / 8) body ++ [frameEnd h body]) := rfl

theorem between_blockOf {x : Byte} {bs : List Byte} (hbs : 7 ≤ bs.length) (hx : x ≠ 0x66 ∧ x ≠ 0x78 ∧ x ≠ 0x33) : between (blockOf true (x :: bs)) = false := by
  obtain ⟨hack, hnak, halign⟩ := hx
  rw [between, isCtl_blockOf hbs, isCtl_blockOf hbs, isCtl_blockOf hbs, beq_false_of_ne hack, beq_false_of_ne hnak, beq_false_of_ne halign]
  rfl

section
variable {h : FrameHead} {body : List Byte}

/-- None of a frame's own blocks may stand between any two, and their headers are valid. -/
theorem frameBlocks_own (hbody : body.length % 8 = 0) : (frameBlocks h body).filter (fun b => !between b) = frameBlocks h body ∧ (frameBlocks h body).all (fun b => hdrOk b.hdr) = true := by
  obtain ⟨-, -, hdata⟩ := dataBlocks_spec (body.length / 8) body (by omega)
  have hstart : between h.start = false := between_blockOf (by simp [h.bytes_length]) (by decide)
  have hend : between (frameEnd h body) = false := between_blockOf (by simp [leBytes_length]) (by decide)
  rw [frameBlocks_eq]
  constructor
  · refine List.filter_eq_self.mpr (List.forall_mem_cons.mpr ⟨by simp [hstart], List.forall_mem_append.mpr ⟨fun b hb => by simp [between_data (hdata b hb)], ?_⟩⟩)
    simp [hend]
  · refine List.all_eq_true.mpr (List.forall_mem_cons.mpr ⟨rfl, List.forall_mem_append.mpr ⟨fun b hb => by rw [hdata b hb]; rfl, ?_⟩⟩)
    exact List.forall_mem_singleton.mpr rfl

/-- A frame reads back out of blocks that hold its own and others that may stand between. -/
theorem readFrame_of_own {bs : List Block} (hlow : 32 ≤ h.len) (hhigh : h.len ≤ 1024) (height : h.len % 8 = 0) (hbody : body.length = h.len + (if h.enc then 16 else 0))
    (hown : bs.filter (fun b => !between b) = frameBlocks h body) (hok : bs.all (fun b => hdrOk b.hdr) = true) : readFrame bs = some (h, body) := by
  have hcount : h.len / 8 + (if h.enc then 2 else 0) = body.length / 8 := by
    rw [hbody]
    split <;> omega
  have hwhole : body.length = 8 * (body.length / 8) := by
    rw [hbody]
    split <;> omega
  obtain ⟨hbytes, hlength, hdata⟩ := dataBlocks_spec (body.length / 8) body hwhole
  have hcrc : ofLeBytes (((blockBytes (frameEnd h body)).drop 1).take 4) = (crc32c (h.bytes ++ body)).toNat := by
    have hlt := (crc32c (h.bytes ++ body)).isLt
    rw [frameEnd_bytes, List.cons_append, List.drop_succ_cons, List.drop_zero, List.take_left' (leBytes_length _ _), ofLeBytes_leBytes]
    omega
  have hstart : isCtl h.start 0x4B = true := isCtl_blockOf (by simp [h.bytes_length])
  have hend : isCtl (frameEnd h body) 0x55 = true := isCtl_blockOf (by simp [leBytes_length])
  have hall : (dataBlocks (body.length / 8) body).all (fun b => b.hdr == 1) = true := List.all_eq_true.mpr (fun b hb => by rw [hdata b hb]; rfl)
  unfold readFrame
  rw [hown, frameBlocks_eq]
  dsimp only
  rw [h.headOf_start (by omega), hcount, List.drop_left' hlength, List.take_left' hlength, hbytes]
  dsimp only
  rw [h.blockBytes_start, List.drop_succ_cons, List.drop_zero, hcrc, hok, hstart, hend, hall, decide_eq_true ⟨hlow, hhigh, height⟩]
  exact if_pos (by simp)

/-- A frame reads back out of its blocks, wherever ALIGN pairs fall among them (R252). -/
theorem readFrame_frameBlocks (hlow : 32 ≤ h.len) (hhigh : h.len ≤ 1024) (height : h.len % 8 = 0) (hbody : body.length = h.len + (if h.enc then 16 else 0)) (pos : Nat) :
    readFrame (frameBlocks h body) = some (h, body) ∧ readFrame (placeBlocks pos (frameBlocks h body)) = some (h, body) := by
  obtain ⟨hown, hok⟩ := frameBlocks_own (h := h) (body := body) (by rw [hbody]; split <;> omega)
  obtain ⟨hplaced, hsame⟩ := placeBlocks_spec (frameBlocks h body) pos
  exact ⟨readFrame_of_own hlow hhigh height hbody hown hok, readFrame_of_own hlow hhigh height hbody (hplaced.trans hown) (hsame.trans hok)⟩

end

/-! ### The verdict on a received frame (R253, R254, R258, R272) -/

section
variable {l : LinkSt} {f : RxFrame}

theorem LinkSt.verdict_unread (hread : readFrame (rxClear l.inv0 l.inv1 l.skew l.swapped f) = none) : l.verdict f = some .crc := by
  unfold LinkSt.verdict
  rw [hread]

variable {h : FrameHead} {body : List Byte} (hread : readFrame (rxClear l.inv0 l.inv1 l.skew l.swapped f) = some (h, body))
include hread

theorem LinkSt.verdict_duplicate (hfar : 2048 < (h.lseq - l.rxNext).toNat) : l.verdict f = some .duplicate := by
  unfold LinkSt.verdict
  rw [hread]
  exact if_pos hfar

theorem LinkSt.verdict_ahead (hgone : 1 ≤ (h.lseq - l.rxNext).toNat) (hnear : (h.lseq - l.rxNext).toNat ≤ 2048) : l.verdict f = some .ahead := by
  unfold LinkSt.verdict
  rw [hread]
  exact (if_neg (Nat.not_lt.mpr hnear)).trans (if_pos (Nat.one_le_iff_ne_zero.mp hgone))

/-- The frame waited for, in clear: taken when the port has no keys. -/
theorem LinkSt.verdict_clear (hnext : h.lseq = l.rxNext) (hplain : h.enc = false) : l.verdict f = if l.keys.isSome then some .tag else none := by
  have hzero : (h.lseq - l.rxNext).toNat = 0 := by rw [hnext, BitVec.sub_self]; rfl
  unfold LinkSt.verdict
  rw [hread]
  dsimp only
  rw [hzero, if_neg (by decide), if_neg (by decide), hplain]
  cases l.keys <;> rfl

end

end Sys2Proof.Machine
end

section
/-! PROOFS. Frames are acknowledged and replayed (R255, R257 to R260). -/

namespace Sys2Proof.Machine

open Sys2Proof

set_option Elab.async false

variable {O : OtpSt} {Q : List Instr} {s t u : State} {p : Port} {n q cause : Nat} {f : RxFrame}

/-! ### MGMT and frames of reserved types (R255, R258) -/

/-- What sending leaves of the receive side. -/
theorem OnSending.receiveSide {l u : LinkSt} (h : OnSending l u) : u.rxNext = l.rxNext ∧ u.ackSent = l.ackSent ∧ u.nakFor = l.nakFor ∧ u.ctl = l.ctl := by
  rw [h.port]
  exact ⟨rfl, rfl, rfl, rfl⟩

theorem State.engineSend_sends (h : Good O Q s) : SendsAll O Q s s.engineSend := by
  have hdrawn : SendsAll O Q s { s with freeCtr := s.freeCtr + 1 } := (SendsAll.refl h).same (good_mk h rfl rfl rfl rfl) rfl
  exact (hdrawn.sends (State.queueFrame_sends hdrawn.good)).ite hdrawn

theorem State.engineSend_tellsHealth (s : State) : TellsHealth s s.engineSend := by
  have hsent : ∀ b : Bool, ∀ t : State, TellsHealth s t → ∀ p cls body tsReq tsId, TellsHealth s (if b then t.queueFrame p cls body tsReq tsId else t) := fun b t ht p cls body tsReq tsId => by
    cases b
    · exact ht
    · exact ht.trans (State.queueFrame_tellsHealth t p cls body tsReq tsId)
  exact hsent _ { s with freeCtr := s.freeCtr + 1 } rfl _ _ _ _ _

/-- A received frame is handed to the management engine. -/
def State.engineTold (s : State) (n : Nat) : State := (s.rxAccept n).doIf s.engineUp State.traceEngine

theorem State.engineTold_changes (s : State) (n : Nat) : Frm 9345848836112 (s.rxAccept n) (s.engineTold n) :=
  State.doIf_frm (Frm.refl _ _) (State.traceEngine_frm (Sub.refl _) (Frm.refl _ _))

theorem State.engineTold_good (h : Good O Q s) : Good O Q (s.engineTold n) := good_ite (State.traceEngine_good (State.rxAccept_good h)) (State.rxAccept_good h)

theorem mgmt_acknowledges (h : Good O Q s) (hservice : s.inService (pidx p) = true) : Runs (.mgmt p) s (fun u =>
    (u.linkOf (pidx p)).rxNext = (s.linkOf (pidx p)).rxNext + 1 ∧ (u.linkOf (pidx p)).ackSent = (s.linkOf (pidx p)).rxNext ∧ (u.linkOf (pidx p)).nakFor = none
      ∧ (u.linkOf (pidx p)).ctl = ackBlock (s.linkOf (pidx p)).rxNext ∧ u.twin = { s.twin with mine := u.twin.mine, resync := u.twin.resync }
      ∧ s.keepsBut [.regs, .ffPort, .link, .freeCtr, .trace, .twin] u) := by
  obtain ⟨oldKeys, hlanes⟩ := State.rxAccept_onLanes (p := pidx p) h
  have hport : (s.engineTold (pidx p)).linkOf (pidx p) = (s.rxAccept (pidx p)).linkOf (pidx p) := (s.engineTold_changes (pidx p)).linkOf (by decide)
  have htold := State.engineTold_good (n := pidx p) h
  obtain ⟨hnext, hack, hnak, hctl⟩ := ((State.engineSend_sends htold).ports (pidx p)).receiveSide
  rw [hport, hlanes] at hnext hack hnak hctl
  have hmine := ((s.rxAccept_changes (pidx p)).tellsHealth (by decide)).trans (((s.engineTold_changes (pidx p)).tellsHealth (by decide)).trans (State.engineSend_tellsHealth _))
  have hm := Sub.refl 9354740760592
  have hframe : Frm 9354740760592 s (s.engineTold (pidx p)).engineSend :=
    State.engineSend_frm (hm.le (by decide)) (((s.rxAccept_changes (pidx p)).mono (hm.le (by decide))).trans ((s.engineTold_changes (pidx p)).mono (hm.le (by decide))))
  exact ⟨_, congrArg Host.Outcome.next (if_pos hservice), hnext, hack, hnak, hctl, hmine, hframe.keepsParts (by decide)⟩

theorem OnLanes.oldKeys {l u : LinkSt} (h : OnLanes l u) : u.oldKeys = l.oldKeys := by rw [h]

theorem reservedTypeFrame_acknowledges (h : Good O Q s) (hservice : s.inService (pidx p) = true) : Runs (.reservedTypeFrame p) s (fun u =>
    OnLanes ((s.linkOf (pidx p)).accepted (u.linkOf (pidx p)).oldKeys) (u.linkOf (pidx p)) ∧ u.reg (Reg.link (pidx p) 0x24) = (s.reg (Reg.link (pidx p) 0x24)).satAdd 1
      ∧ (∀ q, q ≠ pidx p → u.linkOf q = s.linkOf q) ∧ s.keepsBut [.regs, .link, .freeCtr] u) := by
  obtain ⟨oldKeys, hlanes⟩ := State.rxAccept_onLanes (p := pidx p) h
  have hold : ((s.rxAccept (pidx p)).linkOf (pidx p)).oldKeys = oldKeys := hlanes.oldKeys
  have hreg : (s.rxAccept (pidx p)).reg (Reg.link (pidx p) 0x24) = s.reg (Reg.link (pidx p) 0x24) := (s.rxAccept_changes (pidx p)).reg (by decide)
  have hport : ∀ q, ((s.rxAccept (pidx p)).bump (Reg.link (pidx p) 0x24)).linkOf q = (s.rxAccept (pidx p)).linkOf q := fun q =>
    (State.bump_frm (m := 16) (Sub.refl _) (Frm.refl _ _)).linkOf (by decide)
  have hm := Sub.refl 8796361457680
  refine ⟨_, congrArg Host.Outcome.next (if_pos hservice), ?_, (State.reg_setReg_self (State.rxAccept_good h)).trans (congrArg (W32.satAdd · 1) hreg),
    fun q hq => (hport q).trans (State.rxAccept_linkOf_other hq), Frm.keepsParts (m := 8796361457680) ?_ (by decide)⟩
  · rw [hport, hold]
    exact hlanes
  · exact State.bump_frm (hm.le (by decide)) ((s.rxAccept_changes (pidx p)).mono (hm.le (by decide)))

/-! ### Rejected frames (R258, Table 10-6) -/

/-- The hub as a frame has been received, whatever becomes of it. -/
def State.received (s : State) (n : Nat) : State := s.updLink n LinkSt.receives

theorem exec_frameRejected {why : RejectCause} (hservice : s.inService (pidx p) = true) (hverdict : (s.linkOf (pidx p)).verdict f = some why) :
    exec (.frameRejected p f) s = .next (match why with
      | .crc => (((s.received (pidx p)).bump (Reg.link (pidx p) 0x18)).updLink (pidx p) (fun l => { l with authRun := 0 })).rxReject (pidx p) 1
      | .ahead => ((s.received (pidx p)).updLink (pidx p) (fun l => { l with authRun := 0 })).rxReject (pidx p) 2
      | .tag =>
        let t := (((s.received (pidx p)).bump (Reg.link (pidx p) 0x1C)).updLink (pidx p) (fun l => { l with authRun := l.authRun + 1 })).rxReject (pidx p) 3
        if 4 ≤ (t.linkOf (pidx p)).authRun then t.linkLose (pidx p) 7 else t
      | .duplicate => (s.received (pidx p)).sendCtl (pidx p) (ackBlock ((s.received (pidx p)).linkOf (pidx p)).ackSent)) := by
  change execFrameRejected p f s = _
  unfold execFrameRejected
  dsimp only
  rw [if_neg (by simp [hservice])]
  cases why <;> simp only [hverdict] <;> rfl

/-- The port with its run of tag failures noted, before it answers. -/
def LinkSt.judged (l : LinkSt) (run : Nat) : LinkSt := { l.receives with authRun := run }

/-- The port behind a rejected frame, its lanes as they are in u: one NAK for each expected LSEQ. -/
def LinkSt.rejected (l u : LinkSt) (run cause : Nat) : LinkSt :=
  if l.nakFor = some l.rxNext then l.judged run
  else { l.judged run with
    nakFor := some l.rxNext, ctl := nakBlock l.rxNext cause, ctlSent := l.ctlSent + 1,
    ctlWait := u.ctlWait, wire := u.wire, scram0 := u.scram0, scram1 := u.scram1, txPos := u.txPos, bad0 := u.bad0, bad1 := u.bad1, sent := u.sent }

/-- u is the port l behind a rejected frame. -/
def LinkSt.Rejects (l : LinkSt) (run cause : Nat) (u : LinkSt) : Prop := u = l.rejected u run cause

theorem LinkSt.Rejects.keeps {l u : LinkSt} {run : Nat} (h : l.Rejects run cause u) : u.mode = l.mode ∧ u.authRun = run ∧ u.fastIn = l.fastIn ∧ u.authTimes = l.authTimes := by
  rw [h, LinkSt.rejected]
  split <;> exact ⟨rfl, rfl, rfl, rfl⟩

theorem State.rxReject_rejects {l : LinkSt} {run : Nat} (h : Good O Q s) (hport : s.linkOf n = l.judged run) : l.Rejects run cause ((s.rxReject n cause).linkOf n) := by
  have heq : s.rxReject n cause = if l.nakFor = some l.rxNext then s else (s.setLink n { l.judged run with nakFor := some l.rxNext }).sendCtl n (nakBlock l.rxNext cause) := by
    unfold State.rxReject
    rw [hport]
    rfl
  rw [heq, LinkSt.Rejects, LinkSt.rejected]
  split
  · exact hport
  · have hlanes := State.sendCtl_onLanes (p := n) (b := nakBlock l.rxNext cause) (State.setLink_good (n := n) (v := { l.judged run with nakFor := some l.rxNext }) h)
    rw [State.linkOf_setLink_self h] at hlanes
    exact hlanes

theorem State.rxReject_other (hq : q ≠ n) : (s.rxReject n cause).linkOf q = s.linkOf q := by
  unfold State.rxReject
  dsimp only
  split
  · rfl
  · exact (State.sendCtl_linkOf_other hq).trans (State.linkOf_setLink_other hq)

theorem State.rxReject_changes (s : State) (n cause : Nat) : Frm 8796361457664 s (s.rxReject n cause) := State.rxReject_frm (Sub.refl _) (Frm.refl _ s)

theorem State.received_good (h : Good O Q s) : Good O Q (s.received n) := State.updLink_good h

theorem State.received_linkOf (h : Good O Q s) : (s.received n).linkOf n = (s.linkOf n).receives := State.linkOf_updLink_self h

/-- A received frame with a register of the port counted and the run of tag failures noted. -/
def State.noted (s : State) (n i : Nat) (run : LinkSt → Nat) : State := ((s.received n).bump (Reg.link n i)).updLink n (fun l => { l with authRun := run l })

section
variable {i : Nat} {run : LinkSt → Nat} (h : Good O Q s)
include h

theorem State.noted_good : Good O Q (s.noted n i run) := State.updLink_good (State.bump_good (State.updLink_good h))

theorem State.noted_linkOf : (s.noted n i run).linkOf n = (s.linkOf n).judged (run (s.linkOf n).receives) := by
  have hport : ((s.received n).bump (Reg.link n i)).linkOf n = (s.linkOf n).receives := State.received_linkOf h
  rw [State.noted, State.linkOf_updLink_self (State.bump_good (State.received_good h)), hport]
  rfl

theorem State.noted_rejects : (s.linkOf n).Rejects (run (s.linkOf n).receives) cause (((s.noted n i run).rxReject n cause).linkOf n) :=
  State.rxReject_rejects (State.noted_good h) (State.noted_linkOf h)

theorem State.noted_count : ((s.noted n i run).rxReject n cause).reg (Reg.link n i) = (s.reg (Reg.link n i)).satAdd 1 :=
  ((State.rxReject_changes _ n cause).reg (by decide)).trans (State.reg_setReg_self (s := s.received n) (State.updLink_good h))

end

theorem State.noted_leaves (s : State) (n i cause : Nat) (run : LinkSt → Nat) : (∀ q, q ≠ n → ((s.noted n i run).rxReject n cause).linkOf q = s.linkOf q) ∧ s.keepsBut [.regs, .link, .freeCtr] ((s.noted n i run).rxReject n cause) := by
  have hm := Sub.refl 8796361457680
  have hframe : Frm 8796361457680 s (s.noted n i run) := State.updLink_frm (hm.le (by decide)) (State.bump_frm (hm.le (by decide)) (State.updLink_frm (hm.le (by decide)) (Frm.refl _ s)))
  refine ⟨fun q hq => ?_, (hframe.trans ((State.rxReject_changes _ n cause).mono (hm.le (by decide)))).keepsParts (by decide)⟩
  have hport : ((s.received n).bump (Reg.link n i)).linkOf q = s.linkOf q := State.linkOf_updLink_other hq
  rw [State.rxReject_other hq, State.noted, State.linkOf_updLink_other hq, hport]

section
variable (h : Good O Q s) (hservice : s.inService (pidx p) = true)
include h hservice

theorem frameRejected_crc (hverdict : (s.linkOf (pidx p)).verdict f = some .crc) : Runs (.frameRejected p f) s (fun u => (s.linkOf (pidx p)).Rejects 0 1 (u.linkOf (pidx p))
    ∧ u.reg (Reg.link (pidx p) 0x18) = (s.reg (Reg.link (pidx p) 0x18)).satAdd 1 ∧ (∀ q, q ≠ pidx p → u.linkOf q = s.linkOf q) ∧ s.keepsBut [.regs, .link, .freeCtr] u) :=
  ⟨(s.noted (pidx p) 0x18 (fun _ => 0)).rxReject (pidx p) 1, exec_frameRejected hservice hverdict, State.noted_rejects h, State.noted_count h, State.noted_leaves _ _ _ _ _⟩

theorem frameRejected_ahead (hverdict : (s.linkOf (pidx p)).verdict f = some .ahead) : Runs (.frameRejected p f) s (fun u => (s.linkOf (pidx p)).Rejects 0 2 (u.linkOf (pidx p))
    ∧ (∀ q, q ≠ pidx p → u.linkOf q = s.linkOf q) ∧ s.keepsBut [.link, .freeCtr] u) := by
  have hreceived : Good O Q (s.received (pidx p)) := State.updLink_good h
  have hport : ((s.received (pidx p)).updLink (pidx p) (fun l => { l with authRun := 0 })).linkOf (pidx p) = (s.linkOf (pidx p)).judged 0 := by
    rw [State.linkOf_updLink_self hreceived, State.received_linkOf h]
    rfl
  have hm := Sub.refl 8796361457664
  have hframe : Frm 8796361457664 s ((s.received (pidx p)).updLink (pidx p) (fun l => { l with authRun := 0 })) :=
    State.updLink_frm (hm.le (by decide)) (State.updLink_frm (hm.le (by decide)) (Frm.refl _ s))
  refine ⟨_, exec_frameRejected hservice hverdict, State.rxReject_rejects (State.updLink_good hreceived) hport, fun q hq => ?_, (hframe.trans (State.rxReject_changes _ _ 2)).keepsParts (by decide)⟩
  rw [State.rxReject_other hq, State.linkOf_updLink_other hq]
  exact State.linkOf_updLink_other hq

theorem frameRejected_duplicate (hverdict : (s.linkOf (pidx p)).verdict f = some .duplicate) : Runs (.frameRejected p f) s (fun u =>
    OnLanes { (s.linkOf (pidx p)).receives with ctl := ackBlock (s.linkOf (pidx p)).ackSent, ctlSent := (s.linkOf (pidx p)).ctlSent + 1 } (u.linkOf (pidx p))
      ∧ (∀ q, q ≠ pidx p → u.linkOf q = s.linkOf q) ∧ s.keepsBut [.link, .freeCtr] u) := by
  have hport := State.received_linkOf (n := pidx p) h
  have hlanes := State.sendCtl_onLanes (p := pidx p) (b := ackBlock (s.linkOf (pidx p)).ackSent) (State.received_good (n := pidx p) h)
  rw [hport] at hlanes
  have hack : ((s.received (pidx p)).linkOf (pidx p)).ackSent = (s.linkOf (pidx p)).ackSent := by
    rw [hport]
    rfl
  have hexec : exec (.frameRejected p f) s = .next ((s.received (pidx p)).sendCtl (pidx p) (ackBlock (s.linkOf (pidx p)).ackSent)) :=
    (exec_frameRejected hservice hverdict).trans (congrArg (fun a => Host.Outcome.next ((s.received (pidx p)).sendCtl (pidx p) (ackBlock a))) hack)
  have hm := Sub.refl 8796361457664
  refine ⟨_, hexec, hlanes, fun q hq => (State.sendCtl_linkOf_other hq).trans (State.linkOf_updLink_other hq), Frm.keepsParts (m := 8796361457664) ?_ (by decide)⟩
  exact State.sendCtl_frm hm (State.updLink_frm (hm.le (by decide)) (Frm.refl _ s))

end

/-! ### Tag failures (Tables 10-6 and 10-7) -/

/-- The hub with a tag failure counted and answered. -/
def State.tagFailed (s : State) (n : Nat) : State := (s.noted n 0x1C (fun l => l.authRun + 1)).rxReject n 3

theorem State.tagFailed_good (h : Good O Q s) : Good O Q (s.tagFailed (pidx p)) := State.rxReject_good (State.noted_good h)

/-- The port is still in service, and what Table 10-7 looks at is as it was. -/
theorem State.tagFailed_keeps (h : Good O Q s) (hservice : s.inService (pidx p) = true) : (s.tagFailed (pidx p)).inService (pidx p) = true ∧ ((s.tagFailed (pidx p)).linkOf (pidx p)).fastIn = (s.linkOf (pidx p)).fastIn
    ∧ ((s.tagFailed (pidx p)).linkOf (pidx p)).authTimes = (s.linkOf (pidx p)).authTimes ∧ (s.tagFailed (pidx p)).tm = s.tm := by
  have hrejects : (s.linkOf (pidx p)).Rejects ((s.linkOf (pidx p)).authRun + 1) 3 ((s.tagFailed (pidx p)).linkOf (pidx p)) := State.noted_rejects h
  obtain ⟨hmode, -, hfast, htimes⟩ := hrejects.keeps
  have hm := Sub.refl 8796361457680
  have hframe : Frm 8796361457680 s (s.tagFailed (pidx p)) := State.rxReject_frm (hm.le (by decide))
    (State.updLink_frm (hm.le (by decide)) (State.bump_frm (hm.le (by decide)) (State.updLink_frm (hm.le (by decide)) (Frm.refl _ s))))
  exact ⟨decide_eq_true (hmode.trans (State.mode_of_inService hservice)), hfast, htimes, hframe .tm (by decide)⟩

section
variable (h : Good O Q s) (hservice : s.inService (pidx p) = true) (hverdict : (s.linkOf (pidx p)).verdict f = some .tag)
include h hservice hverdict

theorem exec_frameRejected_tag :
    exec (.frameRejected p f) s = .next (if 4 ≤ (s.linkOf (pidx p)).authRun + 1 then (s.tagFailed (pidx p)).linkLose (pidx p) 7 else s.tagFailed (pidx p)) := by
  have hrejects : (s.linkOf (pidx p)).Rejects ((s.linkOf (pidx p)).authRun + 1) 3 ((s.tagFailed (pidx p)).linkOf (pidx p)) := State.noted_rejects h
  obtain ⟨-, hrun, -⟩ := hrejects.keeps
  rw [exec_frameRejected hservice hverdict]
  change Host.Outcome.next (if 4 ≤ ((s.tagFailed (pidx p)).linkOf (pidx p)).authRun then (s.tagFailed (pidx p)).linkLose (pidx p) 7 else s.tagFailed (pidx p)) = _
  rw [hrun]

theorem frameRejected_tag (hrun : (s.linkOf (pidx p)).authRun < 3) : Runs (.frameRejected p f) s (fun u => (s.linkOf (pidx p)).Rejects ((s.linkOf (pidx p)).authRun + 1) 3 (u.linkOf (pidx p))
    ∧ u.reg (Reg.link (pidx p) 0x1C) = (s.reg (Reg.link (pidx p) 0x1C)).satAdd 1 ∧ (∀ q, q ≠ pidx p → u.linkOf q = s.linkOf q) ∧ s.keepsBut [.regs, .link, .freeCtr] u) :=
  ⟨s.tagFailed (pidx p), (exec_frameRejected_tag h hservice hverdict).trans (congrArg Host.Outcome.next (if_neg (by omega))), State.noted_rejects h, State.noted_count h, State.noted_leaves _ _ _ _ _⟩

theorem frameRejected_retrains (hrun : 3 ≤ (s.linkOf (pidx p)).authRun) (hfull : (s.linkOf (pidx p)).fastIn = false) :
    Runs (.frameRejected p f) s (fun u => (u.linkOf (pidx p)).mode = .clockLock ∧ (u.linkOf (pidx p)).fast = true) := by
  obtain ⟨hstays, hfast, -, -⟩ := State.tagFailed_keeps h hservice
  have hspares : (s.tagFailed (pidx p)).authSpent (pidx p) 7 = false := by simp [State.authSpent, hfast, hfull]
  exact ⟨_, (exec_frameRejected_tag h hservice hverdict).trans (congrArg Host.Outcome.next (if_pos (by omega))), State.linkLose_retrains hstays hspares (State.tagFailed_good h)⟩

end

/-- Three fast retrains that ended in AUTH: the port goes into FAULT. -/
theorem State.linkLose_faults {cause : Nat} (h : Good O Q s) (hservice : s.inService n = true) (hspent : s.authSpent n cause = true) :
    ((s.linkLose n cause).linkOf n).mode = .fault ∧ ((s.linkLose n cause).linkOf n).faultCause = 5 := by
  obtain ⟨g, hchanges, -⟩ := s.oneCycle_reports (fun t => if s.authSpent n cause then (s.loses t n cause).faultEnter n 5 else (s.loses t n cause).linkMode n .clockLock)
  rw [← State.linkLose_eq hservice, if_pos hspent] at hchanges
  rw [hchanges.linkOf (by decide)]
  exact State.faultEnter_state (State.loses_good s (State.gathering_good h))

theorem frameRejected_faults {a b : Nat} (h : Good O Q s) (hservice : s.inService (pidx p) = true) (hverdict : (s.linkOf (pidx p)).verdict f = some .tag) (hrun : 3 ≤ (s.linkOf (pidx p)).authRun)
    (hfull : (s.linkOf (pidx p)).fastIn = true) (htimes : (s.linkOf (pidx p)).authTimes = [a, b]) (ha : s.tm.up ≤ a + 10000000000) (hb : s.tm.up ≤ b + 10000000000) :
    Runs (.frameRejected p f) s (fun u => (u.linkOf (pidx p)).mode = .fault ∧ (u.linkOf (pidx p)).faultCause = 5) := by
  obtain ⟨hstays, hfast, hsame, htm⟩ := State.tagFailed_keeps h hservice
  have htries : (s.tagFailed (pidx p)).authTries (pidx p) 7 = [s.tm.up, a, b] := by
    rw [State.authTries, if_pos ⟨rfl, hfast.trans hfull⟩, hsame, htimes, htm]
    rfl
  have hspent : (s.tagFailed (pidx p)).authSpent (pidx p) 7 = true := by
    rw [State.authSpent, htries, hfast, hfull, htm]
    simp [ha, hb]
  exact ⟨_, (exec_frameRejected_tag h hservice hverdict).trans (congrArg Host.Outcome.next (if_pos (by omega))), State.linkLose_faults (State.tagFailed_good h) hstays hspent⟩

/-! ### ACK (R258, R259) -/

section
variable {a : BitVec 12}

theorem exec_ack_covers (hservice : s.inService (pidx p) = true) (hline : pidx p ≠ 2) (hkeys : (s.linkOf (pidx p)).newKeys = none) (hback : lseqFrom (s.linkOf (pidx p)).lastAcked a = true)
    (hleft : lseqFrom (a + 1) (s.linkOf (pidx p)).txNext = true) : exec (.ack p a) s = .next ((s.setLink (pidx p) { s.linkOf (pidx p) with
      ackUp := if a = (s.linkOf (pidx p)).lastAcked then (s.linkOf (pidx p)).ackUp else s.tm.up, lastAcked := a,
      replay := (s.linkOf (pidx p)).replay.filter (fun f => !lseqFrom f.lseq a), resend := (s.linkOf (pidx p)).resend.filter (fun x => !lseqFrom x a) }).startNext (pidx p)) := by
  change execAck p a s = _
  unfold execAck
  dsimp only
  rw [if_neg (by rw [hservice, hback, hleft]; decide), if_neg hline, hkeys]

theorem exec_ack_idle (hfar : lseqFrom (s.linkOf (pidx p)).lastAcked a = false ∨ lseqFrom (a + 1) (s.linkOf (pidx p)).txNext = false) : exec (.ack p a) s = .next s := if_pos (.inr hfar)

end

/-! ### NAK and the replay timeout (R259) -/

/-- The frames to be sent again from an LSEQ on. -/
def LinkSt.again (l : LinkSt) (a : BitVec 12) : List TxFrame :=
  (l.replay.filter (fun f => lseqFrom a f.lseq)) ++ (l.current.filter (fun f => lseqFrom a f.lseq && !l.replay.any (fun x => x.lseq == f.lseq))).toList

section
variable {a : BitVec 12}

theorem State.replayFrom_again (hfresh : ∀ f ∈ (s.linkOf n).replay, lseqFrom a f.lseq = true → f.tries < 8) :
    s.replayFrom n a = (s.setLink n { s.linkOf n with resend := ((s.linkOf n).again a).map (fun f => f.lseq), ackUp := s.tm.up }).startNext n := by
  have hnone : ((s.linkOf n).replay.filter (fun f => lseqFrom a f.lseq)).any (fun f => decide (8 ≤ f.tries)) = false := by
    refine List.any_eq_false.mpr (fun f hf => ?_)
    obtain ⟨hmem, hfrom⟩ := List.mem_filter.mp hf
    have := hfresh f hmem hfrom
    simp only [decide_eq_true_eq]
    omega
  unfold State.replayFrom
  dsimp only
  rw [hnone]
  rfl

/-- A frame that has been sent nine times takes the port out of service (Table 10-6). -/
theorem State.replayFrom_loses (h : Good O Q s) (hservice : s.inService n = true) {f : TxFrame} (hf : f ∈ (s.linkOf n).replay) (hfrom : lseqFrom a f.lseq = true) (htries : 8 ≤ f.tries) :
    ((s.replayFrom n a).linkOf n).mode = .clockLock ∧ ((s.replayFrom n a).linkOf n).fast = true := by
  have hspent : ((s.linkOf n).replay.filter (fun f => lseqFrom a f.lseq)).any (fun f => decide (8 ≤ f.tries)) = true :=
    List.any_eq_true.mpr ⟨f, List.mem_filter.mpr ⟨hf, hfrom⟩, decide_eq_true htries⟩
  have hloses : ∀ t : State, Good O Q t → t.inService n = true → ((t.linkLose n 6).linkOf n).mode = .clockLock ∧ ((t.linkLose n 6).linkOf n).fast = true :=
    fun t ht hin => State.linkLose_retrains hin (State.authSpent_other (by decide)) ht
  unfold State.replayFrom
  dsimp only
  rw [if_pos hspent]
  unfold State.underInj
  split
  · exact hloses { s with injectedNow := true } (good_mk h rfl rfl rfl rfl) hservice
  · exact hloses s h hservice

theorem exec_nak (hservice : s.inService (pidx p) = true) : exec (.nak p a) s = .next (s.replayFrom (pidx p) a) := congrArg Host.Outcome.next (if_pos hservice)

end

theorem exec_replayTimeout {f : TxFrame} {fs : List TxFrame} (hservice : s.inService (pidx p) = true) (hreplay : (s.linkOf (pidx p)).replay = f :: fs)
    (hfresh : ∀ f ∈ (s.linkOf (pidx p)).replay, f.tries < 8) : exec (.replayTimeout p) s =
      .next (((s.reachUp ((s.linkOf (pidx p)).ackUp + (s.linkOf (pidx p)).rtt + 20000)).setLink (pidx p) { s.linkOf (pidx p) with
        resend := ((s.linkOf (pidx p)).again f.lseq).map (fun x => x.lseq), ackUp := (s.reachUp ((s.linkOf (pidx p)).ackUp + (s.linkOf (pidx p)).rtt + 20000)).tm.up }).startNext (pidx p)) := by
  have hexec : exec (.replayTimeout p) s = .next ((s.reachUp ((s.linkOf (pidx p)).ackUp + (s.linkOf (pidx p)).rtt + 20000)).replayFrom (pidx p) f.lseq) := by
    change execReplayTimeout p s = _
    unfold execReplayTimeout
    dsimp only
    rw [hreplay, List.head?_cons]
    exact congrArg Host.Outcome.next (if_pos hservice)
  rw [hexec]
  generalize (s.linkOf (pidx p)).ackUp + (s.linkOf (pidx p)).rtt + 20000 = up
  rw [State.replayFrom_again (by rw [State.reachUp_linkOf]; exact fun f hf _ => hfresh f hf), State.reachUp_linkOf]

/-! ### A frame has left (R251 to R254, R257) -/

/-- A second write of an index leaves what it alone would. -/
theorem Cells.set_set {α : Type} [DecidableEq α] {d : Nat → α} {a : Nat} {v w : α} {m : Cells α} : ∀ {lo : Nat}, Cells.wfFrom d lo m = true → Cells.set d (Cells.set d m a v) a w = Cells.set d m a w := by
  have hput : ∀ {rest : Cells α}, Cells.set d rest a w = Cells.put d a w rest → Cells.set d (Cells.put d a v rest) a w = Cells.put d a w rest := by
    intro rest hrest
    by_cases hv : v = d a
    · rw [Cells.put, if_pos hv, hrest]
    · rw [Cells.put, if_neg hv, Cells.set, if_neg (Nat.lt_irrefl a), if_pos rfl]
  induction m with
  | nil => exact fun _ => hput rfl
  | cons e rest ih =>
    obtain ⟨k, x⟩ := e
    intro lo hwf
    simp only [Cells.wfFrom, Bool.and_eq_true, decide_eq_true_eq] at hwf
    obtain ⟨-, hrest⟩ := hwf
    by_cases hlow : a < k
    · have hset : ∀ y, Cells.set d ((k, x) :: rest) a y = Cells.put d a y ((k, x) :: rest) := fun y => if_pos hlow
      rw [hset, hset]
      exact hput (hset w)
    · by_cases hself : a = k
      · have hset : ∀ y, Cells.set d ((k, x) :: rest) a y = Cells.put d a y rest := fun y => (if_neg hlow).trans (if_pos hself)
        rw [hset, hset]
        refine hput ?_
        cases rest with
        | nil => rfl
        | cons e' rest' =>
          obtain ⟨k', x'⟩ := e'
          simp only [Cells.wfFrom, Bool.and_eq_true, decide_eq_true_eq] at hrest
          exact if_pos (by omega)
      · have hset : ∀ y (r : Cells α), Cells.set d ((k, x) :: r) a y = (k, x) :: Cells.set d r a y := fun y r => (if_neg hlow).trans (if_neg hself)
        rw [hset, hset, hset, ih hrest]

theorem State.setLink_setLink {l k : LinkSt} (h : Good O Q s) : (s.setLink n l).setLink n k = s.setLink n k :=
  congrArg (fun c => { s with link := c }) (Cells.set_set h.link)

/-- Without an injection a frame's blocks leave as they are (R280). -/
theorem State.sendBlocks_plain {l : LinkSt} {f : TxFrame} (h : Good O Q s) (hinject : l.inject = []) (hkept : l.kept = none) :
    (s.setLink n l).sendBlocks n f = (s.setLink n l).emit n (f.blocks f.cipher) := by
  have hport : (s.setLink n l).linkOf n = l := State.linkOf_setLink_self h
  have hsame : (s.setLink n l).updLink n (fun k => { k with kept := none, inject := k.inject }) = s.setLink n l := by
    rw [State.updLink, hport, State.setLink_setLink h, ← hkept]
  have hsends : (s.setLink n l).sendBlocks n f = ((s.setLink n l).updLink n (fun k => { k with kept := none, inject := k.inject })).emit n (f.blocks f.cipher ++ []) := by
    unfold State.sendBlocks
    dsimp only
    rw [hport, hinject, hkept]
    rfl
  rw [hsends, hsame, List.append_nil]

/-- The port as a frame has left it: it waits for its acknowledgement unless one has covered it meanwhile. -/
def LinkSt.waitsFor (l : LinkSt) (f : TxFrame) (up : Nat) : LinkSt :=
  { l with
    current := none,
    replay := if lseqFrom f.lseq l.lastAcked then l.replay else if l.replay.any (fun x => x.lseq == f.lseq) then l.replay.map (fun x => if x.lseq == f.lseq then f else x) else l.replay ++ [f],
    ackUp := if l.replay.isEmpty then up else l.ackUp }

/-- The hub as a frame has left in service through the injector, and the next one starts. -/
def State.frameLeft (s : State) (n : Nat) (f : TxFrame) : State := (((s.setLink n ((s.linkOf n).waitsFor f s.tm.up)).sendBlocks n f).stampSent n f).startNext n

section
variable {f : TxFrame} (hservice : s.inService (pidx p) = true) (hcurrent : (s.linkOf (pidx p)).current = some f)
include hservice hcurrent

theorem exec_frameTxEnd_service : exec (.frameTxEnd p) s = .next (if pidx p = 2 then (s.frameLeft (pidx p) { f with injected := f.injected || s.injHits (pidx p) f }).feedData
    else s.frameLeft (pidx p) { f with injected := f.injected || s.injHits (pidx p) f }) := by
  change execFrameTxEnd p s = _
  unfold execFrameTxEnd
  dsimp only
  rw [hcurrent]
  exact if_pos hservice

theorem exec_frameTxEnd_plain (h : Good O Q s) (hinject : (s.linkOf (pidx p)).inject = []) (hkept : (s.linkOf (pidx p)).kept = none) :
    let u := (((s.setLink (pidx p) ((s.linkOf (pidx p)).waitsFor f s.tm.up)).emit (pidx p) (f.blocks f.cipher)).stampSent (pidx p) f).startNext (pidx p)
    exec (.frameTxEnd p) s = .next (if pidx p = 2 then u.feedData else u) := by
  have hclear : s.injHits (pidx p) f = false := by
    unfold State.injHits
    rw [hinject, hkept]
    rfl
  have hsame : { f with injected := f.injected || s.injHits (pidx p) f } = f := by rw [hclear, Bool.or_false]
  have hsent : (s.setLink (pidx p) ((s.linkOf (pidx p)).waitsFor f s.tm.up)).sendBlocks (pidx p) f = (s.setLink (pidx p) ((s.linkOf (pidx p)).waitsFor f s.tm.up)).emit (pidx p) (f.blocks f.cipher) :=
    State.sendBlocks_plain h hinject hkept
  rw [exec_frameTxEnd_service hservice hcurrent, hsame, State.frameLeft, hsent]

end

/-! ### The next frame (R257, R259, R272) -/

theorem startNext_trigger {f : TxFrame} {rest : List TxFrame} (h : Good O Q s) (hservice : s.inService n = true) (hnone : (s.linkOf n).current = none) (hresend : (s.linkOf n).resend = [])
    (hroom : (s.linkOf n).hasRoom f = true) (hqueues : (s.linkOf n).queues = f :: rest) (hcls : f.cls = .trigger) : let u := s.startNext n
      (u.linkOf n).txNext = (s.linkOf n).txNext + 1 ∧ (u.linkOf n).queues = rest ∧ (u.linkOf n).keys = (s.linkOf n).keys.map LinkKeys.used
        ∧ ((u.linkOf n).current.map (fun x => (x.lseq, x.cipher))) = some ((s.linkOf n).txNext, (s.linkOf n).keys) := by
  have hcaught : ∀ l : LinkSt, OnLanes (s.linkOf n) l → l.resend = [] ∧ l.queues = f :: rest ∧ l.hasRoom f = true ∧ l.txNext = (s.linkOf n).txNext ∧ l.keys = (s.linkOf n).keys := by
    intro l hl
    rw [hl]
    exact ⟨hresend, hqueues, hroom, rfl, rfl⟩
  obtain ⟨hempty, hfirst, hfits, hnext, hkeys⟩ := hcaught _ ((s.linkOf n).catchUp_onLanes s.tm.up)
  have hpick : pickFrame (f :: rest) [.trigger, .firefly, .twin, .management] = some f := by simp [pickFrame, hcls]
  have hdrop : dropFirst f.cls (f :: rest) = rest := by simp [dropFirst]
  have hstarts : ∃ g : TxFrame, g.lseq = (s.linkOf n).txNext ∧ g.cipher = (s.linkOf n).keys ∧ (s.startNext n).linkOf n =
      { (s.linkOf n).catchUp s.tm.up with current := some g, queues := rest, txNext := (s.linkOf n).txNext + 1, keys := (s.linkOf n).keys.map LinkKeys.used } := by
    unfold State.startNext
    rw [if_neg (by simp [hnone]), if_pos hservice]
    dsimp only
    rw [hempty]
    dsimp only
    rw [hfirst, hpick]
    dsimp only
    rw [if_pos hfits, State.stampReq_linkOf, State.linkOf_setLink_self h, hdrop, hnext, hkeys]
    exact ⟨_, rfl, rfl, rfl⟩
  obtain ⟨g, hlseq, hcipher, hport⟩ := hstarts
  dsimp only
  rw [hport]
  exact ⟨rfl, rfl, rfl, by rw [Option.map_some, hlseq, hcipher]⟩

/-- Settles O34: descramble_scramble and readFrame_frameBlocks for the blocks, the verdict's cases, and for the receiver and the sender what accepting, rejecting and acknowledging leave of the port. -/
theorem framesAreAcknowledgedAndReplayed : Obligations.FramesAreAcknowledgedAndReplayed := by
  refine ⟨descramble_scramble, fun h body pos hlow hhigh height hbody => readFrame_frameBlocks hlow hhigh height hbody pos, fun l f => ⟨LinkSt.verdict_unread, fun h body hread =>
    ⟨LinkSt.verdict_duplicate hread, LinkSt.verdict_ahead hread, fun hnext hplain hkeys => ?clear, fun hnext hplain hkeys => ?keyed⟩⟩, fun s hwf p hservice => ?_⟩
  case clear => exact (LinkSt.verdict_clear hread hnext hplain).trans (if_neg (by simp [hkeys]))
  case keyed => exact (LinkSt.verdict_clear hread hnext hplain).trans (if_pos hkeys)
  have h := good_of_wf hwf
  exact ⟨mgmt_acknowledges h hservice, reservedTypeFrame_acknowledges h hservice, fun f => frameRejected_crc h hservice, fun f => frameRejected_ahead h hservice, fun f => frameRejected_tag h hservice,
    fun f => frameRejected_retrains h hservice, fun f a b => frameRejected_faults h hservice, fun f => frameRejected_duplicate h hservice, fun a hline => exec_ack_covers hservice hline, fun a => exec_ack_idle,
    fun a hfresh => (exec_nak hservice).trans (congrArg Host.Outcome.next (State.replayFrom_again hfresh)), fun a f hf hfrom htries => ⟨_, exec_nak hservice, State.replayFrom_loses h hservice hf hfrom htries⟩,
    fun f fs => exec_replayTimeout hservice, fun f hcurrent => exec_frameTxEnd_plain hservice hcurrent h, fun f rest => startNext_trigger h hservice⟩

end Sys2Proof.Machine
end

section
/-! PROOFS. The machine as a whole: what one step runs, the invariant of Safety.lean along it, and the parts of the state a command can change (R460, R475). -/

namespace Sys2Proof.Machine

open Sys2Proof

set_option Elab.async false

variable {O : OtpSt} {Q : List Instr} {s : State}

/-! ### The parts of a command as a set -/

/-- The set of a list of parts, as the number whose bits Part.bit numbers. -/
def partsMask (F : List Part) : Nat := F.foldr (fun p a => 2 ^ p.bit ||| a) 0

theorem Part.ofNat_bit (p : Part) : Part.ofNat p.bit = p := by
  cases p <;> rfl

theorem Part.bit_injective : Function.Injective Part.bit := Function.LeftInverse.injective Part.ofNat_bit

theorem mem_of_testBit_partsMask {F : List Part} {p : Part} (h : (partsMask F).testBit p.bit = true) : p ∈ F := by
  induction F with
  | nil => simp [partsMask] at h
  | cons q F ih =>
    rw [partsMask, List.foldr_cons, Nat.testBit_or, Bool.or_eq_true, Nat.testBit_two_pow, decide_eq_true_eq] at h
    rcases h with hq | hrest
    · exact List.mem_cons.mpr (.inl (Part.bit_injective hq).symm)
    · exact List.mem_cons_of_mem q (ih hrest)

/-- An outcome that differs in the set of a list's parts runs within that list. -/
theorem OutFrm.runs {c : Instr} {F : List Part} (h : OutFrm (partsMask F) s (exec c s)) : Runs c s (fun t => s.keepsBut F t) := by
  obtain ⟨t, hnext, hsame⟩ := h
  exact ⟨t, hnext, hsame.keepsBut (fun _ hp => mem_of_testBit_partsMask hp)⟩

/-- A set of parts lies in the set of a list. -/
theorem sub_partsMask {n : Nat} {F : List Part} (h : n &&& partsMask F = n) : Sub n (partsMask F) := (Sub.refl _).le h

/-- Every command has a next state, which differs from the state before in the command's own parts only. -/
theorem exec_frm (c : Instr) : OutFrm (partsMask c.parts) s (exec c s) := by
  cases c <;> dsimp only [Instr.parts]
  case por => exact execPor_frm (sub_partsMask rfl) (Frm.refl _ s)
  case warm => exact execWarm_frm (sub_partsMask rfl) (Frm.refl _ s)
  case vaultReset => exact execVaultReset_frm (sub_partsMask rfl) (Frm.refl _ s)
  case startupStepEnd => exact execStartupStepEnd_frm (sub_partsMask rfl) (Frm.refl _ s)
  case supplyTimeout => exact execSupplyTimeout_frm (sub_partsMask rfl) (Frm.refl _ s)
  case supplyRetry => exact execSupplyRetry_frm (sub_partsMask rfl) (Frm.refl _ s)
  case stepOverrun => exact execStepOverrun_frm (sub_partsMask rfl) (Frm.refl _ s)
  case roleResolution => exact execRoleResolution_frm (sub_partsMask rfl) (Frm.refl _ s)
  case strobeEdge => exact execStrobeEdge_frm (sub_partsMask rfl) (Frm.refl _ s)
  case strobeEvent => exact execStrobeEvent_frm (sub_partsMask rfl) (Frm.refl _ s)
  case eventStrobeEdge => exact execEventStrobeEdge_frm (sub_partsMask rfl) (Frm.refl _ s)
  case starved => exact execStarved_frm (sub_partsMask rfl) (Frm.refl _ s)
  case conversionDone => exact execConversionDone_frm (sub_partsMask rfl) (Frm.refl _ s)
  case frameReady => exact execFrameReady_frm (sub_partsMask rfl) (Frm.refl _ s)
  case mainsCrossingTimeout => exact execMainsCrossingTimeout_frm (sub_partsMask rfl) (Frm.refl _ s)
  case mainsAccept => exact execMainsAccept_frm (sub_partsMask rfl) (Frm.refl _ s)
  case mainsStateTimer => exact execMainsStateTimer_frm (sub_partsMask rfl) (Frm.refl _ s)
  case mainsWeightApply => exact execMainsWeightApply_frm (sub_partsMask rfl) (Frm.refl _ s)
  case triggerOutEnd => exact execTriggerOutEnd_frm (sub_partsMask rfl) (Frm.refl _ s)
  case triggerInEdge => exact execTriggerInEdge_frm (sub_partsMask rfl) (Frm.refl _ s)
  case captureWindowEnd => exact execCaptureWindowEnd_frm (sub_partsMask rfl) (Frm.refl _ s)
  case captureCopyDone => exact execCaptureCopyDone_frm (sub_partsMask rfl) (Frm.refl _ s)
  case packetMaxAge => exact execPacketMaxAge_frm (sub_partsMask rfl) (Frm.refl _ s)
  case gapRecordWrite => exact execGapRecordWrite_frm (sub_partsMask rfl) (Frm.refl _ s)
  case packetCompressed => exact execPacketCompressed_frm (sub_partsMask rfl) (Frm.refl _ s)
  case cmpBypass => exact execCmpBypass_frm (sub_partsMask rfl) (Frm.refl _ s)
  case packetSigned => exact execPacketSigned_frm (sub_partsMask rfl) (Frm.refl _ s)
  case packetDmaDone => exact execPacketDmaDone_frm (sub_partsMask rfl) (Frm.refl _ s)
  case statsIntervalEnd => exact execStatsIntervalEnd_frm (sub_partsMask rfl) (Frm.refl _ s)
  case protectionOpen => exact execProtectionOpen_frm (sub_partsMask rfl) (Frm.refl _ s)
  case protectionClose => exact execProtectionClose_frm (sub_partsMask rfl) (Frm.refl _ s)
  case pulseStart => exact execPulseStart_frm (sub_partsMask rfl) (Frm.refl _ s)
  case polarityCheck => exact execPolarityCheck_frm (sub_partsMask rfl) (Frm.refl _ s)
  case inrushEnd => exact execInrushEnd_frm (sub_partsMask rfl) (Frm.refl _ s)
  case pulseEnd => exact execPulseEnd_frm (sub_partsMask rfl) (Frm.refl _ s)
  case shortDetect => exact execShortDetect_frm (sub_partsMask rfl) (Frm.refl _ s)
  case retryElapsed => exact execRetryElapsed_frm (sub_partsMask rfl) (Frm.refl _ s)
  case openSenseTestEnd => exact execOpenSenseTestEnd_frm (sub_partsMask rfl) (Frm.refl _ s)
  case pumpReady => exact execPumpReady_frm (sub_partsMask rfl) (Frm.refl _ s)
  case pumpSagTimeout => exact execPumpSagTimeout_frm (sub_partsMask rfl) (Frm.refl _ s)
  case seizeAssert => exact execSeizeAssert_frm (sub_partsMask rfl) (Frm.refl _ s)
  case seizeRelease => exact execSeizeRelease_frm (sub_partsMask rfl) (Frm.refl _ s)
  case shortSeenRearm => exact execShortSeenRearm_frm (sub_partsMask rfl) (Frm.refl _ s)
  case reversedSeenRearm => exact execReversedSeenRearm_frm (sub_partsMask rfl) (Frm.refl _ s)
  case owTestStart => exact execOwTestStart_frm (sub_partsMask rfl) (Frm.refl _ s)
  case owTestEnd => exact execOwTestEnd_frm (sub_partsMask rfl) (Frm.refl _ s)
  case nudge => exact execNudge_frm (sub_partsMask rfl) (Frm.refl _ s)
  case dbPoll => exact execDbPoll_frm (sub_partsMask rfl) (Frm.refl _ s)
  case doorbellFetch => exact execDoorbellFetch_frm (sub_partsMask rfl) (Frm.refl _ s)
  case descriptorFetch => exact execDescriptorFetch_frm (sub_partsMask rfl) (Frm.refl _ s)
  case cqModerationTimer => exact execCqModerationTimer_frm (sub_partsMask rfl) (Frm.refl _ s)
  case engineHoldTimeout => exact execEngineHoldTimeout_frm (sub_partsMask rfl) (Frm.refl _ s)
  case sqEnable => exact execSqEnable_frm (sub_partsMask rfl) (Frm.refl _ s)
  case sqDisable => exact execSqDisable_frm (sub_partsMask rfl) (Frm.refl _ s)
  case cqEnable => exact execCqEnable_frm (sub_partsMask rfl) (Frm.refl _ s)
  case cqDisable => exact execCqDisable_frm (sub_partsMask rfl) (Frm.refl _ s)
  case pcieConventionalReset => exact execPcieConventionalReset_frm (sub_partsMask rfl) (Frm.refl _ s)
  case nop => exact execNop_frm (sub_partsMask rfl) (Frm.refl _ s)
  case fence => exact execFence_frm (sub_partsMask rfl) (Frm.refl _ s)
  case cfgBegin => exact execCfgBegin_frm (sub_partsMask rfl) (Frm.refl _ s)
  case cfgWrite => exact execCfgWrite_frm (sub_partsMask rfl) (Frm.refl _ s)
  case cfgCommit => exact execCfgCommit_frm (sub_partsMask rfl) (Frm.refl _ s)
  case cfgRollback => exact execCfgRollback_frm (sub_partsMask rfl) (Frm.refl _ s)
  case cfgTxnTimeout => exact execCfgTxnTimeout_frm (sub_partsMask rfl) (Frm.refl _ s)
  case heldCommitValidate => exact execHeldCommitValidate_frm (sub_partsMask rfl) (Frm.refl _ s)
  case cfgFlip => exact execCfgFlip_frm (sub_partsMask rfl) (Frm.refl _ s)
  case heldRestart => exact execHeldRestart_frm (sub_partsMask rfl) (Frm.refl _ s)
  case liveBankEcc => exact execLiveBankEcc_frm (sub_partsMask rfl) (Frm.refl _ s)
  case cfgStoreDone => exact execCfgStoreDone_frm (sub_partsMask rfl) (Frm.refl _ s)
  case streamBuf => exact execStreamBuf_frm (sub_partsMask rfl) (Frm.refl _ s)
  case captureArm => exact execCaptureArm_frm (sub_partsMask rfl) (Frm.refl _ s)
  case captureRead => exact execCaptureRead_frm (sub_partsMask rfl) (Frm.refl _ s)
  case statsRead => exact execStatsRead_frm (sub_partsMask rfl) (Frm.refl _ s)
  case compress => exact execCompress_frm (sub_partsMask rfl) (Frm.refl _ s)
  case decompress => exact execDecompress_frm (sub_partsMask rfl) (Frm.refl _ s)
  case timePulse => exact execTimePulse_frm (sub_partsMask rfl) (Frm.refl _ s)
  case timePulseRise => exact execTimePulseRise_frm (sub_partsMask rfl) (Frm.refl _ s)
  case timePulseFall => exact execTimePulseFall_frm (sub_partsMask rfl) (Frm.refl _ s)
  case fwStage => exact execFwStage_frm (sub_partsMask rfl) (Frm.refl _ s)
  case fwActivate => exact execFwActivate_frm (sub_partsMask rfl) (Frm.refl _ s)
  case fwConfirm => exact execFwConfirm_frm (sub_partsMask rfl) (Frm.refl _ s)
  case fwAutoConfirm => exact execFwAutoConfirm_frm (sub_partsMask rfl) (Frm.refl _ s)
  case fwConfirmLimit => exact execFwConfirmLimit_frm (sub_partsMask rfl) (Frm.refl _ s)
  case signReq => exact execSignReq_frm (sub_partsMask rfl) (Frm.refl _ s)
  case attest => exact execAttest_frm (sub_partsMask rfl) (Frm.refl _ s)
  case vaultCmdStatus => exact execVaultCmdStatus_frm (sub_partsMask rfl) (Frm.refl _ s)
  case vaultCmdReadRecords => exact execVaultCmdReadRecords_frm (sub_partsMask rfl) (Frm.refl _ s)
  case vaultCmdAck => exact execVaultCmdAck_frm (sub_partsMask rfl) (Frm.refl _ s)
  case vaultCmdReadAudit => exact execVaultCmdReadAudit_frm (sub_partsMask rfl) (Frm.refl _ s)
  case vaultCmdAuth => exact execVaultCmdAuth_frm (sub_partsMask rfl) (Frm.refl _ s)
  case vaultCmdReset => exact execVaultCmdReset_frm (sub_partsMask rfl) (Frm.refl _ s)
  case twinCmdStatus => exact execTwinCmdStatus_frm (sub_partsMask rfl) (Frm.refl _ s)
  case twinCmdSwap => exact execTwinCmdSwap_frm (sub_partsMask rfl) (Frm.refl _ s)
  case twinCmdTakeover => exact execTwinCmdTakeover_frm (sub_partsMask rfl) (Frm.refl _ s)
  case twinCmdReleaseSeize => exact execTwinCmdReleaseSeize_frm (sub_partsMask rfl) (Frm.refl _ s)
  case twinCmdResume => exact execTwinCmdResume_frm (sub_partsMask rfl) (Frm.refl _ s)
  case twinCmdResync => exact execTwinCmdResync_frm (sub_partsMask rfl) (Frm.refl _ s)
  case injectCancel => exact execInjectCancel_frm (sub_partsMask rfl) (Frm.refl _ s)
  case injectDrop => exact execInjectDrop_frm (sub_partsMask rfl) (Frm.refl _ s)
  case injectCorrupt => exact execInjectCorrupt_frm (sub_partsMask rfl) (Frm.refl _ s)
  case injectReorder => exact execInjectReorder_frm (sub_partsMask rfl) (Frm.refl _ s)
  case injectTag => exact execInjectTag_frm (sub_partsMask rfl) (Frm.refl _ s)
  case injectHeader => exact execInjectHeader_frm (sub_partsMask rfl) (Frm.refl _ s)
  case injectSquelch => exact execInjectSquelch_frm (sub_partsMask rfl) (Frm.refl _ s)
  case injectExcShort => exact execInjectExcShort_frm (sub_partsMask rfl) (Frm.refl _ s)
  case injectExcOpen => exact execInjectExcOpen_frm (sub_partsMask rfl) (Frm.refl _ s)
  case injectExcReversed => exact execInjectExcReversed_frm (sub_partsMask rfl) (Frm.refl _ s)
  case injectExcSenseOpen => exact execInjectExcSenseOpen_frm (sub_partsMask rfl) (Frm.refl _ s)
  case injectAinOpen => exact execInjectAinOpen_frm (sub_partsMask rfl) (Frm.refl _ s)
  case injectAinOvervolt => exact execInjectAinOvervolt_frm (sub_partsMask rfl) (Frm.refl _ s)
  case injectCnvRef => exact execInjectCnvRef_frm (sub_partsMask rfl) (Frm.refl _ s)
  case injectCnvSupply => exact execInjectCnvSupply_frm (sub_partsMask rfl) (Frm.refl _ s)
  case injectCnvTemp => exact execInjectCnvTemp_frm (sub_partsMask rfl) (Frm.refl _ s)
  case injectCnvXchk => exact execInjectCnvXchk_frm (sub_partsMask rfl) (Frm.refl _ s)
  case injectCnvTimeout => exact execInjectCnvTimeout_frm (sub_partsMask rfl) (Frm.refl _ s)
  case injectMemCorrectable => exact execInjectMemCorrectable_frm (sub_partsMask rfl) (Frm.refl _ s)
  case injectMemUncorrectable => exact execInjectMemUncorrectable_frm (sub_partsMask rfl) (Frm.refl _ s)
  case injectHostDmaError => exact execInjectHostDmaError_frm (sub_partsMask rfl) (Frm.refl _ s)
  case injectHostPostingHeld => exact execInjectHostPostingHeld_frm (sub_partsMask rfl) (Frm.refl _ s)
  case injectEngineWatchdog => exact execInjectEngineWatchdog_frm (sub_partsMask rfl) (Frm.refl _ s)
  case injectFireflyTheta => exact execInjectFireflyTheta_frm (sub_partsMask rfl) (Frm.refl _ s)
  case injectFireflyInvalid => exact execInjectFireflyInvalid_frm (sub_partsMask rfl) (Frm.refl _ s)
  case injectTwinSum => exact execInjectTwinSum_frm (sub_partsMask rfl) (Frm.refl _ s)
  case injectTwinAliveStop => exact execInjectTwinAliveStop_frm (sub_partsMask rfl) (Frm.refl _ s)
  case injectTwinHealthWithheld => exact execInjectTwinHealthWithheld_frm (sub_partsMask rfl) (Frm.refl _ s)
  case injectPumpSag => exact execInjectPumpSag_frm (sub_partsMask rfl) (Frm.refl _ s)
  case injectFatal => exact execInjectFatal_frm (sub_partsMask rfl) (Frm.refl _ s)
  case syncInterval => exact execSyncInterval_frm (sub_partsMask rfl) (Frm.refl _ s)
  case sync => exact execSync_frm (sub_partsMask rfl) (Frm.refl _ s)
  case delayReq => exact execDelayReq_frm (sub_partsMask rfl) (Frm.refl _ s)
  case delayResp => exact execDelayResp_frm (sub_partsMask rfl) (Frm.refl _ s)
  case exchangeTimeout => exact execExchangeTimeout_frm (sub_partsMask rfl) (Frm.refl _ s)
  case parentTimeout => exact execParentTimeout_frm (sub_partsMask rfl) (Frm.refl _ s)
  case noParent => exact execNoParent_frm (sub_partsMask rfl) (Frm.refl _ s)
  case ppsEdge => exact execPpsEdge_frm (sub_partsMask rfl) (Frm.refl _ s)
  case ppsTimeout => exact execPpsTimeout_frm (sub_partsMask rfl) (Frm.refl _ s)
  case ffSetGo => exact execFfSetGo_frm (sub_partsMask rfl) (Frm.refl _ s)
  case ffNowRead => exact execFfNowRead_frm (sub_partsMask rfl) (Frm.refl _ s)
  case txtsPop => exact execTxtsPop_frm (sub_partsMask rfl) (Frm.refl _ s)
  case frameTxEnd => exact execFrameTxEnd_frm (sub_partsMask rfl) (Frm.refl _ s)
  case frameRejected => exact execFrameRejected_frm (sub_partsMask rfl) (Frm.refl _ s)
  case ack => exact execAck_frm (sub_partsMask rfl) (Frm.refl _ s)
  case nak => exact execNak_frm (sub_partsMask rfl) (Frm.refl _ s)
  case replayTimeout => exact execReplayTimeout_frm (sub_partsMask rfl) (Frm.refl _ s)
  case ident => exact execIdent_frm (sub_partsMask rfl) (Frm.refl _ s)
  case ratePropose => exact execRatePropose_frm (sub_partsMask rfl) (Frm.refl _ s)
  case rateAccept => exact execRateAccept_frm (sub_partsMask rfl) (Frm.refl _ s)
  case ratePass => exact execRatePass_frm (sub_partsMask rfl) (Frm.refl _ s)
  case rateFail => exact execRateFail_frm (sub_partsMask rfl) (Frm.refl _ s)
  case test => exact execTest_frm (sub_partsMask rfl) (Frm.refl _ s)
  case soakEnd => exact execSoakEnd_frm (sub_partsMask rfl) (Frm.refl _ s)
  case keyInit => exact execKeyInit_frm (sub_partsMask rfl) (Frm.refl _ s)
  case keyResp => exact execKeyResp_frm (sub_partsMask rfl) (Frm.refl _ s)
  case keyConfirm => exact execKeyConfirm_frm (sub_partsMask rfl) (Frm.refl _ s)
  case keyRenewal => exact execKeyRenewal_frm (sub_partsMask rfl) (Frm.refl _ s)
  case lineTrigger => exact execLineTrigger_frm (sub_partsMask rfl) (Frm.refl _ s)
  case mgmt => exact execMgmt_frm (sub_partsMask rfl) (Frm.refl _ s)
  case detectDone => exact execDetectDone_frm (sub_partsMask rfl) (Frm.refl _ s)
  case clockLockDone => exact execClockLockDone_frm (sub_partsMask rfl) (Frm.refl _ s)
  case eqTuneDone => exact execEqTuneDone_frm (sub_partsMask rfl) (Frm.refl _ s)
  case blockLockDone => exact execBlockLockDone_frm (sub_partsMask rfl) (Frm.refl _ s)
  case deskewDone => exact execDeskewDone_frm (sub_partsMask rfl) (Frm.refl _ s)
  case linkStateTimeout => exact execLinkStateTimeout_frm (sub_partsMask rfl) (Frm.refl _ s)
  case trainingResend => exact execTrainingResend_frm (sub_partsMask rfl) (Frm.refl _ s)
  case faultRetry => exact execFaultRetry_frm (sub_partsMask rfl) (Frm.refl _ s)
  case los => exact execLos_frm (sub_partsMask rfl) (Frm.refl _ s)
  case clockUnlock => exact execClockUnlock_frm (sub_partsMask rfl) (Frm.refl _ s)
  case blockUnlock => exact execBlockUnlock_frm (sub_partsMask rfl) (Frm.refl _ s)
  case deskewLost => exact execDeskewLost_frm (sub_partsMask rfl) (Frm.refl _ s)
  case hiBer => exact execHiBer_frm (sub_partsMask rfl) (Frm.refl _ s)
  case loadRetrain => exact execLoadRetrain_frm (sub_partsMask rfl) (Frm.refl _ s)
  case retrain => exact execRetrain_frm (sub_partsMask rfl) (Frm.refl _ s)
  case chirpRecognised => exact execChirpRecognised_frm (sub_partsMask rfl) (Frm.refl _ s)
  case chirpSend => exact execChirpSend_frm (sub_partsMask rfl) (Frm.refl _ s)
  case twinAliveToggle => exact execTwinAliveToggle_frm (sub_partsMask rfl) (Frm.refl _ s)
  case twinAliveEdge => exact execTwinAliveEdge_frm (sub_partsMask rfl) (Frm.refl _ s)
  case activeLost => exact execActiveLost_frm (sub_partsMask rfl) (Frm.refl _ s)
  case digest => exact execDigest_frm (sub_partsMask rfl) (Frm.refl _ s)
  case digestMissing => exact execDigestMissing_frm (sub_partsMask rfl) (Frm.refl _ s)
  case healthSend => exact execHealthSend_frm (sub_partsMask rfl) (Frm.refl _ s)
  case health => exact execHealth_frm (sub_partsMask rfl) (Frm.refl _ s)
  case dualActive => exact execDualActive_frm (sub_partsMask rfl) (Frm.refl _ s)
  case streamSync => exact execStreamSync_frm (sub_partsMask rfl) (Frm.refl _ s)
  case ackWaitTimeout => exact execAckWaitTimeout_frm (sub_partsMask rfl) (Frm.refl _ s)
  case mainsFrame => exact execMainsFrame_frm (sub_partsMask rfl) (Frm.refl _ s)
  case cfgData => exact execCfgData_frm (sub_partsMask rfl) (Frm.refl _ s)
  case cfgCtrlReady => exact execCfgCtrlReady_frm (sub_partsMask rfl) (Frm.refl _ s)
  case cfgCtrlArm => exact execCfgCtrlArm_frm (sub_partsMask rfl) (Frm.refl _ s)
  case cfgReadyTimeout => exact execCfgReadyTimeout_frm (sub_partsMask rfl) (Frm.refl _ s)
  case swapExecute => exact execSwapExecute_frm (sub_partsMask rfl) (Frm.refl _ s)
  case vaultSync => exact execVaultSync_frm (sub_partsMask rfl) (Frm.refl _ s)
  case sealSwitchChange => exact execSealSwitchChange_frm (sub_partsMask rfl) (Frm.refl _ s)
  case weightRecordIssue => exact execWeightRecordIssue_frm (sub_partsMask rfl) (Frm.refl _ s)
  case alibiStoreWrite => exact execAlibiStoreWrite_frm (sub_partsMask rfl) (Frm.refl _ s)
  case vaultWatchdog => exact execVaultWatchdog_frm (sub_partsMask rfl) (Frm.refl _ s)
  case claim => exact execClaim_frm (sub_partsMask rfl) (Frm.refl _ s)
  case transfer => exact execTransfer_frm (sub_partsMask rfl) (Frm.refl _ s)
  case release => exact execRelease_frm (sub_partsMask rfl) (Frm.refl _ s)
  case setSbKey => exact execSetSbKey_frm (sub_partsMask rfl) (Frm.refl _ s)
  case setMetrologyKey => exact execSetMetrologyKey_frm (sub_partsMask rfl) (Frm.refl _ s)
  case endorse => exact execEndorse_frm (sub_partsMask rfl) (Frm.refl _ s)
  case setPolicy => exact execSetPolicy_frm (sub_partsMask rfl) (Frm.refl _ s)
  case unlockInject => exact execUnlockInject_frm (sub_partsMask rfl) (Frm.refl _ s)
  case lockInject => exact execLockInject_frm (sub_partsMask rfl) (Frm.refl _ s)
  case unlockDebug => exact execUnlockDebug_frm (sub_partsMask rfl) (Frm.refl _ s)
  case backoffEnd => exact execBackoffEnd_frm (sub_partsMask rfl) (Frm.refl _ s)
  case hibernate => exact execHibernate_frm (sub_partsMask rfl) (Frm.refl _ s)
  case wake => exact execWake_frm (sub_partsMask rfl) (Frm.refl _ s)
  case wakeTimer => exact execWakeTimer_frm (sub_partsMask rfl) (Frm.refl _ s)
  case wakeGpio => exact execWakeGpio_frm (sub_partsMask rfl) (Frm.refl _ s)
  case perstDeassert => exact execPerstDeassert_frm (sub_partsMask rfl) (Frm.refl _ s)
  case hibSupplyTimeout => exact execHibSupplyTimeout_frm (sub_partsMask rfl) (Frm.refl _ s)
  case burstEnd => exact execBurstEnd_frm (sub_partsMask rfl) (Frm.refl _ s)
  case pllRestart => exact execPllRestart_frm (sub_partsMask rfl) (Frm.refl _ s)
  case sbNop => exact execSbNop_frm (sub_partsMask rfl) (Frm.refl _ s)
  case sbRead => exact execSbRead_frm (sub_partsMask rfl) (Frm.refl _ s)
  case sbWrite => exact execSbWrite_frm (sub_partsMask rfl) (Frm.refl _ s)
  case sbDesc => exact execSbDesc_frm (sub_partsMask rfl) (Frm.refl _ s)
  case sbSvreq => exact execSbSvreq_frm (sub_partsMask rfl) (Frm.refl _ s)
  case flashProgram => exact execFlashProgram_frm (sub_partsMask rfl) (Frm.refl _ s)
  case flashProgramDone => exact execFlashProgramDone_frm (sub_partsMask rfl) (Frm.refl _ s)
  case engineWatchdog => exact execEngineWatchdog_frm (sub_partsMask rfl) (Frm.refl _ s)
  case engineReturn => exact execEngineReturn_frm (sub_partsMask rfl) (Frm.refl _ s)
  case unitFatal => exact execUnitFatal_frm (sub_partsMask rfl) (Frm.refl _ s)
  case errMsiTimer => exact execErrMsiTimer_frm (sub_partsMask rfl) (Frm.refl _ s)
  case errlogPop => exact execErrlogPop_frm (sub_partsMask rfl) (Frm.refl _ s)
  case tracePop => exact execTracePop_frm (sub_partsMask rfl) (Frm.refl _ s)
  case streamFlush => exact execStreamFlush_frm (sub_partsMask rfl) (Frm.refl _ s)
  case mantisForce => exact execMantisForce_frm (sub_partsMask rfl) (Frm.refl _ s)
  case hubCtrl => exact execHubCtrl_frm (sub_partsMask rfl) (Frm.refl _ s)
  case pinOutSet => exact execPinOutSet_frm (sub_partsMask rfl) (Frm.refl _ s)
  case pinOutClr => exact execPinOutClr_frm (sub_partsMask rfl) (Frm.refl _ s)
  case registerWrite => exact execRegisterWrite_frm (sub_partsMask rfl) (Frm.refl _ s)
  case unalignedRead => exact execUnalignedRead_frm (sub_partsMask rfl) (Frm.refl _ s)
  case pinSettle => exact execPinSettle_frm (sub_partsMask rfl) (Frm.refl _ s)
  case functionSwitchPark => exact execFunctionSwitchPark_frm (sub_partsMask rfl) (Frm.refl _ s)
  case functionSwitchConnect => exact execFunctionSwitchConnect_frm (sub_partsMask rfl) (Frm.refl _ s)
  case hibEntryDone => exact execHibEntryDone_frm (sub_partsMask rfl) (Frm.refl _ s)
  case refclkLoss => exact execRefclkLoss_frm (sub_partsMask rfl) (Frm.refl _ s)
  case pllUnlock => exact execPllUnlock_frm (sub_partsMask rfl) (Frm.refl _ s)
  case flashEraseDone => exact execFlashEraseDone_frm (sub_partsMask rfl) (Frm.refl _ s)
  case sbMalformedFrame => exact execSbMalformedFrame_frm (sub_partsMask rfl) (Frm.refl _ s)
  case reservedTypeFrame => exact execReservedTypeFrame_frm (sub_partsMask rfl) (Frm.refl _ s)
  case compressionJobDone => exact execCompressionJobDone_frm (sub_partsMask rfl) (Frm.refl _ s)
  case injectionDurationEnd => exact execInjectionDurationEnd_frm (sub_partsMask rfl) (Frm.refl _ s)
  case pcieLinkUp => exact execPcieLinkUp_frm (sub_partsMask rfl) (Frm.refl _ s)
  case busMasterEnable => exact execBusMasterEnable_frm (sub_partsMask rfl) (Frm.refl _ s)

/-! ### The invariant along a step -/

/-- Every command has a next state that keeps the invariant, the one-time-programmable memory and the queue. -/
theorem exec_good (c : Instr) (h : Good O Q s) : OutGood O Q (exec c s) := by
  cases c with
  | por => exact execPor_good h
  | warm _ => exact execWarm_good h
  | vaultReset _ => exact execVaultReset_good h
  | startupStepEnd _ => exact execStartupStepEnd_good h
  | supplyTimeout => exact execSupplyTimeout_good h
  | supplyRetry => exact execSupplyRetry_good h
  | stepOverrun => exact execStepOverrun_good h
  | roleResolution _ => exact execRoleResolution_good h
  | strobeEdge _ _ => exact execStrobeEdge_good h
  | strobeEvent _ _ => exact execStrobeEvent_good h
  | eventStrobeEdge _ _ => exact execEventStrobeEdge_good h
  | starved _ => exact execStarved_good h
  | conversionDone _ _ _ _ => exact execConversionDone_good h
  | frameReady _ => exact execFrameReady_good h
  | mainsCrossingTimeout => exact execMainsCrossingTimeout_good h
  | mainsAccept => exact execMainsAccept_good h
  | mainsStateTimer => exact execMainsStateTimer_good h
  | mainsWeightApply _ => exact execMainsWeightApply_good h
  | triggerOutEnd => exact execTriggerOutEnd_good h
  | triggerInEdge _ _ => exact execTriggerInEdge_good h
  | captureWindowEnd _ => exact execCaptureWindowEnd_good h
  | captureCopyDone _ => exact execCaptureCopyDone_good h
  | packetMaxAge _ => exact execPacketMaxAge_good h
  | gapRecordWrite _ => exact execGapRecordWrite_good h
  | packetCompressed _ _ => exact execPacketCompressed_good h
  | cmpBypass _ => exact execCmpBypass_good h
  | packetSigned _ => exact execPacketSigned_good h
  | packetDmaDone _ => exact execPacketDmaDone_good h
  | statsIntervalEnd => exact execStatsIntervalEnd_good h
  | protectionOpen _ _ => exact execProtectionOpen_good h
  | protectionClose _ => exact execProtectionClose_good h
  | pulseStart _ _ => exact execPulseStart_good h
  | polarityCheck _ _ => exact execPolarityCheck_good h
  | inrushEnd _ => exact execInrushEnd_good h
  | pulseEnd _ _ => exact execPulseEnd_good h
  | shortDetect _ => exact execShortDetect_good h
  | retryElapsed _ => exact execRetryElapsed_good h
  | openSenseTestEnd _ _ _ _ => exact execOpenSenseTestEnd_good h
  | pumpReady => exact execPumpReady_good h
  | pumpSagTimeout => exact execPumpSagTimeout_good h
  | seizeAssert => exact execSeizeAssert_good h
  | seizeRelease => exact execSeizeRelease_good h
  | shortSeenRearm _ => exact execShortSeenRearm_good h
  | reversedSeenRearm _ => exact execReversedSeenRearm_good h
  | owTestStart => exact execOwTestStart_good h
  | owTestEnd _ => exact execOwTestEnd_good h
  | nudge _ => exact execNudge_good h
  | dbPoll => exact execDbPoll_good h
  | doorbellFetch _ => exact execDoorbellFetch_good h
  | descriptorFetch _ _ => exact execDescriptorFetch_good h
  | cqModerationTimer _ => exact execCqModerationTimer_good h
  | engineHoldTimeout _ => exact execEngineHoldTimeout_good h
  | sqEnable _ _ => exact execSqEnable_good h
  | sqDisable _ => exact execSqDisable_good h
  | cqEnable _ _ => exact execCqEnable_good h
  | cqDisable _ => exact execCqDisable_good h
  | pcieConventionalReset => exact execPcieConventionalReset_good h
  | nop _ => exact execNop_good h
  | fence _ => exact execFence_good h
  | cfgBegin _ => exact execCfgBegin_good h
  | cfgWrite _ => exact execCfgWrite_good h
  | cfgCommit _ _ => exact execCfgCommit_good h
  | cfgRollback _ => exact execCfgRollback_good h
  | cfgTxnTimeout => exact execCfgTxnTimeout_good h
  | heldCommitValidate _ _ => exact execHeldCommitValidate_good h
  | cfgFlip _ => exact execCfgFlip_good h
  | heldRestart _ => exact execHeldRestart_good h
  | liveBankEcc => exact execLiveBankEcc_good h
  | cfgStoreDone _ => exact execCfgStoreDone_good h
  | streamBuf _ => exact execStreamBuf_good h
  | captureArm _ => exact execCaptureArm_good h
  | captureRead _ => exact execCaptureRead_good h
  | statsRead _ => exact execStatsRead_good h
  | compress _ => exact execCompress_good h
  | decompress _ => exact execDecompress_good h
  | timePulse _ => exact execTimePulse_good h
  | timePulseRise _ => exact execTimePulseRise_good h
  | timePulseFall _ => exact execTimePulseFall_good h
  | fwStage _ => exact execFwStage_good h
  | fwActivate _ => exact execFwActivate_good h
  | fwConfirm _ => exact execFwConfirm_good h
  | fwAutoConfirm => exact execFwAutoConfirm_good h
  | fwConfirmLimit => exact execFwConfirmLimit_good h
  | signReq _ => exact execSignReq_good h
  | attest _ => exact execAttest_good h
  | vaultCmdStatus _ => exact execVaultCmdStatus_good h
  | vaultCmdReadRecords _ => exact execVaultCmdReadRecords_good h
  | vaultCmdAck _ => exact execVaultCmdAck_good h
  | vaultCmdReadAudit _ => exact execVaultCmdReadAudit_good h
  | vaultCmdAuth _ => exact execVaultCmdAuth_good h
  | vaultCmdReset _ => exact execVaultCmdReset_good h
  | twinCmdStatus _ => exact execTwinCmdStatus_good h
  | twinCmdSwap _ => exact execTwinCmdSwap_good h
  | twinCmdTakeover _ => exact execTwinCmdTakeover_good h
  | twinCmdReleaseSeize _ => exact execTwinCmdReleaseSeize_good h
  | twinCmdResume _ => exact execTwinCmdResume_good h
  | twinCmdResync _ => exact execTwinCmdResync_good h
  | injectCancel _ => exact execInjectCancel_good h
  | injectDrop _ => exact execInjectDrop_good h
  | injectCorrupt _ => exact execInjectCorrupt_good h
  | injectReorder _ => exact execInjectReorder_good h
  | injectTag _ => exact execInjectTag_good h
  | injectHeader _ => exact execInjectHeader_good h
  | injectSquelch _ => exact execInjectSquelch_good h
  | injectExcShort _ => exact execInjectExcShort_good h
  | injectExcOpen _ => exact execInjectExcOpen_good h
  | injectExcReversed _ => exact execInjectExcReversed_good h
  | injectExcSenseOpen _ => exact execInjectExcSenseOpen_good h
  | injectAinOpen _ => exact execInjectAinOpen_good h
  | injectAinOvervolt _ => exact execInjectAinOvervolt_good h
  | injectCnvRef _ => exact execInjectCnvRef_good h
  | injectCnvSupply _ => exact execInjectCnvSupply_good h
  | injectCnvTemp _ => exact execInjectCnvTemp_good h
  | injectCnvXchk _ => exact execInjectCnvXchk_good h
  | injectCnvTimeout _ => exact execInjectCnvTimeout_good h
  | injectMemCorrectable _ => exact execInjectMemCorrectable_good h
  | injectMemUncorrectable _ => exact execInjectMemUncorrectable_good h
  | injectHostDmaError _ => exact execInjectHostDmaError_good h
  | injectHostPostingHeld _ => exact execInjectHostPostingHeld_good h
  | injectEngineWatchdog _ => exact execInjectEngineWatchdog_good h
  | injectFireflyTheta _ => exact execInjectFireflyTheta_good h
  | injectFireflyInvalid _ => exact execInjectFireflyInvalid_good h
  | injectTwinSum _ => exact execInjectTwinSum_good h
  | injectTwinAliveStop _ => exact execInjectTwinAliveStop_good h
  | injectTwinHealthWithheld _ => exact execInjectTwinHealthWithheld_good h
  | injectPumpSag _ => exact execInjectPumpSag_good h
  | injectFatal _ => exact execInjectFatal_good h
  | syncInterval => exact execSyncInterval_good h
  | sync _ _ => exact execSync_good h
  | delayReq _ _ => exact execDelayReq_good h
  | delayResp _ _ => exact execDelayResp_good h
  | exchangeTimeout _ => exact execExchangeTimeout_good h
  | parentTimeout => exact execParentTimeout_good h
  | noParent => exact execNoParent_good h
  | ppsEdge => exact execPpsEdge_good h
  | ppsTimeout => exact execPpsTimeout_good h
  | ffSetGo _ => exact execFfSetGo_good h
  | ffNowRead _ => exact execFfNowRead_good h
  | txtsPop _ => exact execTxtsPop_good h
  | frameTxEnd _ => exact execFrameTxEnd_good h
  | frameRejected _ _ => exact execFrameRejected_good h
  | ack _ _ => exact execAck_good h
  | nak _ _ => exact execNak_good h
  | replayTimeout _ => exact execReplayTimeout_good h
  | ident _ _ _ => exact execIdent_good h
  | ratePropose _ _ => exact execRatePropose_good h
  | rateAccept _ _ => exact execRateAccept_good h
  | ratePass _ => exact execRatePass_good h
  | rateFail _ => exact execRateFail_good h
  | test _ _ => exact execTest_good h
  | soakEnd _ => exact execSoakEnd_good h
  | keyInit _ _ => exact execKeyInit_good h
  | keyResp _ _ => exact execKeyResp_good h
  | keyConfirm _ _ => exact execKeyConfirm_good h
  | keyRenewal _ => exact execKeyRenewal_good h
  | lineTrigger _ _ => exact execLineTrigger_good h
  | mgmt _ => exact execMgmt_good h
  | detectDone _ => exact execDetectDone_good h
  | clockLockDone _ => exact execClockLockDone_good h
  | eqTuneDone _ _ _ => exact execEqTuneDone_good h
  | blockLockDone _ => exact execBlockLockDone_good h
  | deskewDone _ _ _ _ => exact execDeskewDone_good h
  | linkStateTimeout _ => exact execLinkStateTimeout_good h
  | trainingResend _ => exact execTrainingResend_good h
  | faultRetry _ => exact execFaultRetry_good h
  | los _ => exact execLos_good h
  | clockUnlock _ => exact execClockUnlock_good h
  | blockUnlock _ => exact execBlockUnlock_good h
  | deskewLost _ => exact execDeskewLost_good h
  | hiBer _ _ => exact execHiBer_good h
  | loadRetrain _ => exact execLoadRetrain_good h
  | retrain _ => exact execRetrain_good h
  | chirpRecognised _ => exact execChirpRecognised_good h
  | chirpSend _ => exact execChirpSend_good h
  | twinAliveToggle => exact execTwinAliveToggle_good h
  | twinAliveEdge => exact execTwinAliveEdge_good h
  | activeLost => exact execActiveLost_good h
  | digest _ => exact execDigest_good h
  | digestMissing _ _ => exact execDigestMissing_good h
  | healthSend => exact execHealthSend_good h
  | health _ => exact execHealth_good h
  | dualActive => exact execDualActive_good h
  | streamSync _ => exact execStreamSync_good h
  | ackWaitTimeout => exact execAckWaitTimeout_good h
  | mainsFrame _ => exact execMainsFrame_good h
  | cfgData _ _ => exact execCfgData_good h
  | cfgCtrlReady _ => exact execCfgCtrlReady_good h
  | cfgCtrlArm _ => exact execCfgCtrlArm_good h
  | cfgReadyTimeout => exact execCfgReadyTimeout_good h
  | swapExecute => exact execSwapExecute_good h
  | vaultSync _ _ => exact execVaultSync_good h
  | sealSwitchChange _ => exact execSealSwitchChange_good h
  | weightRecordIssue => exact execWeightRecordIssue_good h
  | alibiStoreWrite => exact execAlibiStoreWrite_good h
  | vaultWatchdog => exact execVaultWatchdog_good h
  | claim _ => exact execClaim_good h
  | transfer _ => exact execTransfer_good h
  | release _ => exact execRelease_good h
  | setSbKey _ => exact execSetSbKey_good h
  | setMetrologyKey _ => exact execSetMetrologyKey_good h
  | endorse _ => exact execEndorse_good h
  | setPolicy _ => exact execSetPolicy_good h
  | unlockInject _ => exact execUnlockInject_good h
  | lockInject _ => exact execLockInject_good h
  | unlockDebug _ => exact execUnlockDebug_good h
  | backoffEnd => exact execBackoffEnd_good h
  | hibernate _ => exact execHibernate_good h
  | wake => exact execWake_good h
  | wakeTimer => exact execWakeTimer_good h
  | wakeGpio _ => exact execWakeGpio_good h
  | perstDeassert => exact execPerstDeassert_good h
  | hibSupplyTimeout => exact execHibSupplyTimeout_good h
  | burstEnd => exact execBurstEnd_good h
  | pllRestart => exact execPllRestart_good h
  | sbNop _ => exact execSbNop_good h
  | sbRead _ => exact execSbRead_good h
  | sbWrite _ => exact execSbWrite_good h
  | sbDesc _ => exact execSbDesc_good h
  | sbSvreq _ => exact execSbSvreq_good h
  | flashProgram _ _ => exact execFlashProgram_good h
  | flashProgramDone _ _ => exact execFlashProgramDone_good h
  | engineWatchdog => exact execEngineWatchdog_good h
  | engineReturn => exact execEngineReturn_good h
  | unitFatal _ => exact execUnitFatal_good h
  | errMsiTimer => exact execErrMsiTimer_good h
  | errlogPop _ => exact execErrlogPop_good h
  | tracePop _ => exact execTracePop_good h
  | streamFlush _ _ => exact execStreamFlush_good h
  | mantisForce _ => exact execMantisForce_good h
  | hubCtrl _ _ => exact execHubCtrl_good h
  | pinOutSet _ => exact execPinOutSet_good h
  | pinOutClr _ => exact execPinOutClr_good h
  | registerWrite _ => exact execRegisterWrite_good h
  | unalignedRead _ => exact execUnalignedRead_good h
  | pinSettle _ _ => exact execPinSettle_good h
  | functionSwitchPark _ => exact execFunctionSwitchPark_good h
  | functionSwitchConnect _ => exact execFunctionSwitchConnect_good h
  | hibEntryDone => exact execHibEntryDone_good h
  | refclkLoss => exact execRefclkLoss_good h
  | pllUnlock _ => exact execPllUnlock_good h
  | flashEraseDone _ _ _ => exact execFlashEraseDone_good h
  | sbMalformedFrame _ => exact execSbMalformedFrame_good h
  | reservedTypeFrame _ => exact execReservedTypeFrame_good h
  | compressionJobDone _ => exact execCompressionJobDone_good h
  | injectionDurationEnd _ => exact execInjectionDurationEnd_good h
  | pcieLinkUp => exact execPcieLinkUp_good h
  | busMasterEnable _ => exact execBusMasterEnable_good h

/-- A step takes one command off the queue, if one waits, and keeps the invariant and the one-time-programmable memory. -/
theorem step_good (h : Good O Q s) : OutGood O Q.tail (step s) := by
  have hqueue := h.pending
  unfold step
  split
  next c rest hfront =>
    have hrest : Q.tail = rest := by rw [← hqueue, hfront, List.tail_cons]
    exact exec_good c { h with pending := hrest.symm }
  next hidle =>
    have hnone : Q.tail = Q := by rw [← hqueue, hidle, List.tail_nil]
    rw [hnone]
    exact outGood_next (State.hibWatch_good (good_mk h rfl rfl rfl rfl))

/-! ### The statements -/

/-- Settles O5: every command's meaning answers a next state within the set of its parts (exec_frm). -/
theorem everyCommandRunsWithinItsParts : Obligations.EveryCommandRunsWithinItsParts := fun c _ => (exec_frm c).runs

/-- Settles O4: what one step keeps (step_good), started from the invariant. -/
theorem everyStepKeepsTheInvariant : Obligations.EveryStepKeepsTheInvariant := by
  intro s t hwf hstep
  obtain ⟨u, hnext, hgood⟩ := step_good (good_of_wf hwf)
  obtain rfl : t = u := Host.Outcome.next.inj (hstep.symm.trans hnext)
  exact ⟨hgood.wf, hgood.otp, hgood.pending⟩

/-- Settles O3: the stores of the reset state are empty, its log and trace too, and it has four lanes. -/
theorem resetMeetsTheInvariant : Obligations.ResetMeetsTheInvariant := ⟨by decide, rfl⟩

/-- Settles O1: step on a queue with a command in front. -/
theorem stepRunsTheCommandInFront : Obligations.StepRunsTheCommandInFront := by
  intro c rest s hfront
  unfold step
  rw [hfront]

end Sys2Proof.Machine
end

section
/-! PROOFS. Completions: the slot a completion is written to, the bytes it changes there, its words, and the descriptor that is gone (R298, R299). -/

namespace Sys2Proof.Machine

open Sys2Proof

set_option Elab.async false

variable {O : OtpSt} {Q : List Instr} {s t : State} {q : Nat} {c : Completion}

/-! ### The slot of a completion (R298) -/

/-- The address of the ring's next slot. -/
def State.slotAt (s : State) (q : Nat) : Nat :=
  s.reg64 (Reg.cq q 0) / 4096 * 4096 + 32 * ((s.cqOf q).posted % ringSize (s.reg (Reg.cq q 8)))

/-- The bytes of a completion in the ring's next slot. -/
def State.slotBytes (s : State) (q : Nat) (c : Completion) : List Byte :=
  wordBytes (c.words c.ring (decide ((s.cqOf q).posted / ringSize (s.reg (Reg.cq q 8)) % 2 = 0)))

/-- The completion stands in the ring's next slot, and the ring counts it. -/
def State.slotTaken (s : State) (q : Nat) (c : Completion) : State :=
  (s.hostWrite (s.slotAt q) (s.slotBytes q c)).updCq q (fun x => { x with posted := ((s.cqOf q).posted + 1) % 65536 })

/-- A completion that counts for no moderation changes, beside its slot, the buffers of streams and the overflow bit of the ring alone. -/
theorem State.postOne_uncounted (hcounts : c.counts = false) : Frm 32784 (s.slotTaken q c) (s.postOne q c) := by
  have hm := Sub.refl 32784
  unfold State.postOne
  dsimp only
  rw [if_neg (by simp [hcounts])]
  exact State.doIf_frm (State.releaseBuf_frm (hm.le (by decide)) (Frm.refl _ _)) (State.setBit_frm (hm.le (by decide)) (State.releaseBuf_frm (hm.le (by decide)) (Frm.refl _ _)))

theorem State.hostWrite_cqOf (a : Nat) (bs : List Byte) (r : Nat) : (s.hostWrite a bs).cqOf r = s.cqOf r := rfl

theorem State.postOne_mem (hcounts : c.counts = false) : (s.postOne q c).host.mem = Memory.writeN s.host.mem (s.slotAt q) (s.slotBytes q c) := by
  have hhost : (s.postOne q c).host = (s.slotTaken q c).host := State.postOne_uncounted hcounts .host rfl
  have hslot : (s.slotTaken q c).host = (s.hostWrite (s.slotAt q) (s.slotBytes q c)).host := rfl
  rw [hhost, hslot, State.hostWrite_mem]

theorem State.postOne_cqOf (hcounts : c.counts = false) {r : Nat} : (s.postOne q c).cqOf r = (s.slotTaken q c).cqOf r :=
  congrArg (fun m => Cells.get (fun _ => CqSt.init) m r) (State.postOne_uncounted hcounts .cq rfl)

theorem State.postOne_posted (hcounts : c.counts = false) (h : Good O Q s) : ((s.postOne q c).cqOf q).posted = ((s.cqOf q).posted + 1) % 65536 := by
  rw [State.postOne_cqOf hcounts, State.slotTaken, State.cqOf_updCq_self (State.hostWrite_good h)]

theorem State.postOne_cqOf_other (hcounts : c.counts = false) {r : Nat} (hr : r ≠ q) : (s.postOne q c).cqOf r = s.cqOf r := by
  rw [State.postOne_cqOf hcounts, State.slotTaken, State.cqOf_updCq_other hr, State.hostWrite_cqOf]

/-! ### The words of a completion (R298) -/

theorem wordBytes_length (ws : List W32) : (wordBytes ws).length = 4 * ws.length := by
  induction ws with
  | nil => rfl
  | cons w ws ih =>
    rw [wordBytes, List.flatMap_cons, List.length_append, leBytes_length, ← wordBytes, ih, List.length_cons]
    omega

theorem State.slotBytes_length : (s.slotBytes q c).length = 32 := wordBytes_length _

/-- The phase is bit 0 of a word whose other fields begin higher. -/
theorem getLsbD_zero_at_or {a b x y : Nat} (ha : 0 < a) (hb : 0 < b) (phase : Bool) : (at_ a x ||| at_ b y ||| bitAt 0 phase).getLsbD 0 = phase := by
  have hlow : ∀ {n v : Nat}, 0 < n → (at_ n v).getLsbD 0 = false := fun {n v} hn => by
    rw [at_, BitVec.getLsbD_ofNat, Nat.testBit_mul_two_pow, decide_eq_false (Nat.not_le.mpr hn), Bool.false_and, Bool.and_false]
  rw [BitVec.getLsbD_or, BitVec.getLsbD_or, hlow ha, hlow hb]
  cases phase <;> rfl

/-- A word of two halves as a number. -/
theorem toNat_halves (hi lo : BitVec 16) : (at_ 16 hi.toNat ||| BitVec.ofNat 32 lo.toNat).toNat = 65536 * hi.toNat + lo.toNat := by
  have hh := hi.isLt
  have hl := lo.isLt
  rw [BitVec.toNat_or, at_, BitVec.toNat_ofNat, BitVec.toNat_ofNat, Nat.mod_eq_of_lt (by omega), Nat.mod_eq_of_lt (by omega), Nat.mul_comm]
  exact (Nat.two_pow_add_eq_or_of_lt hl _).symm

theorem field_halves (hi lo : BitVec 16) : field (at_ 16 hi.toNat ||| BitVec.ofNat 32 lo.toNat) 15 0 = lo.toNat ∧ field (at_ 16 hi.toNat ||| BitVec.ofNat 32 lo.toNat) 31 16 = hi.toNat := by
  unfold field
  rw [toNat_halves]
  omega

/-! ### The statement -/

/-- Settles O45: a write lands at its own addresses (Memory.read_writeN), a completion is one such write (postOne_uncounted), and a retirement filters its descriptor out. -/
theorem completionsArePostedOnce : Obligations.CompletionsArePostedOnce := by
  refine ⟨fun s a bs hwf hlen => ?write, fun s q c hwf hq hcounts => ?post, fun c sq phase => ?words, fun s d status resS res => ?retire⟩
  case write =>
    exact ⟨fun i hi => Memory.read_writeN (good_of_wf hwf).mem hlen hi, fun x hx => Memory.read_writeN_outside hx, (State.hostWrite_frm (Sub.refl _) (Frm.refl _ s)).keepsParts (by decide)⟩
  case post =>
    have h := good_of_wf hwf
    have hlen : (s.slotBytes q c).length = 32 := State.slotBytes_length
    have hmem := State.postOne_mem (s := s) (q := q) hcounts
    unfold State.slotAt State.slotBytes at hmem
    unfold State.slotBytes at hlen
    dsimp only
    rw [hmem]
    refine ⟨fun i hi => ?_, fun x hx => Memory.read_writeN_outside (by rwa [hlen]), State.postOne_posted hcounts h, fun r => State.postOne_cqOf_other hcounts⟩
    rw [← hlen] at hi
    exact Memory.read_writeN h.mem (by omega) hi
  case words => exact ⟨wordBytes_length _, getLsbD_zero_at_or (by decide) (by decide) phase, field_halves _ _⟩
  case retire => exact ⟨State.sweepBad_descOf State.retire1_gone, (State.retire_frm (Sub.refl _) (Frm.refl _ s)).keepsParts (by decide)⟩

end Sys2Proof.Machine
end

section
/-! PROOFS. Weighing (R374, R376): the bits of a result's status word, and the mass of a short interval. -/

namespace Sys2Proof.Machine

open Sys2Proof

set_option Elab.async false

/-- A flag of a status word stands exactly where its condition holds. -/
theorem mem_flag {c : Prop} [Decidable c] {n b : Nat} : b ∈ (if c then [n] else []) ↔ c ∧ b = n := by
  split <;> simp [*]

/-- The bits of a result's status word (R376). -/
theorem State.resultOf_status (s : State) (p : Nat) (i : Interval) (tExit : Nat) (epoch : BitVec 16) (interrupted overlong : Bool) (b : Nat) :
    let r := s.resultOf p i tExit epoch interrupted overlong
    let short := i.nets.length - 2 * s.cfgv Fld.vaultPlatformSettle p 0 < s.cfgv Fld.vaultPlatformMinOutputs p 0
    r.status.getLsbD b = true ↔ b < 16 ∧ ((i.sealOpen = true ∧ b = 0) ∨ (r.markedN ≠ 0 ∧ b = 1) ∨ (short ∧ b = 2)
      ∨ (r.mass > (s.cfgv Fld.vaultPlatformMaxMg p 0 : Int) + 9 * s.cfgv Fld.vaultPlatformDMg p 0 ∧ b = 3) ∨ (r.mass < -(20 * s.cfgv Fld.vaultPlatformDMg p 0 : Int) ∧ b = 4)
      ∨ (interrupted = true ∧ b = 5) ∨ (i.unlocked = true ∧ b = 6) ∨ (overlong = true ∧ b = 7)) := by
  unfold State.resultOf
  dsimp only
  simp only [BitVec.getLsbD_ofNat, Bool.and_eq_true, decide_eq_true_eq, testBit_maskOf, List.mem_append, mem_flag, or_assoc]

/-- An interval with too few outputs carries no mass (R374). -/
theorem State.resultOf_short {s : State} {p : Nat} {i : Interval} {tExit : Nat} {epoch : BitVec 16} {interrupted overlong : Bool}
    (h : i.nets.length - 2 * s.cfgv Fld.vaultPlatformSettle p 0 < s.cfgv Fld.vaultPlatformMinOutputs p 0) :
    (s.resultOf p i tExit epoch interrupted overlong).mass = 0 ∧ (s.resultOf p i tExit epoch interrupted overlong).wd = 0 := by
  unfold State.resultOf
  simp [h]

/-- Settles O47: each bit of the status word is read off resultOf_status. -/
theorem weighingResultsCarryTheirStatus : Obligations.WeighingResultsCarryTheirStatus := by
  intro s p i tExit epoch interrupted overlong r
  have hbit := s.resultOf_status p i tExit epoch interrupted overlong
  have hflag : ∀ {b : Nat} {c : Bool}, (r.status.getLsbD b = true ↔ c = true) → r.status.getLsbD b = c := Bool.eq_iff_iff.mpr
  have hshort : r.status.getLsbD 2 = true ↔ i.nets.length - 2 * s.cfgv Fld.vaultPlatformSettle p 0 < s.cfgv Fld.vaultPlatformMinOutputs p 0 := by simpa using hbit 2
  refine ⟨hflag (by simpa using hbit 0), hflag (by simpa using hbit 5), hflag (by simpa using hbit 6), hflag (by simpa using hbit 7), by simpa using hbit 1, hshort,
    fun h => State.resultOf_short (hshort.mp h), rfl, rfl, rfl, fun b hb => Bool.eq_false_iff.mpr (fun h => ?_)⟩
  have := (hbit b).mp h
  omega

end Sys2Proof.Machine
end

section
/-! PROOFS. The resumption of a stream behind what the host has (R356). -/

namespace Sys2Proof.Machine

open Sys2Proof

set_option Elab.async false

variable {O : OtpSt} {Q : List Instr} {s : State} {x t : Nat} {seq : W32} {ps : List Packet}

/-- A packet of data whose frames all lie behind a time; a gap record may stand anywhere. -/
def Packet.Behind (t : Nat) (p : Packet) : Prop := p.gap = none → ∀ f ∈ p.frames, t < f.t

/-- What remains of a packet behind a time lies behind it. -/
theorem Packet.after_behind {p q : Packet} (h : p.after t = some q) : q.Behind t := by
  intro hdata f hf
  unfold Packet.after at h
  split at h
  next g hgap =>
    split at h
    · cases h
    · cases h
      rw [hgap] at hdata
      cases hdata
  next =>
    dsimp only at h
    split at h
    · cases h
    · split at h
      next hall =>
        cases h
        simpa using List.length_filter_eq_length_iff.mp hall f hf
      next =>
        cases h
        simpa using (List.mem_filter.mp hf).2

theorem reseq_behind (h : ∀ p ∈ ps, p.Behind t) : ∀ p ∈ reseq seq ps, p.Behind t := by
  induction ps generalizing seq with
  | nil => simp [reseq]
  | cons p ps ih =>
    obtain ⟨hp, hps⟩ := List.forall_mem_cons.mp h
    refine List.forall_mem_cons.mpr ⟨?_, ih hps⟩
    split <;> exact hp

/-- Numbering begins with the number it is given. -/
theorem reseq_head {p : Packet} (h : (reseq seq ps).head? = some p) : p.seq = seq := by
  cases ps with
  | nil => cases h
  | cons q qs =>
    rw [reseq, List.head?_cons, Option.some.injEq] at h
    subst h
    split
    · assumption
    · rfl

theorem modifyHead_behind {f : Packet → Packet} (hf : ∀ p, p.Behind t → (f p).Behind t) (h : ∀ p ∈ ps, p.Behind t) : ∀ p ∈ ps.modifyHead f, p.Behind t := by
  cases ps with
  | nil => exact h
  | cons p ps =>
    obtain ⟨hp, hps⟩ := List.forall_mem_cons.mp h
    exact List.forall_mem_cons.mpr ⟨hf p hp, hps⟩

/-- What a resumption leaves of a stream: packets behind the time, numbered from the next SEQ on. -/
structure ResumedAt (seq : W32) (t : Nat) (st : StreamSt) : Prop where
  behind : ∀ p ∈ st.queue, p.Behind t
  first : ∀ p, st.queue.head? = some p → p.seq = seq + 1
  opened : ∀ o, st.openPkt = some o → ∀ f ∈ o.frames, t < f.t
  next : st.seqNext = seq + 1 + BitVec.ofNat 32 st.queue.length

/-- A resumption changes its own stream alone. -/
theorem State.resumeStream_strm (s : State) (x : Nat) (seq : W32) (t : Nat) : ∃ st, ResumedAt seq t st ∧ (s.resumeStream x seq t).strm = (s.setStrm x st).strm := by
  unfold State.resumeStream
  extract_lets st c all o first n next l head stop g gap recs all' q losses s'
  have hall : ∀ p ∈ all, p.Behind t := fun p hp => by
    obtain ⟨p', -, hp'⟩ := List.mem_filterMap.mp hp
    exact Packet.after_behind hp'
  have hall' : ∀ p ∈ all', p.Behind t := by
    unfold all'
    split
    · exact modifyHead_behind (fun p hp hdata => hp (Option.map_eq_none_iff.mp hdata)) hall
    · exact hall
  have hrecs : ∀ p ∈ recs, p.Behind t := by
    unfold recs
    split
    · simp [Packet.Behind, State.gapPacket]
    · simp
  have hq : ∀ p ∈ q, p.Behind t := reseq_behind (List.forall_mem_append.mpr ⟨hrecs, hall'⟩)
  have hopen : ∀ p, o = some p → ∀ f ∈ p.frames, t < f.t := by
    intro p hp f hf
    obtain ⟨p', -, hp'⟩ := Option.bind_eq_some_iff.mp hp
    dsimp only at hp'
    split at hp'
    · cases hp'
    · cases hp'
      simpa using (List.mem_filter.mp hf).2
  refine ⟨{ st with queue := q, closing := [], openPkt := o, seqNext := seq + 1 + BitVec.ofNat 32 q.length, placed := (q.getLast?.bind Packet.tailOf), losses := losses },
    ⟨hq, fun p => reseq_head, hopen, rfl⟩, ?_⟩
  have hcounted : ∀ ps : List Packet, (match ps with | p :: _ => s'.countGap x p g | [] => s').strm = s'.strm := by
    rintro (- | ⟨p, -⟩)
    · rfl
    · exact State.countGap_frm (Sub.refl _) (Frm.refl _ s') .strm rfl
  split
  · exact hcounted q
  · rfl

/-- Settles O40: the stream is one that ResumedAt describes, and the store of streams changes at its own index. -/
theorem resumeSendsNoFrameTwice : Obligations.ResumeSendsNoFrameTwice := by
  intro s x seq t hwf
  obtain ⟨st, hst, hstrm⟩ := s.resumeStream_strm x seq t
  have hof : ∀ y, (s.resumeStream x seq t).strmOf y = (s.setStrm x st).strmOf y := fun y => congrArg (fun m => Cells.get (fun _ => StreamSt.init) m y) hstrm
  rw [hof x, State.strmOf_setStrm_self (good_of_wf hwf)]
  exact ⟨hst.behind, hst.first, hst.opened, hst.next, fun y hy => (hof y).trans (State.strmOf_setStrm_other hy)⟩

end Sys2Proof.Machine
end

section
/-! PROOFS. What streams that settle, close and pass to a new active leave of the twin's record (R151, R353, R355, R357). -/

namespace Sys2Proof.Machine

open Sys2Proof

set_option Elab.async false

variable {s t u : State} {m x : Nat}

/-- The twin's record but for what a sent frame notes and the completions that await an ACK. -/
def TwinStands (s t : State) : Prop := t.twin = { s.twin with mine := t.twin.mine, resync := t.twin.resync, awaiting := t.twin.awaiting }

theorem TwinStands.refl (s : State) : TwinStands s s := rfl

theorem TwinStands.trans (h : TwinStands s t) (g : TwinStands t u) : TwinStands s u :=
  Eq.trans g (congrArg (fun w : TwinSt => { w with mine := u.twin.mine, resync := u.twin.resync, awaiting := u.twin.awaiting }) h)

/-- What is kept of the record, field by field. -/
theorem TwinStands.fields (h : TwinStands s t) : t.twin.role = s.twin.role ∧ t.twin.seizeOut = s.twin.seizeOut ∧ t.twin.reasons = s.twin.reasons ∧ t.twin.swapId = s.twin.swapId ∧ t.twin.swapAsked = s.twin.swapAsked := by
  rw [h]
  exact ⟨rfl, rfl, rfl, rfl, rfl⟩

theorem TwinStands.tells (h : TwinStands s t) (g : TellsHealth t u) : TwinStands s u := by
  refine h.trans ?_
  unfold TwinStands
  rw [g]

theorem TwinStands.frm (h : TwinStands s t) (hframe : Frm m t u) (hm : m.testBit 33 = false) : TwinStands s u := h.tells (hframe.tellsHealth hm)

theorem TwinStands.ite {c : Prop} [Decidable c] (ht : TwinStands s t) (hu : TwinStands s u) : TwinStands s (if c then t else u) := by
  split <;> assumption

theorem TwinStands.doIf {c : Bool} {f : State → State} (h : TwinStands s t) (hf : TwinStands s (f t)) : TwinStands s (t.doIf c f) := hf.ite h

theorem TwinStands.each {α : Type} {xs : List α} {f : α → State → State} (hf : ∀ x t, TwinStands s t → TwinStands s (f x t)) (h : TwinStands s t) : TwinStands s (t.each xs f) := by
  induction xs generalizing t with
  | nil => exact h
  | cons x xs ih => exact ih (hf x t h)

theorem TwinStands.strm {v : StreamSt} (h : TwinStands s t) : TwinStands s (t.setStrm x v) := h.frm (State.setStrm_frm (Sub.refl _) (Frm.refl _ t)) (by decide)

theorem TwinStands.updStrm {f : StreamSt → StreamSt} (h : TwinStands s t) : TwinStands s (t.updStrm x f) := h.strm

theorem TwinStands.setBit {a b : Nat} (h : TwinStands s t) : TwinStands s (t.setBit a b) := h.frm (State.setBit_frm (Sub.refl _) (Frm.refl _ t)) (by decide)

theorem TwinStands.retire {d : Desc} {status resS : Nat} {res : List W32} (h : TwinStands s t) : TwinStands s (t.retire d status resS res) :=
  h.frm (State.retire_frm (Sub.refl _) (Frm.refl _ t)) (by decide)

/-! ### Streams settle (R147, R151, R353) -/

theorem State.sendOn_tellsHealth (s : State) (p : Nat) (cls : TxClass) (body : TxBody) : TellsHealth s (s.sendOn p cls body) := s.queueFrame_tellsHealth p cls body false 0

theorem TwinStands.report {e : SyncEntry} (h : TwinStands s t) : TwinStands s (t.report e) := (h.tells (t.sendOn_tellsHealth _ _ _)).ite h

theorem TwinStands.countGap {k : Packet} {i : GapInfo} (h : TwinStands s t) : TwinStands s (t.countGap x k i) := by
  have hcounted := h.frm (State.bump_frm (Sub.refl _) (Frm.refl _ t) (a := Reg.stream x 0x10)) (by decide)
  exact (hcounted.frm (State.setReg64_frm (Sub.refl _) (Frm.refl _ _)) (by decide)).setBit.report

theorem TwinStands.memoryGap {k : Packet} {rest : List Packet} {detail : Nat} (h : TwinStands s t) : TwinStands s (t.memoryGap x k rest detail) := by
  unfold State.memoryGap
  dsimp only
  split
  · exact h.setBit.strm.countGap
  · exact h.setBit.strm

theorem TwinStands.placeHead (h : TwinStands s t) : TwinStands s (t.placeHead x) := by
  have hwritten : ∀ region, TwinStands s (t.memWrite region) := fun region => h.frm (State.memWrite_frm (Sub.refl _) (Frm.refl _ t)) (by decide)
  have hflagged : ∀ (c : Bool) (f : State → State) (v : State), (∀ w, TwinStands s w → TwinStands s (f w)) → TwinStands s v → TwinStands s (v.underInj c f) := by
    intro c f v hf hv
    unfold State.underInj
    split
    · exact hf _ hv
    · exact hf _ hv
  unfold State.placeHead
  dsimp only
  split
  · exact h
  · refine h.ite ?_
    split
    · exact h.strm.countGap
    · split
      · exact h.frm (State.overflowAt_frm (Sub.refl _) (Frm.refl _ t)) (by decide)
      · refine TwinStands.ite (hflagged _ _ _ (fun w hw => hw.memoryGap) (hwritten _)) (TwinStands.report (TwinStands.doIf (hwritten _).strm ?_))
        exact (hwritten _).strm.setBit.frm (State.hiveFit_frm (Sub.refl _) (Frm.refl _ _)) (by decide)

theorem TwinStands.placeAll {f : Nat} : ∀ {t : State} {x : Nat}, TwinStands s t → TwinStands s (State.placeAll f t x) := by
  induction f with
  | zero => exact fun h => h
  | succ f ih =>
    intro t x h
    unfold State.placeAll
    split
    · exact (ih h.placeHead).ite h
    · exact h

theorem TwinStands.retireBuf {b : StreamBuf} (h : TwinStands s t) : TwinStands s (t.retireBuf x b) := by
  unfold State.retireBuf
  split
  · exact h
  · have hdone : TwinStands s (t.updStrm x (fun st => { st.updBuf b.id (fun c => { c with done := true }) with retired := some ((b.held.getLast?.map (fun p => p.seq)).getD b.first) })) := h.updStrm
    exact TwinStands.retire (TwinStands.ite (TwinStands.report (hdone.trans rfl)) hdone)

theorem TwinStands.bufSettle {f : Nat} : ∀ {t : State} {x : Nat}, TwinStands s t → TwinStands s (State.bufSettle f t x) := by
  induction f with
  | zero => exact fun h => h
  | succ f ih =>
    intro t x h
    have hempty : ∀ b status, TwinStands s (t.retireEmpty x b status) := fun b status => h.frm (State.retireEmpty_frm (Sub.refl _) (Frm.refl _ t)) (by decide)
    unfold State.bufSettle
    split
    · exact (ih ((hempty _ _).ite h.retireBuf)).ite h
    · exact h

theorem TwinStands.streamSettle (h : TwinStands s t) : TwinStands s (t.streamSettle x) := (h.frm (State.assignAll_frm (Sub.refl _) (Frm.refl _ t)) (by decide)).placeAll.bufSettle

theorem TwinStands.closePacket (h : TwinStands s t) : TwinStands s (t.closePacket x) := by
  unfold State.closePacket
  dsimp only
  split
  · exact h
  · exact h.ite (h.strm.ite h.strm.streamSettle)

theorem TwinStands.closeStreams {xs : List Nat} (h : TwinStands s t) : TwinStands s (t.closeStreams xs) := h.each (fun _ _ hv => hv.updStrm.ite hv.closePacket)

/-! ### Streams pass to the new active (R355 to R357) -/

theorem TwinStands.writeGaps {k : Nat} {at_ : Tq} (h : TwinStands s t) : TwinStands s (t.writeGaps x k at_) :=
  TwinStands.streamSettle (TwinStands.updStrm (h.each (fun _ v hv => hv.frm (State.pushGap_frm (Sub.refl _) (Frm.refl _ v)) (by decide))))

theorem TwinStands.appendFrame {k : Nat} {edge : Tq} {epoch : BitVec 16} {samples : List (Int × Marks)} (h : TwinStands s t) : TwinStands s (t.appendFrame x k edge epoch samples) := by
  have hput : ∀ f v, TwinStands s v → TwinStands s ((v.putFrame x epoch f).closeIfFull x) := fun f v hv =>
    TwinStands.ite (hv.frm (State.putFrame_frm (Sub.refl _) (Frm.refl _ v)) (by decide)).closePacket (hv.frm (State.putFrame_frm (Sub.refl _) (Frm.refl _ v)) (by decide))
  have hopen := h.updStrm (x := x) (f := fun st => { st with skipTo := none })
  have hcut : ∀ c : Bool, TwinStands s (if c then (t.updStrm x (fun st => { st with skipTo := none })).closePacket x else t.updStrm x (fun st => { st with skipTo := none })) := fun c => hopen.closePacket.ite hopen
  have hheld : ∀ f, TwinStands s ((t.updStrm x (fun st => { st with skipTo := none })).holdFrame x epoch f) := fun f => hopen.frm (State.holdFrame_frm (Sub.refl _) (Frm.refl _ _)) (by decide)
  unfold State.appendFrame
  dsimp only
  exact h.ite (h.updStrm.ite (h.ite ((hheld _).ite ((hcut _).ite (hput _ _ ((hcut _).ite (hcut _).writeGaps))))))

theorem TwinStands.reAppend {fs : List PktFrame} : ∀ {pend : List LossSt} {t : State}, TwinStands s t → TwinStands s (reAppend x fs pend t) := by
  induction fs with
  | nil => exact fun h => h.updStrm
  | cons f fs ih => exact fun h => ih h.updStrm.appendFrame

theorem TwinStands.reAppendRuns {ps : List Packet} : ∀ {pend : List LossSt} {t : State}, TwinStands s t → TwinStands s (reAppendRuns x ps pend t) := by
  induction ps with
  | nil => exact fun h => h.reAppend
  | cons k ps ih => exact fun h => ih ((h.updStrm.reAppend).ite h.updStrm.reAppend.closePacket)

theorem TwinStands.adoptStream (h : TwinStands s t) : TwinStands s (t.adoptStream x) := by
  unfold State.adoptStream
  dsimp only
  exact (TwinStands.ite h.strm.reAppendRuns.closePacket h.strm.reAppendRuns).updStrm.streamSettle

theorem TwinStands.swapStream (h : TwinStands s t) : TwinStands s (t.swapStream x) := by
  unfold State.swapStream
  split
  · exact h.updStrm
  · exact h.adoptStream

end Sys2Proof.Machine
end

section
/-! PROOFS. What posting completions leaves of the register window (R298, R300). -/

namespace Sys2Proof.Machine

open Sys2Proof

set_option Elab.async false

variable {O : OtpSt} {Q : List Instr} {s t u : State} {m : Nat}

/-- A register that posting writes nothing but set bits into: neither the pending bits of MSI-X nor the side-band's copy of a completion. -/
def unposted (a : Nat) : Prop := a ≠ 0x6800 ∧ a ≠ 0x6804 ∧ (a < 0x74040 ∨ 0x74060 ≤ a)

/-- t keeps the invariant and every bit that is set in the registers posting does not own. -/
structure BitsStay (O : OtpSt) (Q : List Instr) (s t : State) : Prop where
  good : Good O Q t
  bits : ∀ a b, unposted a → s.bit a b = true → t.bit a b = true

theorem BitsStay.refl (h : Good O Q s) : BitsStay O Q s s := ⟨h, fun _ _ _ hset => hset⟩

theorem BitsStay.trans (h : BitsStay O Q s t) (g : BitsStay O Q t u) : BitsStay O Q s u := ⟨g.good, fun a b ha hset => g.bits a b ha (h.bits a b ha hset)⟩

/-- What leaves the register window alone. -/
theorem BitsStay.same (h : BitsStay O Q s t) (hgood : Good O Q u) (hregs : u.regs = t.regs) : BitsStay O Q s u :=
  h.trans ⟨hgood, fun a b _ hset => (congrArg (fun r : Cells W32 => (Cells.get resetWord r a).getLsbD b) hregs).trans hset⟩

theorem BitsStay.frm (h : BitsStay O Q s t) (hgood : Good O Q u) (hframe : Frm m t u) (hm : m.testBit 4 = false) : BitsStay O Q s u := h.same hgood (hframe .regs hm)

theorem BitsStay.setBit {a b : Nat} (h : BitsStay O Q s t) : BitsStay O Q s (t.setBit a b) := h.trans ⟨State.setBit_good h.good, fun _ _ _ hset => State.setBit_keepsBit h.good hset⟩

theorem BitsStay.ite {c : Prop} [Decidable c] (ht : BitsStay O Q s t) (hu : BitsStay O Q s u) : BitsStay O Q s (if c then t else u) := by
  split <;> assumption

theorem BitsStay.setRegs {a : Nat} {ws : List W32} (h : BitsStay O Q s t) (hlow : 0x74040 ≤ a) (hhigh : a + 4 * ws.length ≤ 0x74060) : BitsStay O Q s (t.setRegs a ws) := by
  induction ws generalizing t a with
  | nil => exact h
  | cons w ws ih =>
    rw [List.length_cons] at hhigh
    refine ih (h.trans ⟨State.setReg_good h.good, fun r b hr hset => ?_⟩) (by omega) (by omega)
    obtain ⟨-, -, hside⟩ := hr
    exact (congrArg (fun w : W32 => w.getLsbD b) (State.reg_setReg_other (by omega))).trans hset

theorem BitsStay.hostWrite {a : Nat} {bs : List Byte} (h : BitsStay O Q s t) : BitsStay O Q s (t.hostWrite a bs) := h.same (State.hostWrite_good h.good) rfl

theorem BitsStay.waiting {ws : List (Nat × Completion)} (h : BitsStay O Q s t) : BitsStay O Q s { t with host := { t.host with waiting := ws } } :=
  h.same (good_mk h.good rfl rfl rfl rfl) rfl

theorem BitsStay.msix {v : Nat} (h : BitsStay O Q s t) (hv : v < 64) : BitsStay O Q s (t.msix v) := by
  unfold State.msix
  dsimp only
  split
  · have hwritten := h.hostWrite (a := t.reg64 (0x6000 + 16 * v)) (bs := leBytes 4 (t.reg (0x6000 + 16 * v + 8)).toNat)
    refine hwritten.trans ⟨State.clrBit_good hwritten.good, fun a b ha hset => ?_⟩
    obtain ⟨h0, h1, -⟩ := ha
    exact (congrArg (fun w : W32 => w.getLsbD b) (State.clrBit_reg (by omega))).trans hset
  · exact h.setBit

theorem BitsStay.postOne {q : Nat} {c : Completion} (h : BitsStay O Q s t) : BitsStay O Q s (t.postOne q c) := by
  have hslot : BitsStay O Q s (t.slotTaken q c) := h.hostWrite.frm (State.updCq_good h.hostWrite.good) (State.updCq_frm (Sub.refl _) (Frm.refl _ _)) (by decide)
  have hfreed := hslot.frm (State.releaseBuf_good hslot.good (id := c.id)) (State.releaseBuf_frm (Sub.refl _) (Frm.refl _ _)) (by decide)
  have hfull : ∀ b : Bool, BitsStay O Q s (((t.slotTaken q c).releaseBuf c.id).doIf b (fun u => u.setBit (Reg.cq q 12) 2)) := fun b => hfreed.setBit.ite hfreed
  have hcounted : ∀ v, BitsStay O Q s v → BitsStay O Q s (v.cqCount q) := fun v hv => by
    have hset : ∀ k, BitsStay O Q s (v.setCq q k) := fun k => hv.frm (State.setCq_good hv.good) (State.setCq_frm (Sub.refl _) (Frm.refl _ v)) (by decide)
    exact ((hset _).msix (Nat.mod_lt _ (by decide))).ite (hset _)
  exact (hcounted _ (hfull _)).ite (hfull _)

theorem BitsStay.postGo {ws : List (Nat × Completion)} : ∀ {stuck : List Nat} {t : State}, BitsStay O Q s t → BitsStay O Q s (postGo ws stuck t) := by
  induction ws with
  | nil => exact fun h => h
  | cons w ws ih =>
    intro stuck t h
    unfold Machine.postGo
    split
    · exact ih h.postOne
    · exact ih h.waiting

theorem BitsStay.deliver {d : Desc} {c : Completion} (h : BitsStay O Q s t) : BitsStay O Q s (t.deliver d c) := by
  unfold State.deliver
  split
  · exact (h.same (u := { t with sb := { t.sb with descBusy := false } }) (good_mk h.good rfl rfl rfl rfl) rfl).setRegs (le_refl _) (Nat.le_of_eq rfl)
  · exact h.waiting.waiting.postGo

theorem BitsStay.retire1 {d : Desc} {status resS : Nat} {res : List W32} (h : BitsStay O Q s t) : BitsStay O Q s (t.retire1 d status resS res) := by
  have hdrop : BitsStay O Q s (t.dropDesc d.id) := h.same (good_mk h.good rfl rfl rfl rfl) rfl
  exact (hdrop.frm (State.drainCheck_good hdrop.good) (State.drainCheck_frm (Sub.refl _) (Frm.refl _ _)) (by decide)).deliver

/-- A retirement posts its completion and those that waited for it. -/
theorem BitsStay.retire {d : Desc} {status resS : Nat} {res : List W32} (h : BitsStay O Q s t) : BitsStay O Q s (t.retire d status resS res) :=
  List.foldlRecOn (motive := fun v : State => BitsStay O Q s v) _ _ h.retire1 (fun _ hv _ _ => hv.retire1.ite hv)

end Sys2Proof.Machine
end

section
/-! PROOFS. Roles: what taking one leaves of the twin's record and of the outputs (R334, R336, R347), how one is resolved, watched and lost (R337, R354, R451), and takeover and swap (R355, R357). -/

namespace Sys2Proof.Machine

open Sys2Proof

set_option Elab.async false

variable {O : OtpSt} {Q : List Instr} {s t u : State} {m : Nat} {r : Role} {xs : List Nat}

/-! ### A role is taken -/

/-- The twin's record as a role is taken (Table 13-1). -/
def TwinSt.inRole (w : TwinSt) (r : Role) : TwinSt :=
  { w with role := r, aliveOut := w.aliveOut && decide (r = .active), seizeOut := w.seizeOut && decide (r = .active), stuck := w.stuck && decide (r = .active),
           lost := w.lost && decide (r = .active), dualUp := w.dualUp.filter (fun _ => decide (r = .active)) }

/-- The role noted, before the outputs follow it. -/
def State.roleNoted (s : State) (r : Role) : State :=
  let s' := s.doIf (s.twin.role.isStandby != r.isStandby) (fun t => t.each (List.range 32) (fun m u => u.updExc m (fun e => { e with stuckRun := 0 })))
  { s' with twin := s'.twin.inRole r, mantis := { s'.mantis with toutHigh := s'.mantis.toutHigh && !r.isStandby } }

theorem State.setRole_eq (s : State) (r : Role) (xs : List Nat) : s.setRole r xs =
    (((s.roleNoted r).doIf (decide (r = .standbyUnfit ∧ s.twin.role ≠ .standbyUnfit)) (fun t => t.setBit Reg.twinStatus 10)).excRole xs).doIf
      ((s.twin.role.isStandby != r.isStandby || decide (r = .seized)) && decide (r ≠ .solo)) State.giveUpCommit := rfl

theorem State.runsCleared_changes (s : State) (c : Bool) : Frm 2048 s (s.doIf c (fun t => t.each (List.range 32) (fun m u => u.updExc m (fun e => { e with stuckRun := 0 })))) :=
  State.doIf_frm (Frm.refl _ s) (State.each_frm (Frm.refl _ s) (fun _ _ ht => State.updExc_frm (Sub.refl _) ht))

theorem State.roleNoted_twin (s : State) (r : Role) : (s.roleNoted r).twin = s.twin.inRole r := congrArg (fun w => TwinSt.inRole w r) (s.runsCleared_changes _ .twin rfl)

theorem State.roleNoted_mantis (s : State) (r : Role) : (s.roleNoted r).mantis = { s.mantis with toutHigh := s.mantis.toutHigh && !r.isStandby } :=
  congrArg (fun w : MantisSt => { w with toutHigh := w.toutHigh && !r.isStandby }) (s.runsCleared_changes _ .mantis rfl)

theorem State.roleNoted_good (h : Good O Q s) : Good O Q (s.roleNoted r) :=
  good_mk (State.doIf_good h (State.each_good h (fun _ _ ht => State.updExc_good ht))) rfl rfl rfl rfl

theorem State.giveUpCommit_bitsStay (h : Good O Q s) : BitsStay O Q s s.giveUpCommit := by
  have hdropped : ∀ c, BitsStay O Q s { s with cfg := c } := fun c => (BitsStay.refl h).same (good_mk h rfl rfl rfl rfl) rfl
  unfold State.giveUpCommit
  dsimp only
  split
  · exact (hdropped _).retire
  · exact hdropped _

/-- Behind the record, taking a role changes outputs, reports its own bit and gives up a commit. -/
theorem State.setRole_changes (s : State) (r : Role) (xs : List Nat) : Frm 145492056080 (s.roleNoted r) (s.setRole r xs) := by
  have hm := Sub.refl 145492056080
  have hshown : Frm 145492056080 (s.roleNoted r) (((s.roleNoted r).doIf (decide (r = .standbyUnfit ∧ s.twin.role ≠ .standbyUnfit)) (fun t => t.setBit Reg.twinStatus 10)).excRole xs) :=
    State.excRole_frm (hm.le (by decide)) (State.doIf_frm (Frm.refl _ _) (State.setBit_frm (hm.le (by decide)) (Frm.refl _ _)))
  rw [State.setRole_eq]
  exact State.doIf_frm hshown (State.giveUpCommit_frm (hm.le (by decide)) hshown)

theorem State.setRole_twin (s : State) (r : Role) (xs : List Nat) : (s.setRole r xs).twin = s.twin.inRole r := (s.setRole_changes r xs .twin rfl).trans (s.roleNoted_twin r)

theorem State.setRole_mantis (s : State) (r : Role) (xs : List Nat) : (s.setRole r xs).mantis = { s.mantis with toutHigh := s.mantis.toutHigh && !r.isStandby } :=
  (s.setRole_changes r xs .mantis rfl).trans (s.roleNoted_mantis r)

theorem State.setRole_bitsStay (h : Good O Q s) : BitsStay O Q s (s.setRole r xs) := by
  have hnoted : BitsStay O Q s (s.roleNoted r) := (BitsStay.refl h).same (State.roleNoted_good h) (s.runsCleared_changes _ .regs rfl)
  have hmarked : ∀ c : Bool, BitsStay O Q s ((s.roleNoted r).doIf c (fun t => t.setBit Reg.twinStatus 10)) := fun c => hnoted.setBit.ite hnoted
  have hshown : ∀ c : Bool, BitsStay O Q s (((s.roleNoted r).doIf c (fun t => t.setBit Reg.twinStatus 10)).excRole xs) := fun c =>
    (hmarked c).frm (State.excRole_good (hmarked c).good) (State.excRole_frm (Sub.refl _) (Frm.refl _ _)) (by decide)
  rw [State.setRole_eq]
  exact ((hshown _).trans (State.giveUpCommit_bitsStay (hshown _).good)).ite (hshown _)

theorem unposted_twinStatus : unposted Reg.twinStatus := by unfold unposted; decide

/-- An entry into STANDBY_UNFIT leaves UNFIT_SEEN set. -/
theorem State.setRole_unfitSeen (h : Good O Q s) (hnew : s.twin.role ≠ .standbyUnfit) : (s.setRole .standbyUnfit xs).bit Reg.twinStatus 10 = true := by
  have hset : ((s.roleNoted .standbyUnfit).setBit Reg.twinStatus 10).bit Reg.twinStatus 10 = true := State.setBit_bit (State.roleNoted_good h) (by decide)
  have hgood : Good O Q ((s.roleNoted .standbyUnfit).setBit Reg.twinStatus 10) := State.setBit_good (State.roleNoted_good h)
  have hshown : BitsStay O Q ((s.roleNoted .standbyUnfit).setBit Reg.twinStatus 10) (((s.roleNoted .standbyUnfit).setBit Reg.twinStatus 10).excRole xs) :=
    (BitsStay.refl hgood).frm (State.excRole_good hgood) (State.excRole_frm (Sub.refl _) (Frm.refl _ _)) (by decide)
  have hends : ∀ c : Bool, BitsStay O Q ((s.roleNoted .standbyUnfit).setBit Reg.twinStatus 10) ((((s.roleNoted .standbyUnfit).setBit Reg.twinStatus 10).excRole xs).doIf c State.giveUpCommit) :=
    fun c => (hshown.trans (State.giveUpCommit_bitsStay hshown.good)).ite hshown
  rw [State.setRole_eq, decide_eq_true (⟨rfl, hnew⟩ : Role.standbyUnfit = .standbyUnfit ∧ s.twin.role ≠ .standbyUnfit)]
  exact (hends _).bits _ _ unposted_twinStatus hset

/-! ### A role is resolved (R451) -/

theorem TellsHealth.role (h : TellsHealth s t) : t.twin.role = s.twin.role ∧ t.twin.reasons = s.twin.reasons ∧ t.twin.seizeOut = s.twin.seizeOut ∧ t.twin.aliveAt = s.twin.aliveAt := by
  rw [h]
  exact ⟨rfl, rfl, rfl, rfl⟩

/-- The unit stands by unfit, for the reasons given among others. -/
def State.unfitNoted (s : State) (bits : List Nat) : State := { s with twin := { s.twin with reasons := s.twin.reasons ||| reasonMask bits, resync := 0 } }

theorem State.enterUnfit_eq (s : State) (bits : List Nat) : s.enterUnfit bits = ((s.unfitNoted bits).setRole .standbyUnfit []).sendHealth := rfl

theorem State.enterUnfit_twin (s : State) (bits : List Nat) : (s.enterUnfit bits).twin.role = .standbyUnfit ∧ (s.enterUnfit bits).twin.reasons = s.twin.reasons ||| reasonMask bits
    ∧ (s.enterUnfit bits).twin.seizeOut = false ∧ (s.enterUnfit bits).twin.aliveAt = s.twin.aliveAt := by
  obtain ⟨hrole, hreasons, hseize, halive⟩ := (State.sendHealth_tellsHealth ((s.unfitNoted bits).setRole .standbyUnfit [])).role
  rw [State.enterUnfit_eq, hrole, hreasons, hseize, halive, State.setRole_twin]
  exact ⟨rfl, rfl, Bool.and_false _, rfl⟩

/-- The resynchronisation a unit waits for as it stands by is reason 6. -/
theorem State.enterUnfit_resync (s : State) : (s.enterUnfit [Reason.resync]).twin.role = .standbyUnfit ∧ (s.enterUnfit [Reason.resync]).twin.reasons.getLsbD 6 = true := by
  obtain ⟨hrole, hreasons, -⟩ := s.enterUnfit_twin [Reason.resync]
  refine ⟨hrole, ?_⟩
  rw [hreasons, BitVec.getLsbD_or]
  exact Bool.or_true _

theorem State.unfitTaken_bitsStay (h : Good O Q s) (bits : List Nat) : BitsStay O Q s ((s.unfitNoted bits).setRole .standbyUnfit []) := by
  have hnoted : BitsStay O Q s (s.unfitNoted bits) := (BitsStay.refl h).same (good_mk h rfl rfl rfl rfl) rfl
  exact hnoted.trans (State.setRole_bitsStay hnoted.good)

/-- HEALTH counts its own losses and leaves every other register alone. -/
theorem State.sendHealth_reg (h : Good O Q s) {a : Nat} (ha : 0x53000 ≤ a) : s.sendHealth.reg a = s.reg a := by
  have h14 : Reg.link 2 0x14 < 0x53000 := by decide
  have h20 : Reg.link 2 0x20 < 0x53000 := by decide
  exact (State.sendHealth_sends h).at_.1 a (by omega) (by omega)

theorem State.enterUnfit_tm (s : State) (bits : List Nat) : (s.enterUnfit bits).tm = s.tm := by
  have hm := Sub.refl (154086184976 ||| 8891924496)
  exact State.sendHealth_frm (hm.le (by decide)) (State.setRole_frm (hm.le (by decide)) (frm_mk (Frm.refl (154086184976 ||| 8891924496) s))) .tm rfl

/-- A unit that resolves as active has no reasons. -/
def State.reasonsCleared (s : State) : State := { s with twin := { s.twin with reasons := 0 } }

theorem State.resolveActive_eq (s : State) : s.resolveActive = ((s.reasonsCleared.setRole .active []).capArmAll).sendHealth := rfl

theorem State.resolveActive_twin (s : State) : s.resolveActive.twin.role = .active ∧ s.resolveActive.twin.reasons = 0 := by
  have harm : ∀ v : State, v.capArmAll.twin = v.twin := fun v => State.capArmAll_frm (Sub.refl _) (Frm.refl _ v) .twin rfl
  obtain ⟨hrole, hreasons, -⟩ := (State.sendHealth_tellsHealth (s.reasonsCleared.setRole .active []).capArmAll).role
  rw [State.resolveActive_eq, hrole, hreasons, harm, State.setRole_twin]
  exact ⟨rfl, rfl⟩

theorem State.resolveActive_tm (s : State) : s.resolveActive.tm = s.tm := by
  have hm := Sub.refl (154086184976 ||| 8891924496 ||| 2097168)
  exact State.sendHealth_frm (hm.le (by decide)) (State.capArmAll_frm (hm.le (by decide)) (State.setRole_frm (hm.le (by decide)) (frm_mk (Frm.refl (154086184976 ||| 8891924496 ||| 2097168) s)))) .tm rfl

/-- The moment a unit resolves its role by itself at (R451). -/
def State.resolveUp (s : State) : Nat := s.boot.readyAt + (if s.boot.strapB then 4000000000 else 2000000000)

theorem State.reachUp_twin (s : State) (n : Nat) : (s.reachUp n).twin = s.twin := s.reachUp_changes n .twin rfl

theorem State.reachUp_boot (s : State) (n : Nat) : (s.reachUp n).boot = s.boot := s.reachUp_changes n .boot rfl

theorem execRoleResolution_alone {e : Bool} (hrole : s.twin.role = .unresolved) (hstage : s.boot.stage = 10) (htwin : s.twinned = true) (hnone : s.twin.partner = none) :
    exec (.roleResolution e) s = .next (if e then (s.reachUp s.resolveUp).enterUnfit [Reason.resync] else (s.reachUp s.resolveUp).resolveActive) := by
  refine (if_neg (by simp [hrole, hstage, htwin])).trans ?_
  rw [State.reachUp_twin, hnone]
  rfl

theorem execRoleResolution_heard {e : Bool} {f : HealthFrame} (hrole : s.twin.role = .unresolved) (hstage : s.boot.stage = 10) (htwin : s.twinned = true) (hsome : s.twin.partner = some f) :
    exec (.roleResolution e) s = .next (if s.boot.strapB then (s.reachUp s.resolveUp).enterUnfit [Reason.resync] else (s.reachUp s.resolveUp).resolveActive) := by
  refine (if_neg (by simp [hrole, hstage, htwin])).trans ?_
  rw [State.reachUp_twin, hsome]
  dsimp only
  rw [State.reachUp_boot]
  rfl

/-! ### Twin-alive (R334, R354) -/

theorem execTwinAliveToggle_active (hrole : s.twin.role = .active) (hfatal : s.log.fatal = false) (hinj : s.injOf 11 2 0 = none) :
    exec .twinAliveToggle s = .next { s.reach (nsTq ((s.nowNs / 2500 + 1) * 2500)) with twin := { s.twin with aliveOut := !s.twin.aliveOut } } := by
  have htwin : (s.reach (nsTq ((s.nowNs / 2500 + 1) * 2500))).twin = s.twin := s.reach_changes _ .twin rfl
  refine (if_pos ⟨hrole, hfatal, by rw [hinj]; rfl⟩).trans ?_
  dsimp only
  rw [htwin]

theorem execTwinAliveToggle_rests (h : s.twin.role ≠ .active ∨ s.log.fatal = true) : exec .twinAliveToggle s = .next s := by
  refine if_neg ?_
  rintro ⟨hrole, hfatal, -⟩
  exact h.elim (absurd hrole) (fun hf => Bool.false_ne_true (hfatal.symm.trans hf))

/-- An edge of twin-alive-in is noted; the second within 10,000 ns tells an unresolved unit that its partner is active. -/
theorem execTwinAliveEdge_seen (hpin : s.pinCarries (s.cfgv Fld.twinAliveInGpio 0 0) 11 = true) :
    exec .twinAliveEdge s = .next (if s.twin.role = .unresolved ∧ s.boot.stage = 10 ∧ s.twin.aliveAt.any (fun u => decide (s.tm.up ≤ u + 10000)) = true ∧ s.twinned = true
      then ({ s with twin := { s.twin with aliveAt := some s.tm.up } } : State).enterUnfit [Reason.resync] else { s with twin := { s.twin with aliveAt := some s.tm.up } }) := by
  refine (if_neg (by rw [hpin]; exact Bool.noConfusion)).trans ?_
  cases s.twin.aliveAt <;> rfl

theorem execActiveLost_takes {n : Nat} (hstandby : s.isStandby = true) (hpartner : s.partnerRole .active = true) (halive : s.twin.aliveAt = some n) :
    exec .activeLost s = .next (s.reachUp (n + 10000)).takeover := by
  refine (if_pos ⟨hstandby, hpartner⟩).trans ?_
  rw [halive]
  dsimp only
  rw [State.activeLost, State.reachUp_isStandby, if_pos hstandby]

theorem execActiveLost_rests (h : s.isStandby = false ∨ s.partnerRole .active = false) : exec .activeLost s = .next s := by
  refine if_neg ?_
  rintro ⟨hstandby, hpartner⟩
  exact h.elim (fun hf => Bool.false_ne_true (hf.symm.trans hstandby)) (fun hf => Bool.false_ne_true (hf.symm.trans hpartner))

end Sys2Proof.Machine
end

section
/-! PROOFS. HEALTH as it is sent (R346), two actives (R337), takeover and swap (R355, R357), and the statements on roles. -/

namespace Sys2Proof.Machine

open Sys2Proof

set_option Elab.async false

variable {O : OtpSt} {Q : List Instr} {s t u : State} {m : Nat}

/-! ### HEALTH as it is sent (R346) -/

theorem State.reachUp_eq (s : State) (n : Nat) : s.reachUp n = { s with tm := (s.reachUp n).tm } := by
  unfold State.reachUp
  split <;> rfl

/-- A frame that its class queue refuses is lost, and no HEALTH tells of it where HEALTH is that class. -/
theorem State.queueFrame_twin {body : TxBody} {b : Bool} {i : BitVec 16} (h : Good O Q s) : (s.queueFrame 2 .twin body b i).twin = s.twin := by
  have hport : (s.txLost 2).linkOf 2 = { s.linkOf 2 with discarded := true } := State.linkOf_updLink_self (State.bump_good h)
  have haccepts : (s.txLost 2).accepts 2 .twin = s.accepts 2 .twin := by
    unfold State.accepts
    rw [hport]
    rfl
  unfold State.queueFrame
  split
  · exact State.enqueue_frm (Sub.refl _) (Frm.refl _ s) .twin rfl
  · next hfull =>
    have hquiet : (s.txLost 2).tellLost 2 = s.txLost 2 := if_neg (fun hall => hfull (haccepts.symm.trans hall.2.2.1))
    rw [State.doIf, hquiet, ite_self]
    rfl

theorem State.sendHealth_twin (h : Good O Q s) (hinj : s.injOf 11 3 0 = none) :
    s.sendHealth.twin = { s.twin with mine := some s.healthOf, resync := if s.twin.role = .active ∧ (s.linkOf 2).discarded = true then 0 else s.twin.resync } := by
  have hform : Good O Q s.healthForm := State.healthForm_good h
  rw [State.sendHealth, hinj, if_neg (by decide), State.sendOn, State.queueFrame_twin hform]
  unfold State.healthForm
  simp only [Bool.and_eq_true, decide_eq_true_eq]
  rfl

/-- The periodic HEALTH. -/
theorem execHealthSend_sends {n : Nat} (hn : s.twin.healthUp + 1000000 = n) (h : Good O Q s) (hinj : s.injOf 11 3 0 = none) : Runs .healthSend s (fun u =>
    u.twin = { s.twin with healthUp := (s.reachUp n).tm.up, mine := some s.healthOf, resync := if s.twin.role = .active ∧ (s.linkOf 2).discarded = true then 0 else s.twin.resync }
    ∧ u.tm = (s.reachUp n).tm ∧ s.keepsBut [.tm, .regs, .ffPort, .link, .twin] u) := by
  have hm := Sub.refl (8891924496 ||| 1)
  have hexec : exec .healthSend s = .next ({ s.reachUp n with twin := { (s.reachUp n).twin with healthUp := (s.reachUp n).tm.up } } : State).sendHealth := by
    change execHealthSend s = _
    unfold execHealthSend
    rw [hn]
  refine ⟨_, hexec, ?_, ?_, ?_⟩
  · refine (State.sendHealth_twin (good_mk (State.reachUp_good h) rfl rfl rfl rfl) ?_).trans ?_
    · rw [State.reachUp_eq]
      exact hinj
    · rw [State.reachUp_eq]
      rfl
  · exact State.sendHealth_frm (Sub.refl _) (Frm.refl _ _) .tm rfl
  · exact Frm.keepsParts (State.sendHealth_frm (hm.le (by decide)) (frm_mk (State.reachUp_frm (hm.le (by decide)) (Frm.refl _ s)))) (by decide)

/-! ### Two actives (R337) -/

/-- What a unit that finds itself the second active drops as it steps back. -/
def State.dualDropped (s : State) : State := { s with twin := { s.twin with seizeOut := false, awaiting := [], own := [], theirs := [] } }

theorem execDualActive_steps {since : Nat} (hrole : s.twin.role = .active) (hstrap : s.boot.strapB = true) (hdual : s.twin.dualUp = some since) :
    exec .dualActive s = .next ((((s.reachUp (since + 1000000)).setBit Reg.twinStatus 13).raise (errAt 2 Reg.twinStatus 13 0xFFFF)).dualDropped.enterUnfit [Reason.resync]) := by
  refine (if_pos ⟨hrole, hstrap, by rw [hdual]; rfl⟩).trans ?_
  rw [hdual]
  rfl

/-- A unit that steps back is the unfit standby of the other, and DUAL_ACTIVE stands. -/
theorem State.stepsBack (h : Good O Q s) : let u := ((s.setBit Reg.twinStatus 13).raise (errAt 2 Reg.twinStatus 13 0xFFFF)).dualDropped.enterUnfit [Reason.resync]
    u.twin.role = .standbyUnfit ∧ u.twin.seizeOut = false ∧ u.twin.reasons.getLsbD 6 = true ∧ u.bit Reg.twinStatus 13 = true ∧ u.tm = s.tm := by
  have hraised : Good O Q ((s.setBit Reg.twinStatus 13).raise (errAt 2 Reg.twinStatus 13 0xFFFF)) := State.raise_good (State.setBit_good h)
  have hbit : ((s.setBit Reg.twinStatus 13).raise (errAt 2 Reg.twinStatus 13 0xFFFF)).bit Reg.twinStatus 13 = true := by
    rw [State.bit, State.raise_reg (by unfold quietReg; decide)]
    exact State.setBit_bit h (by decide)
  have htm : ((s.setBit Reg.twinStatus 13).raise (errAt 2 Reg.twinStatus 13 0xFFFF)).tm = s.tm := State.raise_frm (Sub.refl _) (State.setBit_frm ((Sub.refl _).le (by decide)) (Frm.refl _ s)) .tm rfl
  generalize (s.setBit Reg.twinStatus 13).raise (errAt 2 Reg.twinStatus 13 0xFFFF) = v at hraised hbit htm
  have hdropped : Good O Q v.dualDropped := good_mk hraised rfl rfl rfl rfl
  have hunfit := State.unfitTaken_bitsStay hdropped [Reason.resync]
  obtain ⟨hrole, hresync⟩ := v.dualDropped.enterUnfit_resync
  obtain ⟨-, -, hseize, -⟩ := v.dualDropped.enterUnfit_twin [Reason.resync]
  refine ⟨hrole, hseize, hresync, ?_, (State.enterUnfit_tm _ _).trans htm⟩
  rw [State.enterUnfit_eq, State.bit, State.sendHealth_reg hunfit.good (by decide)]
  exact hunfit.bits _ _ unposted_twinStatus hbit

theorem execDualActive_rests (h : s.boot.strapB = false ∨ s.twin.dualUp = none) : exec .dualActive s = .next s := by
  refine if_neg ?_
  rintro ⟨-, hstrap, hdual⟩
  exact h.elim (fun hf => Bool.false_ne_true (hf.symm.trans hstrap)) (fun hf => by rw [hf] at hdual; cases hdual)

/-- An unresolved unit that has heard nothing in time is active. -/
theorem execRoleResolution_active (hrole : s.twin.role = .unresolved) (hstage : s.boot.stage = 10) (htwin : s.twinned = true) (hnone : s.twin.partner = none) :
    Runs (.roleResolution false) s (fun u => u.twin.role = .active ∧ u.twin.reasons = 0 ∧ u.tm = (s.reachUp s.resolveUp).tm) := by
  have hexec := execRoleResolution_alone (e := false) hrole hstage htwin hnone
  rw [if_neg Bool.false_ne_true] at hexec
  obtain ⟨hactive, hreasons⟩ := (s.reachUp s.resolveUp).resolveActive_twin
  exact ⟨_, hexec, hactive, hreasons, State.resolveActive_tm _⟩

/-- An unresolved unit that has seen twin-alive is the standby of what drives it. -/
theorem execRoleResolution_unfit (hrole : s.twin.role = .unresolved) (hstage : s.boot.stage = 10) (htwin : s.twinned = true) (hnone : s.twin.partner = none) :
    Runs (.roleResolution true) s (fun u => u.twin.role = .standbyUnfit ∧ u.twin.reasons.getLsbD 6 = true) := by
  have hexec := execRoleResolution_alone (e := true) hrole hstage htwin hnone
  rw [if_pos rfl] at hexec
  exact ⟨_, hexec, State.enterUnfit_resync _⟩

/-- Settles O36: a role's record (setRole_twin), its resolution, twin-alive, the loss of the active, two actives and HEALTH, each by the lemma of its command. -/
theorem rolesAreResolvedAndTaken : Obligations.RolesAreResolvedAndTaken := by
  intro s hwf
  have h := good_of_wf hwf
  refine ⟨fun r xs => ⟨s.setRole_twin r xs, s.setRole_mantis r xs, fun hr hnew => ?_, (State.setRole_frm (Sub.refl _) (Frm.refl _ s)).keepsParts (by decide)⟩,
    fun hrole hstage htwin => ⟨fun hnone => ?_, fun hnone => ?_, fun e f hsome hstrap => ?_, fun e f hsome hstrap => ?_⟩,
    fun hrole hfatal hinj => execTwinAliveToggle_active hrole hfatal hinj, fun hrest => execTwinAliveToggle_rests hrest, fun hpin hrole => ?_, fun n hpin hrole hstage htwin halive hsoon => ?_,
    fun n hstandby hpartner halive => execActiveLost_takes hstandby hpartner halive, fun hrest => execActiveLost_rests hrest, fun since hrole hstrap hdual => ?_, fun hrest => execDualActive_rests hrest,
    execHealthSend_sends rfl h⟩
  · subst hr
    exact State.setRole_unfitSeen h hnew
  · exact execRoleResolution_active hrole hstage htwin hnone
  · exact execRoleResolution_unfit hrole hstage htwin hnone
  · exact ⟨(s.reachUp s.resolveUp).enterUnfit [Reason.resync], by rw [execRoleResolution_heard hrole hstage htwin hsome, if_pos hstrap], State.enterUnfit_resync _⟩
  · exact ⟨(s.reachUp s.resolveUp).resolveActive, by rw [execRoleResolution_heard hrole hstage htwin hsome, if_neg (Bool.eq_false_iff.mp hstrap)], State.resolveActive_twin _⟩
  · exact (execTwinAliveEdge_seen hpin).trans (congrArg Host.Outcome.next (if_neg (fun hall => hrole hall.1)))
  · refine ⟨_, (execTwinAliveEdge_seen hpin).trans (congrArg Host.Outcome.next (if_pos ⟨hrole, hstage, by simp [halive, hsoon], htwin⟩)), ?_⟩
    obtain ⟨hunfit, hresync⟩ := State.enterUnfit_resync { s with twin := { s.twin with aliveAt := some s.tm.up } }
    obtain ⟨-, -, -, hat⟩ := State.enterUnfit_twin { s with twin := { s.twin with aliveAt := some s.tm.up } } [Reason.resync]
    exact ⟨hunfit, hresync, hat⟩
  · exact ⟨_, execDualActive_steps hrole hstrap hdual, State.stepsBack (State.reachUp_good h)⟩

/-! ### Takeover and swap (R355, R357) -/

/-- The streams pass to the new active. -/
def State.streamsAdopted (s : State) (swap : Bool) : State :=
  s.each ((List.range 64).filter (fun x => s.cfgOn Fld.streamEnable x)) (fun x t => if swap then t.swapStream x else t.adoptStream x)

/-- The capture units number on from the old active's last windows. -/
def State.unitsAdopted (s : State) : State :=
  s.each (s.twin.capSeqs.map (fun e => e.1)) (fun u t => t.updCap u (fun c => { c with seqNext := Cells.get (fun _ => 0xFFFFFFFF) t.twin.capSeqs u + 1 }))

theorem State.adoptData_twin (s : State) (swap : Bool) : (s.adoptData swap).twin =
    { (s.streamsAdopted swap).unitsAdopted.twin with syncQueue := (s.streamsAdopted swap).unitsAdopted.twin.syncQueue.filter (fun e => swap && decide (e.kind.val ≤ 1)), capSeqs := [] } := rfl

theorem State.unitsAdopted_twin (s : State) : s.unitsAdopted.twin = s.twin := State.each_frm (Frm.refl _ s) (fun _ _ ht => State.updCap_frm (Sub.refl _) ht) .twin rfl

theorem State.streamsAdopted_stands (s : State) (swap : Bool) : TwinStands s (s.streamsAdopted swap) := (TwinStands.refl s).each (fun _ _ ht => ht.swapStream.ite ht.adoptStream)

theorem State.adoptTrigSeq_twin (s : State) : s.adoptTrigSeq.twin = s.twin := State.adoptTrigSeq_frm (Sub.refl _) (Frm.refl _ s) .twin rfl

theorem State.capArmAll_twin (s : State) : s.capArmAll.twin = s.twin := State.capArmAll_frm (Sub.refl _) (Frm.refl _ s) .twin rfl

theorem State.vaultTake_twin (s : State) (takeover : Bool) : (s.vaultTake takeover).twin = s.twin := by
  unfold State.vaultTake
  split <;> rfl

/-- What is in hand passes to the new active; its role and what it seizes stand. -/
theorem State.adopts_stands (s : State) (swap takeover : Bool) : (((s.adoptTrigSeq.adoptData swap).capArmAll).vaultTake takeover).twin.role = s.twin.role
    ∧ (((s.adoptTrigSeq.adoptData swap).capArmAll).vaultTake takeover).twin.seizeOut = s.twin.seizeOut := by
  obtain ⟨hrole, hseize, -⟩ := (s.adoptTrigSeq.streamsAdopted_stands swap).fields
  rw [State.vaultTake_twin, State.capArmAll_twin, State.adoptData_twin, State.unitsAdopted_twin]
  dsimp only
  rw [hrole, hseize, State.adoptTrigSeq_twin]
  exact ⟨rfl, rfl⟩

/-- The record of a standby as it takes over, before its role changes. -/
def State.takesOver (s : State) : State :=
  let fail := (s.twin.partner.map (fun h => h.failCores)).getD 0
  { s with twin := { s.twin with seizeOut := true, pulseFrom := s.now + nsTq 2000, resumeWait := s.inDoubt, lost := true, failCores := fail, digestPlaus := fail, reasons := 0, runs := [], own := [],
                                 swapId := none, swapFrame := none, swapAsked := false, awaiting := [], theirs := [], missingRun := 0, swapEdgeA := 0, swapEdgeB := 0, dualUp := none } }

/-- The takeover is counted, timed and reported. -/
def State.takeoverNoted (s : State) : State :=
  (((s.bump 0x58018).setReg64 0x58028 s.nowNs).setBit Reg.twinStatus 11).raise (errAt 2 Reg.twinStatus 11 0xFFFF)

theorem State.takeover_eq (s : State) : s.takeover =
    ((((((s.takesOver.setRole .active s.takesOver.excEnabled).endHandling Reg.twinStatus 0xFFFF).takeoverNoted).adoptTrigSeq.adoptData false).capArmAll).vaultTake true).sendHealth := rfl

theorem State.takeoverNoted_twin (s : State) : s.takeoverNoted.twin = s.twin := by
  have hm := Sub.refl reportSet
  exact State.raise_frm (m := reportSet) hm (State.setBit_frm (hm.le (by decide)) (State.setReg64_frm (hm.le (by decide)) (State.bump_frm (hm.le (by decide)) (Frm.refl _ s)))) .twin rfl

theorem State.takeover_takes (s : State) : s.takeover.twin.role = .active ∧ s.takeover.twin.seizeOut = true := by
  have hnoted : (((s.takesOver.setRole .active s.takesOver.excEnabled).endHandling Reg.twinStatus 0xFFFF).takeoverNoted).twin = s.takesOver.twin.inRole .active :=
    (State.takeoverNoted_twin _).trans (s.takesOver.setRole_twin .active _)
  obtain ⟨hrole, -, hseize, -⟩ := (State.sendHealth_tellsHealth _).role
  obtain ⟨hrole', hseize'⟩ := State.adopts_stands ((s.takesOver.setRole .active s.takesOver.excEnabled).endHandling Reg.twinStatus 0xFFFF).takeoverNoted false true
  rw [State.takeover_eq, hrole, hseize]
  rw [hrole', hseize', hnoted]
  exact ⟨rfl, rfl⟩

/-- The record of an active as it hands over, before its role changes. -/
def State.handsOver (s : State) : State :=
  let xs := (List.range 64).filter (fun x => s.cfgOn Fld.streamEnable x)
  let t := (s.closeStreams xs).each xs (fun x t => t.updStrm x (fun st => { st with handover := if (st.queue ++ st.closing).isEmpty then none else some (st.seqNext - 1), marker := some st.seqNext, losses := st.losses }))
  { t with twin := { t.twin with own := [], theirs := [], awaiting := [], syncQueue := [], reasons := 0, resync := 3, seizeOut := false } }

theorem State.handOver_eq (s : State) : s.handOver =
    ((s.handsOver.setRole .standby []).each (s.handsOver.pulsingNow.map (fun m => (m, s.handsOver.excOf m))) (fun e t => t.setExc e.1 e.2)).postAll := rfl

theorem State.handOver_twin (s : State) : s.handOver.twin = s.handsOver.twin.inRole .standby := by
  have hpulses : ∀ (v : State) (es : List (Nat × ExcSt)), ((v.each es (fun e t => t.setExc e.1 e.2)).postAll).twin = v.twin := fun v es =>
    State.postAll_frm ((Sub.refl (2684387344 ||| 2048)).le (by decide)) (State.each_frm (Frm.refl _ v) (fun _ _ ht => State.setExc_frm ((Sub.refl (2684387344 ||| 2048)).le (by decide)) ht)) .twin rfl
  rw [State.handOver_eq, hpulses, State.setRole_twin]

/-- The record of a standby that a swap makes active, before its role changes. -/
def State.swapsOver (s : State) : State :=
  let t := s.followCuts.each ((List.range 64).filter (fun x => s.followCuts.cfgOn Fld.streamEnable x)) (fun x t => t.updStrm x (fun st => { st with queue := [], closing := [] }))
  { t with twin := { t.twin with reasons := 0, runs := [], own := [], theirs := [], missingRun := 0, failCores := 0, digestPlaus := 0, swapEdgeA := (t.grpOf 0).lastEdge, swapEdgeB := (t.grpOf 1).lastEdge, pulseFrom := 0, awaiting := [] } }

theorem State.takeOverBySwap_eq (s : State) : s.takeOverBySwap = (((s.swapsOver.setRole .active s.swapsOver.excEnabled).adoptTrigSeq.adoptData true).capArmAll).vaultTake false := rfl

theorem State.takeOverBySwap_role (s : State) : s.takeOverBySwap.twin.role = .active := by
  obtain ⟨hrole, -⟩ := State.adopts_stands (s.swapsOver.setRole .active s.swapsOver.excEnabled) true false
  rw [State.takeOverBySwap_eq, hrole, State.setRole_twin]
  rfl

/-- The swap ends: its request is gone, and its descriptor retires. -/
def State.swapEnds (s : State) (d : Option Desc) : State :=
  let t := ({ s with twin := { s.twin with swapId := none, swapFrame := none, swapAsked := false } } : State).bump 0x5801C
  (match d with
    | some d => t.retireOk d []
    | none => t).sendHealth

theorem execSwapExecute_due (hdue : s.swapDue = true) (hservice : s.inService 2 = true) :
    exec .swapExecute s = .next ((if s.twin.role = .active then s.handOver else s.takeOverBySwap).swapEnds (s.twin.swapId.bind s.descOf)) :=
  if_neg (by simp [hdue, hservice])

theorem State.swapEnds_twin (s : State) (d : Option Desc) : (s.swapEnds d).twin.role = s.twin.role ∧ (s.swapEnds d).twin.seizeOut = s.twin.seizeOut ∧ (s.swapEnds d).twin.reasons = s.twin.reasons
    ∧ (s.swapEnds d).twin.swapId = none ∧ (s.swapEnds d).twin.swapAsked = false := by
  have hretires : ∀ (v : State) (e : Desc), TellsHealth v (v.retireOk e []) := fun v e => (State.retireOk_frm (Sub.refl _) (Frm.refl _ v)).tellsHealth (by decide)
  have hends : TellsHealth { s with twin := { s.twin with swapId := none, swapFrame := none, swapAsked := false } } (s.swapEnds d) := by
    refine TellsHealth.trans ?_ (State.sendHealth_tellsHealth _)
    cases d with
    | none => rfl
    | some d => exact hretires _ d
  rw [hends]
  exact ⟨rfl, rfl, rfl, rfl, rfl⟩

/-- A named frame's boundary has come for a swap as its group has finished that frame. -/
theorem State.swapDue_iff {f : Nat} (hasked : s.twin.swapAsked = true) (hnamed : s.twin.swapFrame = some f) (hrole : s.twin.role = .active ∨ s.twin.role = .standby)
    (hidle : (s.grpOf s.swapGroup).frame = none) (hruns : (s.grpOf s.swapGroup).mode ≠ .stopped) : s.swapDue = true ↔ (s.grpOf s.swapGroup).strobed = true ∧ f ≤ (s.grpOf s.swapGroup).doneK := by
  simp [State.swapDue, hasked, hnamed, hrole, hidle, hruns]

/-- Settles O37: takeover_takes; and a swap that is due leaves the record of handOver_twin or takeOverBySwap_role. -/
theorem takeoverAndSwapChangeTheRole : Obligations.TakeoverAndSwapChangeTheRole := by
  intro s _
  refine ⟨s.takeover_takes, fun hrole hservice hdue => ⟨_, execSwapExecute_due hdue hservice, ?_⟩, fun hrole hservice hdue => ⟨_, execSwapExecute_due hdue hservice, ?_⟩,
    fun f hasked hnamed hrole => State.swapDue_iff hasked hnamed hrole, fun h => if_pos h⟩
  · obtain ⟨hstands, hseize, hreasons, hid, hasks⟩ := s.handOver.swapEnds_twin (s.twin.swapId.bind s.descOf)
    rw [if_pos hrole, hstands, hseize, hreasons, s.handOver_twin]
    exact ⟨rfl, rfl, rfl, hid, hasks⟩
  · obtain ⟨hstands, -, -, hid, hasks⟩ := s.takeOverBySwap.swapEnds_twin (s.twin.swapId.bind s.descOf)
    rw [if_neg (by simp [hrole]), hstands]
    exact ⟨s.takeOverBySwap_role, hid, hasks⟩

end Sys2Proof.Machine
end

section
/-! PROOFS. A held group starts again (R321), a damaged bank makes the configuration BAD (R325, R329), and a configuration is stored in two copies (R437). -/

namespace Sys2Proof.Machine

open Sys2Proof

set_option Elab.async false

variable {O : OtpSt} {Q : List Instr} {s t u : State} {m : Nat}

/-! ### A group starts (R321) -/

/-- A group anew changes the group's own record in one flag at most. -/
theorem State.groupAnewDue_grpOf {g i : Nat} (h : Good O Q s) :
    (s.groupAnewDue g).grpOf i = if i = g then { s.grpOf g with resetDue := (s.grpOf g).frame.isSome || (s.grpOf g).resetDue } else s.grpOf i := by
  unfold State.groupAnewDue
  split
  · next hbusy => rw [State.grpOf_updGrp h, hbusy]; rfl
  · next hidle =>
    rw [(State.groupAnew_frm (Sub.refl _) (Frm.refl _ s)).grpOf rfl, Bool.eq_false_iff.mpr hidle, Bool.false_or]
    split
    · next hi => rw [hi]
    · rfl

/-- The event a group that starts anew takes first. -/
def GroupSt.resumesAt (x : GroupSt) : Nat := if decide (x.mode = .held) = true then x.evNext else 0

/-- The group with its count settled, before its mode is taken. -/
def State.startNoted (s : State) (g : Nat) (at_ : Tq) : State :=
  let x := s.grpOf g
  let t := (s.groupAnewDue g).doIf (!Look.scheduled s.cfgv g && !(decide (x.mode = .held) && x.byEvents)) (fun t => t.renumberLosses g (if x.byEvents then some x.evNext else none) x.resumesAt)
  t.updGrp g (fun y => { y with evNext := x.resumesAt, byEvents := !Look.scheduled s.cfgv g, heldHole := y.heldHole || (decide (x.mode = .held) && (!Look.scheduled s.cfgv g || y.byEvents)), strobed := false, pendEdge := none, peerUp := none, applied := at_ })

theorem State.startGroup_eq (s : State) (g : Nat) (at_ : Tq) : s.startGroup g at_ =
    if !Look.scheduled s.cfgv g then (s.startNoted g at_).updGrp g (fun y => { y with mode := .running, lastEvUp := (s.startNoted g at_).tm.up })
    else (s.startNoted g at_).updGrp g (fun y => { y with mode := .waitingStart, nextK := Look.firstK s.cfgv g (at_ + nsTq 10000) }) := rfl

theorem State.startGroup_changes (s : State) (g : Nat) (at_ : Tq) : Frm 1613856 s (s.startGroup g at_) := State.startGroup_frm (Sub.refl _) (Frm.refl _ s)

theorem State.startNoted_grpOf {g i : Nat} {at_ : Tq} (h : Good O Q s) : (s.startNoted g at_).grpOf i = if i = g then
    { s.grpOf g with evNext := (s.grpOf g).resumesAt, byEvents := !Look.scheduled s.cfgv g, heldHole := (s.grpOf g).heldHole || (decide ((s.grpOf g).mode = .held) && (!Look.scheduled s.cfgv g || (s.grpOf g).byEvents)),
                     strobed := false, pendEdge := none, peerUp := none, applied := at_, resetDue := (s.grpOf g).frame.isSome || (s.grpOf g).resetDue } else s.grpOf i := by
  have hanew := State.groupAnewDue_good (g := g) h
  have hrenumbered : ∀ k n, Frm 32768 (s.groupAnewDue g) ((s.groupAnewDue g).renumberLosses g k n) := fun k n => State.renumberLosses_frm (Sub.refl _) (Frm.refl _ _)
  have hgrp : ∀ (c : Bool) k n i, ((s.groupAnewDue g).doIf c (fun t => t.renumberLosses g k n)).grpOf i = (s.groupAnewDue g).grpOf i := fun c k n i =>
    (State.doIf_frm (Frm.refl _ _) (hrenumbered k n)).grpOf rfl
  unfold State.startNoted
  dsimp only
  rw [State.grpOf_updGrp (State.doIf_good hanew (State.renumberLosses_good hanew)), hgrp, hgrp, State.groupAnewDue_grpOf h, State.groupAnewDue_grpOf h, if_pos rfl]
  split <;> rfl

theorem State.startNoted_good {g : Nat} {at_ : Tq} (h : Good O Q s) : Good O Q (s.startNoted g at_) := by
  have hanew := State.groupAnewDue_good (g := g) h
  have hrenumbered : ∀ (c : Bool) k n, Good O Q ((s.groupAnewDue g).doIf c (fun t => t.renumberLosses g k n)) := fun c k n => State.doIf_good hanew (State.renumberLosses_good hanew)
  unfold State.startNoted
  exact State.updGrp_good (hrenumbered _ _ _)

/-- The group that starts, and its peer as it was. -/
theorem State.startGroup_starts {g : Nat} {at_ : Tq} (h : Good O Q s) :
    ((s.startGroup g at_).grpOf g).mode = (if Look.scheduled s.cfgv g then .waitingStart else .running) ∧ ((s.startGroup g at_).grpOf g).strobed = false ∧ ((s.startGroup g at_).grpOf g).applied = at_
      ∧ ((s.startGroup g at_).grpOf g).evNext = (s.grpOf g).resumesAt ∧ ∀ i, i ≠ g → (s.startGroup g at_).grpOf i = s.grpOf i := by
  have hnoted := State.startNoted_good (g := g) (at_ := at_) h
  rw [State.startGroup_eq]
  by_cases hscheduled : Look.scheduled s.cfgv g = true
  · rw [if_neg (by simp [hscheduled]), State.grpOf_updGrp hnoted, State.startNoted_grpOf h, if_pos rfl, if_pos rfl, if_pos hscheduled]
    exact ⟨rfl, rfl, rfl, rfl, fun i hi => by rw [State.grpOf_updGrp hnoted, if_neg hi, State.startNoted_grpOf h, if_neg hi]⟩
  · rw [if_pos (by simp [hscheduled]), State.grpOf_updGrp hnoted, State.startNoted_grpOf h, if_pos rfl, if_pos rfl, if_neg hscheduled]
    exact ⟨rfl, rfl, rfl, rfl, fun i hi => by rw [State.grpOf_updGrp hnoted, if_neg hi, State.startNoted_grpOf h, if_neg hi]⟩

theorem execHeldRestart_held {g : Group} (hheld : (s.grpOf (gidx g)).mode = .held) :
    exec (.heldRestart g) s = .next ((s.reachUp ((s.grpOf (gidx g)).heldUp + 500000)).startGroup (gidx g) (s.reachUp ((s.grpOf (gidx g)).heldUp + 500000)).now) := if_pos hheld

/-! ### The configuration becomes BAD (R325) -/

theorem State.flipFails_live (s : State) (f : FlipSt) : (s.flipFails f).cfg.live = s.cfg.live := by
  have hm := Sub.refl 141197082640
  have hdropped : (({ s with cfg := { s.cfg with flip := none } } : State).bump 0x110 |>.setReg 0x114 0x0160).cfg.live = s.cfg.live := rfl
  unfold State.flipFails
  dsimp only
  split
  · exact ((State.retireBad_frm hm (Frm.refl _ _)).live rfl).trans hdropped
  · exact hdropped

theorem State.enterBad_live (s : State) (cause : Nat) : (s.enterBad cause).cfg.live = s.cfg.live := by
  have hm := Sub.refl allButCfg
  unfold State.enterBad
  extract_lets flipped _ marked stopped outputs _ pins captures _ raised
  have hflipped : flipped.cfg.live = s.cfg.live := by
    dsimp only [flipped]
    split
    · split
      · exact s.flipFails_live _
      · rfl
    · rfl
  split
  next => exact hflipped
  next =>
    have hstopped : Frm allButCfg marked stopped := State.badGroup_frm (hm.le (by decide)) (State.badGroup_frm (hm.le (by decide)) (Frm.refl _ marked))
    have houtputs : Frm allButCfg marked outputs := State.pulseStopAll_frm (hm.le (by decide)) (State.excRole_frm (hm.le (by decide)) hstopped)
    have hcaptures : Frm allButCfg marked captures := State.each_frm (frm_mk houtputs) (fun _ _ => State.capAbort_frm (hm.le (by decide)))
    have hraised : Frm allButCfg marked raised := State.traceFree_frm (hm.le (by decide)) (State.raise_frm (hm.le (by decide)) (State.setBit_frm (hm.le (by decide)) hcaptures))
    exact ((State.vaultTaint_frm (hm.le (by decide)) hraised).live (by decide)).trans hflipped

/-! ### Copies of a configuration (R437) -/

/-- The SEQ of the newest copy. -/
def newestSeq (cs : List StoredCfg) : Nat := cs.foldl (fun n x => max n x.seq.toNat) 0

theorem storeCopies_eq (all cs : List StoredCfg) (c : StoredCfg) : storeCopies all cs c =
    match cs with
    | a :: b :: _ => if a.seq.toNat < b.seq.toNat then [b, { c with seq := BitVec.ofNat 32 (newestSeq all + 1) }] else [a, { c with seq := BitVec.ofNat 32 (newestSeq all + 1) }]
    | _ => cs ++ [{ c with seq := BitVec.ofNat 32 (newestSeq all + 1) }] := rfl

theorem mem_storeCopies (all cs : List StoredCfg) (c : StoredCfg) : { c with seq := BitVec.ofNat 32 (newestSeq all + 1) } ∈ storeCopies all cs c := by
  rw [storeCopies_eq]
  split
  · split <;> exact List.mem_cons_of_mem _ (List.mem_singleton_self _)
  · exact List.mem_append_right _ (List.mem_singleton_self _)

theorem storeCopies_length {all cs : List StoredCfg} {c : StoredCfg} (h : cs.length ≤ 2) : (storeCopies all cs c).length ≤ 2 := by
  rw [storeCopies_eq]
  split
  · split <;> exact Nat.le_refl 2
  · next hfew =>
    match cs, h, hfew with
    | [], _, _ => exact Nat.le_succ 1
    | [_], _, _ => exact Nat.le_refl 2
    | a :: b :: rest, _, hfew => exact absurd rfl (hfew a b rest)

theorem newestSeq_lt {cs : List StoredCfg} {n : Nat} (hn : 0 < n) (h : ∀ x ∈ cs, x.seq.toNat < n) : newestSeq cs < n ∧ ∀ x ∈ cs, x.seq.toNat ≤ newestSeq cs := by
  suffices hfold : ∀ k, k < n → cs.foldl (fun n x => max n x.seq.toNat) k < n ∧ k ≤ cs.foldl (fun n x => max n x.seq.toNat) k ∧ ∀ x ∈ cs, x.seq.toNat ≤ cs.foldl (fun n x => max n x.seq.toNat) k from
    ⟨(hfold 0 hn).1, (hfold 0 hn).2.2⟩
  induction cs with
  | nil => exact fun k hk => ⟨hk, Nat.le_refl k, fun x hx => absurd hx List.not_mem_nil⟩
  | cons c cs ih =>
    intro k hk
    have hmax : max k c.seq.toNat < n := Nat.max_lt.mpr ⟨hk, h c List.mem_cons_self⟩
    obtain ⟨hlt, hle, hall⟩ := ih (fun x hx => h x (List.mem_cons_of_mem c hx)) _ hmax
    refine ⟨hlt, Nat.le_trans (Nat.le_max_left ..) hle, fun x hx => ?_⟩
    rcases List.mem_cons.mp hx with rfl | hx
    · exact Nat.le_trans (Nat.le_max_right ..) hle
    · exact hall x hx

/-- Of two copies the older makes room. -/
theorem storeCopies_replaces {a b c : StoredCfg} (hab : a.seq.toNat < b.seq.toNat) :
    ∃ n, storeCopies [a, b] [a, b] c = [b, n] ∧ n.seq = b.seq + 1 ∧ n.records = c.records ∧ n.profile = c.profile := by
  refine ⟨{ c with seq := BitVec.ofNat 32 (newestSeq [a, b] + 1) }, if_pos hab, ?_, rfl, rfl⟩
  have hnewest : newestSeq [a, b] = b.seq.toNat := by
    change max (max 0 a.seq.toNat) b.seq.toNat = _
    omega
  rw [hnewest]
  exact BitVec.eq_of_toNat_eq (by rw [BitVec.toNat_ofNat, BitVec.toNat_add]; rfl)

/-- A configuration stored on both memories is on each, and newer than what was there. -/
theorem FlashSt.storeBoth_newest {f : FlashSt} {c : StoredCfg} (hA : f.presentA = true) (hB : f.presentB = true) (hseq : ∀ x ∈ f.copies, x.seq.toNat < 4294967295) :
    ∃ n, n ∈ (f.storeBoth c).stored ∧ n ∈ (f.storeBoth c).storedB ∧ n.records = c.records ∧ n.profile = c.profile ∧ ∀ x ∈ f.copies, x.seq.toNat < n.seq.toNat := by
  obtain ⟨hlt, hall⟩ := newestSeq_lt (by decide) hseq
  refine ⟨{ c with seq := BitVec.ofNat 32 (newestSeq f.copies + 1) }, ?_, ?_, rfl, rfl, fun x hx => ?_⟩
  · rw [FlashSt.storeBoth, hA, if_pos rfl]
    exact mem_storeCopies _ _ _
  · rw [FlashSt.storeBoth, hB, if_pos rfl]
    exact mem_storeCopies _ _ _
  · have hnat : (BitVec.ofNat 32 (newestSeq f.copies + 1)).toNat = newestSeq f.copies + 1 := by
      rw [BitVec.toNat_ofNat]
      omega
    rw [hnat]
    exact Nat.lt_succ_of_le (hall x hx)

/-! ### The store of a configuration ends -/

theorem execCfgStoreDone_ends {c : StoredCfg} {ok : Bool} (hpend : s.cfg.storePending = some c) (hup : s.engineUp = true) :
    exec (.cfgStoreDone ok) s = if ok then .next { ({ s with cfg := { s.cfg with storePending := none } } : State).refuserNote with flash := ({ s with cfg := { s.cfg with storePending := none } } : State).refuserNote.flash.storeBoth c }
      else .next (({ s with cfg := { s.cfg with storePending := none } } : State).refuserNote.raiseBare 1 true 0xFFFF) := by
  change execCfgStoreDone ok s = _
  unfold execCfgStoreDone
  rw [hpend]
  exact if_neg (by rw [hup]; exact Bool.noConfusion)

theorem execCfgStoreDone_stored {c : StoredCfg} (hpend : s.cfg.storePending = some c) (hup : s.engineUp = true) :
    exec (.cfgStoreDone true) s = .next { ({ s with cfg := { s.cfg with storePending := none } } : State).refuserNote with flash := s.flash.storeBoth c } := by
  have hflash : ({ s with cfg := { s.cfg with storePending := none } } : State).refuserNote.flash = s.flash := State.refuserNote_changes _ .flash rfl
  rw [execCfgStoreDone_ends hpend hup, if_pos rfl, hflash]

theorem execCfgStoreDone_failed {c : StoredCfg} (hpend : s.cfg.storePending = some c) (hup : s.engineUp = true) :
    Runs (.cfgStoreDone false) s (fun u => u.cfg = { s.cfg with storePending := none } ∧ u.flash = s.flash ∧ s.keepsBut (.cfg :: .pwr :: .freeCtr :: reportParts) u) := by
  have hm := Sub.refl (10445897334800 ||| 68719476752 ||| 4294967296)
  have hexec := execCfgStoreDone_ends (ok := false) hpend hup
  rw [if_neg Bool.false_ne_true] at hexec
  have hchanges : Frm (10445897334800 ||| 68719476752) { s with cfg := { s.cfg with storePending := none } } (({ s with cfg := { s.cfg with storePending := none } } : State).refuserNote.raiseBare 1 true 0xFFFF) :=
    State.raiseBare_frm ((Sub.refl _).le (by decide)) (State.refuserNote_frm ((Sub.refl _).le (by decide)) (Frm.refl _ _))
  refine ⟨_, hexec, hchanges .cfg rfl, hchanges .flash rfl, ?_⟩
  exact Frm.keepsParts (State.raiseBare_frm (hm.le (by decide)) (State.refuserNote_frm (hm.le (by decide)) (frm_mk (Frm.refl (10445897334800 ||| 68719476752 ||| 4294967296) s)))) (by decide)

/-- Settles O43: startGroup_starts, enterBad, the store's end, and what storeCopies keeps. -/
theorem heldBadAndStoredConfigurations : Obligations.HeldBadAndStoredConfigurations := by
  refine ⟨fun s hwf => ⟨fun g hheld => ?_, ⟨_, rfl, (s.enterBad_bad 4).1, (s.enterBad_bad 4).2, s.enterBad_live 4⟩, fun c hpend hup => ⟨execCfgStoreDone_stored hpend hup, execCfgStoreDone_failed hpend hup⟩⟩,
    fun a b c hab _ => storeCopies_replaces hab, fun all cs c h => storeCopies_length h, fun f c hA hB hseq => FlashSt.storeBoth_newest hA hB hseq⟩
  have h := good_of_wf hwf
  have hup : Frm 1 s (s.reachUp ((s.grpOf (gidx g)).heldUp + 500000)) := s.reachUp_changes _
  obtain ⟨hmode, hstrobed, happlied, hev, hpeer⟩ := State.startGroup_starts (g := gidx g) (at_ := (s.reachUp ((s.grpOf (gidx g)).heldUp + 500000)).now) (State.reachUp_good h (u := (s.grpOf (gidx g)).heldUp + 500000))
  have hstarts := (s.reachUp ((s.grpOf (gidx g)).heldUp + 500000)).startGroup_changes (gidx g) (s.reachUp ((s.grpOf (gidx g)).heldUp + 500000)).now
  refine ⟨_, execHeldRestart_held hheld, ?_, hstrobed, happlied.trans ?_, hev.trans ?_, (hpeer _ ?_).trans (hup.grpOf rfl), hstarts .tm rfl, ?_⟩
  · rw [hmode, hup.cfgv rfl rfl]
  · exact congrArg (fun w : TimeSt => w.count / 65536) (hstarts .tm rfl).symm
  · rw [hup.grpOf rfl, GroupSt.resumesAt, hheld]
    rfl
  · cases g <;> decide
  · exact Frm.keepsParts (State.startGroup_frm ((Sub.refl (1 ||| 1613856)).le (by decide)) (State.reachUp_frm ((Sub.refl (1 ||| 1613856)).le (by decide)) (Frm.refl _ s))) (by decide)

end Sys2Proof.Machine
end

section
/-! PROOFS. A commit of the pair: the active chooses a frame with its standby, arms alone when none answers, and the standby arms at the frame it is told (R349). -/

namespace Sys2Proof.Machine

open Sys2Proof

set_option Elab.async false

variable {O : OtpSt} {Q : List Instr} {s t u : State} {m : Nat} {f : FlipSt}

/-- A staged bank as it is armed: for both groups, led by one of them, at the frame given. -/
def FlipSt.armedFor (f : FlipSt) (lead atFrame : Option Nat) : FlipSt :=
  { f with sealing := false, armed := true, waitA := true, waitB := true, atA := false, atB := false, shared := true, lead := lead, atFrame := atFrame }

theorem State.armFlip_cfg (s : State) (f : FlipSt) (k : Option Nat) : (s.armFlip f k).cfg = { s.cfg with flip := some (f.armedFor s.leadGroup k) } := rfl

theorem Frm.leadGroup (h : Frm m s t) (hm : m.testBit 5 = false) : t.leadGroup = s.leadGroup := by rw [State.leadGroup, State.leadGroup, h.grpOf hm, h.grpOf hm]

/-- The pair's own commit arms: nothing waits for READY, and the bank is armed at the frame its ARM tells. -/
theorem State.armPair_own (k : Option Nat) (hwait : s.cfg.waitReady = some f) :
    (s.armPair true k).cfg = { s.cfg with armAt := none, waitReady := none, flip := some (f.armedFor s.leadGroup k) } := by
  let noted : State := { s with cfg := { s.cfg with armAt := none, waitReady := none }, twin := { s.twin with resync := 2 } }
  have hsent : Frm 8891924496 noted (noted.sendOn 2 .twin (.cfgArm (armWord k))) := State.sendOn_frm (Sub.refl _) (Frm.refl _ _)
  have harms : s.armPair true k = (noted.sendOn 2 .twin (.cfgArm (armWord k))).armFlip f k := by
    unfold State.armPair
    rw [hwait]
    rfl
  rw [harms, State.armFlip_cfg, hsent .cfg rfl, hsent.leadGroup rfl]
  rfl

theorem State.acceptedCfg_keeps (s : State) (c : CfgSt) : s.keepsBut [.link, .cfg, .freeCtr] { s.rxAccept 2 with cfg := c } := by
  have hm := Sub.refl (8796361457664 ||| 4294967296)
  exact Frm.keepsParts (frm_mk (State.rxAccept_frm (hm.le (by decide)) (Frm.refl (8796361457664 ||| 4294967296) s))) (by decide)

theorem execCfgData_held {ws : List W32} (hservice : s.inService 2 = true) (hstandby : s.isStandby = true) :
    exec (.cfgData ws false) s = .next { s.rxAccept 2 with cfg := { (s.rxAccept 2).cfg with twinData := (s.rxAccept 2).cfg.twinData ++ ws } } := by
  refine (if_neg (by rw [hservice]; exact Bool.noConfusion)).trans ((if_neg ?_).trans rfl)
  rw [State.rxAccept_isStandby, hstandby]
  exact Bool.noConfusion

theorem execCfgData_ignored {ws : List W32} {l : Bool} (hservice : s.inService 2 = true) (hstandby : s.isStandby = false) : exec (.cfgData ws l) s = .next (s.rxAccept 2) :=
  (if_neg (by rw [hservice]; exact Bool.noConfusion)).trans (if_pos (by rw [State.rxAccept_isStandby, hstandby]))

theorem execCfgCtrlReady_own {crc : W32} (hservice : s.inService 2 = true) (hrole : s.twin.role = .active) (hwait : s.cfg.waitReady = some f) (harm : s.cfg.armAt = none) :
    exec (.cfgCtrlReady crc) s = .next (if crc = bankCrc s.otp.vaultFuse f.staged then (s.rxAccept 2).choose true else s.rxAccept 2) := by
  have hcfg : (s.rxAccept 2).cfg = s.cfg := s.rxAccept_changes 2 .cfg rfl
  refine (if_neg (by rw [hservice]; exact Bool.noConfusion)).trans ((if_neg ?_).trans ?_)
  · rw [State.rxAccept_twin, hcfg, harm, hrole]
    simp
  · rw [hcfg, hwait]
    dsimp only
    rw [show (s.rxAccept 2).otp = s.otp from s.rxAccept_changes 2 .otp rfl]

theorem execCfgCtrlReady_bars {crc : W32} (hservice : s.inService 2 = true) (hrole : s.twin.role = .active) (hwait : s.cfg.waitReady = some f) (hcrc : crc ≠ bankCrc s.otp.vaultFuse f.staged) :
    exec (.cfgCtrlReady crc) s = .next (s.rxAccept 2) := by
  by_cases harm : s.cfg.armAt = none
  · rw [execCfgCtrlReady_own hservice hrole hwait harm, if_neg hcrc]
  · refine (if_neg (by rw [hservice]; exact Bool.noConfusion)).trans (if_pos (.inr ?_))
    rw [show (s.rxAccept 2).cfg = s.cfg from s.rxAccept_changes 2 .cfg rfl]
    exact Option.isSome_iff_ne_none.mpr harm

/-- What READY of the standby leads to, the frame chosen as the lead group runs. -/
theorem State.choose_led {g : Nat} (hlead : s.leadGroup = some g) : s.choose true =
    if Look.scheduled s.cfgv g then s.armPair true (some (s.chooseFrame g)) else { s with cfg := { s.cfg with armAt := some (true, s.now + nsTq 1000000) } } := by
  unfold State.choose
  rw [hlead]

theorem State.choose_unled (hlead : s.leadGroup = none) : s.choose true = s.armPair true none := by
  unfold State.choose
  rw [hlead]

/-- The bank that a READY arms, and what its arming leaves alone. -/
theorem State.armPair_readied (k : Option Nat) (hwait : s.cfg.waitReady = some f) :
    ((s.rxAccept 2).armPair true k).cfg.waitReady = none
      ∧ (∃ a, ((s.rxAccept 2).armPair true k).cfg.flip = some a ∧ a.armed = true ∧ a.staged = f.staged ∧ a.id = f.id ∧ a.atFrame = k ∧ a.lead = s.leadGroup)
      ∧ ((s.rxAccept 2).armPair true k).cfg.live = s.cfg.live ∧ s.keepsBut [.regs, .ffPort, .link, .cfg, .twin, .freeCtr] ((s.rxAccept 2).armPair true k) := by
  have hm := Sub.refl (8796361457664 ||| 13186891792)
  have haccepted := s.rxAccept_changes 2
  have hcfg : (s.rxAccept 2).cfg = s.cfg := haccepted .cfg rfl
  have harms := State.armPair_own (s := s.rxAccept 2) k ((congrArg CfgSt.waitReady hcfg).trans hwait)
  rw [hcfg, haccepted.leadGroup rfl] at harms
  refine ⟨congrArg CfgSt.waitReady harms, ⟨f.armedFor s.leadGroup k, congrArg CfgSt.flip harms, rfl, rfl, rfl, rfl, rfl⟩, by rw [harms], ?_⟩
  exact Frm.keepsParts (State.armPair_frm (hm.le (by decide)) (State.rxAccept_frm (hm.le (by decide)) (Frm.refl _ s))) (by decide)

/-- The standby that is told a frame arms at it, late where its lead group has passed it. -/
theorem execCfgCtrlArm_told {k g : Nat} (hservice : s.inService 2 = true) (hstandby : s.isStandby = true) (hwait : s.cfg.waitReady = some f) (hlead : s.leadGroup = some g) (hk : k ≠ 0xFFFFFFFFFFFFFFFF) :
    exec (.cfgCtrlArm k) s = .next (if (s.grpOf g).strobed = true ∧ k ≤ (s.grpOf g).doneK then
      ({ s.rxAccept 2 with cfg := { s.cfg with waitReady := none } } : State).armFlip { f with late := true } none
      else ({ s.rxAccept 2 with cfg := { s.cfg with waitReady := none } } : State).armFlip f (some k)) := by
  have haccepted := s.rxAccept_changes 2
  have hcfg : (s.rxAccept 2).cfg = s.cfg := haccepted .cfg rfl
  let waits : State := { s.rxAccept 2 with cfg := { s.cfg with waitReady := none } }
  have hm := Sub.refl (8796361457664 ||| 4294967296)
  have hwaits : Frm (8796361457664 ||| 4294967296) s waits := frm_mk (State.rxAccept_frm (hm.le (by decide)) (Frm.refl _ s))
  refine (if_neg (by rw [hservice]; exact Bool.noConfusion)).trans ?_
  rw [State.rxAccept_isStandby, hstandby, hcfg, hwait]
  dsimp only
  rw [show waits.leadGroup = some g from (hwaits.leadGroup rfl).trans hlead]
  dsimp only
  rw [if_neg hk, show waits.grpOf g = s.grpOf g from hwaits.grpOf rfl]
  by_cases hended : (s.grpOf g).strobed = true ∧ k ≤ (s.grpOf g).doneK
  · rw [if_pos hended, if_pos (by rw [hended.1, decide_eq_true hended.2]; rfl)]
  · rw [if_neg hended, if_neg (fun hall => hended (by simpa using hall))]

theorem State.armTold_keeps (s : State) (a : FlipSt) (k : Option Nat) : s.keepsBut [.link, .cfg, .freeCtr] (({ s.rxAccept 2 with cfg := { s.cfg with waitReady := none } } : State).armFlip a k) :=
  s.acceptedCfg_keeps _

/-- The active that has waited 50 ms arms alone. -/
theorem execCfgReadyTimeout_alone {n : Nat} (harm : s.cfg.armAt = none) (hwait : s.cfg.waitReady = some f) (hid : f.id = some n) :
    exec .cfgReadyTimeout s = .next (({ s.reachUp (f.sentUp + 50000000) with cfg := { (s.reachUp (f.sentUp + 50000000)).cfg with waitReady := none, dataOut := [] } } : State).armFlip f none) := by
  change execCfgReadyTimeout s = _
  unfold execCfgReadyTimeout
  rw [harm, hwait]
  exact if_pos (by rw [hid]; rfl)

/-- The bank that waits for READY is armed alone, at no frame. -/
theorem State.waitEnds (s : State) (f : FlipSt) (up : Nat) : let u := ({ s.reachUp up with cfg := { (s.reachUp up).cfg with waitReady := none, dataOut := [] } } : State).armFlip f none
    u.cfg.waitReady = none ∧ (∃ a, u.cfg.flip = some a ∧ a.armed = true ∧ a.staged = f.staged ∧ a.id = f.id ∧ a.atFrame = none) ∧ u.cfg.live = s.cfg.live ∧ u.tm = (s.reachUp up).tm ∧ s.keepsBut [.tm, .cfg] u := by
  have hm := Sub.refl (1 ||| 4294967296)
  refine ⟨rfl, ⟨f.armedFor _ none, rfl, rfl, rfl, rfl, rfl⟩, (s.reachUp_changes _).live rfl, rfl, ?_⟩
  exact Frm.keepsParts (State.armFlip_frm (hm.le (by decide)) (frm_mk (State.reachUp_frm (hm.le (by decide)) (Frm.refl (1 ||| 4294967296) s)))) (by decide)

/-- Settles O44: CFG_DATA held, READY answered by choose, ARM by execCfgCtrlArm_told, and the wait for READY that ends. -/
theorem commitsReachTheStandby : Obligations.CommitsReachTheStandby := by
  intro s _
  have haccepted := s.rxAccept_changes 2
  have hcfg : (s.rxAccept 2).cfg = s.cfg := haccepted .cfg rfl
  have hnow : (s.rxAccept 2).now = s.now := s.rxAccept_now 2
  refine ⟨fun ws hservice hstandby => ⟨_, execCfgData_held hservice hstandby, ?_, ?_⟩, fun ws l hservice hstandby => execCfgData_ignored hservice hstandby,
    fun crc f hservice hrole hwait harm hcrc => ?_, fun crc f hservice hrole hwait hcrc => execCfgCtrlReady_bars hservice hrole hwait hcrc,
    fun k f g hservice hstandby hwait hlead hk => ?_, fun f n harm hwait hid => ⟨_, execCfgReadyTimeout_alone harm hwait hid, s.waitEnds f _⟩⟩
  · rw [hcfg]
  · exact s.acceptedCfg_keeps _
  · have hexec := execCfgCtrlReady_own (crc := crc) hservice hrole hwait harm
    rw [if_pos hcrc] at hexec
    refine ⟨fun g hlead hscheduled => ?_, fun g hlead hscheduled => ?_, fun hlead => ?_⟩
    · have hframe : (s.rxAccept 2).chooseFrame g = max (s.grpOf g).nextK (Look.firstK s.cfgv g (s.now + nsTq 1000000)) := by
        rw [State.chooseFrame, haccepted.grpOf rfl, haccepted.cfgv rfl rfl, hnow]
      rw [State.choose_led ((haccepted.leadGroup rfl).trans hlead), haccepted.cfgv rfl rfl, if_pos hscheduled, hframe] at hexec
      exact ⟨_, hexec, State.armPair_readied _ hwait⟩
    · rw [State.choose_led ((haccepted.leadGroup rfl).trans hlead), haccepted.cfgv rfl rfl, if_neg (Bool.eq_false_iff.mp hscheduled), hcfg, hnow] at hexec
      exact ⟨_, hexec, rfl, s.acceptedCfg_keeps _⟩
    · rw [State.choose_unled ((haccepted.leadGroup rfl).trans hlead)] at hexec
      exact ⟨_, hexec, State.armPair_readied _ hwait⟩
  · refine ⟨_, execCfgCtrlArm_told hservice hstandby hwait hlead hk, ?_⟩
    by_cases hended : (s.grpOf g).strobed = true ∧ k ≤ (s.grpOf g).doneK
    · rw [if_pos hended]
      refine ⟨rfl, ⟨_, rfl, rfl, rfl, fun hahead => ?_, fun _ _ => ⟨rfl, rfl⟩⟩, s.armTold_keeps _ _⟩
      obtain ⟨hstrobed, hpast⟩ := hended
      rcases hahead with hnone | hsooner
      · exact absurd (hnone.symm.trans hstrobed) Bool.false_ne_true
      · omega
    · rw [if_neg hended]
      exact ⟨rfl, ⟨_, rfl, rfl, rfl, fun _ => ⟨rfl, rfl⟩, fun hstrobed hpast => absurd ⟨hstrobed, hpast⟩ hended⟩, s.armTold_keeps _ _⟩

end Sys2Proof.Machine
end

section
/-! PROOFS. The engine's writes to flash: words gathered into page programs or discarded, their ends, and erases (R429, R432). -/

namespace Sys2Proof.Machine

open Sys2Proof

set_option Elab.async false

variable {O : OtpSt} {Q : List Instr} {s t u : State} {m n a : Nat} {second : Bool} {data : List Byte}

/-! ### A stretch of words is written (R429) -/

theorem flashWrites_nil {fresh : Bool} {offset : Nat} : flashWrites n fresh offset [] s = s := by
  cases n <;> rfl

/-- The first word of a stretch, denied or gathered. -/
theorem flashWrites_word {fresh : Bool} {offset : Nat} (hdata : data ≠ []) (hoff : offset < 67108864) : flashWrites (n + 1) fresh offset data s =
    if s.flash.denies (decide (33554432 ≤ offset)) (offset % 33554432) (data.take (4 - offset % 4)).length then
      flashWrites n true (offset + (4 - offset % 4)) (data.drop (4 - offset % 4)) (s.bump 0x70008)
    else flashWrites n false (offset + (4 - offset % 4)) (data.drop (4 - offset % 4))
      { s with flash := s.flash.gather fresh (decide (33554432 ≤ offset)) (offset % 33554432) (data.take (4 - offset % 4)) } := by
  obtain ⟨b, bs, rfl⟩ := List.exists_cons_of_ne_nil hdata
  exact if_neg (Nat.not_le.mpr hoff)

/-- A stretch of one word. -/
theorem flashWrites_single {offset : Nat} (hdata : data ≠ []) (hoff : offset < 67108864) (hshort : data.length ≤ 4 - offset % 4) : flashWrites data.length true offset data s =
    if s.flash.denies (decide (33554432 ≤ offset)) (offset % 33554432) data.length then s.bump 0x70008
    else { s with flash := s.flash.gather true (decide (33554432 ≤ offset)) (offset % 33554432) data } := by
  obtain ⟨n, hn⟩ := Nat.exists_eq_succ_of_ne_zero (mt List.length_eq_zero_iff.mp hdata)
  rw [hn, flashWrites_word hdata hoff, List.take_of_length_le hshort, List.drop_eq_nil_of_le hshort, flashWrites_nil, flashWrites_nil, hn]

/-- The first word of a stretch begins a write of its own. -/
theorem FlashSt.gather_fresh (f : FlashSt) (second : Bool) (a : Nat) (bs : List Byte) : f.gather true second a bs = { f with writes := f.writes ++ [⟨second, a, bs, false⟩] } := by
  unfold FlashSt.gather
  split
  · exact if_neg (fun hall => Bool.noConfusion hall.1)
  · next hnone => rw [List.getLast?_eq_none_iff.mp hnone, List.nil_append]

/-- A word behind the newest write of its page joins it; in the next page it begins a write. -/
theorem FlashSt.gather_behind {f : FlashSt} {x : FlashWrite} {bs : List Byte} (hlast : f.writes.getLast? = some x) (hwaits : x.begun = false) (hsecond : x.second = second) (hbehind : x.offset + x.data.length = a) :
    f.gather false second a bs = if x.offset / f.page second = a / f.page second then { f with writes := f.writes.dropLast ++ [{ x with data := x.data ++ bs }] }
      else { f with writes := f.writes ++ [⟨second, a, bs, false⟩] } := by
  unfold FlashSt.gather
  rw [hlast]
  dsimp only
  by_cases hpage : x.offset / f.page second = a / f.page second
  · rw [if_pos hpage, if_pos ⟨rfl, hwaits, hsecond, hbehind, hpage⟩]
  · rw [if_neg hpage, if_neg (fun hall => hpage hall.2.2.2.2)]

/-- Gathering writes leaves what the memories hold. -/
theorem FlashSt.gather_mem (f : FlashSt) (fresh second : Bool) (a : Nat) (bs : List Byte) (b : Bool) : (f.gather fresh second a bs).mem b = f.mem b := by
  unfold FlashSt.gather
  split
  · split <;> rfl
  · rfl

theorem flashWrites_mem (n : Nat) (b : Bool) : ∀ (fresh : Bool) (offset : Nat) (data : List Byte) (s : State), (flashWrites n fresh offset data s).flash.mem b = s.flash.mem b := by
  induction n with
  | zero => exact fun _ _ _ _ => rfl
  | succ n ih =>
    intro fresh offset data s
    by_cases hdata : data = []
    · rw [hdata, flashWrites_nil]
    · by_cases hoff : offset < 67108864
      · rw [flashWrites_word hdata hoff]
        split
        · exact ih _ _ _ _
        · exact (ih _ _ _ _).trans (s.flash.gather_mem _ _ _ _ b)
      · obtain ⟨c, cs, rfl⟩ := List.exists_cons_of_ne_nil hdata
        exact congrArg (fun t : State => t.flash.mem b) (if_pos (Nat.not_lt.mp hoff))

theorem State.flashBegin_mem (s : State) (b : Bool) : s.flashBegin.flash.mem b = s.flash.mem b := by
  unfold State.flashBegin
  split <;> rfl

theorem execFlashProgram_runs {offset : Nat} (hup : s.boot.engine = .up) (hoff : offset < 67108864) (hdata : data ≠ []) :
    exec (.flashProgram offset data) s = .next (flashWrites data.length true offset data s).flashBegin :=
  if_neg (fun hall => hall.elim (fun h => h hup) (fun h => h.elim (Nat.not_le.mpr hoff) hdata))

theorem execFlashProgram_leaves {offset : Nat} (h : exec (.flashProgram offset data) s = .next u) (hup : s.boot.engine = .up) (hoff : offset < 67108864) (hdata : data ≠ []) :
    (∀ second, u.flash.mem second = s.flash.mem second) ∧ s.keepsBut [.regs, .host, .flash] u := by
  obtain rfl := Host.Outcome.next.inj (h.symm.trans (execFlashProgram_runs hup hoff hdata))
  refine ⟨fun second => (State.flashBegin_mem _ second).trans (flashWrites_mem _ second _ _ _ _), ?_⟩
  exact Frm.keepsParts (State.flashBegin_frm ((Sub.refl 275414777872).le (by decide)) (flashWrites_frm (Sub.refl 275414777872) (Frm.refl _ s))) (by decide)

/-! ### What is denied (R432) -/

/-- Bytes a to a + n meet the range from lo to hi. -/
def FlashSt.meets (a n lo hi : Nat) : Bool := decide (a < hi ∧ lo < a + n)

theorem FlashSt.denies_eq (f : FlashSt) (second : Bool) (a n : Nat) : f.denies second a n =
    ((decide (second = f.runningB) && FlashSt.meets a n 0 0xA00000) || FlashSt.meets a n 0xA40000 0xA80000 || FlashSt.meets a n 0xC00000 0x1700000
      || f.written.any (fun r => decide (r.1 = second) && FlashSt.meets a n r.2.1 (r.2.1 + r.2.2))
      || f.writes.any (fun w => decide (w.second = second) && FlashSt.meets a n w.offset (w.offset + w.data.length))) := rfl

theorem FlashSt.denies_running {f : FlashSt} (hn : 0 < n) (ha : a < 0xA00000) : f.denies f.runningB a n = true := by
  have hmeets : FlashSt.meets a n 0 0xA00000 = true := decide_eq_true ⟨ha, Nat.add_pos_right a hn⟩
  simp [FlashSt.denies_eq, hmeets]

theorem FlashSt.denies_kept {f : FlashSt} (h : (a < 0xA80000 ∧ 0xA40000 < a + n) ∨ (a < 0x1700000 ∧ 0xC00000 < a + n)) : f.denies second a n = true := by
  rw [FlashSt.denies_eq]
  rcases h with h | h
  · rw [show FlashSt.meets a n 0xA40000 0xA80000 = true from decide_eq_true h, Bool.or_true, Bool.true_or, Bool.true_or, Bool.true_or]
  · rw [show FlashSt.meets a n 0xC00000 0x1700000 = true from decide_eq_true h, Bool.or_true, Bool.true_or, Bool.true_or]

theorem FlashSt.denies_written {f : FlashSt} {r : Bool × Nat × Nat} (hr : r ∈ f.written) (hlo : a < r.2.1 + r.2.2) (hhi : r.2.1 < a + n) : f.denies r.1 a n = true := by
  have hany : f.written.any (fun x => decide (x.1 = r.1) && FlashSt.meets a n x.2.1 (x.2.1 + x.2.2)) = true :=
    List.any_eq_true.mpr ⟨r, hr, by rw [decide_eq_true rfl, show FlashSt.meets a n r.2.1 (r.2.1 + r.2.2) = true from decide_eq_true ⟨hlo, hhi⟩]; rfl⟩
  rw [FlashSt.denies_eq, hany, Bool.or_true, Bool.true_or]

/-! ### A page program ends -/

theorem State.progFail_changes (s : State) : Frm 1649804312592 s s.progFail := State.progFail_frm (Sub.refl _) (Frm.refl _ s)

/-- A program that failed is counted, and its bit stands. -/
theorem State.progFail_counts (h : Good O Q s) : s.progFail.reg 0x70004 = (s.reg 0x70004).satAdd 1 ∧ s.progFail.bit Reg.flashStatus 8 = true := by
  have hcount : (s.bump 0x70004).reg 0x70004 = (s.reg 0x70004).satAdd 1 := State.reg_setReg_self h
  unfold State.progFail
  constructor
  · rw [State.raise_reg (by unfold quietReg; decide), State.setBit_reg (by decide), hcount]
  · rw [State.bit, State.raise_reg (by unfold quietReg; decide)]
    exact State.setBit_bit (State.bumpBy_good h) (by decide)

theorem FlashSt.setMem_mem (f : FlashSt) (second : Bool) (x : List Host.Cell) : (f.setMem second x).mem second = x ∧ (f.setMem second x).mem (!second) = f.mem (!second) := by
  cases second <;> exact ⟨rfl, rfl⟩

theorem FlashSt.program_mem (f : FlashSt) (second : Bool) (a : Nat) (bs : List Byte) :
    (f.program second a bs).mem second = flashPut (f.mem second) a bs ∧ (f.program second a bs).mem (!second) = f.mem (!second) := f.setMem_mem second _

theorem FlashSt.program_writes (f : FlashSt) (second : Bool) (a : Nat) (bs : List Byte) : (f.program second a bs).writes = f.writes := by
  cases second <;> rfl

/-- The flash with the program of a device ended, and the next ones begun where no record waits. -/
def State.programEnded (s : State) (second : Bool) : State := ({ s with flash := { s.flash with writes := dropWrite second s.flash.writes } } : State).flashBegin

theorem State.programEnded_flash (s : State) (second : Bool) : (s.programEnded second).flash =
    { s.flash with writes := if s.vault.toStore.isEmpty then beginFirst false (beginFirst true (dropWrite second s.flash.writes)) else dropWrite second s.flash.writes } := by
  unfold State.programEnded State.flashBegin
  split <;> rfl

theorem State.programEnded_mem (s : State) (second b : Bool) : (s.programEnded second).flash.mem b = s.flash.mem b ∧ (s.programEnded second).flash.present b = s.flash.present b := by
  rw [State.programEnded_flash]
  exact ⟨rfl, rfl⟩

theorem execFlashProgramDone_idle {w : FlashWrite} {ok : Bool} (hfind : s.flash.writes.find? (fun x => x.second == second) = some w) (hbegun : w.begun = false) :
    exec (.flashProgramDone second ok) s = .next s := by
  change execFlashProgramDone second ok s = _
  unfold execFlashProgramDone
  rw [hfind]
  exact if_pos hbegun

theorem execFlashProgramDone_none {ok : Bool} (hfind : s.flash.writes.find? (fun x => x.second == second) = none) :
    exec (.flashProgramDone second ok) s = .next (if ok then s else s.stageFail second) := by
  change execFlashProgramDone second ok s = _
  unfold execFlashProgramDone
  rw [hfind]

theorem execFlashProgramDone_ends {w : FlashWrite} {ok : Bool} (hfind : s.flash.writes.find? (fun x => x.second == second) = some w) (hbegun : w.begun = true) :
    exec (.flashProgramDone second ok) s = if ok && (s.programEnded second).flash.present second
      then .next { s.programEnded second with flash := (s.programEnded second).flash.program second w.offset w.data }
      else .next ({ s.programEnded second with
        flash := (s.programEnded second).flash.program second w.offset (freeBytes (s.programEnded second).freeCtr w.data.length), freeCtr := (s.programEnded second).freeCtr + w.data.length } : State).progFail := by
  change execFlashProgramDone second ok s = _
  unfold execFlashProgramDone
  rw [hfind]
  exact if_neg (by rw [hbegun]; exact Bool.noConfusion)

/-- A program that ends well is in the memory; the other device is as it was. -/
theorem execFlashProgramDone_written {w : FlashWrite} (hfind : s.flash.writes.find? (fun x => x.second == second) = some w) (hbegun : w.begun = true) (hpresent : s.flash.present second = true) :
    Runs (.flashProgramDone second true) s (fun u => u.flash.mem second = flashPut (s.flash.mem second) w.offset w.data
      ∧ u.flash.mem (!second) = s.flash.mem (!second) ∧ u.flash.writes = (if s.vault.toStore.isEmpty then beginFirst false (beginFirst true (dropWrite second s.flash.writes)) else dropWrite second s.flash.writes) ∧ s.keepsBut [.flash] u) := by
  have hm := Sub.refl 274877906944
  have hexec := execFlashProgramDone_ends (ok := true) hfind hbegun
  rw [(s.programEnded_mem second second).2, hpresent, if_pos (by rfl)] at hexec
  obtain ⟨hmem, hother⟩ := (s.programEnded second).flash.program_mem second w.offset w.data
  refine ⟨_, hexec, hmem.trans ?_, hother.trans (s.programEnded_mem second _).1, ?_, ?_⟩
  · rw [(s.programEnded_mem second second).1]
  · rw [FlashSt.program_writes, State.programEnded_flash]
  · exact Frm.keepsParts (frm_mk (State.flashBegin_frm (hm.le (by decide)) (frm_mk (Frm.refl 274877906944 s)))) (by decide)

/-- A program that fails is counted and raised; what its bytes hold is not known. -/
theorem execFlashProgramDone_fails {w : FlashWrite} (h : Good O Q s) (hfind : s.flash.writes.find? (fun x => x.second == second) = some w) (hbegun : w.begun = true) :
    Runs (.flashProgramDone second false) s (fun u => u.reg 0x70004 = (s.reg 0x70004).satAdd 1 ∧ u.bit Reg.flashStatus 8 = true ∧ u.flash.mem (!second) = s.flash.mem (!second)
      ∧ u.flash.writes = (if s.vault.toStore.isEmpty then beginFirst false (beginFirst true (dropWrite second s.flash.writes)) else dropWrite second s.flash.writes) ∧ s.keepsBut (.flash :: .freeCtr :: reportParts) u) := by
  have hm := Sub.refl (274877906944 ||| 8796093022208 ||| 1649804312592)
  have hexec := execFlashProgramDone_ends (ok := false) hfind hbegun
  rw [Bool.false_and, if_neg Bool.false_ne_true] at hexec
  let left : State := { s.programEnded second with
    flash := (s.programEnded second).flash.program second w.offset (freeBytes (s.programEnded second).freeCtr w.data.length), freeCtr := (s.programEnded second).freeCtr + w.data.length }
  have hended : Good O Q (s.programEnded second) := State.flashBegin_good (good_mk h rfl rfl rfl rfl)
  have hleft : Good O Q left := good_mk hended rfl rfl rfl rfl
  have hregs : left.reg 0x70004 = s.reg 0x70004 := (State.flashBegin_frm (Sub.refl _) (Frm.refl _ _)).reg rfl
  obtain ⟨hcount, hbit⟩ := State.progFail_counts hleft
  have hflash : left.progFail.flash = left.flash := left.progFail_changes .flash rfl
  refine ⟨left.progFail, hexec, hcount.trans (by rw [hregs]), hbit, ?_, ?_, ?_⟩
  · rw [hflash]
    exact ((s.programEnded second).flash.program_mem second _ _).2.trans (s.programEnded_mem second _).1
  · rw [hflash]
    exact (FlashSt.program_writes _ _ _ _).trans (by rw [State.programEnded_flash])
  · exact Frm.keepsParts (State.progFail_frm (hm.le (by decide)) (frm_mk (State.flashBegin_frm (hm.le (by decide)) (frm_mk (Frm.refl (274877906944 ||| 8796093022208 ||| 1649804312592) s))))) (by decide)

/-- A program of a chunk that FW_STAGE writes fails. -/
theorem execFlashProgramDone_stage {id : Nat} {d : Desc} (h : Good O Q s) (hfind : s.flash.writes.find? (fun x => x.second == second) = none) (hd : s.serves id 0x50 d) (hidle : second ≠ s.flash.runningB) :
    Runs (.flashProgramDone second false) s (fun u => u.flash = { s.flash with stageBad := true } ∧ u.reg 0x70004 = (s.reg 0x70004).satAdd 1 ∧ u.bit Reg.flashStatus 8 = true ∧ s.keepsBut (.flash :: reportParts) u) := by
  have hm := Sub.refl (274877906944 ||| 1649804312592)
  obtain ⟨hdesc, hop, hbad, -⟩ := hd
  have hin : s.host.inflight.any (fun d => decide (d.op = 0x50) && decide (d.bad = 0)) = true :=
    List.any_eq_true.mpr ⟨d, List.mem_of_find?_eq_some hdesc, by rw [hop, hbad]; rfl⟩
  have hexec := execFlashProgramDone_none (ok := false) hfind
  rw [if_neg Bool.false_ne_true, State.stageFail, if_pos ⟨hidle, hin⟩] at hexec
  have hnoted : Good O Q { s with flash := { s.flash with stageBad := true } } := good_mk h rfl rfl rfl rfl
  refine ⟨_, hexec, State.progFail_changes _ .flash rfl, (State.progFail_counts hnoted).1, (State.progFail_counts hnoted).2, ?_⟩
  exact Frm.keepsParts (State.progFail_frm (hm.le (by decide)) (frm_mk (Frm.refl (274877906944 ||| 1649804312592) s))) (by decide)

/-! ### An erase ends -/

theorem FlashSt.erase_mem (f : FlashSt) (second : Bool) (lo n : Nat) : (f.erase second lo n).mem (!second) = f.mem (!second)
    ∧ ∀ a, Cells.get flashByte ((f.erase second lo n).mem second) a = if lo ≤ a ∧ a < lo + n then flashByte a else Cells.get flashByte (f.mem second) a := by
  obtain ⟨hmem, hother⟩ := f.setMem_mem second ((f.mem second).filter (fun c => !decide (lo ≤ c.1 ∧ c.1 < lo + n)))
  refine ⟨hother, fun a => ?_⟩
  refine (congrArg (fun x => Cells.get flashByte x a) hmem).trans ((Cells.get_filter (p := fun k => !decide (lo ≤ k ∧ k < lo + n)) _).trans ?_)
  by_cases hin : lo ≤ a ∧ a < lo + n
  · rw [if_pos hin, if_neg (by simp [hin])]
  · rw [if_neg hin, if_pos (by rw [decide_eq_false hin]; rfl)]

/-- Settles O55: flashWrites word by word, gather, denies, and the ends of programs and erases. -/
theorem flashWritesAreProgrammedOrDenied : Obligations.FlashWritesAreProgrammedOrDenied := by
  intro s hwf
  have h := good_of_wf hwf
  refine ⟨fun offset data hup hoff hdata => ⟨execFlashProgram_runs hup hoff hdata, fun u hu => execFlashProgram_leaves hu hup hoff hdata, fun hshort hdeny => ?_, fun hshort hgrant => ?_⟩,
    fun offset data hidle => if_pos hidle, fun n fresh offset data hdata hoff second a w hsecond ha hw => ?_,
    fun a n hn => ⟨FlashSt.denies_running hn, fun second => FlashSt.denies_kept, fun r hr => FlashSt.denies_written hr⟩,
    fun second w hfind hbegun ok => execFlashProgramDone_idle hfind hbegun, fun second hfind => ⟨?_, fun hstage hidle => ?_⟩,
    fun second w hfind hbegun => ⟨execFlashProgramDone_written hfind hbegun, execFlashProgramDone_fails h hfind hbegun⟩, fun second offset large => ⟨_, rfl, ?_, ?_⟩⟩
  · rw [execFlashProgram_runs hup hoff hdata, flashWrites_single hdata hoff hshort, if_pos hdeny]
  · rw [execFlashProgram_runs hup hoff hdata, flashWrites_single hdata hoff hshort, if_neg (Bool.eq_false_iff.mp hgrant), FlashSt.gather_fresh]
  · subst hsecond ha hw
    refine ⟨fun hdeny => ?_, fun hgrant => ?_, fun x hlast hfresh hwaits hsec hbehind => ?_⟩
    · rw [flashWrites_word hdata hoff, if_pos hdeny]
    · rw [flashWrites_word hdata hoff, if_neg (Bool.eq_false_iff.mp hgrant)]
    · rw [hfresh, FlashSt.gather_behind hlast hwaits hsec hbehind]
      exact ⟨fun hpage => if_pos hpage, fun hpage => if_neg hpage⟩
  · rw [execFlashProgramDone_none hfind, if_pos rfl]
  · obtain ⟨id, d, hd⟩ := hstage
    exact execFlashProgramDone_stage h hfind hd hidle
  · have hm := Sub.refl 274877906944
    exact Frm.keepsParts (frm_mk (Frm.refl 274877906944 s)) (by decide)
  · exact FlashSt.erase_mem _ _ _ _

end Sys2Proof.Machine
end

section
/-! PROOFS. Errors: merged in one cycle, recorded or coalesced, placed in the log, and popped (R457 to R462). -/

namespace Sys2Proof.Machine

open Sys2Proof

set_option Elab.async false

variable {O : OtpSt} {Q : List Instr} {s t u : State} {m a : Nat} {e : ErrIn} {r : ErrRec} {h : Handling}

/-! ### The errors of one cycle (R457) -/

theorem mergeErrs_pair (a b : ErrIn) : mergeErrs [a, b] = mergeErr b [(a, 1)] := rfl

theorem mergeErrs_same {a b : ErrIn} (h : a.rank = b.rank) :
    mergeErrs [a, b] = [({ a with cls := max a.cls b.cls, engine := a.engine || b.engine, injected := a.injected || b.injected, recovers := a.recovers || b.recovers }, 2)] := by
  rw [mergeErrs_pair, mergeErr, if_neg (Nat.not_lt.mpr (Nat.le_of_eq h)), if_pos h.symm]

/-- Two errors of one cycle are listed in rising rank, however they came. -/
theorem mergeErrs_ranked {a b : ErrIn} (h : a.rank < b.rank) : mergeErrs [a, b] = [(a, 1), (b, 1)] ∧ mergeErrs [b, a] = [(a, 1), (b, 1)] := by
  constructor
  · rw [mergeErrs_pair, mergeErr, if_neg (Nat.lt_asymm h), if_neg (Nat.ne_of_gt h), mergeErr]
  · rw [mergeErrs_pair, mergeErr, if_pos h]

theorem State.raiseAll_gathers {g : List ErrIn} (es : List ErrIn) (h : s.log.gather = some g) :
    s.raiseAll es = { s with log := { s.log with gather := some (g ++ es.map (fun e => { e with injected := e.injected || s.injectedNow })) } } := by
  unfold State.raiseAll
  rw [h]

theorem State.raiseAll_records (es : List ErrIn) (h : s.log.gather = none) : s.raiseAll es = s.record es := by
  unfold State.raiseAll
  rw [h]

/-- A cycle that leaves nothing but its errors records them. -/
theorem State.oneCycle_records {es : List ErrIn} {f : State → State} (h : s.log.gather = none) (hf : f (s.gathering []) = s.gathering es) : s.oneCycle f = s.record es := by
  have hcycle : s.oneCycle f = (f (s.gathering [])).cycleEnds := by
    unfold State.oneCycle
    rw [h]
    rfl
  have hback : ({ s.gathering es with log := { (s.gathering es).log with gather := none } } : State) = s := by
    unfold State.gathering
    rw [← h]
  rw [hcycle, hf, State.cycleEnds, hback]
  rfl

/-! ### What a record leaves of the log and its registers (R454, R460, R462) -/

/-- A register of the error log. -/
def ofLog (a : Nat) : Prop := 0x7C000 ≤ a ∧ a < 0x7C030

theorem State.msix_ofLog {v : Nat} (hv : v < 64) (ha : ofLog a) : (s.msix v).reg a = s.reg a := by
  obtain ⟨hlow, -⟩ := ha
  have hpba : a ≠ 0x6800 + 4 * (v / 32) := by omega
  unfold State.msix
  dsimp only
  split
  · exact State.clrBit_reg hpba
  · exact State.setBit_reg hpba

theorem State.msix_log (s : State) (v : Nat) : (s.msix v).log = s.log := State.msix_frm (m := 536870928) (Sub.refl _) (Frm.refl _ s) .log rfl

theorem field_vector (w : W32) : field w 5 0 < 64 := Nat.mod_lt _ (by decide)

/-- The message of a record touches neither the log's registers nor what the log holds. -/
theorem State.errMsi_ofLog (s : State) (cls : Nat) : (∀ a, ofLog a → (s.errMsi cls).reg a = s.reg a)
    ∧ (s.errMsi cls).log.records = s.log.records ∧ (s.errMsi cls).log.handling = s.log.handling ∧ (s.errMsi cls).log.lostNext = s.log.lostNext := by
  unfold State.errMsi
  dsimp only
  split
  · exact ⟨fun _ _ => rfl, rfl, rfl, rfl⟩
  · split
    · split
      · exact ⟨fun _ _ => rfl, rfl, rfl, rfl⟩
      · rw [State.msix_log]
        exact ⟨fun _ ha => State.msix_ofLog (field_vector _) ha, rfl, rfl, rfl⟩
    · rw [State.msix_log]
      exact ⟨fun _ ha => State.msix_ofLog (field_vector _) ha, rfl, rfl, rfl⟩

theorem State.traceAdd_ofLog {k n : Nat} {d : W32} (ha : ofLog a) : (s.traceAdd k n d).reg a = s.reg a := by
  obtain ⟨-, htop⟩ := ha
  have htrace : a ≠ Reg.traceStatus := by
    unfold Reg.traceStatus
    omega
  unfold State.traceAdd State.traceStore
  dsimp only
  split
  · split
    · rfl
    · split
      · split <;> rfl
      · split
        · rfl
        · split <;> exact State.setBit_reg htrace
  · rfl

/-- The next ESEQ is taken and traced. -/
def State.numbered (s : State) : State := (s.setReg 0x7C00C (s.reg 0x7C00C + 1)).traceAdd 0x80 2 (s.reg 0x7C00C)

theorem State.numbered_log (s : State) : s.numbered.log = s.log := State.traceAdd_log _ _ _ _

theorem State.numbered_good (h : Good O Q s) : Good O Q s.numbered := State.traceAdd_good (State.setReg_good h)

theorem State.numbered_eseq (h : Good O Q s) : s.numbered.reg 0x7C00C = s.reg 0x7C00C + 1 :=
  (State.traceAdd_ofLog ⟨by decide, by decide⟩).trans (State.reg_setReg_self h)

theorem State.numbered_reg (ha : ofLog a) (hne : a ≠ 0x7C00C) : s.numbered.reg a = s.reg a := (State.traceAdd_ofLog ha).trans (State.reg_setReg_other hne)

/-- A record as it stands in a log with room. -/
def State.listed (s : State) (r : ErrRec) : State :=
  { s.numbered with log := { s.log with records := s.log.records ++ [{ r with eseq := s.reg 0x7C00C, lostBefore := s.log.lostNext }], lostNext := false } }

theorem State.formRecord_listed (hroom : s.log.records.length < 512) : s.formRecord r = (s.listed r).errMsi r.cls := by
  have hforms : s.formRecord r = if s.numbered.log.records.length < 512 then
      ({ s.numbered with log := { s.numbered.log with records := s.numbered.log.records ++ [{ r with eseq := s.reg 0x7C00C, lostBefore := s.numbered.log.lostNext }], lostNext := false } } : State).errMsi r.cls else s.formRecord r := by
    split
    · next h => exact if_pos h
    · rfl
  rw [hforms, State.numbered_log, if_pos hroom]
  rfl

/-- A log without a victim for the record loses it. -/
theorem State.formRecord_lost (hfull : 512 ≤ s.log.records.length) (hvictim : logVictim r.cls s.log.records = none) :
    s.formRecord r = ({ s.numbered with log := { s.log with lostNext := true } } : State).logLost := by
  refine (if_neg ?_).trans ?_
  · rw [show ((s.setReg 0x7C00C (s.reg 0x7C00C + 1)).traceAdd 0x80 2 (s.reg 0x7C00C)).log = s.log from s.numbered_log]
    exact Nat.not_lt.mpr hfull
  · dsimp only
    rw [show ((s.setReg 0x7C00C (s.reg 0x7C00C + 1)).traceAdd 0x80 2 (s.reg 0x7C00C)).log = s.log from s.numbered_log, hvictim]
    rfl

theorem State.logLost_regElse (hbit : a ≠ Reg.errStatus) (hlost : a ≠ 0x7C010) : s.logLost.reg a = s.reg a :=
  (State.setBit_reg hbit).trans (State.bump_reg hlost)

/-- Forming a record leaves the counters of the classes and every handling. -/
theorem State.formRecord_leaves (s : State) (r : ErrRec) : (∀ a, 0x7C014 ≤ a → a < 0x7C030 → (s.formRecord r).reg a = s.reg a) ∧ (s.formRecord r).log.handling = s.log.handling := by
  have hlost : ∀ (t : State) (a : Nat), 0x7C014 ≤ a → t.logLost.reg a = t.reg a := fun t a ha => State.logLost_regElse (by unfold Reg.errStatus; omega) (by omega)
  have hnumbered : ∀ a, 0x7C014 ≤ a → a < 0x7C030 → s.numbered.reg a = s.reg a := fun a hlow htop => State.numbered_reg ⟨by omega, htop⟩ (by omega)
  have hhandling : s.numbered.log.handling = s.log.handling := by rw [State.numbered_log]
  have hmsi : ∀ (t : State) a, 0x7C014 ≤ a → a < 0x7C030 → (t.errMsi r.cls).reg a = t.reg a := fun t a hlow htop => (t.errMsi_ofLog r.cls).1 a ⟨by omega, htop⟩
  have hmsiLog : ∀ t : State, (t.errMsi r.cls).log.handling = t.log.handling := fun t => (t.errMsi_ofLog r.cls).2.2.1
  unfold State.formRecord
  dsimp only
  split
  · exact ⟨fun a hlow htop => (hmsi _ a hlow htop).trans (hnumbered a hlow htop), (hmsiLog _).trans hhandling⟩
  · split
    · exact ⟨fun a hlow htop => (hmsi _ a hlow htop).trans ((hlost _ a hlow).trans (hnumbered a hlow htop)), (hmsiLog _).trans hhandling⟩
    · exact ⟨fun a hlow htop => (hlost _ a hlow).trans (hnumbered a hlow htop), hhandling⟩

/-! ### One error (R458, R459) -/

/-- An error is counted in its class. -/
def State.counted (s : State) (e : ErrIn) : State := s.bumpBy (0x7C020 + 4 * e.cls) 1

/-- The record that one error forms. -/
def State.recordOf (s : State) (e : ErrIn) : ErrRec :=
  { eseq := (s.counted e).reg 0x7C00C, cls := e.cls, injected := e.injected || s.injectedNow, nested := false, coalesced := false, lostBefore := false, engine := e.engine, reg := e.reg, bit := e.bit, inst := e.inst,
    tFirst := if e.early then 0 else s.nowNs, epoch := if e.early then 0xFFFF else s.epoch, count := 1, parent := 0, detail := BitVec.ofNat 32 e.detail }

theorem State.counted_good (h : Good O Q s) : Good O Q (s.counted e) := State.bumpBy_good h

theorem State.counted_eseq (s : State) (e : ErrIn) : (s.counted e).reg 0x7C00C = s.reg 0x7C00C := State.bumpBy_reg (by omega)

theorem State.counted_cls (h : Good O Q s) : (s.counted e).reg (0x7C020 + 4 * e.cls) = (s.reg (0x7C020 + 4 * e.cls)).satAdd 1 := State.reg_setReg_self h

/-- The source in its handling with a nested record. -/
def Handling.nests (h : Handling) (e : ErrIn) (eseq : W32) (wrote : Bool) : Handling :=
  { h with nested := h.nested + wrote.toNat, eighth := if h.nested = 7 ∧ wrote = true then eseq else h.eighth, eseq := if h.cls < e.cls then eseq else h.eseq,
           bit := if h.cls < e.cls then e.bit else h.bit, cls := max h.cls e.cls }

/-- The handling that an error of a source begins. -/
def State.handles (s : State) (e : ErrIn) (eseq : W32) : State := { s with log := { s.log with handling := s.log.handling ++ [⟨e.reg, e.inst, e.bit, eseq, e.cls, 0, 0⟩] } }

/-- What one counted error comes to, by the handling its source is in. -/
def State.takesError (s : State) (e : ErrIn) : Option Handling → State
  | none => if e.recovers && decide (1 ≤ e.cls) then ((s.counted e).formRecord (s.recordOf e)).handles e ((s.counted e).reg 0x7C00C) else (s.counted e).formRecord (s.recordOf e)
  | some h =>
    if 8 ≤ h.nested then
      if (s.counted e).logHeld h.eighth then ((s.counted e).logCount h.eighth 1).setHandling { h with cls := max h.cls e.cls }
      else ({ s.counted e with log := { (s.counted e).log with lostNext := true } } : State).setReg 0x7C00C ((s.counted e).reg 0x7C00C + 1) |>.traceAdd 0x80 2 ((s.counted e).reg 0x7C00C) |>.logLost
    else if e.bit = h.bit ∧ (s.counted e).logHeld h.eseq = true then ((s.counted e).logCount h.eseq 1).setHandling { h with cls := max h.cls e.cls }
    else ((s.counted e).formRecord { s.recordOf e with nested := true, parent := h.eseq }).setHandling
      (h.nests e ((s.counted e).reg 0x7C00C) (((s.counted e).formRecord { s.recordOf e with nested := true, parent := h.eseq }).logHeld ((s.counted e).reg 0x7C00C)))

theorem State.raiseOne_takes (s : State) (e : ErrIn) : s.raiseOne e 1 = s.takesError e (s.handlingOf e.reg e.inst) := by
  have hsame : (s.counted e).handlingOf e.reg e.inst = s.handlingOf e.reg e.inst := rfl
  rw [← hsame]
  unfold State.raiseOne
  change (match (s.counted e).handlingOf e.reg e.inst with
    | none => _
    | some h => _) = _
  cases (s.counted e).handlingOf e.reg e.inst <;> rfl

theorem State.raise_takes (hgather : s.log.gather = none) : s.raise e = s.takesError e (s.handlingOf e.reg e.inst) := (State.raiseAll_records [e] hgather).trans (s.raiseOne_takes e)

/-! ### A source's handling (R458) -/

theorem State.handlingOf_source {r i : Nat} (hh : s.handlingOf r i = some h) : h.reg = r ∧ h.inst = i := by
  have hfound := List.find?_some hh
  simpa using hfound

/-- A handling replaced is the one its source is in. -/
theorem State.setHandling_handlingOf {g : Handling} (hh : s.handlingOf h.reg h.inst = some g) : (s.setHandling h).handlingOf h.reg h.inst = some h := by
  unfold State.handlingOf at hh
  unfold State.handlingOf State.setHandling
  dsimp only
  generalize s.log.handling = hs at hh ⊢
  induction hs with
  | nil => cases hh
  | cons x xs ih =>
    by_cases hx : (x.reg == h.reg && x.inst == h.inst) = true
    · rw [List.map_cons, if_pos hx]
      exact List.find?_cons_of_pos (by simp)
    · rw [List.map_cons, if_neg hx]
      have hpast : ∀ ys : List Handling, (x :: ys).find? (fun g => g.reg == h.reg && g.inst == h.inst) = ys.find? (fun g => g.reg == h.reg && g.inst == h.inst) := fun ys => List.find?_cons_of_neg hx
      rw [hpast] at hh ⊢
      exact ih hh

/-- A handling that begins behind those of other sources is its source's. -/
theorem State.handles_handlingOf {eseq : W32} (hnone : s.handlingOf e.reg e.inst = none) : (s.handles e eseq).handlingOf e.reg e.inst = some ⟨e.reg, e.inst, e.bit, eseq, e.cls, 0, 0⟩ := by
  change (s.log.handling ++ _).find? _ = _
  rw [List.find?_append, show s.log.handling.find? _ = none from hnone]
  simp

theorem State.handlingOf_same {r i : Nat} (hsame : t.log.handling = s.log.handling) : t.handlingOf r i = s.handlingOf r i := congrArg (fun hs : List Handling => hs.find? (fun g : Handling => g.reg == r && g.inst == i)) hsame

/-! ### One error, case by case -/

/-- However an error is taken, its class has counted it. -/
theorem State.takesError_counts (h : Good O Q s) (hcls : e.cls ≤ 3) (known : Option Handling) : (s.takesError e known).reg (0x7C020 + 4 * e.cls) = (s.reg (0x7C020 + 4 * e.cls)).satAdd 1 := by
  have hforms : ∀ r, ((s.counted e).formRecord r).reg (0x7C020 + 4 * e.cls) = (s.counted e).reg (0x7C020 + 4 * e.cls) := fun r => ((s.counted e).formRecord_leaves r).1 _ (by omega) (by omega)
  rw [← State.counted_cls h]
  unfold State.takesError
  split
  · split
    · exact hforms _
    · exact hforms _
  · split
    · split
      · rfl
      · rw [State.logLost_regElse (by unfold Reg.errStatus; omega) (by omega), State.traceAdd_ofLog ⟨by omega, by omega⟩, State.reg_setReg_other (by omega)]
        rfl
    · split
      · rfl
      · exact hforms _

theorem State.raise_keeps (s : State) (e : ErrIn) : s.keepsBut reportParts (s.raise e) :=
  Frm.keepsParts (State.raise_frm (m := reportSet) (Sub.refl _) (Frm.refl _ s)) (by decide)

/-- A record with room is the newest of the log, under the ESEQ it took. -/
theorem State.formRecord_newest (h : Good O Q s) (hroom : s.log.records.length < 512) (r : ErrRec) :
    (s.formRecord r).log.records = s.log.records ++ [{ r with eseq := s.reg 0x7C00C, lostBefore := s.log.lostNext }] ∧ (s.formRecord r).reg 0x7C00C = s.reg 0x7C00C + 1 := by
  rw [State.formRecord_listed hroom]
  obtain ⟨hregs, hrecords, -⟩ := (s.listed r).errMsi_ofLog r.cls
  exact ⟨hrecords, (hregs _ ⟨by decide, by decide⟩).trans (State.numbered_eseq h)⟩

/-- An error of no handling makes a record, and begins a handling where it recovers. -/
theorem State.raise_begins (h : Good O Q s) (hgather : s.log.gather = none) (hnone : s.handlingOf e.reg e.inst = none) (hroom : s.log.records.length < 512) :
    ∃ r, (s.raise e).log.records = s.log.records ++ [r] ∧ r.eseq = s.reg 0x7C00C ∧ r.cls = e.cls ∧ r.reg = e.reg ∧ r.bit = e.bit ∧ r.inst = e.inst
      ∧ r.nested = false ∧ r.coalesced = false ∧ r.count = 1 ∧ r.parent = 0 ∧ r.lostBefore = s.log.lostNext ∧ (s.raise e).reg 0x7C00C = s.reg 0x7C00C + 1
      ∧ (e.recovers = true → 1 ≤ e.cls → (s.raise e).handlingOf e.reg e.inst = some ⟨e.reg, e.inst, e.bit, r.eseq, e.cls, 0, 0⟩) := by
  obtain ⟨hrecords, heseq⟩ := State.formRecord_newest (State.counted_good (e := e) h) hroom (s.recordOf e)
  rw [State.counted_eseq] at hrecords heseq
  have hforms : ((s.counted e).formRecord (s.recordOf e)).handlingOf e.reg e.inst = none := (State.handlingOf_same ((s.counted e).formRecord_leaves _).2).trans hnone
  have htakes := State.raise_takes (e := e) hgather
  rw [hnone, State.takesError] at htakes
  refine ⟨{ s.recordOf e with eseq := s.reg 0x7C00C, lostBefore := s.log.lostNext }, ?_, rfl, rfl, rfl, rfl, rfl, rfl, rfl, rfl, rfl, rfl, ?_, fun hrecovers hcls => ?_⟩
  · rw [htakes]
    split
    · exact hrecords
    · exact hrecords
  · rw [htakes]
    split
    · exact heseq
    · exact heseq
  · rw [htakes, hrecovers, decide_eq_true hcls, Bool.and_self, if_pos rfl, State.handles_handlingOf hforms, State.counted_eseq]

/-- An error of the same bit raises the count of the record its handling stands at. -/
theorem State.raise_coalesces (hgather : s.log.gather = none) (hh : s.handlingOf e.reg e.inst = some h) (hfew : h.nested < 8) (hbit : e.bit = h.bit) (hheld : s.logHeld h.eseq = true) :
    s.raise e = ((s.counted e).logCount h.eseq 1).setHandling { h with cls := max h.cls e.cls } := by
  rw [State.raise_takes hgather, hh, State.takesError, if_neg (Nat.not_le.mpr hfew), if_pos ⟨hbit, hheld⟩]

/-- Behind eight nested records an error raises the count of the eighth. -/
theorem State.raise_eighth (hgather : s.log.gather = none) (hh : s.handlingOf e.reg e.inst = some h) (hmany : 8 ≤ h.nested) (hheld : s.logHeld h.eighth = true) :
    s.raise e = ((s.counted e).logCount h.eighth 1).setHandling { h with cls := max h.cls e.cls } := by
  rw [State.raise_takes hgather, hh, State.takesError, if_pos hmany]
  exact if_pos hheld

/-- Any other error in a handling makes a nested record. -/
theorem State.raise_nests (hgather : s.log.gather = none) (hh : s.handlingOf e.reg e.inst = some h) (hfew : h.nested < 8) (hother : e.bit ≠ h.bit ∨ s.logHeld h.eseq = false) :
    s.raise e = ((s.counted e).formRecord { s.recordOf e with nested := true, parent := h.eseq }).setHandling
      (h.nests e ((s.counted e).reg 0x7C00C) (((s.counted e).formRecord { s.recordOf e with nested := true, parent := h.eseq }).logHeld ((s.counted e).reg 0x7C00C))) := by
  rw [State.raise_takes hgather, hh, State.takesError, if_neg (Nat.not_le.mpr hfew)]
  refine if_neg (fun hall => ?_)
  exact hother.elim (fun hne => hne hall.1) (fun hgone => Bool.false_ne_true (hgone.symm.trans hall.2))

/-- The handling as a nested record leaves it. -/
theorem State.raise_nests_handling (hgather : s.log.gather = none) (hh : s.handlingOf e.reg e.inst = some h) (hfew : h.nested < 8) (hother : e.bit ≠ h.bit ∨ s.logHeld h.eseq = false) :
    (s.raise e).handlingOf e.reg e.inst = some (h.nests e (s.reg 0x7C00C) ((s.raise e).logHeld (s.reg 0x7C00C))) := by
  obtain ⟨hreg, hinst⟩ := State.handlingOf_source hh
  rw [State.raise_nests hgather hh hfew hother, State.counted_eseq]
  generalize hformed : (s.counted e).formRecord { s.recordOf e with nested := true, parent := h.eseq } = v
  have hkept : v.handlingOf e.reg e.inst = some h := by
    rw [← hformed]
    exact (State.handlingOf_same ((s.counted e).formRecord_leaves _).2).trans hh
  have hsource : ∀ x : Handling, x.reg = e.reg → x.inst = e.inst → (v.setHandling x).handlingOf e.reg e.inst = some x := by
    intro x hr hi
    rw [← hr, ← hi] at hkept ⊢
    exact State.setHandling_handlingOf hkept
  exact hsource _ hreg hinst

/-- A class 0 error that meets a full log leaves no record, and its loss is counted. -/
theorem State.raise_dropped (h : Good O Q s) (hgather : s.log.gather = none) (hnone : s.handlingOf e.reg e.inst = none) (hfull : 512 ≤ s.log.records.length) (hcls : e.cls = 0) :
    (s.raise e).log.records = s.log.records ∧ (s.raise e).log.lostNext = true ∧ (s.raise e).reg 0x7C010 = (s.reg 0x7C010).satAdd 1 ∧ (s.raise e).bit Reg.errStatus 9 = true ∧ (s.raise e).reg 0x7C00C = s.reg 0x7C00C + 1 := by
  have hgood := State.counted_good (e := e) h
  have hlost : s.raise e = ({ (s.counted e).numbered with log := { (s.counted e).log with lostNext := true } } : State).logLost := by
    rw [State.raise_takes hgather, hnone, State.takesError, hcls]
    refine (if_neg (by rw [Bool.and_eq_true]; exact fun hall => absurd hall.2 (by decide))).trans ?_
    exact State.formRecord_lost hfull (by rw [show (s.recordOf e).cls = 0 from hcls]; rfl)
  have hnumbered : Good O Q ({ (s.counted e).numbered with log := { (s.counted e).log with lostNext := true } } : State) :=
    good_mk (State.numbered_good hgood) rfl (by rw [State.numbered_log]) rfl rfl
  rw [hlost]
  refine ⟨rfl, rfl, ?_, State.setBit_bit (State.bumpBy_good hnumbered) (by decide), ?_⟩
  · refine (State.setBit_reg (by unfold Reg.errStatus; omega)).trans ((State.reg_setReg_self hnumbered).trans ?_)
    refine congrArg (fun w : W32 => w.satAdd 1) ((State.numbered_reg (s := s.counted e) ⟨by decide, by decide⟩ (by decide)).trans (State.bumpBy_reg (by omega)))
  · rw [State.logLost_regElse (by unfold Reg.errStatus; omega) (by decide)]
    exact (State.numbered_eseq hgood).trans (by rw [State.counted_eseq])

/-! ### A full log, and its records popped (R460 to R462) -/

theorem logVictim_eq {cls : Nat} {rs : List ErrRec} (hcls : cls ≠ 0) :
    logVictim cls rs = ((List.range (cls + 1)).filterMap (fun c => (rs.find? (fun r => r.cls == c)).map (·.eseq))).head? := if_neg hcls

/-- The record that gives way is of the lowest class of all, and of one that the new record reaches. -/
theorem logVictim_lowest {cls : Nat} {rs : List ErrRec} {v : W32} (hv : logVictim cls rs = some v) : ∃ r ∈ rs, r.eseq = v ∧ r.cls ≤ cls ∧ ∀ x ∈ rs, r.cls ≤ x.cls := by
  have hcls : cls ≠ 0 := fun hzero => by
    rw [hzero] at hv
    cases hv
  rw [logVictim_eq hcls, List.head?_filterMap] at hv
  obtain ⟨before, c, after, hsplit, hc, hbefore⟩ := List.findSome?_eq_some_iff.mp hv
  obtain ⟨r, hfind, hseq⟩ := Option.map_eq_some_iff.mp hc
  have hclass : r.cls = c := by simpa using List.find?_some hfind
  have hrange : ∀ i, i ∈ List.range (cls + 1) → i < c → i ∈ before := by
    intro i hi hlt
    have hsorted : (before ++ c :: after).Pairwise (· < ·) := hsplit ▸ List.pairwise_lt_range
    obtain ⟨-, hbehind, -⟩ := List.pairwise_append.mp hsorted
    rw [hsplit, List.mem_append, List.mem_cons] at hi
    rcases hi with hi | rfl | hi
    · exact hi
    · exact absurd hlt (Nat.lt_irrefl _)
    · exact absurd (List.rel_of_pairwise_cons hbehind hi) (Nat.lt_asymm hlt)
  have hreach : c < cls + 1 := List.mem_range.mp (hsplit ▸ List.mem_append_right before List.mem_cons_self)
  refine ⟨r, List.mem_of_find?_eq_some hfind, hseq, by omega, fun x hx => Nat.le_of_not_lt (fun hlow => ?_)⟩
  rw [hclass] at hlow
  have hnone := hbefore x.cls (hrange x.cls (List.mem_range.mpr (by omega)) hlow)
  exact absurd (List.find?_eq_none.mp (Option.map_eq_none_iff.mp hnone) x hx) (by simp)

/-- Records of higher classes all stay. -/
theorem logVictim_none {cls : Nat} {rs : List ErrRec} (hcls : 0 < cls) (hall : ∀ r ∈ rs, cls < r.cls) : logVictim cls rs = none := by
  rw [logVictim_eq (Nat.ne_of_gt hcls), List.head?_eq_none_iff, List.filterMap_eq_nil_iff]
  refine fun c hc => Option.map_eq_none_iff.mpr (List.find?_eq_none.mpr (fun r hr heq => ?_))
  have hclass : r.cls = c := by simpa using heq
  have hlow := hall r hr
  rw [List.mem_range] at hc
  omega

theorem execErrlogPop_front {v : W32} {rest : List ErrRec} (hrecords : s.log.records = r :: rest) :
    exec (.errlogPop v) s = if r.eseq = v then .next { s with log := { s.log with records := rest } } else .next s := by
  change execErrlogPop v s = _
  unfold execErrlogPop
  rw [hrecords]

theorem execErrlogPop_empty {v : W32} (hrecords : s.log.records = []) : exec (.errlogPop v) s = .next s := by
  change execErrlogPop v s = _
  unfold execErrlogPop
  rw [hrecords]

/-- The delayed message goes as its timer ends. -/
theorem execErrMsiTimer_sends {n : Nat} (hdue : s.log.msiDue = true) (hup : s.log.msiUp = some n) : Runs .errMsiTimer s (fun t =>
    t.log.msiDue = false ∧ t.log.msiUp = some (s.reachUp (n + field (s.reg 0x7C004) 25 16 * 1000)).tm.up ∧ t.log.records = s.log.records ∧ s.keepsBut [.tm, .regs, .host, .log] t) := by
  have hm := Sub.refl (1 ||| 536870928 ||| 1099511627776)
  generalize hat : n + field (s.reg 0x7C004) 25 16 * 1000 = at_
  have hexec : exec .errMsiTimer s = .next (({ s.reachUp at_ with log := { (s.reachUp at_).log with msiDue := false, msiUp := some (s.reachUp at_).tm.up } } : State).msix (field ((s.reachUp at_).reg 0x401C) 5 0)) := by
    rw [← hat]
    change execErrMsiTimer s = _
    unfold execErrMsiTimer
    rw [hdue, hup]
  refine ⟨_, hexec, ?_, ?_, ?_, ?_⟩
  · rw [State.msix_log]
  · rw [State.msix_log]
  · have hlog : (s.reachUp at_).log = s.log := s.reachUp_changes at_ .log rfl
    rw [State.msix_log, hlog]
  · exact Frm.keepsParts (State.msix_frm (hm.le (by decide)) (frm_mk (State.reachUp_frm (hm.le (by decide)) (Frm.refl (1 ||| 536870928 ||| 1099511627776) s)))) (by decide)

theorem execErrMsiTimer_rests (hdue : s.log.msiDue = false) : exec .errMsiTimer s = .next s := by
  change execErrMsiTimer s = _
  unfold execErrMsiTimer
  rw [hdue]

theorem execTracePop_pops (v : W32) : Runs (.tracePop v) s (fun t => t.trace.entries = (if v.getLsbD 0 then s.trace.entries.drop 1 else s.trace.entries) ∧ s.keepsBut [.trace] t) := by
  have hm := Sub.refl 549755813888
  by_cases hv : v.getLsbD 0 = true
  · exact ⟨_, if_pos hv, (if_pos hv).symm, Frm.keepsParts (frm_mk (Frm.refl 549755813888 s)) (by decide)⟩
  · exact ⟨_, if_neg hv, (if_neg hv).symm, Frm.keepsParts (Frm.refl 549755813888 s) (by decide)⟩

/-- Settles O58: merging, one error by the handling its source is in, the victim of a full log, and the log's timers and pops. -/
theorem errorsAreRecordedCoalescedAndPopped : Obligations.ErrorsAreRecordedCoalescedAndPopped := by
  refine ⟨fun a b => ⟨mergeErrs_same, mergeErrs_ranked⟩, fun s es g hg => State.raiseAll_gathers es hg, fun s es f hg hf => ⟨State.oneCycle_records hg hf, rfl⟩, fun s e hwf hgather hcls => ?_,
    fun cls rs v hv => logVictim_lowest hv, fun cls rs hcls hall => logVictim_none hcls hall,
    fun s => ⟨fun v r rest hrecords => ⟨fun heq => ?_, fun hne => ?_⟩, fun v hempty => execErrlogPop_empty hempty, fun u hdue hup => execErrMsiTimer_sends hdue hup, execErrMsiTimer_rests, fun cls hlow => if_pos hlow, execTracePop_pops⟩⟩
  · have h := good_of_wf hwf
    refine ⟨?_, fun hnone hroom => State.raise_begins h hgather hnone hroom, fun g hh hfew hbit hheld => ?_, fun g hh hfew hbit hroom => ?_, fun g hh hmany hheld => ?_,
      fun g hh hfew hother => State.raise_nests_handling hgather hh hfew hother, fun hnone hfull hzero => State.raise_dropped h hgather hnone hfull hzero, s.raise_keeps e⟩
    · rw [State.raise_takes hgather]
      exact State.takesError_counts h hcls _
    · rw [State.raise_coalesces hgather hh hfew hbit hheld]
      exact ⟨State.counted_eseq s e, rfl⟩
    · rw [State.raise_nests hgather hh hfew (.inl hbit)]
      refine ⟨_, (State.formRecord_newest (State.counted_good h) hroom _).1, ?_, rfl, rfl, rfl⟩
      exact State.counted_eseq s e
    · rw [State.raise_eighth hgather hh hmany hheld]
      rfl
  · rw [execErrlogPop_front hrecords, if_pos heq]
  · rw [execErrlogPop_front hrecords, if_neg hne]

end Sys2Proof.Machine
end

section
/-! PROOFS. A transaction that runs out while a cycle gathers its errors (R313, R457). -/

namespace Sys2Proof.Machine

open Sys2Proof

set_option Elab.async false

variable {s u : State} {t : TxnSt} {a : Nat}

/-- A transaction runs out: it is closed, and the error is raised. -/
theorem execCfgTxnTimeout_closes (htxn : s.cfg.txn = some t) (hnamed : s.txnNamed t = false) : exec .cfgTxnTimeout s =
    .next (({ s.reachUp (t.touchedUp + 60000000000) with cfg := { (s.reachUp (t.touchedUp + 60000000000)).cfg with txn := none } } : State).raiseBare 0 false 0xFFFF) := by
  change execCfgTxnTimeout s = _
  unfold execCfgTxnTimeout
  rw [htxn]
  exact if_neg (by rw [hnamed]; exact Bool.noConfusion)

/-- An error raised while a cycle gathers its errors counts in no register before the cycle ends. -/
theorem State.raiseBare_gathering {g : List ErrIn} {cls inst : Nat} {engine : Bool} (hgather : s.log.gather = some g) : (s.raiseBare cls engine inst).regs = s.regs := by
  obtain ⟨e, -, hraise⟩ := State.raise_gathering (s := { s with freeCtr := s.freeCtr + 1 }) (e := { errAt cls 0xFFFFF 0 inst with detail := (Config.freeWord s.freeCtr).toNat, engine := engine }) hgather
  rw [State.raiseBare, hraise]
  rfl

theorem State.closedTxn_gathering {g : List ErrIn} {n : Nat} (hgather : s.log.gather = some g) :
    (({ s.reachUp n with cfg := { (s.reachUp n).cfg with txn := none } } : State).raiseBare 0 false 0xFFFF).reg a = s.reg a := by
  have hup := s.reachUp_changes n
  have hlog : (s.reachUp n).log.gather = some g := (congrArg LogSt.gather (hup .log rfl)).trans hgather
  have hregs := State.raiseBare_gathering (s := { s.reachUp n with cfg := { (s.reachUp n).cfg with txn := none } }) (cls := 0) (inst := 0xFFFF) (engine := false) hlog
  exact congrArg (fun m => Cells.get resetWord m a) (hregs.trans (hup .regs rfl))

theorem execCfgTxnTimeout_gathering {g : List ErrIn} (htxn : s.cfg.txn = some t) (hnamed : s.txnNamed t = false) (hgather : s.log.gather = some g) (hu : exec .cfgTxnTimeout s = .next u) : u.reg a = s.reg a := by
  rw [Host.Outcome.next.inj (hu.symm.trans (execCfgTxnTimeout_closes htxn hnamed))]
  exact State.closedTxn_gathering hgather

/-- A transaction that no descriptor in flight names. -/
def idleTxn : TxnSt := { id := 1, shadow := [], written := [], profile := none, persist := false, authorised := false, inBad := false, vaultOwned := false, touchedUp := 0 }

/-- A hub with an open transaction, in a cycle that gathers its errors. -/
def gatheringTxn : State := { State.reset with cfg := { CfgSt.init with txn := some idleTxn }, log := { LogSt.init with gather := some [] } }

/-- Refutes O41: in a state whose log gathers the errors of a cycle (s.log.gather, which wf leaves free) CFG_TXN_TIMEOUT closes the transaction and raises its error, which ERR_COUNT of class 0 counts when the cycle ends, not within the command. -/
theorem not_transactionsOpenWriteAndClose : ¬ Obligations.TransactionsOpenWriteAndClose := by
  rintro ⟨hall, -⟩
  obtain ⟨-, -, -, -, -, htimeout, -⟩ := hall gatheringTxn 0 ⟨0, 0, 0, [], [], 0, false, 0, 0⟩
  obtain ⟨u, hu, -, -, -, hcounts⟩ := htimeout idleTxn rfl rfl
  have hsame : u.reg 0x7C020 = gatheringTxn.reg 0x7C020 := execCfgTxnTimeout_gathering (g := []) rfl rfl rfl hu
  exact absurd (hsame.symm.trans (hcounts (by decide))) (by decide)

end Sys2Proof.Machine
end

section
/-! PROOFS. Digests compared core by core, missing ones counted, and the partner's HEALTH (R344 to R346, R451). -/

namespace Sys2Proof.Machine

open Sys2Proof

set_option Elab.async false

variable {O : OtpSt} {Q : List Instr} {s t u : State} {m n : Nat} {r : BitVec 16} {f : HealthFrame}

/-! ### One core of a digest (R344) -/

theorem digestCore_none {tol : Nat} {a b : W32} (h : a.getLsbD 28 = false ∨ b.getLsbD 28 = false ∨ a.getLsbD 31 = true ∨ b.getLsbD 31 = true ∨ a.getLsbD 29 = true ∨ b.getLsbD 29 = true) : digestCore tol a b = none := by
  unfold digestCore
  by_cases hboth : (a.getLsbD 28 && b.getLsbD 28) = true
  · obtain ⟨ha, hb⟩ := Bool.and_eq_true_iff.mp hboth
    rw [if_neg (by rw [hboth]; decide), if_pos]
    rcases h with h | h | h | h | h | h
    · exact absurd (h.symm.trans ha) Bool.false_ne_true
    · exact absurd (h.symm.trans hb) Bool.false_ne_true
    all_goals simp [h]
  · exact if_pos (by rw [Bool.eq_false_iff.mpr hboth]; rfl)

theorem digestCore_bad {tol : Nat} {a b : W32} {bad : Bool} (h : digestCore tol a b = some bad) : bad = true ↔ (tol < (digestSum a - digestSum b).natAbs ∨ a.getLsbD 30 ≠ b.getLsbD 30) := by
  unfold digestCore at h
  split at h
  · cases h
  · split at h
    · cases h
    · rw [← Option.some.inj h, Bool.or_eq_true, decide_eq_true_iff, bne_iff_ne]

/-! ### A core's run of digests -/

/-- The runs of a core that fail and that pass, with one digest more. -/
def runWith (r : Nat × Nat) (bad : Bool) : Nat × Nat := if bad then (r.1 + 1, 0) else (0, r.2 + 1)

/-- The failed cores with one run judged. -/
def failWith (fail : W64) (n persist : Nat) (run : Nat × Nat) : W64 :=
  if persist ≤ run.1 then fail ||| BitVec.ofNat 64 (2 ^ n) else if persist ≤ run.2 then fail &&& ~~~ BitVec.ofNat 64 (2 ^ n) else fail

theorem State.digestRun_eq (s : State) (n : Nat) (bad : Bool) : s.digestRun n bad =
    { s.doIf bad (fun t => t.bump 0x58010) with twin := { (s.doIf bad (fun t => t.bump 0x58010)).twin with
        runs := Cells.set (fun _ => (0, 0)) (s.doIf bad (fun t => t.bump 0x58010)).twin.runs n (runWith (Cells.get (fun _ => (0, 0)) s.twin.runs n) bad),
        failCores := failWith s.twin.failCores n (s.cfgv Fld.twinDigestPersist 0 0) (runWith (Cells.get (fun _ => (0, 0)) s.twin.runs n) bad),
        digestPlaus := (s.doIf bad (fun t => t.bump 0x58010)).twin.digestPlaus &&& failWith s.twin.failCores n (s.cfgv Fld.twinDigestPersist 0 0) (runWith (Cells.get (fun _ => (0, 0)) s.twin.runs n) bad) } } := by
  cases bad <;> rfl

theorem State.digestRun_failCores (s : State) (n : Nat) (bad : Bool) :
    (s.digestRun n bad).twin.failCores = failWith s.twin.failCores n (s.cfgv Fld.twinDigestPersist 0 0) (runWith (Cells.get (fun _ => (0, 0)) s.twin.runs n) bad) := by
  rw [State.digestRun_eq]

theorem getLsbD_core (n m : Nat) : (BitVec.ofNat 64 (2 ^ n)).getLsbD m = (decide (m < 64) && decide (n = m)) := by
  rw [BitVec.getLsbD_ofNat, Nat.testBit_two_pow]

theorem failWith_fails {fail : W64} {persist : Nat} {run : Nat × Nat} (hn : n < 64) (h : persist ≤ run.1) : (failWith fail n persist run).getLsbD n = true := by
  rw [failWith, if_pos h, BitVec.getLsbD_or, getLsbD_core, decide_eq_true hn, decide_eq_true rfl]
  exact Bool.or_true _

theorem failWith_passes {fail : W64} {persist : Nat} {run : Nat × Nat} (hn : n < 64) (hbad : ¬ persist ≤ run.1) (h : persist ≤ run.2) : (failWith fail n persist run).getLsbD n = false := by
  rw [failWith, if_neg hbad, if_pos h, BitVec.getLsbD_and, BitVec.getLsbD_not, getLsbD_core, decide_eq_true hn, decide_eq_true rfl]
  exact Bool.and_false _

theorem failWith_other {fail : W64} {persist : Nat} {run : Nat × Nat} (hne : m ≠ n) : (failWith fail n persist run).getLsbD m = fail.getLsbD m := by
  have hmask : (BitVec.ofNat 64 (2 ^ n)).getLsbD m = false := by rw [getLsbD_core, decide_eq_false (Ne.symm hne), Bool.and_false]
  unfold failWith
  split
  · rw [BitVec.getLsbD_or, hmask, Bool.or_false]
  · split
    · rw [BitVec.getLsbD_and, BitVec.getLsbD_not, hmask]
      by_cases hm : m < 64
      · simp [hm]
      · rw [BitVec.getLsbD_of_ge fail m (Nat.not_lt.mp hm), Bool.false_and]
    · rfl

/-- One core's digest is judged: what it counts and which cores it marks. -/
theorem State.digestRun_judges (h : Good O Q s) {r p : Nat} (hn : n < 64) (hpersist : 0 < s.cfgv Fld.twinDigestPersist 0 0) (hrun : Cells.get (fun _ => (0, 0)) s.twin.runs n = (r, p)) (bad : Bool) :
    ((s.digestRun n true).reg 0x58010 = (s.reg 0x58010).satAdd 1 ∧ (s.digestRun n false).reg 0x58010 = s.reg 0x58010)
      ∧ (s.cfgv Fld.twinDigestPersist 0 0 ≤ r + 1 → (s.digestRun n true).twin.failCores.getLsbD n = true)
      ∧ (s.cfgv Fld.twinDigestPersist 0 0 ≤ p + 1 → (s.digestRun n false).twin.failCores.getLsbD n = false)
      ∧ (∀ m, m ≠ n → (s.digestRun n bad).twin.failCores.getLsbD m = s.twin.failCores.getLsbD m) ∧ s.keepsBut [.regs, .twin] (s.digestRun n bad) := by
  refine ⟨⟨State.reg_setReg_self h, rfl⟩, fun hfail => ?_, fun hpass => ?_, fun m hne => ?_, (State.digestRun_frm (Sub.refl _) (Frm.refl _ s)).keepsParts (by decide)⟩
  · rw [State.digestRun_failCores, hrun]
    exact failWith_fails hn hfail
  · rw [State.digestRun_failCores, hrun]
    exact failWith_passes hn (Nat.not_le.mpr hpersist) hpass
  · rw [State.digestRun_failCores]
    exact failWith_other hne

/-! ### Digests meet (R344, R345) -/

theorem execDigest_active {f : DigestFrame} (hservice : s.inService 2 = true) (hrole : s.twin.role = .active) : exec (.digest f) s =
    match s.twin.own.find? (fun a => (s.rxAccept 2).digestMatch f a.1) with
    | some a => .next (({ s.rxAccept 2 with twin := { s.twin with own := s.twin.own.filter (fun x => x != a) } } : State).digestPair a.1 f)
    | none => .next ({ s.rxAccept 2 with twin := { s.twin with theirs := s.twin.theirs ++ [f] } } : State).digestSweep := by
  refine (if_neg (by rw [hservice]; exact Bool.noConfusion)).trans ?_
  rw [State.rxAccept_twin]
  exact (if_neg (fun hne => hne hrole)).trans rfl

theorem execDigest_ignored {f : DigestFrame} (hservice : s.inService 2 = true) (hrole : s.twin.role ≠ .active) : exec (.digest f) s = .next (s.rxAccept 2) :=
  (if_neg (by rw [hservice]; exact Bool.noConfusion)).trans (if_pos (by rw [State.rxAccept_twin]; exact hrole))

/-! ### Reasons change (R346, R347) -/

/-- The reasons noted, before the role follows them. -/
def State.reasoned (s : State) (r : BitVec 16) : State := { s with twin := { s.twin with reasons := r } }

theorem State.setReasons_eq (s : State) (r : BitVec 16) : s.setReasons r = if r = s.twin.reasons then s else
    (if (s.reasoned r).twin.role = .standby ∧ r ≠ 0 then ((s.reasoned r).setRole .standbyUnfit []).raise { errAt 2 Reg.twinStatus 10 0xFFFF with recovers := true }
      else if (s.reasoned r).twin.role = .standbyUnfit ∧ r = 0 then (((s.reasoned r).setRole .standby []).endHandling Reg.twinStatus 0xFFFF).raiseBare 0 false 0xFFFF
      else s.reasoned r).sendHealth := rfl

theorem State.raise_tellsHealth (s : State) (e : ErrIn) : TellsHealth s (s.raise e) := (State.raise_frm (m := reportSet) (Sub.refl _) (Frm.refl _ s)).tellsHealth (by decide)

theorem TellsHealth.theirs (h : TellsHealth s t) : t.twin.theirs = s.twin.theirs := by rw [h]

/-- The digests that wait stay as the reasons change. -/
theorem State.setReasons_theirs (s : State) (r : BitVec 16) : (s.setReasons r).twin.theirs = s.twin.theirs := by
  have hends : ∀ v : State, TellsHealth v ((v.endHandling Reg.twinStatus 0xFFFF).raiseBare 0 false 0xFFFF) := fun v => (State.raiseBare_frm (Sub.refl _) (Frm.refl _ _)).tellsHealth (by decide)
  rw [State.setReasons_eq]
  split
  · rfl
  · refine (State.sendHealth_tellsHealth _).theirs.trans ?_
    split
    · exact (State.raise_tellsHealth _ _).theirs.trans (by rw [State.setRole_twin]; rfl)
    · split
      · exact (hends _).theirs.trans (by rw [State.setRole_twin]; rfl)
      · rfl

/-- An unfit standby that has a reason stays one. -/
theorem State.setReasons_unfit (hrole : s.twin.role = .standbyUnfit) (hr : r ≠ 0) : (s.setReasons r).twin.role = .standbyUnfit := by
  rw [State.setReasons_eq]
  split
  · exact hrole
  · rw [if_neg (fun hall => by rw [show (s.reasoned r).twin.role = .standbyUnfit from hrole] at hall; exact Role.noConfusion hall.1), if_neg (fun hall => hr hall.2)]
    exact (State.sendHealth_tellsHealth _).role.1.trans hrole

/-- Of the digests that wait, a sweep keeps those whose frame may still come. -/
theorem State.digestSweep_theirs (s : State) : s.digestSweep.twin.theirs = s.twin.theirs.filter s.digestWaits := by
  have halone : ∀ v : State, v.digestAlone.twin.theirs = v.twin.theirs := fun v => State.setReasons_theirs _ _
  unfold State.digestSweep State.doIf
  dsimp only
  split
  · exact halone _
  · rfl

theorem State.digestWaits_scheduled {b : DigestFrame} (h : Look.scheduled s.cfgv (gidx b.group) = true) :
    s.digestWaits b = true ↔ (s.grpOf (gidx b.group)).strobed = false ∨ (s.grpOf (gidx b.group)).doneK < b.frame := by
  unfold State.digestWaits
  dsimp only
  rw [if_pos h, Bool.or_eq_true, decide_eq_true_iff, Bool.not_eq_true']

/-- Fewer than 64 digests missing in a row, over a scheduled group, give no reason. -/
theorem State.digestMissed_few {g : Group} (hn : n < 64) (h : Look.scheduled s.cfgv (gidx g) = true) : s.digestMissed g n = s := by
  have hfew : ¬ (64 ≤ n ∧ s.twin.reasons.getLsbD Reason.link = false) := fun hall => absurd hall.1 (Nat.not_le.mpr hn)
  unfold State.digestMissed
  dsimp only
  rw [if_neg hfew, if_pos h]

/-- A digest that does not come within 1 ms is counted and given up. -/
theorem execDigestMissing_counts {g : Group} {k : Nat} {a : DigestFrame × Nat} {at_ : Nat} (hat : a.2 + 1000000 = at_) (h : Good O Q s) (hrole : s.twin.role = .active) (hfind : s.twin.own.find? (fun x => decide (x.1.group = g ∧ x.1.frame = k)) = some a)
    (hrun : s.twin.missingRun < 63) (hscheduled : Look.scheduled s.cfgv (gidx g) = true) : Runs (.digestMissing g k) s (fun u => u.reg 0x58014 = (s.reg 0x58014).satAdd 1 ∧ u.twin.missingRun = s.twin.missingRun + 1
      ∧ u.twin.own = s.twin.own.filter (fun x => !decide (x.1.group = g ∧ x.1.frame = k)) ∧ u.tm = (s.reachUp at_).tm ∧ s.keepsBut [.tm, .regs, .twin] u) := by
  have hm := Sub.refl (1 ||| 16 ||| 8589934592)
  let missed : State := { (s.reachUp at_).bump 0x58014 with twin := { ((s.reachUp at_).bump 0x58014).twin with own := ((s.reachUp at_).bump 0x58014).twin.own.filter (fun x => !decide (x.1.group = g ∧ x.1.frame = k)), missingRun := s.twin.missingRun + 1, pairRun := 0 } }
  have hreached : Frm (1 ||| 16 ||| 8589934592) s ((s.reachUp at_).bump 0x58014) := State.bump_frm (hm.le (by decide)) (State.reachUp_frm (hm.le (by decide)) (Frm.refl _ s))
  have hmissed : Frm (1 ||| 16 ||| 8589934592) s missed := frm_mk hreached
  have htwin : ((s.reachUp at_).bump 0x58014).twin = s.twin := s.reachUp_twin at_
  have hquiet : missed.digestMissed g (s.twin.missingRun + 1) = missed := State.digestMissed_few (Nat.succ_lt_succ hrun) (by rw [hmissed.cfgv rfl rfl]; exact hscheduled)
  have hexec : exec (.digestMissing g k) s = .next (missed.digestMissed g (s.twin.missingRun + 1)) := by
    change execDigestMissing g k s = _
    unfold execDigestMissing
    dsimp only
    rw [hfind]
    dsimp only
    rw [if_neg (fun hne => hne hrole), hat]
  refine ⟨missed, hexec.trans (by rw [hquiet]), ?_, rfl, ?_, rfl, hmissed.keepsParts (by decide)⟩
  · exact (State.reg_setReg_self (State.reachUp_good h)).trans (congrArg (fun w : W32 => w.satAdd 1) ((s.reachUp_changes at_).reg rfl))
  · exact congrArg (fun w : TwinSt => w.own.filter _) htwin

/-! ### HEALTH comes (R346, R451) -/

/-- The partner's HEALTH is noted. -/
def State.healthNoted (s : State) (f : HealthFrame) : State :=
  let t := s.rxAccept 2
  (({ t with twin := { t.twin with partner := some f, dualUp := t.dualSince f }, mantis := { t.mantis with partnerSeq := some f.trigSeq } } : State).setReg 0x58030 f.firmware).setRegs 0x58040 (toWords 8 f.cfgHash.toNat)

theorem execHealth_service (hservice : s.inService 2 = true) : exec (.health f) s =
    if (s.healthNoted f).twinned = false then .next (s.healthNoted f)
    else if ((s.healthNoted f).resolveBy f).isStandby then
      if decide (f.role.toNat = Role.active.code) && f.relinquish then .next ((s.healthNoted f).resolveBy f).activeLost
      else .next (if f.swapPending && !s.twin.partner.any (fun h => h.swapPending) then
          (((s.healthNoted f).resolveBy f).underInj (((s.healthNoted f).resolveBy f).sumRecent && decide (f.failCores ≠ 0)) (fun t => t.healthReasons f s.twin.partner)).partnerAsks
        else ((s.healthNoted f).resolveBy f).underInj (((s.healthNoted f).resolveBy f).sumRecent && decide (f.failCores ≠ 0)) (fun t => t.healthReasons f s.twin.partner))
    else if ((s.healthNoted f).resolveBy f).twin.role = .active then
      .next (if f.swapPending && !s.twin.partner.any (fun h => h.swapPending) then (((s.healthNoted f).resolveBy f).digestSweep.serveResync f).partnerAsks else ((s.healthNoted f).resolveBy f).digestSweep.serveResync f)
    else .next ((s.healthNoted f).resolveBy f) :=
  if_neg (by rw [hservice]; exact Bool.noConfusion)

theorem State.setRegs_reg {k : Nat} : ∀ (ws : List W32) (a : Nat) (s : State), k < a → (s.setRegs a ws).reg k = s.reg k := by
  intro ws
  induction ws with
  | nil => exact fun _ _ _ => rfl
  | cons w ws ih => exact fun a s hk => (ih (a + 4) _ (by omega)).trans (State.reg_setReg_other (by omega))

theorem State.healthNoted_twin (s : State) (f : HealthFrame) : (s.healthNoted f).twin = { s.twin with partner := some f, dualUp := s.dualSince f } := by
  have hdual : (s.rxAccept 2).dualSince f = s.dualSince f := by
    rw [State.dualSince, State.dualSince, State.rxAccept_twin, show (s.rxAccept 2).tm = s.tm from s.rxAccept_changes 2 .tm rfl]
  have hnoted : (s.healthNoted f).twin = { (s.rxAccept 2).twin with partner := some f, dualUp := (s.rxAccept 2).dualSince f } := State.setRegs_frm (m := 16) (Sub.refl _) (Frm.refl _ _) .twin rfl
  rw [hnoted, State.rxAccept_twin, hdual]

/-- What the note of a HEALTH leaves of the rest of the hub. -/
theorem State.healthNoted_notes (h : Good O Q s) (f : HealthFrame) : (s.healthNoted f).mantis = { s.mantis with partnerSeq := some f.trigSeq } ∧ (s.healthNoted f).reg 0x58030 = f.firmware
    ∧ s.keepsBut [.regs, .link, .twin, .mantis, .freeCtr] (s.healthNoted f) := by
  have hm := Sub.refl (16 ||| 8796361457664 ||| 8589934592 ||| 4194304)
  have haccepted := s.rxAccept_changes 2
  refine ⟨?_, ?_, ?_⟩
  · refine (State.setRegs_frm (m := 16) (Sub.refl _) (Frm.refl _ _) .mantis rfl).trans ?_
    exact congrArg (fun w : MantisSt => { w with partnerSeq := some f.trigSeq }) (haccepted .mantis rfl)
  · refine (State.setRegs_reg _ _ _ (by decide)).trans (State.reg_setReg_self (O := O) (Q := Q) ?_)
    exact good_mk (State.rxAccept_good (p := 2) h) rfl rfl rfl rfl
  · refine Frm.keepsParts (m := 16 ||| 8796361457664 ||| 8589934592 ||| 4194304) ?_ (by decide)
    exact State.setRegs_frm (hm.le (by decide)) (State.setReg_frm (hm.le (by decide)) (frm_mk (State.rxAccept_frm (hm.le (by decide)) (Frm.refl _ s))))

theorem State.healthNoted_changes (s : State) (f : HealthFrame) : Frm (16 ||| 8796361457664 ||| 8589934592 ||| 4194304) s (s.healthNoted f) := by
  have hm := Sub.refl (16 ||| 8796361457664 ||| 8589934592 ||| 4194304)
  exact State.setRegs_frm (hm.le (by decide)) (State.setReg_frm (hm.le (by decide)) (frm_mk (State.rxAccept_frm (hm.le (by decide)) (Frm.refl _ s))))

theorem Frm.twinned (h : Frm m s t) (hcfg : m.testBit 32 = false) (hotp : m.testBit 1 = false) : t.twinned = s.twinned := by
  rw [State.twinned, State.twinned, State.cfgOn, State.cfgOn, h.cfgv hcfg hotp]

/-- A unit that is no partner only notes a HEALTH. -/
theorem execHealth_notes (hservice : s.inService 2 = true) (hrole : s.twinned = false ∨ s.twin.role = .solo ∨ s.twin.role = .seized) : exec (.health f) s = .next (s.healthNoted f) := by
  have htwinned : (s.healthNoted f).twinned = s.twinned := (s.healthNoted_changes f).twinned rfl rfl
  have hsame : (s.healthNoted f).twin.role = s.twin.role := by rw [State.healthNoted_twin]
  rw [execHealth_service hservice, htwinned]
  by_cases htwin : s.twinned = false
  · rw [if_pos htwin]
  · have hout : s.twin.role = .solo ∨ s.twin.role = .seized := hrole.resolve_left htwin
    have hresolved : (s.healthNoted f).resolveBy f = s.healthNoted f := by
      refine if_pos (.inl ?_)
      rw [hsame]
      exact hout.elim (fun h => by rw [h]; decide) (fun h => by rw [h]; decide)
    rw [if_neg htwin, hresolved, State.isStandby, hsame]
    rcases hout with h | h <;> rw [h] <;> rfl

/-! ### An unresolved unit hears an active (R451) -/

/-- One reason as HEALTH judges it. -/
def judgeReason (r : BitVec 16) (b : Nat) (on off : Bool) : BitVec 16 := if on then r ||| reasonMask [b] else if off then r &&& ~~~ reasonMask [b] else r

/-- No other reason clears the one of resynchronisation. -/
theorem judgeReason_resync {b : Nat} {on off : Bool} (hr : r.getLsbD Reason.resync = true) (hb : (reasonMask [b]).getLsbD Reason.resync = false ∨ off = false) : (judgeReason r b on off).getLsbD Reason.resync = true := by
  unfold judgeReason
  split
  · rw [BitVec.getLsbD_or, hr, Bool.true_or]
  · split
    · next hoff =>
      rw [BitVec.getLsbD_and, hr, BitVec.getLsbD_not, hb.resolve_right (by rw [hoff]; exact Bool.noConfusion)]
      rfl
    · exact hr

/-- HEALTH changes the reasons, never the one of resynchronisation to none. -/
theorem State.healthReasons_sets (s : State) (f : HealthFrame) (before : Option HealthFrame) (hr : s.twin.reasons.getLsbD Reason.resync = true) :
    ∃ (v : State) (r : BitVec 16), s.healthReasons f before = v.setReasons r ∧ v.twin.role = s.twin.role ∧ r.getLsbD Reason.resync = true := by
  unfold State.healthReasons
  extract_lets mine hashRun epochRun _ counted fromActive rises put r0 r1 r2 r3 r4 r5 linkLost _ linked r6
  have hput : ∀ r b on off, put r b on off = judgeReason r b on off := fun _ _ _ _ => rfl
  have h1 : r1.getLsbD Reason.resync = true := by
    rw [show r1 = _ from hput _ _ _ _]
    exact judgeReason_resync hr (.inl (by decide))
  have h2 : r2.getLsbD Reason.resync = true := by
    rw [show r2 = _ from hput _ _ _ _]
    exact judgeReason_resync h1 (.inl (by decide))
  have h3 : r3.getLsbD Reason.resync = true := by
    rw [show r3 = _ from hput _ _ _ _]
    exact judgeReason_resync h2 (.inl (by decide))
  have h4 : r4.getLsbD Reason.resync = true := by
    dsimp only [r4]
    split
    · rw [hput]
      exact judgeReason_resync h3 (.inl (by decide))
    · exact h3
  have h5 : r5.getLsbD Reason.resync = true := by
    dsimp only [r5]
    split
    · rw [hput]
      exact judgeReason_resync h4 (.inl (by decide))
    · exact h4
  have h6 : r6.getLsbD Reason.resync = true := by
    rw [show r6 = _ from hput _ _ _ _]
    exact judgeReason_resync h5 (.inl (by decide))
  refine ⟨linked, _, rfl, ?_, ?_⟩
  · dsimp only [linked]
    split <;> rfl
  · rw [hput]
    exact judgeReason_resync h6 (.inr rfl)

theorem State.healthReasons_unfit {before : Option HealthFrame} (hrole : s.twin.role = .standbyUnfit) (hr : s.twin.reasons.getLsbD Reason.resync = true) : (s.healthReasons f before).twin.role = .standbyUnfit := by
  obtain ⟨v, r, hsets, hv, hresync⟩ := s.healthReasons_sets f before hr
  rw [hsets]
  refine State.setReasons_unfit (hv.trans hrole) (fun hzero => ?_)
  rw [hzero] at hresync
  exact absurd hresync (by decide)

/-- A partner that asks for a swap changes no role. -/
theorem State.partnerAsks_role (s : State) : s.partnerAsks.twin.role = s.twin.role := by
  have hnamed : ∀ v : State, (if v.twin.swapAsked then v else v.nameSwap).twin.role = v.twin.role := fun v => by
    split
    · rfl
    · rw [State.nameSwap_twin]
  have hretired : ∀ (v : State) (d : Desc), TellsHealth v (v.retireBad d 0x0610) := fun v d => (State.retireBad_frm (Sub.refl _) (Frm.refl _ v)).tellsHealth (by decide)
  have htold : ∀ v : State, ((v.raise (errAt 0 Reg.twinStatus 12 0xFFFF)).sendHealth).twin.role = v.twin.role := fun v =>
    ((State.sendHealth_tellsHealth _).role.1).trans (State.raise_tellsHealth _ _).role.1
  unfold State.partnerAsks
  refine (hnamed _).trans ?_
  split
  · refine (htold _).trans ?_
    split
    · exact (hretired _ _).role.1
    · rfl
  · rfl

theorem execHealth_resolves (hservice : s.inService 2 = true) (htwin : s.twinned = true) (hrole : s.twin.role = .unresolved) (hstage : s.boot.stage = 10) (hactive : f.role = 2) (hstays : f.relinquish = false) :
    Runs (.health f) s (fun u => u.twin.role = .standbyUnfit) := by
  have hchanges := s.healthNoted_changes f
  have htwinned : (s.healthNoted f).twinned = true := (hchanges.twinned rfl rfl).trans htwin
  have hcode : f.role.toNat = Role.active.code := by rw [hactive]; rfl
  have hresolved : (s.healthNoted f).resolveBy f = (s.healthNoted f).enterUnfit [Reason.resync] := by
    refine (if_neg ?_).trans (if_pos hcode)
    rw [State.healthNoted_twin, hrole, show (s.healthNoted f).boot = s.boot from hchanges .boot rfl, hstage, htwinned]
    decide
  obtain ⟨hunfit, hresync⟩ := (s.healthNoted f).enterUnfit_resync
  have hexec := execHealth_service (f := f) hservice
  rw [htwinned, hresolved, if_neg Bool.noConfusion, State.isStandby, hunfit, if_pos (by decide), hstays, Bool.and_false, if_neg Bool.false_ne_true] at hexec
  have hjudged : ∀ (b : Bool) before, (((s.healthNoted f).enterUnfit [Reason.resync]).underInj b (fun t => t.healthReasons f before)).twin.role = .standbyUnfit := by
    intro b before
    unfold State.underInj
    split
    · exact State.healthReasons_unfit hunfit hresync
    · exact State.healthReasons_unfit hunfit hresync
  refine ⟨_, hexec, ?_⟩
  split
  · exact (State.partnerAsks_role _).trans (hjudged _ _)
  · exact hjudged _ _

/-- Settles O38: digestCore, one core's run, digests that meet or are missing, and HEALTH as it is noted and heard unresolved. -/
theorem digestsAndHealthAreCompared : Obligations.DigestsAndHealthAreCompared := by
  refine ⟨fun tol a b h => digestCore_none h, fun tol a b bad h => digestCore_bad h, fun s hwf => ?_⟩
  have h := good_of_wf hwf
  refine ⟨fun n r p bad hn hpersist hrun => State.digestRun_judges h hn hpersist hrun bad, fun f a hservice hrole hfind => ?_, fun f hservice hrole hfind => ?_, s.digestSweep_theirs, fun b => State.digestWaits_scheduled,
    fun f hservice hrole => execDigest_ignored hservice hrole, fun g k a hrole hfind hrun hscheduled => execDigestMissing_counts rfl h hrole hfind hrun hscheduled,
    fun f hservice hrole => ⟨_, execHealth_notes hservice hrole, s.healthNoted_twin f, s.healthNoted_notes h f⟩, fun f hservice htwin hrole hstage hactive hstays _ => execHealth_resolves hservice htwin hrole hstage hactive hstays⟩
  · rw [execDigest_active hservice hrole, hfind]
  · rw [execDigest_active hservice hrole, hfind]

end Sys2Proof.Machine
end

section
/-! PROOFS. A flip whose bank enables TWIN on a hub that still stands by: the role given up takes a commit with it that the alibi store still seals (R317, R336, R347). -/

namespace Sys2Proof.Machine

open Sys2Proof

set_option Elab.async false

variable {O : OtpSt} {Q : List Instr} {s t u : State} {m : Nat} {f : FlipSt}

/-! ### What taking a role leaves of a commit -/

theorem State.each_fixed {α : Type} {xs : List α} {f : α → State → State} (h : ∀ x ∈ xs, f x s = s) : s.each xs f = s := by
  induction xs with
  | nil => rfl
  | cons x xs ih =>
    have hhead : s.each (x :: xs) f = (f x s).each xs f := rfl
    rw [hhead, h x List.mem_cons_self]
    exact ih (fun y hy => h y (List.mem_cons_of_mem x hy))

/-- The configuration as a commit is given up with a role. -/
def CfgSt.givenUp (c : CfgSt) : CfgSt := { c with flip := c.flip.filter (fun f => !f.sealing), waitReady := none, twinData := [], dataOut := [], armAt := none }

theorem State.giveUpCommit_cfg (s : State) : s.giveUpCommit.cfg = s.cfg.givenUp := by
  unfold State.giveUpCommit
  dsimp only
  split
  · exact State.retireBad_frm (m := 141197082640) (Sub.refl _) (Frm.refl _ _) .cfg rfl
  · rfl

/-- A role that changes the outputs' owner gives the commit up; any other leaves it. -/
theorem State.setRole_cfg (s : State) (r : Role) (xs : List Nat) :
    (s.setRole r xs).cfg = if ((s.twin.role.isStandby != r.isStandby || decide (r = .seized)) && decide (r ≠ .solo)) = true then s.cfg.givenUp else s.cfg := by
  have hnoted : (s.roleNoted r).cfg = s.cfg := s.runsCleared_changes _ .cfg rfl
  have hm := Sub.refl (16 ||| 6144)
  have hshown : (((s.roleNoted r).doIf (decide (r = .standbyUnfit ∧ s.twin.role ≠ .standbyUnfit)) (fun t => t.setBit Reg.twinStatus 10)).excRole xs).cfg = s.cfg :=
    (State.excRole_frm (hm.le (by decide)) (State.doIf_frm (Frm.refl (16 ||| 6144) (s.roleNoted r)) (State.setBit_frm (hm.le (by decide)) (Frm.refl _ _))) .cfg rfl).trans hnoted
  rw [State.setRole_eq]
  unfold State.doIf at hshown ⊢
  split
  · rw [State.giveUpCommit_cfg, hshown]
  · exact hshown

/-- Nothing is committed as a role is taken, and no flip begins. -/
theorem State.setRole_commit (s : State) (r : Role) (xs : List Nat) : (s.setRole r xs).cfg.committed = s.cfg.committed ∧ (s.cfg.flip = none → (s.setRole r xs).cfg.flip = none) := by
  rw [State.setRole_cfg]
  split
  · exact ⟨rfl, fun hnone => congrArg (Option.filter _) hnone⟩
  · exact ⟨rfl, id⟩

theorem State.seizeTaken_commit (s : State) : s.seizeTaken.cfg.committed = s.cfg.committed ∧ (s.cfg.flip = none → s.seizeTaken.cfg.flip = none) := by
  have htold : ∀ v : State, v.sendHealth.cfg = v.cfg := fun v => State.sendHealth_frm (Sub.refl _) (Frm.refl _ v) .cfg rfl
  unfold State.seizeTaken
  split
  · rw [htold]
    exact s.setRole_commit _ _
  · exact ⟨rfl, id⟩

/-! ### A switch that enables TWIN (R336) -/

/-- A switch up to where TWIN.ENABLE changes the role. -/
def State.switchedClocks (s : State) (old : Look) (moved : List Nat) : State :=
  let s := ((s.checksSwitch old moved).mantisSwitch old moved).mainsSwitch old moved
  let s := ((s.streamsSwitch old moved).statsSwitch old moved).pinsSwitch moved
  let s := s.doIf (moved.any (fun k => decide (0x2581 ≤ keyCode k ∧ keyCode k ≤ 0x258E))) (fun t => t.ffCommit old)
  let s := s.each [0, 1, 2] (fun p t => t.doIf (moved.any (fun k => decide (0x2A01 ≤ keyCode k ∧ keyCode k ≤ 0x2A08) && keyIndex k == p)) (fun t => t.linkCommit old p))
  (s.doIf (moved.any (fun k => keyCode k == Fld.flashIo)) State.quadSet).clocksSwitch

/-- The outputs as a switch leaves them. -/
def State.switchedOutputs (s : State) (written : List Nat) : State :=
  s.assignAll.excApplyAll s.assignAll.cfg.bad (written.filterMap (fun k => if keyCode k = Fld.excEnable ∧ s.assignAll.cfgv Fld.excEnable (keyIndex k) 0 = 1 then some (keyIndex k) else none))

theorem State.afterSwitch_eq (s : State) (old : Look) (moved written : List Nat) : s.afterSwitch old moved written = ((s.switchedClocks old moved).twinSwitch old).switchedOutputs written := rfl

/-- Without a link's fields among them the moved fields reach neither the twin nor the commit before TWIN.ENABLE does. -/
theorem State.switchedClocks_changes {moved : List Nat} (s : State) (old : Look) (hlinks : ∀ p, moved.any (fun k => decide (0x2A01 ≤ keyCode k ∧ keyCode k ≤ 0x2A08) && keyIndex k == p) = false) :
    Frm 10930209210772 s (s.switchedClocks old moved) := by
  have hm := Sub.refl 10930209210772
  have hlink : ∀ v : State, v.each [0, 1, 2] (fun p t => t.doIf (moved.any (fun k => decide (0x2A01 ≤ keyCode k ∧ keyCode k ≤ 0x2A08) && keyIndex k == p)) (fun t => t.linkCommit old p)) = v := fun v =>
    State.each_fixed (fun p _ => by rw [State.doIf, hlinks p]; rfl)
  have hpins : Frm 10930209210772 s (((((((s.checksSwitch old moved).mantisSwitch old moved).mainsSwitch old moved).streamsSwitch old moved).statsSwitch old moved).pinsSwitch moved)) :=
    State.pinsSwitch_frm (hm.le (by decide)) (State.statsSwitch_frm (hm.le (by decide)) (State.streamsSwitch_frm (hm.le (by decide)) (State.mainsSwitch_frm (hm.le (by decide))
      (State.mantisSwitch_frm (hm.le (by decide)) (State.checksSwitch_frm (hm.le (by decide)) (Frm.refl _ s))))))
  unfold State.switchedClocks
  dsimp only
  rw [hlink]
  exact State.clocksSwitch_frm (hm.le (by decide)) (State.doIf_frm (State.doIf_frm hpins (State.ffCommit_frm (hm.le (by decide)) hpins)) (State.quadSet_frm (hm.le (by decide)) (State.doIf_frm hpins (State.ffCommit_frm (hm.le (by decide)) hpins))))

theorem State.switchedOutputs_changes (s : State) (written : List Nat) : Frm (141205471248 ||| 6144) s (s.switchedOutputs written) :=
  State.excApplyAll_frm ((Sub.refl (141205471248 ||| 6144)).le (by decide)) (State.assignAll_frm ((Sub.refl (141205471248 ||| 6144)).le (by decide)) (Frm.refl _ s))

/-- A standby that TWIN.ENABLE sends to UNRESOLVED gives its commit up. -/
theorem State.twinSwitch_givesUp {old : Look} (hold : old Fld.twinEnable 0 0 = 0) (hnow : s.cfgv Fld.twinEnable 0 0 = 1) (hrole : s.twin.role = .standby) (hseal : s.cfg.flip.any (fun f => f.sealing) = true) :
    (s.twinSwitch old).cfg.committed = s.cfg.committed ∧ (s.twinSwitch old).cfg.flip = none ∧ (s.twinSwitch old).inj = s.inj := by
  let ready : State := { s with boot := { s.boot with readyAt := s.tm.up } }
  have htold : ∀ v : State, v.sendHealth.cfg = v.cfg := fun v => State.sendHealth_frm (Sub.refl _) (Frm.refl _ v) .cfg rfl
  have hswitch : s.twinSwitch old = ((ready.setRole .unresolved []).sendHealth).seizeTaken := by
    unfold State.twinSwitch
    dsimp only
    rw [hold, hnow, if_neg (by decide), if_pos rfl]
  have hcfg : (ready.setRole .unresolved []).sendHealth.cfg = s.cfg.givenUp := by
    rw [htold, State.setRole_cfg, show ready.twin.role = .standby from hrole]
    rfl
  have hdropped : s.cfg.givenUp.flip = none := by
    rw [CfgSt.givenUp]
    cases hflip : s.cfg.flip with
    | none => rfl
    | some f =>
      rw [hflip] at hseal
      have hsealing : f.sealing = true := hseal
      simp [hsealing]
  obtain ⟨hcommitted, hnone⟩ := ((ready.setRole .unresolved []).sendHealth).seizeTaken_commit
  rw [hcfg] at hcommitted hnone
  refine ⟨?_, ?_, State.twinSwitch_frm (Sub.refl _) (Frm.refl _ s) .inj rfl⟩
  · rw [hswitch, hcommitted]
    rfl
  · rw [hswitch]
    exact hnone hdropped

/-- A flip that no group takes switches what belongs to none. -/
theorem State.switchGroups_apart {moved : List Nat} (hfuse : s.otp.vaultFuse = false) (hmains : f.mains = false) (hwritten : f.written = [])
    (hmoved : (changedKeys s.otp.vaultFuse s.cfg.live (s.applying f)).filter (({ f with staged := s.applying f } : FlipSt).moves s.cfgv (Bank.get s.otp.vaultFuse (s.applying f))) = moved)
    (hbefore : s.beforeSwitch (Bank.get s.otp.vaultFuse (s.applying f)) moved = s) :
    ∃ x : FlipSt, x.sealing = f.sealing ∧ s.switchGroups f [] = ({ s with cfg := { s.cfg with
      live := moved.foldl (fun b k => Bank.set s.otp.vaultFuse b k (Bank.get s.otp.vaultFuse (s.applying f) (keyCode k) (keyIndex k) (keySub k))) s.cfg.live, flip := some x } } : State).afterSwitch s.cfgv moved [] := by
  have hfollow : ∀ c : CfgSt, ({ s with cfg := c } : State).sealFollow { f with staged := s.applying f } = { s with cfg := c } := fun c => if_neg (fun hall => Bool.false_ne_true (hfuse.symm.trans hall.1))
  have hnone : ∀ (v : State) (h : Nat → State → State), v.each [] h = v := fun _ _ => rfl
  have hskip : ∀ (v : State) (h : State → State), v.doIf false h = v := fun _ _ => rfl
  unfold State.switchGroups
  dsimp only
  rw [hmoved, hbefore, hfollow, hwritten, hmains, hskip, hnone, hnone, List.filter_nil]
  refine ⟨_, ?_, rfl⟩
  rfl

/-- A flip's own turn: whose part is taken now, and by which frame. -/
def FlipSt.turned (f : FlipSt) (s : State) : FlipSt :=
  let gs := [0, 1].filter (s.flipsNow f)
  let sharedNow := f.shared && s.leadReached f
  { f with waitA := f.waitA && !gs.contains 0, waitB := f.waitB && !gs.contains 1, shared := f.shared && !sharedNow, lastK := if sharedNow then f.lead.map (fun g => (s.grpOf g).doneK) else f.lastK }

/-- Behind the switch the flip's own record is written, and it ends where no part of it waits. -/
def State.flipTurnEnds (s : State) (f : FlipSt) : State :=
  let f := s.cfg.flip.getD f
  let s := if s.memError 4 = 2 then (s.memWrite 4).enterBad 4 else s.memWrite 4
  if s.cfg.flip.isSome ∧ f.waitA = false ∧ f.waitB = false ∧ f.shared = false then s.flipDone f else s

theorem State.flipHere_eq (s : State) (f : FlipSt) :
    s.flipHere f = ((s.doIf f.inBad State.leaveBad).switchGroups (f.turned s) ([0, 1].filter (s.flipsNow f))).flipTurnEnds (f.turned s) := rfl

/-- A flip that the switch has dropped ends nothing. -/
theorem State.flipTurnEnds_dropped (hflip : s.cfg.flip = none) (hinj : s.inj = []) : s.flipTurnEnds f = s := by
  have hmem : s.memError 4 = 0 := by rw [State.memError, State.injOf, State.injOf, hinj]; rfl
  have hwrite : s.memWrite 4 = s := by
    unfold State.memWrite
    dsimp only
    exact if_pos hmem
  unfold State.flipTurnEnds
  dsimp only
  have hread : (if s.memError 4 = 2 then (s.memWrite 4).enterBad 4 else s.memWrite 4) = s := (if_neg (by rw [hmem]; decide)).trans hwrite
  rw [hread, hflip]
  exact if_neg (fun hall => Bool.false_ne_true hall.1)

/-! ### The hub that refutes O42 -/

/-- The bank with TWIN enabled. -/
def twinBank : Bank := [(keyOf Fld.twinEnable 0 0, 1)]

/-- A commit that enables TWIN, armed for fields of no group alone, and still sealed by the alibi store. -/
def sealingFlip : FlipSt :=
  { id := none, staged := twinBank, written := [], profile := none, persist := false, inBad := false, sealing := true, armed := true, waitA := false, waitB := false, atA := false, atB := false, holdA := false, holdB := false,
    shared := true, lead := none, txn := none, frames := 0, lastK := none, atFrame := none, late := false, mains := false, again := false, sentUp := 0, counted := false }

/-- A standby without TWIN. -/
def sealedStandby : State := { State.reset with cfg := { CfgSt.init with flip := some sealingFlip }, twin := { TwinSt.init with role := .standby } }

/-- The flip with its share of the switch taken. -/
def sealingFlipTaken : FlipSt := { sealingFlip with shared := false }

theorem twinBank_moved : (changedKeys false [] twinBank).filter (sealingFlipTaken.moves (Bank.get false []) (Bank.get false twinBank)) = [keyOf Fld.twinEnable 0 0] := by decide

theorem twinBank_live : [keyOf Fld.twinEnable 0 0].foldl (fun b k => Bank.set false b k (Bank.get false twinBank (keyCode k) (keyIndex k) (keySub k))) [] = twinBank := by decide

theorem streams_off : ∀ x ∈ List.range 64, Bank.get false [] Fld.streamEnable x 0 = 0 := by decide

theorem twinEnable_dflt : Bank.get false [] Fld.twinEnable 0 0 = 0 := by decide

/-- No stream is open, so that none ends with the old configuration. -/
theorem sealedStandby_beforeSwitch (g : List ErrIn) (new : Look) (moved : List Nat) : (sealedStandby.gathering g).beforeSwitch new moved = sealedStandby.gathering g := by
  have hone : ∀ x ∈ List.range 64, (if !(sealedStandby.gathering g).cfgOn Fld.streamEnable x then
      (sealedStandby.gathering g).doIf (((sealedStandby.gathering g).strmOf x).ending && new Fld.streamEnable x 0 == 1) (fun t => t.endStream x)
    else if movedAt moved [Fld.streamEnable] x && new Fld.streamEnable x 0 == 0 then (sealedStandby.gathering g).disableStream x
    else if movedAt moved streamCodes x then (sealedStandby.gathering g).closeStreams [x]
    else sealedStandby.gathering g) = sealedStandby.gathering g := by
    intro x hx
    have hoff : (sealedStandby.gathering g).cfgOn Fld.streamEnable x = false := by
      change (Bank.get false [] Fld.streamEnable x 0 == 1) = false
      rw [streams_off x hx]
      rfl
    rw [hoff]
    rfl
  exact State.each_fixed hone

theorem sealedStandby_moved (g : List ErrIn) : (changedKeys (sealedStandby.gathering g).otp.vaultFuse (sealedStandby.gathering g).cfg.live ((sealedStandby.gathering g).applying sealingFlipTaken)).filter
    (({ sealingFlipTaken with staged := (sealedStandby.gathering g).applying sealingFlipTaken } : FlipSt).moves (sealedStandby.gathering g).cfgv
      (Bank.get (sealedStandby.gathering g).otp.vaultFuse ((sealedStandby.gathering g).applying sealingFlipTaken))) = [keyOf Fld.twinEnable 0 0] := twinBank_moved

/-- Behind the switch the role given up has taken the commit with it. -/
theorem sealedStandby_switches (g : List ErrIn) : ((sealedStandby.gathering g).switchGroups sealingFlipTaken []).cfg.committed = false
    ∧ ((sealedStandby.gathering g).switchGroups sealingFlipTaken []).cfg.flip = none ∧ ((sealedStandby.gathering g).switchGroups sealingFlipTaken []).inj = [] := by
  have hmoved := sealedStandby_moved g
  obtain ⟨x, hx, hswitch⟩ := State.switchGroups_apart (s := sealedStandby.gathering g) (f := sealingFlipTaken) rfl rfl rfl hmoved (sealedStandby_beforeSwitch g _ _)
  let live : State := { sealedStandby.gathering g with cfg := { sealedStandby.cfg with live := twinBank, flip := some x } }
  have hlive : ({ sealedStandby.gathering g with cfg := { (sealedStandby.gathering g).cfg with
      live := [keyOf Fld.twinEnable 0 0].foldl (fun b k => Bank.set (sealedStandby.gathering g).otp.vaultFuse b k
        (Bank.get (sealedStandby.gathering g).otp.vaultFuse ((sealedStandby.gathering g).applying sealingFlipTaken) (keyCode k) (keyIndex k) (keySub k))) (sealedStandby.gathering g).cfg.live, flip := some x } } : State) = live :=
    congrArg (fun b : Bank => { sealedStandby.gathering g with cfg := { sealedStandby.cfg with live := b, flip := some x } }) twinBank_live
  rw [hswitch, hlive, State.afterSwitch_eq]
  have hclocks := live.switchedClocks_changes (moved := [keyOf Fld.twinEnable 0 0]) (sealedStandby.gathering g).cfgv (fun p => by simp [keyOf, keyCode, Fld.twinEnable])
  generalize live.switchedClocks (sealedStandby.gathering g).cfgv [keyOf Fld.twinEnable 0 0] = v at hclocks ⊢
  have hcfg : v.cfg = live.cfg := hclocks .cfg rfl
  have htwin : v.twin = live.twin := hclocks .twin rfl
  have hcfgv : v.cfgv = Bank.get false twinBank := hclocks.cfgv rfl rfl
  obtain ⟨hcommitted, hflip, hinj⟩ := State.twinSwitch_givesUp (s := v) (old := (sealedStandby.gathering g).cfgv) twinEnable_dflt (by rw [hcfgv]; decide) (by rw [htwin]; rfl) (by rw [hcfg]; exact hx)
  have hout := (v.twinSwitch (sealedStandby.gathering g).cfgv).switchedOutputs_changes []
  rw [show (((v.twinSwitch (sealedStandby.gathering g).cfgv).switchedOutputs []).cfg) = (v.twinSwitch (sealedStandby.gathering g).cfgv).cfg from hout .cfg rfl, show (((v.twinSwitch (sealedStandby.gathering g).cfgv).switchedOutputs []).inj) = (v.twinSwitch (sealedStandby.gathering g).cfgv).inj from hout .inj rfl]
  refine ⟨hcommitted.trans (by rw [hcfg]; rfl), hflip, hinj.trans ?_⟩
  exact (show v.inj = live.inj from hclocks .inj rfl).trans rfl

/-- So the flip ends with nothing committed. -/
theorem sealedStandby_flipHere (g : List ErrIn) : ((sealedStandby.gathering g).flipHere sealingFlip).cfg.committed = false := by
  obtain ⟨hcommitted, hflip, hinj⟩ := sealedStandby_switches g
  have hturned : sealingFlip.turned (sealedStandby.gathering g) = sealingFlipTaken := rfl
  have hgroups : [0, 1].filter ((sealedStandby.gathering g).flipsNow sealingFlip) = [] := rfl
  have hgood : (sealedStandby.gathering g).doIf sealingFlip.inBad State.leaveBad = sealedStandby.gathering g := rfl
  rw [State.flipHere_eq, hturned, hgroups, hgood, State.flipTurnEnds_dropped hflip hinj]
  exact hcommitted

/-- Refutes O42 in its clause on a flip whose every boundary has come: cfg.committed is true then. The statement lets an armed flip be still sealed by the alibi store (FlipSt.sealing),
and TWIN.ENABLE, which it moves here, sends a standby to UNRESOLVED: the role given up drops such a commit, and none is applied. -/
theorem not_commitsAreValidatedAndArmed : ¬ Obligations.CommitsAreValidatedAndArmed := by
  intro h
  obtain ⟨-, -, -, -, hflip, -⟩ := h sealedStandby
  obtain ⟨hexec, -, hruns⟩ := hflip sealingFlip rfl rfl rfl rfl
  obtain ⟨u, hu, -, -, -, hends⟩ := hruns (by decide)
  obtain ⟨-, hcommitted, -⟩ := hends rfl
  obtain ⟨g, hcycle⟩ := sealedStandby.oneCycle_changes (fun t => t.flipHere sealingFlip)
  rw [Host.Outcome.next.inj (hu.symm.trans hexec), show (sealedStandby.oneCycle (fun t => t.flipHere sealingFlip)).cfg = _ from hcycle .cfg (by decide), sealedStandby_flipHere] at hcommitted
  exact Bool.false_ne_true hcommitted

end Sys2Proof.Machine
end

section
/-! PROOFS. Svetron: requests are checked, served by their codes and ended (R385 to R399); signatures and attestation. -/

namespace Sys2Proof.Machine

open Sys2Proof

set_option Elab.async false

variable {O : OtpSt} {Q : List Instr} {s t u : State} {path : Path} {bs body : List Byte} {rest : List (Path × List Byte)} {code id : Nat} {d : Desc} {f : List Byte → State → State × Nat}

/-! ### A request in front (R385, R390) -/

theorem State.request_refused (hgo : s.sv.goWaits = none) (hfront : s.sv.requests = (path, bs) :: rest) (hcode : reqCode bs = code) (hcheck : s.reqCheck bs ≠ 0) :
    s.request path code f = .next (svSweep 64 (s.reqEnd (s.reqCheck bs))) := by
  unfold State.request
  rw [hgo, hfront]
  dsimp only
  exact (if_neg Bool.false_ne_true).trans ((if_pos ⟨rfl, hcode⟩).trans (if_pos hcheck))

/-- A request that passes its check ends with what its code makes of it. -/
theorem State.request_served (hgo : s.sv.goWaits = none) (hfront : s.sv.requests = (path, bs) :: rest) (hcode : reqCode bs = code) (hcheck : s.reqCheck bs = 0) :
    s.request path code f = .next (svSweep 64 ((if (f ((bs.drop 56).take ((reqBody code).getD 0)) s).2 = 0 then (f ((bs.drop 56).take ((reqBody code).getD 0)) s).1 else s).reqEnd
      (f ((bs.drop 56).take ((reqBody code).getD 0)) s).2)) := by
  unfold State.request
  rw [hgo, hfront]
  dsimp only
  exact (if_neg Bool.false_ne_true).trans ((if_pos ⟨rfl, hcode⟩).trans (if_neg (fun hne => hne hcheck)))

/-- What a code changes where it refuses nothing. -/
theorem State.request_takes {n : Nat} (hgo : s.sv.goWaits = none) (hfront : s.sv.requests = (path, bs) :: rest) (hcheck : s.reqCheck bs = 0) (hcode : reqCode bs = code) (hbody : (reqBody code).getD 0 = n)
    (hf : f ((bs.drop 56).take n) s = (t, 0)) : s.request path code f = .next (svSweep 64 (t.reqEnd 0)) := by
  rw [State.request_served hgo hfront hcode hcheck, hbody, hf]
  rfl

/-- A code that refuses its request changes nothing. -/
theorem State.request_bars {n status : Nat} (hgo : s.sv.goWaits = none) (hfront : s.sv.requests = (path, bs) :: rest) (hcheck : s.reqCheck bs = 0) (hcode : reqCode bs = code) (hbody : (reqBody code).getD 0 = n)
    (hf : f ((bs.drop 56).take n) s = (t, status)) (hstatus : status ≠ 0) : s.request path code f = .next (svSweep 64 (s.reqEnd status)) := by
  rw [State.request_served hgo hfront hcode hcheck, hbody, hf]
  exact congrArg (fun v : State => Host.Outcome.next (svSweep 64 (v.reqEnd status))) (if_neg hstatus)

theorem State.request_waits (hgo : s.sv.goWaits.isSome = true) : s.request path code f = .next s := if_pos hgo

/-! ### A new owner (R391, R392) -/

theorem State.newOwner_none (h : s.unwrap (body.drop 198) = none) : s.newOwner body = (s, 0x0505) := by
  unfold State.newOwner
  rw [h]

theorem State.newOwner_some {key : List Byte} (h : s.unwrap (body.drop 198) = some key) : s.newOwner body =
    ((({ s with sv := { s.sv with owned := true, ownerKey := body.take 97, policy := BitVec.ofNat 32 (ofLeBytes ((body.drop 194).take 4) % 4), ownerGen := s.sv.ownerGen.satAdd 1 } } : State).newSbKey key).setMetrology
      (metrologyOf ((body.drop 97).take 97)) false, 0) := by
  unfold State.newOwner
  rw [h]

theorem State.setMetrology_sv (s : State) (k : Option (List Byte)) (always : Bool) : (s.setMetrology k always).sv = { s.sv with metrology := k, eventCount := (s.setMetrology k always).sv.eventCount } := by
  unfold State.setMetrology State.doIf
  dsimp only
  split <;> rfl

theorem State.newOwner_owns {key : List Byte} (h : s.unwrap (body.drop 198) = some key) : (s.newOwner body).1.sv.owned = true ∧ (s.newOwner body).1.sv.ownerKey = body.take 97 ∧ (s.newOwner body).1.sv.sbKey = key
    ∧ (s.newOwner body).1.sv.sbCounter = 0 ∧ (s.newOwner body).1.sv.ownerGen = s.sv.ownerGen.satAdd 1 ∧ (s.newOwner body).1.sv.metrology = metrologyOf ((body.drop 97).take 97) := by
  rw [State.newOwner_some h, State.setMetrology_sv]
  exact ⟨rfl, rfl, rfl, rfl, rfl, rfl⟩

theorem State.newOwner_status {key : List Byte} (h : s.unwrap (body.drop 198) = some key) : (s.newOwner body).2 = 0 := congrArg Prod.snd (State.newOwner_some h)

/-! ### A request ends (R385, R393) -/

/-- Signatures that failed in a row, with one request more. -/
def SvSt.badRun (v : SvSt) (status : Nat) : Nat := if status = 0x0504 then v.badSigs + 1 else 0

/-- The Svetron state as a request ends. -/
def SvSt.ends (v : SvSt) (status up : Nat) : SvSt :=
  { v with requests := v.requests.drop 1, challenge := v.draws, draws := v.draws + 1, badSigs := if 8 ≤ v.badRun status then 0 else v.badRun status, backoff := if 8 ≤ v.badRun status then some up else v.backoff }

theorem State.reqEnd_eq (s : State) (status : Nat) : s.reqEnd status =
    (({ s with sv := s.sv.ends status s.tm.up } : State).setReg 0x68050 (BitVec.ofNat 32 status)).doIf (decide (status ≠ 0)) (fun t => t.setBit Reg.svStatus 15) := rfl

theorem State.reqEnd_sv (s : State) (status : Nat) : (s.reqEnd status).sv = s.sv.ends status s.tm.up := by
  rw [State.reqEnd_eq, State.doIf]
  split <;> rfl

theorem State.reqEnd_reports (h : Good O Q s) (status : Nat) : (s.reqEnd status).reg 0x68050 = BitVec.ofNat 32 status ∧ (status ≠ 0 → (s.reqEnd status).bit Reg.svStatus 15 = true) := by
  have hended : Good O Q { s with sv := s.sv.ends status s.tm.up } := good_mk h rfl rfl rfl rfl
  have hset : (({ s with sv := s.sv.ends status s.tm.up } : State).setReg 0x68050 (BitVec.ofNat 32 status)).reg 0x68050 = BitVec.ofNat 32 status := State.reg_setReg_self hended
  rw [State.reqEnd_eq]
  by_cases hstatus : status = 0
  · refine ⟨?_, fun hne => absurd hstatus hne⟩
    rw [State.doIf, if_neg (by simp [hstatus])]
    exact hset
  · rw [State.doIf, if_pos (decide_eq_true hstatus)]
    exact ⟨(State.setBit_reg (by decide)).trans hset, fun _ => State.setBit_bit (State.setReg_good hended) (by decide)⟩

theorem State.reqCheck_backoff (h : s.sv.backoff.isSome = true) : s.reqCheck bs = 0x0508 := if_pos h

theorem State.backoffOver (s : State) (n : Nat) : ({ s.reachUp n with sv := { (s.reachUp n).sv with backoff := none } } : State).sv = { s.sv with backoff := none }
    ∧ ({ s.reachUp n with sv := { (s.reachUp n).sv with backoff := none } } : State).tm = (s.reachUp n).tm ∧ s.keepsBut [.tm, .sv] { s.reachUp n with sv := { (s.reachUp n).sv with backoff := none } } := by
  have hm := Sub.refl (1 ||| 34359738368)
  have hsv : (s.reachUp n).sv = s.sv := s.reachUp_changes n .sv rfl
  refine ⟨by rw [hsv], rfl, ?_⟩
  exact Frm.keepsParts (frm_mk (State.reachUp_frm (hm.le (by decide)) (Frm.refl (1 ||| 34359738368) s))) (by decide)

theorem execBackoffEnd_ends {n : Nat} (h : s.sv.backoff = some n) : exec .backoffEnd s = .next { s.reachUp (n + 60000000000) with sv := { (s.reachUp (n + 60000000000)).sv with backoff := none } } := by
  change execBackoffEnd s = _
  unfold execBackoffEnd
  rw [h]

/-! ### Signatures and attestation (R398, R399) -/

/-- What SIGN_REQ does as its turn comes. -/
def State.signs (s : State) (d : Desc) : State :=
  if s.sv.withheld then s.retireBad d 0x0506
  else if s.lastWaits then s
  else ((s.descWrite d (s.signBlock 2 5 (wordBytes ((d.words.drop 4).take 12)))).bump 0x6800C).retireOk d []

theorem execSignReq_serves (h : s.serves id 0x60 d) : exec (.signReq id) s = .next (s.signs d) := by
  change execSignReq id s = _
  exact State.serve_served h

/-- What ATTEST does as its turn comes. -/
def State.attests (s : State) (d : Desc) : State :=
  if s.lastWaits then s
  else ((s.descWrite d (s.report504 ((d.words.drop 4).take 8) ++ s.signBlock 1 6 (Config.sha384 (s.report504 ((d.words.drop 4).take 8))) ++ s.otp.certificate)).bump 0x6800C).retireOk d [BitVec.ofNat 32 (608 + s.otp.certificate.length)]

theorem execAttest_serves (h : s.serves id 0x61 d) : exec (.attest id) s = .next (s.attests d) := by
  change execAttest id s = _
  exact State.serve_served h

/-! ### The statement -/

theorem exec_claim (path : Path) (s : State) : exec (.claim path) s = execClaim path s := rfl
theorem exec_transfer (path : Path) (s : State) : exec (.transfer path) s = execTransfer path s := rfl
theorem exec_release (path : Path) (s : State) : exec (.release path) s = execRelease path s := rfl
theorem exec_setSbKey (path : Path) (s : State) : exec (.setSbKey path) s = execSetSbKey path s := rfl
theorem exec_setMetrologyKey (path : Path) (s : State) : exec (.setMetrologyKey path) s = execSetMetrologyKey path s := rfl
theorem exec_endorse (path : Path) (s : State) : exec (.endorse path) s = execEndorse path s := rfl
theorem exec_setPolicy (path : Path) (s : State) : exec (.setPolicy path) s = execSetPolicy path s := rfl
theorem exec_unlockInject (path : Path) (s : State) : exec (.unlockInject path) s = execUnlockInject path s := rfl
theorem exec_lockInject (path : Path) (s : State) : exec (.lockInject path) s = execLockInject path s := rfl
theorem exec_unlockDebug (path : Path) (s : State) : exec (.unlockDebug path) s = execUnlockDebug path s := rfl

/-- A request of a code that is refused ends alone; the code tells which command it is. -/
theorem requests_refused (hgo : s.sv.goWaits = none) (hfront : s.sv.requests = (path, bs) :: rest) (hcheck : s.reqCheck bs ≠ 0) :
    ∀ e ∈ [(Instr.claim path, 1), (.transfer path, 2), (.release path, 3), (.setSbKey path, 4), (.setMetrologyKey path, 5), (.endorse path, 6), (.setPolicy path, 7), (.unlockInject path, 16), (.lockInject path, 17), (.unlockDebug path, 18)],
      reqCode bs = e.2 → exec e.1 s = .next (svSweep 64 (s.reqEnd (s.reqCheck bs))) := by
  have hrefused : ∀ code f, reqCode bs = code → s.request path code f = .next (svSweep 64 (s.reqEnd (s.reqCheck bs))) := fun code f hcode => State.request_refused hgo hfront hcode hcheck
  intro e he hcode
  simp only [List.mem_cons, List.not_mem_nil, or_false] at he
  rcases he with rfl | rfl | rfl | rfl | rfl | rfl | rfl | rfl | rfl | rfl
  all_goals simp only [exec_claim, execClaim, exec_transfer, execTransfer, exec_release, execRelease, exec_setSbKey, execSetSbKey, exec_setMetrologyKey, execSetMetrologyKey, exec_endorse, execEndorse, exec_setPolicy, execSetPolicy, exec_unlockInject, execUnlockInject, exec_lockInject, execLockInject, exec_unlockDebug, execUnlockDebug]
  all_goals exact hrefused _ _ hcode

theorem requests_wait (hgo : s.sv.goWaits.isSome = true) (path : Path) :
    ∀ c ∈ [Instr.claim path, .transfer path, .release path, .setSbKey path, .setMetrologyKey path, .endorse path, .setPolicy path, .unlockInject path, .lockInject path, .unlockDebug path], exec c s = .next s := by
  have hwaits : ∀ code f, s.request path code f = .next s := fun code f => State.request_waits hgo
  intro c hc
  simp only [List.mem_cons, List.not_mem_nil, or_false] at hc
  rcases hc with rfl | rfl | rfl | rfl | rfl | rfl | rfl | rfl | rfl | rfl
  all_goals simp only [exec_claim, execClaim, exec_transfer, execTransfer, exec_release, execRelease, exec_setSbKey, execSetSbKey, exec_setMetrologyKey, execSetMetrologyKey, exec_endorse, execEndorse, exec_setPolicy, execSetPolicy, exec_unlockInject, execUnlockInject, exec_lockInject, execLockInject, exec_unlockDebug, execUnlockDebug]
  all_goals exact hwaits _ _

/-- Settles O49: request_refused, request_takes and request_bars code by code, reqEnd, newOwner, and the commands that sign. -/
theorem svetronRequestsAreChecked : Obligations.SvetronRequestsAreChecked := by
  intro s
  refine ⟨fun path bs rest hgo hfront => ⟨fun e he hcode hcheck => requests_refused hgo hfront hcheck e he hcode, fun hcheck =>
      ⟨fun key hcode hkey => ?claim, fun hcode hkey => ?claimNone, fun key hcode hkey => ?transfer, fun hcode => ?release, fun key hcode hkey => ?key,
        fun hcode hkey => ?keyNone, fun hcode hopen => ?metrology, fun hcode hshut => ?metrologyShut, fun hcode hgood => ?endorse, fun hcode hbad => ?endorseBad,
        fun hcode => ?policy, fun hcode => ?unlock, fun hcode => ?lock,
        fun hcode hsigning => ?debugBars, fun hcode hidle => ?debug⟩⟩,
    fun hgo path c hc => requests_wait hgo path c hc, fun status => ?ends, fun hwf status => State.reqEnd_reports (good_of_wf hwf) status, fun hseven => ?backoff, fun bs h => State.reqCheck_backoff h,
    fun body key h => State.newOwner_owns h, fun t ht => ⟨_, execBackoffEnd_ends ht, s.backoffOver _⟩,
    fun id d hd hwithheld => ?withheld, fun id d hd hfree hlast => ?signed, fun id d hd hfree hlast => ?waits, fun id d hd hlast => ?attestWaits, fun id d hd hlast => ?attests⟩
  case claim =>
    rw [exec_claim, execClaim]
    exact State.request_takes hgo hfront hcheck hcode rfl (Prod.ext rfl (State.newOwner_status hkey))
  case claimNone =>
    rw [exec_claim, execClaim]
    exact State.request_bars hgo hfront hcheck hcode rfl (State.newOwner_none hkey) (by decide)
  case transfer =>
    rw [exec_transfer, execTransfer]
    exact State.request_takes hgo hfront hcheck hcode rfl (Prod.ext rfl (State.newOwner_status hkey))
  case release =>
    rw [exec_release, execRelease]
    exact State.request_takes hgo hfront hcheck hcode rfl rfl
  case policy =>
    rw [exec_setPolicy, execSetPolicy]
    exact State.request_takes hgo hfront hcheck hcode rfl rfl
  case unlock =>
    rw [exec_unlockInject, execUnlockInject]
    exact State.request_takes hgo hfront hcheck hcode rfl rfl
  case lock =>
    rw [exec_lockInject, execLockInject]
    exact State.request_takes hgo hfront hcheck hcode rfl rfl
  case key =>
    rw [exec_setSbKey, execSetSbKey]
    exact State.request_takes (n := 145) hgo hfront hcheck hcode rfl (by rw [hkey])
  case keyNone =>
    rw [exec_setSbKey, execSetSbKey]
    exact State.request_bars (n := 145) (t := s) hgo hfront hcheck hcode rfl (by rw [hkey]) (by decide)
  case metrology =>
    rw [exec_setMetrologyKey, execSetMetrologyKey]
    exact State.request_takes hgo hfront hcheck hcode rfl (if_pos hopen)
  case metrologyShut =>
    rw [exec_setMetrologyKey, execSetMetrologyKey]
    exact State.request_bars hgo hfront hcheck hcode rfl (if_neg (Bool.eq_false_iff.mp hshut)) (by decide)
  case endorse =>
    rw [exec_endorse, execEndorse]
    exact State.request_takes hgo hfront hcheck hcode rfl (if_pos hgood)
  case endorseBad =>
    rw [exec_endorse, execEndorse]
    exact State.request_bars hgo hfront hcheck hcode rfl (if_neg (Bool.eq_false_iff.mp hbad)) (by decide)
  case debugBars =>
    rw [exec_unlockDebug, execUnlockDebug]
    exact State.request_bars hgo hfront hcheck hcode rfl (if_pos hsigning) (by decide)
  case debug =>
    rw [exec_unlockDebug, execUnlockDebug]
    exact State.request_takes hgo hfront hcheck hcode rfl (if_neg (Bool.eq_false_iff.mp hidle))
  case ends =>
    rw [State.reqEnd_sv]
    exact ⟨rfl, rfl, rfl, rfl, rfl, rfl, (State.reqEnd_frm (Sub.refl _) (Frm.refl _ s)).keepsParts (by decide)⟩
  case backoff =>
    rw [State.reqEnd_sv]
    have hrun : s.sv.badRun 0x0504 = 8 := by rw [SvSt.badRun, if_pos rfl, hseven]
    rw [SvSt.ends, hrun]
    exact ⟨rfl, rfl⟩
  case withheld => exact (execSignReq_serves hd).trans (congrArg Host.Outcome.next (if_pos hwithheld))
  case signed => exact (execSignReq_serves hd).trans (congrArg Host.Outcome.next ((if_neg (Bool.eq_false_iff.mp hfree)).trans (if_neg (Bool.eq_false_iff.mp hlast))))
  case waits => exact (execSignReq_serves hd).trans (congrArg Host.Outcome.next ((if_neg (Bool.eq_false_iff.mp hfree)).trans (if_pos hlast)))
  case attestWaits => exact (execAttest_serves hd).trans (congrArg Host.Outcome.next (if_pos hlast))
  case attests => exact (execAttest_serves hd).trans (congrArg Host.Outcome.next (if_neg (Bool.eq_false_iff.mp hlast)))

end Sys2Proof.Machine
end

section
/-! PROOFS. The Scarab vault: how it starts and stops, its seal, its records and the alibi store, and VAULT_CMD (R368 to R380, R465). -/

namespace Sys2Proof.Machine

open Sys2Proof

set_option Elab.async false

variable {O : OtpSt} {Q : List Instr} {s t u : State} {d : Desc} {id code : Nat} {high : Bool}

/-! ### Audit entries (R373) -/

/-- The entry that an event of a kind writes. -/
def State.auditEntry (s : State) (kind : Nat) (inPlace : Option (List W32)) : List W32 :=
  let head := [s.sv.eventCount, at_ 24 kind ||| BitVec.ofNat 32 s.epoch.toNat] ++ inPlace.getD (two s.nowNs)
  head ++ wordsOf ((Config.sha384 (s.chainValue ++ wordBytes head)).take 16)

theorem State.audit_vault (s : State) (kind : Nat) (inPlace : Option (List W32)) :
    (s.audit kind inPlace).vault = { s.vault with audit := (s.vault.audit ++ [s.auditEntry kind inPlace]).drop (s.vault.audit.length + 1 - 4096), toStore := s.vault.toStore ++ [s.auditEntry kind inPlace] } := rfl

theorem ofNat_and_low {n : Nat} (hn : n < 16777216) : BitVec.ofNat 32 n &&& 0x00FFFFFF = BitVec.ofNat 32 n := by
  apply BitVec.eq_of_toNat_eq
  rw [BitVec.toNat_and, BitVec.toNat_ofNat, Nat.mod_eq_of_lt (by omega)]
  exact (Nat.and_two_pow_sub_one_eq_mod n 24).trans (Nat.mod_eq_of_lt hn)

/-- An entry tells its kind. -/
theorem State.auditEntry_kind (s : State) {kind : Nat} (inPlace : Option (List W32)) (hkind : kind < 256) : field (wordAt (s.auditEntry kind inPlace) 1) 31 24 = kind := by
  have hepoch : s.epoch.toNat < 16777216 := Nat.lt_trans s.epoch.isLt (by decide)
  have hword : wordAt (s.auditEntry kind inPlace) 1 = at_ 24 kind ||| BitVec.ofNat 32 s.epoch.toNat := rfl
  rw [hword, ← ofNat_and_low hepoch]
  exact field_topByte_at hkind _

/-! ### The vault starts (R379) -/

/-- The vault begins to run, with the owned fields of its sealed set live. -/
def State.vaultRuns (s : State) : State :=
  { s with cfg := { s.cfg with live := withOwned s.otp.vaultFuse s.cfg.live s.vault.sealed }, vault := { s.vault with mode := .running, seqNext := s.seqFromStore, challenge := s.sv.draws }, sv := { s.sv with draws := s.sv.draws + 1 } }

/-- The vault is in FAULT, with the owned fields at their defaults. -/
def State.vaultFails (s : State) : State :=
  { s with cfg := { s.cfg with live := withOwned s.otp.vaultFuse s.cfg.live [] }, vault := { s.vault with mode := .fault } }

theorem State.vaultStart_runs {ok : Bool} {kind : Nat} (hfuse : s.otp.vaultFuse = true) (hgood : (s.vaultVerifies ok && s.vault.sealedGood) = true) (hkind : kind ≠ 2) : s.vaultStart ok kind =
    (if withOwned s.otp.vaultFuse s.cfg.live s.vault.sealed ≠ s.cfg.live then s.vaultRuns.ownedReload else s.vaultRuns.excRole []).audit kind none := by
  unfold State.vaultStart
  rw [hfuse, if_neg (by decide), hgood, if_pos rfl]
  dsimp only
  rw [if_neg hkind]
  unfold State.vaultRuns
  rw [hfuse]

theorem State.vaultStart_fails {ok : Bool} {kind : Nat} (hfuse : s.otp.vaultFuse = true) (hbad : (s.vaultVerifies ok && s.vault.sealedGood) = false) : s.vaultStart ok kind = s.vaultFails.ownedReload.raiseBare 2 false 0xFFFF := by
  unfold State.vaultStart
  rw [hfuse, if_neg (by decide), hbad, if_neg Bool.false_ne_true]
  unfold State.vaultFails
  rw [hfuse]

/-- The outputs and filters follow the owned fields; nothing else changes. -/
theorem State.vaultRuns_follows (s : State) (c : Prop) [Decidable c] : Frm 14336 s.vaultRuns (if c then s.vaultRuns.ownedReload else s.vaultRuns.excRole []) := by
  split
  · exact State.ownedReload_frm (Sub.refl _) (Frm.refl _ _)
  · exact State.excRole_frm ((Sub.refl _).le (by decide)) (Frm.refl _ _)

theorem execVaultReset_starts {ok : Bool} (hfuse : s.otp.vaultFuse = true) (hmode : s.vault.mode = .starting) (hstage : 9 ≤ s.boot.stage) : exec (.vaultReset ok) s = .next (s.vaultStart ok 5) := if_pos ⟨hfuse, hmode, hstage⟩

theorem execVaultReset_runs (hfuse : s.otp.vaultFuse = true) (hmode : s.vault.mode = .starting) (hstage : 9 ≤ s.boot.stage) (hsealed : s.vault.sealedGood = true) (hverifies : s.vaultVerifies true = true) :
    Runs (.vaultReset true) s (fun u => u.vault.mode = .running ∧ u.vault.seqNext = s.seqFromStore ∧ u.vault.challenge = s.sv.draws ∧ u.sv.draws = s.sv.draws + 1
      ∧ u.cfg.live = withOwned true s.cfg.live s.vault.sealed ∧ ∃ e, u.vault.toStore = s.vault.toStore ++ [e] ∧ field (wordAt e 1) 31 24 = 5) := by
  have hexec := execVaultReset_starts (ok := true) hfuse hmode hstage
  rw [State.vaultStart_runs hfuse (by rw [hverifies, hsealed]; rfl) (by decide)] at hexec
  have hfollows := s.vaultRuns_follows (withOwned s.otp.vaultFuse s.cfg.live s.vault.sealed ≠ s.cfg.live)
  generalize (if withOwned s.otp.vaultFuse s.cfg.live s.vault.sealed ≠ s.cfg.live then s.vaultRuns.ownedReload else s.vaultRuns.excRole []) = v at hexec hfollows
  have hvault : v.vault = s.vaultRuns.vault := hfollows .vault rfl
  have hsv : v.sv = s.vaultRuns.sv := hfollows .sv rfl
  refine ⟨v.audit 5 none, hexec, ?_, ?_, ?_, ?_, ?_, v.auditEntry 5 none, ?_, v.auditEntry_kind none (by decide)⟩
  · rw [State.audit_vault, hvault]
    rfl
  · rw [State.audit_vault, hvault]
    rfl
  · rw [State.audit_vault, hvault]
    rfl
  · exact congrArg SvSt.draws hsv
  · exact (hfollows.live rfl).trans (by rw [← hfuse]; rfl)
  · rw [State.audit_vault, hvault]
    rfl

theorem execVaultReset_fails {ok : Bool} (hfuse : s.otp.vaultFuse = true) (hmode : s.vault.mode = .starting) (hstage : 9 ≤ s.boot.stage) (hbad : s.vaultVerifies ok = false ∨ s.vault.sealedGood = false) :
    Runs (.vaultReset ok) s (fun u => u.vault.mode = .fault ∧ u.cfg.live = withOwned true s.cfg.live []) := by
  have hm := Sub.refl (14336 ||| 10445897334800)
  have hexec := execVaultReset_starts (ok := ok) hfuse hmode hstage
  rw [State.vaultStart_fails hfuse (by rcases hbad with h | h <;> simp [h])] at hexec
  have hfails : Frm (14336 ||| 10445897334800) s.vaultFails (s.vaultFails.ownedReload.raiseBare 2 false 0xFFFF) :=
    State.raiseBare_frm (hm.le (by decide)) (State.ownedReload_frm (hm.le (by decide)) (Frm.refl _ _))
  exact ⟨_, hexec, congrArg VaultSt.mode (hfails .vault rfl), (hfails.live rfl).trans (by rw [← hfuse]; rfl)⟩

theorem State.vaultVerifies_unread (s : State) : s.vaultVerifies false = false := rfl

/-! ### The vault stops (R379, R382, R465) -/

/-- The vault's state as a VAULT reset begins. -/
def VaultSt.resetting (v : VaultSt) : VaultSt := { v with mode := .starting, intervals := [], seqNext := 0 }

theorem State.vaultRestart_leaves (s : State) : s.vaultRestart.vault = s.vault.resetting ∧ (s.cfg.txn.any (fun t => t.vaultOwned) = true → s.vaultRestart.cfg.txn = none) := by
  have hcfg : s.vaultDown.cfg = s.cfg := rfl
  unfold State.vaultRestart State.vaultRollback
  rw [hcfg]
  split
  · exact ⟨rfl, fun _ => rfl⟩
  · next hfree => exact ⟨rfl, fun howned => absurd howned hfree⟩

theorem State.vaultDown_regs (h : Good O Q s) : s.vaultDown.reg 0x60010 = 0 ∧ s.vaultDown.reg 0x60014 = 0 := by
  have hstop : Good O Q s.vaultStop := good_mk h rfl rfl rfl rfl
  refine ⟨?_, State.reg_setReg_self (State.setReg_good hstop)⟩
  exact (State.reg_setReg_other (by decide)).trans (State.reg_setReg_self hstop)

theorem State.vaultRestart_regs (s : State) : s.vaultRestart.regs = s.vaultDown.regs := State.vaultRollback_frm (Sub.refl _) (Frm.refl _ s.vaultDown) .regs rfl

theorem execVaultWatchdog_restarts (h : Good O Q s) (hfuse : s.otp.vaultFuse = true) (hmode : s.vault.mode ≠ .off) : Runs .vaultWatchdog s (fun u =>
    u.vault = { s.vault with mode := .starting, intervals := [], seqNext := 0 } ∧ (s.cfg.txn.any (fun t => t.vaultOwned) = true → u.cfg.txn = none) ∧ u.reg 0x60010 = 0 ∧ u.reg 0x60014 = 0 ∧ s.keepsBut (.vault :: .cfg :: reportParts) u) := by
  have hm := Sub.refl (17179869200 ||| 4294967296 ||| 1649804312592)
  have hraised : Frm reportSet s.vaultRestart (s.vaultRestart.raise (errCode 1 0x0005 0)) := State.raise_frm (m := reportSet) (Sub.refl _) (Frm.refl _ _)
  have hregs : ∀ a, s.vaultRestart.reg a = s.vaultDown.reg a := fun a => congrArg (fun c => Cells.get resetWord c a) s.vaultRestart_regs
  have hvault : (s.vaultRestart.raise (errCode 1 0x0005 0)).vault = s.vaultRestart.vault := hraised .vault (by decide)
  have hcfg : (s.vaultRestart.raise (errCode 1 0x0005 0)).cfg = s.vaultRestart.cfg := hraised .cfg (by decide)
  refine ⟨_, if_pos ⟨hfuse, hmode⟩, hvault.trans s.vaultRestart_leaves.1, fun howned => ?_, ?_, ?_, ?_⟩
  · rw [hcfg]
    exact s.vaultRestart_leaves.2 howned
  · rw [State.raise_reg (by unfold quietReg; decide), hregs]
    exact (State.vaultDown_regs h).1
  · rw [State.raise_reg (by unfold quietReg; decide), hregs]
    exact (State.vaultDown_regs h).2
  · exact Frm.keepsParts (State.raise_frm (hm.le (by decide)) (State.vaultRollback_frm (hm.le (by decide)) (State.vaultDown_frm (hm.le (by decide)) (Frm.refl (17179869200 ||| 4294967296 ||| 1649804312592) s)))) (by decide)

/-! ### The seal switch (R368, R373) -/

theorem State.settlePin_pads (s : State) (high : Bool) : (s.settlePin 31 high).pads.level.getLsbD 31 = high ∧ (s.settlePin 31 high).pads.settled.getLsbD 31 = true := by
  constructor
  · cases high
    · change (s.pads.level &&& ~~~ BitVec.ofNat 33 (2 ^ 31)).getLsbD 31 = false
      rw [BitVec.getLsbD_and, show (~~~ BitVec.ofNat 33 (2 ^ 31)).getLsbD 31 = false from by decide, Bool.and_false]
    · change (s.pads.level ||| BitVec.ofNat 33 (2 ^ 31)).getLsbD 31 = true
      rw [BitVec.getLsbD_or, show (BitVec.ofNat 33 (2 ^ 31)).getLsbD 31 = true from by decide, Bool.or_true]
  · change (s.pads.settled ||| BitVec.ofNat 33 (2 ^ 31)).getLsbD 31 = true
    rw [BitVec.getLsbD_or, show (BitVec.ofNat 33 (2 ^ 31)).getLsbD 31 = true from by decide, Bool.or_true]

theorem State.settlePin_seal (hfuse : s.otp.vaultFuse = true) : (s.settlePin 31 high).sealOpen = high := by
  obtain ⟨hlevel, hsettled⟩ := s.settlePin_pads high
  rw [State.sealOpen, hlevel, hsettled, show (s.settlePin 31 high).otp = s.otp from rfl, hfuse]
  rfl

theorem State.sealTurn_eq (hfuse : s.otp.vaultFuse = true) (before : Bool) : s.sealTurn before = if s.vault.mode = .running ∧ s.sealOpen ≠ before then s.audit (if s.sealOpen then 3 else 4) none else s := by
  unfold State.sealTurn
  split
  · next hall => rw [if_pos hall.2]
  · next hall => rw [if_neg (fun h => hall ⟨hfuse, h⟩)]

theorem State.audit_keeps (s : State) (kind : Nat) (ws : Option (List W32)) : Frm 17179869184 s (s.audit kind ws) := by
  have hm := Sub.refl 17179869184
  exact frm_mk (Frm.refl _ s)

/-- What a change of the seal's pin leaves. -/
theorem State.sealTurn_leaves (s : State) (hfuse : s.otp.vaultFuse = true) (before : Bool) : (s.sealTurn before).pads = s.pads ∧ (s.sealTurn before).sealOpen = s.sealOpen ∧ Frm 17179869184 s (s.sealTurn before)
    ∧ (s.vault.mode = .running → s.sealOpen ≠ before → ∃ e, (s.sealTurn before).vault.toStore = s.vault.toStore ++ [e] ∧ wordAt e 0 = s.sv.eventCount ∧ field (wordAt e 1) 31 24 = (if s.sealOpen then 3 else 4))
    ∧ (s.sealOpen = before → (s.sealTurn before).vault = s.vault) := by
  rw [State.sealTurn_eq hfuse]
  split
  · next hall =>
    refine ⟨rfl, rfl, s.audit_keeps _ _, fun _ _ => ⟨s.auditEntry (if s.sealOpen then 3 else 4) none, rfl, rfl, s.auditEntry_kind none ?_⟩, fun hsame => absurd hsame hall.2⟩
    split <;> decide
  · next hall => exact ⟨rfl, rfl, Frm.refl _ _, fun hmode hne => absurd ⟨hmode, hne⟩ hall, fun _ => rfl⟩

theorem execSealSwitchChange_turns (hfuse : s.otp.vaultFuse = true) : Runs (.sealSwitchChange high) s (fun u => u.pads.level.getLsbD 31 = high ∧ u.pads.settled.getLsbD 31 = true ∧ u.sealOpen = high
    ∧ (s.vault.mode = .running → s.sealOpen ≠ high → ∃ e, u.vault.toStore = s.vault.toStore ++ [e] ∧ wordAt e 0 = s.sv.eventCount ∧ field (wordAt e 1) 31 24 = (if high then 3 else 4))
    ∧ (s.sealOpen = high → u.vault = s.vault) ∧ s.keepsBut [.pads, .vault] u) := by
  have hm := Sub.refl (4 ||| 17179869184)
  obtain ⟨hlevel, hsettled⟩ := s.settlePin_pads high
  have hopen := State.settlePin_seal (high := high) hfuse
  obtain ⟨hpads, hseal, hchanges, hwrites, hsame⟩ := State.sealTurn_leaves (s.settlePin 31 high) hfuse s.sealOpen
  rw [hopen] at hseal hwrites hsame
  refine ⟨_, if_pos hfuse, by rw [hpads, hlevel], by rw [hpads, hsettled], hseal, fun hmode hne => hwrites hmode (Ne.symm hne), fun heq => hsame heq.symm, ?_⟩
  exact Frm.keepsParts ((State.settlePin_frm (hm.le (by decide)) (Frm.refl (4 ||| 17179869184) s)).trans (hchanges.mono (hm.le (by decide)))) (by decide)

/-! ### Records and the alibi store (R376, R378, R380) -/

/-- The oldest result has become a record. -/
def State.recorded (s : State) (r : WeighSt) (rest : List WeighSt) : State :=
  { s with vault := { s.vault with ready := rest, records := s.vault.records ++ [(s.vault.seqNext, s.weightRecord r)], toStore := s.vault.toStore ++ [s.weightRecord r], seqNext := s.vault.seqNext + 1, lastSync := some r.tExit } }

theorem execWeightRecordIssue_records {r : WeighSt} {rest : List WeighSt} (hready : s.vault.ready = r :: rest) (hmode : s.vault.mode = .running) (hissues : s.issues = true) (hfree : s.sv.withheld = false) :
    exec .weightRecordIssue s = .next (((s.recorded r rest).vaultTaint.bump 0x6800C).sendOn 2 .twin (.vaultSync s.vault.seqNext r.tExit)) := by
  change execWeightRecordIssue s = _
  unfold execWeightRecordIssue
  rw [hready]
  exact if_neg (by simp [hmode, hissues, hfree])

theorem execWeightRecordIssue_rests (h : s.vault.mode ≠ .running ∨ s.issues = false ∨ s.sv.withheld = true) : exec .weightRecordIssue s = .next s := by
  change execWeightRecordIssue s = _
  unfold execWeightRecordIssue
  split
  · rfl
  · exact if_pos h

/-- Reasons of the moment stand against open intervals, and change nothing else of the vault. -/
theorem State.vaultTaint_vault (s : State) : s.vaultTaint.vault = { s.vault with intervals := s.vaultTaint.vault.intervals } := by
  unfold State.vaultTaint
  split <;> rfl

theorem State.issued_leaves (h : Good O Q s) (r : WeighSt) (rest : List WeighSt) (cls : TxClass) (body : TxBody) : let u := ((s.recorded r rest).vaultTaint.bump 0x6800C).sendOn 2 cls body
    u.vault = { (s.recorded r rest).vault with intervals := u.vault.intervals } ∧ u.twin = { s.twin with mine := u.twin.mine, resync := u.twin.resync } ∧ u.reg 0x6800C = (s.reg 0x6800C).satAdd 1
      ∧ s.keepsBut [.regs, .ffPort, .link, .twin, .vault] u := by
  have hm := Sub.refl (17179869184 ||| 16 ||| 8891924496)
  have hrecorded : Good O Q (s.recorded r rest) := good_mk h rfl rfl rfl rfl
  have htainted : Good O Q (s.recorded r rest).vaultTaint := State.vaultTaint_good hrecorded
  have hchanges : Frm 17179869184 s (s.recorded r rest).vaultTaint := State.vaultTaint_frm (Sub.refl _) (by have hm := Sub.refl 17179869184; exact frm_mk (Frm.refl _ s))
  have hvault := (s.recorded r rest).vaultTaint_vault
  dsimp only
  generalize (s.recorded r rest).vaultTaint = v at htainted hchanges hvault ⊢
  have hbumped : Good O Q (v.bump 0x6800C) := State.bumpBy_good htainted
  have hsent : ((v.bump 0x6800C).sendOn 2 cls body).vault = v.vault := State.sendOn_frm (Sub.refl _) (Frm.refl _ _) .vault rfl
  refine ⟨?_, ?_, ?_, ?_⟩
  · rw [hsent]
    exact hvault
  · have htells := (v.bump 0x6800C).sendOn_tellsHealth 2 cls body
    unfold TellsHealth at htells
    rw [show (v.bump 0x6800C).twin = s.twin from hchanges .twin rfl] at htells
    exact htells
  · have hreg := (State.sendOn_sends (p := 2) (cls := cls) (body := body) hbumped).at_.1 0x6800C (by decide) (by decide)
    rw [hreg]
    exact (State.reg_setReg_self htainted).trans (congrArg (fun w : W32 => w.satAdd 1) (hchanges.reg rfl))
  · exact Frm.keepsParts (State.sendOn_frm (hm.le (by decide)) (State.bump_frm (hm.le (by decide)) (hchanges.mono (hm.le (by decide))))) (by decide)

theorem trimRecords_subset (acked : Option W32) (rs : List (W32 × List W32)) : ∀ x ∈ trimRecords acked rs, x ∈ rs := by
  intro x hx
  unfold trimRecords at hx
  split at hx
  · split at hx
    · exact List.mem_cons_of_mem _ hx
    · exact hx
  · exact hx

/-- The alibi store takes the oldest waiting write. -/
def State.storeTaken (s : State) : State :=
  ({ s with vault := { s.vault with toStore := s.vault.toStore.drop 1, records := trimRecords s.vault.acked s.vault.records } } : State).flashBegin

theorem State.storeTaken_eq (s : State) : s.storeTaken = { s with
    vault := { s.vault with toStore := s.vault.toStore.drop 1, records := trimRecords s.vault.acked s.vault.records },
    flash := { s.flash with writes := if (s.vault.toStore.drop 1).isEmpty then beginFirst false (beginFirst true s.flash.writes) else s.flash.writes } } := by
  unfold State.storeTaken State.flashBegin
  split <;> rfl

theorem execAlibiStoreWrite_stores (hflip : s.cfg.flip = none) (hwait : s.cfg.waitReady = none) (hidle : s.flash.writes.any (fun w => w.begun) = false) : exec .alibiStoreWrite s = .next s.storeTaken := by
  have hcfg : s.storeTaken.cfg = s.cfg := by rw [State.storeTaken_eq]
  have hquiet : s.storeTaken.sealStored = s.storeTaken := by
    unfold State.sealStored
    rw [hcfg, hflip, hwait]
  refine (if_neg (by rw [hidle]; decide)).trans (congrArg Host.Outcome.next ?_)
  change (if _ then s.storeTaken.sealStored else s.storeTaken) = s.storeTaken
  rw [hquiet, ite_self]

theorem State.storeTaken_leaves (s : State) : s.storeTaken.vault.toStore = s.vault.toStore.drop 1 ∧ (∀ x ∈ s.storeTaken.vault.records, x ∈ s.vault.records)
    ∧ s.storeTaken.flash = { s.flash with writes := s.storeTaken.flash.writes } ∧ (1 < s.vault.toStore.length → s.storeTaken.flash = s.flash) ∧ s.keepsBut [.vault, .flash] s.storeTaken := by
  have hm := Sub.refl (17179869184 ||| 274877906944)
  rw [State.storeTaken_eq]
  refine ⟨rfl, trimRecords_subset _ _, rfl, fun hmore => ?_, Frm.keepsParts (frm_mk (Frm.refl (17179869184 ||| 274877906944) s)) (by decide)⟩
  have hleft : (s.vault.toStore.drop 1).isEmpty = false := by
    rw [List.isEmpty_eq_false_iff, ← List.length_pos_iff, List.length_drop]
    omega
  rw [hleft]
  rfl

/-- The vault of a standby that hears of a record. -/
def VaultSt.synced (w : VaultSt) (v : W32) (tExit : Nat) : VaultSt :=
  { w with
    heldRes := w.heldRes.filter (fun r => decide (tExit < r.tExit))
    ready := w.ready.filter (fun r => decide (tExit < r.tExit))
    lastSync := some (max tExit (w.lastSync.getD 0))
    seqNext := v + 1 }

theorem execVaultSync_notes {v : W32} {tExit : Nat} (hservice : s.inService 2 = true) (hfuse : s.otp.vaultFuse = true) (hstandby : s.isStandby = true) : Runs (.vaultSync v tExit) s (fun u => u.vault.seqNext = v + 1
    ∧ u.vault.heldRes = s.vault.heldRes.filter (fun r => decide (tExit < r.tExit)) ∧ u.vault.records = s.vault.records ∧ s.keepsBut [.link, .vault, .freeCtr] u) := by
  have hm := Sub.refl (8796361457664 ||| 17179869184)
  have haccepted := s.rxAccept_changes 2
  have hvault : (s.rxAccept 2).vault = s.vault := haccepted .vault rfl
  have hexec : exec (.vaultSync v tExit) s = .next { s.rxAccept 2 with vault := (s.rxAccept 2).vault.synced v tExit } := by
    refine (if_neg (by rw [hservice]; decide)).trans (if_neg ?_)
    rw [State.rxAccept_isStandby, hstandby, show (s.rxAccept 2).otp = s.otp from haccepted .otp rfl, hfuse]
    decide
  rw [hvault] at hexec
  refine ⟨_, hexec, rfl, rfl, rfl, Frm.keepsParts (frm_mk (State.rxAccept_frm (hm.le (by decide)) (Frm.refl (8796361457664 ||| 17179869184) s))) (by decide)⟩

end Sys2Proof.Machine
end

section
/-! PROOFS. VAULT_CMD (R377 to R380): each code as its turn comes, and the statement on the vault. -/

namespace Sys2Proof.Machine

open Sys2Proof

set_option Elab.async false

variable {O : OtpSt} {Q : List Instr} {s t u : State} {d : Desc} {id code : Nat} {f : Desc → State → State}

/-! ### A descriptor of VAULT_CMD -/

theorem State.serveVault_serves (hd : s.serves id 0x70 d) (hcode : field (d.p 0) 15 0 = code) (hmode : code = 1 ∨ s.vault.mode = .running) : s.serveVault id code f = .next (f d s) := by
  unfold State.serveVault
  rw [State.serve_served hd]
  refine congrArg Host.Outcome.next ((if_neg (fun hne => hne hcode)).trans (if_neg ?_))
  rintro ⟨hother, hstopped⟩
  exact hmode.elim hother hstopped

theorem State.serveVault_stopped (hd : s.serves id 0x70 d) (hcode : field (d.p 0) 15 0 = code) (hother : code ≠ 1) (hmode : s.vault.mode ≠ .running) : s.serveVault id code f = .next (s.retireBad d 0x0542) := by
  unfold State.serveVault
  rw [State.serve_served hd]
  exact congrArg Host.Outcome.next ((if_neg (fun hne => hne hcode)).trans (if_pos ⟨hother, hmode⟩))

theorem exec_vaultCmdReadRecords (s : State) (id : Nat) : exec (.vaultCmdReadRecords id) s = execVaultCmdReadRecords id s := rfl
theorem exec_vaultCmdAck (s : State) (id : Nat) : exec (.vaultCmdAck id) s = execVaultCmdAck id s := rfl
theorem exec_vaultCmdReadAudit (s : State) (id : Nat) : exec (.vaultCmdReadAudit id) s = execVaultCmdReadAudit id s := rfl
theorem exec_vaultCmdAuth (s : State) (id : Nat) : exec (.vaultCmdAuth id) s = execVaultCmdAuth id s := rfl
theorem exec_vaultCmdReset (s : State) (id : Nat) : exec (.vaultCmdReset id) s = execVaultCmdReset id s := rfl
theorem exec_vaultCmdStatus (s : State) (id : Nat) : exec (.vaultCmdStatus id) s = execVaultCmdStatus id s := rfl

/-- A vault that does not run refuses every code but the one of its status. -/
theorem vaultCmds_stopped (hd : s.serves id 0x70 d) (hmode : s.vault.mode ≠ .running) : ∀ e ∈ [(Instr.vaultCmdReadRecords id, 2), (.vaultCmdAck id, 3), (.vaultCmdReadAudit id, 4), (.vaultCmdAuth id, 16), (.vaultCmdReset id, 32)],
    field (d.p 0) 15 0 = e.2 → exec e.1 s = .next (s.retireBad d 0x0542) := by
  have hstopped : ∀ code f, code ≠ 1 → field (d.p 0) 15 0 = code → s.serveVault id code f = .next (s.retireBad d 0x0542) := fun code f hother hcode => State.serveVault_stopped hd hcode hother hmode
  intro e he hcode
  simp only [List.mem_cons, List.not_mem_nil, or_false] at he
  rcases he with rfl | rfl | rfl | rfl | rfl
  all_goals simp only [exec_vaultCmdReadRecords, execVaultCmdReadRecords, exec_vaultCmdAck, execVaultCmdAck, exec_vaultCmdReadAudit, execVaultCmdReadAudit, exec_vaultCmdAuth, execVaultCmdAuth, exec_vaultCmdReset, execVaultCmdReset]
  all_goals exact hstopped _ _ (by decide) hcode

/-! ### ACK (R377) -/

/-- The newest record acknowledged, with an ACK of all up to v. -/
def ackedUpTo (records : List (W32 × List W32)) (acked : Option W32) (v : Nat) : Option W32 :=
  match (records.filter (fun r => decide (r.1.toNat ≤ v))).getLast?, acked with
  | some r, some x => some (if x.toNat ≤ r.1.toNat then r.1 else x)
  | some r, none => some r.1
  | none, x => x

theorem ackedUpTo_known {records : List (W32 × List W32)} {acked : Option W32} {v : Nat} {x : W32} (h : ackedUpTo records acked v = some x) : acked = some x ∨ (x.toNat ≤ v ∧ ∃ r ∈ records, r.1 = x) := by
  have hlast : ∀ r, (records.filter (fun r => decide (r.1.toNat ≤ v))).getLast? = some r → r.1.toNat ≤ v ∧ r ∈ records := by
    intro r hr
    obtain ⟨hmem, hle⟩ := List.mem_filter.mp (List.mem_of_getLast? hr)
    exact ⟨of_decide_eq_true hle, hmem⟩
  unfold ackedUpTo at h
  split at h
  · next r y hr =>
    obtain ⟨hle, hmem⟩ := hlast r hr
    obtain rfl := Option.some.inj h
    split
    · exact .inr ⟨hle, r, hmem, rfl⟩
    · exact .inl rfl
  · next r hr =>
    obtain ⟨hle, hmem⟩ := hlast r hr
    obtain rfl := Option.some.inj h
    exact .inr ⟨hle, r, hmem, rfl⟩
  · exact .inl h

/-- An ACK never takes one back. -/
theorem ackedUpTo_grows {records : List (W32 × List W32)} {acked : Option W32} {v : Nat} {x : W32} (h : acked = some x) : ∃ y, ackedUpTo records acked v = some y ∧ x.toNat ≤ y.toNat := by
  subst h
  unfold ackedUpTo
  split
  · next r y hr hy =>
    obtain rfl := Option.some.inj hy
    refine ⟨_, rfl, ?_⟩
    split
    · next hle => exact hle
    · exact Nat.le_refl _
  · next hy => cases hy
  · exact ⟨x, rfl, Nat.le_refl _⟩

theorem execVaultCmdAck_acks (hd : s.serves id 0x70 d) (hmode : s.vault.mode = .running) (hcode : field (d.p 0) 15 0 = 3) (hread : s.descReadOk d 4 = true) : exec (.vaultCmdAck id) s =
    .next (({ s with vault := { s.vault with acked := ackedUpTo s.vault.records s.vault.acked (ofLeBytes (s.descRead d 4)) } } : State).retireOk d [0]) := by
  rw [exec_vaultCmdAck, execVaultCmdAck, State.serveVault_serves hd hcode (.inr hmode), hread]
  rfl

theorem State.acked_leaves (s : State) (a : Option W32) (d : Desc) : (({ s with vault := { s.vault with acked := a } } : State).retireOk d [0]).vault = { s.vault with acked := a }
    ∧ s.keepsBut [.regs, .strm, .host, .sq, .cq, .vault, .sb] (({ s with vault := { s.vault with acked := a } } : State).retireOk d [0]) := by
  have hm := Sub.refl (141197082640 ||| 17179869184)
  refine ⟨State.retireOk_frm (Sub.refl _) (Frm.refl _ _) .vault rfl, ?_⟩
  exact Frm.keepsParts (State.retireOk_frm (hm.le (by decide)) (frm_mk (Frm.refl (141197082640 ||| 17179869184) s))) (by decide)

/-! ### AUTH and RESET (R370, R379) -/

/-- The open transaction is authorised, and the vault has a new challenge. -/
def State.authorised (s : State) : State :=
  { s with cfg := { s.cfg with txn := s.cfg.txn.map (fun t => { t with authorised := true }) }, vault := { s.vault with challenge := s.sv.draws }, sv := { s.sv with draws := s.sv.draws + 1 } }

theorem execVaultCmdAuth_judges (hd : s.serves id 0x70 d) (hmode : s.vault.mode = .running) (hcode : field (d.p 0) 15 0 = 16) (hread : s.descReadOk d (min d.len 148) = true) : exec (.vaultCmdAuth id) s =
    .next (if s.authGood (s.descRead d (min d.len 148)) then s.authorised.respond d (leBytes 8 s.authorised.nowNs) else s.retireBad d 0x0541) := by
  rw [exec_vaultCmdAuth, execVaultCmdAuth, State.serveVault_serves hd hcode (.inr hmode), hread]
  rfl

theorem execVaultCmdReset_judges (hd : s.serves id 0x70 d) (hmode : s.vault.mode = .running) (hcode : field (d.p 0) 15 0 = 32) : exec (.vaultCmdReset id) s =
    .next (if s.sealOpen || s.authTxn then (s.retireOk d [0]).vaultRestart else s.retireBad d 0x0540) := by
  rw [exec_vaultCmdReset, execVaultCmdReset, State.serveVault_serves hd hcode (.inr hmode)]

theorem State.respond_changes (s : State) (d : Desc) (bs : List Byte) : Frm 141197082640 s (s.respond d bs) := State.respond_frm (Sub.refl _) (Frm.refl _ s)

theorem execVaultCmdReadAudit_reads (hd : s.serves id 0x70 d) (hmode : s.vault.mode = .running) (hcode : field (d.p 0) 15 0 = 4) (hread : s.descReadOk d 8 = true) : exec (.vaultCmdReadAudit id) s =
    .next (if ofLeBytes ((s.descRead d 8).drop 4) = 0 ∨ 4096 < ofLeBytes ((s.descRead d 8).drop 4) then s.retireBad d 0x0002
      else s.respond d (((s.vault.audit.filter (fun e => decide (ofLeBytes ((s.descRead d 8).take 4) ≤ (wordAt e 0).toNat))).take (min (ofLeBytes ((s.descRead d 8).drop 4)) (s.descRoom d / 32))).flatMap wordBytes)) := by
  rw [exec_vaultCmdReadAudit, execVaultCmdReadAudit, State.serveVault_serves hd hcode (.inr hmode), hread]
  rfl

/-- Settles O48: the vault's start and stop, its seal, its records and the alibi store, and VAULT_CMD code by code. -/
theorem vaultCommandsAreServed : Obligations.VaultCommandsAreServed := by
  intro s hwf
  have h := good_of_wf hwf
  refine ⟨fun hfuse hmode hstage => ⟨fun hsealed hverifies => execVaultReset_runs hfuse hmode hstage hsealed hverifies, fun ok hbad => execVaultReset_fails hfuse hmode hstage hbad⟩, s.vaultVerifies_unread,
    fun hfuse hmode => execVaultWatchdog_restarts h hfuse hmode, fun high hfuse => execSealSwitchChange_turns hfuse,
    fun r rest hready hmode hissues hfree => ⟨_, execWeightRecordIssue_records hready hmode hissues hfree, State.issued_leaves h r rest _ _⟩, execWeightRecordIssue_rests,
    fun hflip hwait hidle => ⟨_, execAlibiStoreWrite_stores hflip hwait hidle, s.storeTaken_leaves⟩, fun hbusy => if_pos hbusy, fun v t hservice hfuse hstandby => execVaultSync_notes hservice hfuse hstandby,
    fun id d hd hmode e he hcode => vaultCmds_stopped hd hmode e he hcode,
    fun id d hd => ⟨fun hcode => ?status, fun hmode => ⟨fun hcode => ?records, fun hcode hread => ?ack, fun hcode hread hnone => ?auditBad, fun hcode hread hsome hfew => ?audit, fun hcode hread hbad => ?authBad,
      fun hcode hread hgood => ?auth, fun hcode hopen => ?reset, fun hcode hshut hunauth => ?resetBad⟩⟩⟩
  case status => rw [exec_vaultCmdStatus, execVaultCmdStatus, State.serveVault_serves hd hcode (.inl rfl)]
  case records => rw [exec_vaultCmdReadRecords, execVaultCmdReadRecords, State.serveVault_serves hd hcode (.inr hmode)]
  case ack =>
    obtain ⟨hvault, hkeeps⟩ := s.acked_leaves (ackedUpTo s.vault.records s.vault.acked (ofLeBytes (s.descRead d 4))) d
    refine ⟨_, execVaultCmdAck_acks hd hmode hcode hread, ?_, fun x hx => ?_, fun x hx => ?_, hkeeps⟩
    · rw [hvault]
    · rw [hvault] at hx
      exact ackedUpTo_known hx
    · rw [hvault]
      exact ackedUpTo_grows hx
  case auditBad => rw [execVaultCmdReadAudit_reads hd hmode hcode hread, if_pos hnone]
  case audit => rw [execVaultCmdReadAudit_reads hd hmode hcode hread, if_neg (fun hnone => hnone.elim (Nat.ne_of_gt hsome) (Nat.not_lt.mpr hfew))]
  case authBad => rw [execVaultCmdAuth_judges hd hmode hcode hread, if_neg (Bool.eq_false_iff.mp hbad)]
  case auth =>
    have hexec := execVaultCmdAuth_judges hd hmode hcode hread
    rw [if_pos hgood] at hexec
    have hchanges := s.authorised.respond_changes d (leBytes 8 s.authorised.nowNs)
    exact ⟨_, hexec, hchanges .cfg rfl, hchanges .vault rfl, hchanges .sv rfl⟩
  case reset =>
    have hexec := execVaultCmdReset_judges hd hmode hcode
    rw [if_pos (Bool.or_eq_true_iff.mpr hopen)] at hexec
    have hvault : (s.retireOk d [0]).vault = s.vault := State.retireOk_frm (m := 141197082640) (Sub.refl _) (Frm.refl _ s) .vault rfl
    exact ⟨_, hexec, (s.retireOk d [0]).vaultRestart_leaves.1.trans (congrArg VaultSt.resetting hvault)⟩
  case resetBad => rw [execVaultCmdReset_judges hd hmode hcode, hshut, hunauth, if_neg (by decide)]

end Sys2Proof.Machine
end

section
/-! PROOFS. Frames of the side-band: which are taken, what a rejected one changes, and what the commands reach (R396, R415, R420 to R426). -/

namespace Sys2Proof.Machine

open Sys2Proof

set_option Elab.async false

variable {O : OtpSt} {Q : List Instr} {s t u : State} {d : Desc} {f : SbFrame}

/-! ### Retiring hands out no number and asks for no doorbell -/

section
variable {id n status resS : Nat} {res : List W32}

/-- What neither a completion nor a report changes of the host's state: the number of the next descriptor, and whether another doorbell waits. -/
def HostSt.asks (h : HostSt) : Nat × Bool := (h.nextId, h.again)

theorem State.msix_asks (s : State) (v : Nat) : (s.msix v).host.asks = s.host.asks := by
  unfold State.msix
  dsimp only
  split <;> rfl

theorem State.cqCount_asks (s : State) (q : Nat) : (s.cqCount q).host.asks = s.host.asks := by
  unfold State.cqCount
  dsimp only
  split
  · exact State.msix_asks _ _
  · rfl

theorem State.postOne_asks (s : State) (q : Nat) (c : Completion) : (s.postOne q c).host.asks = s.host.asks := by
  have hrelease : ∀ t : State, (t.releaseBuf c.id).host.asks = t.host.asks := fun t =>
    congrArg HostSt.asks (State.releaseBuf_frm (Sub.refl _) (Frm.refl _ t) .host rfl)
  have hfull : ∀ (b : Bool) (t : State) (r i : Nat), (t.doIf b (fun u => u.setBit r i)).host.asks = t.host.asks := by
    intro b t r i
    cases b <;> rfl
  have hwrite : ∀ (a : Nat) (bs : List Byte) (g : CqSt → CqSt), ((s.hostWrite a bs).updCq q g).host.asks = s.host.asks := fun _ _ _ => rfl
  have hcounts : ∀ t : State, (if c.counts then t.cqCount q else t).host.asks = t.host.asks := by
    intro t
    split
    · exact t.cqCount_asks q
    · rfl
  exact (hcounts _).trans ((hfull _ _ _ _).trans ((hrelease _).trans (hwrite _ _ _)))

theorem postGo_asks (ws : List (Nat × Completion)) : ∀ (stuck : List Nat) (s : State), (postGo ws stuck s).host.asks = s.host.asks := by
  induction ws with
  | nil => exact fun _ _ => rfl
  | cons w ws ih =>
    intro stuck s
    unfold postGo
    split
    · exact (ih _ _).trans (s.postOne_asks _ _)
    · exact ih _ _

theorem State.deliver_asks (s : State) (d : Desc) (c : Completion) : (s.deliver d c).host.asks = s.host.asks := by
  unfold State.deliver
  split
  · exact congrArg HostSt.asks (State.setRegs_frm (Sub.refl _) (Frm.refl _ _) .host rfl)
  · exact postGo_asks _ _ _

theorem State.retire1_asks : (s.retire1 d status resS res).host.asks = s.host.asks := by
  have hdrain : ((s.dropDesc d.id).drainCheck d.ring).host = (s.dropDesc d.id).host := State.drainCheck_frm (Sub.refl _) (Frm.refl _ _) .host rfl
  rw [State.retire1, State.deliver_asks, hdrain]
  rfl

theorem State.sweepBad_asks (s : State) : s.sweepBad.host.asks = s.host.asks := by
  refine List.foldlRecOn (motive := fun t : State => t.host.asks = s.host.asks) _ _ rfl (fun t ht e _ => ?_)
  dsimp only
  split
  · exact State.retire1_asks.trans ht
  · exact ht

theorem State.enlist_nextId (s : State) (d : Desc) : (s.enlist d).host.nextId = s.host.nextId + 1 := by
  unfold State.enlist
  dsimp only
  split
  · exact (congrArg Prod.fst (State.sweepBad_asks _)).trans (congrArg Prod.fst State.retire1_asks)
  · exact congrArg Prod.fst (State.sweepBad_asks _)

/-- A descriptor that passes the first checks stands in flight behind the others, where none of them waits to be retired. -/
theorem State.enlist_waits (hfatal : s.log.fatal = false) (hgood : ∀ x ∈ s.host.inflight, x.bad = 0) (hcheck : s.firstCheck d = 0) :
    s.enlist d = { s with host := { s.host with nextId := s.host.nextId + 1, inflight := s.host.inflight ++ [{ d with bad := 0 }] } } := by
  have hnone : (s.host.inflight ++ [{ d with bad := 0 }]).filter (fun x : Desc => decide (x.bad ≠ 0)) = [] := by
    refine List.filter_eq_nil_iff.mpr (fun x hx => ?_)
    rcases List.mem_append.mp hx with hold | hlast
    · simp [hgood x hold]
    · simp [List.mem_singleton.mp hlast]
  unfold State.enlist
  dsimp only
  rw [hcheck, if_neg (by simp [hfatal]), State.sweepBad, hnone]
  rfl

end

/-! ### A frame taken -/

theorem State.sbTake_early (h : s.sbEarly f = true) (run : State → State × List W32) : s.sbTake f run = s := if_pos h

theorem State.sbTake_rejects (h : s.sbEarly f = false) (hcheck : s.sbCheck f ≠ 0) (run : State → State × List W32) : s.sbTake f run = s.sbReject f (s.sbCheck f) := by
  unfold State.sbTake
  rw [h]
  exact if_pos hcheck

theorem State.sbTake_accepts (h : s.sbEarly f = false) (hcheck : s.sbCheck f = 0) (run : State → State × List W32) :
    s.sbTake f run = (run (s.coreNeed.sbAccept f)).1.sbAnswer f 0 (run (s.coreNeed.sbAccept f)).2 := by
  unfold State.sbTake
  rw [h]
  exact if_neg (not_not_intro hcheck)

theorem exec_sbNop (f : SbFrame) (s : State) : exec (.sbNop f) s = .next (if f.cmd = 0 then s.sbTake f (fun t => (t, [])) else s) := rfl
theorem exec_sbRead (f : SbFrame) (s : State) : exec (.sbRead f) s = .next (if f.cmd = 1 then s.sbTake f (sbReadWords f.param.toNat f.addr.toNat) else s) := rfl
theorem exec_sbWrite (f : SbFrame) (s : State) : exec (.sbWrite f) s = .next (if f.cmd = 2 then s.sbTake f (fun t => (sbWriteWords f.data f.addr.toNat t, [])) else s) := rfl
theorem exec_sbDesc (f : SbFrame) (s : State) : exec (.sbDesc f) s = .next (if f.cmd = 3 then s.sbTake f (fun t => (t.sbDescTake f.data, [])) else s) := rfl
theorem exec_sbSvreq (f : SbFrame) (s : State) : exec (.sbSvreq f) s = .next (if f.cmd = 4 then s.sbTake f (fun t => (t.sbSvreqTake f, [])) else s) := rfl
theorem exec_sbMalformedFrame (f : SbFrame) (s : State) :
    exec (.sbMalformedFrame f) s = .next (if !s.sbEarly f && decide (s.sbCheck f = 1 ∨ s.sbCheck f = 2) then s.sbReject f (s.sbCheck f) else s) := rfl

/-- A frame that comes too early after the last one changes nothing. -/
theorem sbFrames_early (h : s.sbEarly f = true) : ∀ c ∈ [Instr.sbNop f, .sbRead f, .sbWrite f, .sbDesc f, .sbSvreq f, .sbMalformedFrame f], exec c s = .next s := by
  have hnone : ∀ (c : Prop) [Decidable c] run, (if c then s.sbTake f run else s) = s := by
    intro c _ run
    rw [State.sbTake_early h, ite_self]
  intro c hc
  simp only [List.mem_cons, List.not_mem_nil, or_false] at hc
  rcases hc with rfl | rfl | rfl | rfl | rfl | rfl
  · rw [exec_sbNop, hnone]
  · rw [exec_sbRead, hnone]
  · rw [exec_sbWrite, hnone]
  · rw [exec_sbDesc, hnone]
  · rw [exec_sbSvreq, hnone]
  · rw [exec_sbMalformedFrame, h]
    rfl

/-- A frame that fails a check is rejected with the result of the first check it fails. -/
theorem sbFrames_rejected (h : s.sbEarly f = false) (hcheck : s.sbCheck f ≠ 0) :
    ∀ e ∈ [(Instr.sbNop f, 0), (.sbRead f, 1), (.sbWrite f, 2), (.sbDesc f, 3), (.sbSvreq f, 4)], f.cmd = e.2 → exec e.1 s = .next (s.sbReject f (s.sbCheck f)) := by
  intro e he hcmd
  simp only [List.mem_cons, List.not_mem_nil, or_false] at he
  rcases he with rfl | rfl | rfl | rfl | rfl
  · rw [exec_sbNop, if_pos hcmd, State.sbTake_rejects h hcheck]
  · rw [exec_sbRead, if_pos hcmd, State.sbTake_rejects h hcheck]
  · rw [exec_sbWrite, if_pos hcmd, State.sbTake_rejects h hcheck]
  · rw [exec_sbDesc, if_pos hcmd, State.sbTake_rejects h hcheck]
  · rw [exec_sbSvreq, if_pos hcmd, State.sbTake_rejects h hcheck]

/-! ### Before a command runs -/

theorem State.coreNeed_changes (s : State) : Frm 8864812498945 s s.coreNeed := State.coreNeed_frm (Sub.refl _) (Frm.refl _ s)

theorem State.sbAccept_uncounted (h : f.cmd = 0) : s.sbAccept f = s := by
  unfold State.sbAccept SbFrame.counted
  simp [h]

theorem State.sbAccept_free (h : s.sv.owned = false) : s.sbAccept f = s := by
  unfold State.sbAccept
  simp [h]

theorem State.sbAccept_counted (h : s.sv.owned = true) (hcmd : f.cmd ≠ 0) : s.sbAccept f = { s with sv := { s.sv with sbCounter := f.counter } } := by
  unfold State.sbAccept SbFrame.counted
  rw [h, decide_eq_true hcmd]
  rfl

/-- What a command of a frame finds: the core is there, and the counter is taken. -/
theorem State.sbReady_changes (s : State) (f : SbFrame) : Frm (8864812498945 ||| 34359738368) s (s.coreNeed.sbAccept f) :=
  have hm := Sub.refl (8864812498945 ||| 34359738368)
  State.sbAccept_frm (hm.le (by decide)) (State.coreNeed_frm (hm.le (by decide)) (Frm.refl _ s))

theorem sbReadWords_length (n : Nat) : ∀ (a : Nat) (s : State), (sbReadWords n a s).2.length = n := by
  induction n with
  | zero => exact fun _ _ => rfl
  | succ n ih =>
    intro a s
    unfold sbReadWords
    dsimp only
    split
    · exact congrArg (· + 1) (ih _ _)
    · exact congrArg (· + 1) (ih _ _)

/-! ### The commands -/

theorem sbNop_runs (h : s.sbEarly f = false) (hcheck : s.sbCheck f = 0) (hcmd : f.cmd = 0) :
    Runs (.sbNop f) s (fun u => u.sb = { s.sb with result := 0, cmd := 0, param := f.param, response := [], endUp := some s.coreNeed.tm.up }
      ∧ u.tm = s.coreNeed.tm ∧ u.pwr = s.coreNeed.pwr ∧ s.keepsBut [.tm, .pwr, .sb, .freeCtr] u) := by
  have hm := Sub.refl (8864812498945 ||| 137438953472)
  have hsb : s.coreNeed.sb = s.sb := s.coreNeed_changes .sb rfl
  refine ⟨s.coreNeed.sbAnswer f 0 [], ?_, ?_, rfl, rfl, Frm.keepsParts (State.sbAnswer_frm (hm.le (by decide)) (State.coreNeed_frm (hm.le (by decide)) (Frm.refl _ s))) (by decide)⟩
  · rw [exec_sbNop, if_pos hcmd, State.sbTake_accepts h hcheck, State.sbAccept_uncounted hcmd]
  · rw [State.sbAnswer, hsb, hcmd]
    rfl

theorem exec_sbRead_accepted (h : s.sbEarly f = false) (hcheck : s.sbCheck f = 0) (hcmd : f.cmd = 1) :
    exec (.sbRead f) s = .next ((sbReadWords f.param.toNat f.addr.toNat (s.coreNeed.sbAccept f)).1.sbAnswer f 0 (sbReadWords f.param.toNat f.addr.toNat (s.coreNeed.sbAccept f)).2) := by
  rw [exec_sbRead, if_pos hcmd, State.sbTake_accepts h hcheck]

theorem exec_sbWrite_accepted (h : s.sbEarly f = false) (hcheck : s.sbCheck f = 0) (hcmd : f.cmd = 2) :
    exec (.sbWrite f) s = .next ((sbWriteWords f.data f.addr.toNat (s.coreNeed.sbAccept f)).sbAnswer f 0 []) := by
  rw [exec_sbWrite, if_pos hcmd, State.sbTake_accepts h hcheck]

theorem exec_sbDesc_accepted (h : s.sbEarly f = false) (hcheck : s.sbCheck f = 0) (hcmd : f.cmd = 3) :
    exec (.sbDesc f) s = .next (((s.coreNeed.sbAccept f).sbDescTake f.data).sbAnswer f 0 []) := by
  rw [exec_sbDesc, if_pos hcmd, State.sbTake_accepts h hcheck]

theorem exec_sbSvreq_accepted (h : s.sbEarly f = false) (hcheck : s.sbCheck f = 0) (hcmd : f.cmd = 4) :
    exec (.sbSvreq f) s = .next (((s.coreNeed.sbAccept f).sbSvreqTake f).sbAnswer f 0 []) := by
  rw [exec_sbSvreq, if_pos hcmd, State.sbTake_accepts h hcheck]

theorem sbDesc_runs (h : s.sbEarly f = false) (hcheck : s.sbCheck f = 0) (hcmd : f.cmd = 3) :
    Runs (.sbDesc f) s (fun u => u.sb.result = 0 ∧ u.sb.cmd = 3 ∧ u.sb.response = [] ∧ u.host.nextId = s.host.nextId + 1) := by
  have hhost : (s.coreNeed.sbAccept f).host = s.host := s.sbReady_changes f .host rfl
  refine ⟨_, exec_sbDesc_accepted h hcheck hcmd, rfl, hcmd, rfl, ?_⟩
  exact (State.enlist_nextId _ _).trans (congrArg (fun x : HostSt => x.nextId + 1) hhost)

/-- A request taken from a frame stands in the buffer, whether the frame is its last or not. -/
theorem State.sbSvreqTake_reqBuf (s : State) (f : SbFrame) : (s.sbSvreqTake f).sb.reqBuf = reqBufWrite f.data (f.param.toNat % 256) s.sb.reqBuf := by
  unfold State.sbSvreqTake
  dsimp only
  split
  · exact congrArg SbSt.reqBuf (State.reqArrive_frm (Sub.refl _) (Frm.refl _ _) .sb rfl)
  · rfl

theorem sbSvreq_runs (h : s.sbEarly f = false) (hcheck : s.sbCheck f = 0) (hcmd : f.cmd = 4) :
    Runs (.sbSvreq f) s (fun u => u.sb.result = 0 ∧ u.sb.cmd = 4 ∧ u.sb.response = [] ∧ u.sb.reqBuf = reqBufWrite f.data (f.param.toNat % 256) s.sb.reqBuf) := by
  have hsb : (s.coreNeed.sbAccept f).sb = s.sb := s.sbReady_changes f .sb rfl
  refine ⟨_, exec_sbSvreq_accepted h hcheck hcmd, rfl, hcmd, rfl, ?_⟩
  exact (State.sbSvreqTake_reqBuf _ f).trans (congrArg (fun x : SbSt => reqBufWrite f.data (f.param.toNat % 256) x.reqBuf) hsb)

/-! ### A frame rejected -/

/-- A rejected frame is counted, with the count of failed authentications where its tag or its counter is wrong. -/
theorem State.sbReject_counted (h : Good O Q s) (r : Nat) :
    (s.sbReject f r).reg 0x74004 = (s.reg 0x74004).satAdd 1
    ∧ (r = 3 ∨ r = 4 → (s.sbReject f r).reg 0x68070 = (s.reg 0x68070).satAdd 1 ∧ (s.sbReject f r).bit Reg.svStatus 14 = true)
    ∧ (r ≠ 3 → r ≠ 4 → (s.sbReject f r).reg 0x68070 = s.reg 0x68070) := by
  have hbump : ∀ {t : State} {a : Nat}, Good O Q t → (t.bump a).reg a = (t.reg a).satAdd 1 := fun ht => State.reg_setReg_self ht
  have hgood : Good O Q (s.bump 0x74004) := State.bump_good h
  by_cases hr : r = 3 ∨ r = 4
  · have htake : s.sbReject f r = (((s.bump 0x74004).bump 0x68070).setBit Reg.svStatus 14).sbAnswer f r [] := by
      unfold State.sbReject
      dsimp only
      rw [if_pos hr]
    rw [htake]
    refine ⟨?_, fun _ => ⟨?_, ?_⟩, fun h3 h4 => (hr.elim h3 h4).elim⟩
    · exact (State.setBit_reg (by decide)).trans ((State.bump_reg (by decide)).trans (hbump h))
    · exact (State.setBit_reg (by decide)).trans ((hbump hgood).trans (congrArg (fun v => v.satAdd 1) (State.bump_reg (by decide))))
    · exact State.setBit_bit (State.bump_good hgood) (by decide)
  · have htake : s.sbReject f r = (s.bump 0x74004).sbAnswer f r [] := by
      unfold State.sbReject
      dsimp only
      rw [if_neg hr]
    rw [htake]
    exact ⟨hbump h, fun hr' => absurd hr' hr, fun _ _ => State.bump_reg (by decide)⟩

theorem State.sbReject_sb (s : State) (f : SbFrame) (r : Nat) :
    (s.sbReject f r).sb = { s.sb with result := BitVec.ofNat 8 r, cmd := f.cmd, param := f.param, response := [], endUp := some s.tm.up } := by
  unfold State.sbReject
  dsimp only
  split <;> rfl

/-! ### The checks -/

theorem State.sbCheck_bits (h : f.bits % 32 ≠ 0) : s.sbCheck f = 1 := if_pos h

theorem State.sbCheck_format (h : f.bits % 32 = 0) (hformat : s.sbFormat f = false) : s.sbCheck f = 2 := by
  unfold State.sbCheck
  rw [if_neg (fun hne => hne h), if_pos hformat]

/-- A frame that passes every check has the tag it needs and a counter above the last one. -/
theorem State.sbCheck_passes (h : s.sbCheck f = 0) : (s.sbTagged f = true → f.tag = s.sbTag f)
    ∧ (s.sv.owned = true → f.cmd ≠ 0 → s.sv.sbCounter.toNat < f.counter.toNat) := by
  unfold State.sbCheck at h
  rw [if_neg (fun hne => by rw [if_pos hne] at h; exact absurd h (by decide))] at h
  rw [if_neg (fun hne => by rw [if_pos hne] at h; exact absurd h (by decide))] at h
  rw [if_neg (fun hne => by rw [if_pos hne] at h; exact absurd h (by decide))] at h
  by_cases htag : s.sbTagged f = true ∧ f.tag ≠ s.sbTag f
  · rw [if_pos htag] at h
    exact absurd h (by decide)
  rw [if_neg htag] at h
  by_cases hcounter : s.sv.owned = true ∧ SbFrame.counted f = true ∧ f.counter.toNat ≤ s.sv.sbCounter.toNat
  · rw [if_pos hcounter] at h
    exact absurd h (by decide)
  exact ⟨fun htagged => Decidable.byContradiction fun hne => htag ⟨htagged, hne⟩,
    fun howned hcmd => Nat.lt_of_not_le fun hle => hcounter ⟨howned, decide_eq_true hcmd, hle⟩⟩

/-! ### What is shifted out -/

theorem sbShift_length (ws : List W32) : (sbShift ws).length = 32 * ws.length := by
  have hbytes : ∀ bs : List Byte, (bs.flatMap byteBits).length = 8 * bs.length := by
    intro bs
    induction bs with
    | nil => rfl
    | cons b bs ih =>
      rw [List.flatMap_cons, List.length_append, ih, List.length_cons]
      have hbits : (byteBits b).length = 8 := rfl
      omega
  rw [sbShift, hbytes, wordBytes_length]
  omega

theorem State.sbMiso_length (s : State) (early : Bool) (n : Nat) : (s.sbMiso early n).length = n := by
  unfold State.sbMiso
  rw [List.length_append, List.length_take, List.length_replicate]
  omega

/-- The first 64 bits of a frame shifted out too early are the answer that says so. -/
theorem State.sbMiso_early {n : Nat} (h : n ≤ 64) : s.sbMiso true n = (sbShift [word (s.sbStatusByte + 1 + 256 * 255), s.sbEcho]).take n := by
  have hlen : n - (sbShift s.sbNotReady).length = 0 := Nat.sub_eq_zero_of_le (h.trans_eq (sbShift_length s.sbNotReady).symm)
  have hmiso : s.sbMiso true n = (sbShift s.sbNotReady).take n ++ List.replicate (n - (sbShift s.sbNotReady).length) false := rfl
  rw [hmiso, hlen, List.replicate_zero, List.append_nil]
  rfl

/-! ### Addresses the side-band does not reach -/

/-- A register of a block that is off reads as all ones and takes no write. -/
theorem sbWords_blockOff {a : Nat} (n : W32) (hoff : s.blockOff a = true) : (s.showsStage a = false → sbReadWords 1 a s = (s, [0xFFFFFFFF])) ∧ sbWriteWords [n] a s = s :=
  ⟨fun hstage => if_pos (by rw [hoff, hstage]; rfl), if_pos hoff⟩

theorem State.blockOff_core {a : Nat} (hoff : s.coreOff = true) (hreg : cricketReg a = false) (hlt : a < 0x81000) : s.blockOff a = true := by
  unfold State.blockOff
  rw [hoff, hreg, decide_eq_true hlt]
  rfl

theorem State.blockOff_vault {a : Nat} (hfuse : s.otp.vaultFuse = false) (hle : 0x60000 ≤ a) (hlt : a < 0x68000) : s.blockOff a = true := by
  unfold State.blockOff
  rw [hfuse, decide_eq_true (And.intro hle hlt)]
  exact Bool.or_true _

/-- Settles O53: what each frame does, by the checks it passes (R396, R415, R420 to R426). -/
theorem sideBandFramesAreCheckedAndRun : Obligations.SideBandFramesAreCheckedAndRun := by
  unfold Obligations.SideBandFramesAreCheckedAndRun
  intro s hwf f
  have h := good_of_wf hwf
  have hm := Sub.refl 137438953488
  refine ⟨sbFrames_early, fun u hend hlate => ?_, fun hearly => ?_, fun hearly => ⟨fun hcheck => ⟨sbNop_runs hearly hcheck, fun hcmd => ?_, fun hcmd => ?_, fun hcmd => ?_, fun hcmd => ?_⟩, sbFrames_rejected hearly, fun hcheck => ?_⟩,
    s.sbMiso_length, fun n => State.sbMiso_early, fun r => ?_, State.sbCheck_bits, State.sbCheck_format, fun hcheck => (State.sbCheck_passes hcheck).1, fun hcheck howned hcmd => ?_, State.sbAccept_free,
    fun a n hoff hreg hlt => ?_, fun a n hfuse hle hlt => ?_, fun data hlen hfatal hflight hcheck => ?_⟩
  · unfold State.sbEarly
    rw [hend, Option.any_some, decide_eq_false (Nat.not_lt.mpr hlate), Bool.and_false]
  · unfold State.sbEarly
    rw [hearly, Bool.false_and]
  · exact ⟨exec_sbRead_accepted hearly hcheck hcmd, _, exec_sbRead_accepted hearly hcheck hcmd, rfl, hcmd, rfl, sbReadWords_length _ _ _⟩
  · exact ⟨exec_sbWrite_accepted hearly hcheck hcmd, _, exec_sbWrite_accepted hearly hcheck hcmd, rfl, hcmd, rfl, rfl⟩
  · exact ⟨exec_sbDesc_accepted hearly hcheck hcmd, sbDesc_runs hearly hcheck hcmd⟩
  · exact ⟨exec_sbSvreq_accepted hearly hcheck hcmd, sbSvreq_runs hearly hcheck hcmd⟩
  · rw [exec_sbMalformedFrame, hearly, decide_eq_true hcheck]
    rfl
  · obtain ⟨hcount, hauth, hplain⟩ := State.sbReject_counted (f := f) h r
    exact ⟨hcount, s.sbReject_sb f r, hauth, hplain, Frm.keepsParts (State.sbReject_frm (hm.le (by decide)) (Frm.refl _ s)) (by decide)⟩
  · exact ⟨(State.sbCheck_passes hcheck).2 howned hcmd, congrArg State.sv (State.sbAccept_counted howned hcmd)⟩
  · obtain ⟨hread, hwrite⟩ := sbWords_blockOff n (State.blockOff_core hoff hreg (by omega))
    refine ⟨fun hstage => hread ?_, hwrite⟩
    unfold State.showsStage
    rcases hstage with hother | hibernates
    · rw [decide_eq_false hother, Bool.false_and]
    · rw [decide_eq_true hibernates, Bool.not_true, Bool.and_false]
  · obtain ⟨hread, hwrite⟩ := sbWords_blockOff n (State.blockOff_vault hfuse hle hlt)
    refine ⟨hread ?_, hwrite⟩
    have hother : a ≠ Reg.bootStatus := by
      intro heq
      have hboot : Reg.bootStatus < 0x60000 ∨ 0x68000 ≤ Reg.bootStatus := by decide
      omega
    unfold State.showsStage
    rw [decide_eq_false hother, Bool.false_and]
  · have hdrop : data.drop 16 = [] := List.drop_eq_nil_of_le (Nat.le_of_eq hlen)
    have htake : data.take 16 = data := List.take_of_length_le (Nat.le_of_eq hlen)
    have htaken : s.sbDescTake data = ({ s with sb := { s.sb with descBusy := true } } : State).enlist ⟨s.host.nextId, 64, 0, data, [], s.tm.up, false, 0, s.now⟩ := by
      unfold State.sbDescTake
      dsimp only
      rw [hdrop, htake]
      rfl
    have hlast := htaken.trans (State.enlist_waits (s := { s with sb := { s.sb with descBusy := true } }) hfatal hflight hcheck)
    exact ⟨congrArg (fun t : State => t.sb.descBusy) hlast, congrArg (fun t : State => t.host.inflight) hlast⟩

end Sys2Proof.Machine
end

section
/-! PROOFS. Images: staging, activation, confirmation and fallback (R433 to R436). -/

namespace Sys2Proof.Machine

open Sys2Proof

set_option Elab.async false

variable {O : OtpSt} {Q : List Instr} {s t u : State} {d : Desc} {id : Nat} {second last fresh : Bool}

/-! ### What staging changes of the flash (R433) -/

/-- Another flash that differs in one device alone: the slots, the running device and the other device stand. -/
def FlashSt.stages (second : Bool) (f g : FlashSt) : Prop := g.runningB = f.runningB ∧ g.slotA = f.slotA ∧ g.slotB = f.slotB ∧ g.mem (!second) = f.mem (!second)

theorem FlashSt.stages_refl (second : Bool) (f : FlashSt) : FlashSt.stages second f f := ⟨rfl, rfl, rfl, rfl⟩

theorem FlashSt.stages_trans {f g h : FlashSt} (hfg : FlashSt.stages second f g) (hgh : FlashSt.stages second g h) : FlashSt.stages second f h := by
  obtain ⟨hrun, hA, hB, hmem⟩ := hfg
  obtain ⟨hrun', hA', hB', hmem'⟩ := hgh
  exact ⟨hrun'.trans hrun, hA'.trans hA, hB'.trans hB, hmem'.trans hmem⟩

theorem FlashSt.erase_stages (f : FlashSt) (second : Bool) (a n : Nat) : FlashSt.stages second f (f.erase second a n) := by
  cases second <;> exact ⟨rfl, rfl, rfl, rfl⟩

theorem FlashSt.program_stages (f : FlashSt) (second : Bool) (a : Nat) (bs : List Byte) : FlashSt.stages second f (f.program second a bs) := by
  cases second <;> exact ⟨rfl, rfl, rfl, rfl⟩

theorem FlashSt.stagePut_stages (f : FlashSt) (second : Bool) (a : Nat) (bs : List Byte) : FlashSt.stages second f (f.stagePut second a bs) := by
  unfold FlashSt.stagePut
  dsimp only
  refine FlashSt.stages_trans ?_ (FlashSt.program_stages _ second a bs)
  exact List.foldlRecOn (motive := fun g : FlashSt => FlashSt.stages second f g) _ _ (FlashSt.stages_refl second f) (fun g hg i _ => FlashSt.stages_trans hg (FlashSt.erase_stages g second _ _))

theorem FlashSt.stageChunk_stages (f : FlashSt) (second : Bool) (h : List Byte) (off : Nat) (bs : List Byte) : FlashSt.stages second f (f.stageChunk second h off bs) := by
  have hput : ∀ (b : Bool) (g : FlashSt) (a : Nat) (ws : List Byte), FlashSt.stages second f g → FlashSt.stages second f (if b then g else g.stagePut second a ws) := by
    intro b g a ws hg
    cases b
    · exact FlashSt.stages_trans hg (FlashSt.stagePut_stages g second a ws)
    · exact hg
  exact hput _ _ _ _ (hput _ _ _ _ (FlashSt.stages_refl second f))

theorem FlashSt.slot_setSlot_other (f : FlashSt) (b : Bool) (m : SlotMode) : (f.setSlot (!b) m).slot b = f.slot b := by cases b <;> rfl

theorem FlashSt.setSlot_keeps (f : FlashSt) (b : Bool) (m : SlotMode) : (f.setSlot b m).runningB = f.runningB ∧ (∀ c, (f.setSlot b m).mem c = f.mem c) := by
  cases b <;> exact ⟨rfl, fun c => rfl⟩

/-- What a staged chunk leaves of the device and the slot that run. -/
def FlashSt.runs (f g : FlashSt) : Prop := g.runningB = f.runningB ∧ g.slot f.runningB = f.slot f.runningB ∧ g.mem f.runningB = f.mem f.runningB

theorem FlashSt.stages_runs {f g : FlashSt} (h : FlashSt.stages f.idle f g) : FlashSt.runs f g := by
  obtain ⟨hrun, hA, hB, hmem⟩ := h
  refine ⟨hrun, ?_, ?_⟩
  · rw [FlashSt.slot, FlashSt.slot, hA, hB]
  · rw [FlashSt.idle, Bool.not_not] at hmem
    exact hmem

theorem FlashSt.runs_setSlot {f g : FlashSt} (h : FlashSt.runs f g) (m : SlotMode) : FlashSt.runs f (g.setSlot f.idle m) := by
  obtain ⟨hrun, hslot, hmem⟩ := h
  obtain ⟨hrun', hmem'⟩ := g.setSlot_keeps f.idle m
  exact ⟨hrun'.trans hrun, (g.slot_setSlot_other f.runningB m).trans hslot, (hmem' _).trans hmem⟩

/-! ### FW_STAGE (R433) -/

/-- The image's first bytes, as the device holds them and the chunk brings them. -/
def State.stagedHead (s : State) (d : Desc) : List Byte :=
  (((s.imageHeader s.flash.idle).take (min (d.p 0).toNat 332) ++ (s.descRead d d.len).take (332 - (d.p 0).toNat))).take (min ((d.p 0).toNat + d.len) 332)

/-- The chunk stands in the idle device. -/
def State.chunkStaged (s : State) (d : Desc) : State :=
  ({ s with flash := { (s.flash.stageChunk s.flash.idle (s.stagedHead d) (d.p 0).toNat (s.descRead d d.len)).setSlot s.flash.idle .staging with staged := (d.p 0).toNat + d.len } } : State).refuserNote

/-- A chunk whose length, trial and place are good. -/
theorem exec_fwStage_placed (hd : s.serves id 0x50 d) (hfour : d.len % 4 = 0) (hlen : d.len ≤ 65536) (htrial : s.flash.trial = false) (hplace : (d.p 0).toNat = 0 ∨ (d.p 0).toNat = s.flash.staged) :
    exec (.fwStage id) s = .next (if s.descReadOk d d.len = false then s.dmaFailed d
      else if tooLarge (s.stagedHead d) ((d.p 0).toNat + d.len) then s.retireBad d 0x0702
      else if s.flash.present s.flash.idle = false then s.retireBad d 0x0706
      else if s.flash.stageBad then s.stageLost d ((d.p 1).getLsbD 0)
      else if (d.p 1).getLsbD 0 then (s.chunkStaged d).stageLast d ((d.p 0).toNat + d.len) else (s.chunkStaged d).retireOk d [BitVec.ofNat 32 ((d.p 0).toNat + d.len)]) := by
  change execFwStage id s = _
  unfold execFwStage
  rw [State.serve_served hd]
  refine congrArg Host.Outcome.next ((if_neg (by omega)).trans ((if_neg (by rw [htrial]; decide)).trans ((if_neg ?_).trans rfl)))
  rintro ⟨hnonzero, hother⟩
  exact hplace.elim hnonzero hother

theorem exec_fwStage_trial (hd : s.serves id 0x50 d) (hfour : d.len % 4 = 0) (hlen : d.len ≤ 65536) (htrial : s.flash.trial = true) : exec (.fwStage id) s = .next (s.retireBad d 0x0708) := by
  change execFwStage id s = _
  unfold execFwStage
  rw [State.serve_served hd]
  exact congrArg Host.Outcome.next ((if_neg (by omega)).trans (if_pos htrial))

theorem exec_fwStage_misplaced (hd : s.serves id 0x50 d) (hfour : d.len % 4 = 0) (hlen : d.len ≤ 65536) (htrial : s.flash.trial = false) (hnonzero : (d.p 0).toNat ≠ 0) (hother : (d.p 0).toNat ≠ s.flash.staged) :
    exec (.fwStage id) s = .next (s.retireBad d 0x0701) := by
  change execFwStage id s = _
  unfold execFwStage
  rw [State.serve_served hd]
  exact congrArg Host.Outcome.next ((if_neg (by omega)).trans ((if_neg (by rw [htrial]; decide)).trans (if_pos ⟨hnonzero, hother⟩)))

theorem State.chunkStaged_flash (s : State) (d : Desc) : (s.chunkStaged d).flash = { (s.flash.stageChunk s.flash.idle (s.stagedHead d) (d.p 0).toNat (s.descRead d d.len)).setSlot s.flash.idle .staging with staged := (d.p 0).toNat + d.len } :=
  State.refuserNote_changes _ .flash rfl

theorem State.chunkStaged_runs (s : State) (d : Desc) : FlashSt.runs s.flash (s.chunkStaged d).flash ∧ (s.chunkStaged d).flash.slot s.flash.idle = .staging ∧ (s.chunkStaged d).flash.staged = (d.p 0).toNat + d.len := by
  have hruns := FlashSt.runs_setSlot (FlashSt.stages_runs (s.flash.stageChunk_stages s.flash.idle (s.stagedHead d) (d.p 0).toNat (s.descRead d d.len))) .staging
  rw [State.chunkStaged_flash]
  exact ⟨hruns, FlashSt.slot_setSlot _ _ _, rfl⟩

theorem State.retireOk_flash (s : State) (d : Desc) (res : List W32) : (s.retireOk d res).flash = s.flash := State.retireOk_frm (Sub.refl _) (Frm.refl _ s) .flash rfl

theorem State.retireBad_flash (s : State) (d : Desc) (status : Nat) : (s.retireBad d status).flash = s.flash := State.retireBad_frm (Sub.refl _) (Frm.refl _ s) .flash rfl

/-- With its last chunk an image is STAGED when it verifies, or its slot is EMPTY. -/
theorem State.stageLast_flash (s : State) (d : Desc) (total : Nat) : (s.stageLast d total).flash = s.flash.setSlot s.flash.idle .staged ∨ (s.stageLast d total).flash = { s.flash.setSlot s.flash.idle .empty with staged := 0 } := by
  unfold State.stageLast
  extract_lets _ _ _ st
  by_cases hst : st = 0
  · rw [if_pos hst]
    exact .inl ((State.retireOk_flash _ _ _).trans (State.refuserNote_changes _ .flash rfl))
  · rw [if_neg hst]
    exact .inr ((State.retireBad_flash _ _ _).trans (State.refuserNote_changes _ .flash rfl))

/-- What a chunk taken leaves: the running image as it was, and the idle slot STAGING, or as the last chunk finds it. -/
def State.stagedWith (s : State) (d : Desc) (u : State) : Prop :=
  u.flash.runningB = s.flash.runningB ∧ u.flash.slot s.flash.runningB = s.flash.slot s.flash.runningB ∧ u.flash.mem s.flash.runningB = s.flash.mem s.flash.runningB
  ∧ ((d.p 1).getLsbD 0 = false → u.flash.slot s.flash.idle = .staging ∧ u.flash.staged = (d.p 0).toNat + d.len)
  ∧ ((d.p 1).getLsbD 0 = true → u.flash.slot s.flash.idle = .staged ∨ (u.flash.slot s.flash.idle = .empty ∧ u.flash.staged = 0))
  ∧ s.keepsBut [.regs, .strm, .host, .sq, .cq, .sb, .flash, .pwr] u

theorem State.stagedWith_more (hruns : FlashSt.runs s.flash u.flash) (hkeeps : s.keepsBut [.regs, .strm, .host, .sq, .cq, .sb, .flash, .pwr] u) (hmore : (d.p 1).getLsbD 0 = false)
    (hslot : u.flash.slot s.flash.idle = .staging) (hstaged : u.flash.staged = (d.p 0).toNat + d.len) : s.stagedWith d u := by
  obtain ⟨hrun, hkeep, hmem⟩ := hruns
  exact ⟨hrun, hkeep, hmem, fun _ => ⟨hslot, hstaged⟩, fun hlast => absurd (hmore.symm.trans hlast) Bool.false_ne_true, hkeeps⟩

theorem State.stagedWith_last (hruns : FlashSt.runs s.flash u.flash) (hkeeps : s.keepsBut [.regs, .strm, .host, .sq, .cq, .sb, .flash, .pwr] u) (hlast : (d.p 1).getLsbD 0 = true)
    (hend : u.flash.slot s.flash.idle = .staged ∨ (u.flash.slot s.flash.idle = .empty ∧ u.flash.staged = 0)) : s.stagedWith d u := by
  obtain ⟨hrun, hkeep, hmem⟩ := hruns
  exact ⟨hrun, hkeep, hmem, fun hmore => absurd (hmore.symm.trans hlast) Bool.false_ne_true, fun _ => hend, hkeeps⟩

theorem fwStage_takes (hd : s.serves id 0x50 d) (hfour : d.len % 4 = 0) (hlen : d.len ≤ 65536) (htrial : s.flash.trial = false) (hplace : (d.p 0).toNat = 0 ∨ (d.p 0).toNat = s.flash.staged)
    (hread : s.descReadOk d d.len = true) (hlarge : tooLarge (s.stagedHead d) ((d.p 0).toNat + d.len) = false) (hpresent : s.flash.present s.flash.idle = true) (hbad : s.flash.stageBad = false) :
    Runs (.fwStage id) s (s.stagedWith d) := by
  have hm := Sub.refl (141197082640 ||| 68719476752 ||| 274877906944)
  have hexec := exec_fwStage_placed hd hfour hlen htrial hplace
  rw [if_neg (by rw [hread]; decide), if_neg (by rw [hlarge]; decide), if_neg (by rw [hpresent]; decide), if_neg (by rw [hbad]; decide)] at hexec
  have hchunk : Frm (141197082640 ||| 68719476752 ||| 274877906944) s (s.chunkStaged d) := State.refuserNote_frm (hm.le (by decide)) (frm_mk (Frm.refl _ s))
  obtain ⟨hruns, hslot, hstaged⟩ := s.chunkStaged_runs d
  cases hlast : (d.p 1).getLsbD 0 with
  | false =>
    rw [hlast, if_neg Bool.false_ne_true] at hexec
    have hflash := State.retireOk_flash (s.chunkStaged d) d [BitVec.ofNat 32 ((d.p 0).toNat + d.len)]
    exact ⟨_, hexec, State.stagedWith_more (by rw [hflash]; exact hruns) (Frm.keepsParts (State.retireOk_frm (hm.le (by decide)) hchunk) (by decide)) hlast (by rw [hflash]; exact hslot) (by rw [hflash]; exact hstaged)⟩
  | true =>
    rw [hlast, if_pos rfl] at hexec
    have hidle : (s.chunkStaged d).flash.idle = s.flash.idle := congrArg not hruns.1
    have hkeeps := Frm.keepsParts (F := [.regs, .strm, .host, .sq, .cq, .sb, .flash, .pwr]) (State.stageLast_frm (d := d) (total := (d.p 0).toNat + d.len) (hm.le (by decide)) hchunk) (by decide)
    have hends := (s.chunkStaged d).stageLast_flash d ((d.p 0).toNat + d.len)
    rw [hidle] at hends
    refine ⟨_, hexec, ?_⟩
    rcases hends with hverified | hlost
    · exact State.stagedWith_last (by rw [hverified]; exact FlashSt.runs_setSlot hruns .staged) hkeeps hlast (.inl (by rw [hverified]; exact FlashSt.slot_setSlot _ _ _))
    · exact State.stagedWith_last (by rw [hlost]; exact FlashSt.runs_setSlot hruns .empty) hkeeps hlast (.inr (by rw [hlost]; exact ⟨FlashSt.slot_setSlot _ _ _, rfl⟩))

/-- A chunk after a failed program is lost, and with the last one the whole image. -/
def FlashSt.chunkLost (f : FlashSt) (last : Bool) : FlashSt := if last then { ({ f with stageBad := false } : FlashSt).setSlot f.idle .empty with staged := 0 } else { f with stageBad := false }

theorem State.stageLost_eq (s : State) (d : Desc) (last : Bool) : s.stageLost d last = ({ s with flash := s.flash.chunkLost last } : State).refuserNote.retireBad d 0x0706 := by
  cases last <;> rfl

theorem FlashSt.chunkLost_leaves (f : FlashSt) (last : Bool) : (f.chunkLost last).stageBad = false ∧ (last = true → (f.chunkLost last).slot f.idle = .empty ∧ (f.chunkLost last).staged = 0) ∧ (f.chunkLost last).slot f.runningB = f.slot f.runningB := by
  cases last with
  | false => exact ⟨rfl, fun hlast => absurd hlast Bool.false_ne_true, rfl⟩
  | true =>
    refine ⟨?_, fun _ => ⟨FlashSt.slot_setSlot _ _ _, rfl⟩, FlashSt.slot_setSlot_other _ _ _⟩
    unfold FlashSt.chunkLost FlashSt.setSlot
    cases f.idle <;> rfl

theorem State.stageLost_retires (s : State) (d : Desc) (last : Bool) : ∃ t : State, s.stageLost d last = t.retireBad d 0x0706 ∧ t.flash.stageBad = false ∧ (last = true → t.flash.slot s.flash.idle = .empty ∧ t.flash.staged = 0)
    ∧ t.flash.slot s.flash.runningB = s.flash.slot s.flash.runningB ∧ s.keepsBut [.regs, .host, .flash, .pwr] t := by
  have hm := Sub.refl (68719476752 ||| 274877906944)
  have hkeeps := Frm.keepsParts (F := [.regs, .host, .flash, .pwr]) (State.refuserNote_frm (s := { s with flash := s.flash.chunkLost last }) (hm.le (by decide)) (frm_mk (Frm.refl _ s))) (by decide)
  have hflash : ({ s with flash := s.flash.chunkLost last } : State).refuserNote.flash = s.flash.chunkLost last := State.refuserNote_changes _ .flash rfl
  obtain ⟨hbad, hlost, hkeep⟩ := s.flash.chunkLost_leaves last
  refine ⟨({ s with flash := s.flash.chunkLost last } : State).refuserNote, s.stageLost_eq d last, ?_⟩
  rw [hflash]
  exact ⟨hbad, hlost, hkeep, hkeeps⟩

/-! ### FW_ACTIVATE (R434) -/

/-- The engine pauses for another image, and no transaction stays open. -/
def State.paused (s : State) : State := { s.enginePause with cfg := { s.enginePause.cfg with txn := none } }

theorem State.paused_flash (s : State) : s.paused.flash = { s.flash with pauseUp := some s.tm.up } :=
  have htm : s.engineStop.tm = s.tm := s.engineStop_changes .tm rfl
  s.enginePause_flash.trans (by rw [htm])

theorem State.paused_changes (s : State) : Frm 348429221912 s s.paused :=
  have hm := Sub.refl 348429221912
  frm_mk (State.enginePause_frm hm (Frm.refl _ s))

theorem State.paused_good (h : Good O Q s) : Good O Q s.paused := good_mk (State.enginePause_good h) rfl rfl rfl rfl

theorem State.paused_engine (s : State) : s.paused.boot.engine = .absent := congrArg BootSt.engine s.enginePause_boot

theorem State.paused_verifySlot (s : State) (second : Bool) : s.paused.verifySlot second = s.verifySlot second :=
  State.verifySlot_congr (by rw [s.paused_flash]) (by rw [s.paused_flash]) (s.paused_changes .otp rfl) (s.paused_changes .sv rfl)

/-- The slot that was STAGED runs in TRIAL. -/
def State.slotTried (s : State) (fresh : Bool) : State :=
  { s.paused with flash := { s.paused.flash.setSlot s.flash.idle .trial with runningB := s.flash.idle, oldVault := if fresh then some (s.paused.vault.imageVersion, s.paused.vault.imageCrc, s.paused.vault.imageDigest) else none, trialUp := s.paused.tm.up },
                  boot := { s.paused.boot with recovery := false } }

/-- The vault image of the slot that runs in TRIAL is taken, where it is another. -/
def State.vaultTried (s : State) (fresh : Bool) : State := if fresh then (s.slotTried fresh).vaultImage ((s.slotTried fresh).slotVault s.flash.idle) else s.slotTried fresh

theorem exec_fwActivate_trial (hd : s.serves id 0x51 d) (htrial : s.flash.trial = true) : exec (.fwActivate id) s = .next (s.retireBad d 0x0708) := by
  change execFwActivate id s = _
  unfold execFwActivate
  rw [State.serve_served hd]
  exact congrArg Host.Outcome.next (if_pos htrial)

theorem exec_fwActivate_unstaged (hd : s.serves id 0x51 d) (htrial : s.flash.trial = false) (hslot : s.flash.slot s.flash.idle ≠ .staged) : exec (.fwActivate id) s = .next (s.retireBad d 0x0709) := by
  change execFwActivate id s = _
  unfold execFwActivate
  rw [State.serve_served hd]
  exact congrArg Host.Outcome.next ((if_neg (by rw [htrial]; decide)).trans (if_pos hslot))

theorem exec_fwActivate_sealed (hd : s.serves id 0x51 d) (htrial : s.flash.trial = false) (hslot : s.flash.slot s.flash.idle = .staged) (hnew : s.newVault s.flash.idle = true) (hseal : s.sealOpen = false) (hauth : s.authTxn = false) :
    exec (.fwActivate id) s = .next (s.retireBad d 0x0540) := by
  change execFwActivate id s = _
  unfold execFwActivate
  rw [State.serve_served hd]
  exact congrArg Host.Outcome.next ((if_neg (by rw [htrial]; decide)).trans ((if_neg (not_not_intro hslot)).trans (if_pos (by rw [hnew, hseal, hauth]; rfl))))

/-- A STAGED slot whose vault image may be taken. -/
theorem exec_fwActivate_granted (hd : s.serves id 0x51 d) (htrial : s.flash.trial = false) (hslot : s.flash.slot s.flash.idle = .staged) (hgrant : s.newVault s.flash.idle = false ∨ s.sealOpen = true ∨ s.authTxn = true) :
    exec (.fwActivate id) s = .next (if s.verifySlot s.flash.idle ≠ 0 then ({ s.paused with flash := { s.paused.flash.setSlot s.flash.idle .empty with staged := 0 } } : State).retireBad d 0x0703
      else ((s.vaultTried (s.newVault s.flash.idle)).imageRuns).take d.id) := by
  have hopen : (s.newVault s.flash.idle && !s.sealOpen && !s.authTxn) = false := by
    rcases hgrant with h | h | h <;> simp [h]
  rw [← s.paused_verifySlot]
  change execFwActivate id s = _
  unfold execFwActivate
  rw [State.serve_served hd]
  exact congrArg Host.Outcome.next ((if_neg (by rw [htrial]; decide)).trans ((if_neg (not_not_intro hslot)).trans ((if_neg (by rw [hopen]; decide)).trans rfl)))

theorem State.vaultStart_eventCount (s : State) (ok : Bool) (kind : Nat) : (s.vaultStart ok kind).sv.eventCount = s.sv.eventCount := by
  have hreload : ∀ t : State, t.ownedReload.sv = t.sv := fun t => State.ownedReload_frm (Sub.refl _) (Frm.refl _ t) .sv rfl
  have hrole : ∀ t : State, (t.excRole []).sv = t.sv := fun t => State.excRole_frm (Sub.refl _) (Frm.refl _ t) .sv rfl
  have hraise : ∀ t : State, (t.raiseBare 2 false 0xFFFF).sv = t.sv := fun t => State.raiseBare_frm (Sub.refl _) (Frm.refl _ t) .sv rfl
  unfold State.vaultStart
  dsimp only
  split
  · rfl
  · split
    · refine congrArg SvSt.eventCount ?_ |>.trans (rfl : (SvSt.eventCount { s.sv with draws := s.sv.draws + 1 }) = _)
      refine (State.audit_keeps _ _ _ .sv rfl).trans ?_
      split
      · exact hreload _
      · exact hrole _
    · exact congrArg SvSt.eventCount ((hraise _).trans (hreload _))

/-- Another vault image is one event (R388). -/
theorem State.vaultImage_eventCount (s : State) (v : W32 × W32 × List Byte) : (s.vaultImage v).sv.eventCount = s.sv.eventCount.satAdd 1 := by
  unfold State.vaultImage
  exact (State.vaultStart_eventCount _ _ _).trans (congrArg SvSt.eventCount (State.vaultRollback_frm (Sub.refl _) (Frm.refl _ _) .sv rfl))

theorem State.vaultTried_changes (s : State) (fresh : Bool) : Frm 10501731923984 (s.slotTried fresh) (s.vaultTried fresh) := by
  unfold State.vaultTried
  split
  · exact State.vaultImage_frm (Sub.refl _) (Frm.refl _ _)
  · exact Frm.refl _ _

theorem State.vaultTried_good (h : Good O Q s) : Good O Q (s.vaultTried fresh) := by
  have hslots : Good O Q (s.slotTried fresh) := good_mk (State.paused_good h) rfl rfl rfl rfl
  unfold State.vaultTried
  split
  · exact State.vaultImage_good hslots
  · exact hslots

/-- A STAGED slot that verifies no longer is EMPTY. -/
theorem State.slotEmptied_leaves (s : State) (d : Desc) (u : State) (hu : u = ({ s.paused with flash := { s.paused.flash.setSlot s.flash.idle .empty with staged := 0 } } : State).retireBad d 0x0703) :
    u.flash.slot s.flash.idle = .empty ∧ u.flash.runningB = s.flash.runningB ∧ u.boot.engine = .absent ∧ u.cfg.txn = none := by
  have hframe := State.retireBad_frm (d := d) (status := 0x0703) (Sub.refl _) (Frm.refl _ ({ s.paused with flash := { s.paused.flash.setSlot s.flash.idle .empty with staged := 0 } } : State))
  rw [← hu] at hframe
  have hflash : u.flash = { s.paused.flash.setSlot s.flash.idle .empty with staged := 0 } := hframe .flash rfl
  have hcfg : u.cfg = s.paused.cfg := hframe .cfg rfl
  have hboot : u.boot = s.paused.boot := hframe .boot rfl
  rw [hflash, hcfg, hboot]
  exact ⟨FlashSt.slot_setSlot _ _ _, (FlashSt.setSlot_keeps _ _ _).1.trans (by rw [s.paused_flash]), s.paused_engine, rfl⟩

theorem State.imageHeader_congr (hA : t.flash.memA = s.flash.memA) (hB : t.flash.memB = s.flash.memB) (second : Bool) : t.imageHeader second = s.imageHeader second := by
  rw [State.imageHeader, hA, hB, State.imageHeader]

/-- The slots and devices of a TRIAL that begins. -/
theorem State.slotTried_flash (s : State) (fresh : Bool) : (s.slotTried fresh).flash.slot s.flash.idle = .trial ∧ (s.slotTried fresh).flash.runningB = s.flash.idle
    ∧ (s.slotTried fresh).flash.slot s.flash.runningB = s.flash.slot s.flash.runningB ∧ (s.slotTried fresh).flash.pauseUp = some s.tm.up
    ∧ (s.slotTried fresh).flash.memA = s.flash.memA ∧ (s.slotTried fresh).flash.memB = s.flash.memB := by
  have hpaused := s.paused_flash
  unfold State.slotTried
  rw [hpaused]
  unfold FlashSt.idle FlashSt.setSlot FlashSt.slot
  cases s.flash.runningB <;> exact ⟨rfl, rfl, rfl, rfl, rfl, rfl⟩

/-- An image that runs: its version shows, and its descriptor waits for the engine's return. -/
theorem State.imageTaken_leaves (t : State) (id : Nat) : (t.imageRuns.take id).flash = { t.flash with format := hdr (t.imageHeader t.flash.runningB) 24 % 65536 } ∧ (t.imageRuns.take id).boot = t.boot
    ∧ (t.imageRuns.take id).sv = t.sv ∧ (t.imageRuns.take id).cfg = t.cfg ∧ (t.imageRuns.take id).vault = t.vault ∧ (t.imageRuns.take id).regs = t.imageRuns.regs := ⟨rfl, rfl, rfl, rfl, rfl, rfl⟩

theorem State.imageRuns_version (h : Good O Q t) : t.imageRuns.reg 0x18 = BitVec.ofNat 32 (hdr (t.imageHeader t.flash.runningB) 4) :=
  State.reg_setReg_self (good_mk h rfl rfl rfl rfl)

/-- The vault of a TRIAL: another image is an event, the same one leaves all as it was. -/
theorem State.vaultTried_leaves (s : State) (fresh : Bool) : (fresh = true → (s.vaultTried fresh).sv.eventCount = s.sv.eventCount.satAdd 1)
    ∧ (fresh = false → (s.vaultTried fresh).cfg.txn = none ∧ (s.vaultTried fresh).sv = s.sv ∧ (s.vaultTried fresh).vault.imageDigest = s.vault.imageDigest) := by
  have hsv : s.paused.sv = s.sv := s.paused_changes .sv rfl
  have hvault : s.paused.vault = s.vault := s.paused_changes .vault rfl
  constructor
  · rintro rfl
    exact (State.vaultImage_eventCount _ _).trans (congrArg (fun x : SvSt => x.eventCount.satAdd 1) hsv)
  · rintro rfl
    exact ⟨rfl, hsv, congrArg VaultSt.imageDigest hvault⟩

/-- What a slot in TRIAL is found to be. -/
theorem fwActivate_tries (h : Good O Q s) (hd : s.serves id 0x51 d) (htrial : s.flash.trial = false) (hslot : s.flash.slot s.flash.idle = .staged) (hgrant : s.newVault s.flash.idle = false ∨ s.sealOpen = true ∨ s.authTxn = true)
    (hverify : s.verifySlot s.flash.idle = 0) : Runs (.fwActivate id) s (fun u => u.flash.slot s.flash.idle = .trial ∧ u.flash.runningB = s.flash.idle ∧ u.flash.slot s.flash.runningB = s.flash.slot s.flash.runningB
      ∧ u.boot.engine = .absent ∧ u.flash.pauseUp = some s.tm.up ∧ u.reg 0x18 = BitVec.ofNat 32 (hdr (s.imageHeader s.flash.idle) 4)
      ∧ (s.newVault s.flash.idle = true → u.sv.eventCount = s.sv.eventCount.satAdd 1) ∧ (s.newVault s.flash.idle = false → u.cfg.txn = none ∧ u.sv = s.sv ∧ u.vault.imageDigest = s.vault.imageDigest)) := by
  have hexec := exec_fwActivate_granted hd htrial hslot hgrant
  rw [if_neg (not_not_intro hverify)] at hexec
  generalize s.newVault s.flash.idle = fresh at hexec ⊢
  obtain ⟨hidle, hrun, hkeep, hpause, hA, hB⟩ := s.slotTried_flash fresh
  have hchange := s.vaultTried_changes fresh
  have hflash : (s.vaultTried fresh).flash = (s.slotTried fresh).flash := hchange .flash rfl
  have hboot : (s.vaultTried fresh).boot = (s.slotTried fresh).boot := hchange .boot rfl
  have hheader : (s.vaultTried fresh).imageHeader s.flash.idle = s.imageHeader s.flash.idle := State.imageHeader_congr (by rw [hflash, hA]) (by rw [hflash, hB]) _
  have hversion := State.imageRuns_version (State.vaultTried_good (fresh := fresh) h)
  rw [hflash, hrun, hheader] at hversion
  obtain ⟨hfresh, hsame⟩ := s.vaultTried_leaves fresh
  have hengine : (s.slotTried fresh).boot.engine = .absent := s.paused_engine
  generalize s.vaultTried fresh = t at *
  obtain ⟨hflash', hboot', hsv', hcfg', hvault', hregs'⟩ := t.imageTaken_leaves d.id
  refine ⟨_, hexec, ?_⟩
  beta_reduce
  rw [hflash', hboot', hsv', hcfg', hvault', State.reg, hregs', hflash, hboot]
  exact ⟨hidle, hrun, hkeep, hengine, hpause, hversion, hfresh, hsame⟩

/-! ### FW_CONFIRM and the end of a TRIAL (R435, R436) -/

theorem FlashSt.trial_confirmed (f : FlashSt) : ((f.setSlot f.runningB .confirmed).setSlot (!f.runningB) .previous).slot f.runningB = .confirmed
    ∧ ((f.setSlot f.runningB .confirmed).setSlot (!f.runningB) .previous).slot (!f.runningB) = .previous ∧ ((f.setSlot f.runningB .confirmed).setSlot (!f.runningB) .previous).runningB = f.runningB := by
  unfold FlashSt.setSlot FlashSt.slot
  cases f.runningB <;> exact ⟨rfl, rfl, rfl⟩

/-- Moving the stored configuration to another format changes no slot. -/
theorem State.migrate_slots (s : State) : s.migrate.flash.slotA = s.flash.slotA ∧ s.migrate.flash.slotB = s.flash.slotB ∧ s.migrate.flash.runningB = s.flash.runningB := by
  unfold State.migrate
  split
  · exact ⟨rfl, rfl, rfl⟩
  · dsimp only
    split
    · exact ⟨rfl, rfl, rfl⟩
    · have hbit : ∀ (b : Bool) (t : State), (t.doIf b (fun t => t.setBit Reg.fwStatus 14)).flash = t.flash := fun b t => by cases b <;> rfl
      rw [hbit]
      exact ⟨rfl, rfl, rfl⟩

/-- What a confirmed image leaves. -/
def State.confirms (s u : State) : Prop := u.flash.slot s.flash.runningB = .confirmed ∧ u.flash.slot (!s.flash.runningB) = .previous ∧ u.flash.runningB = s.flash.runningB
  ∧ u.sv = { s.sv with svn := BitVec.ofNat 32 (max s.sv.svn.toNat (hdr (s.imageHeader s.flash.runningB) 8)) } ∧ u.vault = s.vault ∧ u.cfg = s.cfg

theorem State.confirmTrial_confirms (s : State) : s.confirms s.confirmTrial := by
  have hm := Sub.refl (68719476752 ||| 274877906960)
  let t : State := { s with flash := { (s.flash.setSlot s.flash.runningB .confirmed).setSlot (!s.flash.runningB) .previous with oldVault := none }, sv := { s.sv with svn := BitVec.ofNat 32 (max s.sv.svn.toNat (hdr (s.imageHeader s.flash.runningB) 8)) } }
  have hframe : Frm (68719476752 ||| 274877906960) t s.confirmTrial := State.migrate_frm (hm.le (by decide)) (State.refuserNote_frm (hm.le (by decide)) (Frm.refl _ t))
  have hnote : t.refuserNote.flash = t.flash := State.refuserNote_changes t .flash rfl
  obtain ⟨hA, hB, hrun⟩ := t.refuserNote.migrate_slots
  rw [hnote] at hA hB hrun
  have hslot : ∀ b, s.confirmTrial.flash.slot b = t.flash.slot b := fun b => by
    change t.refuserNote.migrate.flash.slot b = _
    rw [FlashSt.slot, hA, hB, FlashSt.slot]
  obtain ⟨hconfirmed, hprevious, hruns⟩ := s.flash.trial_confirmed
  exact ⟨(hslot _).trans hconfirmed, (hslot _).trans hprevious, hrun.trans hruns, hframe .sv rfl, hframe .vault rfl, hframe .cfg rfl⟩

theorem State.confirms_of_changes (h : s.confirms t) (hflash : u.flash = t.flash) (hsv : u.sv = t.sv) (hvault : u.vault = t.vault) (hcfg : u.cfg = t.cfg) : s.confirms u := by
  unfold State.confirms
  rw [hflash, hsv, hvault, hcfg]
  exact h

theorem State.confirms_reachUp {n : Nat} (h : (s.reachUp n).confirms u) : s.confirms u := by
  have hframe := s.reachUp_changes n
  have hflash : (s.reachUp n).flash = s.flash := hframe .flash rfl
  have hsv : (s.reachUp n).sv = s.sv := hframe .sv rfl
  have hvault : (s.reachUp n).vault = s.vault := hframe .vault rfl
  have hcfg : (s.reachUp n).cfg = s.cfg := hframe .cfg rfl
  have hheader : (s.reachUp n).imageHeader s.flash.runningB = s.imageHeader s.flash.runningB := State.imageHeader_congr (congrArg FlashSt.memA hflash) (congrArg FlashSt.memB hflash) _
  unfold State.confirms at h ⊢
  rw [hflash, hsv, hvault, hcfg, hheader] at h
  exact h

theorem exec_fwConfirm_refused (hd : s.serves id 0x52 d) (h : s.flash.trial = false ∨ s.limitPassed = true) : exec (.fwConfirm id) s = .next (s.retireBad d 0x0707) := by
  have hnone : (s.flash.trial && !s.limitPassed) = false := by
    rcases h with h | h <;> simp [h]
  change execFwConfirm id s = _
  unfold execFwConfirm
  rw [State.serve_served hd]
  exact congrArg Host.Outcome.next (if_neg (by rw [hnone]; decide))

theorem fwConfirm_confirms (hd : s.serves id 0x52 d) (hlimit : s.limitPassed = false) (htrial : s.flash.trial = true) : Runs (.fwConfirm id) s s.confirms := by
  have hexec : exec (.fwConfirm id) s = .next (s.confirmTrial.retireOk d []) := by
    change execFwConfirm id s = _
    unfold execFwConfirm
    rw [State.serve_served hd]
    exact congrArg Host.Outcome.next (if_pos (by rw [htrial, hlimit]; rfl))
  have hframe := State.retireOk_frm (d := d) (res := []) (Sub.refl _) (Frm.refl _ s.confirmTrial)
  exact ⟨_, hexec, State.confirms_of_changes s.confirmTrial_confirms (hframe .flash rfl) (hframe .sv rfl) (hframe .vault rfl) (hframe .cfg rfl)⟩

theorem exec_fwAutoConfirm_runs (hauto : s.cfgOn Fld.fwAutoConfirm 0 = true) (hup : s.engineUp = true) (htest : s.flash.selfTest = true) (htrial : s.flash.trial = true) :
    exec .fwAutoConfirm s = .next (s.reachUp (s.flash.trialUp + s.cfgv Fld.fwConfirmS 0 0 * 1000000000)).confirmTrial := by
  change execFwAutoConfirm s = _
  unfold execFwAutoConfirm
  exact if_pos (by rw [htrial, hauto, hup, htest]; rfl)

theorem exec_fwAutoConfirm_none (h : s.flash.trial = false ∨ s.flash.selfTest = false) : exec .fwAutoConfirm s = .next s := by
  have hnone : (s.flash.trial && s.cfgOn Fld.fwAutoConfirm 0 && s.engineUp && s.flash.selfTest) = false := by
    rcases h with h | h <;> simp [h]
  change execFwAutoConfirm s = _
  unfold execFwAutoConfirm
  exact if_neg (by rw [hnone]; decide)

theorem exec_fwConfirmLimit_none (h : s.flash.trial = false) : exec .fwConfirmLimit s = .next s := by
  change execFwConfirmLimit s = _
  unfold execFwConfirmLimit
  exact if_neg (by rw [h]; simp)

/-- A TRIAL whose limit passes falls back. -/
theorem fwConfirmLimit_fallsBack (h : Good O Q s) (htrial : s.flash.trial = true) (hauto : s.cfgOn Fld.fwAutoConfirm 0 = false) :
    ∀ n, n = s.flash.trialUp + s.cfgv Fld.fwConfirmLimitS 0 0 * 1000000000 → Runs .fwConfirmLimit s (fun u => u.flash.slot s.flash.runningB = .rejected ∧ u.flash.runningB = (!s.flash.runningB)
      ∧ u.boot.engine = .absent ∧ u.bit Reg.fwStatus 15 = true ∧ u.tm = (s.reachUp n).tm ∧ u.otp = s.otp) := by
  rintro n rfl
  have hexec : exec .fwConfirmLimit s = .next (s.reachUp (s.flash.trialUp + s.cfgv Fld.fwConfirmLimitS 0 0 * 1000000000)).fallBack := by
    change execFwConfirmLimit s = _
    unfold execFwConfirmLimit
    exact if_pos (by rw [htrial, hauto]; rfl)
  generalize s.flash.trialUp + s.cfgv Fld.fwConfirmLimitS 0 0 * 1000000000 = n at hexec ⊢
  have hreach := s.reachUp_changes n
  have hrunning : (s.reachUp n).flash.runningB = s.flash.runningB := congrArg FlashSt.runningB (hreach .flash rfl)
  have hback := State.fallBack_frm (Sub.refl _) (Frm.refl _ (s.reachUp n))
  obtain ⟨hrejected, hruns⟩ := (s.reachUp n).fallBack_flash
  rw [hrunning] at hrejected hruns
  exact ⟨_, hexec, hrejected, hruns, congrArg BootSt.engine (s.reachUp n).fallBack_boot, State.fallBack_bit (State.reachUp_good h), hback .tm rfl, (hback .otp rfl).trans (hreach .otp rfl)⟩

/-- Settles O56: each command on images, by the refusals of Table 17-8 and the slots it leaves (R433 to R436). -/
theorem imagesAreStagedActivatedAndConfirmed : Obligations.ImagesAreStagedActivatedAndConfirmed := by
  unfold Obligations.ImagesAreStagedActivatedAndConfirmed
  intro s hwf
  have h := good_of_wf hwf
  refine ⟨fun id d hd hfour hlen => ⟨exec_fwStage_trial hd hfour hlen, exec_fwStage_misplaced hd hfour hlen, fun htrial hplace hread hlarge hpresent => ⟨fun hbad => ?_, fwStage_takes hd hfour hlen htrial hplace hread hlarge hpresent⟩, fun htrial hplace hread => ?_⟩,
    s.stageLost_retires, fun id d hd => ⟨exec_fwActivate_trial hd, exec_fwActivate_unstaged hd, exec_fwActivate_sealed hd, fun htrial hslot hgrant => ⟨fun hverify => ?_, fwActivate_tries h hd htrial hslot hgrant⟩⟩,
    fun id d hd => exec_fwConfirm_refused hd, fun c hc htrial => ?_, fun htrial => ⟨exec_fwAutoConfirm_none (.inl htrial), exec_fwConfirmLimit_none htrial⟩, fun htest => exec_fwAutoConfirm_none (.inr htest),
    fun htrial hauto => fwConfirmLimit_fallsBack h htrial hauto _ rfl⟩
  · rw [exec_fwStage_placed hd hfour hlen htrial hplace, if_neg (by rw [hread]; decide), State.stagedHead, if_neg (by rw [hlarge]; decide), if_neg (by rw [hpresent]; decide), if_pos hbad]
  · rw [exec_fwStage_placed hd hfour hlen htrial hplace, if_pos hread]
  · have hexec := exec_fwActivate_granted hd htrial hslot hgrant
    rw [if_pos hverify] at hexec
    exact ⟨_, hexec, s.slotEmptied_leaves d _ rfl⟩
  · rcases hc with ⟨id, d, rfl, hd, hlimit⟩ | ⟨rfl, hauto, hup, htest⟩
    · exact fwConfirm_confirms hd hlimit htrial
    · exact ⟨_, exec_fwAutoConfirm_runs hauto hup htest htrial, State.confirms_reachUp (State.confirmTrial_confirms _)⟩

end Sys2Proof.Machine
end

section
/-! PROOFS. Rings: doorbells and fetches (R284 to R289, R300 to R302). -/

namespace Sys2Proof.Machine

open Sys2Proof

set_option Elab.async false

variable {O : OtpSt} {Q : List Instr} {s t u : State} {d : Desc}

/-! ### A doorbell and the poll (R284 to R286) -/

theorem exec_nudge (ws : List NudgeWrite) (s : State) : exec (.nudge ws) s = .next (if (ws.filter isNudge).length = 0 then s.coreNeed
    else if s.coreNeed.host.fetching then { s.coreNeed.doIf (decide (2 ≤ (ws.filter isNudge).length)) (fun t => t.bump 0x4018) with host := { s.coreNeed.host with again := true } }
      else (s.coreNeed.doIf (decide (2 ≤ (ws.filter isNudge).length)) (fun t => t.bump 0x4018)).startDoorbell true) := by
  have hhost : (s.coreNeed.doIf (decide (2 ≤ (ws.filter isNudge).length)) (fun t => t.bump 0x4018)).host = s.coreNeed.host := by
    unfold State.doIf
    split <;> rfl
  change execNudge ws s = _
  unfold execNudge
  dsimp only
  rw [hhost]
  split
  · rfl
  · split <;> rfl

/-- More than one nudge in one burst is counted. -/
def State.coalesced (s : State) (n : Nat) : State := s.coreNeed.doIf (decide (2 ≤ n)) (fun t => t.bump 0x4018)

theorem State.coalesced_leaves (h : Good O Q s) (n : Nat) : Frm 8864812498961 s (s.coalesced n) ∧ Good O Q (s.coalesced n) ∧ (s.coalesced n).tm = s.coreNeed.tm ∧ (s.coalesced n).pwr = s.coreNeed.pwr
    ∧ (s.coalesced n).reg 0x4014 = s.reg 0x4014 ∧ (s.coalesced n).reg 0x4018 = (if 2 ≤ n then (s.reg 0x4018).satAdd 1 else s.reg 0x4018) := by
  have hm := Sub.refl 8864812498961
  have hneed : Frm 8864812498961 s s.coreNeed := State.coreNeed_frm (hm.le (by decide)) (Frm.refl _ s)
  have hgood : Good O Q s.coreNeed := State.coreNeed_good h
  have hreg : ∀ a, s.coreNeed.reg a = s.reg a := fun a => s.coreNeed_changes.reg rfl
  unfold State.coalesced State.doIf
  by_cases htwo : 2 ≤ n
  · rw [decide_eq_true htwo, if_pos rfl, if_pos htwo]
    exact ⟨State.bump_frm (hm.le (by decide)) hneed, State.bump_good hgood, rfl, rfl, (State.bump_reg (by decide)).trans (hreg _), (State.reg_setReg_self hgood).trans (by rw [hreg])⟩
  · rw [decide_eq_false htwo, if_neg Bool.false_ne_true, if_neg htwo]
    exact ⟨hneed, hgood, rfl, rfl, hreg _, hreg _⟩

/-- A first nudge starts a fetch of the page. -/
theorem nudge_starts (h : Good O Q s) {ws : List NudgeWrite} {n : Nat} (hn : n = (ws.filter isNudge).length) (hidle : s.host.fetching = false) (hsome : n ≠ 0) :
    Runs (.nudge ws) s (fun u => u.host = { s.host with fetching := true } ∧ u.reg 0x4014 = (s.reg 0x4014).satAdd 1
      ∧ u.reg 0x4018 = (if 2 ≤ n then (s.reg 0x4018).satAdd 1 else s.reg 0x4018) ∧ u.tm = s.coreNeed.tm ∧ u.pwr = s.coreNeed.pwr ∧ s.keepsBut [.tm, .regs, .host, .pwr, .freeCtr] u) := by
  have hm := Sub.refl (8864812498961 ||| 536870912)
  obtain ⟨hframe, hgood, htm, hpwr, hcount, htwo⟩ := State.coalesced_leaves h n
  have hhost : (s.coalesced n).host = s.host := hframe .host rfl
  have hexec : exec (.nudge ws) s = .next ((s.coalesced n).startDoorbell true) := by
    rw [exec_nudge, ← hn, if_neg hsome, s.coreNeed_changes .host rfl, hidle]
    rfl
  have hstarted : Good O Q { s.coalesced n with host := { (s.coalesced n).host with fetching := true } } := good_mk hgood rfl rfl rfl rfl
  refine ⟨_, hexec, ?_, ?_, ?_, htm, hpwr, Frm.keepsParts (State.bump_frm (s := { s.coalesced n with host := { (s.coalesced n).host with fetching := true } }) (hm.le (by decide)) (frm_mk (hframe.mono (hm.le (by decide))))) (by decide)⟩
  · exact congrArg (fun x : HostSt => { x with fetching := true }) hhost
  · exact (State.reg_setReg_self hstarted).trans (congrArg (fun w : W32 => w.satAdd 1) hcount)
  · exact (State.bump_reg (by decide)).trans htwo

/-- A nudge during a fetch asks for another one. -/
theorem nudge_asksAgain (h : Good O Q s) {ws : List NudgeWrite} {n : Nat} (hn : n = (ws.filter isNudge).length) (hbusy : s.host.fetching = true) (hsome : n ≠ 0) :
    Runs (.nudge ws) s (fun u => u.host = { s.host with again := true } ∧ u.reg 0x4014 = s.reg 0x4014
      ∧ u.reg 0x4018 = (if 2 ≤ n then (s.reg 0x4018).satAdd 1 else s.reg 0x4018) ∧ u.tm = s.coreNeed.tm ∧ u.pwr = s.coreNeed.pwr ∧ s.keepsBut [.tm, .regs, .host, .pwr, .freeCtr] u) := by
  have hm := Sub.refl (8864812498961 ||| 536870912)
  obtain ⟨hframe, _, htm, hpwr, hcount, htwo⟩ := State.coalesced_leaves h n
  have hexec : exec (.nudge ws) s = .next { s.coalesced n with host := { s.host with again := true } } := by
    rw [exec_nudge, ← hn, if_neg hsome, s.coreNeed_changes .host rfl, if_pos hbusy]
    rfl
  exact ⟨_, hexec, rfl, hcount, htwo, htm, hpwr, Frm.keepsParts (frm_mk (hframe.mono (hm.le (by decide)))) (by decide)⟩

theorem State.pllRunAgo_stops (s : State) (ns : Nat) : (s.pllRunAgo ns).pwr.pllFrom = none ∧ (s.pllRunAgo ns).tm = s.tm ∧ (s.pllRunAgo ns).host = s.host ∧ (s.pllRunAgo ns).regs = s.regs := by
  unfold State.pllRunAgo
  split
  · exact ⟨rfl, rfl, rfl, rfl⟩
  · exact ⟨by assumption, rfl, rfl, rfl⟩

/-- The poll fetches the page at its time, whether a fetch runs or not. -/
theorem dbPoll_polls (hpoll : s.reg 0x4008 ≠ 0) : ∀ n, n = s.host.pollUp + (s.reg 0x4008).toNat * 1000 → Runs .dbPoll s (fun u => u.host = { s.host with fetching := true, pollUp := u.tm.up } ∧ u.tm = (s.reachUp n).tm
    ∧ u.pwr.pllFrom = none ∧ s.keepsBut [.tm, .host, .pwr] u) := by
  rintro n rfl
  have hexec : exec .dbPoll s = .next (let t := (s.reachUp (s.host.pollUp + (s.reg 0x4008).toNat * 1000)).pllRunAgo 40000
      if t.host.fetching then { t with host := { t.host with pollUp := t.tm.up } } else { t with host := { t.host with pollUp := t.tm.up, fetching := true } }) := by
    change execDbPoll s = _
    unfold execDbPoll
    rw [if_neg hpoll]
    dsimp only
    split <;> rfl
  generalize s.host.pollUp + (s.reg 0x4008).toNat * 1000 = n at hexec ⊢
  have hm := Sub.refl (1 ||| 68719476736 ||| 536870912)
  obtain ⟨hpll, htm, hhost, _⟩ := (s.reachUp n).pllRunAgo_stops 40000
  have hframe : Frm (1 ||| 68719476736 ||| 536870912) s ((s.reachUp n).pllRunAgo 40000) := State.pllRunAgo_frm (hm.le (by decide)) (State.reachUp_frm (hm.le (by decide)) (Frm.refl _ s))
  replace hhost := hhost.trans (s.reachUp_changes n .host rfl)
  generalize (s.reachUp n).pllRunAgo 40000 = t at *
  dsimp only at hexec
  cases hfetch : t.host.fetching with
  | true =>
    rw [hfetch, if_pos rfl] at hexec
    refine ⟨_, hexec, ?_, htm, hpll, Frm.keepsParts (frm_mk hframe) (by decide)⟩
    exact congrArg (fun x : HostSt => { x with pollUp := t.tm.up, fetching := true }) hhost
  | false =>
    rw [hfetch, if_neg Bool.false_ne_true] at hexec
    refine ⟨_, hexec, ?_, htm, hpll, Frm.keepsParts (frm_mk hframe) (by decide)⟩
    exact congrArg (fun x : HostSt => { x with pollUp := t.tm.up, fetching := true }) hhost

theorem exec_dbPoll_off (h : s.reg 0x4008 = 0) : exec .dbPoll s = .next s := by
  change execDbPoll s = _
  unfold execDbPoll
  exact if_pos h

/-! ### The doorbell page (R287, R288) -/

theorem exec_doorbellFetch_none {ok : Bool} (h : s.host.fetching = false ∨ s.canDma = false) : exec (.doorbellFetch ok) s = .next s := by
  change execDoorbellFetch ok s = _
  unfold execDoorbellFetch
  exact if_pos h

theorem exec_doorbellFetch_runs (ok : Bool) (hfetch : s.host.fetching = true) (hdma : s.canDma = true) : exec (.doorbellFetch ok) s =
    .next (let t := if ok && s.readOk (s.reg64 0x4000 / 4096 * 4096) 512 then s.takeDoorbell (s.hostRead (s.reg64 0x4000 / 4096 * 4096) 512) else s.aerReport
      if t.host.again then ({ t with host := { t.host with fetching := false, again := false } } : State).startDoorbell true else { t with host := { t.host with fetching := false, again := false } }) := by
  change execDoorbellFetch ok s = _
  unfold execDoorbellFetch
  rw [if_neg (by rw [hfetch, hdma]; decide)]

theorem doorbellFetch_fails (h : Good O Q s) (hfetch : s.host.fetching = true) (hdma : s.canDma = true) : Runs (.doorbellFetch false) s (fun u =>
    u.host = { s.host with fetching := s.host.again, again := false, aer := s.host.aer ||| (Config.freeWord s.freeCtr &&& 0x5000) }
    ∧ u.reg 0x4014 = (if s.host.again then (s.reg 0x4014).satAdd 1 else s.reg 0x4014) ∧ s.keepsBut [.regs, .host, .freeCtr] u) := by
  have hm := Sub.refl (8796629893120 ||| 16)
  have hexec := exec_doorbellFetch_runs false hfetch hdma
  rw [Bool.false_and, if_neg Bool.false_ne_true] at hexec
  dsimp only at hexec
  have hframe : Frm (8796629893120 ||| 16) s s.aerReport := State.aerReport_frm (hm.le (by decide)) (Frm.refl _ s)
  have hagain : s.aerReport.host.again = s.host.again := rfl
  rw [hagain] at hexec
  cases hmore : s.host.again with
  | true =>
    rw [hmore, if_pos rfl] at hexec
    have hgood : Good O Q { s.aerReport with host := { s.aerReport.host with fetching := true, again := false } } := good_mk (State.aerReport_good h) rfl rfl rfl rfl
    refine ⟨_, hexec, rfl, State.reg_setReg_self hgood, ?_⟩
    exact Frm.keepsParts (State.bump_frm (s := { s.aerReport with host := { s.aerReport.host with fetching := true, again := false } }) (hm.le (by decide)) (frm_mk hframe)) (by decide)
  | false =>
    rw [hmore, if_neg Bool.false_ne_true] at hexec
    exact ⟨_, hexec, rfl, rfl, Frm.keepsParts (frm_mk hframe) (by decide)⟩

/-! ### Reports ask for no doorbell -/

theorem State.errMsi_asks (s : State) (cls : Nat) : (s.errMsi cls).host.asks = s.host.asks := by
  unfold State.errMsi
  dsimp only
  split
  · rfl
  · split
    · split
      · rfl
      · exact State.msix_asks _ _
    · exact State.msix_asks _ _

theorem State.formRecord_asks (s : State) (r : ErrRec) : (s.formRecord r).host.asks = s.host.asks := by
  have htraced : ((s.setReg 0x7C00C (s.reg 0x7C00C + 1)).traceAdd 0x80 2 (s.reg 0x7C00C)).host.asks = s.host.asks :=
    congrArg HostSt.asks (State.traceAdd_frm (Sub.refl _) (Frm.refl _ _) .host rfl)
  unfold State.formRecord
  dsimp only
  split
  · exact (State.errMsi_asks _ _).trans htraced
  · split
    · exact (State.errMsi_asks _ _).trans htraced
    · exact htraced

theorem State.raiseOne_asks (s : State) (e : ErrIn) (k : Nat) : (s.raiseOne e k).host.asks = s.host.asks := by
  have hcounted : ((s.doIf (decide (1 < k)) (fun t => t.bump 0x7C014)).bumpBy (0x7C020 + 4 * e.cls) k).host.asks = s.host.asks := by
    unfold State.doIf
    split <;> rfl
  have htraced : ∀ (t : State) (v : W32), (t.traceAdd 0x80 2 v).host.asks = t.host.asks := fun t v => congrArg HostSt.asks (State.traceAdd_frm (Sub.refl _) (Frm.refl _ t) .host rfl)
  unfold State.raiseOne
  dsimp only
  split
  · split
    · exact (State.formRecord_asks _ _).trans hcounted
    · exact (State.formRecord_asks _ _).trans hcounted
  · split
    · split
      · exact hcounted
      · exact (htraced _ _).trans hcounted
    · split
      · exact hcounted
      · exact (State.formRecord_asks _ _).trans hcounted

theorem State.raiseAll_asks (s : State) (es : List ErrIn) : (s.raiseAll es).host.asks = s.host.asks := by
  unfold State.raiseAll
  split
  · exact List.foldlRecOn (motive := fun t : State => t.host.asks = s.host.asks) _ _ rfl (fun t ht p _ => (t.raiseOne_asks p.1 p.2).trans ht)
  · rfl

theorem HostSt.again_of_asks {h k : HostSt} (e : h.asks = k.asks) : h.again = k.again := congrArg Prod.snd e

theorem State.postAll_asks (s : State) : s.postAll.host.asks = s.host.asks := postGo_asks _ _ _

/-! ### What the page says of a ring (R288) -/

/-- What a page's tail makes of a ring. -/
def State.sqTold (s : State) (page : List Byte) (r : Nat) : SqSt :=
  if s.tailInvalid page r then { s.sqOf r with stopped := true } else { s.sqOf r with tail := pageCounter page (4 * r) }

/-- One ring takes its tail, or stops. -/
def State.sqTakes (bad : List Nat) (page : List Byte) (r : Nat) (t : State) : State :=
  if (t.sqOf r).enabled then
    (if bad.contains r then (t.updSq r (fun q => { q with stopped := true })).setBit (Reg.sq r 12) 5 else t.updSq r (fun q => { q with tail := pageCounter page (4 * r) }))
  else t

theorem State.sqTakes_frm {m : Nat} {s0 : State} (hm : Sub 1073741840 m) {bad : List Nat} {page : List Byte} {r : Nat} (h : Frm m s0 s) : Frm m s0 (State.sqTakes bad page r s) := by
  unfold State.sqTakes
  exact frm_ite (frm_ite (State.setBit_frm (hm.le (by decide)) (State.updSq_frm (hm.le (by decide)) h)) (State.updSq_frm (hm.le (by decide)) h)) h

theorem State.sqTakes_good {bad : List Nat} {page : List Byte} {r : Nat} (h : Good O Q s) : Good O Q (State.sqTakes bad page r s) := by
  unfold State.sqTakes
  exact good_ite (good_ite (State.setBit_good (State.updSq_good h)) (State.updSq_good h)) h

theorem State.sqTakes_other {bad : List Nat} {page : List Byte} {r j : Nat} (hj : j ≠ r) : (State.sqTakes bad page r s).sqOf j = s.sqOf j := by
  have hbit : ∀ (t : State) (a b : Nat), (t.setBit a b).sqOf j = t.sqOf j := fun _ _ _ => rfl
  unfold State.sqTakes
  split
  · split
    · rw [hbit, State.sqOf_updSq_other hj]
    · exact State.sqOf_updSq_other hj
  · rfl

theorem State.sqTakes_self {bad : List Nat} {page : List Byte} {r : Nat} (h : Good O Q s) : (State.sqTakes bad page r s).sqOf r =
    if (s.sqOf r).enabled then (if bad.contains r then { s.sqOf r with stopped := true } else { s.sqOf r with tail := pageCounter page (4 * r) }) else s.sqOf r := by
  have hbit : ∀ (t : State) (a b : Nat), (t.setBit a b).sqOf r = t.sqOf r := fun _ _ _ => rfl
  unfold State.sqTakes
  split
  · split
    · rw [hbit, State.sqOf_updSq_self h]
    · exact State.sqOf_updSq_self h
  · rfl

/-- Each ring of a list takes its own tail once. -/
theorem State.each_sqTakes {bad : List Nat} {page : List Byte} {xs : List Nat} (hxs : xs.Nodup) (r : Nat) : ∀ {s : State}, Good O Q s → (s.each xs (State.sqTakes bad page)).sqOf r =
    if r ∈ xs ∧ (s.sqOf r).enabled = true then (if bad.contains r then { s.sqOf r with stopped := true } else { s.sqOf r with tail := pageCounter page (4 * r) }) else s.sqOf r := by
  induction xs with
  | nil => exact fun {s} _ => (if_neg (fun h => List.not_mem_nil h.1)).symm
  | cons x xs ih =>
    intro s h
    obtain ⟨hx, hrest⟩ := List.nodup_cons.mp hxs
    refine (ih hrest (State.sqTakes_good (bad := bad) (page := page) (r := x) h)).trans ?_
    by_cases hr : r = x
    · subst hr
      rw [if_neg (fun hmem => hx hmem.1), State.sqTakes_self h]
      simp only [List.mem_cons_self, true_and]
    · rw [State.sqTakes_other hr]
      simp [hr]

/-- The rings after a page is taken. -/
theorem State.takeDoorbell_rings (h : Good O Q s) (page : List Byte) : (s.takeDoorbell page).host.again = s.host.again
    ∧ ∀ r, (s.takeDoorbell page).sqOf r = if r < 64 ∧ (s.sqOf r).enabled = true then s.sqTold page r else s.sqOf r := by
  have hm := Sub.refl 1653025570832
  let bad := (List.range 64).filter (s.tailInvalid page)
  let told := s.each (List.range 64) (State.sqTakes bad page)
  let raised := told.raiseAll (bad.map (fun r => { errAt 1 (Reg.sq r 12) 5 r with recovers := true }))
  let heads := raised.each (List.range 64) (fun q t => if (t.cqOf q).enabled then t.updCq q (fun c => { c with head := pageCounter page (256 + 4 * q) }) else t)
  have hend : s.takeDoorbell page = heads.postAll := rfl
  have htold : Frm 1073741840 s told := State.each_frm (Frm.refl _ s) (fun _ _ => State.sqTakes_frm (Sub.refl _))
  have hheads : Frm 2147483648 raised heads := State.each_frm (Frm.refl _ raised) (fun _ t ht => frm_ite (State.updCq_frm (Sub.refl _) ht) ht)
  have hhost : told.host = s.host := htold .host rfl
  have hhost' : heads.host = raised.host := hheads .host rfl
  have hsq : (s.takeDoorbell page).sq = told.sq :=
    ((State.postAll_frm (Sub.refl _) (Frm.refl _ heads) .sq rfl).trans (hheads .sq rfl)).trans (State.raiseAll_frm (Sub.refl _) (Frm.refl _ told) .sq rfl)
  constructor
  · have hasks : (s.takeDoorbell page).host.asks = s.host.asks := by
      rw [hend, State.postAll_asks, hhost', State.raiseAll_asks, hhost]
    exact HostSt.again_of_asks hasks
  · intro r
    have hof : (s.takeDoorbell page).sqOf r = told.sqOf r := congrArg (fun m => Cells.get (fun _ => SqSt.init) m r) hsq
    have hbad : r < 64 → bad.contains r = s.tailInvalid page r := by
      intro hr
      rw [Bool.eq_iff_iff, List.contains_iff_mem, List.mem_filter, List.mem_range]
      exact ⟨fun hboth => hboth.2, fun hinvalid => ⟨hr, hinvalid⟩⟩
    rw [hof, State.each_sqTakes List.nodup_range r h]
    by_cases hr : r < 64 ∧ (s.sqOf r).enabled = true
    · rw [if_pos ⟨List.mem_range.mpr hr.1, hr.2⟩, if_pos hr, State.sqTold, hbad hr.1]
    · rw [if_neg hr, if_neg (fun hmem => hr ⟨List.mem_range.mp hmem.1, hmem.2⟩)]

theorem doorbellFetch_takes (h : Good O Q s) (hfetch : s.host.fetching = true) (hdma : s.canDma = true) (hlast : s.host.again = false) (hread : s.readOk (s.reg64 0x4000 / 4096 * 4096) 512 = true) : Runs (.doorbellFetch true) s (fun u =>
    u.host.fetching = false ∧ (∀ r, r < 64 → (s.sqOf r).enabled = true →
      u.sqOf r = (if s.tailInvalid (s.hostRead (s.reg64 0x4000 / 4096 * 4096) 512) r then { s.sqOf r with stopped := true }
        else { s.sqOf r with tail := pageCounter (s.hostRead (s.reg64 0x4000 / 4096 * 4096) 512) (4 * r) }))
    ∧ (∀ r, (s.sqOf r).enabled = false → u.sqOf r = s.sqOf r)) := by
  have hexec := exec_doorbellFetch_runs true hfetch hdma
  rw [hread, Bool.and_true, if_pos rfl] at hexec
  dsimp only at hexec
  obtain ⟨hagain, hrings⟩ := State.takeDoorbell_rings h (s.hostRead (s.reg64 0x4000 / 4096 * 4096) 512)
  rw [hagain, hlast, if_neg Bool.false_ne_true] at hexec
  unfold State.sqTold at hrings
  generalize s.takeDoorbell (s.hostRead (s.reg64 0x4000 / 4096 * 4096) 512) = t at hexec hrings
  exact ⟨_, hexec, rfl, fun r hr henabled => (hrings r).trans (if_pos ⟨hr, henabled⟩), fun r hoff => (hrings r).trans (if_neg (fun hboth => by rw [hoff] at hboth; exact absurd hboth.2 Bool.false_ne_true))⟩

/-! ### A descriptor (R289 to R291) -/

/-- The address of the ring's next descriptor. -/
def State.fetchAt (s : State) (r : Fin 64) : Nat := s.reg64 (Reg.sq r 0) / 4096 * 4096 + 64 * ((s.sqOf r).fetched % ringSize (s.reg (Reg.sq r 8)))

/-- The descriptor that stands at the ring's next address. -/
def State.fetched (s : State) (r : Fin 64) : Desc :=
  ⟨s.host.nextId, r.val, field (s.reg (Reg.sq r 8)) 15 10, wordsOf (s.hostRead (s.fetchAt r) 64), [], s.tm.up, false, 0, s.now⟩

/-- The rings' turn, and the ring's count of fetched descriptors, go on. -/
def State.turned (s : State) (r : Fin 64) : State :=
  { s.setSq r { s.sqOf r with fetched := ((s.sqOf r).fetched + 1) % 65536 } with
    host := { s.host with turn := r.val * 16 + (if s.host.turn / 16 = r.val ∧ s.host.turn % 16 < 8 then s.host.turn % 16 + 1 else 1) } }

theorem exec_descriptorFetch_runs {r : Fin 64} (ok : Bool) (hdma : s.canDma = true) (hmode : s.pwr.mode ≠ .hibEntry) (hroom : s.inFlight < 131072) (hturn : s.fetchRing = some r.val) (hinj : s.injOf 8 1 r = none) :
    exec (.descriptorFetch r ok) s = .next (if !ok || !s.readOk (s.fetchAt r) 64 then s.fetchFailed r else (s.turned r).enlist (s.fetched r)) := by
  change execDescriptorFetch r ok s = _
  unfold execDescriptorFetch
  dsimp only
  rw [if_neg (by rw [hdma]; simp [hmode, hroom, hturn]), hinj]
  change (if (!ok || false || !s.readOk (s.fetchAt r) 64) = true then _ else _) = _
  rw [Bool.or_false]
  split <;> rfl

theorem descriptorFetch_fails (h : Good O Q s) {r : Fin 64} {ok : Bool} (hdma : s.canDma = true) (hmode : s.pwr.mode ≠ .hibEntry) (hroom : s.inFlight < 131072) (hturn : s.fetchRing = some r.val) (hinj : s.injOf 8 1 r = none)
    (hfails : ok = false ∨ s.readOk (s.fetchAt r) 64 = false) : Runs (.descriptorFetch r ok) s (fun u => u.sqOf r = { s.sqOf r with stopped := true } ∧ u.bit (Reg.sq r 12) 4 = true ∧ (∀ j, j ≠ r.val → u.sqOf j = s.sqOf j)
      ∧ u.host = { s.host with aer := s.host.aer ||| (Config.freeWord s.freeCtr &&& 0x5000) } ∧ s.keepsBut [.regs, .sq, .host, .freeCtr] u) := by
  have hm := Sub.refl (8796629893120 ||| 1073741840)
  have hgood : Good O Q (s.aerReport.updSq r (fun q => { q with stopped := true })) := State.updSq_good (State.aerReport_good h)
  have hexec := exec_descriptorFetch_runs ok hdma hmode hroom hturn hinj
  rw [if_pos (by rcases hfails with hno | hno <;> simp [hno])] at hexec
  have hbit : ∀ j, (s.fetchFailed r).sqOf j = (s.aerReport.updSq r (fun q => { q with stopped := true })).sqOf j := fun _ => rfl
  refine ⟨_, hexec, (hbit _).trans (State.sqOf_updSq_self (State.aerReport_good h)), State.setBit_bit hgood (by decide), fun j hj => (hbit _).trans (State.sqOf_updSq_other hj), rfl, ?_⟩
  exact Frm.keepsParts (State.setBit_frm (hm.le (by decide)) (State.updSq_frm (hm.le (by decide)) (State.aerReport_frm (hm.le (by decide)) (Frm.refl _ s)))) (by decide)

theorem descriptorFetch_enlists (h : Good O Q s) {r : Fin 64} (hdma : s.canDma = true) (hmode : s.pwr.mode ≠ .hibEntry) (hroom : s.inFlight < 131072) (hturn : s.fetchRing = some r.val) (hinj : s.injOf 8 1 r = none)
    (hread : s.readOk (s.fetchAt r) 64 = true) (hfatal : s.log.fatal = false) (hgood : ∀ x ∈ s.host.inflight, x.bad = 0) (hcheck : s.firstCheck (s.fetched r) = 0) :
    Runs (.descriptorFetch r true) s (fun u => u.host.inflight = s.host.inflight ++ [s.fetched r] ∧ u.host.nextId = s.host.nextId + 1
      ∧ u.sqOf r = { s.sqOf r with fetched := ((s.sqOf r).fetched + 1) % 65536 } ∧ s.keepsBut [.host, .sq] u) := by
  have hm := Sub.refl (536870912 ||| 1073741824)
  have hexec := exec_descriptorFetch_runs true hdma hmode hroom hturn hinj
  rw [if_neg (by rw [hread]; decide), State.enlist_waits (s := s.turned r) hfatal hgood hcheck] at hexec
  refine ⟨_, hexec, rfl, rfl, State.sqOf_setSq_self h, ?_⟩
  have hset : Frm (536870912 ||| 1073741824) s (s.setSq r { s.sqOf r with fetched := ((s.sqOf r).fetched + 1) % 65536 }) := State.setSq_frm (hm.le (by decide)) (Frm.refl _ s)
  have hturned : Frm (536870912 ||| 1073741824) s (s.turned r) := frm_mk hset
  exact Frm.keepsParts (frm_mk hturned) (by decide)

end Sys2Proof.Machine
end

section
/-! PROOFS. Rings: their turn, moderation, holding, and what enables, disables and aborts (R287, R290 to R295, R300 to R304). -/

namespace Sys2Proof.Machine

open Sys2Proof

set_option Elab.async false

variable {O : OtpSt} {Q : List Instr} {s t u : State} {d : Desc} {id : Nat}

/-! ### The turn of a descriptor (R291, R292, R303) -/

theorem State.fenceOff_waits (h : s.fenceOk d = false) : s.heldNow d = false ∧ s.turnOf d = false := by
  constructor
  · rw [State.heldNow, h, Bool.false_and]
  · simp [State.turnOf, h]

theorem State.heldNow_none (haway : s.engineAway = false) (hrole : s.twin.role ≠ .unresolved) (hheld : s.anyHeld = false) : s.heldNow d = false := by
  simp [State.heldNow, haway, hrole, hheld]

/-- A descriptor whose turn has come waits for none before it. -/
theorem State.turnOf_after (h : s.turnOf d = true) : ∀ x ∈ s.host.inflight, x.id < d.id → (engineOp d.op = true → engineOp x.op = false) ∧ (d.flag 0 = true ∨ d.op = 1 → x.ring ≠ d.ring)
    ∧ (∀ k, d.orderKey = some k → x.orderKey = some k → x.taken = true ∨ x.bad ≠ 0) := by
  intro x hx hbefore
  simp only [State.turnOf, Bool.and_eq_true, Bool.or_eq_true] at h
  obtain ⟨⟨⟨_, hfence⟩, horder⟩, hengine⟩ := h
  refine ⟨fun hop => ?_, fun hfenced hring => ?_, fun k hk hxk => ?_⟩
  · obtain ⟨_, hall⟩ := hengine.resolve_left (by rw [hop]; decide)
    have hone := List.all_eq_true.mp hall x hx
    rw [decide_eq_true hbefore, Bool.and_true, Bool.not_eq_true'] at hone
    exact hone
  · have hflag : (d.flag 0 || decide (d.op = 1)) = true := by
      rcases hfenced with hflag | hop
      · rw [hflag, Bool.true_or]
      · rw [decide_eq_true hop, Bool.or_true]
    rw [State.fenceOk, hflag, Bool.not_true, Bool.false_or] at hfence
    have hone := List.all_eq_true.mp hfence x hx
    simp [hring, hbefore] at hone
  · rw [State.orderOk, hk, Option.isNone_some, Bool.false_or] at horder
    have hone := List.all_eq_true.mp horder x hx
    simp [hxk, Nat.not_le.mpr hbefore] at hone
    exact hone

/-- The first checks refuse an unknown operation, then one of a vault that is not there, then an address that is not aligned. -/
theorem State.firstCheck_refuses (hring : d.ring < 64) : (knownOps.contains d.op = false → s.firstCheck d = 0x0001) ∧ (d.op = 0x70 → s.otp.vaultFuse = false → s.firstCheck d = 0x0520)
    ∧ (knownOps.contains d.op = true → d.op ≠ 0x70 → d.addr % 8 ≠ 0 → s.firstCheck d = 0x0002) := by
  have hknown : knownOps.contains d.op = true → ¬ (knownOps.contains d.op = false ∨ (d.ring = 64 ∧ sbOps.contains d.op = false)) := by
    rintro hop (hnot | ⟨h64, _⟩)
    · exact Bool.false_ne_true (hnot.symm.trans hop)
    · omega
  unfold State.firstCheck
  refine ⟨fun hop => if_pos (.inl hop), fun hop hfuse => ?_, fun hop hnot haddr => ?_⟩
  · exact (if_neg (hknown (by rw [hop]; decide))).trans (if_pos ⟨hop, hfuse⟩)
  · exact (if_neg (hknown hop)).trans ((if_neg (fun hboth => hnot hboth.1)).trans (if_pos ⟨hring, haddr⟩))

/-! ### Moderation and holding (R295, R303) -/

theorem cqModerationTimer_fires (h : Good O Q s) {q : Fin 64} (hpending : (s.cqOf q).pending ≠ 0) (htimer : field (s.reg (Reg.cq q 8)) 31 22 ≠ 0) : Runs (.cqModerationTimer q) s (fun u =>
    u.cqOf q = { s.cqOf q with pending := 0 } ∧ (∀ j, j ≠ q.val → u.cqOf j = s.cqOf j) ∧ s.keepsBut [.tm, .regs, .cq, .host] u) := by
  have hexec : exec (.cqModerationTimer q) s = .next (((s.reachUp ((s.cqOf q).firstUp + field (s.reg (Reg.cq q 8)) 31 22 * 1000)).setCq q { s.cqOf q with pending := 0 }).msix (field (s.reg (Reg.cq q 8)) 13 8)) := by
    change execCqModerationTimer q s = _
    unfold execCqModerationTimer
    exact if_neg (not_or.mpr ⟨hpending, htimer⟩)
  generalize (s.cqOf q).firstUp + field (s.reg (Reg.cq q 8)) 31 22 * 1000 = n at hexec
  have hm := Sub.refl (1 ||| 536870928 ||| 2147483648)
  have hreach : Good O Q (s.reachUp n) := State.reachUp_good h
  have hreached : ∀ j, (s.reachUp n).cqOf j = s.cqOf j := fun j => congrArg (fun m => Cells.get (fun _ => CqSt.init) m j) (s.reachUp_changes n .cq rfl)
  have hset : Frm (1 ||| 536870928 ||| 2147483648) s ((s.reachUp n).setCq q { s.cqOf q with pending := 0 }) := State.setCq_frm (hm.le (by decide)) (State.reachUp_frm (hm.le (by decide)) (Frm.refl _ s))
  have hmsix : ∀ j, (((s.reachUp n).setCq q { s.cqOf q with pending := 0 }).msix (field (s.reg (Reg.cq q 8)) 13 8)).cqOf j = ((s.reachUp n).setCq q { s.cqOf q with pending := 0 }).cqOf j := fun j =>
    congrArg (fun m => Cells.get (fun _ => CqSt.init) m j) (State.msix_frm (Sub.refl _) (Frm.refl _ _) .cq rfl)
  exact ⟨_, hexec, (hmsix _).trans (State.cqOf_setCq_self hreach), fun j hj => (hmsix _).trans ((State.cqOf_setCq_other hj).trans (hreached j)), Frm.keepsParts (State.msix_frm (hm.le (by decide)) hset) (by decide)⟩

theorem exec_engineHoldTimeout_runs (hdesc : s.descOf id = some d) : exec (.engineHoldTimeout id) s = .next (if engineOp d.op = true ∧ d.taken = false ∧ d.bad = 0 ∧ s.heldNow d = true
    then ((s.reachUp (d.since + (s.reg 0x400C).toNat * 1000000)).touchTxn d).retireBad d 0x0004 else s) := by
  change execEngineHoldTimeout id s = _
  unfold execEngineHoldTimeout
  rw [hdesc]
  dsimp only
  split <;> rfl

/-! ### What enables a ring (R287, R300) -/

theorem exec_sqEnable_runs {r : Fin 64} {v : W32} (hstage : 4 ≤ s.boot.stage) (hoff : (s.sqOf r).enabled = false) : exec (.sqEnable r v) s =
    .next (if sizeOk v && (s.cqOf (field v 15 10)).enabled then (((((s.setReg (Reg.sq r 8) (v &&& 0xFCF0)).setBit (Reg.sq r 8) 0).setSq r ⟨true, false, false, 0, 0⟩).endHandling (Reg.sq r 12) r).refuserNote)
      else (s.setReg (Reg.sq r 8) (v &&& 0xFCF0)).setBit (Reg.sq r 12) 3) := by
  change execSqEnable r v s = _
  unfold execSqEnable
  dsimp only
  rw [if_neg (by rw [hoff, State.ringsOpen, decide_eq_true hstage]; decide)]
  change (if (sizeOk v && (s.cqOf (field v 15 10)).enabled) = true then _ else _) = _
  split <;> rfl

theorem Reg.sq_ge (r off : Nat) : 0x4100 ≤ Reg.sq r off := by
  unfold Reg.sq
  omega

theorem Reg.sq_control_ne (r : Nat) : Reg.sq r 8 ≠ Reg.sq r 12 := by
  unfold Reg.sq
  omega

theorem sqEnable_enables (h : Good O Q s) {r : Fin 64} {v : W32} (hstage : 4 ≤ s.boot.stage) (hoff : (s.sqOf r).enabled = false) (hsize : sizeOk v = true) (hcq : (s.cqOf (field v 15 10)).enabled = true) : Runs (.sqEnable r v) s (fun u =>
    u.sqOf r = ⟨true, false, false, 0, 0⟩ ∧ u.reg (Reg.sq r 8) = (v &&& 0xFCF0) ||| 1 ∧ (∀ j, j ≠ r.val → u.sqOf j = s.sqOf j) ∧ s.keepsBut [.regs, .sq, .log, .pwr] u) := by
  have hexec := exec_sqEnable_runs (v := v) hstage hoff
  rw [if_pos (by rw [hsize, hcq]; rfl)] at hexec
  have hm := Sub.refl (16 ||| 1073741824 ||| 1099511627776 ||| 68719476736)
  have hset : Good O Q (s.setReg (Reg.sq r 8) (v &&& 0xFCF0)) := State.setReg_good h
  have hbit : Good O Q ((s.setReg (Reg.sq r 8) (v &&& 0xFCF0)).setBit (Reg.sq r 8) 0) := State.setBit_good hset
  have hnote : ∀ (w : State) (j : Nat), ((w.endHandling (Reg.sq r 12) r).refuserNote).sqOf j = w.sqOf j := fun w j =>
    congrArg (fun m => Cells.get (fun _ => SqSt.init) m j) ((State.refuserNote_changes _ .sq rfl).trans (State.endHandling_frm (Sub.refl _) (Frm.refl _ w) .sq rfl))
  refine ⟨_, hexec, (hnote _ _).trans (State.sqOf_setSq_self hbit), ?_, fun j hj => (hnote _ _).trans (State.sqOf_setSq_other hj), ?_⟩
  · rw [State.refuserNote_regAbove (Nat.le_trans (by decide) (Reg.sq_ge r 8)), State.endHandling_reg]
    exact (State.reg_setReg_self hset).trans (congrArg (fun w : W32 => w ||| 1) (State.reg_setReg_self h))
  · exact Frm.keepsParts (State.refuserNote_frm (hm.le (by decide)) (State.endHandling_frm (hm.le (by decide)) (State.setSq_frm (hm.le (by decide)) (State.setBit_frm (hm.le (by decide)) (State.setReg_frm (hm.le (by decide)) (Frm.refl _ s)))))) (by decide)

theorem sqEnable_refuses (h : Good O Q s) {r : Fin 64} {v : W32} (hstage : 4 ≤ s.boot.stage) (hoff : (s.sqOf r).enabled = false) (hbad : sizeOk v = false ∨ (s.cqOf (field v 15 10)).enabled = false) : Runs (.sqEnable r v) s (fun u =>
    u.bit (Reg.sq r 12) 3 = true ∧ u.reg (Reg.sq r 8) = v &&& 0xFCF0 ∧ s.keepsBut [.regs] u) := by
  have hexec := exec_sqEnable_runs (v := v) hstage hoff
  rw [if_neg (by rcases hbad with hno | hno <;> simp [hno])] at hexec
  have hm := Sub.refl 16
  exact ⟨_, hexec, State.setBit_bit (State.setReg_good h) (by decide), (State.setBit_reg (Reg.sq_control_ne r)).trans (State.reg_setReg_self h), Frm.keepsParts (State.setBit_frm hm (State.setReg_frm hm (Frm.refl _ s))) (by decide)⟩

theorem exec_enable_early (hstage : s.boot.stage < 4) (r : Fin 64) (v : W32) : exec (.sqEnable r v) s = .next s ∧ exec (.cqEnable r v) s = .next s := by
  have hclosed : s.ringsOpen = false := decide_eq_false (Nat.not_le.mpr hstage)
  constructor
  · change execSqEnable r v s = _
    unfold execSqEnable
    exact if_pos (by rw [hclosed, Bool.not_false, Bool.or_true])
  · change execCqEnable r v s = _
    unfold execCqEnable
    exact if_pos (by rw [hclosed, Bool.not_false, Bool.or_true])

theorem exec_cqEnable_enables {q : Fin 64} {v : W32} (hstage : 4 ≤ s.boot.stage) (hoff : (s.cqOf q).enabled = false) (hsize : sizeOk v = true) :
    exec (.cqEnable q v) s = .next ((((s.setReg (Reg.cq q 8) (v &&& 0xFFFFFFF0)).setBit (Reg.cq q 8) 0).setCq q ⟨true, 0, 0, 0, 0⟩).postAll) := by
  change execCqEnable q v s = _
  unfold execCqEnable
  exact (if_neg (by rw [hoff, State.ringsOpen, decide_eq_true hstage]; decide)).trans (if_pos hsize)

/-! ### A completion ring closes (R301) -/

theorem State.clrBit_bit {a b : Nat} (h : Good O Q s) (hb : b < 32) : (s.clrBit a b).bit a b = false := by
  rw [State.bit, State.clrBit, State.reg_setReg_self h, BitVec.getLsbD_and, BitVec.getLsbD_not, BitVec.getLsbD_ofNat, Nat.testBit_two_pow_self]
  simp [hb]

theorem exec_cqDisable_named {q : Fin 64} {r : Nat} (hr : r < 64) (hon : (s.cqOf q).enabled = true) (henabled : (s.sqOf r).enabled = true) (hnames : field (s.reg (Reg.sq r 8)) 15 10 = q.val) : exec (.cqDisable q) s = .next (s.bump 0x4020) := by
  have hany : (List.range 64).any (fun r => (s.sqOf r).enabled && decide (field (s.reg (Reg.sq r 8)) 15 10 = q.val)) = true :=
    List.any_eq_true.mpr ⟨r, List.mem_range.mpr hr, by rw [henabled, decide_eq_true hnames]; rfl⟩
  change execCqDisable q s = _
  unfold execCqDisable
  exact (if_neg (by rw [hon]; decide)).trans (if_pos hany)

theorem cqDisable_closes (h : Good O Q s) {q : Fin 64} (hon : (s.cqOf q).enabled = true) (hfree : ∀ r, r < 64 → (s.sqOf r).enabled = true → field (s.reg (Reg.sq r 8)) 15 10 ≠ q.val) : Runs (.cqDisable q) s (fun u =>
    u.cqOf q = { s.cqOf q with enabled := false, pending := 0 } ∧ u.bit (Reg.cq q 8) 0 = false ∧ s.keepsBut [.regs, .cq] u) := by
  have hnone : (List.range 64).any (fun r => (s.sqOf r).enabled && decide (field (s.reg (Reg.sq r 8)) 15 10 = q.val)) = false := by
    refine List.any_eq_false.mpr (fun r hr hboth => ?_)
    rw [Bool.and_eq_true, decide_eq_true_eq] at hboth
    exact hfree r (List.mem_range.mp hr) hboth.1 hboth.2
  have hexec : exec (.cqDisable q) s = .next ((s.clrBit (Reg.cq q 8) 0).updCq q (fun c => { c with enabled := false, pending := 0 })) := by
    change execCqDisable q s = _
    unfold execCqDisable
    exact (if_neg (by rw [hon]; decide)).trans (if_neg (by rw [hnone]; decide))
  have hm := Sub.refl (16 ||| 2147483648)
  exact ⟨_, hexec, State.cqOf_updCq_self (State.clrBit_good h), State.clrBit_bit h (by decide), Frm.keepsParts (State.updCq_frm (hm.le (by decide)) (State.clrBit_frm (hm.le (by decide)) (Frm.refl _ s))) (by decide)⟩

/-! ### No retirement enables a ring -/

section
variable {r status resS : Nat} {res : List W32} {b : StreamBuf}

/-- A ring that is off, in a state whose stores are sound. -/
def State.ringOff (O : OtpSt) (Q : List Instr) (r : Nat) (s : State) : Prop := Good O Q s ∧ (s.sqOf r).enabled = false

theorem State.ringOff_of_sq (h : State.ringOff O Q r s) (hgood : Good O Q t) (hsq : t.sq = s.sq) : State.ringOff O Q r t :=
  ⟨hgood, (congrArg (fun m => (Cells.get (fun _ => SqSt.init) m r).enabled) hsq).trans h.2⟩

theorem State.ringOff_drainCheck {k : Nat} (h : State.ringOff O Q r s) : State.ringOff O Q r (s.drainCheck k) := by
  refine ⟨State.drainCheck_good h.1, ?_⟩
  unfold State.drainCheck
  split
  · by_cases hr : r = k
    · subst hr
      rw [State.sqOf_updSq_self h.1]
      exact h.2
    · rw [State.sqOf_updSq_other hr]
      exact h.2
  · exact h.2

theorem State.ringOff_retire1 (h : State.ringOff O Q r s) : State.ringOff O Q r (s.retire1 d status resS res) := by
  have hdrop : State.ringOff O Q r (s.dropDesc d.id) := State.ringOff_of_sq h (good_mk h.1 rfl rfl rfl rfl) rfl
  have hdrain : State.ringOff O Q r ((s.dropDesc d.id).drainCheck d.ring) := State.ringOff_drainCheck hdrop
  exact State.ringOff_of_sq hdrain (State.retire1_good h.1) (State.deliver_frm (Sub.refl _) (Frm.refl _ ((s.dropDesc d.id).drainCheck d.ring)) .sq rfl)

theorem State.ringOff_sweepBad (h : State.ringOff O Q r s) : State.ringOff O Q r s.sweepBad := by
  refine List.foldlRecOn (motive := fun t : State => State.ringOff O Q r t) _ _ h (fun t ht e _ => ?_)
  dsimp only
  split
  · exact State.ringOff_retire1 ht
  · exact ht

theorem State.ringOff_retire (h : State.ringOff O Q r s) : State.ringOff O Q r (s.retire d status resS res) := State.ringOff_sweepBad (State.ringOff_retire1 h)

theorem State.ringOff_retireBad (h : State.ringOff O Q r s) : State.ringOff O Q r (s.retireBad d status) := State.ringOff_retire h

theorem State.ringOff_updStrm {x : Nat} {g : StreamSt → StreamSt} (h : State.ringOff O Q r s) : State.ringOff O Q r (s.updStrm x g) :=
  State.ringOff_of_sq h (State.updStrm_good h.1) (State.updStrm_frm (Sub.refl _) (Frm.refl _ s) .sq rfl)

theorem State.ringOff_retireEmpty {x : Nat} (h : State.ringOff O Q r s) : State.ringOff O Q r (s.retireEmpty x b status) := by
  unfold State.retireEmpty
  split
  · exact h
  · exact State.ringOff_retireBad (State.ringOff_updStrm h)

theorem State.ringOff_report {e : SyncEntry} {w : TwinSt} (h : State.ringOff O Q r s) : State.ringOff O Q r (({ s with twin := w } : State).report e) :=
  State.ringOff_of_sq h (State.report_good (good_mk h.1 rfl rfl rfl rfl)) (State.report_frm (Sub.refl _) (Frm.refl _ { s with twin := w }) .sq rfl)

theorem State.ringOff_retireBuf {x : Nat} (h : State.ringOff O Q r s) : State.ringOff O Q r (s.retireBuf x b) := by
  unfold State.retireBuf
  split
  · exact h
  · dsimp only
    refine State.ringOff_retire ?_
    split
    · exact State.ringOff_report (State.ringOff_updStrm h)
    · exact State.ringOff_updStrm h

theorem State.ringOff_abortDesc (h : State.ringOff O Q r s) : State.ringOff O Q r (s.abortDesc d) := by
  unfold State.abortDesc
  split
  · split
    · split
      · exact State.ringOff_retireEmpty h
      · exact State.ringOff_retireBuf h
    · exact h
  · split
    · exact h
    · exact State.ringOff_retireBad (State.ringOff_of_sq h (State.abandon_good h.1) (State.abandon_frm (Sub.refl _) (Frm.refl _ s) .sq rfl))

end

/-- A ring that is disabled stays so, whatever its descriptors in flight do. -/
theorem sqDisable_disables (h : Good O Q s) {r : Fin 64} (hon : (s.sqOf r).enabled = true) : Runs (.sqDisable r) s (fun u => (u.sqOf r).enabled = false) := by
  have hoff : State.ringOff O Q r ((s.clrBit (Reg.sq r 8) 0).updSq r (fun q => { q with enabled := false, drained := false })) :=
    ⟨State.updSq_good (State.clrBit_good h), congrArg SqSt.enabled (State.sqOf_updSq_self (State.clrBit_good h))⟩
  refine ⟨_, ?_, (State.ringOff_drainCheck (k := r.val) (List.foldlRecOn (motive := fun t : State => State.ringOff O Q r t) (((s.clrBit (Reg.sq r 8) 0).updSq r (fun q => { q with enabled := false, drained := false })).host.inflight.filter (fun d => d.ring == r.val))
    (fun t d => if (t.descOf d.id).isSome then t.abortDesc d else t) hoff (fun t ht d _ => ?_))).2⟩
  · change execSqDisable r s = _
    unfold execSqDisable
    exact if_pos hon
  · split
    · exact State.ringOff_abortDesc ht
    · exact ht

/-! ### A descriptor is aborted (R304) -/

theorem State.abortDesc_retires (hbufs : ∀ e ∈ s.strm, ∀ b ∈ e.2.bufs, b.id ≠ d.id ∨ b.done = true) (hwriting : s.writing d = false) : s.abortDesc d = (s.abandon d).retireBad d 0x0005 := by
  have hnone : s.strm.find? (fun e => e.2.bufs.any (fun b => b.id == d.id && !b.done)) = none := by
    refine List.find?_eq_none.mpr (fun e he hany => ?_)
    obtain ⟨b, hb, hboth⟩ := List.any_eq_true.mp hany
    rcases hbufs e he b hb with hid | hdone
    · simp [hid] at hboth
    · simp [hdone] at hboth
  unfold State.abortDesc
  rw [hnone]
  exact if_neg (by rw [hwriting]; decide)

theorem State.retireBad_gone (s : State) (d : Desc) (status : Nat) : (s.retireBad d status).descOf d.id = none := State.sweepBad_descOf State.retire1_gone

/-- A commit that is being sealed goes back, and the live bank stays as it is. -/
theorem State.unstage_sealing {f : FlipSt} (hflip : s.cfg.flip = some f) (hseal : f.sealing = true) (rollback : Bool) : (s.unstage rollback).cfg.flip = none ∧ (s.unstage rollback).cfg.live = s.cfg.live := by
  unfold State.unstage
  rw [hflip]
  dsimp only
  rw [if_pos hseal]
  exact ⟨rfl, rfl⟩

theorem State.touchTxn_cfg (s : State) (d : Desc) : (s.touchTxn d).cfg.flip = s.cfg.flip ∧ (s.touchTxn d).cfg.live = s.cfg.live := by
  unfold State.touchTxn
  split
  · split
    · exact ⟨rfl, rfl⟩
    · exact ⟨rfl, rfl⟩
  · exact ⟨rfl, rfl⟩

theorem State.capRelease_cfg (s : State) (n : Nat) : (s.capRelease n).cfg = s.cfg := State.capRelease_frm (Sub.refl _) (Frm.refl _ s) .cfg rfl

theorem State.dropJob_cfg (s : State) (d : Desc) : ((s.dropJob d.id).chainPast d).cfg = s.cfg := rfl

/-- An abandoned commit that is being sealed flips no more. -/
theorem State.abandon_sealing {f : FlipSt} (hflip : s.cfg.flip = some f) (hid : f.id = some d.id) (hseal : f.sealing = true) : (s.abandon d).cfg.flip = none ∧ (s.abandon d).cfg.live = s.cfg.live := by
  obtain ⟨htouch, hlive⟩ := s.touchTxn_cfg d
  unfold State.abandon
  extract_lets a _ b c mine back _
  have ha : a.cfg = (s.touchTxn d).cfg := State.capRelease_cfg (s.touchTxn d) d.id
  have hjob : b.cfg = (s.touchTxn d).cfg := ha
  have hc : c.cfg = (s.touchTxn d).cfg := (State.dropJob_cfg b d).trans hjob
  have hmine : (mine c.cfg.flip || mine c.cfg.waitReady) = true := by
    rw [hc, htouch, hflip]
    simp [mine, hid]
  have hback : back = c.unstage false := if_pos hmine
  obtain ⟨hnone, hkept⟩ := State.unstage_sealing (s := c) (by rw [hc, htouch, hflip]) hseal false
  have hend : back.cfg.flip = none ∧ back.cfg.live = s.cfg.live := by
    rw [hback]
    exact ⟨hnone, hkept.trans (by rw [hc, hlive])⟩
  split
  · exact hend
  · exact hend

end Sys2Proof.Machine
end

section
/-! PROOFS. The PCIe link: its reset, its training, its control, and the statement on rings (R284 to R292, R295, R300 to R304). -/

namespace Sys2Proof.Machine

open Sys2Proof

set_option Elab.async false

variable {O : OtpSt} {Q : List Instr} {s t u : State} {d : Desc} {id x : Nat}

/-! ### A conventional reset takes the host's buffers from the streams -/

theorem Cells.get_unlisted {α : Type} {d : Nat → α} {a : Nat} {m : Cells α} (h : a ∉ m.map (fun e => e.1)) : Cells.get d m a = d a := by
  induction m with
  | nil => rfl
  | cons e rest ih =>
    rw [List.map_cons, List.mem_cons, not_or] at h
    obtain ⟨hne, hrest⟩ := h
    exact (if_neg (fun heq => hne heq.symm)).trans (ih hrest)

theorem State.each_unpost (xs : List Nat) : ∀ {s : State}, Good O Q s → (∀ x, x ∉ xs → (s.strmOf x).bufs = []) → ∀ x, ((s.each xs (fun x t => t.updStrm x StreamSt.unpost)).strmOf x).bufs = [] := by
  induction xs with
  | nil => exact fun _ h x => h x List.not_mem_nil
  | cons y ys ih =>
    intro s hgood h
    refine ih (State.updStrm_good hgood) (fun x hx => ?_)
    by_cases hxy : x = y
    · subst hxy
      rw [State.strmOf_updStrm_self hgood]
      rfl
    · rw [State.strmOf_updStrm_other hxy]
      exact h x (fun hmem => (List.mem_cons.mp hmem).elim hxy hx)

/-- The host interface without its rings, before the streams take their buffers back. -/
def State.unringed (s : State) : State :=
  { s with host := { s.host with control := controlInit, gen := 0, width := 0, aer := 0, fetching := false, again := false, turn := 0, waiting := [], inflight := s.host.inflight.filter (fun d => decide (d.ring = 64)) } }

/-- The streams and the captures have no descriptors of the host any more. -/
def State.unposted (s : State) : State :=
  (s.unringed.each (s.strm.map (fun e => e.1)) (fun x t => t.updStrm x StreamSt.unpost)).each
    ((s.unringed.each (s.strm.map (fun e => e.1)) (fun x t => t.updStrm x StreamSt.unpost)).cap.map (fun e => e.1)) (fun u t => t.updCap u CapSt.unpost)

theorem State.unposted_changes (s : State) : Frm (32768 ||| 2097152) s.unringed s.unposted := by
  have hm := Sub.refl (32768 ||| 2097152)
  unfold State.unposted
  exact State.each_frm (State.each_frm (Frm.refl _ _) (fun _ _ => State.updStrm_frm (hm.le (by decide)))) (fun _ _ => State.updCap_frm (hm.le (by decide)))

theorem State.unposted_bufs (h : Good O Q s) (x : Nat) : (s.unposted.strmOf x).bufs = [] := by
  have hcap : s.unposted.strm = (s.unringed.each (s.strm.map (fun e => e.1)) (fun x t => t.updStrm x StreamSt.unpost)).strm :=
    State.each_frm (Frm.refl 2097152 _) (fun _ _ => State.updCap_frm (Sub.refl _)) .strm rfl
  have hof : s.unposted.strmOf x = (s.unringed.each (s.strm.map (fun e => e.1)) (fun x t => t.updStrm x StreamSt.unpost)).strmOf x := congrArg (fun m => Cells.get (fun _ => StreamSt.init) m x) hcap
  rw [hof]
  have hgood : Good O Q s.unringed := good_mk h rfl rfl rfl rfl
  refine State.each_unpost _ hgood (fun y hy => ?_) x
  exact congrArg StreamSt.bufs (Cells.get_unlisted (d := fun _ => StreamSt.init) hy)

/-- What the rings' loss leaves: nothing of the host's is held. -/
theorem State.dropRings_leaves (h : Good O Q s) : s.dropRings.host = s.unringed.host ∧ s.dropRings.comp.jobs = [] ∧ s.dropRings.mantis.jobs = [] ∧ (∀ x, (s.dropRings.strmOf x).bufs = [])
    ∧ s.dropRings.sq = s.sq ∧ s.dropRings.cq = s.cq ∧ s.dropRings.cfg = s.cfg ∧ s.dropRings.regs = s.regs := by
  have hframe := State.dropRings_frm (Sub.refl _) (Frm.refl _ s)
  have hhost : s.unposted.host = s.unringed.host := s.unposted_changes .host rfl
  have hbufs : ∀ x, (s.dropRings.strmOf x).bufs = (s.unposted.strmOf x).bufs := fun _ => rfl
  exact ⟨hhost, rfl, rfl, fun x => (hbufs x).trans (State.unposted_bufs h x), hframe .sq rfl, hframe .cq rfl, hframe .cfg rfl, hframe .regs rfl⟩

/-! ### Streams without buffers end -/

/-- A stream that has no buffers ends with nothing retired, where nothing goes to the host. -/
theorem State.endStream_bare (hdelivers : s.delivers = false) (hbufs : (s.strmOf x).bufs = []) : s.endStream x = s.setStrm x StreamSt.init := by
  unfold State.endStream
  dsimp only
  rw [if_neg (by rw [hdelivers]; decide), hbufs]
  change s.setStrm x { StreamSt.init with bufs := (s.strmOf x).bufs } = _
  rw [hbufs]
  rfl

/-- Streams that have no buffers, in a state that sends nothing to the host. -/
def State.bare (O : OtpSt) (Q : List Instr) (s t : State) : Prop := Good O Q t ∧ Frm 32768 s t ∧ ∀ x, (t.strmOf x).bufs = []

theorem State.delivers_off (h : s.host.control.busMaster = false) : s.delivers = false := by
  rw [State.delivers, State.canDma, h, Bool.false_and, Bool.false_and, Bool.and_false]

theorem State.endStreams_bare (h : Good O Q s) (hbus : s.host.control.busMaster = false) (hbufs : ∀ x, (s.strmOf x).bufs = []) : Frm 32768 s s.endStreams := by
  have hstart : State.bare O Q s s := ⟨h, Frm.refl _ s, hbufs⟩
  have hall : State.bare O Q s s.endStreams := by
    refine List.foldlRecOn (motive := State.bare O Q s) _ _ hstart (fun t ht x _ => ?_)
    obtain ⟨hgood, hframe, hempty⟩ := ht
    have hoff : t.delivers = false := State.delivers_off ((congrArg (fun v : HostSt => v.control.busMaster) (hframe .host rfl)).trans hbus)
    unfold State.doIf
    dsimp only
    split
    · rw [State.endStream_bare hoff (hempty x)]
      refine ⟨State.setStrm_good hgood, State.setStrm_frm (Sub.refl _) hframe, fun y => ?_⟩
      by_cases hy : y = x
      · subst hy
        rw [State.strmOf_setStrm_self hgood]
        rfl
      · rw [State.strmOf_setStrm_other hy]
        exact hempty y
    · exact ⟨hgood, hframe, hempty⟩
  exact hall.2.1

/-- Without jobs the lanes go to packets alone. -/
theorem State.assignAll_packets (hjobs : s.comp.jobs = []) : Frm (32768 ||| 8388608) s s.assignAll := by
  have hm := Sub.refl (32768 ||| 8388608)
  have hall : Frm (32768 ||| 8388608) s s.assignAll ∧ s.assignAll.comp.jobs = [] := by
    refine State.assignAll_keeps (P := fun t => Frm (32768 ||| 8388608) s t ∧ t.comp.jobs = []) (fun t n x p ht => ?_) (fun t d j n ht _ hnext => ?_) ⟨Frm.refl _ s, hjobs⟩
    · exact ⟨State.updStrm_frm (hm.le (by decide)) (State.setLane_frm (hm.le (by decide)) ht.1), ht.2⟩
    · have hmem := (State.nextSeg_job hnext).1
      rw [ht.2] at hmem
      exact absurd hmem List.not_mem_nil
  exact hall.1

/-! ### The link's reset, training and control (R300 to R302) -/

/-- The link is down, its rings and transaction are gone. -/
def State.pcieDown (s : State) : State :=
  { s.freeNext.hostifReset.dropRings with pads := { s.freeNext.hostifReset.dropRings.pads with pcieUp := false, perst := s.pads.perst || s.freeW.getLsbD 0 },
                                          cfg := { s.freeNext.hostifReset.dropRings.cfg with txn := none } }

theorem exec_pcieConventionalReset (s : State) : exec .pcieConventionalReset s = .next s.pcieDown.endStreams.assignAll := rfl

theorem State.hostifReset_reg (s : State) {a : Nat} (hlo : 0x4000 ≤ a) (hhi : a < 0x8000) : Cells.get resetWord s.hostifReset.regs a = resetWord a := by
  refine (Cells.get_filter (p := fun k => !decide (0x4000 ≤ k ∧ k < 0x8000)) s.regs).trans (if_neg ?_)
  rw [decide_eq_true ⟨hlo, hhi⟩]
  decide

theorem pcieConventionalReset_resets (h : Good O Q s) : Runs .pcieConventionalReset s (fun u => u.sq = [] ∧ u.cq = [] ∧ u.host.control = controlInit ∧ u.host.waiting = [] ∧ (∀ d ∈ u.host.inflight, d.ring = 64) ∧ u.cfg.txn = none
    ∧ u.cfg.live = s.cfg.live ∧ u.pads.pcieUp = false ∧ u.mantis.jobs = [] ∧ (∀ a, 0x4000 ≤ a → a < 0x8000 → u.reg a = resetWord a)) := by
  have hm := Sub.refl (32768 ||| 8388608)
  have hreset : Good O Q s.freeNext.hostifReset := State.hostifReset_good (good_mk h rfl rfl rfl rfl)
  obtain ⟨hhost, hjobs, hcopies, hbufs, hsq, hcq, hcfg, hregs⟩ := State.dropRings_leaves hreset
  have hdown : Good O Q s.pcieDown := good_mk (State.dropRings_good hreset) rfl rfl rfl rfl
  have hhostDown : s.pcieDown.host = s.freeNext.hostifReset.unringed.host := hhost
  have hends : Frm 32768 s.pcieDown s.pcieDown.endStreams := State.endStreams_bare hdown (congrArg (fun v : HostSt => v.control.busMaster) hhostDown) hbufs
  have hlanes : Frm (32768 ||| 8388608) s.pcieDown.endStreams s.pcieDown.endStreams.assignAll := State.assignAll_packets ((congrArg CompSt.jobs (hends .comp rfl)).trans hjobs)
  have hframe : Frm (32768 ||| 8388608) s.pcieDown s.pcieDown.endStreams.assignAll := (hends.mono (hm.le (by decide))).trans hlanes
  have hhostEnd := (hframe .host rfl : s.pcieDown.endStreams.assignAll.host = s.pcieDown.host).trans hhostDown
  have hcfgEnd : s.pcieDown.endStreams.assignAll.cfg = s.pcieDown.cfg := hframe .cfg rfl
  refine ⟨_, exec_pcieConventionalReset s, (hframe .sq rfl).trans hsq, (hframe .cq rfl).trans hcq, congrArg HostSt.control hhostEnd, congrArg HostSt.waiting hhostEnd, fun d hd => ?_, congrArg CfgSt.txn hcfgEnd, ?_,
    congrArg PadSt.pcieUp (hframe .pads rfl), (congrArg MantisSt.jobs (hframe .mantis rfl)).trans hcopies, fun a hlo hhi => ?_⟩
  · have hinflight := congrArg HostSt.inflight hhostEnd
    rw [hinflight] at hd
    exact of_decide_eq_true (List.mem_filter.mp hd).2
  · have hlive : s.pcieDown.cfg.live = s.freeNext.hostifReset.dropRings.cfg.live := rfl
    exact (congrArg CfgSt.live hcfgEnd).trans (hlive.trans (congrArg CfgSt.live hcfg))
  · have hregsEnd : s.pcieDown.endStreams.assignAll.regs = s.freeNext.hostifReset.regs := (hframe .regs rfl).trans hregs
    exact (congrArg (fun m => Cells.get resetWord m a) hregsEnd).trans (s.freeNext.hostifReset_reg hlo hhi)

theorem exec_pcieLinkUp_trains (hstage : 4 ≤ s.boot.stage) (hperst : s.pads.perst = false) (hcommit : s.pwr.committed = false) : exec .pcieLinkUp s = .next s.pcieTrained.resumeDma := by
  change execPcieLinkUp s = _
  unfold execPcieLinkUp
  exact if_pos ⟨hstage, hperst, hcommit⟩

/-- A trained link has a generation and a width of those it can have. -/
theorem State.pcieTrained_shape (s : State) : 1 ≤ s.pcieTrained.host.gen ∧ s.pcieTrained.host.gen ≤ 4 ∧ s.pcieTrained.host.width ∈ [1, 2, 4] := by
  have hgen : s.pcieTrained.host.gen = 1 + (Config.freeWord s.freeCtr).toNat % 4 := rfl
  have hwidth : s.pcieTrained.host.width = 2 ^ ((Config.freeWord s.freeCtr).toNat / 4 % 3) := rfl
  have hthree : (Config.freeWord s.freeCtr).toNat / 4 % 3 < 3 := Nat.mod_lt _ (by decide)
  refine ⟨by omega, by omega, ?_⟩
  rw [hwidth]
  generalize (Config.freeWord s.freeCtr).toNat / 4 % 3 = k at hthree
  interval_cases k <;> decide

theorem State.pcieTrained_keeps (s : State) : s.keepsBut [.pads, .host, .freeCtr] s.pcieTrained := Frm.keepsParts (State.pcieTrained_frm (Sub.refl _) (Frm.refl _ s)) (by decide)

theorem exec_busMasterEnable_up {c : PcieControl} (hup : s.pads.pcieUp = true) (hstage : 5 ≤ s.boot.stage) : exec (.busMasterEnable c) s =
    .next (if c.busMaster then ({ s with host := { s.host with control := c } } : State).resumeDma else { s with host := { s.host with control := c } }) := by
  change execBusMasterEnable c s = _
  unfold execBusMasterEnable
  exact if_neg (not_or.mpr ⟨by rw [hup]; decide, Nat.not_lt.mpr hstage⟩)

theorem exec_busMasterEnable_none {c : PcieControl} (h : s.pads.pcieUp = false ∨ s.boot.stage < 5) : exec (.busMasterEnable c) s = .next s := by
  change execBusMasterEnable c s = _
  unfold execBusMasterEnable
  exact if_pos h

/-- An MSI-X message that may not go out stays pending. -/
theorem State.msix_masked (h : s.host.control.msixEnable = false ∨ s.host.control.msixMask = true) (v : Nat) : s.msix v = s.setBit (0x6800 + 4 * (v / 32)) (v % 32) := by
  unfold State.msix
  refine if_neg ?_
  rcases h with hoff | hmask
  · simp [hoff]
  · simp [hmask]

theorem exec_nop_retires (hd : s.serves id 0 d) : exec (.nop id) s = .next (s.retireOk d []) := by
  change execNop id s = _
  unfold execNop
  exact State.serve_served hd

theorem exec_fence_retires (hd : s.serves id 1 d) : exec (.fence id) s = .next (s.retireOk d []) := by
  change execFence id s = _
  unfold execFence
  exact State.serve_served hd

/-- Settles O46: doorbells, fetches, rings, moderation, holding and the link, part by part (R284 to R292, R295, R300 to R304). -/
theorem ringsAreFetchedAndServed : Obligations.RingsAreFetchedAndServed := by
  unfold Obligations.RingsAreFetchedAndServed
  intro s hwf
  have h := good_of_wf hwf
  obtain ⟨hgenLow, hgenHigh, hwidth⟩ := s.pcieTrained_shape
  refine ⟨fun ws hnone => ?_, fun ws n hn hidle hsome => nudge_starts h hn hidle hsome, fun ws n hn hbusy hsome => nudge_asksAgain h hn hbusy hsome, fun hpoll => dbPoll_polls hpoll _ rfl, exec_dbPoll_off,
    fun ok => exec_doorbellFetch_none, doorbellFetch_fails h, doorbellFetch_takes h, fun r hdma hmode hroom hturn hinj => ⟨fun ok => descriptorFetch_fails h hdma hmode hroom hturn hinj, fun hread hfatal hgood => descriptorFetch_enlists h hdma hmode hroom hturn hinj hread hfatal hgood⟩,
    fun q => cqModerationTimer_fires h, fun id d hdesc hop htaken hbad => ⟨fun hheld => ?_, fun hheld => ?_⟩, fun d => State.fenceOff_waits, fun d => State.heldNow_none, fun d => State.turnOf_after, fun d => State.firstCheck_refuses,
    fun r v => sqEnable_enables h, fun r v => sqEnable_refuses h, exec_enable_early, fun r => sqDisable_disables h, fun d hbufs hwriting => ⟨State.abortDesc_retires hbufs hwriting, ?_, fun f => State.abandon_sealing⟩,
    fun q v => exec_cqEnable_enables, fun q => cqDisable_closes h, fun q r => exec_cqDisable_named, fun id d => exec_nop_retires, fun id d => exec_fence_retires, pcieConventionalReset_resets h,
    exec_pcieLinkUp_trains, rfl, hgenLow, hgenHigh, hwidth, s.pcieTrained_keeps, fun c hup hstage hoff => ?_, fun c => exec_busMasterEnable_none, fun c hup hstage hon => ?_, fun v hmasked => State.msix_masked hmasked v⟩
  · rw [exec_nudge, hnone]
    rfl
  · rw [exec_engineHoldTimeout_runs hdesc, if_pos ⟨hop, htaken, hbad, hheld⟩]
  · rw [exec_engineHoldTimeout_runs hdesc, if_neg (fun hall => by rw [hheld] at hall; exact absurd hall.2.2.2 Bool.false_ne_true)]
  · rw [State.abortDesc_retires hbufs hwriting]
    exact State.retireBad_gone _ d _
  · rw [exec_busMasterEnable_up hup hstage, if_neg (by rw [hoff]; decide)]
  · rw [exec_busMasterEnable_up hup hstage, if_pos hon]

end Sys2Proof.Machine
end
